-- ==== Sys2Proof/Word.lean ====
section
/-! DEFINITION. The word types of the KY-4840 and the plainest arithmetic on them.
Register contents that software reads as a whole word are bit vectors; a register FIELD's value is held as a
natural number below 2 to the power of its width (Machine/RegFile.lean cuts it to that width at every read and write). -/

namespace Sys2Proof

/-- A byte of memory. -/
abbrev Byte := BitVec 8
/-- A register word, and a Zhofa instruction word (R9, R426). -/
abbrev W32 := BitVec 32
/-- A general register of an engine: a 40-bit pattern (R419). -/
abbrev W40 := BitVec 40
/-- A 64-bit register or time value (R10, R22). -/
abbrev W64 := BitVec 64

/-- A table with natural-number keys, kept in strictly rising key order by its operations (Machine/Tab.lean). -/
abbrev Tab (α : Type) := List (Nat × α)

/-- The access codes of register fields (R6). `rsv` fields are not listed: every bit that no field covers is `rsv`. -/
inductive Acc where
  | rd | rw | w1c | w1s | wo
deriving DecidableEq, Repr

/-- One field of a register, as the register tables of the spec describe it (R6 to R10, R61).
`addr` is the BAR0 byte offset of the register (of its low word where it is wider than 32 bits), `lo` the place of the
field's lowest bit, `reset` its value after POR_N, `keep` whether it survives WARM_N (R7), `sext` whether its high word
repeats the top bit (R61); a value outside `vmin` to `vmax` is a reserved value (R8). -/
structure Fld where
  addr  : Nat
  lo    : Nat
  width : Nat
  acc   : Acc
  reset : Nat := 0
  keep  : Bool := false
  sext  : Bool := false
  vmin  : Nat := 0
  vmax  : Nat := 2 ^ 64
deriving DecidableEq, Repr

/-- The key of a field in the register file: the BAR0 bit number of its lowest bit. -/
def Fld.key (f : Fld) : Nat := f.addr * 32 + f.lo

/-- A family of like fields: the builder, and for each of its two indices the count and the stride in bytes
(the wider stride first; a missing index has count 1). -/
structure FldFam where
  fld : Nat → Nat → Fld
  n1 : Nat
  s1 : Nat
  n2 : Nat
  s2 : Nat

end Sys2Proof
end

