-- ==== Sys2Proof/Syntax.lean ====
section
/-! DEFINITION. The commands that the KY-4840 takes (one constructor of `Instr` for each row of spec/opcode_table.json)
and the data they carry. An event row is the outside world's statement that its instant has come; its operands are what
the outside world alone knows (bytes received, pin levels, phases, outcomes). An operand with a default tells an upset of the hardware or a
phase of 250 ps; its default is none, or phase 0. -/

namespace Sys2Proof

/-- Who writes or reads a register: one of the two host ports that reach BAR0 (R546), a Trotter engine through its BAR0
mirror (R391), or the Bridle (R475). -/
inductive Writer where
  | pcie
  | qspi
  | engine (e : Fin 48)
  | bridle
deriving DecidableEq, Repr

/-- The requester of an Orchard access (R473). -/
inductive OrchAgent where
  | engine (e : Fin 48)
  | team (t : Fin 12)
  | host
  | hostB
  | mover
  | bridle
  | can (c : Fin 8)
  | sampler
deriving DecidableEq, Repr

/-- One access to an Orchard word: who makes it, the byte offset in Orchard, the bytes written or the number read. -/
structure OrchAccess where
  agent : OrchAgent
  addr  : Nat
  len   : Nat
  write : Option (List Byte)
deriving DecidableEq, Repr

/-- The error that a read finds in a memory word (R467). -/
inductive Ecc where
  | ce
  | ue
deriving DecidableEq, Repr

/-- A mapping rule: the 32-byte record of R145, decoded. -/
structure MapRule where
  srcKind    : Nat := 0
  src2Kind   : Nat := 4
  op         : Nat := 0
  chain      : Bool := false
  wrap       : Bool := false
  wait       : Nat := 0
  srcRegion  : Nat := 0
  srcItem    : Nat := 0
  src2Region : Nat := 0
  src2Item   : Nat := 0
  dstRegion  : Nat := 0
  dstItem    : Nat := 0
  count      : Nat := 1
  deadline   : Nat := 0
  k          : Int := 0
  /-- A field of the record holds a reserved value or a non-zero reserved bit. -/
  reserved   : Bool := false
deriving DecidableEq, Repr

/-- A Stirrup instruction (R509). `n` of SEND and TAKE is N − 1. -/
inductive StirInstr where
  | idle
  | send (at' : Bool) (lane : Fin 4) (n : Fin 32)
  | take (at' : Bool) (lane : Fin 4) (n : Fin 32)
  | drive (at' : Bool) (lane : Fin 4) (value : Byte)
  | enable (lane : Fin 4) (all : Bool) (mask : Byte)
  | time (mode : Fin 4) (imm : Fin 512)
  | wait (mode : Fin 4) (arg : Fin 32)
  | copy (dst src : Fin 8)
  | close (mark : Bool)
  | note
deriving DecidableEq, Repr

/-- What a network port receives, by its start delimiter (R242): a whole frame; the first, a middle or the last fragment of a
preempted frame; a verify or a response mPacket; an unknown delimiter. -/
inductive MPacket where
  | frame
  | first
  | middle
  | last
  | verify
  | response
  | unknown
  | lpi (on : Bool)
deriving DecidableEq, Repr

/-- A personality instance: the 16-byte record of R530, decoded. `engines` holds bit i for the engine at position i. -/
structure Inst where
  pers    : Nat := 1
  role    : Nat := 0
  team    : Nat := 0
  engines : Nat := 0
  gait    : Nat := 0
  sync    : Bool := false
  tb      : Nat := 0
  ports   : Nat := 0
  /-- A field of the record holds a reserved value. -/
  reserved : Bool := false
deriving DecidableEq, Repr

/-- A CAN frame (R330, R339): FMT 0 Classical, 1 FD, 2 XL; FLAGS of R339; its data bytes. -/
structure CanFrame where
  fmt   : Fin 3 := 0
  ide   : Bool := false
  id    : Fin 0x20000000 := 0
  flags : Fin 32 := 0
  sdt   : Byte := 0
  af    : BitVec 32 := 0
  vcid  : Byte := 0
  len   : Nat := 0
  data  : List Byte := []
deriving DecidableEq, Repr

/-- How the transmission of a CAN frame ends (R343). -/
inductive CanEnd where
  | ok
  | lost
  | error
deriving DecidableEq, Repr

/-- A sleep message (R639, R641): TYPE, ROUND, NODE or TO, FROM (0 in network 0), CAUSE_ID or CAUSE, FLAGS, and DELAY of a COMMIT frame. -/
structure SleepMsg where
  type  : Byte := 0
  round : Byte := 0
  dest    : BitVec 16 := 0
  src   : BitVec 16 := 0
  cause : BitVec 16 := 0
  flags : Byte := 0
  delay : BitVec 16 := 0
deriving DecidableEq, Repr

/-- A command packet that the Bridle takes (R557): the command port it came on (R546), the network port or the lane, and the
station, the TCI of the request's tag, and whether the star itself sent it rather than relayed it; then its header (bytes 8 to 11 in
`rsv`, the parameter length in `plen`) and the parameter bytes received. The opcode is the row's. -/
structure CmdReq where
  port    : Fin 4 := 0
  via     : Fin 26 := 0
  station : BitVec 48 := 0
  tci     : BitVec 16 := 0
  direct  : Bool := true
  target  : BitVec 16 := 0
  flags   : Byte := 1
  sq      : Byte := 0
  rsv     : BitVec 32 := 0
  plen    : BitVec 16 := 0
  params  : List Byte := []
deriving DecidableEq, Repr

/-- The commands and events of the KY-4840, one constructor for each row of the table. Each docstring gives the row's name and rule. -/
inductive Instr where
  /-- STRIDE_EDGE (R27): The stride time base passes E(n) and the device runs the ordered edge sequence of sampling, flip and engine entry. -/
  | strideEdge (pins : BitVec 96)
  /-- STRIDE_FENCE (R29): The fence of a gait cuts off stride work, closes WORKING buffers and judges items as in time or late. -/
  | strideFence
  /-- FINISHER (R134): The finisher completes the WORKING buffer of every region of the gait before the edge. -/
  | finisher (g : Fin 4)
  /-- OUTPUT_LATCH (R48): An output latch drives its pins with the value read at the fence at the edge plus the block's latch phase. -/
  | outputLatch (b : Fin 4)
  /-- RUN_START (R37): A write of 1 to STRIDE_CTRL.RUN is accepted or refused and schedules the first edge. -/
  | runStart (w : Writer)
  /-- RUN_STOP (R40): A write of 0 to STRIDE_CTRL.RUN makes the next base edge the last. -/
  | runStop (w : Writer)
  /-- STRIDE_CLR_STATS (R62): A write of CLR_STATS clears the skip, slack and overrun counters. -/
  | strideClrStats (w : Writer)
  /-- LATCH_PHASE_WRITE (R49): A write to LATCH_PHASE is checked against the guard and applies from the next fence. -/
  | latchPhaseWrite (w : Writer) (b : Fin 4) (v : W32)
  /-- LUNGE_UPDATE (R55): A write of UPDATE latches target, acceleration and step for the next gait edge. -/
  | lungeUpdate (w : Writer) (n : Fin 4)
  /-- LUNGE_ENABLE (R56): A write of 1 to EN loads the position set and zero velocity at the next gait edge. -/
  | lungeEnable (w : Writer) (n : Fin 4)
  /-- LUNGE_DISABLE (R57): A write of 0 to EN holds the position and zeroes velocity from the next gait edge. -/
  | lungeDisable (w : Writer) (n : Fin 4)
  /-- REGISTER_WRITE (R6): A write to a register without behaviour of its own sets, clears or drops fields under the access codes and lock rules. -/
  | registerWrite (w : Writer) (off size : Nat) (v : W64)
  /-- LOW_WORD_READ (R10): A read of the low word of a wide register latches the high word into a shadow for the same port. -/
  | lowWordRead (w : Writer) (off size : Nat)
  /-- LOAD_INCR (R79): A write of LOAD_INCR requests that TB_INCR apply from the next tick. -/
  | loadIncr (w : Writer) (n : Fin 8)
  /-- INCR_APPLY (R79): At the next tick the time base adopts the increment then in the register. -/
  | incrApply (n : Fin 8)
  /-- STEP (R80): A write of STEP requests an offset step of the time base at the next tick, merging with a pending one. -/
  | step (w : Writer) (n : Fin 8)
  /-- STEP_APPLY (R80): At the next tick the step is applied or refused, moving edges, fences, gates, launches and triggers. -/
  | stepApply (n : Fin 8) (pins : BitVec 96)
  /-- SET (R76): A write of SET requests an absolute load of the time base, accepted only while EN is 0. -/
  | set (w : Writer) (n : Fin 8)
  /-- SET_LOAD (R76): At the next tick a disabled time base takes the value of TB_SET. -/
  | setLoad (n : Fin 8)
  /-- TB_ENABLE (R77): A write of 1 to EN starts the time base counting from the next tick. -/
  | tbEnable (w : Writer) (n : Fin 8)
  /-- TB_DISABLE (R77): A write of 0 to EN stops the time base unless the stride follows it. -/
  | tbDisable (w : Writer) (n : Fin 8)
  /-- SNAP (R113): A write of SNAP copies all eight time bases in one tick into TB_SNAP. -/
  | snap (w : Writer)
  /-- TXTS_POP (R115): A read of the TXTS META word pops the head of the port's transmit timestamp FIFO. -/
  | txtsPop (w : Writer) (p : Fin 26)
  /-- CAP_META_READ (R98): A read of CAP_META pops the head record of a capture FIFO. -/
  | capMetaRead (w : Writer) (c : Fin 8)
  /-- CAPTURE_EDGE (R97): A selected edge on a capture pin is stamped and stored in the capture FIFO or dropped. -/
  | captureEdge (c : Fin 8) (rising : Bool) (phase : Fin 8)
  /-- TRG_ENABLE (R101): A write of EN to a trigger arms it or is refused for a bad width. -/
  | trgEnable (w : Writer) (t : Fin 8)
  /-- TRIGGER_ASSERT (R100): The time base reaches a trigger instant and the trigger asserts its pin. -/
  | triggerAssert (t : Fin 8)
  /-- TRIGGER_DEASSERT (R100): The pulse width expires and the trigger releases its pin, disarming a one-shot. -/
  | triggerDeassert (t : Fin 8)
  /-- RTC_LOAD (R105): A write of LOAD requests the calendar seconds be set from RTC_SET_SEC. -/
  | rtcLoad (w : Writer)
  /-- SYNC_FROM_TB (R105): A write of SYNC_FROM_TB requests the calendar seconds be loaded from a time base. -/
  | syncFromTb (w : Writer)
  /-- RTC_LOAD_DONE (R105): At the 32.768 kHz edge the requested calendar load happens and BUSY clears. -/
  | rtcLoadDone
  /-- VBAT_LOSS (R103): VBAT or the RTC oscillator is lost and the calendar becomes invalid. -/
  | vbatLoss (osc : Bool)
  /-- LAUNCH_TIME_REACHED (R95): A launch-time frame at the head of its queue is sent, sent late or discarded. -/
  | launchTimeReached (p : Fin 26)
  /-- IMG_COMMIT (R132): A host write to IMG_COMMIT commits an item or all items with an age, or is refused. -/
  | imgCommit (w : Writer) (r : Fin 256) (v : W32)
  /-- ENG_COMMIT (R131): An engine store to ENG_COMMIT commits items of a region with an age. -/
  | engCommit (e : Fin 48) (v : W32)
  /-- MAPPING_RULE_RUN (R144): An EDGE or CHAIN mapping rule runs when its phase, WAIT mask or DEADLINE allows and computes its result. -/
  | mappingRuleRun (n : Fin 4096)
  /-- MAPPING_CELL_DELIVERY (R143): Mapping cells reaching the destination port are written and committed into the WORKING buffer or dropped. -/
  | mappingCellDelivery (dst : Fin 13)
  /-- ORCHARD_ACCESS (R473): A port access to an Orchard word is checked for ownership, power and region rules and performed or dropped. -/
  | orchardAccess (a : OrchAccess) (other : Option OrchAccess) (upset : Option Ecc)
  /-- ENGINE_MEMORY_WRITE (R392): A BAR2 write to an engine's instruction RAM or scratchpad is performed or dropped. -/
  | engineMemoryWrite (w : Writer) (e : Fin 48) (off : Nat) (bytes : List Byte)
  /-- SCRUB (R469): The scrub interval expires and the scrubber reads one word of the bank and writes back a correction. -/
  | scrub (n : Fin 64) (upset : Option Ecc)
  /-- BANK_HANDOVER (R476): A write to BANK_HANDOVER changes or schedules a new bank owner, or is refused. -/
  | bankHandover (w : Writer) (n : Fin 64) (v : W32)
  /-- BANK_POWER (R470): A write to BANK_POWER requests a new bank power state. -/
  | bankPower (w : Writer) (n : Fin 64) (v : W32)
  /-- BANK_POWER_DONE (R470): A bank power transition completes and moves on to the newest request. -/
  | bankPowerDone (n : Fin 64)
  /-- BANK_RETENTION_ENTER (R632): A configured retention window starts and the bank enters RETENTION. -/
  | bankRetentionEnter (n : Fin 64)
  /-- BANK_RETENTION_EXIT (R632): Before the window end the bank begins its exit so it is ON at END. -/
  | bankRetentionExit (n : Fin 64)
  /-- ORCH_CLR_CNT (R494): A write of CLR_CNT clears every corrected-error and fault counter. -/
  | orchClrCnt (w : Writer)
  /-- FRAME_RECEIVE (R224): A frame arrives at a network port and is checked, classified, stamped and written into the fabric. -/
  | frameReceive (p : Fin 26) (kind : MPacket) (bytes : List Byte) (err : Bool) (phase : Fin 8)
  /-- FRAME_START_EGRESS (R176): An output selects a frame whose cells are available and starts it cut-through or store-and-forward. -/
  | frameStartEgress (j : Fin 40) (upset : Option (Nat × Ecc) := none)
  /-- UNDERRUN (R178): A started frame lacks its next cell or its flow sequence gap lasts 160 slots and is ended with an inverted FCS. -/
  | underrun (j : Fin 40) (sent : Nat)
  /-- FRAME_TRANSMIT (R233): The MAC can start a frame and transmits the highest eligible queue head; `phase`: the phase of a tick at which its first
  bit leaves (R78). -/
  | frameTransmit (p : Fin 26) (phase : Fin 8 := 0)
  /-- F38_FRAME_DELIVERY (R187): A frame reaching F38 goes to the BRIDLE, CAPTURE or HOST channel of the switch mover. -/
  | f38FrameDelivery
  /-- SWM_HTX_TAIL (R188): A write of SWM_HTX_TAIL posts host transmit entries to the mover. -/
  | swmHtxTail (w : Writer) (v : W32)
  /-- HOST_TX_DONE (R188): The mover finishes a host transmit entry with SENT, REJECTED or BANK_FAULT. -/
  | hostTxDone
  /-- SWM_RING_STOP (R190): A write of 0 to a ring COUNT stops the ring and returns its indices to 0. -/
  | swmRingStop (w : Writer) (rx : Bool)
  /-- SW_CLR_CNT (R203): A write of SW_CTRL.CLR_CNT clears the switch counters and slice high-water marks. -/
  | swClrCnt (w : Writer)
  /-- PORT_ENABLE (R216): A write of 1 to PORT_CTRL.EN starts link bring-up. -/
  | portEnable (w : Writer) (p : Fin 26)
  /-- LINK_UP (R216): Link bring-up completes and LINK becomes 1. -/
  | linkUp (p : Fin 26) (speed : Fin 4) (an : Bool)
  /-- LINK_LOSS (R218): A port loses signal, sync or link and its frames stop, drop or get BAD. -/
  | linkLoss (p : Fin 26) (fail : Fin 6)
  /-- AN_RESTART (R263): A write of AN_RESTART restarts auto-negotiation. -/
  | anRestart (w : Writer) (p : Fin 26)
  /-- PORT_CLR_CNT (R268): A write of PORT_CTRL.CLR_CNT clears the port and lane counters. -/
  | portClrCnt (w : Writer) (p : Fin 26)
  /-- DIAG_START (R221): A write of DIAG_CTRL.START runs a cable test or reports partner active. -/
  | diagStart (w : Writer) (p : Fin 26)
  /-- DIAG_DONE (R221): The cable test ends and its result is written. -/
  | diagDone (p : Fin 26) (a b : BitVec 12)
  /-- MDIO_GO (R269): A write of GO starts a clause 22 or clause 45 MDIO frame. -/
  | mdioGo (w : Writer) (v : W32)
  /-- MDIO_DONE (R269): The MDIO frame completes and BUSY clears. -/
  | mdioDone (data : BitVec 16)
  /-- GATE_ENABLE (R239): A write to GATE_CTRL.EN starts or stops the gate lists. -/
  | gateEnable (w : Writer) (p : Fin 26) (on : Bool)
  /-- GATE_ARM (R240): A write of ARM schedules the admin list to become operating at the switch time. -/
  | gateArm (w : Writer) (p : Fin 26)
  /-- GATE_LIST_SWITCH (R240): The switch time is reached and the admin list becomes operating. -/
  | gateListSwitch (p : Fin 26)
  /-- GATE_ENTRY_ADVANCE (R237): A gate list entry interval or cycle ends and the next gate states apply. -/
  | gateEntryAdvance (p : Fin 26)
  /-- GCL_DATA_WRITE (R239): A write to GCL_DATA stores a list entry and advances the index, or is dropped. -/
  | gclDataWrite (w : Writer) (p : Fin 26) (v : W32)
  /-- LPI_ENTRY (R252): The EEE entry condition holds and the transmitter enters low-power idle. -/
  | lpiEntry (p : Fin 26)
  /-- LPI_EXIT (R252): The transmitter leaves LPI for a queued frame or ahead of a gate opening. -/
  | lpiExit (p : Fin 26)
  /-- RED_ENTRY_FORGET (R249): A duplicate table entry is forgotten after RED_FORGET. -/
  | redEntryForget (k : Fin 8)
  /-- STREAM_RESET (R247): No frame passes for RESET_MS and the recovery stream resets its history. -/
  | streamReset (n : Fin 128)
  /-- RIDE_FRAME (R255): A frame on a ride path passes with a fixed delay while engines edit it through the window. -/
  | rideFrame (p : Fin 26) (bytes : List Byte) (take : Nat) (last err : Bool) (phase : Fin 8 := 0)
  /-- RIDE_LEN (R257): A store to RIDE_LEN gives the frame length for FCS recomputation. -/
  | rideLen (e : Fin 48) (v : W32)
  /-- DLY_REQ_SEND (R282): A worker sends DLY_REQ at the first idle position after +64 ns of each base stride. -/
  | dlyReqSend (p : Fin 16) (phase : Fin 8)
  /-- DLY_REQ (R282): A star receives DLY_REQ, learns the member ID and answers with DLY_T2 and DLY_T3. -/
  | dlyReq (p : Fin 16) (node sq : BitVec 16) (phase : Fin 8) (gap : Fin 65536) (phase3 : Fin 8)
  /-- DLY_T2 (R282): A worker receives the star's arrival time of its DLY_REQ. -/
  | dlyT2 (p : Fin 16) (v : BitVec 48)
  /-- DLY_T3 (R282): A worker receives DLY_T3 and computes delay and offset. -/
  | dlyT3 (p : Fin 16) (v : BitVec 48) (phase : Fin 8)
  /-- SLOT_ECHO (R297): A worker receives the echo of its slot arrival offset and stores it. -/
  | slotEcho (p : Fin 16) (v : BitVec 48)
  /-- TABLE_HASH (R311): A standby receives the slot table hash and enters HOT_STANDBY or CLOSED. -/
  | tableHash (p : Fin 16) (v : BitVec 48)
  /-- TABLE_HASH_SEND (R280): A star sends TABLE_HASH every 256 base strides. -/
  | tableHashSend
  /-- SLOT_LAUNCH (R291): The owner's launch instant comes and the lane sends its slot frame or an EMPTY frame. -/
  | slotLaunch (down : Bool) (slot : Fin 4096)
  /-- STARTUP_SEND (R300): A node in STARTUP sends a STARTUP frame at +64 ns of its base stride. -/
  | startupSend
  /-- HARNESS_FRAME_RECEIVE (R289): A Harness frame arrives, is checked or discarded, relayed by a star and its items committed. -/
  | harnessFrameReceive (p : Fin 16) (bytes : List Byte) (arrival : Int)
  /-- RELAY_CLOSE (R295): The relay closes at slot end and cuts a frame still passing. -/
  | relayClose (slot : Fin 4096)
  /-- SLOT_ECHO_SEND (R297): After a worker's active slot the star echoes the arrival offset and applies drift and isolation. -/
  | slotEchoSend (slot : Fin 4096)
  /-- LISTEN_TIMEOUT (R302): A node's listen time ends without a relayed frame and it enters STARTUP or stays in LISTEN. -/
  | listenTimeout
  /-- STARTUP_ARBITRATION (R303): The root star ends a listen window, picks the lowest STARTUP node and relays it. -/
  | startupArbitration
  /-- HN_ENABLE (R322): A write to HN_CTRL.EN starts Harness participation or stops it at the next base edge. -/
  | hnEnable (w : Writer) (v : W32)
  /-- CMD_FRAGMENT (R314): A CMD section fragment arrives and is reassembled into a command packet or dropped. -/
  | cmdFragment (p : Fin 16)
  /-- FORWARDED_REPLY (R318): A reply from a worker arrives and is passed upward to the port where the command entered. -/
  | forwardedReply (p : Fin 16)
  /-- FORWARD_TIMEOUT (R317): A forwarded command's reply time expires and the forwarding device answers TIMEOUT. -/
  | forwardTimeout (id : BitVec 16)
  /-- CAN_MODE_WRITE (R334): A write of CAN_CTRL.MODE is checked and requests a mode change. -/
  | canModeWrite (w : Writer) (c : Fin 8) (mode : Fin 8)
  /-- CAN_MODE_CHANGE (R335): The requested mode takes effect after 11 recessive bits, frame end or bus idle. -/
  | canModeChange (c : Fin 8)
  /-- CAN_RECOVER (R357): A write of RECOVER starts bus-off recovery. -/
  | canRecover (w : Writer) (c : Fin 8)
  /-- BUS_OFF_RECOVERY (R357): After 128 occurrences of 11 recessive bits the controller leaves bus-off. -/
  | busOffRecovery (c : Fin 8)
  /-- CAN_CLR_CNT (R360): A write of CAN_CTRL.CLR_CNT clears the controller counters. -/
  | canClrCnt (w : Writer) (c : Fin 8)
  /-- TXB_REQ (R343): A write of REQ moves a transmit buffer to PENDING or REJECTED. -/
  | txbReq (w : Writer) (c : Fin 8) (n : Fin 3)
  /-- TXB_ABORT (R344): A write of ABORT aborts a PENDING buffer or marks an ACTIVE one for abort. -/
  | txbAbort (w : Writer) (c : Fin 8) (n : Fin 3)
  /-- CAN_TX_CHOICE (R345): At the end of the second intermission bit the controller chooses the next PENDING buffer. -/
  | canTxChoice (c : Fin 8)
  /-- CAN_TX_END (R343): A transmitted frame completes, loses arbitration or meets an error and the buffer state moves. -/
  | canTxEnd (c : Fin 8) (result : CanEnd) (ago : Fin 0x1000000) (tdcv : Nat)
  /-- CAN_FRAME_RECEIVE (R349): A received frame's arbitration field ends and the acceptance filter walk starts. -/
  | canFrameReceive (c : Fin 8) (f : CanFrame) (ago : Fin 0x1000000)
  /-- CAN_RX_STORE (R354): After end of frame the controller stores the frame in its receive slot in three writes. -/
  | canRxStore (c : Fin 8)
  /-- CAN_ERROR (R356): A bus error updates the error counters and may enter warning, passive or bus-off. -/
  | canError (c : Fin 8) (kind : Fin 7) (transmitter heavy inFrame : Bool)
  /-- SER_ENABLE (R367): A write to SER_CTRL.EN enables or disables a serial channel. -/
  | serEnable (w : Writer) (n : Fin 12) (on : Bool)
  /-- FLUSH_TX (R375): A write of FLUSH_TX discards the transmit FIFO after the character in progress. -/
  | flushTx (w : Writer) (n : Fin 12)
  /-- SER_CLR_CNT (R377): A write of SER_CTRL.CLR_CNT clears the channel counters. -/
  | serClrCnt (w : Writer) (n : Fin 12)
  /-- SER_TXDATA (R373): A write to SER_TXDATA puts a byte into the transmit FIFO or drops it. -/
  | serTxdata (w : Writer) (n : Fin 12) (v : W32)
  /-- SER_TX_START (R374): A frame becomes eligible and DE rises at s − LEAD before its first start bit. -/
  | serTxStart (n : Fin 12)
  /-- SER_TX_END (R374): DE falls LAG after the last stop bit and TX_DONE is set. -/
  | serTxEnd (n : Fin 12)
  /-- TX_UNDERRUN (R375): The FIFO empties before the END byte and the frame ends early. -/
  | txUnderrun (n : Fin 12)
  /-- SER_CHAR_RECEIVE (R370): A character is received and its byte goes to the Punnet. -/
  | serCharReceive (n : Fin 12) (b : Byte) (parityErr frameErr : Bool) (gap : Nat) (ago : Fin 0x1000000)
  /-- SER_FRAME_END (R368): The line idles for GAP_END and the receive frame ends with a status record. -/
  | serFrameEnd (n : Fin 12)
  /-- SER_RXSTAT_POP (R371): A read of SER_RXSTAT pops the head status record. -/
  | serRxstatPop (w : Writer) (n : Fin 12)
  /-- ENG_DONE (R384): A store to ENG_DONE ends the engine's stride work. -/
  | engDone (e : Fin 48)
  /-- ENG_WAIT (R395): A read of ENG_WAIT returns enabled latched lines or puts the engine in WAIT. -/
  | engWait (e : Fin 48) (rd : Fin 32) (sx : Bool)
  /-- WAIT_WAKE (R395): An enabled line is latched and a waiting engine returns from its ENG_WAIT read. -/
  | waitWake (e : Fin 48)
  /-- WAIT_LIMIT_EXPIRY (R395): ENG_WAIT_LIMIT cycles pass and the wait returns 0. -/
  | waitLimitExpiry (e : Fin 48)
  /-- ENG_TX_TAIL (R396): An engine write of ENG_TX_TAIL posts transmit entries. -/
  | engTxTail (e : Fin 48) (v : W32)
  /-- TX_ENTRY_FINISH (R397): The team port finishes a transmit entry as SENT, REJECTED, LATE or BANK_FAULT. -/
  | txEntryFinish (t : Fin 12)
  /-- RX_ENTRY_WRITE (R399): A frame reaching a team port is written to an engine receive ring or dropped. -/
  | rxEntryWrite (t : Fin 12)
  /-- HALT (R406): A write of ENG_CTRL.HALT halts the engine with cause HOST. -/
  | halt (w : Writer) (e : Fin 48)
  /-- RESTART (R408): A write of ENG_CTRL.RESTART restarts a halted engine. -/
  | restart (w : Writer) (e : Fin 48)
  /-- ENG_CLR_STATS (R413): A write of ENG_CTRL.CLR_STATS clears the maximum cycles and drop count. -/
  | engClrStats (w : Writer) (e : Fin 48)
  /-- BRIDLE_FAULT (R417): A Bridle mismatch or fault halts both cores and starts a restart. -/
  | bridleFault
  /-- BRIDLE_RESTART_DONE (R417): The Bridle restarts from its MRAM image. -/
  | bridleRestartDone
  /-- ADD (R430): Wrapping 40-bit addition. -/
  | add (e : Fin 49) (rd rs rt : Fin 32)
  /-- SUB (R430): Wrapping 40-bit subtraction. -/
  | sub (e : Fin 49) (rd rs rt : Fin 32)
  /-- ADDS (R430): Saturating addition that sets OV. -/
  | adds (e : Fin 49) (rd rs rt : Fin 32)
  /-- SUBS (R430): Saturating subtraction that sets OV. -/
  | subs (e : Fin 49) (rd rs rt : Fin 32)
  /-- AND (R430): Bitwise AND. -/
  | and (e : Fin 49) (rd rs rt : Fin 32)
  /-- OR (R430): Bitwise OR. -/
  | or (e : Fin 49) (rd rs rt : Fin 32)
  /-- XOR (R430): Bitwise XOR. -/
  | xor (e : Fin 49) (rd rs rt : Fin 32)
  /-- NOR (R430): Bitwise NOR. -/
  | nor (e : Fin 49) (rd rs rt : Fin 32)
  /-- NEG (R430): Negation with OV at MIN40. -/
  | neg (e : Fin 49) (rd rs : Fin 32)
  /-- ABS (R430): Absolute value with OV at MIN40. -/
  | abs (e : Fin 49) (rd rs : Fin 32)
  /-- MIN (R430): Signed minimum. -/
  | min (e : Fin 49) (rd rs rt : Fin 32)
  /-- MAX (R430): Signed maximum. -/
  | max (e : Fin 49) (rd rs rt : Fin 32)
  /-- MINU (R430): Unsigned minimum. -/
  | minu (e : Fin 49) (rd rs rt : Fin 32)
  /-- MAXU (R430): Unsigned maximum. -/
  | maxu (e : Fin 49) (rd rs rt : Fin 32)
  /-- CLT (R430): Signed less-than compare into a register. -/
  | clt (e : Fin 49) (rd rs rt : Fin 32)
  /-- CLTU (R430): Unsigned less-than compare. -/
  | cltu (e : Fin 49) (rd rs rt : Fin 32)
  /-- CEQ (R430): Equality compare. -/
  | ceq (e : Fin 49) (rd rs rt : Fin 32)
  /-- CNE (R430): Inequality compare. -/
  | cne (e : Fin 49) (rd rs rt : Fin 32)
  /-- CLE (R430): Signed less-or-equal compare. -/
  | cle (e : Fin 49) (rd rs rt : Fin 32)
  /-- CLEU (R430): Unsigned less-or-equal compare. -/
  | cleu (e : Fin 49) (rd rs rt : Fin 32)
  /-- SEXT8 (R430): Sign-extend bits 7:0. -/
  | sext8 (e : Fin 49) (rd rs : Fin 32)
  /-- SEXT16 (R430): Sign-extend bits 15:0. -/
  | sext16 (e : Fin 49) (rd rs : Fin 32)
  /-- SEXT32 (R430): Sign-extend bits 31:0. -/
  | sext32 (e : Fin 49) (rd rs : Fin 32)
  /-- ZEXT32 (R430): Zero-extend bits 31:0. -/
  | zext32 (e : Fin 49) (rd rs : Fin 32)
  /-- SLL (R431): Logical left shift by a register count. -/
  | sll (e : Fin 49) (rd rs rt : Fin 32)
  /-- SRL (R431): Logical right shift by a register count. -/
  | srl (e : Fin 49) (rd rs rt : Fin 32)
  /-- SRA (R431): Arithmetic right shift by a register count. -/
  | sra (e : Fin 49) (rd rs rt : Fin 32)
  /-- ROL (R431): Rotate left within 40 bits by a register count. -/
  | rol (e : Fin 49) (rd rs rt : Fin 32)
  /-- ROR (R431): Rotate right within 40 bits by a register count. -/
  | ror (e : Fin 49) (rd rs rt : Fin 32)
  /-- SLLI (R431): Logical left shift by an immediate count. -/
  | slli (e : Fin 49) (rd rs : Fin 32) (count : Fin 64)
  /-- SRLI (R431): Logical right shift by an immediate count. -/
  | srli (e : Fin 49) (rd rs : Fin 32) (count : Fin 64)
  /-- SRAI (R431): Arithmetic right shift by an immediate count. -/
  | srai (e : Fin 49) (rd rs : Fin 32) (count : Fin 64)
  /-- ROLI (R431): Rotate left by an immediate count. -/
  | roli (e : Fin 49) (rd rs : Fin 32) (count : Fin 64)
  /-- RORI (R431): Rotate right by an immediate count. -/
  | rori (e : Fin 49) (rd rs : Fin 32) (count : Fin 64)
  /-- MUL (R432): Low 40 bits of the signed product. -/
  | mul (e : Fin 49) (rd rs rt : Fin 32)
  /-- MULH (R432): High 40 bits of the signed 80-bit product. -/
  | mulh (e : Fin 49) (rd rs rt : Fin 32)
  /-- MULHU (R432): High 40 bits of the unsigned 80-bit product. -/
  | mulhu (e : Fin 49) (rd rs rt : Fin 32)
  /-- MULS (R432): Saturating signed product. -/
  | muls (e : Fin 49) (rd rs rt : Fin 32)
  /-- MAC (R432): Wrapping multiply-accumulate. -/
  | mac (e : Fin 49) (rd rs rt : Fin 32)
  /-- MACS (R432): Saturating multiply-accumulate. -/
  | macs (e : Fin 49) (rd rs rt : Fin 32)
  /-- MAC16 (R432): Wrapping 16-bit multiply-accumulate. -/
  | mac16 (e : Fin 49) (rd rs rt : Fin 32)
  /-- MACS16 (R432): Saturating 16-bit multiply-accumulate. -/
  | macs16 (e : Fin 49) (rd rs rt : Fin 32)
  /-- DIV (R432): Signed division with DZ and OV edge results. -/
  | div (e : Fin 49) (rd rs rt : Fin 32)
  /-- DIVU (R432): Unsigned division with DZ on zero. -/
  | divu (e : Fin 49) (rd rs rt : Fin 32)
  /-- REM (R432): Signed remainder with DZ and OV edge results. -/
  | rem (e : Fin 49) (rd rs rt : Fin 32)
  /-- REMU (R432): Unsigned remainder with DZ on zero. -/
  | remu (e : Fin 49) (rd rs rt : Fin 32)
  /-- JR (R434): Jump to a register address after the delay slot. -/
  | jr (e : Fin 49) (rs : Fin 32)
  /-- JALR (R434): Jump to a register address and link. -/
  | jalr (e : Fin 49) (rd rs : Fin 32)
  /-- SYNC (R425): Wait until every earlier store is performed. -/
  | sync (e : Fin 49)
  /-- ADDI (R433): Wrapping add of a sign-extended immediate. -/
  | addi (e : Fin 49) (rd rs : Fin 32) (imm : BitVec 16)
  /-- ADDIS (R433): Saturating add of a sign-extended immediate. -/
  | addis (e : Fin 49) (rd rs : Fin 32) (imm : BitVec 16)
  /-- ANDI (R433): AND with a zero-extended immediate. -/
  | andi (e : Fin 49) (rd rs : Fin 32) (imm : BitVec 16)
  /-- ORI (R433): OR with a zero-extended immediate. -/
  | ori (e : Fin 49) (rd rs : Fin 32) (imm : BitVec 16)
  /-- XORI (R433): XOR with a zero-extended immediate. -/
  | xori (e : Fin 49) (rd rs : Fin 32) (imm : BitVec 16)
  /-- CLTI (R433): Signed less-than compare with an immediate. -/
  | clti (e : Fin 49) (rd rs : Fin 32) (imm : BitVec 16)
  /-- CLTIU (R433): Unsigned less-than compare with an immediate. -/
  | cltiu (e : Fin 49) (rd rs : Fin 32) (imm : BitVec 16)
  /-- CEQI (R433): Equality compare with an immediate. -/
  | ceqi (e : Fin 49) (rd rs : Fin 32) (imm : BitVec 16)
  /-- MOVH (R433): Load a 21-bit immediate into bits 36:16. -/
  | movh (e : Fin 49) (rd : Fin 32) (imm : BitVec 21)
  /-- TOPI (R433): Replace bits 39:32 with an immediate. -/
  | topi (e : Fin 49) (rd rs : Fin 32) (imm : Byte)
  /-- LB (R423): Load a sign-extended byte. -/
  | lb (e : Fin 49) (rd rs : Fin 32) (imm : BitVec 16)
  /-- LBU (R423): Load a zero-extended byte. -/
  | lbu (e : Fin 49) (rd rs : Fin 32) (imm : BitVec 16)
  /-- LH (R423): Load a sign-extended halfword. -/
  | lh (e : Fin 49) (rd rs : Fin 32) (imm : BitVec 16)
  /-- LHU (R423): Load a zero-extended halfword. -/
  | lhu (e : Fin 49) (rd rs : Fin 32) (imm : BitVec 16)
  /-- LW (R423): Load a sign-extended word. -/
  | lw (e : Fin 49) (rd rs : Fin 32) (imm : BitVec 16)
  /-- LWU (R423): Load a zero-extended word. -/
  | lwu (e : Fin 49) (rd rs : Fin 32) (imm : BitVec 16)
  /-- LD (R423): Load a 40-bit value from an 8-byte slot. -/
  | ld (e : Fin 49) (rd rs : Fin 32) (imm : BitVec 16)
  /-- SB (R423): Store a byte, posted. -/
  | sb (e : Fin 49) (rt rs : Fin 32) (imm : BitVec 16) (bad : Bool := false)
  /-- SH (R423): Store a halfword, posted. -/
  | sh (e : Fin 49) (rt rs : Fin 32) (imm : BitVec 16) (bad : Bool := false)
  /-- SW (R423): Store a word, posted. -/
  | sw (e : Fin 49) (rt rs : Fin 32) (imm : BitVec 16) (bad : Bool := false)
  /-- SD (R423): Store a 40-bit value sign-extended into 8 bytes. -/
  | sd (e : Fin 49) (rt rs : Fin 32) (imm : BitVec 16) (bad : Bool := false)
  /-- BEZ (R434): Branch when the register is zero, after the delay slot. -/
  | bez (e : Fin 49) (rs : Fin 32) (off : BitVec 21)
  /-- BNZ (R434): Branch when the register is non-zero, after the delay slot. -/
  | bnz (e : Fin 49) (rs : Fin 32) (off : BitVec 21)
  /-- JAL (R434): Jump relative and link. -/
  | jal (e : Fin 49) (rd : Fin 32) (off : BitVec 21)
  /-- CRCB (R450): Advance a CRC by one byte. -/
  | crcb (e : Fin 49) (poly : Fin 8) (rd rs : Fin 32)
  /-- CRCH (R450): Advance a CRC by a halfword. -/
  | crch (e : Fin 49) (poly : Fin 8) (rd rs : Fin 32)
  /-- CRCW (R450): Advance a CRC by a word. -/
  | crcw (e : Fin 49) (poly : Fin 8) (rd rs : Fin 32)
  /-- CRCN (R450): Advance a CRC by n bits. -/
  | crcn (e : Fin 49) (poly : Fin 8) (rd rs rt : Fin 32)
  /-- CRCM (R452): Advance a CRC over bytes in memory. -/
  | crcm (e : Fin 49) (poly : Fin 8) (rd rs rt : Fin 32)
  /-- EXTU (R453): Extract a zero-extended bit field. -/
  | extu (e : Fin 49) (rd rs rt : Fin 32)
  /-- EXTS (R453): Extract a sign-extended bit field. -/
  | exts (e : Fin 49) (rd rs rt : Fin 32)
  /-- INS (R453): Insert a bit field. -/
  | ins (e : Fin 49) (rd rs rt : Fin 32)
  /-- CLZ (R453): Count leading zeros. -/
  | clz (e : Fin 49) (rd rs : Fin 32)
  /-- CTZ (R453): Count trailing zeros. -/
  | ctz (e : Fin 49) (rd rs : Fin 32)
  /-- POPC (R453): Count 1 bits. -/
  | popc (e : Fin 49) (rd rs : Fin 32)
  /-- BSWAP16 (R453): Swap the two low bytes. -/
  | bswap16 (e : Fin 49) (rd rs : Fin 32)
  /-- BSWAP32 (R453): Swap the four low bytes. -/
  | bswap32 (e : Fin 49) (rd rs : Fin 32)
  /-- BREV8 (R453): Reverse bits within each byte. -/
  | brev8 (e : Fin 49) (rd rs : Fin 32)
  /-- SOPEN (R454): Set the stream position and bit order. -/
  | sopen (e : Fin 49) (rs rt : Fin 32)
  /-- SGET (R454): Read the next n stream bits, zero-extended. -/
  | sget (e : Fin 49) (rd rt : Fin 32)
  /-- SGETS (R454): Read the next n stream bits, sign-extended. -/
  | sgets (e : Fin 49) (rd rt : Fin 32)
  /-- SPUT (R454): Write n bits into the stream. -/
  | sput (e : Fin 49) (rs rt : Fin 32)
  /-- SPOS (R454): Read the stream position. -/
  | spos (e : Fin 49) (rd : Fin 32)
  /-- TSNOW (R455): Latch the current value of a time base. -/
  | tsnow (e : Fin 49) (rd : Fin 32) (n : Fin 8)
  /-- TSEDGE (R455): Latch E(n) of the last executed base edge. -/
  | tsedge (e : Fin 49) (rd : Fin 32)
  /-- TSHI (R455): Read the high bits of the latched time. -/
  | tshi (e : Fin 49) (rd : Fin 32)
  /-- TSFRAC (R455): Read format, base, step generation and fraction of the latch. -/
  | tsfrac (e : Fin 49) (rd : Fin 32)
  /-- TSWAIT (R455): Start waiting until a time base reaches a value. -/
  | tswait (e : Fin 49) (rs : Fin 32) (n : Fin 8)
  /-- TSWAIT_DONE (R455): The time base reaches the awaited value and TSWAIT completes. -/
  | tswaitDone (e : Fin 49)
  /-- SGRUN (R456): Start a scatter-gather descriptor list. -/
  | sgrun (e : Fin 49) (rs rt : Fin 32)
  /-- SGWAIT (R456): Wait until the mover is idle and read its status. -/
  | sgwait (e : Fin 49) (rd : Fin 32)
  /-- SGSTAT (R456): Read the mover status without waiting. -/
  | sgstat (e : Fin 49) (rd : Fin 32)
  /-- MOVER_COPY (R458): The mover copies bytes for a COPY descriptor. -/
  | moverCopy (e : Fin 48)
  /-- MOVER_CONVERT (R458): The mover converts items for a CONVERT descriptor. -/
  | moverConvert (e : Fin 48)
  /-- MOVER_SEND (R458): The mover sends items as mapping cells for a SEND descriptor. -/
  | moverSend (e : Fin 48)
  /-- MOVER_COMMIT (R458): The mover commits items for a COMMIT descriptor. -/
  | moverCommit (e : Fin 48)
  /-- MOVER_LIST_STOP (R459): The mover stops a list at a bad descriptor or ends it and goes idle. -/
  | moverListStop (e : Fin 48)
  /-- SHAINIT (R461): Load the SHA-256 initial hash value. -/
  | shainit (e : Fin 49)
  /-- SHABLK (R461): Compress a 64-byte block into the SHA-256 state. -/
  | shablk (e : Fin 49) (rs : Fin 32)
  /-- SHARD (R461): Read one SHA-256 state word. -/
  | shard (e : Fin 49) (rd : Fin 32) (k : Fin 8)
  /-- IDLE (R509): Stirrup instruction with no effect. -/
  | idle (m : Fin 32)
  /-- SEND (R505): Stirrup shifts N bits out through a lane. -/
  | send (m : Fin 32) (at' : Bool) (lane : Fin 4) (n : Fin 32)
  /-- TAKE (R505): Stirrup shifts N bits in through a lane. -/
  | take (m : Fin 32) (at' : Bool) (lane : Fin 4) (n : Fin 32) (lv : List (BitVec 96))
  /-- DRIVE (R509): Stirrup drives a value onto lane pins. -/
  | drive (m : Fin 32) (at' : Bool) (lane : Fin 4) (value : Byte)
  /-- ENABLE (R509): Stirrup sets output enables of lane pins. -/
  | enable (m : Fin 32) (lane : Fin 4) (all : Bool) (mask : Byte)
  /-- TIME (R509): Stirrup sets the action time T. -/
  | time (m : Fin 32) (mode : Fin 4) (imm : Fin 512)
  /-- WAIT (R509): Stirrup waits for T, a pin level or a gait edge. -/
  | wait (m : Fin 32) (mode : Fin 4) (arg : Fin 32) (lv : List (BitVec 96))
  /-- COPY (R509): Stirrup copies a value between its registers and FIFOs. -/
  | copy (m : Fin 32) (dst src : Fin 8) (lv : List (BitVec 96))
  /-- CLOSE (R509): Stirrup delivers remaining received bits, optionally with a packet boundary. -/
  | close (m : Fin 32) (mark : Bool)
  /-- NOTE (R509): Stirrup sets SIGNAL. -/
  | note (m : Fin 32)
  /-- STIRRUP_WAIT_DONE (R509): A Stirrup wait condition is satisfied and the instruction completes. -/
  | stirrupWaitDone (m : Fin 32) (lv : List (BitVec 96))
  /-- AT_ACTION (R503): SC reaches T and a timed Stirrup action is performed, late if already passed. -/
  | atAction (m : Fin 32) (lv : List (BitVec 96))
  /-- STALL_RESUME (R506): A word arrives in TXDATA and a stalled Stirrup shift resumes. -/
  | stallResume (m : Fin 32)
  /-- MACHINE_START (R512): A write of EN or START starts a Stirrup machine or is refused. -/
  | machineStart (w : Writer) (m : Fin 32)
  /-- MACHINE_STOP (R512): A write of 0 to EN or a STOP bit stops a machine at once. -/
  | machineStop (w : Writer) (m : Fin 32)
  /-- STIR_TXDATA (R508): A write to STIR_TXDATA adds a word to TXDATA or is dropped. -/
  | stirTxdata (w : Writer) (m : Fin 32) (v : W32)
  /-- STIR_RXDATA (R508): A read of STIR_RXDATA pops a word from RXDATA. -/
  | stirRxdata (w : Writer) (m : Fin 32)
  /-- STIR_PROG (R513): A write to program memory replaces an instruction for its next fetch. -/
  | stirProg (w : Writer) (b : Fin 4) (k : Fin 64) (v : W32)
  /-- PN_WR (R516): A write to PN_WR adds an item or boundary to a Punnet. -/
  | pnWr (w : Writer) (n : Fin 64) (v : W32)
  /-- PN_RD (R521): A read of PN_RD pops the head entry or reports UNDERRUN. -/
  | pnRd (w : Writer) (n : Fin 64) (size : Nat)
  /-- PN_FLUSH (R523): A write of FLUSH discards the Punnet at the next packet boundary. -/
  | pnFlush (w : Writer) (n : Fin 64)
  /-- PN_CFG_WRITE (R523): A write to PN_CFG empties the Punnet at once. -/
  | pnCfgWrite (w : Writer) (n : Fin 64) (v : W32)
  /-- RESYNC_DONE (R524): The KY-2210 resync handshake completes and the reset side is resynchronised. -/
  | resyncDone (n : Fin 64)
  /-- EV_CFG_WRITE (R692): A write to EV_CFG sets an event route or is dropped as a whole for a reserved value. -/
  | evCfgWrite (w : Writer) (k : Fin 256) (v : W32)
  /-- EV_CLR_CNT (R711): A write of EV_CTRL.CLR_CNT clears every occurrence counter. -/
  | evClrCnt (w : Writer)
  /-- TEMP_SAMPLE (R698): A junction temperature sample is taken every 100 µs and may warn, shut down or allow restart. -/
  | tempSample (t : BitVec 16)
  /-- REFERENCE_LOSS (R702): A reference clock misses 8 expected edges and loss is declared. -/
  | referenceLoss (r : Fin 3)
  /-- REFERENCE_RETURN (R702): A lost reference shows 8 consecutive edges again. -/
  | referenceReturn (r : Fin 3)
  /-- POWER_ON_RESET (R703): POR_N or the supply monitor resets everything outside the battery domain. -/
  | powerOnReset
  /-- WARM_RESET (R704): WARM_N low for at least 1 µs applies the warm reset of each chapter. -/
  | warmReset
  /-- TEST_EN_HIGH (R718): TEST_EN reads high and the device is held in reset. -/
  | testEnHigh
  /-- STARTUP (R706): After reset release the device checks Pip and the image and starts the Bridle and the configuration. -/
  | startup (strap : Fin 8) (upset : Bool := false)
  /-- PCIE_RESET (R561): A hot, link-down or function level reset resets the PCIe port and its mailbox sides. -/
  | pcieReset
  /-- QSPI_READ (R562): A QSPI READ transaction reads words or returns RETRY. -/
  | qspiRead (addr : W32) (n ready : Nat)
  /-- QSPI_WRITE (R562): A QSPI WRITE transaction posts words. -/
  | qspiWrite (addr : W32) (words : List W32)
  /-- QSPI_STATUS (R564): A QSPI STATUS read returns BUSY, RETRY and ERROR and clears the latter two. -/
  | qspiStatus
  /-- QSPI_RESET (R565): The 0x66 then 0x99 sequence resets the QSPI port and its mailbox sides. -/
  | qspiReset
  /-- MB_POST (R569): A write of MB_POST with GO posts a mailbox message and rings the doorbell. -/
  | mbPost (w : Writer) (n : Fin 16) (d : Fin 2) (v : W32)
  /-- MB_ACK (R569): A write of MB_ACK acknowledges a posted message. -/
  | mbAck (w : Writer) (n : Fin 16) (d : Fin 2) (v : W32)
  /-- MB_WITHDRAW (R571): A write of MB_WITHDRAW discards the sender's posted message. -/
  | mbWithdraw (w : Writer) (n : Fin 16) (d : Fin 2) (v : W32)
  /-- MB_TIMEOUT (R570): A posted message's timeout expires and the sender is notified. -/
  | mbTimeout (n : Fin 16) (d : Fin 2)
  /-- BRIDLE_ROUND (R552): Every 2 µs the Bridle takes every newly received command packet. -/
  | bridleRound
  /-- KEEP_ALIVE_EXPIRY (R554): The keep-alive timer expires and ownership lapses. -/
  | keepAliveExpiry
  /-- GET_INFO (R591): Command returning device identity and state. -/
  | getInfo (r : CmdReq)
  /-- GET_STATUS (R591): Command returning stride status, diagnostics, temperature and uptime. -/
  | getStatus (r : CmdReq)
  /-- READ_REG (R592): Command reading BAR0 words as the host window. -/
  | readReg (r : CmdReq)
  /-- WRITE_REG (R592): Command writing BAR0 words as the host window. -/
  | writeReg (r : CmdReq)
  /-- READ_MEM (R593): Command reading BAR2 through port C. -/
  | readMem (r : CmdReq)
  /-- WRITE_MEM (R593): Command writing BAR2 through port C. -/
  | writeMem (r : CmdReq)
  /-- RESET (R594): Command that warm-resets the device or restarts the Bridle after replying. -/
  | reset (r : CmdReq)
  /-- GET_EVENTS (R591): Command returning the sticky status of all events. -/
  | getEvents (r : CmdReq)
  /-- CLEAR_EVENTS (R591): Command clearing event status bits by mask. -/
  | clearEvents (r : CmdReq)
  /-- CLAIM_OWNER (R552): Command claiming device ownership for the sending port. -/
  | claimOwner (r : CmdReq)
  /-- RELEASE_OWNER (R551): Command giving up ownership. -/
  | releaseOwner (r : CmdReq)
  /-- HANDOVER_OWNER (R553): Command passing ownership to a named port. -/
  | handoverOwner (r : CmdReq)
  /-- KEEP_ALIVE (R554): Command that only restarts the keep-alive timer. -/
  | keepAlive (r : CmdReq)
  /-- SET_OWNER_TIMEOUT (R551): Command setting OWN_TIMEOUT. -/
  | setOwnerTimeout (r : CmdReq)
  /-- GET_OWNER (R551): Command returning the owner port and time left. -/
  | getOwner (r : CmdReq)
  /-- GET_BANKS (R596): Command returning owner, lock and power of every bank. -/
  | getBanks (r : CmdReq)
  /-- SET_BANK_OWNER (R597): Command handing a bank to an agent, forcing past CFG_LOCK if asked. -/
  | setBankOwner (r : CmdReq)
  /-- SET_BANK_POWER (R597): Command requesting a bank power state. -/
  | setBankPower (r : CmdReq)
  /-- GET_FAULT_LOGS (R596): Command returning the quad fault logs. -/
  | getFaultLogs (r : CmdReq)
  /-- SET_SCRUB (R596): Command setting the scrub interval and enable. -/
  | setScrub (r : CmdReq)
  /-- GET_ENGINE (R598): Command returning an engine's status and counters. -/
  | getEngine (r : CmdReq)
  /-- HALT_ENGINE (R598): Command halting an engine and replying once HALTED. -/
  | haltEngine (r : CmdReq)
  /-- RESTART_ENGINE (R598): Command restarting a halted engine. -/
  | restartEngine (r : CmdReq)
  /-- GET_TEAM (R598): Command returning team configuration and lockstep status. -/
  | getTeam (r : CmdReq)
  /-- GET_BRIDLE (R598): Command returning BRIDLE_STATUS. -/
  | getBridle (r : CmdReq)
  /-- GET_SWITCH (R599): Command returning switch status, events and buffer configuration. -/
  | getSwitch (r : CmdReq)
  /-- GET_SWITCH_PORT (R599): Command returning a fabric port's counters. -/
  | getSwitchPort (r : CmdReq)
  /-- GET_SLICES (R599): Command returning all slice fills. -/
  | getSlices (r : CmdReq)
  /-- CLEAR_SWITCH_COUNTERS (R599): Command clearing the switch counters. -/
  | clearSwitchCounters (r : CmdReq)
  /-- SET_MIRROR (R599): Command writing the mirror configuration and source mask together. -/
  | setMirror (r : CmdReq)
  /-- GET_TIME (R600): Command returning a time base value and status. -/
  | getTime (r : CmdReq)
  /-- ADJUST_TIME (R601): Command loading an increment and/or step into a time base in one write. -/
  | adjustTime (r : CmdReq)
  /-- GET_STRIDE (R600): Command returning stride status, admission and counters. -/
  | getStride (r : CmdReq)
  /-- STRIDE_RUN (R602): Command starting or stopping the stride. -/
  | strideRun (r : CmdReq)
  /-- SET_LUNGE (R603): Command writing Lunge parameters and UPDATE. -/
  | setLunge (r : CmdReq)
  /-- SET_LATCH_PHASE (R603): Command writing a block's latch phase. -/
  | setLatchPhase (r : CmdReq)
  /-- GET_LUNGE (R600): Command returning a Lunge unit's position, velocity and status. -/
  | getLunge (r : CmdReq)
  /-- GET_PORT (R604): Command returning a port's control, status, events and gate status. -/
  | getPort (r : CmdReq)
  /-- GET_PORT_COUNTERS (R604): Command returning a port's counters. -/
  | getPortCounters (r : CmdReq)
  /-- SET_PORT_ENABLE (R605): Command enabling or disabling a port. -/
  | setPortEnable (r : CmdReq)
  /-- CABLE_TEST (R605): Command running a cable test and returning its result. -/
  | cableTest (r : CmdReq)
  /-- GET_INSTANCES (R604): Command returning the personality instances and their state codes. -/
  | getInstances (r : CmdReq)
  /-- HOLD_INSTANCE (R606): Command holding or releasing a personality instance from its next gait edge. -/
  | holdInstance (r : CmdReq)
  /-- UPDATE_BEGIN (R608): Command opening or replacing an update session. -/
  | updateBegin (r : CmdReq)
  /-- UPDATE_DATA (R609): Command writing image bytes and checking blocks and the manifest. -/
  | updateData (r : CmdReq)
  /-- UPDATE_VERIFY (R610): Command checking the whole image against its manifest. -/
  | updateVerify (r : CmdReq)
  /-- UPDATE_ACTIVATE (R611): Command checking and activating the verified or stored image. -/
  | updateActivate (r : CmdReq)
  /-- ACTIVATION_SWAP (R611): The swap edge comes and the new configuration takes effect. -/
  | activationSwap
  /-- UPDATE_ABORT (R612): Command closing the update session. -/
  | updateAbort (r : CmdReq)
  /-- UPDATE_STATUS (R607): Command returning the session state. -/
  | updateStatus (r : CmdReq)
  /-- GET_CERT (R613): Command returning part of the certificate record. -/
  | getCert (r : CmdReq)
  /-- ATTEST (R614): Command making and signing a measurement record or returning part of it. -/
  | attest (r : CmdReq)
  /-- SET_LIFECYCLE (R615): Command moving the lifecycle state. -/
  | setLifecycle (r : CmdReq)
  /-- SET_CUSTOMER_ROOT (R615): Command writing the customer root key once. -/
  | setCustomerRoot (r : CmdReq)
  /-- GET_POWER (R616): Command returning domain states and ring leadership. -/
  | getPower (r : CmdReq)
  /-- SET_DOMAIN (R617): Command switching a power domain on, off or to DOZE. -/
  | setDomain (r : CmdReq)
  /-- SLEEP_REQUEST (R617): Command starting a sleep consent round as ring leader. -/
  | sleepRequest (r : CmdReq)
  /-- SET_SLEEP_CONSENT (R616): Command setting a network's consent and maximum awake time. -/
  | setSleepConsent (r : CmdReq)
  /-- GET_HARNESS (R618): Command returning Harness control, cluster and status. -/
  | getHarness (r : CmdReq)
  /-- GET_LANE (R618): Command returning a Harness lane's registers. -/
  | getLane (r : CmdReq)
  /-- SELECT_UPLINK (R619): Command choosing the followed lane from the next base edge. -/
  | selectUplink (r : CmdReq)
  /-- PING (R618): Command returning node ID, level, states and epoch. -/
  | ping (r : CmdReq)
  /-- SET_FORWARD_TIMEOUT (R618): Command setting the forwarding reply timeout. -/
  | setForwardTimeout (r : CmdReq)
  /-- DOMAIN_REQUEST (R627): A write of PWR_DOMAIN.REQ requests a domain on, off or DOZE. -/
  | domainRequest (w : Writer) (d : Fin 9) (v : W32)
  /-- DOMAIN_TRANSITION_DONE (R627): A domain completes its power-up, power-down or DOZE entry. -/
  | domainTransitionDone (d : Fin 9)
  /-- DOZE_WAKE (R630): A dozing TEAM domain returns to ON after a mailbox post, event line or request. -/
  | dozeWake (t : Fin 4)
  /-- TOKEN (R639): A node receives a sleep TOKEN and answers CONSENT or REFUSE or visits its own cluster. -/
  | token (k : Fin 9) (lane : Fin 16) (m : SleepMsg)
  /-- CONSENT (R639): A star or leader receives a CONSENT answer and continues the round. -/
  | consent (lane : Fin 16) (m : SleepMsg)
  /-- REFUSE (R638): A REFUSE answer ends the consent round. -/
  | refuse (k : Fin 9) (lane : Fin 16) (m : SleepMsg)
  /-- VISIT_TIMEOUT (R638): A sleep visit is not answered in time and the round ends. -/
  | visitTimeout (k : Fin 9)
  /-- COMMIT (R640): A node receives COMMIT, forwards it and sets its sleep entry instant. -/
  | commit (k : Fin 9) (lane : Fin 16) (round : Byte) (v : BitVec 40)
  /-- SLEEP_ENTRY (R642): At the sleep instant each node stops its network and may enter network sleep. -/
  | sleepEntry (k : Fin 9)
  /-- WAKE_REQUEST (R644): An enabled wake source fires and refuses a round, pends or wakes the network. -/
  | wakeRequest (src : Fin 8) (k : Fin 9) (pin : Fin 8)
  /-- WAKE (R646): A node receives WAKE or a wake signal and spreads it and restarts. -/
  | wake (k : Fin 9) (lane : Fin 16) (node : Option (BitVec 16))
  /-- WAKE_TIMER_EXPIRY (R644): SLP_WAKE_TIMER expires after sleep entry and raises a wake request. -/
  | wakeTimerExpiry
  /-- SLP_KICK_WAKE (R644): A write of SLP_KICK.WAKE raises a local wake request. -/
  | slpKickWake (w : Writer)
  /-- KICK (R647): A write of SLP_KICK.KICK restarts the sleep-watch timer. -/
  | kick (w : Writer)
  /-- SLEEP_WATCH_EXPIRY (R647): The sleep-watch timer expires and AON asserts transceiver sleep and disables lanes. -/
  | sleepWatchExpiry
  /-- UNDEFINED_OPCODE (R429): An engine reaches an instruction word whose OP, FUNCT or SUB is unassigned, or whose fetch fails, and halts with ILLEGAL, ACCESS or ECC. -/
  | undefinedOpcode (e : Fin 49) (word : W32) (ecc : Bool)
  /-- UNASSIGNED_STIRRUP_OP (R510): A Stirrup machine fetches an instruction with OP 0xA to 0xF and halts with ILLEGAL set. -/
  | unassignedStirrupOp (m : Fin 32) (word : BitVec 16)
  /-- AUTO_NEGOTIATION_FAILED (R217): Auto-negotiation ends without a usable partner and the link stays down with FAIL 3 or 4. -/
  | autoNegotiationFailed (p : Fin 26) (halfOr10 : Bool)
  /-- VERIFY_FAIL (R242): The preemption verify exchange fails, every frame stays express, VERIFY reads FAILED and VERIFY_FAIL is set. -/
  | verifyFail (p : Fin 26)
  /-- KEY_GENERATION_DONE (R665): Device key generation in MANUFACTURE completes with the wrapped seed stored and the tree cache filled. -/
  | keyGenerationDone
  /-- WARM_CMD (R594): 1 ms after the reply to RESET with WARM, the device performs the warm reset and sets the WARM_CMD cause. -/
  | warmCmd
deriving DecidableEq, Repr

end Sys2Proof
end

