-- ==== Sys2Proof/Decode.lean ====
section
/-! DEFINITION. The words of commands. The rows of the table give no bits: a command of this block is an access, a packet or an event, and
no word spells one. -/

namespace Sys2Proof

/-- The command that a word of `nbits` bits spells by the table: no row gives bits, so there is none. -/
def decodeTableWord (_nbits _w : Nat) : Option Instr := none

end Sys2Proof
end

