-- ==== Sys2Proof/Config.lean ====
section
/-! DEFINITION. What the spec leaves open: free values, which no proof can evaluate. Each takes the count of free values used so
far (`Dev.free`, log entry 1), or the operands it depends on. -/

namespace Sys2Proof

/-- A value of up to 64 bits that the spec does not state. -/
opaque Config.freeWord : Nat → BitVec 64

end Sys2Proof
end

