-- ==== Sys2Proof/Machine/RegsHost.lean ====
section
/-! DEFINITION. The registers of BAR0 blocks 0x0 to 0x4 (identity, ownership, mailboxes, events, Orchard control), field by field, as the register tables of the spec give them
(offset, bits, access, reset value, survival of WARM_N). Each name is the manual's REGISTER_FIELD; an argument is the
register's index. Each docstring names the rule of spec/ whose table lists the field. -/

namespace Sys2Proof.Machine.R

/-- VALID (R153). -/
def IMG_CFG_VALID (r : Nat) : Fld := { addr := 0x48000 + r * 0x20, lo := 31, width := 1, acc := .rd }
/-- HOST_PROD (R153). -/
def IMG_CFG_HOST_PROD (r : Nat) : Fld := { addr := 0x48000 + r * 0x20, lo := 30, width := 1, acc := .rd }
/-- GAIT (R153). -/
def IMG_CFG_GAIT (r : Nat) : Fld := { addr := 0x48000 + r * 0x20, lo := 28, width := 2, acc := .rd }
/-- BANK (R153). -/
def IMG_CFG_BANK (r : Nat) : Fld := { addr := 0x48000 + r * 0x20, lo := 22, width := 6, acc := .rd }
/-- ITEMS (R153). -/
def IMG_CFG_ITEMS (r : Nat) : Fld := { addr := 0x48000 + r * 0x20, lo := 0, width := 13, acc := .rd }
/-- IMG_BASE[r].BASE (R154). -/
def IMG_BASE_BASE (r : Nat) : Fld := { addr := 0x48004 + r * 0x20, lo := 0, width := 19, acc := .rd }
/-- IMG_SIZE[r].BUF_BYTES (R154). -/
def IMG_SIZE_BUF_BYTES (r : Nat) : Fld := { addr := 0x48008 + r * 0x20, lo := 0, width := 17, acc := .rd }
/-- SEQ (R155). -/
def IMG_STATE_SEQ (r : Nat) : Fld := { addr := 0x4800c + r * 0x20, lo := 24, width := 8, acc := .rd }
/-- MAX_AGE (R155). -/
def IMG_STATE_MAX_AGE (r : Nat) : Fld := { addr := 0x4800c + r * 0x20, lo := 16, width := 8, acc := .rd }
/-- NEW (R155). -/
def IMG_STATE_NEW (r : Nat) : Fld := { addr := 0x4800c + r * 0x20, lo := 6, width := 1, acc := .rd }
/-- PUB (R155). -/
def IMG_STATE_PUB (r : Nat) : Fld := { addr := 0x4800c + r * 0x20, lo := 4, width := 2, acc := .rd }
/-- WORK (R155). -/
def IMG_STATE_WORK (r : Nat) : Fld := { addr := 0x4800c + r * 0x20, lo := 2, width := 2, acc := .rd, reset := 1 }
/-- SAMP (R155). -/
def IMG_STATE_SAMP (r : Nat) : Fld := { addr := 0x4800c + r * 0x20, lo := 0, width := 2, acc := .rd, reset := 2 }
/-- WRITE_REJ (R156). -/
def IMG_FLAGS_WRITE_REJ (r : Nat) : Fld := { addr := 0x48010 + r * 0x20, lo := 4, width := 1, acc := .w1c }
/-- COMMIT_REJ (R156). -/
def IMG_FLAGS_COMMIT_REJ (r : Nat) : Fld := { addr := 0x48010 + r * 0x20, lo := 3, width := 1, acc := .w1c }
/-- SAT (R156). -/
def IMG_FLAGS_SAT (r : Nat) : Fld := { addr := 0x48010 + r * 0x20, lo := 2, width := 1, acc := .w1c }
/-- AGED (R156). -/
def IMG_FLAGS_AGED (r : Nat) : Fld := { addr := 0x48010 + r * 0x20, lo := 1, width := 1, acc := .w1c }
/-- REPEAT (R156). -/
def IMG_FLAGS_REPEAT (r : Nat) : Fld := { addr := 0x48010 + r * 0x20, lo := 0, width := 1, acc := .w1c }
/-- ALL (R157). -/
def IMG_COMMIT_ALL (r : Nat) : Fld := { addr := 0x48014 + r * 0x20, lo := 31, width := 1, acc := .wo }
/-- AGE (R157). -/
def IMG_COMMIT_AGE (r : Nat) : Fld := { addr := 0x48014 + r * 0x20, lo := 12, width := 8, acc := .wo }
/-- ITEM (R157). -/
def IMG_COMMIT_ITEM (r : Nat) : Fld := { addr := 0x48014 + r * 0x20, lo := 0, width := 12, acc := .wo }
/-- REPEATS (R158). -/
def IMG_CNT_REPEATS (r : Nat) : Fld := { addr := 0x48018 + r * 0x20, lo := 16, width := 16, acc := .rd }
/-- AGED_ITEMS (R158). -/
def IMG_CNT_AGED_ITEMS (r : Nat) : Fld := { addr := 0x48018 + r * 0x20, lo := 0, width := 16, acc := .rd }
/-- MAP_SUMMARY.RULES (R159). -/
def MAP_SUMMARY_RULES : Fld := { addr := 0x4a000, lo := 0, width := 13, acc := .rd }
/-- MAP_LATE.LATE_CNT (R159). -/
def MAP_LATE_LATE_CNT : Fld := { addr := 0x4a004, lo := 16, width := 16, acc := .rd }
/-- MAP_LATE.LAST (R159). -/
def MAP_LATE_LAST : Fld := { addr := 0x4a004, lo := 0, width := 12, acc := .rd }
/-- MAP_FLAGS.LATE (R159). -/
def MAP_FLAGS_LATE : Fld := { addr := 0x4a008, lo := 1, width := 1, acc := .w1c }
/-- MAP_FLAGS.CONV_SAT (R159). -/
def MAP_FLAGS_CONV_SAT : Fld := { addr := 0x4a008, lo := 0, width := 1, acc := .w1c }
/-- MAP_SAT_CNT (R159). -/
def MAP_SAT_CNT : Fld := { addr := 0x4a00c, lo := 0, width := 16, acc := .rd }
/-- CFG_LOCK (R489). -/
def BANK_OWNER_CFG_LOCK (n : Nat) : Fld := { addr := 0x40000 + n * 0x10, lo := 31, width := 1, acc := .rd }
/-- PEND (R489). -/
def BANK_OWNER_PEND (n : Nat) : Fld := { addr := 0x40000 + n * 0x10, lo := 12, width := 1, acc := .rd }
/-- PEND_AGENT (R489). -/
def BANK_OWNER_PEND_AGENT (n : Nat) : Fld := { addr := 0x40000 + n * 0x10, lo := 8, width := 4, acc := .rd }
/-- AGENT (R489). -/
def BANK_OWNER_AGENT (n : Nat) : Fld := { addr := 0x40000 + n * 0x10, lo := 0, width := 4, acc := .rd, reset := 14 }
/-- NOW (R490). -/
def BANK_HANDOVER_NOW (n : Nat) : Fld := { addr := 0x40004 + n * 0x10, lo := 4, width := 1, acc := .wo }
/-- TO (R490). -/
def BANK_HANDOVER_TO (n : Nat) : Fld := { addr := 0x40004 + n * 0x10, lo := 0, width := 4, acc := .wo, vmin := 0, vmax := 14 }
/-- STATE (R491). -/
def BANK_POWER_STATE (n : Nat) : Fld := { addr := 0x40008 + n * 0x10, lo := 8, width := 2, acc := .rd }
/-- REQ (R491). -/
def BANK_POWER_REQ (n : Nat) : Fld := { addr := 0x40008 + n * 0x10, lo := 0, width := 2, acc := .rw, keep := true, vmin := 0, vmax := 2 }
/-- CE_CNT (R492). -/
def BANK_STATUS_CE_CNT (n : Nat) : Fld := { addr := 0x4000c + n * 0x10, lo := 16, width := 16, acc := .rd }
/-- UE (R492). -/
def BANK_STATUS_UE (n : Nat) : Fld := { addr := 0x4000c + n * 0x10, lo := 5, width := 1, acc := .w1c }
/-- CE (R492). -/
def BANK_STATUS_CE (n : Nat) : Fld := { addr := 0x4000c + n * 0x10, lo := 4, width := 1, acc := .w1c }
/-- WL_C (R492). -/
def BANK_STATUS_WL_C (n : Nat) : Fld := { addr := 0x4000c + n * 0x10, lo := 3, width := 1, acc := .w1c }
/-- WL_A (R492). -/
def BANK_STATUS_WL_A (n : Nat) : Fld := { addr := 0x4000c + n * 0x10, lo := 2, width := 1, acc := .w1c }
/-- WL_B (R492). -/
def BANK_STATUS_WL_B (n : Nat) : Fld := { addr := 0x4000c + n * 0x10, lo := 1, width := 1, acc := .w1c }
/-- FAULT (R492). -/
def BANK_STATUS_FAULT (n : Nat) : Fld := { addr := 0x4000c + n * 0x10, lo := 0, width := 1, acc := .w1c }
/-- ORCH_FAULT_INFO[q].VALID (R493). -/
def ORCH_FAULT_INFO_VALID (q : Nat) : Fld := { addr := 0x41000 + q * 0x10, lo := 31, width := 1, acc := .w1c }
/-- ORCH_FAULT_INFO[q].CAUSE (R493). -/
def ORCH_FAULT_INFO_CAUSE (q : Nat) : Fld := { addr := 0x41000 + q * 0x10, lo := 28, width := 3, acc := .rd }
/-- ORCH_FAULT_INFO[q].PORT (R493). -/
def ORCH_FAULT_INFO_PORT (q : Nat) : Fld := { addr := 0x41000 + q * 0x10, lo := 26, width := 2, acc := .rd }
/-- ORCH_FAULT_INFO[q].BANK (R493). -/
def ORCH_FAULT_INFO_BANK (q : Nat) : Fld := { addr := 0x41000 + q * 0x10, lo := 24, width := 2, acc := .rd }
/-- ORCH_FAULT_INFO[q].WRITE (R493). -/
def ORCH_FAULT_INFO_WRITE (q : Nat) : Fld := { addr := 0x41000 + q * 0x10, lo := 23, width := 1, acc := .rd }
/-- ORCH_FAULT_INFO[q].AGENT (R493). -/
def ORCH_FAULT_INFO_AGENT (q : Nat) : Fld := { addr := 0x41000 + q * 0x10, lo := 16, width := 4, acc := .rd }
/-- ORCH_FAULT_INFO[q].ENGINE (R493). -/
def ORCH_FAULT_INFO_ENGINE (q : Nat) : Fld := { addr := 0x41000 + q * 0x10, lo := 8, width := 6, acc := .rd }
/-- ORCH_FAULT_ADDR[q] (R493). -/
def ORCH_FAULT_ADDR (q : Nat) : Fld := { addr := 0x41004 + q * 0x10, lo := 0, width := 19, acc := .rd }
/-- ORCH_FAULT_CNT[q] (R493). -/
def ORCH_FAULT_CNT (q : Nat) : Fld := { addr := 0x41008 + q * 0x10, lo := 0, width := 32, acc := .rd }
/-- ORCH_EVT_EN[q] (R493). -/
def ORCH_EVT_EN (q : Nat) : Fld := { addr := 0x4100c + q * 0x10, lo := 0, width := 6, acc := .rw, reset := 47 }
/-- ORCH_CTRL.SCRUB_INTERVAL (R494). -/
def ORCH_CTRL_SCRUB_INTERVAL : Fld := { addr := 0x42000, lo := 2, width := 16, acc := .rw, reset := 4096, vmin := 64, vmax := 65535 }
/-- ORCH_CTRL.CLR_CNT (R494). -/
def ORCH_CTRL_CLR_CNT : Fld := { addr := 0x42000, lo := 1, width := 1, acc := .wo }
/-- ORCH_CTRL.SCRUB_EN (R494). -/
def ORCH_CTRL_SCRUB_EN : Fld := { addr := 0x42000, lo := 0, width := 1, acc := .rw, reset := 1 }
/-- ORCH_SCRUB.PASSES (R494). -/
def ORCH_SCRUB_PASSES : Fld := { addr := 0x42004, lo := 0, width := 32, acc := .rd }
/-- OWNED (R580). -/
def OWN_STATUS_OWNED : Fld := { addr := 0x10000, lo := 31, width := 1, acc := .rd }
/-- PORT (R580). -/
def OWN_STATUS_PORT : Fld := { addr := 0x10000, lo := 28, width := 3, acc := .rd }
/-- CHANGES (R580). -/
def OWN_STATUS_CHANGES : Fld := { addr := 0x10000, lo := 0, width := 16, acc := .rd, keep := true }
/-- OWN_TIMEOUT (R581). -/
def OWN_TIMEOUT : Fld := { addr := 0x10004, lo := 0, width := 16, acc := .rd, reset := 10000, keep := true }
/-- OWN_LEFT (R581). -/
def OWN_LEFT : Fld := { addr := 0x10008, lo := 0, width := 16, acc := .rd }
/-- REFUSED (R582). -/
def OWN_PORT_REFUSED (i : Nat) : Fld := { addr := 0x10010 + i * 0x4, lo := 16, width := 16, acc := .rd }
/-- CLASS (R582). -/
def OWN_PORT_CLASS (i : Nat) : Fld := { addr := 0x10010 + i * 0x4, lo := 0, width := 2, acc := .rd, reset := if i < 2 then 2 else 0, keep := true }
/-- WR_DENIED (R583). -/
def OWN_EVT_WR_DENIED : Fld := { addr := 0x10020, lo := 2, width := 1, acc := .w1c }
/-- LAPSED (R583). -/
def OWN_EVT_LAPSED : Fld := { addr := 0x10020, lo := 1, width := 1, acc := .w1c }
/-- CHANGED (R583). -/
def OWN_EVT_CHANGED : Fld := { addr := 0x10020, lo := 0, width := 1, acc := .w1c }
/-- MGMT_VID (R584). -/
def MGMT_VID : Fld := { addr := 0x10030, lo := 0, width := 12, acc := .rd, keep := true }
/-- MGMT_PORTS (R584). -/
def MGMT_PORTS : Fld := { addr := 0x10034, lo := 0, width := 26, acc := .rd, keep := true }
/-- MGMT_MAC (R584). -/
def MGMT_MAC : Fld := { addr := 0x10038, lo := 0, width := 48, acc := .rd, keep := true }
/-- QSPI_CFG.DUMMY (R584). -/
def QSPI_CFG_DUMMY : Fld := { addr := 0x10040, lo := 0, width := 5, acc := .rw, reset := 8, vmin := 4, vmax := 31 }
/-- MB_POST[n][d].GO (R586). -/
def MB_POST_GO (n : Nat) (d : Nat) : Fld := { addr := 0x20200 + n * 0x1000 + d * 0x40, lo := 31, width := 1, acc := .w1s }
/-- MB_POST[n][d].MORE (R586). -/
def MB_POST_MORE (n : Nat) (d : Nat) : Fld := { addr := 0x20200 + n * 0x1000 + d * 0x40, lo := 16, width := 1, acc := .rw }
/-- MB_POST[n][d].LEN (R586). -/
def MB_POST_LEN (n : Nat) (d : Nat) : Fld := { addr := 0x20200 + n * 0x1000 + d * 0x40, lo := 0, width := 9, acc := .rw, reset := 1, vmin := 1, vmax := 256 }
/-- MB_STATUS[n][d].ORPHAN_ACK (R586). -/
def MB_STATUS_ORPHAN_ACK (n : Nat) (d : Nat) : Fld := { addr := 0x20204 + n * 0x1000 + d * 0x40, lo := 16, width := 16, acc := .rd }
/-- MB_STATUS[n][d].LATE_ACK (R586). -/
def MB_STATUS_LATE_ACK (n : Nat) (d : Nat) : Fld := { addr := 0x20204 + n * 0x1000 + d * 0x40, lo := 6, width := 1, acc := .w1c }
/-- MB_STATUS[n][d].WR_REJ (R586). -/
def MB_STATUS_WR_REJ (n : Nat) (d : Nat) : Fld := { addr := 0x20204 + n * 0x1000 + d * 0x40, lo := 5, width := 1, acc := .w1c }
/-- MB_STATUS[n][d].WAKING (R586). -/
def MB_STATUS_WAKING (n : Nat) (d : Nat) : Fld := { addr := 0x20204 + n * 0x1000 + d * 0x40, lo := 4, width := 1, acc := .rd }
/-- MB_STATUS[n][d].CROSSED (R586). -/
def MB_STATUS_CROSSED (n : Nat) (d : Nat) : Fld := { addr := 0x20204 + n * 0x1000 + d * 0x40, lo := 3, width := 1, acc := .w1c }
/-- MB_STATUS[n][d].TIMEOUT (R586). -/
def MB_STATUS_TIMEOUT (n : Nat) (d : Nat) : Fld := { addr := 0x20204 + n * 0x1000 + d * 0x40, lo := 2, width := 1, acc := .w1c }
/-- MB_STATUS[n][d].ACKED (R586). -/
def MB_STATUS_ACKED (n : Nat) (d : Nat) : Fld := { addr := 0x20204 + n * 0x1000 + d * 0x40, lo := 1, width := 1, acc := .rd }
/-- MB_STATUS[n][d].POSTED (R586). -/
def MB_STATUS_POSTED (n : Nat) (d : Nat) : Fld := { addr := 0x20204 + n * 0x1000 + d * 0x40, lo := 0, width := 1, acc := .rd }
/-- MB_ACK[n][d].CODE (R586). -/
def MB_ACK_CODE (n : Nat) (d : Nat) : Fld := { addr := 0x20208 + n * 0x1000 + d * 0x40, lo := 0, width := 16, acc := .rw, vmin := 0, vmax := 15 }
/-- MB_TIMEOUT[n][d] (R586). -/
def MB_TIMEOUT (n : Nat) (d : Nat) : Fld := { addr := 0x2020c + n * 0x1000 + d * 0x40, lo := 0, width := 32, acc := .rw }
/-- MB_WITHDRAW[n][d] (R586). -/
def MB_WITHDRAW (n : Nat) (d : Nat) : Fld := { addr := 0x20210 + n * 0x1000 + d * 0x40, lo := 0, width := 1, acc := .wo }
/-- MB_ELAPSED[n][d] (R586). -/
def MB_ELAPSED (n : Nat) (d : Nat) : Fld := { addr := 0x20214 + n * 0x1000 + d * 0x40, lo := 0, width := 32, acc := .rd }
/-- MB_CFG[n].VALID (R587). -/
def MB_CFG_VALID (n : Nat) : Fld := { addr := 0x20300 + n * 0x1000, lo := 31, width := 1, acc := .rd, reset := if n < 2 then 1 else 0 }
/-- MB_CFG[n].HOST (R587). -/
def MB_CFG_HOST (n : Nat) : Fld := { addr := 0x20300 + n * 0x1000, lo := 30, width := 1, acc := .rd, reset := if n = 1 then 1 else 0 }
/-- MB_CFG[n].BRIDLE (R587). -/
def MB_CFG_BRIDLE (n : Nat) : Fld := { addr := 0x20300 + n * 0x1000, lo := 29, width := 1, acc := .rd, reset := if n < 2 then 1 else 0 }
/-- MB_CFG[n].ENGINE (R587). -/
def MB_CFG_ENGINE (n : Nat) : Fld := { addr := 0x20300 + n * 0x1000, lo := 8, width := 6, acc := .rd }
/-- MB_CFG[n].LINE (R587). -/
def MB_CFG_LINE (n : Nat) : Fld := { addr := 0x20300 + n * 0x1000, lo := 0, width := 5, acc := .rd, reset := 16 }
/-- MB_EVT_EN[n].CROSSED (R587). -/
def MB_EVT_EN_CROSSED (n : Nat) : Fld := { addr := 0x20304 + n * 0x1000, lo := 3, width := 1, acc := .rw, reset := 1 }
/-- MB_EVT_EN[n].H2D_TIMEOUT (R587). -/
def MB_EVT_EN_H2D_TIMEOUT (n : Nat) : Fld := { addr := 0x20304 + n * 0x1000, lo := 2, width := 1, acc := .rw, reset := 1 }
/-- MB_EVT_EN[n].H2D_ACKED (R587). -/
def MB_EVT_EN_H2D_ACKED (n : Nat) : Fld := { addr := 0x20304 + n * 0x1000, lo := 1, width := 1, acc := .rw, reset := 1 }
/-- MB_EVT_EN[n].D2H_POSTED (R587). -/
def MB_EVT_EN_D2H_POSTED (n : Nat) : Fld := { addr := 0x20304 + n * 0x1000, lo := 0, width := 1, acc := .rw, reset := 1 }
/-- SEC_STATUS.LIFECYCLE (R686). -/
def SEC_STATUS_LIFECYCLE : Fld := { addr := 0x400, lo := 30, width := 2, acc := .rd, reset := 1, keep := true }
/-- SEC_STATUS.RECOVERY (R686). -/
def SEC_STATUS_RECOVERY : Fld := { addr := 0x400, lo := 29, width := 1, acc := .rd }
/-- SEC_STATUS.CUST_ROOT (R686). -/
def SEC_STATUS_CUST_ROOT : Fld := { addr := 0x400, lo := 28, width := 1, acc := .rd, keep := true }
/-- SEC_STATUS.KEY_VALID (R686). -/
def SEC_STATUS_KEY_VALID : Fld := { addr := 0x400, lo := 27, width := 1, acc := .rd }
/-- SEC_STATUS.STORED_VALID (R686). -/
def SEC_STATUS_STORED_VALID : Fld := { addr := 0x400, lo := 26, width := 1, acc := .rd }
/-- SEC_STATUS.SESSION (R686). -/
def SEC_STATUS_SESSION : Fld := { addr := 0x400, lo := 25, width := 1, acc := .rd }
/-- SEC_STATUS.RECORD_BAD (R686). -/
def SEC_STATUS_RECORD_BAD : Fld := { addr := 0x400, lo := 24, width := 1, acc := .rd }
/-- SEC_STATUS.FLOOR (R686). -/
def SEC_STATUS_FLOOR : Fld := { addr := 0x400, lo := 16, width := 8, acc := .rd, keep := true }
/-- SEC_STATUS.COMPAT_EPOCH (R686). -/
def SEC_STATUS_COMPAT_EPOCH : Fld := { addr := 0x400, lo := 8, width := 8, acc := .rd }
/-- SEC_STATUS.HN_EPOCH (R686). -/
def SEC_STATUS_HN_EPOCH : Fld := { addr := 0x400, lo := 0, width := 8, acc := .rd }
/-- SEC_SIG_LEFT (R686). -/
def SEC_SIG_LEFT : Fld := { addr := 0x404, lo := 0, width := 21, acc := .rd, reset := 1048576, keep := true }
/-- SEC_VERSION (R686). -/
def SEC_VERSION : Fld := { addr := 0x408, lo := 0, width := 32, acc := .rd }
/-- SEC_UPD_BYTES (R686). -/
def SEC_UPD_BYTES : Fld := { addr := 0x40c, lo := 0, width := 32, acc := .rd }
/-- SEC_BOOT.RESULT (R686). -/
def SEC_BOOT_RESULT : Fld := { addr := 0x410, lo := 28, width := 4, acc := .rd }
/-- SEC_BOOT.BLOCK (R686). -/
def SEC_BOOT_BLOCK : Fld := { addr := 0x410, lo := 0, width := 11, acc := .rd }
/-- LIFECYCLE (R687). -/
def SEC_EVT_LIFECYCLE : Fld := { addr := 0x420, lo := 7, width := 1, acc := .w1c }
/-- SIG_LOW (R687). -/
def SEC_EVT_SIG_LOW : Fld := { addr := 0x420, lo := 6, width := 1, acc := .w1c }
/-- EPOCH_REFUSE (R687). -/
def SEC_EVT_EPOCH_REFUSE : Fld := { addr := 0x420, lo := 5, width := 1, acc := .w1c }
/-- ACTIVATED (R687). -/
def SEC_EVT_ACTIVATED : Fld := { addr := 0x420, lo := 4, width := 1, acc := .w1c }
/-- AUTH (R687). -/
def SEC_EVT_AUTH : Fld := { addr := 0x420, lo := 3, width := 1, acc := .w1c }
/-- BLOCK_FAIL (R687). -/
def SEC_EVT_BLOCK_FAIL : Fld := { addr := 0x420, lo := 2, width := 1, acc := .w1c }
/-- SESSION (R687). -/
def SEC_EVT_SESSION : Fld := { addr := 0x420, lo := 0, width := 1, acc := .w1c }
/-- SYS_ID.DEVICE (R710). -/
def SYS_ID_DEVICE : Fld := { addr := 0x0, lo := 16, width := 16, acc := .rd, reset := 18496 }
/-- SYS_ID.STEP (R710). -/
def SYS_ID_STEP : Fld := { addr := 0x0, lo := 8, width := 8, acc := .rd, reset := 161 }
/-- SYS_ID.ORDERING (R710). -/
def SYS_ID_ORDERING : Fld := { addr := 0x0, lo := 0, width := 8, acc := .rd, keep := true }
/-- SYS_DIAG.ECC_SRC (R710). -/
def SYS_DIAG_ECC_SRC : Fld := { addr := 0x10, lo := 28, width := 4, acc := .rd }
/-- SYS_DIAG.BRIDLE_FAULT (R710). -/
def SYS_DIAG_BRIDLE_FAULT : Fld := { addr := 0x10, lo := 5, width := 1, acc := .w1c }
/-- SYS_DIAG.ECC_UNCORR (R710). -/
def SYS_DIAG_ECC_UNCORR : Fld := { addr := 0x10, lo := 4, width := 1, acc := .w1c }
/-- SYS_DIAG.CLK_LOSS (R710). -/
def SYS_DIAG_CLK_LOSS : Fld := { addr := 0x10, lo := 3, width := 1, acc := .w1c }
/-- SYS_DIAG.THERM_WARN (R710). -/
def SYS_DIAG_THERM_WARN : Fld := { addr := 0x10, lo := 2, width := 1, acc := .w1c }
/-- SYS_DIAG.STRAP_ERR (R710). -/
def SYS_DIAG_STRAP_ERR : Fld := { addr := 0x10, lo := 1, width := 1, acc := .w1c }
/-- SYS_DIAG.REG_RSV_WRITE (R710). -/
def SYS_DIAG_REG_RSV_WRITE : Fld := { addr := 0x10, lo := 0, width := 1, acc := .w1c }
/-- SYS_RESET_CAUSE (R710). -/
def SYS_RESET_CAUSE : Fld := { addr := 0x14, lo := 0, width := 6, acc := .w1c, reset := 1, keep := true }
/-- SYS_STRAP.BOOT_SEL (R710). -/
def SYS_STRAP_BOOT_SEL : Fld := { addr := 0x18, lo := 0, width := 3, acc := .rd, reset := 1, keep := true }
/-- SYS_TEMP (R710). -/
def SYS_TEMP : Fld := { addr := 0x1c, lo := 0, width := 16, acc := .rd }
/-- SYS_THERM.WARN (R710). -/
def SYS_THERM_WARN : Fld := { addr := 0x20, lo := 0, width := 16, acc := .rw, reset := 460 }
/-- SYS_CLK.REF156_OK (R710). -/
def SYS_CLK_REF156_OK : Fld := { addr := 0x24, lo := 2, width := 1, acc := .rd }
/-- SYS_CLK.REF25_OK (R710). -/
def SYS_CLK_REF25_OK : Fld := { addr := 0x24, lo := 1, width := 1, acc := .rd, reset := 1 }
/-- SYS_CLK.RTC_OK (R710). -/
def SYS_CLK_RTC_OK : Fld := { addr := 0x24, lo := 0, width := 1, acc := .rd }
/-- SYS_RSV_INFO.MAP (R710). -/
def SYS_RSV_INFO_MAP : Fld := { addr := 0x28, lo := 30, width := 2, acc := .rd }
/-- SYS_RSV_INFO.AGENT (R710). -/
def SYS_RSV_INFO_AGENT : Fld := { addr := 0x28, lo := 26, width := 4, acc := .rd }
/-- SYS_RSV_INFO.OFFSET (R710). -/
def SYS_RSV_INFO_OFFSET : Fld := { addr := 0x28, lo := 0, width := 26, acc := .rd }
/-- EV_CFG[i].CNT (R711). -/
def EV_CFG_CNT (i : Nat) : Fld := { addr := 0x30000 + i * 0x4, lo := 16, width := 16, acc := .rd }
/-- EV_CFG[i].EN (R711). -/
def EV_CFG_EN (i : Nat) : Fld := { addr := 0x30000 + i * 0x4, lo := 15, width := 1, acc := .rw }
/-- EV_CFG[i].KIND (R711). -/
def EV_CFG_KIND (i : Nat) : Fld := { addr := 0x30000 + i * 0x4, lo := 13, width := 2, acc := .rw }
/-- EV_CFG[i].ENGINE (R711). -/
def EV_CFG_ENGINE (i : Nat) : Fld := { addr := 0x30000 + i * 0x4, lo := 4, width := 6, acc := .rw }
/-- EV_CFG[i].TARGET (R711). -/
def EV_CFG_TARGET (i : Nat) : Fld := { addr := 0x30000 + i * 0x4, lo := 0, width := 4, acc := .rw }
/-- EV_STATUS[w] (R711). -/
def EV_STATUS (w : Nat) : Fld := { addr := 0x30400 + w * 0x4, lo := 0, width := 32, acc := .w1c }
/-- EV_PENDING[w] (R711). -/
def EV_PENDING (w : Nat) : Fld := { addr := 0x30420 + w * 0x4, lo := 0, width := 32, acc := .rd }
/-- EV_CTRL.CLR_CNT (R711). -/
def EV_CTRL_CLR_CNT : Fld := { addr := 0x30440, lo := 0, width := 1, acc := .wo }
/-- EV_IRQ_STATUS (R711). -/
def EV_IRQ_STATUS : Fld := { addr := 0x30444, lo := 0, width := 4, acc := .rd }
/-- MSI-X address low (R693) (R711). -/
def MSIX_ADDR_LO (v : Nat) : Fld := { addr := 0x38000 + v * 0x10, lo := 0, width := 32, acc := .rw }
/-- MSI-X address high (R693) (R711). -/
def MSIX_ADDR_HI (v : Nat) : Fld := { addr := 0x38004 + v * 0x10, lo := 0, width := 32, acc := .rw }
/-- MSI-X data (R693) (R711). -/
def MSIX_DATA (v : Nat) : Fld := { addr := 0x38008 + v * 0x10, lo := 0, width := 32, acc := .rw }
/-- MSI-X vector mask; every vector is masked after reset (R693) (R711). -/
def MSIX_CTRL_MASK (v : Nat) : Fld := { addr := 0x3800c + v * 0x10, lo := 0, width := 1, acc := .rw, reset := 1 }
/-- MSI-X pending bits (R711). -/
def MSIX_PBA : Fld := { addr := 0x39000, lo := 0, width := 16, acc := .rd }
/-- enable of SEC_EVT [0] (R687). -/
def SEC_EVT_EN0 : Fld := { addr := 0x424, lo := 0, width := 1, acc := .rw, reset := 1 }
/-- enables of SEC_EVT [7:2] (R687). -/
def SEC_EVT_EN : Fld := { addr := 0x424, lo := 2, width := 6, acc := .rw, reset := 0x3F }
/-- enables of OWN_EVT (R583). -/
def OWN_EVT_EN : Fld := { addr := 0x10024, lo := 0, width := 3, acc := .rw, reset := 7 }

end Sys2Proof.Machine.R
end

