-- ==== Sys2Proof/Machine/RegsNet.lean ====
section
/-! DEFINITION. The registers of BAR0 blocks 0xC to 0xE (switch, port MACs and Harness, power), field by field, as the register tables of the spec give them
(offset, bits, access, reset value, survival of WARM_N). Each name is the manual's REGISTER_FIELD; an argument is the
register's index. Each docstring names the rule of spec/ whose table lists the field. -/

namespace Sys2Proof.Machine.R

/-- SWM_HTXR_BASE (R190). -/
def SWM_HTXR_BASE : Fld := { addr := 0xc0800, lo := 0, width := 19, acc := .rw }
/-- SWM_HTXR_CFG.COUNT (R190). -/
def SWM_HTXR_CFG_COUNT : Fld := { addr := 0xc0804, lo := 0, width := 11, acc := .rw, vmin := 0, vmax := 1024 }
/-- SWM_HTX_TAIL (R190). -/
def SWM_HTX_TAIL : Fld := { addr := 0xc0808, lo := 0, width := 11, acc := .rw }
/-- SWM_HTX_HEAD (R190). -/
def SWM_HTX_HEAD : Fld := { addr := 0xc080c, lo := 0, width := 11, acc := .rd }
/-- SWM_HRXR_BASE (R190). -/
def SWM_HRXR_BASE : Fld := { addr := 0xc0810, lo := 0, width := 19, acc := .rw }
/-- SWM_HRXR_CFG.BUF_UNITS (R190). -/
def SWM_HRXR_CFG_BUF_UNITS : Fld := { addr := 0xc0814, lo := 16, width := 9, acc := .rw, reset := 24, vmin := 1, vmax := 256 }
/-- SWM_HRXR_CFG.COUNT (R190). -/
def SWM_HRXR_CFG_COUNT : Fld := { addr := 0xc0814, lo := 0, width := 11, acc := .rw, vmin := 0, vmax := 1024 }
/-- SWM_HRX_NEXT (R190). -/
def SWM_HRX_NEXT : Fld := { addr := 0xc0818, lo := 0, width := 11, acc := .rd }
/-- SWM_CAP_BASE (R190). -/
def SWM_CAP_BASE : Fld := { addr := 0xc0820, lo := 0, width := 19, acc := .rw }
/-- SWM_CAP_CFG.EN (R190). -/
def SWM_CAP_CFG_EN : Fld := { addr := 0xc0824, lo := 31, width := 1, acc := .rw }
/-- SWM_CAP_CFG.WRAP (R190). -/
def SWM_CAP_CFG_WRAP : Fld := { addr := 0xc0824, lo := 30, width := 1, acc := .rw, reset := 1 }
/-- SWM_CAP_CFG.SIZE (R190). -/
def SWM_CAP_CFG_SIZE : Fld := { addr := 0xc0824, lo := 0, width := 13, acc := .rw, reset := 1, vmin := 1, vmax := 8192 }
/-- SWM_CAP_PTR.WRAPPED (R190). -/
def SWM_CAP_PTR_WRAPPED : Fld := { addr := 0xc0828, lo := 31, width := 1, acc := .w1c }
/-- SWM_CAP_PTR.OFFSET (R190). -/
def SWM_CAP_PTR_OFFSET : Fld := { addr := 0xc0828, lo := 0, width := 25, acc := .rd }
/-- SWM_CNT.HRX_DROP (R190). -/
def SWM_CNT_HRX_DROP : Fld := { addr := 0xc082c, lo := 16, width := 16, acc := .rd }
/-- SWM_CNT.CAP_DROP (R190). -/
def SWM_CNT_CAP_DROP : Fld := { addr := 0xc082c, lo := 0, width := 16, acc := .rd }
/-- CLR_CNT (R203). -/
def SW_CTRL_CLR_CNT : Fld := { addr := 0xc0000, lo := 0, width := 1, acc := .wo }
/-- SLOT (R204). -/
def SW_STATUS_SLOT : Fld := { addr := 0xc0004, lo := 10, width := 6, acc := .rd }
/-- CFG_ACTIVE (R204). -/
def SW_STATUS_CFG_ACTIVE : Fld := { addr := 0xc0004, lo := 1, width := 1, acc := .rd }
/-- READY (R204). -/
def SW_STATUS_READY : Fld := { addr := 0xc0004, lo := 0, width := 1, acc := .rd }
/-- CAP_FULL (R205). -/
def SW_EVT_CAP_FULL : Fld := { addr := 0xc0008, lo := 12, width := 1, acc := .w1c }
/-- HOST_TX (R205). -/
def SW_EVT_HOST_TX : Fld := { addr := 0xc0008, lo := 11, width := 1, acc := .w1c }
/-- HOST_RX (R205). -/
def SW_EVT_HOST_RX : Fld := { addr := 0xc0008, lo := 10, width := 1, acc := .w1c }
/-- SLOT_OVER (R205). -/
def SW_EVT_SLOT_OVER : Fld := { addr := 0xc0008, lo := 9, width := 1, acc := .w1c }
/-- FCS_MARK (R205). -/
def SW_EVT_FCS_MARK : Fld := { addr := 0xc0008, lo := 8, width := 1, acc := .w1c }
/-- ECC_UNCORR (R205). -/
def SW_EVT_ECC_UNCORR : Fld := { addr := 0xc0008, lo := 7, width := 1, acc := .w1c }
/-- ECC_CORR (R205). -/
def SW_EVT_ECC_CORR : Fld := { addr := 0xc0008, lo := 6, width := 1, acc := .w1c }
/-- MC_LOOP_DROP (R205). -/
def SW_EVT_MC_LOOP_DROP : Fld := { addr := 0xc0008, lo := 5, width := 1, acc := .w1c }
/-- SCHED_COLLIDE (R205). -/
def SW_EVT_SCHED_COLLIDE : Fld := { addr := 0xc0008, lo := 4, width := 1, acc := .w1c }
/-- UNDERRUN (R205). -/
def SW_EVT_UNDERRUN : Fld := { addr := 0xc0008, lo := 3, width := 1, acc := .w1c }
/-- BUF_DROP (R205). -/
def SW_EVT_BUF_DROP : Fld := { addr := 0xc0008, lo := 2, width := 1, acc := .w1c }
/-- LATE (R205). -/
def SW_EVT_LATE : Fld := { addr := 0xc0008, lo := 1, width := 1, acc := .w1c }
/-- AGE_DROP (R205). -/
def SW_EVT_AGE_DROP : Fld := { addr := 0xc0008, lo := 0, width := 1, acc := .w1c }
/-- SW_MIRROR.EN (R206). -/
def SW_MIRROR_EN : Fld := { addr := 0xc0010, lo := 15, width := 1, acc := .rw }
/-- SW_MIRROR.CLASS (R206). -/
def SW_MIRROR_CLASS : Fld := { addr := 0xc0010, lo := 8, width := 3, acc := .rw }
/-- SW_MIRROR.OUT_PORT (R206). -/
def SW_MIRROR_OUT_PORT : Fld := { addr := 0xc0010, lo := 0, width := 6, acc := .rw, vmin := 0, vmax := 38 }
/-- SW_MIRROR_SRC.LO (R206). -/
def SW_MIRROR_SRC_LO : Fld := { addr := 0xc0014, lo := 0, width := 32, acc := .rw }
/-- SW_MIRROR_SRC.HI (R206). -/
def SW_MIRROR_SRC_HI : Fld := { addr := 0xc0018, lo := 0, width := 8, acc := .rw }
/-- SCHED_RESV (R207). -/
def SW_BUF_CFG_SCHED_RESV : Fld := { addr := 0xc0020, lo := 16, width := 13, acc := .rd, reset := 640 }
/-- OUT_CAP (R207). -/
def SW_BUF_CFG_OUT_CAP : Fld := { addr := 0xc0020, lo := 0, width := 13, acc := .rd, reset := 512 }
/-- SW_CLASS_CFG[c].SCHED (R208). -/
def SW_CLASS_CFG_SCHED (c : Nat) : Fld := { addr := 0xc0100 + c * 0x10, lo := 31, width := 1, acc := .rd }
/-- SW_CLASS_CFG[c].CT (R208). -/
def SW_CLASS_CFG_CT (c : Nat) : Fld := { addr := 0xc0100 + c * 0x10, lo := 30, width := 1, acc := .rd }
/-- SW_CLASS_CFG[c].QUANTUM (R208). -/
def SW_CLASS_CFG_QUANTUM (c : Nat) : Fld := { addr := 0xc0100 + c * 0x10, lo := 0, width := 16, acc := .rd, reset := 1536 }
/-- SW_AGE_LIMIT[c].LIMIT (R208). -/
def SW_AGE_LIMIT_LIMIT (c : Nat) : Fld := { addr := 0xc0104 + c * 0x10, lo := 0, width := 20, acc := .rd, reset := 1000000 }
/-- SW_PORT_CNT[p].FRAMES_IN (R209). -/
def SW_PORT_CNT_FRAMES_IN (p : Nat) : Fld := { addr := 0xc1000 + p * 0x40, lo := 0, width := 32, acc := .rd }
/-- SW_PORT_CNT[p].FRAMES_OUT (R209). -/
def SW_PORT_CNT_FRAMES_OUT (p : Nat) : Fld := { addr := 0xc1004 + p * 0x40, lo := 0, width := 32, acc := .rd }
/-- SW_PORT_CNT[p].AGE_DROP (R209). -/
def SW_PORT_CNT_AGE_DROP (p : Nat) : Fld := { addr := 0xc1008 + p * 0x40, lo := 0, width := 32, acc := .rd }
/-- SW_PORT_CNT[p].LATE (R209). -/
def SW_PORT_CNT_LATE (p : Nat) : Fld := { addr := 0xc100c + p * 0x40, lo := 0, width := 32, acc := .rd }
/-- SW_PORT_CNT[p].BUF_DROP (R209). -/
def SW_PORT_CNT_BUF_DROP (p : Nat) : Fld := { addr := 0xc1010 + p * 0x40, lo := 0, width := 32, acc := .rd }
/-- SW_PORT_CNT[p].UNDERRUN (R209). -/
def SW_PORT_CNT_UNDERRUN (p : Nat) : Fld := { addr := 0xc1014 + p * 0x40, lo := 0, width := 32, acc := .rd }
/-- SW_PORT_CNT[p].SCHED_COLLIDE (R209). -/
def SW_PORT_CNT_SCHED_COLLIDE (p : Nat) : Fld := { addr := 0xc1018 + p * 0x40, lo := 0, width := 32, acc := .rd }
/-- SW_PORT_CNT[p].MC_LOOP (R209). -/
def SW_PORT_CNT_MC_LOOP (p : Nat) : Fld := { addr := 0xc101c + p * 0x40, lo := 0, width := 32, acc := .rd }
/-- SW_PORT_CNT[p].FCS_MARK (R209). -/
def SW_PORT_CNT_FCS_MARK (p : Nat) : Fld := { addr := 0xc1020 + p * 0x40, lo := 0, width := 32, acc := .rd }
/-- SW_PORT_CNT[p].SLOT_OVER (R209). -/
def SW_PORT_CNT_SLOT_OVER (p : Nat) : Fld := { addr := 0xc1024 + p * 0x40, lo := 0, width := 32, acc := .rd }
/-- SW_PORT_CNT[p].SCHED_MAX (R209). -/
def SW_PORT_CNT_SCHED_MAX (p : Nat) : Fld := { addr := 0xc1028 + p * 0x40, lo := 0, width := 32, acc := .rd }
/-- SW_PORT_CNT[p].SCHED_BUDGET (R209). -/
def SW_PORT_CNT_SCHED_BUDGET (p : Nat) : Fld := { addr := 0xc102c + p * 0x40, lo := 0, width := 32, acc := .rd }
/-- HWM (R210). -/
def SW_SLICE_HWM (k : Nat) : Fld := { addr := 0xc2000 + k * 0x4, lo := 16, width := 13, acc := .rd }
/-- FILL (R210). -/
def SW_SLICE_FILL (k : Nat) : Fld := { addr := 0xc2000 + k * 0x4, lo := 0, width := 13, acc := .rd }
/-- MASK_LO (R211). -/
def SW_MC_GROUP_MASK_LO (g : Nat) : Fld := { addr := 0xc4000 + g * 0x8, lo := 0, width := 32, acc := .rd }
/-- MASK_HI (R211). -/
def SW_MC_GROUP_MASK_HI (g : Nat) : Fld := { addr := 0xc4004 + g * 0x8, lo := 0, width := 8, acc := .rd }
/-- MODE (R263). -/
def PORT_CTRL_MODE (p : Nat) : Fld := { addr := 0xd0000 + p * 0x800, lo := 12, width := 4, acc := .rd }
/-- AN_RESTART (R263). -/
def PORT_CTRL_AN_RESTART (p : Nat) : Fld := { addr := 0xd0000 + p * 0x800, lo := 7, width := 1, acc := .wo }
/-- AN_EN (R263). -/
def PORT_CTRL_AN_EN (p : Nat) : Fld := { addr := 0xd0000 + p * 0x800, lo := 6, width := 1, acc := .rw, reset := 1 }
/-- MDIX (R263). -/
def PORT_CTRL_MDIX (p : Nat) : Fld := { addr := 0xd0000 + p * 0x800, lo := 4, width := 2, acc := .rw, vmin := 0, vmax := 2 }
/-- RGMII_RXID (R263). -/
def PORT_CTRL_RGMII_RXID (p : Nat) : Fld := { addr := 0xd0000 + p * 0x800, lo := 3, width := 1, acc := .rw }
/-- RGMII_TXID (R263). -/
def PORT_CTRL_RGMII_TXID (p : Nat) : Fld := { addr := 0xd0000 + p * 0x800, lo := 2, width := 1, acc := .rw }
/-- CLR_CNT (R263). -/
def PORT_CTRL_CLR_CNT (p : Nat) : Fld := { addr := 0xd0000 + p * 0x800, lo := 1, width := 1, acc := .wo }
/-- EN (R263). -/
def PORT_CTRL_EN (p : Nat) : Fld := { addr := 0xd0000 + p * 0x800, lo := 0, width := 1, acc := .rw }
/-- FAIL (R264). -/
def PORT_STATUS_FAIL (p : Nat) : Fld := { addr := 0xd0004 + p * 0x800, lo := 12, width := 4, acc := .rd }
/-- SPEED (R264). -/
def PORT_STATUS_SPEED (p : Nat) : Fld := { addr := 0xd0004 + p * 0x800, lo := 4, width := 2, acc := .rd }
/-- LPI_TX (R264). -/
def PORT_STATUS_LPI_TX (p : Nat) : Fld := { addr := 0xd0004 + p * 0x800, lo := 3, width := 1, acc := .rd }
/-- LPI_RX (R264). -/
def PORT_STATUS_LPI_RX (p : Nat) : Fld := { addr := 0xd0004 + p * 0x800, lo := 2, width := 1, acc := .rd }
/-- AN_DONE (R264). -/
def PORT_STATUS_AN_DONE (p : Nat) : Fld := { addr := 0xd0004 + p * 0x800, lo := 1, width := 1, acc := .rd }
/-- LINK (R264). -/
def PORT_STATUS_LINK (p : Nat) : Fld := { addr := 0xd0004 + p * 0x800, lo := 0, width := 1, acc := .rd }
/-- TS (R265). -/
def PORT_EVT_TS (p : Nat) : Fld := { addr := 0xd0008 + p * 0x800, lo := 11, width := 1, acc := .w1c }
/-- RED_ERR (R265). -/
def PORT_EVT_RED_ERR (p : Nat) : Fld := { addr := 0xd0008 + p * 0x800, lo := 10, width := 1, acc := .w1c }
/-- DIAG_DONE (R265). -/
def PORT_EVT_DIAG_DONE (p : Nat) : Fld := { addr := 0xd0008 + p * 0x800, lo := 9, width := 1, acc := .w1c }
/-- LEN_ERR (R265). -/
def PORT_EVT_LEN_ERR (p : Nat) : Fld := { addr := 0xd0008 + p * 0x800, lo := 8, width := 1, acc := .w1c }
/-- RIDE_LATE (R265). -/
def PORT_EVT_RIDE_LATE (p : Nat) : Fld := { addr := 0xd0008 + p * 0x800, lo := 7, width := 1, acc := .w1c }
/-- VERIFY_FAIL (R265). -/
def PORT_EVT_VERIFY_FAIL (p : Nat) : Fld := { addr := 0xd0008 + p * 0x800, lo := 6, width := 1, acc := .w1c }
/-- CFG_REJ (R265). -/
def PORT_EVT_CFG_REJ (p : Nat) : Fld := { addr := 0xd0008 + p * 0x800, lo := 5, width := 1, acc := .w1c }
/-- SWITCH_LATE (R265). -/
def PORT_EVT_SWITCH_LATE (p : Nat) : Fld := { addr := 0xd0008 + p * 0x800, lo := 4, width := 1, acc := .w1c }
/-- GATE_SWITCHED (R265). -/
def PORT_EVT_GATE_SWITCHED (p : Nat) : Fld := { addr := 0xd0008 + p * 0x800, lo := 3, width := 1, acc := .w1c }
/-- GATE_OVERRUN (R265). -/
def PORT_EVT_GATE_OVERRUN (p : Nat) : Fld := { addr := 0xd0008 + p * 0x800, lo := 2, width := 1, acc := .w1c }
/-- RX_ERR (R265). -/
def PORT_EVT_RX_ERR (p : Nat) : Fld := { addr := 0xd0008 + p * 0x800, lo := 1, width := 1, acc := .w1c }
/-- LINK_CHG (R265). -/
def PORT_EVT_LINK_CHG (p : Nat) : Fld := { addr := 0xd0008 + p * 0x800, lo := 0, width := 1, acc := .w1c }
/-- MAX_FRAME[p] (R266). -/
def MAX_FRAME (p : Nat) : Fld := { addr := 0xd0010 + p * 0x800, lo := 0, width := 15, acc := .rd, reset := 1522 }
/-- VLAN_CFG[p].DEF_PCP (R266). -/
def VLAN_CFG_DEF_PCP (p : Nat) : Fld := { addr := 0xd0014 + p * 0x800, lo := 12, width := 3, acc := .rd }
/-- VLAN_CFG[p].PVID (R266). -/
def VLAN_CFG_PVID (p : Nat) : Fld := { addr := 0xd0014 + p * 0x800, lo := 0, width := 12, acc := .rd, reset := 1 }
/-- PORT_DEFAULT[p].CLASS (R266). -/
def PORT_DEFAULT_CLASS (p : Nat) : Fld := { addr := 0xd0018 + p * 0x800, lo := 16, width := 3, acc := .rd }
/-- PORT_DEFAULT[p].GROUP (R266). -/
def PORT_DEFAULT_GROUP (p : Nat) : Fld := { addr := 0xd0018 + p * 0x800, lo := 15, width := 1, acc := .rd }
/-- PORT_DEFAULT[p].DISCARD (R266). -/
def PORT_DEFAULT_DISCARD (p : Nat) : Fld := { addr := 0xd0018 + p * 0x800, lo := 14, width := 1, acc := .rd, reset := 1 }
/-- PORT_DEFAULT[p].DEST (R266). -/
def PORT_DEFAULT_DEST (p : Nat) : Fld := { addr := 0xd0018 + p * 0x800, lo := 0, width := 12, acc := .rd }
/-- GATE_CTRL[p].ARM (R266). -/
def GATE_CTRL_ARM (p : Nat) : Fld := { addr := 0xd0020 + p * 0x800, lo := 3, width := 1, acc := .w1s }
/-- GATE_CTRL[p].FIRST (R266). -/
def GATE_CTRL_FIRST (p : Nat) : Fld := { addr := 0xd0020 + p * 0x800, lo := 2, width := 1, acc := .rw }
/-- GATE_CTRL[p].EN (R266). -/
def GATE_CTRL_EN (p : Nat) : Fld := { addr := 0xd0020 + p * 0x800, lo := 0, width := 1, acc := .rw }
/-- GATE_STATUS[p].GATES (R266). -/
def GATE_STATUS_GATES (p : Nat) : Fld := { addr := 0xd0024 + p * 0x800, lo := 24, width := 8, acc := .rd, reset := 255 }
/-- GATE_STATUS[p].ENTRY (R266). -/
def GATE_STATUS_ENTRY (p : Nat) : Fld := { addr := 0xd0024 + p * 0x800, lo := 4, width := 10, acc := .rd }
/-- GATE_STATUS[p].ARMED (R266). -/
def GATE_STATUS_ARMED (p : Nat) : Fld := { addr := 0xd0024 + p * 0x800, lo := 3, width := 1, acc := .rd }
/-- GATE_STATUS[p].OPER (R266). -/
def GATE_STATUS_OPER (p : Nat) : Fld := { addr := 0xd0024 + p * 0x800, lo := 2, width := 1, acc := .rd }
/-- GATE_STATUS[p].ACTIVE (R266). -/
def GATE_STATUS_ACTIVE (p : Nat) : Fld := { addr := 0xd0024 + p * 0x800, lo := 0, width := 1, acc := .rd }
/-- GATE_IDLE[p] (R266). -/
def GATE_IDLE (p : Nat) : Fld := { addr := 0xd0028 + p * 0x800, lo := 0, width := 8, acc := .rw, reset := 255 }
/-- GCL_ADDR[p].LIST (R266). -/
def GCL_ADDR_LIST (p : Nat) : Fld := { addr := 0xd002c + p * 0x800, lo := 10, width := 1, acc := .rw }
/-- GCL_ADDR[p].INDEX (R266). -/
def GCL_ADDR_INDEX (p : Nat) : Fld := { addr := 0xd002c + p * 0x800, lo := 0, width := 10, acc := .rw }
/-- GCL_DATA[p] (R266). -/
def GCL_DATA (p : Nat) : Fld := { addr := 0xd0030 + p * 0x800, lo := 0, width := 32, acc := .rw }
/-- GCL_BASE[p][l] word LO (R266). -/
def GCL_BASE_LO (p : Nat) (l : Nat) : Fld := { addr := 0xd0040 + p * 0x800 + l * 0x20, lo := 0, width := 32, acc := .rw }
/-- GCL_BASE[p][l] word HI (R266). -/
def GCL_BASE_HI (p : Nat) (l : Nat) : Fld := { addr := 0xd0044 + p * 0x800 + l * 0x20, lo := 0, width := 32, acc := .rw }
/-- GCL_BASE[p][l] word XHI (R266). -/
def GCL_BASE_XHI (p : Nat) (l : Nat) : Fld := { addr := 0xd0048 + p * 0x800 + l * 0x20, lo := 0, width := 32, acc := .rw }
/-- GCL_CYCLE[p][l] (R266). -/
def GCL_CYCLE (p : Nat) (l : Nat) : Fld := { addr := 0xd004c + p * 0x800 + l * 0x20, lo := 0, width := 32, acc := .rw, reset := 1000000, vmin := 64, vmax := 4294967295 }
/-- GCL_LEN[p][l] (R266). -/
def GCL_LEN (p : Nat) (l : Nat) : Fld := { addr := 0xd0050 + p * 0x800 + l * 0x20, lo := 0, width := 11, acc := .rw, reset := 1, vmin := 1, vmax := 1024 }
/-- GATE_SWITCH_TIME[p] word LO (R266). -/
def GATE_SWITCH_TIME_LO (p : Nat) : Fld := { addr := 0xd0080 + p * 0x800, lo := 0, width := 32, acc := .rw }
/-- GATE_SWITCH_TIME[p] word HI (R266). -/
def GATE_SWITCH_TIME_HI (p : Nat) : Fld := { addr := 0xd0084 + p * 0x800, lo := 0, width := 32, acc := .rw }
/-- GATE_SWITCH_TIME[p] word XHI (R266). -/
def GATE_SWITCH_TIME_XHI (p : Nat) : Fld := { addr := 0xd0088 + p * 0x800, lo := 0, width := 32, acc := .rw }
/-- PREEMPT_CFG[p].EXPRESS (R267). -/
def PREEMPT_CFG_EXPRESS (p : Nat) : Fld := { addr := 0xd00a0 + p * 0x800, lo := 8, width := 8, acc := .rw, reset := 255 }
/-- PREEMPT_CFG[p].ADD_FRAG (R267). -/
def PREEMPT_CFG_ADD_FRAG (p : Nat) : Fld := { addr := 0xd00a0 + p * 0x800, lo := 2, width := 2, acc := .rw }
/-- PREEMPT_CFG[p].VERIFY_DIS (R267). -/
def PREEMPT_CFG_VERIFY_DIS (p : Nat) : Fld := { addr := 0xd00a0 + p * 0x800, lo := 1, width := 1, acc := .rw }
/-- PREEMPT_CFG[p].EN (R267). -/
def PREEMPT_CFG_EN (p : Nat) : Fld := { addr := 0xd00a0 + p * 0x800, lo := 0, width := 1, acc := .rw }
/-- PREEMPT_STATUS[p].VERIFY (R267). -/
def PREEMPT_STATUS_VERIFY (p : Nat) : Fld := { addr := 0xd00a4 + p * 0x800, lo := 0, width := 3, acc := .rd }
/-- EEE_CFG[p].EN (R267). -/
def EEE_CFG_EN (p : Nat) : Fld := { addr := 0xd00b0 + p * 0x800, lo := 0, width := 1, acc := .rw }
/-- EEE_TS[p] (R267). -/
def EEE_TS (p : Nat) : Fld := { addr := 0xd00b4 + p * 0x800, lo := 0, width := 20, acc := .rw, reset := if 16 ≤ p ∧ p < 24 then 200000 else 0 }
/-- EEE_TW[p] (R267). -/
def EEE_TW (p : Nat) : Fld := { addr := 0xd00b8 + p * 0x800, lo := 0, width := 20, acc := .rw, reset := if 16 ≤ p ∧ p < 24 then 30000 else 0 }
/-- EEE_IDLE[p] (R267). -/
def EEE_IDLE (p : Nat) : Fld := { addr := 0xd00bc + p * 0x800, lo := 0, width := 20, acc := .rw, reset := 1000000 }
/-- RIDE_CFG[p].LATE_MARK (R267). -/
def RIDE_CFG_LATE_MARK (p : Nat) : Fld := { addr := 0xd00c0 + p * 0x800, lo := 9, width := 1, acc := .rd }
/-- RIDE_CFG[p].MODE (R267). -/
def RIDE_CFG_MODE (p : Nat) : Fld := { addr := 0xd00c0 + p * 0x800, lo := 7, width := 2, acc := .rd }
/-- RIDE_CFG[p].OUT (R267). -/
def RIDE_CFG_OUT (p : Nat) : Fld := { addr := 0xd00c0 + p * 0x800, lo := 4, width := 3, acc := .rd }
/-- RIDE_CFG[p].TEAM (R267). -/
def RIDE_CFG_TEAM (p : Nat) : Fld := { addr := 0xd00c0 + p * 0x800, lo := 0, width := 4, acc := .rd }
/-- RIDE_CNT[p].LATE (R267). -/
def RIDE_CNT_LATE (p : Nat) : Fld := { addr := 0xd00c4 + p * 0x800, lo := 16, width := 16, acc := .rd }
/-- RIDE_CNT[p].LEN_ERR (R267). -/
def RIDE_CNT_LEN_ERR (p : Nat) : Fld := { addr := 0xd00c4 + p * 0x800, lo := 0, width := 16, acc := .rd }
/-- RIDE_NOLEN[p] (R267). -/
def RIDE_NOLEN (p : Nat) : Fld := { addr := 0xd00c8 + p * 0x800, lo := 16, width := 16, acc := .rd }
/-- DIAG_CTRL[p].BUSY (R267). -/
def DIAG_CTRL_BUSY (p : Nat) : Fld := { addr := 0xd00d0 + p * 0x800, lo := 1, width := 1, acc := .rd }
/-- DIAG_CTRL[p].START (R267). -/
def DIAG_CTRL_START (p : Nat) : Fld := { addr := 0xd00d0 + p * 0x800, lo := 0, width := 1, acc := .w1s }
/-- DIAG_RESULT[p].B_CODE (R267). -/
def DIAG_RESULT_B_CODE (p : Nat) : Fld := { addr := 0xd00d4 + p * 0x800, lo := 29, width := 3, acc := .rd }
/-- DIAG_RESULT[p].B_DIST (R267). -/
def DIAG_RESULT_B_DIST (p : Nat) : Fld := { addr := 0xd00d4 + p * 0x800, lo := 20, width := 9, acc := .rd }
/-- DIAG_RESULT[p].A_CODE (R267). -/
def DIAG_RESULT_A_CODE (p : Nat) : Fld := { addr := 0xd00d4 + p * 0x800, lo := 10, width := 3, acc := .rd }
/-- DIAG_RESULT[p].A_DIST (R267). -/
def DIAG_RESULT_A_DIST (p : Nat) : Fld := { addr := 0xd00d4 + p * 0x800, lo := 1, width := 9, acc := .rd }
/-- DIAG_RESULT[p].VALID (R267). -/
def DIAG_RESULT_VALID (p : Nat) : Fld := { addr := 0xd00d4 + p * 0x800, lo := 0, width := 1, acc := .rd }
/-- RX_FRAMES (R268). -/
def PORT_CNT_RX_FRAMES (p : Nat) : Fld := { addr := 0xd0100 + p * 0x800, lo := 0, width := 32, acc := .rd }
/-- RX_OCTETS (R268). -/
def PORT_CNT_RX_OCTETS (p : Nat) : Fld := { addr := 0xd0104 + p * 0x800, lo := 0, width := 32, acc := .rd }
/-- RX_FCS_ERR (R268). -/
def PORT_CNT_RX_FCS_ERR (p : Nat) : Fld := { addr := 0xd0108 + p * 0x800, lo := 0, width := 32, acc := .rd }
/-- RX_RUNT (R268). -/
def PORT_CNT_RX_RUNT (p : Nat) : Fld := { addr := 0xd010c + p * 0x800, lo := 0, width := 32, acc := .rd }
/-- RX_TRUNC (R268). -/
def PORT_CNT_RX_TRUNC (p : Nat) : Fld := { addr := 0xd0110 + p * 0x800, lo := 0, width := 32, acc := .rd }
/-- RX_SYMBOL_ERR (R268). -/
def PORT_CNT_RX_SYMBOL_ERR (p : Nat) : Fld := { addr := 0xd0114 + p * 0x800, lo := 0, width := 32, acc := .rd }
/-- RX_NO_RULE (R268). -/
def PORT_CNT_RX_NO_RULE (p : Nat) : Fld := { addr := 0xd0118 + p * 0x800, lo := 0, width := 32, acc := .rd }
/-- TX_FRAMES (R268). -/
def PORT_CNT_TX_FRAMES (p : Nat) : Fld := { addr := 0xd011c + p * 0x800, lo := 0, width := 32, acc := .rd }
/-- TX_OCTETS (R268). -/
def PORT_CNT_TX_OCTETS (p : Nat) : Fld := { addr := 0xd0120 + p * 0x800, lo := 0, width := 32, acc := .rd }
/-- TX_LINK_DROP (R268). -/
def PORT_CNT_TX_LINK_DROP (p : Nat) : Fld := { addr := 0xd0124 + p * 0x800, lo := 0, width := 32, acc := .rd }
/-- GATE_OVERRUN (R268). -/
def PORT_CNT_GATE_OVERRUN (p : Nat) : Fld := { addr := 0xd0128 + p * 0x800, lo := 0, width := 32, acc := .rd }
/-- GATE_DISCARD (R268). -/
def PORT_CNT_GATE_DISCARD (p : Nat) : Fld := { addr := 0xd012c + p * 0x800, lo := 0, width := 32, acc := .rd }
/-- FRAG_TX (R268). -/
def PORT_CNT_FRAG_TX (p : Nat) : Fld := { addr := 0xd0130 + p * 0x800, lo := 0, width := 32, acc := .rd }
/-- ASSY_OK (R268). -/
def PORT_CNT_ASSY_OK (p : Nat) : Fld := { addr := 0xd0134 + p * 0x800, lo := 0, width := 32, acc := .rd }
/-- ASSY_ERR (R268). -/
def PORT_CNT_ASSY_ERR (p : Nat) : Fld := { addr := 0xd0138 + p * 0x800, lo := 0, width := 32, acc := .rd }
/-- SMD_ERR (R268). -/
def PORT_CNT_SMD_ERR (p : Nat) : Fld := { addr := 0xd013c + p * 0x800, lo := 0, width := 32, acc := .rd }
/-- LPI_ENTRIES (R268). -/
def PORT_CNT_LPI_ENTRIES (p : Nat) : Fld := { addr := 0xd0140 + p * 0x800, lo := 0, width := 32, acc := .rd }
/-- LPI_LATE_WAKE (R268). -/
def PORT_CNT_LPI_LATE_WAKE (p : Nat) : Fld := { addr := 0xd0144 + p * 0x800, lo := 0, width := 32, acc := .rd }
/-- GO (R269). -/
def MDIO_CMD_GO : Fld := { addr := 0xdf000, lo := 31, width := 1, acc := .w1s }
/-- C45 (R269). -/
def MDIO_CMD_C45 : Fld := { addr := 0xdf000, lo := 30, width := 1, acc := .rw }
/-- OP (R269). -/
def MDIO_CMD_OP : Fld := { addr := 0xdf000, lo := 28, width := 2, acc := .rw }
/-- PHYAD (R269). -/
def MDIO_CMD_PHYAD : Fld := { addr := 0xdf000, lo := 23, width := 5, acc := .rw }
/-- REG (R269). -/
def MDIO_CMD_REG : Fld := { addr := 0xdf000, lo := 18, width := 5, acc := .rw }
/-- BUSY (R269). -/
def MDIO_CMD_BUSY : Fld := { addr := 0xdf000, lo := 16, width := 1, acc := .rd }
/-- DATA (R269). -/
def MDIO_CMD_DATA : Fld := { addr := 0xdf000, lo := 0, width := 16, acc := .rw }
/-- STREAM_CFG[s].FUNC (R270). -/
def STREAM_CFG_FUNC (s : Nat) : Fld := { addr := 0xdd000 + s * 0x20, lo := 30, width := 2, acc := .rd }
/-- STREAM_CFG[s].STRIP (R270). -/
def STREAM_CFG_STRIP (s : Nat) : Fld := { addr := 0xdd000 + s * 0x20, lo := 29, width := 1, acc := .rd }
/-- STREAM_CFG[s].HIST (R270). -/
def STREAM_CFG_HIST (s : Nat) : Fld := { addr := 0xdd000 + s * 0x20, lo := 16, width := 6, acc := .rd, reset := 2 }
/-- STREAM_CFG[s].RESET_MS (R270). -/
def STREAM_CFG_RESET_MS (s : Nat) : Fld := { addr := 0xdd000 + s * 0x20, lo := 0, width := 16, acc := .rd, reset := 1000 }
/-- STREAM_SEQ[s] (R270). -/
def STREAM_SEQ (s : Nat) : Fld := { addr := 0xdd004 + s * 0x20, lo := 0, width := 16, acc := .rd }
/-- PASSED (R270). -/
def STREAM_PASSED (s : Nat) : Fld := { addr := 0xdd008 + s * 0x20, lo := 0, width := 32, acc := .rd }
/-- DISCARDED (R270). -/
def STREAM_DISCARDED (s : Nat) : Fld := { addr := 0xdd00c + s * 0x20, lo := 0, width := 32, acc := .rd }
/-- ROGUE (R270). -/
def STREAM_ROGUE (s : Nat) : Fld := { addr := 0xdd010 + s * 0x20, lo := 0, width := 32, acc := .rd }
/-- OUT_OF_ORDER (R270). -/
def STREAM_OUT_OF_ORDER (s : Nat) : Fld := { addr := 0xdd014 + s * 0x20, lo := 0, width := 32, acc := .rd }
/-- TAGLESS (R270). -/
def STREAM_TAGLESS (s : Nat) : Fld := { addr := 0xdd018 + s * 0x20, lo := 0, width := 32, acc := .rd }
/-- RESETS (R270). -/
def STREAM_RESETS (s : Nat) : Fld := { addr := 0xdd01c + s * 0x20, lo := 0, width := 32, acc := .rd }
/-- RED_CFG[k].MODE (R271). -/
def RED_CFG_MODE (k : Nat) : Fld := { addr := 0xde000 + k * 0x40, lo := 30, width := 2, acc := .rd }
/-- RED_CFG[k].PORT_B (R271). -/
def RED_CFG_PORT_B (k : Nat) : Fld := { addr := 0xde000 + k * 0x40, lo := 8, width := 5, acc := .rd }
/-- RED_CFG[k].PORT_A (R271). -/
def RED_CFG_PORT_A (k : Nat) : Fld := { addr := 0xde000 + k * 0x40, lo := 0, width := 5, acc := .rd }
/-- RED_FORGET[k] (R271). -/
def RED_FORGET (k : Nat) : Fld := { addr := 0xde004 + k * 0x40, lo := 0, width := 16, acc := .rw, reset := 400, vmin := 1, vmax := 65535 }
/-- RED_ADDR[k] (R271). -/
def RED_ADDR (k : Nat) : Fld := { addr := 0xde008 + k * 0x40, lo := 0, width := 48, acc := .rd }
/-- TX_SEQ (R271). -/
def RED_TX_SEQ (k : Nat) : Fld := { addr := 0xde010 + k * 0x40, lo := 0, width := 16, acc := .rd }
/-- DUP_DISCARD (R271). -/
def RED_DUP_DISCARD (k : Nat) : Fld := { addr := 0xde014 + k * 0x40, lo := 0, width := 32, acc := .rd }
/-- RX_A (R271). -/
def RED_RX_A (k : Nat) : Fld := { addr := 0xde018 + k * 0x40, lo := 0, width := 32, acc := .rd }
/-- RX_B (R271). -/
def RED_RX_B (k : Nat) : Fld := { addr := 0xde01c + k * 0x40, lo := 0, width := 32, acc := .rd }
/-- OWN_REMOVED (R271). -/
def RED_OWN_REMOVED (k : Nat) : Fld := { addr := 0xde020 + k * 0x40, lo := 0, width := 32, acc := .rd }
/-- NO_TAG (R271). -/
def RED_NO_TAG (k : Nat) : Fld := { addr := 0xde024 + k * 0x40, lo := 0, width := 32, acc := .rd }
/-- TBL_FULL (R271). -/
def RED_TBL_FULL (k : Nat) : Fld := { addr := 0xde028 + k * 0x40, lo := 0, width := 32, acc := .rd }
/-- NODE_ID (R322). -/
def HN_CTRL_NODE_ID : Fld := { addr := 0xde800, lo := 16, width := 16, acc := .rd, keep := true }
/-- UP_LANE (R322). -/
def HN_CTRL_UP_LANE : Fld := { addr := 0xde800, lo := 12, width := 4, acc := .rd }
/-- STBY_LANE (R322). -/
def HN_CTRL_STBY_LANE : Fld := { addr := 0xde800, lo := 8, width := 4, acc := .rd }
/-- TB (R322). -/
def HN_CTRL_TB : Fld := { addr := 0xde800, lo := 5, width := 3, acc := .rd, reset := 1 }
/-- STBY_EN (R322). -/
def HN_CTRL_STBY_EN : Fld := { addr := 0xde800, lo := 4, width := 1, acc := .rd }
/-- COLDSTART (R322). -/
def HN_CTRL_COLDSTART : Fld := { addr := 0xde800, lo := 3, width := 1, acc := .rd }
/-- UP_EN (R322). -/
def HN_CTRL_UP_EN : Fld := { addr := 0xde800, lo := 2, width := 1, acc := .rd }
/-- EN (R322). -/
def HN_CTRL_EN : Fld := { addr := 0xde800, lo := 0, width := 1, acc := .rw }
/-- SLOTS (R323). -/
def HN_CLUSTER_SLOTS : Fld := { addr := 0xde804, lo := 16, width := 13, acc := .rd }
/-- GUARD (R323). -/
def HN_CLUSTER_GUARD : Fld := { addr := 0xde804, lo := 0, width := 7, acc := .rd, reset := 16 }
/-- UP_STATE (R324). -/
def HN_STATUS_UP_STATE : Fld := { addr := 0xde808, lo := 28, width := 4, acc := .rd }
/-- STAR_STATE (R324). -/
def HN_STATUS_STAR_STATE : Fld := { addr := 0xde808, lo := 24, width := 4, acc := .rd }
/-- LEVEL (R324). -/
def HN_STATUS_LEVEL : Fld := { addr := 0xde808, lo := 20, width := 4, acc := .rd }
/-- HOLDOVER (R324). -/
def HN_STATUS_HOLDOVER : Fld := { addr := 0xde808, lo := 3, width := 1, acc := .rd }
/-- ON_STANDBY (R324). -/
def HN_STATUS_ON_STANDBY : Fld := { addr := 0xde808, lo := 2, width := 1, acc := .rd }
/-- TIME_SRC (R324). -/
def HN_STATUS_TIME_SRC : Fld := { addr := 0xde808, lo := 1, width := 1, acc := .rd }
/-- HN_CMD_CFG.TIMEOUT (R325). -/
def HN_CMD_CFG_TIMEOUT : Fld := { addr := 0xde810, lo := 0, width := 16, acc := .rw, reset := 1000, vmin := 1, vmax := 65535 }
/-- HN_CMD_STATUS.LATE_REPLY (R325). -/
def HN_CMD_STATUS_LATE_REPLY : Fld := { addr := 0xde814, lo := 16, width := 16, acc := .rd }
/-- HN_CMD_STATUS.PENDING (R325). -/
def HN_CMD_STATUS_PENDING : Fld := { addr := 0xde814, lo := 0, width := 5, acc := .rd }
/-- HI (R326). -/
def HN_ROUTE_HI (i : Nat) : Fld := { addr := 0xdec00 + i * 0x8, lo := 16, width := 16, acc := .rd }
/-- LO (R326). -/
def HN_ROUTE_LO (i : Nat) : Fld := { addr := 0xdec00 + i * 0x8, lo := 0, width := 16, acc := .rd }
/-- VALID (R326). -/
def HN_ROUTE_VALID (i : Nat) : Fld := { addr := 0xdec04 + i * 0x8, lo := 31, width := 1, acc := .rd }
/-- LANE (R326). -/
def HN_ROUTE_LANE (i : Nat) : Fld := { addr := 0xdec04 + i * 0x8, lo := 0, width := 4, acc := .rd }
/-- HN_LANE_CFG[p].ASYM (R327). -/
def HN_LANE_CFG_ASYM (p : Nat) : Fld := { addr := 0xd0400 + p * 0x800, lo := 16, width := 16, acc := .rw }
/-- HN_LANE_CFG[p].TEAM (R327). -/
def HN_LANE_CFG_TEAM (p : Nat) : Fld := { addr := 0xd0400 + p * 0x800, lo := 12, width := 4, acc := .rd }
/-- HN_LANE_CFG[p].RATE (R327). -/
def HN_LANE_CFG_RATE (p : Nat) : Fld := { addr := 0xd0400 + p * 0x800, lo := 4, width := 1, acc := .rd, reset := 1 }
/-- HN_LANE_CFG[p].ROLE (R327). -/
def HN_LANE_CFG_ROLE (p : Nat) : Fld := { addr := 0xd0400 + p * 0x800, lo := 0, width := 3, acc := .rd }
/-- HN_LANE_STATUS[p].MEMBER_ID (R327). -/
def HN_LANE_STATUS_MEMBER_ID (p : Nat) : Fld := { addr := 0xd0404 + p * 0x800, lo := 16, width := 16, acc := .rd }
/-- HN_LANE_STATUS[p].DUP_ID (R327). -/
def HN_LANE_STATUS_DUP_ID (p : Nat) : Fld := { addr := 0xd0404 + p * 0x800, lo := 5, width := 1, acc := .rd }
/-- HN_LANE_STATUS[p].ISOLATED (R327). -/
def HN_LANE_STATUS_ISOLATED (p : Nat) : Fld := { addr := 0xd0404 + p * 0x800, lo := 4, width := 1, acc := .rd }
/-- HN_LANE_STATUS[p].FOLLOWED (R327). -/
def HN_LANE_STATUS_FOLLOWED (p : Nat) : Fld := { addr := 0xd0404 + p * 0x800, lo := 3, width := 1, acc := .rd }
/-- HN_LANE_STATUS[p].DLY_VALID (R327). -/
def HN_LANE_STATUS_DLY_VALID (p : Nat) : Fld := { addr := 0xd0404 + p * 0x800, lo := 2, width := 1, acc := .rd }
/-- HN_LANE_STATUS[p].CUT_RUN (R327). -/
def HN_LANE_STATUS_CUT_RUN (p : Nat) : Fld := { addr := 0xd0404 + p * 0x800, lo := 0, width := 2, acc := .rd }
/-- HN_DELAY[p] (R327). -/
def HN_DELAY (p : Nat) : Fld := { addr := 0xd0408 + p * 0x800, lo := 0, width := 32, acc := .rd }
/-- HN_DELAY_AVG[p] (R327). -/
def HN_DELAY_AVG (p : Nat) : Fld := { addr := 0xd040c + p * 0x800, lo := 0, width := 32, acc := .rd }
/-- HN_OFFSET[p] (R327). -/
def HN_OFFSET (p : Nat) : Fld := { addr := 0xd0410 + p * 0x800, lo := 0, width := 32, acc := .rd }
/-- HN_OFFSET_AVG[p] (R327). -/
def HN_OFFSET_AVG (p : Nat) : Fld := { addr := 0xd0414 + p * 0x800, lo := 0, width := 32, acc := .rd }
/-- HN_ECHO[p].OFFSET (R327). -/
def HN_ECHO_OFFSET (p : Nat) : Fld := { addr := 0xd0418 + p * 0x800, lo := 0, width := 32, acc := .rd }
/-- HN_ECHO[p].SLOT (R327). -/
def HN_ECHO_SLOT (p : Nat) : Fld := { addr := 0xd041c + p * 0x800, lo := 16, width := 12, acc := .rd }
/-- HN_ECHO[p].CUT (R327). -/
def HN_ECHO_CUT (p : Nat) : Fld := { addr := 0xd041c + p * 0x800, lo := 3, width := 1, acc := .rd }
/-- HN_ECHO[p].DRIFT_WARN (R327). -/
def HN_ECHO_DRIFT_WARN (p : Nat) : Fld := { addr := 0xd041c + p * 0x800, lo := 2, width := 1, acc := .rd }
/-- HN_ECHO[p].ISOLATED (R327). -/
def HN_ECHO_ISOLATED (p : Nat) : Fld := { addr := 0xd041c + p * 0x800, lo := 1, width := 1, acc := .rd }
/-- HN_ECHO[p].VALID (R327). -/
def HN_ECHO_VALID (p : Nat) : Fld := { addr := 0xd041c + p * 0x800, lo := 0, width := 1, acc := .rd }
/-- LEVEL_ERR (R328). -/
def HN_LANE_EVT_LEVEL_ERR (p : Nat) : Fld := { addr := 0xd0420 + p * 0x800, lo := 10, width := 1, acc := .w1c }
/-- TABLE_MISMATCH (R328). -/
def HN_LANE_EVT_TABLE_MISMATCH (p : Nat) : Fld := { addr := 0xd0420 + p * 0x800, lo := 9, width := 1, acc := .w1c }
/-- DUP_ID (R328). -/
def HN_LANE_EVT_DUP_ID (p : Nat) : Fld := { addr := 0xd0420 + p * 0x800, lo := 8, width := 1, acc := .w1c }
/-- TAKEOVER (R328). -/
def HN_LANE_EVT_TAKEOVER (p : Nat) : Fld := { addr := 0xd0420 + p * 0x800, lo := 7, width := 1, acc := .w1c }
/-- SILENT (R328). -/
def HN_LANE_EVT_SILENT (p : Nat) : Fld := { addr := 0xd0420 + p * 0x800, lo := 6, width := 1, acc := .w1c }
/-- DLY_MISS (R328). -/
def HN_LANE_EVT_DLY_MISS (p : Nat) : Fld := { addr := 0xd0420 + p * 0x800, lo := 5, width := 1, acc := .w1c }
/-- RESYNC (R328). -/
def HN_LANE_EVT_RESYNC (p : Nat) : Fld := { addr := 0xd0420 + p * 0x800, lo := 4, width := 1, acc := .w1c }
/-- ISOLATED (R328). -/
def HN_LANE_EVT_ISOLATED (p : Nat) : Fld := { addr := 0xd0420 + p * 0x800, lo := 3, width := 1, acc := .w1c }
/-- CUT (R328). -/
def HN_LANE_EVT_CUT (p : Nat) : Fld := { addr := 0xd0420 + p * 0x800, lo := 2, width := 1, acc := .w1c }
/-- DRIFT_WARN (R328). -/
def HN_LANE_EVT_DRIFT_WARN (p : Nat) : Fld := { addr := 0xd0420 + p * 0x800, lo := 1, width := 1, acc := .w1c }
/-- STATE_CHG (R328). -/
def HN_LANE_EVT_STATE_CHG (p : Nat) : Fld := { addr := 0xd0420 + p * 0x800, lo := 0, width := 1, acc := .w1c }
/-- TX_FRAMES (R329). -/
def HN_CNT_TX_FRAMES (p : Nat) : Fld := { addr := 0xd0440 + p * 0x800, lo := 0, width := 32, acc := .rd }
/-- RX_FRAMES (R329). -/
def HN_CNT_RX_FRAMES (p : Nat) : Fld := { addr := 0xd0444 + p * 0x800, lo := 0, width := 32, acc := .rd }
/-- RX_DISCARD (R329). -/
def HN_CNT_RX_DISCARD (p : Nat) : Fld := { addr := 0xd0448 + p * 0x800, lo := 0, width := 32, acc := .rd }
/-- CUT (R329). -/
def HN_CNT_CUT (p : Nat) : Fld := { addr := 0xd044c + p * 0x800, lo := 0, width := 32, acc := .rd }
/-- CUT_LONG (R329). -/
def HN_CNT_CUT_LONG (p : Nat) : Fld := { addr := 0xd0450 + p * 0x800, lo := 0, width := 32, acc := .rd }
/-- OFF_SLOT (R329). -/
def HN_CNT_OFF_SLOT (p : Nat) : Fld := { addr := 0xd0454 + p * 0x800, lo := 0, width := 32, acc := .rd }
/-- DRIFT_CNT (R329). -/
def HN_CNT_DRIFT_CNT (p : Nat) : Fld := { addr := 0xd0458 + p * 0x800, lo := 0, width := 32, acc := .rd }
/-- SLOT_EMPTY (R329). -/
def HN_CNT_SLOT_EMPTY (p : Nat) : Fld := { addr := 0xd045c + p * 0x800, lo := 0, width := 32, acc := .rd }
/-- SLOT_MISSING (R329). -/
def HN_CNT_SLOT_MISSING (p : Nat) : Fld := { addr := 0xd0460 + p * 0x800, lo := 0, width := 32, acc := .rd }
/-- DLY_MISS (R329). -/
def HN_CNT_DLY_MISS (p : Nat) : Fld := { addr := 0xd0464 + p * 0x800, lo := 0, width := 32, acc := .rd }
/-- SEC_UNKNOWN (R329). -/
def HN_CNT_SEC_UNKNOWN (p : Nat) : Fld := { addr := 0xd0468 + p * 0x800, lo := 0, width := 32, acc := .rd }
/-- CTL_UNKNOWN (R329). -/
def HN_CNT_CTL_UNKNOWN (p : Nat) : Fld := { addr := 0xd046c + p * 0x800, lo := 0, width := 32, acc := .rd }
/-- CMD_DROP (R329). -/
def HN_CNT_CMD_DROP (p : Nat) : Fld := { addr := 0xd0470 + p * 0x800, lo := 0, width := 32, acc := .rd }
/-- ISOLATIONS (R329). -/
def HN_CNT_ISOLATIONS (p : Nat) : Fld := { addr := 0xd0474 + p * 0x800, lo := 0, width := 32, acc := .rd }
/-- PWR_DOMAIN[d].STATE (R651). -/
def PWR_DOMAIN_STATE (d : Nat) : Fld := { addr := 0xe0000 + d * 0x4, lo := 8, width := 2, acc := .rd, reset := 1, keep := true }
/-- PWR_DOMAIN[d].REQ (R651). -/
def PWR_DOMAIN_REQ (d : Nat) : Fld := { addr := 0xe0000 + d * 0x4, lo := 0, width := 2, acc := if d < 2 then .rd else .rw, reset := 1, keep := true }
/-- BANK_RET[n].END (R651). -/
def BANK_RET_END (n : Nat) : Fld := { addr := 0xe0800 + n * 0x4, lo := 16, width := 16, acc := .rd, keep := true }
/-- BANK_RET[n].START (R651). -/
def BANK_RET_START (n : Nat) : Fld := { addr := 0xe0800 + n * 0x4, lo := 0, width := 16, acc := .rd, keep := true }
/-- SLP_CFG.WATCH_MODE (R652). -/
def SLP_CFG_WATCH_MODE : Fld := { addr := 0xe0100, lo := 2, width := 1, acc := .rw, keep := true }
/-- SLP_CFG.WATCH_EN (R652). -/
def SLP_CFG_WATCH_EN : Fld := { addr := 0xe0100, lo := 1, width := 1, acc := .rw, keep := true }
/-- SLP_CFG.DEV_SLEEP (R652). -/
def SLP_CFG_DEV_SLEEP : Fld := { addr := 0xe0100, lo := 0, width := 1, acc := .rw, reset := 1, keep := true }
/-- SLP_WATCH.MS (R652). -/
def SLP_WATCH_MS : Fld := { addr := 0xe0104, lo := 0, width := 14, acc := .rw, reset := 1000, keep := true, vmin := 1, vmax := 10000 }
/-- SLP_KICK.WAKE (R652). -/
def SLP_KICK_WAKE : Fld := { addr := 0xe0108, lo := 1, width := 1, acc := .wo, keep := true }
/-- SLP_KICK.KICK (R652). -/
def SLP_KICK_KICK : Fld := { addr := 0xe0108, lo := 0, width := 1, acc := .wo, keep := true }
/-- SLP_WAKE_EN.PINS (R652). -/
def SLP_WAKE_EN_PINS : Fld := { addr := 0xe010c, lo := 8, width := 8, acc := .rw, keep := true }
/-- SLP_WAKE_EN.SRC (R652). -/
def SLP_WAKE_EN_SRC : Fld := { addr := 0xe010c, lo := 0, width := 8, acc := .rw, reset := 247, keep := true }
/-- SLP_WAKE_CAUSE (R652). -/
def SLP_WAKE_CAUSE : Fld := { addr := 0xe0110, lo := 0, width := 8, acc := .w1c, keep := true }
/-- SLP_WAKE_TIMER (R652). -/
def SLP_WAKE_TIMER : Fld := { addr := 0xe0114, lo := 0, width := 32, acc := .rw, keep := true }
/-- SLP_EVT (R652). -/
def SLP_EVT : Fld := { addr := 0xe0118, lo := 0, width := 8, acc := .w1c, keep := true }
/-- SLP_EVT_EN (R652). -/
def SLP_EVT_EN : Fld := { addr := 0xe011c, lo := 0, width := 8, acc := .rw, reset := 255, keep := true }
/-- SLP_NET_CFG[k].EN (R653). -/
def SLP_NET_CFG_EN (k : Nat) : Fld := { addr := 0xe0200 + k * 0x20, lo := 31, width := 1, acc := .rw, keep := true }
/-- SLP_NET_CFG[k].LEADER (R653). -/
def SLP_NET_CFG_LEADER (k : Nat) : Fld := { addr := 0xe0200 + k * 0x20, lo := 30, width := 1, acc := .rw, keep := true }
/-- SLP_NET_CFG[k].DELAY (R653). -/
def SLP_NET_CFG_DELAY (k : Nat) : Fld := { addr := 0xe0200 + k * 0x20, lo := 22, width := 8, acc := .rw, reset := 16, keep := true, vmin := if k = 0 then 8 else 0, vmax := 255 }
/-- SLP_NET_CFG[k].POS (R653). -/
def SLP_NET_CFG_POS (k : Nat) : Fld := { addr := 0xe0200 + k * 0x20, lo := 14, width := 7, acc := .rw, keep := true }
/-- SLP_NET_CFG[k].NEXT (R653). -/
def SLP_NET_CFG_NEXT (k : Nat) : Fld := { addr := 0xe0200 + k * 0x20, lo := 7, width := 7, acc := .rw, keep := true }
/-- SLP_NET_ID[k].IDE (R653). -/
def SLP_NET_ID_IDE (k : Nat) : Fld := { addr := 0xe0204 + k * 0x20, lo := 29, width := 1, acc := .rw, keep := true }
/-- SLP_NET_ID[k].ID (R653). -/
def SLP_NET_ID_ID (k : Nat) : Fld := { addr := 0xe0204 + k * 0x20, lo := 0, width := 29, acc := .rw, reset := 2032, keep := true }
/-- SLP_CONSENT[k].CONSENT (R653). -/
def SLP_CONSENT_CONSENT (k : Nat) : Fld := { addr := 0xe0208 + k * 0x20, lo := 0, width := 1, acc := .rw, keep := true }
/-- SLP_MAX_AWAKE[k] (R653). -/
def SLP_MAX_AWAKE (k : Nat) : Fld := { addr := 0xe020c + k * 0x20, lo := 0, width := 17, acc := .rw, reset := 86400, keep := true, vmin := 1, vmax := 86400 }
/-- SLP_AWAKE[k] (R653). -/
def SLP_AWAKE (k : Nat) : Fld := { addr := 0xe0210 + k * 0x20, lo := 0, width := 17, acc := .rd, keep := true }
/-- SLP_NET_STATUS[k].STATE (R653). -/
def SLP_NET_STATUS_STATE (k : Nat) : Fld := { addr := 0xe0214 + k * 0x20, lo := 28, width := 4, acc := .rd, keep := true }
/-- SLP_NET_STATUS[k].RESULT (R653). -/
def SLP_NET_STATUS_RESULT (k : Nat) : Fld := { addr := 0xe0214 + k * 0x20, lo := 26, width := 2, acc := .rd, keep := true }
/-- SLP_NET_STATUS[k].FORCED (R653). -/
def SLP_NET_STATUS_FORCED (k : Nat) : Fld := { addr := 0xe0214 + k * 0x20, lo := 25, width := 1, acc := .rd, keep := true }
/-- SLP_NET_STATUS[k].WAKE_PEND (R653). -/
def SLP_NET_STATUS_WAKE_PEND (k : Nat) : Fld := { addr := 0xe0214 + k * 0x20, lo := 24, width := 1, acc := .rd, keep := true }
/-- SLP_NET_STATUS[k].ROUND (R653). -/
def SLP_NET_STATUS_ROUND (k : Nat) : Fld := { addr := 0xe0214 + k * 0x20, lo := 16, width := 8, acc := .rd, keep := true }
/-- SLP_NET_STATUS[k].NODE (R653). -/
def SLP_NET_STATUS_NODE (k : Nat) : Fld := { addr := 0xe0214 + k * 0x20, lo := 0, width := 16, acc := .rd, keep := true }
/-- SLP_VISIT_TIMEOUT[k] (R653). -/
def SLP_VISIT_TIMEOUT (k : Nat) : Fld := { addr := 0xe0218 + k * 0x20, lo := 0, width := 16, acc := .rw, reset := 10, keep := true, vmin := 1, vmax := 65535 }
/-- SRC (R654). -/
def TRX_SLP_CFG_SRC (n : Nat) : Fld := { addr := 0xe0400 + n * 0x4, lo := 5, width := 3, acc := .rw, reset := if n < 8 then 1 else 0, keep := true, vmin := 0, vmax := 4 }
/-- INDEX (R654). -/
def TRX_SLP_CFG_INDEX (n : Nat) : Fld := { addr := 0xe0400 + n * 0x4, lo := 0, width := 5, acc := .rw, reset := if n < 8 then n else 0, keep := true }
/-- enables of SW_EVT (R205). -/
def SW_EVT_EN : Fld := { addr := 0xc000c, lo := 0, width := 13, acc := .rw, reset := 0x1FBF }
/-- enables of PORT_EVT [10:0] (R265). -/
def PORT_EVT_EN (p : Nat) : Fld := { addr := 0xd000c + p * 0x800, lo := 0, width := 11, acc := .rw, reset := 0x7FF }
/-- enable of PORT_EVT [11], always 1 (R265). -/
def PORT_EVT_EN_TS (p : Nat) : Fld := { addr := 0xd000c + p * 0x800, lo := 11, width := 1, acc := .rd, reset := 1 }
/-- enables of HN_LANE_EVT (R328). -/
def HN_LANE_EVT_EN (p : Nat) : Fld := { addr := 0xd0424 + p * 0x800, lo := 0, width := 11, acc := .rw, reset := 0x7FF }

end Sys2Proof.Machine.R
end

