-- ==== Sys2Proof/Machine/RegsSerial.lean ====
section
/-! DEFINITION. The registers of BAR0 blocks 0x9 to 0xB (CAN, serial channels, engine control), field by field, as the register tables of the spec give them
(offset, bits, access, reset value, survival of WARM_N). Each name is the manual's REGISTER_FIELD; an argument is the
register's index. Each docstring names the rule of spec/ whose table lists the field. -/

namespace Sys2Proof.Machine.R

/-- CLR_CNT (R360). -/
def CAN_CTRL_CLR_CNT (c : Nat) : Fld := { addr := 0x90000 + c * 0x2000, lo := 10, width := 1, acc := .wo }
/-- FLT_SEL (R360). -/
def CAN_CTRL_FLT_SEL (c : Nat) : Fld := { addr := 0x90000 + c * 0x2000, lo := 9, width := 1, acc := .rw }
/-- TMS (R360). -/
def CAN_CTRL_TMS (c : Nat) : Fld := { addr := 0x90000 + c * 0x2000, lo := 8, width := 1, acc := .rw }
/-- XL_ES_DIS (R360). -/
def CAN_CTRL_XL_ES_DIS (c : Nat) : Fld := { addr := 0x90000 + c * 0x2000, lo := 7, width := 1, acc := .rw }
/-- PEX (R360). -/
def CAN_CTRL_PEX (c : Nat) : Fld := { addr := 0x90000 + c * 0x2000, lo := 6, width := 1, acc := .rw, reset := 1 }
/-- RECOVER (R360). -/
def CAN_CTRL_RECOVER (c : Nat) : Fld := { addr := 0x90000 + c * 0x2000, lo := 5, width := 1, acc := .wo }
/-- AUTO_RECOVER (R360). -/
def CAN_CTRL_AUTO_RECOVER (c : Nat) : Fld := { addr := 0x90000 + c * 0x2000, lo := 4, width := 1, acc := .rw, reset := 1 }
/-- TX_ORDER (R360). -/
def CAN_CTRL_TX_ORDER (c : Nat) : Fld := { addr := 0x90000 + c * 0x2000, lo := 3, width := 1, acc := .rw }
/-- MODE (R360). -/
def CAN_CTRL_MODE (c : Nat) : Fld := { addr := 0x90000 + c * 0x2000, lo := 0, width := 3, acc := .rw, vmin := 0, vmax := 4 }
/-- CAN_STATUS[c].CFG_ERR (R361). -/
def CAN_STATUS_CFG_ERR (c : Nat) : Fld := { addr := 0x90004 + c * 0x2000, lo := 28, width := 4, acc := .rd }
/-- CAN_STATUS[c].MODE_NOW (R361). -/
def CAN_STATUS_MODE_NOW (c : Nat) : Fld := { addr := 0x90004 + c * 0x2000, lo := 25, width := 3, acc := .rd }
/-- CAN_STATUS[c].STATE (R361). -/
def CAN_STATUS_STATE (c : Nat) : Fld := { addr := 0x90004 + c * 0x2000, lo := 23, width := 2, acc := .rd }
/-- CAN_STATUS[c].LEC (R361). -/
def CAN_STATUS_LEC (c : Nat) : Fld := { addr := 0x90004 + c * 0x2000, lo := 20, width := 3, acc := .rd }
/-- CAN_STATUS[c].TEC (R361). -/
def CAN_STATUS_TEC (c : Nat) : Fld := { addr := 0x90004 + c * 0x2000, lo := 8, width := 8, acc := .rd }
/-- CAN_STATUS[c].REC (R361). -/
def CAN_STATUS_REC (c : Nat) : Fld := { addr := 0x90004 + c * 0x2000, lo := 0, width := 8, acc := .rd }
/-- CAN_NBT[c].BRP_M1 (R361). -/
def CAN_NBT_BRP_M1 (c : Nat) : Fld := { addr := 0x90008 + c * 0x2000, lo := 24, width := 8, acc := .rw, reset := 1 }
/-- CAN_NBT[c].TSEG1_M1 (R361). -/
def CAN_NBT_TSEG1_M1 (c : Nat) : Fld := { addr := 0x90008 + c * 0x2000, lo := 16, width := 8, acc := .rw, reset := 158, vmin := 1, vmax := 255 }
/-- CAN_NBT[c].TSEG2_M1 (R361). -/
def CAN_NBT_TSEG2_M1 (c : Nat) : Fld := { addr := 0x90008 + c * 0x2000, lo := 8, width := 7, acc := .rw, reset := 39 }
/-- CAN_NBT[c].SJW_M1 (R361). -/
def CAN_NBT_SJW_M1 (c : Nat) : Fld := { addr := 0x90008 + c * 0x2000, lo := 0, width := 7, acc := .rw, reset := 39 }
/-- CAN_DBT[c].BRP_M1 (R361). -/
def CAN_DBT_BRP_M1 (c : Nat) : Fld := { addr := 0x9000c + c * 0x2000, lo := 24, width := 5, acc := .rw, reset := 1 }
/-- CAN_XBT[c].BRP_M1 (R361). -/
def CAN_XBT_BRP_M1 (c : Nat) : Fld := { addr := 0x90010 + c * 0x2000, lo := 24, width := 5, acc := .rw }
/-- CAN_DBT[c].TSEG1_M1 (R361). -/
def CAN_DBT_TSEG1_M1 (c : Nat) : Fld := { addr := 0x9000c + c * 0x2000, lo := 16, width := 6, acc := .rw, reset := 38 }
/-- CAN_XBT[c].TSEG1_M1 (R361). -/
def CAN_XBT_TSEG1_M1 (c : Nat) : Fld := { addr := 0x90010 + c * 0x2000, lo := 16, width := 6, acc := .rw, reset := 14 }
/-- CAN_DBT[c].TSEG2_M1 (R361). -/
def CAN_DBT_TSEG2_M1 (c : Nat) : Fld := { addr := 0x9000c + c * 0x2000, lo := 8, width := 5, acc := .rw, reset := 9 }
/-- CAN_XBT[c].TSEG2_M1 (R361). -/
def CAN_XBT_TSEG2_M1 (c : Nat) : Fld := { addr := 0x90010 + c * 0x2000, lo := 8, width := 5, acc := .rw, reset := 3 }
/-- CAN_DBT[c].SJW_M1 (R361). -/
def CAN_DBT_SJW_M1 (c : Nat) : Fld := { addr := 0x9000c + c * 0x2000, lo := 0, width := 5, acc := .rw, reset := 9 }
/-- CAN_XBT[c].SJW_M1 (R361). -/
def CAN_XBT_SJW_M1 (c : Nat) : Fld := { addr := 0x90010 + c * 0x2000, lo := 0, width := 5, acc := .rw, reset := 3 }
/-- CAN_TDC[c].TDCV (R361). -/
def CAN_TDC_TDCV (c : Nat) : Fld := { addr := 0x90014 + c * 0x2000, lo := 24, width := 7, acc := .rd }
/-- CAN_TDC[c].TDCO (R361). -/
def CAN_TDC_TDCO (c : Nat) : Fld := { addr := 0x90014 + c * 0x2000, lo := 8, width := 7, acc := .rw }
/-- CAN_TDC[c].TDC_EN (R361). -/
def CAN_TDC_TDC_EN (c : Nat) : Fld := { addr := 0x90014 + c * 0x2000, lo := 0, width := 1, acc := .rw }
/-- CAN_PWM[c].PWMO (R361). -/
def CAN_PWM_PWMO (c : Nat) : Fld := { addr := 0x90018 + c * 0x2000, lo := 16, width := 8, acc := .rw }
/-- CAN_PWM[c].PWML (R361). -/
def CAN_PWM_PWML (c : Nat) : Fld := { addr := 0x90018 + c * 0x2000, lo := 8, width := 8, acc := .rw }
/-- CAN_PWM[c].PWMS (R361). -/
def CAN_PWM_PWMS (c : Nat) : Fld := { addr := 0x90018 + c * 0x2000, lo := 0, width := 8, acc := .rw }
/-- CAN_CFG[c].XL_EN (R361). -/
def CAN_CFG_XL_EN (c : Nat) : Fld := { addr := 0x9001c + c * 0x2000, lo := 11, width := 1, acc := .rw }
/-- CAN_CFG[c].FD_EN (R361). -/
def CAN_CFG_FD_EN (c : Nat) : Fld := { addr := 0x9001c + c * 0x2000, lo := 10, width := 1, acc := .rw }
/-- CAN_CFG[c].RXB_SLOT (R361). -/
def CAN_CFG_RXB_SLOT (c : Nat) : Fld := { addr := 0x9001c + c * 0x2000, lo := 8, width := 2, acc := .rw, vmin := 0, vmax := 2 }
/-- CAN_CFG[c].AGENT (R361). -/
def CAN_CFG_AGENT (c : Nat) : Fld := { addr := 0x9001c + c * 0x2000, lo := 4, width := 4, acc := .rw, reset := 12, vmin := 0, vmax := 12 }
/-- CAN_CFG[c].TB (R361). -/
def CAN_CFG_TB (c : Nat) : Fld := { addr := 0x9001c + c * 0x2000, lo := 0, width := 3, acc := .rw }
/-- CAN_FLT_BASE[c][l] (R361). -/
def CAN_FLT_BASE (c : Nat) (l : Nat) : Fld := { addr := 0x90020 + c * 0x2000 + l * 0x8, lo := 4, width := 21, acc := .rw }
/-- CAN_FLT_COUNT[c][l] (R361). -/
def CAN_FLT_COUNT (c : Nat) (l : Nat) : Fld := { addr := 0x90024 + c * 0x2000 + l * 0x8, lo := 0, width := 12, acc := .rw, vmin := 0, vmax := 2048 }
/-- CAN_RXB_BASE[c] (R361). -/
def CAN_RXB_BASE (c : Nat) : Fld := { addr := 0x90030 + c * 0x2000, lo := 3, width := 22, acc := .rw }
/-- CAN_RXB_COUNT[c] (R361). -/
def CAN_RXB_COUNT (c : Nat) : Fld := { addr := 0x90034 + c * 0x2000, lo := 0, width := 13, acc := .rw, vmin := 0, vmax := 4096 }
/-- CFG_REJ (R362). -/
def CAN_EVT_CFG_REJ (c : Nat) : Fld := { addr := 0x90040 + c * 0x2000, lo := 10, width := 1, acc := .w1c }
/-- FLT_FAULT (R362). -/
def CAN_EVT_FLT_FAULT (c : Nat) : Fld := { addr := 0x90040 + c * 0x2000, lo := 9, width := 1, acc := .w1c }
/-- RX_LOST (R362). -/
def CAN_EVT_RX_LOST (c : Nat) : Fld := { addr := 0x90040 + c * 0x2000, lo := 8, width := 1, acc := .w1c }
/-- RX_OVERWRITE (R362). -/
def CAN_EVT_RX_OVERWRITE (c : Nat) : Fld := { addr := 0x90040 + c * 0x2000, lo := 7, width := 1, acc := .w1c }
/-- RX (R362). -/
def CAN_EVT_RX (c : Nat) : Fld := { addr := 0x90040 + c * 0x2000, lo := 6, width := 1, acc := .w1c }
/-- BUS_OFF (R362). -/
def CAN_EVT_BUS_OFF (c : Nat) : Fld := { addr := 0x90040 + c * 0x2000, lo := 5, width := 1, acc := .w1c }
/-- ERR_PASSIVE (R362). -/
def CAN_EVT_ERR_PASSIVE (c : Nat) : Fld := { addr := 0x90040 + c * 0x2000, lo := 4, width := 1, acc := .w1c }
/-- ERR_WARN (R362). -/
def CAN_EVT_ERR_WARN (c : Nat) : Fld := { addr := 0x90040 + c * 0x2000, lo := 3, width := 1, acc := .w1c }
/-- TX_FAIL (R362). -/
def CAN_EVT_TX_FAIL (c : Nat) : Fld := { addr := 0x90040 + c * 0x2000, lo := 2, width := 1, acc := .w1c }
/-- TX_DONE (R362). -/
def CAN_EVT_TX_DONE (c : Nat) : Fld := { addr := 0x90040 + c * 0x2000, lo := 1, width := 1, acc := .w1c }
/-- MODE_CHG (R362). -/
def CAN_EVT_MODE_CHG (c : Nat) : Fld := { addr := 0x90040 + c * 0x2000, lo := 0, width := 1, acc := .w1c }
/-- TX_OK (R363). -/
def CAN_CNT_TX_OK (c : Nat) : Fld := { addr := 0x90080 + c * 0x2000, lo := 0, width := 32, acc := .rd }
/-- RX_OK (R363). -/
def CAN_CNT_RX_OK (c : Nat) : Fld := { addr := 0x90084 + c * 0x2000, lo := 0, width := 32, acc := .rd }
/-- ARB_LOST (R363). -/
def CAN_CNT_ARB_LOST (c : Nat) : Fld := { addr := 0x90088 + c * 0x2000, lo := 0, width := 32, acc := .rd }
/-- ERR_FRAMES (R363). -/
def CAN_CNT_ERR_FRAMES (c : Nat) : Fld := { addr := 0x9008c + c * 0x2000, lo := 0, width := 32, acc := .rd }
/-- BUS_OFF_CNT (R363). -/
def CAN_CNT_BUS_OFF_CNT (c : Nat) : Fld := { addr := 0x90090 + c * 0x2000, lo := 0, width := 32, acc := .rd }
/-- RX_NO_MATCH (R363). -/
def CAN_CNT_RX_NO_MATCH (c : Nat) : Fld := { addr := 0x90094 + c * 0x2000, lo := 0, width := 32, acc := .rd }
/-- RX_OVERWRITE (R363). -/
def CAN_CNT_RX_OVERWRITE (c : Nat) : Fld := { addr := 0x90098 + c * 0x2000, lo := 0, width := 32, acc := .rd }
/-- RX_LOST (R363). -/
def CAN_CNT_RX_LOST (c : Nat) : Fld := { addr := 0x9009c + c * 0x2000, lo := 0, width := 32, acc := .rd }
/-- RX_TOO_LONG (R363). -/
def CAN_CNT_RX_TOO_LONG (c : Nat) : Fld := { addr := 0x900a0 + c * 0x2000, lo := 0, width := 32, acc := .rd }
/-- FLT_FAULT (R363). -/
def CAN_CNT_FLT_FAULT (c : Nat) : Fld := { addr := 0x900a4 + c * 0x2000, lo := 0, width := 32, acc := .rd }
/-- TXB_ID[c][n] (R364). -/
def TXB_ID (c : Nat) (n : Nat) : Fld := { addr := 0x90400 + c * 0x2000 + n * 0x20, lo := 0, width := 32, acc := .rw }
/-- TXB_LEN[c][n] (R364). -/
def TXB_LEN (c : Nat) (n : Nat) : Fld := { addr := 0x90404 + c * 0x2000 + n * 0x20, lo := 0, width := 32, acc := .rw }
/-- TXB_AF[c][n] (R364). -/
def TXB_AF (c : Nat) (n : Nat) : Fld := { addr := 0x90408 + c * 0x2000 + n * 0x20, lo := 0, width := 32, acc := .rw }
/-- TXB_META[c][n] (R364). -/
def TXB_META (c : Nat) (n : Nat) : Fld := { addr := 0x9040c + c * 0x2000 + n * 0x20, lo := 0, width := 32, acc := .rw }
/-- TXB_TS[c][n] (R364). -/
def TXB_TS (c : Nat) (n : Nat) : Fld := { addr := 0x90410 + c * 0x2000 + n * 0x20, lo := 0, width := 64, acc := .rd }
/-- TXB_CTRL[c][n].SINGLE_SHOT (R364). -/
def TXB_CTRL_SINGLE_SHOT (c : Nat) (n : Nat) : Fld := { addr := 0x90418 + c * 0x2000 + n * 0x20, lo := 2, width := 1, acc := .rw }
/-- TXB_CTRL[c][n].ABORT (R364). -/
def TXB_CTRL_ABORT (c : Nat) (n : Nat) : Fld := { addr := 0x90418 + c * 0x2000 + n * 0x20, lo := 1, width := 1, acc := .w1s }
/-- TXB_CTRL[c][n].REQ (R364). -/
def TXB_CTRL_REQ (c : Nat) (n : Nat) : Fld := { addr := 0x90418 + c * 0x2000 + n * 0x20, lo := 0, width := 1, acc := .w1s }
/-- TXB_STATUS[c][n].ATTEMPTS (R364). -/
def TXB_STATUS_ATTEMPTS (c : Nat) (n : Nat) : Fld := { addr := 0x9041c + c * 0x2000 + n * 0x20, lo := 8, width := 8, acc := .rd }
/-- TXB_STATUS[c][n].STATE (R364). -/
def TXB_STATUS_STATE (c : Nat) (n : Nat) : Fld := { addr := 0x9041c + c * 0x2000 + n * 0x20, lo := 0, width := 3, acc := .rd }
/-- SER_CTRL[n].FLUSH_TX (R377). -/
def SER_CTRL_FLUSH_TX (n : Nat) : Fld := { addr := 0xa0000 + n * 0x100, lo := 9, width := 1, acc := .wo }
/-- SER_CTRL[n].CLR_CNT (R377). -/
def SER_CTRL_CLR_CNT (n : Nat) : Fld := { addr := 0xa0000 + n * 0x100, lo := 8, width := 1, acc := .wo }
/-- SER_CTRL[n].ECHO (R377). -/
def SER_CTRL_ECHO (n : Nat) : Fld := { addr := 0xa0000 + n * 0x100, lo := 7, width := 1, acc := .rw }
/-- SER_CTRL[n].STOP (R377). -/
def SER_CTRL_STOP (n : Nat) : Fld := { addr := 0xa0000 + n * 0x100, lo := 6, width := 1, acc := .rw }
/-- SER_CTRL[n].PARITY (R377). -/
def SER_CTRL_PARITY (n : Nat) : Fld := { addr := 0xa0000 + n * 0x100, lo := 4, width := 2, acc := .rw, reset := 1, vmin := 0, vmax := 2 }
/-- SER_CTRL[n].MODE (R377). -/
def SER_CTRL_MODE (n : Nat) : Fld := { addr := 0xa0000 + n * 0x100, lo := 1, width := 3, acc := .rw, reset := 2, vmin := 0, vmax := 2 }
/-- SER_CTRL[n].EN (R377). -/
def SER_CTRL_EN (n : Nat) : Fld := { addr := 0xa0000 + n * 0x100, lo := 0, width := 1, acc := .rw }
/-- SER_BAUD[n].DIV (R377). -/
def SER_BAUD_DIV (n : Nat) : Fld := { addr := 0xa0004 + n * 0x100, lo := 0, width := 20, acc := .rw, reset := 166667, vmin := 266, vmax := 333334 }
/-- SER_GAP_END[n] (R377). -/
def SER_GAP_END (n : Nat) : Fld := { addr := 0xa0008 + n * 0x100, lo := 0, width := 20, acc := .rw, reset := 200521 }
/-- SER_GAP_ERR[n] (R377). -/
def SER_GAP_ERR (n : Nat) : Fld := { addr := 0xa000c + n * 0x100, lo := 0, width := 20, acc := .rw, reset := 85938 }
/-- SER_GAP_TX[n] (R377). -/
def SER_GAP_TX (n : Nat) : Fld := { addr := 0xa0010 + n * 0x100, lo := 0, width := 20, acc := .rw, reset := 200521 }
/-- SER_DE[n].LEAD (R377). -/
def SER_DE_LEAD (n : Nat) : Fld := { addr := 0xa0014 + n * 0x100, lo := 16, width := 16, acc := .rw, reset := 100 }
/-- SER_DE[n].LAG (R377). -/
def SER_DE_LAG (n : Nat) : Fld := { addr := 0xa0014 + n * 0x100, lo := 0, width := 16, acc := .rw, reset := 100 }
/-- SER_RX_CFG[n].RX_EN (R377). -/
def SER_RX_CFG_RX_EN (n : Nat) : Fld := { addr := 0xa0018 + n * 0x100, lo := 11, width := 1, acc := .rw }
/-- SER_RX_CFG[n].TB (R377). -/
def SER_RX_CFG_TB (n : Nat) : Fld := { addr := 0xa0018 + n * 0x100, lo := 8, width := 3, acc := .rw }
/-- SER_RX_CFG[n].PN (R377). -/
def SER_RX_CFG_PN (n : Nat) : Fld := { addr := 0xa0018 + n * 0x100, lo := 0, width := 6, acc := .rw }
/-- SER_TXDATA[n].AT (R377). -/
def SER_TXDATA_AT (n : Nat) : Fld := { addr := 0xa001c + n * 0x100, lo := 9, width := 1, acc := .wo }
/-- SER_TXDATA[n].END (R377). -/
def SER_TXDATA_END (n : Nat) : Fld := { addr := 0xa001c + n * 0x100, lo := 8, width := 1, acc := .wo }
/-- SER_TXDATA[n].DATA (R377). -/
def SER_TXDATA_DATA (n : Nat) : Fld := { addr := 0xa001c + n * 0x100, lo := 0, width := 8, acc := .wo }
/-- SER_TX_AT[n] (R377). -/
def SER_TX_AT (n : Nat) : Fld := { addr := 0xa0020 + n * 0x100, lo := 0, width := 64, acc := .rw }
/-- SER_STATUS[n].TX_LEVEL (R377). -/
def SER_STATUS_TX_LEVEL (n : Nat) : Fld := { addr := 0xa0028 + n * 0x100, lo := 16, width := 9, acc := .rd }
/-- SER_STATUS[n].RXSTAT_LEVEL (R377). -/
def SER_STATUS_RXSTAT_LEVEL (n : Nat) : Fld := { addr := 0xa0028 + n * 0x100, lo := 8, width := 5, acc := .rd }
/-- SER_STATUS[n].DE (R377). -/
def SER_STATUS_DE (n : Nat) : Fld := { addr := 0xa0028 + n * 0x100, lo := 2, width := 1, acc := .rd }
/-- SER_STATUS[n].TX_BUSY (R377). -/
def SER_STATUS_TX_BUSY (n : Nat) : Fld := { addr := 0xa0028 + n * 0x100, lo := 1, width := 1, acc := .rd }
/-- SER_STATUS[n].RX_BUSY (R377). -/
def SER_STATUS_RX_BUSY (n : Nat) : Fld := { addr := 0xa0028 + n * 0x100, lo := 0, width := 1, acc := .rd }
/-- SER_RXSTAT_TS[n] (R377). -/
def SER_RXSTAT_TS (n : Nat) : Fld := { addr := 0xa0030 + n * 0x100, lo := 0, width := 64, acc := .rd }
/-- SER_RXSTAT[n].VALID (R377). -/
def SER_RXSTAT_VALID (n : Nat) : Fld := { addr := 0xa0038 + n * 0x100, lo := 31, width := 1, acc := .rd }
/-- SER_RXSTAT[n].GAP_ERR (R377). -/
def SER_RXSTAT_GAP_ERR (n : Nat) : Fld := { addr := 0xa0038 + n * 0x100, lo := 30, width := 1, acc := .rd }
/-- SER_RXSTAT[n].PARITY_ERR (R377). -/
def SER_RXSTAT_PARITY_ERR (n : Nat) : Fld := { addr := 0xa0038 + n * 0x100, lo := 29, width := 1, acc := .rd }
/-- SER_RXSTAT[n].FRAME_ERR (R377). -/
def SER_RXSTAT_FRAME_ERR (n : Nat) : Fld := { addr := 0xa0038 + n * 0x100, lo := 28, width := 1, acc := .rd }
/-- SER_RXSTAT[n].BREAK (R377). -/
def SER_RXSTAT_BREAK (n : Nat) : Fld := { addr := 0xa0038 + n * 0x100, lo := 27, width := 1, acc := .rd }
/-- SER_RXSTAT[n].CRC_ERR (R377). -/
def SER_RXSTAT_CRC_ERR (n : Nat) : Fld := { addr := 0xa0038 + n * 0x100, lo := 26, width := 1, acc := .rd }
/-- SER_RXSTAT[n].PN_DROP (R377). -/
def SER_RXSTAT_PN_DROP (n : Nat) : Fld := { addr := 0xa0038 + n * 0x100, lo := 25, width := 1, acc := .rd }
/-- SER_RXSTAT[n].LEN (R377). -/
def SER_RXSTAT_LEN (n : Nat) : Fld := { addr := 0xa0038 + n * 0x100, lo := 0, width := 16, acc := .rd }
/-- CFG_REJ (R378). -/
def SER_EVT_CFG_REJ (n : Nat) : Fld := { addr := 0xa003c + n * 0x100, lo := 7, width := 1, acc := .w1c }
/-- TX_OVF (R378). -/
def SER_EVT_TX_OVF (n : Nat) : Fld := { addr := 0xa003c + n * 0x100, lo := 6, width := 1, acc := .w1c }
/-- ECHO_ERR (R378). -/
def SER_EVT_ECHO_ERR (n : Nat) : Fld := { addr := 0xa003c + n * 0x100, lo := 5, width := 1, acc := .w1c }
/-- RXSTAT_LOST (R378). -/
def SER_EVT_RXSTAT_LOST (n : Nat) : Fld := { addr := 0xa003c + n * 0x100, lo := 4, width := 1, acc := .w1c }
/-- RX_ERR (R378). -/
def SER_EVT_RX_ERR (n : Nat) : Fld := { addr := 0xa003c + n * 0x100, lo := 3, width := 1, acc := .w1c }
/-- RX_FRAME (R378). -/
def SER_EVT_RX_FRAME (n : Nat) : Fld := { addr := 0xa003c + n * 0x100, lo := 2, width := 1, acc := .w1c }
/-- TX_UNDERRUN (R378). -/
def SER_EVT_TX_UNDERRUN (n : Nat) : Fld := { addr := 0xa003c + n * 0x100, lo := 1, width := 1, acc := .w1c }
/-- TX_DONE (R378). -/
def SER_EVT_TX_DONE (n : Nat) : Fld := { addr := 0xa003c + n * 0x100, lo := 0, width := 1, acc := .w1c }
/-- RX_FRAMES (R378). -/
def SER_CNT_RX_FRAMES (n : Nat) : Fld := { addr := 0xa0080 + n * 0x100, lo := 0, width := 32, acc := .rd }
/-- TX_FRAMES (R378). -/
def SER_CNT_TX_FRAMES (n : Nat) : Fld := { addr := 0xa0084 + n * 0x100, lo := 0, width := 32, acc := .rd }
/-- RX_ERR_FRAMES (R378). -/
def SER_CNT_RX_ERR_FRAMES (n : Nat) : Fld := { addr := 0xa0088 + n * 0x100, lo := 0, width := 32, acc := .rd }
/-- RX_CHAR_ERR (R378). -/
def SER_CNT_RX_CHAR_ERR (n : Nat) : Fld := { addr := 0xa008c + n * 0x100, lo := 0, width := 32, acc := .rd }
/-- TX_UNDERRUN (R378). -/
def SER_CNT_TX_UNDERRUN (n : Nat) : Fld := { addr := 0xa0090 + n * 0x100, lo := 0, width := 32, acc := .rd }
/-- RXSTAT_LOST (R378). -/
def SER_CNT_RXSTAT_LOST (n : Nat) : Fld := { addr := 0xa0094 + n * 0x100, lo := 0, width := 32, acc := .rd }
/-- ECHO_ERR (R378). -/
def SER_CNT_ECHO_ERR (n : Nat) : Fld := { addr := 0xa0098 + n * 0x100, lo := 0, width := 32, acc := .rd }
/-- CLR_STATS (R413). -/
def ENG_CTRL_CLR_STATS (e : Nat) : Fld := { addr := 0xb0000 + e * 0x80, lo := 2, width := 1, acc := .wo }
/-- RESTART (R413). -/
def ENG_CTRL_RESTART (e : Nat) : Fld := { addr := 0xb0000 + e * 0x80, lo := 1, width := 1, acc := .wo }
/-- HALT (R413). -/
def ENG_CTRL_HALT (e : Nat) : Fld := { addr := 0xb0000 + e * 0x80, lo := 0, width := 1, acc := .wo }
/-- STATE (R414). -/
def ENG_STATUS_STATE (e : Nat) : Fld := { addr := 0xb0004 + e * 0x80, lo := 28, width := 4, acc := .rd, reset := 1 }
/-- HALT_CAUSE (R414). -/
def ENG_STATUS_HALT_CAUSE (e : Nat) : Fld := { addr := 0xb0004 + e * 0x80, lo := 24, width := 4, acc := .rd }
/-- ACT_BANK (R414). -/
def ENG_STATUS_ACT_BANK (e : Nat) : Fld := { addr := 0xb0004 + e * 0x80, lo := 16, width := 1, acc := .rd }
/-- TX_OVF (R414). -/
def ENG_STATUS_TX_OVF (e : Nat) : Fld := { addr := 0xb0004 + e * 0x80, lo := 8, width := 1, acc := .w1c }
/-- IRAM_WREJ (R414). -/
def ENG_STATUS_IRAM_WREJ (e : Nat) : Fld := { addr := 0xb0004 + e * 0x80, lo := 7, width := 1, acc := .w1c }
/-- WR_DENIED (R414). -/
def ENG_STATUS_WR_DENIED (e : Nat) : Fld := { addr := 0xb0004 + e * 0x80, lo := 6, width := 1, acc := .w1c }
/-- RIDE_WLOST (R414). -/
def ENG_STATUS_RIDE_WLOST (e : Nat) : Fld := { addr := 0xb0004 + e * 0x80, lo := 5, width := 1, acc := .w1c }
/-- RX_DROP (R414). -/
def ENG_STATUS_RX_DROP (e : Nat) : Fld := { addr := 0xb0004 + e * 0x80, lo := 4, width := 1, acc := .w1c }
/-- DZ (R414). -/
def ENG_STATUS_DZ (e : Nat) : Fld := { addr := 0xb0004 + e * 0x80, lo := 3, width := 1, acc := .w1c }
/-- OV (R414). -/
def ENG_STATUS_OV (e : Nat) : Fld := { addr := 0xb0004 + e * 0x80, lo := 2, width := 1, acc := .w1c }
/-- LATE (R414). -/
def ENG_STATUS_LATE (e : Nat) : Fld := { addr := 0xb0004 + e * 0x80, lo := 1, width := 1, acc := .w1c }
/-- HALTED (R414). -/
def ENG_STATUS_HALTED (e : Nat) : Fld := { addr := 0xb0004 + e * 0x80, lo := 0, width := 1, acc := .w1c }
/-- ENG_PC[e] (R415). -/
def ENG_PC (e : Nat) : Fld := { addr := 0xb000c + e * 0x80, lo := 0, width := 32, acc := .rd }
/-- ENG_FAULT_ADDR[e] (R415). -/
def ENG_FAULT_ADDR (e : Nat) : Fld := { addr := 0xb0010 + e * 0x80, lo := 0, width := 32, acc := .rd }
/-- ENG_CFG[e].MODE (R415). -/
def ENG_CFG_MODE (e : Nat) : Fld := { addr := 0xb0014 + e * 0x80, lo := 30, width := 2, acc := .rd }
/-- ENG_CFG[e].GAITS (R415). -/
def ENG_CFG_GAITS (e : Nat) : Fld := { addr := 0xb0014 + e * 0x80, lo := 26, width := 4, acc := .rd }
/-- ENG_ENTRY[e] (R415). -/
def ENG_ENTRY (e : Nat) : Fld := { addr := 0xb0018 + e * 0x80, lo := 0, width := 15, acc := .rd }
/-- ENG_WCYC[e] (R415). -/
def ENG_WCYC (e : Nat) : Fld := { addr := 0xb001c + e * 0x80, lo := 0, width := 24, acc := .rd }
/-- ENG_CYC_LAST[e] (R415). -/
def ENG_CYC_LAST (e : Nat) : Fld := { addr := 0xb0020 + e * 0x80, lo := 0, width := 24, acc := .rd }
/-- ENG_CYC_MAX[e] (R415). -/
def ENG_CYC_MAX (e : Nat) : Fld := { addr := 0xb0024 + e * 0x80, lo := 0, width := 24, acc := .rd }
/-- ENG_RXR_BASE[e] (R415). -/
def ENG_RXR_BASE (e : Nat) : Fld := { addr := 0xb0028 + e * 0x80, lo := 0, width := 19, acc := .rd }
/-- ENG_RXR_CFG[e].BUF_UNITS (R415). -/
def ENG_RXR_CFG_BUF_UNITS (e : Nat) : Fld := { addr := 0xb002c + e * 0x80, lo := 16, width := 9, acc := .rd }
/-- ENG_RXR_CFG[e].COUNT (R415). -/
def ENG_RXR_CFG_COUNT (e : Nat) : Fld := { addr := 0xb002c + e * 0x80, lo := 0, width := 11, acc := .rd }
/-- ENG_TXR_BASE[e] (R415). -/
def ENG_TXR_BASE (e : Nat) : Fld := { addr := 0xb0030 + e * 0x80, lo := 0, width := 19, acc := .rd }
/-- ENG_TXR_CFG[e].COUNT (R415). -/
def ENG_TXR_CFG_COUNT (e : Nat) : Fld := { addr := 0xb0034 + e * 0x80, lo := 0, width := 11, acc := .rd }
/-- ENG_RXR_DROP[e] (R415). -/
def ENG_RXR_DROP (e : Nat) : Fld := { addr := 0xb0038 + e * 0x80, lo := 0, width := 32, acc := .rd }
/-- ENG_TX_IDX[e].HEAD (R415). -/
def ENG_TX_IDX_HEAD (e : Nat) : Fld := { addr := 0xb003c + e * 0x80, lo := 16, width := 11, acc := .rd }
/-- ENG_TX_IDX[e].TAIL (R415). -/
def ENG_TX_IDX_TAIL (e : Nat) : Fld := { addr := 0xb003c + e * 0x80, lo := 0, width := 11, acc := .rd }
/-- TEAM_CFG[t].WR_BLOCKS (R416). -/
def TEAM_CFG_WR_BLOCKS (t : Nat) : Fld := { addr := 0xb2000 + t * 0x20, lo := 16, width := 16, acc := .rd }
/-- TEAM_CFG[t].RX_MAP (R416). -/
def TEAM_CFG_RX_MAP (t : Nat) : Fld := { addr := 0xb2000 + t * 0x20, lo := 0, width := 16, acc := .rd }
/-- TEAM_CFG2[t].RIDE_ENG (R416). -/
def TEAM_CFG2_RIDE_ENG (t : Nat) : Fld := { addr := 0xb2004 + t * 0x20, lo := 4, width := 2, acc := .rd }
/-- TEAM_CFG2[t].LS23 (R416). -/
def TEAM_CFG2_LS23 (t : Nat) : Fld := { addr := 0xb2004 + t * 0x20, lo := 1, width := 1, acc := .rd }
/-- TEAM_CFG2[t].LS01 (R416). -/
def TEAM_CFG2_LS01 (t : Nat) : Fld := { addr := 0xb2004 + t * 0x20, lo := 0, width := 1, acc := .rd }
/-- TEAM_LS_STATUS[t].COUNT (R416). -/
def TEAM_LS_STATUS_COUNT (t : Nat) : Fld := { addr := 0xb2008 + t * 0x20, lo := 16, width := 16, acc := .rd }
/-- TEAM_LS_STATUS[t].MIS23 (R416). -/
def TEAM_LS_STATUS_MIS23 (t : Nat) : Fld := { addr := 0xb2008 + t * 0x20, lo := 1, width := 1, acc := .w1c }
/-- TEAM_LS_STATUS[t].MIS01 (R416). -/
def TEAM_LS_STATUS_MIS01 (t : Nat) : Fld := { addr := 0xb2008 + t * 0x20, lo := 0, width := 1, acc := .w1c }
/-- STATE (R417). -/
def BRIDLE_STATUS_STATE : Fld := { addr := 0xb3000, lo := 28, width := 4, acc := .rd }
/-- RESTARTS (R417). -/
def BRIDLE_STATUS_RESTARTS : Fld := { addr := 0xb3000, lo := 0, width := 16, acc := .rd, keep := true }
/-- enables of CAN_EVT (R362). -/
def CAN_EVT_EN (c : Nat) : Fld := { addr := 0x90044 + c * 0x2000, lo := 0, width := 11, acc := .rw, reset := 0x7FF }
/-- enables of SER_EVT (R378). -/
def SER_EVT_EN (n : Nat) : Fld := { addr := 0xa0040 + n * 0x100, lo := 0, width := 8, acc := .rw, reset := 0xFF }
/-- enables of ENG_STATUS [8:0] (R414). -/
def ENG_EVT_EN (e : Nat) : Fld := { addr := 0xb0008 + e * 0x80, lo := 0, width := 9, acc := .rw, reset := 3 }

end Sys2Proof.Machine.R
end

