-- ==== Sys2Proof/Machine/RegsTime.lean ====
section
/-! DEFINITION. The registers of BAR0 blocks 0x5 to 0x8 (time bases, stride, Punnets, Stirrups), field by field, as the register tables of the spec give them
(offset, bits, access, reset value, survival of WARM_N). Each name is the manual's REGISTER_FIELD; an argument is the
register's index. Each docstring names the rule of spec/ whose table lists the field. -/

namespace Sys2Proof.Machine.R

/-- CLR_STATS (R62). -/
def STRIDE_CTRL_CLR_STATS : Fld := { addr := 0x60000, lo := 4, width := 1, acc := .wo }
/-- TB_SEL (R62). -/
def STRIDE_CTRL_TB_SEL : Fld := { addr := 0x60000, lo := 1, width := 3, acc := .rw }
/-- RUN (R62). -/
def STRIDE_CTRL_RUN : Fld := { addr := 0x60000, lo := 0, width := 1, acc := .rw }
/-- PERIOD (R63). -/
def STRIDE_PERIOD_PERIOD : Fld := { addr := 0x60004, lo := 0, width := 23, acc := .rw, reset := 31250, vmin := 5000, vmax := 5000000 }
/-- GUARD (R64). -/
def STRIDE_GUARD_GUARD : Fld := { addr := 0x60008, lo := 0, width := 15, acc := .rw, reset := 2500, vmin := 100, vmax := 25000 }
/-- ORIGIN (R65). -/
def STRIDE_ORIGIN : Fld := { addr := 0x60010, lo := 0, width := 64, acc := .rw }
/-- CFG_ERR (R66). -/
def STRIDE_STATUS_CFG_ERR : Fld := { addr := 0x60018, lo := 12, width := 4, acc := .rd }
/-- FLIP_LATE (R66). -/
def STRIDE_STATUS_FLIP_LATE : Fld := { addr := 0x60018, lo := 3, width := 1, acc := .w1c }
/-- ADMITTED (R66). -/
def STRIDE_STATUS_ADMITTED : Fld := { addr := 0x60018, lo := 2, width := 1, acc := .rd }
/-- PENDING (R66). -/
def STRIDE_STATUS_PENDING : Fld := { addr := 0x60018, lo := 1, width := 1, acc := .rd }
/-- RUNNING (R66). -/
def STRIDE_STATUS_RUNNING : Fld := { addr := 0x60018, lo := 0, width := 1, acc := .rd }
/-- STRIDE_INDEX (R67). -/
def STRIDE_INDEX : Fld := { addr := 0x60020, lo := 0, width := 40, acc := .rd, sext := true }
/-- STRIDE_NEXT (R67). -/
def STRIDE_NEXT : Fld := { addr := 0x60028, lo := 0, width := 64, acc := .rd }
/-- STRIDE_SKIP.SKIPPED (R67). -/
def STRIDE_SKIP_SKIPPED : Fld := { addr := 0x60030, lo := 0, width := 16, acc := .rd }
/-- STRIDE_MIN_SLACK.MIN_SLACK (R67). -/
def STRIDE_MIN_SLACK_MIN_SLACK : Fld := { addr := 0x60034, lo := 0, width := 24, acc := .rd, reset := 16777215 }
/-- KIND (R68). -/
def ADMIT_RESULT_KIND : Fld := { addr := 0x60040, lo := 28, width := 4, acc := .rd }
/-- INDEX (R68). -/
def ADMIT_RESULT_INDEX : Fld := { addr := 0x60040, lo := 20, width := 8, acc := .rd }
/-- SHORT (R68). -/
def ADMIT_RESULT_SHORT : Fld := { addr := 0x60040, lo := 0, width := 20, acc := .rd }
/-- GAIT_DIV[g].DIV (R69). -/
def GAIT_DIV_DIV (g : Nat) : Fld := { addr := 0x60100 + g * 0x20, lo := 0, width := 17, acc := if g = 0 then .rd else .rw, reset := 1, vmin := 1, vmax := 65536 }
/-- GAIT_INDEX[g] (R69). -/
def GAIT_INDEX (g : Nat) : Fld := { addr := 0x60108 + g * 0x20, lo := 0, width := 40, acc := .rd, sext := true }
/-- GAIT_STATUS[g].EDGE (R69). -/
def GAIT_STATUS_EDGE (g : Nat) : Fld := { addr := 0x60110 + g * 0x20, lo := 4, width := 1, acc := .w1c }
/-- GAIT_STATUS[g].LUNGE_DONE (R69). -/
def GAIT_STATUS_LUNGE_DONE (g : Nat) : Fld := { addr := 0x60110 + g * 0x20, lo := 3, width := 1, acc := .w1c }
/-- GAIT_STATUS[g].SKIP (R69). -/
def GAIT_STATUS_SKIP (g : Nat) : Fld := { addr := 0x60110 + g * 0x20, lo := 2, width := 1, acc := .w1c }
/-- GAIT_STATUS[g].LAUNCH_MISS (R69). -/
def GAIT_STATUS_LAUNCH_MISS (g : Nat) : Fld := { addr := 0x60110 + g * 0x20, lo := 1, width := 1, acc := .w1c }
/-- GAIT_STATUS[g].OVERRUN (R69). -/
def GAIT_STATUS_OVERRUN (g : Nat) : Fld := { addr := 0x60110 + g * 0x20, lo := 0, width := 1, acc := .w1c }
/-- GAIT_CAUSE_EN[g].EN (R69). -/
def GAIT_CAUSE_EN_EN (g : Nat) : Fld := { addr := 0x60114 + g * 0x20, lo := 0, width := 5, acc := .rw, reset := 7 }
/-- GAIT_OVR_CNT[g] (R69). -/
def GAIT_OVR_CNT (g : Nat) : Fld := { addr := 0x60118 + g * 0x20, lo := 0, width := 32, acc := .rd }
/-- GAIT_OVR_SRC[g].KIND (R69). -/
def GAIT_OVR_SRC_KIND (g : Nat) : Fld := { addr := 0x6011c + g * 0x20, lo := 12, width := 4, acc := .rd }
/-- GAIT_OVR_SRC[g].INDEX (R69). -/
def GAIT_OVR_SRC_INDEX (g : Nat) : Fld := { addr := 0x6011c + g * 0x20, lo := 0, width := 12, acc := .rd }
/-- PHASE (R70). -/
def LATCH_PHASE_PHASE (b : Nat) : Fld := { addr := 0x60200 + b * 0x4, lo := 0, width := 16, acc := .rw }
/-- LUNGE_CTRL[n].LEAD (R71). -/
def LUNGE_CTRL_LEAD (n : Nat) : Fld := { addr := 0x60400 + n * 0x40, lo := 4, width := 2, acc := .rw }
/-- LUNGE_CTRL[n].GAIT (R71). -/
def LUNGE_CTRL_GAIT (n : Nat) : Fld := { addr := 0x60400 + n * 0x40, lo := 2, width := 2, acc := .rw }
/-- LUNGE_CTRL[n].UPDATE (R71). -/
def LUNGE_CTRL_UPDATE (n : Nat) : Fld := { addr := 0x60400 + n * 0x40, lo := 1, width := 1, acc := .w1s }
/-- LUNGE_CTRL[n].EN (R71). -/
def LUNGE_CTRL_EN (n : Nat) : Fld := { addr := 0x60400 + n * 0x40, lo := 0, width := 1, acc := .rw }
/-- LUNGE_TARGET[n] (R71). -/
def LUNGE_TARGET (n : Nat) : Fld := { addr := 0x60408 + n * 0x40, lo := 0, width := 40, acc := .rw, sext := true }
/-- LUNGE_ACCEL[n] (R71). -/
def LUNGE_ACCEL (n : Nat) : Fld := { addr := 0x60410 + n * 0x40, lo := 0, width := 39, acc := .rw }
/-- LUNGE_POS_SET[n] (R71). -/
def LUNGE_POS_SET (n : Nat) : Fld := { addr := 0x60418 + n * 0x40, lo := 0, width := 40, acc := .rw, sext := true }
/-- LUNGE_STEP[n] (R71). -/
def LUNGE_STEP (n : Nat) : Fld := { addr := 0x60420 + n * 0x40, lo := 0, width := 40, acc := .rw, sext := true }
/-- LUNGE_POS[n] (R71). -/
def LUNGE_POS (n : Nat) : Fld := { addr := 0x60428 + n * 0x40, lo := 0, width := 40, acc := .rd, sext := true }
/-- LUNGE_VEL[n] (R71). -/
def LUNGE_VEL (n : Nat) : Fld := { addr := 0x60430 + n * 0x40, lo := 0, width := 40, acc := .rd, sext := true }
/-- LUNGE_STATUS[n].CFG_REJ (R71). -/
def LUNGE_STATUS_CFG_REJ (n : Nat) : Fld := { addr := 0x60438 + n * 0x40, lo := 3, width := 1, acc := .w1c }
/-- LUNGE_STATUS[n].UPD_LATE (R71). -/
def LUNGE_STATUS_UPD_LATE (n : Nat) : Fld := { addr := 0x60438 + n * 0x40, lo := 2, width := 1, acc := .w1c }
/-- LUNGE_STATUS[n].AT_TARGET (R71). -/
def LUNGE_STATUS_AT_TARGET (n : Nat) : Fld := { addr := 0x60438 + n * 0x40, lo := 1, width := 1, acc := .rd }
/-- LUNGE_STATUS[n].ACTIVE (R71). -/
def LUNGE_STATUS_ACTIVE (n : Nat) : Fld := { addr := 0x60438 + n * 0x40, lo := 0, width := 1, acc := .rd }
/-- SET (R110). -/
def TB_CTRL_SET (n : Nat) : Fld := { addr := 0x50000 + n * 0x100, lo := 4, width := 1, acc := .w1s }
/-- STEP (R110). -/
def TB_CTRL_STEP (n : Nat) : Fld := { addr := 0x50000 + n * 0x100, lo := 3, width := 1, acc := .w1s }
/-- LOAD_INCR (R110). -/
def TB_CTRL_LOAD_INCR (n : Nat) : Fld := { addr := 0x50000 + n * 0x100, lo := 2, width := 1, acc := .w1s }
/-- FMT (R110). -/
def TB_CTRL_FMT (n : Nat) : Fld := { addr := 0x50000 + n * 0x100, lo := 1, width := 1, acc := if n = 0 then .rd else .rw, reset := if n = 0 then 0 else 1, keep := true }
/-- EN (R110). -/
def TB_CTRL_EN (n : Nat) : Fld := { addr := 0x50000 + n * 0x100, lo := 0, width := 1, acc := if n = 0 then .rd else .rw, reset := 1, keep := true }
/-- STEP_GEN (R111). -/
def TB_STATUS_STEP_GEN (n : Nat) : Fld := { addr := 0x50004 + n * 0x100, lo := 12, width := 4, acc := .rd, keep := true }
/-- RTC_FAULT (R111). -/
def TB_STATUS_RTC_FAULT (n : Nat) : Fld := { addr := 0x50004 + n * 0x100, lo := 9, width := 1, acc := .w1c }
/-- TRG_LATE (R111). -/
def TB_STATUS_TRG_LATE (n : Nat) : Fld := { addr := 0x50004 + n * 0x100, lo := 8, width := 1, acc := .w1c }
/-- CAP_OVF (R111). -/
def TB_STATUS_CAP_OVF (n : Nat) : Fld := { addr := 0x50004 + n * 0x100, lo := 7, width := 1, acc := .w1c }
/-- CAP_READY (R111). -/
def TB_STATUS_CAP_READY (n : Nat) : Fld := { addr := 0x50004 + n * 0x100, lo := 6, width := 1, acc := .w1c }
/-- SEED_INVALID (R111). -/
def TB_STATUS_SEED_INVALID (n : Nat) : Fld := { addr := 0x50004 + n * 0x100, lo := 5, width := 1, acc := .w1c }
/-- CFG_REJ (R111). -/
def TB_STATUS_CFG_REJ (n : Nat) : Fld := { addr := 0x50004 + n * 0x100, lo := 4, width := 1, acc := .w1c }
/-- STEP_REJ (R111). -/
def TB_STATUS_STEP_REJ (n : Nat) : Fld := { addr := 0x50004 + n * 0x100, lo := 3, width := 1, acc := .w1c }
/-- INCR_PEND (R111). -/
def TB_STATUS_INCR_PEND (n : Nat) : Fld := { addr := 0x50004 + n * 0x100, lo := 2, width := 1, acc := .rd }
/-- STEP_PEND (R111). -/
def TB_STATUS_STEP_PEND (n : Nat) : Fld := { addr := 0x50004 + n * 0x100, lo := 1, width := 1, acc := .rd }
/-- RUNNING (R111). -/
def TB_STATUS_RUNNING (n : Nat) : Fld := { addr := 0x50004 + n * 0x100, lo := 0, width := 1, acc := .rd, reset := 1, keep := true }
/-- TB_INCR[n] (R112). -/
def TB_INCR (n : Nat) : Fld := { addr := 0x50008 + n * 0x100, lo := 0, width := 40, acc := .rw, reset := 8589934592, keep := true, vmin := 6442450944, vmax := 10737418239 }
/-- TB_NOW[n] word LO (R112). -/
def TB_NOW_LO (n : Nat) : Fld := { addr := 0x50010 + n * 0x100, lo := 0, width := 32, acc := .rd }
/-- TB_NOW[n] word HI (R112). -/
def TB_NOW_HI (n : Nat) : Fld := { addr := 0x50014 + n * 0x100, lo := 0, width := 32, acc := .rd }
/-- TB_NOW[n] word XHI (R112). -/
def TB_NOW_XHI (n : Nat) : Fld := { addr := 0x50018 + n * 0x100, lo := 0, width := 32, acc := .rd }
/-- TB_SET[n] word LO (R112). -/
def TB_SET_LO (n : Nat) : Fld := { addr := 0x50020 + n * 0x100, lo := 0, width := 32, acc := .rw }
/-- TB_SET[n] word HI (R112). -/
def TB_SET_HI (n : Nat) : Fld := { addr := 0x50024 + n * 0x100, lo := 0, width := 32, acc := .rw }
/-- TB_SET[n] word XHI (R112). -/
def TB_SET_XHI (n : Nat) : Fld := { addr := 0x50028 + n * 0x100, lo := 0, width := 32, acc := .rw }
/-- TB_STEP[n] (R112). -/
def TB_STEP (n : Nat) : Fld := { addr := 0x50030 + n * 0x100, lo := 0, width := 64, acc := .rw }
/-- TB_STEP_FRAC[n] (R112). -/
def TB_STEP_FRAC (n : Nat) : Fld := { addr := 0x50038 + n * 0x100, lo := 0, width := 16, acc := .rw }
/-- TB_CAUSE_EN[n] (R112). -/
def TB_CAUSE_EN (n : Nat) : Fld := { addr := 0x5003c + n * 0x100, lo := 3, width := 7, acc := .rw, reset := 127 }
/-- TB_PTP_DOMAIN[n].DOM_EN (R112). -/
def TB_PTP_DOMAIN_DOM_EN (n : Nat) : Fld := { addr := 0x50040 + n * 0x100, lo := 16, width := 1, acc := .rw, keep := true }
/-- TB_PTP_DOMAIN[n].MAJOR_SDO (R112). -/
def TB_PTP_DOMAIN_MAJOR_SDO (n : Nat) : Fld := { addr := 0x50040 + n * 0x100, lo := 8, width := 4, acc := .rw, keep := true }
/-- TB_PTP_DOMAIN[n].DOMAIN (R112). -/
def TB_PTP_DOMAIN_DOMAIN (n : Nat) : Fld := { addr := 0x50040 + n * 0x100, lo := 0, width := 8, acc := .rw, keep := true }
/-- SNAP (R113). -/
def TB_SNAP_CTRL_SNAP : Fld := { addr := 0x50800, lo := 0, width := 1, acc := .wo }
/-- TS_PORT_CFG[p].TC_EN (R114). -/
def TS_PORT_CFG_TC_EN (p : Nat) : Fld := { addr := 0x51000 + p * 0x20, lo := 6, width := 1, acc := .rw }
/-- TS_PORT_CFG[p].LATE_POLICY (R114). -/
def TS_PORT_CFG_LATE_POLICY (p : Nat) : Fld := { addr := 0x51000 + p * 0x20, lo := 5, width := 1, acc := .rw }
/-- TS_PORT_CFG[p].TX_EN (R114). -/
def TS_PORT_CFG_TX_EN (p : Nat) : Fld := { addr := 0x51000 + p * 0x20, lo := 4, width := 1, acc := .rw, reset := 1 }
/-- TS_PORT_CFG[p].RX_EN (R114). -/
def TS_PORT_CFG_RX_EN (p : Nat) : Fld := { addr := 0x51000 + p * 0x20, lo := 3, width := 1, acc := .rw, reset := 1 }
/-- TS_PORT_CFG[p].TB (R114). -/
def TS_PORT_CFG_TB (p : Nat) : Fld := { addr := 0x51000 + p * 0x20, lo := 0, width := 3, acc := .rw }
/-- TS_LATE_TOL[p] (R114). -/
def TS_LATE_TOL (p : Nat) : Fld := { addr := 0x51004 + p * 0x20, lo := 0, width := 16, acc := .rw }
/-- TS_PORT_ADJ[p].RX_ADJ (R114). -/
def TS_PORT_ADJ_RX_ADJ (p : Nat) : Fld := { addr := 0x51008 + p * 0x20, lo := 16, width := 16, acc := .rw }
/-- TS_PORT_ADJ[p].TX_ADJ (R114). -/
def TS_PORT_ADJ_TX_ADJ (p : Nat) : Fld := { addr := 0x51008 + p * 0x20, lo := 0, width := 16, acc := .rw }
/-- TS_PORT_CNT[p].LAUNCH_DROP (R114). -/
def TS_PORT_CNT_LAUNCH_DROP (p : Nat) : Fld := { addr := 0x5100c + p * 0x20, lo := 16, width := 16, acc := .rd }
/-- TS_PORT_CNT[p].LAUNCH_LATE (R114). -/
def TS_PORT_CNT_LAUNCH_LATE (p : Nat) : Fld := { addr := 0x5100c + p * 0x20, lo := 0, width := 16, acc := .rd }
/-- TS_PORT_CNT[p].TX_TS_LOST (R114). -/
def TS_PORT_CNT_TX_TS_LOST (p : Nat) : Fld := { addr := 0x51010 + p * 0x20, lo := 16, width := 16, acc := .rd }
/-- TS_PORT_CNT[p].TS_ERR (R114). -/
def TS_PORT_CNT_TS_ERR (p : Nat) : Fld := { addr := 0x51010 + p * 0x20, lo := 0, width := 16, acc := .rd }
/-- CAP_CFG[c].PIN (R116). -/
def CAP_CFG_PIN (c : Nat) : Fld := { addr := 0x52000 + c * 0x20, lo := 8, width := 7, acc := .rw, vmin := 0, vmax := 95 }
/-- CAP_CFG[c].TB (R116). -/
def CAP_CFG_TB (c : Nat) : Fld := { addr := 0x52000 + c * 0x20, lo := 3, width := 3, acc := .rw }
/-- CAP_CFG[c].EDGE (R116). -/
def CAP_CFG_EDGE (c : Nat) : Fld := { addr := 0x52000 + c * 0x20, lo := 1, width := 2, acc := .rw, reset := 1, vmin := 1, vmax := 3 }
/-- CAP_CFG[c].EN (R116). -/
def CAP_CFG_EN (c : Nat) : Fld := { addr := 0x52000 + c * 0x20, lo := 0, width := 1, acc := .rw }
/-- CAP_STATUS[c].LOST (R116). -/
def CAP_STATUS_LOST (c : Nat) : Fld := { addr := 0x52004 + c * 0x20, lo := 16, width := 16, acc := .rd }
/-- CAP_STATUS[c].OVF (R116). -/
def CAP_STATUS_OVF (c : Nat) : Fld := { addr := 0x52004 + c * 0x20, lo := 4, width := 1, acc := .w1c }
/-- CAP_STATUS[c].LEVEL (R116). -/
def CAP_STATUS_LEVEL (c : Nat) : Fld := { addr := 0x52004 + c * 0x20, lo := 0, width := 4, acc := .rd }
/-- CAP_TS[c] word LO (R116). -/
def CAP_TS_LO (c : Nat) : Fld := { addr := 0x52008 + c * 0x20, lo := 0, width := 32, acc := .rd }
/-- CAP_TS[c] word HI (R116). -/
def CAP_TS_HI (c : Nat) : Fld := { addr := 0x5200c + c * 0x20, lo := 0, width := 32, acc := .rd }
/-- CAP_TS[c] word XHI (R116). -/
def CAP_TS_XHI (c : Nat) : Fld := { addr := 0x52010 + c * 0x20, lo := 0, width := 32, acc := .rd }
/-- CAP_META[c] (R116). -/
def CAP_META (c : Nat) : Fld := { addr := 0x52014 + c * 0x20, lo := 0, width := 32, acc := .rd }
/-- TRG_CTRL[t].PIN (R117). -/
def TRG_CTRL_PIN (t : Nat) : Fld := { addr := 0x53000 + t * 0x40, lo := 8, width := 7, acc := .rw, vmin := 0, vmax := 95 }
/-- TRG_CTRL[t].TB (R117). -/
def TRG_CTRL_TB (t : Nat) : Fld := { addr := 0x53000 + t * 0x40, lo := 3, width := 3, acc := .rw }
/-- TRG_CTRL[t].POL (R117). -/
def TRG_CTRL_POL (t : Nat) : Fld := { addr := 0x53000 + t * 0x40, lo := 2, width := 1, acc := .rw }
/-- TRG_CTRL[t].PERIODIC (R117). -/
def TRG_CTRL_PERIODIC (t : Nat) : Fld := { addr := 0x53000 + t * 0x40, lo := 1, width := 1, acc := .rw }
/-- TRG_CTRL[t].EN (R117). -/
def TRG_CTRL_EN (t : Nat) : Fld := { addr := 0x53000 + t * 0x40, lo := 0, width := 1, acc := .rw }
/-- TRG_STATUS[t].MISSED (R117). -/
def TRG_STATUS_MISSED (t : Nat) : Fld := { addr := 0x53004 + t * 0x40, lo := 16, width := 16, acc := .rd }
/-- TRG_STATUS[t].LATE (R117). -/
def TRG_STATUS_LATE (t : Nat) : Fld := { addr := 0x53004 + t * 0x40, lo := 1, width := 1, acc := .w1c }
/-- TRG_STATUS[t].ACTIVE (R117). -/
def TRG_STATUS_ACTIVE (t : Nat) : Fld := { addr := 0x53004 + t * 0x40, lo := 0, width := 1, acc := .rd }
/-- TRG_START[t] word LO (R117). -/
def TRG_START_LO (t : Nat) : Fld := { addr := 0x53008 + t * 0x40, lo := 0, width := 32, acc := .rw }
/-- TRG_START[t] word HI (R117). -/
def TRG_START_HI (t : Nat) : Fld := { addr := 0x5300c + t * 0x40, lo := 0, width := 32, acc := .rw }
/-- TRG_START[t] word XHI (R117). -/
def TRG_START_XHI (t : Nat) : Fld := { addr := 0x53010 + t * 0x40, lo := 0, width := 32, acc := .rw }
/-- TRG_PERIOD_NS[t] (R117). -/
def TRG_PERIOD_NS (t : Nat) : Fld := { addr := 0x53014 + t * 0x40, lo := 0, width := 32, acc := .rw, reset := 1000000000, vmin := 20, vmax := 4294967295 }
/-- TRG_PERIOD_FRAC[t] (R117). -/
def TRG_PERIOD_FRAC (t : Nat) : Fld := { addr := 0x53018 + t * 0x40, lo := 0, width := 16, acc := .rw }
/-- TRG_WIDTH[t] (R117). -/
def TRG_WIDTH (t : Nat) : Fld := { addr := 0x5301c + t * 0x40, lo := 0, width := 24, acc := .rw, reset := 10000000 }
/-- RTC_CTRL.SYNC_TB (R118). -/
def RTC_CTRL_SYNC_TB : Fld := { addr := 0x54000, lo := 2, width := 3, acc := .rw, reset := 1 }
/-- RTC_CTRL.SYNC_FROM_TB (R118). -/
def RTC_CTRL_SYNC_FROM_TB : Fld := { addr := 0x54000, lo := 1, width := 1, acc := .w1s }
/-- RTC_CTRL.LOAD (R118). -/
def RTC_CTRL_LOAD : Fld := { addr := 0x54000, lo := 0, width := 1, acc := .w1s }
/-- RTC_STATUS.BUSY (R118). -/
def RTC_STATUS_BUSY : Fld := { addr := 0x54004, lo := 3, width := 1, acc := .rd }
/-- RTC_STATUS.OSC_FAIL (R118). -/
def RTC_STATUS_OSC_FAIL : Fld := { addr := 0x54004, lo := 2, width := 1, acc := .w1c, reset := 1 }
/-- RTC_STATUS.VBAT_LOW (R118). -/
def RTC_STATUS_VBAT_LOW : Fld := { addr := 0x54004, lo := 1, width := 1, acc := .w1c, reset := 1 }
/-- RTC_STATUS.VALID (R118). -/
def RTC_STATUS_VALID : Fld := { addr := 0x54004, lo := 0, width := 1, acc := .rd }
/-- RTC_SEC (R118). -/
def RTC_SEC : Fld := { addr := 0x54008, lo := 0, width := 48, acc := .rd }
/-- RTC_SUBSEC (R118). -/
def RTC_SUBSEC : Fld := { addr := 0x54010, lo := 0, width := 15, acc := .rd }
/-- RTC_SET_SEC (R118). -/
def RTC_SET_SEC : Fld := { addr := 0x54018, lo := 0, width := 48, acc := .rw }
/-- RTC_TRIM (R118). -/
def RTC_TRIM : Fld := { addr := 0x54020, lo := 0, width := 16, acc := .rw }
/-- STIR_PROG[b][i] (R526). -/
def STIR_PROG (b : Nat) (i : Nat) : Fld := { addr := 0x80000 + b * 0x1000 + i * 0x4, lo := 0, width := 16, acc := .rw, keep := true }
/-- STIR_BLK_CTRL[b].STOP (R526). -/
def STIR_BLK_CTRL_STOP (b : Nat) : Fld := { addr := 0x80100 + b * 0x1000, lo := 8, width := 8, acc := .wo }
/-- STIR_BLK_CTRL[b].START (R526). -/
def STIR_BLK_CTRL_START (b : Nat) : Fld := { addr := 0x80100 + b * 0x1000, lo := 0, width := 8, acc := .wo }
/-- STIR_BLK_STATUS[b].PROG_WHILE_RUN (R526). -/
def STIR_BLK_STATUS_PROG_WHILE_RUN (b : Nat) : Fld := { addr := 0x80104 + b * 0x1000, lo := 8, width := 1, acc := .w1c }
/-- STIR_BLK_STATUS[b].ENABLED (R526). -/
def STIR_BLK_STATUS_ENABLED (b : Nat) : Fld := { addr := 0x80104 + b * 0x1000, lo := 0, width := 8, acc := .rd }
/-- STIR_EVT_EN[b].CAUSE (R526). -/
def STIR_EVT_EN_CAUSE (b : Nat) : Fld := { addr := 0x80108 + b * 0x1000, lo := 1, width := 6, acc := .rw, reset := 63 }
/-- STIR_EVT_EN[b].PROG (R526). -/
def STIR_EVT_EN_PROG (b : Nat) : Fld := { addr := 0x80108 + b * 0x1000, lo := 0, width := 1, acc := .rw, reset := 1 }
/-- STIR_MCTRL.EN (R527). -/
def STIR_MCTRL_EN (b : Nat) (m : Nat) : Fld := { addr := 0x80200 + b * 0x1000 + m * 0x40, lo := 0, width := 1, acc := .rw }
/-- STIR_MLANES01.W1 (R527). -/
def STIR_MLANES01_W1 (b : Nat) (m : Nat) : Fld := { addr := 0x80204 + b * 0x1000 + m * 0x40, lo := 21, width := 5, acc := .rw, reset := 1 }
/-- STIR_MLANES01.BASE1 (R527). -/
def STIR_MLANES01_BASE1 (b : Nat) (m : Nat) : Fld := { addr := 0x80204 + b * 0x1000 + m * 0x40, lo := 16, width := 5, acc := .rw }
/-- STIR_MLANES01.W0 (R527). -/
def STIR_MLANES01_W0 (b : Nat) (m : Nat) : Fld := { addr := 0x80204 + b * 0x1000 + m * 0x40, lo := 5, width := 5, acc := .rw, reset := 1 }
/-- STIR_MLANES01.BASE0 (R527). -/
def STIR_MLANES01_BASE0 (b : Nat) (m : Nat) : Fld := { addr := 0x80204 + b * 0x1000 + m * 0x40, lo := 0, width := 5, acc := .rw }
/-- STIR_MSHIFT.DIV_M1 (R527). -/
def STIR_MSHIFT_DIV_M1 (b : Nat) (m : Nat) : Fld := { addr := 0x80208 + b * 0x1000 + m * 0x40, lo := 16, width := 16, acc := .rw }
/-- STIR_MSHIFT.UNIT_M1 (R527). -/
def STIR_MSHIFT_UNIT_M1 (b : Nat) (m : Nat) : Fld := { addr := 0x80208 + b * 0x1000 + m * 0x40, lo := 11, width := 5, acc := .rw, reset := 31 }
/-- STIR_MSHIFT.PN (R527). -/
def STIR_MSHIFT_PN (b : Nat) (m : Nat) : Fld := { addr := 0x80208 + b * 0x1000 + m * 0x40, lo := 5, width := 6, acc := .rw }
/-- STIR_MSHIFT.PN_EN (R527). -/
def STIR_MSHIFT_PN_EN (b : Nat) (m : Nat) : Fld := { addr := 0x80208 + b * 0x1000 + m * 0x40, lo := 4, width := 1, acc := .rw }
/-- STIR_MSHIFT.SAMPLE (R527). -/
def STIR_MSHIFT_SAMPLE (b : Nat) (m : Nat) : Fld := { addr := 0x80208 + b * 0x1000 + m * 0x40, lo := 0, width := 4, acc := .rw }
/-- STIR_WRAP.TOP (R527). -/
def STIR_WRAP_TOP (b : Nat) (m : Nat) : Fld := { addr := 0x8020c + b * 0x1000 + m * 0x40, lo := 8, width := 6, acc := .rw, reset := 63 }
/-- STIR_WRAP.BOTTOM (R527). -/
def STIR_WRAP_BOTTOM (b : Nat) (m : Nat) : Fld := { addr := 0x8020c + b * 0x1000 + m * 0x40, lo := 0, width := 6, acc := .rw }
/-- STIR_MSTATUS.STATE (R527). -/
def STIR_MSTATUS_STATE (b : Nat) (m : Nat) : Fld := { addr := 0x80210 + b * 0x1000 + m * 0x40, lo := 24, width := 3, acc := .rd }
/-- STIR_MSTATUS.PC (R527). -/
def STIR_MSTATUS_PC (b : Nat) (m : Nat) : Fld := { addr := 0x80210 + b * 0x1000 + m * 0x40, lo := 12, width := 6, acc := .rd }
/-- STIR_MSTATUS.RX_LEVEL (R527). -/
def STIR_MSTATUS_RX_LEVEL (b : Nat) (m : Nat) : Fld := { addr := 0x80210 + b * 0x1000 + m * 0x40, lo := 8, width := 4, acc := .rd }
/-- STIR_MSTATUS.SIGNAL (R527). -/
def STIR_MSTATUS_SIGNAL (b : Nat) (m : Nat) : Fld := { addr := 0x80210 + b * 0x1000 + m * 0x40, lo := 6, width := 1, acc := .w1c }
/-- STIR_MSTATUS.ILLEGAL (R527). -/
def STIR_MSTATUS_ILLEGAL (b : Nat) (m : Nat) : Fld := { addr := 0x80210 + b * 0x1000 + m * 0x40, lo := 5, width := 1, acc := .w1c }
/-- STIR_MSTATUS.LATE (R527). -/
def STIR_MSTATUS_LATE (b : Nat) (m : Nat) : Fld := { addr := 0x80210 + b * 0x1000 + m * 0x40, lo := 4, width := 1, acc := .w1c }
/-- STIR_MSTATUS.WR_DROP (R527). -/
def STIR_MSTATUS_WR_DROP (b : Nat) (m : Nat) : Fld := { addr := 0x80210 + b * 0x1000 + m * 0x40, lo := 3, width := 1, acc := .w1c }
/-- STIR_MSTATUS.OVERFLOW (R527). -/
def STIR_MSTATUS_OVERFLOW (b : Nat) (m : Nat) : Fld := { addr := 0x80210 + b * 0x1000 + m * 0x40, lo := 2, width := 1, acc := .w1c }
/-- STIR_MSTATUS.UNDERFLOW (R527). -/
def STIR_MSTATUS_UNDERFLOW (b : Nat) (m : Nat) : Fld := { addr := 0x80210 + b * 0x1000 + m * 0x40, lo := 1, width := 1, acc := .w1c }
/-- STIR_MSTATUS.CFG_REJ (R527). -/
def STIR_MSTATUS_CFG_REJ (b : Nat) (m : Nat) : Fld := { addr := 0x80210 + b * 0x1000 + m * 0x40, lo := 0, width := 1, acc := .w1c }
/-- STIR_TXDATA (R527). -/
def STIR_TXDATA (b : Nat) (m : Nat) : Fld := { addr := 0x80214 + b * 0x1000 + m * 0x40, lo := 0, width := 32, acc := .wo }
/-- STIR_RXDATA (R527). -/
def STIR_RXDATA (b : Nat) (m : Nat) : Fld := { addr := 0x80218 + b * 0x1000 + m * 0x40, lo := 0, width := 32, acc := .rd }
/-- STIR_TX_LEVEL (R527). -/
def STIR_TX_LEVEL (b : Nat) (m : Nat) : Fld := { addr := 0x8021c + b * 0x1000 + m * 0x40, lo := 0, width := 4, acc := .rd }
/-- STIR_MLANES23.W3 (R527). -/
def STIR_MLANES23_W3 (b : Nat) (m : Nat) : Fld := { addr := 0x80220 + b * 0x1000 + m * 0x40, lo := 21, width := 5, acc := .rw, reset := 1 }
/-- STIR_MLANES23.BASE3 (R527). -/
def STIR_MLANES23_BASE3 (b : Nat) (m : Nat) : Fld := { addr := 0x80220 + b * 0x1000 + m * 0x40, lo := 16, width := 5, acc := .rw }
/-- STIR_MLANES23.W2 (R527). -/
def STIR_MLANES23_W2 (b : Nat) (m : Nat) : Fld := { addr := 0x80220 + b * 0x1000 + m * 0x40, lo := 5, width := 5, acc := .rw, reset := 1 }
/-- STIR_MLANES23.BASE2 (R527). -/
def STIR_MLANES23_BASE2 (b : Nat) (m : Nat) : Fld := { addr := 0x80220 + b * 0x1000 + m * 0x40, lo := 0, width := 5, acc := .rw }
/-- STIR_MOE (R527). -/
def STIR_MOE (b : Nat) (m : Nat) : Fld := { addr := 0x80224 + b * 0x1000 + m * 0x40, lo := 0, width := 24, acc := .rd }
/-- STIR_MFILL.RFILL (R527). -/
def STIR_MFILL_RFILL (b : Nat) (m : Nat) : Fld := { addr := 0x80228 + b * 0x1000 + m * 0x40, lo := 8, width := 7, acc := .rd }
/-- STIR_MFILL.XFILL (R527). -/
def STIR_MFILL_XFILL (b : Nat) (m : Nat) : Fld := { addr := 0x80228 + b * 0x1000 + m * 0x40, lo := 0, width := 7, acc := .rd }
/-- STIR_TIME_CFG.TB (R528). -/
def STIR_TIME_CFG_TB : Fld := { addr := 0x88000, lo := 0, width := 3, acc := .rw }
/-- STIR_SC (R528). -/
def STIR_SC : Fld := { addr := 0x88008, lo := 0, width := 64, acc := .rd }
/-- GPIO_CFG[p].FUNC (R528). -/
def GPIO_CFG_FUNC (p : Nat) : Fld := { addr := 0x89000 + p * 0x4, lo := 4, width := 2, acc := .rd }
/-- GPIO_CFG[p].LATCH_INIT (R528). -/
def GPIO_CFG_LATCH_INIT (p : Nat) : Fld := { addr := 0x89000 + p * 0x4, lo := 3, width := 1, acc := .rd }
/-- GPIO_CFG[p].MACH (R528). -/
def GPIO_CFG_MACH (p : Nat) : Fld := { addr := 0x89000 + p * 0x4, lo := 0, width := 3, acc := .rd }
/-- STIR_SBIND[i].VALID (R528). -/
def STIR_SBIND_VALID (i : Nat) : Fld := { addr := 0x8a000 + i * 0x8, lo := 31, width := 1, acc := .rd }
/-- STIR_SBIND[i].REGION (R528). -/
def STIR_SBIND_REGION (i : Nat) : Fld := { addr := 0x8a000 + i * 0x8, lo := 12, width := 8, acc := .rd }
/-- STIR_SBIND[i].ITEM (R528). -/
def STIR_SBIND_ITEM (i : Nat) : Fld := { addr := 0x8a000 + i * 0x8, lo := 0, width := 12, acc := .rd }
/-- STIR_SBIND[i].PIN (R528). -/
def STIR_SBIND_PIN (i : Nat) : Fld := { addr := 0x8a004 + i * 0x8, lo := 8, width := 7, acc := .rd }
/-- STIR_SBIND[i].COUNT_M1 (R528). -/
def STIR_SBIND_COUNT_M1 (i : Nat) : Fld := { addr := 0x8a004 + i * 0x8, lo := 0, width := 5, acc := .rd }
/-- latch binding, the layout of STIR_SBIND (R528) (R528). -/
def STIR_LBIND_VALID (i : Nat) : Fld := { addr := 0x8a400 + i * 0x8, lo := 31, width := 1, acc := .rd }
/-- latch binding, the layout of STIR_SBIND (R528) (R528). -/
def STIR_LBIND_REGION (i : Nat) : Fld := { addr := 0x8a400 + i * 0x8, lo := 12, width := 8, acc := .rd }
/-- latch binding, the layout of STIR_SBIND (R528) (R528). -/
def STIR_LBIND_ITEM (i : Nat) : Fld := { addr := 0x8a400 + i * 0x8, lo := 0, width := 12, acc := .rd }
/-- latch binding, the layout of STIR_SBIND (R528) (R528). -/
def STIR_LBIND_PIN (i : Nat) : Fld := { addr := 0x8a404 + i * 0x8, lo := 8, width := 7, acc := .rd }
/-- latch binding, the layout of STIR_SBIND (R528) (R528). -/
def STIR_LBIND_COUNT_M1 (i : Nat) : Fld := { addr := 0x8a404 + i * 0x8, lo := 0, width := 5, acc := .rd }
/-- PN_CFG[n].RESYNC (R529). -/
def PN_CFG_RESYNC (n : Nat) : Fld := { addr := 0x70000 + n * 0x20, lo := 15, width := 1, acc := .rw }
/-- PN_CFG[n].W16 (R529). -/
def PN_CFG_W16 (n : Nat) : Fld := { addr := 0x70000 + n * 0x20, lo := 14, width := 1, acc := .rw }
/-- PN_CFG[n].SRC_KIND (R529). -/
def PN_CFG_SRC_KIND (n : Nat) : Fld := { addr := 0x70000 + n * 0x20, lo := 12, width := 2, acc := .rw, vmin := 0, vmax := 2 }
/-- PN_CFG[n].SRC_INDEX (R529). -/
def PN_CFG_SRC_INDEX (n : Nat) : Fld := { addr := 0x70000 + n * 0x20, lo := 7, width := 5, acc := .rw }
/-- PN_CFG[n].RD_AGENT (R529). -/
def PN_CFG_RD_AGENT (n : Nat) : Fld := { addr := 0x70000 + n * 0x20, lo := 0, width := 4, acc := .rw, reset := 12, vmin := 0, vmax := 12 }
/-- PN_CTRL[n].FLUSH (R529). -/
def PN_CTRL_FLUSH (n : Nat) : Fld := { addr := 0x70004 + n * 0x20, lo := 0, width := 1, acc := .w1s }
/-- PN_LEVEL[n] (R529). -/
def PN_LEVEL (n : Nat) : Fld := { addr := 0x70008 + n * 0x20, lo := 0, width := 8, acc := .rw, vmin := 0, vmax := 128 }
/-- PN_STATUS[n].FILL (R529). -/
def PN_STATUS_FILL (n : Nat) : Fld := { addr := 0x7000c + n * 0x20, lo := 16, width := 8, acc := .rd }
/-- PN_STATUS[n].RESYNCED (R529). -/
def PN_STATUS_RESYNCED (n : Nat) : Fld := { addr := 0x7000c + n * 0x20, lo := 7, width := 1, acc := .w1c }
/-- PN_STATUS[n].RD_REJ (R529). -/
def PN_STATUS_RD_REJ (n : Nat) : Fld := { addr := 0x7000c + n * 0x20, lo := 6, width := 1, acc := .w1c }
/-- PN_STATUS[n].WR_REJ (R529). -/
def PN_STATUS_WR_REJ (n : Nat) : Fld := { addr := 0x7000c + n * 0x20, lo := 5, width := 1, acc := .w1c }
/-- PN_STATUS[n].PKT (R529). -/
def PN_STATUS_PKT (n : Nat) : Fld := { addr := 0x7000c + n * 0x20, lo := 4, width := 1, acc := .w1c }
/-- PN_STATUS[n].UNDERRUN (R529). -/
def PN_STATUS_UNDERRUN (n : Nat) : Fld := { addr := 0x7000c + n * 0x20, lo := 2, width := 1, acc := .w1c }
/-- PN_STATUS[n].GAP (R529). -/
def PN_STATUS_GAP (n : Nat) : Fld := { addr := 0x7000c + n * 0x20, lo := 1, width := 1, acc := .w1c }
/-- PN_STATUS[n].LEVEL (R529). -/
def PN_STATUS_LEVEL (n : Nat) : Fld := { addr := 0x7000c + n * 0x20, lo := 0, width := 1, acc := .w1c }
/-- PN_WR[n].NODATA (R529). -/
def PN_WR_NODATA (n : Nat) : Fld := { addr := 0x70010 + n * 0x20, lo := 17, width := 1, acc := .wo }
/-- PN_WR[n].END (R529). -/
def PN_WR_END (n : Nat) : Fld := { addr := 0x70010 + n * 0x20, lo := 16, width := 1, acc := .wo }
/-- PN_WR[n].DATA (R529). -/
def PN_WR_DATA (n : Nat) : Fld := { addr := 0x70010 + n * 0x20, lo := 0, width := 16, acc := .wo }
/-- PN_EVT_EN[n] (R529). -/
def PN_EVT_EN (n : Nat) : Fld := { addr := 0x70014 + n * 0x20, lo := 0, width := 8, acc := .rw, reset := 23 }
/-- PN_RD[n] low (R529). -/
def PN_RD_LOW (n : Nat) : Fld := { addr := 0x70018 + n * 0x20, lo := 0, width := 32, acc := .rd }
/-- PN_RD[n].UNDERRUN (R529). -/
def PN_RD_UNDERRUN (n : Nat) : Fld := { addr := 0x7001c + n * 0x20, lo := 13, width := 1, acc := .rd }
/-- PN_RD[n].GAP (R529). -/
def PN_RD_GAP (n : Nat) : Fld := { addr := 0x7001c + n * 0x20, lo := 12, width := 1, acc := .rd }
/-- PN_RD[n].END (R529). -/
def PN_RD_END (n : Nat) : Fld := { addr := 0x7001c + n * 0x20, lo := 11, width := 1, acc := .rd }
/-- PN_RD[n].VALID (R529). -/
def PN_RD_VALID (n : Nat) : Fld := { addr := 0x7001c + n * 0x20, lo := 8, width := 3, acc := .rd }
/-- PN_RD[n].BYTE4 (R529). -/
def PN_RD_BYTE4 (n : Nat) : Fld := { addr := 0x7001c + n * 0x20, lo := 0, width := 8, acc := .rd }
/-- snapshot word LO (R113). -/
def TB_SNAP_LO (n : Nat) : Fld := { addr := 0x50900 + n * 0x10, lo := 0, width := 32, acc := .rd }
/-- snapshot word HI (R113). -/
def TB_SNAP_HI (n : Nat) : Fld := { addr := 0x50904 + n * 0x10, lo := 0, width := 32, acc := .rd }
/-- snapshot word XHI (R113). -/
def TB_SNAP_XHI (n : Nat) : Fld := { addr := 0x50908 + n * 0x10, lo := 0, width := 32, acc := .rd }
/-- transmit timestamp FIFO head, LO (R115). -/
def TXTS_LO (p : Nat) : Fld := { addr := 0x51400 + p * 0x10, lo := 0, width := 32, acc := .rd }
/-- transmit timestamp FIFO head, HI (R115). -/
def TXTS_HI (p : Nat) : Fld := { addr := 0x51404 + p * 0x10, lo := 0, width := 32, acc := .rd }
/-- transmit timestamp FIFO head, XHI (R115). -/
def TXTS_XHI (p : Nat) : Fld := { addr := 0x51408 + p * 0x10, lo := 0, width := 32, acc := .rd }
/-- transmit timestamp FIFO head, META (R115). -/
def TXTS_META (p : Nat) : Fld := { addr := 0x5140c + p * 0x10, lo := 0, width := 32, acc := .rd }

end Sys2Proof.Machine.R
end

