-- ==== Sys2Proof/Machine/RegMap.lean ====
section
/-! DEFINITION. The register map: which fields lie in the word at a BAR0 offset (R9, R10, R15). -/

namespace Sys2Proof.Machine
open Sys2Proof

/-- The families of registers in each 64 KiB block of BAR0 (R15): the field builder, and for each of its two indices the
count and the stride in bytes, the wider stride first. -/
def regBlock0 : List FldFam :=
 [
  ⟨fun _ _ => R.SEC_STATUS_LIFECYCLE, 1, 0x10000, 1, 0x10000⟩,
  ⟨fun _ _ => R.SEC_STATUS_RECOVERY, 1, 0x10000, 1, 0x10000⟩,
  ⟨fun _ _ => R.SEC_STATUS_CUST_ROOT, 1, 0x10000, 1, 0x10000⟩,
  ⟨fun _ _ => R.SEC_STATUS_KEY_VALID, 1, 0x10000, 1, 0x10000⟩,
  ⟨fun _ _ => R.SEC_STATUS_STORED_VALID, 1, 0x10000, 1, 0x10000⟩,
  ⟨fun _ _ => R.SEC_STATUS_SESSION, 1, 0x10000, 1, 0x10000⟩,
  ⟨fun _ _ => R.SEC_STATUS_RECORD_BAD, 1, 0x10000, 1, 0x10000⟩,
  ⟨fun _ _ => R.SEC_STATUS_FLOOR, 1, 0x10000, 1, 0x10000⟩,
  ⟨fun _ _ => R.SEC_STATUS_COMPAT_EPOCH, 1, 0x10000, 1, 0x10000⟩,
  ⟨fun _ _ => R.SEC_STATUS_HN_EPOCH, 1, 0x10000, 1, 0x10000⟩,
  ⟨fun _ _ => R.SEC_SIG_LEFT, 1, 0x10000, 1, 0x10000⟩,
  ⟨fun _ _ => R.SEC_VERSION, 1, 0x10000, 1, 0x10000⟩,
  ⟨fun _ _ => R.SEC_UPD_BYTES, 1, 0x10000, 1, 0x10000⟩,
  ⟨fun _ _ => R.SEC_BOOT_RESULT, 1, 0x10000, 1, 0x10000⟩,
  ⟨fun _ _ => R.SEC_BOOT_BLOCK, 1, 0x10000, 1, 0x10000⟩,
  ⟨fun _ _ => R.SEC_EVT_LIFECYCLE, 1, 0x10000, 1, 0x10000⟩,
  ⟨fun _ _ => R.SEC_EVT_SIG_LOW, 1, 0x10000, 1, 0x10000⟩,
  ⟨fun _ _ => R.SEC_EVT_EPOCH_REFUSE, 1, 0x10000, 1, 0x10000⟩,
  ⟨fun _ _ => R.SEC_EVT_ACTIVATED, 1, 0x10000, 1, 0x10000⟩,
  ⟨fun _ _ => R.SEC_EVT_AUTH, 1, 0x10000, 1, 0x10000⟩,
  ⟨fun _ _ => R.SEC_EVT_BLOCK_FAIL, 1, 0x10000, 1, 0x10000⟩,
  ⟨fun _ _ => R.SEC_EVT_SESSION, 1, 0x10000, 1, 0x10000⟩,
  ⟨fun _ _ => R.SYS_ID_DEVICE, 1, 0x10000, 1, 0x10000⟩,
  ⟨fun _ _ => R.SYS_ID_STEP, 1, 0x10000, 1, 0x10000⟩,
  ⟨fun _ _ => R.SYS_ID_ORDERING, 1, 0x10000, 1, 0x10000⟩,
  ⟨fun _ _ => R.SYS_DIAG_ECC_SRC, 1, 0x10000, 1, 0x10000⟩,
  ⟨fun _ _ => R.SYS_DIAG_BRIDLE_FAULT, 1, 0x10000, 1, 0x10000⟩,
  ⟨fun _ _ => R.SYS_DIAG_ECC_UNCORR, 1, 0x10000, 1, 0x10000⟩,
  ⟨fun _ _ => R.SYS_DIAG_CLK_LOSS, 1, 0x10000, 1, 0x10000⟩,
  ⟨fun _ _ => R.SYS_DIAG_THERM_WARN, 1, 0x10000, 1, 0x10000⟩,
  ⟨fun _ _ => R.SYS_DIAG_STRAP_ERR, 1, 0x10000, 1, 0x10000⟩,
  ⟨fun _ _ => R.SYS_DIAG_REG_RSV_WRITE, 1, 0x10000, 1, 0x10000⟩,
  ⟨fun _ _ => R.SYS_RESET_CAUSE, 1, 0x10000, 1, 0x10000⟩,
  ⟨fun _ _ => R.SYS_STRAP_BOOT_SEL, 1, 0x10000, 1, 0x10000⟩,
  ⟨fun _ _ => R.SYS_TEMP, 1, 0x10000, 1, 0x10000⟩,
  ⟨fun _ _ => R.SYS_THERM_WARN, 1, 0x10000, 1, 0x10000⟩,
  ⟨fun _ _ => R.SYS_CLK_REF156_OK, 1, 0x10000, 1, 0x10000⟩,
  ⟨fun _ _ => R.SYS_CLK_REF25_OK, 1, 0x10000, 1, 0x10000⟩,
  ⟨fun _ _ => R.SYS_CLK_RTC_OK, 1, 0x10000, 1, 0x10000⟩,
  ⟨fun _ _ => R.SYS_RSV_INFO_MAP, 1, 0x10000, 1, 0x10000⟩,
  ⟨fun _ _ => R.SYS_RSV_INFO_AGENT, 1, 0x10000, 1, 0x10000⟩,
  ⟨fun _ _ => R.SYS_RSV_INFO_OFFSET, 1, 0x10000, 1, 0x10000⟩,
  ⟨fun _ _ => R.SEC_EVT_EN0, 1, 0x10000, 1, 0x10000⟩,
  ⟨fun _ _ => R.SEC_EVT_EN, 1, 0x10000, 1, 0x10000⟩]

def regBlock1 : List FldFam :=
 [
  ⟨fun _ _ => R.OWN_STATUS_OWNED, 1, 0x10000, 1, 0x10000⟩,
  ⟨fun _ _ => R.OWN_STATUS_PORT, 1, 0x10000, 1, 0x10000⟩,
  ⟨fun _ _ => R.OWN_STATUS_CHANGES, 1, 0x10000, 1, 0x10000⟩,
  ⟨fun _ _ => R.OWN_TIMEOUT, 1, 0x10000, 1, 0x10000⟩,
  ⟨fun _ _ => R.OWN_LEFT, 1, 0x10000, 1, 0x10000⟩,
  ⟨fun i _ => R.OWN_PORT_REFUSED i, 4, 0x4, 1, 0x10000⟩,
  ⟨fun i _ => R.OWN_PORT_CLASS i, 4, 0x4, 1, 0x10000⟩,
  ⟨fun _ _ => R.OWN_EVT_WR_DENIED, 1, 0x10000, 1, 0x10000⟩,
  ⟨fun _ _ => R.OWN_EVT_LAPSED, 1, 0x10000, 1, 0x10000⟩,
  ⟨fun _ _ => R.OWN_EVT_CHANGED, 1, 0x10000, 1, 0x10000⟩,
  ⟨fun _ _ => R.MGMT_VID, 1, 0x10000, 1, 0x10000⟩,
  ⟨fun _ _ => R.MGMT_PORTS, 1, 0x10000, 1, 0x10000⟩,
  ⟨fun _ _ => R.MGMT_MAC, 1, 0x10000, 1, 0x10000⟩,
  ⟨fun _ _ => R.QSPI_CFG_DUMMY, 1, 0x10000, 1, 0x10000⟩,
  ⟨fun _ _ => R.OWN_EVT_EN, 1, 0x10000, 1, 0x10000⟩]

def regBlock2 : List FldFam :=
 [
  ⟨fun i j => R.MB_POST_GO i j, 16, 0x1000, 2, 0x40⟩,
  ⟨fun i j => R.MB_POST_MORE i j, 16, 0x1000, 2, 0x40⟩,
  ⟨fun i j => R.MB_POST_LEN i j, 16, 0x1000, 2, 0x40⟩,
  ⟨fun i j => R.MB_STATUS_ORPHAN_ACK i j, 16, 0x1000, 2, 0x40⟩,
  ⟨fun i j => R.MB_STATUS_LATE_ACK i j, 16, 0x1000, 2, 0x40⟩,
  ⟨fun i j => R.MB_STATUS_WR_REJ i j, 16, 0x1000, 2, 0x40⟩,
  ⟨fun i j => R.MB_STATUS_WAKING i j, 16, 0x1000, 2, 0x40⟩,
  ⟨fun i j => R.MB_STATUS_CROSSED i j, 16, 0x1000, 2, 0x40⟩,
  ⟨fun i j => R.MB_STATUS_TIMEOUT i j, 16, 0x1000, 2, 0x40⟩,
  ⟨fun i j => R.MB_STATUS_ACKED i j, 16, 0x1000, 2, 0x40⟩,
  ⟨fun i j => R.MB_STATUS_POSTED i j, 16, 0x1000, 2, 0x40⟩,
  ⟨fun i j => R.MB_ACK_CODE i j, 16, 0x1000, 2, 0x40⟩,
  ⟨fun i j => R.MB_TIMEOUT i j, 16, 0x1000, 2, 0x40⟩,
  ⟨fun i j => R.MB_WITHDRAW i j, 16, 0x1000, 2, 0x40⟩,
  ⟨fun i j => R.MB_ELAPSED i j, 16, 0x1000, 2, 0x40⟩,
  ⟨fun i _ => R.MB_CFG_VALID i, 16, 0x1000, 1, 0x10000⟩,
  ⟨fun i _ => R.MB_CFG_HOST i, 16, 0x1000, 1, 0x10000⟩,
  ⟨fun i _ => R.MB_CFG_BRIDLE i, 16, 0x1000, 1, 0x10000⟩,
  ⟨fun i _ => R.MB_CFG_ENGINE i, 16, 0x1000, 1, 0x10000⟩,
  ⟨fun i _ => R.MB_CFG_LINE i, 16, 0x1000, 1, 0x10000⟩,
  ⟨fun i _ => R.MB_EVT_EN_CROSSED i, 16, 0x1000, 1, 0x10000⟩,
  ⟨fun i _ => R.MB_EVT_EN_H2D_TIMEOUT i, 16, 0x1000, 1, 0x10000⟩,
  ⟨fun i _ => R.MB_EVT_EN_H2D_ACKED i, 16, 0x1000, 1, 0x10000⟩,
  ⟨fun i _ => R.MB_EVT_EN_D2H_POSTED i, 16, 0x1000, 1, 0x10000⟩]

def regBlock3 : List FldFam :=
 [
  ⟨fun i _ => R.EV_CFG_CNT i, 256, 0x4, 1, 0x10000⟩,
  ⟨fun i _ => R.EV_CFG_EN i, 256, 0x4, 1, 0x10000⟩,
  ⟨fun i _ => R.EV_CFG_KIND i, 256, 0x4, 1, 0x10000⟩,
  ⟨fun i _ => R.EV_CFG_ENGINE i, 256, 0x4, 1, 0x10000⟩,
  ⟨fun i _ => R.EV_CFG_TARGET i, 256, 0x4, 1, 0x10000⟩,
  ⟨fun i _ => R.EV_STATUS i, 8, 0x4, 1, 0x10000⟩,
  ⟨fun i _ => R.EV_PENDING i, 8, 0x4, 1, 0x10000⟩,
  ⟨fun _ _ => R.EV_CTRL_CLR_CNT, 1, 0x10000, 1, 0x10000⟩,
  ⟨fun _ _ => R.EV_IRQ_STATUS, 1, 0x10000, 1, 0x10000⟩,
  ⟨fun i _ => R.MSIX_ADDR_LO i, 16, 0x10, 1, 0x10000⟩,
  ⟨fun i _ => R.MSIX_ADDR_HI i, 16, 0x10, 1, 0x10000⟩,
  ⟨fun i _ => R.MSIX_DATA i, 16, 0x10, 1, 0x10000⟩,
  ⟨fun i _ => R.MSIX_CTRL_MASK i, 16, 0x10, 1, 0x10000⟩,
  ⟨fun _ _ => R.MSIX_PBA, 1, 0x10000, 1, 0x10000⟩]

def regBlock4 : List FldFam :=
 [
  ⟨fun i _ => R.IMG_CFG_VALID i, 256, 0x20, 1, 0x10000⟩,
  ⟨fun i _ => R.IMG_CFG_HOST_PROD i, 256, 0x20, 1, 0x10000⟩,
  ⟨fun i _ => R.IMG_CFG_GAIT i, 256, 0x20, 1, 0x10000⟩,
  ⟨fun i _ => R.IMG_CFG_BANK i, 256, 0x20, 1, 0x10000⟩,
  ⟨fun i _ => R.IMG_CFG_ITEMS i, 256, 0x20, 1, 0x10000⟩,
  ⟨fun i _ => R.IMG_BASE_BASE i, 256, 0x20, 1, 0x10000⟩,
  ⟨fun i _ => R.IMG_SIZE_BUF_BYTES i, 256, 0x20, 1, 0x10000⟩,
  ⟨fun i _ => R.IMG_STATE_SEQ i, 256, 0x20, 1, 0x10000⟩,
  ⟨fun i _ => R.IMG_STATE_MAX_AGE i, 256, 0x20, 1, 0x10000⟩,
  ⟨fun i _ => R.IMG_STATE_NEW i, 256, 0x20, 1, 0x10000⟩,
  ⟨fun i _ => R.IMG_STATE_PUB i, 256, 0x20, 1, 0x10000⟩,
  ⟨fun i _ => R.IMG_STATE_WORK i, 256, 0x20, 1, 0x10000⟩,
  ⟨fun i _ => R.IMG_STATE_SAMP i, 256, 0x20, 1, 0x10000⟩,
  ⟨fun i _ => R.IMG_FLAGS_WRITE_REJ i, 256, 0x20, 1, 0x10000⟩,
  ⟨fun i _ => R.IMG_FLAGS_COMMIT_REJ i, 256, 0x20, 1, 0x10000⟩,
  ⟨fun i _ => R.IMG_FLAGS_SAT i, 256, 0x20, 1, 0x10000⟩,
  ⟨fun i _ => R.IMG_FLAGS_AGED i, 256, 0x20, 1, 0x10000⟩,
  ⟨fun i _ => R.IMG_FLAGS_REPEAT i, 256, 0x20, 1, 0x10000⟩,
  ⟨fun i _ => R.IMG_COMMIT_ALL i, 256, 0x20, 1, 0x10000⟩,
  ⟨fun i _ => R.IMG_COMMIT_AGE i, 256, 0x20, 1, 0x10000⟩,
  ⟨fun i _ => R.IMG_COMMIT_ITEM i, 256, 0x20, 1, 0x10000⟩,
  ⟨fun i _ => R.IMG_CNT_REPEATS i, 256, 0x20, 1, 0x10000⟩,
  ⟨fun i _ => R.IMG_CNT_AGED_ITEMS i, 256, 0x20, 1, 0x10000⟩,
  ⟨fun _ _ => R.MAP_SUMMARY_RULES, 1, 0x10000, 1, 0x10000⟩,
  ⟨fun _ _ => R.MAP_LATE_LATE_CNT, 1, 0x10000, 1, 0x10000⟩,
  ⟨fun _ _ => R.MAP_LATE_LAST, 1, 0x10000, 1, 0x10000⟩,
  ⟨fun _ _ => R.MAP_FLAGS_LATE, 1, 0x10000, 1, 0x10000⟩,
  ⟨fun _ _ => R.MAP_FLAGS_CONV_SAT, 1, 0x10000, 1, 0x10000⟩,
  ⟨fun _ _ => R.MAP_SAT_CNT, 1, 0x10000, 1, 0x10000⟩,
  ⟨fun i _ => R.BANK_OWNER_CFG_LOCK i, 64, 0x10, 1, 0x10000⟩,
  ⟨fun i _ => R.BANK_OWNER_PEND i, 64, 0x10, 1, 0x10000⟩,
  ⟨fun i _ => R.BANK_OWNER_PEND_AGENT i, 64, 0x10, 1, 0x10000⟩,
  ⟨fun i _ => R.BANK_OWNER_AGENT i, 64, 0x10, 1, 0x10000⟩,
  ⟨fun i _ => R.BANK_HANDOVER_NOW i, 64, 0x10, 1, 0x10000⟩,
  ⟨fun i _ => R.BANK_HANDOVER_TO i, 64, 0x10, 1, 0x10000⟩,
  ⟨fun i _ => R.BANK_POWER_STATE i, 64, 0x10, 1, 0x10000⟩,
  ⟨fun i _ => R.BANK_POWER_REQ i, 64, 0x10, 1, 0x10000⟩,
  ⟨fun i _ => R.BANK_STATUS_CE_CNT i, 64, 0x10, 1, 0x10000⟩,
  ⟨fun i _ => R.BANK_STATUS_UE i, 64, 0x10, 1, 0x10000⟩,
  ⟨fun i _ => R.BANK_STATUS_CE i, 64, 0x10, 1, 0x10000⟩,
  ⟨fun i _ => R.BANK_STATUS_WL_C i, 64, 0x10, 1, 0x10000⟩,
  ⟨fun i _ => R.BANK_STATUS_WL_A i, 64, 0x10, 1, 0x10000⟩,
  ⟨fun i _ => R.BANK_STATUS_WL_B i, 64, 0x10, 1, 0x10000⟩,
  ⟨fun i _ => R.BANK_STATUS_FAULT i, 64, 0x10, 1, 0x10000⟩,
  ⟨fun i _ => R.ORCH_FAULT_INFO_VALID i, 16, 0x10, 1, 0x10000⟩,
  ⟨fun i _ => R.ORCH_FAULT_INFO_CAUSE i, 16, 0x10, 1, 0x10000⟩,
  ⟨fun i _ => R.ORCH_FAULT_INFO_PORT i, 16, 0x10, 1, 0x10000⟩,
  ⟨fun i _ => R.ORCH_FAULT_INFO_BANK i, 16, 0x10, 1, 0x10000⟩,
  ⟨fun i _ => R.ORCH_FAULT_INFO_WRITE i, 16, 0x10, 1, 0x10000⟩,
  ⟨fun i _ => R.ORCH_FAULT_INFO_AGENT i, 16, 0x10, 1, 0x10000⟩,
  ⟨fun i _ => R.ORCH_FAULT_INFO_ENGINE i, 16, 0x10, 1, 0x10000⟩,
  ⟨fun i _ => R.ORCH_FAULT_ADDR i, 16, 0x10, 1, 0x10000⟩,
  ⟨fun i _ => R.ORCH_FAULT_CNT i, 16, 0x10, 1, 0x10000⟩,
  ⟨fun i _ => R.ORCH_EVT_EN i, 16, 0x10, 1, 0x10000⟩,
  ⟨fun _ _ => R.ORCH_CTRL_SCRUB_INTERVAL, 1, 0x10000, 1, 0x10000⟩,
  ⟨fun _ _ => R.ORCH_CTRL_CLR_CNT, 1, 0x10000, 1, 0x10000⟩,
  ⟨fun _ _ => R.ORCH_CTRL_SCRUB_EN, 1, 0x10000, 1, 0x10000⟩,
  ⟨fun _ _ => R.ORCH_SCRUB_PASSES, 1, 0x10000, 1, 0x10000⟩]

def regBlock5 : List FldFam :=
 [
  ⟨fun i _ => R.TB_CTRL_SET i, 8, 0x100, 1, 0x10000⟩,
  ⟨fun i _ => R.TB_CTRL_STEP i, 8, 0x100, 1, 0x10000⟩,
  ⟨fun i _ => R.TB_CTRL_LOAD_INCR i, 8, 0x100, 1, 0x10000⟩,
  ⟨fun i _ => R.TB_CTRL_FMT i, 8, 0x100, 1, 0x10000⟩,
  ⟨fun i _ => R.TB_CTRL_EN i, 8, 0x100, 1, 0x10000⟩,
  ⟨fun i _ => R.TB_STATUS_STEP_GEN i, 8, 0x100, 1, 0x10000⟩,
  ⟨fun i _ => R.TB_STATUS_RTC_FAULT i, 8, 0x100, 1, 0x10000⟩,
  ⟨fun i _ => R.TB_STATUS_TRG_LATE i, 8, 0x100, 1, 0x10000⟩,
  ⟨fun i _ => R.TB_STATUS_CAP_OVF i, 8, 0x100, 1, 0x10000⟩,
  ⟨fun i _ => R.TB_STATUS_CAP_READY i, 8, 0x100, 1, 0x10000⟩,
  ⟨fun i _ => R.TB_STATUS_SEED_INVALID i, 8, 0x100, 1, 0x10000⟩,
  ⟨fun i _ => R.TB_STATUS_CFG_REJ i, 8, 0x100, 1, 0x10000⟩,
  ⟨fun i _ => R.TB_STATUS_STEP_REJ i, 8, 0x100, 1, 0x10000⟩,
  ⟨fun i _ => R.TB_STATUS_INCR_PEND i, 8, 0x100, 1, 0x10000⟩,
  ⟨fun i _ => R.TB_STATUS_STEP_PEND i, 8, 0x100, 1, 0x10000⟩,
  ⟨fun i _ => R.TB_STATUS_RUNNING i, 8, 0x100, 1, 0x10000⟩,
  ⟨fun i _ => R.TB_INCR i, 8, 0x100, 1, 0x10000⟩,
  ⟨fun i _ => R.TB_NOW_LO i, 8, 0x100, 1, 0x10000⟩,
  ⟨fun i _ => R.TB_NOW_HI i, 8, 0x100, 1, 0x10000⟩,
  ⟨fun i _ => R.TB_NOW_XHI i, 8, 0x100, 1, 0x10000⟩,
  ⟨fun i _ => R.TB_SET_LO i, 8, 0x100, 1, 0x10000⟩,
  ⟨fun i _ => R.TB_SET_HI i, 8, 0x100, 1, 0x10000⟩,
  ⟨fun i _ => R.TB_SET_XHI i, 8, 0x100, 1, 0x10000⟩,
  ⟨fun i _ => R.TB_STEP i, 8, 0x100, 1, 0x10000⟩,
  ⟨fun i _ => R.TB_STEP_FRAC i, 8, 0x100, 1, 0x10000⟩,
  ⟨fun i _ => R.TB_CAUSE_EN i, 8, 0x100, 1, 0x10000⟩,
  ⟨fun i _ => R.TB_PTP_DOMAIN_DOM_EN i, 8, 0x100, 1, 0x10000⟩,
  ⟨fun i _ => R.TB_PTP_DOMAIN_MAJOR_SDO i, 8, 0x100, 1, 0x10000⟩,
  ⟨fun i _ => R.TB_PTP_DOMAIN_DOMAIN i, 8, 0x100, 1, 0x10000⟩,
  ⟨fun _ _ => R.TB_SNAP_CTRL_SNAP, 1, 0x10000, 1, 0x10000⟩,
  ⟨fun i _ => R.TS_PORT_CFG_TC_EN i, 26, 0x20, 1, 0x10000⟩,
  ⟨fun i _ => R.TS_PORT_CFG_LATE_POLICY i, 26, 0x20, 1, 0x10000⟩,
  ⟨fun i _ => R.TS_PORT_CFG_TX_EN i, 26, 0x20, 1, 0x10000⟩,
  ⟨fun i _ => R.TS_PORT_CFG_RX_EN i, 26, 0x20, 1, 0x10000⟩,
  ⟨fun i _ => R.TS_PORT_CFG_TB i, 26, 0x20, 1, 0x10000⟩,
  ⟨fun i _ => R.TS_LATE_TOL i, 26, 0x20, 1, 0x10000⟩,
  ⟨fun i _ => R.TS_PORT_ADJ_RX_ADJ i, 26, 0x20, 1, 0x10000⟩,
  ⟨fun i _ => R.TS_PORT_ADJ_TX_ADJ i, 26, 0x20, 1, 0x10000⟩,
  ⟨fun i _ => R.TS_PORT_CNT_LAUNCH_DROP i, 26, 0x20, 1, 0x10000⟩,
  ⟨fun i _ => R.TS_PORT_CNT_LAUNCH_LATE i, 26, 0x20, 1, 0x10000⟩,
  ⟨fun i _ => R.TS_PORT_CNT_TX_TS_LOST i, 26, 0x20, 1, 0x10000⟩,
  ⟨fun i _ => R.TS_PORT_CNT_TS_ERR i, 26, 0x20, 1, 0x10000⟩,
  ⟨fun i _ => R.CAP_CFG_PIN i, 8, 0x20, 1, 0x10000⟩,
  ⟨fun i _ => R.CAP_CFG_TB i, 8, 0x20, 1, 0x10000⟩,
  ⟨fun i _ => R.CAP_CFG_EDGE i, 8, 0x20, 1, 0x10000⟩,
  ⟨fun i _ => R.CAP_CFG_EN i, 8, 0x20, 1, 0x10000⟩,
  ⟨fun i _ => R.CAP_STATUS_LOST i, 8, 0x20, 1, 0x10000⟩,
  ⟨fun i _ => R.CAP_STATUS_OVF i, 8, 0x20, 1, 0x10000⟩,
  ⟨fun i _ => R.CAP_STATUS_LEVEL i, 8, 0x20, 1, 0x10000⟩,
  ⟨fun i _ => R.CAP_TS_LO i, 8, 0x20, 1, 0x10000⟩,
  ⟨fun i _ => R.CAP_TS_HI i, 8, 0x20, 1, 0x10000⟩,
  ⟨fun i _ => R.CAP_TS_XHI i, 8, 0x20, 1, 0x10000⟩,
  ⟨fun i _ => R.CAP_META i, 8, 0x20, 1, 0x10000⟩,
  ⟨fun i _ => R.TRG_CTRL_PIN i, 8, 0x40, 1, 0x10000⟩,
  ⟨fun i _ => R.TRG_CTRL_TB i, 8, 0x40, 1, 0x10000⟩,
  ⟨fun i _ => R.TRG_CTRL_POL i, 8, 0x40, 1, 0x10000⟩,
  ⟨fun i _ => R.TRG_CTRL_PERIODIC i, 8, 0x40, 1, 0x10000⟩,
  ⟨fun i _ => R.TRG_CTRL_EN i, 8, 0x40, 1, 0x10000⟩,
  ⟨fun i _ => R.TRG_STATUS_MISSED i, 8, 0x40, 1, 0x10000⟩,
  ⟨fun i _ => R.TRG_STATUS_LATE i, 8, 0x40, 1, 0x10000⟩] ++
 [
  ⟨fun i _ => R.TRG_STATUS_ACTIVE i, 8, 0x40, 1, 0x10000⟩,
  ⟨fun i _ => R.TRG_START_LO i, 8, 0x40, 1, 0x10000⟩,
  ⟨fun i _ => R.TRG_START_HI i, 8, 0x40, 1, 0x10000⟩,
  ⟨fun i _ => R.TRG_START_XHI i, 8, 0x40, 1, 0x10000⟩,
  ⟨fun i _ => R.TRG_PERIOD_NS i, 8, 0x40, 1, 0x10000⟩,
  ⟨fun i _ => R.TRG_PERIOD_FRAC i, 8, 0x40, 1, 0x10000⟩,
  ⟨fun i _ => R.TRG_WIDTH i, 8, 0x40, 1, 0x10000⟩,
  ⟨fun _ _ => R.RTC_CTRL_SYNC_TB, 1, 0x10000, 1, 0x10000⟩,
  ⟨fun _ _ => R.RTC_CTRL_SYNC_FROM_TB, 1, 0x10000, 1, 0x10000⟩,
  ⟨fun _ _ => R.RTC_CTRL_LOAD, 1, 0x10000, 1, 0x10000⟩,
  ⟨fun _ _ => R.RTC_STATUS_BUSY, 1, 0x10000, 1, 0x10000⟩,
  ⟨fun _ _ => R.RTC_STATUS_OSC_FAIL, 1, 0x10000, 1, 0x10000⟩,
  ⟨fun _ _ => R.RTC_STATUS_VBAT_LOW, 1, 0x10000, 1, 0x10000⟩,
  ⟨fun _ _ => R.RTC_STATUS_VALID, 1, 0x10000, 1, 0x10000⟩,
  ⟨fun _ _ => R.RTC_SEC, 1, 0x10000, 1, 0x10000⟩,
  ⟨fun _ _ => R.RTC_SUBSEC, 1, 0x10000, 1, 0x10000⟩,
  ⟨fun _ _ => R.RTC_SET_SEC, 1, 0x10000, 1, 0x10000⟩,
  ⟨fun _ _ => R.RTC_TRIM, 1, 0x10000, 1, 0x10000⟩,
  ⟨fun i _ => R.TB_SNAP_LO i, 8, 0x10, 1, 0x10000⟩,
  ⟨fun i _ => R.TB_SNAP_HI i, 8, 0x10, 1, 0x10000⟩,
  ⟨fun i _ => R.TB_SNAP_XHI i, 8, 0x10, 1, 0x10000⟩,
  ⟨fun i _ => R.TXTS_LO i, 26, 0x10, 1, 0x10000⟩,
  ⟨fun i _ => R.TXTS_HI i, 26, 0x10, 1, 0x10000⟩,
  ⟨fun i _ => R.TXTS_XHI i, 26, 0x10, 1, 0x10000⟩,
  ⟨fun i _ => R.TXTS_META i, 26, 0x10, 1, 0x10000⟩]

def regBlock6 : List FldFam :=
 [
  ⟨fun _ _ => R.STRIDE_CTRL_CLR_STATS, 1, 0x10000, 1, 0x10000⟩,
  ⟨fun _ _ => R.STRIDE_CTRL_TB_SEL, 1, 0x10000, 1, 0x10000⟩,
  ⟨fun _ _ => R.STRIDE_CTRL_RUN, 1, 0x10000, 1, 0x10000⟩,
  ⟨fun _ _ => R.STRIDE_PERIOD_PERIOD, 1, 0x10000, 1, 0x10000⟩,
  ⟨fun _ _ => R.STRIDE_GUARD_GUARD, 1, 0x10000, 1, 0x10000⟩,
  ⟨fun _ _ => R.STRIDE_ORIGIN, 1, 0x10000, 1, 0x10000⟩,
  ⟨fun _ _ => R.STRIDE_STATUS_CFG_ERR, 1, 0x10000, 1, 0x10000⟩,
  ⟨fun _ _ => R.STRIDE_STATUS_FLIP_LATE, 1, 0x10000, 1, 0x10000⟩,
  ⟨fun _ _ => R.STRIDE_STATUS_ADMITTED, 1, 0x10000, 1, 0x10000⟩,
  ⟨fun _ _ => R.STRIDE_STATUS_PENDING, 1, 0x10000, 1, 0x10000⟩,
  ⟨fun _ _ => R.STRIDE_STATUS_RUNNING, 1, 0x10000, 1, 0x10000⟩,
  ⟨fun _ _ => R.STRIDE_INDEX, 1, 0x10000, 1, 0x10000⟩,
  ⟨fun _ _ => R.STRIDE_NEXT, 1, 0x10000, 1, 0x10000⟩,
  ⟨fun _ _ => R.STRIDE_SKIP_SKIPPED, 1, 0x10000, 1, 0x10000⟩,
  ⟨fun _ _ => R.STRIDE_MIN_SLACK_MIN_SLACK, 1, 0x10000, 1, 0x10000⟩,
  ⟨fun _ _ => R.ADMIT_RESULT_KIND, 1, 0x10000, 1, 0x10000⟩,
  ⟨fun _ _ => R.ADMIT_RESULT_INDEX, 1, 0x10000, 1, 0x10000⟩,
  ⟨fun _ _ => R.ADMIT_RESULT_SHORT, 1, 0x10000, 1, 0x10000⟩,
  ⟨fun i _ => R.GAIT_DIV_DIV i, 4, 0x20, 1, 0x10000⟩,
  ⟨fun i _ => R.GAIT_INDEX i, 4, 0x20, 1, 0x10000⟩,
  ⟨fun i _ => R.GAIT_STATUS_EDGE i, 4, 0x20, 1, 0x10000⟩,
  ⟨fun i _ => R.GAIT_STATUS_LUNGE_DONE i, 4, 0x20, 1, 0x10000⟩,
  ⟨fun i _ => R.GAIT_STATUS_SKIP i, 4, 0x20, 1, 0x10000⟩,
  ⟨fun i _ => R.GAIT_STATUS_LAUNCH_MISS i, 4, 0x20, 1, 0x10000⟩,
  ⟨fun i _ => R.GAIT_STATUS_OVERRUN i, 4, 0x20, 1, 0x10000⟩,
  ⟨fun i _ => R.GAIT_CAUSE_EN_EN i, 4, 0x20, 1, 0x10000⟩,
  ⟨fun i _ => R.GAIT_OVR_CNT i, 4, 0x20, 1, 0x10000⟩,
  ⟨fun i _ => R.GAIT_OVR_SRC_KIND i, 4, 0x20, 1, 0x10000⟩,
  ⟨fun i _ => R.GAIT_OVR_SRC_INDEX i, 4, 0x20, 1, 0x10000⟩,
  ⟨fun i _ => R.LATCH_PHASE_PHASE i, 4, 0x4, 1, 0x10000⟩,
  ⟨fun i _ => R.LUNGE_CTRL_LEAD i, 4, 0x40, 1, 0x10000⟩,
  ⟨fun i _ => R.LUNGE_CTRL_GAIT i, 4, 0x40, 1, 0x10000⟩,
  ⟨fun i _ => R.LUNGE_CTRL_UPDATE i, 4, 0x40, 1, 0x10000⟩,
  ⟨fun i _ => R.LUNGE_CTRL_EN i, 4, 0x40, 1, 0x10000⟩,
  ⟨fun i _ => R.LUNGE_TARGET i, 4, 0x40, 1, 0x10000⟩,
  ⟨fun i _ => R.LUNGE_ACCEL i, 4, 0x40, 1, 0x10000⟩,
  ⟨fun i _ => R.LUNGE_POS_SET i, 4, 0x40, 1, 0x10000⟩,
  ⟨fun i _ => R.LUNGE_STEP i, 4, 0x40, 1, 0x10000⟩,
  ⟨fun i _ => R.LUNGE_POS i, 4, 0x40, 1, 0x10000⟩,
  ⟨fun i _ => R.LUNGE_VEL i, 4, 0x40, 1, 0x10000⟩,
  ⟨fun i _ => R.LUNGE_STATUS_CFG_REJ i, 4, 0x40, 1, 0x10000⟩,
  ⟨fun i _ => R.LUNGE_STATUS_UPD_LATE i, 4, 0x40, 1, 0x10000⟩,
  ⟨fun i _ => R.LUNGE_STATUS_AT_TARGET i, 4, 0x40, 1, 0x10000⟩,
  ⟨fun i _ => R.LUNGE_STATUS_ACTIVE i, 4, 0x40, 1, 0x10000⟩]

def regBlock7 : List FldFam :=
 [
  ⟨fun i _ => R.PN_CFG_RESYNC i, 64, 0x20, 1, 0x10000⟩,
  ⟨fun i _ => R.PN_CFG_W16 i, 64, 0x20, 1, 0x10000⟩,
  ⟨fun i _ => R.PN_CFG_SRC_KIND i, 64, 0x20, 1, 0x10000⟩,
  ⟨fun i _ => R.PN_CFG_SRC_INDEX i, 64, 0x20, 1, 0x10000⟩,
  ⟨fun i _ => R.PN_CFG_RD_AGENT i, 64, 0x20, 1, 0x10000⟩,
  ⟨fun i _ => R.PN_CTRL_FLUSH i, 64, 0x20, 1, 0x10000⟩,
  ⟨fun i _ => R.PN_LEVEL i, 64, 0x20, 1, 0x10000⟩,
  ⟨fun i _ => R.PN_STATUS_FILL i, 64, 0x20, 1, 0x10000⟩,
  ⟨fun i _ => R.PN_STATUS_RESYNCED i, 64, 0x20, 1, 0x10000⟩,
  ⟨fun i _ => R.PN_STATUS_RD_REJ i, 64, 0x20, 1, 0x10000⟩,
  ⟨fun i _ => R.PN_STATUS_WR_REJ i, 64, 0x20, 1, 0x10000⟩,
  ⟨fun i _ => R.PN_STATUS_PKT i, 64, 0x20, 1, 0x10000⟩,
  ⟨fun i _ => R.PN_STATUS_UNDERRUN i, 64, 0x20, 1, 0x10000⟩,
  ⟨fun i _ => R.PN_STATUS_GAP i, 64, 0x20, 1, 0x10000⟩,
  ⟨fun i _ => R.PN_STATUS_LEVEL i, 64, 0x20, 1, 0x10000⟩,
  ⟨fun i _ => R.PN_WR_NODATA i, 64, 0x20, 1, 0x10000⟩,
  ⟨fun i _ => R.PN_WR_END i, 64, 0x20, 1, 0x10000⟩,
  ⟨fun i _ => R.PN_WR_DATA i, 64, 0x20, 1, 0x10000⟩,
  ⟨fun i _ => R.PN_EVT_EN i, 64, 0x20, 1, 0x10000⟩,
  ⟨fun i _ => R.PN_RD_LOW i, 64, 0x20, 1, 0x10000⟩,
  ⟨fun i _ => R.PN_RD_UNDERRUN i, 64, 0x20, 1, 0x10000⟩,
  ⟨fun i _ => R.PN_RD_GAP i, 64, 0x20, 1, 0x10000⟩,
  ⟨fun i _ => R.PN_RD_END i, 64, 0x20, 1, 0x10000⟩,
  ⟨fun i _ => R.PN_RD_VALID i, 64, 0x20, 1, 0x10000⟩,
  ⟨fun i _ => R.PN_RD_BYTE4 i, 64, 0x20, 1, 0x10000⟩]

def regBlock8 : List FldFam :=
 [
  ⟨fun i j => R.STIR_PROG i j, 4, 0x1000, 64, 0x4⟩,
  ⟨fun i _ => R.STIR_BLK_CTRL_STOP i, 4, 0x1000, 1, 0x10000⟩,
  ⟨fun i _ => R.STIR_BLK_CTRL_START i, 4, 0x1000, 1, 0x10000⟩,
  ⟨fun i _ => R.STIR_BLK_STATUS_PROG_WHILE_RUN i, 4, 0x1000, 1, 0x10000⟩,
  ⟨fun i _ => R.STIR_BLK_STATUS_ENABLED i, 4, 0x1000, 1, 0x10000⟩,
  ⟨fun i _ => R.STIR_EVT_EN_CAUSE i, 4, 0x1000, 1, 0x10000⟩,
  ⟨fun i _ => R.STIR_EVT_EN_PROG i, 4, 0x1000, 1, 0x10000⟩,
  ⟨fun i j => R.STIR_MCTRL_EN i j, 4, 0x1000, 8, 0x40⟩,
  ⟨fun i j => R.STIR_MLANES01_W1 i j, 4, 0x1000, 8, 0x40⟩,
  ⟨fun i j => R.STIR_MLANES01_BASE1 i j, 4, 0x1000, 8, 0x40⟩,
  ⟨fun i j => R.STIR_MLANES01_W0 i j, 4, 0x1000, 8, 0x40⟩,
  ⟨fun i j => R.STIR_MLANES01_BASE0 i j, 4, 0x1000, 8, 0x40⟩,
  ⟨fun i j => R.STIR_MSHIFT_DIV_M1 i j, 4, 0x1000, 8, 0x40⟩,
  ⟨fun i j => R.STIR_MSHIFT_UNIT_M1 i j, 4, 0x1000, 8, 0x40⟩,
  ⟨fun i j => R.STIR_MSHIFT_PN i j, 4, 0x1000, 8, 0x40⟩,
  ⟨fun i j => R.STIR_MSHIFT_PN_EN i j, 4, 0x1000, 8, 0x40⟩,
  ⟨fun i j => R.STIR_MSHIFT_SAMPLE i j, 4, 0x1000, 8, 0x40⟩,
  ⟨fun i j => R.STIR_WRAP_TOP i j, 4, 0x1000, 8, 0x40⟩,
  ⟨fun i j => R.STIR_WRAP_BOTTOM i j, 4, 0x1000, 8, 0x40⟩,
  ⟨fun i j => R.STIR_MSTATUS_STATE i j, 4, 0x1000, 8, 0x40⟩,
  ⟨fun i j => R.STIR_MSTATUS_PC i j, 4, 0x1000, 8, 0x40⟩,
  ⟨fun i j => R.STIR_MSTATUS_RX_LEVEL i j, 4, 0x1000, 8, 0x40⟩,
  ⟨fun i j => R.STIR_MSTATUS_SIGNAL i j, 4, 0x1000, 8, 0x40⟩,
  ⟨fun i j => R.STIR_MSTATUS_ILLEGAL i j, 4, 0x1000, 8, 0x40⟩,
  ⟨fun i j => R.STIR_MSTATUS_LATE i j, 4, 0x1000, 8, 0x40⟩,
  ⟨fun i j => R.STIR_MSTATUS_WR_DROP i j, 4, 0x1000, 8, 0x40⟩,
  ⟨fun i j => R.STIR_MSTATUS_OVERFLOW i j, 4, 0x1000, 8, 0x40⟩,
  ⟨fun i j => R.STIR_MSTATUS_UNDERFLOW i j, 4, 0x1000, 8, 0x40⟩,
  ⟨fun i j => R.STIR_MSTATUS_CFG_REJ i j, 4, 0x1000, 8, 0x40⟩,
  ⟨fun i j => R.STIR_TXDATA i j, 4, 0x1000, 8, 0x40⟩,
  ⟨fun i j => R.STIR_RXDATA i j, 4, 0x1000, 8, 0x40⟩,
  ⟨fun i j => R.STIR_TX_LEVEL i j, 4, 0x1000, 8, 0x40⟩,
  ⟨fun i j => R.STIR_MLANES23_W3 i j, 4, 0x1000, 8, 0x40⟩,
  ⟨fun i j => R.STIR_MLANES23_BASE3 i j, 4, 0x1000, 8, 0x40⟩,
  ⟨fun i j => R.STIR_MLANES23_W2 i j, 4, 0x1000, 8, 0x40⟩,
  ⟨fun i j => R.STIR_MLANES23_BASE2 i j, 4, 0x1000, 8, 0x40⟩,
  ⟨fun i j => R.STIR_MOE i j, 4, 0x1000, 8, 0x40⟩,
  ⟨fun i j => R.STIR_MFILL_RFILL i j, 4, 0x1000, 8, 0x40⟩,
  ⟨fun i j => R.STIR_MFILL_XFILL i j, 4, 0x1000, 8, 0x40⟩,
  ⟨fun _ _ => R.STIR_TIME_CFG_TB, 1, 0x10000, 1, 0x10000⟩,
  ⟨fun _ _ => R.STIR_SC, 1, 0x10000, 1, 0x10000⟩,
  ⟨fun i _ => R.GPIO_CFG_FUNC i, 96, 0x4, 1, 0x10000⟩,
  ⟨fun i _ => R.GPIO_CFG_LATCH_INIT i, 96, 0x4, 1, 0x10000⟩,
  ⟨fun i _ => R.GPIO_CFG_MACH i, 96, 0x4, 1, 0x10000⟩,
  ⟨fun i _ => R.STIR_SBIND_VALID i, 64, 0x8, 1, 0x10000⟩,
  ⟨fun i _ => R.STIR_SBIND_REGION i, 64, 0x8, 1, 0x10000⟩,
  ⟨fun i _ => R.STIR_SBIND_ITEM i, 64, 0x8, 1, 0x10000⟩,
  ⟨fun i _ => R.STIR_SBIND_PIN i, 64, 0x8, 1, 0x10000⟩,
  ⟨fun i _ => R.STIR_SBIND_COUNT_M1 i, 64, 0x8, 1, 0x10000⟩,
  ⟨fun i _ => R.STIR_LBIND_VALID i, 64, 0x8, 1, 0x10000⟩,
  ⟨fun i _ => R.STIR_LBIND_REGION i, 64, 0x8, 1, 0x10000⟩,
  ⟨fun i _ => R.STIR_LBIND_ITEM i, 64, 0x8, 1, 0x10000⟩,
  ⟨fun i _ => R.STIR_LBIND_PIN i, 64, 0x8, 1, 0x10000⟩,
  ⟨fun i _ => R.STIR_LBIND_COUNT_M1 i, 64, 0x8, 1, 0x10000⟩]

def regBlock9 : List FldFam :=
 [
  ⟨fun i _ => R.CAN_CTRL_CLR_CNT i, 8, 0x2000, 1, 0x10000⟩,
  ⟨fun i _ => R.CAN_CTRL_FLT_SEL i, 8, 0x2000, 1, 0x10000⟩,
  ⟨fun i _ => R.CAN_CTRL_TMS i, 8, 0x2000, 1, 0x10000⟩,
  ⟨fun i _ => R.CAN_CTRL_XL_ES_DIS i, 8, 0x2000, 1, 0x10000⟩,
  ⟨fun i _ => R.CAN_CTRL_PEX i, 8, 0x2000, 1, 0x10000⟩,
  ⟨fun i _ => R.CAN_CTRL_RECOVER i, 8, 0x2000, 1, 0x10000⟩,
  ⟨fun i _ => R.CAN_CTRL_AUTO_RECOVER i, 8, 0x2000, 1, 0x10000⟩,
  ⟨fun i _ => R.CAN_CTRL_TX_ORDER i, 8, 0x2000, 1, 0x10000⟩,
  ⟨fun i _ => R.CAN_CTRL_MODE i, 8, 0x2000, 1, 0x10000⟩,
  ⟨fun i _ => R.CAN_STATUS_CFG_ERR i, 8, 0x2000, 1, 0x10000⟩,
  ⟨fun i _ => R.CAN_STATUS_MODE_NOW i, 8, 0x2000, 1, 0x10000⟩,
  ⟨fun i _ => R.CAN_STATUS_STATE i, 8, 0x2000, 1, 0x10000⟩,
  ⟨fun i _ => R.CAN_STATUS_LEC i, 8, 0x2000, 1, 0x10000⟩,
  ⟨fun i _ => R.CAN_STATUS_TEC i, 8, 0x2000, 1, 0x10000⟩,
  ⟨fun i _ => R.CAN_STATUS_REC i, 8, 0x2000, 1, 0x10000⟩,
  ⟨fun i _ => R.CAN_NBT_BRP_M1 i, 8, 0x2000, 1, 0x10000⟩,
  ⟨fun i _ => R.CAN_NBT_TSEG1_M1 i, 8, 0x2000, 1, 0x10000⟩,
  ⟨fun i _ => R.CAN_NBT_TSEG2_M1 i, 8, 0x2000, 1, 0x10000⟩,
  ⟨fun i _ => R.CAN_NBT_SJW_M1 i, 8, 0x2000, 1, 0x10000⟩,
  ⟨fun i _ => R.CAN_DBT_BRP_M1 i, 8, 0x2000, 1, 0x10000⟩,
  ⟨fun i _ => R.CAN_XBT_BRP_M1 i, 8, 0x2000, 1, 0x10000⟩,
  ⟨fun i _ => R.CAN_DBT_TSEG1_M1 i, 8, 0x2000, 1, 0x10000⟩,
  ⟨fun i _ => R.CAN_XBT_TSEG1_M1 i, 8, 0x2000, 1, 0x10000⟩,
  ⟨fun i _ => R.CAN_DBT_TSEG2_M1 i, 8, 0x2000, 1, 0x10000⟩,
  ⟨fun i _ => R.CAN_XBT_TSEG2_M1 i, 8, 0x2000, 1, 0x10000⟩,
  ⟨fun i _ => R.CAN_DBT_SJW_M1 i, 8, 0x2000, 1, 0x10000⟩,
  ⟨fun i _ => R.CAN_XBT_SJW_M1 i, 8, 0x2000, 1, 0x10000⟩,
  ⟨fun i _ => R.CAN_TDC_TDCV i, 8, 0x2000, 1, 0x10000⟩,
  ⟨fun i _ => R.CAN_TDC_TDCO i, 8, 0x2000, 1, 0x10000⟩,
  ⟨fun i _ => R.CAN_TDC_TDC_EN i, 8, 0x2000, 1, 0x10000⟩,
  ⟨fun i _ => R.CAN_PWM_PWMO i, 8, 0x2000, 1, 0x10000⟩,
  ⟨fun i _ => R.CAN_PWM_PWML i, 8, 0x2000, 1, 0x10000⟩,
  ⟨fun i _ => R.CAN_PWM_PWMS i, 8, 0x2000, 1, 0x10000⟩,
  ⟨fun i _ => R.CAN_CFG_XL_EN i, 8, 0x2000, 1, 0x10000⟩,
  ⟨fun i _ => R.CAN_CFG_FD_EN i, 8, 0x2000, 1, 0x10000⟩,
  ⟨fun i _ => R.CAN_CFG_RXB_SLOT i, 8, 0x2000, 1, 0x10000⟩,
  ⟨fun i _ => R.CAN_CFG_AGENT i, 8, 0x2000, 1, 0x10000⟩,
  ⟨fun i _ => R.CAN_CFG_TB i, 8, 0x2000, 1, 0x10000⟩,
  ⟨fun i j => R.CAN_FLT_BASE i j, 8, 0x2000, 2, 0x8⟩,
  ⟨fun i j => R.CAN_FLT_COUNT i j, 8, 0x2000, 2, 0x8⟩,
  ⟨fun i _ => R.CAN_RXB_BASE i, 8, 0x2000, 1, 0x10000⟩,
  ⟨fun i _ => R.CAN_RXB_COUNT i, 8, 0x2000, 1, 0x10000⟩,
  ⟨fun i _ => R.CAN_EVT_CFG_REJ i, 8, 0x2000, 1, 0x10000⟩,
  ⟨fun i _ => R.CAN_EVT_FLT_FAULT i, 8, 0x2000, 1, 0x10000⟩,
  ⟨fun i _ => R.CAN_EVT_RX_LOST i, 8, 0x2000, 1, 0x10000⟩,
  ⟨fun i _ => R.CAN_EVT_RX_OVERWRITE i, 8, 0x2000, 1, 0x10000⟩,
  ⟨fun i _ => R.CAN_EVT_RX i, 8, 0x2000, 1, 0x10000⟩,
  ⟨fun i _ => R.CAN_EVT_BUS_OFF i, 8, 0x2000, 1, 0x10000⟩,
  ⟨fun i _ => R.CAN_EVT_ERR_PASSIVE i, 8, 0x2000, 1, 0x10000⟩,
  ⟨fun i _ => R.CAN_EVT_ERR_WARN i, 8, 0x2000, 1, 0x10000⟩,
  ⟨fun i _ => R.CAN_EVT_TX_FAIL i, 8, 0x2000, 1, 0x10000⟩,
  ⟨fun i _ => R.CAN_EVT_TX_DONE i, 8, 0x2000, 1, 0x10000⟩,
  ⟨fun i _ => R.CAN_EVT_MODE_CHG i, 8, 0x2000, 1, 0x10000⟩,
  ⟨fun i _ => R.CAN_CNT_TX_OK i, 8, 0x2000, 1, 0x10000⟩,
  ⟨fun i _ => R.CAN_CNT_RX_OK i, 8, 0x2000, 1, 0x10000⟩,
  ⟨fun i _ => R.CAN_CNT_ARB_LOST i, 8, 0x2000, 1, 0x10000⟩,
  ⟨fun i _ => R.CAN_CNT_ERR_FRAMES i, 8, 0x2000, 1, 0x10000⟩,
  ⟨fun i _ => R.CAN_CNT_BUS_OFF_CNT i, 8, 0x2000, 1, 0x10000⟩,
  ⟨fun i _ => R.CAN_CNT_RX_NO_MATCH i, 8, 0x2000, 1, 0x10000⟩,
  ⟨fun i _ => R.CAN_CNT_RX_OVERWRITE i, 8, 0x2000, 1, 0x10000⟩] ++
 [
  ⟨fun i _ => R.CAN_CNT_RX_LOST i, 8, 0x2000, 1, 0x10000⟩,
  ⟨fun i _ => R.CAN_CNT_RX_TOO_LONG i, 8, 0x2000, 1, 0x10000⟩,
  ⟨fun i _ => R.CAN_CNT_FLT_FAULT i, 8, 0x2000, 1, 0x10000⟩,
  ⟨fun i j => R.TXB_ID i j, 8, 0x2000, 3, 0x20⟩,
  ⟨fun i j => R.TXB_LEN i j, 8, 0x2000, 3, 0x20⟩,
  ⟨fun i j => R.TXB_AF i j, 8, 0x2000, 3, 0x20⟩,
  ⟨fun i j => R.TXB_META i j, 8, 0x2000, 3, 0x20⟩,
  ⟨fun i j => R.TXB_TS i j, 8, 0x2000, 3, 0x20⟩,
  ⟨fun i j => R.TXB_CTRL_SINGLE_SHOT i j, 8, 0x2000, 3, 0x20⟩,
  ⟨fun i j => R.TXB_CTRL_ABORT i j, 8, 0x2000, 3, 0x20⟩,
  ⟨fun i j => R.TXB_CTRL_REQ i j, 8, 0x2000, 3, 0x20⟩,
  ⟨fun i j => R.TXB_STATUS_ATTEMPTS i j, 8, 0x2000, 3, 0x20⟩,
  ⟨fun i j => R.TXB_STATUS_STATE i j, 8, 0x2000, 3, 0x20⟩,
  ⟨fun i _ => R.CAN_EVT_EN i, 8, 0x2000, 1, 0x10000⟩]

def regBlockA : List FldFam :=
 [
  ⟨fun i _ => R.SER_CTRL_FLUSH_TX i, 12, 0x100, 1, 0x10000⟩,
  ⟨fun i _ => R.SER_CTRL_CLR_CNT i, 12, 0x100, 1, 0x10000⟩,
  ⟨fun i _ => R.SER_CTRL_ECHO i, 12, 0x100, 1, 0x10000⟩,
  ⟨fun i _ => R.SER_CTRL_STOP i, 12, 0x100, 1, 0x10000⟩,
  ⟨fun i _ => R.SER_CTRL_PARITY i, 12, 0x100, 1, 0x10000⟩,
  ⟨fun i _ => R.SER_CTRL_MODE i, 12, 0x100, 1, 0x10000⟩,
  ⟨fun i _ => R.SER_CTRL_EN i, 12, 0x100, 1, 0x10000⟩,
  ⟨fun i _ => R.SER_BAUD_DIV i, 12, 0x100, 1, 0x10000⟩,
  ⟨fun i _ => R.SER_GAP_END i, 12, 0x100, 1, 0x10000⟩,
  ⟨fun i _ => R.SER_GAP_ERR i, 12, 0x100, 1, 0x10000⟩,
  ⟨fun i _ => R.SER_GAP_TX i, 12, 0x100, 1, 0x10000⟩,
  ⟨fun i _ => R.SER_DE_LEAD i, 12, 0x100, 1, 0x10000⟩,
  ⟨fun i _ => R.SER_DE_LAG i, 12, 0x100, 1, 0x10000⟩,
  ⟨fun i _ => R.SER_RX_CFG_RX_EN i, 12, 0x100, 1, 0x10000⟩,
  ⟨fun i _ => R.SER_RX_CFG_TB i, 12, 0x100, 1, 0x10000⟩,
  ⟨fun i _ => R.SER_RX_CFG_PN i, 12, 0x100, 1, 0x10000⟩,
  ⟨fun i _ => R.SER_TXDATA_AT i, 12, 0x100, 1, 0x10000⟩,
  ⟨fun i _ => R.SER_TXDATA_END i, 12, 0x100, 1, 0x10000⟩,
  ⟨fun i _ => R.SER_TXDATA_DATA i, 12, 0x100, 1, 0x10000⟩,
  ⟨fun i _ => R.SER_TX_AT i, 12, 0x100, 1, 0x10000⟩,
  ⟨fun i _ => R.SER_STATUS_TX_LEVEL i, 12, 0x100, 1, 0x10000⟩,
  ⟨fun i _ => R.SER_STATUS_RXSTAT_LEVEL i, 12, 0x100, 1, 0x10000⟩,
  ⟨fun i _ => R.SER_STATUS_DE i, 12, 0x100, 1, 0x10000⟩,
  ⟨fun i _ => R.SER_STATUS_TX_BUSY i, 12, 0x100, 1, 0x10000⟩,
  ⟨fun i _ => R.SER_STATUS_RX_BUSY i, 12, 0x100, 1, 0x10000⟩,
  ⟨fun i _ => R.SER_RXSTAT_TS i, 12, 0x100, 1, 0x10000⟩,
  ⟨fun i _ => R.SER_RXSTAT_VALID i, 12, 0x100, 1, 0x10000⟩,
  ⟨fun i _ => R.SER_RXSTAT_GAP_ERR i, 12, 0x100, 1, 0x10000⟩,
  ⟨fun i _ => R.SER_RXSTAT_PARITY_ERR i, 12, 0x100, 1, 0x10000⟩,
  ⟨fun i _ => R.SER_RXSTAT_FRAME_ERR i, 12, 0x100, 1, 0x10000⟩,
  ⟨fun i _ => R.SER_RXSTAT_BREAK i, 12, 0x100, 1, 0x10000⟩,
  ⟨fun i _ => R.SER_RXSTAT_CRC_ERR i, 12, 0x100, 1, 0x10000⟩,
  ⟨fun i _ => R.SER_RXSTAT_PN_DROP i, 12, 0x100, 1, 0x10000⟩,
  ⟨fun i _ => R.SER_RXSTAT_LEN i, 12, 0x100, 1, 0x10000⟩,
  ⟨fun i _ => R.SER_EVT_CFG_REJ i, 12, 0x100, 1, 0x10000⟩,
  ⟨fun i _ => R.SER_EVT_TX_OVF i, 12, 0x100, 1, 0x10000⟩,
  ⟨fun i _ => R.SER_EVT_ECHO_ERR i, 12, 0x100, 1, 0x10000⟩,
  ⟨fun i _ => R.SER_EVT_RXSTAT_LOST i, 12, 0x100, 1, 0x10000⟩,
  ⟨fun i _ => R.SER_EVT_RX_ERR i, 12, 0x100, 1, 0x10000⟩,
  ⟨fun i _ => R.SER_EVT_RX_FRAME i, 12, 0x100, 1, 0x10000⟩,
  ⟨fun i _ => R.SER_EVT_TX_UNDERRUN i, 12, 0x100, 1, 0x10000⟩,
  ⟨fun i _ => R.SER_EVT_TX_DONE i, 12, 0x100, 1, 0x10000⟩,
  ⟨fun i _ => R.SER_CNT_RX_FRAMES i, 12, 0x100, 1, 0x10000⟩,
  ⟨fun i _ => R.SER_CNT_TX_FRAMES i, 12, 0x100, 1, 0x10000⟩,
  ⟨fun i _ => R.SER_CNT_RX_ERR_FRAMES i, 12, 0x100, 1, 0x10000⟩,
  ⟨fun i _ => R.SER_CNT_RX_CHAR_ERR i, 12, 0x100, 1, 0x10000⟩,
  ⟨fun i _ => R.SER_CNT_TX_UNDERRUN i, 12, 0x100, 1, 0x10000⟩,
  ⟨fun i _ => R.SER_CNT_RXSTAT_LOST i, 12, 0x100, 1, 0x10000⟩,
  ⟨fun i _ => R.SER_CNT_ECHO_ERR i, 12, 0x100, 1, 0x10000⟩,
  ⟨fun i _ => R.SER_EVT_EN i, 12, 0x100, 1, 0x10000⟩]

def regBlockB : List FldFam :=
 [
  ⟨fun i _ => R.ENG_CTRL_CLR_STATS i, 48, 0x80, 1, 0x10000⟩,
  ⟨fun i _ => R.ENG_CTRL_RESTART i, 48, 0x80, 1, 0x10000⟩,
  ⟨fun i _ => R.ENG_CTRL_HALT i, 48, 0x80, 1, 0x10000⟩,
  ⟨fun i _ => R.ENG_STATUS_STATE i, 48, 0x80, 1, 0x10000⟩,
  ⟨fun i _ => R.ENG_STATUS_HALT_CAUSE i, 48, 0x80, 1, 0x10000⟩,
  ⟨fun i _ => R.ENG_STATUS_ACT_BANK i, 48, 0x80, 1, 0x10000⟩,
  ⟨fun i _ => R.ENG_STATUS_TX_OVF i, 48, 0x80, 1, 0x10000⟩,
  ⟨fun i _ => R.ENG_STATUS_IRAM_WREJ i, 48, 0x80, 1, 0x10000⟩,
  ⟨fun i _ => R.ENG_STATUS_WR_DENIED i, 48, 0x80, 1, 0x10000⟩,
  ⟨fun i _ => R.ENG_STATUS_RIDE_WLOST i, 48, 0x80, 1, 0x10000⟩,
  ⟨fun i _ => R.ENG_STATUS_RX_DROP i, 48, 0x80, 1, 0x10000⟩,
  ⟨fun i _ => R.ENG_STATUS_DZ i, 48, 0x80, 1, 0x10000⟩,
  ⟨fun i _ => R.ENG_STATUS_OV i, 48, 0x80, 1, 0x10000⟩,
  ⟨fun i _ => R.ENG_STATUS_LATE i, 48, 0x80, 1, 0x10000⟩,
  ⟨fun i _ => R.ENG_STATUS_HALTED i, 48, 0x80, 1, 0x10000⟩,
  ⟨fun i _ => R.ENG_PC i, 48, 0x80, 1, 0x10000⟩,
  ⟨fun i _ => R.ENG_FAULT_ADDR i, 48, 0x80, 1, 0x10000⟩,
  ⟨fun i _ => R.ENG_CFG_MODE i, 48, 0x80, 1, 0x10000⟩,
  ⟨fun i _ => R.ENG_CFG_GAITS i, 48, 0x80, 1, 0x10000⟩,
  ⟨fun i _ => R.ENG_ENTRY i, 48, 0x80, 1, 0x10000⟩,
  ⟨fun i _ => R.ENG_WCYC i, 48, 0x80, 1, 0x10000⟩,
  ⟨fun i _ => R.ENG_CYC_LAST i, 48, 0x80, 1, 0x10000⟩,
  ⟨fun i _ => R.ENG_CYC_MAX i, 48, 0x80, 1, 0x10000⟩,
  ⟨fun i _ => R.ENG_RXR_BASE i, 48, 0x80, 1, 0x10000⟩,
  ⟨fun i _ => R.ENG_RXR_CFG_BUF_UNITS i, 48, 0x80, 1, 0x10000⟩,
  ⟨fun i _ => R.ENG_RXR_CFG_COUNT i, 48, 0x80, 1, 0x10000⟩,
  ⟨fun i _ => R.ENG_TXR_BASE i, 48, 0x80, 1, 0x10000⟩,
  ⟨fun i _ => R.ENG_TXR_CFG_COUNT i, 48, 0x80, 1, 0x10000⟩,
  ⟨fun i _ => R.ENG_RXR_DROP i, 48, 0x80, 1, 0x10000⟩,
  ⟨fun i _ => R.ENG_TX_IDX_HEAD i, 48, 0x80, 1, 0x10000⟩,
  ⟨fun i _ => R.ENG_TX_IDX_TAIL i, 48, 0x80, 1, 0x10000⟩,
  ⟨fun i _ => R.TEAM_CFG_WR_BLOCKS i, 12, 0x20, 1, 0x10000⟩,
  ⟨fun i _ => R.TEAM_CFG_RX_MAP i, 12, 0x20, 1, 0x10000⟩,
  ⟨fun i _ => R.TEAM_CFG2_RIDE_ENG i, 12, 0x20, 1, 0x10000⟩,
  ⟨fun i _ => R.TEAM_CFG2_LS23 i, 12, 0x20, 1, 0x10000⟩,
  ⟨fun i _ => R.TEAM_CFG2_LS01 i, 12, 0x20, 1, 0x10000⟩,
  ⟨fun i _ => R.TEAM_LS_STATUS_COUNT i, 12, 0x20, 1, 0x10000⟩,
  ⟨fun i _ => R.TEAM_LS_STATUS_MIS23 i, 12, 0x20, 1, 0x10000⟩,
  ⟨fun i _ => R.TEAM_LS_STATUS_MIS01 i, 12, 0x20, 1, 0x10000⟩,
  ⟨fun _ _ => R.BRIDLE_STATUS_STATE, 1, 0x10000, 1, 0x10000⟩,
  ⟨fun _ _ => R.BRIDLE_STATUS_RESTARTS, 1, 0x10000, 1, 0x10000⟩,
  ⟨fun i _ => R.ENG_EVT_EN i, 48, 0x80, 1, 0x10000⟩]

def regBlockC : List FldFam :=
 [
  ⟨fun _ _ => R.SWM_HTXR_BASE, 1, 0x10000, 1, 0x10000⟩,
  ⟨fun _ _ => R.SWM_HTXR_CFG_COUNT, 1, 0x10000, 1, 0x10000⟩,
  ⟨fun _ _ => R.SWM_HTX_TAIL, 1, 0x10000, 1, 0x10000⟩,
  ⟨fun _ _ => R.SWM_HTX_HEAD, 1, 0x10000, 1, 0x10000⟩,
  ⟨fun _ _ => R.SWM_HRXR_BASE, 1, 0x10000, 1, 0x10000⟩,
  ⟨fun _ _ => R.SWM_HRXR_CFG_BUF_UNITS, 1, 0x10000, 1, 0x10000⟩,
  ⟨fun _ _ => R.SWM_HRXR_CFG_COUNT, 1, 0x10000, 1, 0x10000⟩,
  ⟨fun _ _ => R.SWM_HRX_NEXT, 1, 0x10000, 1, 0x10000⟩,
  ⟨fun _ _ => R.SWM_CAP_BASE, 1, 0x10000, 1, 0x10000⟩,
  ⟨fun _ _ => R.SWM_CAP_CFG_EN, 1, 0x10000, 1, 0x10000⟩,
  ⟨fun _ _ => R.SWM_CAP_CFG_WRAP, 1, 0x10000, 1, 0x10000⟩,
  ⟨fun _ _ => R.SWM_CAP_CFG_SIZE, 1, 0x10000, 1, 0x10000⟩,
  ⟨fun _ _ => R.SWM_CAP_PTR_WRAPPED, 1, 0x10000, 1, 0x10000⟩,
  ⟨fun _ _ => R.SWM_CAP_PTR_OFFSET, 1, 0x10000, 1, 0x10000⟩,
  ⟨fun _ _ => R.SWM_CNT_HRX_DROP, 1, 0x10000, 1, 0x10000⟩,
  ⟨fun _ _ => R.SWM_CNT_CAP_DROP, 1, 0x10000, 1, 0x10000⟩,
  ⟨fun _ _ => R.SW_CTRL_CLR_CNT, 1, 0x10000, 1, 0x10000⟩,
  ⟨fun _ _ => R.SW_STATUS_SLOT, 1, 0x10000, 1, 0x10000⟩,
  ⟨fun _ _ => R.SW_STATUS_CFG_ACTIVE, 1, 0x10000, 1, 0x10000⟩,
  ⟨fun _ _ => R.SW_STATUS_READY, 1, 0x10000, 1, 0x10000⟩,
  ⟨fun _ _ => R.SW_EVT_CAP_FULL, 1, 0x10000, 1, 0x10000⟩,
  ⟨fun _ _ => R.SW_EVT_HOST_TX, 1, 0x10000, 1, 0x10000⟩,
  ⟨fun _ _ => R.SW_EVT_HOST_RX, 1, 0x10000, 1, 0x10000⟩,
  ⟨fun _ _ => R.SW_EVT_SLOT_OVER, 1, 0x10000, 1, 0x10000⟩,
  ⟨fun _ _ => R.SW_EVT_FCS_MARK, 1, 0x10000, 1, 0x10000⟩,
  ⟨fun _ _ => R.SW_EVT_ECC_UNCORR, 1, 0x10000, 1, 0x10000⟩,
  ⟨fun _ _ => R.SW_EVT_ECC_CORR, 1, 0x10000, 1, 0x10000⟩,
  ⟨fun _ _ => R.SW_EVT_MC_LOOP_DROP, 1, 0x10000, 1, 0x10000⟩,
  ⟨fun _ _ => R.SW_EVT_SCHED_COLLIDE, 1, 0x10000, 1, 0x10000⟩,
  ⟨fun _ _ => R.SW_EVT_UNDERRUN, 1, 0x10000, 1, 0x10000⟩,
  ⟨fun _ _ => R.SW_EVT_BUF_DROP, 1, 0x10000, 1, 0x10000⟩,
  ⟨fun _ _ => R.SW_EVT_LATE, 1, 0x10000, 1, 0x10000⟩,
  ⟨fun _ _ => R.SW_EVT_AGE_DROP, 1, 0x10000, 1, 0x10000⟩,
  ⟨fun _ _ => R.SW_MIRROR_EN, 1, 0x10000, 1, 0x10000⟩,
  ⟨fun _ _ => R.SW_MIRROR_CLASS, 1, 0x10000, 1, 0x10000⟩,
  ⟨fun _ _ => R.SW_MIRROR_OUT_PORT, 1, 0x10000, 1, 0x10000⟩,
  ⟨fun _ _ => R.SW_MIRROR_SRC_LO, 1, 0x10000, 1, 0x10000⟩,
  ⟨fun _ _ => R.SW_MIRROR_SRC_HI, 1, 0x10000, 1, 0x10000⟩,
  ⟨fun _ _ => R.SW_BUF_CFG_SCHED_RESV, 1, 0x10000, 1, 0x10000⟩,
  ⟨fun _ _ => R.SW_BUF_CFG_OUT_CAP, 1, 0x10000, 1, 0x10000⟩,
  ⟨fun i _ => R.SW_CLASS_CFG_SCHED i, 8, 0x10, 1, 0x10000⟩,
  ⟨fun i _ => R.SW_CLASS_CFG_CT i, 8, 0x10, 1, 0x10000⟩,
  ⟨fun i _ => R.SW_CLASS_CFG_QUANTUM i, 8, 0x10, 1, 0x10000⟩,
  ⟨fun i _ => R.SW_AGE_LIMIT_LIMIT i, 8, 0x10, 1, 0x10000⟩,
  ⟨fun i _ => R.SW_PORT_CNT_FRAMES_IN i, 40, 0x40, 1, 0x10000⟩,
  ⟨fun i _ => R.SW_PORT_CNT_FRAMES_OUT i, 40, 0x40, 1, 0x10000⟩,
  ⟨fun i _ => R.SW_PORT_CNT_AGE_DROP i, 40, 0x40, 1, 0x10000⟩,
  ⟨fun i _ => R.SW_PORT_CNT_LATE i, 40, 0x40, 1, 0x10000⟩,
  ⟨fun i _ => R.SW_PORT_CNT_BUF_DROP i, 40, 0x40, 1, 0x10000⟩,
  ⟨fun i _ => R.SW_PORT_CNT_UNDERRUN i, 40, 0x40, 1, 0x10000⟩,
  ⟨fun i _ => R.SW_PORT_CNT_SCHED_COLLIDE i, 40, 0x40, 1, 0x10000⟩,
  ⟨fun i _ => R.SW_PORT_CNT_MC_LOOP i, 40, 0x40, 1, 0x10000⟩,
  ⟨fun i _ => R.SW_PORT_CNT_FCS_MARK i, 40, 0x40, 1, 0x10000⟩,
  ⟨fun i _ => R.SW_PORT_CNT_SLOT_OVER i, 40, 0x40, 1, 0x10000⟩,
  ⟨fun i _ => R.SW_PORT_CNT_SCHED_MAX i, 40, 0x40, 1, 0x10000⟩,
  ⟨fun i _ => R.SW_PORT_CNT_SCHED_BUDGET i, 40, 0x40, 1, 0x10000⟩,
  ⟨fun i _ => R.SW_SLICE_HWM i, 40, 0x4, 1, 0x10000⟩,
  ⟨fun i _ => R.SW_SLICE_FILL i, 40, 0x4, 1, 0x10000⟩,
  ⟨fun i _ => R.SW_MC_GROUP_MASK_LO i, 4096, 0x8, 1, 0x10000⟩,
  ⟨fun i _ => R.SW_MC_GROUP_MASK_HI i, 4096, 0x8, 1, 0x10000⟩] ++
 [
  ⟨fun _ _ => R.SW_EVT_EN, 1, 0x10000, 1, 0x10000⟩]

def regBlockD : List FldFam :=
 [
  ⟨fun i _ => R.PORT_CTRL_MODE i, 26, 0x800, 1, 0x10000⟩,
  ⟨fun i _ => R.PORT_CTRL_AN_RESTART i, 26, 0x800, 1, 0x10000⟩,
  ⟨fun i _ => R.PORT_CTRL_AN_EN i, 26, 0x800, 1, 0x10000⟩,
  ⟨fun i _ => R.PORT_CTRL_MDIX i, 26, 0x800, 1, 0x10000⟩,
  ⟨fun i _ => R.PORT_CTRL_RGMII_RXID i, 26, 0x800, 1, 0x10000⟩,
  ⟨fun i _ => R.PORT_CTRL_RGMII_TXID i, 26, 0x800, 1, 0x10000⟩,
  ⟨fun i _ => R.PORT_CTRL_CLR_CNT i, 26, 0x800, 1, 0x10000⟩,
  ⟨fun i _ => R.PORT_CTRL_EN i, 26, 0x800, 1, 0x10000⟩,
  ⟨fun i _ => R.PORT_STATUS_FAIL i, 26, 0x800, 1, 0x10000⟩,
  ⟨fun i _ => R.PORT_STATUS_SPEED i, 26, 0x800, 1, 0x10000⟩,
  ⟨fun i _ => R.PORT_STATUS_LPI_TX i, 26, 0x800, 1, 0x10000⟩,
  ⟨fun i _ => R.PORT_STATUS_LPI_RX i, 26, 0x800, 1, 0x10000⟩,
  ⟨fun i _ => R.PORT_STATUS_AN_DONE i, 26, 0x800, 1, 0x10000⟩,
  ⟨fun i _ => R.PORT_STATUS_LINK i, 26, 0x800, 1, 0x10000⟩,
  ⟨fun i _ => R.PORT_EVT_TS i, 26, 0x800, 1, 0x10000⟩,
  ⟨fun i _ => R.PORT_EVT_RED_ERR i, 26, 0x800, 1, 0x10000⟩,
  ⟨fun i _ => R.PORT_EVT_DIAG_DONE i, 26, 0x800, 1, 0x10000⟩,
  ⟨fun i _ => R.PORT_EVT_LEN_ERR i, 26, 0x800, 1, 0x10000⟩,
  ⟨fun i _ => R.PORT_EVT_RIDE_LATE i, 26, 0x800, 1, 0x10000⟩,
  ⟨fun i _ => R.PORT_EVT_VERIFY_FAIL i, 26, 0x800, 1, 0x10000⟩,
  ⟨fun i _ => R.PORT_EVT_CFG_REJ i, 26, 0x800, 1, 0x10000⟩,
  ⟨fun i _ => R.PORT_EVT_SWITCH_LATE i, 26, 0x800, 1, 0x10000⟩,
  ⟨fun i _ => R.PORT_EVT_GATE_SWITCHED i, 26, 0x800, 1, 0x10000⟩,
  ⟨fun i _ => R.PORT_EVT_GATE_OVERRUN i, 26, 0x800, 1, 0x10000⟩,
  ⟨fun i _ => R.PORT_EVT_RX_ERR i, 26, 0x800, 1, 0x10000⟩,
  ⟨fun i _ => R.PORT_EVT_LINK_CHG i, 26, 0x800, 1, 0x10000⟩,
  ⟨fun i _ => R.MAX_FRAME i, 26, 0x800, 1, 0x10000⟩,
  ⟨fun i _ => R.VLAN_CFG_DEF_PCP i, 26, 0x800, 1, 0x10000⟩,
  ⟨fun i _ => R.VLAN_CFG_PVID i, 26, 0x800, 1, 0x10000⟩,
  ⟨fun i _ => R.PORT_DEFAULT_CLASS i, 26, 0x800, 1, 0x10000⟩,
  ⟨fun i _ => R.PORT_DEFAULT_GROUP i, 26, 0x800, 1, 0x10000⟩,
  ⟨fun i _ => R.PORT_DEFAULT_DISCARD i, 26, 0x800, 1, 0x10000⟩,
  ⟨fun i _ => R.PORT_DEFAULT_DEST i, 26, 0x800, 1, 0x10000⟩,
  ⟨fun i _ => R.GATE_CTRL_ARM i, 26, 0x800, 1, 0x10000⟩,
  ⟨fun i _ => R.GATE_CTRL_FIRST i, 26, 0x800, 1, 0x10000⟩,
  ⟨fun i _ => R.GATE_CTRL_EN i, 26, 0x800, 1, 0x10000⟩,
  ⟨fun i _ => R.GATE_STATUS_GATES i, 26, 0x800, 1, 0x10000⟩,
  ⟨fun i _ => R.GATE_STATUS_ENTRY i, 26, 0x800, 1, 0x10000⟩,
  ⟨fun i _ => R.GATE_STATUS_ARMED i, 26, 0x800, 1, 0x10000⟩,
  ⟨fun i _ => R.GATE_STATUS_OPER i, 26, 0x800, 1, 0x10000⟩,
  ⟨fun i _ => R.GATE_STATUS_ACTIVE i, 26, 0x800, 1, 0x10000⟩,
  ⟨fun i _ => R.GATE_IDLE i, 26, 0x800, 1, 0x10000⟩,
  ⟨fun i _ => R.GCL_ADDR_LIST i, 26, 0x800, 1, 0x10000⟩,
  ⟨fun i _ => R.GCL_ADDR_INDEX i, 26, 0x800, 1, 0x10000⟩,
  ⟨fun i _ => R.GCL_DATA i, 26, 0x800, 1, 0x10000⟩,
  ⟨fun i j => R.GCL_BASE_LO i j, 26, 0x800, 2, 0x20⟩,
  ⟨fun i j => R.GCL_BASE_HI i j, 26, 0x800, 2, 0x20⟩,
  ⟨fun i j => R.GCL_BASE_XHI i j, 26, 0x800, 2, 0x20⟩,
  ⟨fun i j => R.GCL_CYCLE i j, 26, 0x800, 2, 0x20⟩,
  ⟨fun i j => R.GCL_LEN i j, 26, 0x800, 2, 0x20⟩,
  ⟨fun i _ => R.GATE_SWITCH_TIME_LO i, 26, 0x800, 1, 0x10000⟩,
  ⟨fun i _ => R.GATE_SWITCH_TIME_HI i, 26, 0x800, 1, 0x10000⟩,
  ⟨fun i _ => R.GATE_SWITCH_TIME_XHI i, 26, 0x800, 1, 0x10000⟩,
  ⟨fun i _ => R.PREEMPT_CFG_EXPRESS i, 26, 0x800, 1, 0x10000⟩,
  ⟨fun i _ => R.PREEMPT_CFG_ADD_FRAG i, 26, 0x800, 1, 0x10000⟩,
  ⟨fun i _ => R.PREEMPT_CFG_VERIFY_DIS i, 26, 0x800, 1, 0x10000⟩,
  ⟨fun i _ => R.PREEMPT_CFG_EN i, 26, 0x800, 1, 0x10000⟩,
  ⟨fun i _ => R.PREEMPT_STATUS_VERIFY i, 26, 0x800, 1, 0x10000⟩,
  ⟨fun i _ => R.EEE_CFG_EN i, 26, 0x800, 1, 0x10000⟩,
  ⟨fun i _ => R.EEE_TS i, 26, 0x800, 1, 0x10000⟩] ++
 [
  ⟨fun i _ => R.EEE_TW i, 26, 0x800, 1, 0x10000⟩,
  ⟨fun i _ => R.EEE_IDLE i, 26, 0x800, 1, 0x10000⟩,
  ⟨fun i _ => R.RIDE_CFG_LATE_MARK (16 + i), 8, 0x800, 1, 0x10000⟩,
  ⟨fun i _ => R.RIDE_CFG_MODE (16 + i), 8, 0x800, 1, 0x10000⟩,
  ⟨fun i _ => R.RIDE_CFG_OUT (16 + i), 8, 0x800, 1, 0x10000⟩,
  ⟨fun i _ => R.RIDE_CFG_TEAM (16 + i), 8, 0x800, 1, 0x10000⟩,
  ⟨fun i _ => R.RIDE_CNT_LATE i, 26, 0x800, 1, 0x10000⟩,
  ⟨fun i _ => R.RIDE_CNT_LEN_ERR i, 26, 0x800, 1, 0x10000⟩,
  ⟨fun i _ => R.RIDE_NOLEN i, 26, 0x800, 1, 0x10000⟩,
  ⟨fun i _ => R.DIAG_CTRL_BUSY (16 + i), 8, 0x800, 1, 0x10000⟩,
  ⟨fun i _ => R.DIAG_CTRL_START (16 + i), 8, 0x800, 1, 0x10000⟩,
  ⟨fun i _ => R.DIAG_RESULT_B_CODE (16 + i), 8, 0x800, 1, 0x10000⟩,
  ⟨fun i _ => R.DIAG_RESULT_B_DIST (16 + i), 8, 0x800, 1, 0x10000⟩,
  ⟨fun i _ => R.DIAG_RESULT_A_CODE (16 + i), 8, 0x800, 1, 0x10000⟩,
  ⟨fun i _ => R.DIAG_RESULT_A_DIST (16 + i), 8, 0x800, 1, 0x10000⟩,
  ⟨fun i _ => R.DIAG_RESULT_VALID (16 + i), 8, 0x800, 1, 0x10000⟩,
  ⟨fun i _ => R.PORT_CNT_RX_FRAMES i, 26, 0x800, 1, 0x10000⟩,
  ⟨fun i _ => R.PORT_CNT_RX_OCTETS i, 26, 0x800, 1, 0x10000⟩,
  ⟨fun i _ => R.PORT_CNT_RX_FCS_ERR i, 26, 0x800, 1, 0x10000⟩,
  ⟨fun i _ => R.PORT_CNT_RX_RUNT i, 26, 0x800, 1, 0x10000⟩,
  ⟨fun i _ => R.PORT_CNT_RX_TRUNC i, 26, 0x800, 1, 0x10000⟩,
  ⟨fun i _ => R.PORT_CNT_RX_SYMBOL_ERR i, 26, 0x800, 1, 0x10000⟩,
  ⟨fun i _ => R.PORT_CNT_RX_NO_RULE i, 26, 0x800, 1, 0x10000⟩,
  ⟨fun i _ => R.PORT_CNT_TX_FRAMES i, 26, 0x800, 1, 0x10000⟩,
  ⟨fun i _ => R.PORT_CNT_TX_OCTETS i, 26, 0x800, 1, 0x10000⟩,
  ⟨fun i _ => R.PORT_CNT_TX_LINK_DROP i, 26, 0x800, 1, 0x10000⟩,
  ⟨fun i _ => R.PORT_CNT_GATE_OVERRUN i, 26, 0x800, 1, 0x10000⟩,
  ⟨fun i _ => R.PORT_CNT_GATE_DISCARD i, 26, 0x800, 1, 0x10000⟩,
  ⟨fun i _ => R.PORT_CNT_FRAG_TX i, 26, 0x800, 1, 0x10000⟩,
  ⟨fun i _ => R.PORT_CNT_ASSY_OK i, 26, 0x800, 1, 0x10000⟩,
  ⟨fun i _ => R.PORT_CNT_ASSY_ERR i, 26, 0x800, 1, 0x10000⟩,
  ⟨fun i _ => R.PORT_CNT_SMD_ERR i, 26, 0x800, 1, 0x10000⟩,
  ⟨fun i _ => R.PORT_CNT_LPI_ENTRIES i, 26, 0x800, 1, 0x10000⟩,
  ⟨fun i _ => R.PORT_CNT_LPI_LATE_WAKE i, 26, 0x800, 1, 0x10000⟩,
  ⟨fun _ _ => R.MDIO_CMD_GO, 1, 0x10000, 1, 0x10000⟩,
  ⟨fun _ _ => R.MDIO_CMD_C45, 1, 0x10000, 1, 0x10000⟩,
  ⟨fun _ _ => R.MDIO_CMD_OP, 1, 0x10000, 1, 0x10000⟩,
  ⟨fun _ _ => R.MDIO_CMD_PHYAD, 1, 0x10000, 1, 0x10000⟩,
  ⟨fun _ _ => R.MDIO_CMD_REG, 1, 0x10000, 1, 0x10000⟩,
  ⟨fun _ _ => R.MDIO_CMD_BUSY, 1, 0x10000, 1, 0x10000⟩,
  ⟨fun _ _ => R.MDIO_CMD_DATA, 1, 0x10000, 1, 0x10000⟩,
  ⟨fun i _ => R.STREAM_CFG_FUNC i, 128, 0x20, 1, 0x10000⟩,
  ⟨fun i _ => R.STREAM_CFG_STRIP i, 128, 0x20, 1, 0x10000⟩,
  ⟨fun i _ => R.STREAM_CFG_HIST i, 128, 0x20, 1, 0x10000⟩,
  ⟨fun i _ => R.STREAM_CFG_RESET_MS i, 128, 0x20, 1, 0x10000⟩,
  ⟨fun i _ => R.STREAM_SEQ i, 128, 0x20, 1, 0x10000⟩,
  ⟨fun i _ => R.STREAM_PASSED i, 128, 0x20, 1, 0x10000⟩,
  ⟨fun i _ => R.STREAM_DISCARDED i, 128, 0x20, 1, 0x10000⟩,
  ⟨fun i _ => R.STREAM_ROGUE i, 128, 0x20, 1, 0x10000⟩,
  ⟨fun i _ => R.STREAM_OUT_OF_ORDER i, 128, 0x20, 1, 0x10000⟩,
  ⟨fun i _ => R.STREAM_TAGLESS i, 128, 0x20, 1, 0x10000⟩,
  ⟨fun i _ => R.STREAM_RESETS i, 128, 0x20, 1, 0x10000⟩,
  ⟨fun i _ => R.RED_CFG_MODE i, 8, 0x40, 1, 0x10000⟩,
  ⟨fun i _ => R.RED_CFG_PORT_B i, 8, 0x40, 1, 0x10000⟩,
  ⟨fun i _ => R.RED_CFG_PORT_A i, 8, 0x40, 1, 0x10000⟩,
  ⟨fun i _ => R.RED_FORGET i, 8, 0x40, 1, 0x10000⟩,
  ⟨fun i _ => R.RED_ADDR i, 8, 0x40, 1, 0x10000⟩,
  ⟨fun i _ => R.RED_TX_SEQ i, 8, 0x40, 1, 0x10000⟩,
  ⟨fun i _ => R.RED_DUP_DISCARD i, 8, 0x40, 1, 0x10000⟩,
  ⟨fun i _ => R.RED_RX_A i, 8, 0x40, 1, 0x10000⟩] ++
 [
  ⟨fun i _ => R.RED_RX_B i, 8, 0x40, 1, 0x10000⟩,
  ⟨fun i _ => R.RED_OWN_REMOVED i, 8, 0x40, 1, 0x10000⟩,
  ⟨fun i _ => R.RED_NO_TAG i, 8, 0x40, 1, 0x10000⟩,
  ⟨fun i _ => R.RED_TBL_FULL i, 8, 0x40, 1, 0x10000⟩,
  ⟨fun _ _ => R.HN_CTRL_NODE_ID, 1, 0x10000, 1, 0x10000⟩,
  ⟨fun _ _ => R.HN_CTRL_UP_LANE, 1, 0x10000, 1, 0x10000⟩,
  ⟨fun _ _ => R.HN_CTRL_STBY_LANE, 1, 0x10000, 1, 0x10000⟩,
  ⟨fun _ _ => R.HN_CTRL_TB, 1, 0x10000, 1, 0x10000⟩,
  ⟨fun _ _ => R.HN_CTRL_STBY_EN, 1, 0x10000, 1, 0x10000⟩,
  ⟨fun _ _ => R.HN_CTRL_COLDSTART, 1, 0x10000, 1, 0x10000⟩,
  ⟨fun _ _ => R.HN_CTRL_UP_EN, 1, 0x10000, 1, 0x10000⟩,
  ⟨fun _ _ => R.HN_CTRL_EN, 1, 0x10000, 1, 0x10000⟩,
  ⟨fun _ _ => R.HN_CLUSTER_SLOTS, 1, 0x10000, 1, 0x10000⟩,
  ⟨fun _ _ => R.HN_CLUSTER_GUARD, 1, 0x10000, 1, 0x10000⟩,
  ⟨fun _ _ => R.HN_STATUS_UP_STATE, 1, 0x10000, 1, 0x10000⟩,
  ⟨fun _ _ => R.HN_STATUS_STAR_STATE, 1, 0x10000, 1, 0x10000⟩,
  ⟨fun _ _ => R.HN_STATUS_LEVEL, 1, 0x10000, 1, 0x10000⟩,
  ⟨fun _ _ => R.HN_STATUS_HOLDOVER, 1, 0x10000, 1, 0x10000⟩,
  ⟨fun _ _ => R.HN_STATUS_ON_STANDBY, 1, 0x10000, 1, 0x10000⟩,
  ⟨fun _ _ => R.HN_STATUS_TIME_SRC, 1, 0x10000, 1, 0x10000⟩,
  ⟨fun _ _ => R.HN_CMD_CFG_TIMEOUT, 1, 0x10000, 1, 0x10000⟩,
  ⟨fun _ _ => R.HN_CMD_STATUS_LATE_REPLY, 1, 0x10000, 1, 0x10000⟩,
  ⟨fun _ _ => R.HN_CMD_STATUS_PENDING, 1, 0x10000, 1, 0x10000⟩,
  ⟨fun i _ => R.HN_ROUTE_HI i, 64, 0x8, 1, 0x10000⟩,
  ⟨fun i _ => R.HN_ROUTE_LO i, 64, 0x8, 1, 0x10000⟩,
  ⟨fun i _ => R.HN_ROUTE_VALID i, 64, 0x8, 1, 0x10000⟩,
  ⟨fun i _ => R.HN_ROUTE_LANE i, 64, 0x8, 1, 0x10000⟩,
  ⟨fun i _ => R.HN_LANE_CFG_ASYM i, 16, 0x800, 1, 0x10000⟩,
  ⟨fun i _ => R.HN_LANE_CFG_TEAM i, 16, 0x800, 1, 0x10000⟩,
  ⟨fun i _ => R.HN_LANE_CFG_RATE i, 16, 0x800, 1, 0x10000⟩,
  ⟨fun i _ => R.HN_LANE_CFG_ROLE i, 16, 0x800, 1, 0x10000⟩,
  ⟨fun i _ => R.HN_LANE_STATUS_MEMBER_ID i, 16, 0x800, 1, 0x10000⟩,
  ⟨fun i _ => R.HN_LANE_STATUS_DUP_ID i, 16, 0x800, 1, 0x10000⟩,
  ⟨fun i _ => R.HN_LANE_STATUS_ISOLATED i, 16, 0x800, 1, 0x10000⟩,
  ⟨fun i _ => R.HN_LANE_STATUS_FOLLOWED i, 16, 0x800, 1, 0x10000⟩,
  ⟨fun i _ => R.HN_LANE_STATUS_DLY_VALID i, 16, 0x800, 1, 0x10000⟩,
  ⟨fun i _ => R.HN_LANE_STATUS_CUT_RUN i, 16, 0x800, 1, 0x10000⟩,
  ⟨fun i _ => R.HN_DELAY i, 16, 0x800, 1, 0x10000⟩,
  ⟨fun i _ => R.HN_DELAY_AVG i, 16, 0x800, 1, 0x10000⟩,
  ⟨fun i _ => R.HN_OFFSET i, 16, 0x800, 1, 0x10000⟩,
  ⟨fun i _ => R.HN_OFFSET_AVG i, 16, 0x800, 1, 0x10000⟩,
  ⟨fun i _ => R.HN_ECHO_OFFSET i, 16, 0x800, 1, 0x10000⟩,
  ⟨fun i _ => R.HN_ECHO_SLOT i, 16, 0x800, 1, 0x10000⟩,
  ⟨fun i _ => R.HN_ECHO_CUT i, 16, 0x800, 1, 0x10000⟩,
  ⟨fun i _ => R.HN_ECHO_DRIFT_WARN i, 16, 0x800, 1, 0x10000⟩,
  ⟨fun i _ => R.HN_ECHO_ISOLATED i, 16, 0x800, 1, 0x10000⟩,
  ⟨fun i _ => R.HN_ECHO_VALID i, 16, 0x800, 1, 0x10000⟩,
  ⟨fun i _ => R.HN_LANE_EVT_LEVEL_ERR i, 16, 0x800, 1, 0x10000⟩,
  ⟨fun i _ => R.HN_LANE_EVT_TABLE_MISMATCH i, 16, 0x800, 1, 0x10000⟩,
  ⟨fun i _ => R.HN_LANE_EVT_DUP_ID i, 16, 0x800, 1, 0x10000⟩,
  ⟨fun i _ => R.HN_LANE_EVT_TAKEOVER i, 16, 0x800, 1, 0x10000⟩,
  ⟨fun i _ => R.HN_LANE_EVT_SILENT i, 16, 0x800, 1, 0x10000⟩,
  ⟨fun i _ => R.HN_LANE_EVT_DLY_MISS i, 16, 0x800, 1, 0x10000⟩,
  ⟨fun i _ => R.HN_LANE_EVT_RESYNC i, 16, 0x800, 1, 0x10000⟩,
  ⟨fun i _ => R.HN_LANE_EVT_ISOLATED i, 16, 0x800, 1, 0x10000⟩,
  ⟨fun i _ => R.HN_LANE_EVT_CUT i, 16, 0x800, 1, 0x10000⟩,
  ⟨fun i _ => R.HN_LANE_EVT_DRIFT_WARN i, 16, 0x800, 1, 0x10000⟩,
  ⟨fun i _ => R.HN_LANE_EVT_STATE_CHG i, 16, 0x800, 1, 0x10000⟩,
  ⟨fun i _ => R.HN_CNT_TX_FRAMES i, 16, 0x800, 1, 0x10000⟩,
  ⟨fun i _ => R.HN_CNT_RX_FRAMES i, 16, 0x800, 1, 0x10000⟩] ++
 [
  ⟨fun i _ => R.HN_CNT_RX_DISCARD i, 16, 0x800, 1, 0x10000⟩,
  ⟨fun i _ => R.HN_CNT_CUT i, 16, 0x800, 1, 0x10000⟩,
  ⟨fun i _ => R.HN_CNT_CUT_LONG i, 16, 0x800, 1, 0x10000⟩,
  ⟨fun i _ => R.HN_CNT_OFF_SLOT i, 16, 0x800, 1, 0x10000⟩,
  ⟨fun i _ => R.HN_CNT_DRIFT_CNT i, 16, 0x800, 1, 0x10000⟩,
  ⟨fun i _ => R.HN_CNT_SLOT_EMPTY i, 16, 0x800, 1, 0x10000⟩,
  ⟨fun i _ => R.HN_CNT_SLOT_MISSING i, 16, 0x800, 1, 0x10000⟩,
  ⟨fun i _ => R.HN_CNT_DLY_MISS i, 16, 0x800, 1, 0x10000⟩,
  ⟨fun i _ => R.HN_CNT_SEC_UNKNOWN i, 16, 0x800, 1, 0x10000⟩,
  ⟨fun i _ => R.HN_CNT_CTL_UNKNOWN i, 16, 0x800, 1, 0x10000⟩,
  ⟨fun i _ => R.HN_CNT_CMD_DROP i, 16, 0x800, 1, 0x10000⟩,
  ⟨fun i _ => R.HN_CNT_ISOLATIONS i, 16, 0x800, 1, 0x10000⟩,
  ⟨fun i _ => R.PORT_EVT_EN i, 26, 0x800, 1, 0x10000⟩,
  ⟨fun i _ => R.PORT_EVT_EN_TS i, 26, 0x800, 1, 0x10000⟩,
  ⟨fun i _ => R.HN_LANE_EVT_EN i, 16, 0x800, 1, 0x10000⟩]

def regBlockE : List FldFam :=
 [
  ⟨fun i _ => R.PWR_DOMAIN_STATE i, 9, 0x4, 1, 0x10000⟩,
  ⟨fun i _ => R.PWR_DOMAIN_REQ i, 9, 0x4, 1, 0x10000⟩,
  ⟨fun i _ => R.BANK_RET_END i, 64, 0x4, 1, 0x10000⟩,
  ⟨fun i _ => R.BANK_RET_START i, 64, 0x4, 1, 0x10000⟩,
  ⟨fun _ _ => R.SLP_CFG_WATCH_MODE, 1, 0x10000, 1, 0x10000⟩,
  ⟨fun _ _ => R.SLP_CFG_WATCH_EN, 1, 0x10000, 1, 0x10000⟩,
  ⟨fun _ _ => R.SLP_CFG_DEV_SLEEP, 1, 0x10000, 1, 0x10000⟩,
  ⟨fun _ _ => R.SLP_WATCH_MS, 1, 0x10000, 1, 0x10000⟩,
  ⟨fun _ _ => R.SLP_KICK_WAKE, 1, 0x10000, 1, 0x10000⟩,
  ⟨fun _ _ => R.SLP_KICK_KICK, 1, 0x10000, 1, 0x10000⟩,
  ⟨fun _ _ => R.SLP_WAKE_EN_PINS, 1, 0x10000, 1, 0x10000⟩,
  ⟨fun _ _ => R.SLP_WAKE_EN_SRC, 1, 0x10000, 1, 0x10000⟩,
  ⟨fun _ _ => R.SLP_WAKE_CAUSE, 1, 0x10000, 1, 0x10000⟩,
  ⟨fun _ _ => R.SLP_WAKE_TIMER, 1, 0x10000, 1, 0x10000⟩,
  ⟨fun _ _ => R.SLP_EVT, 1, 0x10000, 1, 0x10000⟩,
  ⟨fun _ _ => R.SLP_EVT_EN, 1, 0x10000, 1, 0x10000⟩,
  ⟨fun i _ => R.SLP_NET_CFG_EN i, 9, 0x20, 1, 0x10000⟩,
  ⟨fun i _ => R.SLP_NET_CFG_LEADER i, 9, 0x20, 1, 0x10000⟩,
  ⟨fun i _ => R.SLP_NET_CFG_DELAY i, 9, 0x20, 1, 0x10000⟩,
  ⟨fun i _ => R.SLP_NET_CFG_POS i, 9, 0x20, 1, 0x10000⟩,
  ⟨fun i _ => R.SLP_NET_CFG_NEXT i, 9, 0x20, 1, 0x10000⟩,
  ⟨fun i _ => R.SLP_NET_ID_IDE i, 9, 0x20, 1, 0x10000⟩,
  ⟨fun i _ => R.SLP_NET_ID_ID i, 9, 0x20, 1, 0x10000⟩,
  ⟨fun i _ => R.SLP_CONSENT_CONSENT i, 9, 0x20, 1, 0x10000⟩,
  ⟨fun i _ => R.SLP_MAX_AWAKE i, 9, 0x20, 1, 0x10000⟩,
  ⟨fun i _ => R.SLP_AWAKE i, 9, 0x20, 1, 0x10000⟩,
  ⟨fun i _ => R.SLP_NET_STATUS_STATE i, 9, 0x20, 1, 0x10000⟩,
  ⟨fun i _ => R.SLP_NET_STATUS_RESULT i, 9, 0x20, 1, 0x10000⟩,
  ⟨fun i _ => R.SLP_NET_STATUS_FORCED i, 9, 0x20, 1, 0x10000⟩,
  ⟨fun i _ => R.SLP_NET_STATUS_WAKE_PEND i, 9, 0x20, 1, 0x10000⟩,
  ⟨fun i _ => R.SLP_NET_STATUS_ROUND i, 9, 0x20, 1, 0x10000⟩,
  ⟨fun i _ => R.SLP_NET_STATUS_NODE i, 9, 0x20, 1, 0x10000⟩,
  ⟨fun i _ => R.SLP_VISIT_TIMEOUT i, 9, 0x20, 1, 0x10000⟩,
  ⟨fun i _ => R.TRX_SLP_CFG_SRC i, 16, 0x4, 1, 0x10000⟩,
  ⟨fun i _ => R.TRX_SLP_CFG_INDEX i, 16, 0x4, 1, 0x10000⟩]

/-- The families of one block of BAR0. -/
def regBlock (b : Nat) : List FldFam :=
  match b with
  | 0 => regBlock0
  | 1 => regBlock1
  | 2 => regBlock2
  | 3 => regBlock3
  | 4 => regBlock4
  | 5 => regBlock5
  | 6 => regBlock6
  | 7 => regBlock7
  | 8 => regBlock8
  | 9 => regBlock9
  | 10 => regBlockA
  | 11 => regBlockB
  | 12 => regBlockC
  | 13 => regBlockD
  | 14 => regBlockE
  | _ => []

/-- The member of a family whose word at the byte offset `off` it is, with the number of that word in the register. -/
def famHit (m : FldFam) (off : Nat) : Option (Fld × Nat) :=
  let f0 := m.fld 0 0
  if off < f0.addr then none else
  let d := off - f0.addr
  let i := d / m.s1
  let j := (d % m.s1) / m.s2
  let r := (d % m.s1) % m.s2
  if i < m.n1 ∧ j < m.n2 ∧ (r = 0 ∨ (r = 4 ∧ 32 < f0.lo + f0.width)) then some (m.fld i j, r / 4) else none

/-- The fields of the BAR0 word at `off` (a multiple of 4), each with the number of the word of its register (0 the low
word, R10). -/
def fieldsAt (off : Nat) : List (Fld × Nat) := (regBlock (off / 0x10000)).filterMap (fun m => famHit m off)

end Sys2Proof.Machine
end

