-- ==== Sys2Proof/Machine/Tab.lean ====
section
/-! DEFINITION. Tables with natural-number keys: lookup, insertion and removal. Insertion keeps the keys strictly rising
when they are so before, so that equal tables are equal lists. -/

namespace Sys2Proof

/-- The entry of a key. -/
def Tab.find? {α : Type} : Tab α → Nat → Option α
  | [], _ => none
  | (k', v) :: r, k => if k' = k then some v else Tab.find? r k

/-- The entry of a key, or a value for a key that has none. -/
def Tab.getD {α : Type} (t : Tab α) (k : Nat) (dflt : α) : α := (Tab.find? t k).getD dflt

/-- The table with one entry set. -/
def Tab.put {α : Type} : Tab α → Nat → α → Tab α
  | [], k, v => [(k, v)]
  | (k', v') :: r, k, v =>
    if k < k' then (k, v) :: (k', v') :: r
    else if k = k' then (k, v) :: r
    else (k', v') :: Tab.put r k v

/-- The table without the entry of a key. -/
def Tab.del {α : Type} (t : Tab α) (k : Nat) : Tab α := t.filter (fun e => e.1 != k)

/-- The table with one entry changed. -/
def Tab.modify {α : Type} (t : Tab α) (k : Nat) (dflt : α) (f : α → α) : Tab α := t.put k (f (t.getD k dflt))

end Sys2Proof
end

