-- ==== Sys2Proof/Machine/State.lean ====
section
/-! DEFINITION. The state of the KY-4840 as plain data: the register file, the memories, the queues, buffers and hidden
state of each unit, and the queue of commands that are waiting. The state after reset is `State.reset`. -/

namespace Sys2Proof.Machine
open Sys2Proof

/-- Why the machine stops with a fault. No rule of the spec stops the part: a fault of an engine, a bank or a port is an
effect on the state. The type has the one reason that no meaning gives. -/
inductive Fault where
  /-- Raised by no meaning; safe. -/
  | unused
deriving DecidableEq, Repr

/-- Why a command is refused. -/
inductive Refusal where
  /-- The command has no meaning yet: raised by an arm of `exec` alone; safe. -/
  | notModelled (mnemonic : String)
deriving DecidableEq, Repr

/-- What the device sends to the outside world. -/
inductive Output where
  /-- An MSI-X message of vector `v` (R690). -/
  | msix (v addr data : Nat)
  /-- Pin GPp is driven to a level, by a latch, a trigger or a Stirrup machine (R99, R496). -/
  | pin (p : Nat) (level : Bool)
  /-- A frame leaves network port `p` (R233); `badFcs`: its FCS is inverted. -/
  | frame (p : Nat) (bytes : List Byte) (badFcs : Bool)
  /-- A frame leaves network port `p` on a ride path (R255); TX_ER from byte `txEr` on (R258). -/
  | ride (p : Nat) (bytes : List Byte) (txEr : Option Nat)
  /-- A part of a preempted frame leaves network port `p` (R243). -/
  | fragment (p : Nat) (bytes : List Byte) (last : Bool)
  /-- A verify or response mPacket of IEEE 802.3br leaves network port `p` (R242). -/
  | verify (p : Nat) (response : Bool)
  /-- A Harness frame leaves a lane; `cut`: it ends with an error block (R295). -/
  | harness (lane : Nat) (bytes : List Byte) (cut : Bool)
  /-- A Harness control block leaves a lane (R280). -/
  | hnCtl (lane kind value : Nat)
  /-- A CAN controller starts a frame from a transmit buffer (R345). -/
  | can (c : Nat) (f : CanFrame)
  /-- A character leaves a serial channel (R374). -/
  | serial (n : Nat) (b : Byte)
  /-- DE of a serial channel changes (R374). -/
  | de (n : Nat) (level : Bool)
  /-- A reply packet leaves a command port (R558). -/
  | reply (port : Nat) (bytes : List Byte)
  /-- A command packet is forwarded on a Harness lane (R315). -/
  | forward (lane : Nat) (bytes : List Byte)
  /-- LPI begins or ends on the MII or RGMII transmit side of port `p` (R251). -/
  | lpi (p : Nat) (on : Bool)
  /-- An MDIO frame (R269). -/
  | mdio (c45 : Bool) (op phy reg data : Nat)
  /-- The words that a QSPI transaction returns (R562). -/
  | qspi (words : List W32)
  /-- A sleep message: the ring, the lane (network 0), and what it says (R639 to R646). -/
  | sleepMsg (ring lane : Nat) (m : SleepMsg)
  /-- The wake signal of a device in network sleep on a network (R646). -/
  | wakeSignal (ring : Nat)
  /-- A transceiver sleep pin TRX_SLPn_N (R648). -/
  | trxSleep (n : Nat) (asserted : Bool)
  /-- The device is held in reset, or released (R702, R718). -/
  | reset (held : Bool)
  /-- The boundary scan drives the balls that it covers (R719). -/
  | boundary (levels : List Bool)
deriving DecidableEq, Repr

/-! ### Time (chapter 2) -/

/-- A time base (R72, R74, R79). `val` counts units of 2^-32 ns of the value of R22; the format of `TB_CTRL.FMT` decides
only how it is shown. `setPend`: the value that a write of SET took, until the tick at which it is loaded (R76, R109). -/
structure TimeBase where
  val     : Nat := 0
  incr    : Nat := 0x200000000
  setPend : Option Nat := none
deriving DecidableEq, Repr

/-- A timestamp record (R89): the words LO, HI, XHI of R109 and META. -/
structure TsRec where
  lo : Nat := 0
  hi : Nat := 0
  xhi : Nat := 0
  tag : Nat := 0
deriving DecidableEq, Repr

/-- A FIFO of timestamp records and the record last read (R97, R98, R115). -/
structure TsFifo where
  q    : List TsRec := []
  last : TsRec := {}
deriving DecidableEq, Repr

/-- A trigger unit (R100, R102): the number of the next pulse; START as the write of EN took it (R109), in units of 2^-32 ns; the
instant of the last assertion, in units of 250 ps of `now` (R78). -/
structure Trigger where
  k     : Nat := 0
  start : Nat := 0
  at4   : Nat := 0
deriving DecidableEq, Repr

/-- A pending calendar load (R105): from `RTC_SET_SEC`, or from time base `n` at the whole second `target`, in ns. -/
inductive RtcLoad where
  | sec
  | fromTb (n target : Nat)
deriving DecidableEq, Repr

/-- Chapter 2: time bases, FIFOs of records, triggers, the calendar clock. -/
structure TimeSt where
  tbs   : Tab TimeBase := []
  caps  : Tab TsFifo := []
  txts  : Tab TsFifo := []
  trgs  : Tab Trigger := []
  rtcPend : Option RtcLoad := none
  /-- A write of SNAP waits for the next tick (R113). -/
  snapPend : Bool := false
  /-- 32.768 kHz counts not yet whole, in units of 10^-16 counts (R104). -/
  rtcAcc  : Nat := 0
deriving DecidableEq, Repr

/-! ### Stride (chapter 1) -/

/-- A Lunge unit beside its registers (R53, R55 to R57); 40-bit patterns. `latched` is what the last UPDATE latched, with
the number of gait edges to its entry. -/
structure LungeSt where
  takenTarget : Nat := 0
  takenAccel  : Nat := 0
  takenStep   : Nat := 0
  latched     : Option (Nat × Nat × Nat × Nat) := none
  enPend      : Option Bool := none
deriving DecidableEq, Repr

/-- A value that port D read at the fence of base index `index` for a latch binding (R139): the phase in force for that edge (R50, a
`LATCH_PHASE` pattern), and the instant (`now`) at which the read has ended (R43). -/
structure LatchRead where
  index : Nat
  bind  : Nat
  value : Nat
  phase : Nat := 0
  ready : Nat := 0
deriving DecidableEq, Repr

/-- Chapter 1: the stride beside its registers. -/
structure StrideSt where
  /-- The full index of the last executed edge (R26). -/
  last      : Nat := 0
  /-- An edge has been executed since RUN was first accepted (R42). -/
  ran       : Bool := false
  /-- The index of the next edge. -/
  next      : Nat := 0
  stopPend  : Bool := false
  /-- The fence of `next` has acted, at this value in ns of the stride time base (R44). -/
  fenceAt   : Option Nat := none
  /-- The gaits whose finisher has run for `next` (R134). -/
  finished  : List Nat := []
  /-- The skipped edges of each gait before `next` (R41, R136). -/
  skips     : Tab Nat := []
  /-- The value in ns of the stride time base at the last completion of stride work (R67). -/
  lastWork  : Nat := 0
  /-- The latch values that wait for their instants (R48, R139), oldest fence first. -/
  latch     : List LatchRead := []
  lunges    : Tab LungeSt := []
  /-- The gaits that have counted an overrun, each with the base index of the stride it counts for (R32). -/
  ovr       : List (Nat × Nat) := []
deriving DecidableEq, Repr

/-! ### Process images (chapter 3) -/

/-- The producer of a region (R119). -/
inductive Producer where
  | team (t : Nat)
  | host
  | sampler
deriving DecidableEq, Repr

/-- A region beside its registers (R128 to R136): whether its WORKING buffer is open, the age of each item committed in
this stride, whether it has been published since activation, whether a producer was late, and the personality instance
that produces it. -/
structure Region where
  producer  : Producer := .host
  inst      : Option Nat := none
  opened    : Bool := true
  committed : Tab Nat := []
  published : Bool := false
  late      : Bool := false
  /-- The base index of its last publication (R147). -/
  pubIndex  : Nat := 0
deriving DecidableEq, Repr

/-- The run of a mapping rule in the stride of its gait (R144). -/
structure RuleRun where
  started   : Bool := false
  delivered : Bool := false
  /-- The stride index of the run, that late cells are judged by. -/
  stride    : Nat := 0
deriving DecidableEq, Repr

/-- Mapping cells on their way (R143, R736): the rule or mover list they come from, the destination, the item values as
bytes with their ages, and the stride they belong to. -/
structure MapCells where
  rule   : Option Nat
  src    : Nat
  region : Nat
  item   : Nat
  items  : List (List Byte × Nat)
  stride : Nat
  /-- The destination port of a SEND (R457): a team, or 12 for F38; `none` for the owner of the destination bank. -/
  port   : Option Nat := none
  /-- The engine whose mover sent them (R460). -/
  mover  : Option Nat := none
  /-- The number by which its cells in the fabric name it (the model's own), and whether a cell of it was dropped (R170). -/
  id     : Nat := 0
  lost   : Bool := false
deriving DecidableEq, Repr

/-- Chapter 3. -/
structure ImgSt where
  /-- The mapping rules of the active configuration, by number (R142). -/
  rules   : List MapRule := []
  regions : Tab Region := []
  runs    : Tab RuleRun := []
  cells   : List MapCells := []
deriving DecidableEq, Repr

/-! ### Orchard (chapter 10) -/

/-- Chapter 10, beside its registers. `ecc` marks words by the byte address of the word in `State.mem`. -/
structure OrchSt where
  ecc       : Tab Ecc := []
  /-- The scrubber's walk position of each bank, in words (R469). -/
  walk      : Tab Nat := []
  wrapped   : List Nat := []
  /-- Words waiting for write-back (R467). -/
  writeBack : List Nat := []
  /-- The target of each power transition in progress (R470). -/
  target    : Tab Nat := []
  /-- The banks inside their retention window (R632). -/
  window    : List Nat := []
deriving DecidableEq, Repr

/-! ### Stirrups, pins and Punnets (chapter 11) -/

/-- A Stirrup machine (R501), beside its registers. `drv` holds the level last driven at each block pin offset; `held` is
the instruction being executed and not complete, with the steps already done (R506, R513). -/
structure StirM where
  pc     : Nat := 0
  xw     : Nat := 0
  xfill  : Nat := 0
  rw     : Nat := 0
  rfill  : Nat := 0
  t      : Nat := 0
  p      : Nat := 0
  k      : Nat := 0
  oe     : Nat := 0
  drv    : Nat := 0
  tx     : List Nat := []
  rx     : List Nat := []
  lastRx : Nat := 0
  /-- STATE of R514. -/
  state  : Nat := 0
  held   : Option StirInstr := none
  steps  : Nat := 0
  /-- The edges of the gait awaited that had been delivered when the wait began (R509). -/
  waitFrom : Nat := 0
deriving DecidableEq, Repr

/-- An entry of a Punnet (R516, R519): up to 5 bytes as a number with their count, a gap marker, END. -/
structure PnEntry where
  data  : Nat := 0
  valid : Nat := 0
  last  : Bool := false
  gap   : Bool := false
deriving DecidableEq, Repr

/-- A Punnet beside its registers: entries (oldest first), assembly word with its byte count, open gap run, an item
accepted since the last boundary (R523), and the last entry read (R522). -/
structure Punnet where
  q     : List PnEntry := []
  asm   : Nat := 0
  fill  : Nat := 0
  run   : Bool := false
  items : Bool := false
  lastRead : Option PnEntry := none
  /-- The sides whose resync handshake is in progress (R524): 0 read, 1 write. -/
  resync : List Nat := []
deriving DecidableEq, Repr

/-- Chapter 11. `ext` is the level that external equipment gives each ball; `latchLv` and `latched` the level of each
output latch and whether it has latched. -/
structure IoSt where
  ext     : BitVec 96 := 0
  latchLv : BitVec 96 := 0
  latched : BitVec 96 := 0
  machs   : Tab StirM := []
  pns     : Tab Punnet := []
  /-- EDGE of R502. -/
  edge    : Nat := 0
  /-- The edges of each gait that have been delivered to the machines (R27, R509). -/
  edges   : Tab Nat := []
deriving DecidableEq, Repr

/-! ### The switch and the network ports (chapters 4 and 5) -/

/-- What an egress does to the tags of a copy (R231), and the R-TAG or redundancy tag to insert or remove there. -/
structure TagOps where
  op    : Nat := 0
  pcp   : Nat := 0
  vid   : Nat := 0
  rtag  : Option Nat := none
  strip : Bool := false
deriving DecidableEq, Repr

/-- What a transmit descriptor asks of the port (R90, R91, R94, R92). -/
structure TxAsk where
  launch  : Option Nat := none
  tsTag   : Option Nat := none
  oneStep : Option Nat := none
  corrAdd : Int := 0
  /-- The stride of the descriptor, when STRIDE is set (R33). -/
  strideGait : Option Nat := none
deriving DecidableEq, Repr

/-- A copy of a frame in the fabric (R162, R180): the bytes from the destination address to the FCS, the ageing stamp (R191), the BAD
flag of its last cell (R163, R177). Its cells are `FCell`s that name it by `id`. -/
structure Copy where
  /-- The number by which its cells name it (the model's own). -/
  id     : Nat := 0
  src    : Nat
  dst    : Nat
  cls    : Nat
  bytes  : List Byte
  stamp  : Nat := 0
  /-- Its last cell carries BAD (R177), or a cell of it got BAD from an uncorrectable error (`hit`, R163). -/
  bad    : Bool := false
  hit    : Bool := false
  /-- The settings in force when it entered (R200): its class is scheduled, has CT, the age limit in µs, and SCHED_BUDGET of the two ports. -/
  sched  : Bool := false
  ct     : Bool := false
  ageLim : Nat := 1000000
  budget : Nat × Nat := (0, 0)
  /-- The input rate in Mb/s, for R176. -/
  rate   : Nat := 0
  limit  : Nat := 0
  tags   : TagOps := {}
  ask    : TxAsk := {}
  tsRec  : TsRec := {}
  /-- The ingress time in units of 2^-32 ns, and the time base that stamped the frame (R92). -/
  inTime : Nat := 0
  inTb   : Nat := 0
  mirror : Bool := false
  mgmt   : Bool := false
  /-- The PRP or HSR sequence number to send it with (R248). -/
  red    : Option Nat := none
  /-- The destinations that F39 has still to serve (R182), each with its PRP or HSR sequence number. -/
  loop   : List (Nat × Option Nat) := []
  /-- A looped frame that F39 also sends to the mirror port (R182, R184). -/
  loopMirror : Bool := false
  /-- It is forwarded store-and-forward whatever R176 gives (R248). -/
  store  : Bool := false
  /-- It travels round an HSR ring with the tag it came with (R248). -/
  ring   : Bool := false
  /-- The fabric port at which the frame first entered (R189). -/
  origin : Nat := 0
  /-- VID and PCP given by classification (R229), in the layout of VLAN of R398. -/
  vlan   : Nat := 0
  /-- The frame was truncated at its ingress (R225). -/
  trunc  : Bool := false
deriving DecidableEq, Repr

/-- A cell in the fabric with the tag that the tag store keeps for it (R162): source port, destination, class, the first and last flags, the
count of valid bytes, the sequence number in its flow, TB0 at the ingress, BAD. `id` names the copy whose bytes `32 n` to `32 n + 31` it
carries, or the list of mapping cells it belongs to (`map`); `sched`: it travels as a scheduled cell (R195). A cell without valid bytes is the
last-cell tag that R170 writes for a frame that lost a cell. -/
structure FCell where
  id    : Nat
  n     : Nat
  src   : Nat
  dst   : Nat
  cls   : Nat := 0
  first : Bool := false
  last  : Bool := false
  valid : Nat := 32
  seq   : Nat := 0
  stamp : Nat := 0
  bad   : Bool := false
  sched : Bool := false
  map   : Bool := false
deriving DecidableEq, Repr

/-- A frame at a fabric input (R166, R181): the copies that the input writes of each cell, in the order of their writes; how many cells it
has; the slot count at which it entered and the slots that each cell takes to arrive; its bytes and class (R172); the next cell and the
next copy of that cell; for a frame that the store of F39 feeds, the copy there (R183). -/
structure FGroup where
  copies : List Nat
  cells  : Nat
  start  : Nat
  gap    : Nat
  len    : Nat := 0
  cls    : Nat := 0
  n      : Nat := 0
  q      : Nat := 0
  feed   : Option Nat := none
deriving DecidableEq, Repr

/-- A fabric input: the frame being written, the frames and the mapping cells that wait, the slice of its last write (40 for none: R166),
and for F39 the slots of its writes of the last 40 (R183). -/
structure FIn where
  cur   : Option FGroup := none
  wait  : List FGroup := []
  maps  : List FCell := []
  last  : Nat := 40
  recent : List Nat := []
deriving DecidableEq, Repr

/-- A frame whose transmission an output has started (R176): its bytes as they leave, with the FCS; the instant of the start
(`now`); the bytes already sent when it is preempted (R243); the timestamp record to make at its end (R90); whether it
may be preempted (R244). -/
structure TxFrame where
  copy : Copy
  wire : List Byte := []
  start : Nat := 0
  sent : Nat := 0
  tsRec : Option TsRec := none
  altered : Bool := false
deriving DecidableEq, Repr

/-- Chapter 4, beside its registers. -/
structure FabSt where
  /-- The instant (`now`) at which the fabric left reset (R161), and the slots since then that have been run. -/
  resetAt : Nat := 0
  slot    : Nat := 0
  nextId  : Nat := 0
  /-- The copies in the fabric, in the order in which they entered. -/
  copies  : List Copy := []
  ins     : Tab FIn := []
  /-- The cells in the slices of the centre buffer (R169), each with its slice, oldest first. -/
  slices  : List (Nat × FCell) := []
  /-- The output stores (R175): each cell with the slot count of its entry. -/
  stores  : Tab (List (Nat × FCell)) := []
  /-- The copy that each output has selected next (R173). -/
  sel     : Tab Nat := []
  /-- The frame in transmission at each output, and the preempted frame of each network port. -/
  tx      : Tab TxFrame := []
  paused  : Tab TxFrame := []
  /-- The sequence numbers of the flows (R162, R179): key (i × 40 + j) × 8 + c, and 12,800 + i × 40 + j for mapping cells. -/
  seqs    : Tab Nat := []
  /-- Scheduled cells of each port since the last base edge (R195). -/
  schedCells : Tab Nat := []
  /-- Credits of the deficit round robin (R172), by port and class. -/
  deficit : Tab Nat := []
  /-- Frames received on the BRIDLE channel (R187), with the network port of each. -/
  bridleRx : List (Nat × List Byte) := []
deriving DecidableEq, Repr

/-- A classification rule (R228). -/
structure ClassRule where
  dmac   : Nat := 0
  vid    : Nat := 0
  etype  : Nat := 0
  mDmac  : Bool := false
  mVid   : Bool := false
  mPcp   : Bool := false
  mEtype : Bool := false
  pcp    : Nat := 0
  cls    : Nat := 0
  tagOp  : Nat := 0
  group  : Bool := false
  dest   : Nat := 0
  maxLen : Nat := 0
  ports  : Nat := 0
  stream : Option Nat := none
  tagPcp : Nat := 0
  tagVid : Nat := 0
deriving DecidableEq, Repr

/-- The history of a recovery stream (R247): the last passed number and which of the numbers before it have passed. -/
structure Recov where
  last : Option Nat := none
  seen : List Nat := []
  /-- The ingress port of the last frame passed. -/
  port : Nat := 0
deriving DecidableEq, Repr

/-- The frame that a port reassembles from fragments (R242): its bytes so far, whether a receive error met one of them (R224), and the values
of the eight time bases and TB0 [31:0] at its timestamp point, in its first fragment (R87, R191). -/
structure Assy where
  bytes  : List Byte
  err    : Bool := false
  stamps : List Nat := []
  tb0    : Nat := 0
deriving DecidableEq, Repr

/-- A frame passing on a ride path (R255 to R258): the bytes received, the bytes taken (as sent), the declared length, whether it ends with
TX_ER for a late edit, the first byte with a receive error, and its timestamp point (R87, R259). -/
structure Ride where
  rx    : List Byte := []
  tx    : List Byte := []
  len   : Option Nat := none
  err   : Bool := false
  badAt : Option Nat := none
  point : Assy := { bytes := [] }
deriving DecidableEq, Repr

/-- A frame of a recovery stream, or of a pair (`key` 1,000 + k), that passed in fabric clock `slot`: its number (and for a pair its source
address), its port, and the numbers of its copies (R247, R248). -/
structure Fresh where
  key  : Nat
  num  : Nat × Nat
  slot : Nat
  port : Nat
  lo   : Nat
  hi   : Nat
deriving DecidableEq, Repr

/-- Chapter 5, beside its registers. `gcl` is keyed by port, list and index; `dup` holds source address and sequence
number of each pair's duplicate table, oldest first. -/
structure NetSt where
  rules  : List ClassRule := []
  gcl    : Tab Nat := []
  /-- The instant (`now`) from which a list that EN has started governs the gates of a port (R239). -/
  gateAt : Tab Nat := []
  /-- EEE: the instant at which the wake from LPI of a port is complete (R252). -/
  waking : Tab Nat := []
  recov  : Tab Recov := []
  dup    : Tab (List (Nat × Nat)) := []
  /-- HSR frames already forwarded on the ring: source address, and sequence number plus 65,536 times the direction. -/
  fwd    : Tab (List (Nat × Nat)) := []
  rides  : Tab Ride := []
  /-- The pending edits of the ride path of each ingress port, by byte index (R256). -/
  edits  : Tab (Tab Byte) := []
  /-- The byte most recently received at each offset of the ride window of port p, keyed by p × 256 + offset (R256). -/
  window : Tab Byte := []
  /-- The last store to each byte of a team's ride window, keyed by team × 256 + offset: its instant and its engine (R401). -/
  winBy : Tab (Nat × Nat) := []
  /-- The offset that marks RIDE_MARK per team (R400). -/
  rideMark : Tab Nat := []
  /-- The frame that each port reassembles (R242). -/
  assy   : Tab Assy := []
  /-- The frames of recovery streams and pairs that passed in the present fabric clock (R247, R248). -/
  fresh  : List Fresh := []
deriving DecidableEq, Repr

/-! ### Harness (chapter 6) -/

/-- A slot table entry (R290); `start` and `len` in units of 2 ns. -/
structure HnSlot where
  start : Nat := 0
  len   : Nat := 0
  owner : Nat := 0
  gait  : Nat := 0
  cmd   : Bool := false
  sleep : Bool := false
  phase : Nat := 0
deriving DecidableEq, Repr

/-- A subscribed publication (R288, R289): its region, and for each of its items the item of the region and the offset of the value
after the age bytes. -/
structure HnPub where
  pub    : Nat
  region : Nat
  items  : List (Nat × Nat)
deriving DecidableEq, Repr

/-- A Harness lane beside its registers: the partner's node ID is known (R279); sequence number, t1 and t2 of the exchange in
progress (R282), in units of 2^-16 ns; the last 16 measurements (R283); a DLY_T3 in this stride and in the three before it (R312); a
relayed frame seen in this stride, and the run of silent strides (R308); the run of echoes within g / 2 while isolated (R299); the
epoch of the member's latest frame (R684). -/
structure HnLane where
  known  : Bool := false
  seq    : Nat := 0
  t1     : Option Nat := none
  t2     : Option Nat := none
  delays  : List Nat := []
  offsets : List Int := []
  gotT3  : Bool := false
  t3Hist : Nat := 0
  saw    : Bool := false
  silent : Nat := 0
  good   : Nat := 0
  epoch  : Option Nat := none
deriving DecidableEq, Repr

/-- The arrival of a frame in a slot (R297): its offset in units of 250 ps, and whether it was cut. -/
structure HnArrival where
  off : Int
  cut : Bool
deriving DecidableEq, Repr

/-- A CMD section that has arrived (R314). -/
structure HnFrag where
  lane  : Nat
  src   : Nat
  first : Bool
  last  : Bool
  reply : Bool
  tag   : Nat
  off   : Nat
  bytes : List Byte
deriving DecidableEq, Repr

/-- A command forwarded on a lane that awaits its reply (R317, R625): a number that tells entries apart, the opcode and the request,
the lanes it went out on, the instant of its timeout, and whether it carries FORWARD_ALL (R624). -/
structure HnFwd where
  id    : Nat
  op    : Nat
  req   : CmdReq
  lanes : List Nat
  until' : Nat
  all   : Bool
deriving DecidableEq, Repr

/-- Chapter 6, beside its registers. `up` is the slot table of the cluster in which the device is a worker, `down` that of the cluster
of which it is the star; `star` is the node ID of the upper cluster's star; `cls` the class of the Harness personality. -/
structure HnSt where
  active    : Bool := false
  stopPend  : Bool := false
  up        : List HnSlot := []
  down      : List HnSlot := []
  pubs      : List HnPub := []
  star      : Nat := 0
  cls       : Nat := 0
  lanes     : Tab HnLane := []
  arrivals  : Tab HnArrival := []
  heard     : Bool := false
  deep      : Bool := false
  okStrides : Nat := 0
  fresh     : Bool := false
  claims    : List (Nat × List Byte) := []
  listenOver : Bool := false
  /-- The instant at which the listen time began (R302). -/
  listenAt  : Nat := 0
  /-- The last TABLE_HASH on the MONITOR lane was that of the device's own slot table (R311). -/
  hashOk    : Bool := false
  awaitStep : Bool := false
  runIn     : Nat := 0
  passing   : Option (Nat × Nat × List Byte) := none
  frags     : List HnFrag := []
  assy      : Tab (List (Nat × List Byte)) := []
  replies   : List (Nat × List Byte) := []
  fwd       : List HnFwd := []
  uplink    : Option Bool := none
  /-- The members whose relayed frames the device received: node ID, epoch of the latest frame, its base stride index (R683). -/
  heardFrom : Tab (Nat × Nat) := []
deriving DecidableEq, Repr

/-! ### CAN and serial (chapter 7) -/

/-- A received frame that waits for its store (R352): the frame, its receive buffer, the filter entry that took it, its
timestamp (R339). -/
structure CanStaged where
  frame : CanFrame
  buf   : Nat
  index : Nat
  ts    : Nat
  tag   : Nat
deriving DecidableEq, Repr

/-- A CAN controller beside its registers: the transmit buffer that last reached DONE (R345), the ACTIVE buffers with an ABORT seen
(R344), the staged frames, oldest first, whether bus-off recovery has been asked for (R357), and the buffer that lost arbitration last and stays
first in buffer order (R345). -/
structure CanSt where
  lastDone : Nat := 2
  first    : Option Nat := none
  aborts   : List Nat := []
  staged   : List CanStaged := []
  recover  : Bool := false
deriving DecidableEq, Repr

/-- A byte in a transmit FIFO (R373). -/
structure SerByte where
  data : Byte
  last : Bool
  timed : Bool
deriving DecidableEq, Repr

/-- A receive status record (R371): the word of `SER_RXSTAT` and the time of the first start bit in ns. -/
structure SerStat where
  word : Nat
  ts   : Nat
deriving DecidableEq, Repr

/-- A serial channel beside its registers: the transmit FIFO, the instant of the first start bit and the bytes of the frame being sent
that have left the FIFO, whether FLUSH_TX ended it, whether the rest of an underrun frame is discarded; the receive frame: its bytes,
time, flags; and the status FIFO with the last record's time. -/
structure SerSt where
  tx     : List SerByte := []
  start  : Nat := 0
  sent   : List SerByte := []
  flushed : Bool := false
  discard : Bool := false
  echo   : Nat := 0
  /-- LAG and GAP_ERR as they stood when the frame sent, or the receive frame, began (R367). -/
  lag    : Nat := 0
  gapErr : Nat := 0
  rx     : List Byte := []
  ts     : Nat := 0
  flags  : Nat := 0
  stats  : List SerStat := []
  lastTs : Nat := 0
deriving DecidableEq, Repr

/-! ### Engines (chapters 8 and 9) -/

/-- The stream position of a core (R454). -/
structure StreamPos where
  addr  : Nat := 0x10000000
  off   : Nat := 0
  order : Nat := 0
deriving DecidableEq, Repr

/-- The latched time of a core (R455): whole ns and fraction in 2^-16 ns, format, time base, STEP_GEN. -/
structure TimeLatch where
  ns   : Nat := 0
  frac : Nat := 0
  fmt  : Nat := 0
  tb   : Nat := 0
  gen  : Nat := 0
deriving DecidableEq, Repr

/-- The scatter-gather mover of an engine (R456): the list it runs, the next descriptor, the status. -/
structure MoverSt where
  busy : Bool := false
  addr : Nat := 0
  count : Nat := 0
  done : Nat := 0
  err  : Nat := 0
  at'  : Nat := 0
  errAddr : Nat := 0
deriving DecidableEq, Repr

/-- What a core waits for in an instruction that has issued and not completed: a read of ENG_WAIT into a register, sign-extended
or not (R395); TSWAIT on a time base (R455); SGRUN with its operands, or SGWAIT into a register (R456). -/
inductive ZWait where
  | events (rd : Nat) (sx : Bool)
  | time (n until' : Nat)
  | sgRun (addr count : Nat)
  | sgWait (rd : Nat)
deriving DecidableEq, Repr

/-- A store of a lockstep pair that waits for the comparison (R403): the instant at which it is released, the address of its instruction, the
address and the bytes stored, and whether the follower's retirement differs. -/
structure HeldStore where
  due   : Nat
  pc    : Nat
  addr  : Nat
  bytes : List Byte
  bad   : Bool := false
deriving DecidableEq, Repr

/-- An engine beside its registers, or the Bridle's core pair: general registers that are not 0 (40-bit patterns), the target
that follows the delay slot while the next instruction is one (R435), the event lines, ENG_EVMASK and ENG_WAIT_LIMIT
(R393, R394), ENG_EDGE, what it waits for, the instants of its entry (R383) and of its wait (R395), a HOST halt that waits for a delay slot (R406),
the gaits at whose next fence it is late (R385), transmit entries posted after a fence, with the base index of that fence and the
gaits that were closed (R33), ENG_RX_NEXT, the coprocessors,
and the state it had before DOZE (R629). -/
structure EngSt where
  g       : Tab Nat := []
  slot    : Option Nat := none
  evPend  : BitVec 32 := 0
  evMask  : Nat := 0
  limit   : Nat := 0
  edge    : Nat := 0
  first   : Bool := false
  wait    : Option ZWait := none
  entryAt : Nat := 0
  haltReq : Bool := false
  waitAt  : Nat := 0
  lateFor : List Nat := []
  txLate  : Tab (Nat × List Nat) := []
  rxNext  : Nat := 0
  stream  : StreamPos := {}
  latch   : TimeLatch := {}
  sg      : MoverSt := {}
  sha     : List W32 := []
  saved   : Nat := 1
  /-- The stores of a pair's leader that are not released, oldest first; at most 4 (R403). -/
  held    : List HeldStore := []
  /-- The instant of the latest scratchpad store, and the word offsets stored to at it (R392). -/
  scrAt   : Nat := 0
  scr     : List Nat := []
  /-- Event lines asserted while the engine dozes (R630). -/
  dozed   : BitVec 32 := 0
deriving DecidableEq, Repr

/-! ### The Bridle, the host ports, update, power (chapters 13 to 17) -/

/-- What a command that the Bridle executes waits for before its reply (R597, R598, R601, R602, R605, R611, R617). -/
inductive CmdWait where
  | halted (e : Nat)
  | lastEdge
  | bank (n st : Nat)
  | step (n gen : Nat)
  | cable (p : Nat)
  | swap
  | domain (d st : Nat)
  | round (k : Nat)
deriving DecidableEq, Repr

/-- A command that the Bridle has taken and not answered (R559). -/
structure CmdTask where
  op   : Nat
  req  : CmdReq
  wait : Option CmdWait := none
deriving DecidableEq, Repr

/-- The Bridle beside its registers: the commands taken, oldest first (R559); the packet being put together on MB0 and MB1, with its
posts (R577); the reply fragments that wait for MB0 and MB1 (R577); the packets received on HARNESS, as opcode and request (R314);
the number of the next forwarding entry; the nonce and the signed result kept (R670); a restart is due once
the reply is sent (R594, R682). -/
structure BridleSt where
  tasks : List CmdTask := []
  asm   : Tab (Nat × List Byte) := []
  out   : Tab (List (List Byte)) := []
  hnRx  : List (Nat × CmdReq) := []
  nextId : Nat := 0
  kept  : Option (List Byte × List Byte) := none
  restart : Bool := false
deriving DecidableEq, Repr

/-- A direction of a mailbox beside its registers: the instant of the last GO, whether the timeout runs, whether the sender was reset
while the message stayed posted (R575), whether the other direction was posted at GO (R577), whether the doorbell waits for the
receiver's domain (R572). -/
structure MbDir where
  goAt    : Nat := 0
  timing  : Bool := false
  orphan  : Bool := false
  crossed : Bool := false
  waits   : Bool := false
deriving DecidableEq, Repr

/-- The MRAM configuration record (R657) as the device runs by it; the defaults are those of a malformed record (R658).
`classes` holds the class codes of PCIE, QSPI, MGMT and HARNESS (R548). -/
structure DevRecord where
  nodeId    : Nat := 0
  classes   : List Nat := [2, 2, 0, 0]
  mgmtClass : Nat := 0
  mgmtVid   : Nat := 0
  mgmtPorts : Nat := 0
  mac       : Nat := 0
  ownTimeout : Nat := 10000
  pcieIds   : Nat := 0
  mgmtModes : List Nat := []
deriving DecidableEq, Repr

/-- Chapter 13, beside its registers: the record, the mailboxes (key 2n + d), the instant at which ownership lapses, and the flags
of the quad-SPI target (R564). -/
structure HostSt where
  record : DevRecord := {}
  mbs    : Tab MbDir := []
  lapse  : Nat := 0
  qRetry : Bool := false
  qError : Bool := false
deriving DecidableEq, Repr

/-- A scheduled frame of a configuration, for the check of R194: its bytes, its ingress and egress fabric ports, and how often a base
stride carries it. -/
structure SchedFrame where
  len   : Nat
  src   : Nat
  dsts  : List Nat
  times : Nat := 1
deriving DecidableEq, Repr

/-- A configuration as activation loads it (R611, R673): the register fields that activation sets, as field keys and values; the owner
of each bank that it uses (R487); the process image regions with their producers and the items' initial values (R149); the items that
an instance produces, by its number, 64 for the host window (R142), and the SAFETY items (R542); the records of the mapping rules (R145)
and of the classification rules (R228); the Harness slot tables (R290), publications, upper star, class and the blocks that each slot's
frame takes (key 4,096 + i for slot i of the lower cluster); the records of the personality instances (R530), the instances with an
option that R533 does not support, and those whose exclusive port a rule, group, mirror or pair of another instance names, or with a frame that
matches the rules of two instances (R537: no record whose bytes the spec gives says which instance it belongs to); the scheduled frames that a base stride carries (R194) and the declared port A accesses of each
bank (R34); the numbers of sample bindings, latch bindings, streams, pairs and routes; the activation details of records that hold a
reserved value, with their areas; the contents written into Orchard (item directories, filter lists); the program of each engine that
changes. `malformed`: a record of the section breaks its layout. -/
structure Configuration where
  regs      : List (Nat × Nat) := []
  banks     : List (Nat × Nat) := []
  regions   : Tab Region := []
  initial   : List (Nat × Nat × List Byte) := []
  made      : List (Nat × Nat × Nat) := []
  safety    : List (Nat × Nat) := []
  ruleRecs  : List (List Byte) := []
  classRecs : List (List Byte) := []
  upRecs    : List (List Byte) := []
  downRecs  : List (List Byte) := []
  pubs      : List HnPub := []
  star      : Nat := 0
  hnClass   : Nat := 0
  blocks    : Tab Nat := []
  instRecs  : List (List Byte) := []
  options   : List Nat := []
  conflicts : List Nat := []
  frames    : List SchedFrame := []
  accesses  : List (Nat × Nat) := []
  nSample   : Nat := 0
  nLatch    : Nat := 0
  nStream   : Nat := 0
  nPair     : Nat := 0
  nRoute    : Nat := 0
  reserved  : List Nat := []
  memory    : List (Nat × List Byte) := []
  programs  : List (Nat × List Byte) := []
  malformed : Bool := false
deriving DecidableEq, Repr

/-- What activation takes from an image beside its configuration (R672, R673): its version and epochs, the signed bytes of its manifest,
its BRIDLE section, the record of its DEVICE_RECORD section, its configuration section and CONFIG_HASH. -/
structure ImageInfo where
  version : Nat := 0
  compat  : Nat := 0
  hn      : Nat := 0
  minPeer : Nat := 0
  signed  : List Byte := []
  bridle  : List Byte := []
  record  : Option (List Byte) := none
  config  : Option (List Byte) := none
  cfgHash : List Byte := []
deriving DecidableEq, Repr

/-- An update session (R607): its port, the declared size, the bytes accepted, and whether the image has been verified. -/
structure UpdSession where
  port  : Nat
  size  : Nat
  got   : Nat := 0
  verified : Bool := false
deriving DecidableEq, Repr

/-- Chapter 16, beside its registers: the personality instances of the active configuration (R530), whether one is active, its hash;
the instances held and the holds and releases that wait for a gait edge (R606); the update session and the journal (0 neither, 1
RECEIVING, 2 VERIFIED: R677); the identity region: serial number, certificate record, customer root, device key present, the MRAM
configuration record; what the running image was
activated with; an activation that waits for its swap edge (R611). -/
structure UpdSt where
  insts   : List Inst := []
  active  : Bool := false
  cfgHash : List Byte := []
  held    : List Nat := []
  holdReq : List (Nat × Bool) := []
  session : Option UpdSession := none
  journal : Nat := 0
  serial  : List Byte := []
  cert    : List Byte := []
  root    : List Byte := []
  hasKey  : Bool := false
  record  : List Byte := []
  run     : ImageInfo := {}
  swap    : Option (Configuration × ImageInfo) := none
deriving DecidableEq, Repr

/-- A sleep network beside its registers (R635 to R646): the lane or position of the visit in progress, the lanes still to visit, the
lane and round of the TOKEN that this star answers, the first forced node; whether a TOKEN that the node has answered is outstanding;
whether a wake request waits for the next visit; the sleep entry (base index, or instant); the instant from which SLP_AWAKE counts;
whether this node has still to send its WAKE message. -/
structure SleepNet where
  visit  : Option Nat := none
  todo   : List Nat := []
  token  : Option Nat := none
  forced : Option Nat := none
  tokenOut : Bool := false
  wakeReq : Bool := false
  entry  : Nat := 0
  since  : Nat := 0
  wakeMsg : Option Nat := none
deriving DecidableEq, Repr

/-- Chapter 15, beside its registers: the domains in transition with the state they go to; the TEAM domains to wake from DOZE; the
networks; CAN sleep frames that wait for TXB2; the device is in network sleep; the sleep-watch runs, and has expired; the levels of
TRX_SLPn_N that the pins show (bit n: asserted). -/
structure PwrSt where
  moves   : Tab Nat := []
  dozeWake : List Nat := []
  nets    : Tab SleepNet := []
  outbox  : List (Nat × SleepMsg) := []
  asleep  : Bool := false
  watch   : Bool := false
  failsafe : Bool := false
  trx     : Nat := 0
deriving DecidableEq, Repr

/-- Chapter 17, beside its registers: whether the device is held in reset, by an expired Pip check, TEST_EN, or a lost 25 MHz
reference (R678, R702, R718); whether start-up has to run and is one with the scope of power-on; the thermal shutdown and the armed
warning (R695, R698); the instant of the warm reset of a command (R594); the instant of the last power-on (R591). -/
structure SysSt where
  stopped : Bool := false
  test    : Bool := false
  lost    : List Nat := []
  starting : Bool := true
  cold    : Bool := true
  hot     : Bool := false
  armed   : Bool := false
  warmAt  : Option Nat := none
  porAt   : Nat := 0
  /-- A start-up with a RUN strap enables the ports and writes RUN once its activation is made (R706). -/
  runDue  : Bool := false
deriving DecidableEq, Repr

/-- The states of the TAP controller (IEEE 1149.1, R719). -/
inductive TapState where
  | testLogicReset | runTest | selectDr | captureDr | shiftDr | exit1Dr | pauseDr | exit2Dr | updateDr
  | selectIr | captureIr | shiftIr | exit1Ir | pauseIr | exit2Ir | updateIr
deriving DecidableEq, Repr

/-- What an instruction of the TAP selects (R659, R719): the boundary scan, to sample the balls or to drive them; debug of engines and registers, or
of everything. Without one of these the bypass register is selected. -/
inductive TapFn where
  | sample | extest | debugUnits | debugFull
deriving DecidableEq, Repr

/-- The JTAG port (R719): the levels that external equipment gives TCK, TMS, TDI and TRST_N (pulled down, R717), TCK as it was at the last tick, the
controller, the instruction's bits as they are shifted, the function selected, the data register's bits as they are shifted, the boundary cells'
held values, and the level of TDO (none: high impedance). -/
structure TapSt where
  tck    : Bool := false
  tms    : Bool := true
  tdi    : Bool := true
  trstN  : Bool := false
  seen   : Bool := false
  state  : TapState := .testLogicReset
  ir     : List Bool := []
  fn     : Option TapFn := none
  dr     : List Bool := []
  hold   : List Bool := []
  tdo    : Option Bool := none
deriving DecidableEq, Repr

/-! ### The whole machine -/

/-- Everything the machine holds but its byte memories and the queue of commands. -/
structure Dev where
  /-- The register file: the value of each field that differs from its reset value (key: `Fld.key`). -/
  regs    : Tab Nat := []
  /-- The read shadows (R10, R109, R521), keyed by reader and BAR0 offset of the shadowed word. -/
  shadows : Tab Nat := []
  /-- Nanoseconds since the release of POR_N (the model's own). -/
  now     : Nat := 0
  /-- The argument of the next free value (the model's own, log entry 1). -/
  free    : Nat := 0
  /-- What the device sent to the outside, oldest first (the model's own). -/
  out     : List Output := []
  /-- The words that the last read returned (the model's own). -/
  rdata   : List W32 := []
  time    : TimeSt := {}
  stride  : StrideSt := {}
  img     : ImgSt := {}
  orch    : OrchSt := {}
  io      : IoSt := {}
  fab     : FabSt := {}
  net     : NetSt := {}
  hn      : HnSt := {}
  can     : Tab CanSt := []
  ser     : Tab SerSt := []
  eng     : Tab EngSt := []
  bridle  : BridleSt := {}
  host    : HostSt := {}
  upd     : UpdSt := {}
  pwr     : PwrSt := {}
  sys     : SysSt := {}
  tap     : TapSt := {}
deriving DecidableEq, Repr

/-- The state of the KY-4840: the device, its byte memories (Machine/Mem.lean says which addresses), and the queue of
commands that are waiting, first in, first out. -/
structure State where
  dev     : Dev := {}
  mem     : List Host.Cell := []
  pending : List Instr := []
deriving DecidableEq, Repr

/-- The machine right after reset: every field at its reset value, nothing listed in memory, no command waiting. -/
def State.reset : State := {}

end Sys2Proof.Machine
end

