-- ==== Sys2Proof/Machine/RegFile.lean ====
section
/-! DEFINITION. The register file: reading and writing fields, counters, and the whole words of the register map by the
access codes (R6, R8, R10, R61). Registers with behaviour of their own are in the file of their unit. -/

namespace Sys2Proof.Machine
open Sys2Proof

/-- A signed number from a `w`-bit pattern. -/
def toSigned (w v : Nat) : Int := if v % 2 ^ w < 2 ^ (w - 1) then (v % 2 ^ w : Nat) else (v % 2 ^ w : Nat) - (2 ^ w : Nat)

/-- The `w`-bit pattern of a signed number. -/
def ofSigned (w : Nat) (i : Int) : Nat := (i % (2 ^ w : Nat)).toNat

/-- Bits `lo` to `lo + w - 1` of a number. -/
def bits (v lo w : Nat) : Nat := (v >>> lo) % 2 ^ w

/-- The value of a field. -/
def Dev.get (d : Dev) (f : Fld) : Nat := ((Tab.find? d.regs f.key).getD f.reset) % 2 ^ f.width

/-- The device with a field set. -/
def Dev.set (d : Dev) (f : Fld) (v : Nat) : Dev := { d with regs := d.regs.put f.key (v % 2 ^ f.width) }

/-- Whether a one-bit field reads 1. -/
def Dev.on (d : Dev) (f : Fld) : Bool := d.get f != 0

/-- A counter field incremented; it wraps. -/
def Dev.inc (d : Dev) (f : Fld) : Dev := d.set f (d.get f + 1)

/-- A counter field raised by `n`; it saturates. -/
def Dev.addSat (d : Dev) (f : Fld) (n : Nat) : Dev := d.set f (min (d.get f + n) (2 ^ f.width - 1))

/-- A list of fields set to 0. -/
def Dev.clear (d : Dev) (fs : List Fld) : Dev := fs.foldl (fun d f => d.set f 0) d

/-- A field's value as a word of its register shows it: the part in word `k` of a field wider than a word, with the copies of
the top bit where R61 asks for them. -/
def fldPart (f : Fld) (v k : Nat) : Nat :=
  let w := if f.sext && v.testBit (f.width - 1) then v + (2 ^ 64 - 2 ^ f.width) else v
  ((w <<< f.lo) >>> (32 * k)) % 2 ^ 32

/-- The word at a BAR0 offset as its fields hold it; `wo` fields read 0 (R6). -/
def Dev.word (d : Dev) (off : Nat) : Nat :=
  (fieldsAt off).foldl (fun a (f, k) => if f.acc = .wo then a else a ||| fldPart f (d.get f) k) 0

/-- The bits of the word at an offset that some field covers; a field with copies of its top bit covers its whole high word
(R61), one of 39 bits all of it but bit 39, a write of 1 to which is one to a reserved bit (R71; DESIGN CHOICE, log entry 181). -/
def coverMask (off : Nat) : Nat :=
  (fieldsAt off).foldl (fun a (f, k) =>
    a ||| (if f.sext && k == 1 then 2 ^ 32 - 1 else if f.width = 39 ∧ k = 1 then 2 ^ 32 - 1 - 2 ^ 7 else (((2 ^ f.width - 1) <<< f.lo) >>> (32 * k)) % 2 ^ 32)) 0

/-- Whether a value is legal for a field (R8): within the range of its register table, and not the value of R60. -/
def legal (f : Fld) (v : Nat) : Bool :=
  decide (f.vmin ≤ v ∧ v ≤ f.vmax) && !(f.sext && f.addr % 0x40 == 8 && f.addr / 0x1000 == 0x60 && v == 2 ^ 39)

/-- The new value of a field when word `k` of its register is written with `v`. -/
def fldMerge (f : Fld) (old v k : Nat) : Nat :=
  if f.lo + f.width ≤ 32 then bits v f.lo f.width
  else if k = 0 then (old / 2 ^ (32 - f.lo) * 2 ^ (32 - f.lo) + (v >>> f.lo)) % 2 ^ f.width
  else (old % 2 ^ (32 - f.lo) + v * 2 ^ (32 - f.lo)) % 2 ^ f.width

/-- One field under a word write by its access code (R6); the flag says whether a reserved value was written (R8). A word of a field wider than
a word, such as TB_INCR, is judged by the value that it makes with the other word (DESIGN CHOICE, log entry 185). -/
def Dev.fldWrite (d : Dev) (f : Fld) (k v : Nat) : Dev × Bool :=
  let x := fldMerge f (d.get f) v k
  match f.acc with
  | .rd | .wo => (d, false)
  | .rw => if legal f x then (d.set f x, false) else (d, true)
  | .w1c => (d.set f (d.get f &&& (2 ^ f.width - 1 - bits v f.lo f.width)), false)
  | .w1s => (d.set f (d.get f ||| bits v f.lo f.width), false)

/-- A word write by the access codes alone (R6, R8). The flag says whether it sets `SYS_DIAG.REG_RSV_WRITE`: a reserved
value, or a 1 in a bit that no field covers, such as bits 63:48 of RTC_SET_SEC (DESIGN CHOICE, log entry 186). -/
def Dev.wordWrite (d : Dev) (off v : Nat) : Dev × Bool :=
  let r := (fieldsAt off).foldl (fun (a : Dev × Bool) (e : Fld × Nat) =>
    let b := a.1.fldWrite e.1 e.2 v
    (b.1, a.2 || b.2)) (d, false)
  (r.1, r.2 || (v &&& (2 ^ 32 - 1 - coverMask off)) != 0)

/-- Whether the field with this key survives WARM_N (R7). -/
def keepKey (key : Nat) : Bool :=
  (fieldsAt (key / 32)).any (fun e => e.1.key == key && e.1.keep)

end Sys2Proof.Machine
end

