-- ==== Sys2Proof/Machine/Events.lean ====
section
/-! DEFINITION. The event block (R688 to R695): raising a source, its delivery, pending sources, interrupt pins, MSI-X;
the enabled causes of the units; and the reserved write of R8. -/

namespace Sys2Proof.Machine
open Sys2Proof

/-- Adds something to what the device sends out. -/
def Dev.emit (d : Dev) (o : Output) : Dev := { d with out := d.out ++ [o] }

/-- The status bit of event source `i`. -/
def Dev.evStatus (d : Dev) (i : Nat) : Bool := (d.get (R.EV_STATUS (i / 32))).testBit (i % 32)

/-- Whether source `i` is pending (R690). -/
def Dev.evPending (d : Dev) (i : Nat) : Bool := d.evStatus i && d.on (R.EV_CFG_EN i)

/-- `EV_PENDING[w]` (R711). -/
def Dev.evPendingWord (d : Dev) (w : Nat) : Nat :=
  (List.range 32).foldl (fun a j => if d.evPending (32 * w + j) then a + 2 ^ j else a) 0

/-- Whether IRQn_N is asserted: a source routed to it is pending (R690). -/
def Dev.irqOn (d : Dev) (n : Nat) : Bool :=
  (List.range 256).any (fun i => d.evPending i && d.get (R.EV_CFG_KIND i) == 1 && d.get (R.EV_CFG_TARGET i) == n)

/-- `EV_IRQ_STATUS` (R711). -/
def Dev.irqStatus (d : Dev) : Nat :=
  (List.range 4).foldl (fun a n => if d.irqOn n then a + 2 ^ n else a) 0

/-- The engine `e`. -/
def Dev.engine (d : Dev) (e : Nat) : EngSt := d.eng.getD e {}

/-- The device with engine `e` changed. -/
def Dev.setEngine (d : Dev) (e : Nat) (x : EngSt) : Dev := { d with eng := d.eng.put e x }

/-- A wake of TEAM domain `t` from DOZE is due (R630). -/
def Dev.dozeWakeFor (d : Dev) (t : Nat) : Dev :=
  if d.pwr.dozeWake.contains t then d else { d with pwr := { d.pwr with dozeWake := d.pwr.dozeWake ++ [t] } }

/-- Latches an event line of an engine in `ENG_EVPEND` (R394). In DOZE the line is latched as the domain reaches ON; a line set in
`ENG_EVMASK` wakes the TEAM domain (R630). -/
def Dev.latchLine (d : Dev) (e line : Nat) : Dev :=
  let x := d.engine e
  let m := BitVec.ofNat 32 (2 ^ line)
  if d.get (R.ENG_STATUS_STATE e) = 7 then
    let d1 := d.setEngine e { x with dozed := x.dozed ||| m }
    if x.evMask.testBit line then d1.dozeWakeFor (e / 12) else d1
  else d.setEngine e { x with evPend := x.evPend ||| m }

/-- One MSI-X message of vector `v`, or its pending bit while it is masked (R690, R693). -/
def Dev.msix (d : Dev) (v : Nat) : Dev :=
  if d.on (R.MSIX_CTRL_MASK v) then d.set R.MSIX_PBA (d.get R.MSIX_PBA ||| 2 ^ v)
  else d.emit (.msix v (d.get (R.MSIX_ADDR_LO v) + 2 ^ 32 * d.get (R.MSIX_ADDR_HI v)) (d.get (R.MSIX_DATA v)))

/-- The delivery of source `i` at the moment it becomes pending (R690). A pin is a level that follows from the pending
sources, so KIND 1 does nothing more here. -/
def Dev.deliver (d : Dev) (i : Nat) : Dev :=
  match d.get (R.EV_CFG_KIND i) with
  | 0 => d.msix (d.get (R.EV_CFG_TARGET i))
  | 2 => d.latchLine (d.get (R.EV_CFG_ENGINE i)) (16 + d.get (R.EV_CFG_TARGET i))
  | _ => d

/-- A source raises its event (R689, R690). -/
def Dev.raise (d : Dev) (i : Nat) : Dev :=
  let was := d.evPending i
  let d1 := (d.set (R.EV_STATUS (i / 32)) (d.get (R.EV_STATUS (i / 32)) ||| 2 ^ (i % 32))).inc (R.EV_CFG_CNT i)
  if d1.evPending i && !was then d1.deliver i else d1

/-- A cause sets its flag and raises the source when it is enabled (R689). -/
def Dev.cause (d : Dev) (f : Fld) (enabled : Bool) (ev : Nat) : Dev :=
  let d1 := d.set f 1
  if enabled then d1.raise ev else d1

/-- The agent code of a writer (R489, R475). -/
def agentOf : Writer → Nat
  | .pcie | .qspi => 12
  | .engine e => e.val / 4
  | .bridle => 14

/-- The MAP code of `SYS_RSV_INFO` for a register write by this writer (R710). -/
def mapOf : Writer → Nat
  | .engine _ => 2
  | _ => 0

/-- A write that sets `SYS_DIAG.REG_RSV_WRITE`: the flag, its record when the flag was 0 (R697), and EV253 (R695). -/
def Dev.rsvWriteMap (d : Dev) (agent map off : Nat) : Dev :=
  let d1 := if d.on R.SYS_DIAG_REG_RSV_WRITE then d else
    ((d.set R.SYS_RSV_INFO_MAP map).set R.SYS_RSV_INFO_AGENT agent).set R.SYS_RSV_INFO_OFFSET off
  d1.cause R.SYS_DIAG_REG_RSV_WRITE true 253

/-- A BAR0 register write that sets `SYS_DIAG.REG_RSV_WRITE` (R8, R695, R697). -/
def Dev.rsvWrite (d : Dev) (w : Writer) (off : Nat) : Dev := d.rsvWriteMap (agentOf w) (mapOf w) off

/-- `rsvWrite` under a condition. -/
def Dev.rsvIf (d : Dev) (c : Bool) (w : Writer) (off : Nat) : Dev := if c then d.rsvWrite w off else d

/-- The system ECC event (R695): the source code of `SYS_DIAG.ECC_SRC`, the flag and EV251. -/
def Dev.eccEvent (d : Dev) (src : Nat) : Dev :=
  (d.set R.SYS_DIAG_ECC_SRC src).cause R.SYS_DIAG_ECC_UNCORR true 251

/-- Sources that have become pending through a write are delivered, in rising order; those routed to one MSI-X vector send
one message (R691, R693). `was` tells which sources were pending before. -/
def Dev.deliverNew (d : Dev) (was : Dev) (srcs : List Nat) : Dev :=
  (srcs.foldl (fun (a : Dev × List Nat) i =>
    if a.1.evPending i && !was.evPending i then
      let v := a.1.get (R.EV_CFG_TARGET i)
      if a.1.get (R.EV_CFG_KIND i) == 0 then
        (if a.2.contains v then a else (a.1.msix v, v :: a.2))
      else (a.1.deliver i, a.2)
    else a) (d, [])).1

/-- The reserved values of a whole `EV_CFG[i]` write (R692). A bound mailbox's engine line is reserved too (R576). -/
def Dev.evCfgReserved (d : Dev) (v : Nat) : Bool :=
  let kind := bits v 13 2
  let eng := bits v 4 6
  let tgt := bits v 0 4
  kind == 3 || (kind == 1 && tgt ≥ 4) ||
  (kind == 2 && (eng ≥ 48 || (List.range 14).any (fun k =>
    d.on (R.MB_CFG_VALID (k + 2)) && d.get (R.MB_CFG_ENGINE (k + 2)) == eng && d.get (R.MB_CFG_LINE (k + 2)) == 16 + tgt)))

/-- A write of `EV_CFG[i]` (R692): dropped as a whole for a reserved value; a source that becomes pending is delivered. -/
def Dev.evCfgWrite (d : Dev) (w : Writer) (i v : Nat) : Dev :=
  let off := 0x30000 + i * 4
  if d.evCfgReserved v then d.rsvWrite w off else
  let d1 := (((d.set (R.EV_CFG_EN i) (bits v 15 1)).set (R.EV_CFG_KIND i) (bits v 13 2)).set
    (R.EV_CFG_ENGINE i) (bits v 4 6)).set (R.EV_CFG_TARGET i) (bits v 0 4)
  (d1.deliverNew d [i]).rsvIf (bits v 10 3 != 0) w off

/-- CLR_CNT of the event block (R711). -/
def Dev.evClrCnt (d : Dev) : Dev := d.clear ((List.range 256).map R.EV_CFG_CNT)

/-- A write of the vector control word of an MSI-X entry: on unmask a waiting message is sent (R690, R693). -/
def Dev.msixCtrlWrite (d : Dev) (v word : Nat) : Dev :=
  let d1 := d.set (R.MSIX_CTRL_MASK v) (word % 2)
  if word % 2 = 0 ∧ (d1.get R.MSIX_PBA).testBit v then
    (d1.set R.MSIX_PBA (d1.get R.MSIX_PBA &&& (2 ^ 16 - 1 - 2 ^ v))).msix v
  else d1

end Sys2Proof.Machine
end

