-- ==== Sys2Proof/Machine/Time.lean ====
section
/-! DEFINITION. Time bases, timestamps, captures, triggers and the calendar clock (chapter 2). -/

namespace Sys2Proof.Machine
open Sys2Proof

/-- Time base `n`. -/
def Dev.tb (d : Dev) (n : Nat) : TimeBase := d.time.tbs.getD n {}

/-- The device with time base `n` changed. -/
def Dev.setTb (d : Dev) (n : Nat) (x : TimeBase) : Dev := { d with time := { d.time with tbs := d.time.tbs.put n x } }

/-- Whether time base `n` is in PTP format (R74). -/
def Dev.ptp (d : Dev) (n : Nat) : Bool := d.on (R.TB_CTRL_FMT n)

/-- The wrap of a value of time base `n` (R74), in units of 2^-32 ns. -/
def Dev.tbWrap (d : Dev) (n v : Nat) : Nat :=
  v % (if d.ptp n then 2 ^ 48 * 1000000000 * 2 ^ 32 else 2 ^ 64 * 2 ^ 32)

/-- The value of R22 of time base `n`, in whole ns. -/
def Dev.tbNs (d : Dev) (n : Nat) : Nat := (d.tb n).val / 2 ^ 32 % 2 ^ 64

/-- The words LO, HI and XHI of a value (R109), `v` in units of 2^-32 ns. -/
def timeWords (ptp : Bool) (v : Nat) : Nat × Nat × Nat :=
  let ns := v / 2 ^ 32
  let frac := v / 2 ^ 16 % 2 ^ 16
  if ptp then
    (ns % 1000000000, ns / 1000000000 % 2 ^ 32, frac * 2 ^ 16 + ns / 1000000000 / 2 ^ 32 % 2 ^ 16)
  else (ns % 2 ^ 32, ns / 2 ^ 32 % 2 ^ 32, frac * 2 ^ 16)

/-- The value that the words LO, HI and XHI spell (R109), in units of 2^-32 ns. -/
def timeValue (ptp : Bool) (lo hi xhi : Nat) : Nat :=
  let frac := xhi / 2 ^ 16 % 2 ^ 16
  let ns := if ptp then (hi + xhi % 2 ^ 16 * 2 ^ 32) * 1000000000 + lo % 2 ^ 30 else hi * 2 ^ 32 + lo
  ns * 2 ^ 32 + frac * 2 ^ 16

/-- The calendar clock after `ns` nanoseconds (R104): counts of 32,768 per second, trimmed in steps of 0.1 ppm. -/
def Dev.rtcAdvance (d : Dev) (ns : Nat) : Dev :=
  let rate := (10000000 + toSigned 16 (d.get R.RTC_TRIM)).toNat
  let acc := d.time.rtcAcc + ns * 32768 * rate
  let counts := acc / 10000000000000000
  let sub := d.get R.RTC_SUBSEC + counts
  let d1 := { d with time := { d.time with rtcAcc := acc % 10000000000000000 } }
  if counts = 0 then d1 else
  (d1.set R.RTC_SUBSEC (sub % 32768)).set R.RTC_SEC (d.get R.RTC_SEC + sub / 32768)

/-- The value of `TB_SET[n]`. -/
def Dev.tbSetValue (d : Dev) (n : Nat) : Nat :=
  timeValue (d.ptp n) (d.get (R.TB_SET_LO n)) (d.get (R.TB_SET_HI n)) (d.get (R.TB_SET_XHI n))

/-- A calendar load that waits for the next whole second of time base `n` follows a value that is loaded or stepped (R105): a second that
is passed so is taken at that tick, and a second still to come is the one after the new value. -/
def Dev.rtcFollow (d : Dev) (n old : Nat) : Dev :=
  match d.time.rtcPend with
  | some (.fromTb m target) =>
    let v := (d.tb n).val / 2 ^ 32
    if m ≠ n ∨ target ≤ old / 2 ^ 32 then d
    else { d with time := { d.time with rtcPend := some (.fromTb m (v / 1000000000 * 1000000000 + if target ≤ v then 0 else 1000000000)) } }
  | _ => d

/-- The tick at which a requested increment is applied (R79). -/
def Dev.incrApply (d : Dev) (n : Nat) : Dev :=
  if d.on (R.TB_STATUS_INCR_PEND n) then
    ((d.setTb n { d.tb n with incr := d.get (R.TB_INCR n) }).set (R.TB_STATUS_INCR_PEND n) 0).set (R.TB_CTRL_LOAD_INCR n) 0
  else d

/-- The tick at which a requested load happens (R76): the time base takes the value that the write of SET took. -/
def Dev.setLoad (d : Dev) (n : Nat) : Dev :=
  match (d.tb n).setPend with
  | none => d
  | some v => ((d.setTb n { d.tb n with setPend := none, val := d.tbWrap n v }).set (R.TB_CTRL_SET n) 0).rtcFollow n (d.tb n).val

/-- All time bases copied into `TB_SNAP` (R113). -/
def Dev.snapNow (d : Dev) : Dev :=
  (List.range 8).foldl (fun (a : Dev) n =>
    let ws := timeWords (a.ptp n) (a.tb n).val
    ((a.set (R.TB_SNAP_LO n) ws.1).set (R.TB_SNAP_HI n) ws.2.1).set (R.TB_SNAP_XHI n) ws.2.2) d

/-- The tick at which a requested snapshot is taken. -/
def Dev.snapTick (d : Dev) : Dev :=
  if d.time.snapPend then { d.snapNow with time := { d.time with snapPend := false } } else d

/-- `k` times the applied increment is added to every enabled time base (R72); `now` and the calendar clock move by 2 ns each. -/
def Dev.count (d : Dev) (k : Nat) : Dev :=
  let d1 := (List.range 8).foldl (fun (a : Dev) n =>
    if a.on (R.TB_CTRL_EN n) then a.setTb n { a.tb n with val := a.tbWrap n ((a.tb n).val + k * (a.tb n).incr) } else a) d
  { d1.rtcAdvance (2 * k) with now := d.now + 2 * k }

/-- One tick of CLK_TIME (R72, R76, R79): a requested increment is added from this tick on; a requested load gives the value of the time
base at this tick, added to from the next one (DESIGN CHOICE, log entry 175). -/
def Dev.tickOnce (d : Dev) : Dev :=
  (List.range 8).foldl (fun (a : Dev) n => a.setLoad n) (((List.range 8).foldl (fun (a : Dev) n => a.incrApply n) d).count 1)

/-- `k` ticks of CLK_TIME: what a register write has requested acts at the first (R79); a requested step waits for `State.tick`
(log entry 43). -/
def Dev.ticks (d : Dev) (k : Nat) : Dev := if k = 0 then d else (d.tickOnce.snapTick).count (k - 1)

/-- Lets `n`'s ticks pass until `ahead`, what it has still to count in units of 2^-32 ns, is 0. -/
def Dev.passAhead (d : Dev) (n : Nat) (ahead : Dev → Nat) : Dev :=
  if d.on (R.TB_CTRL_EN n) = false ∨ ahead d = 0 then d
  else
    let d1 := d.ticks 1
    let i := max 1 (d1.tb n).incr
    d1.ticks ((ahead d1 + i - 1) / i)

/-- Lets ticks pass until time base `n` has reached a value in units of 2^-32 ns: how the model takes an event whose instant a
time base names (DESIGN CHOICE, log entry 6). -/
def Dev.passTo (d : Dev) (n target : Nat) : Dev := d.passAhead n (fun x => target - (x.tb n).val)

/-- The phases of 250 ps (R78) by which the instant at which time base `n` reached `target` lies before the tick at which its value is
`v`: 0 when the value is at the target, or was moved past it by a step. -/
def Dev.phasesBack (d : Dev) (n v target : Nat) : Nat :=
  let i := max 1 (d.tb n).incr
  if v < target + i then ((v - target) * 8 + i - 1) / i else 0

/-- The value stamped `back` phases before the present tick (R78). -/
def Dev.stampBack (d : Dev) (n back : Nat) : Nat := (d.tb n).val - back * (d.tb n).incr / 8

/-- Lets `ns` nanoseconds pass. -/
def Dev.passNs (d : Dev) (ns : Nat) : Dev := d.ticks ((ns + 1) / 2)

/-- A cause of time base `n`: bit `i` of `TB_STATUS[n]` and EV178 + n (R108). -/
def Dev.tbCause (d : Dev) (n : Nat) (f : Fld) (i : Nat) : Dev :=
  d.cause f ((d.get (R.TB_CAUSE_EN n)).testBit (i - 3)) (178 + n)

/-- A refused write (R76, R77, R101). -/
def Dev.tbCfgRej (d : Dev) (n : Nat) : Dev := d.tbCause n (R.TB_STATUS_CFG_REJ n) 4

/-- FMT of a `TB_CTRL[n]` write (R75, R76); `en` is EN before the write. -/
def Dev.tbFmtWrite (d : Dev) (n : Nat) (en fmt : Bool) : Dev :=
  if n = 0 ∨ d.ptp n = fmt then d
  else if en then d.tbCfgRej n else d.set (R.TB_CTRL_FMT n) (if fmt then 1 else 0)

/-- SET (R76, R109): the value of `TB_SET[n]` is taken; the load is pending until the next tick. -/
def Dev.tbSet (d : Dev) (n : Nat) (en : Bool) : Dev :=
  if en then d.tbCfgRej n else (d.setTb n { d.tb n with setPend := some (d.tbSetValue n) }).set (R.TB_CTRL_SET n) 1

/-- A write of 1 to EN (R77). -/
def Dev.tbEnable (d : Dev) (n : Nat) : Dev :=
  if n = 0 then d else (d.set (R.TB_CTRL_EN n) 1).set (R.TB_STATUS_RUNNING n) 1

/-- A write of 0 to EN (R77): refused while the stride follows the time base. -/
def Dev.tbDisable (d : Dev) (n : Nat) : Dev :=
  if n = 0 ∨ d.on (R.TB_CTRL_EN n) = false then d
  else if (d.on R.STRIDE_STATUS_RUNNING || d.on R.STRIDE_STATUS_PENDING) && d.get R.STRIDE_CTRL_TB_SEL == n then d.tbCfgRej n
  else (d.set (R.TB_CTRL_EN n) 0).set (R.TB_STATUS_RUNNING n) 0

/-- STEP (R80, R81): pending until the next tick. -/
def Dev.tbStep (d : Dev) (n : Nat) : Dev := (d.set (R.TB_CTRL_STEP n) 1).set (R.TB_STATUS_STEP_PEND n) 1

/-- LOAD_INCR (R79): pending until the next tick. -/
def Dev.tbLoadIncr (d : Dev) (n : Nat) : Dev := (d.set (R.TB_CTRL_LOAD_INCR n) 1).set (R.TB_STATUS_INCR_PEND n) 1

/-- A write of `TB_CTRL[n]` (R75 to R81, R110). -/
def Dev.tbCtrlWrite (d : Dev) (w : Writer) (n v : Nat) : Dev :=
  let en := d.on (R.TB_CTRL_EN n)
  let d1 := d.tbFmtWrite n en (v.testBit 1)
  let d2 := if v.testBit 4 then d1.tbSet n en else d1
  let d3 := if v.testBit 0 then d2.tbEnable n else d2.tbDisable n
  let d4 := if v.testBit 3 then d3.tbStep n else d3
  let d5 := if v.testBit 2 then d4.tbLoadIncr n else d4
  d5.rsvIf (v / 32 != 0) w (0x50000 + n * 0x100)

/-- The step of time base `n` in units of 2^-32 ns (R80). -/
def Dev.stepAmount (d : Dev) (n : Nat) : Int :=
  toSigned 64 (d.get (R.TB_STEP n)) * 2 ^ 32 + (d.get (R.TB_STEP_FRAC n) : Int) * 2 ^ 16

/-- Whether a pending step of time base `n` is refused (R80). -/
def Dev.stepRefused (d : Dev) (n : Nat) : Bool :=
  let r := (d.tb n).val + d.stepAmount n
  n == 0 || !d.on (R.TB_CTRL_EN n) || decide (r < 0) ||
    (d.ptp n && decide ((2 ^ 48 * 1000000000 * 2 ^ 32 : Int) ≤ r))

/-- The tick at which a step is applied or refused (R80, R83); what moves with the time base is in StrideEdge.lean. -/
def Dev.stepMove (d : Dev) (n : Nat) : Dev :=
  let d1 := (d.set (R.TB_STATUS_STEP_PEND n) 0).set (R.TB_CTRL_STEP n) 0
  if d.stepRefused n then d1.tbCause n (R.TB_STATUS_STEP_REJ n) 3
  else ((d1.setTb n { d.tb n with val := d.tbWrap n ((d.tb n).val + d.stepAmount n).toNat }).inc (R.TB_STATUS_STEP_GEN n)).rtcFollow n (d.tb n).val

/-- A write of SNAP (R113): the copy is taken at the next tick. -/
def Dev.snap (d : Dev) : Dev := { d with time := { d.time with snapPend := true } }

/-- The value stamped in phase `k` of a tick (R78). -/
def Dev.stampAt (d : Dev) (n k : Nat) : Nat := (d.tb n).val + k * (d.tb n).incr / 8

/-- A timestamp record (R89) of a value of time base `n`. -/
def Dev.tsRec (d : Dev) (n v id : Nat) : TsRec :=
  let ws := timeWords (d.ptp n) v
  { lo := ws.1, hi := ws.2.1, xhi := ws.2.2,
    tag := 2 ^ 31 + (if d.ptp n then 2 ^ 30 else 0) + n * 2 ^ 24 + d.get (R.TB_STATUS_STEP_GEN n) * 2 ^ 20 + id % 2 ^ 16 }

/-- The 16 bytes of a timestamp record (R89). -/
def tsBytes (r : TsRec) : List (BitVec 8) :=
  let le4 := fun (v : Nat) => [BitVec.ofNat 8 v, BitVec.ofNat 8 (v / 2 ^ 8), BitVec.ofNat 8 (v / 2 ^ 16), BitVec.ofNat 8 (v / 2 ^ 24)]
  le4 r.lo ++ le4 r.hi ++ le4 r.xhi ++ le4 r.tag

/-- Capture FIFO `c`. -/
def Dev.cap (d : Dev) (c : Nat) : TsFifo := d.time.caps.getD c {}
/-- The device with capture FIFO `c` changed; LEVEL follows. -/
def Dev.setCap (d : Dev) (c : Nat) (x : TsFifo) : Dev :=
  ({ d with time := { d.time with caps := d.time.caps.put c x } }).set (R.CAP_STATUS_LEVEL c) x.q.length

/-- An edge on the pin of capture unit `c`, in phase `k` of a tick (R97, R116). -/
def Dev.captureEdge (d : Dev) (c : Nat) (rising : Bool) (k : Nat) : Dev :=
  let sel := (d.get (R.CAP_CFG_EDGE c)).testBit (if rising then 0 else 1)
  if !d.on (R.CAP_CFG_EN c) || !sel then d else
  let n := d.get (R.CAP_CFG_TB c)
  let x := d.cap c
  if x.q.length < 8 then
    (d.setCap c { x with q := x.q ++ [d.tsRec n (d.stampAt n k) (if rising then 1 else 0)] }).tbCause n (R.TB_STATUS_CAP_READY n) 6
  else ((d.set (R.CAP_STATUS_OVF c) 1).inc (R.CAP_STATUS_LOST c)).tbCause n (R.TB_STATUS_CAP_OVF n) 7

/-- The record that the head words of a FIFO show (R98). -/
def TsFifo_head (x : TsFifo) : TsRec :=
  match x.q with
  | r :: _ => r
  | [] => { x.last with tag := 0 }

/-- A pop of a FIFO (R98): nothing happens when it is empty. -/
def TsFifo_pop (x : TsFifo) : TsFifo :=
  match x.q with
  | r :: q => { q := q, last := r }
  | [] => x

/-- Transmit timestamp FIFO of port `p`. -/
def Dev.txtsFifo (d : Dev) (p : Nat) : TsFifo := d.time.txts.getD p {}
/-- The device with a transmit timestamp FIFO changed. -/
def Dev.setTxts (d : Dev) (p : Nat) (x : TsFifo) : Dev := { d with time := { d.time with txts := d.time.txts.put p x } }

/-- PORT_EVT.TS and EV128 + p (R90, R95, R265). -/
def Dev.tsEvent (d : Dev) (p : Nat) : Dev := d.cause (R.PORT_EVT_TS p) true (128 + p)

/-- A transmit timestamp record enters the FIFO of port `p` (R90). -/
def Dev.txtsPush (d : Dev) (p : Nat) (r : TsRec) : Dev :=
  let x := d.txtsFifo p
  if x.q.length < 16 then d.setTxts p { x with q := x.q ++ [r] }
  else (d.inc (R.TS_PORT_CNT_TX_TS_LOST p)).tsEvent p

/-! ### Triggers -/

/-- The period of trigger `t` in units of 2^-32 ns (R100). -/
def Dev.trgPeriod (d : Dev) (t : Nat) : Nat := d.get (R.TRG_PERIOD_NS t) * 2 ^ 32 + d.get (R.TRG_PERIOD_FRAC t) * 2 ^ 16

/-- Trigger unit `t`. -/
def Dev.trg (d : Dev) (t : Nat) : Trigger := d.time.trgs.getD t {}
/-- The device with trigger unit `t` changed. -/
def Dev.setTrg (d : Dev) (t : Nat) (x : Trigger) : Dev := { d with time := { d.time with trgs := d.time.trgs.put t x } }

/-- The value of `TRG_START[t]`, in the format of the trigger's time base. -/
def Dev.trgStartReg (d : Dev) (t : Nat) : Nat :=
  timeValue (d.ptp (d.get (R.TRG_CTRL_TB t))) (d.get (R.TRG_START_LO t)) (d.get (R.TRG_START_HI t)) (d.get (R.TRG_START_XHI t))

/-- The smallest `k` with START + k × PERIOD later than `v` (R102). -/
def nextPulse (start period v : Nat) : Nat := if v < start then 0 else if period = 0 then 0 else (v - start) / period + 1

/-- Whether a write of 1 to EN of trigger `t` is refused (R101). -/
def Dev.trgBad (d : Dev) (t : Nat) : Bool :=
  d.get (R.TRG_WIDTH t) == 0 || (d.on (R.TRG_CTRL_PERIODIC t) && decide (d.trgPeriod t ≤ d.get (R.TRG_WIDTH t) * 2 ^ 32))

/-- A write of 1 to EN of trigger `t` (R101, R102, R109). A one-shot START equal to the present value counts as past (DESIGN CHOICE, log
entry 176). -/
def Dev.trgEnable (d : Dev) (t : Nat) : Dev :=
  let n := d.get (R.TRG_CTRL_TB t)
  if d.trgBad t then (d.set (R.TRG_CTRL_EN t) 0).tbCfgRej n
  else if d.on (R.TRG_CTRL_EN t) then d
  else
    let start := d.trgStartReg t
    let v := (d.tb n).val
    let arm := fun (k : Nat) => (d.set (R.TRG_CTRL_EN t) 1).setTrg t { d.trg t with k := k, start := start }
    if d.on (R.TRG_CTRL_PERIODIC t) then arm (nextPulse start (d.trgPeriod t) v)
    else if start ≤ v then ((arm 0).set (R.TRG_STATUS_LATE t) 1).tbCause n (R.TB_STATUS_TRG_LATE n) 8
    else arm 0

/-- The level that trigger `t` gives its pin (R99, R117). -/
def Dev.trgLevel (d : Dev) (t : Nat) : Bool := d.on (R.TRG_STATUS_ACTIVE t) != d.on (R.TRG_CTRL_POL t)

/-- A write of 0 to EN of trigger `t`: the trigger no longer drives its pin. -/
def Dev.trgDisable (d : Dev) (t : Nat) : Dev := (d.set (R.TRG_CTRL_EN t) 0).set (R.TRG_STATUS_ACTIVE t) 0

/-- A write of `TRG_CTRL[t]` (R101, R117). -/
def Dev.trgCtrlWrite (d : Dev) (w : Writer) (t v : Nat) : Dev :=
  let off := 0x53000 + t * 0x40
  let d0 := if bits v 8 7 ≤ 95 then d.set (R.TRG_CTRL_PIN t) (bits v 8 7) else d.rsvWrite w off
  let d1 := ((d0.set (R.TRG_CTRL_TB t) (bits v 3 3)).set (R.TRG_CTRL_POL t) (bits v 2 1)).set (R.TRG_CTRL_PERIODIC t) (bits v 1 1)
  let d2 := if v.testBit 0 then d1.trgEnable t else d1.trgDisable t
  d2.rsvIf (v / 2 ^ 15 != 0 || bits v 6 2 != 0) w off

/-- The time base reaches a trigger instant: the pin is asserted (R100), at the phase of 250 ps at which the instant lies (R78). A pulse
whose START was past starts at the next tick (R102). -/
def Dev.trgAssert (d : Dev) (t : Nat) : Dev :=
  if !d.on (R.TRG_CTRL_EN t) || d.on (R.TRG_STATUS_ACTIVE t) then d else
  let x := d.trg t
  let n := d.get (R.TRG_CTRL_TB t)
  let at' := x.start + x.k * d.trgPeriod t
  let d1 := if (d.tb n).val < at' || d.on (R.TRG_CTRL_PERIODIC t) then d.passTo n at' else d.ticks 1
  let back := if (d.tb n).val < at' then d1.phasesBack n (d1.tb n).val at' else 0
  let d2 := (d1.set (R.TRG_STATUS_ACTIVE t) 1).setTrg t { x with k := x.k + 1, at4 := d1.now * 4 - back }
  d2.emit (.pin (d.get (R.TRG_CTRL_PIN t)) (d2.trgLevel t))

/-- The pulse width expires, WIDTH ns after the assertion: the pin is released, a one-shot disarms (R100). -/
def Dev.trgDeassert (d : Dev) (t : Nat) : Dev :=
  if !d.on (R.TRG_STATUS_ACTIVE t) then d else
  let ends := (d.trg t).at4 + 4 * d.get (R.TRG_WIDTH t)
  let d1 := (d.passNs ((ends + 3) / 4 - d.now)).set (R.TRG_STATUS_ACTIVE t) 0
  let d2 := d1.emit (.pin (d.get (R.TRG_CTRL_PIN t)) (d1.trgLevel t))
  if d.on (R.TRG_CTRL_PERIODIC t) then d2 else d2.set (R.TRG_CTRL_EN t) 0

/-- What a step does to trigger `t` of the stepped time base (R102); `old` is its value before the step. -/
def Dev.trgStep (d : Dev) (t n old : Nat) : Dev :=
  if !d.on (R.TRG_CTRL_EN t) || d.get (R.TRG_CTRL_TB t) != n then d else
  let v := (d.tb n).val
  let x := d.trg t
  if d.on (R.TRG_CTRL_PERIODIC t) then
    let k' := nextPulse x.start (d.trgPeriod t) v
    let missed := k' - x.k
    let d1 := d.setTrg t { x with k := k' }
    if missed = 0 then d1 else
    (d1.set (R.TRG_STATUS_MISSED t) (d.get (R.TRG_STATUS_MISSED t) + missed)).tbCause n (R.TB_STATUS_TRG_LATE n) 8
  else if decide (old < x.start) && decide (x.start ≤ v) then
    (d.set (R.TRG_STATUS_LATE t) 1).tbCause n (R.TB_STATUS_TRG_LATE n) 8
  else d

/-! ### The calendar clock -/

/-- A write of `RTC_CTRL` (R105, R118). -/
def Dev.rtcCtrlWrite (d : Dev) (w : Writer) (v : Nat) : Dev :=
  let off := 0x54000
  let d1 := (d.set R.RTC_CTRL_SYNC_TB (bits v 2 3)).rsvIf (v / 32 != 0) w off
  if d.on R.RTC_STATUS_BUSY then d1
  else if v.testBit 0 && v.testBit 1 then d1.rsvWrite w off
  else if v.testBit 0 then
    (({ d1 with time := { d1.time with rtcPend := some .sec } }).set R.RTC_CTRL_LOAD 1).set R.RTC_STATUS_BUSY 1
  else if v.testBit 1 then
    let n := bits v 2 3
    (({ d1 with time := { d1.time with rtcPend := some (.fromTb n (((d.tb n).val / 2 ^ 32 / 1000000000 + 1) * 1000000000)) } }).set
      R.RTC_CTRL_SYNC_FROM_TB 1).set R.RTC_STATUS_BUSY 1
  else d1

/-- The 32.768 kHz edge at which the requested load happens (R105). -/
def Dev.rtcLoadDone (d : Dev) : Dev :=
  let fin := fun (a : Dev) (sec : Nat) =>
    (((((({ a with time := { a.time with rtcPend := none, rtcAcc := 0 } }).set R.RTC_SEC sec).set R.RTC_SUBSEC 0).set
      R.RTC_STATUS_VALID 1).set R.RTC_STATUS_BUSY 0).set R.RTC_CTRL_LOAD 0).set R.RTC_CTRL_SYNC_FROM_TB 0
  match d.time.rtcPend with
  | none => d
  | some .sec => fin d (d.get R.RTC_SET_SEC)
  | some (.fromTb n target) =>
    let d1 := d.passTo n (target * 2 ^ 32)
    if (d1.tb n).val / 2 ^ 32 < target then d1 else fin d1 (target / 1000000000)

/-- The fields of the battery domain (R103, R118). -/
def rtcFields : List Fld :=
  [R.RTC_CTRL_SYNC_TB, R.RTC_CTRL_SYNC_FROM_TB, R.RTC_CTRL_LOAD, R.RTC_STATUS_BUSY, R.RTC_STATUS_OSC_FAIL,
   R.RTC_STATUS_VBAT_LOW, R.RTC_STATUS_VALID, R.RTC_SEC, R.RTC_SUBSEC, R.RTC_SET_SEC, R.RTC_TRIM]

/-- VBAT or the oscillator is lost (R103, R108, R111, R702). -/
def Dev.vbatLoss (d : Dev) (osc : Bool) : Dev :=
  let d1 := if osc then (d.set R.RTC_STATUS_OSC_FAIL 1).set R.RTC_STATUS_VALID 0
    else { rtcFields.foldl (fun a f => a.set f f.reset) d with time := { d.time with rtcPend := none, rtcAcc := 0 } }
  d1.tbCause 0 (R.TB_STATUS_RTC_FAULT 0) 9

/-- The start of the time bases when the time domain leaves reset after POR_N (R106). -/
def Dev.seedTimeBases (d : Dev) : Dev :=
  let ok := d.on R.RTC_STATUS_VALID
  let v := (d.get R.RTC_SEC * 1000000000 + d.get R.RTC_SUBSEC * 1000000000 / 32768) * 2 ^ 32
  let d1 := d.setTb 0 {}
  [1, 2, 3, 4, 5, 6, 7].foldl (fun (a : Dev) n =>
    if ok then a.setTb n { val := v } else (a.setTb n {}).tbCause n (R.TB_STATUS_SEED_INVALID n) 5) d1

end Sys2Proof.Machine
end

