-- ==== Sys2Proof/Machine/Fabric.lean ====
section
/-! DEFINITION. The two rotations of the cyclic switch and its centre buffer (chapter 4), slot by slot: the cells that the inputs write into
the slices, the cells that the slices send to the output stores, mapping cells among them. Frames as wholes are in Switch.lean. -/

namespace Sys2Proof.Machine
open Sys2Proof

/-! ### Slots, rates, classes -/

/-- The fabric clocks since the fabric left reset (R161): 1.28 ns a slot. -/
def Dev.slotCount (d : Dev) : Nat := (d.now - d.fab.resetAt) * 25 / 32

/-- The slot number s (R161), as `SW_STATUS.SLOT` shows it (R204). -/
def Dev.slot (d : Dev) : Nat := d.slotCount % 40

/-- The slice to which input `i` is connected in slot `s` (R164). -/
def inSlice (i s : Nat) : Nat := (i + s) % 40

/-- The output to which slice `k` is connected in slot `s` (R164). -/
def sliceOut (k s : Nat) : Nat := (k + 40 - s % 40) % 40

/-- D(i, j) of R167. -/
def transit (i j : Nat) : Nat := (i + 39 - j % 40) % 40 + 1

/-- The cells of a frame of `l` bytes (R162). -/
def cellCount (l : Nat) : Nat := (l + 31) / 32

/-- A cause of `SW_EVT` bit `b` (R201): bits 0 to 9 raise EV190 + b, bits 10 to 12 raise EV199. -/
def Dev.swCause (d : Dev) (f : Fld) (b : Nat) : Dev :=
  d.cause f ((d.get R.SW_EVT_EN).testBit b) (if b < 10 then 190 + b else 199)

/-- The line rate of a port mode in Mb/s (R212); `speed` is `PORT_STATUS.SPEED`. -/
def modeRate (mode speed : Nat) : Nat :=
  match mode with
  | 1 => 1000
  | 2 => 2500
  | 3 => 5000
  | 4 => 10000
  | 6 => 100
  | 7 => (match speed with | 0 => 10 | 1 => 100 | _ => 1000)
  | _ => 0

/-- The rate of fabric port `f` in Mb/s (R176). -/
def Dev.rate (d : Dev) (f : Nat) : Nat :=
  if f < 26 then
    (if d.get (R.PORT_CTRL_MODE f) = 5 then (if d.on (R.HN_LANE_CFG_RATE f) then 10000 else 2500)
     else modeRate (d.get (R.PORT_CTRL_MODE f)) (d.get (R.PORT_STATUS_SPEED f)))
  else if f = 39 then 160000 else 200000

/-- The slots in which an input of this rate receives a cell (R160, R166): 200 at 1 Gb/s, 1 at 200 Gb/s and for F39. -/
def cellGap (rate : Nat) : Nat := if rate = 0 then 1 else max 1 (200000 / rate)

/-- Whether class `c` is scheduled (R171). -/
def Dev.schedClass (d : Dev) (c : Nat) : Bool := d.on (R.SW_CLASS_CFG_SCHED c)

/-- The fabric part of the state changed. -/
def Dev.withFab (d : Dev) (f : FabSt → FabSt) : Dev := { d with fab := f d.fab }

/-- TB0 bits [31:0] in slot `s` (R191), from its present value and increment. -/
def Dev.tb0At (d : Dev) (s : Nat) : Nat :=
  let x := d.tb 0
  ((x.val + s * 16 * x.incr / 25 - d.slotCount * 16 * x.incr / 25) / 2 ^ 32) % 2 ^ 32

/-- The copy with a number. -/
def Dev.copy? (d : Dev) (id : Nat) : Option Copy := d.fab.copies.find? (fun c => c.id == id)

/-- A copy of the fabric changed. -/
def Dev.editCopy (d : Dev) (id : Nat) (f : Copy → Copy) : Dev :=
  d.withFab (fun x => { x with
    copies := x.copies.map (fun c => if c.id == id then f c else c),
    tx := x.tx.map (fun e => (e.1, if e.2.copy.id == id then { e.2 with copy := f e.2.copy } else e.2)) })

/-- Input `i`. -/
def Dev.fin (d : Dev) (i : Nat) : FIn := d.fab.ins.getD i {}

/-- Input `i` changed. -/
def Dev.setFin (d : Dev) (i : Nat) (x : FIn) : Dev := d.withFab (fun f => { f with ins := f.ins.put i x })

/-! ### The centre buffer (R169, R195, R196) -/

/-- The cells in slice `k`: scheduled ones, others, and others for output `j`. A tag without a cell takes no room (R170). -/
def Dev.sliceFill (d : Dev) (k j : Nat) : Nat × Nat × Nat :=
  d.fab.slices.foldl (fun (a : Nat × Nat × Nat) e =>
    if e.1 ≠ k ∨ e.2.valid = 0 then a
    else if e.2.sched then (a.1 + 1, a.2.1, a.2.2)
    else (a.1, a.2.1 + 1, if e.2.dst = j then a.2.2 + 1 else a.2.2)) (0, 0, 0)

/-- Whether slice `k` has room for a cell for output `j` (R169). -/
def Dev.hasRoom (d : Dev) (k j : Nat) (sched : Bool) : Bool :=
  let f := d.sliceFill k j
  let resv := d.get R.SW_BUF_CFG_SCHED_RESV
  let shared := 5120 - resv
  let used := f.2.1 + (f.1 - resv)
  if sched then decide (f.1 < resv) || decide (used < shared)
  else decide (used < shared) && decide (f.2.2 < d.get R.SW_BUF_CFG_OUT_CAP)

/-- `SW_SLICE[k]` shows the fill of slice `k` (R210). -/
def Dev.showSlice (d : Dev) (k : Nat) : Dev :=
  let f := d.sliceFill k 40
  let n := f.1 + f.2.1
  (d.set (R.SW_SLICE_FILL k) n).set (R.SW_SLICE_HWM k) (max n (d.get (R.SW_SLICE_HWM k)))

/-- `SW_SLICE` shows the fill of every slice. -/
def Dev.showSlices (d : Dev) : Dev := (List.range 40).foldl (fun (a : Dev) k => a.showSlice k) d

/-- One scheduled cell counted at port `p` (R195); `true` while it is within the budget. -/
def Dev.countSched (d : Dev) (p budget : Nat) : Dev × Bool :=
  let n := d.fab.schedCells.getD p 0 + 1
  let d1 := (d.withFab (fun f => { f with schedCells := f.schedCells.put p n })).set (R.SW_PORT_CNT_SCHED_MAX p)
    (max n (d.get (R.SW_PORT_CNT_SCHED_MAX p)))
  if n ≤ budget then (d1, true)
  else ((d1.inc (R.SW_PORT_CNT_SLOT_OVER p)).swCause R.SW_EVT_SLOT_OVER 9, false)

/-- Whether a cell travels as a scheduled cell, with the counts of R195 at its ingress and its egress port. They run from base edge to base
edge, so while no stride runs there is no budget (log entry 168). A mapping cell counts as a scheduled one (R736). -/
def Dev.cellSched (d : Dev) (c : FCell) : Dev × Bool :=
  let k := if c.map then none else d.copy? c.id
  let want := c.map || k.any (fun x => x.sched && !x.mirror && x.src != 39)
  let budget := match k with
    | some x => x.budget
    | none => (d.get (R.SW_PORT_CNT_SCHED_BUDGET c.src), d.get (R.SW_PORT_CNT_SCHED_BUDGET c.dst))
  if !want then (d, false)
  else if !d.on R.STRIDE_STATUS_RUNNING then (d, true) else
  let a := d.countSched c.src budget.1
  let b := a.1.countSched c.dst budget.2
  (b.1, a.2 && b.2)

/-- Whether the queue of slice `k` for the output and class of a cell holds a scheduled cell (R196). -/
def Dev.sliceCollides (d : Dev) (k : Nat) (c : FCell) : Bool :=
  d.fab.slices.any (fun e => e.1 == k && e.2.dst == c.dst && e.2.cls == c.cls && e.2.sched && !e.2.map)

/-! ### Frames at an input (R172, R181) -/

/-- The frame at an input without one of its copies. -/
def FGroup.without (g : FGroup) (id : Nat) : FGroup :=
  { g with copies := g.copies.filter (fun x => x != id), q := ((g.copies.take g.q).filter (fun x => x != id)).length }

/-- The write after the present one: the next copy of the cell, else the next cell; `none` when the frame is written. -/
def FGroup.after (g : FGroup) : Option FGroup :=
  if g.copies = [] then none
  else if g.q < g.copies.length then some g
  else if g.n + 1 < g.cells then some { g with n := g.n + 1, q := 0 } else none

/-- No further cell of a copy is written. -/
def Dev.stopWriting (d : Dev) (id : Nat) : Dev :=
  d.withFab (fun f => { f with ins := f.ins.map (fun e => (e.1, { e.2 with
    cur := e.2.cur.bind (fun g => (g.without id).after),
    wait := (e.2.wait.map (fun g => g.without id)).filter (fun g => g.copies != []) })) })

/-- A copy leaves the fabric with its cells. -/
def Dev.takeCopy (d : Dev) (c : Copy) : Dev :=
  ((d.withFab (fun f => { f with
      copies := f.copies.filter (fun x => x.id != c.id),
      slices := f.slices.filter (fun e => e.2.map || e.2.id != c.id),
      stores := f.stores.map (fun e => (e.1, e.2.filter (fun x => x.2.map || x.2.id != c.id))),
      sel := f.sel.filter (fun e => e.2 != c.id) })).stopWriting c.id).showSlices

/-- The deficit round robin of R172 over the non-scheduled classes of port `p`: the class served next, the credits after it. The key
of a credit is 8 p + c; key 8 × 40 + p holds the class whose turn it is. -/
def drrPick (quantum : Nat → Nat) (len : Nat → Option Nat) (p : Nat) : Nat → Tab Nat → Option (Nat × Tab Nat)
  | 0, _ => none
  | fuel + 1, t =>
    let c := t.getD (320 + p) 0 % 8
    match len c with
    | some l =>
      if l ≤ t.getD (8 * p + c) 0 then some (c, t.put (8 * p + c) (t.getD (8 * p + c) 0 - l))
      else
        let c' := (c + 1) % 8
        drrPick quantum len p fuel ((t.put (320 + p) c').put (8 * p + c') (t.getD (8 * p + c') 0 + quantum c'))
    | none =>
      let c' := (c + 1) % 8
      drrPick quantum len p fuel (((t.put (8 * p + c) 0).put (320 + p) c').put (8 * p + c')
        ((t.put (8 * p + c) 0).getD (8 * p + c') 0 + quantum c'))

/-- The class that input `p` writes next (R172), with the credits after the choice; `len` gives the length of the frame that waits in
a class. -/
def Dev.chooseClass (d : Dev) (p : Nat) (len : Nat → Option Nat) : Option (Nat × Tab Nat) :=
  match [7, 6, 5, 4, 3, 2, 1, 0].find? (fun c => d.schedClass c && (len c).isSome) with
  | some c => some (c, d.fab.deficit)
  | none =>
    if (List.range 8).any (fun c => (len c).isSome) then
      drrPick (fun c => max 64 (d.get (R.SW_CLASS_CFG_QUANTUM c))) (fun c => if d.schedClass c then none else len c) p 4096 d.fab.deficit
    else none

/-- The frame that input `i` writes next (R172): arrival order at a network port and at F39, and at a team port, which chooses between its rings as it
takes an entry (R397); by class at F38. -/
def Dev.pullFrame (d : Dev) (i : Nat) : Dev :=
  let x := d.fin i
  if x.cur.isSome then d else
  if i = 38 then
    match d.chooseClass i (fun c => (x.wait.find? (fun g => g.cls == c)).map (fun g => g.len)) with
    | none => d
    | some (c, credits) =>
      match x.wait.find? (fun g => g.cls == c) with
      | none => d
      | some g => (d.setFin i { x with cur := some g, wait := x.wait.erase g }).withFab (fun f => { f with deficit := credits })
  else match x.wait with
    | [] => d
    | g :: r => d.setFin i { x with cur := some g, wait := r }

/-- The slot from which a cell of the frame being written may be written (R166): after the cell is complete at the input; at F39 when the
store has it (R183). -/
def Dev.dueSlot (d : Dev) (g : FGroup) : Option Nat :=
  match g.feed with
  | none => some (g.start + g.gap * (g.n + 1) + 1)
  | some id => ((d.fab.stores.getD 39 []).find? (fun e => !e.2.map && e.2.id == id && e.2.n == g.n)).map (fun e => e.1)

/-! ### The writes of a slot (R166, R170, R736) -/

/-- A frame that loses cells at output `j` (R170, R183). -/
def Dev.bufDrop (d : Dev) (j : Nat) (loops : Bool) : Dev :=
  let d1 := (d.inc (R.SW_PORT_CNT_BUF_DROP j)).swCause R.SW_EVT_BUF_DROP 2
  if j = 39 ∧ loops then d1.swCause R.SW_EVT_MC_LOOP_DROP 5 else d1

/-- A cell put into slice `k`. -/
def Dev.putCell (d : Dev) (k : Nat) (c : FCell) : Dev := (d.withFab (fun f => { f with slices := f.slices ++ [(k, c)] })).showSlice k

/-- The next sequence number of the flow of a cell (R162, R179). -/
def Dev.nextSeq (d : Dev) (c : FCell) : Nat × Dev :=
  let key := if c.map then 12800 + c.src * 40 + c.dst else (c.src * 40 + c.dst) * 8 + c.cls
  let n := d.fab.seqs.getD key 0
  (n, d.withFab (fun f => { f with seqs := f.seqs.put key ((n + 1) % 4096) }))

/-- A cell dropped for want of room (R170): of a frame, the rest of the copy is dropped, and a frame that has cells in the fabric gets a
last-cell tag with BAD; of mapping cells, the list is lost. -/
def Dev.dropCell (d : Dev) (k : Nat) (c : FCell) : Dev :=
  if c.map then
    let d1 := d.bufDrop c.dst false
    { d1 with img := { d1.img with cells := d1.img.cells.map (fun m => if m.id == c.id then { m with lost := true } else m) } }
  else match d.copy? c.id with
    | none => d
    | some x =>
      let d1 := d.bufDrop c.dst (x.loop != [] || x.mirror)
      if c.n = 0 then d1.takeCopy x
      else ((d1.stopWriting c.id).putCell k { c with last := true, valid := 0, bad := true }).editCopy c.id
        (fun x => { x with bad := true, bytes := x.bytes.take (32 * c.n) ++ [0, 0, 0, 0] })

/-- A cell written into slice `k` in slot `s`, or dropped (R169, R170, R195, R196); a frame that enters at F26 to F39 is stamped at the write of
its first cell (R191). -/
def Dev.writeCell (d : Dev) (k s : Nat) (c0 : FCell) : Dev :=
  let r := d.cellSched c0
  let q := r.1.nextSeq c0
  let c := { c0 with sched := r.2, seq := q.1 }
  if !r.1.hasRoom k c.dst c.sched then r.1.dropCell k c
  else
    let d1 := if c.sched && !c.map && q.2.sliceCollides k c then
        (q.2.inc (R.SW_PORT_CNT_SCHED_COLLIDE c.dst)).swCause R.SW_EVT_SCHED_COLLIDE 4 else q.2
    let d2 := if c.n = 0 ∧ 26 ≤ c.src ∧ !c.map then d1.editCopy c.id (fun x => { x with stamp := d1.tb0At s }) else d1
    d2.putCell k (if c.n = 0 ∧ 26 ≤ c.src then { c with stamp := d1.tb0At s } else c)

/-- Cell `n` of a copy, with its tag (R162). -/
def Copy.cell (x : Copy) (n : Nat) : FCell :=
  let m := cellCount x.bytes.length
  { id := x.id, n := n, src := x.src, dst := x.dst, cls := x.cls, first := n == 0, last := n + 1 == m,
    valid := if n + 1 = m then x.bytes.length - 32 * n else 32, stamp := x.stamp, bad := x.bad && n + 1 == m }

/-- What input `i` writes in slot `s` (R166, R172, R181, R183, R736): a waiting mapping cell, else the next cell of its frame, unless the slice
connected is that of its last write, or F39 has made 32 writes in 40 slots. -/
def Dev.inputSlot (d0 : Dev) (s i : Nat) : Dev :=
  let d := d0.pullFrame i
  let x := d.fin i
  let k := inSlice i s
  let recent := x.recent.filter (fun t => decide (s < t + 40))
  if k = x.last ∨ (i = 39 ∧ 32 ≤ recent.length) then d
  else match x.maps, x.cur with
    | c :: r, _ => (d.setFin i { x with maps := r, last := k }).writeCell k s c
    | [], some g =>
      if (d.dueSlot g).any (fun t => decide (t ≤ s)) then
        match g.copies[g.q]? with
        | none => d.setFin i { x with cur := g.after }
        | some id =>
          let d1 := d.setFin i { x with cur := ({ g with q := g.q + 1 }).after, last := k, recent := if i = 39 then s :: recent else [] }
          match d.copy? id with
          | none => d1
          | some c => d1.writeCell k s (c.cell g.n)
      else d
    | [], none => d

/-! ### The transfers of a slot (R165, R173, R175) -/

/-- How many cells the egress of output `j` has taken of the frame that it sends, in slot `s`: a network port takes the bytes at its line rate,
a team port and F38 a cell a slot, F39 those that its input has written. -/
def Dev.takenCells (d : Dev) (j s : Nat) (t : TxFrame) : Nat :=
  if j = 39 then
    (match (d.fin 39).cur with
     | some g => if g.feed = some t.copy.id then g.n else 0
     | none => 0)
  else
    let ns := d.fab.resetAt + s * 32 / 25 - t.start
    if j < 26 then (t.sent + ns * d.rate j / 8000) / 32 + 1 else ns * 25 / 32 + 1

/-- The cells that the output store of `j` holds in slot `s` (R175). -/
def Dev.storeFill (d : Dev) (j s : Nat) : Nat :=
  let l := d.fab.stores.getD j []
  match Tab.find? d.fab.tx j with
  | none => l.length
  | some t => (l.filter (fun e => e.2.map || e.2.id != t.copy.id || decide (d.takenCells j s t ≤ e.2.n))).length

/-- Whether output `j` has asked for a cell (R173): a mapping cell, a scheduled one, one of the frame being sent, one of the frame selected
next. -/
def Dev.wanted (d : Dev) (c : FCell) : Bool :=
  c.map || c.sched || (Tab.find? d.fab.tx c.dst).any (fun t => t.copy.id == c.id) || Tab.find? d.fab.sel c.dst == some c.id

/-- The cell that a slice sends to output `j`, of the cells it holds for it, oldest first (R173). -/
def Dev.pickCell (d : Dev) (j : Nat) (l : List (Nat × FCell)) : Option (Nat × FCell) :=
  (l.find? (fun e => e.2.map)).or <|
  ([7, 6, 5, 4, 3, 2, 1, 0].findSome? (fun c => l.find? (fun e => e.2.sched && e.2.cls == c))).or <|
  (l.find? (fun e => (Tab.find? d.fab.tx j).any (fun t => t.copy.id == e.2.id))).or
  (l.find? (fun e => Tab.find? d.fab.sel j == some e.2.id))

/-- The transfer to output `j` in slot `s` (R165, R173, R175): none while the store of `j` is full; the cell enters the store a slot later
(R167). -/
def Dev.outputSlot (d : Dev) (s j : Nat) : Dev :=
  match d.pickCell j (d.fab.slices.filter (fun e => e.2.dst == j && sliceOut e.1 s == j)) with
  | none => d
  | some e =>
    if 64 ≤ d.storeFill j s then d
    else (d.withFab (fun f => { f with slices := f.slices.erase e, stores := f.stores.modify j [] (fun l => l ++ [(s + 1, e.2)]) })).showSlice e.1

/-- Slot `s` (R164, R165): the transfers out of the slices, then the writes into them. -/
def Dev.fabSlot (d : Dev) (s : Nat) : Dev :=
  let js := (List.range 40).filter (fun j => d.fab.slices.any (fun e => e.2.dst == j && sliceOut e.1 s == j))
  let d1 := js.foldl (fun (a : Dev) j => a.outputSlot s j) d
  let d2 := (d1.fab.ins.map (fun e => e.1)).foldl (fun (a : Dev) i => a.inputSlot s i) d1
  d2.withFab (fun f => { f with slot := s + 1 })

/-! ### Slots that pass -/

/-- The next slot in which a cell may move; `none` while none can. -/
def Dev.nextSlot (d : Dev) : Option Nat :=
  let s := d.fab.slot
  let outs := (d.fab.slices.filter (fun e => d.wanted e.2)).map (fun e => s + (e.1 + 80 - e.2.dst - s % 40) % 40)
  let ins := d.fab.ins.filterMap (fun e =>
    match e.2.maps, e.2.cur, e.2.wait with
    | [], some g, _ => (d.dueSlot g).map (fun t => max s t)
    | [], none, [] => none
    | _, _, _ => some s)
  (outs ++ ins).min?

/-- The slots before `until'` run; a slot in which nothing can move is passed over. -/
def Dev.fabRun (d : Dev) (until' : Nat) : Nat → Dev
  | 0 => d
  | fuel + 1 =>
    match d.nextSlot with
    | some s => if s < until' then (d.fabSlot s).fabRun until' fuel else d.withFab (fun f => { f with slot := until' })
    | none => d.withFab (fun f => { f with slot := until' })

/-- The fabric runs up to the present instant. Its slots take effect when a command next looks at the fabric (DESIGN CHOICE, log entry 26). -/
def Dev.fabSync (d : Dev) : Dev :=
  if d.fab.slot < d.slotCount then d.fabRun d.slotCount (d.slotCount - d.fab.slot) else d

/-- The slots run until a condition holds, or no cell can move. -/
def Dev.fabUntil (d : Dev) (p : Dev → Bool) : Nat → Dev
  | 0 => d
  | fuel + 1 =>
    if p d then d
    else match d.nextSlot with
      | some s => (d.fabSlot s).fabUntil p fuel
      | none => d

/-- A bound on the slots in which the cells now in the fabric move: those till the last cell has arrived, and a period for every cell. -/
def Dev.fabBound (d : Dev) : Nat :=
  let gs := d.fab.ins.flatMap (fun e => e.2.cur.toList ++ e.2.wait)
  gs.foldl (fun a g => a + g.gap * (g.cells + 1) + 80 * g.cells * (g.copies.length + 1)) (80 * (d.fab.slices.length + 1))

/-- Time passes until a condition of the fabric holds, or no cell can move: how the model takes an event that the fabric's slots bring about
(DESIGN CHOICE, log entry 6). -/
def Dev.fabWait (d : Dev) (p : Dev → Bool) : Dev :=
  let d0 := d.fabSync
  if p d0 then d0 else
  let d1 := d0.fabUntil p d0.fabBound
  (d1.passNs (d1.fab.resetAt + (d1.fab.slot * 32 + 24) / 25 - d1.now)).fabSync

/-! ### Mapping cells (R143, R736) -/

/-- The fabric port of an agent code: a team, or 12 and any other for F38. -/
def cellPort (agent : Nat) : Nat := if agent < 12 then 26 + agent else 38

/-- Cell `k` of a list of `n` mapping cells that carries `bytes` bytes from fabric port `i` to `j` (R162, R736). -/
def mapCell (id n i j bytes k : Nat) : FCell :=
  { id := id, n := k, src := i, dst := j, first := k == 0, last := k + 1 == n,
    valid := if k + 1 = n then max 1 (bytes - 32 * k) else 32, map := true }

/-- A list of mapping cells leaves its port (R736): its cells wait at the fabric input ahead of every frame. `bytes` is its length. -/
def Dev.sendCells (d0 : Dev) (m : MapCells) (dst bytes : Nat) : Dev :=
  let d := d0.fabSync
  let id := d.fab.nextId
  let i := cellPort m.src
  let n := max 1 (cellCount bytes)
  let cells := (List.range n).map (mapCell id n i (cellPort dst) bytes)
  let x := d.fin i
  let d1 := (d.setFin i { x with maps := x.maps ++ cells }).withFab (fun f => { f with nextId := id + 1 })
  { d1 with img := { d1.img with cells := d1.img.cells ++ [{ m with id := id }] } }

/-- Whether the last cell of a list is in the output store of its port. -/
def Dev.cellsThere (d : Dev) (m : MapCells) (dst : Nat) : Bool :=
  m.lost || (d.fab.stores.getD (cellPort dst) []).any (fun e => e.2.map && e.2.id == m.id && e.2.last)

/-- The list of mapping cells is over. -/
def Dev.dropList (d : Dev) (m : MapCells) : Dev := { d with img := { d.img with cells := d.img.cells.filter (fun x => x.id != m.id) } }

/-- The cells of a list leave the fabric. -/
def Dev.dropCells (d : Dev) (m : MapCells) : Dev :=
  (d.withFab (fun f => { f with
    slices := f.slices.filter (fun e => !(e.2.map && e.2.id == m.id)),
    stores := f.stores.map (fun e => (e.1, e.2.filter (fun x => !(x.2.map && x.2.id == m.id)))),
    ins := f.ins.map (fun e => (e.1, { e.2 with maps := e.2.maps.filter (fun c => c.id != m.id) })) })).showSlices

end Sys2Proof.Machine
end

