-- ==== Sys2Proof/Machine/Mem.lean ====
section
/-! DEFINITION. The byte memories. One list of (address, byte) pairs holds them all: addresses below 0x4000000 are BAR2
offsets (R16: Orchard at 0, engine memories at 0x2000000, MRAM at 0x3000000); 0x4000000 plus a BAR0 offset is a byte of a
mailbox payload (R585) or of a CAN transmit buffer (R364). An address that is not listed reads 0: Orchard is zero-filled after
POR_N (R485); for the other memories the spec gives no reset contents (DESIGN CHOICE, log entry 2). The list is kept
canonical: addresses strictly rising, no byte 0 listed. -/

namespace Sys2Proof.Machine
open Sys2Proof

/-- The memories as one canonical list. -/
abbrev Mem := List Host.Cell

/-- What an address that is not listed reads as (log entry 2). -/
def Mem.dflt : Byte := 0

/-- A byte. -/
def Mem.byte : List Host.Cell → Nat → Byte
  | [], _ => Mem.dflt
  | (a', b) :: r, a => if a' = a then b else Mem.byte r a

/-- The list with an address taken out. -/
def Mem.erase : List Host.Cell → Nat → List Host.Cell
  | [], _ => []
  | (a', b) :: r, a => if a' = a then r else (a', b) :: Mem.erase r a

/-- The list with a byte entered at its place. -/
def Mem.insert : List Host.Cell → Nat → Byte → List Host.Cell
  | [], a, b => [(a, b)]
  | (a', b') :: r, a, b =>
    if a < a' then (a, b) :: (a', b') :: r
    else if a = a' then (a, b) :: r
    else (a', b') :: Mem.insert r a b

/-- The memory with one byte written; writing the value an unlisted address reads as removes the entry. -/
def Mem.setByte (m : List Host.Cell) (a : Nat) (b : Byte) : List Host.Cell :=
  if b = Mem.dflt then Mem.erase m a else Mem.insert m a b

/-- `n` bytes from an address. -/
def Mem.bytes (m : List Host.Cell) (a : Nat) : Nat → List Byte
  | 0 => []
  | n + 1 => Mem.byte m a :: Mem.bytes m (a + 1) n

/-- The memory with a list of bytes written from an address. -/
def Mem.setBytes (m : List Host.Cell) (a : Nat) : List Byte → List Host.Cell
  | [] => m
  | b :: r => Mem.setBytes (Mem.setByte m a b) (a + 1) r

/-- The memory with every byte of a range 0. -/
def Mem.clearRange (m : List Host.Cell) (lo n : Nat) : List Host.Cell := m.filter (fun c => c.1 < lo || lo + n ≤ c.1)

/-- The addresses rise strictly from above `lo` and no listed byte is the default. -/
def Mem.wfFrom : Nat → List Host.Cell → Bool
  | _, [] => true
  | lo, (a, b) :: r => decide (lo ≤ a) && b != Mem.dflt && Mem.wfFrom (a + 1) r

/-- The canonical form of the memory. -/
def Memory.wf (m : List Host.Cell) : Bool := Mem.wfFrom 0 m

/-- The number that bytes spell, least significant first (R11, R12). -/
def leNat : List Byte → Nat
  | [] => 0
  | b :: r => b.toNat + 256 * leNat r

/-- The `n` bytes of a number, least significant first. -/
def leBytes : Nat → Nat → List Byte
  | 0, _ => []
  | n + 1, v => BitVec.ofNat 8 v :: leBytes n (v / 256)

/-- The number that bytes spell, most significant first (network order). -/
def beNat (l : List Byte) : Nat := l.foldl (fun a b => a * 256 + b.toNat) 0

/-- The `n` bytes of a number, most significant first. -/
def beBytes (n v : Nat) : List Byte := (leBytes n v).reverse

/-- `n` bytes of a list from a position, 0 where the list ends. -/
def slice (l : List Byte) (from' n : Nat) : List Byte := (List.range n).map (fun i => l.getD (from' + i) 0)

/-- A list with some elements replaced from a position. -/
def splice {α : Type} (l : List α) (pos : Nat) (new : List α) : List α := l.take pos ++ new ++ l.drop (pos + new.length)

/-- The BAR2 offset of Orchard bank `n` (R463). -/
def bankBase (n : Nat) : Nat := n * 0x80000
/-- The BAR2 offset of the window of engine `e` (R16, R17). -/
def engBase (e : Nat) : Nat := 0x2000000 + e * 0x20000
/-- The BAR2 offset of MRAM (R16). -/
def mramBase : Nat := 0x3000000
/-- The address of a byte of BAR0 storage. -/
def bar0Mem (off : Nat) : Nat := 0x4000000 + off

end Sys2Proof.Machine
end

