-- ==== Sys2Proof/Machine/Stride.lean ====
section
/-! DEFINITION. The stride: geometry, start and stop, gaits, latch phase, the Lunge units (chapter 1). The edge and the fence
themselves are in StrideEdge.lean. -/

namespace Sys2Proof.Machine
open Sys2Proof

/-- The stride period T in ns (R24). -/
def Dev.strideT (d : Dev) : Nat := d.get R.STRIDE_PERIOD_PERIOD * 2
/-- The guard G in ns (R24). -/
def Dev.strideG (d : Dev) : Nat := d.get R.STRIDE_GUARD_GUARD * 2
/-- The time base that the stride follows (R21). -/
def Dev.strideTb (d : Dev) : Nat := d.get R.STRIDE_CTRL_TB_SEL
/-- E(n) in ns (R21). -/
def Dev.edgeNs (d : Dev) (n : Nat) : Nat := d.get R.STRIDE_ORIGIN + n * d.strideT
/-- What the stride time base has still to count to `target`, in units of 2^-32 ns, by its value of R22 (modulo 2^64 ns); 0 once it has passed
it. A target beyond the wrap is reached in the half of the range that follows it. -/
def Dev.strideAhead (d : Dev) (target : Nat) : Nat :=
  let v := (d.tb d.strideTb).val % 2 ^ 96
  if target < 2 ^ 96 then target - v
  else if (target - v) % 2 ^ 96 < 2 ^ 95 then (target - v) % 2 ^ 96 else 0
/-- Lets ticks pass until the stride time base has passed `target` (R22, R23). -/
def Dev.passStride (d : Dev) (target : Nat) : Dev := d.passAhead d.strideTb (fun x => x.strideAhead target)
/-- The phases of 250 ps by which the located instant of `target` lies before the present tick (R23, R78). -/
def Dev.strideBack (d : Dev) (target : Nat) : Nat :=
  d.phasesBack d.strideTb ((d.tb d.strideTb).val % 2 ^ 96) (target % 2 ^ 96)
/-- Edges are executed, or RUN is accepted and the first edge not yet reached (R66, R737). -/
def Dev.strideLive (d : Dev) : Bool := d.on R.STRIDE_STATUS_RUNNING || d.on R.STRIDE_STATUS_PENDING
/-- P_g: the base strides of one stride of gait `g` (R45). -/
def Dev.gaitP (d : Dev) (g : Nat) : Nat := (List.range (g + 1)).foldl (fun a i => a * d.get (R.GAIT_DIV_DIV i)) 1
/-- Whether gait `g` has an edge at base index `n` (R45). -/
def Dev.gaitEdge (d : Dev) (g n : Nat) : Bool := d.gaitP g != 0 && n % d.gaitP g == 0
/-- The gaits with an edge at base index `n`. -/
def Dev.gaitsAt (d : Dev) (n : Nat) : List Nat := (List.range 4).filter (fun g => d.gaitEdge g n)
/-- The fence of gait `g`'s next edge has acted and that edge is still to come (R128, R132). -/
def Dev.gaitClosed (d : Dev) (g : Nat) : Bool :=
  d.strideLive && d.stride.fenceAt.isSome && d.gaitEdge g d.stride.next

/-- A cause of gait `g`: bit `i` of `GAIT_STATUS[g]` and EV186 + g (R32, R69). -/
def Dev.gaitCause (d : Dev) (g : Nat) (f : Fld) (i : Nat) : Dev :=
  d.cause f ((d.get (R.GAIT_CAUSE_EN_EN g)).testBit i) (186 + g)

/-- The stride part of the state changed. -/
def Dev.withStride (d : Dev) (f : StrideSt → StrideSt) : Dev := { d with stride := f d.stride }

/-- An item of gait `g` misses the fence of base index `n` (R32, R67): OVERRUN and its event for every item; the count and the source for the
first item of the stride. KIND is 1 for an engine, 2 for a mapping rule, 3 for a launch descriptor. -/
def Dev.overrun (d : Dev) (g n kind index : Nat) : Dev :=
  let d1 := if d.stride.ovr.contains (g, n) then d
    else
      (((d.withStride (fun x => { x with ovr := (g, n) :: x.ovr })).inc (R.GAIT_OVR_CNT g)).set (R.GAIT_OVR_SRC_KIND g) kind).set
        (R.GAIT_OVR_SRC_INDEX g) index
  (d1.set R.STRIDE_MIN_SLACK_MIN_SLACK 0).gaitCause g (R.GAIT_STATUS_OVERRUN g) 0

/-- `LATCH_PHASE` pattern `v` meets R48 against the guard `g` in ns: a negative phase is at most G − 80 ns. -/
def phaseOk (v g : Nat) : Bool := decide (0 ≤ toSigned 16 v) || decide (-(toSigned 16 v) + 320 ≤ (g : Int) * 4)

/-- Every latch phase meets R48 against the guard in force (R37). -/
def Dev.phasesOk (d : Dev) : Bool := (List.range 4).all (fun b => phaseOk (d.get (R.LATCH_PHASE_PHASE b)) d.strideG)

/-- The code of the first condition of R37 that fails (R66), 0 when all hold. -/
def Dev.runError (d : Dev) : Nat :=
  if d.strideT < 2 * d.strideG then 3
  else if !d.on R.STRIDE_STATUS_ADMITTED then 1
  else if !d.on (R.TB_CTRL_EN d.strideTb) then 4
  else if !d.phasesOk then 5
  else 0

/-- The first index after RUN (R38): the smallest `n` with E(n) at least T after the present value of the time base. -/
def Dev.firstIndex (d : Dev) : Nat :=
  let need := (d.tb d.strideTb).val % (2 ^ 64 * 2 ^ 32) + d.strideT * 2 ^ 32
  let org := d.get R.STRIDE_ORIGIN * 2 ^ 32
  if need ≤ org then 0 else (need - org + d.strideT * 2 ^ 32 - 1) / (d.strideT * 2 ^ 32)

/-- `STRIDE_NEXT` follows the next index (R67). -/
def Dev.showNext (d : Dev) : Dev := d.set R.STRIDE_NEXT (d.edgeNs d.stride.next)

/-- A write of 1 to RUN (R37, R38, R40). -/
def Dev.runStart (d : Dev) : Dev :=
  if d.on R.STRIDE_CTRL_RUN then d
  else if d.runError ≠ 0 then d.set R.STRIDE_STATUS_CFG_ERR d.runError
  else
    let d1 := (d.set R.STRIDE_CTRL_RUN 1).set R.STRIDE_STATUS_CFG_ERR 0
    if d.stride.stopPend then d1.withStride (fun x => { x with stopPend := false })
    else
      ((d1.set R.STRIDE_STATUS_PENDING 1).withStride
        (fun x => { x with next := d.firstIndex, fenceAt := none, finished := [], skips := [] })).showNext

/-- A write of 0 to RUN (R40): the next base edge is the last. -/
def Dev.runStop (d : Dev) : Dev :=
  if d.on R.STRIDE_CTRL_RUN then
    (d.set R.STRIDE_CTRL_RUN 0).withStride (fun x => { x with stopPend := true })
  else d

/-- CLR_STATS (R62): the skip, slack and overrun counters take their reset values (`MIN_SLACK` 0xFFFFFF: DESIGN CHOICE, log entry 177). -/
def Dev.strideClrStats (d : Dev) : Dev :=
  ((d.set R.STRIDE_SKIP_SKIPPED 0).set R.STRIDE_MIN_SLACK_MIN_SLACK 0xFFFFFF).clear ((List.range 4).map R.GAIT_OVR_CNT)

/-- A write refused with LOCKED (R39). -/
def Dev.locked (d : Dev) (w : Writer) (off : Nat) : Dev := (d.set R.STRIDE_STATUS_CFG_ERR 2).rsvWrite w off

/-- A write of `STRIDE_CTRL` (R37 to R40, R62). -/
def Dev.strideCtrlWrite (d : Dev) (w : Writer) (v : Nat) : Dev :=
  let d1 := if v.testBit 4 then d.strideClrStats else d
  let sel := bits v 1 3
  let d2 := if sel = d.strideTb then d1
    else if d.on R.STRIDE_CTRL_RUN then d1.locked w 0x60000 else d1.set R.STRIDE_CTRL_TB_SEL sel
  let d3 := if v.testBit 0 then d2.runStart else d2.runStop
  d3.rsvIf (v / 32 != 0) w 0x60000

/-- A write of a register that R39 locks while RUN is 1. -/
def Dev.lockedWordWrite (d : Dev) (w : Writer) (off v : Nat) : Dev :=
  let r := d.wordWrite off v
  let changes := decide (r.1.word off ≠ d.word off)
  if d.on R.STRIDE_CTRL_RUN && changes then d.locked w off else r.1.rsvIf r.2 w off

/-- A write of `LATCH_PHASE[b]` (R49, R70). -/
def Dev.latchPhaseWrite (d : Dev) (w : Writer) (b v : Nat) : Dev :=
  let d1 := if phaseOk (v % 2 ^ 16) d.strideG then d.set (R.LATCH_PHASE_PHASE b) v else d.set R.STRIDE_STATUS_CFG_ERR 5
  d1.rsvIf (v / 2 ^ 16 != 0) w (0x60200 + b * 4)

/-! ### Lunge units (R51 to R60) -/

/-- Lunge unit `n`. -/
def Dev.lunge (d : Dev) (n : Nat) : LungeSt := d.stride.lunges.getD n {}
/-- The device with Lunge unit `n` changed. -/
def Dev.setLunge (d : Dev) (n : Nat) (x : LungeSt) : Dev := d.withStride (fun s => { s with lunges := s.lunges.put n x })

/-- UPDATE (R55, R737): latches target, acceleration and step; an UPDATE after the fence enters one edge later. -/
def Dev.lungeUpdate (d : Dev) (n : Nat) : Dev :=
  let late := d.gaitClosed (d.get (R.LUNGE_CTRL_GAIT n))
  let taken := (d.get (R.LUNGE_TARGET n), d.get (R.LUNGE_ACCEL n), d.get (R.LUNGE_STEP n), if late then 2 else 1)
  let d1 := (d.setLunge n { d.lunge n with latched := some taken }).set (R.LUNGE_CTRL_UPDATE n) 1
  if late then d1.set (R.LUNGE_STATUS_UPD_LATE n) 1 else d1

/-- A write of 1 to EN (R56): takes effect at the next edge of the unit's gait. -/
def Dev.lungeEnable (d : Dev) (n : Nat) : Dev :=
  if d.on (R.LUNGE_CTRL_EN n) then d
  else (d.set (R.LUNGE_CTRL_EN n) 1).setLunge n { d.lunge n with enPend := some true }

/-- A write of 0 to EN (R57). -/
def Dev.lungeDisable (d : Dev) (n : Nat) : Dev :=
  if d.on (R.LUNGE_CTRL_EN n) then (d.set (R.LUNGE_CTRL_EN n) 0).setLunge n { d.lunge n with enPend := some false }
  else d

/-- A write of `LUNGE_CTRL[n]` (R55 to R58, R71). -/
def Dev.lungeCtrlWrite (d : Dev) (w : Writer) (n v : Nat) : Dev :=
  let changes := bits v 2 2 ≠ d.get (R.LUNGE_CTRL_GAIT n) ∨ bits v 4 2 ≠ d.get (R.LUNGE_CTRL_LEAD n)
  let busy := d.on (R.LUNGE_CTRL_EN n) || d.on (R.LUNGE_STATUS_ACTIVE n)
  let d1 := if changes then
      (if busy then d.set (R.LUNGE_STATUS_CFG_REJ n) 1
       else (d.set (R.LUNGE_CTRL_GAIT n) (bits v 2 2)).set (R.LUNGE_CTRL_LEAD n) (bits v 4 2))
    else d
  let d2 := if v.testBit 1 then d1.lungeUpdate n else d1
  let d3 := if v.testBit 0 then d2.lungeEnable n else d2.lungeDisable n
  d3.rsvIf (v / 64 != 0) w (0x60400 + n * 0x40)

/-- The new velocity of R53. -/
def lungeVel (v target accel : Int) : Int :=
  if accel = 0 then target
  else if v < target then min (v + accel) target
  else if target < v then max (v - accel) target
  else v

/-- The parameters of unit `n` at an edge of its gait: an UPDATE whose edge has come is taken (R55), also at an edge at which the unit makes no
R53 step; its step waits for the first R53 step (DESIGN CHOICE, log entry 178). -/
def Dev.lungeTake (d : Dev) (n : Nat) : Dev :=
  let x := d.lunge n
  match x.latched with
  | none => d
  | some (t, a, s, k) =>
    if k ≤ 1 then
      ((d.setLunge n { x with takenTarget := t, takenAccel := a, takenStep := s, latched := none }).set
        (R.LUNGE_CTRL_UPDATE n) 0).set (R.LUNGE_STEP n) 0
    else d.setLunge n { x with latched := some (t, a, s, k - 1) }

/-- One R53 step of unit `n` with LUNGE_DONE (R59). -/
def Dev.lungeStepOnce (d : Dev) (n : Nat) : Dev :=
  let x := d.lunge n
  let v := toSigned 40 (d.get (R.LUNGE_VEL n))
  let t := toSigned 40 x.takenTarget
  let v' := lungeVel v t x.takenAccel
  let p' := d.get (R.LUNGE_POS n) + ofSigned 40 v' + x.takenStep
  let d1 := ((d.set (R.LUNGE_VEL n) (ofSigned 40 v')).set (R.LUNGE_POS n) p').setLunge n { x with takenStep := 0 }
  let g := d.get (R.LUNGE_CTRL_GAIT n)
  if v' = t ∧ (v ≠ t ∨ d.on (R.LUNGE_STATUS_AT_TARGET n) = false) then d1.gaitCause g (R.GAIT_STATUS_LUNGE_DONE g) 3 else d1

/-- AT_TARGET: v equals the taken target (R71). -/
def Dev.lungeShow (d : Dev) (n : Nat) : Dev :=
  d.set (R.LUNGE_STATUS_AT_TARGET n) (if d.get (R.LUNGE_VEL n) = (d.lunge n).takenTarget % 2 ^ 40 then 1 else 0)

/-- Unit `n` at an edge of its gait (R53 to R57). -/
def Dev.lungeEdge (d : Dev) (n : Nat) : Dev :=
  let d1 := d.lungeTake n
  let d2 := match (d1.lunge n).enPend with
    | some true =>
      (((d1.setLunge n { d1.lunge n with enPend := none }).set (R.LUNGE_POS n) (d1.get (R.LUNGE_POS_SET n))).set
        (R.LUNGE_VEL n) 0).set (R.LUNGE_STATUS_ACTIVE n) 1
    | some false =>
      ((d1.setLunge n { d1.lunge n with enPend := none }).set (R.LUNGE_VEL n) 0).set (R.LUNGE_STATUS_ACTIVE n) 0
    | none => if d1.on (R.LUNGE_STATUS_ACTIVE n) then d1.lungeStepOnce n else d1
  d2.lungeShow n

/-- Every Lunge unit whose gait has an edge at index `n` (R53). -/
def Dev.lungesAt (d : Dev) (n : Nat) : Dev :=
  (List.range 4).foldl (fun (a : Dev) u => if a.gaitEdge (a.get (R.LUNGE_CTRL_GAIT u)) n then a.lungeEdge u else a) d

end Sys2Proof.Machine
end

