-- ==== Sys2Proof/Machine/Orchard.lean ====
section
/-! DEFINITION. Orchard (chapter 10): the checks of an access, the fault log, ECC, power states, ownership and handover,
scrubbing; and the write rules of image regions (R128, R129) that every port obeys. -/

namespace Sys2Proof.Machine
open Sys2Proof

/-- Who makes an Orchard access (R464, R473): the port (0 A, 1 B, 2 C, 3 D), the agent it is checked as, the engine for port A;
whether ownership is checked; whether it is a mapping write (R129) or exempt from the region rules (R128). -/
structure Req where
  port    : Nat
  agent   : Nat
  engine  : Nat := 0
  checked : Bool := true
  mapping : Bool := false
  exempt  : Bool := false

/-- Port A for an engine (R473). -/
def Req.ofEngine (e : Nat) : Req := { port := 0, agent := e / 4, engine := e }
/-- Port B on behalf of an agent (R473). -/
def Req.sys (agent : Nat) : Req := { port := 1, agent := agent }
/-- Port B for mapping writes on behalf of an agent (R129, R143). -/
def Req.cells (agent : Nat) : Req := { port := 1, agent := agent, mapping := true }
/-- The host window on port C. -/
def Req.hostC : Req := { port := 2, agent := 12 }
/-- The finisher and the scrubber, which act for no agent (R473, R493). -/
def Req.finisher : Req := { port := 1, agent := 15, checked := false, exempt := true }
/-- The edge sampler and the latch reads on port D. -/
def Req.portD : Req := { port := 3, agent := 15, checked := false, exempt := true }

/-- The cause of `BANK_STATUS` bit `i` of bank `n` (R488, R492). -/
def Dev.bankCause (d : Dev) (n : Nat) (f : Fld) (i : Nat) : Dev :=
  d.cause f ((d.get (R.ORCH_EVT_EN (n / 4))).testBit i) (216 + n / 4)

/-- The quad fault log of bank `n` (R493): the first fault after VALID was cleared, and the count. -/
def Dev.faultLog (d : Dev) (n cause : Nat) (r : Req) (write : Bool) (addr : Nat) : Dev :=
  let q := n / 4
  let d1 := d.inc (R.ORCH_FAULT_CNT q)
  if d.on (R.ORCH_FAULT_INFO_VALID q) then d1 else
  (((((((d1.set (R.ORCH_FAULT_INFO_VALID q) 1).set (R.ORCH_FAULT_INFO_CAUSE q) cause).set (R.ORCH_FAULT_INFO_PORT q) r.port).set
    (R.ORCH_FAULT_INFO_BANK q) (n % 4)).set (R.ORCH_FAULT_INFO_WRITE q) (if write then 1 else 0)).set
    (R.ORCH_FAULT_INFO_AGENT q) r.agent).set (R.ORCH_FAULT_INFO_ENGINE q) r.engine).set (R.ORCH_FAULT_ADDR q) addr

/-- A bank fault (R471, R474): the log with its cause, then FAULT and the Orchard event. -/
def Dev.bankFault (d : Dev) (n cause : Nat) (r : Req) (write : Bool) (addr : Nat) : Dev :=
  (d.faultLog n cause r write addr).bankCause n (R.BANK_STATUS_FAULT n) 0

/-- Why an access to bank `n` is refused, as a CAUSE code: POWER (R471) or NOT_OWNER (R473, R474); 0 when it is allowed. -/
def Dev.bankRefuses (d : Dev) (n : Nat) (r : Req) : Nat :=
  if d.get (R.BANK_POWER_STATE n) ≠ 0 then 2
  else if r.checked && d.get (R.BANK_OWNER_AGENT n) != r.agent then 1
  else 0

/-! ### Regions -/

/-- Region `r`. -/
def Dev.region (d : Dev) (r : Nat) : Region := d.img.regions.getD r {}
/-- The device with region `r` changed. -/
def Dev.setRegion (d : Dev) (r : Nat) (x : Region) : Dev := { d with img := { d.img with regions := d.img.regions.put r x } }
/-- The regions that the active configuration defines (R153). -/
def Dev.regionList (d : Dev) : List Nat := (List.range 256).filter (fun r => d.on (R.IMG_CFG_VALID r))
/-- The bytes of a region with its directory (R120). -/
def Dev.regionBytes (d : Dev) (r : Nat) : Nat := 3 * d.get (R.IMG_SIZE_BUF_BYTES r) + 4 * d.get (R.IMG_CFG_ITEMS r)
/-- The offset in the bank of buffer `b` of region `r` (R120). -/
def Dev.bufOff (d : Dev) (r b : Nat) : Nat := d.get (R.IMG_BASE_BASE r) + b * d.get (R.IMG_SIZE_BUF_BYTES r)
/-- The start of the data area in a buffer (R121). -/
def Dev.dataOff (d : Dev) (r : Nat) : Nat := (16 + d.get (R.IMG_CFG_ITEMS r) + 7) / 8 * 8
/-- The agent of a producer (R119, R489). -/
def Producer.agent : Producer → Nat
  | .team t => t
  | .host => 12
  | .sampler => 15

/-- The region of bank `n` that the byte range from `off` touches. -/
def Dev.regionAt (d : Dev) (n off len : Nat) : Option Nat :=
  d.regionList.find? (fun r => d.get (R.IMG_CFG_BANK r) == n &&
    decide (off < d.get (R.IMG_BASE_BASE r) + d.regionBytes r) && decide (d.get (R.IMG_BASE_BASE r) < off + len))

/-- Whether a region lets a write through (R128, R129): while WORKING is open, its producer may write the data area and byte
11 of WORKING through port A or C, and a mapping write the data area through port B. -/
def Dev.regionAllows (d : Dev) (r off len : Nat) (q : Req) : Bool :=
  let x := d.region r
  let w := d.bufOff r (d.get (R.IMG_STATE_WORK r))
  let inData := decide (w + d.dataOff r ≤ off) && decide (off + len ≤ w + d.get (R.IMG_SIZE_BUF_BYTES r))
  q.exempt || (x.opened &&
    (((q.port == 0 || q.port == 2) && Producer.agent x.producer == q.agent && (inData || (off == w + 11 && len == 1))) ||
     (q.port == 1 && q.mapping && inData)))

/-! ### Reads and writes -/

/-- The error mark of the word that holds an address (R467). -/
def Dev.eccAt (d : Dev) (addr : Nat) : Option Ecc := Tab.find? d.orch.ecc (addr / 8 * 8)

/-- The device with the error mark of a word set or removed. -/
def Dev.setEcc (d : Dev) (addr : Nat) (m : Option Ecc) : Dev :=
  { d with orch := { d.orch with ecc :=
      (match m with
       | some e => d.orch.ecc.put (addr / 8 * 8) e
       | none => d.orch.ecc.del (addr / 8 * 8)) } }

/-- An uncorrectable error met in bank `n` (R467, R468): UE, the log, the system event. -/
def Dev.bankUe (d : Dev) (n : Nat) (r : Req) (write : Bool) (addr : Nat) : Dev :=
  let d1 := (d.faultLog n 4 r write addr).bankCause n (R.BANK_STATUS_UE n) 5
  if write then d1 else d1.eccEvent 2

/-- A corrected error met in bank `n` (R467): CE, the count, and the word waits for its write-back. -/
def Dev.bankCe (d : Dev) (n addr : Nat) : Dev :=
  let d1 := ({ d with orch := { d.orch with writeBack := d.orch.writeBack ++ [addr / 8 * 8] } }).addSat (R.BANK_STATUS_CE_CNT n) 1
  d1.bankCause n (R.BANK_STATUS_CE n) 4

/-- The word addresses that a byte range touches (R465). -/
def wordsOf (addr len : Nat) : List Nat := (List.range ((addr % 8 + len + 7) / 8)).map (fun i => (addr / 8 + i) * 8)

/-- Whether a write of a byte range covers the whole word at `w` (R468). -/
def wordFull (addr len w : Nat) : Bool := decide (addr ≤ w) && decide (w + 8 ≤ addr + len)

/-- The ECC effects of reading a byte range (R467), each in the bank of its word. -/
def Dev.readEcc (d : Dev) (addr len : Nat) (r : Req) : Dev :=
  (wordsOf addr len).foldl (fun (a : Dev) w =>
    match a.eccAt w with
    | some .ce => a.bankCe (w / 0x80000) w
    | some .ue => a.bankUe (w / 0x80000) r false (w % 0x80000)
    | none => a) d

/-- An Orchard read of `len` bytes at an Orchard offset by a requester (R467, R471, R473, R474): the bytes, the device after
it. A refused read returns zeros. -/
def orchRead (m : List Host.Cell) (d : Dev) (r : Req) (addr len : Nat) : List Byte × Dev :=
  let n := addr / 0x80000
  let c := d.bankRefuses n r
  if c ≠ 0 then (List.replicate len 0, d.bankFault n c r false (addr % 0x80000))
  else (Mem.bytes m addr len, d.readEcc addr len r)

/-- The device after an Orchard write passes or fails its checks; `true` when the bytes are to be written (R128, R129, R468,
R471, R473, R474). -/
def Dev.writeCheck (d : Dev) (r : Req) (addr len : Nat) : Dev × Bool :=
  let n := addr / 0x80000
  let c := d.bankRefuses n r
  if c ≠ 0 then (d.bankFault n c r true (addr % 0x80000), false)
  else match (d.regionAt n (addr % 0x80000) len).filter (fun g => !d.regionAllows g (addr % 0x80000) len r) with
    | some g => (d.set (R.IMG_FLAGS_WRITE_REJ g) 1, false)
    | none =>
      if (wordsOf addr len).any (fun w => !wordFull addr len w && d.eccAt w == some .ue) then
        (d.bankUe n r true (addr % 0x80000), false)
      else ((wordsOf addr len).foldl (fun (a : Dev) w => if wordFull addr len w then a.setEcc w none else a) d, true)

/-- An Orchard write by a requester. -/
def State.orchWrite (s : State) (r : Req) (addr : Nat) (bs : List Byte) : State :=
  let c := s.dev.writeCheck r addr bs.length
  { s with dev := c.1, mem := if c.2 then Mem.setBytes s.mem addr bs else s.mem }

/-- A write of several words within one bank (R468): of a word with an uncorrectable error that it covers in part, only that part is dropped. -/
def State.orchSpan (s : State) (r : Req) (addr : Nat) (bs : List Byte) : State :=
  let h := min bs.length ((8 - addr % 8) % 8)
  let m := (bs.length - h) / 8 * 8
  if (wordsOf addr bs.length).any (fun w => !wordFull addr bs.length w && s.dev.eccAt w == some .ue) then
    let put := fun (a : State) (o : Nat) (l : List Byte) => if l = [] then a else a.orchWrite r (addr + o) l
    put (put (put s 0 (bs.take h)) h ((bs.drop h).take m)) (h + m) (bs.drop (h + m))
  else s.orchWrite r addr bs

/-- A write of several words, each bank checked for its part (R473). -/
def State.orchStore (s : State) (r : Req) (addr : Nat) (bs : List Byte) : State :=
  let k := 0x80000 - addr % 0x80000
  if bs.length ≤ k then s.orchSpan r addr bs else (s.orchSpan r addr (bs.take k)).orchSpan r (addr + k) (bs.drop k)

/-- The state with its device changed. -/
def State.on (s : State) (f : Dev → Dev) : State := { s with dev := f s.dev }

/-! ### One access of the table's row, with a second one in the same cycle (R478, R479) -/

/-- The requester of an access row. -/
def reqOf (a : OrchAccess) : Req :=
  match a.agent with
  | .engine e => Req.ofEngine e.val
  | .team t => Req.sys t.val
  | .host => Req.hostC
  | .hostB => Req.sys 12
  | .mover => Req.sys 13
  | .bridle => Req.sys 14
  | .can c => { port := 1, agent := 0x100 + c.val }
  | .sampler => Req.portD

/-- The requester with the agent that a CAN controller acts for (R473). -/
def Dev.reqOf (d : Dev) (a : OrchAccess) : Req :=
  match a.agent with
  | .can c => Req.sys (d.get (R.CAN_CFG_AGENT c.val))
  | _ => Sys2Proof.Machine.reqOf a

/-- The rank of a port in a write collision (R478): D, B, A, C. -/
def portRank (p : Nat) : Nat := match p with | 3 => 0 | 1 => 1 | 0 => 2 | _ => 3

/-- A write lost in a collision (R478). -/
def Dev.writeLost (d : Dev) (n : Nat) (r : Req) (addr : Nat) : Dev :=
  let d1 := d.faultLog n 3 r true addr
  match r.port with
  | 0 => d1.bankCause n (R.BANK_STATUS_WL_A n) 2
  | 1 => d1.bankCause n (R.BANK_STATUS_WL_B n) 1
  | 2 => d1.bankCause n (R.BANK_STATUS_WL_C n) 3
  | _ => d1

/-- One access performed: a write stores its bytes, a read leaves what it returned in `rdata`. -/
def State.access (s : State) (a : OrchAccess) : State :=
  let addr := a.addr % 0x2000000
  match a.write with
  | some bs => s.orchWrite (s.dev.reqOf a) addr bs
  | none =>
    let r := orchRead s.mem s.dev (s.dev.reqOf a) addr a.len
    { s with dev := { r.2 with rdata := [BitVec.ofNat 32 (leNat r.1), BitVec.ofNat 32 (leNat (r.1.drop 4))] } }

/-- Whether two requesters can meet in one cycle (R478): not two of the engine path, whose order is the order of their grants (R464, R480), nor
two of one port. -/
def portsMeet (p q : Nat) : Bool := p != q && !(p % 2 == 0 && q % 2 == 0)

/-- Two accesses of one bank in the same cycle (R478 to R480): of two writes to one word that both pass the ownership check
the one of the lower rank is discarded; a read through B or D sees the written word, one through A or C the old word. Two of one path are
performed one after the other. -/
def State.access2 (s : State) (a b : OrchAccess) : State :=
  let ra := s.dev.reqOf a
  let rb := s.dev.reqOf b
  let n := a.addr % 0x2000000 / 0x80000
  let same := a.addr % 0x2000000 / 8 == b.addr % 0x2000000 / 8
  if !portsMeet ra.port rb.port then (s.access a).access b else
  match a.write, b.write with
  | some _, some _ =>
    if same && s.dev.bankRefuses n ra == 0 && s.dev.bankRefuses n rb == 0 then
      (if portRank ra.port ≤ portRank rb.port then
        (s.access a).on (fun d => d.writeLost n rb (b.addr % 0x80000))
       else (s.access b).on (fun d => d.writeLost n ra (a.addr % 0x80000)))
    else (s.access a).access b
  | some _, none => if rb.port = 1 ∨ rb.port = 3 then (s.access a).access b else (s.access b).access a
  | none, some _ => if ra.port = 1 ∨ ra.port = 3 then (s.access b).access a else (s.access a).access b
  | none, none => (s.access a).access b

/-- One access, or two in the same cycle when they name the same bank. -/
def State.access12 (s : State) (a : OrchAccess) (b : Option OrchAccess) : State :=
  match b with
  | none => s.access a
  | some x => if a.addr % 0x2000000 / 0x80000 = x.addr % 0x2000000 / 0x80000 then s.access2 a x else (s.access a).access x

/-- An error asserted in the word of an address (R467): what a row says that a read finds. -/
def Dev.upset (d : Dev) (addr : Nat) (e : Option Ecc) : Dev :=
  match e with
  | none => d
  | some .ce => d.setEcc addr (some .ce)
  | some .ue => d.setEcc addr (some .ue)

/-! ### Power (R470 to R472) -/

/-- A refused register write of an Orchard control register (R493). -/
def Dev.handoverRej (d : Dev) (w : Writer) (n : Nat) : Dev :=
  let r : Req := match w with
    | .engine e => Req.ofEngine e.val
    | .bridle => Req.sys 14
    | _ => Req.hostC
  d.bankFault n 5 r true 0

/-- The state that bank `n` is to reach: the newest request, and RETENTION in place of ON inside its window (R470, R632). -/
def Dev.bankWants (d : Dev) (n : Nat) : Nat :=
  if d.get (R.BANK_POWER_REQ n) = 0 ∧ d.orch.window.contains n then 1 else d.get (R.BANK_POWER_REQ n)

/-- A scrub pass is complete when every bank that is ON has wrapped its walk (R469); with no bank ON none is. -/
def Dev.scrubPass (d : Dev) : Dev :=
  let live := (List.range 64).filter (fun n => d.get (R.BANK_POWER_STATE n) == 0)
  if live ≠ [] ∧ live.all (fun n => d.orch.wrapped.contains n) then
    ({ d with orch := { d.orch with wrapped := [] } }).inc R.ORCH_SCRUB_PASSES
  else d

/-- A request for a power state takes effect: a transition starts, or nothing is to be done (R470). A bank that leaves ON is not waited for by
the scrub pass (R469). -/
def Dev.bankStart (d : Dev) (n : Nat) : Dev :=
  let st := d.get (R.BANK_POWER_STATE n)
  let rq := d.bankWants n
  if st = 3 ∨ st = rq then d
  else (({ d with orch := { d.orch with target := d.orch.target.put n rq } }).set (R.BANK_POWER_STATE n) 3).scrubPass

/-- A power request accepted for bank `n` (R470). -/
def Dev.bankRequest (d : Dev) (n rq : Nat) : Dev := (d.set (R.BANK_POWER_REQ n) rq).bankStart n

/-- A write of `BANK_POWER[n]` (R472, R491). -/
def Dev.bankPowerWrite (d : Dev) (w : Writer) (n v : Nat) : Dev :=
  let off := 0x40008 + n * 0x10
  let rq := bits v 0 2
  if agentOf w ≠ d.get (R.BANK_OWNER_AGENT n) ∧ w ≠ .bridle then d.handoverRej w n
  else if rq = 3 then d.rsvWrite w off
  else if rq ≠ 0 ∧ d.on (R.BANK_OWNER_CFG_LOCK n) then d.handoverRej w n
  else (d.bankRequest n rq).rsvIf (v / 2 ^ 10 != 0 || bits v 2 6 != 0) w off

/-- A bank reaches the target of its transition and moves on to the newest request (R470). -/
def Dev.bankPowerDone (d : Dev) (n : Nat) : Dev :=
  match Tab.find? d.orch.target n with
  | none => d
  | some t =>
    let d1 := { d with orch := { d.orch with target := d.orch.target.del n } }
    (d1.set (R.BANK_POWER_STATE n) t).bankStart n

/-- The marks of the words of bank `n` removed. -/
def Dev.clearBankEcc (d : Dev) (n : Nat) : Dev :=
  { d with orch := { d.orch with
      ecc := d.orch.ecc.filter (fun e => e.1 / 0x80000 != n),
      writeBack := d.orch.writeBack.filter (fun a => a / 0x80000 != n) } }

/-- The completion of a bank power transition (R470): a bank that was turned off has lost its contents, every word is 0. -/
def State.bankPowerDone (s : State) (n : Nat) : State :=
  match Tab.find? s.dev.orch.target n with
  | some 2 => { s with dev := (s.dev.bankPowerDone n).clearBankEcc n, mem := Mem.clearRange s.mem (bankBase n) 0x80000 }
  | _ => s.on (fun d => d.bankPowerDone n)

/-- The banks inside their windows changed. -/
def Dev.setWindow (d : Dev) (l : List Nat) : Dev := { d with orch := { d.orch with window := l } }

/-- START of the retention window of bank `n`, in ns after the edge (R632, R651: units of 8 ns). -/
def Dev.retStart (d : Dev) (n : Nat) : Nat := 8 * d.get (R.BANK_RET_START n)
/-- END of the retention window of bank `n`, in ns after the edge (R632, R651). -/
def Dev.retEnd (d : Dev) (n : Nat) : Nat := 8 * d.get (R.BANK_RET_END n)
/-- Whether bank `n` has a retention window (R632, R651). -/
def Dev.hasWindow (d : Dev) (n : Nat) : Bool := d.retStart n != 0 || d.retEnd n != 0

/-- The retention window of bank `n` starts, at START ns after the last base edge (R632). -/
def Dev.retentionEnter (d : Dev) (n : Nat) : Dev :=
  if !d.hasWindow n || !d.on R.STRIDE_STATUS_RUNNING || d.orch.window.contains n then d
  else
    let d1 := d.passStride ((d.edgeNs d.stride.last + d.retStart n) * 2 ^ 32)
    (d1.setWindow (n :: d1.orch.window)).bankStart n

/-- Bank `n` begins its exit 200 ns before the end of its window (R632). -/
def Dev.retentionExit (d : Dev) (n : Nat) : Dev :=
  if !d.orch.window.contains n then d
  else
    let d1 := d.passStride ((d.edgeNs d.stride.last + (d.retEnd n - 200)) * 2 ^ 32)
    (d1.setWindow (d1.orch.window.erase n)).bankStart n

/-! ### Ownership (R475 to R477) -/

/-- The pending handover of bank `n` cancelled. -/
def Dev.cancelHandover (d : Dev) (n : Nat) : Dev := (d.set (R.BANK_OWNER_PEND n) 0).set (R.BANK_OWNER_PEND_AGENT n) 0

/-- The owner of bank `n` changed. -/
def Dev.setOwner (d : Dev) (n agent : Nat) : Dev := (d.cancelHandover n).set (R.BANK_OWNER_AGENT n) agent

/-- A handover accepted (R476): at once, or pending until the next image flip; to the present owner it cancels a pending
one. -/
def Dev.handover (d : Dev) (n dest : Nat) (now : Bool) : Dev :=
  if dest = d.get (R.BANK_OWNER_AGENT n) then d.cancelHandover n
  else if now || !d.strideLive then d.setOwner n dest
  else (d.set (R.BANK_OWNER_PEND n) 1).set (R.BANK_OWNER_PEND_AGENT n) dest

/-- A write of `BANK_HANDOVER[n]` (R475, R476, R490). -/
def Dev.bankHandoverWrite (d : Dev) (w : Writer) (n v : Nat) : Dev :=
  let off := 0x40004 + n * 0x10
  if agentOf w ≠ d.get (R.BANK_OWNER_AGENT n) ∧ w ≠ .bridle then d.handoverRej w n
  else if bits v 0 4 = 15 then d.rsvWrite w off
  else if d.on (R.BANK_OWNER_CFG_LOCK n) then d.handoverRej w n
  else (d.handover n (bits v 0 4) (v.testBit 4)).rsvIf (v / 32 != 0) w off

/-- Every pending handover takes effect (R476), at an image flip or when the stride has stopped. -/
def Dev.handoversNow (d : Dev) : Dev :=
  (List.range 64).foldl (fun (a : Dev) n =>
    if a.on (R.BANK_OWNER_PEND n) then a.setOwner n (a.get (R.BANK_OWNER_PEND_AGENT n)) else a) d

/-! ### Scrubbing (R469) -/

/-- The word of bank `n` that the scrubber reads next, as an address. -/
def Dev.scrubAddr (d : Dev) (n : Nat) : Nat := bankBase n + 8 * d.orch.walk.getD n 0

/-- One scrub read of bank `n`: a corrected word is written back, an uncorrectable one is flagged, the walk advances. -/
def Dev.scrubOne (d : Dev) (n : Nat) : Dev :=
  if d.get (R.BANK_POWER_STATE n) ≠ 0 then d else
  let a := d.scrubAddr n
  let d1 := match d.eccAt a with
    | some .ce => (((d.addSat (R.BANK_STATUS_CE_CNT n) 1).bankCause n (R.BANK_STATUS_CE n) 4)).setEcc a none
    | some .ue => d.bankUe n Req.finisher false (a % 0x80000)
    | none => d
  let w := d.orch.walk.getD n 0 + 1
  { d1 with orch := { d1.orch with
      walk := d1.orch.walk.put n (w % 65536),
      wrapped := if w = 65536 ∧ ¬ d1.orch.wrapped.contains n then n :: d1.orch.wrapped else d1.orch.wrapped,
      writeBack := d1.orch.writeBack.filter (fun x => x != a) } }

/-- The scrub interval expires for bank `n` (R469). -/
def Dev.scrub (d : Dev) (n : Nat) : Dev :=
  if d.on R.ORCH_CTRL_SCRUB_EN then (d.scrubOne n).scrubPass else d

/-- Queued write-backs done in the free cycles of a tick (R467, R469): every queued word that is still marked as corrected is written back. -/
def Dev.writeBacks (d : Dev) : Dev :=
  d.orch.writeBack.foldl (fun (a : Dev) x => if a.eccAt x == some .ce then a.setEcc x none else a)
    { d with orch := { d.orch with writeBack := [] } }

/-- CLR_CNT of `ORCH_CTRL` (R494). -/
def Dev.orchClrCnt (d : Dev) : Dev :=
  (d.clear ((List.range 64).map R.BANK_STATUS_CE_CNT)).clear ((List.range 16).map R.ORCH_FAULT_CNT)

/-- A write of `ORCH_CTRL` (R494). -/
def Dev.orchCtrlWrite (d : Dev) (w : Writer) (v : Nat) : Dev :=
  let r := d.wordWrite 0x42000 v
  (if v.testBit 1 then r.1.orchClrCnt else r.1).rsvIf r.2 w 0x42000

end Sys2Proof.Machine
end

