-- ==== Sys2Proof/Machine/Images.lean ====
section
/-! DEFINITION. Process images and mapping (chapter 3): items, commits and ages, the current view, the finisher, the flip,
mapping rules and the cells that carry their results. -/

namespace Sys2Proof.Machine
open Sys2Proof

/-! ### Items -/

/-- An entry of the item directory (R123). -/
structure ItemDir where
  type : Nat
  len  : Nat
  off  : Nat

/-- The BAR2 offset of buffer `b` of region `r` (R120). -/
def Dev.bufAddr (d : Dev) (r b : Nat) : Nat := bankBase (d.get (R.IMG_CFG_BANK r)) + d.bufOff r b

/-- The directory entry of item `i` of region `r` (R120, R123). -/
def itemDir (m : List Host.Cell) (d : Dev) (r i : Nat) : ItemDir :=
  let w := leNat (Mem.bytes m (bankBase (d.get (R.IMG_CFG_BANK r)) + d.bufOff r 3 + 4 * i) 4)
  { type := bits w 28 4, len := bits w 16 10 + 1, off := bits w 0 16 }

/-- The bytes that an item of a type occupies (R124). -/
def typeBytes (type len : Nat) : Nat :=
  match type with
  | 0 | 1 | 2 => 1
  | 3 | 4 => 2
  | 5 | 6 => 4
  | 7 => 8
  | 8 => len
  | _ => 0

/-- The size in bytes of an item. -/
def ItemDir.size (x : ItemDir) : Nat := typeBytes x.type x.len

/-- The age of item `i` in buffer `b` of region `r` (R121). -/
def itemAge (m : List Host.Cell) (d : Dev) (r b i : Nat) : Nat := (Mem.byte m (d.bufAddr r b + 16 + i)).toNat

/-- The bytes of item `i` in buffer `b` of region `r`. -/
def itemBytes (m : List Host.Cell) (d : Dev) (r b i : Nat) : List Byte :=
  let x := itemDir m d r i
  Mem.bytes m (d.bufAddr r b + x.off) x.size

/-- The current view of item `i` of region `r` (R133): its bytes and age. -/
def currentView (m : List Host.Cell) (d : Dev) (r i : Nat) : List Byte × Nat :=
  match Tab.find? (d.region r).committed i with
  | some age => (itemBytes m d r (d.get (R.IMG_STATE_WORK r)) i, age)
  | none =>
    let b := d.get (R.IMG_STATE_PUB r)
    (itemBytes m d r b i, min 255 (itemAge m d r b i + 1))

/-! ### Commits (R131, R132, R737) -/

/-- A commit of one item or of all (R132): refused when the WORKING buffer is closed, the item does not exist or the agent may
not commit (`may`); else the age replaces any earlier one of the stride. -/
def Dev.commit (d : Dev) (r : Nat) (item : Option Nat) (age : Nat) (may : Bool) : Dev :=
  let x := d.region r
  let n := d.get (R.IMG_CFG_ITEMS r)
  let idx := item.getD 0
  if !x.opened || !may || !d.on (R.IMG_CFG_VALID r) || decide (n ≤ idx) then d.set (R.IMG_FLAGS_COMMIT_REJ r) 1
  else match item with
    | some i => d.setRegion r { x with committed := x.committed.put i (age % 256) }
    | none => d.setRegion r { x with committed := (List.range n).map (fun i => (i, age % 256)) }

/-- A host write of `IMG_COMMIT[r]` (R132, R157). -/
def Dev.imgCommitWrite (d : Dev) (w : Writer) (r v : Nat) : Dev :=
  let may := d.on (R.IMG_CFG_HOST_PROD r) && (d.region r).producer == .host && agentOf w == 12
  (d.commit r (if v.testBit 31 then none else some (bits v 0 12)) (bits v 12 8) may).rsvIf (bits v 20 11 != 0) w
    (0x48014 + r * 0x20)

/-- Whether the instance that produces region `r` is held (R606). -/
def Dev.heldRegion (d : Dev) (r : Nat) : Bool := (d.region r).inst.any (fun i => d.upd.held.contains i)

/-- An engine store to ENG_COMMIT (R131, R393): the engine's team must be the region's producer. -/
def Dev.engCommit (d : Dev) (e r : Nat) (item : Option Nat) (age : Nat) : Dev :=
  if d.heldRegion r then d else d.commit r item age ((d.region r).producer == .team (e / 4))

/-! ### The finisher (R134 to R136) -/

/-- The items that a sample binding writes into region `r` (R138, R498). -/
def Dev.sampled (d : Dev) (r : Nat) : List Nat :=
  ((List.range 64).filter (fun i => d.on (R.STIR_SBIND_VALID i) && d.get (R.STIR_SBIND_REGION i) == r)).map
    (fun i => d.get (R.STIR_SBIND_ITEM i))

/-- The ages committed in the stride, those of sampled items among them (R138; DEDUCED, log entry 7). -/
def Dev.ages (d : Dev) (r : Nat) : Tab Nat :=
  if (d.region r).producer = .sampler then (d.sampled r).foldl (fun t i => t.put i 0) (d.region r).committed
  else (d.region r).committed

/-- The age and whether it is a repeat, of item `i` of region `r` as the finisher publishes it; `inc` is 1 plus the skipped
edges (R134, R136). -/
def finishAge (m : List Host.Cell) (d : Dev) (r inc i : Nat) (whole : Bool) : Nat × Bool :=
  match (if whole then none else Tab.find? (d.ages r) i) with
  | some a => (a, false)
  | none => (min 255 (itemAge m d r (d.get (R.IMG_STATE_PUB r)) i + inc), true)

/-- The 16 bytes of a buffer header (R122). -/
def headerBytes (count seq flags status lo maxAge : Nat) : List Byte :=
  leBytes 8 (if count.testBit 39 then count + (2 ^ 64 - 2 ^ 40) else count) ++
  [BitVec.ofNat 8 seq, BitVec.ofNat 8 flags, BitVec.ofNat 8 lo, BitVec.ofNat 8 status, BitVec.ofNat 8 maxAge, 0, 0, 0]

/-- Copies the PUBLISHED bytes of item `i` into WORKING. -/
def State.copyItem (s : State) (r i : Nat) : State :=
  let d := s.dev
  let x := itemDir s.mem d r i
  if x.size = 0 then s else
  s.orchWrite Req.finisher (d.bufAddr r (d.get (R.IMG_STATE_WORK r)) + x.off)
    (itemBytes s.mem d r (d.get (R.IMG_STATE_PUB r)) i)

/-- The flags and counters of the publication (R156, R158) from its ages and repeats. -/
def Dev.countAges (d : Dev) (r : Nat) (whole : Bool) (l : List (Nat × Bool)) : Dev :=
  let aged := (l.filter (fun e => e.1 != 0)).length
  let d1 := d.set (R.IMG_CNT_AGED_ITEMS r) (d.get (R.IMG_CNT_AGED_ITEMS r) + aged)
  let d2 := if aged ≠ 0 then d1.set (R.IMG_FLAGS_AGED r) 1 else d1
  let d3 := if l.any (fun e => e.1 == 255 && e.2) then d2.set (R.IMG_FLAGS_SAT r) 1 else d2
  if whole then (d3.set (R.IMG_FLAGS_REPEAT r) 1).inc (R.IMG_CNT_REPEATS r) else d3

/-- The finisher on one region (R134 to R136): `n` is the index of the edge, `halted` whether an engine of its producer is
halted. -/
def State.finishRegion (s : State) (r n : Nat) (halted : Bool) : State :=
  let d := s.dev
  let x := d.region r
  let g := d.get (R.IMG_CFG_GAIT r)
  let skip := d.stride.skips.getD g 0
  let whole := x.late || halted
  let items := List.range (d.get (R.IMG_CFG_ITEMS r))
  let fin := items.map (fun i => finishAge s.mem d r (1 + skip) i whole)
  let pub := d.bufAddr r (d.get (R.IMG_STATE_PUB r))
  let work := d.bufAddr r (d.get (R.IMG_STATE_WORK r))
  let s1 := (items.zip fin).foldl (fun (a : State) e => if e.2.2 then a.copyItem r e.1 else a) s
  let s2 := if items = [] then s1 else
    s1.orchStore Req.finisher (work + 16) (fin.map (fun e => BitVec.ofNat 8 e.1))
  let isNew := !whole && fin.any (fun e => e.1 == 0)
  let status := if whole then (Mem.byte s.mem (pub + 11)).toNat
    else if x.producer = .sampler then 0x20 else if d.heldRegion r then 0x40 else (Mem.byte s2.mem (work + 11)).toNat
  let flags := (if isNew then 1 else 0) + 2 + (if whole then 8 else 0)
  let lo := (if x.published then 0 else 2) + (if skip ≠ 0 then 1 else 0)
  let maxAge := fin.foldl (fun a e => max a e.1) 0
  s2.orchWrite Req.finisher work (headerBytes (n / d.gaitP g % 2 ^ 40) (d.get (R.IMG_STATE_SEQ r) + 1) flags status lo maxAge)

/-- The regions of gait `g`. -/
def Dev.regionsOf (d : Dev) (g : Nat) : List Nat := d.regionList.filter (fun r => d.get (R.IMG_CFG_GAIT r) == g)

/-- The finisher of gait `g` before the edge of index `n` (R134); `halted` names the regions whose producer is halted. -/
def State.finisher (s : State) (g n : Nat) (halted : List Nat) : State :=
  let s1 := (s.dev.regionsOf g).foldl (fun (a : State) r => a.finishRegion r n (halted.contains r)) s
  s1.on (fun d => d.withStride (fun x => { x with finished := g :: x.finished }))

/-- The latch bindings whose region's gait has an edge at index `n` (R499). -/
def Dev.latchBindsAt (d : Dev) (n : Nat) : List Nat :=
  (List.range 64).filter (fun i => d.on (R.STIR_LBIND_VALID i) && d.gaitEdge (d.get (R.IMG_CFG_GAIT (d.get (R.STIR_LBIND_REGION i)))) n)

/-- The reads that port D makes of bank `b` from the fence of index `n` (R137, R484). -/
def Dev.latchReads (d : Dev) (n b : Nat) : Nat :=
  ((d.latchBindsAt n).filter (fun i => d.get (R.IMG_CFG_BANK (d.get (R.STIR_LBIND_REGION i))) == b)).length

/-- The longest time in ns from the fence of index `n` until the finisher has completed a bank (R137, R484): it starts 16 ns after the fence, or
when the bank's latch reads end, and moves 8 bytes each ns. -/
def Dev.finishTime (d : Dev) (n : Nat) : Nat :=
  let rs := d.regionList.filter (fun r => d.gaitEdge (d.get (R.IMG_CFG_GAIT r)) n)
  (List.range 64).foldl (fun a b =>
    max a ((rs.filter (fun r => d.get (R.IMG_CFG_BANK r) == b)).foldl (fun t r => t + (d.get (R.IMG_SIZE_BUF_BYTES r) + 7) / 8)
      (max 16 (d.latchReads n b)))) 16

/-! ### Sampling and the flip (R126 to R128, R138, R499) -/

/-- The level at the ball of a pin (R496): a trigger above all, then the pin's function, then external equipment. -/
def Dev.pinDriven (d : Dev) (p : Nat) : Option Bool :=
  match (List.range 8).find? (fun t => d.on (R.TRG_CTRL_EN t) && d.get (R.TRG_CTRL_PIN t) == p) with
  | some t => some (d.trgLevel t)
  | none =>
    match d.get (R.GPIO_CFG_FUNC p) with
    | 1 =>
      let m := d.io.machs.getD (p / 24 * 8 + d.get (R.GPIO_CFG_MACH p)) {}
      if m.oe.testBit (p % 24) then some (m.drv.testBit (p % 24)) else none
    | 2 => some (if d.io.latched.getLsbD p then d.io.latchLv.getLsbD p else d.on (R.GPIO_CFG_LATCH_INIT p))
    | _ => none

/-- The level that every reader of pin GPp reads (R496). -/
def Dev.pinLevel (d : Dev) (p : Nat) : Bool := (d.pinDriven p).getD (d.io.ext.getLsbD p)

/-- The levels of `n` pins from `p`, as a number. -/
def Dev.pinBits (d : Dev) (p n : Nat) : Nat := (List.range n).foldl (fun a i => if d.pinLevel (p + i) then a + 2 ^ i else a) 0

/-- What sample binding `i` writes at an edge of its region's gait (R138, R499). -/
def State.sampleBinding (s : State) (i : Nat) : State :=
  let d := s.dev
  let r := d.get (R.STIR_SBIND_REGION i)
  let x := itemDir s.mem d r (d.get (R.STIR_SBIND_ITEM i))
  let v := d.pinBits (d.get (R.STIR_SBIND_PIN i)) (d.get (R.STIR_SBIND_COUNT_M1 i) + 1)
  s.orchWrite Req.portD (d.bufAddr r (d.get (R.IMG_STATE_WORK r)) + x.off) (leBytes x.size v)

/-- The edge sampler at index `n` (R138). -/
def State.edgeSample (s : State) (n : Nat) : State :=
  (List.range 64).foldl (fun (a : State) i =>
    if a.dev.on (R.STIR_SBIND_VALID i) && a.dev.gaitEdge (a.dev.get (R.IMG_CFG_GAIT (a.dev.get (R.STIR_SBIND_REGION i)))) n
    then a.sampleBinding i else a) s

/-- One header's ROLE bits (R122, R127). -/
def setRole (m : List Host.Cell) (addr role : Nat) : List Host.Cell :=
  let b := (Mem.byte m (addr + 9)).toNat
  Mem.setByte m (addr + 9) (BitVec.ofNat 8 (b % 2 + 2 * role + b / 8 * 8))

/-- The registers after the flip of region `r` (R126, R155): roles rotate, IMG_STATE shows the new PUBLISHED header; the new
WORKING buffer opens. -/
def Dev.flipRegs (d : Dev) (r n seq flags maxAge : Nat) : Dev :=
  let w := d.get (R.IMG_STATE_WORK r)
  let p := d.get (R.IMG_STATE_PUB r)
  let q := d.get (R.IMG_STATE_SAMP r)
  let d1 := (((((d.set (R.IMG_STATE_PUB r) w).set (R.IMG_STATE_SAMP r) p).set (R.IMG_STATE_WORK r) q).set
    (R.IMG_STATE_SEQ r) seq).set (R.IMG_STATE_NEW r) (flags % 2)).set (R.IMG_STATE_MAX_AGE r) maxAge
  d1.setRegion r { d.region r with opened := true, committed := [], published := true, late := false, pubIndex := n }

/-- What the buffer that region `r` publishes says of each item: its age and whether it is a repeat (R156); a whole-region repeat
is told by its header. -/
def publishedAges (m : List Host.Cell) (d : Dev) (r : Nat) : Bool × List (Nat × Bool) :=
  let whole := (Mem.byte m (d.bufAddr r (d.get (R.IMG_STATE_WORK r)) + 9)).toNat.testBit 3
  (whole, (List.range (d.get (R.IMG_CFG_ITEMS r))).map (fun i =>
    (itemAge m d r (d.get (R.IMG_STATE_WORK r)) i, whole || (Tab.find? (d.ages r) i).isNone)))

/-- The flip of region `r` at the edge of index `n` (R126, R127), with the flags and counters of the publication (R156, R158). -/
def State.flipRegion (s : State) (r n : Nat) : State :=
  let p := publishedAges s.mem s.dev r
  let d := s.dev.countAges r p.1 p.2
  let w := d.bufAddr r (d.get (R.IMG_STATE_WORK r))
  let p := d.bufAddr r (d.get (R.IMG_STATE_PUB r))
  let q := d.bufAddr r (d.get (R.IMG_STATE_SAMP r))
  let m := setRole (setRole (setRole s.mem w 2) p 0) q 1
  { s with mem := m,
           dev := d.flipRegs r n (Mem.byte m (w + 8)).toNat (Mem.byte m (w + 9)).toNat (Mem.byte m (w + 12)).toNat }

/-- The flip of every region whose gait has an edge at index `n` (R126, R28). -/
def State.flip (s : State) (n : Nat) : State :=
  (s.dev.regionList.filter (fun r => s.dev.gaitEdge (s.dev.get (R.IMG_CFG_GAIT r)) n)).foldl
    (fun (a : State) r => a.flipRegion r n) s

/-- The WORKING buffers of gait `g` close at its fence (R128). -/
def Dev.closeGait (d : Dev) (g : Nat) : Dev :=
  (d.regionsOf g).foldl (fun (a : Dev) r => a.setRegion r { a.region r with opened := false }) d

/-! ### Mapping rules (R142 to R147) -/

/-- Rule `n` of the active configuration. -/
def Dev.rule? (d : Dev) (n : Nat) : Option MapRule := d.img.rules[n]?
/-- The run of rule `n` in the stride of its gait. -/
def Dev.ruleRun (d : Dev) (n : Nat) : RuleRun := d.img.runs.getD n {}
/-- The device with the run of rule `n` changed. -/
def Dev.setRuleRun (d : Dev) (n : Nat) (x : RuleRun) : Dev := { d with img := { d.img with runs := d.img.runs.put n x } }

/-- The agent that owns the bank of region `r`. -/
def Dev.regionOwner (d : Dev) (r : Nat) : Nat := d.get (R.BANK_OWNER_AGENT (d.get (R.IMG_CFG_BANK r)))

/-- The executor of a rule (R143): the owner of its source banks, or of the destination bank when it has no region source. -/
def Dev.executor (d : Dev) (x : MapRule) : Nat :=
  if x.srcKind = 0 then d.regionOwner x.srcRegion
  else if x.src2Kind = 0 then d.regionOwner x.src2Region
  else d.regionOwner x.dstRegion

/-- The requester that an executor reads its sources as (R143): a team's coprocessor on port A, the mover on port B. -/
def execReq (agent : Nat) : Req := if agent < 12 then { port := 0, agent := agent, engine := agent * 4 } else Req.sys agent

/-- The number an item's bytes hold by its type (R146). -/
def itemValue (type : Nat) (bs : List Byte) : Int :=
  let v := leNat bs
  match type with
  | 0 => (v % 2 : Nat)
  | 2 => toSigned 8 v
  | 4 => toSigned 16 v
  | 6 => toSigned 32 v
  | 7 => toSigned 40 v
  | _ => v

/-- The range of a type (R146). -/
def typeRange (type : Nat) : Int × Int :=
  match type with
  | 0 => (0, 1)
  | 1 => (0, 255)
  | 2 => (-128, 127)
  | 3 => (0, 65535)
  | 4 => (-32768, 32767)
  | 5 => (0, 4294967295)
  | 6 => (-2147483648, 2147483647)
  | _ => (-549755813888, 549755813887)

/-- A value saturated to a type, and whether it was (R146). -/
def saturate (type : Nat) (v : Int) : Int × Bool :=
  let r := typeRange type
  if v < r.1 then (r.1, true) else if r.2 < v then (r.2, true) else (v, false)

/-- CONVERT of a value to a type (R146): a BIT destination is 1 for any non-zero value, any other saturates. -/
def convertTo (type : Nat) (v : Int) : Int × Bool := if type = 0 then (if v = 0 then 0 else 1, false) else saturate type v

/-- The bits of a type, for WRAP (R146). -/
def typeBits (type : Nat) : Nat := if type = 7 then 40 else if type = 0 then 1 else 8 * typeBytes type 0

/-- The bytes that store a value in an item of a type (R11, R124). -/
def valueBytes (type : Nat) (v : Int) : List Byte :=
  if type = 7 then leBytes 8 (ofSigned 64 v) else leBytes (typeBytes type 1) (ofSigned (8 * typeBytes type 1) v)

/-- The age of a source item in destination strides (R147): `cur` and `pub` are the base indices of the present stride and of
the source's publication. -/
def convertAge (ps pd age cur pub : Nat) : Nat :=
  if ps = pd then age
  else if pd < ps then
    let m := ps / pd
    min 255 (age * m + min (m - 1) (cur / pd - pub / pd))
  else age / (pd / ps)

/-- One source of a rule for its `i`-th item: bytes, type, age in destination strides; and the device after the read. -/
def readSource (m : List Host.Cell) (d : Dev) (kind region item : Nat) (x : MapRule) (i : Nat) :
    List Byte × Nat × Nat × Dev :=
  match kind with
  | 0 =>
    let it := item + i
    let dir := itemDir m d region it
    let view := if x.chain then currentView m d region it
      else (itemBytes m d region (d.get (R.IMG_STATE_PUB region)) it, itemAge m d region (d.get (R.IMG_STATE_PUB region)) it)
    let b := if x.chain && (Tab.find? (d.region region).committed it).isSome then d.get (R.IMG_STATE_WORK region)
      else d.get (R.IMG_STATE_PUB region)
    let rd := orchRead m d (execReq (d.executor x)) (d.bufAddr region b + dir.off) dir.size
    let age := convertAge (d.gaitP (d.get (R.IMG_CFG_GAIT region))) (d.gaitP (d.get (R.IMG_CFG_GAIT x.dstRegion))) view.2
      d.stride.last (d.region region).pubIndex
    (rd.1, dir.type, age, rd.2)
  | 1 => (valueBytes 7 (toSigned 40 (d.get (R.LUNGE_POS (region % 4)))), 7, 0, d)
  | 2 => (valueBytes 7 (toSigned 40 (d.get (R.LUNGE_VEL (region % 4)))), 7, 0, d)
  | _ => (valueBytes 7 x.k, 7, 0, d)

/-- A saturated result counted (R146). -/
def Dev.convSat (d : Dev) (sat : Bool) : Dev := if sat then (d.inc R.MAP_SAT_CNT).set R.MAP_FLAGS_CONV_SAT 1 else d

/-- The result of a rule for its `i`-th item (R146): bytes, age, and the device after it. -/
def ruleResult (m : List Host.Cell) (d : Dev) (x : MapRule) (i : Nat) : List Byte × Nat × Dev :=
  let dt := (itemDir m d x.dstRegion (x.dstItem + i)).type
  let a := readSource m d x.srcKind x.srcRegion x.srcItem x i
  let va := itemValue a.2.1 a.1
  match x.op with
  | 0 => (a.1, a.2.2.1, a.2.2.2)
  | 1 => let r := convertTo dt va; (valueBytes dt r.1, a.2.2.1, a.2.2.2.convSat r.2)
  | 2 => let r := saturate dt (va * x.k / 2 ^ 24); (valueBytes dt r.1, a.2.2.1, a.2.2.2.convSat r.2)
  | _ =>
    let b := readSource m a.2.2.2 x.src2Kind x.src2Region x.src2Item x i
    let sum := va + itemValue b.2.1 b.1
    let age := max a.2.2.1 b.2.2.1
    if x.wrap then (valueBytes dt (itemValue dt (leBytes 8 (ofSigned (typeBits dt) sum))), age, b.2.2.2)
    else let r := saturate dt sum; (valueBytes dt r.1, age, b.2.2.2.convSat r.2)

/-- The results of a rule for its COUNT items. -/
def ruleResults (m : List Host.Cell) (d : Dev) (x : MapRule) : List (List Byte × Nat) × Dev :=
  (List.range x.count).foldl (fun (a : List (List Byte × Nat) × Dev) i =>
    let r := ruleResult m a.2 x i
    (a.1 ++ [(r.1, r.2.1)], r.2.2)) ([], d)

/-- Whether a source that a WAIT bit names is satisfied (R144): of a rule that takes a range of items, once every one of them is committed
(DESIGN CHOICE, log entry 174). -/
def Dev.waitBit (d : Dev) (kind region item count : Nat) : Bool :=
  if kind = 0 then (List.range count).all (fun i => (Tab.find? (d.region region).committed (item + i)).isSome) else true

/-- Whether every source named in the WAIT mask is satisfied; WAIT = 0 waits on nothing and runs at DEADLINE (R144). -/
def Dev.waitOk (d : Dev) (x : MapRule) : Bool :=
  x.wait != 0 &&
  (x.wait % 2 == 0 || d.waitBit x.srcKind x.srcRegion x.srcItem x.count) &&
  (x.wait / 2 % 2 == 0 || d.waitBit x.src2Kind x.src2Region x.src2Item x.count)

/-- The stride that work of gait `g` belongs to now: the base index of the next edge of that gait. -/
def Dev.workStride (d : Dev) (g : Nat) : Nat := if d.strideLive then (d.stride.next + d.gaitP g - 1) / d.gaitP g else 0

/-- The present value in ns of the stride time base, as the instant of a completion of stride work (R67). -/
def Dev.workDone (d : Dev) : Dev := d.withStride (fun x => { x with lastWork := d.tbNs d.strideTb })

/-- The items of a delivery written and committed into the WORKING buffer of the destination (R143, R144); a delivery whose
stride is over is dropped and refused (R144). -/
def State.deliverItems (s : State) (q : Req) (region item stride : Nat) (l : List (List Byte × Nat)) : State :=
  let d := s.dev
  let g := d.get (R.IMG_CFG_GAIT region)
  if d.strideLive && stride != d.workStride g then
    s.on (fun d => (d.set (R.IMG_FLAGS_WRITE_REJ region) 1).set (R.IMG_FLAGS_COMMIT_REJ region) 1)
  else
    (l.zip (List.range l.length)).foldl (fun (a : State) e =>
      let x := itemDir a.mem a.dev region (item + e.2)
      let a1 := if e.1.1 = [] then a else
        a.orchWrite q (a.dev.bufAddr region (a.dev.get (R.IMG_STATE_WORK region)) + x.off) e.1.1
      a1.on (fun d => d.commit region (some (item + e.2)) e.1.2 true)) s

/-- The run of rule `n` marked as delivered. -/
def Dev.ruleDelivered (d : Dev) (n : Nat) : Dev :=
  (d.setRuleRun n { d.ruleRun n with delivered := true }).workDone

/-- A mapping rule runs (R143 to R147): a CHAIN rule when its WAIT mask is satisfied or else at its DEADLINE; at most once per
stride of its gait, and not after the fence. -/
def State.runRule (s : State) (n : Nat) : State :=
  match s.dev.rule? n with
  | none => s
  | some x =>
    let g := s.dev.get (R.IMG_CFG_GAIT x.dstRegion)
    if (s.dev.ruleRun n).started || s.dev.gaitClosed g then s else
    let d0 := if x.chain && !s.dev.waitOk x && s.dev.strideLive then
        s.dev.passStride ((s.dev.edgeNs (s.dev.stride.last / s.dev.gaitP g * s.dev.gaitP g) + x.deadline) * 2 ^ 32)
      else s.dev
    let stride := d0.workStride g
    let r := ruleResults s.mem d0 x
    let ex := d0.executor x
    let dst := d0.regionOwner x.dstRegion
    let d1 := r.2.setRuleRun n { started := true, delivered := false, stride := stride }
    if ex = dst then
      (({ s with dev := d1 }).deliverItems (if ex < 12 then { Req.cells ex with port := 1 } else Req.cells 12)
        x.dstRegion x.dstItem stride r.1).on (fun d => d.ruleDelivered n)
    else
      let m : MapCells := { rule := some n, src := ex, region := x.dstRegion, item := x.dstItem, items := r.1, stride := stride }
      { s with dev := d1.sendCells m dst (r.1.map (fun i => i.1.length)).sum }

/-- Mapping cells reach their destination port: 0 to 11 a team port, 12 F38 for the host window (R143). The oldest list for that port is
written and committed when its last cell is in the output store; a list of which a cell was dropped (R170) is lost. -/
def State.deliverCells (s0 : State) (dst : Nat) : State :=
  match s0.dev.img.cells.find? (fun c => c.port.getD (s0.dev.regionOwner c.region) == dst) with
  | none => s0
  | some c0 =>
    let s := s0.on (fun d => d.fabWait (fun x => (x.img.cells.find? (fun c => c.id == c0.id)).any (fun c => x.cellsThere c dst)))
    let c := (s.dev.img.cells.find? (fun c => c.id == c0.id)).getD c0
    if !s.dev.cellsThere c dst then s else
    let s0 := s.on (fun d => (d.dropCells c).dropList c)
    let s1 := match c.mover with
      | some e => s0.on (fun d => d.setEngine e { d.engine e with sg := { (d.engine e).sg with done := (d.engine e).sg.done + 1 } })
      | none => s0
    if c.lost then s1 else
    let g := s1.dev.get (R.IMG_CFG_GAIT c.region)
    let inTime := !s1.dev.gaitClosed g && (!s1.dev.strideLive || c.stride == s1.dev.workStride g)
    let s2 := if c.items = [] then s1.on (fun d => d.set (R.IMG_FLAGS_COMMIT_REJ c.region) 1)
      else s1.deliverItems (Req.cells dst) c.region c.item c.stride c.items
    match c.rule with
    | some n => if inTime then s2.on (fun d => d.ruleDelivered n) else s2
    | none => s2

/-- A rule that has not delivered when the fence of its gait acts is late (R135, R159). -/
def Dev.ruleLate (d : Dev) (n : Nat) (x : MapRule) : Dev :=
  let d1 := (((d.inc R.MAP_LATE_LATE_CNT).set R.MAP_LATE_LAST n).set R.MAP_FLAGS_LATE 1)
  d1.setRegion x.dstRegion { d1.region x.dstRegion with late := true }

/-- The rules of gait `g`, with their numbers. -/
def Dev.rulesOf (d : Dev) (g : Nat) : List (Nat × MapRule) :=
  ((List.range d.img.rules.length).zip d.img.rules).filter (fun e => d.get (R.IMG_CFG_GAIT e.2.dstRegion) == g)

/-- The rules of gait `g` that are late at its fence (R135): those that an edge of the gait has made due since RUN and that have not
delivered (log entry 165). -/
def Dev.lateRules (d : Dev) (g : Nat) : List (Nat × MapRule) :=
  (d.rulesOf g).filter (fun e => (Tab.find? d.img.runs e.1).any (fun x => !x.delivered))

/-- A new stride of gait `g`: its rules are due, and may run again. -/
def Dev.resetRuns (d : Dev) (g : Nat) : Dev := (d.rulesOf g).foldl (fun (a : Dev) e => a.setRuleRun e.1 {}) d

end Sys2Proof.Machine
end

