-- ==== Sys2Proof/Machine/Punnet.lean ====
section
/-! DEFINITION. The Punnet FIFOs (chapter 11): packing, boundaries, gaps, reading, flushing, resynchronisation. -/

namespace Sys2Proof.Machine
open Sys2Proof

/-- Punnet `n`. -/
def Dev.pn (d : Dev) (n : Nat) : Punnet := d.io.pns.getD n {}

/-- The device with Punnet `n` changed; FILL follows (R520). -/
def Dev.setPn (d : Dev) (n : Nat) (x : Punnet) : Dev :=
  ({ d with io := { d.io with pns := d.io.pns.put n x } }).set (R.PN_STATUS_FILL n) x.q.length

/-- The cause of `PN_STATUS[n]` bit `i` (R529). -/
def Dev.pnCause (d : Dev) (n : Nat) (f : Fld) (i : Nat) : Dev := d.cause f ((d.get (R.PN_EVT_EN n)).testBit i) (64 + n)

/-- An entry enters Punnet `n`; LEVEL when FILL reaches `PN_LEVEL` from below (R520). -/
def Dev.pnPush (d : Dev) (n : Nat) (e : PnEntry) : Dev :=
  let x := d.pn n
  let lv := d.get (R.PN_LEVEL n)
  let d1 := d.setPn n { x with q := x.q ++ [e] }
  if lv ≠ 0 ∧ x.q.length < lv ∧ lv ≤ x.q.length + 1 then d1.pnCause n (R.PN_STATUS_LEVEL n) 0 else d1

/-- The newest entry changed. -/
def Dev.pnNewest (d : Dev) (n : Nat) (f : PnEntry → PnEntry) : Dev :=
  let x := d.pn n
  match x.q.getLast? with
  | some e => d.setPn n { x with q := x.q.dropLast ++ [f e] }
  | none => d

/-- One byte enters the assembly word; the fifth pushes it (R516). -/
def Dev.pnByte (d : Dev) (n b : Nat) : Dev :=
  let x := d.pn n
  let asm := x.asm + b % 256 * 2 ^ (8 * x.fill)
  if x.fill = 4 then (d.setPn n { x with asm := 0, fill := 0 }).pnPush n { data := asm, valid := 5 }
  else d.setPn n { x with asm := asm, fill := x.fill + 1 }

/-- The assembly word, if it holds bytes, is pushed with its count (R517, R519). -/
def Dev.pnPushAsm (d : Dev) (n : Nat) (last : Bool) : Dev :=
  let x := d.pn n
  if x.fill = 0 then d
  else (d.setPn n { x with asm := 0, fill := 0 }).pnPush n { data := x.asm, valid := x.fill, last := last }

/-- An item from the Punnet's writer (R516, R519). -/
def Dev.pnItem (d : Dev) (n v : Nat) : Dev :=
  let x := d.pn n
  if x.q.length ≤ 125 then
    let d1 := d.setPn n { x with run := false, items := true }
    let d2 := d1.pnByte n v
    if d.on (R.PN_CFG_W16 n) then d2.pnByte n (v / 256) else d2
  else if x.run then
    d.pnNewest n (fun e => { e with data := min 65535 (e.data % 65536 + 1) })
  else
    let d1 := (d.pnPushAsm n false).pnPush n { data := 1, gap := true }
    (d1.setPn n { d1.pn n with run := true }).pnCause n (R.PN_STATUS_GAP n) 1

/-- Everything a Punnet holds is discarded (R523). -/
def Dev.pnEmpty (d : Dev) (n : Nat) : Dev :=
  (d.setPn n { d.pn n with q := [], asm := 0, fill := 0, run := false, items := false }).set (R.PN_CTRL_FLUSH n) 0

/-- A packet boundary (R517, R519, R523). -/
def Dev.pnBoundary (d : Dev) (n : Nat) : Dev :=
  let x := d.pn n
  if d.on (R.PN_CTRL_FLUSH n) then d.pnEmpty n
  else
    let d0 := d.setPn n { x with items := false }
    if x.run ∧ x.q = [] then d0.setPn n { d0.pn n with run := false }
    else if x.run then (d0.pnNewest n (fun e => { e with last := true })).pnCause n (R.PN_STATUS_PKT n) 4
    else if x.fill ≠ 0 then (d0.pnPushAsm n true).pnCause n (R.PN_STATUS_PKT n) 4
    else if x.q = [] then d0
    else (d0.pnNewest n (fun e => { e with last := true })).pnCause n (R.PN_STATUS_PKT n) 4

/-- Whether the Punnet's writer is this source (R518): kind 0 `PN_WR`, 1 Stirrup machine, 2 serial channel. -/
def Dev.pnWriter (d : Dev) (n kind index : Nat) : Bool :=
  d.get (R.PN_CFG_SRC_KIND n) == kind && (kind == 0 || d.get (R.PN_CFG_SRC_INDEX n) == index)

/-- An item from some source (R518): dropped with WR_REJ when the source is not the writer. -/
def Dev.pnItemFrom (d : Dev) (n kind index v : Nat) : Dev :=
  if d.pnWriter n kind index then d.pnItem n v else d.pnCause n (R.PN_STATUS_WR_REJ n) 5

/-- A boundary from some source. -/
def Dev.pnBoundaryFrom (d : Dev) (n kind index : Nat) : Dev :=
  if d.pnWriter n kind index then d.pnBoundary n else d.pnCause n (R.PN_STATUS_WR_REJ n) 5

/-- A write of `PN_WR[n]` (R516 to R518, R529). -/
def Dev.pnWrWrite (d : Dev) (w : Writer) (n v : Nat) : Dev :=
  let d1 :=
    if !d.pnWriter n 0 0 then d.pnCause n (R.PN_STATUS_WR_REJ n) 5
    else
      let a := if v.testBit 17 then d else d.pnItem n (v % 65536)
      if v.testBit 16 then a.pnBoundary n else a
  d1.rsvIf (v / 2 ^ 18 != 0) w (0x70010 + n * 0x20)

/-- The 64-bit value that `PN_RD` shows for an entry (R529). -/
def pnValue (e : PnEntry) (under : Bool) : Nat :=
  e.data % 2 ^ 40 + (e.valid % 8) * 2 ^ 40 + (if e.last then 2 ^ 43 else 0) + (if e.gap then 2 ^ 44 else 0) + (if under then 2 ^ 45 else 0)

/-- A pop through `PN_RD[n]` (R521, R522): the value and the device after it. -/
def Dev.pnRead (d : Dev) (w : Writer) (n : Nat) : Nat × Dev :=
  let x := d.pn n
  if agentOf w ≠ d.get (R.PN_CFG_RD_AGENT n) then (0, d.pnCause n (R.PN_STATUS_RD_REJ n) 6)
  else match (if x.resync = [] then x.q else []) with
    | e :: q => (pnValue e false, d.setPn n { x with q := q, lastRead := some e })
    | [] => (pnValue (x.lastRead.getD {}) true, d.pnCause n (R.PN_STATUS_UNDERRUN n) 2)

/-- FLUSH (R523): at the next boundary, or at once when no item has come since the last one. -/
def Dev.pnFlush (d : Dev) (n : Nat) : Dev :=
  if (d.pn n).fill = 0 ∧ (d.pn n).items = false then d.pnEmpty n else d.set (R.PN_CTRL_FLUSH n) 1

/-- A write of `PN_CFG[n]` (R523, R529): the fields, and the Punnet is emptied. -/
def Dev.pnCfgWrite (d : Dev) (w : Writer) (n v : Nat) : Dev :=
  let r := d.wordWrite (0x70000 + n * 0x20) v
  (r.1.pnEmpty n).rsvIf r.2 w (0x70000 + n * 0x20)

/-- The shadow keys of readers: which reader, and the BAR0 offset of the shadowed word (R10). -/
def readerCode (w : Writer) : Nat :=
  match w with
  | .pcie => 0
  | .qspi => 1
  | .bridle => 2
  | .engine e => 3 + e.val
/-- The key of a shadow. -/
def shadowKey (w : Writer) (off : Nat) : Nat := readerCode w * 2 ^ 20 + off

/-- The PCIe reset of the host side acts on the host-facing side of Punnet `n` (R524). -/
def Dev.pnHostReset (d : Dev) (n : Nat) : Dev :=
  let rd := d.get (R.PN_CFG_RD_AGENT n) == 12
  let wr := d.get (R.PN_CFG_SRC_KIND n) == 0
  if !rd && !wr then d
  else if d.on (R.PN_CFG_RESYNC n) then
    d.setPn n { d.pn n with resync := (if rd then [0] else []) ++ (if wr then [1] else []) }
  else d.pnEmpty n

/-- What is left of the entries when the read pointer moves past the newest entry with END (R524). -/
def afterLastEnd (q : List PnEntry) : List PnEntry := if q.any (fun e => e.last) then (q.reverse.takeWhile (fun e => !e.last)).reverse else []

/-- The resync handshake of Punnet `n` completes (R524). -/
def Dev.pnResyncDone (d : Dev) (n : Nat) : Dev :=
  let x := d.pn n
  if x.resync = [] then d else
  let d1 := if x.resync.contains 0 then
      let off := 0x7001C + n * 0x20
      { d.setPn n { x with q := afterLastEnd x.q, resync := [] } with
        shadows := d.shadows.filter (fun e => e.1 % 2 ^ 20 != off) }
    else d.setPn n { x with resync := [] }
  let d2 := if x.resync.contains 1 then
      let y := d1.pn n
      let c := d1.setPn n { y with asm := 0, fill := 0 }
      if y.fill ≠ 0 ∧ y.q.length < 128 then c.pnPush n { gap := true } else c
    else d1
  d2.pnCause n (R.PN_STATUS_RESYNCED n) 7

end Sys2Proof.Machine
end

