-- ==== Sys2Proof/Machine/Stirrup.lean ====
section
/-! DEFINITION. The Stirrup machines (chapter 11): start and stop, the FIFOs, the instructions with their waits and stalls. -/

namespace Sys2Proof.Machine
open Sys2Proof

/-- The Stirrup counter SC (R502). -/
def Dev.stirSc (d : Dev) : Nat := d.tbNs (d.get R.STIR_TIME_CFG_TB) / 5 % 2 ^ 64
/-- SC at an instant `back` phases of 250 ps before the present tick (R78). -/
def Dev.stirScAt (d : Dev) (back : Nat) : Nat := d.stampBack (d.get R.STIR_TIME_CFG_TB) back / 2 ^ 32 % 2 ^ 64 / 5 % 2 ^ 64

/-- Machine `i` (R495: machine 8b + m is machine m of block b). -/
def Dev.mach (d : Dev) (i : Nat) : StirM := d.io.machs.getD i {}

/-- The device with machine `i` changed; the registers that show it follow (R527). -/
def Dev.setMach (d : Dev) (i : Nat) (x : StirM) : Dev :=
  let b := i / 8
  let m := i % 8
  let d1 := { d with io := { d.io with machs := d.io.machs.put i x } }
  ((((((d1.set (R.STIR_MSTATUS_PC b m) x.pc).set (R.STIR_MSTATUS_STATE b m) x.state).set (R.STIR_MOE b m) x.oe).set
    (R.STIR_MFILL_XFILL b m) x.xfill).set (R.STIR_MFILL_RFILL b m) x.rfill).set (R.STIR_MSTATUS_RX_LEVEL b m) x.rx.length).set
    (R.STIR_TX_LEVEL b m) x.tx.length

/-- The cause of `STIR_MSTATUS` bit `k` of machine `i` (R525). -/
def Dev.machCause (d : Dev) (i : Nat) (f : Nat → Nat → Fld) (k : Nat) : Dev :=
  d.cause (f (i / 8) (i % 8)) (k != 0 && (d.get (R.STIR_EVT_EN_CAUSE (i / 8))).testBit (k - 1)) (174 + i / 8)

/-- BASE and WIDTH of a lane of machine `i` (R504). -/
def Dev.lane (d : Dev) (i lane : Nat) : Nat × Nat :=
  let b := i / 8
  let m := i % 8
  match lane with
  | 0 => (d.get (R.STIR_MLANES01_BASE0 b m), d.get (R.STIR_MLANES01_W0 b m))
  | 1 => (d.get (R.STIR_MLANES01_BASE1 b m), d.get (R.STIR_MLANES01_W1 b m))
  | 2 => (d.get (R.STIR_MLANES23_BASE2 b m), d.get (R.STIR_MLANES23_W2 b m))
  | _ => (d.get (R.STIR_MLANES23_BASE3 b m), d.get (R.STIR_MLANES23_W3 b m))

/-- The block offsets of a lane. -/
def lanePins (l : Nat × Nat) : List Nat := (List.range l.2).map (fun i => l.1 + i)

/-! ### Start and stop (R512) -/

/-- Whether a start of machine `i` is refused (R512). -/
def Dev.startBad (d : Dev) (i : Nat) : Bool :=
  let b := i / 8
  let m := i % 8
  decide (d.get (R.STIR_WRAP_TOP b m) < d.get (R.STIR_WRAP_BOTTOM b m)) ||
  decide (d.get (R.STIR_MSHIFT_DIV_M1 b m) + 1 ≤ d.get (R.STIR_MSHIFT_SAMPLE b m)) ||
  (List.range 4).any (fun l => let x := d.lane i l
    x.2 == 0 || decide (24 < x.2) || decide (23 < x.1 + x.2 - 1)) ||
  (d.on (R.STIR_MSHIFT_PN_EN b m) && !d.pnWriter (d.get (R.STIR_MSHIFT_PN b m)) 1 i)

/-- ENABLED of `STIR_BLK_STATUS` follows EN. -/
def Dev.showEnabled (d : Dev) (b : Nat) : Dev :=
  d.set (R.STIR_BLK_STATUS_ENABLED b)
    ((List.range 8).foldl (fun a m => if d.on (R.STIR_MCTRL_EN b m) then a + 2 ^ m else a) 0)

/-- Start of machine `i` (R512). -/
def Dev.machStart (d : Dev) (i : Nat) : Dev :=
  let b := i / 8
  let m := i % 8
  if d.startBad i then d.set (R.STIR_MSTATUS_CFG_REJ b m) 1
  else
    ((d.set (R.STIR_MCTRL_EN b m) 1).setMach i
      { d.mach i with pc := d.get (R.STIR_WRAP_BOTTOM b m), xw := 0, xfill := 0, rw := 0, rfill := 0, oe := 0, state := 1,
                      held := none, steps := 0 }).showEnabled b

/-- Stop of machine `i` (R512): its pins hold their levels, since OE is kept. -/
def Dev.machStop (d : Dev) (i : Nat) : Dev :=
  let b := i / 8
  ((d.set (R.STIR_MCTRL_EN b (i % 8)) 0).setMach i { d.mach i with state := 0, held := none, steps := 0 }).showEnabled b

/-- A write of `STIR_MCTRL` (R512, R527). -/
def Dev.mctrlWrite (d : Dev) (w : Writer) (i v : Nat) : Dev :=
  (if v.testBit 0 then d.machStart i else d.machStop i).rsvIf (v / 2 != 0) w (0x80200 + i / 8 * 0x1000 + i % 8 * 0x40)

/-- A write of `STIR_BLK_CTRL[b]` (R512, R526): the machines of STOP stop, then those of START start. -/
def Dev.blkCtrlWrite (d : Dev) (w : Writer) (b v : Nat) : Dev :=
  let d1 := (List.range 8).foldl (fun (a : Dev) m => if v.testBit (8 + m) then a.machStop (8 * b + m) else a) d
  let d2 := (List.range 8).foldl (fun (a : Dev) m => if v.testBit m then a.machStart (8 * b + m) else a) d1
  d2.rsvIf (v / 2 ^ 16 != 0) w (0x80100 + b * 0x1000)

/-- A write of a lane, shift or wrap register (R512): dropped with CFG_REJ while EN is 1. -/
def Dev.machCfgWrite (d : Dev) (w : Writer) (i off v : Nat) : Dev :=
  if d.on (R.STIR_MCTRL_EN (i / 8) (i % 8)) then d.set (R.STIR_MSTATUS_CFG_REJ (i / 8) (i % 8)) 1
  else let r := d.wordWrite off v; r.1.rsvIf r.2 w off

/-- A write to program memory (R513). -/
def Dev.stirProgWrite (d : Dev) (w : Writer) (b i v : Nat) : Dev :=
  let d1 := d.set (R.STIR_PROG b i) v
  let d2 := if d.get (R.STIR_BLK_STATUS_ENABLED b) ≠ 0 then
      d1.cause (R.STIR_BLK_STATUS_PROG_WHILE_RUN b) (d.on (R.STIR_EVT_EN_PROG b)) (174 + b) else d1
  d2.rsvIf (v / 2 ^ 16 != 0) w (0x80000 + b * 0x1000 + i * 4)

/-- A write of `STIR_TIME_CFG` (R528): dropped while any machine is enabled. -/
def Dev.stirTimeWrite (d : Dev) (w : Writer) (v : Nat) : Dev :=
  if (List.range 4).any (fun b => d.get (R.STIR_BLK_STATUS_ENABLED b) != 0) then d.rsvWrite w 0x88000
  else let r := d.wordWrite 0x88000 v; r.1.rsvIf r.2 w 0x88000

/-! ### The FIFOs (R508) -/

/-- A write to STIR_TXDATA (R508). -/
def Dev.stirTx (d : Dev) (i v : Nat) : Dev :=
  let x := d.mach i
  if x.tx.length < 8 then d.setMach i { x with tx := x.tx ++ [v % 2 ^ 32] } else d.machCause i R.STIR_MSTATUS_WR_DROP 3

/-- A read of STIR_RXDATA (R508): the value and the device after it. -/
def Dev.stirRx (d : Dev) (i : Nat) : Nat × Dev :=
  let x := d.mach i
  match x.rx with
  | v :: r => (v, d.setMach i { x with rx := r, lastRx := v })
  | [] => (x.lastRx, d)

/-! ### Delivery (R507) -/

/-- A word of `b` bits delivered: to RXDATA, or as items of the Punnet's width, low item first. -/
def Dev.stirDeliver (d : Dev) (i v b : Nat) : Dev :=
  let bl := i / 8
  let m := i % 8
  if d.on (R.STIR_MSHIFT_PN_EN bl m) then
    let n := d.get (R.STIR_MSHIFT_PN bl m)
    let w := if d.on (R.PN_CFG_W16 n) then 16 else 8
    (List.range ((b + w - 1) / w)).foldl (fun (a : Dev) k => a.pnItemFrom n 1 i (bits v (k * w) w)) d
  else
    let x := d.mach i
    if x.rx.length < 8 then d.setMach i { x with rx := x.rx ++ [v] } else d.machCause i R.STIR_MSTATUS_OVERFLOW 2

/-- Whole units of RW delivered (R507); `fuel` bounds their number. -/
def Dev.stirUnits (d : Dev) (i : Nat) : Nat → Dev
  | 0 => d
  | fuel + 1 =>
    let u := d.get (R.STIR_MSHIFT_UNIT_M1 (i / 8) (i % 8)) + 1
    let x := d.mach i
    if u ≤ x.rfill then
      ((d.setMach i { x with rw := x.rw / 2 ^ u, rfill := x.rfill - u }).stirDeliver i (x.rw % 2 ^ u) u).stirUnits i fuel
    else d

/-! ### Pins -/

/-- Machine `i` gives levels to block pin offsets: those pins it drives take them (R496, R497, R504). -/
def Dev.machDrive (d : Dev) (i : Nat) (l : List (Nat × Bool)) : Dev :=
  let x := d.mach i
  let drv := l.foldl (fun a (e : Nat × Bool) =>
    if e.2 then a ||| 2 ^ e.1 else if a.testBit e.1 then a - 2 ^ e.1 else a) x.drv
  let d1 := d.setMach i { x with drv := drv }
  l.foldl (fun (a : Dev) e =>
    let p := i / 8 * 24 + e.1
    if a.get (R.GPIO_CFG_FUNC p) == 1 && a.get (R.GPIO_CFG_MACH p) == i % 8 && x.oe.testBit e.1 &&
       !(List.range 8).any (fun t => a.on (R.TRG_CTRL_EN t) && a.get (R.TRG_CTRL_PIN t) == p)
    then a.emit (.pin p e.2) else a) d1

/-- The external levels that a row asserts. -/
def Dev.withPins (d : Dev) (lv : BitVec 96) : Dev := { d with io := { d.io with ext := lv } }

/-- The level of the pin at a block offset of machine `i`'s block. -/
def Dev.blockPin (d : Dev) (i off : Nat) : Bool := d.pinLevel (i / 8 * 24 + off)

/-! ### Instructions (R503 to R511) -/

/-- The instruction completes: the next fetch is at WRAP_BOTTOM after WRAP_TOP, else at PC + 1 (R511). -/
def Dev.machNext (d : Dev) (i : Nat) : Dev :=
  let x := d.mach i
  let pc := if x.pc = d.get (R.STIR_WRAP_TOP (i / 8) (i % 8)) then d.get (R.STIR_WRAP_BOTTOM (i / 8) (i % 8)) else (x.pc + 1) % 64
  d.setMach i { x with pc := pc, state := 1, held := none, steps := 0 }

/-- The machine halts with ILLEGAL (R510). -/
def Dev.machIllegal (d : Dev) (i : Nat) : Dev :=
  (d.setMach i { d.mach i with state := 4, held := none, steps := 0 }).machCause i R.STIR_MSTATUS_ILLEGAL 5

/-- The machine stalls on an empty TXDATA (R506). -/
def Dev.machStall (d : Dev) (i : Nat) (ins : StirInstr) (steps : Nat) : Dev :=
  (d.setMach i { d.mach i with state := 2, held := some ins, steps := steps }).machCause i R.STIR_MSTATUS_UNDERFLOW 1

/-- The edges of gait `g` that have been delivered to the machines (R509). -/
def Dev.gaitEdges (d : Dev) (g : Nat) : Nat := d.io.edges.getD g 0

/-- The machine waits (R514), for an edge from now on where it waits for one (R509). -/
def Dev.machWait (d : Dev) (i : Nat) (ins : StirInstr) : Dev :=
  let from' := match ins with
    | .wait _ arg => d.gaitEdges (arg.val % 4)
    | _ => 0
  d.setMach i { d.mach i with state := 3, held := some ins, steps := 0, waitFrom := from' }

/-- SC has reached T (R503). -/
def Dev.atDue (d : Dev) (i : Nat) : Bool := decide (0 ≤ toSigned 32 (d.stirSc % 2 ^ 32 + 2 ^ 32 - (d.mach i).t))

/-- The SEND steps that are left (R505, R506): `k` steps of the instruction's total. -/
def Dev.sendSteps (d : Dev) (i : Nat) (ins : StirInstr) (l : Nat × Nat) (n total : Nat) : Nat → Dev
  | 0 => d.machNext i
  | k + 1 =>
    let x := d.mach i
    let done := total - (k + 1)
    let take := min l.2 (n - done * l.2)
    if x.xfill < take ∧ x.tx = [] then d.machStall i ins done
    else
      let y := if x.xfill < take then
          { x with xw := x.xw % 2 ^ x.xfill + (x.tx.headD 0) * 2 ^ x.xfill, xfill := x.xfill + 32, tx := x.tx.tail } else x
      let lv := (lanePins l).map (fun o => (o, decide (o - l.1 < take) && y.xw.testBit (o - l.1)))
      ((d.setMach i { y with xw := y.xw / 2 ^ take, xfill := y.xfill - take }).machDrive i lv).sendSteps i ins l n total k

/-- The TAKE steps (R505, R507): one external sample of the pins for each step. -/
def Dev.takeSteps (d : Dev) (i : Nat) (l : Nat × Nat) (n : Nat) (lv : List (BitVec 96)) : Nat → Dev
  | 0 => d.machNext i
  | k + 1 =>
    let d0 := match lv with | v :: _ => d.withPins v | [] => d
    let x := d0.mach i
    let take := min l.2 n
    let v := (List.range take).foldl (fun a o => if d0.blockPin i (l.1 + o) then a + 2 ^ o else a) 0
    ((d0.setMach i { x with rw := (x.rw + v * 2 ^ x.rfill) % 2 ^ 64, rfill := x.rfill + take }).stirUnits i 64).takeSteps
      i l (n - take) lv.tail k

/-- The OE bits after ENABLE (R509). -/
def oeAfter (oe : Nat) (l : Nat × Nat) (all : Bool) (mask : Nat) : Nat :=
  (List.range (if all then l.2 else min l.2 8)).foldl (fun a i =>
    let o := l.1 + i
    let b := if all then mask.testBit 0 else mask.testBit i
    if b then a ||| 2 ^ o else if a.testBit o then a - 2 ^ o else a) oe

/-- The action of a timed instruction at its instant (R503, R505, R509). -/
def Dev.stirAct (d : Dev) (i : Nat) (ins : StirInstr) (lv : List (BitVec 96)) : Dev :=
  match ins with
  | .send _ lane n =>
    let l := d.lane i lane.val
    let total := (n.val + 1 + l.2 - 1) / l.2
    d.sendSteps i ins l (n.val + 1) total (total - (d.mach i).steps)
  | .take _ lane n =>
    let l := d.lane i lane.val
    d.takeSteps i l (n.val + 1) lv ((n.val + 1 + l.2 - 1) / l.2)
  | .drive _ lane v =>
    let l := d.lane i lane.val
    (d.machDrive i ((List.range (min l.2 8)).map (fun o => (l.1 + o, v.toNat.testBit o)))).machNext i
  | _ => d

/-- A timed instruction starts (R503): at once when SC has reached T, LATE when it has passed it; else the machine waits. -/
def Dev.stirTimed (d : Dev) (i : Nat) (at' : Bool) (ins : StirInstr) (lv : List (BitVec 96)) : Dev :=
  if !at' then d.stirAct i ins lv
  else if d.atDue i then
    (if d.stirSc % 2 ^ 32 = (d.mach i).t then d else d.machCause i R.STIR_MSTATUS_LATE 4).stirAct i ins lv
  else d.machWait i ins

/-- TIME with its value (R509). -/
def Dev.stirTime (d : Dev) (i : Nat) (ins : StirInstr) (mode imm : Nat) : Dev :=
  let x := d.mach i
  match mode with
  | 0 => (d.setMach i { x with t := (x.t + x.p) % 2 ^ 32 }).machNext i
  | 1 =>
    match x.tx with
    | v :: r => (d.setMach i { x with t := v, tx := r }).machNext i
    | [] => d.machStall i ins 0
  | 2 => (d.setMach i { x with t := (d.io.edge + imm * 8) % 2 ^ 32 }).machNext i
  | _ => (d.setMach i { x with t := (x.t + imm * 8) % 2 ^ 32 }).machNext i

/-- Whether a WAIT is satisfied now (R509); the next gait edge is never now. -/
def Dev.waitNow (d : Dev) (i mode arg : Nat) : Bool :=
  match mode with
  | 0 => d.atDue i
  | 1 => d.blockPin i arg
  | 2 => !d.blockPin i arg
  | _ => false

/-- The destination of COPY written (R509). -/
def copyTo (x : StirM) (dst v : Nat) : StirM :=
  match dst with
  | 0 => { x with xw := v, xfill := 32 }
  | 1 => { x with k := v }
  | 2 => { x with p := v }
  | 3 => { x with t := v }
  | _ => { x with rw := v, rfill := 0 }

/-- COPY (R509). -/
def Dev.stirCopy (d : Dev) (i : Nat) (ins : StirInstr) (dst src : Nat) : Dev :=
  let x := d.mach i
  match src with
  | 5 =>
    match x.tx with
    | v :: r => (d.setMach i (copyTo { x with tx := r } dst v)).machNext i
    | [] => d.machStall i ins 0
  | _ =>
    let l := d.lane i 0
    let v := match src with
      | 0 => x.xw % 2 ^ 32
      | 1 => x.k
      | 2 => x.p
      | 3 => x.t
      | 4 => x.rw % 2 ^ 32
      | 6 => (List.range l.2).foldl (fun a o => if d.blockPin i (l.1 + o) then a + 2 ^ o else a) 0
      | _ => 0
    (d.setMach i (copyTo x dst v)).machNext i

/-- CLOSE (R507, R509): the remaining bits, then a boundary with MARK. -/
def Dev.stirClose (d : Dev) (i : Nat) (mark : Bool) : Dev :=
  let x := d.mach i
  let d1 := if x.rfill = 0 then d
    else (d.setMach i { x with rw := 0, rfill := 0 }).stirDeliver i (x.rw % 2 ^ x.rfill) x.rfill
  let d2 := if mark && d.on (R.STIR_MSHIFT_PN_EN (i / 8) (i % 8)) then
      d1.pnBoundaryFrom (d.get (R.STIR_MSHIFT_PN (i / 8) (i % 8))) 1 i else d1
  d2.machNext i

/-- Whether an instruction has a reserved value in a field (R509, R510). -/
def stirMalformed (ins : StirInstr) : Bool :=
  match ins with
  | .enable _ all mask => all && mask.toNat / 2 != 0
  | .wait mode arg => (mode.val == 1 && decide (23 < arg.val)) || (mode.val == 2 && decide (23 < arg.val)) ||
      (mode.val == 3 && decide (3 < arg.val))
  | .copy dst _ => decide (4 < dst.val)
  | _ => false

/-- Machine `i`, which runs, executes an instruction (R509 to R511). A machine that does not run executes none. -/
def Dev.stirExec (d : Dev) (i : Nat) (ins : StirInstr) (lv : List (BitVec 96)) : Dev :=
  if (d.mach i).state ≠ 1 then d
  else if stirMalformed ins then d.machIllegal i
  else
    let d0 := match ins, lv with
      | .take _ _ _, _ => d
      | _, v :: _ => d.withPins v
      | _, [] => d
    match ins with
    | .idle => d.machNext i
    | .send a _ _ | .drive a _ _ => d.stirTimed i a ins []
    | .take a _ _ => d.stirTimed i a ins lv
    | .enable lane all mask =>
      (d.setMach i { d.mach i with oe := oeAfter (d.mach i).oe (d.lane i lane.val) all mask.toNat }).machNext i
    | .time mode imm => d.stirTime i ins mode.val imm.val
    | .wait mode arg => if d0.waitNow i mode.val arg.val then d0.machNext i else d0.machWait i ins
    | .copy dst src => d0.stirCopy i ins dst.val src.val
    | .close mark => d.stirClose i mark
    | .note => (d.machCause i R.STIR_MSTATUS_SIGNAL 6).machNext i

/-- Time passes until SC reaches T of machine `i` (R503). -/
def Dev.passToT (d : Dev) (i : Nat) : Dev :=
  let n := d.get R.STIR_TIME_CFG_TB
  if d.atDue i then d else
  d.passTo n ((d.stirSc + (toSigned 32 ((d.mach i).t + 2 ^ 32 - d.stirSc % 2 ^ 32)).toNat) * 5 * 2 ^ 32)

/-- A wait condition is satisfied (R509): of a pin only when the pin has the level awaited, of a gait only once an edge of it has come since the
wait began. -/
def Dev.stirWaitDone (d : Dev) (i : Nat) (lv : List (BitVec 96)) : Dev :=
  if (d.mach i).state ≠ 3 then d else
  match (d.mach i).held with
  | some (.wait mode arg) =>
    let d0 := match lv with | v :: _ => d.withPins v | [] => d
    match mode.val with
    | 0 => (d0.passToT i).machNext i
    | 3 => if d.gaitEdges (arg.val % 4) = (d.mach i).waitFrom then d else d0.machNext i
    | _ => if d0.waitNow i mode.val arg.val then d0.machNext i else d0
  | _ => d

/-- SC reaches T and the timed action that waits is performed (R503). -/
def Dev.stirAtAction (d : Dev) (i : Nat) (lv : List (BitVec 96)) : Dev :=
  if (d.mach i).state ≠ 3 then d else
  match (d.mach i).held with
  | some (.wait _ _) => d
  | some ins =>
    let late := d.atDue i && d.stirSc % 2 ^ 32 != (d.mach i).t
    ((if late then d.machCause i R.STIR_MSTATUS_LATE 4 else d.passToT i)).stirAct i ins lv
  | none => d

/-- A stalled machine resumes once a word is in TXDATA (R506). -/
def Dev.stirResume (d : Dev) (i : Nat) : Dev :=
  let x := d.mach i
  if x.state ≠ 2 ∨ x.tx = [] then d else
  match x.held with
  | some ins =>
    let d1 := d.setMach i { x with state := 1 }
    match ins with
    | .time mode imm => d1.stirTime i ins mode.val imm.val
    | .copy dst src => d1.stirCopy i ins dst.val src.val
    | _ => d1.stirAct i ins []
  | none => d

/-- The instruction that a program word encodes (R509); none for OP 0xA to 0xF and for a non-zero reserved field (R510). -/
def stirDecode (w : Nat) : Option StirInstr :=
  let r := w % 2 ^ 11
  let top := (w.testBit 11)
  let lane : Fin 4 := Fin.ofNat 4 (bits w 9 2)
  match bits w 12 4 with
  | 0 => if w % 2 ^ 12 = 0 then some .idle else none
  | 1 => if w % 16 = 0 then some (.send top lane (Fin.ofNat 32 (bits w 4 5))) else none
  | 2 => if w % 16 = 0 then some (.take top lane (Fin.ofNat 32 (bits w 4 5))) else none
  | 3 => if w.testBit 8 then none else some (.drive top lane (BitVec.ofNat 8 w))
  | 4 => if top || (w.testBit 8 && bits w 1 7 != 0) then none else some (.enable lane (w.testBit 8) (BitVec.ofNat 8 w))
  | 5 => if w.testBit 9 then none else some (.time (Fin.ofNat 4 (bits w 10 2)) (Fin.ofNat 512 w))
  | 6 =>
    let ins := StirInstr.wait (Fin.ofNat 4 (bits w 10 2)) (Fin.ofNat 32 w)
    if bits w 5 5 != 0 || stirMalformed ins then none else some ins
  | 7 => if w % 64 ≠ 0 ∨ 4 < bits w 9 3 then none else some (.copy (Fin.ofNat 8 (bits w 9 3)) (Fin.ofNat 8 (bits w 6 3)))
  | 8 => if r = 0 then some (.close top) else none
  | 9 => if w % 2 ^ 12 = 0 then some .note else none
  | _ => none

/-- A machine that runs fetches a word that encodes no instruction: it halts (R510). -/
def Dev.stirUnassigned (d : Dev) (i w : Nat) : Dev :=
  if (d.mach i).state = 1 ∧ (stirDecode w).isNone then d.machIllegal i else d

end Sys2Proof.Machine
end

