-- ==== Sys2Proof/Machine/Frame.lean ====
section
/-! DEFINITION. Frames as bytes: the FCS, VLAN tags, R-TAGs, PRP and HSR tags, PTP messages and their fields
(R85, R91 to R93, R224, R227, R231, R246, R248). -/

namespace Sys2Proof.Machine
open Sys2Proof

/-- One bit of the reflected CRC of IEEE 802.3. -/
def crc32Bit (c : BitVec 32) : BitVec 32 := if c.getLsbD 0 then (c >>> 1) ^^^ 0xEDB88320#32 else c >>> 1

/-- `n` bits of the CRC. -/
def crc32Bits (c : BitVec 32) : Nat → BitVec 32
  | 0 => c
  | n + 1 => crc32Bits (crc32Bit c) n

/-- One byte of the CRC. -/
def crc32Byte (c : BitVec 32) (b : Byte) : BitVec 32 := crc32Bits (c ^^^ b.setWidth 32) 8

/-- The FCS of the bytes of a frame (IEEE 802.3). -/
def fcs (l : List Byte) : BitVec 32 := ~~~ (l.foldl crc32Byte 0xFFFFFFFF#32)

/-- The four FCS bytes in the order they are sent. -/
def fcsBytes (l : List Byte) : List Byte := leBytes 4 (fcs l).toNat

/-- The frame without its last four bytes. -/
def frameBody (l : List Byte) : List Byte := l.take (l.length - 4)

/-- Whether the last four bytes are the FCS of those before them (R224). -/
def fcsGood (l : List Byte) : Bool := decide (4 ≤ l.length) && l.drop (l.length - 4) == fcsBytes (frameBody l)

/-- A body with its FCS, inverted for a bad frame (R177, R225). -/
def withFcs (body : List Byte) (bad : Bool) : List Byte := body ++ (if bad then (fcsBytes body).map (fun b => ~~~ b) else fcsBytes body)

/-! ### The CRCs of R449 -/

/-- Width, polynomial (reflected where R449 reflects it) and bit order of POLY. -/
def crcPoly (p : Nat) : Nat × Nat × Bool :=
  match p with
  | 0 => (32, 0xEDB88320, true)
  | 1 => (32, 0x82F63B78, true)
  | 2 => (16, 0xA001, true)
  | 3 => (16, 0x1021, false)
  | 4 => (8, 0x07, false)
  | 5 => (15, 0x4599, false)
  | 6 => (17, 0x1685B, false)
  | _ => (21, 0x102899, false)

/-- One data bit (R451). -/
def crcStep (x : Nat × Nat × Bool) (crc : Nat) (b : Bool) : Nat :=
  if x.2.2 then
    (if crc.testBit 0 != b then crc / 2 ^^^ x.2.1 else crc / 2)
  else
    (if crc.testBit (x.1 - 1) != b then crc * 2 % 2 ^ x.1 ^^^ x.2.1 else crc * 2 % 2 ^ x.1)

/-- `n` data bits of a value in the polynomial's bit order. -/
def crcData (x : Nat × Nat × Bool) (crc v n : Nat) : Nat :=
  (List.range n).foldl (fun c i => crcStep x c (v.testBit (if x.2.2 then i else n - 1 - i))) crc

/-- CRC-32C of a list of bytes (R287). -/
def crc32c (l : List Byte) : Nat :=
  (l.foldl (fun c b => crcData (crcPoly 1) c b.toNat 8) (2 ^ 32 - 1)) ^^^ (2 ^ 32 - 1)

/-! ### Tags -/

/-- A big-endian 16-bit field of a frame. -/
def be16 (l : List Byte) (i : Nat) : Nat := (l.getD i 0).toNat * 256 + (l.getD (i + 1) 0).toNat

/-- The TPID at offset `i` is that of a tag; 0x88A8 only as the outer of two (R227). -/
def isTag (l : List Byte) (i : Nat) : Bool := be16 l i == 0x8100 || (be16 l i == 0x88A8 && be16 l (i + 4) == 0x8100)

/-- The number of tags, 0 to 2 (R227). -/
def tagCount (l : List Byte) : Nat := if isTag l 12 then (if be16 l 16 == 0x8100 then 2 else 1) else 0

/-- The offset of the EtherType after the tags. -/
def typeOff (l : List Byte) : Nat := 12 + 4 * tagCount l

/-- The offset after the source address and any VLAN tags of a frame at its egress, which may have a tag more than it came with (R246,
R248). -/
def tagEnd (l : List Byte) : Nat :=
  let tag := fun i => be16 l i == 0x8100 || be16 l i == 0x88A8
  if tag 12 then (if tag 16 then (if tag 20 then 24 else 20) else 16) else 12

/-- The EtherType after the tags (R228). -/
def etherType (l : List Byte) : Nat := be16 l (typeOff l)

/-- The destination and the source address. -/
def dmac (l : List Byte) : Nat := beNat (slice l 0 6)
/-- The source address. -/
def smac (l : List Byte) : Nat := beNat (slice l 6 6)

/-- VID and PCP of a frame at a port with these defaults (R229). -/
def vidPcp (l : List Byte) (pvid defPcp : Nat) : Nat × Nat :=
  if tagCount l = 0 then (pvid, defPcp)
  else
    let t := be16 l 14
    (if t % 4096 = 0 then pvid else t % 4096, t / 8192)

/-- Bytes taken out of a body. -/
def cut (l : List Byte) (i n : Nat) : List Byte := l.take i ++ l.drop (i + n)
/-- Bytes put into a body. -/
def paste (l : List Byte) (i : Nat) (new : List Byte) : List Byte := l.take i ++ new ++ l.drop i

/-- A tag operation on a body (R231): 0 KEEP, 1 STRIP, 2 PUSH, 3 REWRITE. -/
def tagOp (op pcp vid : Nat) (l : List Byte) : List Byte :=
  let tci := beBytes 2 (pcp % 8 * 8192 + vid % 4096)
  let push := paste l 12 ([0x81, 0x00] ++ tci)
  match op with
  | 1 => if tagCount l = 0 then l else cut l 12 4
  | 2 => push
  | 3 => if tagCount l = 0 then push
    else splice l 14 (beBytes 2 (pcp % 8 * 8192 + (be16 l 14 / 4096 % 2) * 4096 + vid % 4096))
  | _ => l

/-- The sequence number of the R-TAG of a frame, if it has one (R247). -/
def rtagSeq (l : List Byte) : Option Nat := if etherType l = 0xF1C1 then some (be16 l (typeOff l + 4)) else none

/-- An R-TAG put into a body, or taken out (R246, R247). -/
def addRtag (seq : Nat) (l : List Byte) : List Byte := paste l (tagEnd l) ([0xF1, 0xC1, 0, 0] ++ beBytes 2 (seq % 65536))
/-- The R-TAG taken out of a body. -/
def dropRtag (l : List Byte) : List Byte := if etherType l = 0xF1C1 then cut l (typeOff l) 6 else l

/-- The sequence number of the RCT at the end of a body (R248): the suffix, LanId 0xA or 0xB, and the size of the LSDU. -/
def rctSeq (body : List Byte) : Option Nat :=
  let n := body.length
  let w := be16 body (n - 4)
  if 6 ≤ n ∧ be16 body (n - 2) = 0x88FB ∧ (w / 4096 = 0xA ∨ w / 4096 = 0xB) ∧ w % 4096 = (n - 6 - typeOff body + 4) % 4096 then
    some (be16 body (n - 6)) else none

/-- A body with an RCT for a LAN, 0xA or 0xB (R248). -/
def addRct (seq lan : Nat) (body : List Byte) : List Byte :=
  body ++ beBytes 2 (seq % 65536) ++ beBytes 2 (lan * 4096 + (body.length - tagEnd body + 4) % 4096) ++ [0x88, 0xFB]

/-- The sequence number of the HSR tag of a body (R248). -/
def hsrSeq (body : List Byte) : Option Nat := if etherType body = 0x892F then some (be16 body (typeOff body + 4)) else none
/-- A body with the HSR tag taken out. -/
def dropHsr (body : List Byte) : List Byte := cut body (typeOff body) 6
/-- A body with an HSR tag (R248). -/
def addHsr (seq path : Nat) (body : List Byte) : List Byte :=
  paste body (tagEnd body)
    ([0x89, 0x2F] ++ beBytes 2 (path % 16 * 4096 + (body.length - tagEnd body + 4) % 4096) ++ beBytes 2 (seq % 65536))

/-! ### PTP (R84, R85, R92, R93) -/

/-- Where a PTP message begins, and the encapsulation: 0 Ethernet, 4 UDP over IPv4, 6 UDP over IPv6 (R85). -/
def ptpAt (l : List Byte) : Option (Nat × Nat) :=
  let t := typeOff l
  let ip := t + 2
  let udp (o enc : Nat) : Option (Nat × Nat) :=
    if be16 l (o + 2) = 319 ∨ be16 l (o + 2) = 320 then some (o + 8, enc) else none
  if etherType l = 0x88F7 then some (t + 2, 0)
  else if etherType l = 0x0800 ∧ (l.getD ip 0).toNat = 0x45 ∧ (l.getD (ip + 9) 0).toNat = 17 then udp (ip + 20) 4
  else if etherType l = 0x86DD ∧ (l.getD (ip + 6) 0).toNat = 17 then udp (ip + 40) 6
  else none

/-- The messageType of the PTP message at `o`. -/
def ptpType (l : List Byte) (o : Nat) : Nat := (l.getD o 0).toNat % 16
/-- Event messages: Sync, Delay_Req, Pdelay_Req, Pdelay_Resp (R92). -/
def ptpEvent (l : List Byte) (o : Nat) : Bool := decide (ptpType l o < 4)
/-- domainNumber and majorSdoId of the PTP message at `o` (R84). -/
def ptpDomain (l : List Byte) (o : Nat) : Nat × Nat := ((l.getD (o + 4) 0).toNat, (l.getD o 0).toNat / 16)

/-- The one's complement sum of a list of bytes taken as 16-bit words. -/
def onesSum : List Byte → Nat → Nat
  | [], acc => acc
  | [a], acc => let s := acc + a.toNat * 256; s % 65536 + s / 65536
  | a :: b :: r, acc => let s := acc + a.toNat * 256 + b.toNat; onesSum r (s % 65536 + s / 65536)

/-- The checksum rules for an altered PTP message over UDP (R93): over IPv4 the checksum is 0; over IPv6 the last two payload
bytes keep it valid; none when that is not possible. `old` is the body before the alteration. The last two bytes of a payload of odd length
lie in two words of the checksum, the first of them in a low byte. -/
def fixUdp (enc o : Nat) (old new : List Byte) : Option (List Byte) :=
  match enc with
  | 4 => some (splice new (o - 2) [0, 0])
  | 6 =>
    let ulen := be16 new (o - 4)
    let msg := be16 new (o + 2)
    if msg + 8 + 2 ≤ ulen then
      let e := o - 8 + ulen - 2
      let region := fun (l : List Byte) => onesSum (slice l o (ulen - 10)) 0
      let swap := fun (w : Nat) => if ulen % 2 = 1 then w % 256 * 256 + w / 256 % 256 else w
      let delta := region old + (65535 - region new) + swap (be16 old e)
      let v := delta % 65536 + delta / 65536
      some (splice new e (beBytes 2 (swap (v % 65536 + v / 65536))))
    else none
  | _ => some new

end Sys2Proof.Machine
end

