-- ==== Sys2Proof/Machine/Switch.lean ====
section
/-! DEFINITION. The cyclic switch (chapter 4): the copies that a frame makes, the loop port, ageing, the selection and the start of frames at
an output, and the HOST, CAPTURE and BRIDLE channels of the switch mover. The slots and cells are in Fabric.lean. -/

namespace Sys2Proof.Machine
open Sys2Proof

/-! ### Destinations and copies (R168, R180 to R184, R248) -/

/-- The fabric ports of a destination field (R180, R211). -/
def Dev.destPorts (d : Dev) (group : Bool) (dest : Nat) : List Nat :=
  if group then
    (List.range 40).filter (fun p => if p < 32 then (d.get (R.SW_MC_GROUP_MASK_LO dest)).testBit p
      else (d.get (R.SW_MC_GROUP_MASK_HI dest)).testBit (p - 32))
  else if dest < 40 then [dest] else []

/-- The redundancy pair of network port `p` (R248). -/
def Dev.pairOf (d : Dev) (p : Nat) : Option Nat :=
  (List.range 8).find? (fun k => d.get (R.RED_CFG_MODE k) != 0 && d.get (R.RED_CFG_MODE k) != 3 &&
    (d.get (R.RED_CFG_PORT_A k) == p || d.get (R.RED_CFG_PORT_B k) == p))

/-- The copies that the pairs make of a frame for one of their ports, each pair with its next sequence number (R248). -/
def Dev.pairCopies (d : Dev) (c : Copy) (dests : List Nat) : Dev × List Copy :=
  dests.foldl (fun (a : Dev × List Copy) p =>
    if a.2.any (fun x => x.dst == p) then a else
    match (if c.ring then none else a.1.pairOf p) with
    | none => (a.1, a.2 ++ [{ c with dst := p }])
    | some k =>
      let seq := a.1.get (R.RED_TX_SEQ k)
      (a.1.inc (R.RED_TX_SEQ k),
        a.2 ++ [{ c with dst := a.1.get (R.RED_CFG_PORT_A k), red := some seq },
                { c with dst := a.1.get (R.RED_CFG_PORT_B k), red := some seq }])) (d, [])

/-- The copies in falling order of D(i, j) (R181). -/
def sortCopies (l : List Copy) : List Copy :=
  (List.range 40).foldl (fun a i => a ++ l.filter (fun c => transit c.src c.dst == 40 - i)) []

/-- The copies that a network input of this rate writes itself (R182). -/
def nDirect (rate : Nat) : Nat := if rate = 0 then 39 else min 39 (160000 / rate)

/-- A copy with the settings of its class and of its ports as they are now (R200). -/
def Dev.settle (d : Dev) (c : Copy) : Copy :=
  { c with sched := d.schedClass c.cls && !c.mirror, ct := d.on (R.SW_CLASS_CFG_CT c.cls), ageLim := d.get (R.SW_AGE_LIMIT_LIMIT c.cls),
           budget := (d.get (R.SW_PORT_CNT_SCHED_BUDGET c.src), d.get (R.SW_PORT_CNT_SCHED_BUDGET c.dst)) }

/-- The copies of one frame wait at their input (R166, R181), in the order in which it writes them; `feed` names the frame at F39 that
feeds them (R183). -/
def Dev.queueCopies (d0 : Dev) (l : List Copy) (feed : Option Nat) : Dev :=
  let d := d0.fabSync
  match l with
  | [] => d
  | c :: _ =>
    let base := d.fab.nextId
    let l' := (l.zip (List.range l.length)).map (fun e => d.settle { e.1 with id := base + e.2 })
    let x := d.fin c.src
    let g : FGroup := { copies := l'.map (fun e => e.id), cells := max 1 (cellCount c.bytes.length), start := d.slotCount, gap := cellGap c.rate,
                        len := c.bytes.length, cls := c.cls, feed := feed }
    (d.setFin c.src { x with wait := x.wait ++ [{ g with gap := if c.src < 26 then g.gap else 1 }] }).withFab
      (fun f => { f with nextId := base + l.length, copies := f.copies ++ l' })

/-- Whether a frame that enters at port `src` is mirrored (R184); before the first activation nothing is (R199). -/
def Dev.mirrored (d : Dev) (c : Copy) : Bool :=
  d.on R.SW_MIRROR_EN && d.on R.SW_STATUS_CFG_ACTIVE && !c.mirror &&
  (if c.src < 32 then (d.get R.SW_MIRROR_SRC_LO).testBit c.src else (d.get R.SW_MIRROR_SRC_HI).testBit (c.src - 32))

/-- The copies that a frame needs (R168, R180, R184), at most 40: those of its destinations in falling order of D(i, j), then the mirror
copy. Where a frame would have 41 the mirror copy is not made (log entry 173). -/
def Dev.copiesOf (d : Dev) (c : Copy) (dests : List Nat) : Dev × List Copy :=
  let pc := d.pairCopies c (dests.filter (fun p => !(p == c.src && decide (p < 26))))
  let own := sortCopies (pc.2.filter (fun x => !(x.dst == c.src && decide (c.src < 26))))
  (pc.1, (own ++ (if d.mirrored c then [{ c with dst := 39, mirror := true, cls := d.get R.SW_MIRROR_CLASS }] else [])).take 40)

/-- A frame enters at fabric port `c.src` for a list of destinations (R162, R168, R180 to R184): its copies, the mirror copy, and for a
network input with more than N_direct the one copy to F39, which makes the rest. Until the fabric is READY it forwards nothing
(R199). -/
def Dev.enterFrame (d : Dev) (c : Copy) (dests : List Nat) (feed : Option Nat := none) : Dev :=
  if !d.on R.SW_STATUS_READY then d else
  let r := (d.inc (R.SW_PORT_CNT_FRAMES_IN c.src)).copiesOf c dests
  let n := nDirect c.rate
  if c.src < 26 ∧ n < r.2.length then
    let rest := r.2.drop (n - 1)
    let looped : Copy := { c with
      dst := 39, loop := (rest.filter (fun x => !x.mirror && x.dst != 39)).map (fun x => (x.dst, x.red)),
      loopMirror := rest.any (fun x => x.mirror) }
    (r.1.inc (R.SW_PORT_CNT_MC_LOOP c.src)).queueCopies (sortCopies (r.2.take (n - 1) ++ [looped])) feed
  else r.1.queueCopies (sortCopies r.2) feed

/-! ### Ageing and selection (R174, R176, R177, R191 to R193) -/

/-- Whether a copy is forwarded cut-through (R176), under the settings of its entry (R200). -/
def Dev.cutThrough (d : Dev) (c : Copy) : Bool :=
  !c.store && (decide (c.dst < 26) || c.dst == 39) && decide (d.rate c.dst ≤ c.rate) && (c.sched || c.ct || c.ring)

/-- TB0 bits [31:0] (R191). -/
def Dev.tb0 (d : Dev) : Nat := d.tbNs 0 % 2 ^ 32

/-- The age of a copy in ns (R192). -/
def Dev.age (d : Dev) (c : Copy) : Nat := (d.tb0 + 2 ^ 32 - c.stamp % 2 ^ 32) % 2 ^ 32

/-- Whether a copy is over its age limit (R192, R200). -/
def Dev.tooOld (d : Dev) (c : Copy) : Bool := decide (c.ageLim * 1000 < d.age c)

/-- The frame that output `j` sends now. -/
def Dev.sending (d : Dev) (j : Nat) : Option TxFrame := Tab.find? d.fab.tx j

/-- The cells of a copy that its output store holds, or a slice. -/
def Dev.cellsOf (d : Dev) (c : Copy) : List FCell :=
  (((d.fab.stores.getD c.dst []).map (fun e => e.2)) ++ d.fab.slices.map (fun e => e.2)).filter (fun e => !e.map && e.id == c.id)

/-- The first cell of a copy has been written into the fabric (R174). -/
def Dev.arrived (d : Dev) (c : Copy) : Bool := (d.cellsOf c).any (fun e => e.first)

/-- The last cell of a copy has been written into a slice (R176). -/
def Dev.complete (d : Dev) (c : Copy) : Bool := (d.cellsOf c).any (fun e => e.last)

/-- The first cell of a copy is in the output store (R176). -/
def Dev.stored (d : Dev) (c : Copy) : Bool := (d.fab.stores.getD c.dst []).any (fun e => !e.2.map && e.2.id == c.id && e.2.first)

/-- The fabric has seen that a copy is BAD (R163, R177): at its last cell, or at a cell that an error hit. -/
def Dev.seenBad (d : Dev) (c : Copy) : Bool := c.hit || (c.bad && d.complete c)

/-- An output may start a copy (R176): cut-through with its first cell in the store, otherwise once its last cell is written too. -/
def Dev.ready (d : Dev) (c : Copy) : Bool := d.stored c && (d.cutThrough c || d.complete c)

/-- The copies for output `j` that it has not started, in the order in which they entered. -/
def Dev.waiting (d : Dev) (j : Nat) : List Copy :=
  d.fab.copies.filter (fun c => c.dst == j && !(d.sending j).any (fun t => t.copy.id == c.id) &&
    !(Tab.find? d.fab.paused j).any (fun t => t.copy.id == c.id))

/-- Output `j` starts a frame: FRAMES_OUT counts it (R209). -/
def Dev.startFrame (d : Dev) (j : Nat) (t : TxFrame) : Dev :=
  (d.inc (R.SW_PORT_CNT_FRAMES_OUT j)).withFab (fun f => { f with tx := f.tx.put j t, sel := f.sel.del j })

/-- The frame that output `j` sends is gone, with what the fabric still holds of it. -/
def Dev.endTx (d : Dev) (j : Nat) : Dev :=
  match d.sending j with
  | none => d
  | some t => (d.withFab (fun f => { f with tx := f.tx.del j })).takeCopy t.copy

/-- A frame discarded by ageing at output `j` (R192). -/
def Dev.ageDrop (d : Dev) (j : Nat) (c : Copy) : Dev :=
  ((d.takeCopy c).inc (R.SW_PORT_CNT_AGE_DROP j)).swCause R.SW_EVT_AGE_DROP 0

/-- The end of a frame sent with BAD (R177). -/
def Dev.fcsMark (d : Dev) (j : Nat) : Dev := (d.inc (R.SW_PORT_CNT_FCS_MARK j)).swCause R.SW_EVT_FCS_MARK 8

/-- A frame that passed its age limit while it was sent (R193). -/
def Dev.lateMark (d : Dev) (j : Nat) (c : Copy) : Dev :=
  if d.tooOld c then (d.inc (R.SW_PORT_CNT_LATE j)).swCause R.SW_EVT_LATE 1 else d

/-- The better of two copies by R174: the highest class, then the earliest ingress. -/
def Dev.better (d : Dev) (a b : Copy) : Copy :=
  if a.cls < b.cls then b else if b.cls < a.cls then a else if d.age a < d.age b then b else a

/-- The copy that a team port, F38 or F39 selects (R174), among those whose first cell is in the fabric. -/
def Dev.bestCopy (d : Dev) (j : Nat) : Option Copy :=
  ((d.waiting j).filter (fun c => d.arrived c)).foldl (fun a c =>
    match a with
    | none => some c
    | some b => some (d.better b c)) none

/-- Output `j` selects a copy next (R173), and its slots run until it may start or is seen to be BAD. -/
def Dev.awaitCopy (d : Dev) (j : Nat) (c : Copy) : Dev :=
  (d.withFab (fun f => { f with sel := f.sel.put j c.id })).fabWait (fun x =>
    match x.copy? c.id with
    | some c' => x.ready c' || x.seenBad c'
    | none => true)

/-- Time passes until a frame for output `j` has its first cell in the fabric, if one is on its way. -/
def Dev.awaitAny (d : Dev) (j : Nat) : Dev := d.fabWait (fun x => (x.waiting j).any (fun c => x.arrived c) || (x.waiting j).isEmpty)

/-! ### Tags at the egress (R231, R246 to R248) -/

/-- The tags and redundancy data of a copy at its egress port (R231, R246 to R248). -/
def Dev.tagBody (d : Dev) (p : Nat) (c : Copy) (body : List Byte) : List Byte :=
  let b0 := if c.tags.strip then dropRtag body else body
  let b1 := tagOp c.tags.op c.tags.pcp c.tags.vid b0
  let b2 := match c.tags.rtag with | some n => addRtag n b1 | none => b1
  match c.red, d.pairOf p with
  | some n, some k =>
    let onA := d.get (R.RED_CFG_PORT_A k) == p
    if d.get (R.RED_CFG_MODE k) = 1 then addRct n (if onA then 0xA else 0xB) b2 else addHsr n (if onA then 0 else 1) b2
  | _, _ => b2

/-- Selection and start at an output that is no network port; `fuel` bounds the frames discarded on the way: BAD frames that
have not started (R177) and frames that are too old (R192). -/
def Dev.startPlain (d : Dev) (j : Nat) : Nat → Dev
  | 0 => d
  | fuel + 1 =>
    let d0 := d.awaitAny j
    match d0.bestCopy j with
    | none => d0
    | some c =>
      if d0.seenBad c then (d0.takeCopy c).startPlain j fuel
      else if !d0.ready c then (d0.awaitCopy j c).startPlain j fuel
      else if d0.tooOld c then (d0.ageDrop j c).startPlain j fuel
      else d0.startFrame j { copy := c, wire := if j = 39 then c.bytes else withFcs (d0.tagBody j c (frameBody c.bytes)) c.bad, start := d0.now }

/-- A bound on the selections that one start makes. -/
def Dev.startFuel (d : Dev) : Nat := 2 * d.fab.copies.length + 2

/-- What F39 makes of a frame that its store feeds to its input (R183, R184): the mirror copy, or the loop copies and the mirror copy left to
it. -/
def Dev.loopCopies (d : Dev) (c : Copy) : Dev :=
  let base := { c with src := 39, loop := [], loopMirror := false, sched := false }
  let mirror := { base with mirror := true, cls := d.get R.SW_MIRROR_CLASS }
  let loops := sortCopies (c.loop.map (fun e => { base with dst := e.1, red := e.2 }) ++ (if c.loopMirror then [{ mirror with dst := d.get R.SW_MIRROR_OUT_PORT }] else []))
  if c.mirror then d.enterFrame base [d.get R.SW_MIRROR_OUT_PORT] (some c.id)
  else if c.loop = [] ∧ c.loopMirror = false then d
  else ((d.inc (R.SW_PORT_CNT_FRAMES_IN 39)).queueCopies loops (some c.id))

/-- The frame at F39 is over when its input has written the last cell (R183): its end, with BAD marked (R177). -/
def Dev.loopEnd (d : Dev) : Dev :=
  match d.sending 39 with
  | none => d
  | some t =>
    let x := d.fin 39
    if (x.cur.toList ++ x.wait).any (fun g => g.feed == some t.copy.id) then d
    else
      let d1 := (d.endTx 39).lateMark 39 t.copy
      if t.copy.bad then d1.fcsMark 39 else d1

/-- Output F39 starts a frame, when the one before it is over, and its input takes the cells as the store gets them (R183). -/
def Dev.startLoop (d : Dev) : Dev :=
  let d0 := (d.fabWait (fun x => (x.loopEnd.sending 39).isNone)).loopEnd
  if (d0.sending 39).isSome then d0 else
  let d1 := d0.startPlain 39 d0.startFuel
  match d1.sending 39 with
  | some t => (d1.loopCopies t.copy).loopEnd
  | none => d1

/-! ### Underrun and errors (R163, R178) -/

/-- The first cell of the frame that port `j` sends which is not in the output store when the MAC needs it, up to now (R178). -/
def Dev.missingCell (d : Dev) (j : Nat) (t : TxFrame) : Option Nat :=
  (List.range (cellCount t.copy.bytes.length)).find? (fun n =>
    let need := (t.start - d.fab.resetAt + (8 + 32 * n - t.sent) * 8000 / max 1 (d.rate j)) * 25 / 32
    decide (t.sent ≤ 32 * n) && decide (need ≤ d.slotCount) &&
      !(d.fab.stores.getD j []).any (fun e => !e.2.map && e.2.id == t.copy.id && e.2.n == n && decide (e.1 ≤ need + 1)))

/-- Whether a frame that output `j` has started still lacks a cell: it may underrun (R178). -/
def Dev.lacksCell (d : Dev) (j : Nat) (t : TxFrame) : Bool :=
  !(d.fab.stores.getD j []).any (fun e => !e.2.map && e.2.id == t.copy.id && e.2.last) || (d.missingCell j t).isSome

/-- The copies that F39 makes of a frame that ends there too early end with BAD (R178, R183). -/
def Dev.cutLoops (d : Dev) (id : Nat) : Dev :=
  let x := d.fin 39
  match (x.cur.toList ++ x.wait).find? (fun g => g.feed == some id) with
  | none => d
  | some g =>
    g.copies.foldl (fun (a : Dev) k =>
      match a.copy? k with
      | none => a
      | some c =>
        if a.arrived c then ((a.stopWriting k).putCell x.last { (c.cell g.n) with last := true, valid := 0, bad := true }).editCopy k
          (fun y => { y with bad := true, bytes := y.bytes.take (32 * g.n) ++ [0, 0, 0, 0] })
        else a.takeCopy c) d

/-- A started frame of output `j` underruns after `sent` bytes (R178): it ends there with an inverted FCS, and the rest of its cells is
discarded. A frame whose cells are all in time does not underrun. -/
def Dev.underrun (d0 : Dev) (j sent : Nat) : Dev :=
  let d := d0.fabSync
  match d.sending j with
  | none => d
  | some t =>
    if !d.lacksCell j t then d else
    let d1 := ((((if j = 39 then d.cutLoops t.copy.id else d).endTx j).inc (R.SW_PORT_CNT_UNDERRUN j)).swCause R.SW_EVT_UNDERRUN 3)
    if j < 26 then d1.emit (.frame j (withFcs (t.wire.take (min sent (t.wire.length - 4))) true) true) else d1

/-- An ECC error met in cell `n` of the frame that output `j` selects (R163): corrected, or the cell and so the frame is BAD, with the
system's ECC event (R695). -/
def Dev.fabEcc (d : Dev) (j : Nat) (upset : Option (Nat × Ecc)) : Dev :=
  match upset with
  | none => d
  | some (n, e) =>
    match ((d.sending j).map (fun t => t.copy)).or ((d.waiting j).find? (fun c => d.arrived c)) with
    | none => d
    | some c =>
      if !(d.cellsOf c).any (fun x => x.n == n) then d
      else match e with
        | .ce => d.swCause R.SW_EVT_ECC_CORR 6
        | .ue => ((d.editCopy c.id (fun x => { x with bad := true, hit := true })).swCause R.SW_EVT_ECC_UNCORR 7).eccEvent 1

/-- CLR_CNT of the switch (R202, R203). -/
def Dev.swClrCnt (d : Dev) : Dev :=
  ((List.range 40).foldl (fun (a : Dev) p =>
    a.clear [R.SW_PORT_CNT_FRAMES_IN p, R.SW_PORT_CNT_FRAMES_OUT p, R.SW_PORT_CNT_AGE_DROP p, R.SW_PORT_CNT_LATE p,
      R.SW_PORT_CNT_BUF_DROP p, R.SW_PORT_CNT_UNDERRUN p, R.SW_PORT_CNT_SCHED_COLLIDE p, R.SW_PORT_CNT_MC_LOOP p,
      R.SW_PORT_CNT_FCS_MARK p, R.SW_PORT_CNT_SLOT_OVER p, R.SW_PORT_CNT_SCHED_MAX p, R.SW_SLICE_HWM p]) d).clear
    [R.SWM_CNT_HRX_DROP, R.SWM_CNT_CAP_DROP]

/-! ### The switch mover (R186 to R190) -/

/-- The header of a receive entry (R398): bytes 0 to 30. -/
def rxEntryBytes (c : Copy) (addr : Nat) (ride clip : Bool) : List Byte :=
  tsBytes c.tsRec ++ leBytes 4 addr ++ leBytes 2 c.bytes.length ++
  [BitVec.ofNat 8 c.src, BitVec.ofNat 8 (c.cls + (if ride then 8 else 0) + (if clip then 16 else 0))] ++
  leBytes 2 c.vlan ++ List.replicate 5 0

/-- A frame stored in receive ring entry `i` of a ring at an Orchard offset with `count` entries and buffers of `buf` bytes
(R398, R399): the buffer, bytes 0 to 30, then OWN. -/
def State.storeRx (s : State) (q : Req) (base count buf i : Nat) (c : Copy) (ride : Bool) : State :=
  let bufAt := base + count * 32 + i * buf
  let clip := decide (buf < c.bytes.length)
  let s1 := if ride then s else s.orchStore q bufAt (c.bytes.take buf)
  (s1.orchStore q (base + 32 * i) (rxEntryBytes c (if ride then 0 else bufAt) ride clip)).orchWrite q (base + 32 * i + 31) [1]

/-- The frame of the HOST channel stored in the receive ring, or dropped (R188). -/
def State.hostRx (s : State) (c : Copy) : State :=
  let d := s.dev
  let base := d.get R.SWM_HRXR_BASE * 64
  let count := d.get R.SWM_HRXR_CFG_COUNT
  let i := d.get R.SWM_HRX_NEXT
  let q := Req.sys 12
  let own := orchRead s.mem d q (base + 32 * i + 31) 1
  if count = 0 then s.on (fun d => d.inc R.SWM_CNT_HRX_DROP)
  else if own.1 ≠ [0] then { s with dev := own.2.inc R.SWM_CNT_HRX_DROP }
  else
    (({ s with dev := own.2 }).storeRx q base count (64 * d.get R.SWM_HRXR_CFG_BUF_UNITS) i c false).on
      (fun d => (d.set R.SWM_HRX_NEXT ((i + 1) % count)).swCause R.SW_EVT_HOST_RX 10)

/-- A capture record (R189). -/
def captureBytes (c : Copy) : List Byte :=
  let body := tsBytes c.tsRec ++ leBytes 2 c.bytes.length ++ [BitVec.ofNat 8 c.origin, 0, 0, 0, 0, 0] ++ c.bytes
  body ++ List.replicate ((8 - body.length % 8) % 8) 0

/-- A mirror copy written into the capture area (R189). -/
def State.capture (s : State) (c : Copy) : State :=
  let d := s.dev
  let bs := captureBytes c
  let size := d.get R.SWM_CAP_CFG_SIZE * 4096
  let base := d.get R.SWM_CAP_BASE * 64
  let off := d.get R.SWM_CAP_PTR_OFFSET
  let put := fun (a : State) (o : Nat) =>
    (a.orchStore (Req.sys 13) (base + o) bs).on (fun d => d.set R.SWM_CAP_PTR_OFFSET (o + bs.length))
  if off + bs.length ≤ size then put s off
  else if d.on R.SWM_CAP_CFG_WRAP then
    put (s.on (fun d => (d.set R.SWM_CAP_PTR_WRAPPED 1).swCause R.SW_EVT_CAP_FULL 12)) 0
  else s.on (fun d => (((d.set R.SWM_CAP_CFG_EN 0).inc R.SWM_CNT_CAP_DROP).swCause R.SW_EVT_CAP_FULL 12))

/-- The frame that an output which is no network port starts, or has started, taken from it whole: time passes until its last cell is in the
store; its bytes as the egress leaves them, its FCS inverted and counted when it is BAD (R177). -/
def Dev.takeFrame (d : Dev) (j : Nat) : Option Copy × Dev :=
  let d1 := if (d.sending j).isSome then d else d.startPlain j d.startFuel
  match d1.sending j with
  | none => (none, d1)
  | some t0 =>
    let d2 := d1.fabWait (fun x => (x.fab.stores.getD j []).any (fun e => !e.2.map && e.2.id == t0.copy.id && e.2.last))
    let t := (d2.sending j).getD t0
    let d3 := (d2.endTx j).lateMark j t.copy
    if t.copy.bad then (some { t.copy with bytes := withFcs (frameBody t.wire) true }, d3.fcsMark j)
    else (some { t.copy with bytes := t.wire }, d3)

/-- The frame that reaches output F38 goes to its channel (R187): every mirror copy to CAPTURE while that is enabled (R189), a management
frame that is no mirror copy to BRIDLE, any other to HOST. -/
def State.f38Deliver (s : State) : State :=
  match s.dev.takeFrame 38 with
  | (none, d) => { s with dev := d }
  | (some c, d) =>
    let s1 : State := { s with dev := d }
    if c.mirror && d.on R.SWM_CAP_CFG_EN then s1.capture c
    else if c.mgmt && !c.mirror then s1.on (fun d => d.withFab (fun f => { f with bridleRx := f.bridleRx ++ [(c.src, c.bytes)] }))
    else s1.hostRx c

/-- A write of `SWM_HTX_TAIL` (R188). -/
def Dev.htxTailWrite (d : Dev) (w : Writer) (v : Nat) : Dev :=
  (d.set R.SWM_HTX_TAIL v).rsvIf (v / 2 ^ 11 != 0) w 0xC0808

/-- A write of a ring's COUNT word (R190): a 0 stops the ring and returns its indices to 0. -/
def Dev.ringCfgWrite (d : Dev) (w : Writer) (rx : Bool) (v : Nat) : Dev :=
  let off := if rx then 0xC0814 else 0xC0804
  let r := d.wordWrite off v
  let d1 := if v % 2 ^ 11 ≠ 0 then r.1
    else if rx then r.1.set R.SWM_HRX_NEXT 0 else (r.1.set R.SWM_HTX_TAIL 0).set R.SWM_HTX_HEAD 0
  d1.rsvIf r.2 w off

/-- A write of a ring's base (R190): only while its COUNT is 0; else it is dropped (log entry 11). -/
def Dev.ringBaseWrite (d : Dev) (w : Writer) (rx : Bool) (v : Nat) : Dev :=
  let off := if rx then 0xC0810 else 0xC0800
  let r := d.wordWrite off v
  if (if rx then d.get R.SWM_HRXR_CFG_COUNT else d.get R.SWM_HTXR_CFG_COUNT) ≠ 0 then d else r.1.rsvIf r.2 w off

/-- Time passes until input `i` has written every cell of the frames that entered from copy number `id` on (R397: SENT). -/
def Dev.sentWait (d : Dev) (i id : Nat) : Dev :=
  d.fabWait (fun x => ((x.fin i).cur.toList ++ (x.fin i).wait).all (fun g => g.copies.all (fun k => decide (k < id))))

/-! ### Transmit descriptors (R396, R397) -/

/-- A transmit entry (R396) decoded. -/
structure TxEntry where
  addr : Nat
  len  : Nat
  copy : Copy
  group : Bool
  dest : Nat
  stride : Bool
  stream : Option Nat
  bad  : Bool

/-- A transmit entry read from its 32 bytes (R396); `host` makes FLAGS.STRIDE reserved (R188). -/
def txEntry (l : List Byte) (src : Nat) (host : Bool) : TxEntry :=
  let at' := fun (i : Nat) => (l.getD i 0).toNat
  let le := fun (i n : Nat) => leNat (slice l i n)
  let flags := at' 10
  let stream := at' 7
  let vlan := le 28 2
  let launch := le 16 8
  { addr := le 0 4 % 2 ^ 25, len := le 4 2, group := (at' 6).testBit 3, dest := le 8 2 % 4096, stride := flags.testBit 3,
    stream := if stream = 255 then none else some stream,
    bad := le 0 4 / 2 ^ 25 != 0 || le 0 4 % 8 != 0 || decide (le 4 2 < 60) || decide (16380 < le 4 2) || decide (64 ≤ at' 6) ||
      (decide (127 < stream) && stream != 255) || decide (4096 ≤ le 8 2) ||
      (!(at' 6).testBit 3 && decide (39 < le 8 2)) || decide ((if host then 8 else 16) ≤ flags) || at' 11 != 0 ||
      vlan.testBit 15 || at' 30 != 0,
    copy := { src := src, origin := src, dst := 0, cls := at' 6 % 8, bytes := [], rate := 200000, limit := 16384,
              tags := { op := at' 6 / 16 % 4, pcp := vlan / 4096 % 8, vid := vlan % 4096 },
              ask := { launch := if flags.testBit 2 then some launch else none,
                       tsTag := if flags.testBit 0 then some (le 12 2) else none,
                       oneStep := if flags.testBit 1 then some (le 14 2) else none,
                       corrAdd := toSigned 32 (le 24 4) } } }

end Sys2Proof.Machine
end

