-- ==== Sys2Proof/Machine/Port.lean ====
section
/-! DEFINITION. The network ports (chapter 5): receive checks, classification, streams and pairs, gates, transmission selection,
preemption, EEE, link state, cable tests, MDIO. Ride paths are in Ride.lean. -/

namespace Sys2Proof.Machine
open Sys2Proof

/-- The next free value, and the device with the counter advanced (log entry 1). -/
def Dev.freeVal (d : Dev) : Nat × Dev := ((Config.freeWord d.free).toNat, { d with free := d.free + 1 })

/-- The network part of the state changed. -/
def Dev.withNet (d : Dev) (f : NetSt → NetSt) : Dev := { d with net := f d.net }

/-- A cause of `PORT_EVT[p]` bit `b`: EV128 + p (R262). -/
def Dev.portCause (d : Dev) (p : Nat) (f : Fld) (b : Nat) : Dev :=
  d.cause f (b == 11 || (d.get (R.PORT_EVT_EN p)).testBit b) (128 + p)

/-- The mode of a port (R212). -/
def Dev.portMode (d : Dev) (p : Nat) : Nat := d.get (R.PORT_CTRL_MODE p)

/-- A mode that runs a MAC (R212, R214, R242). -/
def macMode (mode : Nat) : Bool := decide (1 ≤ mode ∧ mode ≤ 4) || mode == 6 || mode == 7

/-- Whether a port may have a mode (R212). -/
def modeOk (p mode : Nat) : Bool :=
  mode == 0 || (if p < 16 then decide (mode ≤ 5) else if p < 24 then mode == 6 else mode == 7)

/-- An output that carries only the frames of a ride path (R254). -/
def Dev.rideOutput (d : Dev) (p : Nat) : Bool :=
  (List.range 8).any (fun i => d.get (R.RIDE_CFG_MODE (16 + i)) != 0 && 16 + d.get (R.RIDE_CFG_OUT (16 + i)) == p)

/-- Whether the link of a port is up. -/
def Dev.linkUp (d : Dev) (p : Nat) : Bool := d.on (R.PORT_STATUS_LINK p)

/-! ### Classification (R228 to R231) -/

/-- Whether a rule applies to a frame at ingress `p` (R229). -/
def ruleMatches (r : ClassRule) (p vid pcp : Nat) (l : List Byte) : Bool :=
  r.ports.testBit p && (!r.mDmac || r.dmac == dmac l) && (!r.mVid || r.vid == vid) && (!r.mPcp || r.pcp == pcp) &&
  (!r.mEtype || r.etype == etherType l)

/-- The first rule that applies (R229). -/
def Dev.classify (d : Dev) (p : Nat) (l : List Byte) : Option ClassRule :=
  let vp := vidPcp l (d.get (R.VLAN_CFG_PVID p)) (d.get (R.VLAN_CFG_DEF_PCP p))
  d.net.rules.find? (fun r => ruleMatches r p vp.1 vp.2 l)

/-- What classification decides about a frame: class, destinations, tag operation, stream, length limit; `none` when the frame
is discarded (R199, R228 to R230). -/
structure Decision where
  cls    : Nat
  dests  : List Nat
  tags   : TagOps := {}
  stream : Option Nat := none
  maxLen : Nat := 0

/-- The decision for a frame (R199, R229, R230). Until the first activation a management port forwards to F38 alone. -/
def Dev.decision (d : Dev) (p : Nat) (l : List Byte) : Option Decision :=
  if !d.on R.SW_STATUS_CFG_ACTIVE then
    (if d.host.record.mgmtPorts.testBit p then some { cls := d.host.record.mgmtClass, dests := [38] } else none)
  else match d.classify p l with
    | some r => some { cls := r.cls, dests := d.destPorts r.group r.dest, stream := r.stream, maxLen := r.maxLen,
                       tags := { op := r.tagOp, pcp := r.tagPcp, vid := r.tagVid } }
    | none =>
      if d.on (R.PORT_DEFAULT_DISCARD p) then none
      else some { cls := d.get (R.PORT_DEFAULT_CLASS p), dests := d.destPorts (d.on (R.PORT_DEFAULT_GROUP p)) (d.get (R.PORT_DEFAULT_DEST p)) }

/-! ### Streams (R245 to R247) -/

/-- The recovery state of stream `s`. -/
def Dev.recov (d : Dev) (s : Nat) : Recov := d.net.recov.getD s {}

/-- A frame passed by stream `s` with number `n`: STREAM_SEQ shows it (R270). -/
def Dev.streamPass (d : Dev) (s n p : Nat) (x : Recov) : Dev :=
  ((d.withNet (fun y => { y with recov := y.recov.put s { x with port := p } })).inc (R.STREAM_PASSED s)).set (R.STREAM_SEQ s) n

/-- RED_ERR of a port (R265). -/
def Dev.redErr (d : Dev) (p : Nat) : Dev := if p < 26 then d.portCause p (R.PORT_EVT_RED_ERR p) 10 else d

/-- The copies of a frame that passed in this fabric clock leave again for the copy of it at port `p`, when that has the lower port (R247), or
is on port A of its pair (R248); `none` when there is none such. `key` is the stream, or 1,000 + the pair. -/
def Dev.supersede (d : Dev) (key : Nat) (num : Nat × Nat) (p : Nat) : Option Dev :=
  match d.net.fresh.find? (fun f => f.key == key && f.num == num && f.slot == d.slotCount && decide (p < f.port)) with
  | none => none
  | some f => some ((d.fab.copies.filter (fun c => decide (f.lo ≤ c.id ∧ c.id < f.hi))).foldl (fun (a : Dev) c => a.takeCopy c) d)

/-- A frame of stream or pair `key` passed at port `p`; its copies have the numbers from `lo` on. -/
def Dev.noteFresh (d : Dev) (key : Nat) (num : Nat × Nat) (p lo : Nat) : Dev :=
  d.withNet (fun x => { x with fresh := (x.fresh.filter (fun f => f.slot == d.slotCount && !(f.key == key && f.num == num))) ++
    [{ key := key, num := num, slot := d.slotCount, port := p, lo := lo, hi := d.fab.nextId }] })

/-- A copy of a frame that stream `s` has passed: discarded, or passed in its place (R247). -/
def Dev.streamAgain (d : Dev) (s n p : Nat) : Dev × Bool :=
  match d.supersede s (0, n) p with
  | some d1 => (d1.inc (R.STREAM_DISCARDED s), true)
  | none => (d.inc (R.STREAM_DISCARDED s), false)

/-- The vector algorithm on number `n` (R247): `true` when the frame passes. -/
def Dev.vectorRecover (d : Dev) (s n p : Nat) : Dev × Bool :=
  let x := d.recov s
  let hist := d.get (R.STREAM_CFG_HIST s)
  match x.last with
  | none => (d.streamPass s n p { x with last := some n, seen := [n] }, true)
  | some last =>
    let delta := toSigned 16 (n + 65536 - last)
    if (hist : Int) ≤ delta ∨ delta ≤ -(hist : Int) then ((d.inc (R.STREAM_ROGUE s)).redErr p, false)
    else if x.seen.contains n then d.streamAgain s n p
    else if 0 < delta then
      (d.streamPass s n p { x with last := some n, seen := n :: x.seen.filter (fun m => decide ((n + 65536 - m) % 65536 < hist)) }, true)
    else ((d.streamPass s n p { x with seen := n :: x.seen }).inc (R.STREAM_OUT_OF_ORDER s), true)

/-- The match algorithm on number `n` (R247). -/
def Dev.matchRecover (d : Dev) (s n p : Nat) : Dev × Bool :=
  if (d.recov s).last = some n then d.streamAgain s n p
  else (d.streamPass s n p { d.recov s with last := some n, seen := [n] }, true)

/-- What stream `s` does with a frame (R246, R247): the tags at its egress, `none` when it is discarded. -/
def Dev.streamApply (d : Dev) (s : Nat) (tags : TagOps) (l : List Byte) (p : Nat) : Dev × Option TagOps :=
  let strip := { tags with strip := d.on (R.STREAM_CFG_STRIP s) }
  match d.get (R.STREAM_CFG_FUNC s) with
  | 0 => (d, some tags)
  | 1 => (d.set (R.STREAM_SEQ s) (d.get (R.STREAM_SEQ s) + 1), some { tags with rtag := some (d.get (R.STREAM_SEQ s)) })
  | f =>
    match rtagSeq l with
    | none => (d.inc (R.STREAM_TAGLESS s), some tags)
    | some n =>
      let r := if f = 2 then d.vectorRecover s n p else d.matchRecover s n p
      (r.1, if r.2 then some strip else none)

/-- RESET_MS passes without a frame passed (R247). -/
def Dev.streamReset (d : Dev) (s : Nat) : Dev :=
  if d.get (R.STREAM_CFG_FUNC s) < 2 then d
  else
    let x := d.recov s
    ((d.withNet (fun y => { y with recov := y.recov.put s { x with last := none, seen := [] } })).inc (R.STREAM_RESETS s)).redErr x.port

/-! ### Entering the fabric -/

/-- A frame that classification has decided about enters the fabric (R171, R245). -/
def Dev.letIn (d0 : Dev) (c : Copy) (x : Decision) (l : List Byte) : Dev :=
  let d := d0.fabSync
  let r := match x.stream with
    | some s => d.streamApply s x.tags l c.src
    | none => (d, some x.tags)
  match r.2 with
  | none => r.1
  | some tags =>
    let d1 := r.1.enterFrame { c with cls := x.cls, tags := tags } x.dests
    match x.stream, rtagSeq l with
    | some s, some n => if 2 ≤ d.get (R.STREAM_CFG_FUNC s) then d1.noteFresh s (0, n) c.src r.1.fab.nextId else d1
    | _, _ => d1

/-- A frame of a descriptor or of the mover enters at a team port or at F38: the FCS appended, the stamp taken (R162, R191). Before
the first activation only F38 forwards, to management ports (R199). -/
def Dev.sendEntry (d : Dev) (e : TxEntry) (bytes : List Byte) : Dev :=
  let dests := d.destPorts e.group e.dest
  let dests := if d.on R.SW_STATUS_CFG_ACTIVE then dests else dests.filter (fun p => d.host.record.mgmtPorts.testBit p)
  d.letIn { e.copy with bytes := withFcs bytes false, stamp := d.tb0 }
    { cls := e.copy.cls, dests := dests, tags := e.copy.tags, stream := e.stream } bytes

/-! ### Receive (R224 to R227, R84, R88, R89) -/

/-- The time base that stamps a frame at port `p` (R84). -/
def Dev.stampBase (d : Dev) (p : Nat) (l : List Byte) : Nat :=
  let dflt := d.get (R.TS_PORT_CFG_TB p)
  match ptpAt l with
  | none => dflt
  | some (o, _) =>
    if ptpEvent l o then
      ((List.range 8).find? (fun n => d.on (R.TB_PTP_DOMAIN_DOM_EN n) &&
        d.get (R.TB_PTP_DOMAIN_DOMAIN n) == (ptpDomain l o).1 && d.get (R.TB_PTP_DOMAIN_MAJOR_SDO n) == (ptpDomain l o).2)).getD dflt
    else dflt

/-- A timestamp value with a correction in 250 ps units (R88), in units of 2^-32 ns. -/
def adjust (v adj : Nat) : Nat := ((v : Int) + toSigned 16 adj * 2 ^ 30).toNat

/-- Whether a frame is a management frame of this device (R566): tagged with the management VID, for its MAC address, with
EtherType 0x88B5. -/
def Dev.isMgmt (d : Dev) (p : Nat) (l : List Byte) : Bool :=
  d.host.record.mgmtPorts.testBit p && tagCount l != 0 && be16 l 14 % 4096 == d.host.record.mgmtVid &&
  dmac l == d.host.record.mac && etherType l == 0x88B5

/-- The receive counters of a frame (R224, R268); the flag says whether it gets BAD. -/
def Dev.rxCount (d : Dev) (p : Nat) (l : List Byte) (err : Bool) : Dev × Bool :=
  let runt := decide (l.length < 64)
  let bad := !fcsGood l
  let d1 := (d.inc (R.PORT_CNT_RX_FRAMES p)).set (R.PORT_CNT_RX_OCTETS p) (d.get (R.PORT_CNT_RX_OCTETS p) + l.length)
  let d2 := if bad then d1.inc (R.PORT_CNT_RX_FCS_ERR p) else d1
  let d3 := if runt then d2.inc (R.PORT_CNT_RX_RUNT p) else d2
  let d4 := if err then d3.inc (R.PORT_CNT_RX_SYMBOL_ERR p) else d3
  (if bad || runt || err then d4.portCause p (R.PORT_EVT_RX_ERR p) 1 else d4, bad || runt || err)

/-- The timestamp point of a frame (R87): what the eight time bases read there, and TB0 [31:0] (R191). -/
def Dev.rxPoint (d : Dev) (phase : Nat) : Assy := { bytes := [], stamps := (List.range 8).map (fun n => d.stampAt n phase), tb0 := d.tb0 }

/-- The copy of a received frame before classification: stamp, record, ingress time, from its timestamp point. -/
def Dev.rxCopy (d : Dev) (p : Nat) (at' : Assy) (l : List Byte) (bad : Bool) : Copy :=
  let n := d.stampBase p l
  let v := adjust (at'.stamps.getD n 0) (d.get (R.TS_PORT_ADJ_RX_ADJ p))
  let vp := vidPcp l (d.get (R.VLAN_CFG_PVID p)) (d.get (R.VLAN_CFG_DEF_PCP p))
  { src := p, origin := p, dst := 0, cls := 0, bytes := l, stamp := at'.tb0, bad := bad, rate := d.rate p, inTime := v, inTb := n,
    tsRec := if d.on (R.TS_PORT_CFG_RX_EN p) then d.tsRec n v p else {}, vlan := vp.1 + 4096 * vp.2 }

/-- Truncation at `m` bytes (R225). -/
def truncateFrame (l : List Byte) (m : Nat) : List Byte := withFcs (l.take (m - 4)) true

/-- The truncation limit of a frame at port `p` (R225). -/
def Dev.truncLimit (d : Dev) (p : Nat) (x : Option Decision) : Nat :=
  let m := d.get (R.MAX_FRAME p)
  match x with
  | some x => if x.maxLen = 0 then m else min m x.maxLen
  | none => m

/-- A received frame within its truncation limit `m`, or cut there (R225). -/
def Dev.clip (d : Dev) (p : Nat) (c : Copy) (m : Nat) : Dev × Copy :=
  if m < c.bytes.length then
    ((d.inc (R.PORT_CNT_RX_TRUNC p)).portCause p (R.PORT_EVT_RX_ERR p) 1,
      { c with bytes := truncateFrame c.bytes m, bad := true, trunc := true, limit := m })
  else (d, { c with limit := m })

/-- Classification and admission of a frame received at port `p` (R225, R229, R230); a management frame is known by its bytes as classified
(R187, R566). -/
def Dev.rxAdmit (d : Dev) (p : Nat) (c : Copy) : Dev :=
  match d.decision p c.bytes with
  | none => if d.on R.SW_STATUS_CFG_ACTIVE then d.inc (R.PORT_CNT_RX_NO_RULE p) else d
  | some x =>
    let r := d.clip p { c with mgmt := d.isMgmt p c.bytes } (d.truncLimit p (some x))
    r.1.letIn r.2 x c.bytes

/-! ### Pairs (R248, R249) -/

/-- A number entered in the duplicate table of pair `k` (R249). -/
def Dev.dupPut (d : Dev) (k p : Nat) (e : Nat × Nat) : Dev :=
  let l := d.net.dup.getD k []
  if l.length < 1024 then d.withNet (fun x => { x with dup := x.dup.put k (l ++ [e]) })
  else ((d.withNet (fun x => { x with dup := x.dup.put k (l.drop 1 ++ [e]) })).inc (R.RED_TBL_FULL k)).redErr p

/-- The first copy of a frame of pair `k` passes (R248): `inside` lets it in. A later one is discarded; in the same fabric clock the copy on port A
(`side` 0) passes in the place of that on B. -/
def Dev.firstOfPair (d0 : Dev) (k p side : Nat) (e : Nat × Nat) (inside : Dev → Dev) : Dev :=
  let d := d0.fabSync
  if (d.net.dup.getD k []).contains e then
    match d.supersede (1000 + k) e side with
    | some d1 => inside (d1.inc (R.RED_DUP_DISCARD k))
    | none => d.inc (R.RED_DUP_DISCARD k)
  else (inside (d.dupPut k p e)).noteFresh (1000 + k) e side d.fab.nextId

/-- A frame with redundancy data on a port of PRP pair `k` (R248); its RCT is removed unless truncation has cut it off. -/
def Dev.prpReceive (d : Dev) (k p side : Nat) (c : Copy) (seq : Nat) : Dev :=
  let body := frameBody c.bytes
  let inner := { c with bytes := withFcs (body.take (body.length - 6)) c.bad, store := true }
  if c.bad || decide (d.truncLimit p (d.decision p inner.bytes) < c.bytes.length) then d.rxAdmit p { c with store := true }
  else d.firstOfPair k p side (smac c.bytes, seq) (fun a => a.rxAdmit p inner)

/-- A frame with an HSR tag on a port of pair `k` (R248): passed round the ring once in each direction, delivered once. The limit of R225 is that
of the frame as received. -/
def Dev.hsrReceive (d : Dev) (k p side : Nat) (c0 : Copy) (seq : Nat) : Dev :=
  let e := (smac c0.bytes, seq)
  let other := if side = 0 then d.get (R.RED_CFG_PORT_B k) else d.get (R.RED_CFG_PORT_A k)
  if e.1 = d.get (R.RED_ADDR k) then d.inc (R.RED_OWN_REMOVED k)
  else
    let way := (e.1, seq + 65536 * side)
    let x := d.decision p (withFcs (dropHsr (frameBody c0.bytes)) c0.bad)
    let r := d.clip p c0 (d.truncLimit p x)
    let c := r.2
    let cls := match x with | some x => x.cls | none => d.get (R.PORT_DEFAULT_CLASS p)
    let d1 := if (d.net.fwd.getD k []).contains way then r.1 else
      ((r.1.withNet (fun x => { x with fwd := x.fwd.put k ((x.fwd.getD k [] ++ [way]).drop (if (x.fwd.getD k []).length < 2048 then 0 else 1)) })).enterFrame
        { c with cls := cls, ring := true } [other])
    d1.firstOfPair k p side e (fun a => a.rxAdmit p { c with bytes := withFcs (dropHsr (frameBody c.bytes)) c.bad })

/-- A frame at a port of pair `k` (R248). -/
def Dev.pairReceive (d : Dev) (k p : Nat) (c : Copy) : Dev :=
  let side := if p = d.get (R.RED_CFG_PORT_A k) then 0 else 1
  let d1 := if side = 0 then d.inc (R.RED_RX_A k) else d.inc (R.RED_RX_B k)
  if d.get (R.RED_CFG_MODE k) = 1 then
    (match rctSeq (frameBody c.bytes) with
     | some s => d1.prpReceive k p side c s
     | none => d1.rxAdmit p c)
  else
    (match hsrSeq (frameBody c.bytes) with
     | some s => d1.hsrReceive k p side c s
     | none => d1.inc (R.RED_NO_TAG k))

/-- The oldest entry of the duplicate table of pair `k` is forgotten (R249), and with it the marks of its ring copies. -/
def Dev.redForget (d : Dev) (k : Nat) : Dev :=
  match d.net.dup.getD k [] with
  | [] => d
  | e :: r => d.withNet (fun x => { x with
      dup := x.dup.put k r,
      fwd := x.fwd.put k ((x.fwd.getD k []).filter (fun f => !(f.1 == e.1 && f.2 % 65536 == e.2))) })

/-- A whole frame received at port `p`, with its timestamp point. -/
def Dev.rxFrame (d : Dev) (p : Nat) (l : List Byte) (err : Bool) (at' : Assy) : Dev :=
  let r := d.rxCount p l err
  let c := r.1.rxCopy p at' l r.2
  match r.1.pairOf p with
  | some k => r.1.pairReceive k p c
  | none => r.1.rxAdmit p c

/-- What a port that runs a MAC receives (R214, R224, R242). A ride ingress takes its frames through RIDE_FRAME (R254). A receive error in
a fragment gives the reassembled frame BAD. The partner of a port without a SerDes lane may signal LPI (R264). -/
def Dev.portReceive (d : Dev) (p : Nat) (kind : MPacket) (l : List Byte) (err : Bool) (phase : Nat) : Dev :=
  if !macMode (d.portMode p) || !d.linkUp p || (decide (16 ≤ p ∧ p < 24) && d.get (R.RIDE_CFG_MODE p) != 0) then d else
  let d0 := d.withNet (fun x => { x with assy := x.assy.del p })
  match kind, Tab.find? d.net.assy p with
  | .frame, _ => d.rxFrame p l err (d.rxPoint phase)
  | .first, held =>
    (if held.isSome then d.inc (R.PORT_CNT_ASSY_ERR p) else d).withNet (fun x => { x with
      assy := x.assy.put p { d.rxPoint phase with bytes := l, err := err } })
  | .middle, some a => d.withNet (fun x => { x with assy := x.assy.put p { a with bytes := a.bytes ++ l, err := a.err || err } })
  | .last, some a => (d0.inc (R.PORT_CNT_ASSY_OK p)).rxFrame p (a.bytes ++ l) (a.err || err) a
  | .middle, none => d.inc (R.PORT_CNT_ASSY_ERR p)
  | .last, none => d.inc (R.PORT_CNT_ASSY_ERR p)
  | .verify, _ => d.emit (.verify p true)
  | .response, _ => if d.get (R.PREEMPT_STATUS_VERIFY p) = 2 then d.set (R.PREEMPT_STATUS_VERIFY p) 3 else d
  | .unknown, _ => d.inc (R.PORT_CNT_SMD_ERR p)
  | .lpi on, _ => if p < 16 then d else d.set (R.PORT_STATUS_LPI_RX p) (if on then 1 else 0)

/-! ### Gates (R234 to R241) -/

/-- An entry of a gate list: index, duration in ns, gates, OP (R236). -/
structure GateStep where
  idx   : Nat
  ns    : Nat
  gates : Nat
  op    : Nat
deriving DecidableEq, Repr

/-- The place of a list entry in `NetSt.gcl`. -/
def gclKey (p l i : Nat) : Nat := (p * 2 + l) * 1024 + i

/-- The entries that list `l` of port `p` executes in a cycle (R237): cut at the cycle's end, the last one held until it. -/
def clipSteps : List GateStep → Nat → List GateStep
  | [], _ => []
  | [e], left => [{ e with ns := left }]
  | e :: r, left => if left ≤ e.ns then [{ e with ns := left }] else e :: clipSteps r (left - e.ns)

/-- The steps of list `l` of port `p`. -/
def Dev.gateSteps (d : Dev) (p l : Nat) : List GateStep :=
  clipSteps ((List.range (d.get (R.GCL_LEN p l))).map (fun i =>
    let w := d.net.gcl.getD (gclKey p l i) 0
    { idx := i, ns := 4 * (w % 2 ^ 22), gates := bits w 22 8, op := bits w 30 2 })) (d.get (R.GCL_CYCLE p l))

/-- The value in ns of three time words of port `p` (R109). -/
def Dev.portTime (d : Dev) (p lo hi xhi : Nat) : Nat := timeValue (d.ptp (d.get (R.TS_PORT_CFG_TB p))) lo hi xhi / 2 ^ 32

/-- The port time base in ns (R237). -/
def Dev.portNow (d : Dev) (p : Nat) : Nat := d.tbNs (d.get (R.TS_PORT_CFG_TB p))

/-- GCL_BASE in ns. -/
def Dev.gclBase (d : Dev) (p l : Nat) : Nat := d.portTime p (d.get (R.GCL_BASE_LO p l)) (d.get (R.GCL_BASE_HI p l)) (d.get (R.GCL_BASE_XHI p l))

/-- The steps of a cycle from a position on: the rest of the present step first (R237). -/
def stepsFrom : List GateStep → Nat → List GateStep → List GateStep
  | [], _, done => done
  | e :: r, pos, done => if pos < e.ns then { e with ns := e.ns - pos } :: (r ++ done ++ [{ e with ns := pos }]) else stepsFrom r (pos - e.ns) (done ++ [e])

/-- The operating list of port `p` from the present instant on, one cycle long; `none` while no list governs (R237): EN is 0, its list starts at
the next tick only (R239), or BASE is still to come. -/
def Dev.gateNow (d : Dev) (p : Nat) : Option (List GateStep) :=
  let l := d.get (R.GATE_STATUS_OPER p)
  let t := d.portNow p
  if d.on (R.GATE_CTRL_EN p) && decide (d.net.gateAt.getD p 0 ≤ d.now) && decide (d.gclBase p l ≤ t) then
    some (stepsFrom (d.gateSteps p l) ((t - d.gclBase p l) % d.get (R.GCL_CYCLE p l)) [])
  else none

/-- What the gates of port `p` do from the present instant on (R234, R237): the operating list, before its BASE the idle states and then one
cycle of it; `none` while EN is 0. -/
def Dev.gateLine (d : Dev) (p : Nat) : Option (List GateStep) :=
  match d.gateNow p with
  | some l => some l
  | none =>
    let l := d.get (R.GATE_STATUS_OPER p)
    if d.on (R.GATE_CTRL_EN p) then
      some ({ idx := 0, ns := d.gclBase p l - d.portNow p, gates := d.get (R.GATE_IDLE p), op := 0 } :: d.gateSteps p l)
    else none

/-- The time until gate `q` next changes from closed to open; `was`: it is open before the first step. -/
def opensIn (q : Nat) (was : Bool) : List GateStep → Nat → Option Nat
  | [], _ => none
  | e :: r, acc => if e.gates.testBit q && !was then some acc else opensIn q (e.gates.testBit q) r (acc + e.ns)

/-- How long from now gate `q` has the state `open'`; `none` for ever. -/
def gateFor (q : Nat) (open' : Bool) : List GateStep → Nat → Option Nat
  | [], _ => none
  | e :: r, acc => if e.gates.testBit q == open' then gateFor q open' r (acc + e.ns) else some acc

/-- The longest open interval of gate `q` over two cycles of steps. -/
def longestOpen (q : Nat) : List GateStep → Nat → Nat → Nat
  | [], cur, best => max cur best
  | e :: r, cur, best => if e.gates.testBit q then longestOpen q r (cur + e.ns) best else longestOpen q r 0 (max cur best)

/-- Whether the last hold or release entry up to now is a hold (R243): the steps, oldest last. -/
def holdFrom : List GateStep → Bool
  | [] => false
  | e :: r => if e.op = 1 then true else if e.op = 2 then false else holdFrom r

/-- Whether Set-And-Hold-MAC is in force at port `p`. -/
def Dev.macHold (d : Dev) (p : Nat) : Bool :=
  match d.gateNow p with
  | some (e :: r) => holdFrom (e :: r.reverse)
  | _ => false

/-- The gate states of port `p` now (R237). -/
def Dev.gatesOpen (d : Dev) (p : Nat) : Nat :=
  match d.gateNow p with
  | some (e :: _) => e.gates
  | _ => d.get (R.GATE_IDLE p)

/-! ### Preemption (R242 to R244) -/

/-- Preemption acts at port `p` (R242), which a lane in Harness mode and a ride output do not have (R214, R254). -/
def Dev.preemptOn (d : Dev) (p : Nat) : Bool :=
  d.on (R.PREEMPT_CFG_EN p) && macMode (d.portMode p) && !d.rideOutput p && (d.get (R.PREEMPT_STATUS_VERIFY p) == 0 || d.get (R.PREEMPT_STATUS_VERIFY p) == 3)

/-- Whether class `c` is express at port `p`. -/
def Dev.express (d : Dev) (p c : Nat) : Bool := !d.preemptOn p || (d.get (R.PREEMPT_CFG_EXPRESS p)).testBit c

/-- The least size of a fragment that is not the last. -/
def Dev.minFrag (d : Dev) (p : Nat) : Nat := 64 * (1 + d.get (R.PREEMPT_CFG_ADD_FRAG p))

/-- The wire time of `n` bytes at port `p` in ns. -/
def Dev.wireNs (d : Dev) (p n : Nat) : Nat := if d.rate p = 0 then 0 else (n * 8000 + d.rate p - 1) / d.rate p

/-- The frame in transmission at port `p` is preempted if the standard allows it at this point (R243). -/
def Dev.preempt (d : Dev) (p : Nat) : Dev :=
  match d.sending p with
  | none => d
  | some t =>
    if d.express p t.copy.cls || t.altered then d else
    let sent := max (t.sent + d.minFrag p) (t.sent + (d.now - t.start) * d.rate p / 8000)
    if t.wire.length < sent + 64 then d
    else
      (d.withFab (fun f => { f with tx := f.tx.del p, paused := f.paused.put p { t with sent := sent } })).inc (R.PORT_CNT_FRAG_TX p)
        |>.emit (.fragment p ((t.wire.take sent).drop t.sent) false)

/-- The gates of port `p` take their present states (R238); a gate that closes on the frame in transmission preempts it or
counts an overrun (R241, R243); a hold entry preempts (R243). -/
def Dev.gateRefresh (d : Dev) (p : Nat) : Dev :=
  let was := d.get (R.GATE_STATUS_GATES p)
  let g := d.gatesOpen p
  let act := d.gateNow p
  let idx := match act with | some (e :: _) => e.idx | _ => 0
  let d1 := ((d.set (R.GATE_STATUS_GATES p) g).set (R.GATE_STATUS_ACTIVE p) (if act.isSome then 1 else 0)).set (R.GATE_STATUS_ENTRY p) idx
  match d1.sending p with
  | none => d1
  | some t =>
    let q := t.copy.cls
    if was.testBit q && !g.testBit q then
      (if d1.express p q || t.altered then
        (d1.inc (R.PORT_CNT_GATE_OVERRUN p)).portCause p (R.PORT_EVT_GATE_OVERRUN p) 2 else d1.preempt p)
    else if d1.macHold p then d1.preempt p else d1

/-! ### Energy-Efficient Ethernet (R251 to R253) -/

/-- Whether a copy waits at port `p` in a queue whose gate is open, or in any queue while no list runs (R252). -/
def Dev.queued (d : Dev) (p : Nat) : Bool :=
  (Tab.find? d.fab.paused p).isSome ||
  (d.waiting p).any (fun c => (!d.on (R.GATE_CTRL_EN p) || (d.gatesOpen p).testBit c.cls))

/-- The time until any gate of port `p` next opens (R252): the least time to a change from closed to open, in two cycles; `none` when none
ever does, or no list runs. -/
def Dev.nextOpening (d : Dev) (p : Nat) : Option Nat :=
  match d.gateLine p with
  | none => none
  | some l =>
    let l2 := l ++ (if (d.gateNow p).isSome then l else d.gateSteps p (d.get (R.GATE_STATUS_OPER p)))
    ((List.range 8).filterMap (fun q => opensIn q ((d.gatesOpen p).testBit q) l2 0)).min?

/-- The transmitter of port `p` enters LPI, if the condition of R252 holds. A SerDes lane and a ride output have no LPI (R251, R254). -/
def Dev.lpiEnter (d : Dev) (p : Nat) : Dev :=
  let far := match d.nextOpening p with
    | some t => decide (d.get (R.EEE_TS p) + d.get (R.EEE_TW p) < t)
    | none => true
  if !d.on (R.EEE_CFG_EN p) || decide (p < 16) || d.rideOutput p || d.on (R.PORT_STATUS_LPI_TX p) || d.queued p || (d.sending p).isSome || !far then d
  else ((d.set (R.PORT_STATUS_LPI_TX p) 1).inc (R.PORT_CNT_LPI_ENTRIES p)).emit (.lpi p true)

/-- The transmitter leaves LPI now: the wake is complete after TW (R252). -/
def Dev.lpiWake (d : Dev) (p : Nat) : Dev :=
  if d.on (R.PORT_STATUS_LPI_TX p) then
    ((d.set (R.PORT_STATUS_LPI_TX p) 0).withNet (fun x => { x with waking := x.waking.put p (d.now + d.get (R.EEE_TW p)) })).emit (.lpi p false)
  else d

/-- The transmitter leaves LPI (R252): with a gate list running and nothing queued, TW before the next opening. -/
def Dev.lpiLeave (d : Dev) (p : Nat) : Dev :=
  if !d.on (R.PORT_STATUS_LPI_TX p) then d else
  match (if d.queued p then none else d.nextOpening p) with
  | some t => (d.passTo (d.get (R.TS_PORT_CFG_TB p)) ((d.portNow p + t - d.get (R.EEE_TW p)) * 2 ^ 32)).lpiWake p
  | none => d.lpiWake p

/-- A list switch, a time step or a write of GATE_IDLE has brought an opening nearer than TW while the port is in LPI (R253); `was`: the gates
that were open before it. -/
def Dev.lpiLateWake (d : Dev) (p was : Nat) : Dev :=
  let opened := (List.range 8).any (fun q => (d.gatesOpen p).testBit q && !was.testBit q)
  let near := opened || (d.nextOpening p).any (fun t => decide (t < d.get (R.EEE_TW p)))
  if d.on (R.PORT_STATUS_LPI_TX p) && near then (d.lpiWake p).inc (R.PORT_CNT_LPI_LATE_WAKE p) else d

/-! ### Transmission selection (R94, R95, R233 to R235) -/

/-- The transmit timestamp of a frame that starts at port `p` now in time base `n` (R78, R88), in units of 2^-32 ns: `off` locates the start, in
phases of 250 ps after the present tick. -/
def Dev.txStamp (d : Dev) (p n : Nat) (off : Int) : Nat :=
  adjust (((d.tb n).val : Int) + off * (d.tb n).incr / 8).toNat (d.get (R.TS_PORT_ADJ_TX_ADJ p))

/-- What the egress does to the fields of a frame that starts at `off` (R91 to R93): the body, whether it was altered, whether an insertion was
not made. A frame is forwarded when it came from a network port; one that firmware sends has the residence time 0, and is altered for its
CORR_ADD alone (DESIGN CHOICE, log entry 182). ONE_STEP writes its field in a frame of any encapsulation (R91; DESIGN CHOICE, log entry 183). -/
def Dev.alter (d : Dev) (p : Nat) (off : Int) (c : Copy) (body : List Byte) : List Byte × Bool × Bool :=
  if !d.on (R.TS_PORT_CFG_TX_EN p) then (body, false, false) else
  let fix := fun (new : List Byte) =>
    match ptpAt body with
    | some (o, enc) => fixUdp enc o body new
    | none => some new
  match c.ask.oneStep with
  | some o =>
    let ns := (d.txStamp p (d.stampBase p c.bytes) off + 2 ^ 31) / 2 ^ 32
    if body.length < o + 10 then (body, false, true)
    else match fix (splice body o (beBytes 6 (ns / 1000000000) ++ beBytes 4 (ns % 1000000000))) with
      | some b => (b, true, false)
      | none => (body, false, true)
  | none =>
    match (if d.on (R.TS_PORT_CFG_TC_EN p) && (decide (c.origin < 26) || c.ask.corrAdd != 0) then ptpAt body else none) with
    | some (o, _) =>
      if !ptpEvent body o then (body, false, false) else
      let stay : Int := if c.origin < 26 then ((d.txStamp p c.inTb off : Int) - c.inTime) / 2 ^ 16 else 0
      let v := toSigned 64 (beNat (slice body (o + 8) 8)) + stay + c.ask.corrAdd
      match fix (splice body (o + 8) (beBytes 8 (ofSigned 64 v))) with
      | some b => (b, true, false)
      | none => (body, false, true)
    | none => (body, false, false)

/-- ONE_STEP of a descriptor at port `p`: ignored while TX_EN is 0 (R114). -/
def Dev.oneStepAt (d : Dev) (p : Nat) (c : Copy) : Bool := d.on (R.TS_PORT_CFG_TX_EN p) && c.ask.oneStep.isSome

/-- The frame as it leaves port `p` from the start `off` on, and the device with the counts of R93; its record is one of the time base that R84
gives the frame (R90). -/
def Dev.makeTx (d : Dev) (p : Nat) (off : Int) (c : Copy) : TxFrame × Dev :=
  let a := d.alter p off c (frameBody c.bytes)
  let n := d.stampBase p c.bytes
  let r := match (if d.on (R.TS_PORT_CFG_TX_EN p) then c.ask.tsTag else none) with
    | some tag => some (d.tsRec n (d.txStamp p n off) tag)
    | none => none
  ({ copy := c, wire := withFcs (d.tagBody p c a.1) c.bad, start := d.now, tsRec := r, altered := a.2.1 || d.oneStepAt p c },
   if a.2.2 then d.inc (R.TS_PORT_CNT_TS_ERR p) else d)

/-- The head of queue `q` of port `p`: the first of its copies whose first cell is in the fabric (R174, R232). -/
def Dev.queueHead (d : Dev) (p q : Nat) : Option Copy := (d.waiting p).find? (fun c => c.cls == q && d.arrived c)

/-- The launch time that governs a copy at port `p` (R94, R114). -/
def Dev.launchOf (d : Dev) (p : Nat) (c : Copy) : Option Nat := if d.on (R.TS_PORT_CFG_TX_EN p) then c.ask.launch else none

/-- The value of the port time base at which a start keeps launch time `t` (R88, R94), in units of 2^-32 ns: TX_ADJ corrects the start. -/
def Dev.launchAt (d : Dev) (p t : Nat) : Nat := ((t : Int) * 2 ^ 32 - toSigned 16 (d.get (R.TS_PORT_ADJ_TX_ADJ p)) * 2 ^ 30).toNat

/-- The value of R22 of the port time base, `off` phases of 250 ps after the present tick. -/
def Dev.portAt (d : Dev) (p : Nat) (off : Int) : Nat :=
  let x := d.tb (d.get (R.TS_PORT_CFG_TB p))
  ((x.val % 2 ^ 96 : Nat) + off * x.incr / 8).toNat

/-- Where the start of a copy is located that is given at `off` (R78, R94): a launch instant that lies within the last tick is the start. -/
def Dev.startOff (d : Dev) (p : Nat) (off : Int) (c : Copy) : Int :=
  match d.launchOf p c with
  | none => off
  | some t =>
    let n := d.get (R.TS_PORT_CFG_TB p)
    let v := d.portAt p 0
    if d.launchAt p t ≤ v ∧ v < d.launchAt p t + (d.tb n).incr then -(d.phasesBack n v (d.launchAt p t) : Int) else off

/-- A launch discard (R95). -/
def Dev.launchDrop (d : Dev) (p : Nat) (c : Copy) : Dev := ((d.takeCopy c).inc (R.TS_PORT_CNT_LAUNCH_DROP p)).tsEvent p

/-- The bytes that a copy must send before it may stop (R234). -/
def Dev.fitBytes (d : Dev) (p : Nat) (c : Copy) : Nat :=
  if !d.express p c.cls && !d.oneStepAt p c then d.minFrag p + 8
  else (if d.cutThrough c && decide (c.src < 26) then c.limit else c.bytes.length) + 8

/-- Whether a copy fits before the next closing of its gate (R234). -/
def Dev.fits (d : Dev) (p : Nat) (c : Copy) : Bool :=
  match d.gateLine p with
  | none => true
  | some l =>
    match gateFor c.cls true l 0 with
    | none => true
    | some t => decide (d.wireNs p (d.fitBytes p c) ≤ t)

/-- Whether a copy fits not even in the longest open interval of its gate (R235). -/
def Dev.neverFits (d : Dev) (p : Nat) (c : Copy) : Bool :=
  match d.gateNow p with
  | none => false
  | some l =>
    (gateFor c.cls true (d.gateSteps p (d.get (R.GATE_STATUS_OPER p))) 0).isSome &&
    decide (longestOpen c.cls (l ++ l) 0 0 < d.wireNs p (d.fitBytes p c))

/-- Whether a head frame is eligible for a start at `off` (R94, R233, R243). -/
def Dev.eligible (d : Dev) (p : Nat) (off : Int) (c : Copy) : Bool :=
  (d.gatesOpen p).testBit c.cls &&
  (match d.launchOf p c with | some t => decide (d.launchAt p t ≤ d.portAt p off) | none => true) &&
  d.fits p c && (d.express p c.cls || (!d.macHold p && (Tab.find? d.fab.paused p).isNone))

/-- Heads that never start are discarded (R95: more than 1 s ahead; R177; R235). -/
def Dev.purgeHeads (d : Dev) (p : Nat) : Nat → Dev
  | 0 => d
  | fuel + 1 =>
    match (List.range 8).findSome? (fun q => (d.queueHead p q).filter (fun c =>
        d.seenBad c || d.neverFits p c ||
        (match d.launchOf p c with | some t => decide (d.portAt p 0 + 1000000000 * 2 ^ 32 < d.launchAt p t) | none => false))) with
    | none => d
    | some c =>
      (if d.seenBad c then d.takeCopy c
       else if d.neverFits p c then (d.takeCopy c).inc (R.PORT_CNT_GATE_DISCARD p)
       else d.launchDrop p c).purgeHeads p fuel

/-- The highest queue with an eligible head (R233). -/
def Dev.pick (d : Dev) (p : Nat) (off : Int) : Option Copy :=
  [7, 6, 5, 4, 3, 2, 1, 0].findSome? (fun q => (d.queueHead p q).filter (fun c => d.eligible p off c))

/-- The highest express queue with an eligible head (R243). -/
def Dev.pickExpress (d : Dev) (p : Nat) : Option Copy :=
  [7, 6, 5, 4, 3, 2, 1, 0].findSome? (fun q => (d.queueHead p q).filter (fun c => d.express p c.cls && d.eligible p 0 c))

/-- A launch later than its tolerance (R95). -/
def Dev.launchLate (d : Dev) (p : Nat) (off : Int) (c : Copy) : Bool :=
  match d.launchOf p c with
  | some t => decide (d.launchAt p t + d.get (R.TS_LATE_TOL p) * 2 ^ 32 < d.portAt p (d.startOff p off c))
  | none => false

/-- The wake of port `p` from LPI completes before a frame starts (R252). -/
def Dev.awaitWake (d : Dev) (p : Nat) : Dev :=
  match Tab.find? d.net.waking p with
  | some t => (d.passNs (t - d.now)).withNet (fun x => { x with waking := x.waking.del p })
  | none => d

/-- Transmission selection at network port `p` until a frame starts or none is eligible (R95, R176, R192, R218, R233): the frame selected starts
when its first cell is in the output store, and its last one written unless it is cut-through, at `off` phases of 250 ps after the tick. A late launch is judged with the wake from
LPI that the frame waits for (R95, R252). -/
def Dev.portStart (d : Dev) (p : Nat) (off : Int) : Nat → Dev
  | 0 => d
  | fuel + 1 =>
    let d0 := (d.awaitAny p).purgeHeads p (d.fab.copies.length)
    let off := if d0.now = d.now then off else 0
    match d0.pick p off with
    | none => d0
    | some c =>
      if !d0.linkUp p then ((d0.takeCopy c).inc (R.PORT_CNT_TX_LINK_DROP p)).portStart p off fuel
      else if !d0.ready c then (d0.awaitCopy p c).portStart p 0 fuel
      else if (Tab.find? d0.net.waking p).isSome then (d0.awaitWake p).portStart p 0 fuel
      else if d0.tooOld c then (d0.ageDrop p c).portStart p off fuel
      else if d0.launchLate p off c && !d0.on (R.TS_PORT_CFG_LATE_POLICY p) then (d0.launchDrop p c).portStart p off fuel
      else
        let d2 := if d0.launchLate p off c then (d0.inc (R.TS_PORT_CNT_LAUNCH_LATE p)).tsEvent p else d0
        let t := d2.makeTx p (d0.startOff p off c) c
        t.2.startFrame p t.1

/-- A bound on the selections of one start at a network port. -/
def Dev.portFuel (d : Dev) : Nat := 3 * d.fab.copies.length + 3

/-- Network port `p` starts a frame (R233); while a preemptable frame is sent, an eligible express frame preempts it (R243). A
port in LPI, a Harness lane and a ride output start none. -/
def Dev.startPort (d0 : Dev) (p : Nat) (off : Int) : Dev :=
  let d := d0.fabSync
  if d.on (R.PORT_STATUS_LPI_TX p) || d.portMode p == 5 || d.rideOutput p then d
  else match d.sending p with
    | none => d.portStart p off d.portFuel
    | some t =>
      match (if d.express p t.copy.cls then none else d.pickExpress p) with
      | some _ =>
        let d1 := d.preempt p
        if (d1.sending p).isNone then d1.portStart p off d1.portFuel else d
      | none => d

/-- An output selects a frame and starts it (R174, R176). -/
def Dev.startEgress (d : Dev) (j : Nat) : Dev :=
  if j < 26 then d.startPort j 0
  else if j = 39 then d.startLoop
  else if (d.sending j).isSome then d.fabSync else d.startPlain j d.startFuel

/-- The preempted frame of port `p` resumes when nothing holds it back (R243). -/
def Dev.resume (d : Dev) (p : Nat) : Dev :=
  match Tab.find? d.fab.paused p with
  | some t =>
    if (d.gatesOpen p).testBit t.copy.cls && !d.macHold p && (d.pickExpress p).isNone then
      d.withFab (fun f => { f with paused := f.paused.del p, tx := f.tx.put p { t with start := d.now } })
    else d
  | none => d

/-- The last bit of the frame in transmission at port `p` is sent: its record, its counts, its FCS (R90, R177, R193). A frame of which the MAC
lacked a cell when it needed it has underrun there (R178). -/
def Dev.finishTx (d : Dev) (p : Nat) (t0 : TxFrame) : Dev :=
  let d0 := (d.passNs (t0.start + d.wireNs p (t0.wire.length - t0.sent) - d.now)).fabSync
  let t := (d0.sending p).getD t0
  match d0.missingCell p t with
  | some n => d0.underrun p (32 * n)
  | none =>
    let wire := if t.copy.bad then withFcs (frameBody t.wire) true else t.wire
    let d2 := (d0.endTx p).lateMark p t.copy
    let d3 := if t.copy.bad then d2.fcsMark p else d2
    let d4 := (d3.inc (R.PORT_CNT_TX_FRAMES p)).set (R.PORT_CNT_TX_OCTETS p) (d3.get (R.PORT_CNT_TX_OCTETS p) + wire.length)
    let d5 := match t.tsRec with | some r => d4.txtsPush p r | none => d4
    if t.sent = 0 then d5.emit (.frame p wire t.copy.bad)
    else (d5.inc (R.PORT_CNT_FRAG_TX p)).emit (.fragment p (wire.drop t.sent) true)

/-- The MAC of port `p` transmits the highest eligible queue head (R233), whose first bit leaves in phase `phase` of a tick (R78), or ends the frame
it has started. -/
def Dev.transmit (d : Dev) (p phase : Nat) : Dev :=
  let d1 := if (d.sending p).isSome then d else d.startPort p phase
  let d2 := if (d1.sending p).isSome then d1 else d1.resume p
  match d2.sending p with
  | some t => d2.finishTx p t
  | none => d2

/-- The time base of port `p` reaches the earliest launch time that waits at a queue's head (R94, R95). -/
def Dev.launchReached (d : Dev) (p : Nat) : Dev :=
  let ts := (List.range 8).filterMap (fun q => (d.queueHead p q).bind (fun c => d.launchOf p c))
  match ts.min? with
  | some t =>
    let n := d.get (R.TS_PORT_CFG_TB p)
    (d.passTo n ((d.tb n).val / 2 ^ 96 * 2 ^ 96 + d.launchAt p t)).startPort p 0
  | none => d

/-! ### Gate control (R239, R240) -/

/-- A write of `GATE_CTRL[p]` (R239, R240): the list that EN starts governs the gates from the next tick. -/
def Dev.gateCtrlWrite (d : Dev) (w : Writer) (p v : Nat) : Dev :=
  let was := d.on (R.GATE_CTRL_EN p)
  let d1 := d.set (R.GATE_CTRL_FIRST p) (bits v 2 1)
  let d2 := if v.testBit 0 then
      (if was then d1 else ((d1.set (R.GATE_CTRL_EN p) 1).set (R.GATE_STATUS_OPER p) (bits v 2 1)).withNet (fun x => { x with
        gateAt := x.gateAt.put p (d.now + 2) }))
    else ((d1.set (R.GATE_CTRL_EN p) 0).set (R.GATE_STATUS_ARMED p) 0).set (R.GATE_CTRL_ARM p) 0
  let d3 := if v.testBit 3 && v.testBit 0 && !d2.on (R.GATE_STATUS_ARMED p) then
      let a := (d2.set (R.GATE_STATUS_ARMED p) 1).set (R.GATE_CTRL_ARM p) 1
      if d.portTime p (d.get (R.GATE_SWITCH_TIME_LO p)) (d.get (R.GATE_SWITCH_TIME_HI p)) (d.get (R.GATE_SWITCH_TIME_XHI p)) < d.portNow p
      then a.portCause p (R.PORT_EVT_SWITCH_LATE p) 4 else a
    else d2
  ((d3.gateRefresh p).lpiLateWake p (d.gatesOpen p)).rsvIf (v / 16 != 0 || v.testBit 1) w (0xD0020 + p * 0x800)

/-- The switch time is reached: the admin list becomes operating (R240, R253). -/
def Dev.gateSwitch (d : Dev) (p : Nat) : Dev :=
  if !d.on (R.GATE_STATUS_ARMED p) then d else
  let t := d.portTime p (d.get (R.GATE_SWITCH_TIME_LO p)) (d.get (R.GATE_SWITCH_TIME_HI p)) (d.get (R.GATE_SWITCH_TIME_XHI p))
  let d1 := d.passTo (d.get (R.TS_PORT_CFG_TB p)) (t * 2 ^ 32)
  let d2 := (((d1.set (R.GATE_STATUS_OPER p) (1 - d1.get (R.GATE_STATUS_OPER p))).set (R.GATE_STATUS_ARMED p) 0).set
    (R.GATE_CTRL_ARM p) 0).portCause p (R.PORT_EVT_GATE_SWITCHED p) 3
  (d2.gateRefresh p).lpiLateWake p (d1.gatesOpen p)

/-- The present entry or cycle of port `p` ends and the next gate states apply (R237, R238). -/
def Dev.gateAdvance (d : Dev) (p : Nat) : Dev :=
  match d.gateNow p with
  | some (e :: _) => (d.passTo (d.get (R.TS_PORT_CFG_TB p)) ((d.portNow p + e.ns) * 2 ^ 32)).gateRefresh p
  | _ =>
    if d.on (R.GATE_CTRL_EN p) then
      (d.passTo (d.get (R.TS_PORT_CFG_TB p)) (d.gclBase p (d.get (R.GATE_STATUS_OPER p)) * 2 ^ 32)).gateRefresh p
    else d.gateRefresh p

/-- A write of `GATE_IDLE[p]` (R241, R253). -/
def Dev.gateIdleWrite (d : Dev) (w : Writer) (p v : Nat) : Dev :=
  (((d.set (R.GATE_IDLE p) v).gateRefresh p).lpiLateWake p (d.gatesOpen p)).rsvIf (v / 256 != 0) w (0xD0028 + p * 0x800)

/-- INDEX moves on after an access of `GCL_DATA[p]` (R266). -/
def Dev.gclNext (d : Dev) (p : Nat) : Dev := d.inc (R.GCL_ADDR_INDEX p)

/-- A write of `GCL_DATA[p]` (R236, R239). -/
def Dev.gclWrite (d : Dev) (w : Writer) (p v : Nat) : Dev :=
  let l := d.get (R.GCL_ADDR_LIST p)
  let oper := d.on (R.GATE_CTRL_EN p) && l == d.get (R.GATE_STATUS_OPER p)
  let armed := d.on (R.GATE_CTRL_EN p) && l != d.get (R.GATE_STATUS_OPER p) && d.on (R.GATE_STATUS_ARMED p)
  if oper || armed then (d.portCause p (R.PORT_EVT_CFG_REJ p) 5).gclNext p
  else if bits v 30 2 = 3 ∨ v % 2 ^ 22 < 4 then (d.rsvWrite w (0xD0030 + p * 0x800)).gclNext p
  else (d.withNet (fun x => { x with gcl := x.gcl.put (gclKey p l (d.get (R.GCL_ADDR_INDEX p))) v })).gclNext p

/-- A read of `GCL_DATA[p]`. -/
def Dev.gclRead (d : Dev) (p : Nat) : Nat × Dev :=
  (d.net.gcl.getD (gclKey p (d.get (R.GCL_ADDR_LIST p)) (d.get (R.GCL_ADDR_INDEX p))) 0, d.gclNext p)

/-! ### Preemption control (R242) -/

/-- The verify exchange of port `p` starts over when preemption needs it (R242); a port without preemption has none (R214, R254). -/
def Dev.verifyStart (d : Dev) (p : Nat) : Dev :=
  if !macMode (d.portMode p) || d.rideOutput p || !d.on (R.PREEMPT_CFG_EN p) || d.on (R.PREEMPT_CFG_VERIFY_DIS p) then d.set (R.PREEMPT_STATUS_VERIFY p) 0
  else if d.linkUp p then (d.set (R.PREEMPT_STATUS_VERIFY p) 2).emit (.verify p false)
  else d.set (R.PREEMPT_STATUS_VERIFY p) 1

/-- A write of `PREEMPT_CFG[p]` (R242). -/
def Dev.preemptWrite (d : Dev) (w : Writer) (p v : Nat) : Dev :=
  let off := 0xD00A0 + p * 0x800
  let r := d.wordWrite off v
  let same := r.1.get (R.PREEMPT_CFG_EN p) == d.get (R.PREEMPT_CFG_EN p) && r.1.get (R.PREEMPT_CFG_VERIFY_DIS p) == d.get (R.PREEMPT_CFG_VERIFY_DIS p)
  (if same then r.1 else r.1.verifyStart p).rsvIf r.2 w off

/-- The verify exchange fails (R242). -/
def Dev.verifyFail (d : Dev) (p : Nat) : Dev :=
  if d.get (R.PREEMPT_STATUS_VERIFY p) = 2 then (d.set (R.PREEMPT_STATUS_VERIFY p) 4).portCause p (R.PORT_EVT_VERIFY_FAIL p) 6 else d

/-! ### Link state (R216 to R218, R263) -/

/-- LINK takes a value; LINK_CHG when it changes. -/
def Dev.setLink (d : Dev) (p : Nat) (up : Bool) : Dev :=
  if d.linkUp p = up then d
  else (d.set (R.PORT_STATUS_LINK p) (if up then 1 else 0)).portCause p (R.PORT_EVT_LINK_CHG p) 0

/-- Link bring-up completes (R216). In 1000BASE-X with AN_EN the partner must complete auto-negotiation (R217). -/
def Dev.linkBringUp (d : Dev) (p speed : Nat) (an : Bool) : Dev :=
  let mode := d.portMode p
  if mode = 0 ∨ d.on (R.PORT_CTRL_EN p) = false ∨ (mode = 1 ∧ d.on (R.PORT_CTRL_AN_EN p) = true ∧ an = false) then d
  else
    let anDone := an && d.on (R.PORT_CTRL_AN_EN p) && (mode == 1 || mode == 6)
    let sp := if mode = 7 then min speed 2 else 3
    ((((d.set (R.PORT_STATUS_FAIL p) 0).set (R.PORT_STATUS_AN_DONE p) (if anDone then 1 else 0)).set (R.PORT_STATUS_SPEED p) sp).setLink
      p true).verifyStart p

/-! ### Frames of ride paths (R254 to R259); the ride window is in Ride.lean -/

/-- The frame that passes on the path of ingress port `p`. -/
def Dev.ride (d : Dev) (p : Nat) : Option Ride := Tab.find? d.net.rides p

/-- The device with that frame changed. -/
def Dev.setRide (d : Dev) (p : Nat) (x : Ride) : Dev := d.withNet (fun n => { n with rides := n.rides.put p x })

/-- The pending edits of the path of port `p`. -/
def Dev.edits (d : Dev) (p : Nat) : Tab Byte := d.net.edits.getD p []

/-- The device with those edits changed. -/
def Dev.setEdits (d : Dev) (p : Nat) (t : Tab Byte) : Dev := d.withNet (fun n => { n with edits := n.edits.put p t })

/-- A late edit (R258). -/
def Dev.rideLate (d : Dev) (p : Nat) : Dev :=
  let d1 := (d.inc (R.RIDE_CNT_LATE p)).portCause p (R.PORT_EVT_RIDE_LATE p) 7
  match d.ride p with
  | some x => if d.on (R.RIDE_CFG_LATE_MARK p) then d1.setRide p { x with err := true } else d1
  | none => d1

/-- The byte from which a frame ends with TX_ER (R258): the first past the shorter of its length and its declared length, the byte with a
receive error, the first that a link loss cut off, or its end for a late edit with LATE_MARK. -/
def Ride.txEr (x : Ride) (cut : Bool) : Option Nat :=
  let n := x.rx.length
  (([x.len.bind (fun l => if l = n then none else some (min l n)), x.badAt] ++ [if cut || x.err then some n else none]).filterMap id).min?

/-- The bytes sent: a frame longer than the limit `m` ends there with the inverted FCS of the bytes before (R258). -/
def Ride.sent (x : Ride) (m : Nat) : List Byte :=
  if m < x.rx.length then x.tx.take (m - 4) ++ (fcsBytes (x.tx.take (m - 4))).map (fun b => ~~~ b) else x.tx

/-- The end of the frame of port `p`: late edits, counts, the frame sent (R257, R258). An edit whose byte never came is late. -/
def Dev.rideFinish (d : Dev) (p : Nat) (cut : Bool) : Dev :=
  let out := 16 + d.get (R.RIDE_CFG_OUT p)
  let late := match d.ride p with
    | some x => ((d.edits p).filter (fun e => decide (x.tx.length ≤ e.1))).length
    | none => 0
  let d1 := (List.range late).foldl (fun (a : Dev) _ => a.rideLate p) d
  match d1.ride p with
  | none => d1
  | some x =>
    let d2 := (d1.withNet (fun n => { n with rides := n.rides.del p, edits := n.edits.del p })).rxCount p x.rx x.badAt.isSome |>.1
    let d3 := if x.len.isNone && d.get (R.RIDE_CFG_MODE p) == 1 then d2.inc (R.RIDE_NOLEN p) else d2
    let d4 := if x.len.any (fun l => l != x.rx.length) then d3.inc (R.RIDE_CNT_LEN_ERR p) else d3
    let d5 := if cut then d4.inc (R.PORT_CNT_TX_LINK_DROP out) else d4
    let d6 := if (x.txEr cut).isSome then d5.portCause p (R.PORT_EVT_LEN_ERR p) 8 else d5
    let bytes := x.sent (d.get (R.MAX_FRAME p))
    ((d6.inc (R.PORT_CNT_TX_FRAMES out)).set (R.PORT_CNT_TX_OCTETS out) (d6.get (R.PORT_CNT_TX_OCTETS out) + bytes.length)).emit
      (.ride out bytes (x.txEr cut))

/-- A frame in reception at port `p` gets BAD (R218, R177): its fragments as far as they came, and the frames whose cells still arrive; a ride
frame ends with TX_ER (R258). -/
def Dev.rxCut (d0 : Dev) (p : Nat) : Dev :=
  let d := (d0.rideFinish p true).fabSync
  let ids := ((d.fin p).cur.toList ++ (d.fin p).wait).flatMap (fun g => g.copies)
  let d1 := ids.foldl (fun (a : Dev) k => a.editCopy k (fun c => { c with bad := true })) d
  let d2 := if ids = [] then d1 else d1.portCause p (R.PORT_EVT_RX_ERR p) 1
  match Tab.find? d.net.assy p with
  | some a => (d2.withNet (fun x => { x with assy := x.assy.del p })).rxFrame p a.bytes true a
  | none => d2

/-- The link is lost, or taken down (R218): the frame in transmission stops, a frame in reception gets BAD; LPI ends with the link. -/
def Dev.linkDown (d : Dev) (p fail : Nat) : Dev :=
  let d1 := ((((d.rxCut p).set (R.PORT_STATUS_FAIL p) fail).set (R.PORT_STATUS_AN_DONE p) 0).set (R.PORT_STATUS_LPI_TX p) 0).set
    (R.PORT_STATUS_LPI_RX p) 0
  let d2 := match Tab.find? d1.fab.paused p with
    | some t => (d1.withFab (fun f => { f with paused := f.paused.del p })).takeCopy t.copy
    | none => d1
  ((d2.setLink p false).endTx p).verifyStart p

/-- Auto-negotiation fails (R217, R220): the link stays down. -/
def Dev.anFailed (d : Dev) (p : Nat) (half : Bool) : Dev :=
  let mode := d.portMode p
  if mode = 1 ∧ d.on (R.PORT_CTRL_EN p) then d.linkDown p 3
  else if mode = 6 ∧ d.on (R.PORT_CTRL_EN p) then d.linkDown p (if half then 4 else 3)
  else d

/-- The counters of port `p` and of its lane (R263, R268). -/
def Dev.portClrCnt (d : Dev) (p : Nat) : Dev :=
  let d1 := d.clear ((List.range 18).map (fun i => { R.PORT_CNT_RX_FRAMES p with addr := (R.PORT_CNT_RX_FRAMES p).addr + 4 * i }))
  if p < 16 then d1.clear ((List.range 14).map (fun i => { R.HN_CNT_TX_FRAMES p with addr := (R.HN_CNT_TX_FRAMES p).addr + 4 * i }))
  else d1

/-- AN_RESTART: auto-negotiation starts again where the mode has it (R263). -/
def Dev.anRestart (d : Dev) (p : Nat) : Dev :=
  let mode := d.portMode p
  if (mode = 1 ∨ mode = 6) ∧ d.on (R.PORT_CTRL_AN_EN p) ∧ d.on (R.PORT_CTRL_EN p) then d.linkDown p 0 else d

/-- EN of `PORT_CTRL[p]` written: 0 takes the link down. -/
def Dev.portEnable (d : Dev) (p : Nat) (on : Bool) : Dev :=
  let d1 := d.set (R.PORT_CTRL_EN p) (if on then 1 else 0)
  if on || !d.on (R.PORT_CTRL_EN p) then d1 else d1.linkDown p 0

/-! ### Cable test and MDIO (R221, R269) -/

/-- The result of a cable test written (R221). -/
def Dev.diagResult (d : Dev) (p aCode aDist bCode bDist : Nat) : Dev :=
  ((((((((d.set (R.DIAG_RESULT_A_CODE p) aCode).set (R.DIAG_RESULT_A_DIST p) aDist).set (R.DIAG_RESULT_B_CODE p) bCode).set
    (R.DIAG_RESULT_B_DIST p) bDist).set (R.DIAG_RESULT_VALID p) 1).set (R.DIAG_CTRL_BUSY p) 0).set (R.DIAG_CTRL_START p) 0).portCause
    p (R.PORT_EVT_DIAG_DONE p) 9)

/-- Whether a port has the cable test, and the ride registers (R221, R267). -/
def phyPort (p : Nat) : Bool := decide (16 ≤ p ∧ p < 24)

/-- START of a cable test (R221): with LINK 1 the codes are 5 at once, the distances are free values (log entry 12). -/
def Dev.diagStart (d : Dev) (p : Nat) : Dev :=
  if !phyPort p || d.on (R.DIAG_CTRL_BUSY p) then d
  else if d.linkUp p then
    let a := d.freeVal
    let b := a.2.freeVal
    b.2.diagResult p 5 a.1 5 b.1
  else ((d.set (R.DIAG_CTRL_START p) 1).set (R.DIAG_CTRL_BUSY p) 1).set (R.DIAG_RESULT_VALID p) 0

/-- A write of `DIAG_CTRL[p]`; the word is reserved on a port without the test (R267). -/
def Dev.diagWrite (d : Dev) (w : Writer) (p v : Nat) : Dev :=
  (if v.testBit 0 then d.diagStart p else d).rsvIf (v / 4 != 0 || (!phyPort p && v != 0)) w (0xD00D0 + p * 0x800)

/-- The cable test ends (R221): each pair's code and distance. -/
def Dev.diagDone (d : Dev) (p a b : Nat) : Dev :=
  if phyPort p && d.on (R.DIAG_CTRL_BUSY p) then d.diagResult p (a % 8) (a / 8) (b % 8) (b / 8) else d

/-- Whether OP is reserved for the clause (R269). -/
def mdioBad (c45 : Bool) (op : Nat) : Bool := !c45 && (op == 0 || op == 3)

/-- A write of `MDIO_CMD` (R269). -/
def Dev.mdioWrite (d : Dev) (w : Writer) (v : Nat) : Dev :=
  if v.testBit 31 && d.on R.MDIO_CMD_BUSY then d else
  let c45 := v.testBit 30
  let bad := mdioBad c45 (bits v 28 2)
  let d0 := if bad then d else d.set R.MDIO_CMD_OP (bits v 28 2)
  let d1 := (((d0.set R.MDIO_CMD_C45 (if c45 then 1 else 0)).set R.MDIO_CMD_PHYAD (bits v 23 5)).set R.MDIO_CMD_REG (bits v 18 5)).set
    R.MDIO_CMD_DATA (v % 2 ^ 16)
  let d2 := if v.testBit 31 && !mdioBad c45 (d1.get R.MDIO_CMD_OP) then
      ((d1.set R.MDIO_CMD_GO 1).set R.MDIO_CMD_BUSY 1).emit
        (.mdio c45 (d1.get R.MDIO_CMD_OP) (bits v 23 5) (bits v 18 5) (v % 2 ^ 16))
    else d1
  d2.rsvIf (bad || v.testBit 17) w 0xDF000

/-- The MDIO frame completes (R269). -/
def Dev.mdioDone (d : Dev) (data : Nat) : Dev :=
  if !d.on R.MDIO_CMD_BUSY then d else
  let d1 := (d.set R.MDIO_CMD_BUSY 0).set R.MDIO_CMD_GO 0
  let op := d.get R.MDIO_CMD_OP
  if op = 2 ∨ (d.on R.MDIO_CMD_C45 ∧ op = 3) then d1.set R.MDIO_CMD_DATA data else d1

end Sys2Proof.Machine
end

