-- ==== Sys2Proof/Machine/Engine.lean ====
section
/-! DEFINITION. The Trotter engines and teams (chapter 8): registers and flags, halt and restart, entry and fence, event lines, the
engine registers, the transmit and receive rings. The Bridle's core pair is core 48. -/

namespace Sys2Proof.Machine
open Sys2Proof

/-- The number of the Bridle's core pair among the cores. -/
def bridleCore : Nat := 48

/-! ### Registers (R418, R420) -/

/-- General register `r` of core `e`: a 40-bit pattern, 0 for g0. -/
def Dev.greg (d : Dev) (e r : Nat) : Nat := if r = 0 then 0 else (d.engine e).g.getD r 0 % 2 ^ 40

/-- The device with a general register written; a write to g0 is discarded. -/
def Dev.setGreg (d : Dev) (e r v : Nat) : Dev :=
  if r = 0 then d else d.setEngine e { d.engine e with g := (d.engine e).g.put r (v % 2 ^ 40) }

/-- The state of engine `e` (R382). -/
def Dev.engState (d : Dev) (e : Nat) : Nat := d.get (R.ENG_STATUS_STATE e)

/-- A cause of `ENG_STATUS` bit `b` raises EV0 + e (R412). -/
def Dev.engCause (d : Dev) (e : Nat) (f : Fld) (b : Nat) : Dev := d.cause f ((d.get (R.ENG_EVT_EN e)).testBit b) e

/-- Sticky OV and DZ of a core (R420). The Bridle has no `ENG_STATUS`. -/
def Dev.setOv (d : Dev) (e : Nat) : Dev := if e < 48 then d.engCause e (R.ENG_STATUS_OV e) 2 else d
/-- Sticky DZ. -/
def Dev.setDz (d : Dev) (e : Nat) : Dev := if e < 48 then d.engCause e (R.ENG_STATUS_DZ e) 3 else d

/-- The other engine of a lockstep pair (R402). -/
def Dev.partner (d : Dev) (e : Nat) : Option Nat :=
  if 48 ≤ e then none
  else if d.on ((if e % 4 < 2 then R.TEAM_CFG2_LS01 else R.TEAM_CFG2_LS23) (e / 4)) then some (if e % 2 = 0 then e + 1 else e - 1)
  else none

/-- Whether engine `e` follows a leader (R402). -/
def Dev.follower (d : Dev) (e : Nat) : Bool := e % 2 == 1 && (d.partner e).isSome

/-- The engine whose configuration engine `e` runs: a follower its leader's (R402). -/
def Dev.leader (d : Dev) (e : Nat) : Nat := if d.follower e then e - 1 else e

/-- The mode that engine `e` runs in (R381, R402). -/
def Dev.engMode (d : Dev) (e : Nat) : Nat := d.get (R.ENG_CFG_MODE (d.leader e))

/-! ### The program counter -/

/-- The address of the next instruction (R415). -/
def Dev.pc (d : Dev) (e : Nat) : Nat := d.get (R.ENG_PC e)

/-- The register that shows the next instruction; core 48 has its own place outside BAR0. -/
def Dev.setPc (d : Dev) (e v : Nat) : Dev := d.set (R.ENG_PC e) v

/-! ### Bridle faults (R417) -/

/-- A Bridle mismatch or fault: both cores halt, commands in progress are lost, the restart begins (R417, R558, R695). -/
def Dev.bridleFault (d : Dev) : Dev :=
  (({ d with bridle := { nextId := d.bridle.nextId }, hn := { d.hn with fwd := [] } }.set R.BRIDLE_STATUS_STATE 2).setEngine bridleCore {}).cause R.SYS_DIAG_BRIDLE_FAULT true 252

/-! ### Halt and restart (R404 to R408) -/

/-- One engine halts with a cause (R406, R407). -/
def Dev.haltOne (d : Dev) (e cause : Nat) : Dev :=
  ((((d.set (R.ENG_STATUS_STATE e) 6).set (R.ENG_STATUS_HALT_CAUSE e) cause).setEngine e
    { d.engine e with wait := none, haltReq := false, slot := none })).engCause e (R.ENG_STATUS_HALTED e) 0

/-- A mismatch of the pair of engine `e` at an instruction (R404): both engines halt with LOCKSTEP, the stores that are held are discarded, the
team's status records the pair. -/
def Dev.lsMismatch (d : Dev) (e pc : Nat) : Dev :=
  let l := e / 2 * 2
  let t := e / 4
  let d1 := ((d.inc (R.TEAM_LS_STATUS_COUNT t)).set (if e % 4 < 2 then R.TEAM_LS_STATUS_MIS01 t else R.TEAM_LS_STATUS_MIS23 t) 1).setEngine l
    { d.engine l with held := [] }
  (((d1.setPc l pc).haltOne l 6).setPc (l + 1) pc).haltOne (l + 1) 6

/-- A core halts on a fault (R404, R406, R417): the partner of an engine in lockstep halts with LOCKSTEP; `addr` is the
data or fetch address of an ACCESS or ECC fault. -/
def Dev.zhalt (d : Dev) (e cause : Nat) (addr : Option Nat) : Dev :=
  if 48 ≤ e then d.bridleFault
  else if cause = 6 then d.lsMismatch e (d.pc e) else
  let d1 := match addr with | some a => d.set (R.ENG_FAULT_ADDR e) a | none => d
  let d2 := d1.haltOne e cause
  match d.partner e with
  | some p => (d2.setPc p (d.pc e)).haltOne p 6
  | none => d2

/-- A HOST halt takes effect on an engine and its partner. -/
def Dev.hostHaltNow (d : Dev) (e : Nat) : Dev :=
  let d1 := d.haltOne e 1
  match d.partner e with
  | some p => d1.haltOne p 1
  | none => d1

/-- `ENG_CTRL.HALT` (R406): at once, or after the delay slot of a branch in flight, when the pair's leader has it. An engine that is off,
without configuration, dozing or halted is not halted. -/
def Dev.hostHalt (d : Dev) (e : Nat) : Dev :=
  let st := d.engState e
  if st = 0 ∨ st = 1 ∨ st = 6 ∨ st = 7 then d
  else if (d.engine e).slot.isSome && st != 4 then d.setEngine (d.leader e) { d.engine (d.leader e) with haltReq := true }
  else d.hostHaltNow e

/-- An engine starts at its entry (R383): `edge` is ENG_EDGE. A HOST halt that still waits takes effect instead (R406). -/
def Dev.enterEngine (d : Dev) (e edge : Nat) : Dev :=
  let x := d.engine e
  if x.haltReq then d.hostHaltNow e else
  ((d.set (R.ENG_STATUS_STATE e) 2).setPc e (d.get (R.ENG_ENTRY (d.leader e)))).setEngine e
    { x with slot := none, wait := none, entryAt := d.now, edge := edge + (if x.first then 512 else 0), first := false }

/-- RESTART of one engine (R408, R454). -/
def Dev.restartOne (d : Dev) (e : Nat) : Dev :=
  if d.engState e ≠ 6 then d else
  let d1 := (d.set (R.ENG_STATUS_HALT_CAUSE e) 0).setEngine e
    { d.engine e with g := [], slot := none, wait := none, haltReq := false, first := true, stream := {} }
  match d.engMode e with
  | 1 => d1.set (R.ENG_STATUS_STATE e) 4
  | 2 => d1.enterEngine e 0
  | _ => d1.set (R.ENG_STATUS_STATE e) 1

/-- `ENG_CTRL.RESTART` (R408): both engines of a pair. -/
def Dev.engRestart (d : Dev) (e : Nat) : Dev :=
  if d.engState e ≠ 6 then d else
  match d.partner e with
  | some p => (d.restartOne e).restartOne p
  | none => d.restartOne e

/-- CLR_STATS of `ENG_CTRL[e]` (R413). -/
def Dev.engClrStats (d : Dev) (e : Nat) : Dev := d.clear [R.ENG_CYC_MAX e, R.ENG_RXR_DROP e]

/-! ### The engine in the stride (R383 to R385) -/

/-- Cycles since entry (R393): CLK_ENG runs at 1 GHz. -/
def Dev.engCycles (d : Dev) (e : Nat) : Nat := (d.now - (d.engine e).entryAt) % 2 ^ 24

/-- A store to ENG_DONE (R384, R386): no effect in a FREE engine, nor in the delay slot of an engine that is FENCED. -/
def Dev.engDone (d : Dev) (e : Nat) : Dev :=
  if d.get (R.ENG_CFG_MODE e) ≠ 1 ∨ d.engState e = 5 then d else
  let c := min (d.engCycles e) 0xFFFFFE
  (((d.set (R.ENG_STATUS_STATE e) 4).set (R.ENG_CYC_LAST e) c).set (R.ENG_CYC_MAX e) (max c (d.get (R.ENG_CYC_MAX e)))).workDone

/-- The engines of a personality instance. -/
def instEngines (x : Inst) : List Nat := ((List.range 4).filter (fun i => x.engines.testBit i)).map (fun i => x.team * 4 + i)

/-- The engines of the instance that produces region `r` (R135). -/
def Dev.regionEngines (d : Dev) (r : Nat) : List Nat :=
  match (d.region r).inst with
  | some i => (match d.upd.insts[i]? with | some x => instEngines x | none => [])
  | none => []

/-- The regions whose producer is halted (R134, R135). -/
def Dev.haltedRegions (d : Dev) : List Nat := d.regionList.filter (fun r => (d.regionEngines r).any (fun e => d.engState e == 6))

/-- Engine `e` is late for gait `g` at its fence of base index `n` (R385): an overrun, and the regions of that gait that it produces are late. -/
def Dev.engineLate (d : Dev) (e g n : Nat) : Dev :=
  ((d.regionsOf g).filter (fun r => (d.regionEngines r).contains e)).foldl
    (fun (a : Dev) r => a.setRegion r { a.region r with late := true }) (d.overrun g n 1 e)

/-- The fence of base index `n` acts on STRIDE engine `e` (R385). One that has a delay slot before it still takes that instruction
(`Dev.zReady`). -/
def Dev.fenceEngine (d : Dev) (e n : Nat) : Dev :=
  let st := d.engState e
  let d1 := if d.engMode e = 1 ∧ (st = 2 ∨ st = 3) then
      let gs := (List.range 4).filter (fun g => (d.get (R.ENG_CFG_GAITS (d.leader e))).testBit g)
      (((d.set (R.ENG_STATUS_STATE e) 5).set (R.ENG_CYC_LAST e) 0xFFFFFF).setEngine e
        { d.engine e with wait := none, slot := if (d.engine e).wait = none then (d.engine e).slot else none, lateFor := gs ++ (d.engine e).lateFor }).engCause e (R.ENG_STATUS_LATE e) 1
    else d
  let due := (d1.engine e).lateFor.filter (fun g => d1.gaitEdge g n)
  let d2 := due.foldl (fun (a : Dev) g => a.engineLate e g n) d1
  d2.setEngine e { d2.engine e with lateFor := (d2.engine e).lateFor.filter (fun g => !due.contains g) }

/-- Edge lines and entry at +16 ns of the edge of base index `n` (R383, R394): `skip` is ENG_EDGE.SKIP. -/
def Dev.entryEngine (d : Dev) (e n : Nat) (skip : Bool) : Dev :=
  let gs := (d.gaitsAt n).foldl (fun a g => a + 2 ^ g) 0
  let x := d.engine e
  let d1 := d.setEngine e { x with evPend := x.evPend ||| BitVec.ofNat 32 gs }
  let st := d.engState e
  if d.engMode e = 1 ∧ (st = 4 ∨ st = 5) then d1.enterEngine e (gs + (if skip then 256 else 0)) else d1

/-! ### Event lines (R394, R395) -/

/-- Line `l` of engine `e` latched, for each engine of team `t`. -/
def Dev.teamLine (d : Dev) (t l : Nat) : Dev := (List.range 4).foldl (fun (a : Dev) i => a.latchLine (t * 4 + i) l) d

/-- The enabled latched lines (R395). -/
def Dev.enabledLines (d : Dev) (e : Nat) : Nat := ((d.engine e).evPend &&& BitVec.ofNat 32 (d.engine e).evMask).toNat

/-- The lines of a mask cleared. -/
def Dev.clearLines (d : Dev) (e m : Nat) : Dev :=
  d.setEngine e { d.engine e with evPend := (d.engine e).evPend &&& ~~~ (BitVec.ofNat 32 m) }

/-! ### Commits and transmit tail (R131, R393, R396, R397) -/

/-- A store to ENG_COMMIT (R131, R393). -/
def Dev.engCommitStore (d : Dev) (e v : Nat) : Dev :=
  d.engCommit e (bits v 20 8) (if v.testBit 31 then none else some (bits v 0 12)) (bits v 12 8)

/-- The gaits whose fence engine `e`'s launch descriptors are judged by (R33, R387). -/
def Dev.launchGaits (d : Dev) (e : Nat) : List Nat :=
  let gs := d.get (R.ENG_CFG_GAITS (d.leader e))
  (List.range 4).filter (fun g => d.gaitClosed g && (gs == 0 || gs.testBit g))

/-- A store to ENG_TX_TAIL (R396, R397): posts the entries up to `v`; dropped when it would pass the head. -/
def Dev.engTxTail (d : Dev) (e v : Nat) : Dev :=
  let n := d.get (R.ENG_TXR_CFG_COUNT e)
  let tail := d.get (R.ENG_TX_IDX_TAIL e)
  let used := (tail + n - d.get (R.ENG_TX_IDX_HEAD e)) % n
  let more := (v + n - tail) % n
  if n ≤ v ∨ n ≤ used + more then d.engCause e (R.ENG_STATUS_TX_OVF e) 8
  else
    let gs := d.launchGaits e
    let late := if gs = [] then [] else (List.range more).map (fun i => ((tail + i) % n, d.stride.next, gs))
    (d.set (R.ENG_TX_IDX_TAIL e) v).setEngine e { d.engine e with txLate := late.foldl (fun y x => y.put x.1 x.2) (d.engine e).txLate }

/-! ### The transmit rings (R172, R397) -/

/-- The Orchard offset of entry `i` of engine `e`'s transmit ring. -/
def Dev.txEntryAddr (d : Dev) (e i : Nat) : Nat := d.get (R.ENG_TXR_BASE e) * 64 + 32 * i

/-- Whether an Orchard range lies in a bank that the team owns and that is ON. -/
def Dev.teamOwns (d : Dev) (t addr len : Nat) : Bool :=
  decide (addr + len ≤ 0x2000000) && d.bankRefuses (addr / 0x80000) (Req.sys t) == 0 &&
  d.bankRefuses ((addr + len - 1) / 0x80000) (Req.sys t) == 0

/-- The class and the length of the head entry of engine `e`'s ring, when one is posted. -/
def txHead (m : List Host.Cell) (d : Dev) (e : Nat) : Option (Nat × Nat) :=
  if d.get (R.ENG_TX_IDX_HEAD e) = d.get (R.ENG_TX_IDX_TAIL e) then none
  else
    let a := d.txEntryAddr e (d.get (R.ENG_TX_IDX_HEAD e))
    some ((Mem.byte m (a + 6)).toNat % 8, leNat (Mem.bytes m (a + 4) 2) + 4)

/-- The ring of team `t` whose head of class `c` is next in the round robin from `turn` (R397), with that entry's length. -/
def ringOfClass (heads : List (Option (Nat × Nat))) (turn c : Nat) : Option (Nat × Nat) :=
  ([0, 1, 2, 3].map (fun i => (turn + i) % 4)).findSome? (fun i =>
    ((heads.getD i none).filter (fun x => x.1 == c)).map (fun x => (i, x.2)))

/-- The ring of team `t` that the team port takes an entry from (R172, R397): the class first, charged the length of the frame that is taken, then
round robin among the rings of that class; with the credits and the place of the next turn. -/
def pickRing (m : List Host.Cell) (d : Dev) (t : Nat) : Option (Nat × Tab Nat) :=
  let heads := (List.range 4).map (fun i => txHead m d (t * 4 + i))
  let turn := d.fab.deficit.getD (400 + t) 0
  match d.chooseClass (26 + t) (fun c => (ringOfClass heads turn c).map (fun x => x.2)) with
  | none => none
  | some (c, credits) => (ringOfClass heads turn c).map (fun x => (t * 4 + x.1, credits.put (400 + t) ((x.1 + 1) % 4)))

/-- The head of engine `e`'s ring moves on; line 5 (R397). -/
def Dev.txAdvance (d : Dev) (e : Nat) : Dev :=
  let h := d.get (R.ENG_TX_IDX_HEAD e)
  ((d.set (R.ENG_TX_IDX_HEAD e) ((h + 1) % max 1 (d.get (R.ENG_TXR_CFG_COUNT e)))).setEngine e
    { d.engine e with txLate := (d.engine e).txLate.del h }).latchLine e 5

/-- A launch descriptor that was posted after the fence of base index `n` of the gaits `gs` (R33): LAUNCH_MISS and an overrun item of each; the
index is the network port, and DEST as it stands where that is a multicast group or no network port (DESIGN CHOICE, log entry 180). -/
def Dev.launchMiss (d : Dev) (n : Nat) (gs : List Nat) (port : Nat) : Dev :=
  gs.foldl (fun (a : Dev) g => (a.gaitCause g (R.GAIT_STATUS_LAUNCH_MISS g) 1).overrun g n 3 port) d

/-- STATUS of an entry written. -/
def State.txStatus (s : State) (q : Req) (a v : Nat) : State := s.orchWrite q (a + 31) [BitVec.ofNat 8 v]

/-- The team port finishes the next posted entry (R397). -/
def State.txFinish (s : State) (t : Nat) : State :=
  match pickRing s.mem s.dev t with
  | none => s
  | some (e, credits) =>
    let s0 := s.on (fun d => d.withFab (fun f => { f with deficit := credits }))
    let h := s.dev.get (R.ENG_TX_IDX_HEAD e)
    let a := s.dev.txEntryAddr e h
    let q := Req.sys t
    if !s.dev.teamOwns t a 32 then s0.on (fun d => (d.bankFault (a / 0x80000) (max 1 (d.bankRefuses (a / 0x80000) q)) q false (a % 0x80000)).txAdvance e)
    else
      let x := txEntry (Mem.bytes s.mem a 32) (26 + t) false
      if x.bad then (s0.txStatus q a 2).on (fun d => d.txAdvance e)
      else if let (true, some (n, gs)) := (x.stride, Tab.find? (s.dev.engine e).txLate h) then
        (s0.txStatus q a 3).on (fun d => (d.launchMiss n gs x.dest).txAdvance e)
      else if !s.dev.teamOwns t x.addr x.len then
        (s0.on (fun d => d.bankFault (x.addr / 0x80000 % 64) (max 1 (d.bankRefuses (x.addr / 0x80000 % 64) q)) q false (x.addr % 0x80000))
          |>.txStatus q a 4).on (fun d => d.txAdvance e)
      else
        let rd := orchRead s0.mem s0.dev q x.addr x.len
        (({ s0 with dev := (rd.2.sendEntry x rd.1).sentWait (26 + t) rd.2.fab.nextId }).txStatus q a 1).on (fun d =>
          (if x.stride then d.workDone else d).txAdvance e)

/-! ### The receive rings (R398, R399) -/

/-- A frame, or a RIDE entry, put into the receive ring of engine `e` (R398, R399). -/
def State.ringStore (s : State) (e : Nat) (c : Copy) (ride : Bool) : State :=
  let d := s.dev
  let n := d.get (R.ENG_RXR_CFG_COUNT e)
  let base := d.get (R.ENG_RXR_BASE e) * 64
  let i := (d.engine e).rxNext
  let q := Req.sys (e / 4)
  let drop := fun (d : Dev) => (d.inc (R.ENG_RXR_DROP e)).engCause e (R.ENG_STATUS_RX_DROP e) 4
  if n = 0 then s.on drop
  else
    let own := orchRead s.mem d q (base + 32 * i + 31) 1
    if own.1 = [1] then { s with dev := drop own.2 }
    else
      (({ s with dev := own.2 }).storeRx q base n (64 * d.get (R.ENG_RXR_CFG_BUF_UNITS e)) i c ride).on (fun d =>
        (d.setEngine e { d.engine e with rxNext := (i + 1) % n }).latchLine e 4)

/-- A frame that reaches the port of team `t` (R398, R399). -/
def State.rxEntryWrite (s : State) (t : Nat) : State :=
  match s.dev.takeFrame (26 + t) with
  | (none, d) => { s with dev := d }
  | (some c, d) => ({ s with dev := d } : State).ringStore (t * 4 + bits (d.get (R.TEAM_CFG_RX_MAP t)) (2 * c.cls) 2) c false

/-! ### The host transmit ring (R188) -/

/-- The mover finishes the next posted entry of the HOST transmit ring (R188, R397). -/
def State.hostTxDone (s : State) : State :=
  let d := s.dev
  let n := d.get R.SWM_HTXR_CFG_COUNT
  let h := d.get R.SWM_HTX_HEAD
  if n = 0 ∨ h = d.get R.SWM_HTX_TAIL then s else
  let a := d.get R.SWM_HTXR_BASE * 64 + 32 * h
  let q := Req.sys 12
  let fin := fun (s : State) (v : Nat) =>
    (s.txStatus q a v).on (fun d => (d.set R.SWM_HTX_HEAD ((h + 1) % n)).swCause R.SW_EVT_HOST_TX 11)
  if !d.teamOwns 12 a 32 then
    s.on (fun d => ((d.bankFault (a / 0x80000) (max 1 (d.bankRefuses (a / 0x80000) q)) q false (a % 0x80000)).set R.SWM_HTX_HEAD ((h + 1) % n)).swCause
      R.SW_EVT_HOST_TX 11)
  else
    let x := txEntry (Mem.bytes s.mem a 32) 38 true
    if x.bad then fin s 2
    else if !d.teamOwns 12 x.addr x.len then
      fin (s.on (fun d => d.bankFault (x.addr / 0x80000 % 64) (max 1 (d.bankRefuses (x.addr / 0x80000 % 64) q)) q false (x.addr % 0x80000))) 4
    else
      let rd := orchRead s.mem d q x.addr x.len
      fin { s with dev := (rd.2.sendEntry x rd.1).sentWait 38 rd.2.fab.nextId } 1

/-! ### Engine registers (R393) -/

/-- A 32-bit read of an engine register (R393), other than ENG_WAIT; `none` for a reserved offset. -/
def Dev.engRegRead (d : Dev) (e off : Nat) : Option Nat :=
  let x := d.engine e
  match off with
  | 0x00 => some (e / 4 * 4096 + e % 4 * 256 + e)
  | 0x04 => some x.edge
  | 0x08 => some 0
  | 0x10 => some (x.evMask % 2 ^ 32)
  | 0x14 => some x.evPend.toNat
  | 0x18 => some x.limit
  | 0x1C => some (d.get (R.ENG_STATUS_OV e) + 2 * d.get (R.ENG_STATUS_DZ e))
  | 0x20 => some 0
  | 0x24 => some (d.engCycles e)
  | 0x28 => some (d.get (R.ENG_TX_IDX_TAIL e))
  | 0x2C => some (d.get (R.ENG_TX_IDX_HEAD e))
  | 0x30 => some x.rxNext
  | _ => if off % 4 = 0 ∧ off < 0x40 then some 0 else none

/-- A 32-bit store to an engine register (R393, R444). -/
def Dev.engRegWrite (d : Dev) (e off v : Nat) : Dev :=
  match off with
  | 0x08 => d.engDone e
  | 0x10 => d.setEngine e { d.engine e with evMask := v }
  | 0x18 => d.setEngine e { d.engine e with limit := v % 2 ^ 24 }
  | 0x1C =>
    let d1 := if v.testBit 0 then d.set (R.ENG_STATUS_OV e) 0 else d
    if v.testBit 1 then d1.set (R.ENG_STATUS_DZ e) 0 else d1
  | 0x20 => d.engCommitStore e v
  | 0x28 => d.engTxTail e v
  | _ => d

end Sys2Proof.Machine
end

