-- ==== Sys2Proof/Machine/Sha.lean ====
section
/-! DEFINITION. SHA-256 (FIPS 180-4), for the SHA-256 unit (R461), the slot-table hash (R280) and image checks (chapter 16). -/

namespace Sys2Proof.Machine
open Sys2Proof

/-- The greatest number from `x` on, less than `x + 2 ^ k`, whose `e`-th power is at most `n`. -/
def rootFrom (e n : Nat) : Nat → Nat → Nat
  | 0, x => x
  | k + 1, x => rootFrom e n k (if (x + 2 ^ k) ^ e ≤ n then x + 2 ^ k else x)

/-- The first 32 bits of the fraction of the `e`-th root of `p`: FIPS 180-4 takes its constants from roots of the first primes. -/
def rootFraction (e p : Nat) : W32 := BitVec.ofNat 32 (rootFrom e (p * 2 ^ (32 * e)) 36 0)

/-- The first 64 primes. -/
def shaPrimes : List Nat :=
  [2, 3, 5, 7, 11, 13, 17, 19, 23, 29, 31, 37, 41, 43, 47, 53, 59, 61, 67, 71, 73, 79] ++
  [83, 89, 97, 101, 103, 107, 109, 113, 127, 131, 137, 139, 149, 151, 157, 163, 167, 173, 179, 181, 191, 193] ++
  [197, 199, 211, 223, 227, 229, 233, 239, 241, 251, 257, 263, 269, 271, 277, 281, 283, 293, 307, 311]

/-- The round constants: cube roots. -/
def shaK : List W32 := shaPrimes.map (rootFraction 3)

/-- The initial hash value: square roots of the first eight primes. -/
def shaInit : List W32 := (shaPrimes.take 8).map (rootFraction 2)

/-- Rotation right of a word. -/
def rotr32 (x : W32) (n : Nat) : W32 := (x >>> n) ||| (x <<< (32 - n))

/-- The message schedule, newest word first: `n` words more. -/
def shaSchedule : Nat → List W32 → List W32
  | 0, w => w
  | n + 1, w =>
    let a := w.getD 14 0
    let b := w.getD 1 0
    let s0 := rotr32 a 7 ^^^ rotr32 a 18 ^^^ (a >>> 3)
    let s1 := rotr32 b 17 ^^^ rotr32 b 19 ^^^ (b >>> 10)
    shaSchedule n ((w.getD 15 0 + s0 + w.getD 6 0 + s1) :: w)

/-- One round on the state a to h with a constant and a schedule word. -/
def shaRound (s : List W32) (kw : W32) : List W32 :=
  match s with
  | [a, b, c, d, e, f, g, h] =>
    let t1 := h + (rotr32 e 6 ^^^ rotr32 e 11 ^^^ rotr32 e 25) + ((e &&& f) ^^^ (~~~ e &&& g)) + kw
    let t2 := (rotr32 a 2 ^^^ rotr32 a 13 ^^^ rotr32 a 22) + ((a &&& b) ^^^ (a &&& c) ^^^ (b &&& c))
    [t1 + t2, a, b, c, d + t1, e, f, g]
  | l => l

/-- A block of 16 big-endian words compressed into a state. -/
def shaCompress (s block : List W32) : List W32 :=
  let w := (shaSchedule 48 block.reverse).reverse
  let r := (shaK.zip w).foldl (fun a kw => shaRound a (kw.1 + kw.2)) s
  (s.zip r).map (fun x => x.1 + x.2)

/-- Bytes as big-endian words. -/
def beWords : List Byte → List W32
  | a :: b :: c :: d :: r => (a ++ b ++ c ++ d) :: beWords r
  | _ => []

/-- Whole blocks of a word list compressed; `fuel` bounds their number. -/
def shaBlocks : Nat → List W32 → List W32 → List W32
  | 0, s, _ => s
  | n + 1, s, l => if l = [] then s else shaBlocks n (shaCompress s (l.take 16)) (l.drop 16)

/-- Big-endian bytes of a 64-bit number. -/
def be64 (n : Nat) : List Byte := [7, 6, 5, 4, 3, 2, 1, 0].map (fun i => BitVec.ofNat 8 (n / 256 ^ i))

/-- The padded message. -/
def shaPad (m : List Byte) : List Byte :=
  m ++ [0x80] ++ List.replicate ((119 - m.length % 64) % 64) 0 ++ be64 (8 * m.length)

/-- SHA-256 of a message, as 8 words. -/
def sha256 (m : List Byte) : List W32 := shaBlocks (m.length / 64 + 2) shaInit (beWords (shaPad m))

/-- The 32 bytes of a hash. -/
def hashBytes (h : List W32) : List Byte := h.flatMap (fun w => [24, 16, 8, 0].map (fun i => (w >>> i).setWidth 8))

end Sys2Proof.Machine
end

