-- ==== Sys2Proof/Machine/Harness.lean ====
section
/-! DEFINITION. Harness links (chapter 6): the delay exchange, slots, the star's relay with its windows, drift and isolation, cold
start and integration, the hot standby, and the command sections. -/

namespace Sys2Proof.Machine
open Sys2Proof

/-- The Harness part of the state changed. -/
def Dev.withHn (d : Dev) (f : HnSt → HnSt) : Dev := { d with hn := f d.hn }
/-- Lane `p`. -/
def Dev.hlane (d : Dev) (p : Nat) : HnLane := d.hn.lanes.getD p {}
/-- The device with lane `p` changed. -/
def Dev.setLane (d : Dev) (p : Nat) (x : HnLane) : Dev := d.withHn (fun h => { h with lanes := h.lanes.put p x })
/-- The role of lane `p` (R274): a lane whose port is in another mode carries no Harness (R272). -/
def Dev.role (d : Dev) (p : Nat) : Nat := if d.portMode p = 5 then d.get (R.HN_LANE_CFG_ROLE p) else 0
/-- A cause of `HN_LANE_EVT[p]` bit `b` raises EV200 + p (R321, R328). -/
def Dev.hnCause (d : Dev) (p : Nat) (f : Fld) (b : Nat) : Dev :=
  d.cause f ((d.get (R.HN_LANE_EVT_EN p)).testBit b) (200 + p)
/-- The lanes of some roles, of those that are in lock (R273; DEDUCED: a lane is in SYNC while its LINK is 1, log entry 14). -/
def Dev.lanesOf (d : Dev) (roles : List Nat) : List Nat :=
  (List.range 16).filter (fun p => roles.contains (d.role p) && d.linkUp p)
/-- The lanes that the configuration gives some roles, whatever their link (R274). -/
def Dev.lanesSet (d : Dev) (roles : List Nat) : List Nat := (List.range 16).filter (fun p => roles.contains (d.role p))
/-- The first lane with a role, whatever its link. -/
def Dev.laneOf (d : Dev) (role : Nat) : Option Nat := (List.range 16).find? (fun p => d.role p == role)
/-- The device is a star: it has a DOWNSTREAM lane (R276). -/
def Dev.isStar (d : Dev) : Bool := (d.laneOf 3).isSome
/-- The lane whose time and data the device takes (R309, R310): none at the root star. -/
def Dev.followed (d : Dev) : Option Nat :=
  if d.on R.HN_STATUS_ON_STANDBY then some (d.get R.HN_CTRL_STBY_LANE)
  else if d.on R.HN_CTRL_UP_EN then some (d.get R.HN_CTRL_UP_LANE)
  else if d.on R.HN_CTRL_STBY_EN then some (d.get R.HN_CTRL_STBY_LANE)
  else none
/-- FOLLOWED of every lane shows the followed lane. -/
def Dev.showFollowed (d : Dev) : Dev :=
  (List.range 16).foldl (fun (a : Dev) p => a.set (R.HN_LANE_STATUS_FOLLOWED p) (if d.followed == some p then 1 else 0)) d
/-- STATE_CHG on the followed lane (R321, R328). -/
def Dev.stateChg (d : Dev) : Dev :=
  match d.followed with
  | some p => d.hnCause p (R.HN_LANE_EVT_STATE_CHG p) 0
  | none => d
/-- The listen time of this node in ns (R302): 8 base strides and NODE_ID minimum slots of 25 blocks of the followed lane's rate, at the root star
of its first DOWNSTREAM lane's (DEDUCED, log entry 188). -/
def Dev.listenNs (d : Dev) : Nat :=
  let p := (d.followed.orElse (fun _ => d.laneOf 3)).getD 0
  8 * d.strideT + d.get R.HN_CTRL_NODE_ID * (if d.on (R.HN_LANE_CFG_RATE p) then 160 else 640)
/-- `UP_STATE` takes a value (R300); LISTEN begins a new listen time, and HOLDOVER ends with SYNC (R308). -/
def Dev.setUp (d : Dev) (st : Nat) : Dev :=
  let d1 := if st = 1 then (d.withHn (fun h => { h with heard := false, okStrides := 0, listenAt := d.now })).set R.HN_STATUS_TIME_SRC 0 else d
  let d2 := if st = 4 then d1.set R.HN_STATUS_HOLDOVER 0 else d1
  if d.get R.HN_STATUS_UP_STATE = st then d2 else (d2.set R.HN_STATUS_UP_STATE st).stateChg
/-- `STAR_STATE` takes a value (R301). -/
def Dev.setStar (d : Dev) (st : Nat) : Dev :=
  if d.get R.HN_STATUS_STAR_STATE = st then d else (d.set R.HN_STATUS_STAR_STATE st).stateChg
/-- SYNC entered: the member sends from the next stride (R307). A standby that has the right TABLE_HASH enters HOT_STANDBY (R311). -/
def Dev.enterSync (d : Dev) : Dev :=
  let d1 := (d.setUp 4).withHn (fun h => { h with fresh := true })
  if d1.hn.hashOk && d1.get R.HN_STATUS_STAR_STATE == 1 then d1.setStar 4 else d1

/-- The states before the device takes part: LISTEN or NONE, and the star's first state (R300, R301, R322). -/
def Dev.hnStates (d : Dev) : Dev :=
  let d1 := (d.setUp (if d.followed.isSome then 1 else 0)).setStar (if !d.isStar then 0 else if d.followed.isSome then 1 else 2)
  ((d1.set R.HN_STATUS_HOLDOVER 0).set R.HN_STATUS_TIME_SRC 0).withHn (fun h =>
    { h with listenOver := false, listenAt := d.now, awaitStep := false, runIn := 0, claims := [], passing := none, arrivals := [], fresh := false,
             hashOk := false })

/-- A write of `HN_CTRL` (R322): 1 takes part from LISTEN; 0 stops at the next base edge. -/
def Dev.hnEnable (d : Dev) (w : Writer) (v : Nat) : Dev :=
  let d1 := if v.testBit 0 then
      (let d1 := (d.set R.HN_CTRL_EN 1).withHn (fun h => { h with stopPend := false, active := true })
       if d.hn.active then d1 else d1.hnStates.showFollowed)
    else if d.on R.HN_CTRL_EN then (d.set R.HN_CTRL_EN 0).withHn (fun h => { h with stopPend := true })
    else d
  d1.rsvIf (v.testBit 1) w 0xDE800

/-! ### The delay exchange (R280 to R285) -/

/-- The Harness time base, in units of 2^-16 ns modulo 2^32 ns, in phase `k` of a tick (R78, R282). -/
def Dev.hnTime (d : Dev) (k : Nat) : Nat := d.stampAt (d.get R.HN_CTRL_TB) k / 2 ^ 16 % 2 ^ 48

/-- A lane on which the device measures: UPSTREAM, STANDBY_UP, or the followed MONITOR lane of a root standby (R282, R309). -/
def Dev.measures (d : Dev) (p : Nat) : Bool :=
  d.hn.active && d.linkUp p && (d.role p == 1 || d.role p == 2 || (d.role p == 4 && d.followed == some p))

/-- The worker sends DLY_REQ (R282). -/
def Dev.dlyReqSend (d : Dev) (p k : Nat) : Dev :=
  if !d.measures p then d else
  let x := d.hlane p
  (d.setLane p { x with seq := (x.seq + 1) % 65536, t1 := some (d.hnTime k), t2 := none }).emit
    (.hnCtl p 1 (d.get R.HN_CTRL_NODE_ID * 2 ^ 32 + x.seq))

/-- Whether a member ID on lane `p` is a duplicate (R279). -/
def Dev.isDup (d : Dev) (p : Nat) : Bool :=
  let id := d.get (R.HN_LANE_STATUS_MEMBER_ID p)
  (d.hlane p).known && (id == d.get R.HN_CTRL_NODE_ID ||
    (List.range p).any (fun q => d.role q == 3 && (d.hlane q).known && d.get (R.HN_LANE_STATUS_MEMBER_ID q) == id))

/-- DUP_ID of every DOWNSTREAM lane follows the member IDs (R279). -/
def Dev.showDups (d : Dev) : Dev :=
  (List.range 16).foldl (fun (a : Dev) p =>
    if a.role p != 3 then a
    else if a.isDup p == a.on (R.HN_LANE_STATUS_DUP_ID p) then a
    else if a.isDup p then (a.set (R.HN_LANE_STATUS_DUP_ID p) 1).hnCause p (R.HN_LANE_EVT_DUP_ID p) 8
    else a.set (R.HN_LANE_STATUS_DUP_ID p) 0) d

/-- A star receives DLY_REQ and answers with DLY_T2 and, `gap` ticks later, DLY_T3 (R279, R282). -/
def Dev.dlyReq (d : Dev) (p node k gap k3 : Nat) : Dev :=
  if !d.hn.active || !d.linkUp p || d.role p != 3 then d else
  let t2 := d.hnTime k
  let d1 := ((d.set (R.HN_LANE_STATUS_MEMBER_ID p) node).setLane p { d.hlane p with known := true }).showDups
  let d2 := (d1.emit (.hnCtl p 2 t2)).ticks gap
  d2.emit (.hnCtl p 3 (d2.hnTime k3))

/-- A worker receives t2 (R282). -/
def Dev.dlyT2 (d : Dev) (p v : Nat) : Dev :=
  if !d.measures p then d else d.setLane p { d.hlane p with t2 := some v }

/-- The mean of a list, towards the lower number. -/
def meanInt (l : List Int) : Int := if l = [] then 0 else l.foldl (fun a b => a + b) 0 / (l.length : Int)

/-- |`HN_OFFSET`| is at most g / 2 (R307); units of 1/256 ns. -/
def Dev.offsetOk (d : Dev) (p : Nat) : Bool :=
  decide ((toSigned 32 (d.get (R.HN_OFFSET p))).natAbs * 2 ≤ d.get R.HN_CLUSTER_GUARD * 256)

/-- A measurement of the followed lane counts towards integration (R307). -/
def Dev.integrate (d : Dev) (p : Nat) : Dev :=
  if d.followed ≠ some p then d else
  let n := if d.offsetOk p then d.hn.okStrides + 1 else 0
  let d1 := d.withHn (fun h => { h with okStrides := n })
  if d.get R.HN_STATUS_UP_STATE = 3 ∧ 2 ≤ n ∧ d.hn.deep = false then d1.enterSync else d1

/-- DLY_T3 arrives (R282, R283): delay and offset, their means, and integration. -/
def Dev.dlyT3 (d : Dev) (p t3 k : Nat) : Dev :=
  if !d.measures p then d else
  let x := d.hlane p
  match x.t1, x.t2 with
  | some t1, some t2 =>
    let t4 := d.hnTime k
    let asym := toSigned 16 (d.get (R.HN_LANE_CFG_ASYM p))
    let rtt := (((t4 : Int) - t1) - ((t3 : Int) - t2)) % (2 ^ 48 : Nat)
    let diff := toSigned 48 (ofSigned 48 (((t4 : Int) - t3) - ((t2 : Int) - t1)))
    let delay := (rtt / 512 % (2 ^ 32 : Nat)).toNat
    let off := (diff - asym * 256) / 512
    let delays := ((delay :: x.delays).take 16)
    let offsets := ((off :: x.offsets).take 16)
    let d1 := (((((d.set (R.HN_DELAY p) delay).set (R.HN_OFFSET p) (ofSigned 32 off)).set (R.HN_DELAY_AVG p)
      (delays.foldl (fun a b => a + b) 0 / max 1 delays.length)).set (R.HN_OFFSET_AVG p) (ofSigned 32 (meanInt offsets))).set
      (R.HN_LANE_STATUS_DLY_VALID p) 1).setLane p { x with t1 := none, t2 := none, gotT3 := true, delays := delays, offsets := offsets }
    d1.integrate p
  | _, _ => d

/-- The fence: an exchange whose DLY_T3 has not arrived gives no measurement (R283). -/
def Dev.hnFence (d : Dev) : Dev :=
  (List.range 16).foldl (fun (a : Dev) p =>
    if a.measures p && (a.hlane p).t1.isSome then
      let a1 := ((a.setLane p { a.hlane p with t1 := none, t2 := none }).inc (R.HN_CNT_DLY_MISS p)).hnCause p (R.HN_LANE_EVT_DLY_MISS p) 5
      if a.followed = some p then a1.withHn (fun h => { h with okStrides := 0 }) else a1
    else a) d

/-! ### The slot table (R290) -/

/-- The 16 bytes of a slot table entry (R290). -/
def HnSlot_bytes (x : HnSlot) : List Byte :=
  leBytes 4 (x.start % 2 ^ 23) ++ leBytes 2 x.len ++ leBytes 2 x.owner ++
  [BitVec.ofNat 8 (x.gait % 4 + (if x.cmd then 4 else 0) + (if x.sleep then 8 else 0)), 0] ++ leBytes 2 x.phase ++ [0, 0, 0, 0]

/-- The low 48 bits of the SHA-256 of a slot table (R280). -/
def tableHash (l : List HnSlot) : Nat := beNat ((hashBytes (sha256 (l.flatMap HnSlot_bytes))).drop 26)

/-- Whether a slot is active in base stride `n` (R290). -/
def Dev.slotActive (d : Dev) (x : HnSlot) (n : Nat) : Bool := d.gaitP x.gait != 0 && n % d.gaitP x.gait == x.phase

/-- The slot table that a lane's frames are checked against: the star's own on DOWNSTREAM and MONITOR lanes, else the upper
cluster's. -/
def Dev.tableOf (d : Dev) (p : Nat) : List HnSlot := if d.role p == 3 || d.role p == 4 then d.hn.down else d.hn.up

/-- The star sends TABLE_HASH (R280). -/
def Dev.tableHashSend (d : Dev) : Dev :=
  if !d.hn.active || !d.isStar then d
  else (d.lanesOf [3, 4]).foldl (fun (a : Dev) p => a.emit (.hnCtl p 5 (tableHash d.hn.down))) d

/-- A standby receives TABLE_HASH on its MONITOR lane (R311); a standby in RUN stays in RUN (R313). -/
def Dev.tableHashRx (d : Dev) (p v : Nat) : Dev :=
  if !d.hn.active || d.role p != 4 || !d.linkUp p || d.get R.HN_STATUS_STAR_STATE == 3 then d
  else if v ≠ tableHash d.hn.down then ((d.setStar 5).hnCause p (R.HN_LANE_EVT_TABLE_MISMATCH p) 9).withHn (fun h => { h with hashOk := false })
  else
    let d1 := d.withHn (fun h => { h with hashOk := true })
    if d.get R.HN_STATUS_UP_STATE = 4 then d1.setStar 4 else d1

/-! ### Frames (R287 to R289) -/

/-- A frame that the lane builds: the header, sections and the CRC (R287). -/
def Dev.hnFrame (d : Dev) (type slot time : Nat) (sections : List Byte) : List Byte :=
  let body := [BitVec.ofNat 8 (16 + type),
      BitVec.ofNat 8 ((if sections = [] then 1 else 0) + 2 * d.get R.HN_STATUS_TIME_SRC)] ++
    leBytes 2 (d.get R.HN_CTRL_NODE_ID) ++ leBytes 2 slot ++ leBytes 2 (28 + sections.length) ++ leBytes 8 time ++
    leBytes 5 d.stride.last ++ [BitVec.ofNat 8 (d.get R.HN_STATUS_LEVEL), BitVec.ofNat 8 (d.get R.SEC_STATUS_HN_EPOCH), 0] ++ sections
  body ++ leBytes 4 (crc32c body)

/-- SRC, SLOT and TYPE of a received frame. -/
def hnSrc (l : List Byte) : Nat := leNat (slice l 2 2)
/-- SLOT of a received frame. -/
def hnSlotNo (l : List Byte) : Nat := leNat (slice l 4 2) % 4096
/-- TYPE of a received frame. -/
def hnType (l : List Byte) : Nat := (l.getD 0 0).toNat % 16

/-- Whether a receiver keeps a frame (R289): CRC, VER_TYPE, LENGTH, and the owner of the slot in its table. -/
def hnGood (table : List HnSlot) (l : List Byte) : Bool :=
  let n := l.length
  let ty := hnType l
  decide (28 ≤ n) && leNat (l.drop (n - 4)) == crc32c (l.take (n - 4)) && (l.getD 0 0).toNat / 16 == 1 && (ty == 1 || ty == 2) &&
  leNat (slice l 6 2) == n &&
  (ty == 2 || (match table[hnSlotNo l]? with | some x => x.owner == hnSrc l | none => false))

/-- The PDATA items of a body committed into the region of a subscribed publication (R131, R288, R289). -/
def State.hnPdata (s : State) (team : Nat) (body : List Byte) : State :=
  match s.dev.hn.pubs.find? (fun x => x.pub == leNat (slice body 0 2)) with
  | none => s
  | some x =>
    let count := leNat (slice body 2 2)
    let vals := (4 + count + 7) / 8 * 8
    let q := { Req.ofEngine (team * 4) with agent := team }
    ((x.items.take count).zip (List.range count)).foldl (fun (a : State) e =>
      let dir := itemDir a.mem a.dev x.region e.1.1
      let at' := a.dev.bufAddr x.region (a.dev.get (R.IMG_STATE_WORK x.region)) + dir.off
      let a1 := if dir.size = 0 then a else a.orchWrite q at' (slice body (vals + e.1.2) dir.size)
      a1.on (fun d => d.engCommit (team * 4) x.region (some e.1.1) (body.getD (4 + e.2) 0).toNat)) s

/-- A CMD section queued for reassembly (R288, R314). -/
def Dev.hnCmd (d : Dev) (p src : Nat) (body : List Byte) : Dev :=
  let f := (body.getD 0 0).toNat
  d.withHn (fun h => { h with frags := h.frags ++
    [{ lane := p, src := src, first := f.testBit 0, last := f.testBit 1, reply := f.testBit 2, tag := (body.getD 1 0).toNat,
       off := leNat (slice body 2 2), bytes := body.drop 4 }] })

/-- The sections of an accepted frame (R288): `fuel` bounds their number. SLEEP sections are the sleep ring's rows, TIME sections the
personality's; a section of another kind is skipped and counted. -/
def State.hnSections (s : State) (p src team : Nat) (cmd : Bool) : Nat → List Byte → State
  | 0, _ => s
  | fuel + 1, l =>
    if l.length < 4 then s else
    let n := leNat (slice l 2 2)
    let body := (l.drop 4).take n
    let s1 := match (l.getD 0 0).toNat with
      | 1 => s.hnPdata team body
      | 2 => if cmd then s.on (fun d => d.hnCmd p src body) else s
      | 3 | 4 => s
      | _ => s.on (fun d => d.inc (R.HN_CNT_SEC_UNKNOWN p))
    s1.hnSections p src team cmd fuel (l.drop (4 + (n + 3) / 4 * 4))

/-- The frame as lane `p` enters it into the fabric (R275). -/
def Dev.hnCopy (d : Dev) (p : Nat) (l : List Byte) : Copy :=
  { src := p, origin := p, dst := 0, cls := d.hn.cls, bytes := l, stamp := d.tb0, rate := d.rate p }

/-- An accepted frame passes through the fabric to the personality's team, and its items are committed (R275, R289). -/
def State.hnDeliver (s : State) (p : Nat) (l : List Byte) : State :=
  let team := s.dev.get (R.HN_LANE_CFG_TEAM p)
  let s1 := s.on (fun d => d.enterFrame (d.hnCopy p l) [26 + team])
  if hnType l = 2 then s1 else
  let cmd := match (s.dev.tableOf p)[hnSlotNo l]? with | some x => x.cmd | none => false
  s1.hnSections p (hnSrc l) team cmd l.length ((l.take (l.length - 4)).drop 24)

/-! ### Sending (R291, R292, R294, R305) -/

/-- A frame sent on some lanes. -/
def Dev.hnSend (d : Dev) (lanes : List Nat) (l : List Byte) (cut : Bool) : Dev :=
  lanes.foldl (fun (a : Dev) p => (a.inc (R.HN_CNT_TX_FRAMES p)).emit (.harness p l cut)) d

/-- A Harness frame that the team has put into the fabric for a lane: its FCS place carries the CRC-32C (DESIGN CHOICE, log entry 15). -/
def hnFromCopy (c : Copy) : List Byte := frameBody c.bytes ++ leBytes 4 (crc32c (frameBody c.bytes))

/-- The frame of slot `i` that its team has put into the fabric for lane `p`, once it is complete (R275, R292). -/
def Dev.hnQueued (d : Dev) (p i : Nat) : Option Copy :=
  d.fab.copies.find? (fun c => c.dst == p && c.src == 26 + d.get (R.HN_LANE_CFG_TEAM p) && (c.bytes.getD 0 0) == 0x11 && hnSlotNo c.bytes == i &&
    d.complete c)

/-- The frames for lane `p` that are BAD or over their age limit are discarded (R177, R192). -/
def Dev.hnPurge (d : Dev) (p : Nat) : Dev :=
  (d.fab.copies.filter (fun c => c.dst == p)).foldl (fun (a : Dev) c =>
    if a.seenBad c then a.takeCopy c else if a.tooOld c then a.ageDrop p c else a) d

/-- When lane `p` sends the first bit of slot `x`, in units of 1/256 ns of the Harness time base (R291, R294): a worker d_up before the slot's start,
and not before +64 ns of the stride; the star the relay time after it. -/
def Dev.launchTime (d : Dev) (down : Bool) (x : HnSlot) (p : Nat) : Nat :=
  let e := d.edgeNs d.stride.last * 256
  if down then e + x.start * 512 + 256 * (if d.on (R.HN_LANE_CFG_RATE p) then 128 else 512)
  else
    let dUp : Int := (d.get (R.HN_DELAY p) : Int) + toSigned 16 (d.get (R.HN_LANE_CFG_ASYM p)) / 2
    max (e + 64 * 256) ((e + x.start * 512 : Nat) - dUp).toNat

/-- Lane `p` launches its frame of slot `i` at its instant, or an EMPTY frame (R291, R292). -/
def Dev.launchOn (d : Dev) (down : Bool) (i : Nat) (x : HnSlot) (p : Nat) : Dev :=
  let d0 := ((d.passTo (d.get R.HN_CTRL_TB) (d.launchTime down x p * 2 ^ 24)).fabSync).hnPurge p
  match d0.hnQueued p i with
  | some c => ((d0.takeCopy c).inc (R.SW_PORT_CNT_FRAMES_OUT p)).hnSend [p] (hnFromCopy c) false
  | none => (d0.inc (R.HN_CNT_SLOT_EMPTY p)).hnSend [p] (d0.hnFrame 1 i (d0.edgeNs d0.stride.last + 2 * x.start) []) false

/-- The lanes in the order of their launch instants. -/
def Dev.launchOrder (d : Dev) (down : Bool) (x : HnSlot) (ps : List Nat) : List Nat :=
  ps.foldl (fun l p => l.takeWhile (fun q => decide (d.launchTime down x q ≤ d.launchTime down x p)) ++ p ::
    l.dropWhile (fun q => decide (d.launchTime down x q ≤ d.launchTime down x p))) []

/-- The launch instant of slot `i` of the upper (`down` false) or the own cluster comes (R291, R310): a worker in SYNC or ISOLATED
launches on its UPSTREAM and STANDBY_UP lanes, each at its own instant, a star in RUN on its members' lanes. -/
def Dev.slotLaunch (d : Dev) (down : Bool) (i : Nat) : Dev :=
  match (if down then d.hn.down else d.hn.up)[i]? with
  | none => d
  | some x =>
    let st := d.get R.HN_STATUS_UP_STATE
    let may := if down then d.get R.HN_STATUS_STAR_STATE == 3 else (st == 4 || st == 5) && !d.hn.fresh
    if !d.hn.active || x.owner ≠ d.get R.HN_CTRL_NODE_ID || !d.slotActive x d.stride.last || !may then d
    else (d.launchOrder down x (d.lanesOf (if down then [3, 4] else [1, 2]))).foldl (fun (a : Dev) p => a.launchOn down i x p) d

/-- The TIME section of a worker (R288, R305): `HN_OFFSET_AVG` of the followed lane in 2^-16 ns. -/
def Dev.timeSection (d : Dev) : List Byte :=
  match d.followed with
  | some p => [4, 0, 8, 0] ++ leBytes 8 (ofSigned 64 (toSigned 32 (d.get (R.HN_OFFSET_AVG p)) * 256))
  | none => []

/-- +64 ns of the present base stride (R291, R300, R303). -/
def Dev.passLaunch (d : Dev) : Dev := if d.strideLive then d.passStride ((d.edgeNs d.stride.last + 64) * 2 ^ 32) else d

/-- A node in STARTUP sends its STARTUP frame at +64 ns (R300, R305). -/
def Dev.startupSend (d : Dev) : Dev :=
  if d.hn.active && d.get R.HN_STATUS_UP_STATE == 2 then
    let d1 := d.passLaunch
    d1.hnSend (d1.lanesOf [1]) (d1.hnFrame 2 0 (d1.tbNs (d1.get R.HN_CTRL_TB)) d1.timeSection) false
  else d

/-! ### The star's relay (R293 to R299) -/

/-- The window of R293 holds an arrival; both in units of 250 ps after the base edge. -/
def inWindow (g start : Nat) (t : Int) : Bool :=
  decide ((start * 8 : Nat) - (g * 4 : Nat) ≤ t) && decide (t / 8 ≤ ((start * 8 + g * 4 : Nat) : Int) / 8)

/-- The active slots around the present stride: the start in units of 250 ps after its edge, the number, the entry. -/
def Dev.activeSlots (d : Dev) : List (Int × Nat × HnSlot) :=
  let n := d.stride.last
  let strides := (if n = 0 then [] else [n - 1]) ++ [n, n + 1]
  strides.flatMap (fun m =>
    (((List.range d.hn.down.length).zip d.hn.down).filter (fun e => d.slotActive e.2 m)).map
      (fun e => (((m : Int) - n) * (d.strideT * 4 : Nat) + (e.2.start * 8 : Nat), e.1, e.2)))

/-- The slot of a member whose window holds an arrival: its offset and number. -/
def Dev.windowSlot (d : Dev) (member : Nat) (t : Int) : Option (Int × Nat × HnSlot) :=
  d.activeSlots.find? (fun e => e.2.2.owner == member && inWindow (d.get R.HN_CLUSTER_GUARD) 0 (t - e.1))

/-- The nearer of the previous and the next active slot that the member owns (R296). -/
def Dev.cutSlot (d : Dev) (member : Nat) (t : Int) : Option (Int × Nat × HnSlot) :=
  let prev := (d.activeSlots.filter (fun e => decide (e.1 ≤ t))).foldl (fun (a : Option (Int × Nat × HnSlot)) e =>
    match a with | none => some e | some b => if b.1 ≤ e.1 then some e else some b) none
  let next := (d.activeSlots.filter (fun e => decide (t < e.1))).foldl (fun (a : Option (Int × Nat × HnSlot)) e =>
    match a with | none => some e | some b => if e.1 < b.1 then some e else some b) none
  let own := fun (x : Option (Int × Nat × HnSlot)) => x.filter (fun e => e.2.2.owner == member)
  match own prev, own next with
  | some a, some b => if t - a.1 ≤ b.1 - t then some a else some b
  | some a, none => some a
  | none, b => b

/-- Twice the time in units of 25 ps that a frame of `n` bytes takes (R272, R287). -/
def Dev.blockTime (d : Dev) (p n : Nat) : Nat := (n + 2 + 7) / 8 * (if d.on (R.HN_LANE_CFG_RATE p) then 256 else 1024)

/-- Whether a frame is still passing when its relay closes (R295). -/
def Dev.overruns (d : Dev) (p n : Nat) (start : Int) (x : HnSlot) (t : Int) : Bool :=
  decide (start * 10 + (x.len * 80 : Nat) < t * 10 + (d.blockTime p n : Nat))

/-- The epoch rule of R684: the frame's epoch is within 1 of the star's own and of that of any other member in SYNC. -/
def Dev.epochOk (d : Dev) (p e : Nat) : Bool :=
  let near := fun (x : Nat) => decide (x ≤ e + 1) && decide (e ≤ x + 1)
  near (d.get R.SEC_STATUS_HN_EPOCH) &&
  (d.lanesOf [3]).all (fun q => q == p || (match (d.hlane q).epoch with | some x => near x | none => true))

/-- A frame that arrives in its owner's window at a star in RUN (R294, R295, R275, R684). -/
def State.hnRelay (s : State) (p : Nat) (l : List Byte) (arrival : Int) (e : Int × Nat × HnSlot) : State :=
  let d := s.dev
  let ep := (l.getD 22 0).toNat
  if d.on (R.HN_LANE_STATUS_ISOLATED p) then s
  else if !d.epochOk p ep then s.on (fun d => (d.inc (R.HN_CNT_RX_DISCARD p)).cause R.SEC_EVT_EPOCH_REFUSE
      ((d.get R.SEC_EVT_EN).testBit 3) 245)
  else if d.overruns p l.length e.1 e.2.2 arrival then
    s.on (fun d => d.withHn (fun h => { h with passing := some (p, e.2.1, l) }))
  else
    let s1 := s.on (fun d => d.hnSend (d.lanesOf [3, 4]) l false)
    if hnGood d.hn.down l then
      (s1.on (fun d => d.setLane p { d.hlane p with epoch := some ep })).hnDeliver p l
    else s1.on (fun d => d.inc (R.HN_CNT_RX_DISCARD p))

/-- A STARTUP frame arrives at a star (R303): one that takes part in an arbitration is accepted, and passed to the team (R275). -/
def State.startupRx (s : State) (p : Nat) (l : List Byte) : State :=
  match s.dev.get R.HN_STATUS_STAR_STATE with
  | 2 => if hnGood s.dev.hn.down l then
           (s.on (fun d => d.withHn (fun h => { h with claims := h.claims ++ [(hnSrc l, l)] }))).hnDeliver p l
         else s.on (fun d => d.inc (R.HN_CNT_RX_DISCARD p))
  | 3 => s.on (fun d => d.inc (R.HN_CNT_OFF_SLOT p))
  | _ => s

/-- A frame arrives on a DOWNSTREAM lane (R293 to R297). -/
def State.hnFromMember (s : State) (p : Nat) (l : List Byte) (arrival : Int) : State :=
  let d := s.dev
  let st := d.get R.HN_STATUS_STAR_STATE
  let member := d.get (R.HN_LANE_STATUS_MEMBER_ID p)
  let arr := fun (e : Int × Nat × HnSlot) (cut : Bool) (d : Dev) =>
    d.withHn (fun h => { h with arrivals := h.arrivals.put e.2.1 { off := arrival - e.1, cut := cut } })
  if d.on (R.HN_LANE_STATUS_DUP_ID p) then s
  else if hnType l = 2 then s.startupRx p l
  else if st ≠ 3 ∧ st ≠ 4 then s
  else
    match (if (d.hlane p).known then d.windowSlot member arrival else none) with
    | some e =>
      let s1 := s.on (arr e false)
      if st = 3 then s1.hnRelay p l arrival e else s1
    | none =>
      match (if (d.hlane p).known then d.cutSlot member arrival else none) with
      | some e => s.on (fun d => ((arr e true d).inc (R.HN_CNT_CUT p)).hnCause p (R.HN_LANE_EVT_CUT p) 2)
      | none => s.on (fun d => d.inc (R.HN_CNT_OFF_SLOT p))

/-- The level that a star's frame carries (R277). -/
def Dev.takeLevel (d : Dev) (p : Nat) (l : List Byte) : Dev :=
  if hnSrc l ≠ d.hn.star then d else
  let lv := (l.getD 21 0).toNat
  let d1 := d.set (R.HN_LANE_STATUS_MEMBER_ID p) (hnSrc l)
  let u := (d.laneOf 1).getD p
  if 6 ≤ lv then ((d1.withHn (fun h => { h with deep := true })).setUp 3).hnCause u (R.HN_LANE_EVT_LEVEL_ERR u) 10
  else (d1.withHn (fun h => { h with deep := false })).set R.HN_STATUS_LEVEL (lv + 1)

/-- What a relayed frame on the followed lane does to `UP_STATE` (R302, R304, R305, R307). -/
def Dev.upFrame (d : Dev) (p : Nat) (l : List Byte) : Dev :=
  let d1 := d.withHn (fun h => { h with heard := true, heardFrom := h.heardFrom.put (hnSrc l) ((l.getD 22 0).toNat, d.stride.last) })
  let st := d.get R.HN_STATUS_UP_STATE
  if hnType l = 2 then
    (if st = 2 then (if hnSrc l = d.get R.HN_CTRL_NODE_ID then d1.set R.HN_STATUS_TIME_SRC 1 else d1.setUp 1) else d1)
  else
    (if st = 2 ∧ d.on R.HN_STATUS_TIME_SRC then d1.enterSync
     else if st = 1 ∨ st = 2 then (d1.setUp 3).withHn (fun h => { h with okStrides := 0 })
     else d1).takeLevel p l

/-- A frame arrives on an UPSTREAM, STANDBY_UP or MONITOR lane (R308 to R310). -/
def State.hnFromStar (s : State) (p : Nat) (l : List Byte) : State :=
  if !hnGood (s.dev.tableOf p) l then s.on (fun d => d.inc (R.HN_CNT_RX_DISCARD p))
  else
    let s1 := s.on (fun d => d.setLane p { d.hlane p with saw := true })
    if s.dev.followed = some p then (s1.on (fun d => d.upFrame p l)).hnDeliver p l else s1

/-- A Harness frame arrives on lane `p`; `arrival` is its first bit in units of 250 ps after the base edge. -/
def State.hnReceive (s : State) (p : Nat) (l : List Byte) (arrival : Int) : State :=
  if !s.dev.hn.active || s.dev.role p == 0 || !s.dev.linkUp p then s else
  let s1 := s.on (fun d => d.inc (R.HN_CNT_RX_FRAMES p))
  if s.dev.role p == 3 then s1.hnFromMember p l arrival else s1.hnFromStar p l

/-- The relay of slot `i` closes (R295). -/
def Dev.relayClose (d : Dev) (i : Nat) : Dev :=
  match d.hn.passing with
  | some (p, j, l) =>
    if j = i then
      (((d.withHn (fun h => { h with passing := none })).hnSend (d.lanesOf [3, 4]) l true).inc (R.HN_CNT_CUT_LONG p)).hnCause p
        (R.HN_LANE_EVT_CUT p) 2
    else d
  | none => d

/-! ### Echo, drift and isolation (R297 to R299) -/

/-- VALUE of a SLOT_ECHO (R280). -/
def echoValue (slot : Nat) (iso cut warn : Bool) (x : Int) : Nat :=
  let b := fun (c : Bool) (n : Nat) => if c then 2 ^ n else 0
  slot % 4096 * 2 ^ 36 + b iso 35 + b cut 34 + b warn 33 + ofSigned 32 (max (-(2 ^ 31 : Nat)) (min ((2 ^ 31 - 1 : Nat)) x))

/-- The member of lane `p` is isolated (R299). -/
def Dev.isolate (d : Dev) (p : Nat) : Dev :=
  (((d.set (R.HN_LANE_STATUS_ISOLATED p) 1).inc (R.HN_CNT_ISOLATIONS p)).hnCause p (R.HN_LANE_EVT_ISOLATED p) 3).setLane p
    { d.hlane p with good := 0 }

/-- The cut run after a cut (R298, R299). -/
def Dev.cutRule (d : Dev) (p : Nat) : Dev :=
  let n := d.get (R.HN_LANE_STATUS_CUT_RUN p)
  let d1 := (d.set (R.HN_LANE_STATUS_CUT_RUN p) (min 3 (n + 1))).setLane p { d.hlane p with good := 0 }
  if 2 ≤ n && !d.on (R.HN_LANE_STATUS_ISOLATED p) then d1.isolate p else d1

/-- The rule for an offset within g / 2 (R298, R299). -/
def Dev.goodRule (d : Dev) (p : Nat) : Dev :=
  let d1 := d.set (R.HN_LANE_STATUS_CUT_RUN p) 0
  if !d.on (R.HN_LANE_STATUS_ISOLATED p) then d1
  else if 1 ≤ (d.hlane p).good then
    ((d1.set (R.HN_LANE_STATUS_ISOLATED p) 0).hnCause p (R.HN_LANE_EVT_RESYNC p) 4).setLane p { d.hlane p with good := 0 }
  else d1.setLane p { d.hlane p with good := (d.hlane p).good + 1 }

/-- The rule for an offset beyond g / 2 that is relayed (R298). -/
def Dev.driftRule (d : Dev) (p : Nat) : Dev :=
  ((d.inc (R.HN_CNT_DRIFT_CNT p)).hnCause p (R.HN_LANE_EVT_DRIFT_WARN p) 1).setLane p { d.hlane p with good := 0 }

/-- `HN_ECHO[p]` takes an echo. -/
def Dev.storeEcho (d : Dev) (p slot : Nat) (iso cut warn : Bool) (x : Nat) : Dev :=
  let b := fun (c : Bool) => if c then 1 else 0
  (((((d.set (R.HN_ECHO_OFFSET p) x).set (R.HN_ECHO_SLOT p) slot).set (R.HN_ECHO_CUT p) (b cut)).set (R.HN_ECHO_DRIFT_WARN p)
    (b warn)).set (R.HN_ECHO_ISOLATED p) (b iso)).set (R.HN_ECHO_VALID p) 1

/-- The star echoes slot `i` to its owner's lane (R297 to R299). -/
def Dev.slotEchoSend (d : Dev) (i : Nat) : Dev :=
  let st := d.get R.HN_STATUS_STAR_STATE
  match d.hn.down[i]? with
  | none => d
  | some x =>
    match (d.lanesOf [3]).find? (fun p => (d.hlane p).known && d.get (R.HN_LANE_STATUS_MEMBER_ID p) == x.owner &&
        !d.on (R.HN_LANE_STATUS_DUP_ID p)) with
    | none => d
    | some p =>
      if !d.hn.active || (st != 3 && st != 4) then d else
      let d0 := d.withHn (fun h => { h with arrivals := h.arrivals.del i })
      match Tab.find? d.hn.arrivals i with
      | none => (d0.inc (R.HN_CNT_SLOT_MISSING p)).emit (.hnCtl p 4 (echoValue i (d.on (R.HN_LANE_STATUS_ISOLATED p)) false false 0))
      | some a =>
        let warn := !a.cut && decide (d.get R.HN_CLUSTER_GUARD * 4 < a.off.natAbs * 2)
        let d1 := if a.cut then d0.cutRule p else if warn then d0.driftRule p else d0.goodRule p
        let iso := d1.on (R.HN_LANE_STATUS_ISOLATED p)
        let v := echoValue i iso a.cut warn a.off
        (d1.storeEcho p i iso a.cut warn (v % 2 ^ 32)).emit (.hnCtl p 4 v)

/-- The owner receives an echo (R297 to R299). -/
def Dev.slotEcho (d : Dev) (p v : Nat) : Dev :=
  if !d.measures p then d else
  let was := d.on (R.HN_ECHO_ISOLATED p)
  let iso := v.testBit 35
  let d1 := d.storeEcho p (v / 2 ^ 36 % 4096) iso (v.testBit 34) (v.testBit 33) (v % 2 ^ 32)
  let d2 := if v.testBit 33 then d1.hnCause p (R.HN_LANE_EVT_DRIFT_WARN p) 1 else d1
  let mine := d.followed == some p
  if iso && !was then
    let d3 := d2.hnCause p (R.HN_LANE_EVT_ISOLATED p) 3
    if mine && d.get R.HN_STATUS_UP_STATE == 4 then d3.setUp 5 else d3
  else if was && !iso then
    let d3 := d2.hnCause p (R.HN_LANE_EVT_RESYNC p) 4
    if mine && d.get R.HN_STATUS_UP_STATE == 5 then d3.setUp 4 else d3
  else d2

/-! ### Cold start (R302 to R306) -/

/-- A listen time ends (R302, R304). -/
def Dev.listenTimeout (d0 : Dev) : Dev :=
  let d := if d0.hn.active then d0.passNs (d0.hn.listenAt + d0.listenNs - d0.now) else d0
  if !d.hn.active then d
  else if d.get R.HN_STATUS_UP_STATE = 1 then
    (if d.hn.heard then d.withHn (fun h => { h with heard := false, listenAt := d.now })
     else if d.on R.HN_CTRL_COLDSTART then d.setUp 2 else d)
  else if d.get R.HN_STATUS_STAR_STATE = 2 then d.withHn (fun h => { h with listenOver := true })
  else d

/-- The root star relays the winner of a listen window at +64 ns of the next stride (R303 to R305): the lowest node ID wins. -/
def Dev.arbitrate (dev : Dev) : Dev :=
  if !dev.hn.active || dev.get R.HN_STATUS_STAR_STATE != 2 || dev.hn.awaitStep || dev.hn.runIn != 0 then dev else
  let d := dev.passLaunch
  let id := d.get R.HN_CTRL_NODE_ID
  let own := if d.on R.HN_CTRL_COLDSTART && d.hn.listenOver then [(id, d.hnFrame 2 0 (d.tbNs (d.get R.HN_CTRL_TB)) [])] else []
  let all := d.hn.claims ++ own
  let d0 := d.withHn (fun h => { h with claims := [] })
  match all.foldl (fun (a : Option (Nat × List Byte)) c =>
      match a with | none => some c | some b => if c.1 < b.1 then some c else some b) none with
  | none => d0
  | some w =>
    if w.1 = id then
      let d1 := (d0.set R.HN_STATUS_TIME_SRC 1).withHn (fun h => { h with runIn := 1 })
      d1.hnSend (d1.lanesOf [3, 4]) (d1.hnFrame 2 0 (d.tbNs (d.get R.HN_CTRL_TB)) []) false
    else
      (d0.withHn (fun h => { h with awaitStep := true, listenOver := false, listenAt := d0.now })).hnSend (d0.lanesOf [3, 4]) w.2 false

/-- A step of the Harness time base applied while the star awaits it (R305): RUN comes at the second edge after it. -/
def Dev.hnStepped (d : Dev) (n : Nat) : Dev :=
  if d.hn.awaitStep && n == d.get R.HN_CTRL_TB then d.withHn (fun h => { h with awaitStep := false, runIn := 2 }) else d

/-! ### The base edge (R306, R308, R312, R313, R322) -/

/-- A pending stop takes effect: sending ends and the relay closes (R322). -/
def Dev.hnStop (d : Dev) : Dev :=
  if d.hn.stopPend then (d.hnStates).withHn (fun h => { h with active := false, stopPend := false }) else d

/-- A choice of uplink takes effect (R313, R619): ON_STANDBY. -/
def Dev.takeUplink (d : Dev) : Dev :=
  match d.hn.uplink with
  | some b => ((d.withHn (fun h => { h with uplink := none })).set R.HN_STATUS_ON_STANDBY (if b then 1 else 0)).showFollowed
  | none => d

/-- The silence of a lane counted at an edge (R308): SILENT at the third stride on the followed or the MONITOR lane. -/
def Dev.countSilent (d : Dev) (p : Nat) : Dev :=
  let x := d.hlane p
  let n := if x.saw then 0 else min 3 (x.silent + 1)
  let d1 := d.setLane p { x with saw := false, silent := n, gotT3 := false, t3Hist := (x.t3Hist * 2 + (if x.gotT3 then 1 else 0)) % 8 }
  if n = 3 ∧ x.silent = 2 ∧ (d.followed = some p ∨ d.role p = 4) then d1.hnCause p (R.HN_LANE_EVT_SILENT p) 6 else d1

/-- The standby star takes over (R312). -/
def Dev.takeover (d : Dev) : Dev :=
  match d.laneOf 4 with
  | some p =>
    if (d.hlane p).silent = 3 ∧ d.get R.HN_STATUS_STAR_STATE = 4 then (d.setStar 3).hnCause p (R.HN_LANE_EVT_TAKEOVER p) 7 else d
  | none => d

/-- What three silent strides on the followed lane do to a worker (R308, R312, R313). -/
def Dev.workerSilent (d : Dev) : Dev :=
  let st := d.get R.HN_STATUS_UP_STATE
  let s := d.get R.HN_CTRL_STBY_LANE
  let u := d.get R.HN_CTRL_UP_LANE
  let pair := d.on R.HN_CTRL_STBY_EN && d.on R.HN_CTRL_UP_EN && d.role s == 2
  match d.followed with
  | none => d
  | some p =>
    if (d.hlane p).silent < 3 ∨ (st ≠ 4 ∧ st ≠ 5) then d
    else if pair && p == u && (d.hlane s).t3Hist != 0 then (d.set R.HN_STATUS_ON_STANDBY 1).showFollowed
    else if pair && p == s && d.linkUp u && (d.hlane u).silent == 0 then (d.set R.HN_STATUS_ON_STANDBY 0).showFollowed
    else
      let d1 := d.setUp 1
      if d.get R.HN_STATUS_STAR_STATE = 3 then d1.set R.HN_STATUS_HOLDOVER 1 else d1

/-- The star's way into RUN at an edge (R305, R306). -/
def Dev.starRun (d : Dev) : Dev :=
  let st := d.get R.HN_STATUS_STAR_STATE
  if d.hn.runIn ≠ 0 then
    let d1 := d.withHn (fun h => { h with runIn := h.runIn - 1 })
    if d.hn.runIn = 1 then d1.setStar 3 else d1
  else if st = 1 ∧ d.get R.HN_STATUS_UP_STATE = 4 ∧ (d.laneOf 4).isNone then d.setStar 3
  else d

/-- A base edge (R300 to R313, R322). -/
def Dev.hnEdge (d : Dev) : Dev :=
  let d0 := d.hnStop
  if !d0.hn.active then d0 else
  let d1 := ((List.range 16).filter (fun p => [1, 2, 4].contains (d0.role p))).foldl (fun (a : Dev) p => a.countSilent p) d0
  let d2 := ((d1.takeover.workerSilent).starRun).takeUplink
  d2.withHn (fun h => { h with fresh := false })

/-! ### Command sections (R314) -/

/-- The key of a packet in reassembly: the star relays the sections of several nodes to one lane. -/
def fragKey (f : HnFrag) : Nat := (f.src * 16 + f.lane) * 512 + f.tag * 2 + (if f.reply then 1 else 0)

/-- The packet of a list of fragments in order of offset; none when one is missing. -/
def joinFrags : List (Nat × List Byte) → List Byte → Option (List Byte)
  | [], acc => some acc
  | (o, b) :: r, acc => if o = acc.length then joinFrags r (acc ++ b) else none

/-- The oldest CMD section of lane `p` is reassembled (R314): a whole packet, or the count of a lost one. -/
def Dev.takeFrag (d : Dev) (p : Nat) : Dev × Option (Bool × Nat × List Byte) :=
  match d.hn.frags.find? (fun f => f.lane == p) with
  | none => (d, none)
  | some f =>
    let k := fragKey f
    let old := if f.first then some [] else Tab.find? d.hn.assy k
    let d0 := d.withHn (fun h => { h with frags := h.frags.erase f })
    match old with
    | none => (if f.last then d0.inc (R.HN_CNT_CMD_DROP p) else d0, none)
    | some l =>
      let all := l ++ [(f.off, f.bytes)]
      if f.last then
        let d1 := d0.withHn (fun h => { h with assy := h.assy.del k })
        match joinFrags all [] with
        | some pk => (d1, some (f.reply, f.src, pk))
        | none => (d1.inc (R.HN_CNT_CMD_DROP p), none)
      else (d0.withHn (fun h => { h with assy := h.assy.put k all }), none)

end Sys2Proof.Machine
end

