-- ==== Sys2Proof/Machine/Can.lean ====
section
/-! DEFINITION. The CAN controllers (chapter 7, R330 to R364): modes, transmit buffers, the choice of the next frame, acceptance
filtering, receive buffers, errors and bus-off. -/

namespace Sys2Proof.Machine
open Sys2Proof

/-- Controller `c`. -/
def Dev.canSt (d : Dev) (c : Nat) : CanSt := d.can.getD c {}
/-- The device with controller `c` changed. -/
def Dev.setCan (d : Dev) (c : Nat) (x : CanSt) : Dev := { d with can := d.can.put c x }
/-- A cause of `CAN_EVT[c]` bit `b` raises EV154 + c (R359, R362). -/
def Dev.canCause (d : Dev) (c : Nat) (f : Fld) (b : Nat) : Dev := d.cause f ((d.get (R.CAN_EVT_EN c)).testBit b) (154 + c)
/-- CFG_REJ (R336, R344). -/
def Dev.canCfgRej (d : Dev) (c : Nat) : Dev := d.canCause c (R.CAN_EVT_CFG_REJ c) 10
/-- MODE_NOW. -/
def Dev.canMode (d : Dev) (c : Nat) : Nat := d.get (R.CAN_STATUS_MODE_NOW c)
/-- STATE of transmit buffer `n` (R343). -/
def Dev.txb (d : Dev) (c n : Nat) : Nat := d.get (R.TXB_STATUS_STATE c n)

/-! ### Modes (R333 to R338) -/

/-- The ns of one bit of a phase from its stored fields (R337). -/
def canBit (brp t1 t2 : Nat) : Nat := (brp + 1) * (1 + (t1 + 1) + (t2 + 1)) * 5

/-- The nominal bit in ns. -/
def Dev.canNominal (d : Dev) (c : Nat) : Nat :=
  canBit (d.get (R.CAN_NBT_BRP_M1 c)) (d.get (R.CAN_NBT_TSEG1_M1 c)) (d.get (R.CAN_NBT_TSEG2_M1 c))
/-- The FD data bit in ns. -/
def Dev.canFd (d : Dev) (c : Nat) : Nat :=
  canBit (d.get (R.CAN_DBT_BRP_M1 c)) (d.get (R.CAN_DBT_TSEG1_M1 c)) (d.get (R.CAN_DBT_TSEG2_M1 c))
/-- The XL data bit in ns. -/
def Dev.canXl (d : Dev) (c : Nat) : Nat :=
  canBit (d.get (R.CAN_XBT_BRP_M1 c)) (d.get (R.CAN_XBT_TSEG1_M1 c)) (d.get (R.CAN_XBT_TSEG2_M1 c))

/-- BIT_TIMING of R334. -/
def Dev.canTimingBad (d : Dev) (c : Nat) : Bool :=
  let fd := d.on (R.CAN_CFG_FD_EN c)
  let xl := d.on (R.CAN_CFG_XL_EN c)
  decide (d.canNominal c < 1000) || decide (d.get (R.CAN_NBT_TSEG2_M1 c) < d.get (R.CAN_NBT_SJW_M1 c)) ||
  (fd && (decide (d.canFd c < 125) || decide (d.get (R.CAN_DBT_TSEG2_M1 c) < d.get (R.CAN_DBT_SJW_M1 c)) ||
    decide (d.canNominal c < d.canFd c))) ||
  (xl && (decide (d.canXl c < 50) || decide (d.get (R.CAN_XBT_TSEG2_M1 c) < d.get (R.CAN_XBT_SJW_M1 c)) ||
    decide (d.canNominal c < d.canXl c)))

/-- PROTOCOL of R334. -/
def Dev.canProtocolBad (d : Dev) (c : Nat) : Bool :=
  d.on (R.CAN_CTRL_TMS c) && (!d.on (R.CAN_CFG_XL_EN c) || d.get (R.CAN_PWM_PWMO c) == 0 || d.get (R.CAN_PWM_PWML c) == 0 ||
    d.get (R.CAN_PWM_PWMS c) == 0)

/-- The bytes of a receive slot (R353). -/
def slotBytes (k : Nat) : Nat := match k with | 0 => 40 | 1 => 96 | _ => 2080

/-- MEMORY of R334. -/
def Dev.canMemoryBad (d : Dev) (c : Nat) : Bool :=
  d.get (R.CAN_RXB_COUNT c) == 0 || decide (12 < d.get (R.CAN_CFG_AGENT c)) ||
  decide (2 ^ 25 < d.get (R.CAN_RXB_BASE c) * 8 + d.get (R.CAN_RXB_COUNT c) * slotBytes (d.get (R.CAN_CFG_RXB_SLOT c))) ||
  [0, 1].any (fun l => decide (2 ^ 25 < d.get (R.CAN_FLT_BASE c l) * 16 + d.get (R.CAN_FLT_COUNT c l) * 16))

/-- `CFG_ERR` for a change from CONFIG (R334), 0 when the configuration is consistent. -/
def Dev.canCfgErr (d : Dev) (c : Nat) : Nat :=
  if d.canTimingBad c then 1 else if d.canProtocolBad c then 3 else if d.canMemoryBad c then 4 else 0

/-- STATE of a controller that is not bus-off, by its error counters (R356, R361). -/
def Dev.canActive (d : Dev) (c : Nat) : Nat := if 128 ≤ d.get (R.CAN_STATUS_TEC c) ∨ 128 ≤ d.get (R.CAN_STATUS_REC c) then 1 else 0

/-- A write of MODE (R333, R334): refused or requested. A bus-off controller stays bus-off until it recovers (R357). -/
def Dev.canModeWrite (d : Dev) (w : Writer) (c m : Nat) : Dev :=
  if 4 < m then d.rsvWrite w (0x90000 + c * 0x2000)
  else if m = d.get (R.CAN_CTRL_MODE c) then d
  else if d.canMode c = 0 ∧ m ≠ 0 then
    let e := d.canCfgErr c
    if e ≠ 0 then (d.set (R.CAN_STATUS_CFG_ERR c) e).set (R.CAN_CTRL_MODE c) 0
    else ((d.set (R.CAN_STATUS_CFG_ERR c) 0).set (R.CAN_CTRL_MODE c) m).set (R.CAN_STATUS_STATE c)
      (if d.get (R.CAN_STATUS_STATE c) = 2 then 2 else 3)
  else if d.canMode c = 0 ∧ d.get (R.CAN_STATUS_STATE c) = 3 then (d.set (R.CAN_CTRL_MODE c) m).set (R.CAN_STATUS_STATE c) (d.canActive c)
  else d.set (R.CAN_CTRL_MODE c) m

/-- A transmit buffer becomes ABORTED, FAILED or REJECTED (R343, R362). -/
def Dev.txbFail (d : Dev) (c n st : Nat) : Dev := (d.set (R.TXB_STATUS_STATE c n) st).canCause c (R.CAN_EVT_TX_FAIL c) 2

/-- The requested mode takes effect (R334, R335). -/
def Dev.canModeChange (d : Dev) (c : Nat) : Dev :=
  let m := d.get (R.CAN_CTRL_MODE c)
  let was := d.canMode c
  if m = was then d else
  let d1 := d.set (R.CAN_STATUS_MODE_NOW c) m
  let d2 := if was = 0 ∧ d.get (R.CAN_STATUS_STATE c) = 3 then d1.set (R.CAN_STATUS_STATE c) (d.canActive c) else d1
  let d3 := if m = 0 then [0, 1, 2].foldl (fun (a : Dev) n => if a.txb c n = 1 then a.txbFail c n 4 else a) d2 else d2
  d3.canCause c (R.CAN_EVT_MODE_CHG c) 0

/-- A write of RECOVER (R357). -/
def Dev.canRecover (d : Dev) (c : Nat) : Dev :=
  if d.get (R.CAN_STATUS_STATE c) = 2 then d.setCan c { d.canSt c with recover := true } else d

/-- Bus-off recovery completes (R357); the error counters start again from 0 (PRESUMED from ISO 11898-1, log entry 16). -/
def Dev.busOffRecovery (d : Dev) (c : Nat) : Dev :=
  if d.get (R.CAN_STATUS_STATE c) = 2 ∧ (d.on (R.CAN_CTRL_AUTO_RECOVER c) ∨ (d.canSt c).recover = true) then
    (((d.set (R.CAN_STATUS_STATE c) 0).set (R.CAN_STATUS_TEC c) 0).set (R.CAN_STATUS_REC c) 0).setCan c { d.canSt c with recover := false }
  else d

/-- CLR_CNT (R363). -/
def Dev.canClrCnt (d : Dev) (c : Nat) : Dev :=
  d.clear [R.CAN_CNT_TX_OK c, R.CAN_CNT_RX_OK c, R.CAN_CNT_ARB_LOST c, R.CAN_CNT_ERR_FRAMES c, R.CAN_CNT_BUS_OFF_CNT c,
    R.CAN_CNT_RX_NO_MATCH c, R.CAN_CNT_RX_OVERWRITE c, R.CAN_CNT_RX_LOST c, R.CAN_CNT_RX_TOO_LONG c, R.CAN_CNT_FLT_FAULT c]

/-- A write of `CAN_CTRL[c]` (R360). -/
def Dev.canCtrlWrite (d : Dev) (w : Writer) (c v : Nat) : Dev :=
  let d1 := (((((d.set (R.CAN_CTRL_FLT_SEL c) (bits v 9 1)).set (R.CAN_CTRL_TMS c) (bits v 8 1)).set (R.CAN_CTRL_XL_ES_DIS c)
    (bits v 7 1)).set (R.CAN_CTRL_PEX c) (bits v 6 1)).set (R.CAN_CTRL_AUTO_RECOVER c) (bits v 4 1)).set (R.CAN_CTRL_TX_ORDER c) (bits v 3 1)
  let d2 := d1.canModeWrite w c (bits v 0 3)
  let d3 := if v.testBit 5 then d2.canRecover c else d2
  let d4 := if v.testBit 10 then d3.canClrCnt c else d3
  d4.rsvIf (v / 2 ^ 11 != 0) w (0x90000 + c * 0x2000)

/-- Whether R336 locks the register at an offset of controller `c`'s window. -/
def Dev.canLocked (d : Dev) (c off : Nat) : Bool :=
  d.canMode c != 0 && ([0x08, 0x0C, 0x10, 0x14, 0x18, 0x1C, 0x30, 0x34].contains off ||
    off == 0x20 + 8 * d.get (R.CAN_CTRL_FLT_SEL c) || off == 0x24 + 8 * d.get (R.CAN_CTRL_FLT_SEL c))

/-- A write of a register without behaviour of its own, under the lock of R336. -/
def Dev.canRegWrite (d : Dev) (w : Writer) (c off v : Nat) : Dev :=
  let a := 0x90000 + c * 0x2000 + off
  if d.canLocked c off then (d.set (R.CAN_STATUS_CFG_ERR c) 2).canCfgRej c
  else
    let r := d.wordWrite a v
    r.1.rsvIf r.2 w a

/-! ### Transmit buffers (R341 to R346) -/

/-- The data lengths of a format (R330, R331). -/
def canLenOk (fmt len : Nat) : Bool :=
  match fmt with
  | 0 => decide (len ≤ 8)
  | 1 => decide (len ≤ 8) || [12, 16, 20, 24, 32, 48, 64].contains len
  | _ => decide (1 ≤ len) && decide (len ≤ 2048)

/-- Whether the record of transmit buffer `n` is valid (R343, R339, R341, R331). -/
def Dev.txbValid (d : Dev) (c n : Nat) : Bool :=
  let id := d.get (R.TXB_ID c n)
  let lw := d.get (R.TXB_LEN c n)
  let mw := d.get (R.TXB_META c n)
  let fmt := id / 2 ^ 30
  let flags := bits lw 16 8
  (fmt == 0 || (fmt == 1 && d.on (R.CAN_CFG_FD_EN c)) || (fmt == 2 && d.on (R.CAN_CFG_XL_EN c))) &&
  (id.testBit 29 || bits id 11 18 == 0) && !(fmt == 2 && id.testBit 29) &&
  bits lw 12 4 == 0 && canLenOk fmt (bits lw 0 12) && bits flags 5 3 == 0 && bits mw 8 8 == 0 &&
  (fmt == 0 || !flags.testBit 0) && (fmt == 1 || !flags.testBit 1) &&
  (fmt == 2 || (bits flags 3 2 == 0 && bits lw 24 8 == 0 && d.get (R.TXB_AF c n) == 0 && bits mw 0 8 == 0))

/-- REQ of a transmit buffer (R343, R344). -/
def Dev.txbReq (d : Dev) (c n : Nat) : Dev :=
  if d.txb c n = 1 ∨ d.txb c n = 2 then d
  else
    let d1 := d.set (R.TXB_STATUS_ATTEMPTS c n) 0
    if d.txbValid c n then d1.set (R.TXB_STATUS_STATE c n) 1 else d1.txbFail c n 6

/-- ABORT of a transmit buffer (R343, R344). -/
def Dev.txbAbort (d : Dev) (c n : Nat) : Dev :=
  match d.txb c n with
  | 1 => d.txbFail c n 4
  | 2 => d.setCan c { d.canSt c with aborts := n :: (d.canSt c).aborts }
  | _ => d

/-- A write of `TXB_CTRL[c][n]` (R364). -/
def Dev.txbCtrlWrite (d : Dev) (w : Writer) (c n v : Nat) : Dev :=
  let d1 := d.set (R.TXB_CTRL_SINGLE_SHOT c n) (bits v 2 1)
  let d2 := if v.testBit 0 then d1.txbReq c n else d1
  let d3 := if v.testBit 1 then d2.txbAbort c n else d2
  d3.rsvIf (v / 8 != 0) w (0x90418 + c * 0x2000 + n * 0x20)

/-- Whether writes to the record and data of a buffer are dropped (R344). -/
def Dev.txbBusy (d : Dev) (c n : Nat) : Bool := d.txb c n == 1 || d.txb c n == 2

/-- A write of a record word of a buffer (R344, R364). -/
def Dev.txbRecWrite (d : Dev) (w : Writer) (c n off v : Nat) : Dev :=
  if d.txbBusy c n then d.canCfgRej c else
  let a := 0x90400 + c * 0x2000 + n * 0x20 + off
  let r := d.wordWrite a v
  r.1.rsvIf r.2 w a

/-- The address of the data of a transmit buffer. -/
def txbData (c n : Nat) : Nat := bar0Mem (0x90800 + c * 0x2000 + n * 0x800)

/-- The frame in transmit buffer `n`, ESI by the controller's error state in the formats that have it (R341). -/
def txbFrame (m : List Host.Cell) (d : Dev) (c n : Nat) : CanFrame :=
  let id := d.get (R.TXB_ID c n)
  let lw := d.get (R.TXB_LEN c n)
  let esi := if d.get (R.CAN_STATUS_STATE c) = 1 ∧ id / 2 ^ 30 ≠ 0 then 4 else 0
  let flags := bits lw 16 2 + esi + bits lw 19 2 * 8
  { fmt := Fin.ofNat 3 (id / 2 ^ 30), ide := id.testBit 29, id := Fin.ofNat _ (id % 2 ^ 29), flags := Fin.ofNat 32 flags,
    sdt := BitVec.ofNat 8 (lw / 2 ^ 24), af := BitVec.ofNat 32 (d.get (R.TXB_AF c n)), vcid := BitVec.ofNat 8 (d.get (R.TXB_META c n)),
    len := bits lw 0 12, data := Mem.bytes m (txbData c n) (bits lw 0 12) }

/-- The bits of the arbitration field as they are sent, dominant as 0, aligned at the first bit (R345). -/
def arbValue (f : CanFrame) : Nat :=
  let rtr := f.flags.val % 2
  let rrs := f.flags.val / 16 % 2
  if f.ide then
    f.id.val / 2 ^ 18 * 2 ^ 21 + 2 ^ 20 + 2 ^ 19 + f.id.val % 2 ^ 18 * 2 + (if f.fmt = 0 then rtr else 0)
  else (f.id.val % 2 ^ 11 * 2 + (if f.fmt = 0 then rtr else if f.fmt = 2 then rrs else 0)) * 2 ^ 20

/-- The buffer that the controller sends next (R345). In buffer order one that lost arbitration stays first, until a new REQ sets its ATTEMPTS to 0. -/
def canNext (m : List Host.Cell) (d : Dev) (c : Nat) : Option Nat :=
  let pend := fun (n : Nat) => d.txb c n == 1
  if d.on (R.CAN_CTRL_TX_ORDER c) then
    let l := (d.canSt c).lastDone
    match (d.canSt c).first.filter (fun n => pend n && d.get (R.TXB_STATUS_ATTEMPTS c n) != 0) with
    | some n => some n
    | none => ([1, 2, 3].map (fun i => (l + i) % 3)).find? pend
  else
    ([0, 1, 2].filter pend).foldl (fun (a : Option Nat) n =>
      match a with
      | none => some n
      | some b => if arbValue (txbFrame m d c n) < arbValue (txbFrame m d c b) then some n else some b) none

/-- The next frame chosen and started (R345): only in a mode that sends, not while bus-off (R346). -/
def State.canTxChoice (s : State) (c : Nat) : State :=
  let d := s.dev
  let mode := d.canMode c
  if (mode ≠ 1 ∧ mode ≠ 4) ∨ 2 ≤ d.get (R.CAN_STATUS_STATE c) ∨ [0, 1, 2].any (fun n => d.txb c n == 2) then s
  else match canNext s.mem d c with
    | none => s
    | some n => s.on (fun d =>
        let d1 := (d.set (R.TXB_STATUS_STATE c n) 2).addSat (R.TXB_STATUS_ATTEMPTS c n) 1
        let d2 := d1.setCan c { d1.canSt c with aborts := (d1.canSt c).aborts.filter (fun x => x != n) }
        d2.emit (.can c (txbFrame s.mem d c n)))

/-! ### Timestamps (R339, R340) -/

/-- TS_NS with TS_FRAC, and TS_META, of the start of frame `ago` units of 250 ps before now. -/
def Dev.canStamp (d : Dev) (c ago : Nat) : Nat × Nat :=
  let n := d.get (R.CAN_CFG_TB c)
  let v := (d.tb n).val - ago * (d.tb n).incr / 8
  ((v / 2 ^ 32 % 2 ^ 32) + (v / 2 ^ 16 % 2 ^ 16) * 2 ^ 32, n + d.get (R.TB_STATUS_STEP_GEN n) * 16)

/-! ### Acceptance filtering (R347 to R352) -/

/-- A filter entry from its 16 bytes (R348): whether a 0-field is not 0; TYPE; IDE; ID1; ID2; VCID_EN; FMTS; VCID; BUF. -/
structure FltEntry where
  bad  : Bool
  type : Nat
  ide  : Bool
  id1  : Nat
  id2  : Nat
  vcidEn : Bool
  fmts : Nat
  vcid : Nat
  buf  : Nat

/-- A filter entry decoded. -/
def fltEntry (l : List Byte) : FltEntry :=
  let w := fun (i : Nat) => leNat (slice l (4 * i) 4)
  { bad := w 1 / 2 ^ 29 != 0 || w 2 / 2 ^ 28 != 0 || bits (w 2) 12 4 != 0 || w 3 != 0,
    type := w 0 / 2 ^ 30, ide := (w 0).testBit 29, id1 := w 0 % 2 ^ 29, id2 := w 1 % 2 ^ 29,
    vcidEn := (w 2).testBit 27, fmts := bits (w 2) 24 3, vcid := bits (w 2) 16 8, buf := bits (w 2) 0 12 }

/-- Whether an entry matches a frame (R349). -/
def fltMatches (e : FltEntry) (f : CanFrame) : Bool :=
  let id := f.id.val
  e.fmts.testBit f.fmt.val && e.ide == f.ide && (!e.vcidEn || e.vcid == f.vcid.toNat) &&
  (match e.type with
   | 1 => decide (e.id1 ≤ id) && decide (id ≤ e.id2)
   | 2 => id == e.id1 || id == e.id2
   | 3 => (id &&& e.id2) == (e.id1 &&& e.id2)
   | _ => false)

/-- How a walk ends (R349, R350). -/
inductive Walk where
  | take (buf index : Nat)
  | noMatch
  | fault
deriving DecidableEq, Repr

/-- The walk over the entries from `i`, `left` of them (R349 to R351). -/
def canWalk (m : List Host.Cell) (c base : Nat) (f : CanFrame) : Nat → Nat → Dev → Walk × Dev
  | 0, _, d => (.noMatch, d)
  | left + 1, i, d =>
    let a := base + 16 * i
    let q := Req.sys (d.get (R.CAN_CFG_AGENT c))
    let r := orchRead m d q a 16
    let e := fltEntry r.1
    if d.bankRefuses (a / 0x80000) q ≠ 0 ∨ d.eccAt a = some .ue ∨ d.eccAt (a + 8) = some .ue ∨ e.bad = true ∨
        d.get (R.CAN_RXB_COUNT c) ≤ e.buf then (.fault, r.2)
    else if fltMatches e f then (.take e.buf i, r.2)
    else canWalk m c base f left (i + 1) r.2

/-- The data bytes that a receive slot holds (R353). -/
def slotData (k : Nat) : Nat := match k with | 0 => 8 | 1 => 64 | _ => 2048

/-- A successful reception lowers the receive error counter (R356; ISO 11898-1, log entry 16). -/
def Dev.canRxGood (d : Dev) (c : Nat) : Dev :=
  let r := d.get (R.CAN_STATUS_REC c)
  let d1 := if 128 ≤ r then (let v := d.freeVal; v.2.set (R.CAN_STATUS_REC c) (119 + v.1 % 9)) else d.set (R.CAN_STATUS_REC c) (r - 1)
  if d1.get (R.CAN_STATUS_STATE c) = 1 ∧ d1.get (R.CAN_STATUS_TEC c) < 128 ∧ d1.get (R.CAN_STATUS_REC c) < 128 then
    d1.set (R.CAN_STATUS_STATE c) 0 else d1

/-- A frame whose arbitration field has been received (R347 to R352). -/
def State.canStage (s : State) (c : Nat) (f : CanFrame) (ago : Nat) : State :=
  let d := s.dev
  if 4 ≤ (d.canSt c).staged.length then s.on (fun d => (d.inc (R.CAN_CNT_RX_LOST c)).canCause c (R.CAN_EVT_RX_LOST c) 8)
  else
    let l := d.get (R.CAN_CTRL_FLT_SEL c)
    let r := canWalk s.mem c (d.get (R.CAN_FLT_BASE c l) * 16) f (d.get (R.CAN_FLT_COUNT c l)) 0 d
    let d1 := r.2
    match r.1 with
    | .noMatch => { s with dev := (d1.inc (R.CAN_CNT_RX_NO_MATCH c)).canRxGood c }
    | .fault => { s with dev := ((d1.inc (R.CAN_CNT_FLT_FAULT c)).canCause c (R.CAN_EVT_FLT_FAULT c) 9).canRxGood c }
    | .take b i =>
      if slotData (d.get (R.CAN_CFG_RXB_SLOT c)) < f.len then { s with dev := (d1.inc (R.CAN_CNT_RX_TOO_LONG c)).canRxGood c }
      else
        let t := d.canStamp c ago
        { s with dev := d1.setCan c { d1.canSt c with
            staged := (d1.canSt c).staged ++ [{ frame := f, buf := b, index := i, ts := t.1, tag := t.2 }] } }

/-- A bus error counted (R356): the frame count and LEC. -/
def Dev.canErrBase (d : Dev) (c kind : Nat) : Dev := (d.inc (R.CAN_CNT_ERR_FRAMES c)).set (R.CAN_STATUS_LEC c) kind

/-- The thresholds of R356 after the counters moved from old values. -/
def Dev.canThresholds (d : Dev) (c oldT oldR t r : Nat) : Dev :=
  let d1 := if (oldT < 96 ∧ 96 ≤ t) ∨ (oldR < 96 ∧ 96 ≤ r) then d.canCause c (R.CAN_EVT_ERR_WARN c) 3 else d
  let d2 := if (oldT < 128 ∧ 128 ≤ t) ∨ (oldR < 128 ∧ 128 ≤ r) then d1.canCause c (R.CAN_EVT_ERR_PASSIVE c) 4 else d1
  if 255 < t then
    let v := d2.freeVal
    (((v.2.set (R.CAN_STATUS_TEC c) v.1).set (R.CAN_STATUS_STATE c) 2).inc (R.CAN_CNT_BUS_OFF_CNT c)).canCause c (R.CAN_EVT_BUS_OFF c) 5
  else if 128 ≤ t ∨ 128 ≤ r then d2.set (R.CAN_STATUS_STATE c) 1
  else d2

/-- A bus error (R356): a transmitter adds 8 to TEC, a receiver 1, or 8 when `heavy`, to REC (ISO 11898-1, log entry 16). An error
inside a frame drops the frame that was being received. -/
def Dev.canError (d : Dev) (c kind : Nat) (transmitter heavy inFrame : Bool) : Dev :=
  if d.canMode c = 0 ∨ d.get (R.CAN_STATUS_STATE c) = 2 then d else
  let t := d.get (R.CAN_STATUS_TEC c)
  let r := d.get (R.CAN_STATUS_REC c)
  let d0 := d.canErrBase c kind
  let d1 := if inFrame then d0.setCan c { d0.canSt c with staged := (d0.canSt c).staged.dropLast } else d0
  if transmitter then (d1.set (R.CAN_STATUS_TEC c) (min 255 (t + 8))).canThresholds c t r (t + 8) r
  else
    let r' := min 255 (r + (if heavy then 8 else 1))
    (d1.set (R.CAN_STATUS_REC c) r').canThresholds c t r t r'

/-- Whether the format of a frame is enabled (R330). -/
def Dev.canFmtOn (d : Dev) (c fmt : Nat) : Bool :=
  fmt == 0 || (fmt == 1 && d.on (R.CAN_CFG_FD_EN c)) || (fmt == 2 && d.on (R.CAN_CFG_XL_EN c))

/-- A Classical frame with DLC 9 to 15 has 8 data bytes (R331). -/
def clipClassical (f : CanFrame) : CanFrame :=
  let n := if f.fmt = 0 then min 8 f.len else min 2048 f.len
  { f with len := n, data := slice f.data 0 (if f.fmt = 0 ∧ f.flags.val % 2 = 1 then 0 else n) }

/-- A frame from the bus (R332, R333, R349). -/
def State.canReceive (s : State) (c : Nat) (f : CanFrame) (ago : Nat) : State :=
  let d := s.dev
  let mode := d.canMode c
  if mode = 0 ∨ mode = 4 ∨ 2 ≤ d.get (R.CAN_STATUS_STATE c) then s
  else if !d.canFmtOn c f.fmt.val then
    (if d.on (R.CAN_CTRL_PEX c) then s else s.on (fun d => d.canError c 2 false false false))
  else s.canStage c (clipClassical f) ago

/-- The 24-byte record of a received frame (R339). -/
def canRecord (x : CanStaged) : List Byte :=
  let f := x.frame
  leBytes 4 (f.fmt.val * 2 ^ 30 + (if f.ide then 2 ^ 29 else 0) + f.id.val) ++ leBytes 2 f.len ++ [BitVec.ofNat 8 f.flags.val, f.sdt] ++
  leBytes 4 f.af.toNat ++ [f.vcid, 0] ++ leBytes 2 x.index ++ leBytes 4 (x.ts % 2 ^ 32) ++ leBytes 2 (x.ts / 2 ^ 32) ++
  [BitVec.ofNat 8 x.tag, 0]

/-- The end of the oldest staged frame: its three writes (R354). -/
def State.canStore (s : State) (c : Nat) : State :=
  match (s.dev.canSt c).staged with
  | [] => s
  | x :: rest =>
    let d := s.dev.setCan c { s.dev.canSt c with staged := rest }
    let q := Req.sys (d.get (R.CAN_CFG_AGENT c))
    let a := d.get (R.CAN_RXB_BASE c) * 8 + x.buf * slotBytes (d.get (R.CAN_CFG_RXB_SLOT c))
    let r := orchRead s.mem d q a 8
    let st := r.1.getD 0 0
    let sq := r.1.getD 1 0
    let isNew := st.getLsbD 0
    let s1 := ({ s with dev := r.2 }).orchWrite q a [st &&& 3, sq + 1, 0, 0, 0, 0, 0, 0]
    let s2 := s1.orchStore q (a + 8) (canRecord x ++ x.frame.data)
    let s3 := s2.orchWrite q a [if isNew then 3 else 1, sq + 2, 0, 0, 0, 0, 0, 0]
    let s4 := if isNew then s3.on (fun d => (d.inc (R.CAN_CNT_RX_OVERWRITE c)).canCause c (R.CAN_EVT_RX_OVERWRITE c) 7) else s3
    s4.on (fun d => (((d.inc (R.CAN_CNT_RX_OK c)).canCause c (R.CAN_EVT_RX c) 6)).canRxGood c)

/-! ### The end of a transmission (R343, R344) -/

/-- A buffer reaches DONE (R343): the timestamp is written back, TEC falls (ISO 11898-1, log entry 16). -/
def Dev.txbDone (d : Dev) (c n ago tdcv : Nat) : Dev :=
  let t := d.canStamp c ago
  let d1 := ((d.set (R.TXB_STATUS_STATE c n) 3).set (R.TXB_TS c n) (t.1 + t.2 * 2 ^ 48)).setCan c
    { d.canSt c with lastDone := n, aborts := [], first := none }
  let d2 := if d.on (R.CAN_TDC_TDC_EN c) && d.get (R.TXB_ID c n) / 2 ^ 30 != 0 then d1.set (R.CAN_TDC_TDCV c) (min 127 tdcv) else d1
  let d3 := d2.set (R.CAN_STATUS_TEC c) (d.get (R.CAN_STATUS_TEC c) - 1)
  let d4 := if d3.get (R.CAN_STATUS_STATE c) = 1 ∧ d3.get (R.CAN_STATUS_TEC c) < 128 ∧ d3.get (R.CAN_STATUS_REC c) < 128 then
    d3.set (R.CAN_STATUS_STATE c) 0 else d3
  (d4.inc (R.CAN_CNT_TX_OK c)).canCause c (R.CAN_EVT_TX_DONE c) 1

/-- A frame that lost arbitration or met an error (R343). -/
def Dev.txbMissed (d : Dev) (c n : Nat) (lost : Bool) : Dev :=
  let d1 := (if lost then d.inc (R.CAN_CNT_ARB_LOST c) else d).setCan c { d.canSt c with aborts := [], first := if lost then some n else none }
  if (d.canSt c).aborts.contains n then d1.txbFail c n 4
  else if d.on (R.TXB_CTRL_SINGLE_SHOT c n) then d1.txbFail c n 5
  else d1.set (R.TXB_STATUS_STATE c n) 1

/-- The transmission of the ACTIVE buffer ends (R343); in LOOPBACK the frame returns to the receiver (R333). -/
def State.canTxEnd (s : State) (c : Nat) (result : CanEnd) (ago tdcv : Nat) : State :=
  match [0, 1, 2].find? (fun n => s.dev.txb c n == 2) with
  | none => s
  | some n =>
    match result with
    | .ok =>
      let s1 := s.on (fun d => d.txbDone c n ago tdcv)
      if s.dev.canMode c = 4 then s1.canStage c (txbFrame s.mem s.dev c n) ago else s1
    | .lost => s.on (fun d => d.txbMissed c n true)
    | .error => s.on (fun d => d.txbMissed c n false)

end Sys2Proof.Machine
end

