-- ==== Sys2Proof/Machine/Reset.lean ====
section
/-! DEFINITION. The resets of the device (R7, R702 to R705, R718): the reset with the scope of power-on and the warm reset, as each
chapter states them (R103, R106, R107, R151, R199, R202, R262, R321, R358, R376, R411, R454, R485, R486, R515, R524, R555, R575, R650). -/

namespace Sys2Proof.Machine
open Sys2Proof

/-- Whether a field lies in the battery domain (R103). -/
def rtcKey (key : Nat) : Bool := rtcFields.any (fun f => f.key == key)

/-- Whether a field shows something that MRAM or a fuse holds (R655, R686, R710). -/
def mramKey (key : Nat) : Bool :=
  [R.SEC_STATUS_LIFECYCLE, R.SEC_STATUS_CUST_ROOT, R.SEC_STATUS_FLOOR, R.SEC_SIG_LEFT, R.SYS_ID_ORDERING].any (fun f => f.key == key)

/-- Whether a field lies in block 0xE (R650). -/
def blockEKey (key : Nat) : Bool := decide (0xE0000 ≤ key / 32) && decide (key / 32 < 0xF0000)

/-- A bit of `SYS_RESET_CAUSE` added (R705). -/
def Dev.addCause (d : Dev) (b : Nat) : Dev := d.set R.SYS_RESET_CAUSE (d.get R.SYS_RESET_CAUSE ||| 2 ^ b)

/-- What chapter 16 keeps in MRAM (R655): all but the session, the active configuration and what the Bridle and Pip loaded. -/
def UpdSt_kept (u : UpdSt) : UpdSt :=
  { journal := u.journal, serial := u.serial, cert := u.cert, root := u.root, hasKey := u.hasKey, record := u.record }

/-- The calendar clock's part of chapter 2 (R103). -/
def TimeSt_rtc (t : TimeSt) : TimeSt := { rtcPend := t.rtcPend, rtcAcc := t.rtcAcc }

/-- The memories after a reset with the scope of power-on: MRAM alone keeps its contents (R485, R627, R655). -/
def Mem.mramOnly (m : List Host.Cell) : List Host.Cell := m.filter (fun c => decide (mramBase ≤ c.1) && decide (c.1 < 0x3800000))

/-- Everything outside the battery domain resets (R703); `sleep` keeps block 0xE (R646), and `bit` is the cause of a reset other than
POR_N, which adds to the earlier bits (R705). -/
def State.powerReset (s : State) (sleep : Bool) (bit : Option Nat) : State :=
  let d := s.dev
  let keep := fun (k : Nat) => rtcKey k || mramKey k || (sleep && blockEKey k) || (bit.isSome && k == R.SYS_RESET_CAUSE.key)
  let d1 : Dev := { regs := d.regs.filter (fun e => keep e.1), now := d.now, free := d.free, out := d.out,
                    time := TimeSt_rtc d.time, io := { ext := d.io.ext }, fab := { resetAt := d.now }, upd := UpdSt_kept d.upd,
                    pwr := if sleep then { d.pwr with moves := [], dozeWake := [], outbox := [], asleep := false, watch := d.on R.SLP_CFG_WATCH_EN && d.on R.SLP_CFG_WATCH_MODE } else { nets := (List.range 9).map (fun k => (k, { since := d.now })) },
                    sys := { lost := d.sys.lost, porAt := d.now, test := d.sys.test },
                    tap := { tck := d.tap.tck, tms := d.tap.tms, tdi := d.tap.tdi, trstN := d.tap.trstN, seen := d.tap.tck } }
  let d2 := match bit with | some b => d1.addCause b | none => d1
  { s with dev := d2.emit (.reset false), mem := Mem.mramOnly s.mem }

/-- The banks after WARM_N (R486): a bank in OFF stays OFF. -/
def Dev.warmBanks (d : Dev) (old : Dev) : Dev :=
  (List.range 64).foldl (fun (a : Dev) n => if old.get (R.BANK_POWER_STATE n) = 2 then a.set (R.BANK_POWER_STATE n) 2 else a) d

/-- The engines after WARM_N are IDLE (R411), or OFF with their domain (R382). -/
def Dev.warmEngines (d : Dev) : Dev :=
  (List.range 48).foldl (fun (a : Dev) e => if a.get (R.PWR_DOMAIN_STATE (3 + e / 12)) = 0 then a.set (R.ENG_STATUS_STATE e) 0 else a) d

/-- WARM_N, or RESET with WARM (R704), with its cause bit. -/
def State.warmReset (s : State) (bit : Nat) : State :=
  let d := s.dev
  let d1 : Dev := { regs := d.regs.filter (fun e => keepKey e.1 || rtcKey e.1), now := d.now, free := d.free, out := d.out,
                    time := { TimeSt_rtc d.time with tbs := d.time.tbs.map (fun e => (e.1, { e.2 with setPend := none })) },
                    orch := { ecc := d.orch.ecc, walk := d.orch.walk }, io := { ext := d.io.ext }, fab := { resetAt := d.now },
                    host := { record := d.host.record }, upd := UpdSt_kept d.upd, pwr := d.pwr,
                    sys := { lost := d.sys.lost, porAt := d.sys.porAt, cold := false, test := d.sys.test, stopped := d.sys.stopped, hot := d.sys.hot },
                    tap := d.tap }
  let d2 := ((d1.warmBanks d).warmEngines).set R.OWN_TIMEOUT d.host.record.ownTimeout
  { s with dev := (d2.addCause bit).emit (.reset false), mem := Mem.clearRange s.mem (bar0Mem 0x20000) 0x10000 }

/-- Whether the device is held in reset or shut down (R678, R698, R702, R718). -/
def Dev.isHeld (d : Dev) : Bool := d.sys.stopped || d.sys.test || d.sys.hot || d.sys.lost.contains 1

/-- Whether CORE has power and runs: the device is neither held nor in network sleep (R636). -/
def Dev.coreOn (d : Dev) : Bool := !d.isHeld && !d.pwr.asleep

end Sys2Proof.Machine
end

