-- ==== Sys2Proof/Machine/Ride.lean ====
section
/-! DEFINITION. Ride-through paths and the ride window (chapter 5, R254 to R259; chapter 8, R400, R401). -/

namespace Sys2Proof.Machine
open Sys2Proof

/-- The ingress port of the EDIT path of team `t` (R254). -/
def Dev.editPort (d : Dev) (t : Nat) : Option Nat :=
  ([16, 17, 18, 19, 20, 21, 22, 23].find? (fun p => d.get (R.RIDE_CFG_MODE p) == 1 && d.get (R.RIDE_CFG_TEAM p) == t))

/-- RIDE_MARK_AT of team `t`; its reset value is 15 (R400). -/
def Dev.rideMarkAt (d : Dev) (t : Nat) : Nat := d.net.rideMark.getD t 15

/-- The lowest index not yet taken that window offset `o` names (R256); `taken` bytes are gone. -/
def nextIndex (taken o : Nat) : Nat := taken + (o + 256 - taken % 256) % 256

/-- A read of window offset `o` (R256): the byte most recently received there, or its pending edit; 0 when none has been
received. -/
def Dev.windowRead (d : Dev) (p o : Nat) : Nat :=
  let rx := match d.ride p with | some x => x.rx | none => []
  let n := rx.length
  let edit := if n ≤ o then none else Tab.find? (d.edits p) (o + (n - 1 - o) / 256 * 256)
  ((edit.or (Tab.find? d.net.window (p * 256 + o))).getD 0).toNat

/-- Bytes received on the path of port `p` from index `i` on become readable in its window (R256). -/
def Dev.windowFill (d : Dev) (p i : Nat) (bs : List Byte) : Dev :=
  d.withNet (fun n => { n with window := ((List.range bs.length).zip bs).foldl (fun (t : Tab Byte) x => t.put (p * 256 + (i + x.1) % 256) x.2) n.window })

/-- A write of one byte at window offset `o` (R256, R258): late when the byte lies past the end that the frame has declared. -/
def Dev.windowWrite (d : Dev) (p o b : Nat) : Dev :=
  let taken := match d.ride p with | some x => x.tx.length | none => 0
  let i := nextIndex taken o
  let past := match d.ride p with
    | some x => (match x.len with | some l => decide (l ≤ i) | none => false)
    | none => false
  if past then d.rideLate p else d.setEdits p ((d.edits p).put i (BitVec.ofNat 8 b))

/-- RIDE_POS of the path of port `p` (R400). -/
def Dev.ridePos (d : Dev) (p : Nat) : Nat :=
  match d.ride p with
  | some x => 2 ^ 16 + x.rx.length % 2 ^ 14
  | none => 0

/-- A store to RIDE_LEN (R257, R400): in force when byte L − 4 has not been taken. -/
def Dev.rideLen (d : Dev) (e v : Nat) : Dev :=
  match d.editPort (e / 4) with
  | none => d
  | some p =>
    match d.ride p with
    | some x => if x.tx.length + 4 ≤ v % 2 ^ 14 then d.setRide p { x with len := some (v % 2 ^ 14) } else d
    | none => d

/-- The byte that is sent as index `i` (R256, R257): the FCS at the declared end, else an edit, else the byte received. -/
def rideByte (x : Ride) (edits : Tab Byte) (i : Nat) : Byte :=
  let own := (Tab.find? edits i).getD (x.rx.getD i 0)
  match x.len with
  | some l =>
    if l ≤ i + 4 ∧ i < l then
      let b := (fcsBytes (x.tx.take (l - 4))).getD (i + 4 - l) 0
      if i + 1 = l ∧ fcsGood (x.rx.take l) = false then ~~~ b else b
    else own
  | none => own

/-- Bytes taken for transmission (R255): at most `n`, and no more than were received. -/
def rideTake (x : Ride) (edits : Tab Byte) : Nat → Ride
  | 0 => x
  | n + 1 =>
    if x.rx.length ≤ x.tx.length then x else rideTake { x with tx := x.tx ++ [rideByte x edits x.tx.length] } edits n

/-- The event lines of the team as bytes become readable (R394, R400). -/
def Dev.rideLines (d : Dev) (p old new : Nat) : Dev :=
  if d.get (R.RIDE_CFG_MODE p) ≠ 1 then d else
  let t := d.get (R.RIDE_CFG_TEAM p)
  let d1 := if old = 0 ∧ 0 < new then d.teamLine t 6 else d
  if old ≤ d.rideMarkAt t ∧ d.rideMarkAt t < new then d1.teamLine t 7 else d1

/-- The receive record of a ride frame (R89, R259): the time base is that of the whole frame. -/
def Dev.rideRec (d : Dev) (p : Nat) (x : Ride) : TsRec :=
  let n := d.stampBase p x.rx
  if d.on (R.TS_PORT_CFG_RX_EN p) then d.tsRec n (adjust (x.point.stamps.getD n 0) (d.get (R.TS_PORT_ADJ_RX_ADJ p))) p else {}

/-- Bytes of a frame pass on the path of ingress port `p` (R255 to R259): they become readable, then `take` bytes are taken; `err`: a receive
error meets the first of them; `last` ends the frame, and all of it is taken. The first bytes of a frame carry its timestamp point at `phase`. -/
def State.rideFrame (s : State) (p : Nat) (bytes : List Byte) (take : Nat) (last err : Bool) (phase : Nat) : State :=
  let d := s.dev
  let mode := d.get (R.RIDE_CFG_MODE p)
  if p < 16 ∨ 24 ≤ p ∨ mode = 0 ∨ mode = 3 ∨ d.linkUp p = false then s else
  let x0 : Ride := match d.ride p with
    | some x => x
    | none => { point := d.rxPoint phase }
  let n := x0.rx.length
  let x1 := { x0 with rx := x0.rx ++ bytes, badAt := if err then x0.badAt.or (some n) else x0.badAt }
  let x2 := rideTake x1 (d.edits p) (if last then x1.rx.length else take)
  let d1 := (((d.windowFill p n bytes).setRide p x2).setEdits p ((d.edits p).filter (fun e => decide (x2.tx.length ≤ e.1)))).rideLines p n x1.rx.length
  if !last then { s with dev := d1 }
  else
    let trunc := decide (d.get (R.MAX_FRAME p) < x2.rx.length)
    let d2 := if trunc then (d1.inc (R.PORT_CNT_RX_TRUNC p)).portCause p (R.PORT_EVT_RX_ERR p) 1 else d1
    let s1 : State := { s with dev := d2.rideFinish p false }
    if mode = 1 then
      let t := d.get (R.RIDE_CFG_TEAM p)
      s1.ringStore (t * 4 + d.get (R.TEAM_CFG2_RIDE_ENG t)) { src := p, dst := 26 + t, cls := 0, bytes := x2.rx, tsRec := d1.rideRec p x2 } true
    else s1

end Sys2Proof.Machine
end

