-- ==== Sys2Proof/Machine/Power.lean ====
section
/-! DEFINITION. Power domains and network sleep (chapter 15): the domains and DOZE, the consent rounds of the sleep networks, COMMIT and
sleep entry, wake requests and the wake, the transceiver sleep pins and the sleep-watch. -/

namespace Sys2Proof.Machine
open Sys2Proof

/-! ### Events and pins (R648, R649) -/

/-- The power part of the state changed. -/
def Dev.withPwr (d : Dev) (f : PwrSt → PwrSt) : Dev := { d with pwr := f d.pwr }

/-- A cause of `SLP_EVT` bit `b` raises EV232 + b (R649). -/
def Dev.slpEvent (d : Dev) (b : Nat) : Dev :=
  let d1 := d.set R.SLP_EVT (d.get R.SLP_EVT ||| 2 ^ b)
  if (d.get R.SLP_EVT_EN).testBit b then d1.raise (232 + b) else d1

/-- The state of sleep network `k` (R635). -/
def Dev.netState (d : Dev) (k : Nat) : Nat := d.get (R.SLP_NET_STATUS_STATE k)

/-- Whether network `k` takes part. -/
def Dev.netOn (d : Dev) (k : Nat) : Bool := d.on (R.SLP_NET_CFG_EN k)

/-- Whether TRX_SLPn_N is asserted (R647, R648): SRC 1 names a CAN controller, whose network is INDEX + 1. A serial channel and an
RGMII port belong to no sleep network. -/
def Dev.trxOn (d : Dev) (n : Nat) : Bool :=
  let src := d.get (R.TRX_SLP_CFG_SRC n)
  src == 4 || d.pwr.asleep || (src != 0 && (d.pwr.failsafe || d.sys.hot)) ||
  (src == 1 && d.netState (d.get (R.TRX_SLP_CFG_INDEX n) + 1) == 3)

/-- The pins take the levels of R648. -/
def Dev.showTrx (d : Dev) : Dev :=
  let m := (List.range 16).foldl (fun a n => if d.trxOn n then a + 2 ^ n else a) 0
  let d1 := (List.range 16).foldl (fun (a : Dev) n => if m.testBit n != d.pwr.trx.testBit n then a.emit (.trxSleep n (m.testBit n)) else a) d
  d1.withPwr (fun p => { p with trx := m })

/-! ### Domains (R626 to R630) -/

/-- The state of a domain. -/
def Dev.domain (d : Dev) (x : Nat) : Nat := d.get (R.PWR_DOMAIN_STATE x)

/-- A domain takes a state (R627, R649). -/
def Dev.setDomain (d : Dev) (x st : Nat) : Dev :=
  if d.domain x = st then d else (d.set (R.PWR_DOMAIN_STATE x) st).slpEvent 0

/-- A transition of a domain begins (R627). -/
def Dev.moveDomain (d : Dev) (x st : Nat) : Dev := (d.setDomain x 2).withPwr (fun p => { p with moves := p.moves.put x st })

/-- The domain of a network port (R626). -/
def portDomain (p : Nat) : Nat := if p < 16 then 8 else 7

/-- Whether a domain holds an engine or port of the active configuration (R628); banks lie in CORE. -/
def Dev.domainUsed (d : Dev) (x : Nat) : Bool :=
  d.upd.active &&
  (if x < 2 then true
   else if x = 2 then (List.range 26).any (fun p => d.portMode p != 0)
   else if x < 7 then (List.range 12).any (fun i => d.get (R.ENG_CFG_MODE ((x - 3) * 12 + i)) != 0)
   else (List.range 26).any (fun p => portDomain p == x && d.portMode p != 0))

/-- Whether domain `x`, a TEAM domain, may enter DOZE (R629): the engines that the configuration uses are FREE and in WAIT, no team
has a STRIDE engine, serves an EDIT path or has a mover list running. -/
def Dev.mayDoze (d : Dev) (x : Nat) : Bool :=
  let engs := (List.range 12).map (fun i => (x - 3) * 12 + i)
  engs.all (fun e => d.get (R.ENG_CFG_MODE e) == 0 || (d.get (R.ENG_CFG_MODE e) == 2 && d.engState e == 3)) &&
  engs.all (fun e => !(d.engine e).sg.busy) &&
  (List.range 3).all (fun i => (d.editPort ((x - 3) * 3 + i)).isNone)

/-- A request for a domain (R627 to R630): 0 off, 1 on, 2 DOZE. The flag tells whether it was accepted. -/
def Dev.domainRequest (d : Dev) (x r : Nat) : Dev × Bool :=
  let d1 := d.set (R.PWR_DOMAIN_REQ x) r
  let st := d.domain x
  match r with
  | 0 =>
    if (x == 2 && (List.range 6).any (fun i => d.domain (3 + i) != 0)) || d.domainUsed x then (d.slpEvent 7, false)
    else (if st = 0 then d1 else d1.moveDomain x 0, true)
  | 1 =>
    if st = 3 then (d1.dozeWakeFor (x - 3), true)
    else if st = 1 then (d1, true)
    else
      let d2 := if x ≠ 2 ∧ d.domain 2 = 0 then (d1.set (R.PWR_DOMAIN_REQ 2) 1).moveDomain 2 1 else d1
      (d2.moveDomain x 1, true)
  | _ =>
    if st = 3 then (d1, true)
    else if st ≠ 1 ∨ d.mayDoze x = false then (d.slpEvent 7, false)
    else (d1.moveDomain x 3, true)

/-- A write of `PWR_DOMAIN[x]` (R651): REQ 3, and REQ 2 outside TEAM0 to TEAM3, are reserved; REQ of AON and CORE is read-only. -/
def Dev.domainWrite (d : Dev) (w : Writer) (x v : Nat) : Dev :=
  let off := 0xE0000 + x * 4
  let r := v % 4
  let d1 :=
    if x < 2 then d
    else if r = 3 ∨ (r = 2 ∧ (x < 3 ∨ 6 < x)) then d.rsvWrite w off
    else if r = d.get (R.PWR_DOMAIN_REQ x) ∧ (d.domain x ≠ 3 ∨ r ≠ 1) then d
    else (d.domainRequest x r).1
  d1.rsvIf (v &&& 0xFFFFFCFC != 0) w off

/-- The registers of a range of BAR0 at their reset values. -/
def Dev.resetRange (d : Dev) (lo hi : Nat) : Dev :=
  { d with regs := d.regs.filter (fun e => !(decide (lo ≤ e.1 / 32) && decide (e.1 / 32 < hi))) }

/-- The links of the ports of a domain go down (R218, R627). -/
def Dev.domainLinks (d : Dev) (x : Nat) : Dev :=
  (List.range 26).foldl (fun (a : Dev) p => if x == 2 || portDomain p == x then (if a.linkUp p then a.linkDown p 0 else a) else a) d

/-- A TEAM domain's engines without power (R382, R627). -/
def State.teamOff (s : State) (x : Nat) : State :=
  let engs := (List.range 12).map (fun i => (x - 3) * 12 + i)
  { s with dev := engs.foldl (fun (a : Dev) e => (a.setEngine e {}).set (R.ENG_STATUS_STATE e) 0) s.dev,
           mem := Mem.clearRange s.mem (engBase ((x - 3) * 12)) (12 * 0x20000) }

/-- The engines of a TEAM domain enter DOZE: the state of each is held (R629). -/
def Dev.teamDoze (d : Dev) (x : Nat) : Dev :=
  ((List.range 12).map (fun i => (x - 3) * 12 + i)).foldl (fun (a : Dev) e =>
    (a.setEngine e { a.engine e with saved := a.engState e, dozed := 0 }).set (R.ENG_STATUS_STATE e) 7) d

/-- A transition of domain `x` completes (R627 to R629). A domain that needs FABRIC comes up after it. -/
def State.domainDone (s : State) (x : Nat) : State :=
  match Tab.find? s.dev.pwr.moves x with
  | none => s
  | some st =>
    if st = 1 ∧ x ≠ 2 ∧ s.dev.domain 2 ≠ 1 then s else
    let s1 := s.on (fun d => (d.withPwr (fun p => { p with moves := p.moves.del x })).setDomain x st)
    if 3 ≤ x ∧ x < 7 then
      if st = 0 then s1.teamOff x
      else if st = 1 then
        (s1.teamOff x).on (fun d => ((List.range 12).map (fun i => (x - 3) * 12 + i)).foldl
          (fun (a : Dev) e => a.set (R.ENG_STATUS_STATE e) 1) d)
      else s1.on (fun d => d.teamDoze x)
    else if st ≠ 0 then (if x = 2 then s1.on (fun d => { d.set R.SW_STATUS_READY 1 with fab := { resetAt := d.now } }) else s1)
    else if x = 2 then
      s1.on (fun d => { ((d.domainLinks 2).resetRange 0xC0000 0xDE800) with fab := { resetAt := d.now }, net := {} })
    else s1.on (fun d => d.domainLinks x)

/-- TEAM domain `t` returns from DOZE (R572, R630): each engine resumes in the state it held, the lines asserted meanwhile are latched,
and the doorbells that waited ring. -/
def Dev.dozeWake (d : Dev) (t : Nat) : Dev :=
  if !d.pwr.dozeWake.contains t then d else
  let d0 := d.withPwr (fun p => { p with dozeWake := p.dozeWake.filter (fun x => x != t) })
  if d.domain (3 + t) ≠ 3 then d0 else
  let d1 := ((d0.setDomain (3 + t) 1).set (R.PWR_DOMAIN_REQ (3 + t)) 1).withPwr (fun p => { p with dozeWake := p.dozeWake.filter (fun x => x != t) })
  let d2 := ((List.range 12).map (fun i => t * 12 + i)).foldl (fun (a : Dev) e =>
    let x := a.engine e
    (a.setEngine e { x with evPend := x.evPend ||| x.dozed, dozed := 0 }).set (R.ENG_STATUS_STATE e) x.saved) d1
  ((List.range 14).map (fun i => i + 2)).foldl (fun (a : Dev) n =>
    if a.on (R.MB_STATUS_WAKING n 0) && a.get (R.MB_CFG_ENGINE n) / 12 == t then
      let x := a.host.mbs.getD (2 * n) {}
      let b := { (a.set (R.MB_STATUS_WAKING n 0) 0) with host := { a.host with mbs := a.host.mbs.put (2 * n) { x with waits := false } } }
      if x.waits then b.latchLine (a.get (R.MB_CFG_ENGINE n)) (a.get (R.MB_CFG_LINE n)) else b
    else a) d2

/-! ### The sleep networks (R635 to R643) -/

/-- Sleep network `k`. -/
def Dev.sleepNet (d : Dev) (k : Nat) : SleepNet := d.pwr.nets.getD k {}

/-- The device with sleep network `k` changed. -/
def Dev.setNet (d : Dev) (k : Nat) (x : SleepNet) : Dev := d.withPwr (fun p => { p with nets := p.nets.put k x })

/-- STATE of network `k` takes a value (R635, R649); the pins follow. -/
def Dev.setNetState (d : Dev) (k st : Nat) : Dev :=
  if d.netState k = st then d else
  let d1 := d.set (R.SLP_NET_STATUS_STATE k) st
  let d2 := if d.netState k = 3 then (d1.setNet k { d1.sleepNet k with since := d1.now }).slpEvent 3 else d1
  d2.showTrx

/-- The node's own name in network `k`: its node ID, or its ring position (R639, R641). -/
def Dev.sleepId (d : Dev) (k : Nat) : Nat := if k = 0 then d.get R.HN_CTRL_NODE_ID else d.get (R.SLP_NET_CFG_POS k)

/-- `SLP_AWAKE[k]` (R643). -/
def Dev.slpAwake (d : Dev) (k : Nat) : Nat := min ((d.now - (d.sleepNet k).since) / 1000000000) (2 ^ 17 - 1)

/-- The 8 bytes of a CAN sleep frame (R641). -/
def sleepBytes (m : SleepMsg) : List Byte :=
  [m.type, m.round, m.dest.setWidth 8, m.src.setWidth 8, m.cause.setWidth 8, m.flags] ++ leBytes 2 m.delay.toNat

/-- A CAN sleep frame written into TXB2 and requested (R641). -/
def State.sendSleepFrame (s : State) (k : Nat) (m : SleepMsg) : State :=
  let c := k - 1
  let id := d0 s k
  { s with dev := (((((s.dev.set (R.TXB_ID c 2) id).set (R.TXB_LEN c 2) 8).set (R.TXB_AF c 2) 0).set (R.TXB_META c 2) 0).txbReq c 2).emit (.sleepMsg k 0 m),
           mem := Mem.setBytes s.mem (txbData c 2) (sleepBytes m) }
where
  /-- The identifier word of `SLP_NET_ID[k]`. -/
  d0 (s : State) (k : Nat) : Nat := s.dev.get (R.SLP_NET_ID_ID k) + (if s.dev.on (R.SLP_NET_ID_IDE k) then 2 ^ 29 else 0)

/-- The CAN sleep frames that wait go out where TXB2 is free (R641). -/
def State.flushSleep (s : State) : State :=
  s.dev.pwr.outbox.foldl (fun (a : State) e =>
    if a.dev.txbBusy (e.1 - 1) 2 then a.on (fun d => d.withPwr (fun p => { p with outbox := p.outbox ++ [e] }))
    else a.sendSleepFrame e.1 e.2) (s.on (fun d => d.withPwr (fun p => { p with outbox := [] })))

/-- A sleep message leaves (R639, R641): a SLEEP section for a lane, or a frame for a CAN network. -/
def State.sleepSend (s : State) (k lane : Nat) (m : SleepMsg) : State :=
  if k = 0 then s.on (fun d => d.emit (.sleepMsg 0 lane m))
  else (s.on (fun d => d.withPwr (fun p => { p with outbox := p.outbox ++ [(k, m)] }))).flushSleep

/-- The round at the leader ends without COMMIT (R638): RESULT 2 refused or 3 no answer, and the node. -/
def Dev.roundEnd (d : Dev) (k result node : Nat) : Dev :=
  let d1 := (((d.set (R.SLP_NET_STATUS_RESULT k) result).set (R.SLP_NET_STATUS_NODE k) node).setNetState k 0).slpEvent 1
  d1.setNet k { d1.sleepNet k with visit := none, todo := [], token := none, tokenOut := false, forced := none }

/-- The node's answer to a TOKEN (R637, R643, R645): 0 REFUSE, 1 CONSENT, 2 forced CONSENT. -/
def Dev.verdict (d : Dev) (k : Nat) : Nat × Dev :=
  let x := d.sleepNet k
  if x.wakeReq then (0, (d.setNet k { x with wakeReq := false }).slpEvent 6)
  else if d.on (R.SLP_CONSENT_CONSENT k) then (1, d)
  else if d.get (R.SLP_MAX_AWAKE k) ≤ d.slpAwake k then (2, (d.set (R.SLP_NET_STATUS_FORCED k) 1).slpEvent 4)
  else (0, d)

/-- The answer of a node of network 0 goes to its star on the followed lane (R639). -/
def State.answerUp (s : State) (type round cause flags : Nat) : State :=
  match s.dev.followed with
  | some p => s.sleepSend 0 p { type := BitVec.ofNat 8 type, round := BitVec.ofNat 8 round, dest := BitVec.ofNat 16 (s.dev.sleepId 0),
                                cause := BitVec.ofNat 16 cause, flags := BitVec.ofNat 8 flags }
  | none => s

/-- The sleep-watch starts at COMMIT in WATCH_MODE 0 (R647). -/
def Dev.watchCommit (d : Dev) : Dev :=
  if d.on R.SLP_CFG_WATCH_EN && !d.on R.SLP_CFG_WATCH_MODE then d.withPwr (fun p => { p with watch := true }) else d

/-- COMMIT control blocks on every DOWNSTREAM lane in SYNC (R640). -/
def Dev.sendCommit (d : Dev) (entry : Nat) : Dev :=
  (d.lanesOf [3]).foldl (fun (a : Dev) p => a.emit (.hnCtl p 0x10 (d.get (R.SLP_NET_STATUS_ROUND 0) * 2 ^ 40 + entry))) d

/-- The network is committed to sleep at an entry (R640 to R642). A wake request not yet answered stays pending (R645). -/
def Dev.committed (d : Dev) (k entry : Nat) : Dev :=
  let x := d.sleepNet k
  let d1 := ((d.set (R.SLP_NET_STATUS_RESULT k) 1).setNetState k 2).slpEvent 2
  let d2 := d1.setNet k { x with visit := none, todo := [], token := none, tokenOut := false, wakeReq := false, entry := entry }
  (if x.wakeReq then d2.set (R.SLP_NET_STATUS_WAKE_PEND k) 1 else d2).watchCommit

/-- The leader, after a full round of CONSENT, sends COMMIT (R638, R640, R642, R645). The DELAY of a CAN network is stated nowhere: a
free value. -/
def State.leaderCommit (s : State) (k : Nat) : State :=
  let x := s.dev.sleepNet k
  if x.wakeReq then s.on (fun d => ((d.setNet k { x with wakeReq := false }).slpEvent 6).roundEnd k 2 (d.sleepId k))
  else
    let d1 := match x.forced with
      | some n => ((s.dev.set (R.SLP_NET_STATUS_NODE k) n).set (R.SLP_NET_STATUS_FORCED k) 1).slpEvent 4
      | none => s.dev
    if k = 0 then
      let entry := (d1.stride.last + d1.get (R.SLP_NET_CFG_DELAY 0)) % 2 ^ 40
      { s with dev := ((d1.committed 0 entry).sendCommit entry).slpEvent 1 }
    else
      let fv := d1.freeVal
      let delay := fv.1 % 65536
      ({ s with dev := (fv.2.committed k (fv.2.now + delay * 1000000)).slpEvent 1 }).sleepSend k 0
        { type := 4, round := BitVec.ofNat 8 (d1.get (R.SLP_NET_STATUS_ROUND k)), src := BitVec.ofNat 16 (d1.sleepId k), delay := BitVec.ofNat 16 delay }

/-- The next visit of network 0, or the end of the visits (R638, R639): the leader sends COMMIT, a member that is a star answers its
own star. -/
def State.visitNext (s : State) : State :=
  let x := s.dev.sleepNet 0
  match x.todo with
  | p :: rest =>
    (s.on (fun d => d.setNet 0 { x with visit := some p, todo := rest })).sleepSend 0 p
      { type := 1, round := BitVec.ofNat 8 (s.dev.get (R.SLP_NET_STATUS_ROUND 0)), dest := BitVec.ofNat 16 (s.dev.get (R.HN_LANE_STATUS_MEMBER_ID p)) }
  | [] =>
    match x.token with
    | some round =>
      (s.on (fun d => (d.setNetState 0 0).setNet 0 { x with visit := none, token := none, tokenOut := true })).answerUp 2 round
        (x.forced.getD 0) (if x.forced.isSome then 1 else 0)
    | none => s.leaderCommit 0

/-- A consent round starts at the leader (R638, R641). -/
def State.roundStart (s : State) (k : Nat) : State :=
  let round := (s.dev.get (R.SLP_NET_STATUS_ROUND k) + 1) % 256
  let x := s.dev.sleepNet k
  let s1 := s.on (fun d => ((((d.set (R.SLP_NET_STATUS_ROUND k) round).set (R.SLP_NET_STATUS_FORCED k) 0).set (R.SLP_NET_STATUS_WAKE_PEND k) 0).setNetState
    k 1).setNet k { x with visit := none, todo := if k = 0 then d.lanesOf [3] else [], token := none, forced := none, wakeReq := false })
  if k = 0 then s1.visitNext
  else
    let next := s.dev.get (R.SLP_NET_CFG_NEXT k)
    if next = 0 then s1.leaderCommit k
    else (s1.on (fun d => d.setNet k { d.sleepNet k with visit := some next })).sleepSend k 0
      { type := 1, round := BitVec.ofNat 8 round, dest := BitVec.ofNat 16 next, cause := 0xFF }

/-- A TOKEN on a lane (R639, R643). The node judges itself first; a star that consents then visits its own cluster. -/
def State.tokenLane (s : State) (lane : Nat) (m : SleepMsg) : State :=
  if s.dev.followed ≠ some lane ∨ m.dest.toNat ≠ s.dev.sleepId 0 ∨ s.dev.netState 0 ≠ 0 then s else
  let v := (s.dev.set (R.SLP_NET_STATUS_FORCED 0) 0).verdict 0
  let d1 := v.2.set (R.SLP_NET_STATUS_ROUND 0) m.round.toNat
  let s1 : State := { s with dev := d1 }
  if v.1 = 0 then (s1.on (fun d => d.setNet 0 { d.sleepNet 0 with tokenOut := false })).answerUp 3 m.round.toNat (d1.sleepId 0) 0
  else
    let forced := if v.1 = 2 then some (d1.sleepId 0) else none
    let todo := d1.lanesOf [3]
    if todo = [] then
      (s1.on (fun d => d.setNet 0 { d.sleepNet 0 with tokenOut := true })).answerUp 2 m.round.toNat (forced.getD 0) (if forced.isSome then 1 else 0)
    else
      (s1.on (fun d => (d.setNetState 0 1).setNet 0 { d.sleepNet 0 with token := some m.round.toNat, todo := todo, forced := forced })).visitNext

/-- A TOKEN frame on a CAN network (R641, R643): the node it names answers, the leader follows the round. -/
def State.tokenCan (s : State) (k : Nat) (m : SleepMsg) : State :=
  let x := s.dev.sleepNet k
  let d := s.dev
  if d.on (R.SLP_NET_CFG_LEADER k) then
    if d.netState k ≠ 1 ∨ m.round.toNat ≠ d.get (R.SLP_NET_STATUS_ROUND k) then s
    else if m.dest = 0 then
      (s.on (fun d => d.setNet k { x with forced := if m.flags.getLsbD 0 then some m.cause.toNat else none })).leaderCommit k
    else s.on (fun d => d.setNet k { x with visit := some m.dest.toNat })
  else if m.dest.toNat ≠ d.sleepId k ∨ d.netState k ≠ 0 then s
  else
    let v := (d.set (R.SLP_NET_STATUS_FORCED k) 0).verdict k
    let d1 := (v.2.set (R.SLP_NET_STATUS_ROUND k) m.round.toNat)
    let me := BitVec.ofNat 16 (d.sleepId k)
    if v.1 = 0 then
      ({ s with dev := d1.setNet k { d1.sleepNet k with tokenOut := false } }).sleepSend k 0 { type := 3, round := m.round, src := me, cause := me }
    else
      ({ s with dev := d1.setNet k { d1.sleepNet k with tokenOut := true } }).sleepSend k 0
        { type := 1, round := m.round, dest := BitVec.ofNat 16 (d.get (R.SLP_NET_CFG_NEXT k)), src := me,
          cause := if m.flags.getLsbD 0 then m.cause else if v.1 = 2 then me else 0xFF,
          flags := if m.flags.getLsbD 0 || v.1 == 2 then 1 else 0 }

/-- A TOKEN (R639, R641). -/
def State.sleepToken (s : State) (k lane : Nat) (m : SleepMsg) : State :=
  if !s.dev.netOn k then s else if k = 0 then s.tokenLane lane m else s.tokenCan k m

/-- A CONSENT of the visited member of network 0 (R638, R639): the first forced node is kept. -/
def State.sleepConsent (s : State) (lane : Nat) (m : SleepMsg) : State :=
  let x := s.dev.sleepNet 0
  if x.visit ≠ some lane ∨ s.dev.netState 0 ≠ 1 ∨ m.round.toNat ≠ s.dev.get (R.SLP_NET_STATUS_ROUND 0) then s
  else if x.wakeReq then
    match x.token with
    | some round =>
      (s.on (fun d => ((d.setNetState 0 0).setNet 0 { x with visit := none, todo := [], token := none, wakeReq := false }).slpEvent 6)).answerUp
        3 round (s.dev.sleepId 0) 0
    | none => s.on (fun d => ((d.setNet 0 { x with wakeReq := false }).slpEvent 6).roundEnd 0 2 (d.sleepId 0))
  else
    (s.on (fun d => d.setNet 0 { x with visit := none,
                                        forced := if x.forced.isNone && m.flags.getLsbD 0 then some m.cause.toNat else x.forced })).visitNext

/-- The visits of this node end without consent (R638, R639): the leader ends the round; a star below it answers REFUSE. -/
def State.visitsFail (s : State) (node flags : Nat) : State :=
  let x := s.dev.sleepNet 0
  match x.token with
  | some round =>
    (s.on (fun d => (d.setNetState 0 0).setNet 0 { x with visit := none, todo := [], token := none, tokenOut := false })).answerUp 3 round node flags
  | none => s.on (fun d => d.roundEnd 0 (if flags / 2 % 2 = 1 then 3 else 2) node)

/-- A REFUSE (R638, R639, R641, R645): the leader takes it until it sends COMMIT; a star passes it up. -/
def State.sleepRefuse (s : State) (k lane : Nat) (m : SleepMsg) : State :=
  let d := s.dev
  if !d.netOn k || m.round.toNat != d.get (R.SLP_NET_STATUS_ROUND k) then s
  else if k = 0 then
    if d.role lane ≠ 3 then s
    else if d.netState 0 = 1 then s.visitsFail m.cause.toNat (m.flags.toNat % 4)
    else if (d.sleepNet 0).tokenOut ∧ d.netState 0 = 0 then
      (s.on (fun d => d.setNet 0 { d.sleepNet 0 with tokenOut := false })).answerUp 3 m.round.toNat m.cause.toNat (m.flags.toNat % 4)
    else s
  else if d.on (R.SLP_NET_CFG_LEADER k) then
    if d.netState k = 1 then s.on (fun d => d.roundEnd k (if m.flags.getLsbD 1 then 3 else 2) m.cause.toNat) else s
  else s.on (fun d => d.setNet k { d.sleepNet k with tokenOut := false })

/-- A visit is not answered in time (R638). -/
def State.visitTimeout (s : State) (k : Nat) : State :=
  match (s.dev.sleepNet k).visit with
  | none => s
  | some v =>
    if s.dev.netState k ≠ 1 then s
    else if k = 0 then s.visitsFail (s.dev.get (R.HN_LANE_STATUS_MEMBER_ID v)) 2
    else s.on (fun d => d.roundEnd k 3 v)

/-- COMMIT received (R640 to R642): a star sends it on to its cluster. -/
def State.sleepCommit (s : State) (k lane round v : Nat) : State :=
  let d := s.dev
  if !d.netOn k || d.netState k == 2 || d.netState k == 3 then s
  else if k = 0 then
    if d.followed ≠ some lane then s
    else s.on (fun d => ((d.set (R.SLP_NET_STATUS_ROUND 0) round).committed 0 v).sendCommit v)
  else s.on (fun d => (d.set (R.SLP_NET_STATUS_ROUND k) round).committed k (d.now + v % 65536 * 1000000))

/-- COMMIT and WAKE blocks repeat in every base stride until the sleep edge (R640). -/
def Dev.sleepBlocks (d : Dev) : Dev := if d.netState 0 = 2 then d.sendCommit (d.sleepNet 0).entry else d

/-! ### Sleep and wake (R636, R642, R644 to R646) -/

/-- The lanes of network 0 disabled or run again; the controller of a CAN network in CONFIG or NORMAL. -/
def Dev.netRun (d : Dev) (k : Nat) (on : Bool) : Dev :=
  if k = 0 then (List.range 16).foldl (fun (a : Dev) p => if a.role p = 0 then a else a.portEnable p on) d
  else if on then d.canModeWrite .bridle (k - 1) 1
  else (d.set (R.CAN_CTRL_MODE (k - 1)) 0).canModeChange (k - 1)

/-- Whether the lanes or the controller of a network run. -/
def Dev.netRuns (d : Dev) (k : Nat) : Bool := if k = 0 then !(d.lanesOf [1, 2, 3, 4]).isEmpty else d.canMode (k - 1) == 1

/-- The networks that take part. -/
def Dev.netsOn (d : Dev) : List Nat := (List.range 9).filter (fun k => d.netOn k)

/-- The device enters network sleep when every network sleeps (R636): every domain but AON goes off. -/
def Dev.enterSleep (d : Dev) : Dev :=
  if d.on R.SLP_CFG_DEV_SLEEP && d.netsOn.all (fun k => d.netState k == 3) then
    let d1 := ((List.range 8).map (fun i => i + 1)).foldl (fun (a : Dev) x => a.setDomain x 0) d
    (d1.withPwr (fun p => { p with asleep := true, moves := [], dozeWake := [] })).showTrx
  else d

/-- Network sleep after a write of block 0xE that may have met the condition of R636: some network takes part and every one that does is ASLEEP. -/
def Dev.sleepIfAll (d : Dev) : Dev := if d.pwr.asleep || d.netsOn.isEmpty then d else d.enterSleep

/-- The WAKE of a node on an awake network (R646): a control block on the lanes, or a frame. -/
def State.sendWake (s : State) (k node : Nat) : State :=
  if k = 0 then
    s.on (fun d => (d.lanesOf [1, 3]).foldl (fun (a : Dev) p => a.emit (.hnCtl p 0x11 (node * 2 ^ 32))) d)
  else s.sleepSend k 0 { type := 5, round := BitVec.ofNat 8 (s.dev.get (R.SLP_NET_STATUS_ROUND k)), src := BitVec.ofNat 16 (s.dev.sleepId k) }

/-- Networks that are WAKING become AWAKE when their lanes or controller run, and the WAKE still to send goes out with the node that caused it,
which the node records as well (R646). -/
def State.sleepSettle (s : State) : State :=
  (List.range 9).foldl (fun (a : State) k =>
    if a.dev.netState k = 4 ∧ a.dev.netRuns k then
      let x := a.dev.sleepNet k
      let b := a.on (fun d => (d.setNetState k 0).setNet k { d.sleepNet k with wakeMsg := none })
      match x.wakeMsg with
      | some node => (b.on (fun d => d.set (R.SLP_NET_STATUS_NODE k) node)).sendWake k node
      | none => b
    else a) s

/-- A node drives network `k` awake (R646), with the node that caused the wake where one is known. In network sleep AON sends the wake signal; the
whole device then restarts. -/
def State.wakeNet (s : State) (k : Nat) (node : Option Nat) : State :=
  if s.dev.netState k ≠ 3 then s else
  let d1 := (s.dev.set (R.SLP_NET_STATUS_WAKE_PEND k) 0).setNetState k 4
  let d2 := d1.setNet k { d1.sleepNet k with wakeMsg := node }
  if s.dev.pwr.asleep then { s with dev := d2.emit (.wakeSignal k) }
  else ({ s with dev := d2.netRun k true }).sleepSettle

/-- The device leaves network sleep (R646, R703): every network that takes part wakes, and the device restarts as after POR_N with
block 0xE kept. The domains are on where they are requested. `heard` names the network on which the wake was detected, if it came from one: of
that wake this node is not the cause. -/
def State.leaveSleep (s : State) (ks : List Nat) (heard : Option Nat) : State :=
  if !s.dev.pwr.asleep then s else
  let s1 := ks.foldl (fun (a : State) k => a.wakeNet k (if heard = some k then none else some (a.dev.sleepId k))) s
  let s2 := s1.powerReset true (some 5)
  s2.on (fun d => (((List.range 8).map (fun i => i + 1)).foldl (fun (a : Dev) x =>
    a.set (R.PWR_DOMAIN_STATE x) (if a.get (R.PWR_DOMAIN_REQ x) = 0 then 0 else 1)) d).showTrx)

/-- Whether the base edge whose index COMMIT carried is still to come (R642); COMMIT carries the low 40 bits (R640). -/
def Dev.entryAhead (d : Dev) : Bool :=
  let left := ((d.sleepNet 0).entry + 2 ^ 40 - d.stride.last % 2 ^ 40) % 2 ^ 40
  d.strideLive && decide (0 < left ∧ left < 2 ^ 39)

/-- Sleep entry of network `k` at its instant (R642). For network 0 that is the base edge that COMMIT names. -/
def State.sleepEntry (s : State) (k : Nat) : State :=
  if s.dev.netState k ≠ 2 ∨ (k = 0 ∧ s.dev.entryAhead = true) then s else
  let entry := (s.dev.sleepNet k).entry
  let d0 := if k = 0 then s.dev else s.dev.passNs (entry - s.dev.now)
  let last := d0.netsOn.all (fun j => j == k || d0.netState j == 3)
  let d1 := if last then d0.runStop else d0
  let d2 := ((d1.netRun k false).setNetState k 3).withPwr (fun p => { p with watch := if d1.on R.SLP_CFG_WATCH_MODE then p.watch else false })
  let s1 : State := { s with dev := d2.enterSleep }
  if d2.on (R.SLP_NET_STATUS_WAKE_PEND k) then
    (if s1.dev.pwr.asleep then s1.leaveSleep s1.dev.netsOn none else s1.wakeNet k (some (s1.dev.sleepId k)))
  else s1

/-- A wake request as network `k` sees it (R645, R646): the leader, which holds no visit, ends its round at once; `node` is the node that caused the
wake, where one is known. -/
def State.wakeSeen (s : State) (k : Nat) (node : Option Nat) : State :=
  let d := s.dev
  let x := d.sleepNet k
  if !d.netOn k then s else
  match d.netState k with
  | 0 =>
    if !x.tokenOut then s
    else
      let s1 := s.on (fun d => (d.setNet k { x with tokenOut := false }).slpEvent 6)
      if k = 0 then s1.answerUp 3 (d.get (R.SLP_NET_STATUS_ROUND 0)) (d.sleepId 0) 0
      else s1.sleepSend k 0 { type := 3, round := BitVec.ofNat 8 (d.get (R.SLP_NET_STATUS_ROUND k)), src := BitVec.ofNat 16 (d.sleepId k),
                              cause := BitVec.ofNat 16 (d.sleepId k) }
  | 1 =>
    if d.on (R.SLP_NET_CFG_LEADER k) ∧ x.token = none then s.on (fun d => (d.slpEvent 6).roundEnd k 2 (d.sleepId k))
    else s.on (fun d => d.setNet k { x with wakeReq := true })
  | 2 => s.on (fun d => d.set (R.SLP_NET_STATUS_WAKE_PEND k) 1)
  | 3 => if d.pwr.asleep then s else s.wakeNet k node
  | _ => s

/-- A wake request from source `src` (R644): enabled, it latches its cause and acts on the networks it concerns; in network sleep it
wakes the device. -/
def State.wakeFrom (s : State) (src : Nat) (ks : List Nat) (heard : Option Nat) (node : Nat → Option Nat) : State :=
  if !(s.dev.get R.SLP_WAKE_EN_SRC).testBit src then s else
  let s1 := s.on (fun d => d.set R.SLP_WAKE_CAUSE (d.get R.SLP_WAKE_CAUSE ||| 2 ^ src))
  if s1.dev.pwr.asleep then s1.leaveSleep s1.dev.netsOn heard
  else ks.foldl (fun (a : State) k => a.wakeSeen k (node k)) s1

/-- A wake request whose cause is this node (R644). -/
def State.wakeRequest (s : State) (src : Nat) (ks : List Nat) : State := s.wakeFrom src ks none (fun k => some (s.dev.sleepId k))

/-- The networks that a wake request concerns (R644): the sleeping one for CAN and HARNESS, else all. -/
def Dev.wakeNets (d : Dev) (src k : Nat) : List Nat := if src < 2 then (if d.netState k == 3 then [k] else []) else d.netsOn

/-- A wake source fires (R644): for CAN and HARNESS network `k` has to be asleep, for PIN the pin enabled. A node that detects the wake of
one network wakes the others (R646); `node` is the node that caused the wake, where WAKE named one, else a free value. -/
def State.wakeSource (s : State) (src k pin : Nat) (node : Option Nat) : State :=
  let d := s.dev
  if (d.get R.SLP_WAKE_EN_SRC).testBit src = false ∨ (src < 2 ∧ d.netState k ≠ 3) ∨ (src = 3 ∧ (d.get R.SLP_WAKE_EN_PINS).testBit pin = false) then s
  else
    if src < 2 then
      (let fv := d.freeVal
       let s0 : State := if node.isSome then s else { s with dev := fv.2 }
       let s1 := s0.wakeFrom src (d.wakeNets src k) (some k) (fun _ => some (node.getD (fv.1 % 65536)))
       if d.pwr.asleep = false then
         (d.netsOn.filter (fun j => j != k)).foldl (fun (a : State) j => a.wakeNet j (some (a.dev.sleepId j))) s1
       else s1)
    else s.wakeRequest src (d.wakeNets src k)

/-- WAKE received: a control block or frame with the node that caused it, or the wake signal, which carries none (R646). -/
def State.sleepWake (s : State) (k lane : Nat) (node : Option Nat) : State :=
  if !s.dev.netOn k then s else
  let s1 := match node with
    | some n => s.on (fun d => d.set (R.SLP_NET_STATUS_NODE k) n)
    | none => s
  if s.dev.netState k = 3 then s1.wakeSource (if k = 0 then 1 else 0) k 0 node
  else if k = 0 ∧ node.isSome = true ∧ s.dev.netState 0 = 2 then s1.wakeRequest 1 [0]
  else match node with
    | some n =>
      if k = 0 then s1.on (fun d => ((d.lanesOf [1, 3]).filter (fun p => p != lane)).foldl (fun (a : Dev) p => a.emit (.hnCtl p 0x11 (n * 2 ^ 32))) d)
      else s1
    | none => s1

/-- `SLP_WAKE_TIMER` expires after sleep entry (R644). -/
def State.wakeTimer (s : State) : State :=
  if s.dev.get R.SLP_WAKE_TIMER = 0 ∨ s.dev.netsOn.any (fun k => s.dev.netState k == 3) = false then s else s.wakeRequest 5 s.dev.netsOn

/-! ### The sleep-watch (R647) -/

/-- A write of KICK: the timer restarts and the outputs are released (R647). -/
def Dev.kick (d : Dev) : Dev :=
  (d.withPwr (fun p => { p with failsafe := false, watch := if d.on R.SLP_CFG_WATCH_MODE then d.on R.SLP_CFG_WATCH_EN else p.watch })).showTrx

/-- A write of `SLP_KICK` (R652). -/
def State.slpKickWrite (s : State) (w : Writer) (v : Nat) : State :=
  let s1 := if v.testBit 0 then s.on (fun d => d.kick) else s
  let s2 := if v.testBit 1 then s1.wakeRequest 6 s1.dev.netsOn else s1
  s2.on (fun d => d.rsvIf (v / 4 != 0) w 0xE0108)

/-- A write of `SLP_CFG` (R647, R652): the continuous sleep-watch runs from the write that enables it. -/
def Dev.slpCfgWrite (d : Dev) (w : Writer) (v : Nat) : Dev :=
  let r := d.wordWrite 0xE0100 v
  let d1 := r.1
  (d1.withPwr (fun p => { p with watch := d1.on R.SLP_CFG_WATCH_EN && (d1.on R.SLP_CFG_WATCH_MODE || p.watch) })).rsvIf r.2 w 0xE0100

/-- The sleep-watch expires (R647): the outputs are asserted, every SerDes lane is disabled. -/
def Dev.watchExpiry (d : Dev) : Dev :=
  if !d.pwr.watch then d else
  let d1 := d.withPwr (fun p => { p with failsafe := true, watch := d.on R.SLP_CFG_WATCH_MODE })
  ((List.range 16).foldl (fun (a : Dev) p => a.portEnable p false) d1).showTrx.slpEvent 5

/-- A write of `SLP_NET_CFG[k]` or `SLP_NET_ID[k]` (R653): POS, NEXT and the identifier are reserved for k = 0. -/
def Dev.slpNetWrite (d : Dev) (w : Writer) (k off v : Nat) : Dev :=
  let a := 0xE0200 + k * 0x20 + off
  let held := if k = 0 then (if off = 0 then 0x1FFF80 else 0xFFFFFFFF) else 0
  let r := d.wordWrite a (v &&& (2 ^ 32 - 1 - held))
  (if off = 4 ∧ k = 0 then d else r.1).rsvIf (r.2 || (v &&& held) != 0) w a

end Sys2Proof.Machine
end

