-- ==== Sys2Proof/Machine/Host.lean ====
section
/-! DEFINITION. The host ports (chapter 13): ownership of the device, which writer may write which register, the mailboxes with their
doorbells, timeouts and the reset of one side. -/

namespace Sys2Proof.Machine
open Sys2Proof

/-! ### Ownership (R551 to R555, R579 to R581) -/

/-- The command port of a host writer (R546). -/
def portOf : Writer → Option Nat
  | .pcie => some 0
  | .qspi => some 1
  | _ => none

/-- The owner port. -/
def Dev.owner (d : Dev) : Option Nat := if d.on R.OWN_STATUS_OWNED then some (d.get R.OWN_STATUS_PORT) else none

/-- A cause of `OWN_EVT` bit `b` raises EV241 (R579). -/
def Dev.ownCause (d : Dev) (f : Fld) (b : Nat) : Dev := d.cause f ((d.get R.OWN_EVT_EN).testBit b) 241

/-- The keep-alive timer starts again at `OWN_TIMEOUT` ms (R554). -/
def Dev.keepAlive (d : Dev) : Dev := { d with host := { d.host with lapse := d.now + d.get R.OWN_TIMEOUT * 1000000 } }

/-- The owner changes, or stays (R551, R553, R580, R583). -/
def Dev.takeOwner (d : Dev) (o : Option Nat) : Dev :=
  if d.owner = o then d
  else
    let d1 := (d.set R.OWN_STATUS_OWNED (if o.isSome then 1 else 0)).set R.OWN_STATUS_PORT (o.getD 0)
    ((d1.inc R.OWN_STATUS_CHANGES).keepAlive).ownCause R.OWN_EVT_CHANGED 0

/-- The keep-alive timer expires (R554): the device keeps every state the owner set. -/
def Dev.lapse (d : Dev) : Dev :=
  if d.owner = none then d
  else (((d.passNs (d.host.lapse - d.now)).takeOwner none).ownCause R.OWN_EVT_LAPSED 1)

/-- `OWN_LEFT` (R581). -/
def Dev.ownLeft (d : Dev) : Nat := if d.owner = none then 0 else (d.host.lapse - d.now) / 1000000

/-! ### Which side of a mailbox a writer is (R568, R573) -/

/-- Whether a writer is the host side (`some true`) or the device side (`some false`) of mailbox `n`. -/
def Dev.mbSide (d : Dev) (w : Writer) (n : Nat) : Option Bool :=
  if !d.on (R.MB_CFG_VALID n) then none else
  match w with
  | .pcie => if d.get (R.MB_CFG_HOST n) = 0 then some true else none
  | .qspi => if d.get (R.MB_CFG_HOST n) = 1 then some true else none
  | .bridle => if d.on (R.MB_CFG_BRIDLE n) then some false else none
  | .engine e => if d.get (R.MB_CFG_ENGINE n) = e.val ∧ d.on (R.MB_CFG_BRIDLE n) = false then some false else none

/-- The offsets of a mailbox that a side may write (R573, R587). -/
def mbMay (host : Bool) (r : Nat) : Bool :=
  if host then decide (r < 0x100) || [0x200, 0x204, 0x20C, 0x210, 0x244, 0x248, 0x304].contains r
  else (decide (0x100 ≤ r) && decide (r < 0x200)) || [0x204, 0x208, 0x240, 0x244, 0x24C, 0x250].contains r

/-! ### Which writes are performed (R391, R548, R556, R565) -/

/-- The registers of the switch mover, which only host software writes (R190). -/
def swMover (off : Nat) : Bool := decide (0xC0800 ≤ off ∧ off < 0xC0830)

/-- Whether the PCIe endpoint is out of reset and has link: not with a strap that holds it (R708), nor without its reference (R702). -/
def Dev.pcieUp (d : Dev) : Bool :=
  d.get R.SYS_STRAP_BOOT_SEL != 2 && d.get R.SYS_STRAP_BOOT_SEL != 3 && !d.sys.lost.contains 0

/-- Whether a BAR0 write by a writer at an offset is performed. -/
def Dev.mayWrite (d : Dev) (w : Writer) (off : Nat) : Bool :=
  let blk := off / 0x10000
  let host := fun (p : Nat) => d.get (R.OWN_PORT_CLASS p) != 0 &&
    (d.owner == some p || (blk == 2 && d.mbSide w (off / 0x1000 % 16) == some true && mbMay true (off % 0x1000)))
  (d.coreOn || (d.pwr.asleep && !d.isHeld && blk == 0xE)) &&
  (match w with
   | .bridle => !swMover off
   | .engine e => (d.get (R.TEAM_CFG_WR_BLOCKS (e.val / 4))).testBit blk && !swMover off
   | .pcie => d.pcieUp && host 0
   | .qspi => host 1)

/-- A write that is not performed is dropped (R391, R556); a DISABLED port's is discarded (R548). -/
def Dev.denied (d : Dev) (w : Writer) : Dev :=
  if !d.coreOn then d else
  match w with
  | .engine e => d.engCause e.val (R.ENG_STATUS_WR_DENIED e.val) 6
  | .bridle => d
  | .pcie => if d.get (R.OWN_PORT_CLASS 0) = 0 ∨ d.pcieUp = false then d else d.ownCause R.OWN_EVT_WR_DENIED 2
  | .qspi => if d.get (R.OWN_PORT_CLASS 1) = 0 then d else d.ownCause R.OWN_EVT_WR_DENIED 2

/-- A register write by a writer, if it is performed. -/
def Dev.gate (d : Dev) (w : Writer) (off : Nat) (f : Dev → Dev) : Dev := if d.mayWrite w off then f d else d.denied w

/-- A register write that may touch the memories, if it is performed. -/
def State.gate (s : State) (w : Writer) (off : Nat) (f : State → State) : State :=
  if s.dev.mayWrite w off then f s else s.on (fun d => d.denied w)

/-- Whether reads by a port are performed (R556): every port that is not DISABLED; engines and the Bridle always. -/
def Dev.mayRead (d : Dev) (w : Writer) : Bool :=
  match portOf w with
  | some p => d.coreOn && d.get (R.OWN_PORT_CLASS p) != 0 && (p != 0 || d.pcieUp)
  | none => d.coreOn

/-! ### Mailboxes (R568 to R578) -/

/-- Direction `k` of mailbox `n`, beside its registers. -/
def Dev.mb (d : Dev) (n k : Nat) : MbDir := d.host.mbs.getD (2 * n + k) {}

/-- The device with a direction changed. -/
def Dev.setMb (d : Dev) (n k : Nat) (x : MbDir) : Dev := { d with host := { d.host with mbs := d.host.mbs.put (2 * n + k) x } }

/-- POSTED of a direction, with MB_POST.GO, which reads the same (R586). -/
def Dev.setPosted (d : Dev) (n k v : Nat) : Dev := (d.set (R.MB_STATUS_POSTED n k) v).set (R.MB_POST_GO n k) v

/-- A host-side cause of mailbox `n` (R576). -/
def Dev.mbHost (d : Dev) (n : Nat) (en : Fld) : Dev := if d.on en then d.raise (48 + n) else d

/-- A device-side cause of mailbox `n` (R576): the engine's line; the Bridle receives its own directly. -/
def Dev.mbDevice (d : Dev) (n : Nat) : Dev :=
  if d.on (R.MB_CFG_BRIDLE n) then d else d.latchLine (d.get (R.MB_CFG_ENGINE n)) (d.get (R.MB_CFG_LINE n))

/-- The write to direction `k` of mailbox `n` is dropped (R569, R573). -/
def Dev.mbRej (d : Dev) (n k : Nat) : Dev := d.set (R.MB_STATUS_WR_REJ n k) 1

/-- The doorbell of a posted message (R572, R576): to an engine whose domain dozes it waits for the wake. -/
def State.mbBell (s : State) (n k : Nat) : State :=
  if k = 1 then s.on (fun d => d.mbHost n (R.MB_EVT_EN_D2H_POSTED n))
  else
    let t := s.dev.get (R.MB_CFG_ENGINE n) / 12
    if s.dev.on (R.MB_CFG_BRIDLE n) = false ∧ s.dev.domain (3 + t) = 3 then
      (s.on (fun d => ((d.set (R.MB_STATUS_WAKING n 0) 1).setMb n 0 { d.mb n 0 with waits := true }).dozeWakeFor t)).wakeRequest 7 s.dev.netsOn
    else s.on (fun d => d.mbDevice n)

/-- A message is posted (R569, R570, R578). -/
def State.mbGo (s : State) (n k : Nat) : State :=
  let cross := s.dev.on (R.MB_STATUS_POSTED n (1 - k))
  let s1 := s.on (fun d => ((d.setPosted n k 1).set (R.MB_STATUS_ACKED n k) 0).setMb n k
    { goAt := d.now, timing := d.get (R.MB_TIMEOUT n k) != 0, crossed := cross })
  let s2 := s1.mbBell n k
  if cross then
    s2.on (fun d => (((d.set (R.MB_STATUS_CROSSED n 0) 1).set (R.MB_STATUS_CROSSED n 1) 1).mbHost n (R.MB_EVT_EN_CROSSED n)).mbDevice n)
  else s2

/-- A write of `MB_POST` by the sender (R569, R586): LEN 0 and above 256 are reserved and leave LEN as it is. -/
def State.mbPostWrite (s : State) (w : Writer) (n k v : Nat) : State :=
  if s.dev.on (R.MB_STATUS_POSTED n k) then s.on (fun d => d.mbRej n k)
  else
    let len := v % 512
    let bad := len == 0 || decide (256 < len)
    let s1 := s.on (fun d => ((if bad then d else d.set (R.MB_POST_LEN n k) len).set (R.MB_POST_MORE n k) (bits v 16 1)).rsvIf
      (bad || bits v 9 7 != 0 || bits v 17 14 != 0) w (0x20200 + n * 0x1000 + k * 0x40))
    if v.testBit 31 then s1.mbGo n k else s1

/-- The sender of direction `k` is notified of an acknowledgement or timeout (R576). -/
def Dev.mbNotify (d : Dev) (n k : Nat) (en : Fld) : Dev := if k = 0 then d.mbHost n en else d.mbDevice n

/-- A posted message is acknowledged with a code (R569, R575). -/
def Dev.mbAckCode (d : Dev) (n k code : Nat) : Dev :=
  let x := d.mb n k
  let d1 := ((d.setPosted n k 0).set (R.MB_STATUS_ACKED n k) 1).setMb n k { x with timing := false, orphan := false, waits := false }
  let d2 := d1.set (R.MB_STATUS_WAKING n k) 0
  let d3 := if x.orphan then d2.inc (R.MB_STATUS_ORPHAN_ACK n k) else d2.set (R.MB_ACK_CODE n k) code
  d3.mbNotify n k (R.MB_EVT_EN_H2D_ACKED n)

/-- A write of `MB_ACK` by the receiver (R569): with nothing posted it is dropped; a reserved code leaves the register as it is (R8). -/
def Dev.mbAckWrite (d : Dev) (w : Writer) (n k v : Nat) : Dev :=
  let off := 0x20208 + n * 0x1000 + k * 0x40
  if !d.on (R.MB_STATUS_POSTED n k) then d.set (R.MB_STATUS_LATE_ACK n k) 1
  else if 15 < v % 65536 then d.rsvWrite w off
  else (d.mbAckCode n k (v % 65536)).rsvIf (v / 65536 != 0) w off

/-- A write of `MB_WITHDRAW` by the sender (R571). -/
def Dev.mbWithdraw (d : Dev) (n k : Nat) : Dev :=
  if !d.on (R.MB_STATUS_POSTED n k) then d
  else ((d.setPosted n k 0).set (R.MB_STATUS_WAKING n k) 0).setMb n k { d.mb n k with timing := false, waits := false }

/-- A write of the `MB_WITHDRAW` word (R586). -/
def Dev.mbWithdrawWrite (d : Dev) (w : Writer) (n k v : Nat) : Dev :=
  (if v.testBit 0 then d.mbWithdraw n k else d).rsvIf (v / 2 != 0) w (0x20210 + n * 0x1000 + k * 0x40)

/-- The timeout of a posted message expires (R570): the message stays posted. -/
def Dev.mbTimeout (d : Dev) (n k : Nat) : Dev :=
  let x := d.mb n k
  if !x.timing || !d.on (R.MB_STATUS_POSTED n k) then d
  else
    let d1 := d.passNs (x.goAt + d.get (R.MB_TIMEOUT n k) * 1000 - d.now)
    ((d1.set (R.MB_STATUS_TIMEOUT n k) 1).setMb n k { x with timing := false }).mbNotify n k (R.MB_EVT_EN_H2D_TIMEOUT n)

/-- `MB_ELAPSED` (R586). -/
def Dev.mbElapsed (d : Dev) (n k : Nat) : Nat := min ((d.now - (d.mb n k).goAt) / 1000) (2 ^ 32 - 1)

/-- A write to a mailbox word at offset `r` (R569, R573, R585 to R587). -/
def State.mbWrite (s : State) (w : Writer) (n r v : Nat) : State :=
  let off := 0x20000 + n * 0x1000 + r
  let k := if r < 0x200 then r / 0x100 else (r - 0x200) / 0x40 % 2
  let q := r % 0x40
  let listed := decide (r < 0x200) || (decide (r < 0x280) && decide (q ≤ 0x14)) || r == 0x300 || r == 0x304
  if !listed then s.on (fun d => d.rsvIf (v != 0) w off)
  else if !((s.dev.mbSide w n).any (fun h => mbMay h r)) then
    s.on (fun d => if 0x300 ≤ r then d.rsvWrite w off else d.mbRej n k)
  else if r < 0x200 then
    if s.dev.on (R.MB_STATUS_POSTED n k) then s.on (fun d => d.mbRej n k)
    else { s with mem := Mem.setBytes s.mem (bar0Mem off) (leBytes 4 v) }
  else if r = 0x304 then s.on (fun d => (d.wordWrite off v).1.rsvIf (d.wordWrite off v).2 w off)
  else match q with
    | 0 => s.mbPostWrite w n k v
    | 4 => s.on (fun d => (d.wordWrite off v).1.rsvIf (d.wordWrite off v).2 w off)
    | 8 => s.on (fun d => d.mbAckWrite w n k v)
    | 0xC => s.on (fun d => if d.on (R.MB_STATUS_POSTED n k) then d.mbRej n k else d.set (R.MB_TIMEOUT n k) v)
    | _ => s.on (fun d => d.mbWithdrawWrite w n k v)

/-! ### Resets on one side (R574, R575) -/

/-- One direction when its receiver is reset: a posted message is discarded with RECEIVER_RESET. -/
def Dev.mbRxReset (d : Dev) (n k : Nat) : Dev :=
  if !d.on (R.MB_STATUS_POSTED n k) then d
  else
    let d1 := (((d.setPosted n k 0).set (R.MB_STATUS_ACKED n k) 1).set (R.MB_ACK_CODE n k) 14).set (R.MB_STATUS_WAKING n k) 0
    (d1.setMb n k { d.mb n k with timing := false, waits := false, orphan := false }).mbNotify n k (R.MB_EVT_EN_H2D_ACKED n)

/-- One direction when its sender is reset: a posted message stays, its timeout stops, its acknowledgement will be dropped. -/
def Dev.mbTxReset (d : Dev) (n k : Nat) : Dev :=
  if !d.on (R.MB_STATUS_POSTED n k) then d
  else (d.set (R.MB_STATUS_TIMEOUT n k) 0).setMb n k { d.mb n k with timing := false, orphan := true }

/-- The host side or the device side of mailbox `n` is reset (R575). The packet and the reply in progress on MB0 and MB1 end with the
host side. -/
def Dev.mbSideReset (d : Dev) (n : Nat) (host : Bool) : Dev :=
  let d1 := if host then (d.mbTxReset n 0).mbRxReset n 1 else (d.mbRxReset n 0).mbTxReset n 1
  if host && decide (n < 2) then { d1 with bridle := { d1.bridle with asm := d1.bridle.asm.del n, out := d1.bridle.out.del n } } else d1

/-- Both sides at once (R575): both directions are empty and both `MB_ACK` read RECEIVER_RESET. -/
def Dev.mbBothReset (d : Dev) (n : Nat) : Dev :=
  [0, 1].foldl (fun (a : Dev) k => (((a.setPosted n k 0).set (R.MB_ACK_CODE n k) 14).set (R.MB_STATUS_WAKING n k) 0).setMb n k {}) d

/-- The host side of every mailbox bound to a host port is reset (R561, R565). -/
def Dev.hostSides (d : Dev) (host : Nat) : Dev :=
  (List.range 16).foldl (fun (a : Dev) n => if a.on (R.MB_CFG_VALID n) && a.get (R.MB_CFG_HOST n) == host then a.mbSideReset n true else a) d

/-- The device sides of the mailboxes of an engine that RESTART restarts, and of its lockstep partner (R574). -/
def Dev.engineSides (d : Dev) (e : Nat) : Dev :=
  (List.range 16).foldl (fun (a : Dev) n =>
    if a.on (R.MB_CFG_VALID n) && !a.on (R.MB_CFG_BRIDLE n) && (a.get (R.MB_CFG_ENGINE n) == e || a.partner e == some (a.get (R.MB_CFG_ENGINE n)))
    then a.mbSideReset n false else a) d

/-- RESTART of an engine (R408, R574): only a HALTED engine restarts. -/
def Dev.restartEngine (d : Dev) (e : Nat) : Dev := if d.engState e ≠ 6 then d else (d.engRestart e).engineSides e

/-- The PCIe reset of the host side (R524, R555, R561, R693): the port's read shadows go, every vector is masked, the Punnets' host-facing
sides reset; ownership stays. -/
def Dev.pcieReset (d : Dev) : Dev :=
  let d1 := (List.range 16).foldl (fun (a : Dev) v => a.set (R.MSIX_CTRL_MASK v) 1)
    { d with shadows := d.shadows.filter (fun e => e.1 / 2 ^ 20 != 0) }
  ((List.range 64).foldl (fun (a : Dev) n => a.pnHostReset n) d1).hostSides 0

/-- A write of `ENG_CTRL[e]` (R413), whose RESTART also resets the engine's mailbox sides (R574). -/
def Dev.engCtrl (d : Dev) (w : Writer) (e v : Nat) : Dev :=
  let d1 := if v.testBit 2 then d.engClrStats e else d
  let d2 := if v.testBit 1 then d1.restartEngine e else d1
  let d3 := if v.testBit 0 then d2.hostHalt e else d2
  d3.rsvIf (v / 8 != 0) w (0xB0000 + e * 0x80)

end Sys2Proof.Machine
end

