-- ==== Sys2Proof/Machine/Records.lean ====
section
/-! DEFINITION. The records of a configuration section whose bytes the spec gives, decoded: mapping rules (R145), classification rules
(R228), slot table entries (R290) and personality instances (R530). -/

namespace Sys2Proof.Machine
open Sys2Proof

/-- Byte `i` of a record. -/
def recByte (l : List Byte) (i : Nat) : Nat := (l.getD i 0).toNat

/-- The little-endian field of `n` bytes at byte `i` of a record. -/
def recLe (l : List Byte) (i n : Nat) : Nat := leNat (slice l i n)

/-- A mapping rule (R145); K is a 40-bit value in its slot (R11). -/
def mapRuleOf (l : List Byte) : MapRule :=
  let sk := recByte l 0
  let s2k := recByte l 1
  let op := recByte l 2
  let lunge := fun (k r : Nat) => decide (1 ≤ k ∧ k ≤ 2) && decide (3 < r)
  { srcKind := sk, src2Kind := s2k, op := bits op 0 2, chain := op.testBit 6, wrap := op.testBit 7, wait := recByte l 3,
    srcRegion := recLe l 4 2, srcItem := recLe l 6 2, src2Region := recLe l 8 2, src2Item := recLe l 10 2,
    dstRegion := recLe l 12 2, dstItem := recLe l 14 2, count := recLe l 16 2, deadline := recLe l 20 4,
    k := toSigned 40 (recLe l 24 5),
    reserved := decide (3 < sk) || decide (4 < s2k) || bits op 2 4 != 0 || decide (3 < recByte l 3) || recLe l 18 2 != 0 ||
      decide (recLe l 16 2 = 0 ∨ 256 < recLe l 16 2) || lunge sk (recLe l 4 2) || lunge s2k (recLe l 8 2) }

/-- A classification rule (R228). -/
def classRuleOf (l : List Byte) : ClassRule :=
  let m := recByte l 10
  let a := recByte l 11
  let st := recByte l 20
  { dmac := beNat (l.take 6), vid := bits (recLe l 6 2) 0 12, etype := recLe l 8 2, mDmac := m.testBit 0, mVid := m.testBit 1,
    mPcp := m.testBit 2, mEtype := m.testBit 3, pcp := bits a 0 3, cls := bits a 3 3, tagOp := bits a 6 2,
    dest := bits (recLe l 12 2) 0 12, group := (recLe l 12 2).testBit 15, maxLen := recLe l 14 2, ports := bits (recLe l 16 4) 0 26,
    stream := if st < 128 then some st else none, tagPcp := bits (recByte l 21) 0 3, tagVid := bits (recLe l 22 2) 0 12 }

/-- Whether a classification rule holds a reserved value (R228, R260). -/
def classRuleReserved (l : List Byte) : Bool :=
  let d := recLe l 12 2
  let len := recLe l 14 2
  let st := recByte l 20
  recLe l 6 2 / 2 ^ 12 != 0 || recByte l 10 / 16 != 0 || bits d 12 3 != 0 || (!d.testBit 15 && decide (39 < bits d 0 12)) ||
  (len != 0 && decide (len < 64 ∨ 16384 < len)) || recLe l 16 4 / 2 ^ 26 != 0 || (decide (127 < st) && st != 255) ||
  recByte l 21 / 8 != 0 || recLe l 22 2 / 2 ^ 12 != 0

/-- A slot table entry (R290). -/
def slotOf (l : List Byte) : HnSlot :=
  let f := recByte l 8
  { start := bits (recLe l 0 4) 0 23, len := recLe l 4 2, owner := recLe l 6 2, gait := bits f 0 2, cmd := f.testBit 2, sleep := f.testBit 3,
    phase := recLe l 10 2 }

/-- Whether a slot table entry holds a reserved value (R290, R320). -/
def slotReserved (l : List Byte) : Bool :=
  recLe l 0 4 / 2 ^ 23 != 0 || recByte l 8 / 16 != 0 || recByte l 9 != 0 || recLe l 12 4 != 0

/-- Whether a role code is one of the standards table (R532). -/
def roleKnown (pers role : Nat) : Bool :=
  if pers = 9 then role == 2 else if pers = 11 ∨ pers = 12 then role == 0 else decide (role ≤ 1)

/-- A personality instance (R530): its record, with the reserved values of every field. -/
def instOf (l : List Byte) : Inst :=
  let p := recByte l 0
  let t := recByte l 4
  let ports := recLe l 8 4
  { pers := p, role := recByte l 1, team := recByte l 2, engines := recByte l 3 % 16, gait := bits t 0 2, sync := t.testBit 2, tb := bits t 3 3,
    ports := ports,
    reserved := decide (p = 0 ∨ 12 < p) || !roleKnown p (recByte l 1) || decide (11 < recByte l 2) || recByte l 3 / 16 != 0 || t / 64 != 0 ||
      recLe l 5 3 != 0 || recLe l 12 4 != 0 || ports / 2 ^ 26 != 0 || ([7, 10, 11].contains p && ports / 16 != 0) }

/-- The mapping rules of a configuration, by number (R142). -/
def Configuration.rules (c : Configuration) : List MapRule := c.ruleRecs.map mapRuleOf
/-- Its classification rules (R228). -/
def Configuration.classes (c : Configuration) : List ClassRule := c.classRecs.map classRuleOf
/-- Its slot tables: of the cluster in which the device is a worker, and of that of which it is the star (R290). -/
def Configuration.slotsUp (c : Configuration) : List HnSlot := c.upRecs.map slotOf
/-- See `slotsUp`. -/
def Configuration.slotsDown (c : Configuration) : List HnSlot := c.downRecs.map slotOf
/-- Its personality instances (R530). -/
def Configuration.insts (c : Configuration) : List Inst := c.instRecs.map instOf

/-- A record of a configuration is not as long as its layout (R145, R228, R290, R530). -/
def Configuration.shortRecord (c : Configuration) : Bool :=
  c.ruleRecs.any (fun l => l.length != 32) || c.classRecs.any (fun l => l.length != 24) || c.upRecs.any (fun l => l.length != 16) ||
  c.downRecs.any (fun l => l.length != 16) || c.instRecs.any (fun l => l.length != 16)

end Sys2Proof.Machine
end

