-- ==== Sys2Proof/Machine/Image.lean ====
section
/-! DEFINITION. The Miteov image in MRAM and its checks (R671 to R678), the update session (R607 to R612), the device's identity and
attestation (R613 to R615, R659 to R670). The HSS and LMS computations themselves (RFC 8554), the vendor root, and the encoding of a
configuration section are not in the spec: they are free values of `Config`. -/

namespace Sys2Proof

/-- Whether an HSS signature verifies under a public key: key, message, signature (R668). -/
opaque Config.hssVerify : List Byte → List Byte → List Byte → Bool
/-- The vendor root public key, held in the boot ROM (R668). -/
opaque Config.vendorRoot : List Byte
/-- Byte `i` of the device key's signature with index `q` over a message (R663, R669). -/
opaque Config.signatureByte : Nat → List Byte → Nat → Byte
/-- What a configuration section's bytes say; none: a record of the section breaks its layout (R621). -/
opaque Config.configuration : List Byte → Option Machine.Configuration
/-- Whether the 64 KiB of Pip verify (R678). -/
opaque Config.pipValid : List Byte → Bool

namespace Machine

/-! ### Security causes (R685, R687) -/

/-- A cause of `SEC_EVT` bit `b` raises EV240 + b. -/
def Dev.secCause (d : Dev) (f : Fld) (b : Nat) : Dev :=
  d.cause f (if b = 0 then d.on R.SEC_EVT_EN0 else (d.get R.SEC_EVT_EN).testBit (b - 2)) (240 + b)

/-- The device with chapter 16's state changed. -/
def Dev.withUpd (d : Dev) (f : UpdSt → UpdSt) : Dev := { d with upd := f d.upd }

/-- The update journal (R677), with `SEC_STATUS.STORED_VALID` (R686): 0 neither, 1 RECEIVING, 2 VERIFIED. -/
def Dev.setJournal (d : Dev) (j : Nat) : Dev :=
  (d.withUpd (fun u => { u with journal := j })).set R.SEC_STATUS_STORED_VALID (if j = 2 then 1 else 0)

/-! ### The image in MRAM (R655, R671 to R673) -/

/-- The BAR2 offset of the image area. -/
def imageBase : Nat := mramBase + 0x100000

/-- The data bytes of block `b`. -/
def blockData (m : List Host.Cell) (b : Nat) : List Byte := Mem.bytes m (imageBase + b * 4096) 4092

/-- Whether block `b` agrees with its CRC-32C. -/
def blockOk (m : List Host.Cell) (b : Nat) : Bool :=
  leNat (Mem.bytes m (imageBase + b * 4096 + 4092) 4) == crc32c (blockData m b)

/-- The data bytes of `n` blocks from block `b`. -/
def blocksData (m : List Host.Cell) (b : Nat) : Nat → List Byte
  | 0 => []
  | n + 1 => blockData m b ++ blocksData m (b + 1) n

/-- Data byte `j` of the manifest. -/
def manByte (m : List Host.Cell) (j : Nat) : Byte := Mem.byte m (imageBase + j / 4092 * 4096 + j % 4092)

/-- `n` data bytes of the manifest from byte `j`. -/
def manBytes (m : List Host.Cell) (j n : Nat) : List Byte := (List.range n).map (fun i => manByte m (j + i))

/-- A little-endian field of the manifest. -/
def manField (m : List Host.Cell) (j n : Nat) : Nat := leNat (manBytes m j n)

/-- SIG_OFFSET (R672). -/
def sigOffset (m : List Host.Cell) : Nat := manField m 6 2

/-- One less than the levels that the signature's first word gives (RFC 8554, big-endian). -/
def sigUpper (m : List Host.Cell) : Nat := beNat (manBytes m (sigOffset m) 4)

/-- The length of the manifest's signature (R668): only its first word when the number of levels is not 1 to 3. -/
def sigLength (m : List Host.Cell) : Nat := if sigUpper m < 3 then 4 + sigUpper m * 1828 + 1772 else 4

/-- M: the blocks that the manifest occupies (R672). -/
def manBlocks (m : List Host.Cell) : Nat := (sigOffset m + sigLength m + 4091) / 4092

/-- The payload of an image of `n` blocks. -/
def payload (m : List Host.Cell) (n : Nat) : List Byte := blocksData m (manBlocks m) (n - manBlocks m)

/-- A big-endian type code of a signature or key. -/
def codeAt (l : List Byte) (i : Nat) : Nat := beNat (slice l i 4)

/-- Whether a public key names LMS_SHA256_M32_H20 with LMOTS_SHA256_N32_W8 at byte `i` (R668). -/
def keyCodes (l : List Byte) (i : Nat) : Bool := codeAt l i == 8 && codeAt l (i + 4) == 4

/-- Whether an HSS signature has the form of R668: its levels, its length and the type codes of every level. -/
def hssForm (l : List Byte) : Bool :=
  let up := codeAt l 0
  let one := fun (o : Nat) => codeAt l (o + 4) == 4 && codeAt l (o + 1128) == 8
  decide (up < 3) && l.length == 4 + up * 1828 + 1772 &&
  (List.range (up + 1)).all (fun i => one (4 + 1828 * i)) && (List.range up).all (fun i => keyCodes l (4 + 1828 * i + 1772))

/-- Whether a signature verifies under a root (R668). -/
def hssOk (root msg sig : List Byte) : Bool := hssForm sig && Config.hssVerify root msg sig

/-- The signed bytes of the manifest. -/
def manSigned (m : List Host.Cell) : List Byte := manBytes m 0 (sigOffset m)

/-- The detail of AUTH_FAIL for the stored manifest (R674). -/
def authDetail (m : List Host.Cell) : Nat := if manByte m 19 = 1 then 0x0101 else 0x0100

/-- The manifest's own checks (R674), with the size that IMAGE_BYTES must equal. -/
def manifestOk (m : List Host.Cell) (u : UpdSt) (size : Nat) : Bool :=
  let root := if manByte m 19 = 0 then some Config.vendorRoot else if manByte m 19 = 1 ∧ u.root ≠ [] then some u.root else none
  let bind := manBytes m 24 16
  decide (manBlocks m * 4096 ≤ size) &&
  root.any (fun k => hssOk k (manSigned m) (manBytes m (sigOffset m) (sigLength m))) &&
  (bind.all (fun b => b == 0) || bind == u.serial) &&
  manField m 0 4 == 0x564F544D && manField m 4 2 == 1 && manField m 8 4 == size

/-! ### The section table (R673) -/

/-- A section entry. -/
structure Section where
  kind   : Nat
  pers   : Nat
  rev    : Nat
  off    : Nat
  len    : Nat
  zero   : Nat
deriving DecidableEq, Repr

/-- Section entry `i`. -/
def sectionAt (m : List Host.Cell) (i : Nat) : Section :=
  let f := fun (o n : Nat) => manField m (104 + 16 * i + o) n
  { kind := f 0 1, pers := f 1 1, rev := f 2 2, off := f 4 4, len := f 8 4, zero := f 12 4 }

/-- The section table. -/
def sections (m : List Host.Cell) : List Section := (List.range (min 33 (manField m 20 2))).map (sectionAt m)

/-- Whether an entry keeps its layout, in a payload of `n` bytes. -/
def Section.ok (x : Section) (n : Nat) : Bool :=
  decide (1 ≤ x.kind ∧ x.kind ≤ 4) && x.zero == 0 && decide (x.off + x.len ≤ n) &&
  (if x.kind = 2 then decide (1 ≤ x.pers ∧ x.pers ≤ 12 ∧ x.len ≤ 32768) else x.pers == 0 && x.rev == 0)

/-- The section table against R673. -/
def sectionsOk (m : List Host.Cell) (size : Nat) : Bool :=
  let l := sections m
  let count := fun (k : Nat) => (l.filter (fun x => x.kind == k)).length
  let n := manField m 20 2
  decide (1 ≤ n ∧ n ≤ 32) && manField m 22 2 == 0 && decide (104 + 16 * n ≤ sigOffset m) &&
  l.all (fun x => x.ok ((size / 4096 - manBlocks m) * 4092)) && count 1 == 1 && decide (count 3 ≤ 1) && decide (count 4 ≤ 1)

/-- The bytes of the first section of a kind, in an image of `size` bytes. -/
def sectionOf (m : List Host.Cell) (size kind : Nat) : Option (List Byte) :=
  ((sections m).find? (fun x => x.kind == kind)).map (fun x => ((payload m (size / 4096)).drop x.off).take x.len)

/-- PAYLOAD_HASH (R672). -/
def payloadOk (m : List Host.Cell) (size : Nat) : Bool := hashBytes (sha256 (payload m (size / 4096))) == manBytes m 40 32

/-- What activation takes from the stored image (R672, R673). -/
def imageInfo (m : List Host.Cell) : ImageInfo :=
  let size := manField m 8 4
  { version := manField m 12 4, compat := manField m 16 1, hn := manField m 17 1, minPeer := manField m 18 1,
    signed := manSigned m, bridle := (sectionOf m size 1).getD [], record := sectionOf m size 4,
    config := sectionOf m size 3, cfgHash := manBytes m 72 32 }

/-- Whether the image holds a personality revision that step A1 does not run (R544, R673). -/
def revisionBad (m : List Host.Cell) : Bool := (sections m).any (fun x => x.kind == 2 && x.rev / 256 != 1)

/-! ### The update session (R607 to R612) -/

/-- The session opens, or closes (R608, R609, R612). -/
def Dev.setSession (d : Dev) (x : Option UpdSession) : Dev :=
  ((((d.withUpd (fun u => { u with session := x })).set R.SEC_STATUS_SESSION (if x.isSome then 1 else 0)).set R.SEC_UPD_BYTES 0).secCause
    R.SEC_EVT_SESSION 0)

/-- The bytes accepted. -/
def Dev.setGot (d : Dev) (x : UpdSession) (n : Nat) : Dev :=
  (d.withUpd (fun u => { u with session := some { x with got := n } })).set R.SEC_UPD_BYTES n

/-- UPDATE_BEGIN accepted (R608, R677). -/
def Dev.updBegin (d : Dev) (port size : Nat) : Dev := (d.setJournal 1).setSession (some { port := port, size := size })

/-- What UPDATE_DATA answers when its data have been written (R609): status and detail, 0 and 0 for OK. -/
def State.updData (s : State) (x : UpdSession) (data : List Byte) : State × Nat × Nat :=
  let got := x.got + data.length
  let s1 : State := { s with mem := Mem.setBytes s.mem (imageBase + x.got) data, dev := s.dev.setGot x got }
  let b := x.got / 4096
  if got / 4096 = b then (s1, 0, 0)
  else if !blockOk s1.mem b then (s1.on (fun d => (d.setGot x (b * 4096)).secCause R.SEC_EVT_BLOCK_FAIL 2), 11, b)
  else if b + 1 = manBlocks s1.mem ∧ !manifestOk s1.mem s1.dev.upd x.size then
    (s1.on (fun d => (d.setSession none).secCause R.SEC_EVT_AUTH 3), 10, authDetail s1.mem)
  else (s1, 0, 0)

/-- UPDATE_VERIFY (R610, R675): status and detail. -/
def State.updVerify (s : State) (x : UpdSession) : State × Nat × Nat :=
  if x.got < x.size then (s, 13, 0x13)
  else if !payloadOk s.mem x.size then (s, 11, 0xFFFF)
  else if !manifestOk s.mem s.dev.upd x.size then (s.on (fun d => d.secCause R.SEC_EVT_AUTH 3), 10, authDetail s.mem)
  else if !sectionsOk s.mem x.size then (s, 11, 0xFFFF)
  else if manField s.mem 16 1 < s.dev.get R.SEC_STATUS_FLOOR then (s, 12, 0x100 + manField s.mem 16 1)
  else (s.on (fun d => (d.withUpd (fun u => { u with session := some { x with verified := true } })).setJournal 2), 0, 0)

/-! ### The stored image at start-up (R678) -/

/-- The first of `n` blocks, from block `b`, whose CRC fails. -/
def firstBadBlock (m : List Host.Cell) (b : Nat) : Nat → Option Nat
  | 0 => none
  | n + 1 => if blockOk m b then firstBadBlock m (b + 1) n else some b

/-- The outcome of the start-up checks: RESULT and BLOCK of `SEC_BOOT`. -/
def bootCheck (m : List Host.Cell) (d : Dev) : Nat × Nat :=
  let size := manField m 8 4
  if manField m 0 4 ≠ 0x564F544D then (1, 0)
  else if d.upd.journal = 1 then (2, 0)
  else match firstBadBlock m 0 (min (size / 4096) 1792) with
    | some b => (3, b)
    | none =>
      if !payloadOk m size then (4, 0)
      else if size % 4096 ≠ 0 ∨ size = 0 ∨ 7340032 < size ∨ !manifestOk m d.upd size ∨ !sectionsOk m size then (5, 0)
      else if manField m 16 1 < d.get R.SEC_STATUS_FLOOR then (6, 0)
      else (0, 0)

/-- The image that the device runs (R686). -/
def Dev.runImage (d : Dev) (x : ImageInfo) : Dev :=
  ((((d.withUpd (fun u => { u with run := x })).set R.SEC_STATUS_COMPAT_EPOCH x.compat).set R.SEC_STATUS_HN_EPOCH x.hn).set R.SEC_VERSION x.version)

/-! ### The MRAM configuration record (R657, R658) -/

/-- The MODE values of R212 that a management port may have. -/
def mgmtModeOk (p mode : Nat) : Bool :=
  match mode with
  | 1 | 2 | 3 | 4 => decide (p < 16)
  | 6 => decide (16 ≤ p ∧ p < 24)
  | 7 => decide (24 ≤ p)
  | _ => false

/-- The MODE nibble of port `p` in a record. -/
def modeNibble (l : List Byte) (p : Nat) : Nat := (l.getD (36 + p / 2) 0).toNat / 16 ^ (p % 2) % 16

/-- Whether a record is well formed. -/
def recordOk (l : List Byte) : Bool :=
  let f := fun (o n : Nat) => leNat (slice l o n)
  l.length == 64 && f 60 4 == crc32c (l.take 60) && f 0 4 == 1 && f 4 2 == 64 &&
  f 9 1 / 8 == 0 && decide (1 ≤ f 10 2 ∧ f 10 2 ≤ 4094) && decide (f 12 4 < 2 ^ 26) && f 16 1 % 2 == 0 && f 22 2 == 0 &&
  decide (10 ≤ f 24 4 ∧ f 24 4 ≤ 60000) && f 49 4 == 0 && f 53 4 == 0 && f 57 3 == 0 &&
  (List.range 26).all (fun p => if (f 12 4).testBit p then mgmtModeOk p (modeNibble l p) else modeNibble l p == 0)

/-- A well-formed record, decoded. -/
def recordOf (l : List Byte) : DevRecord :=
  let f := fun (o n : Nat) => leNat (slice l o n)
  { nodeId := f 6 2, classes := [f 8 1 % 4, f 8 1 / 4 % 4, f 8 1 / 16 % 4, f 8 1 / 64], mgmtClass := f 9 1 % 8, mgmtVid := f 10 2,
    mgmtPorts := f 12 4, mac := f 16 6, ownTimeout := f 24 4, pcieIds := f 28 8, mgmtModes := (List.range 26).map (modeNibble l) }

/-! ### Identity and attestation (R613 to R615, R659 to R670) -/

/-- The certificate record verifies under the vendor root (R660, R667). -/
def certOk (u : UpdSt) : Bool := decide (88 < u.cert.length) && hssOk Config.vendorRoot (u.cert.take 88) (u.cert.drop 88)

/-- 32 zero bytes. -/
def zeros32 : List Byte := List.replicate 32 0

/-- The measurement record (R669) with signature index `q`. -/
def measurement (s : State) (nonce : List Byte) (q : Nat) : List Byte :=
  let d := s.dev
  let u := d.upd
  let rcv := d.on R.SEC_STATUS_RECOVERY
  let flags := d.get R.SEC_STATUS_RECOVERY + 2 * d.get R.SEC_STATUS_CUST_ROOT + 4 * d.get R.SEC_STATUS_STORED_VALID
  leBytes 4 1 ++ leBytes 2 216 ++ leBytes 1 (d.get R.SEC_STATUS_LIFECYCLE) ++ leBytes 1 flags ++ slice u.serial 0 16 ++
  leBytes 2 (d.get R.HN_CTRL_NODE_ID) ++ leBytes 1 (d.get R.SEC_STATUS_COMPAT_EPOCH) ++ leBytes 1 (d.get R.SEC_STATUS_HN_EPOCH) ++
  leBytes 4 (d.get R.SEC_VERSION) ++ hashBytes (sha256 (Mem.bytes s.mem mramBase 0x10000)) ++
  (if rcv then zeros32 else hashBytes (sha256 u.run.signed)) ++
  (if u.journal = 2 then hashBytes (sha256 (manSigned s.mem)) else zeros32) ++
  (if u.active then slice u.cfgHash 0 32 else zeros32) ++ hashBytes (sha256 (slice u.record 0 64)) ++ slice nonce 0 16 ++
  leBytes 4 q ++ leBytes 4 ((d.now - d.sys.porAt) / 1000000000)

/-- ATTEST with offset 0 (R614, R666, R669): the counter word is written first; the result is kept. -/
def State.attest (s : State) (nonce : List Byte) : State :=
  let left := s.dev.get R.SEC_SIG_LEFT
  let q := 1048576 - left
  let msg := measurement s nonce q
  let sig := (List.range 1772).map (Config.signatureByte q msg)
  s.on (fun d =>
    let d1 := (d.set R.SEC_SIG_LEFT (left - 1))
    let d2 := { d1 with bridle := { d1.bridle with kept := some (nonce, msg ++ sig) } }
    if left = 65536 then d2.secCause R.SEC_EVT_SIG_LOW 6 else d2)

/-- Whether R615 permits a lifecycle transition, and R660 lets it take place. -/
def lifecycleMay (d : Dev) (dest : Nat) : Bool :=
  let st := d.get R.SEC_STATUS_LIFECYCLE
  (st == 0 && dest == 1 && certOk d.upd) || (st == 1 && dest == 2) || dest == 3

/-- SET_LIFECYCLE (R615, R659, R661). -/
def Dev.lifecycle (d : Dev) (dest : Nat) : Dev :=
  let d1 := if dest = 3 then
      ((((d.withUpd (fun u => { u with root := [], hasKey := false })).set R.SEC_STATUS_CUST_ROOT 0).set R.SEC_STATUS_KEY_VALID 0).set
        R.SEC_SIG_LEFT 0)
    else d
  let d2 := if dest = 3 ∧ 65536 ≤ d.get R.SEC_SIG_LEFT then d1.secCause R.SEC_EVT_SIG_LOW 6 else d1
  (d2.set R.SEC_STATUS_LIFECYCLE dest).secCause R.SEC_EVT_LIFECYCLE 7

/-- The device key is complete (R659, R664, R665): MANUFACTURE alone generates one. -/
def Dev.keyDone (d : Dev) : Dev :=
  if d.get R.SEC_STATUS_LIFECYCLE = 0 ∧ d.upd.hasKey = false then
    (d.withUpd (fun u => { u with hasKey := true })).set R.SEC_STATUS_KEY_VALID 1
  else d

end Machine

end Sys2Proof
end

