-- ==== Sys2Proof/Machine/Admit.lean ====
section
/-! DEFINITION. The checks that activation applies (R34 to R36, R137, R142 to R148, R185, R194, R260, R320, R410, R487, R498, R500, R530 to
R544, R576, R632, R658, R683), on the candidate state: the device with the activation's registers and memory contents in place. The order of
the checks across the chapters is the model's (log entry 60). -/

namespace Sys2Proof.Machine
open Sys2Proof

/-! ### The fields that activation sets -/

/-- Whether a field is set by activation (R152, R202, R215, R274, R322, R323, R326, R412, R416, R496, R587, R650). -/
def actKey (key : Nat) : Bool :=
  let a := key / 32
  let b := key % 32
  let r := a % 0x10000
  match a / 0x10000 with
  | 2 => decide (2 ≤ r / 0x1000) && r % 0x1000 == 0x300
  | 4 => (decide (0x8000 ≤ r ∧ r < 0xA000) && decide (r % 0x20 < 12)) || r == 0xA000
  | 8 => decide (0x9000 ≤ r ∧ r < 0xB000)
  | 0xB => (decide (r < 0x1800) && [0x14, 0x18, 0x1C, 0x28, 0x2C, 0x30, 0x34].contains (r % 0x80)) ||
           (decide (0x2000 ≤ r ∧ r < 0x2180) && decide (r % 0x20 < 8))
  | 0xC => r == 0x20 || decide (0x100 ≤ r ∧ r < 0x180) || (decide (0x1000 ≤ r ∧ r < 0x1A00) && r % 0x40 == 0x2C) || decide (0x4000 ≤ r ∧ r < 0xC000)
  | 0xD =>
    if r < 0xD000 then
      (r % 0x800 == 0 && b == 12) || [0x10, 0x14, 0x18, 0xC0].contains (r % 0x800) || (r % 0x800 == 0x400 && decide (b < 16))
    else (decide (r < 0xE000) && r % 0x20 == 0) || (decide (0xE000 ≤ r ∧ r < 0xE200) && (r % 0x40 == 0 || r % 0x40 == 8)) ||
      (r == 0xE800 && decide (0 < b ∧ b < 16)) || r == 0xE804 || decide (0xEC00 ≤ r ∧ r < 0xEE00)
  | 0xE => decide (0x800 ≤ r ∧ r < 0x900)
  | _ => false

/-- The register file with the activation's fields in place: those that the configuration does not name take their reset values. -/
def activatedRegs (regs : Tab Nat) (new : List (Nat × Nat)) : Tab Nat :=
  new.foldl (fun (t : Tab Nat) e => t.put e.1 e.2) (regs.filter (fun e => !actKey e.1))

/-- The fields that a configuration sets: those it names, and MACHINE for the 24 pins of the block of each IEC 61131-9 instance (R534). -/
def Configuration.fields (c : Configuration) : List (Nat × Nat) :=
  c.regs ++ (c.insts.filter (fun x => x.pers == 11)).flatMap (fun x => (List.range 24).map (fun i => ((R.GPIO_CFG_FUNC (24 * (x.ports % 4) + i)).key, 1)))

/-- Memory contents written. -/
def writeAll (m : List Host.Cell) (l : List (Nat × List Byte)) : List Host.Cell := l.foldl (fun m e => Mem.setBytes m e.1 e.2) m

/-- The owner that the configuration gives a bank, or its present owner (R487). -/
def bankOwnerIn (c : Configuration) (d : Dev) (n : Nat) : Nat := ((c.banks.find? (fun e => e.1 == n)).map (fun e => e.2)).getD (d.get (R.BANK_OWNER_AGENT n))

/-- The candidate: the state as the checks see it. -/
def State.candidate (s : State) (c : Configuration) : State :=
  { s with mem := writeAll s.mem c.memory,
           dev := { s.dev with regs := activatedRegs s.dev.regs c.fields, img := { s.dev.img with regions := c.regions, rules := c.rules },
                               net := { s.dev.net with rules := c.classes } } }

/-- A refusal: status and detail. -/
abbrev Refusal' := Option (Nat × Nat)

/-- The detail of R621. -/
def actDetail (area index : Nat) : Nat := area * 4096 + index % 4096

/-- A refusal by BAD_PARAM under a condition. -/
def bad (c : Bool) (area index : Nat) : Refusal' := if c then some (6, actDetail area index) else none
/-- A refusal by NO_RESOURCE under a condition. -/
def noRes (c : Bool) (area index : Nat) : Refusal' := if c then some (5, actDetail area index) else none

/-- A refusal by RESERVED_VALUE under a condition. -/
def reservedIf (c : Bool) (area index : Nat) : Refusal' := if c then some (7, actDetail area index) else none

/-- The first refusal. -/
def firstOf : List Refusal' → Refusal'
  | [] => none
  | some r :: _ => some r
  | none :: l => firstOf l

/-- The first refusal over a list. -/
def firstIn {α : Type} (l : List α) (f : α → Refusal') : Refusal' := firstOf (l.map f)

/-- A list with the position of each element. -/
def numbered {α : Type} (l : List α) : List (Nat × α) := (List.range l.length).zip l

/-! ### Area 12: malformed records (R621, R632, R658) -/

/-- The retention windows break R632. -/
def retentionBad (d : Dev) : Bool :=
  (List.range 64).any (fun n =>
    let a := d.retStart n
    let b := d.retEnd n
    d.hasWindow n && (decide (a < 16) || decide (d.strideT < b + d.strideG) || decide (b < a + 400)))

/-- A record of the configuration is malformed. -/
def malformed (c : Configuration) (x : ImageInfo) (d : Dev) : Refusal' :=
  bad (c.malformed || c.shortRecord || c.regs.any (fun e => !actKey e.1) || retentionBad d || x.record.any (fun l => !recordOk l)) 12 0xFFF

/-! ### Area 4: mapping rules (R142, R143, R146, R148) -/

/-- The types and lengths of item `i` of a rule's source of a kind. -/
def sourceType (s : State) (kind region item : Nat) : Nat × Nat :=
  if kind = 0 then ((itemDir s.mem s.dev region item).type, (itemDir s.mem s.dev region item).len) else (7, 1)

/-- Whether a rule's region items exist. -/
def itemsExist (d : Dev) (region item count : Nat) : Bool :=
  decide (region < 256) && d.on (R.IMG_CFG_VALID region) && decide (item + count ≤ d.get (R.IMG_CFG_ITEMS region))

/-- Whether a rule's operation matches its item types (R146). -/
def typesMatch (s : State) (x : MapRule) : Bool :=
  (x.srcKind != 0 || itemsExist s.dev x.srcRegion x.srcItem x.count) &&
  (x.src2Kind != 0 || itemsExist s.dev x.src2Region x.src2Item x.count) && itemsExist s.dev x.dstRegion x.dstItem x.count &&
  (List.range x.count).all (fun i =>
    let a := sourceType s x.srcKind x.srcRegion (x.srcItem + i)
    let b := sourceType s x.src2Kind x.src2Region (x.src2Item + i)
    let t := sourceType s 0 x.dstRegion (x.dstItem + i)
    match x.op with
    | 0 => a.1 == t.1 && (a.1 != 8 || a.2 == t.2)
    | 3 => decide (a.1 < 8 ∧ b.1 < 8 ∧ t.1 < 8)
    | _ => decide (a.1 < 8 ∧ t.1 < 8))

/-- The owners of a rule's region sources. -/
def sourceOwners (c : Configuration) (d : Dev) (x : MapRule) : List Nat :=
  let own := fun (r : Nat) => bankOwnerIn c d (d.get (R.IMG_CFG_BANK r))
  (if x.srcKind = 0 then [own x.srcRegion] else []) ++ (if x.src2Kind = 0 then [own x.src2Region] else [])

/-- Whether a rule by itself breaks R148. -/
def ruleBad (c : Configuration) (s : State) (x : MapRule) : Bool :=
  let d := s.dev
  let own := sourceOwners c d x
  let gait := fun (r : Nat) => d.get (R.IMG_CFG_GAIT r)
  let g := gait x.dstRegion
  x.reserved || (if x.op = 3 then decide (3 < x.src2Kind) else x.src2Kind != 4) || (x.src2Kind == 4 && x.wait.testBit 1) ||
  !typesMatch s x || (d.region x.dstRegion).producer == .sampler ||
  (bankOwnerIn c d (d.get (R.IMG_CFG_BANK x.dstRegion)) :: own).any (fun a => decide (12 < a)) ||
  (match own with | [a, b] => a != b | _ => false) ||
  (x.op == 2 && x.srcKind == 3) ||
  (x.chain && ((x.srcKind == 0 && gait x.srcRegion != g) || (x.src2Kind == 0 && gait x.src2Region != g))) ||
  (x.chain && decide (d.gaitP g * d.strideT ≤ x.deadline + d.strideG))

/-- Whether two item ranges of regions meet. -/
def rangesMeet (r a n r' a' n' : Nat) : Bool := r == r' && decide (a < a' + n') && decide (a' < a + n)

/-- Whether CHAIN rule `y` reads an item that CHAIN rule `x` produces. -/
def feeds (x y : MapRule) : Bool :=
  x.chain && y.chain &&
  ((y.srcKind == 0 && rangesMeet x.dstRegion x.dstItem x.count y.srcRegion y.srcItem y.count) ||
   (y.src2Kind == 0 && rangesMeet x.dstRegion x.dstItem x.count y.src2Region y.src2Item y.count))

/-- The rules that a set of rules feeds, directly or through others; `fuel` bounds the rounds. -/
def reached (l : List (Nat × MapRule)) (from' : List Nat) : Nat → List Nat
  | 0 => from'
  | fuel + 1 =>
    let more := (l.filter (fun y => !from'.contains y.1 && l.any (fun x => from'.contains x.1 && feeds x.2 y.2))).map (fun e => e.1)
    if more = [] then from' else reached l (from' ++ more) fuel

/-- Whether rule `n` lies on a cycle of CHAIN rules. -/
def inCycle (l : List (Nat × MapRule)) (n : Nat) (x : MapRule) : Bool :=
  let next := (l.filter (fun y => feeds x y.2)).map (fun e => e.1)
  (reached l next l.length).contains n

/-- Whether rule `x` produces an item. -/
def makes (x : MapRule) (region item : Nat) : Bool := rangesMeet x.dstRegion x.dstItem x.count region item 1

/-- The sample bindings of the candidate: region, item, first pin. -/
def sampleItems (d : Dev) : List (Nat × Nat × Nat) :=
  ((List.range 64).filter (fun i => d.on (R.STIR_SBIND_VALID i))).map (fun i =>
    (d.get (R.STIR_SBIND_REGION i), d.get (R.STIR_SBIND_ITEM i), d.get (R.STIR_SBIND_PIN i)))

/-- An item with two producers (R142, R148). -/
def twoProducers (c : Configuration) (d : Dev) : Refusal' :=
  let l := numbered c.rules
  let samples := sampleItems d
  firstOf [
    firstIn l (fun y => bad (l.any (fun x => decide (x.1 < y.1) && rangesMeet x.2.dstRegion x.2.dstItem x.2.count y.2.dstRegion y.2.dstItem y.2.count)) 4 y.1),
    firstIn l (fun y => bad (c.made.any (fun e => makes y.2 e.1 e.2.1)) 4 y.1),
    firstIn samples (fun e => bad (c.made.any (fun x => x.1 == e.1 && x.2.1 == e.2.1)) 10 e.2.2),
    firstIn c.made (fun e => firstIn c.made (fun x =>
      bad (x.1 == e.1 && x.2.1 == e.2.1 && decide (x.2.2 < e.2.2)) 8 (if e.2.2 = 64 then x.2.2 else e.2.2)))]

/-- The SAFETY items (R542, R544). -/
def safetyBad (c : Configuration) (s : State) : Refusal' :=
  let l := numbered c.rules
  let touches := fun (x : MapRule) (e : Nat × Nat) => makes x e.1 e.2 ||
    (x.srcKind == 0 && rangesMeet x.srcRegion x.srcItem x.count e.1 e.2 1) || (x.src2Kind == 0 && rangesMeet x.src2Region x.src2Item x.count e.1 e.2 1)
  firstOf [
    firstIn c.safety (fun e =>
      if (itemDir s.mem s.dev e.1 e.2).type = 8 then none
      else match l.find? (fun x => makes x.2 e.1 e.2), c.made.find? (fun x => x.1 == e.1 && x.2.1 == e.2) with
        | some x, _ => bad true 4 x.1
        | none, some m => bad true 8 (if m.2.2 = 64 then 0xFFF else m.2.2)
        | none, none => bad true 8 0xFFF),
    firstIn l (fun x => bad (x.2.op != 0 && c.safety.any (fun e => touches x.2 e)) 4 x.1)]

/-- Mapping rules. A rule and a sample binding on one item is refused with AREA 10 and the pin, as the table of R621 says of that condition of R148;
the other conditions of R148 name the rule, with AREA 4. -/
def checkRules (c : Configuration) (s : State) : Refusal' :=
  let l := numbered c.rules
  firstOf [
    noRes (decide (4096 < c.rules.length)) 4 0xFFF,
    firstIn (sampleItems s.dev) (fun e => bad (c.rules.any (fun x => makes x e.1 e.2.1)) 10 e.2.2),
    firstIn l (fun x => bad (ruleBad c s x.2) 4 x.1),
    firstIn l (fun x => bad (x.2.chain && inCycle l x.1 x.2) 4 x.1),
    twoProducers c s.dev, safetyBad c s]

/-! ### Area 5: network ports (R260) -/

/-- Whether port `p` is named by a classification rule as a destination, or by a group, a mirror or a pair. -/
def Dev.portNamed (d : Dev) (p : Nat) : Bool :=
  d.net.rules.any (fun r => !r.group && r.dest == p) || (List.range 4096).any (fun g => (d.destPorts true g).contains p) ||
  (d.on R.SW_MIRROR_EN && d.get R.SW_MIRROR_OUT_PORT == p) || (d.pairOf p).isSome

/-- Whether port `p` has gates, preemption or EEE enabled. -/
def Dev.portFancy (d : Dev) (p : Nat) : Bool := d.on (R.GATE_CTRL_EN p) || d.on (R.PREEMPT_CFG_EN p) || d.on (R.EEE_CFG_EN p)

/-- The pairs that use port `p`. -/
def Dev.pairsOf (d : Dev) (p : Nat) : List Nat :=
  (List.range 8).filter (fun k => d.get (R.RED_CFG_MODE k) != 0 && (d.get (R.RED_CFG_PORT_A k) == p || d.get (R.RED_CFG_PORT_B k) == p))

/-- Whether the fields that activation gives port `p` hold a reserved value (R212, R226, R230, R254): a mode that the port does not have, a limit or a
destination out of range, a ride path of mode 3 or to a team that is not one. -/
def portReserved (d : Dev) (p : Nat) : Bool :=
  let ride := decide (16 ≤ p ∧ p < 24)
  !modeOk p (d.get (R.PORT_CTRL_MODE p)) || decide (d.get (R.MAX_FRAME p) < 64 ∨ 16384 < d.get (R.MAX_FRAME p)) ||
  (!d.on (R.PORT_DEFAULT_GROUP p) && decide (39 < d.get (R.PORT_DEFAULT_DEST p))) ||
  (!ride && d.get (R.RIDE_CFG_MODE p) != 0) ||
  (ride && (d.get (R.RIDE_CFG_MODE p) == 3 || (d.get (R.RIDE_CFG_MODE p) == 1 && decide (11 < d.get (R.RIDE_CFG_TEAM p)))))

/-- Whether a stream holds a reserved value (R270). -/
def streamReserved (d : Dev) (s : Nat) : Bool :=
  decide (d.get (R.STREAM_CFG_HIST s) < 2 ∨ 32 < d.get (R.STREAM_CFG_HIST s)) || d.get (R.STREAM_CFG_RESET_MS s) == 0

/-- Whether a pair holds a reserved value (R271). -/
def pairReserved (d : Dev) (k : Nat) : Bool :=
  d.get (R.RED_CFG_MODE k) == 3 || (d.get (R.RED_CFG_MODE k) != 0 && decide (25 < d.get (R.RED_CFG_PORT_A k) ∨ 25 < d.get (R.RED_CFG_PORT_B k)))

/-- The reserved values of area 5 (R260): a classification rule's INDEX is its first ingress port, 0xFFF for a rule that has none; a stream's and
a pair's too name no port but the pair's port A (DESIGN CHOICE, log entry 189). -/
def portsReserved (c : Configuration) (d : Dev) : Refusal' :=
  firstOf [
    firstIn (List.range 26) (fun p => reservedIf (portReserved d p) 5 p),
    firstIn c.classRecs (fun l => reservedIf (classRuleReserved l) 5
      (((List.range 26).find? (fun p => (classRuleOf l).ports.testBit p)).getD 0xFFF)),
    firstIn (List.range 128) (fun s => reservedIf (streamReserved d s) 5 0xFFF),
    firstIn (List.range 8) (fun k => reservedIf (pairReserved d k) 5 (d.get (R.RED_CFG_PORT_A k)))]

/-- Network ports. -/
def checkPorts (c : Configuration) (d : Dev) : Refusal' :=
  let ps := List.range 26
  let ride := fun (p : Nat) => d.get (R.RIDE_CFG_MODE p) != 0
  let out := fun (p : Nat) => 16 + d.get (R.RIDE_CFG_OUT p)
  let edits := (List.range 8).map (fun i => 16 + i)
  let mode := fun (p : Nat) => d.get (R.PORT_CTRL_MODE p)
  let mirrored := fun (p : Nat) => d.on R.SW_MIRROR_EN && (d.get R.SW_MIRROR_SRC_LO).testBit p
  firstOf [
    firstIn ps (fun p => bad (mode p == 5 && (d.portNamed p || d.net.rules.any (fun r => r.ports.testBit p) || mirrored p || d.portFancy p)) 5 p),
    firstIn edits (fun p => bad (d.rideOutput p && (d.portNamed p || d.portFancy p)) 5 p),
    firstIn edits (fun p => bad (ride p && (out p == p || edits.any (fun q => decide (q < p) && ride q && out q == out p))) 5 p),
    firstIn edits (fun p => noRes (d.get (R.RIDE_CFG_MODE p) == 1 &&
      edits.any (fun q => decide (q < p) && d.get (R.RIDE_CFG_MODE q) == 1 && d.get (R.RIDE_CFG_TEAM q) == d.get (R.RIDE_CFG_TEAM p))) 5 p),
    firstIn ps (fun p => bad (decide (1 < (d.pairsOf p).length)) 5 p),
    firstIn (List.range 8) (fun k =>
      let a := d.get (R.RED_CFG_PORT_A k)
      let b := d.get (R.RED_CFG_PORT_B k)
      bad (d.get (R.RED_CFG_MODE k) != 0 && (mode a != mode b || d.rate a != d.rate b)) 5 a),
    firstIn ps (fun p => bad ((d.pairOf p).isSome && d.net.rules.any (fun r => r.stream.isSome && r.ports.testBit p)) 5 p),
    firstIn ps (fun p => bad ((d.pairsOf p).any (fun k => d.get (R.RED_CFG_MODE k) == 2) && d.on (R.PREEMPT_CFG_EN p)) 5 p),
    firstIn (List.range 16) (fun p => bad (d.on (R.EEE_CFG_EN p)) 5 p),
    noRes (decide (1024 < c.classes.length ∨ 128 < c.nStream ∨ 8 < c.nPair)) 5 0xFFF,
    portsReserved c d]

/-! ### Area 6: Harness (R320) -/

/-- One slot table. `blocks` gives the blocks of each slot's frame. -/
def checkSlots (d : Dev) (l : List HnSlot) (blocks : Nat → Nat) (fast : Bool) : Refusal' :=
  let n := numbered l
  let unit := if fast then 64 else 256
  let live := fun (x y : HnSlot) =>
    let g := Nat.gcd (d.gaitP x.gait) (d.gaitP y.gait)
    x.phase % g == y.phase % g
  firstOf [
    firstIn n (fun x => bad (decide (x.2.len * 2 < 5 * unit / 2) || decide (x.2.start * 2 < 64) ||
      decide (d.strideT < x.2.start * 2 + x.2.len * 2 + d.strideG)) 6 x.1),
    firstIn n (fun y => bad (n.any (fun x => decide (x.1 < y.1) && live x.2 y.2 && decide (x.2.start < y.2.start + y.2.len) &&
      decide (y.2.start < x.2.start + x.2.len))) 6 y.1),
    firstIn n (fun x => bad (decide (x.2.len * 20 < blocks x.1 * unit + 20 * d.get R.HN_CLUSTER_GUARD)) 6 x.1),
    firstIn n (fun x => bad (decide (d.gaitP x.2.gait ≤ x.2.phase) || decide (65536 ≤ x.2.phase)) 6 x.1)]

/-- Harness. -/
def checkHarness (c : Configuration) (d : Dev) : Refusal' :=
  let lanes := fun (r : Nat) => d.lanesSet [r]
  let beyond := fun (r n : Nat) => firstIn ((lanes r).drop n) (fun p => bad true 6 (0x800 + p))
  let fast := fun (r : List Nat) => (d.lanesSet r).all (fun p => d.on (R.HN_LANE_CFG_RATE p))
  if d.lanesSet [1, 2, 3, 4] = [] then none else
  firstOf [
    bad (d.get R.HN_CTRL_TB == 0 || d.get R.HN_CTRL_TB != d.strideTb) 6 0xFFF,
    beyond 3 15, beyond 1 1, beyond 2 1, beyond 4 1,
    (if lanes 1 = [] then beyond 2 0 else none), (if lanes 3 = [] then beyond 4 0 else none),
    checkSlots d c.slotsUp (fun i => c.blocks.getD i 0) (fast [1, 2]),
    checkSlots d c.slotsDown (fun i => c.blocks.getD (4096 + i) 0) (fast [3, 4]),
    noRes (decide (4096 < c.slotsUp.length ∨ 4096 < c.slotsDown.length ∨ 64 < c.nRoute)) 6 0xFFF,
    reservedIf (decide (d.get R.HN_CLUSTER_GUARD < 4 ∨ 64 < d.get R.HN_CLUSTER_GUARD)) 6 0xFFF,
    firstIn (numbered c.upRecs) (fun x => reservedIf (slotReserved x.2) 6 x.1),
    firstIn (numbered c.downRecs) (fun x => reservedIf (slotReserved x.2) 6 x.1),
    firstIn (List.range 16) (fun p => reservedIf (decide (4 < d.get (R.HN_LANE_CFG_ROLE p) ∨ 11 < d.get (R.HN_LANE_CFG_TEAM p))) 6 (0x800 + p))]

/-! ### Area 7: engines (R410) -/

/-- Whether a ring of `len` bytes lies wholly in one bank that the configuration gives the team. -/
def ringOk (c : Configuration) (d : Dev) (t base len : Nat) : Bool :=
  len == 0 || (decide (base + len ≤ 0x2000000) && base / 0x80000 == (base + len - 1) / 0x80000 && bankOwnerIn c d (base / 0x80000) == t)

/-- Whether the engine at position `i` of team `t` is UNUSED or a follower. -/
def Dev.notServing (d : Dev) (t i : Nat) : Bool := d.get (R.ENG_CFG_MODE (t * 4 + i)) == 0 || d.follower (t * 4 + i)

/-- Whether a field of engine `e` holds a reserved value (R381, R415). -/
def engineReserved (d : Dev) (e : Nat) : Bool :=
  let b := d.get (R.ENG_RXR_CFG_BUF_UNITS e)
  d.get (R.ENG_CFG_MODE e) == 3 || decide (256 < b) || (b == 0 && d.get (R.ENG_RXR_CFG_COUNT e) != 0) ||
  decide (1024 < d.get (R.ENG_RXR_CFG_COUNT e)) || decide (1024 < d.get (R.ENG_TXR_CFG_COUNT e))

/-- Engines. -/
def checkEngines (c : Configuration) (d : Dev) : Refusal' :=
  let es := List.range 48
  let mode := fun (e : Nat) => d.get (R.ENG_CFG_MODE e)
  firstOf [
    firstIn es (fun e => bad ((mode e == 1 && d.get (R.ENG_CFG_GAITS e) == 0) || (d.follower e && mode e != 0)) 7 e),
    firstIn es (fun e => bad (mode e != 0 && (d.get (R.ENG_ENTRY e) % 4 != 0 ||
      (c.programs.find? (fun p => p.1 == e)).any (fun p => decide (p.2.length ≤ d.get (R.ENG_ENTRY e))))) 7 e),
    firstIn es (fun e => bad (!ringOk c d (e / 4) (d.get (R.ENG_RXR_BASE e) * 64)
        (d.get (R.ENG_RXR_CFG_COUNT e) * (32 + 64 * d.get (R.ENG_RXR_CFG_BUF_UNITS e))) ||
      !ringOk c d (e / 4) (d.get (R.ENG_TXR_BASE e) * 64) (32 * d.get (R.ENG_TXR_CFG_COUNT e))) 7 e),
    firstIn (List.range 12) (fun t => bad ((List.range 4).any (fun i => mode (t * 4 + i) != 0) &&
      ((List.range 8).any (fun k => d.notServing t (bits (d.get (R.TEAM_CFG_RX_MAP t)) (2 * k) 2)) ||
       ((List.range 8).any (fun i => d.get (R.RIDE_CFG_MODE (16 + i)) == 1 && d.get (R.RIDE_CFG_TEAM (16 + i)) == t) &&
        d.notServing t (d.get (R.TEAM_CFG2_RIDE_ENG t))))) 7 (0x800 + t)),
    firstIn es (fun e => reservedIf (engineReserved d e) 7 e)]

/-! ### Area 8: personality instances (R530 to R544) -/

/-- The most instances of a personality and role (R532); 7, and 8 on serial channels, count both roles together. -/
def instLimit (p role : Nat) (serial : Bool) : Nat :=
  match p with
  | 1 => if role = 0 then 8 else 4
  | 2 | 3 => if role = 0 then 4 else 8
  | 4 => 4
  | 5 | 6 => if role = 0 then 2 else 4
  | 7 => 12
  | 8 => if serial then 12 else 4
  | 9 | 10 => 8
  | 11 => 4
  | _ => 1

/-- The instances that one engine runs (R535). -/
def perEngine (p role : Nat) : Nat :=
  match p with
  | 1 | 2 | 3 | 5 | 6 => if role = 0 then 1 else if p = 1 then 1 else 2
  | 4 => if role = 0 then 1 else 2
  | 7 | 10 => 4
  | 8 => 8
  | 9 => 2
  | _ => 1

/-- The engines that an instance needs (R535). -/
def enginesNeeded (p role : Nat) : Nat := if (p = 2 ∨ p = 3) ∧ role = 0 then 2 else 1

/-- The network ports of an instance. -/
def instPorts (x : Inst) : List Nat := (List.range 26).filter (fun p => x.ports.testBit p)

/-- Whether an instance runs on a serial channel. A Modbus record does not say whether PORTS is a channel or a mask (R530): it is a mask when it
names one network port that has a mode (log entry 61). -/
def onSerial (d : Dev) (x : Inst) : Bool :=
  x.pers == 7 || (x.pers == 8 && !(match instPorts x with | [p] => d.get (R.PORT_CTRL_MODE p) != 0 | _ => false))

/-- Whether a port is one that runs at 100 Mb/s, among those of N16 to N25; RGMII takes its rate from the external PHY (R212). -/
def at100 (d : Dev) (p : Nat) : Bool := decide (16 ≤ p) && (d.get (R.PORT_CTRL_MODE p) == 6 || d.get (R.PORT_CTRL_MODE p) == 7)

/-- Whether the ride paths of a Type 12 device are those of R534. -/
def type12Paths (d : Dev) (x : Inst) : Bool :=
  match instPorts x with
  | [a, b] =>
    let ok := fun (i o : Nat) => decide (16 ≤ i ∧ i < 24 ∧ 16 ≤ o ∧ o < 24) && d.get (R.RIDE_CFG_MODE i) == 1 && d.get (R.RIDE_CFG_TEAM i) == x.team &&
      16 + d.get (R.RIDE_CFG_OUT i) == o && d.get (R.RIDE_CFG_MODE o) == 2 && 16 + d.get (R.RIDE_CFG_OUT o) == i
    ok a b || ok b a
  | _ => false

/-- Whether an instance's port group is of a kind and mode that R532 allows. -/
def portsOk (d : Dev) (x : Inst) : Bool :=
  let ps := instPorts x
  let mode := fun (p : Nat) => d.get (R.PORT_CTRL_MODE p)
  let one := fun (f : Nat → Bool) => match ps with | [p] => mode p != 0 && mode p != 5 && f p | _ => false
  let any := fun (_ : Nat) => true
  match x.pers with
  | 1 => if x.role = 0 then one (at100 d) else (match ps with | [a, b] => decide (16 ≤ a ∧ b < 24) | _ => false)
  | 2 => one any
  | 3 => one any
  | 4 => (match ps with | [a, b] => at100 d a && at100 d b | _ => false)
  | 5 => one (at100 d)
  | 6 => one (fun p => mode p == 1 || mode p == 7)
  | 7 => decide (x.ports < 12) && d.get (R.SER_CTRL_MODE x.ports) == 1
  | 8 => if onSerial d x then decide (x.ports < 12) && (d.get (R.SER_CTRL_MODE x.ports) == 0 || d.get (R.SER_CTRL_MODE x.ports) == 2) else one any
  | 9 => one (fun p => decide (1 ≤ mode p ∧ mode p ≤ 4) || mode p == 7)
  | 10 => decide (x.ports < 8)
  | 11 => decide (x.ports < 4)
  | _ => ps != [] && ps.all (fun p => mode p == 5)

/-- Whether a gait period of `t` ns is allowed for a personality (R532). -/
def cycleOk (p t gait : Nat) : Bool :=
  match p with
  | 1 => decide (10000 ≤ t ∧ t ≤ 100000000)
  | 2 => (t % 31250 == 0 && decide (31250 ≤ t ∧ t ≤ 4000000)) || decide (250000 ≤ t ∧ t ≤ 512000000)
  | 3 => decide (500000 ≤ t ∧ t ≤ 3200000000)
  | 4 => (t % 31250 == 0 && decide (31250 ≤ t ∧ t ≤ 250000)) || (t % 250000 == 0 && decide (250000 ≤ t ∧ t ≤ 65000000))
  | 5 => decide (100000 ≤ t ∧ t ≤ 1000000000)
  | 6 => t % 31250 == 0 && decide (31250 ≤ t ∧ t ≤ 100000000)
  | 7 => decide (1000000 ≤ t ∧ t ≤ 1000000000)
  | 8 => true
  | 9 => decide (31250 ≤ t ∧ t ≤ 1000000000)
  | 10 => decide (250000 ≤ t ∧ t ≤ 10000000000)
  | 11 => decide (400000 ≤ t ∧ t ≤ 132800000)
  | _ => gait == 0

/-- Personalities that use a network port alone (R537). -/
def exclusive (p : Nat) : Bool := [1, 4, 5, 12].contains p

/-- Whether a personality's port group names network ports. -/
def onNetwork (d : Dev) (x : Inst) : Bool := !(onSerial d x) && x.pers != 10 && x.pers != 11

/-- Whether instance `i` breaks the port sharing of R537. -/
def sharingBad (d : Dev) (l : List (Nat × Inst)) (i : Nat) (x : Inst) : Bool :=
  let same := fun (p : Nat) => l.filter (fun y => onNetwork d y.2 && y.2.ports.testBit p)
  onNetwork d x && (instPorts x).any (fun p =>
    (same p).any (fun y => y.1 != i && (exclusive x.pers || exclusive y.2.pers) && decide (y.1 < i)) ||
    decide (4 < ((same p).filter (fun y => decide (y.1 ≤ i))).length) ||
    (x.pers == 2 && decide (1 < ((same p).filter (fun y => y.2.pers == 2 && decide (y.1 ≤ i))).length)))

/-- What kind of unit, and which, an instance binds: 1 a CAN controller, 2 a serial channel, 3 a Stirrup block. -/
def unitOf (d : Dev) (x : Inst) : Option (Nat × Nat) :=
  if x.pers = 10 then some (1, x.ports) else if onSerial d x then some (2, x.ports) else if x.pers = 11 then some (3, x.ports) else none

/-- Whether a pin of Stirrup block `b` has a sample binding, a latch binding or an enabled trigger. -/
def blockPinsUsed (d : Dev) (b : Nat) : Bool :=
  let inB := fun (p : Nat) => p / 24 == b
  (List.range 64).any (fun i => (d.on (R.STIR_SBIND_VALID i) && inB (d.get (R.STIR_SBIND_PIN i))) ||
    (d.on (R.STIR_LBIND_VALID i) && inB (d.get (R.STIR_LBIND_PIN i)))) ||
  (List.range 8).any (fun t => d.on (R.TRG_CTRL_EN t) && inB (d.get (R.TRG_CTRL_PIN t)))

/-- Whether instance `i`'s engines break R535 or R536. -/
def enginesBad (d : Dev) (l : List (Nat × Inst)) (i : Nat) (x : Inst) : Bool :=
  let es := instEngines x
  decide (es.length < enginesNeeded x.pers x.role) || es.any (fun e => d.follower e) ||
  l.any (fun y => decide (y.1 < i) && (y.2.pers != x.pers || y.2.role != x.role) && (instEngines y.2).any (fun e => es.contains e))

/-- The time base that an instance servoes (R538). -/
def servoed (d : Dev) (x : Inst) : Option Nat :=
  if x.pers = 12 then (if d.lanesSet [1, 2] = [] then none else some (d.get R.HN_CTRL_TB)) else if x.sync then some x.tb else none

/-- Device roles that servo the stride time base (R538): those that the record names, or that servo. -/
def isoDevice (x : Inst) : Bool := (([4, 5, 6].contains x.pers && x.role == 1) || ([1, 2].contains x.pers && x.role == 1 && x.sync))

/-- Controller roles, and the Harness root star, which read the stride time base and servo none (R538). -/
def readsStride (d : Dev) (x : Inst) : Bool :=
  ([1, 2, 4, 5, 6, 7].contains x.pers && x.role == 0) || (x.pers == 12 && (d.lanesSet [1, 2]).isEmpty)

/-- Whether a PTP domain is bound to a time base (R84, R538). -/
def ptpBound (d : Dev) (n : Nat) : Bool := d.on (R.TB_PTP_DOMAIN_DOM_EN n)

/-- Whether instance `i` breaks a time base rule of R538. A PTP domain may share the time base of an instance whose own standard takes its time
from PTP: Type 2, Type 23 and TSN PubSub (R533; DEDUCED, log entry 191). -/
def timeBaseBad (d : Dev) (l : List (Nat × Inst)) (i : Nat) (x : Inst) : Bool :=
  let mine := servoed d x
  mine == some 0 || (mine.isSome && l.any (fun y => decide (y.1 < i) && servoed d y.2 == mine)) ||
  (isoDevice x && (mine != some d.strideTb || !(d.lanesSet [1]).isEmpty || l.any (fun y => decide (y.1 < i) && isoDevice y.2))) ||
  (readsStride d x && (x.sync || x.tb != d.strideTb)) || ((mine.isSome && !([3, 6, 9].contains x.pers)) && ptpBound d (mine.getD 0))

/-- Personality instances. -/
def checkInsts (c : Configuration) (d : Dev) (revBad : Bool) : Refusal' :=
  let l := numbered c.insts
  let alike := fun (x y : Inst) => y.pers == x.pers && onSerial d y == onSerial d x && (onSerial d x || y.role == x.role)
  let run := fun (x : Inst) (e : Nat) => (c.insts.filter (fun y => (instEngines y).contains e && y.pers == x.pers)).length
  firstOf [
    noRes (decide (64 < c.insts.length) || c.insts.any (fun x => decide (instLimit x.pers x.role (onSerial d x) < (c.insts.filter (alike x)).length))) 8 0xFFF,
    firstIn l (fun x => if x.2.reserved then some (7, actDetail 8 x.1) else none),
    firstIn l (fun x => bad (!portsOk d x.2) 8 x.1),
    firstIn l (fun x => bad (!cycleOk x.2.pers (d.gaitP x.2.gait * d.strideT) x.2.gait) 8 x.1),
    firstIn c.options (fun i => bad true 8 i),
    firstIn c.conflicts (fun i => bad true 8 i),
    firstIn l (fun x => bad (sharingBad d l x.1 x.2) 8 x.1),
    firstIn l (fun x => bad ((unitOf d x.2).isSome && l.any (fun y => decide (y.1 < x.1) && unitOf d y.2 == unitOf d x.2)) 8 x.1),
    firstIn l (fun x => bad (x.2.pers == 11 && blockPinsUsed d x.2.ports) 8 x.1),
    firstIn l (fun x => bad (enginesBad d l x.1 x.2) 8 x.1),
    firstIn l (fun x => bad (timeBaseBad d l x.1 x.2) 8 x.1),
    firstIn l (fun x => bad (x.2.pers == 1 && x.2.role == 1 && !type12Paths d x.2) 8 x.1),
    firstIn l (fun x => noRes ((instEngines x.2).any (fun e => decide (perEngine x.2.pers x.2.role < run x.2 e))) 8 x.1),
    (if revBad then some (12, 0x0300) else none)]

/-! ### Areas 9, 10, 11: banks, pins, mailboxes -/

/-- Banks (R487): a region lies in a bank of its producer's agent; the edge sampler's may lie in any. -/
def checkBanks (c : Configuration) (d : Dev) : Refusal' :=
  firstIn c.regions (fun e =>
    let n := d.get (R.IMG_CFG_BANK e.1)
    bad (e.2.producer != .sampler && bankOwnerIn c d n != Producer.agent e.2.producer) 9 n)

/-- A binding of pins: region, item, first pin, count. -/
structure PinBind where
  region : Nat
  item   : Nat
  pin    : Nat
  count  : Nat
deriving DecidableEq, Repr

/-- The sample bindings, or the latch bindings, of the candidate. -/
def pinBinds (d : Dev) (latch : Bool) : List PinBind :=
  if latch then
    ((List.range 64).filter (fun i => d.on (R.STIR_LBIND_VALID i))).map (fun i =>
      { region := d.get (R.STIR_LBIND_REGION i), item := d.get (R.STIR_LBIND_ITEM i), pin := d.get (R.STIR_LBIND_PIN i), count := d.get (R.STIR_LBIND_COUNT_M1 i) + 1 })
  else
    ((List.range 64).filter (fun i => d.on (R.STIR_SBIND_VALID i))).map (fun i =>
      { region := d.get (R.STIR_SBIND_REGION i), item := d.get (R.STIR_SBIND_ITEM i), pin := d.get (R.STIR_SBIND_PIN i), count := d.get (R.STIR_SBIND_COUNT_M1 i) + 1 })

/-- Whether two bindings share a pin. -/
def pinsMeet (x y : PinBind) : Bool := decide (x.pin < y.pin + y.count) && decide (y.pin < x.pin + x.count)

/-- Pins (R498, R500). -/
def checkPins (c : Configuration) (s : State) : Refusal' :=
  let d := s.dev
  let sb := numbered (pinBinds d false)
  let lb := numbered (pinBinds d true)
  let type := fun (x : PinBind) => (itemDir s.mem d x.region x.item).type
  let wide := fun (t n : Nat) => (t == 0 && n == 1) || (t == 1 && decide (n ≤ 8)) || (t == 3 && decide (n ≤ 16)) || (t == 5 && decide (n ≤ 32))
  firstOf [
    noRes (decide (64 < c.nSample ∨ 64 < c.nLatch)) 10 0xFFF,
    firstIn (sb ++ lb) (fun x => bad (!itemsExist d x.2.region x.2.item 1) 10 x.2.pin),
    firstIn sb (fun x => bad ((d.region x.2.region).producer != .sampler) 10 x.2.pin),
    firstIn sb (fun y => bad (sb.any (fun x => decide (x.1 < y.1) && x.2.region == y.2.region && x.2.item == y.2.item)) 10 y.2.pin),
    firstIn (sb ++ lb) (fun x => bad (x.2.pin / 24 != (x.2.pin + x.2.count - 1) / 24 || decide (96 < x.2.pin + x.2.count)) 10 x.2.pin),
    firstIn lb (fun x => bad ((List.range x.2.count).any (fun i => d.get (R.GPIO_CFG_FUNC (x.2.pin + i)) != 2)) 10 x.2.pin),
    firstIn lb (fun y => bad (lb.any (fun x => decide (x.1 < y.1) && pinsMeet x.2 y.2)) 10 y.2.pin),
    firstIn (List.range 96) (fun p => bad (d.get (R.GPIO_CFG_FUNC p) == 2 && !lb.any (fun x => pinsMeet x.2 { region := 0, item := 0, pin := p, count := 1 })) 10 p),
    firstIn sb (fun x => bad (!wide (type x.2) x.2.count) 10 x.2.pin),
    firstIn lb (fun x => bad (type x.2 == 8 || type x.2 == 7) 10 x.2.pin),
    firstIn (List.range 96) (fun p => reservedIf (decide (d.get (R.GPIO_CFG_FUNC p) = 3)) 10 p)]

/-- Mailboxes (R576). -/
def checkMbs (d : Dev) : Refusal' :=
  firstIn ((List.range 14).map (fun i => i + 2)) (fun n => bad (d.on (R.MB_CFG_VALID n) && (List.range 256).any (fun i =>
    d.get (R.EV_CFG_KIND i) == 2 && d.get (R.EV_CFG_ENGINE i) == d.get (R.MB_CFG_ENGINE n) && 16 + d.get (R.EV_CFG_TARGET i) == d.get (R.MB_CFG_LINE n))) 11 n)

/-- Records that hold a reserved value: RESERVED_VALUE, but BAD_PARAM for a mapping rule (R148, R260, R320, R410, R544). -/
def checkReserved (c : Configuration) (area : Nat) : Refusal' :=
  firstIn (c.reserved.filter (fun x => x / 4096 == area)) (fun x => some (if area = 4 ∨ area = 12 then 6 else 7, x))

/-! ### Admission (R34, R35, R137, R185, R194) -/

/-- W in ns (R34): negative when the guard leaves no time. -/
def Dev.admitW (d : Dev) : Int := (d.strideT : Int) - d.strideG - 16

/-- A shortfall of a kind at an index. -/
def short (kind index need : Nat) (have' : Int) : Option (Nat × Nat × Nat) :=
  if (need : Int) ≤ have' then none else some (kind, index, ((need : Int) - have').toNat)

/-- The first shortfall over a list of indices. -/
def firstShort (l : List Nat) (f : Nat → Option (Nat × Nat × Nat)) : Option (Nat × Nat × Nat) := l.findSome? f

/-- The copies that input `p` makes of a frame for a group (R168, R185): one for each port but its own, and one for each port of a pair (R248). -/
def Dev.groupSize (d : Dev) (p g : Nat) : Nat :=
  (d.pairCopies { src := p, dst := 0, cls := 0, bytes := [] } ((d.destPorts true g).filter (fun q => q != p))).2.length

/-- The most copies that a multicast group of a scheduled class asks of input `p`. -/
def Dev.groupCopies (d : Dev) (p : Nat) : Nat :=
  let rs := d.net.rules.filter (fun r => r.group && d.schedClass r.cls && r.ports.testBit p)
  let ns := rs.map (fun r => d.groupSize p r.dest)
  let dflt := if d.on (R.PORT_DEFAULT_GROUP p) && d.schedClass (d.get (R.PORT_DEFAULT_CLASS p)) then d.groupSize p (d.get (R.PORT_DEFAULT_DEST p)) else 0
  ns.foldl max dflt

/-- The scheduled cells of fabric port `p` in a base stride (R194, R736): those of the scheduled frames, once for each copy at their ingress and
once at each egress, and the mapping cells of the rules whose executor is not the owner of their destination. -/
def schedNeed (c : Configuration) (s : State) (p : Nat) : Nat :=
  let d := s.dev
  let frames := c.frames.map (fun f =>
    let n := (f.len + 20 + 31) / 32 * f.times
    (if f.src = p then n * f.dsts.length else 0) + n * (f.dsts.filter (fun j => j == p)).length)
  let rules := c.rules.map (fun x =>
    let own := fun (r : Nat) => bankOwnerIn c d (d.get (R.IMG_CFG_BANK r))
    let dst := own x.dstRegion
    let ex := if x.srcKind = 0 then own x.srcRegion else if x.src2Kind = 0 then own x.src2Region else dst
    let bytes := (List.range x.count).foldl (fun a i => a + (itemDir s.mem d x.dstRegion (x.dstItem + i)).size) 0
    let n := max 1 (cellCount bytes)
    if ex = dst then 0 else (if cellPort ex = p then n else 0) + (if cellPort dst = p then n else 0))
  (frames ++ rules).foldl (fun a b => a + b) 0

/-- C_p of R194. -/
def Dev.slotCapacity (d : Dev) (p : Nat) : Int := if p = 39 then 0 else d.admitW * (d.rate p : Nat) * 7 / (8 * 256 * 1000 : Nat)

/-- The first resource that falls short: kind, index, shortfall. -/
def admission (c : Configuration) (s : State) : Option (Nat × Nat × Nat) :=
  let d := s.dev
  let w := d.admitW
  let acc := fun (n : Nat) => ((c.accesses.filter (fun e => e.1 == n)).map (fun e => e.2)).foldl (fun a b => a + b) 0
  let quiet := fun (n : Nat) =>
    ((d.regionList.filter (fun r => d.get (R.IMG_CFG_BANK r) == n)).map (fun r => (d.get (R.IMG_SIZE_BUF_BYTES r) + 7) / 8)).foldl (fun a b => a + b) 0 +
    ((pinBinds d true).filter (fun x => d.get (R.IMG_CFG_BANK x.region) == n)).length
  [firstShort (List.range 48) (fun e => if d.get (R.ENG_CFG_MODE e) = 1 then short 1 e (d.get (R.ENG_WCYC e)) w else none),
   firstShort (List.range 40) (fun p => short 2 p (schedNeed c s p) (d.slotCapacity p)),
   firstShort (List.range 26) (fun p => short 2 p (d.groupCopies p) (nDirect (d.rate p))),
   firstShort (List.range 64) (fun n => short 3 n (acc n) (w * 7 / 8)),
   firstShort (List.range 64) (fun n => short 3 n (quiet n) ((d.strideG : Int) - 24))].findSome? id

/-- `ADMIT_RESULT` after an admission check (R35, R68). -/
def Dev.setAdmit (d : Dev) (r : Option (Nat × Nat × Nat)) : Dev :=
  let x := r.getD (0, 0, 0)
  ((d.set R.ADMIT_RESULT_KIND x.1).set R.ADMIT_RESULT_INDEX x.2.1).set R.ADMIT_RESULT_SHORT (min x.2.2 0xFFFFF)

/-! ### Harness epochs (R683) -/

/-- The epochs of the members of the device's clusters, by node ID: workers in SYNC, the star, and members whose relayed frames arrived
in the last 256 base strides. -/
def Dev.peers (d : Dev) : Tab Nat :=
  let workers := (d.lanesOf [3]).filterMap (fun p => if d.linkUp p then (d.hlane p).epoch.map (fun e => (d.get (R.HN_LANE_STATUS_MEMBER_ID p), e)) else none)
  let stars := match d.followed with | some p => ((d.hlane p).epoch.map (fun e => (d.hn.star, e))).toList | none => []
  let relayed := (d.hn.heardFrom.filter (fun e => decide (d.stride.last < e.2.2 + 256))).map (fun e => (e.1, e.2.1))
  (workers ++ stars ++ relayed).foldl (fun (t : Tab Nat) e => t.put e.1 e.2) []

/-- The first peer epoch that refuses an image (R683). -/
def epochRefuses (d : Dev) (x : ImageInfo) : Option Nat :=
  (List.find? (fun (e : Nat × Nat) => decide (x.hn + 1 < e.2) || decide (e.2 + 1 < x.hn) || decide (e.2 < x.minPeer)) d.peers).map (fun e => e.2)

/-! ### All of them -/

/-- The activation checks of every chapter but admission, in the model's order. -/
def checks (c : Configuration) (x : ImageInfo) (revBad : Bool) (cs : State) : Refusal' :=
  let d := cs.dev
  firstOf [malformed c x d, checkReserved c 12, checkRules c cs, checkReserved c 4, checkPorts c d, checkReserved c 5, checkHarness c d,
    checkReserved c 6, checkEngines c d, checkReserved c 7, checkInsts c d revBad, checkReserved c 8, checkBanks c d, checkReserved c 9,
    checkPins c cs, checkReserved c 10, checkMbs d, checkReserved c 11]

/-- Activation's checks (R611, R681): the state with `ADMIT_RESULT` and the causes set, and the refusal. -/
def State.checkAll (s : State) (c : Configuration) (x : ImageInfo) (revBad : Bool) : State × Refusal' :=
  match epochRefuses s.dev x with
  | some e => (s.on (fun d => d.secCause R.SEC_EVT_EPOCH_REFUSE 5), some (12, 0x200 + e))
  | none =>
    let cs := s.candidate c
    match checks c x revBad cs with
    | some r => (s, some r)
    | none =>
      let a := admission c cs
      (s.on (fun d => d.setAdmit a), a.map (fun y => (5, actDetail y.1 y.2.1)))

end Sys2Proof.Machine
end

