-- ==== Sys2Proof/Machine/Activate.lean ====
section
/-! DEFINITION. Activation and its swap (R149, R150, R200, R409, R472, R487, R543, R611, R628, R680 to R682), and the restart of the Bridle
(R417, R594, R676). -/

namespace Sys2Proof.Machine
open Sys2Proof

/-! ### What the configuration needs ON (R472, R628) -/

/-- The domains that a candidate device uses: TEAM domains with an engine that is not UNUSED, PHY and SERDES with a port that has a mode, and
FABRIC. -/
def Dev.domainsNeeded (d : Dev) : List Nat :=
  2 :: ((List.range 4).filter (fun x => (List.range 12).any (fun i => d.get (R.ENG_CFG_MODE (x * 12 + i)) != 0))).map (fun x => x + 3) ++
  [7, 8].filter (fun x => (List.range 26).any (fun p => portDomain p == x && d.portMode p != 0))

/-- Requests of ON for every bank and domain that the configuration uses. -/
def State.powerFor (s : State) (c : Configuration) : State :=
  let need := (s.candidate c).dev.domainsNeeded
  s.on (fun d =>
    let d1 := need.foldl (fun (a : Dev) x => if a.domain x = 1 ∨ a.get (R.PWR_DOMAIN_REQ x) = 1 then a else (a.domainRequest x 1).1) d
    c.banks.foldl (fun (a : Dev) e => if a.get (R.BANK_POWER_STATE e.1) = 0 then a else a.bankRequest e.1 0) d1)

/-- Every bank and domain that the configuration uses is ON. -/
def State.poweredFor (s : State) (c : Configuration) : Bool :=
  (s.candidate c).dev.domainsNeeded.all (fun x => s.dev.domain x == 1) && c.banks.all (fun e => s.dev.get (R.BANK_POWER_STATE e.1) == 0)

/-- The gaits in use: those of the STRIDE engines and of the regions. -/
def Dev.gaitsUsed (d : Dev) : List Nat :=
  (List.range 4).filter (fun g =>
    (List.range 48).any (fun e => d.get (R.ENG_CFG_MODE e) == 1 && (d.get (R.ENG_CFG_GAITS e)).testBit g) ||
    d.regionList.any (fun r => d.get (R.IMG_CFG_GAIT r) == g))

/-- Whether a base edge can be the swap edge: every gait in use has an edge there (R611). -/
def Dev.swapIndex (d : Dev) (n : Nat) : Bool := d.gaitsUsed.all (fun g => d.gaitEdge g n)

/-! ### What changes -/

/-- The value a field has in one device and another. -/
def differs (d d' : Dev) (f : Fld) : Bool := d.get f != d'.get f

/-- Whether activation changes engine `e`: its program, its mode, its gaits or its entry (R409, R543). -/
def engineChanges (c : Configuration) (d d' : Dev) (e : Nat) : Bool :=
  let k := d.leader e
  let k' := d'.leader e
  let differ := fun (f : Nat → Fld) => d.get (f k) != d'.get (f k')
  k != k' || c.programs.any (fun p => p.1 == k') || differ R.ENG_CFG_MODE || differ R.ENG_CFG_GAITS || differ R.ENG_ENTRY

/-- Whether region `r` keeps its layout: the three words of its register and its directory (R150). -/
def regionKept (s s' : State) (r : Nat) : Bool :=
  let same := fun (f : Fld) => !differs s.dev s'.dev f
  let at' := fun (x : State) => Mem.bytes x.mem (bankBase (x.dev.get (R.IMG_CFG_BANK r)) + x.dev.bufOff r 3) (4 * x.dev.get (R.IMG_CFG_ITEMS r))
  s.dev.on (R.IMG_CFG_VALID r) && s'.dev.on (R.IMG_CFG_VALID r) && same (R.IMG_CFG_GAIT r) && same (R.IMG_CFG_BANK r) && same (R.IMG_CFG_HOST_PROD r) &&
  same (R.IMG_CFG_ITEMS r) && same (R.IMG_BASE_BASE r) && same (R.IMG_SIZE_BUF_BYTES r) && at' s == at' s'

/-- The latch binding of a pin. -/
def latchOf (d : Dev) (p : Nat) : Option PinBind := (pinBinds d true).find? (fun x => decide (x.pin ≤ p) && decide (p < x.pin + x.count))

/-- Whether the LATCH pin `p` starts from LATCH_INIT. -/
def pinChanges (d d' : Dev) (p : Nat) : Bool :=
  differs d d' (R.GPIO_CFG_FUNC p) || differs d d' (R.GPIO_CFG_LATCH_INIT p) || latchOf d p != latchOf d' p

/-! ### Regions (R149) -/

/-- A buffer of a new region: its header with the role, ages 255, and the initial values. -/
def initBuffer (m : List Host.Cell) (d : Dev) (c : Configuration) (r b : Nat) : List Host.Cell :=
  let a := d.bufAddr r b
  let n := d.get (R.IMG_CFG_ITEMS r)
  let role := match b with | 0 => 2 | 1 => 1 | _ => 0
  let m1 := Mem.clearRange m a (d.get (R.IMG_SIZE_BUF_BYTES r))
  let m2 := Mem.setBytes (Mem.setBytes m1 a (headerBytes 0 0 (2 * role) 0 0 255)) (a + 16) (List.replicate n 255)
  (c.initial.filter (fun e => e.1 == r)).foldl (fun m e => Mem.setBytes m (a + (itemDir m d r e.2.1).off) (e.2.2.take (itemDir m d r e.2.1).size)) m2

/-- A new region initialised. -/
def State.initRegion (s : State) (c : Configuration) (r : Nat) : State :=
  let d := s.dev
  let m := initBuffer (initBuffer (initBuffer s.mem d c r 0) d c r 1) d c r 2
  let d1 := (((((d.set (R.IMG_STATE_SEQ r) 0).set (R.IMG_STATE_NEW r) 0).set (R.IMG_STATE_MAX_AGE r) 255).set (R.IMG_STATE_PUB r) 0).set (R.IMG_STATE_WORK r) 1).set (R.IMG_STATE_SAMP r) 2
  { s with mem := m, dev := d1 }

/-- The regions of the configuration, kept or initialised (R149, R150). `old` is the state before the swap. -/
def State.placeRegions (s old : State) (c : Configuration) : State :=
  (List.range 256).foldl (fun (a : State) r =>
    match Tab.find? c.regions r with
    | none => a
    | some x =>
      if regionKept old a r then a.on (fun d => d.setRegion r { old.dev.region r with producer := x.producer, inst := x.inst })
      else (a.initRegion c r).on (fun d => d.setRegion r { producer := x.producer, inst := x.inst })) (s.on (fun d => { d with img := { d.img with regions := [] } }))

/-! ### Owners, engines, pins, mailboxes, ports -/

/-- The owner and CFG_LOCK of every bank (R487). -/
def Dev.placeOwners (d : Dev) (c : Configuration) : Dev :=
  let d1 := c.banks.foldl (fun (a : Dev) e => a.cancelHandover e.1) d
  (List.range 64).foldl (fun (a : Dev) n =>
    match c.banks.find? (fun e => e.1 == n) with
    | some e => (a.setOwner n e.2).set (R.BANK_OWNER_CFG_LOCK n) 1
    | none => a.set (R.BANK_OWNER_CFG_LOCK n) 0) d1.handoversNow

/-- The inactive instruction RAM bank of engine `e` loaded with a program, and the banks swapped (R409). -/
def State.loadProgram (s : State) (e : Nat) (l : List Byte) : State :=
  let at' := engBase e + 0x8000 * (1 - s.dev.get (R.ENG_STATUS_ACT_BANK e))
  { s with mem := Mem.setBytes (Mem.clearRange s.mem at' 0x8000) at' l,
           dev := s.dev.set (R.ENG_STATUS_ACT_BANK e) (1 - s.dev.get (R.ENG_STATUS_ACT_BANK e)) }

/-- The programs of the engines that change, loaded; a follower runs its leader's (R402, R409). -/
def State.loadPrograms (s : State) (c : Configuration) : State :=
  c.programs.foldl (fun (a : State) p =>
    let a1 := a.loadProgram p.1 p.2
    match a1.dev.partner p.1 with
    | some k => if a1.dev.follower k then a1.loadProgram k p.2 else a1
    | none => a1) s

/-- An engine that activation changes starts anew (R409): a HALTED one stays HALTED, an UNUSED one is IDLE. A changed ring starts at its
first entry. -/
def Dev.placeEngine (d old : Dev) (c : Configuration) (e : Nat) : Dev :=
  let d1 := if differs old d (R.ENG_RXR_BASE e) || differs old d (R.ENG_RXR_CFG_COUNT e) then d.setEngine e { d.engine e with rxNext := 0 } else d
  let d2 := if differs old d (R.ENG_TXR_BASE e) || differs old d (R.ENG_TXR_CFG_COUNT e) then (d1.set (R.ENG_TX_IDX_HEAD e) 0).set (R.ENG_TX_IDX_TAIL e) 0 else d1
  if !engineChanges c old d e ∨ d.engState e = 0 then d2
  else
    let d3 := d2.setEngine e { d2.engine e with first := true, slot := none, wait := none }
    if d.engState e = 6 then d3
    else match d.engMode e with
      | 1 =>
        let d4 := d3.set (R.ENG_STATUS_STATE e) 4
        if d.on R.STRIDE_STATUS_RUNNING then d4.entryEngine e d.stride.last false else d4
      | 2 => d3.enterEngine e 0
      | _ => d3.set (R.ENG_STATUS_STATE e) 1

/-- The pins, mailboxes, ports, ride paths, streams and pairs whose configuration changes. -/
def Dev.placeUnits (d old : Dev) : Dev :=
  let fresh := (List.range 96).filter (fun p => pinChanges old d p)
  let d1 := { d with io := { d.io with latched := fresh.foldl (fun (m : BitVec 96) p => m &&& ~~~ (BitVec.ofNat 96 (2 ^ p))) d.io.latched } }
  let d2 := ((List.range 14).map (fun i => i + 2)).foldl (fun (a : Dev) n =>
    if [R.MB_CFG_VALID n, R.MB_CFG_HOST n, R.MB_CFG_BRIDLE n, R.MB_CFG_ENGINE n, R.MB_CFG_LINE n].any (fun f => differs old d f) then a.mbBothReset n else a) d1
  let d3 := (List.range 26).foldl (fun (a : Dev) p => if differs old d (R.PORT_CTRL_MODE p) ∧ old.linkUp p then a.linkDown p 0 else a) d2
  let rideKept := fun (p : Nat) => !([R.RIDE_CFG_MODE p, R.RIDE_CFG_OUT p, R.RIDE_CFG_TEAM p, R.RIDE_CFG_LATE_MARK p].any (fun f => differs old d f))
  let streamKept := fun (n : Nat) => !([R.STREAM_CFG_FUNC n, R.STREAM_CFG_STRIP n, R.STREAM_CFG_HIST n, R.STREAM_CFG_RESET_MS n].any (fun f => differs old d f))
  let pairKept := fun (k : Nat) => !([R.RED_CFG_MODE k, R.RED_CFG_PORT_A k, R.RED_CFG_PORT_B k, R.RED_ADDR k].any (fun f => differs old d f))
  d3.withNet (fun n => { n with rides := n.rides.filter (fun e => rideKept e.1), edits := n.edits.filter (fun e => rideKept e.1),
                                recov := n.recov.filter (fun e => streamKept e.1), dup := n.dup.filter (fun e => pairKept e.1), fwd := n.fwd.filter (fun e => pairKept e.1) })

/-- Harness takes its tables from the configuration and is enabled when a lane has a role (R322). -/
def Dev.placeHarness (d : Dev) (c : Configuration) : Dev :=
  let d1 := d.withHn (fun h => { h with up := c.slotsUp, down := c.slotsDown, pubs := c.pubs, star := c.star, cls := c.hnClass })
  if d1.lanesSet [1, 2, 3, 4] = [] then d1 else d1.hnEnable .bridle 1

/-- The instances that stay held: those whose record is unchanged (R606). -/
def heldAfter (u : UpdSt) (c : Configuration) : List Nat := u.held.filter (fun i => (u.insts[i]?).isSome && u.insts[i]? == c.insts[i]?)

/-- Chapter 16 after a swap: the running image, the floor, the record of the next start-up (R681); the session closes (R611). -/
def Dev.placeImage (d : Dev) (c : Configuration) (x : ImageInfo) : Dev :=
  let d1 := (d.withUpd (fun u => { u with insts := c.insts, active := x.config.isSome, cfgHash := x.cfgHash, held := heldAfter u c, holdReq := [], swap := none, record := x.record.getD u.record })).runImage x
  let d2 := ((d1.set R.SEC_STATUS_FLOOR (max (d1.get R.SEC_STATUS_FLOOR) x.compat)).set R.STRIDE_STATUS_ADMITTED (if x.config.isSome then 1 else 0)).set
    R.SW_STATUS_CFG_ACTIVE (if x.config.isSome then 1 else 0)
  let d3 := d2.secCause R.SEC_EVT_ACTIVATED 4
  if d.upd.session.any (fun u => u.verified) then d3.setSession none else d3

/-! ### The restart of the Bridle (R417, R594, R676, R682) -/

/-- The Bridle restarts: the commands in progress get no reply (R559), but for those that `keep` names (R680). -/
def Dev.bridleRestart (d : Dev) (keep : CmdTask → Bool) : Dev :=
  { d with bridle := { d.bridle with tasks := d.bridle.tasks.filter keep, restart := false } }.set R.BRIDLE_STATUS_STATE 2

/-- The restart completes (R417, R676): from the image, or from Pip's recovery command processor while no stored image is verified. -/
def Dev.bridleRestartDone (d : Dev) : Dev :=
  if d.get R.BRIDLE_STATUS_STATE = 1 ∨ d.sys.starting then d
  else
    let d1 := ((d.setEngine 48 {}).set R.BRIDLE_STATUS_STATE 1).inc R.BRIDLE_STATUS_RESTARTS
    if d.on R.SEC_STATUS_STORED_VALID then d1 else d1.set R.SEC_STATUS_RECOVERY 1

/-! ### The swap -/

/-- The runs of the new rules: due at once when the swap is made at an edge of a running stride (log entry 165). -/
def newRuns (d : Dev) (c : Configuration) : Tab RuleRun :=
  if d.on R.STRIDE_STATUS_RUNNING then (List.range c.rules.length).map (fun n => (n, {})) else []

/-- The system part of the state changed. -/
def Dev.withSys (d : Dev) (f : SysSt → SysSt) : Dev := { d with sys := f d.sys }

/-- The end of a start-up with a RUN strap, once its activation is made (R706): every port with a mode is enabled, RUN is written. -/
def Dev.strapDone (d : Dev) : Dev :=
  if !d.sys.runDue then d
  else ((List.range 26).foldl (fun (a : Dev) p => if a.portMode p = 0 then a else a.portEnable p true)
    (d.withSys (fun y => { y with runDue := false }))).runStart

/-- The swap itself: everything that activation changes, in the cycle of the flip (R200, R487, R543, R680, R681). -/
def State.swapIn (s : State) (c : Configuration) (x : ImageInfo) : State :=
  let rcv := s.dev.on R.SEC_STATUS_RECOVERY
  let newBridle := x.bridle != s.dev.upd.run.bridle
  let s0 := s.on (fun d => d.fabSync)
  let s1 : State := { s0 with mem := writeAll s0.mem c.memory, dev := { s0.dev with regs := activatedRegs s0.dev.regs c.fields } }
  let s2 := s1.on (fun d => c.memory.foldl (fun (a : Dev) e => (wordsOf e.1 e.2.length).foldl (fun (a : Dev) w => a.setEcc w none) a) (d.placeOwners c))
  let budget := (List.range 40).map (schedNeed c (s.candidate c))
  let s3 := ((s2.placeRegions s c).on (fun d => ({ d with img := { d.img with rules := c.rules, runs := newRuns d c } }.set R.MAP_SUMMARY_RULES c.rules.length).withNet
    (fun n => { n with rules := c.classes }))).loadPrograms c
    |>.on (fun d => (numbered budget).foldl (fun (a : Dev) e => a.set (R.SW_PORT_CNT_SCHED_BUDGET e.1) e.2) d)
  s3.on (fun d =>
    let d1 := (List.range 48).foldl (fun (a : Dev) e => a.placeEngine s.dev c e) d
    let d2 := (((d1.placeUnits s.dev).placeHarness c).placeImage c x).strapDone
    if rcv then (d2.set R.SEC_STATUS_RECOVERY 0).bridleRestart (fun t => t.op == 0x0804)
    else if newBridle then { d2 with bridle := { d2.bridle with restart := true } } else d2)

/-- The configuration of an image: an image without a configuration section has an empty one. -/
def configOf (x : ImageInfo) : Configuration :=
  match x.config with
  | none => {}
  | some l => (Config.configuration l).getD { malformed := true }

/-- Whether an activation waits for a swap edge (R611, R680): a configuration is active and its stride is live. -/
def Dev.swapWaits (d : Dev) : Bool := d.upd.active && d.strideLive

/-- The swap of an activation that need not wait for an edge, once everything it uses is ON. -/
def State.swapIfFree (s : State) : State :=
  match s.dev.upd.swap with
  | some (c, x) => if !s.dev.swapWaits && s.poweredFor c then s.swapIn c x else s
  | none => s

/-- UPDATE_ACTIVATE (R611, R680, R681) from a source: the state, and the refusal's status and detail. Without a refusal the activation is
made, or waits. -/
def State.updActivate (s : State) (stored : Bool) : State × Option (Nat × Nat) :=
  let d := s.dev
  let may := if stored then d.upd.journal == 2 && !d.on R.SEC_STATUS_RECOVERY else d.upd.session.any (fun x => x.verified)
  if !may then (s, some (13, 9))
  else if d.upd.swap.isSome then (s, some (4, 3))
  else
    let x := imageInfo s.mem
    let c := configOf x
    let r := s.checkAll c x (revisionBad s.mem)
    match r.2 with
    | some e => (r.1, some e)
    | none => (((r.1.powerFor c).on (fun d => d.withUpd (fun u => { u with swap := some (c, x) }))).swapIfFree, none)

/-- The swap edge (R611): the row follows the execution of the edge. -/
def State.activationSwap (s : State) : State :=
  match s.dev.upd.swap with
  | some (c, x) =>
    if !s.dev.swapWaits then s.swapIfFree
    else if s.poweredFor c && s.dev.on R.STRIDE_STATUS_RUNNING && s.dev.swapIndex s.dev.stride.last then s.swapIn c x
    else s
  | none => s

/-- FREE engines that the swap changes stop at the fence before the swap edge (R409). -/
def State.fenceFree (s : State) (n : Nat) : State :=
  match s.dev.upd.swap with
  | some (c, _) =>
    let d' := (s.candidate c).dev
    if s.poweredFor c && s.dev.swapIndex n then
      s.on (fun d => (List.range 48).foldl (fun (a : Dev) e =>
        if a.engMode e = 2 ∧ (a.engState e = 2 ∨ a.engState e = 3) ∧ engineChanges c s.dev d' e then
          (a.setEngine e { a.engine e with wait := none, slot := if (a.engine e).wait = none then (a.engine e).slot else none }).set (R.ENG_STATUS_STATE e) 5 else a) d)
    else s
  | none => s

end Sys2Proof.Machine
end

