-- ==== Sys2Proof/Machine/Serial.lean ====
section
/-! DEFINITION. The serial channels (chapter 7, R365 to R378): transmission with its driver enable, reception into a Punnet, frame
status records. -/

namespace Sys2Proof.Machine
open Sys2Proof

/-- Channel `n`. -/
def Dev.serSt (d : Dev) (n : Nat) : SerSt := d.ser.getD n {}
/-- The device with channel `n` changed; the levels of `SER_STATUS[n]` follow. -/
def Dev.setSer (d : Dev) (n : Nat) (x : SerSt) : Dev :=
  (({ d with ser := d.ser.put n x } : Dev).set (R.SER_STATUS_TX_LEVEL n) x.tx.length).set (R.SER_STATUS_RXSTAT_LEVEL n) x.stats.length
/-- A cause of `SER_EVT[n]` bit `b` raises EV162 + n (R377, R378). -/
def Dev.serCause (d : Dev) (n : Nat) (f : Fld) (b : Nat) : Dev := d.cause f ((d.get (R.SER_EVT_EN n)).testBit b) (162 + n)

/-- The time of one character in units of 1/16 × 5 ns = 0.3125 ns (R365, R366). -/
def Dev.charTime (d : Dev) (n : Nat) : Nat :=
  let type3 := d.get (R.SER_CTRL_MODE n) == 1
  let parity := if type3 || d.get (R.SER_CTRL_PARITY n) != 0 then 1 else 0
  let stop := if !type3 && d.on (R.SER_CTRL_STOP n) then 2 else 1
  d.get (R.SER_BAUD_DIV n) * (9 + parity + stop)

/-- Bytes of a FIFO up to the first that ends a frame. -/
def uptoLast : List SerByte → List SerByte
  | [] => []
  | b :: r => if b.last then [b] else b :: uptoLast r

/-- Whether a FIFO holds the end of a frame. -/
def hasLast (l : List SerByte) : Bool := l.any (fun b => b.last)

/-- The bytes of the frame being sent whose characters have begun leave the FIFO (R374). -/
def Dev.serDrain (d : Dev) (n : Nat) : Dev :=
  let x := d.serSt n
  if !d.on (R.SER_STATUS_TX_BUSY n) || x.flushed || hasLast x.sent || d.now < x.start then d else
  let begun := (d.now - x.start) * 16 / (5 * max 1 (d.charTime n)) + 1 - x.sent.length
  let take := (uptoLast x.tx).take begun
  d.setSer n { x with sent := x.sent ++ take, tx := x.tx.drop take.length }

/-- A write of `SER_TXDATA[n]` (R373, R375). -/
def Dev.serTxData (d : Dev) (w : Writer) (n v : Nat) : Dev :=
  let d0 := d.serDrain n
  let x := d0.serSt n
  let b : SerByte := { data := BitVec.ofNat 8 v, last := v.testBit 8, timed := v.testBit 8 && v.testBit 9 }
  let d1 := if x.discard then d0.setSer n { x with discard := !b.last }
    else if 256 ≤ x.tx.length then d0.serCause n (R.SER_EVT_TX_OVF n) 6
    else d0.setSer n { x with tx := x.tx ++ [b] }
  d1.rsvIf (v / 2 ^ 10 != 0) w (0xA001C + n * 0x100)

/-- A frame is eligible (R374). -/
def Dev.serEligible (d : Dev) (n : Nat) : Bool :=
  hasLast (d.serSt n).tx || decide (256 ≤ (d.serSt n).tx.length)

/-- SERn_DE takes a level. -/
def Dev.serDe (d : Dev) (n : Nat) (lv : Bool) : Dev := (d.set (R.SER_STATUS_DE n) (if lv then 1 else 0)).emit (.de n lv)

/-- DE rises before the first start bit of an eligible frame (R374); with AT the frame waits for `SER_TX_AT`. -/
def Dev.serTxStart (d : Dev) (n : Nat) : Dev :=
  if !d.on (R.SER_CTRL_EN n) || d.on (R.SER_STATUS_TX_BUSY n) || !d.serEligible n then d else
  let timed := (uptoLast (d.serSt n).tx).any (fun b => b.timed)
  let d0 := if timed then d.passTo (d.get (R.SER_RX_CFG_TB n)) (d.get (R.SER_TX_AT n) * 2 ^ 32 - d.get (R.SER_DE_LEAD n) * 10 * 2 ^ 32) else d
  let d1 := (d0.serDe n true).set (R.SER_STATUS_TX_BUSY n) 1
  d1.setSer n { d1.serSt n with start := d1.now + d1.get (R.SER_DE_LEAD n) * 10, lag := d1.get (R.SER_DE_LAG n), sent := [], flushed := false, echo := 0 }

/-- The characters of a frame sent, then LAG (R374): time passes to the fall of DE. -/
def Dev.serSendAll (d : Dev) (n : Nat) (l : List SerByte) : Dev :=
  let x := d.serSt n
  let done := x.start + (l.length * d.charTime n * 5 + 15) / 16 + x.lag * 10
  let d1 := if d.now < done then d.passNs (done - d.now) else d
  let d2 := l.foldl (fun (a : Dev) b => a.emit (.serial n b.data)) d1
  ((d2.serDe n false).set (R.SER_STATUS_TX_BUSY n) 0).setSer n { d2.serSt n with sent := [], flushed := false }

/-- The frame ends: TX_DONE (R374, R375 for a flushed frame). -/
def Dev.serTxEnd (d : Dev) (n : Nat) : Dev :=
  if !d.on (R.SER_STATUS_TX_BUSY n) then d else
  let x := d.serSt n
  let rest := if x.flushed || hasLast x.sent then [] else uptoLast x.tx
  let all := x.sent ++ rest
  if !x.flushed && !hasLast all then d else
  let d1 := (d.setSer n { x with tx := x.tx.drop rest.length }).serSendAll n all
  (d1.inc (R.SER_CNT_TX_FRAMES n)).serCause n (R.SER_EVT_TX_DONE n) 0

/-- The FIFO empties before the END byte (R375). -/
def Dev.serUnderrun (d : Dev) (n : Nat) : Dev :=
  let x := d.serSt n
  if !d.on (R.SER_STATUS_TX_BUSY n) || x.flushed || hasLast x.sent || hasLast x.tx then d else
  let d1 := (d.setSer n { x with tx := [] }).serSendAll n (x.sent ++ x.tx)
  ((d1.setSer n { d1.serSt n with discard := true }).inc (R.SER_CNT_TX_UNDERRUN n)).serCause n (R.SER_EVT_TX_UNDERRUN n) 1

/-- FLUSH_TX (R375): a character in progress completes and its frame ends there. -/
def Dev.serFlush (d : Dev) (n : Nat) : Dev :=
  let d0 := d.serDrain n
  d0.setSer n { d0.serSt n with tx := [], flushed := d0.on (R.SER_STATUS_TX_BUSY n) && !hasLast (d0.serSt n).sent }

/-- CLR_CNT (R378). -/
def Dev.serClrCnt (d : Dev) (n : Nat) : Dev :=
  d.clear [R.SER_CNT_RX_FRAMES n, R.SER_CNT_TX_FRAMES n, R.SER_CNT_RX_ERR_FRAMES n, R.SER_CNT_RX_CHAR_ERR n,
    R.SER_CNT_TX_UNDERRUN n, R.SER_CNT_RXSTAT_LOST n, R.SER_CNT_ECHO_ERR n]

/-- EN written (R367): a receive frame in progress ends without a record when the channel is disabled (DEDUCED from R368, log entry
17). -/
def Dev.serEnable (d : Dev) (n : Nat) (on : Bool) : Dev :=
  let d1 := d.set (R.SER_CTRL_EN n) (if on then 1 else 0)
  if on then d1 else (d1.set (R.SER_STATUS_RX_BUSY n) 0).setSer n { d1.serSt n with rx := [], flags := 0 }

/-- CFG_REJ (R367). -/
def Dev.serCfgRej (d : Dev) (n : Nat) : Dev := d.serCause n (R.SER_EVT_CFG_REJ n) 7

/-- MODE, PARITY and STOP of a `SER_CTRL[n]` write (R365, R367, R8). -/
def Dev.serCfg (d : Dev) (w : Writer) (n v : Nat) : Dev :=
  let changes := bits v 1 3 ≠ d.get (R.SER_CTRL_MODE n) ∨ bits v 4 2 ≠ d.get (R.SER_CTRL_PARITY n) ∨ bits v 6 1 ≠ d.get (R.SER_CTRL_STOP n)
  if d.on (R.SER_CTRL_EN n) then (if changes then d.serCfgRej n else d)
  else
    let off := 0xA0000 + n * 0x100
    let d1 := if bits v 1 3 ≤ 2 then d.set (R.SER_CTRL_MODE n) (bits v 1 3) else d.rsvWrite w off
    let d2 := if bits v 4 2 ≤ 2 then d1.set (R.SER_CTRL_PARITY n) (bits v 4 2) else d1.rsvWrite w off
    d2.set (R.SER_CTRL_STOP n) (bits v 6 1)

/-- A write of `SER_CTRL[n]` (R377). -/
def Dev.serCtrlWrite (d : Dev) (w : Writer) (n v : Nat) : Dev :=
  let d1 := (d.serCfg w n v).set (R.SER_CTRL_ECHO n) (bits v 7 1)
  let d2 := if v.testBit 8 then d1.serClrCnt n else d1
  let d3 := if v.testBit 9 then d2.serFlush n else d2
  let d4 := if v.testBit 0 = d3.on (R.SER_CTRL_EN n) then d3 else d3.serEnable n (v.testBit 0)
  d4.rsvIf (v / 2 ^ 10 != 0) w (0xA0000 + n * 0x100)

/-- A write of `SER_BAUD` or `SER_RX_CFG` (R367). -/
def Dev.serLockedWrite (d : Dev) (w : Writer) (n off v : Nat) : Dev :=
  if d.on (R.SER_CTRL_EN n) then d.serCfgRej n
  else
    let a := 0xA0000 + n * 0x100 + off
    let r := d.wordWrite a v
    r.1.rsvIf r.2 w a

/-! ### Reception (R368 to R372) -/

/-- The echo of a character compared (R372). -/
def Dev.serEcho (d : Dev) (n : Nat) (b : Byte) : Dev :=
  let d0 := d.serDrain n
  let x := d0.serSt n
  let d1 := d0.setSer n { x with echo := x.echo + 1 }
  if ((x.sent ++ x.tx)[x.echo]?).map (fun s => s.data) = some b then d1
  else (d1.inc (R.SER_CNT_ECHO_ERR n)).serCause n (R.SER_EVT_ECHO_ERR n) 5

/-- The time base value in ns of an instant `ago` units of 250 ps before now. -/
def Dev.agoNs (d : Dev) (tb ago : Nat) : Nat := ((d.tb tb).val - ago * (d.tb tb).incr / 8) / 2 ^ 32 % 2 ^ 64

/-- A frame begins at its first start bit (R368, R371). -/
def Dev.serBegin (d : Dev) (n ago : Nat) : Dev :=
  if d.on (R.SER_STATUS_RX_BUSY n) then d
  else (d.set (R.SER_STATUS_RX_BUSY n) 1).setSer n { d.serSt n with rx := [], flags := 0, gapErr := d.get (R.SER_GAP_ERR n), ts := d.agoNs (d.get (R.SER_RX_CFG_TB n)) ago }

/-- The flags of a receive frame raised; bits as in `SER_RXSTAT` (R377). -/
def Dev.serFlag (d : Dev) (n bit : Nat) (c : Bool) : Dev :=
  if c then d.setSer n { d.serSt n with flags := (d.serSt n).flags ||| 2 ^ bit } else d

/-- A received byte goes to the channel's Punnet (R370); PN_DROP when the Punnet does not take it. -/
def Dev.serByte (d : Dev) (n : Nat) (b : Byte) : Dev :=
  let pn := d.get (R.SER_RX_CFG_PN n)
  let drop := !d.pnWriter pn 2 n || decide (125 < (d.pn pn).q.length)
  let d1 := (d.pnItemFrom pn 2 n b.toNat).serFlag n 25 drop
  d1.setSer n { d1.serSt n with rx := (d1.serSt n).rx ++ [b] }

/-- CRC-16 of the Modbus serial line over a list of bytes. -/
def modbusCrc (l : List Byte) : Nat := l.foldl (fun c b => crcData (crcPoly 2) c b.toNat 8) 65535

/-- Whether a Modbus frame fails its check (R365). -/
def modbusBad (l : List Byte) : Bool :=
  decide (l.length < 4) || leNat (l.drop (l.length - 2)) != modbusCrc (l.take (l.length - 2))

/-- A status record enters the FIFO, or is lost when 16 are held (R371). -/
def Dev.serPush (d : Dev) (n : Nat) (r : SerStat) : Dev :=
  let x := d.serSt n
  if x.stats.length < 16 then d.setSer n { x with stats := x.stats ++ [r] }
  else (d.inc (R.SER_CNT_RXSTAT_LOST n)).serCause n (R.SER_EVT_RXSTAT_LOST n) 4

/-- The receive frame ends (R368, R370, R371). -/
def Dev.serFrameEnd (d : Dev) (n : Nat) : Dev :=
  if !d.on (R.SER_STATUS_RX_BUSY n) then d else
  let x := d.serSt n
  let crc := d.get (R.SER_CTRL_MODE n) == 2 && modbusBad x.rx
  let flags := x.flags ||| (if crc then 2 ^ 26 else 0)
  let d1 := (d.pnBoundaryFrom (d.get (R.SER_RX_CFG_PN n)) 2 n).set (R.SER_STATUS_RX_BUSY n) 0
  let d2 := (d1.setSer n { d1.serSt n with rx := [], flags := 0 }).serPush n { word := 2 ^ 31 + flags + min 65535 x.rx.length, ts := x.ts }
  let d3 := (d2.inc (R.SER_CNT_RX_FRAMES n)).serCause n (R.SER_EVT_RX_FRAME n) 2
  if flags = 0 then d3 else (d3.inc (R.SER_CNT_RX_ERR_FRAMES n)).serCause n (R.SER_EVT_RX_ERR n) 3

/-- A character is received (R368 to R370, R372); `gap` is the idle time in ns before its start bit, `ago` the age of its start bit. After more idle time
than GAP_END the frame before has ended (R368). -/
def Dev.serChar (d0 : Dev) (n : Nat) (b : Byte) (parityErr frameErr : Bool) (gap ago : Nat) : Dev :=
  let d := if d0.get (R.SER_GAP_END n) * 10 < gap ∧ d0.on (R.SER_STATUS_DE n) = false then d0.serFrameEnd n else d0
  if !d.on (R.SER_CTRL_EN n) || !d.on (R.SER_RX_CFG_RX_EN n) then d
  else if d.on (R.SER_STATUS_DE n) then (if d.on (R.SER_CTRL_ECHO n) then d.serEcho n b else d)
  else
    let inFrame := d.on (R.SER_STATUS_RX_BUSY n)
    let e := (d.serSt n).gapErr
    let d1 := (d.serBegin n ago).serFlag n 30 (inFrame && e != 0 && decide (e * 10 < gap))
    let odd := d.get (R.SER_CTRL_MODE n) != 1 && d.get (R.SER_CTRL_PARITY n) == 2
    let none' := d.get (R.SER_CTRL_MODE n) != 1 && d.get (R.SER_CTRL_PARITY n) == 0
    if b == 0 && frameErr && (none' || (parityErr == odd)) then d1.serFlag n 27 true
    else
      let d2 := (d1.serFlag n 29 parityErr).serFlag n 28 frameErr
      (if parityErr || frameErr then d2.inc (R.SER_CNT_RX_CHAR_ERR n) else d2).serByte n b

/-- The time of the head record that `SER_RXSTAT_TS[n]` shows (R371, R377). -/
def Dev.serHeadTs (d : Dev) (n : Nat) : Nat :=
  match (d.serSt n).stats with
  | r :: _ => r.ts
  | [] => (d.serSt n).lastTs

/-- A read of `SER_RXSTAT[n]` pops the head record (R371). -/
def Dev.serPop (d : Dev) (n : Nat) : Nat × Dev :=
  match (d.serSt n).stats with
  | r :: rest => (r.word, d.setSer n { d.serSt n with stats := rest, lastTs := r.ts })
  | [] => (0, d)

end Sys2Proof.Machine
end

