-- ==== Sys2Proof/Machine/BarAccess.lean ====
section
/-! DEFINITION. BAR0 and BAR2 accesses (R9, R10, R15 to R20): what a word write does at each offset, what a word reads as and what
reading it does, the read shadows, and the memory windows. -/

namespace Sys2Proof

/-- Byte `o` of the identity region as BAR2 shows it, for what the region holds: lifecycle, signatures left, epoch floor and journal; serial number,
certificate record, customer root and configuration record (R655; the spec gives no places). -/
opaque Config.identityByte : List Nat → List (List Byte) → Nat → Byte
/-- Byte `o` of the tree cache as BAR2 shows it, with a device key or without (R655, R665). -/
opaque Config.treeByte : Bool → Nat → Byte

end Sys2Proof

namespace Sys2Proof.Machine
open Sys2Proof

/-! ### Word writes, by block -/

/-- A word write with no behaviour beyond the access codes (R6, R8). -/
def Dev.plainWrite (d : Dev) (w : Writer) (off v : Nat) : Dev := (d.wordWrite off v).1.rsvIf (d.wordWrite off v).2 w off

/-- A write of the LO word of a time value: 1,000,000,000 ns or more is reserved in PTP format (R109). -/
def Dev.loWrite (d : Dev) (w : Writer) (ptp : Bool) (off v : Nat) : Dev :=
  if ptp && decide (1000000000 ≤ v % 2 ^ 32) then d.rsvWrite w off else d.plainWrite w off v

/-- Block 0x3: events (R711). -/
def Dev.writeEvents (d : Dev) (w : Writer) (r v : Nat) : Dev :=
  let off := 0x30000 + r
  if r < 0x400 then d.evCfgWrite w (r / 4) v
  else if r = 0x440 then (if v.testBit 0 then d.evClrCnt else d).rsvIf (v / 2 != 0) w off
  else if 0x8000 ≤ r ∧ r < 0x8100 ∧ r % 16 = 12 then (d.msixCtrlWrite (r / 16 % 16) v).rsvIf (v / 2 != 0) w off
  else d.plainWrite w off v

/-- Block 0x4: Orchard control and process images. -/
def Dev.writeOrchard (d : Dev) (w : Writer) (r v : Nat) : Dev :=
  let off := 0x40000 + r
  if r < 0x400 then
    (if r % 16 = 4 then d.bankHandoverWrite w (r / 16) v else if r % 16 = 8 then d.bankPowerWrite w (r / 16) v else d.plainWrite w off v)
  else if r = 0x2000 then d.orchCtrlWrite w v
  else if 0x8000 ≤ r ∧ r < 0xA000 ∧ r % 32 = 0x14 then d.imgCommitWrite w (r / 32 % 256) v
  else d.plainWrite w off v

/-- Block 0x5: time bases and the calendar clock. -/
def Dev.writeTime (d : Dev) (w : Writer) (r v : Nat) : Dev :=
  let off := 0x50000 + r
  if r < 0x800 then
    (if r % 256 = 0 then d.tbCtrlWrite w (r / 256) v
     else if r % 256 = 0x20 then d.loWrite w (d.ptp (r / 256)) off v
     else d.plainWrite w off v)
  else if r = 0x800 then (if v.testBit 0 then d.snap else d).rsvIf (v / 2 != 0) w off
  else if 0x3000 ≤ r ∧ r < 0x3200 then
    (if r % 64 = 0 then d.trgCtrlWrite w (r / 64 % 8) v
     else if r % 64 = 8 then d.loWrite w (d.ptp (d.get (R.TRG_CTRL_TB (r / 64 % 8)))) off v
     else d.plainWrite w off v)
  else if r = 0x4000 then d.rtcCtrlWrite w v
  else d.plainWrite w off v

/-- Block 0x6: the stride, gaits and Lunge units. -/
def Dev.writeStride (d : Dev) (w : Writer) (r v : Nat) : Dev :=
  let off := 0x60000 + r
  if r = 0 then d.strideCtrlWrite w v
  else if r = 4 ∨ r = 8 ∨ r = 0x10 ∨ r = 0x14 ∨ (0x100 ≤ r ∧ r < 0x180 ∧ r % 32 = 0) then d.lockedWordWrite w off v
  else if 0x200 ≤ r ∧ r < 0x210 then d.latchPhaseWrite w (r / 4 % 4) v
  else if 0x400 ≤ r ∧ r < 0x500 ∧ r % 64 = 0 then d.lungeCtrlWrite w (r / 64 % 4) v
  else d.plainWrite w off v

/-- Block 0x7: Punnets. -/
def Dev.writePunnets (d : Dev) (w : Writer) (r v : Nat) : Dev :=
  let off := 0x70000 + r
  if r < 0x800 then
    (if r % 32 = 0 then d.pnCfgWrite w (r / 32) v
     else if r % 32 = 4 then (if v.testBit 0 then d.pnFlush (r / 32) else d).rsvIf (v / 2 != 0) w off
     else if r % 32 = 16 then d.pnWrWrite w (r / 32) v
     else d.plainWrite w off v)
  else d.plainWrite w off v

/-- Block 0x8: Stirrups. -/
def Dev.writeStirrups (d : Dev) (w : Writer) (r v : Nat) : Dev :=
  let off := 0x80000 + r
  let b := r / 0x1000
  let o := r % 0x1000
  let m := 8 * b + o / 64 % 8
  if r = 0x8000 then d.stirTimeWrite w v
  else if 4 ≤ b then d.plainWrite w off v
  else if o < 0x100 then d.stirProgWrite w b (o / 4) v
  else if o = 0x100 then d.blkCtrlWrite w b v
  else if 0x200 ≤ o ∧ o < 0x400 then
    (match o % 64 with
     | 0 => d.mctrlWrite w m v
     | 4 | 8 | 12 | 0x20 => d.machCfgWrite w m off v
     | 0x14 => d.stirTx m v
     | _ => d.plainWrite w off v)
  else d.plainWrite w off v

/-- Block 0x9: CAN. -/
def State.writeCan (s : State) (w : Writer) (r v : Nat) : State :=
  let c := r / 0x2000
  let o := r % 0x2000
  let n := o / 32 % 32
  if o = 0 then s.on (fun d => d.canCtrlWrite w c v)
  else if 0x400 ≤ o ∧ o < 0x460 then
    (if o % 32 < 16 then s.on (fun d => d.txbRecWrite w c n (o % 32) v)
     else if o % 32 = 24 then s.on (fun d => d.txbCtrlWrite w c n v)
     else s.on (fun d => d.plainWrite w (0x90000 + r) v))
  else if 0x800 ≤ o then
    (if s.dev.txbBusy c (o / 0x800 - 1) then s.on (fun d => d.canCfgRej c)
     else { s with mem := Mem.setBytes s.mem (bar0Mem (0x90000 + r)) (leBytes 4 v) })
  else s.on (fun d => d.canRegWrite w c o v)

/-- Block 0xA: serial channels. -/
def Dev.writeSerial (d : Dev) (w : Writer) (r v : Nat) : Dev :=
  let n := r / 256
  if 12 ≤ n then d.plainWrite w (0xA0000 + r) v
  else match r % 256 with
    | 0 => d.serCtrlWrite w n v
    | 4 | 0x18 => d.serLockedWrite w n (r % 256) v
    | 0x1C => d.serTxData w n v
    | _ => d.plainWrite w (0xA0000 + r) v

/-- Block 0xC: the switch. -/
def Dev.writeSwitch (d : Dev) (w : Writer) (r v : Nat) : Dev :=
  let off := 0xC0000 + r
  match r with
  | 0 => (if v.testBit 0 then d.swClrCnt else d).rsvIf (v / 2 != 0) w off
  | 0x800 => d.ringBaseWrite w false v
  | 0x804 => d.ringCfgWrite w false v
  | 0x808 => d.htxTailWrite w v
  | 0x810 => d.ringBaseWrite w true v
  | 0x814 => d.ringCfgWrite w true v
  | _ => d.plainWrite w off v

/-- A write of `PORT_CTRL[p]` (R263). -/
def Dev.portCtrlWrite (d : Dev) (w : Writer) (p v : Nat) : Dev :=
  let off := 0xD0000 + p * 0x800
  let r := d.wordWrite off (v &&& 0xFFFFFFFE)
  let d1 := if v.testBit 1 then r.1.portClrCnt p else r.1
  let d2 := if v.testBit 0 = d.on (R.PORT_CTRL_EN p) then d1.set (R.PORT_CTRL_EN p) (v % 2)
    else (d1.set (R.PORT_CTRL_EN p) (1 - v % 2)).portEnable p (v.testBit 0)
  (if v.testBit 7 then d2.anRestart p else d2).rsvIf r.2 w off

/-- Block 0xD: port MACs, Harness, MDIO. -/
def Dev.writePorts (d : Dev) (w : Writer) (r v : Nat) : Dev :=
  let off := 0xD0000 + r
  let p := r / 0x800
  let ptp := d.ptp (d.get (R.TS_PORT_CFG_TB p))
  if p < 26 then
    (match r % 0x800 with
     | 0 => d.portCtrlWrite w p v
     | 0x20 => d.gateCtrlWrite w p v
     | 0x28 => d.gateIdleWrite w p v
     | 0x30 => d.gclWrite w p v
     | 0x40 | 0x60 | 0x80 => d.loWrite w ptp off v
     | 0xA0 => d.preemptWrite w p v
     | 0xD0 => d.diagWrite w p v
     | _ => d.plainWrite w off v)
  else if r = 0xE800 then d.hnEnable w v
  else if r = 0xF000 then d.mdioWrite w v
  else d.plainWrite w off v

/-- Block 0xE: power and AON. -/
def State.writePower (s : State) (w : Writer) (r v : Nat) : State :=
  let off := 0xE0000 + r
  if r < 0x24 then s.on (fun d => d.domainWrite w (r / 4) v)
  else if r = 0x100 then s.on (fun d => (d.slpCfgWrite w v).sleepIfAll)
  else if r = 0x108 then s.slpKickWrite w v
  else if 0x200 ≤ r ∧ r < 0x320 then s.on (fun d => (d.slpNetWrite w (r / 32 % 16) (r % 32) v).sleepIfAll)
  else if 0x400 ≤ r ∧ r < 0x440 then s.on (fun d => (d.plainWrite w off v).showTrx)
  else s.on (fun d => d.plainWrite w off v)

/-- A word write at a BAR0 offset (R8, R9, R15), whoever may do it. -/
def State.wordAct (s : State) (w : Writer) (off v : Nat) : State :=
  let r := off % 0x10000
  match off / 0x10000 with
  | 2 => s.mbWrite w (r / 0x1000) (r % 0x1000) v
  | 3 => s.on (fun d => d.writeEvents w r v)
  | 4 => s.on (fun d => d.writeOrchard w r v)
  | 5 => s.on (fun d => d.writeTime w r v)
  | 6 => s.on (fun d => d.writeStride w r v)
  | 7 => s.on (fun d => d.writePunnets w r v)
  | 8 => s.on (fun d => d.writeStirrups w r v)
  | 9 => s.writeCan w r v
  | 10 => s.on (fun d => d.writeSerial w r v)
  | 11 => s.on (fun d => if r < 0x1800 ∧ r % 128 = 0 then d.engCtrl w (r / 128) v else d.plainWrite w off v)
  | 12 => s.on (fun d => d.fabSync.writeSwitch w r v)
  | 13 => s.on (fun d => d.writePorts w r v)
  | 14 => s.writePower w r v
  | _ => s.on (fun d => d.plainWrite w off v)

/-- The field wider than a word whose low word is at an offset. -/
def wideAt (off : Nat) : Option Fld := ((fieldsAt off).find? (fun e => e.2 == 0 && decide (32 < e.1.lo + e.1.width))).map (fun e => e.1)

/-- A 64-bit write of a field wider than a word, taken as a whole (R10). -/
def Dev.wideWrite (d : Dev) (w : Writer) (f : Fld) (off v : Nat) : Dev :=
  let x := bits v f.lo f.width
  let bad := f.acc == .rw && !legal f x
  let rsv := (v % 2 ^ 32 &&& (2 ^ 32 - 1 - coverMask off)) != 0 || (v / 2 ^ 32 &&& (2 ^ 32 - 1 - coverMask (off + 4))) != 0
  if off = 0x60010 ∧ d.on R.STRIDE_CTRL_RUN then (if x = d.get f then d else d.locked w off)
  else (if f.acc = .rw ∧ !bad then d.set f x else d).rsvIf (bad || rsv) w off

/-- Whether BAR0 takes an access of this size at this offset (R9). -/
def sizeOk (off size : Nat) : Bool := (size == 4 && off % 4 == 0) || (size == 8 && off % 8 == 0)

/-- A write that passed the gates of the writer: R9 first, then one word, a wide field, or two words, low word first (R9, R10). -/
def State.regWrite (s : State) (w : Writer) (off size v : Nat) : State :=
  if !sizeOk off size then s.on (fun d => d.rsvWrite w off)
  else if size = 4 then s.wordAct w off (v % 2 ^ 32)
  else match wideAt off with
    | some f => s.on (fun d => d.wideWrite w f off v)
    | none => (s.wordAct w off (v % 2 ^ 32)).wordAct w (off + 4) (v / 2 ^ 32 % 2 ^ 32)

/-! ### Word reads -/

/-- The word k of a time value, of `x` in units of 2^-32 ns. -/
def timeWord (ptp : Bool) (x k : Nat) : Nat :=
  let ws := timeWords ptp x
  match k with
  | 0 => ws.1
  | 1 => ws.2.1
  | _ => ws.2.2

/-- The word of a timestamp record. -/
def tsWord (x : TsRec) (k : Nat) : Nat :=
  match k with
  | 0 => x.lo
  | 1 => x.hi
  | 2 => x.xhi
  | _ => x.tag

/-- The live word at an offset, for a reader (R10): the fields, or what a unit derives. -/
def liveWord (s : State) (w : Writer) (off : Nat) : Nat :=
  let d := s.dev
  let r := off % 0x10000
  match off / 0x10000 with
  | 1 => if r = 8 then d.ownLeft else d.word off
  | 2 =>
    let n := r / 0x1000
    let o := r % 0x1000
    if o < 0x200 then leNat (Mem.bytes s.mem (bar0Mem off) 4)
    else if o = 0x214 ∨ o = 0x254 then d.mbElapsed n (o / 0x40 % 2)
    else d.word off
  | 3 =>
    if 0x420 ≤ r ∧ r < 0x440 then d.evPendingWord (r / 4 % 8)
    else if r = 0x444 then d.irqStatus else d.word off
  | 5 =>
    if r < 0x800 ∧ 0x10 ≤ r % 256 ∧ r % 256 < 0x1C then timeWord (d.ptp (r / 256)) (d.tb (r / 256)).val (r % 256 / 4 - 4)
    else if 0x1400 ≤ r ∧ r < 0x15A0 then tsWord (TsFifo_head (d.txtsFifo (r / 16 - 0x140))) (r / 4 % 4)
    else if 0x2000 ≤ r ∧ r < 0x2100 ∧ 8 ≤ r % 32 ∧ r % 32 < 24 then tsWord (TsFifo_head (d.cap (r / 32 % 8))) (r % 32 / 4 - 2)
    else d.word off
  | 7 =>
    if r < 0x800 ∧ 0x18 ≤ r % 32 then bits (d.pnRead w (r / 32)).1 (if r % 8 = 0 then 0 else 32) 32 else d.word off
  | 8 =>
    if r = 0x8008 then d.stirSc % 2 ^ 32
    else if r = 0x800C then d.stirSc / 2 ^ 32
    else if r < 0x4000 ∧ 0x200 ≤ r % 0x1000 ∧ r % 0x1000 < 0x400 ∧ r % 64 = 0x18 then (d.stirRx (r / 0x1000 * 8 + r / 64 % 8)).1
    else d.word off
  | 9 => if 0x800 ≤ r % 0x2000 then leNat (Mem.bytes s.mem (bar0Mem off) 4) else d.word off
  | 10 =>
    if r < 0xC00 ∧ r % 256 = 0x30 then d.serHeadTs (r / 256) % 2 ^ 32
    else if r < 0xC00 ∧ r % 256 = 0x34 then d.serHeadTs (r / 256) / 2 ^ 32
    else if r < 0xC00 ∧ r % 256 = 0x38 then (d.serPop (r / 256)).1
    else d.word off
  | 12 => if r = 4 then d.fabSync.word off ||| (d.fabSync.slot * 2 ^ 10) else d.fabSync.word off
  | 13 =>
    if r < 0xD000 ∧ r % 0x800 = 0x30 then (d.gclRead (r / 0x800)).1
    else if r = 0xE814 then d.word off ||| d.hn.fwd.length
    else d.word off
  | 14 => if 0x200 ≤ r ∧ r < 0x320 ∧ r % 32 = 0x10 then d.slpAwake (r / 32 % 16) else d.word off
  | _ => d.word off

/-- What a read of a word does (R98, R266, R371, R508, R521). -/
def Dev.readEffect (d : Dev) (w : Writer) (off : Nat) : Dev :=
  let r := off % 0x10000
  match off / 0x10000 with
  | 5 =>
    if 0x1400 ≤ r ∧ r < 0x15A0 ∧ r % 16 = 12 then d.setTxts (r / 16 - 0x140) (TsFifo_pop (d.txtsFifo (r / 16 - 0x140)))
    else if 0x2000 ≤ r ∧ r < 0x2100 ∧ r % 32 = 0x14 then d.setCap (r / 32 % 8) (TsFifo_pop (d.cap (r / 32 % 8)))
    else d
  | 7 => if r < 0x800 ∧ r % 32 = 0x18 then (d.pnRead w (r / 32)).2 else d
  | 8 => if r < 0x4000 ∧ 0x200 ≤ r % 0x1000 ∧ r % 0x1000 < 0x400 ∧ r % 64 = 0x18 then (d.stirRx (r / 0x1000 * 8 + r / 64 % 8)).2 else d
  | 10 => if r < 0xC00 ∧ r % 256 = 0x38 then (d.serPop (r / 256)).2 else d
  | 13 => if r < 0xD000 ∧ r % 0x800 = 0x30 then (d.gclRead (r / 0x800)).2 else d
  | _ => d

/-- Whether an offset is the LO word of a time value of three words (R109). -/
def tripleLo (off : Nat) : Bool :=
  let r := off % 0x10000
  match off / 0x10000 with
  | 5 =>
    (decide (r < 0x800) && (r % 256 == 0x10 || r % 256 == 0x20)) || (decide (0x900 ≤ r) && decide (r < 0x980) && r % 16 == 0) ||
    (decide (0x1400 ≤ r) && decide (r < 0x15A0) && r % 16 == 0) || (decide (0x2000 ≤ r) && decide (r < 0x2100) && r % 32 == 8) ||
    (decide (0x3000 ≤ r) && decide (r < 0x3200) && r % 64 == 8)
  | 13 => decide (r < 0xD000) && [0x40, 0x60, 0x80].contains (r % 0x800)
  | _ => false

/-- Whether an offset is the low word of a register wider than 32 bits (R10). -/
def wideLo (off : Nat) : Bool := (wideAt off).isSome || (decide (0x70000 ≤ off) && decide (off < 0x70800) && off % 32 == 0x18)

/-- The offsets that a read of a low word latches into shadows (R10, R109). -/
def shadowed (off : Nat) : List Nat := if tripleLo off then [off + 4, off + 8] else if wideLo off then [off + 4] else []

/-- The key of a shadow of reader `k` (the ports and engines of `readerCode`; 52 + c for the commands of port c). -/
def shadowOf (k off : Nat) : Nat := k * 2 ^ 20 + off

/-- Words put into shadows. -/
def latchShadows (s : State) (w : Writer) (k : Nat) (offs : List Nat) : State :=
  s.on (fun d => { d with shadows := offs.foldl (fun (t : Tab Nat) o => t.put (shadowOf k o) (liveWord s w o)) d.shadows })

/-- A shadow taken away. -/
def Dev.dropShadow (d : Dev) (k off : Nat) : Dev := { d with shadows := d.shadows.del (shadowOf k off) }

/-- Whether a word is one that a read of a lower word latches (R10, R109). -/
def hiWord (off : Nat) : Bool := (shadowed (off - 4)).contains off || (shadowed (off - 8)).contains off

/-- A 32-bit read (R10): a shadow that waits, or the live word; and what the read does. -/
def State.readWord (s : State) (w : Writer) (k off : Nat) : Nat × State :=
  match if hiWord off then Tab.find? s.dev.shadows (shadowOf k off) else none with
  | some v => (v, s.on (fun d => d.dropShadow k off))
  | none => (liveWord s w off, (latchShadows s w k (shadowed off)).on (fun d => d.readEffect w off))

/-- A read that the reader may make: the words, low word first (R9, R10, R109). A refused size returns zeros, and fills SYS_RSV_INFO as R697
says of a write (DESIGN CHOICE, log entry 184). -/
def State.regRead (s : State) (w : Writer) (k off size : Nat) : List Nat × State :=
  if !sizeOk off size then (List.replicate ((size + 3) / 4) 0, s.on (fun d => d.rsvWrite w off))
  else if size = 4 then ([(s.readWord w k off).1], (s.readWord w k off).2)
  else if tripleLo off || wideLo off then
    let s1 := (latchShadows s w k (if tripleLo off then [off + 8] else [])).on (fun d => (d.readEffect w off).dropShadow k (off + 4))
    ([liveWord s w off, liveWord s w (off + 4)], s1)
  else
    let a := s.readWord w k off
    let b := a.2.readWord w k (off + 4)
    ([a.1, b.1], b.2)

/-! ### BAR2 (R16 to R19, R392) -/

/-- Whether a write to the instruction RAM of engine `e` at a window offset is dropped (R392). -/
def Dev.iramClosed (d : Dev) (e o : Nat) : Bool :=
  if o / 0x8000 == d.get (R.ENG_STATUS_ACT_BANK e) then !(d.engState e == 1 || d.engState e == 6) else d.upd.swap.isSome

/-- Whether BAR2 does not reach the memories of engine `e`: its team is off or dozes (R379). -/
def Dev.engDark (d : Dev) (e : Nat) : Bool := d.engState e == 0 || d.engState e == 7

/-- The bytes that a host write leaves in the scratchpad of engine `e` from offset `o`: a word that the engine stores to in the same cycle, one
instant of the model (log entry 190), keeps the engine's store (R392). -/
def State.scrMerge (s : State) (e o : Nat) (bs : List Byte) : List Byte :=
  let x := s.dev.engine e
  if x.scrAt ≠ s.dev.now ∨ x.scr = [] then bs
  else (List.range bs.length).map (fun i =>
    if x.scr.contains ((o + i) / 4) then Mem.byte s.mem (engBase e + 0x10000 + o + i) else bs.getD i 0)

/-- A write of bytes to the window of an engine (R17, R18, R379, R392), as far as the window's areas. -/
def State.engMemWrite (s : State) (w : Writer) (e o : Nat) (bs : List Byte) : State :=
  if s.dev.engDark e then s
  else if 0x18000 ≤ o then s.on (fun d => if bs.any (fun b => b != 0) then d.rsvWriteMap (agentOf w) 1 (engBase e + o) else d)
  else if o < 0x10000 ∧ s.dev.iramClosed e o then s.on (fun d => d.engCause e (R.ENG_STATUS_IRAM_WREJ e) 7)
  else { s with mem := Mem.setBytes s.mem (engBase e + o) (if o < 0x10000 then bs else s.scrMerge e (o - 0x10000) bs) }

/-- One aligned piece of a BAR2 write, of at most 8 bytes (R16 to R19). -/
def State.bar2Piece (s : State) (w : Writer) (off : Nat) (bs : List Byte) : State :=
  if off < 0x2000000 then s.orchWrite Req.hostC off bs
  else if off < 0x2600000 then s.engMemWrite w ((off - 0x2000000) / 0x20000) (off % 0x20000) bs
  else if mramBase ≤ off ∧ off < 0x3800000 then s.on (fun d => d.rsvWriteMap (agentOf w) 1 off)
  else s.on (fun d => if bs.any (fun b => b != 0) then d.rsvWriteMap (agentOf w) 1 off else d)

/-- A BAR2 write, in pieces that end at multiples of 8; `fuel` bounds their number. -/
def State.bar2Write (s : State) (w : Writer) (off : Nat) (bs : List Byte) : Nat → State
  | 0 => s
  | fuel + 1 =>
    let n := 8 - off % 8
    if bs = [] then s else (s.bar2Piece w off (bs.take n)).bar2Write w (off + n) (bs.drop n) fuel

/-- A byte of the MRAM window (R655): the identity region and the tree cache hold what chapter 16 says, in places and in values that the spec does
not state, so they are free values of what they hold (R656, R665). -/
def State.mramByte (s : State) (addr : Nat) : Byte :=
  let o := addr - mramBase
  let d := s.dev
  let u := d.upd
  if 0x10000 ≤ o ∧ o < 0x20000 then
    Config.identityByte [d.get R.SEC_STATUS_LIFECYCLE, d.get R.SEC_SIG_LEFT, d.get R.SEC_STATUS_FLOOR, u.journal] [u.serial, u.cert, u.root, u.record] o
  else if 0x20000 ≤ o ∧ o < 0xA0000 then Config.treeByte u.hasKey o
  else Mem.byte s.mem addr

/-- One aligned piece of a BAR2 read. -/
def State.bar2ReadPiece (s : State) (off n : Nat) : List Byte × State :=
  if off < 0x2000000 then
    (let r := orchRead s.mem s.dev Req.hostC off n
     (r.1, { s with dev := r.2 }))
  else if off < 0x2600000 then (if off % 0x20000 < 0x18000 ∧ !s.dev.engDark ((off - 0x2000000) / 0x20000) then (Mem.bytes s.mem off n, s) else (List.replicate n 0, s))
  else if mramBase ≤ off ∧ off < 0x3800000 then ((List.range n).map (fun i => s.mramByte (off + i)), s)
  else (List.replicate n 0, s)

/-- A BAR2 read of `n` bytes, in pieces that end at multiples of 8. -/
def State.bar2Read (s : State) (off n : Nat) : Nat → List Byte × State
  | 0 => ([], s)
  | fuel + 1 =>
    let k := min n (8 - off % 8)
    if n = 0 then ([], s)
    else
      let a := s.bar2ReadPiece off k
      let b := a.2.bar2Read (off + k) (n - k) fuel
      (a.1 ++ b.1, b.2)

/-! ### The quad-SPI target (R562 to R565) -/

/-- Whether the target reaches a place now: block 0xE always, the rest once the Bridle runs (R565). -/
def Dev.qspiReaches (d : Dev) (addr : Nat) : Bool :=
  decide (addr / 2 ^ 28 = 0 ∧ addr % 2 ^ 20 / 0x10000 = 0xE) || (d.coreOn && d.get R.BRIDLE_STATUS_STATE == 1)

/-- A word read through the target (R563, R564): the word, whether R9 refused it, the state. -/
def State.qspiWord (s : State) (addr : Nat) : Nat × Bool × State :=
  match addr / 2 ^ 28 with
  | 0 =>
    let off := addr % 2 ^ 20
    let r := s.regRead .qspi 1 off 4
    (r.1.headD 0, !sizeOk off 4, r.2)
  | 1 =>
    let r := s.bar2Read (addr % 2 ^ 26) 4 4
    (leNat r.1, false, r.2)
  | _ => (0, false, s)

/-- The words of a READ (R564): those from number `ready` on are not read. -/
def State.qspiRead (s : State) (addr ready : Nat) : Nat → List Nat × State
  | 0 => ([], s)
  | n + 1 =>
    if ready = 0 ∨ !s.dev.qspiReaches addr then
      (List.replicate (n + 1) 0xFFFFFFFF, s.on (fun d => { d with host := { d.host with qRetry := true } }))
    else
      let a := s.qspiWord addr
      let s1 := if a.2.1 then a.2.2.on (fun d => { d with host := { d.host with qError := true } }) else a.2.2
      let r := s1.qspiRead (addr + 4) (ready - 1) n
      (a.1 :: r.1, r.2)

/-- A BAR2 write by a writer, if the port may write (R556). -/
def State.bar2Gate (s : State) (w : Writer) (off : Nat) (bs : List Byte) : State :=
  if s.dev.mayWrite w 0x10000 then s.bar2Write w off bs (bs.length / 8 + 2) else s.on (fun d => d.denied w)

/-- A BAR2 write to the memories of an engine (R16, R17, R392). An engine does not reach them (R388). -/
def State.engineMemory (s : State) (w : Writer) (e o : Nat) (bs : List Byte) : State :=
  match w with
  | .engine _ => s
  | _ => if o + bs.length ≤ 0x20000 then s.bar2Gate w (0x2000000 + e * 0x20000 + o) bs else s

/-- A word written through the target (R563, R564). -/
def State.qspiPut (s : State) (addr v : Nat) : State :=
  let err := fun (x : State) => x.on (fun d => { d with host := { d.host with qError := true } })
  if !s.dev.qspiReaches addr then err s
  else match addr / 2 ^ 28 with
    | 0 =>
      let off := addr % 2 ^ 20
      let s1 := s.gate .qspi off (fun x => x.regWrite .qspi off 4 v)
      if sizeOk off 4 then s1 else err s1
    | 1 => s.bar2Gate .qspi (addr % 2 ^ 26) (leBytes 4 v)
    | _ => s.gate .qspi 0x10000 (fun x => x.on (fun d => if v % 2 ^ 32 = 0 then d else d.rsvWriteMap 12 1 (addr % 2 ^ 26)))

/-- The words of a WRITE, in order (R563). -/
def State.qspiWrite (s : State) (addr : Nat) : List Nat → State
  | [] => s
  | v :: r => (s.qspiPut addr v).qspiWrite (addr + 4) r

/-- Any transaction while CORE is off in network sleep is a wake request (R565, R644). -/
def State.qspiWake (s : State) : State := if s.dev.pwr.asleep then s.wakeRequest 4 s.dev.netsOn else s

/-- The words that a read returns to its reader. -/
def State.returned (s : State) (ws : List Nat) : State := s.on (fun d => { d with rdata := ws.map (BitVec.ofNat 32) })

/-- A register read by a writer (R10, R556): a port that may not read gets nothing. -/
def State.hostRead (s : State) (w : Writer) (off size : Nat) : State :=
  if s.dev.mayRead w then (s.regRead w (readerCode w) off size).2.returned (s.regRead w (readerCode w) off size).1
  else s.returned []

/-- Whether the quad-SPI target answers (R548, R565). -/
def Dev.qspiOn (d : Dev) : Bool := !d.isHeld && d.get (R.OWN_PORT_CLASS 1) != 0

/-- The words leave the quad-SPI target. -/
def State.qspiSend (s : State) (ws : List Nat) : State := (s.returned ws).on (fun d => d.emit (.qspi (ws.map (BitVec.ofNat 32))))

/-- A READ transaction of `n` words, of which `ready` are ready in time (R562 to R565). -/
def State.qspiReadRow (s : State) (addr n ready : Nat) : State :=
  if !s.dev.qspiOn then s
  else
    let s1 := s.qspiWake
    (s1.qspiRead addr ready n).2.qspiSend (s1.qspiRead addr ready n).1

/-- A WRITE transaction (R562 to R565). -/
def State.qspiWriteRow (s : State) (addr : Nat) (ws : List Nat) : State := if !s.dev.qspiOn then s else s.qspiWake.qspiWrite addr ws

/-- A STATUS read (R562, R564): RETRY and ERROR are returned and cleared; writes are performed at once, so BUSY is 0. -/
def State.qspiStatus (s : State) : State :=
  if !s.dev.qspiOn then s
  else
    let s1 := s.qspiWake
    let v := (if s1.dev.host.qRetry then 2 else 0) + (if s1.dev.host.qError then 4 else 0)
    (s1.qspiSend [v]).on (fun d => { d with host := { d.host with qRetry := false, qError := false } })

/-- RESET of the QSPI port (R565): its flags, its shadows, and the host side of every mailbox bound to it. -/
def State.qspiReset (s : State) : State :=
  if s.dev.isHeld then s
  else s.qspiWake.on (fun d => { d with host := { d.host with qRetry := false, qError := false }, shadows := d.shadows.filter (fun e => e.1 / 2 ^ 20 != 1) }.hostSides 1)

end Sys2Proof.Machine
end

