-- ==== Sys2Proof/Machine/Commands.lean ====
section
/-! DEFINITION. The commands of chapter 14: for each opcode its category, the states in which it is refused, the length of its parameters,
and what it does and answers; the wait of a command whose reply comes later. -/

namespace Sys2Proof.Machine
open Sys2Proof

/-! ### Status codes (R13) -/

/-- The categories of R549. -/
inductive Category where
  | read | diag | update | state | ownership
deriving DecidableEq, Repr

/-- What running a command answers: a reply, or a wait that the reply follows. -/
inductive CmdRes where
  | reply (status detail : Nat) (params : List Byte)
  | wait (w : CmdWait)

/-- An OK reply without parameters. -/
def okReply : CmdRes := .reply 0 0 []

/-- A refusal (R13, R620). -/
def refusal (e : Nat × Nat) : CmdRes := .reply e.1 e.2 []

/-- The first of a list of checks whose condition holds. -/
def firstFail : List (Bool × Nat × Nat) → Option (Nat × Nat)
  | [] => none
  | (c, e) :: r => if c then some e else firstFail r

/-- Every opcode of chapter 14 with its category (R591 to R618); `none` for one that no table assigns. -/
def category (op : Nat) : Option Category :=
  match op with
  | 0x0101 | 0x0102 | 0x0103 | 0x0105 | 0x0108 | 0x0206 | 0x0301 | 0x0304 | 0x0401 | 0x0404 | 0x0405 | 0x0501 | 0x0502 | 0x0503 | 0x0601
  | 0x0603 | 0x0607 | 0x0701 | 0x0702 | 0x0705 | 0x0901 | 0x0902 | 0x0A01 | 0x0B01 | 0x0B02 | 0x0B04 => some .read
  | 0x0505 | 0x0704 => some .diag
  | 0x0801 | 0x0802 | 0x0803 | 0x0804 | 0x0805 | 0x0806 => some .update
  | 0x0201 | 0x0202 | 0x0203 | 0x0204 | 0x0205 => some .ownership
  | 0x0104 | 0x0106 | 0x0107 | 0x0109 | 0x0302 | 0x0303 | 0x0305 | 0x0402 | 0x0403 | 0x0504 | 0x0602 | 0x0604 | 0x0605 | 0x0606 | 0x0703
  | 0x0706 | 0x0903 | 0x0904 | 0x0A02 | 0x0A03 | 0x0A04 | 0x0B03 | 0x0B05 => some .state
  | _ => none

/-- The length of a command's parameters: the bounds, equal where it is fixed, and the step from the lower one (R588). -/
def cmdLength (op : Nat) : Nat × Nat × Nat :=
  match op with
  | 0x0103 | 0x0105 => (6, 6, 1)
  | 0x0104 | 0x0106 => (8, 1024, 4)
  | 0x0802 => (5, 1024, 1)
  | 0x0107 | 0x0203 | 0x0401 | 0x0402 | 0x0403 | 0x0404 | 0x0502 | 0x0601 | 0x0604 | 0x0607 | 0x0701 | 0x0702 | 0x0704 | 0x0804 | 0x0A03
  | 0x0B02 | 0x0B03 => (1, 1, 1)
  | 0x0303 | 0x0703 | 0x0706 | 0x0901 | 0x0A02 | 0x0B05 => (2, 2, 1)
  | 0x0302 => (3, 3, 1)
  | 0x0205 | 0x0305 | 0x0606 | 0x0801 | 0x0903 => (4, 4, 1)
  | 0x0A04 => (8, 8, 1)
  | 0x0505 => (12, 12, 1)
  | 0x0902 => (18, 18, 1)
  | 0x0602 => (24, 24, 1)
  | 0x0109 | 0x0605 => (32, 32, 1)
  | 0x0904 => (60, 60, 1)
  | _ => (0, 0, 1)

/-- The bytes of register words (R588). -/
def State.words (s : State) (offs : List Nat) : List Byte := offs.flatMap (fun o => leBytes 4 (liveWord s .bridle o))

/-- Words `n` at consecutive offsets. -/
def offsFrom (o n : Nat) : List Nat := (List.range n).map (fun i => o + 4 * i)

/-- An unsigned field of the parameters. -/
def par (l : List Byte) (i n : Nat) : Nat := leNat (slice l i n)

/-! ### Device (R591 to R594) -/

/-- GET_INFO. -/
def infoBytes (s : State) : List Byte :=
  let d := s.dev
  leBytes 1 (d.get R.SYS_ID_ORDERING) ++ leBytes 1 0xA1 ++ leBytes 2 (d.get R.HN_CTRL_NODE_ID) ++ leBytes 1 (d.get R.SEC_STATUS_LIFECYCLE) ++
  leBytes 1 ((if d.upd.active then 1 else 0) + (if d.owner.isSome then 2 else 0)) ++ leBytes 1 (d.get R.SEC_STATUS_HN_EPOCH) ++
  leBytes 1 (d.get R.SEC_STATUS_COMPAT_EPOCH) ++ slice d.upd.serial 0 16 ++ leBytes 4 (d.get R.SEC_VERSION) ++
  leBytes 4 (if d.upd.active then beNat (slice d.upd.cfgHash 28 4) else 0)

/-- Words read by READ_REG, in ascending order (R592). -/
def State.readRegs (s : State) (k off : Nat) : Nat → List Byte × State
  | 0 => ([], s)
  | n + 1 =>
    let a := s.regRead .pcie k off 4
    let b := a.2.readRegs k (off + 4) n
    (leBytes 4 (a.1.headD 0) ++ b.1, b.2)

/-- Words written by WRITE_REG, in ascending order (R592). -/
def State.writeRegs (s : State) (off : Nat) (data : List Byte) : Nat → State
  | 0 => s
  | n + 1 => (s.regWrite .pcie off 4 (par data 0 4)).writeRegs (off + 4) (data.drop 4) n

/-- The sticky statuses that CLEAR_EVENTS clears. -/
def State.clearEvents (s : State) (l : List Byte) : State :=
  (List.range 8).foldl (fun (a : State) w => a.wordAct .bridle (0x30400 + 4 * w) (par l (4 * w) 4)) s

/-! ### Instances (R604, R606) -/

/-- STATUS of the published header of an instance's first region. -/
def instStatus (s : State) (i : Nat) : Nat :=
  match s.dev.regionList.find? (fun r => (s.dev.region r).inst == some i) with
  | some r => (Mem.byte s.mem (s.dev.bufAddr r (s.dev.get (R.IMG_STATE_PUB r)) + 11)).toNat
  | none => 0

/-- GET_INSTANCES. -/
def instBytes (s : State) : List Byte :=
  (s.dev.upd.insts.zip (List.range s.dev.upd.insts.length)).flatMap (fun e =>
    leBytes 1 e.1.pers ++ leBytes 1 e.1.role ++ leBytes 1 e.1.team ++ leBytes 1 (instStatus s e.2))

/-! ### Update and identity (R607, R613, R614) -/

/-- UPDATE_STATUS. -/
def updStatus (d : Dev) : List Byte :=
  let x := d.upd.session.getD { port := 0, size := 0 }
  let st := if d.upd.session.isNone then 0 else if x.verified then 3 else if x.got = x.size then 2 else 1
  leBytes 1 st ++ leBytes 1 x.port ++ leBytes 1 (d.get R.SEC_STATUS_LIFECYCLE) ++ leBytes 1 (d.get R.SEC_STATUS_RECOVERY) ++
  leBytes 4 x.got ++ leBytes 4 x.size ++ leBytes 4 7340032

/-- A part of a long result from an offset (R613). -/
def partOf (l : List Byte) (off : Nat) : CmdRes :=
  if l.length ≤ off then .reply 6 0 [] else .reply 0 0 (leBytes 2 l.length ++ [0, 0] ++ (l.drop off).take 1020)

/-- ATTEST (R614, R670). -/
def State.attestCmd (s : State) (nonce : List Byte) (off : Nat) : State × CmdRes :=
  if !s.dev.on R.SEC_STATUS_KEY_VALID ∨ (off = 0 ∧ s.dev.get R.SEC_SIG_LEFT = 0) then (s, .reply 5 0xF000 [])
  else
    let s1 := if off = 0 then s.attest nonce else s
    match s1.dev.bridle.kept with
    | some (n, l) => if n = nonce then (s1, partOf l off) else (s1, .reply 13 0xE [])
    | none => (s1, .reply 13 0xE [])

/-! ### Time and stride (R600 to R603) -/

/-- ADJUST_TIME writes the selected registers and control bits in one write. -/
def Dev.adjustTime (d : Dev) (l : List Byte) : Dev :=
  let n := par l 0 1
  let d1 := if (par l 1 1).testBit 0 then (d.set (R.TB_INCR n) (par l 8 8)).tbLoadIncr n else d
  if (par l 1 1).testBit 1 then ((d1.set (R.TB_STEP n) (par l 16 8)).set (R.TB_STEP_FRAC n) (par l 2 2)).tbStep n else d1

/-- STRIDE_RUN 1. -/
def Dev.strideGo (d : Dev) : Dev × CmdRes :=
  if d.on R.STRIDE_CTRL_RUN then (d, okReply)
  else
    let d1 := d.runStart
    if d1.on R.STRIDE_CTRL_RUN then (d1, okReply)
    else (d1, .reply 13 (match d1.get R.STRIDE_STATUS_CFG_ERR with | 1 => 6 | 4 => 7 | 3 => 0x10 | _ => 0x11) [])

/-- SET_LUNGE writes the selected fields and then UPDATE. -/
def Dev.setLungeCmd (d : Dev) (l : List Byte) : Dev :=
  let n := par l 0 1
  let f := par l 1 1
  let d1 := if f.testBit 0 then d.set (R.LUNGE_TARGET n) (par l 8 8) else d
  let d2 := if f.testBit 1 then d1.set (R.LUNGE_ACCEL n) (par l 16 8) else d1
  (if f.testBit 2 then d2.set (R.LUNGE_STEP n) (par l 24 8) else d2).lungeUpdate n

/-! ### Domains and sleep (R616, R617) -/

/-- SET_DOMAIN of a domain that R617 names: the refusal, or the change. -/
def Dev.domainCmd (d : Dev) (x r : Nat) : Dev × CmdRes :=
  let a := d.domainRequest x r
  if a.2 then (a.1, .wait (.domain x (if r = 2 then 3 else r))) else (d, .reply 13 (if r = 2 then 0x15 else 0xC) [])

/-- The reply of SLEEP_REQUEST when its round has ended. -/
def roundReply (d : Dev) (k : Nat) : CmdRes :=
  if d.get (R.SLP_NET_STATUS_RESULT k) = 1 then .reply 0 0 [0, 0, 0, 0]
  else .reply 0 0 ([1, 0] ++ leBytes 2 (d.get (R.SLP_NET_STATUS_NODE k)))

/-! ### Checks (R557, R588, R595 to R619) -/

/-- The states in which a command is refused whatever its parameters (order 6 of R557). -/
def stateCheck (d : Dev) (op : Nat) (r : CmdReq) : Option (Nat × Nat) :=
  match op with
  | 0x0802 | 0x0803 | 0x0805 => if d.upd.session.any (fun x => x.port == r.port.val) then none else some (13, 8)
  | 0x0904 => if d.get R.SEC_STATUS_LIFECYCLE = 1 ∧ d.upd.root = [] then none else some (13, 0xB)
  | _ => none

/-- The states in which a command with these parameters is refused. -/
def stateCheckWith (d : Dev) (op : Nat) (l : List Byte) : Option (Nat × Nat) :=
  let b0 := par l 0 1
  let b1 := par l 1 1
  match op with
  | 0x0302 => firstFail [(decide (b0 < 64) && d.on (R.BANK_OWNER_CFG_LOCK b0) && !(par l 2 1).testBit 1, 13, 2)]
  | 0x0303 => firstFail [(decide (b0 < 64) && (b1 == 1 || b1 == 2) && d.on (R.BANK_OWNER_CFG_LOCK b0), 13, 2)]
  | 0x0402 => firstFail [(decide (b0 < 48) && (d.engState b0 == 0 || d.engState b0 == 1), 13, 3)]
  | 0x0403 => firstFail [(decide (b0 < 48) && d.engState b0 != 6, 13, 4)]
  | 0x0703 => firstFail [(decide (b0 < 26) && d.portMode b0 == 0, 13, 0x12)]
  | 0x0903 => firstFail [(decide (1 ≤ b0 ∧ b0 ≤ 3) && !lifecycleMay d b0, 13, 0xA)]
  | 0x0A03 => firstFail [(decide (b0 < 9) && !(d.netOn b0 && d.on (R.SLP_NET_CFG_LEADER b0)), 13, 0x14)]
  | 0x0B03 => firstFail [(decide (b0 < 2) && (d.laneOf (b0 + 1)).any (fun p => !d.linkUp p), 13, 0xD)]
  | _ => none

/-- The checks of the parameters (order 7 of R557), in the order of their offsets; a unit that is busy last. -/
def paramCheck (d : Dev) (op : Nat) (r : CmdReq) (l : List Byte) : Option (Nat × Nat) :=
  let b := fun (i : Nat) => par l i 1
  let w0 := par l 0 4
  let zero := fun (i n : Nat) => (par l i n != 0, 7, i)
  match op with
  | 0x0103 => firstFail [(w0 % 4 != 0, 7, 0), (decide (2 ^ 20 ≤ w0), 6, 0), (par l 4 2 == 0 || decide (256 < par l 4 2), 7, 4),
      (decide (2 ^ 20 < w0 + 4 * par l 4 2), 6, 0)]
  | 0x0104 => firstFail [(w0 % 4 != 0, 7, 0), (decide (2 ^ 20 < w0 + l.length - 4), 6, 0),
      (decide (0x20000 < w0 + l.length - 4) && decide (w0 < 0x30000), 6, 0)]
  | 0x0105 => firstFail [(w0 % 4 != 0, 7, 0), (decide (2 ^ 26 ≤ w0), 6, 0),
      (par l 4 2 % 4 != 0 || par l 4 2 == 0 || decide (1024 < par l 4 2), 7, 4), (decide (2 ^ 26 < w0 + par l 4 2), 6, 0)]
  | 0x0106 => firstFail [(w0 % 4 != 0, 7, 0), (decide (2 ^ 26 < w0 + l.length - 4), 6, 0)]
  | 0x0107 => firstFail [(b 0 == 0 || decide (2 < b 0), 7, 0)]
  | 0x0203 => firstFail [(decide (3 < b 0), 7, 0), (d.get (R.OWN_PORT_CLASS (b 0)) != 3, 6, 0)]
  | 0x0205 => firstFail [(decide (w0 < 10) || decide (60000 < w0), 6, 0)]
  | 0x0302 => firstFail [(decide (63 < b 0), 7, 0), (decide (14 < b 1), 7, 1), (decide (3 < b 2), 7, 2)]
  | 0x0303 => firstFail [(decide (63 < b 0), 7, 0), (decide (2 < b 1), 7, 1)]
  | 0x0305 => firstFail [(decide (par l 0 2 < 64), 7, 0), (decide (1 < b 2), 7, 2), zero 3 1]
  | 0x0401 | 0x0402 | 0x0403 => firstFail [(decide (47 < b 0), 7, 0)]
  | 0x0404 => firstFail [(decide (11 < b 0), 7, 0)]
  | 0x0502 => firstFail [(decide (39 < b 0), 7, 0)]
  | 0x0505 => firstFail [(decide (1 < b 0), 7, 0), (decide (7 < b 1), 7, 1), (decide (38 < b 2), 7, 2), zero 3 1, zero 9 3]
  | 0x0601 => firstFail [(decide (7 < b 0), 7, 0)]
  | 0x0602 => firstFail [(decide (7 < b 0), 7, 0), (decide (3 < b 1), 7, 1), (b 1 == 0, 6, 1), zero 4 4,
      ((b 1).testBit 0 && !(decide (6442450944 ≤ par l 8 8) && decide (par l 8 8 ≤ 10737418239)), 7, 8)]
  | 0x0604 => firstFail [(decide (1 < b 0), 7, 0)]
  | 0x0605 => firstFail [(decide (3 < b 0), 7, 0), (decide (7 < b 1), 7, 1), (b 1 == 0, 6, 1), zero 2 6,
      ((b 1).testBit 0 && par l 8 8 % 2 ^ 40 == 2 ^ 39, 7, 8), ((b 1).testBit 1 && (par l 16 8).testBit 39, 6, 16)]
  | 0x0606 => firstFail [(decide (3 < b 0), 7, 0), zero 1 1, (!phaseOk (par l 2 2) d.strideG, 6, 2)]
  | 0x0607 => firstFail [(decide (3 < b 0), 7, 0)]
  | 0x0701 | 0x0702 => firstFail [(decide (25 < b 0), 7, 0)]
  | 0x0703 => firstFail [(decide (25 < b 0), 7, 0), (decide (1 < b 1), 7, 1)]
  | 0x0704 => firstFail [(decide (b 0 < 16) || decide (23 < b 0), 7, 0), (d.on (R.DIAG_CTRL_BUSY (b 0)), 4, 3)]
  | 0x0706 => firstFail [(decide (63 < b 0), 7, 0), (decide (d.upd.insts.length ≤ b 0), 6, 0), (decide (1 < b 1), 7, 1)]
  | 0x0801 => firstFail [(decide (w0 < 4096) || decide (7340032 < w0), 7, 0), (w0 % 4096 != 0, 6, 0),
      (d.upd.session.any (fun x => x.port != r.port.val), 4, 3)]
  | 0x0802 => d.upd.session.bind (fun x => firstFail [(w0 != x.got, 6, 0), (decide (x.size < x.got + (l.length - 4)), 6, 4)])
  | 0x0804 => firstFail [(decide (1 < b 0), 7, 0)]
  | 0x0903 => firstFail [(b 0 == 0 || decide (3 < b 0), 7, 0), zero 1 1, (par l 2 2 != 0x4B59, 6, 2)]
  | 0x0904 => firstFail [(!keyCodes l 4, 6, 4)]
  | 0x0A02 => firstFail [(decide (8 < b 0), 7, 0), (decide (b 0 < 2), 6, 0), (decide (2 < b 1), 7, 1),
      (b 1 == 2 && (decide (b 0 < 3) || decide (6 < b 0)), 6, 1)]
  | 0x0A03 => firstFail [(decide (8 < b 0), 7, 0), (d.netState (b 0) != 0, 4, 3)]
  | 0x0A04 => firstFail [(decide (8 < b 0), 7, 0), (decide (1 < b 1), 7, 1), zero 2 2, (par l 4 4 == 0 || decide (86400 < par l 4 4), 7, 4)]
  | 0x0B02 => firstFail [(decide (15 < b 0), 7, 0)]
  | 0x0B03 => firstFail [(decide (1 < b 0), 7, 0), ((d.laneOf (b 0 + 1)).isNone, 6, 0)]
  | 0x0B05 => firstFail [(par l 0 2 == 0, 7, 0)]
  | _ => none

/-! ### What each command does -/

/-- READ commands (R591 to R618). -/
def State.runRead (s : State) (op port : Nat) (l : List Byte) : State × CmdRes :=
  let d := s.dev
  let n := par l 0 1
  let ok := fun (bs : List Byte) => (s, CmdRes.reply 0 0 bs)
  match op with
  | 0x0101 => ok (infoBytes s)
  | 0x0102 => ok (s.words [0x60018, 0x10] ++ leBytes 2 (d.get R.SYS_TEMP) ++ [0, 0] ++ leBytes 4 ((d.now - d.sys.porAt) / 1000000000))
  | 0x0103 =>
    (let r := s.readRegs (52 + port) (par l 0 4) (par l 4 2)
     (r.2, .reply 0 0 r.1))
  | 0x0105 =>
    (let r := s.bar2Read (par l 0 4) (par l 4 2) 260
     (r.2, .reply 0 0 r.1))
  | 0x0108 => ok (s.words (offsFrom 0x30400 8))
  | 0x0206 => ok (leBytes 1 (d.owner.getD 0xFF) ++ leBytes 4 d.ownLeft)
  | 0x0301 => ok ((List.range 64).flatMap (fun i => leBytes 1 (d.get (R.BANK_OWNER_AGENT i)) ++
      leBytes 1 (d.get (R.BANK_OWNER_PEND i) + 2 * d.get (R.BANK_OWNER_CFG_LOCK i)) ++ leBytes 1 (d.get (R.BANK_OWNER_PEND_AGENT i)) ++
      leBytes 1 (d.get (R.BANK_POWER_STATE i))))
  | 0x0304 => ok ((List.range 16).flatMap (fun q => s.words (offsFrom (0x41000 + 16 * q) 3)))
  | 0x0401 => ok (s.words ([4, 0xC, 0x10, 0x14, 0x1C, 0x20, 0x24, 0x38].map (fun o => 0xB0000 + 0x80 * n + o)))
  | 0x0404 => ok (s.words (offsFrom (0xB2000 + 0x20 * n) 3))
  | 0x0405 => ok (s.words [0xB3000])
  | 0x0501 => ok (s.words [0xC0004, 0xC0008, 0xC0020])
  | 0x0502 => ok (s.words (offsFrom (0xC1000 + 0x40 * n) 12))
  | 0x0503 => ok (s.words (offsFrom 0xC2000 40))
  | 0x0601 => ok (s.words (offsFrom (0x50010 + 0x100 * n) 3 ++ [0x50004 + 0x100 * n]))
  | 0x0603 => ok (s.words [0x60018, 0x60040, 0x60020, 0x60024, 0x60028, 0x6002C, 0x60030, 0x60034])
  | 0x0607 => ok (s.words ([0x28, 0x2C, 0x30, 0x34, 0, 0x38].map (fun o => 0x60400 + 0x40 * n + o)))
  | 0x0701 => ok (s.words ([0, 4, 8, 0x24].map (fun o => 0xD0000 + 0x800 * n + o)))
  | 0x0702 => ok (s.words (offsFrom (0xD0100 + 0x800 * n) 18))
  | 0x0705 => ok (instBytes s)
  | 0x0901 => (s, partOf d.upd.cert (par l 0 2))
  | 0x0902 => s.attestCmd (l.take 16) (par l 16 2)
  | 0x0A01 => ok ((List.range 9).flatMap (fun x => leBytes 1 (d.domain x)) ++ leBytes 1 (d.get (R.SLP_NET_CFG_LEADER 0)) ++ [0, 0])
  | 0x0B01 => ok (s.words [0xDE800, 0xDE804, 0xDE808, 0xDE814])
  | 0x0B02 => ok (s.words (offsFrom (0xD0400 + 0x800 * n) 8))
  | _ => ok (leBytes 2 (d.get R.HN_CTRL_NODE_ID) ++ leBytes 1 (d.get R.HN_STATUS_LEVEL) ++ leBytes 1 (d.get R.HN_STATUS_UP_STATE) ++
      leBytes 1 (d.get R.HN_STATUS_STAR_STATE) ++ leBytes 1 (d.get R.SEC_STATUS_HN_EPOCH) ++ [0, 0])

/-- UPDATE commands (R607 to R612). -/
def State.runUpdate (s : State) (op port : Nat) (l : List Byte) : State × CmdRes :=
  let x := s.dev.upd.session.getD { port := port, size := 0 }
  match op with
  | 0x0801 => (s.on (fun d => d.updBegin port (par l 0 4)), okReply)
  | 0x0802 =>
    (let r := s.updData x (l.drop 4)
     (r.1, refusal r.2))
  | 0x0803 =>
    (let r := s.updVerify x
     (r.1, refusal r.2))
  | 0x0804 =>
    (let r := s.updActivate (par l 0 1 == 1)
     match r.2 with
     | some e => (r.1, refusal e)
     | none => (r.1, if r.1.dev.upd.swap.isNone && r.1.dev.get R.BRIDLE_STATUS_STATE == 1 then okReply else .wait .swap))
  | 0x0805 => (s.on (fun d => (d.setSession none).setJournal 1), okReply)
  | _ => (s, .reply 0 0 (updStatus s.dev))

/-- OWNERSHIP commands but for GET_OWNER (R551 to R554). -/
def Dev.runOwner (d : Dev) (op port : Nat) (l : List Byte) : Dev :=
  match op with
  | 0x0201 => d.takeOwner (some port)
  | 0x0202 => d.takeOwner none
  | 0x0203 => d.takeOwner (some (par l 0 1))
  | 0x0205 => d.set R.OWN_TIMEOUT (par l 0 4)
  | _ => d

/-- DIAG and STATE commands that touch the device alone (R596 to R619). -/
def Dev.runState (d : Dev) (op : Nat) (r : CmdReq) (l : List Byte) : Dev × CmdRes :=
  let n := par l 0 1
  let v := par l 1 1
  let ok := fun (x : Dev) => (x, okReply)
  match op with
  | 0x0107 =>
    ok (if n = 1 then { d with sys := { d.sys with warmAt := some (d.now + 1000000) } } else { d with bridle := { d.bridle with restart := true } })
  | 0x0302 => ok (d.handover n v ((par l 2 1).testBit 0))
  | 0x0303 => (d.bankRequest n v, .wait (.bank n v))
  | 0x0305 => ok (d.orchCtrlWrite .bridle (par l 2 1 + 4 * par l 0 2))
  | 0x0402 => (d.hostHalt n, .wait (.halted n))
  | 0x0403 => ok (d.restartEngine n)
  | 0x0504 => ok d.swClrCnt
  | 0x0505 =>
    ok (((d.plainWrite .bridle 0xC0010 (n * 2 ^ 15 + v * 2 ^ 8 + par l 2 1)).plainWrite .bridle 0xC0014 (par l 4 4)).plainWrite .bridle 0xC0018
      (par l 8 1))
  | 0x0602 => (d.adjustTime l, .wait (.step n (if v.testBit 1 then d.get (R.TB_STATUS_STEP_GEN n) else 16)))
  | 0x0604 => if n = 1 then d.strideGo else (d.runStop, .wait .lastEdge)
  | 0x0605 => (d.setLungeCmd l, .reply 0 0 (leBytes 1 (if d.gaitClosed (d.get (R.LUNGE_CTRL_GAIT n)) then 1 else 0)))
  | 0x0606 => ok (d.latchPhaseWrite .bridle n (par l 2 2))
  | 0x0703 =>
    if v = d.get (R.PORT_CTRL_EN n) ∨ (v = 0 ∧ 2 ≤ r.port.val ∧ r.via.val = n) then ok d else ok (d.portEnable n (v == 1))
  | 0x0704 => (d.diagStart n, .wait (.cable n))
  | 0x0706 => ok (d.withUpd (fun u => { u with holdReq := u.holdReq.filter (fun e => e.1 != n) ++ [(n, v == 1)] }))
  | 0x0903 => ok (d.lifecycle n)
  | 0x0904 => ok ((d.withUpd (fun u => { u with root := l })).set R.SEC_STATUS_CUST_ROOT 1)
  | 0x0A02 => d.domainCmd n v
  | 0x0A04 => ok ((d.set (R.SLP_CONSENT_CONSENT n) v).set (R.SLP_MAX_AWAKE n) (par l 4 4))
  | 0x0B03 => ok (d.withHn (fun h => { h with uplink := some (n == 1) }))
  | 0x0B05 => ok (d.set R.HN_CMD_CFG_TIMEOUT (par l 0 2))
  | _ => ok d

/-- A command that passed every check takes its effect (R590). -/
def State.runCmd (s : State) (op : Nat) (r : CmdReq) : State × CmdRes :=
  let l := r.params
  match op with
  | 0x0104 => (s.writeRegs (par l 0 4) (l.drop 4) ((l.length - 4) / 4), okReply)
  | 0x0106 => (s.bar2Write .pcie (par l 0 4) (l.drop 4) 260, okReply)
  | 0x0109 => (s.clearEvents l, okReply)
  | 0x0A03 => (s.roundStart (par l 0 1), .wait (.round (par l 0 1)))
  | _ =>
    match category op with
    | some .read => s.runRead op r.port l
    | some .update => s.runUpdate op r.port l
    | some .ownership => (s.on (fun d => d.runOwner op r.port l), okReply)
    | _ => ({ s with dev := (s.dev.runState op r l).1 }, (s.dev.runState op r l).2)

/-! ### Waits -/

/-- What a wait answers now, if it is over (R597, R598, R601, R602, R605, R611, R617). -/
def waitOver (s : State) (w : CmdWait) : Option CmdRes :=
  let d := s.dev
  match w with
  | .halted e => if d.engState e = 6 then some okReply else none
  | .lastEdge => if d.strideLive then none else some okReply
  | .bank n st => if d.get (R.BANK_POWER_STATE n) = st then some okReply else none
  | .step n gen =>
    if d.on (R.TB_STATUS_INCR_PEND n) ∨ d.on (R.TB_STATUS_STEP_PEND n) then none
    else if d.get (R.TB_STATUS_STEP_GEN n) = gen then some (.reply 13 5 []) else some okReply
  | .cable p => if d.on (R.DIAG_CTRL_BUSY p) then none else some (.reply 0 0 (s.words [0xD00D4 + 0x800 * p]))
  | .swap => if d.upd.swap.isNone then some okReply else none
  | .domain x st => if d.domain x = st then some okReply else none
  | .round k => if d.netState k = 1 then none else some (roundReply d k)

end Sys2Proof.Machine
end

