-- ==== Sys2Proof/Machine/Bridle.lean ====
section
/-! DEFINITION. The Bridle's command processor (chapters 6, 13 and 14): the checks of a packet, routing and forwarding, the replies on
each port, the commands in progress, and the round in which packets are taken. -/

namespace Sys2Proof.Machine
open Sys2Proof

/-! ### Packets and replies (R557, R558, R566, R567, R577) -/

/-- The packet of a request, to forward it unchanged (R623). -/
def packetOf (op : Nat) (r : CmdReq) : List Byte :=
  leBytes 2 op ++ leBytes 2 r.plen.toNat ++ leBytes 2 r.target.toNat ++ [r.flags, r.sq] ++ leBytes 4 r.rsv.toNat ++ r.params

/-- The opcode and the request of a packet of 12 bytes or more. -/
def requestOf (l : List Byte) (port : Fin 4) (via : Fin 26) (station : BitVec 48) (tci : BitVec 16) (direct : Bool) : Nat × CmdReq :=
  (par l 0 2, { port := port, via := via, station := station, tci := tci, direct := direct, plen := BitVec.ofNat 16 (par l 2 2),
                target := BitVec.ofNat 16 (par l 4 2), flags := BitVec.ofNat 8 (par l 6 1), sq := BitVec.ofNat 8 (par l 7 1),
                rsv := BitVec.ofNat 32 (par l 8 4), params := l.drop 12 })

/-- The bytes of a reply. -/
def replyBytes (d : Dev) (op : Nat) (r : CmdReq) (st det : Nat) (ps : List Byte) : List Byte :=
  leBytes 2 op ++ leBytes 2 ps.length ++ leBytes 2 (d.get R.HN_CTRL_NODE_ID) ++ [r.flags, r.sq] ++ leBytes 2 st ++ leBytes 2 det ++ ps

/-- The next fragment of a reply is posted on MB0 or MB1 once the host has acknowledged the one before (R577). -/
def State.mbPump (s : State) (n : Nat) : State :=
  match s.dev.bridle.out.getD n [] with
  | [] => s
  | l :: rest =>
    if s.dev.on (R.MB_STATUS_POSTED n 1) then s
    else
      let more := decide (256 < l.length)
      let left := if more then l.drop 256 :: rest else rest
      let s1 : State := { s with mem := Mem.setBytes s.mem (bar0Mem (0x20100 + n * 0x1000)) (l.take 256) }
      let s2 := s1.on (fun d => (({ d with bridle := { d.bridle with out := d.bridle.out.put n left } }.set (R.MB_POST_LEN n 1)
        (min 256 l.length)).set (R.MB_POST_MORE n 1) (if more then 1 else 0)))
      s2.mbGo n 1

/-- A management frame with a reply (R566, R567). -/
def mgmtFrame (d : Dev) (r : CmdReq) (packet : List Byte) : List Byte :=
  let body := beBytes 6 r.station.toNat ++ beBytes 6 (d.get R.MGMT_MAC) ++ [0x81, 0x00] ++ beBytes 2 r.tci.toNat ++ [0x88, 0xB5, 1, 1, 0, 0] ++ packet
  withFcs (body ++ List.replicate (60 - body.length) 0) false

/-- A reply packet leaves on the port on which its request came (R558, R567, R577). -/
def State.sendPacket (s : State) (r : CmdReq) (packet : List Byte) : State :=
  let s1 := s.on (fun d => d.emit (.reply r.port packet))
  if r.port.val < 2 then
    (s1.on (fun d => { d with bridle := { d.bridle with out := d.bridle.out.put r.port (d.bridle.out.getD r.port [] ++ [packet]) } })).mbPump r.port
  else if r.port.val = 2 then
    s1.on (fun d => d.enterFrame { src := 38, dst := r.via, cls := d.host.record.mgmtClass, bytes := mgmtFrame d r packet, stamp := d.tb0, origin := 38 } [r.via.val])
  else s1.on (fun d => d.emit (.forward r.via packet))

/-- The reply to a request, unless it carries NO_REPLY (R558). -/
def State.answer (s : State) (op : Nat) (r : CmdReq) (st det : Nat) (ps : List Byte) : State :=
  if r.flags.getLsbD 1 then s else s.sendPacket r (replyBytes s.dev op r st det ps)

/-! ### Permission and checks (R549, R557) -/

/-- A command refused by R557 or R549 is counted (R582). -/
def Dev.countRefused (d : Dev) (r : CmdReq) : Dev := d.inc (R.OWN_PORT_REFUSED r.port)

/-- The refusal of R549 for a category on a port; `claim` tells CLAIM_OWNER from the other OWNERSHIP commands (R552, R553). -/
def permission (d : Dev) (port : Nat) (cat : Category) (claim : Bool) : Option (Nat × Nat) :=
  let cls := d.get (R.OWN_PORT_CLASS port)
  let notOwner := some (3, d.owner.getD 0xFF)
  let auth := some (10, cls)
  if cls = 3 ∧ d.owner = some port then none
  else match cat with
    | .read => none
    | .diag => if cls = 2 then none else if cls = 3 then notOwner else auth
    | .update =>
      if cls = 1 then auth else if d.on R.SEC_STATUS_RECOVERY || (cls == 2 && d.owner.isNone) then none else notOwner
    | .state => if cls = 3 then notOwner else auth
    | .ownership => if cls ≠ 3 then auth else if claim && d.owner.isNone then none else notOwner

/-- The length check (R588, R620): a length off the step of its layout has no stated detail, and takes a free value. -/
def lengthCheck (d : Dev) (op len : Nat) : Option (Nat × Nat) :=
  let b := cmdLength op
  if len < b.1 then some (2, b.1)
  else if b.2.1 < len then some (2, b.2.1)
  else if (len - b.1) % b.2.2 ≠ 0 then some (2, d.freeVal.1 % 65536)
  else none

/-- The header checks (orders 1 and 2 of R557). -/
def headerCheck (d : Dev) (r : CmdReq) : Option (Nat × Nat) :=
  if r.rsv ≠ 0 ∨ r.flags.toNat / 8 ≠ 0 ∨ (r.flags.getLsbD 0 = true ∧ r.flags.getLsbD 2 = true) then some (7, 0xFFFF)
  else if 1024 < r.plen.toNat then some (2, 1024)
  else if r.plen.toNat ≠ r.params.length then some (2, d.freeVal.1 % 65536)
  else none

/-- The checks before a command runs here (orders 4 to 7 of R557). -/
def runCheck (d : Dev) (op : Nat) (r : CmdReq) : Option (Nat × Nat) :=
  match category op with
  | none => some (1, 0)
  | some cat =>
    (permission d r.port cat (op == 0x0201)).or
      ((if d.on R.SEC_STATUS_RECOVERY && cat != .update then some (13, 1) else none).or
        ((stateCheck d op r).or ((lengthCheck d op r.params.length).or
          ((stateCheckWith d op r.params).or (paramCheck d op r r.params)))))

/-! ### Routing and forwarding (R315 to R317, R623 to R625) -/

/-- Where a packet goes (R315). -/
inductive Route where
  | here
  | lane (p : Nat)
  | lost
deriving DecidableEq, Repr

/-- The route of a target (R315). -/
def Dev.routeOf (d : Dev) (r : CmdReq) : Route :=
  let t := r.target.toNat
  if r.flags.getLsbD 0 ∨ r.flags.getLsbD 2 ∨ t = d.get R.HN_CTRL_NODE_ID then .here
  else match (d.lanesOf [3]).find? (fun p => (d.hlane p).known && d.get (R.HN_LANE_STATUS_MEMBER_ID p) == t) with
    | some p => .lane p
    | none =>
      match (List.range 64).find? (fun i => d.on (R.HN_ROUTE_VALID i) && decide (d.get (R.HN_ROUTE_LO i) ≤ t ∧ t ≤ d.get (R.HN_ROUTE_HI i))) with
      | some i => .lane (d.get (R.HN_ROUTE_LANE i))
      | none => .lost

/-- A packet goes out on lanes (R315, R316), with a forwarding entry that awaits its replies unless it carries NO_REPLY (R317, R624). -/
def Dev.forward (d : Dev) (op : Nat) (r : CmdReq) (lanes : List Nat) (all : Bool) : Dev :=
  let d1 := lanes.foldl (fun (a : Dev) p => a.emit (.forward p (packetOf op r))) d
  if r.flags.getLsbD 1 then d1
  else
    let e : HnFwd := { id := d.bridle.nextId, op := op, req := r, lanes := lanes, until' := d.now + d.get R.HN_CMD_CFG_TIMEOUT * 1000000, all := all }
    { d1.withHn (fun h => { h with fwd := h.fwd ++ [e] }) with bridle := { d1.bridle with nextId := (d.bridle.nextId + 1) % 65536 } }

/-- Whether forwarding a packet finds the table full (R317). -/
def Dev.fwdFull (d : Dev) (r : CmdReq) : Bool := !r.flags.getLsbD 1 && decide (16 ≤ d.hn.fwd.length)

/-- The commands in progress without one. -/
def Dev.dropTask (d : Dev) (t : CmdTask) : Dev := { d with bridle := { d.bridle with tasks := d.bridle.tasks.erase t } }

/-- A command that its check refuses: counted, answered, done. -/
def State.refuseTask (s : State) (t : CmdTask) (e : Nat × Nat) : State :=
  (s.on (fun d => { (d.countRefused t.req).dropTask t with free := d.free + 1 })).answer t.op t.req e.1 e.2 []

/-! ### Commands in progress (R559, R590) -/

/-- A disabling of the port on which the command came takes place after its reply has left (R605). -/
def State.afterReply (s : State) (t : CmdTask) : State :=
  if t.op = 0x0703 ∧ 2 ≤ t.req.port.val ∧ par t.req.params 0 1 = t.req.via.val ∧ par t.req.params 1 1 = 0 then
    s.on (fun d => ((List.range (d.fab.copies.length + 2)).foldl (fun (a : Dev) _ => if a.queued t.req.via then a.transmit t.req.via 0 else a) d).portEnable
      t.req.via false)
  else s

/-- A command ends with a reply. -/
def State.endTask (s : State) (t : CmdTask) (st det : Nat) (ps : List Byte) : State :=
  let counted := [2, 6, 7, 13].contains st && (t.op != 0x0804 || st == 13)
  let s1 := (s.on (fun d => (if counted then d.countRefused t.req else d).dropTask t)).answer t.op t.req st det ps
  if st = 0 then s1.afterReply t else s1

/-- A command runs here. -/
def State.execTask (s : State) (t : CmdTask) : State :=
  match runCheck s.dev t.op t.req with
  | some e => s.refuseTask t e
  | none =>
    let r := s.runCmd t.op t.req
    match r.2 with
    | .reply st det ps => r.1.endTask t st det ps
    | .wait w => r.1.on (fun d => { d with bridle := { d.bridle with tasks := d.bridle.tasks.map (fun x => if x = t then { t with wait := some w } else x) } })

/-- A packet that its turn has reached: checked, routed, forwarded or run (R315, R316, R557). -/
def State.runTask (s : State) (t : CmdTask) : State :=
  match headerCheck s.dev t.req with
  | some e => s.refuseTask t e
  | none =>
    match s.dev.routeOf t.req with
    | .lost =>
      if t.req.direct then s.refuseTask t (9, t.req.target.toNat) else s.on (fun d => d.dropTask t)
    | .lane p =>
      let s1 := s.on (fun d => d.dropTask t)
      if s.dev.fwdFull t.req then s1.answer t.op t.req 4 2 [] else s1.on (fun d => d.forward t.op t.req [p] false)
    | .here =>
      if t.req.flags.getLsbD 2 then
        (if s.dev.fwdFull t.req then (s.on (fun d => d.dropTask t)).answer t.op t.req 4 2 []
         else (s.on (fun d => d.forward t.op t.req (d.lanesOf [3]) true)).execTask t)
      else s.execTask t

/-- The first command that can move: the oldest of its port, not run yet, or with its wait over (R559). -/
def firstReady (s : State) : List Nat → List CmdTask → Option (CmdTask × Option CmdRes)
  | _, [] => none
  | ports, t :: rest =>
    if ports.contains t.req.port.val then firstReady s ports rest
    else match t.wait with
      | none => some (t, none)
      | some w =>
        match waitOver s w with
        | some a => some (t, some a)
        | none => firstReady s (t.req.port.val :: ports) rest

/-- Whether a restart of the Bridle is due now: an activation that waits for its reply gets it first (R594, R682). -/
def Dev.restartDue (d : Dev) : Bool := d.bridle.restart && !d.bridle.tasks.any (fun t => t.wait == some .swap)

/-- The commands in progress go as far as they can; `fuel` bounds the steps. -/
def State.serve (s : State) : Nat → State
  | 0 => s
  | fuel + 1 =>
    if s.dev.get R.BRIDLE_STATUS_STATE ≠ 1 then s
    else if s.dev.restartDue then s.on (fun d => d.bridleRestart (fun _ => false))
    else match firstReady s [] s.dev.bridle.tasks with
      | none => s
      | some (t, none) => (s.runTask t).serve fuel
      | some (t, some (.reply st det ps)) => (s.endTask t st det ps).serve fuel
      | some (_, some (.wait _)) => s

/-- Steps enough for every command in progress to run and to end. -/
def serveFuel : Nat := 40

/-! ### Taking (R552, R554, R559, R679, R682) -/

/-- Whether a port's packets are discarded without reply: it is DISABLED (R548), or is HARNESS in RECOVERY (R679). -/
def Dev.deaf (d : Dev) (r : CmdReq) : Bool :=
  d.get (R.OWN_PORT_CLASS r.port) == 0 || (r.port == 3 && d.on R.SEC_STATUS_RECOVERY)

/-- A packet is taken for execution. -/
def Dev.takeTask (d : Dev) (op : Nat) (r : CmdReq) : Dev :=
  let d1 := if d.owner = some r.port.val then d.keepAlive else d
  { d1 with bridle := { d1.bridle with tasks := d1.bridle.tasks ++ [{ op := op, req := r }] } }

/-- A packet on MGMT or HARNESS waits for the Bridle. -/
def State.holdCmd (s : State) (op : Nat) (r : CmdReq) : State :=
  s.on (fun d => { d with bridle := { d.bridle with hnRx := d.bridle.hnRx ++ [(op, r)] } })

/-- The Bridle takes a command packet. While it restarts, packets on MGMT and HARNESS are held, up to 8 (R682); before it runs, those on
MGMT wait (R706). -/
def State.takeCmd (s : State) (op : Nat) (r : CmdReq) : State :=
  if !s.dev.coreOn ∨ s.dev.deaf r then s
  else if s.dev.get R.BRIDLE_STATUS_STATE = 2 then
    (if r.port.val < 2 then s
     else if 8 ≤ s.dev.bridle.hnRx.length then s.answer op r 4 1 []
     else s.holdCmd op r)
  else if s.dev.get R.BRIDLE_STATUS_STATE ≠ 1 then (if r.port = 2 ∧ s.dev.bridle.hnRx.length < 8 then s.holdCmd op r else s)
  else if 8 ≤ s.dev.bridle.tasks.length then (if r.port.val < 2 then s else s.answer op r 4 1 [])
  else (s.on (fun d => d.takeTask op r)).serve serveFuel

/-! ### The round (R552, R566, R577) -/

/-- A post on MB0 or MB1 acknowledged by the Bridle. -/
def State.bridleAck (s : State) (n code : Nat) : State := s.on (fun d => d.mbAckCode n 0 code)

/-- The packet under way on MB0 or MB1 is dropped, or kept with its posts so far. -/
def Dev.setAsm (d : Dev) (n : Nat) (x : Option (Nat × List Byte)) : Dev :=
  { d with bridle := { d.bridle with asm := match x with | some e => d.bridle.asm.put n e | none => d.bridle.asm.del n } }

/-- A post on MB0 or MB1 (R577). -/
def State.mbServe (s : State) (n : Nat) : State :=
  if !s.dev.on (R.MB_STATUS_POSTED n 0) then s
  else
    let old := Tab.find? s.dev.bridle.asm n
    let len := s.dev.get (R.MB_POST_LEN n 0)
    let more := s.dev.on (R.MB_POST_MORE n 0)
    let x := old.getD (0, [])
    let all := x.2 ++ Mem.bytes s.mem (bar0Mem (0x20000 + n * 0x1000)) len
    let drop := fun (code : Nat) => (s.on (fun d => d.setAsm n none)).bridleAck n code
    if old.isNone ∧ (s.dev.mb n 0).crossed then drop 15
    else if 5 ≤ x.1 ∨ (more = true ∧ (len < 256 ∨ x.1 = 4)) ∨ (more = false ∧ all.length < 12) then drop 2
    else if more then (s.on (fun d => d.setAsm n (some (x.1 + 1, all)))).bridleAck n 0
    else if 8 ≤ s.dev.bridle.tasks.length ∧ s.dev.get (R.OWN_PORT_CLASS n) ≠ 0 then drop 4
    else
      let q := requestOf all (Fin.ofNat 4 n) 0 0 0 true
      (drop 0).takeCmd q.1 q.2

/-- A management frame that the Bridle received (R566): the request, if the layout holds. -/
def mgmtRequest (d : Dev) (p : Nat) (l : List Byte) : Option (Nat × CmdReq) :=
  let body := (frameBody l).drop (typeOff l + 2)
  let packet := body.drop 4
  if (d.isMgmt p l) = true ∧ body.getD 0 0 = 1 ∧ (body.getD 1 0).toNat = 0 ∧ par body 2 2 = 0 ∧ 12 ≤ packet.length then
    some (requestOf (packet.take (12 + par packet 2 2)) 2 (Fin.ofNat 26 p) (BitVec.ofNat 48 (smac l)) (BitVec.ofNat 16 (be16 l 14)) true)
  else none

/-- The frames on the BRIDLE channel are taken (R187, R566). -/
def State.mgmtServe (s : State) : State :=
  s.dev.fab.bridleRx.foldl (fun (a : State) e =>
    match mgmtRequest a.dev e.1 e.2 with
    | some q => a.takeCmd q.1 q.2
    | none => a) (s.on (fun d => d.withFab (fun f => { f with bridleRx := [] })))

/-- The packets held from HARNESS, and those held during a restart, are taken. -/
def State.heldServe (s : State) : State :=
  if s.dev.get R.BRIDLE_STATUS_STATE ≠ 1 then s
  else s.dev.bridle.hnRx.foldl (fun (a : State) e => a.takeCmd e.1 e.2)
    (s.on (fun d => { d with bridle := { d.bridle with hnRx := [] } }))

/-- A round of the Bridle (R552): every packet received since the last one is taken, the commands in progress go on, replies go out. -/
def State.bridleRound (s : State) : State :=
  if !s.dev.coreOn then s
  else if s.dev.get R.BRIDLE_STATUS_STATE ≠ 1 then s.mgmtServe
  else
    let s1 := ((s.swapIfFree).mbServe 0).mbServe 1
    let s2 := (s1.mgmtServe).heldServe
    ((s2.serve serveFuel).mbPump 0).mbPump 1

/-! ### Harness: packets, replies, timeouts (R314, R317, R318, R625) -/

/-- Whether a reply is about a target: it comes from that node, or from a device on the way that made the reply itself (R623). -/
def replyFor (target : Nat) (l : List Byte) : Bool :=
  let det := par l 10 2
  match par l 8 2 with
  | 4 => par l 4 2 == target || det == 2
  | 8 | 9 => par l 4 2 == target || det == target
  | _ => par l 4 2 == target

/-- A reply from a lane (R318, R625): it goes on to the port of the oldest entry that it matches, by lane, sequence and the node it
comes from. -/
def State.passReply (s : State) (p : Nat) (l : List Byte) : State :=
  match s.dev.hn.fwd.find? (fun e => e.lanes.contains p && e.req.sq.toNat == par l 7 1 && (e.all || replyFor e.req.target.toNat l)) with
  | some e =>
    (if e.all then s else s.on (fun d => d.withHn (fun h => { h with fwd := h.fwd.erase e }))).sendPacket e.req l
  | none => if s.dev.role p = 3 then s.on (fun d => d.inc R.HN_CMD_STATUS_LATE_REPLY) else s

/-- A CMD section of lane `p` is taken up (R314): a whole request waits for the round, a whole reply for its row. -/
def State.cmdFragment (s : State) (p : Nat) : State :=
  let r := s.dev.takeFrag p
  match r.2 with
  | none => { s with dev := r.1 }
  | some (reply, src, l) =>
    let s1 : State := { s with dev := r.1 }
    if reply then s1.on (fun d => d.withHn (fun h => { h with replies := h.replies ++ [(p, l)] }))
    else if l.length < 12 ∨ s.dev.followed ≠ some p then s1
    else
      let q := requestOf l 3 (Fin.ofNat 26 p) 0 0 (src == s.dev.hn.star)
      if s.dev.get R.BRIDLE_STATUS_STATE = 2 ∧ 8 ≤ s.dev.bridle.hnRx.length then (if s.dev.deaf q.2 then s1 else s1.answer q.1 q.2 4 1 [])
      else s1.on (fun d => { d with bridle := { d.bridle with hnRx := d.bridle.hnRx ++ [q] } })

/-- The oldest reply that waits on lane `p` is passed on. -/
def State.forwardedReply (s : State) (p : Nat) : State :=
  match s.dev.hn.replies.find? (fun e => e.1 == p) with
  | none => s
  | some e => (s.on (fun d => d.withHn (fun h => { h with replies := h.replies.erase e }))).passReply p e.2

/-- A forwarded command whose reply has not come in time (R317, R624): TIMEOUT with the target, but for FORWARD_ALL. -/
def State.forwardTimeout (s : State) (id : Nat) : State :=
  match s.dev.hn.fwd.find? (fun e => e.id == id) with
  | none => s
  | some e =>
    let s1 := s.on (fun d => (d.passNs (e.until' - d.now)).withHn (fun h => { h with fwd := h.fwd.erase e }))
    if e.all then s1 else s1.answer e.op e.req 8 e.req.target.toNat []

end Sys2Proof.Machine
end

