-- ==== Sys2Proof/Machine/System.lean ====
section
/-! DEFINITION. Start-up, resets, references and temperature (chapter 17), with the start-up steps of chapters 2, 4, 13 and 16. -/

namespace Sys2Proof.Machine
open Sys2Proof

/-! ### Start-up (R106, R199, R215, R485, R657, R658, R664, R678, R696, R706, R708) -/

/-- The record by which the device starts: that of MRAM, or the values of R658 while it is malformed. -/
def Dev.loadRecord (d : Dev) : Dev :=
  let ok := recordOk d.upd.record
  let r := if ok then recordOf d.upd.record else {}
  let d1 := ({ d with host := { d.host with record := r } }.set R.SEC_STATUS_RECORD_BAD (if ok then 0 else 1)).set R.HN_CTRL_NODE_ID r.nodeId
  let d2 := (List.range 4).foldl (fun (a : Dev) i => a.set (R.OWN_PORT_CLASS i) (r.classes.getD i 0)) d1
  (((d2.set R.OWN_TIMEOUT r.ownTimeout).set R.MGMT_VID r.mgmtVid).set R.MGMT_PORTS r.mgmtPorts).set R.MGMT_MAC r.mac

/-- The management ports run in the modes of the record (R199, R215, R567). -/
def Dev.mgmtPortsUp (d : Dev) : Dev :=
  (List.range 26).foldl (fun (a : Dev) p =>
    if d.host.record.mgmtPorts.testBit p then (a.set (R.PORT_CTRL_MODE p) (d.host.record.mgmtModes.getD p 0)).portEnable p true else a) d

/-- The outcome of the checks of the stored image (R677, R678): it is loaded, or the device enters RECOVERY. -/
def Dev.bootOutcome (d : Dev) (m : List Host.Cell) : Dev :=
  let b := bootCheck m d
  let d1 := (d.set R.SEC_BOOT_RESULT b.1).set R.SEC_BOOT_BLOCK b.2
  if b.1 = 0 then (d1.setJournal 2).runImage (imageInfo m) else d1.set R.SEC_STATUS_RECOVERY 1

/-- The time domain leaves reset, and BOOT_SEL is sampled, after a reset with the scope of power-on (R106, R706, R708). -/
def Dev.coldStart (d : Dev) (strap : Nat) : Dev :=
  let d1 := (d.set R.SYS_STRAP_BOOT_SEL strap).seedTimeBases
  if 4 ≤ strap then d1.cause R.SYS_DIAG_STRAP_ERR true 254 else d1

/-- `SYS_CLK` with the references that run (R702). -/
def Dev.clockBits (d : Dev) : Dev :=
  (d.set R.SYS_CLK_REF156_OK (if d.sys.lost.contains 0 then 0 else 1)).set R.SYS_CLK_RTC_OK (if d.sys.lost.contains 2 then 0 else 1)

/-- The causes that survived the reset raise their events once, and RESET_CAUSE its own (R695, R696). -/
def Dev.raiseSurvivors (d : Dev) : Dev :=
  let d1 := (List.range 8).foldl (fun (a : Dev) b =>
    if (d.get R.SLP_EVT).testBit b && (d.get R.SLP_EVT_EN).testBit b then a.raise (232 + b) else a) d
  let d2 := [R.RTC_STATUS_VBAT_LOW, R.RTC_STATUS_OSC_FAIL].foldl (fun (a : Dev) f => if d.on f then a.tbCause 0 (R.TB_STATUS_RTC_FAULT 0) 9 else a) d1
  if d.get R.SYS_RESET_CAUSE = 0 then d2 else d2.raise 250

/-- With a RUN strap the stored configuration is activated; the swap, once everything is powered, enables the ports and starts the stride (R706,
R708). -/
def State.strapRun (s : State) : State :=
  if s.dev.on R.SEC_STATUS_RECOVERY then s
  else
    let r := (s.on (fun d => d.withSys (fun y => { y with runDue := true }))).updActivate true
    if r.2.isSome then r.1.on (fun d => d.withSys (fun y => { y with runDue := false })) else r.1

/-- Start-up (R706). A failed check of Pip stops it. `upset`: an uncorrectable error is met in MRAM (R695). -/
def State.startup (s : State) (strap : Nat) (upset : Bool) : State :=
  if !s.dev.sys.starting || s.dev.isHeld || s.dev.pwr.asleep then s
  else
    let cold := s.dev.sys.cold
    let d0 := (s.dev.withSys (fun y => { y with starting := false })).withPwr (fun p => { p with failsafe := false })
    let dm := if upset then d0.eccEvent 4 else d0
    let d1 := (if cold then dm.coldStart strap else dm).clockBits
    if !Config.pipValid (Mem.bytes s.mem mramBase 0x10000) then { s with dev := (d1.withSys (fun y => { y with stopped := true })).emit (.reset true) }
    else
      let d2 := ((d1.loadRecord).mgmtPortsUp.bootOutcome s.mem).set R.SEC_STATUS_KEY_VALID (if d1.upd.hasKey then 1 else 0)
      let d3 := ((d2.set R.SW_STATUS_READY 1).set R.BRIDLE_STATUS_STATE 1).showTrx
      let s1 : State := { s with dev := d3 }
      let s2 := if cold && (strap == 0 || strap == 2) then s1.strapRun else s1
      s2.on (fun d => (d.withSys (fun y => { y with armed := true })).raiseSurvivors)

/-! ### Resets (R594, R702 to R705, R718) -/

/-- POR_N (R703): everything outside the battery domain resets. -/
def State.powerOn (s : State) : State := (s.powerReset false none).on (fun d => d.withSys (fun y => { y with test := false }))

/-- WARM_N (R704): a device that is held in reset stays so. -/
def State.warmPin (s : State) : State := if s.dev.isHeld then s else s.warmReset 1

/-- The warm reset that RESET asked for, 1 ms after its reply (R594). -/
def State.warmCmd (s : State) : State :=
  match s.dev.sys.warmAt with
  | some t => if s.dev.isHeld then s else (s.on (fun d => d.passNs (t - d.now))).warmReset 2
  | none => s

/-- TEST_EN reads high (R718): the device is held in reset. -/
def State.testEnHigh (s : State) : State :=
  (s.powerReset false none).on (fun d => (d.withSys (fun y => { y with test := true })).emit (.reset true))

/-! ### References (R702) -/

/-- Loss of a reference is declared: 0 the 156.25 MHz, 1 the 25 MHz, 2 the 32.768 kHz reference. -/
def Dev.refLoss (d : Dev) (r : Nat) : Dev :=
  if d.sys.lost.contains r then d
  else
    let d1 := d.withSys (fun y => { y with lost := y.lost ++ [r] })
    match r with
    | 0 =>
      let d2 := (d1.set R.SYS_CLK_REF156_OK 0).cause R.SYS_DIAG_CLK_LOSS true 249
      ((List.range 16).foldl (fun (a : Dev) p => if a.linkUp p then a.linkDown p 0 else a) d2).pcieReset
    | 1 => ((d1.set R.SYS_CLK_REF25_OK 0).addCause 3).emit (.reset true)
    | _ => (d1.set R.SYS_CLK_RTC_OK 0).vbatLoss true

/-- A lost reference has returned and run for 8 edges: with the 25 MHz reference the device restarts as after POR_N. -/
def State.refReturn (s : State) (r : Nat) : State :=
  if !s.dev.sys.lost.contains r then s
  else
    let s1 := s.on (fun d => d.withSys (fun y => { y with lost := y.lost.filter (fun x => x != r) }))
    match r with
    | 0 => s1.on (fun d => d.set R.SYS_CLK_REF156_OK 1)
    | 1 => s1.powerReset false (some 3)
    | _ => s1.on (fun d => d.set R.SYS_CLK_RTC_OK 1)

/-! ### Temperature (R695, R698) -/

/-- The thermal shutdown: every domain but AON goes off, the sleep pins are asserted. -/
def Dev.thermalOff (d : Dev) : Dev :=
  let d1 := ((List.range 8).map (fun i => i + 1)).foldl (fun (a : Dev) x => a.setDomain x 0) d
  ((d1.withSys (fun y => { y with hot := true })).addCause 4).showTrx

/-- A sample of the junction temperature, in units of 0.25 °C (R695, R698). -/
def State.tempSample (s : State) (t : Nat) : State :=
  if s.dev.sys.test || s.dev.sys.lost.contains 1 then s
  else
    let v := toSigned 16 t
    let s1 := s.on (fun d => d.set R.SYS_TEMP t)
    if s.dev.sys.hot then (if v < 440 then (s1.powerReset false (some 4)) else s1)
    else
      let w := toSigned 16 (s.dev.get R.SYS_THERM_WARN)
      let s2 := s1.on (fun d =>
        if d.sys.armed && decide (w ≤ v) then (d.cause R.SYS_DIAG_THERM_WARN true 248).withSys (fun y => { y with armed := false })
        else if decide (v ≤ w - 20) && !d.sys.starting then d.withSys (fun y => { y with armed := true })
        else d)
      if 520 ≤ v then s2.on (fun d => d.thermalOff) else s2

end Sys2Proof.Machine
end

