-- ==== Sys2Proof/Machine/ExecCommands.lean ====
section
/-! DEFINITION. The meanings of the command packets of chapter 14: each is taken by the Bridle, checked, executed and answered. -/

namespace Sys2Proof.Machine
open Sys2Proof

/-- GET_INFO: the command packet 0x0101 (R591). -/
def execGetInfo (r : CmdReq) (s : State) : Host.Outcome State Fault Refusal :=
  .next (s.takeCmd 0x0101 r)

/-- GET_STATUS: the command packet 0x0102 (R591). -/
def execGetStatus (r : CmdReq) (s : State) : Host.Outcome State Fault Refusal :=
  .next (s.takeCmd 0x0102 r)

/-- READ_REG: the command packet 0x0103 (R592). -/
def execReadReg (r : CmdReq) (s : State) : Host.Outcome State Fault Refusal :=
  .next (s.takeCmd 0x0103 r)

/-- WRITE_REG: the command packet 0x0104 (R592). -/
def execWriteReg (r : CmdReq) (s : State) : Host.Outcome State Fault Refusal :=
  .next (s.takeCmd 0x0104 r)

/-- READ_MEM: the command packet 0x0105 (R593). -/
def execReadMem (r : CmdReq) (s : State) : Host.Outcome State Fault Refusal :=
  .next (s.takeCmd 0x0105 r)

/-- WRITE_MEM: the command packet 0x0106 (R593). -/
def execWriteMem (r : CmdReq) (s : State) : Host.Outcome State Fault Refusal :=
  .next (s.takeCmd 0x0106 r)

/-- RESET: the command packet 0x0107 (R594). -/
def execReset (r : CmdReq) (s : State) : Host.Outcome State Fault Refusal :=
  .next (s.takeCmd 0x0107 r)

/-- GET_EVENTS: the command packet 0x0108 (R591). -/
def execGetEvents (r : CmdReq) (s : State) : Host.Outcome State Fault Refusal :=
  .next (s.takeCmd 0x0108 r)

/-- CLEAR_EVENTS: the command packet 0x0109 (R591). -/
def execClearEvents (r : CmdReq) (s : State) : Host.Outcome State Fault Refusal :=
  .next (s.takeCmd 0x0109 r)

/-- CLAIM_OWNER: the command packet 0x0201 (R552). -/
def execClaimOwner (r : CmdReq) (s : State) : Host.Outcome State Fault Refusal :=
  .next (s.takeCmd 0x0201 r)

/-- RELEASE_OWNER: the command packet 0x0202 (R551). -/
def execReleaseOwner (r : CmdReq) (s : State) : Host.Outcome State Fault Refusal :=
  .next (s.takeCmd 0x0202 r)

/-- HANDOVER_OWNER: the command packet 0x0203 (R553). -/
def execHandoverOwner (r : CmdReq) (s : State) : Host.Outcome State Fault Refusal :=
  .next (s.takeCmd 0x0203 r)

/-- KEEP_ALIVE: the command packet 0x0204 (R554). -/
def execKeepAlive (r : CmdReq) (s : State) : Host.Outcome State Fault Refusal :=
  .next (s.takeCmd 0x0204 r)

/-- SET_OWNER_TIMEOUT: the command packet 0x0205 (R551). -/
def execSetOwnerTimeout (r : CmdReq) (s : State) : Host.Outcome State Fault Refusal :=
  .next (s.takeCmd 0x0205 r)

/-- GET_OWNER: the command packet 0x0206 (R551). -/
def execGetOwner (r : CmdReq) (s : State) : Host.Outcome State Fault Refusal :=
  .next (s.takeCmd 0x0206 r)

/-- GET_BANKS: the command packet 0x0301 (R596). -/
def execGetBanks (r : CmdReq) (s : State) : Host.Outcome State Fault Refusal :=
  .next (s.takeCmd 0x0301 r)

/-- SET_BANK_OWNER: the command packet 0x0302 (R597). -/
def execSetBankOwner (r : CmdReq) (s : State) : Host.Outcome State Fault Refusal :=
  .next (s.takeCmd 0x0302 r)

/-- SET_BANK_POWER: the command packet 0x0303 (R597). -/
def execSetBankPower (r : CmdReq) (s : State) : Host.Outcome State Fault Refusal :=
  .next (s.takeCmd 0x0303 r)

/-- GET_FAULT_LOGS: the command packet 0x0304 (R596). -/
def execGetFaultLogs (r : CmdReq) (s : State) : Host.Outcome State Fault Refusal :=
  .next (s.takeCmd 0x0304 r)

/-- SET_SCRUB: the command packet 0x0305 (R596). -/
def execSetScrub (r : CmdReq) (s : State) : Host.Outcome State Fault Refusal :=
  .next (s.takeCmd 0x0305 r)

/-- GET_ENGINE: the command packet 0x0401 (R598). -/
def execGetEngine (r : CmdReq) (s : State) : Host.Outcome State Fault Refusal :=
  .next (s.takeCmd 0x0401 r)

/-- HALT_ENGINE: the command packet 0x0402 (R598). -/
def execHaltEngine (r : CmdReq) (s : State) : Host.Outcome State Fault Refusal :=
  .next (s.takeCmd 0x0402 r)

/-- RESTART_ENGINE: the command packet 0x0403 (R598). -/
def execRestartEngine (r : CmdReq) (s : State) : Host.Outcome State Fault Refusal :=
  .next (s.takeCmd 0x0403 r)

/-- GET_TEAM: the command packet 0x0404 (R598). -/
def execGetTeam (r : CmdReq) (s : State) : Host.Outcome State Fault Refusal :=
  .next (s.takeCmd 0x0404 r)

/-- GET_BRIDLE: the command packet 0x0405 (R598). -/
def execGetBridle (r : CmdReq) (s : State) : Host.Outcome State Fault Refusal :=
  .next (s.takeCmd 0x0405 r)

/-- GET_SWITCH: the command packet 0x0501 (R599). -/
def execGetSwitch (r : CmdReq) (s : State) : Host.Outcome State Fault Refusal :=
  .next (s.takeCmd 0x0501 r)

/-- GET_SWITCH_PORT: the command packet 0x0502 (R599). -/
def execGetSwitchPort (r : CmdReq) (s : State) : Host.Outcome State Fault Refusal :=
  .next (s.takeCmd 0x0502 r)

/-- GET_SLICES: the command packet 0x0503 (R599). -/
def execGetSlices (r : CmdReq) (s : State) : Host.Outcome State Fault Refusal :=
  .next (s.takeCmd 0x0503 r)

/-- CLEAR_SWITCH_COUNTERS: the command packet 0x0504 (R599). -/
def execClearSwitchCounters (r : CmdReq) (s : State) : Host.Outcome State Fault Refusal :=
  .next (s.takeCmd 0x0504 r)

/-- SET_MIRROR: the command packet 0x0505 (R599). -/
def execSetMirror (r : CmdReq) (s : State) : Host.Outcome State Fault Refusal :=
  .next (s.takeCmd 0x0505 r)

/-- GET_TIME: the command packet 0x0601 (R600). -/
def execGetTime (r : CmdReq) (s : State) : Host.Outcome State Fault Refusal :=
  .next (s.takeCmd 0x0601 r)

/-- ADJUST_TIME: the command packet 0x0602 (R601). -/
def execAdjustTime (r : CmdReq) (s : State) : Host.Outcome State Fault Refusal :=
  .next (s.takeCmd 0x0602 r)

/-- GET_STRIDE: the command packet 0x0603 (R600). -/
def execGetStride (r : CmdReq) (s : State) : Host.Outcome State Fault Refusal :=
  .next (s.takeCmd 0x0603 r)

/-- STRIDE_RUN: the command packet 0x0604 (R602). -/
def execStrideRun (r : CmdReq) (s : State) : Host.Outcome State Fault Refusal :=
  .next (s.takeCmd 0x0604 r)

/-- SET_LUNGE: the command packet 0x0605 (R603). -/
def execSetLunge (r : CmdReq) (s : State) : Host.Outcome State Fault Refusal :=
  .next (s.takeCmd 0x0605 r)

/-- SET_LATCH_PHASE: the command packet 0x0606 (R603). -/
def execSetLatchPhase (r : CmdReq) (s : State) : Host.Outcome State Fault Refusal :=
  .next (s.takeCmd 0x0606 r)

/-- GET_LUNGE: the command packet 0x0607 (R600). -/
def execGetLunge (r : CmdReq) (s : State) : Host.Outcome State Fault Refusal :=
  .next (s.takeCmd 0x0607 r)

/-- GET_PORT: the command packet 0x0701 (R604). -/
def execGetPort (r : CmdReq) (s : State) : Host.Outcome State Fault Refusal :=
  .next (s.takeCmd 0x0701 r)

/-- GET_PORT_COUNTERS: the command packet 0x0702 (R604). -/
def execGetPortCounters (r : CmdReq) (s : State) : Host.Outcome State Fault Refusal :=
  .next (s.takeCmd 0x0702 r)

/-- SET_PORT_ENABLE: the command packet 0x0703 (R605). -/
def execSetPortEnable (r : CmdReq) (s : State) : Host.Outcome State Fault Refusal :=
  .next (s.takeCmd 0x0703 r)

/-- CABLE_TEST: the command packet 0x0704 (R605). -/
def execCableTest (r : CmdReq) (s : State) : Host.Outcome State Fault Refusal :=
  .next (s.takeCmd 0x0704 r)

/-- GET_INSTANCES: the command packet 0x0705 (R604). -/
def execGetInstances (r : CmdReq) (s : State) : Host.Outcome State Fault Refusal :=
  .next (s.takeCmd 0x0705 r)

/-- HOLD_INSTANCE: the command packet 0x0706 (R606). -/
def execHoldInstance (r : CmdReq) (s : State) : Host.Outcome State Fault Refusal :=
  .next (s.takeCmd 0x0706 r)

/-- UPDATE_BEGIN: the command packet 0x0801 (R608). -/
def execUpdateBegin (r : CmdReq) (s : State) : Host.Outcome State Fault Refusal :=
  .next (s.takeCmd 0x0801 r)

/-- UPDATE_DATA: the command packet 0x0802 (R609). -/
def execUpdateData (r : CmdReq) (s : State) : Host.Outcome State Fault Refusal :=
  .next (s.takeCmd 0x0802 r)

/-- UPDATE_VERIFY: the command packet 0x0803 (R610). -/
def execUpdateVerify (r : CmdReq) (s : State) : Host.Outcome State Fault Refusal :=
  .next (s.takeCmd 0x0803 r)

/-- UPDATE_ACTIVATE: the command packet 0x0804 (R611). -/
def execUpdateActivate (r : CmdReq) (s : State) : Host.Outcome State Fault Refusal :=
  .next (s.takeCmd 0x0804 r)

/-- UPDATE_ABORT: the command packet 0x0805 (R612). -/
def execUpdateAbort (r : CmdReq) (s : State) : Host.Outcome State Fault Refusal :=
  .next (s.takeCmd 0x0805 r)

/-- UPDATE_STATUS: the command packet 0x0806 (R607). -/
def execUpdateStatus (r : CmdReq) (s : State) : Host.Outcome State Fault Refusal :=
  .next (s.takeCmd 0x0806 r)

/-- GET_CERT: the command packet 0x0901 (R613). -/
def execGetCert (r : CmdReq) (s : State) : Host.Outcome State Fault Refusal :=
  .next (s.takeCmd 0x0901 r)

/-- ATTEST: the command packet 0x0902 (R614). -/
def execAttest (r : CmdReq) (s : State) : Host.Outcome State Fault Refusal :=
  .next (s.takeCmd 0x0902 r)

/-- SET_LIFECYCLE: the command packet 0x0903 (R615). -/
def execSetLifecycle (r : CmdReq) (s : State) : Host.Outcome State Fault Refusal :=
  .next (s.takeCmd 0x0903 r)

/-- SET_CUSTOMER_ROOT: the command packet 0x0904 (R615). -/
def execSetCustomerRoot (r : CmdReq) (s : State) : Host.Outcome State Fault Refusal :=
  .next (s.takeCmd 0x0904 r)

/-- GET_POWER: the command packet 0x0A01 (R616). -/
def execGetPower (r : CmdReq) (s : State) : Host.Outcome State Fault Refusal :=
  .next (s.takeCmd 0x0A01 r)

/-- SET_DOMAIN: the command packet 0x0A02 (R617). -/
def execSetDomain (r : CmdReq) (s : State) : Host.Outcome State Fault Refusal :=
  .next (s.takeCmd 0x0A02 r)

/-- SLEEP_REQUEST: the command packet 0x0A03 (R617). -/
def execSleepRequest (r : CmdReq) (s : State) : Host.Outcome State Fault Refusal :=
  .next (s.takeCmd 0x0A03 r)

/-- SET_SLEEP_CONSENT: the command packet 0x0A04 (R616). -/
def execSetSleepConsent (r : CmdReq) (s : State) : Host.Outcome State Fault Refusal :=
  .next (s.takeCmd 0x0A04 r)

/-- GET_HARNESS: the command packet 0x0B01 (R618). -/
def execGetHarness (r : CmdReq) (s : State) : Host.Outcome State Fault Refusal :=
  .next (s.takeCmd 0x0B01 r)

/-- GET_LANE: the command packet 0x0B02 (R618). -/
def execGetLane (r : CmdReq) (s : State) : Host.Outcome State Fault Refusal :=
  .next (s.takeCmd 0x0B02 r)

/-- SELECT_UPLINK: the command packet 0x0B03 (R619). -/
def execSelectUplink (r : CmdReq) (s : State) : Host.Outcome State Fault Refusal :=
  .next (s.takeCmd 0x0B03 r)

/-- PING: the command packet 0x0B04 (R618). -/
def execPing (r : CmdReq) (s : State) : Host.Outcome State Fault Refusal :=
  .next (s.takeCmd 0x0B04 r)

/-- SET_FORWARD_TIMEOUT: the command packet 0x0B05 (R618). -/
def execSetForwardTimeout (r : CmdReq) (s : State) : Host.Outcome State Fault Refusal :=
  .next (s.takeCmd 0x0B05 r)

/-- ACTIVATION_SWAP: the swap edge of an activation (R611). -/
def execActivationSwap (s : State) : Host.Outcome State Fault Refusal :=
  .next (s.activationSwap)

/-- WARM_CMD: the warm reset that RESET has asked for (R594). -/
def execWarmCmd (s : State) : Host.Outcome State Fault Refusal :=
  .next (s.warmCmd)

end Sys2Proof.Machine
end

