-- ==== Sys2Proof/Machine/Zhofa.lean ====
section
/-! DEFINITION. The Zhofa instruction set (chapter 9): issue, retirement, the delay slot and faults as shared operations; the values
of the arithmetic, shift, bit-field and CRC instructions; branches; the timestamp unit. -/

namespace Sys2Proof.Machine
open Sys2Proof

/-! ### Issue and retirement (R435 to R438, R441, R443) -/

/-- What an instruction does: it completes; it transfers control after its delay slot; it faults with a cause and an
address and no effect of its own; it has issued and waits. -/
inductive ZRes where
  | next (d : Dev)
  | jump (d : Dev) (dest : Nat)
  | halt (d : Dev) (cause : Nat) (addr : Option Nat)
  | wait (d : Dev)

/-- Whether core `e` takes an instruction: running, or stopped at a fence with a delay slot before it (R385, R409); not waiting in one, and
no follower (its leader's instructions are its own). -/
def Dev.zReady (d : Dev) (e : Nat) : Bool :=
  (d.engine e).wait.isNone &&
  (if e < 48 then (d.engState e == 2 || (d.engState e == 5 && (d.engine e).slot.isSome)) && !d.follower e else d.get R.BRIDLE_STATUS_STATE == 1)

/-- Whether the instruction at the program counter cannot be fetched (R438). -/
def Dev.badFetch (d : Dev) (e : Nat) : Bool := d.pc e % 4 != 0 || decide (0x8000 ≤ d.pc e)

/-- The follower of a pair holds what its leader holds (R402). -/
def Dev.pairFollow (d : Dev) (e : Nat) : Dev :=
  match d.partner e with
  | none => d
  | some p =>
    let x := d.engine e
    let d1 := (d.setEngine p { d.engine p with g := x.g, slot := x.slot, wait := x.wait, stream := x.stream, latch := x.latch, edge := x.edge, evMask := x.evMask, limit := x.limit }).setPc
      p (d.pc e)
    let d2 := d1.set (R.ENG_STATUS_STATE p) (d.engState e)
    let d3 := if d.on (R.ENG_STATUS_OV e) && !d.on (R.ENG_STATUS_OV p) then d2.setOv p else d2
    if d.on (R.ENG_STATUS_DZ e) && !d.on (R.ENG_STATUS_DZ p) then d3.setDz p else d3

/-- The program counter after an instruction that retires: the target after a delay slot, else the next address; `to` opens a
delay slot (R435). -/
def Dev.advance (d : Dev) (e : Nat) (dest : Option Nat) : Dev :=
  let x := d.engine e
  match x.slot with
  | some t => (d.setPc e t).setEngine e { x with slot := none }
  | none => (d.setPc e (d.pc e + 4)).setEngine e { x with slot := dest }

/-- A HOST halt that waited for a delay slot takes effect (R406). -/
def Dev.lateHalt (d : Dev) (e : Nat) : Dev :=
  if (d.engine e).haltReq && (d.engine e).slot.isNone then d.hostHaltNow e else d

/-- The outcome of an instruction brought about (R435, R441). -/
def Dev.retire (e : Nat) (r : ZRes) : Dev :=
  match r with
  | .next d => ((d.advance e none).pairFollow e).lateHalt e
  | .jump d dest => (d.advance e (some (dest % 2 ^ 32))).pairFollow e
  | .halt d cause addr => d.zhalt e cause addr
  | .wait d => d.pairFollow e

/-- Core `e` issues an instruction (R443): a fetch fault first, then a branch in a delay slot, then the instruction. -/
def Dev.issue (d : Dev) (e : Nat) (branch : Bool) (r : ZRes) : Dev :=
  if !d.zReady e then d
  else if d.badFetch e then d.zhalt e 4 (some (d.pc e))
  else if branch && (d.engine e).slot.isSome then d.zhalt e 3 none
  else Dev.retire e r

/-! ### Values (R430 to R433) -/

/-- The result of an arithmetic instruction: the register value and the sticky flags it sets. -/
structure AluOut where
  v  : Nat
  ov : Bool := false
  dz : Bool := false

/-- An arithmetic instruction completes: flags, destination register. -/
def Dev.aluDone (d : Dev) (e rd : Nat) (x : AluOut) : Dev :=
  let d1 := if x.ov then d.setOv e else d
  let d2 := if x.dz then d1.setDz e else d1
  d2.setGreg e rd x.v

/-- An arithmetic instruction. -/
def Dev.alu (d : Dev) (e rd : Nat) (x : AluOut) : Dev := d.issue e false (.next (d.aluDone e rd x))

/-- S(x) (R419). -/
def S40 (v : Nat) : Int := toSigned 40 v
/-- wrap(v). -/
def wrap40 (i : Int) : Nat := ofSigned 40 i
/-- −2^39. -/
def min40 : Int := -549755813888
/-- 2^39 − 1. -/
def max40 : Int := 549755813887
/-- sat(v), with OV. -/
def sat40 (i : Int) : AluOut :=
  if i < min40 then { v := wrap40 min40, ov := true } else if max40 < i then { v := wrap40 max40, ov := true } else { v := wrap40 i }
/-- A condition as a register value. -/
def flag40 (b : Bool) : AluOut := { v := if b then 1 else 0 }
/-- A value sign-extended from `w` bits to a 40-bit pattern. -/
def sx40 (w v : Nat) : Nat := wrap40 (toSigned w v)

def zAdd (a b : Nat) : AluOut := { v := wrap40 (S40 a + S40 b) }
def zSub (a b : Nat) : AluOut := { v := wrap40 (S40 a - S40 b) }
def zAdds (a b : Nat) : AluOut := sat40 (S40 a + S40 b)
def zSubs (a b : Nat) : AluOut := sat40 (S40 a - S40 b)
def zAnd (a b : Nat) : AluOut := { v := a &&& b }
def zOr (a b : Nat) : AluOut := { v := a ||| b }
def zXor (a b : Nat) : AluOut := { v := a ^^^ b }
def zNor (a b : Nat) : AluOut := { v := 2 ^ 40 - 1 - (a ||| b) % 2 ^ 40 }
def zNeg (a : Nat) : AluOut := if S40 a = min40 then { v := wrap40 min40, ov := true } else { v := wrap40 (-(S40 a)) }
def zAbs (a : Nat) : AluOut := if S40 a = min40 then { v := wrap40 min40, ov := true } else { v := (S40 a).natAbs }
def zMin (a b : Nat) : AluOut := { v := if S40 a < S40 b then a else b }
def zMax (a b : Nat) : AluOut := { v := if S40 b < S40 a then a else b }
def zMinu (a b : Nat) : AluOut := { v := if a < b then a else b }
def zMaxu (a b : Nat) : AluOut := { v := if b < a then a else b }
def zClt (a b : Nat) : AluOut := flag40 (decide (S40 a < S40 b))
def zCltu (a b : Nat) : AluOut := flag40 (decide (a < b))
def zCle (a b : Nat) : AluOut := flag40 (decide (S40 a ≤ S40 b))
def zCleu (a b : Nat) : AluOut := flag40 (decide (a ≤ b))
def zCeq (a b : Nat) : AluOut := flag40 (a == b)
def zCne (a b : Nat) : AluOut := flag40 (a != b)
def zSext8 (a : Nat) : AluOut := { v := sx40 8 a }
def zSext16 (a : Nat) : AluOut := { v := sx40 16 a }
def zSext32 (a : Nat) : AluOut := { v := sx40 32 a }
def zZext32 (a : Nat) : AluOut := { v := a % 2 ^ 32 }

/-- Shifts (R431); the count is never masked. -/
def zSll (a c : Nat) : AluOut := { v := if 40 ≤ c then 0 else a * 2 ^ c % 2 ^ 40 }
def zSrl (a c : Nat) : AluOut := { v := if 40 ≤ c then 0 else a / 2 ^ c }
def zSra (a c : Nat) : AluOut := { v := if 40 ≤ c then (if S40 a < 0 then 2 ^ 40 - 1 else 0) else wrap40 (S40 a / (2 ^ c : Nat)) }
/-- Rotation left by `k` below 40. -/
def rotl40 (a k : Nat) : Nat := (a * 2 ^ k % 2 ^ 40) + a / 2 ^ (40 - k)
def zRol (a c : Nat) : AluOut := { v := rotl40 a (c % 40) }
def zRor (a c : Nat) : AluOut := { v := if c % 40 = 0 then a else rotl40 a (40 - c % 40) }

/-- Products (R432). -/
def zMul (a b : Nat) : AluOut := { v := wrap40 (S40 a * S40 b) }
def zMulh (a b : Nat) : AluOut := { v := wrap40 (S40 a * S40 b / (2 ^ 40 : Nat)) }
def zMulhu (a b : Nat) : AluOut := { v := a * b / 2 ^ 40 }
def zMuls (a b : Nat) : AluOut := sat40 (S40 a * S40 b)
def zMac (c a b : Nat) : AluOut := { v := wrap40 (S40 c + S40 a * S40 b) }
def zMacs (c a b : Nat) : AluOut := sat40 (S40 c + S40 a * S40 b)
def zMac16 (c a b : Nat) : AluOut := { v := wrap40 (S40 c + toSigned 16 a * toSigned 16 b) }
def zMacs16 (c a b : Nat) : AluOut := sat40 (S40 c + toSigned 16 a * toSigned 16 b)

/-- Divisions (R432): truncation toward zero, a remainder with the sign of the dividend. -/
def zDiv (a b : Nat) : AluOut :=
  if b = 0 then { v := 2 ^ 40 - 1, dz := true }
  else if S40 a = min40 ∧ S40 b = -1 then { v := wrap40 min40, ov := true }
  else { v := wrap40 ((S40 a).tdiv (S40 b)) }
def zDivu (a b : Nat) : AluOut := if b = 0 then { v := 2 ^ 40 - 1, dz := true } else { v := a / b }
def zRem (a b : Nat) : AluOut :=
  if b = 0 then { v := a, dz := true }
  else if S40 a = min40 ∧ S40 b = -1 then { v := 0, ov := true }
  else { v := wrap40 ((S40 a).tmod (S40 b)) }
def zRemu (a b : Nat) : AluOut := if b = 0 then { v := a, dz := true } else { v := a % b }

/-- Immediates (R433). -/
def zAddi (a i : Nat) : AluOut := { v := wrap40 (S40 a + toSigned 16 i) }
def zAddis (a i : Nat) : AluOut := sat40 (S40 a + toSigned 16 i)
def zAndi (a i : Nat) : AluOut := { v := a &&& i }
def zOri (a i : Nat) : AluOut := { v := a ||| i }
def zXori (a i : Nat) : AluOut := { v := a ^^^ i }
def zClti (a i : Nat) : AluOut := flag40 (decide (S40 a < toSigned 16 i))
def zCltiu (a i : Nat) : AluOut := flag40 (decide (a < sx40 16 i))
def zCeqi (a i : Nat) : AluOut := flag40 (a == sx40 16 i)
def zMovh (i : Nat) : AluOut := { v := wrap40 (toSigned 21 i * 65536) }
def zTopi (a i : Nat) : AluOut := { v := i % 256 * 2 ^ 32 + a % 2 ^ 32 }

/-! ### Branches (R434 to R436) -/

/-- The target of a relative branch at the program counter. -/
def Dev.relTarget (d : Dev) (e off : Nat) : Nat := ofSigned 32 ((d.pc e : Int) + toSigned 21 off * 4)

/-- A branch or jump without a link (R434): the delay slot follows whether or not it is taken. -/
def Dev.branch (d : Dev) (e : Nat) (taken : Bool) (dest : Nat) : Dev :=
  d.issue e true (.jump d (if taken then dest else d.pc e + 8))

/-- A jump that links (R434, R435). -/
def Dev.jumpLink (d : Dev) (e rd dest : Nat) : Dev := d.issue e true (.jump (d.setGreg e rd (d.pc e + 8)) dest)

/-! ### CRC unit (R449 to R451) -/

/-- rd after `n` bits of data. -/
def crcValue (p crc v n : Nat) : AluOut := { v := crcData (crcPoly p) (crc % 2 ^ (crcPoly p).1) v n }

/-- CRCN (R450): a count of 0 leaves rd unchanged. -/
def Dev.crcn (d : Dev) (e p rd rs rt : Nat) : Dev :=
  let n := min (d.greg e rt) 40
  if n = 0 then d.issue e false (.next d) else d.alu e rd (crcValue p (d.greg e rd) (d.greg e rs) n)

/-! ### Bit fields (R453) -/

/-- POS and the width of the field that a descriptor names, clipped to 40 bits; width 0 for an empty field. -/
def fieldOf (b : Nat) : Nat × Nat :=
  let pos := b % 64
  let len := bits b 8 6
  if len = 0 ∨ 40 ≤ pos then (0, 0) else (pos, min (pos + len) 40 - pos)

def zExtu (a b : Nat) : AluOut := { v := bits a (fieldOf b).1 (fieldOf b).2 }
def zExts (a b : Nat) : AluOut :=
  { v := if (fieldOf b).2 = 0 then 0 else sx40 (fieldOf b).2 (bits a (fieldOf b).1 (fieldOf b).2) }
def zIns (c a b : Nat) : AluOut :=
  let f := fieldOf b
  { v := c - bits c f.1 f.2 * 2 ^ f.1 + a % 2 ^ f.2 * 2 ^ f.1 }

/-- Leading zeros among the low `n` bits. -/
def clz (a : Nat) : Nat → Nat
  | 0 => 0
  | n + 1 => if a.testBit n then 0 else clz a n + 1
/-- Trailing zeros from bit `i` on, at most `n`. -/
def ctz (a i : Nat) : Nat → Nat
  | 0 => 0
  | n + 1 => if a.testBit i then 0 else ctz a (i + 1) n + 1
def zClz (a : Nat) : AluOut := { v := clz a 40 }
def zCtz (a : Nat) : AluOut := { v := ctz a 0 40 }
def zPopc (a : Nat) : AluOut := { v := ((List.range 40).filter (fun i => a.testBit i)).length }
def zBswap16 (a : Nat) : AluOut := { v := bits a 0 8 * 256 + bits a 8 8 }
def zBswap32 (a : Nat) : AluOut := { v := bits a 0 8 * 2 ^ 24 + bits a 8 8 * 2 ^ 16 + bits a 16 8 * 2 ^ 8 + bits a 24 8 }
/-- The bits of a byte in reverse. -/
def rev8 (b : Nat) : Nat := (List.range 8).foldl (fun a i => if b.testBit i then a + 2 ^ (7 - i) else a) 0
def zBrev8 (a : Nat) : AluOut := { v := rev8 (bits a 0 8) + rev8 (bits a 8 8) * 2 ^ 8 + rev8 (bits a 16 8) * 2 ^ 16 + rev8 (bits a 24 8) * 2 ^ 24 }

/-! ### Stream position and timestamp unit (R454, R455) -/

/-- SOPEN. -/
def Dev.sopen (d : Dev) (e rs rt : Nat) : Dev :=
  d.setEngine e { d.engine e with stream := { addr := d.greg e rs % 2 ^ 32, off := d.greg e rt % 8, order := bits (d.greg e rt) 3 1 } }

/-- A time latched (R455), `v` in units of 2^-16 ns of time base `n`; rd takes ns [39:0]. -/
def Dev.tsLatch (d : Dev) (e rd n v : Nat) : Dev :=
  (d.setEngine e { d.engine e with latch :=
    { ns := v / 2 ^ 16 % 2 ^ 64, frac := v % 2 ^ 16, fmt := if d.ptp n then 1 else 0, tb := n,
      gen := d.get (R.TB_STATUS_STEP_GEN n) } }).setGreg e rd (v / 2 ^ 16)

/-- TSFRAC's value. -/
def latchFrac (x : TimeLatch) : Nat := x.fmt * 2 ^ 23 + x.tb * 2 ^ 20 + x.gen * 2 ^ 16 + x.frac

/-- How far, in ns, time base `n` is past a value, modulo 2^40 and signed (R455). -/
def Dev.pastNs (d : Dev) (n until' : Nat) : Int := S40 (wrap40 ((d.tbNs n : Int) - until'))

/-- TSWAIT (R455): completes at once when the instant has come, else the core waits. -/
def Dev.tsWait (d : Dev) (e n until' : Nat) : Dev :=
  d.issue e false
    (if 0 ≤ d.pastNs n until' then .next d
     else .wait (d.setEngine e { d.engine e with wait := some (.time n until') }))

/-- A wait of core `e` over: the instruction retires. -/
def Dev.endWait (d : Dev) (e : Nat) : Dev := d.setEngine e { d.engine e with wait := none }

/-- The time base reaches the value that TSWAIT waits for (R455). -/
def Dev.tsWaitDone (d : Dev) (e : Nat) : Dev :=
  match (d.engine e).wait with
  | some (.time n u) =>
    let d1 := if 0 ≤ d.pastNs n u then d else d.passTo n ((d.tbNs n + (d.pastNs n u).natAbs) * 2 ^ 32)
    Dev.retire e (.next (d1.endWait e))
  | _ => d

/-! ### Undefined instruction words (R429, R436, R442, R443) -/

/-- Whether a word is a branch or jump, whatever its other fields hold (R436). -/
def zIsBranch (w : Nat) : Bool :=
  let op := bits w 26 6
  op == 0x28 || op == 0x29 || op == 0x2A || (op == 3 && decide (bits w 20 6 < 2))

/-- The CRC and coprocessor words that R445 to R461 assign, for core `e`. -/
def zCopAssigned (e w : Nat) : Bool :=
  let op := bits w 26 6
  let sub := bits w 20 6
  let aux := bits w 15 5
  let rt := bits w 10 5
  let rs := bits w 5 5
  let rd := w % 32
  match op with
  | 0x3C => aux == 0 && ((decide (sub % 8 < 3) && rt == 0) || sub % 8 == 3 || (sub % 8 == 5 && decide (sub / 8 < 5)))
  | 0x3D => aux == 0 &&
      (decide (sub < 3) || (decide (sub < 9) && rt == 0) || (sub == 0x10 && rd == 0) || ((sub == 0x11 || sub == 0x12) && rs == 0) ||
       (sub == 0x13 && rd == 0) || (sub == 0x14 && rs == 0 && rt == 0))
  | 0x3E => rt == 0 &&
      ((sub == 0 && rs == 0 && decide (aux < 8)) || (decide (1 ≤ sub) && decide (sub < 4) && rs == 0 && aux == 0) ||
       (sub == 4 && rd == 0 && decide (aux < 8)))
  | _ =>
    if e < 48 then aux == 0 && ((sub == 0 && rd == 0) || ((sub == 1 || sub == 2) && rs == 0 && rt == 0))
    else (sub == 0x20 && w % 2 ^ 20 == 0) || (sub == 0x21 && aux == 0 && rt == 0 && rd == 0) ||
      (sub == 0x22 && decide (aux < 8) && rt == 0 && rs == 0)

/-- Whether a word is an assigned instruction of core `e` with every reserved field 0 (R426 to R429). -/
def zAssigned (e w : Nat) : Bool :=
  let op := bits w 26 6
  let fn := bits w 20 6
  let rt := bits w 10 5
  match op with
  | 0x00 => bits w 15 5 == 0 && (decide (fn < 8) || ((fn == 8 || fn == 9) && rt == 0) || (decide (10 ≤ fn) && decide (fn < 14)) ||
      (decide (16 ≤ fn) && decide (fn < 22)) || (decide (24 ≤ fn) && decide (fn < 28) && rt == 0))
  | 0x01 => (decide (fn < 5) && bits w 15 5 == 0) || (decide (8 ≤ fn) && decide (fn < 13) && bits w 16 4 == 0)
  | 0x02 => decide (fn < 12) && bits w 15 5 == 0
  | 0x03 => bits w 10 10 == 0 && ((fn == 0 && w % 32 == 0) || fn == 1 || (fn == 2 && w % 2 ^ 10 == 0))
  | 0x11 => bits w 18 8 == 0
  | _ =>
    if 0x3C ≤ op then zCopAssigned e w
    else (decide (8 ≤ op) && decide (op ≤ 0x10)) || (decide (0x18 ≤ op) && decide (op ≤ 0x1E)) || (decide (0x20 ≤ op) && decide (op ≤ 0x23)) ||
      (decide (0x28 ≤ op) && decide (op ≤ 0x2A))

/-- A core reaches a word that is no instruction, or whose fetch fails (R429, R436, R438, R442, R443): the first cause in the order of R443.
An assigned word is executed by its own row and does nothing here. -/
def Dev.undefinedWord (d : Dev) (e w : Nat) (ecc : Bool) : Dev :=
  if !d.zReady e then d
  else if d.badFetch e then d.zhalt e 4 (some (d.pc e))
  else if ecc then (d.zhalt e 5 (some (d.pc e))).eccEvent 3
  else if (d.engine e).slot.isSome && zIsBranch w then d.zhalt e 3 none
  else if zAssigned e w then d
  else d.zhalt e 2 none

end Sys2Proof.Machine
end

