-- ==== Sys2Proof/Machine/ZhofaMem.lean ====
section
/-! DEFINITION. The memory accesses of the Zhofa cores: the address map of chapter 8 (R388 to R392), loads and stores (R422 to R425),
ENG_WAIT (R395), CRC memory mode, the stream unit, the mover and the SHA-256 unit (R447 to R462). -/

namespace Sys2Proof.Machine
open Sys2Proof

/-! ### Issue over the whole state -/

/-- Core `e` issues an instruction that acts on the memories (R435, R441, R443): a fetch fault first, then the fault of the
instruction itself (cause and data address), then its effect, after which it retires. -/
def State.zdo (s : State) (e : Nat) (fault : Option (Nat × Option Nat)) (f : State → State) : State :=
  if !s.dev.zReady e then s
  else if s.dev.badFetch e then s.on (fun d => d.zhalt e 4 (some (d.pc e)))
  else match fault with
    | some c => s.on (fun d => d.zhalt e c.1 c.2)
    | none => (f s).on (fun d => Dev.retire e (.next d))

/-- The state with what a memory read does, when the instruction's fault is one that this read found (R442, R467): the bank records the
error although the instruction has no effect of its own. -/
def State.readFaulted (s : State) (e : Nat) (fault : Option (Nat × Option Nat)) (r : State) : State :=
  if s.dev.zReady e && !s.dev.badFetch e && fault.any (fun c => c.1 == 5) then r else s

/-! ### The address map (R388, R389) -/

/-- What an engine address names, with the offset in it. -/
inductive ZArea where
  | scratch (off : Nat)
  | orch (off : Nat)
  | cp (off : Nat)
  | engReg (off : Nat)
  | rideReg (off : Nat)
  | mirror (off : Nat)
  | window (off : Nat)
  | hole
deriving DecidableEq, Repr

/-- The area of an engine address (R388). Instruction RAM admits no data access. -/
def zArea (a : Nat) : ZArea :=
  if 0x10000000 ≤ a ∧ a < 0x10008000 then .scratch (a - 0x10000000)
  else if 0x20000000 ≤ a ∧ a < 0x22000000 then .orch (a - 0x20000000)
  else if a = 0x40000000 ∨ a = 0x40000004 then .cp (a - 0x40000000)
  else if 0x40010000 ≤ a ∧ a < 0x40010040 then .engReg (a - 0x40010000)
  else if 0x40020000 ≤ a ∧ a < 0x40020010 then .rideReg (a - 0x40020000)
  else if 0x41000000 ≤ a ∧ a < 0x41100000 then .mirror (a - 0x41000000)
  else if 0x60000000 ≤ a ∧ a < 0x60000100 then .window (a - 0x60000000)
  else .hole

/-- Whether an access of `n` bytes (8 for the 40-bit form) at an address raises ACCESS for core `e` (R388, R389, R423, R447). The
Bridle has no engine registers and no ride window. -/
def Dev.zForbids (d : Dev) (e a n : Nat) : Bool :=
  a % n != 0 ||
  (match zArea a with
   | .scratch _ | .orch _ => false
   | .cp _ | .mirror _ => n != 4
   | .engReg _ => n != 4 || decide (48 ≤ e)
   | .rideReg _ => n != 4 || decide (48 ≤ e) || (d.editPort (e / 4)).isNone
   | .window _ => n == 8 || decide (48 ≤ e) || (d.editPort (e / 4)).isNone
   | .hole => true)

/-- The requester that core `e` reaches Orchard as (R390, R473): its team on port A; the Bridle on port B. -/
def zReq (e : Nat) : Req := if e < 48 then Req.ofEngine e else Req.sys 14

/-- The writer that core `e` is on the BAR0 mirror. -/
def zWriter (e : Nat) : Writer := if h : e < 48 then .engine ⟨e, h⟩ else .bridle

/-- The place of a scratchpad byte in the memory. -/
def scratchAddr (e off : Nat) : Nat := engBase e + 0x10000 + off

/-- Whether a read of Orchard bytes by core `e` meets an uncorrectable error (R390). -/
def Dev.zUe (d : Dev) (e off n : Nat) : Bool :=
  d.bankRefuses (off / 0x80000) (zReq e) == 0 && (wordsOf off n).any (fun w => d.eccAt w == some .ue)

/-- `CP_ID` (R447). -/
def cpId (e : Nat) : Nat := if e < 48 then 15 else 23

/-- A team ride register (R400). -/
def Dev.rideRegRead (d : Dev) (e off : Nat) : Nat :=
  match off with
  | 4 => (match d.editPort (e / 4) with | some p => d.ridePos p | none => 0)
  | 8 => d.rideMarkAt (e / 4)
  | _ => 0

/-- A store to a team ride register (R400). -/
def Dev.rideRegWrite (d : Dev) (e off v : Nat) : Dev :=
  match off with
  | 0 => d.rideLen e v
  | 8 => d.withNet (fun n => { n with rideMark := n.rideMark.put (e / 4) (v % 2 ^ 14) })
  | _ => d

/-- The bytes of the ride window from an offset. -/
def Dev.windowBytes (d : Dev) (e off n : Nat) : Nat :=
  match d.editPort (e / 4) with
  | some p => leNat ((List.range n).map (fun i => BitVec.ofNat 8 (d.windowRead p (off + i))))
  | none => 0

/-- A store of engine `e` to one byte of the window of its team (R401): of two engines that store to it in one cycle, which is one instant of
the model (log entry 190), the lower number wins. -/
def Dev.windowPut (d : Dev) (e p o b : Nat) : Dev :=
  let put := fun (d : Dev) => (d.windowWrite p o b).withNet (fun n => { n with winBy := n.winBy.put (e / 4 * 256 + o) (d.now, e) })
  match (Tab.find? d.net.winBy (e / 4 * 256 + o)).filter (fun x => x.1 == d.now && x.2 != e) with
  | some x => if x.2 < e then d.engCause e (R.ENG_STATUS_RIDE_WLOST e) 5 else put (d.engCause x.2 (R.ENG_STATUS_RIDE_WLOST x.2) 5)
  | none => put d

/-- A store of bytes to the ride window, ascending. -/
def Dev.windowStore (d : Dev) (e off : Nat) (bs : List Byte) : Dev :=
  match d.editPort (e / 4) with
  | some p => ((List.range bs.length).zip bs).foldl (fun (a : Dev) x => a.windowPut e p (off + x.1) x.2.toNat) d
  | none => d

/-- The scratchpad words that a store of engine `e` touches, kept for this instant (R392). -/
def Dev.scrStored (d : Dev) (e o n : Nat) : Dev :=
  let x := d.engine e
  d.setEngine e { x with scrAt := d.now, scr := ((List.range n).map (fun i => (o + i) / 4)) ++ (if x.scrAt = d.now then x.scr else []) }

/-- The memory as the loads of engine `e` see it: with its own stores that a lockstep pair still holds (R403, R424). -/
def State.heldMem (s : State) (e : Nat) : List Host.Cell :=
  (s.dev.engine e).held.foldl (fun m h =>
    match zArea h.addr with
    | .scratch o => Mem.setBytes m (scratchAddr e o) h.bytes
    | .orch o => if s.dev.bankRefuses (o / 0x80000) (zReq e) = 0 then Mem.setBytes m o h.bytes else m
    | _ => m) s.mem

/-- The value of a load of `n` bytes that the map admits, other than of ENG_WAIT, and the state after it. -/
def State.zLoad (s : State) (e a n : Nat) : Nat × State :=
  match zArea a with
  | .scratch o => (leNat (Mem.bytes (s.heldMem e) (scratchAddr e o) n), s)
  | .orch o => (leNat (orchRead (s.heldMem e) s.dev (zReq e) o n).1, { s with dev := (orchRead (s.heldMem e) s.dev (zReq e) o n).2 })
  | .cp o => (if o = 0 then cpId e else (s.dev.engine e).sg.errAddr, s)
  | .engReg o => ((s.dev.engRegRead e o).getD 0, s)
  | .rideReg o => (s.dev.rideRegRead e o, s)
  | .mirror o => ((s.regRead (zWriter e) (readerCode (zWriter e)) o 4).1.headD 0, (s.regRead (zWriter e) (readerCode (zWriter e)) o 4).2)
  | .window o => (s.dev.windowBytes e o n, s)
  | .hole => (0, s)

/-- A store of bytes that the map admits (R390, R391, R424). -/
def State.zStore (s : State) (e a : Nat) (bs : List Byte) : State :=
  match zArea a with
  | .scratch o => { s with mem := Mem.setBytes s.mem (scratchAddr e o) bs, dev := s.dev.scrStored e o bs.length }
  | .orch o => s.orchWrite (zReq e) o bs
  | .engReg o => s.on (fun d => d.engRegWrite e o (leNat bs))
  | .rideReg o => s.on (fun d => d.rideRegWrite e o (leNat bs))
  | .mirror o => s.gate (zWriter e) o (fun x => x.regWrite (zWriter e) o 4 (leNat bs))
  | .window o => s.on (fun d => d.windowStore e o bs)
  | .cp _ | .hole => s

/-! ### Stores of a lockstep pair (R403, R404) -/

/-- The oldest held store of leader `e` meets the comparison: it is performed, or it and the stores after it are discarded. -/
def State.lsRelease (s : State) (e : Nat) : State :=
  match (s.dev.engine e).held with
  | [] => s
  | h :: r =>
    if h.bad then s.on (fun d => d.lsMismatch e h.pc)
    else (s.on (fun d => d.setEngine e { d.engine e with held := r })).zStore e h.addr h.bytes

/-- The held stores of engine `e` whose instant has come by `t`; `fuel` bounds their number. -/
def State.lsDue (s : State) (e t : Nat) : Nat → State
  | 0 => s
  | fuel + 1 => if (s.dev.engine e).held.any (fun h => decide (h.due ≤ t)) then (s.lsRelease e).lsDue e t fuel else s

/-- Every held store of engine `e` (R425). -/
def State.lsDrain (s : State) (e : Nat) : Nat → State
  | 0 => s
  | fuel + 1 => (s.lsRelease e).lsDrain e fuel

/-- Every earlier store of engine `e` has been performed (R425, R448). -/
def State.performed (s : State) (e : Nat) : State := s.lsDrain e (s.dev.engine e).held.length

/-- The held stores of every pair whose instant has come by `t` (R403). -/
def State.lsUntil (s : State) (t : Nat) : State := (List.range 24).foldl (fun (a : State) i => a.lsDue (2 * i) t 4) s

/-- The held stores that come before the next fence or edge of a live stride (R403). -/
def State.lsStride (s : State) : State :=
  let d := s.dev
  let n := d.stride.next
  if d.strideLive then s.lsUntil (d.passStride ((if d.stride.fenceAt.isSome then d.edgeNs n else d.edgeNs n - d.strideG) * 2 ^ 32)).now else s

/-- Whether a store of a pair to an address is held. The other engine registers act on the engine itself as the store retires (R384). -/
def lsHolds (a : Nat) : Bool :=
  match zArea a with
  | .engReg o => o == 0x20 || o == 0x28
  | .cp _ | .hole => false
  | _ => true

/-- A full buffer of a pair releases its oldest store before the next (R403). -/
def State.room (s : State) (e : Nat) : State := if (s.dev.engine e).held.length < 4 then s else s.lsRelease e

/-- A store that engine `e` posts (R403, R424): performed at once, or held by a lockstep pair for 3 cycles. `bad`: the follower's retirement
differs. -/
def State.post (s : State) (e a : Nat) (bs : List Byte) (bad : Bool) : State :=
  if (s.dev.partner e).isNone || !lsHolds a then s.zStore e a bs
  else s.on (fun d => d.setEngine e
    { d.engine e with held := (d.engine e).held ++ [{ due := d.now + 3, pc := d.pc e, addr := a, bytes := bs, bad := bad }] })

/-- A load of `n` bytes waits for the held stores to a register or window byte that it reads (R424). -/
def State.loadReady (s : State) (e a n : Nat) : State :=
  match zArea a with
  | .scratch _ | .orch _ => s
  | _ => if (s.dev.engine e).held.any (fun h => decide (h.addr < a + n ∧ a < h.addr + h.bytes.length)) then s.performed e else s

/-- The effective address (R422). -/
def Dev.ea (d : Dev) (e rs : Nat) (imm : BitVec 16) : Nat := (wrap40 (S40 (d.greg e rs) + imm.toInt)) % 2 ^ 32

/-- The fault of a load or store of `n` bytes at an address (R442): ACCESS, or ECC on an Orchard load. -/
def Dev.zFault (d : Dev) (e a n : Nat) (load : Bool) : Option (Nat × Option Nat) :=
  if d.zForbids e a n then some (4, some a)
  else match zArea a with
    | .orch o => if load && d.zUe e o n then some (5, some a) else none
    | _ => none

/-! ### ENG_WAIT (R395) -/

/-- A 32-bit value in a register, sign- or zero-extended. -/
def word40 (sx : Bool) (v : Nat) : Nat := if sx then sx40 32 v else v % 2 ^ 32

/-- A read of ENG_WAIT: the enabled latched lines, which it clears, or the engine waits. In the delay slot of an engine that is FENCED the
wait is given up: the fence stops an engine in WAIT (R385). -/
def Dev.engWait (d : Dev) (e rd : Nat) (sx : Bool) : Dev :=
  let l := d.enabledLines e
  d.issue e false
    (if l ≠ 0 then .next ((d.clearLines e l).setGreg e rd (word40 sx l))
     else if d.engState e = 5 then .wait (d.setEngine e { d.engine e with slot := none })
     else .wait ((d.set (R.ENG_STATUS_STATE e) 3).setEngine e { d.engine e with wait := some (.events rd sx), waitAt := d.now }))

/-- A waiting engine's read returns `l` and clears those lines (R395). -/
def Dev.waitReturn (d : Dev) (e rd : Nat) (sx : Bool) (l : Nat) : Dev :=
  Dev.retire e (.next ((((d.endWait e).set (R.ENG_STATUS_STATE e) 2).clearLines e l).setGreg e rd (word40 sx l)))

/-- An enabled line is latched while the engine waits (R395). -/
def Dev.waitWake (d : Dev) (e : Nat) : Dev :=
  match (d.engine e).wait with
  | some (.events rd sx) => if d.enabledLines e = 0 ∨ d.follower e then d else d.waitReturn e rd sx (d.enabledLines e)
  | _ => d

/-- ENG_WAIT_LIMIT cycles of 1 ns pass first (R395): the read returns 0, or a line latched in the same cycle. -/
def Dev.waitLimit (d : Dev) (e : Nat) : Dev :=
  match (d.engine e).wait with
  | some (.events rd sx) =>
    if (d.engine e).limit = 0 ∨ d.follower e then d
    else
      let d1 := d.passNs ((d.engine e).waitAt + (d.engine e).limit - d.now)
      d1.waitReturn e rd sx (d1.enabledLines e)
  | _ => d

/-! ### Loads and stores (R423) -/

/-- A load: `ext` makes the register value of the bytes read. A 32-bit load of ENG_WAIT waits (R395). -/
def State.load (s0 : State) (e rd rs : Nat) (imm : BitVec 16) (n : Nat) (ext : Nat → Nat) (sx : Bool) : State :=
  let a := s0.dev.ea e rs imm
  let s := s0.loadReady e a n
  let fault := s.dev.zFault e a n true
  if a = 0x4001000C ∧ fault.isNone then s.on (fun d => d.engWait e rd sx)
  else (s.readFaulted e fault (s.zLoad e a n).2).zdo e fault (fun x => (x.zLoad e a n).2.on (fun d => d.setGreg e rd (ext (x.zLoad e a n).1)))

/-- A store of the low `n` bytes of a value; `bad`: a lockstep pair's follower retires it with a difference (R403), which R404 meets at once
where the store is not held. -/
def State.store (s0 : State) (e rs : Nat) (imm : BitVec 16) (n v : Nat) (bad : Bool) : State :=
  let a := s0.dev.ea e rs imm
  let s := s0.room e
  let mis := if bad && (s.dev.partner e).isSome && !lsHolds a then some (6, none) else none
  s.zdo e ((s.dev.zFault e a n false).or mis) (fun x => x.post e a (leBytes n v) bad)

/-- SYNC (R425): every earlier store has been performed. -/
def State.sync (s : State) (e : Nat) : State := (s.performed e).on (fun d => d.issue e false (.next d))

/-! ### Memory reads and writes of the coprocessors (R448, R452, R454, R457) -/

/-- Whether a coprocessor may touch an address: the scratchpad or Orchard. -/
def copMay (a : Nat) : Bool :=
  match zArea a with
  | .scratch _ | .orch _ => true
  | _ => false

/-- The first of `n` addresses from `a` that a coprocessor may not touch. -/
def copHole (a n : Nat) : Option Nat := ((List.range n).map (fun i => (a + i) % 2 ^ 32)).find? (fun x => !copMay x)

/-- The first address of an uncorrectable error among `n` bytes that core `e` reads (R390). -/
def Dev.copUe (d : Dev) (e a n : Nat) : Option Nat :=
  ((List.range n).map (fun i => a + i)).find? (fun x => match zArea x with | .orch o => d.zUe e o 1 | _ => false)

/-- The fault of a coprocessor read of `n` bytes. -/
def Dev.copFault (d : Dev) (e a n : Nat) : Option (Nat × Option Nat) :=
  match copHole a n with
  | some x => some (4, some x)
  | none => (match d.copUe e a n with | some x => some (5, some x) | none => none)

/-- Bytes read by core `e`, in pieces that end at multiples of 8; `fuel` bounds their number. -/
def State.copRead (s : State) (e a n : Nat) : Nat → List Byte × State
  | 0 => ([], s)
  | fuel + 1 =>
    let k := min n (8 - a % 8)
    if n = 0 then ([], s)
    else
      let x : List Byte × State := match zArea a with
        | .scratch o => (Mem.bytes s.mem (scratchAddr e o) k, s)
        | .orch o => ((orchRead s.mem s.dev (zReq e) o k).1, { s with dev := (orchRead s.mem s.dev (zReq e) o k).2 })
        | _ => (List.replicate k 0, s)
      let r := x.2.copRead e (a + k) (n - k) fuel
      (x.1 ++ r.1, r.2)

/-- Bytes written by core `e`, in pieces that end at multiples of 8. -/
def State.copWrite (s : State) (e a : Nat) (bs : List Byte) : Nat → State
  | 0 => s
  | fuel + 1 =>
    let k := 8 - a % 8
    if bs = [] then s else (s.zStore e a (bs.take k)).copWrite e (a + k) (bs.drop k) fuel

/-- Bytes posted by core `e` as stores, in pieces that end at multiples of 8 (R448, R462). -/
def State.copPost (s : State) (e a : Nat) (bs : List Byte) : Nat → State
  | 0 => s
  | fuel + 1 =>
    let k := 8 - a % 8
    if bs = [] then s else (s.post e a (bs.take k) false).copPost e (a + k) (bs.drop k) fuel

/-- The pieces that `n` bytes may need. -/
def pieces (n : Nat) : Nat := n / 8 + 2

/-- The state after a coprocessor read of `n` bytes from `a` that met an uncorrectable error: the words up to it were read (R442, R467). -/
def State.copFaulted (s : State) (e a n : Nat) (fault : Option (Nat × Option Nat)) : State :=
  let k := ((s.dev.copUe e a n).map (fun x => x + 1 - a)).getD 0
  s.readFaulted e fault (s.copRead e a k (pieces k)).2

/-! ### CRC memory mode (R450 to R452) -/

/-- CRCM: ACCESS at rs for a count above 65,536; POLY 5 to 7 is unassigned. -/
def State.crcm (s0 : State) (e poly rd rs rt : Nat) : State :=
  let s := s0.performed e
  let d := s.dev
  let a := d.greg e rs % 2 ^ 32
  let n := d.greg e rt
  let w := (crcPoly poly).1
  let fault := if 5 ≤ poly then some (2, none) else if 65536 < n then some (4, some a) else d.copFault e a n
  (s.copFaulted e a n fault).zdo e fault (fun x =>
    if n = 0 then x
    else (x.copRead e a n (pieces n)).2.on (fun d => d.setGreg e rd
      ((x.copRead e a n (pieces n)).1.foldl (fun c b => crcData (crcPoly poly) c b.toNat 8) (d.greg e rd % 2 ^ w))))

/-! ### The bit stream (R454) -/

/-- Bit `k` of a stream over bytes, from a bit offset in an order. -/
def streamBit (bs : List Byte) (off order k : Nat) : Bool :=
  let b := (bs.getD ((off + k) / 8) 0).toNat
  b.testBit (if order = 0 then (off + k) % 8 else 7 - (off + k) % 8)

/-- The next `n` bits of a stream as a number. -/
def streamGet (bs : List Byte) (off order n : Nat) : Nat :=
  (List.range n).foldl (fun a k => if streamBit bs off order k then a + 2 ^ (if order = 0 then k else n - 1 - k) else a) 0

/-- A bit of a byte set to a value. -/
def putBit (b : Byte) (i : Nat) (v : Bool) : Byte := if v then b ||| BitVec.ofNat 8 (2 ^ i) else b &&& ~~~ (BitVec.ofNat 8 (2 ^ i))

/-- The bytes touched, with the low `n` bits of `v` written into the stream and the other bits kept. -/
def streamPut (bs : List Byte) (off order n v : Nat) : List Byte :=
  (List.range n).foldl (fun (l : List Byte) k =>
    l.modify ((off + k) / 8) (fun b =>
      putBit b (if order = 0 then (off + k) % 8 else 7 - (off + k) % 8) (v.testBit (if order = 0 then k else n - 1 - k)))) bs

/-- The position moved by `n` bits. -/
def StreamPos.advance (p : StreamPos) (n : Nat) : StreamPos := { p with addr := (p.addr + (p.off + n) / 8) % 2 ^ 32, off := (p.off + n) % 8 }

/-- How many bytes `n` bits from an offset touch. -/
def streamBytes (off n : Nat) : Nat := if n = 0 then 0 else (off + n + 7) / 8

/-- The device with the stream position moved. -/
def Dev.streamMove (d : Dev) (e n : Nat) : Dev := d.setEngine e { d.engine e with stream := (d.engine e).stream.advance n }

/-- SGET and SGETS. -/
def State.sget (s0 : State) (e rd rt : Nat) (sx : Bool) : State :=
  let s := s0.performed e
  let p := (s.dev.engine e).stream
  let n := min (s.dev.greg e rt) 40
  let k := streamBytes p.off n
  let fault := s.dev.copFault e p.addr k
  (s.copFaulted e p.addr k fault).zdo e fault (fun x =>
    let v := streamGet (x.copRead e p.addr k (pieces k)).1 p.off p.order n
    (x.copRead e p.addr k (pieces k)).2.on (fun d => (d.streamMove e n).setGreg e rd (if sx && n != 0 then sx40 n v else v)))

/-- SPUT. -/
def State.sput (s0 : State) (e rs rt : Nat) : State :=
  let s := s0.performed e
  let p := (s.dev.engine e).stream
  let n := min (s.dev.greg e rt) 40
  let k := streamBytes p.off n
  let v := s.dev.greg e rs
  let fault := s.dev.copFault e p.addr k
  (s.copFaulted e p.addr k fault).zdo e fault (fun x =>
    let r := x.copRead e p.addr k (pieces k)
    (r.2.copPost e p.addr (streamPut r.1 p.off p.order n v) (pieces k)).on (fun d => d.streamMove e n))

/-! ### The scatter-gather mover (R456 to R460, R462) -/

/-- Whether cells of the mover of engine `e` are on their way (R460). -/
def Dev.moverSending (d : Dev) (e : Nat) : Bool := d.img.cells.any (fun c => c.mover == some e)

/-- The status word of the mover. -/
def MoverSt.word (x : MoverSt) : Nat := (if x.busy then 2 ^ 31 else 0) + x.err % 8 * 2 ^ 28 + x.done % 512 * 2 ^ 16 + x.at' % 256

/-- The device with the mover of engine `e` changed. -/
def Dev.setMover (d : Dev) (e : Nat) (x : MoverSt) : Dev := d.setEngine e { d.engine e with sg := x }

/-- A list starts (R456). -/
def Dev.moverStart (d : Dev) (e addr count : Nat) : Dev :=
  d.setMover e { (d.engine e).sg with busy := true, addr := addr, count := if count = 0 then 256 else count, done := 0, err := 0, at' := 0 }

/-- SGRUN: waits first while the mover is busy. The Bridle has no mover. -/
def Dev.sgRun (d : Dev) (e rs rt : Nat) : Dev :=
  let a := d.greg e rs % 2 ^ 32
  let n := d.greg e rt % 256
  d.issue e false
    (if 48 ≤ e then .halt d 2 none
     else if (d.engine e).sg.busy then .wait (d.setEngine e { d.engine e with wait := some (.sgRun a n) })
     else .next (d.moverStart e a n))

/-- SGWAIT. -/
def Dev.sgWait (d : Dev) (e rd : Nat) : Dev :=
  d.issue e false
    (if 48 ≤ e then .halt d 2 none
     else if (d.engine e).sg.busy then .wait (d.setEngine e { d.engine e with wait := some (.sgWait rd) })
     else .next (d.setGreg e rd (d.engine e).sg.word))

/-- SGSTAT. -/
def Dev.sgStat (d : Dev) (e rd : Nat) : Dev :=
  d.issue e false (if 48 ≤ e then .halt d 2 none else .next (d.setGreg e rd (d.engine e).sg.word))

/-- The mover is idle: an instruction that waits for it completes (R456). -/
def Dev.moverIdle (d : Dev) (e : Nat) : Dev :=
  match (d.engine e).wait with
  | some (.sgRun a n) => Dev.retire e (.next ((d.endWait e).moverStart e a n))
  | some (.sgWait rd) => Dev.retire e (.next ((d.endWait e).setGreg e rd (d.engine e).sg.word))
  | _ => d

/-- A descriptor (R457). -/
structure SgDesc where
  src   : Nat
  dst   : Nat
  len   : Nat
  kind  : Nat
  types : Nat
  age   : Nat
  port  : Nat
  count : Nat
  last  : Nat
deriving DecidableEq, Repr

/-- The descriptor in 16 bytes. -/
def sgDesc (b : List Byte) : SgDesc :=
  { src := leNat (slice b 0 4), dst := leNat (slice b 4 4), len := leNat (slice b 8 2), kind := (b.getD 10 0).toNat,
    types := (b.getD 11 0).toNat, age := (b.getD 12 0).toNat, port := (b.getD 13 0).toNat, count := (b.getD 14 0).toNat,
    last := (b.getD 15 0).toNat }

/-- Whether a descriptor holds a reserved value or an out-of-range field (R457, R459). -/
def SgDesc.bad (x : SgDesc) : Bool :=
  let send := x.kind == 2
  let commit := x.kind == 3
  x.last != 0 || decide (3 < x.kind) || x.len == 0 ||
  decide ((match x.kind with | 0 => 4096 | 1 => 256 | 2 => 2048 | _ => 256) < x.len) ||
  (if x.kind = 1 then decide (7 < x.types % 16) || decide (7 < x.types / 16) else x.types != 0) ||
  (!send && !commit && x.age != 0) ||
  (if send then decide (x.port < 26) || decide (38 < x.port) else x.port != 0 || x.count != 0) ||
  ((send || commit) && x.dst / 2 ^ 20 != 0)

/-- The bytes of `n` items of a type (R124). -/
def itemsLen (type n : Nat) : Nat := typeBytes type 1 * n

/-- The first address outside the scratchpad and Orchard that a descriptor touches (R459). -/
def SgDesc.hole (x : SgDesc) : Option Nat :=
  match x.kind with
  | 0 => (copHole x.src x.len).or (copHole x.dst x.len)
  | 1 => (copHole x.src (itemsLen (x.types % 16) x.len)).or (copHole x.dst (itemsLen (x.types / 16) x.len))
  | 2 => copHole x.src x.len
  | _ => none

/-- The address of the descriptor that the mover is at. -/
def MoverSt.here (x : MoverSt) : Nat := (x.addr + 16 * x.done) % 2 ^ 32

/-- Why the mover stops at its descriptor (R459): the error code and the address of an ACCESS; `none` when it is carried out. A
list that is not 8-byte aligned stops as one that holds an out-of-range field. -/
def State.moverStop (s : State) (e : Nat) : Option (Nat × Option Nat) :=
  let a := (s.dev.engine e).sg.here
  if a % 8 ≠ 0 then some (1, none)
  else match copHole a 16 with
    | some x => some (2, some x)
    | none =>
      let y := sgDesc (s.copRead e a 16 3).1
      if y.bad then some (1, none) else match y.hole with | some x => some (2, some x) | none => none

/-- The descriptor that the mover of engine `e` carries out next, of a kind, and the state after it is read; `none` while the mover is idle
or waits for its cells, at the end of its list, or where it stops. -/
def State.moverNext (s0 : State) (e kind : Nat) : Option (SgDesc × State) :=
  let s := s0.performed e
  let x := (s.dev.engine e).sg
  if !x.busy || s.dev.moverSending e || decide (x.count ≤ x.done) || (s.moverStop e).isSome then none
  else
    let r := s.copRead e x.here 16 3
    if (sgDesc r.1).kind = kind then some (sgDesc r.1, r.2) else none

/-- A descriptor completed. -/
def Dev.moverDone (d : Dev) (e : Nat) : Dev := d.setMover e { (d.engine e).sg with done := (d.engine e).sg.done + 1 }

/-- The bytes of a COPY, in pieces of at most 8 bytes, ascending. -/
def State.moverCopyBytes (s : State) (e src dst n : Nat) : Nat → State
  | 0 => s
  | fuel + 1 =>
    if n = 0 then s else
    let r := s.copRead e src 1 1
    (r.2.zStore e dst r.1).moverCopyBytes e (src + 1) (dst + 1) (n - 1) fuel

/-- COPY (R458). -/
def State.moverCopy (s : State) (e : Nat) : State :=
  match s.moverNext e 0 with
  | none => s
  | some (x, s1) =>
    let apart := decide (x.src + x.len ≤ x.dst) || decide (x.dst + x.len ≤ x.src) || decide (x.dst ≤ x.src)
    let s2 := if apart then
        (let r := s1.copRead e x.src x.len (pieces x.len)
         r.2.copWrite e x.dst r.1 (pieces x.len))
      else s1.moverCopyBytes e x.src x.dst x.len x.len
    s2.on (fun d => d.moverDone e)

/-- One item of a CONVERT (R146, R458). -/
def State.moverConvertItem (s : State) (e : Nat) (x : SgDesc) (i : Nat) : State :=
  let st := x.types % 16
  let dt := x.types / 16
  let n := typeBytes st 1
  let r := s.copRead e (x.src + i * n) n (pieces n)
  let v := convertTo dt (itemValue st r.1)
  (r.2.on (fun d => d.convSat v.2)).copWrite e (x.dst + i * typeBytes dt 1) (valueBytes dt v.1) 3

/-- CONVERT (R458). -/
def State.moverConvert (s : State) (e : Nat) : State :=
  match s.moverNext e 1 with
  | none => s
  | some (x, s1) => ((List.range x.len).foldl (fun (a : State) i => a.moverConvertItem e x i) s1).on (fun d => d.moverDone e)

/-- The bytes of a SEND as items of the destination, by their sizes; empty when they differ (R458). -/
def sendItems (sizes : List Nat) (bs : List Byte) (age : Nat) : List (List Byte × Nat) :=
  match sizes with
  | [] => []
  | n :: r => (bs.take n, age) :: sendItems r (bs.drop n) age

/-- SEND (R458): cells on their way; the descriptor completes when they have been committed (R460). -/
def State.moverSend (s : State) (e : Nat) : State :=
  match s.moverNext e 2 with
  | none => s
  | some (x, s1) =>
    let region := x.dst % 256
    let item := bits x.dst 8 12
    let r := s1.copRead e x.src x.len (pieces x.len)
    let sizes := (List.range (x.count + 1)).map (fun i => (itemDir r.2.mem r.2.dev region (item + i)).size)
    let fits := decide (item + x.count < r.2.dev.get (R.IMG_CFG_ITEMS region)) && sizes.foldl (· + ·) 0 == x.len
    let items := if fits then sendItems sizes r.1 x.age else []
    let stride := r.2.dev.workStride (r.2.dev.get (R.IMG_CFG_GAIT region))
    let m : MapCells := { rule := none, src := e / 4, region := region, item := item, items := items, stride := stride, port := some (x.port - 26), mover := some e }
    r.2.on (fun d => d.sendCells m (x.port - 26) x.len)

/-- COMMIT (R458). -/
def State.moverCommit (s : State) (e : Nat) : State :=
  match s.moverNext e 3 with
  | none => s
  | some (x, s1) =>
    s1.on (fun d => ((List.range x.len).foldl (fun (a : Dev) i => a.engCommit e (x.dst % 256) (some (bits x.dst 8 12 + i)) x.age) d).moverDone e)

/-- The mover ends its list, or stops it at a bad descriptor (R456, R459), and is idle; an instruction that waits for it completes. -/
def State.moverEnd (s : State) (e : Nat) : State :=
  let x := (s.dev.engine e).sg
  if x.count ≤ x.done then s.on (fun d => (d.setMover e { x with busy := false }).moverIdle e)
  else match s.moverStop e with
    | none => s
    | some (c, a) =>
      let s1 := if x.here % 8 = 0 ∧ copHole x.here 16 = none then (s.copRead e x.here 16 3).2 else s
      s1.on (fun d => (d.setMover e { x with busy := false, err := c, at' := x.done, errAddr := a.getD x.errAddr }).moverIdle e)

/-- The list of a busy mover that awaits no cells ends, when it is at its end; the mover sees every earlier store of its engine (R448). -/
def State.moverListStop (s : State) (e : Nat) : State :=
  if !(s.dev.engine e).sg.busy || s.dev.moverSending e then s else (s.performed e).moverEnd e

/-! ### SHA-256 (R461) -/

/-- SHAINIT: on a Trotter engine the SUB raises ILLEGAL. -/
def Dev.shaInit (d : Dev) (e : Nat) : Dev :=
  d.issue e false (if e < 48 then .halt d 2 none else .next (d.setEngine e { d.engine e with sha := Sys2Proof.Machine.shaInit }))

/-- The eight state words. -/
def shaWords (l : List W32) : List W32 := (List.range 8).map (fun i => l.getD i 0)

/-- SHABLK. -/
def State.shaBlk (s : State) (e rs : Nat) : State :=
  let a := s.dev.greg e rs % 2 ^ 32
  let fault := if e < 48 then some (2, none) else if a % 8 ≠ 0 then some (4, some a) else s.dev.copFault e a 64
  (s.copFaulted e a 64 fault).zdo e fault (fun x =>
    (x.copRead e a 64 (pieces 64)).2.on (fun d => d.setEngine e
      { d.engine e with sha := shaCompress (shaWords (d.engine e).sha) (beWords (x.copRead e a 64 (pieces 64)).1) }))

/-- SHARD. -/
def Dev.shard (d : Dev) (e rd i : Nat) : Dev :=
  d.issue e false (if e < 48 then .halt d 2 none else .next (d.setGreg e rd ((d.engine e).sha.getD i 0).toNat))

end Sys2Proof.Machine
end

