-- ==== Sys2Proof/Machine/ExecEngines.lean ====
section
/-! DEFINITION. The meanings of the commands of chapter 8: the engines and the Bridle. -/

namespace Sys2Proof.Machine
open Sys2Proof

/-- ENG_DONE: a store to ENG_DONE by an engine that runs (R384). -/
def execEngDone (e : Fin 48) (s : State) : Host.Outcome State Fault Refusal :=
  .next (s.on (fun x => if x.engState e.val = 2 ∧ x.follower e.val = false then (x.engDone e.val).pairFollow e.val else x))

/-- ENG_WAIT: a read of ENG_WAIT (R395). -/
def execEngWait (e : Fin 48) (rd : Fin 32) (sx : Bool) (s : State) : Host.Outcome State Fault Refusal :=
  .next (s.on (fun x => x.engWait e.val rd.val sx))

/-- WAIT_WAKE: an enabled line wakes a waiting engine (R395). -/
def execWaitWake (e : Fin 48) (s : State) : Host.Outcome State Fault Refusal :=
  .next (s.on (fun x => x.waitWake e.val))

/-- WAIT_LIMIT_EXPIRY: the wait limit passes (R395). -/
def execWaitLimitExpiry (e : Fin 48) (s : State) : Host.Outcome State Fault Refusal :=
  .next (s.on (fun x => x.waitLimit e.val))

/-- ENG_TX_TAIL: a store to ENG_TX_TAIL (R396). -/
def execEngTxTail (e : Fin 48) (v : W32) (s : State) : Host.Outcome State Fault Refusal :=
  .next (s.on (fun x => x.engTxTail e.val v.toNat))

/-- TX_ENTRY_FINISH: a team port finishes a transmit entry (R397). -/
def execTxEntryFinish (t : Fin 12) (s : State) : Host.Outcome State Fault Refusal :=
  .next (s.txFinish t.val)

/-- RX_ENTRY_WRITE: a team port writes a receive entry (R399). -/
def execRxEntryWrite (t : Fin 12) (s : State) : Host.Outcome State Fault Refusal :=
  .next (s.rxEntryWrite t.val)

/-- HALT: a write of HALT (R406). -/
def execHalt (w : Writer) (e : Fin 48) (s : State) : Host.Outcome State Fault Refusal :=
  .next (s.gate w (0xB0000 + e.val * 0x80) (fun y => y.on (fun x => x.hostHalt e.val)))

/-- RESTART: a write of RESTART (R408). -/
def execRestart (w : Writer) (e : Fin 48) (s : State) : Host.Outcome State Fault Refusal :=
  .next (s.gate w (0xB0000 + e.val * 0x80) (fun y => y.on (fun x => x.restartEngine e.val)))

/-- ENG_CLR_STATS: a write of CLR_STATS (R413). -/
def execEngClrStats (w : Writer) (e : Fin 48) (s : State) : Host.Outcome State Fault Refusal :=
  .next (s.gate w (0xB0000 + e.val * 0x80) (fun y => y.on (fun x => x.engClrStats e.val)))

/-- BRIDLE_FAULT: a Bridle mismatch or fault (R417). -/
def execBridleFault (s : State) : Host.Outcome State Fault Refusal :=
  .next (s.on (fun x => x.bridleFault))

/-- BRIDLE_RESTART_DONE: the Bridle has restarted (R417). -/
def execBridleRestartDone (s : State) : Host.Outcome State Fault Refusal :=
  .next (s.on (fun x => x.bridleRestartDone))

end Sys2Proof.Machine
end

