-- ==== Sys2Proof/Machine/ExecFieldbus.lean ====
section
/-! DEFINITION. The meanings of the commands of chapter 7: CAN controllers and serial channels. -/

namespace Sys2Proof.Machine
open Sys2Proof

/-- CAN_MODE_WRITE: a write of MODE (R334). -/
def execCanModeWrite (w : Writer) (c : Fin 8) (mode : Fin 8) (s : State) : Host.Outcome State Fault Refusal :=
  .next (s.gate w (0x90000 + c.val * 0x2000) (fun y => y.on (fun x => x.canModeWrite w c.val mode.val)))

/-- CAN_MODE_CHANGE: the requested mode takes effect (R335). -/
def execCanModeChange (c : Fin 8) (s : State) : Host.Outcome State Fault Refusal :=
  .next (s.on (fun x => x.canModeChange c.val))

/-- CAN_RECOVER: a write of RECOVER (R357). -/
def execCanRecover (w : Writer) (c : Fin 8) (s : State) : Host.Outcome State Fault Refusal :=
  .next (s.gate w (0x90000 + c.val * 0x2000) (fun y => y.on (fun x => x.canRecover c.val)))

/-- BUS_OFF_RECOVERY: the recovery sequence ends (R357). -/
def execBusOffRecovery (c : Fin 8) (s : State) : Host.Outcome State Fault Refusal :=
  .next (s.on (fun x => x.busOffRecovery c.val))

/-- CAN_CLR_CNT: a write of CLR_CNT (R360). -/
def execCanClrCnt (w : Writer) (c : Fin 8) (s : State) : Host.Outcome State Fault Refusal :=
  .next (s.gate w (0x90000 + c.val * 0x2000) (fun y => y.on (fun x => x.canClrCnt c.val)))

/-- TXB_REQ: a write of REQ (R343). -/
def execTxbReq (w : Writer) (c : Fin 8) (n : Fin 3) (s : State) : Host.Outcome State Fault Refusal :=
  .next (s.gate w (0x90000 + c.val * 0x2000 + 0x418 + n.val * 0x20) (fun y => y.on (fun x => x.txbReq c.val n.val)))

/-- TXB_ABORT: a write of ABORT (R344). -/
def execTxbAbort (w : Writer) (c : Fin 8) (n : Fin 3) (s : State) : Host.Outcome State Fault Refusal :=
  .next (s.gate w (0x90000 + c.val * 0x2000 + 0x418 + n.val * 0x20) (fun y => y.on (fun x => x.txbAbort c.val n.val)))

/-- CAN_TX_CHOICE: the controller selects a transmit buffer (R345). -/
def execCanTxChoice (c : Fin 8) (s : State) : Host.Outcome State Fault Refusal :=
  .next (s.canTxChoice c.val)

/-- CAN_TX_END: a transmission ends (R343). -/
def execCanTxEnd (c : Fin 8) (result : CanEnd) (ago : Fin 0x1000000) (tdcv : Nat) (s : State) : Host.Outcome State Fault Refusal :=
  .next (s.canTxEnd c.val result ago.val tdcv)

/-- CAN_FRAME_RECEIVE: a frame is received (R349). -/
def execCanFrameReceive (c : Fin 8) (f : CanFrame) (ago : Fin 0x1000000) (s : State) : Host.Outcome State Fault Refusal :=
  .next (s.canReceive c.val f ago.val)

/-- CAN_RX_STORE: a received frame is stored (R354). -/
def execCanRxStore (c : Fin 8) (s : State) : Host.Outcome State Fault Refusal :=
  .next (s.canStore c.val)

/-- CAN_ERROR: a bus error (R356). -/
def execCanError (c : Fin 8) (kind : Fin 7) (transmitter heavy inFrame : Bool) (s : State) : Host.Outcome State Fault Refusal :=
  .next (s.on (fun x => x.canError c.val kind.val transmitter heavy inFrame))

/-- SER_ENABLE: a write of EN (R367). -/
def execSerEnable (w : Writer) (n : Fin 12) (on : Bool) (s : State) : Host.Outcome State Fault Refusal :=
  .next (s.gate w (0xA0000 + n.val * 0x100) (fun y => y.on (fun x => x.serEnable n.val on)))

/-- FLUSH_TX: a write of FLUSH_TX (R375). -/
def execFlushTx (w : Writer) (n : Fin 12) (s : State) : Host.Outcome State Fault Refusal :=
  .next (s.gate w (0xA0000 + n.val * 0x100) (fun y => y.on (fun x => x.serFlush n.val)))

/-- SER_CLR_CNT: a write of CLR_CNT (R377). -/
def execSerClrCnt (w : Writer) (n : Fin 12) (s : State) : Host.Outcome State Fault Refusal :=
  .next (s.gate w (0xA0000 + n.val * 0x100) (fun y => y.on (fun x => x.serClrCnt n.val)))

/-- SER_TXDATA: a write of SER_TXDATA (R373). -/
def execSerTxdata (w : Writer) (n : Fin 12) (v : W32) (s : State) : Host.Outcome State Fault Refusal :=
  .next (s.gate w (0xA0000 + n.val * 0x100 + 0x1C) (fun y => y.on (fun x => x.serTxData w n.val v.toNat)))

/-- SER_TX_START: a transmission starts (R374). -/
def execSerTxStart (n : Fin 12) (s : State) : Host.Outcome State Fault Refusal :=
  .next (s.on (fun x => x.serTxStart n.val))

/-- SER_TX_END: a transmission ends (R374). -/
def execSerTxEnd (n : Fin 12) (s : State) : Host.Outcome State Fault Refusal :=
  .next (s.on (fun x => x.serTxEnd n.val))

/-- TX_UNDERRUN: a transmission lacks its next byte (R375). -/
def execTxUnderrun (n : Fin 12) (s : State) : Host.Outcome State Fault Refusal :=
  .next (s.on (fun x => x.serUnderrun n.val))

/-- SER_CHAR_RECEIVE: a character is received (R370). -/
def execSerCharReceive (n : Fin 12) (b : Byte) (parityErr frameErr : Bool) (gap : Nat) (ago : Fin 0x1000000) (s : State) : Host.Outcome State Fault Refusal :=
  .next (s.on (fun x => x.serChar n.val b parityErr frameErr gap ago.val))

/-- SER_FRAME_END: the end of a received frame (R368). -/
def execSerFrameEnd (n : Fin 12) (s : State) : Host.Outcome State Fault Refusal :=
  .next (s.on (fun x => x.serFrameEnd n.val))

/-- SER_RXSTAT_POP: a read of SER_RXSTAT (R371). -/
def execSerRxstatPop (w : Writer) (n : Fin 12) (s : State) : Host.Outcome State Fault Refusal :=
  .next (s.hostRead w (0xA0000 + n.val * 0x100 + 0x38) 4)

end Sys2Proof.Machine
end

