-- ==== Sys2Proof/Machine/ExecHarness.lean ====
section
/-! DEFINITION. The meanings of the commands of chapter 6: Harness lanes, slots, start-up, commands between nodes. -/

namespace Sys2Proof.Machine
open Sys2Proof

/-- DLY_REQ_SEND: a lane sends DLY_REQ (R282). -/
def execDlyReqSend (p : Fin 16) (phase : Fin 8) (s : State) : Host.Outcome State Fault Refusal :=
  .next (s.on (fun x => x.dlyReqSend p.val phase.val))

/-- DLY_REQ: a DLY_REQ arrives, with the sender's NODE_ID (R282). -/
def execDlyReq (p : Fin 16) (node _sq : BitVec 16) (phase : Fin 8) (gap : Fin 65536) (phase3 : Fin 8) (s : State) : Host.Outcome State Fault Refusal :=
  .next (s.on (fun x => x.dlyReq p.val node.toNat phase.val gap.val phase3.val))

/-- DLY_T2: a DLY_T2 block arrives (R282). -/
def execDlyT2 (p : Fin 16) (v : BitVec 48) (s : State) : Host.Outcome State Fault Refusal :=
  .next (s.on (fun x => x.dlyT2 p.val v.toNat))

/-- DLY_T3: a DLY_T3 block arrives (R282). -/
def execDlyT3 (p : Fin 16) (v : BitVec 48) (phase : Fin 8) (s : State) : Host.Outcome State Fault Refusal :=
  .next (s.on (fun x => x.dlyT3 p.val v.toNat phase.val))

/-- SLOT_ECHO: a SLOT_ECHO block arrives (R297). -/
def execSlotEcho (p : Fin 16) (v : BitVec 48) (s : State) : Host.Outcome State Fault Refusal :=
  .next (s.on (fun x => x.slotEcho p.val v.toNat))

/-- TABLE_HASH: a TABLE_HASH block arrives (R311). -/
def execTableHash (p : Fin 16) (v : BitVec 48) (s : State) : Host.Outcome State Fault Refusal :=
  .next (s.on (fun x => x.tableHashRx p.val v.toNat))

/-- TABLE_HASH_SEND: the star sends TABLE_HASH (R280). -/
def execTableHashSend (s : State) : Host.Outcome State Fault Refusal :=
  .next (s.on (fun x => x.tableHashSend))

/-- SLOT_LAUNCH: the launch instant of a slot (R291). -/
def execSlotLaunch (down : Bool) (slot : Fin 4096) (s : State) : Host.Outcome State Fault Refusal :=
  .next (s.on (fun x => x.slotLaunch down slot.val))

/-- STARTUP_SEND: a node sends a STARTUP frame (R300). -/
def execStartupSend (s : State) : Host.Outcome State Fault Refusal :=
  .next (s.on (fun x => x.startupSend))

/-- HARNESS_FRAME_RECEIVE: a Harness frame arrives, so many ns after the edge (R289). -/
def execHarnessFrameReceive (p : Fin 16) (bytes : List Byte) (arrival : Int) (s : State) : Host.Outcome State Fault Refusal :=
  .next (s.hnReceive p.val bytes arrival)

/-- RELAY_CLOSE: the relay window of a slot closes (R295). -/
def execRelayClose (slot : Fin 4096) (s : State) : Host.Outcome State Fault Refusal :=
  .next (s.on (fun x => x.relayClose slot.val))

/-- SLOT_ECHO_SEND: the star sends SLOT_ECHO (R297). -/
def execSlotEchoSend (slot : Fin 4096) (s : State) : Host.Outcome State Fault Refusal :=
  .next (s.on (fun x => x.slotEchoSend slot.val))

/-- LISTEN_TIMEOUT: the listen time ends (R302). -/
def execListenTimeout (s : State) : Host.Outcome State Fault Refusal :=
  .next (s.on (fun x => x.listenTimeout))

/-- STARTUP_ARBITRATION: STARTUP frames are compared (R303). -/
def execStartupArbitration (s : State) : Host.Outcome State Fault Refusal :=
  .next (s.on (fun x => x.arbitrate))

/-- HN_ENABLE: a write of HN_CTRL (R322). -/
def execHnEnable (w : Writer) (v : W32) (s : State) : Host.Outcome State Fault Refusal :=
  .next (s.gate w (0xDE800) (fun y => y.on (fun x => x.hnEnable w v.toNat)))

/-- CMD_FRAGMENT: a command fragment is taken (R314). -/
def execCmdFragment (p : Fin 16) (s : State) : Host.Outcome State Fault Refusal :=
  .next (s.cmdFragment p.val)

/-- FORWARDED_REPLY: a reply to a forwarded packet is taken (R318). -/
def execForwardedReply (p : Fin 16) (s : State) : Host.Outcome State Fault Refusal :=
  .next (s.forwardedReply p.val)

/-- FORWARD_TIMEOUT: the timer of a forwarded command expires (R317). -/
def execForwardTimeout (id : BitVec 16) (s : State) : Host.Outcome State Fault Refusal :=
  .next (s.forwardTimeout id.toNat)

end Sys2Proof.Machine
end

