-- ==== Sys2Proof/Machine/ExecHost.lean ====
section
/-! DEFINITION. The meanings of the commands of chapter 13: the host ports and the mailboxes. -/

namespace Sys2Proof.Machine
open Sys2Proof

/-- PCIE_RESET: a PCIe reset of the host side (R561). -/
def execPcieReset (s : State) : Host.Outcome State Fault Refusal :=
  .next (s.on (fun x => x.pcieReset))

/-- QSPI_READ: a READ transaction of n words, of which `ready` are ready in time (R562). -/
def execQspiRead (addr : W32) (n ready : Nat) (s : State) : Host.Outcome State Fault Refusal :=
  .next (s.qspiReadRow addr.toNat n ready)

/-- QSPI_WRITE: a WRITE transaction (R562). -/
def execQspiWrite (addr : W32) (words : List W32) (s : State) : Host.Outcome State Fault Refusal :=
  .next (s.qspiWriteRow addr.toNat (words.map (fun z => z.toNat)))

/-- QSPI_STATUS: a STATUS read (R564). -/
def execQspiStatus (s : State) : Host.Outcome State Fault Refusal :=
  .next (s.qspiStatus)

/-- QSPI_RESET: the RESET sequence (R565). -/
def execQspiReset (s : State) : Host.Outcome State Fault Refusal :=
  .next (s.qspiReset)

/-- MB_POST: a write of MB_POST (R569). -/
def execMbPost (w : Writer) (n : Fin 16) (d : Fin 2) (v : W32) (s : State) : Host.Outcome State Fault Refusal :=
  .next (s.gate w (0x20200 + n.val * 0x1000 + d.val * 0x40) (fun y => y.mbWrite w n.val (0x200 + d.val * 0x40) v.toNat))

/-- MB_ACK: a write of MB_ACK (R569). -/
def execMbAck (w : Writer) (n : Fin 16) (d : Fin 2) (v : W32) (s : State) : Host.Outcome State Fault Refusal :=
  .next (s.gate w (0x20200 + n.val * 0x1000 + d.val * 0x40 + 0x8) (fun y => y.mbWrite w n.val (0x208 + d.val * 0x40) v.toNat))

/-- MB_WITHDRAW: a write of MB_WITHDRAW (R571). -/
def execMbWithdraw (w : Writer) (n : Fin 16) (d : Fin 2) (v : W32) (s : State) : Host.Outcome State Fault Refusal :=
  .next (s.gate w (0x20200 + n.val * 0x1000 + d.val * 0x40 + 0x10) (fun y => y.mbWrite w n.val (0x210 + d.val * 0x40) v.toNat))

/-- MB_TIMEOUT: the timeout of a posted message (R570). -/
def execMbTimeout (n : Fin 16) (d : Fin 2) (s : State) : Host.Outcome State Fault Refusal :=
  .next (s.on (fun x => x.mbTimeout n.val d.val))

/-- BRIDLE_ROUND: the Bridle serves its ports (R552). -/
def execBridleRound (s : State) : Host.Outcome State Fault Refusal :=
  .next (s.bridleRound)

/-- KEEP_ALIVE_EXPIRY: the keep-alive timer expires (R554). -/
def execKeepAliveExpiry (s : State) : Host.Outcome State Fault Refusal :=
  .next (s.on (fun x => x.lapse))

end Sys2Proof.Machine
end

