-- ==== Sys2Proof/Machine/StrideEdge.lean ====
section
/-! DEFINITION. The stride in time (R27 to R50): the fence, the finisher, the edge, the output latches, and what a time step moves. -/

namespace Sys2Proof.Machine
open Sys2Proof

/-! ### The fence (R29 to R33, R50, R67, R128, R135, R139, R283, R385) -/

/-- The margin between the last completion of stride work and the fence, which acts at `at'` ns (R67); an overrun has made it 0. -/
def Dev.showSlack (d : Dev) (at' : Nat) : Dev :=
  let since := d.edgeNs d.stride.last
  if d.stride.ran && decide (since ≤ d.stride.lastWork ∧ d.stride.lastWork ≤ at') then
    d.set R.STRIDE_MIN_SLACK_MIN_SLACK (min (d.get R.STRIDE_MIN_SLACK_MIN_SLACK) (at' - d.stride.lastWork))
  else d

/-- The mapping rules that have not delivered are late (R135, R159). -/
def Dev.fenceRules (d : Dev) (n : Nat) : Dev :=
  (d.gaitsAt n).foldl (fun (a : Dev) g => (a.lateRules g).foldl (fun (b : Dev) e => (b.ruleLate e.1 e.2).overrun g n 2 e.1) a) d

/-- The values that the latch bindings will drive, read at the fence of index `n` (R139, R499), with the phase in force for that edge (R50). The
read of a binding has ended once port D has made the reads of its bank, one each ns (R43, R484; DEDUCED, log entry 179). -/
def Dev.readLatches (d : Dev) (m : List Host.Cell) (n : Nat) : Dev :=
  (d.latchBindsAt n).foldl (fun (a : Dev) i =>
    let r := a.get (R.STIR_LBIND_REGION i)
    let x : LatchRead := { index := n, bind := i, value := leNat (currentView m a r (a.get (R.STIR_LBIND_ITEM i))).1,
                           phase := a.get (R.LATCH_PHASE_PHASE (a.get (R.STIR_LBIND_PIN i) / 24)),
                           ready := a.now + a.latchReads n (a.get (R.IMG_CFG_BANK r)) }
    a.withStride (fun y => { y with latch := y.latch ++ [x] })) d

/-- The fence of index `n` acts at `at'` ns. -/
def State.fenceNow (s : State) (n at' : Nat) : State :=
  let d := s.dev
  let d1 := (d.gaitsAt n).foldl (fun (a : Dev) g => a.closeGait g) d
  let d2 := (List.range 48).foldl (fun (a : Dev) e => a.fenceEngine e n) d1
  let d3 := d2.fenceRules n
  let d4 := (d3.readLatches s.mem n).showSlack at'
  let d5 := d4.withStride (fun x => { x with fenceAt := some at' })
  ({ s with dev := d5.hnFence }).fenceFree n

/-- The instant of the fence of index `n` in ns (R24). -/
def Dev.fenceNs (d : Dev) (n : Nat) : Nat := d.edgeNs n - d.strideG

/-- The stride fence of the next index (R24, R29): only while the stride is live (R737), once (R44). -/
def State.fence (s : State) : State :=
  let d := s.dev
  let n := d.stride.next
  if !d.strideLive || d.stride.fenceAt.isSome then s
  else (s.on (fun d => d.passStride (d.fenceNs n * 2 ^ 32))).fenceNow n (d.fenceNs n)

/-- The finisher of gait `g` (R134): after the fence, once. -/
def State.finisherRow (s : State) (g : Nat) : State :=
  let n := s.dev.stride.next
  if s.dev.strideLive && s.dev.stride.fenceAt.isSome && s.dev.gaitEdge g n && !s.dev.stride.finished.contains g then
    s.finisher g n s.dev.haltedRegions
  else s

/-! ### The edge (R27, R28, R40, R41, R47, R195, R476, R502, R606) -/

/-- The holds and releases that wait for an edge of their instance's gait (R606): a released instance starts again. -/
def State.holdsAt (s : State) (n : Nat) : State :=
  let due := s.dev.upd.holdReq.filter (fun e => (s.dev.upd.insts[e.1]?).any (fun x => s.dev.gaitEdge x.gait n))
  due.foldl (fun (a : State) e =>
    let a1 := a.on (fun d => d.withUpd (fun u => { u with held := if e.2 then e.1 :: u.held.filter (fun i => i != e.1) else u.held.filter (fun i => i != e.1), holdReq := u.holdReq.filter (fun y => y != e) }))
    if e.2 then a1
    else (a1.dev.regionList.filter (fun r => (a1.dev.region r).inst == some e.1)).foldl (fun (b : State) r =>
      { b with mem := Mem.setByte b.mem (b.dev.bufAddr r (b.dev.get (R.IMG_STATE_WORK r)) + 11) 0x10 }) a1) s

/-- Whether the flip of the edge, which acts at `at'` ns, comes after +8 ns (R43): 16 ns after the finisher's last region, and the finisher
starts 16 ns after the fence as it acted. -/
def Dev.flipLate (d : Dev) (n at' : Nat) : Bool :=
  match d.stride.fenceAt with
  | some f => decide (at' + 8 < f + d.finishTime n + 16)
  | none => true

/-- The overruns that a late launch descriptor can still count for (R32, R33): those of a fence that an entry in a ring missed. -/
def Dev.keepOvr (d : Dev) : List (Nat × Nat) :=
  d.stride.ovr.filter (fun e => (List.range 48).any (fun i => (d.engine i).txLate.any (fun y => y.2.1 == e.2)))

/-- Every WORKING buffer is open once the stride has stopped (R737). -/
def Dev.openAll (d : Dev) : Dev := d.regionList.foldl (fun (a : Dev) r => a.setRegion r { a.region r with opened := true }) d

/-- What the edge of index `n` leaves in the stride's registers and hidden state; `back` locates it in phases of 250 ps before the present
tick (R23, R502). -/
def Dev.edgeDone (d0 : Dev) (n back : Nat) : Dev :=
  let d := d0.fabSync
  let gs := d.gaitsAt n
  let d1 := (List.range 4).foldl (fun (a : Dev) g => a.set (R.GAIT_INDEX g) (n / a.gaitP g)) d
  let d2 := gs.foldl (fun (a : Dev) g => (a.gaitCause g (R.GAIT_STATUS_EDGE g) 4).resetRuns g) d1
  let stop := d.stride.stopPend
  let ovr := d.keepOvr
  let d3 := (d2.set R.STRIDE_INDEX n).withStride (fun x =>
    { x with last := n, ran := true, next := n + 1, fenceAt := none, finished := [], skips := gs.foldl (fun (t : Tab Nat) g => t.del g) x.skips, ovr := ovr, stopPend := false })
  let d4 := ((d3.set R.STRIDE_STATUS_RUNNING (if stop then 0 else 1)).set R.STRIDE_STATUS_PENDING 0).showNext
  let d5 := if stop then d4.openAll else d4
  { d5 with io := { d5.io with edge := d5.stirScAt back % 2 ^ 32, edges := gs.foldl (fun (t : Tab Nat) g => t.modify g 0 (· + 1)) d5.io.edges }, fab := { d5.fab with schedCells := [] },
            img := { d5.img with runs := if stop then [] else d5.img.runs } }

/-- The edge of index `n` acts at `at'` ns, `back` phases before the present tick; `skip` says that indices were skipped before it (R41). -/
def State.edgeNow (s : State) (n at' back : Nat) (skip : Bool) : State :=
  let s0 := if s.dev.stride.fenceAt.isSome then s else s.fenceNow n at'
  let s1 := (s0.dev.gaitsAt n).foldl (fun (a : State) g => if a.dev.stride.finished.contains g then a else a.finisher g n a.dev.haltedRegions) s0
  let s2 := (s1.edgeSample n).on (fun d => (if s0.dev.flipLate n at' then d.set R.STRIDE_STATUS_FLIP_LATE 1 else d).lungesAt n)
  let s3 := ((s2.flip n).on (fun d => (d.handoversNow.edgeDone n back).hnEdge.sleepBlocks)).holdsAt n
  s3.on (fun d => (List.range 48).foldl (fun (a : Dev) e => a.entryEngine e n skip) d)

/-- The stride time base passes the next edge (R27): the device acts in the order of R27; `pins` are the levels at the balls at 0. -/
def State.edge (s : State) (pins : BitVec 96) : State :=
  if !s.dev.strideLive then s
  else
    let s1 := s.fence
    let n := s1.dev.stride.next
    let e := s1.dev.edgeNs n
    let s2 := s1.on (fun d => (d.passStride (e * 2 ^ 32)).withPins pins)
    s2.edgeNow n e (s2.dev.strideBack (e * 2 ^ 32)) false

/-! ### Output latches (R48, R139, R496, R499) -/

/-- The latch values of block `b` that wait, and of these the ones of the earliest fence (R48). -/
def Dev.latchesOf (d : Dev) (b : Nat) : List LatchRead :=
  let ls := d.stride.latch.filter (fun x => d.get (R.STIR_LBIND_PIN x.bind) / 24 == b)
  match ls with
  | [] => []
  | y :: _ => ls.filter (fun x => x.index == y.index)

/-- The pins of a latch binding take its value. -/
def Dev.driveLatch (d : Dev) (i v : Nat) : Dev :=
  (List.range (d.get (R.STIR_LBIND_COUNT_M1 i) + 1)).foldl (fun (a : Dev) j =>
    let p := d.get (R.STIR_LBIND_PIN i) + j
    let m := BitVec.ofNat 96 (2 ^ p)
    let a1 := { a with io := { a.io with latched := a.io.latched ||| m, latchLv := if v.testBit j then a.io.latchLv ||| m else a.io.latchLv &&& ~~~ m } }
    if a1.pinLevel p != a.pinLevel p then a1.emit (.pin p (a1.pinLevel p)) else a1) d

/-- The latch instant of block `b` (R48): the edge plus the phase in force, or the end of the reads where that is later (R43). The latches of
an earlier fence come first. -/
def Dev.outputLatch (d : Dev) (b : Nat) : Dev :=
  let ls := d.latchesOf b
  match ls with
  | [] => d
  | y :: _ =>
    let d1 := d.passStride (((d.edgeNs y.index : Int) * 4 + toSigned 16 y.phase).toNat * 2 ^ 30)
    let d2 := d1.passNs (ls.foldl (fun a x => max a x.ready) 0 - d1.now)
    ls.foldl (fun (a : Dev) x => (a.driveLatch x.bind x.value).withStride (fun z => { z with latch := z.latch.erase x })) d2

/-! ### Time steps (R41 to R44, R80, R96, R102, R238, R253, R305) -/

/-- The highest index from `next` whose edge the time base has passed (R41). -/
def Dev.passedIndex (d : Dev) : Option Nat :=
  let v := d.tbNs d.strideTb
  if v < d.edgeNs d.stride.next ∨ d.strideT = 0 then none else some ((v - d.get R.STRIDE_ORIGIN) / d.strideT)

/-- The indices from `next` up to `m` are skipped (R41): counted, with SKIP of each gait that has an edge among them, and its skipped
edges. -/
def Dev.skipTo (d : Dev) (m : Nat) : Dev :=
  let n := d.stride.next
  let d1 := d.addSat R.STRIDE_SKIP_SKIPPED (m - n)
  let edges := fun (g : Nat) => if d.gaitP g = 0 ∨ m ≤ n then 0 else (m - 1) / d.gaitP g + 1 - (n + d.gaitP g - 1) / d.gaitP g
  let d2 := (List.range 4).foldl (fun (a : Dev) g =>
    if edges g = 0 then a
    else (a.withStride (fun x => { x with skips := x.skips.put g (x.skips.getD g 0 + edges g) })).gaitCause g (R.GAIT_STATUS_SKIP g) 2) d1
  if m = n then d2
  else d2.withStride (fun x => { x with next := m, fenceAt := none, finished := [], latch := x.latch.filter (fun y => y.index < n) })

/-- The fence of the next index acts at the step tick when the step has carried the time base past its instant (R43). -/
def State.stepFence (s : State) : State :=
  let d := s.dev
  let n := d.stride.next
  if d.strideLive && d.stride.fenceAt.isNone && decide (d.edgeNs n ≤ d.tbNs d.strideTb + d.strideG) then s.fenceNow n (d.tbNs d.strideTb) else s

/-- The stride after its time base has stepped: at most one edge, for the highest index passed, and the fence of the index that is next
(R41, R43). -/
def State.stepStride (s : State) (pins : BitVec 96) : State :=
  if !s.dev.strideLive then s
  else match s.dev.passedIndex with
    | some m =>
      let s1 := s.on (fun d => (d.skipTo m).withPins pins)
      (s1.edgeNow m (s.dev.tbNs s.dev.strideTb) 0 (decide (s.dev.stride.next < m))).stepFence
    | none => s.stepFence

/-- The ports whose time base is `n`: gates in their present states, late wakes (R238, R253). -/
def Dev.stepPorts (d : Dev) (n : Nat) : Dev :=
  (List.range 26).foldl (fun (a : Dev) p => if a.get (R.TS_PORT_CFG_TB p) = n then (a.gateRefresh p).lpiLateWake p (a.get (R.GATE_STATUS_GATES p)) else a) d

/-- The tick at which the step requested of time base `n` is applied or refused (R80), with all that it moves. -/
def State.stepApply (s : State) (n : Nat) (pins : BitVec 96) : State :=
  let d := s.dev
  if !d.on (R.TB_STATUS_STEP_PEND n) then s
  else if d.stepRefused n then s.on (fun d => d.stepMove n)
  else
    let old := (d.tb n).val
    let d1 := d.stepMove n
    let d2 := if n = d.strideTb then
        d1.withStride (fun x => { x with fenceAt := x.fenceAt.map (fun f => ((f : Int) + d.stepAmount n / 2 ^ 32).toNat) })
      else d1
    let d3 := (List.range 8).foldl (fun (a : Dev) t => a.trgStep t n old) d2
    let d4 := (d3.stepPorts n).hnStepped n
    let s1 : State := { s with dev := d4 }
    if n = d.strideTb then s1.stepStride pins else s1

end Sys2Proof.Machine
end

