-- ==== Sys2Proof/Machine/ExecImages.lean ====
section
/-! DEFINITION. The meanings of the commands of chapter 3: commits and mapping rules. -/

namespace Sys2Proof.Machine
open Sys2Proof

/-- IMG_COMMIT: a write of IMG_COMMIT (R132). -/
def execImgCommit (w : Writer) (r : Fin 256) (v : W32) (s : State) : Host.Outcome State Fault Refusal :=
  .next (s.gate w (0x48014 + r.val * 0x20) (fun y => y.on (fun x => x.imgCommitWrite w r.val v.toNat)))

/-- ENG_COMMIT: an engine store to ENG_COMMIT (R131). -/
def execEngCommit (e : Fin 48) (v : W32) (s : State) : Host.Outcome State Fault Refusal :=
  .next (s.on (fun x => x.engCommitStore e.val v.toNat))

/-- MAPPING_RULE_RUN: a mapping rule runs (R144). -/
def execMappingRuleRun (n : Fin 4096) (s : State) : Host.Outcome State Fault Refusal :=
  .next (s.runRule n.val)

/-- MAPPING_CELL_DELIVERY: mapping cells reach their destination port (R143). -/
def execMappingCellDelivery (dst : Fin 13) (s : State) : Host.Outcome State Fault Refusal :=
  .next (s.deliverCells dst.val)

end Sys2Proof.Machine
end

