-- ==== Sys2Proof/Machine/ExecOrchard.lean ====
section
/-! DEFINITION. The meanings of the commands of chapter 10: Orchard accesses, ownership, power, scrubbing. -/

namespace Sys2Proof.Machine
open Sys2Proof

/-- ORCHARD_ACCESS: one access, or two in the same cycle (R473). -/
def execOrchardAccess (a : OrchAccess) (other : Option OrchAccess) (upset : Option Ecc) (s : State) : Host.Outcome State Fault Refusal :=
  .next ((s.on (fun x => x.upset (a.addr % 0x2000000) upset)).access12 a other)

/-- ENGINE_MEMORY_WRITE: a BAR2 write to the memories of an engine (R392). -/
def execEngineMemoryWrite (w : Writer) (e : Fin 48) (off : Nat) (bytes : List Byte) (s : State) : Host.Outcome State Fault Refusal :=
  .next (s.engineMemory w e.val off bytes)

/-- SCRUB: the scrub interval expires for a bank (R469). -/
def execScrub (n : Fin 64) (upset : Option Ecc) (s : State) : Host.Outcome State Fault Refusal :=
  .next (s.on (fun x => (x.upset (x.scrubAddr n.val) upset).scrub n.val))

/-- BANK_HANDOVER: a write of BANK_HANDOVER (R476). -/
def execBankHandover (w : Writer) (n : Fin 64) (v : W32) (s : State) : Host.Outcome State Fault Refusal :=
  .next (s.gate w (0x40004 + n.val * 0x10) (fun y => y.on (fun x => x.bankHandoverWrite w n.val v.toNat)))

/-- BANK_POWER: a write of BANK_POWER (R470). -/
def execBankPower (w : Writer) (n : Fin 64) (v : W32) (s : State) : Host.Outcome State Fault Refusal :=
  .next (s.gate w (0x40008 + n.val * 0x10) (fun y => y.on (fun x => x.bankPowerWrite w n.val v.toNat)))

/-- BANK_POWER_DONE: a power transition completes (R470). -/
def execBankPowerDone (n : Fin 64) (s : State) : Host.Outcome State Fault Refusal :=
  .next (s.bankPowerDone n.val)

/-- BANK_RETENTION_ENTER: a retention window starts (R632). -/
def execBankRetentionEnter (n : Fin 64) (s : State) : Host.Outcome State Fault Refusal :=
  .next (s.on (fun x => x.retentionEnter n.val))

/-- BANK_RETENTION_EXIT: a bank begins its exit from RETENTION (R632). -/
def execBankRetentionExit (n : Fin 64) (s : State) : Host.Outcome State Fault Refusal :=
  .next (s.on (fun x => x.retentionExit n.val))

/-- ORCH_CLR_CNT: a write of CLR_CNT (R494). -/
def execOrchClrCnt (w : Writer) (s : State) : Host.Outcome State Fault Refusal :=
  .next (s.gate w (0x42000) (fun y => y.on (fun x => x.orchClrCnt)))

end Sys2Proof.Machine
end

