-- ==== Sys2Proof/Machine/ExecPins.lean ====
section
/-! DEFINITION. The meanings of the commands of chapter 11: the Stirrup instructions and machines, the Punnets. -/

namespace Sys2Proof.Machine
open Sys2Proof

/-- IDLE: IDLE (R509). -/
def execIdle (m : Fin 32) (s : State) : Host.Outcome State Fault Refusal :=
  .next (s.on (fun x => x.stirExec m.val (.idle) []))

/-- SEND: SEND (R505). -/
def execSend (m : Fin 32) (at' : Bool) (lane : Fin 4) (n : Fin 32) (s : State) : Host.Outcome State Fault Refusal :=
  .next (s.on (fun x => x.stirExec m.val (.send at' lane n) []))

/-- TAKE: TAKE, with the pin levels of its sampling steps (R505). -/
def execTake (m : Fin 32) (at' : Bool) (lane : Fin 4) (n : Fin 32) (lv : List (BitVec 96)) (s : State) : Host.Outcome State Fault Refusal :=
  .next (s.on (fun x => x.stirExec m.val (.take at' lane n) lv))

/-- DRIVE: DRIVE (R509). -/
def execDrive (m : Fin 32) (at' : Bool) (lane : Fin 4) (value : Byte) (s : State) : Host.Outcome State Fault Refusal :=
  .next (s.on (fun x => x.stirExec m.val (.drive at' lane value) []))

/-- ENABLE: ENABLE (R509). -/
def execEnable (m : Fin 32) (lane : Fin 4) (all : Bool) (mask : Byte) (s : State) : Host.Outcome State Fault Refusal :=
  .next (s.on (fun x => x.stirExec m.val (.enable lane all mask) []))

/-- TIME: TIME (R509). -/
def execTime (m : Fin 32) (mode : Fin 4) (imm : Fin 512) (s : State) : Host.Outcome State Fault Refusal :=
  .next (s.on (fun x => x.stirExec m.val (.time mode imm) []))

/-- WAIT: WAIT (R509). -/
def execWait (m : Fin 32) (mode : Fin 4) (arg : Fin 32) (lv : List (BitVec 96)) (s : State) : Host.Outcome State Fault Refusal :=
  .next (s.on (fun x => x.stirExec m.val (.wait mode arg) lv))

/-- COPY: COPY (R509). -/
def execCopy (m : Fin 32) (dst src : Fin 8) (lv : List (BitVec 96)) (s : State) : Host.Outcome State Fault Refusal :=
  .next (s.on (fun x => x.stirExec m.val (.copy dst src) lv))

/-- CLOSE: CLOSE (R509). -/
def execClose (m : Fin 32) (mark : Bool) (s : State) : Host.Outcome State Fault Refusal :=
  .next (s.on (fun x => x.stirExec m.val (.close mark) []))

/-- NOTE: NOTE (R509). -/
def execNote (m : Fin 32) (s : State) : Host.Outcome State Fault Refusal :=
  .next (s.on (fun x => x.stirExec m.val (.note) []))

/-- STIRRUP_WAIT_DONE: the condition of a WAIT holds (R509). -/
def execStirrupWaitDone (m : Fin 32) (lv : List (BitVec 96)) (s : State) : Host.Outcome State Fault Refusal :=
  .next (s.on (fun x => x.stirWaitDone m.val lv))

/-- AT_ACTION: SC reaches T for a timed instruction (R503). -/
def execAtAction (m : Fin 32) (lv : List (BitVec 96)) (s : State) : Host.Outcome State Fault Refusal :=
  .next (s.on (fun x => x.stirAtAction m.val lv))

/-- STALL_RESUME: a stalled machine goes on (R506). -/
def execStallResume (m : Fin 32) (s : State) : Host.Outcome State Fault Refusal :=
  .next (s.on (fun x => x.stirResume m.val))

/-- MACHINE_START: a write of START (R512). -/
def execMachineStart (w : Writer) (m : Fin 32) (s : State) : Host.Outcome State Fault Refusal :=
  .next (s.gate w (0x80000 + 0x1000 * (m.val / 8) + 0x200 + 0x40 * (m.val % 8)) (fun y => y.on (fun x => x.machStart m.val)))

/-- MACHINE_STOP: a write of STOP (R512). -/
def execMachineStop (w : Writer) (m : Fin 32) (s : State) : Host.Outcome State Fault Refusal :=
  .next (s.gate w (0x80000 + 0x1000 * (m.val / 8) + 0x200 + 0x40 * (m.val % 8)) (fun y => y.on (fun x => x.machStop m.val)))

/-- STIR_TXDATA: a write of STIR_TXDATA (R508). -/
def execStirTxdata (w : Writer) (m : Fin 32) (v : W32) (s : State) : Host.Outcome State Fault Refusal :=
  .next (s.gate w (0x80000 + 0x1000 * (m.val / 8) + 0x200 + 0x40 * (m.val % 8) + 0x14) (fun y => y.on (fun x => x.stirTx m.val v.toNat)))

/-- STIR_RXDATA: a read of STIR_RXDATA (R508). -/
def execStirRxdata (w : Writer) (m : Fin 32) (s : State) : Host.Outcome State Fault Refusal :=
  .next (s.hostRead w (0x80000 + 0x1000 * (m.val / 8) + 0x200 + 0x40 * (m.val % 8) + 0x18) 4)

/-- STIR_PROG: a write of STIR_PROG (R513). -/
def execStirProg (w : Writer) (b : Fin 4) (k : Fin 64) (v : W32) (s : State) : Host.Outcome State Fault Refusal :=
  .next (s.gate w (0x80000 + b.val * 0x1000 + k.val * 4) (fun y => y.on (fun x => x.stirProgWrite w b.val k.val v.toNat)))

/-- UNASSIGNED_STIRRUP_OP: a machine reaches a word that is no instruction (R510). -/
def execUnassignedStirrupOp (m : Fin 32) (word : BitVec 16) (s : State) : Host.Outcome State Fault Refusal :=
  .next (s.on (fun x => x.stirUnassigned m.val word.toNat))

/-- PN_WR: a write of PN_WR (R516). -/
def execPnWr (w : Writer) (n : Fin 64) (v : W32) (s : State) : Host.Outcome State Fault Refusal :=
  .next (s.gate w (0x70000 + n.val * 0x20 + 0x10) (fun y => y.on (fun x => x.pnWrWrite w n.val v.toNat)))

/-- PN_RD: a read of PN_RD (R521). -/
def execPnRd (w : Writer) (n : Fin 64) (size : Nat) (s : State) : Host.Outcome State Fault Refusal :=
  .next (s.hostRead w (0x70000 + n.val * 0x20 + 0x18) size)

/-- PN_FLUSH: a write of FLUSH (R523). -/
def execPnFlush (w : Writer) (n : Fin 64) (s : State) : Host.Outcome State Fault Refusal :=
  .next (s.gate w (0x70000 + n.val * 0x20 + 0x4) (fun y => y.on (fun x => x.pnFlush n.val)))

/-- PN_CFG_WRITE: a write of PN_CFG (R523). -/
def execPnCfgWrite (w : Writer) (n : Fin 64) (v : W32) (s : State) : Host.Outcome State Fault Refusal :=
  .next (s.gate w (0x70000 + n.val * 0x20) (fun y => y.on (fun x => x.pnCfgWrite w n.val v.toNat)))

/-- RESYNC_DONE: a resynchronisation completes (R524). -/
def execResyncDone (n : Fin 64) (s : State) : Host.Outcome State Fault Refusal :=
  .next (s.on (fun x => x.pnResyncDone n.val))

end Sys2Proof.Machine
end

