-- ==== Sys2Proof/Machine/ExecPorts.lean ====
section
/-! DEFINITION. The meanings of the commands of chapter 5: links, gates, timestamps, redundancy, ride paths. -/

namespace Sys2Proof.Machine
open Sys2Proof

/-- PORT_ENABLE: a write of 1 to EN (R216). -/
def execPortEnable (w : Writer) (p : Fin 26) (s : State) : Host.Outcome State Fault Refusal :=
  .next (s.gate w (0xD0000 + p.val * 0x800) (fun y => y.on (fun x => x.portEnable p.val true)))

/-- LINK_UP: a link comes up (R216). -/
def execLinkUp (p : Fin 26) (speed : Fin 4) (an : Bool) (s : State) : Host.Outcome State Fault Refusal :=
  .next (s.on (fun x => x.linkBringUp p.val speed.val an))

/-- LINK_LOSS: a link is lost (R218). -/
def execLinkLoss (p : Fin 26) (fail : Fin 6) (s : State) : Host.Outcome State Fault Refusal :=
  .next (s.on (fun x => x.linkDown p.val fail.val))

/-- AN_RESTART: a write of AN_RESTART (R263). -/
def execAnRestart (w : Writer) (p : Fin 26) (s : State) : Host.Outcome State Fault Refusal :=
  .next (s.gate w (0xD0000 + p.val * 0x800) (fun y => y.on (fun x => x.anRestart p.val)))

/-- AUTO_NEGOTIATION_FAILED: auto-negotiation finds no usable partner (R217). -/
def execAutoNegotiationFailed (p : Fin 26) (halfOr10 : Bool) (s : State) : Host.Outcome State Fault Refusal :=
  .next (s.on (fun x => x.anFailed p.val halfOr10))

/-- PORT_CLR_CNT: a write of CLR_CNT (R268). -/
def execPortClrCnt (w : Writer) (p : Fin 26) (s : State) : Host.Outcome State Fault Refusal :=
  .next (s.gate w (0xD0000 + p.val * 0x800) (fun y => y.on (fun x => x.portClrCnt p.val)))

/-- DIAG_START: a write of START of a cable test (R221). -/
def execDiagStart (w : Writer) (p : Fin 26) (s : State) : Host.Outcome State Fault Refusal :=
  .next (s.gate w (0xD0000 + p.val * 0x800 + 0xD0) (fun y => y.on (fun x => x.diagStart p.val)))

/-- DIAG_DONE: a cable test completes (R221). -/
def execDiagDone (p : Fin 26) (a b : BitVec 12) (s : State) : Host.Outcome State Fault Refusal :=
  .next (s.on (fun x => x.diagDone p.val a.toNat b.toNat))

/-- MDIO_GO: a write of MDIO_CMD (R269). -/
def execMdioGo (w : Writer) (v : W32) (s : State) : Host.Outcome State Fault Refusal :=
  .next (s.gate w (0xDF000) (fun y => y.on (fun x => x.mdioWrite w v.toNat)))

/-- MDIO_DONE: an MDIO frame ends (R269). -/
def execMdioDone (data : BitVec 16) (s : State) : Host.Outcome State Fault Refusal :=
  .next (s.on (fun x => x.mdioDone data.toNat))

/-- GATE_ENABLE: a write of EN of GATE_CTRL (R239). -/
def execGateEnable (w : Writer) (p : Fin 26) (on : Bool) (s : State) : Host.Outcome State Fault Refusal :=
  .next (s.gate w (0xD0000 + p.val * 0x800 + 0x20) (fun y => y.on (fun x => x.gateCtrlWrite w p.val ((if on then 1 else 0) + 4 * x.get (R.GATE_CTRL_FIRST p.val)))))

/-- GATE_ARM: a write of ARM (R240). -/
def execGateArm (w : Writer) (p : Fin 26) (s : State) : Host.Outcome State Fault Refusal :=
  .next (s.gate w (0xD0000 + p.val * 0x800 + 0x20) (fun y => y.on (fun x => x.gateCtrlWrite w p.val (x.get (R.GATE_CTRL_EN p.val) + 4 * x.get (R.GATE_CTRL_FIRST p.val) + 8))))

/-- GATE_LIST_SWITCH: the switch time (R240). -/
def execGateListSwitch (p : Fin 26) (s : State) : Host.Outcome State Fault Refusal :=
  .next (s.on (fun x => x.gateSwitch p.val))

/-- GATE_ENTRY_ADVANCE: the next gate list entry starts (R237). -/
def execGateEntryAdvance (p : Fin 26) (s : State) : Host.Outcome State Fault Refusal :=
  .next (s.on (fun x => x.gateAdvance p.val))

/-- GCL_DATA_WRITE: a write of GCL_DATA (R239). -/
def execGclDataWrite (w : Writer) (p : Fin 26) (v : W32) (s : State) : Host.Outcome State Fault Refusal :=
  .next (s.gate w (0xD0000 + p.val * 0x800 + 0x30) (fun y => y.on (fun x => x.gclWrite w p.val v.toNat)))

/-- LPI_ENTRY: the transmitter enters low-power idle (R252). -/
def execLpiEntry (p : Fin 26) (s : State) : Host.Outcome State Fault Refusal :=
  .next (s.on (fun x => x.lpiEnter p.val))

/-- LPI_EXIT: the transmitter leaves low-power idle (R252). -/
def execLpiExit (p : Fin 26) (s : State) : Host.Outcome State Fault Refusal :=
  .next (s.on (fun x => x.lpiLeave p.val))

/-- RED_ENTRY_FORGET: a duplicate table entry is forgotten (R249). -/
def execRedEntryForget (k : Fin 8) (s : State) : Host.Outcome State Fault Refusal :=
  .next (s.on (fun x => x.redForget k.val))

/-- STREAM_RESET: a recovery stream resets its history (R247). -/
def execStreamReset (n : Fin 128) (s : State) : Host.Outcome State Fault Refusal :=
  .next (s.on (fun x => x.streamReset n.val))

/-- RIDE_FRAME: bytes of a frame on a ride path (R255). -/
def execRideFrame (p : Fin 26) (bytes : List Byte) (take : Nat) (last err : Bool) (s : State) (phase : Fin 8 := 0) : Host.Outcome State Fault Refusal :=
  .next (s.rideFrame p.val bytes take last err phase.val)

/-- RIDE_LEN: a store to RIDE_LEN (R257). -/
def execRideLen (e : Fin 48) (v : W32) (s : State) : Host.Outcome State Fault Refusal :=
  .next (s.on (fun x => x.rideLen e.val v.toNat))

/-- VERIFY_FAIL: the verify exchange fails (R242). -/
def execVerifyFail (p : Fin 26) (s : State) : Host.Outcome State Fault Refusal :=
  .next (s.on (fun x => x.verifyFail p.val))

end Sys2Proof.Machine
end

