-- ==== Sys2Proof/Machine/ExecPower.lean ====
section
/-! DEFINITION. The meanings of the commands of chapter 15: power domains and network sleep. -/

namespace Sys2Proof.Machine
open Sys2Proof

/-- DOMAIN_REQUEST: a write of PWR_DOMAIN (R627). -/
def execDomainRequest (w : Writer) (d : Fin 9) (v : W32) (s : State) : Host.Outcome State Fault Refusal :=
  .next (s.gate w (0xE0000 + d.val * 4) (fun y => y.on (fun x => x.domainWrite w d.val v.toNat)))

/-- DOMAIN_TRANSITION_DONE: a domain reaches its target (R627). -/
def execDomainTransitionDone (d : Fin 9) (s : State) : Host.Outcome State Fault Refusal :=
  .next (s.domainDone d.val)

/-- DOZE_WAKE: a dozing domain wakes (R630). -/
def execDozeWake (t : Fin 4) (s : State) : Host.Outcome State Fault Refusal :=
  .next (s.on (fun x => x.dozeWake t.val))

/-- TOKEN: a token arrives (R639). -/
def execToken (k : Fin 9) (lane : Fin 16) (m : SleepMsg) (s : State) : Host.Outcome State Fault Refusal :=
  .next (s.sleepToken k.val lane.val m)

/-- CONSENT: a consent arrives (R639). -/
def execConsent (lane : Fin 16) (m : SleepMsg) (s : State) : Host.Outcome State Fault Refusal :=
  .next (s.sleepConsent lane.val m)

/-- REFUSE: a refusal arrives (R638). -/
def execRefuse (k : Fin 9) (lane : Fin 16) (m : SleepMsg) (s : State) : Host.Outcome State Fault Refusal :=
  .next (s.sleepRefuse k.val lane.val m)

/-- VISIT_TIMEOUT: the time of a visit ends (R638). -/
def execVisitTimeout (k : Fin 9) (s : State) : Host.Outcome State Fault Refusal :=
  .next (s.visitTimeout k.val)

/-- COMMIT: a commit arrives (R640). -/
def execCommit (k : Fin 9) (lane : Fin 16) (round : Byte) (v : BitVec 40) (s : State) : Host.Outcome State Fault Refusal :=
  .next (s.sleepCommit k.val lane.val round.toNat v.toNat)

/-- SLEEP_ENTRY: the instant of sleep entry (R642). -/
def execSleepEntry (k : Fin 9) (s : State) : Host.Outcome State Fault Refusal :=
  .next (s.sleepEntry k.val)

/-- WAKE_REQUEST: a wake source fires (R644). -/
def execWakeRequest (src : Fin 8) (k : Fin 9) (pin : Fin 8) (s : State) : Host.Outcome State Fault Refusal :=
  .next (s.wakeSource src.val k.val pin.val none)

/-- WAKE: WAKE or a wake signal arrives (R646). -/
def execWake (k : Fin 9) (lane : Fin 16) (node : Option (BitVec 16)) (s : State) : Host.Outcome State Fault Refusal :=
  .next (s.sleepWake k.val lane.val (node.map (fun z => z.toNat)))

/-- WAKE_TIMER_EXPIRY: the wake timer expires (R644). -/
def execWakeTimerExpiry (s : State) : Host.Outcome State Fault Refusal :=
  .next (s.wakeTimer)

/-- SLP_KICK_WAKE: a write of WAKE (R644). -/
def execSlpKickWake (w : Writer) (s : State) : Host.Outcome State Fault Refusal :=
  .next (s.gate w (0xE0108) (fun y => y.slpKickWrite w 2))

/-- KICK: a write of KICK (R647). -/
def execKick (w : Writer) (s : State) : Host.Outcome State Fault Refusal :=
  .next (s.gate w (0xE0108) (fun y => y.slpKickWrite w 1))

/-- SLEEP_WATCH_EXPIRY: the sleep-watch expires (R647). -/
def execSleepWatchExpiry (s : State) : Host.Outcome State Fault Refusal :=
  .next (s.on (fun x => x.watchExpiry))

end Sys2Proof.Machine
end

