-- ==== Sys2Proof/Machine/ExecStride.lean ====
section
/-! DEFINITION. The meanings of the commands of chapter 1: the stride, the latches, the Lunge units, and plain register accesses. -/

namespace Sys2Proof.Machine
open Sys2Proof

/-- STRIDE_EDGE: the stride time base passes the next base edge, and its fence where that has not acted; `pins` are the levels at the balls
(R27). The stores that lockstep pairs hold have been performed by then (R403). -/
def execStrideEdge (pins : BitVec 96) (s : State) : Host.Outcome State Fault Refusal :=
  .next (s.lsStride.edge pins)

/-- STRIDE_FENCE: the fence of the next base edge (R29), after the held stores that come before it (R403). -/
def execStrideFence (s : State) : Host.Outcome State Fault Refusal :=
  .next (s.lsStride.fence)

/-- FINISHER: the finisher of a gait (R134). -/
def execFinisher (g : Fin 4) (s : State) : Host.Outcome State Fault Refusal :=
  .next (s.finisherRow g.val)

/-- OUTPUT_LATCH: the latch instant of a pin block (R48). -/
def execOutputLatch (b : Fin 4) (s : State) : Host.Outcome State Fault Refusal :=
  .next (s.on (fun x => x.outputLatch b.val))

/-- RUN_START: a write of 1 to RUN (R37). -/
def execRunStart (w : Writer) (s : State) : Host.Outcome State Fault Refusal :=
  .next (s.gate w (0x60000) (fun y => y.on (fun x => x.runStart)))

/-- RUN_STOP: a write of 0 to RUN (R40). -/
def execRunStop (w : Writer) (s : State) : Host.Outcome State Fault Refusal :=
  .next (s.gate w (0x60000) (fun y => y.on (fun x => x.runStop)))

/-- STRIDE_CLR_STATS: a write of CLR_STATS (R62). -/
def execStrideClrStats (w : Writer) (s : State) : Host.Outcome State Fault Refusal :=
  .next (s.gate w (0x60000) (fun y => y.on (fun x => x.strideClrStats)))

/-- LATCH_PHASE_WRITE: a write of LATCH_PHASE (R49). -/
def execLatchPhaseWrite (w : Writer) (b : Fin 4) (v : W32) (s : State) : Host.Outcome State Fault Refusal :=
  .next (s.gate w (0x60200 + b.val * 4) (fun y => y.on (fun x => x.latchPhaseWrite w b.val v.toNat)))

/-- LUNGE_UPDATE: a write of UPDATE (R55). -/
def execLungeUpdate (w : Writer) (n : Fin 4) (s : State) : Host.Outcome State Fault Refusal :=
  .next (s.gate w (0x60400 + n.val * 0x40) (fun y => y.on (fun x => x.lungeUpdate n.val)))

/-- LUNGE_ENABLE: a write of 1 to EN of a Lunge unit (R56). -/
def execLungeEnable (w : Writer) (n : Fin 4) (s : State) : Host.Outcome State Fault Refusal :=
  .next (s.gate w (0x60400 + n.val * 0x40) (fun y => y.on (fun x => x.lungeEnable n.val)))

/-- LUNGE_DISABLE: a write of 0 to EN of a Lunge unit (R57). -/
def execLungeDisable (w : Writer) (n : Fin 4) (s : State) : Host.Outcome State Fault Refusal :=
  .next (s.gate w (0x60400 + n.val * 0x40) (fun y => y.on (fun x => x.lungeDisable n.val)))

/-- REGISTER_WRITE: a register write of 4 or 8 bytes (R6). -/
def execRegisterWrite (w : Writer) (off size : Nat) (v : W64) (s : State) : Host.Outcome State Fault Refusal :=
  .next (s.gate w (off) (fun y => y.regWrite w off size v.toNat))

/-- LOW_WORD_READ: a register read of 4 or 8 bytes, with its shadows (R10). -/
def execLowWordRead (w : Writer) (off size : Nat) (s : State) : Host.Outcome State Fault Refusal :=
  .next (s.hostRead w off size)

end Sys2Proof.Machine
end

