-- ==== Sys2Proof/Machine/ExecSwitch.lean ====
section
/-! DEFINITION. The meanings of the commands of chapter 4: the cyclic switch and the switch mover. -/

namespace Sys2Proof.Machine
open Sys2Proof

/-- FRAME_RECEIVE: a frame or mPacket arrives at a network port (R224). -/
def execFrameReceive (p : Fin 26) (kind : MPacket) (bytes : List Byte) (err : Bool) (phase : Fin 8) (s : State) : Host.Outcome State Fault Refusal :=
  .next (s.on (fun x => x.portReceive p.val kind bytes err phase.val))

/-- FRAME_START_EGRESS: an output selects and starts a frame (R176); `upset`: an ECC error in one of its cells (R163). -/
def execFrameStartEgress (j : Fin 40) (s : State) (upset : Option (Nat × Ecc) := none) : Host.Outcome State Fault Refusal :=
  .next (s.on (fun x => (x.fabEcc j.val upset).startEgress j.val))

/-- UNDERRUN: a started frame lacks its next cell (R178). -/
def execUnderrun (j : Fin 40) (sent : Nat) (s : State) : Host.Outcome State Fault Refusal :=
  .next (s.on (fun x => x.underrun j.val sent))

/-- FRAME_TRANSMIT: a network port completes a frame (R233). -/
def execFrameTransmit (p : Fin 26) (s : State) (phase : Fin 8 := 0) : Host.Outcome State Fault Refusal :=
  .next (s.on (fun x => x.transmit p.val phase.val))

/-- F38_FRAME_DELIVERY: a frame reaches port F38 (R187). -/
def execF38FrameDelivery (s : State) : Host.Outcome State Fault Refusal :=
  .next (s.f38Deliver)

/-- SWM_HTX_TAIL: a write of SWM_HTX_TAIL (R188). -/
def execSwmHtxTail (w : Writer) (v : W32) (s : State) : Host.Outcome State Fault Refusal :=
  .next (s.gate w (0xC0808) (fun y => y.on (fun x => x.htxTailWrite w v.toNat)))

/-- HOST_TX_DONE: the mover finishes a host transmit entry (R188). -/
def execHostTxDone (s : State) : Host.Outcome State Fault Refusal :=
  .next (s.hostTxDone)

/-- SWM_RING_STOP: a write of 0 to a ring COUNT (R190). -/
def execSwmRingStop (w : Writer) (rx : Bool) (s : State) : Host.Outcome State Fault Refusal :=
  .next (s.gate w (if rx then 0xC0814 else 0xC0804) (fun y => y.on (fun x => x.ringCfgWrite w rx (x.word (if rx then 0xC0814 else 0xC0804) / 2048 * 2048))))

/-- SW_CLR_CNT: a write of CLR_CNT (R203). -/
def execSwClrCnt (w : Writer) (s : State) : Host.Outcome State Fault Refusal :=
  .next (s.gate w (0xC0000) (fun y => y.on (fun x => x.swClrCnt)))

end Sys2Proof.Machine
end

