-- ==== Sys2Proof/Machine/ExecSystem.lean ====
section
/-! DEFINITION. The meanings of the commands of chapters 16 and 17: keys, events, temperature, clocks, resets and start-up. -/

namespace Sys2Proof.Machine
open Sys2Proof

/-- EV_CFG_WRITE: a write of EV_CFG (R692). -/
def execEvCfgWrite (w : Writer) (k : Fin 256) (v : W32) (s : State) : Host.Outcome State Fault Refusal :=
  .next (s.gate w (0x30000 + k.val * 4) (fun y => y.on (fun x => x.evCfgWrite w k.val v.toNat)))

/-- EV_CLR_CNT: a write of CLR_CNT (R711). -/
def execEvClrCnt (w : Writer) (s : State) : Host.Outcome State Fault Refusal :=
  .next (s.gate w (0x30440) (fun y => y.on (fun x => x.evClrCnt)))

/-- KEY_GENERATION_DONE: the keys have been generated (R665). -/
def execKeyGenerationDone (s : State) : Host.Outcome State Fault Refusal :=
  .next (s.on (fun x => x.keyDone))

/-- TEMP_SAMPLE: a temperature sample (R698). -/
def execTempSample (t : BitVec 16) (s : State) : Host.Outcome State Fault Refusal :=
  .next (s.tempSample t.toNat)

/-- REFERENCE_LOSS: a clock reference is lost (R702). -/
def execReferenceLoss (r : Fin 3) (s : State) : Host.Outcome State Fault Refusal :=
  .next (s.on (fun x => x.refLoss r.val))

/-- REFERENCE_RETURN: a clock reference returns (R702). -/
def execReferenceReturn (r : Fin 3) (s : State) : Host.Outcome State Fault Refusal :=
  .next (s.refReturn r.val)

/-- POWER_ON_RESET: POR_N (R703). -/
def execPowerOnReset (s : State) : Host.Outcome State Fault Refusal :=
  .next (s.powerOn)

/-- WARM_RESET: WARM_N (R704). -/
def execWarmReset (s : State) : Host.Outcome State Fault Refusal :=
  .next (s.warmPin)

/-- TEST_EN_HIGH: TEST_EN is high (R718). -/
def execTestEnHigh (s : State) : Host.Outcome State Fault Refusal :=
  .next (s.testEnHigh)

/-- STARTUP: Pip starts the device (R706); `upset` says that a read of MRAM finds an uncorrectable error (R695). -/
def execStartup (strap : Fin 8) (s : State) (upset : Bool := false) : Host.Outcome State Fault Refusal :=
  .next (s.startup strap.val upset)

end Sys2Proof.Machine
end

