-- ==== Sys2Proof/Machine/ExecTime.lean ====
section
/-! DEFINITION. The meanings of the commands of chapter 2: time bases, captures, triggers, the calendar clock. -/

namespace Sys2Proof.Machine
open Sys2Proof

/-- LOAD_INCR: a write of LOAD_INCR (R79). -/
def execLoadIncr (w : Writer) (n : Fin 8) (s : State) : Host.Outcome State Fault Refusal :=
  .next (s.gate w (0x50000 + n.val * 0x100) (fun y => y.on (fun x => x.tbLoadIncr n.val)))

/-- INCR_APPLY: the tick at which the increment applies (R79). -/
def execIncrApply (n : Fin 8) (s : State) : Host.Outcome State Fault Refusal :=
  .next (s.on (fun x => x.incrApply n.val))

/-- STEP: a write of STEP (R80). -/
def execStep (w : Writer) (n : Fin 8) (s : State) : Host.Outcome State Fault Refusal :=
  .next (s.gate w (0x50000 + n.val * 0x100) (fun y => y.on (fun x => x.tbStep n.val)))

/-- STEP_APPLY: the tick at which a step applies or is refused (R80). -/
def execStepApply (n : Fin 8) (pins : BitVec 96) (s : State) : Host.Outcome State Fault Refusal :=
  .next (s.stepApply n.val pins)

/-- SET: a write of SET (R76). -/
def execSet (w : Writer) (n : Fin 8) (s : State) : Host.Outcome State Fault Refusal :=
  .next (s.gate w (0x50000 + n.val * 0x100) (fun y => y.on (fun x => x.tbSet n.val (x.on (R.TB_CTRL_EN n.val)))))

/-- SET_LOAD: the tick at which an absolute load applies (R76). -/
def execSetLoad (n : Fin 8) (s : State) : Host.Outcome State Fault Refusal :=
  .next (s.on (fun x => x.setLoad n.val))

/-- TB_ENABLE: a write of 1 to EN (R77). -/
def execTbEnable (w : Writer) (n : Fin 8) (s : State) : Host.Outcome State Fault Refusal :=
  .next (s.gate w (0x50000 + n.val * 0x100) (fun y => y.on (fun x => x.tbEnable n.val)))

/-- TB_DISABLE: a write of 0 to EN (R77). -/
def execTbDisable (w : Writer) (n : Fin 8) (s : State) : Host.Outcome State Fault Refusal :=
  .next (s.gate w (0x50000 + n.val * 0x100) (fun y => y.on (fun x => x.tbDisable n.val)))

/-- SNAP: a write of SNAP (R113). -/
def execSnap (w : Writer) (s : State) : Host.Outcome State Fault Refusal :=
  .next (s.gate w (0x50800) (fun y => y.on (fun x => x.snap)))

/-- TXTS_POP: a read of the META word of a transmit timestamp FIFO (R115). -/
def execTxtsPop (w : Writer) (p : Fin 26) (s : State) : Host.Outcome State Fault Refusal :=
  .next (s.hostRead w (0x5140C + p.val * 0x10) 4)

/-- CAP_META_READ: a read of CAP_META (R98). -/
def execCapMetaRead (w : Writer) (c : Fin 8) (s : State) : Host.Outcome State Fault Refusal :=
  .next (s.hostRead w (0x52014 + c.val * 0x20) 4)

/-- CAPTURE_EDGE: an edge on a capture pin (R97). -/
def execCaptureEdge (c : Fin 8) (rising : Bool) (phase : Fin 8) (s : State) : Host.Outcome State Fault Refusal :=
  .next (s.on (fun x => x.captureEdge c.val rising phase.val))

/-- TRG_ENABLE: a write of 1 to EN of a trigger (R101). -/
def execTrgEnable (w : Writer) (t : Fin 8) (s : State) : Host.Outcome State Fault Refusal :=
  .next (s.gate w (0x53000 + t.val * 0x40) (fun y => y.on (fun x => x.trgEnable t.val)))

/-- TRIGGER_ASSERT: a trigger pulse starts (R100). -/
def execTriggerAssert (t : Fin 8) (s : State) : Host.Outcome State Fault Refusal :=
  .next (s.on (fun x => x.trgAssert t.val))

/-- TRIGGER_DEASSERT: a trigger pulse ends (R100). -/
def execTriggerDeassert (t : Fin 8) (s : State) : Host.Outcome State Fault Refusal :=
  .next (s.on (fun x => x.trgDeassert t.val))

/-- RTC_LOAD: a write of LOAD (R105). -/
def execRtcLoad (w : Writer) (s : State) : Host.Outcome State Fault Refusal :=
  .next (s.gate w (0x54000) (fun y => y.on (fun x => x.rtcCtrlWrite w (1 + 4 * x.get R.RTC_CTRL_SYNC_TB))))

/-- SYNC_FROM_TB: a write of SYNC_FROM_TB (R105). -/
def execSyncFromTb (w : Writer) (s : State) : Host.Outcome State Fault Refusal :=
  .next (s.gate w (0x54000) (fun y => y.on (fun x => x.rtcCtrlWrite w (2 + 4 * x.get R.RTC_CTRL_SYNC_TB))))

/-- RTC_LOAD_DONE: the 32.768 kHz edge at which a load happens (R105). -/
def execRtcLoadDone (s : State) : Host.Outcome State Fault Refusal :=
  .next (s.on (fun x => x.rtcLoadDone))

/-- VBAT_LOSS: the backup supply or the oscillator fails (R103). -/
def execVbatLoss (osc : Bool) (s : State) : Host.Outcome State Fault Refusal :=
  .next (s.on (fun x => x.vbatLoss osc))

/-- LAUNCH_TIME_REACHED: the launch time of a held frame (R95). -/
def execLaunchTimeReached (p : Fin 26) (s : State) : Host.Outcome State Fault Refusal :=
  .next (s.on (fun x => x.launchReached p.val))

end Sys2Proof.Machine
end

