-- ==== Sys2Proof/Machine/ExecZhofaMem.lean ====
section
/-! DEFINITION. The meanings of the Zhofa instructions that touch memory, and of the mover (chapter 9). -/

namespace Sys2Proof.Machine
open Sys2Proof

/-- LB: load a byte, sign-extended (R423). -/
def execLb (e : Fin 49) (rd rs : Fin 32) (imm : BitVec 16) (s : State) : Host.Outcome State Fault Refusal :=
  .next (s.load e.val rd.val rs.val imm 1 (sx40 8) true)

/-- LBU: load a byte, zero-extended (R423). -/
def execLbu (e : Fin 49) (rd rs : Fin 32) (imm : BitVec 16) (s : State) : Host.Outcome State Fault Refusal :=
  .next (s.load e.val rd.val rs.val imm 1 id false)

/-- LH: load a halfword, sign-extended (R423). -/
def execLh (e : Fin 49) (rd rs : Fin 32) (imm : BitVec 16) (s : State) : Host.Outcome State Fault Refusal :=
  .next (s.load e.val rd.val rs.val imm 2 (sx40 16) true)

/-- LHU: load a halfword, zero-extended (R423). -/
def execLhu (e : Fin 49) (rd rs : Fin 32) (imm : BitVec 16) (s : State) : Host.Outcome State Fault Refusal :=
  .next (s.load e.val rd.val rs.val imm 2 id false)

/-- LW: load a word, sign-extended (R423). -/
def execLw (e : Fin 49) (rd rs : Fin 32) (imm : BitVec 16) (s : State) : Host.Outcome State Fault Refusal :=
  .next (s.load e.val rd.val rs.val imm 4 (sx40 32) true)

/-- LWU: load a word, zero-extended (R423). -/
def execLwu (e : Fin 49) (rd rs : Fin 32) (imm : BitVec 16) (s : State) : Host.Outcome State Fault Refusal :=
  .next (s.load e.val rd.val rs.val imm 4 id false)

/-- LD: load the 40-bit form (R423). -/
def execLd (e : Fin 49) (rd rs : Fin 32) (imm : BitVec 16) (s : State) : Host.Outcome State Fault Refusal :=
  .next (s.load e.val rd.val rs.val imm 8 (fun v => v % 2 ^ 40) false)

/-- SB: store a byte (R423). -/
def execSb (e : Fin 49) (rt rs : Fin 32) (imm : BitVec 16) (s : State) (bad : Bool := false) : Host.Outcome State Fault Refusal :=
  .next (s.store e.val rs.val imm 1 (s.dev.greg e.val rt.val) bad)

/-- SH: store a halfword (R423). -/
def execSh (e : Fin 49) (rt rs : Fin 32) (imm : BitVec 16) (s : State) (bad : Bool := false) : Host.Outcome State Fault Refusal :=
  .next (s.store e.val rs.val imm 2 (s.dev.greg e.val rt.val) bad)

/-- SW: store a word (R423). -/
def execSw (e : Fin 49) (rt rs : Fin 32) (imm : BitVec 16) (s : State) (bad : Bool := false) : Host.Outcome State Fault Refusal :=
  .next (s.store e.val rs.val imm 4 (s.dev.greg e.val rt.val) bad)

/-- SD: store the 40-bit form with copies of its sign (R423). -/
def execSd (e : Fin 49) (rt rs : Fin 32) (imm : BitVec 16) (s : State) (bad : Bool := false) : Host.Outcome State Fault Refusal :=
  .next (s.store e.val rs.val imm 8 (ofSigned 64 (S40 (s.dev.greg e.val rt.val))) bad)

/-- CRCM: CRC over bytes in memory (R452). -/
def execCrcm (e : Fin 49) (poly : Fin 8) (rd rs rt : Fin 32) (s : State) : Host.Outcome State Fault Refusal :=
  .next (s.crcm e.val poly.val rd.val rs.val rt.val)

/-- SGET: the next n bits of the stream (R454). -/
def execSget (e : Fin 49) (rd rt : Fin 32) (s : State) : Host.Outcome State Fault Refusal :=
  .next (s.sget e.val rd.val rt.val false)

/-- SGETS: the next n bits of the stream, sign-extended (R454). -/
def execSgets (e : Fin 49) (rd rt : Fin 32) (s : State) : Host.Outcome State Fault Refusal :=
  .next (s.sget e.val rd.val rt.val true)

/-- SPUT: n bits written into the stream (R454). -/
def execSput (e : Fin 49) (rs rt : Fin 32) (s : State) : Host.Outcome State Fault Refusal :=
  .next (s.sput e.val rs.val rt.val)

/-- SGRUN: start a descriptor list (R456). -/
def execSgrun (e : Fin 49) (rs rt : Fin 32) (s : State) : Host.Outcome State Fault Refusal :=
  .next (s.on (fun x => x.sgRun e.val rs.val rt.val))

/-- SGWAIT: wait for the mover (R456). -/
def execSgwait (e : Fin 49) (rd : Fin 32) (s : State) : Host.Outcome State Fault Refusal :=
  .next (s.on (fun x => x.sgWait e.val rd.val))

/-- SGSTAT: the mover status (R456). -/
def execSgstat (e : Fin 49) (rd : Fin 32) (s : State) : Host.Outcome State Fault Refusal :=
  .next (s.on (fun x => x.sgStat e.val rd.val))

/-- MOVER_COPY: the mover carries out COPY (R458). -/
def execMoverCopy (e : Fin 48) (s : State) : Host.Outcome State Fault Refusal :=
  .next (s.moverCopy e.val)

/-- MOVER_CONVERT: the mover carries out CONVERT (R458). -/
def execMoverConvert (e : Fin 48) (s : State) : Host.Outcome State Fault Refusal :=
  .next (s.moverConvert e.val)

/-- MOVER_SEND: the mover carries out SEND (R458). -/
def execMoverSend (e : Fin 48) (s : State) : Host.Outcome State Fault Refusal :=
  .next (s.moverSend e.val)

/-- MOVER_COMMIT: the mover carries out COMMIT (R458). -/
def execMoverCommit (e : Fin 48) (s : State) : Host.Outcome State Fault Refusal :=
  .next (s.moverCommit e.val)

/-- MOVER_LIST_STOP: the mover ends or stops its list (R459). -/
def execMoverListStop (e : Fin 48) (s : State) : Host.Outcome State Fault Refusal :=
  .next (s.moverListStop e.val)

/-- SHAINIT: the initial hash value (R461). -/
def execShainit (e : Fin 49) (s : State) : Host.Outcome State Fault Refusal :=
  .next (s.on (fun x => x.shaInit e.val))

/-- SHABLK: a block compressed (R461). -/
def execShablk (e : Fin 49) (rs : Fin 32) (s : State) : Host.Outcome State Fault Refusal :=
  .next (s.shaBlk e.val rs.val)

/-- SHARD: a state word read (R461). -/
def execShard (e : Fin 49) (rd : Fin 32) (k : Fin 8) (s : State) : Host.Outcome State Fault Refusal :=
  .next (s.on (fun x => x.shard e.val rd.val k.val))

/-- UNDEFINED_OPCODE: a core reaches a word that is no instruction, or whose fetch fails (R429). -/
def execUndefinedOpcode (e : Fin 49) (word : W32) (ecc : Bool) (s : State) : Host.Outcome State Fault Refusal :=
  .next (s.on (fun x => x.undefinedWord e.val word.toNat ecc))

/-- SYNC (R425). -/
def execSync (e : Fin 49) (s : State) : Host.Outcome State Fault Refusal :=
  .next (s.sync e.val)

end Sys2Proof.Machine
end

