-- ==== Sys2Proof/Machine/ZhofaAlu.lean ====
section
/-! DEFINITION. The meanings of the Zhofa instructions that touch no memory (chapter 9): one definition for each, over the value
functions and the shared issue of Machine/Zhofa.lean. -/

namespace Sys2Proof.Machine
open Sys2Proof

/-- ADD (R430). -/
def execAdd (e : Fin 49) (rd rs rt : Fin 32) (s : State) : Host.Outcome State Fault Refusal :=
  .next (s.on (fun d => d.alu e rd (zAdd (d.greg e rs) (d.greg e rt))))

/-- SUB (R430). -/
def execSub (e : Fin 49) (rd rs rt : Fin 32) (s : State) : Host.Outcome State Fault Refusal :=
  .next (s.on (fun d => d.alu e rd (zSub (d.greg e rs) (d.greg e rt))))

/-- ADDS (R430). -/
def execAdds (e : Fin 49) (rd rs rt : Fin 32) (s : State) : Host.Outcome State Fault Refusal :=
  .next (s.on (fun d => d.alu e rd (zAdds (d.greg e rs) (d.greg e rt))))

/-- SUBS (R430). -/
def execSubs (e : Fin 49) (rd rs rt : Fin 32) (s : State) : Host.Outcome State Fault Refusal :=
  .next (s.on (fun d => d.alu e rd (zSubs (d.greg e rs) (d.greg e rt))))

/-- AND (R430). -/
def execAnd (e : Fin 49) (rd rs rt : Fin 32) (s : State) : Host.Outcome State Fault Refusal :=
  .next (s.on (fun d => d.alu e rd (zAnd (d.greg e rs) (d.greg e rt))))

/-- OR (R430). -/
def execOr (e : Fin 49) (rd rs rt : Fin 32) (s : State) : Host.Outcome State Fault Refusal :=
  .next (s.on (fun d => d.alu e rd (zOr (d.greg e rs) (d.greg e rt))))

/-- XOR (R430). -/
def execXor (e : Fin 49) (rd rs rt : Fin 32) (s : State) : Host.Outcome State Fault Refusal :=
  .next (s.on (fun d => d.alu e rd (zXor (d.greg e rs) (d.greg e rt))))

/-- NOR (R430). -/
def execNor (e : Fin 49) (rd rs rt : Fin 32) (s : State) : Host.Outcome State Fault Refusal :=
  .next (s.on (fun d => d.alu e rd (zNor (d.greg e rs) (d.greg e rt))))

/-- MIN (R430). -/
def execMin (e : Fin 49) (rd rs rt : Fin 32) (s : State) : Host.Outcome State Fault Refusal :=
  .next (s.on (fun d => d.alu e rd (zMin (d.greg e rs) (d.greg e rt))))

/-- MAX (R430). -/
def execMax (e : Fin 49) (rd rs rt : Fin 32) (s : State) : Host.Outcome State Fault Refusal :=
  .next (s.on (fun d => d.alu e rd (zMax (d.greg e rs) (d.greg e rt))))

/-- MINU (R430). -/
def execMinu (e : Fin 49) (rd rs rt : Fin 32) (s : State) : Host.Outcome State Fault Refusal :=
  .next (s.on (fun d => d.alu e rd (zMinu (d.greg e rs) (d.greg e rt))))

/-- MAXU (R430). -/
def execMaxu (e : Fin 49) (rd rs rt : Fin 32) (s : State) : Host.Outcome State Fault Refusal :=
  .next (s.on (fun d => d.alu e rd (zMaxu (d.greg e rs) (d.greg e rt))))

/-- CLT (R430). -/
def execClt (e : Fin 49) (rd rs rt : Fin 32) (s : State) : Host.Outcome State Fault Refusal :=
  .next (s.on (fun d => d.alu e rd (zClt (d.greg e rs) (d.greg e rt))))

/-- CLTU (R430). -/
def execCltu (e : Fin 49) (rd rs rt : Fin 32) (s : State) : Host.Outcome State Fault Refusal :=
  .next (s.on (fun d => d.alu e rd (zCltu (d.greg e rs) (d.greg e rt))))

/-- CEQ (R430). -/
def execCeq (e : Fin 49) (rd rs rt : Fin 32) (s : State) : Host.Outcome State Fault Refusal :=
  .next (s.on (fun d => d.alu e rd (zCeq (d.greg e rs) (d.greg e rt))))

/-- CNE (R430). -/
def execCne (e : Fin 49) (rd rs rt : Fin 32) (s : State) : Host.Outcome State Fault Refusal :=
  .next (s.on (fun d => d.alu e rd (zCne (d.greg e rs) (d.greg e rt))))

/-- CLE (R430). -/
def execCle (e : Fin 49) (rd rs rt : Fin 32) (s : State) : Host.Outcome State Fault Refusal :=
  .next (s.on (fun d => d.alu e rd (zCle (d.greg e rs) (d.greg e rt))))

/-- CLEU (R430). -/
def execCleu (e : Fin 49) (rd rs rt : Fin 32) (s : State) : Host.Outcome State Fault Refusal :=
  .next (s.on (fun d => d.alu e rd (zCleu (d.greg e rs) (d.greg e rt))))

/-- NEG (R430). -/
def execNeg (e : Fin 49) (rd rs : Fin 32) (s : State) : Host.Outcome State Fault Refusal :=
  .next (s.on (fun d => d.alu e rd (zNeg (d.greg e rs))))

/-- ABS (R430). -/
def execAbs (e : Fin 49) (rd rs : Fin 32) (s : State) : Host.Outcome State Fault Refusal :=
  .next (s.on (fun d => d.alu e rd (zAbs (d.greg e rs))))

/-- SEXT8 (R430). -/
def execSext8 (e : Fin 49) (rd rs : Fin 32) (s : State) : Host.Outcome State Fault Refusal :=
  .next (s.on (fun d => d.alu e rd (zSext8 (d.greg e rs))))

/-- SEXT16 (R430). -/
def execSext16 (e : Fin 49) (rd rs : Fin 32) (s : State) : Host.Outcome State Fault Refusal :=
  .next (s.on (fun d => d.alu e rd (zSext16 (d.greg e rs))))

/-- SEXT32 (R430). -/
def execSext32 (e : Fin 49) (rd rs : Fin 32) (s : State) : Host.Outcome State Fault Refusal :=
  .next (s.on (fun d => d.alu e rd (zSext32 (d.greg e rs))))

/-- ZEXT32 (R430). -/
def execZext32 (e : Fin 49) (rd rs : Fin 32) (s : State) : Host.Outcome State Fault Refusal :=
  .next (s.on (fun d => d.alu e rd (zZext32 (d.greg e rs))))

/-- SLL (R431). -/
def execSll (e : Fin 49) (rd rs rt : Fin 32) (s : State) : Host.Outcome State Fault Refusal :=
  .next (s.on (fun d => d.alu e rd (zSll (d.greg e rs) (d.greg e rt))))

/-- SRL (R431). -/
def execSrl (e : Fin 49) (rd rs rt : Fin 32) (s : State) : Host.Outcome State Fault Refusal :=
  .next (s.on (fun d => d.alu e rd (zSrl (d.greg e rs) (d.greg e rt))))

/-- SRA (R431). -/
def execSra (e : Fin 49) (rd rs rt : Fin 32) (s : State) : Host.Outcome State Fault Refusal :=
  .next (s.on (fun d => d.alu e rd (zSra (d.greg e rs) (d.greg e rt))))

/-- ROL (R431). -/
def execRol (e : Fin 49) (rd rs rt : Fin 32) (s : State) : Host.Outcome State Fault Refusal :=
  .next (s.on (fun d => d.alu e rd (zRol (d.greg e rs) (d.greg e rt))))

/-- ROR (R431). -/
def execRor (e : Fin 49) (rd rs rt : Fin 32) (s : State) : Host.Outcome State Fault Refusal :=
  .next (s.on (fun d => d.alu e rd (zRor (d.greg e rs) (d.greg e rt))))

/-- SLLI (R431). -/
def execSlli (e : Fin 49) (rd rs : Fin 32) (count : Fin 64) (s : State) : Host.Outcome State Fault Refusal :=
  .next (s.on (fun d => d.alu e rd (zSll (d.greg e rs) count)))

/-- SRLI (R431). -/
def execSrli (e : Fin 49) (rd rs : Fin 32) (count : Fin 64) (s : State) : Host.Outcome State Fault Refusal :=
  .next (s.on (fun d => d.alu e rd (zSrl (d.greg e rs) count)))

/-- SRAI (R431). -/
def execSrai (e : Fin 49) (rd rs : Fin 32) (count : Fin 64) (s : State) : Host.Outcome State Fault Refusal :=
  .next (s.on (fun d => d.alu e rd (zSra (d.greg e rs) count)))

/-- ROLI (R431). -/
def execRoli (e : Fin 49) (rd rs : Fin 32) (count : Fin 64) (s : State) : Host.Outcome State Fault Refusal :=
  .next (s.on (fun d => d.alu e rd (zRol (d.greg e rs) count)))

/-- RORI (R431). -/
def execRori (e : Fin 49) (rd rs : Fin 32) (count : Fin 64) (s : State) : Host.Outcome State Fault Refusal :=
  .next (s.on (fun d => d.alu e rd (zRor (d.greg e rs) count)))

/-- MUL (R432). -/
def execMul (e : Fin 49) (rd rs rt : Fin 32) (s : State) : Host.Outcome State Fault Refusal :=
  .next (s.on (fun d => d.alu e rd (zMul (d.greg e rs) (d.greg e rt))))

/-- MULH (R432). -/
def execMulh (e : Fin 49) (rd rs rt : Fin 32) (s : State) : Host.Outcome State Fault Refusal :=
  .next (s.on (fun d => d.alu e rd (zMulh (d.greg e rs) (d.greg e rt))))

/-- MULHU (R432). -/
def execMulhu (e : Fin 49) (rd rs rt : Fin 32) (s : State) : Host.Outcome State Fault Refusal :=
  .next (s.on (fun d => d.alu e rd (zMulhu (d.greg e rs) (d.greg e rt))))

/-- MULS (R432). -/
def execMuls (e : Fin 49) (rd rs rt : Fin 32) (s : State) : Host.Outcome State Fault Refusal :=
  .next (s.on (fun d => d.alu e rd (zMuls (d.greg e rs) (d.greg e rt))))

/-- DIV (R432). -/
def execDiv (e : Fin 49) (rd rs rt : Fin 32) (s : State) : Host.Outcome State Fault Refusal :=
  .next (s.on (fun d => d.alu e rd (zDiv (d.greg e rs) (d.greg e rt))))

/-- DIVU (R432). -/
def execDivu (e : Fin 49) (rd rs rt : Fin 32) (s : State) : Host.Outcome State Fault Refusal :=
  .next (s.on (fun d => d.alu e rd (zDivu (d.greg e rs) (d.greg e rt))))

/-- REM (R432). -/
def execRem (e : Fin 49) (rd rs rt : Fin 32) (s : State) : Host.Outcome State Fault Refusal :=
  .next (s.on (fun d => d.alu e rd (zRem (d.greg e rs) (d.greg e rt))))

/-- REMU (R432). -/
def execRemu (e : Fin 49) (rd rs rt : Fin 32) (s : State) : Host.Outcome State Fault Refusal :=
  .next (s.on (fun d => d.alu e rd (zRemu (d.greg e rs) (d.greg e rt))))

/-- MAC (R432). -/
def execMac (e : Fin 49) (rd rs rt : Fin 32) (s : State) : Host.Outcome State Fault Refusal :=
  .next (s.on (fun d => d.alu e rd (zMac (d.greg e rd) (d.greg e rs) (d.greg e rt))))

/-- MACS (R432). -/
def execMacs (e : Fin 49) (rd rs rt : Fin 32) (s : State) : Host.Outcome State Fault Refusal :=
  .next (s.on (fun d => d.alu e rd (zMacs (d.greg e rd) (d.greg e rs) (d.greg e rt))))

/-- MAC16 (R432). -/
def execMac16 (e : Fin 49) (rd rs rt : Fin 32) (s : State) : Host.Outcome State Fault Refusal :=
  .next (s.on (fun d => d.alu e rd (zMac16 (d.greg e rd) (d.greg e rs) (d.greg e rt))))

/-- MACS16 (R432). -/
def execMacs16 (e : Fin 49) (rd rs rt : Fin 32) (s : State) : Host.Outcome State Fault Refusal :=
  .next (s.on (fun d => d.alu e rd (zMacs16 (d.greg e rd) (d.greg e rs) (d.greg e rt))))

/-- ADDI (R433). -/
def execAddi (e : Fin 49) (rd rs : Fin 32) (imm : BitVec 16) (s : State) : Host.Outcome State Fault Refusal :=
  .next (s.on (fun d => d.alu e rd (zAddi (d.greg e rs) imm.toNat)))

/-- ADDIS (R433). -/
def execAddis (e : Fin 49) (rd rs : Fin 32) (imm : BitVec 16) (s : State) : Host.Outcome State Fault Refusal :=
  .next (s.on (fun d => d.alu e rd (zAddis (d.greg e rs) imm.toNat)))

/-- ANDI (R433). -/
def execAndi (e : Fin 49) (rd rs : Fin 32) (imm : BitVec 16) (s : State) : Host.Outcome State Fault Refusal :=
  .next (s.on (fun d => d.alu e rd (zAndi (d.greg e rs) imm.toNat)))

/-- ORI (R433). -/
def execOri (e : Fin 49) (rd rs : Fin 32) (imm : BitVec 16) (s : State) : Host.Outcome State Fault Refusal :=
  .next (s.on (fun d => d.alu e rd (zOri (d.greg e rs) imm.toNat)))

/-- XORI (R433). -/
def execXori (e : Fin 49) (rd rs : Fin 32) (imm : BitVec 16) (s : State) : Host.Outcome State Fault Refusal :=
  .next (s.on (fun d => d.alu e rd (zXori (d.greg e rs) imm.toNat)))

/-- CLTI (R433). -/
def execClti (e : Fin 49) (rd rs : Fin 32) (imm : BitVec 16) (s : State) : Host.Outcome State Fault Refusal :=
  .next (s.on (fun d => d.alu e rd (zClti (d.greg e rs) imm.toNat)))

/-- CLTIU (R433). -/
def execCltiu (e : Fin 49) (rd rs : Fin 32) (imm : BitVec 16) (s : State) : Host.Outcome State Fault Refusal :=
  .next (s.on (fun d => d.alu e rd (zCltiu (d.greg e rs) imm.toNat)))

/-- CEQI (R433). -/
def execCeqi (e : Fin 49) (rd rs : Fin 32) (imm : BitVec 16) (s : State) : Host.Outcome State Fault Refusal :=
  .next (s.on (fun d => d.alu e rd (zCeqi (d.greg e rs) imm.toNat)))

/-- MOVH (R433). -/
def execMovh (e : Fin 49) (rd : Fin 32) (imm : BitVec 21) (s : State) : Host.Outcome State Fault Refusal :=
  .next (s.on (fun d => d.alu e rd (zMovh imm.toNat)))

/-- TOPI (R433). -/
def execTopi (e : Fin 49) (rd rs : Fin 32) (imm : Byte) (s : State) : Host.Outcome State Fault Refusal :=
  .next (s.on (fun d => d.alu e rd (zTopi (d.greg e rs) imm.toNat)))

/-- BEZ (R434). -/
def execBez (e : Fin 49) (rs : Fin 32) (off : BitVec 21) (s : State) : Host.Outcome State Fault Refusal :=
  .next (s.on (fun d => d.branch e (d.greg e rs == 0) (d.relTarget e off.toNat)))

/-- BNZ (R434). -/
def execBnz (e : Fin 49) (rs : Fin 32) (off : BitVec 21) (s : State) : Host.Outcome State Fault Refusal :=
  .next (s.on (fun d => d.branch e (d.greg e rs != 0) (d.relTarget e off.toNat)))

/-- JAL (R434). -/
def execJal (e : Fin 49) (rd : Fin 32) (off : BitVec 21) (s : State) : Host.Outcome State Fault Refusal :=
  .next (s.on (fun d => d.jumpLink e rd (d.relTarget e off.toNat)))

/-- JR (R434). -/
def execJr (e : Fin 49) (rs : Fin 32) (s : State) : Host.Outcome State Fault Refusal :=
  .next (s.on (fun d => d.branch e true (d.greg e rs % 2 ^ 32)))

/-- JALR (R434). -/
def execJalr (e : Fin 49) (rd rs : Fin 32) (s : State) : Host.Outcome State Fault Refusal :=
  .next (s.on (fun d => d.jumpLink e rd (d.greg e rs % 2 ^ 32)))

/-- CRCB (R449 to R451). -/
def execCrcb (e : Fin 49) (poly : Fin 8) (rd rs : Fin 32) (s : State) : Host.Outcome State Fault Refusal :=
  .next (s.on (fun d => d.alu e rd (crcValue poly (d.greg e rd) (d.greg e rs) 8)))

/-- CRCH (R449 to R451). -/
def execCrch (e : Fin 49) (poly : Fin 8) (rd rs : Fin 32) (s : State) : Host.Outcome State Fault Refusal :=
  .next (s.on (fun d => d.alu e rd (crcValue poly (d.greg e rd) (d.greg e rs) 16)))

/-- CRCW (R449 to R451). -/
def execCrcw (e : Fin 49) (poly : Fin 8) (rd rs : Fin 32) (s : State) : Host.Outcome State Fault Refusal :=
  .next (s.on (fun d => d.alu e rd (crcValue poly (d.greg e rd) (d.greg e rs) 32)))

/-- CRCN (R450, R451). -/
def execCrcn (e : Fin 49) (poly : Fin 8) (rd rs rt : Fin 32) (s : State) : Host.Outcome State Fault Refusal :=
  .next (s.on (fun d => d.crcn e poly rd rs rt))

/-- EXTU (R453). -/
def execExtu (e : Fin 49) (rd rs rt : Fin 32) (s : State) : Host.Outcome State Fault Refusal :=
  .next (s.on (fun d => d.alu e rd (zExtu (d.greg e rs) (d.greg e rt))))

/-- EXTS (R453). -/
def execExts (e : Fin 49) (rd rs rt : Fin 32) (s : State) : Host.Outcome State Fault Refusal :=
  .next (s.on (fun d => d.alu e rd (zExts (d.greg e rs) (d.greg e rt))))

/-- INS (R453). -/
def execIns (e : Fin 49) (rd rs rt : Fin 32) (s : State) : Host.Outcome State Fault Refusal :=
  .next (s.on (fun d => d.alu e rd (zIns (d.greg e rd) (d.greg e rs) (d.greg e rt))))

/-- CLZ (R453). -/
def execClz (e : Fin 49) (rd rs : Fin 32) (s : State) : Host.Outcome State Fault Refusal :=
  .next (s.on (fun d => d.alu e rd (zClz (d.greg e rs))))

/-- CTZ (R453). -/
def execCtz (e : Fin 49) (rd rs : Fin 32) (s : State) : Host.Outcome State Fault Refusal :=
  .next (s.on (fun d => d.alu e rd (zCtz (d.greg e rs))))

/-- POPC (R453). -/
def execPopc (e : Fin 49) (rd rs : Fin 32) (s : State) : Host.Outcome State Fault Refusal :=
  .next (s.on (fun d => d.alu e rd (zPopc (d.greg e rs))))

/-- BSWAP16 (R453). -/
def execBswap16 (e : Fin 49) (rd rs : Fin 32) (s : State) : Host.Outcome State Fault Refusal :=
  .next (s.on (fun d => d.alu e rd (zBswap16 (d.greg e rs))))

/-- BSWAP32 (R453). -/
def execBswap32 (e : Fin 49) (rd rs : Fin 32) (s : State) : Host.Outcome State Fault Refusal :=
  .next (s.on (fun d => d.alu e rd (zBswap32 (d.greg e rs))))

/-- BREV8 (R453). -/
def execBrev8 (e : Fin 49) (rd rs : Fin 32) (s : State) : Host.Outcome State Fault Refusal :=
  .next (s.on (fun d => d.alu e rd (zBrev8 (d.greg e rs))))

/-- SOPEN (R454). -/
def execSopen (e : Fin 49) (rs rt : Fin 32) (s : State) : Host.Outcome State Fault Refusal :=
  .next (s.on (fun d => d.issue e false (.next (d.sopen e rs rt))))

/-- SPOS (R454). -/
def execSpos (e : Fin 49) (rd : Fin 32) (s : State) : Host.Outcome State Fault Refusal :=
  .next (s.on (fun d => d.alu e rd { v := (d.engine e).stream.addr * 8 + (d.engine e).stream.off }))

/-- TSNOW (R455). -/
def execTsnow (e : Fin 49) (rd : Fin 32) (n : Fin 8) (s : State) : Host.Outcome State Fault Refusal :=
  .next (s.on (fun d => d.issue e false (.next (d.tsLatch e rd n ((d.tb n).val / 2 ^ 16)))))

/-- TSEDGE (R455). -/
def execTsedge (e : Fin 49) (rd : Fin 32) (s : State) : Host.Outcome State Fault Refusal :=
  .next (s.on (fun d => d.issue e false (.next (d.tsLatch e rd d.strideTb (d.edgeNs d.stride.last * 2 ^ 16)))))

/-- TSHI (R455). -/
def execTshi (e : Fin 49) (rd : Fin 32) (s : State) : Host.Outcome State Fault Refusal :=
  .next (s.on (fun d => d.alu e rd { v := (d.engine e).latch.ns / 2 ^ 40 }))

/-- TSFRAC (R455). -/
def execTsfrac (e : Fin 49) (rd : Fin 32) (s : State) : Host.Outcome State Fault Refusal :=
  .next (s.on (fun d => d.alu e rd { v := latchFrac (d.engine e).latch }))

/-- TSWAIT (R455). -/
def execTswait (e : Fin 49) (rs : Fin 32) (n : Fin 8) (s : State) : Host.Outcome State Fault Refusal :=
  .next (s.on (fun d => d.tsWait e n (d.greg e rs)))

/-- TSWAIT_DONE (R455). -/
def execTswaitDone (e : Fin 49) (s : State) : Host.Outcome State Fault Refusal :=
  .next (s.on (fun d => d.tsWaitDone e))

end Sys2Proof.Machine
end

