-- ==== Sys2Proof/Machine/Dispatch.lean ====
section
/-! DEFINITION. The dispatch of commands to their meanings: one arm for each constructor of `Instr`. -/

namespace Sys2Proof.Machine
open Sys2Proof Host

/-- The effect of a command on everything but the queue: one arm for each row of the table. -/
def exec (i : Instr) (s : State) : Host.Outcome State Fault Refusal :=
  match i with
  | .strideEdge pins => Sys2Proof.Machine.execStrideEdge pins s
  | .strideFence => Sys2Proof.Machine.execStrideFence s
  | .finisher g => Sys2Proof.Machine.execFinisher g s
  | .outputLatch b => Sys2Proof.Machine.execOutputLatch b s
  | .runStart w => Sys2Proof.Machine.execRunStart w s
  | .runStop w => Sys2Proof.Machine.execRunStop w s
  | .strideClrStats w => Sys2Proof.Machine.execStrideClrStats w s
  | .latchPhaseWrite w b v => Sys2Proof.Machine.execLatchPhaseWrite w b v s
  | .lungeUpdate w n => Sys2Proof.Machine.execLungeUpdate w n s
  | .lungeEnable w n => Sys2Proof.Machine.execLungeEnable w n s
  | .lungeDisable w n => Sys2Proof.Machine.execLungeDisable w n s
  | .registerWrite w off size v => Sys2Proof.Machine.execRegisterWrite w off size v s
  | .lowWordRead w off size => Sys2Proof.Machine.execLowWordRead w off size s
  | .loadIncr w n => Sys2Proof.Machine.execLoadIncr w n s
  | .incrApply n => Sys2Proof.Machine.execIncrApply n s
  | .step w n => Sys2Proof.Machine.execStep w n s
  | .stepApply n pins => Sys2Proof.Machine.execStepApply n pins s
  | .set w n => Sys2Proof.Machine.execSet w n s
  | .setLoad n => Sys2Proof.Machine.execSetLoad n s
  | .tbEnable w n => Sys2Proof.Machine.execTbEnable w n s
  | .tbDisable w n => Sys2Proof.Machine.execTbDisable w n s
  | .snap w => Sys2Proof.Machine.execSnap w s
  | .txtsPop w p => Sys2Proof.Machine.execTxtsPop w p s
  | .capMetaRead w c => Sys2Proof.Machine.execCapMetaRead w c s
  | .captureEdge c rising phase => Sys2Proof.Machine.execCaptureEdge c rising phase s
  | .trgEnable w t => Sys2Proof.Machine.execTrgEnable w t s
  | .triggerAssert t => Sys2Proof.Machine.execTriggerAssert t s
  | .triggerDeassert t => Sys2Proof.Machine.execTriggerDeassert t s
  | .rtcLoad w => Sys2Proof.Machine.execRtcLoad w s
  | .syncFromTb w => Sys2Proof.Machine.execSyncFromTb w s
  | .rtcLoadDone => Sys2Proof.Machine.execRtcLoadDone s
  | .vbatLoss osc => Sys2Proof.Machine.execVbatLoss osc s
  | .launchTimeReached p => Sys2Proof.Machine.execLaunchTimeReached p s
  | .imgCommit w r v => Sys2Proof.Machine.execImgCommit w r v s
  | .engCommit e v => Sys2Proof.Machine.execEngCommit e v s
  | .mappingRuleRun n => Sys2Proof.Machine.execMappingRuleRun n s
  | .mappingCellDelivery dst => Sys2Proof.Machine.execMappingCellDelivery dst s
  | .orchardAccess a other upset => Sys2Proof.Machine.execOrchardAccess a other upset s
  | .engineMemoryWrite w e off bytes => Sys2Proof.Machine.execEngineMemoryWrite w e off bytes s
  | .scrub n upset => Sys2Proof.Machine.execScrub n upset s
  | .bankHandover w n v => Sys2Proof.Machine.execBankHandover w n v s
  | .bankPower w n v => Sys2Proof.Machine.execBankPower w n v s
  | .bankPowerDone n => Sys2Proof.Machine.execBankPowerDone n s
  | .bankRetentionEnter n => Sys2Proof.Machine.execBankRetentionEnter n s
  | .bankRetentionExit n => Sys2Proof.Machine.execBankRetentionExit n s
  | .orchClrCnt w => Sys2Proof.Machine.execOrchClrCnt w s
  | .frameReceive p kind bytes err phase => Sys2Proof.Machine.execFrameReceive p kind bytes err phase s
  | .frameStartEgress j upset => Sys2Proof.Machine.execFrameStartEgress j s upset
  | .underrun j sent => Sys2Proof.Machine.execUnderrun j sent s
  | .frameTransmit p phase => Sys2Proof.Machine.execFrameTransmit p s phase
  | .f38FrameDelivery => Sys2Proof.Machine.execF38FrameDelivery s
  | .swmHtxTail w v => Sys2Proof.Machine.execSwmHtxTail w v s
  | .hostTxDone => Sys2Proof.Machine.execHostTxDone s
  | .swmRingStop w rx => Sys2Proof.Machine.execSwmRingStop w rx s
  | .swClrCnt w => Sys2Proof.Machine.execSwClrCnt w s
  | .portEnable w p => Sys2Proof.Machine.execPortEnable w p s
  | .linkUp p speed an => Sys2Proof.Machine.execLinkUp p speed an s
  | .linkLoss p fail => Sys2Proof.Machine.execLinkLoss p fail s
  | .anRestart w p => Sys2Proof.Machine.execAnRestart w p s
  | .portClrCnt w p => Sys2Proof.Machine.execPortClrCnt w p s
  | .diagStart w p => Sys2Proof.Machine.execDiagStart w p s
  | .diagDone p a b => Sys2Proof.Machine.execDiagDone p a b s
  | .mdioGo w v => Sys2Proof.Machine.execMdioGo w v s
  | .mdioDone data => Sys2Proof.Machine.execMdioDone data s
  | .gateEnable w p on => Sys2Proof.Machine.execGateEnable w p on s
  | .gateArm w p => Sys2Proof.Machine.execGateArm w p s
  | .gateListSwitch p => Sys2Proof.Machine.execGateListSwitch p s
  | .gateEntryAdvance p => Sys2Proof.Machine.execGateEntryAdvance p s
  | .gclDataWrite w p v => Sys2Proof.Machine.execGclDataWrite w p v s
  | .lpiEntry p => Sys2Proof.Machine.execLpiEntry p s
  | .lpiExit p => Sys2Proof.Machine.execLpiExit p s
  | .redEntryForget k => Sys2Proof.Machine.execRedEntryForget k s
  | .streamReset n => Sys2Proof.Machine.execStreamReset n s
  | .rideFrame p bytes take last err phase => Sys2Proof.Machine.execRideFrame p bytes take last err s phase
  | .rideLen e v => Sys2Proof.Machine.execRideLen e v s
  | .dlyReqSend p phase => Sys2Proof.Machine.execDlyReqSend p phase s
  | .dlyReq p node sq phase gap phase3 => Sys2Proof.Machine.execDlyReq p node sq phase gap phase3 s
  | .dlyT2 p v => Sys2Proof.Machine.execDlyT2 p v s
  | .dlyT3 p v phase => Sys2Proof.Machine.execDlyT3 p v phase s
  | .slotEcho p v => Sys2Proof.Machine.execSlotEcho p v s
  | .tableHash p v => Sys2Proof.Machine.execTableHash p v s
  | .tableHashSend => Sys2Proof.Machine.execTableHashSend s
  | .slotLaunch down slot => Sys2Proof.Machine.execSlotLaunch down slot s
  | .startupSend => Sys2Proof.Machine.execStartupSend s
  | .harnessFrameReceive p bytes arrival => Sys2Proof.Machine.execHarnessFrameReceive p bytes arrival s
  | .relayClose slot => Sys2Proof.Machine.execRelayClose slot s
  | .slotEchoSend slot => Sys2Proof.Machine.execSlotEchoSend slot s
  | .listenTimeout => Sys2Proof.Machine.execListenTimeout s
  | .startupArbitration => Sys2Proof.Machine.execStartupArbitration s
  | .hnEnable w v => Sys2Proof.Machine.execHnEnable w v s
  | .cmdFragment p => Sys2Proof.Machine.execCmdFragment p s
  | .forwardedReply p => Sys2Proof.Machine.execForwardedReply p s
  | .forwardTimeout id => Sys2Proof.Machine.execForwardTimeout id s
  | .canModeWrite w c mode => Sys2Proof.Machine.execCanModeWrite w c mode s
  | .canModeChange c => Sys2Proof.Machine.execCanModeChange c s
  | .canRecover w c => Sys2Proof.Machine.execCanRecover w c s
  | .busOffRecovery c => Sys2Proof.Machine.execBusOffRecovery c s
  | .canClrCnt w c => Sys2Proof.Machine.execCanClrCnt w c s
  | .txbReq w c n => Sys2Proof.Machine.execTxbReq w c n s
  | .txbAbort w c n => Sys2Proof.Machine.execTxbAbort w c n s
  | .canTxChoice c => Sys2Proof.Machine.execCanTxChoice c s
  | .canTxEnd c result ago tdcv => Sys2Proof.Machine.execCanTxEnd c result ago tdcv s
  | .canFrameReceive c f ago => Sys2Proof.Machine.execCanFrameReceive c f ago s
  | .canRxStore c => Sys2Proof.Machine.execCanRxStore c s
  | .canError c kind transmitter heavy inFrame => Sys2Proof.Machine.execCanError c kind transmitter heavy inFrame s
  | .serEnable w n on => Sys2Proof.Machine.execSerEnable w n on s
  | .flushTx w n => Sys2Proof.Machine.execFlushTx w n s
  | .serClrCnt w n => Sys2Proof.Machine.execSerClrCnt w n s
  | .serTxdata w n v => Sys2Proof.Machine.execSerTxdata w n v s
  | .serTxStart n => Sys2Proof.Machine.execSerTxStart n s
  | .serTxEnd n => Sys2Proof.Machine.execSerTxEnd n s
  | .txUnderrun n => Sys2Proof.Machine.execTxUnderrun n s
  | .serCharReceive n b parityErr frameErr gap ago => Sys2Proof.Machine.execSerCharReceive n b parityErr frameErr gap ago s
  | .serFrameEnd n => Sys2Proof.Machine.execSerFrameEnd n s
  | .serRxstatPop w n => Sys2Proof.Machine.execSerRxstatPop w n s
  | .engDone e => Sys2Proof.Machine.execEngDone e s
  | .engWait e rd sx => Sys2Proof.Machine.execEngWait e rd sx s
  | .waitWake e => Sys2Proof.Machine.execWaitWake e s
  | .waitLimitExpiry e => Sys2Proof.Machine.execWaitLimitExpiry e s
  | .engTxTail e v => Sys2Proof.Machine.execEngTxTail e v s
  | .txEntryFinish t => Sys2Proof.Machine.execTxEntryFinish t s
  | .rxEntryWrite t => Sys2Proof.Machine.execRxEntryWrite t s
  | .halt w e => Sys2Proof.Machine.execHalt w e s
  | .restart w e => Sys2Proof.Machine.execRestart w e s
  | .engClrStats w e => Sys2Proof.Machine.execEngClrStats w e s
  | .bridleFault => Sys2Proof.Machine.execBridleFault s
  | .bridleRestartDone => Sys2Proof.Machine.execBridleRestartDone s
  | .add e rd rs rt => Sys2Proof.Machine.execAdd e rd rs rt s
  | .sub e rd rs rt => Sys2Proof.Machine.execSub e rd rs rt s
  | .adds e rd rs rt => Sys2Proof.Machine.execAdds e rd rs rt s
  | .subs e rd rs rt => Sys2Proof.Machine.execSubs e rd rs rt s
  | .and e rd rs rt => Sys2Proof.Machine.execAnd e rd rs rt s
  | .or e rd rs rt => Sys2Proof.Machine.execOr e rd rs rt s
  | .xor e rd rs rt => Sys2Proof.Machine.execXor e rd rs rt s
  | .nor e rd rs rt => Sys2Proof.Machine.execNor e rd rs rt s
  | .neg e rd rs => Sys2Proof.Machine.execNeg e rd rs s
  | .abs e rd rs => Sys2Proof.Machine.execAbs e rd rs s
  | .min e rd rs rt => Sys2Proof.Machine.execMin e rd rs rt s
  | .max e rd rs rt => Sys2Proof.Machine.execMax e rd rs rt s
  | .minu e rd rs rt => Sys2Proof.Machine.execMinu e rd rs rt s
  | .maxu e rd rs rt => Sys2Proof.Machine.execMaxu e rd rs rt s
  | .clt e rd rs rt => Sys2Proof.Machine.execClt e rd rs rt s
  | .cltu e rd rs rt => Sys2Proof.Machine.execCltu e rd rs rt s
  | .ceq e rd rs rt => Sys2Proof.Machine.execCeq e rd rs rt s
  | .cne e rd rs rt => Sys2Proof.Machine.execCne e rd rs rt s
  | .cle e rd rs rt => Sys2Proof.Machine.execCle e rd rs rt s
  | .cleu e rd rs rt => Sys2Proof.Machine.execCleu e rd rs rt s
  | .sext8 e rd rs => Sys2Proof.Machine.execSext8 e rd rs s
  | .sext16 e rd rs => Sys2Proof.Machine.execSext16 e rd rs s
  | .sext32 e rd rs => Sys2Proof.Machine.execSext32 e rd rs s
  | .zext32 e rd rs => Sys2Proof.Machine.execZext32 e rd rs s
  | .sll e rd rs rt => Sys2Proof.Machine.execSll e rd rs rt s
  | .srl e rd rs rt => Sys2Proof.Machine.execSrl e rd rs rt s
  | .sra e rd rs rt => Sys2Proof.Machine.execSra e rd rs rt s
  | .rol e rd rs rt => Sys2Proof.Machine.execRol e rd rs rt s
  | .ror e rd rs rt => Sys2Proof.Machine.execRor e rd rs rt s
  | .slli e rd rs count => Sys2Proof.Machine.execSlli e rd rs count s
  | .srli e rd rs count => Sys2Proof.Machine.execSrli e rd rs count s
  | .srai e rd rs count => Sys2Proof.Machine.execSrai e rd rs count s
  | .roli e rd rs count => Sys2Proof.Machine.execRoli e rd rs count s
  | .rori e rd rs count => Sys2Proof.Machine.execRori e rd rs count s
  | .mul e rd rs rt => Sys2Proof.Machine.execMul e rd rs rt s
  | .mulh e rd rs rt => Sys2Proof.Machine.execMulh e rd rs rt s
  | .mulhu e rd rs rt => Sys2Proof.Machine.execMulhu e rd rs rt s
  | .muls e rd rs rt => Sys2Proof.Machine.execMuls e rd rs rt s
  | .mac e rd rs rt => Sys2Proof.Machine.execMac e rd rs rt s
  | .macs e rd rs rt => Sys2Proof.Machine.execMacs e rd rs rt s
  | .mac16 e rd rs rt => Sys2Proof.Machine.execMac16 e rd rs rt s
  | .macs16 e rd rs rt => Sys2Proof.Machine.execMacs16 e rd rs rt s
  | .div e rd rs rt => Sys2Proof.Machine.execDiv e rd rs rt s
  | .divu e rd rs rt => Sys2Proof.Machine.execDivu e rd rs rt s
  | .rem e rd rs rt => Sys2Proof.Machine.execRem e rd rs rt s
  | .remu e rd rs rt => Sys2Proof.Machine.execRemu e rd rs rt s
  | .jr e rs => Sys2Proof.Machine.execJr e rs s
  | .jalr e rd rs => Sys2Proof.Machine.execJalr e rd rs s
  | .sync e => Sys2Proof.Machine.execSync e s
  | .addi e rd rs imm => Sys2Proof.Machine.execAddi e rd rs imm s
  | .addis e rd rs imm => Sys2Proof.Machine.execAddis e rd rs imm s
  | .andi e rd rs imm => Sys2Proof.Machine.execAndi e rd rs imm s
  | .ori e rd rs imm => Sys2Proof.Machine.execOri e rd rs imm s
  | .xori e rd rs imm => Sys2Proof.Machine.execXori e rd rs imm s
  | .clti e rd rs imm => Sys2Proof.Machine.execClti e rd rs imm s
  | .cltiu e rd rs imm => Sys2Proof.Machine.execCltiu e rd rs imm s
  | .ceqi e rd rs imm => Sys2Proof.Machine.execCeqi e rd rs imm s
  | .movh e rd imm => Sys2Proof.Machine.execMovh e rd imm s
  | .topi e rd rs imm => Sys2Proof.Machine.execTopi e rd rs imm s
  | .lb e rd rs imm => Sys2Proof.Machine.execLb e rd rs imm s
  | .lbu e rd rs imm => Sys2Proof.Machine.execLbu e rd rs imm s
  | .lh e rd rs imm => Sys2Proof.Machine.execLh e rd rs imm s
  | .lhu e rd rs imm => Sys2Proof.Machine.execLhu e rd rs imm s
  | .lw e rd rs imm => Sys2Proof.Machine.execLw e rd rs imm s
  | .lwu e rd rs imm => Sys2Proof.Machine.execLwu e rd rs imm s
  | .ld e rd rs imm => Sys2Proof.Machine.execLd e rd rs imm s
  | .sb e rt rs imm bad => Sys2Proof.Machine.execSb e rt rs imm s bad
  | .sh e rt rs imm bad => Sys2Proof.Machine.execSh e rt rs imm s bad
  | .sw e rt rs imm bad => Sys2Proof.Machine.execSw e rt rs imm s bad
  | .sd e rt rs imm bad => Sys2Proof.Machine.execSd e rt rs imm s bad
  | .bez e rs off => Sys2Proof.Machine.execBez e rs off s
  | .bnz e rs off => Sys2Proof.Machine.execBnz e rs off s
  | .jal e rd off => Sys2Proof.Machine.execJal e rd off s
  | .crcb e poly rd rs => Sys2Proof.Machine.execCrcb e poly rd rs s
  | .crch e poly rd rs => Sys2Proof.Machine.execCrch e poly rd rs s
  | .crcw e poly rd rs => Sys2Proof.Machine.execCrcw e poly rd rs s
  | .crcn e poly rd rs rt => Sys2Proof.Machine.execCrcn e poly rd rs rt s
  | .crcm e poly rd rs rt => Sys2Proof.Machine.execCrcm e poly rd rs rt s
  | .extu e rd rs rt => Sys2Proof.Machine.execExtu e rd rs rt s
  | .exts e rd rs rt => Sys2Proof.Machine.execExts e rd rs rt s
  | .ins e rd rs rt => Sys2Proof.Machine.execIns e rd rs rt s
  | .clz e rd rs => Sys2Proof.Machine.execClz e rd rs s
  | .ctz e rd rs => Sys2Proof.Machine.execCtz e rd rs s
  | .popc e rd rs => Sys2Proof.Machine.execPopc e rd rs s
  | .bswap16 e rd rs => Sys2Proof.Machine.execBswap16 e rd rs s
  | .bswap32 e rd rs => Sys2Proof.Machine.execBswap32 e rd rs s
  | .brev8 e rd rs => Sys2Proof.Machine.execBrev8 e rd rs s
  | .sopen e rs rt => Sys2Proof.Machine.execSopen e rs rt s
  | .sget e rd rt => Sys2Proof.Machine.execSget e rd rt s
  | .sgets e rd rt => Sys2Proof.Machine.execSgets e rd rt s
  | .sput e rs rt => Sys2Proof.Machine.execSput e rs rt s
  | .spos e rd => Sys2Proof.Machine.execSpos e rd s
  | .tsnow e rd n => Sys2Proof.Machine.execTsnow e rd n s
  | .tsedge e rd => Sys2Proof.Machine.execTsedge e rd s
  | .tshi e rd => Sys2Proof.Machine.execTshi e rd s
  | .tsfrac e rd => Sys2Proof.Machine.execTsfrac e rd s
  | .tswait e rs n => Sys2Proof.Machine.execTswait e rs n s
  | .tswaitDone e => Sys2Proof.Machine.execTswaitDone e s
  | .sgrun e rs rt => Sys2Proof.Machine.execSgrun e rs rt s
  | .sgwait e rd => Sys2Proof.Machine.execSgwait e rd s
  | .sgstat e rd => Sys2Proof.Machine.execSgstat e rd s
  | .moverCopy e => Sys2Proof.Machine.execMoverCopy e s
  | .moverConvert e => Sys2Proof.Machine.execMoverConvert e s
  | .moverSend e => Sys2Proof.Machine.execMoverSend e s
  | .moverCommit e => Sys2Proof.Machine.execMoverCommit e s
  | .moverListStop e => Sys2Proof.Machine.execMoverListStop e s
  | .shainit e => Sys2Proof.Machine.execShainit e s
  | .shablk e rs => Sys2Proof.Machine.execShablk e rs s
  | .shard e rd k => Sys2Proof.Machine.execShard e rd k s
  | .idle m => Sys2Proof.Machine.execIdle m s
  | .send m at' lane n => Sys2Proof.Machine.execSend m at' lane n s
  | .take m at' lane n lv => Sys2Proof.Machine.execTake m at' lane n lv s
  | .drive m at' lane value => Sys2Proof.Machine.execDrive m at' lane value s
  | .enable m lane all mask => Sys2Proof.Machine.execEnable m lane all mask s
  | .time m mode imm => Sys2Proof.Machine.execTime m mode imm s
  | .wait m mode arg lv => Sys2Proof.Machine.execWait m mode arg lv s
  | .copy m dst src lv => Sys2Proof.Machine.execCopy m dst src lv s
  | .close m mark => Sys2Proof.Machine.execClose m mark s
  | .note m => Sys2Proof.Machine.execNote m s
  | .stirrupWaitDone m lv => Sys2Proof.Machine.execStirrupWaitDone m lv s
  | .atAction m lv => Sys2Proof.Machine.execAtAction m lv s
  | .stallResume m => Sys2Proof.Machine.execStallResume m s
  | .machineStart w m => Sys2Proof.Machine.execMachineStart w m s
  | .machineStop w m => Sys2Proof.Machine.execMachineStop w m s
  | .stirTxdata w m v => Sys2Proof.Machine.execStirTxdata w m v s
  | .stirRxdata w m => Sys2Proof.Machine.execStirRxdata w m s
  | .stirProg w b k v => Sys2Proof.Machine.execStirProg w b k v s
  | .pnWr w n v => Sys2Proof.Machine.execPnWr w n v s
  | .pnRd w n size => Sys2Proof.Machine.execPnRd w n size s
  | .pnFlush w n => Sys2Proof.Machine.execPnFlush w n s
  | .pnCfgWrite w n v => Sys2Proof.Machine.execPnCfgWrite w n v s
  | .resyncDone n => Sys2Proof.Machine.execResyncDone n s
  | .evCfgWrite w k v => Sys2Proof.Machine.execEvCfgWrite w k v s
  | .evClrCnt w => Sys2Proof.Machine.execEvClrCnt w s
  | .tempSample t => Sys2Proof.Machine.execTempSample t s
  | .referenceLoss r => Sys2Proof.Machine.execReferenceLoss r s
  | .referenceReturn r => Sys2Proof.Machine.execReferenceReturn r s
  | .powerOnReset => Sys2Proof.Machine.execPowerOnReset s
  | .warmReset => Sys2Proof.Machine.execWarmReset s
  | .testEnHigh => Sys2Proof.Machine.execTestEnHigh s
  | .startup strap upset => Sys2Proof.Machine.execStartup strap s upset
  | .pcieReset => Sys2Proof.Machine.execPcieReset s
  | .qspiRead addr n ready => Sys2Proof.Machine.execQspiRead addr n ready s
  | .qspiWrite addr words => Sys2Proof.Machine.execQspiWrite addr words s
  | .qspiStatus => Sys2Proof.Machine.execQspiStatus s
  | .qspiReset => Sys2Proof.Machine.execQspiReset s
  | .mbPost w n d v => Sys2Proof.Machine.execMbPost w n d v s
  | .mbAck w n d v => Sys2Proof.Machine.execMbAck w n d v s
  | .mbWithdraw w n d v => Sys2Proof.Machine.execMbWithdraw w n d v s
  | .mbTimeout n d => Sys2Proof.Machine.execMbTimeout n d s
  | .bridleRound => Sys2Proof.Machine.execBridleRound s
  | .keepAliveExpiry => Sys2Proof.Machine.execKeepAliveExpiry s
  | .getInfo r => Sys2Proof.Machine.execGetInfo r s
  | .getStatus r => Sys2Proof.Machine.execGetStatus r s
  | .readReg r => Sys2Proof.Machine.execReadReg r s
  | .writeReg r => Sys2Proof.Machine.execWriteReg r s
  | .readMem r => Sys2Proof.Machine.execReadMem r s
  | .writeMem r => Sys2Proof.Machine.execWriteMem r s
  | .reset r => Sys2Proof.Machine.execReset r s
  | .getEvents r => Sys2Proof.Machine.execGetEvents r s
  | .clearEvents r => Sys2Proof.Machine.execClearEvents r s
  | .claimOwner r => Sys2Proof.Machine.execClaimOwner r s
  | .releaseOwner r => Sys2Proof.Machine.execReleaseOwner r s
  | .handoverOwner r => Sys2Proof.Machine.execHandoverOwner r s
  | .keepAlive r => Sys2Proof.Machine.execKeepAlive r s
  | .setOwnerTimeout r => Sys2Proof.Machine.execSetOwnerTimeout r s
  | .getOwner r => Sys2Proof.Machine.execGetOwner r s
  | .getBanks r => Sys2Proof.Machine.execGetBanks r s
  | .setBankOwner r => Sys2Proof.Machine.execSetBankOwner r s
  | .setBankPower r => Sys2Proof.Machine.execSetBankPower r s
  | .getFaultLogs r => Sys2Proof.Machine.execGetFaultLogs r s
  | .setScrub r => Sys2Proof.Machine.execSetScrub r s
  | .getEngine r => Sys2Proof.Machine.execGetEngine r s
  | .haltEngine r => Sys2Proof.Machine.execHaltEngine r s
  | .restartEngine r => Sys2Proof.Machine.execRestartEngine r s
  | .getTeam r => Sys2Proof.Machine.execGetTeam r s
  | .getBridle r => Sys2Proof.Machine.execGetBridle r s
  | .getSwitch r => Sys2Proof.Machine.execGetSwitch r s
  | .getSwitchPort r => Sys2Proof.Machine.execGetSwitchPort r s
  | .getSlices r => Sys2Proof.Machine.execGetSlices r s
  | .clearSwitchCounters r => Sys2Proof.Machine.execClearSwitchCounters r s
  | .setMirror r => Sys2Proof.Machine.execSetMirror r s
  | .getTime r => Sys2Proof.Machine.execGetTime r s
  | .adjustTime r => Sys2Proof.Machine.execAdjustTime r s
  | .getStride r => Sys2Proof.Machine.execGetStride r s
  | .strideRun r => Sys2Proof.Machine.execStrideRun r s
  | .setLunge r => Sys2Proof.Machine.execSetLunge r s
  | .setLatchPhase r => Sys2Proof.Machine.execSetLatchPhase r s
  | .getLunge r => Sys2Proof.Machine.execGetLunge r s
  | .getPort r => Sys2Proof.Machine.execGetPort r s
  | .getPortCounters r => Sys2Proof.Machine.execGetPortCounters r s
  | .setPortEnable r => Sys2Proof.Machine.execSetPortEnable r s
  | .cableTest r => Sys2Proof.Machine.execCableTest r s
  | .getInstances r => Sys2Proof.Machine.execGetInstances r s
  | .holdInstance r => Sys2Proof.Machine.execHoldInstance r s
  | .updateBegin r => Sys2Proof.Machine.execUpdateBegin r s
  | .updateData r => Sys2Proof.Machine.execUpdateData r s
  | .updateVerify r => Sys2Proof.Machine.execUpdateVerify r s
  | .updateActivate r => Sys2Proof.Machine.execUpdateActivate r s
  | .activationSwap => Sys2Proof.Machine.execActivationSwap s
  | .updateAbort r => Sys2Proof.Machine.execUpdateAbort r s
  | .updateStatus r => Sys2Proof.Machine.execUpdateStatus r s
  | .getCert r => Sys2Proof.Machine.execGetCert r s
  | .attest r => Sys2Proof.Machine.execAttest r s
  | .setLifecycle r => Sys2Proof.Machine.execSetLifecycle r s
  | .setCustomerRoot r => Sys2Proof.Machine.execSetCustomerRoot r s
  | .getPower r => Sys2Proof.Machine.execGetPower r s
  | .setDomain r => Sys2Proof.Machine.execSetDomain r s
  | .sleepRequest r => Sys2Proof.Machine.execSleepRequest r s
  | .setSleepConsent r => Sys2Proof.Machine.execSetSleepConsent r s
  | .getHarness r => Sys2Proof.Machine.execGetHarness r s
  | .getLane r => Sys2Proof.Machine.execGetLane r s
  | .selectUplink r => Sys2Proof.Machine.execSelectUplink r s
  | .ping r => Sys2Proof.Machine.execPing r s
  | .setForwardTimeout r => Sys2Proof.Machine.execSetForwardTimeout r s
  | .domainRequest w d v => Sys2Proof.Machine.execDomainRequest w d v s
  | .domainTransitionDone d => Sys2Proof.Machine.execDomainTransitionDone d s
  | .dozeWake t => Sys2Proof.Machine.execDozeWake t s
  | .token k lane m => Sys2Proof.Machine.execToken k lane m s
  | .consent lane m => Sys2Proof.Machine.execConsent lane m s
  | .refuse k lane m => Sys2Proof.Machine.execRefuse k lane m s
  | .visitTimeout k => Sys2Proof.Machine.execVisitTimeout k s
  | .commit k lane round v => Sys2Proof.Machine.execCommit k lane round v s
  | .sleepEntry k => Sys2Proof.Machine.execSleepEntry k s
  | .wakeRequest src k pin => Sys2Proof.Machine.execWakeRequest src k pin s
  | .wake k lane node => Sys2Proof.Machine.execWake k lane node s
  | .wakeTimerExpiry => Sys2Proof.Machine.execWakeTimerExpiry s
  | .slpKickWake w => Sys2Proof.Machine.execSlpKickWake w s
  | .kick w => Sys2Proof.Machine.execKick w s
  | .sleepWatchExpiry => Sys2Proof.Machine.execSleepWatchExpiry s
  | .undefinedOpcode e word ecc => Sys2Proof.Machine.execUndefinedOpcode e word ecc s
  | .unassignedStirrupOp m word => Sys2Proof.Machine.execUnassignedStirrupOp m word s
  | .autoNegotiationFailed p halfOr10 => Sys2Proof.Machine.execAutoNegotiationFailed p halfOr10 s
  | .verifyFail p => Sys2Proof.Machine.execVerifyFail p s
  | .keyGenerationDone => Sys2Proof.Machine.execKeyGenerationDone s
  | .warmCmd => Sys2Proof.Machine.execWarmCmd s

end Sys2Proof.Machine
end

