-- ==== Sys2Proof/Machine/Jtag.lean ====
section
/-! DEFINITION. The balls and the JTAG port (chapter 18): what the device drives on each signal ball (R496, R694, R717, R718), and the TAP of
IEEE 1149.1 with the boundary scan and the limits that the lifecycle sets (R656, R659, R719). The levels at TCK, TMS, TDI and TRST_N are state that no
command changes (log entry 163). -/

namespace Sys2Proof

/-- The length of the TAP's instruction register; the spec gives none. -/
opaque Config.irLength : Nat
/-- The function that the bits of a TAP instruction select; none: bypass. The spec gives no instruction codes. -/
opaque Config.tapFunction : List Bool → Option Machine.TapFn

namespace Machine

/-! ### Balls (R713, R717) -/

/-- The signal balls that the boundary scan covers (R713, R719): all but the LANE, PCIE, PHY, SER_REFCLK and XTAL balls, PHY_REXT, VBAT, and the
balls of the TAP itself. Of RGMII port `j`, `k` counts the balls in the order of R713: 0 to 5 are outputs. -/
inductive Ball where
  | qspiClk | qspiCs | qspiIo (k : Fin 4)
  | por | warm | bootSel (k : Fin 3) | irq (n : Fin 4) | testEn
  | rgmii (j : Fin 2) (k : Fin 12) | mdc | mdio
  | gp (p : Fin 96)
  | canTx (n : Fin 8) | canRx (n : Fin 8)
  | serTx (n : Fin 12) | serRx (n : Fin 12) | serDe (n : Fin 12)
  | trx (n : Fin 16)
deriving DecidableEq, Repr

/-- The boundary chain, in the order of R713 (DESIGN CHOICE, log entry 195: the spec gives no order). -/
def boundaryBalls : List Ball :=
  [.qspiClk, .qspiCs] ++ (List.finRange 4).map .qspiIo ++ [.por, .warm] ++ (List.finRange 3).map .bootSel ++ (List.finRange 4).map .irq ++ [.testEn] ++
  (List.finRange 2).flatMap (fun j => (List.finRange 12).map (.rgmii j)) ++ [.mdc, .mdio] ++ (List.finRange 96).map .gp ++
  (List.finRange 8).flatMap (fun n => [.canTx n, .canRx n]) ++ (List.finRange 12).flatMap (fun n => [.serTx n, .serRx n, .serDe n]) ++
  (List.finRange 16).map .trx

/-- Whether the pins have the states of R717: a device reset is active, or nothing has started the device yet. -/
def Dev.pinsReset (d : Dev) : Bool := !d.coreOn || d.sys.starting

/-- The level that the device drives on a ball while no frame or transaction is on it; none: high impedance, an input, or an open drain released
(R496, R648, R694, R717). With TEST_EN high every output is in high impedance (R718). -/
def Dev.drives (d : Dev) (b : Ball) : Option Bool :=
  if d.sys.test then none else
  match b with
  | .canTx _ => some true
  | .serTx _ => some true
  | .serDe n => some (!d.pinsReset && d.on (R.SER_STATUS_DE n.val))
  | .rgmii _ k => if k.val < 6 then some false else none
  | .mdc => some false
  | .irq n => if !d.pinsReset && d.irqOn n.val then some false else none
  | .gp p => if d.pinsReset then none else d.pinDriven p.val
  | .trx n => if d.pinsReset && !d.pwr.asleep && !d.sys.hot then none else some (!d.pwr.trx.testBit n.val)
  | _ => none

/-- The level at ball number `i` of the chain: what the device drives, else the external level where the state has one, else a free value. -/
def Dev.ballLevel (d : Dev) (i : Nat) (b : Ball) : Bool :=
  (d.drives b).getD (match b with
    | .gp p => d.io.ext.getLsbD p.val
    | .testEn => d.sys.test
    | _ => (Config.freeWord (d.free + i)).getLsbD 0)

/-! ### The TAP (R659, R719) -/

/-- The next state of the controller at a rising edge of TCK (IEEE 1149.1). -/
def tapNext (x : TapState) (tms : Bool) : TapState :=
  match x, tms with
  | .testLogicReset, true => .testLogicReset
  | .testLogicReset, false | .runTest, false | .updateDr, false | .updateIr, false => .runTest
  | .runTest, true | .updateDr, true | .updateIr, true => .selectDr
  | .selectDr, false => .captureDr
  | .selectDr, true => .selectIr
  | .captureDr, false | .shiftDr, false | .exit2Dr, false => .shiftDr
  | .captureDr, true | .shiftDr, true => .exit1Dr
  | .exit1Dr, false | .pauseDr, false => .pauseDr
  | .exit1Dr, true | .exit2Dr, true => .updateDr
  | .pauseDr, true => .exit2Dr
  | .selectIr, false => .captureIr
  | .selectIr, true => .testLogicReset
  | .captureIr, false | .shiftIr, false | .exit2Ir, false => .shiftIr
  | .captureIr, true | .shiftIr, true => .exit1Ir
  | .exit1Ir, false | .pauseIr, false => .pauseIr
  | .exit1Ir, true | .exit2Ir, true => .updateIr
  | .pauseIr, true => .exit2Ir

/-- Whether the lifecycle lets the TAP have a function (R659): 0 MANUFACTURE and 3 DECOMMISSIONED everything, 1 PROVISIONED all but full debug,
2 DEPLOYED the boundary scan alone. -/
def tapAllows (lifecycle : Nat) (f : TapFn) : Bool :=
  match f with
  | .sample | .extest => true
  | .debugUnits => lifecycle != 2
  | .debugFull => lifecycle == 0 || lifecycle == 3

/-- What a key store word reads through JTAG, in every lifecycle state (R656). -/
def tapKeyWord : W32 := 0

/-- The device with its TAP changed. -/
def Dev.withTap (d : Dev) (f : TapSt → TapSt) : Dev := { d with tap := f d.tap }

/-- Bits shifted by one place: the oldest leaves at TDO, TDI enters. -/
def shiftBit (l : List Bool) (tdi : Bool) : List Bool := l.drop 1 ++ [tdi]

/-- The levels of the balls captured by the boundary cells. -/
def Dev.boundaryLevels (d : Dev) : List Bool := ((List.range boundaryBalls.length).zip boundaryBalls).map (fun e => d.ballLevel e.1 e.2)

/-- A rising edge of TCK: the state that ends captures or shifts, the controller moves. -/
def Dev.tapRise (d : Dev) : Dev :=
  let x := d.tap
  let d1 := match x.state with
    | .captureDr => (match x.fn with
      | some .sample | some .extest =>
        { d with free := d.free + boundaryBalls.length }.withTap (fun y => { y with dr := d.boundaryLevels })
      | _ => d.withTap (fun y => { y with dr := [false] }))
    | .shiftDr => d.withTap (fun y => { y with dr := shiftBit y.dr y.tdi })
    | .captureIr => d.withTap (fun y => { y with ir := (true :: List.replicate (Config.irLength - 1) false) })
    | .shiftIr => d.withTap (fun y => { y with ir := shiftBit y.ir y.tdi })
    | _ => d
  d1.withTap (fun y => { y with seen := true, state := tapNext y.state y.tms })

/-- A falling edge of TCK: an update takes place, TDO changes. -/
def Dev.tapFall (d : Dev) : Dev :=
  let x := d.tap
  let d1 := match x.state with
    | .testLogicReset => d.withTap (fun y => { y with fn := none })
    | .updateIr => d.withTap (fun y => { y with fn := (Config.tapFunction y.ir).filter (tapAllows (d.get R.SEC_STATUS_LIFECYCLE)) })
    | .updateDr => (match x.fn with
      | some .sample => d.withTap (fun y => { y with hold := y.dr })
      | some .extest => (d.withTap (fun y => { y with hold := y.dr })).emit (.boundary x.dr)
      | _ => d)
    | _ => d
  d1.withTap (fun y => { y with seen := false, tdo := match y.state with | .shiftDr => y.dr.head? | .shiftIr => y.ir.head? | _ => none })

/-- The TAP at a tick (R719): TRST_N low resets it, an edge of TCK acts. -/
def Dev.tapTick (d : Dev) : Dev :=
  let x := d.tap
  if !x.trstN then d.withTap (fun y => { y with state := .testLogicReset, fn := none, tdo := none, seen := y.tck })
  else if x.tck && !x.seen then d.tapRise
  else if !x.tck && x.seen then d.tapFall
  else d

end Machine

end Sys2Proof
end

