-- ==== Sys2Proof/Machine/Tick.lean ====
section
/-! DEFINITION. The tick of CLK_TIME (chapter 2, R72): what the block does when no command waits (DESIGN CHOICE, log 5). -/

namespace Sys2Proof.Machine
open Sys2Proof

/-- The steps that a write has requested take effect on the next tick (R80). -/
def State.stepsPending (s : State) : State :=
  (List.range 8).foldl (fun (a : State) n => if a.dev.on (R.TB_STATUS_STEP_PEND n) then a.stepApply n a.dev.io.ext else a) s

/-- One tick of 2 ns: time passes, what writes have requested takes effect, increments and loads first (R76, R79, R80, R82), a snapshot is
taken (R113), the fabric runs its slots, the gates of every external port show their state (R238), and the stores of lockstep pairs
that have waited for 3 cycles are performed (R403); no other requester takes a system-path cycle, so queued write-backs are done (R469). An edge of TCK acts on the TAP
(R719). -/
def State.tick (s : State) : State :=
  let s1 := ((s.on (fun d => d.tickOnce)).stepsPending).on (fun d =>
    (List.range 26).foldl (fun (a : Dev) p => a.gateRefresh p) d.tapTick.writeBacks.snapTick.fabSync)
  s1.lsUntil s1.dev.now

end Sys2Proof.Machine
end

