-- ==== Sys2Proof/Safety.lean ====
section
/-! DEFINITION. What counts as a safe state: the invariants that the statements use, and a run of several steps. -/

namespace Sys2Proof.Safety
open Sys2Proof Sys2Proof.Machine

/-- The memories are in their canonical form. -/
abbrev MemOk (s : State) : Prop := Memory.wf s.mem = true

/-- The keys of a table rise strictly from a bound. -/
def keysFrom {α : Type} : Nat → Tab α → Bool
  | _, [] => true
  | lo, (k, _) :: r => decide (lo ≤ k) && keysFrom (k + 1) r

/-- The register file is in its canonical form. -/
abbrev RegsOk (s : State) : Prop := keysFrom 0 s.dev.regs = true

/-- The 64 KiB block of BAR0 that a field lies in (R15). -/
def block (f : Fld) : Nat := f.key / 0x200000

/-- From `s` to `t` the memories, the queue and every register outside a list keep their values. -/
def KeepsRegs (fs : List Fld) (s t : State) : Prop :=
  t.mem = s.mem ∧ t.pending = s.pending ∧ ∀ g : Fld, (∀ f ∈ fs, g.key ≠ f.key) → t.dev.get g = s.dev.get g

/-- Nothing but registers of a list changes. -/
def OnlyRegs (fs : List Fld) (s t : State) : Prop := KeepsRegs fs s t ∧ t.dev = { s.dev with regs := t.dev.regs }

/-- Nothing changes but registers of a list and what an event does: registers of block 0x3, the output, the event lines of engines and the
due wakes (R689, R690). -/
def OnlyRegsEv (fs : List Fld) (s t : State) : Prop :=
  t.mem = s.mem ∧ t.pending = s.pending ∧ (∀ g : Fld, block g ≠ 3 → (∀ f ∈ fs, g.key ≠ f.key) → t.dev.get g = s.dev.get g) ∧
  t.dev = { s.dev with regs := t.dev.regs, out := t.dev.out, eng := t.dev.eng, pwr := t.dev.pwr }

/-- The registers that time itself changes (R72, R76, R79, R104, R113): the calendar clock, the requests of a time base that a tick meets, and
the snapshot. -/
def timeRegs : List Fld :=
  [R.RTC_SEC, R.RTC_SUBSEC] ++ (List.range 8).flatMap (fun n =>
    [R.TB_CTRL_SET n, R.TB_CTRL_LOAD_INCR n, R.TB_STATUS_INCR_PEND n, R.TB_SNAP_LO n, R.TB_SNAP_HI n, R.TB_SNAP_XHI n])

/-- A writer's access to the register of a field is performed (R391, R548, R556, R565). -/
abbrev Grants (s : State) (w : Writer) (f : Fld) : Prop := s.dev.mayWrite w f.addr = true

/-- Core `e` takes its next instruction and goes on after it (R382, R435, R438): it runs, waits in none, follows no leader, can fetch, and no
HALT is pending. -/
abbrev Issues (s : State) (e : Nat) : Prop :=
  s.dev.zReady e = true ∧ s.dev.badFetch e = false ∧ (s.dev.engine e).haltReq = false

/-- Core `e` issues an instruction that is no branch and it retires (R402, R420, R435): g`rd` holds `v`, the other general registers keep
their values, the program counter moves on, OV and DZ are set as said, and the partner of a lockstep pair holds what its leader holds. Nothing
else changes but what an event does (R689). -/
def ZResult (e rd v : Nat) (ov dz : Bool) (s t : State) : Prop :=
  t.mem = s.mem ∧ t.pending = s.pending ∧ t.dev.greg e rd = (if rd = 0 then 0 else v) ∧
  (∀ r, r ≠ rd → t.dev.greg e r = s.dev.greg e r) ∧
  (∀ k, s.dev.partner e = some k → t.dev.pc k = t.dev.pc e ∧ ∀ r, t.dev.greg k r = t.dev.greg e r) ∧
  (∀ k, k ≠ e → s.dev.partner e ≠ some k → ∀ r, t.dev.greg k r = s.dev.greg k r) ∧
  t.dev.pc e = (s.dev.engine e).slot.getD (s.dev.pc e + 4) % 2 ^ 32 ∧ (t.dev.engine e).slot = none ∧
  (e < 48 → t.dev.get (R.ENG_STATUS_OV e) = (if ov then 1 else s.dev.get (R.ENG_STATUS_OV e)) ∧
    t.dev.get (R.ENG_STATUS_DZ e) = (if dz then 1 else s.dev.get (R.ENG_STATUS_DZ e))) ∧
  (∀ g : Fld, block g ≠ 3 → (∀ k, k = e ∨ s.dev.partner e = some k →
      ∀ f ∈ [R.ENG_PC k, R.ENG_STATUS_OV k, R.ENG_STATUS_DZ k, R.ENG_STATUS_STATE k], g.key ≠ f.key) → t.dev.get g = s.dev.get g) ∧
  t.dev = { s.dev with regs := t.dev.regs, eng := t.dev.eng, out := t.dev.out, pwr := t.dev.pwr }

/-- The registers that show Stirrup machine `i` (R527). -/
def machRegs (i : Nat) : List Fld :=
  [R.STIR_MSTATUS_PC (i / 8) (i % 8), R.STIR_MSTATUS_STATE (i / 8) (i % 8), R.STIR_MOE (i / 8) (i % 8), R.STIR_MFILL_XFILL (i / 8) (i % 8),
   R.STIR_MFILL_RFILL (i / 8) (i % 8), R.STIR_MSTATUS_RX_LEVEL (i / 8) (i % 8), R.STIR_TX_LEVEL (i / 8) (i % 8)]

/-- The program counter of machine `i` after an instruction (R511). -/
def machPc (s : State) (i : Nat) : Nat :=
  if (s.dev.mach i).pc = s.dev.get (R.STIR_WRAP_TOP (i / 8) (i % 8)) then s.dev.get (R.STIR_WRAP_BOTTOM (i / 8) (i % 8))
  else ((s.dev.mach i).pc + 1) % 64

/-- The state in which a command packet runs: it has been taken from its port, which counts as a keep-alive of the owner (R552, R554). -/
def taken (s : State) (op : Nat) (r : CmdReq) : State := s.on (fun d => d.takeTask op r)

/-- The Bridle takes a command packet at once: it runs, CORE is on, the packet's port is heard, and no other command is in progress or due
(R548, R559, R594, R682). -/
abbrev Heard (s : State) (r : CmdReq) : Prop :=
  s.dev.coreOn = true ∧ s.dev.deaf r = false ∧ s.dev.get R.BRIDLE_STATUS_STATE = 1 ∧ s.dev.bridle.tasks = [] ∧ s.dev.bridle.restart = false

/-- Such a packet is well formed and for this device alone (R315, R316, R557). -/
abbrev Reaches (s : State) (op : Nat) (r : CmdReq) : Prop :=
  Heard s r ∧ headerCheck (taken s op r).dev r = none ∧ (taken s op r).dev.routeOf r = .here ∧ r.flags.getLsbD 2 = false

/-- Such a packet runs: no check refuses it (R549, R557). -/
abbrev Accepts (s : State) (op : Nat) (r : CmdReq) : Prop := Reaches s op r ∧ runCheck (taken s op r).dev op r = none

/-- The command in progress ends, and its reply goes out on the port on which the request came (R558, R582). -/
def answered (s : State) (op : Nat) (r : CmdReq) (status detail : Nat) (params : List Byte) : State :=
  s.endTask { op := op, req := r } status detail params

/-- From `s`, a command taken in `u` makes `o` the owner (R551 to R553, R580): with no change of owner nothing else happens; a change is counted, raises
CHANGED and starts the keep-alive timer. No other register changes but in the block of events. -/
def OwnerBecomes (o : Option Nat) (s u t : State) : Prop :=
  t.dev.owner = o ∧ t.mem = s.mem ∧ (s.dev.owner = o → t = u) ∧
  (s.dev.owner ≠ o → t.dev.get R.OWN_EVT_CHANGED = 1 ∧ t.dev.host.lapse = s.dev.now + s.dev.get R.OWN_TIMEOUT * 1000000 ∧
    t.dev.get R.OWN_STATUS_CHANGES = (s.dev.get R.OWN_STATUS_CHANGES + 1) % 2 ^ R.OWN_STATUS_CHANGES.width) ∧
  ∀ g : Fld, block g ≠ 3 → (∀ f ∈ [R.OWN_STATUS_OWNED, R.OWN_STATUS_PORT, R.OWN_STATUS_CHANGES, R.OWN_EVT_CHANGED], g.key ≠ f.key) →
    t.dev.get g = s.dev.get g

/-- The command in progress waits for what its reply follows (R590). -/
def waiting (s : State) (op : Nat) (r : CmdReq) (w : CmdWait) : State :=
  s.on (fun d => { d with bridle := { d.bridle with tasks := [{ op := op, req := r, wait := some w }] } })

/-- A command packet with its opcode and category (R591 to R618). -/
def Packet (r : CmdReq) (x : Instr × Nat × Category) : Prop :=
  x ∈ [(.getInfo r, 0x0101, .read), (.getStatus r, 0x0102, .read), (.readReg r, 0x0103, .read), (.writeReg r, 0x0104, .state),
   (.readMem r, 0x0105, .read), (.writeMem r, 0x0106, .state), (.reset r, 0x0107, .state), (.getEvents r, 0x0108, .read),
   (.clearEvents r, 0x0109, .state), (.claimOwner r, 0x0201, .ownership), (.releaseOwner r, 0x0202, .ownership),
   (.handoverOwner r, 0x0203, .ownership), (.keepAlive r, 0x0204, .ownership), (.setOwnerTimeout r, 0x0205, .ownership),
   (.getOwner r, 0x0206, .read), (.getBanks r, 0x0301, .read), (.setBankOwner r, 0x0302, .state), (.setBankPower r, 0x0303, .state),
   (.getFaultLogs r, 0x0304, .read), (.setScrub r, 0x0305, .state), (.getEngine r, 0x0401, .read), (.haltEngine r, 0x0402, .state),
   (.restartEngine r, 0x0403, .state), (.getTeam r, 0x0404, .read), (.getBridle r, 0x0405, .read), (.getSwitch r, 0x0501, .read),
   (.getSwitchPort r, 0x0502, .read), (.getSlices r, 0x0503, .read), (.clearSwitchCounters r, 0x0504, .state),
   (.setMirror r, 0x0505, .diag), (.getTime r, 0x0601, .read), (.adjustTime r, 0x0602, .state), (.getStride r, 0x0603, .read),
   (.strideRun r, 0x0604, .state), (.setLunge r, 0x0605, .state), (.setLatchPhase r, 0x0606, .state), (.getLunge r, 0x0607, .read),
   (.getPort r, 0x0701, .read), (.getPortCounters r, 0x0702, .read), (.setPortEnable r, 0x0703, .state), (.cableTest r, 0x0704, .diag),
   (.getInstances r, 0x0705, .read), (.holdInstance r, 0x0706, .state), (.updateBegin r, 0x0801, .update),
   (.updateData r, 0x0802, .update), (.updateVerify r, 0x0803, .update), (.updateActivate r, 0x0804, .update),
   (.updateAbort r, 0x0805, .update), (.updateStatus r, 0x0806, .update), (.getCert r, 0x0901, .read), (.attest r, 0x0902, .read),
   (.setLifecycle r, 0x0903, .state), (.setCustomerRoot r, 0x0904, .state), (.getPower r, 0x0A01, .read), (.setDomain r, 0x0A02, .state),
   (.sleepRequest r, 0x0A03, .state), (.setSleepConsent r, 0x0A04, .state), (.getHarness r, 0x0B01, .read), (.getLane r, 0x0B02, .read),
   (.selectUplink r, 0x0B03, .state), (.ping r, 0x0B04, .read), (.setForwardTimeout r, 0x0B05, .state)]

/-- A command in progress is refused (R557, R582). -/
def refused (s : State) (op : Nat) (r : CmdReq) (status detail : Nat) : State := s.refuseTask { op := op, req := r } (status, detail)

/-- A step answers a next state: the block never stops. -/
def Runs (s : State) : Prop := ∃ t, step s = .next t

end Sys2Proof.Safety
end

