-- ==== Sys2Proof/Certificates/Slice0/Obligations.lean ====
section
/-! DEFINITION. The statements about the model that the provers prove: one definition of a proposition for each, its docstring saying what it states. -/

open Sys2Proof Sys2Proof.Machine Sys2Proof.Safety

/-- A step carries out the oldest command that waits, on the state with the rest of the queue; while none waits it passes one tick of CLK_TIME (the model's
choice, log entry 5). No word spells a command. -/
def Obligations.StepRunsFront : Prop :=
  (∀ (c : Instr) (rest : List Instr) (s : State), s.pending = c :: rest → step s = exec c { s with pending := rest }) ∧
  (∀ s : State, s.pending = [] → step s = .next s.tick) ∧
  (∀ (nbits w : Nat) (s : State), decodeTableWord nbits w = none ∧ s.withFetchWord nbits w = s)

/-- Every command answers a next state in every state, with the queue as it was: nothing that the block is told stops it. -/
def Obligations.NothingStops : Prop :=
  (∀ (c : Instr) (s : State), ∃ t, exec c s = .next t ∧ t.pending = s.pending) ∧ (∀ s : State, Runs s)

/-- From every state whose memories are in canonical form (addresses rising, no entry that reads as an unlisted one), every step gives such a state. -/
def Obligations.MemoryInvariant : Prop :=
  ∀ s t : State, MemOk s → step s = .next t → MemOk t

/-- After reset every field of every register holds its reset value (those that the tables do not give are the model's choice, log entry 4), no command
waits, no byte of memory is listed (memory without stated contents reads 0, log entry 2), the cause of reset is POR, the device is starting with every
domain on, the stride is stopped, no port owns the device, no activation has been made. -/
def Obligations.ResetState : Prop :=
  (∀ f : Fld, State.reset.dev.get f = f.reset % 2 ^ f.width) ∧ State.reset.pending = [] ∧ State.reset.mem = [] ∧ MemOk State.reset ∧
  State.reset.dev.get R.SYS_RESET_CAUSE = 1 ∧ State.reset.dev.sys.starting = true ∧ State.reset.dev.sys.cold = true ∧ State.reset.dev.owner = none ∧
  State.reset.dev.on R.STRIDE_CTRL_RUN = false ∧ State.reset.dev.upd.active = false ∧ State.reset.dev.out = [] ∧
  (∀ x < 9, State.reset.dev.domain x = 1) ∧ (∀ e < 48, State.reset.dev.engState e = 1) ∧ ∀ v < 16, State.reset.dev.get (R.MSIX_CTRL_MASK v) = 1

/-- A write command of a writer that may not write there has no effect but that of the refusal: an engine's sets WR_DENIED in its status, a port's that is
not DISABLED sets OWN_EVT.WR_DENIED. A port writes when it is the owner, or on its own side of a mailbox; an engine where WR_BLOCKS of its team allows
the block; the Bridle everywhere; while CORE is off nobody, but in network sleep block 0xE. -/
def Obligations.DeniedWrites : Prop :=
  (∀ (w : Writer) (on : Bool) (i12 : Fin 12) (i16 : Fin 16) (i2 : Fin 2) (i256 : Fin 256) (i26 : Fin 26) (i3 : Fin 3) (i32 : Fin 32) (i4 : Fin 4) (i48 : Fin 48) (i64 : Fin 64) (i8 i8b : Fin 8) (i9 : Fin 9) (off size : Nat) (v : W32) (u : W64) (s : State), ∀ x ∈ [
      (Instr.halt w i48, 0xB0000 + i48.val * 0x80), (.restart w i48, 0xB0000 + i48.val * 0x80),
      (.engClrStats w i48, 0xB0000 + i48.val * 0x80), (.canModeWrite w i8 i8b, 0x90000 + i8.val * 0x2000),
      (.canRecover w i8, 0x90000 + i8.val * 0x2000), (.canClrCnt w i8, 0x90000 + i8.val * 0x2000),
      (.txbReq w i8 i3, 0x90000 + i8.val * 0x2000 + 0x418 + i3.val * 0x20),
      (.txbAbort w i8 i3, 0x90000 + i8.val * 0x2000 + 0x418 + i3.val * 0x20), (.serEnable w i12 on, 0xA0000 + i12.val * 0x100),
      (.flushTx w i12, 0xA0000 + i12.val * 0x100), (.serClrCnt w i12, 0xA0000 + i12.val * 0x100),
      (.serTxdata w i12 v, 0xA0000 + i12.val * 0x100 + 0x1C), (.hnEnable w v, 0xDE800),
      (.mbPost w i16 i2 v, 0x20200 + i16.val * 0x1000 + i2.val * 0x40),
      (.mbAck w i16 i2 v, 0x20200 + i16.val * 0x1000 + i2.val * 0x40 + 0x8),
      (.mbWithdraw w i16 i2 v, 0x20200 + i16.val * 0x1000 + i2.val * 0x40 + 0x10), (.imgCommit w i256 v, 0x48014 + i256.val * 0x20),
      (.bankHandover w i64 v, 0x40004 + i64.val * 0x10), (.bankPower w i64 v, 0x40008 + i64.val * 0x10), (.orchClrCnt w, 0x42000),
      (.machineStart w i32, 0x80000 + 0x1000 * (i32.val / 8) + 0x200 + 0x40 * (i32.val % 8)),
      (.machineStop w i32, 0x80000 + 0x1000 * (i32.val / 8) + 0x200 + 0x40 * (i32.val % 8)),
      (.stirTxdata w i32 v, 0x80000 + 0x1000 * (i32.val / 8) + 0x200 + 0x40 * (i32.val % 8) + 0x14),
      (.stirProg w i4 i64 v, 0x80000 + i4.val * 0x1000 + i64.val * 4), (.pnWr w i64 v, 0x70000 + i64.val * 0x20 + 0x10),
      (.pnFlush w i64, 0x70000 + i64.val * 0x20 + 0x4), (.pnCfgWrite w i64 v, 0x70000 + i64.val * 0x20),
      (.portEnable w i26, 0xD0000 + i26.val * 0x800), (.anRestart w i26, 0xD0000 + i26.val * 0x800),
      (.portClrCnt w i26, 0xD0000 + i26.val * 0x800), (.diagStart w i26, 0xD0000 + i26.val * 0x800 + 0xD0), (.mdioGo w v, 0xDF000),
      (.gateEnable w i26 on, 0xD0000 + i26.val * 0x800 + 0x20), (.gateArm w i26, 0xD0000 + i26.val * 0x800 + 0x20),
      (.gclDataWrite w i26 v, 0xD0000 + i26.val * 0x800 + 0x30), (.domainRequest w i9 v, 0xE0000 + i9.val * 4), (.slpKickWake w, 0xE0108),
      (.kick w, 0xE0108), (.runStart w, 0x60000), (.runStop w, 0x60000), (.strideClrStats w, 0x60000),
      (.latchPhaseWrite w i4 v, 0x60200 + i4.val * 4), (.lungeUpdate w i4, 0x60400 + i4.val * 0x40),
      (.lungeEnable w i4, 0x60400 + i4.val * 0x40), (.lungeDisable w i4, 0x60400 + i4.val * 0x40), (.registerWrite w off size u, off),
      (.swmHtxTail w v, 0xC0808), (.swmRingStop w on, if on then 0xC0814 else 0xC0804), (.swClrCnt w, 0xC0000),
      (.evCfgWrite w i256 v, 0x30000 + i256.val * 4), (.evClrCnt w, 0x30440), (.loadIncr w i8, 0x50000 + i8.val * 0x100),
      (.step w i8, 0x50000 + i8.val * 0x100), (.set w i8, 0x50000 + i8.val * 0x100), (.tbEnable w i8, 0x50000 + i8.val * 0x100),
      (.tbDisable w i8, 0x50000 + i8.val * 0x100), (.snap w, 0x50800), (.trgEnable w i8, 0x53000 + i8.val * 0x40), (.rtcLoad w, 0x54000),
      (.syncFromTb w, 0x54000)],
    s.dev.mayWrite w x.2 = false → exec x.1 s = .next (s.on (fun d => d.denied w))) ∧
  (∀ (e : Fin 48) (d : Dev), d.coreOn = true → (d.denied (.engine e)).get (R.ENG_STATUS_WR_DENIED e) = 1 ∧
    ∀ g : Fld, block g ≠ 3 → g.key ≠ (R.ENG_STATUS_WR_DENIED e).key → (d.denied (.engine e)).get g = d.get g) ∧
  (∀ d : Dev, d.denied .bridle = d ∧ (d.coreOn = false → ∀ w, d.denied w = d)) ∧
  (∀ d : Dev, d.coreOn = true → ∀ x ∈ [(Writer.pcie, 0), (.qspi, 1)], (d.get (R.OWN_PORT_CLASS x.2) = 0 → d.denied x.1 = d) ∧
    (d.get (R.OWN_PORT_CLASS x.2) ≠ 0 → (d.denied x.1).get R.OWN_EVT_WR_DENIED = 1 ∧
      ∀ g : Fld, block g ≠ 3 → g.key ≠ R.OWN_EVT_WR_DENIED.key → (d.denied x.1).get g = d.get g)) ∧
  (∀ (d : Dev) (off : Nat) (w : Writer), d.coreOn = false → (d.pwr.asleep = false ∨ d.isHeld = true ∨ off / 0x10000 ≠ 0xE) → d.mayWrite w off = false) ∧
  (∀ (d : Dev) (off : Nat), d.coreOn = true → d.mayWrite .bridle off = true ∧
    (∀ e : Fin 48, d.mayWrite (.engine e) off = (d.get (R.TEAM_CFG_WR_BLOCKS (e / 4))).testBit (off / 0x10000)) ∧
    (off / 0x10000 ≠ 2 → d.mayWrite .pcie off = (d.get (R.OWN_PORT_CLASS 0) != 0 && d.owner == some 0) ∧
      d.mayWrite .qspi off = (d.get (R.OWN_PORT_CLASS 1) != 0 && d.owner == some 1)))

/-- RUN written 1 while it is 0 becomes 1 only when T is at least 2 × G; otherwise RUN stays 0 and CFG_ERR reads GEOMETRY (3), whatever other conditions
fail, as R37 puts it first. EN of a trigger written 1 with WIDTH 0, or with WIDTH not smaller than PERIOD for a periodic trigger, leaves EN at 0 and sets
CFG_REJ of the trigger's time base; otherwise EN is 1. -/
def Obligations.RefusedRunAndTriggers : Prop :=
  (∀ (w : Writer) (s : State), Grants s w R.STRIDE_CTRL_RUN → s.dev.on R.STRIDE_CTRL_RUN = false → ∃ t, exec (.runStart w) s = .next t ∧
    (t.dev.get R.STRIDE_CTRL_RUN = 1 → 2 * s.dev.strideG ≤ s.dev.strideT) ∧
    (s.dev.strideT < 2 * s.dev.strideG → t.dev.get R.STRIDE_CTRL_RUN = 0 ∧ t.dev.get R.STRIDE_STATUS_CFG_ERR = 3)) ∧
  (∀ (w : Writer) (n : Fin 8) (s : State), Grants s w (R.TRG_CTRL_EN n) → s.dev.on (R.TRG_CTRL_EN n) = false → let tb := s.dev.get (R.TRG_CTRL_TB n);
    ∃ t, exec (.trgEnable w n) s = .next t ∧
      ((s.dev.get (R.TRG_WIDTH n) = 0 ∨ (s.dev.on (R.TRG_CTRL_PERIODIC n) = true ∧ s.dev.trgPeriod n ≤ s.dev.get (R.TRG_WIDTH n) * 2 ^ 32)) →
        t.dev.get (R.TRG_CTRL_EN n) = 0 ∧ t.dev.get (R.TB_STATUS_CFG_REJ tb) = 1 ∧ OnlyRegsEv [R.TRG_CTRL_EN n, R.TB_STATUS_CFG_REJ tb] s t) ∧
      (s.dev.get (R.TRG_WIDTH n) ≠ 0 → (s.dev.on (R.TRG_CTRL_PERIODIC n) = true → s.dev.get (R.TRG_WIDTH n) * 2 ^ 32 < s.dev.trgPeriod n) →
        t.dev.get (R.TRG_CTRL_EN n) = 1))

/-- For a write that is performed. RUN = 1 while RUN is 0: with a condition of R37 unmet RUN stays and CFG_ERR reads the first one's code; else
RUN and PENDING are 1, CFG_ERR is 0, the next index is the least n with E(n) at least T after the time base's value, and STRIDE_NEXT shows it.
RUN = 1 while RUN is 1 does nothing; with a stop pending it takes the stop back. RUN = 0 makes the next edge the last. CLR_STATS resets the
skip, slack and overrun counters. LATCH_PHASE takes a phase that meets R48 and otherwise keeps its value and sets CFG_ERR to PHASE (5). -/
def Obligations.StrideControl : Prop :=
  (∀ (w : Writer) (s : State), Grants s w R.STRIDE_CTRL_RUN → s.dev.on R.STRIDE_CTRL_RUN = false → s.dev.runError ≠ 0 →
    ∃ t, exec (.runStart w) s = .next t ∧ t.dev.get R.STRIDE_CTRL_RUN = 0 ∧ t.dev.get R.STRIDE_STATUS_CFG_ERR = s.dev.runError ∧
      OnlyRegs [R.STRIDE_STATUS_CFG_ERR] s t) ∧
  (∀ d : Dev, (d.strideT < 2 * d.strideG → d.runError = 3) ∧
    (2 * d.strideG ≤ d.strideT → d.on R.STRIDE_STATUS_ADMITTED = false → d.runError = 1) ∧
    (2 * d.strideG ≤ d.strideT → d.on R.STRIDE_STATUS_ADMITTED = true → d.on (R.TB_CTRL_EN d.strideTb) = false → d.runError = 4) ∧
    (2 * d.strideG ≤ d.strideT → d.on R.STRIDE_STATUS_ADMITTED = true → d.on (R.TB_CTRL_EN d.strideTb) = true →
      (d.runError = 0 ↔ ∀ b < 4, 0 ≤ toSigned 16 (d.get (R.LATCH_PHASE_PHASE b)) ∨
        -(toSigned 16 (d.get (R.LATCH_PHASE_PHASE b))) + 320 ≤ (d.strideG : Int) * 4) ∧ (d.runError ≠ 0 → d.runError = 5))) ∧
  (∀ (w : Writer) (s : State), Grants s w R.STRIDE_CTRL_RUN → s.dev.on R.STRIDE_CTRL_RUN = false → s.dev.runError = 0 →
    s.dev.stride.stopPend = false → 0 < s.dev.strideT →
    ∃ t, exec (.runStart w) s = .next t ∧ t.dev.get R.STRIDE_CTRL_RUN = 1 ∧ t.dev.get R.STRIDE_STATUS_PENDING = 1 ∧
      t.dev.get R.STRIDE_STATUS_CFG_ERR = 0 ∧
      (s.dev.tb s.dev.strideTb).val % 2 ^ 96 + s.dev.strideT * 2 ^ 32 ≤ s.dev.edgeNs t.dev.stride.next * 2 ^ 32 ∧
      (∀ k, (s.dev.tb s.dev.strideTb).val % 2 ^ 96 + s.dev.strideT * 2 ^ 32 ≤ s.dev.edgeNs k * 2 ^ 32 → t.dev.stride.next ≤ k) ∧
      t.dev.get R.STRIDE_NEXT = s.dev.edgeNs t.dev.stride.next % 2 ^ 64 ∧ t.dev.stride.fenceAt = none ∧
      KeepsRegs [R.STRIDE_CTRL_RUN, R.STRIDE_STATUS_PENDING, R.STRIDE_STATUS_CFG_ERR, R.STRIDE_NEXT] s t ∧
      t.dev = { s.dev with regs := t.dev.regs, stride := t.dev.stride }) ∧
  (∀ (w : Writer) (s : State), Grants s w R.STRIDE_CTRL_RUN → s.dev.on R.STRIDE_CTRL_RUN = true → exec (.runStart w) s = .next s) ∧
  (∀ (w : Writer) (s : State), Grants s w R.STRIDE_CTRL_RUN → s.dev.on R.STRIDE_CTRL_RUN = false → s.dev.runError = 0 →
    s.dev.stride.stopPend = true →
    ∃ t, exec (.runStart w) s = .next t ∧ t.dev.get R.STRIDE_CTRL_RUN = 1 ∧ t.dev.stride = { s.dev.stride with stopPend := false } ∧
      KeepsRegs [R.STRIDE_CTRL_RUN, R.STRIDE_STATUS_CFG_ERR] s t) ∧
  (∀ (w : Writer) (s : State), Grants s w R.STRIDE_CTRL_RUN → s.dev.on R.STRIDE_CTRL_RUN = true →
    ∃ t, exec (.runStop w) s = .next t ∧ t.dev.get R.STRIDE_CTRL_RUN = 0 ∧ t.dev.stride = { s.dev.stride with stopPend := true } ∧
      KeepsRegs [R.STRIDE_CTRL_RUN] s t ∧ t.dev = { s.dev with regs := t.dev.regs, stride := t.dev.stride }) ∧
  (∀ (w : Writer) (s : State), Grants s w R.STRIDE_CTRL_RUN →
    ∃ t, exec (.strideClrStats w) s = .next t ∧ t.dev.get R.STRIDE_SKIP_SKIPPED = 0 ∧ t.dev.get R.STRIDE_MIN_SLACK_MIN_SLACK = 0xFFFFFF ∧
      (∀ g < 4, t.dev.get (R.GAIT_OVR_CNT g) = 0) ∧
      OnlyRegs [R.STRIDE_SKIP_SKIPPED, R.STRIDE_MIN_SLACK_MIN_SLACK, R.GAIT_OVR_CNT 0, R.GAIT_OVR_CNT 1, R.GAIT_OVR_CNT 2, R.GAIT_OVR_CNT 3] s t) ∧
  (∀ (w : Writer) (b : Fin 4) (v : W32) (s : State), Grants s w (R.LATCH_PHASE_PHASE b) → v.toNat < 2 ^ 16 →
    phaseOk v.toNat s.dev.strideG = true →
    ∃ t, exec (.latchPhaseWrite w b v) s = .next t ∧ t.dev.get (R.LATCH_PHASE_PHASE b) = v.toNat ∧ OnlyRegs [R.LATCH_PHASE_PHASE b] s t) ∧
  (∀ (w : Writer) (b : Fin 4) (v : W32) (s : State), Grants s w (R.LATCH_PHASE_PHASE b) → v.toNat < 2 ^ 16 →
    phaseOk v.toNat s.dev.strideG = false →
    ∃ t, exec (.latchPhaseWrite w b v) s = .next t ∧ t.dev.get R.STRIDE_STATUS_CFG_ERR = 5 ∧ OnlyRegs [R.STRIDE_STATUS_CFG_ERR] s t)

/-- While the stride is neither running nor pending an edge, a fence or a finisher does nothing. The stores that lockstep pairs hold have been released by
a fence or an edge; with none held nothing is released. An edge of a live stride acts, after its fence, at E(n), in the order: fence work if its fence was passed over, the finishers that have not run, sampling, the Lunge units, the flip, the stride's
registers, the Harness, the holds, the entry of the engines. The edge leaves INDEX n, the next index n + 1, PENDING 0, RUNNING 0 if a stop was
pending and else 1. A fence acts once per index, at E(n) less the guard. A finisher acts once, after the fence, for a gait with an edge at n. At a
latch instant, the edge plus the phase in force or the end of the reads where that is later, the bindings of a block drive the values read at the
earliest fence that waits. -/
def Obligations.StrideEdges : Prop :=
  (∀ (pins : BitVec 96) (s : State), s.dev.strideLive = false → exec (.strideEdge pins) s = .next s) ∧
  (∀ s : State, (∀ e, (s.dev.engine e).held = []) → s.lsStride = s) ∧
  (∀ (pins : BitVec 96) (s u v : State), s.lsStride.dev.strideLive = true → u = s.lsStride.fence →
    v = u.on (fun d => (d.passStride (d.edgeNs d.stride.next * 2 ^ 32)).withPins pins) →
    exec (.strideEdge pins) s = .next (v.edgeNow u.dev.stride.next (u.dev.edgeNs u.dev.stride.next)
      (v.dev.strideBack (u.dev.edgeNs u.dev.stride.next * 2 ^ 32)) false)) ∧
  (∀ (s : State) (n at' back : Nat) (skip : Bool), s.dev.stride.fenceAt.isSome = true →
    s.edgeNow n at' back skip = (fun s1 : State => ((((s1.edgeSample n).on (fun d => (if s.dev.flipLate n at' then d.set R.STRIDE_STATUS_FLIP_LATE 1 else d).lungesAt n)).flip n).on
        (fun d => (d.handoversNow.edgeDone n back).hnEdge.sleepBlocks)).holdsAt n |>.on (fun d => (List.range 48).foldl (fun (a : Dev) e => a.entryEngine e n skip) d))
      ((s.dev.gaitsAt n).foldl (fun (a : State) g => if a.dev.stride.finished.contains g then a else a.finisher g n a.dev.haltedRegions) s)) ∧
  (∀ (d : Dev) (n back : Nat), (d.edgeDone n back).get R.STRIDE_INDEX = n % 2 ^ 40 ∧ (d.edgeDone n back).get R.STRIDE_STATUS_PENDING = 0 ∧
    (d.edgeDone n back).get R.STRIDE_STATUS_RUNNING = (if d.stride.stopPend then 0 else 1) ∧ (d.edgeDone n back).stride.last = n ∧
    (d.edgeDone n back).stride.next = n + 1 ∧ (d.edgeDone n back).stride.fenceAt = none ∧ (d.edgeDone n back).stride.stopPend = false) ∧
  (∀ s : State, s.dev.strideLive = false → exec .strideFence s = .next s) ∧
  (∀ s : State, s.lsStride.dev.stride.fenceAt.isSome = true → exec .strideFence s = .next s.lsStride) ∧
  (∀ s u : State, u = s.lsStride → u.dev.strideLive = true → u.dev.stride.fenceAt = none →
    exec .strideFence s = .next ((u.on (fun d => d.passStride (d.fenceNs d.stride.next * 2 ^ 32))).fenceNow u.dev.stride.next (u.dev.fenceNs u.dev.stride.next))) ∧
  (∀ (g : Fin 4) (s : State), s.dev.strideLive = true → s.dev.stride.fenceAt.isSome = true → s.dev.gaitEdge g s.dev.stride.next = true →
    s.dev.stride.finished.contains g.val = false →
    exec (.finisher g) s = .next (s.finisher g s.dev.stride.next s.dev.haltedRegions) ∧
    (s.finisher g s.dev.stride.next s.dev.haltedRegions).dev.stride.finished.contains g.val = true) ∧
  (∀ (g : Fin 4) (s : State), (s.dev.strideLive && s.dev.stride.fenceAt.isSome && s.dev.gaitEdge g s.dev.stride.next &&
      !s.dev.stride.finished.contains g.val) = false → exec (.finisher g) s = .next s) ∧
  (∀ (b : Fin 4) (s : State), s.dev.latchesOf b = [] → exec (.outputLatch b) s = .next s) ∧
  (∀ (b : Fin 4) (s : State) (y : LatchRead) (r : List LatchRead) (d1 : Dev), s.dev.latchesOf b = y :: r →
    d1 = s.dev.passStride (((s.dev.edgeNs y.index : Int) * 4 + toSigned 16 y.phase).toNat * 2 ^ 30) →
    exec (.outputLatch b) s = .next (s.on (fun _ => (y :: r).foldl (fun (a : Dev) x =>
        (a.driveLatch x.bind x.value).withStride (fun z => { z with latch := z.latch.erase x }))
      (d1.passNs ((y :: r).foldl (fun m x => max m x.ready) 0 - d1.now))))) ∧
  (∀ (d : Dev) (b : Fin 4) (y : LatchRead) (r : List LatchRead), d.latchesOf b = y :: r →
    ∀ x ∈ y :: r, x.index = y.index ∧ x ∈ d.stride.latch ∧ d.get (R.STIR_LBIND_PIN x.bind) / 24 = b) ∧
  (∀ (d : Dev) (i v j : Nat), j ≤ d.get (R.STIR_LBIND_COUNT_M1 i) → d.get (R.STIR_LBIND_PIN i) + j < 96 →
    (d.driveLatch i v).io.latched.getLsbD (d.get (R.STIR_LBIND_PIN i) + j) = true ∧
    (d.driveLatch i v).io.latchLv.getLsbD (d.get (R.STIR_LBIND_PIN i) + j) = v.testBit j)

/-- UPDATE latches target, acceleration and step for the next edge of the unit's gait, or after that gait's fence for the edge after it with
UPD_LATE; UPDATE reads 1. EN = 1 while EN is 0 and EN = 0 while EN is 1 act at the unit's next edge; a write of the present value does nothing.
At an edge of an active unit with nothing pending, the velocity moves to the target by at most the acceleration (at once where that is 0), the
position moves by the velocity and the step once, modulo 2^40, and AT_TARGET says whether the target is reached. At its first edge a unit takes
POS_SET and velocity 0; at its last the velocity is 0 and the position holds. -/
def Obligations.LungeUnits : Prop :=
  (∀ (w : Writer) (n : Fin 4) (s : State), Grants s w (R.LUNGE_CTRL_UPDATE n) → s.dev.gaitClosed (s.dev.get (R.LUNGE_CTRL_GAIT n)) = false →
    ∃ t, exec (.lungeUpdate w n) s = .next t ∧ t.dev.get (R.LUNGE_CTRL_UPDATE n) = 1 ∧
      t.dev.lunge n = { s.dev.lunge n with latched := some (s.dev.get (R.LUNGE_TARGET n), s.dev.get (R.LUNGE_ACCEL n), s.dev.get (R.LUNGE_STEP n), 1) } ∧
      KeepsRegs [R.LUNGE_CTRL_UPDATE n] s t ∧ t.dev = { s.dev with regs := t.dev.regs, stride := t.dev.stride }) ∧
  (∀ (w : Writer) (n : Fin 4) (s : State), Grants s w (R.LUNGE_CTRL_UPDATE n) → s.dev.gaitClosed (s.dev.get (R.LUNGE_CTRL_GAIT n)) = true →
    ∃ t, exec (.lungeUpdate w n) s = .next t ∧ t.dev.get (R.LUNGE_CTRL_UPDATE n) = 1 ∧ t.dev.get (R.LUNGE_STATUS_UPD_LATE n) = 1 ∧
      t.dev.lunge n = { s.dev.lunge n with latched := some (s.dev.get (R.LUNGE_TARGET n), s.dev.get (R.LUNGE_ACCEL n), s.dev.get (R.LUNGE_STEP n), 2) } ∧
      KeepsRegs [R.LUNGE_CTRL_UPDATE n, R.LUNGE_STATUS_UPD_LATE n] s t) ∧
  (∀ (w : Writer) (n : Fin 4) (s : State), Grants s w (R.LUNGE_CTRL_EN n) → s.dev.on (R.LUNGE_CTRL_EN n) = false →
    ∃ t, exec (.lungeEnable w n) s = .next t ∧ t.dev.get (R.LUNGE_CTRL_EN n) = 1 ∧ t.dev.lunge n = { s.dev.lunge n with enPend := some true } ∧
      (∀ k, k ≠ n.val → t.dev.lunge k = s.dev.lunge k) ∧ KeepsRegs [R.LUNGE_CTRL_EN n] s t) ∧
  (∀ (w : Writer) (n : Fin 4) (s : State), Grants s w (R.LUNGE_CTRL_EN n) → s.dev.on (R.LUNGE_CTRL_EN n) = true →
    ∃ t, exec (.lungeDisable w n) s = .next t ∧ t.dev.get (R.LUNGE_CTRL_EN n) = 0 ∧ t.dev.lunge n = { s.dev.lunge n with enPend := some false } ∧
      (∀ k, k ≠ n.val → t.dev.lunge k = s.dev.lunge k) ∧ KeepsRegs [R.LUNGE_CTRL_EN n] s t) ∧
  (∀ (w : Writer) (n : Fin 4) (s : State), Grants s w (R.LUNGE_CTRL_EN n) →
    (s.dev.on (R.LUNGE_CTRL_EN n) = true → exec (.lungeEnable w n) s = .next s) ∧
    (s.dev.on (R.LUNGE_CTRL_EN n) = false → exec (.lungeDisable w n) s = .next s)) ∧
  (∀ (d : Dev) (n : Fin 4) (v t v' : Int), (d.lunge n).latched = none → (d.lunge n).enPend = none → d.on (R.LUNGE_STATUS_ACTIVE n) = true →
    v = toSigned 40 (d.get (R.LUNGE_VEL n)) → t = toSigned 40 (d.lunge n).takenTarget → v' = toSigned 40 ((d.lungeEdge n).get (R.LUNGE_VEL n)) →
    ((d.lunge n).takenAccel = 0 → v' = t) ∧
    (0 < (d.lunge n).takenAccel → v ≤ t → v' = min (v + (d.lunge n).takenAccel) t) ∧
    (0 < (d.lunge n).takenAccel → t ≤ v → v' = max (v - (d.lunge n).takenAccel) t) ∧
    (d.lungeEdge n).get (R.LUNGE_POS n) = (d.get (R.LUNGE_POS n) + ofSigned 40 v' + (d.lunge n).takenStep) % 2 ^ 40 ∧
    (d.lungeEdge n).get (R.LUNGE_STATUS_AT_TARGET n) = (if v' = t then 1 else 0) ∧ ((d.lungeEdge n).lunge n).takenStep = 0) ∧
  (∀ (d : Dev) (n : Fin 4), (d.lunge n).latched = none → (d.lunge n).enPend = some true →
    (d.lungeEdge n).get (R.LUNGE_POS n) = d.get (R.LUNGE_POS_SET n) ∧ (d.lungeEdge n).get (R.LUNGE_VEL n) = 0 ∧
    (d.lungeEdge n).get (R.LUNGE_STATUS_ACTIVE n) = 1) ∧
  (∀ (d : Dev) (n : Fin 4), (d.lunge n).latched = none → (d.lunge n).enPend = some false →
    (d.lungeEdge n).get (R.LUNGE_POS n) = d.get (R.LUNGE_POS n) ∧ (d.lungeEdge n).get (R.LUNGE_VEL n) = 0 ∧
    (d.lungeEdge n).get (R.LUNGE_STATUS_ACTIVE n) = 0)

/-- A register write that is performed and has a size and alignment of R9 is one word write, or for 8 bytes a write of the wide field as a whole,
or the low word and then the high word; another size sets REG_RSV_WRITE. Under a word write an rw field takes a legal value and keeps its own
under a reserved one, which is reported; a w1c field loses the bits written as 1; a w1s field gains them; an rd field keeps its value. A 32-bit
read by a reader that may read returns the waiting shadow and drops it, or else the live word, latching the shadows of that offset. A 64-bit read of a wide register returns all its bits from one sample. A read
of another size or alignment returns zeros and sets REG_RSV_WRITE. -/
def Obligations.RegisterAccess : Prop :=
  (∀ (w : Writer) (off size : Nat) (v : W64) (s : State),
    exec (.registerWrite w off size v) s = .next (s.gate w off (fun y => y.regWrite w off size v.toNat))) ∧
  (∀ (w : Writer) (off size : Nat) (s : State), exec (.lowWordRead w off size) s = .next (s.hostRead w off size)) ∧
  (∀ (w : Writer) (off : Nat) (v : W64) (s : State), s.dev.mayWrite w off = true → off % 4 = 0 →
    exec (.registerWrite w off 4 v) s = .next (s.wordAct w off (v.toNat % 2 ^ 32))) ∧
  (∀ (w : Writer) (off : Nat) (v : W64) (s : State), s.dev.mayWrite w off = true → off % 8 = 0 → wideAt off = none →
    exec (.registerWrite w off 8 v) s = .next ((s.wordAct w off (v.toNat % 2 ^ 32)).wordAct w (off + 4) (v.toNat / 2 ^ 32))) ∧
  (∀ (w : Writer) (off : Nat) (v : W64) (f : Fld) (s : State), s.dev.mayWrite w off = true → off % 8 = 0 → wideAt off = some f → off ≠ 0x60010 →
    f.acc = .rw → legal f (bits v.toNat f.lo f.width) = true →
    ∃ t, exec (.registerWrite w off 8 v) s = .next t ∧ (block f ≠ 3 → (∀ g ∈ [R.SYS_DIAG_REG_RSV_WRITE, R.SYS_RSV_INFO_MAP, R.SYS_RSV_INFO_AGENT,
      R.SYS_RSV_INFO_OFFSET], f.key ≠ g.key) → t.dev.get f = bits v.toNat f.lo f.width)) ∧
  (∀ (w : Writer) (off size : Nat) (v : W64) (s : State), s.dev.mayWrite w off = true → sizeOk off size = false →
    ∃ t, exec (.registerWrite w off size v) s = .next t ∧ t.dev.get R.SYS_DIAG_REG_RSV_WRITE = 1 ∧
      OnlyRegsEv [R.SYS_DIAG_REG_RSV_WRITE, R.SYS_RSV_INFO_MAP, R.SYS_RSV_INFO_AGENT, R.SYS_RSV_INFO_OFFSET] s t) ∧
  (∀ (d : Dev) (f : Fld) (v : Nat), f.lo + f.width ≤ 32 →
    (f.acc = .rw → legal f (bits v f.lo f.width) = true → (d.fldWrite f 0 v).1.get f = bits v f.lo f.width ∧ (d.fldWrite f 0 v).2 = false) ∧
    (f.acc = .rw → legal f (bits v f.lo f.width) = false → d.fldWrite f 0 v = (d, true)) ∧
    (f.acc = .w1c → ∀ i < f.width, ((d.fldWrite f 0 v).1.get f).testBit i = ((d.get f).testBit i && !v.testBit (f.lo + i))) ∧
    (f.acc = .w1s → ∀ i < f.width, ((d.fldWrite f 0 v).1.get f).testBit i = ((d.get f).testBit i || v.testBit (f.lo + i))) ∧
    (f.acc = .rd → d.fldWrite f 0 v = (d, false)) ∧
    (∀ g : Fld, g.key ≠ f.key → (d.fldWrite f 0 v).1.get g = d.get g)) ∧
  (∀ (w : Writer) (off : Nat) (s : State), s.dev.mayRead w = true → off % 4 = 0 →
    (hiWord off = false ∨ Tab.find? s.dev.shadows (shadowOf (readerCode w) off) = none) → shadowed off = [] →
    ∃ t, exec (.lowWordRead w off 4) s = .next t ∧ t.dev.rdata = [BitVec.ofNat 32 (liveWord s w off)] ∧
      t = s.on (fun d => { d.readEffect w off with rdata := t.dev.rdata })) ∧
  (∀ (w : Writer) (off hi : Nat) (s : State), s.dev.mayRead w = true → off % 4 = 0 →
    (hiWord off = false ∨ Tab.find? s.dev.shadows (shadowOf (readerCode w) off) = none) → shadowed off = [hi] →
    ∃ t, exec (.lowWordRead w off 4) s = .next t ∧ t.dev.rdata = [BitVec.ofNat 32 (liveWord s w off)] ∧
      t = s.on (fun d => { { d with shadows := d.shadows.put (shadowOf (readerCode w) hi) (liveWord s w hi) }.readEffect w off with rdata := t.dev.rdata })) ∧
  (∀ (w : Writer) (off v : Nat) (s : State), s.dev.mayRead w = true → off % 4 = 0 → hiWord off = true →
    Tab.find? s.dev.shadows (shadowOf (readerCode w) off) = some v →
    exec (.lowWordRead w off 4) s = .next (s.on (fun d =>
      { d with shadows := d.shadows.del (shadowOf (readerCode w) off), rdata := [BitVec.ofNat 32 v] }))) ∧
  (∀ (w : Writer) (off size : Nat) (s : State), s.dev.mayRead w = false →
    ∃ t, exec (.lowWordRead w off size) s = .next t ∧ t.dev.rdata = [] ∧ t.dev.regs = s.dev.regs ∧ t.mem = s.mem) ∧
  (∀ (w : Writer) (off size : Nat) (s : State), s.dev.mayRead w = true → sizeOk off size = false →
    ∃ t, exec (.lowWordRead w off size) s = .next t ∧ (∀ x ∈ t.dev.rdata, x = 0) ∧ t.dev.get R.SYS_DIAG_REG_RSV_WRITE = 1 ∧
      OnlyRegsEv [R.SYS_DIAG_REG_RSV_WRITE, R.SYS_RSV_INFO_MAP, R.SYS_RSV_INFO_AGENT, R.SYS_RSV_INFO_OFFSET] s
        (t.on (fun d => { d with rdata := s.dev.rdata }))) ∧
  (∀ (w : Writer) (off : Nat) (s : State), s.dev.mayRead w = true → off % 8 = 0 → tripleLo off = false → wideLo off = true →
    ∃ t, exec (.lowWordRead w off 8) s = .next t ∧ t.dev.rdata = [BitVec.ofNat 32 (liveWord s w off), BitVec.ofNat 32 (liveWord s w (off + 4))] ∧
      t.mem = s.mem)

/-- For time base n and a write that is performed: LOAD_INCR sets INCR_PEND; STEP sets STEP_PEND; SET on a disabled time base takes the value that
TB_SET spells, in ns format 2^32 HI + LO with FRAC, in PTP format the seconds and nanoseconds, makes its load pending and leaves the value as it is; SET on an enabled one sets CFG_REJ and does nothing else but raise its event; EN = 1 starts a
time base other than 0; EN = 0 stops it unless the stride follows it. No other register, no memory and no other unit changes.
At the tick: a pending increment becomes the applied one and INCR_PEND and LOAD_INCR clear, and it is added to the enabled time bases from that tick
on; a pending load then puts the value that SET took, whether or not the time base has been enabled meanwhile (that it wins over the addition of
its tick is the model's choice, log entry 175); a pending step adds STEP and STEP_FRAC to the value, raises STEP_GEN modulo 16 and clears STEP_PEND, before the triggers,
the ports, the Harness and, on the stride's own time base, the stride follow it; a step that R80 refuses sets STEP_REJ and leaves the value. -/
def Obligations.TimeBases : Prop :=
  (∀ (w : Writer) (n : Fin 8) (s : State), Grants s w (R.TB_CTRL_LOAD_INCR n) →
    ∃ t, exec (.loadIncr w n) s = .next t ∧ t.dev.get (R.TB_STATUS_INCR_PEND n) = 1 ∧ t.dev.get (R.TB_CTRL_LOAD_INCR n) = 1 ∧
      OnlyRegs [R.TB_STATUS_INCR_PEND n, R.TB_CTRL_LOAD_INCR n] s t) ∧
  (∀ (w : Writer) (n : Fin 8) (s : State), Grants s w (R.TB_CTRL_STEP n) →
    ∃ t, exec (.step w n) s = .next t ∧ t.dev.get (R.TB_STATUS_STEP_PEND n) = 1 ∧ t.dev.get (R.TB_CTRL_STEP n) = 1 ∧
      OnlyRegs [R.TB_STATUS_STEP_PEND n, R.TB_CTRL_STEP n] s t) ∧
  (∀ (w : Writer) (n : Fin 8) (s : State), Grants s w (R.TB_CTRL_SET n) → s.dev.on (R.TB_CTRL_EN n) = false →
    ∃ t, exec (.set w n) s = .next t ∧ t.dev.tb n = { s.dev.tb n with setPend := some (s.dev.tbSetValue n) } ∧ t.dev.get (R.TB_CTRL_SET n) = 1 ∧
      (s.dev.on (R.TB_CTRL_FMT n) = false → s.dev.tbSetValue n =
        (s.dev.get (R.TB_SET_HI n) * 2 ^ 32 + s.dev.get (R.TB_SET_LO n)) * 2 ^ 32 + s.dev.get (R.TB_SET_XHI n) / 2 ^ 16 * 2 ^ 16) ∧
      (s.dev.on (R.TB_CTRL_FMT n) = true → s.dev.get (R.TB_SET_LO n) < 1000000000 → s.dev.tbSetValue n =
        ((s.dev.get (R.TB_SET_HI n) + s.dev.get (R.TB_SET_XHI n) % 2 ^ 16 * 2 ^ 32) * 1000000000 +
          s.dev.get (R.TB_SET_LO n)) * 2 ^ 32 + s.dev.get (R.TB_SET_XHI n) / 2 ^ 16 * 2 ^ 16) ∧
      KeepsRegs [R.TB_CTRL_SET n] s t ∧ t.dev = { s.dev with regs := t.dev.regs, time := t.dev.time }) ∧
  (∀ (w : Writer) (n : Fin 8) (s : State), Grants s w (R.TB_CTRL_SET n) → s.dev.on (R.TB_CTRL_EN n) = true →
    ∃ t, exec (.set w n) s = .next t ∧ t.dev.get (R.TB_STATUS_CFG_REJ n) = 1 ∧ OnlyRegsEv [R.TB_STATUS_CFG_REJ n] s t) ∧
  (∀ (w : Writer) (n : Fin 8) (s : State), Grants s w (R.TB_CTRL_EN n) → n ≠ 0 →
    ∃ t, exec (.tbEnable w n) s = .next t ∧ t.dev.get (R.TB_CTRL_EN n) = 1 ∧ t.dev.get (R.TB_STATUS_RUNNING n) = 1 ∧
      OnlyRegs [R.TB_CTRL_EN n, R.TB_STATUS_RUNNING n] s t) ∧
  (∀ (w : Writer) (n : Fin 8) (s : State), Grants s w (R.TB_CTRL_EN n) → n ≠ 0 → s.dev.on (R.TB_CTRL_EN n) = true →
    (s.dev.get R.STRIDE_CTRL_TB_SEL = n → s.dev.on R.STRIDE_STATUS_RUNNING = false ∧ s.dev.on R.STRIDE_STATUS_PENDING = false) →
    ∃ t, exec (.tbDisable w n) s = .next t ∧ t.dev.get (R.TB_CTRL_EN n) = 0 ∧ t.dev.get (R.TB_STATUS_RUNNING n) = 0 ∧
      OnlyRegs [R.TB_CTRL_EN n, R.TB_STATUS_RUNNING n] s t) ∧
  (∀ (n : Fin 8) (s : State), s.dev.on (R.TB_STATUS_INCR_PEND n) = true →
    ∃ t, exec (.incrApply n) s = .next t ∧ t.dev.tb n = { s.dev.tb n with incr := s.dev.get (R.TB_INCR n) } ∧
      t.dev.get (R.TB_STATUS_INCR_PEND n) = 0 ∧ t.dev.get (R.TB_CTRL_LOAD_INCR n) = 0 ∧
      (∀ k, k ≠ n.val → t.dev.tb k = s.dev.tb k) ∧ KeepsRegs [R.TB_STATUS_INCR_PEND n, R.TB_CTRL_LOAD_INCR n] s t ∧
      t.dev = { s.dev with regs := t.dev.regs, time := t.dev.time }) ∧
  (∀ (n : Fin 8) (v : Nat) (s : State), (s.dev.tb n).setPend = some v →
    ∃ t, exec (.setLoad n) s = .next t ∧ (t.dev.tb n).setPend = none ∧ (t.dev.tb n).val = s.dev.tbWrap n v ∧ t.dev.get (R.TB_CTRL_SET n) = 0 ∧
      (t.dev.tb n).incr = (s.dev.tb n).incr ∧ (∀ k, k ≠ n.val → t.dev.tb k = s.dev.tb k) ∧ KeepsRegs [R.TB_CTRL_SET n] s t ∧
      t.dev = { s.dev with regs := t.dev.regs, time := t.dev.time }) ∧
  (∀ (n : Fin 8) (s : State), (s.dev.tb n).setPend = none → exec (.setLoad n) s = .next s) ∧
  (∀ (n : Fin 8) (s : State), s.dev.on (R.TB_STATUS_INCR_PEND n) = false → exec (.incrApply n) s = .next s) ∧
  (∀ (n : Fin 8) (pins : BitVec 96) (s : State), s.dev.on (R.TB_STATUS_STEP_PEND n) = false → exec (.stepApply n pins) s = .next s) ∧
  (∀ (d : Dev) (n : Nat), d.tickOnce = (List.range 8).foldl (fun (a : Dev) k => a.setLoad k)
      (((List.range 8).foldl (fun (a : Dev) k => a.incrApply k) d).count 1) ∧
    (d.count n).now = d.now + 2 * n ∧ ∀ k : Fin 8, (d.count n).tb k =
      if d.on (R.TB_CTRL_EN k) then { d.tb k with val := d.tbWrap k ((d.tb k).val + n * (d.tb k).incr) } else d.tb k) ∧
  (∀ (n : Fin 8) (pins : BitVec 96) (s : State), s.dev.on (R.TB_STATUS_STEP_PEND n) = true → s.dev.stepRefused n = false →
    n.val ≠ s.dev.strideTb →
    exec (.stepApply n pins) s = .next (s.on (fun d =>
      (((List.range 8).foldl (fun (a : Dev) i => a.trgStep i n (d.tb n).val) (d.stepMove n)).stepPorts n).hnStepped n))) ∧
  (∀ (n : Fin 8) (pins : BitVec 96) (s : State), s.dev.on (R.TB_STATUS_STEP_PEND n) = true → s.dev.stepRefused n = false →
    n.val = s.dev.strideTb → s.dev.stride.fenceAt = none →
    exec (.stepApply n pins) s = .next ((s.on (fun d =>
      (((List.range 8).foldl (fun (a : Dev) i => a.trgStep i n (d.tb n).val) (d.stepMove n)).stepPorts n).hnStepped n)).stepStride pins)) ∧
  (∀ (n : Fin 8) (d : Dev), d.stepRefused n = false →
    ((d.stepMove n).tb n).val = d.tbWrap n ((d.tb n).val + d.stepAmount n).toNat ∧
    (d.stepMove n).get (R.TB_STATUS_STEP_GEN n) = (d.get (R.TB_STATUS_STEP_GEN n) + 1) % 16 ∧
    (d.stepMove n).get (R.TB_STATUS_STEP_PEND n) = 0 ∧ (∀ k, k ≠ n.val → (d.stepMove n).tb k = d.tb k)) ∧
  (∀ (n : Fin 8) (pins : BitVec 96) (s : State), s.dev.on (R.TB_STATUS_STEP_PEND n) = true → s.dev.stepRefused n = true →
    ∃ t, exec (.stepApply n pins) s = .next t ∧ t.dev.get (R.TB_STATUS_STEP_REJ n) = 1 ∧ t.dev.get (R.TB_STATUS_STEP_PEND n) = 0 ∧
      t.dev.time = s.dev.time ∧ OnlyRegsEv [R.TB_STATUS_STEP_REJ n, R.TB_STATUS_STEP_PEND n, R.TB_CTRL_STEP n] s t)

/-- SNAP asks for a snapshot; the tick that meets the request copies the words of every time base, as they are after that tick, into TB_SNAP. An edge that an enabled capture unit selects puts a record of its time base at the
phase of the edge into the FIFO while that holds fewer than 8, with LEVEL and CAP_READY, and else counts LOST and sets OVF and CAP_OVF; an
edge that is not selected does nothing. A read of CAP_META or of the META word of a transmit timestamp FIFO, by a reader that may read,
returns that word of the oldest record and removes the record; of an empty FIFO it returns 0 in the tag and removes nothing. -/
def Obligations.SnapshotsAndCaptures : Prop :=
  (∀ (w : Writer) (s : State), s.dev.mayWrite w 0x50800 = true →
    exec (.snap w) s = .next (s.on (fun d => { d with time := { d.time with snapPend := true } }))) ∧
  (∀ d : Dev, d.time.snapPend = true → d.snapTick.time = { d.time with snapPend := false } ∧
    d.snapTick = { d with regs := d.snapTick.regs, time := d.snapTick.time } ∧ ∀ n : Fin 8,
      d.snapTick.get (R.TB_SNAP_LO n) = (timeWords (d.ptp n) (d.tb n).val).1 % 2 ^ 32 ∧
      d.snapTick.get (R.TB_SNAP_HI n) = (timeWords (d.ptp n) (d.tb n).val).2.1 % 2 ^ 32 ∧
      d.snapTick.get (R.TB_SNAP_XHI n) = (timeWords (d.ptp n) (d.tb n).val).2.2 % 2 ^ 32) ∧
  (∀ d : Dev, d.time.snapPend = false → d.snapTick = d) ∧
  (∀ (c : Fin 8) (rising : Bool) (ph : Fin 8) (s : State), s.dev.on (R.CAP_CFG_EN c) = true →
    (s.dev.get (R.CAP_CFG_EDGE c)).testBit (if rising then 0 else 1) = true → (s.dev.cap c).q.length < 8 →
    ∃ t, exec (.captureEdge c rising ph) s = .next t ∧
      (t.dev.cap c).q = (s.dev.cap c).q ++ [s.dev.tsRec (s.dev.get (R.CAP_CFG_TB c)) (s.dev.stampAt (s.dev.get (R.CAP_CFG_TB c)) ph) (if rising then 1 else 0)] ∧
      t.dev.get (R.CAP_STATUS_LEVEL c) = (s.dev.cap c).q.length + 1 ∧
      t.dev.get (R.TB_STATUS_CAP_READY (s.dev.get (R.CAP_CFG_TB c))) = 1 ∧ t.mem = s.mem ∧ t.dev.stride = s.dev.stride) ∧
  (∀ (c : Fin 8) (rising : Bool) (ph : Fin 8) (s : State), s.dev.on (R.CAP_CFG_EN c) = true →
    (s.dev.get (R.CAP_CFG_EDGE c)).testBit (if rising then 0 else 1) = true → 8 ≤ (s.dev.cap c).q.length →
    ∃ t, exec (.captureEdge c rising ph) s = .next t ∧ t.dev.cap c = s.dev.cap c ∧ t.dev.get (R.CAP_STATUS_OVF c) = 1 ∧
      t.dev.get (R.CAP_STATUS_LOST c) = (s.dev.get (R.CAP_STATUS_LOST c) + 1) % 2 ^ (R.CAP_STATUS_LOST c).width ∧
      t.dev.get (R.TB_STATUS_CAP_OVF (s.dev.get (R.CAP_CFG_TB c))) = 1 ∧ t.mem = s.mem) ∧
  (∀ (c : Fin 8) (rising : Bool) (ph : Fin 8) (s : State),
    (s.dev.on (R.CAP_CFG_EN c) && (s.dev.get (R.CAP_CFG_EDGE c)).testBit (if rising then 0 else 1)) = false →
    exec (.captureEdge c rising ph) s = .next s) ∧
  (∀ (w : Writer) (c : Fin 8) (s : State), s.dev.mayRead w = true →
    ∃ t, exec (.capMetaRead w c) s = .next t ∧ t.dev.rdata = [BitVec.ofNat 32 (TsFifo_head (s.dev.cap c)).tag] ∧
      (t.dev.cap c).q = (s.dev.cap c).q.tail ∧ t.dev.get (R.CAP_STATUS_LEVEL c) = (s.dev.cap c).q.tail.length % 16 ∧ t.mem = s.mem) ∧
  (∀ (w : Writer) (p : Fin 26) (s : State), s.dev.mayRead w = true →
    ∃ t, exec (.txtsPop w p) s = .next t ∧ t.dev.rdata = [BitVec.ofNat 32 (TsFifo_head (s.dev.txtsFifo p)).tag] ∧
      (t.dev.txtsFifo p).q = (s.dev.txtsFifo p).q.tail ∧ t.mem = s.mem ∧ t.dev.regs = s.dev.regs)

/-- A write of 1 to EN that R101 refuses sets CFG_REJ of the time base and leaves EN at 0. A periodic trigger is armed for the least pulse
later than the present value; a one-shot whose START is still to come is armed for it, one whose START has passed sets LATE and TRG_LATE.
START is taken at that write (a one-shot START equal to the present value counts as past: the model's choice, log entry 176).
The pulse of an armed trigger sets ACTIVE and drives the pin to the level of POL; its end, WIDTH ns after its start, clears ACTIVE, drives the other
level and disarms a one-shot. An enable of an enabled trigger does nothing. A trigger that is not enabled, or active already, does nothing. -/
def Obligations.TriggerUnits : Prop :=
  (∀ (w : Writer) (n : Fin 8) (s : State), Grants s w (R.TRG_CTRL_EN n) → s.dev.trgBad n = true →
    ∃ t, exec (.trgEnable w n) s = .next t ∧ t.dev.get (R.TRG_CTRL_EN n) = 0 ∧
      t.dev.get (R.TB_STATUS_CFG_REJ (s.dev.get (R.TRG_CTRL_TB n))) = 1 ∧
      OnlyRegsEv [R.TRG_CTRL_EN n, R.TB_STATUS_CFG_REJ (s.dev.get (R.TRG_CTRL_TB n))] s t) ∧
  (∀ (w : Writer) (n : Fin 8) (s : State), Grants s w (R.TRG_CTRL_EN n) → s.dev.trgBad n = false → s.dev.on (R.TRG_CTRL_EN n) = false →
    s.dev.on (R.TRG_CTRL_PERIODIC n) = true → 0 < s.dev.trgPeriod n →
    ∃ t, exec (.trgEnable w n) s = .next t ∧ t.dev.get (R.TRG_CTRL_EN n) = 1 ∧
      (t.dev.trg n).start = s.dev.trgStartReg n ∧
      (s.dev.tb (s.dev.get (R.TRG_CTRL_TB n))).val < s.dev.trgStartReg n + (t.dev.trg n).k * s.dev.trgPeriod n ∧
      (∀ k, (s.dev.tb (s.dev.get (R.TRG_CTRL_TB n))).val < s.dev.trgStartReg n + k * s.dev.trgPeriod n → (t.dev.trg n).k ≤ k) ∧
      KeepsRegs [R.TRG_CTRL_EN n] s t ∧ t.dev = { s.dev with regs := t.dev.regs, time := t.dev.time } ∧ t.dev.time.tbs = s.dev.time.tbs) ∧
  (∀ (w : Writer) (n : Fin 8) (s : State), Grants s w (R.TRG_CTRL_EN n) → s.dev.trgBad n = false → s.dev.on (R.TRG_CTRL_EN n) = false →
    s.dev.on (R.TRG_CTRL_PERIODIC n) = false → (s.dev.tb (s.dev.get (R.TRG_CTRL_TB n))).val < s.dev.trgStartReg n →
    ∃ t, exec (.trgEnable w n) s = .next t ∧ t.dev.get (R.TRG_CTRL_EN n) = 1 ∧ (t.dev.trg n).k = 0 ∧ (t.dev.trg n).start = s.dev.trgStartReg n ∧
      KeepsRegs [R.TRG_CTRL_EN n] s t ∧
      t.dev = { s.dev with regs := t.dev.regs, time := t.dev.time } ∧ t.dev.time.tbs = s.dev.time.tbs) ∧
  (∀ (w : Writer) (n : Fin 8) (s : State), Grants s w (R.TRG_CTRL_EN n) → s.dev.trgBad n = false → s.dev.on (R.TRG_CTRL_EN n) = false →
    s.dev.on (R.TRG_CTRL_PERIODIC n) = false → s.dev.trgStartReg n ≤ (s.dev.tb (s.dev.get (R.TRG_CTRL_TB n))).val →
    ∃ t, exec (.trgEnable w n) s = .next t ∧ t.dev.get (R.TRG_CTRL_EN n) = 1 ∧ t.dev.get (R.TRG_STATUS_LATE n) = 1 ∧
      t.dev.get (R.TB_STATUS_TRG_LATE (s.dev.get (R.TRG_CTRL_TB n))) = 1) ∧
  (∀ (w : Writer) (n : Fin 8) (s : State), Grants s w (R.TRG_CTRL_EN n) → s.dev.trgBad n = false → s.dev.on (R.TRG_CTRL_EN n) = true →
    exec (.trgEnable w n) s = .next s) ∧
  (∀ (n : Fin 8) (s : State), s.dev.on (R.TRG_CTRL_EN n) = true → s.dev.on (R.TRG_STATUS_ACTIVE n) = false →
    ∃ t, exec (.triggerAssert n) s = .next t ∧ t.dev.get (R.TRG_STATUS_ACTIVE n) = 1 ∧ (t.dev.trg n).k = (s.dev.trg n).k + 1 ∧
      (t.dev.trg n).start = (s.dev.trg n).start ∧ (t.dev.trg n).at4 ≤ t.dev.now * 4 ∧
      ((s.dev.trg n).start + (s.dev.trg n).k * s.dev.trgPeriod n ≤ (s.dev.tb (s.dev.get (R.TRG_CTRL_TB n))).val → s.dev.on (R.TRG_CTRL_PERIODIC n) = true →
        t.dev.now = s.dev.now ∧ (t.dev.trg n).at4 = s.dev.now * 4) ∧
      t.dev.out = s.dev.out ++ [.pin (s.dev.get (R.TRG_CTRL_PIN n)) (!s.dev.on (R.TRG_CTRL_POL n))] ∧
      KeepsRegs (R.TRG_STATUS_ACTIVE n :: timeRegs) s t) ∧
  (∀ (n : Fin 8) (s : State), s.dev.on (R.TRG_STATUS_ACTIVE n) = true →
    ∃ t, exec (.triggerDeassert n) s = .next t ∧ t.dev.get (R.TRG_STATUS_ACTIVE n) = 0 ∧
      t.dev.out = s.dev.out ++ [.pin (s.dev.get (R.TRG_CTRL_PIN n)) (s.dev.on (R.TRG_CTRL_POL n))] ∧
      t.dev.now = s.dev.now + 2 * ((((s.dev.trg n).at4 + 4 * s.dev.get (R.TRG_WIDTH n) + 3) / 4 - s.dev.now + 1) / 2) ∧
      t.dev.get (R.TRG_CTRL_EN n) = (if s.dev.on (R.TRG_CTRL_PERIODIC n) then s.dev.get (R.TRG_CTRL_EN n) else 0) ∧
      KeepsRegs (R.TRG_STATUS_ACTIVE n :: R.TRG_CTRL_EN n :: timeRegs) s t) ∧
  (∀ (n : Fin 8) (s : State), s.dev.on (R.TRG_CTRL_EN n) = false → exec (.triggerAssert n) s = .next s) ∧
  (∀ (n : Fin 8) (s : State), s.dev.on (R.TRG_STATUS_ACTIVE n) = false → exec (.triggerDeassert n) s = .next s)

/-- LOAD while BUSY is 0 makes a load of RTC_SET_SEC pending with BUSY; SYNC_FROM_TB one of the next whole second of the time base of SYNC_TB,
which follows a load or a step of that time base (a second that is passed so is taken at that tick: the model's choice, log entry 23); a time base
that does not reach it leaves the request waiting. While BUSY is 1 either request changes no more than SYNC_TB. When the
load happens, RTC_SEC takes the value, RTC_SUBSEC is 0, VALID is 1, BUSY and the two requests are 0. A failed oscillator sets OSC_FAIL and
clears VALID, a lost supply resets the battery domain; both set RTC_FAULT. -/
def Obligations.CalendarClock : Prop :=
  (∀ (w : Writer) (s : State), Grants s w R.RTC_CTRL_LOAD → s.dev.on R.RTC_STATUS_BUSY = false →
    ∃ t, exec (.rtcLoad w) s = .next t ∧ t.dev.time = { s.dev.time with rtcPend := some .sec } ∧ t.dev.get R.RTC_STATUS_BUSY = 1 ∧
      t.dev.get R.RTC_CTRL_LOAD = 1 ∧ t.dev.get R.RTC_CTRL_SYNC_TB = s.dev.get R.RTC_CTRL_SYNC_TB ∧ KeepsRegs [R.RTC_STATUS_BUSY, R.RTC_CTRL_LOAD, R.RTC_CTRL_SYNC_TB] s t ∧
      t.dev = { s.dev with regs := t.dev.regs, time := t.dev.time }) ∧
  (∀ (w : Writer) (s : State), Grants s w R.RTC_CTRL_LOAD → s.dev.on R.RTC_STATUS_BUSY = false →
    ∃ t, exec (.syncFromTb w) s = .next t ∧
      t.dev.time = { s.dev.time with rtcPend := some (.fromTb (s.dev.get R.RTC_CTRL_SYNC_TB)
        (((s.dev.tb (s.dev.get R.RTC_CTRL_SYNC_TB)).val / 2 ^ 32 / 1000000000 + 1) * 1000000000)) } ∧
      t.dev.get R.RTC_STATUS_BUSY = 1 ∧ t.dev.get R.RTC_CTRL_SYNC_FROM_TB = 1 ∧
      t.dev.get R.RTC_CTRL_SYNC_TB = s.dev.get R.RTC_CTRL_SYNC_TB ∧
      KeepsRegs [R.RTC_STATUS_BUSY, R.RTC_CTRL_SYNC_FROM_TB, R.RTC_CTRL_SYNC_TB] s t ∧ t.dev = { s.dev with regs := t.dev.regs, time := t.dev.time }) ∧
  (∀ (w : Writer) (s : State), Grants s w R.RTC_CTRL_LOAD → s.dev.on R.RTC_STATUS_BUSY = true →
    (∃ t, exec (.rtcLoad w) s = .next t ∧ t.dev.get R.RTC_CTRL_SYNC_TB = s.dev.get R.RTC_CTRL_SYNC_TB ∧ OnlyRegs [R.RTC_CTRL_SYNC_TB] s t) ∧
    (∃ t, exec (.syncFromTb w) s = .next t ∧ t.dev.get R.RTC_CTRL_SYNC_TB = s.dev.get R.RTC_CTRL_SYNC_TB ∧ OnlyRegs [R.RTC_CTRL_SYNC_TB] s t)) ∧
  (∀ s : State, s.dev.time.rtcPend = some .sec →
    ∃ t, exec .rtcLoadDone s = .next t ∧ t.dev.get R.RTC_SEC = s.dev.get R.RTC_SET_SEC ∧ t.dev.get R.RTC_SUBSEC = 0 ∧
      t.dev.get R.RTC_STATUS_VALID = 1 ∧ t.dev.get R.RTC_STATUS_BUSY = 0 ∧ t.dev.get R.RTC_CTRL_LOAD = 0 ∧ t.dev.time.rtcPend = none ∧
      KeepsRegs [R.RTC_SEC, R.RTC_SUBSEC, R.RTC_STATUS_VALID, R.RTC_STATUS_BUSY, R.RTC_CTRL_LOAD, R.RTC_CTRL_SYNC_FROM_TB] s t) ∧
  (∀ (s : State) (n target : Nat), s.dev.time.rtcPend = some (.fromTb n target) → target / 1000000000 < 2 ^ 32 →
    target ≤ ((s.dev.passTo n (target * 2 ^ 32)).tb n).val / 2 ^ 32 →
    ∃ t, exec .rtcLoadDone s = .next t ∧ t.dev.get R.RTC_SEC = target / 1000000000 ∧ t.dev.get R.RTC_SUBSEC = 0 ∧
      t.dev.get R.RTC_STATUS_VALID = 1 ∧ t.dev.get R.RTC_STATUS_BUSY = 0 ∧ t.dev.get R.RTC_CTRL_SYNC_FROM_TB = 0 ∧ t.dev.time.rtcPend = none ∧
      KeepsRegs ([R.RTC_STATUS_VALID, R.RTC_STATUS_BUSY, R.RTC_CTRL_LOAD, R.RTC_CTRL_SYNC_FROM_TB] ++ timeRegs) s t) ∧
  (∀ (s : State) (n target : Nat), s.dev.time.rtcPend = some (.fromTb n target) →
    ((s.dev.passTo n (target * 2 ^ 32)).tb n).val / 2 ^ 32 < target →
    exec .rtcLoadDone s = .next (s.on (fun d => d.passTo n (target * 2 ^ 32)))) ∧
  (∀ s : State, s.dev.time.rtcPend = none → exec .rtcLoadDone s = .next s) ∧
  (∀ (d : Dev) (n m target old : Nat), d.time.rtcPend = some (.fromTb m target) →
    (m ≠ n ∨ target ≤ old / 2 ^ 32 → d.rtcFollow n old = d) ∧
    (m = n → old / 2 ^ 32 < target → (d.rtcFollow n old).time.rtcPend = some (.fromTb n
      (if target ≤ (d.tb n).val / 2 ^ 32 then (d.tb n).val / 2 ^ 32 / 1000000000 * 1000000000
       else ((d.tb n).val / 2 ^ 32 / 1000000000 + 1) * 1000000000)))) ∧
  (∀ s : State, ∃ t, exec (.vbatLoss true) s = .next t ∧ t.dev.get R.RTC_STATUS_OSC_FAIL = 1 ∧ t.dev.get R.RTC_STATUS_VALID = 0 ∧
    t.dev.get (R.TB_STATUS_RTC_FAULT 0) = 1 ∧ OnlyRegsEv [R.RTC_STATUS_OSC_FAIL, R.RTC_STATUS_VALID, R.TB_STATUS_RTC_FAULT 0] s t) ∧
  (∀ s : State, ∃ t, exec (.vbatLoss false) s = .next t ∧ (∀ f ∈ rtcFields, t.dev.get f = f.reset) ∧ t.dev.get (R.TB_STATUS_RTC_FAULT 0) = 1 ∧
    t.dev.time.rtcPend = none ∧ t.dev.time.tbs = s.dev.time.tbs ∧ t.mem = s.mem)

/-- A host write of IMG_COMMIT that is performed, and an engine's store to ENG_COMMIT, commit one item or, with ALL, every item of a region with the
given age, when the region is valid, its WORKING buffer open, the item one of its items and the agent its producer (for the host, HOST_PROD as
well); else COMMIT_REJ is set and nothing is committed. A later commit of an item replaces the age of an earlier one. No memory changes. The
region of a held instance takes no engine commit (R606).
A rule that the configuration does not hold, that has run in the stride, or whose gait's fence has acted, does nothing. A COPY-class rule whose
destination bank another agent owns sends its results as cells from its executor, once; one whose executor owns the destination writes and commits
them at once. The cells of a list wait at the input of their port, in sequence. The oldest list for a destination port, once its last cell is in
the output store, is taken away, and written and committed unless a cell of it was lost; results whose stride is over are not written: WRITE_REJ and
COMMIT_REJ are set and the memory is as before. A result saturates to the range of the destination type; CONVERT to BIT gives 1 for any value but 0. -/
def Obligations.ImagesAndMapping : Prop :=
  (∀ (w : Writer) (r : Fin 256) (v : W32) (s : State), Grants s w (R.IMG_COMMIT_ITEM r) → (w = .pcie ∨ w = .qspi) → v.toNat < 2 ^ 20 →
    s.dev.on (R.IMG_CFG_HOST_PROD r) = true → (s.dev.region r).producer = .host → (s.dev.region r).opened = true → s.dev.on (R.IMG_CFG_VALID r) = true →
    v.toNat % 2 ^ 12 < s.dev.get (R.IMG_CFG_ITEMS r) →
    ∃ t, exec (.imgCommit w r v) s = .next t ∧ Tab.find? (t.dev.region r).committed (v.toNat % 2 ^ 12) = some (v.toNat / 2 ^ 12) ∧
      (∀ i, i ≠ v.toNat % 2 ^ 12 → Tab.find? (t.dev.region r).committed i = Tab.find? (s.dev.region r).committed i) ∧
      (∀ k, k ≠ r.val → t.dev.region k = s.dev.region k) ∧ OnlyRegs [] s { t with dev := { t.dev with img := s.dev.img } }) ∧
  (∀ (w : Writer) (r : Fin 256) (v : W32) (s : State), Grants s w (R.IMG_COMMIT_ITEM r) → v.toNat < 2 ^ 20 →
    (s.dev.on (R.IMG_CFG_HOST_PROD r) && (s.dev.region r).producer == .host && agentOf w == 12 && (s.dev.region r).opened && s.dev.on (R.IMG_CFG_VALID r) &&
      decide (v.toNat % 2 ^ 12 < s.dev.get (R.IMG_CFG_ITEMS r))) = false →
    ∃ t, exec (.imgCommit w r v) s = .next t ∧ t.dev.get (R.IMG_FLAGS_COMMIT_REJ r) = 1 ∧ OnlyRegs [R.IMG_FLAGS_COMMIT_REJ r] s t) ∧
  (∀ (e : Fin 48) (v : W32) (r item age : Nat) (s : State), r = v.toNat / 2 ^ 20 % 2 ^ 8 → item = v.toNat % 2 ^ 12 → age = v.toNat / 2 ^ 12 % 2 ^ 8 →
    v.toNat < 2 ^ 31 → s.dev.heldRegion r = false → (s.dev.region r).producer = .team (e.val / 4) → (s.dev.region r).opened = true →
    s.dev.on (R.IMG_CFG_VALID r) = true → item < s.dev.get (R.IMG_CFG_ITEMS r) →
    ∃ t, exec (.engCommit e v) s = .next t ∧ Tab.find? (t.dev.region r).committed item = some age ∧
      (∀ i, i ≠ item → Tab.find? (t.dev.region r).committed i = Tab.find? (s.dev.region r).committed i) ∧
      (∀ k, k ≠ r → t.dev.region k = s.dev.region k) ∧ OnlyRegs [] s { t with dev := { t.dev with img := s.dev.img } }) ∧
  (∀ (e : Fin 48) (v : W32) (r age : Nat) (s : State), r = v.toNat / 2 ^ 20 % 2 ^ 8 → age = v.toNat / 2 ^ 12 % 2 ^ 8 →
    2 ^ 31 ≤ v.toNat → s.dev.heldRegion r = false → (s.dev.region r).producer = .team (e.val / 4) → (s.dev.region r).opened = true →
    s.dev.on (R.IMG_CFG_VALID r) = true → 0 < s.dev.get (R.IMG_CFG_ITEMS r) →
    ∃ t, exec (.engCommit e v) s = .next t ∧ (∀ i < s.dev.get (R.IMG_CFG_ITEMS r), Tab.find? (t.dev.region r).committed i = some age)) ∧
  (∀ (e : Fin 48) (v : W32) (r : Nat) (s : State), r = v.toNat / 2 ^ 20 % 2 ^ 8 → v.toNat < 2 ^ 31 → s.dev.heldRegion r = false →
    ((s.dev.region r).producer == .team (e.val / 4) && (s.dev.region r).opened && s.dev.on (R.IMG_CFG_VALID r) &&
      decide (v.toNat % 2 ^ 12 < s.dev.get (R.IMG_CFG_ITEMS r))) = false →
    ∃ t, exec (.engCommit e v) s = .next t ∧ t.dev.get (R.IMG_FLAGS_COMMIT_REJ r) = 1 ∧ OnlyRegs [R.IMG_FLAGS_COMMIT_REJ r] s t) ∧
  (∀ (e : Fin 48) (v : W32) (s : State), s.dev.heldRegion (v.toNat / 2 ^ 20 % 2 ^ 8) = true → exec (.engCommit e v) s = .next s) ∧
  (∀ (n : Fin 4096) (s : State), s.dev.rule? n = none → exec (.mappingRuleRun n) s = .next s) ∧
  (∀ (n : Fin 4096) (x : MapRule) (s : State), s.dev.rule? n = some x →
    ((s.dev.ruleRun n).started = true ∨ s.dev.gaitClosed (s.dev.get (R.IMG_CFG_GAIT x.dstRegion)) = true) → exec (.mappingRuleRun n) s = .next s) ∧
  (∀ (n : Fin 4096) (x : MapRule) (s : State) (r : List (List Byte × Nat)) (d : Dev) (m : MapCells), s.dev.rule? n = some x → (s.dev.ruleRun n).started = false →
    s.dev.gaitClosed (s.dev.get (R.IMG_CFG_GAIT x.dstRegion)) = false → x.chain = false → ruleResults s.mem s.dev x = (r, d) →
    s.dev.executor x ≠ s.dev.regionOwner x.dstRegion →
    m = { rule := some n.val, src := s.dev.executor x, region := x.dstRegion, item := x.dstItem, items := r, stride := s.dev.workStride (s.dev.get (R.IMG_CFG_GAIT x.dstRegion)) } →
    exec (.mappingRuleRun n) s = .next { s with dev := (d.setRuleRun n { started := true, delivered := false, stride := m.stride }).sendCells m (s.dev.regionOwner x.dstRegion) (r.map (fun i => i.1.length)).sum }) ∧
  (∀ (d : Dev) (m : MapCells) (dst bytes : Nat),
    (d.sendCells m dst bytes).img.cells = d.fabSync.img.cells ++ [{ m with id := d.fabSync.fab.nextId }] ∧
    ((d.sendCells m dst bytes).fin (cellPort m.src)).maps = (d.fabSync.fin (cellPort m.src)).maps ++
      (List.range (max 1 (cellCount bytes))).map (mapCell d.fabSync.fab.nextId (max 1 (cellCount bytes)) (cellPort m.src) (cellPort dst) bytes) ∧
    (∀ i, i ≠ cellPort m.src → (d.sendCells m dst bytes).fin i = d.fabSync.fin i) ∧ (d.sendCells m dst bytes).regs = d.fabSync.regs) ∧
  (∀ (n : Fin 4096) (x : MapRule) (s : State) (r : List (List Byte × Nat)) (d : Dev), s.dev.rule? n = some x → (s.dev.ruleRun n).started = false →
    s.dev.gaitClosed (s.dev.get (R.IMG_CFG_GAIT x.dstRegion)) = false → x.chain = false → ruleResults s.mem s.dev x = (r, d) →
    s.dev.executor x = s.dev.regionOwner x.dstRegion → s.dev.executor x < 12 →
    exec (.mappingRuleRun n) s = .next ((({ s with dev := d.setRuleRun n { started := true, delivered := false, stride := s.dev.workStride (s.dev.get (R.IMG_CFG_GAIT x.dstRegion)) } } : State).deliverItems
      { Req.cells (s.dev.executor x) with port := 1 } x.dstRegion x.dstItem (s.dev.workStride (s.dev.get (R.IMG_CFG_GAIT x.dstRegion))) r).on (fun d => d.ruleDelivered n))) ∧
  (∀ (dst : Fin 13) (s : State), (∀ c ∈ s.dev.img.cells, c.port.getD (s.dev.regionOwner c.region) ≠ dst.val) → exec (.mappingCellDelivery dst) s = .next s) ∧
  (∀ (dst : Fin 13) (s u : State) (c0 c : MapCells), s.dev.img.cells.find? (fun c => c.port.getD (s.dev.regionOwner c.region) == dst.val) = some c0 →
    u = s.on (fun d => d.fabWait (fun x => (x.img.cells.find? (fun c => c.id == c0.id)).any (fun c => x.cellsThere c dst))) →
    u.dev.img.cells.find? (fun c => c.id == c0.id) = some c →
    (u.dev.cellsThere c dst = false → exec (.mappingCellDelivery dst) s = .next u) ∧
    (u.dev.cellsThere c dst = true → c.mover = none → c.lost = true →
      exec (.mappingCellDelivery dst) s = .next (u.on (fun d => (d.dropCells c).dropList c))) ∧
    (u.dev.cellsThere c dst = true → c.mover = none → c.lost = false → c.rule = none → c.items ≠ [] →
      exec (.mappingCellDelivery dst) s = .next ((u.on (fun d => (d.dropCells c).dropList c)).deliverItems (Req.cells dst) c.region c.item c.stride c.items))) ∧
  (∀ (d : Dev) (c : MapCells), ∀ x ∈ ((d.dropCells c).dropList c).img.cells, x.id ≠ c.id) ∧
  (∀ (q : Req) (region item stride : Nat) (l : List (List Byte × Nat)) (s : State), s.dev.strideLive = true →
    stride ≠ s.dev.workStride (s.dev.get (R.IMG_CFG_GAIT region)) →
    (s.deliverItems q region item stride l).mem = s.mem ∧ (s.deliverItems q region item stride l).dev.get (R.IMG_FLAGS_WRITE_REJ region) = 1 ∧
    (s.deliverItems q region item stride l).dev.get (R.IMG_FLAGS_COMMIT_REJ region) = 1) ∧
  (∀ (ty : Nat) (v : Int), (typeRange ty).1 ≤ (saturate ty v).1 ∧ (saturate ty v).1 ≤ (typeRange ty).2 ∧
    ((saturate ty v).2 = false ↔ (typeRange ty).1 ≤ v ∧ v ≤ (typeRange ty).2) ∧ ((saturate ty v).2 = false → (saturate ty v).1 = v) ∧
    convertTo 0 v = (if v = 0 then 0 else 1, false) ∧ (ty ≠ 0 → convertTo ty v = saturate ty v))

/-- The copy that a team port, F38 or F39 selects is one of the highest class among those that wait for the output with their first cell in the
fabric, and of that class the oldest. At a team port or F38 that sends nothing it starts, once it is ready (R176), with the tags and the FCS of its
egress, unless it is seen to be BAD or is over its age limit: then it is taken away, the old one counted in AGE_DROP, and the next one is
selected. A start counts in FRAMES_OUT. An ECC error met in a cell of the copy that an output sends or selects is corrected with ECC_CORR, or makes the
frame BAD with ECC_UNCORR. An underrun ends a frame in transmission that lacks a cell, counts it, and at a network port the bytes sent leave with an
inverted FCS. CLR_CNT zeroes the counters of every port. -/
def Obligations.SwitchOutputs : Prop :=
  (∀ (d : Dev) (j : Nat) (c : Copy), d.bestCopy j = some c → c ∈ d.waiting j ∧ d.arrived c = true ∧ c ∈ d.fab.copies ∧ c.dst = j ∧
    ∀ x ∈ d.waiting j, d.arrived x = true → x.cls ≤ c.cls ∧ (x.cls = c.cls → d.age x ≤ d.age c)) ∧
  (∀ (d : Dev) (j : Nat), d.bestCopy j = none → ∀ x ∈ d.waiting j, d.arrived x = false) ∧
  (∀ (j : Fin 40) (c : Copy) (s : State) (d : Dev), 26 ≤ j.val → j.val ≠ 39 → s.dev.sending j = none → d = s.dev.awaitAny j → d.bestCopy j = some c →
    (d.seenBad c = false → d.ready c = true → d.tooOld c = false →
      exec (.frameStartEgress j none) s = .next { s with dev := d.startFrame j { copy := c, wire := withFcs (d.tagBody j c (frameBody c.bytes)) c.bad, start := d.now } }) ∧
    (d.seenBad c = false → d.ready c = true → d.tooOld c = true →
      exec (.frameStartEgress j none) s = .next { s with dev := (d.ageDrop j c).startPlain j (2 * s.dev.fab.copies.length + 1) }) ∧
    (d.seenBad c = false → d.ready c = false →
      exec (.frameStartEgress j none) s = .next { s with dev := (d.awaitCopy j c).startPlain j (2 * s.dev.fab.copies.length + 1) }) ∧
    (d.seenBad c = true →
      exec (.frameStartEgress j none) s = .next { s with dev := (d.takeCopy c).startPlain j (2 * s.dev.fab.copies.length + 1) })) ∧
  (∀ (j : Fin 40) (s : State) (d : Dev), 26 ≤ j.val → j.val ≠ 39 → s.dev.sending j = none → d = s.dev.awaitAny j → d.bestCopy j = none →
    exec (.frameStartEgress j none) s = .next { s with dev := d }) ∧
  (∀ (d : Dev) (j : Fin 40) (t : TxFrame), (d.startFrame j t).sending j = some t ∧ (d.startFrame j t).fab.copies = d.fab.copies ∧
    (d.startFrame j t).get (R.SW_PORT_CNT_FRAMES_OUT j) = (d.get (R.SW_PORT_CNT_FRAMES_OUT j) + 1) % 2 ^ 32) ∧
  (∀ (d : Dev) (j : Fin 40) (c : Copy), (d.takeCopy c).fab.copies = d.fab.copies.filter (fun x => x.id != c.id) ∧
    (d.ageDrop j c).fab.copies = d.fab.copies.filter (fun x => x.id != c.id) ∧ (d.ageDrop j c).get R.SW_EVT_AGE_DROP = 1 ∧
    (d.ageDrop j c).get (R.SW_PORT_CNT_AGE_DROP j) = (d.get (R.SW_PORT_CNT_AGE_DROP j) + 1) % 2 ^ 32) ∧
  (∀ (j : Fin 40) (s : State), 26 ≤ j.val → j.val ≠ 39 → (s.dev.sending j).isSome = true →
    exec (.frameStartEgress j none) s = .next (s.on (fun d => d.fabSync))) ∧
  (∀ (s : State), exec (.frameStartEgress 39 none) s = .next (s.on (fun d => d.startLoop))) ∧
  (∀ (j : Fin 40) (s : State), j.val < 26 → exec (.frameStartEgress j none) s = .next (s.on (fun d => d.startPort j 0))) ∧
  (∀ (j : Fin 40) (n : Nat) (c : Copy) (s : State),
    ((s.dev.sending j).map (fun t => t.copy)).or ((s.dev.waiting j).find? (fun x => s.dev.arrived x)) = some c →
    ((s.dev.cellsOf c).any (fun x => x.n == n) = true →
      exec (.frameStartEgress j (some (n, .ce))) s = .next (s.on (fun d => (d.swCause R.SW_EVT_ECC_CORR 6).startEgress j)) ∧
      exec (.frameStartEgress j (some (n, .ue))) s = .next (s.on (fun d =>
        (((d.editCopy c.id (fun x => { x with bad := true, hit := true })).swCause R.SW_EVT_ECC_UNCORR 7).eccEvent 1).startEgress j))) ∧
    ((s.dev.cellsOf c).any (fun x => x.n == n) = false → ∀ e, exec (.frameStartEgress j (some (n, e))) s = exec (.frameStartEgress j none) s)) ∧
  (∀ (j : Fin 40) (u : Nat × Ecc) (s : State), s.dev.sending j = none → (s.dev.waiting j).find? (fun x => s.dev.arrived x) = none →
    exec (.frameStartEgress j (some u)) s = exec (.frameStartEgress j none) s) ∧
  (∀ (j : Fin 40) (sent : Nat) (x : TxFrame) (s : State), s.dev.fabSync.sending j = some x → s.dev.fabSync.lacksCell j x = true →
    ∃ t, exec (.underrun j sent) s = .next t ∧ t.dev.sending j = none ∧ t.mem = s.mem ∧ t.dev.get R.SW_EVT_UNDERRUN = 1 ∧
      (j.val ≠ 39 → t.dev.get (R.SW_PORT_CNT_UNDERRUN j) = (s.dev.fabSync.get (R.SW_PORT_CNT_UNDERRUN j) + 1) % 2 ^ 32) ∧
      (j.val < 26 → t.dev.out.getLast? = some (.frame j (withFcs (x.wire.take (min sent (x.wire.length - 4))) true) true))) ∧
  (∀ (j : Fin 40) (sent : Nat) (s : State), (s.dev.fabSync.sending j = none ∨ ∃ x, s.dev.fabSync.sending j = some x ∧ s.dev.fabSync.lacksCell j x = false) →
    exec (.underrun j sent) s = .next (s.on (fun d => d.fabSync))) ∧
  (∀ (w : Writer) (s : State), s.dev.mayWrite w 0xC0000 = true →
    ∃ t, exec (.swClrCnt w) s = .next t ∧ t.mem = s.mem ∧ t.dev = { s.dev with regs := t.dev.regs } ∧ t.dev.get R.SWM_CNT_HRX_DROP = 0 ∧
      t.dev.get R.SWM_CNT_CAP_DROP = 0 ∧ ∀ p < 40, t.dev.get (R.SW_PORT_CNT_FRAMES_IN p) = 0 ∧ t.dev.get (R.SW_PORT_CNT_FRAMES_OUT p) = 0 ∧
        t.dev.get (R.SW_PORT_CNT_AGE_DROP p) = 0 ∧ t.dev.get (R.SW_PORT_CNT_LATE p) = 0 ∧ t.dev.get (R.SW_PORT_CNT_BUF_DROP p) = 0 ∧
        t.dev.get (R.SW_PORT_CNT_UNDERRUN p) = 0 ∧ t.dev.get (R.SW_PORT_CNT_SCHED_COLLIDE p) = 0 ∧ t.dev.get (R.SW_PORT_CNT_MC_LOOP p) = 0 ∧
        t.dev.get (R.SW_PORT_CNT_FCS_MARK p) = 0 ∧ t.dev.get (R.SW_PORT_CNT_SLOT_OVER p) = 0 ∧ t.dev.get (R.SW_PORT_CNT_SCHED_MAX p) = 0)

/-- Of a frame at output F38 every mirror copy goes to the capture area while capture is on, a management frame that is no mirror copy to the Bridle,
any other to the host's receive ring; the output is free again. It is taken once its last cell is in the output store, with the bytes that the egress
leaves it; a BAD one has its FCS inverted and counts. With a receive ring of no entries the frame is dropped and HRX_DROP counts it. A
capture record that does not fit, without WRAP, is not stored, clears EN, counts CAP_DROP and sets CAP_FULL. A write of SWM_HTX_TAIL posts entries;
each entry that the mover finishes moves the head on by one, modulo COUNT, with HOST_TX. A 0 in a ring's COUNT stops it and zeroes its indices. -/
def Obligations.SwitchMover : Prop :=
  (∀ (c : Copy) (d : Dev) (s : State), s.dev.takeFrame 38 = (some c, d) →
    (c.mirror = true → d.on R.SWM_CAP_CFG_EN = true → exec .f38FrameDelivery s = .next (({ s with dev := d } : State).capture c)) ∧
    (c.mirror = false → c.mgmt = true →
      exec .f38FrameDelivery s = .next { s with dev := d.withFab (fun f => { f with bridleRx := f.bridleRx ++ [(c.src, c.bytes)] }) }) ∧
    ((c.mirror = true ∧ d.on R.SWM_CAP_CFG_EN = false ∨ c.mirror = false ∧ c.mgmt = false) →
      exec .f38FrameDelivery s = .next (({ s with dev := d } : State).hostRx c))) ∧
  (∀ (d : Dev) (s : State), s.dev.takeFrame 38 = (none, d) → exec .f38FrameDelivery s = .next { s with dev := d }) ∧
  (∀ (d : Dev) (j : Nat), (d.takeFrame j).2.sending j = none) ∧
  (∀ (d : Dev) (j : Nat) (x y : TxFrame), d.sending j = some x → d.fabSync.sending j = some y →
    (d.fabSync.fab.stores.getD j []).any (fun e => !e.2.map && e.2.id == x.copy.id && e.2.last) = true →
    d.takeFrame j = if y.copy.bad then (some { y.copy with bytes := withFcs (frameBody y.wire) true }, ((d.fabSync.endTx j).lateMark j y.copy).fcsMark j)
      else (some { y.copy with bytes := y.wire }, (d.fabSync.endTx j).lateMark j y.copy)) ∧
  (∀ (c : Copy) (s : State), s.dev.get R.SWM_HRXR_CFG_COUNT = 0 → (s.hostRx c).mem = s.mem ∧
    (s.hostRx c).dev.get R.SWM_CNT_HRX_DROP = (s.dev.get R.SWM_CNT_HRX_DROP + 1) % 2 ^ 16) ∧
  (∀ (c : Copy) (s : State), s.dev.get R.SWM_CAP_CFG_SIZE * 4096 < s.dev.get R.SWM_CAP_PTR_OFFSET + (captureBytes c).length →
    s.dev.on R.SWM_CAP_CFG_WRAP = false → (s.capture c).mem = s.mem ∧ (s.capture c).dev.get R.SWM_CAP_CFG_EN = 0 ∧
    (s.capture c).dev.get R.SWM_CNT_CAP_DROP = (s.dev.get R.SWM_CNT_CAP_DROP + 1) % 2 ^ 16 ∧ (s.capture c).dev.get R.SW_EVT_CAP_FULL = 1) ∧
  (∀ (w : Writer) (v : W32) (s : State), Grants s w R.SWM_HTX_TAIL → v.toNat < 2 ^ 11 →
    ∃ t, exec (.swmHtxTail w v) s = .next t ∧ t.dev.get R.SWM_HTX_TAIL = v.toNat ∧ OnlyRegs [R.SWM_HTX_TAIL] s t) ∧
  (∀ s : State, (s.dev.get R.SWM_HTXR_CFG_COUNT = 0 ∨ s.dev.get R.SWM_HTX_HEAD = s.dev.get R.SWM_HTX_TAIL) → exec .hostTxDone s = .next s) ∧
  (∀ s : State, s.dev.get R.SWM_HTXR_CFG_COUNT ≠ 0 → s.dev.get R.SWM_HTX_HEAD ≠ s.dev.get R.SWM_HTX_TAIL →
    ∃ t, exec .hostTxDone s = .next t ∧ t.dev.get R.SWM_HTX_HEAD = (s.dev.get R.SWM_HTX_HEAD + 1) % s.dev.get R.SWM_HTXR_CFG_COUNT ∧
      t.dev.get R.SW_EVT_HOST_TX = 1) ∧
  (∀ (w : Writer) (s : State), Grants s w R.SWM_HTXR_CFG_COUNT →
    ∃ t, exec (.swmRingStop w false) s = .next t ∧ t.dev.get R.SWM_HTXR_CFG_COUNT = 0 ∧ t.dev.get R.SWM_HTX_TAIL = 0 ∧ t.dev.get R.SWM_HTX_HEAD = 0 ∧
      t.mem = s.mem ∧ t.dev.fab = s.dev.fab) ∧
  (∀ (w : Writer) (s : State), Grants s w R.SWM_HRXR_CFG_COUNT →
    ∃ t, exec (.swmRingStop w true) s = .next t ∧ t.dev.get R.SWM_HRXR_CFG_COUNT = 0 ∧ t.dev.get R.SWM_HRX_NEXT = 0 ∧ t.mem = s.mem ∧
      t.dev.fab = s.dev.fab)

/-- A port in a mode with no MAC, with its link down, or with a ride path takes no frame here. A whole frame is counted in RX_FRAMES and RX_OCTETS, and
in RX_FCS_ERR, RX_RUNT and RX_SYMBOL_ERR where it applies; it is BAD exactly when one of these holds. Before the first activation a frame at a port
that is no management port enters no queue. A first fragment is held with its timestamp point, a following one is appended to it; the last makes the
whole frame with ASSY_OK, BAD when a fragment had a receive error; one without a start counts ASSY_ERR. A verify mPacket is answered with a response, a
response ends the exchange that waits for it; an unknown one counts SMD_ERR. LPI shows in LPI_RX of a port without a SerDes lane. -/
def Obligations.PortReceive : Prop :=
  (∀ (p : Fin 26) (k : MPacket) (l : List Byte) (err : Bool) (ph : Fin 8) (s : State),
    (macMode (s.dev.portMode p) = false ∨ s.dev.linkUp p = false ∨ (16 ≤ p.val ∧ p.val < 24 ∧ s.dev.get (R.RIDE_CFG_MODE p) ≠ 0)) →
    exec (.frameReceive p k l err ph) s = .next s) ∧
  (∀ (d : Dev) (p : Nat) (l : List Byte) (err : Bool),
    (d.rxCount p l err).1.get (R.PORT_CNT_RX_FRAMES p) = (d.get (R.PORT_CNT_RX_FRAMES p) + 1) % 2 ^ 32 ∧
    (d.rxCount p l err).1.get (R.PORT_CNT_RX_OCTETS p) = (d.get (R.PORT_CNT_RX_OCTETS p) + l.length) % 2 ^ 32 ∧
    (d.rxCount p l err).1.get (R.PORT_CNT_RX_FCS_ERR p) = (d.get (R.PORT_CNT_RX_FCS_ERR p) + (if fcsGood l then 0 else 1)) % 2 ^ 32 ∧
    (d.rxCount p l err).1.get (R.PORT_CNT_RX_RUNT p) = (d.get (R.PORT_CNT_RX_RUNT p) + (if l.length < 64 then 1 else 0)) % 2 ^ 32 ∧
    (d.rxCount p l err).1.get (R.PORT_CNT_RX_SYMBOL_ERR p) = (d.get (R.PORT_CNT_RX_SYMBOL_ERR p) + (if err then 1 else 0)) % 2 ^ 32 ∧
    (d.rxCount p l err).2 = (!fcsGood l || decide (l.length < 64) || err) ∧ (d.rxCount p l err).1.fab = d.fab) ∧
  (∀ (p : Fin 26) (l : List Byte) (err : Bool) (ph : Fin 8) (s : State), macMode (s.dev.portMode p) = true → s.dev.linkUp p = true →
    (p.val < 16 ∨ 24 ≤ p.val ∨ s.dev.get (R.RIDE_CFG_MODE p) = 0) →
    exec (.frameReceive p .frame l err ph) s = .next (s.on (fun d => d.rxFrame p l err (d.rxPoint ph))) ∧
    (s.dev.pairOf p = none → s.dev.on R.SW_STATUS_CFG_ACTIVE = false → s.dev.host.record.mgmtPorts.testBit p = false →
      ∃ t, exec (.frameReceive p .frame l err ph) s = .next t ∧ t.dev.fab = s.dev.fab ∧ t.mem = s.mem)) ∧
  (∀ (p : Fin 26) (l : List Byte) (err : Bool) (ph : Fin 8) (s : State), macMode (s.dev.portMode p) = true → s.dev.linkUp p = true →
    (p.val < 16 ∨ 24 ≤ p.val ∨ s.dev.get (R.RIDE_CFG_MODE p) = 0) →
    (∃ t, exec (.frameReceive p .first l err ph) s = .next t ∧ Tab.find? t.dev.net.assy p = some { s.dev.rxPoint ph with bytes := l, err := err } ∧
      (Tab.find? s.dev.net.assy p = none → OnlyRegs [] s { t with dev := { t.dev with net := s.dev.net } }) ∧
      ((Tab.find? s.dev.net.assy p).isSome = true → t.dev.get (R.PORT_CNT_ASSY_ERR p) = (s.dev.get (R.PORT_CNT_ASSY_ERR p) + 1) % 2 ^ 32)) ∧
    (∀ a, Tab.find? s.dev.net.assy p = some a →
      (∃ t, exec (.frameReceive p .middle l err ph) s = .next t ∧
        Tab.find? t.dev.net.assy p = some { a with bytes := a.bytes ++ l, err := a.err || err } ∧
        OnlyRegs [] s { t with dev := { t.dev with net := s.dev.net } }) ∧
      exec (.frameReceive p .last l err ph) s = .next (s.on (fun d =>
        ((d.withNet (fun x => { x with assy := x.assy.del p })).inc (R.PORT_CNT_ASSY_OK p)).rxFrame p (a.bytes ++ l) (a.err || err) a))) ∧
    (∀ k, (k = .middle ∨ k = .last) → Tab.find? s.dev.net.assy p = none →
      ∃ t, exec (.frameReceive p k l err ph) s = .next t ∧
        t.dev.get (R.PORT_CNT_ASSY_ERR p) = (s.dev.get (R.PORT_CNT_ASSY_ERR p) + 1) % 2 ^ 32 ∧ OnlyRegs [R.PORT_CNT_ASSY_ERR p] s t) ∧
    exec (.frameReceive p .verify l err ph) s = .next (s.on (fun d => d.emit (.verify p true))) ∧
    (s.dev.get (R.PREEMPT_STATUS_VERIFY p) = 2 → ∃ t, exec (.frameReceive p .response l err ph) s = .next t ∧
      t.dev.get (R.PREEMPT_STATUS_VERIFY p) = 3 ∧ OnlyRegs [R.PREEMPT_STATUS_VERIFY p] s t) ∧
    (s.dev.get (R.PREEMPT_STATUS_VERIFY p) ≠ 2 → exec (.frameReceive p .response l err ph) s = .next s) ∧
    (∃ t, exec (.frameReceive p .unknown l err ph) s = .next t ∧
      t.dev.get (R.PORT_CNT_SMD_ERR p) = (s.dev.get (R.PORT_CNT_SMD_ERR p) + 1) % 2 ^ 32 ∧ OnlyRegs [R.PORT_CNT_SMD_ERR p] s t) ∧
    (∀ on, p.val < 16 → exec (.frameReceive p (.lpi on) l err ph) s = .next s) ∧
    (∀ on, 16 ≤ p.val → ∃ t, exec (.frameReceive p (.lpi on) l err ph) s = .next t ∧
      t.dev.get (R.PORT_STATUS_LPI_RX p) = (if on then 1 else 0) ∧ OnlyRegs [R.PORT_STATUS_LPI_RX p] s t))

/-- The end of a frame in transmission frees the output, counts it in TX_FRAMES and TX_OCTETS, in FCS_MARK when it is BAD, and the frame leaves, a BAD
one with its FCS inverted; of a preempted frame the last part leaves as a fragment. A frame that lacked a cell underruns there instead. A port that
sends nothing selects first, or resumes the frame that it preempted. When the earliest launch time that waits at a queue's head is reached, the port
selects at that time. A selected head is of the highest queue that has an eligible head, whose gate is open. -/
def Obligations.PortTransmit : Prop :=
  (∀ (p : Fin 26) (ph : Fin 8) (x : TxFrame) (s : State), s.dev.sending p = some x →
    exec (.frameTransmit p ph) s = .next (s.on (fun d => d.finishTx p x))) ∧
  (∀ (p : Fin 26) (x y : TxFrame) (d e : Dev), e = (d.passNs (x.start + d.wireNs p (x.wire.length - x.sent) - d.now)).fabSync → e.sending p = some y →
    (∀ n, e.missingCell p y = some n → d.finishTx p x = e.underrun p (32 * n)) ∧
    (e.missingCell p y = none →
      (d.finishTx p x).sending p = none ∧
      (d.finishTx p x).get (R.PORT_CNT_TX_FRAMES p) = (e.get (R.PORT_CNT_TX_FRAMES p) + 1) % 2 ^ 32 ∧
      (d.finishTx p x).get (R.SW_PORT_CNT_FCS_MARK p) = (e.get (R.SW_PORT_CNT_FCS_MARK p) + (if y.copy.bad then 1 else 0)) % 2 ^ 32 ∧
      (d.finishTx p x).get (R.PORT_CNT_TX_OCTETS p) =
        (e.get (R.PORT_CNT_TX_OCTETS p) + (if y.copy.bad then withFcs (frameBody y.wire) true else y.wire).length) % 2 ^ 32 ∧
      (y.sent = 0 → (d.finishTx p x).out.getLast? = some (.frame p (if y.copy.bad then withFcs (frameBody y.wire) true else y.wire) y.copy.bad)) ∧
      (y.sent ≠ 0 → (d.finishTx p x).out.getLast? = some (.fragment p ((if y.copy.bad then withFcs (frameBody y.wire) true else y.wire).drop y.sent) true) ∧
        (d.finishTx p x).get (R.PORT_CNT_FRAG_TX p) = (e.get (R.PORT_CNT_FRAG_TX p) + 1) % 2 ^ 32))) ∧
  (∀ (p : Fin 26) (ph : Fin 8) (s : State) (d : Dev), s.dev.sending p = none → d = s.dev.startPort p ph →
    (∀ x, d.sending p = some x → exec (.frameTransmit p ph) s = .next { s with dev := d.finishTx p x }) ∧
    (∀ x, d.sending p = none → (d.resume p).sending p = some x → exec (.frameTransmit p ph) s = .next { s with dev := (d.resume p).finishTx p x }) ∧
    (d.sending p = none → (d.resume p).sending p = none → exec (.frameTransmit p ph) s = .next { s with dev := d.resume p })) ∧
  (∀ (p : Fin 26) (s : State), ((List.range 8).filterMap (fun q => (s.dev.queueHead p q).bind (fun c => s.dev.launchOf p c))).min? = none →
    exec (.launchTimeReached p) s = .next s) ∧
  (∀ (p : Fin 26) (v : Nat) (s : State), ((List.range 8).filterMap (fun q => (s.dev.queueHead p q).bind (fun c => s.dev.launchOf p c))).min? = some v →
    exec (.launchTimeReached p) s = .next (s.on (fun d =>
      (d.passTo (d.get (R.TS_PORT_CFG_TB p)) ((d.tb (d.get (R.TS_PORT_CFG_TB p))).val / 2 ^ 96 * 2 ^ 96 + d.launchAt p v)).startPort p 0))) ∧
  (∀ (d : Dev) (p : Nat) (off : Int) (c : Copy), d.pick p off = some c → (d.gatesOpen p).testBit c.cls = true ∧ c ∈ d.fab.copies ∧ c.dst = p ∧
    ∀ q < 8, c.cls < q → ∀ x, d.queueHead p q = some x → d.eligible p off x = false)

/-- EN = 1 enables a port. A link that comes up in an enabled mode that needs no failed auto-negotiation sets LINK, clears FAIL and raises LINK_CHG; a
loss clears LINK and both LPI indications, gives FAIL its cause, ends the frame in transmission and the reassembly, and a frame in reception gets BAD. AN_RESTART takes the link down in the modes that
negotiate and does nothing in the others. A failed auto-negotiation leaves the link down with FAIL 3, or 4 for a half-duplex or 10 Mb/s partner on
the copper port. CLR_CNT zeroes the counters of the port and, on a lane, of the lane. A failed verify exchange leaves VERIFY at 4 with its event.
START of a cable test with the link down sets BUSY and clears VALID; with the link up both codes are 5 at once, the distances values that the spec
leaves open (any value: they are the model's free values, assumption log 1 and 12); while BUSY it does nothing. The end of a test gives both pairs'
codes and distances, with VALID, BUSY 0 and DIAG_DONE. GO of MDIO_CMD with no reserved code sends the frame and sets BUSY; while BUSY it does
nothing; a code that the clause does not have sends nothing. The frame's end clears BUSY and GO, and a read takes its data. -/
def Obligations.PortLinksAndTests : Prop :=
  (∀ (w : Writer) (p : Fin 26) (s : State), Grants s w (R.PORT_CTRL_EN p) →
    ∃ t, exec (.portEnable w p) s = .next t ∧ t.dev.get (R.PORT_CTRL_EN p) = 1 ∧ OnlyRegs [R.PORT_CTRL_EN p] s t) ∧
  (∀ (p : Fin 26) (speed : Fin 4) (an : Bool) (s : State), s.dev.portMode p ≠ 0 → s.dev.on (R.PORT_CTRL_EN p) = true →
    (s.dev.portMode p = 1 → s.dev.on (R.PORT_CTRL_AN_EN p) = true → an = true) →
    ∃ t, exec (.linkUp p speed an) s = .next t ∧ t.dev.get (R.PORT_STATUS_LINK p) = 1 ∧ t.dev.get (R.PORT_STATUS_FAIL p) = 0 ∧
      t.dev.get (R.PORT_STATUS_SPEED p) = (if s.dev.portMode p = 7 then min speed.val 2 else 3) ∧
      (s.dev.linkUp p = false → t.dev.get (R.PORT_EVT_LINK_CHG p) = 1) ∧ t.mem = s.mem ∧ t.dev.fab = s.dev.fab) ∧
  (∀ (p : Fin 26) (speed : Fin 4) (an : Bool) (s : State), (s.dev.portMode p = 0 ∨ s.dev.on (R.PORT_CTRL_EN p) = false) →
    exec (.linkUp p speed an) s = .next s) ∧
  (∀ (p : Fin 26) (fail : Fin 6) (s : State),
    ∃ t, exec (.linkLoss p fail) s = .next t ∧ t.dev.get (R.PORT_STATUS_LINK p) = 0 ∧ t.dev.get (R.PORT_STATUS_FAIL p) = fail.val ∧
      t.dev.sending p = none ∧ Tab.find? t.dev.net.assy p = none ∧ (s.dev.linkUp p = true → t.dev.get (R.PORT_EVT_LINK_CHG p) = 1) ∧
      t.dev.get (R.PORT_STATUS_LPI_TX p) = 0 ∧ t.dev.get (R.PORT_STATUS_LPI_RX p) = 0 ∧ t.dev.get (R.PORT_STATUS_AN_DONE p) = 0 ∧ t.mem = s.mem) ∧
  (∀ (d : Dev) (p : Nat), d.ride p = none → Tab.find? d.net.assy p = none →
    ((d.fabSync.fin p).cur = none → (d.fabSync.fin p).wait = [] → d.rxCut p = d.fabSync) ∧
    ∀ g ∈ (d.fabSync.fin p).cur.toList ++ (d.fabSync.fin p).wait, ∀ c ∈ (d.rxCut p).fab.copies, c.id ∈ g.copies → c.bad = true) ∧
  (∀ (w : Writer) (p : Fin 26) (s : State), Grants s w (R.PORT_CTRL_EN p) → (s.dev.portMode p = 1 ∨ s.dev.portMode p = 6) →
    s.dev.on (R.PORT_CTRL_AN_EN p) = true → s.dev.on (R.PORT_CTRL_EN p) = true →
    ∃ t, exec (.anRestart w p) s = .next t ∧ t.dev.get (R.PORT_STATUS_LINK p) = 0 ∧ t.dev.get (R.PORT_STATUS_AN_DONE p) = 0) ∧
  (∀ (w : Writer) (p : Fin 26) (s : State), Grants s w (R.PORT_CTRL_EN p) → (s.dev.portMode p ≠ 1 ∧ s.dev.portMode p ≠ 6 ∨
    s.dev.on (R.PORT_CTRL_AN_EN p) = false ∨ s.dev.on (R.PORT_CTRL_EN p) = false) → exec (.anRestart w p) s = .next s) ∧
  (∀ (p : Fin 26) (half : Bool) (s : State), s.dev.on (R.PORT_CTRL_EN p) = true → (s.dev.portMode p = 1 ∨ s.dev.portMode p = 6) →
    ∃ t, exec (.autoNegotiationFailed p half) s = .next t ∧ t.dev.get (R.PORT_STATUS_LINK p) = 0 ∧
      t.dev.get (R.PORT_STATUS_FAIL p) = (if s.dev.portMode p = 6 ∧ half = true then 4 else 3)) ∧
  (∀ (p : Fin 26) (half : Bool) (s : State), (s.dev.on (R.PORT_CTRL_EN p) = false ∨ (s.dev.portMode p ≠ 1 ∧ s.dev.portMode p ≠ 6)) →
    exec (.autoNegotiationFailed p half) s = .next s) ∧
  (∀ (w : Writer) (p : Fin 26) (s : State), Grants s w (R.PORT_CTRL_EN p) →
    ∃ t, exec (.portClrCnt w p) s = .next t ∧ t.mem = s.mem ∧ t.dev = { s.dev with regs := t.dev.regs } ∧
      (∀ f : Fld, f.lo = 0 → (R.PORT_CNT_RX_FRAMES p).addr ≤ f.addr → f.addr ≤ (R.PORT_CNT_LPI_LATE_WAKE p).addr → f.addr % 4 = 0 → t.dev.get f = 0) ∧
      (p.val < 16 → ∀ f : Fld, f.lo = 0 → (R.HN_CNT_TX_FRAMES p).addr ≤ f.addr → f.addr ≤ (R.HN_CNT_ISOLATIONS p).addr → f.addr % 4 = 0 → t.dev.get f = 0) ∧
      (∀ f : Fld, f.addr < (R.PORT_CNT_RX_FRAMES p).addr → f.lo < 32 → t.dev.get f = s.dev.get f)) ∧
  (∀ (p : Fin 26) (s : State), s.dev.get (R.PREEMPT_STATUS_VERIFY p) = 2 →
    ∃ t, exec (.verifyFail p) s = .next t ∧ t.dev.get (R.PREEMPT_STATUS_VERIFY p) = 4 ∧ t.dev.get (R.PORT_EVT_VERIFY_FAIL p) = 1 ∧
      OnlyRegsEv [R.PREEMPT_STATUS_VERIFY p, R.PORT_EVT_VERIFY_FAIL p] s t) ∧
  (∀ (p : Fin 26) (s : State), s.dev.get (R.PREEMPT_STATUS_VERIFY p) ≠ 2 → exec (.verifyFail p) s = .next s) ∧
  (∀ (w : Writer) (p : Fin 26) (s : State), Grants s w (R.DIAG_CTRL_START p) → phyPort p = true → s.dev.on (R.DIAG_CTRL_BUSY p) = false →
    s.dev.linkUp p = false →
    ∃ t, exec (.diagStart w p) s = .next t ∧ t.dev.get (R.DIAG_CTRL_BUSY p) = 1 ∧ t.dev.get (R.DIAG_RESULT_VALID p) = 0 ∧
      OnlyRegs [R.DIAG_CTRL_START p, R.DIAG_CTRL_BUSY p, R.DIAG_RESULT_VALID p] s t) ∧
  (∀ (w : Writer) (p : Fin 26) (s : State), Grants s w (R.DIAG_CTRL_START p) → phyPort p = true → s.dev.on (R.DIAG_CTRL_BUSY p) = false →
    s.dev.linkUp p = true →
    ∃ t, exec (.diagStart w p) s = .next t ∧ t.dev.get (R.DIAG_RESULT_A_CODE p) = 5 ∧ t.dev.get (R.DIAG_RESULT_B_CODE p) = 5 ∧
      t.dev.get (R.DIAG_RESULT_VALID p) = 1 ∧ t.dev.get (R.DIAG_CTRL_BUSY p) = 0 ∧ t.dev.get (R.PORT_EVT_DIAG_DONE p) = 1 ∧ t.mem = s.mem) ∧
  (∀ (w : Writer) (p : Fin 26) (s : State), Grants s w (R.DIAG_CTRL_START p) → (phyPort p = false ∨ s.dev.on (R.DIAG_CTRL_BUSY p) = true) →
    exec (.diagStart w p) s = .next s) ∧
  (∀ (p : Fin 26) (a b : BitVec 12) (s : State), (phyPort p = false ∨ s.dev.on (R.DIAG_CTRL_BUSY p) = false) → exec (.diagDone p a b) s = .next s) ∧
  (∀ (p : Fin 26) (a b : BitVec 12) (s : State), phyPort p = true → s.dev.on (R.DIAG_CTRL_BUSY p) = true →
    ∃ t, exec (.diagDone p a b) s = .next t ∧ t.dev.get (R.DIAG_RESULT_A_CODE p) = a.toNat % 8 ∧ t.dev.get (R.DIAG_RESULT_A_DIST p) = a.toNat / 8 ∧
      t.dev.get (R.DIAG_RESULT_B_CODE p) = b.toNat % 8 ∧ t.dev.get (R.DIAG_RESULT_B_DIST p) = b.toNat / 8 ∧ t.dev.get (R.DIAG_RESULT_VALID p) = 1 ∧
      t.dev.get (R.DIAG_CTRL_BUSY p) = 0 ∧ t.dev.get (R.PORT_EVT_DIAG_DONE p) = 1) ∧
  (∀ (w : Writer) (v : W32) (s : State), Grants s w R.MDIO_CMD_GO → v.getLsbD 31 = true → s.dev.on R.MDIO_CMD_BUSY = false →
    mdioBad (v.getLsbD 30) (v.toNat / 2 ^ 28 % 4) = false → v.getLsbD 17 = false →
    ∃ t, exec (.mdioGo w v) s = .next t ∧ t.dev.get R.MDIO_CMD_BUSY = 1 ∧ t.dev.get R.MDIO_CMD_GO = 1 ∧ t.dev.get R.MDIO_CMD_OP = v.toNat / 2 ^ 28 % 4 ∧
      t.dev.get R.MDIO_CMD_PHYAD = v.toNat / 2 ^ 23 % 32 ∧ t.dev.get R.MDIO_CMD_REG = v.toNat / 2 ^ 18 % 32 ∧ t.dev.get R.MDIO_CMD_DATA = v.toNat % 2 ^ 16 ∧
      t.dev.out = s.dev.out ++ [.mdio (v.getLsbD 30) (v.toNat / 2 ^ 28 % 4) (v.toNat / 2 ^ 23 % 32) (v.toNat / 2 ^ 18 % 32) (v.toNat % 2 ^ 16)]) ∧
  (∀ (w : Writer) (v : W32) (s : State), Grants s w R.MDIO_CMD_GO → v.getLsbD 31 = true → s.dev.on R.MDIO_CMD_BUSY = true →
    exec (.mdioGo w v) s = .next s) ∧
  (∀ (w : Writer) (v : W32) (s : State), Grants s w R.MDIO_CMD_GO → s.dev.on R.MDIO_CMD_BUSY = false → (v.getLsbD 31 = false ∨
    mdioBad (v.getLsbD 30) (v.toNat / 2 ^ 28 % 4) = true ∧ mdioBad (v.getLsbD 30) (s.dev.get R.MDIO_CMD_OP) = true) →
    ∃ t, exec (.mdioGo w v) s = .next t ∧ t.dev.get R.MDIO_CMD_BUSY = 0 ∧ t.dev.get R.MDIO_CMD_GO = s.dev.get R.MDIO_CMD_GO ∧
      t.dev.get R.MDIO_CMD_DATA = v.toNat % 2 ^ 16 ∧ t.mem = s.mem) ∧
  (∀ (data : BitVec 16) (s : State), s.dev.on R.MDIO_CMD_BUSY = false → exec (.mdioDone data) s = .next s) ∧
  (∀ (data : BitVec 16) (s : State), s.dev.on R.MDIO_CMD_BUSY = true →
    ∃ t, exec (.mdioDone data) s = .next t ∧ t.dev.get R.MDIO_CMD_BUSY = 0 ∧ t.dev.get R.MDIO_CMD_GO = 0 ∧
      t.dev.get R.MDIO_CMD_DATA = (if s.dev.get R.MDIO_CMD_OP = 2 ∨ (s.dev.on R.MDIO_CMD_C45 = true ∧ s.dev.get R.MDIO_CMD_OP = 3) then data.toNat
        else s.dev.get R.MDIO_CMD_DATA) ∧ OnlyRegs [R.MDIO_CMD_BUSY, R.MDIO_CMD_GO, R.MDIO_CMD_DATA] s t)

/-- EN = 1 while EN is 0 makes the list of FIRST operating, which governs the gates from the next tick; EN = 0 disarms. ARM with EN sets ARMED, with SWITCH_LATE when the switch time has passed;
without EN it arms nothing. At the switch time the other list becomes operating, ARMED and ARM clear and GATE_SWITCHED is raised; a port that is not
armed keeps its list. The end of an entry lets the next gate states apply at that time. A GCL_DATA write enters a legal entry at INDEX of the list of
LIST and moves INDEX on; to the operating list, or to the other while armed, it sets CFG_REJ and enters nothing. -/
def Obligations.GateControl : Prop :=
  (∀ (w : Writer) (p : Fin 26) (s : State), Grants s w (R.GATE_CTRL_EN p) → s.dev.on (R.GATE_CTRL_EN p) = false →
    ∃ t, exec (.gateEnable w p true) s = .next t ∧ t.dev.get (R.GATE_CTRL_EN p) = 1 ∧ t.dev.get (R.GATE_STATUS_OPER p) = s.dev.get (R.GATE_CTRL_FIRST p) ∧
      t.mem = s.mem ∧ t.dev.net.gcl = s.dev.net.gcl ∧ t.dev.net.gateAt.getD p 0 = s.dev.now + 2) ∧
  (∀ (d : Dev) (p : Nat), d.now < d.net.gateAt.getD p 0 → d.gateNow p = none) ∧
  (∀ (w : Writer) (p : Fin 26) (s : State), Grants s w (R.GATE_CTRL_EN p) →
    ∃ t, exec (.gateEnable w p false) s = .next t ∧ t.dev.get (R.GATE_CTRL_EN p) = 0 ∧ t.dev.get (R.GATE_STATUS_ARMED p) = 0 ∧
      t.dev.get (R.GATE_CTRL_ARM p) = 0 ∧ t.dev.get (R.GATE_STATUS_OPER p) = s.dev.get (R.GATE_STATUS_OPER p)) ∧
  (∀ (w : Writer) (p : Fin 26) (s : State), Grants s w (R.GATE_CTRL_EN p) → s.dev.on (R.GATE_CTRL_EN p) = true → s.dev.on (R.GATE_STATUS_ARMED p) = false →
    ∃ t, exec (.gateArm w p) s = .next t ∧ t.dev.get (R.GATE_STATUS_ARMED p) = 1 ∧ t.dev.get (R.GATE_CTRL_ARM p) = 1 ∧
      t.dev.get (R.GATE_STATUS_OPER p) = s.dev.get (R.GATE_STATUS_OPER p) ∧
      (s.dev.portTime p (s.dev.get (R.GATE_SWITCH_TIME_LO p)) (s.dev.get (R.GATE_SWITCH_TIME_HI p)) (s.dev.get (R.GATE_SWITCH_TIME_XHI p)) < s.dev.portNow p →
        t.dev.get (R.PORT_EVT_SWITCH_LATE p) = 1)) ∧
  (∀ (w : Writer) (p : Fin 26) (s : State), Grants s w (R.GATE_CTRL_EN p) → s.dev.on (R.GATE_CTRL_EN p) = false →
    ∃ t, exec (.gateArm w p) s = .next t ∧ t.dev.get (R.GATE_STATUS_ARMED p) = 0 ∧ t.dev.get (R.GATE_CTRL_ARM p) = 0) ∧
  (∀ (p : Fin 26) (s : State), s.dev.on (R.GATE_STATUS_ARMED p) = true →
    ∃ t, exec (.gateListSwitch p) s = .next t ∧ t.dev.get (R.GATE_STATUS_OPER p) = 1 - s.dev.get (R.GATE_STATUS_OPER p) ∧
      t.dev.get (R.GATE_STATUS_ARMED p) = 0 ∧ t.dev.get (R.GATE_CTRL_ARM p) = 0 ∧ t.dev.get (R.PORT_EVT_GATE_SWITCHED p) = 1 ∧ t.mem = s.mem) ∧
  (∀ (p : Fin 26) (s : State), s.dev.on (R.GATE_STATUS_ARMED p) = false → exec (.gateListSwitch p) s = .next s) ∧
  (∀ (p : Fin 26) (e : GateStep) (r : List GateStep) (s : State), s.dev.gateNow p = some (e :: r) →
    exec (.gateEntryAdvance p) s = .next (s.on (fun d => (d.passTo (d.get (R.TS_PORT_CFG_TB p)) ((d.portNow p + e.ns) * 2 ^ 32)).gateRefresh p))) ∧
  (∀ (p : Fin 26) (s : State), s.dev.gateNow p = none → s.dev.on (R.GATE_CTRL_EN p) = true →
    exec (.gateEntryAdvance p) s = .next (s.on (fun d => (d.passTo (d.get (R.TS_PORT_CFG_TB p)) (d.gclBase p (d.get (R.GATE_STATUS_OPER p)) * 2 ^ 32)).gateRefresh p))) ∧
  (∀ (p : Fin 26) (s : State), s.dev.gateNow p = none → s.dev.on (R.GATE_CTRL_EN p) = false →
    exec (.gateEntryAdvance p) s = .next (s.on (fun d => d.gateRefresh p))) ∧
  (∀ (d : Dev) (p : Nat), d.sending p = none → (d.gateRefresh p).get (R.GATE_STATUS_GATES p) = d.gatesOpen p % 2 ^ 8 ∧
    (d.gateRefresh p).get (R.GATE_STATUS_ACTIVE p) = (if (d.gateNow p).isSome then 1 else 0)) ∧
  (∀ (w : Writer) (p : Fin 26) (v : W32) (s : State), Grants s w (R.GCL_DATA p) → v.toNat / 2 ^ 30 ≠ 3 → 4 ≤ v.toNat % 2 ^ 22 →
    (s.dev.on (R.GATE_CTRL_EN p) = true → s.dev.get (R.GCL_ADDR_LIST p) ≠ s.dev.get (R.GATE_STATUS_OPER p) ∧ s.dev.on (R.GATE_STATUS_ARMED p) = false) →
    ∃ t, exec (.gclDataWrite w p v) s = .next t ∧
      t.dev.net = { s.dev.net with gcl := s.dev.net.gcl.put (gclKey p (s.dev.get (R.GCL_ADDR_LIST p)) (s.dev.get (R.GCL_ADDR_INDEX p))) v.toNat } ∧
      t.dev.get (R.GCL_ADDR_INDEX p) = (s.dev.get (R.GCL_ADDR_INDEX p) + 1) % 2 ^ 10 ∧ KeepsRegs [R.GCL_ADDR_INDEX p] s t) ∧
  (∀ (w : Writer) (p : Fin 26) (v : W32) (s : State), Grants s w (R.GCL_DATA p) → s.dev.on (R.GATE_CTRL_EN p) = true →
    (s.dev.get (R.GCL_ADDR_LIST p) = s.dev.get (R.GATE_STATUS_OPER p) ∨ s.dev.on (R.GATE_STATUS_ARMED p) = true) →
    ∃ t, exec (.gclDataWrite w p v) s = .next t ∧ t.dev.net = s.dev.net ∧ t.dev.get (R.PORT_EVT_CFG_REJ p) = 1 ∧
      t.dev.get (R.GCL_ADDR_INDEX p) = (s.dev.get (R.GCL_ADDR_INDEX p) + 1) % 2 ^ 10)

/-- A transmitter enters LPI, which its partner sees, when EEE is on, the port is no SerDes lane and no ride output, nothing is queued or sent and no gate
opens sooner than TS plus TW; it leaves LPI at once when something is queued or no gate will open, else TW before the next opening, and the next frame
waits TW. A recovery stream's reset forgets its last number and counts RESETS; another stream's does nothing. The oldest entry of a pair's duplicate
table is forgotten. On a ride path the bytes received are appended to the frame and readable in the window; the last bytes end it and, on a FORWARD
path, send it. RIDE_LEN declares the end of the passing frame unless byte L - 4 has been taken. -/
def Obligations.EeeStreamsAndRides : Prop :=
  (∀ (p : Fin 26) (s : State), s.dev.on (R.EEE_CFG_EN p) = true → 16 ≤ p.val → s.dev.rideOutput p = false → s.dev.on (R.PORT_STATUS_LPI_TX p) = false →
    s.dev.queued p = false → s.dev.sending p = none → (∀ n, s.dev.nextOpening p = some n → s.dev.get (R.EEE_TS p) + s.dev.get (R.EEE_TW p) < n) →
    ∃ t, exec (.lpiEntry p) s = .next t ∧ t.dev.get (R.PORT_STATUS_LPI_TX p) = 1 ∧ t.dev.out = s.dev.out ++ [.lpi p true] ∧
      t.dev.get (R.PORT_CNT_LPI_ENTRIES p) = (s.dev.get (R.PORT_CNT_LPI_ENTRIES p) + 1) % 2 ^ 32 ∧
      OnlyRegs [R.PORT_STATUS_LPI_TX p, R.PORT_CNT_LPI_ENTRIES p] s { t with dev := { t.dev with out := s.dev.out } }) ∧
  (∀ (p : Fin 26) (s : State), (s.dev.on (R.EEE_CFG_EN p) = false ∨ p.val < 16 ∨ s.dev.rideOutput p = true ∨ s.dev.on (R.PORT_STATUS_LPI_TX p) = true ∨
    s.dev.queued p = true ∨ (s.dev.sending p).isSome = true ∨ ∃ n, s.dev.nextOpening p = some n ∧ n ≤ s.dev.get (R.EEE_TS p) + s.dev.get (R.EEE_TW p)) →
    exec (.lpiEntry p) s = .next s) ∧
  (∀ (p : Fin 26) (s : State), s.dev.on (R.PORT_STATUS_LPI_TX p) = true → (s.dev.queued p = true ∨ s.dev.nextOpening p = none) →
    ∃ t, exec (.lpiExit p) s = .next t ∧ t.dev.get (R.PORT_STATUS_LPI_TX p) = 0 ∧ t.dev.out = s.dev.out ++ [.lpi p false] ∧
      t.dev.net = { s.dev.net with waking := s.dev.net.waking.put p (s.dev.now + s.dev.get (R.EEE_TW p)) } ∧ KeepsRegs [R.PORT_STATUS_LPI_TX p] s t) ∧
  (∀ (p : Fin 26) (n : Nat) (s : State), s.dev.on (R.PORT_STATUS_LPI_TX p) = true → s.dev.queued p = false → s.dev.nextOpening p = some n →
    exec (.lpiExit p) s = .next (s.on (fun d => (d.passTo (d.get (R.TS_PORT_CFG_TB p)) ((d.portNow p + n - d.get (R.EEE_TW p)) * 2 ^ 32)).lpiWake p))) ∧
  (∀ (p : Fin 26) (s : State), s.dev.on (R.PORT_STATUS_LPI_TX p) = false → exec (.lpiExit p) s = .next s) ∧
  (∀ (n : Fin 128) (s : State), 2 ≤ s.dev.get (R.STREAM_CFG_FUNC n) →
    ∃ t, exec (.streamReset n) s = .next t ∧ (t.dev.recov n).last = none ∧ (t.dev.recov n).seen = [] ∧
      t.dev.get (R.STREAM_RESETS n) = (s.dev.get (R.STREAM_RESETS n) + 1) % 2 ^ 32 ∧ (∀ k, k ≠ n.val → t.dev.recov k = s.dev.recov k)) ∧
  (∀ (n : Fin 128) (s : State), s.dev.get (R.STREAM_CFG_FUNC n) < 2 → exec (.streamReset n) s = .next s) ∧
  (∀ (k : Fin 8) (e : Nat × Nat) (r : List (Nat × Nat)) (s : State), s.dev.net.dup.getD k [] = e :: r →
    ∃ t, exec (.redEntryForget k) s = .next t ∧ t.dev.net.dup.getD k [] = r ∧ t.dev.regs = s.dev.regs ∧ t.mem = s.mem) ∧
  (∀ (p : Fin 26) (bs : List Byte) (n : Nat) (l err : Bool) (ph : Fin 8) (s : State), (p.val < 16 ∨ 24 ≤ p.val ∨ s.dev.get (R.RIDE_CFG_MODE p) = 0 ∨
    s.dev.get (R.RIDE_CFG_MODE p) = 3 ∨ s.dev.linkUp p = false) → exec (.rideFrame p bs n l err ph) s = .next s) ∧
  (∀ (p : Fin 26) (bs : List Byte) (n : Nat) (err : Bool) (ph : Fin 8) (s : State), 16 ≤ p.val → p.val < 24 → s.dev.get (R.RIDE_CFG_MODE p) ≠ 0 →
    s.dev.get (R.RIDE_CFG_MODE p) ≠ 3 → s.dev.linkUp p = true →
    ∃ t x, exec (.rideFrame p bs n false err ph) s = .next t ∧ t.dev.ride p = some x ∧ t.mem = s.mem ∧
      x.rx = (match s.dev.ride p with | some y => y.rx | none => []) ++ bs ∧
      x.tx.length ≤ x.rx.length + (match s.dev.ride p with | some y => y.tx.length | none => 0) ∧
      (bs ≠ [] → Tab.find? t.dev.net.window (p * 256 + (x.rx.length - 1) % 256) = bs.getLast?)) ∧
  (∀ (p : Fin 26) (bs : List Byte) (n : Nat) (err : Bool) (ph : Fin 8) (s : State), 16 ≤ p.val → p.val < 24 → s.dev.get (R.RIDE_CFG_MODE p) = 2 →
    s.dev.linkUp p = true →
    ∃ (t : State) (x : Ride), exec (.rideFrame p bs n true err ph) s = .next t ∧ t.dev.ride p = none ∧ t.mem = s.mem ∧
      x.rx = (match s.dev.ride p with | some y => y.rx | none => []) ++ bs ∧
      t.dev.out.getLast? = some (.ride (16 + s.dev.get (R.RIDE_CFG_OUT p)) (x.sent (s.dev.get (R.MAX_FRAME p))) (x.txEr false))) ∧
  (∀ (e : Fin 48) (v : W32) (s : State), (s.dev.editPort (e.val / 4)).bind (fun p => s.dev.ride p) = none → exec (.rideLen e v) s = .next s) ∧
  (∀ (e : Fin 48) (v : W32) (p : Nat) (x : Ride) (s : State), s.dev.editPort (e.val / 4) = some p → s.dev.ride p = some x →
    x.tx.length + 4 ≤ v.toNat % 2 ^ 14 →
    ∃ t, exec (.rideLen e v) s = .next t ∧ t.dev.ride p = some { x with len := some (v.toNat % 2 ^ 14) } ∧ t.dev.regs = s.dev.regs ∧ t.mem = s.mem) ∧
  (∀ (e : Fin 48) (v : W32) (p : Nat) (x : Ride) (s : State), s.dev.editPort (e.val / 4) = some p → s.dev.ride p = some x →
    v.toNat % 2 ^ 14 < x.tx.length + 4 → exec (.rideLen e v) s = .next s)

/-- A device that measures a lane sends DLY_REQ with its node ID and sequence number, keeps t1, and moves the number on; on a lane that it does not
measure the four rows change nothing. A star in service that receives DLY_REQ on a DOWNSTREAM lane learns the member's ID and answers with DLY_T2
and after it DLY_T3. t2 is kept; with t1 and t2 known t3 gives the delay, half of (t4 - t1) - (t3 - t2), and the offset, half of (t4 - t3) -
(t2 - t1) less the asymmetry, in 1/256 ns, and DLY_VALID; without them it gives nothing. -/
def Obligations.HarnessDelay : Prop :=
  (∀ (p : Fin 16) (k : Fin 8) (s : State), s.dev.measures p = true →
    ∃ t, exec (.dlyReqSend p k) s = .next t ∧ t.dev.out = s.dev.out ++ [.hnCtl p 1 (s.dev.get R.HN_CTRL_NODE_ID * 2 ^ 32 + (s.dev.hlane p).seq)] ∧
      t.dev.hlane p = { s.dev.hlane p with seq := ((s.dev.hlane p).seq + 1) % 65536, t1 := some (s.dev.hnTime k), t2 := none } ∧
      t.dev.regs = s.dev.regs ∧ t.mem = s.mem ∧ (∀ q, q ≠ p.val → t.dev.hlane q = s.dev.hlane q)) ∧
  (∀ (p : Fin 16) (node sq : BitVec 16) (k k3 : Fin 8) (gap : Fin 65536) (s : State), s.dev.hn.active = true → s.dev.linkUp p = true →
    s.dev.role p = 3 →
    ∃ t v, exec (.dlyReq p node sq k gap k3) s = .next t ∧ t.dev.get (R.HN_LANE_STATUS_MEMBER_ID p) = node.toNat ∧ (t.dev.hlane p).known = true ∧
      .hnCtl p 2 (s.dev.hnTime k) ∈ t.dev.out ∧ t.dev.out.getLast? = some (.hnCtl p 3 v) ∧ t.dev.now = s.dev.now + 2 * gap ∧ t.mem = s.mem) ∧
  (∀ (p : Fin 16) (node sq : BitVec 16) (k k3 : Fin 8) (gap : Fin 65536) (s : State), (s.dev.hn.active = false ∨ s.dev.linkUp p = false ∨ s.dev.role p ≠ 3) →
    exec (.dlyReq p node sq k gap k3) s = .next s) ∧
  (∀ (p : Fin 16) (v : BitVec 48) (s : State), s.dev.measures p = true →
    ∃ t, exec (.dlyT2 p v) s = .next t ∧ t.dev.hlane p = { s.dev.hlane p with t2 := some v.toNat } ∧ t.dev.regs = s.dev.regs ∧ t.mem = s.mem) ∧
  (∀ (p : Fin 16) (v : BitVec 48) (k : Fin 8) (t1 t2 : Nat) (s : State), s.dev.measures p = true → (s.dev.hlane p).t1 = some t1 →
    (s.dev.hlane p).t2 = some t2 →
    ∃ t, exec (.dlyT3 p v k) s = .next t ∧ t.dev.get (R.HN_LANE_STATUS_DLY_VALID p) = 1 ∧ (t.dev.hlane p).t1 = none ∧ (t.dev.hlane p).gotT3 = true ∧
      (t.dev.get (R.HN_DELAY p) : Int) = ((s.dev.hnTime k : Int) - t1 - ((v.toNat : Int) - t2)) % (2 ^ 48 : Nat) / 512 % (2 ^ 32 : Nat) ∧
      t.dev.get (R.HN_OFFSET p) = ofSigned 32 ((toSigned 48 (ofSigned 48 ((s.dev.hnTime k : Int) - v.toNat - ((t2 : Int) - t1))) -
        toSigned 16 (s.dev.get (R.HN_LANE_CFG_ASYM p)) * 256) / 512)) ∧
  (∀ (p : Fin 16) (v : BitVec 48) (k : Fin 8) (s : State), ((s.dev.hlane p).t1 = none ∨ (s.dev.hlane p).t2 = none) →
    exec (.dlyT3 p v k) s = .next s) ∧
  (∀ (p : Fin 16) (v : BitVec 48) (k : Fin 8) (s : State), s.dev.measures p = false →
    exec (.dlyReqSend p k) s = .next s ∧ exec (.dlyT2 p v) s = .next s ∧ exec (.dlyT3 p v k) s = .next s ∧ exec (.slotEcho p v) s = .next s)

/-- In a slot that the device owns and that is active, a worker in SYNC or ISOLATED launches on its UPSTREAM and STANDBY_UP lanes and a star in RUN
on its DOWNSTREAM and MONITOR lanes: a queued frame, or an EMPTY frame that is counted; otherwise the row changes nothing. A receiver with the same
slot table accepts every EMPTY frame. A node in STARTUP sends its STARTUP frame on its UPSTREAM lanes. A star sends the hash of its table; a
standby that meets another hash goes to MISMATCH. An echo that is received is shown in HN_ECHO. The third cut in a run isolates a member, the
second good arrival of an isolated one ends the isolation, and a missing frame is counted and echoed. -/
def Obligations.HarnessSlots : Prop :=
  (∀ (down : Bool) (i : Fin 4096) (x : HnSlot) (s : State), (if down then s.dev.hn.down else s.dev.hn.up)[i.val]? = some x → s.dev.hn.active = true →
    x.owner = s.dev.get R.HN_CTRL_NODE_ID → s.dev.slotActive x s.dev.stride.last = true →
    (if down then s.dev.get R.HN_STATUS_STAR_STATE = 3 else (s.dev.get R.HN_STATUS_UP_STATE = 4 ∨ s.dev.get R.HN_STATUS_UP_STATE = 5) ∧ s.dev.hn.fresh = false) →
    exec (.slotLaunch down i) s = .next (s.on (fun d => (d.launchOrder down x (d.lanesOf (if down then [3, 4] else [1, 2]))).foldl (fun (a : Dev) p => a.launchOn down i x p) d))) ∧
  (∀ (down : Bool) (i : Fin 4096) (x : HnSlot) (s : State), (if down then s.dev.hn.down else s.dev.hn.up)[i.val]? = some x →
    (x.owner ≠ s.dev.get R.HN_CTRL_NODE_ID ∨ s.dev.slotActive x s.dev.stride.last = false ∨ (down = true ∧ s.dev.get R.HN_STATUS_STAR_STATE ≠ 3) ∨
      (down = false ∧ (s.dev.get R.HN_STATUS_UP_STATE ≠ 4 ∧ s.dev.get R.HN_STATUS_UP_STATE ≠ 5 ∨ s.dev.hn.fresh = true))) →
    exec (.slotLaunch down i) s = .next s) ∧
  (∀ (down : Bool) (i : Fin 4096) (s : State), ((if down then s.dev.hn.down else s.dev.hn.up)[i.val]? = none ∨ s.dev.hn.active = false) →
    exec (.slotLaunch down i) s = .next s) ∧
  (∀ (d e : Dev) (down : Bool) (i p : Nat) (x : HnSlot), e = ((d.passTo (d.get R.HN_CTRL_TB) (d.launchTime down x p * 2 ^ 24)).fabSync).hnPurge p →
    (e.hnQueued p i = none →
      (d.launchOn down i x p).get (R.HN_CNT_SLOT_EMPTY p) = (e.get (R.HN_CNT_SLOT_EMPTY p) + 1) % 2 ^ 32 ∧
      (d.launchOn down i x p).get (R.HN_CNT_TX_FRAMES p) = (e.get (R.HN_CNT_TX_FRAMES p) + 1) % 2 ^ 32 ∧
      (d.launchOn down i x p).out = e.out ++ [.harness p (e.hnFrame 1 i (e.edgeNs e.stride.last + 2 * x.start) []) false]) ∧
    ∀ c, e.hnQueued p i = some c → (d.launchOn down i x p).out = e.out ++ [.harness p (hnFromCopy c) false] ∧
      (d.launchOn down i x p).fab.copies = e.fab.copies.filter (fun y => y.id != c.id)) ∧
  (∀ (d : Dev) (table : List HnSlot) (i time : Nat) (x : HnSlot), i < 4096 → table[i]? = some x → x.owner = d.get R.HN_CTRL_NODE_ID →
    hnGood table (d.hnFrame 1 i time []) = true) ∧
  (∀ s : State, s.dev.hn.active = true → s.dev.get R.HN_STATUS_UP_STATE = 2 →
    exec .startupSend s = .next (s.on (fun d => (fun e : Dev => e.hnSend (e.lanesOf [1]) (e.hnFrame 2 0 (e.tbNs (e.get R.HN_CTRL_TB)) e.timeSection) false) d.passLaunch))) ∧
  (∀ s : State, (s.dev.hn.active = false ∨ s.dev.get R.HN_STATUS_UP_STATE ≠ 2) → exec .startupSend s = .next s) ∧
  (∀ s : State, s.dev.hn.active = true → s.dev.isStar = true →
    ∃ t, exec .tableHashSend s = .next t ∧ t.dev.regs = s.dev.regs ∧ t.mem = s.mem ∧
      t.dev.out = s.dev.out ++ (s.dev.lanesOf [3, 4]).map (fun p => .hnCtl p 5 (tableHash s.dev.hn.down))) ∧
  (∀ s : State, (s.dev.hn.active = false ∨ s.dev.isStar = false) → exec .tableHashSend s = .next s) ∧
  (∀ (p : Fin 16) (v : BitVec 48) (s : State), (s.dev.hn.active = false ∨ s.dev.role p ≠ 4 ∨ s.dev.linkUp p = false ∨ s.dev.get R.HN_STATUS_STAR_STATE = 3 ∨
    v.toNat = tableHash s.dev.hn.down ∧ s.dev.get R.HN_STATUS_UP_STATE ≠ 4) → exec (.tableHash p v) s = .next s) ∧
  (∀ (p : Fin 16) (v : BitVec 48) (s : State), s.dev.hn.active = true → s.dev.role p = 4 → s.dev.linkUp p = true →
    s.dev.get R.HN_STATUS_STAR_STATE ≠ 3 → v.toNat ≠ tableHash s.dev.hn.down →
    ∃ t, exec (.tableHash p v) s = .next t ∧ t.dev.get R.HN_STATUS_STAR_STATE = 5 ∧ t.dev.get (R.HN_LANE_EVT_TABLE_MISMATCH p) = 1 ∧ t.mem = s.mem) ∧
  (∀ (p : Fin 16) (v : BitVec 48) (s : State), s.dev.hn.active = true → s.dev.role p = 4 → s.dev.linkUp p = true →
    s.dev.get R.HN_STATUS_STAR_STATE ≠ 3 → v.toNat = tableHash s.dev.hn.down → s.dev.get R.HN_STATUS_UP_STATE = 4 →
    ∃ t, exec (.tableHash p v) s = .next t ∧ t.dev.get R.HN_STATUS_STAR_STATE = 4 ∧ t.mem = s.mem) ∧
  (∀ (p : Fin 16) (v : BitVec 48) (s : State), s.dev.measures p = true →
    ∃ t, exec (.slotEcho p v) s = .next t ∧ t.dev.get (R.HN_ECHO_VALID p) = 1 ∧ t.dev.get (R.HN_ECHO_OFFSET p) = v.toNat % 2 ^ 32 ∧
      t.dev.get (R.HN_ECHO_SLOT p) = v.toNat / 2 ^ 36 ∧ (t.dev.on (R.HN_ECHO_ISOLATED p) = v.getLsbD 35) ∧
      (t.dev.on (R.HN_ECHO_CUT p) = v.getLsbD 34) ∧ (t.dev.on (R.HN_ECHO_DRIFT_WARN p) = v.getLsbD 33) ∧ t.mem = s.mem) ∧
  (∀ (i : Fin 4096) (x : HnSlot) (p : Nat) (s : State), s.dev.hn.down[i.val]? = some x → s.dev.hn.active = true →
    (s.dev.get R.HN_STATUS_STAR_STATE = 3 ∨ s.dev.get R.HN_STATUS_STAR_STATE = 4) →
    (s.dev.lanesOf [3]).find? (fun q => (s.dev.hlane q).known && s.dev.get (R.HN_LANE_STATUS_MEMBER_ID q) == x.owner &&
      !s.dev.on (R.HN_LANE_STATUS_DUP_ID q)) = some p → Tab.find? s.dev.hn.arrivals i = none →
    ∃ t, exec (.slotEchoSend i) s = .next t ∧ t.dev.get (R.HN_CNT_SLOT_MISSING p) = (s.dev.get (R.HN_CNT_SLOT_MISSING p) + 1) % 2 ^ 32 ∧
      t.dev.out = s.dev.out ++ [.hnCtl p 4 (echoValue i (s.dev.on (R.HN_LANE_STATUS_ISOLATED p)) false false 0)]) ∧
  (∀ (i : Fin 4096) (s : State), s.dev.hn.down[i.val]? = none → exec (.slotEchoSend i) s = .next s) ∧
  (∀ (d : Dev) (p : Nat), p < 16 → d.get (R.HN_LANE_STATUS_CUT_RUN p) = 2 → d.on (R.HN_LANE_STATUS_ISOLATED p) = false →
    (d.cutRule p).get (R.HN_LANE_STATUS_ISOLATED p) = 1 ∧ (d.cutRule p).get (R.HN_LANE_STATUS_CUT_RUN p) = 3 ∧
    (d.cutRule p).get (R.HN_CNT_ISOLATIONS p) = (d.get (R.HN_CNT_ISOLATIONS p) + 1) % 2 ^ 32) ∧
  (∀ (d : Dev) (p : Nat), p < 16 → d.on (R.HN_LANE_STATUS_ISOLATED p) = true → (d.hlane p).good = 0 →
    (d.goodRule p).get (R.HN_LANE_STATUS_ISOLATED p) = 1 ∧ ((d.goodRule p).goodRule p).get (R.HN_LANE_STATUS_ISOLATED p) = 0)

/-- A lane that takes no part, or has no role or no link, receives nothing. From the star a frame that fails the checks of R289 is counted in
RX_DISCARD and dropped; one on a lane that is not followed only shows that the lane is alive. A star drops a frame of a member with a duplicate ID.
A frame in its owner's window is noted, and a star in RUN relays it to its other members unless the member is isolated, its epoch is refused, or it
is still passing when the relay closes; a frame near no slot of its member is counted in OFF_SLOT. When the relay closes the frame that is passing is
cut and counted. -/
def Obligations.HarnessRelay : Prop :=
  (∀ (p : Fin 16) (l : List Byte) (a : Int) (s : State), (s.dev.hn.active = false ∨ s.dev.role p = 0 ∨ s.dev.linkUp p = false) →
    exec (.harnessFrameReceive p l a) s = .next s) ∧
  (∀ (p : Fin 16) (l : List Byte) (a : Int) (s : State), s.dev.hn.active = true → s.dev.role p ≠ 0 → s.dev.role p ≠ 3 → s.dev.linkUp p = true →
    hnGood (s.dev.tableOf p) l = false →
    ∃ t, exec (.harnessFrameReceive p l a) s = .next t ∧ t.dev.get (R.HN_CNT_RX_FRAMES p) = (s.dev.get (R.HN_CNT_RX_FRAMES p) + 1) % 2 ^ 32 ∧
      t.dev.get (R.HN_CNT_RX_DISCARD p) = (s.dev.get (R.HN_CNT_RX_DISCARD p) + 1) % 2 ^ 32 ∧
      OnlyRegs [R.HN_CNT_RX_FRAMES p, R.HN_CNT_RX_DISCARD p] s t) ∧
  (∀ (p : Fin 16) (l : List Byte) (a : Int) (s : State), s.dev.hn.active = true → s.dev.role p ≠ 0 → s.dev.role p ≠ 3 → s.dev.linkUp p = true →
    hnGood (s.dev.tableOf p) l = true → s.dev.followed ≠ some p.val →
    ∃ t, exec (.harnessFrameReceive p l a) s = .next t ∧ t.dev.hlane p = { s.dev.hlane p with saw := true } ∧
      t.dev.get (R.HN_CNT_RX_FRAMES p) = (s.dev.get (R.HN_CNT_RX_FRAMES p) + 1) % 2 ^ 32 ∧ KeepsRegs [R.HN_CNT_RX_FRAMES p] s t) ∧
  (∀ (p : Fin 16) (l : List Byte) (a : Int) (s : State), s.dev.hn.active = true → s.dev.role p ≠ 0 → s.dev.role p ≠ 3 → s.dev.linkUp p = true →
    hnGood (s.dev.tableOf p) l = true → s.dev.followed = some p.val →
    exec (.harnessFrameReceive p l a) s = .next ((s.on (fun d =>
      ((d.inc (R.HN_CNT_RX_FRAMES p)).setLane p { d.hlane p with saw := true }).upFrame p l)).hnDeliver p l)) ∧
  (∀ (p : Fin 16) (l : List Byte) (a : Int) (s : State), s.dev.hn.active = true → s.dev.role p = 3 → s.dev.linkUp p = true →
    s.dev.on (R.HN_LANE_STATUS_DUP_ID p) = true →
    exec (.harnessFrameReceive p l a) s = .next (s.on (fun d => d.inc (R.HN_CNT_RX_FRAMES p)))) ∧
  (∀ (p : Fin 16) (l : List Byte) (a : Int) (e : Int × Nat × HnSlot) (s : State), s.dev.hn.active = true → s.dev.role p = 3 →
    s.dev.linkUp p = true → s.dev.on (R.HN_LANE_STATUS_DUP_ID p) = false → hnType l ≠ 2 → s.dev.get R.HN_STATUS_STAR_STATE = 3 →
    (s.dev.hlane p).known = true → s.dev.windowSlot (s.dev.get (R.HN_LANE_STATUS_MEMBER_ID p)) a = some e →
    exec (.harnessFrameReceive p l a) s = .next ((s.on (fun d => (d.inc (R.HN_CNT_RX_FRAMES p)).withHn (fun h =>
      { h with arrivals := h.arrivals.put e.2.1 { off := a - e.1, cut := false } }))).hnRelay p l a e)) ∧
  (∀ (p : Fin 16) (l : List Byte) (a : Int) (s : State), s.dev.hn.active = true → s.dev.role p = 3 →
    s.dev.linkUp p = true → s.dev.on (R.HN_LANE_STATUS_DUP_ID p) = false → hnType l ≠ 2 →
    (s.dev.get R.HN_STATUS_STAR_STATE = 3 ∨ s.dev.get R.HN_STATUS_STAR_STATE = 4) → (s.dev.hlane p).known = false →
    ∃ t, exec (.harnessFrameReceive p l a) s = .next t ∧ t.dev.get (R.HN_CNT_OFF_SLOT p) = (s.dev.get (R.HN_CNT_OFF_SLOT p) + 1) % 2 ^ 32 ∧
      OnlyRegs [R.HN_CNT_RX_FRAMES p, R.HN_CNT_OFF_SLOT p] s t) ∧
  (∀ (p : Nat) (l : List Byte) (a : Int) (e : Int × Nat × HnSlot) (s : State),
    (s.dev.on (R.HN_LANE_STATUS_ISOLATED p) = true → s.hnRelay p l a e = s) ∧
    (s.dev.on (R.HN_LANE_STATUS_ISOLATED p) = false → s.dev.epochOk p (l.getD 22 0).toNat = false → (s.hnRelay p l a e).dev.get R.SEC_EVT_EPOCH_REFUSE = 1 ∧
      (s.hnRelay p l a e).dev.hn = s.dev.hn ∧ (s.hnRelay p l a e).mem = s.mem) ∧
    (s.dev.on (R.HN_LANE_STATUS_ISOLATED p) = false → s.dev.epochOk p (l.getD 22 0).toNat = true → s.dev.overruns p l.length e.1 e.2.2 a = true →
      s.hnRelay p l a e = s.on (fun d => d.withHn (fun h => { h with passing := some (p, e.2.1, l) }))) ∧
    (s.dev.on (R.HN_LANE_STATUS_ISOLATED p) = false → s.dev.epochOk p (l.getD 22 0).toNat = true → s.dev.overruns p l.length e.1 e.2.2 a = false →
      hnGood s.dev.hn.down l = false →
      (s.hnRelay p l a e).dev.out = s.dev.out ++ (s.dev.lanesOf [3, 4]).map (fun q => .harness q l false) ∧ (s.hnRelay p l a e).mem = s.mem)) ∧
  (∀ (i : Fin 4096) (p : Nat) (l : List Byte) (s : State), p < 16 → s.dev.hn.passing = some (p, i.val, l) →
    ∃ t, exec (.relayClose i) s = .next t ∧ t.dev.hn.passing = none ∧ t.dev.get (R.HN_LANE_EVT_CUT p) = 1 ∧ t.mem = s.mem ∧
      t.dev.get (R.HN_CNT_CUT_LONG p) = (s.dev.get (R.HN_CNT_CUT_LONG p) + 1) % 2 ^ 32 ∧ (∀ q ∈ s.dev.lanesOf [3, 4], .harness q l true ∈ t.dev.out)) ∧
  (∀ (i : Fin 4096) (s : State), (∀ p l, s.dev.hn.passing ≠ some (p, i.val, l)) → exec (.relayClose i) s = .next s)

/-- HN_CTRL.EN = 1 on a device that takes no part makes it take part from LISTEN or NONE; EN = 0 stops it at the next base edge. A listen time
that ends in silence takes a COLDSTART node to STARTUP; one that heard a frame begins again. The root star's arbitration takes the claims; a lone
claim of another node is sent to all and its step awaited. A whole reply in CMD sections waits to be passed on, a section that ends a packet with no
start is counted in CMD_DROP. A forwarded reply leaves the waiting list. A forwarded command that times out leaves the table, and unless it carries
FORWARD_ALL is answered with TIMEOUT (8) and its target. -/
def Obligations.HarnessStart : Prop :=
  (∀ (w : Writer) (s : State), Grants s w R.HN_CTRL_EN → s.dev.hn.active = false →
    ∃ t, exec (.hnEnable w 1) s = .next t ∧ t.dev.get R.HN_CTRL_EN = 1 ∧ t.dev.hn.active = true ∧
      t.dev.get R.HN_STATUS_UP_STATE = (if s.dev.followed.isSome then 1 else 0) ∧
      t.dev.get R.HN_STATUS_STAR_STATE = (if !s.dev.isStar then 0 else if s.dev.followed.isSome then 1 else 2) ∧ t.mem = s.mem) ∧
  (∀ (w : Writer) (s : State), Grants s w R.HN_CTRL_EN → s.dev.on R.HN_CTRL_EN = true →
    ∃ t, exec (.hnEnable w 0) s = .next t ∧ t.dev.get R.HN_CTRL_EN = 0 ∧ t.dev.hn = { s.dev.hn with stopPend := true } ∧ KeepsRegs [R.HN_CTRL_EN] s t) ∧
  (∀ (w : Writer) (s : State), Grants s w R.HN_CTRL_EN → s.dev.on R.HN_CTRL_EN = false → exec (.hnEnable w 0) s = .next s) ∧
  (∀ s : State, s.dev.hn.active = true → s.dev.get R.HN_STATUS_UP_STATE = 1 → s.dev.hn.heard = false → s.dev.on R.HN_CTRL_COLDSTART = true →
    ∃ t, exec .listenTimeout s = .next t ∧ t.dev.get R.HN_STATUS_UP_STATE = 2 ∧ t.mem = s.mem) ∧
  (∀ s : State, s.dev.hn.active = true → s.dev.get R.HN_STATUS_UP_STATE = 1 → s.dev.hn.heard = true →
    exec .listenTimeout s = .next (s.on (fun d => (fun e : Dev => e.withHn (fun h => { h with heard := false, listenAt := e.now }))
      (d.passNs (d.hn.listenAt + d.listenNs - d.now))))) ∧
  (∀ s : State, s.dev.hn.active = true → s.dev.get R.HN_STATUS_UP_STATE ≠ 1 → s.dev.get R.HN_STATUS_STAR_STATE = 2 →
    exec .listenTimeout s = .next (s.on (fun d => (d.passNs (d.hn.listenAt + d.listenNs - d.now)).withHn (fun h => { h with listenOver := true })))) ∧
  (∀ s : State, s.dev.hn.active = false → exec .listenTimeout s = .next s) ∧
  (∀ (c : Nat) (l : List Byte) (s : State) (d : Dev), s.dev.hn.active = true → s.dev.get R.HN_STATUS_STAR_STATE = 2 → s.dev.hn.awaitStep = false →
    s.dev.hn.runIn = 0 → s.dev.on R.HN_CTRL_COLDSTART = false → s.dev.hn.claims = [(c, l)] → c ≠ s.dev.get R.HN_CTRL_NODE_ID → d = s.dev.passLaunch →
    ∃ t, exec .startupArbitration s = .next t ∧ t.dev.hn.claims = [] ∧ t.dev.hn.awaitStep = true ∧ t.mem = s.mem ∧
      t.dev.out = d.out ++ (d.lanesOf [3, 4]).map (fun p => .harness p l false)) ∧
  (∀ s : State, s.dev.hn.active = true → s.dev.get R.HN_STATUS_STAR_STATE = 2 → s.dev.hn.awaitStep = false → s.dev.hn.runIn = 0 →
    s.dev.on R.HN_CTRL_COLDSTART = true → s.dev.hn.listenOver = true → s.dev.hn.claims = [] →
    ∃ t, exec .startupArbitration s = .next t ∧ t.dev.get R.HN_STATUS_TIME_SRC = 1 ∧ t.dev.hn.runIn = 1 ∧ t.mem = s.mem) ∧
  (∀ s : State, (s.dev.hn.active = false ∨ s.dev.get R.HN_STATUS_STAR_STATE ≠ 2 ∨ s.dev.hn.awaitStep = true ∨ s.dev.hn.runIn ≠ 0) →
    exec .startupArbitration s = .next s) ∧
  (∀ (p : Fin 16) (s : State), (∀ f ∈ s.dev.hn.frags, f.lane ≠ p.val) → exec (.cmdFragment p) s = .next s) ∧
  (∀ (p : Fin 16) (f : HnFrag) (rest : List HnFrag) (s : State), s.dev.hn.frags = f :: rest → f.lane = p.val → f.first = true → f.last = true →
    f.off = 0 → f.reply = true →
    ∃ t, exec (.cmdFragment p) s = .next t ∧ t.dev.hn.frags = rest ∧ t.dev.hn.replies = s.dev.hn.replies ++ [(p.val, f.bytes)] ∧
      t.dev.regs = s.dev.regs ∧ t.mem = s.mem) ∧
  (∀ (p : Fin 16) (f : HnFrag) (rest : List HnFrag) (s : State), s.dev.hn.frags = f :: rest → f.lane = p.val → f.first = false → f.last = true →
    Tab.find? s.dev.hn.assy (fragKey f) = none →
    ∃ t, exec (.cmdFragment p) s = .next t ∧ t.dev.hn.frags = rest ∧ t.dev.get (R.HN_CNT_CMD_DROP p) = (s.dev.get (R.HN_CNT_CMD_DROP p) + 1) % 2 ^ 32 ∧
      KeepsRegs [R.HN_CNT_CMD_DROP p] s t) ∧
  (∀ (p : Fin 16) (l : List Byte) (rest : List (Nat × List Byte)) (s : State), s.dev.hn.replies = (p.val, l) :: rest →
    exec (.forwardedReply p) s = .next ((s.on (fun d => { d with hn := { d.hn with replies := rest } })).passReply p l)) ∧
  (∀ (p : Fin 16) (s : State), (∀ e ∈ s.dev.hn.replies, e.1 ≠ p.val) → exec (.forwardedReply p) s = .next s) ∧
  (∀ (id : BitVec 16) (e : HnFwd) (rest : List HnFwd) (s : State), s.dev.hn.fwd = e :: rest → e.id = id.toNat → e.all = false →
    exec (.forwardTimeout id) s = .next ((s.on (fun d => (d.passNs (e.until' - d.now)).withHn (fun h => { h with fwd := rest }))).answer e.op e.req 8
      e.req.target.toNat [])) ∧
  (∀ (id : BitVec 16) (e : HnFwd) (rest : List HnFwd) (s : State), s.dev.hn.fwd = e :: rest → e.id = id.toNat → e.all = true →
    exec (.forwardTimeout id) s = .next (s.on (fun d => (d.passNs (e.until' - d.now)).withHn (fun h => { h with fwd := rest })))) ∧
  (∀ (id : BitVec 16) (s : State), (∀ e ∈ s.dev.hn.fwd, e.id ≠ id.toNat) → exec (.forwardTimeout id) s = .next s)

/-- Every body with its FCS is a good frame of R224 and with the inverted FCS is not. Every Harness frame with sections that together fit LENGTH passes
the checks of R289 at a receiver whose slot table gives its slot to its sender. A command packet that is forwarded unchanged is read again as the
same request: opcode, length, target, flags, sequence, reserved field and parameters. -/
def Obligations.WireFormats : Prop :=
  (∀ body : List Byte, fcsGood (withFcs body false) = true ∧ fcsGood (withFcs body true) = false) ∧
  (∀ (d : Dev) (table : List HnSlot) (i time : Nat) (x : HnSlot) (sec : List Byte), i < 4096 → 28 + sec.length < 2 ^ 16 → table[i]? = some x →
    x.owner = d.get R.HN_CTRL_NODE_ID → hnGood table (d.hnFrame 1 i time sec) = true ∧ hnGood table (d.hnFrame 2 i time sec) = true ∧
      hnSrc (d.hnFrame 1 i time sec) = d.get R.HN_CTRL_NODE_ID ∧ hnSlotNo (d.hnFrame 1 i time sec) = i ∧ hnType (d.hnFrame 1 i time sec) = 1) ∧
  (∀ (op : Nat) (r : CmdReq), op < 2 ^ 16 →
    requestOf (packetOf op r) r.port r.via r.station r.tci r.direct = (op, r))

/-- A MODE above 4 is a reserved value and is dropped. A change from CONFIG under a consistent configuration is requested, STATE shows 3 until it
takes effect (2 if the controller is bus-off), then 0 or 1 by its error counters; under an inconsistent one MODE stays 0 and CFG_ERR names the first cause of the order bit timing, protocol, memory. Any other change
is requested. When a request takes effect MODE_NOW follows and MODE_CHG is set; a change to CONFIG makes PENDING buffers ABORTED, one that asks for
the mode in force changes nothing. RECOVER acts on a bus-off controller alone; a bus-off controller that may recover comes back with both counters at
0 (log entry 16). CLR_CNT clears the ten counters. -/
def Obligations.CanModes : Prop :=
  (∀ (w : Writer) (c : Fin 8) (m : Fin 8) (s : State), Grants s w (R.CAN_CTRL_MODE c) → 4 < m.val →
    exec (.canModeWrite w c m) s = .next (s.on (fun d => d.rsvWrite w (0x90000 + c.val * 0x2000)))) ∧
  (∀ (w : Writer) (c : Fin 8) (m : Fin 8) (s : State), Grants s w (R.CAN_CTRL_MODE c) → m.val = 0 ∨ m.val ≤ 4 ∧ s.dev.get (R.CAN_STATUS_MODE_NOW c) ≠ 0 →
    ∃ t, exec (.canModeWrite w c m) s = .next t ∧ t.dev.get (R.CAN_CTRL_MODE c) = m.val ∧ KeepsRegs [R.CAN_CTRL_MODE c, R.CAN_STATUS_STATE c] s t ∧
      (s.dev.get (R.CAN_STATUS_STATE c) ≠ 3 → t.dev.get (R.CAN_STATUS_STATE c) = s.dev.get (R.CAN_STATUS_STATE c))) ∧
  (∀ (w : Writer) (c : Fin 8) (m : Fin 8) (s : State), Grants s w (R.CAN_CTRL_MODE c) → 1 ≤ m.val → m.val ≤ 4 →
    s.dev.get (R.CAN_STATUS_MODE_NOW c) = 0 → s.dev.get (R.CAN_CTRL_MODE c) = 0 → s.dev.canTimingBad c = false → s.dev.canProtocolBad c = false →
    s.dev.canMemoryBad c = false →
    ∃ t, exec (.canModeWrite w c m) s = .next t ∧ t.dev.get (R.CAN_CTRL_MODE c) = m.val ∧
      t.dev.get (R.CAN_STATUS_STATE c) = (if s.dev.get (R.CAN_STATUS_STATE c) = 2 then 2 else 3) ∧
      t.dev.get (R.CAN_STATUS_CFG_ERR c) = 0 ∧ OnlyRegs [R.CAN_CTRL_MODE c, R.CAN_STATUS_STATE c, R.CAN_STATUS_CFG_ERR c] s t) ∧
  (∀ (w : Writer) (c : Fin 8) (m : Fin 8) (s : State), Grants s w (R.CAN_CTRL_MODE c) → 1 ≤ m.val → m.val ≤ 4 →
    s.dev.get (R.CAN_STATUS_MODE_NOW c) = 0 → s.dev.get (R.CAN_CTRL_MODE c) = 0 →
    (s.dev.canTimingBad c = true ∨ s.dev.canProtocolBad c = true ∨ s.dev.canMemoryBad c = true) →
    ∃ t, exec (.canModeWrite w c m) s = .next t ∧ t.dev.get (R.CAN_CTRL_MODE c) = 0 ∧
      t.dev.get (R.CAN_STATUS_CFG_ERR c) = (if s.dev.canTimingBad c then 1 else if s.dev.canProtocolBad c then 3 else 4) ∧
      OnlyRegs [R.CAN_CTRL_MODE c, R.CAN_STATUS_CFG_ERR c] s t) ∧
  (∀ (c : Fin 8) (s : State), s.dev.get (R.CAN_CTRL_MODE c) ≠ s.dev.get (R.CAN_STATUS_MODE_NOW c) →
    ∃ t, exec (.canModeChange c) s = .next t ∧ t.dev.get (R.CAN_STATUS_MODE_NOW c) = s.dev.get (R.CAN_CTRL_MODE c) ∧
      t.dev.get (R.CAN_EVT_MODE_CHG c) = 1 ∧ t.dev.get (R.CAN_CTRL_MODE c) = s.dev.get (R.CAN_CTRL_MODE c) ∧ t.mem = s.mem ∧
      t.dev.get (R.CAN_STATUS_STATE c) = (if s.dev.get (R.CAN_STATUS_MODE_NOW c) = 0 ∧ s.dev.get (R.CAN_STATUS_STATE c) = 3 then s.dev.canActive c
        else s.dev.get (R.CAN_STATUS_STATE c)) ∧
      ∀ n < 3, t.dev.get (R.TXB_STATUS_STATE c n) = (if s.dev.get (R.CAN_CTRL_MODE c) = 0 ∧ s.dev.get (R.TXB_STATUS_STATE c n) = 1 then 4
        else s.dev.get (R.TXB_STATUS_STATE c n))) ∧
  (∀ (c : Fin 8) (s : State), s.dev.get (R.CAN_CTRL_MODE c) = s.dev.get (R.CAN_STATUS_MODE_NOW c) → exec (.canModeChange c) s = .next s) ∧
  (∀ (w : Writer) (c : Fin 8) (s : State), Grants s w (R.CAN_CTRL_MODE c) → s.dev.get (R.CAN_STATUS_STATE c) = 2 →
    ∃ t, exec (.canRecover w c) s = .next t ∧ t.dev.canSt c = { s.dev.canSt c with recover := true } ∧ t.dev.regs = s.dev.regs ∧ t.mem = s.mem) ∧
  (∀ (w : Writer) (c : Fin 8) (s : State), Grants s w (R.CAN_CTRL_MODE c) → s.dev.get (R.CAN_STATUS_STATE c) ≠ 2 →
    exec (.canRecover w c) s = .next s) ∧
  (∀ (c : Fin 8) (s : State), s.dev.get (R.CAN_STATUS_STATE c) = 2 →
    (s.dev.on (R.CAN_CTRL_AUTO_RECOVER c) = true ∨ (s.dev.canSt c).recover = true) →
    ∃ t, exec (.busOffRecovery c) s = .next t ∧ t.dev.get (R.CAN_STATUS_STATE c) = 0 ∧ t.dev.get (R.CAN_STATUS_TEC c) = 0 ∧
      t.dev.get (R.CAN_STATUS_REC c) = 0 ∧ (t.dev.canSt c).recover = false ∧
      KeepsRegs [R.CAN_STATUS_STATE c, R.CAN_STATUS_TEC c, R.CAN_STATUS_REC c] s t) ∧
  (∀ (c : Fin 8) (s : State), s.dev.on (R.CAN_CTRL_AUTO_RECOVER c) = false → (s.dev.canSt c).recover = false →
    exec (.busOffRecovery c) s = .next s) ∧
  (∀ (w : Writer) (c : Fin 8) (s : State), Grants s w (R.CAN_CTRL_MODE c) →
    ∃ t, exec (.canClrCnt w c) s = .next t ∧ t.dev.get (R.CAN_CNT_TX_OK c) = 0 ∧ t.dev.get (R.CAN_CNT_RX_OK c) = 0 ∧
      t.dev.get (R.CAN_CNT_ARB_LOST c) = 0 ∧ t.dev.get (R.CAN_CNT_ERR_FRAMES c) = 0 ∧ t.dev.get (R.CAN_CNT_BUS_OFF_CNT c) = 0 ∧
      t.dev.get (R.CAN_CNT_RX_NO_MATCH c) = 0 ∧ t.dev.get (R.CAN_CNT_RX_OVERWRITE c) = 0 ∧ t.dev.get (R.CAN_CNT_RX_LOST c) = 0 ∧
      t.dev.get (R.CAN_CNT_RX_TOO_LONG c) = 0 ∧ t.dev.get (R.CAN_CNT_FLT_FAULT c) = 0 ∧
      OnlyRegs [R.CAN_CNT_TX_OK c, R.CAN_CNT_RX_OK c, R.CAN_CNT_ARB_LOST c, R.CAN_CNT_ERR_FRAMES c, R.CAN_CNT_BUS_OFF_CNT c,
        R.CAN_CNT_RX_NO_MATCH c, R.CAN_CNT_RX_OVERWRITE c, R.CAN_CNT_RX_LOST c, R.CAN_CNT_RX_TOO_LONG c, R.CAN_CNT_FLT_FAULT c] s t)

/-- REQ of a buffer with a valid record makes it PENDING with ATTEMPTS 0, an invalid one REJECTED with TX_FAIL; a buffer that is PENDING or ACTIVE
ignores REQ. ABORT makes a PENDING buffer ABORTED with TX_FAIL, is noted for an ACTIVE one and does not stop its frame, and otherwise changes nothing.
Bus-off or outside NORMAL and LOOPBACK no frame is chosen; else the buffer of R345 becomes ACTIVE, one more attempt, and its frame goes out. A frame
sent makes its buffer DONE with its timestamp and is counted; one that lost arbitration or met an error makes it ABORTED if ABORT was seen, FAILED
in single shot, else PENDING again. -/
def Obligations.CanTransmit : Prop :=
  (∀ (w : Writer) (c : Fin 8) (n : Fin 3) (s : State), Grants s w (R.TXB_CTRL_SINGLE_SHOT c n) → s.dev.get (R.TXB_STATUS_STATE c n) ≠ 1 →
    s.dev.get (R.TXB_STATUS_STATE c n) ≠ 2 → s.dev.txbValid c n = true →
    ∃ t, exec (.txbReq w c n) s = .next t ∧ t.dev.get (R.TXB_STATUS_STATE c n) = 1 ∧ t.dev.get (R.TXB_STATUS_ATTEMPTS c n) = 0 ∧
      OnlyRegs [R.TXB_STATUS_STATE c n, R.TXB_STATUS_ATTEMPTS c n] s t) ∧
  (∀ (w : Writer) (c : Fin 8) (n : Fin 3) (s : State), Grants s w (R.TXB_CTRL_SINGLE_SHOT c n) → s.dev.get (R.TXB_STATUS_STATE c n) ≠ 1 →
    s.dev.get (R.TXB_STATUS_STATE c n) ≠ 2 → s.dev.txbValid c n = false →
    ∃ t, exec (.txbReq w c n) s = .next t ∧ t.dev.get (R.TXB_STATUS_STATE c n) = 6 ∧ t.dev.get (R.CAN_EVT_TX_FAIL c) = 1 ∧
      OnlyRegsEv [R.TXB_STATUS_STATE c n, R.TXB_STATUS_ATTEMPTS c n, R.CAN_EVT_TX_FAIL c] s t) ∧
  (∀ (w : Writer) (c : Fin 8) (n : Fin 3) (s : State), Grants s w (R.TXB_CTRL_SINGLE_SHOT c n) →
    (s.dev.get (R.TXB_STATUS_STATE c n) = 1 ∨ s.dev.get (R.TXB_STATUS_STATE c n) = 2) → exec (.txbReq w c n) s = .next s) ∧
  (∀ (w : Writer) (c : Fin 8) (n : Fin 3) (s : State), Grants s w (R.TXB_CTRL_SINGLE_SHOT c n) → s.dev.get (R.TXB_STATUS_STATE c n) = 1 →
    ∃ t, exec (.txbAbort w c n) s = .next t ∧ t.dev.get (R.TXB_STATUS_STATE c n) = 4 ∧ t.dev.get (R.CAN_EVT_TX_FAIL c) = 1 ∧
      OnlyRegsEv [R.TXB_STATUS_STATE c n, R.CAN_EVT_TX_FAIL c] s t) ∧
  (∀ (w : Writer) (c : Fin 8) (n : Fin 3) (s : State), Grants s w (R.TXB_CTRL_SINGLE_SHOT c n) → s.dev.get (R.TXB_STATUS_STATE c n) = 2 →
    ∃ t, exec (.txbAbort w c n) s = .next t ∧ (t.dev.canSt c).aborts = n.val :: (s.dev.canSt c).aborts ∧ t.dev.regs = s.dev.regs ∧
      t.mem = s.mem ∧ t.dev.out = s.dev.out) ∧
  (∀ (w : Writer) (c : Fin 8) (n : Fin 3) (s : State), Grants s w (R.TXB_CTRL_SINGLE_SHOT c n) → s.dev.get (R.TXB_STATUS_STATE c n) ≠ 1 →
    s.dev.get (R.TXB_STATUS_STATE c n) ≠ 2 → exec (.txbAbort w c n) s = .next s) ∧
  (∀ (c : Fin 8) (n : Nat) (s : State), (s.dev.get (R.CAN_STATUS_MODE_NOW c) = 1 ∨ s.dev.get (R.CAN_STATUS_MODE_NOW c) = 4) →
    s.dev.get (R.CAN_STATUS_STATE c) < 2 → (∀ k < 3, s.dev.get (R.TXB_STATUS_STATE c k) ≠ 2) → canNext s.mem s.dev c = some n →
    ∃ t, exec (.canTxChoice c) s = .next t ∧ t.dev.get (R.TXB_STATUS_STATE c n) = 2 ∧
      t.dev.get (R.TXB_STATUS_ATTEMPTS c n) = min 255 (s.dev.get (R.TXB_STATUS_ATTEMPTS c n) + 1) ∧
      t.dev.out = s.dev.out ++ [.can c.val (txbFrame s.mem s.dev c n)] ∧
      KeepsRegs [R.TXB_STATUS_STATE c n, R.TXB_STATUS_ATTEMPTS c n] s t) ∧
  (∀ (c : Fin 8) (s : State), (2 ≤ s.dev.get (R.CAN_STATUS_STATE c) ∨ s.dev.get (R.CAN_STATUS_MODE_NOW c) = 0 ∨
      s.dev.get (R.CAN_STATUS_MODE_NOW c) = 2 ∨ s.dev.get (R.CAN_STATUS_MODE_NOW c) = 3 ∨ canNext s.mem s.dev c = none) →
    exec (.canTxChoice c) s = .next s) ∧
  (∀ (m : List Host.Cell) (d : Dev) (c : Nat), d.on (R.CAN_CTRL_TX_ORDER c) = false →
    (∀ n, canNext m d c = some n → n < 3 ∧ d.get (R.TXB_STATUS_STATE c n) = 1 ∧
      ∀ k < 3, d.get (R.TXB_STATUS_STATE c k) = 1 → arbValue (txbFrame m d c n) ≤ arbValue (txbFrame m d c k) ∧
        (arbValue (txbFrame m d c n) = arbValue (txbFrame m d c k) → n ≤ k)) ∧
    (canNext m d c = none → ∀ k < 3, d.get (R.TXB_STATUS_STATE c k) ≠ 1)) ∧
  (∀ (c : Fin 8) (n : Fin 3) (ago : Fin 0x1000000) (tdcv : Nat) (s : State), s.dev.get (R.CAN_STATUS_MODE_NOW c) = 1 →
    [0, 1, 2].find? (fun k => s.dev.get (R.TXB_STATUS_STATE c k) == 2) = some n.val →
    ∃ t, exec (.canTxEnd c .ok ago tdcv) s = .next t ∧ t.dev.get (R.TXB_STATUS_STATE c n) = 3 ∧ t.dev.get (R.CAN_EVT_TX_DONE c) = 1 ∧
      t.dev.get (R.CAN_CNT_TX_OK c) = (s.dev.get (R.CAN_CNT_TX_OK c) + 1) % 2 ^ 32 ∧
      t.dev.get (R.TXB_TS c n) = ((s.dev.canStamp c ago).1 + (s.dev.canStamp c ago).2 * 2 ^ 48) % 2 ^ 64 ∧ t.mem = s.mem ∧
      (t.dev.canSt c).aborts = []) ∧
  (∀ (c : Fin 8) (n : Fin 3) (ago : Fin 0x1000000) (tdcv : Nat) (lost : Bool) (s : State),
    [0, 1, 2].find? (fun k => s.dev.get (R.TXB_STATUS_STATE c k) == 2) = some n.val →
    ∃ t, exec (.canTxEnd c (if lost then .lost else .error) ago tdcv) s = .next t ∧
      t.dev.get (R.TXB_STATUS_STATE c n) = (if (s.dev.canSt c).aborts.contains n.val then 4 else if s.dev.on (R.TXB_CTRL_SINGLE_SHOT c n) then 5 else 1) ∧
      t.dev.get (R.CAN_CNT_ARB_LOST c) = (if lost then (s.dev.get (R.CAN_CNT_ARB_LOST c) + 1) % 2 ^ 32 else s.dev.get (R.CAN_CNT_ARB_LOST c)) ∧
      t.mem = s.mem ∧ t.dev.get (R.CAN_CNT_TX_OK c) = s.dev.get (R.CAN_CNT_TX_OK c)) ∧
  (∀ (c : Fin 8) (r : CanEnd) (ago : Fin 0x1000000) (tdcv : Nat) (s : State), (∀ k < 3, s.dev.get (R.TXB_STATUS_STATE c k) ≠ 2) →
    exec (.canTxEnd c r ago tdcv) s = .next s)

/-- In CONFIG or LOOPBACK or bus-off no frame comes from the bus, and a format that is not enabled is passed over under PEX = 1. A fifth waiting frame
is lost and counted. Otherwise the selected list is walked: a match stages the frame for its slot, a frame larger than the slot is counted in
RX_TOO_LONG, no match and a failed walk are counted. The four identifier tests of R349 hold. A store takes the oldest staged frame, is counted and sets
RX; its three writes raise SEQ by one, store the record and data, and raise SEQ again with NEW set. An error is counted, LEC names it, and a transmitter below the limits adds 8 to TEC, a
receiver 1 or 8 to REC (log entry 16); reaching 96 or 128 sets ERR_WARN or ERR_PASSIVE, passing 255 makes the controller bus-off. -/
def Obligations.CanReceive : Prop :=
  (∀ (c : Fin 8) (f : CanFrame) (ago : Fin 0x1000000) (s : State), (s.dev.get (R.CAN_STATUS_MODE_NOW c) = 0 ∨
      s.dev.get (R.CAN_STATUS_MODE_NOW c) = 4 ∨ 2 ≤ s.dev.get (R.CAN_STATUS_STATE c)) → exec (.canFrameReceive c f ago) s = .next s) ∧
  (∀ (c : Fin 8) (f : CanFrame) (ago : Fin 0x1000000) (s : State), s.dev.canFmtOn c f.fmt = false → s.dev.on (R.CAN_CTRL_PEX c) = true →
    exec (.canFrameReceive c f ago) s = .next s) ∧
  (∀ (c : Fin 8) (f : CanFrame) (ago : Fin 0x1000000) (s : State), s.dev.get (R.CAN_STATUS_MODE_NOW c) ≠ 0 →
    s.dev.get (R.CAN_STATUS_MODE_NOW c) ≠ 4 → s.dev.get (R.CAN_STATUS_STATE c) < 2 → s.dev.canFmtOn c f.fmt = true →
    (s.dev.canSt c).staged.length = 4 →
    ∃ t, exec (.canFrameReceive c f ago) s = .next t ∧ t.dev.get (R.CAN_CNT_RX_LOST c) = (s.dev.get (R.CAN_CNT_RX_LOST c) + 1) % 2 ^ 32 ∧
      t.dev.get (R.CAN_EVT_RX_LOST c) = 1 ∧ OnlyRegsEv [R.CAN_CNT_RX_LOST c, R.CAN_EVT_RX_LOST c] s t) ∧
  (∀ (c : Fin 8) (f : CanFrame) (ago : Fin 0x1000000) (b i : Nat) (d1 : Dev) (s : State), s.dev.get (R.CAN_STATUS_MODE_NOW c) ≠ 0 →
    s.dev.get (R.CAN_STATUS_MODE_NOW c) ≠ 4 → s.dev.get (R.CAN_STATUS_STATE c) < 2 → s.dev.canFmtOn c f.fmt = true →
    (s.dev.canSt c).staged.length < 4 →
    canWalk s.mem c (s.dev.get (R.CAN_FLT_BASE c (s.dev.get (R.CAN_CTRL_FLT_SEL c))) * 16) (clipClassical f)
      (s.dev.get (R.CAN_FLT_COUNT c (s.dev.get (R.CAN_CTRL_FLT_SEL c)))) 0 s.dev = (.take b i, d1) →
    (clipClassical f).len ≤ slotData (s.dev.get (R.CAN_CFG_RXB_SLOT c)) →
    ∃ t, exec (.canFrameReceive c f ago) s = .next t ∧ t.mem = s.mem ∧ t.dev.regs = d1.regs ∧
      (t.dev.canSt c).staged = (s.dev.canSt c).staged ++
        [{ frame := clipClassical f, buf := b, index := i, ts := (s.dev.canStamp c ago).1, tag := (s.dev.canStamp c ago).2 }]) ∧
  (∀ (c : Fin 8) (f : CanFrame) (ago : Fin 0x1000000) (r : Walk) (d1 : Dev) (s : State), s.dev.get (R.CAN_STATUS_MODE_NOW c) ≠ 0 →
    s.dev.get (R.CAN_STATUS_MODE_NOW c) ≠ 4 → s.dev.get (R.CAN_STATUS_STATE c) < 2 → s.dev.canFmtOn c f.fmt = true →
    (s.dev.canSt c).staged.length < 4 →
    canWalk s.mem c (s.dev.get (R.CAN_FLT_BASE c (s.dev.get (R.CAN_CTRL_FLT_SEL c))) * 16) (clipClassical f)
      (s.dev.get (R.CAN_FLT_COUNT c (s.dev.get (R.CAN_CTRL_FLT_SEL c)))) 0 s.dev = (r, d1) →
    (r = .noMatch → exec (.canFrameReceive c f ago) s = .next { s with dev := (d1.inc (R.CAN_CNT_RX_NO_MATCH c)).canRxGood c }) ∧
    (r = .fault → exec (.canFrameReceive c f ago) s =
      .next { s with dev := ((d1.inc (R.CAN_CNT_FLT_FAULT c)).canCause c (R.CAN_EVT_FLT_FAULT c) 9).canRxGood c }) ∧
    (∀ b i, r = .take b i → slotData (s.dev.get (R.CAN_CFG_RXB_SLOT c)) < (clipClassical f).len →
      exec (.canFrameReceive c f ago) s = .next { s with dev := (d1.inc (R.CAN_CNT_RX_TOO_LONG c)).canRxGood c })) ∧
  (∀ (e : FltEntry) (f : CanFrame), e.fmts.testBit f.fmt = true → e.ide = f.ide → (e.vcidEn = true → e.vcid = f.vcid.toNat) →
    (e.type = 1 → (fltMatches e f = true ↔ e.id1 ≤ f.id.val ∧ f.id.val ≤ e.id2)) ∧
    (e.type = 2 → (fltMatches e f = true ↔ f.id.val = e.id1 ∨ f.id.val = e.id2)) ∧
    (e.type = 3 → (fltMatches e f = true ↔ f.id.val &&& e.id2 = e.id1 &&& e.id2)) ∧ (e.type = 0 → fltMatches e f = false)) ∧
  (∀ (e : FltEntry) (f : CanFrame), e.fmts.testBit f.fmt = false ∨ e.ide ≠ f.ide → fltMatches e f = false) ∧
  (∀ (c : Fin 8) (x : CanStaged) (rest : List CanStaged) (s : State), (s.dev.canSt c).staged = x :: rest →
    ∃ t, exec (.canRxStore c) s = .next t ∧ (t.dev.canSt c).staged = rest ∧
      t.dev.get (R.CAN_CNT_RX_OK c) = (s.dev.get (R.CAN_CNT_RX_OK c) + 1) % 2 ^ 32 ∧ t.dev.get (R.CAN_EVT_RX c) = 1) ∧
  (∀ (c : Fin 8) (x : CanStaged) (rest : List CanStaged) (q : Req) (a : Nat) (r : List Byte × Dev) (s : State), (s.dev.canSt c).staged = x :: rest →
    q = .sys (s.dev.get (R.CAN_CFG_AGENT c)) →
    a = s.dev.get (R.CAN_RXB_BASE c) * 8 + x.buf * slotBytes (s.dev.get (R.CAN_CFG_RXB_SLOT c)) →
    r = orchRead s.mem (s.dev.setCan c { s.dev.canSt c with staged := rest }) q a 8 →
    ∃ t, exec (.canRxStore c) s = .next t ∧
      t.mem = (((({ s with dev := r.2 } : State).orchWrite q a [r.1.getD 0 0 &&& 3, r.1.getD 1 0 + 1, 0, 0, 0, 0, 0, 0]).orchStore q (a + 8)
        (canRecord x ++ x.frame.data)).orchWrite q a
        [if (r.1.getD 0 0).getLsbD 0 then 3 else 1, r.1.getD 1 0 + 2, 0, 0, 0, 0, 0, 0]).mem) ∧
  (∀ (c : Fin 8) (s : State), (s.dev.canSt c).staged = [] → exec (.canRxStore c) s = .next s) ∧
  (∀ (c : Fin 8) (k : Fin 7) (heavy inFrame : Bool) (s : State), s.dev.get (R.CAN_STATUS_MODE_NOW c) ≠ 0 → s.dev.get (R.CAN_STATUS_STATE c) ≠ 2 →
    s.dev.get (R.CAN_STATUS_TEC c) < 248 →
    ∃ t, exec (.canError c k true heavy inFrame) s = .next t ∧ t.dev.get (R.CAN_STATUS_LEC c) = k.val ∧
      t.dev.get (R.CAN_STATUS_TEC c) = s.dev.get (R.CAN_STATUS_TEC c) + 8 ∧ t.dev.get (R.CAN_STATUS_REC c) = s.dev.get (R.CAN_STATUS_REC c) ∧
      t.dev.get (R.CAN_CNT_ERR_FRAMES c) = (s.dev.get (R.CAN_CNT_ERR_FRAMES c) + 1) % 2 ^ 32 ∧ t.mem = s.mem ∧
      (s.dev.get (R.CAN_STATUS_TEC c) < 96 → 88 ≤ s.dev.get (R.CAN_STATUS_TEC c) → t.dev.get (R.CAN_EVT_ERR_WARN c) = 1) ∧
      (s.dev.get (R.CAN_STATUS_TEC c) < 128 → 120 ≤ s.dev.get (R.CAN_STATUS_TEC c) →
        t.dev.get (R.CAN_EVT_ERR_PASSIVE c) = 1 ∧ t.dev.get (R.CAN_STATUS_STATE c) = 1)) ∧
  (∀ (c : Fin 8) (k : Fin 7) (heavy inFrame : Bool) (s : State), s.dev.get (R.CAN_STATUS_MODE_NOW c) ≠ 0 → s.dev.get (R.CAN_STATUS_STATE c) ≠ 2 →
    248 ≤ s.dev.get (R.CAN_STATUS_TEC c) →
    ∃ t, exec (.canError c k true heavy inFrame) s = .next t ∧ t.dev.get (R.CAN_STATUS_STATE c) = 2 ∧ t.dev.get (R.CAN_EVT_BUS_OFF c) = 1 ∧
      t.dev.get (R.CAN_CNT_BUS_OFF_CNT c) = (s.dev.get (R.CAN_CNT_BUS_OFF_CNT c) + 1) % 2 ^ 32) ∧
  (∀ (c : Fin 8) (k : Fin 7) (heavy inFrame : Bool) (s : State), s.dev.get (R.CAN_STATUS_MODE_NOW c) ≠ 0 → s.dev.get (R.CAN_STATUS_STATE c) ≠ 2 →
    ∃ t, exec (.canError c k false heavy inFrame) s = .next t ∧ t.dev.get (R.CAN_STATUS_LEC c) = k.val ∧
      t.dev.get (R.CAN_STATUS_REC c) = min 255 (s.dev.get (R.CAN_STATUS_REC c) + (if heavy then 8 else 1)) ∧ t.mem = s.mem) ∧
  (∀ (c : Fin 8) (k : Fin 7) (tx heavy inFrame : Bool) (s : State), (s.dev.get (R.CAN_STATUS_MODE_NOW c) = 0 ∨ s.dev.get (R.CAN_STATUS_STATE c) = 2) →
    exec (.canError c k tx heavy inFrame) s = .next s)

/-- A store to ENG_DONE ends the work of a running STRIDE engine that follows no leader: DONE, its cycles in CYC_LAST, the largest in CYC_MAX; a FREE
engine it does not touch. A read of ENG_WAIT with an enabled line latched gives the enabled lines and clears them; with none the engine enters WAIT,
and a FENCED engine that reads it in a delay slot stops. Then an enabled line that is latched gives and clears the lines and the engine runs on; with none it waits on. When the limit passes the read gives the
enabled lines latched by then, 0 for none; with no limit set nothing passes. -/
def Obligations.EngineWork : Prop :=
  (∀ (e : Fin 48) (s : State), s.dev.get (R.ENG_STATUS_STATE e) = 2 → s.dev.partner e = none → s.dev.get (R.ENG_CFG_MODE e) = 1 →
    ∃ t, exec (.engDone e) s = .next t ∧ t.dev.get (R.ENG_STATUS_STATE e) = 4 ∧
      t.dev.get (R.ENG_CYC_LAST e) = min ((s.dev.now - (s.dev.engine e).entryAt) % 2 ^ 24) 0xFFFFFE ∧
      t.dev.get (R.ENG_CYC_MAX e) = max (min ((s.dev.now - (s.dev.engine e).entryAt) % 2 ^ 24) 0xFFFFFE) (s.dev.get (R.ENG_CYC_MAX e)) ∧
      KeepsRegs [R.ENG_STATUS_STATE e, R.ENG_CYC_LAST e, R.ENG_CYC_MAX e] s t ∧ t.dev.eng = s.dev.eng) ∧
  (∀ (e p : Fin 48) (s : State), s.dev.get (R.ENG_STATUS_STATE e) = 2 → s.dev.follower e = false → s.dev.partner e = some p.val →
    s.dev.get (R.ENG_CFG_MODE e) = 1 →
    ∃ t, exec (.engDone e) s = .next t ∧ t.dev.get (R.ENG_STATUS_STATE e) = 4 ∧ t.dev.get (R.ENG_STATUS_STATE p) = 4 ∧ t.mem = s.mem) ∧
  (∀ (e : Fin 48) (s : State), (s.dev.get (R.ENG_STATUS_STATE e) ≠ 2 ∨ s.dev.follower e = true) → exec (.engDone e) s = .next s) ∧
  (∀ (e : Fin 48) (s : State), s.dev.partner e = none → s.dev.get (R.ENG_CFG_MODE e) ≠ 1 → exec (.engDone e) s = .next s) ∧
  (∀ (e : Fin 48) (rd : Fin 32) (sx : Bool) (l : Nat) (s : State), Issues s e → s.dev.engState e = 2 → l = s.dev.enabledLines e → l ≠ 0 →
    ∃ t, exec (.engWait e rd sx) s = .next t ∧ (s.dev.partner e = none → (t.dev.engine e).evPend = (s.dev.engine e).evPend &&& ~~~(BitVec.ofNat 32 l)) ∧
      t.dev.greg e rd = (if rd = 0 then 0 else if sx then wrap40 (BitVec.ofNat 32 l).toInt else l) ∧ t.mem = s.mem ∧
      t.dev.get (R.ENG_STATUS_STATE e) = 2 ∧ t.dev.pc e = (s.dev.engine e).slot.getD (s.dev.pc e + 4) % 2 ^ 32) ∧
  (∀ (e : Fin 48) (rd : Fin 32) (sx : Bool) (s : State), Issues s e → s.dev.engState e = 2 → s.dev.enabledLines e = 0 →
    ∃ t, exec (.engWait e rd sx) s = .next t ∧ t.dev.get (R.ENG_STATUS_STATE e) = 3 ∧ t.dev.pc e = s.dev.pc e ∧ t.mem = s.mem ∧
      (t.dev.engine e).wait = some (.events rd sx) ∧ (s.dev.partner e = none → (t.dev.engine e).evPend = (s.dev.engine e).evPend) ∧
      ∀ r, t.dev.greg e r = s.dev.greg e r) ∧
  (∀ (e : Fin 48) (rd : Fin 32) (sx : Bool) (s : State), Issues s e → s.dev.engState e = 5 → s.dev.enabledLines e = 0 →
    ∃ t, exec (.engWait e rd sx) s = .next t ∧ t.dev.get (R.ENG_STATUS_STATE e) = 5 ∧ t.dev.zReady e = false ∧ t.mem = s.mem ∧
      ∀ r, t.dev.greg e r = s.dev.greg e r) ∧
  (∀ (e : Fin 48) (rd : Nat) (sx : Bool) (l : Nat) (s : State), (s.dev.engine e).wait = some (.events rd sx) → s.dev.follower e = false →
    l = s.dev.enabledLines e → l ≠ 0 → (s.dev.engine e).haltReq = false →
    ∃ t, exec (.waitWake e) s = .next t ∧ t.dev.get (R.ENG_STATUS_STATE e) = 2 ∧ (t.dev.engine e).wait = none ∧ t.mem = s.mem ∧
      t.dev.greg e rd = (if rd = 0 then 0 else if sx then wrap40 (BitVec.ofNat 32 l).toInt else l) ∧
      (s.dev.partner e = none → (t.dev.engine e).evPend = (s.dev.engine e).evPend &&& ~~~(BitVec.ofNat 32 l)) ∧
      t.dev.pc e = (s.dev.engine e).slot.getD (s.dev.pc e + 4) % 2 ^ 32) ∧
  (∀ (e : Fin 48) (s : State), (s.dev.enabledLines e = 0 ∨ ∀ rd sx, (s.dev.engine e).wait ≠ some (.events rd sx)) →
    exec (.waitWake e) s = .next s) ∧
  (∀ (e : Fin 48) (rd : Nat) (sx : Bool) (s : State), (s.dev.engine e).wait = some (.events rd sx) → s.dev.follower e = false →
    (s.dev.engine e).limit ≠ 0 → (s.dev.engine e).haltReq = false → s.dev.enabledLines e = 0 → s.dev.now = (s.dev.engine e).waitAt + (s.dev.engine e).limit →
    ∃ t, exec (.waitLimitExpiry e) s = .next t ∧ t.dev.get (R.ENG_STATUS_STATE e) = 2 ∧ (t.dev.engine e).wait = none ∧ t.dev.greg e rd = 0 ∧
      t.mem = s.mem ∧ t.dev.pc e = (s.dev.engine e).slot.getD (s.dev.pc e + 4) % 2 ^ 32) ∧
  (∀ (e : Fin 48) (rd : Nat) (sx : Bool) (s : State), (s.dev.engine e).wait = some (.events rd sx) → s.dev.follower e = false →
    (s.dev.engine e).limit ≠ 0 → (s.dev.engine e).haltReq = false →
    ∃ t, exec (.waitLimitExpiry e) s = .next t ∧ t.dev.get (R.ENG_STATUS_STATE e) = 2 ∧ (t.dev.engine e).wait = none) ∧
  (∀ (e : Fin 48) (s : State), ((s.dev.engine e).limit = 0 ∨ ∀ rd sx, (s.dev.engine e).wait ≠ some (.events rd sx)) →
    exec (.waitLimitExpiry e) s = .next s)

/-- A tail within the ring that does not pass the head posts the entries up to it, those after a fence that the engine's launches are judged by as late
ones; any other is dropped with TX_OVF. With no posted entry in the
team nothing is finished. The entry that is finished moves its ring's head on and asserts line 5; its STATUS, in a bank that the team owns, is REJECTED
(2) for a bad entry, LATE (3), BANK_FAULT (4) or SENT (1). A frame that waits at the team port goes to the ring of its class; a ring with COUNT 0, or
whose next entry is still owned, drops and counts it; else the next entry moves on and line 4 is asserted. -/
def Obligations.EngineRings : Prop :=
  (∀ (e : Fin 48) (v : W32) (n tail : Nat) (s : State), n = s.dev.get (R.ENG_TXR_CFG_COUNT e) → tail = s.dev.get (R.ENG_TX_IDX_TAIL e) →
    v.toNat < n → (tail + n - s.dev.get (R.ENG_TX_IDX_HEAD e)) % n + (v.toNat + n - tail) % n < n →
    ∃ t, exec (.engTxTail e v) s = .next t ∧ t.dev.get (R.ENG_TX_IDX_TAIL e) = v.toNat ∧ KeepsRegs [R.ENG_TX_IDX_TAIL e] s t ∧
      (s.dev.launchGaits e = [] → (t.dev.engine e).txLate = (s.dev.engine e).txLate) ∧
      (s.dev.launchGaits e ≠ [] → ∀ i < (v.toNat + n - tail) % n,
        Tab.find? (t.dev.engine e).txLate ((tail + i) % n) = some (s.dev.stride.next, s.dev.launchGaits e))) ∧
  (∀ (e : Fin 48) (v : W32) (n tail : Nat) (s : State), n = s.dev.get (R.ENG_TXR_CFG_COUNT e) → tail = s.dev.get (R.ENG_TX_IDX_TAIL e) →
    (n ≤ v.toNat ∨ n ≤ (tail + n - s.dev.get (R.ENG_TX_IDX_HEAD e)) % n + (v.toNat + n - tail) % n) →
    ∃ t, exec (.engTxTail e v) s = .next t ∧ t.dev.get (R.ENG_STATUS_TX_OVF e) = 1 ∧ OnlyRegsEv [R.ENG_STATUS_TX_OVF e] s t) ∧
  (∀ (t : Fin 12) (s : State), (∀ i < 4, s.dev.get (R.ENG_TX_IDX_HEAD (t * 4 + i)) = s.dev.get (R.ENG_TX_IDX_TAIL (t * 4 + i))) →
    exec (.txEntryFinish t) s = .next s) ∧
  (∀ (t : Fin 12) (e h a : Nat) (credits : Tab Nat) (x : TxEntry) (s : State), pickRing s.mem s.dev t = some (e, credits) →
    h = s.dev.get (R.ENG_TX_IDX_HEAD e) → a = s.dev.get (R.ENG_TXR_BASE e) * 64 + 32 * h → x = txEntry (Mem.bytes s.mem a 32) (26 + t) false →
    s.dev.teamOwns t a 32 = true → s.dev.eccAt (a + 24) = none → s.dev.regionAt ((a + 31) / 0x80000) ((a + 31) % 0x80000) 1 = none →
    (x.bad = true → ∃ u, exec (.txEntryFinish t) s = .next u ∧ (Mem.byte u.mem (a + 31)).toNat = 2 ∧ u.dev.out = s.dev.out ∧
      u.dev.get (R.ENG_TX_IDX_HEAD e) = (h + 1) % max 1 (s.dev.get (R.ENG_TXR_CFG_COUNT e)) % 2 ^ 11) ∧
    (∀ y, x.bad = false → x.stride = true → Tab.find? (s.dev.engine e).txLate h = some y →
      ∃ u, exec (.txEntryFinish t) s = .next u ∧ (Mem.byte u.mem (a + 31)).toNat = 3 ∧
        u.dev.get (R.ENG_TX_IDX_HEAD e) = (h + 1) % max 1 (s.dev.get (R.ENG_TXR_CFG_COUNT e)) % 2 ^ 11) ∧
    (x.bad = false → (x.stride = true → Tab.find? (s.dev.engine e).txLate h = none) → s.dev.teamOwns t x.addr x.len = false →
      ∃ u, exec (.txEntryFinish t) s = .next u ∧ (Mem.byte u.mem (a + 31)).toNat = 4 ∧
        u.dev.get (R.ENG_TX_IDX_HEAD e) = (h + 1) % max 1 (s.dev.get (R.ENG_TXR_CFG_COUNT e)) % 2 ^ 11)) ∧
  (∀ (t : Fin 12) (e h a : Nat) (credits : Tab Nat) (x : TxEntry) (r : List Byte × Dev) (s : State), pickRing s.mem s.dev t = some (e, credits) →
    h = s.dev.get (R.ENG_TX_IDX_HEAD e) → a = s.dev.get (R.ENG_TXR_BASE e) * 64 + 32 * h → x = txEntry (Mem.bytes s.mem a 32) (26 + t) false →
    s.dev.teamOwns t a 32 = true → x.bad = false → (x.stride = true → Tab.find? (s.dev.engine e).txLate h = none) → s.dev.teamOwns t x.addr x.len = true →
    r = orchRead s.mem (s.dev.withFab (fun f => { f with deficit := credits })) (.sys t) x.addr x.len →
    exec (.txEntryFinish t) s = .next ((({ s with dev := (r.2.sendEntry x r.1).sentWait (26 + t) r.2.fab.nextId } : State).txStatus (.sys t) a 1).on (fun d =>
      (if x.stride then d.workDone else d).txAdvance e))) ∧
  (∀ (t : Fin 12) (e a : Nat) (credits : Tab Nat) (s : State), pickRing s.mem s.dev t = some (e, credits) →
    a = s.dev.get (R.ENG_TXR_BASE e) * 64 + 32 * s.dev.get (R.ENG_TX_IDX_HEAD e) → s.dev.teamOwns t a 32 = false →
    exec (.txEntryFinish t) s = .next (s.on (fun d => ((d.withFab (fun f => { f with deficit := credits })).bankFault (a / 0x80000)
      (max 1 ((d.withFab (fun f => { f with deficit := credits })).bankRefuses (a / 0x80000) (.sys t))) (.sys t) false (a % 0x80000)).txAdvance e))) ∧
  (∀ (e : Fin 48) (c : Copy) (ride : Bool) (s : State), s.dev.get (R.ENG_RXR_CFG_COUNT e) = 0 →
    (s.ringStore e c ride).dev.get (R.ENG_RXR_DROP e) = (s.dev.get (R.ENG_RXR_DROP e) + 1) % 2 ^ 32 ∧
    (s.ringStore e c ride).dev.get (R.ENG_STATUS_RX_DROP e) = 1 ∧ (s.ringStore e c ride).mem = s.mem) ∧
  (∀ (e : Fin 48) (c : Copy) (ride : Bool) (s : State), s.dev.get (R.ENG_RXR_CFG_COUNT e) ≠ 0 →
    (orchRead s.mem s.dev (.sys (e / 4)) (s.dev.get (R.ENG_RXR_BASE e) * 64 + 32 * (s.dev.engine e).rxNext + 31) 1).1 = [1] →
    (s.ringStore e c ride).dev.get (R.ENG_RXR_DROP e) = (s.dev.get (R.ENG_RXR_DROP e) + 1) % 2 ^ 32 ∧
    (s.ringStore e c ride).dev.get (R.ENG_STATUS_RX_DROP e) = 1 ∧ (s.ringStore e c ride).mem = s.mem) ∧
  (∀ (e : Fin 48) (c : Copy) (ride : Bool) (s : State), s.dev.get (R.ENG_RXR_CFG_COUNT e) ≠ 0 →
    (orchRead s.mem s.dev (.sys (e / 4)) (s.dev.get (R.ENG_RXR_BASE e) * 64 + 32 * (s.dev.engine e).rxNext + 31) 1).1 ≠ [1] →
    ((s.ringStore e c ride).dev.engine e).rxNext = ((s.dev.engine e).rxNext + 1) % s.dev.get (R.ENG_RXR_CFG_COUNT e) ∧
    (s.ringStore e c ride).dev.get (R.ENG_RXR_DROP e) = s.dev.get (R.ENG_RXR_DROP e)) ∧
  (∀ (t : Fin 12) (c : Copy) (d : Dev) (s : State), s.dev.takeFrame (26 + t) = (some c, d) →
    exec (.rxEntryWrite t) s = .next (({ s with dev := d } : State).ringStore (t * 4 + d.get (R.TEAM_CFG_RX_MAP t) / 4 ^ c.cls % 4) c false)) ∧
  (∀ (t : Fin 12) (d : Dev) (s : State), s.dev.takeFrame (26 + t) = (none, d) → exec (.rxEntryWrite t) s = .next { s with dev := d })

/-- HALT halts a running, waiting, done or fenced engine with cause HOST, and its partner; before a delay slot it waits for the slot's end, at the pair's
leader; an engine that is off, idle, halted or dozing it leaves. RESTART of a HALTED engine clears the cause and g1 to g31: a STRIDE engine goes to DONE, a FREE engine runs
from its entry, with FIRST at that entry; an engine that is not HALTED ignores it. CLR_STATS clears CYC_MAX and RXR_DROP. A Bridle fault leaves it
restarting with its commands lost and the system event raised; when the restart is done it runs and the count of restarts is one higher. -/
def Obligations.EngineHaltAndRestart : Prop :=
  (∀ (w : Writer) (e : Fin 48) (s : State), Grants s w (R.ENG_STATUS_STATE e) → (s.dev.engState e = 4 ∨
      (s.dev.engState e = 2 ∨ s.dev.engState e = 3 ∨ s.dev.engState e = 5) ∧ (s.dev.engine e).slot = none) →
    ∃ t, exec (.halt w e) s = .next t ∧ t.dev.get (R.ENG_STATUS_STATE e) = 6 ∧ t.dev.get (R.ENG_STATUS_HALT_CAUSE e) = 1 ∧
      t.dev.get (R.ENG_STATUS_HALTED e) = 1 ∧ t.mem = s.mem ∧ t.dev.pc e = s.dev.pc e ∧ (∀ r, t.dev.greg e r = s.dev.greg e r) ∧
      (∀ p, s.dev.partner e = some p → t.dev.get (R.ENG_STATUS_STATE p) = 6 ∧ t.dev.get (R.ENG_STATUS_HALT_CAUSE p) = 1)) ∧
  (∀ (w : Writer) (e : Fin 48) (k : Nat) (s : State), Grants s w (R.ENG_STATUS_STATE e) →
    (s.dev.engState e = 2 ∨ s.dev.engState e = 3 ∨ s.dev.engState e = 5) → (s.dev.engine e).slot.isSome = true →
    k = (if s.dev.follower e then e.val - 1 else e.val) →
    ∃ t, exec (.halt w e) s = .next t ∧ (t.dev.engine k) = { s.dev.engine k with haltReq := true } ∧ t.dev.regs = s.dev.regs ∧ t.mem = s.mem) ∧
  (∀ (w : Writer) (e : Fin 48) (s : State), Grants s w (R.ENG_STATUS_STATE e) → (s.dev.engState e = 0 ∨ s.dev.engState e = 1 ∨ s.dev.engState e = 6 ∨
      s.dev.engState e = 7) → exec (.halt w e) s = .next s) ∧
  (∀ (d : Dev) (e : Nat), e < 48 → (d.engine e).haltReq = true → (d.engine e).slot.isSome = true → (d.engine e).wait = none → d.partner e = none →
    (Dev.retire e (.next d)).get (R.ENG_STATUS_STATE e) = 6 ∧ (Dev.retire e (.next d)).get (R.ENG_STATUS_HALT_CAUSE e) = 1) ∧
  (∀ (w : Writer) (e : Fin 48) (s : State), Grants s w (R.ENG_STATUS_STATE e) → s.dev.engState e = 6 → s.dev.partner e = none →
    ∃ t, exec (.restart w e) s = .next t ∧ t.dev.get (R.ENG_STATUS_HALT_CAUSE e) = 0 ∧ t.mem = s.mem ∧ (∀ r, t.dev.greg e r = 0) ∧
      (s.dev.get (R.ENG_CFG_MODE e) = 1 → t.dev.get (R.ENG_STATUS_STATE e) = 4 ∧ (t.dev.engine e).first = true) ∧
      (s.dev.get (R.ENG_CFG_MODE e) = 2 → t.dev.get (R.ENG_STATUS_STATE e) = 2 ∧ t.dev.pc e = s.dev.get (R.ENG_ENTRY e) ∧
        (t.dev.engine e).edge = 512)) ∧
  (∀ (w : Writer) (e : Fin 48) (p : Nat) (s : State), Grants s w (R.ENG_STATUS_STATE e) → s.dev.engState e = 6 → s.dev.partner e = some p →
    s.dev.engState p = 6 → s.dev.get (R.ENG_CFG_MODE (min e p)) = 1 →
    ∃ t, exec (.restart w e) s = .next t ∧ t.dev.get (R.ENG_STATUS_STATE e) = 4 ∧ t.dev.get (R.ENG_STATUS_STATE p) = 4 ∧
      ∀ r, t.dev.greg e r = 0 ∧ t.dev.greg p r = 0) ∧
  (∀ (w : Writer) (e : Fin 48) (s : State), Grants s w (R.ENG_STATUS_STATE e) → s.dev.engState e ≠ 6 → exec (.restart w e) s = .next s) ∧
  (∀ (w : Writer) (e : Fin 48) (s : State), Grants s w (R.ENG_STATUS_STATE e) →
    ∃ t, exec (.engClrStats w e) s = .next t ∧ t.dev.get (R.ENG_CYC_MAX e) = 0 ∧ t.dev.get (R.ENG_RXR_DROP e) = 0 ∧
      OnlyRegs [R.ENG_CYC_MAX e, R.ENG_RXR_DROP e] s t) ∧
  (∀ s : State, ∃ t, exec .bridleFault s = .next t ∧ t.dev.get R.BRIDLE_STATUS_STATE = 2 ∧ t.dev.get R.SYS_DIAG_BRIDLE_FAULT = 1 ∧
      t.dev.bridle.tasks = [] ∧ t.dev.hn.fwd = [] ∧ t.mem = s.mem ∧
      (∀ g : Fld, block g ≠ 3 → g.key ≠ R.BRIDLE_STATUS_STATE.key → g.key ≠ R.SYS_DIAG_BRIDLE_FAULT.key → t.dev.get g = s.dev.get g)) ∧
  (∀ s : State, s.dev.get R.BRIDLE_STATUS_STATE ≠ 1 → s.dev.sys.starting = false → s.dev.on R.SEC_STATUS_STORED_VALID = true →
    ∃ t, exec .bridleRestartDone s = .next t ∧ t.dev.get R.BRIDLE_STATUS_STATE = 1 ∧
      t.dev.get R.BRIDLE_STATUS_RESTARTS = (s.dev.get R.BRIDLE_STATUS_RESTARTS + 1) % 2 ^ 16 ∧
      KeepsRegs [R.BRIDLE_STATUS_STATE, R.BRIDLE_STATUS_RESTARTS] s t) ∧
  (∀ s : State, s.dev.get R.BRIDLE_STATUS_STATE ≠ 1 → s.dev.sys.starting = false → s.dev.on R.SEC_STATUS_STORED_VALID = false →
    ∃ t, exec .bridleRestartDone s = .next t ∧ t.dev.get R.BRIDLE_STATUS_STATE = 1 ∧ t.dev.get R.SEC_STATUS_RECOVERY = 1 ∧ t.mem = s.mem) ∧
  (∀ s : State, (s.dev.get R.BRIDLE_STATUS_STATE = 1 ∨ s.dev.sys.starting = true) → exec .bridleRestartDone s = .next s)

/-- On a core that takes an instruction, each instruction of R430 to R433 writes the value of its rule to rd and sets OV or DZ where its rule does,
changes no other general register, and the program counter moves on. -/
def Obligations.ZhofaArithmetic : Prop :=
  (∀ (e : Fin 49) (rd rs rt : Fin 32) (s : State) (a b c : Nat), Issues s e → a = s.dev.greg e rs → b = s.dev.greg e rt → c = s.dev.greg e rd →
    (∃ t, exec (.add e rd rs rt) s = .next t ∧ ZResult e rd (wrap40 (S40 a + S40 b)) false false s t) ∧
    (∃ t, exec (.sub e rd rs rt) s = .next t ∧ ZResult e rd (wrap40 (S40 a - S40 b)) false false s t) ∧
    (∃ t, exec (.and e rd rs rt) s = .next t ∧ ZResult e rd (a &&& b) false false s t) ∧
    (∃ t, exec (.or e rd rs rt) s = .next t ∧ ZResult e rd (a ||| b) false false s t) ∧
    (∃ t, exec (.xor e rd rs rt) s = .next t ∧ ZResult e rd (a ^^^ b) false false s t) ∧
    (∃ t, exec (.nor e rd rs rt) s = .next t ∧ ZResult e rd (2 ^ 40 - 1 - (a ||| b)) false false s t) ∧
    (∃ t, exec (.min e rd rs rt) s = .next t ∧ ZResult e rd (if S40 a < S40 b then a else b) false false s t) ∧
    (∃ t, exec (.max e rd rs rt) s = .next t ∧ ZResult e rd (if S40 a > S40 b then a else b) false false s t) ∧
    (∃ t, exec (.minu e rd rs rt) s = .next t ∧ ZResult e rd (min a b) false false s t) ∧
    (∃ t, exec (.maxu e rd rs rt) s = .next t ∧ ZResult e rd (max a b) false false s t) ∧
    (∃ t, exec (.clt e rd rs rt) s = .next t ∧ ZResult e rd (if S40 a < S40 b then 1 else 0) false false s t) ∧
    (∃ t, exec (.cltu e rd rs rt) s = .next t ∧ ZResult e rd (if a < b then 1 else 0) false false s t) ∧
    (∃ t, exec (.cle e rd rs rt) s = .next t ∧ ZResult e rd (if S40 a ≤ S40 b then 1 else 0) false false s t) ∧
    (∃ t, exec (.cleu e rd rs rt) s = .next t ∧ ZResult e rd (if a ≤ b then 1 else 0) false false s t) ∧
    (∃ t, exec (.ceq e rd rs rt) s = .next t ∧ ZResult e rd (if a = b then 1 else 0) false false s t) ∧
    (∃ t, exec (.cne e rd rs rt) s = .next t ∧ ZResult e rd (if a = b then 0 else 1) false false s t) ∧
    (∃ t, exec (.zext32 e rd rs) s = .next t ∧ ZResult e rd (a % 2 ^ 32) false false s t) ∧
    (∃ t, exec (.sext8 e rd rs) s = .next t ∧ ZResult e rd (wrap40 (BitVec.ofNat 8 a).toInt) false false s t) ∧
    (∃ t, exec (.sext16 e rd rs) s = .next t ∧ ZResult e rd (wrap40 (BitVec.ofNat 16 a).toInt) false false s t) ∧
    (∃ t, exec (.sext32 e rd rs) s = .next t ∧ ZResult e rd (wrap40 (BitVec.ofNat 32 a).toInt) false false s t) ∧
    (∃ t, exec (.sll e rd rs rt) s = .next t ∧ ZResult e rd (if b ≥ 40 then 0 else a * 2 ^ b % 2 ^ 40) false false s t) ∧
    (∃ t, exec (.srl e rd rs rt) s = .next t ∧ ZResult e rd (a / 2 ^ b) false false s t) ∧
    (∃ t, exec (.sra e rd rs rt) s = .next t ∧ ZResult e rd (wrap40 (S40 a / (2 ^ b : Nat))) false false s t) ∧
    (∃ t, exec (.rol e rd rs rt) s = .next t ∧ ZResult e rd (((BitVec.ofNat 40 a).rotateLeft (b % 40)).toNat) false false s t) ∧
    (∃ t, exec (.ror e rd rs rt) s = .next t ∧ ZResult e rd (((BitVec.ofNat 40 a).rotateRight (b % 40)).toNat) false false s t) ∧
    (∃ t, exec (.mul e rd rs rt) s = .next t ∧ ZResult e rd (wrap40 (S40 a * S40 b)) false false s t) ∧
    (∃ t, exec (.mulh e rd rs rt) s = .next t ∧ ZResult e rd (wrap40 (S40 a * S40 b / (2 ^ 40 : Nat))) false false s t) ∧
    (∃ t, exec (.mulhu e rd rs rt) s = .next t ∧ ZResult e rd (a * b / 2 ^ 40) false false s t) ∧
    (∃ t, exec (.mac e rd rs rt) s = .next t ∧ ZResult e rd (wrap40 (S40 c + S40 a * S40 b)) false false s t) ∧
    (∃ t, exec (.mac16 e rd rs rt) s = .next t ∧ ZResult e rd (wrap40 (S40 c + (BitVec.ofNat 16 a).toInt * (BitVec.ofNat 16 b).toInt)) false false s t) ∧
    (-549755813888 ≤ S40 a + S40 b → S40 a + S40 b ≤ 549755813887 →
      ∃ t, exec (.adds e rd rs rt) s = .next t ∧ ZResult e rd (wrap40 (S40 a + S40 b)) false false s t) ∧
    (-549755813888 ≤ S40 a - S40 b → S40 a - S40 b ≤ 549755813887 →
      ∃ t, exec (.subs e rd rs rt) s = .next t ∧ ZResult e rd (wrap40 (S40 a - S40 b)) false false s t) ∧
    (-549755813888 ≤ S40 a * S40 b → S40 a * S40 b ≤ 549755813887 →
      ∃ t, exec (.muls e rd rs rt) s = .next t ∧ ZResult e rd (wrap40 (S40 a * S40 b)) false false s t) ∧
    (-549755813888 ≤ S40 c + S40 a * S40 b → S40 c + S40 a * S40 b ≤ 549755813887 →
      ∃ t, exec (.macs e rd rs rt) s = .next t ∧ ZResult e rd (wrap40 (S40 c + S40 a * S40 b)) false false s t) ∧
    (-549755813888 ≤ -(S40 a) → -(S40 a) ≤ 549755813887 →
      ∃ t, exec (.neg e rd rs) s = .next t ∧ ZResult e rd (wrap40 (-(S40 a))) false false s t) ∧
    (-549755813888 ≤ ((S40 a).natAbs : Int) → ((S40 a).natAbs : Int) ≤ 549755813887 →
      ∃ t, exec (.abs e rd rs) s = .next t ∧ ZResult e rd (wrap40 (((S40 a).natAbs : Int))) false false s t) ∧
    (-549755813888 ≤ S40 c + (BitVec.ofNat 16 a).toInt * (BitVec.ofNat 16 b).toInt → S40 c + (BitVec.ofNat 16 a).toInt * (BitVec.ofNat 16 b).toInt ≤ 549755813887 →
      ∃ t, exec (.macs16 e rd rs rt) s = .next t ∧ ZResult e rd (wrap40 (S40 c + (BitVec.ofNat 16 a).toInt * (BitVec.ofNat 16 b).toInt)) false false s t) ∧
    (S40 a + S40 b < -549755813888 → ∃ t, exec (.adds e rd rs rt) s = .next t ∧ ZResult e rd (2 ^ 39) true false s t) ∧
    (549755813887 < S40 a + S40 b → ∃ t, exec (.adds e rd rs rt) s = .next t ∧ ZResult e rd (2 ^ 39 - 1) true false s t) ∧
    (S40 a - S40 b < -549755813888 → ∃ t, exec (.subs e rd rs rt) s = .next t ∧ ZResult e rd (2 ^ 39) true false s t) ∧
    (549755813887 < S40 a - S40 b → ∃ t, exec (.subs e rd rs rt) s = .next t ∧ ZResult e rd (2 ^ 39 - 1) true false s t) ∧
    (S40 a * S40 b < -549755813888 → ∃ t, exec (.muls e rd rs rt) s = .next t ∧ ZResult e rd (2 ^ 39) true false s t) ∧
    (549755813887 < S40 a * S40 b → ∃ t, exec (.muls e rd rs rt) s = .next t ∧ ZResult e rd (2 ^ 39 - 1) true false s t) ∧
    (S40 c + S40 a * S40 b < -549755813888 → ∃ t, exec (.macs e rd rs rt) s = .next t ∧ ZResult e rd (2 ^ 39) true false s t) ∧
    (549755813887 < S40 c + S40 a * S40 b → ∃ t, exec (.macs e rd rs rt) s = .next t ∧ ZResult e rd (2 ^ 39 - 1) true false s t) ∧
    (S40 c + (BitVec.ofNat 16 a).toInt * (BitVec.ofNat 16 b).toInt < -549755813888 → ∃ t, exec (.macs16 e rd rs rt) s = .next t ∧ ZResult e rd (2 ^ 39) true false s t) ∧
    (549755813887 < S40 c + (BitVec.ofNat 16 a).toInt * (BitVec.ofNat 16 b).toInt → ∃ t, exec (.macs16 e rd rs rt) s = .next t ∧ ZResult e rd (2 ^ 39 - 1) true false s t) ∧
    (S40 a = -549755813888 → ∃ t, exec (.neg e rd rs) s = .next t ∧ ZResult e rd (2 ^ 39) true false s t) ∧
    (S40 a = -549755813888 → ∃ t, exec (.abs e rd rs) s = .next t ∧ ZResult e rd (2 ^ 39) true false s t) ∧
    (b = 0 → ∃ t, exec (.div e rd rs rt) s = .next t ∧ ZResult e rd (2 ^ 40 - 1) false true s t) ∧
    (b = 0 → ∃ t, exec (.divu e rd rs rt) s = .next t ∧ ZResult e rd (2 ^ 40 - 1) false true s t) ∧
    (b = 0 → ∃ t, exec (.rem e rd rs rt) s = .next t ∧ ZResult e rd a false true s t) ∧
    (b = 0 → ∃ t, exec (.remu e rd rs rt) s = .next t ∧ ZResult e rd a false true s t) ∧
    (b ≠ 0 → ∃ t, exec (.divu e rd rs rt) s = .next t ∧ ZResult e rd (a / b) false false s t) ∧
    (b ≠ 0 → ∃ t, exec (.remu e rd rs rt) s = .next t ∧ ZResult e rd (a % b) false false s t) ∧
    (S40 a = -549755813888 → S40 b = -1 → ∃ t, exec (.div e rd rs rt) s = .next t ∧ ZResult e rd (2 ^ 39) true false s t) ∧
    (S40 a = -549755813888 → S40 b = -1 → ∃ t, exec (.rem e rd rs rt) s = .next t ∧ ZResult e rd 0 true false s t) ∧
    (b ≠ 0 → (S40 a ≠ -549755813888 ∨ S40 b ≠ -1) →
      ∃ t, exec (.div e rd rs rt) s = .next t ∧ ZResult e rd (wrap40 ((S40 a).tdiv (S40 b))) false false s t) ∧
    (b ≠ 0 → (S40 a ≠ -549755813888 ∨ S40 b ≠ -1) →
      ∃ t, exec (.rem e rd rs rt) s = .next t ∧ ZResult e rd (wrap40 (S40 a - (S40 a).tdiv (S40 b) * S40 b)) false false s t)) ∧
  (∀ (e : Fin 49) (rd rs : Fin 32) (n : Fin 64) (s : State) (a : Nat), Issues s e → a = s.dev.greg e rs →
    (∃ t, exec (.slli e rd rs n) s = .next t ∧ ZResult e rd (if n.val ≥ 40 then 0 else a * 2 ^ n.val % 2 ^ 40) false false s t) ∧
    (∃ t, exec (.srli e rd rs n) s = .next t ∧ ZResult e rd (a / 2 ^ n.val) false false s t) ∧
    (∃ t, exec (.srai e rd rs n) s = .next t ∧ ZResult e rd (wrap40 (S40 a / (2 ^ n.val : Nat))) false false s t) ∧
    (∃ t, exec (.roli e rd rs n) s = .next t ∧ ZResult e rd (((BitVec.ofNat 40 a).rotateLeft (n.val % 40)).toNat) false false s t) ∧
    (∃ t, exec (.rori e rd rs n) s = .next t ∧ ZResult e rd (((BitVec.ofNat 40 a).rotateRight (n.val % 40)).toNat) false false s t)) ∧
  (∀ (e : Fin 49) (rd rs : Fin 32) (i : BitVec 16) (j : BitVec 21) (k : Byte) (s : State) (a : Nat), Issues s e → a = s.dev.greg e rs →
    (∃ t, exec (.addi e rd rs i) s = .next t ∧ ZResult e rd (wrap40 (S40 a + i.toInt)) false false s t) ∧
    (∃ t, exec (.andi e rd rs i) s = .next t ∧ ZResult e rd (a &&& i.toNat) false false s t) ∧
    (∃ t, exec (.ori e rd rs i) s = .next t ∧ ZResult e rd (a ||| i.toNat) false false s t) ∧
    (∃ t, exec (.xori e rd rs i) s = .next t ∧ ZResult e rd (a ^^^ i.toNat) false false s t) ∧
    (∃ t, exec (.movh e rd j) s = .next t ∧ ZResult e rd (wrap40 (j.toInt * 2 ^ 16)) false false s t) ∧
    (∃ t, exec (.topi e rd rs k) s = .next t ∧ ZResult e rd (k.toNat * 2 ^ 32 + a % 2 ^ 32) false false s t) ∧
    (∃ t, exec (.clti e rd rs i) s = .next t ∧ ZResult e rd (if S40 a < i.toInt then 1 else 0) false false s t) ∧
    (∃ t, exec (.cltiu e rd rs i) s = .next t ∧ ZResult e rd (if a < wrap40 i.toInt then 1 else 0) false false s t) ∧
    (∃ t, exec (.ceqi e rd rs i) s = .next t ∧ ZResult e rd (if a = wrap40 i.toInt then 1 else 0) false false s t) ∧
    (-549755813888 ≤ S40 a + i.toInt → S40 a + i.toInt ≤ 549755813887 →
      ∃ t, exec (.addis e rd rs i) s = .next t ∧ ZResult e rd (wrap40 (S40 a + i.toInt)) false false s t) ∧
    (S40 a + i.toInt < -549755813888 → ∃ t, exec (.addis e rd rs i) s = .next t ∧ ZResult e rd (2 ^ 39) true false s t) ∧
    (549755813887 < S40 a + i.toInt → ∃ t, exec (.addis e rd rs i) s = .next t ∧ ZResult e rd (2 ^ 39 - 1) true false s t))

/-- Outside a delay slot a branch or jump opens one at A + 4 and keeps its target for after it; JAL and JALR write A + 8. In the slot the next
instruction takes the program counter to the target (ZResult). A branch in a delay slot halts with DELAY_SLOT, a fetch from a bad address with ACCESS
and that address, a word that is no instruction with ILLEGAL, a fetch with an uncorrectable error with ECC, each without an effect. A core that does not
run takes no instruction. SYNC retires when every store that a lockstep pair still holds has been performed, with no other effect; the stores of an engine
outside a pair are performed at once (log entry 13). -/
def Obligations.ZhofaBranches : Prop :=
  (∀ (e : Fin 49) (rs : Fin 32) (off : BitVec 21) (dest : Nat) (s : State), Issues s e → (s.dev.engine e).slot = none →
    dest = (((s.dev.pc e : Int) + off.toInt * 4) % 2 ^ 32).toNat →
    (∃ t, exec (.bez e rs off) s = .next t ∧ t.dev.pc e = s.dev.pc e + 4 ∧ (t.dev.engine e).slot = some (if s.dev.greg e rs = 0 then dest else s.dev.pc e + 8) ∧ t.mem = s.mem ∧ (∀ r, t.dev.greg e r = s.dev.greg e r) ∧
      ∀ g : Fld, (∀ k, k = e.val ∨ s.dev.partner e = some k → ∀ f ∈ [R.ENG_PC k, R.ENG_STATUS_STATE k, R.ENG_STATUS_OV k, R.ENG_STATUS_DZ k],
        g.key ≠ f.key) → block g ≠ 3 → t.dev.get g = s.dev.get g) ∧
    (∃ t, exec (.bnz e rs off) s = .next t ∧ t.dev.pc e = s.dev.pc e + 4 ∧ (t.dev.engine e).slot = some (if s.dev.greg e rs = 0 then s.dev.pc e + 8 else dest) ∧ t.mem = s.mem ∧ (∀ r, t.dev.greg e r = s.dev.greg e r) ∧
      ∀ g : Fld, (∀ k, k = e.val ∨ s.dev.partner e = some k → ∀ f ∈ [R.ENG_PC k, R.ENG_STATUS_STATE k, R.ENG_STATUS_OV k, R.ENG_STATUS_DZ k],
        g.key ≠ f.key) → block g ≠ 3 → t.dev.get g = s.dev.get g) ∧
    (∃ t, exec (.jr e rs) s = .next t ∧ t.dev.pc e = s.dev.pc e + 4 ∧ (t.dev.engine e).slot = some (s.dev.greg e rs % 2 ^ 32) ∧ t.mem = s.mem ∧ (∀ r, t.dev.greg e r = s.dev.greg e r) ∧
      ∀ g : Fld, (∀ k, k = e.val ∨ s.dev.partner e = some k → ∀ f ∈ [R.ENG_PC k, R.ENG_STATUS_STATE k, R.ENG_STATUS_OV k, R.ENG_STATUS_DZ k],
        g.key ≠ f.key) → block g ≠ 3 → t.dev.get g = s.dev.get g)) ∧
  (∀ (e : Fin 49) (rd rs : Fin 32) (off : BitVec 21) (dest : Nat) (s : State), Issues s e → (s.dev.engine e).slot = none →
    dest = (((s.dev.pc e : Int) + off.toInt * 4) % 2 ^ 32).toNat →
    (∃ t, exec (.jal e rd off) s = .next t ∧ t.dev.pc e = s.dev.pc e + 4 ∧ (t.dev.engine e).slot = some (dest) ∧ t.mem = s.mem ∧
      t.dev.greg e rd = (if rd = 0 then 0 else s.dev.pc e + 8) ∧ ∀ r, r ≠ rd.val → t.dev.greg e r = s.dev.greg e r) ∧
    (∃ t, exec (.jalr e rd rs) s = .next t ∧ t.dev.pc e = s.dev.pc e + 4 ∧ (t.dev.engine e).slot = some (s.dev.greg e rs % 2 ^ 32) ∧ t.mem = s.mem ∧
      t.dev.greg e rd = (if rd = 0 then 0 else s.dev.pc e + 8) ∧ ∀ r, r ≠ rd.val → t.dev.greg e r = s.dev.greg e r)) ∧
  (∀ (e : Fin 48) (rd rs : Fin 32) (off : BitVec 21) (w : W32) (s : State), s.dev.zReady e = true → s.dev.badFetch e = false →
    (s.dev.engine e).slot.isSome = true →
    (∀ x ∈ [Instr.bez ⟨e, by omega⟩ rs off, .bnz ⟨e, by omega⟩ rs off, .jr ⟨e, by omega⟩ rs, .jal ⟨e, by omega⟩ rd off,
        .jalr ⟨e, by omega⟩ rd rs],
      ∃ t, exec x s = .next t ∧ t.dev.get (R.ENG_STATUS_STATE e) = 6 ∧ t.dev.get (R.ENG_STATUS_HALT_CAUSE e) = 3 ∧ t.mem = s.mem ∧
        t.dev.pc e = s.dev.pc e ∧ t.dev.get (R.ENG_STATUS_HALTED e) = 1 ∧ ∀ r, t.dev.greg e r = s.dev.greg e r) ∧
    (zIsBranch w.toNat = true → ∃ t, exec (.undefinedOpcode ⟨e, by omega⟩ w false) s = .next t ∧ t.dev.get (R.ENG_STATUS_HALT_CAUSE e) = 3)) ∧
  (∀ (e : Fin 48) (w : W32) (s : State), s.dev.zReady e = true → s.dev.badFetch e = false →
    ((s.dev.engine e).slot.isSome && zIsBranch w.toNat) = false → zAssigned e w.toNat = false →
    ∃ t, exec (.undefinedOpcode ⟨e, by omega⟩ w false) s = .next t ∧ t.dev.get (R.ENG_STATUS_STATE e) = 6 ∧
      t.dev.get (R.ENG_STATUS_HALT_CAUSE e) = 2 ∧ t.mem = s.mem ∧ t.dev.pc e = s.dev.pc e ∧ ∀ r, t.dev.greg e r = s.dev.greg e r) ∧
  (∀ (e : Fin 48) (w : W32) (s : State), s.dev.zReady e = true → s.dev.badFetch e = false →
    ∃ t, exec (.undefinedOpcode ⟨e, by omega⟩ w true) s = .next t ∧ t.dev.get (R.ENG_STATUS_STATE e) = 6 ∧
      t.dev.get (R.ENG_STATUS_HALT_CAUSE e) = 5 ∧ t.dev.get (R.ENG_FAULT_ADDR e) = s.dev.pc e) ∧
  (∀ (d : Dev) (e : Fin 48) (branch : Bool) (r : ZRes), d.zReady e = true → d.badFetch e = true →
    (d.issue e branch r).get (R.ENG_STATUS_STATE e) = 6 ∧ (d.issue e branch r).get (R.ENG_STATUS_HALT_CAUSE e) = 4 ∧
    (d.issue e branch r).get (R.ENG_FAULT_ADDR e) = d.pc e ∧ (d.issue e branch r).pc e = d.pc e) ∧
  (∀ (d : Dev) (e : Nat) (branch : Bool) (r : ZRes), d.zReady e = false → d.issue e branch r = d) ∧
  (∀ (d : Dev) (e p : Nat) (a : Option Nat) (cause : Nat), e < 48 → d.partner e = some p → cause < 16 →
    (d.zhalt e cause a).get (R.ENG_STATUS_STATE p) = 6 ∧ (d.zhalt e cause a).get (R.ENG_STATUS_HALT_CAUSE p) = 6 ∧
    (d.zhalt e cause a).get (R.ENG_STATUS_HALT_CAUSE e) = cause) ∧
  (∀ (e : Fin 49) (s : State), exec (.sync e) s = .next ((s.performed e).on (fun d => d.issue e false (.next d)))) ∧
  (∀ (e : Fin 49) (s : State), Issues s e → (s.dev.engine e).held = [] → ∃ t, exec (.sync e) s = .next t ∧ ZResult e 0 0 false false s t) ∧
  (∀ (e : Fin 49) (s : State) (h : HeldStore), Issues s e → (s.dev.engine e).held = [h] → h.bad = false → zArea h.addr = .scratch (h.addr - 0x10000000) →
    ∃ t, exec (.sync e) s = .next t ∧ t.mem = Mem.setBytes s.mem (engBase e + 0x10000 + (h.addr - 0x10000000)) h.bytes ∧
      (t.dev.engine e).held = [] ∧ t.dev.pc e = (s.dev.engine e).slot.getD (s.dev.pc e + 4) % 2 ^ 32)

/-- The address of an access is bits 31:0 of the 40-bit sum of base and signed offset. An access that is misaligned or that the map forbids halts an
engine with ACCESS and that address, and has no other effect. A load of an Orchard word with an uncorrectable error halts an engine with ECC, its
address and the bank's UE. A load from the scratchpad, or from a bank of Orchard that grants the read with no new
error, writes the little-endian value, extended by its form, to rd; one from any other place writes the value the place gives. An engine outside a
lockstep pair puts the low bytes of rt at the address and nowhere else; SD writes copies of bit 39 above it. A pair holds a store to memory with its
address, size and data, and its own loads see it. After 3 cycles it is performed if the follower's retirement compares equal; else it and the stores after it
are discarded, both engines halt with LOCKSTEP at the address of its instruction, and the team's status records the pair. -/
def Obligations.ZhofaLoadsAndStores : Prop :=
  (∀ (d : Dev) (e rs : Nat) (imm : BitVec 16), (d.ea e rs imm : Int) = ((d.greg e rs : Int) + imm.toInt) % 2 ^ 32) ∧
  (∀ (e : Fin 49) (rd rs : Fin 32) (imm : BitVec 16) (o v : Nat) (s : State), Issues s e → s.dev.ea e rs imm = 0x10000000 + o → o < 0x8000 →
    (v = leNat (Mem.bytes (s.heldMem e) (engBase e + 0x10000 + o) 1) → ∃ t, exec (.lb e rd rs imm) s = .next t ∧ ZResult e rd (wrap40 (BitVec.ofNat 8 v).toInt) false false s t) ∧
    (v = leNat (Mem.bytes (s.heldMem e) (engBase e + 0x10000 + o) 1) → ∃ t, exec (.lbu e rd rs imm) s = .next t ∧ ZResult e rd v false false s t) ∧
    (o % 2 = 0 → v = leNat (Mem.bytes (s.heldMem e) (engBase e + 0x10000 + o) 2) → ∃ t, exec (.lh e rd rs imm) s = .next t ∧ ZResult e rd (wrap40 (BitVec.ofNat 16 v).toInt) false false s t) ∧
    (o % 2 = 0 → v = leNat (Mem.bytes (s.heldMem e) (engBase e + 0x10000 + o) 2) → ∃ t, exec (.lhu e rd rs imm) s = .next t ∧ ZResult e rd v false false s t) ∧
    (o % 4 = 0 → v = leNat (Mem.bytes (s.heldMem e) (engBase e + 0x10000 + o) 4) → ∃ t, exec (.lw e rd rs imm) s = .next t ∧ ZResult e rd (wrap40 (BitVec.ofNat 32 v).toInt) false false s t) ∧
    (o % 4 = 0 → v = leNat (Mem.bytes (s.heldMem e) (engBase e + 0x10000 + o) 4) → ∃ t, exec (.lwu e rd rs imm) s = .next t ∧ ZResult e rd v false false s t) ∧
    (o % 8 = 0 → v = leNat (Mem.bytes (s.heldMem e) (engBase e + 0x10000 + o) 8) → ∃ t, exec (.ld e rd rs imm) s = .next t ∧ ZResult e rd (v % 2 ^ 40) false false s t)) ∧
  (∀ (e : Fin 49) (rd rs : Fin 32) (imm : BitVec 16) (o v : Nat) (s : State), Issues s e → s.dev.ea e rs imm = 0x20000000 + o → o < 0x2000000 →
    s.dev.bankRefuses (o / 0x80000) (zReq e) = 0 → s.dev.eccAt (o / 8 * 8) = none →
    (v = leNat (Mem.bytes (s.heldMem e) o 1) → ∃ t, exec (.lb e rd rs imm) s = .next t ∧ ZResult e rd (wrap40 (BitVec.ofNat 8 v).toInt) false false s t) ∧
    (v = leNat (Mem.bytes (s.heldMem e) o 1) → ∃ t, exec (.lbu e rd rs imm) s = .next t ∧ ZResult e rd v false false s t) ∧
    (o % 2 = 0 → v = leNat (Mem.bytes (s.heldMem e) o 2) → ∃ t, exec (.lh e rd rs imm) s = .next t ∧ ZResult e rd (wrap40 (BitVec.ofNat 16 v).toInt) false false s t) ∧
    (o % 2 = 0 → v = leNat (Mem.bytes (s.heldMem e) o 2) → ∃ t, exec (.lhu e rd rs imm) s = .next t ∧ ZResult e rd v false false s t) ∧
    (o % 4 = 0 → v = leNat (Mem.bytes (s.heldMem e) o 4) → ∃ t, exec (.lw e rd rs imm) s = .next t ∧ ZResult e rd (wrap40 (BitVec.ofNat 32 v).toInt) false false s t) ∧
    (o % 4 = 0 → v = leNat (Mem.bytes (s.heldMem e) o 4) → ∃ t, exec (.lwu e rd rs imm) s = .next t ∧ ZResult e rd v false false s t) ∧
    (o % 8 = 0 → v = leNat (Mem.bytes (s.heldMem e) o 8) → ∃ t, exec (.ld e rd rs imm) s = .next t ∧ ZResult e rd (v % 2 ^ 40) false false s t)) ∧
  (∀ (e : Nat) (s : State), (s.dev.engine e).held = [] → s.heldMem e = s.mem) ∧
  (∀ (e o : Nat) (h : HeldStore) (s : State), (s.dev.engine e).held = [h] → h.addr = 0x10000000 + o → o < 0x8000 →
    s.heldMem e = Mem.setBytes s.mem (engBase e + 0x10000 + o) h.bytes) ∧
  (∀ (e : Fin 49) (rd rs : Fin 32) (imm : BitVec 16) (s : State), Issues s e → (s.dev.engine e).held = [] → s.dev.ea e rs imm ≠ 0x4001000C →
    (s.dev.zFault e (s.dev.ea e rs imm) 4 true = none →
      ∃ t, exec (.lwu e rd rs imm) s = .next t ∧ t.dev.greg e rd = (if rd = 0 then 0 else (s.zLoad e (s.dev.ea e rs imm) 4).1 % 2 ^ 40) ∧
        t.mem = (s.zLoad e (s.dev.ea e rs imm) 4).2.mem) ∧
    (s.dev.zForbids e (s.dev.ea e rs imm) 4 = false → zArea (s.dev.ea e rs imm) = .engReg 0 →
      ∃ t, exec (.lw e rd rs imm) s = .next t ∧ ZResult e rd (e.val / 4 * 4096 + e.val % 4 * 256 + e.val) false false s t)) ∧
  (∀ (e : Fin 48) (e' : Fin 49) (rd rs : Fin 32) (imm : BitVec 16) (bad : Bool) (s : State), e'.val = e.val → Issues s e → (s.dev.engine e).held = [] →
    ∀ x ∈ [(Instr.lb e' rd rs imm, 1), (.lbu e' rd rs imm, 1), (.lh e' rd rs imm, 2), (.lhu e' rd rs imm, 2), (.lw e' rd rs imm, 4),
        (.lwu e' rd rs imm, 4), (.ld e' rd rs imm, 8), (.sb e' rd rs imm bad, 1), (.sh e' rd rs imm bad, 2), (.sw e' rd rs imm bad, 4),
        (.sd e' rd rs imm bad, 8)],
      s.dev.zForbids e (s.dev.ea e rs imm) x.2 = true →
      ∃ t, exec x.1 s = .next t ∧ t.dev.get (R.ENG_STATUS_STATE e) = 6 ∧ t.dev.get (R.ENG_STATUS_HALT_CAUSE e) = 4 ∧
        t.dev.get (R.ENG_FAULT_ADDR e) = s.dev.ea e rs imm ∧ t.dev.pc e = s.dev.pc e ∧ t.mem = s.mem ∧
        ∀ r, t.dev.greg e r = s.dev.greg e r) ∧
  (∀ (e : Fin 48) (e' : Fin 49) (rd rs : Fin 32) (imm : BitVec 16) (o : Nat) (s : State), e'.val = e.val → Issues s e →
    s.dev.ea e rs imm = 0x20000000 + o → o < 0x2000000 → s.dev.bankRefuses (o / 0x80000) (zReq e) = 0 → s.dev.eccAt (o / 8 * 8) = some .ue →
    ∀ x ∈ [(Instr.lb e' rd rs imm, 1), (.lbu e' rd rs imm, 1), (.lh e' rd rs imm, 2), (.lhu e' rd rs imm, 2), (.lw e' rd rs imm, 4),
        (.lwu e' rd rs imm, 4), (.ld e' rd rs imm, 8)],
      o % x.2 = 0 →
      ∃ t, exec x.1 s = .next t ∧ t.dev.get (R.ENG_STATUS_STATE e) = 6 ∧ t.dev.get (R.ENG_STATUS_HALT_CAUSE e) = 5 ∧
        t.dev.get (R.ENG_FAULT_ADDR e) = s.dev.ea e rs imm ∧ t.dev.pc e = s.dev.pc e ∧ t.dev.get (R.BANK_STATUS_UE (o / 0x80000)) = 1 ∧
        t.dev.get R.SYS_DIAG_ECC_UNCORR = 1 ∧ t.mem = s.mem ∧ ∀ r, t.dev.greg e r = s.dev.greg e r) ∧
  (∀ (d : Dev) (e a n : Nat), (n = 1 ∨ n = 2 ∨ n = 4 ∨ n = 8) → (a % n ≠ 0 ∨ a < 0x10000000 ∨ 0x60000100 ≤ a) → d.zForbids e a n = true) ∧
  (∀ (e : Fin 49) (rt rs : Fin 32) (imm : BitVec 16) (bad : Bool) (o v : Nat) (s : State), Issues s e → s.dev.partner e = none →
    (s.dev.engine e).held = [] → s.dev.ea e rs imm = 0x10000000 + o → o < 0x8000 → v = s.dev.greg e rt →
    (∃ t, exec (.sb e rt rs imm bad) s = .next t ∧ ZResult e 0 0 false false s { t with mem := s.mem } ∧
      (∀ i < 1, (Mem.byte t.mem (engBase e + 0x10000 + o + i)).toNat = v / 256 ^ i % 256) ∧
      ∀ y, (y < engBase e + 0x10000 + o ∨ engBase e + 0x10000 + o + 1 ≤ y) → Mem.byte t.mem y = Mem.byte s.mem y) ∧
    (o % 2 = 0 → ∃ t, exec (.sh e rt rs imm bad) s = .next t ∧ ZResult e 0 0 false false s { t with mem := s.mem } ∧
      (∀ i < 2, (Mem.byte t.mem (engBase e + 0x10000 + o + i)).toNat = v / 256 ^ i % 256) ∧
      ∀ y, (y < engBase e + 0x10000 + o ∨ engBase e + 0x10000 + o + 2 ≤ y) → Mem.byte t.mem y = Mem.byte s.mem y) ∧
    (o % 4 = 0 → ∃ t, exec (.sw e rt rs imm bad) s = .next t ∧ ZResult e 0 0 false false s { t with mem := s.mem } ∧
      (∀ i < 4, (Mem.byte t.mem (engBase e + 0x10000 + o + i)).toNat = v / 256 ^ i % 256) ∧
      ∀ y, (y < engBase e + 0x10000 + o ∨ engBase e + 0x10000 + o + 4 ≤ y) → Mem.byte t.mem y = Mem.byte s.mem y) ∧
    (o % 8 = 0 → ∃ t, exec (.sd e rt rs imm bad) s = .next t ∧ ZResult e 0 0 false false s { t with mem := s.mem } ∧
      (∀ i < 8, (Mem.byte t.mem (engBase e + 0x10000 + o + i)).toNat = (if v < 2 ^ 39 then v else v + (2 ^ 64 - 2 ^ 40)) / 256 ^ i % 256) ∧
      ∀ y, (y < engBase e + 0x10000 + o ∨ engBase e + 0x10000 + o + 8 ≤ y) → Mem.byte t.mem y = Mem.byte s.mem y)) ∧
  (∀ (e : Fin 49) (rt rs : Fin 32) (imm : BitVec 16) (bad : Bool) (a v : Nat) (s : State), Issues s e → (s.dev.engine e).held = [] →
    a = s.dev.ea e rs imm → v = s.dev.greg e rt → s.dev.partner e = none ∨ lsHolds a = false ∧ bad = false →
    (s.dev.zFault e a 1 false = none → ∃ t, exec (.sb e rt rs imm bad) s = .next t ∧ t.mem = (s.zStore e a (leBytes 1 v)).mem ∧ t.pending = s.pending) ∧
    (s.dev.zFault e a 2 false = none → ∃ t, exec (.sh e rt rs imm bad) s = .next t ∧ t.mem = (s.zStore e a (leBytes 2 v)).mem ∧ t.pending = s.pending) ∧
    (s.dev.zFault e a 4 false = none → ∃ t, exec (.sw e rt rs imm bad) s = .next t ∧ t.mem = (s.zStore e a (leBytes 4 v)).mem ∧ t.pending = s.pending) ∧
    (s.dev.zFault e a 8 false = none → ∃ t, exec (.sd e rt rs imm bad) s = .next t ∧ t.mem = (s.zStore e a (leBytes 8 (if v < 2 ^ 39 then v else v + (2 ^ 64 - 2 ^ 40)))).mem ∧ t.pending = s.pending)) ∧
  (∀ (e : Fin 48) (e' : Fin 49) (rt rs : Fin 32) (imm : BitVec 16) (bad : Bool) (a v : Nat) (s : State), e'.val = e.val →
    Issues s e → s.dev.partner e ≠ none → a = s.dev.ea e rs imm → v = s.dev.greg e rt → lsHolds a = true → (s.dev.engine e).held.length < 4 →
    (s.dev.zFault e a 1 false = none → ∃ t, exec (.sb e' rt rs imm bad) s = .next t ∧ ZResult e 0 0 false false s t ∧
      (t.dev.engine e).held = (s.dev.engine e).held ++ [{ due := s.dev.now + 3, pc := s.dev.pc e, addr := a, bytes := leBytes 1 v, bad := bad }]) ∧
    (s.dev.zFault e a 2 false = none → ∃ t, exec (.sh e' rt rs imm bad) s = .next t ∧ ZResult e 0 0 false false s t ∧
      (t.dev.engine e).held = (s.dev.engine e).held ++ [{ due := s.dev.now + 3, pc := s.dev.pc e, addr := a, bytes := leBytes 2 v, bad := bad }]) ∧
    (s.dev.zFault e a 4 false = none → ∃ t, exec (.sw e' rt rs imm bad) s = .next t ∧ ZResult e 0 0 false false s t ∧
      (t.dev.engine e).held = (s.dev.engine e).held ++ [{ due := s.dev.now + 3, pc := s.dev.pc e, addr := a, bytes := leBytes 4 v, bad := bad }]) ∧
    (s.dev.zFault e a 8 false = none → ∃ t, exec (.sd e' rt rs imm bad) s = .next t ∧ ZResult e 0 0 false false s t ∧
      (t.dev.engine e).held = (s.dev.engine e).held ++ [{ due := s.dev.now + 3, pc := s.dev.pc e, addr := a, bytes := leBytes 8 (if v < 2 ^ 39 then v else v + (2 ^ 64 - 2 ^ 40)), bad := bad }])) ∧
  (∀ (e : Fin 48) (e' : Fin 49) (rt rs : Fin 32) (imm : BitVec 16) (s : State), e'.val = e.val → Issues s e → s.dev.partner e ≠ none →
    (s.dev.engine e).held = [] → lsHolds (s.dev.ea e rs imm) = false → s.dev.zFault e (s.dev.ea e rs imm) 4 false = none →
    ∃ t, exec (.sw e' rt rs imm true) s = .next t ∧ t.dev.get (R.ENG_STATUS_STATE e) = 6 ∧ t.dev.get (R.ENG_STATUS_HALT_CAUSE e) = 6 ∧
      t.dev.pc e = s.dev.pc e ∧ t.mem = s.mem) ∧
  (∀ (i o t : Nat) (h : HeldStore) (s : State), i < 24 → (s.dev.engine (2 * i)).held = [h] → (∀ k < 24, k ≠ i → (s.dev.engine (2 * k)).held = []) →
    (t < h.due → s.lsUntil t = s) ∧
    (h.due ≤ t → h.bad = false → h.addr = 0x10000000 + o → o < 0x8000 →
      (s.lsUntil t).mem = Mem.setBytes s.mem (engBase (2 * i) + 0x10000 + o) h.bytes ∧ ((s.lsUntil t).dev.engine (2 * i)).held = []) ∧
    (h.due ≤ t → h.bad = true → s.lsUntil t = s.on (fun d => d.lsMismatch (2 * i) h.pc))) ∧
  (∀ (d : Dev) (i pc : Nat) (f : Fld), i < 24 → f = (if i % 2 = 0 then R.TEAM_LS_STATUS_MIS01 (i / 2) else R.TEAM_LS_STATUS_MIS23 (i / 2)) →
    (∀ k, k = 2 * i ∨ k = 2 * i + 1 → (d.lsMismatch (2 * i) pc).get (R.ENG_STATUS_STATE k) = 6 ∧
      (d.lsMismatch (2 * i) pc).get (R.ENG_STATUS_HALT_CAUSE k) = 6 ∧ (d.lsMismatch (2 * i) pc).pc k = pc % 2 ^ 32) ∧
    ((d.lsMismatch (2 * i) pc).engine (2 * i)).held = [] ∧ (d.lsMismatch (2 * i) pc).get f = 1)

/-- CRCB, CRCH, CRCW and CRCN run the data bits of rs through the polynomial in its bit order, CRCM the bytes in memory; a count of 0 leaves rd. One
bit changes the running register as R451 says. EXTU, EXTS and INS act on the field of rt clipped to 40 bits; the counts, the byte swaps and the bit
reversal give the values of R453. SOPEN sets the stream position and SPOS reads it; SGET and SPUT move n bits of it and advance it, and read back what
was put; memory that is neither scratchpad nor Orchard raises ACCESS. -/
def Obligations.ZhofaBitsAndStreams : Prop :=
  (∀ (w p c n : Nat) (v : Nat), crcData (w, p, true) c v 0 = c ∧ crcData (w, p, false) c v 0 = c ∧
    crcData (w, p, true) c v (n + 1) = (if (crcData (w, p, true) c v n % 2 + v / 2 ^ n) % 2 = 1
      then crcData (w, p, true) c v n / 2 ^^^ p else crcData (w, p, true) c v n / 2) ∧
    crcData (w, p, false) c v (n + 1) = crcData (w, p, false) (if (c / 2 ^ (w - 1) + v / 2 ^ n) % 2 = 1
      then c * 2 % 2 ^ w ^^^ p else c * 2 % 2 ^ w) v n) ∧
  (∀ (e : Fin 49) (p : Fin 8) (rd rs rt : Fin 32) (a b c : Nat) (q : Nat × Nat × Bool) (s : State), Issues s e → a = s.dev.greg e rs →
    b = s.dev.greg e rt → q = crcPoly p → c = s.dev.greg e rd % 2 ^ q.1 →
    (∃ t, exec (.crcb e p rd rs) s = .next t ∧ ZResult e rd (crcData q c a 8) false false s t) ∧
    (∃ t, exec (.crch e p rd rs) s = .next t ∧ ZResult e rd (crcData q c a 16) false false s t) ∧
    (∃ t, exec (.crcw e p rd rs) s = .next t ∧ ZResult e rd (crcData q c a 32) false false s t) ∧
    (b ≠ 0 → ∃ t, exec (.crcn e p rd rs rt) s = .next t ∧ ZResult e rd (crcData q c a (min b 40)) false false s t) ∧
    (b = 0 → ∃ t, exec (.crcn e p rd rs rt) s = .next t ∧ ZResult e rd (s.dev.greg e rd) false false s t) ∧
    ((s.dev.engine e).held = [] → p.val < 5 → b = 0 → ∃ t, exec (.crcm e p rd rs rt) s = .next t ∧ ZResult e rd (s.dev.greg e rd) false false s t) ∧
    ((s.dev.engine e).held = [] → p.val < 5 → 0 < b → 0x10000000 ≤ a % 2 ^ 32 → a % 2 ^ 32 + b ≤ 0x10008000 →
      ∃ t, exec (.crcm e p rd rs rt) s = .next t ∧ ZResult e rd ((Mem.bytes s.mem (engBase e + a % 2 ^ 32 - 0xFFF0000) b).foldl
        (fun x y => crcData q x y.toNat 8) c) false false s t) ∧
    ((s.dev.engine e).held = [] → e.val < 48 → p.val < 5 → 65536 < b → ∃ t, exec (.crcm e p rd rs rt) s = .next t ∧ t.dev.get (R.ENG_STATUS_HALT_CAUSE e) = 4 ∧
      t.dev.get (R.ENG_FAULT_ADDR e) = a % 2 ^ 32)) ∧
  (∀ (e : Fin 49) (rd rs rt : Fin 32) (a b c pos len : Nat) (s : State), Issues s e → a = s.dev.greg e rs → b = s.dev.greg e rt →
    c = s.dev.greg e rd → pos = b % 64 → len = b / 256 % 64 →
    (len ≠ 0 → pos < 40 →
      (∃ t, exec (.extu e rd rs rt) s = .next t ∧ ZResult e rd (a / 2 ^ pos % 2 ^ min len (40 - pos)) false false s t) ∧
      (∃ t v, exec (.exts e rd rs rt) s = .next t ∧ ZResult e rd v false false s t ∧ v < 2 ^ 40 ∧
        S40 v = (BitVec.ofNat (min len (40 - pos)) (a / 2 ^ pos)).toInt) ∧
      (∃ t v, exec (.ins e rd rs rt) s = .next t ∧ ZResult e rd v false false s t ∧ v < 2 ^ 40 ∧
        ∀ i < 40, v.testBit i = if pos ≤ i ∧ i < pos + len then a.testBit (i - pos) else c.testBit i)) ∧
    (len = 0 ∨ 40 ≤ pos → (∃ t, exec (.extu e rd rs rt) s = .next t ∧ ZResult e rd 0 false false s t) ∧
      (∃ t, exec (.exts e rd rs rt) s = .next t ∧ ZResult e rd 0 false false s t) ∧
      (∃ t, exec (.ins e rd rs rt) s = .next t ∧ ZResult e rd c false false s t))) ∧
  (∀ (e : Fin 49) (rd rs : Fin 32) (a : Nat) (s : State), Issues s e → a = s.dev.greg e rs →
    (∃ t n, exec (.clz e rd rs) s = .next t ∧ ZResult e rd n false false s t ∧ n ≤ 40 ∧ a < 2 ^ (40 - n) ∧ (n < 40 → 2 ^ (39 - n) ≤ a)) ∧
    (∃ t n, exec (.ctz e rd rs) s = .next t ∧ ZResult e rd n false false s t ∧ n ≤ 40 ∧ a % 2 ^ n = 0 ∧ (n < 40 → a.testBit n = true)) ∧
    (∃ t, exec (.popc e rd rs) s = .next t ∧ ZResult e rd (((List.range 40).filter a.testBit).length) false false s t) ∧
    (∃ t, exec (.bswap16 e rd rs) s = .next t ∧ ZResult e rd (a % 256 * 256 + a / 256 % 256) false false s t) ∧
    (∃ t, exec (.bswap32 e rd rs) s = .next t ∧ ZResult e rd (a % 256 * 2 ^ 24 + a / 2 ^ 8 % 256 * 2 ^ 16 + a / 2 ^ 16 % 256 * 2 ^ 8 + a / 2 ^ 24 % 256) false false s t) ∧
    (∃ t v, exec (.brev8 e rd rs) s = .next t ∧ ZResult e rd v false false s t ∧ v < 2 ^ 32 ∧
      ∀ i < 4, ∀ j < 8, v.testBit (8 * i + j) = a.testBit (8 * i + 7 - j))) ∧
  (∀ (e : Fin 49) (rd rs rt : Fin 32) (s : State), Issues s e →
    (∃ t, exec (.sopen e rs rt) s = .next t ∧ (t.dev.engine e).stream.addr = s.dev.greg e rs % 2 ^ 32 ∧ t.mem = s.mem ∧
      (t.dev.engine e).stream.off = s.dev.greg e rt % 8 ∧ (t.dev.engine e).stream.order = s.dev.greg e rt / 8 % 2) ∧
    (∃ t, exec (.spos e rd) s = .next t ∧ ZResult e rd (((s.dev.engine e).stream.addr * 8 + (s.dev.engine e).stream.off) % 2 ^ 40) false false s t) ∧
    ((s.dev.engine e).held = [] → s.dev.greg e rt = 0 → (∃ t, exec (.sget e rd rt) s = .next t ∧ t.dev.greg e rd = 0 ∧ t.mem = s.mem) ∧
      ∃ t, exec (.sgets e rd rt) s = .next t ∧ t.dev.greg e rd = 0 ∧ t.mem = s.mem)) ∧
  (∀ (e : Fin 49) (rd rs rt : Fin 32) (a off n : Nat) (bs : List Byte) (s : State), Issues s e → (s.dev.engine e).held = [] → a = (s.dev.engine e).stream.addr →
    off = (s.dev.engine e).stream.off → off < 8 → n = min (s.dev.greg e rt) 40 → 0 < n → 0x10000000 ≤ a → a + (off + n + 7) / 8 ≤ 0x10008000 →
    bs = Mem.bytes s.mem (engBase e + a - 0xFFF0000) ((off + n + 7) / 8) →
    (∃ t, exec (.sget e rd rt) s = .next t ∧ t.mem = s.mem ∧
      t.dev.greg e rd = (if rd = 0 then 0 else streamGet bs off (s.dev.engine e).stream.order n) ∧
      (t.dev.engine e).stream.addr = a + (off + n) / 8 ∧ (t.dev.engine e).stream.off = (off + n) % 8) ∧
    (∃ t, exec (.sgets e rd rt) s = .next t ∧ t.mem = s.mem ∧
      t.dev.greg e rd = (if rd = 0 then 0 else wrap40 (BitVec.ofNat n (streamGet bs off (s.dev.engine e).stream.order n)).toInt)) ∧
    (s.dev.partner e = none → ∃ t, exec (.sput e rs rt) s = .next t ∧
      (t.dev.engine e).stream.addr = a + (off + n) / 8 ∧ (t.dev.engine e).stream.off = (off + n) % 8 ∧
      Mem.bytes t.mem (engBase e + a - 0xFFF0000) ((off + n + 7) / 8) = streamPut bs off (s.dev.engine e).stream.order n (s.dev.greg e rs) ∧
      ∀ y, (y < engBase e + a - 0xFFF0000 ∨ engBase e + a - 0xFFF0000 + (off + n + 7) / 8 ≤ y) → Mem.byte t.mem y = Mem.byte s.mem y) ∧
    (s.dev.partner e ≠ none → a % 8 + (off + n + 7) / 8 ≤ 8 → ∃ t, exec (.sput e rs rt) s = .next t ∧ t.mem = s.mem ∧ (t.dev.engine e).held =
      [{ due := s.dev.now + 3, pc := s.dev.pc e, addr := a, bytes := streamPut bs off (s.dev.engine e).stream.order n (s.dev.greg e rs) }])) ∧
  (∀ (bs : List Byte) (off order n v : Nat), order < 2 → off + n ≤ 8 * bs.length → v < 2 ^ n →
    streamGet (streamPut bs off order n v) off order n = v)

/-- A register holds a pattern of 40 bits and g0 reads as 0. S takes a pattern to a number from -2^39 to 2^39 - 1 and wrap gives the pattern back;
wrap of any number is the pattern that is congruent to it modulo 2^40.
TSNOW latches a time base's value with its fraction, step generation and format, TSEDGE the time of the last executed base edge, and both give
ns 39:0; TSHI and TSFRAC read the latch. TSWAIT retires when the instant has come, else the core waits, its state unchanged; TSWAIT_DONE retires the
wait. -/
def Obligations.ZhofaValuesTimeAndWaits : Prop :=
  (∀ (d : Dev) (e r : Nat), d.greg e r < 2 ^ 40 ∧ d.greg e 0 = 0) ∧
  (∀ v, v < 2 ^ 40 → -549755813888 ≤ S40 v ∧ S40 v ≤ 549755813887 ∧ wrap40 (S40 v) = v) ∧
  (∀ i : Int, wrap40 i < 2 ^ 40 ∧ (wrap40 i : Int) % 2 ^ 40 = i % 2 ^ 40 ∧ (-549755813888 ≤ i → i ≤ 549755813887 → S40 (wrap40 i) = i)) ∧
  (∀ (d : Dev) (e v : Nat), d.setGreg e 0 v = d) ∧
  (∀ (e : Fin 49) (rd : Fin 32) (n : Fin 8) (s : State), Issues s e →
    ∃ t, exec (.tsnow e rd n) s = .next t ∧ t.dev.greg e rd = (if rd = 0 then 0 else (s.dev.tb n).val / 2 ^ 32 % 2 ^ 40) ∧
      (t.dev.engine e).latch.ns = (s.dev.tb n).val / 2 ^ 32 % 2 ^ 64 ∧ (t.dev.engine e).latch.frac = (s.dev.tb n).val / 2 ^ 16 % 2 ^ 16 ∧
      (t.dev.engine e).latch.tb = n ∧ (t.dev.engine e).latch.gen = s.dev.get (R.TB_STATUS_STEP_GEN n) ∧ t.mem = s.mem ∧
      t.dev.pc e = (s.dev.engine e).slot.getD (s.dev.pc e + 4) % 2 ^ 32) ∧
  (∀ (e : Fin 49) (rd : Fin 32) (s : State), Issues s e →
    ∃ t, exec (.tsedge e rd) s = .next t ∧ t.dev.greg e rd = (if rd = 0 then 0 else s.dev.edgeNs s.dev.stride.last % 2 ^ 40) ∧
      (t.dev.engine e).latch.ns = s.dev.edgeNs s.dev.stride.last % 2 ^ 64 ∧ (t.dev.engine e).latch.frac = 0 ∧
      (t.dev.engine e).latch.tb = s.dev.strideTb ∧ t.mem = s.mem) ∧
  (∀ (e : Fin 49) (rd : Fin 32) (s : State), Issues s e →
    (∃ t, exec (.tshi e rd) s = .next t ∧ ZResult e rd ((s.dev.engine e).latch.ns / 2 ^ 40 % 2 ^ 40) false false s t) ∧
    (∃ t, exec (.tsfrac e rd) s = .next t ∧ ZResult e rd ((2 ^ 23 * (s.dev.engine e).latch.fmt + 2 ^ 20 * (s.dev.engine e).latch.tb +
      2 ^ 16 * (s.dev.engine e).latch.gen + (s.dev.engine e).latch.frac) % 2 ^ 40) false false s t)) ∧
  (∀ (e : Fin 49) (rs : Fin 32) (n : Fin 8) (s : State), Issues s e → 0 ≤ S40 (wrap40 ((s.dev.tbNs n : Int) - s.dev.greg e rs)) →
    ∃ t, exec (.tswait e rs n) s = .next t ∧ ZResult e 0 0 false false s t) ∧
  (∀ (e : Fin 49) (rs : Fin 32) (n : Fin 8) (s : State), Issues s e → S40 (wrap40 ((s.dev.tbNs n : Int) - s.dev.greg e rs)) < 0 →
    ∃ t, exec (.tswait e rs n) s = .next t ∧ (t.dev.engine e).wait = some (.time n (s.dev.greg e rs)) ∧ t.dev.pc e = s.dev.pc e ∧
      t.dev.engState e = s.dev.engState e ∧ t.mem = s.mem ∧ ∀ r, t.dev.greg e r = s.dev.greg e r) ∧
  (∀ (e : Fin 49) (n u : Nat) (s : State), (s.dev.engine e).wait = some (.time n u) → (s.dev.engine e).haltReq = false →
    ∃ t, exec (.tswaitDone e) s = .next t ∧ (t.dev.engine e).wait = none ∧ (s.dev.pc e < 2 ^ 31 → (s.dev.engine e).slot = none →
      t.dev.pc e = s.dev.pc e + 4) ∧ t.mem = s.mem ∧ ∀ r, t.dev.greg e r = s.dev.greg e r) ∧
  (∀ (e : Fin 49) (s : State), (∀ n u, (s.dev.engine e).wait ≠ some (.time n u)) → exec (.tswaitDone e) s = .next s)

/-- SGRUN starts a list on an idle mover, a COUNT of 0 meaning 256, and waits on a busy one; SGWAIT gives the status of an idle mover and waits on a
busy one; SGSTAT gives it at once. Each kind of descriptor is carried out by its own row and no other; COPY of ranges apart moves the bytes and completes
one descriptor, COMMIT commits each item, SEND puts its cells on their way. A list that is at its end, or stops at a bad descriptor, leaves the mover idle
with its error. The SHA instructions run on the Bridle alone, the mover's on the engines alone; others raise ILLEGAL. -/
def Obligations.ZhofaMover : Prop :=
  (∀ (e : Fin 49) (rs rt : Fin 32) (s : State), Issues s e → e.val < 48 → (s.dev.engine e).sg.busy = false →
    ∃ t, exec (.sgrun e rs rt) s = .next t ∧ t.mem = s.mem ∧ t.dev.pc e = (s.dev.engine e).slot.getD (s.dev.pc e + 4) % 2 ^ 32 ∧
      (t.dev.engine e).sg.busy = true ∧ (t.dev.engine e).sg.addr = s.dev.greg e rs % 2 ^ 32 ∧ (t.dev.engine e).sg.done = 0 ∧
      (t.dev.engine e).sg.err = 0 ∧ (t.dev.engine e).sg.count = (if s.dev.greg e rt % 256 = 0 then 256 else s.dev.greg e rt % 256)) ∧
  (∀ (e : Fin 49) (rs rt rd : Fin 32) (s : State), Issues s e → e.val < 48 → (s.dev.engine e).sg.busy = true →
    (∃ t, exec (.sgrun e rs rt) s = .next t ∧ t.dev.pc e = s.dev.pc e ∧ t.mem = s.mem ∧ (t.dev.engine e).sg = (s.dev.engine e).sg ∧
      (t.dev.engine e).wait = some (.sgRun (s.dev.greg e rs % 2 ^ 32) (s.dev.greg e rt % 256))) ∧
    (∃ t, exec (.sgwait e rd) s = .next t ∧ (t.dev.engine e).wait = some (.sgWait rd) ∧ t.dev.pc e = s.dev.pc e ∧ t.mem = s.mem ∧
      ∀ r, t.dev.greg e r = s.dev.greg e r)) ∧
  (∀ (e : Fin 49) (rd : Fin 32) (v : Nat) (s : State), Issues s e → e.val < 48 →
    v = ((if (s.dev.engine e).sg.busy then 2 ^ 31 else 0) + 2 ^ 28 * ((s.dev.engine e).sg.err % 8) + 2 ^ 16 * ((s.dev.engine e).sg.done % 512) +
      (s.dev.engine e).sg.at' % 256) →
    (∃ t, exec (.sgstat e rd) s = .next t ∧ ZResult e rd v false false s t) ∧
    ((s.dev.engine e).sg.busy = false → ∃ t, exec (.sgwait e rd) s = .next t ∧ ZResult e rd v false false s t)) ∧
  (∀ (e : Fin 48) (x : SgDesc) (s1 s : State), s.moverNext e 0 = some (x, s1) → 0x10000000 ≤ x.src → x.src + x.len ≤ 0x10008000 →
    0x10000000 ≤ x.dst → x.dst + x.len ≤ 0x10008000 → (x.src + x.len ≤ x.dst ∨ x.dst + x.len ≤ x.src) →
    ∃ t, exec (.moverCopy e) s = .next t ∧ (t.dev.engine e).sg = { (s1.dev.engine e).sg with done := (s1.dev.engine e).sg.done + 1 } ∧
      (∀ i < x.len, Mem.byte t.mem (engBase e + x.dst - 0xFFF0000 + i) = Mem.byte s1.mem (engBase e + x.src - 0xFFF0000 + i)) ∧
      ∀ y, (y < engBase e + x.dst - 0xFFF0000 ∨ engBase e + x.dst - 0xFFF0000 + x.len ≤ y) → Mem.byte t.mem y = Mem.byte s1.mem y) ∧
  (∀ (e : Fin 48) (k : Nat) (x : SgDesc) (s1 s : State), s.moverNext e k = some (x, s1) → (s.dev.engine e).held = [] →
    s1.mem = s.mem ∧ (s1.dev.engine e).sg = (s.dev.engine e).sg) ∧
  (∀ (e : Fin 48) (x : SgDesc) (s1 s : State), s.moverNext e 1 = some (x, s1) →
    ∃ t, exec (.moverConvert e) s = .next t ∧ (t.dev.engine e).sg = { (s1.dev.engine e).sg with done := (s1.dev.engine e).sg.done + 1 } ∧
      t.mem = ((List.range x.len).foldl (fun (a : State) i => a.moverConvertItem e x i) s1).mem) ∧
  (∀ (e : Fin 48) (x : SgDesc) (s1 s : State), s.moverNext e 2 = some (x, s1) →
    ∃ (t : State) (c : MapCells) (l : List MapCells), exec (.moverSend e) s = .next t ∧ t.mem = s1.mem ∧ t.dev.img.cells = l ++ [c] ∧
      c.mover = some e.val ∧ c.src = e.val / 4 ∧ c.region = x.dst % 256 ∧ c.item = x.dst / 256 % 4096 ∧ t.dev.moverSending e = true) ∧
  (∀ (e : Fin 48) (x : SgDesc) (s1 s : State), s.moverNext e 3 = some (x, s1) →
    exec (.moverCommit e) s = .next (s1.on (fun d => ((List.range x.len).foldl (fun (a : Dev) i =>
      a.engCommit e (x.dst % 256) (some (x.dst / 256 % 4096 + i)) x.age) d).moverDone e))) ∧
  (∀ (e : Fin 48) (s : State), (s.moverNext e 0 = none → exec (.moverCopy e) s = .next s) ∧ (s.moverNext e 1 = none → exec (.moverConvert e) s = .next s) ∧
    (s.moverNext e 2 = none → exec (.moverSend e) s = .next s) ∧ (s.moverNext e 3 = none → exec (.moverCommit e) s = .next s) ∧
    ((s.dev.engine e).sg.busy = false → exec (.moverListStop e) s = .next s ∧ ((s.dev.engine e).held = [] → ∀ k, s.moverNext e k = none))) ∧
  (∀ (e : Fin 48) (s : State), (s.dev.engine e).sg.busy = true → (s.dev.engine e).held = [] → s.dev.moverSending e = false → (s.dev.engine e).wait = none →
    ((s.dev.engine e).sg.count ≤ (s.dev.engine e).sg.done →
      ∃ t, exec (.moverListStop e) s = .next t ∧ t.mem = s.mem ∧ t.dev.regs = s.dev.regs ∧
        (t.dev.engine e).sg = { (s.dev.engine e).sg with busy := false }) ∧
    (∀ c a, (s.dev.engine e).sg.done < (s.dev.engine e).sg.count → s.moverStop e = some (c, a) →
      ∃ t, exec (.moverListStop e) s = .next t ∧ t.mem = s.mem ∧ (0x10000000 ≤ (s.dev.engine e).sg.here →
          (s.dev.engine e).sg.here < 0x10007FF1 → t.dev.regs = s.dev.regs) ∧ (t.dev.engine e).sg.busy = false ∧ (t.dev.engine e).sg.err = c ∧ (t.dev.engine e).sg.at' = (s.dev.engine e).sg.done ∧
        (∀ y, a = some y → (t.dev.engine e).sg.errAddr = y))) ∧
  (∀ (e : Fin 49) (rs rd : Fin 32) (i : Fin 8) (s : State), Issues s e → e.val = 48 →
    (∃ t, exec (.shainit e) s = .next t ∧ t.mem = s.mem ∧ (t.dev.engine e).sha = [0x6A09E667#32, 0xBB67AE85, 0x3C6EF372, 0xA54FF53A, 0x510E527F,
      0x9B05688C, 0x1F83D9AB, 0x5BE0CD19]) ∧
    (∀ a, a = s.dev.greg e rs % 2 ^ 32 → a % 8 = 0 → 0x10000000 ≤ a → a + 64 ≤ 0x10008000 →
      ∃ t, exec (.shablk e rs) s = .next t ∧ t.mem = s.mem ∧
        (t.dev.engine e).sha = shaCompress (shaWords (s.dev.engine e).sha) (beWords (Mem.bytes s.mem (engBase e + a - 0xFFF0000) 64))) ∧
    (∃ t, exec (.shard e rd i) s = .next t ∧ ZResult e rd ((s.dev.engine e).sha.getD i 0).toNat false false s t)) ∧
  (∀ (e : Fin 49) (rs rd : Fin 32) (i : Fin 8) (s : State), Issues s e → e.val < 48 → ∀ x ∈ [Instr.shainit e, .shablk e rs, .shard e rd i],
    ∃ t, exec x s = .next t ∧ t.dev.get (R.ENG_STATUS_STATE e) = 6 ∧ t.dev.get (R.ENG_STATUS_HALT_CAUSE e) = 2 ∧ t.mem = s.mem) ∧
  (∀ (e : Fin 49) (rs rt rd : Fin 32) (s : State), Issues s e → e.val = 48 → ∀ x ∈ [Instr.sgrun e rs rt, .sgwait e rd, .sgstat e rd],
    ∃ t, exec x s = .next t ∧ t.dev.get R.BRIDLE_STATUS_STATE = 2 ∧ t.mem = s.mem)

/-- One access of an Orchard address, with no new error. To a bank that is not ON, or that a checked port's agent does not own, it is refused: a
read returns zeros, a write stores nothing, FAULT of the bank is set and the quad's log holds a fault. A write that a region does not allow sets
WRITE_REJ and stores nothing. Else a write stores its bytes there and nowhere else, unless it covers part of a word with an uncorrectable error; a
read returns the bytes and stores nothing. Of two allowed writes of one word in a cycle only the higher port's is stored, and the other is flagged. A read in the
same cycle through B or D sees the written word, one through A or C the old word. Two accesses of one path are performed one after the other. -/
def Obligations.OrchardAccesses : Prop :=
  (∀ (a : OrchAccess) (s : State), s.dev.bankRefuses (a.addr % 0x2000000 / 0x80000) (s.dev.reqOf a) ≠ 0 →
    ∃ t, exec (.orchardAccess a none none) s = .next t ∧ t.mem = s.mem ∧ t.dev.get (R.BANK_STATUS_FAULT (a.addr % 0x2000000 / 0x80000)) = 1 ∧
      t.dev.get (R.ORCH_FAULT_INFO_VALID (a.addr % 0x2000000 / 0x80000 / 4)) = 1 ∧ (a.write = none → t.dev.rdata = [0, 0])) ∧
  (∀ (d : Dev) (n : Nat) (q : Req), (d.get (R.BANK_POWER_STATE n) ≠ 0 → d.bankRefuses n q = 2) ∧
    (d.get (R.BANK_POWER_STATE n) = 0 → q.checked = true → d.get (R.BANK_OWNER_AGENT n) ≠ q.agent → d.bankRefuses n q = 1) ∧
    (d.get (R.BANK_POWER_STATE n) = 0 → q.checked = true → d.get (R.BANK_OWNER_AGENT n) = q.agent → d.bankRefuses n q = 0)) ∧
  (∀ (a : OrchAccess) (bs : List Byte) (s : State) (r : Nat), a.write = some bs → s.dev.bankRefuses (a.addr % 0x2000000 / 0x80000) (s.dev.reqOf a) = 0 →
    s.dev.regionAt (a.addr % 0x2000000 / 0x80000) (a.addr % 0x80000) bs.length = some r →
    s.dev.regionAllows r (a.addr % 0x80000) bs.length (s.dev.reqOf a) = false →
    ∃ t, exec (.orchardAccess a none none) s = .next t ∧ t.dev.get (R.IMG_FLAGS_WRITE_REJ r) = 1 ∧ OnlyRegs [R.IMG_FLAGS_WRITE_REJ r] s t) ∧
  (∀ (a : OrchAccess) (bs : List Byte) (s : State), a.write = some bs → s.dev.bankRefuses (a.addr % 0x2000000 / 0x80000) (s.dev.reqOf a) = 0 →
    (∀ r, s.dev.regionAt (a.addr % 0x2000000 / 0x80000) (a.addr % 0x80000) bs.length = some r →
      s.dev.regionAllows r (a.addr % 0x80000) bs.length (s.dev.reqOf a) = true) →
    (∀ w ∈ wordsOf (a.addr % 0x2000000) bs.length, s.dev.eccAt w ≠ some .ue) →
    ∃ t, exec (.orchardAccess a none none) s = .next t ∧ t.dev.regs = s.dev.regs ∧ t.pending = s.pending ∧
      (∀ x, (x < a.addr % 0x2000000 ∨ a.addr % 0x2000000 + bs.length ≤ x) → Mem.byte t.mem x = Mem.byte s.mem x) ∧
      (∀ i < bs.length, some (Mem.byte t.mem (a.addr % 0x2000000 + i)) = bs[i]?)) ∧
  (∀ (a : OrchAccess) (s : State), a.write = none → s.dev.bankRefuses (a.addr % 0x2000000 / 0x80000) (s.dev.reqOf a) = 0 → a.len ≤ 8 →
    ∃ t, exec (.orchardAccess a none none) s = .next t ∧ t.mem = s.mem ∧
      t.dev.rdata = [BitVec.ofNat 32 (leNat (Mem.bytes s.mem (a.addr % 0x2000000) a.len)),
        BitVec.ofNat 32 (leNat ((Mem.bytes s.mem (a.addr % 0x2000000) a.len).drop 4))] ∧
      ((∀ w ∈ wordsOf (a.addr % 0x2000000) a.len, s.dev.eccAt w = none) → t.dev.regs = s.dev.regs)) ∧
  (∀ (a b : OrchAccess) (x y : List Byte) (s : State), a.write = some x → b.write = some y → a.addr % 0x2000000 / 8 = b.addr % 0x2000000 / 8 →
    s.dev.bankRefuses (a.addr % 0x2000000 / 0x80000) (s.dev.reqOf a) = 0 → s.dev.bankRefuses (a.addr % 0x2000000 / 0x80000) (s.dev.reqOf b) = 0 →
    portRank (s.dev.reqOf a).port < portRank (s.dev.reqOf b).port → portsMeet (s.dev.reqOf a).port (s.dev.reqOf b).port = true →
    ∃ t u, exec (.orchardAccess a (some b) none) s = .next t ∧ exec (.orchardAccess a none none) s = .next u ∧ t.mem = u.mem ∧
      ((s.dev.reqOf b).port = 0 → t.dev.get (R.BANK_STATUS_WL_A (a.addr % 0x2000000 / 0x80000)) = 1) ∧
      ((s.dev.reqOf b).port = 1 → t.dev.get (R.BANK_STATUS_WL_B (a.addr % 0x2000000 / 0x80000)) = 1) ∧
      ((s.dev.reqOf b).port = 2 → t.dev.get (R.BANK_STATUS_WL_C (a.addr % 0x2000000 / 0x80000)) = 1)) ∧
  (∀ (a b : OrchAccess) (s : State), a.addr % 0x2000000 / 0x80000 = b.addr % 0x2000000 / 0x80000 →
    (portsMeet (s.dev.reqOf a).port (s.dev.reqOf b).port = false ∨ a.write.isSome = true ∧ b.write = none ∧ (s.dev.reqOf b).port % 2 = 1) →
    (∀ c, a.agent ≠ .can c) → (∀ c, b.agent ≠ .can c) →
    ∃ t u, exec (.orchardAccess a none none) s = .next u ∧ exec (.orchardAccess b none none) u = .next t ∧ exec (.orchardAccess a (some b) none) s = .next t) ∧
  (∀ (a b : OrchAccess) (s : State), a.addr % 0x2000000 / 0x80000 = b.addr % 0x2000000 / 0x80000 → a.write.isSome = true → b.write = none →
    portsMeet (s.dev.reqOf a).port (s.dev.reqOf b).port = true → (s.dev.reqOf b).port % 2 = 0 →
    ∃ t u, exec (.orchardAccess b none none) s = .next u ∧ exec (.orchardAccess a none none) u = .next t ∧ exec (.orchardAccess a (some b) none) s = .next t)

/-- Let a valid region be the first one that holds the bytes of an Orchard write, its WORKING buffer closed. A write by any engine, team, the host, the
mover, the Bridle or a CAN controller leaves every byte of memory as it was, and the region's state.
A BAR2 write to an engine's data memory by a port that may write stores its bytes there and nowhere else, but a word that the engine stores to in the
same cycle keeps the engine's store. One to the active bank of instruction RAM while the engine is neither in IDLE nor HALTED is dropped with IRAM_WREJ;
one to the other bank, or to an engine that is IDLE or HALTED, is stored when no activation is under way. An engine does not reach these memories, and
those of a team that is off or dozes take no write. A scrub read of a bank that is ON writes a corrected word
back, counts it, flags an uncorrectable one, and advances the walk; it skips a bank that is not ON, and with SCRUB_EN 0 nothing happens. CLR_CNT clears the
counts of corrected errors and of faults. -/
def Obligations.RegionsEngineMemoryAndScrub : Prop :=
  (∀ (a : OrchAccess) (bs : List Byte) (s : State) (r : Nat), a.write = some bs → a.agent ≠ .sampler →
    s.dev.regionAt (a.addr % 0x2000000 / 0x80000) (a.addr % 0x80000) bs.length = some r → (s.dev.region r).opened = false →
    ∃ t, exec (.orchardAccess a none none) s = .next t ∧ t.mem = s.mem ∧ t.dev.img = s.dev.img) ∧
  (∀ (w : Writer) (e : Fin 48) (off : Nat) (bs : List Byte) (s : State), (∀ k, w ≠ .engine k) → s.dev.mayWrite w 0x10000 = true →
    0x10000 ≤ off → off + bs.length ≤ 0x18000 → s.dev.engDark e = false → ((s.dev.engine e).scrAt ≠ s.dev.now ∨ (s.dev.engine e).scr = []) →
    ∃ t, exec (.engineMemoryWrite w e off bs) s = .next t ∧ t.dev = s.dev ∧ t.pending = s.pending ∧
      (∀ x, (x < engBase e + off ∨ engBase e + off + bs.length ≤ x) → Mem.byte t.mem x = Mem.byte s.mem x) ∧
      (∀ i < bs.length, some (Mem.byte t.mem (engBase e + off + i)) = bs[i]?)) ∧
  (∀ (w : Writer) (e : Fin 48) (off : Nat) (bs : List Byte) (s : State), (∀ k, w ≠ .engine k) → s.dev.mayWrite w 0x10000 = true → bs ≠ [] →
    bs.length ≤ 8 - off % 8 → off < 0x10000 → off / 0x8000 = s.dev.get (R.ENG_STATUS_ACT_BANK e) →
    s.dev.engDark e = false → s.dev.get (R.ENG_STATUS_STATE e) ≠ 1 → s.dev.get (R.ENG_STATUS_STATE e) ≠ 6 →
    ∃ t, exec (.engineMemoryWrite w e off bs) s = .next t ∧ t.mem = s.mem ∧ t.dev.get (R.ENG_STATUS_IRAM_WREJ e) = 1 ∧
      OnlyRegsEv [R.ENG_STATUS_IRAM_WREJ e] s t) ∧
  (∀ (w : Writer) (e : Fin 48) (off : Nat) (bs : List Byte) (s : State), (∀ k, w ≠ .engine k) → s.dev.mayWrite w 0x10000 = true →
    off + bs.length ≤ 0x10000 → s.dev.engDark e = false → s.dev.upd.swap = none →
    (off / 0x8000 ≠ s.dev.get (R.ENG_STATUS_ACT_BANK e) ∧ (off + bs.length - 1) / 0x8000 = off / 0x8000 ∨
      s.dev.get (R.ENG_STATUS_STATE e) = 1 ∨ s.dev.get (R.ENG_STATUS_STATE e) = 6) →
    ∃ t, exec (.engineMemoryWrite w e off bs) s = .next t ∧ t.dev = s.dev ∧ t.pending = s.pending ∧
      (∀ x, (x < engBase e + off ∨ engBase e + off + bs.length ≤ x) → Mem.byte t.mem x = Mem.byte s.mem x) ∧
      (∀ i < bs.length, some (Mem.byte t.mem (engBase e + off + i)) = bs[i]?)) ∧
  (∀ (w : Writer) (e : Fin 48) (off : Nat) (bs : List Byte) (s : State), (∀ k, w ≠ .engine k) → s.dev.mayWrite w 0x10000 = true →
    0x10000 ≤ off → off + bs.length ≤ 0x18000 → bs.length ≤ 8 - off % 8 → bs ≠ [] → s.dev.engDark e = false → (s.dev.engine e).scrAt = s.dev.now →
    ∃ t, exec (.engineMemoryWrite w e off bs) s = .next t ∧ t.dev = s.dev ∧
      (∀ i < bs.length, (off - 0x10000 + i) / 4 ∈ (s.dev.engine e).scr → Mem.byte t.mem (engBase e + off + i) = Mem.byte s.mem (engBase e + off + i)) ∧
      (∀ i < bs.length, (off - 0x10000 + i) / 4 ∉ (s.dev.engine e).scr → some (Mem.byte t.mem (engBase e + off + i)) = bs[i]?)) ∧
  (∀ (w : Writer) (e : Fin 48) (off : Nat) (bs : List Byte) (s : State),
    ∃ t, exec (.engineMemoryWrite w e off bs) s = .next t ∧ ((∃ k, w = .engine k) ∨ 0x20000 < off + bs.length → t = s) ∧
      ((∀ k, w ≠ .engine k) → off + bs.length ≤ 0x20000 → s.dev.mayWrite w 0x10000 = false → t = s.on (fun d => d.denied w)) ∧
      (s.dev.mayWrite w 0x10000 = true → s.dev.engDark e = true → t = s) ∧ t.pending = s.pending) ∧
  (∀ (n : Fin 64) (s : State), s.dev.on R.ORCH_CTRL_SCRUB_EN = true → s.dev.get (R.BANK_POWER_STATE n) = 0 →
    s.dev.eccAt (s.dev.scrubAddr n) = some .ce → s.dev.orch.walk.getD n 0 < 65536 →
    ∃ t, exec (.scrub n none) s = .next t ∧ t.mem = s.mem ∧ t.dev.eccAt (s.dev.scrubAddr n) = none ∧ t.dev.get (R.BANK_STATUS_CE n) = 1 ∧
      t.dev.get (R.BANK_STATUS_CE_CNT n) = min (s.dev.get (R.BANK_STATUS_CE_CNT n) + 1) (2 ^ (R.BANK_STATUS_CE_CNT n).width - 1) ∧
      t.dev.orch.walk.getD n 0 = (s.dev.orch.walk.getD n 0 + 1) % 65536) ∧
  (∀ (n : Fin 64) (s : State), s.dev.on R.ORCH_CTRL_SCRUB_EN = true → s.dev.get (R.BANK_POWER_STATE n) = 0 →
    s.dev.eccAt (s.dev.scrubAddr n) = none → s.dev.orch.walk.getD n 0 < 65535 →
    ∃ t, exec (.scrub n none) s = .next t ∧ t.mem = s.mem ∧ t.dev.orch.ecc = s.dev.orch.ecc ∧ KeepsRegs [R.ORCH_SCRUB_PASSES] s t ∧
      t.dev.orch.walk.getD n 0 = s.dev.orch.walk.getD n 0 + 1) ∧
  (∀ (n : Fin 64) (s : State), s.dev.on R.ORCH_CTRL_SCRUB_EN = true → s.dev.get (R.BANK_POWER_STATE n) = 0 →
    s.dev.eccAt (s.dev.scrubAddr n) = some .ue → s.dev.orch.walk.getD n 0 < 65536 →
    ∃ t, exec (.scrub n none) s = .next t ∧ t.mem = s.mem ∧ t.dev.eccAt (s.dev.scrubAddr n) = some .ue ∧ t.dev.get (R.BANK_STATUS_UE n) = 1 ∧
      t.dev.get R.SYS_DIAG_ECC_UNCORR = 1 ∧ t.dev.orch.walk.getD n 0 = (s.dev.orch.walk.getD n 0 + 1) % 65536) ∧
  (∀ (n : Fin 64) (s : State), s.dev.on R.ORCH_CTRL_SCRUB_EN = true → s.dev.get (R.BANK_POWER_STATE n) ≠ 0 →
    ∃ t, exec (.scrub n none) s = .next t ∧ t.dev.orch.walk = s.dev.orch.walk ∧ t.dev.orch.ecc = s.dev.orch.ecc ∧ KeepsRegs [R.ORCH_SCRUB_PASSES] s t) ∧
  (∀ (n : Fin 64) (x : Ecc) (s : State), exec (.scrub n (some x)) s = exec (.scrub n none) (s.on (fun d => d.setEcc (d.scrubAddr n) (some x))) ∧
    ∃ t, exec (.scrub n (some x)) s = .next t) ∧
  (∀ (n : Fin 64) (s : State), s.dev.on R.ORCH_CTRL_SCRUB_EN = false → exec (.scrub n none) s = .next s) ∧
  (∀ (w : Writer) (s : State), Grants s w R.ORCH_CTRL_SCRUB_EN →
    ∃ t, exec (.orchClrCnt w) s = .next t ∧ (∀ n < 64, t.dev.get (R.BANK_STATUS_CE_CNT n) = 0) ∧ (∀ q < 16, t.dev.get (R.ORCH_FAULT_CNT q) = 0) ∧
      OnlyRegs ((List.range 64).map R.BANK_STATUS_CE_CNT ++ (List.range 16).map R.ORCH_FAULT_CNT) s t)

/-- A BANK_HANDOVER by the owner of a bank that is not locked, or by the Bridle, makes the named agent the owner at once when NOW is set or the stride is
not live, and else leaves a pending handover; to the present owner it cancels one. By another writer than the owner and the Bridle it is a fault and changes
no owner. A BANK_POWER request by the owner or the Bridle starts a transition to another state, with STATE 3 until it is done; during a transition it is
kept as the newest request. Any other writer's, and RETENTION or OFF for a locked bank, is a fault. When a transition is done STATE is the target, and a
bank turned off reads 0 everywhere. A window, in units of 8 ns, starts a move to RETENTION and its end the move back. -/
def Obligations.BankOwnershipAndPower : Prop :=
  (∀ (w : Writer) (n : Fin 64) (v : W32) (s : State), exec (.bankHandover w n v) s =
    .next (s.gate w (0x40004 + n.val * 0x10) (fun y => y.on (fun x => x.bankHandoverWrite w n.val v.toNat)))) ∧
  (∀ (w : Writer) (n : Fin 64) (v : W32) (s : State), Grants s w (R.BANK_HANDOVER_TO n) →
    (agentOf w = s.dev.get (R.BANK_OWNER_AGENT n) ∨ w = .bridle) → s.dev.on (R.BANK_OWNER_CFG_LOCK n) = false → v.toNat % 16 ≠ 15 →
    v.toNat % 16 ≠ s.dev.get (R.BANK_OWNER_AGENT n) → (v.toNat.testBit 4 = true ∨ s.dev.strideLive = false) →
    ∃ t, exec (.bankHandover w n v) s = .next t ∧ t.dev.get (R.BANK_OWNER_AGENT n) = v.toNat % 16 ∧ t.dev.get (R.BANK_OWNER_PEND n) = 0 ∧ t.mem = s.mem ∧
      (v.toNat < 32 → OnlyRegs [R.BANK_OWNER_AGENT n, R.BANK_OWNER_PEND n, R.BANK_OWNER_PEND_AGENT n] s t) ∧
      (32 ≤ v.toNat → t.dev.get R.SYS_DIAG_REG_RSV_WRITE = 1)) ∧
  (∀ (w : Writer) (n : Fin 64) (v : W32) (s : State), Grants s w (R.BANK_HANDOVER_TO n) →
    (agentOf w = s.dev.get (R.BANK_OWNER_AGENT n) ∨ w = .bridle) → s.dev.on (R.BANK_OWNER_CFG_LOCK n) = false → v.toNat % 16 ≠ 15 →
    v.toNat % 16 ≠ s.dev.get (R.BANK_OWNER_AGENT n) → v.toNat.testBit 4 = false → s.dev.strideLive = true →
    ∃ t, exec (.bankHandover w n v) s = .next t ∧ t.dev.get (R.BANK_OWNER_AGENT n) = s.dev.get (R.BANK_OWNER_AGENT n) ∧
      t.dev.get (R.BANK_OWNER_PEND n) = 1 ∧ t.dev.get (R.BANK_OWNER_PEND_AGENT n) = v.toNat % 16 ∧ t.mem = s.mem ∧
      (v.toNat < 32 → OnlyRegs [R.BANK_OWNER_PEND n, R.BANK_OWNER_PEND_AGENT n] s t)) ∧
  (∀ (w : Writer) (n : Fin 64) (v : W32) (s : State), Grants s w (R.BANK_HANDOVER_TO n) →
    (agentOf w = s.dev.get (R.BANK_OWNER_AGENT n) ∨ w = .bridle) → s.dev.on (R.BANK_OWNER_CFG_LOCK n) = false → v.toNat % 16 ≠ 15 →
    v.toNat % 16 = s.dev.get (R.BANK_OWNER_AGENT n) →
    ∃ t, exec (.bankHandover w n v) s = .next t ∧ t.dev.get (R.BANK_OWNER_AGENT n) = s.dev.get (R.BANK_OWNER_AGENT n) ∧
      t.dev.get (R.BANK_OWNER_PEND n) = 0 ∧ t.mem = s.mem) ∧
  (∀ (w : Writer) (n : Fin 64) (v : W32) (s : State), Grants s w (R.BANK_HANDOVER_TO n) → agentOf w ≠ s.dev.get (R.BANK_OWNER_AGENT n) →
    w ≠ .bridle →
    ∃ t, exec (.bankHandover w n v) s = .next t ∧ t.dev.get (R.BANK_OWNER_AGENT n) = s.dev.get (R.BANK_OWNER_AGENT n) ∧
      t.dev.get (R.BANK_OWNER_PEND n) = s.dev.get (R.BANK_OWNER_PEND n) ∧ t.dev.get (R.BANK_STATUS_FAULT n) = 1 ∧ t.mem = s.mem) ∧
  (∀ (w : Writer) (n : Fin 64) (v : W32) (s : State), Grants s w (R.BANK_HANDOVER_TO n) →
    (agentOf w = s.dev.get (R.BANK_OWNER_AGENT n) ∨ w = .bridle) → (v.toNat % 16 = 15 ∨ s.dev.on (R.BANK_OWNER_CFG_LOCK n) = true) →
    ∃ t, exec (.bankHandover w n v) s = .next t ∧ t.dev.get (R.BANK_OWNER_AGENT n) = s.dev.get (R.BANK_OWNER_AGENT n) ∧
      t.dev.get (R.BANK_OWNER_PEND n) = s.dev.get (R.BANK_OWNER_PEND n) ∧ t.mem = s.mem ∧
      (v.toNat % 16 = 15 → t.dev.get R.SYS_DIAG_REG_RSV_WRITE = 1) ∧ (v.toNat % 16 ≠ 15 → t.dev.get (R.BANK_STATUS_FAULT n) = 1)) ∧
  (∀ (w : Writer) (n : Fin 64) (v : W32) (s : State), exec (.bankPower w n v) s =
    .next (s.gate w (0x40008 + n.val * 0x10) (fun y => y.on (fun x => x.bankPowerWrite w n.val v.toNat)))) ∧
  (∀ (w : Writer) (n : Fin 64) (v : W32) (s : State), Grants s w (R.BANK_POWER_REQ n) → (agentOf w = s.dev.get (R.BANK_OWNER_AGENT n) ∨ w = .bridle) →
    (s.dev.on (R.BANK_OWNER_CFG_LOCK n) = false ∨ v.toNat % 4 = 0) → v.toNat % 4 < 3 → s.dev.get (R.BANK_POWER_STATE n) ≠ 3 →
    s.dev.get (R.BANK_POWER_STATE n) ≠ v.toNat % 4 → s.dev.orch.window.contains n.val = false →
    ∃ t, exec (.bankPower w n v) s = .next t ∧ t.dev.get (R.BANK_POWER_REQ n) = v.toNat % 4 ∧ t.dev.get (R.BANK_POWER_STATE n) = 3 ∧
      t.dev.orch.target = s.dev.orch.target.put n (v.toNat % 4) ∧ t.mem = s.mem ∧
      (v.toNat < 4 → KeepsRegs [R.BANK_POWER_REQ n, R.BANK_POWER_STATE n, R.ORCH_SCRUB_PASSES] s t)) ∧
  (∀ (w : Writer) (n : Fin 64) (v : W32) (s : State), Grants s w (R.BANK_POWER_REQ n) → (agentOf w = s.dev.get (R.BANK_OWNER_AGENT n) ∨ w = .bridle) →
    (s.dev.on (R.BANK_OWNER_CFG_LOCK n) = false ∨ v.toNat % 4 = 0) → v.toNat % 4 < 3 → s.dev.orch.window.contains n.val = false →
    (s.dev.get (R.BANK_POWER_STATE n) = 3 ∨ s.dev.get (R.BANK_POWER_STATE n) = v.toNat % 4) →
    ∃ t, exec (.bankPower w n v) s = .next t ∧ t.dev.get (R.BANK_POWER_REQ n) = v.toNat % 4 ∧
      t.dev.get (R.BANK_POWER_STATE n) = s.dev.get (R.BANK_POWER_STATE n) ∧ t.dev.orch.target = s.dev.orch.target ∧ t.mem = s.mem) ∧
  (∀ (w : Writer) (n : Fin 64) (v : W32) (s : State), Grants s w (R.BANK_POWER_REQ n) →
    (agentOf w ≠ s.dev.get (R.BANK_OWNER_AGENT n) ∧ w ≠ .bridle ∨ s.dev.on (R.BANK_OWNER_CFG_LOCK n) = true ∧ (v.toNat % 4 = 1 ∨ v.toNat % 4 = 2)) →
    ∃ t, exec (.bankPower w n v) s = .next t ∧ t.dev.get (R.BANK_POWER_REQ n) = s.dev.get (R.BANK_POWER_REQ n) ∧
      t.dev.get (R.BANK_POWER_STATE n) = s.dev.get (R.BANK_POWER_STATE n) ∧ t.dev.get (R.BANK_STATUS_FAULT n) = 1 ∧ t.mem = s.mem) ∧
  (∀ (n : Fin 64) (s : State), Tab.find? s.dev.orch.target n = some 2 → s.dev.bankWants n = 2 →
    ∃ t, exec (.bankPowerDone n) s = .next t ∧ t.dev.get (R.BANK_POWER_STATE n) = 2 ∧ (∀ i < 0x80000, Mem.byte t.mem (bankBase n + i) = 0) ∧
      (∀ x, (x < bankBase n ∨ bankBase n + 0x80000 ≤ x) → Mem.byte t.mem x = Mem.byte s.mem x) ∧
      (∀ g : Fld, g.key ≠ (R.BANK_POWER_STATE n).key → t.dev.get g = s.dev.get g)) ∧
  (∀ (n : Fin 64) (s : State) (st : Nat), Tab.find? s.dev.orch.target n = some st → st < 2 → s.dev.bankWants n = st →
    ∃ t, exec (.bankPowerDone n) s = .next t ∧ t.dev.get (R.BANK_POWER_STATE n) = st ∧ KeepsRegs [R.BANK_POWER_STATE n] s t) ∧
  (∀ (d : Dev) (n : Nat), d.hasWindow n = (d.get (R.BANK_RET_START n) != 0 || d.get (R.BANK_RET_END n) != 0) ∧
    d.retStart n = 8 * d.get (R.BANK_RET_START n) ∧ d.retEnd n = 8 * d.get (R.BANK_RET_END n)) ∧
  (∀ (n : Fin 64) (s : State), s.dev.hasWindow n = true → s.dev.on R.STRIDE_STATUS_RUNNING = true → s.dev.orch.window.contains n.val = false →
    s.dev.get (R.BANK_POWER_REQ n) = 0 → s.dev.get (R.BANK_POWER_STATE n) = 0 →
    ∃ t, exec (.bankRetentionEnter n) s = .next t ∧ t.dev.orch.window.contains n.val = true ∧ t.dev.get (R.BANK_POWER_STATE n) = 3 ∧
      Tab.find? t.dev.orch.target n = some 1 ∧ KeepsRegs ([R.BANK_POWER_STATE n, R.ORCH_SCRUB_PASSES] ++ timeRegs) s t) ∧
  (∀ (n : Fin 64) (s : State), s.dev.orch.window = [n.val] → s.dev.get (R.BANK_POWER_REQ n) = 0 → s.dev.get (R.BANK_POWER_STATE n) = 1 →
    ∃ t, exec (.bankRetentionExit n) s = .next t ∧ t.dev.orch.window = [] ∧ t.dev.get (R.BANK_POWER_STATE n) = 3 ∧
      Tab.find? t.dev.orch.target n = some 0 ∧ KeepsRegs ([R.BANK_POWER_STATE n, R.ORCH_SCRUB_PASSES] ++ timeRegs) s t)

/-- A machine in RUN executes an instruction and goes on at the next address, at WRAP_BOTTOM after WRAP_TOP. IDLE does nothing else; TIME sets T by its
mode, COPY the register it names, ENABLE the OE bits of its lane, NOTE sets SIGNAL, CLOSE delivers the bits left in RW. DRIVE gives levels to its lane's
pins. An AT action before T makes the machine WAIT, as does a WAIT that is not satisfied. SEND and TAKE without AT begin at once; SEND with no word and
not enough bits stalls with UNDERFLOW, as do TIME and COPY from an empty TXDATA. A reserved value halts with ILLEGAL. A machine that does not run does
nothing. -/
def Obligations.StirrupInstructions : Prop :=
  (∀ (m : Fin 32) (s : State), (s.dev.mach m).state = 1 →
    (∃ t, exec (.idle m) s = .next t ∧ t.dev.mach m = { s.dev.mach m with pc := machPc s m, state := 1, held := none, steps := 0 } ∧
      t.dev.get (R.STIR_MSTATUS_PC (m / 8) (m % 8)) = machPc s m % 64 ∧ KeepsRegs (machRegs m) s t) ∧
    (∃ t, exec (.note m) s = .next t ∧ t.dev.get (R.STIR_MSTATUS_SIGNAL (m / 8) (m % 8)) = 1 ∧
      t.dev.mach m = { s.dev.mach m with pc := machPc s m, state := 1, held := none, steps := 0 } ∧ t.mem = s.mem)) ∧
  (∀ (m : Fin 32) (imm : Fin 512) (s : State), (s.dev.mach m).state = 1 →
    ∀ x ∈ [(0, (s.dev.mach m).t + (s.dev.mach m).p), (2, s.dev.io.edge + 8 * imm), (3, (s.dev.mach m).t + 8 * imm)],
      ∃ t, exec (.time m x.1 imm) s = .next t ∧ KeepsRegs (machRegs m) s t ∧
        t.dev.mach m = { s.dev.mach m with t := x.2 % 2 ^ 32, pc := machPc s m, state := 1, held := none, steps := 0 }) ∧
  (∀ (m : Fin 32) (imm : Fin 512) (v : Nat) (r : List Nat) (s : State), (s.dev.mach m).state = 1 → (s.dev.mach m).tx = v :: r →
    ∃ t, exec (.time m 1 imm) s = .next t ∧ KeepsRegs (machRegs m) s t ∧
      t.dev.mach m = { s.dev.mach m with t := v, tx := r, pc := machPc s m, state := 1, held := none, steps := 0 }) ∧
  (∀ (m : Fin 32) (imm : Fin 512) (s : State), (s.dev.mach m).state = 1 → (s.dev.mach m).tx = [] →
    ∃ t, exec (.time m 1 imm) s = .next t ∧ (t.dev.mach m).state = 2 ∧ (t.dev.mach m).pc = (s.dev.mach m).pc ∧
      (t.dev.mach m).held = some (.time 1 imm) ∧ t.dev.get (R.STIR_MSTATUS_UNDERFLOW (m / 8) (m % 8)) = 1 ∧ t.mem = s.mem) ∧
  (∀ (m : Fin 32) (dst : Fin 8) (s : State), (s.dev.mach m).state = 1 → dst.val ≤ 4 →
    ∀ x ∈ [((0 : Fin 8), (s.dev.mach m).xw % 2 ^ 32), (1, (s.dev.mach m).k), (2, (s.dev.mach m).p), (3, (s.dev.mach m).t), (4, (s.dev.mach m).rw % 2 ^ 32),
        (7, 0)],
      ∃ t, exec (.copy m dst x.1 []) s = .next t ∧ (t.dev.mach m).pc = machPc s m ∧ KeepsRegs (machRegs m) s t ∧
        (dst.val = 0 → (t.dev.mach m).xw = x.2 ∧ (t.dev.mach m).xfill = 32) ∧ (dst.val = 1 → (t.dev.mach m).k = x.2) ∧
        (dst.val = 2 → (t.dev.mach m).p = x.2) ∧ (dst.val = 3 → (t.dev.mach m).t = x.2) ∧
        (dst.val = 4 → (t.dev.mach m).rw = x.2 ∧ (t.dev.mach m).rfill = 0)) ∧
  (∀ (m : Fin 32) (dst : Fin 8) (lv : BitVec 96) (s : State), (s.dev.mach m).state = 1 → dst.val = 1 →
    ∃ t, exec (.copy m dst 6 [lv]) s = .next t ∧ ∀ o < 24, (t.dev.mach m).k.testBit o =
      (decide (o < (s.dev.lane m 0).2) && (s.dev.withPins lv).blockPin m ((s.dev.lane m 0).1 + o))) ∧
  (∀ (m : Fin 32) (dst : Fin 8) (s : State), (s.dev.mach m).state = 1 → dst.val ≤ 4 → (s.dev.mach m).tx = [] →
    ∃ t, exec (.copy m dst 5 []) s = .next t ∧ (t.dev.mach m).state = 2 ∧ t.dev.get (R.STIR_MSTATUS_UNDERFLOW (m / 8) (m % 8)) = 1) ∧
  (∀ (m : Fin 32) (lane : Fin 4) (mask : Byte) (s : State), (s.dev.mach m).state = 1 →
    ∃ t, exec (.enable m lane false mask) s = .next t ∧ (t.dev.mach m).pc = machPc s m ∧ KeepsRegs (machRegs m) s t ∧
      ∀ o, (t.dev.mach m).oe.testBit o = (if (s.dev.lane m lane).1 ≤ o ∧ o < (s.dev.lane m lane).1 + min (s.dev.lane m lane).2 8
        then mask.getLsbD (o - (s.dev.lane m lane).1) else (s.dev.mach m).oe.testBit o)) ∧
  (∀ (m : Fin 32) (lane : Fin 4) (mask : Byte) (s : State), (s.dev.mach m).state = 1 → mask.toNat < 2 →
    ∃ t, exec (.enable m lane true mask) s = .next t ∧ (t.dev.mach m).pc = machPc s m ∧ KeepsRegs (machRegs m) s t ∧
      ∀ o, (t.dev.mach m).oe.testBit o = (if (s.dev.lane m lane).1 ≤ o ∧ o < (s.dev.lane m lane).1 + (s.dev.lane m lane).2
        then mask.getLsbD 0 else (s.dev.mach m).oe.testBit o)) ∧
  (∀ (m : Fin 32) (lane : Fin 4) (v : Byte) (s : State), (s.dev.mach m).state = 1 →
    ∃ t, exec (.drive m false lane v) s = .next t ∧ (t.dev.mach m).pc = machPc s m ∧ KeepsRegs (machRegs m) s t ∧
      ∀ o, (t.dev.mach m).drv.testBit o = (if (s.dev.lane m lane).1 ≤ o ∧ o < (s.dev.lane m lane).1 + min (s.dev.lane m lane).2 8
        then v.getLsbD (o - (s.dev.lane m lane).1) else (s.dev.mach m).drv.testBit o)) ∧
  (∀ (m : Fin 32) (lane : Fin 4) (n : Fin 32) (v : Byte) (s : State), (s.dev.mach m).state = 1 → s.dev.atDue m = false →
    ∀ x ∈ [(Instr.send m true lane n, StirInstr.send true lane n), (.take m true lane n [], .take true lane n), (.drive m true lane v, .drive true lane v),
        (.wait m 0 0 [], .wait 0 0)],
      ∃ t, exec x.1 s = .next t ∧ t.dev.mach m = { s.dev.mach m with state := 3, held := some x.2, steps := 0, waitFrom := (t.dev.mach m).waitFrom } ∧ KeepsRegs (machRegs m) s t) ∧
  (∀ (m : Fin 32) (g : Fin 32) (s : State), (s.dev.mach m).state = 1 → g.val < 4 →
    ∃ t, exec (.wait m 3 g []) s = .next t ∧ KeepsRegs (machRegs m) s t ∧
      t.dev.mach m = { s.dev.mach m with state := 3, held := some (.wait 3 g), steps := 0, waitFrom := s.dev.gaitEdges g }) ∧
  (∀ (m : Fin 32) (s : State), (s.dev.mach m).state = 1 → s.dev.atDue m = true →
    ∃ t, exec (.wait m 0 0 []) s = .next t ∧ (t.dev.mach m).pc = machPc s m ∧ (t.dev.mach m).state = 1) ∧
  (∀ (m : Fin 32) (mode : Fin 4) (o : Fin 32) (lv : BitVec 96) (s : State), (s.dev.mach m).state = 1 → o.val < 24 → (mode = 1 ∨ mode = 2) →
    ∃ t, exec (.wait m mode o [lv]) s = .next t ∧
      ((s.dev.withPins lv).blockPin m o = decide (mode = 1) → (t.dev.mach m).pc = machPc s m ∧ (t.dev.mach m).state = 1) ∧
      ((s.dev.withPins lv).blockPin m o ≠ decide (mode = 1) → (t.dev.mach m).pc = (s.dev.mach m).pc ∧ (t.dev.mach m).state = 3)) ∧
  (∀ (m : Fin 32) (lane : Fin 4) (n : Fin 32) (s : State), (s.dev.mach m).state = 1 →
    0 < (s.dev.lane m lane).2 → (s.dev.mach m).xfill < min (s.dev.lane m lane).2 (n + 1) → (s.dev.mach m).tx = [] → (s.dev.mach m).steps = 0 →
    ∃ t, exec (.send m false lane n) s = .next t ∧ (t.dev.mach m).state = 2 ∧ (t.dev.mach m).pc = (s.dev.mach m).pc ∧
      (t.dev.mach m).drv = (s.dev.mach m).drv ∧ t.dev.get (R.STIR_MSTATUS_UNDERFLOW (m / 8) (m % 8)) = 1) ∧
  (∀ (m : Fin 32) (lane : Fin 4) (n : Fin 32) (s : State), (s.dev.mach m).state = 1 → n.val + 1 ≤ (s.dev.lane m lane).2 →
    n.val + 1 ≤ (s.dev.mach m).xfill → (s.dev.mach m).steps = 0 →
    ∃ t, exec (.send m false lane n) s = .next t ∧ (t.dev.mach m).pc = machPc s m ∧ (t.dev.mach m).xw = (s.dev.mach m).xw / 2 ^ (n.val + 1) ∧
      (t.dev.mach m).xfill = (s.dev.mach m).xfill - (n.val + 1) ∧ (t.dev.mach m).tx = (s.dev.mach m).tx ∧ t.mem = s.mem ∧
      ∀ o < (s.dev.lane m lane).2, (t.dev.mach m).drv.testBit ((s.dev.lane m lane).1 + o) = (decide (o ≤ n.val) && (s.dev.mach m).xw.testBit o)) ∧
  (∀ (m : Fin 32) (lane : Fin 4) (n : Fin 32) (lv : BitVec 96) (s : State), (s.dev.mach m).state = 1 → n.val + 1 ≤ (s.dev.lane m lane).2 →
    (s.dev.mach m).rfill + n.val ≤ s.dev.get (R.STIR_MSHIFT_UNIT_M1 (m / 8) (m % 8)) → (s.dev.mach m).rw < 2 ^ (s.dev.mach m).rfill →
    ∃ t v, exec (.take m false lane n [lv]) s = .next t ∧ (t.dev.mach m).pc = machPc s m ∧
      (s.dev.mach m).rfill + n.val + 1 ≤ 64 ∧ (∀ o ≤ n.val, v.testBit o = (s.dev.withPins lv).blockPin m ((s.dev.lane m lane).1 + o)) ∧
      v < 2 ^ (n.val + 1) ∧
      ((s.dev.mach m).rfill + n.val < s.dev.get (R.STIR_MSHIFT_UNIT_M1 (m / 8) (m % 8)) →
        (t.dev.mach m).rfill = (s.dev.mach m).rfill + n.val + 1 ∧ (t.dev.mach m).rw = (s.dev.mach m).rw + 2 ^ (s.dev.mach m).rfill * v) ∧
      ((s.dev.mach m).rfill + n.val = s.dev.get (R.STIR_MSHIFT_UNIT_M1 (m / 8) (m % 8)) →
        s.dev.on (R.STIR_MSHIFT_PN_EN (m / 8) (m % 8)) = false → (s.dev.mach m).rx.length < 8 →
        (t.dev.mach m).rfill = 0 ∧ (t.dev.mach m).rx = (s.dev.mach m).rx ++ [(s.dev.mach m).rw + 2 ^ (s.dev.mach m).rfill * v])) ∧
  (∀ (m : Fin 32) (mark : Bool) (s : State), (s.dev.mach m).state = 1 → s.dev.on (R.STIR_MSHIFT_PN_EN (m / 8) (m % 8)) = false →
    (s.dev.mach m).rx.length < 8 →
    ∃ t, exec (.close m mark) s = .next t ∧ (t.dev.mach m).pc = machPc s m ∧ (t.dev.mach m).rfill = 0 ∧ t.mem = s.mem ∧
      (t.dev.mach m).rx = (if (s.dev.mach m).rfill = 0 then (s.dev.mach m).rx
        else (s.dev.mach m).rx ++ [(s.dev.mach m).rw % 2 ^ (s.dev.mach m).rfill])) ∧
  (∀ (m : Fin 32) (lane : Fin 4) (mask : Byte) (arg : Fin 32) (dst src : Fin 8) (s : State), (s.dev.mach m).state = 1 → 2 ≤ mask.toNat →
    24 ≤ arg.val → 4 < dst.val →
    ∀ x ∈ [Instr.enable m lane true mask, .wait m 1 arg [], .wait m 2 arg [], .wait m 3 arg [], .copy m dst src []],
      ∃ t, exec x s = .next t ∧ (t.dev.mach m).state = 4 ∧ (t.dev.mach m).pc = (s.dev.mach m).pc ∧
        t.dev.get (R.STIR_MSTATUS_ILLEGAL (m / 8) (m % 8)) = 1 ∧ t.mem = s.mem) ∧
  (∀ (m : Fin 32) (w : BitVec 16) (s : State), (s.dev.mach m).state = 1 → stirDecode w.toNat = none →
    ∃ t, exec (.unassignedStirrupOp m w) s = .next t ∧ (t.dev.mach m).state = 4 ∧ (t.dev.mach m).pc = (s.dev.mach m).pc ∧
      t.dev.get (R.STIR_MSTATUS_ILLEGAL (m / 8) (m % 8)) = 1 ∧ t.mem = s.mem) ∧
  (∀ (m : Fin 32) (a : Bool) (lane : Fin 4) (n imm' : Fin 32) (v w : Byte) (mode : Fin 4) (imm : Fin 512) (dst src : Fin 8) (lv : List (BitVec 96))
    (word : BitVec 16) (s : State), (s.dev.mach m).state ≠ 1 →
    ∀ x ∈ [Instr.idle m, .send m a lane n, .take m a lane n lv, .drive m a lane v, .enable m lane a w, .time m mode imm, .wait m mode imm' lv,
        .copy m dst src lv, .close m a, .note m, .unassignedStirrupOp m word], exec x s = .next s) ∧
  (∀ w : BitVec 16, 0xA000 ≤ w.toNat → stirDecode w.toNat = none)

/-- A start of a machine whose configuration is consistent puts it into RUN at WRAP_BOTTOM with empty reels and OE 0; else CFG_REJ. A stop disables it
and keeps OE. A word enters TXDATA, or is dropped with WR_DROP when 8 are held; a read of RXDATA takes the head, of an empty one gives the last word. A
program word is stored, with PROG_WHILE_RUN when a machine of the block is enabled. A wait that is satisfied (one for a gait once an edge of it has come since the wait began), an AT action at T and a stalled machine
with a word go on. -/
def Obligations.StirrupControl : Prop :=
  (∀ (w : Writer) (m : Fin 32) (s : State), Grants s w (R.STIR_MCTRL_EN (m / 8) (m % 8)) → s.dev.startBad m = false →
    ∃ t, exec (.machineStart w m) s = .next t ∧ t.dev.get (R.STIR_MCTRL_EN (m / 8) (m % 8)) = 1 ∧
      t.dev.mach m = { s.dev.mach m with pc := s.dev.get (R.STIR_WRAP_BOTTOM (m / 8) (m % 8)), xw := 0, xfill := 0, rw := 0, rfill := 0, oe := 0, state := 1, held := none, steps := 0 } ∧
      KeepsRegs (R.STIR_MCTRL_EN (m / 8) (m % 8) :: R.STIR_BLK_STATUS_ENABLED (m / 8) :: machRegs m) s t) ∧
  (∀ (w : Writer) (m : Fin 32) (s : State), Grants s w (R.STIR_MCTRL_EN (m / 8) (m % 8)) → s.dev.startBad m = true →
    ∃ t, exec (.machineStart w m) s = .next t ∧ t.dev.get (R.STIR_MSTATUS_CFG_REJ (m / 8) (m % 8)) = 1 ∧
      OnlyRegs [R.STIR_MSTATUS_CFG_REJ (m / 8) (m % 8)] s t) ∧
  (∀ (w : Writer) (m : Fin 32) (s : State), Grants s w (R.STIR_MCTRL_EN (m / 8) (m % 8)) →
    ∃ t, exec (.machineStop w m) s = .next t ∧ t.dev.get (R.STIR_MCTRL_EN (m / 8) (m % 8)) = 0 ∧
      t.dev.mach m = { s.dev.mach m with state := 0, held := none, steps := 0 } ∧
      (t.dev.get (R.STIR_BLK_STATUS_ENABLED (m / 8))).testBit (m % 8) = false ∧
      KeepsRegs (R.STIR_MCTRL_EN (m / 8) (m % 8) :: R.STIR_BLK_STATUS_ENABLED (m / 8) :: machRegs m) s t) ∧
  (∀ (d : Dev) (m : Fin 32), d.startBad m = false →
    d.get (R.STIR_WRAP_BOTTOM (m / 8) (m % 8)) ≤ d.get (R.STIR_WRAP_TOP (m / 8) (m % 8)) ∧
    d.get (R.STIR_MSHIFT_SAMPLE (m / 8) (m % 8)) ≤ d.get (R.STIR_MSHIFT_DIV_M1 (m / 8) (m % 8)) ∧
    ∀ l < 4, 1 ≤ (d.lane m l).2 ∧ (d.lane m l).1 + (d.lane m l).2 ≤ 24) ∧
  (∀ (w : Writer) (m : Fin 32) (v : W32) (s : State), Grants s w (R.STIR_TXDATA (m / 8) (m % 8)) → (s.dev.mach m).tx.length < 8 →
    ∃ t, exec (.stirTxdata w m v) s = .next t ∧ t.dev.mach m = { s.dev.mach m with tx := (s.dev.mach m).tx ++ [v.toNat] } ∧
      t.dev.get (R.STIR_TX_LEVEL (m / 8) (m % 8)) = (s.dev.mach m).tx.length + 1 ∧ KeepsRegs (machRegs m) s t) ∧
  (∀ (w : Writer) (m : Fin 32) (v : W32) (s : State), Grants s w (R.STIR_TXDATA (m / 8) (m % 8)) → 8 ≤ (s.dev.mach m).tx.length →
    ∃ t, exec (.stirTxdata w m v) s = .next t ∧ t.dev.mach m = s.dev.mach m ∧ t.dev.get (R.STIR_MSTATUS_WR_DROP (m / 8) (m % 8)) = 1 ∧
      OnlyRegsEv [R.STIR_MSTATUS_WR_DROP (m / 8) (m % 8)] s t) ∧
  (∀ (w : Writer) (m : Fin 32) (s : State), s.dev.mayRead w = true →
    ∃ t, exec (.stirRxdata w m) s = .next t ∧
      (∀ v r, (s.dev.mach m).rx = v :: r → t.dev.rdata.head? = some (BitVec.ofNat 32 v) ∧ (t.dev.mach m).rx = r ∧ (t.dev.mach m).lastRx = v) ∧
      ((s.dev.mach m).rx = [] → t.dev.rdata.head? = some (BitVec.ofNat 32 (s.dev.mach m).lastRx) ∧ t.dev.mach m = s.dev.mach m)) ∧
  (∀ (w : Writer) (b : Fin 4) (k : Fin 64) (v : W32) (s : State), Grants s w (R.STIR_PROG b k) → v.toNat < 2 ^ 16 →
    ∃ t, exec (.stirProg w b k v) s = .next t ∧ t.dev.get (R.STIR_PROG b k) = v.toNat ∧
      (s.dev.get (R.STIR_BLK_STATUS_ENABLED b) ≠ 0 → t.dev.get (R.STIR_BLK_STATUS_PROG_WHILE_RUN b) = 1) ∧
      (s.dev.get (R.STIR_BLK_STATUS_ENABLED b) = 0 → OnlyRegs [R.STIR_PROG b k] s t)) ∧
  (∀ (m : Fin 32) (arg : Fin 32) (s : State), (s.dev.mach m).state = 3 →
    ((s.dev.mach m).held = some (.wait 0 arg) → ∃ t, exec (.stirrupWaitDone m []) s = .next t ∧ (t.dev.mach m).state = 1 ∧
      (t.dev.mach m).pc = machPc s m ∧ t.mem = s.mem) ∧
    ((s.dev.mach m).held = some (.wait 3 arg) → s.dev.gaitEdges (arg % 4) ≠ (s.dev.mach m).waitFrom →
      ∃ t, exec (.stirrupWaitDone m []) s = .next t ∧ (t.dev.mach m).state = 1 ∧ (t.dev.mach m).pc = machPc s m ∧ KeepsRegs (machRegs m) s t) ∧
    ((s.dev.mach m).held = some (.wait 3 arg) → s.dev.gaitEdges (arg % 4) = (s.dev.mach m).waitFrom → exec (.stirrupWaitDone m []) s = .next s)) ∧
  (∀ (m : Fin 32) (arg : Fin 32) (mode : Fin 4) (lv : BitVec 96) (s : State), (s.dev.mach m).state = 3 → (mode = 1 ∨ mode = 2) →
    (s.dev.mach m).held = some (.wait mode arg) →
    ∃ t, exec (.stirrupWaitDone m [lv]) s = .next t ∧ ((s.dev.withPins lv).blockPin m arg = decide (mode = 1) →
        (t.dev.mach m).state = 1 ∧ (t.dev.mach m).pc = machPc s m) ∧
      ((s.dev.withPins lv).blockPin m arg ≠ decide (mode = 1) → t.dev.mach m = s.dev.mach m)) ∧
  (∀ (m : Fin 32) (lane : Fin 4) (v : Byte) (s : State), (s.dev.mach m).state = 3 → (s.dev.mach m).held = some (.drive true lane v) →
    ∃ t, exec (.atAction m []) s = .next t ∧ (t.dev.mach m).state = 1 ∧ (t.dev.mach m).pc = machPc s m ∧
      ∀ o < min (s.dev.lane m lane).2 8, (t.dev.mach m).drv.testBit ((s.dev.lane m lane).1 + o) = v.getLsbD o) ∧
  (∀ (m : Fin 32) (lv : List (BitVec 96)) (s : State), (s.dev.mach m).state ≠ 3 →
    exec (.stirrupWaitDone m lv) s = .next s ∧ exec (.atAction m lv) s = .next s) ∧
  (∀ (m : Fin 32) (imm : Fin 512) (v : Nat) (r : List Nat) (s : State), (s.dev.mach m).state = 2 → (s.dev.mach m).held = some (.time 1 imm) →
    (s.dev.mach m).tx = v :: r →
    ∃ t, exec (.stallResume m) s = .next t ∧ (t.dev.mach m).state = 1 ∧ (t.dev.mach m).t = v ∧ (t.dev.mach m).tx = r ∧
      (t.dev.mach m).pc = machPc s m ∧ KeepsRegs (machRegs m) s t) ∧
  (∀ (m : Fin 32) (s : State), ((s.dev.mach m).state ≠ 2 ∨ (s.dev.mach m).tx = []) → exec (.stallResume m) s = .next s)

/-- A write of PN_WR when the writer is not PN_WR sets WR_REJ and stores nothing. An 8-bit item that is accepted enters the assembly word, the fifth
byte pushes it; an item at 126 entries or more opens a gap run, with a marker and GAP. A boundary pushes the bytes held with END. The reading agent
pops the head entry; of an empty Punnet it gets UNDERRUN; another agent gets 0 and RD_REJ. FLUSH with nothing begun empties at once, else it waits for
the boundary. A write of PN_CFG empties the Punnet. A resync that completes moves the read pointer past the newest END and sets RESYNCED. -/
def Obligations.Punnets : Prop :=
  (∀ (w : Writer) (n : Fin 64) (v : W32) (s : State), Grants s w (R.PN_STATUS_WR_REJ n) → v.toNat < 2 ^ 18 → s.dev.get (R.PN_CFG_SRC_KIND n) ≠ 0 →
    ∃ t, exec (.pnWr w n v) s = .next t ∧ t.dev.get (R.PN_STATUS_WR_REJ n) = 1 ∧ OnlyRegsEv [R.PN_STATUS_WR_REJ n] s t) ∧
  (∀ (w : Writer) (n : Fin 64) (v : W32) (s : State), Grants s w (R.PN_STATUS_WR_REJ n) → v.toNat < 2 ^ 16 → s.dev.get (R.PN_CFG_SRC_KIND n) = 0 →
    (s.dev.pn n).q.length ≤ 125 → s.dev.on (R.PN_CFG_W16 n) = false →
    ((s.dev.pn n).fill < 4 → ∃ t, exec (.pnWr w n v) s = .next t ∧ (t.dev.pn n).q = (s.dev.pn n).q ∧ (t.dev.pn n).fill = (s.dev.pn n).fill + 1 ∧
      (t.dev.pn n).asm = (s.dev.pn n).asm + v.toNat % 256 * 256 ^ (s.dev.pn n).fill ∧ KeepsRegs [R.PN_STATUS_FILL n] s t) ∧
    ((s.dev.pn n).fill = 4 → ∃ t, exec (.pnWr w n v) s = .next t ∧ (t.dev.pn n).fill = 0 ∧ (t.dev.pn n).asm = 0 ∧
      (t.dev.pn n).q = (s.dev.pn n).q ++ [{ data := (s.dev.pn n).asm + v.toNat % 256 * 256 ^ 4, valid := 5 }] ∧
      t.dev.get (R.PN_STATUS_FILL n) = (s.dev.pn n).q.length + 1 ∧ t.mem = s.mem)) ∧
  (∀ (w : Writer) (n : Fin 64) (v : W32) (s : State), Grants s w (R.PN_STATUS_WR_REJ n) → v.toNat < 2 ^ 16 → s.dev.get (R.PN_CFG_SRC_KIND n) = 0 →
    125 < (s.dev.pn n).q.length → (s.dev.pn n).run = false → (s.dev.pn n).fill = 0 →
    ∃ t, exec (.pnWr w n v) s = .next t ∧ (t.dev.pn n).run = true ∧ (t.dev.pn n).q = (s.dev.pn n).q ++ [{ data := 1, gap := true }] ∧
      t.dev.get (R.PN_STATUS_GAP n) = 1) ∧
  (∀ (w : Writer) (n : Fin 64) (v : W32) (s : State), Grants s w (R.PN_STATUS_WR_REJ n) → v.toNat / 2 ^ 16 = 3 → s.dev.get (R.PN_CFG_SRC_KIND n) = 0 →
    s.dev.on (R.PN_CTRL_FLUSH n) = false → (s.dev.pn n).run = false → (s.dev.pn n).fill ≠ 0 →
    ∃ t, exec (.pnWr w n v) s = .next t ∧ t.dev.get (R.PN_STATUS_PKT n) = 1 ∧ (t.dev.pn n).fill = 0 ∧
      (t.dev.pn n).q = (s.dev.pn n).q ++ [{ data := (s.dev.pn n).asm, valid := (s.dev.pn n).fill, last := true }]) ∧
  (∀ (d : Dev) (n v : Nat), (d.pn n).run = true → 125 < (d.pn n).q.length →
    ((d.pnItem n v).pn n).q.length = (d.pn n).q.length ∧ ((d.pnItem n v).pn n).fill = (d.pn n).fill) ∧
  (∀ (w : Writer) (n : Fin 64) (e : PnEntry) (q : List PnEntry) (s : State), s.dev.mayRead w = true → agentOf w = s.dev.get (R.PN_CFG_RD_AGENT n) →
    (s.dev.pn n).resync = [] → (s.dev.pn n).q = e :: q →
    ∃ t, exec (.pnRd w n 8) s = .next t ∧ (t.dev.pn n).q = q ∧ t.dev.get (R.PN_STATUS_FILL n) = q.length % 2 ^ 8 ∧ t.mem = s.mem ∧
      t.dev.rdata = [BitVec.ofNat 32 (pnValue e false), BitVec.ofNat 32 (pnValue e false / 2 ^ 32)]) ∧
  (∀ (w : Writer) (n : Fin 64) (s : State), s.dev.mayRead w = true → agentOf w = s.dev.get (R.PN_CFG_RD_AGENT n) → (s.dev.pn n).q = [] →
    ∃ t, exec (.pnRd w n 8) s = .next t ∧ t.dev.get (R.PN_STATUS_UNDERRUN n) = 1 ∧ t.dev.pn n = s.dev.pn n ∧
      t.dev.rdata = [BitVec.ofNat 32 (pnValue ((s.dev.pn n).lastRead.getD {}) true),
        BitVec.ofNat 32 (pnValue ((s.dev.pn n).lastRead.getD {}) true / 2 ^ 32)]) ∧
  (∀ (w : Writer) (n : Fin 64) (s : State), s.dev.mayRead w = true → agentOf w ≠ s.dev.get (R.PN_CFG_RD_AGENT n) →
    ∃ t, exec (.pnRd w n 8) s = .next t ∧ t.dev.get (R.PN_STATUS_RD_REJ n) = 1 ∧ t.dev.pn n = s.dev.pn n ∧ t.dev.rdata = [0, 0]) ∧
  (∀ (w : Writer) (n : Fin 64) (s : State), Grants s w (R.PN_CTRL_FLUSH n) →
    ((s.dev.pn n).fill = 0 → (s.dev.pn n).items = false → ∃ t, exec (.pnFlush w n) s = .next t ∧ (t.dev.pn n).q = [] ∧ (t.dev.pn n).run = false ∧
      t.dev.get (R.PN_CTRL_FLUSH n) = 0 ∧ t.dev.get (R.PN_STATUS_FILL n) = 0 ∧ KeepsRegs [R.PN_CTRL_FLUSH n, R.PN_STATUS_FILL n] s t) ∧
    ((s.dev.pn n).fill ≠ 0 ∨ (s.dev.pn n).items = true → ∃ t, exec (.pnFlush w n) s = .next t ∧ t.dev.get (R.PN_CTRL_FLUSH n) = 1 ∧
      OnlyRegs [R.PN_CTRL_FLUSH n] s t)) ∧
  (∀ (d : Dev) (n : Nat), d.on (R.PN_CTRL_FLUSH n) = true → ((d.pnBoundary n).pn n).q = [] ∧ ((d.pnBoundary n).pn n).fill = 0 ∧
    (d.pnBoundary n).get (R.PN_CTRL_FLUSH n) = 0) ∧
  (∀ (w : Writer) (n : Fin 64) (v : W32) (s : State), Grants s w (R.PN_CFG_SRC_KIND n) →
    ∃ t, exec (.pnCfgWrite w n v) s = .next t ∧ (t.dev.pn n).q = [] ∧ (t.dev.pn n).fill = 0 ∧ (t.dev.pn n).run = false ∧ t.mem = s.mem) ∧
  (∀ (n : Fin 64) (s : State), (s.dev.pn n).resync = [0] →
    ∃ t, exec (.resyncDone n) s = .next t ∧ t.dev.get (R.PN_STATUS_RESYNCED n) = 1 ∧ (t.dev.pn n).resync = [] ∧
      (t.dev.pn n).q = afterLastEnd (s.dev.pn n).q ∧ t.mem = s.mem) ∧
  (∀ (n : Fin 64) (s : State), (s.dev.pn n).resync = [1] → (s.dev.pn n).q.length < 128 →
    ∃ t, exec (.resyncDone n) s = .next t ∧ t.dev.get (R.PN_STATUS_RESYNCED n) = 1 ∧ (t.dev.pn n).fill = 0 ∧ (t.dev.pn n).asm = 0 ∧
      (t.dev.pn n).q = (if (s.dev.pn n).fill = 0 then (s.dev.pn n).q else (s.dev.pn n).q ++ [{ gap := true }])) ∧
  (∀ (n : Fin 64) (s : State), (s.dev.pn n).resync = [] → exec (.resyncDone n) s = .next s) ∧
  (∀ q : List PnEntry, (∀ e ∈ afterLastEnd q, e.last = false) ∧ ∃ r, q = r ++ afterLastEnd q)

/-- EN is written as given; clearing it ends a receive frame without a record (log entry 17). A byte written enters the FIFO; a write to a full one is
dropped with TX_OVF, and after an underrun bytes are dropped up to the END byte. With EN set, no frame on the line and an eligible frame that carries
no AT, the start raises DE and TX_BUSY; without eligibility, without EN, or while a frame is on the line nothing happens. The end of a frame that has
its END byte lowers DE, is counted and sets TX_DONE. A FIFO that runs empty before END ends the frame, sets TX_UNDERRUN and discards what follows.
FLUSH_TX empties the FIFO. CLR_CNT clears the seven counters. -/
def Obligations.SerialTransmit : Prop :=
  (∀ (w : Writer) (n : Fin 12) (s : State), Grants s w (R.SER_CTRL_EN n) →
    ∃ t, exec (.serEnable w n true) s = .next t ∧ t.dev.get (R.SER_CTRL_EN n) = 1 ∧ OnlyRegs [R.SER_CTRL_EN n] s t) ∧
  (∀ (w : Writer) (n : Fin 12) (s : State), Grants s w (R.SER_CTRL_EN n) →
    ∃ t, exec (.serEnable w n false) s = .next t ∧ t.dev.get (R.SER_CTRL_EN n) = 0 ∧ t.dev.get (R.SER_STATUS_RX_BUSY n) = 0 ∧
      (t.dev.serSt n).rx = [] ∧ (t.dev.serSt n).stats = (s.dev.serSt n).stats ∧ (t.dev.serSt n).tx = (s.dev.serSt n).tx ∧
      KeepsRegs [R.SER_CTRL_EN n, R.SER_STATUS_RX_BUSY n, R.SER_STATUS_TX_LEVEL n, R.SER_STATUS_RXSTAT_LEVEL n] s t) ∧
  (∀ (w : Writer) (n : Fin 12) (v : W32) (s : State), Grants s w (R.SER_TXDATA_DATA n) → v.toNat < 2 ^ 10 → s.dev.on (R.SER_STATUS_TX_BUSY n) = false →
    (s.dev.serSt n).discard = false → (s.dev.serSt n).tx.length < 256 →
    ∃ t, exec (.serTxdata w n v) s = .next t ∧ t.dev.get (R.SER_STATUS_TX_LEVEL n) = (s.dev.serSt n).tx.length + 1 ∧ t.mem = s.mem ∧
      (t.dev.serSt n).tx = (s.dev.serSt n).tx ++ [{ data := v.truncate 8, last := v.getLsbD 8, timed := v.getLsbD 8 && v.getLsbD 9 }]) ∧
  (∀ (w : Writer) (n : Fin 12) (v : W32) (s : State), Grants s w (R.SER_TXDATA_DATA n) → v.toNat < 2 ^ 10 → s.dev.on (R.SER_STATUS_TX_BUSY n) = false →
    (s.dev.serSt n).discard = false → (s.dev.serSt n).tx.length = 256 →
    ∃ t, exec (.serTxdata w n v) s = .next t ∧ t.dev.get (R.SER_EVT_TX_OVF n) = 1 ∧ t.dev.ser = s.dev.ser ∧ OnlyRegsEv [R.SER_EVT_TX_OVF n] s t) ∧
  (∀ (w : Writer) (n : Fin 12) (v : W32) (s : State), Grants s w (R.SER_TXDATA_DATA n) → v.toNat < 2 ^ 10 → s.dev.on (R.SER_STATUS_TX_BUSY n) = false →
    (s.dev.serSt n).discard = true →
    ∃ t, exec (.serTxdata w n v) s = .next t ∧ (t.dev.serSt n).tx = (s.dev.serSt n).tx ∧ (t.dev.serSt n).discard = !v.getLsbD 8 ∧ t.mem = s.mem) ∧
  (∀ (n : Fin 12) (s : State), s.dev.on (R.SER_CTRL_EN n) = true → s.dev.on (R.SER_STATUS_TX_BUSY n) = false → s.dev.serEligible n = true →
    (uptoLast (s.dev.serSt n).tx).any (fun b => b.timed) = false →
    ∃ t, exec (.serTxStart n) s = .next t ∧ t.dev.get (R.SER_STATUS_DE n) = 1 ∧ t.dev.get (R.SER_STATUS_TX_BUSY n) = 1 ∧
      t.dev.out = s.dev.out ++ [.de n.val true] ∧ t.dev.now = s.dev.now ∧ (t.dev.serSt n).tx = (s.dev.serSt n).tx ∧
      (t.dev.serSt n).start = s.dev.now + s.dev.get (R.SER_DE_LEAD n) * 10 ∧ (t.dev.serSt n).lag = s.dev.get (R.SER_DE_LAG n) ∧ t.mem = s.mem) ∧
  (∀ (n : Fin 12) (s : State), s.dev.on (R.SER_CTRL_EN n) = true → s.dev.on (R.SER_STATUS_TX_BUSY n) = false → s.dev.serEligible n = true →
    (uptoLast (s.dev.serSt n).tx).any (fun b => b.timed) = true →
    ∃ t, exec (.serTxStart n) s = .next t ∧ t.dev.get (R.SER_STATUS_DE n) = 1 ∧ t.dev.get (R.SER_STATUS_TX_BUSY n) = 1) ∧
  (∀ (n : Fin 12) (s : State), (s.dev.on (R.SER_CTRL_EN n) = false ∨ s.dev.on (R.SER_STATUS_TX_BUSY n) = true ∨ s.dev.serEligible n = false) →
    exec (.serTxStart n) s = .next s) ∧
  (∀ (n : Fin 12) (s : State), s.dev.on (R.SER_STATUS_TX_BUSY n) = true → (s.dev.serSt n).flushed = false →
    hasLast (s.dev.serSt n).sent = false → hasLast (s.dev.serSt n).tx = true →
    ∃ t, exec (.serTxEnd n) s = .next t ∧ t.dev.get (R.SER_STATUS_DE n) = 0 ∧ t.dev.get (R.SER_STATUS_TX_BUSY n) = 0 ∧
      t.dev.get (R.SER_EVT_TX_DONE n) = 1 ∧ t.dev.get (R.SER_CNT_TX_FRAMES n) = (s.dev.get (R.SER_CNT_TX_FRAMES n) + 1) % 2 ^ 32 ∧
      (t.dev.serSt n).tx = (s.dev.serSt n).tx.drop (uptoLast (s.dev.serSt n).tx).length ∧ t.mem = s.mem) ∧
  (∀ (n : Fin 12) (s : State), s.dev.on (R.SER_STATUS_TX_BUSY n) = false → exec (.serTxEnd n) s = .next s ∧ exec (.txUnderrun n) s = .next s) ∧
  (∀ (n : Fin 12) (s : State), s.dev.on (R.SER_STATUS_TX_BUSY n) = true → (s.dev.serSt n).flushed = false →
    hasLast (s.dev.serSt n).sent = false → hasLast (s.dev.serSt n).tx = false →
    ∃ t, exec (.txUnderrun n) s = .next t ∧ t.dev.get (R.SER_STATUS_DE n) = 0 ∧ t.dev.get (R.SER_STATUS_TX_BUSY n) = 0 ∧
      t.dev.get (R.SER_EVT_TX_UNDERRUN n) = 1 ∧ t.dev.get (R.SER_CNT_TX_UNDERRUN n) = (s.dev.get (R.SER_CNT_TX_UNDERRUN n) + 1) % 2 ^ 32 ∧
      (t.dev.serSt n).tx = [] ∧ (t.dev.serSt n).discard = true ∧ t.mem = s.mem) ∧
  (∀ (w : Writer) (n : Fin 12) (s : State), Grants s w (R.SER_CTRL_EN n) →
    ∃ t, exec (.flushTx w n) s = .next t ∧ (t.dev.serSt n).tx = [] ∧ t.dev.get (R.SER_STATUS_TX_LEVEL n) = 0 ∧
      KeepsRegs [R.SER_STATUS_TX_LEVEL n, R.SER_STATUS_RXSTAT_LEVEL n] s t) ∧
  (∀ (w : Writer) (n : Fin 12) (s : State), Grants s w (R.SER_CTRL_EN n) →
    ∃ t, exec (.serClrCnt w n) s = .next t ∧ t.dev.get (R.SER_CNT_RX_FRAMES n) = 0 ∧ t.dev.get (R.SER_CNT_TX_FRAMES n) = 0 ∧
      t.dev.get (R.SER_CNT_RX_ERR_FRAMES n) = 0 ∧ t.dev.get (R.SER_CNT_RX_CHAR_ERR n) = 0 ∧ t.dev.get (R.SER_CNT_TX_UNDERRUN n) = 0 ∧
      t.dev.get (R.SER_CNT_RXSTAT_LOST n) = 0 ∧ t.dev.get (R.SER_CNT_ECHO_ERR n) = 0 ∧
      OnlyRegs [R.SER_CNT_RX_FRAMES n, R.SER_CNT_TX_FRAMES n, R.SER_CNT_RX_ERR_FRAMES n, R.SER_CNT_RX_CHAR_ERR n, R.SER_CNT_TX_UNDERRUN n,
        R.SER_CNT_RXSTAT_LOST n, R.SER_CNT_ECHO_ERR n] s t)

/-- A disabled channel or receiver takes no character; while DE is up none is taken unless ECHO is set. The first character begins a frame, its time
and GAP_ERR kept; more idle time than GAP_END before a character has ended the frame before; each byte goes on to the channel's Punnet and is kept for the frame's length and check; a break writes no byte and sets the frame's BREAK. The
end of a frame clears RX_BUSY, counts the frame and sets RX_FRAME, and pushes a record of its flags, its length and its time; a frame with a flag is
counted as in error; a full record FIFO loses the newest record and counts it. A read of SER_RXSTAT gives the head record and takes it
away; an empty FIFO gives zeros. -/
def Obligations.SerialReceive : Prop :=
  (∀ (n : Fin 12) (b : Byte) (pe fe : Bool) (gap : Nat) (ago : Fin 0x1000000) (s : State), (s.dev.on (R.SER_CTRL_EN n) = false ∨
      s.dev.on (R.SER_RX_CFG_RX_EN n) = false ∨ s.dev.on (R.SER_STATUS_DE n) = true ∧ s.dev.on (R.SER_CTRL_ECHO n) = false) →
    (s.dev.on (R.SER_STATUS_RX_BUSY n) = false ∨ s.dev.on (R.SER_STATUS_DE n) = true ∨ gap ≤ s.dev.get (R.SER_GAP_END n) * 10) →
    exec (.serCharReceive n b pe fe gap ago) s = .next s) ∧
  (∀ (n : Fin 12) (b : Byte) (gap : Nat) (ago : Fin 0x1000000) (s : State), s.dev.on (R.SER_CTRL_EN n) = true →
    s.dev.on (R.SER_RX_CFG_RX_EN n) = true → s.dev.on (R.SER_STATUS_DE n) = false → s.dev.on (R.SER_STATUS_RX_BUSY n) = false →
    ∃ t, exec (.serCharReceive n b false false gap ago) s = .next t ∧ t.dev.get (R.SER_STATUS_RX_BUSY n) = 1 ∧ (t.dev.serSt n).rx = [b] ∧
      (t.dev.serSt n).gapErr = s.dev.get (R.SER_GAP_ERR n) ∧ (t.dev.serSt n).ts = s.dev.agoNs (s.dev.get (R.SER_RX_CFG_TB n)) ago) ∧
  (∀ (n : Fin 12) (b : Byte) (pe fe : Bool) (gap : Nat) (ago : Fin 0x1000000) (s : State), s.dev.on (R.SER_CTRL_EN n) = true →
    s.dev.on (R.SER_RX_CFG_RX_EN n) = true → s.dev.on (R.SER_STATUS_DE n) = false → s.dev.on (R.SER_STATUS_RX_BUSY n) = true → b ≠ 0 →
    gap ≤ s.dev.get (R.SER_GAP_END n) * 10 →
    ∃ t, exec (.serCharReceive n b pe fe gap ago) s = .next t ∧ (t.dev.serSt n).rx = (s.dev.serSt n).rx ++ [b] ∧
      (t.dev.serSt n).ts = (s.dev.serSt n).ts ∧
      t.dev.get (R.SER_CNT_RX_CHAR_ERR n) = (if pe || fe then (s.dev.get (R.SER_CNT_RX_CHAR_ERR n) + 1) % 2 ^ 32 else s.dev.get (R.SER_CNT_RX_CHAR_ERR n)) ∧
      (pe = true → (t.dev.serSt n).flags.testBit 29 = true) ∧ (fe = true → (t.dev.serSt n).flags.testBit 28 = true) ∧
      ((s.dev.serSt n).gapErr ≠ 0 → (s.dev.serSt n).gapErr * 10 < gap → (t.dev.serSt n).flags.testBit 30 = true)) ∧
  (∀ (n : Fin 12) (gap : Nat) (ago : Fin 0x1000000) (s : State), s.dev.on (R.SER_CTRL_EN n) = true →
    s.dev.on (R.SER_RX_CFG_RX_EN n) = true → s.dev.on (R.SER_STATUS_DE n) = false → s.dev.get (R.SER_CTRL_PARITY n) = 0 →
    s.dev.get (R.SER_CTRL_MODE n) ≠ 1 → s.dev.on (R.SER_STATUS_RX_BUSY n) = true → gap ≤ s.dev.get (R.SER_GAP_END n) * 10 →
    ∃ t, exec (.serCharReceive n 0 false true gap ago) s = .next t ∧ (t.dev.serSt n).flags.testBit 27 = true ∧
      (t.dev.serSt n).rx = (s.dev.serSt n).rx ∧ (∀ k, t.dev.pn k = s.dev.pn k) ∧ t.mem = s.mem) ∧
  (∀ (n : Fin 12) (b : Byte) (pe fe : Bool) (gap : Nat) (ago : Fin 0x1000000) (s : State), s.dev.on (R.SER_STATUS_DE n) = false →
    s.dev.get (R.SER_GAP_END n) * 10 < gap →
    ∃ t u, exec (.serFrameEnd n) s = .next u ∧ exec (.serCharReceive n b pe fe 0 ago) u = .next t ∧ exec (.serCharReceive n b pe fe gap ago) s = .next t) ∧
  (∀ (n : Fin 12) (fl : Nat) (s : State), s.dev.on (R.SER_STATUS_RX_BUSY n) = true → (s.dev.serSt n).stats.length < 16 →
    fl = (s.dev.serSt n).flags ||| (if s.dev.get (R.SER_CTRL_MODE n) = 2 ∧ modbusBad (s.dev.serSt n).rx = true then 2 ^ 26 else 0) →
    ∃ t, exec (.serFrameEnd n) s = .next t ∧ t.dev.get (R.SER_STATUS_RX_BUSY n) = 0 ∧ t.dev.get (R.SER_EVT_RX_FRAME n) = 1 ∧
      t.dev.get (R.SER_CNT_RX_FRAMES n) = (s.dev.get (R.SER_CNT_RX_FRAMES n) + 1) % 2 ^ 32 ∧ (t.dev.serSt n).rx = [] ∧
      (t.dev.serSt n).stats = (s.dev.serSt n).stats ++
        [{ word := 2 ^ 31 + fl + min 65535 (s.dev.serSt n).rx.length, ts := (s.dev.serSt n).ts }] ∧
      (fl = 0 → t.dev.get (R.SER_CNT_RX_ERR_FRAMES n) = s.dev.get (R.SER_CNT_RX_ERR_FRAMES n)) ∧
      (fl ≠ 0 → t.dev.get (R.SER_EVT_RX_ERR n) = 1 ∧
        t.dev.get (R.SER_CNT_RX_ERR_FRAMES n) = (s.dev.get (R.SER_CNT_RX_ERR_FRAMES n) + 1) % 2 ^ 32)) ∧
  (∀ (n : Fin 12) (s : State), s.dev.on (R.SER_STATUS_RX_BUSY n) = true → 16 ≤ (s.dev.serSt n).stats.length →
    ∃ t, exec (.serFrameEnd n) s = .next t ∧ (t.dev.serSt n).stats = (s.dev.serSt n).stats ∧ t.dev.get (R.SER_EVT_RXSTAT_LOST n) = 1 ∧
      t.dev.get (R.SER_CNT_RXSTAT_LOST n) = (s.dev.get (R.SER_CNT_RXSTAT_LOST n) + 1) % 2 ^ 32) ∧
  (∀ (n : Fin 12) (s : State), s.dev.on (R.SER_STATUS_RX_BUSY n) = false → exec (.serFrameEnd n) s = .next s) ∧
  (∀ (w : Writer) (n : Fin 12) (x : SerStat) (rest : List SerStat) (s : State), s.dev.mayRead w = true →
    (s.dev.serSt n).stats = x :: rest →
    ∃ t, exec (.serRxstatPop w n) s = .next t ∧ t.dev.rdata.head? = some (BitVec.ofNat 32 x.word) ∧ (t.dev.serSt n).stats = rest ∧
      (t.dev.serSt n).lastTs = x.ts) ∧
  (∀ (w : Writer) (n : Fin 12) (s : State), s.dev.mayRead w = true → (s.dev.serSt n).stats = [] →
    ∃ t, exec (.serRxstatPop w n) s = .next t ∧ t.dev.rdata.head? = some 0 ∧ t.dev.ser = s.dev.ser)

/-- A PCIe reset masks every vector and drops the port's read shadows, ownership stays. The quad-SPI target answers when its port is not DISABLED
and the device is not held in reset: a READ gives a word for each word asked, all ones from the first one that is not ready, which sets RETRY; a
WRITE writes its words in order; STATUS gives RETRY and ERROR and clears them; RESET clears them and the port's shadows. The expiry of the keep-alive
leaves the device without an owner, raises LAPSED and CHANGED. A round does nothing while CORE is off. -/
def Obligations.HostPorts : Prop :=
  (∀ s : State, ∃ t, exec .pcieReset s = .next t ∧ t.mem = s.mem ∧ (∀ v < 16, t.dev.get (R.MSIX_CTRL_MASK v) = 1) ∧
      t.dev.get R.OWN_STATUS_OWNED = s.dev.get R.OWN_STATUS_OWNED ∧ t.dev.get R.OWN_STATUS_PORT = s.dev.get R.OWN_STATUS_PORT ∧
      ∀ e ∈ t.dev.shadows, e ∈ s.dev.shadows ∧ e.1 / 2 ^ 20 ≠ 0) ∧
  (∀ (addr : W32) (n ready : Nat) (words : List W32) (s : State), s.dev.qspiOn = false →
    exec (.qspiRead addr n ready) s = .next s ∧ exec (.qspiWrite addr words) s = .next s ∧ exec .qspiStatus s = .next s) ∧
  (∀ (addr : W32) (n ready : Nat) (s : State), s.dev.qspiOn = true → s.dev.pwr.asleep = false → s.dev.qspiReaches addr.toNat = true → ready = 0 →
    ∃ t, exec (.qspiRead addr n ready) s = .next t ∧ t.dev.rdata = List.replicate n 0xFFFFFFFF ∧ t.dev.host.qRetry = (s.dev.host.qRetry || n != 0) ∧
      t.mem = s.mem ∧ t.dev.regs = s.dev.regs) ∧
  (∀ (addr : W32) (n ready : Nat) (s : State), s.dev.qspiOn = true → s.dev.pwr.asleep = false → n ≤ ready →
    ∃ t, exec (.qspiRead addr n ready) s = .next t ∧ t.dev.rdata.length = n ∧ t.dev.out.getLast? = some (.qspi t.dev.rdata)) ∧
  (∀ (addr v : W32) (s : State), s.dev.qspiOn = true → s.dev.pwr.asleep = false → s.dev.coreOn = true → s.dev.get R.BRIDLE_STATUS_STATE = 1 →
    addr.toNat < 2 ^ 20 → addr.toNat % 4 = 0 → s.dev.mayWrite .qspi addr.toNat = true →
    exec (.qspiWrite addr [v]) s = .next (s.regWrite .qspi addr.toNat 4 v.toNat)) ∧
  (∀ (addr : W32) (v : W32) (l : List W32) (s : State), s.dev.qspiOn = true → s.dev.pwr.asleep = false → addr.toNat + 4 < 2 ^ 32 →
    exec (.qspiWrite addr (v :: l)) s = .next ((s.qspiPut addr.toNat v.toNat).qspiWrite (addr.toNat + 4) (l.map BitVec.toNat))) ∧
  (∀ s : State, s.dev.qspiOn = true → s.dev.pwr.asleep = false →
    ∃ t, exec .qspiStatus s = .next t ∧ t.dev.host.qRetry = false ∧ t.dev.host.qError = false ∧ t.dev.regs = s.dev.regs ∧ t.mem = s.mem ∧
      t.dev.rdata = [BitVec.ofNat 32 (2 * s.dev.host.qRetry.toNat + 4 * s.dev.host.qError.toNat)]) ∧
  (∀ s : State, s.dev.isHeld = false → s.dev.pwr.asleep = false →
    ∃ t, exec .qspiReset s = .next t ∧ t.dev.host.qRetry = false ∧ t.dev.host.qError = false ∧ t.mem = s.mem ∧
      t.dev.get R.OWN_STATUS_OWNED = s.dev.get R.OWN_STATUS_OWNED ∧ ∀ e ∈ t.dev.shadows, e ∈ s.dev.shadows ∧ e.1 / 2 ^ 20 ≠ 1) ∧
  (∀ s : State, s.dev.isHeld = true → exec .qspiReset s = .next s) ∧
  (∀ s : State, s.dev.owner ≠ none →
    ∃ t, exec .keepAliveExpiry s = .next t ∧ t.dev.owner = none ∧ t.dev.get R.OWN_EVT_LAPSED = 1 ∧ t.dev.get R.OWN_EVT_CHANGED = 1 ∧ t.mem = s.mem ∧
      t.dev.get R.OWN_STATUS_CHANGES = (s.dev.get R.OWN_STATUS_CHANGES + 1) % 2 ^ R.OWN_STATUS_CHANGES.width) ∧
  (∀ s : State, s.dev.owner = none → exec .keepAliveExpiry s = .next s) ∧
  (∀ s : State, s.dev.coreOn = false → exec .bridleRound s = .next s) ∧
  (∀ s : State, s.dev.coreOn = true → s.dev.get R.BRIDLE_STATUS_STATE = 1 →
    exec .bridleRound s = .next ((((((s.swapIfFree.mbServe 0).mbServe 1).mgmtServe.heldServe).serve serveFuel).mbPump 0).mbPump 1))

/-- A write of MB_POST by the sender while nothing is posted takes LEN and MORE, and with GO posts: POSTED 1, ACKED 0, the time noted, and CROSSED in
both directions when the other direction is posted. While a message is posted, or by the wrong side, it sets WR_REJ. The receiver's MB_ACK of a posted
message clears POSTED, sets ACKED and the code; of nothing it sets LATE_ACK; an orphan's code is only counted. WITHDRAW takes a posted message back.
A timeout sets TIMEOUT and the message stays posted. -/
def Obligations.Mailboxes : Prop :=
  (∀ (w : Writer) (n : Fin 16) (d : Fin 2) (v : W32) (s : State), Grants s w (R.MB_POST_GO n d) → s.dev.mbSide w n = some (decide (d = 0)) →
    s.dev.on (R.MB_STATUS_POSTED n d) = false → v.toNat % 2 ^ 16 ≤ 256 → v.toNat % 2 ^ 16 ≠ 0 → v.toNat / 2 ^ 17 = 0 →
    ∃ t, exec (.mbPost w n d v) s = .next t ∧ t.dev.get (R.MB_POST_LEN n d) = v.toNat % 2 ^ 16 ∧
      t.dev.get (R.MB_POST_MORE n d) = v.toNat / 2 ^ 16 ∧ OnlyRegs [R.MB_POST_LEN n d, R.MB_POST_MORE n d] s t) ∧
  (∀ (w : Writer) (n : Fin 16) (d : Fin 2) (v : W32) (s : State), Grants s w (R.MB_POST_GO n d) → s.dev.mbSide w n = some (decide (d = 0)) →
    s.dev.on (R.MB_STATUS_POSTED n d) = false → v.toNat % 2 ^ 16 ≤ 256 → v.toNat % 2 ^ 16 ≠ 0 → v.toNat / 2 ^ 17 = 2 ^ 14 →
    (d = 0 → s.dev.on (R.MB_CFG_BRIDLE n) = true ∨ s.dev.domain (3 + s.dev.get (R.MB_CFG_ENGINE n) / 12) ≠ 3) →
    ∃ t, exec (.mbPost w n d v) s = .next t ∧ t.dev.get (R.MB_POST_LEN n d) = v.toNat % 2 ^ 16 ∧ t.dev.get (R.MB_STATUS_POSTED n d) = 1 ∧
      t.dev.get (R.MB_STATUS_ACKED n d) = 0 ∧ t.dev.get (R.MB_POST_GO n d) = 1 ∧ t.mem = s.mem ∧ (t.dev.mb n d).goAt = s.dev.now ∧
      (t.dev.mb n d).timing = decide (s.dev.get (R.MB_TIMEOUT n d) ≠ 0) ∧ (t.dev.mb n d).orphan = false ∧
      (s.dev.on (R.MB_STATUS_POSTED n (1 - d.val)) = true → t.dev.get (R.MB_STATUS_CROSSED n 0) = 1 ∧ t.dev.get (R.MB_STATUS_CROSSED n 1) = 1)) ∧
  (∀ (w : Writer) (n : Fin 16) (d : Fin 2) (v : W32) (s : State), Grants s w (R.MB_POST_GO n d) →
    (s.dev.mbSide w n = some (decide (d = 0)) → s.dev.on (R.MB_STATUS_POSTED n d) = true) →
    ∃ t, exec (.mbPost w n d v) s = .next t ∧ t.dev.get (R.MB_STATUS_WR_REJ n d) = 1 ∧ OnlyRegs [R.MB_STATUS_WR_REJ n d] s t) ∧
  (∀ (w : Writer) (n : Fin 16) (d : Fin 2) (v : W32) (s : State), Grants s w (R.MB_ACK_CODE n d) → s.dev.mbSide w n = some (decide (d = 1)) →
    s.dev.on (R.MB_STATUS_POSTED n d) = true → v.toNat < 16 →
    ∃ t, exec (.mbAck w n d v) s = .next t ∧ t.dev.get (R.MB_STATUS_POSTED n d) = 0 ∧ t.dev.get (R.MB_STATUS_ACKED n d) = 1 ∧ t.mem = s.mem ∧
      (t.dev.mb n d).timing = false ∧ (t.dev.mb n d).orphan = false ∧
      ((s.dev.mb n d).orphan = false → t.dev.get (R.MB_ACK_CODE n d) = v.toNat) ∧
      ((s.dev.mb n d).orphan = true → t.dev.get (R.MB_ACK_CODE n d) = s.dev.get (R.MB_ACK_CODE n d) ∧
        t.dev.get (R.MB_STATUS_ORPHAN_ACK n d) = (s.dev.get (R.MB_STATUS_ORPHAN_ACK n d) + 1) % 2 ^ (R.MB_STATUS_ORPHAN_ACK n d).width)) ∧
  (∀ (w : Writer) (n : Fin 16) (d : Fin 2) (v : W32) (s : State), Grants s w (R.MB_ACK_CODE n d) → s.dev.mbSide w n = some (decide (d = 1)) →
    s.dev.on (R.MB_STATUS_POSTED n d) = false →
    ∃ t, exec (.mbAck w n d v) s = .next t ∧ t.dev.get (R.MB_STATUS_LATE_ACK n d) = 1 ∧ OnlyRegs [R.MB_STATUS_LATE_ACK n d] s t) ∧
  (∀ (w : Writer) (n : Fin 16) (d : Fin 2) (s : State), Grants s w (R.MB_WITHDRAW n d) → s.dev.mbSide w n = some (decide (d = 0)) →
    s.dev.on (R.MB_STATUS_POSTED n d) = true →
    ∃ t, exec (.mbWithdraw w n d 1) s = .next t ∧ t.dev.get (R.MB_STATUS_POSTED n d) = 0 ∧ t.dev.get (R.MB_POST_GO n d) = 0 ∧
      (t.dev.mb n d).timing = false ∧ KeepsRegs [R.MB_STATUS_POSTED n d, R.MB_POST_GO n d, R.MB_STATUS_WAKING n d] s t) ∧
  (∀ (w : Writer) (n : Fin 16) (d : Fin 2) (s : State), Grants s w (R.MB_WITHDRAW n d) → s.dev.mbSide w n = some (decide (d = 0)) →
    s.dev.on (R.MB_STATUS_POSTED n d) = false → exec (.mbWithdraw w n d 1) s = .next s) ∧
  (∀ (n : Fin 16) (d : Fin 2) (s : State), (s.dev.mb n d).timing = true → s.dev.on (R.MB_STATUS_POSTED n d) = true →
    ∃ t, exec (.mbTimeout n d) s = .next t ∧ t.dev.get (R.MB_STATUS_TIMEOUT n d) = 1 ∧ t.dev.get (R.MB_STATUS_POSTED n d) = 1 ∧
      (t.dev.mb n d).timing = false ∧ t.mem = s.mem ∧ s.dev.now ≤ t.dev.now) ∧
  (∀ (n : Fin 16) (d : Fin 2) (s : State), ((s.dev.mb n d).timing = false ∨ s.dev.on (R.MB_STATUS_POSTED n d) = false) →
    exec (.mbTimeout n d) s = .next s) ∧
  (∀ (d : Dev) (n : Nat), n < 16 → d.on (R.MB_STATUS_POSTED n 1) = true → (d.mbSideReset n true).get (R.MB_STATUS_POSTED n 1) = 0 ∧
    (d.mbSideReset n true).get (R.MB_ACK_CODE n 1) = 14 ∧ ((d.mbSideReset n true).get (R.MB_STATUS_ACKED n 1)) = 1)

/-- A READ command that is accepted changes nothing but what its reads change (READ_REG, READ_MEM) and replies OK with the parameters of its layout:
registers word by word, little-endian, in the order of the tables. GET_CERT and ATTEST reply a part of their result from an offset, BAD_PARAM 0 for an
offset past it, ATTEST NO_RESOURCE 0xF000 without a key or signatures left, and WRONG_STATE 0x000E for another nonce than the kept result's. -/
def Obligations.CommandReads : Prop :=
  (∀ (r : CmdReq) (s : State), Accepts s 0x0102 r → let u := taken s 0x0102 r;
    exec (.getStatus r) s = .next (answered u 0x0102 r 0 0
      (u.words [0x60018, 0x10] ++ leBytes 2 (u.dev.get R.SYS_TEMP) ++ [0, 0] ++ leBytes 4 ((u.dev.now - u.dev.sys.porAt) / 1000000000)))) ∧
  (∀ (r : CmdReq) (s : State), Accepts s 0x0108 r → let u := taken s 0x0108 r;
    exec (.getEvents r) s = .next (answered u 0x0108 r 0 0
      ((List.range 8).flatMap (fun i => leBytes 4 (liveWord u .bridle (0x30400 + 4 * i)))))) ∧
  (∀ (r : CmdReq) (s : State), Accepts s 0x0206 r → let u := taken s 0x0206 r;
    exec (.getOwner r) s = .next (answered u 0x0206 r 0 0
      (leBytes 1 (u.dev.owner.getD 0xFF) ++ leBytes 4 u.dev.ownLeft))) ∧
  (∀ (r : CmdReq) (s : State), Accepts s 0x0301 r → let u := taken s 0x0301 r;
    exec (.getBanks r) s = .next (answered u 0x0301 r 0 0
      ((List.range 64).flatMap (fun i => leBytes 1 (u.dev.get (R.BANK_OWNER_AGENT i)) ++ leBytes 1 (u.dev.get (R.BANK_OWNER_PEND i) + 2 * u.dev.get (R.BANK_OWNER_CFG_LOCK i)) ++ leBytes 1 (u.dev.get (R.BANK_OWNER_PEND_AGENT i)) ++ leBytes 1 (u.dev.get (R.BANK_POWER_STATE i)))))) ∧
  (∀ (r : CmdReq) (s : State), Accepts s 0x0304 r → let u := taken s 0x0304 r;
    exec (.getFaultLogs r) s = .next (answered u 0x0304 r 0 0
      ((List.range 16).flatMap (fun q => u.words [0x41000 + 16 * q, 0x41004 + 16 * q, 0x41008 + 16 * q])))) ∧
  (∀ (r : CmdReq) (s : State), Accepts s 0x0401 r → let u := taken s 0x0401 r; let n := par r.params 0 1;
    exec (.getEngine r) s = .next (answered u 0x0401 r 0 0
      (u.words ([0xB0004 + 0x80 * n, 0xB000C + 0x80 * n, 0xB0010 + 0x80 * n, 0xB0014 + 0x80 * n, 0xB001C + 0x80 * n, 0xB0020 + 0x80 * n, 0xB0024 + 0x80 * n, 0xB0038 + 0x80 * n])))) ∧
  (∀ (r : CmdReq) (s : State), Accepts s 0x0404 r → let u := taken s 0x0404 r; let n := par r.params 0 1;
    exec (.getTeam r) s = .next (answered u 0x0404 r 0 0
      (u.words [0xB2000 + 0x20 * n, 0xB2004 + 0x20 * n, 0xB2008 + 0x20 * n]))) ∧
  (∀ (r : CmdReq) (s : State), Accepts s 0x0405 r → let u := taken s 0x0405 r;
    exec (.getBridle r) s = .next (answered u 0x0405 r 0 0
      (u.words [0xB3000]))) ∧
  (∀ (r : CmdReq) (s : State), Accepts s 0x0501 r → let u := taken s 0x0501 r;
    exec (.getSwitch r) s = .next (answered u 0x0501 r 0 0
      (u.words [0xC0004, 0xC0008, 0xC0020]))) ∧
  (∀ (r : CmdReq) (s : State), Accepts s 0x0502 r → let u := taken s 0x0502 r; let n := par r.params 0 1;
    exec (.getSwitchPort r) s = .next (answered u 0x0502 r 0 0
      ((List.range 12).flatMap (fun i => leBytes 4 (liveWord u .bridle (0xC1000 + 0x40 * n + 4 * i)))))) ∧
  (∀ (r : CmdReq) (s : State), Accepts s 0x0503 r → let u := taken s 0x0503 r;
    exec (.getSlices r) s = .next (answered u 0x0503 r 0 0
      ((List.range 40).flatMap (fun i => leBytes 4 (liveWord u .bridle (0xC2000 + 4 * i)))))) ∧
  (∀ (r : CmdReq) (s : State), Accepts s 0x0601 r → let u := taken s 0x0601 r; let n := par r.params 0 1;
    exec (.getTime r) s = .next (answered u 0x0601 r 0 0
      (u.words [0x50010 + 0x100 * n, 0x50014 + 0x100 * n, 0x50018 + 0x100 * n, 0x50004 + 0x100 * n]))) ∧
  (∀ (r : CmdReq) (s : State), Accepts s 0x0603 r → let u := taken s 0x0603 r;
    exec (.getStride r) s = .next (answered u 0x0603 r 0 0
      (u.words [0x60018, 0x60040, 0x60020, 0x60024, 0x60028, 0x6002C, 0x60030, 0x60034]))) ∧
  (∀ (r : CmdReq) (s : State), Accepts s 0x0607 r → let u := taken s 0x0607 r; let n := par r.params 0 1;
    exec (.getLunge r) s = .next (answered u 0x0607 r 0 0
      (u.words [0x60428 + 0x40 * n, 0x6042C + 0x40 * n, 0x60430 + 0x40 * n, 0x60434 + 0x40 * n, 0x60400 + 0x40 * n, 0x60438 + 0x40 * n]))) ∧
  (∀ (r : CmdReq) (s : State), Accepts s 0x0701 r → let u := taken s 0x0701 r; let n := par r.params 0 1;
    exec (.getPort r) s = .next (answered u 0x0701 r 0 0
      (u.words [0xD0000 + 0x800 * n, 0xD0004 + 0x800 * n, 0xD0008 + 0x800 * n, 0xD0024 + 0x800 * n]))) ∧
  (∀ (r : CmdReq) (s : State), Accepts s 0x0702 r → let u := taken s 0x0702 r; let n := par r.params 0 1;
    exec (.getPortCounters r) s = .next (answered u 0x0702 r 0 0
      ((List.range 18).flatMap (fun i => leBytes 4 (liveWord u .bridle (0xD0100 + 0x800 * n + 4 * i)))))) ∧
  (∀ (r : CmdReq) (s : State), Accepts s 0x0705 r → let u := taken s 0x0705 r;
    exec (.getInstances r) s = .next (answered u 0x0705 r 0 0
      ((u.dev.upd.insts.zip (List.range u.dev.upd.insts.length)).flatMap (fun e => leBytes 1 e.1.pers ++ leBytes 1 e.1.role ++ leBytes 1 e.1.team ++ leBytes 1 (instStatus u e.2))))) ∧
  (∀ (r : CmdReq) (s : State), Accepts s 0x0A01 r → let u := taken s 0x0A01 r;
    exec (.getPower r) s = .next (answered u 0x0A01 r 0 0
      ((List.range 9).flatMap (fun k => leBytes 1 (u.dev.domain k)) ++ leBytes 1 (u.dev.get (R.SLP_NET_CFG_LEADER 0)) ++ [0, 0]))) ∧
  (∀ (r : CmdReq) (s : State), Accepts s 0x0B01 r → let u := taken s 0x0B01 r;
    exec (.getHarness r) s = .next (answered u 0x0B01 r 0 0
      (u.words [0xDE800, 0xDE804, 0xDE808, 0xDE814]))) ∧
  (∀ (r : CmdReq) (s : State), Accepts s 0x0B02 r → let u := taken s 0x0B02 r; let n := par r.params 0 1;
    exec (.getLane r) s = .next (answered u 0x0B02 r 0 0
      ((List.range 8).flatMap (fun i => leBytes 4 (liveWord u .bridle (0xD0400 + 0x800 * n + 4 * i)))))) ∧
  (∀ (r : CmdReq) (s : State), Accepts s 0x0B04 r → let u := taken s 0x0B04 r;
    exec (.ping r) s = .next (answered u 0x0B04 r 0 0
      (leBytes 2 (u.dev.get R.HN_CTRL_NODE_ID) ++ leBytes 1 (u.dev.get R.HN_STATUS_LEVEL) ++ leBytes 1 (u.dev.get R.HN_STATUS_UP_STATE) ++ leBytes 1 (u.dev.get R.HN_STATUS_STAR_STATE) ++ leBytes 1 (u.dev.get R.SEC_STATUS_HN_EPOCH) ++ [0, 0]))) ∧
  (∀ (r : CmdReq) (s : State), Accepts s 0x0101 r → ∃ b, exec (.getInfo r) s = .next (answered (taken s 0x0101 r) 0x0101 r 0 0 b) ∧ b.length = 32 ∧
    par b 0 1 = s.dev.get R.SYS_ID_ORDERING % 256 ∧ par b 1 1 = 0xA1 ∧ par b 2 2 = s.dev.get R.HN_CTRL_NODE_ID % 65536 ∧
    par b 4 1 = s.dev.get R.SEC_STATUS_LIFECYCLE % 256 ∧ par b 5 1 = (if s.dev.upd.active then 1 else 0) + (if s.dev.owner.isSome then 2 else 0) ∧
    par b 6 1 = s.dev.get R.SEC_STATUS_HN_EPOCH % 256 ∧ par b 7 1 = s.dev.get R.SEC_STATUS_COMPAT_EPOCH % 256 ∧
    slice b 8 16 = slice s.dev.upd.serial 0 16 ∧ par b 24 4 = s.dev.get R.SEC_VERSION % 2 ^ 32) ∧
  (∀ (r : CmdReq) (s : State), Accepts s 0x0103 r → ∃ b u, (taken s 0x0103 r).readRegs (52 + r.port) (par r.params 0 4) (par r.params 4 2) = (b, u) ∧
    b.length = 4 * par r.params 4 2 ∧ exec (.readReg r) s = .next (answered u 0x0103 r 0 0 b)) ∧
  (∀ (r : CmdReq) (s : State), Accepts s 0x0105 r → ∃ b u, (taken s 0x0105 r).bar2Read (par r.params 0 4) (par r.params 4 2) 260 = (b, u) ∧
    b.length = par r.params 4 2 ∧ exec (.readMem r) s = .next (answered u 0x0105 r 0 0 b)) ∧
  (∀ (r : CmdReq) (s : State), Accepts s 0x0901 r → let c := s.dev.upd.cert; let o := par r.params 0 2; let u := taken s 0x0901 r;
    exec (.getCert r) s = .next (if c.length ≤ o then answered u 0x0901 r 6 0 []
      else answered u 0x0901 r 0 0 (leBytes 2 c.length ++ [0, 0] ++ (c.drop o).take 1020))) ∧
  (∀ (r : CmdReq) (s : State), Accepts s 0x0902 r → s.dev.on R.SEC_STATUS_KEY_VALID = false →
    exec (.attest r) s = .next (answered (taken s 0x0902 r) 0x0902 r 5 0xF000 [])) ∧
  (∀ (r : CmdReq) (s : State), Accepts s 0x0902 r → s.dev.get R.SEC_SIG_LEFT = 0 → par r.params 16 2 = 0 →
    exec (.attest r) s = .next (answered (taken s 0x0902 r) 0x0902 r 5 0xF000 [])) ∧
  (∀ (r : CmdReq) (s : State), Accepts s 0x0902 r → s.dev.on R.SEC_STATUS_KEY_VALID = true → s.dev.get R.SEC_SIG_LEFT ≠ 0 → par r.params 16 2 = 0 →
    ∃ l, exec (.attest r) s = .next (answered ((taken s 0x0902 r).attest (r.params.take 16)) 0x0902 r 0 0 (leBytes 2 l.length ++ [0, 0] ++ l.take 1020)) ∧
      ((taken s 0x0902 r).attest (r.params.take 16)).dev.bridle.kept = some (r.params.take 16, l)) ∧
  (∀ (r : CmdReq) (l : List Byte) (s : State), Accepts s 0x0902 r → s.dev.on R.SEC_STATUS_KEY_VALID = true → par r.params 16 2 ≠ 0 →
    s.dev.bridle.kept = some (r.params.take 16, l) → let o := par r.params 16 2; let u := taken s 0x0902 r;
    exec (.attest r) s = .next (if l.length ≤ o then answered u 0x0902 r 6 0 []
      else answered u 0x0902 r 0 0 (leBytes 2 l.length ++ [0, 0] ++ (l.drop o).take 1020))) ∧
  (∀ (r : CmdReq) (s : State), Accepts s 0x0902 r → s.dev.on R.SEC_STATUS_KEY_VALID = true → par r.params 16 2 ≠ 0 →
    (∀ l, s.dev.bridle.kept ≠ some (r.params.take 16, l)) → exec (.attest r) s = .next (answered (taken s 0x0902 r) 0x0902 r 13 0xE []))

/-- Accepted, CLAIM_OWNER makes the port owner, RELEASE_OWNER nobody, HANDOVER_OWNER the port named; a change of owner raises CHANGED and is counted;
KEEP_ALIVE restarts the timer, SET_OWNER_TIMEOUT writes OWN_TIMEOUT. UPDATE_BEGIN opens a session and marks the stored image RECEIVING; UPDATE_DATA
writes its bytes over the image, drops a block that fails its CRC back with CHECK_FAIL, closes the session on a bad manifest with AUTH_FAIL;
UPDATE_VERIFY answers WRONG_STATE 0x0013 before the last byte, and on success marks the image VERIFIED; UPDATE_ACTIVATE without a verified image
answers WRONG_STATE 0x0009, replies the detail of the check that refuses it with the running configuration in force, and otherwise makes the swap
pending or done; UPDATE_ABORT closes the session and leaves the bytes; UPDATE_STATUS tells the session. -/
def Obligations.CommandOwnershipAndUpdate : Prop :=
  (∀ (r : CmdReq) (s : State), Accepts s 0x0201 r → ∃ t, exec (.claimOwner r) s = .next (answered t 0x0201 r 0 0 []) ∧ OwnerBecomes (some r.port.val) s (taken s 0x0201 r) t) ∧
  (∀ (r : CmdReq) (s : State), Accepts s 0x0202 r → ∃ t, exec (.releaseOwner r) s = .next (answered t 0x0202 r 0 0 []) ∧ OwnerBecomes (none) s (taken s 0x0202 r) t) ∧
  (∀ (r : CmdReq) (s : State), Accepts s 0x0203 r → ∃ t, exec (.handoverOwner r) s = .next (answered t 0x0203 r 0 0 []) ∧ OwnerBecomes (some (par r.params 0 1)) s (taken s 0x0203 r) t) ∧
  (∀ (r : CmdReq) (s : State), Accepts s 0x0204 r → exec (.keepAlive r) s = .next (answered (taken s 0x0204 r) 0x0204 r 0 0 []) ∧
    (s.dev.owner = some r.port.val → (taken s 0x0204 r).dev.host.lapse = s.dev.now + s.dev.get R.OWN_TIMEOUT * 1000000)) ∧
  (∀ (r : CmdReq) (s : State), Accepts s 0x0205 r → ∃ t, exec (.setOwnerTimeout r) s = .next (answered t 0x0205 r 0 0 []) ∧
    OnlyRegs [R.OWN_TIMEOUT] (taken s 0x0205 r) t ∧ t.dev.get R.OWN_TIMEOUT = par r.params 0 4) ∧
  (∀ (r : CmdReq) (s : State), Accepts s 0x0801 r → ∃ t, exec (.updateBegin r) s = .next (answered t 0x0801 r 0 0 []) ∧ t.mem = s.mem ∧
    t.dev.upd = { s.dev.upd with session := some { port := r.port, size := par r.params 0 4 }, journal := 1 } ∧ t.dev.get R.SEC_UPD_BYTES = 0 ∧
    t.dev.get R.SEC_STATUS_SESSION = 1 ∧ t.dev.get R.SEC_STATUS_STORED_VALID = 0 ∧ t.dev.get R.SEC_EVT_SESSION = 1 ∧
    (∀ g : Fld, block g ≠ 3 → (∀ f ∈ [R.SEC_UPD_BYTES, R.SEC_STATUS_SESSION, R.SEC_STATUS_STORED_VALID, R.SEC_EVT_SESSION], g.key ≠ f.key) →
      t.dev.get g = s.dev.get g)) ∧
  (∀ (r : CmdReq) (x : UpdSession) (s : State), Accepts s 0x0802 r → s.dev.upd.session = some x →
    let data := r.params.drop 4; let m := Mem.setBytes s.mem (imageBase + x.got) data; let g := x.got + data.length; let b := x.got / 4096
    ∃ t st det, exec (.updateData r) s = .next (answered t 0x0802 r st det []) ∧ t.mem = m ∧ t.pending = s.pending ∧
      (g / 4096 = b → st = 0 ∧ det = 0 ∧ t.dev.upd.session = some { x with got := g } ∧ t.dev.get R.SEC_UPD_BYTES = g % 2 ^ R.SEC_UPD_BYTES.width) ∧
      (g / 4096 ≠ b → blockOk m b = false → st = 11 ∧ det = b ∧ t.dev.upd.session = some { x with got := b * 4096 } ∧ t.dev.get R.SEC_EVT_BLOCK_FAIL = 1) ∧
      (g / 4096 ≠ b → blockOk m b = true → b + 1 = manBlocks m → manifestOk m s.dev.upd x.size = false →
        st = 10 ∧ det = authDetail m ∧ t.dev.upd.session = none ∧ t.dev.get R.SEC_EVT_AUTH = 1) ∧
      (g / 4096 ≠ b → blockOk m b = true → (b + 1 = manBlocks m → manifestOk m s.dev.upd x.size = true) →
        st = 0 ∧ det = 0 ∧ t.dev.upd.session = some { x with got := g })) ∧
  (∀ (r : CmdReq) (x : UpdSession) (s : State), Accepts s 0x0803 r → s.dev.upd.session = some x →
    ∃ t st det, exec (.updateVerify r) s = .next (answered t 0x0803 r st det []) ∧ t.mem = s.mem ∧
      (x.got < x.size → st = 13 ∧ det = 0x13) ∧
      (x.size ≤ x.got → payloadOk s.mem x.size = false → st = 11 ∧ det = 0xFFFF) ∧
      (x.size ≤ x.got → payloadOk s.mem x.size = true → manifestOk s.mem s.dev.upd x.size = false →
        st = 10 ∧ det = authDetail s.mem ∧ t.dev.get R.SEC_EVT_AUTH = 1) ∧
      (x.size ≤ x.got → payloadOk s.mem x.size = true → manifestOk s.mem s.dev.upd x.size = true → sectionsOk s.mem x.size = false →
        st = 11 ∧ det = 0xFFFF) ∧
      (x.size ≤ x.got → payloadOk s.mem x.size = true → manifestOk s.mem s.dev.upd x.size = true → sectionsOk s.mem x.size = true →
        manField s.mem 16 1 < s.dev.get R.SEC_STATUS_FLOOR → st = 12 ∧ det = 0x100 + manField s.mem 16 1) ∧
      (x.size ≤ x.got → payloadOk s.mem x.size = true → manifestOk s.mem s.dev.upd x.size = true → sectionsOk s.mem x.size = true →
        sectionsOk s.mem x.size = true → s.dev.get R.SEC_STATUS_FLOOR ≤ manField s.mem 16 1 → st = 0 ∧ det = 0 ∧ t.dev.upd.session = some { x with verified := true } ∧
          t.dev.upd.journal = 2 ∧ t.dev.get R.SEC_STATUS_STORED_VALID = 1)) ∧
  (∀ (r : CmdReq) (s : State), Accepts s 0x0804 r →
    (if par r.params 0 1 = 1 then s.dev.upd.journal ≠ 2 ∨ s.dev.on R.SEC_STATUS_RECOVERY = true
     else ∀ x, s.dev.upd.session = some x → x.verified = false) →
    exec (.updateActivate r) s = .next (answered (taken s 0x0804 r) 0x0804 r 13 9 [])) ∧
  (∀ (r : CmdReq) (u : State) (st det : Nat) (s : State), Accepts s 0x0804 r → (taken s 0x0804 r).updActivate (par r.params 0 1 == 1) = (u, some (st, det)) →
    exec (.updateActivate r) s = .next (answered u 0x0804 r st det []) ∧ u.dev.upd = s.dev.upd ∧ u.mem = s.mem) ∧
  (∀ (r : CmdReq) (u : State) (s : State), Accepts s 0x0804 r → s.dev.swapWaits = true →
    (taken s 0x0804 r).updActivate (par r.params 0 1 == 1) = (u, none) →
    exec (.updateActivate r) s = .next (waiting u 0x0804 r .swap) ∧ u.dev.upd.swap.isSome = true ∧ u.mem = s.mem) ∧
  (∀ (r : CmdReq) (u : State) (s : State), Accepts s 0x0804 r → (taken s 0x0804 r).updActivate (par r.params 0 1 == 1) = (u, none) →
    u.dev.upd.swap = none → u.dev.get R.BRIDLE_STATUS_STATE = 1 → u.dev.bridle.restart = false →
    exec (.updateActivate r) s = .next (answered u 0x0804 r 0 0 [])) ∧
  (∀ (r : CmdReq) (s : State), Accepts s 0x0805 r → ∃ t, exec (.updateAbort r) s = .next (answered t 0x0805 r 0 0 []) ∧ t.mem = s.mem ∧
    t.dev.upd = { s.dev.upd with session := none, journal := 1 } ∧ t.dev.get R.SEC_STATUS_SESSION = 0 ∧ t.dev.get R.SEC_UPD_BYTES = 0 ∧
    t.dev.get R.SEC_EVT_SESSION = 1) ∧
  (∀ (r : CmdReq) (s : State), Accepts s 0x0806 r → let x := s.dev.upd.session.getD { port := 0, size := 0 }; let u := taken s 0x0806 r;
    exec (.updateStatus r) s = .next (answered u 0x0806 r 0 0
      (leBytes 1 (if s.dev.upd.session.isNone then 0 else if x.verified then 3 else if x.got = x.size then 2 else 1) ++ leBytes 1 x.port ++
       leBytes 1 (s.dev.get R.SEC_STATUS_LIFECYCLE) ++ leBytes 1 (s.dev.get R.SEC_STATUS_RECOVERY) ++ leBytes 4 x.got ++ leBytes 4 x.size ++
       leBytes 4 7340032)))

/-- A STATE or DIAG command that is accepted takes its effect and replies OK: WRITE_REG and WRITE_MEM write as the host window, CLEAR_EVENTS clears the
sticky statuses of its mask, SET_BANK_OWNER hands a bank over at once or leaves it pending, SET_SCRUB, RESTART_ENGINE, CLEAR_SWITCH_COUNTERS,
SET_MIRROR, STRIDE_RUN 1, SET_LUNGE (reply 1 when late), SET_LATCH_PHASE, SET_PORT_ENABLE, HOLD_INSTANCE, SET_LIFECYCLE, SET_CUSTOMER_ROOT,
SET_SLEEP_CONSENT, SELECT_UPLINK and SET_FORWARD_TIMEOUT write what they name. RESET sets the warm reset 1 ms ahead, or restarts the Bridle after the
reply. A STRIDE_RUN 1 that is refused replies WRONG_STATE with the detail of CFG_ERR. SET_PORT_ENABLE 0 of the lane or port on which the packet came acts after
its reply has left. -/
def Obligations.CommandChanges : Prop :=
  (∀ (r : CmdReq) (s : State), Accepts s 0x0104 r → let u := taken s 0x0104 r; let l := r.params;
    exec (.writeReg r) s = .next (answered (u.writeRegs (par l 0 4) (l.drop 4) ((l.length - 4) / 4)) 0x0104 r 0 0 [])) ∧
  (∀ (r : CmdReq) (s : State), Accepts s 0x0106 r → let u := taken s 0x0106 r; let l := r.params;
    exec (.writeMem r) s = .next (answered (u.bar2Write .pcie (par l 0 4) (l.drop 4) 260) 0x0106 r 0 0 [])) ∧
  (∀ (r : CmdReq) (s : State), Accepts s 0x0109 r → let u := taken s 0x0109 r; let l := r.params;
    exec (.clearEvents r) s = .next (answered ((List.range 8).foldl (fun a w => a.on (fun d => d.set (R.EV_STATUS w) (d.get (R.EV_STATUS w) &&& (2 ^ 32 - 1 - par l (4 * w) 4)))) u) 0x0109 r 0 0 [])) ∧
  (∀ (r : CmdReq) (s : State), Accepts s 0x0403 r → let u := taken s 0x0403 r; let l := r.params; let n := par l 0 1;
    exec (.restartEngine r) s = .next (answered (u.on (fun d => d.restartEngine n)) 0x0403 r 0 0 [])) ∧
  (∀ (r : CmdReq) (s : State), Accepts s 0x0504 r → let u := taken s 0x0504 r;
    exec (.clearSwitchCounters r) s = .next (answered (u.on (fun d => d.swClrCnt)) 0x0504 r 0 0 [])) ∧
  (∀ (r : CmdReq) (s : State), Accepts s 0x0606 r → let u := taken s 0x0606 r; let l := r.params; let n := par l 0 1;
    exec (.setLatchPhase r) s = .next (answered (u.on (fun d => d.set (R.LATCH_PHASE_PHASE n) (par l 2 2))) 0x0606 r 0 0 [])) ∧
  (∀ (r : CmdReq) (s : State), Accepts s 0x0706 r → let u := taken s 0x0706 r; let l := r.params; let n := par l 0 1; let v := par l 1 1;
    exec (.holdInstance r) s = .next (answered (u.on (fun d => d.withUpd (fun y => { y with holdReq := y.holdReq.filter (fun e => e.1 != n) ++ [(n, v == 1)] }))) 0x0706 r 0 0 [])) ∧
  (∀ (r : CmdReq) (s : State), Accepts s 0x0904 r → let u := taken s 0x0904 r; let l := r.params;
    exec (.setCustomerRoot r) s = .next (answered (u.on (fun d => (d.withUpd (fun y => { y with root := l })).set R.SEC_STATUS_CUST_ROOT 1)) 0x0904 r 0 0 [])) ∧
  (∀ (r : CmdReq) (s : State), Accepts s 0x0A04 r → let u := taken s 0x0A04 r; let l := r.params; let n := par l 0 1; let v := par l 1 1;
    exec (.setSleepConsent r) s = .next (answered (u.on (fun d => (d.set (R.SLP_CONSENT_CONSENT n) v).set (R.SLP_MAX_AWAKE n) (par l 4 4))) 0x0A04 r 0 0 [])) ∧
  (∀ (r : CmdReq) (s : State), Accepts s 0x0B03 r → let u := taken s 0x0B03 r; let l := r.params; let n := par l 0 1;
    exec (.selectUplink r) s = .next (answered (u.on (fun d => d.withHn (fun h => { h with uplink := some (n == 1) }))) 0x0B03 r 0 0 [])) ∧
  (∀ (r : CmdReq) (s : State), Accepts s 0x0B05 r → let u := taken s 0x0B05 r; let l := r.params;
    exec (.setForwardTimeout r) s = .next (answered (u.on (fun d => d.set R.HN_CMD_CFG_TIMEOUT (par l 0 2))) 0x0B05 r 0 0 [])) ∧
  (∀ (r : CmdReq) (s : State), let n := par r.params 0 1; let a := par r.params 1 1; let now := (par r.params 2 1).testBit 0; Accepts s 0x0302 r →
    ∃ t, exec (.setBankOwner r) s = .next (answered t 0x0302 r 0 0 []) ∧
      OnlyRegs [R.BANK_OWNER_AGENT n, R.BANK_OWNER_PEND n, R.BANK_OWNER_PEND_AGENT n] (taken s 0x0302 r) t ∧
      (a = s.dev.get (R.BANK_OWNER_AGENT n) → t.dev.get (R.BANK_OWNER_AGENT n) = a ∧ t.dev.get (R.BANK_OWNER_PEND n) = 0) ∧
      (a ≠ s.dev.get (R.BANK_OWNER_AGENT n) → (now = true ∨ s.dev.strideLive = false) →
        t.dev.get (R.BANK_OWNER_AGENT n) = a ∧ t.dev.get (R.BANK_OWNER_PEND n) = 0) ∧
      (a ≠ s.dev.get (R.BANK_OWNER_AGENT n) → now = false → s.dev.strideLive = true → t.dev.get (R.BANK_OWNER_PEND n) = 1 ∧
        t.dev.get (R.BANK_OWNER_PEND_AGENT n) = a ∧ t.dev.get (R.BANK_OWNER_AGENT n) = s.dev.get (R.BANK_OWNER_AGENT n))) ∧
  (∀ (r : CmdReq) (s : State), Accepts s 0x0305 r → ∃ t, exec (.setScrub r) s = .next (answered t 0x0305 r 0 0 []) ∧
    OnlyRegs [R.ORCH_CTRL_SCRUB_INTERVAL, R.ORCH_CTRL_SCRUB_EN] (taken s 0x0305 r) t ∧ t.dev.get R.ORCH_CTRL_SCRUB_INTERVAL = par r.params 0 2 ∧
    t.dev.get R.ORCH_CTRL_SCRUB_EN = par r.params 2 1) ∧
  (∀ (r : CmdReq) (s : State), Accepts s 0x0505 r → ∃ t, exec (.setMirror r) s = .next (answered t 0x0505 r 0 0 []) ∧
    OnlyRegs [R.SW_MIRROR_EN, R.SW_MIRROR_CLASS, R.SW_MIRROR_OUT_PORT, R.SW_MIRROR_SRC_LO, R.SW_MIRROR_SRC_HI] (taken s 0x0505 r) t ∧
    t.dev.get R.SW_MIRROR_EN = par r.params 0 1 ∧ t.dev.get R.SW_MIRROR_CLASS = par r.params 1 1 ∧ t.dev.get R.SW_MIRROR_OUT_PORT = par r.params 2 1 ∧
    t.dev.get R.SW_MIRROR_SRC_LO = par r.params 4 4 ∧ t.dev.get R.SW_MIRROR_SRC_HI = par r.params 8 1) ∧
  (∀ (r : CmdReq) (s : State), let n := par r.params 0 1; let f := par r.params 1 1; Accepts s 0x0605 r →
    ∃ t, exec (.setLunge r) s = .next (answered t 0x0605 r 0 0 [if s.dev.gaitClosed (s.dev.get (R.LUNGE_CTRL_GAIT n)) then 1 else 0]) ∧
      KeepsRegs [R.LUNGE_TARGET n, R.LUNGE_ACCEL n, R.LUNGE_STEP n, R.LUNGE_CTRL_UPDATE n, R.LUNGE_STATUS_UPD_LATE n] (taken s 0x0605 r) t ∧
      t.dev.get (R.LUNGE_TARGET n) = (if f.testBit 0 then par r.params 8 8 % 2 ^ 40 else s.dev.get (R.LUNGE_TARGET n)) ∧
      t.dev.get (R.LUNGE_ACCEL n) = (if f.testBit 1 then par r.params 16 8 % 2 ^ 39 else s.dev.get (R.LUNGE_ACCEL n)) ∧
      t.dev.get (R.LUNGE_STEP n) = (if f.testBit 2 then par r.params 24 8 % 2 ^ 40 else s.dev.get (R.LUNGE_STEP n)) ∧
      t.dev.get (R.LUNGE_CTRL_UPDATE n) = 1 ∧ (t.dev.lunge n).latched = some (t.dev.get (R.LUNGE_TARGET n), t.dev.get (R.LUNGE_ACCEL n), t.dev.get (R.LUNGE_STEP n),
        if s.dev.gaitClosed (s.dev.get (R.LUNGE_CTRL_GAIT n)) then 2 else 1) ∧
      (s.dev.gaitClosed (s.dev.get (R.LUNGE_CTRL_GAIT n)) = true → t.dev.get (R.LUNGE_STATUS_UPD_LATE n) = 1)) ∧
  (∀ (r : CmdReq) (s : State), let n := par r.params 0 1; Accepts s 0x0703 r → s.dev.get (R.PORT_CTRL_EN n) = par r.params 1 1 →
    (par r.params 1 1 = 1 ∨ r.port.val < 2 ∨ r.via.val ≠ n) → exec (.setPortEnable r) s = .next (answered (taken s 0x0703 r) 0x0703 r 0 0 [])) ∧
  (∀ (r : CmdReq) (s : State), let n := par r.params 0 1; Accepts s 0x0703 r → par r.params 1 1 = 1 →
    ∃ t, exec (.setPortEnable r) s = .next (answered t 0x0703 r 0 0 []) ∧ t.dev.get (R.PORT_CTRL_EN n) = 1 ∧
      OnlyRegs [R.PORT_CTRL_EN n] (taken s 0x0703 r) t) ∧
  (∀ (r : CmdReq) (s : State), let n := par r.params 0 1; Accepts s 0x0703 r → par r.params 1 1 = 0 → s.dev.on (R.PORT_CTRL_EN n) = true →
    (r.port.val < 2 ∨ r.via.val ≠ n) → exec (.setPortEnable r) s = .next (answered
      ((taken s 0x0703 r).on (fun d => (d.set (R.PORT_CTRL_EN n) 0).linkDown n 0)) 0x0703 r 0 0 [])) ∧
  (∀ (r : CmdReq) (s : State), Accepts s 0x0703 r → par r.params 1 1 = 0 → 2 ≤ r.port.val → r.via.val = par r.params 0 1 →
    ∃ t, exec (.setPortEnable r) s = .next t ∧ t = answered (taken s 0x0703 r) 0x0703 r 0 0 [] ∧ t.dev.get (R.PORT_CTRL_EN (par r.params 0 1)) = 0) ∧
  (∀ (r : CmdReq) (s : State), let n := par r.params 0 1; Accepts s 0x0903 r → ∃ t, exec (.setLifecycle r) s = .next (answered t 0x0903 r 0 0 []) ∧
    t.dev.get R.SEC_STATUS_LIFECYCLE = n ∧ t.dev.get R.SEC_EVT_LIFECYCLE = 1 ∧ t.mem = s.mem ∧
    (n = 3 → t.dev.upd = { s.dev.upd with root := [], hasKey := false } ∧ t.dev.get R.SEC_STATUS_CUST_ROOT = 0 ∧ t.dev.get R.SEC_STATUS_KEY_VALID = 0 ∧
      t.dev.get R.SEC_SIG_LEFT = 0) ∧ (n ≠ 3 → t.dev.upd = s.dev.upd ∧ t.dev.get R.SEC_STATUS_KEY_VALID = s.dev.get R.SEC_STATUS_KEY_VALID)) ∧
  (∀ (r : CmdReq) (s : State), Accepts s 0x0107 r → par r.params 0 1 = 1 →
    exec (.reset r) s = .next (answered ((taken s 0x0107 r).on (fun d => { d with sys := { d.sys with warmAt := some (d.now + 1000000) } })) 0x0107 r 0 0 [])) ∧
  (∀ (r : CmdReq) (s : State), Accepts s 0x0107 r → par r.params 0 1 = 2 → ∃ t u, exec (.reset r) s = .next t ∧
    u = answered ((taken s 0x0107 r).on (fun d => { d with bridle := { d.bridle with restart := true } })) 0x0107 r 0 0 [] ∧
    t = u.on (fun d => d.bridleRestart (fun _ => false)) ∧ t.dev.get R.BRIDLE_STATUS_STATE = 2 ∧ t.dev.bridle.tasks = [] ∧ t.dev.bridle.restart = false) ∧
  (∀ (r : CmdReq) (s : State), Accepts s 0x0604 r → par r.params 0 1 = 1 → s.dev.on R.STRIDE_CTRL_RUN = false → s.dev.runError = 0 →
    ∃ t, exec (.strideRun r) s = .next (answered t 0x0604 r 0 0 []) ∧ t = (taken s 0x0604 r).on (fun d => d.runStart) ∧ t.dev.get R.STRIDE_CTRL_RUN = 1) ∧
  (∀ (r : CmdReq) (s : State), Accepts s 0x0604 r → par r.params 0 1 = 1 → s.dev.on R.STRIDE_CTRL_RUN = true →
    exec (.strideRun r) s = .next (answered (taken s 0x0604 r) 0x0604 r 0 0 [])) ∧
  (∀ (r : CmdReq) (s : State), Accepts s 0x0604 r → par r.params 0 1 = 1 → s.dev.on R.STRIDE_CTRL_RUN = false →
    ∀ x ∈ [(1, 6), (4, 7), (3, 0x10), (5, 0x11)], s.dev.runError = x.1 → ∃ t, exec (.strideRun r) s = .next (answered t 0x0604 r 13 x.2 []) ∧
      OnlyRegs [R.STRIDE_STATUS_CFG_ERR] (taken s 0x0604 r) t ∧ t.dev.get R.STRIDE_STATUS_CFG_ERR = x.1)

/-- HALT_ENGINE, SET_BANK_POWER, STRIDE_RUN 0, SET_DOMAIN, SLEEP_REQUEST, ADJUST_TIME and CABLE_TEST take their effect; when it has been reached at once
they reply at once, else they wait. What each wait is for: the engine HALTED, the bank in its state, the last edge over, the domain in its state, the
round ended (0 committed, 1 refused with the node), the adjustment applied (WRONG_STATE 0x0005 when the step was refused), the test over (its result).
SET_DOMAIN that is refused replies WRONG_STATE 0x000C, for DOZE 0x0015. A round of the Bridle replies for a wait that is over; a wait that is not over
stays. -/
def Obligations.CommandWaits : Prop :=
  (∀ (r : CmdReq) (s : State), Accepts s 0x0402 r → let n := par r.params 0 1; let u := (taken s 0x0402 r).on (fun d => d.hostHalt n)
    exec (.haltEngine r) s = .next (match waitOver u (.halted n) with
      | some (.reply st det ps) => answered u 0x0402 r st det ps
      | _ => waiting u 0x0402 r (.halted n))) ∧
  (∀ (r : CmdReq) (s : State), Accepts s 0x0303 r → let n := par r.params 0 1; let v := par r.params 1 1; let u := (taken s 0x0303 r).on (fun d => d.bankRequest n v)
    exec (.setBankPower r) s = .next (match waitOver u (.bank n v) with
      | some (.reply st det ps) => answered u 0x0303 r st det ps
      | _ => waiting u 0x0303 r (.bank n v))) ∧
  (∀ (r : CmdReq) (s : State), Accepts s 0x0704 r → let n := par r.params 0 1; let u := (taken s 0x0704 r).on (fun d => d.diagStart n)
    exec (.cableTest r) s = .next (match waitOver u (.cable n) with
      | some (.reply st det ps) => answered u 0x0704 r st det ps
      | _ => waiting u 0x0704 r (.cable n))) ∧
  (∀ (r : CmdReq) (s : State), Accepts s 0x0A03 r → let n := par r.params 0 1; let u := (taken s 0x0A03 r).roundStart n
    exec (.sleepRequest r) s = .next (match waitOver u (.round n) with
      | some (.reply st det ps) => answered u 0x0A03 r st det ps
      | _ => waiting u 0x0A03 r (.round n))) ∧
  (∀ (r : CmdReq) (s : State), Accepts s 0x0604 r → par r.params 0 1 = 0 → ∃ u, u = (taken s 0x0604 r).on (fun d => d.runStop) ∧
    exec (.strideRun r) s = .next (if u.dev.strideLive then waiting u 0x0604 r .lastEdge else answered u 0x0604 r 0 0 []) ∧
    u.dev.get R.STRIDE_CTRL_RUN = 0) ∧
  (∀ (r : CmdReq) (s : State), let n := par r.params 0 1; let f := par r.params 1 1; Accepts s 0x0602 r →
    ∃ t, exec (.adjustTime r) s = .next (waiting t 0x0602 r (.step n (if f.testBit 1 then s.dev.get (R.TB_STATUS_STEP_GEN n) else 16))) ∧
      KeepsRegs [R.TB_INCR n, R.TB_STEP n, R.TB_STEP_FRAC n, R.TB_CTRL_STEP n, R.TB_CTRL_LOAD_INCR n, R.TB_STATUS_STEP_PEND n, R.TB_STATUS_INCR_PEND n]
        (taken s 0x0602 r) t ∧
      (f.testBit 0 = true → t.dev.get (R.TB_INCR n) = par r.params 8 8 ∧ t.dev.get (R.TB_STATUS_INCR_PEND n) = 1) ∧
      (f.testBit 0 = false → t.dev.get (R.TB_INCR n) = s.dev.get (R.TB_INCR n)) ∧
      (f.testBit 1 = true → t.dev.get (R.TB_STEP n) = par r.params 16 8 ∧ t.dev.get (R.TB_STEP_FRAC n) = par r.params 2 2 ∧
        t.dev.get (R.TB_STATUS_STEP_PEND n) = 1)) ∧
  (∀ (r : CmdReq) (s : State), let n := par r.params 0 1; let v := par r.params 1 1; Accepts s 0x0A02 r →
    let q := (taken s 0x0A02 r).dev.domainRequest n v; let u : State := { taken s 0x0A02 r with dev := q.1 }; let w := if v = 2 then 3 else v
    (q.2 = false → exec (.setDomain r) s = .next (answered (taken s 0x0A02 r) 0x0A02 r 13 (if v = 2 then 0x15 else 0xC) [])) ∧
    (q.2 = true → exec (.setDomain r) s = .next (if u.dev.domain n = w then answered u 0x0A02 r 0 0 [] else waiting u 0x0A02 r (.domain n w)))) ∧
  (∀ s : State,
    (∀ e, waitOver s (.halted e) = if s.dev.engState e = 6 then some (.reply 0 0 []) else none) ∧
    (waitOver s .lastEdge = if s.dev.strideLive then none else some (.reply 0 0 [])) ∧
    (∀ n v, waitOver s (.bank n v) = if s.dev.get (R.BANK_POWER_STATE n) = v then some (.reply 0 0 []) else none) ∧
    (∀ n g, s.dev.on (R.TB_STATUS_INCR_PEND n) = false → s.dev.on (R.TB_STATUS_STEP_PEND n) = false →
      waitOver s (.step n g) = some (if s.dev.get (R.TB_STATUS_STEP_GEN n) = g then .reply 13 5 [] else .reply 0 0 [])) ∧
    (∀ p, s.dev.on (R.DIAG_CTRL_BUSY p) = false → waitOver s (.cable p) = some (.reply 0 0 (leBytes 4 (liveWord s .bridle (0xD00D4 + 0x800 * p))))) ∧
    (∀ k, s.dev.netState k = 1 → waitOver s (.round k) = none) ∧
    (∀ k, s.dev.netState k ≠ 1 → waitOver s (.round k) = some (.reply 0 0 (if s.dev.get (R.SLP_NET_STATUS_RESULT k) = 1 then [0, 0, 0, 0]
      else [1, 0] ++ leBytes 2 (s.dev.get (R.SLP_NET_STATUS_NODE k)))))) ∧
  (∀ (op : Nat) (r : CmdReq) (w : CmdWait) (s : State), s.dev.coreOn = true → s.dev.get R.BRIDLE_STATUS_STATE = 1 → s.dev.bridle.restart = false →
    s.dev.upd.swap = none → s.dev.fab.bridleRx = [] → s.dev.bridle.hnRx = [] → s.dev.bridle.tasks = [{ op := op, req := r, wait := some w }] →
    (∀ n < 2, s.dev.on (R.MB_STATUS_POSTED n 0) = false) →
    (∀ st det ps, waitOver s w = some (.reply st det ps) →
      exec .bridleRound s = .next (((s.endTask { op := op, req := r, wait := some w } st det ps).mbPump 0).mbPump 1)) ∧
    (waitOver s w = none → exec .bridleRound s = .next ((s.mbPump 0).mbPump 1)))

/-- The first check that fails decides the reply, and the command has no effect but that it is counted. Reserved header bits get RESERVED_VALUE 0xFFFF, a
parameter length over 1,024 gets BAD_LENGTH 1024, another length than received BAD_LENGTH. Then permission by the class of the port, the owner and the
category: AUTH_FAIL with the class, NOT_OWNER with the owner or 0xFF; in RECOVERY every command but UPDATE gets WRONG_STATE 1; then the states, then the
length of the layout, then its values: an index or value past the layout's gets RESERVED_VALUE with its offset, a listed value that the device lacks
BAD_PARAM. -/
def Obligations.CommandChecks : Prop :=
  (∀ (r : CmdReq) (s : State), ∀ x, Packet r x → Heard s r →
    ((r.rsv ≠ 0 ∨ 8 ≤ r.flags.toNat ∨ r.flags.toNat % 8 = 5 ∨ r.flags.toNat % 8 = 7) → exec x.1 s = .next (refused (taken s x.2.1 r) x.2.1 r 7 0xFFFF)) ∧
    (r.rsv = 0 → r.flags.toNat < 5 ∨ r.flags.toNat = 6 → 1024 < r.plen.toNat → exec x.1 s = .next (refused (taken s x.2.1 r) x.2.1 r 2 1024)) ∧
    (r.rsv = 0 → r.flags.toNat < 5 ∨ r.flags.toNat = 6 → r.plen.toNat ≤ 1024 → r.plen.toNat ≠ r.params.length →
      ∃ det, exec x.1 s = .next (refused (taken s x.2.1 r) x.2.1 r 2 det))) ∧
  (∀ (r : CmdReq) (s : State), ∀ x, Packet r x → Reaches s x.2.1 r → let cls := s.dev.get (R.OWN_PORT_CLASS r.port); let u := taken s x.2.1 r;
    let notOwner := refused u x.2.1 r 3 (s.dev.owner.getD 0xFF)
    (cls = 1 → x.2.2 ≠ .read → exec x.1 s = .next (refused u x.2.1 r 10 1)) ∧
    (cls = 2 → (x.2.2 = .state ∨ x.2.2 = .ownership) → exec x.1 s = .next (refused u x.2.1 r 10 2)) ∧
    (cls = 2 → x.2.2 = .update → s.dev.owner ≠ none → s.dev.on R.SEC_STATUS_RECOVERY = false → exec x.1 s = .next notOwner) ∧
    (cls = 3 → s.dev.owner ≠ some r.port.val → (x.2.2 = .diag ∨ x.2.2 = .state) → exec x.1 s = .next notOwner) ∧
    (cls = 3 → s.dev.owner ≠ some r.port.val → x.2.2 = .update → s.dev.on R.SEC_STATUS_RECOVERY = false → exec x.1 s = .next notOwner) ∧
    (cls = 3 → s.dev.owner ≠ some r.port.val → x.2.2 = .ownership → (x.2.1 = 0x0201 → s.dev.owner ≠ none) → exec x.1 s = .next notOwner)) ∧
  (∀ (r : CmdReq) (s : State), ∀ x, Packet r x → Reaches s x.2.1 r → permission s.dev r.port x.2.2 (x.2.1 == 0x0201) = none →
    s.dev.on R.SEC_STATUS_RECOVERY = true → x.2.2 ≠ .update → exec x.1 s = .next (refused (taken s x.2.1 r) x.2.1 r 13 1)) ∧
  (∀ (r : CmdReq) (s : State), ∀ x, Packet r x → Reaches s x.2.1 r → permission s.dev r.port x.2.2 (x.2.1 == 0x0201) = none →
    s.dev.on R.SEC_STATUS_RECOVERY = false → let b := cmdLength x.2.1; let u := taken s x.2.1 r
    (∀ e, stateCheck s.dev x.2.1 r = some e → exec x.1 s = .next (refused u x.2.1 r e.1 e.2)) ∧
    (stateCheck s.dev x.2.1 r = none → r.params.length < b.1 → exec x.1 s = .next (refused u x.2.1 r 2 b.1)) ∧
    (stateCheck s.dev x.2.1 r = none → b.1 ≤ r.params.length → b.2.1 < r.params.length → exec x.1 s = .next (refused u x.2.1 r 2 b.2.1)) ∧
    (stateCheck s.dev x.2.1 r = none → lengthCheck s.dev x.2.1 r.params.length = none → ∀ e, stateCheckWith s.dev x.2.1 r.params = some e →
      exec x.1 s = .next (refused u x.2.1 r e.1 e.2)) ∧
    (stateCheck s.dev x.2.1 r = none → lengthCheck s.dev x.2.1 r.params.length = none → stateCheckWith s.dev x.2.1 r.params = none →
      ∀ e, paramCheck s.dev x.2.1 r r.params = some e → exec x.1 s = .next (refused u x.2.1 r e.1 e.2))) ∧
  (∀ (d : Dev) (r : CmdReq) (l : List Byte), ∀ x ∈ [(0x0401, 48), (0x0402, 48), (0x0403, 48), (0x0404, 12), (0x0502, 40), (0x0601, 8), (0x0607, 4),
      (0x0701, 26), (0x0702, 26), (0x0B02, 16), (0x0203, 4), (0x0302, 64), (0x0303, 64), (0x0602, 8), (0x0604, 2), (0x0605, 4), (0x0606, 4), (0x0703, 26),
      (0x0804, 2), (0x0A02, 9), (0x0A03, 9), (0x0A04, 9), (0x0B03, 2), (0x0706, 64), (0x0505, 2)],
    x.2 ≤ par l 0 1 → paramCheck d x.1 r l = some (7, 0)) ∧
  (∀ (d : Dev) (r : CmdReq) (l : List Byte), (par l 0 4 < 10 ∨ 60000 < par l 0 4) → paramCheck d 0x0205 r l = some (6, 0)) ∧
  (∀ (d : Dev) (l : List Byte) (r : CmdReq), par l 0 4 % 4 ≠ 0 → ∀ op ∈ [0x0103, 0x0104, 0x0105, 0x0106], paramCheck d op r l = some (7, 0)) ∧
  (∀ (d : Dev) (r : CmdReq) (l : List Byte), par l 0 4 % 4 = 0 → 1 ≤ par l 4 2 → par l 4 2 ≤ 256 → par l 0 4 + 4 * par l 4 2 ≤ 2 ^ 20 →
    paramCheck d 0x0103 r l = none)

/-- A packet on a DISABLED port, on HARNESS in RECOVERY, or while CORE is off, is discarded; before the Bridle runs, packets on MGMT wait. While it restarts,
packets on MGMT and HARNESS wait, up to 8, and get BUSY 1 past that; a ninth command in progress gets BUSY 1. A packet for another node is forwarded
unchanged on the lane of its route, with an entry that awaits the reply unless it carries NO_REPLY; a 17th entry gets BUSY 2; without a route the packet
gets NODE_UNREACHABLE with the target. FORWARD_ALL runs the command here as well. A reply carries the opcode, its length, this node's ID, the flags and the
sequence, status and detail; with NO_REPLY there is none. HARNESS sends it on the packet's lane, MGMT in a management frame, MB0 and MB1 post it in
fragments of 256 bytes. -/
def Obligations.CommandRoutesAndReplies : Prop :=
  (∀ (r : CmdReq) (s : State), ∀ x, Packet r x →
    (s.dev.coreOn = false ∨ s.dev.get (R.OWN_PORT_CLASS r.port) = 0 ∨ (r.port = 3 ∧ s.dev.on R.SEC_STATUS_RECOVERY = true) ∨
      (s.dev.get R.BRIDLE_STATUS_STATE ≠ 1 ∧ s.dev.get R.BRIDLE_STATUS_STATE ≠ 2 ∧ (r.port ≠ 2 ∨ 8 ≤ s.dev.bridle.hnRx.length))) →
    exec x.1 s = .next s) ∧
  (∀ (r : CmdReq) (s : State), ∀ x, Packet r x → s.dev.coreOn = true → s.dev.deaf r = false → s.dev.get R.BRIDLE_STATUS_STATE ≠ 1 →
    s.dev.get R.BRIDLE_STATUS_STATE ≠ 2 → r.port = 2 → s.dev.bridle.hnRx.length < 8 →
      exec x.1 s = .next (s.on (fun d => { d with bridle := { d.bridle with hnRx := d.bridle.hnRx ++ [(x.2.1, r)] } }))) ∧
  (∀ (r : CmdReq) (s : State), ∀ x, Packet r x → s.dev.coreOn = true → s.dev.deaf r = false → s.dev.get R.BRIDLE_STATUS_STATE = 2 →
    (r.port.val < 2 → exec x.1 s = .next s) ∧
    (2 ≤ r.port.val → s.dev.bridle.hnRx.length < 8 →
      exec x.1 s = .next (s.on (fun d => { d with bridle := { d.bridle with hnRx := d.bridle.hnRx ++ [(x.2.1, r)] } }))) ∧
    (2 ≤ r.port.val → 8 ≤ s.dev.bridle.hnRx.length → exec x.1 s = .next (s.answer x.2.1 r 4 1 []))) ∧
  (∀ (r : CmdReq) (s : State), ∀ x, Packet r x → s.dev.coreOn = true → s.dev.deaf r = false → s.dev.get R.BRIDLE_STATUS_STATE = 1 →
    8 ≤ s.dev.bridle.tasks.length → exec x.1 s = .next (if r.port.val < 2 then s else s.answer x.2.1 r 4 1 [])) ∧
  (∀ (r : CmdReq) (p : Nat) (s : State), ∀ x, Packet r x → Heard s r → let u := taken s x.2.1 r; headerCheck u.dev r = none → u.dev.routeOf r = .lane p →
    ∃ t, exec x.1 s = .next t ∧ t.dev.bridle.tasks = [] ∧
      (r.flags.getLsbD 1 = true → t.dev.hn = s.dev.hn ∧ t.dev.out = s.dev.out ++ [.forward p (packetOf x.2.1 r)] ∧ t.mem = s.mem ∧ t.dev.regs = s.dev.regs) ∧
      (r.flags.getLsbD 1 = false → s.dev.hn.fwd.length < 16 → t.dev.out = s.dev.out ++ [.forward p (packetOf x.2.1 r)] ∧ t.dev.regs = s.dev.regs ∧
        ∃ e, t.dev.hn = { s.dev.hn with fwd := s.dev.hn.fwd ++ [e] } ∧ e.op = x.2.1 ∧ e.req = r ∧ e.lanes = [p] ∧ e.all = false ∧
          e.until' = s.dev.now + s.dev.get R.HN_CMD_CFG_TIMEOUT * 1000000)) ∧
  (∀ (r : CmdReq) (p : Nat) (s : State), ∀ x, Packet r x → Heard s r → let u := taken s x.2.1 r; headerCheck u.dev r = none → u.dev.routeOf r = .lane p →
    r.flags.getLsbD 1 = false → 16 ≤ s.dev.hn.fwd.length →
    exec x.1 s = .next ((u.on (fun d => { d with bridle := { d.bridle with tasks := [] } })).answer x.2.1 r 4 2 [])) ∧
  (∀ (r : CmdReq) (s : State), ∀ x, Packet r x → Heard s r → let u := taken s x.2.1 r; headerCheck u.dev r = none → u.dev.routeOf r = .lost →
    (r.direct = true → exec x.1 s = .next (refused u x.2.1 r 9 r.target.toNat)) ∧
    (r.direct = false → exec x.1 s = .next (u.on (fun d => { d with bridle := { d.bridle with tasks := [] } })))) ∧
  (∀ (r : CmdReq) (s : State), Heard s r → let u := (taken s 0x0B04 r).on (fun d => d.forward 0x0B04 r (d.lanesOf [3]) true);
    headerCheck u.dev r = none → r.flags.getLsbD 2 = true → runCheck u.dev 0x0B04 r = none → (r.flags.getLsbD 1 = true ∨ s.dev.hn.fwd.length < 16) →
    ∃ b, exec (.ping r) s = .next (answered u 0x0B04 r 0 0 b) ∧ b.length = 8) ∧
  (∀ (op : Nat) (r : CmdReq) (st det : Nat) (ps : List Byte) (s : State), r.flags.getLsbD 1 = true → s.answer op r st det ps = s) ∧
  (∀ (op : Nat) (r : CmdReq) (st det : Nat) (ps : List Byte) (s : State), r.flags.getLsbD 1 = false →
    let b := replyBytes s.dev op r st det ps
    par b 0 2 = op % 65536 ∧ par b 2 2 = ps.length % 65536 ∧ par b 4 2 = s.dev.get R.HN_CTRL_NODE_ID % 65536 ∧ par b 6 1 = r.flags.toNat ∧
    par b 7 1 = r.sq.toNat ∧ par b 8 2 = st % 65536 ∧ par b 10 2 = det % 65536 ∧ b.drop 12 = ps ∧
    (r.port = 3 → s.answer op r st det ps = s.on (fun d => { d with out := d.out ++ [.reply 3 b, .forward r.via b] })) ∧
    (r.port = 2 → s.answer op r st det ps = (s.on (fun d => d.emit (.reply 2 b))).on (fun d => d.enterFrame
      { src := 38, dst := r.via, cls := d.host.record.mgmtClass, bytes := mgmtFrame d r b, stamp := d.tb0, origin := 38 } [r.via.val])) ∧
    (r.port.val < 2 → s.dev.bridle.out.getD r.port [] = [] → s.dev.on (R.MB_STATUS_POSTED r.port 1) = false →
      ∃ t, s.answer op r st det ps = t ∧ t.dev.get (R.MB_STATUS_POSTED r.port 1) = 1 ∧ t.dev.get (R.MB_POST_LEN r.port 1) = min 256 b.length ∧
        t.dev.get (R.MB_POST_MORE r.port 1) = (if 256 < b.length then 1 else 0) ∧
        Mem.bytes t.mem (bar0Mem (0x20100 + r.port.val * 0x1000)) (min 256 b.length) = b.take 256)) ∧
  (∀ (op : Nat) (r : CmdReq) (st det : Nat) (s : State), ∃ t : State, refused s op r st det = t.answer op r st det [] ∧
    t.dev.bridle.tasks = s.dev.bridle.tasks.erase { op := op, req := r } ∧ t.mem = s.mem ∧ OnlyRegs [R.OWN_PORT_REFUSED r.port] s
      { t with dev := { t.dev with free := s.dev.free, bridle := s.dev.bridle } } ∧
    t.dev.get (R.OWN_PORT_REFUSED r.port) = (s.dev.get (R.OWN_PORT_REFUSED r.port) + 1) % 2 ^ (R.OWN_PORT_REFUSED r.port).width)

/-- A write of PWR_DOMAIN: AON and CORE ignore REQ; 3, and 2 outside TEAM0 to TEAM3, are reserved and set REG_RSV_WRITE. A domain requested off that is not
used and needs no other, a domain requested on, and a TEAM domain that may doze go into TRANSIT; a request on while FABRIC is off powers FABRIC up as
well; a request on in DOZE wakes the domain; a refused request sets CFG_REJ. The transition ends at its target: a TEAM domain off loses its engine
memories and engines, on has engines IDLE, in DOZE holds the state of each engine, which the wake gives back with REQ 1. A domain that needs FABRIC stays
in TRANSIT until FABRIC is on. -/
def Obligations.PowerDomains : Prop :=
  (∀ (w : Writer) (d : Fin 9) (v : W32) (s : State), Grants s w (R.PWR_DOMAIN_REQ d) → v.toNat &&& 0xFFFFFCFC = 0 →
    (d.val < 2 → exec (.domainRequest w d v) s = .next s) ∧
    (2 ≤ d.val → (v.toNat % 4 = 3 ∨ (v.toNat % 4 = 2 ∧ (d.val < 3 ∨ 6 < d.val))) → ∃ t, exec (.domainRequest w d v) s = .next t ∧
      t.dev.get R.SYS_DIAG_REG_RSV_WRITE = 1 ∧ t.dev.pwr.moves = s.dev.pwr.moves ∧ t.mem = s.mem ∧
      ∀ k, t.dev.domain k = s.dev.domain k ∧ t.dev.get (R.PWR_DOMAIN_REQ k) = s.dev.get (R.PWR_DOMAIN_REQ k))) ∧
  (∀ (w : Writer) (d : Fin 9) (v : W32) (s : State), Grants s w (R.PWR_DOMAIN_REQ d) → v.toNat &&& 0xFFFFFCFC = 0 → 2 ≤ d.val → v.toNat % 4 = 0 →
    s.dev.get (R.PWR_DOMAIN_REQ d) ≠ 0 →
    (s.dev.domainUsed d = false → (d.val = 2 → ∀ i < 6, s.dev.domain (3 + i) = 0) → s.dev.domain d ≠ 0 → ∃ t, exec (.domainRequest w d v) s = .next t ∧
      t.dev.domain d = 2 ∧ t.dev.get (R.PWR_DOMAIN_REQ d) = 0 ∧ t.dev.pwr.moves = s.dev.pwr.moves.put d 0 ∧ t.mem = s.mem ∧
      ∀ k, k ≠ d.val → t.dev.domain k = s.dev.domain k) ∧
    ((s.dev.domainUsed d = true ∨ (d.val = 2 ∧ ∃ i < 6, s.dev.domain (3 + i) ≠ 0)) → ∃ t, exec (.domainRequest w d v) s = .next t ∧
      (t.dev.get R.SLP_EVT).testBit 7 = true ∧ OnlyRegsEv [R.SLP_EVT] s t)) ∧
  (∀ (w : Writer) (d : Fin 9) (v : W32) (s : State), Grants s w (R.PWR_DOMAIN_REQ d) → v.toNat &&& 0xFFFFFCFC = 0 → 2 ≤ d.val → v.toNat % 4 = 1 →
    s.dev.get (R.PWR_DOMAIN_REQ d) ≠ 1 ∨ s.dev.domain d = 3 →
    (s.dev.domain d = 0 → ∃ t, exec (.domainRequest w d v) s = .next t ∧ t.dev.domain d = 2 ∧ t.dev.get (R.PWR_DOMAIN_REQ d) = 1 ∧ t.mem = s.mem ∧
      Tab.find? t.dev.pwr.moves d = some 1 ∧ (d.val ≠ 2 → s.dev.domain 2 = 0 → t.dev.domain 2 = 2 ∧ t.dev.get (R.PWR_DOMAIN_REQ 2) = 1 ∧
        Tab.find? t.dev.pwr.moves 2 = some 1) ∧ (s.dev.domain 2 ≠ 0 → d.val ≠ 2 → t.dev.domain 2 = s.dev.domain 2)) ∧
    (s.dev.domain d = 3 → ∃ t, exec (.domainRequest w d v) s = .next t ∧ t.dev.pwr.dozeWake.contains (d.val - 3) = true ∧
      OnlyRegsEv [R.PWR_DOMAIN_REQ d] s t ∧ t.dev.get (R.PWR_DOMAIN_REQ d) = 1)) ∧
  (∀ (w : Writer) (d : Fin 9) (v : W32) (s : State), Grants s w (R.PWR_DOMAIN_REQ d) → v.toNat &&& 0xFFFFFCFC = 0 → 3 ≤ d.val → d.val ≤ 6 →
    v.toNat % 4 = 2 → s.dev.get (R.PWR_DOMAIN_REQ d) ≠ 2 → s.dev.domain d ≠ 3 →
    (s.dev.domain d = 1 → s.dev.mayDoze d = true → ∃ t, exec (.domainRequest w d v) s = .next t ∧ t.dev.domain d = 2 ∧
      t.dev.get (R.PWR_DOMAIN_REQ d) = 2 ∧ t.dev.pwr.moves = s.dev.pwr.moves.put d 3 ∧ OnlyRegsEv [R.PWR_DOMAIN_REQ d, R.PWR_DOMAIN_STATE d, R.SLP_EVT] s t) ∧
    ((s.dev.domain d ≠ 1 ∨ s.dev.mayDoze d = false) → ∃ t, exec (.domainRequest w d v) s = .next t ∧ (t.dev.get R.SLP_EVT).testBit 7 = true ∧
      OnlyRegsEv [R.SLP_EVT] s t)) ∧
  (∀ (d : Fin 9) (s : State), Tab.find? s.dev.pwr.moves d = none → exec (.domainTransitionDone d) s = .next s) ∧
  (∀ (d : Fin 9) (s : State), Tab.find? s.dev.pwr.moves d = some 1 → d.val ≠ 2 → s.dev.domain 2 ≠ 1 → exec (.domainTransitionDone d) s = .next s) ∧
  (∀ (d : Fin 9) (st : Nat) (s : State), Tab.find? s.dev.pwr.moves d = some st → st < 4 → (st = 1 → d.val = 2 ∨ s.dev.domain 2 = 1) →
    (st = 3 → 3 ≤ d.val ∧ d.val < 7) →
    ∃ t, exec (.domainTransitionDone d) s = .next t ∧ t.dev.domain d = st ∧ (∀ k, k ≠ d.val → k < 9 → t.dev.domain k = s.dev.domain k) ∧
      (3 ≤ d.val → d.val < 7 → ∀ e, (d.val - 3) * 12 ≤ e → e < (d.val - 3) * 12 + 12 →
        (st = 0 → t.dev.engState e = 0 ∧ t.dev.engine e = {}) ∧ (st = 1 → t.dev.engState e = 1 ∧ t.dev.engine e = {}) ∧
        (st < 2 → ∀ a < 0x20000, Mem.byte t.mem (engBase e + a) = 0) ∧
        (st = 3 → t.dev.engState e = 7 ∧ (t.dev.engine e).saved = s.dev.engState e ∧ t.mem = s.mem)) ∧
      (d.val = 2 → st = 1 → t.dev.get R.SW_STATUS_READY = 1) ∧ ((d.val < 3 ∨ 7 ≤ d.val) → t.mem = s.mem)) ∧
  (∀ (i : Fin 4) (s : State), s.dev.pwr.dozeWake.contains i.val = false → exec (.dozeWake i) s = .next s) ∧
  (∀ (i : Fin 4) (s : State), s.dev.pwr.dozeWake.contains i.val = true → s.dev.domain (3 + i) = 3 →
    ∃ t, exec (.dozeWake i) s = .next t ∧ t.dev.domain (3 + i) = 1 ∧ t.dev.get (R.PWR_DOMAIN_REQ (3 + i)) = 1 ∧
      ((∀ e, 12 * i.val ≤ e → e < 12 * i.val + 12 → (s.dev.engine e).saved < 7) → t.dev.pwr.dozeWake.contains i.val = false) ∧
      t.mem = s.mem ∧ ∀ e, 12 * i.val ≤ e → e < 12 * i.val + 12 → (s.dev.engine e).saved < 7 → t.dev.engState e = (s.dev.engine e).saved ∧
        (t.dev.engine e).dozed = 0 ∧ (t.dev.engine e).evPend &&& ((s.dev.engine e).evPend ||| (s.dev.engine e).dozed) =
          (s.dev.engine e).evPend ||| (s.dev.engine e).dozed)

/-- A TOKEN for this node, on its followed lane or its CAN network while AWAKE, is answered REFUSE without consent, or with a wake request still to be
answered; with consent it is passed to NEXT on CAN, on the Harness answered CONSENT by a node without members; a node that has been awake for its maximum
consents forced. A CONSENT of the visited member goes on to the next visit, and after the last one the leader sends COMMIT. A REFUSE, or a visit not
answered in time, ends the leader's round with RESULT 2 or 3 and the node. A COMMIT takes the network to COMMITTED with its entry. Messages that are not
for this node, of another round, or on a network that takes no part, change nothing. -/
def Obligations.SleepRounds : Prop :=
  (∀ (k : Fin 9) (lane : Fin 16) (m : SleepMsg) (round : Byte) (v : BitVec 40) (s : State), s.dev.netOn k = false →
    exec (.token k lane m) s = .next s ∧ exec (.refuse k lane m) s = .next s ∧ exec (.commit k lane round v) s = .next s) ∧
  (∀ (lane : Fin 16) (m : SleepMsg) (s : State), (s.dev.followed ≠ some lane.val ∨ m.dest.toNat ≠ s.dev.get R.HN_CTRL_NODE_ID ∨ s.dev.netState 0 ≠ 0) →
    exec (.token 0 lane m) s = .next s) ∧
  (∀ (lane : Fin 16) (m : SleepMsg) (s : State), s.dev.netOn 0 = true → s.dev.followed = some lane.val → m.dest.toNat = s.dev.get R.HN_CTRL_NODE_ID →
    s.dev.netState 0 = 0 → (s.dev.sleepNet 0).wakeReq = false → s.dev.on (R.SLP_CONSENT_CONSENT 0) = false →
    s.dev.slpAwake 0 < s.dev.get (R.SLP_MAX_AWAKE 0) → ∃ t, exec (.token 0 lane m) s = .next t ∧ (t.dev.sleepNet 0).tokenOut = false ∧
      t.dev.out = s.dev.out ++ [.sleepMsg 0 lane { type := 3, round := m.round, dest := m.dest, cause := m.dest }] ∧
      OnlyRegsEv [R.SLP_NET_STATUS_ROUND 0, R.SLP_NET_STATUS_FORCED 0] s t ∧ t.dev.get (R.SLP_NET_STATUS_ROUND 0) = m.round.toNat ∧
      t.dev.get (R.SLP_NET_STATUS_FORCED 0) = 0) ∧
  (∀ (lane : Fin 16) (m : SleepMsg) (s : State), s.dev.netOn 0 = true → s.dev.followed = some lane.val → m.dest.toNat = s.dev.get R.HN_CTRL_NODE_ID →
    s.dev.netState 0 = 0 → (s.dev.sleepNet 0).wakeReq = false → s.dev.on (R.SLP_CONSENT_CONSENT 0) = true → s.dev.lanesOf [3] = [] →
    ∃ t, exec (.token 0 lane m) s = .next t ∧ (t.dev.sleepNet 0).tokenOut = true ∧
      t.dev.out = s.dev.out ++ [.sleepMsg 0 lane { type := 2, round := m.round, dest := m.dest }] ∧
      OnlyRegsEv [R.SLP_NET_STATUS_ROUND 0, R.SLP_NET_STATUS_FORCED 0] s t ∧ t.dev.get (R.SLP_NET_STATUS_ROUND 0) = m.round.toNat ∧
      t.dev.get (R.SLP_NET_STATUS_FORCED 0) = 0) ∧
  (∀ (k : Fin 9) (lane : Fin 16) (m : SleepMsg) (s : State), 0 < k.val → s.dev.netOn k = true → s.dev.on (R.SLP_NET_CFG_LEADER k) = false →
    m.dest.toNat = s.dev.get (R.SLP_NET_CFG_POS k) → s.dev.netState k = 0 → (s.dev.sleepNet k).wakeReq = false → s.dev.pwr.outbox = [] →
    s.dev.txbBusy (k - 1) 2 = true → let pos : BitVec 16 := BitVec.ofNat 16 (s.dev.get (R.SLP_NET_CFG_POS k))
    (s.dev.on (R.SLP_CONSENT_CONSENT k) = true → ∃ t, exec (.token k lane m) s = .next t ∧ (t.dev.sleepNet k).tokenOut = true ∧ t.mem = s.mem ∧
      ∃ c f, t.dev.pwr.outbox = [(k.val, { type := 1, round := m.round, dest := BitVec.ofNat 16 (s.dev.get (R.SLP_NET_CFG_NEXT k)), src := pos, cause := c, flags := f })] ∧
        (m.flags.getLsbD 0 = false → c = 0xFF ∧ f = 0) ∧ (m.flags.getLsbD 0 = true → c = m.cause ∧ f = 1)) ∧
    (s.dev.on (R.SLP_CONSENT_CONSENT k) = false → s.dev.slpAwake k < s.dev.get (R.SLP_MAX_AWAKE k) → ∃ t, exec (.token k lane m) s = .next t ∧
      (t.dev.sleepNet k).tokenOut = false ∧ t.dev.pwr.outbox = [(k.val, { type := 3, round := m.round, src := pos, cause := pos })]) ∧
    (s.dev.on (R.SLP_CONSENT_CONSENT k) = false → s.dev.get (R.SLP_MAX_AWAKE k) ≤ s.dev.slpAwake k → ∃ t, exec (.token k lane m) s = .next t ∧
      (t.dev.sleepNet k).tokenOut = true ∧ t.dev.get (R.SLP_NET_STATUS_FORCED k) = 1 ∧ (t.dev.get R.SLP_EVT).testBit 4 = true)) ∧
  (∀ (lane : Fin 16) (m : SleepMsg) (s : State),
    ((s.dev.sleepNet 0).visit ≠ some lane.val ∨ s.dev.netState 0 ≠ 1 ∨ m.round.toNat ≠ s.dev.get (R.SLP_NET_STATUS_ROUND 0)) →
    exec (.consent lane m) s = .next s) ∧
  (∀ (lane : Fin 16) (m : SleepMsg) (p : Nat) (rest : List Nat) (s : State), (s.dev.sleepNet 0).visit = some lane.val → s.dev.netState 0 = 1 →
    m.round.toNat = s.dev.get (R.SLP_NET_STATUS_ROUND 0) → (s.dev.sleepNet 0).wakeReq = false → (s.dev.sleepNet 0).todo = p :: rest →
    ∃ t, exec (.consent lane m) s = .next t ∧ (t.dev.sleepNet 0).visit = some p ∧ (t.dev.sleepNet 0).todo = rest ∧ t.dev.regs = s.dev.regs ∧
      t.mem = s.mem ∧ t.dev.out = s.dev.out ++ [.sleepMsg 0 p { type := 1, round := m.round, dest := BitVec.ofNat 16 (s.dev.get (R.HN_LANE_STATUS_MEMBER_ID p)) }]) ∧
  (∀ (lane : Fin 16) (m : SleepMsg) (s : State), (s.dev.sleepNet 0).visit = some lane.val → s.dev.netState 0 = 1 →
    m.round.toNat = s.dev.get (R.SLP_NET_STATUS_ROUND 0) → (s.dev.sleepNet 0).wakeReq = false → (s.dev.sleepNet 0).todo = [] →
    (s.dev.sleepNet 0).token = none → ∃ t, exec (.consent lane m) s = .next t ∧ t.dev.netState 0 = 2 ∧ t.dev.get (R.SLP_NET_STATUS_RESULT 0) = 1 ∧
      (t.dev.sleepNet 0).entry = (s.dev.stride.last + s.dev.get (R.SLP_NET_CFG_DELAY 0)) % 2 ^ 40 ∧ (t.dev.sleepNet 0).visit = none ∧ t.mem = s.mem ∧
      (t.dev.get R.SLP_EVT).testBit 1 = true ∧ (t.dev.get R.SLP_EVT).testBit 2 = true) ∧
  (∀ (lane : Fin 16) (m : SleepMsg) (s : State), s.dev.netOn 0 = true → m.round.toNat = s.dev.get (R.SLP_NET_STATUS_ROUND 0) → s.dev.role lane = 3 →
    s.dev.netState 0 = 1 → (s.dev.sleepNet 0).token = none → ∃ t, exec (.refuse 0 lane m) s = .next t ∧ t.dev.netState 0 = 0 ∧ t.mem = s.mem ∧
      t.dev.get (R.SLP_NET_STATUS_RESULT 0) = (if m.flags.getLsbD 1 then 3 else 2) ∧ t.dev.get (R.SLP_NET_STATUS_NODE 0) = m.cause.toNat ∧
      (t.dev.get R.SLP_EVT).testBit 1 = true ∧ (t.dev.sleepNet 0).visit = none ∧ (t.dev.sleepNet 0).todo = []) ∧
  (∀ (k : Fin 9) (lane : Fin 16) (m : SleepMsg) (s : State), 0 < k.val → s.dev.netOn k = true → s.dev.on (R.SLP_NET_CFG_LEADER k) = true →
    m.round.toNat = s.dev.get (R.SLP_NET_STATUS_ROUND k) → (s.dev.netState k = 1 → ∃ t, exec (.refuse k lane m) s = .next t ∧ t.dev.netState k = 0 ∧
      t.dev.get (R.SLP_NET_STATUS_RESULT k) = (if m.flags.getLsbD 1 then 3 else 2) ∧ t.dev.get (R.SLP_NET_STATUS_NODE k) = m.cause.toNat) ∧
    (s.dev.netState k ≠ 1 → exec (.refuse k lane m) s = .next s)) ∧
  (∀ (k : Fin 9) (s : State), ((s.dev.sleepNet k).visit = none ∨ s.dev.netState k ≠ 1) → exec (.visitTimeout k) s = .next s) ∧
  (∀ (k : Fin 9) (v : Nat) (s : State), (s.dev.sleepNet k).visit = some v → s.dev.netState k = 1 → v < 2 ^ 16 → (k.val = 0 → (s.dev.sleepNet 0).token = none) →
    ∃ t, exec (.visitTimeout k) s = .next t ∧ t.dev.netState k = 0 ∧ t.dev.get (R.SLP_NET_STATUS_RESULT k) = 3 ∧ (t.dev.sleepNet k).visit = none ∧
      t.mem = s.mem ∧ t.dev.get (R.SLP_NET_STATUS_NODE k) = (if k.val = 0 then s.dev.get (R.HN_LANE_STATUS_MEMBER_ID v) else v)) ∧
  (∀ (lane : Fin 16) (round : Byte) (v : BitVec 40) (s : State), s.dev.netOn 0 = true → s.dev.netState 0 < 2 → s.dev.followed = some lane.val →
    ∃ t, exec (.commit 0 lane round v) s = .next t ∧ t.dev.netState 0 = 2 ∧ t.dev.get (R.SLP_NET_STATUS_RESULT 0) = 1 ∧
      t.dev.get (R.SLP_NET_STATUS_ROUND 0) = round.toNat ∧ (t.dev.sleepNet 0).entry = v.toNat ∧ t.mem = s.mem) ∧
  (∀ (k : Fin 9) (lane : Fin 16) (round : Byte) (v : BitVec 40) (s : State), 0 < k.val → s.dev.netOn k = true → s.dev.netState k < 2 →
    ∃ t, exec (.commit k lane round v) s = .next t ∧ t.dev.netState k = 2 ∧ t.dev.get (R.SLP_NET_STATUS_ROUND k) = round.toNat ∧
      (t.dev.sleepNet k).entry = s.dev.now + v.toNat % 65536 * 1000000 ∧ t.mem = s.mem) ∧
  (∀ (k : Fin 9) (lane : Fin 16) (round : Byte) (v : BitVec 40) (s : State), (s.dev.netState k = 2 ∨ s.dev.netState k = 3) →
    exec (.commit k lane round v) s = .next s)

/-- At the instant of entry a COMMITTED network goes ASLEEP, its lanes or controller are disabled, the stride stops when every other network sleeps,
and with DEV_SLEEP the device enters network sleep; the entry of network 0 waits for the base edge that COMMIT named, and a wake request pending wakes the
network again. A wake request is latched when enabled; on a network whose round runs it is answered at the next visit, and ends the round of a leader at
once; on a COMMITTED one it waits as WAKE_PEND, a sleeping one it wakes, and with the others that sleep; a disabled source, a pin that is not enabled, or
CAN and HARNESS of a network that does not sleep, do nothing. WAKE records the node and wakes a sleeping network as its wake source does; a node of an
awake network 0 sends it on to its other lanes. The wake timer acts while a network sleeps. KICK releases the outputs and restarts the continuous watch;
the watch's expiry asserts the outputs and disables every SerDes lane. -/
def Obligations.SleepAndWake : Prop :=
  (∀ (k : Fin 9) (s : State), s.dev.netState k ≠ 2 → exec (.sleepEntry k) s = .next s) ∧
  (∀ s : State, s.dev.netState 0 = 2 → s.dev.entryAhead = true → exec (.sleepEntry 0) s = .next s) ∧
  (∀ (k : Fin 9) (s : State), s.dev.netState k = 2 → (k = 0 → s.dev.entryAhead = false) → s.dev.on (R.SLP_NET_STATUS_WAKE_PEND k) = false →
    s.dev.on R.SLP_CFG_DEV_SLEEP = false →
    ∃ t, exec (.sleepEntry k) s = .next t ∧ t.dev.netState k = 3 ∧ t.dev.pwr.asleep = s.dev.pwr.asleep ∧ t.mem = s.mem ∧
      (0 < k.val → t.dev.canMode (k - 1) = 0) ∧ (k = 0 → ∀ p < 16, s.dev.role p ≠ 0 → t.dev.get (R.PORT_CTRL_EN p) = 0) ∧
      (∀ j < 9, j ≠ k.val → t.dev.netState j = s.dev.netState j) ∧
      ((∃ j < 9, j ≠ k.val ∧ s.dev.netOn j = true ∧ s.dev.netState j ≠ 3) → t.dev.get R.STRIDE_CTRL_RUN = s.dev.get R.STRIDE_CTRL_RUN) ∧
      ((∀ j < 9, j ≠ k.val → s.dev.netOn j = true → s.dev.netState j = 3) → t.dev.get R.STRIDE_CTRL_RUN = 0) ∧
      (s.dev.on R.SLP_CFG_WATCH_MODE = false → t.dev.pwr.watch = false)) ∧
  (∀ (k : Fin 9) (s : State), s.dev.netState k = 2 → (k = 0 → s.dev.entryAhead = false) → s.dev.on (R.SLP_NET_STATUS_WAKE_PEND k) = true →
    s.dev.on R.SLP_CFG_DEV_SLEEP = false → s.dev.pwr.asleep = false → ∃ t, exec (.sleepEntry k) s = .next t ∧
      (t.dev.netState k = 4 ∨ t.dev.netState k = 0) ∧ t.dev.get (R.SLP_NET_STATUS_WAKE_PEND k) = 0 ∧ t.dev.pwr.asleep = false) ∧
  (∀ s : State, s.dev.netState 0 = 2 → s.dev.entryAhead = false → s.dev.on (R.SLP_NET_STATUS_WAKE_PEND 0) = false →
    s.dev.on R.SLP_CFG_DEV_SLEEP = true →
    (∀ j < 9, j ≠ 0 → s.dev.netOn j = true → s.dev.netState j = 3) → ∃ t, exec (.sleepEntry 0) s = .next t ∧ t.dev.netState 0 = 3 ∧
      t.dev.pwr.asleep = true ∧ t.dev.pwr.moves = [] ∧ (∀ x, 0 < x → x < 9 → t.dev.domain x = 0) ∧ t.dev.domain 0 = s.dev.domain 0 ∧ t.mem = s.mem) ∧
  (∀ (src : Fin 8) (k : Fin 9) (pin : Fin 8) (s : State), ((s.dev.get R.SLP_WAKE_EN_SRC).testBit src = false ∨ (src.val < 2 ∧ s.dev.netState k ≠ 3) ∨
      (src = 3 ∧ (s.dev.get R.SLP_WAKE_EN_PINS).testBit pin = false)) → exec (.wakeRequest src k pin) s = .next s) ∧
  (∀ (src : Fin 8) (k : Fin 9) (pin : Fin 8) (s : State), (s.dev.get R.SLP_WAKE_EN_SRC).testBit src = true → 2 ≤ src.val →
    (src = 3 → (s.dev.get R.SLP_WAKE_EN_PINS).testBit pin = true) → s.dev.pwr.asleep = false → (∀ j ∈ s.dev.netsOn, s.dev.netState j = 1 ∨ s.dev.netState j = 2) →
    ∃ t, exec (.wakeRequest src k pin) s = .next t ∧ (t.dev.get R.SLP_WAKE_CAUSE).testBit src = true ∧ t.mem = s.mem ∧
      ∀ j ∈ s.dev.netsOn,
        (s.dev.netState j = 1 → s.dev.on (R.SLP_NET_CFG_LEADER j) = true → (s.dev.sleepNet j).token = none → t.dev.netState j = 0 ∧
          t.dev.get (R.SLP_NET_STATUS_RESULT j) = 2 ∧ (t.dev.get R.SLP_EVT).testBit 6 = true ∧ (t.dev.sleepNet j).visit = none) ∧
        (s.dev.netState j = 1 → (s.dev.on (R.SLP_NET_CFG_LEADER j) = false ∨ (s.dev.sleepNet j).token ≠ none) → t.dev.netState j = 1 ∧
          (t.dev.sleepNet j).wakeReq = true) ∧
        (s.dev.netState j = 2 → t.dev.netState j = 2 ∧ t.dev.get (R.SLP_NET_STATUS_WAKE_PEND j) = 1)) ∧
  (∀ (src : Fin 8) (k : Fin 9) (pin : Fin 8) (s : State), (s.dev.get R.SLP_WAKE_EN_SRC).testBit src = true → src.val < 2 → s.dev.netState k = 3 →
    s.dev.netOn k = true → s.dev.pwr.asleep = false → ∃ t, exec (.wakeRequest src k pin) s = .next t ∧
      (t.dev.get R.SLP_WAKE_CAUSE).testBit src = true ∧ (t.dev.netState k = 4 ∨ t.dev.netState k = 0) ∧
      ∀ j < 9, s.dev.netOn j = true → s.dev.netState j = 3 → t.dev.netState j ≠ 3) ∧
  (∀ (src : Fin 8) (k : Fin 9) (pin : Fin 8) (s : State), (s.dev.get R.SLP_WAKE_EN_SRC).testBit src = true → 2 ≤ src.val →
    (src = 3 → (s.dev.get R.SLP_WAKE_EN_PINS).testBit pin = true) → s.dev.pwr.asleep = true →
    ∃ t, exec (.wakeRequest src k pin) s = .next t ∧ t.dev.pwr.asleep = false ∧ t.dev.sys.starting = true) ∧
  (∀ (k : Fin 9) (lane : Fin 16) (node : Option (BitVec 16)) (s : State), s.dev.netOn k = false → exec (.wake k lane node) s = .next s) ∧
  (∀ (k : Fin 9) (lane : Fin 16) (n : BitVec 16) (s : State), s.dev.netOn k = true → s.dev.netState k ≠ 3 → (k.val = 0 → s.dev.netState 0 ≠ 2) →
    ∃ t, exec (.wake k lane (some n)) s = .next t ∧ t.dev.get (R.SLP_NET_STATUS_NODE k) = n.toNat ∧ KeepsRegs [R.SLP_NET_STATUS_NODE k] s t ∧
      t.dev.out = s.dev.out ++ (if k.val = 0 then ((s.dev.lanesOf [1, 3]).filter (fun p => p != lane.val)).map (fun p => .hnCtl p 0x11 (n.toNat * 2 ^ 32)) else [])) ∧
  (∀ (k : Fin 9) (lane : Fin 16) (s : State), s.dev.netState k ≠ 3 → exec (.wake k lane none) s = .next s) ∧
  (∀ (k : Fin 9) (lane : Fin 16) (s : State), s.dev.netOn k = true → s.dev.netState k = 3 →
    exec (.wake k lane none) s = exec (.wakeRequest (if k = 0 then 1 else 0) k 0) s) ∧
  (∀ (k : Fin 9) (lane : Fin 16) (n : BitVec 16) (s : State), s.dev.netOn k = true → s.dev.netState k = 3 →
    ((s.dev.get R.SLP_WAKE_EN_SRC).testBit (if k = 0 then 1 else 0) = false → ∃ t, exec (.wake k lane (some n)) s = .next t ∧
      OnlyRegs [R.SLP_NET_STATUS_NODE k] s t ∧ t.dev.get (R.SLP_NET_STATUS_NODE k) = n.toNat) ∧
    ((s.dev.get R.SLP_WAKE_EN_SRC).testBit (if k = 0 then 1 else 0) = true → s.dev.pwr.asleep = false → ∃ t, exec (.wake k lane (some n)) s = .next t ∧
      t.dev.get (R.SLP_NET_STATUS_NODE k) = n.toNat ∧ (t.dev.get R.SLP_WAKE_CAUSE).testBit (if k = 0 then 1 else 0) = true ∧
      (t.dev.netState k = 4 ∨ t.dev.netState k = 0) ∧ ∀ j < 9, s.dev.netOn j = true → s.dev.netState j = 3 → t.dev.netState j ≠ 3)) ∧
  (∀ (lane : Fin 16) (n : BitVec 16) (s : State), s.dev.netOn 0 = true → s.dev.netState 0 = 2 → s.dev.pwr.asleep = false →
    ∃ t, exec (.wake 0 lane (some n)) s = .next t ∧ t.dev.get (R.SLP_NET_STATUS_NODE 0) = n.toNat ∧ t.dev.netState 0 = 2 ∧ t.mem = s.mem ∧
      ((s.dev.get R.SLP_WAKE_EN_SRC).testBit 1 = true → (t.dev.get R.SLP_WAKE_CAUSE).testBit 1 = true ∧ t.dev.get (R.SLP_NET_STATUS_WAKE_PEND 0) = 1) ∧
      ((s.dev.get R.SLP_WAKE_EN_SRC).testBit 1 = false → OnlyRegs [R.SLP_NET_STATUS_NODE 0] s t)) ∧
  (∀ s : State, (s.dev.get R.SLP_WAKE_TIMER = 0 ∨ ∀ j ∈ s.dev.netsOn, s.dev.netState j ≠ 3) → exec .wakeTimerExpiry s = .next s) ∧
  (∀ s : State, s.dev.get R.SLP_WAKE_TIMER ≠ 0 → (∃ j ∈ s.dev.netsOn, s.dev.netState j = 3) →
    exec .wakeTimerExpiry s = .next (s.wakeRequest 5 s.dev.netsOn)) ∧
  (∀ (w : Writer) (s : State), Grants s w R.SLP_KICK_WAKE → exec (.slpKickWake w) s = .next (s.wakeRequest 6 s.dev.netsOn)) ∧
  (∀ (w : Writer) (s : State), Grants s w R.SLP_KICK_WAKE → ∃ t, exec (.kick w) s = .next t ∧ t.dev.pwr.failsafe = false ∧ t.dev.regs = s.dev.regs ∧
    t.mem = s.mem ∧ t.dev.pwr.watch = (if s.dev.on R.SLP_CFG_WATCH_MODE then s.dev.on R.SLP_CFG_WATCH_EN else s.dev.pwr.watch)) ∧
  (∀ s : State, s.dev.pwr.watch = false → exec .sleepWatchExpiry s = .next s) ∧
  (∀ s : State, s.dev.pwr.watch = true → ∃ t, exec .sleepWatchExpiry s = .next t ∧ t.dev.pwr.failsafe = true ∧
    t.dev.pwr.watch = s.dev.on R.SLP_CFG_WATCH_MODE ∧ (∀ p < 16, t.dev.get (R.PORT_CTRL_EN p) = 0) ∧ (t.dev.get R.SLP_EVT).testBit 5 = true ∧
    t.mem = s.mem ∧ ∀ n < 16, s.dev.get (R.TRX_SLP_CFG_SRC n) ≠ 0 → t.dev.pwr.trx.testBit n = true)

/-- A write of EV_CFG with a reserved value is dropped as a whole and sets REG_RSV_WRITE; any other write takes every field. CLR_CNT clears every counter.
The generation of the keys before PROVISIONED makes the key valid. A lost 156.25 MHz reference sets CLK_LOSS, a lost 25 MHz reference holds the device in
reset, a lost 32.768 kHz reference sets OSC_FAIL; the return of the 25 MHz reference restarts the device with its cause. A temperature sample is shown in
SYS_TEMP; from the warning value on it sets THERM_WARN when armed and disarms it, 5 °C below it arms it again, at 130 °C every domain but AON goes off, and
below 110 °C the device restarts. The swap edge makes a pending activation once every gait in use has an edge. -/
def Obligations.EventRoutesAndSensors : Prop :=
  (∀ (w : Writer) (k : Fin 256) (v : W32) (s : State), Grants s w (R.EV_CFG_EN k) →
    (s.dev.evCfgReserved v.toNat = true → ∃ t, exec (.evCfgWrite w k v) s = .next t ∧ t.dev.get R.SYS_DIAG_REG_RSV_WRITE = 1 ∧ t.mem = s.mem ∧
      ∀ i < 256, t.dev.get (R.EV_CFG_EN i) = s.dev.get (R.EV_CFG_EN i) ∧ t.dev.get (R.EV_CFG_KIND i) = s.dev.get (R.EV_CFG_KIND i) ∧
        t.dev.get (R.EV_CFG_ENGINE i) = s.dev.get (R.EV_CFG_ENGINE i) ∧ t.dev.get (R.EV_CFG_TARGET i) = s.dev.get (R.EV_CFG_TARGET i)) ∧
    (s.dev.evCfgReserved v.toNat = false → ∃ t, exec (.evCfgWrite w k v) s = .next t ∧ t.dev.get (R.EV_CFG_EN k) = v.toNat / 2 ^ 15 % 2 ∧
      t.dev.get (R.EV_CFG_KIND k) = v.toNat / 2 ^ 13 % 4 ∧ t.dev.get (R.EV_CFG_ENGINE k) = v.toNat / 2 ^ 4 % 64 ∧
      t.dev.get (R.EV_CFG_TARGET k) = v.toNat % 16 ∧ t.mem = s.mem)) ∧
  (∀ (d : Dev) (v : Nat), (v / 2 ^ 13 % 4 = 3 ∨ (v / 2 ^ 13 % 4 = 1 ∧ 4 ≤ v % 16) ∨ (v / 2 ^ 13 % 4 = 2 ∧ 48 ≤ v / 2 ^ 4 % 64)) →
    d.evCfgReserved v = true) ∧
  (∀ (d : Dev) (v : Nat), (v / 2 ^ 13 % 4 = 0 ∨ (v / 2 ^ 13 % 4 = 1 ∧ v % 16 < 4)) → d.evCfgReserved v = false) ∧
  (∀ (w : Writer) (s : State), s.dev.mayWrite w 0x30440 = true → ∃ t, exec (.evClrCnt w) s = .next t ∧ OnlyRegs ((List.range 256).map R.EV_CFG_CNT) s t ∧
    ∀ i < 256, t.dev.get (R.EV_CFG_CNT i) = 0) ∧
  (∀ s : State, s.dev.get R.SEC_STATUS_LIFECYCLE = 0 → s.dev.upd.hasKey = false → ∃ t, exec .keyGenerationDone s = .next t ∧
    t.dev.upd = { s.dev.upd with hasKey := true } ∧ t.dev.get R.SEC_STATUS_KEY_VALID = 1 ∧ KeepsRegs [R.SEC_STATUS_KEY_VALID] s t) ∧
  (∀ s : State, (s.dev.get R.SEC_STATUS_LIFECYCLE ≠ 0 ∨ s.dev.upd.hasKey = true) → exec .keyGenerationDone s = .next s) ∧
  (∀ (r : Fin 3) (s : State), s.dev.sys.lost.contains r.val = true → exec (.referenceLoss r) s = .next s) ∧
  (∀ (r : Fin 3) (s : State), s.dev.sys.lost.contains r.val = false → exec (.referenceReturn r) s = .next s) ∧
  (∀ s : State, s.dev.sys.lost.contains 0 = false → ∃ t, exec (.referenceLoss 0) s = .next t ∧ t.dev.get R.SYS_CLK_REF156_OK = 0 ∧
    t.dev.get R.SYS_DIAG_CLK_LOSS = 1 ∧ (∀ p < 16, t.dev.linkUp p = false) ∧ t.dev.sys = { s.dev.sys with lost := s.dev.sys.lost ++ [0] } ∧ t.mem = s.mem) ∧
  (∀ s : State, s.dev.sys.lost.contains 1 = false → ∃ t, exec (.referenceLoss 1) s = .next t ∧ t.dev.get R.SYS_CLK_REF25_OK = 0 ∧
    (t.dev.get R.SYS_RESET_CAUSE).testBit 3 = true ∧ t.dev.isHeld = true ∧ t.dev.coreOn = false ∧ OnlyRegs [R.SYS_CLK_REF25_OK, R.SYS_RESET_CAUSE]
      s { t with dev := { t.dev with sys := s.dev.sys, out := s.dev.out } }) ∧
  (∀ s : State, s.dev.sys.lost.contains 2 = false → ∃ t, exec (.referenceLoss 2) s = .next t ∧ t.dev.get R.SYS_CLK_RTC_OK = 0 ∧
    t.dev.get R.RTC_STATUS_OSC_FAIL = 1 ∧ t.dev.get R.RTC_STATUS_VALID = 0 ∧ t.mem = s.mem) ∧
  (∀ s : State, s.dev.sys.lost.contains 0 = true → ∃ t, exec (.referenceReturn 0) s = .next t ∧ t.dev.get R.SYS_CLK_REF156_OK = 1 ∧
    t.dev.sys.lost = s.dev.sys.lost.filter (fun x => x != 0) ∧ KeepsRegs [R.SYS_CLK_REF156_OK] s t) ∧
  (∀ s : State, s.dev.sys.lost.contains 1 = true → ∃ t, exec (.referenceReturn 1) s = .next t ∧ t.dev.sys.starting = true ∧ t.dev.sys.cold = true ∧
    (t.dev.get R.SYS_RESET_CAUSE).testBit 3 = true ∧ t.dev.sys.lost.contains 1 = false ∧ t.mem = Mem.mramOnly s.mem) ∧
  (∀ s : State, s.dev.sys.lost.contains 2 = true → ∃ t, exec (.referenceReturn 2) s = .next t ∧ t.dev.get R.SYS_CLK_RTC_OK = 1 ∧
    KeepsRegs [R.SYS_CLK_RTC_OK] s t) ∧
  (∀ (v : BitVec 16) (s : State), (s.dev.sys.test = true ∨ s.dev.sys.lost.contains 1 = true) → exec (.tempSample v) s = .next s) ∧
  (∀ (v : BitVec 16) (s : State), s.dev.sys.test = false → s.dev.sys.lost.contains 1 = false → s.dev.sys.hot = false → v.toInt < 520 →
    let warn := toSigned 16 (s.dev.get R.SYS_THERM_WARN);
    ∃ t, exec (.tempSample v) s = .next t ∧ t.dev.get R.SYS_TEMP = v.toNat ∧ t.mem = s.mem ∧
      OnlyRegsEv [R.SYS_TEMP, R.SYS_DIAG_THERM_WARN] s { t with dev := { t.dev with sys := s.dev.sys } } ∧
      (s.dev.sys.armed = true → warn ≤ v.toInt → t.dev.get R.SYS_DIAG_THERM_WARN = 1 ∧ t.dev.sys.armed = false) ∧
      (s.dev.sys.starting = false → v.toInt ≤ warn - 20 → t.dev.sys.armed = true ∧ t.dev.get R.SYS_DIAG_THERM_WARN = s.dev.get R.SYS_DIAG_THERM_WARN) ∧
      (warn - 20 < v.toInt → v.toInt < warn → t.dev.sys.armed = s.dev.sys.armed)) ∧
  (∀ (v : BitVec 16) (s : State), s.dev.sys.test = false → s.dev.sys.lost.contains 1 = false → s.dev.sys.hot = false → 520 ≤ v.toInt →
    ∃ t, exec (.tempSample v) s = .next t ∧ t.dev.sys.hot = true ∧ (∀ x, 0 < x → x < 9 → t.dev.domain x = 0) ∧ t.mem = s.mem ∧
      (t.dev.get R.SYS_RESET_CAUSE).testBit 4 = true ∧ t.dev.coreOn = false ∧ ∀ n < 16, s.dev.get (R.TRX_SLP_CFG_SRC n) ≠ 0 → t.dev.pwr.trx.testBit n = true) ∧
  (∀ (v : BitVec 16) (s : State), s.dev.sys.test = false → s.dev.sys.lost.contains 1 = false → s.dev.sys.hot = true →
    (440 ≤ v.toInt → ∃ t, exec (.tempSample v) s = .next t ∧ OnlyRegs [R.SYS_TEMP] s t ∧ t.dev.get R.SYS_TEMP = v.toNat) ∧
    (v.toInt < 440 → ∃ t, exec (.tempSample v) s = .next t ∧ t.dev.sys.hot = false ∧ t.dev.sys.starting = true ∧
      (t.dev.get R.SYS_RESET_CAUSE).testBit 4 = true ∧ t.mem = Mem.mramOnly s.mem)) ∧
  (∀ s : State, s.dev.upd.swap = none → exec .activationSwap s = .next s) ∧
  (∀ (c : Configuration) (x : ImageInfo) (s : State), s.dev.upd.swap = some (c, x) → s.poweredFor c = true →
    (s.dev.swapWaits = true → s.dev.on R.STRIDE_STATUS_RUNNING = true ∧ s.dev.swapIndex s.dev.stride.last = true) →
    exec .activationSwap s = .next (s.swapIn c x) ∧ (s.swapIn c x).dev.upd.swap = none ∧ (s.swapIn c x).dev.upd.active = x.config.isSome ∧
      (s.swapIn c x).dev.upd.insts = c.insts ∧ (s.swapIn c x).pending = s.pending) ∧
  (∀ (c : Configuration) (x : ImageInfo) (s : State), s.dev.upd.swap = some (c, x) →
    (s.poweredFor c = false ∨ (s.dev.swapWaits = true ∧ (s.dev.on R.STRIDE_STATUS_RUNNING = false ∨ s.dev.swapIndex s.dev.stride.last = false))) →
    exec .activationSwap s = .next s)

/-- POR_N resets everything but the battery domain and MRAM, sets the cause POR alone and leaves the device starting. A warm reset adds its cause, keeps
the memories but for the mailboxes, keeps the owner nowhere and samples no strap; a device that is held stays held; RESET's warm reset comes at its time.
TEST_EN holds the device in reset. Start-up without a valid Pip stops the device; otherwise it loads the MRAM record or its defaults, sets BOOT_RESULT,
runs the Bridle, and enters RECOVERY when the stored image fails its check; BOOT_SEL is sampled only after a reset with the scope of power-on, a reserved
value sets STRAP_ERR. -/
def Obligations.ResetsAndStartup : Prop :=
  (∀ s : State, ∃ t, exec .powerOnReset s = .next t ∧ t.mem = Mem.mramOnly s.mem ∧ t.pending = s.pending ∧ t.dev.get R.SYS_RESET_CAUSE = 1 ∧
    t.dev.sys.starting = true ∧ t.dev.sys.cold = true ∧ t.dev.sys.test = false ∧ t.dev.sys.hot = false ∧ t.dev.sys.stopped = false ∧
    t.dev.sys.lost = s.dev.sys.lost ∧ t.dev.owner = none ∧ t.dev.get R.STRIDE_CTRL_RUN = 0 ∧ t.dev.get R.BRIDLE_STATUS_STATE = 0 ∧
    t.dev.upd.active = false ∧ t.dev.upd.session = none ∧ t.dev.upd.journal = s.dev.upd.journal ∧ t.dev.upd.root = s.dev.upd.root ∧
    t.dev.get R.RTC_SEC = s.dev.get R.RTC_SEC ∧ t.dev.get R.SEC_STATUS_LIFECYCLE = s.dev.get R.SEC_STATUS_LIFECYCLE ∧
    t.dev.get R.SEC_SIG_LEFT = s.dev.get R.SEC_SIG_LEFT ∧ t.dev.bridle = {} ∧ t.dev.fab = { resetAt := s.dev.now } ∧ t.dev.hn = {} ∧ t.dev.eng = []) ∧
  (∀ s : State, s.dev.isHeld = true → exec .warmReset s = .next s) ∧
  (∀ s : State, s.dev.isHeld = false → ∃ t, exec .warmReset s = .next t ∧ t.mem = Mem.clearRange s.mem (bar0Mem 0x20000) 0x10000 ∧
    t.pending = s.pending ∧ t.dev.get R.SYS_RESET_CAUSE = s.dev.get R.SYS_RESET_CAUSE ||| 2 ∧ t.dev.sys.starting = true ∧ t.dev.sys.cold = false ∧
    t.dev.owner = none ∧ t.dev.upd.active = false ∧ t.dev.get R.STRIDE_CTRL_RUN = 0 ∧ t.dev.get R.OWN_TIMEOUT = s.dev.host.record.ownTimeout % 2 ^ 16 ∧
    t.dev.get R.SYS_STRAP_BOOT_SEL = s.dev.get R.SYS_STRAP_BOOT_SEL ∧ t.dev.now = s.dev.now ∧ (∀ n, (t.dev.tb n).val = (s.dev.tb n).val) ∧
    (∀ e < 48, s.dev.domain (3 + e / 12) = 1 → t.dev.engState e = 1)) ∧
  (∀ s : State, s.dev.sys.warmAt = none → exec .warmCmd s = .next s) ∧
  (∀ s : State, s.dev.isHeld = true → exec .warmCmd s = .next s) ∧
  (∀ (at' : Nat) (s : State), s.dev.sys.warmAt = some at' → s.dev.isHeld = false → ∃ t, exec .warmCmd s = .next t ∧ t.dev.sys.warmAt = none ∧
    t.dev.sys.starting = true ∧ t.dev.sys.cold = false ∧ t.dev.get R.SYS_RESET_CAUSE = s.dev.get R.SYS_RESET_CAUSE ||| 4 ∧
    t.mem = Mem.clearRange s.mem (bar0Mem 0x20000) 0x10000 ∧ s.dev.now ≤ t.dev.now) ∧
  (∀ s : State, ∃ t, exec .testEnHigh s = .next t ∧ t.dev.sys.test = true ∧ t.dev.isHeld = true ∧ t.dev.coreOn = false ∧ t.mem = Mem.mramOnly s.mem) ∧
  (∀ (strap : Fin 8) (upset : Bool) (s : State), (s.dev.sys.starting = false ∨ s.dev.isHeld = true ∨ s.dev.pwr.asleep = true) → exec (.startup strap upset) s = .next s) ∧
  (∀ (strap : Fin 8) (upset : Bool) (s : State), s.dev.sys.starting = true → s.dev.isHeld = false → s.dev.pwr.asleep = false →
    Config.pipValid (Mem.bytes s.mem mramBase 0x10000) = false → ∃ t, exec (.startup strap upset) s = .next t ∧ t.dev.sys.stopped = true ∧ t.dev.coreOn = false ∧
      t.mem = s.mem ∧ t.dev.get R.BRIDLE_STATUS_STATE = s.dev.get R.BRIDLE_STATUS_STATE) ∧
  (∀ (strap : Fin 8) (upset : Bool) (s : State), s.dev.sys.starting = true → s.dev.isHeld = false → s.dev.pwr.asleep = false → s.dev.sys.cold = false ∨ strap.val = 1 ∨
      2 < strap.val → Config.pipValid (Mem.bytes s.mem mramBase 0x10000) = true → ∃ t, exec (.startup strap upset) s = .next t ∧ t.mem = s.mem ∧
      t.dev.sys.starting = false ∧ t.dev.sys.armed = true ∧ t.dev.get R.BRIDLE_STATUS_STATE = 1 ∧ t.dev.get R.SW_STATUS_READY = 1 ∧
      t.dev.host.record = (if recordOk s.dev.upd.record then recordOf s.dev.upd.record else {}) ∧
      t.dev.get R.SEC_STATUS_RECORD_BAD = (if recordOk s.dev.upd.record then 0 else 1) ∧ (bootCheck s.mem s.dev).1 = t.dev.get R.SEC_BOOT_RESULT ∧
      ((bootCheck s.mem s.dev).1 ≠ 0 → t.dev.get R.SEC_STATUS_RECOVERY = 1) ∧
      ((bootCheck s.mem s.dev).1 = 0 → t.dev.get R.SEC_VERSION = (imageInfo s.mem).version % 2 ^ 32 ∧ t.dev.get R.SEC_STATUS_STORED_VALID = 1) ∧
      (upset = true → t.dev.get R.SYS_DIAG_ECC_UNCORR = 1) ∧
      (s.dev.sys.cold = true → t.dev.get R.SYS_STRAP_BOOT_SEL = strap.val) ∧ (s.dev.sys.cold = true → 4 ≤ strap.val → t.dev.get R.SYS_DIAG_STRAP_ERR = 1) ∧
      (s.dev.sys.cold = false → t.dev.get R.SYS_STRAP_BOOT_SEL = s.dev.get R.SYS_STRAP_BOOT_SEL) ∧ t.dev.upd.active = s.dev.upd.active) ∧
  (∀ (strap : Fin 8) (upset : Bool) (s : State), s.dev.sys.starting = true → s.dev.isHeld = false → s.dev.pwr.asleep = false → s.dev.sys.cold = true →
    (strap.val = 0 ∨ strap.val = 2) → Config.pipValid (Mem.bytes s.mem mramBase 0x10000) = true → (bootCheck s.mem s.dev).1 ≠ 0 →
    ∃ t, exec (.startup strap upset) s = .next t ∧ t.mem = s.mem ∧ t.dev.sys.starting = false ∧ t.dev.get R.BRIDLE_STATUS_STATE = 1 ∧
      t.dev.get R.SEC_STATUS_RECOVERY = 1 ∧ t.dev.upd.active = s.dev.upd.active ∧ t.dev.get R.STRIDE_CTRL_RUN = s.dev.get R.STRIDE_CTRL_RUN)
end

