-- ==== Sys2Proof/Laws/Tab.lean ====
section
/-! SUPPORT. The laws of tables: a lookup after an insertion or a removal. -/

namespace Sys2Proof

theorem Tab.find?_put_same {α : Type} (t : Tab α) (k : Nat) (v : α) : Tab.find? (t.put k v) k = some v := by
  induction t with
  | nil => simp [Tab.put, Tab.find?]
  | cons e r ih =>
    obtain ⟨k', v'⟩ := e
    unfold Tab.put
    split
    · simp [Tab.find?]
    · split
      · simp [Tab.find?]
      · next h => simp only [Tab.find?]; rw [if_neg (Ne.symm h), ih]

theorem Tab.find?_put_ne {α : Type} (t : Tab α) (k j : Nat) (v : α) (h : j ≠ k) : Tab.find? (t.put k v) j = Tab.find? t j := by
  induction t with
  | nil => simp [Tab.put, Tab.find?, h.symm]
  | cons e r ih =>
    obtain ⟨k', v'⟩ := e
    unfold Tab.put
    split
    · simp [Tab.find?, h.symm]
    · split
      · next h2 => subst h2; simp [Tab.find?, h.symm]
      · simp only [Tab.find?, ih]

@[simp] theorem Tab.getD_put_same {α : Type} (t : Tab α) (k : Nat) (v x : α) : (t.put k v).getD k x = v := by
  simp [Tab.getD, Tab.find?_put_same]

theorem Tab.getD_put_ne {α : Type} (t : Tab α) (k j : Nat) (v x : α) (h : j ≠ k) : (t.put k v).getD j x = t.getD j x := by
  simp [Tab.getD, Tab.find?_put_ne t k j v h]

theorem Tab.find?_del_same {α : Type} (t : Tab α) (k : Nat) : Tab.find? (t.del k) k = none := by
  induction t with
  | nil => rfl
  | cons e r ih =>
    obtain ⟨k', v'⟩ := e
    by_cases h : k' = k
    · simpa [Tab.del, h] using ih
    · simpa [Tab.del, h, Tab.find?] using ih

theorem Tab.find?_del_ne {α : Type} (t : Tab α) (k j : Nat) (h : j ≠ k) : Tab.find? (t.del k) j = Tab.find? t j := by
  induction t with
  | nil => rfl
  | cons e r ih =>
    obtain ⟨k', v'⟩ := e
    by_cases hk : k' = k
    · subst hk; simpa [Tab.del, Tab.find?, h.symm] using ih
    · by_cases hj : k' = j
      · subst hj; simp [Tab.del, Tab.find?, hk]
      · simpa [Tab.del, Tab.find?, hk, hj] using ih

end Sys2Proof
end

