-- ==== Sys2Proof/Laws/RegFile.lean ====
section
/-! SUPPORT. The laws of the register file: a field read after a write of it or of another field, counters, lists of cleared fields,
the flag of a cause. -/

namespace Sys2Proof.Machine
open Sys2Proof

@[simp] theorem Dev.get_set_same (d : Dev) (f : Fld) (v : Nat) : (d.set f v).get f = v % 2 ^ f.width := by
  simp [Dev.get, Dev.set, Tab.find?_put_same]

theorem Dev.get_set_ne (d : Dev) (f g : Fld) (v : Nat) (h : g.key ≠ f.key) : (d.set f v).get g = d.get g := by
  simp [Dev.get, Dev.set, Tab.find?_put_ne _ _ _ _ h]

/-- A field after a write to any field: the case split that the two lemmas above make. -/
theorem Dev.get_set (d : Dev) (f g : Fld) (v : Nat) :
    (d.set f v).get g = if g.key = f.key then v % 2 ^ f.width % 2 ^ g.width else d.get g := by
  split
  · next h => simp [Dev.get, Dev.set, h, Tab.find?_put_same]
  · next h => exact Dev.get_set_ne d f g v h

/-- A field reads within its width. -/
theorem Dev.get_lt (d : Dev) (f : Fld) : d.get f < 2 ^ f.width := Nat.mod_lt _ (Nat.two_pow_pos _)

/-- A field depends on the register file alone. -/
theorem Dev.get_congr {d d' : Dev} (h : d'.regs = d.regs) (f : Fld) : d'.get f = d.get f := by simp [Dev.get, h]

theorem Dev.on_congr {d d' : Dev} (h : d'.regs = d.regs) (f : Fld) : d'.on f = d.on f := by simp [Dev.on, Dev.get_congr h]

theorem Dev.on_set_same (d : Dev) (f : Fld) (v : Nat) : (d.set f v).on f = (v % 2 ^ f.width != 0) := by simp [Dev.on]

theorem Dev.on_set_ne (d : Dev) (f g : Fld) (v : Nat) (h : g.key ≠ f.key) : (d.set f v).on g = d.on g := by
  simp [Dev.on, Dev.get_set_ne d f g v h]

theorem Dev.get_inc_same (d : Dev) (f : Fld) : (d.inc f).get f = (d.get f + 1) % 2 ^ f.width := by simp [Dev.inc]

theorem Dev.get_inc_ne (d : Dev) (f g : Fld) (h : g.key ≠ f.key) : (d.inc f).get g = d.get g := Dev.get_set_ne _ _ _ _ h

theorem Dev.get_addSat_same (d : Dev) (f : Fld) (n : Nat) : (d.addSat f n).get f = min (d.get f + n) (2 ^ f.width - 1) := by
  rw [Dev.addSat, Dev.get_set_same, Nat.mod_eq_of_lt]
  have := Nat.two_pow_pos f.width
  omega

/-- A field outside a cleared list keeps its value. -/
theorem Dev.get_clear_ne (d : Dev) (fs : List Fld) (g : Fld) (h : ∀ f ∈ fs, g.key ≠ f.key) : (d.clear fs).get g = d.get g := by
  induction fs generalizing d with
  | nil => rfl
  | cons f r ih =>
    rw [show d.clear (f :: r) = (d.set f 0).clear r from rfl, ih _ (fun x hx => h x (List.mem_cons_of_mem _ hx)),
      Dev.get_set_ne _ _ _ _ (h f List.mem_cons_self)]

/-- A field that reads 0 still does after a list is cleared. -/
theorem Dev.get_clear_zero (d : Dev) (fs : List Fld) (g : Fld) (h : d.get g = 0) : (d.clear fs).get g = 0 := by
  induction fs generalizing d with
  | nil => exact h
  | cons f r ih =>
    refine ih (d.set f 0) ?_
    rw [Dev.get_set]; split <;> simp [h]

/-- Every field of a cleared list reads 0. -/
theorem Dev.get_clear_mem (d : Dev) (fs : List Fld) (g : Fld) (h : g ∈ fs) : (d.clear fs).get g = 0 := by
  induction fs generalizing d with
  | nil => cases h
  | cons f r ih =>
    cases h with
    | head => exact Dev.get_clear_zero _ r g (by simp)
    | tail _ h => exact ih _ h

end Sys2Proof.Machine
end

