-- ==== Sys2Proof/Laws/State.lean ====
section
/-! SUPPORT. The laws of the named updates of the state: what each leaves as it was, field by field, and the value it puts. -/

namespace Sys2Proof.Machine
open Sys2Proof

/-! ### State updates -/

@[simp] theorem State.on_dev (s : State) (f : Dev → Dev) : (s.on f).dev = f s.dev := rfl
@[simp] theorem State.on_mem (s : State) (f : Dev → Dev) : (s.on f).mem = s.mem := rfl
@[simp] theorem State.on_pending (s : State) (f : Dev → Dev) : (s.on f).pending = s.pending := rfl
@[simp] theorem State.on_on (s : State) (f g : Dev → Dev) : (s.on f).on g = s.on (fun d => g (f d)) := rfl
@[simp] theorem State.on_id (s : State) : s.on (fun d => d) = s := rfl

/-! ### `Dev.set` -/

@[simp] theorem Dev.set_shadows (d : Dev) (f : Fld) (v : Nat) : (d.set f v).shadows = d.shadows := rfl
@[simp] theorem Dev.set_now (d : Dev) (f : Fld) (v : Nat) : (d.set f v).now = d.now := rfl
@[simp] theorem Dev.set_free (d : Dev) (f : Fld) (v : Nat) : (d.set f v).free = d.free := rfl
@[simp] theorem Dev.set_out (d : Dev) (f : Fld) (v : Nat) : (d.set f v).out = d.out := rfl
@[simp] theorem Dev.set_rdata (d : Dev) (f : Fld) (v : Nat) : (d.set f v).rdata = d.rdata := rfl
@[simp] theorem Dev.set_time (d : Dev) (f : Fld) (v : Nat) : (d.set f v).time = d.time := rfl
@[simp] theorem Dev.set_stride (d : Dev) (f : Fld) (v : Nat) : (d.set f v).stride = d.stride := rfl
@[simp] theorem Dev.set_img (d : Dev) (f : Fld) (v : Nat) : (d.set f v).img = d.img := rfl
@[simp] theorem Dev.set_orch (d : Dev) (f : Fld) (v : Nat) : (d.set f v).orch = d.orch := rfl
@[simp] theorem Dev.set_io (d : Dev) (f : Fld) (v : Nat) : (d.set f v).io = d.io := rfl
@[simp] theorem Dev.set_fab (d : Dev) (f : Fld) (v : Nat) : (d.set f v).fab = d.fab := rfl
@[simp] theorem Dev.set_net (d : Dev) (f : Fld) (v : Nat) : (d.set f v).net = d.net := rfl
@[simp] theorem Dev.set_hn (d : Dev) (f : Fld) (v : Nat) : (d.set f v).hn = d.hn := rfl
@[simp] theorem Dev.set_can (d : Dev) (f : Fld) (v : Nat) : (d.set f v).can = d.can := rfl
@[simp] theorem Dev.set_ser (d : Dev) (f : Fld) (v : Nat) : (d.set f v).ser = d.ser := rfl
@[simp] theorem Dev.set_eng (d : Dev) (f : Fld) (v : Nat) : (d.set f v).eng = d.eng := rfl
@[simp] theorem Dev.set_bridle (d : Dev) (f : Fld) (v : Nat) : (d.set f v).bridle = d.bridle := rfl
@[simp] theorem Dev.set_host (d : Dev) (f : Fld) (v : Nat) : (d.set f v).host = d.host := rfl
@[simp] theorem Dev.set_upd (d : Dev) (f : Fld) (v : Nat) : (d.set f v).upd = d.upd := rfl
@[simp] theorem Dev.set_pwr (d : Dev) (f : Fld) (v : Nat) : (d.set f v).pwr = d.pwr := rfl
@[simp] theorem Dev.set_sys (d : Dev) (f : Fld) (v : Nat) : (d.set f v).sys = d.sys := rfl
@[simp] theorem Dev.set_tap (d : Dev) (f : Fld) (v : Nat) : (d.set f v).tap = d.tap := rfl
@[simp] theorem Dev.engine_set (d : Dev) (f : Fld) (v : Nat) (i : Nat) : (d.set f v).engine i = d.engine i := rfl
@[simp] theorem Dev.tb_set (d : Dev) (f : Fld) (v : Nat) (i : Nat) : (d.set f v).tb i = d.tb i := rfl

/-! ### `Dev.emit` -/

@[simp] theorem Dev.emit_regs (d : Dev) (o : Output) : (d.emit o).regs = d.regs := rfl
@[simp] theorem Dev.emit_shadows (d : Dev) (o : Output) : (d.emit o).shadows = d.shadows := rfl
@[simp] theorem Dev.emit_now (d : Dev) (o : Output) : (d.emit o).now = d.now := rfl
@[simp] theorem Dev.emit_free (d : Dev) (o : Output) : (d.emit o).free = d.free := rfl
@[simp] theorem Dev.emit_rdata (d : Dev) (o : Output) : (d.emit o).rdata = d.rdata := rfl
@[simp] theorem Dev.emit_time (d : Dev) (o : Output) : (d.emit o).time = d.time := rfl
@[simp] theorem Dev.emit_stride (d : Dev) (o : Output) : (d.emit o).stride = d.stride := rfl
@[simp] theorem Dev.emit_img (d : Dev) (o : Output) : (d.emit o).img = d.img := rfl
@[simp] theorem Dev.emit_orch (d : Dev) (o : Output) : (d.emit o).orch = d.orch := rfl
@[simp] theorem Dev.emit_io (d : Dev) (o : Output) : (d.emit o).io = d.io := rfl
@[simp] theorem Dev.emit_fab (d : Dev) (o : Output) : (d.emit o).fab = d.fab := rfl
@[simp] theorem Dev.emit_net (d : Dev) (o : Output) : (d.emit o).net = d.net := rfl
@[simp] theorem Dev.emit_hn (d : Dev) (o : Output) : (d.emit o).hn = d.hn := rfl
@[simp] theorem Dev.emit_can (d : Dev) (o : Output) : (d.emit o).can = d.can := rfl
@[simp] theorem Dev.emit_ser (d : Dev) (o : Output) : (d.emit o).ser = d.ser := rfl
@[simp] theorem Dev.emit_eng (d : Dev) (o : Output) : (d.emit o).eng = d.eng := rfl
@[simp] theorem Dev.emit_bridle (d : Dev) (o : Output) : (d.emit o).bridle = d.bridle := rfl
@[simp] theorem Dev.emit_host (d : Dev) (o : Output) : (d.emit o).host = d.host := rfl
@[simp] theorem Dev.emit_upd (d : Dev) (o : Output) : (d.emit o).upd = d.upd := rfl
@[simp] theorem Dev.emit_pwr (d : Dev) (o : Output) : (d.emit o).pwr = d.pwr := rfl
@[simp] theorem Dev.emit_sys (d : Dev) (o : Output) : (d.emit o).sys = d.sys := rfl
@[simp] theorem Dev.emit_tap (d : Dev) (o : Output) : (d.emit o).tap = d.tap := rfl
@[simp] theorem Dev.get_emit (d : Dev) (o : Output) (g : Fld) : (d.emit o).get g = d.get g := rfl
@[simp] theorem Dev.on_emit (d : Dev) (o : Output) (g : Fld) : (d.emit o).on g = d.on g := rfl
@[simp] theorem Dev.engine_emit (d : Dev) (o : Output) (i : Nat) : (d.emit o).engine i = d.engine i := rfl
@[simp] theorem Dev.tb_emit (d : Dev) (o : Output) (i : Nat) : (d.emit o).tb i = d.tb i := rfl

/-! ### `Dev.setEngine` -/

@[simp] theorem Dev.setEngine_regs (d : Dev) (e : Nat) (x : EngSt) : (d.setEngine e x).regs = d.regs := rfl
@[simp] theorem Dev.setEngine_shadows (d : Dev) (e : Nat) (x : EngSt) : (d.setEngine e x).shadows = d.shadows := rfl
@[simp] theorem Dev.setEngine_now (d : Dev) (e : Nat) (x : EngSt) : (d.setEngine e x).now = d.now := rfl
@[simp] theorem Dev.setEngine_free (d : Dev) (e : Nat) (x : EngSt) : (d.setEngine e x).free = d.free := rfl
@[simp] theorem Dev.setEngine_out (d : Dev) (e : Nat) (x : EngSt) : (d.setEngine e x).out = d.out := rfl
@[simp] theorem Dev.setEngine_rdata (d : Dev) (e : Nat) (x : EngSt) : (d.setEngine e x).rdata = d.rdata := rfl
@[simp] theorem Dev.setEngine_time (d : Dev) (e : Nat) (x : EngSt) : (d.setEngine e x).time = d.time := rfl
@[simp] theorem Dev.setEngine_stride (d : Dev) (e : Nat) (x : EngSt) : (d.setEngine e x).stride = d.stride := rfl
@[simp] theorem Dev.setEngine_img (d : Dev) (e : Nat) (x : EngSt) : (d.setEngine e x).img = d.img := rfl
@[simp] theorem Dev.setEngine_orch (d : Dev) (e : Nat) (x : EngSt) : (d.setEngine e x).orch = d.orch := rfl
@[simp] theorem Dev.setEngine_io (d : Dev) (e : Nat) (x : EngSt) : (d.setEngine e x).io = d.io := rfl
@[simp] theorem Dev.setEngine_fab (d : Dev) (e : Nat) (x : EngSt) : (d.setEngine e x).fab = d.fab := rfl
@[simp] theorem Dev.setEngine_net (d : Dev) (e : Nat) (x : EngSt) : (d.setEngine e x).net = d.net := rfl
@[simp] theorem Dev.setEngine_hn (d : Dev) (e : Nat) (x : EngSt) : (d.setEngine e x).hn = d.hn := rfl
@[simp] theorem Dev.setEngine_can (d : Dev) (e : Nat) (x : EngSt) : (d.setEngine e x).can = d.can := rfl
@[simp] theorem Dev.setEngine_ser (d : Dev) (e : Nat) (x : EngSt) : (d.setEngine e x).ser = d.ser := rfl
@[simp] theorem Dev.setEngine_bridle (d : Dev) (e : Nat) (x : EngSt) : (d.setEngine e x).bridle = d.bridle := rfl
@[simp] theorem Dev.setEngine_host (d : Dev) (e : Nat) (x : EngSt) : (d.setEngine e x).host = d.host := rfl
@[simp] theorem Dev.setEngine_upd (d : Dev) (e : Nat) (x : EngSt) : (d.setEngine e x).upd = d.upd := rfl
@[simp] theorem Dev.setEngine_pwr (d : Dev) (e : Nat) (x : EngSt) : (d.setEngine e x).pwr = d.pwr := rfl
@[simp] theorem Dev.setEngine_sys (d : Dev) (e : Nat) (x : EngSt) : (d.setEngine e x).sys = d.sys := rfl
@[simp] theorem Dev.setEngine_tap (d : Dev) (e : Nat) (x : EngSt) : (d.setEngine e x).tap = d.tap := rfl
@[simp] theorem Dev.get_setEngine (d : Dev) (e : Nat) (x : EngSt) (g : Fld) : (d.setEngine e x).get g = d.get g := rfl
@[simp] theorem Dev.on_setEngine (d : Dev) (e : Nat) (x : EngSt) (g : Fld) : (d.setEngine e x).on g = d.on g := rfl
@[simp] theorem Dev.tb_setEngine (d : Dev) (e : Nat) (x : EngSt) (i : Nat) : (d.setEngine e x).tb i = d.tb i := rfl

/-! ### `Dev.setTb` -/

@[simp] theorem Dev.setTb_regs (d : Dev) (n : Nat) (x : TimeBase) : (d.setTb n x).regs = d.regs := rfl
@[simp] theorem Dev.setTb_shadows (d : Dev) (n : Nat) (x : TimeBase) : (d.setTb n x).shadows = d.shadows := rfl
@[simp] theorem Dev.setTb_now (d : Dev) (n : Nat) (x : TimeBase) : (d.setTb n x).now = d.now := rfl
@[simp] theorem Dev.setTb_free (d : Dev) (n : Nat) (x : TimeBase) : (d.setTb n x).free = d.free := rfl
@[simp] theorem Dev.setTb_out (d : Dev) (n : Nat) (x : TimeBase) : (d.setTb n x).out = d.out := rfl
@[simp] theorem Dev.setTb_rdata (d : Dev) (n : Nat) (x : TimeBase) : (d.setTb n x).rdata = d.rdata := rfl
@[simp] theorem Dev.setTb_stride (d : Dev) (n : Nat) (x : TimeBase) : (d.setTb n x).stride = d.stride := rfl
@[simp] theorem Dev.setTb_img (d : Dev) (n : Nat) (x : TimeBase) : (d.setTb n x).img = d.img := rfl
@[simp] theorem Dev.setTb_orch (d : Dev) (n : Nat) (x : TimeBase) : (d.setTb n x).orch = d.orch := rfl
@[simp] theorem Dev.setTb_io (d : Dev) (n : Nat) (x : TimeBase) : (d.setTb n x).io = d.io := rfl
@[simp] theorem Dev.setTb_fab (d : Dev) (n : Nat) (x : TimeBase) : (d.setTb n x).fab = d.fab := rfl
@[simp] theorem Dev.setTb_net (d : Dev) (n : Nat) (x : TimeBase) : (d.setTb n x).net = d.net := rfl
@[simp] theorem Dev.setTb_hn (d : Dev) (n : Nat) (x : TimeBase) : (d.setTb n x).hn = d.hn := rfl
@[simp] theorem Dev.setTb_can (d : Dev) (n : Nat) (x : TimeBase) : (d.setTb n x).can = d.can := rfl
@[simp] theorem Dev.setTb_ser (d : Dev) (n : Nat) (x : TimeBase) : (d.setTb n x).ser = d.ser := rfl
@[simp] theorem Dev.setTb_eng (d : Dev) (n : Nat) (x : TimeBase) : (d.setTb n x).eng = d.eng := rfl
@[simp] theorem Dev.setTb_bridle (d : Dev) (n : Nat) (x : TimeBase) : (d.setTb n x).bridle = d.bridle := rfl
@[simp] theorem Dev.setTb_host (d : Dev) (n : Nat) (x : TimeBase) : (d.setTb n x).host = d.host := rfl
@[simp] theorem Dev.setTb_upd (d : Dev) (n : Nat) (x : TimeBase) : (d.setTb n x).upd = d.upd := rfl
@[simp] theorem Dev.setTb_pwr (d : Dev) (n : Nat) (x : TimeBase) : (d.setTb n x).pwr = d.pwr := rfl
@[simp] theorem Dev.setTb_sys (d : Dev) (n : Nat) (x : TimeBase) : (d.setTb n x).sys = d.sys := rfl
@[simp] theorem Dev.setTb_tap (d : Dev) (n : Nat) (x : TimeBase) : (d.setTb n x).tap = d.tap := rfl
@[simp] theorem Dev.get_setTb (d : Dev) (n : Nat) (x : TimeBase) (g : Fld) : (d.setTb n x).get g = d.get g := rfl
@[simp] theorem Dev.on_setTb (d : Dev) (n : Nat) (x : TimeBase) (g : Fld) : (d.setTb n x).on g = d.on g := rfl
@[simp] theorem Dev.engine_setTb (d : Dev) (n : Nat) (x : TimeBase) (i : Nat) : (d.setTb n x).engine i = d.engine i := rfl

/-! ### `Dev.setTxts` -/

@[simp] theorem Dev.setTxts_regs (d : Dev) (p : Nat) (x : TsFifo) : (d.setTxts p x).regs = d.regs := rfl
@[simp] theorem Dev.setTxts_shadows (d : Dev) (p : Nat) (x : TsFifo) : (d.setTxts p x).shadows = d.shadows := rfl
@[simp] theorem Dev.setTxts_now (d : Dev) (p : Nat) (x : TsFifo) : (d.setTxts p x).now = d.now := rfl
@[simp] theorem Dev.setTxts_free (d : Dev) (p : Nat) (x : TsFifo) : (d.setTxts p x).free = d.free := rfl
@[simp] theorem Dev.setTxts_out (d : Dev) (p : Nat) (x : TsFifo) : (d.setTxts p x).out = d.out := rfl
@[simp] theorem Dev.setTxts_rdata (d : Dev) (p : Nat) (x : TsFifo) : (d.setTxts p x).rdata = d.rdata := rfl
@[simp] theorem Dev.setTxts_stride (d : Dev) (p : Nat) (x : TsFifo) : (d.setTxts p x).stride = d.stride := rfl
@[simp] theorem Dev.setTxts_img (d : Dev) (p : Nat) (x : TsFifo) : (d.setTxts p x).img = d.img := rfl
@[simp] theorem Dev.setTxts_orch (d : Dev) (p : Nat) (x : TsFifo) : (d.setTxts p x).orch = d.orch := rfl
@[simp] theorem Dev.setTxts_io (d : Dev) (p : Nat) (x : TsFifo) : (d.setTxts p x).io = d.io := rfl
@[simp] theorem Dev.setTxts_fab (d : Dev) (p : Nat) (x : TsFifo) : (d.setTxts p x).fab = d.fab := rfl
@[simp] theorem Dev.setTxts_net (d : Dev) (p : Nat) (x : TsFifo) : (d.setTxts p x).net = d.net := rfl
@[simp] theorem Dev.setTxts_hn (d : Dev) (p : Nat) (x : TsFifo) : (d.setTxts p x).hn = d.hn := rfl
@[simp] theorem Dev.setTxts_can (d : Dev) (p : Nat) (x : TsFifo) : (d.setTxts p x).can = d.can := rfl
@[simp] theorem Dev.setTxts_ser (d : Dev) (p : Nat) (x : TsFifo) : (d.setTxts p x).ser = d.ser := rfl
@[simp] theorem Dev.setTxts_eng (d : Dev) (p : Nat) (x : TsFifo) : (d.setTxts p x).eng = d.eng := rfl
@[simp] theorem Dev.setTxts_bridle (d : Dev) (p : Nat) (x : TsFifo) : (d.setTxts p x).bridle = d.bridle := rfl
@[simp] theorem Dev.setTxts_host (d : Dev) (p : Nat) (x : TsFifo) : (d.setTxts p x).host = d.host := rfl
@[simp] theorem Dev.setTxts_upd (d : Dev) (p : Nat) (x : TsFifo) : (d.setTxts p x).upd = d.upd := rfl
@[simp] theorem Dev.setTxts_pwr (d : Dev) (p : Nat) (x : TsFifo) : (d.setTxts p x).pwr = d.pwr := rfl
@[simp] theorem Dev.setTxts_sys (d : Dev) (p : Nat) (x : TsFifo) : (d.setTxts p x).sys = d.sys := rfl
@[simp] theorem Dev.setTxts_tap (d : Dev) (p : Nat) (x : TsFifo) : (d.setTxts p x).tap = d.tap := rfl
@[simp] theorem Dev.get_setTxts (d : Dev) (p : Nat) (x : TsFifo) (g : Fld) : (d.setTxts p x).get g = d.get g := rfl
@[simp] theorem Dev.on_setTxts (d : Dev) (p : Nat) (x : TsFifo) (g : Fld) : (d.setTxts p x).on g = d.on g := rfl
@[simp] theorem Dev.engine_setTxts (d : Dev) (p : Nat) (x : TsFifo) (i : Nat) : (d.setTxts p x).engine i = d.engine i := rfl

/-! ### `Dev.setTrg` -/

@[simp] theorem Dev.setTrg_regs (d : Dev) (n : Nat) (x : Trigger) : (d.setTrg n x).regs = d.regs := rfl
@[simp] theorem Dev.setTrg_shadows (d : Dev) (n : Nat) (x : Trigger) : (d.setTrg n x).shadows = d.shadows := rfl
@[simp] theorem Dev.setTrg_now (d : Dev) (n : Nat) (x : Trigger) : (d.setTrg n x).now = d.now := rfl
@[simp] theorem Dev.setTrg_free (d : Dev) (n : Nat) (x : Trigger) : (d.setTrg n x).free = d.free := rfl
@[simp] theorem Dev.setTrg_out (d : Dev) (n : Nat) (x : Trigger) : (d.setTrg n x).out = d.out := rfl
@[simp] theorem Dev.setTrg_rdata (d : Dev) (n : Nat) (x : Trigger) : (d.setTrg n x).rdata = d.rdata := rfl
@[simp] theorem Dev.setTrg_stride (d : Dev) (n : Nat) (x : Trigger) : (d.setTrg n x).stride = d.stride := rfl
@[simp] theorem Dev.setTrg_img (d : Dev) (n : Nat) (x : Trigger) : (d.setTrg n x).img = d.img := rfl
@[simp] theorem Dev.setTrg_orch (d : Dev) (n : Nat) (x : Trigger) : (d.setTrg n x).orch = d.orch := rfl
@[simp] theorem Dev.setTrg_io (d : Dev) (n : Nat) (x : Trigger) : (d.setTrg n x).io = d.io := rfl
@[simp] theorem Dev.setTrg_fab (d : Dev) (n : Nat) (x : Trigger) : (d.setTrg n x).fab = d.fab := rfl
@[simp] theorem Dev.setTrg_net (d : Dev) (n : Nat) (x : Trigger) : (d.setTrg n x).net = d.net := rfl
@[simp] theorem Dev.setTrg_hn (d : Dev) (n : Nat) (x : Trigger) : (d.setTrg n x).hn = d.hn := rfl
@[simp] theorem Dev.setTrg_can (d : Dev) (n : Nat) (x : Trigger) : (d.setTrg n x).can = d.can := rfl
@[simp] theorem Dev.setTrg_ser (d : Dev) (n : Nat) (x : Trigger) : (d.setTrg n x).ser = d.ser := rfl
@[simp] theorem Dev.setTrg_eng (d : Dev) (n : Nat) (x : Trigger) : (d.setTrg n x).eng = d.eng := rfl
@[simp] theorem Dev.setTrg_bridle (d : Dev) (n : Nat) (x : Trigger) : (d.setTrg n x).bridle = d.bridle := rfl
@[simp] theorem Dev.setTrg_host (d : Dev) (n : Nat) (x : Trigger) : (d.setTrg n x).host = d.host := rfl
@[simp] theorem Dev.setTrg_upd (d : Dev) (n : Nat) (x : Trigger) : (d.setTrg n x).upd = d.upd := rfl
@[simp] theorem Dev.setTrg_pwr (d : Dev) (n : Nat) (x : Trigger) : (d.setTrg n x).pwr = d.pwr := rfl
@[simp] theorem Dev.setTrg_sys (d : Dev) (n : Nat) (x : Trigger) : (d.setTrg n x).sys = d.sys := rfl
@[simp] theorem Dev.setTrg_tap (d : Dev) (n : Nat) (x : Trigger) : (d.setTrg n x).tap = d.tap := rfl
@[simp] theorem Dev.get_setTrg (d : Dev) (n : Nat) (x : Trigger) (g : Fld) : (d.setTrg n x).get g = d.get g := rfl
@[simp] theorem Dev.on_setTrg (d : Dev) (n : Nat) (x : Trigger) (g : Fld) : (d.setTrg n x).on g = d.on g := rfl
@[simp] theorem Dev.engine_setTrg (d : Dev) (n : Nat) (x : Trigger) (i : Nat) : (d.setTrg n x).engine i = d.engine i := rfl

/-! ### `Dev.withStride` -/

@[simp] theorem Dev.withStride_regs (d : Dev) (f : StrideSt → StrideSt) : (d.withStride f).regs = d.regs := rfl
@[simp] theorem Dev.withStride_shadows (d : Dev) (f : StrideSt → StrideSt) : (d.withStride f).shadows = d.shadows := rfl
@[simp] theorem Dev.withStride_now (d : Dev) (f : StrideSt → StrideSt) : (d.withStride f).now = d.now := rfl
@[simp] theorem Dev.withStride_free (d : Dev) (f : StrideSt → StrideSt) : (d.withStride f).free = d.free := rfl
@[simp] theorem Dev.withStride_out (d : Dev) (f : StrideSt → StrideSt) : (d.withStride f).out = d.out := rfl
@[simp] theorem Dev.withStride_rdata (d : Dev) (f : StrideSt → StrideSt) : (d.withStride f).rdata = d.rdata := rfl
@[simp] theorem Dev.withStride_time (d : Dev) (f : StrideSt → StrideSt) : (d.withStride f).time = d.time := rfl
@[simp] theorem Dev.withStride_img (d : Dev) (f : StrideSt → StrideSt) : (d.withStride f).img = d.img := rfl
@[simp] theorem Dev.withStride_orch (d : Dev) (f : StrideSt → StrideSt) : (d.withStride f).orch = d.orch := rfl
@[simp] theorem Dev.withStride_io (d : Dev) (f : StrideSt → StrideSt) : (d.withStride f).io = d.io := rfl
@[simp] theorem Dev.withStride_fab (d : Dev) (f : StrideSt → StrideSt) : (d.withStride f).fab = d.fab := rfl
@[simp] theorem Dev.withStride_net (d : Dev) (f : StrideSt → StrideSt) : (d.withStride f).net = d.net := rfl
@[simp] theorem Dev.withStride_hn (d : Dev) (f : StrideSt → StrideSt) : (d.withStride f).hn = d.hn := rfl
@[simp] theorem Dev.withStride_can (d : Dev) (f : StrideSt → StrideSt) : (d.withStride f).can = d.can := rfl
@[simp] theorem Dev.withStride_ser (d : Dev) (f : StrideSt → StrideSt) : (d.withStride f).ser = d.ser := rfl
@[simp] theorem Dev.withStride_eng (d : Dev) (f : StrideSt → StrideSt) : (d.withStride f).eng = d.eng := rfl
@[simp] theorem Dev.withStride_bridle (d : Dev) (f : StrideSt → StrideSt) : (d.withStride f).bridle = d.bridle := rfl
@[simp] theorem Dev.withStride_host (d : Dev) (f : StrideSt → StrideSt) : (d.withStride f).host = d.host := rfl
@[simp] theorem Dev.withStride_upd (d : Dev) (f : StrideSt → StrideSt) : (d.withStride f).upd = d.upd := rfl
@[simp] theorem Dev.withStride_pwr (d : Dev) (f : StrideSt → StrideSt) : (d.withStride f).pwr = d.pwr := rfl
@[simp] theorem Dev.withStride_sys (d : Dev) (f : StrideSt → StrideSt) : (d.withStride f).sys = d.sys := rfl
@[simp] theorem Dev.withStride_tap (d : Dev) (f : StrideSt → StrideSt) : (d.withStride f).tap = d.tap := rfl
@[simp] theorem Dev.get_withStride (d : Dev) (h : StrideSt → StrideSt) (g : Fld) : (d.withStride h).get g = d.get g := rfl
@[simp] theorem Dev.on_withStride (d : Dev) (h : StrideSt → StrideSt) (g : Fld) : (d.withStride h).on g = d.on g := rfl
@[simp] theorem Dev.engine_withStride (d : Dev) (f : StrideSt → StrideSt) (i : Nat) : (d.withStride f).engine i = d.engine i := rfl
@[simp] theorem Dev.tb_withStride (d : Dev) (f : StrideSt → StrideSt) (i : Nat) : (d.withStride f).tb i = d.tb i := rfl

/-! ### `Dev.setLunge` -/

@[simp] theorem Dev.setLunge_regs (d : Dev) (n : Nat) (x : LungeSt) : (d.setLunge n x).regs = d.regs := rfl
@[simp] theorem Dev.setLunge_shadows (d : Dev) (n : Nat) (x : LungeSt) : (d.setLunge n x).shadows = d.shadows := rfl
@[simp] theorem Dev.setLunge_now (d : Dev) (n : Nat) (x : LungeSt) : (d.setLunge n x).now = d.now := rfl
@[simp] theorem Dev.setLunge_free (d : Dev) (n : Nat) (x : LungeSt) : (d.setLunge n x).free = d.free := rfl
@[simp] theorem Dev.setLunge_out (d : Dev) (n : Nat) (x : LungeSt) : (d.setLunge n x).out = d.out := rfl
@[simp] theorem Dev.setLunge_rdata (d : Dev) (n : Nat) (x : LungeSt) : (d.setLunge n x).rdata = d.rdata := rfl
@[simp] theorem Dev.setLunge_time (d : Dev) (n : Nat) (x : LungeSt) : (d.setLunge n x).time = d.time := rfl
@[simp] theorem Dev.setLunge_img (d : Dev) (n : Nat) (x : LungeSt) : (d.setLunge n x).img = d.img := rfl
@[simp] theorem Dev.setLunge_orch (d : Dev) (n : Nat) (x : LungeSt) : (d.setLunge n x).orch = d.orch := rfl
@[simp] theorem Dev.setLunge_io (d : Dev) (n : Nat) (x : LungeSt) : (d.setLunge n x).io = d.io := rfl
@[simp] theorem Dev.setLunge_fab (d : Dev) (n : Nat) (x : LungeSt) : (d.setLunge n x).fab = d.fab := rfl
@[simp] theorem Dev.setLunge_net (d : Dev) (n : Nat) (x : LungeSt) : (d.setLunge n x).net = d.net := rfl
@[simp] theorem Dev.setLunge_hn (d : Dev) (n : Nat) (x : LungeSt) : (d.setLunge n x).hn = d.hn := rfl
@[simp] theorem Dev.setLunge_can (d : Dev) (n : Nat) (x : LungeSt) : (d.setLunge n x).can = d.can := rfl
@[simp] theorem Dev.setLunge_ser (d : Dev) (n : Nat) (x : LungeSt) : (d.setLunge n x).ser = d.ser := rfl
@[simp] theorem Dev.setLunge_eng (d : Dev) (n : Nat) (x : LungeSt) : (d.setLunge n x).eng = d.eng := rfl
@[simp] theorem Dev.setLunge_bridle (d : Dev) (n : Nat) (x : LungeSt) : (d.setLunge n x).bridle = d.bridle := rfl
@[simp] theorem Dev.setLunge_host (d : Dev) (n : Nat) (x : LungeSt) : (d.setLunge n x).host = d.host := rfl
@[simp] theorem Dev.setLunge_upd (d : Dev) (n : Nat) (x : LungeSt) : (d.setLunge n x).upd = d.upd := rfl
@[simp] theorem Dev.setLunge_pwr (d : Dev) (n : Nat) (x : LungeSt) : (d.setLunge n x).pwr = d.pwr := rfl
@[simp] theorem Dev.setLunge_sys (d : Dev) (n : Nat) (x : LungeSt) : (d.setLunge n x).sys = d.sys := rfl
@[simp] theorem Dev.setLunge_tap (d : Dev) (n : Nat) (x : LungeSt) : (d.setLunge n x).tap = d.tap := rfl
@[simp] theorem Dev.get_setLunge (d : Dev) (n : Nat) (x : LungeSt) (g : Fld) : (d.setLunge n x).get g = d.get g := rfl
@[simp] theorem Dev.on_setLunge (d : Dev) (n : Nat) (x : LungeSt) (g : Fld) : (d.setLunge n x).on g = d.on g := rfl
@[simp] theorem Dev.engine_setLunge (d : Dev) (n : Nat) (x : LungeSt) (i : Nat) : (d.setLunge n x).engine i = d.engine i := rfl
@[simp] theorem Dev.tb_setLunge (d : Dev) (n : Nat) (x : LungeSt) (i : Nat) : (d.setLunge n x).tb i = d.tb i := rfl

/-! ### `Dev.setRegion` -/

@[simp] theorem Dev.setRegion_regs (d : Dev) (r : Nat) (x : Region) : (d.setRegion r x).regs = d.regs := rfl
@[simp] theorem Dev.setRegion_shadows (d : Dev) (r : Nat) (x : Region) : (d.setRegion r x).shadows = d.shadows := rfl
@[simp] theorem Dev.setRegion_now (d : Dev) (r : Nat) (x : Region) : (d.setRegion r x).now = d.now := rfl
@[simp] theorem Dev.setRegion_free (d : Dev) (r : Nat) (x : Region) : (d.setRegion r x).free = d.free := rfl
@[simp] theorem Dev.setRegion_out (d : Dev) (r : Nat) (x : Region) : (d.setRegion r x).out = d.out := rfl
@[simp] theorem Dev.setRegion_rdata (d : Dev) (r : Nat) (x : Region) : (d.setRegion r x).rdata = d.rdata := rfl
@[simp] theorem Dev.setRegion_time (d : Dev) (r : Nat) (x : Region) : (d.setRegion r x).time = d.time := rfl
@[simp] theorem Dev.setRegion_stride (d : Dev) (r : Nat) (x : Region) : (d.setRegion r x).stride = d.stride := rfl
@[simp] theorem Dev.setRegion_orch (d : Dev) (r : Nat) (x : Region) : (d.setRegion r x).orch = d.orch := rfl
@[simp] theorem Dev.setRegion_io (d : Dev) (r : Nat) (x : Region) : (d.setRegion r x).io = d.io := rfl
@[simp] theorem Dev.setRegion_fab (d : Dev) (r : Nat) (x : Region) : (d.setRegion r x).fab = d.fab := rfl
@[simp] theorem Dev.setRegion_net (d : Dev) (r : Nat) (x : Region) : (d.setRegion r x).net = d.net := rfl
@[simp] theorem Dev.setRegion_hn (d : Dev) (r : Nat) (x : Region) : (d.setRegion r x).hn = d.hn := rfl
@[simp] theorem Dev.setRegion_can (d : Dev) (r : Nat) (x : Region) : (d.setRegion r x).can = d.can := rfl
@[simp] theorem Dev.setRegion_ser (d : Dev) (r : Nat) (x : Region) : (d.setRegion r x).ser = d.ser := rfl
@[simp] theorem Dev.setRegion_eng (d : Dev) (r : Nat) (x : Region) : (d.setRegion r x).eng = d.eng := rfl
@[simp] theorem Dev.setRegion_bridle (d : Dev) (r : Nat) (x : Region) : (d.setRegion r x).bridle = d.bridle := rfl
@[simp] theorem Dev.setRegion_host (d : Dev) (r : Nat) (x : Region) : (d.setRegion r x).host = d.host := rfl
@[simp] theorem Dev.setRegion_upd (d : Dev) (r : Nat) (x : Region) : (d.setRegion r x).upd = d.upd := rfl
@[simp] theorem Dev.setRegion_pwr (d : Dev) (r : Nat) (x : Region) : (d.setRegion r x).pwr = d.pwr := rfl
@[simp] theorem Dev.setRegion_sys (d : Dev) (r : Nat) (x : Region) : (d.setRegion r x).sys = d.sys := rfl
@[simp] theorem Dev.setRegion_tap (d : Dev) (r : Nat) (x : Region) : (d.setRegion r x).tap = d.tap := rfl
@[simp] theorem Dev.get_setRegion (d : Dev) (r : Nat) (x : Region) (g : Fld) : (d.setRegion r x).get g = d.get g := rfl
@[simp] theorem Dev.on_setRegion (d : Dev) (r : Nat) (x : Region) (g : Fld) : (d.setRegion r x).on g = d.on g := rfl
@[simp] theorem Dev.engine_setRegion (d : Dev) (r : Nat) (x : Region) (i : Nat) : (d.setRegion r x).engine i = d.engine i := rfl
@[simp] theorem Dev.tb_setRegion (d : Dev) (r : Nat) (x : Region) (i : Nat) : (d.setRegion r x).tb i = d.tb i := rfl

/-! ### `Dev.setRuleRun` -/

@[simp] theorem Dev.setRuleRun_regs (d : Dev) (n : Nat) (x : RuleRun) : (d.setRuleRun n x).regs = d.regs := rfl
@[simp] theorem Dev.setRuleRun_shadows (d : Dev) (n : Nat) (x : RuleRun) : (d.setRuleRun n x).shadows = d.shadows := rfl
@[simp] theorem Dev.setRuleRun_now (d : Dev) (n : Nat) (x : RuleRun) : (d.setRuleRun n x).now = d.now := rfl
@[simp] theorem Dev.setRuleRun_free (d : Dev) (n : Nat) (x : RuleRun) : (d.setRuleRun n x).free = d.free := rfl
@[simp] theorem Dev.setRuleRun_out (d : Dev) (n : Nat) (x : RuleRun) : (d.setRuleRun n x).out = d.out := rfl
@[simp] theorem Dev.setRuleRun_rdata (d : Dev) (n : Nat) (x : RuleRun) : (d.setRuleRun n x).rdata = d.rdata := rfl
@[simp] theorem Dev.setRuleRun_time (d : Dev) (n : Nat) (x : RuleRun) : (d.setRuleRun n x).time = d.time := rfl
@[simp] theorem Dev.setRuleRun_stride (d : Dev) (n : Nat) (x : RuleRun) : (d.setRuleRun n x).stride = d.stride := rfl
@[simp] theorem Dev.setRuleRun_orch (d : Dev) (n : Nat) (x : RuleRun) : (d.setRuleRun n x).orch = d.orch := rfl
@[simp] theorem Dev.setRuleRun_io (d : Dev) (n : Nat) (x : RuleRun) : (d.setRuleRun n x).io = d.io := rfl
@[simp] theorem Dev.setRuleRun_fab (d : Dev) (n : Nat) (x : RuleRun) : (d.setRuleRun n x).fab = d.fab := rfl
@[simp] theorem Dev.setRuleRun_net (d : Dev) (n : Nat) (x : RuleRun) : (d.setRuleRun n x).net = d.net := rfl
@[simp] theorem Dev.setRuleRun_hn (d : Dev) (n : Nat) (x : RuleRun) : (d.setRuleRun n x).hn = d.hn := rfl
@[simp] theorem Dev.setRuleRun_can (d : Dev) (n : Nat) (x : RuleRun) : (d.setRuleRun n x).can = d.can := rfl
@[simp] theorem Dev.setRuleRun_ser (d : Dev) (n : Nat) (x : RuleRun) : (d.setRuleRun n x).ser = d.ser := rfl
@[simp] theorem Dev.setRuleRun_eng (d : Dev) (n : Nat) (x : RuleRun) : (d.setRuleRun n x).eng = d.eng := rfl
@[simp] theorem Dev.setRuleRun_bridle (d : Dev) (n : Nat) (x : RuleRun) : (d.setRuleRun n x).bridle = d.bridle := rfl
@[simp] theorem Dev.setRuleRun_host (d : Dev) (n : Nat) (x : RuleRun) : (d.setRuleRun n x).host = d.host := rfl
@[simp] theorem Dev.setRuleRun_upd (d : Dev) (n : Nat) (x : RuleRun) : (d.setRuleRun n x).upd = d.upd := rfl
@[simp] theorem Dev.setRuleRun_pwr (d : Dev) (n : Nat) (x : RuleRun) : (d.setRuleRun n x).pwr = d.pwr := rfl
@[simp] theorem Dev.setRuleRun_sys (d : Dev) (n : Nat) (x : RuleRun) : (d.setRuleRun n x).sys = d.sys := rfl
@[simp] theorem Dev.setRuleRun_tap (d : Dev) (n : Nat) (x : RuleRun) : (d.setRuleRun n x).tap = d.tap := rfl
@[simp] theorem Dev.get_setRuleRun (d : Dev) (n : Nat) (x : RuleRun) (g : Fld) : (d.setRuleRun n x).get g = d.get g := rfl
@[simp] theorem Dev.on_setRuleRun (d : Dev) (n : Nat) (x : RuleRun) (g : Fld) : (d.setRuleRun n x).on g = d.on g := rfl
@[simp] theorem Dev.engine_setRuleRun (d : Dev) (n : Nat) (x : RuleRun) (i : Nat) : (d.setRuleRun n x).engine i = d.engine i := rfl
@[simp] theorem Dev.tb_setRuleRun (d : Dev) (n : Nat) (x : RuleRun) (i : Nat) : (d.setRuleRun n x).tb i = d.tb i := rfl

/-! ### `Dev.setWindow` -/

@[simp] theorem Dev.setWindow_regs (d : Dev) (l : List Nat) : (d.setWindow l).regs = d.regs := rfl
@[simp] theorem Dev.setWindow_shadows (d : Dev) (l : List Nat) : (d.setWindow l).shadows = d.shadows := rfl
@[simp] theorem Dev.setWindow_now (d : Dev) (l : List Nat) : (d.setWindow l).now = d.now := rfl
@[simp] theorem Dev.setWindow_free (d : Dev) (l : List Nat) : (d.setWindow l).free = d.free := rfl
@[simp] theorem Dev.setWindow_out (d : Dev) (l : List Nat) : (d.setWindow l).out = d.out := rfl
@[simp] theorem Dev.setWindow_rdata (d : Dev) (l : List Nat) : (d.setWindow l).rdata = d.rdata := rfl
@[simp] theorem Dev.setWindow_time (d : Dev) (l : List Nat) : (d.setWindow l).time = d.time := rfl
@[simp] theorem Dev.setWindow_stride (d : Dev) (l : List Nat) : (d.setWindow l).stride = d.stride := rfl
@[simp] theorem Dev.setWindow_img (d : Dev) (l : List Nat) : (d.setWindow l).img = d.img := rfl
@[simp] theorem Dev.setWindow_io (d : Dev) (l : List Nat) : (d.setWindow l).io = d.io := rfl
@[simp] theorem Dev.setWindow_fab (d : Dev) (l : List Nat) : (d.setWindow l).fab = d.fab := rfl
@[simp] theorem Dev.setWindow_net (d : Dev) (l : List Nat) : (d.setWindow l).net = d.net := rfl
@[simp] theorem Dev.setWindow_hn (d : Dev) (l : List Nat) : (d.setWindow l).hn = d.hn := rfl
@[simp] theorem Dev.setWindow_can (d : Dev) (l : List Nat) : (d.setWindow l).can = d.can := rfl
@[simp] theorem Dev.setWindow_ser (d : Dev) (l : List Nat) : (d.setWindow l).ser = d.ser := rfl
@[simp] theorem Dev.setWindow_eng (d : Dev) (l : List Nat) : (d.setWindow l).eng = d.eng := rfl
@[simp] theorem Dev.setWindow_bridle (d : Dev) (l : List Nat) : (d.setWindow l).bridle = d.bridle := rfl
@[simp] theorem Dev.setWindow_host (d : Dev) (l : List Nat) : (d.setWindow l).host = d.host := rfl
@[simp] theorem Dev.setWindow_upd (d : Dev) (l : List Nat) : (d.setWindow l).upd = d.upd := rfl
@[simp] theorem Dev.setWindow_pwr (d : Dev) (l : List Nat) : (d.setWindow l).pwr = d.pwr := rfl
@[simp] theorem Dev.setWindow_sys (d : Dev) (l : List Nat) : (d.setWindow l).sys = d.sys := rfl
@[simp] theorem Dev.setWindow_tap (d : Dev) (l : List Nat) : (d.setWindow l).tap = d.tap := rfl
@[simp] theorem Dev.get_setWindow (d : Dev) (l : List Nat) (g : Fld) : (d.setWindow l).get g = d.get g := rfl
@[simp] theorem Dev.on_setWindow (d : Dev) (l : List Nat) (g : Fld) : (d.setWindow l).on g = d.on g := rfl
@[simp] theorem Dev.engine_setWindow (d : Dev) (l : List Nat) (i : Nat) : (d.setWindow l).engine i = d.engine i := rfl
@[simp] theorem Dev.tb_setWindow (d : Dev) (l : List Nat) (i : Nat) : (d.setWindow l).tb i = d.tb i := rfl

/-! ### `Dev.withPins` -/

@[simp] theorem Dev.withPins_regs (d : Dev) (lv : BitVec 96) : (d.withPins lv).regs = d.regs := rfl
@[simp] theorem Dev.withPins_shadows (d : Dev) (lv : BitVec 96) : (d.withPins lv).shadows = d.shadows := rfl
@[simp] theorem Dev.withPins_now (d : Dev) (lv : BitVec 96) : (d.withPins lv).now = d.now := rfl
@[simp] theorem Dev.withPins_free (d : Dev) (lv : BitVec 96) : (d.withPins lv).free = d.free := rfl
@[simp] theorem Dev.withPins_out (d : Dev) (lv : BitVec 96) : (d.withPins lv).out = d.out := rfl
@[simp] theorem Dev.withPins_rdata (d : Dev) (lv : BitVec 96) : (d.withPins lv).rdata = d.rdata := rfl
@[simp] theorem Dev.withPins_time (d : Dev) (lv : BitVec 96) : (d.withPins lv).time = d.time := rfl
@[simp] theorem Dev.withPins_stride (d : Dev) (lv : BitVec 96) : (d.withPins lv).stride = d.stride := rfl
@[simp] theorem Dev.withPins_img (d : Dev) (lv : BitVec 96) : (d.withPins lv).img = d.img := rfl
@[simp] theorem Dev.withPins_orch (d : Dev) (lv : BitVec 96) : (d.withPins lv).orch = d.orch := rfl
@[simp] theorem Dev.withPins_fab (d : Dev) (lv : BitVec 96) : (d.withPins lv).fab = d.fab := rfl
@[simp] theorem Dev.withPins_net (d : Dev) (lv : BitVec 96) : (d.withPins lv).net = d.net := rfl
@[simp] theorem Dev.withPins_hn (d : Dev) (lv : BitVec 96) : (d.withPins lv).hn = d.hn := rfl
@[simp] theorem Dev.withPins_can (d : Dev) (lv : BitVec 96) : (d.withPins lv).can = d.can := rfl
@[simp] theorem Dev.withPins_ser (d : Dev) (lv : BitVec 96) : (d.withPins lv).ser = d.ser := rfl
@[simp] theorem Dev.withPins_eng (d : Dev) (lv : BitVec 96) : (d.withPins lv).eng = d.eng := rfl
@[simp] theorem Dev.withPins_bridle (d : Dev) (lv : BitVec 96) : (d.withPins lv).bridle = d.bridle := rfl
@[simp] theorem Dev.withPins_host (d : Dev) (lv : BitVec 96) : (d.withPins lv).host = d.host := rfl
@[simp] theorem Dev.withPins_upd (d : Dev) (lv : BitVec 96) : (d.withPins lv).upd = d.upd := rfl
@[simp] theorem Dev.withPins_pwr (d : Dev) (lv : BitVec 96) : (d.withPins lv).pwr = d.pwr := rfl
@[simp] theorem Dev.withPins_sys (d : Dev) (lv : BitVec 96) : (d.withPins lv).sys = d.sys := rfl
@[simp] theorem Dev.withPins_tap (d : Dev) (lv : BitVec 96) : (d.withPins lv).tap = d.tap := rfl
@[simp] theorem Dev.get_withPins (d : Dev) (lv : BitVec 96) (g : Fld) : (d.withPins lv).get g = d.get g := rfl
@[simp] theorem Dev.on_withPins (d : Dev) (lv : BitVec 96) (g : Fld) : (d.withPins lv).on g = d.on g := rfl
@[simp] theorem Dev.engine_withPins (d : Dev) (lv : BitVec 96) (i : Nat) : (d.withPins lv).engine i = d.engine i := rfl
@[simp] theorem Dev.tb_withPins (d : Dev) (lv : BitVec 96) (i : Nat) : (d.withPins lv).tb i = d.tb i := rfl

/-! ### `Dev.withFab` -/

@[simp] theorem Dev.withFab_regs (d : Dev) (f : FabSt → FabSt) : (d.withFab f).regs = d.regs := rfl
@[simp] theorem Dev.withFab_shadows (d : Dev) (f : FabSt → FabSt) : (d.withFab f).shadows = d.shadows := rfl
@[simp] theorem Dev.withFab_now (d : Dev) (f : FabSt → FabSt) : (d.withFab f).now = d.now := rfl
@[simp] theorem Dev.withFab_free (d : Dev) (f : FabSt → FabSt) : (d.withFab f).free = d.free := rfl
@[simp] theorem Dev.withFab_out (d : Dev) (f : FabSt → FabSt) : (d.withFab f).out = d.out := rfl
@[simp] theorem Dev.withFab_rdata (d : Dev) (f : FabSt → FabSt) : (d.withFab f).rdata = d.rdata := rfl
@[simp] theorem Dev.withFab_time (d : Dev) (f : FabSt → FabSt) : (d.withFab f).time = d.time := rfl
@[simp] theorem Dev.withFab_stride (d : Dev) (f : FabSt → FabSt) : (d.withFab f).stride = d.stride := rfl
@[simp] theorem Dev.withFab_img (d : Dev) (f : FabSt → FabSt) : (d.withFab f).img = d.img := rfl
@[simp] theorem Dev.withFab_orch (d : Dev) (f : FabSt → FabSt) : (d.withFab f).orch = d.orch := rfl
@[simp] theorem Dev.withFab_io (d : Dev) (f : FabSt → FabSt) : (d.withFab f).io = d.io := rfl
@[simp] theorem Dev.withFab_net (d : Dev) (f : FabSt → FabSt) : (d.withFab f).net = d.net := rfl
@[simp] theorem Dev.withFab_hn (d : Dev) (f : FabSt → FabSt) : (d.withFab f).hn = d.hn := rfl
@[simp] theorem Dev.withFab_can (d : Dev) (f : FabSt → FabSt) : (d.withFab f).can = d.can := rfl
@[simp] theorem Dev.withFab_ser (d : Dev) (f : FabSt → FabSt) : (d.withFab f).ser = d.ser := rfl
@[simp] theorem Dev.withFab_eng (d : Dev) (f : FabSt → FabSt) : (d.withFab f).eng = d.eng := rfl
@[simp] theorem Dev.withFab_bridle (d : Dev) (f : FabSt → FabSt) : (d.withFab f).bridle = d.bridle := rfl
@[simp] theorem Dev.withFab_host (d : Dev) (f : FabSt → FabSt) : (d.withFab f).host = d.host := rfl
@[simp] theorem Dev.withFab_upd (d : Dev) (f : FabSt → FabSt) : (d.withFab f).upd = d.upd := rfl
@[simp] theorem Dev.withFab_pwr (d : Dev) (f : FabSt → FabSt) : (d.withFab f).pwr = d.pwr := rfl
@[simp] theorem Dev.withFab_sys (d : Dev) (f : FabSt → FabSt) : (d.withFab f).sys = d.sys := rfl
@[simp] theorem Dev.withFab_tap (d : Dev) (f : FabSt → FabSt) : (d.withFab f).tap = d.tap := rfl
@[simp] theorem Dev.get_withFab (d : Dev) (h : FabSt → FabSt) (g : Fld) : (d.withFab h).get g = d.get g := rfl
@[simp] theorem Dev.on_withFab (d : Dev) (h : FabSt → FabSt) (g : Fld) : (d.withFab h).on g = d.on g := rfl
@[simp] theorem Dev.engine_withFab (d : Dev) (f : FabSt → FabSt) (i : Nat) : (d.withFab f).engine i = d.engine i := rfl
@[simp] theorem Dev.tb_withFab (d : Dev) (f : FabSt → FabSt) (i : Nat) : (d.withFab f).tb i = d.tb i := rfl

/-! ### `Dev.setFin` -/

@[simp] theorem Dev.setFin_regs (d : Dev) (n : Nat) (x : FIn) : (d.setFin n x).regs = d.regs := rfl
@[simp] theorem Dev.setFin_shadows (d : Dev) (n : Nat) (x : FIn) : (d.setFin n x).shadows = d.shadows := rfl
@[simp] theorem Dev.setFin_now (d : Dev) (n : Nat) (x : FIn) : (d.setFin n x).now = d.now := rfl
@[simp] theorem Dev.setFin_free (d : Dev) (n : Nat) (x : FIn) : (d.setFin n x).free = d.free := rfl
@[simp] theorem Dev.setFin_out (d : Dev) (n : Nat) (x : FIn) : (d.setFin n x).out = d.out := rfl
@[simp] theorem Dev.setFin_rdata (d : Dev) (n : Nat) (x : FIn) : (d.setFin n x).rdata = d.rdata := rfl
@[simp] theorem Dev.setFin_time (d : Dev) (n : Nat) (x : FIn) : (d.setFin n x).time = d.time := rfl
@[simp] theorem Dev.setFin_stride (d : Dev) (n : Nat) (x : FIn) : (d.setFin n x).stride = d.stride := rfl
@[simp] theorem Dev.setFin_img (d : Dev) (n : Nat) (x : FIn) : (d.setFin n x).img = d.img := rfl
@[simp] theorem Dev.setFin_orch (d : Dev) (n : Nat) (x : FIn) : (d.setFin n x).orch = d.orch := rfl
@[simp] theorem Dev.setFin_io (d : Dev) (n : Nat) (x : FIn) : (d.setFin n x).io = d.io := rfl
@[simp] theorem Dev.setFin_net (d : Dev) (n : Nat) (x : FIn) : (d.setFin n x).net = d.net := rfl
@[simp] theorem Dev.setFin_hn (d : Dev) (n : Nat) (x : FIn) : (d.setFin n x).hn = d.hn := rfl
@[simp] theorem Dev.setFin_can (d : Dev) (n : Nat) (x : FIn) : (d.setFin n x).can = d.can := rfl
@[simp] theorem Dev.setFin_ser (d : Dev) (n : Nat) (x : FIn) : (d.setFin n x).ser = d.ser := rfl
@[simp] theorem Dev.setFin_eng (d : Dev) (n : Nat) (x : FIn) : (d.setFin n x).eng = d.eng := rfl
@[simp] theorem Dev.setFin_bridle (d : Dev) (n : Nat) (x : FIn) : (d.setFin n x).bridle = d.bridle := rfl
@[simp] theorem Dev.setFin_host (d : Dev) (n : Nat) (x : FIn) : (d.setFin n x).host = d.host := rfl
@[simp] theorem Dev.setFin_upd (d : Dev) (n : Nat) (x : FIn) : (d.setFin n x).upd = d.upd := rfl
@[simp] theorem Dev.setFin_pwr (d : Dev) (n : Nat) (x : FIn) : (d.setFin n x).pwr = d.pwr := rfl
@[simp] theorem Dev.setFin_sys (d : Dev) (n : Nat) (x : FIn) : (d.setFin n x).sys = d.sys := rfl
@[simp] theorem Dev.setFin_tap (d : Dev) (n : Nat) (x : FIn) : (d.setFin n x).tap = d.tap := rfl
@[simp] theorem Dev.get_setFin (d : Dev) (n : Nat) (x : FIn) (g : Fld) : (d.setFin n x).get g = d.get g := rfl
@[simp] theorem Dev.on_setFin (d : Dev) (n : Nat) (x : FIn) (g : Fld) : (d.setFin n x).on g = d.on g := rfl
@[simp] theorem Dev.engine_setFin (d : Dev) (n : Nat) (x : FIn) (i : Nat) : (d.setFin n x).engine i = d.engine i := rfl
@[simp] theorem Dev.tb_setFin (d : Dev) (n : Nat) (x : FIn) (i : Nat) : (d.setFin n x).tb i = d.tb i := rfl

/-! ### `Dev.withNet` -/

@[simp] theorem Dev.withNet_regs (d : Dev) (f : NetSt → NetSt) : (d.withNet f).regs = d.regs := rfl
@[simp] theorem Dev.withNet_shadows (d : Dev) (f : NetSt → NetSt) : (d.withNet f).shadows = d.shadows := rfl
@[simp] theorem Dev.withNet_now (d : Dev) (f : NetSt → NetSt) : (d.withNet f).now = d.now := rfl
@[simp] theorem Dev.withNet_free (d : Dev) (f : NetSt → NetSt) : (d.withNet f).free = d.free := rfl
@[simp] theorem Dev.withNet_out (d : Dev) (f : NetSt → NetSt) : (d.withNet f).out = d.out := rfl
@[simp] theorem Dev.withNet_rdata (d : Dev) (f : NetSt → NetSt) : (d.withNet f).rdata = d.rdata := rfl
@[simp] theorem Dev.withNet_time (d : Dev) (f : NetSt → NetSt) : (d.withNet f).time = d.time := rfl
@[simp] theorem Dev.withNet_stride (d : Dev) (f : NetSt → NetSt) : (d.withNet f).stride = d.stride := rfl
@[simp] theorem Dev.withNet_img (d : Dev) (f : NetSt → NetSt) : (d.withNet f).img = d.img := rfl
@[simp] theorem Dev.withNet_orch (d : Dev) (f : NetSt → NetSt) : (d.withNet f).orch = d.orch := rfl
@[simp] theorem Dev.withNet_io (d : Dev) (f : NetSt → NetSt) : (d.withNet f).io = d.io := rfl
@[simp] theorem Dev.withNet_fab (d : Dev) (f : NetSt → NetSt) : (d.withNet f).fab = d.fab := rfl
@[simp] theorem Dev.withNet_hn (d : Dev) (f : NetSt → NetSt) : (d.withNet f).hn = d.hn := rfl
@[simp] theorem Dev.withNet_can (d : Dev) (f : NetSt → NetSt) : (d.withNet f).can = d.can := rfl
@[simp] theorem Dev.withNet_ser (d : Dev) (f : NetSt → NetSt) : (d.withNet f).ser = d.ser := rfl
@[simp] theorem Dev.withNet_eng (d : Dev) (f : NetSt → NetSt) : (d.withNet f).eng = d.eng := rfl
@[simp] theorem Dev.withNet_bridle (d : Dev) (f : NetSt → NetSt) : (d.withNet f).bridle = d.bridle := rfl
@[simp] theorem Dev.withNet_host (d : Dev) (f : NetSt → NetSt) : (d.withNet f).host = d.host := rfl
@[simp] theorem Dev.withNet_upd (d : Dev) (f : NetSt → NetSt) : (d.withNet f).upd = d.upd := rfl
@[simp] theorem Dev.withNet_pwr (d : Dev) (f : NetSt → NetSt) : (d.withNet f).pwr = d.pwr := rfl
@[simp] theorem Dev.withNet_sys (d : Dev) (f : NetSt → NetSt) : (d.withNet f).sys = d.sys := rfl
@[simp] theorem Dev.withNet_tap (d : Dev) (f : NetSt → NetSt) : (d.withNet f).tap = d.tap := rfl
@[simp] theorem Dev.get_withNet (d : Dev) (h : NetSt → NetSt) (g : Fld) : (d.withNet h).get g = d.get g := rfl
@[simp] theorem Dev.on_withNet (d : Dev) (h : NetSt → NetSt) (g : Fld) : (d.withNet h).on g = d.on g := rfl
@[simp] theorem Dev.engine_withNet (d : Dev) (f : NetSt → NetSt) (i : Nat) : (d.withNet f).engine i = d.engine i := rfl
@[simp] theorem Dev.tb_withNet (d : Dev) (f : NetSt → NetSt) (i : Nat) : (d.withNet f).tb i = d.tb i := rfl

/-! ### `Dev.withHn` -/

@[simp] theorem Dev.withHn_regs (d : Dev) (f : HnSt → HnSt) : (d.withHn f).regs = d.regs := rfl
@[simp] theorem Dev.withHn_shadows (d : Dev) (f : HnSt → HnSt) : (d.withHn f).shadows = d.shadows := rfl
@[simp] theorem Dev.withHn_now (d : Dev) (f : HnSt → HnSt) : (d.withHn f).now = d.now := rfl
@[simp] theorem Dev.withHn_free (d : Dev) (f : HnSt → HnSt) : (d.withHn f).free = d.free := rfl
@[simp] theorem Dev.withHn_out (d : Dev) (f : HnSt → HnSt) : (d.withHn f).out = d.out := rfl
@[simp] theorem Dev.withHn_rdata (d : Dev) (f : HnSt → HnSt) : (d.withHn f).rdata = d.rdata := rfl
@[simp] theorem Dev.withHn_time (d : Dev) (f : HnSt → HnSt) : (d.withHn f).time = d.time := rfl
@[simp] theorem Dev.withHn_stride (d : Dev) (f : HnSt → HnSt) : (d.withHn f).stride = d.stride := rfl
@[simp] theorem Dev.withHn_img (d : Dev) (f : HnSt → HnSt) : (d.withHn f).img = d.img := rfl
@[simp] theorem Dev.withHn_orch (d : Dev) (f : HnSt → HnSt) : (d.withHn f).orch = d.orch := rfl
@[simp] theorem Dev.withHn_io (d : Dev) (f : HnSt → HnSt) : (d.withHn f).io = d.io := rfl
@[simp] theorem Dev.withHn_fab (d : Dev) (f : HnSt → HnSt) : (d.withHn f).fab = d.fab := rfl
@[simp] theorem Dev.withHn_net (d : Dev) (f : HnSt → HnSt) : (d.withHn f).net = d.net := rfl
@[simp] theorem Dev.withHn_can (d : Dev) (f : HnSt → HnSt) : (d.withHn f).can = d.can := rfl
@[simp] theorem Dev.withHn_ser (d : Dev) (f : HnSt → HnSt) : (d.withHn f).ser = d.ser := rfl
@[simp] theorem Dev.withHn_eng (d : Dev) (f : HnSt → HnSt) : (d.withHn f).eng = d.eng := rfl
@[simp] theorem Dev.withHn_bridle (d : Dev) (f : HnSt → HnSt) : (d.withHn f).bridle = d.bridle := rfl
@[simp] theorem Dev.withHn_host (d : Dev) (f : HnSt → HnSt) : (d.withHn f).host = d.host := rfl
@[simp] theorem Dev.withHn_upd (d : Dev) (f : HnSt → HnSt) : (d.withHn f).upd = d.upd := rfl
@[simp] theorem Dev.withHn_pwr (d : Dev) (f : HnSt → HnSt) : (d.withHn f).pwr = d.pwr := rfl
@[simp] theorem Dev.withHn_sys (d : Dev) (f : HnSt → HnSt) : (d.withHn f).sys = d.sys := rfl
@[simp] theorem Dev.withHn_tap (d : Dev) (f : HnSt → HnSt) : (d.withHn f).tap = d.tap := rfl
@[simp] theorem Dev.get_withHn (d : Dev) (h : HnSt → HnSt) (g : Fld) : (d.withHn h).get g = d.get g := rfl
@[simp] theorem Dev.on_withHn (d : Dev) (h : HnSt → HnSt) (g : Fld) : (d.withHn h).on g = d.on g := rfl
@[simp] theorem Dev.engine_withHn (d : Dev) (f : HnSt → HnSt) (i : Nat) : (d.withHn f).engine i = d.engine i := rfl
@[simp] theorem Dev.tb_withHn (d : Dev) (f : HnSt → HnSt) (i : Nat) : (d.withHn f).tb i = d.tb i := rfl

/-! ### `Dev.setLane` -/

@[simp] theorem Dev.setLane_regs (d : Dev) (p : Nat) (x : HnLane) : (d.setLane p x).regs = d.regs := rfl
@[simp] theorem Dev.setLane_shadows (d : Dev) (p : Nat) (x : HnLane) : (d.setLane p x).shadows = d.shadows := rfl
@[simp] theorem Dev.setLane_now (d : Dev) (p : Nat) (x : HnLane) : (d.setLane p x).now = d.now := rfl
@[simp] theorem Dev.setLane_free (d : Dev) (p : Nat) (x : HnLane) : (d.setLane p x).free = d.free := rfl
@[simp] theorem Dev.setLane_out (d : Dev) (p : Nat) (x : HnLane) : (d.setLane p x).out = d.out := rfl
@[simp] theorem Dev.setLane_rdata (d : Dev) (p : Nat) (x : HnLane) : (d.setLane p x).rdata = d.rdata := rfl
@[simp] theorem Dev.setLane_time (d : Dev) (p : Nat) (x : HnLane) : (d.setLane p x).time = d.time := rfl
@[simp] theorem Dev.setLane_stride (d : Dev) (p : Nat) (x : HnLane) : (d.setLane p x).stride = d.stride := rfl
@[simp] theorem Dev.setLane_img (d : Dev) (p : Nat) (x : HnLane) : (d.setLane p x).img = d.img := rfl
@[simp] theorem Dev.setLane_orch (d : Dev) (p : Nat) (x : HnLane) : (d.setLane p x).orch = d.orch := rfl
@[simp] theorem Dev.setLane_io (d : Dev) (p : Nat) (x : HnLane) : (d.setLane p x).io = d.io := rfl
@[simp] theorem Dev.setLane_fab (d : Dev) (p : Nat) (x : HnLane) : (d.setLane p x).fab = d.fab := rfl
@[simp] theorem Dev.setLane_net (d : Dev) (p : Nat) (x : HnLane) : (d.setLane p x).net = d.net := rfl
@[simp] theorem Dev.setLane_can (d : Dev) (p : Nat) (x : HnLane) : (d.setLane p x).can = d.can := rfl
@[simp] theorem Dev.setLane_ser (d : Dev) (p : Nat) (x : HnLane) : (d.setLane p x).ser = d.ser := rfl
@[simp] theorem Dev.setLane_eng (d : Dev) (p : Nat) (x : HnLane) : (d.setLane p x).eng = d.eng := rfl
@[simp] theorem Dev.setLane_bridle (d : Dev) (p : Nat) (x : HnLane) : (d.setLane p x).bridle = d.bridle := rfl
@[simp] theorem Dev.setLane_host (d : Dev) (p : Nat) (x : HnLane) : (d.setLane p x).host = d.host := rfl
@[simp] theorem Dev.setLane_upd (d : Dev) (p : Nat) (x : HnLane) : (d.setLane p x).upd = d.upd := rfl
@[simp] theorem Dev.setLane_pwr (d : Dev) (p : Nat) (x : HnLane) : (d.setLane p x).pwr = d.pwr := rfl
@[simp] theorem Dev.setLane_sys (d : Dev) (p : Nat) (x : HnLane) : (d.setLane p x).sys = d.sys := rfl
@[simp] theorem Dev.setLane_tap (d : Dev) (p : Nat) (x : HnLane) : (d.setLane p x).tap = d.tap := rfl
@[simp] theorem Dev.get_setLane (d : Dev) (p : Nat) (x : HnLane) (g : Fld) : (d.setLane p x).get g = d.get g := rfl
@[simp] theorem Dev.on_setLane (d : Dev) (p : Nat) (x : HnLane) (g : Fld) : (d.setLane p x).on g = d.on g := rfl
@[simp] theorem Dev.engine_setLane (d : Dev) (p : Nat) (x : HnLane) (i : Nat) : (d.setLane p x).engine i = d.engine i := rfl
@[simp] theorem Dev.tb_setLane (d : Dev) (p : Nat) (x : HnLane) (i : Nat) : (d.setLane p x).tb i = d.tb i := rfl

/-! ### `Dev.setCan` -/

@[simp] theorem Dev.setCan_regs (d : Dev) (c : Nat) (x : CanSt) : (d.setCan c x).regs = d.regs := rfl
@[simp] theorem Dev.setCan_shadows (d : Dev) (c : Nat) (x : CanSt) : (d.setCan c x).shadows = d.shadows := rfl
@[simp] theorem Dev.setCan_now (d : Dev) (c : Nat) (x : CanSt) : (d.setCan c x).now = d.now := rfl
@[simp] theorem Dev.setCan_free (d : Dev) (c : Nat) (x : CanSt) : (d.setCan c x).free = d.free := rfl
@[simp] theorem Dev.setCan_out (d : Dev) (c : Nat) (x : CanSt) : (d.setCan c x).out = d.out := rfl
@[simp] theorem Dev.setCan_rdata (d : Dev) (c : Nat) (x : CanSt) : (d.setCan c x).rdata = d.rdata := rfl
@[simp] theorem Dev.setCan_time (d : Dev) (c : Nat) (x : CanSt) : (d.setCan c x).time = d.time := rfl
@[simp] theorem Dev.setCan_stride (d : Dev) (c : Nat) (x : CanSt) : (d.setCan c x).stride = d.stride := rfl
@[simp] theorem Dev.setCan_img (d : Dev) (c : Nat) (x : CanSt) : (d.setCan c x).img = d.img := rfl
@[simp] theorem Dev.setCan_orch (d : Dev) (c : Nat) (x : CanSt) : (d.setCan c x).orch = d.orch := rfl
@[simp] theorem Dev.setCan_io (d : Dev) (c : Nat) (x : CanSt) : (d.setCan c x).io = d.io := rfl
@[simp] theorem Dev.setCan_fab (d : Dev) (c : Nat) (x : CanSt) : (d.setCan c x).fab = d.fab := rfl
@[simp] theorem Dev.setCan_net (d : Dev) (c : Nat) (x : CanSt) : (d.setCan c x).net = d.net := rfl
@[simp] theorem Dev.setCan_hn (d : Dev) (c : Nat) (x : CanSt) : (d.setCan c x).hn = d.hn := rfl
@[simp] theorem Dev.setCan_ser (d : Dev) (c : Nat) (x : CanSt) : (d.setCan c x).ser = d.ser := rfl
@[simp] theorem Dev.setCan_eng (d : Dev) (c : Nat) (x : CanSt) : (d.setCan c x).eng = d.eng := rfl
@[simp] theorem Dev.setCan_bridle (d : Dev) (c : Nat) (x : CanSt) : (d.setCan c x).bridle = d.bridle := rfl
@[simp] theorem Dev.setCan_host (d : Dev) (c : Nat) (x : CanSt) : (d.setCan c x).host = d.host := rfl
@[simp] theorem Dev.setCan_upd (d : Dev) (c : Nat) (x : CanSt) : (d.setCan c x).upd = d.upd := rfl
@[simp] theorem Dev.setCan_pwr (d : Dev) (c : Nat) (x : CanSt) : (d.setCan c x).pwr = d.pwr := rfl
@[simp] theorem Dev.setCan_sys (d : Dev) (c : Nat) (x : CanSt) : (d.setCan c x).sys = d.sys := rfl
@[simp] theorem Dev.setCan_tap (d : Dev) (c : Nat) (x : CanSt) : (d.setCan c x).tap = d.tap := rfl
@[simp] theorem Dev.get_setCan (d : Dev) (c : Nat) (x : CanSt) (g : Fld) : (d.setCan c x).get g = d.get g := rfl
@[simp] theorem Dev.on_setCan (d : Dev) (c : Nat) (x : CanSt) (g : Fld) : (d.setCan c x).on g = d.on g := rfl
@[simp] theorem Dev.engine_setCan (d : Dev) (c : Nat) (x : CanSt) (i : Nat) : (d.setCan c x).engine i = d.engine i := rfl
@[simp] theorem Dev.tb_setCan (d : Dev) (c : Nat) (x : CanSt) (i : Nat) : (d.setCan c x).tb i = d.tb i := rfl

/-! ### `Dev.setMb` -/

@[simp] theorem Dev.setMb_regs (d : Dev) (n k : Nat) (x : MbDir) : (d.setMb n k x).regs = d.regs := rfl
@[simp] theorem Dev.setMb_shadows (d : Dev) (n k : Nat) (x : MbDir) : (d.setMb n k x).shadows = d.shadows := rfl
@[simp] theorem Dev.setMb_now (d : Dev) (n k : Nat) (x : MbDir) : (d.setMb n k x).now = d.now := rfl
@[simp] theorem Dev.setMb_free (d : Dev) (n k : Nat) (x : MbDir) : (d.setMb n k x).free = d.free := rfl
@[simp] theorem Dev.setMb_out (d : Dev) (n k : Nat) (x : MbDir) : (d.setMb n k x).out = d.out := rfl
@[simp] theorem Dev.setMb_rdata (d : Dev) (n k : Nat) (x : MbDir) : (d.setMb n k x).rdata = d.rdata := rfl
@[simp] theorem Dev.setMb_time (d : Dev) (n k : Nat) (x : MbDir) : (d.setMb n k x).time = d.time := rfl
@[simp] theorem Dev.setMb_stride (d : Dev) (n k : Nat) (x : MbDir) : (d.setMb n k x).stride = d.stride := rfl
@[simp] theorem Dev.setMb_img (d : Dev) (n k : Nat) (x : MbDir) : (d.setMb n k x).img = d.img := rfl
@[simp] theorem Dev.setMb_orch (d : Dev) (n k : Nat) (x : MbDir) : (d.setMb n k x).orch = d.orch := rfl
@[simp] theorem Dev.setMb_io (d : Dev) (n k : Nat) (x : MbDir) : (d.setMb n k x).io = d.io := rfl
@[simp] theorem Dev.setMb_fab (d : Dev) (n k : Nat) (x : MbDir) : (d.setMb n k x).fab = d.fab := rfl
@[simp] theorem Dev.setMb_net (d : Dev) (n k : Nat) (x : MbDir) : (d.setMb n k x).net = d.net := rfl
@[simp] theorem Dev.setMb_hn (d : Dev) (n k : Nat) (x : MbDir) : (d.setMb n k x).hn = d.hn := rfl
@[simp] theorem Dev.setMb_can (d : Dev) (n k : Nat) (x : MbDir) : (d.setMb n k x).can = d.can := rfl
@[simp] theorem Dev.setMb_ser (d : Dev) (n k : Nat) (x : MbDir) : (d.setMb n k x).ser = d.ser := rfl
@[simp] theorem Dev.setMb_eng (d : Dev) (n k : Nat) (x : MbDir) : (d.setMb n k x).eng = d.eng := rfl
@[simp] theorem Dev.setMb_bridle (d : Dev) (n k : Nat) (x : MbDir) : (d.setMb n k x).bridle = d.bridle := rfl
@[simp] theorem Dev.setMb_upd (d : Dev) (n k : Nat) (x : MbDir) : (d.setMb n k x).upd = d.upd := rfl
@[simp] theorem Dev.setMb_pwr (d : Dev) (n k : Nat) (x : MbDir) : (d.setMb n k x).pwr = d.pwr := rfl
@[simp] theorem Dev.setMb_sys (d : Dev) (n k : Nat) (x : MbDir) : (d.setMb n k x).sys = d.sys := rfl
@[simp] theorem Dev.setMb_tap (d : Dev) (n k : Nat) (x : MbDir) : (d.setMb n k x).tap = d.tap := rfl
@[simp] theorem Dev.get_setMb (d : Dev) (n k : Nat) (x : MbDir) (g : Fld) : (d.setMb n k x).get g = d.get g := rfl
@[simp] theorem Dev.on_setMb (d : Dev) (n k : Nat) (x : MbDir) (g : Fld) : (d.setMb n k x).on g = d.on g := rfl
@[simp] theorem Dev.engine_setMb (d : Dev) (n k : Nat) (x : MbDir) (i : Nat) : (d.setMb n k x).engine i = d.engine i := rfl
@[simp] theorem Dev.tb_setMb (d : Dev) (n k : Nat) (x : MbDir) (i : Nat) : (d.setMb n k x).tb i = d.tb i := rfl

/-! ### `Dev.withUpd` -/

@[simp] theorem Dev.withUpd_regs (d : Dev) (f : UpdSt → UpdSt) : (d.withUpd f).regs = d.regs := rfl
@[simp] theorem Dev.withUpd_shadows (d : Dev) (f : UpdSt → UpdSt) : (d.withUpd f).shadows = d.shadows := rfl
@[simp] theorem Dev.withUpd_now (d : Dev) (f : UpdSt → UpdSt) : (d.withUpd f).now = d.now := rfl
@[simp] theorem Dev.withUpd_free (d : Dev) (f : UpdSt → UpdSt) : (d.withUpd f).free = d.free := rfl
@[simp] theorem Dev.withUpd_out (d : Dev) (f : UpdSt → UpdSt) : (d.withUpd f).out = d.out := rfl
@[simp] theorem Dev.withUpd_rdata (d : Dev) (f : UpdSt → UpdSt) : (d.withUpd f).rdata = d.rdata := rfl
@[simp] theorem Dev.withUpd_time (d : Dev) (f : UpdSt → UpdSt) : (d.withUpd f).time = d.time := rfl
@[simp] theorem Dev.withUpd_stride (d : Dev) (f : UpdSt → UpdSt) : (d.withUpd f).stride = d.stride := rfl
@[simp] theorem Dev.withUpd_img (d : Dev) (f : UpdSt → UpdSt) : (d.withUpd f).img = d.img := rfl
@[simp] theorem Dev.withUpd_orch (d : Dev) (f : UpdSt → UpdSt) : (d.withUpd f).orch = d.orch := rfl
@[simp] theorem Dev.withUpd_io (d : Dev) (f : UpdSt → UpdSt) : (d.withUpd f).io = d.io := rfl
@[simp] theorem Dev.withUpd_fab (d : Dev) (f : UpdSt → UpdSt) : (d.withUpd f).fab = d.fab := rfl
@[simp] theorem Dev.withUpd_net (d : Dev) (f : UpdSt → UpdSt) : (d.withUpd f).net = d.net := rfl
@[simp] theorem Dev.withUpd_hn (d : Dev) (f : UpdSt → UpdSt) : (d.withUpd f).hn = d.hn := rfl
@[simp] theorem Dev.withUpd_can (d : Dev) (f : UpdSt → UpdSt) : (d.withUpd f).can = d.can := rfl
@[simp] theorem Dev.withUpd_ser (d : Dev) (f : UpdSt → UpdSt) : (d.withUpd f).ser = d.ser := rfl
@[simp] theorem Dev.withUpd_eng (d : Dev) (f : UpdSt → UpdSt) : (d.withUpd f).eng = d.eng := rfl
@[simp] theorem Dev.withUpd_bridle (d : Dev) (f : UpdSt → UpdSt) : (d.withUpd f).bridle = d.bridle := rfl
@[simp] theorem Dev.withUpd_host (d : Dev) (f : UpdSt → UpdSt) : (d.withUpd f).host = d.host := rfl
@[simp] theorem Dev.withUpd_pwr (d : Dev) (f : UpdSt → UpdSt) : (d.withUpd f).pwr = d.pwr := rfl
@[simp] theorem Dev.withUpd_sys (d : Dev) (f : UpdSt → UpdSt) : (d.withUpd f).sys = d.sys := rfl
@[simp] theorem Dev.withUpd_tap (d : Dev) (f : UpdSt → UpdSt) : (d.withUpd f).tap = d.tap := rfl
@[simp] theorem Dev.get_withUpd (d : Dev) (h : UpdSt → UpdSt) (g : Fld) : (d.withUpd h).get g = d.get g := rfl
@[simp] theorem Dev.on_withUpd (d : Dev) (h : UpdSt → UpdSt) (g : Fld) : (d.withUpd h).on g = d.on g := rfl
@[simp] theorem Dev.engine_withUpd (d : Dev) (f : UpdSt → UpdSt) (i : Nat) : (d.withUpd f).engine i = d.engine i := rfl
@[simp] theorem Dev.tb_withUpd (d : Dev) (f : UpdSt → UpdSt) (i : Nat) : (d.withUpd f).tb i = d.tb i := rfl

/-! ### `Dev.withPwr` -/

@[simp] theorem Dev.withPwr_regs (d : Dev) (f : PwrSt → PwrSt) : (d.withPwr f).regs = d.regs := rfl
@[simp] theorem Dev.withPwr_shadows (d : Dev) (f : PwrSt → PwrSt) : (d.withPwr f).shadows = d.shadows := rfl
@[simp] theorem Dev.withPwr_now (d : Dev) (f : PwrSt → PwrSt) : (d.withPwr f).now = d.now := rfl
@[simp] theorem Dev.withPwr_free (d : Dev) (f : PwrSt → PwrSt) : (d.withPwr f).free = d.free := rfl
@[simp] theorem Dev.withPwr_out (d : Dev) (f : PwrSt → PwrSt) : (d.withPwr f).out = d.out := rfl
@[simp] theorem Dev.withPwr_rdata (d : Dev) (f : PwrSt → PwrSt) : (d.withPwr f).rdata = d.rdata := rfl
@[simp] theorem Dev.withPwr_time (d : Dev) (f : PwrSt → PwrSt) : (d.withPwr f).time = d.time := rfl
@[simp] theorem Dev.withPwr_stride (d : Dev) (f : PwrSt → PwrSt) : (d.withPwr f).stride = d.stride := rfl
@[simp] theorem Dev.withPwr_img (d : Dev) (f : PwrSt → PwrSt) : (d.withPwr f).img = d.img := rfl
@[simp] theorem Dev.withPwr_orch (d : Dev) (f : PwrSt → PwrSt) : (d.withPwr f).orch = d.orch := rfl
@[simp] theorem Dev.withPwr_io (d : Dev) (f : PwrSt → PwrSt) : (d.withPwr f).io = d.io := rfl
@[simp] theorem Dev.withPwr_fab (d : Dev) (f : PwrSt → PwrSt) : (d.withPwr f).fab = d.fab := rfl
@[simp] theorem Dev.withPwr_net (d : Dev) (f : PwrSt → PwrSt) : (d.withPwr f).net = d.net := rfl
@[simp] theorem Dev.withPwr_hn (d : Dev) (f : PwrSt → PwrSt) : (d.withPwr f).hn = d.hn := rfl
@[simp] theorem Dev.withPwr_can (d : Dev) (f : PwrSt → PwrSt) : (d.withPwr f).can = d.can := rfl
@[simp] theorem Dev.withPwr_ser (d : Dev) (f : PwrSt → PwrSt) : (d.withPwr f).ser = d.ser := rfl
@[simp] theorem Dev.withPwr_eng (d : Dev) (f : PwrSt → PwrSt) : (d.withPwr f).eng = d.eng := rfl
@[simp] theorem Dev.withPwr_bridle (d : Dev) (f : PwrSt → PwrSt) : (d.withPwr f).bridle = d.bridle := rfl
@[simp] theorem Dev.withPwr_host (d : Dev) (f : PwrSt → PwrSt) : (d.withPwr f).host = d.host := rfl
@[simp] theorem Dev.withPwr_upd (d : Dev) (f : PwrSt → PwrSt) : (d.withPwr f).upd = d.upd := rfl
@[simp] theorem Dev.withPwr_sys (d : Dev) (f : PwrSt → PwrSt) : (d.withPwr f).sys = d.sys := rfl
@[simp] theorem Dev.withPwr_tap (d : Dev) (f : PwrSt → PwrSt) : (d.withPwr f).tap = d.tap := rfl
@[simp] theorem Dev.get_withPwr (d : Dev) (h : PwrSt → PwrSt) (g : Fld) : (d.withPwr h).get g = d.get g := rfl
@[simp] theorem Dev.on_withPwr (d : Dev) (h : PwrSt → PwrSt) (g : Fld) : (d.withPwr h).on g = d.on g := rfl
@[simp] theorem Dev.engine_withPwr (d : Dev) (f : PwrSt → PwrSt) (i : Nat) : (d.withPwr f).engine i = d.engine i := rfl
@[simp] theorem Dev.tb_withPwr (d : Dev) (f : PwrSt → PwrSt) (i : Nat) : (d.withPwr f).tb i = d.tb i := rfl

/-! ### `Dev.setNet` -/

@[simp] theorem Dev.setNet_regs (d : Dev) (k : Nat) (x : SleepNet) : (d.setNet k x).regs = d.regs := rfl
@[simp] theorem Dev.setNet_shadows (d : Dev) (k : Nat) (x : SleepNet) : (d.setNet k x).shadows = d.shadows := rfl
@[simp] theorem Dev.setNet_now (d : Dev) (k : Nat) (x : SleepNet) : (d.setNet k x).now = d.now := rfl
@[simp] theorem Dev.setNet_free (d : Dev) (k : Nat) (x : SleepNet) : (d.setNet k x).free = d.free := rfl
@[simp] theorem Dev.setNet_out (d : Dev) (k : Nat) (x : SleepNet) : (d.setNet k x).out = d.out := rfl
@[simp] theorem Dev.setNet_rdata (d : Dev) (k : Nat) (x : SleepNet) : (d.setNet k x).rdata = d.rdata := rfl
@[simp] theorem Dev.setNet_time (d : Dev) (k : Nat) (x : SleepNet) : (d.setNet k x).time = d.time := rfl
@[simp] theorem Dev.setNet_stride (d : Dev) (k : Nat) (x : SleepNet) : (d.setNet k x).stride = d.stride := rfl
@[simp] theorem Dev.setNet_img (d : Dev) (k : Nat) (x : SleepNet) : (d.setNet k x).img = d.img := rfl
@[simp] theorem Dev.setNet_orch (d : Dev) (k : Nat) (x : SleepNet) : (d.setNet k x).orch = d.orch := rfl
@[simp] theorem Dev.setNet_io (d : Dev) (k : Nat) (x : SleepNet) : (d.setNet k x).io = d.io := rfl
@[simp] theorem Dev.setNet_fab (d : Dev) (k : Nat) (x : SleepNet) : (d.setNet k x).fab = d.fab := rfl
@[simp] theorem Dev.setNet_net (d : Dev) (k : Nat) (x : SleepNet) : (d.setNet k x).net = d.net := rfl
@[simp] theorem Dev.setNet_hn (d : Dev) (k : Nat) (x : SleepNet) : (d.setNet k x).hn = d.hn := rfl
@[simp] theorem Dev.setNet_can (d : Dev) (k : Nat) (x : SleepNet) : (d.setNet k x).can = d.can := rfl
@[simp] theorem Dev.setNet_ser (d : Dev) (k : Nat) (x : SleepNet) : (d.setNet k x).ser = d.ser := rfl
@[simp] theorem Dev.setNet_eng (d : Dev) (k : Nat) (x : SleepNet) : (d.setNet k x).eng = d.eng := rfl
@[simp] theorem Dev.setNet_bridle (d : Dev) (k : Nat) (x : SleepNet) : (d.setNet k x).bridle = d.bridle := rfl
@[simp] theorem Dev.setNet_host (d : Dev) (k : Nat) (x : SleepNet) : (d.setNet k x).host = d.host := rfl
@[simp] theorem Dev.setNet_upd (d : Dev) (k : Nat) (x : SleepNet) : (d.setNet k x).upd = d.upd := rfl
@[simp] theorem Dev.setNet_sys (d : Dev) (k : Nat) (x : SleepNet) : (d.setNet k x).sys = d.sys := rfl
@[simp] theorem Dev.setNet_tap (d : Dev) (k : Nat) (x : SleepNet) : (d.setNet k x).tap = d.tap := rfl
@[simp] theorem Dev.get_setNet (d : Dev) (k : Nat) (x : SleepNet) (g : Fld) : (d.setNet k x).get g = d.get g := rfl
@[simp] theorem Dev.on_setNet (d : Dev) (k : Nat) (x : SleepNet) (g : Fld) : (d.setNet k x).on g = d.on g := rfl
@[simp] theorem Dev.engine_setNet (d : Dev) (k : Nat) (x : SleepNet) (i : Nat) : (d.setNet k x).engine i = d.engine i := rfl
@[simp] theorem Dev.tb_setNet (d : Dev) (k : Nat) (x : SleepNet) (i : Nat) : (d.setNet k x).tb i = d.tb i := rfl

/-! ### `Dev.withSys` -/

@[simp] theorem Dev.withSys_regs (d : Dev) (f : SysSt → SysSt) : (d.withSys f).regs = d.regs := rfl
@[simp] theorem Dev.withSys_shadows (d : Dev) (f : SysSt → SysSt) : (d.withSys f).shadows = d.shadows := rfl
@[simp] theorem Dev.withSys_now (d : Dev) (f : SysSt → SysSt) : (d.withSys f).now = d.now := rfl
@[simp] theorem Dev.withSys_free (d : Dev) (f : SysSt → SysSt) : (d.withSys f).free = d.free := rfl
@[simp] theorem Dev.withSys_out (d : Dev) (f : SysSt → SysSt) : (d.withSys f).out = d.out := rfl
@[simp] theorem Dev.withSys_rdata (d : Dev) (f : SysSt → SysSt) : (d.withSys f).rdata = d.rdata := rfl
@[simp] theorem Dev.withSys_time (d : Dev) (f : SysSt → SysSt) : (d.withSys f).time = d.time := rfl
@[simp] theorem Dev.withSys_stride (d : Dev) (f : SysSt → SysSt) : (d.withSys f).stride = d.stride := rfl
@[simp] theorem Dev.withSys_img (d : Dev) (f : SysSt → SysSt) : (d.withSys f).img = d.img := rfl
@[simp] theorem Dev.withSys_orch (d : Dev) (f : SysSt → SysSt) : (d.withSys f).orch = d.orch := rfl
@[simp] theorem Dev.withSys_io (d : Dev) (f : SysSt → SysSt) : (d.withSys f).io = d.io := rfl
@[simp] theorem Dev.withSys_fab (d : Dev) (f : SysSt → SysSt) : (d.withSys f).fab = d.fab := rfl
@[simp] theorem Dev.withSys_net (d : Dev) (f : SysSt → SysSt) : (d.withSys f).net = d.net := rfl
@[simp] theorem Dev.withSys_hn (d : Dev) (f : SysSt → SysSt) : (d.withSys f).hn = d.hn := rfl
@[simp] theorem Dev.withSys_can (d : Dev) (f : SysSt → SysSt) : (d.withSys f).can = d.can := rfl
@[simp] theorem Dev.withSys_ser (d : Dev) (f : SysSt → SysSt) : (d.withSys f).ser = d.ser := rfl
@[simp] theorem Dev.withSys_eng (d : Dev) (f : SysSt → SysSt) : (d.withSys f).eng = d.eng := rfl
@[simp] theorem Dev.withSys_bridle (d : Dev) (f : SysSt → SysSt) : (d.withSys f).bridle = d.bridle := rfl
@[simp] theorem Dev.withSys_host (d : Dev) (f : SysSt → SysSt) : (d.withSys f).host = d.host := rfl
@[simp] theorem Dev.withSys_upd (d : Dev) (f : SysSt → SysSt) : (d.withSys f).upd = d.upd := rfl
@[simp] theorem Dev.withSys_pwr (d : Dev) (f : SysSt → SysSt) : (d.withSys f).pwr = d.pwr := rfl
@[simp] theorem Dev.withSys_tap (d : Dev) (f : SysSt → SysSt) : (d.withSys f).tap = d.tap := rfl
@[simp] theorem Dev.get_withSys (d : Dev) (h : SysSt → SysSt) (g : Fld) : (d.withSys h).get g = d.get g := rfl
@[simp] theorem Dev.on_withSys (d : Dev) (h : SysSt → SysSt) (g : Fld) : (d.withSys h).on g = d.on g := rfl
@[simp] theorem Dev.engine_withSys (d : Dev) (f : SysSt → SysSt) (i : Nat) : (d.withSys f).engine i = d.engine i := rfl
@[simp] theorem Dev.tb_withSys (d : Dev) (f : SysSt → SysSt) (i : Nat) : (d.withSys f).tb i = d.tb i := rfl

/-! ### `Dev.withTap` -/

@[simp] theorem Dev.withTap_regs (d : Dev) (f : TapSt → TapSt) : (d.withTap f).regs = d.regs := rfl
@[simp] theorem Dev.withTap_shadows (d : Dev) (f : TapSt → TapSt) : (d.withTap f).shadows = d.shadows := rfl
@[simp] theorem Dev.withTap_now (d : Dev) (f : TapSt → TapSt) : (d.withTap f).now = d.now := rfl
@[simp] theorem Dev.withTap_free (d : Dev) (f : TapSt → TapSt) : (d.withTap f).free = d.free := rfl
@[simp] theorem Dev.withTap_out (d : Dev) (f : TapSt → TapSt) : (d.withTap f).out = d.out := rfl
@[simp] theorem Dev.withTap_rdata (d : Dev) (f : TapSt → TapSt) : (d.withTap f).rdata = d.rdata := rfl
@[simp] theorem Dev.withTap_time (d : Dev) (f : TapSt → TapSt) : (d.withTap f).time = d.time := rfl
@[simp] theorem Dev.withTap_stride (d : Dev) (f : TapSt → TapSt) : (d.withTap f).stride = d.stride := rfl
@[simp] theorem Dev.withTap_img (d : Dev) (f : TapSt → TapSt) : (d.withTap f).img = d.img := rfl
@[simp] theorem Dev.withTap_orch (d : Dev) (f : TapSt → TapSt) : (d.withTap f).orch = d.orch := rfl
@[simp] theorem Dev.withTap_io (d : Dev) (f : TapSt → TapSt) : (d.withTap f).io = d.io := rfl
@[simp] theorem Dev.withTap_net (d : Dev) (f : TapSt → TapSt) : (d.withTap f).net = d.net := rfl
@[simp] theorem Dev.withTap_hn (d : Dev) (f : TapSt → TapSt) : (d.withTap f).hn = d.hn := rfl
@[simp] theorem Dev.withTap_can (d : Dev) (f : TapSt → TapSt) : (d.withTap f).can = d.can := rfl
@[simp] theorem Dev.withTap_ser (d : Dev) (f : TapSt → TapSt) : (d.withTap f).ser = d.ser := rfl
@[simp] theorem Dev.withTap_eng (d : Dev) (f : TapSt → TapSt) : (d.withTap f).eng = d.eng := rfl
@[simp] theorem Dev.withTap_bridle (d : Dev) (f : TapSt → TapSt) : (d.withTap f).bridle = d.bridle := rfl
@[simp] theorem Dev.withTap_host (d : Dev) (f : TapSt → TapSt) : (d.withTap f).host = d.host := rfl
@[simp] theorem Dev.withTap_upd (d : Dev) (f : TapSt → TapSt) : (d.withTap f).upd = d.upd := rfl
@[simp] theorem Dev.withTap_pwr (d : Dev) (f : TapSt → TapSt) : (d.withTap f).pwr = d.pwr := rfl
@[simp] theorem Dev.withTap_sys (d : Dev) (f : TapSt → TapSt) : (d.withTap f).sys = d.sys := rfl
@[simp] theorem Dev.withTap_fab (d : Dev) (f : TapSt → TapSt) : (d.withTap f).fab = d.fab := rfl
@[simp] theorem Dev.get_withTap (d : Dev) (h : TapSt → TapSt) (g : Fld) : (d.withTap h).get g = d.get g := rfl
@[simp] theorem Dev.on_withTap (d : Dev) (h : TapSt → TapSt) (g : Fld) : (d.withTap h).on g = d.on g := rfl
@[simp] theorem Dev.engine_withTap (d : Dev) (f : TapSt → TapSt) (i : Nat) : (d.withTap f).engine i = d.engine i := rfl
@[simp] theorem Dev.tb_withTap (d : Dev) (f : TapSt → TapSt) (i : Nat) : (d.withTap f).tb i = d.tb i := rfl

/-! ### `Dev.dropShadow` -/

@[simp] theorem Dev.dropShadow_regs (d : Dev) (k off : Nat) : (d.dropShadow k off).regs = d.regs := rfl
@[simp] theorem Dev.dropShadow_now (d : Dev) (k off : Nat) : (d.dropShadow k off).now = d.now := rfl
@[simp] theorem Dev.dropShadow_free (d : Dev) (k off : Nat) : (d.dropShadow k off).free = d.free := rfl
@[simp] theorem Dev.dropShadow_out (d : Dev) (k off : Nat) : (d.dropShadow k off).out = d.out := rfl
@[simp] theorem Dev.dropShadow_rdata (d : Dev) (k off : Nat) : (d.dropShadow k off).rdata = d.rdata := rfl
@[simp] theorem Dev.dropShadow_time (d : Dev) (k off : Nat) : (d.dropShadow k off).time = d.time := rfl
@[simp] theorem Dev.dropShadow_stride (d : Dev) (k off : Nat) : (d.dropShadow k off).stride = d.stride := rfl
@[simp] theorem Dev.dropShadow_img (d : Dev) (k off : Nat) : (d.dropShadow k off).img = d.img := rfl
@[simp] theorem Dev.dropShadow_orch (d : Dev) (k off : Nat) : (d.dropShadow k off).orch = d.orch := rfl
@[simp] theorem Dev.dropShadow_io (d : Dev) (k off : Nat) : (d.dropShadow k off).io = d.io := rfl
@[simp] theorem Dev.dropShadow_fab (d : Dev) (k off : Nat) : (d.dropShadow k off).fab = d.fab := rfl
@[simp] theorem Dev.dropShadow_net (d : Dev) (k off : Nat) : (d.dropShadow k off).net = d.net := rfl
@[simp] theorem Dev.dropShadow_hn (d : Dev) (k off : Nat) : (d.dropShadow k off).hn = d.hn := rfl
@[simp] theorem Dev.dropShadow_can (d : Dev) (k off : Nat) : (d.dropShadow k off).can = d.can := rfl
@[simp] theorem Dev.dropShadow_ser (d : Dev) (k off : Nat) : (d.dropShadow k off).ser = d.ser := rfl
@[simp] theorem Dev.dropShadow_eng (d : Dev) (k off : Nat) : (d.dropShadow k off).eng = d.eng := rfl
@[simp] theorem Dev.dropShadow_bridle (d : Dev) (k off : Nat) : (d.dropShadow k off).bridle = d.bridle := rfl
@[simp] theorem Dev.dropShadow_host (d : Dev) (k off : Nat) : (d.dropShadow k off).host = d.host := rfl
@[simp] theorem Dev.dropShadow_upd (d : Dev) (k off : Nat) : (d.dropShadow k off).upd = d.upd := rfl
@[simp] theorem Dev.dropShadow_pwr (d : Dev) (k off : Nat) : (d.dropShadow k off).pwr = d.pwr := rfl
@[simp] theorem Dev.dropShadow_sys (d : Dev) (k off : Nat) : (d.dropShadow k off).sys = d.sys := rfl
@[simp] theorem Dev.dropShadow_tap (d : Dev) (k off : Nat) : (d.dropShadow k off).tap = d.tap := rfl
@[simp] theorem Dev.get_dropShadow (d : Dev) (k off : Nat) (g : Fld) : (d.dropShadow k off).get g = d.get g := rfl
@[simp] theorem Dev.on_dropShadow (d : Dev) (k off : Nat) (g : Fld) : (d.dropShadow k off).on g = d.on g := rfl
@[simp] theorem Dev.engine_dropShadow (d : Dev) (k off : Nat) (i : Nat) : (d.dropShadow k off).engine i = d.engine i := rfl
@[simp] theorem Dev.tb_dropShadow (d : Dev) (k off : Nat) (i : Nat) : (d.dropShadow k off).tb i = d.tb i := rfl

/-! ### The value put -/

@[simp] theorem Dev.engine_setEngine_same (d : Dev) (e : Nat) (x : EngSt) : (d.setEngine e x).engine e = x := by
  simp [Dev.engine, Dev.setEngine]

theorem Dev.engine_setEngine_ne (d : Dev) (e i : Nat) (x : EngSt) (h : i ≠ e) : (d.setEngine e x).engine i = d.engine i := by
  simp [Dev.engine, Dev.setEngine, Tab.getD_put_ne _ _ _ _ _ h]

@[simp] theorem Dev.tb_setTb_same (d : Dev) (n : Nat) (x : TimeBase) : (d.setTb n x).tb n = x := by simp [Dev.tb, Dev.setTb]

theorem Dev.tb_setTb_ne (d : Dev) (n i : Nat) (x : TimeBase) (h : i ≠ n) : (d.setTb n x).tb i = d.tb i := by
  simp [Dev.tb, Dev.setTb, Tab.getD_put_ne _ _ _ _ _ h]

@[simp] theorem Dev.region_setRegion_same (d : Dev) (r : Nat) (x : Region) : (d.setRegion r x).region r = x := by
  simp [Dev.region, Dev.setRegion]

theorem Dev.region_setRegion_ne (d : Dev) (r i : Nat) (x : Region) (h : i ≠ r) : (d.setRegion r x).region i = d.region i := by
  simp [Dev.region, Dev.setRegion, Tab.getD_put_ne _ _ _ _ _ h]

@[simp] theorem Dev.lunge_setLunge_same (d : Dev) (n : Nat) (x : LungeSt) : (d.setLunge n x).lunge n = x := by
  simp [Dev.lunge, Dev.setLunge, Dev.withStride]

@[simp] theorem Dev.canSt_setCan_same (d : Dev) (c : Nat) (x : CanSt) : (d.setCan c x).canSt c = x := by simp [Dev.canSt, Dev.setCan]

@[simp] theorem Dev.canSt_set (d : Dev) (f : Fld) (v c : Nat) : (d.set f v).canSt c = d.canSt c := rfl

@[simp] theorem Dev.serSt_set (d : Dev) (f : Fld) (v n : Nat) : (d.set f v).serSt n = d.serSt n := rfl

@[simp] theorem Dev.serSt_setSer_same (d : Dev) (n : Nat) (x : SerSt) : (d.setSer n x).serSt n = x := by
  simp [Dev.serSt, Dev.setSer, Dev.set]

@[simp] theorem Dev.mb_setMb_same (d : Dev) (n k : Nat) (x : MbDir) : (d.setMb n k x).mb n k = x := by simp [Dev.mb, Dev.setMb]

@[simp] theorem Dev.hlane_setLane_same (d : Dev) (p : Nat) (x : HnLane) : (d.setLane p x).hlane p = x := by
  simp [Dev.hlane, Dev.setLane, Dev.withHn]

@[simp] theorem Dev.sleepNet_setNet_same (d : Dev) (k : Nat) (x : SleepNet) : (d.setNet k x).sleepNet k = x := by
  simp [Dev.sleepNet, Dev.setNet, Dev.withPwr]

/-! ### General registers of an engine (R419) -/

/-- g0 reads 0. -/
@[simp] theorem Dev.greg_zero (d : Dev) (e : Nat) : d.greg e 0 = 0 := rfl

/-- A write to g0 changes nothing. -/
@[simp] theorem Dev.setGreg_zero (d : Dev) (e v : Nat) : d.setGreg e 0 v = d := rfl

/-- A register holds the low 40 bits written to it. -/
theorem Dev.greg_setGreg_same (d : Dev) (e r v : Nat) (h : r ≠ 0) : (d.setGreg e r v).greg e r = v % 2 ^ 40 := by
  simp [Dev.greg, Dev.setGreg, h]

/-- The other registers keep their values. -/
theorem Dev.greg_setGreg_ne (d : Dev) (e i r j v : Nat) (h : i ≠ e ∨ j ≠ r) : (d.setGreg e r v).greg i j = d.greg i j := by
  unfold Dev.setGreg
  split
  · rfl
  · by_cases hi : i = e
    · subst hi
      have hj : j ≠ r := by simpa using h
      simp [Dev.greg, Tab.getD_put_ne _ _ _ _ _ hj]
    · simp [Dev.greg, Dev.engine_setEngine_ne _ _ _ _ hi]

@[simp] theorem Dev.setGreg_regs (d : Dev) (e r v : Nat) : (d.setGreg e r v).regs = d.regs := by unfold Dev.setGreg; split <;> rfl

@[simp] theorem Dev.get_setGreg (d : Dev) (e r v : Nat) (g : Fld) : (d.setGreg e r v).get g = d.get g := Dev.get_congr (by simp) g

end Sys2Proof.Machine
end

