-- ==== Sys2Proof/Laws/Events.lean ====
section
/-! SUPPORT. What raising an event and setting a cause can do (R689, R690): registers of block 0x3 and the cause's own flag, the output,
the event lines of engines and the due wakes; every other register and every other unit stays as it is. -/

namespace Sys2Proof.Machine
open Sys2Proof Sys2Proof.Safety

/-- What an event leaves alone: the fields outside block 0x3, and every unit but the output, the engines and the power unit. -/
structure EventFrame (d d' : Dev) : Prop where
  get : ∀ g : Fld, block g ≠ 3 → d'.get g = d.get g
  rest : d' = { d with regs := d'.regs, out := d'.out, eng := d'.eng, pwr := d'.pwr }

theorem EventFrame.refl (d : Dev) : EventFrame d d := ⟨fun _ _ => rfl, rfl⟩

theorem EventFrame.trans {a b c : Dev} (h1 : EventFrame a b) (h2 : EventFrame b c) : EventFrame a c := by
  refine ⟨fun g hg => (h2.get g hg).trans (h1.get g hg), ?_⟩
  rw [h2.rest, h1.rest]

theorem EventFrame.on {d d' : Dev} (h : EventFrame d d') (g : Fld) (hg : block g ≠ 3) : d'.on g = d.on g := by
  simp [Dev.on, h.get g hg]

/-- A field set within block 0x3. -/
theorem EventFrame.set (d : Dev) (f : Fld) (v : Nat) (h : block f = 3) : EventFrame d (d.set f v) :=
  ⟨fun g hg => Dev.get_set_ne d f g v (fun e => hg (by simpa [block, e] using h)), rfl⟩

theorem EventFrame.emit (d : Dev) (o : Output) : EventFrame d (d.emit o) := ⟨fun _ _ => rfl, rfl⟩

theorem EventFrame.setEngine (d : Dev) (e : Nat) (x : EngSt) : EventFrame d (d.setEngine e x) := ⟨fun _ _ => rfl, rfl⟩

theorem EventFrame.dozeWakeFor (d : Dev) (t : Nat) : EventFrame d (d.dozeWakeFor t) := by
  unfold Dev.dozeWakeFor
  split
  · exact .refl d
  · exact ⟨fun _ _ => rfl, rfl⟩

theorem EventFrame.latchLine (d : Dev) (e l : Nat) : EventFrame d (d.latchLine e l) := by
  simp only [Dev.latchLine]
  split
  · split
    · exact (EventFrame.setEngine _ _ _).trans (.dozeWakeFor _ _)
    · exact .setEngine _ _ _
  · exact .setEngine _ _ _

theorem EventFrame.msix (d : Dev) (v : Nat) : EventFrame d (d.msix v) := by
  unfold Dev.msix
  split
  · exact .set _ _ _ (by decide)
  · exact .emit _ _

theorem EventFrame.deliver (d : Dev) (i : Nat) : EventFrame d (d.deliver i) := by
  unfold Dev.deliver
  split
  · exact .msix _ _
  · exact .latchLine _ _ _
  · exact .refl d

theorem EventFrame.raise (d : Dev) (i : Nat) (hi : i < 256) : EventFrame d (d.raise i) := by
  have h1 : block (R.EV_STATUS (i / 32)) = 3 := by simp only [block, Fld.key, R.EV_STATUS]; omega
  have h2 : block (R.EV_CFG_CNT i) = 3 := by simp only [block, Fld.key, R.EV_CFG_CNT]; omega
  have h3 := (EventFrame.set d _ (d.get (R.EV_STATUS (i / 32)) ||| 2 ^ (i % 32)) h1).trans
    (.set _ _ ((d.set (R.EV_STATUS (i / 32)) (d.get (R.EV_STATUS (i / 32)) ||| 2 ^ (i % 32))).get (R.EV_CFG_CNT i) + 1) h2)
  simp only [Dev.raise]
  split
  · exact h3.trans (.deliver _ _)
  · exact h3

/-- A cause: its flag, and an event when it is enabled. -/
theorem EventFrame.cause (d : Dev) (f : Fld) (en : Bool) (ev : Nat) (h : ev < 256) : EventFrame (d.set f 1) (d.cause f en ev) := by
  simp only [Dev.cause]
  split
  · exact .raise _ _ h
  · exact .refl _

/-- The flag of a cause reads 1 after it. -/
theorem Dev.cause_get_same (d : Dev) (f : Fld) (en : Bool) (ev : Nat) (h : ev < 256) (hf : block f ≠ 3) :
    (d.cause f en ev).get f = 1 % 2 ^ f.width := by
  rw [(EventFrame.cause d f en ev h).get f hf, Dev.get_set_same]

/-- Every other register outside block 0x3 keeps its value. -/
theorem Dev.cause_get_ne (d : Dev) (f g : Fld) (en : Bool) (ev : Nat) (h : ev < 256) (hg : block g ≠ 3) (hne : g.key ≠ f.key) :
    (d.cause f en ev).get g = d.get g := by
  rw [(EventFrame.cause d f en ev h).get g hg, Dev.get_set_ne _ _ _ _ hne]

end Sys2Proof.Machine
end

