-- ==== Sys2Proof/Laws/Fabric.lean ====
section
/-! SUPPORT. What the slots of the fabric can do (R161 to R175, R195, R196): registers, what an event does, the fabric itself, and the cells of
mapping rules that find no room; every other unit stays as it is. -/

namespace Sys2Proof.Machine
open Sys2Proof Sys2Proof.Safety

/-- What the fabric leaves alone. -/
structure FabFrame (d d' : Dev) : Prop where
  rest : d' = { d with regs := d'.regs, out := d'.out, eng := d'.eng, pwr := d'.pwr, fab := d'.fab, img := d'.img }
  img : d'.img = { d.img with cells := d'.img.cells }

theorem FabFrame.refl (d : Dev) : FabFrame d d := ⟨rfl, rfl⟩

theorem FabFrame.trans {a b c : Dev} (h1 : FabFrame a b) (h2 : FabFrame b c) : FabFrame a c :=
  ⟨by rw [h2.rest, h1.rest], by rw [h2.img, h1.img]⟩

theorem FabFrame.withFab (d : Dev) (f : FabSt → FabSt) : FabFrame d (d.withFab f) := ⟨rfl, rfl⟩

theorem FabFrame.setFin (d : Dev) (i : Nat) (x : FIn) : FabFrame d (d.setFin i x) := .withFab ..

theorem FabFrame.editCopy (d : Dev) (id : Nat) (f : Copy → Copy) : FabFrame d (d.editCopy id f) := .withFab ..

theorem FabFrame.set (d : Dev) (f : Fld) (v : Nat) : FabFrame d (d.set f v) := ⟨rfl, rfl⟩

theorem FabFrame.inc (d : Dev) (f : Fld) : FabFrame d (d.inc f) := .set ..

theorem FabFrame.event {d d' : Dev} (h : EventFrame d d') : FabFrame d d' := ⟨by rw [h.rest], by rw [h.rest]⟩

theorem FabFrame.swCause (d : Dev) (f : Fld) (b : Nat) : FabFrame d (d.swCause f b) :=
  (FabFrame.set d f 1).trans (.event (.cause d f _ _ (by split <;> omega)))

theorem FabFrame.foldl {α : Type} {f : Dev → α → Dev} (h : ∀ a x, FabFrame a (f a x)) (d : Dev) (l : List α) : FabFrame d (l.foldl f d) := by
  induction l generalizing d with
  | nil => exact .refl d
  | cons x r ih => exact (h d x).trans (ih (f d x))

theorem FabFrame.showSlice (d : Dev) (k : Nat) : FabFrame d (d.showSlice k) := (FabFrame.set d _ _).trans (.set _ _ _)

theorem FabFrame.showSlices (d : Dev) : FabFrame d d.showSlices := .foldl (fun a k => .showSlice a k) d _

theorem FabFrame.countSched (d : Dev) (p budget : Nat) : FabFrame d (d.countSched p budget).1 := by
  unfold Dev.countSched
  extract_lets n d1
  have h1 : FabFrame d d1 := (FabFrame.withFab d _).trans (.set _ _ _)
  clear_value d1
  split
  · exact h1
  · exact (h1.trans (.inc _ _)).trans (.swCause _ _ _)

theorem FabFrame.cellSched (d : Dev) (c : FCell) : FabFrame d (d.cellSched c).1 := by
  unfold Dev.cellSched
  extract_lets k want budget a b
  have h : FabFrame d b.1 := (FabFrame.countSched d _ _).trans (.countSched _ _ _)
  clear_value b
  split
  · exact .refl d
  · split
    · exact .refl d
    · exact h

theorem FabFrame.stopWriting (d : Dev) (id : Nat) : FabFrame d (d.stopWriting id) := .withFab ..

theorem FabFrame.takeCopy (d : Dev) (c : Copy) : FabFrame d (d.takeCopy c) :=
  ((FabFrame.withFab d _).trans (.stopWriting _ _)).trans (.showSlices _)

theorem FabFrame.pullFrame (d : Dev) (i : Nat) : FabFrame d (d.pullFrame i) := by
  unfold Dev.pullFrame
  dsimp only
  split
  · exact .refl d
  · split
    · split
      · exact .refl d
      · split
        · exact .refl d
        · exact (FabFrame.setFin d _ _).trans (.withFab _ _)
    · split
      · exact .refl d
      · exact .setFin ..

theorem FabFrame.bufDrop (d : Dev) (j : Nat) (loops : Bool) : FabFrame d (d.bufDrop j loops) := by
  unfold Dev.bufDrop
  extract_lets d1
  have h1 : FabFrame d d1 := (FabFrame.inc d _).trans (.swCause _ _ _)
  clear_value d1
  split
  · exact h1.trans (.swCause _ _ _)
  · exact h1

theorem FabFrame.putCell (d : Dev) (k : Nat) (c : FCell) : FabFrame d (d.putCell k c) := (FabFrame.withFab d _).trans (.showSlice _ _)

theorem FabFrame.nextSeq (d : Dev) (c : FCell) : FabFrame d (d.nextSeq c).2 := ⟨rfl, rfl⟩

theorem FabFrame.dropCell (d : Dev) (k : Nat) (c : FCell) : FabFrame d (d.dropCell k c) := by
  unfold Dev.dropCell
  split
  · extract_lets d1
    exact (FabFrame.bufDrop d _ _).trans ⟨rfl, rfl⟩
  · split
    · exact .refl d
    · extract_lets d1
      have h1 : FabFrame d d1 := .bufDrop ..
      clear_value d1
      split
      · exact h1.trans (.takeCopy _ _)
      · exact ((h1.trans (.stopWriting _ _)).trans (.putCell _ _ _)).trans (.editCopy _ _ _)

theorem FabFrame.writeCell (d : Dev) (k s : Nat) (c : FCell) : FabFrame d (d.writeCell k s c) := by
  unfold Dev.writeCell
  extract_lets r q c' d1 d2
  have hr : FabFrame d r.1 := .cellSched ..
  have hq : FabFrame d q.2 := hr.trans (.nextSeq _ _)
  have h1 : FabFrame d d1 := by
    unfold d1
    split
    · exact (hq.trans (.inc _ _)).trans (.swCause _ _ _)
    · exact hq
  have h2 : FabFrame d d2 := by
    unfold d2
    split
    · exact h1.trans (.editCopy _ _ _)
    · exact h1
  clear_value d2
  split
  · exact hr.trans (.dropCell _ _ _)
  · exact h2.trans (.putCell _ _ _)

theorem FabFrame.inputSlot (d : Dev) (s i : Nat) : FabFrame d (d.inputSlot s i) := by
  unfold Dev.inputSlot
  extract_lets d0 x k recent
  have h0 : FabFrame d d0 := .pullFrame ..
  clear_value d0
  split
  · exact h0
  · split
    · exact (h0.trans (.setFin _ _ _)).trans (.writeCell _ _ _ _)
    · split
      · split
        · exact h0.trans (.setFin _ _ _)
        · extract_lets d1
          split
          · exact h0.trans (.setFin _ _ _)
          · exact (h0.trans (.setFin _ _ _)).trans (.writeCell _ _ _ _)
      · exact h0
    · exact h0

theorem FabFrame.outputSlot (d : Dev) (s j : Nat) : FabFrame d (d.outputSlot s j) := by
  unfold Dev.outputSlot
  split
  · exact .refl d
  · split
    · exact .refl d
    · exact (FabFrame.withFab d _).trans (.showSlice _ _)

theorem FabFrame.fabSlot (d : Dev) (s : Nat) : FabFrame d (d.fabSlot s) :=
  by
  unfold Dev.fabSlot
  extract_lets js d1 d2
  have h1 : FabFrame d d1 := .foldl (fun a j => .outputSlot a s j) d _
  have h2 : FabFrame d1 d2 := .foldl (fun a i => .inputSlot a s i) d1 _
  exact (h1.trans h2).trans (.withFab _ _)

theorem FabFrame.fabRun (d : Dev) (n k : Nat) : FabFrame d (d.fabRun n k) := by
  induction k generalizing d with
  | zero => exact .refl d
  | succ k ih =>
    unfold Dev.fabRun
    split
    · split
      · exact (FabFrame.fabSlot d _).trans (ih _)
      · exact .withFab ..
    · exact .withFab ..

theorem FabFrame.fabSync (d : Dev) : FabFrame d d.fabSync := by
  unfold Dev.fabSync
  split
  · exact .fabRun ..
  · exact .refl d

end Sys2Proof.Machine
end

