-- ==== Sys2Proof/Laws/Frame.lean ====
section
/-! SUPPORT. The frames of the statements: how the frame of an effect is put together from the frames of its updates; and the gate of a
writer whose access is performed. -/

namespace Sys2Proof.Safety
open Sys2Proof Sys2Proof.Machine

/-! ### Registers alone -/

theorem OnlyRegs.refl (fs : List Fld) (s : State) : OnlyRegs fs s s := ⟨⟨rfl, rfl, fun _ _ => rfl⟩, rfl⟩

theorem OnlyRegs.trans {fs : List Fld} {a b c : State} (h1 : OnlyRegs fs a b) (h2 : OnlyRegs fs b c) : OnlyRegs fs a c :=
  ⟨⟨h2.1.1.trans h1.1.1, h2.1.2.1.trans h1.1.2.1, fun g hg => (h2.1.2.2 g hg).trans (h1.1.2.2 g hg)⟩, by rw [h2.2, h1.2]⟩

/-- A field of the list is set. -/
theorem OnlyRegs.set {fs : List Fld} (s : State) (f : Fld) (v : Nat) (h : f ∈ fs) : OnlyRegs fs s (s.on (fun d => d.set f v)) :=
  ⟨⟨rfl, rfl, fun _ hg => Dev.get_set_ne _ _ _ _ (hg f h)⟩, rfl⟩

/-- A field of the list is set after other updates of registers alone. -/
theorem OnlyRegs.on_set {fs : List Fld} {s : State} {k : Dev → Dev} (f : Fld) (v : Dev → Nat) (h : f ∈ fs) (hk : OnlyRegs fs s (s.on k)) :
    OnlyRegs fs s (s.on (fun d => (k d).set f (v d))) :=
  hk.trans (OnlyRegs.set (s.on k) f (v s.dev) h)

/-! ### Registers and events -/

theorem OnlyRegsEv.refl (fs : List Fld) (s : State) : OnlyRegsEv fs s s := ⟨rfl, rfl, fun _ _ _ => rfl, rfl⟩

theorem OnlyRegsEv.trans {fs : List Fld} {a b c : State} (h1 : OnlyRegsEv fs a b) (h2 : OnlyRegsEv fs b c) : OnlyRegsEv fs a c :=
  ⟨h2.1.trans h1.1, h2.2.1.trans h1.2.1, fun g hb hg => (h2.2.2.1 g hb hg).trans (h1.2.2.1 g hb hg), by rw [h2.2.2.2, h1.2.2.2]⟩

theorem OnlyRegs.events {fs : List Fld} {s t : State} (h : OnlyRegs fs s t) : OnlyRegsEv fs s t :=
  ⟨h.1.1, h.1.2.1, fun g _ hg => h.1.2.2 g hg, by rw [h.2]⟩

theorem OnlyRegsEv.ofEvent {fs : List Fld} (s : State) (d' : Dev) (h : EventFrame s.dev d') : OnlyRegsEv fs s { s with dev := d' } :=
  ⟨rfl, rfl, fun g hb _ => h.get g hb, h.rest⟩

/-- A cause of the list is set. -/
theorem OnlyRegsEv.cause {fs : List Fld} (s : State) (f : Fld) (en : Bool) (ev : Nat) (he : ev < 256) (h : f ∈ fs) :
    OnlyRegsEv fs s (s.on (fun d => d.cause f en ev)) :=
  (OnlyRegs.set s f 1 h).events.trans (OnlyRegsEv.ofEvent (s.on (fun d => d.set f 1)) _ (EventFrame.cause s.dev f en ev he))

end Sys2Proof.Safety

namespace Sys2Proof.Machine
open Sys2Proof Sys2Proof.Safety

/-! ### The gate -/

/-- A register write that is performed has its effect. -/
theorem State.gate_pass {s : State} {w : Writer} {f : Fld} (h : Grants s w f) (off : Nat) (k : State → State) (e : off = f.addr) :
    s.gate w off k = k s := by
  unfold State.gate
  rw [if_pos]
  rw [e]
  exact h

/-- A command that is one register write, when it is performed. -/
theorem State.gate_next {s : State} {w : Writer} {f : Fld} {off : Nat} {k : State → State} (h : Grants s w f) (e : off = f.addr) :
    (Host.Outcome.next (s.gate w off k) : Host.Outcome State Fault Refusal) = .next (k s) := by rw [State.gate_pass h off k e]

/-- A register write that is not performed is dropped. -/
theorem State.gate_drop {s : State} {w : Writer} {f : Fld} (h : ¬ Grants s w f) (off : Nat) (k : State → State) (e : off = f.addr) :
    s.gate w off k = s.on (fun d => d.denied w) := by
  unfold State.gate
  rw [if_neg]
  rw [e]
  exact h

end Sys2Proof.Machine
end

