-- ==== Sys2Proof/Laws/Mem.lean ====
section
/-! SUPPORT. The laws of the byte memories: reads after writes, and that every memory operation keeps the canonical form. -/

namespace Sys2Proof.Machine
open Sys2Proof

/-! ### Reads after writes -/

theorem Mem.byte_of_lt (m : List Host.Cell) (lo a : Nat) (h : Mem.wfFrom lo m = true) (ha : a < lo) : Mem.byte m a = Mem.dflt := by
  induction m generalizing lo with
  | nil => rfl
  | cons c r ih =>
    obtain ⟨a', b⟩ := c
    simp only [Mem.wfFrom, Bool.and_eq_true, decide_eq_true_eq] at h
    rw [Mem.byte, if_neg (by omega), ih (a' + 1) h.2 (by omega)]

theorem Mem.byte_insert_same (m : List Host.Cell) (a : Nat) (b : Byte) : Mem.byte (Mem.insert m a b) a = b := by
  induction m with
  | nil => simp [Mem.insert, Mem.byte]
  | cons c r ih =>
    obtain ⟨a', b'⟩ := c
    unfold Mem.insert
    split
    · simp [Mem.byte]
    · split
      · simp [Mem.byte]
      · next h => rw [Mem.byte, if_neg (Ne.symm h), ih]

theorem Mem.byte_insert_ne (m : List Host.Cell) (a i : Nat) (b : Byte) (h : i ≠ a) : Mem.byte (Mem.insert m a b) i = Mem.byte m i := by
  induction m with
  | nil => simp [Mem.insert, Mem.byte, h.symm]
  | cons c r ih =>
    obtain ⟨a', b'⟩ := c
    unfold Mem.insert
    split
    · rw [Mem.byte, if_neg h.symm]
    · split
      · next h2 => subst h2; simp [Mem.byte, h.symm]
      · simp only [Mem.byte, ih]

theorem Mem.byte_erase_same (m : List Host.Cell) (a lo : Nat) (h : Mem.wfFrom lo m = true) : Mem.byte (Mem.erase m a) a = Mem.dflt := by
  induction m generalizing lo with
  | nil => rfl
  | cons c r ih =>
    obtain ⟨a', b'⟩ := c
    simp only [Mem.wfFrom, Bool.and_eq_true, decide_eq_true_eq] at h
    unfold Mem.erase
    split
    · next e => subst e; exact Mem.byte_of_lt r (a' + 1) a' h.2 (by omega)
    · next e => rw [Mem.byte, if_neg e, ih (a' + 1) h.2]

theorem Mem.byte_erase_ne (m : List Host.Cell) (a i : Nat) (h : i ≠ a) : Mem.byte (Mem.erase m a) i = Mem.byte m i := by
  induction m with
  | nil => rfl
  | cons c r ih =>
    obtain ⟨a', b'⟩ := c
    unfold Mem.erase
    split
    · next e => subst e; rw [Mem.byte, if_neg h.symm]
    · simp only [Mem.byte, ih]

/-- A byte written reads back. -/
theorem Mem.byte_setByte_same (m : List Host.Cell) (a : Nat) (b : Byte) (h : Memory.wf m = true) : Mem.byte (Mem.setByte m a b) a = b := by
  unfold Mem.setByte
  split
  · next e => rw [Mem.byte_erase_same m a 0 h, e]
  · exact Mem.byte_insert_same m a b

/-- The other bytes keep their values. -/
theorem Mem.byte_setByte_ne (m : List Host.Cell) (a i : Nat) (b : Byte) (h : i ≠ a) : Mem.byte (Mem.setByte m a b) i = Mem.byte m i := by
  unfold Mem.setByte
  split
  · exact Mem.byte_erase_ne m a i h
  · exact Mem.byte_insert_ne m a i b h

/-! ### The canonical form -/

theorem Mem.wfFrom_mono (m : List Host.Cell) (lo lo' : Nat) (h : Mem.wfFrom lo m = true) (hl : lo' ≤ lo) : Mem.wfFrom lo' m = true := by
  cases m with
  | nil => rfl
  | cons c r =>
    obtain ⟨a, b⟩ := c
    simp only [Mem.wfFrom, Bool.and_eq_true, decide_eq_true_eq] at h ⊢
    exact ⟨⟨by omega, h.1.2⟩, h.2⟩

theorem Mem.wfFrom_erase (m : List Host.Cell) (lo a : Nat) (h : Mem.wfFrom lo m = true) : Mem.wfFrom lo (Mem.erase m a) = true := by
  induction m generalizing lo with
  | nil => rfl
  | cons c r ih =>
    obtain ⟨a', b'⟩ := c
    unfold Mem.erase
    simp only [Mem.wfFrom, Bool.and_eq_true, decide_eq_true_eq] at h
    split
    · exact Mem.wfFrom_mono r (a' + 1) lo h.2 (by omega)
    · simp only [Mem.wfFrom, Bool.and_eq_true, decide_eq_true_eq]
      exact ⟨h.1, ih _ h.2⟩

theorem Mem.wfFrom_insert (m : List Host.Cell) (lo a : Nat) (b : Byte) (h : Mem.wfFrom lo m = true) (ha : lo ≤ a) (hb : b ≠ Mem.dflt) :
    Mem.wfFrom lo (Mem.insert m a b) = true := by
  induction m generalizing lo with
  | nil => simp [Mem.insert, Mem.wfFrom, ha, hb]
  | cons c r ih =>
    obtain ⟨a', b'⟩ := c
    unfold Mem.insert
    simp only [Mem.wfFrom, Bool.and_eq_true, decide_eq_true_eq, bne_iff_ne, ne_eq] at h
    split
    · simp only [Mem.wfFrom, Bool.and_eq_true, decide_eq_true_eq, bne_iff_ne, ne_eq]
      exact ⟨⟨ha, hb⟩, ⟨by omega, h.1.2⟩, h.2⟩
    · split
      · next e => subst e; simp only [Mem.wfFrom, Bool.and_eq_true, decide_eq_true_eq, bne_iff_ne, ne_eq]; exact ⟨⟨ha, hb⟩, h.2⟩
      · simp only [Mem.wfFrom, Bool.and_eq_true, decide_eq_true_eq, bne_iff_ne, ne_eq]
        exact ⟨h.1, ih _ h.2 (by omega)⟩

theorem Mem.wfFrom_filter (m : List Host.Cell) (lo : Nat) (p : Host.Cell → Bool) (h : Mem.wfFrom lo m = true) :
    Mem.wfFrom lo (m.filter p) = true := by
  induction m generalizing lo with
  | nil => rfl
  | cons c r ih =>
    obtain ⟨a, b⟩ := c
    simp only [Mem.wfFrom, Bool.and_eq_true, decide_eq_true_eq] at h
    rw [List.filter_cons]
    split
    · simp only [Mem.wfFrom, Bool.and_eq_true, decide_eq_true_eq]; exact ⟨h.1, ih _ h.2⟩
    · exact Mem.wfFrom_mono _ (a + 1) lo (ih _ h.2) (by omega)

@[simp] theorem Memory.wf_nil : Memory.wf [] = true := rfl

/-- A write of one byte keeps the canonical form. -/
@[simp] theorem Memory.wf_setByte (m : List Host.Cell) (a : Nat) (b : Byte) (h : Memory.wf m = true) : Memory.wf (Mem.setByte m a b) = true := by
  unfold Mem.setByte
  split
  · exact Mem.wfFrom_erase m 0 a h
  · next hb => exact Mem.wfFrom_insert m 0 a b h (by omega) hb

/-- A write of bytes keeps the canonical form. -/
@[simp] theorem Memory.wf_setBytes (m : List Host.Cell) (a : Nat) (l : List Byte) (h : Memory.wf m = true) :
    Memory.wf (Mem.setBytes m a l) = true := by
  induction l generalizing m a with
  | nil => exact h
  | cons b r ih => exact ih _ _ (Memory.wf_setByte m a b h)

/-- Bytes dropped keep the canonical form. -/
@[simp] theorem Memory.wf_filter (m : List Host.Cell) (p : Host.Cell → Bool) (h : Memory.wf m = true) : Memory.wf (m.filter p) = true :=
  Mem.wfFrom_filter m 0 p h

@[simp] theorem Memory.wf_clearRange (m : List Host.Cell) (lo n : Nat) (h : Memory.wf m = true) : Memory.wf (Mem.clearRange m lo n) = true :=
  Memory.wf_filter m _ h

/-- A byte outside the bytes written keeps its value. -/
theorem Mem.byte_setBytes_ne (m : List Host.Cell) (a i : Nat) (l : List Byte) (h : i < a ∨ a + l.length ≤ i) :
    Mem.byte (Mem.setBytes m a l) i = Mem.byte m i := by
  induction l generalizing m a with
  | nil => rfl
  | cons b r ih =>
    rw [List.length_cons] at h
    rw [Mem.setBytes, ih _ _ (by omega), Mem.byte_setByte_ne _ _ _ _ (by omega)]

/-- Byte `k` of the bytes written reads back. -/
theorem Mem.byte_setBytes_same (m : List Host.Cell) (a k : Nat) (l : List Byte) (hm : Memory.wf m = true) (hk : k < l.length) :
    Mem.byte (Mem.setBytes m a l) (a + k) = l[k] := by
  induction l generalizing m a k with
  | nil => simp at hk
  | cons b r ih =>
    rw [Mem.setBytes]
    cases k with
    | zero => rw [Mem.byte_setBytes_ne _ _ _ _ (by omega)]; exact Mem.byte_setByte_same m a b hm
    | succ j =>
      rw [List.length_cons] at hk
      have := ih (Mem.setByte m a b) (a + 1) j (Memory.wf_setByte m a b hm) (by omega)
      rw [show a + (j + 1) = a + 1 + j by omega, this]
      rfl

end Sys2Proof.Machine
end

