-- ==== Sys2Proof/Laws/Kept.lean ====
section
/-! SUPPORT. What every operation on the whole state keeps: the queue of commands that wait, and the canonical form of the memories. One
lemma per operation. -/

namespace Sys2Proof.Machine
open Sys2Proof Sys2Proof.Safety

/-- From `s` to `t` the queue stays and the memories stay canonical. -/
structure Kept (s t : State) : Prop where
  pending : t.pending = s.pending
  wf : MemOk s → MemOk t

theorem Kept.refl (s : State) : Kept s s := ⟨rfl, id⟩

theorem Kept.trans {a b c : State} (h1 : Kept a b) (h2 : Kept b c) : Kept a c := ⟨h2.pending.trans h1.pending, fun h => h2.wf (h1.wf h)⟩

theorem Kept.on (s : State) (f : Dev → Dev) : Kept s (s.on f) := ⟨rfl, id⟩

theorem Kept.setDev (s : State) (d : Dev) : Kept s { s with dev := d } := ⟨rfl, id⟩

theorem Kept.mk_eta (s x : State) (d : Dev) : Kept s ⟨d, x.mem, x.pending⟩ ↔ Kept s x := ⟨fun h => ⟨h.1, h.2⟩, fun h => ⟨h.1, h.2⟩⟩

theorem Kept.mk_setBytes {s : State} (d : Dev) {m : List Host.Cell} {p : List Instr} (a : Nat) (l : List Byte) (h : Kept s ⟨d, m, p⟩) :
    Kept s ⟨d, Mem.setBytes m a l, p⟩ := ⟨h.1, fun x => Memory.wf_setBytes m a l (h.2 x)⟩

theorem Kept.mk_if {s : State} (d : Dev) {m : List Host.Cell} {p : List Instr} (c : Bool) (a : Nat) (l : List Byte) (h : Kept s ⟨d, m, p⟩) :
    Kept s ⟨d, if c then Mem.setBytes m a l else m, p⟩ := by
  cases c
  · exact h
  · exact .mk_setBytes d a l h

theorem Kept.mk_clear {s : State} (d : Dev) {m : List Host.Cell} {p : List Instr} (a n : Nat) (h : Kept s ⟨d, m, p⟩) :
    Kept s ⟨d, Mem.clearRange m a n, p⟩ := ⟨h.1, fun x => Memory.wf_clearRange m a n (h.2 x)⟩

theorem Kept.mk_filter {s : State} (d : Dev) {m : List Host.Cell} {p : List Instr} (f : Host.Cell → Bool) (h : Kept s ⟨d, m, p⟩) :
    Kept s ⟨d, m.filter f, p⟩ := ⟨h.1, fun x => Memory.wf_filter m f (h.2 x)⟩

theorem Memory.wf_setRole (m : List Host.Cell) (addr role : Nat) (h : Memory.wf m = true) : Memory.wf (setRole m addr role) = true :=
  Memory.wf_setByte m _ _ h

theorem Kept.foldl {α : Type} {f : State → α → State} (h : ∀ a x, Kept a (f a x)) (s : State) (l : List α) : Kept s (l.foldl f s) := by
  induction l generalizing s with
  | nil => exact .refl s
  | cons x r ih => exact (h s x).trans (ih (f s x))

theorem State.orchWrite_kept (s : State) (r : Req) (addr : Nat) (bs : List Byte) : Kept s (s.orchWrite r addr bs) := by
  unfold State.orchWrite
  repeat' (first
    | with_reducible exact .refl _ | with_reducible refine .trans ?_ (.on _ _) | intro _ | split | dsimp only
    | with_reducible refine .mk_setBytes _ _ _ ?_ | with_reducible refine .mk_if _ _ _ _ ?_ | simp only [Kept.mk_eta])

theorem State.orchSpan_kept (s : State) (r : Req) (addr : Nat) (bs : List Byte) : Kept s (s.orchSpan r addr bs) := by
  unfold State.orchSpan
  have put : ∀ (a : State) (o : Nat) (l : List Byte), Kept a (if l = [] then a else a.orchWrite r (addr + o) l) := by
    intro a o l; split
    · exact .refl _
    · exact State.orchWrite_kept ..
  dsimp only
  split
  · exact ((put _ _ _).trans (put _ _ _)).trans (put _ _ _)
  · exact State.orchWrite_kept ..

theorem State.orchStore_kept (s : State) (r : Req) (addr : Nat) (bs : List Byte) : Kept s (s.orchStore r addr bs) := by
  unfold State.orchStore
  dsimp only
  split
  · exact State.orchSpan_kept ..
  · exact (State.orchSpan_kept ..).trans (State.orchSpan_kept ..)

theorem State.on_kept (s : State) (f : Dev → Dev) : Kept s (s.on f) := by
  unfold State.on
  repeat' (first
    | with_reducible exact .refl _ | with_reducible refine .trans ?_ (.on _ _) | intro _ | split | dsimp only | simp only [Kept.mk_eta])

theorem State.access_kept (s : State) (a : OrchAccess) : Kept s (s.access a) := by
  unfold State.access
  repeat' (first
    | with_reducible exact .refl _ | with_reducible refine .trans ?_ (State.orchWrite_kept ..) | with_reducible refine .trans ?_ (.on _ _)
    | intro _ | split | dsimp only | simp only [Kept.mk_eta])

theorem State.access2_kept (s : State) (a b : OrchAccess) : Kept s (s.access2 a b) := by
  unfold State.access2
  repeat' (first
    | with_reducible exact .refl _ | with_reducible refine .trans ?_ (State.access_kept ..) | with_reducible refine .trans ?_ (.on _ _)
    | intro _ | split | dsimp only)

theorem State.access12_kept (s : State) (a : OrchAccess) (b : Option OrchAccess) : Kept s (s.access12 a b) := by
  unfold State.access12
  repeat' (first
    | with_reducible exact .refl _ | with_reducible refine .trans ?_ (State.access_kept ..)
    | with_reducible refine .trans ?_ (State.access2_kept ..) | with_reducible refine .trans ?_ (.on _ _) | intro _ | split | dsimp only)

theorem State.bankPowerDone_kept (s : State) (n : Nat) : Kept s (s.bankPowerDone n) := by
  unfold State.bankPowerDone
  repeat' (first
    | with_reducible exact .refl _ | with_reducible refine .trans ?_ (.on _ _) | intro _ | split | dsimp only
    | with_reducible refine .mk_clear _ _ _ ?_ | simp only [Kept.mk_eta])

theorem State.copyItem_kept (s : State) (r i : Nat) : Kept s (s.copyItem r i) := by
  unfold State.copyItem
  repeat' (first
    | with_reducible exact .refl _ | with_reducible refine .trans ?_ (State.orchWrite_kept ..) | with_reducible refine .trans ?_ (.on _ _)
    | intro _ | split | dsimp only)

theorem State.finishRegion_kept (s : State) (r n : Nat) (halted : Bool) : Kept s (s.finishRegion r n halted) := by
  unfold State.finishRegion
  repeat' (first
    | with_reducible exact .refl _ | with_reducible refine .trans ?_ (State.orchWrite_kept ..)
    | with_reducible refine .trans ?_ (State.orchStore_kept ..) | with_reducible refine .trans ?_ (State.copyItem_kept ..) | with_reducible refine .trans ?_ (.on _ _)
    | with_reducible refine .trans ?_ (.foldl ?_ _ _) | intro _ | split | dsimp only)

theorem State.finisher_kept (s : State) (g n : Nat) (halted : List Nat) : Kept s (s.finisher g n halted) := by
  unfold State.finisher
  repeat' (first
    | with_reducible exact .refl _ | with_reducible refine .trans ?_ (State.finishRegion_kept ..)
    | with_reducible refine .trans ?_ (.on _ _) | with_reducible refine .trans ?_ (.foldl ?_ _ _) | intro _ | split | dsimp only
    | simp only [Kept.mk_eta])

theorem State.sampleBinding_kept (s : State) (i : Nat) : Kept s (s.sampleBinding i) := by
  unfold State.sampleBinding
  repeat' (first
    | with_reducible exact .refl _ | with_reducible refine .trans ?_ (State.orchWrite_kept ..) | with_reducible refine .trans ?_ (.on _ _)
    | intro _ | split | dsimp only)

theorem State.edgeSample_kept (s : State) (n : Nat) : Kept s (s.edgeSample n) :=
  .foldl (fun a i => by
    split
    · exact State.sampleBinding_kept a i
    · exact .refl a) s _

theorem State.flipRegion_kept (s : State) (r n : Nat) : Kept s (s.flipRegion r n) :=
  ⟨rfl, fun h => Memory.wf_setRole _ _ _ (Memory.wf_setRole _ _ _ (Memory.wf_setRole _ _ _ h))⟩

theorem State.flip_kept (s : State) (n : Nat) : Kept s (s.flip n) := by
  unfold State.flip
  repeat' (first
    | with_reducible exact .refl _ | with_reducible refine .trans ?_ (State.flipRegion_kept ..)
    | with_reducible refine .trans ?_ (.on _ _) | with_reducible refine .trans ?_ (.foldl ?_ _ _) | intro _ | split | dsimp only)

theorem State.deliverItems_kept (s : State) (q : Req) (region item stride : Nat) (l : List (List Byte × Nat)) : Kept s (s.deliverItems q region item stride l) := by
  unfold State.deliverItems
  repeat' (first
    | with_reducible exact .refl _ | with_reducible refine .trans ?_ (State.orchWrite_kept ..) | with_reducible refine .trans ?_ (.on _ _)
    | with_reducible refine .trans ?_ (.foldl ?_ _ _) | intro _ | split | dsimp only)

theorem State.runRule_kept (s : State) (n : Nat) : Kept s (s.runRule n) := by
  unfold State.runRule
  repeat' (first
    | with_reducible exact .refl _ | with_reducible refine .trans ?_ (State.deliverItems_kept ..)
    | with_reducible refine .trans ?_ (.on _ _) | intro _ | split | dsimp only | simp only [Kept.mk_eta])

theorem State.deliverCells_kept (s : State) (dst : Nat) : Kept s (s.deliverCells dst) := by
  unfold State.deliverCells
  split
  · exact .refl s
  · extract_lets s1 c s2 s3 g inTime s4
    have h1 : Kept s s1 := .on _ _
    have h3 : Kept s s3 := by
      have h2 : Kept s s2 := h1.trans (.on _ _)
      clear_value s2 s1
      unfold s3
      split
      · exact h2.trans (.on _ _)
      · exact h2
    have h4 : Kept s s4 := by
      clear_value s3 s1
      unfold s4
      split
      · exact h3.trans (.on _ _)
      · exact h3.trans (State.deliverItems_kept ..)
    clear_value s1 s3 s4
    split
    · exact h1
    · split
      · exact h3
      · split
        · split
          · exact h4.trans (.on _ _)
          · exact h4
        · exact h4

theorem State.storeRx_kept (s : State) (q : Req) (base count buf i : Nat) (c : Copy) (ride : Bool) : Kept s (s.storeRx q base count buf i c ride) := by
  unfold State.storeRx
  repeat' (first
    | with_reducible exact .refl _ | with_reducible refine .trans ?_ (State.orchWrite_kept ..) | with_reducible refine .trans ?_ (State.orchStore_kept ..)
    | with_reducible refine .trans ?_ (.on _ _)
    | intro _ | split | dsimp only)

theorem State.hostRx_kept (s : State) (c : Copy) : Kept s (s.hostRx c) := by
  unfold State.hostRx
  extract_lets d base count i q own
  split
  · exact .on _ _
  · split
    · exact .setDev s _
    · exact ((Kept.setDev s own.2).trans (State.storeRx_kept ..)).trans (.on _ _)

theorem State.capture_kept (s : State) (c : Copy) : Kept s (s.capture c) := by
  unfold State.capture
  repeat' (first
    | with_reducible exact .refl _ | with_reducible refine .trans ?_ (State.orchWrite_kept ..) | with_reducible refine .trans ?_ (State.orchStore_kept ..)
    | with_reducible refine .trans ?_ (.on _ _)
    | intro _ | split | dsimp only)

theorem State.f38Deliver_kept (s : State) : Kept s s.f38Deliver := by
  unfold State.f38Deliver
  split
  · exact .setDev s _
  · next c d _ =>
    extract_lets s1
    have h1 : Kept s s1 := .setDev s d
    split
    · exact h1.trans (State.capture_kept ..)
    · split
      · exact h1.trans (.on _ _)
      · exact h1.trans (State.hostRx_kept ..)

theorem State.txStatus_kept (s : State) (q : Req) (a v : Nat) : Kept s (s.txStatus q a v) := by
  unfold State.txStatus
  repeat' (first
    | with_reducible exact .refl _ | with_reducible refine .trans ?_ (State.orchWrite_kept ..) | with_reducible refine .trans ?_ (.on _ _)
    | intro _ | split | dsimp only)

theorem State.txFinish_kept (s : State) (t : Nat) : Kept s (s.txFinish t) := by
  unfold State.txFinish
  split
  · exact .refl s
  · next e credits _ =>
    extract_lets s0 h a q x rd
    have h0 : Kept s s0 := .on _ _
    have hr : Kept s { s0 with dev := (rd.2.sendEntry x rd.1).sentWait (26 + t) rd.2.fab.nextId } := ⟨rfl, id⟩
    clear_value s0 rd x
    split
    · exact h0.trans (.on _ _)
    · split
      · exact (h0.trans (State.txStatus_kept ..)).trans (.on _ _)
      · split
        · exact (h0.trans (State.txStatus_kept ..)).trans (.on _ _)
        · split
          · exact ((h0.trans (.on _ _)).trans (State.txStatus_kept ..)).trans (.on _ _)
          · exact (hr.trans (State.txStatus_kept ..)).trans (.on _ _)

theorem State.ringStore_kept (s : State) (e : Nat) (c : Copy) (ride : Bool) : Kept s (s.ringStore e c ride) := by
  unfold State.ringStore
  extract_lets d n base i q drop own
  split
  · exact .on _ _
  · split
    · exact .setDev s _
    · exact ((Kept.setDev s own.2).trans (State.storeRx_kept ..)).trans (.on _ _)

theorem State.rxEntryWrite_kept (s : State) (t : Nat) : Kept s (s.rxEntryWrite t) := by
  unfold State.rxEntryWrite
  split
  · exact .setDev s _
  · exact (Kept.setDev s _).trans (State.ringStore_kept ..)

theorem State.hostTxDone_kept (s : State) : Kept s (s.hostTxDone) := by
  unfold State.hostTxDone
  repeat' (first
    | with_reducible exact .refl _ | with_reducible refine .trans ?_ (State.txStatus_kept ..) | with_reducible refine .trans ?_ (.on _ _)
    | intro _ | split | dsimp only | simp only [Kept.mk_eta])

theorem State.hnPdata_kept (s : State) (team : Nat) (body : List Byte) : Kept s (s.hnPdata team body) := by
  unfold State.hnPdata
  repeat' (first
    | with_reducible exact .refl _ | with_reducible refine .trans ?_ (State.orchWrite_kept ..) | with_reducible refine .trans ?_ (.on _ _)
    | with_reducible refine .trans ?_ (.foldl ?_ _ _) | intro _ | split | dsimp only | simp only [Kept.mk_eta])

theorem State.hnSections_kept (s : State) (p src team : Nat) (cmd : Bool) (n : Nat) (l : List Byte) : Kept s (s.hnSections p src team cmd n l) := by
  induction n generalizing s l with
  | zero => exact .refl s
  | succ k ih =>
    unfold State.hnSections
    split
    · exact .refl s
    · refine .trans ?_ (ih _ _)
      split
      · exact State.hnPdata_kept ..
      · split
        · exact .on _ _
        · exact .refl s
      · exact .refl s
      · exact .refl s
      · exact .on _ _

theorem State.hnDeliver_kept (s : State) (p : Nat) (l : List Byte) : Kept s (s.hnDeliver p l) := by
  unfold State.hnDeliver
  repeat' (first
    | with_reducible exact .refl _ | with_reducible refine .trans ?_ (State.hnSections_kept ..)
    | with_reducible refine .trans ?_ (.on _ _) | intro _ | split | dsimp only)

theorem State.hnRelay_kept (s : State) (p : Nat) (l : List Byte) (arrival : Int) (e : Int × Nat × HnSlot) : Kept s (s.hnRelay p l arrival e) := by
  unfold State.hnRelay
  repeat' (first
    | with_reducible exact .refl _ | with_reducible refine .trans ?_ (State.hnDeliver_kept ..) | with_reducible refine .trans ?_ (.on _ _)
    | intro _ | split | dsimp only | simp only [Kept.mk_eta])

theorem State.startupRx_kept (s : State) (p : Nat) (l : List Byte) : Kept s (s.startupRx p l) := by
  unfold State.startupRx
  split
  · split
    · exact (Kept.on s _).trans (State.hnDeliver_kept ..)
    · exact .on _ _
  · exact .on _ _
  · exact .refl s

theorem State.hnFromMember_kept (s : State) (p : Nat) (l : List Byte) (arrival : Int) : Kept s (s.hnFromMember p l arrival) := by
  unfold State.hnFromMember
  extract_lets d st member arr
  split
  · exact .refl s
  · split
    · exact State.startupRx_kept ..
    · split
      · exact .refl s
      · split
        · next e _ =>
          extract_lets s1
          split
          · exact (Kept.on s (arr e false)).trans (State.hnRelay_kept ..)
          · exact Kept.on s (arr e false)
        · split
          · exact .on _ _
          · exact .on _ _

theorem State.hnFromStar_kept (s : State) (p : Nat) (l : List Byte) : Kept s (s.hnFromStar p l) := by
  unfold State.hnFromStar
  repeat' (first
    | with_reducible exact .refl _ | with_reducible refine .trans ?_ (State.hnDeliver_kept ..) | with_reducible refine .trans ?_ (.on _ _)
    | intro _ | split | dsimp only | simp only [Kept.mk_eta])

theorem State.hnReceive_kept (s : State) (p : Nat) (l : List Byte) (arrival : Int) : Kept s (s.hnReceive p l arrival) := by
  unfold State.hnReceive
  repeat' (first
    | with_reducible exact .refl _ | with_reducible refine .trans ?_ (State.hnFromMember_kept ..)
    | with_reducible refine .trans ?_ (State.hnFromStar_kept ..) | with_reducible refine .trans ?_ (.on _ _) | intro _ | split
    | dsimp only)

theorem State.canTxChoice_kept (s : State) (c : Nat) : Kept s (s.canTxChoice c) := by
  unfold State.canTxChoice
  repeat' (first
    | with_reducible exact .refl _ | with_reducible refine .trans ?_ (.on _ _) | intro _ | split | dsimp only | simp only [Kept.mk_eta])

theorem State.canStage_kept (s : State) (c : Nat) (f : CanFrame) (ago : Nat) : Kept s (s.canStage c f ago) := by
  unfold State.canStage
  repeat' (first
    | with_reducible exact .refl _ | with_reducible refine .trans ?_ (.on _ _) | intro _ | split | dsimp only | simp only [Kept.mk_eta])

theorem State.canReceive_kept (s : State) (c : Nat) (f : CanFrame) (ago : Nat) : Kept s (s.canReceive c f ago) := by
  unfold State.canReceive
  repeat' (first
    | with_reducible exact .refl _ | with_reducible refine .trans ?_ (State.canStage_kept ..) | with_reducible refine .trans ?_ (.on _ _)
    | intro _ | split | dsimp only)

theorem State.canStore_kept (s : State) (c : Nat) : Kept s (s.canStore c) := by
  unfold State.canStore
  repeat' (first
    | with_reducible exact .refl _ | with_reducible refine .trans ?_ (State.orchWrite_kept ..) | with_reducible refine .trans ?_ (State.orchStore_kept ..)
    | with_reducible refine .trans ?_ (.on _ _)
    | intro _ | split | dsimp only | simp only [Kept.mk_eta])

theorem State.canTxEnd_kept (s : State) (c : Nat) (result : CanEnd) (ago tdcv : Nat) : Kept s (s.canTxEnd c result ago tdcv) := by
  unfold State.canTxEnd
  repeat' (first
    | with_reducible exact .refl _ | with_reducible refine .trans ?_ (State.canStage_kept ..) | with_reducible refine .trans ?_ (.on _ _)
    | intro _ | split | dsimp only)

theorem State.rideFrame_kept (s : State) (p : Nat) (bytes : List Byte) (take : Nat) (last err : Bool) (phase : Nat) :
    Kept s (s.rideFrame p bytes take last err phase) := by
  unfold State.rideFrame
  extract_lets
  split
  · exact .refl s
  · split
    · exact .setDev s _
    · split
      · exact (Kept.setDev s _).trans (State.ringStore_kept ..)
      · exact .setDev s _

theorem Mem.mramOnly_wf (m : List Host.Cell) (h : Memory.wf m = true) : Memory.wf (Mem.mramOnly m) = true := Memory.wf_filter m _ h

theorem State.powerReset_kept (s : State) (sleep : Bool) (bit : Option Nat) : Kept s (s.powerReset sleep bit) :=
  ⟨rfl, fun h => Mem.mramOnly_wf s.mem h⟩

theorem State.warmReset_kept (s : State) (bit : Nat) : Kept s (s.warmReset bit) := by
  unfold State.warmReset
  extract_lets d d1 d2
  exact ⟨rfl, fun h => Memory.wf_clearRange s.mem _ _ h⟩

theorem State.teamOff_kept (s : State) (x : Nat) : Kept s (s.teamOff x) := by
  unfold State.teamOff
  repeat' (first
    | with_reducible exact .refl _ | with_reducible refine .trans ?_ (.on _ _) | with_reducible refine .trans ?_ (.foldl ?_ _ _) | intro _
    | split | dsimp only | with_reducible refine .mk_clear _ _ _ ?_ | simp only [Kept.mk_eta])

theorem State.domainDone_kept (s : State) (x : Nat) : Kept s (s.domainDone x) := by
  unfold State.domainDone
  split
  · exact .refl s
  · next st _ =>
    split
    · exact .refl s
    · extract_lets s1
      have h1 : Kept s s1 := .on _ _
      split
      · split
        · exact h1.trans (State.teamOff_kept ..)
        · split
          · exact (h1.trans (State.teamOff_kept s1 x)).trans (.on _ _)
          · exact h1.trans (.on _ _)
      · split
        · split
          · exact h1.trans (.on _ _)
          · exact h1
        · split
          · exact h1.trans (.on _ _)
          · exact h1.trans (.on _ _)

theorem State.sendSleepFrame_kept (s : State) (k : Nat) (m : SleepMsg) : Kept s (s.sendSleepFrame k m) := by
  unfold State.sendSleepFrame
  repeat' (first
    | with_reducible exact .refl _ | with_reducible refine .trans ?_ (.on _ _) | intro _ | split | dsimp only
    | with_reducible refine .mk_setBytes _ _ _ ?_ | simp only [Kept.mk_eta])

theorem State.flushSleep_kept (s : State) : Kept s (s.flushSleep) := by
  unfold State.flushSleep
  repeat' (first
    | with_reducible exact .refl _ | with_reducible refine .trans ?_ (State.sendSleepFrame_kept ..)
    | with_reducible refine .trans ?_ (.on _ _) | with_reducible refine .trans ?_ (.foldl ?_ _ _) | intro _ | split | dsimp only
    | simp only [Kept.mk_eta])

theorem State.sleepSend_kept (s : State) (k lane : Nat) (m : SleepMsg) : Kept s (s.sleepSend k lane m) := by
  unfold State.sleepSend
  repeat' (first
    | with_reducible exact .refl _ | with_reducible refine .trans ?_ (State.flushSleep_kept ..)
    | with_reducible refine .trans ?_ (.on _ _) | intro _ | split | dsimp only | simp only [Kept.mk_eta])

theorem State.answerUp_kept (s : State) (type round cause flags : Nat) : Kept s (s.answerUp type round cause flags) := by
  unfold State.answerUp
  repeat' (first
    | with_reducible exact .refl _ | with_reducible refine .trans ?_ (State.sleepSend_kept ..) | with_reducible refine .trans ?_ (.on _ _)
    | intro _ | split | dsimp only | simp only [Kept.mk_eta])

theorem State.leaderCommit_kept (s : State) (k : Nat) : Kept s (s.leaderCommit k) := by
  unfold State.leaderCommit
  repeat' (first
    | with_reducible exact .refl _ | with_reducible refine .trans ?_ (State.sleepSend_kept ..) | with_reducible refine .trans ?_ (.on _ _)
    | intro _ | split | dsimp only | simp only [Kept.mk_eta])

theorem State.visitNext_kept (s : State) : Kept s (s.visitNext) := by
  unfold State.visitNext
  repeat' (first
    | with_reducible exact .refl _ | with_reducible refine .trans ?_ (State.sleepSend_kept ..)
    | with_reducible refine .trans ?_ (State.answerUp_kept ..) | with_reducible refine .trans ?_ (State.leaderCommit_kept ..)
    | with_reducible refine .trans ?_ (.on _ _) | intro _ | split | dsimp only | simp only [Kept.mk_eta])

theorem State.roundStart_kept (s : State) (k : Nat) : Kept s (s.roundStart k) := by
  unfold State.roundStart
  repeat' (first
    | with_reducible exact .refl _ | with_reducible refine .trans ?_ (State.sleepSend_kept ..)
    | with_reducible refine .trans ?_ (State.leaderCommit_kept ..) | with_reducible refine .trans ?_ (State.visitNext_kept ..)
    | with_reducible refine .trans ?_ (.on _ _) | intro _ | split | dsimp only | simp only [Kept.mk_eta])

theorem State.tokenLane_kept (s : State) (lane : Nat) (m : SleepMsg) : Kept s (s.tokenLane lane m) := by
  unfold State.tokenLane
  repeat' (first
    | with_reducible exact .refl _ | with_reducible refine .trans ?_ (State.answerUp_kept ..)
    | with_reducible refine .trans ?_ (State.visitNext_kept ..) | with_reducible refine .trans ?_ (.on _ _) | intro _ | split | dsimp only
    | simp only [Kept.mk_eta])

theorem State.tokenCan_kept (s : State) (k : Nat) (m : SleepMsg) : Kept s (s.tokenCan k m) := by
  unfold State.tokenCan
  repeat' (first
    | with_reducible exact .refl _ | with_reducible refine .trans ?_ (State.sleepSend_kept ..)
    | with_reducible refine .trans ?_ (State.leaderCommit_kept ..) | with_reducible refine .trans ?_ (.on _ _) | intro _ | split
    | dsimp only | simp only [Kept.mk_eta])

theorem State.sleepToken_kept (s : State) (k lane : Nat) (m : SleepMsg) : Kept s (s.sleepToken k lane m) := by
  unfold State.sleepToken
  repeat' (first
    | with_reducible exact .refl _ | with_reducible refine .trans ?_ (State.tokenLane_kept ..)
    | with_reducible refine .trans ?_ (State.tokenCan_kept ..) | with_reducible refine .trans ?_ (.on _ _) | intro _ | split | dsimp only)

theorem State.sleepConsent_kept (s : State) (lane : Nat) (m : SleepMsg) : Kept s (s.sleepConsent lane m) := by
  unfold State.sleepConsent
  repeat' (first
    | with_reducible exact .refl _ | with_reducible refine .trans ?_ (State.answerUp_kept ..)
    | with_reducible refine .trans ?_ (State.visitNext_kept ..) | with_reducible refine .trans ?_ (.on _ _) | intro _ | split | dsimp only
    | simp only [Kept.mk_eta])

theorem State.visitsFail_kept (s : State) (node flags : Nat) : Kept s (s.visitsFail node flags) := by
  unfold State.visitsFail
  repeat' (first
    | with_reducible exact .refl _ | with_reducible refine .trans ?_ (State.answerUp_kept ..) | with_reducible refine .trans ?_ (.on _ _)
    | intro _ | split | dsimp only | simp only [Kept.mk_eta])

theorem State.sleepRefuse_kept (s : State) (k lane : Nat) (m : SleepMsg) : Kept s (s.sleepRefuse k lane m) := by
  unfold State.sleepRefuse
  repeat' (first
    | with_reducible exact .refl _ | with_reducible refine .trans ?_ (State.answerUp_kept ..)
    | with_reducible refine .trans ?_ (State.visitsFail_kept ..) | with_reducible refine .trans ?_ (.on _ _) | intro _ | split
    | dsimp only | simp only [Kept.mk_eta])

theorem State.visitTimeout_kept (s : State) (k : Nat) : Kept s (s.visitTimeout k) := by
  unfold State.visitTimeout
  repeat' (first
    | with_reducible exact .refl _ | with_reducible refine .trans ?_ (State.visitsFail_kept ..)
    | with_reducible refine .trans ?_ (.on _ _) | intro _ | split | dsimp only)

theorem State.sleepCommit_kept (s : State) (k lane round v : Nat) : Kept s (s.sleepCommit k lane round v) := by
  unfold State.sleepCommit
  repeat' (first
    | with_reducible exact .refl _ | with_reducible refine .trans ?_ (.on _ _) | intro _ | split | dsimp only)

theorem State.sendWake_kept (s : State) (k node : Nat) : Kept s (s.sendWake k node) := by
  unfold State.sendWake
  repeat' (first
    | with_reducible exact .refl _ | with_reducible refine .trans ?_ (State.sleepSend_kept ..) | with_reducible refine .trans ?_ (.on _ _)
    | with_reducible refine .trans ?_ (.foldl ?_ _ _) | intro _ | split | dsimp only | simp only [Kept.mk_eta])

theorem State.sleepSettle_kept (s : State) : Kept s s.sleepSettle :=
  .foldl (fun a k => by
    split
    · extract_lets x b
      have hb : Kept a b := .on _ _
      split
      · exact (hb.trans (.on _ _)).trans (State.sendWake_kept ..)
      · exact hb
    · exact .refl a) s _

theorem State.wakeNet_kept (s : State) (k : Nat) (node : Option Nat) : Kept s (s.wakeNet k node) := by
  unfold State.wakeNet
  split
  · exact .refl s
  · extract_lets d1 d2
    split
    · exact .setDev s _
    · exact (Kept.setDev s _).trans (State.sleepSettle_kept _)

theorem State.leaveSleep_kept (s : State) (ks : List Nat) (heard : Option Nat) : Kept s (s.leaveSleep ks heard) := by
  unfold State.leaveSleep
  repeat' (first
    | with_reducible exact .refl _ | with_reducible refine .trans ?_ (State.powerReset_kept ..)
    | with_reducible refine .trans ?_ (State.wakeNet_kept ..) | with_reducible refine .trans ?_ (.on _ _)
    | with_reducible refine .trans ?_ (.foldl ?_ _ _) | intro _ | split | dsimp only)

theorem State.sleepEntry_kept (s : State) (k : Nat) : Kept s (s.sleepEntry k) := by
  unfold State.sleepEntry
  split
  · exact .refl s
  · extract_lets entry d0 last d1 d2 s1
    have h1 : Kept s s1 := .setDev s _
    split
    · split
      · exact h1.trans (State.leaveSleep_kept ..)
      · exact h1.trans (State.wakeNet_kept ..)
    · exact h1

theorem State.wakeSeen_kept (s : State) (k : Nat) (node : Option Nat) : Kept s (s.wakeSeen k node) := by
  unfold State.wakeSeen
  repeat' (first
    | with_reducible exact .refl _ | with_reducible refine .trans ?_ (State.sleepSend_kept ..)
    | with_reducible refine .trans ?_ (State.answerUp_kept ..) | with_reducible refine .trans ?_ (State.wakeNet_kept ..)
    | with_reducible refine .trans ?_ (.on _ _) | intro _ | split | dsimp only | simp only [Kept.mk_eta])

theorem State.wakeFrom_kept (s : State) (src : Nat) (ks : List Nat) (heard : Option Nat) (node : Nat → Option Nat) :
    Kept s (s.wakeFrom src ks heard node) := by
  unfold State.wakeFrom
  repeat' (first
    | with_reducible exact .refl _ | with_reducible refine .trans ?_ (State.leaveSleep_kept ..)
    | with_reducible refine .trans ?_ (State.wakeSeen_kept ..) | with_reducible refine .trans ?_ (.on _ _)
    | with_reducible refine .trans ?_ (.foldl ?_ _ _) | intro _ | split | dsimp only)

theorem State.wakeRequest_kept (s : State) (src : Nat) (ks : List Nat) : Kept s (s.wakeRequest src ks) := State.wakeFrom_kept ..

theorem State.wakeSource_kept (s : State) (src k pin : Nat) (node : Option Nat) : Kept s (s.wakeSource src k pin node) := by
  unfold State.wakeSource
  extract_lets d fv s0 s1
  have h0 : Kept s s0 := by
    unfold s0
    split
    · exact .refl s
    · exact .setDev s _
  have h1 : Kept s s1 := h0.trans (State.wakeFrom_kept ..)
  clear_value s1
  split
  · exact .refl s
  · split
    · split
      · exact h1.trans (.foldl (fun a j => State.wakeNet_kept ..) s1 _)
      · exact h1
    · exact State.wakeRequest_kept ..

theorem State.sleepWake_kept (s : State) (k lane : Nat) (node : Option Nat) : Kept s (s.sleepWake k lane node) := by
  unfold State.sleepWake
  extract_lets s1
  split
  · exact .refl s
  · have h1 : Kept s s1 := by
      unfold s1
      split
      · exact .on _ _
      · exact .refl s
    clear_value s1
    split
    · exact h1.trans (State.wakeSource_kept ..)
    · split
      · exact h1.trans (State.wakeRequest_kept ..)
      · split
        · split
          · exact h1.trans (.on _ _)
          · exact h1
        · exact h1

theorem State.wakeTimer_kept (s : State) : Kept s (s.wakeTimer) := by
  unfold State.wakeTimer
  repeat' (first
    | with_reducible exact .refl _ | with_reducible refine .trans ?_ (State.wakeRequest_kept ..)
    | with_reducible refine .trans ?_ (.on _ _) | intro _ | split | dsimp only)

theorem State.slpKickWrite_kept (s : State) (w : Writer) (v : Nat) : Kept s (s.slpKickWrite w v) := by
  unfold State.slpKickWrite
  extract_lets s1 s2
  have h1 : Kept s s1 := by
    show Kept s (if _ then _ else _)
    split
    · exact .on _ _
    · exact .refl s
  have h2 : Kept s s2 := by
    show Kept s (if _ then _ else _)
    split
    · exact h1.trans (State.wakeRequest_kept ..)
    · exact h1
  exact h2.trans (.on _ _)

theorem State.gate_kept (s : State) (w : Writer) (off : Nat) (f : State → State) (h : ∀ x, Kept x (f x)) : Kept s (s.gate w off f) := by
  unfold State.gate
  split
  · exact h s
  · exact .on _ _

theorem State.mbBell_kept (s : State) (n k : Nat) : Kept s (s.mbBell n k) := by
  unfold State.mbBell
  repeat' (first
    | with_reducible exact .refl _ | with_reducible refine .trans ?_ (State.wakeRequest_kept ..)
    | with_reducible refine .trans ?_ (.on _ _) | intro _ | split | dsimp only | simp only [Kept.mk_eta])

theorem State.mbGo_kept (s : State) (n k : Nat) : Kept s (s.mbGo n k) := by
  unfold State.mbGo
  repeat' (first
    | with_reducible exact .refl _ | with_reducible refine .trans ?_ (State.mbBell_kept ..) | with_reducible refine .trans ?_ (.on _ _)
    | intro _ | split | dsimp only | simp only [Kept.mk_eta])

theorem State.mbPostWrite_kept (s : State) (w : Writer) (n k v : Nat) : Kept s (s.mbPostWrite w n k v) := by
  unfold State.mbPostWrite
  extract_lets len bad s1
  split
  · exact .on _ _
  · split
    · exact (Kept.on s _).trans (State.mbGo_kept s1 n k)
    · exact .on _ _

theorem State.mbWrite_kept (s : State) (w : Writer) (n r v : Nat) : Kept s (s.mbWrite w n r v) := by
  unfold State.mbWrite
  repeat' (first
    | with_reducible exact .refl _ | with_reducible refine .trans ?_ (State.mbPostWrite_kept ..)
    | with_reducible refine .trans ?_ (.on _ _) | intro _ | split | dsimp only | with_reducible refine .mk_setBytes _ _ _ ?_
    | simp only [Kept.mk_eta])

theorem State.updData_kept (s : State) (x : UpdSession) (data : List Byte) : Kept s (s.updData x data).1 := by
  unfold State.updData
  repeat' (first
    | with_reducible exact .refl _ | with_reducible refine .trans ?_ (.on _ _) | intro _ | split | dsimp only
    | with_reducible refine .mk_setBytes _ _ _ ?_ | simp only [Kept.mk_eta])

theorem State.updVerify_kept (s : State) (x : UpdSession) : Kept s (s.updVerify x).1 := by
  unfold State.updVerify
  repeat' (first
    | with_reducible exact .refl _ | with_reducible refine .trans ?_ (.on _ _) | intro _ | split | dsimp only | simp only [Kept.mk_eta])

theorem State.attest_kept (s : State) (nonce : List Byte) : Kept s (s.attest nonce) := by
  unfold State.attest
  repeat' (first
    | with_reducible exact .refl _ | with_reducible refine .trans ?_ (.on _ _) | intro _ | split | dsimp only | simp only [Kept.mk_eta])

theorem Memory.wf_writeAll (m : List Host.Cell) (l : List (Nat × List Byte)) (h : Memory.wf m = true) : Memory.wf (writeAll m l) = true := by
  induction l generalizing m with
  | nil => exact h
  | cons e r ih => exact ih _ (Memory.wf_setBytes m e.1 e.2 h)

theorem State.candidate_kept (s : State) (c : Configuration) : Kept s (s.candidate c) :=
  ⟨rfl, fun h => Memory.wf_writeAll s.mem c.memory h⟩

theorem State.checkAll_kept (s : State) (c : Configuration) (x : ImageInfo) (revBad : Bool) : Kept s (s.checkAll c x revBad).1 := by
  unfold State.checkAll
  repeat' (first
    | with_reducible exact .refl _ | with_reducible refine .trans ?_ (State.candidate_kept ..) | with_reducible refine .trans ?_ (.on _ _)
    | intro _ | split | dsimp only)

theorem State.powerFor_kept (s : State) (c : Configuration) : Kept s (s.powerFor c) := by
  unfold State.powerFor
  repeat' (first
    | with_reducible exact .refl _ | with_reducible refine .trans ?_ (State.candidate_kept ..) | with_reducible refine .trans ?_ (.on _ _)
    | with_reducible refine .trans ?_ (.foldl ?_ _ _) | intro _ | split | dsimp only)

theorem Memory.wf_initBuffer (m : List Host.Cell) (d : Dev) (c : Configuration) (r b : Nat) (h : Memory.wf m = true) :
    Memory.wf (initBuffer m d c r b) = true := by
  unfold initBuffer
  extract_lets a n role m1 m2
  have h2 : Memory.wf m2 = true := Memory.wf_setBytes _ _ _ (Memory.wf_setBytes _ _ _ (Memory.wf_clearRange m _ _ h))
  clear_value m2
  generalize c.initial.filter (fun e => e.1 == r) = l
  induction l generalizing m2 with
  | nil => exact h2
  | cons e t ih => exact ih _ (Memory.wf_setBytes m2 _ _ h2)

theorem State.initRegion_kept (s : State) (c : Configuration) (r : Nat) : Kept s (s.initRegion c r) := by
  unfold State.initRegion
  extract_lets d m d1
  exact ⟨rfl, fun h => Memory.wf_initBuffer _ d c r 2 (Memory.wf_initBuffer _ d c r 1 (Memory.wf_initBuffer _ d c r 0 h))⟩

theorem State.placeRegions_kept (s old : State) (c : Configuration) : Kept s (s.placeRegions old c) := by
  unfold State.placeRegions
  repeat' (first
    | with_reducible exact .refl _ | with_reducible refine .trans ?_ (State.initRegion_kept ..)
    | with_reducible refine .trans ?_ (.on _ _) | with_reducible refine .trans ?_ (.foldl ?_ _ _) | intro _ | split | dsimp only
    | simp only [Kept.mk_eta])

theorem State.loadProgram_kept (s : State) (e : Nat) (l : List Byte) : Kept s (s.loadProgram e l) :=
  ⟨rfl, fun h => Memory.wf_setBytes _ _ _ (Memory.wf_clearRange s.mem _ _ h)⟩

theorem State.loadPrograms_kept (s : State) (c : Configuration) : Kept s (s.loadPrograms c) :=
  .foldl (fun a p => by
    dsimp only
    split
    · split
      · exact (State.loadProgram_kept a _ _).trans (State.loadProgram_kept ..)
      · exact State.loadProgram_kept a _ _
    · exact State.loadProgram_kept a _ _) s _

theorem State.swapIn_kept (s : State) (c : Configuration) (x : ImageInfo) : Kept s (s.swapIn c x) := by
  unfold State.swapIn
  extract_lets rcv nb s0 src s1 s2 budget s3
  have h0 : Kept s s0 := .on _ _
  have h1 : Kept s s1 := ⟨h0.1, fun h => Memory.wf_writeAll s0.mem c.memory (h0.2 h)⟩
  have h2 : Kept s s2 := h1.trans (.on _ _)
  clear_value s2
  have h3 : Kept s s3 := (((h2.trans (State.placeRegions_kept s2 s c)).trans (.on _ _)).trans (State.loadPrograms_kept _ c)).trans (.on _ _)
  clear_value s3
  exact h3.trans (.on _ _)

theorem State.swapIfFree_kept (s : State) : Kept s (s.swapIfFree) := by
  unfold State.swapIfFree
  repeat' (first
    | with_reducible exact .refl _ | with_reducible refine .trans ?_ (State.swapIn_kept ..) | with_reducible refine .trans ?_ (.on _ _)
    | intro _ | split | dsimp only)

theorem State.updActivate_kept (s : State) (stored : Bool) : Kept s (s.updActivate stored).1 := by
  unfold State.updActivate
  extract_lets d may x c r
  have hr : Kept s r.1 := State.checkAll_kept ..
  split
  · exact .refl s
  · split
    · exact .refl s
    · split
      · exact hr
      · exact ((hr.trans (State.powerFor_kept r.1 c)).trans (Kept.on _ (fun d => d.withUpd (fun u => { u with swap := some (c, x) })))).trans (State.swapIfFree_kept _)

theorem State.activationSwap_kept (s : State) : Kept s (s.activationSwap) := by
  unfold State.activationSwap
  repeat' (first
    | with_reducible exact .refl _ | with_reducible refine .trans ?_ (State.swapIn_kept ..)
    | with_reducible refine .trans ?_ (State.swapIfFree_kept ..) | with_reducible refine .trans ?_ (.on _ _) | intro _ | split
    | dsimp only)

theorem State.fenceFree_kept (s : State) (n : Nat) : Kept s (s.fenceFree n) := by
  unfold State.fenceFree
  split
  · extract_lets
    split
    · exact .on _ _
    · exact .refl s
  · exact .refl s

theorem State.writeCan_kept (s : State) (w : Writer) (r v : Nat) : Kept s (s.writeCan w r v) := by
  unfold State.writeCan
  repeat' (first
    | with_reducible exact .refl _ | with_reducible refine .trans ?_ (.on _ _) | intro _ | split | dsimp only
    | with_reducible refine .mk_setBytes _ _ _ ?_ | simp only [Kept.mk_eta])

theorem State.writePower_kept (s : State) (w : Writer) (r v : Nat) : Kept s (s.writePower w r v) := by
  unfold State.writePower
  extract_lets off
  split
  · exact .on _ _
  · split
    · exact .on _ _
    · split
      · exact State.slpKickWrite_kept ..
      · split
        · exact .on _ _
        · split
          · exact .on _ _
          · exact .on _ _

theorem State.wordAct_kept (s : State) (w : Writer) (off v : Nat) : Kept s (s.wordAct w off v) := by
  unfold State.wordAct
  repeat' (first
    | with_reducible exact .refl _ | with_reducible refine .trans ?_ (State.mbWrite_kept ..)
    | with_reducible refine .trans ?_ (State.writeCan_kept ..) | with_reducible refine .trans ?_ (State.writePower_kept ..)
    | with_reducible refine .trans ?_ (.on _ _) | intro _ | split | dsimp only)

theorem State.regWrite_kept (s : State) (w : Writer) (off size v : Nat) : Kept s (s.regWrite w off size v) := by
  unfold State.regWrite
  repeat' (first
    | with_reducible exact .refl _ | with_reducible refine .trans ?_ (State.wordAct_kept ..) | with_reducible refine .trans ?_ (.on _ _)
    | intro _ | split | dsimp only)

theorem latchShadows_kept (s : State) (w : Writer) (k : Nat) (offs : List Nat) : Kept s (latchShadows s w k offs) := by
  unfold latchShadows
  repeat' (first
    | with_reducible exact .refl _ | with_reducible refine .trans ?_ (.on _ _) | with_reducible refine .trans ?_ (.foldl ?_ _ _) | intro _
    | split | dsimp only | simp only [Kept.mk_eta])

theorem State.readWord_kept (s : State) (w : Writer) (k off : Nat) : Kept s (s.readWord w k off).2 := by
  unfold State.readWord
  repeat' (first
    | with_reducible exact .refl _ | with_reducible refine .trans ?_ (latchShadows_kept ..) | with_reducible refine .trans ?_ (.on _ _)
    | intro _ | split | dsimp only)

theorem State.regRead_kept (s : State) (w : Writer) (k off size : Nat) : Kept s (s.regRead w k off size).2 := by
  unfold State.regRead
  repeat' (first
    | with_reducible exact .refl _ | with_reducible refine .trans ?_ (latchShadows_kept ..)
    | with_reducible refine .trans ?_ (State.readWord_kept ..) | with_reducible refine .trans ?_ (.on _ _) | intro _ | split | dsimp only)

theorem State.engMemWrite_kept (s : State) (w : Writer) (e o : Nat) (bs : List Byte) : Kept s (s.engMemWrite w e o bs) := by
  unfold State.engMemWrite
  repeat' (first
    | with_reducible exact .refl _ | with_reducible refine .trans ?_ (.on _ _) | intro _ | split | dsimp only
    | with_reducible refine .mk_setBytes _ _ _ ?_ | simp only [Kept.mk_eta])

theorem State.bar2Piece_kept (s : State) (w : Writer) (off : Nat) (bs : List Byte) : Kept s (s.bar2Piece w off bs) := by
  unfold State.bar2Piece
  repeat' (first
    | with_reducible exact .refl _ | with_reducible refine .trans ?_ (State.orchWrite_kept ..)
    | with_reducible refine .trans ?_ (State.engMemWrite_kept ..) | with_reducible refine .trans ?_ (.on _ _) | intro _ | split
    | dsimp only)

theorem State.bar2Write_kept (s : State) (w : Writer) (off : Nat) (bs : List Byte) (n : Nat) : Kept s (s.bar2Write w off bs n) := by
  induction n generalizing s off bs with
  | zero => exact .refl s
  | succ k ih =>
    unfold State.bar2Write
    dsimp only
    split
    · exact .refl s
    · exact (State.bar2Piece_kept ..).trans (ih _ _ _)

theorem State.bar2ReadPiece_kept (s : State) (off n : Nat) : Kept s (s.bar2ReadPiece off n).2 := by
  unfold State.bar2ReadPiece
  repeat' (first
    | with_reducible exact .refl _ | with_reducible refine .trans ?_ (.on _ _) | intro _ | split | dsimp only | simp only [Kept.mk_eta])

theorem State.bar2Read_kept (s : State) (off n k : Nat) : Kept s (s.bar2Read off n k).2 := by
  induction k generalizing s off n with
  | zero => exact .refl s
  | succ k ih =>
    unfold State.bar2Read
    dsimp only
    split
    · exact .refl s
    · exact (State.bar2ReadPiece_kept ..).trans (ih _ _ _)

theorem State.qspiWord_kept (s : State) (addr : Nat) : Kept s (s.qspiWord addr).2.2 := by
  unfold State.qspiWord
  repeat' (first
    | with_reducible exact .refl _ | with_reducible refine .trans ?_ (State.regRead_kept ..)
    | with_reducible refine .trans ?_ (State.bar2Read_kept ..) | with_reducible refine .trans ?_ (.on _ _) | intro _ | split | dsimp only)

theorem State.qspiRead_kept (s : State) (addr ready n : Nat) : Kept s (s.qspiRead addr ready n).2 := by
  induction n generalizing s addr ready with
  | zero => exact .refl s
  | succ k ih =>
    unfold State.qspiRead
    dsimp only
    split
    · exact ⟨rfl, id⟩
    · refine .trans ?_ (ih _ _ _)
      split
      · exact (State.qspiWord_kept s addr).trans (.on _ _)
      · exact State.qspiWord_kept s addr

theorem State.bar2Gate_kept (s : State) (w : Writer) (off : Nat) (bs : List Byte) : Kept s (s.bar2Gate w off bs) := by
  unfold State.bar2Gate
  repeat' (first
    | with_reducible exact .refl _ | with_reducible refine .trans ?_ (State.bar2Write_kept ..) | with_reducible refine .trans ?_ (.on _ _)
    | intro _ | split | dsimp only)

theorem State.engineMemory_kept (s : State) (w : Writer) (e o : Nat) (bs : List Byte) : Kept s (s.engineMemory w e o bs) := by
  unfold State.engineMemory
  repeat' (first
    | with_reducible exact .refl _ | with_reducible refine .trans ?_ (State.bar2Gate_kept ..) | with_reducible refine .trans ?_ (.on _ _)
    | intro _ | split | dsimp only)

theorem State.qspiPut_kept (s : State) (addr v : Nat) : Kept s (s.qspiPut addr v) := by
  unfold State.qspiPut
  repeat' (first
    | with_reducible exact .refl _ | with_reducible refine .trans ?_ (State.gate_kept _ _ _ _ ?_)
    | with_reducible refine .trans ?_ (State.regWrite_kept ..) | with_reducible refine .trans ?_ (State.bar2Gate_kept ..)
    | with_reducible refine .trans ?_ (.on _ _) | intro _ | split | dsimp only | simp only [Kept.mk_eta])

theorem State.qspiWrite_kept (s : State) (addr : Nat) (l : List Nat) : Kept s (s.qspiWrite addr l) := by
  induction l generalizing s addr with
  | nil => exact .refl s
  | cons v r ih => exact (State.qspiPut_kept s addr v).trans (ih _ _)

theorem State.qspiWake_kept (s : State) : Kept s (s.qspiWake) := by
  unfold State.qspiWake
  repeat' (first
    | with_reducible exact .refl _ | with_reducible refine .trans ?_ (State.wakeRequest_kept ..)
    | with_reducible refine .trans ?_ (.on _ _) | intro _ | split | dsimp only)

theorem State.returned_kept (s : State) (ws : List Nat) : Kept s (s.returned ws) := by
  unfold State.returned
  repeat' (first
    | with_reducible exact .refl _ | with_reducible refine .trans ?_ (.on _ _) | intro _ | split | dsimp only | simp only [Kept.mk_eta])

theorem State.hostRead_kept (s : State) (w : Writer) (off size : Nat) : Kept s (s.hostRead w off size) := by
  unfold State.hostRead
  repeat' (first
    | with_reducible exact .refl _ | with_reducible refine .trans ?_ (State.regRead_kept ..)
    | with_reducible refine .trans ?_ (State.returned_kept ..) | with_reducible refine .trans ?_ (.on _ _) | intro _ | split | dsimp only)

theorem State.qspiSend_kept (s : State) (ws : List Nat) : Kept s (s.qspiSend ws) := by
  unfold State.qspiSend
  repeat' (first
    | with_reducible exact .refl _ | with_reducible refine .trans ?_ (State.returned_kept ..) | with_reducible refine .trans ?_ (.on _ _)
    | intro _ | split | dsimp only)

theorem State.qspiReadRow_kept (s : State) (addr n ready : Nat) : Kept s (s.qspiReadRow addr n ready) := by
  unfold State.qspiReadRow
  repeat' (first
    | with_reducible exact .refl _ | with_reducible refine .trans ?_ (State.qspiRead_kept ..)
    | with_reducible refine .trans ?_ (State.qspiWake_kept ..) | with_reducible refine .trans ?_ (State.qspiSend_kept ..)
    | with_reducible refine .trans ?_ (.on _ _) | intro _ | split | dsimp only)

theorem State.qspiWriteRow_kept (s : State) (addr : Nat) (ws : List Nat) : Kept s (s.qspiWriteRow addr ws) := by
  unfold State.qspiWriteRow
  repeat' (first
    | with_reducible exact .refl _ | with_reducible refine .trans ?_ (State.qspiWrite_kept ..)
    | with_reducible refine .trans ?_ (State.qspiWake_kept ..) | with_reducible refine .trans ?_ (.on _ _) | intro _ | split | dsimp only)

theorem State.qspiStatus_kept (s : State) : Kept s (s.qspiStatus) := by
  unfold State.qspiStatus
  repeat' (first
    | with_reducible exact .refl _ | with_reducible refine .trans ?_ (State.qspiWake_kept ..)
    | with_reducible refine .trans ?_ (State.qspiSend_kept ..) | with_reducible refine .trans ?_ (.on _ _) | intro _ | split | dsimp only
    | simp only [Kept.mk_eta])

theorem State.qspiReset_kept (s : State) : Kept s s.qspiReset := by
  unfold State.qspiReset
  split
  · exact .refl s
  · exact (State.qspiWake_kept s).trans (.on _ _)

theorem State.readRegs_kept (s : State) (k off n : Nat) : Kept s (s.readRegs k off n).2 := by
  induction n generalizing s off with
  | zero => exact .refl s
  | succ n ih => exact (State.regRead_kept ..).trans (ih _ _)

theorem State.writeRegs_kept (s : State) (off : Nat) (data : List Byte) (n : Nat) : Kept s (s.writeRegs off data n) := by
  induction n generalizing s off data with
  | zero => exact .refl s
  | succ n ih => exact (State.regWrite_kept ..).trans (ih _ _ _)

theorem State.clearEvents_kept (s : State) (l : List Byte) : Kept s (s.clearEvents l) := by
  unfold State.clearEvents
  repeat' (first
    | with_reducible exact .refl _ | with_reducible refine .trans ?_ (State.wordAct_kept ..) | with_reducible refine .trans ?_ (.on _ _)
    | with_reducible refine .trans ?_ (.foldl ?_ _ _) | intro _ | split | dsimp only)

theorem State.attestCmd_kept (s : State) (nonce : List Byte) (off : Nat) : Kept s (s.attestCmd nonce off).1 := by
  unfold State.attestCmd
  repeat' (first
    | with_reducible exact .refl _ | with_reducible refine .trans ?_ (State.attest_kept ..) | with_reducible refine .trans ?_ (.on _ _)
    | intro _ | split | dsimp only)

theorem State.runRead_kept (s : State) (op port : Nat) (l : List Byte) : Kept s (s.runRead op port l).1 := by
  unfold State.runRead
  repeat' (first
    | with_reducible exact .refl _ | with_reducible refine .trans ?_ (State.bar2Read_kept ..)
    | with_reducible refine .trans ?_ (State.readRegs_kept ..) | with_reducible refine .trans ?_ (State.attestCmd_kept ..)
    | with_reducible refine .trans ?_ (.on _ _) | intro _ | split | dsimp only)

theorem State.runUpdate_kept (s : State) (op port : Nat) (l : List Byte) : Kept s (s.runUpdate op port l).1 := by
  unfold State.runUpdate
  repeat' (first
    | with_reducible exact .refl _ | with_reducible refine .trans ?_ (State.updData_kept ..)
    | with_reducible refine .trans ?_ (State.updVerify_kept ..) | with_reducible refine .trans ?_ (State.updActivate_kept ..)
    | with_reducible refine .trans ?_ (.on _ _) | intro _ | split | dsimp only | simp only [Kept.mk_eta])

theorem State.runCmd_kept (s : State) (op : Nat) (r : CmdReq) : Kept s (s.runCmd op r).1 := by
  unfold State.runCmd
  repeat' (first
    | with_reducible exact .refl _ | with_reducible refine .trans ?_ (State.roundStart_kept ..)
    | with_reducible refine .trans ?_ (State.bar2Write_kept ..) | with_reducible refine .trans ?_ (State.writeRegs_kept ..)
    | with_reducible refine .trans ?_ (State.clearEvents_kept ..) | with_reducible refine .trans ?_ (State.runRead_kept ..)
    | with_reducible refine .trans ?_ (State.runUpdate_kept ..) | with_reducible refine .trans ?_ (.on _ _) | intro _ | split | dsimp only
    | simp only [Kept.mk_eta])

theorem State.mbPump_kept (s : State) (n : Nat) : Kept s (s.mbPump n) := by
  unfold State.mbPump
  split
  · exact .refl s
  · split
    · exact .refl s
    · extract_lets more left s1 s2
      have h1 : Kept s s1 := ⟨rfl, fun h => Memory.wf_setBytes s.mem _ _ h⟩
      have h2 : Kept s s2 := h1.trans (.on _ _)
      clear_value s2
      exact h2.trans (State.mbGo_kept ..)

theorem State.sendPacket_kept (s : State) (r : CmdReq) (packet : List Byte) : Kept s (s.sendPacket r packet) := by
  unfold State.sendPacket
  extract_lets s1
  have h1 : Kept s s1 := .on _ _
  clear_value s1
  split
  · exact (h1.trans (.on _ _)).trans (State.mbPump_kept ..)
  · split
    · exact h1.trans (.on _ _)
    · exact h1.trans (.on _ _)


theorem State.answer_kept (s : State) (op : Nat) (r : CmdReq) (st det : Nat) (ps : List Byte) : Kept s (s.answer op r st det ps) := by
  unfold State.answer
  repeat' (first
    | with_reducible exact .refl _ | with_reducible refine .trans ?_ (State.sendPacket_kept ..)
    | with_reducible refine .trans ?_ (.on _ _) | intro _ | split | dsimp only)

theorem State.refuseTask_kept (s : State) (t : CmdTask) (e : Nat × Nat) : Kept s (s.refuseTask t e) := by
  unfold State.refuseTask
  repeat' (first
    | with_reducible exact .refl _ | with_reducible refine .trans ?_ (State.answer_kept ..) | with_reducible refine .trans ?_ (.on _ _)
    | intro _ | split | dsimp only | simp only [Kept.mk_eta])

theorem State.afterReply_kept (s : State) (t : CmdTask) : Kept s (s.afterReply t) := by
  unfold State.afterReply
  repeat' (first
    | with_reducible exact .refl _ | with_reducible refine .trans ?_ (.on _ _) | with_reducible refine .trans ?_ (.foldl ?_ _ _) | intro _
    | split | dsimp only)

theorem State.endTask_kept (s : State) (t : CmdTask) (st det : Nat) (ps : List Byte) : Kept s (s.endTask t st det ps) := by
  unfold State.endTask
  repeat' (first
    | with_reducible exact .refl _ | with_reducible refine .trans ?_ (State.answer_kept ..)
    | with_reducible refine .trans ?_ (State.afterReply_kept ..) | with_reducible refine .trans ?_ (.on _ _) | intro _ | split
    | dsimp only)

theorem State.execTask_kept (s : State) (t : CmdTask) : Kept s (s.execTask t) := by
  unfold State.execTask
  repeat' (first
    | with_reducible exact .refl _ | with_reducible refine .trans ?_ (State.runCmd_kept ..)
    | with_reducible refine .trans ?_ (State.refuseTask_kept ..) | with_reducible refine .trans ?_ (State.endTask_kept ..)
    | with_reducible refine .trans ?_ (.on _ _) | intro _ | split | dsimp only | simp only [Kept.mk_eta])

theorem State.runTask_kept (s : State) (t : CmdTask) : Kept s (s.runTask t) := by
  unfold State.runTask
  repeat' (first
    | with_reducible exact .refl _ | with_reducible refine .trans ?_ (State.answer_kept ..)
    | with_reducible refine .trans ?_ (State.refuseTask_kept ..) | with_reducible refine .trans ?_ (State.execTask_kept ..)
    | with_reducible refine .trans ?_ (.on _ _) | intro _ | split | dsimp only)

theorem State.serve_kept (s : State) (n : Nat) : Kept s (s.serve n) := by
  induction n generalizing s with
  | zero => exact .refl s
  | succ k ih =>
    unfold State.serve
    split
    · exact .refl s
    · split
      · exact .on _ _
      · split
        · exact .refl s
        · exact (State.runTask_kept ..).trans (ih _)
        · exact (State.endTask_kept ..).trans (ih _)
        · exact .refl s

theorem State.takeCmd_kept (s : State) (op : Nat) (r : CmdReq) : Kept s (s.takeCmd op r) := by
  unfold State.takeCmd
  repeat' (first
    | with_reducible exact .refl _ | with_reducible refine .trans ?_ (State.answer_kept ..)
    | with_reducible refine .trans ?_ (State.serve_kept ..) | with_reducible refine .trans ?_ (.on _ _) | intro _ | split | dsimp only
    | simp only [Kept.mk_eta])

theorem State.bridleAck_kept (s : State) (n code : Nat) : Kept s (s.bridleAck n code) := by
  unfold State.bridleAck
  repeat' (first
    | with_reducible exact .refl _ | with_reducible refine .trans ?_ (.on _ _) | intro _ | split | dsimp only)

theorem State.mbServe_kept (s : State) (n : Nat) : Kept s (s.mbServe n) := by
  unfold State.mbServe
  repeat' (first
    | with_reducible exact .refl _ | with_reducible refine .trans ?_ (State.takeCmd_kept ..)
    | with_reducible refine .trans ?_ (State.bridleAck_kept ..) | with_reducible refine .trans ?_ (.on _ _) | intro _ | split | dsimp only)

theorem State.mgmtServe_kept (s : State) : Kept s (s.mgmtServe) := by
  unfold State.mgmtServe
  repeat' (first
    | with_reducible exact .refl _ | with_reducible refine .trans ?_ (State.takeCmd_kept ..) | with_reducible refine .trans ?_ (.on _ _)
    | with_reducible refine .trans ?_ (.foldl ?_ _ _) | intro _ | split | dsimp only | simp only [Kept.mk_eta])

theorem State.heldServe_kept (s : State) : Kept s (s.heldServe) := by
  unfold State.heldServe
  repeat' (first
    | with_reducible exact .refl _ | with_reducible refine .trans ?_ (State.takeCmd_kept ..) | with_reducible refine .trans ?_ (.on _ _)
    | with_reducible refine .trans ?_ (.foldl ?_ _ _) | intro _ | split | dsimp only | simp only [Kept.mk_eta])

theorem State.bridleRound_kept (s : State) : Kept s s.bridleRound := by
  unfold State.bridleRound
  extract_lets s1 s2
  have h1 : Kept s s1 := ((State.swapIfFree_kept s).trans (State.mbServe_kept _ 0)).trans (State.mbServe_kept _ 1)
  have h2 : Kept s s2 := (h1.trans (State.mgmtServe_kept s1)).trans (State.heldServe_kept _)
  clear_value s2
  split
  · exact .refl s
  · split
    · exact State.mgmtServe_kept s
    · exact ((h2.trans (State.serve_kept s2 _)).trans (State.mbPump_kept _ 0)).trans (State.mbPump_kept _ 1)

theorem State.passReply_kept (s : State) (p : Nat) (l : List Byte) : Kept s (s.passReply p l) := by
  unfold State.passReply
  repeat' (first
    | with_reducible exact .refl _ | with_reducible refine .trans ?_ (State.sendPacket_kept ..)
    | with_reducible refine .trans ?_ (.on _ _) | intro _ | split | dsimp only | simp only [Kept.mk_eta])

theorem State.cmdFragment_kept (s : State) (p : Nat) : Kept s (s.cmdFragment p) := by
  unfold State.cmdFragment
  repeat' (first
    | with_reducible exact .refl _ | with_reducible refine .trans ?_ (State.answer_kept ..) | with_reducible refine .trans ?_ (.on _ _)
    | intro _ | split | dsimp only | simp only [Kept.mk_eta])

theorem State.forwardedReply_kept (s : State) (p : Nat) : Kept s (s.forwardedReply p) := by
  unfold State.forwardedReply
  repeat' (first
    | with_reducible exact .refl _ | with_reducible refine .trans ?_ (State.passReply_kept ..) | with_reducible refine .trans ?_ (.on _ _)
    | intro _ | split | dsimp only | simp only [Kept.mk_eta])

theorem State.forwardTimeout_kept (s : State) (id : Nat) : Kept s (s.forwardTimeout id) := by
  unfold State.forwardTimeout
  repeat' (first
    | with_reducible exact .refl _ | with_reducible refine .trans ?_ (State.answer_kept ..) | with_reducible refine .trans ?_ (.on _ _)
    | intro _ | split | dsimp only | simp only [Kept.mk_eta])

theorem State.strapRun_kept (s : State) : Kept s (s.strapRun) := by
  unfold State.strapRun
  repeat' (first
    | with_reducible exact .refl _ | with_reducible refine .trans ?_ (State.updActivate_kept ..)
    | with_reducible refine .trans ?_ (.on _ _) | intro _ | split | dsimp only)

theorem State.startup_kept (s : State) (strap : Nat) (upset : Bool) : Kept s (s.startup strap upset) := by
  unfold State.startup
  extract_lets cold d0 dm d1 d2 d3 s1 s2
  have h1 : Kept s s1 := ⟨rfl, id⟩
  have h2 : Kept s s2 := by
    unfold s2
    clear_value s1
    split
    · exact h1.trans (State.strapRun_kept ..)
    · exact h1
  clear_value s2 d1
  split
  · exact .refl s
  · split
    · exact .setDev s _
    · exact h2.trans (.on _ _)

theorem State.powerOn_kept (s : State) : Kept s (s.powerOn) := by
  unfold State.powerOn
  repeat' (first
    | with_reducible exact .refl _ | with_reducible refine .trans ?_ (State.powerReset_kept ..)
    | with_reducible refine .trans ?_ (.on _ _) | intro _ | split | dsimp only | simp only [Kept.mk_eta])

theorem State.warmPin_kept (s : State) : Kept s s.warmPin := by
  unfold State.warmPin
  split
  · exact .refl s
  · exact State.warmReset_kept s 1

theorem State.warmCmd_kept (s : State) : Kept s s.warmCmd := by
  unfold State.warmCmd
  split
  · split
    · exact .refl s
    · exact (Kept.on s _).trans (State.warmReset_kept _ 2)
  · exact .refl s

theorem State.testEnHigh_kept (s : State) : Kept s (s.testEnHigh) := by
  unfold State.testEnHigh
  repeat' (first
    | with_reducible exact .refl _ | with_reducible refine .trans ?_ (State.powerReset_kept ..)
    | with_reducible refine .trans ?_ (.on _ _) | intro _ | split | dsimp only | simp only [Kept.mk_eta])

theorem State.refReturn_kept (s : State) (r : Nat) : Kept s (s.refReturn r) := by
  unfold State.refReturn
  repeat' (first
    | with_reducible exact .refl _ | with_reducible refine .trans ?_ (State.powerReset_kept ..)
    | with_reducible refine .trans ?_ (.on _ _) | intro _ | split | dsimp only | simp only [Kept.mk_eta])

theorem State.tempSample_kept (s : State) (t : Nat) : Kept s (s.tempSample t) := by
  unfold State.tempSample
  repeat' (first
    | with_reducible exact .refl _ | with_reducible refine .trans ?_ (State.powerReset_kept ..)
    | with_reducible refine .trans ?_ (.on _ _) | intro _ | split | dsimp only | simp only [Kept.mk_eta])

theorem State.zdo_kept (s : State) (e : Nat) (fault : Option (Nat × Option Nat)) (f : State → State) (h : ∀ x, Kept x (f x)) :
    Kept s (s.zdo e fault f) := by
  unfold State.zdo
  split
  · exact .refl s
  · split
    · exact .on _ _
    · split
      · exact .on _ _
      · exact (h s).trans (.on _ _)

theorem State.zLoad_kept (s : State) (e a n : Nat) : Kept s (s.zLoad e a n).2 := by
  unfold State.zLoad
  repeat' (first
    | with_reducible exact .refl _ | with_reducible exact .setDev _ _ | with_reducible refine .trans ?_ (State.regRead_kept ..)
    | with_reducible refine .trans ?_ (.on _ _) | intro _ | split | dsimp only | simp only [Kept.mk_eta])

theorem State.readFaulted_kept (s : State) (e : Nat) (fault : Option (Nat × Option Nat)) (r : State) (h : Kept s r) : Kept s (s.readFaulted e fault r) := by
  unfold State.readFaulted
  split
  · exact h
  · exact .refl s

theorem State.zStore_kept (s : State) (e a : Nat) (bs : List Byte) : Kept s (s.zStore e a bs) := by
  unfold State.zStore
  repeat' (first
    | with_reducible exact .refl _ | with_reducible refine .trans ?_ (State.orchWrite_kept ..)
    | with_reducible refine .trans ?_ (State.gate_kept _ _ _ _ ?_) | with_reducible refine .trans ?_ (State.regWrite_kept ..)
    | with_reducible refine .trans ?_ (.on _ _) | intro _ | split | dsimp only | with_reducible refine .mk_setBytes _ _ _ ?_
    | simp only [Kept.mk_eta])

theorem State.lsRelease_kept (s : State) (e : Nat) : Kept s (s.lsRelease e) := by
  unfold State.lsRelease
  split
  · exact .refl s
  · split
    · exact .on _ _
    · exact (Kept.on s _).trans (State.zStore_kept ..)

theorem State.lsDue_kept (s : State) (e t k : Nat) : Kept s (s.lsDue e t k) := by
  induction k generalizing s with
  | zero => exact .refl s
  | succ k ih =>
    unfold State.lsDue
    split
    · exact (State.lsRelease_kept s e).trans (ih _)
    · exact .refl s

theorem State.lsDrain_kept (s : State) (e k : Nat) : Kept s (s.lsDrain e k) := by
  induction k generalizing s with
  | zero => exact .refl s
  | succ k ih => exact (State.lsRelease_kept s e).trans (ih _)

theorem State.performed_kept (s : State) (e : Nat) : Kept s (s.performed e) := State.lsDrain_kept ..

theorem State.lsUntil_kept (s : State) (t : Nat) : Kept s (s.lsUntil t) := .foldl (fun _ _ => State.lsDue_kept ..) s _

theorem State.lsStride_kept (s : State) : Kept s s.lsStride := by
  unfold State.lsStride
  extract_lets
  split
  · exact State.lsUntil_kept ..
  · exact .refl s

theorem State.room_kept (s : State) (e : Nat) : Kept s (s.room e) := by
  unfold State.room
  split
  · exact .refl s
  · exact State.lsRelease_kept ..

theorem State.post_kept (s : State) (e a : Nat) (bs : List Byte) (bad : Bool) : Kept s (s.post e a bs bad) := by
  unfold State.post
  split
  · exact State.zStore_kept ..
  · exact .on _ _

theorem State.loadReady_kept (s : State) (e a n : Nat) : Kept s (s.loadReady e a n) := by
  unfold State.loadReady
  split
  · exact .refl s
  · exact .refl s
  · split
    · exact State.performed_kept ..
    · exact .refl s

theorem State.sync_kept (s : State) (e : Nat) : Kept s (s.sync e) := (State.performed_kept s e).trans (.on _ _)

theorem State.load_kept (s : State) (e rd rs : Nat) (imm : BitVec 16) (n : Nat) (ext : Nat → Nat) (sx : Bool) : Kept s (s.load e rd rs imm n ext sx) := by
  unfold State.load
  extract_lets a s1 fault
  have h1 : Kept s s1 := State.loadReady_kept ..
  clear_value s1
  split
  · exact h1.trans (.on _ _)
  · exact (h1.trans (State.readFaulted_kept _ _ _ _ (State.zLoad_kept ..))).trans
      (State.zdo_kept _ _ _ _ (fun x => (State.zLoad_kept x e a n).trans (.on _ _)))

theorem State.store_kept (s : State) (e rs : Nat) (imm : BitVec 16) (n v : Nat) (bad : Bool) : Kept s (s.store e rs imm n v bad) := by
  unfold State.store
  extract_lets a s1
  exact (State.room_kept s e).trans (State.zdo_kept _ _ _ _ (fun x => State.post_kept ..))

theorem State.copRead_kept (s : State) (e a n k : Nat) : Kept s (s.copRead e a n k).2 := by
  induction k generalizing s a n with
  | zero => exact .refl s
  | succ k ih =>
    unfold State.copRead
    dsimp only
    split
    · exact .refl s
    · refine .trans ?_ (ih _ _ _)
      split
      · exact .refl s
      · exact ⟨rfl, id⟩
      · exact .refl s

theorem State.copFaulted_kept (s : State) (e a n : Nat) (fault : Option (Nat × Option Nat)) : Kept s (s.copFaulted e a n fault) :=
  State.readFaulted_kept s e fault _ (State.copRead_kept ..)

theorem State.copWrite_kept (s : State) (e a : Nat) (bs : List Byte) (k : Nat) : Kept s (s.copWrite e a bs k) := by
  induction k generalizing s a bs with
  | zero => exact .refl s
  | succ k ih =>
    unfold State.copWrite
    dsimp only
    split
    · exact .refl s
    · exact (State.zStore_kept ..).trans (ih _ _ _)

theorem State.copPost_kept (s : State) (e a : Nat) (bs : List Byte) (k : Nat) : Kept s (s.copPost e a bs k) := by
  induction k generalizing s a bs with
  | zero => exact .refl s
  | succ k ih =>
    unfold State.copPost
    dsimp only
    split
    · exact .refl s
    · exact (State.post_kept ..).trans (ih _ _ _)

theorem State.crcm_kept (s : State) (e poly rd rs rt : Nat) : Kept s (s.crcm e poly rd rs rt) := by
  unfold State.crcm
  extract_lets s1 d a n w fault
  have h1 : Kept s s1 := State.performed_kept ..
  clear_value s1
  refine (h1.trans (State.copFaulted_kept ..)).trans (State.zdo_kept _ _ _ _ (fun x => ?_))
  split
  · exact .refl x
  · exact (State.copRead_kept ..).trans (.on _ _)

theorem State.sget_kept (s : State) (e rd rt : Nat) (sx : Bool) : Kept s (s.sget e rd rt sx) := by
  unfold State.sget
  extract_lets s1
  have h1 : Kept s s1 := State.performed_kept ..
  clear_value s1
  exact (h1.trans (State.copFaulted_kept ..)).trans (State.zdo_kept _ _ _ _ (fun x => (State.copRead_kept ..).trans (.on _ _)))

theorem State.sput_kept (s : State) (e rs rt : Nat) : Kept s (s.sput e rs rt) := by
  unfold State.sput
  extract_lets s1
  have h1 : Kept s s1 := State.performed_kept ..
  clear_value s1
  exact (h1.trans (State.copFaulted_kept ..)).trans (State.zdo_kept _ _ _ _ (fun x => ((State.copRead_kept ..).trans (State.copPost_kept ..)).trans (.on _ _)))

theorem State.moverNext_kept (s : State) (e kind : Nat) : ∀ x, s.moverNext e kind = some x → Kept s x.2 := by
  intro x h
  unfold State.moverNext at h
  extract_lets s1 y r at h
  have h1 : Kept s s1 := State.performed_kept ..
  have h2 : Kept s r.2 := h1.trans (State.copRead_kept ..)
  clear_value s1 r
  split at h
  · cases h
  · split at h
    · cases h; exact h2
    · cases h

theorem State.moverCopyBytes_kept (s : State) (e src dst n k : Nat) : Kept s (s.moverCopyBytes e src dst n k) := by
  induction k generalizing s src dst n with
  | zero => exact .refl s
  | succ k ih =>
    unfold State.moverCopyBytes
    dsimp only
    split
    · exact .refl s
    · exact ((State.copRead_kept s e src 1 1).trans (State.zStore_kept ..)).trans (ih _ _ _ _)

theorem State.moverCopy_kept (s : State) (e : Nat) : Kept s (s.moverCopy e) := by
  unfold State.moverCopy
  split
  · exact .refl s
  · next x s1 h =>
    have h1 : Kept s s1 := State.moverNext_kept s e 0 _ h
    extract_lets apart r s2
    have h2 : Kept s s2 := by
      show Kept s (if _ then _ else _)
      split
      · exact (h1.trans (State.copRead_kept ..)).trans (State.copWrite_kept ..)
      · exact h1.trans (State.moverCopyBytes_kept ..)
    exact h2.trans (.on _ _)

theorem State.moverConvertItem_kept (s : State) (e : Nat) (x : SgDesc) (i : Nat) : Kept s (s.moverConvertItem e x i) := by
  unfold State.moverConvertItem
  repeat' (first
    | with_reducible exact .refl _ | with_reducible refine .trans ?_ (State.copRead_kept ..)
    | with_reducible refine .trans ?_ (State.copWrite_kept ..) | with_reducible refine .trans ?_ (.on _ _) | intro _ | split | dsimp only)

theorem State.moverConvert_kept (s : State) (e : Nat) : Kept s (s.moverConvert e) := by
  unfold State.moverConvert
  split
  · exact .refl s
  · next x s1 h =>
    exact ((State.moverNext_kept s e 1 _ h).trans (.foldl (fun a i => State.moverConvertItem_kept a e x i) s1 _)).trans (.on _ _)

theorem State.moverSend_kept (s : State) (e : Nat) : Kept s (s.moverSend e) := by
  unfold State.moverSend
  split
  · exact .refl s
  · next x s1 h => exact ((State.moverNext_kept s e 2 _ h).trans (State.copRead_kept ..)).trans (.on _ _)

theorem State.moverCommit_kept (s : State) (e : Nat) : Kept s (s.moverCommit e) := by
  unfold State.moverCommit
  split
  · exact .refl s
  · next x s1 h => exact (State.moverNext_kept s e 3 _ h).trans (.on _ _)

theorem State.moverEnd_kept (s : State) (e : Nat) : Kept s (s.moverEnd e) := by
  unfold State.moverEnd
  repeat' (first
    | with_reducible exact .refl _ | with_reducible refine .trans ?_ (.on _ _) | with_reducible exact State.copRead_kept .. | intro _ | split | dsimp only | simp only [Kept.mk_eta])

theorem State.moverListStop_kept (s : State) (e : Nat) : Kept s (s.moverListStop e) := by
  unfold State.moverListStop
  split
  · exact .refl s
  · exact (State.performed_kept s e).trans (State.moverEnd_kept _ e)

theorem State.shaBlk_kept (s : State) (e rs : Nat) : Kept s (s.shaBlk e rs) := by
  unfold State.shaBlk
  repeat' (first
    | with_reducible exact .refl _ | with_reducible refine .trans ?_ (State.zdo_kept _ _ _ _ ?_) | with_reducible exact State.copFaulted_kept ..
    | with_reducible refine .trans ?_ (State.copRead_kept ..) | with_reducible refine .trans ?_ (.on _ _) | intro _ | split | dsimp only
    | simp only [Kept.mk_eta])

theorem State.fenceNow_kept (s : State) (n at' : Nat) : Kept s (s.fenceNow n at') := by
  unfold State.fenceNow
  extract_lets d d1 d2 d3 d4 d5
  clear_value d5
  exact (Kept.setDev s _).trans (State.fenceFree_kept ..)

theorem State.fence_kept (s : State) : Kept s s.fence := by
  unfold State.fence
  extract_lets d
  split
  · exact .refl s
  · exact (Kept.on s _).trans (State.fenceNow_kept ..)

theorem State.finisherRow_kept (s : State) (g : Nat) : Kept s (s.finisherRow g) := by
  unfold State.finisherRow
  repeat' (first
    | with_reducible exact .refl _ | with_reducible refine .trans ?_ (State.finisher_kept ..) | with_reducible refine .trans ?_ (.on _ _)
    | intro _ | split | dsimp only)

theorem State.holdsAt_kept (s : State) (n : Nat) : Kept s (s.holdsAt n) :=
  .foldl (fun a e => by
    extract_lets a1
    have h1 : Kept a a1 := .on _ _
    split
    · exact h1
    · refine h1.trans ?_
      refine .foldl (fun b r => ?_) a1 _
      exact ⟨rfl, fun h => by
        have := Memory.wf_setByte b.mem (b.dev.bufAddr r (b.dev.get (R.IMG_STATE_WORK r)) + 11) 0x10 h
        exact this⟩) s _

theorem State.edgeNow_kept (s : State) (n at' back : Nat) (skip : Bool) : Kept s (s.edgeNow n at' back skip) := by
  unfold State.edgeNow
  extract_lets s0 s1 s2 s3
  have h0 : Kept s s0 := by
    unfold s0
    split
    · exact .refl s
    · exact State.fenceNow_kept ..
  have h1 : Kept s0 s1 := .foldl (fun a g => by
    split
    · exact .refl a
    · exact State.finisher_kept ..) s0 _
  have h2 : Kept s1 s2 := (State.edgeSample_kept s1 n).trans (.on _ _)
  have h3 : Kept s2 s3 := ((State.flip_kept s2 n).trans (.on _ _)).trans (State.holdsAt_kept ..)
  exact (((h0.trans h1).trans h2).trans h3).trans (.on _ _)

theorem State.edge_kept (s : State) (pins : BitVec 96) : Kept s (s.edge pins) := by
  unfold State.edge
  split
  · exact .refl s
  · exact ((State.fence_kept s).trans (.on _ _)).trans (State.edgeNow_kept ..)

theorem State.stepFence_kept (s : State) : Kept s s.stepFence := by
  unfold State.stepFence
  extract_lets
  split
  · exact State.fenceNow_kept ..
  · exact .refl s

theorem State.stepStride_kept (s : State) (pins : BitVec 96) : Kept s (s.stepStride pins) := by
  unfold State.stepStride
  split
  · exact .refl s
  · split
    · exact ((Kept.on s _).trans (State.edgeNow_kept ..)).trans (State.stepFence_kept ..)
    · exact State.stepFence_kept ..

theorem State.stepApply_kept (s : State) (n : Nat) (pins : BitVec 96) : Kept s (s.stepApply n pins) := by
  unfold State.stepApply
  extract_lets
  split
  · exact .refl s
  · split
    · exact .on _ _
    · split
      · exact (Kept.setDev s _).trans (State.stepStride_kept ..)
      · exact .setDev s _

theorem State.stepsPending_kept (s : State) : Kept s s.stepsPending :=
  .foldl (fun a n => by
    split
    · exact State.stepApply_kept ..
    · exact .refl a) s _

theorem State.tick_kept (s : State) : Kept s s.tick :=
  (((Kept.on s _).trans (State.stepsPending_kept _)).trans (.on _ _)).trans (State.lsUntil_kept ..)

end Sys2Proof.Machine
end

