-- ==== Sys2Proof/Laws/Time.lean ====
section
/-! SUPPORT. What the passing of time can do (R72, R76, R79, R104, R105, R113): the time bases, what writes have requested of them, the
calendar clock, the snapshot and the count of nanoseconds; the triggers, the timestamps and every other unit stay as they are. -/

namespace Sys2Proof.Machine
open Sys2Proof Sys2Proof.Safety

/-- What time leaves alone. -/
structure TimeFrame (d d' : Dev) : Prop where
  get : ∀ g : Fld, (∀ f ∈ timeRegs, g.key ≠ f.key) → d'.get g = d.get g
  rest : d' = { d with regs := d'.regs, time := d'.time, now := d'.now }
  trgs : d'.time.trgs = d.time.trgs
  caps : d'.time.caps = d.time.caps
  txts : d'.time.txts = d.time.txts

theorem TimeFrame.refl (d : Dev) : TimeFrame d d := ⟨fun _ _ => rfl, rfl, rfl, rfl, rfl⟩

theorem TimeFrame.trans {a b c : Dev} (h1 : TimeFrame a b) (h2 : TimeFrame b c) : TimeFrame a c :=
  ⟨fun _ h => (h2.get _ h).trans (h1.get _ h), by rw [h2.rest, h1.rest], h2.trgs.trans h1.trgs, h2.caps.trans h1.caps, h2.txts.trans h1.txts⟩

theorem TimeFrame.set (d : Dev) (f : Fld) (v : Nat) (h : f ∈ timeRegs) : TimeFrame d (d.set f v) :=
  ⟨fun g hg => Dev.get_set_ne _ _ _ _ (hg f h), rfl, rfl, rfl, rfl⟩

/-- The fields of one time base among the registers that time changes. -/
theorem mem_timeRegs {f : Fld} (n : Nat) (hn : n ∈ List.range 8)
    (h : f ∈ [R.TB_CTRL_SET n, R.TB_CTRL_LOAD_INCR n, R.TB_STATUS_INCR_PEND n, R.TB_SNAP_LO n, R.TB_SNAP_HI n, R.TB_SNAP_XHI n]) : f ∈ timeRegs :=
  List.mem_append_right _ (List.mem_flatMap.mpr ⟨n, hn, h⟩)

theorem TimeFrame.setTb (d : Dev) (n : Nat) (x : TimeBase) : TimeFrame d (d.setTb n x) := ⟨fun _ _ => rfl, rfl, rfl, rfl, rfl⟩

theorem TimeFrame.foldl {α : Type} {f : Dev → α → Dev} (d : Dev) (l : List α) (h : ∀ a, ∀ x ∈ l, TimeFrame a (f a x)) : TimeFrame d (l.foldl f d) := by
  induction l generalizing d with
  | nil => exact .refl d
  | cons x r ih => exact (h d x (List.mem_cons_self ..)).trans (ih (f d x) (fun a y hy => h a y (List.mem_cons_of_mem _ hy)))

theorem TimeFrame.rtcAdvance (d : Dev) (ns : Nat) : TimeFrame d (d.rtcAdvance ns) := by
  unfold Dev.rtcAdvance
  extract_lets rate acc counts sub t1 d1
  have h1 : TimeFrame d d1 := ⟨fun _ _ => rfl, rfl, rfl, rfl, rfl⟩
  split
  · exact h1
  · exact (h1.trans (.set _ _ _ (by simp [timeRegs]))).trans (.set _ _ _ (by simp [timeRegs]))

theorem TimeFrame.rtcFollow (d : Dev) (n old : Nat) : TimeFrame d (d.rtcFollow n old) := by
  unfold Dev.rtcFollow
  split
  · dsimp only
    split
    · exact .refl d
    · exact ⟨fun _ _ => rfl, rfl, rfl, rfl, rfl⟩
  · exact .refl d

theorem TimeFrame.incrApply (d : Dev) (n : Nat) (hn : n ∈ List.range 8) : TimeFrame d (d.incrApply n) := by
  unfold Dev.incrApply
  split
  · exact ((TimeFrame.setTb _ _ _).trans (.set _ _ _ (mem_timeRegs n hn (by simp)))).trans (.set _ _ _ (mem_timeRegs n hn (by simp)))
  · exact .refl d

theorem TimeFrame.setLoad (d : Dev) (n : Nat) (hn : n ∈ List.range 8) : TimeFrame d (d.setLoad n) := by
  unfold Dev.setLoad
  split
  · exact .refl d
  · exact ((TimeFrame.setTb _ _ _).trans (.set _ _ _ (mem_timeRegs n hn (by simp)))).trans (.rtcFollow _ _ _)

theorem TimeFrame.snapNow (d : Dev) : TimeFrame d d.snapNow :=
  .foldl d _ (fun a n hn => ((TimeFrame.set a _ _ (mem_timeRegs n hn (by simp))).trans (.set _ _ _ (mem_timeRegs n hn (by simp)))).trans
    (.set _ _ _ (mem_timeRegs n hn (by simp))))

theorem TimeFrame.snapTick (d : Dev) : TimeFrame d d.snapTick := by
  unfold Dev.snapTick
  split
  · have h := TimeFrame.snapNow d
    generalize d.snapNow = d1 at h ⊢
    exact ⟨h.get, by rw [h.rest], rfl, rfl, rfl⟩
  · exact .refl d

theorem TimeFrame.count (d : Dev) (k : Nat) : TimeFrame d (d.count k) := by
  unfold Dev.count
  extract_lets d1
  have h1 : TimeFrame d d1 := .foldl d _ (fun a n _ => by
    split
    · exact .setTb _ _ _
    · exact .refl a)
  have h2 : TimeFrame d (d1.rtcAdvance (2 * k)) := h1.trans (.rtcAdvance d1 (2 * k))
  exact h2.trans ⟨fun _ _ => rfl, rfl, rfl, rfl, rfl⟩

theorem TimeFrame.tickOnce (d : Dev) : TimeFrame d d.tickOnce :=
  ((TimeFrame.foldl d _ (fun a n hn => .incrApply a n hn)).trans (.count _ 1)).trans (.foldl _ _ (fun a n hn => .setLoad a n hn))

theorem TimeFrame.ticks (d : Dev) (k : Nat) : TimeFrame d (d.ticks k) := by
  unfold Dev.ticks
  split
  · exact .refl d
  · exact ((TimeFrame.tickOnce d).trans (.snapTick _)).trans (.count _ _)

theorem TimeFrame.passAhead (d : Dev) (n : Nat) (ahead : Dev → Nat) : TimeFrame d (d.passAhead n ahead) := by
  unfold Dev.passAhead
  split
  · exact .refl d
  · exact (TimeFrame.ticks d 1).trans (.ticks _ _)

theorem TimeFrame.passTo (d : Dev) (n target : Nat) : TimeFrame d (d.passTo n target) := .passAhead ..

theorem TimeFrame.passNs (d : Dev) (ns : Nat) : TimeFrame d (d.passNs ns) := .ticks _ _

/-- No time passes towards an instant that a time base has reached. -/
theorem Dev.passTo_reached (d : Dev) (n target : Nat) (h : target ≤ (d.tb n).val) : d.passTo n target = d := by
  unfold Dev.passTo Dev.passAhead
  rw [if_pos (Or.inr (Nat.sub_eq_zero_of_le h))]

end Sys2Proof.Machine
end

