-- ==== Sys2Proof/WellFormed.lean ====
section
/-! DEFINITION. Which commands are well formed: operands that the spec's interface can carry, where the operand's type alone does not
say it. The model runs an ill-formed command as its meaning says (log entry 9). -/

namespace Sys2Proof
open Sys2Proof

/-- The sizes that an access on the host buses may have (R9). -/
def sizeNamed (n : Nat) : Bool := n == 1 || n == 2 || n == 4 || n == 8

/-- An access to one Orchard word (R465): 1 to 8 bytes that do not cross it, and the bytes that a write carries. -/
def accessOk (a : OrchAccess) : Bool :=
  decide (a.addr < 0x2000000) && decide (1 ≤ a.len) && decide (a.addr % 8 + a.len ≤ 8) &&
  (match a.write with | some bs => bs.length == a.len | none => true)

/-- A command packet: it fits a frame of its carrier (R287), and only on HARNESS can it come by way of another node (R315). -/
def packetOk (r : CmdReq) : Bool := decide (r.params.length ≤ 16384) && (r.port == 3 || r.direct)

/-- Whether a command is well formed: one arm for each row. -/
def wellFormed (i : Instr) : Bool :=
  match i with
  | .registerWrite _ off size _ => decide (off < 0x100000) && sizeNamed size
  | .lowWordRead _ off size => decide (off < 0x100000) && sizeNamed size
  | .orchardAccess a other _ => accessOk a && other.all accessOk
  | .engineMemoryWrite _ _ off bytes => bytes != [] && decide (off + bytes.length ≤ 0x20000)
  | .frameReceive _ kind bytes _ _ => match kind with | .frame | .first | .middle | .last => bytes != [] | _ => bytes == []
  | .rideFrame _ bytes take _ _ _ => bytes != [] || decide (0 < take)
  | .harnessFrameReceive _ bytes _ => bytes != []
  | .canFrameReceive _ f _ => decide (f.data.length = f.len) && decide (f.len ≤ 2048)
  | .take _ _ _ n lv => decide (lv.length ≤ n.val + 1)
  | .wait _ _ _ lv => decide (lv.length ≤ 1)
  | .copy _ _ _ lv => decide (lv.length ≤ 1)
  | .stirrupWaitDone _ lv => decide (lv.length ≤ 1)
  | .atAction _ lv => decide (lv.length ≤ 32)
  | .pnRd _ _ size => size == 4 || size == 8
  | .qspiRead _ n ready => decide (1 ≤ n) && decide (ready ≤ n)
  | .qspiWrite _ words => words != []
  | .getInfo r => packetOk r
  | .getStatus r => packetOk r
  | .readReg r => packetOk r
  | .writeReg r => packetOk r
  | .readMem r => packetOk r
  | .writeMem r => packetOk r
  | .reset r => packetOk r
  | .getEvents r => packetOk r
  | .clearEvents r => packetOk r
  | .claimOwner r => packetOk r
  | .releaseOwner r => packetOk r
  | .handoverOwner r => packetOk r
  | .keepAlive r => packetOk r
  | .setOwnerTimeout r => packetOk r
  | .getOwner r => packetOk r
  | .getBanks r => packetOk r
  | .setBankOwner r => packetOk r
  | .setBankPower r => packetOk r
  | .getFaultLogs r => packetOk r
  | .setScrub r => packetOk r
  | .getEngine r => packetOk r
  | .haltEngine r => packetOk r
  | .restartEngine r => packetOk r
  | .getTeam r => packetOk r
  | .getBridle r => packetOk r
  | .getSwitch r => packetOk r
  | .getSwitchPort r => packetOk r
  | .getSlices r => packetOk r
  | .clearSwitchCounters r => packetOk r
  | .setMirror r => packetOk r
  | .getTime r => packetOk r
  | .adjustTime r => packetOk r
  | .getStride r => packetOk r
  | .strideRun r => packetOk r
  | .setLunge r => packetOk r
  | .setLatchPhase r => packetOk r
  | .getLunge r => packetOk r
  | .getPort r => packetOk r
  | .getPortCounters r => packetOk r
  | .setPortEnable r => packetOk r
  | .cableTest r => packetOk r
  | .getInstances r => packetOk r
  | .holdInstance r => packetOk r
  | .updateBegin r => packetOk r
  | .updateData r => packetOk r
  | .updateVerify r => packetOk r
  | .updateActivate r => packetOk r
  | .updateAbort r => packetOk r
  | .updateStatus r => packetOk r
  | .getCert r => packetOk r
  | .attest r => packetOk r
  | .setLifecycle r => packetOk r
  | .setCustomerRoot r => packetOk r
  | .getPower r => packetOk r
  | .setDomain r => packetOk r
  | .sleepRequest r => packetOk r
  | .setSleepConsent r => packetOk r
  | .getHarness r => packetOk r
  | .getLane r => packetOk r
  | .selectUplink r => packetOk r
  | .ping r => packetOk r
  | .setForwardTimeout r => packetOk r
  | .strideEdge .. => true
  | .strideFence => true
  | .finisher .. => true
  | .outputLatch .. => true
  | .runStart .. => true
  | .runStop .. => true
  | .strideClrStats .. => true
  | .latchPhaseWrite .. => true
  | .lungeUpdate .. => true
  | .lungeEnable .. => true
  | .lungeDisable .. => true
  | .loadIncr .. => true
  | .incrApply .. => true
  | .step .. => true
  | .stepApply .. => true
  | .set .. => true
  | .setLoad .. => true
  | .tbEnable .. => true
  | .tbDisable .. => true
  | .snap .. => true
  | .txtsPop .. => true
  | .capMetaRead .. => true
  | .captureEdge .. => true
  | .trgEnable .. => true
  | .triggerAssert .. => true
  | .triggerDeassert .. => true
  | .rtcLoad .. => true
  | .syncFromTb .. => true
  | .rtcLoadDone => true
  | .vbatLoss .. => true
  | .launchTimeReached .. => true
  | .imgCommit .. => true
  | .engCommit .. => true
  | .mappingRuleRun .. => true
  | .mappingCellDelivery .. => true
  | .scrub .. => true
  | .bankHandover .. => true
  | .bankPower .. => true
  | .bankPowerDone .. => true
  | .bankRetentionEnter .. => true
  | .bankRetentionExit .. => true
  | .orchClrCnt .. => true
  | .frameStartEgress .. => true
  | .underrun .. => true
  | .frameTransmit .. => true
  | .f38FrameDelivery => true
  | .swmHtxTail .. => true
  | .hostTxDone => true
  | .swmRingStop .. => true
  | .swClrCnt .. => true
  | .portEnable .. => true
  | .linkUp .. => true
  | .linkLoss .. => true
  | .anRestart .. => true
  | .portClrCnt .. => true
  | .diagStart .. => true
  | .diagDone .. => true
  | .mdioGo .. => true
  | .mdioDone .. => true
  | .gateEnable .. => true
  | .gateArm .. => true
  | .gateListSwitch .. => true
  | .gateEntryAdvance .. => true
  | .gclDataWrite .. => true
  | .lpiEntry .. => true
  | .lpiExit .. => true
  | .redEntryForget .. => true
  | .streamReset .. => true
  | .rideLen .. => true
  | .dlyReqSend .. => true
  | .dlyReq .. => true
  | .dlyT2 .. => true
  | .dlyT3 .. => true
  | .slotEcho .. => true
  | .tableHash .. => true
  | .tableHashSend => true
  | .slotLaunch .. => true
  | .startupSend => true
  | .relayClose .. => true
  | .slotEchoSend .. => true
  | .listenTimeout => true
  | .startupArbitration => true
  | .hnEnable .. => true
  | .cmdFragment .. => true
  | .forwardedReply .. => true
  | .forwardTimeout .. => true
  | .canModeWrite .. => true
  | .canModeChange .. => true
  | .canRecover .. => true
  | .busOffRecovery .. => true
  | .canClrCnt .. => true
  | .txbReq .. => true
  | .txbAbort .. => true
  | .canTxChoice .. => true
  | .canTxEnd .. => true
  | .canRxStore .. => true
  | .canError .. => true
  | .serEnable .. => true
  | .flushTx .. => true
  | .serClrCnt .. => true
  | .serTxdata .. => true
  | .serTxStart .. => true
  | .serTxEnd .. => true
  | .txUnderrun .. => true
  | .serCharReceive .. => true
  | .serFrameEnd .. => true
  | .serRxstatPop .. => true
  | .engDone .. => true
  | .engWait .. => true
  | .waitWake .. => true
  | .waitLimitExpiry .. => true
  | .engTxTail .. => true
  | .txEntryFinish .. => true
  | .rxEntryWrite .. => true
  | .halt .. => true
  | .restart .. => true
  | .engClrStats .. => true
  | .bridleFault => true
  | .bridleRestartDone => true
  | .add .. => true
  | .sub .. => true
  | .adds .. => true
  | .subs .. => true
  | .and .. => true
  | .or .. => true
  | .xor .. => true
  | .nor .. => true
  | .neg .. => true
  | .abs .. => true
  | .min .. => true
  | .max .. => true
  | .minu .. => true
  | .maxu .. => true
  | .clt .. => true
  | .cltu .. => true
  | .ceq .. => true
  | .cne .. => true
  | .cle .. => true
  | .cleu .. => true
  | .sext8 .. => true
  | .sext16 .. => true
  | .sext32 .. => true
  | .zext32 .. => true
  | .sll .. => true
  | .srl .. => true
  | .sra .. => true
  | .rol .. => true
  | .ror .. => true
  | .slli .. => true
  | .srli .. => true
  | .srai .. => true
  | .roli .. => true
  | .rori .. => true
  | .mul .. => true
  | .mulh .. => true
  | .mulhu .. => true
  | .muls .. => true
  | .mac .. => true
  | .macs .. => true
  | .mac16 .. => true
  | .macs16 .. => true
  | .div .. => true
  | .divu .. => true
  | .rem .. => true
  | .remu .. => true
  | .jr .. => true
  | .jalr .. => true
  | .sync .. => true
  | .addi .. => true
  | .addis .. => true
  | .andi .. => true
  | .ori .. => true
  | .xori .. => true
  | .clti .. => true
  | .cltiu .. => true
  | .ceqi .. => true
  | .movh .. => true
  | .topi .. => true
  | .lb .. => true
  | .lbu .. => true
  | .lh .. => true
  | .lhu .. => true
  | .lw .. => true
  | .lwu .. => true
  | .ld .. => true
  | .sb .. => true
  | .sh .. => true
  | .sw .. => true
  | .sd .. => true
  | .bez .. => true
  | .bnz .. => true
  | .jal .. => true
  | .crcb .. => true
  | .crch .. => true
  | .crcw .. => true
  | .crcn .. => true
  | .crcm .. => true
  | .extu .. => true
  | .exts .. => true
  | .ins .. => true
  | .clz .. => true
  | .ctz .. => true
  | .popc .. => true
  | .bswap16 .. => true
  | .bswap32 .. => true
  | .brev8 .. => true
  | .sopen .. => true
  | .sget .. => true
  | .sgets .. => true
  | .sput .. => true
  | .spos .. => true
  | .tsnow .. => true
  | .tsedge .. => true
  | .tshi .. => true
  | .tsfrac .. => true
  | .tswait .. => true
  | .tswaitDone .. => true
  | .sgrun .. => true
  | .sgwait .. => true
  | .sgstat .. => true
  | .moverCopy .. => true
  | .moverConvert .. => true
  | .moverSend .. => true
  | .moverCommit .. => true
  | .moverListStop .. => true
  | .shainit .. => true
  | .shablk .. => true
  | .shard .. => true
  | .idle .. => true
  | .send .. => true
  | .drive .. => true
  | .enable .. => true
  | .time .. => true
  | .close .. => true
  | .note .. => true
  | .stallResume .. => true
  | .machineStart .. => true
  | .machineStop .. => true
  | .stirTxdata .. => true
  | .stirRxdata .. => true
  | .stirProg .. => true
  | .pnWr .. => true
  | .pnFlush .. => true
  | .pnCfgWrite .. => true
  | .resyncDone .. => true
  | .evCfgWrite .. => true
  | .evClrCnt .. => true
  | .tempSample .. => true
  | .referenceLoss .. => true
  | .referenceReturn .. => true
  | .powerOnReset => true
  | .warmReset => true
  | .testEnHigh => true
  | .startup .. => true
  | .pcieReset => true
  | .qspiStatus => true
  | .qspiReset => true
  | .mbPost .. => true
  | .mbAck .. => true
  | .mbWithdraw .. => true
  | .mbTimeout .. => true
  | .bridleRound => true
  | .keepAliveExpiry => true
  | .activationSwap => true
  | .domainRequest .. => true
  | .domainTransitionDone .. => true
  | .dozeWake .. => true
  | .token .. => true
  | .consent .. => true
  | .refuse .. => true
  | .visitTimeout .. => true
  | .commit .. => true
  | .sleepEntry .. => true
  | .wakeRequest .. => true
  | .wake .. => true
  | .wakeTimerExpiry => true
  | .slpKickWake .. => true
  | .kick .. => true
  | .sleepWatchExpiry => true
  | .undefinedOpcode .. => true
  | .unassignedStirrupOp .. => true
  | .autoNegotiationFailed .. => true
  | .verifyFail .. => true
  | .keyGenerationDone => true
  | .warmCmd => true

end Sys2Proof
end

