-- ==== Sys2Proof/Tests/Slice0.lean ====
section
/-! SUPPORT. Tests of the model against the spec's worked examples, ill-formed commands that the check refuses, and for each statement of
Sys2Proof/Certificates/Slice0/Obligations.lean concrete states and operands that meet the hypotheses of each of its clauses. -/

namespace Sys2Proof.Tests
open Sys2Proof Sys2Proof.Machine Sys2Proof.Safety

set_option maxRecDepth 100000
set_option Elab.async false

/-- A state that differs from reset in the fields of a list. -/
def at0 (fs : List (Fld × Nat)) : State := { dev := fs.foldl (fun d e => d.set e.1 e.2) {} }

/-- Such a state in which port 0 owns the device and the Bridle runs. -/
def owned (fs : List (Fld × Nat)) : State :=
  at0 ([(R.OWN_PORT_CLASS 0, 3), (R.OWN_STATUS_OWNED, 1), (R.OWN_STATUS_PORT, 0), (R.BRIDLE_STATUS_STATE, 1)] ++ fs)

/-- An empty frame of class 0 for output `j`. -/
def fr (j : Nat) : Copy := { src := 0, dst := j, cls := 0, bytes := [] }

/-- The only cell of a copy, as a list of one store or slice number. -/
def oneCell (k : Nat) (c : Copy) : List (Nat × FCell) :=
  [(k, { id := c.id, n := 0, src := c.src, dst := c.dst, cls := c.cls, first := true, last := true })]

/-- A state in which one copy waits, all of it in the store of its output. -/
def stored1 (fs : List (Fld × Nat)) (c : Copy) : State :=
  (at0 fs).on (fun d => { d with fab := { copies := [c], stores := [(c.dst, oneCell 0 c)] } })

/-- A state in which output `j` sends a frame, all of which is in its store. -/
def sends1 (fs : List (Fld × Nat)) (j : Nat) (t : TxFrame) : State :=
  (at0 fs).on (fun d => { d with fab := { tx := [(j, t)], stores := [(j, oneCell 0 t.copy)] } })

/-- Engine 47 running, with two general registers. -/
def eng47 (a b : Nat) : State := (at0 [(R.ENG_STATUS_STATE 47, 2)]).on (fun d => { d with eng := [(47, { g := [(1, a), (2, b)] })] })

/-- Engine 46 running as the leader of a lockstep pair, with one general register and the stores that it holds. -/
def pair46 (a : Nat) (held : List HeldStore) : State :=
  (at0 [(R.ENG_STATUS_STATE 46, 2), (R.TEAM_CFG2_LS23 11, 1)]).on (fun d => { d with eng := [(46, { g := [(1, a)], held := held })] })

/-- Team 11 with one transmit entry posted by engine 47 at the start of Orchard, which holds the bytes given. -/
def ring11 (m : List Host.Cell) : State :=
  { (at0 [(R.ENG_TXR_CFG_COUNT 47, 64), (R.ENG_TX_IDX_TAIL 47, 1), (R.BANK_OWNER_AGENT 0, 11)]) with mem := m }

/-- The credits after the choice of a ring of team 11. -/
def credits11 (s : State) : Tab Nat := ((pickRing s.mem s.dev 11).map Prod.snd).getD []

/-! ### Ill-formed commands -/

theorem test_wf_register_write : wellFormed (.registerWrite .pcie 0x100000 4 0) = false ∧ wellFormed (.registerWrite .pcie 0 3 0) = false := by decide
theorem test_wf_low_word_read : wellFormed (.lowWordRead .pcie 0 16) = false ∧ wellFormed (.lowWordRead .pcie 0x100000 4) = false := by decide
theorem test_wf_orchard_access : wellFormed (.orchardAccess { agent := .host, addr := 4, len := 8, write := none } none none) = false ∧
    wellFormed (.orchardAccess { agent := .host, addr := 0, len := 2, write := some [1] } none none) = false := by decide
theorem test_wf_engine_memory_write : wellFormed (.engineMemoryWrite .pcie 0 0 []) = false ∧
    wellFormed (.engineMemoryWrite .pcie 0 0x1FFFF [1, 2]) = false := by decide
theorem test_wf_frame_receive : wellFormed (.frameReceive 0 .frame [] false 0) = false ∧ wellFormed (.frameReceive 0 .verify [1] false 0) = false := by decide
theorem test_wf_ride_frame : wellFormed (.rideFrame 16 [] 0 false false 0) = false := by decide
theorem test_wf_harness_frame_receive : wellFormed (.harnessFrameReceive 0 [] 0) = false := by decide
theorem test_wf_can_frame_receive : wellFormed (.canFrameReceive 0 { len := 1 } 0) = false := by decide
theorem test_wf_take : wellFormed (.take 0 false 0 0 [0, 0]) = false := by decide
theorem test_wf_wait : wellFormed (.wait 0 0 0 [0, 0]) = false ∧ wellFormed (.copy 0 0 0 [0, 0]) = false := by decide
theorem test_wf_stirrup_wait_done : wellFormed (.stirrupWaitDone 0 [0, 0]) = false ∧ wellFormed (.atAction 0 (List.replicate 33 0)) = false := by decide
theorem test_wf_pn_rd : wellFormed (.pnRd .pcie 0 1) = false := by decide
theorem test_wf_qspi : wellFormed (.qspiRead 0 0 0) = false ∧ wellFormed (.qspiRead 0 1 2) = false ∧ wellFormed (.qspiWrite 0 []) = false := by decide
theorem test_wf_packet : wellFormed (.ping { direct := false }) = false := by decide
theorem test_wf_good : wellFormed (.registerWrite .pcie 0 4 0) = true ∧ wellFormed .warmReset = true ∧ wellFormed (.ping {}) = true := by decide

/-! ### Reset -/

theorem test_reset_mem : MemOk State.reset ∧ RegsOk State.reset := by decide
theorem test_reset_cause : State.reset.dev.get R.SYS_RESET_CAUSE = 1 := by decide

/-! ### The results that chapter 9 shows for R430 to R433 -/

/-- g3, OV and DZ of engine 47 after a command. -/
def g3After (i : Instr) (s : State) : Option (Nat × Bool × Bool) :=
  match exec i s with
  | .next t => some (t.dev.greg 47 3, t.dev.on (R.ENG_STATUS_OV 47), t.dev.on (R.ENG_STATUS_DZ 47))
  | _ => none

theorem test_neg_min : g3After (.neg 47 3 1) (eng47 0x8000000000 0) = some (0x8000000000, true, false) := by decide +kernel
theorem test_div_overflow : g3After (.div 47 3 1 2) (eng47 0x8000000000 0xFFFFFFFFFF) = some (0x8000000000, true, false) := by decide +kernel
theorem test_rem_overflow : g3After (.rem 47 3 1 2) (eng47 0x8000000000 0xFFFFFFFFFF) = some (0, true, false) := by decide +kernel
theorem test_div_zero : g3After (.div 47 3 1 2) (eng47 7 0) = some (0xFFFFFFFFFF, false, true) := by decide +kernel
theorem test_remu_zero : g3After (.remu 47 3 1 2) (eng47 7 0) = some (7, false, true) := by decide +kernel
theorem test_div_truncates : g3After (.div 47 3 1 2) (eng47 (2 ^ 40 - 7) 2) = some (2 ^ 40 - 3, false, false) := by decide +kernel
theorem test_rem_sign : g3After (.rem 47 3 1 2) (eng47 (2 ^ 40 - 7) 2) = some (2 ^ 40 - 1, false, false) := by decide +kernel
theorem test_sra_wide : g3After (.sra 47 3 1 2) (eng47 (2 ^ 40 - 8) 45) = some (0xFFFFFFFFFF, false, false) := by decide +kernel
theorem test_sll_wide : g3After (.sll 47 3 1 2) (eng47 1 40) = some (0, false, false) := by decide +kernel
theorem test_ror_wide : g3After (.ror 47 3 1 2) (eng47 1 41) = some (0x8000000000, false, false) := by decide +kernel
theorem test_adds_saturates : g3After (.adds 47 3 1 2) (eng47 0x7FFFFFFFFF 1) = some (0x7FFFFFFFFF, true, false) := by decide +kernel

/-! ### The packets of chapter 14's worked example -/

theorem test_get_lane_packet : packetOf 0x0B02 { direct := false, target := 0x213, flags := 0, sq := 0x22, plen := 1, params := [0] } =
    [0x02, 0x0B, 0x01, 0x00, 0x13, 0x02, 0x00, 0x22, 0, 0, 0, 0, 0] := by decide +kernel
theorem test_unreachable_reply : replyBytes (at0 [(R.HN_CTRL_NODE_ID, 1)]).dev 0x0B02 { target := 0x213, flags := 0, sq := 0x22 } 9 0x213 [] =
    [0x02, 0x0B, 0, 0, 0x01, 0, 0, 0x22, 0x09, 0, 0x13, 0x02] := by decide +kernel

/-! ### The examples of D(i, j) in chapter 4 (R167, R168) -/

theorem test_transit : transit 3 0 = 3 ∧ transit 4 1 = 3 ∧ transit 0 26 = 14 ∧ transit 26 0 = 26 ∧ transit 4 9 = 35 ∧ transit 0 3 = 37 ∧
    transit 38 38 = 40 := by decide

/-! ### Witnesses -/

theorem witness_StepRunsFront :
    (∃ (c : Instr) (rest : List Instr) (s : State), s.pending = c :: rest) ∧ (∃ s : State, s.pending = []) :=
  ⟨⟨.warmReset, [.powerOnReset], { State.reset with pending := [.warmReset, .powerOnReset] }, rfl⟩, ⟨State.reset, rfl⟩⟩

theorem witness_MemoryInvariant : ∃ s t : State, MemOk s ∧ step s = .next t :=
  ⟨{ State.reset with mem := [(5, 1)], pending := [.warmReset] }, _, by decide, rfl⟩

theorem witness_ResetState :
    (∃ (x : Nat), x < 9) ∧
    (∃ (e : Nat), e < 48) ∧
    (∃ (v : Nat), v < 16) :=
  ⟨⟨0, by decide +kernel⟩,
   ⟨0, by decide +kernel⟩,
   ⟨0, by decide +kernel⟩⟩

theorem witness_DeniedWrites :
    (∃ (w : Writer) (on : Bool) (i12 : Fin 12) (i16 : Fin 16) (i2 : Fin 2) (i256 : Fin 256) (i26 : Fin 26) (i3 : Fin 3) (i32 : Fin 32) (i4 : Fin 4) (i48 : Fin
      48) (i64 : Fin 64) (i8 i8b : Fin 8) (i9 : Fin 9) (off size : Nat) (v : W32) (u : W64) (s : State), s.dev.mayWrite w 0x54000 = false) ∧
    (∃ (e : Fin 48) (d : Dev) (g : Fld), d.coreOn = true ∧ block g ≠ 3 ∧ g.key ≠ (R.ENG_STATUS_WR_DENIED e).key) ∧
    (∃ (d : Dev), d.coreOn = false) ∧
    (∃ (d : Dev), d.coreOn = true ∧ d.get (R.OWN_PORT_CLASS 1) = 0) ∧
    (∃ (d : Dev) (g : Fld), d.coreOn = true ∧ d.get (R.OWN_PORT_CLASS 1) ≠ 0 ∧ block g ≠ 3 ∧ g.key ≠ R.OWN_EVT_WR_DENIED.key) ∧
    (∃ (d : Dev) (off : Nat) (w : Writer), d.coreOn = false ∧ ((d.pwr.asleep = false ∨ d.isHeld = true ∨ off / 0x10000 ≠ 0xE))) ∧
    (∃ (d : Dev) (off : Nat), d.coreOn = true ∧ off / 0x10000 ≠ 2) :=
  ⟨⟨Writer.pcie, false, (11 : Fin 12), (15 : Fin 16), (1 : Fin 2), (255 : Fin 256), (25 : Fin 26), (2 : Fin 3), (31 : Fin 32), (3 : Fin 4), (47 : Fin 48), (63
     : Fin 64), (7 : Fin 8), (7 : Fin 8), (8 : Fin 9), 0, 0, (0 : W32), (0 : W64), (at0 []), by decide +kernel⟩,
   ⟨(47 : Fin 48), (at0 []).dev, R.STRIDE_CTRL_RUN, by decide +kernel⟩,
   ⟨((at0 []).on (fun d => { d with sys := { stopped := true } })).dev, by decide +kernel⟩,
   ⟨(at0 [(R.OWN_PORT_CLASS 1, 0)]).dev, by decide +kernel⟩,
   ⟨(at0 [(R.OWN_PORT_CLASS 1, 1)]).dev, R.STRIDE_CTRL_RUN, by decide +kernel⟩,
   ⟨((at0 []).on (fun d => { d with sys := { stopped := true } })).dev, 0, Writer.bridle, by decide +kernel⟩,
   ⟨(at0 []).dev, 0, by decide +kernel⟩⟩

theorem witness_RefusedRunAndTriggers :
    (∃ (w : Writer) (s : State), Grants s w R.STRIDE_CTRL_RUN ∧ s.dev.on R.STRIDE_CTRL_RUN = false) ∧
    (∃ (w : Writer) (n : Fin 8) (s : State), Grants s w (R.TRG_CTRL_EN n) ∧ s.dev.on (R.TRG_CTRL_EN n) = false) :=
  ⟨⟨Writer.bridle, (at0 [(R.STRIDE_CTRL_RUN, 0)]), by decide +kernel⟩,
   ⟨Writer.bridle, (7 : Fin 8), (at0 [(R.TRG_CTRL_EN (7 : Fin 8), 0)]), by decide +kernel⟩⟩

theorem witness_StrideControl :
    (∃ (w : Writer) (s : State), Grants s w R.STRIDE_CTRL_RUN ∧ s.dev.on R.STRIDE_CTRL_RUN = false ∧ s.dev.runError ≠ 0) ∧
    (∃ (d : Dev), d.strideT < 2 * d.strideG) ∧
    (∃ (d : Dev), 2 * d.strideG ≤ d.strideT ∧ d.on R.STRIDE_STATUS_ADMITTED = false) ∧
    (∃ (d : Dev), 2 * d.strideG ≤ d.strideT ∧ d.on R.STRIDE_STATUS_ADMITTED = true ∧ d.on (R.TB_CTRL_EN d.strideTb) = false) ∧
    (∃ (d : Dev), 2 * d.strideG ≤ d.strideT ∧ d.on R.STRIDE_STATUS_ADMITTED = true ∧ d.on (R.TB_CTRL_EN d.strideTb) = true ∧ d.runError ≠ 0) ∧
    (∃ (w : Writer) (s : State), Grants s w R.STRIDE_CTRL_RUN ∧ s.dev.on R.STRIDE_CTRL_RUN = false ∧ s.dev.runError = 0 ∧ s.dev.stride.stopPend = false ∧ 0 <
      s.dev.strideT) ∧
    (∃ (w : Writer) (s : State), Grants s w R.STRIDE_CTRL_RUN ∧ s.dev.on R.STRIDE_CTRL_RUN = true) ∧
    (∃ (w : Writer) (s : State), Grants s w R.STRIDE_CTRL_RUN ∧ s.dev.on R.STRIDE_CTRL_RUN = false ∧ s.dev.runError = 0 ∧ s.dev.stride.stopPend = true) ∧
    (∃ (w : Writer) (s : State), Grants s w R.STRIDE_CTRL_RUN) ∧
    (∃ (w : Writer) (b : Fin 4) (v : W32) (s : State), Grants s w (R.LATCH_PHASE_PHASE b) ∧ v.toNat < 2 ^ 16 ∧ phaseOk v.toNat s.dev.strideG = true) ∧
    (∃ (w : Writer) (b : Fin 4) (v : W32) (s : State), Grants s w (R.LATCH_PHASE_PHASE b) ∧ v.toNat < 2 ^ 16 ∧ phaseOk v.toNat s.dev.strideG = false) :=
  ⟨⟨Writer.bridle, (at0 [(R.STRIDE_CTRL_RUN, 0)]), by decide +kernel⟩,
   ⟨(at0 [(R.STRIDE_GUARD_GUARD, 25000)]).dev, by decide +kernel⟩,
   ⟨(at0 [(R.STRIDE_STATUS_ADMITTED, 0)]).dev, by decide +kernel⟩,
   ⟨(at0 [(R.STRIDE_STATUS_ADMITTED, 1), (R.TB_CTRL_EN (at0 []).dev.strideTb, 0)]).dev, by decide +kernel⟩,
   ⟨(at0 [(R.STRIDE_STATUS_ADMITTED, 1), (R.TB_CTRL_EN (at0 []).dev.strideTb, 1), (R.STRIDE_STATUS_ADMITTED, 1), (R.LATCH_PHASE_PHASE 0, 0x8000)]).dev,
     by decide +kernel⟩,
   ⟨Writer.bridle, (at0 [(R.STRIDE_CTRL_RUN, 0), (R.STRIDE_CTRL_RUN, 0), (R.STRIDE_STATUS_ADMITTED, 1)]), by decide +kernel⟩,
   ⟨Writer.bridle, (at0 [(R.STRIDE_CTRL_RUN, 1)]), by decide +kernel⟩,
   ⟨Writer.bridle, ((at0 [(R.STRIDE_CTRL_RUN, 0), (R.STRIDE_CTRL_RUN, 0), (R.STRIDE_STATUS_ADMITTED, 1)]).on (fun d =>
     { d with stride := { stopPend := true } })), by decide +kernel⟩,
   ⟨Writer.bridle, (at0 []), by decide +kernel⟩,
   ⟨Writer.bridle, (3 : Fin 4), (0 : W32), (at0 []), by decide +kernel⟩,
   ⟨Writer.bridle, (3 : Fin 4), (0x8000 : W32), (at0 []), by decide +kernel⟩⟩

theorem witness_StrideEdges :
    (∃ (pins : BitVec 96) (s : State), s.dev.strideLive = false) ∧
    (∃ (s : State), ((∀ e, (s.dev.engine e).held = []))) ∧
    (∃ (pins : BitVec 96) (s u v : State), s.lsStride.dev.strideLive = true ∧ u = s.lsStride.fence ∧ v = u.on (fun d => (d.passStride (d.edgeNs d.stride.next
      * 2 ^ 32)).withPins pins)) ∧
    (∃ (s : State) (n at' back : Nat) (skip : Bool), s.dev.stride.fenceAt.isSome = true) ∧
    (∃ (s : State), s.dev.strideLive = false) ∧
    (∃ (s : State), s.lsStride.dev.stride.fenceAt.isSome = true) ∧
    (∃ (s u : State), u = s.lsStride ∧ u.dev.strideLive = true ∧ u.dev.stride.fenceAt = none) ∧
    (∃ (g : Fin 4) (s : State), s.dev.strideLive = true ∧ s.dev.stride.fenceAt.isSome = true ∧ s.dev.gaitEdge g s.dev.stride.next = true ∧
      s.dev.stride.finished.contains g.val = false) ∧
    (∃ (g : Fin 4) (s : State), (s.dev.strideLive && s.dev.stride.fenceAt.isSome && s.dev.gaitEdge g s.dev.stride.next && !s.dev.stride.finished.contains
      g.val) = false) ∧
    (∃ (b : Fin 4) (s : State), s.dev.latchesOf b = []) ∧
    (∃ (b : Fin 4) (s : State) (y : LatchRead) (r : List LatchRead) (d1 : Dev), s.dev.latchesOf b = y :: r ∧ d1 = s.dev.passStride (((s.dev.edgeNs y.index :
      Int) * 4 + toSigned 16 y.phase).toNat * 2 ^ 30)) ∧
    (∃ (d : Dev) (b : Fin 4) (y : LatchRead) (r : List LatchRead) (x : LatchRead), d.latchesOf b = y :: r ∧ x ∈ y :: r) ∧
    (∃ (d : Dev) (i v j : Nat), j ≤ d.get (R.STIR_LBIND_COUNT_M1 i) ∧ d.get (R.STIR_LBIND_PIN i) + j < 96) :=
  ⟨⟨(0 : BitVec 96), (at0 []), by decide +kernel⟩,
   ⟨at0 [], fun _ => rfl⟩,
   ⟨0, at0 [(R.STRIDE_STATUS_RUNNING, 1)], _, _, by decide +kernel, rfl, rfl⟩,
   ⟨((at0 []).on (fun d => { d with stride := { fenceAt := some 0 } })), 0, 0, 0, false, by decide +kernel⟩,
   ⟨(at0 []), by decide +kernel⟩,
   ⟨((at0 []).on (fun d => { d with stride := { fenceAt := some 0 } })), by decide +kernel⟩,
   ⟨at0 [(R.STRIDE_STATUS_RUNNING, 1)], _, rfl, by decide +kernel, by decide +kernel⟩,
   ⟨(3 : Fin 4), ((at0 [(R.STRIDE_STATUS_RUNNING, 1)]).on (fun d => { d with stride := { fenceAt := some 0 } })), by decide +kernel⟩,
   ⟨(3 : Fin 4), (at0 []), by decide +kernel⟩,
   ⟨3, at0 [], by decide +kernel⟩,
   ⟨3, ((at0 [(R.STIR_LBIND_PIN 0, 95)]).on (fun d => { d with stride := { latch := [{ index := 1, bind := 0, value := 1 }] } })),
     { index := 1, bind := 0, value := 1 }, [], _, by decide +kernel, rfl⟩,
   ⟨((at0 [(R.STIR_LBIND_PIN 0, 95)]).on (fun d => { d with stride := { latch := [{ index := 1, bind := 0, value := 1 }] } })).dev, 3,
     { index := 1, bind := 0, value := 1 }, [], { index := 1, bind := 0, value := 1 }, by decide +kernel⟩,
   ⟨(at0 []).dev, 0, 0, 0, by decide +kernel⟩⟩

theorem witness_LungeUnits :
    (∃ (w : Writer) (n : Fin 4) (s : State), Grants s w (R.LUNGE_CTRL_UPDATE n) ∧ s.dev.gaitClosed (s.dev.get (R.LUNGE_CTRL_GAIT n)) = false) ∧
    (∃ (w : Writer) (n : Fin 4) (s : State), Grants s w (R.LUNGE_CTRL_UPDATE n) ∧ s.dev.gaitClosed (s.dev.get (R.LUNGE_CTRL_GAIT n)) = true) ∧
    (∃ (w : Writer) (n : Fin 4) (s : State), Grants s w (R.LUNGE_CTRL_EN n) ∧ s.dev.on (R.LUNGE_CTRL_EN n) = false) ∧
    (∃ (w : Writer) (n : Fin 4) (s : State), Grants s w (R.LUNGE_CTRL_EN n) ∧ s.dev.on (R.LUNGE_CTRL_EN n) = true) ∧
    (∃ (d : Dev) (n : Fin 4) (v t v' : Int), (d.lunge n).latched = none ∧ (d.lunge n).enPend = none ∧ d.on (R.LUNGE_STATUS_ACTIVE n) = true ∧ v = toSigned 40
      (d.get (R.LUNGE_VEL n)) ∧ t = toSigned 40 (d.lunge n).takenTarget ∧ v' = toSigned 40 ((d.lungeEdge n).get (R.LUNGE_VEL n)) ∧ (d.lunge n).takenAccel = 0) ∧
    (∃ (d : Dev) (n : Fin 4) (v t v' : Int), (d.lunge n).latched = none ∧ (d.lunge n).enPend = none ∧ d.on (R.LUNGE_STATUS_ACTIVE n) = true ∧ v = toSigned 40
      (d.get (R.LUNGE_VEL n)) ∧ t = toSigned 40 (d.lunge n).takenTarget ∧ v' = toSigned 40 ((d.lungeEdge n).get (R.LUNGE_VEL n)) ∧ 0 < (d.lunge n).takenAccel
      ∧ v ≤ t) ∧
    (∃ (d : Dev) (n : Fin 4) (v t v' : Int), (d.lunge n).latched = none ∧ (d.lunge n).enPend = none ∧ d.on (R.LUNGE_STATUS_ACTIVE n) = true ∧ v = toSigned 40
      (d.get (R.LUNGE_VEL n)) ∧ t = toSigned 40 (d.lunge n).takenTarget ∧ v' = toSigned 40 ((d.lungeEdge n).get (R.LUNGE_VEL n)) ∧ 0 < (d.lunge n).takenAccel
      ∧ t ≤ v) ∧
    (∃ (d : Dev) (n : Fin 4), (d.lunge n).latched = none ∧ (d.lunge n).enPend = some true) ∧
    (∃ (d : Dev) (n : Fin 4), (d.lunge n).latched = none ∧ (d.lunge n).enPend = some false) :=
  ⟨⟨Writer.bridle, (3 : Fin 4), (at0 []), by decide +kernel⟩,
   ⟨Writer.bridle, (3 : Fin 4), ((at0 [(R.STRIDE_STATUS_RUNNING, 1)]).on (fun d => { d with stride := { fenceAt := some 0 } })), by decide +kernel⟩,
   ⟨Writer.bridle, (3 : Fin 4), (at0 [(R.LUNGE_CTRL_EN (3 : Fin 4), 0)]), by decide +kernel⟩,
   ⟨Writer.bridle, (3 : Fin 4), (at0 [(R.LUNGE_CTRL_EN (3 : Fin 4), 1)]), by decide +kernel⟩,
   ⟨(at0 [(R.LUNGE_STATUS_ACTIVE (3 : Fin 4), 1)]).dev, (3 : Fin 4), (0 : Int), (0 : Int), (0 : Int), by decide +kernel⟩,
   ⟨((at0 [(R.LUNGE_STATUS_ACTIVE (3 : Fin 4), 1)]).on (fun d => { d with stride := { lunges := [(3, { takenAccel := 1 })] } })).dev, (3 : Fin 4), (0 : Int),
     (0 : Int), (0 : Int), by decide +kernel⟩,
   ⟨((at0 [(R.LUNGE_STATUS_ACTIVE (3 : Fin 4), 1)]).on (fun d => { d with stride := { lunges := [(3, { takenAccel := 1 })] } })).dev, (3 : Fin 4), (0 : Int),
     (0 : Int), (0 : Int), by decide +kernel⟩,
   ⟨((at0 []).on (fun d => { d with stride := { lunges := [(3, { enPend := some true })] } })).dev, (3 : Fin 4), by decide +kernel⟩,
   ⟨((at0 []).on (fun d => { d with stride := { lunges := [(3, { enPend := some false })] } })).dev, (3 : Fin 4), by decide +kernel⟩⟩

theorem witness_RegisterAccess :
    (∃ (w : Writer) (off : Nat) (v : W64) (s : State), s.dev.mayWrite w off = true ∧ off % 4 = 0) ∧
    (∃ (w : Writer) (off : Nat) (v : W64) (s : State), s.dev.mayWrite w off = true ∧ off % 8 = 0 ∧ wideAt off = none) ∧
    (∃ (w : Writer) (off : Nat) (v : W64) (f : Fld) (s : State), s.dev.mayWrite w off = true ∧ off % 8 = 0 ∧ wideAt off = some f ∧ off ≠ 0x60010 ∧ f.acc = .rw
      ∧ legal f (bits v.toNat f.lo f.width) = true) ∧
    (∃ (w : Writer) (off size : Nat) (v : W64) (s : State), s.dev.mayWrite w off = true ∧ sizeOk off size = false) ∧
    (∃ (d : Dev) (f : Fld) (v : Nat), f.lo + f.width ≤ 32 ∧ f.acc = .rw ∧ legal f (bits v f.lo f.width) = true) ∧
    (∃ (d : Dev) (f : Fld) (v : Nat), f.lo + f.width ≤ 32 ∧ f.acc = .rw ∧ legal f (bits v f.lo f.width) = false) ∧
    (∃ (d : Dev) (f : Fld) (v : Nat) (i : Nat), f.lo + f.width ≤ 32 ∧ f.acc = .w1c ∧ i < f.width) ∧
    (∃ (d : Dev) (f : Fld) (v : Nat) (i : Nat), f.lo + f.width ≤ 32 ∧ f.acc = .w1s ∧ i < f.width) ∧
    (∃ (d : Dev) (f : Fld) (v : Nat), f.lo + f.width ≤ 32 ∧ f.acc = .rd) ∧
    (∃ (d : Dev) (f : Fld) (v : Nat) (g : Fld), f.lo + f.width ≤ 32 ∧ g.key ≠ f.key) ∧
    (∃ (w : Writer) (off : Nat) (s : State), s.dev.mayRead w = true ∧ off % 4 = 0 ∧ ((hiWord off = false ∨ Tab.find? s.dev.shadows (shadowOf (readerCode w)
      off) = none)) ∧ shadowed off = []) ∧
    (∃ (w : Writer) (off hi : Nat) (s : State), s.dev.mayRead w = true ∧ off % 4 = 0 ∧ ((hiWord off = false ∨ Tab.find? s.dev.shadows (shadowOf (readerCode w)
      off) = none)) ∧ shadowed off = [hi]) ∧
    (∃ (w : Writer) (off v : Nat) (s : State), s.dev.mayRead w = true ∧ off % 4 = 0 ∧ hiWord off = true ∧ Tab.find? s.dev.shadows (shadowOf (readerCode w)
      off) = some v) ∧
    (∃ (w : Writer) (off size : Nat) (s : State), s.dev.mayRead w = false) ∧
    (∃ (w : Writer) (off size : Nat) (s : State), s.dev.mayRead w = true ∧ sizeOk off size = false) ∧
    (∃ (w : Writer) (off : Nat) (s : State), s.dev.mayRead w = true ∧ off % 8 = 0 ∧ tripleLo off = false ∧ wideLo off = true) :=
  ⟨⟨Writer.bridle, 0, (0 : W64), (at0 []), by decide +kernel⟩,
   ⟨Writer.bridle, 0, (0 : W64), (at0 []), by decide +kernel⟩,
   ⟨Writer.bridle, 0x54018, (0 : W64), R.RTC_SET_SEC, (at0 []), by decide +kernel⟩,
   ⟨Writer.bridle, 0, 0, (0 : W64), (at0 []), by decide +kernel⟩,
   ⟨(at0 []).dev, R.STRIDE_CTRL_RUN, 0, by decide +kernel⟩,
   ⟨(at0 []).dev, R.ORCH_CTRL_SCRUB_INTERVAL, 0, by decide +kernel⟩,
   ⟨(at0 []).dev, R.RTC_STATUS_OSC_FAIL, 0, 0, by decide +kernel⟩,
   ⟨(at0 []).dev, (R.TB_CTRL_STEP 1), 0, 0, by decide +kernel⟩,
   ⟨(at0 []).dev, R.STRIDE_STATUS_RUNNING, 0, by decide +kernel⟩,
   ⟨(at0 []).dev, R.STRIDE_CTRL_RUN, 0, R.STRIDE_STATUS_RUNNING, by decide +kernel⟩,
   ⟨Writer.bridle, 0, (at0 []), by decide +kernel⟩,
   ⟨Writer.bridle, 0x54008, 0x5400C, (at0 []), by decide +kernel⟩,
   ⟨Writer.bridle, 0x5400C, 0, ((at0 []).on (fun d => { d with shadows := [(shadowOf (readerCode Writer.bridle) 0x5400C, 0)] })), by decide +kernel⟩,
   ⟨Writer.pcie, 0, 0, (at0 [(R.OWN_PORT_CLASS 0, 0)]), by decide +kernel⟩,
   ⟨.bridle, 0, 3, at0 [], by decide +kernel⟩,
   ⟨.bridle, 0x70018, at0 [], by decide +kernel⟩⟩

theorem witness_TimeBases :
    (∃ (w : Writer) (n : Fin 8) (s : State), Grants s w (R.TB_CTRL_LOAD_INCR n)) ∧
    (∃ (w : Writer) (n : Fin 8) (s : State), Grants s w (R.TB_CTRL_STEP n)) ∧
    (∃ (w : Writer) (n : Fin 8) (s : State), Grants s w (R.TB_CTRL_SET n) ∧ s.dev.on (R.TB_CTRL_EN n) = false) ∧
    (∃ (w : Writer) (n : Fin 8) (s : State), Grants s w (R.TB_CTRL_SET n) ∧ s.dev.on (R.TB_CTRL_EN n) = true) ∧
    (∃ (w : Writer) (n : Fin 8) (s : State), Grants s w (R.TB_CTRL_EN n) ∧ n ≠ 0) ∧
    (∃ (w : Writer) (n : Fin 8) (s : State), Grants s w (R.TB_CTRL_EN n) ∧ n ≠ 0 ∧ s.dev.on (R.TB_CTRL_EN n) = true ∧ ((s.dev.get R.STRIDE_CTRL_TB_SEL = n →
      s.dev.on R.STRIDE_STATUS_RUNNING = false ∧ s.dev.on R.STRIDE_STATUS_PENDING = false))) ∧
    (∃ (n : Fin 8) (s : State), s.dev.on (R.TB_STATUS_INCR_PEND n) = true) ∧
    (∃ (n : Fin 8) (v : Nat) (s : State), (s.dev.tb n).setPend = some v) ∧
    (∃ (n : Fin 8) (s : State), (s.dev.tb n).setPend = none) ∧
    (∃ (n : Fin 8) (s : State), s.dev.on (R.TB_STATUS_INCR_PEND n) = false) ∧
    (∃ (n : Fin 8) (pins : BitVec 96) (s : State), s.dev.on (R.TB_STATUS_STEP_PEND n) = false) ∧
    (∃ (n : Fin 8) (pins : BitVec 96) (s : State), s.dev.on (R.TB_STATUS_STEP_PEND n) = true ∧ s.dev.stepRefused n = false ∧ n.val ≠ s.dev.strideTb) ∧
    (∃ (n : Fin 8) (pins : BitVec 96) (s : State), s.dev.on (R.TB_STATUS_STEP_PEND n) = true ∧ s.dev.stepRefused n = false ∧ n.val = s.dev.strideTb ∧
      s.dev.stride.fenceAt = none) ∧
    (∃ (n : Fin 8) (d : Dev) (k : Nat), d.stepRefused n = false ∧ k ≠ n.val) ∧
    (∃ (n : Fin 8) (pins : BitVec 96) (s : State), s.dev.on (R.TB_STATUS_STEP_PEND n) = true ∧ s.dev.stepRefused n = true) :=
  ⟨⟨Writer.bridle, (7 : Fin 8), (at0 []), by decide +kernel⟩,
   ⟨Writer.bridle, (7 : Fin 8), (at0 []), by decide +kernel⟩,
   ⟨Writer.bridle, (7 : Fin 8), (at0 [(R.TB_CTRL_EN (7 : Fin 8), 0)]), by decide +kernel⟩,
   ⟨Writer.bridle, (7 : Fin 8), (at0 [(R.TB_CTRL_EN (7 : Fin 8), 1)]), by decide +kernel⟩,
   ⟨Writer.bridle, (7 : Fin 8), (at0 []), by decide +kernel⟩,
   ⟨Writer.bridle, (7 : Fin 8), (at0 [(R.TB_CTRL_EN (7 : Fin 8), 1), (R.STRIDE_STATUS_RUNNING, 0), (R.STRIDE_STATUS_PENDING, 0)]), by decide +kernel⟩,
   ⟨(7 : Fin 8), (at0 [(R.TB_STATUS_INCR_PEND (7 : Fin 8), 1)]), by decide +kernel⟩,
   ⟨7, 5, ((at0 []).on (fun d => { d with time := { tbs := [(7, { setPend := some 5 })] } })), by decide +kernel⟩,
   ⟨7, at0 [], by decide +kernel⟩,
   ⟨7, at0 [], by decide +kernel⟩,
   ⟨7, 0, at0 [], by decide +kernel⟩,
   ⟨(7 : Fin 8), (0 : BitVec 96), (at0 [(R.TB_STATUS_STEP_PEND (7 : Fin 8), 1), (R.TB_CTRL_EN 7, 1)]), by decide +kernel⟩,
   ⟨(7 : Fin 8), (0 : BitVec 96), (at0 [(R.TB_STATUS_STEP_PEND (7 : Fin 8), 1), (R.STRIDE_CTRL_TB_SEL, 7), (R.TB_CTRL_EN 7, 1)]), by decide +kernel⟩,
   ⟨7, (at0 []).dev, 0, by decide +kernel⟩,
   ⟨(7 : Fin 8), (0 : BitVec 96), (at0 [(R.TB_STATUS_STEP_PEND (7 : Fin 8), 1), (R.TB_CTRL_EN 7, 0)]), by decide +kernel⟩⟩

theorem witness_SnapshotsAndCaptures :
    (∃ (w : Writer) (s : State), s.dev.mayWrite w 0x50800 = true) ∧
    (∃ (d : Dev), d.time.snapPend = true) ∧
    (∃ (d : Dev), d.time.snapPend = false) ∧
    (∃ (c : Fin 8) (rising : Bool) (ph : Fin 8) (s : State), s.dev.on (R.CAP_CFG_EN c) = true ∧ (s.dev.get (R.CAP_CFG_EDGE c)).testBit (if rising then 0 else
      1) = true ∧ (s.dev.cap c).q.length < 8) ∧
    (∃ (c : Fin 8) (rising : Bool) (ph : Fin 8) (s : State), s.dev.on (R.CAP_CFG_EN c) = true ∧ (s.dev.get (R.CAP_CFG_EDGE c)).testBit (if rising then 0 else
      1) = true ∧ 8 ≤ (s.dev.cap c).q.length) ∧
    (∃ (c : Fin 8) (rising : Bool) (ph : Fin 8) (s : State), (s.dev.on (R.CAP_CFG_EN c) && (s.dev.get (R.CAP_CFG_EDGE c)).testBit (if rising then 0 else 1)) =
      false) ∧
    (∃ (w : Writer) (c : Fin 8) (s : State), s.dev.mayRead w = true) ∧
    (∃ (w : Writer) (p : Fin 26) (s : State), s.dev.mayRead w = true) :=
  ⟨⟨Writer.bridle, (at0 []), by decide +kernel⟩,
   ⟨((at0 []).on (fun d => { d with time := { snapPend := true } })).dev, by decide +kernel⟩,
   ⟨(at0 []).dev, by decide +kernel⟩,
   ⟨(7 : Fin 8), false, (7 : Fin 8), (at0 [(R.CAP_CFG_EN (7 : Fin 8), 1), (R.CAP_CFG_EDGE 7, 2)]), by decide +kernel⟩,
   ⟨(7 : Fin 8), false, (7 : Fin 8), ((at0 [(R.CAP_CFG_EN (7 : Fin 8), 1), (R.CAP_CFG_EDGE 7, 3)]).on (fun d =>
     { d with time := { caps := [(7, { q := List.replicate 8 {} })] } })), by decide +kernel⟩,
   ⟨(7 : Fin 8), false, (7 : Fin 8), (at0 []), by decide +kernel⟩,
   ⟨Writer.bridle, (7 : Fin 8), (at0 []), by decide +kernel⟩,
   ⟨Writer.bridle, (25 : Fin 26), (at0 []), by decide +kernel⟩⟩

theorem witness_TriggerUnits :
    (∃ (w : Writer) (n : Fin 8) (s : State), Grants s w (R.TRG_CTRL_EN n) ∧ s.dev.trgBad n = true) ∧
    (∃ (w : Writer) (n : Fin 8) (s : State), Grants s w (R.TRG_CTRL_EN n) ∧ s.dev.trgBad n = false ∧ s.dev.on (R.TRG_CTRL_EN n) = false ∧ s.dev.on
      (R.TRG_CTRL_PERIODIC n) = true ∧ 0 < s.dev.trgPeriod n) ∧
    (∃ (w : Writer) (n : Fin 8) (s : State), Grants s w (R.TRG_CTRL_EN n) ∧ s.dev.trgBad n = false ∧ s.dev.on (R.TRG_CTRL_EN n) = false ∧ s.dev.on
      (R.TRG_CTRL_PERIODIC n) = false ∧ (s.dev.tb (s.dev.get (R.TRG_CTRL_TB n))).val < s.dev.trgStartReg n) ∧
    (∃ (w : Writer) (n : Fin 8) (s : State), Grants s w (R.TRG_CTRL_EN n) ∧ s.dev.trgBad n = false ∧ s.dev.on (R.TRG_CTRL_EN n) = false ∧ s.dev.on
      (R.TRG_CTRL_PERIODIC n) = false ∧ s.dev.trgStartReg n ≤ (s.dev.tb (s.dev.get (R.TRG_CTRL_TB n))).val) ∧
    (∃ (w : Writer) (n : Fin 8) (s : State), Grants s w (R.TRG_CTRL_EN n) ∧ s.dev.trgBad n = false ∧ s.dev.on (R.TRG_CTRL_EN n) = true) ∧
    (∃ (n : Fin 8) (s : State), s.dev.on (R.TRG_CTRL_EN n) = true ∧ s.dev.on (R.TRG_STATUS_ACTIVE n) = false) ∧
    (∃ (n : Fin 8) (s : State), s.dev.on (R.TRG_STATUS_ACTIVE n) = true) ∧
    (∃ (n : Fin 8) (s : State), s.dev.on (R.TRG_CTRL_EN n) = false) ∧
    (∃ (n : Fin 8) (s : State), s.dev.on (R.TRG_STATUS_ACTIVE n) = false) :=
  ⟨⟨Writer.bridle, (7 : Fin 8), (at0 [(R.TRG_WIDTH 7, 0)]), by decide +kernel⟩,
   ⟨Writer.bridle, (7 : Fin 8), (at0 [(R.TRG_CTRL_EN (7 : Fin 8), 0), (R.TRG_CTRL_PERIODIC (7 : Fin 8), 1)]), by decide +kernel⟩,
   ⟨.bridle, 7, at0 [(R.TRG_WIDTH 7, 1), (R.TRG_START_HI 7, 1)], by decide +kernel⟩,
   ⟨.bridle, 7, at0 [(R.TRG_WIDTH 7, 1)], by decide +kernel⟩,
   ⟨.bridle, 7, at0 [(R.TRG_WIDTH 7, 1), (R.TRG_CTRL_EN 7, 1)], by decide +kernel⟩,
   ⟨(7 : Fin 8), (at0 [(R.TRG_CTRL_EN (7 : Fin 8), 1), (R.TRG_STATUS_ACTIVE (7 : Fin 8), 0)]), by decide +kernel⟩,
   ⟨(7 : Fin 8), (at0 [(R.TRG_STATUS_ACTIVE (7 : Fin 8), 1)]), by decide +kernel⟩,
   ⟨(7 : Fin 8), (at0 [(R.TRG_CTRL_EN (7 : Fin 8), 0)]), by decide +kernel⟩,
   ⟨(7 : Fin 8), (at0 [(R.TRG_STATUS_ACTIVE (7 : Fin 8), 0)]), by decide +kernel⟩⟩

theorem witness_CalendarClock :
    (∃ (w : Writer) (s : State), Grants s w R.RTC_CTRL_LOAD ∧ s.dev.on R.RTC_STATUS_BUSY = false) ∧
    (∃ (w : Writer) (s : State), Grants s w R.RTC_CTRL_LOAD ∧ s.dev.on R.RTC_STATUS_BUSY = false) ∧
    (∃ (w : Writer) (s : State), Grants s w R.RTC_CTRL_LOAD ∧ s.dev.on R.RTC_STATUS_BUSY = true) ∧
    (∃ (s : State), s.dev.time.rtcPend = some .sec) ∧
    (∃ (s : State) (n target : Nat), s.dev.time.rtcPend = some (.fromTb n target) ∧ target / 1000000000 < 2 ^ 32 ∧ target ≤ ((s.dev.passTo n (target * 2 ^
      32)).tb n).val / 2 ^ 32) ∧
    (∃ (s : State) (n target : Nat), s.dev.time.rtcPend = some (.fromTb n target) ∧ ((s.dev.passTo n (target * 2 ^ 32)).tb n).val / 2 ^ 32 < target) ∧
    (∃ (s : State), s.dev.time.rtcPend = none) ∧
    (∃ (d : Dev) (n m target old : Nat), d.time.rtcPend = some (.fromTb m target) ∧ (m ≠ n ∨ target ≤ old / 2 ^ 32)) ∧
    (∃ (d : Dev) (n m target old : Nat), d.time.rtcPend = some (.fromTb m target) ∧ m = n ∧ old / 2 ^ 32 < target) :=
  ⟨⟨Writer.bridle, (at0 [(R.RTC_STATUS_BUSY, 0)]), by decide +kernel⟩,
   ⟨Writer.bridle, (at0 [(R.RTC_STATUS_BUSY, 0)]), by decide +kernel⟩,
   ⟨Writer.bridle, (at0 [(R.RTC_STATUS_BUSY, 1)]), by decide +kernel⟩,
   ⟨((at0 []).on (fun d => { d with time := { rtcPend := some .sec } })), by decide +kernel⟩,
   ⟨((at0 []).on (fun d => { d with time := { rtcPend := some (.fromTb 0 0) } })), 0, 0, by decide +kernel⟩,
   ⟨((at0 [(R.TB_CTRL_EN 1, 0)]).on (fun d => { d with time := { rtcPend := some (.fromTb 1 1) } })), 1, 1, by decide +kernel⟩,
   ⟨at0 [], by decide +kernel⟩,
   ⟨((at0 []).on (fun d => { d with time := { rtcPend := some (.fromTb 0 0) } })).dev, 1, 0, 0, 0, by decide +kernel⟩,
   ⟨((at0 []).on (fun d => { d with time := { rtcPend := some (.fromTb 0 1) } })).dev, 0, 0, 1, 0, by decide +kernel⟩⟩

theorem witness_ImagesAndMapping :
    (∃ (w : Writer) (r : Fin 256) (v : W32) (s : State), Grants s w (R.IMG_COMMIT_ITEM r) ∧ ((w = .pcie ∨ w = .qspi)) ∧ v.toNat < 2 ^ 20 ∧ s.dev.on
      (R.IMG_CFG_HOST_PROD r) = true ∧ (s.dev.region r).producer = .host ∧ (s.dev.region r).opened = true ∧ s.dev.on (R.IMG_CFG_VALID r) = true ∧ v.toNat % 2
      ^ 12 < s.dev.get (R.IMG_CFG_ITEMS r)) ∧
    (∃ (w : Writer) (r : Fin 256) (v : W32) (s : State), Grants s w (R.IMG_COMMIT_ITEM r) ∧ v.toNat < 2 ^ 20 ∧ (s.dev.on (R.IMG_CFG_HOST_PROD r) &&
      (s.dev.region r).producer == .host && agentOf w == 12 && (s.dev.region r).opened && s.dev.on (R.IMG_CFG_VALID r) && decide (v.toNat % 2 ^ 12 < s.dev.get
      (R.IMG_CFG_ITEMS r))) = false) ∧
    (∃ (e : Fin 48) (v : W32) (r item age : Nat) (s : State), r = v.toNat / 2 ^ 20 % 2 ^ 8 ∧ item = v.toNat % 2 ^ 12 ∧ age = v.toNat / 2 ^ 12 % 2 ^ 8 ∧
      v.toNat < 2 ^ 31 ∧ s.dev.heldRegion r = false ∧ (s.dev.region r).producer = .team (e.val / 4) ∧ (s.dev.region r).opened = true ∧ s.dev.on
      (R.IMG_CFG_VALID r) = true ∧ item < s.dev.get (R.IMG_CFG_ITEMS r)) ∧
    (∃ (e : Fin 48) (v : W32) (r age : Nat) (s : State), r = v.toNat / 2 ^ 20 % 2 ^ 8 ∧ age = v.toNat / 2 ^ 12 % 2 ^ 8 ∧ 2 ^ 31 ≤ v.toNat ∧ s.dev.heldRegion r
      = false ∧ (s.dev.region r).producer = .team (e.val / 4) ∧ (s.dev.region r).opened = true ∧ s.dev.on (R.IMG_CFG_VALID r) = true ∧ 0 < s.dev.get
      (R.IMG_CFG_ITEMS r)) ∧
    (∃ (e : Fin 48) (v : W32) (r : Nat) (s : State), r = v.toNat / 2 ^ 20 % 2 ^ 8 ∧ v.toNat < 2 ^ 31 ∧ s.dev.heldRegion r = false ∧ ((s.dev.region r).producer
      == .team (e.val / 4) && (s.dev.region r).opened && s.dev.on (R.IMG_CFG_VALID r) && decide (v.toNat % 2 ^ 12 < s.dev.get (R.IMG_CFG_ITEMS r))) = false) ∧
    (∃ (e : Fin 48) (v : W32) (s : State), s.dev.heldRegion (v.toNat / 2 ^ 20 % 2 ^ 8) = true) ∧
    (∃ (n : Fin 4096) (s : State), s.dev.rule? n = none) ∧
    (∃ (n : Fin 4096) (x : MapRule) (s : State), s.dev.rule? n = some x ∧ (((s.dev.ruleRun n).started = true ∨ s.dev.gaitClosed (s.dev.get (R.IMG_CFG_GAIT
      x.dstRegion)) = true))) ∧
    (∃ (n : Fin 4096) (x : MapRule) (s : State) (r : List (List Byte × Nat)) (d : Dev) (m : MapCells), s.dev.rule? n = some x ∧ (s.dev.ruleRun n).started =
      false ∧ s.dev.gaitClosed (s.dev.get (R.IMG_CFG_GAIT x.dstRegion)) = false ∧ x.chain = false ∧ ruleResults s.mem s.dev x = (r, d) ∧ s.dev.executor x ≠
      s.dev.regionOwner x.dstRegion ∧ m =
      { rule := some n.val, src := s.dev.executor x, region := x.dstRegion, item := x.dstItem, items := r, stride := s.dev.workStride (s.dev.get (R.IMG_CFG_GAIT x.dstRegion)) }) ∧
    (∃ (d : Dev) (m : MapCells) (dst bytes : Nat) (i : Nat), i ≠ cellPort m.src) ∧
    (∃ (n : Fin 4096) (x : MapRule) (s : State) (r : List (List Byte × Nat)) (d : Dev), s.dev.rule? n = some x ∧ (s.dev.ruleRun n).started = false ∧
      s.dev.gaitClosed (s.dev.get (R.IMG_CFG_GAIT x.dstRegion)) = false ∧ x.chain = false ∧ ruleResults s.mem s.dev x = (r, d) ∧ s.dev.executor x =
      s.dev.regionOwner x.dstRegion ∧ s.dev.executor x < 12) ∧
    (∃ (dst : Fin 13) (s : State), ((∀ c ∈ s.dev.img.cells, c.port.getD (s.dev.regionOwner c.region) ≠ dst.val))) ∧
    (∃ (dst : Fin 13) (s u : State) (c0 c : MapCells), s.dev.img.cells.find? (fun c => c.port.getD (s.dev.regionOwner c.region) == dst.val) = some c0 ∧ u =
      s.on (fun d => d.fabWait (fun x => (x.img.cells.find? (fun c => c.id == c0.id)).any (fun c => x.cellsThere c dst))) ∧ u.dev.img.cells.find? (fun c =>
      c.id == c0.id) = some c ∧ u.dev.cellsThere c dst = false) ∧
    (∃ (dst : Fin 13) (s u : State) (c0 c : MapCells), s.dev.img.cells.find? (fun c => c.port.getD (s.dev.regionOwner c.region) == dst.val) = some c0 ∧ u =
      s.on (fun d => d.fabWait (fun x => (x.img.cells.find? (fun c => c.id == c0.id)).any (fun c => x.cellsThere c dst))) ∧ u.dev.img.cells.find? (fun c =>
      c.id == c0.id) = some c ∧ u.dev.cellsThere c dst = true ∧ c.mover = none ∧ c.lost = true) ∧
    (∃ (dst : Fin 13) (s u : State) (c0 c : MapCells), s.dev.img.cells.find? (fun c => c.port.getD (s.dev.regionOwner c.region) == dst.val) = some c0 ∧ u =
      s.on (fun d => d.fabWait (fun x => (x.img.cells.find? (fun c => c.id == c0.id)).any (fun c => x.cellsThere c dst))) ∧ u.dev.img.cells.find? (fun c =>
      c.id == c0.id) = some c ∧ u.dev.cellsThere c dst = true ∧ c.mover = none ∧ c.lost = false ∧ c.rule = none ∧ c.items ≠ []) ∧
    (∃ (d : Dev) (c : MapCells) (x : MapCells), x ∈ ((d.dropCells c).dropList c).img.cells) ∧
    (∃ (q : Req) (region item stride : Nat) (l : List (List Byte × Nat)) (s : State), s.dev.strideLive = true ∧ stride ≠ s.dev.workStride (s.dev.get
      (R.IMG_CFG_GAIT region))) ∧
    (∃ (ty : Nat) (v : Int), (saturate ty v).2 = false) ∧
    (∃ (ty : Nat) (v : Int), ty ≠ 0) :=
  ⟨⟨Writer.pcie, (255 : Fin 256), (0xFFFFE : W32), (at0 [(R.IMG_CFG_HOST_PROD (255 : Fin 256), 1), (R.IMG_CFG_VALID (255 : Fin 256), 1), (R.IMG_CFG_ITEMS 255,
     4095), (R.OWN_STATUS_OWNED, 1), (R.OWN_STATUS_PORT, 0), (R.OWN_PORT_CLASS 0, 2)]), by decide +kernel⟩,
   ⟨Writer.bridle, (255 : Fin 256), (0 : W32), (at0 []), by decide +kernel⟩,
   ⟨(47 : Fin 48), (0 : W32), 0, 0, 0, ((at0 [(R.IMG_CFG_VALID 0, 1), (R.IMG_CFG_ITEMS 0, 1)]).on (fun d =>
     { d with img := { regions := [(0, { producer := .team 11 })] } })), by decide +kernel⟩,
   ⟨(47 : Fin 48), (0x80000000 : W32), 0, 0, ((at0 [(R.IMG_CFG_VALID 0, 1), (R.IMG_CFG_ITEMS 0, 1)]).on (fun d =>
     { d with img := { regions := [(0, { producer := .team 11 })] } })), by decide +kernel⟩,
   ⟨(47 : Fin 48), (0 : W32), 0, (at0 []), by decide +kernel⟩,
   ⟨(47 : Fin 48), (0 : W32), ((at0 []).on (fun d => { d with img := { regions := [(0, { inst := some 0 })] }, upd := { held := [0] } })), by decide +kernel⟩,
   ⟨(4095 : Fin 4096), (at0 []), by decide +kernel⟩,
   ⟨(0 : Fin 4096), ({} : MapRule), ((at0 []).on (fun d => { d with img := { rules := [{}], runs := [(0, { started := true })] } })), by decide +kernel⟩,
   ⟨(0 : Fin 4096), ({ srcRegion := 1 } : MapRule), ((at0 [(R.BANK_OWNER_AGENT 0, 3), (R.BANK_OWNER_AGENT 1, 4), (R.IMG_CFG_BANK 1, 1)]).on (fun d =>
     { d with img := { rules := [{ srcRegion := 1 }] } })), ((ruleResults ((at0 [(R.BANK_OWNER_AGENT 0, 3), (R.BANK_OWNER_AGENT 1, 4), (R.IMG_CFG_BANK 1,
     1)]).on (fun d => { d with img := { rules := [{ srcRegion := 1 }] } })).mem ((at0 [(R.BANK_OWNER_AGENT 0, 3), (R.BANK_OWNER_AGENT 1, 4), (R.IMG_CFG_BANK
     1, 1)]).on (fun d => { d with img := { rules := [{ srcRegion := 1 }] } })).dev { srcRegion := 1 }).1), ((ruleResults ((at0 [(R.BANK_OWNER_AGENT 0, 3),
     (R.BANK_OWNER_AGENT 1, 4), (R.IMG_CFG_BANK 1, 1)]).on (fun d => { d with img := { rules := [{ srcRegion := 1 }] } })).mem ((at0 [(R.BANK_OWNER_AGENT 0,
     3), (R.BANK_OWNER_AGENT 1, 4), (R.IMG_CFG_BANK 1, 1)]).on (fun d => { d with img := { rules := [{ srcRegion := 1 }] } })).dev { srcRegion := 1 }).2), _,
     by decide +kernel, by decide +kernel, by decide +kernel, by decide +kernel, by decide +kernel, by decide +kernel, rfl⟩,
   ⟨(at0 []).dev, { rule := none, src := 0, region := 0, item := 0, items := [], stride := 0 }, 0, 0, 0, by decide +kernel⟩,
   ⟨(0 : Fin 4096), ({} : MapRule), ((at0 [(R.BANK_OWNER_AGENT 0, 3)]).on (fun d => { d with img := { rules := [{}] } })), ((ruleResults ((at0
     [(R.BANK_OWNER_AGENT 0, 3)]).on (fun d => { d with img := { rules := [{}] } })).mem ((at0 [(R.BANK_OWNER_AGENT 0, 3)]).on (fun d =>
     { d with img := { rules := [{}] } })).dev {}).1), ((ruleResults ((at0 [(R.BANK_OWNER_AGENT 0, 3)]).on (fun d => { d with img := { rules := [{}] } })).mem
     ((at0 [(R.BANK_OWNER_AGENT 0, 3)]).on (fun d => { d with img := { rules := [{}] } })).dev {}).2), by decide +kernel⟩,
   ⟨(12 : Fin 13), (at0 []), by decide +kernel⟩,
   ⟨12, ((at0 [(R.BANK_OWNER_AGENT 0, 12)]).on (fun d =>
     { d with img := { cells := [{ rule := none, src := 0, region := 0, item := 0, items := [([0], 0)], stride := 0 }] } })), _,
     { rule := none, src := 0, region := 0, item := 0, items := [([0], 0)], stride := 0 },
     { rule := none, src := 0, region := 0, item := 0, items := [([0], 0)], stride := 0 }, by decide +kernel, rfl, by decide +kernel⟩,
   ⟨12, ((at0 [(R.BANK_OWNER_AGENT 0, 12)]).on (fun d =>
     { d with img := { cells := [{ rule := none, src := 0, region := 0, item := 0, items := [([0], 0)], stride := 0, lost := true }] } })), _,
     { rule := none, src := 0, region := 0, item := 0, items := [([0], 0)], stride := 0, lost := true },
     { rule := none, src := 0, region := 0, item := 0, items := [([0], 0)], stride := 0, lost := true }, by decide +kernel, rfl, by decide +kernel⟩,
   ⟨12, ((at0 [(R.BANK_OWNER_AGENT 0, 12)]).on (fun d =>
     { d with img := { cells := [{ rule := none, src := 0, region := 0, item := 0, items := [([0], 0)], stride := 0 }] }, fab := { stores := [(38, [(0, { id := 0, n := 0, src := 26, dst := 38, last := true, map := true })])] } })),
     _, { rule := none, src := 0, region := 0, item := 0, items := [([0], 0)], stride := 0 },
     { rule := none, src := 0, region := 0, item := 0, items := [([0], 0)], stride := 0 }, by decide +kernel, rfl, by decide +kernel⟩,
   ⟨((at0 []).on (fun d =>
     { d with img := { cells := [{ rule := none, src := 0, region := 0, item := 0, items := [([0], 0)], stride := 0, id := 1 }] } })).dev,
     { rule := none, src := 0, region := 0, item := 0, items := [([0], 0)], stride := 0 },
     { rule := none, src := 0, region := 0, item := 0, items := [([0], 0)], stride := 0, id := 1 }, by decide +kernel⟩,
   ⟨({ port := 0, agent := 0 } : Req), 0, 0, 1, ([] : List (List Byte × Nat)), (at0 [(R.STRIDE_STATUS_RUNNING, 1)]), by decide +kernel⟩,
   ⟨1, 0, by decide +kernel⟩,
   ⟨1, 0, by decide +kernel⟩⟩

theorem witness_SwitchOutputs :
    (∃ (d : Dev) (j : Nat) (c : Copy) (x : Copy), d.bestCopy j = some c ∧ x ∈ d.waiting j ∧ d.arrived x = true ∧ x.cls = c.cls) ∧
    (∃ (d : Dev) (j : Nat) (x : Copy), d.bestCopy j = none ∧ x ∈ d.waiting j) ∧
    (∃ (j : Fin 40) (c : Copy) (s : State) (d : Dev), 26 ≤ j.val ∧ j.val ≠ 39 ∧ s.dev.sending j = none ∧ d = s.dev.awaitAny j ∧ d.bestCopy j = some c ∧
      d.seenBad c = false ∧ d.ready c = true ∧ d.tooOld c = false) ∧
    (∃ (j : Fin 40) (c : Copy) (s : State) (d : Dev), 26 ≤ j.val ∧ j.val ≠ 39 ∧ s.dev.sending j = none ∧ d = s.dev.awaitAny j ∧ d.bestCopy j = some c ∧
      d.seenBad c = false ∧ d.ready c = true ∧ d.tooOld c = true) ∧
    (∃ (j : Fin 40) (c : Copy) (s : State) (d : Dev), 26 ≤ j.val ∧ j.val ≠ 39 ∧ s.dev.sending j = none ∧ d = s.dev.awaitAny j ∧ d.bestCopy j = some c ∧
      d.seenBad c = false ∧ d.ready c = false) ∧
    (∃ (j : Fin 40) (c : Copy) (s : State) (d : Dev), 26 ≤ j.val ∧ j.val ≠ 39 ∧ s.dev.sending j = none ∧ d = s.dev.awaitAny j ∧ d.bestCopy j = some c ∧
      d.seenBad c = true) ∧
    (∃ (j : Fin 40) (s : State) (d : Dev), 26 ≤ j.val ∧ j.val ≠ 39 ∧ s.dev.sending j = none ∧ d = s.dev.awaitAny j ∧ d.bestCopy j = none) ∧
    (∃ (j : Fin 40) (s : State), 26 ≤ j.val ∧ j.val ≠ 39 ∧ (s.dev.sending j).isSome = true) ∧
    (∃ (j : Fin 40) (s : State), j.val < 26) ∧
    (∃ (j : Fin 40) (n : Nat) (c : Copy) (s : State), ((s.dev.sending j).map (fun t => t.copy)).or ((s.dev.waiting j).find? (fun x => s.dev.arrived x)) = some
      c ∧ (s.dev.cellsOf c).any (fun x => x.n == n) = true) ∧
    (∃ (j : Fin 40) (n : Nat) (c : Copy) (s : State) (e : Ecc), ((s.dev.sending j).map (fun t => t.copy)).or ((s.dev.waiting j).find? (fun x => s.dev.arrived
      x)) = some c ∧ (s.dev.cellsOf c).any (fun x => x.n == n) = false) ∧
    (∃ (j : Fin 40) (u : Nat × Ecc) (s : State), s.dev.sending j = none ∧ (s.dev.waiting j).find? (fun x => s.dev.arrived x) = none) ∧
    (∃ (j : Fin 40) (sent : Nat) (x : TxFrame) (s : State), s.dev.fabSync.sending j = some x ∧ s.dev.fabSync.lacksCell j x = true) ∧
    (∃ (j : Fin 40) (sent : Nat) (s : State), ((s.dev.fabSync.sending j = none ∨ ∃ x, s.dev.fabSync.sending j = some x ∧ s.dev.fabSync.lacksCell j x =
      false))) ∧
    (∃ (w : Writer) (s : State), s.dev.mayWrite w 0xC0000 = true) :=
  ⟨⟨(stored1 [] (fr 0)).dev, 0, fr 0, fr 0, by decide +kernel⟩,
   ⟨((at0 []).on (fun d => { d with fab := { copies := [fr 0] } })).dev, 0, fr 0, by decide +kernel⟩,
   ⟨38, fr 38, stored1 [] (fr 38), _, by decide +kernel, by decide +kernel, by decide +kernel, rfl, by decide +kernel⟩,
   ⟨38, { fr 38 with ageLim := 0 }, (stored1 [] { fr 38 with ageLim := 0 }).on (fun d => { d with time := { tbs := [(0, { val := 2 ^ 42 })] } }), _,
     by decide +kernel, by decide +kernel, by decide +kernel, rfl, by decide +kernel⟩,
   ⟨38, fr 38, ((at0 []).on (fun d => { d with fab := { copies := [fr 38], slices := oneCell 0 (fr 38) } })), _, by decide +kernel, by decide +kernel,
     by decide +kernel, rfl, by decide +kernel⟩,
   ⟨38, { fr 38 with bad := true }, stored1 [] { fr 38 with bad := true }, _, by decide +kernel, by decide +kernel, by decide +kernel, rfl, by decide +kernel⟩,
   ⟨38, at0 [], _, by decide +kernel, by decide +kernel, by decide +kernel, rfl, by decide +kernel⟩,
   ⟨(38 : Fin 40), ((at0 []).on (fun d => { d with fab := { tx := [(38, ({ copy := { src := 0, dst := 38, cls := 0, bytes := [] } } : TxFrame))] } })),
     by decide +kernel⟩,
   ⟨(25 : Fin 40), (at0 []), by decide +kernel⟩,
   ⟨39, 0, fr 39, stored1 [] (fr 39), by decide +kernel⟩,
   ⟨39, 1, fr 39, stored1 [] (fr 39), .ce, by decide +kernel⟩,
   ⟨39, (0, .ue), at0 [], by decide +kernel⟩,
   ⟨39, 0, { copy := fr 39 }, ((at0 []).on (fun d => { d with fab := { tx := [(39, { copy := fr 39 })] } })), by decide +kernel⟩,
   ⟨39, 0, at0 [], Or.inl (by decide +kernel)⟩,
   ⟨Writer.bridle, (at0 []), by decide +kernel⟩⟩

theorem witness_SwitchMover :
    (∃ (c : Copy) (d : Dev) (s : State), s.dev.takeFrame 38 = (some c, d) ∧ c.mirror = true ∧ d.on R.SWM_CAP_CFG_EN = true) ∧
    (∃ (c : Copy) (d : Dev) (s : State), s.dev.takeFrame 38 = (some c, d) ∧ c.mirror = false ∧ c.mgmt = true) ∧
    (∃ (c : Copy) (d : Dev) (s : State), s.dev.takeFrame 38 = (some c, d) ∧ ((c.mirror = true ∧ d.on R.SWM_CAP_CFG_EN = false ∨ c.mirror = false ∧ c.mgmt =
      false))) ∧
    (∃ (d : Dev) (s : State), s.dev.takeFrame 38 = (none, d)) ∧
    (∃ (d : Dev) (j : Nat) (x y : TxFrame), d.sending j = some x ∧ d.fabSync.sending j = some y ∧ (d.fabSync.fab.stores.getD j []).any (fun e => !e.2.map &&
      e.2.id == x.copy.id && e.2.last) = true) ∧
    (∃ (c : Copy) (s : State), s.dev.get R.SWM_HRXR_CFG_COUNT = 0) ∧
    (∃ (c : Copy) (s : State), s.dev.get R.SWM_CAP_CFG_SIZE * 4096 < s.dev.get R.SWM_CAP_PTR_OFFSET + (captureBytes c).length ∧ s.dev.on R.SWM_CAP_CFG_WRAP =
      false) ∧
    (∃ (w : Writer) (v : W32) (s : State), Grants s w R.SWM_HTX_TAIL ∧ v.toNat < 2 ^ 11) ∧
    (∃ (s : State), ((s.dev.get R.SWM_HTXR_CFG_COUNT = 0 ∨ s.dev.get R.SWM_HTX_HEAD = s.dev.get R.SWM_HTX_TAIL))) ∧
    (∃ (s : State), s.dev.get R.SWM_HTXR_CFG_COUNT ≠ 0 ∧ s.dev.get R.SWM_HTX_HEAD ≠ s.dev.get R.SWM_HTX_TAIL) ∧
    (∃ (w : Writer) (s : State), Grants s w R.SWM_HTXR_CFG_COUNT) ∧
    (∃ (w : Writer) (s : State), Grants s w R.SWM_HRXR_CFG_COUNT) :=
  ⟨⟨((sends1 [(R.SWM_CAP_CFG_EN, 1)] 38 { copy := { fr 38 with mirror := true } }).dev.takeFrame 38).1.getD (fr 0), ((sends1 [(R.SWM_CAP_CFG_EN, 1)] 38
     { copy := { fr 38 with mirror := true } }).dev.takeFrame 38).2, (sends1 [(R.SWM_CAP_CFG_EN, 1)] 38 { copy := { fr 38 with mirror := true } }),
     by decide +kernel⟩,
   ⟨((sends1 [] 38 { copy := { fr 38 with mgmt := true } }).dev.takeFrame 38).1.getD (fr 0), ((sends1 [] 38
     { copy := { fr 38 with mgmt := true } }).dev.takeFrame 38).2, (sends1 [] 38 { copy := { fr 38 with mgmt := true } }), by decide +kernel⟩,
   ⟨((sends1 [] 38 { copy := fr 38 }).dev.takeFrame 38).1.getD (fr 0), ((sends1 [] 38 { copy := fr 38 }).dev.takeFrame 38).2, (sends1 [] 38
     { copy := fr 38 }), by decide +kernel⟩,
   ⟨((at0 []).dev.takeFrame 38).2, at0 [], by decide +kernel⟩,
   ⟨(sends1 [] 38 { copy := fr 38 }).dev, 38, { copy := fr 38 }, { copy := fr 38 }, by decide +kernel⟩,
   ⟨({ src := 0, dst := 0, cls := 0, bytes := [] } : Copy), (at0 [(R.SWM_HRXR_CFG_COUNT, 0)]), by decide +kernel⟩,
   ⟨({ src := 0, dst := 0, cls := 0, bytes := [] } : Copy), (at0 [(R.SWM_CAP_CFG_WRAP, 0), (R.SWM_CAP_CFG_SIZE, 0)]), by decide +kernel⟩,
   ⟨.pcie, 2047, owned [], by decide +kernel⟩,
   ⟨(at0 []), by decide +kernel⟩,
   ⟨(at0 [(R.SWM_HTXR_CFG_COUNT, 1), (R.SWM_HTX_TAIL, 1)]), by decide +kernel⟩,
   ⟨.pcie, owned [], by decide +kernel⟩,
   ⟨.pcie, owned [], by decide +kernel⟩⟩

theorem witness_PortReceive :
    (∃ (p : Fin 26) (k : MPacket) (l : List Byte) (err : Bool) (ph : Fin 8) (s : State), ((macMode (s.dev.portMode p) = false ∨ s.dev.linkUp p = false ∨ (16 ≤
      p.val ∧ p.val < 24 ∧ s.dev.get (R.RIDE_CFG_MODE p) ≠ 0)))) ∧
    (∃ (p : Fin 26) (l : List Byte) (err : Bool) (ph : Fin 8) (s : State), macMode (s.dev.portMode p) = true ∧ s.dev.linkUp p = true ∧ ((p.val < 16 ∨ 24 ≤
      p.val ∨ s.dev.get (R.RIDE_CFG_MODE p) = 0)) ∧ s.dev.pairOf p = none ∧ s.dev.on R.SW_STATUS_CFG_ACTIVE = false ∧ s.dev.host.record.mgmtPorts.testBit p =
      false) ∧
    (∃ (p : Fin 26) (l : List Byte) (err : Bool) (ph : Fin 8) (s : State) (a : Assy), macMode (s.dev.portMode p) = true ∧ s.dev.linkUp p = true ∧ ((p.val < 16
      ∨ 24 ≤ p.val ∨ s.dev.get (R.RIDE_CFG_MODE p) = 0)) ∧ Tab.find? s.dev.net.assy p = some a) ∧
    (∃ (p : Fin 26) (l : List Byte) (err : Bool) (ph : Fin 8) (s : State) (k : MPacket), macMode (s.dev.portMode p) = true ∧ s.dev.linkUp p = true ∧ ((p.val <
      16 ∨ 24 ≤ p.val ∨ s.dev.get (R.RIDE_CFG_MODE p) = 0)) ∧ ((k = .middle ∨ k = .last)) ∧ Tab.find? s.dev.net.assy p = none) ∧
    (∃ (p : Fin 26) (l : List Byte) (err : Bool) (ph : Fin 8) (s : State), macMode (s.dev.portMode p) = true ∧ s.dev.linkUp p = true ∧ ((p.val < 16 ∨ 24 ≤
      p.val ∨ s.dev.get (R.RIDE_CFG_MODE p) = 0)) ∧ s.dev.get (R.PREEMPT_STATUS_VERIFY p) = 2) ∧
    (∃ (p : Fin 26) (l : List Byte) (err : Bool) (ph : Fin 8) (s : State), macMode (s.dev.portMode p) = true ∧ s.dev.linkUp p = true ∧ ((p.val < 16 ∨ 24 ≤
      p.val ∨ s.dev.get (R.RIDE_CFG_MODE p) = 0)) ∧ s.dev.get (R.PREEMPT_STATUS_VERIFY p) ≠ 2) ∧
    (∃ (p : Fin 26) (l : List Byte) (err : Bool) (ph : Fin 8) (s : State) (on : Bool), macMode (s.dev.portMode p) = true ∧ s.dev.linkUp p = true ∧ ((p.val <
      16 ∨ 24 ≤ p.val ∨ s.dev.get (R.RIDE_CFG_MODE p) = 0)) ∧ p.val < 16) ∧
    (∃ (p : Fin 26) (l : List Byte) (err : Bool) (ph : Fin 8) (s : State) (on : Bool), macMode (s.dev.portMode p) = true ∧ s.dev.linkUp p = true ∧ ((p.val <
      16 ∨ 24 ≤ p.val ∨ s.dev.get (R.RIDE_CFG_MODE p) = 0)) ∧ 16 ≤ p.val) :=
  ⟨⟨25, .frame, [], false, 7, at0 [], by decide +kernel⟩,
   ⟨25, [], false, 7, at0 [(R.PORT_STATUS_LINK 25, 1), (R.PORT_CTRL_MODE 25, 7), (R.PORT_CTRL_EN 25, 1)], by decide +kernel⟩,
   ⟨25, [], false, 7, ((at0 [(R.PORT_STATUS_LINK 25, 1), (R.PORT_CTRL_MODE 25, 7), (R.PORT_CTRL_EN 25, 1)]).on (fun d =>
     { d with net := { assy := [(25, { bytes := [0] })] } })), { bytes := [0] }, by decide +kernel⟩,
   ⟨25, [], false, 7, at0 [(R.PORT_STATUS_LINK 25, 1), (R.PORT_CTRL_MODE 25, 7), (R.PORT_CTRL_EN 25, 1)], .last, by decide +kernel⟩,
   ⟨25, [], false, 7, at0 [(R.PORT_STATUS_LINK 25, 1), (R.PORT_CTRL_MODE 25, 7), (R.PORT_CTRL_EN 25, 1), (R.PREEMPT_STATUS_VERIFY 25, 2)], by decide +kernel⟩,
   ⟨25, [], false, 7, at0 [(R.PORT_STATUS_LINK 25, 1), (R.PORT_CTRL_MODE 25, 7), (R.PORT_CTRL_EN 25, 1)], by decide +kernel⟩,
   ⟨0, [], false, 7, at0 [(R.PORT_STATUS_LINK 0, 1), (R.PORT_CTRL_MODE 0, 4), (R.PORT_CTRL_EN 0, 1)], true, by decide +kernel⟩,
   ⟨25, [], false, 7, at0 [(R.PORT_STATUS_LINK 25, 1), (R.PORT_CTRL_MODE 25, 7), (R.PORT_CTRL_EN 25, 1)], true, by decide +kernel⟩⟩

theorem witness_PortTransmit :
    (∃ (p : Fin 26) (ph : Fin 8) (x : TxFrame) (s : State), s.dev.sending p = some x) ∧
    (∃ (p : Fin 26) (x y : TxFrame) (d e : Dev) (n : Nat), e = (d.passNs (x.start + d.wireNs p (x.wire.length - x.sent) - d.now)).fabSync ∧ e.sending p = some
      y ∧ e.missingCell p y = some n) ∧
    (∃ (p : Fin 26) (x y : TxFrame) (d e : Dev), e = (d.passNs (x.start + d.wireNs p (x.wire.length - x.sent) - d.now)).fabSync ∧ e.sending p = some y ∧
      e.missingCell p y = none ∧ y.sent = 0) ∧
    (∃ (p : Fin 26) (x y : TxFrame) (d e : Dev), e = (d.passNs (x.start + d.wireNs p (x.wire.length - x.sent) - d.now)).fabSync ∧ e.sending p = some y ∧
      e.missingCell p y = none ∧ y.sent ≠ 0) ∧
    (∃ (p : Fin 26) (ph : Fin 8) (s : State) (d : Dev) (x : TxFrame), s.dev.sending p = none ∧ d = s.dev.startPort p ph ∧ d.sending p = some x) ∧
    (∃ (p : Fin 26) (ph : Fin 8) (s : State) (d : Dev) (x : TxFrame), s.dev.sending p = none ∧ d = s.dev.startPort p ph ∧ d.sending p = none ∧ (d.resume
      p).sending p = some x) ∧
    (∃ (p : Fin 26) (ph : Fin 8) (s : State) (d : Dev), s.dev.sending p = none ∧ d = s.dev.startPort p ph ∧ d.sending p = none ∧ (d.resume p).sending p =
      none) ∧
    (∃ (p : Fin 26) (s : State), ((List.range 8).filterMap (fun q => (s.dev.queueHead p q).bind (fun c => s.dev.launchOf p c))).min? = none) ∧
    (∃ (p : Fin 26) (v : Nat) (s : State), ((List.range 8).filterMap (fun q => (s.dev.queueHead p q).bind (fun c => s.dev.launchOf p c))).min? = some v) ∧
    (∃ (d : Dev) (p : Nat) (off : Int) (c : Copy) (q : Nat) (x : Copy), d.pick p off = some c ∧ q < 8 ∧ c.cls < q ∧ d.queueHead p q = some x) :=
  ⟨⟨25, 7, { copy := fr 25 }, ((at0 []).on (fun d => { d with fab := { tx := [(25, { copy := fr 25 })] } })), by decide +kernel⟩,
   ⟨25, { copy := { fr 25 with bytes := [0] }, wire := List.replicate 64 0 }, { copy := { fr 25 with bytes := [0] }, wire := List.replicate 64 0 }, ((at0
     [(R.PORT_STATUS_LINK 25, 1), (R.PORT_CTRL_MODE 25, 7), (R.PORT_CTRL_EN 25, 1)]).on (fun d =>
     { d with fab := { tx := [(25, { copy := { fr 25 with bytes := [0] }, wire := List.replicate 64 0 })] } })).dev, _, 0, rfl, by decide +kernel⟩,
   ⟨25, { copy := fr 25 }, { copy := fr 25 }, ((at0 []).on (fun d => { d with fab := { tx := [(25, { copy := fr 25 })] } })).dev, _, rfl, by decide +kernel⟩,
   ⟨25, { copy := fr 25, sent := 60 }, { copy := fr 25, sent := 60 }, ((at0 []).on (fun d =>
     { d with fab := { tx := [(25, { copy := fr 25, sent := 60 })] } })).dev, _, rfl, by decide +kernel⟩,
   ⟨25, 0, stored1 [(R.PORT_STATUS_LINK 25, 1), (R.PORT_CTRL_MODE 25, 7), (R.PORT_CTRL_EN 25, 1)] (fr 25), _, (((stored1 [(R.PORT_STATUS_LINK 25, 1),
     (R.PORT_CTRL_MODE 25, 7), (R.PORT_CTRL_EN 25, 1)] (fr 25)).dev.startPort 25 0).sending 25).getD { copy := fr 0 }, by decide +kernel, rfl,
     by decide +kernel⟩,
   ⟨25, 0, ((at0 [(R.PORT_STATUS_LINK 25, 1), (R.PORT_CTRL_MODE 25, 7), (R.PORT_CTRL_EN 25, 1)]).on (fun d =>
     { d with fab := { paused := [(25, { copy := fr 25 })] } })), _, { copy := fr 25 }, by decide +kernel, rfl, by decide +kernel⟩,
   ⟨25, 0, at0 [(R.PORT_STATUS_LINK 25, 1), (R.PORT_CTRL_MODE 25, 7), (R.PORT_CTRL_EN 25, 1)], _, by decide +kernel, rfl, by decide +kernel⟩,
   ⟨(25 : Fin 26), (at0 []), by decide +kernel⟩,
   ⟨25, 5, stored1 [(R.PORT_STATUS_LINK 25, 1), (R.PORT_CTRL_MODE 25, 7), (R.PORT_CTRL_EN 25, 1), (R.TS_PORT_CFG_TX_EN 25, 1)]
     { fr 25 with ask := { launch := some 5 } }, by decide +kernel⟩,
   ⟨((at0 [(R.PORT_STATUS_LINK 25, 1), (R.PORT_CTRL_MODE 25, 7), (R.PORT_CTRL_EN 25, 1), (R.GATE_IDLE 25, 1)]).on (fun d =>
     { d with fab := { copies := [fr 25, { fr 25 with cls := 7, id := 1 }], stores := [(25, oneCell 0 (fr 25) ++ oneCell 0 { fr 25 with cls := 7, id := 1 })] } })).dev,
     25, 0, fr 25, 7, { fr 25 with cls := 7, id := 1 }, by decide +kernel⟩⟩

theorem witness_PortLinksAndTests :
    (∃ (w : Writer) (p : Fin 26) (s : State), Grants s w (R.PORT_CTRL_EN p)) ∧
    (∃ (p : Fin 26) (speed : Fin 4) (an : Bool) (s : State), s.dev.portMode p ≠ 0 ∧ s.dev.on (R.PORT_CTRL_EN p) = true ∧ ((s.dev.portMode p = 1 → s.dev.on
      (R.PORT_CTRL_AN_EN p) = true → an = true))) ∧
    (∃ (p : Fin 26) (speed : Fin 4) (an : Bool) (s : State), ((s.dev.portMode p = 0 ∨ s.dev.on (R.PORT_CTRL_EN p) = false))) ∧
    (∃ (d : Dev) (p : Nat), d.ride p = none ∧ Tab.find? d.net.assy p = none ∧ (d.fabSync.fin p).cur = none ∧ (d.fabSync.fin p).wait = []) ∧
    (∃ (d : Dev) (p : Nat) (g : FGroup) (c : Copy), d.ride p = none ∧ Tab.find? d.net.assy p = none ∧ g ∈ (d.fabSync.fin p).cur.toList ++ (d.fabSync.fin
      p).wait ∧ c ∈ (d.rxCut p).fab.copies ∧ c.id ∈ g.copies) ∧
    (∃ (w : Writer) (p : Fin 26) (s : State), Grants s w (R.PORT_CTRL_EN p) ∧ ((s.dev.portMode p = 1 ∨ s.dev.portMode p = 6)) ∧ s.dev.on (R.PORT_CTRL_AN_EN p)
      = true ∧ s.dev.on (R.PORT_CTRL_EN p) = true) ∧
    (∃ (w : Writer) (p : Fin 26) (s : State), Grants s w (R.PORT_CTRL_EN p) ∧ ((s.dev.portMode p ≠ 1 ∧ s.dev.portMode p ≠ 6 ∨ s.dev.on (R.PORT_CTRL_AN_EN p) =
      false ∨ s.dev.on (R.PORT_CTRL_EN p) = false))) ∧
    (∃ (p : Fin 26) (half : Bool) (s : State), s.dev.on (R.PORT_CTRL_EN p) = true ∧ ((s.dev.portMode p = 1 ∨ s.dev.portMode p = 6))) ∧
    (∃ (p : Fin 26) (half : Bool) (s : State), ((s.dev.on (R.PORT_CTRL_EN p) = false ∨ (s.dev.portMode p ≠ 1 ∧ s.dev.portMode p ≠ 6)))) ∧
    (∃ (w : Writer) (p : Fin 26) (s : State), Grants s w (R.PORT_CTRL_EN p)) ∧
    (∃ (p : Fin 26) (s : State), s.dev.get (R.PREEMPT_STATUS_VERIFY p) = 2) ∧
    (∃ (p : Fin 26) (s : State), s.dev.get (R.PREEMPT_STATUS_VERIFY p) ≠ 2) ∧
    (∃ (w : Writer) (p : Fin 26) (s : State), Grants s w (R.DIAG_CTRL_START p) ∧ phyPort p = true ∧ s.dev.on (R.DIAG_CTRL_BUSY p) = false ∧ s.dev.linkUp p =
      false) ∧
    (∃ (w : Writer) (p : Fin 26) (s : State), Grants s w (R.DIAG_CTRL_START p) ∧ phyPort p = true ∧ s.dev.on (R.DIAG_CTRL_BUSY p) = false ∧ s.dev.linkUp p =
      true) ∧
    (∃ (w : Writer) (p : Fin 26) (s : State), Grants s w (R.DIAG_CTRL_START p) ∧ ((phyPort p = false ∨ s.dev.on (R.DIAG_CTRL_BUSY p) = true))) ∧
    (∃ (p : Fin 26) (a b : BitVec 12) (s : State), ((phyPort p = false ∨ s.dev.on (R.DIAG_CTRL_BUSY p) = false))) ∧
    (∃ (p : Fin 26) (a b : BitVec 12) (s : State), phyPort p = true ∧ s.dev.on (R.DIAG_CTRL_BUSY p) = true) ∧
    (∃ (w : Writer) (v : W32) (s : State), Grants s w R.MDIO_CMD_GO ∧ v.getLsbD 31 = true ∧ s.dev.on R.MDIO_CMD_BUSY = false ∧ mdioBad (v.getLsbD 30) (v.toNat
      / 2 ^ 28 % 4) = false ∧ v.getLsbD 17 = false) ∧
    (∃ (w : Writer) (v : W32) (s : State), Grants s w R.MDIO_CMD_GO ∧ v.getLsbD 31 = true ∧ s.dev.on R.MDIO_CMD_BUSY = true) ∧
    (∃ (w : Writer) (v : W32) (s : State), Grants s w R.MDIO_CMD_GO ∧ s.dev.on R.MDIO_CMD_BUSY = false ∧ ((v.getLsbD 31 = false ∨ mdioBad (v.getLsbD 30)
      (v.toNat / 2 ^ 28 % 4) = true ∧ mdioBad (v.getLsbD 30) (s.dev.get R.MDIO_CMD_OP) = true))) ∧
    (∃ (data : BitVec 16) (s : State), s.dev.on R.MDIO_CMD_BUSY = false) ∧
    (∃ (data : BitVec 16) (s : State), s.dev.on R.MDIO_CMD_BUSY = true) :=
  ⟨⟨Writer.bridle, (25 : Fin 26), (at0 [(R.PORT_STATUS_LINK 25, 1), (R.PORT_CTRL_MODE 25, 1), (R.PORT_CTRL_EN 25, 1)]), by decide +kernel⟩,
   ⟨(25 : Fin 26), (3 : Fin 4), false, (at0 [(R.PORT_CTRL_EN (25 : Fin 26), 1), (R.PORT_CTRL_AN_EN (25 : Fin 26), 1), (R.PORT_CTRL_EN 25, 1),
     (R.PORT_CTRL_MODE 25, 7)]), by decide +kernel⟩,
   ⟨(25 : Fin 26), (3 : Fin 4), false, (at0 [(R.PORT_CTRL_EN 25, 0)]), by decide +kernel⟩,
   ⟨(at0 []).dev, 0, by decide +kernel⟩,
   ⟨((at0 []).on (fun d => { d with fab := { copies := [fr 1], ins := [(0, { cur := some { copies := [0], cells := 2, start := 0, gap := 1 } })] } })).dev, 0,
     { copies := [0], cells := 2, start := 0, gap := 1 }, ((((at0 []).on (fun d =>
     { d with fab := { copies := [fr 1], ins := [(0, { cur := some { copies := [0], cells := 2, start := 0, gap := 1 } })] } })).dev.rxCut
     0).fab.copies).headD (fr 0), by decide +kernel⟩,
   ⟨Writer.bridle, (25 : Fin 26), (at0 [(R.PORT_CTRL_AN_EN (25 : Fin 26), 1), (R.PORT_CTRL_EN (25 : Fin 26), 1), (R.PORT_STATUS_LINK 25, 1), (R.PORT_CTRL_MODE
     25, 1), (R.PORT_CTRL_EN 25, 1)]), by decide +kernel⟩,
   ⟨.bridle, 25, at0 [], by decide +kernel⟩,
   ⟨(25 : Fin 26), false, (at0 [(R.PORT_CTRL_EN (25 : Fin 26), 1), (R.PORT_STATUS_LINK 25, 1), (R.PORT_CTRL_MODE 25, 1), (R.PORT_CTRL_EN 25, 1)]),
     by decide +kernel⟩,
   ⟨25, false, at0 [], by decide +kernel⟩,
   ⟨Writer.bridle, (25 : Fin 26), (at0 [(R.PORT_STATUS_LINK 25, 1), (R.PORT_CTRL_MODE 25, 1), (R.PORT_CTRL_EN 25, 1)]), by decide +kernel⟩,
   ⟨(25 : Fin 26), (at0 [(R.PREEMPT_STATUS_VERIFY (25 : Fin 26), 2), (R.PORT_STATUS_LINK 25, 1), (R.PORT_CTRL_MODE 25, 1), (R.PORT_CTRL_EN 25, 1)]),
     by decide +kernel⟩,
   ⟨(25 : Fin 26), (at0 [(R.PREEMPT_STATUS_VERIFY (25 : Fin 26), 0), (R.PORT_STATUS_LINK 25, 1), (R.PORT_CTRL_MODE 25, 1), (R.PORT_CTRL_EN 25, 1)]),
     by decide +kernel⟩,
   ⟨.bridle, 23, at0 [], by decide +kernel⟩,
   ⟨.bridle, 23, at0 [(R.PORT_STATUS_LINK 23, 1), (R.PORT_CTRL_MODE 23, 6), (R.PORT_CTRL_EN 23, 1)], by decide +kernel⟩,
   ⟨.bridle, 25, at0 [], by decide +kernel⟩,
   ⟨25, 0, 0, at0 [], by decide +kernel⟩,
   ⟨23, 0, 0, at0 [(R.DIAG_CTRL_BUSY 23, 1)], by decide +kernel⟩,
   ⟨Writer.bridle, (0xA0000000 : W32), (at0 [(R.MDIO_CMD_BUSY, 0), (R.PORT_STATUS_LINK 25, 1), (R.PORT_CTRL_MODE 25, 1), (R.PORT_CTRL_EN 25, 1)]),
     by decide +kernel⟩,
   ⟨Writer.bridle, (0x80000000 : W32), (at0 [(R.MDIO_CMD_BUSY, 1), (R.PORT_STATUS_LINK 25, 1), (R.PORT_CTRL_MODE 25, 1), (R.PORT_CTRL_EN 25, 1)]),
     by decide +kernel⟩,
   ⟨.bridle, 0, at0 [], by decide +kernel⟩,
   ⟨0, at0 [], by decide +kernel⟩,
   ⟨(0 : BitVec 16), (at0 [(R.MDIO_CMD_BUSY, 1), (R.PORT_STATUS_LINK 25, 1), (R.PORT_CTRL_MODE 25, 1), (R.PORT_CTRL_EN 25, 1)]), by decide +kernel⟩⟩

theorem witness_GateControl :
    (∃ (w : Writer) (p : Fin 26) (s : State), Grants s w (R.GATE_CTRL_EN p) ∧ s.dev.on (R.GATE_CTRL_EN p) = false) ∧
    (∃ (d : Dev) (p : Nat), d.now < d.net.gateAt.getD p 0) ∧
    (∃ (w : Writer) (p : Fin 26) (s : State), Grants s w (R.GATE_CTRL_EN p)) ∧
    (∃ (w : Writer) (p : Fin 26) (s : State), Grants s w (R.GATE_CTRL_EN p) ∧ s.dev.on (R.GATE_CTRL_EN p) = true ∧ s.dev.on (R.GATE_STATUS_ARMED p) = false) ∧
    (∃ (w : Writer) (p : Fin 26) (s : State), Grants s w (R.GATE_CTRL_EN p) ∧ s.dev.on (R.GATE_CTRL_EN p) = false) ∧
    (∃ (p : Fin 26) (s : State), s.dev.on (R.GATE_STATUS_ARMED p) = true) ∧
    (∃ (p : Fin 26) (s : State), s.dev.on (R.GATE_STATUS_ARMED p) = false) ∧
    (∃ (p : Fin 26) (e : GateStep) (r : List GateStep) (s : State), s.dev.gateNow p = some (e :: r)) ∧
    (∃ (p : Fin 26) (s : State), s.dev.gateNow p = none ∧ s.dev.on (R.GATE_CTRL_EN p) = true) ∧
    (∃ (p : Fin 26) (s : State), s.dev.gateNow p = none ∧ s.dev.on (R.GATE_CTRL_EN p) = false) ∧
    (∃ (d : Dev) (p : Nat), d.sending p = none) ∧
    (∃ (w : Writer) (p : Fin 26) (v : W32) (s : State), Grants s w (R.GCL_DATA p) ∧ v.toNat / 2 ^ 30 ≠ 3 ∧ 4 ≤ v.toNat % 2 ^ 22 ∧ ((s.dev.on (R.GATE_CTRL_EN
      p) = true → s.dev.get (R.GCL_ADDR_LIST p) ≠ s.dev.get (R.GATE_STATUS_OPER p) ∧ s.dev.on (R.GATE_STATUS_ARMED p) = false))) ∧
    (∃ (w : Writer) (p : Fin 26) (v : W32) (s : State), Grants s w (R.GCL_DATA p) ∧ s.dev.on (R.GATE_CTRL_EN p) = true ∧ ((s.dev.get (R.GCL_ADDR_LIST p) =
      s.dev.get (R.GATE_STATUS_OPER p) ∨ s.dev.on (R.GATE_STATUS_ARMED p) = true))) :=
  ⟨⟨Writer.bridle, (25 : Fin 26), (at0 [(R.GATE_CTRL_EN (25 : Fin 26), 0)]), by decide +kernel⟩,
   ⟨((at0 []).on (fun d => { d with net := { gateAt := [(25, 1)] } })).dev, 25, by decide +kernel⟩,
   ⟨Writer.bridle, (25 : Fin 26), (at0 []), by decide +kernel⟩,
   ⟨Writer.bridle, (25 : Fin 26), (at0 [(R.GATE_CTRL_EN (25 : Fin 26), 1), (R.GATE_STATUS_ARMED (25 : Fin 26), 0)]), by decide +kernel⟩,
   ⟨Writer.bridle, (25 : Fin 26), (at0 [(R.GATE_CTRL_EN (25 : Fin 26), 0)]), by decide +kernel⟩,
   ⟨(25 : Fin 26), (at0 [(R.GATE_STATUS_ARMED (25 : Fin 26), 1)]), by decide +kernel⟩,
   ⟨(25 : Fin 26), (at0 [(R.GATE_STATUS_ARMED (25 : Fin 26), 0)]), by decide +kernel⟩,
   ⟨(25 : Fin 26), (GateStep.mk 0 100 1 0), [(GateStep.mk 0 0 1 0)], ((at0 [(R.GATE_CTRL_EN 25, 1), (R.GCL_LEN 25 0, 1), (R.GCL_CYCLE 25 0, 100)]).on (fun d
     => { d with net := { gcl := [(gclKey 25 0 0, 0x40000A)] } })), by decide +kernel⟩,
   ⟨25, ((at0 [(R.GATE_CTRL_EN 25, 1)]).on (fun d => { d with net := { gateAt := [(25, 1)] } })), by decide +kernel⟩,
   ⟨(25 : Fin 26), (at0 [(R.GATE_CTRL_EN (25 : Fin 26), 0)]), by decide +kernel⟩,
   ⟨(at0 []).dev, 0, by decide +kernel⟩,
   ⟨Writer.bridle, (25 : Fin 26), (4 : W32), (at0 [(R.GATE_CTRL_EN (25 : Fin 26), 1), (R.GATE_STATUS_ARMED (25 : Fin 26), 0), (R.GCL_ADDR_LIST 25, 1)]),
     by decide +kernel⟩,
   ⟨Writer.bridle, (25 : Fin 26), (0 : W32), (at0 [(R.GATE_CTRL_EN (25 : Fin 26), 1)]), by decide +kernel⟩⟩

theorem witness_EeeStreamsAndRides :
    (∃ (p : Fin 26) (s : State), s.dev.on (R.EEE_CFG_EN p) = true ∧ 16 ≤ p.val ∧ s.dev.rideOutput p = false ∧ s.dev.on (R.PORT_STATUS_LPI_TX p) = false ∧
      s.dev.queued p = false ∧ s.dev.sending p = none ∧ ((∀ n, s.dev.nextOpening p = some n → s.dev.get (R.EEE_TS p) + s.dev.get (R.EEE_TW p) < n))) ∧
    (∃ (p : Fin 26) (s : State), ((s.dev.on (R.EEE_CFG_EN p) = false ∨ p.val < 16 ∨ s.dev.rideOutput p = true ∨ s.dev.on (R.PORT_STATUS_LPI_TX p) = true ∨
      s.dev.queued p = true ∨ (s.dev.sending p).isSome = true ∨ ∃ n, s.dev.nextOpening p = some n ∧ n ≤ s.dev.get (R.EEE_TS p) + s.dev.get (R.EEE_TW p)))) ∧
    (∃ (p : Fin 26) (s : State), s.dev.on (R.PORT_STATUS_LPI_TX p) = true ∧ ((s.dev.queued p = true ∨ s.dev.nextOpening p = none))) ∧
    (∃ (p : Fin 26) (n : Nat) (s : State), s.dev.on (R.PORT_STATUS_LPI_TX p) = true ∧ s.dev.queued p = false ∧ s.dev.nextOpening p = some n) ∧
    (∃ (p : Fin 26) (s : State), s.dev.on (R.PORT_STATUS_LPI_TX p) = false) ∧
    (∃ (n : Fin 128) (s : State), 2 ≤ s.dev.get (R.STREAM_CFG_FUNC n)) ∧
    (∃ (n : Fin 128) (s : State), s.dev.get (R.STREAM_CFG_FUNC n) < 2) ∧
    (∃ (k : Fin 8) (e : Nat × Nat) (r : List (Nat × Nat)) (s : State), s.dev.net.dup.getD k [] = e :: r) ∧
    (∃ (p : Fin 26) (bs : List Byte) (n : Nat) (l err : Bool) (ph : Fin 8) (s : State), ((p.val < 16 ∨ 24 ≤ p.val ∨ s.dev.get (R.RIDE_CFG_MODE p) = 0 ∨
      s.dev.get (R.RIDE_CFG_MODE p) = 3 ∨ s.dev.linkUp p = false))) ∧
    (∃ (p : Fin 26) (bs : List Byte) (n : Nat) (err : Bool) (ph : Fin 8) (s : State), 16 ≤ p.val ∧ p.val < 24 ∧ s.dev.get (R.RIDE_CFG_MODE p) ≠ 0 ∧ s.dev.get
      (R.RIDE_CFG_MODE p) ≠ 3 ∧ s.dev.linkUp p = true) ∧
    (∃ (p : Fin 26) (bs : List Byte) (n : Nat) (err : Bool) (ph : Fin 8) (s : State), 16 ≤ p.val ∧ p.val < 24 ∧ s.dev.get (R.RIDE_CFG_MODE p) = 2 ∧
      s.dev.linkUp p = true) ∧
    (∃ (e : Fin 48) (v : W32) (s : State), (s.dev.editPort (e.val / 4)).bind (fun p => s.dev.ride p) = none) ∧
    (∃ (e : Fin 48) (v : W32) (p : Nat) (x : Ride) (s : State), s.dev.editPort (e.val / 4) = some p ∧ s.dev.ride p = some x ∧ x.tx.length + 4 ≤ v.toNat % 2 ^
      14) ∧
    (∃ (e : Fin 48) (v : W32) (p : Nat) (x : Ride) (s : State), s.dev.editPort (e.val / 4) = some p ∧ s.dev.ride p = some x ∧ v.toNat % 2 ^ 14 < x.tx.length +
      4) :=
  ⟨⟨25, (at0 [(R.EEE_CFG_EN 25, 1)]), by decide +kernel, by decide +kernel, by decide +kernel, by decide +kernel, by decide +kernel, by decide +kernel, fun _
     h => nomatch (show (at0 [(R.EEE_CFG_EN 25, 1)]).dev.nextOpening 25 = none by decide +kernel).symm.trans h⟩,
   ⟨0, at0 [], Or.inl (by decide +kernel)⟩,
   ⟨25, at0 [(R.PORT_STATUS_LPI_TX 25, 1)], by decide +kernel⟩,
   ⟨25, (((at0 [(R.PORT_STATUS_LPI_TX 25, 1), (R.GATE_IDLE 25, 0), (R.GATE_CTRL_EN 25, 1), (R.GCL_LEN 25 0, 1), (R.GCL_CYCLE 25 0, 1000000)]).on (fun d =>
     { d with net := { gcl := [(gclKey 25 0 0, 0x3FC3D090)], gateAt := [(25, 1)] } })).dev.nextOpening 25).getD 0, ((at0 [(R.PORT_STATUS_LPI_TX 25, 1),
     (R.GATE_IDLE 25, 0), (R.GATE_CTRL_EN 25, 1), (R.GCL_LEN 25 0, 1), (R.GCL_CYCLE 25 0, 1000000)]).on (fun d =>
     { d with net := { gcl := [(gclKey 25 0 0, 0x3FC3D090)], gateAt := [(25, 1)] } })), by decide +kernel⟩,
   ⟨(25 : Fin 26), (at0 [(R.PORT_STATUS_LPI_TX (25 : Fin 26), 0)]), by decide +kernel⟩,
   ⟨(127 : Fin 128), (at0 [(R.STREAM_CFG_FUNC 127, 2)]), by decide +kernel⟩,
   ⟨(127 : Fin 128), (at0 []), by decide +kernel⟩,
   ⟨(7 : Fin 8), (0, 0), ([] : List (Nat × Nat)), ((at0 []).on (fun d => { d with net := { dup := [(7, [(0, 0)])] } })), by decide +kernel⟩,
   ⟨25, [], 0, false, false, 7, at0 [], by decide +kernel⟩,
   ⟨23, [], 0, false, 7, at0 [(R.RIDE_CFG_MODE 23, 1), (R.PORT_STATUS_LINK 23, 1)], by decide +kernel⟩,
   ⟨23, [], 0, false, 7, at0 [(R.RIDE_CFG_MODE 23, 2), (R.PORT_STATUS_LINK 23, 1)], by decide +kernel⟩,
   ⟨47, 0, at0 [], by decide +kernel⟩,
   ⟨(47 : Fin 48), (4 : W32), 23, ({} : Ride), ((at0 [(R.RIDE_CFG_MODE 23, 1), (R.RIDE_CFG_TEAM 23, 11)]).on (fun d =>
     { d with net := { rides := [(23, {})] } })), by decide +kernel⟩,
   ⟨(47 : Fin 48), (3 : W32), 23, ({} : Ride), ((at0 [(R.RIDE_CFG_MODE 23, 1), (R.RIDE_CFG_TEAM 23, 11)]).on (fun d =>
     { d with net := { rides := [(23, {})] } })), by decide +kernel⟩⟩

theorem witness_HarnessDelay :
    (∃ (p : Fin 16) (k : Fin 8) (s : State), s.dev.measures p = true) ∧
    (∃ (p : Fin 16) (node sq : BitVec 16) (k k3 : Fin 8) (gap : Fin 65536) (s : State), s.dev.hn.active = true ∧ s.dev.linkUp p = true ∧ s.dev.role p = 3) ∧
    (∃ (p : Fin 16) (node sq : BitVec 16) (k k3 : Fin 8) (gap : Fin 65536) (s : State), ((s.dev.hn.active = false ∨ s.dev.linkUp p = false ∨ s.dev.role p ≠
      3))) ∧
    (∃ (p : Fin 16) (v : BitVec 48) (s : State), s.dev.measures p = true) ∧
    (∃ (p : Fin 16) (v : BitVec 48) (k : Fin 8) (t1 t2 : Nat) (s : State), s.dev.measures p = true ∧ (s.dev.hlane p).t1 = some t1 ∧ (s.dev.hlane p).t2 = some
      t2) ∧
    (∃ (p : Fin 16) (v : BitVec 48) (k : Fin 8) (s : State), (((s.dev.hlane p).t1 = none ∨ (s.dev.hlane p).t2 = none))) ∧
    (∃ (p : Fin 16) (v : BitVec 48) (k : Fin 8) (s : State), s.dev.measures p = false) :=
  ⟨⟨(15 : Fin 16), (7 : Fin 8), ((at0 [(R.PORT_CTRL_MODE 15, 5), (R.HN_LANE_CFG_ROLE 15, 1), (R.PORT_STATUS_LINK 15, 1)]).on (fun d =>
     { d with hn := { active := true } })), by decide +kernel⟩,
   ⟨(15 : Fin 16), (0 : BitVec 16), (0 : BitVec 16), (7 : Fin 8), (7 : Fin 8), (65535 : Fin 65536), ((at0 [(R.PORT_CTRL_MODE 15, 5), (R.HN_LANE_CFG_ROLE 15,
     3), (R.PORT_STATUS_LINK 15, 1)]).on (fun d => { d with hn := { active := true } })), by decide +kernel⟩,
   ⟨15, 0, 0, 7, 7, 65535, at0 [], by decide +kernel⟩,
   ⟨(15 : Fin 16), (0 : BitVec 48), ((at0 [(R.PORT_CTRL_MODE 15, 5), (R.HN_LANE_CFG_ROLE 15, 2), (R.PORT_STATUS_LINK 15, 1)]).on (fun d =>
     { d with hn := { active := true } })), by decide +kernel⟩,
   ⟨(15 : Fin 16), (0 : BitVec 48), (7 : Fin 8), 0, 0, ((at0 [(R.PORT_CTRL_MODE 15, 5), (R.HN_LANE_CFG_ROLE 15, 1), (R.PORT_STATUS_LINK 15, 1)]).on (fun d =>
     { d with hn := { active := true, lanes := [(15, { t1 := some 0, t2 := some 0 })] } })), by decide +kernel⟩,
   ⟨(15 : Fin 16), (0 : BitVec 48), (7 : Fin 8), (at0 []), by decide +kernel⟩,
   ⟨(15 : Fin 16), (0 : BitVec 48), (7 : Fin 8), (at0 []), by decide +kernel⟩⟩

theorem witness_HarnessSlots :
    (∃ (down : Bool) (i : Fin 4096) (x : HnSlot) (s : State), (if down then s.dev.hn.down else s.dev.hn.up)[i.val]? = some x ∧ s.dev.hn.active = true ∧
      x.owner = s.dev.get R.HN_CTRL_NODE_ID ∧ s.dev.slotActive x s.dev.stride.last = true ∧ ((if down then s.dev.get R.HN_STATUS_STAR_STATE = 3 else
      (s.dev.get R.HN_STATUS_UP_STATE = 4 ∨ s.dev.get R.HN_STATUS_UP_STATE = 5) ∧ s.dev.hn.fresh = false))) ∧
    (∃ (down : Bool) (i : Fin 4096) (x : HnSlot) (s : State), (if down then s.dev.hn.down else s.dev.hn.up)[i.val]? = some x ∧ ((x.owner ≠ s.dev.get
      R.HN_CTRL_NODE_ID ∨ s.dev.slotActive x s.dev.stride.last = false ∨ (down = true ∧ s.dev.get R.HN_STATUS_STAR_STATE ≠ 3) ∨ (down = false ∧ (s.dev.get
      R.HN_STATUS_UP_STATE ≠ 4 ∧ s.dev.get R.HN_STATUS_UP_STATE ≠ 5 ∨ s.dev.hn.fresh = true))))) ∧
    (∃ (down : Bool) (i : Fin 4096) (s : State), (((if down then s.dev.hn.down else s.dev.hn.up)[i.val]? = none ∨ s.dev.hn.active = false))) ∧
    (∃ (d e : Dev) (down : Bool) (i p : Nat) (x : HnSlot), e = ((d.passTo (d.get R.HN_CTRL_TB) (d.launchTime down x p * 2 ^ 24)).fabSync).hnPurge p ∧
      e.hnQueued p i = none) ∧
    (∃ (d e : Dev) (down : Bool) (i p : Nat) (x : HnSlot) (c : Copy), e = ((d.passTo (d.get R.HN_CTRL_TB) (d.launchTime down x p * 2 ^ 24)).fabSync).hnPurge p
      ∧ e.hnQueued p i = some c) ∧
    (∃ (d : Dev) (table : List HnSlot) (i time : Nat) (x : HnSlot), i < 4096 ∧ table[i]? = some x ∧ x.owner = d.get R.HN_CTRL_NODE_ID) ∧
    (∃ (s : State), s.dev.hn.active = true ∧ s.dev.get R.HN_STATUS_UP_STATE = 2) ∧
    (∃ (s : State), ((s.dev.hn.active = false ∨ s.dev.get R.HN_STATUS_UP_STATE ≠ 2))) ∧
    (∃ (s : State), s.dev.hn.active = true ∧ s.dev.isStar = true) ∧
    (∃ (s : State), ((s.dev.hn.active = false ∨ s.dev.isStar = false))) ∧
    (∃ (p : Fin 16) (v : BitVec 48) (s : State), ((s.dev.hn.active = false ∨ s.dev.role p ≠ 4 ∨ s.dev.linkUp p = false ∨ s.dev.get R.HN_STATUS_STAR_STATE = 3
      ∨ v.toNat = tableHash s.dev.hn.down ∧ s.dev.get R.HN_STATUS_UP_STATE ≠ 4))) ∧
    (∃ (p : Fin 16) (v : BitVec 48) (s : State), s.dev.hn.active = true ∧ s.dev.role p = 4 ∧ s.dev.linkUp p = true ∧ s.dev.get R.HN_STATUS_STAR_STATE ≠ 3 ∧
      v.toNat ≠ tableHash s.dev.hn.down) ∧
    (∃ (p : Fin 16) (v : BitVec 48) (s : State), s.dev.hn.active = true ∧ s.dev.role p = 4 ∧ s.dev.linkUp p = true ∧ s.dev.get R.HN_STATUS_STAR_STATE ≠ 3 ∧
      v.toNat = tableHash s.dev.hn.down ∧ s.dev.get R.HN_STATUS_UP_STATE = 4) ∧
    (∃ (p : Fin 16) (v : BitVec 48) (s : State), s.dev.measures p = true) ∧
    (∃ (i : Fin 4096) (x : HnSlot) (p : Nat) (s : State), s.dev.hn.down[i.val]? = some x ∧ s.dev.hn.active = true ∧ ((s.dev.get R.HN_STATUS_STAR_STATE = 3 ∨
      s.dev.get R.HN_STATUS_STAR_STATE = 4)) ∧ (s.dev.lanesOf [3]).find? (fun q => (s.dev.hlane q).known && s.dev.get (R.HN_LANE_STATUS_MEMBER_ID q) ==
      x.owner && !s.dev.on (R.HN_LANE_STATUS_DUP_ID q)) = some p ∧ Tab.find? s.dev.hn.arrivals i = none) ∧
    (∃ (i : Fin 4096) (s : State), s.dev.hn.down[i.val]? = none) ∧
    (∃ (d : Dev) (p : Nat), p < 16 ∧ d.get (R.HN_LANE_STATUS_CUT_RUN p) = 2 ∧ d.on (R.HN_LANE_STATUS_ISOLATED p) = false) ∧
    (∃ (d : Dev) (p : Nat), p < 16 ∧ d.on (R.HN_LANE_STATUS_ISOLATED p) = true ∧ (d.hlane p).good = 0) :=
  ⟨⟨true, (0 : Fin 4096), ({ start := 0, len := 100, owner := 0, gait := 0, cmd := false, sleep := false, phase := 0 } : HnSlot), ((at0 [(R.GAIT_DIV_DIV 0,
     1), (R.HN_STATUS_STAR_STATE, 3)]).on (fun d =>
     { d with hn := { active := true, down := [({ start := 0, len := 100, owner := 0, gait := 0, cmd := false, sleep := false, phase := 0 } : HnSlot)] } })),
     by decide +kernel⟩,
   ⟨true, 0, { owner := 1 }, ((at0 []).on (fun d => { d with hn := { active := true, down := [{ owner := 1 }] } })), by decide +kernel⟩,
   ⟨false, (4095 : Fin 4096), (at0 []), by decide +kernel⟩,
   ⟨(at0 []).dev, _, true, 0, 0, {}, rfl, by decide +kernel⟩,
   ⟨(stored1 [] { fr 15 with src := 26, bytes := [0x11] }).dev, _, true, 0, 15, {}, { fr 15 with src := 26, bytes := [0x11] }, rfl, by decide +kernel⟩,
   ⟨(at0 []).dev, [({ start := 0, len := 100, owner := 0, gait := 0, cmd := false, sleep := false, phase := 0 } : HnSlot)], 0, 0,
     ({ start := 0, len := 100, owner := 0, gait := 0, cmd := false, sleep := false, phase := 0 } : HnSlot), by decide +kernel⟩,
   ⟨((at0 [(R.HN_STATUS_UP_STATE, 2)]).on (fun d => { d with hn := { active := true } })), by decide +kernel⟩,
   ⟨(at0 []), by decide +kernel⟩,
   ⟨((at0 [(R.PORT_CTRL_MODE 15, 5), (R.HN_LANE_CFG_ROLE 15, 3), (R.PORT_STATUS_LINK 15, 1)]).on (fun d => { d with hn := { active := true } })),
     by decide +kernel⟩,
   ⟨at0 [], by decide +kernel⟩,
   ⟨15, 0, at0 [], by decide +kernel⟩,
   ⟨(15 : Fin 16), (1 : BitVec 48), ((at0 [(R.HN_STATUS_STAR_STATE, 0), (R.PORT_CTRL_MODE 15, 5), (R.HN_LANE_CFG_ROLE 15, 4), (R.PORT_STATUS_LINK 15, 1)]).on
     (fun d => { d with hn := { active := true } })), by decide +kernel⟩,
   ⟨(15 : Fin 16), (BitVec.ofNat 48 (tableHash [])), ((at0 [(R.HN_STATUS_STAR_STATE, 0), (R.HN_STATUS_UP_STATE, 4), (R.PORT_CTRL_MODE 15, 5),
     (R.HN_LANE_CFG_ROLE 15, 4), (R.PORT_STATUS_LINK 15, 1)]).on (fun d => { d with hn := { active := true } })), by decide +kernel⟩,
   ⟨(15 : Fin 16), (0 : BitVec 48), ((at0 [(R.PORT_CTRL_MODE 15, 5), (R.HN_LANE_CFG_ROLE 15, 1), (R.PORT_STATUS_LINK 15, 1)]).on (fun d =>
     { d with hn := { active := true } })), by decide +kernel⟩,
   ⟨(0 : Fin 4096), ({ owner := 1 } : HnSlot), 15, ((at0 [(R.PORT_CTRL_MODE 15, 5), (R.HN_LANE_CFG_ROLE 15, 3), (R.PORT_STATUS_LINK 15, 1),
     (R.HN_STATUS_STAR_STATE, 3), (R.HN_LANE_STATUS_MEMBER_ID 15, 1)]).on (fun d =>
     { d with hn := { active := true, down := [{ owner := 1 }], lanes := [(15, { known := true })] } })), by decide +kernel⟩,
   ⟨(4095 : Fin 4096), (at0 []), by decide +kernel⟩,
   ⟨(at0 [(R.HN_LANE_STATUS_CUT_RUN 0, 2), (R.HN_LANE_STATUS_ISOLATED 0, 0)]).dev, 0, by decide +kernel⟩,
   ⟨(at0 [(R.HN_LANE_STATUS_ISOLATED 0, 1)]).dev, 0, by decide +kernel⟩⟩

theorem witness_HarnessRelay :
    (∃ (p : Fin 16) (l : List Byte) (a : Int) (s : State), ((s.dev.hn.active = false ∨ s.dev.role p = 0 ∨ s.dev.linkUp p = false))) ∧
    (∃ (p : Fin 16) (l : List Byte) (a : Int) (s : State), s.dev.hn.active = true ∧ s.dev.role p ≠ 0 ∧ s.dev.role p ≠ 3 ∧ s.dev.linkUp p = true ∧ hnGood
      (s.dev.tableOf p) l = false) ∧
    (∃ (p : Fin 16) (l : List Byte) (a : Int) (s : State), s.dev.hn.active = true ∧ s.dev.role p ≠ 0 ∧ s.dev.role p ≠ 3 ∧ s.dev.linkUp p = true ∧ hnGood
      (s.dev.tableOf p) l = true ∧ s.dev.followed ≠ some p.val) ∧
    (∃ (p : Fin 16) (l : List Byte) (a : Int) (s : State), s.dev.hn.active = true ∧ s.dev.role p ≠ 0 ∧ s.dev.role p ≠ 3 ∧ s.dev.linkUp p = true ∧ hnGood
      (s.dev.tableOf p) l = true ∧ s.dev.followed = some p.val) ∧
    (∃ (p : Fin 16) (l : List Byte) (a : Int) (s : State), s.dev.hn.active = true ∧ s.dev.role p = 3 ∧ s.dev.linkUp p = true ∧ s.dev.on
      (R.HN_LANE_STATUS_DUP_ID p) = true) ∧
    (∃ (p : Fin 16) (l : List Byte) (a : Int) (e : Int × Nat × HnSlot) (s : State), s.dev.hn.active = true ∧ s.dev.role p = 3 ∧ s.dev.linkUp p = true ∧
      s.dev.on (R.HN_LANE_STATUS_DUP_ID p) = false ∧ hnType l ≠ 2 ∧ s.dev.get R.HN_STATUS_STAR_STATE = 3 ∧ (s.dev.hlane p).known = true ∧ s.dev.windowSlot
      (s.dev.get (R.HN_LANE_STATUS_MEMBER_ID p)) a = some e) ∧
    (∃ (p : Fin 16) (l : List Byte) (a : Int) (s : State), s.dev.hn.active = true ∧ s.dev.role p = 3 ∧ s.dev.linkUp p = true ∧ s.dev.on
      (R.HN_LANE_STATUS_DUP_ID p) = false ∧ hnType l ≠ 2 ∧ ((s.dev.get R.HN_STATUS_STAR_STATE = 3 ∨ s.dev.get R.HN_STATUS_STAR_STATE = 4)) ∧ (s.dev.hlane
      p).known = false) ∧
    (∃ (p : Nat) (l : List Byte) (a : Int) (e : Int × Nat × HnSlot) (s : State), s.dev.on (R.HN_LANE_STATUS_ISOLATED p) = true) ∧
    (∃ (p : Nat) (l : List Byte) (a : Int) (e : Int × Nat × HnSlot) (s : State), s.dev.on (R.HN_LANE_STATUS_ISOLATED p) = false ∧ s.dev.epochOk p (l.getD 22
      0).toNat = false) ∧
    (∃ (p : Nat) (l : List Byte) (a : Int) (e : Int × Nat × HnSlot) (s : State), s.dev.on (R.HN_LANE_STATUS_ISOLATED p) = false ∧ s.dev.epochOk p (l.getD 22
      0).toNat = true ∧ s.dev.overruns p l.length e.1 e.2.2 a = true) ∧
    (∃ (p : Nat) (l : List Byte) (a : Int) (e : Int × Nat × HnSlot) (s : State), s.dev.on (R.HN_LANE_STATUS_ISOLATED p) = false ∧ s.dev.epochOk p (l.getD 22
      0).toNat = true ∧ s.dev.overruns p l.length e.1 e.2.2 a = false ∧ hnGood s.dev.hn.down l = false) ∧
    (∃ (i : Fin 4096) (p : Nat) (l : List Byte) (s : State), p < 16 ∧ s.dev.hn.passing = some (p, i.val, l)) ∧
    (∃ (i : Fin 4096) (s : State), ((∀ p l, s.dev.hn.passing ≠ some (p, i.val, l)))) :=
  ⟨⟨(15 : Fin 16), ([] : List Byte), (0 : Int), (at0 []), by decide +kernel⟩,
   ⟨(15 : Fin 16), ([] : List Byte), (0 : Int), ((at0 [(R.PORT_CTRL_MODE 15, 5), (R.HN_LANE_CFG_ROLE 15, 1), (R.PORT_STATUS_LINK 15, 1)]).on (fun d =>
     { d with hn := { active := true } })), by decide +kernel⟩,
   ⟨(15 : Fin 16), (({} : Dev).hnFrame 2 0 0 []), (0 : Int), ((at0 [(R.PORT_CTRL_MODE 15, 5), (R.HN_LANE_CFG_ROLE 15, 1), (R.PORT_STATUS_LINK 15, 1)]).on (fun
     d => { d with hn := { active := true } })), by decide +kernel⟩,
   ⟨(15 : Fin 16), (({} : Dev).hnFrame 2 0 0 []), (0 : Int), ((at0 [(R.PORT_CTRL_MODE 15, 5), (R.HN_LANE_CFG_ROLE 15, 1), (R.PORT_STATUS_LINK 15, 1),
     (R.HN_CTRL_UP_EN, 1), (R.HN_CTRL_UP_LANE, 15)]).on (fun d => { d with hn := { active := true } })), by decide +kernel⟩,
   ⟨(15 : Fin 16), ([] : List Byte), (0 : Int), ((at0 [(R.HN_LANE_STATUS_DUP_ID (15 : Fin 16), 1), (R.PORT_CTRL_MODE 15, 5), (R.HN_LANE_CFG_ROLE 15, 3),
     (R.PORT_STATUS_LINK 15, 1)]).on (fun d => { d with hn := { active := true } })), by decide +kernel⟩,
   ⟨(15 : Fin 16), ([] : List Byte), (20 : Int), ((((at0 [(R.HN_LANE_STATUS_DUP_ID (15 : Fin 16), 0), (R.HN_STATUS_STAR_STATE, 3), (R.PORT_CTRL_MODE 15, 5),
     (R.HN_LANE_CFG_ROLE 15, 3), (R.PORT_STATUS_LINK 15, 1), (R.HN_STATUS_STAR_STATE, 3), (R.GAIT_DIV_DIV 0, 1)]).on (fun d =>
     { d with hn := { active := true, down := [{ start := 10 }], lanes := [(15, { known := true })] } })).dev.windowSlot 0 20).getD (0, 0, {})), ((at0
     [(R.HN_LANE_STATUS_DUP_ID (15 : Fin 16), 0), (R.HN_STATUS_STAR_STATE, 3), (R.PORT_CTRL_MODE 15, 5), (R.HN_LANE_CFG_ROLE 15, 3), (R.PORT_STATUS_LINK 15,
     1), (R.HN_STATUS_STAR_STATE, 3), (R.GAIT_DIV_DIV 0, 1)]).on (fun d =>
     { d with hn := { active := true, down := [{ start := 10 }], lanes := [(15, { known := true })] } })), by decide +kernel⟩,
   ⟨(15 : Fin 16), ([] : List Byte), (0 : Int), ((at0 [(R.HN_LANE_STATUS_DUP_ID (15 : Fin 16), 0), (R.PORT_CTRL_MODE 15, 5), (R.HN_LANE_CFG_ROLE 15, 3),
     (R.PORT_STATUS_LINK 15, 1), (R.HN_STATUS_STAR_STATE, 3)]).on (fun d => { d with hn := { active := true } })), by decide +kernel⟩,
   ⟨0, ([] : List Byte), (0 : Int), ((0 : Int), 0, ({ len := 1000 } : HnSlot)), (at0 [(R.HN_LANE_STATUS_ISOLATED 0, 1)]), by decide +kernel⟩,
   ⟨0, List.replicate 23 0x80, 0, (0, 0, {}), at0 [], by decide +kernel⟩,
   ⟨0, ([0] : List Byte), (100 : Int), ((0 : Int), 0, ({} : HnSlot)), (at0 [(R.HN_LANE_STATUS_ISOLATED 0, 0)]), by decide +kernel⟩,
   ⟨0, ([] : List Byte), (0 : Int), ((0 : Int), 0, ({ len := 1000 } : HnSlot)), (at0 [(R.HN_LANE_STATUS_ISOLATED 0, 0)]), by decide +kernel⟩,
   ⟨(4095 : Fin 4096), 15, ([] : List Byte), ((at0 []).on (fun d => { d with hn := { passing := some (15, 4095, []) } })), by decide +kernel⟩,
   ⟨(4095 : Fin 4096), (at0 []), (by intro p l h; cases h)⟩⟩

theorem witness_HarnessStart :
    (∃ (w : Writer) (s : State), Grants s w R.HN_CTRL_EN ∧ s.dev.hn.active = false) ∧
    (∃ (w : Writer) (s : State), Grants s w R.HN_CTRL_EN ∧ s.dev.on R.HN_CTRL_EN = true) ∧
    (∃ (w : Writer) (s : State), Grants s w R.HN_CTRL_EN ∧ s.dev.on R.HN_CTRL_EN = false) ∧
    (∃ (s : State), s.dev.hn.active = true ∧ s.dev.get R.HN_STATUS_UP_STATE = 1 ∧ s.dev.hn.heard = false ∧ s.dev.on R.HN_CTRL_COLDSTART = true) ∧
    (∃ (s : State), s.dev.hn.active = true ∧ s.dev.get R.HN_STATUS_UP_STATE = 1 ∧ s.dev.hn.heard = true) ∧
    (∃ (s : State), s.dev.hn.active = true ∧ s.dev.get R.HN_STATUS_UP_STATE ≠ 1 ∧ s.dev.get R.HN_STATUS_STAR_STATE = 2) ∧
    (∃ (s : State), s.dev.hn.active = false) ∧
    (∃ (c : Nat) (l : List Byte) (s : State) (d : Dev), s.dev.hn.active = true ∧ s.dev.get R.HN_STATUS_STAR_STATE = 2 ∧ s.dev.hn.awaitStep = false ∧
      s.dev.hn.runIn = 0 ∧ s.dev.on R.HN_CTRL_COLDSTART = false ∧ s.dev.hn.claims = [(c, l)] ∧ c ≠ s.dev.get R.HN_CTRL_NODE_ID ∧ d = s.dev.passLaunch) ∧
    (∃ (s : State), s.dev.hn.active = true ∧ s.dev.get R.HN_STATUS_STAR_STATE = 2 ∧ s.dev.hn.awaitStep = false ∧ s.dev.hn.runIn = 0 ∧ s.dev.on
      R.HN_CTRL_COLDSTART = true ∧ s.dev.hn.listenOver = true ∧ s.dev.hn.claims = []) ∧
    (∃ (s : State), ((s.dev.hn.active = false ∨ s.dev.get R.HN_STATUS_STAR_STATE ≠ 2 ∨ s.dev.hn.awaitStep = true ∨ s.dev.hn.runIn ≠ 0))) ∧
    (∃ (p : Fin 16) (s : State), ((∀ f ∈ s.dev.hn.frags, f.lane ≠ p.val))) ∧
    (∃ (p : Fin 16) (f : HnFrag) (rest : List HnFrag) (s : State), s.dev.hn.frags = f :: rest ∧ f.lane = p.val ∧ f.first = true ∧ f.last = true ∧ f.off = 0 ∧
      f.reply = true) ∧
    (∃ (p : Fin 16) (f : HnFrag) (rest : List HnFrag) (s : State), s.dev.hn.frags = f :: rest ∧ f.lane = p.val ∧ f.first = false ∧ f.last = true ∧ Tab.find?
      s.dev.hn.assy (fragKey f) = none) ∧
    (∃ (p : Fin 16) (l : List Byte) (rest : List (Nat × List Byte)) (s : State), s.dev.hn.replies = (p.val, l) :: rest) ∧
    (∃ (p : Fin 16) (s : State), ((∀ e ∈ s.dev.hn.replies, e.1 ≠ p.val))) ∧
    (∃ (id : BitVec 16) (e : HnFwd) (rest : List HnFwd) (s : State), s.dev.hn.fwd = e :: rest ∧ e.id = id.toNat ∧ e.all = false) ∧
    (∃ (id : BitVec 16) (e : HnFwd) (rest : List HnFwd) (s : State), s.dev.hn.fwd = e :: rest ∧ e.id = id.toNat ∧ e.all = true) ∧
    (∃ (id : BitVec 16) (s : State), ((∀ e ∈ s.dev.hn.fwd, e.id ≠ id.toNat))) :=
  ⟨⟨Writer.bridle, (at0 []), by decide +kernel⟩,
   ⟨Writer.bridle, (at0 [(R.HN_CTRL_EN, 1)]), by decide +kernel⟩,
   ⟨.bridle, at0 [], by decide +kernel⟩,
   ⟨((at0 [(R.HN_STATUS_UP_STATE, 1), (R.HN_CTRL_COLDSTART, 1)]).on (fun d => { d with hn := { active := true } })), by decide +kernel⟩,
   ⟨((at0 [(R.HN_STATUS_UP_STATE, 1)]).on (fun d => { d with hn := { active := true, heard := true } })), by decide +kernel⟩,
   ⟨((at0 [(R.HN_STATUS_UP_STATE, 0), (R.HN_STATUS_STAR_STATE, 2)]).on (fun d => { d with hn := { active := true } })), by decide +kernel⟩,
   ⟨at0 [], by decide +kernel⟩,
   ⟨1, [], ((at0 [(R.HN_STATUS_STAR_STATE, 2), (R.HN_CTRL_COLDSTART, 0)]).on (fun d => { d with hn := { active := true, claims := [(1, [])] } })), _,
     by decide +kernel, by decide +kernel, by decide +kernel, by decide +kernel, by decide +kernel, by decide +kernel, by decide +kernel, rfl⟩,
   ⟨((at0 [(R.HN_STATUS_STAR_STATE, 2), (R.HN_CTRL_COLDSTART, 1)]).on (fun d => { d with hn := { active := true, listenOver := true } })), by decide +kernel⟩,
   ⟨at0 [], by decide +kernel⟩,
   ⟨(15 : Fin 16), (at0 []), by decide +kernel⟩,
   ⟨(15 : Fin 16), ({ lane := 15, src := 0, first := true, last := true, reply := true, tag := 0, off := 0, bytes := [] } : HnFrag), ([] : List HnFrag), ((at0
     []).on (fun d =>
     { d with hn := { frags := [({ lane := 15, src := 0, first := true, last := true, reply := true, tag := 0, off := 0, bytes := [] } : HnFrag)] } })),
     by decide +kernel⟩,
   ⟨(15 : Fin 16), ({ lane := 15, src := 0, first := false, last := true, reply := true, tag := 0, off := 0, bytes := [] } : HnFrag), ([] : List HnFrag),
     ((at0 []).on (fun d =>
     { d with hn := { frags := [({ lane := 15, src := 0, first := false, last := true, reply := true, tag := 0, off := 0, bytes := [] } : HnFrag)] } })),
     by decide +kernel⟩,
   ⟨(15 : Fin 16), ([] : List Byte), ([] : List (Nat × List Byte)), ((at0 []).on (fun d => { d with hn := { replies := [(15, [])] } })), by decide +kernel⟩,
   ⟨(15 : Fin 16), (at0 []), by decide +kernel⟩,
   ⟨(0 : BitVec 16), ({ id := 0, op := 0, req := {}, lanes := [], until' := 0, all := false } : HnFwd), ([] : List HnFwd), ((at0 []).on (fun d =>
     { d with hn := { fwd := [({ id := 0, op := 0, req := {}, lanes := [], until' := 0, all := false } : HnFwd)] } })), by decide +kernel⟩,
   ⟨0, { id := 0, op := 0, req := {}, lanes := [], until' := 0, all := true }, [], ((at0 []).on (fun d =>
     { d with hn := { fwd := [{ id := 0, op := 0, req := {}, lanes := [], until' := 0, all := true }] } })), by decide +kernel⟩,
   ⟨(0 : BitVec 16), (at0 []), by decide +kernel⟩⟩

theorem witness_WireFormats :
    (∃ (d : Dev) (table : List HnSlot) (i time : Nat) (x : HnSlot) (sec : List Byte), i < 4096 ∧ 28 + sec.length < 2 ^ 16 ∧ table[i]? = some x ∧ x.owner =
      d.get R.HN_CTRL_NODE_ID) ∧
    (∃ (op : Nat) (r : CmdReq), op < 2 ^ 16) :=
  ⟨⟨(at0 []).dev, [({ start := 0, len := 100, owner := 0, gait := 0, cmd := false, sleep := false, phase := 0 } : HnSlot)], 0, 0,
     ({ start := 0, len := 100, owner := 0, gait := 0, cmd := false, sleep := false, phase := 0 } : HnSlot), ([] : List Byte), by decide +kernel⟩,
   ⟨0, ({} : CmdReq), by decide +kernel⟩⟩

theorem witness_CanModes :
    (∃ (w : Writer) (c : Fin 8) (m : Fin 8) (s : State), Grants s w (R.CAN_CTRL_MODE c) ∧ 4 < m.val) ∧
    (∃ (w : Writer) (c : Fin 8) (m : Fin 8) (s : State), Grants s w (R.CAN_CTRL_MODE c) ∧ (m.val = 0 ∨ m.val ≤ 4 ∧ s.dev.get (R.CAN_STATUS_MODE_NOW c) ≠ 0)) ∧
    (∃ (w : Writer) (c : Fin 8) (m : Fin 8) (s : State), Grants s w (R.CAN_CTRL_MODE c) ∧ 1 ≤ m.val ∧ m.val ≤ 4 ∧ s.dev.get (R.CAN_STATUS_MODE_NOW c) = 0 ∧
      s.dev.get (R.CAN_CTRL_MODE c) = 0 ∧ s.dev.canTimingBad c = false ∧ s.dev.canProtocolBad c = false ∧ s.dev.canMemoryBad c = false) ∧
    (∃ (w : Writer) (c : Fin 8) (m : Fin 8) (s : State), Grants s w (R.CAN_CTRL_MODE c) ∧ 1 ≤ m.val ∧ m.val ≤ 4 ∧ s.dev.get (R.CAN_STATUS_MODE_NOW c) = 0 ∧
      s.dev.get (R.CAN_CTRL_MODE c) = 0 ∧ ((s.dev.canTimingBad c = true ∨ s.dev.canProtocolBad c = true ∨ s.dev.canMemoryBad c = true))) ∧
    (∃ (c : Fin 8) (s : State), s.dev.get (R.CAN_CTRL_MODE c) ≠ s.dev.get (R.CAN_STATUS_MODE_NOW c)) ∧
    (∃ (c : Fin 8) (s : State), s.dev.get (R.CAN_CTRL_MODE c) = s.dev.get (R.CAN_STATUS_MODE_NOW c)) ∧
    (∃ (w : Writer) (c : Fin 8) (s : State), Grants s w (R.CAN_CTRL_MODE c) ∧ s.dev.get (R.CAN_STATUS_STATE c) = 2) ∧
    (∃ (w : Writer) (c : Fin 8) (s : State), Grants s w (R.CAN_CTRL_MODE c) ∧ s.dev.get (R.CAN_STATUS_STATE c) ≠ 2) ∧
    (∃ (c : Fin 8) (s : State), s.dev.get (R.CAN_STATUS_STATE c) = 2 ∧ ((s.dev.on (R.CAN_CTRL_AUTO_RECOVER c) = true ∨ (s.dev.canSt c).recover = true))) ∧
    (∃ (c : Fin 8) (s : State), s.dev.on (R.CAN_CTRL_AUTO_RECOVER c) = false ∧ (s.dev.canSt c).recover = false) ∧
    (∃ (w : Writer) (c : Fin 8) (s : State), Grants s w (R.CAN_CTRL_MODE c)) :=
  ⟨⟨Writer.bridle, (7 : Fin 8), (7 : Fin 8), (at0 []), by decide +kernel⟩,
   ⟨Writer.bridle, (7 : Fin 8), (0 : Fin 8), (at0 []), by decide +kernel⟩,
   ⟨Writer.bridle, (7 : Fin 8), (1 : Fin 8), (at0 [(R.CAN_STATUS_MODE_NOW (7 : Fin 8), 0), (R.CAN_CTRL_MODE (7 : Fin 8), 0), (R.CAN_RXB_COUNT 7, 1)]),
     by decide +kernel⟩,
   ⟨Writer.bridle, (7 : Fin 8), (4 : Fin 8), (at0 [(R.CAN_STATUS_MODE_NOW (7 : Fin 8), 0), (R.CAN_CTRL_MODE (7 : Fin 8), 0)]), by decide +kernel⟩,
   ⟨(7 : Fin 8), (at0 [(R.CAN_CTRL_MODE 7, 1)]), by decide +kernel⟩,
   ⟨(7 : Fin 8), (at0 []), by decide +kernel⟩,
   ⟨Writer.bridle, (7 : Fin 8), (at0 [(R.CAN_STATUS_STATE (7 : Fin 8), 2)]), by decide +kernel⟩,
   ⟨Writer.bridle, (7 : Fin 8), (at0 [(R.CAN_STATUS_STATE (7 : Fin 8), 0)]), by decide +kernel⟩,
   ⟨(7 : Fin 8), (at0 [(R.CAN_STATUS_STATE (7 : Fin 8), 2)]), by decide +kernel⟩,
   ⟨(7 : Fin 8), (at0 [(R.CAN_CTRL_AUTO_RECOVER (7 : Fin 8), 0)]), by decide +kernel⟩,
   ⟨Writer.bridle, (7 : Fin 8), (at0 []), by decide +kernel⟩⟩

theorem witness_CanTransmit :
    (∃ (w : Writer) (c : Fin 8) (n : Fin 3) (s : State), Grants s w (R.TXB_CTRL_SINGLE_SHOT c n) ∧ s.dev.get (R.TXB_STATUS_STATE c n) ≠ 1 ∧ s.dev.get
      (R.TXB_STATUS_STATE c n) ≠ 2 ∧ s.dev.txbValid c n = true) ∧
    (∃ (w : Writer) (c : Fin 8) (n : Fin 3) (s : State), Grants s w (R.TXB_CTRL_SINGLE_SHOT c n) ∧ s.dev.get (R.TXB_STATUS_STATE c n) ≠ 1 ∧ s.dev.get
      (R.TXB_STATUS_STATE c n) ≠ 2 ∧ s.dev.txbValid c n = false) ∧
    (∃ (w : Writer) (c : Fin 8) (n : Fin 3) (s : State), Grants s w (R.TXB_CTRL_SINGLE_SHOT c n) ∧ ((s.dev.get (R.TXB_STATUS_STATE c n) = 1 ∨ s.dev.get
      (R.TXB_STATUS_STATE c n) = 2))) ∧
    (∃ (w : Writer) (c : Fin 8) (n : Fin 3) (s : State), Grants s w (R.TXB_CTRL_SINGLE_SHOT c n) ∧ s.dev.get (R.TXB_STATUS_STATE c n) = 1) ∧
    (∃ (w : Writer) (c : Fin 8) (n : Fin 3) (s : State), Grants s w (R.TXB_CTRL_SINGLE_SHOT c n) ∧ s.dev.get (R.TXB_STATUS_STATE c n) = 2) ∧
    (∃ (w : Writer) (c : Fin 8) (n : Fin 3) (s : State), Grants s w (R.TXB_CTRL_SINGLE_SHOT c n) ∧ s.dev.get (R.TXB_STATUS_STATE c n) ≠ 1 ∧ s.dev.get
      (R.TXB_STATUS_STATE c n) ≠ 2) ∧
    (∃ (c : Fin 8) (n : Nat) (s : State), ((s.dev.get (R.CAN_STATUS_MODE_NOW c) = 1 ∨ s.dev.get (R.CAN_STATUS_MODE_NOW c) = 4)) ∧ s.dev.get
      (R.CAN_STATUS_STATE c) < 2 ∧ ((∀ k < 3, s.dev.get (R.TXB_STATUS_STATE c k) ≠ 2)) ∧ canNext s.mem s.dev c = some n) ∧
    (∃ (c : Fin 8) (s : State), ((2 ≤ s.dev.get (R.CAN_STATUS_STATE c) ∨ s.dev.get (R.CAN_STATUS_MODE_NOW c) = 0 ∨ s.dev.get (R.CAN_STATUS_MODE_NOW c) = 2 ∨
      s.dev.get (R.CAN_STATUS_MODE_NOW c) = 3 ∨ canNext s.mem s.dev c = none))) ∧
    (∃ (m : List Host.Cell) (d : Dev) (c : Nat) (n : Nat) (k : Nat), d.on (R.CAN_CTRL_TX_ORDER c) = false ∧ canNext m d c = some n ∧ k < 3 ∧ d.get
      (R.TXB_STATUS_STATE c k) = 1 ∧ arbValue (txbFrame m d c n) = arbValue (txbFrame m d c k)) ∧
    (∃ (m : List Host.Cell) (d : Dev) (c : Nat) (k : Nat), d.on (R.CAN_CTRL_TX_ORDER c) = false ∧ canNext m d c = none ∧ k < 3) ∧
    (∃ (c : Fin 8) (n : Fin 3) (ago : Fin 0x1000000) (tdcv : Nat) (s : State), s.dev.get (R.CAN_STATUS_MODE_NOW c) = 1 ∧ [0, 1, 2].find? (fun k => s.dev.get
      (R.TXB_STATUS_STATE c k) == 2) = some n.val) ∧
    (∃ (c : Fin 8) (n : Fin 3) (ago : Fin 0x1000000) (tdcv : Nat) (lost : Bool) (s : State), [0, 1, 2].find? (fun k => s.dev.get (R.TXB_STATUS_STATE c k) ==
      2) = some n.val) ∧
    (∃ (c : Fin 8) (r : CanEnd) (ago : Fin 0x1000000) (tdcv : Nat) (s : State), ((∀ k < 3, s.dev.get (R.TXB_STATUS_STATE c k) ≠ 2))) :=
  ⟨⟨Writer.bridle, (7 : Fin 8), (2 : Fin 3), (at0 [(R.TXB_STATUS_STATE (7 : Fin 8) (2 : Fin 3), 0), (R.TXB_STATUS_STATE (7 : Fin 8) (2 : Fin 3), 0)]),
     by decide +kernel⟩,
   ⟨Writer.bridle, (7 : Fin 8), (2 : Fin 3), (at0 [(R.TXB_STATUS_STATE (7 : Fin 8) (2 : Fin 3), 0), (R.TXB_STATUS_STATE (7 : Fin 8) (2 : Fin 3), 0),
     (R.TXB_LEN 7 2, 9)]), by decide +kernel⟩,
   ⟨Writer.bridle, (7 : Fin 8), (2 : Fin 3), (at0 [(R.TXB_STATUS_STATE 7 2, 1)]), by decide +kernel⟩,
   ⟨Writer.bridle, (7 : Fin 8), (2 : Fin 3), (at0 [(R.TXB_STATUS_STATE (7 : Fin 8) (2 : Fin 3), 1)]), by decide +kernel⟩,
   ⟨Writer.bridle, (7 : Fin 8), (2 : Fin 3), (at0 [(R.TXB_STATUS_STATE (7 : Fin 8) (2 : Fin 3), 2)]), by decide +kernel⟩,
   ⟨Writer.bridle, (7 : Fin 8), (2 : Fin 3), (at0 [(R.TXB_STATUS_STATE (7 : Fin 8) (2 : Fin 3), 0), (R.TXB_STATUS_STATE (7 : Fin 8) (2 : Fin 3), 0)]),
     by decide +kernel⟩,
   ⟨(7 : Fin 8), 2, (at0 [(R.CAN_STATUS_MODE_NOW 7, 1), (R.TXB_STATUS_STATE 7 2, 1), (R.TXB_STATUS_STATE 7 0, 0)]), by decide +kernel⟩,
   ⟨(7 : Fin 8), (at0 []), by decide +kernel⟩,
   ⟨([] : List Host.Cell), (at0 [(R.CAN_CTRL_TX_ORDER 0, 0), (R.TXB_STATUS_STATE 0 2, 1), (R.TXB_STATUS_STATE 0 1, 1), (R.TXB_STATUS_STATE 0 2, 1)]).dev, 0,
     1, 2, by decide +kernel⟩,
   ⟨([] : List Host.Cell), (at0 [(R.CAN_CTRL_TX_ORDER 0, 0)]).dev, 0, 2, by decide +kernel⟩,
   ⟨(7 : Fin 8), (2 : Fin 3), (0 : Fin 0x1000000), 0, (at0 [(R.CAN_STATUS_MODE_NOW (7 : Fin 8), 1), (R.TXB_STATUS_STATE 7 2, 2)]), by decide +kernel⟩,
   ⟨(7 : Fin 8), (2 : Fin 3), (0 : Fin 0x1000000), 0, false, (at0 [(R.TXB_STATUS_STATE 7 2, 2)]), by decide +kernel⟩,
   ⟨(7 : Fin 8), CanEnd.ok, (0 : Fin 0x1000000), 0, (at0 []), by decide +kernel⟩⟩

theorem witness_CanReceive :
    (∃ (c : Fin 8) (f : CanFrame) (ago : Fin 0x1000000) (s : State), ((s.dev.get (R.CAN_STATUS_MODE_NOW c) = 0 ∨ s.dev.get (R.CAN_STATUS_MODE_NOW c) = 4 ∨ 2 ≤
      s.dev.get (R.CAN_STATUS_STATE c)))) ∧
    (∃ (c : Fin 8) (f : CanFrame) (ago : Fin 0x1000000) (s : State), s.dev.canFmtOn c f.fmt = false ∧ s.dev.on (R.CAN_CTRL_PEX c) = true) ∧
    (∃ (c : Fin 8) (f : CanFrame) (ago : Fin 0x1000000) (s : State), s.dev.get (R.CAN_STATUS_MODE_NOW c) ≠ 0 ∧ s.dev.get (R.CAN_STATUS_MODE_NOW c) ≠ 4 ∧
      s.dev.get (R.CAN_STATUS_STATE c) < 2 ∧ s.dev.canFmtOn c f.fmt = true ∧ (s.dev.canSt c).staged.length = 4) ∧
    (∃ (c : Fin 8) (f : CanFrame) (ago : Fin 0x1000000) (b i : Nat) (d1 : Dev) (s : State), s.dev.get (R.CAN_STATUS_MODE_NOW c) ≠ 0 ∧ s.dev.get
      (R.CAN_STATUS_MODE_NOW c) ≠ 4 ∧ s.dev.get (R.CAN_STATUS_STATE c) < 2 ∧ s.dev.canFmtOn c f.fmt = true ∧ (s.dev.canSt c).staged.length < 4 ∧ canWalk s.mem
      c (s.dev.get (R.CAN_FLT_BASE c (s.dev.get (R.CAN_CTRL_FLT_SEL c))) * 16) (clipClassical f) (s.dev.get (R.CAN_FLT_COUNT c (s.dev.get (R.CAN_CTRL_FLT_SEL
      c)))) 0 s.dev = (.take b i, d1) ∧ (clipClassical f).len ≤ slotData (s.dev.get (R.CAN_CFG_RXB_SLOT c))) ∧
    (∃ (c : Fin 8) (f : CanFrame) (ago : Fin 0x1000000) (r : Walk) (d1 : Dev) (s : State), s.dev.get (R.CAN_STATUS_MODE_NOW c) ≠ 0 ∧ s.dev.get
      (R.CAN_STATUS_MODE_NOW c) ≠ 4 ∧ s.dev.get (R.CAN_STATUS_STATE c) < 2 ∧ s.dev.canFmtOn c f.fmt = true ∧ (s.dev.canSt c).staged.length < 4 ∧ canWalk s.mem
      c (s.dev.get (R.CAN_FLT_BASE c (s.dev.get (R.CAN_CTRL_FLT_SEL c))) * 16) (clipClassical f) (s.dev.get (R.CAN_FLT_COUNT c (s.dev.get (R.CAN_CTRL_FLT_SEL
      c)))) 0 s.dev = (r, d1) ∧ r = .noMatch) ∧
    (∃ (c : Fin 8) (f : CanFrame) (ago : Fin 0x1000000) (r : Walk) (d1 : Dev) (s : State), s.dev.get (R.CAN_STATUS_MODE_NOW c) ≠ 0 ∧ s.dev.get
      (R.CAN_STATUS_MODE_NOW c) ≠ 4 ∧ s.dev.get (R.CAN_STATUS_STATE c) < 2 ∧ s.dev.canFmtOn c f.fmt = true ∧ (s.dev.canSt c).staged.length < 4 ∧ canWalk s.mem
      c (s.dev.get (R.CAN_FLT_BASE c (s.dev.get (R.CAN_CTRL_FLT_SEL c))) * 16) (clipClassical f) (s.dev.get (R.CAN_FLT_COUNT c (s.dev.get (R.CAN_CTRL_FLT_SEL
      c)))) 0 s.dev = (r, d1) ∧ r = .fault) ∧
    (∃ (c : Fin 8) (f : CanFrame) (ago : Fin 0x1000000) (r : Walk) (d1 : Dev) (s : State) (b i : Nat), s.dev.get (R.CAN_STATUS_MODE_NOW c) ≠ 0 ∧ s.dev.get
      (R.CAN_STATUS_MODE_NOW c) ≠ 4 ∧ s.dev.get (R.CAN_STATUS_STATE c) < 2 ∧ s.dev.canFmtOn c f.fmt = true ∧ (s.dev.canSt c).staged.length < 4 ∧ canWalk s.mem
      c (s.dev.get (R.CAN_FLT_BASE c (s.dev.get (R.CAN_CTRL_FLT_SEL c))) * 16) (clipClassical f) (s.dev.get (R.CAN_FLT_COUNT c (s.dev.get (R.CAN_CTRL_FLT_SEL
      c)))) 0 s.dev = (r, d1) ∧ r = .take b i ∧ slotData (s.dev.get (R.CAN_CFG_RXB_SLOT c)) < (clipClassical f).len) ∧
    (∃ (e : FltEntry) (f : CanFrame), e.fmts.testBit f.fmt = true ∧ e.ide = f.ide ∧ ((e.vcidEn = true → e.vcid = f.vcid.toNat)) ∧ e.type = 1) ∧
    (∃ (e : FltEntry) (f : CanFrame), e.fmts.testBit f.fmt = true ∧ e.ide = f.ide ∧ ((e.vcidEn = true → e.vcid = f.vcid.toNat)) ∧ e.type = 2) ∧
    (∃ (e : FltEntry) (f : CanFrame), e.fmts.testBit f.fmt = true ∧ e.ide = f.ide ∧ ((e.vcidEn = true → e.vcid = f.vcid.toNat)) ∧ e.type = 3) ∧
    (∃ (e : FltEntry) (f : CanFrame), e.fmts.testBit f.fmt = true ∧ e.ide = f.ide ∧ ((e.vcidEn = true → e.vcid = f.vcid.toNat)) ∧ e.type = 0) ∧
    (∃ (e : FltEntry) (f : CanFrame), (e.fmts.testBit f.fmt = false ∨ e.ide ≠ f.ide)) ∧
    (∃ (c : Fin 8) (x : CanStaged) (rest : List CanStaged) (s : State), (s.dev.canSt c).staged = x :: rest) ∧
    (∃ (c : Fin 8) (x : CanStaged) (rest : List CanStaged) (q : Req) (a : Nat) (r : List Byte × Dev) (s : State), (s.dev.canSt c).staged = x :: rest ∧ q =
      .sys (s.dev.get (R.CAN_CFG_AGENT c)) ∧ a = s.dev.get (R.CAN_RXB_BASE c) * 8 + x.buf * slotBytes (s.dev.get (R.CAN_CFG_RXB_SLOT c)) ∧ r = orchRead s.mem
      (s.dev.setCan c { s.dev.canSt c with staged := rest }) q a 8) ∧
    (∃ (c : Fin 8) (s : State), (s.dev.canSt c).staged = []) ∧
    (∃ (c : Fin 8) (k : Fin 7) (heavy inFrame : Bool) (s : State), s.dev.get (R.CAN_STATUS_MODE_NOW c) ≠ 0 ∧ s.dev.get (R.CAN_STATUS_STATE c) ≠ 2 ∧ s.dev.get
      (R.CAN_STATUS_TEC c) < 248) ∧
    (∃ (c : Fin 8) (k : Fin 7) (heavy inFrame : Bool) (s : State), s.dev.get (R.CAN_STATUS_MODE_NOW c) ≠ 0 ∧ s.dev.get (R.CAN_STATUS_STATE c) ≠ 2 ∧ 248 ≤
      s.dev.get (R.CAN_STATUS_TEC c)) ∧
    (∃ (c : Fin 8) (k : Fin 7) (heavy inFrame : Bool) (s : State), s.dev.get (R.CAN_STATUS_MODE_NOW c) ≠ 0 ∧ s.dev.get (R.CAN_STATUS_STATE c) ≠ 2) ∧
    (∃ (c : Fin 8) (k : Fin 7) (tx heavy inFrame : Bool) (s : State), ((s.dev.get (R.CAN_STATUS_MODE_NOW c) = 0 ∨ s.dev.get (R.CAN_STATUS_STATE c) = 2))) :=
  ⟨⟨(7 : Fin 8), ({} : CanFrame), (0 : Fin 0x1000000), (at0 []), by decide +kernel⟩,
   ⟨(7 : Fin 8), ({ fmt := 2 } : CanFrame), (0 : Fin 0x1000000), (at0 [(R.CAN_CTRL_PEX (7 : Fin 8), 1)]), by decide +kernel⟩,
   ⟨(7 : Fin 8), ({} : CanFrame), (0 : Fin 0x1000000), ((at0 [(R.CAN_STATUS_MODE_NOW (7 : Fin 8), 1), (R.CAN_STATUS_MODE_NOW (7 : Fin 8), 0),
     (R.CAN_STATUS_MODE_NOW 7, 1)]).on (fun d =>
     { d with can := [(7, { staged := List.replicate 4 { frame := {}, buf := 0, index := 0, ts := 0, tag := 0 } })] })), by decide +kernel⟩,
   ⟨(7 : Fin 8), ({} : CanFrame), (0 : Fin 0x1000000), 0, 0, ((canWalk
     { (at0 [(R.CAN_STATUS_MODE_NOW (7 : Fin 8), 1), (R.CAN_STATUS_MODE_NOW (7 : Fin 8), 0), (R.CAN_STATUS_MODE_NOW 7, 1), (R.CAN_FLT_COUNT 7 0, 1), (R.CAN_RXB_COUNT 7, 1), (R.CAN_CFG_AGENT 7, 0), (R.BANK_OWNER_AGENT 0, 0)]) with mem := [(3, 0x80), (11, 1)] }.mem
     7
     ({ (at0 [(R.CAN_STATUS_MODE_NOW (7 : Fin 8), 1), (R.CAN_STATUS_MODE_NOW (7 : Fin 8), 0), (R.CAN_STATUS_MODE_NOW 7, 1), (R.CAN_FLT_COUNT 7 0, 1), (R.CAN_RXB_COUNT 7, 1), (R.CAN_CFG_AGENT 7, 0), (R.BANK_OWNER_AGENT 0, 0)]) with mem := [(3, 0x80), (11, 1)] }.dev.get
     (R.CAN_FLT_BASE 7
     ({ (at0 [(R.CAN_STATUS_MODE_NOW (7 : Fin 8), 1), (R.CAN_STATUS_MODE_NOW (7 : Fin 8), 0), (R.CAN_STATUS_MODE_NOW 7, 1), (R.CAN_FLT_COUNT 7 0, 1), (R.CAN_RXB_COUNT 7, 1), (R.CAN_CFG_AGENT 7, 0), (R.BANK_OWNER_AGENT 0, 0)]) with mem := [(3, 0x80), (11, 1)] }.dev.get
     (R.CAN_CTRL_FLT_SEL 7))) * 16) (clipClassical {})
     ({ (at0 [(R.CAN_STATUS_MODE_NOW (7 : Fin 8), 1), (R.CAN_STATUS_MODE_NOW (7 : Fin 8), 0), (R.CAN_STATUS_MODE_NOW 7, 1), (R.CAN_FLT_COUNT 7 0, 1), (R.CAN_RXB_COUNT 7, 1), (R.CAN_CFG_AGENT 7, 0), (R.BANK_OWNER_AGENT 0, 0)]) with mem := [(3, 0x80), (11, 1)] }.dev.get
     (R.CAN_FLT_COUNT 7
     ({ (at0 [(R.CAN_STATUS_MODE_NOW (7 : Fin 8), 1), (R.CAN_STATUS_MODE_NOW (7 : Fin 8), 0), (R.CAN_STATUS_MODE_NOW 7, 1), (R.CAN_FLT_COUNT 7 0, 1), (R.CAN_RXB_COUNT 7, 1), (R.CAN_CFG_AGENT 7, 0), (R.BANK_OWNER_AGENT 0, 0)]) with mem := [(3, 0x80), (11, 1)] }.dev.get
     (R.CAN_CTRL_FLT_SEL 7)))) 0
     { (at0 [(R.CAN_STATUS_MODE_NOW (7 : Fin 8), 1), (R.CAN_STATUS_MODE_NOW (7 : Fin 8), 0), (R.CAN_STATUS_MODE_NOW 7, 1), (R.CAN_FLT_COUNT 7 0, 1), (R.CAN_RXB_COUNT 7, 1), (R.CAN_CFG_AGENT 7, 0), (R.BANK_OWNER_AGENT 0, 0)]) with mem := [(3, 0x80), (11, 1)] }.dev).2),
     { (at0 [(R.CAN_STATUS_MODE_NOW (7 : Fin 8), 1), (R.CAN_STATUS_MODE_NOW (7 : Fin 8), 0), (R.CAN_STATUS_MODE_NOW 7, 1), (R.CAN_FLT_COUNT 7 0, 1), (R.CAN_RXB_COUNT 7, 1), (R.CAN_CFG_AGENT 7, 0), (R.BANK_OWNER_AGENT 0, 0)]) with mem := [(3, 0x80), (11, 1)] },
     by decide +kernel⟩,
   ⟨(7 : Fin 8), ({} : CanFrame), (0 : Fin 0x1000000), Walk.noMatch, ((canWalk (at0 [(R.CAN_STATUS_MODE_NOW (7 : Fin 8), 1), (R.CAN_STATUS_MODE_NOW (7 : Fin
     8), 0), (R.CAN_STATUS_MODE_NOW 7, 1)]).mem 7 ((at0 [(R.CAN_STATUS_MODE_NOW (7 : Fin 8), 1), (R.CAN_STATUS_MODE_NOW (7 : Fin 8), 0),
     (R.CAN_STATUS_MODE_NOW 7, 1)]).dev.get (R.CAN_FLT_BASE 7 ((at0 [(R.CAN_STATUS_MODE_NOW (7 : Fin 8), 1), (R.CAN_STATUS_MODE_NOW (7 : Fin 8), 0),
     (R.CAN_STATUS_MODE_NOW 7, 1)]).dev.get (R.CAN_CTRL_FLT_SEL 7))) * 16) (clipClassical {}) ((at0 [(R.CAN_STATUS_MODE_NOW (7 : Fin 8), 1),
     (R.CAN_STATUS_MODE_NOW (7 : Fin 8), 0), (R.CAN_STATUS_MODE_NOW 7, 1)]).dev.get (R.CAN_FLT_COUNT 7 ((at0 [(R.CAN_STATUS_MODE_NOW (7 : Fin 8), 1),
     (R.CAN_STATUS_MODE_NOW (7 : Fin 8), 0), (R.CAN_STATUS_MODE_NOW 7, 1)]).dev.get (R.CAN_CTRL_FLT_SEL 7)))) 0 (at0 [(R.CAN_STATUS_MODE_NOW (7 : Fin 8), 1),
     (R.CAN_STATUS_MODE_NOW (7 : Fin 8), 0), (R.CAN_STATUS_MODE_NOW 7, 1)]).dev).2), (at0 [(R.CAN_STATUS_MODE_NOW (7 : Fin 8), 1), (R.CAN_STATUS_MODE_NOW (7 :
     Fin 8), 0), (R.CAN_STATUS_MODE_NOW 7, 1)]), by decide +kernel⟩,
   ⟨(7 : Fin 8), ({} : CanFrame), (0 : Fin 0x1000000), Walk.fault, ((canWalk (at0 [(R.CAN_STATUS_MODE_NOW (7 : Fin 8), 1), (R.CAN_STATUS_MODE_NOW (7 : Fin 8),
     0), (R.CAN_STATUS_MODE_NOW 7, 1), (R.CAN_FLT_COUNT 7 0, 1)]).mem 7 ((at0 [(R.CAN_STATUS_MODE_NOW (7 : Fin 8), 1), (R.CAN_STATUS_MODE_NOW (7 : Fin 8), 0),
     (R.CAN_STATUS_MODE_NOW 7, 1), (R.CAN_FLT_COUNT 7 0, 1)]).dev.get (R.CAN_FLT_BASE 7 ((at0 [(R.CAN_STATUS_MODE_NOW (7 : Fin 8), 1), (R.CAN_STATUS_MODE_NOW
     (7 : Fin 8), 0), (R.CAN_STATUS_MODE_NOW 7, 1), (R.CAN_FLT_COUNT 7 0, 1)]).dev.get (R.CAN_CTRL_FLT_SEL 7))) * 16) (clipClassical {}) ((at0
     [(R.CAN_STATUS_MODE_NOW (7 : Fin 8), 1), (R.CAN_STATUS_MODE_NOW (7 : Fin 8), 0), (R.CAN_STATUS_MODE_NOW 7, 1), (R.CAN_FLT_COUNT 7 0, 1)]).dev.get
     (R.CAN_FLT_COUNT 7 ((at0 [(R.CAN_STATUS_MODE_NOW (7 : Fin 8), 1), (R.CAN_STATUS_MODE_NOW (7 : Fin 8), 0), (R.CAN_STATUS_MODE_NOW 7, 1), (R.CAN_FLT_COUNT
     7 0, 1)]).dev.get (R.CAN_CTRL_FLT_SEL 7)))) 0 (at0 [(R.CAN_STATUS_MODE_NOW (7 : Fin 8), 1), (R.CAN_STATUS_MODE_NOW (7 : Fin 8), 0),
     (R.CAN_STATUS_MODE_NOW 7, 1), (R.CAN_FLT_COUNT 7 0, 1)]).dev).2), (at0 [(R.CAN_STATUS_MODE_NOW (7 : Fin 8), 1), (R.CAN_STATUS_MODE_NOW (7 : Fin 8), 0),
     (R.CAN_STATUS_MODE_NOW 7, 1), (R.CAN_FLT_COUNT 7 0, 1)]), by decide +kernel⟩,
   ⟨(7 : Fin 8), ({ len := 9, fmt := 1 } : CanFrame), (0 : Fin 0x1000000), (Walk.take 0 0), ((canWalk
     { (at0 [(R.CAN_STATUS_MODE_NOW (7 : Fin 8), 1), (R.CAN_STATUS_MODE_NOW (7 : Fin 8), 0), (R.CAN_STATUS_MODE_NOW 7, 1), (R.CAN_FLT_COUNT 7 0, 1), (R.CAN_RXB_COUNT 7, 1), (R.CAN_CFG_AGENT 7, 0), (R.BANK_OWNER_AGENT 0, 0), (R.CAN_CFG_FD_EN 7, 1)]) with mem := [(3, 0x80), (11, 2)] }.mem
     7
     ({ (at0 [(R.CAN_STATUS_MODE_NOW (7 : Fin 8), 1), (R.CAN_STATUS_MODE_NOW (7 : Fin 8), 0), (R.CAN_STATUS_MODE_NOW 7, 1), (R.CAN_FLT_COUNT 7 0, 1), (R.CAN_RXB_COUNT 7, 1), (R.CAN_CFG_AGENT 7, 0), (R.BANK_OWNER_AGENT 0, 0), (R.CAN_CFG_FD_EN 7, 1)]) with mem := [(3, 0x80), (11, 2)] }.dev.get
     (R.CAN_FLT_BASE 7
     ({ (at0 [(R.CAN_STATUS_MODE_NOW (7 : Fin 8), 1), (R.CAN_STATUS_MODE_NOW (7 : Fin 8), 0), (R.CAN_STATUS_MODE_NOW 7, 1), (R.CAN_FLT_COUNT 7 0, 1), (R.CAN_RXB_COUNT 7, 1), (R.CAN_CFG_AGENT 7, 0), (R.BANK_OWNER_AGENT 0, 0), (R.CAN_CFG_FD_EN 7, 1)]) with mem := [(3, 0x80), (11, 2)] }.dev.get
     (R.CAN_CTRL_FLT_SEL 7))) * 16) (clipClassical { len := 9, fmt := 1 })
     ({ (at0 [(R.CAN_STATUS_MODE_NOW (7 : Fin 8), 1), (R.CAN_STATUS_MODE_NOW (7 : Fin 8), 0), (R.CAN_STATUS_MODE_NOW 7, 1), (R.CAN_FLT_COUNT 7 0, 1), (R.CAN_RXB_COUNT 7, 1), (R.CAN_CFG_AGENT 7, 0), (R.BANK_OWNER_AGENT 0, 0), (R.CAN_CFG_FD_EN 7, 1)]) with mem := [(3, 0x80), (11, 2)] }.dev.get
     (R.CAN_FLT_COUNT 7
     ({ (at0 [(R.CAN_STATUS_MODE_NOW (7 : Fin 8), 1), (R.CAN_STATUS_MODE_NOW (7 : Fin 8), 0), (R.CAN_STATUS_MODE_NOW 7, 1), (R.CAN_FLT_COUNT 7 0, 1), (R.CAN_RXB_COUNT 7, 1), (R.CAN_CFG_AGENT 7, 0), (R.BANK_OWNER_AGENT 0, 0), (R.CAN_CFG_FD_EN 7, 1)]) with mem := [(3, 0x80), (11, 2)] }.dev.get
     (R.CAN_CTRL_FLT_SEL 7)))) 0
     { (at0 [(R.CAN_STATUS_MODE_NOW (7 : Fin 8), 1), (R.CAN_STATUS_MODE_NOW (7 : Fin 8), 0), (R.CAN_STATUS_MODE_NOW 7, 1), (R.CAN_FLT_COUNT 7 0, 1), (R.CAN_RXB_COUNT 7, 1), (R.CAN_CFG_AGENT 7, 0), (R.BANK_OWNER_AGENT 0, 0), (R.CAN_CFG_FD_EN 7, 1)]) with mem := [(3, 0x80), (11, 2)] }.dev).2),
     { (at0 [(R.CAN_STATUS_MODE_NOW (7 : Fin 8), 1), (R.CAN_STATUS_MODE_NOW (7 : Fin 8), 0), (R.CAN_STATUS_MODE_NOW 7, 1), (R.CAN_FLT_COUNT 7 0, 1), (R.CAN_RXB_COUNT 7, 1), (R.CAN_CFG_AGENT 7, 0), (R.BANK_OWNER_AGENT 0, 0), (R.CAN_CFG_FD_EN 7, 1)]) with mem := [(3, 0x80), (11, 2)] },
     0, 0, by decide +kernel⟩,
   ⟨(({ bad := false, type := 1, ide := false, id1 := 0, id2 := 0, vcidEn := false, fmts := 1, vcid := 0, buf := 0 } : FltEntry)), ({} : CanFrame),
     by decide +kernel⟩,
   ⟨(({ bad := false, type := 2, ide := false, id1 := 0, id2 := 0, vcidEn := false, fmts := 1, vcid := 0, buf := 0 } : FltEntry)), ({} : CanFrame),
     by decide +kernel⟩,
   ⟨(({ bad := false, type := 3, ide := false, id1 := 0, id2 := 0, vcidEn := false, fmts := 1, vcid := 0, buf := 0 } : FltEntry)), ({} : CanFrame),
     by decide +kernel⟩,
   ⟨(({ bad := false, type := 0, ide := false, id1 := 0, id2 := 0, vcidEn := false, fmts := 1, vcid := 0, buf := 0 } : FltEntry)), ({} : CanFrame),
     by decide +kernel⟩,
   ⟨({ bad := false, type := 1, ide := false, id1 := 0, id2 := 0, vcidEn := false, fmts := 1, vcid := 0, buf := 0 } : FltEntry), ({ ide := true } : CanFrame),
     by decide +kernel⟩,
   ⟨(7 : Fin 8), ({ frame := {}, buf := 0, index := 0, ts := 0, tag := 0 } : CanStaged), ([] : List CanStaged), ((at0 []).on (fun d =>
     { d with can := [(7, { staged := [({ frame := {}, buf := 0, index := 0, ts := 0, tag := 0 } : CanStaged)] })] })), by decide +kernel⟩,
   ⟨(7 : Fin 8), ({ frame := {}, buf := 0, index := 0, ts := 0, tag := 0 } : CanStaged), ([] : List CanStaged), (Req.sys 0), 0, (orchRead ((at0
     [(R.CAN_CFG_AGENT 7, 0)]).on (fun d =>
     { d with can := [(7, { staged := [({ frame := {}, buf := 0, index := 0, ts := 0, tag := 0 } : CanStaged)] })] })).mem (((at0 [(R.CAN_CFG_AGENT 7, 0)]).on
     (fun d => { d with can := [(7, { staged := [({ frame := {}, buf := 0, index := 0, ts := 0, tag := 0 } : CanStaged)] })] })).dev.setCan 7
     { ((at0 [(R.CAN_CFG_AGENT 7, 0)]).on (fun d => { d with can := [(7, { staged := [({ frame := {}, buf := 0, index := 0, ts := 0, tag := 0 } : CanStaged)] })] })).dev.canSt 7 with staged := [] })
     (Req.sys 0) 0 8), ((at0 [(R.CAN_CFG_AGENT 7, 0)]).on (fun d =>
     { d with can := [(7, { staged := [({ frame := {}, buf := 0, index := 0, ts := 0, tag := 0 } : CanStaged)] })] })), by decide +kernel, by rfl,
     by decide +kernel, by rfl⟩,
   ⟨(7 : Fin 8), (at0 []), by decide +kernel⟩,
   ⟨(7 : Fin 8), (6 : Fin 7), false, false, (at0 [(R.CAN_STATUS_MODE_NOW (7 : Fin 8), 1), (R.CAN_STATUS_STATE (7 : Fin 8), 0), (R.CAN_STATUS_MODE_NOW 7, 1),
     (R.CAN_STATUS_TEC 7, 95)]), by decide +kernel⟩,
   ⟨(7 : Fin 8), (6 : Fin 7), false, false, (at0 [(R.CAN_STATUS_MODE_NOW (7 : Fin 8), 1), (R.CAN_STATUS_STATE (7 : Fin 8), 0), (R.CAN_STATUS_MODE_NOW 7, 1),
     (R.CAN_STATUS_TEC 7, 248)]), by decide +kernel⟩,
   ⟨(7 : Fin 8), (6 : Fin 7), false, false, (at0 [(R.CAN_STATUS_MODE_NOW (7 : Fin 8), 1), (R.CAN_STATUS_STATE (7 : Fin 8), 0), (R.CAN_STATUS_MODE_NOW 7, 1)]),
     by decide +kernel⟩,
   ⟨(7 : Fin 8), (6 : Fin 7), false, false, false, (at0 []), by decide +kernel⟩⟩

theorem witness_EngineWork :
    (∃ (e : Fin 48) (s : State), s.dev.get (R.ENG_STATUS_STATE e) = 2 ∧ s.dev.partner e = none ∧ s.dev.get (R.ENG_CFG_MODE e) = 1) ∧
    (∃ (e p : Fin 48) (s : State), s.dev.get (R.ENG_STATUS_STATE e) = 2 ∧ s.dev.follower e = false ∧ s.dev.partner e = some p.val ∧ s.dev.get (R.ENG_CFG_MODE
      e) = 1) ∧
    (∃ (e : Fin 48) (s : State), ((s.dev.get (R.ENG_STATUS_STATE e) ≠ 2 ∨ s.dev.follower e = true))) ∧
    (∃ (e : Fin 48) (s : State), s.dev.partner e = none ∧ s.dev.get (R.ENG_CFG_MODE e) ≠ 1) ∧
    (∃ (e : Fin 48) (rd : Fin 32) (sx : Bool) (l : Nat) (s : State), Issues s e ∧ s.dev.engState e = 2 ∧ l = s.dev.enabledLines e ∧ l ≠ 0) ∧
    (∃ (e : Fin 48) (rd : Fin 32) (sx : Bool) (s : State), Issues s e ∧ s.dev.engState e = 2 ∧ s.dev.enabledLines e = 0) ∧
    (∃ (e : Fin 48) (rd : Fin 32) (sx : Bool) (s : State), Issues s e ∧ s.dev.engState e = 5 ∧ s.dev.enabledLines e = 0) ∧
    (∃ (e : Fin 48) (rd : Nat) (sx : Bool) (l : Nat) (s : State), (s.dev.engine e).wait = some (.events rd sx) ∧ s.dev.follower e = false ∧ l =
      s.dev.enabledLines e ∧ l ≠ 0 ∧ (s.dev.engine e).haltReq = false) ∧
    (∃ (e : Fin 48) (s : State), ((s.dev.enabledLines e = 0 ∨ ∀ rd sx, (s.dev.engine e).wait ≠ some (.events rd sx)))) ∧
    (∃ (e : Fin 48) (rd : Nat) (sx : Bool) (s : State), (s.dev.engine e).wait = some (.events rd sx) ∧ s.dev.follower e = false ∧ (s.dev.engine e).limit ≠ 0 ∧
      (s.dev.engine e).haltReq = false ∧ s.dev.enabledLines e = 0 ∧ s.dev.now = (s.dev.engine e).waitAt + (s.dev.engine e).limit) ∧
    (∃ (e : Fin 48) (rd : Nat) (sx : Bool) (s : State), (s.dev.engine e).wait = some (.events rd sx) ∧ s.dev.follower e = false ∧ (s.dev.engine e).limit ≠ 0 ∧
      (s.dev.engine e).haltReq = false) ∧
    (∃ (e : Fin 48) (s : State), (((s.dev.engine e).limit = 0 ∨ ∀ rd sx, (s.dev.engine e).wait ≠ some (.events rd sx)))) :=
  ⟨⟨(47 : Fin 48), (at0 [(R.ENG_STATUS_STATE (47 : Fin 48), 2), (R.ENG_CFG_MODE (47 : Fin 48), 1)]), by decide +kernel⟩,
   ⟨(46 : Fin 48), (47 : Fin 48), (at0 [(R.ENG_STATUS_STATE (46 : Fin 48), 2), (R.ENG_CFG_MODE (46 : Fin 48), 1), (R.TEAM_CFG2_LS23 11, 1),
     (R.ENG_STATUS_STATE 46, 2)]), by decide +kernel⟩,
   ⟨(47 : Fin 48), (at0 []), by decide +kernel⟩,
   ⟨(47 : Fin 48), (at0 [(R.ENG_CFG_MODE (47 : Fin 48), 0)]), by decide +kernel⟩,
   ⟨(47 : Fin 48), (31 : Fin 32), false, 1, ((at0 [(R.ENG_STATUS_STATE 47, 2)]).on (fun d => { d with eng := [(47, { evPend := 1, evMask := 1 })] })),
     by decide +kernel⟩,
   ⟨(47 : Fin 48), (31 : Fin 32), false, (at0 [(R.ENG_STATUS_STATE 47, 2)]), by decide +kernel⟩,
   ⟨(47 : Fin 48), (31 : Fin 32), false, ((at0 [(R.ENG_STATUS_STATE 47, 5)]).on (fun d => { d with eng := [(47, { slot := some 8 })] })), by decide +kernel⟩,
   ⟨(47 : Fin 48), 3, true, 1, ((at0 []).on (fun d => { d with eng := [(47, { evPend := 1, evMask := 1,wait := some (.events 3 true) })] })),
     by decide +kernel⟩,
   ⟨(47 : Fin 48), (at0 []), (by exact Or.inl (by decide +kernel))⟩,
   ⟨(47 : Fin 48), 3, true, ((at0 []).on (fun d => { d with eng := [(47, { wait := some (.events 3 true), limit := 5 })], now := 5 })), by decide +kernel⟩,
   ⟨(47 : Fin 48), 3, true, ((at0 []).on (fun d => { d with eng := [(47, { wait := some (.events 3 true), limit := 5 })] })), by decide +kernel⟩,
   ⟨(47 : Fin 48), (at0 []), (by exact Or.inl (by decide +kernel))⟩⟩

theorem witness_EngineRings :
    (∃ (e : Fin 48) (v : W32) (n tail : Nat) (s : State), n = s.dev.get (R.ENG_TXR_CFG_COUNT e) ∧ tail = s.dev.get (R.ENG_TX_IDX_TAIL e) ∧ v.toNat < n ∧ (tail
      + n - s.dev.get (R.ENG_TX_IDX_HEAD e)) % n + (v.toNat + n - tail) % n < n) ∧
    (∃ (e : Fin 48) (v : W32) (n tail : Nat) (s : State), n = s.dev.get (R.ENG_TXR_CFG_COUNT e) ∧ tail = s.dev.get (R.ENG_TX_IDX_TAIL e) ∧ ((n ≤ v.toNat ∨ n ≤
      (tail + n - s.dev.get (R.ENG_TX_IDX_HEAD e)) % n + (v.toNat + n - tail) % n))) ∧
    (∃ (t : Fin 12) (s : State), ((∀ i < 4, s.dev.get (R.ENG_TX_IDX_HEAD (t * 4 + i)) = s.dev.get (R.ENG_TX_IDX_TAIL (t * 4 + i))))) ∧
    (∃ (t : Fin 12) (e h a : Nat) (credits : Tab Nat) (x : TxEntry) (s : State), pickRing s.mem s.dev t = some (e, credits) ∧ h = s.dev.get (R.ENG_TX_IDX_HEAD
      e) ∧ a = s.dev.get (R.ENG_TXR_BASE e) * 64 + 32 * h ∧ x = txEntry (Mem.bytes s.mem a 32) (26 + t) false ∧ s.dev.teamOwns t a 32 = true ∧ s.dev.eccAt (a
      + 24) = none ∧ s.dev.regionAt ((a + 31) / 0x80000) ((a + 31) % 0x80000) 1 = none ∧ x.bad = true) ∧
    (∃ (t : Fin 12) (e h a : Nat) (credits : Tab Nat) (x : TxEntry) (s : State) (y : Nat × List Nat), pickRing s.mem s.dev t = some (e, credits) ∧ h =
      s.dev.get (R.ENG_TX_IDX_HEAD e) ∧ a = s.dev.get (R.ENG_TXR_BASE e) * 64 + 32 * h ∧ x = txEntry (Mem.bytes s.mem a 32) (26 + t) false ∧ s.dev.teamOwns t
      a 32 = true ∧ s.dev.eccAt (a + 24) = none ∧ s.dev.regionAt ((a + 31) / 0x80000) ((a + 31) % 0x80000) 1 = none ∧ x.bad = false ∧ x.stride = true ∧
      Tab.find? (s.dev.engine e).txLate h = some y) ∧
    (∃ (t : Fin 12) (e h a : Nat) (credits : Tab Nat) (x : TxEntry) (s : State), pickRing s.mem s.dev t = some (e, credits) ∧ h = s.dev.get (R.ENG_TX_IDX_HEAD
      e) ∧ a = s.dev.get (R.ENG_TXR_BASE e) * 64 + 32 * h ∧ x = txEntry (Mem.bytes s.mem a 32) (26 + t) false ∧ s.dev.teamOwns t a 32 = true ∧ s.dev.eccAt (a
      + 24) = none ∧ s.dev.regionAt ((a + 31) / 0x80000) ((a + 31) % 0x80000) 1 = none ∧ x.bad = false ∧ ((x.stride = true → Tab.find? (s.dev.engine e).txLate
      h = none)) ∧ s.dev.teamOwns t x.addr x.len = false) ∧
    (∃ (t : Fin 12) (e h a : Nat) (credits : Tab Nat) (x : TxEntry) (r : List Byte × Dev) (s : State), pickRing s.mem s.dev t = some (e, credits) ∧ h =
      s.dev.get (R.ENG_TX_IDX_HEAD e) ∧ a = s.dev.get (R.ENG_TXR_BASE e) * 64 + 32 * h ∧ x = txEntry (Mem.bytes s.mem a 32) (26 + t) false ∧ s.dev.teamOwns t
      a 32 = true ∧ x.bad = false ∧ ((x.stride = true → Tab.find? (s.dev.engine e).txLate h = none)) ∧ s.dev.teamOwns t x.addr x.len = true ∧ r = orchRead
      s.mem (s.dev.withFab (fun f => { f with deficit := credits })) (.sys t) x.addr x.len) ∧
    (∃ (t : Fin 12) (e a : Nat) (credits : Tab Nat) (s : State), pickRing s.mem s.dev t = some (e, credits) ∧ a = s.dev.get (R.ENG_TXR_BASE e) * 64 + 32 *
      s.dev.get (R.ENG_TX_IDX_HEAD e) ∧ s.dev.teamOwns t a 32 = false) ∧
    (∃ (e : Fin 48) (c : Copy) (ride : Bool) (s : State), s.dev.get (R.ENG_RXR_CFG_COUNT e) = 0) ∧
    (∃ (e : Fin 48) (c : Copy) (ride : Bool) (s : State), s.dev.get (R.ENG_RXR_CFG_COUNT e) ≠ 0 ∧ (orchRead s.mem s.dev (.sys (e / 4)) (s.dev.get
      (R.ENG_RXR_BASE e) * 64 + 32 * (s.dev.engine e).rxNext + 31) 1).1 = [1]) ∧
    (∃ (e : Fin 48) (c : Copy) (ride : Bool) (s : State), s.dev.get (R.ENG_RXR_CFG_COUNT e) ≠ 0 ∧ (orchRead s.mem s.dev (.sys (e / 4)) (s.dev.get
      (R.ENG_RXR_BASE e) * 64 + 32 * (s.dev.engine e).rxNext + 31) 1).1 ≠ [1]) ∧
    (∃ (t : Fin 12) (c : Copy) (d : Dev) (s : State), s.dev.takeFrame (26 + t) = (some c, d)) ∧
    (∃ (t : Fin 12) (d : Dev) (s : State), s.dev.takeFrame (26 + t) = (none, d)) :=
  ⟨⟨(47 : Fin 48), (0 : W32), 64, 0, (at0 [(R.ENG_TXR_CFG_COUNT 47, 64)]), by decide +kernel⟩,
   ⟨(47 : Fin 48), (0 : W32), 0, 0, (at0 []), by decide +kernel⟩,
   ⟨(11 : Fin 12), (at0 []), by decide +kernel⟩,
   ⟨(11 : Fin 12), 47, 0, 0, (((pickRing
     { (at0 [(R.ENG_TXR_CFG_COUNT 47, 64), (R.ENG_TX_IDX_TAIL 47, 1), (R.BANK_OWNER_AGENT 0, 11)]) with mem := [(4, 60), (7, 255), (11, 1)] }.mem
     { (at0 [(R.ENG_TXR_CFG_COUNT 47, 64), (R.ENG_TX_IDX_TAIL 47, 1), (R.BANK_OWNER_AGENT 0, 11)]) with mem := [(4, 60), (7, 255), (11, 1)] }.dev 11).map
     Prod.snd).getD []), (txEntry (Mem.bytes
     { (at0 [(R.ENG_TXR_CFG_COUNT 47, 64), (R.ENG_TX_IDX_TAIL 47, 1), (R.BANK_OWNER_AGENT 0, 11)]) with mem := [(4, 60), (7, 255), (11, 1)] }.mem 0 32) (26 +
     (11 : Fin 12)) false),
     { (at0 [(R.ENG_TXR_CFG_COUNT 47, 64), (R.ENG_TX_IDX_TAIL 47, 1), (R.BANK_OWNER_AGENT 0, 11)]) with mem := [(4, 60), (7, 255), (11, 1)] },
     by decide +kernel, by decide +kernel, by decide +kernel, by rfl, by decide +kernel, by decide +kernel, by decide +kernel, by decide +kernel⟩,
   ⟨11, 47, 0, 0, credits11 ((ring11 [(4, 60), (7, 255), (10, 8)]).on (fun d => { d with eng := [(47, { txLate := [(0, (0, []))] })] })), _, ((ring11 [(4,
     60), (7, 255), (10, 8)]).on (fun d => { d with eng := [(47, { txLate := [(0, (0, []))] })] })), (0, []), by decide +kernel, by decide +kernel,
     by decide +kernel, rfl, by decide +kernel⟩,
   ⟨11, 47, 0, 0, credits11 (ring11 [(3, 1), (4, 60), (7, 255)]), _, (ring11 [(3, 1), (4, 60), (7, 255)]), by decide +kernel, by decide +kernel,
     by decide +kernel, rfl, by decide +kernel⟩,
   ⟨11, 47, 0, 0, credits11 (ring11 [(4, 60), (7, 255)]), _, _, (ring11 [(4, 60), (7, 255)]), by decide +kernel, by decide +kernel, by decide +kernel, rfl,
     by decide +kernel, by decide +kernel, by decide +kernel, by decide +kernel, rfl⟩,
   ⟨11, 47, 0, credits11 ((ring11 []).on (fun d => d.set (R.BANK_OWNER_AGENT 0) 12)), ((ring11 []).on (fun d => d.set (R.BANK_OWNER_AGENT 0) 12)),
     by decide +kernel⟩,
   ⟨(47 : Fin 48), ({ src := 0, dst := 0, cls := 0, bytes := [] } : Copy), false, (at0 [(R.ENG_RXR_CFG_COUNT (47 : Fin 48), 0)]), by decide +kernel⟩,
   ⟨(47 : Fin 48), ({ src := 0, dst := 0, cls := 0, bytes := [] } : Copy), false,
     { (at0 [(R.ENG_RXR_CFG_COUNT (47 : Fin 48), 1), (R.ENG_RXR_CFG_COUNT 47, 64), (R.BANK_OWNER_AGENT 0, 11)]) with mem := [(31, 1)] }, by decide +kernel⟩,
   ⟨(47 : Fin 48), ({ src := 0, dst := 0, cls := 0, bytes := [] } : Copy), false, (at0 [(R.ENG_RXR_CFG_COUNT (47 : Fin 48), 1)]), by decide +kernel⟩,
   ⟨11, ((sends1 [] 37 { copy := fr 37 }).dev.takeFrame 37).1.getD (fr 0), ((sends1 [] 37 { copy := fr 37 }).dev.takeFrame 37).2, (sends1 [] 37
     { copy := fr 37 }), by decide +kernel⟩,
   ⟨11, ((at0 []).dev.takeFrame 37).2, at0 [], by decide +kernel⟩⟩

theorem witness_EngineHaltAndRestart :
    (∃ (w : Writer) (e : Fin 48) (s : State), Grants s w (R.ENG_STATUS_STATE e) ∧ ((s.dev.engState e = 4 ∨
      (s.dev.engState e = 2 ∨ s.dev.engState e = 3 ∨ s.dev.engState e = 5) ∧ (s.dev.engine e).slot = none))) ∧
    (∃ (w : Writer) (e : Fin 48) (k : Nat) (s : State), Grants s w (R.ENG_STATUS_STATE e) ∧ (s.dev.engState e = 2 ∨ s.dev.engState e = 3 ∨
      s.dev.engState e = 5) ∧ (s.dev.engine e).slot.isSome = true ∧ k = (if s.dev.follower e then e.val - 1 else e.val)) ∧
    (∃ (w : Writer) (e : Fin 48) (s : State), Grants s w (R.ENG_STATUS_STATE e) ∧ ((s.dev.engState e = 0 ∨ s.dev.engState e = 1 ∨ s.dev.engState e = 6 ∨
      s.dev.engState e = 7))) ∧
    (∃ (d : Dev) (e : Nat), e < 48 ∧ (d.engine e).haltReq = true ∧ (d.engine e).slot.isSome = true ∧ (d.engine e).wait = none ∧ d.partner e = none) ∧
    (∃ (w : Writer) (e : Fin 48) (s : State), Grants s w (R.ENG_STATUS_STATE e) ∧ s.dev.engState e = 6 ∧ s.dev.partner e = none) ∧
    (∃ (w : Writer) (e : Fin 48) (p : Nat) (s : State), Grants s w (R.ENG_STATUS_STATE e) ∧ s.dev.engState e = 6 ∧ s.dev.partner e = some p ∧ s.dev.engState p
      = 6 ∧ s.dev.get (R.ENG_CFG_MODE (min e p)) = 1) ∧
    (∃ (w : Writer) (e : Fin 48) (s : State), Grants s w (R.ENG_STATUS_STATE e) ∧ s.dev.engState e ≠ 6) ∧
    (∃ (w : Writer) (e : Fin 48) (s : State), Grants s w (R.ENG_STATUS_STATE e)) ∧
    (∃ (s : State), s.dev.get R.BRIDLE_STATUS_STATE ≠ 1 ∧ s.dev.sys.starting = false ∧ s.dev.on R.SEC_STATUS_STORED_VALID = true) ∧
    (∃ (s : State), s.dev.get R.BRIDLE_STATUS_STATE ≠ 1 ∧ s.dev.sys.starting = false ∧ s.dev.on R.SEC_STATUS_STORED_VALID = false) ∧
    (∃ (s : State), ((s.dev.get R.BRIDLE_STATUS_STATE = 1 ∨ s.dev.sys.starting = true))) :=
  ⟨⟨Writer.bridle, (47 : Fin 48), (at0 [(R.ENG_STATUS_STATE 47, 2)]), by decide +kernel⟩,
   ⟨Writer.bridle, (47 : Fin 48), 46, ((at0 [(R.ENG_STATUS_STATE 47, 5), (R.TEAM_CFG2_LS23 11, 1)]).on (fun d =>
     { d with eng := [(47, { slot := some 8 })] })), by decide +kernel⟩,
   ⟨Writer.bridle, (47 : Fin 48), (at0 []), by decide +kernel⟩,
   ⟨((at0 []).on (fun d => { d with eng := [(0, { slot := some 8, haltReq := true })] })).dev, 0, by decide +kernel⟩,
   ⟨Writer.bridle, (47 : Fin 48), (at0 [(R.ENG_STATUS_STATE 47, 6)]), by decide +kernel⟩,
   ⟨Writer.bridle, (47 : Fin 48), 46, (at0 [(R.ENG_CFG_MODE (47 : Fin 48), 1), (R.ENG_CFG_MODE 46, 1), (R.TEAM_CFG2_LS23 11, 1), (R.ENG_STATUS_STATE 46, 6),
     (R.ENG_STATUS_STATE 47, 6), (R.ENG_CFG_MODE 46, 1)]), by decide +kernel⟩,
   ⟨Writer.bridle, (47 : Fin 48), (at0 []), by decide +kernel⟩,
   ⟨Writer.bridle, (47 : Fin 48), (at0 []), by decide +kernel⟩,
   ⟨((at0 [(R.BRIDLE_STATUS_STATE, 0), (R.SEC_STATUS_STORED_VALID, 1)]).on (fun d => { d with sys := { starting := false } })), by decide +kernel⟩,
   ⟨((at0 [(R.BRIDLE_STATUS_STATE, 0), (R.SEC_STATUS_STORED_VALID, 0)]).on (fun d => { d with sys := { starting := false } })), by decide +kernel⟩,
   ⟨(at0 []), by decide +kernel⟩⟩

theorem witness_ZhofaArithmetic :
    (∃ (e : Fin 49) (rd rs rt : Fin 32) (s : State) (a b c : Nat), Issues s e ∧ a = s.dev.greg e rs ∧ b = s.dev.greg e rt ∧ c = s.dev.greg e rd ∧
      -549755813888 ≤ S40 a + S40 b ∧ S40 a + S40 b ≤ 549755813887) ∧
    (∃ (e : Fin 49) (rd rs rt : Fin 32) (s : State) (a b c : Nat), Issues s e ∧ a = s.dev.greg e rs ∧ b = s.dev.greg e rt ∧ c = s.dev.greg e rd ∧
      -549755813888 ≤ S40 a - S40 b ∧ S40 a - S40 b ≤ 549755813887) ∧
    (∃ (e : Fin 49) (rd rs rt : Fin 32) (s : State) (a b c : Nat), Issues s e ∧ a = s.dev.greg e rs ∧ b = s.dev.greg e rt ∧ c = s.dev.greg e rd ∧
      -549755813888 ≤ S40 a * S40 b ∧ S40 a * S40 b ≤ 549755813887) ∧
    (∃ (e : Fin 49) (rd rs rt : Fin 32) (s : State) (a b c : Nat), Issues s e ∧ a = s.dev.greg e rs ∧ b = s.dev.greg e rt ∧ c = s.dev.greg e rd ∧
      -549755813888 ≤ S40 c + S40 a * S40 b ∧ S40 c + S40 a * S40 b ≤ 549755813887) ∧
    (∃ (e : Fin 49) (rd rs rt : Fin 32) (s : State) (a b c : Nat), Issues s e ∧ a = s.dev.greg e rs ∧ b = s.dev.greg e rt ∧ c = s.dev.greg e rd ∧
      -549755813888 ≤ -(S40 a) ∧ -(S40 a) ≤ 549755813887) ∧
    (∃ (e : Fin 49) (rd rs rt : Fin 32) (s : State) (a b c : Nat), Issues s e ∧ a = s.dev.greg e rs ∧ b = s.dev.greg e rt ∧ c = s.dev.greg e rd ∧
      -549755813888 ≤ ((S40 a).natAbs : Int) ∧ ((S40 a).natAbs : Int) ≤ 549755813887) ∧
    (∃ (e : Fin 49) (rd rs rt : Fin 32) (s : State) (a b c : Nat), Issues s e ∧ a = s.dev.greg e rs ∧ b = s.dev.greg e rt ∧ c = s.dev.greg e rd ∧
      -549755813888 ≤ S40 c + (BitVec.ofNat 16 a).toInt * (BitVec.ofNat 16 b).toInt ∧ S40 c + (BitVec.ofNat 16 a).toInt * (BitVec.ofNat 16 b).toInt ≤
      549755813887) ∧
    (∃ (e : Fin 49) (rd rs rt : Fin 32) (s : State) (a b c : Nat), Issues s e ∧ a = s.dev.greg e rs ∧ b = s.dev.greg e rt ∧ c = s.dev.greg e rd ∧ S40 a + S40
      b < -549755813888) ∧
    (∃ (e : Fin 49) (rd rs rt : Fin 32) (s : State) (a b c : Nat), Issues s e ∧ a = s.dev.greg e rs ∧ b = s.dev.greg e rt ∧ c = s.dev.greg e rd ∧ 549755813887
      < S40 a + S40 b) ∧
    (∃ (e : Fin 49) (rd rs rt : Fin 32) (s : State) (a b c : Nat), Issues s e ∧ a = s.dev.greg e rs ∧ b = s.dev.greg e rt ∧ c = s.dev.greg e rd ∧ S40 a - S40
      b < -549755813888) ∧
    (∃ (e : Fin 49) (rd rs rt : Fin 32) (s : State) (a b c : Nat), Issues s e ∧ a = s.dev.greg e rs ∧ b = s.dev.greg e rt ∧ c = s.dev.greg e rd ∧ 549755813887
      < S40 a - S40 b) ∧
    (∃ (e : Fin 49) (rd rs rt : Fin 32) (s : State) (a b c : Nat), Issues s e ∧ a = s.dev.greg e rs ∧ b = s.dev.greg e rt ∧ c = s.dev.greg e rd ∧ S40 a * S40
      b < -549755813888) ∧
    (∃ (e : Fin 49) (rd rs rt : Fin 32) (s : State) (a b c : Nat), Issues s e ∧ a = s.dev.greg e rs ∧ b = s.dev.greg e rt ∧ c = s.dev.greg e rd ∧ 549755813887
      < S40 a * S40 b) ∧
    (∃ (e : Fin 49) (rd rs rt : Fin 32) (s : State) (a b c : Nat), Issues s e ∧ a = s.dev.greg e rs ∧ b = s.dev.greg e rt ∧ c = s.dev.greg e rd ∧ S40 c + S40
      a * S40 b < -549755813888) ∧
    (∃ (e : Fin 49) (rd rs rt : Fin 32) (s : State) (a b c : Nat), Issues s e ∧ a = s.dev.greg e rs ∧ b = s.dev.greg e rt ∧ c = s.dev.greg e rd ∧ 549755813887
      < S40 c + S40 a * S40 b) ∧
    (∃ (e : Fin 49) (rd rs rt : Fin 32) (s : State) (a b c : Nat), Issues s e ∧ a = s.dev.greg e rs ∧ b = s.dev.greg e rt ∧ c = s.dev.greg e rd ∧ S40 c +
      (BitVec.ofNat 16 a).toInt * (BitVec.ofNat 16 b).toInt < -549755813888) ∧
    (∃ (e : Fin 49) (rd rs rt : Fin 32) (s : State) (a b c : Nat), Issues s e ∧ a = s.dev.greg e rs ∧ b = s.dev.greg e rt ∧ c = s.dev.greg e rd ∧ 549755813887
      < S40 c + (BitVec.ofNat 16 a).toInt * (BitVec.ofNat 16 b).toInt) ∧
    (∃ (e : Fin 49) (rd rs rt : Fin 32) (s : State) (a b c : Nat), Issues s e ∧ a = s.dev.greg e rs ∧ b = s.dev.greg e rt ∧ c = s.dev.greg e rd ∧ S40 a =
      -549755813888) ∧
    (∃ (e : Fin 49) (rd rs rt : Fin 32) (s : State) (a b c : Nat), Issues s e ∧ a = s.dev.greg e rs ∧ b = s.dev.greg e rt ∧ c = s.dev.greg e rd ∧ S40 a =
      -549755813888) ∧
    (∃ (e : Fin 49) (rd rs rt : Fin 32) (s : State) (a b c : Nat), Issues s e ∧ a = s.dev.greg e rs ∧ b = s.dev.greg e rt ∧ c = s.dev.greg e rd ∧ b = 0) ∧
    (∃ (e : Fin 49) (rd rs rt : Fin 32) (s : State) (a b c : Nat), Issues s e ∧ a = s.dev.greg e rs ∧ b = s.dev.greg e rt ∧ c = s.dev.greg e rd ∧ b = 0) ∧
    (∃ (e : Fin 49) (rd rs rt : Fin 32) (s : State) (a b c : Nat), Issues s e ∧ a = s.dev.greg e rs ∧ b = s.dev.greg e rt ∧ c = s.dev.greg e rd ∧ b = 0) ∧
    (∃ (e : Fin 49) (rd rs rt : Fin 32) (s : State) (a b c : Nat), Issues s e ∧ a = s.dev.greg e rs ∧ b = s.dev.greg e rt ∧ c = s.dev.greg e rd ∧ b = 0) ∧
    (∃ (e : Fin 49) (rd rs rt : Fin 32) (s : State) (a b c : Nat), Issues s e ∧ a = s.dev.greg e rs ∧ b = s.dev.greg e rt ∧ c = s.dev.greg e rd ∧ b ≠ 0) ∧
    (∃ (e : Fin 49) (rd rs rt : Fin 32) (s : State) (a b c : Nat), Issues s e ∧ a = s.dev.greg e rs ∧ b = s.dev.greg e rt ∧ c = s.dev.greg e rd ∧ b ≠ 0) ∧
    (∃ (e : Fin 49) (rd rs rt : Fin 32) (s : State) (a b c : Nat), Issues s e ∧ a = s.dev.greg e rs ∧ b = s.dev.greg e rt ∧ c = s.dev.greg e rd ∧ S40 a =
      -549755813888 ∧ S40 b = -1) ∧
    (∃ (e : Fin 49) (rd rs rt : Fin 32) (s : State) (a b c : Nat), Issues s e ∧ a = s.dev.greg e rs ∧ b = s.dev.greg e rt ∧ c = s.dev.greg e rd ∧ S40 a =
      -549755813888 ∧ S40 b = -1) ∧
    (∃ (e : Fin 49) (rd rs rt : Fin 32) (s : State) (a b c : Nat), Issues s e ∧ a = s.dev.greg e rs ∧ b = s.dev.greg e rt ∧ c = s.dev.greg e rd ∧ b ≠ 0 ∧
      ((S40 a ≠ -549755813888 ∨ S40 b ≠ -1))) ∧
    (∃ (e : Fin 49) (rd rs rt : Fin 32) (s : State) (a b c : Nat), Issues s e ∧ a = s.dev.greg e rs ∧ b = s.dev.greg e rt ∧ c = s.dev.greg e rd ∧ b ≠ 0 ∧
      ((S40 a ≠ -549755813888 ∨ S40 b ≠ -1))) ∧
    (∃ (e : Fin 49) (rd rs : Fin 32) (n : Fin 64) (s : State) (a : Nat), Issues s e ∧ a = s.dev.greg e rs) ∧
    (∃ (e : Fin 49) (rd rs : Fin 32) (i : BitVec 16) (j : BitVec 21) (k : Byte) (s : State) (a : Nat), Issues s e ∧ a = s.dev.greg e rs ∧ -549755813888 ≤ S40
      a + i.toInt ∧ S40 a + i.toInt ≤ 549755813887) ∧
    (∃ (e : Fin 49) (rd rs : Fin 32) (i : BitVec 16) (j : BitVec 21) (k : Byte) (s : State) (a : Nat), Issues s e ∧ a = s.dev.greg e rs ∧ S40 a + i.toInt <
      -549755813888) ∧
    (∃ (e : Fin 49) (rd rs : Fin 32) (i : BitVec 16) (j : BitVec 21) (k : Byte) (s : State) (a : Nat), Issues s e ∧ a = s.dev.greg e rs ∧ 549755813887 < S40 a
      + i.toInt) :=
  ⟨⟨(47 : Fin 49), (3 : Fin 32), (1 : Fin 32), (2 : Fin 32), ((at0 [(R.ENG_STATUS_STATE 47, 2)]).on (fun d =>
     { d with eng := [(47, { g := [(1, 0x7FFFFFFFFF), (2, 0), (3, 0)] })] })), 0x7FFFFFFFFF, 0, 0, by decide +kernel⟩,
   ⟨47, 3, 1, 2, (eng47 549755813887 0), 549755813887, 0, 0, by decide +kernel⟩,
   ⟨47, 3, 1, 2, (eng47 549755813887 1), 549755813887, 1, 0, by decide +kernel⟩,
   ⟨47, 3, 1, 2, (eng47 549755813887 1), 549755813887, 1, 0, by decide +kernel⟩,
   ⟨47, 3, 1, 2, (eng47 549755813887 0), 549755813887, 0, 0, by decide +kernel⟩,
   ⟨47, 3, 1, 2, (eng47 549755813887 0), 549755813887, 0, 0, by decide +kernel⟩,
   ⟨47, 3, 1, 2, (eng47 32767 32767), 32767, 32767, 0, by decide +kernel⟩,
   ⟨(47 : Fin 49), (3 : Fin 32), (1 : Fin 32), (2 : Fin 32), ((at0 [(R.ENG_STATUS_STATE 47, 2)]).on (fun d =>
     { d with eng := [(47, { g := [(1, 0x8000000000), (2, 0xFFFFFFFFFF), (3, 0)] })] })), 0x8000000000, 0xFFFFFFFFFF, 0, by decide +kernel⟩,
   ⟨(47 : Fin 49), (3 : Fin 32), (1 : Fin 32), (2 : Fin 32), ((at0 [(R.ENG_STATUS_STATE 47, 2)]).on (fun d =>
     { d with eng := [(47, { g := [(1, 0x7FFFFFFFFF), (2, 1), (3, 0)] })] })), 0x7FFFFFFFFF, 1, 0, by decide +kernel⟩,
   ⟨47, 3, 1, 2, (eng47 549755813888 1), 549755813888, 1, 0, by decide +kernel⟩,
   ⟨47, 3, 1, 2, (eng47 549755813887 1099511627775), 549755813887, 1099511627775, 0, by decide +kernel⟩,
   ⟨47, 3, 1, 2, (eng47 549755813888 2), 549755813888, 2, 0, by decide +kernel⟩,
   ⟨47, 3, 1, 2, (eng47 549755813887 2), 549755813887, 2, 0, by decide +kernel⟩,
   ⟨47, 3, 1, 2, ((eng47 1 1099511627775).on (fun d => d.setGreg 47 3 549755813888)), 1, 1099511627775, 549755813888, by decide +kernel⟩,
   ⟨47, 3, 1, 2, ((eng47 1 1).on (fun d => d.setGreg 47 3 549755813887)), 1, 1, 549755813887, by decide +kernel⟩,
   ⟨47, 3, 1, 2, ((eng47 1 65535).on (fun d => d.setGreg 47 3 549755813888)), 1, 65535, 549755813888, by decide +kernel⟩,
   ⟨47, 3, 1, 2, ((eng47 1 1).on (fun d => d.setGreg 47 3 549755813887)), 1, 1, 549755813887, by decide +kernel⟩,
   ⟨(47 : Fin 49), (3 : Fin 32), (1 : Fin 32), (2 : Fin 32), ((at0 [(R.ENG_STATUS_STATE 47, 2)]).on (fun d =>
     { d with eng := [(47, { g := [(1, 0x8000000000), (2, 0), (3, 0)] })] })), 0x8000000000, 0, 0, by decide +kernel⟩,
   ⟨(47 : Fin 49), (3 : Fin 32), (1 : Fin 32), (2 : Fin 32), ((at0 [(R.ENG_STATUS_STATE 47, 2)]).on (fun d =>
     { d with eng := [(47, { g := [(1, 0x8000000000), (2, 0), (3, 0)] })] })), 0x8000000000, 0, 0, by decide +kernel⟩,
   ⟨(47 : Fin 49), (3 : Fin 32), (1 : Fin 32), (2 : Fin 32), ((at0 [(R.ENG_STATUS_STATE 47, 2)]).on (fun d =>
     { d with eng := [(47, { g := [(1, 7), (2, 0), (3, 0)] })] })), 7, 0, 0, by decide +kernel⟩,
   ⟨(47 : Fin 49), (3 : Fin 32), (1 : Fin 32), (2 : Fin 32), ((at0 [(R.ENG_STATUS_STATE 47, 2)]).on (fun d =>
     { d with eng := [(47, { g := [(1, 7), (2, 0), (3, 0)] })] })), 7, 0, 0, by decide +kernel⟩,
   ⟨(47 : Fin 49), (3 : Fin 32), (1 : Fin 32), (2 : Fin 32), ((at0 [(R.ENG_STATUS_STATE 47, 2)]).on (fun d =>
     { d with eng := [(47, { g := [(1, 7), (2, 0), (3, 0)] })] })), 7, 0, 0, by decide +kernel⟩,
   ⟨(47 : Fin 49), (3 : Fin 32), (1 : Fin 32), (2 : Fin 32), ((at0 [(R.ENG_STATUS_STATE 47, 2)]).on (fun d =>
     { d with eng := [(47, { g := [(1, 7), (2, 0), (3, 0)] })] })), 7, 0, 0, by decide +kernel⟩,
   ⟨(47 : Fin 49), (3 : Fin 32), (1 : Fin 32), (2 : Fin 32), ((at0 [(R.ENG_STATUS_STATE 47, 2)]).on (fun d =>
     { d with eng := [(47, { g := [(1, 7), (2, 2), (3, 0)] })] })), 7, 2, 0, by decide +kernel⟩,
   ⟨(47 : Fin 49), (3 : Fin 32), (1 : Fin 32), (2 : Fin 32), ((at0 [(R.ENG_STATUS_STATE 47, 2)]).on (fun d =>
     { d with eng := [(47, { g := [(1, 7), (2, 2), (3, 0)] })] })), 7, 2, 0, by decide +kernel⟩,
   ⟨(47 : Fin 49), (3 : Fin 32), (1 : Fin 32), (2 : Fin 32), ((at0 [(R.ENG_STATUS_STATE 47, 2)]).on (fun d =>
     { d with eng := [(47, { g := [(1, 0x8000000000), (2, 0xFFFFFFFFFF), (3, 0)] })] })), 0x8000000000, 0xFFFFFFFFFF, 0, by decide +kernel⟩,
   ⟨(47 : Fin 49), (3 : Fin 32), (1 : Fin 32), (2 : Fin 32), ((at0 [(R.ENG_STATUS_STATE 47, 2)]).on (fun d =>
     { d with eng := [(47, { g := [(1, 0x8000000000), (2, 0xFFFFFFFFFF), (3, 0)] })] })), 0x8000000000, 0xFFFFFFFFFF, 0, by decide +kernel⟩,
   ⟨(47 : Fin 49), (3 : Fin 32), (1 : Fin 32), (2 : Fin 32), ((at0 [(R.ENG_STATUS_STATE 47, 2)]).on (fun d =>
     { d with eng := [(47, { g := [(1, 0xFFFFFFFFF9), (2, 2), (3, 0)] })] })), 0xFFFFFFFFF9, 2, 0, by decide +kernel⟩,
   ⟨(47 : Fin 49), (3 : Fin 32), (1 : Fin 32), (2 : Fin 32), ((at0 [(R.ENG_STATUS_STATE 47, 2)]).on (fun d =>
     { d with eng := [(47, { g := [(1, 0xFFFFFFFFF9), (2, 2), (3, 0)] })] })), 0xFFFFFFFFF9, 2, 0, by decide +kernel⟩,
   ⟨(47 : Fin 49), (3 : Fin 32), (1 : Fin 32), (40 : Fin 64), ((at0 [(R.ENG_STATUS_STATE 47, 2)]).on (fun d =>
     { d with eng := [(47, { g := [(1, 1), (2, 0), (3, 0)] })] })), 1, by decide +kernel⟩,
   ⟨(47 : Fin 49), (3 : Fin 32), (1 : Fin 32), (0 : BitVec 16), (0 : BitVec 21), (0 : Byte), ((at0 [(R.ENG_STATUS_STATE 47, 2)]).on (fun d =>
     { d with eng := [(47, { g := [(1, 0x7FFFFFFFFF), (2, 0), (3, 0)] })] })), 0x7FFFFFFFFF, by decide +kernel⟩,
   ⟨(47 : Fin 49), (3 : Fin 32), (1 : Fin 32), (0xFFFF : BitVec 16), (0 : BitVec 21), (0 : Byte), ((at0 [(R.ENG_STATUS_STATE 47, 2)]).on (fun d =>
     { d with eng := [(47, { g := [(1, 0x8000000000), (2, 0), (3, 0)] })] })), 0x8000000000, by decide +kernel⟩,
   ⟨(47 : Fin 49), (3 : Fin 32), (1 : Fin 32), (1 : BitVec 16), (0 : BitVec 21), (0 : Byte), ((at0 [(R.ENG_STATUS_STATE 47, 2)]).on (fun d =>
     { d with eng := [(47, { g := [(1, 0x7FFFFFFFFF), (2, 0), (3, 0)] })] })), 0x7FFFFFFFFF, by decide +kernel⟩⟩

theorem witness_ZhofaBranches :
    (∃ (e : Fin 49) (rs : Fin 32) (off : BitVec 21) (dest : Nat) (s : State), Issues s e ∧ (s.dev.engine e).slot = none ∧ dest = (((s.dev.pc e : Int) +
      off.toInt * 4) % 2 ^ 32).toNat) ∧
    (∃ (e : Fin 49) (rd rs : Fin 32) (off : BitVec 21) (dest : Nat) (s : State), Issues s e ∧ (s.dev.engine e).slot = none ∧ dest = (((s.dev.pc e : Int) +
      off.toInt * 4) % 2 ^ 32).toNat) ∧
    (∃ (e : Fin 48) (rd rs : Fin 32) (off : BitVec 21) (w : W32) (s : State) (x : Instr), s.dev.zReady e = true ∧ s.dev.badFetch e = false ∧ (s.dev.engine
      e).slot.isSome = true ∧ x ∈ [Instr.bez ⟨e, by omega⟩ rs off, .bnz ⟨e, by omega⟩ rs off, .jr ⟨e, by omega⟩ rs, .jal ⟨e, by omega⟩ rd off, .jalr ⟨e, by
      omega⟩ rd rs]) ∧
    (∃ (e : Fin 48) (rd rs : Fin 32) (off : BitVec 21) (w : W32) (s : State), s.dev.zReady e = true ∧ s.dev.badFetch e = false ∧ (s.dev.engine e).slot.isSome
      = true ∧ zIsBranch w.toNat = true) ∧
    (∃ (e : Fin 48) (w : W32) (s : State), s.dev.zReady e = true ∧ s.dev.badFetch e = false ∧ ((s.dev.engine e).slot.isSome && zIsBranch w.toNat) = false ∧
      zAssigned e w.toNat = false) ∧
    (∃ (e : Fin 48) (w : W32) (s : State), s.dev.zReady e = true ∧ s.dev.badFetch e = false) ∧
    (∃ (d : Dev) (e : Fin 48) (branch : Bool) (r : ZRes), d.zReady e = true ∧ d.badFetch e = true) ∧
    (∃ (d : Dev) (e : Nat) (branch : Bool) (r : ZRes), d.zReady e = false) ∧
    (∃ (d : Dev) (e p : Nat) (a : Option Nat) (cause : Nat), e < 48 ∧ d.partner e = some p ∧ cause < 16) ∧
    (∃ (e : Fin 49) (s : State), Issues s e ∧ (s.dev.engine e).held = []) ∧
    (∃ (e : Fin 49) (s : State) (h : HeldStore), Issues s e ∧ (s.dev.engine e).held = [h] ∧ h.bad = false ∧ zArea h.addr = .scratch (h.addr - 0x10000000)) :=
  ⟨⟨(47 : Fin 49), (1 : Fin 32), (0 : BitVec 21), 0, ((at0 [(R.ENG_STATUS_STATE 47, 2)]).on (fun d =>
     { d with eng := [(47, { g := [(1, 0), (2, 0), (3, 0)] })] })), by decide +kernel⟩,
   ⟨(47 : Fin 49), (3 : Fin 32), (1 : Fin 32), (0 : BitVec 21), 0, ((at0 [(R.ENG_STATUS_STATE 47, 2)]).on (fun d =>
     { d with eng := [(47, { g := [(1, 0), (2, 0), (3, 0)] })] })), by decide +kernel⟩,
   ⟨47, 3, 1, 0, 0, (eng47 0 0).on (fun d => d.setEngine 47 { d.engine 47 with slot := some 0 }), .jr 47 1, by decide +kernel⟩,
   ⟨(47 : Fin 48), (3 : Fin 32), (1 : Fin 32), (0 : BitVec 21), (0xA0000000 : W32), ((at0 [(R.ENG_STATUS_STATE 47, 2)]).on (fun d =>
     { d with eng := [(47, { g := [(1, 0), (2, 0), (3, 0)], slot := some 8 })] })), by decide +kernel⟩,
   ⟨(47 : Fin 48), (0xFFFFFFFF : W32), ((at0 [(R.ENG_STATUS_STATE 47, 2)]).on (fun d => { d with eng := [(47, { g := [(1, 0), (2, 0), (3, 0)] })] })),
     by decide +kernel⟩,
   ⟨(47 : Fin 48), (0 : W32), ((at0 [(R.ENG_STATUS_STATE 47, 2)]).on (fun d => { d with eng := [(47, { g := [(1, 0), (2, 0), (3, 0)] })] })),
     by decide +kernel⟩,
   ⟨(at0 [(R.ENG_STATUS_STATE 47, 2), (R.ENG_PC 47, 2)]).dev, (47 : Fin 48), false, (ZRes.next
     { (at0 [(R.ENG_STATUS_STATE 47, 2), (R.ENG_PC 47, 2)]).dev with now := 7 }), by decide +kernel⟩,
   ⟨(at0 [(R.ENG_STATUS_STATE 47, 1)]).dev, 47, false, (ZRes.next (at0 [(R.ENG_STATUS_STATE 47, 1)]).dev), by decide +kernel⟩,
   ⟨(at0 [(R.TEAM_CFG2_LS23 11, 1)]).dev, 47, 46, (none : Option Nat), 0, by decide +kernel⟩,
   ⟨47, eng47 0 0, by decide +kernel⟩,
   ⟨46, pair46 0 [{ due := 3, pc := 0, addr := 0x10000000, bytes := [1] }], { due := 3, pc := 0, addr := 0x10000000, bytes := [1] }, by decide +kernel⟩⟩

theorem witness_OrchardAccesses :
    (∃ (a : OrchAccess) (s : State), s.dev.bankRefuses (a.addr % 0x2000000 / 0x80000) (s.dev.reqOf a) ≠ 0) ∧
    (∃ (d : Dev) (n : Nat) (q : Req), d.get (R.BANK_POWER_STATE n) ≠ 0) ∧
    (∃ (d : Dev) (n : Nat) (q : Req), d.get (R.BANK_POWER_STATE n) = 0 ∧ q.checked = true ∧ d.get (R.BANK_OWNER_AGENT n) ≠ q.agent) ∧
    (∃ (d : Dev) (n : Nat) (q : Req), d.get (R.BANK_POWER_STATE n) = 0 ∧ q.checked = true ∧ d.get (R.BANK_OWNER_AGENT n) = q.agent) ∧
    (∃ (a : OrchAccess) (bs : List Byte) (s : State) (r : Nat), a.write = some bs ∧ s.dev.bankRefuses (a.addr % 0x2000000 / 0x80000) (s.dev.reqOf a) = 0 ∧
      s.dev.regionAt (a.addr % 0x2000000 / 0x80000) (a.addr % 0x80000) bs.length = some r ∧ s.dev.regionAllows r (a.addr % 0x80000) bs.length (s.dev.reqOf a)
      = false) ∧
    (∃ (a : OrchAccess) (bs : List Byte) (s : State), a.write = some bs ∧ s.dev.bankRefuses (a.addr % 0x2000000 / 0x80000) (s.dev.reqOf a) = 0 ∧ ((∀ r,
      s.dev.regionAt (a.addr % 0x2000000 / 0x80000) (a.addr % 0x80000) bs.length = some r → s.dev.regionAllows r (a.addr % 0x80000) bs.length (s.dev.reqOf a)
      = true)) ∧ ((∀ w ∈ wordsOf (a.addr % 0x2000000) bs.length, s.dev.eccAt w ≠ some .ue))) ∧
    (∃ (a : OrchAccess) (s : State), a.write = none ∧ s.dev.bankRefuses (a.addr % 0x2000000 / 0x80000) (s.dev.reqOf a) = 0 ∧ a.len ≤ 8) ∧
    (∃ (a b : OrchAccess) (x y : List Byte) (s : State), a.write = some x ∧ b.write = some y ∧ a.addr % 0x2000000 / 8 = b.addr % 0x2000000 / 8 ∧
      s.dev.bankRefuses (a.addr % 0x2000000 / 0x80000) (s.dev.reqOf a) = 0 ∧ s.dev.bankRefuses (a.addr % 0x2000000 / 0x80000) (s.dev.reqOf b) = 0 ∧ portRank
      (s.dev.reqOf a).port < portRank (s.dev.reqOf b).port ∧ portsMeet (s.dev.reqOf a).port (s.dev.reqOf b).port = true) ∧
    (∃ (a b : OrchAccess) (s : State), a.addr % 0x2000000 / 0x80000 = b.addr % 0x2000000 / 0x80000 ∧ ((portsMeet (s.dev.reqOf a).port (s.dev.reqOf b).port =
      false ∨ a.write.isSome = true ∧ b.write = none ∧ (s.dev.reqOf b).port % 2 = 1)) ∧ ((∀ c, a.agent ≠ .can c)) ∧ ((∀ c, b.agent ≠ .can c))) ∧
    (∃ (a b : OrchAccess) (s : State), a.addr % 0x2000000 / 0x80000 = b.addr % 0x2000000 / 0x80000 ∧ a.write.isSome = true ∧ b.write = none ∧ portsMeet
      (s.dev.reqOf a).port (s.dev.reqOf b).port = true ∧ (s.dev.reqOf b).port % 2 = 0) :=
  ⟨⟨({ agent := .engine 47, addr := 0x1FFFFFF, len := 1, write := none } : OrchAccess), (at0 [(R.BANK_OWNER_AGENT 63, 0)]), by decide +kernel⟩,
   ⟨(at0 [(R.BANK_POWER_STATE 0, 1)]).dev, 0, (Req.sys 1), by decide +kernel⟩,
   ⟨(at0 [(R.BANK_POWER_STATE 0, 0), (R.BANK_OWNER_AGENT 0, 2)]).dev, 0, (Req.sys 1), by decide +kernel⟩,
   ⟨(at0 [(R.BANK_POWER_STATE 0, 0), (R.BANK_OWNER_AGENT 0, 1)]).dev, 0, (Req.sys 1), by decide +kernel⟩,
   ⟨({ agent := .engine 47, addr := 0x1F80000, len := 1, write := some [7] } : OrchAccess), [7], (at0 [(R.BANK_OWNER_AGENT 63, 11), (R.IMG_CFG_VALID 0, 1),
     (R.IMG_CFG_BANK 0, 63), (R.IMG_SIZE_BUF_BYTES 0, 8), (R.IMG_CFG_ITEMS 0, 1)]), 0, by decide +kernel⟩,
   ⟨({ agent := .engine 47, addr := 0x1FFFFFF, len := 1, write := some [7] } : OrchAccess), [7], (at0 [(R.BANK_OWNER_AGENT 63, 11)]), by decide +kernel,
     by decide +kernel, (by (intro r h; cases (show (at0 [(R.BANK_OWNER_AGENT 63, 11)]).dev.regionAt (0x1FFFFFF % 0x2000000 / 0x80000) (0x1FFFFFF % 0x80000) 1
     = none from by decide +kernel).symm.trans h)), by decide +kernel⟩,
   ⟨({ agent := .engine 47, addr := 0x1F80000, len := 8, write := none } : OrchAccess), (at0 [(R.BANK_OWNER_AGENT 63, 11)]), by decide +kernel⟩,
   ⟨({ agent := .team 11, addr := 0x1F80000, len := 1, write := some [7] } : OrchAccess),
     ({ agent := .engine 47, addr := 0x1F80000, len := 1, write := some [7] } : OrchAccess), [7], [7], (at0 [(R.BANK_OWNER_AGENT 63, 11)]), by decide +kernel⟩,
   ⟨({ agent := .engine 47, addr := 0x1F80000, len := 1, write := some [7] } : OrchAccess),
     ({ agent := .engine 46, addr := 0x1F80000, len := 1, write := some [7] } : OrchAccess), (at0 [(R.BANK_OWNER_AGENT 63, 11)]), by decide +kernel,
     by decide +kernel, (by intro c h; cases h), (by intro c h; cases h)⟩,
   ⟨({ agent := .team 11, addr := 0x1F80000, len := 1, write := some [7] } : OrchAccess), ({ agent := .host, addr := 0x1F80000, len := 1, write := none } :
     OrchAccess), (at0 [(R.BANK_OWNER_AGENT 63, 11)]), by decide +kernel⟩⟩

theorem witness_RegionsEngineMemoryAndScrub :
    (∃ (a : OrchAccess) (bs : List Byte) (s : State) (r : Nat), a.write = some bs ∧ a.agent ≠ .sampler ∧ s.dev.regionAt (a.addr % 0x2000000 / 0x80000) (a.addr
      % 0x80000) bs.length = some r ∧ (s.dev.region r).opened = false) ∧
    (∃ (w : Writer) (e : Fin 48) (off : Nat) (bs : List Byte) (s : State), ((∀ k, w ≠ .engine k)) ∧ s.dev.mayWrite w 0x10000 = true ∧ 0x10000 ≤ off ∧ off +
      bs.length ≤ 0x18000 ∧ s.dev.engDark e = false ∧ (((s.dev.engine e).scrAt ≠ s.dev.now ∨ (s.dev.engine e).scr = []))) ∧
    (∃ (w : Writer) (e : Fin 48) (off : Nat) (bs : List Byte) (s : State), ((∀ k, w ≠ .engine k)) ∧ s.dev.mayWrite w 0x10000 = true ∧ bs ≠ [] ∧ bs.length ≤ 8
      - off % 8 ∧ off < 0x10000 ∧ off / 0x8000 = s.dev.get (R.ENG_STATUS_ACT_BANK e) ∧ s.dev.engDark e = false ∧ s.dev.get (R.ENG_STATUS_STATE e) ≠ 1 ∧
      s.dev.get (R.ENG_STATUS_STATE e) ≠ 6) ∧
    (∃ (w : Writer) (e : Fin 48) (off : Nat) (bs : List Byte) (s : State), ((∀ k, w ≠ .engine k)) ∧ s.dev.mayWrite w 0x10000 = true ∧ off + bs.length ≤
      0x10000 ∧ s.dev.engDark e = false ∧ s.dev.upd.swap = none ∧ ((off / 0x8000 ≠ s.dev.get (R.ENG_STATUS_ACT_BANK e) ∧ (off + bs.length - 1) / 0x8000 = off
      / 0x8000 ∨ s.dev.get (R.ENG_STATUS_STATE e) = 1 ∨ s.dev.get (R.ENG_STATUS_STATE e) = 6))) ∧
    (∃ (w : Writer) (e : Fin 48) (off : Nat) (bs : List Byte) (s : State), ((∀ k, w ≠ .engine k)) ∧ s.dev.mayWrite w 0x10000 = true ∧ 0x10000 ≤ off ∧ off +
      bs.length ≤ 0x18000 ∧ bs.length ≤ 8 - off % 8 ∧ bs ≠ [] ∧ s.dev.engDark e = false ∧ (s.dev.engine e).scrAt = s.dev.now) ∧
    (∃ (n : Fin 64) (s : State), s.dev.on R.ORCH_CTRL_SCRUB_EN = true ∧ s.dev.get (R.BANK_POWER_STATE n) = 0 ∧ s.dev.eccAt (s.dev.scrubAddr n) = some .ce ∧
      s.dev.orch.walk.getD n 0 < 65536) ∧
    (∃ (n : Fin 64) (s : State), s.dev.on R.ORCH_CTRL_SCRUB_EN = true ∧ s.dev.get (R.BANK_POWER_STATE n) = 0 ∧ s.dev.eccAt (s.dev.scrubAddr n) = none ∧
      s.dev.orch.walk.getD n 0 < 65535) ∧
    (∃ (n : Fin 64) (s : State), s.dev.on R.ORCH_CTRL_SCRUB_EN = true ∧ s.dev.get (R.BANK_POWER_STATE n) = 0 ∧ s.dev.eccAt (s.dev.scrubAddr n) = some .ue ∧
      s.dev.orch.walk.getD n 0 < 65536) ∧
    (∃ (n : Fin 64) (s : State), s.dev.on R.ORCH_CTRL_SCRUB_EN = true ∧ s.dev.get (R.BANK_POWER_STATE n) ≠ 0) ∧
    (∃ (n : Fin 64) (s : State), s.dev.on R.ORCH_CTRL_SCRUB_EN = false) ∧
    (∃ (w : Writer) (s : State), Grants s w R.ORCH_CTRL_SCRUB_EN) :=
  ⟨⟨({ agent := .engine 47, addr := 0x1F80000, len := 1, write := some [7] } : OrchAccess), [7], ((at0 [(R.IMG_CFG_VALID 0, 1), (R.IMG_CFG_BANK 0, 63),
     (R.IMG_SIZE_BUF_BYTES 0, 8), (R.IMG_CFG_ITEMS 0, 1)]).on (fun d => { d with img := { regions := [(0, { opened := false })] } })), 0, by decide +kernel,
     by decide, by decide +kernel, by decide +kernel⟩,
   ⟨.bridle, 47, 0x17FFF, [7], at0 [(R.ENG_STATUS_STATE 47, 2)], (by intro k h; cases h), by decide +kernel⟩,
   ⟨.bridle, 47, 0, [7], at0 [(R.ENG_STATUS_STATE 47, 2)], (by intro k h; cases h), by decide +kernel⟩,
   ⟨.bridle, 47, 0xFFFF, [7], at0 [(R.ENG_STATUS_STATE 47, 2)], (by intro k h; cases h), by decide +kernel⟩,
   ⟨.bridle, 47, 0x17FFF, [7], at0 [(R.ENG_STATUS_STATE 47, 2)], (by intro k h; cases h), by decide +kernel⟩,
   ⟨(63 : Fin 64), ((at0 [(R.ORCH_CTRL_SCRUB_EN, 1), (R.BANK_POWER_STATE (63 : Fin 64), 0)]).on (fun d => { d with orch := { ecc := [(0x1F80000, .ce)] } })),
     by decide +kernel⟩,
   ⟨(63 : Fin 64), (at0 [(R.ORCH_CTRL_SCRUB_EN, 1), (R.BANK_POWER_STATE (63 : Fin 64), 0)]), by decide +kernel⟩,
   ⟨63, (at0 [(R.ORCH_CTRL_SCRUB_EN, 1), (R.BANK_POWER_STATE 63, 0)]).on (fun d => { d with orch := { ecc := [(0x1F80000, .ue)] } }), by decide +kernel⟩,
   ⟨63, at0 [(R.ORCH_CTRL_SCRUB_EN, 1), (R.BANK_POWER_STATE 63, 1)], by decide +kernel⟩,
   ⟨(63 : Fin 64), (at0 [(R.ORCH_CTRL_SCRUB_EN, 0)]), by decide +kernel⟩,
   ⟨Writer.bridle, (at0 []), by decide +kernel⟩⟩

theorem witness_BankOwnershipAndPower :
    (∃ (w : Writer) (n : Fin 64) (v : W32) (s : State), Grants s w (R.BANK_HANDOVER_TO n) ∧ ((agentOf w = s.dev.get (R.BANK_OWNER_AGENT n) ∨ w = .bridle)) ∧
      s.dev.on (R.BANK_OWNER_CFG_LOCK n) = false ∧ v.toNat % 16 ≠ 15 ∧ v.toNat % 16 ≠ s.dev.get (R.BANK_OWNER_AGENT n) ∧ ((v.toNat.testBit 4 = true ∨
      s.dev.strideLive = false))) ∧
    (∃ (w : Writer) (n : Fin 64) (v : W32) (s : State), Grants s w (R.BANK_HANDOVER_TO n) ∧ ((agentOf w = s.dev.get (R.BANK_OWNER_AGENT n) ∨ w = .bridle)) ∧
      s.dev.on (R.BANK_OWNER_CFG_LOCK n) = false ∧ v.toNat % 16 ≠ 15 ∧ v.toNat % 16 ≠ s.dev.get (R.BANK_OWNER_AGENT n) ∧ v.toNat.testBit 4 = false ∧
      s.dev.strideLive = true) ∧
    (∃ (w : Writer) (n : Fin 64) (v : W32) (s : State), Grants s w (R.BANK_HANDOVER_TO n) ∧ ((agentOf w = s.dev.get (R.BANK_OWNER_AGENT n) ∨ w = .bridle)) ∧
      s.dev.on (R.BANK_OWNER_CFG_LOCK n) = false ∧ v.toNat % 16 ≠ 15 ∧ v.toNat % 16 = s.dev.get (R.BANK_OWNER_AGENT n)) ∧
    (∃ (w : Writer) (n : Fin 64) (v : W32) (s : State), Grants s w (R.BANK_HANDOVER_TO n) ∧ agentOf w ≠ s.dev.get (R.BANK_OWNER_AGENT n) ∧ w ≠ .bridle) ∧
    (∃ (w : Writer) (n : Fin 64) (v : W32) (s : State), Grants s w (R.BANK_HANDOVER_TO n) ∧ ((agentOf w = s.dev.get (R.BANK_OWNER_AGENT n) ∨ w = .bridle)) ∧
      ((v.toNat % 16 = 15 ∨ s.dev.on (R.BANK_OWNER_CFG_LOCK n) = true))) ∧
    (∃ (w : Writer) (n : Fin 64) (v : W32) (s : State), Grants s w (R.BANK_POWER_REQ n) ∧ ((agentOf w = s.dev.get (R.BANK_OWNER_AGENT n) ∨ w = .bridle)) ∧
      ((s.dev.on (R.BANK_OWNER_CFG_LOCK n) = false ∨ v.toNat % 4 = 0)) ∧ v.toNat % 4 < 3 ∧ s.dev.get (R.BANK_POWER_STATE n) ≠ 3 ∧ s.dev.get
      (R.BANK_POWER_STATE n) ≠ v.toNat % 4 ∧ s.dev.orch.window.contains n.val = false) ∧
    (∃ (w : Writer) (n : Fin 64) (v : W32) (s : State), Grants s w (R.BANK_POWER_REQ n) ∧ ((agentOf w = s.dev.get (R.BANK_OWNER_AGENT n) ∨ w = .bridle)) ∧
      ((s.dev.on (R.BANK_OWNER_CFG_LOCK n) = false ∨ v.toNat % 4 = 0)) ∧ v.toNat % 4 < 3 ∧ s.dev.orch.window.contains n.val = false ∧ ((s.dev.get
      (R.BANK_POWER_STATE n) = 3 ∨ s.dev.get (R.BANK_POWER_STATE n) = v.toNat % 4))) ∧
    (∃ (w : Writer) (n : Fin 64) (v : W32) (s : State), Grants s w (R.BANK_POWER_REQ n) ∧ ((agentOf w ≠ s.dev.get (R.BANK_OWNER_AGENT n) ∧ w ≠ .bridle ∨
      s.dev.on (R.BANK_OWNER_CFG_LOCK n) = true ∧ (v.toNat % 4 = 1 ∨ v.toNat % 4 = 2)))) ∧
    (∃ (n : Fin 64) (s : State), Tab.find? s.dev.orch.target n = some 2 ∧ s.dev.bankWants n = 2) ∧
    (∃ (n : Fin 64) (s : State) (st : Nat), Tab.find? s.dev.orch.target n = some st ∧ st < 2 ∧ s.dev.bankWants n = st) ∧
    (∃ (n : Fin 64) (s : State), s.dev.hasWindow n = true ∧ s.dev.on R.STRIDE_STATUS_RUNNING = true ∧ s.dev.orch.window.contains n.val = false ∧ s.dev.get
      (R.BANK_POWER_REQ n) = 0 ∧ s.dev.get (R.BANK_POWER_STATE n) = 0) ∧
    (∃ (n : Fin 64) (s : State), s.dev.orch.window = [n.val] ∧ s.dev.get (R.BANK_POWER_REQ n) = 0 ∧ s.dev.get (R.BANK_POWER_STATE n) = 1) :=
  ⟨⟨.bridle, 63, 16, at0 [(R.BANK_OWNER_AGENT 63, 14)], by decide +kernel⟩,
   ⟨.bridle, 63, 0, at0 [(R.BANK_OWNER_AGENT 63, 14), (R.STRIDE_STATUS_RUNNING, 1)], by decide +kernel⟩,
   ⟨.bridle, 63, 14, at0 [(R.BANK_OWNER_AGENT 63, 14)], by decide +kernel⟩,
   ⟨(Writer.engine 0), (63 : Fin 64), (0 : W32), (at0 [(R.BANK_OWNER_AGENT 63, 11), (R.TEAM_CFG_WR_BLOCKS 0, 16)]), by decide +kernel⟩,
   ⟨.bridle, 63, 15, at0 [(R.BANK_OWNER_AGENT 63, 14)], by decide +kernel⟩,
   ⟨.bridle, 63, 2, at0 [(R.BANK_OWNER_AGENT 63, 14), (R.BANK_POWER_STATE 63, 0)], by decide +kernel⟩,
   ⟨.bridle, 63, 2, at0 [(R.BANK_OWNER_AGENT 63, 14), (R.BANK_POWER_STATE 63, 2)], by decide +kernel⟩,
   ⟨(.engine 0), 63, 0, at0 [(R.BANK_OWNER_AGENT 63, 11), (R.TEAM_CFG_WR_BLOCKS 0, 16)], by decide +kernel⟩,
   ⟨(63 : Fin 64), ((at0 [(R.BANK_POWER_REQ 63, 2)]).on (fun d => { d with orch := { target := [(63, 2)] } })), by decide +kernel⟩,
   ⟨(63 : Fin 64), ((at0 []).on (fun d => { d with orch := { target := [(63, 0)] } })), 0, by decide +kernel⟩,
   ⟨63, at0 [(R.BANK_RET_END 63, 1), (R.STRIDE_STATUS_RUNNING, 1), (R.BANK_POWER_REQ 63, 0), (R.BANK_POWER_STATE 63, 0)], by decide +kernel⟩,
   ⟨(63 : Fin 64), ((at0 [(R.BANK_POWER_REQ (63 : Fin 64), 0), (R.BANK_POWER_STATE (63 : Fin 64), 1)]).on (fun d => { d with orch := { window := [63] } })),
     by decide +kernel⟩⟩

theorem witness_StirrupInstructions :
    (∃ (m : Fin 32) (s : State), (s.dev.mach m).state = 1) ∧
    (∃ (m : Fin 32) (imm : Fin 512) (s : State) (x : Nat × Nat), (s.dev.mach m).state = 1 ∧ x ∈ [(0, (s.dev.mach m).t + (s.dev.mach m).p), (2, s.dev.io.edge +
      8 * imm), (3, (s.dev.mach m).t + 8 * imm)]) ∧
    (∃ (m : Fin 32) (imm : Fin 512) (v : Nat) (r : List Nat) (s : State), (s.dev.mach m).state = 1 ∧ (s.dev.mach m).tx = v :: r) ∧
    (∃ (m : Fin 32) (imm : Fin 512) (s : State), (s.dev.mach m).state = 1 ∧ (s.dev.mach m).tx = []) ∧
    (∃ (m : Fin 32) (dst : Fin 8) (s : State) (x : Fin 8 × Nat), (s.dev.mach m).state = 1 ∧ dst.val ≤ 4 ∧ x ∈ [((0 : Fin 8), (s.dev.mach m).xw % 2 ^ 32), (1,
      (s.dev.mach m).k), (2, (s.dev.mach m).p), (3, (s.dev.mach m).t), (4, (s.dev.mach m).rw % 2 ^ 32), (7, 0)]) ∧
    (∃ (m : Fin 32) (dst : Fin 8) (lv : BitVec 96) (s : State), (s.dev.mach m).state = 1 ∧ dst.val = 1) ∧
    (∃ (m : Fin 32) (dst : Fin 8) (s : State), (s.dev.mach m).state = 1 ∧ dst.val ≤ 4 ∧ (s.dev.mach m).tx = []) ∧
    (∃ (m : Fin 32) (lane : Fin 4) (mask : Byte) (s : State), (s.dev.mach m).state = 1) ∧
    (∃ (m : Fin 32) (lane : Fin 4) (mask : Byte) (s : State), (s.dev.mach m).state = 1 ∧ mask.toNat < 2) ∧
    (∃ (m : Fin 32) (lane : Fin 4) (v : Byte) (s : State), (s.dev.mach m).state = 1) ∧
    (∃ (m : Fin 32) (lane : Fin 4) (n : Fin 32) (v : Byte) (s : State) (x : Instr × StirInstr), (s.dev.mach m).state = 1 ∧ s.dev.atDue m = false ∧ x ∈
      [(Instr.send m true lane n, StirInstr.send true lane n), (.take m true lane n [], .take true lane n), (.drive m true lane v, .drive true lane v), (.wait
      m 0 0 [], .wait 0 0)]) ∧
    (∃ (m : Fin 32) (g : Fin 32) (s : State), (s.dev.mach m).state = 1 ∧ g.val < 4) ∧
    (∃ (m : Fin 32) (s : State), (s.dev.mach m).state = 1 ∧ s.dev.atDue m = true) ∧
    (∃ (m : Fin 32) (mode : Fin 4) (o : Fin 32) (lv : BitVec 96) (s : State), (s.dev.mach m).state = 1 ∧ o.val < 24 ∧ ((mode = 1 ∨ mode = 2))) ∧
    (∃ (m : Fin 32) (lane : Fin 4) (n : Fin 32) (s : State), (s.dev.mach m).state = 1 ∧ 0 < (s.dev.lane m lane).2 ∧ (s.dev.mach m).xfill < min (s.dev.lane m
      lane).2 (n + 1) ∧ (s.dev.mach m).tx = [] ∧ (s.dev.mach m).steps = 0) ∧
    (∃ (m : Fin 32) (lane : Fin 4) (n : Fin 32) (s : State), (s.dev.mach m).state = 1 ∧ n.val + 1 ≤ (s.dev.lane m lane).2 ∧ n.val + 1 ≤ (s.dev.mach m).xfill ∧
      (s.dev.mach m).steps = 0) ∧
    (∃ (m : Fin 32) (lane : Fin 4) (n : Fin 32) (lv : BitVec 96) (s : State), (s.dev.mach m).state = 1 ∧ n.val + 1 ≤ (s.dev.lane m lane).2 ∧ (s.dev.mach
      m).rfill + n.val ≤ s.dev.get (R.STIR_MSHIFT_UNIT_M1 (m / 8) (m % 8)) ∧ (s.dev.mach m).rw < 2 ^ (s.dev.mach m).rfill) ∧
    (∃ (m : Fin 32) (mark : Bool) (s : State), (s.dev.mach m).state = 1 ∧ s.dev.on (R.STIR_MSHIFT_PN_EN (m / 8) (m % 8)) = false ∧ (s.dev.mach m).rx.length <
      8) ∧
    (∃ (m : Fin 32) (lane : Fin 4) (mask : Byte) (arg : Fin 32) (dst src : Fin 8) (s : State) (x : Instr), (s.dev.mach m).state = 1 ∧ 2 ≤ mask.toNat ∧ 24 ≤
      arg.val ∧ 4 < dst.val ∧ x ∈ [Instr.enable m lane true mask, .wait m 1 arg [], .wait m 2 arg [], .wait m 3 arg [], .copy m dst src []]) ∧
    (∃ (m : Fin 32) (w : BitVec 16) (s : State), (s.dev.mach m).state = 1 ∧ stirDecode w.toNat = none) ∧
    (∃ (m : Fin 32) (a : Bool) (lane : Fin 4) (n imm' : Fin 32) (v w : Byte) (mode : Fin 4) (imm : Fin 512) (dst src : Fin 8) (lv : List (BitVec 96)) (word :
      BitVec 16) (s : State) (x : Instr), (s.dev.mach m).state ≠ 1 ∧ x ∈ [Instr.idle m, .send m a lane n, .take m a lane n lv, .drive m a lane v, .enable m
      lane a w, .time m mode imm, .wait m mode imm' lv, .copy m dst src lv, .close m a, .note m, .unassignedStirrupOp m word]) ∧
    (∃ (w : BitVec 16), 0xA000 ≤ w.toNat) :=
  ⟨⟨(31 : Fin 32), ((at0 []).on (fun d => { d with io := { machs := [(31, { state := 1 })] } })), by decide +kernel⟩,
   ⟨31, 511, (at0 []).on (fun d => { d with io := { machs := [(31, { state := 1 })] } }), (2, 0 + 8 * 511), by decide +kernel⟩,
   ⟨(31 : Fin 32), (511 : Fin 512), 0, ([] : List Nat), ((at0 []).on (fun d => { d with io := { machs := [(31, { state := 1, tx := [0] })] } })),
     by decide +kernel⟩,
   ⟨(31 : Fin 32), (511 : Fin 512), ((at0 []).on (fun d => { d with io := { machs := [(31, { state := 1 })] } })), by decide +kernel⟩,
   ⟨31, 4, (at0 []).on (fun d => { d with io := { machs := [(31, { state := 1 })] } }), (7, 0), by decide +kernel⟩,
   ⟨(31 : Fin 32), (1 : Fin 8), (0 : BitVec 96), ((at0 []).on (fun d => { d with io := { machs := [(31, { state := 1 })] } })), by decide +kernel⟩,
   ⟨(31 : Fin 32), (4 : Fin 8), ((at0 []).on (fun d => { d with io := { machs := [(31, { state := 1 })] } })), by decide +kernel⟩,
   ⟨(31 : Fin 32), (3 : Fin 4), (0 : Byte), ((at0 []).on (fun d => { d with io := { machs := [(31, { state := 1 })] } })), by decide +kernel⟩,
   ⟨(31 : Fin 32), (3 : Fin 4), (0 : Byte), ((at0 []).on (fun d => { d with io := { machs := [(31, { state := 1 })] } })), by decide +kernel⟩,
   ⟨(31 : Fin 32), (3 : Fin 4), (0 : Byte), ((at0 []).on (fun d => { d with io := { machs := [(31, { state := 1 })] } })), by decide +kernel⟩,
   ⟨31, 3, 31, 0, (at0 []).on (fun d => { d with io := { machs := [(31, { state := 1, t := 5 })] } }), (.wait 31 0 0 [], .wait 0 0), by decide +kernel⟩,
   ⟨31, 3, (at0 []).on (fun d => { d with io := { machs := [(31, { state := 1 })] } }), by decide +kernel⟩,
   ⟨(31 : Fin 32), ((at0 []).on (fun d => { d with io := { machs := [(31, { state := 1 })] } })), by decide +kernel⟩,
   ⟨(31 : Fin 32), (2 : Fin 4), (23 : Fin 32), (0 : BitVec 96), ((at0 []).on (fun d => { d with io := { machs := [(31, { state := 1 })] } })),
     by decide +kernel⟩,
   ⟨(31 : Fin 32), (3 : Fin 4), (31 : Fin 32), ((at0 []).on (fun d => { d with io := { machs := [(31, { state := 1 })] } })), by decide +kernel⟩,
   ⟨(31 : Fin 32), (3 : Fin 4), (0 : Fin 32), ((at0 []).on (fun d => { d with io := { machs := [(31, { state := 1, xfill := 1, xw := 1 })] } })),
     by decide +kernel⟩,
   ⟨(31 : Fin 32), (3 : Fin 4), (0 : Fin 32), (0 : BitVec 96), ((at0 []).on (fun d => { d with io := { machs := [(31, { state := 1 })] } })),
     by decide +kernel⟩,
   ⟨(31 : Fin 32), false, ((at0 [(R.STIR_MSHIFT_PN_EN ((31 : Fin 32) / 8) ((31 : Fin 32) % 8), 0)]).on (fun d =>
     { d with io := { machs := [(31, { state := 1 })] } })), by decide +kernel⟩,
   ⟨31, 3, 2, 24, 5, 7, (at0 []).on (fun d => { d with io := { machs := [(31, { state := 1 })] } }), .enable 31 3 true 2, by decide +kernel⟩,
   ⟨(31 : Fin 32), (0xA000 : BitVec 16), ((at0 []).on (fun d => { d with io := { machs := [(31, { state := 1 })] } })), by decide +kernel⟩,
   ⟨31, false, 3, 31, 31, 0, 0, 3, 511, 7, 7, [], 0, (at0 []).on (fun d => { d with io := { machs := [(31, { state := 0 })] } }), .idle 31, by decide +kernel⟩,
   ⟨(0xA000 : BitVec 16), by decide +kernel⟩⟩

theorem witness_StirrupControl :
    (∃ (w : Writer) (m : Fin 32) (s : State), Grants s w (R.STIR_MCTRL_EN (m / 8) (m % 8)) ∧ s.dev.startBad m = false) ∧
    (∃ (w : Writer) (m : Fin 32) (s : State), Grants s w (R.STIR_MCTRL_EN (m / 8) (m % 8)) ∧ s.dev.startBad m = true) ∧
    (∃ (w : Writer) (m : Fin 32) (s : State), Grants s w (R.STIR_MCTRL_EN (m / 8) (m % 8))) ∧
    (∃ (d : Dev) (m : Fin 32) (l : Nat), d.startBad m = false ∧ l < 4) ∧
    (∃ (w : Writer) (m : Fin 32) (v : W32) (s : State), Grants s w (R.STIR_TXDATA (m / 8) (m % 8)) ∧ (s.dev.mach m).tx.length < 8) ∧
    (∃ (w : Writer) (m : Fin 32) (v : W32) (s : State), Grants s w (R.STIR_TXDATA (m / 8) (m % 8)) ∧ 8 ≤ (s.dev.mach m).tx.length) ∧
    (∃ (w : Writer) (m : Fin 32) (s : State), s.dev.mayRead w = true) ∧
    (∃ (w : Writer) (b : Fin 4) (k : Fin 64) (v : W32) (s : State), Grants s w (R.STIR_PROG b k) ∧ v.toNat < 2 ^ 16) ∧
    (∃ (m : Fin 32) (arg : Fin 32) (s : State), (s.dev.mach m).state = 3 ∧ (s.dev.mach m).held = some (.wait 0 arg)) ∧
    (∃ (m : Fin 32) (arg : Fin 32) (s : State), (s.dev.mach m).state = 3 ∧ (s.dev.mach m).held = some (.wait 3 arg) ∧ s.dev.gaitEdges (arg % 4) ≠ (s.dev.mach
      m).waitFrom) ∧
    (∃ (m : Fin 32) (arg : Fin 32) (s : State), (s.dev.mach m).state = 3 ∧ (s.dev.mach m).held = some (.wait 3 arg) ∧ s.dev.gaitEdges (arg % 4) = (s.dev.mach
      m).waitFrom) ∧
    (∃ (m : Fin 32) (arg : Fin 32) (mode : Fin 4) (lv : BitVec 96) (s : State), (s.dev.mach m).state = 3 ∧ ((mode = 1 ∨ mode = 2)) ∧ (s.dev.mach m).held =
      some (.wait mode arg)) ∧
    (∃ (m : Fin 32) (lane : Fin 4) (v : Byte) (s : State), (s.dev.mach m).state = 3 ∧ (s.dev.mach m).held = some (.drive true lane v)) ∧
    (∃ (m : Fin 32) (lv : List (BitVec 96)) (s : State), (s.dev.mach m).state ≠ 3) ∧
    (∃ (m : Fin 32) (imm : Fin 512) (v : Nat) (r : List Nat) (s : State), (s.dev.mach m).state = 2 ∧ (s.dev.mach m).held = some (.time 1 imm) ∧ (s.dev.mach
      m).tx = v :: r) ∧
    (∃ (m : Fin 32) (s : State), (((s.dev.mach m).state ≠ 2 ∨ (s.dev.mach m).tx = []))) :=
  ⟨⟨Writer.bridle, (31 : Fin 32), (at0 []), by decide +kernel⟩,
   ⟨Writer.bridle, (31 : Fin 32), (at0 [(R.STIR_WRAP_BOTTOM 3 7, 1), (R.STIR_WRAP_TOP 3 7, 0)]), by decide +kernel⟩,
   ⟨Writer.bridle, (31 : Fin 32), (at0 []), by decide +kernel⟩,
   ⟨(at0 []).dev, (31 : Fin 32), 0, by decide +kernel⟩,
   ⟨Writer.bridle, (31 : Fin 32), (0 : W32), (at0 []), by decide +kernel⟩,
   ⟨Writer.bridle, (31 : Fin 32), (0 : W32), ((at0 []).on (fun d => { d with io := { machs := [(31, { tx := List.replicate 8 0 })] } })), by decide +kernel⟩,
   ⟨Writer.bridle, (31 : Fin 32), (at0 []), by decide +kernel⟩,
   ⟨Writer.bridle, (3 : Fin 4), (63 : Fin 64), (0 : W32), (at0 []), by decide +kernel⟩,
   ⟨(31 : Fin 32), (31 : Fin 32), ((at0 []).on (fun d => { d with io := { machs := [(31, { state := 3, held := some (.wait 0 31) })] } })), by decide +kernel⟩,
   ⟨31, 31, (at0 []).on (fun d => { d with io := { machs := [(31, { state := 3, held := some (.wait 3 31) })], edges := [(3, 1)] } }), by decide +kernel⟩,
   ⟨31, 31, (at0 []).on (fun d => { d with io := { machs := [(31, { state := 3, held := some (.wait 3 31) })] } }), by decide +kernel⟩,
   ⟨(31 : Fin 32), (23 : Fin 32), (2 : Fin 4), (0 : BitVec 96), ((at0 []).on (fun d =>
     { d with io := { machs := [(31, { state := 3, held := some (.wait 2 23) })] } })), by decide +kernel⟩,
   ⟨(31 : Fin 32), (3 : Fin 4), (0 : Byte), ((at0 []).on (fun d => { d with io := { machs := [(31, { state := 3, held := some (.drive true 3 0) })] } })),
     by decide +kernel⟩,
   ⟨(31 : Fin 32), ([] : List (BitVec 96)), (at0 []), by decide +kernel⟩,
   ⟨(31 : Fin 32), (511 : Fin 512), 0, ([] : List Nat), ((at0 []).on (fun d =>
     { d with io := { machs := [(31, { state := 2, held := some (.time 1 511), tx := [0] })] } })), by decide +kernel⟩,
   ⟨(31 : Fin 32), (at0 []), by decide +kernel⟩⟩

theorem witness_Punnets :
    (∃ (w : Writer) (n : Fin 64) (v : W32) (s : State), Grants s w (R.PN_STATUS_WR_REJ n) ∧ v.toNat < 2 ^ 18 ∧ s.dev.get (R.PN_CFG_SRC_KIND n) ≠ 0) ∧
    (∃ (w : Writer) (n : Fin 64) (v : W32) (s : State), Grants s w (R.PN_STATUS_WR_REJ n) ∧ v.toNat < 2 ^ 16 ∧ s.dev.get (R.PN_CFG_SRC_KIND n) = 0 ∧ (s.dev.pn
      n).q.length ≤ 125 ∧ s.dev.on (R.PN_CFG_W16 n) = false ∧ (s.dev.pn n).fill < 4) ∧
    (∃ (w : Writer) (n : Fin 64) (v : W32) (s : State), Grants s w (R.PN_STATUS_WR_REJ n) ∧ v.toNat < 2 ^ 16 ∧ s.dev.get (R.PN_CFG_SRC_KIND n) = 0 ∧ (s.dev.pn
      n).q.length ≤ 125 ∧ s.dev.on (R.PN_CFG_W16 n) = false ∧ (s.dev.pn n).fill = 4) ∧
    (∃ (w : Writer) (n : Fin 64) (v : W32) (s : State), Grants s w (R.PN_STATUS_WR_REJ n) ∧ v.toNat < 2 ^ 16 ∧ s.dev.get (R.PN_CFG_SRC_KIND n) = 0 ∧ 125 <
      (s.dev.pn n).q.length ∧ (s.dev.pn n).run = false ∧ (s.dev.pn n).fill = 0) ∧
    (∃ (w : Writer) (n : Fin 64) (v : W32) (s : State), Grants s w (R.PN_STATUS_WR_REJ n) ∧ v.toNat / 2 ^ 16 = 3 ∧ s.dev.get (R.PN_CFG_SRC_KIND n) = 0 ∧
      s.dev.on (R.PN_CTRL_FLUSH n) = false ∧ (s.dev.pn n).run = false ∧ (s.dev.pn n).fill ≠ 0) ∧
    (∃ (d : Dev) (n v : Nat), (d.pn n).run = true ∧ 125 < (d.pn n).q.length) ∧
    (∃ (w : Writer) (n : Fin 64) (e : PnEntry) (q : List PnEntry) (s : State), s.dev.mayRead w = true ∧ agentOf w = s.dev.get (R.PN_CFG_RD_AGENT n) ∧
      (s.dev.pn n).resync = [] ∧ (s.dev.pn n).q = e :: q) ∧
    (∃ (w : Writer) (n : Fin 64) (s : State), s.dev.mayRead w = true ∧ agentOf w = s.dev.get (R.PN_CFG_RD_AGENT n) ∧ (s.dev.pn n).q = []) ∧
    (∃ (w : Writer) (n : Fin 64) (s : State), s.dev.mayRead w = true ∧ agentOf w ≠ s.dev.get (R.PN_CFG_RD_AGENT n)) ∧
    (∃ (w : Writer) (n : Fin 64) (s : State), Grants s w (R.PN_CTRL_FLUSH n) ∧ (s.dev.pn n).fill = 0 ∧ (s.dev.pn n).items = false) ∧
    (∃ (w : Writer) (n : Fin 64) (s : State), Grants s w (R.PN_CTRL_FLUSH n) ∧ ((s.dev.pn n).fill ≠ 0 ∨ (s.dev.pn n).items = true)) ∧
    (∃ (d : Dev) (n : Nat), d.on (R.PN_CTRL_FLUSH n) = true) ∧
    (∃ (w : Writer) (n : Fin 64) (v : W32) (s : State), Grants s w (R.PN_CFG_SRC_KIND n)) ∧
    (∃ (n : Fin 64) (s : State), (s.dev.pn n).resync = [0]) ∧
    (∃ (n : Fin 64) (s : State), (s.dev.pn n).resync = [1] ∧ (s.dev.pn n).q.length < 128) ∧
    (∃ (n : Fin 64) (s : State), (s.dev.pn n).resync = []) ∧
    (∃ (q : List PnEntry) (e : PnEntry), e ∈ afterLastEnd q) :=
  ⟨⟨Writer.bridle, (63 : Fin 64), (0 : W32), (at0 [(R.PN_CFG_SRC_KIND (63 : Fin 64), 1)]), by decide +kernel⟩,
   ⟨Writer.bridle, (63 : Fin 64), (0 : W32), ((at0 [(R.PN_CFG_SRC_KIND (63 : Fin 64), 0), (R.PN_CFG_W16 (63 : Fin 64), 0)]).on (fun d =>
     { d with io := { pns := [(63, { fill := 3 })] } })), by decide +kernel⟩,
   ⟨Writer.bridle, (63 : Fin 64), (0 : W32), ((at0 [(R.PN_CFG_SRC_KIND (63 : Fin 64), 0), (R.PN_CFG_W16 (63 : Fin 64), 0)]).on (fun d =>
     { d with io := { pns := [(63, { fill := 4, q := List.replicate 125 {} })] } })), by decide +kernel⟩,
   ⟨Writer.bridle, (63 : Fin 64), (0 : W32), ((at0 [(R.PN_CFG_SRC_KIND (63 : Fin 64), 0)]).on (fun d =>
     { d with io := { pns := [(63, { q := List.replicate 126 {} })] } })), by decide +kernel⟩,
   ⟨Writer.bridle, (63 : Fin 64), (0x30000 : W32), ((at0 [(R.PN_CFG_SRC_KIND (63 : Fin 64), 0), (R.PN_CTRL_FLUSH (63 : Fin 64), 0)]).on (fun d =>
     { d with io := { pns := [(63, { fill := 1 })] } })), by decide +kernel⟩,
   ⟨((at0 []).on (fun d => { d with io := { pns := [(0, { q := List.replicate 126 {}, run := true })] } })).dev, 0, 0, by decide +kernel⟩,
   ⟨Writer.bridle, (63 : Fin 64), ({ data := 7, valid := 1 } : PnEntry), ([] : List PnEntry), ((at0 [(R.PN_CFG_RD_AGENT 63, 14)]).on (fun d =>
     { d with io := { pns := [(63, { q := [{ data := 7, valid := 1 }] })] } })), by decide +kernel⟩,
   ⟨Writer.bridle, (63 : Fin 64), (at0 [(R.PN_CFG_RD_AGENT 63, 14)]), by decide +kernel⟩,
   ⟨Writer.bridle, (63 : Fin 64), (at0 [(R.PN_CFG_RD_AGENT 63, 3)]), by decide +kernel⟩,
   ⟨Writer.bridle, (63 : Fin 64), (at0 []), by decide +kernel⟩,
   ⟨Writer.bridle, (63 : Fin 64), ((at0 []).on (fun d => { d with io := { pns := [(63, { fill := 1 })] } })), by decide +kernel⟩,
   ⟨(at0 [(R.PN_CTRL_FLUSH 0, 1)]).dev, 0, by decide +kernel⟩,
   ⟨Writer.bridle, (63 : Fin 64), (0 : W32), (at0 []), by decide +kernel⟩,
   ⟨(63 : Fin 64), ((at0 []).on (fun d => { d with io := { pns := [(63, { resync := [0] })] } })), by decide +kernel⟩,
   ⟨(63 : Fin 64), ((at0 []).on (fun d => { d with io := { pns := [(63, { resync := [1] })] } })), by decide +kernel⟩,
   ⟨(63 : Fin 64), (at0 []), by decide +kernel⟩,
   ⟨[{ last := true }, { data := 5 }], { data := 5 }, by decide +kernel⟩⟩

theorem witness_SerialTransmit :
    (∃ (w : Writer) (n : Fin 12) (s : State), Grants s w (R.SER_CTRL_EN n)) ∧
    (∃ (w : Writer) (n : Fin 12) (v : W32) (s : State), Grants s w (R.SER_TXDATA_DATA n) ∧ v.toNat < 2 ^ 10 ∧ s.dev.on (R.SER_STATUS_TX_BUSY n) = false ∧
      (s.dev.serSt n).discard = false ∧ (s.dev.serSt n).tx.length < 256) ∧
    (∃ (w : Writer) (n : Fin 12) (v : W32) (s : State), Grants s w (R.SER_TXDATA_DATA n) ∧ v.toNat < 2 ^ 10 ∧ s.dev.on (R.SER_STATUS_TX_BUSY n) = false ∧
      (s.dev.serSt n).discard = false ∧ (s.dev.serSt n).tx.length = 256) ∧
    (∃ (w : Writer) (n : Fin 12) (v : W32) (s : State), Grants s w (R.SER_TXDATA_DATA n) ∧ v.toNat < 2 ^ 10 ∧ s.dev.on (R.SER_STATUS_TX_BUSY n) = false ∧
      (s.dev.serSt n).discard = true) ∧
    (∃ (n : Fin 12) (s : State), s.dev.on (R.SER_CTRL_EN n) = true ∧ s.dev.on (R.SER_STATUS_TX_BUSY n) = false ∧ s.dev.serEligible n = true ∧ (uptoLast
      (s.dev.serSt n).tx).any (fun b => b.timed) = false) ∧
    (∃ (n : Fin 12) (s : State), s.dev.on (R.SER_CTRL_EN n) = true ∧ s.dev.on (R.SER_STATUS_TX_BUSY n) = false ∧ s.dev.serEligible n = true ∧ (uptoLast
      (s.dev.serSt n).tx).any (fun b => b.timed) = true) ∧
    (∃ (n : Fin 12) (s : State), ((s.dev.on (R.SER_CTRL_EN n) = false ∨ s.dev.on (R.SER_STATUS_TX_BUSY n) = true ∨ s.dev.serEligible n = false))) ∧
    (∃ (n : Fin 12) (s : State), s.dev.on (R.SER_STATUS_TX_BUSY n) = true ∧ (s.dev.serSt n).flushed = false ∧ hasLast (s.dev.serSt n).sent = false ∧ hasLast
      (s.dev.serSt n).tx = true) ∧
    (∃ (n : Fin 12) (s : State), s.dev.on (R.SER_STATUS_TX_BUSY n) = false) ∧
    (∃ (n : Fin 12) (s : State), s.dev.on (R.SER_STATUS_TX_BUSY n) = true ∧ (s.dev.serSt n).flushed = false ∧ hasLast (s.dev.serSt n).sent = false ∧ hasLast
      (s.dev.serSt n).tx = false) :=
  ⟨⟨Writer.bridle, (11 : Fin 12), (at0 []), by decide +kernel⟩,
   ⟨Writer.bridle, (11 : Fin 12), (0 : W32), (at0 [(R.SER_STATUS_TX_BUSY (11 : Fin 12), 0)]), by decide +kernel⟩,
   ⟨Writer.bridle, (11 : Fin 12), (0 : W32), ((at0 [(R.SER_STATUS_TX_BUSY (11 : Fin 12), 0)]).on (fun d =>
     { d with ser := [(11, { tx := List.replicate 256 { data := 7, last := false, timed := false } })] })), by decide +kernel⟩,
   ⟨Writer.bridle, (11 : Fin 12), (0 : W32), ((at0 [(R.SER_STATUS_TX_BUSY (11 : Fin 12), 0)]).on (fun d => { d with ser := [(11, { discard := true })] })),
     by decide +kernel⟩,
   ⟨(11 : Fin 12), ((at0 [(R.SER_CTRL_EN (11 : Fin 12), 1), (R.SER_STATUS_TX_BUSY (11 : Fin 12), 0)]).on (fun d =>
     { d with ser := [(11, { tx := [{ data := 7, last := true, timed := false }] })] })), by decide +kernel⟩,
   ⟨(11 : Fin 12), ((at0 [(R.SER_CTRL_EN (11 : Fin 12), 1), (R.SER_STATUS_TX_BUSY (11 : Fin 12), 0)]).on (fun d =>
     { d with ser := [(11, { tx := [{ data := 7, last := true, timed := true }] })] })), by decide +kernel⟩,
   ⟨(11 : Fin 12), (at0 []), by decide +kernel⟩,
   ⟨(11 : Fin 12), ((at0 [(R.SER_STATUS_TX_BUSY (11 : Fin 12), 1)]).on (fun d =>
     { d with ser := [(11, { tx := [{ data := 7, last := true, timed := false }] })] })), by decide +kernel⟩,
   ⟨(11 : Fin 12), (at0 [(R.SER_STATUS_TX_BUSY (11 : Fin 12), 0)]), by decide +kernel⟩,
   ⟨(11 : Fin 12), (at0 [(R.SER_STATUS_TX_BUSY (11 : Fin 12), 1)]), by decide +kernel⟩⟩

theorem witness_SerialReceive :
    (∃ (n : Fin 12) (b : Byte) (pe fe : Bool) (gap : Nat) (ago : Fin 0x1000000) (s : State), ((s.dev.on (R.SER_CTRL_EN n) = false ∨ s.dev.on
      (R.SER_RX_CFG_RX_EN n) = false ∨ s.dev.on (R.SER_STATUS_DE n) = true ∧ s.dev.on (R.SER_CTRL_ECHO n) = false)) ∧ ((s.dev.on (R.SER_STATUS_RX_BUSY n) =
      false ∨ s.dev.on (R.SER_STATUS_DE n) = true ∨ gap ≤ s.dev.get (R.SER_GAP_END n) * 10))) ∧
    (∃ (n : Fin 12) (b : Byte) (gap : Nat) (ago : Fin 0x1000000) (s : State), s.dev.on (R.SER_CTRL_EN n) = true ∧ s.dev.on (R.SER_RX_CFG_RX_EN n) = true ∧
      s.dev.on (R.SER_STATUS_DE n) = false ∧ s.dev.on (R.SER_STATUS_RX_BUSY n) = false) ∧
    (∃ (n : Fin 12) (b : Byte) (pe fe : Bool) (gap : Nat) (ago : Fin 0x1000000) (s : State), s.dev.on (R.SER_CTRL_EN n) = true ∧ s.dev.on (R.SER_RX_CFG_RX_EN
      n) = true ∧ s.dev.on (R.SER_STATUS_DE n) = false ∧ s.dev.on (R.SER_STATUS_RX_BUSY n) = true ∧ b ≠ 0 ∧ gap ≤ s.dev.get (R.SER_GAP_END n) * 10) ∧
    (∃ (n : Fin 12) (gap : Nat) (ago : Fin 0x1000000) (s : State), s.dev.on (R.SER_CTRL_EN n) = true ∧ s.dev.on (R.SER_RX_CFG_RX_EN n) = true ∧ s.dev.on
      (R.SER_STATUS_DE n) = false ∧ s.dev.get (R.SER_CTRL_PARITY n) = 0 ∧ s.dev.get (R.SER_CTRL_MODE n) ≠ 1 ∧ s.dev.on (R.SER_STATUS_RX_BUSY n) = true ∧ gap ≤
      s.dev.get (R.SER_GAP_END n) * 10) ∧
    (∃ (n : Fin 12) (b : Byte) (pe fe : Bool) (gap : Nat) (ago : Fin 0x1000000) (s : State), s.dev.on (R.SER_STATUS_DE n) = false ∧ s.dev.get (R.SER_GAP_END
      n) * 10 < gap) ∧
    (∃ (n : Fin 12) (fl : Nat) (s : State), s.dev.on (R.SER_STATUS_RX_BUSY n) = true ∧ (s.dev.serSt n).stats.length < 16 ∧ fl = (s.dev.serSt n).flags ||| (if
      s.dev.get (R.SER_CTRL_MODE n) = 2 ∧ modbusBad (s.dev.serSt n).rx = true then 2 ^ 26 else 0)) ∧
    (∃ (n : Fin 12) (s : State), s.dev.on (R.SER_STATUS_RX_BUSY n) = true ∧ 16 ≤ (s.dev.serSt n).stats.length) ∧
    (∃ (n : Fin 12) (s : State), s.dev.on (R.SER_STATUS_RX_BUSY n) = false) ∧
    (∃ (w : Writer) (n : Fin 12) (x : SerStat) (rest : List SerStat) (s : State), s.dev.mayRead w = true ∧ (s.dev.serSt n).stats = x :: rest) ∧
    (∃ (w : Writer) (n : Fin 12) (s : State), s.dev.mayRead w = true ∧ (s.dev.serSt n).stats = []) :=
  ⟨⟨11, 0, false, false, 0, 0, at0 [], by decide +kernel⟩,
   ⟨(11 : Fin 12), (0 : Byte), 0, (0 : Fin 0x1000000), (at0 [(R.SER_CTRL_EN (11 : Fin 12), 1), (R.SER_RX_CFG_RX_EN (11 : Fin 12), 1), (R.SER_STATUS_DE (11 :
     Fin 12), 0), (R.SER_STATUS_RX_BUSY (11 : Fin 12), 0)]), by decide +kernel⟩,
   ⟨11, 1, false, false, 0, 0, at0 [(R.SER_CTRL_EN 11, 1), (R.SER_RX_CFG_RX_EN 11, 1), (R.SER_STATUS_RX_BUSY 11, 1)], by decide +kernel⟩,
   ⟨11, 0, 0, at0 [(R.SER_CTRL_EN 11, 1), (R.SER_RX_CFG_RX_EN 11, 1), (R.SER_CTRL_PARITY 11, 0), (R.SER_CTRL_MODE 11, 0), (R.SER_STATUS_RX_BUSY 11, 1)],
     by decide +kernel⟩,
   ⟨11, 0, false, false, 1000000000, 0, at0 [], by decide +kernel⟩,
   ⟨(11 : Fin 12), (2 ^ 26), (at0 [(R.SER_STATUS_RX_BUSY (11 : Fin 12), 1), (R.SER_CTRL_MODE (11 : Fin 12), 2), (R.SER_CTRL_MODE 11, 2)]), by decide +kernel⟩,
   ⟨(11 : Fin 12), ((at0 [(R.SER_STATUS_RX_BUSY (11 : Fin 12), 1)]).on (fun d =>
     { d with ser := [(11, { stats := List.replicate 16 { word := 0, ts := 0 } })] })), by decide +kernel⟩,
   ⟨(11 : Fin 12), (at0 [(R.SER_STATUS_RX_BUSY (11 : Fin 12), 0)]), by decide +kernel⟩,
   ⟨Writer.bridle, (11 : Fin 12), ({ word := 5, ts := 6 } : SerStat), ([] : List SerStat), ((at0 []).on (fun d =>
     { d with ser := [(11, { stats := [{ word := 5, ts := 6 }] })] })), by decide +kernel⟩,
   ⟨Writer.bridle, (11 : Fin 12), (at0 []), by decide +kernel⟩⟩

theorem witness_HostPorts :
    (∃ (addr : W32) (n ready : Nat) (words : List W32) (s : State), s.dev.qspiOn = false) ∧
    (∃ (addr : W32) (n ready : Nat) (s : State), s.dev.qspiOn = true ∧ s.dev.pwr.asleep = false ∧ s.dev.qspiReaches addr.toNat = true ∧ ready = 0) ∧
    (∃ (addr : W32) (n ready : Nat) (s : State), s.dev.qspiOn = true ∧ s.dev.pwr.asleep = false ∧ n ≤ ready) ∧
    (∃ (addr v : W32) (s : State), s.dev.qspiOn = true ∧ s.dev.pwr.asleep = false ∧ s.dev.coreOn = true ∧ s.dev.get R.BRIDLE_STATUS_STATE = 1 ∧ addr.toNat < 2
      ^ 20 ∧ addr.toNat % 4 = 0 ∧ s.dev.mayWrite .qspi addr.toNat = true) ∧
    (∃ (addr : W32) (v : W32) (l : List W32) (s : State), s.dev.qspiOn = true ∧ s.dev.pwr.asleep = false ∧ addr.toNat + 4 < 2 ^ 32) ∧
    (∃ (s : State), s.dev.qspiOn = true ∧ s.dev.pwr.asleep = false) ∧
    (∃ (s : State), s.dev.isHeld = false ∧ s.dev.pwr.asleep = false) ∧
    (∃ (s : State), s.dev.isHeld = true) ∧
    (∃ (s : State), s.dev.owner ≠ none) ∧
    (∃ (s : State), s.dev.owner = none) ∧
    (∃ (s : State), s.dev.coreOn = false) ∧
    (∃ (s : State), s.dev.coreOn = true ∧ s.dev.get R.BRIDLE_STATUS_STATE = 1) :=
  ⟨⟨(0 : W32), 0, 0, ([] : List W32), (at0 [(R.OWN_PORT_CLASS 1, 0)]), by decide +kernel⟩,
   ⟨(0 : W32), 0, 0, (at0 [(R.BRIDLE_STATUS_STATE, 1)]), by decide +kernel⟩,
   ⟨(0 : W32), 0, 0, (at0 []), by decide +kernel⟩,
   ⟨(0 : W32), (0 : W32), (at0 [(R.BRIDLE_STATUS_STATE, 1), (R.OWN_STATUS_OWNED, 1), (R.OWN_STATUS_PORT, 1), (R.OWN_PORT_CLASS 1, 2)]), by decide +kernel⟩,
   ⟨(0 : W32), (0 : W32), ([] : List W32), (at0 []), by decide +kernel⟩,
   ⟨(at0 []), by decide +kernel⟩,
   ⟨(at0 []), by decide +kernel⟩,
   ⟨((at0 []).on (fun d => { d with sys := { stopped := true } })), by decide +kernel⟩,
   ⟨(at0 [(R.OWN_STATUS_OWNED, 1)]), by decide +kernel⟩,
   ⟨(at0 []), by decide +kernel⟩,
   ⟨((at0 []).on (fun d => { d with sys := { stopped := true } })), by decide +kernel⟩,
   ⟨(at0 [(R.BRIDLE_STATUS_STATE, 1)]), by decide +kernel⟩⟩

theorem witness_Mailboxes :
    (∃ (w : Writer) (n : Fin 16) (d : Fin 2) (v : W32) (s : State), Grants s w (R.MB_POST_GO n d) ∧ s.dev.mbSide w n = some (decide (d = 0)) ∧ s.dev.on
      (R.MB_STATUS_POSTED n d) = false ∧ v.toNat % 2 ^ 16 ≤ 256 ∧ v.toNat % 2 ^ 16 ≠ 0 ∧ v.toNat / 2 ^ 17 = 0) ∧
    (∃ (w : Writer) (n : Fin 16) (d : Fin 2) (v : W32) (s : State), Grants s w (R.MB_POST_GO n d) ∧ s.dev.mbSide w n = some (decide (d = 0)) ∧ s.dev.on
      (R.MB_STATUS_POSTED n d) = false ∧ v.toNat % 2 ^ 16 ≤ 256 ∧ v.toNat % 2 ^ 16 ≠ 0 ∧ v.toNat / 2 ^ 17 = 2 ^ 14 ∧ ((d = 0 → s.dev.on (R.MB_CFG_BRIDLE n) =
      true ∨ s.dev.domain (3 + s.dev.get (R.MB_CFG_ENGINE n) / 12) ≠ 3))) ∧
    (∃ (w : Writer) (n : Fin 16) (d : Fin 2) (v : W32) (s : State), Grants s w (R.MB_POST_GO n d) ∧ ((s.dev.mbSide w n = some (decide (d = 0)) → s.dev.on
      (R.MB_STATUS_POSTED n d) = true))) ∧
    (∃ (w : Writer) (n : Fin 16) (d : Fin 2) (v : W32) (s : State), Grants s w (R.MB_ACK_CODE n d) ∧ s.dev.mbSide w n = some (decide (d = 1)) ∧ s.dev.on
      (R.MB_STATUS_POSTED n d) = true ∧ v.toNat < 16) ∧
    (∃ (w : Writer) (n : Fin 16) (d : Fin 2) (v : W32) (s : State), Grants s w (R.MB_ACK_CODE n d) ∧ s.dev.mbSide w n = some (decide (d = 1)) ∧ s.dev.on
      (R.MB_STATUS_POSTED n d) = false) ∧
    (∃ (w : Writer) (n : Fin 16) (d : Fin 2) (s : State), Grants s w (R.MB_WITHDRAW n d) ∧ s.dev.mbSide w n = some (decide (d = 0)) ∧ s.dev.on
      (R.MB_STATUS_POSTED n d) = true) ∧
    (∃ (w : Writer) (n : Fin 16) (d : Fin 2) (s : State), Grants s w (R.MB_WITHDRAW n d) ∧ s.dev.mbSide w n = some (decide (d = 0)) ∧ s.dev.on
      (R.MB_STATUS_POSTED n d) = false) ∧
    (∃ (n : Fin 16) (d : Fin 2) (s : State), (s.dev.mb n d).timing = true ∧ s.dev.on (R.MB_STATUS_POSTED n d) = true) ∧
    (∃ (n : Fin 16) (d : Fin 2) (s : State), (((s.dev.mb n d).timing = false ∨ s.dev.on (R.MB_STATUS_POSTED n d) = false))) ∧
    (∃ (d : Dev) (n : Nat), n < 16 ∧ d.on (R.MB_STATUS_POSTED n 1) = true) :=
  ⟨⟨Writer.bridle, (15 : Fin 16), (1 : Fin 2), (256 : W32), (at0 [(R.MB_STATUS_POSTED (15 : Fin 16) (1 : Fin 2), 0), (R.MB_CFG_VALID 15, 1), (R.MB_CFG_BRIDLE
     15, 1)]), by decide +kernel⟩,
   ⟨Writer.pcie, (15 : Fin 16), (0 : Fin 2), (0x80000100 : W32), (at0 [(R.MB_STATUS_POSTED (15 : Fin 16) (0 : Fin 2), 0), (R.MB_CFG_VALID 15, 1),
     (R.MB_CFG_HOST 15, 0), (R.OWN_PORT_CLASS 0, 2), (R.MB_CFG_BRIDLE 15, 1)]), by decide +kernel⟩,
   ⟨Writer.bridle, (15 : Fin 16), (1 : Fin 2), (0 : W32), (at0 [(R.MB_STATUS_POSTED (15 : Fin 16) (1 : Fin 2), 1)]), by decide +kernel⟩,
   ⟨Writer.bridle, (15 : Fin 16), (0 : Fin 2), (0 : W32), (at0 [(R.MB_STATUS_POSTED (15 : Fin 16) (0 : Fin 2), 1), (R.MB_CFG_VALID 15, 1), (R.MB_CFG_BRIDLE
     15, 1)]), by decide +kernel⟩,
   ⟨Writer.bridle, (15 : Fin 16), (0 : Fin 2), (0 : W32), (at0 [(R.MB_STATUS_POSTED (15 : Fin 16) (0 : Fin 2), 0), (R.MB_CFG_VALID 15, 1), (R.MB_CFG_BRIDLE
     15, 1)]), by decide +kernel⟩,
   ⟨Writer.bridle, (15 : Fin 16), (1 : Fin 2), (at0 [(R.MB_STATUS_POSTED (15 : Fin 16) (1 : Fin 2), 1), (R.MB_CFG_VALID 15, 1), (R.MB_CFG_BRIDLE 15, 1)]),
     by decide +kernel⟩,
   ⟨Writer.bridle, (15 : Fin 16), (1 : Fin 2), (at0 [(R.MB_STATUS_POSTED (15 : Fin 16) (1 : Fin 2), 0), (R.MB_CFG_VALID 15, 1), (R.MB_CFG_BRIDLE 15, 1)]),
     by decide +kernel⟩,
   ⟨(15 : Fin 16), (1 : Fin 2), ((at0 [(R.MB_STATUS_POSTED (15 : Fin 16) (1 : Fin 2), 1)]).on (fun d =>
     { d with host := { mbs := [(31, { timing := true })] } })), by decide +kernel⟩,
   ⟨(15 : Fin 16), (1 : Fin 2), (at0 []), by decide +kernel⟩,
   ⟨(at0 [(R.MB_STATUS_POSTED 0 1, 1)]).dev, 0, by decide +kernel⟩⟩

theorem witness_CommandReads :
    (∃ (r : CmdReq) (s : State), Accepts s 0x0102 r) ∧
    (∃ (r : CmdReq) (s : State), Accepts s 0x0108 r) ∧
    (∃ (r : CmdReq) (s : State), Accepts s 0x0206 r) ∧
    (∃ (r : CmdReq) (s : State), Accepts s 0x0301 r) ∧
    (∃ (r : CmdReq) (s : State), Accepts s 0x0304 r) ∧
    (∃ (r : CmdReq) (s : State), Accepts s 0x0401 r) ∧
    (∃ (r : CmdReq) (s : State), Accepts s 0x0404 r) ∧
    (∃ (r : CmdReq) (s : State), Accepts s 0x0405 r) ∧
    (∃ (r : CmdReq) (s : State), Accepts s 0x0501 r) ∧
    (∃ (r : CmdReq) (s : State), Accepts s 0x0502 r) ∧
    (∃ (r : CmdReq) (s : State), Accepts s 0x0503 r) ∧
    (∃ (r : CmdReq) (s : State), Accepts s 0x0601 r) ∧
    (∃ (r : CmdReq) (s : State), Accepts s 0x0603 r) ∧
    (∃ (r : CmdReq) (s : State), Accepts s 0x0607 r) ∧
    (∃ (r : CmdReq) (s : State), Accepts s 0x0701 r) ∧
    (∃ (r : CmdReq) (s : State), Accepts s 0x0702 r) ∧
    (∃ (r : CmdReq) (s : State), Accepts s 0x0705 r) ∧
    (∃ (r : CmdReq) (s : State), Accepts s 0x0A01 r) ∧
    (∃ (r : CmdReq) (s : State), Accepts s 0x0B01 r) ∧
    (∃ (r : CmdReq) (s : State), Accepts s 0x0B02 r) ∧
    (∃ (r : CmdReq) (s : State), Accepts s 0x0B04 r) ∧
    (∃ (r : CmdReq) (s : State), Accepts s 0x0101 r) ∧
    (∃ (r : CmdReq) (s : State), Accepts s 0x0103 r) ∧
    (∃ (r : CmdReq) (s : State), Accepts s 0x0105 r) ∧
    (∃ (r : CmdReq) (s : State), Accepts s 0x0901 r) ∧
    (∃ (r : CmdReq) (s : State), Accepts s 0x0902 r ∧ s.dev.on R.SEC_STATUS_KEY_VALID = false) ∧
    (∃ (r : CmdReq) (s : State), Accepts s 0x0902 r ∧ s.dev.get R.SEC_SIG_LEFT = 0 ∧ par r.params 16 2 = 0) ∧
    (∃ (r : CmdReq) (s : State), Accepts s 0x0902 r ∧ s.dev.on R.SEC_STATUS_KEY_VALID = true ∧ s.dev.get R.SEC_SIG_LEFT ≠ 0 ∧ par r.params 16 2 = 0) ∧
    (∃ (r : CmdReq) (l : List Byte) (s : State), Accepts s 0x0902 r ∧ s.dev.on R.SEC_STATUS_KEY_VALID = true ∧ par r.params 16 2 ≠ 0 ∧ s.dev.bridle.kept =
      some (r.params.take 16, l)) ∧
    (∃ (r : CmdReq) (s : State), Accepts s 0x0902 r ∧ s.dev.on R.SEC_STATUS_KEY_VALID = true ∧ par r.params 16 2 ≠ 0 ∧ ((∀ l, s.dev.bridle.kept ≠ some
      (r.params.take 16, l)))) :=
  ⟨⟨({} : CmdReq), (owned []), by decide +kernel⟩,
   ⟨({} : CmdReq), (owned []), by decide +kernel⟩,
   ⟨({} : CmdReq), (owned []), by decide +kernel⟩,
   ⟨({} : CmdReq), (owned []), by decide +kernel⟩,
   ⟨({} : CmdReq), (owned []), by decide +kernel⟩,
   ⟨({ plen := 1, params := [47] } : CmdReq), (owned []), by decide +kernel⟩,
   ⟨({ plen := 1, params := [11] } : CmdReq), (owned []), by decide +kernel⟩,
   ⟨({} : CmdReq), (owned []), by decide +kernel⟩,
   ⟨({} : CmdReq), (owned []), by decide +kernel⟩,
   ⟨({ plen := 1, params := [39] } : CmdReq), (owned []), by decide +kernel⟩,
   ⟨({} : CmdReq), (owned []), by decide +kernel⟩,
   ⟨({ plen := 1, params := [7] } : CmdReq), (owned []), by decide +kernel⟩,
   ⟨({} : CmdReq), (owned []), by decide +kernel⟩,
   ⟨({ plen := 1, params := [3] } : CmdReq), (owned []), by decide +kernel⟩,
   ⟨({ plen := 1, params := [25] } : CmdReq), (owned []), by decide +kernel⟩,
   ⟨({ plen := 1, params := [25] } : CmdReq), (owned []), by decide +kernel⟩,
   ⟨({} : CmdReq), (owned []), by decide +kernel⟩,
   ⟨({} : CmdReq), (owned []), by decide +kernel⟩,
   ⟨({} : CmdReq), (owned []), by decide +kernel⟩,
   ⟨({ plen := 1, params := [15] } : CmdReq), (owned []), by decide +kernel⟩,
   ⟨({} : CmdReq), (owned []), by decide +kernel⟩,
   ⟨({} : CmdReq), (owned []), by decide +kernel⟩,
   ⟨({ plen := 6, params := [0, 0, 0, 0, 1, 0] } : CmdReq), (owned []), by decide +kernel⟩,
   ⟨({ plen := 6, params := [0, 0, 0, 0, 4, 0] } : CmdReq), (owned []), by decide +kernel⟩,
   ⟨({ plen := 2, params := [0, 0] } : CmdReq), (owned []), by decide +kernel⟩,
   ⟨({ plen := 18, params := [0, 0, 0, 0, 0, 0, 0, 0, 0, 0, 0, 0, 0, 0, 0, 0, 0, 0] } : CmdReq), (at0 [(R.SEC_STATUS_KEY_VALID, 0), (R.OWN_PORT_CLASS 0, 3),
     (R.OWN_STATUS_OWNED, 1), (R.OWN_STATUS_PORT, 0), (R.BRIDLE_STATUS_STATE, 1)]), by decide +kernel⟩,
   ⟨({ plen := 18, params := [0, 0, 0, 0, 0, 0, 0, 0, 0, 0, 0, 0, 0, 0, 0, 0, 0, 0] } : CmdReq), (at0 [(R.SEC_SIG_LEFT, 0), (R.OWN_PORT_CLASS 0, 3),
     (R.OWN_STATUS_OWNED, 1), (R.OWN_STATUS_PORT, 0), (R.BRIDLE_STATUS_STATE, 1)]), by decide +kernel⟩,
   ⟨({ plen := 18, params := [0, 0, 0, 0, 0, 0, 0, 0, 0, 0, 0, 0, 0, 0, 0, 0, 0, 0] } : CmdReq), (at0 [(R.SEC_STATUS_KEY_VALID, 1), (R.SEC_SIG_LEFT, 1),
     (R.OWN_PORT_CLASS 0, 3), (R.OWN_STATUS_OWNED, 1), (R.OWN_STATUS_PORT, 0), (R.BRIDLE_STATUS_STATE, 1)]), by decide +kernel⟩,
   ⟨({ plen := 18, params := [0, 0, 0, 0, 0, 0, 0, 0, 0, 0, 0, 0, 0, 0, 0, 0, 1, 0] } : CmdReq), ([] : List Byte), ((at0 [(R.SEC_STATUS_KEY_VALID, 1),
     (R.OWN_PORT_CLASS 0, 3), (R.OWN_STATUS_OWNED, 1), (R.OWN_STATUS_PORT, 0), (R.BRIDLE_STATUS_STATE, 1), (R.SEC_STATUS_KEY_VALID, 1)]).on (fun d =>
     { d with bridle := { kept := some (List.replicate 16 0, []) } })), by decide +kernel⟩,
   ⟨({ plen := 18, params := [0, 0, 0, 0, 0, 0, 0, 0, 0, 0, 0, 0, 0, 0, 0, 0, 1, 0] } : CmdReq), (at0 [(R.SEC_STATUS_KEY_VALID, 1), (R.OWN_PORT_CLASS 0, 3),
     (R.OWN_STATUS_OWNED, 1), (R.OWN_STATUS_PORT, 0), (R.BRIDLE_STATUS_STATE, 1)]), by decide +kernel, by decide +kernel, by decide +kernel,
     (by intro l h; cases h)⟩⟩

theorem witness_CommandOwnershipAndUpdate :
    (∃ (r : CmdReq) (s : State), Accepts s 0x0201 r) ∧
    (∃ (r : CmdReq) (s : State), Accepts s 0x0202 r) ∧
    (∃ (r : CmdReq) (s : State), Accepts s 0x0203 r) ∧
    (∃ (r : CmdReq) (s : State), Accepts s 0x0204 r ∧ s.dev.owner = some r.port.val) ∧
    (∃ (r : CmdReq) (s : State), Accepts s 0x0205 r) ∧
    (∃ (r : CmdReq) (s : State), Accepts s 0x0801 r) ∧
    (∃ (r : CmdReq) (x : UpdSession) (s : State), Accepts s 0x0802 r ∧ s.dev.upd.session = some x) ∧
    (∃ (r : CmdReq) (x : UpdSession) (s : State), Accepts s 0x0803 r ∧ s.dev.upd.session = some x) ∧
    (∃ (r : CmdReq) (s : State), Accepts s 0x0804 r ∧ ((if par r.params 0 1 = 1 then s.dev.upd.journal ≠ 2 ∨ s.dev.on R.SEC_STATUS_RECOVERY = true else ∀ x,
      s.dev.upd.session = some x → x.verified = false))) ∧
    (∃ (r : CmdReq) (u : State) (st det : Nat) (s : State), Accepts s 0x0804 r ∧ (taken s 0x0804 r).updActivate (par r.params 0 1 == 1) = (u, some (st, det))) ∧
    (∃ (r : CmdReq) (u : State) (s : State), Accepts s 0x0804 r ∧ s.dev.swapWaits = true ∧ (taken s 0x0804 r).updActivate (par r.params 0 1 == 1) = (u, none)) ∧
    (∃ (r : CmdReq) (u : State) (s : State), Accepts s 0x0804 r ∧ (taken s 0x0804 r).updActivate (par r.params 0 1 == 1) = (u, none) ∧ u.dev.upd.swap = none ∧
      u.dev.get R.BRIDLE_STATUS_STATE = 1 ∧ u.dev.bridle.restart = false) ∧
    (∃ (r : CmdReq) (s : State), Accepts s 0x0805 r) ∧
    (∃ (r : CmdReq) (s : State), Accepts s 0x0806 r) :=
  ⟨⟨({} : CmdReq), (owned []), by decide +kernel⟩,
   ⟨({} : CmdReq), (owned []), by decide +kernel⟩,
   ⟨({ plen := 1, params := [1] } : CmdReq), (owned [(R.OWN_PORT_CLASS 1, 3)]), by decide +kernel⟩,
   ⟨({} : CmdReq), (owned []), by decide +kernel⟩,
   ⟨({ plen := 4, params := [10, 0, 0, 0] } : CmdReq), (owned []), by decide +kernel⟩,
   ⟨({ plen := 4, params := [0, 16, 0, 0] } : CmdReq), (owned []), by decide +kernel⟩,
   ⟨({ plen := 5, params := [0, 0, 0, 0, 7] } : CmdReq), ({ port := 0, size := 4096 } : UpdSession), ((owned []).on (fun d =>
     { d with upd := { session := some { port := 0, size := 4096 } } })), by decide +kernel⟩,
   ⟨({} : CmdReq), ({ port := 0, size := 4096 } : UpdSession), ((owned []).on (fun d => { d with upd := { session := some { port := 0, size := 4096 } } })),
     by decide +kernel⟩,
   ⟨({ plen := 1, params := [0] } : CmdReq), ((owned []).on (fun d => { d with upd := { session := some { port := 0, size := 4096 } } })), by decide +kernel,
     (by rw [if_neg (by decide)]; intro x h; cases h; rfl)⟩,
   ⟨({ plen := 1, params := [0] } : CmdReq), (((taken ((owned []).on (fun d => { d with upd := { session := some { port := 0, size := 4096 } } })) 0x0804
     ({ plen := 1, params := [0] } : CmdReq)).updActivate false).1), 13, 9, ((owned []).on (fun d =>
     { d with upd := { session := some { port := 0, size := 4096 } } })), by decide +kernel⟩,
   ⟨({ plen := 1, params := [0] } : CmdReq), (((taken ((owned [(R.STRIDE_STATUS_RUNNING, 1)]).on (fun d =>
     { d with upd := { active := true, session := some { port := 0, size := 4096, verified := true } } })) 0x0804 ({ plen := 1, params := [0] } :
     CmdReq)).updActivate false).1), ((owned [(R.STRIDE_STATUS_RUNNING, 1)]).on (fun d =>
     { d with upd := { active := true, session := some { port := 0, size := 4096, verified := true } } })), by decide +kernel⟩,
   ⟨({ plen := 1, params := [0] } : CmdReq), (((taken ((owned []).on (fun d =>
     { d with upd := { session := some { port := 0, size := 4096, verified := true } } })) 0x0804 ({ plen := 1, params := [0] } : CmdReq)).updActivate
     false).1), ((owned []).on (fun d => { d with upd := { session := some { port := 0, size := 4096, verified := true } } })), by decide +kernel⟩,
   ⟨({} : CmdReq), ((owned []).on (fun d => { d with upd := { session := some { port := 0, size := 4096 } } })), by decide +kernel⟩,
   ⟨({} : CmdReq), (owned []), by decide +kernel⟩⟩

theorem witness_CommandChanges :
    (∃ (r : CmdReq) (s : State), Accepts s 0x0104 r) ∧
    (∃ (r : CmdReq) (s : State), Accepts s 0x0106 r) ∧
    (∃ (r : CmdReq) (s : State), Accepts s 0x0109 r) ∧
    (∃ (r : CmdReq) (s : State), Accepts s 0x0403 r) ∧
    (∃ (r : CmdReq) (s : State), Accepts s 0x0504 r) ∧
    (∃ (r : CmdReq) (s : State), Accepts s 0x0606 r) ∧
    (∃ (r : CmdReq) (s : State), Accepts s 0x0706 r) ∧
    (∃ (r : CmdReq) (s : State), Accepts s 0x0904 r) ∧
    (∃ (r : CmdReq) (s : State), Accepts s 0x0A04 r) ∧
    (∃ (r : CmdReq) (s : State), Accepts s 0x0B03 r) ∧
    (∃ (r : CmdReq) (s : State), Accepts s 0x0B05 r) ∧
    (∃ (r : CmdReq) (s : State), Accepts s 0x0302 r) ∧
    (∃ (r : CmdReq) (s : State), Accepts s 0x0305 r) ∧
    (∃ (r : CmdReq) (s : State), Accepts s 0x0505 r) ∧
    (∃ (r : CmdReq) (s : State), Accepts s 0x0605 r) ∧
    (∃ (r : CmdReq) (s : State), Accepts s 0x0703 r ∧ s.dev.get (R.PORT_CTRL_EN (par r.params 0 1)) = par r.params 1 1 ∧ ((par r.params 1 1 = 1 ∨ r.port.val <
      2 ∨ r.via.val ≠ (par r.params 0 1)))) ∧
    (∃ (r : CmdReq) (s : State), Accepts s 0x0703 r ∧ par r.params 1 1 = 1) ∧
    (∃ (r : CmdReq) (s : State), Accepts s 0x0703 r ∧ par r.params 1 1 = 0 ∧ s.dev.on (R.PORT_CTRL_EN (par r.params 0 1)) = true ∧ ((r.port.val < 2 ∨
      r.via.val ≠ (par r.params 0 1)))) ∧
    (∃ (r : CmdReq) (s : State), Accepts s 0x0703 r ∧ par r.params 1 1 = 0 ∧ 2 ≤ r.port.val ∧ r.via.val = par r.params 0 1) ∧
    (∃ (r : CmdReq) (s : State), Accepts s 0x0903 r) ∧
    (∃ (r : CmdReq) (s : State), Accepts s 0x0107 r ∧ par r.params 0 1 = 1) ∧
    (∃ (r : CmdReq) (s : State), Accepts s 0x0107 r ∧ par r.params 0 1 = 2) ∧
    (∃ (r : CmdReq) (s : State), Accepts s 0x0604 r ∧ par r.params 0 1 = 1 ∧ s.dev.on R.STRIDE_CTRL_RUN = false ∧ s.dev.runError = 0) ∧
    (∃ (r : CmdReq) (s : State), Accepts s 0x0604 r ∧ par r.params 0 1 = 1 ∧ s.dev.on R.STRIDE_CTRL_RUN = true) ∧
    (∃ (r : CmdReq) (s : State) (x : Nat × Nat), Accepts s 0x0604 r ∧ par r.params 0 1 = 1 ∧ s.dev.on R.STRIDE_CTRL_RUN = false ∧ x ∈ [(1, 6), (4, 7), (3,
      0x10), (5, 0x11)] ∧ s.dev.runError = x.1) :=
  ⟨⟨({ plen := 8, params := [0, 0, 3, 0, 0, 0, 0, 0] } : CmdReq), (owned []), by decide +kernel⟩,
   ⟨({ plen := 8, params := [0, 0, 0, 0, 0, 0, 0, 0] } : CmdReq), (owned []), by decide +kernel⟩,
   ⟨({ plen := 32, params := [255, 255, 255, 255, 255, 255, 255, 255, 255, 255, 255, 255, 255, 255, 255, 255, 255, 255, 255, 255, 255, 255, 255, 255, 255, 255, 255, 255, 255, 255, 255, 255] }
     : CmdReq), (owned []), by decide +kernel⟩,
   ⟨({ plen := 1, params := [47] } : CmdReq), (owned [(R.ENG_STATUS_STATE 47, 6)]), by decide +kernel⟩,
   ⟨({} : CmdReq), (owned []), by decide +kernel⟩,
   ⟨({ plen := 4, params := [3, 0, 0, 0] } : CmdReq), (owned []), by decide +kernel⟩,
   ⟨({ plen := 2, params := [0, 1] } : CmdReq), ((owned []).on (fun d => { d with upd := { insts := [{}] } })), by decide +kernel⟩,
   ⟨({ plen := 60, params := [0, 0, 0, 0, 0, 0, 0, 8, 0, 0, 0, 4, 0, 0, 0, 0, 0, 0, 0, 0, 0, 0, 0, 0, 0, 0, 0, 0, 0, 0, 0, 0, 0, 0, 0, 0, 0, 0, 0, 0, 0, 0, 0, 0, 0, 0, 0, 0, 0, 0, 0, 0, 0, 0, 0, 0, 0, 0, 0, 0] }
     : CmdReq), (owned [(R.SEC_STATUS_LIFECYCLE, 1)]), by decide +kernel⟩,
   ⟨({ plen := 8, params := [8, 1, 0, 0, 1, 0, 0, 0] } : CmdReq), (owned []), by decide +kernel⟩,
   ⟨({ plen := 1, params := [0] } : CmdReq), (owned [(R.PORT_CTRL_MODE 15, 5), (R.HN_LANE_CFG_ROLE 15, 1), (R.PORT_STATUS_LINK 15, 1)]), by decide +kernel⟩,
   ⟨({ plen := 2, params := [1, 0] } : CmdReq), (owned []), by decide +kernel⟩,
   ⟨({ plen := 3, params := [63, 0, 0] } : CmdReq), (owned []), by decide +kernel⟩,
   ⟨({ plen := 4, params := [64, 0, 1, 0] } : CmdReq), (owned []), by decide +kernel⟩,
   ⟨({ plen := 12, params := [1, 7, 38, 0, 0, 0, 0, 0, 0, 0, 0, 0] } : CmdReq), (owned []), by decide +kernel⟩,
   ⟨({ plen := 32, params := [3, 7, 0, 0, 0, 0, 0, 0, 0, 0, 0, 0, 0, 0, 0, 0, 0, 0, 0, 0, 0, 0, 0, 0, 0, 0, 0, 0, 0, 0, 0, 0] } : CmdReq), (owned []),
     by decide +kernel⟩,
   ⟨{ plen := 2, params := [25, 1] }, owned [(R.PORT_STATUS_LINK 25, 1), (R.PORT_CTRL_MODE 25, 1), (R.PORT_CTRL_EN 25, 1)], by decide +kernel⟩,
   ⟨({ plen := 2, params := [25, 1] } : CmdReq), (owned [(R.PORT_STATUS_LINK 25, 1), (R.PORT_CTRL_MODE 25, 1), (R.PORT_CTRL_EN 25, 1), (R.PORT_STATUS_LINK 25,
     1), (R.PORT_CTRL_MODE 25, 1), (R.PORT_CTRL_EN 25, 1)]), by decide +kernel⟩,
   ⟨{ plen := 2, params := [25, 0] }, owned [(R.PORT_STATUS_LINK 25, 1), (R.PORT_CTRL_MODE 25, 1), (R.PORT_CTRL_EN 25, 1)], by decide +kernel⟩,
   ⟨{ plen := 2, params := [25, 0], port := 2, via := 25 }, owned [(R.PORT_STATUS_LINK 25, 1), (R.PORT_CTRL_MODE 25, 1), (R.PORT_CTRL_EN 25, 1),
     (R.OWN_PORT_CLASS 2, 3), (R.OWN_STATUS_PORT, 2)], by decide +kernel⟩,
   ⟨({ plen := 4, params := [2, 0, 89, 75] } : CmdReq), (owned [(R.SEC_STATUS_LIFECYCLE, 1)]), by decide +kernel⟩,
   ⟨({ plen := 1, params := [1] } : CmdReq), (owned []), by decide +kernel⟩,
   ⟨({ plen := 1, params := [2] } : CmdReq), (owned []), by decide +kernel⟩,
   ⟨({ plen := 1, params := [1] } : CmdReq), (at0 [(R.STRIDE_CTRL_RUN, 0), (R.OWN_PORT_CLASS 0, 3), (R.OWN_STATUS_OWNED, 1), (R.OWN_STATUS_PORT, 0),
     (R.BRIDLE_STATUS_STATE, 1), (R.STRIDE_STATUS_ADMITTED, 1)]), by decide +kernel⟩,
   ⟨({ plen := 1, params := [1] } : CmdReq), (at0 [(R.STRIDE_CTRL_RUN, 1), (R.OWN_PORT_CLASS 0, 3), (R.OWN_STATUS_OWNED, 1), (R.OWN_STATUS_PORT, 0),
     (R.BRIDLE_STATUS_STATE, 1)]), by decide +kernel⟩,
   ⟨{ plen := 1, params := [1] }, owned [(R.STRIDE_STATUS_ADMITTED, 1), (R.TB_CTRL_EN 0, 0)], (4, 7), by decide +kernel⟩⟩

theorem witness_CommandWaits :
    (∃ (r : CmdReq) (s : State), Accepts s 0x0402 r) ∧
    (∃ (r : CmdReq) (s : State), Accepts s 0x0303 r) ∧
    (∃ (r : CmdReq) (s : State), Accepts s 0x0704 r) ∧
    (∃ (r : CmdReq) (s : State), Accepts s 0x0A03 r) ∧
    (∃ (r : CmdReq) (s : State), Accepts s 0x0604 r ∧ par r.params 0 1 = 0) ∧
    (∃ (r : CmdReq) (s : State), Accepts s 0x0602 r) ∧
    (∃ (r : CmdReq) (s : State), Accepts s 0x0A02 r ∧ ((taken s 0x0A02 r).dev.domainRequest (par r.params 0 1) (par r.params 1 1)).2 = false) ∧
    (∃ (r : CmdReq) (s : State), Accepts s 0x0A02 r ∧ ((taken s 0x0A02 r).dev.domainRequest (par r.params 0 1) (par r.params 1 1)).2 = true) ∧
    (∃ s : State, ∃ n, s.dev.on (R.TB_STATUS_INCR_PEND n) = false ∧ s.dev.on (R.TB_STATUS_STEP_PEND n) = false) ∧
    (∃ s : State, ∃ p, s.dev.on (R.DIAG_CTRL_BUSY p) = false) ∧
    (∃ s : State, ∃ k, s.dev.netState k = 1) ∧
    (∃ s : State, ∃ k, s.dev.netState k ≠ 1) ∧
    (∃ op : Nat, ∃ r : CmdReq, ∃ w : CmdWait, ∃ s : State, ∃ st det ps, s.dev.coreOn = true ∧ s.dev.get R.BRIDLE_STATUS_STATE = 1 ∧ s.dev.bridle.restart =
      false ∧ s.dev.upd.swap = none ∧ s.dev.fab.bridleRx = [] ∧ s.dev.bridle.hnRx = [] ∧ s.dev.bridle.tasks = [{ op := op, req := r, wait := some w }] ∧ ((∀ n
      < 2, s.dev.on (R.MB_STATUS_POSTED n 0) = false)) ∧ waitOver s w = some (.reply st det ps)) ∧
    (∃ (op : Nat) (r : CmdReq) (w : CmdWait) (s : State), s.dev.coreOn = true ∧ s.dev.get R.BRIDLE_STATUS_STATE = 1 ∧ s.dev.bridle.restart = false ∧
      s.dev.upd.swap = none ∧ s.dev.fab.bridleRx = [] ∧ s.dev.bridle.hnRx = [] ∧ s.dev.bridle.tasks = [{ op := op, req := r, wait := some w }] ∧ ((∀ n < 2,
      s.dev.on (R.MB_STATUS_POSTED n 0) = false)) ∧ waitOver s w = none) :=
  ⟨⟨({ plen := 1, params := [47] } : CmdReq), (owned [(R.ENG_STATUS_STATE 47, 2)]), by decide +kernel⟩,
   ⟨({ plen := 2, params := [63, 2] } : CmdReq), (owned []), by decide +kernel⟩,
   ⟨({ plen := 1, params := [23] } : CmdReq), (owned []), by decide +kernel⟩,
   ⟨({ plen := 1, params := [0] } : CmdReq), (owned [(R.SLP_NET_CFG_LEADER 0, 1), (R.SLP_NET_CFG_EN 0, 1)]), by decide +kernel⟩,
   ⟨({ plen := 1, params := [0] } : CmdReq), (owned []), by decide +kernel⟩,
   ⟨({ plen := 24, params := [7, 3, 1, 0, 0, 0, 0, 0, 0, 0, 0, 128, 1, 0, 0, 0, 5, 0, 0, 0, 0, 0, 0, 0] } : CmdReq), (owned []), by decide +kernel⟩,
   ⟨({ plen := 2, params := [2, 0] } : CmdReq), (owned []), by decide +kernel⟩,
   ⟨({ plen := 2, params := [8, 0] } : CmdReq), (owned []), by decide +kernel⟩,
   ⟨(at0 [(R.TB_STATUS_INCR_PEND 7, 0), (R.TB_STATUS_STEP_PEND 7, 0)]), 7, by decide +kernel⟩,
   ⟨(at0 [(R.DIAG_CTRL_BUSY 25, 0)]), 25, by decide +kernel⟩,
   ⟨(at0 [(R.SLP_NET_STATUS_STATE 0, 1)]), 0, by decide +kernel⟩,
   ⟨(at0 []), 0, by decide +kernel⟩,
   ⟨0, ({} : CmdReq), CmdWait.lastEdge, ((at0 [(R.BRIDLE_STATUS_STATE, 1), (R.BRIDLE_STATUS_STATE, 1)]).on (fun d =>
     { d with bridle := { tasks := [{ op := 0, req := {}, wait := some .lastEdge }] } })), 0, 0, ([] : List Byte), by decide +kernel, by decide +kernel,
     by decide +kernel, by decide +kernel, by decide +kernel, by decide +kernel, by decide +kernel, by decide +kernel, by rfl⟩,
   ⟨0, ({} : CmdReq), CmdWait.lastEdge, ((at0 [(R.BRIDLE_STATUS_STATE, 1), (R.BRIDLE_STATUS_STATE, 1), (R.STRIDE_STATUS_RUNNING, 1)]).on (fun d =>
     { d with bridle := { tasks := [{ op := 0, req := {}, wait := some .lastEdge }] } })), by decide +kernel, by decide +kernel, by decide +kernel,
     by decide +kernel, by decide +kernel, by decide +kernel, by decide +kernel, by decide +kernel, by rfl⟩⟩

theorem witness_PowerDomains :
    (∃ (w : Writer) (d : Fin 9) (v : W32) (s : State), Grants s w (R.PWR_DOMAIN_REQ d) ∧ v.toNat &&& 0xFFFFFCFC = 0 ∧ d.val < 2) ∧
    (∃ (w : Writer) (d : Fin 9) (v : W32) (s : State), Grants s w (R.PWR_DOMAIN_REQ d) ∧ v.toNat &&& 0xFFFFFCFC = 0 ∧ 2 ≤ d.val ∧ ((v.toNat % 4 = 3 ∨ (v.toNat
      % 4 = 2 ∧ (d.val < 3 ∨ 6 < d.val))))) ∧
    (∃ (w : Writer) (d : Fin 9) (v : W32) (s : State), Grants s w (R.PWR_DOMAIN_REQ d) ∧ v.toNat &&& 0xFFFFFCFC = 0 ∧ 2 ≤ d.val ∧ v.toNat % 4 = 0 ∧ s.dev.get
      (R.PWR_DOMAIN_REQ d) ≠ 0 ∧ s.dev.domainUsed d = false ∧ ((d.val = 2 → ∀ i < 6, s.dev.domain (3 + i) = 0)) ∧ s.dev.domain d ≠ 0) ∧
    (∃ (w : Writer) (d : Fin 9) (v : W32) (s : State), Grants s w (R.PWR_DOMAIN_REQ d) ∧ v.toNat &&& 0xFFFFFCFC = 0 ∧ 2 ≤ d.val ∧ v.toNat % 4 = 0 ∧ s.dev.get
      (R.PWR_DOMAIN_REQ d) ≠ 0 ∧ ((s.dev.domainUsed d = true ∨ (d.val = 2 ∧ ∃ i < 6, s.dev.domain (3 + i) ≠ 0)))) ∧
    (∃ (w : Writer) (d : Fin 9) (v : W32) (s : State), Grants s w (R.PWR_DOMAIN_REQ d) ∧ v.toNat &&& 0xFFFFFCFC = 0 ∧ 2 ≤ d.val ∧ v.toNat % 4 = 1 ∧ (s.dev.get
      (R.PWR_DOMAIN_REQ d) ≠ 1 ∨ s.dev.domain d = 3) ∧ s.dev.domain d = 0) ∧
    (∃ (w : Writer) (d : Fin 9) (v : W32) (s : State), Grants s w (R.PWR_DOMAIN_REQ d) ∧ v.toNat &&& 0xFFFFFCFC = 0 ∧ 2 ≤ d.val ∧ v.toNat % 4 = 1 ∧ (s.dev.get
      (R.PWR_DOMAIN_REQ d) ≠ 1 ∨ s.dev.domain d = 3) ∧ s.dev.domain d = 3) ∧
    (∃ (w : Writer) (d : Fin 9) (v : W32) (s : State), Grants s w (R.PWR_DOMAIN_REQ d) ∧ v.toNat &&& 0xFFFFFCFC = 0 ∧ 3 ≤ d.val ∧ d.val ≤ 6 ∧ v.toNat % 4 = 2
      ∧ s.dev.get (R.PWR_DOMAIN_REQ d) ≠ 2 ∧ s.dev.domain d ≠ 3 ∧ s.dev.domain d = 1 ∧ s.dev.mayDoze d = true) ∧
    (∃ (w : Writer) (d : Fin 9) (v : W32) (s : State), Grants s w (R.PWR_DOMAIN_REQ d) ∧ v.toNat &&& 0xFFFFFCFC = 0 ∧ 3 ≤ d.val ∧ d.val ≤ 6 ∧ v.toNat % 4 = 2
      ∧ s.dev.get (R.PWR_DOMAIN_REQ d) ≠ 2 ∧ s.dev.domain d ≠ 3 ∧ ((s.dev.domain d ≠ 1 ∨ s.dev.mayDoze d = false))) ∧
    (∃ (d : Fin 9) (s : State), Tab.find? s.dev.pwr.moves d = none) ∧
    (∃ (d : Fin 9) (s : State), Tab.find? s.dev.pwr.moves d = some 1 ∧ d.val ≠ 2 ∧ s.dev.domain 2 ≠ 1) ∧
    (∃ (d : Fin 9) (st : Nat) (s : State), Tab.find? s.dev.pwr.moves d = some st ∧ st < 4 ∧ ((st = 1 → d.val = 2 ∨ s.dev.domain 2 = 1)) ∧ ((st = 3 → 3 ≤ d.val
      ∧ d.val < 7))) ∧
    (∃ (i : Fin 4) (s : State), s.dev.pwr.dozeWake.contains i.val = false) ∧
    (∃ (i : Fin 4) (s : State), s.dev.pwr.dozeWake.contains i.val = true ∧ s.dev.domain (3 + i) = 3) :=
  ⟨⟨Writer.bridle, (1 : Fin 9), (0 : W32), (at0 []), by decide +kernel⟩,
   ⟨Writer.bridle, (2 : Fin 9), (2 : W32), (at0 []), by decide +kernel⟩,
   ⟨Writer.bridle, (8 : Fin 9), (0 : W32), (at0 [(R.PWR_DOMAIN_REQ (8 : Fin 9), 1)]), by decide +kernel⟩,
   ⟨Writer.bridle, (2 : Fin 9), (0 : W32), (at0 [(R.PWR_DOMAIN_REQ (2 : Fin 9), 1), (R.PORT_CTRL_MODE 0, 0)]), by decide +kernel⟩,
   ⟨Writer.bridle, (8 : Fin 9), (1 : W32), (at0 [(R.PWR_DOMAIN_STATE 8, 0), (R.PWR_DOMAIN_REQ 8, 0)]), by decide +kernel⟩,
   ⟨Writer.bridle, (6 : Fin 9), (1 : W32), (at0 [(R.PWR_DOMAIN_STATE 6, 3), (R.PWR_DOMAIN_REQ 6, 2)]), by decide +kernel⟩,
   ⟨Writer.bridle, (6 : Fin 9), (2 : W32), (at0 [(R.PWR_DOMAIN_REQ (6 : Fin 9), 0), (R.PWR_DOMAIN_STATE 6, 1)]), by decide +kernel⟩,
   ⟨Writer.bridle, (6 : Fin 9), (2 : W32), (at0 [(R.PWR_DOMAIN_REQ (6 : Fin 9), 0), (R.PWR_DOMAIN_STATE 6, 0), (R.PWR_DOMAIN_REQ 6, 0)]), by decide +kernel⟩,
   ⟨(8 : Fin 9), (at0 []), by decide +kernel⟩,
   ⟨(8 : Fin 9), ((at0 [(R.PWR_DOMAIN_STATE 2, 0)]).on (fun d => { d with pwr := { moves := [(8, 1)] } })), by decide +kernel⟩,
   ⟨(8 : Fin 9), 0, ((at0 [(R.PWR_DOMAIN_STATE 8, 2)]).on (fun d => { d with pwr := { moves := [(8, 0)] } })), by decide +kernel⟩,
   ⟨(3 : Fin 4), (at0 []), by decide +kernel⟩,
   ⟨(3 : Fin 4), ((at0 [(R.PWR_DOMAIN_STATE 6, 3)]).on (fun d => { d with pwr := { dozeWake := [3] } })), by decide +kernel⟩⟩

theorem witness_SleepRounds :
    (∃ (k : Fin 9) (lane : Fin 16) (m : SleepMsg) (round : Byte) (v : BitVec 40) (s : State), s.dev.netOn k = false) ∧
    (∃ (lane : Fin 16) (m : SleepMsg) (s : State), ((s.dev.followed ≠ some lane.val ∨ m.dest.toNat ≠ s.dev.get R.HN_CTRL_NODE_ID ∨ s.dev.netState 0 ≠ 0))) ∧
    (∃ (lane : Fin 16) (m : SleepMsg) (s : State), s.dev.netOn 0 = true ∧ s.dev.followed = some lane.val ∧ m.dest.toNat = s.dev.get R.HN_CTRL_NODE_ID ∧
      s.dev.netState 0 = 0 ∧ (s.dev.sleepNet 0).wakeReq = false ∧ s.dev.on (R.SLP_CONSENT_CONSENT 0) = false ∧ s.dev.slpAwake 0 < s.dev.get (R.SLP_MAX_AWAKE
      0)) ∧
    (∃ (lane : Fin 16) (m : SleepMsg) (s : State), s.dev.netOn 0 = true ∧ s.dev.followed = some lane.val ∧ m.dest.toNat = s.dev.get R.HN_CTRL_NODE_ID ∧
      s.dev.netState 0 = 0 ∧ (s.dev.sleepNet 0).wakeReq = false ∧ s.dev.on (R.SLP_CONSENT_CONSENT 0) = true ∧ s.dev.lanesOf [3] = []) ∧
    (∃ (k : Fin 9) (lane : Fin 16) (m : SleepMsg) (s : State), 0 < k.val ∧ s.dev.netOn k = true ∧ s.dev.on (R.SLP_NET_CFG_LEADER k) = false ∧ m.dest.toNat =
      s.dev.get (R.SLP_NET_CFG_POS k) ∧ s.dev.netState k = 0 ∧ (s.dev.sleepNet k).wakeReq = false ∧ s.dev.pwr.outbox = [] ∧ s.dev.txbBusy (k - 1) 2 = true ∧
      s.dev.on (R.SLP_CONSENT_CONSENT k) = true) ∧
    (∃ (k : Fin 9) (lane : Fin 16) (m : SleepMsg) (s : State), 0 < k.val ∧ s.dev.netOn k = true ∧ s.dev.on (R.SLP_NET_CFG_LEADER k) = false ∧ m.dest.toNat =
      s.dev.get (R.SLP_NET_CFG_POS k) ∧ s.dev.netState k = 0 ∧ (s.dev.sleepNet k).wakeReq = false ∧ s.dev.pwr.outbox = [] ∧ s.dev.txbBusy (k - 1) 2 = true ∧
      s.dev.on (R.SLP_CONSENT_CONSENT k) = false ∧ s.dev.slpAwake k < s.dev.get (R.SLP_MAX_AWAKE k)) ∧
    (∃ (k : Fin 9) (lane : Fin 16) (m : SleepMsg) (s : State), 0 < k.val ∧ s.dev.netOn k = true ∧ s.dev.on (R.SLP_NET_CFG_LEADER k) = false ∧ m.dest.toNat =
      s.dev.get (R.SLP_NET_CFG_POS k) ∧ s.dev.netState k = 0 ∧ (s.dev.sleepNet k).wakeReq = false ∧ s.dev.pwr.outbox = [] ∧ s.dev.txbBusy (k - 1) 2 = true ∧
      s.dev.on (R.SLP_CONSENT_CONSENT k) = false ∧ s.dev.get (R.SLP_MAX_AWAKE k) ≤ s.dev.slpAwake k) ∧
    (∃ (lane : Fin 16) (m : SleepMsg) (s : State), (((s.dev.sleepNet 0).visit ≠ some lane.val ∨ s.dev.netState 0 ≠ 1 ∨ m.round.toNat ≠ s.dev.get
      (R.SLP_NET_STATUS_ROUND 0)))) ∧
    (∃ (lane : Fin 16) (m : SleepMsg) (p : Nat) (rest : List Nat) (s : State), (s.dev.sleepNet 0).visit = some lane.val ∧ s.dev.netState 0 = 1 ∧ m.round.toNat
      = s.dev.get (R.SLP_NET_STATUS_ROUND 0) ∧ (s.dev.sleepNet 0).wakeReq = false ∧ (s.dev.sleepNet 0).todo = p :: rest) ∧
    (∃ (lane : Fin 16) (m : SleepMsg) (s : State), (s.dev.sleepNet 0).visit = some lane.val ∧ s.dev.netState 0 = 1 ∧ m.round.toNat = s.dev.get
      (R.SLP_NET_STATUS_ROUND 0) ∧ (s.dev.sleepNet 0).wakeReq = false ∧ (s.dev.sleepNet 0).todo = [] ∧ (s.dev.sleepNet 0).token = none) ∧
    (∃ (lane : Fin 16) (m : SleepMsg) (s : State), s.dev.netOn 0 = true ∧ m.round.toNat = s.dev.get (R.SLP_NET_STATUS_ROUND 0) ∧ s.dev.role lane = 3 ∧
      s.dev.netState 0 = 1 ∧ (s.dev.sleepNet 0).token = none) ∧
    (∃ (k : Fin 9) (lane : Fin 16) (m : SleepMsg) (s : State), 0 < k.val ∧ s.dev.netOn k = true ∧ s.dev.on (R.SLP_NET_CFG_LEADER k) = true ∧ m.round.toNat =
      s.dev.get (R.SLP_NET_STATUS_ROUND k) ∧ s.dev.netState k = 1) ∧
    (∃ (k : Fin 9) (lane : Fin 16) (m : SleepMsg) (s : State), 0 < k.val ∧ s.dev.netOn k = true ∧ s.dev.on (R.SLP_NET_CFG_LEADER k) = true ∧ m.round.toNat =
      s.dev.get (R.SLP_NET_STATUS_ROUND k) ∧ s.dev.netState k ≠ 1) ∧
    (∃ (k : Fin 9) (s : State), (((s.dev.sleepNet k).visit = none ∨ s.dev.netState k ≠ 1))) ∧
    (∃ (k : Fin 9) (v : Nat) (s : State), (s.dev.sleepNet k).visit = some v ∧ s.dev.netState k = 1 ∧ v < 2 ^ 16 ∧ ((k.val = 0 → (s.dev.sleepNet 0).token =
      none))) ∧
    (∃ (lane : Fin 16) (round : Byte) (v : BitVec 40) (s : State), s.dev.netOn 0 = true ∧ s.dev.netState 0 < 2 ∧ s.dev.followed = some lane.val) ∧
    (∃ (k : Fin 9) (lane : Fin 16) (round : Byte) (v : BitVec 40) (s : State), 0 < k.val ∧ s.dev.netOn k = true ∧ s.dev.netState k < 2) ∧
    (∃ (k : Fin 9) (lane : Fin 16) (round : Byte) (v : BitVec 40) (s : State), ((s.dev.netState k = 2 ∨ s.dev.netState k = 3))) :=
  ⟨⟨(8 : Fin 9), (15 : Fin 16), (SleepMsg.mk 0 0 0 0 0 0 0), (0 : Byte), (0 : BitVec 40), (at0 []), by decide +kernel⟩,
   ⟨(15 : Fin 16), (SleepMsg.mk 0 0 0 0 0 0 0), (at0 []), by decide +kernel⟩,
   ⟨(15 : Fin 16), (SleepMsg.mk 0 0 0 0 0 0 0), (at0 [(R.SLP_CONSENT_CONSENT 0, 0), (R.SLP_NET_CFG_EN 0, 1), (R.HN_CTRL_UP_EN, 1), (R.HN_CTRL_UP_LANE, 15),
     (R.SLP_MAX_AWAKE 0, 1)]), by decide +kernel⟩,
   ⟨(15 : Fin 16), (SleepMsg.mk 0 0 0 0 0 0 0), (at0 [(R.SLP_CONSENT_CONSENT 0, 1), (R.SLP_NET_CFG_EN 0, 1), (R.HN_CTRL_UP_EN, 1), (R.HN_CTRL_UP_LANE, 15)]),
     by decide +kernel⟩,
   ⟨(8 : Fin 9), (15 : Fin 16), (SleepMsg.mk 0 0 0 0 0 0 0), (at0 [(R.SLP_NET_CFG_LEADER (8 : Fin 9), 0), (R.SLP_CONSENT_CONSENT (8 : Fin 9), 1),
     (R.SLP_NET_CFG_EN 8, 1), (R.TXB_STATUS_STATE 7 2, 1), (R.SLP_MAX_AWAKE 8, 100)]), by decide +kernel⟩,
   ⟨(8 : Fin 9), (15 : Fin 16), (SleepMsg.mk 0 0 0 0 0 0 0), (at0 [(R.SLP_NET_CFG_LEADER (8 : Fin 9), 0), (R.SLP_CONSENT_CONSENT (8 : Fin 9), 0),
     (R.SLP_NET_CFG_EN 8, 1), (R.TXB_STATUS_STATE 7 2, 1), (R.SLP_MAX_AWAKE 8, 100)]), by decide +kernel⟩,
   ⟨(8 : Fin 9), (15 : Fin 16), (SleepMsg.mk 0 0 0 0 0 0 0), (at0 [(R.SLP_NET_CFG_LEADER (8 : Fin 9), 0), (R.SLP_CONSENT_CONSENT (8 : Fin 9), 0),
     (R.SLP_NET_CFG_EN 8, 1), (R.TXB_STATUS_STATE 7 2, 1), (R.SLP_MAX_AWAKE 8, 0)]), by decide +kernel⟩,
   ⟨(15 : Fin 16), (SleepMsg.mk 0 0 0 0 0 0 0), (at0 []), by decide +kernel⟩,
   ⟨(15 : Fin 16), (SleepMsg.mk 0 0 0 0 0 0 0), 3, ([] : List Nat), ((at0 [(R.SLP_NET_STATUS_STATE 0, 1)]).on (fun d =>
     { d with pwr := { nets := [(0, { visit := some 15, todo := [3] })] } })), by decide +kernel⟩,
   ⟨(15 : Fin 16), (SleepMsg.mk 0 0 0 0 0 0 0), ((at0 [(R.SLP_NET_STATUS_STATE 0, 1)]).on (fun d =>
     { d with pwr := { nets := [(0, { visit := some 15 })] } })), by decide +kernel⟩,
   ⟨(15 : Fin 16), (SleepMsg.mk 0 0 0 0 0 0 0), (at0 [(R.SLP_NET_CFG_EN 0, 1), (R.SLP_NET_STATUS_STATE 0, 1), (R.PORT_CTRL_MODE 15, 5), (R.HN_LANE_CFG_ROLE 15, 3)]), by decide +kernel⟩,
   ⟨(8 : Fin 9), (15 : Fin 16), (SleepMsg.mk 0 0 0 0 0 0 0), (at0 [(R.SLP_NET_CFG_LEADER (8 : Fin 9), 1), (R.SLP_NET_CFG_EN 8, 1), (R.SLP_NET_STATUS_STATE 8,
     1)]), by decide +kernel⟩,
   ⟨(8 : Fin 9), (15 : Fin 16), (SleepMsg.mk 0 0 0 0 0 0 0), (at0 [(R.SLP_NET_CFG_LEADER (8 : Fin 9), 1), (R.SLP_NET_CFG_EN 8, 1)]), by decide +kernel⟩,
   ⟨(8 : Fin 9), (at0 []), by decide +kernel⟩,
   ⟨(8 : Fin 9), 3, ((at0 [(R.SLP_NET_STATUS_STATE 8, 1)]).on (fun d => { d with pwr := { nets := [(8, { visit := some 3 })] } })), by decide +kernel⟩,
   ⟨(15 : Fin 16), (0 : Byte), (0 : BitVec 40), (at0 [(R.SLP_NET_CFG_EN 0, 1), (R.HN_CTRL_UP_EN, 1), (R.HN_CTRL_UP_LANE, 15)]), by decide +kernel⟩,
   ⟨(8 : Fin 9), (15 : Fin 16), (0 : Byte), (0 : BitVec 40), (at0 [(R.SLP_NET_CFG_EN 8, 1)]), by decide +kernel⟩,
   ⟨(8 : Fin 9), (15 : Fin 16), (0 : Byte), (0 : BitVec 40), (at0 [(R.SLP_NET_STATUS_STATE 8, 3)]), by decide +kernel⟩⟩

theorem witness_SleepAndWake :
    (∃ (k : Fin 9) (s : State), s.dev.netState k ≠ 2) ∧
    (∃ (s : State), s.dev.netState 0 = 2 ∧ s.dev.entryAhead = true) ∧
    (∃ (k : Fin 9) (s : State), s.dev.netState k = 2 ∧ ((k = 0 → s.dev.entryAhead = false)) ∧ s.dev.on (R.SLP_NET_STATUS_WAKE_PEND k) = false ∧ s.dev.on
      R.SLP_CFG_DEV_SLEEP = false) ∧
    (∃ (k : Fin 9) (s : State), s.dev.netState k = 2 ∧ ((k = 0 → s.dev.entryAhead = false)) ∧ s.dev.on (R.SLP_NET_STATUS_WAKE_PEND k) = true ∧ s.dev.on
      R.SLP_CFG_DEV_SLEEP = false ∧ s.dev.pwr.asleep = false) ∧
    (∃ (s : State), s.dev.netState 0 = 2 ∧ s.dev.entryAhead = false ∧ s.dev.on (R.SLP_NET_STATUS_WAKE_PEND 0) = false ∧ s.dev.on R.SLP_CFG_DEV_SLEEP = true ∧
      ((∀ j < 9, j ≠ 0 → s.dev.netOn j = true → s.dev.netState j = 3))) ∧
    (∃ (src : Fin 8) (k : Fin 9) (pin : Fin 8) (s : State), (((s.dev.get R.SLP_WAKE_EN_SRC).testBit src = false ∨ (src.val < 2 ∧ s.dev.netState k ≠ 3) ∨ (src
      = 3 ∧ (s.dev.get R.SLP_WAKE_EN_PINS).testBit pin = false)))) ∧
    (∃ (src : Fin 8) (k : Fin 9) (pin : Fin 8) (s : State), (s.dev.get R.SLP_WAKE_EN_SRC).testBit src = true ∧ 2 ≤ src.val ∧ ((src = 3 → (s.dev.get
      R.SLP_WAKE_EN_PINS).testBit pin = true)) ∧ s.dev.pwr.asleep = false ∧ ((∀ j ∈ s.dev.netsOn, s.dev.netState j = 1 ∨ s.dev.netState j = 2))) ∧
    (∃ (src : Fin 8) (k : Fin 9) (pin : Fin 8) (s : State), (s.dev.get R.SLP_WAKE_EN_SRC).testBit src = true ∧ src.val < 2 ∧ s.dev.netState k = 3 ∧
      s.dev.netOn k = true ∧ s.dev.pwr.asleep = false) ∧
    (∃ (src : Fin 8) (k : Fin 9) (pin : Fin 8) (s : State), (s.dev.get R.SLP_WAKE_EN_SRC).testBit src = true ∧ 2 ≤ src.val ∧ ((src = 3 → (s.dev.get
      R.SLP_WAKE_EN_PINS).testBit pin = true)) ∧ s.dev.pwr.asleep = true) ∧
    (∃ (k : Fin 9) (lane : Fin 16) (node : Option (BitVec 16)) (s : State), s.dev.netOn k = false) ∧
    (∃ (k : Fin 9) (lane : Fin 16) (n : BitVec 16) (s : State), s.dev.netOn k = true ∧ s.dev.netState k ≠ 3 ∧ ((k.val = 0 → s.dev.netState 0 ≠ 2))) ∧
    (∃ (k : Fin 9) (lane : Fin 16) (s : State), s.dev.netState k ≠ 3) ∧
    (∃ (k : Fin 9) (lane : Fin 16) (s : State), s.dev.netOn k = true ∧ s.dev.netState k = 3) ∧
    (∃ (k : Fin 9) (lane : Fin 16) (n : BitVec 16) (s : State), s.dev.netOn k = true ∧ s.dev.netState k = 3 ∧ (s.dev.get R.SLP_WAKE_EN_SRC).testBit (if k = 0
      then 1 else 0) = false) ∧
    (∃ (k : Fin 9) (lane : Fin 16) (n : BitVec 16) (s : State), s.dev.netOn k = true ∧ s.dev.netState k = 3 ∧ (s.dev.get R.SLP_WAKE_EN_SRC).testBit (if k = 0
      then 1 else 0) = true ∧ s.dev.pwr.asleep = false) ∧
    (∃ (lane : Fin 16) (n : BitVec 16) (s : State), s.dev.netOn 0 = true ∧ s.dev.netState 0 = 2 ∧ s.dev.pwr.asleep = false) ∧
    (∃ (s : State), ((s.dev.get R.SLP_WAKE_TIMER = 0 ∨ ∀ j ∈ s.dev.netsOn, s.dev.netState j ≠ 3))) ∧
    (∃ (s : State), s.dev.get R.SLP_WAKE_TIMER ≠ 0 ∧ ((∃ j ∈ s.dev.netsOn, s.dev.netState j = 3))) ∧
    (∃ (w : Writer) (s : State), Grants s w R.SLP_KICK_WAKE) ∧
    (∃ (w : Writer) (s : State), Grants s w R.SLP_KICK_WAKE) ∧
    (∃ (s : State), s.dev.pwr.watch = false) ∧
    (∃ (s : State), s.dev.pwr.watch = true) :=
  ⟨⟨(8 : Fin 9), (at0 []), by decide +kernel⟩,
   ⟨(at0 [(R.SLP_NET_STATUS_STATE 0, 2), (R.STRIDE_STATUS_RUNNING, 1)]).on (fun d => { d with pwr := { nets := [(0, { entry := 1 })] } }), by decide +kernel⟩,
   ⟨8, at0 [(R.SLP_NET_STATUS_STATE 8, 2), (R.SLP_CFG_DEV_SLEEP, 0)], by decide +kernel⟩,
   ⟨8, at0 [(R.SLP_NET_STATUS_STATE 8, 2), (R.SLP_CFG_DEV_SLEEP, 0), (R.SLP_NET_STATUS_WAKE_PEND 8, 1)], by decide +kernel⟩,
   ⟨at0 [(R.SLP_NET_STATUS_STATE 0, 2), (R.SLP_CFG_DEV_SLEEP, 1)], by decide +kernel⟩,
   ⟨(7 : Fin 8), (8 : Fin 9), (7 : Fin 8), (at0 [(R.SLP_WAKE_EN_SRC, 0)]), by decide +kernel⟩,
   ⟨(7 : Fin 8), (8 : Fin 9), (7 : Fin 8), (at0 []), by decide +kernel⟩,
   ⟨(0 : Fin 8), (8 : Fin 9), (7 : Fin 8), (at0 [(R.SLP_NET_CFG_EN 8, 1), (R.SLP_NET_STATUS_STATE 8, 3), (R.SLP_WAKE_EN_SRC, 1)]), by decide +kernel⟩,
   ⟨(7 : Fin 8), (8 : Fin 9), (7 : Fin 8), ((at0 [(R.SLP_WAKE_EN_SRC, 255)]).on (fun d => { d with pwr := { asleep := true } })), by decide +kernel⟩,
   ⟨(8 : Fin 9), (15 : Fin 16), (none : Option (BitVec 16)), (at0 []), by decide +kernel⟩,
   ⟨(8 : Fin 9), (15 : Fin 16), (0 : BitVec 16), (at0 [(R.SLP_NET_CFG_EN 8, 1)]), by decide +kernel⟩,
   ⟨(8 : Fin 9), (15 : Fin 16), (at0 []), by decide +kernel⟩,
   ⟨8, 15, at0 [(R.SLP_NET_CFG_EN 8, 1), (R.SLP_NET_STATUS_STATE 8, 3)], by decide +kernel⟩,
   ⟨8, 15, 0, at0 [(R.SLP_NET_CFG_EN 8, 1), (R.SLP_NET_STATUS_STATE 8, 3), (R.SLP_WAKE_EN_SRC, 0)], by decide +kernel⟩,
   ⟨8, 15, 0, at0 [(R.SLP_NET_CFG_EN 8, 1), (R.SLP_NET_STATUS_STATE 8, 3), (R.SLP_WAKE_EN_SRC, 1)], by decide +kernel⟩,
   ⟨15, 0, at0 [(R.SLP_NET_CFG_EN 0, 1), (R.SLP_NET_STATUS_STATE 0, 2)], by decide +kernel⟩,
   ⟨(at0 []), by decide +kernel⟩,
   ⟨(at0 [(R.SLP_WAKE_TIMER, 1), (R.SLP_NET_CFG_EN 8, 1), (R.SLP_NET_STATUS_STATE 8, 3), (R.SLP_WAKE_TIMER, 1)]), by decide +kernel⟩,
   ⟨Writer.bridle, (at0 []), by decide +kernel⟩,
   ⟨Writer.bridle, (at0 []), by decide +kernel⟩,
   ⟨(at0 []), by decide +kernel⟩,
   ⟨((at0 []).on (fun d => { d with pwr := { watch := true } })), by decide +kernel⟩⟩

theorem witness_CommandChecks :
    (∃ (r : CmdReq) (s : State) (x : Instr × Nat × Category), Packet r x ∧ Heard s r ∧ ((r.rsv ≠ 0 ∨ 8 ≤ r.flags.toNat ∨ r.flags.toNat % 8 = 5 ∨ r.flags.toNat
      % 8 = 7))) ∧
    (∃ (r : CmdReq) (s : State) (x : Instr × Nat × Category), Packet r x ∧ Heard s r ∧ r.rsv = 0 ∧ (r.flags.toNat < 5 ∨ r.flags.toNat = 6) ∧ 1024 <
      r.plen.toNat) ∧
    (∃ (r : CmdReq) (s : State) (x : Instr × Nat × Category), Packet r x ∧ Heard s r ∧ r.rsv = 0 ∧ (r.flags.toNat < 5 ∨ r.flags.toNat = 6) ∧ r.plen.toNat ≤
      1024 ∧ r.plen.toNat ≠ r.params.length) ∧
    (∃ (r : CmdReq) (s : State) (x : Instr × Nat × Category), Packet r x ∧ Reaches s x.2.1 r ∧ (s.dev.get (R.OWN_PORT_CLASS r.port)) = 1 ∧ x.2.2 ≠ .read) ∧
    (∃ (r : CmdReq) (s : State) (x : Instr × Nat × Category), Packet r x ∧ Reaches s x.2.1 r ∧ (s.dev.get (R.OWN_PORT_CLASS r.port)) = 2 ∧ ((x.2.2 = .state ∨
      x.2.2 = .ownership))) ∧
    (∃ (r : CmdReq) (s : State) (x : Instr × Nat × Category), Packet r x ∧ Reaches s x.2.1 r ∧ (s.dev.get (R.OWN_PORT_CLASS r.port)) = 2 ∧ x.2.2 = .update ∧
      s.dev.owner ≠ none ∧ s.dev.on R.SEC_STATUS_RECOVERY = false) ∧
    (∃ (r : CmdReq) (s : State) (x : Instr × Nat × Category), Packet r x ∧ Reaches s x.2.1 r ∧ (s.dev.get (R.OWN_PORT_CLASS r.port)) = 3 ∧ s.dev.owner ≠ some
      r.port.val ∧ ((x.2.2 = .diag ∨ x.2.2 = .state))) ∧
    (∃ (r : CmdReq) (s : State) (x : Instr × Nat × Category), Packet r x ∧ Reaches s x.2.1 r ∧ (s.dev.get (R.OWN_PORT_CLASS r.port)) = 3 ∧ s.dev.owner ≠ some
      r.port.val ∧ x.2.2 = .update ∧ s.dev.on R.SEC_STATUS_RECOVERY = false) ∧
    (∃ (r : CmdReq) (s : State) (x : Instr × Nat × Category), Packet r x ∧ Reaches s x.2.1 r ∧ (s.dev.get (R.OWN_PORT_CLASS r.port)) = 3 ∧ s.dev.owner ≠ some
      r.port.val ∧ x.2.2 = .ownership ∧ ((x.2.1 = 0x0201 → s.dev.owner ≠ none))) ∧
    (∃ (r : CmdReq) (s : State) (x : Instr × Nat × Category), Packet r x ∧ Reaches s x.2.1 r ∧ permission s.dev r.port x.2.2 (x.2.1 == 0x0201) = none ∧
      s.dev.on R.SEC_STATUS_RECOVERY = true ∧ x.2.2 ≠ .update) ∧
    (∃ (r : CmdReq) (s : State) (x : Instr × Nat × Category) (e : Nat × Nat), Packet r x ∧ Reaches s x.2.1 r ∧ permission s.dev r.port x.2.2 (x.2.1 == 0x0201)
      = none ∧ s.dev.on R.SEC_STATUS_RECOVERY = false ∧ stateCheck s.dev x.2.1 r = some e) ∧
    (∃ (r : CmdReq) (s : State) (x : Instr × Nat × Category), Packet r x ∧ Reaches s x.2.1 r ∧ permission s.dev r.port x.2.2 (x.2.1 == 0x0201) = none ∧
      s.dev.on R.SEC_STATUS_RECOVERY = false ∧ stateCheck s.dev x.2.1 r = none ∧ r.params.length < (cmdLength x.2.1).1) ∧
    (∃ (r : CmdReq) (s : State) (x : Instr × Nat × Category), Packet r x ∧ Reaches s x.2.1 r ∧ permission s.dev r.port x.2.2 (x.2.1 == 0x0201) = none ∧
      s.dev.on R.SEC_STATUS_RECOVERY = false ∧ stateCheck s.dev x.2.1 r = none ∧ (cmdLength x.2.1).1 ≤ r.params.length ∧ (cmdLength x.2.1).2.1 <
      r.params.length) ∧
    (∃ (r : CmdReq) (s : State) (x : Instr × Nat × Category) (e : Nat × Nat), Packet r x ∧ Reaches s x.2.1 r ∧ permission s.dev r.port x.2.2 (x.2.1 == 0x0201)
      = none ∧ s.dev.on R.SEC_STATUS_RECOVERY = false ∧ stateCheck s.dev x.2.1 r = none ∧ lengthCheck s.dev x.2.1 r.params.length = none ∧ stateCheckWith
      s.dev x.2.1 r.params = some e) ∧
    (∃ (r : CmdReq) (s : State) (x : Instr × Nat × Category) (e : Nat × Nat), Packet r x ∧ Reaches s x.2.1 r ∧ permission s.dev r.port x.2.2 (x.2.1 == 0x0201)
      = none ∧ s.dev.on R.SEC_STATUS_RECOVERY = false ∧ stateCheck s.dev x.2.1 r = none ∧ lengthCheck s.dev x.2.1 r.params.length = none ∧ stateCheckWith
      s.dev x.2.1 r.params = none ∧ paramCheck s.dev x.2.1 r r.params = some e) ∧
    (∃ (d : Dev) (r : CmdReq) (l : List Byte) (x : Nat × Nat), x ∈ [(0x0401, 48), (0x0402, 48), (0x0403, 48), (0x0404, 12), (0x0502, 40), (0x0601, 8),
      (0x0607, 4), (0x0701, 26), (0x0702, 26), (0x0B02, 16), (0x0203, 4), (0x0302, 64), (0x0303, 64), (0x0602, 8), (0x0604, 2), (0x0605, 4), (0x0606, 4),
      (0x0703, 26), (0x0804, 2), (0x0A02, 9), (0x0A03, 9), (0x0A04, 9), (0x0B03, 2), (0x0706, 64), (0x0505, 2)] ∧ x.2 ≤ par l 0 1) ∧
    (∃ (d : Dev) (r : CmdReq) (l : List Byte), ((par l 0 4 < 10 ∨ 60000 < par l 0 4))) ∧
    (∃ (d : Dev) (l : List Byte) (r : CmdReq) (op : Nat), par l 0 4 % 4 ≠ 0 ∧ op ∈ [0x0103, 0x0104, 0x0105, 0x0106]) ∧
    (∃ (d : Dev) (r : CmdReq) (l : List Byte), par l 0 4 % 4 = 0 ∧ 1 ≤ par l 4 2 ∧ par l 4 2 ≤ 256 ∧ par l 0 4 + 4 * par l 4 2 ≤ 2 ^ 20) :=
  ⟨⟨({ plen := 0, params := [], rsv := 1 } : CmdReq), (owned []), (Instr.ping ({ plen := 0, params := [], rsv := 1 } : CmdReq), 0x0B04, Category.read), (by
     simp [Packet]), by decide +kernel, by decide +kernel⟩,
   ⟨({ plen := 1025 } : CmdReq), (owned []), (Instr.ping ({ plen := 1025 } : CmdReq), 0x0B04, Category.read), (by simp [Packet]), by decide +kernel,
     by decide +kernel, by decide +kernel, by decide +kernel⟩,
   ⟨({ plen := 1024 } : CmdReq), (owned []), (Instr.ping ({ plen := 1024 } : CmdReq), 0x0B04, Category.read), (by simp [Packet]), by decide +kernel,
     by decide +kernel, by decide +kernel, by decide +kernel, by decide +kernel⟩,
   ⟨({} : CmdReq), (owned [(R.OWN_PORT_CLASS 0, 1)]), (Instr.keepAlive ({} : CmdReq), 0x0204, Category.ownership), (by simp [Packet]), by decide +kernel,
     by decide +kernel, by decide +kernel⟩,
   ⟨({ plen := 4, params := [64, 0, 1, 0] } : CmdReq), (owned [(R.OWN_PORT_CLASS 0, 2)]), (Instr.setScrub ({ plen := 4, params := [64, 0, 1, 0] } : CmdReq),
     0x0305, Category.state), (by simp [Packet]), by decide +kernel, by decide +kernel, by decide +kernel⟩,
   ⟨({ plen := 4, params := [0, 16, 0, 0] } : CmdReq), (at0 [(R.SEC_STATUS_RECOVERY, 0), (R.OWN_PORT_CLASS 0, 3), (R.OWN_STATUS_OWNED, 1), (R.OWN_STATUS_PORT,
     0), (R.BRIDLE_STATUS_STATE, 1), (R.OWN_PORT_CLASS 0, 2), (R.OWN_STATUS_PORT, 1)]), (Instr.updateBegin ({ plen := 4, params := [0, 16, 0, 0] } : CmdReq),
     0x0801, Category.update), (by simp [Packet]), by decide +kernel, by decide +kernel, by decide +kernel, by decide +kernel, by decide +kernel⟩,
   ⟨({ plen := 4, params := [64, 0, 1, 0] } : CmdReq), (owned [(R.OWN_STATUS_PORT, 1)]), (Instr.setScrub ({ plen := 4, params := [64, 0, 1, 0] } : CmdReq),
     0x0305, Category.state), (by simp [Packet]), by decide +kernel, by decide +kernel, by decide +kernel, by decide +kernel⟩,
   ⟨({ plen := 4, params := [0, 16, 0, 0] } : CmdReq), (at0 [(R.SEC_STATUS_RECOVERY, 0), (R.OWN_PORT_CLASS 0, 3), (R.OWN_STATUS_OWNED, 1), (R.OWN_STATUS_PORT,
     0), (R.BRIDLE_STATUS_STATE, 1), (R.OWN_STATUS_PORT, 1)]), (Instr.updateBegin ({ plen := 4, params := [0, 16, 0, 0] } : CmdReq), 0x0801, Category.update),
     (by simp [Packet]), by decide +kernel, by decide +kernel, by decide +kernel, by decide +kernel, by decide +kernel⟩,
   ⟨({} : CmdReq), (owned [(R.OWN_PORT_CLASS 0, 3), (R.OWN_STATUS_OWNED, 1), (R.OWN_STATUS_PORT, 0), (R.BRIDLE_STATUS_STATE, 1), (R.OWN_STATUS_PORT, 1)]),
     (Instr.releaseOwner ({} : CmdReq), 0x0202, Category.ownership), (by simp [Packet]), by decide +kernel, by decide +kernel, by decide +kernel,
     by decide +kernel, by decide +kernel⟩,
   ⟨({} : CmdReq), (at0 [(R.SEC_STATUS_RECOVERY, 1), (R.OWN_PORT_CLASS 0, 3), (R.OWN_STATUS_OWNED, 1), (R.OWN_STATUS_PORT, 0), (R.BRIDLE_STATUS_STATE, 1),
     (R.OWN_PORT_CLASS 0, 3), (R.OWN_STATUS_OWNED, 1), (R.OWN_STATUS_PORT, 0), (R.BRIDLE_STATUS_STATE, 1), (R.SEC_STATUS_RECOVERY, 1)]), (Instr.ping ({} :
     CmdReq), 0x0B04, Category.read), (by simp [Packet]), by decide +kernel, by decide +kernel, by decide +kernel, by decide +kernel⟩,
   ⟨({} : CmdReq), ((at0 [(R.SEC_STATUS_RECOVERY, 0), (R.OWN_PORT_CLASS 0, 3), (R.OWN_STATUS_OWNED, 1), (R.OWN_STATUS_PORT, 0), (R.BRIDLE_STATUS_STATE, 1),
     (R.OWN_PORT_CLASS 0, 3), (R.OWN_STATUS_OWNED, 1), (R.OWN_STATUS_PORT, 0), (R.BRIDLE_STATUS_STATE, 1)]).on (fun d => { d with upd := {} })),
     (Instr.updateVerify ({} : CmdReq), 0x0803, Category.update), ((13, 8) : Nat × Nat), (by simp [Packet]), by decide +kernel, by decide +kernel,
     by decide +kernel, by decide +kernel⟩,
   ⟨({} : CmdReq), (at0 [(R.SEC_STATUS_RECOVERY, 0), (R.OWN_PORT_CLASS 0, 3), (R.OWN_STATUS_OWNED, 1), (R.OWN_STATUS_PORT, 0), (R.BRIDLE_STATUS_STATE, 1),
     (R.OWN_PORT_CLASS 0, 3), (R.OWN_STATUS_OWNED, 1), (R.OWN_STATUS_PORT, 0), (R.BRIDLE_STATUS_STATE, 1)]), (Instr.getEngine ({} : CmdReq), 0x0401,
     Category.read), (by simp [Packet]), by decide +kernel, by decide +kernel, by decide +kernel, by decide +kernel, by decide +kernel⟩,
   ⟨({ plen := 1, params := [0] } : CmdReq), (at0 [(R.SEC_STATUS_RECOVERY, 0), (R.OWN_PORT_CLASS 0, 3), (R.OWN_STATUS_OWNED, 1), (R.OWN_STATUS_PORT, 0),
     (R.BRIDLE_STATUS_STATE, 1), (R.OWN_PORT_CLASS 0, 3), (R.OWN_STATUS_OWNED, 1), (R.OWN_STATUS_PORT, 0), (R.BRIDLE_STATUS_STATE, 1)]), (Instr.ping
     ({ plen := 1, params := [0] } : CmdReq), 0x0B04, Category.read), (by simp [Packet]), by decide +kernel, by decide +kernel, by decide +kernel,
     by decide +kernel, by decide +kernel, by decide +kernel⟩,
   ⟨({ plen := 2, params := [63, 2] } : CmdReq), (at0 [(R.SEC_STATUS_RECOVERY, 0), (R.OWN_PORT_CLASS 0, 3), (R.OWN_STATUS_OWNED, 1), (R.OWN_STATUS_PORT, 0),
     (R.BRIDLE_STATUS_STATE, 1), (R.OWN_PORT_CLASS 0, 3), (R.OWN_STATUS_OWNED, 1), (R.OWN_STATUS_PORT, 0), (R.BRIDLE_STATUS_STATE, 1), (R.BANK_OWNER_CFG_LOCK
     63, 1)]), (Instr.setBankPower ({ plen := 2, params := [63, 2] } : CmdReq), 0x0303, Category.state), ((13, 2) : Nat × Nat), (by simp [Packet]),
     by decide +kernel, by decide +kernel, by decide +kernel, by decide +kernel, by decide +kernel, by decide +kernel⟩,
   ⟨({ plen := 1, params := [48] } : CmdReq), (at0 [(R.SEC_STATUS_RECOVERY, 0), (R.OWN_PORT_CLASS 0, 3), (R.OWN_STATUS_OWNED, 1), (R.OWN_STATUS_PORT, 0),
     (R.BRIDLE_STATUS_STATE, 1), (R.OWN_PORT_CLASS 0, 3), (R.OWN_STATUS_OWNED, 1), (R.OWN_STATUS_PORT, 0), (R.BRIDLE_STATUS_STATE, 1)]), (Instr.getEngine
     ({ plen := 1, params := [48] } : CmdReq), 0x0401, Category.read), ((7, 0) : Nat × Nat), (by simp [Packet]), by decide +kernel, by decide +kernel,
     by decide +kernel, by decide +kernel, by decide +kernel, by decide +kernel, by decide +kernel⟩,
   ⟨(at0 []).dev, {}, [255], (0x0401, 48), by decide +kernel⟩,
   ⟨(at0 []).dev, ({} : CmdReq), ([] : List Byte), by decide +kernel⟩,
   ⟨(at0 []).dev, [1], {}, 0x0103, by decide +kernel⟩,
   ⟨(at0 []).dev, ({} : CmdReq), [0, 0, 0, 0, 0, 1], by decide +kernel⟩⟩

theorem witness_CommandRoutesAndReplies :
    (∃ r : CmdReq, ∃ s : State, ∃ x, Packet r x ∧ ((s.dev.coreOn = false ∨ s.dev.get (R.OWN_PORT_CLASS r.port) = 0 ∨ (r.port = 3 ∧ s.dev.on
      R.SEC_STATUS_RECOVERY = true) ∨ (s.dev.get R.BRIDLE_STATUS_STATE ≠ 1 ∧ s.dev.get R.BRIDLE_STATUS_STATE ≠ 2 ∧ (r.port ≠ 2 ∨ 8 ≤
      s.dev.bridle.hnRx.length))))) ∧
    (∃ r : CmdReq, ∃ s : State, ∃ x, Packet r x ∧ s.dev.coreOn = true ∧ s.dev.deaf r = false ∧ s.dev.get R.BRIDLE_STATUS_STATE ≠ 1 ∧ s.dev.get
      R.BRIDLE_STATUS_STATE ≠ 2 ∧ r.port = 2 ∧ s.dev.bridle.hnRx.length < 8) ∧
    (∃ r : CmdReq, ∃ s : State, ∃ x, Packet r x ∧ s.dev.coreOn = true ∧ s.dev.deaf r = false ∧ s.dev.get R.BRIDLE_STATUS_STATE = 2 ∧ r.port.val < 2) ∧
    (∃ r : CmdReq, ∃ s : State, ∃ x, Packet r x ∧ s.dev.coreOn = true ∧ s.dev.deaf r = false ∧ s.dev.get R.BRIDLE_STATUS_STATE = 2 ∧ 2 ≤ r.port.val ∧
      s.dev.bridle.hnRx.length < 8) ∧
    (∃ r : CmdReq, ∃ s : State, ∃ x, Packet r x ∧ s.dev.coreOn = true ∧ s.dev.deaf r = false ∧ s.dev.get R.BRIDLE_STATUS_STATE = 2 ∧ 2 ≤ r.port.val ∧ 8 ≤
      s.dev.bridle.hnRx.length) ∧
    (∃ r : CmdReq, ∃ s : State, ∃ x, Packet r x ∧ s.dev.coreOn = true ∧ s.dev.deaf r = false ∧ s.dev.get R.BRIDLE_STATUS_STATE = 1 ∧ 8 ≤
      s.dev.bridle.tasks.length) ∧
    (∃ r : CmdReq, ∃ p : Nat, ∃ s : State, ∃ x, Packet r x ∧ Heard s r ∧ headerCheck (taken s x.2.1 r).dev r = none ∧ (taken s x.2.1 r).dev.routeOf r = .lane
      p) ∧
    (∃ r : CmdReq, ∃ p : Nat, ∃ s : State, ∃ x, Packet r x ∧ Heard s r ∧ headerCheck (taken s x.2.1 r).dev r = none ∧ (taken s x.2.1 r).dev.routeOf r = .lane
      p ∧ r.flags.getLsbD 1 = false ∧ 16 ≤ s.dev.hn.fwd.length) ∧
    (∃ r : CmdReq, ∃ s : State, ∃ x, Packet r x ∧ Heard s r ∧ headerCheck (taken s x.2.1 r).dev r = none ∧ (taken s x.2.1 r).dev.routeOf r = .lost ∧ r.direct
      = true) ∧
    (∃ r : CmdReq, ∃ s : State, ∃ x, Packet r x ∧ Heard s r ∧ headerCheck (taken s x.2.1 r).dev r = none ∧ (taken s x.2.1 r).dev.routeOf r = .lost ∧ r.direct
      = false) ∧
    (∃ (r : CmdReq) (s : State), Heard s r ∧ headerCheck ((taken s 0x0B04 r).on (fun d => d.forward 0x0B04 r (d.lanesOf [3]) true)).dev r = none ∧
      r.flags.getLsbD 2 = true ∧ runCheck ((taken s 0x0B04 r).on (fun d => d.forward 0x0B04 r (d.lanesOf [3]) true)).dev 0x0B04 r = none ∧ ((r.flags.getLsbD 1
      = true ∨ s.dev.hn.fwd.length < 16))) ∧
    (∃ (op : Nat) (r : CmdReq) (st det : Nat) (ps : List Byte) (s : State), r.flags.getLsbD 1 = true) ∧
    (∃ (op : Nat) (r : CmdReq) (st det : Nat) (ps : List Byte) (s : State), r.flags.getLsbD 1 = false ∧ r.port = 3) ∧
    (∃ (op : Nat) (r : CmdReq) (st det : Nat) (ps : List Byte) (s : State), r.flags.getLsbD 1 = false ∧ r.port = 2) ∧
    (∃ (op : Nat) (r : CmdReq) (st det : Nat) (ps : List Byte) (s : State), r.flags.getLsbD 1 = false ∧ r.port.val < 2 ∧ s.dev.bridle.out.getD r.port [] = []
      ∧ s.dev.on (R.MB_STATUS_POSTED r.port 1) = false) :=
  ⟨⟨({} : CmdReq), (owned [(R.OWN_PORT_CLASS 0, 0)]), (Instr.ping ({} : CmdReq), 0x0B04, Category.read), (by simp [Packet]), by decide +kernel⟩,
   ⟨({ plen := 0, params := [], port := 2 } : CmdReq), (at0 [(R.BRIDLE_STATUS_STATE, 0), (R.BRIDLE_STATUS_STATE, 0), (R.OWN_PORT_CLASS 0, 3),
     (R.OWN_STATUS_OWNED, 1), (R.OWN_STATUS_PORT, 0), (R.BRIDLE_STATUS_STATE, 1), (R.BRIDLE_STATUS_STATE, 0), (R.OWN_PORT_CLASS 2, 2)]), (Instr.ping
     ({ plen := 0, params := [], port := 2 } : CmdReq), 0x0B04, Category.read), (by simp [Packet]), by decide +kernel, by decide +kernel, by decide +kernel,
     by decide +kernel, by decide +kernel, by decide +kernel⟩,
   ⟨({ plen := 0, params := [], port := 0 } : CmdReq), (at0 [(R.BRIDLE_STATUS_STATE, 2), (R.OWN_PORT_CLASS 0, 3), (R.OWN_STATUS_OWNED, 1), (R.OWN_STATUS_PORT,
     0), (R.BRIDLE_STATUS_STATE, 1), (R.BRIDLE_STATUS_STATE, 2), (R.OWN_PORT_CLASS 3, 2)]), (Instr.ping ({ plen := 0, params := [], port := 0 } : CmdReq),
     0x0B04, Category.read), (by simp [Packet]), by decide +kernel, by decide +kernel, by decide +kernel, by decide +kernel⟩,
   ⟨({ plen := 0, params := [], port := 3 } : CmdReq), (at0 [(R.BRIDLE_STATUS_STATE, 2), (R.OWN_PORT_CLASS 0, 3), (R.OWN_STATUS_OWNED, 1), (R.OWN_STATUS_PORT,
     0), (R.BRIDLE_STATUS_STATE, 1), (R.BRIDLE_STATUS_STATE, 2), (R.OWN_PORT_CLASS 3, 2)]), (Instr.ping ({ plen := 0, params := [], port := 3 } : CmdReq),
     0x0B04, Category.read), (by simp [Packet]), by decide +kernel, by decide +kernel, by decide +kernel, by decide +kernel, by decide +kernel⟩,
   ⟨({ plen := 0, params := [], port := 3 } : CmdReq), ((at0 [(R.BRIDLE_STATUS_STATE, 2), (R.OWN_PORT_CLASS 0, 3), (R.OWN_STATUS_OWNED, 1),
     (R.OWN_STATUS_PORT, 0), (R.BRIDLE_STATUS_STATE, 1), (R.BRIDLE_STATUS_STATE, 2), (R.OWN_PORT_CLASS 3, 2)]).on (fun d =>
     { d with bridle := { hnRx := List.replicate 8 (0, {}) } })), (Instr.ping ({ plen := 0, params := [], port := 3 } : CmdReq), 0x0B04, Category.read),
     (by simp [Packet]), by decide +kernel, by decide +kernel, by decide +kernel, by decide +kernel, by decide +kernel⟩,
   ⟨({} : CmdReq), ((at0 [(R.BRIDLE_STATUS_STATE, 1), (R.OWN_PORT_CLASS 0, 3), (R.OWN_STATUS_OWNED, 1), (R.OWN_STATUS_PORT, 0), (R.BRIDLE_STATUS_STATE,
     1)]).on (fun d => { d with bridle := { tasks := List.replicate 8 { op := 0, req := {} } } })), (Instr.ping ({} : CmdReq), 0x0B04, Category.read),
     (by simp [Packet]), by decide +kernel, by decide +kernel, by decide +kernel, by decide +kernel⟩,
   ⟨({ plen := 0, params := [], flags := 2, target := 7 } : CmdReq), 15, (owned [(R.HN_CTRL_NODE_ID, 1), (R.HN_ROUTE_VALID 63, 1), (R.HN_ROUTE_LO 63, 7),
     (R.HN_ROUTE_HI 63, 7), (R.HN_ROUTE_LANE 63, 15)]), (Instr.ping ({ plen := 0, params := [], flags := 2, target := 7 } : CmdReq), 0x0B04, Category.read),
     (by simp [Packet]), by decide +kernel, by decide +kernel, by decide +kernel⟩,
   ⟨({ plen := 0, params := [], flags := 0, target := 7 } : CmdReq), 15, ((owned [(R.HN_CTRL_NODE_ID, 1), (R.HN_ROUTE_VALID 63, 1), (R.HN_ROUTE_LO 63, 7),
     (R.HN_ROUTE_HI 63, 7), (R.HN_ROUTE_LANE 63, 15)]).on (fun d =>
     { d with hn := { fwd := List.replicate 16 { id := 0, op := 0, req := {}, lanes := [], until' := 0, all := false } } })), (Instr.ping
     ({ plen := 0, params := [], flags := 0, target := 7 } : CmdReq), 0x0B04, Category.read), (by simp [Packet]), by decide +kernel, by decide +kernel,
     by decide +kernel, by decide +kernel, by decide +kernel⟩,
   ⟨({ plen := 0, params := [], flags := 0, target := 9 } : CmdReq), (owned []), (Instr.ping ({ plen := 0, params := [], flags := 0, target := 9 } : CmdReq),
     0x0B04, Category.read), (by simp [Packet]), by decide +kernel, by decide +kernel, by decide +kernel, by decide +kernel⟩,
   ⟨({ plen := 0, params := [], flags := 0, target := 9, direct := false } : CmdReq), (owned []), (Instr.ping
     ({ plen := 0, params := [], flags := 0, target := 9, direct := false } : CmdReq), 0x0B04, Category.read), (by simp [Packet]), by decide +kernel,
     by decide +kernel, by decide +kernel, by decide +kernel⟩,
   ⟨({ plen := 0, params := [], flags := 4 } : CmdReq), (owned [(R.OWN_PORT_CLASS 0, 3), (R.OWN_STATUS_OWNED, 1), (R.OWN_STATUS_PORT, 0),
     (R.BRIDLE_STATUS_STATE, 1)]), by decide +kernel⟩,
   ⟨0, ({ port := 0, flags := 2 } : CmdReq), 0, 0, ([] : List Byte), (at0 []), by decide +kernel⟩,
   ⟨0, ({ port := 3, flags := 0 } : CmdReq), 0, 0, ([] : List Byte), (at0 []), by decide +kernel⟩,
   ⟨0, ({ port := 2, flags := 0 } : CmdReq), 0, 0, ([] : List Byte), (at0 []), by decide +kernel⟩,
   ⟨0, ({ port := 0, flags := 0 } : CmdReq), 0, 0, ([] : List Byte), (at0 [(R.MB_STATUS_POSTED ({ port := 0, flags := 0 } : CmdReq).port 1, 0)]),
     by decide +kernel⟩⟩

theorem witness_EventRoutesAndSensors :
    (∃ (w : Writer) (k : Fin 256) (v : W32) (s : State), Grants s w (R.EV_CFG_EN k) ∧ s.dev.evCfgReserved v.toNat = true) ∧
    (∃ (w : Writer) (k : Fin 256) (v : W32) (s : State), Grants s w (R.EV_CFG_EN k) ∧ s.dev.evCfgReserved v.toNat = false) ∧
    (∃ (d : Dev) (v : Nat), ((v / 2 ^ 13 % 4 = 3 ∨ (v / 2 ^ 13 % 4 = 1 ∧ 4 ≤ v % 16) ∨ (v / 2 ^ 13 % 4 = 2 ∧ 48 ≤ v / 2 ^ 4 % 64)))) ∧
    (∃ (d : Dev) (v : Nat), ((v / 2 ^ 13 % 4 = 0 ∨ (v / 2 ^ 13 % 4 = 1 ∧ v % 16 < 4)))) ∧
    (∃ (w : Writer) (s : State), s.dev.mayWrite w 0x30440 = true) ∧
    (∃ (s : State), s.dev.get R.SEC_STATUS_LIFECYCLE = 0 ∧ s.dev.upd.hasKey = false) ∧
    (∃ (s : State), ((s.dev.get R.SEC_STATUS_LIFECYCLE ≠ 0 ∨ s.dev.upd.hasKey = true))) ∧
    (∃ (r : Fin 3) (s : State), s.dev.sys.lost.contains r.val = true) ∧
    (∃ (r : Fin 3) (s : State), s.dev.sys.lost.contains r.val = false) ∧
    (∃ (s : State), s.dev.sys.lost.contains 0 = false) ∧
    (∃ (s : State), s.dev.sys.lost.contains 1 = false) ∧
    (∃ (s : State), s.dev.sys.lost.contains 2 = false) ∧
    (∃ (s : State), s.dev.sys.lost.contains 0 = true) ∧
    (∃ (s : State), s.dev.sys.lost.contains 1 = true) ∧
    (∃ (s : State), s.dev.sys.lost.contains 2 = true) ∧
    (∃ (v : BitVec 16) (s : State), ((s.dev.sys.test = true ∨ s.dev.sys.lost.contains 1 = true))) ∧
    (∃ (v : BitVec 16) (s : State), s.dev.sys.test = false ∧ s.dev.sys.lost.contains 1 = false ∧ s.dev.sys.hot = false ∧ v.toInt < 520) ∧
    (∃ (v : BitVec 16) (s : State), s.dev.sys.test = false ∧ s.dev.sys.lost.contains 1 = false ∧ s.dev.sys.hot = false ∧ 520 ≤ v.toInt) ∧
    (∃ (v : BitVec 16) (s : State), s.dev.sys.test = false ∧ s.dev.sys.lost.contains 1 = false ∧ s.dev.sys.hot = true ∧ 440 ≤ v.toInt) ∧
    (∃ (v : BitVec 16) (s : State), s.dev.sys.test = false ∧ s.dev.sys.lost.contains 1 = false ∧ s.dev.sys.hot = true ∧ v.toInt < 440) ∧
    (∃ (s : State), s.dev.upd.swap = none) ∧
    (∃ (c : Configuration) (x : ImageInfo) (s : State), s.dev.upd.swap = some (c, x) ∧ s.poweredFor c = true ∧ ((s.dev.swapWaits = true → s.dev.on
      R.STRIDE_STATUS_RUNNING = true ∧ s.dev.swapIndex s.dev.stride.last = true))) ∧
    (∃ (c : Configuration) (x : ImageInfo) (s : State), s.dev.upd.swap = some (c, x) ∧ ((s.poweredFor c = false ∨ (s.dev.swapWaits = true ∧ (s.dev.on
      R.STRIDE_STATUS_RUNNING = false ∨ s.dev.swapIndex s.dev.stride.last = false))))) :=
  ⟨⟨Writer.bridle, (255 : Fin 256), (0x6000 : W32), (at0 []), by decide +kernel⟩,
   ⟨Writer.bridle, (255 : Fin 256), (0 : W32), (at0 []), by decide +kernel⟩,
   ⟨(at0 []).dev, 0x6000, by decide +kernel⟩,
   ⟨(at0 []).dev, 0, by decide +kernel⟩,
   ⟨Writer.bridle, (at0 []), by decide +kernel⟩,
   ⟨(at0 [(R.SEC_STATUS_LIFECYCLE, 0)]), by decide +kernel⟩,
   ⟨(at0 []), by decide +kernel⟩,
   ⟨(2 : Fin 3), ((at0 []).on (fun d => { d with sys := { lost := [2] } })), by decide +kernel⟩,
   ⟨(2 : Fin 3), (at0 []), by decide +kernel⟩,
   ⟨(at0 []), by decide +kernel⟩,
   ⟨(at0 []), by decide +kernel⟩,
   ⟨(at0 []), by decide +kernel⟩,
   ⟨((at0 []).on (fun d => { d with sys := { lost := [0] } })), by decide +kernel⟩,
   ⟨((at0 []).on (fun d => { d with sys := { lost := [1] } })), by decide +kernel⟩,
   ⟨((at0 []).on (fun d => { d with sys := { lost := [2] } })), by decide +kernel⟩,
   ⟨(0 : BitVec 16), ((at0 []).on (fun d => { d with sys := { lost := [1] } })), by decide +kernel⟩,
   ⟨(0 : BitVec 16), (at0 []), by decide +kernel⟩,
   ⟨(520 : BitVec 16), (at0 []), by decide +kernel⟩,
   ⟨(440 : BitVec 16), ((at0 []).on (fun d => { d with sys := { hot := true } })), by decide +kernel⟩,
   ⟨(0 : BitVec 16), ((at0 []).on (fun d => { d with sys := { hot := true } })), by decide +kernel⟩,
   ⟨(at0 []), by decide +kernel⟩,
   ⟨({} : Configuration), ({} : ImageInfo), ((at0 [(R.STRIDE_STATUS_RUNNING, 1)]).on (fun d => { d with upd := { swap := some ({}, {}) } })),
     by decide +kernel⟩,
   ⟨({ banks := [(0, 0)] } : Configuration), ({} : ImageInfo), ((at0 [(R.BANK_POWER_STATE 0, 2)]).on (fun d =>
     { d with upd := { swap := some ({ banks := [(0, 0)] }, {}) } })), by decide +kernel⟩⟩

theorem witness_ResetsAndStartup :
    (∃ (s : State), s.dev.isHeld = true) ∧
    (∃ (s : State), s.dev.isHeld = false) ∧
    (∃ (s : State), s.dev.sys.warmAt = none) ∧
    (∃ (at' : Nat) (s : State), s.dev.sys.warmAt = some at' ∧ s.dev.isHeld = false) ∧
    (∃ (strap : Fin 8) (upset : Bool) (s : State), ((s.dev.sys.starting = false ∨ s.dev.isHeld = true ∨ s.dev.pwr.asleep = true))) ∧
    (Config.pipValid (Mem.bytes [] mramBase 0x10000) = false → ∃ (strap : Fin 8) (upset : Bool) (s : State), s.dev.sys.starting = true ∧ s.dev.isHeld = false ∧
      s.dev.pwr.asleep = false ∧ (Config.pipValid (Mem.bytes s.mem mramBase 0x10000) = false)) ∧
    (Config.pipValid (Mem.bytes [] mramBase 0x10000) = true → ∃ (strap : Fin 8) (upset : Bool) (s : State), s.dev.sys.starting = true ∧ s.dev.isHeld = false ∧
      s.dev.pwr.asleep = false ∧ (s.dev.sys.cold = false ∨ strap.val = 1 ∨ 2 < strap.val) ∧ (Config.pipValid (Mem.bytes s.mem mramBase 0x10000) = true)) ∧
    (Config.pipValid (Mem.bytes [] mramBase 0x10000) = true → ∃ (strap : Fin 8) (upset : Bool) (s : State), s.dev.sys.starting = true ∧ s.dev.isHeld = false ∧
      s.dev.pwr.asleep = false ∧ s.dev.sys.cold = true ∧ ((strap.val = 0 ∨ strap.val = 2)) ∧ (Config.pipValid (Mem.bytes s.mem mramBase 0x10000) = true) ∧
      (bootCheck s.mem s.dev).1 ≠ 0) :=
  ⟨⟨((at0 []).on (fun d => { d with sys := { test := true } })), by decide +kernel⟩,
   ⟨(at0 []), by decide +kernel⟩,
   ⟨(at0 []), by decide +kernel⟩,
   ⟨0, ((at0 []).on (fun d => { d with sys := { warmAt := some 0 } })), by decide +kernel⟩,
   ⟨7, true, ((at0 []).on (fun d => { d with sys := { test := true } })), by decide +kernel⟩,
   fun h => ⟨7, true, (at0 []), by decide +kernel, by decide +kernel, by decide +kernel, h⟩,
   fun h => ⟨7, true, (at0 []), by decide +kernel, by decide +kernel, by decide +kernel, by decide +kernel, h⟩,
   fun h => ⟨2, false, (at0 []), by decide +kernel, by decide +kernel, by decide +kernel, by decide +kernel, by decide +kernel, h, by decide +kernel⟩⟩

theorem witness_ZhofaLoadsAndStores :
    (∃ (e : Fin 49) (rd rs : Fin 32) (imm : BitVec 16) (o v : Nat) (s : State), Issues s e ∧ s.dev.ea e rs imm = 0x10000000 + o ∧ o < 0x8000 ∧ v = leNat
      (Mem.bytes (s.heldMem e) (engBase e + 0x10000 + o) 1)) ∧
    (∃ (e : Fin 49) (rd rs : Fin 32) (imm : BitVec 16) (o v : Nat) (s : State), Issues s e ∧ s.dev.ea e rs imm = 0x10000000 + o ∧ o < 0x8000 ∧ v = leNat
      (Mem.bytes (s.heldMem e) (engBase e + 0x10000 + o) 1)) ∧
    (∃ (e : Fin 49) (rd rs : Fin 32) (imm : BitVec 16) (o v : Nat) (s : State), Issues s e ∧ s.dev.ea e rs imm = 0x10000000 + o ∧ o < 0x8000 ∧ o % 2 = 0 ∧ v =
      leNat (Mem.bytes (s.heldMem e) (engBase e + 0x10000 + o) 2)) ∧
    (∃ (e : Fin 49) (rd rs : Fin 32) (imm : BitVec 16) (o v : Nat) (s : State), Issues s e ∧ s.dev.ea e rs imm = 0x10000000 + o ∧ o < 0x8000 ∧ o % 2 = 0 ∧ v =
      leNat (Mem.bytes (s.heldMem e) (engBase e + 0x10000 + o) 2)) ∧
    (∃ (e : Fin 49) (rd rs : Fin 32) (imm : BitVec 16) (o v : Nat) (s : State), Issues s e ∧ s.dev.ea e rs imm = 0x10000000 + o ∧ o < 0x8000 ∧ o % 4 = 0 ∧ v =
      leNat (Mem.bytes (s.heldMem e) (engBase e + 0x10000 + o) 4)) ∧
    (∃ (e : Fin 49) (rd rs : Fin 32) (imm : BitVec 16) (o v : Nat) (s : State), Issues s e ∧ s.dev.ea e rs imm = 0x10000000 + o ∧ o < 0x8000 ∧ o % 4 = 0 ∧ v =
      leNat (Mem.bytes (s.heldMem e) (engBase e + 0x10000 + o) 4)) ∧
    (∃ (e : Fin 49) (rd rs : Fin 32) (imm : BitVec 16) (o v : Nat) (s : State), Issues s e ∧ s.dev.ea e rs imm = 0x10000000 + o ∧ o < 0x8000 ∧ o % 8 = 0 ∧ v =
      leNat (Mem.bytes (s.heldMem e) (engBase e + 0x10000 + o) 8)) ∧
    (∃ (e : Fin 49) (rd rs : Fin 32) (imm : BitVec 16) (o v : Nat) (s : State), Issues s e ∧ s.dev.ea e rs imm = 0x20000000 + o ∧ o < 0x2000000 ∧
      s.dev.bankRefuses (o / 0x80000) (zReq e) = 0 ∧ s.dev.eccAt (o / 8 * 8) = none ∧ v = leNat (Mem.bytes (s.heldMem e) o 1)) ∧
    (∃ (e : Fin 49) (rd rs : Fin 32) (imm : BitVec 16) (o v : Nat) (s : State), Issues s e ∧ s.dev.ea e rs imm = 0x20000000 + o ∧ o < 0x2000000 ∧
      s.dev.bankRefuses (o / 0x80000) (zReq e) = 0 ∧ s.dev.eccAt (o / 8 * 8) = none ∧ v = leNat (Mem.bytes (s.heldMem e) o 1)) ∧
    (∃ (e : Fin 49) (rd rs : Fin 32) (imm : BitVec 16) (o v : Nat) (s : State), Issues s e ∧ s.dev.ea e rs imm = 0x20000000 + o ∧ o < 0x2000000 ∧
      s.dev.bankRefuses (o / 0x80000) (zReq e) = 0 ∧ s.dev.eccAt (o / 8 * 8) = none ∧ o % 2 = 0 ∧ v = leNat (Mem.bytes (s.heldMem e) o 2)) ∧
    (∃ (e : Fin 49) (rd rs : Fin 32) (imm : BitVec 16) (o v : Nat) (s : State), Issues s e ∧ s.dev.ea e rs imm = 0x20000000 + o ∧ o < 0x2000000 ∧
      s.dev.bankRefuses (o / 0x80000) (zReq e) = 0 ∧ s.dev.eccAt (o / 8 * 8) = none ∧ o % 2 = 0 ∧ v = leNat (Mem.bytes (s.heldMem e) o 2)) ∧
    (∃ (e : Fin 49) (rd rs : Fin 32) (imm : BitVec 16) (o v : Nat) (s : State), Issues s e ∧ s.dev.ea e rs imm = 0x20000000 + o ∧ o < 0x2000000 ∧
      s.dev.bankRefuses (o / 0x80000) (zReq e) = 0 ∧ s.dev.eccAt (o / 8 * 8) = none ∧ o % 4 = 0 ∧ v = leNat (Mem.bytes (s.heldMem e) o 4)) ∧
    (∃ (e : Fin 49) (rd rs : Fin 32) (imm : BitVec 16) (o v : Nat) (s : State), Issues s e ∧ s.dev.ea e rs imm = 0x20000000 + o ∧ o < 0x2000000 ∧
      s.dev.bankRefuses (o / 0x80000) (zReq e) = 0 ∧ s.dev.eccAt (o / 8 * 8) = none ∧ o % 4 = 0 ∧ v = leNat (Mem.bytes (s.heldMem e) o 4)) ∧
    (∃ (e : Fin 49) (rd rs : Fin 32) (imm : BitVec 16) (o v : Nat) (s : State), Issues s e ∧ s.dev.ea e rs imm = 0x20000000 + o ∧ o < 0x2000000 ∧
      s.dev.bankRefuses (o / 0x80000) (zReq e) = 0 ∧ s.dev.eccAt (o / 8 * 8) = none ∧ o % 8 = 0 ∧ v = leNat (Mem.bytes (s.heldMem e) o 8)) ∧
    (∃ (e : Nat) (s : State), (s.dev.engine e).held = []) ∧
    (∃ (e o : Nat) (h : HeldStore) (s : State), (s.dev.engine e).held = [h] ∧ h.addr = 0x10000000 + o ∧ o < 0x8000) ∧
    (∃ (e : Fin 49) (rd rs : Fin 32) (imm : BitVec 16) (s : State), Issues s e ∧ (s.dev.engine e).held = [] ∧ s.dev.ea e rs imm ≠ 0x4001000C ∧ s.dev.zFault e
      (s.dev.ea e rs imm) 4 true = none) ∧
    (∃ (e : Fin 49) (rd rs : Fin 32) (imm : BitVec 16) (s : State), Issues s e ∧ (s.dev.engine e).held = [] ∧ s.dev.ea e rs imm ≠ 0x4001000C ∧ s.dev.zForbids
      e (s.dev.ea e rs imm) 4 = false ∧ zArea (s.dev.ea e rs imm) = .engReg 0) ∧
    (∃ (e : Fin 48) (e' : Fin 49) (rd rs : Fin 32) (imm : BitVec 16) (bad : Bool) (s : State) (x : Instr × Nat), e'.val = e.val ∧ Issues s e ∧ (s.dev.engine
      e).held = [] ∧ x ∈ [(Instr.lb e' rd rs imm, 1), (.lbu e' rd rs imm, 1), (.lh e' rd rs imm, 2), (.lhu e' rd rs imm, 2), (.lw e' rd rs imm, 4), (.lwu e'
      rd rs imm, 4), (.ld e' rd rs imm, 8), (.sb e' rd rs imm bad, 1), (.sh e' rd rs imm bad, 2), (.sw e' rd rs imm bad, 4), (.sd e' rd rs imm bad, 8)] ∧
      s.dev.zForbids e (s.dev.ea e rs imm) x.2 = true) ∧
    (∃ (e : Fin 48) (e' : Fin 49) (rd rs : Fin 32) (imm : BitVec 16) (o : Nat) (s : State) (x : Instr × Nat), e'.val = e.val ∧ Issues s e ∧ s.dev.ea e rs imm
      = 0x20000000 + o ∧ o < 0x2000000 ∧ s.dev.bankRefuses (o / 0x80000) (zReq e) = 0 ∧ s.dev.eccAt (o / 8 * 8) = some .ue ∧ x ∈ [(Instr.lb e' rd rs imm, 1),
      (.lbu e' rd rs imm, 1), (.lh e' rd rs imm, 2), (.lhu e' rd rs imm, 2), (.lw e' rd rs imm, 4), (.lwu e' rd rs imm, 4), (.ld e' rd rs imm, 8)] ∧ o % x.2 =
      0) ∧
    (∃ (d : Dev) (e a n : Nat), ((n = 1 ∨ n = 2 ∨ n = 4 ∨ n = 8)) ∧ ((a % n ≠ 0 ∨ a < 0x10000000 ∨ 0x60000100 ≤ a))) ∧
    (∃ (e : Fin 49) (rt rs : Fin 32) (imm : BitVec 16) (bad : Bool) (o v : Nat) (s : State), Issues s e ∧ s.dev.partner e = none ∧ (s.dev.engine e).held = []
      ∧ s.dev.ea e rs imm = 0x10000000 + o ∧ o < 0x8000 ∧ v = s.dev.greg e rt ∧ o % 2 = 0) ∧
    (∃ (e : Fin 49) (rt rs : Fin 32) (imm : BitVec 16) (bad : Bool) (o v : Nat) (s : State), Issues s e ∧ s.dev.partner e = none ∧ (s.dev.engine e).held = []
      ∧ s.dev.ea e rs imm = 0x10000000 + o ∧ o < 0x8000 ∧ v = s.dev.greg e rt ∧ o % 4 = 0) ∧
    (∃ (e : Fin 49) (rt rs : Fin 32) (imm : BitVec 16) (bad : Bool) (o v : Nat) (s : State), Issues s e ∧ s.dev.partner e = none ∧ (s.dev.engine e).held = []
      ∧ s.dev.ea e rs imm = 0x10000000 + o ∧ o < 0x8000 ∧ v = s.dev.greg e rt ∧ o % 8 = 0) ∧
    (∃ (e : Fin 49) (rt rs : Fin 32) (imm : BitVec 16) (bad : Bool) (a v : Nat) (s : State), Issues s e ∧ (s.dev.engine e).held = [] ∧ a = s.dev.ea e rs imm ∧
      v = s.dev.greg e rt ∧ (s.dev.partner e = none ∨ lsHolds a = false ∧ bad = false) ∧ s.dev.zFault e a 1 false = none) ∧
    (∃ (e : Fin 49) (rt rs : Fin 32) (imm : BitVec 16) (bad : Bool) (a v : Nat) (s : State), Issues s e ∧ (s.dev.engine e).held = [] ∧ a = s.dev.ea e rs imm ∧
      v = s.dev.greg e rt ∧ (s.dev.partner e = none ∨ lsHolds a = false ∧ bad = false) ∧ s.dev.zFault e a 2 false = none) ∧
    (∃ (e : Fin 49) (rt rs : Fin 32) (imm : BitVec 16) (bad : Bool) (a v : Nat) (s : State), Issues s e ∧ (s.dev.engine e).held = [] ∧ a = s.dev.ea e rs imm ∧
      v = s.dev.greg e rt ∧ (s.dev.partner e = none ∨ lsHolds a = false ∧ bad = false) ∧ s.dev.zFault e a 4 false = none) ∧
    (∃ (e : Fin 49) (rt rs : Fin 32) (imm : BitVec 16) (bad : Bool) (a v : Nat) (s : State), Issues s e ∧ (s.dev.engine e).held = [] ∧ a = s.dev.ea e rs imm ∧
      v = s.dev.greg e rt ∧ (s.dev.partner e = none ∨ lsHolds a = false ∧ bad = false) ∧ s.dev.zFault e a 8 false = none) ∧
    (∃ (e : Fin 48) (e' : Fin 49) (rt rs : Fin 32) (imm : BitVec 16) (bad : Bool) (a v : Nat) (s : State), e'.val = e.val ∧ Issues s e ∧ s.dev.partner e ≠
      none ∧ a = s.dev.ea e rs imm ∧ v = s.dev.greg e rt ∧ lsHolds a = true ∧ (s.dev.engine e).held.length < 4 ∧ s.dev.zFault e a 1 false = none) ∧
    (∃ (e : Fin 48) (e' : Fin 49) (rt rs : Fin 32) (imm : BitVec 16) (bad : Bool) (a v : Nat) (s : State), e'.val = e.val ∧ Issues s e ∧ s.dev.partner e ≠
      none ∧ a = s.dev.ea e rs imm ∧ v = s.dev.greg e rt ∧ lsHolds a = true ∧ (s.dev.engine e).held.length < 4 ∧ s.dev.zFault e a 2 false = none) ∧
    (∃ (e : Fin 48) (e' : Fin 49) (rt rs : Fin 32) (imm : BitVec 16) (bad : Bool) (a v : Nat) (s : State), e'.val = e.val ∧ Issues s e ∧ s.dev.partner e ≠
      none ∧ a = s.dev.ea e rs imm ∧ v = s.dev.greg e rt ∧ lsHolds a = true ∧ (s.dev.engine e).held.length < 4 ∧ s.dev.zFault e a 4 false = none) ∧
    (∃ (e : Fin 48) (e' : Fin 49) (rt rs : Fin 32) (imm : BitVec 16) (bad : Bool) (a v : Nat) (s : State), e'.val = e.val ∧ Issues s e ∧ s.dev.partner e ≠
      none ∧ a = s.dev.ea e rs imm ∧ v = s.dev.greg e rt ∧ lsHolds a = true ∧ (s.dev.engine e).held.length < 4 ∧ s.dev.zFault e a 8 false = none) ∧
    (∃ (e : Fin 48) (e' : Fin 49) (rt rs : Fin 32) (imm : BitVec 16) (s : State), e'.val = e.val ∧ Issues s e ∧ s.dev.partner e ≠ none ∧ (s.dev.engine e).held
      = [] ∧ lsHolds (s.dev.ea e rs imm) = false ∧ s.dev.zFault e (s.dev.ea e rs imm) 4 false = none) ∧
    (∃ (i o t : Nat) (h : HeldStore) (s : State), i < 24 ∧ (s.dev.engine (2 * i)).held = [h] ∧ ((∀ k < 24, k ≠ i → (s.dev.engine (2 * k)).held = [])) ∧ t <
      h.due) ∧
    (∃ (i o t : Nat) (h : HeldStore) (s : State), i < 24 ∧ (s.dev.engine (2 * i)).held = [h] ∧ ((∀ k < 24, k ≠ i → (s.dev.engine (2 * k)).held = [])) ∧ h.due
      ≤ t ∧ h.bad = false ∧ h.addr = 0x10000000 + o ∧ o < 0x8000) ∧
    (∃ (i o t : Nat) (h : HeldStore) (s : State), i < 24 ∧ (s.dev.engine (2 * i)).held = [h] ∧ ((∀ k < 24, k ≠ i → (s.dev.engine (2 * k)).held = [])) ∧ h.due
      ≤ t ∧ h.bad = true) ∧
    (∃ (d : Dev) (i pc : Nat) (f : Fld) (k : Nat), i < 24 ∧ f = (if i % 2 = 0 then R.TEAM_LS_STATUS_MIS01 (i / 2) else R.TEAM_LS_STATUS_MIS23 (i / 2)) ∧ (k =
      2 * i ∨ k = 2 * i + 1)) :=
  ⟨⟨47, 3, 1, 0, 0, 0, eng47 0x10000000 0, by decide +kernel⟩,
   ⟨47, 3, 1, 0, 0, 0, eng47 0x10000000 0, by decide +kernel⟩,
   ⟨47, 3, 1, 0, 0, 0, eng47 0x10000000 0, by decide +kernel⟩,
   ⟨47, 3, 1, 0, 0, 0, eng47 0x10000000 0, by decide +kernel⟩,
   ⟨47, 3, 1, 0, 0, 0, eng47 0x10000000 0, by decide +kernel⟩,
   ⟨47, 3, 1, 0, 0, 0, eng47 0x10000000 0, by decide +kernel⟩,
   ⟨47, 3, 1, 0, 0, 0, eng47 0x10000000 0, by decide +kernel⟩,
   ⟨47, 3, 1, 0, 0, 0, (eng47 0x20000000 0).on (fun d => d.set (R.BANK_OWNER_AGENT 0) 11), by decide +kernel⟩,
   ⟨47, 3, 1, 0, 0, 0, (eng47 0x20000000 0).on (fun d => d.set (R.BANK_OWNER_AGENT 0) 11), by decide +kernel⟩,
   ⟨47, 3, 1, 0, 0, 0, (eng47 0x20000000 0).on (fun d => d.set (R.BANK_OWNER_AGENT 0) 11), by decide +kernel⟩,
   ⟨47, 3, 1, 0, 0, 0, (eng47 0x20000000 0).on (fun d => d.set (R.BANK_OWNER_AGENT 0) 11), by decide +kernel⟩,
   ⟨47, 3, 1, 0, 0, 0, (eng47 0x20000000 0).on (fun d => d.set (R.BANK_OWNER_AGENT 0) 11), by decide +kernel⟩,
   ⟨47, 3, 1, 0, 0, 0, (eng47 0x20000000 0).on (fun d => d.set (R.BANK_OWNER_AGENT 0) 11), by decide +kernel⟩,
   ⟨47, 3, 1, 0, 0, 0, (eng47 0x20000000 0).on (fun d => d.set (R.BANK_OWNER_AGENT 0) 11), by decide +kernel⟩,
   ⟨46, at0 [], by decide +kernel⟩,
   ⟨46, 0, { due := 3, pc := 0, addr := 0x10000000, bytes := [1] }, pair46 0 [{ due := 3, pc := 0, addr := 0x10000000, bytes := [1] }], by decide +kernel⟩,
   ⟨47, 3, 1, 0, eng47 0x10000000 0, by decide +kernel⟩,
   ⟨47, 3, 1, 0, eng47 0x40010000 0, by decide +kernel⟩,
   ⟨47, 47, 3, 1, 0, false, eng47 1 0, (.lw 47 3 1 0, 4), by decide +kernel⟩,
   ⟨47, 47, 3, 1, 0, 0, (eng47 0x20000000 0).on (fun d => { (d.set (R.BANK_OWNER_AGENT 0) 11) with orch := { ecc := [(0, .ue)] } }), (.lw 47 3 1 0, 4),
     by decide +kernel⟩,
   ⟨((at0 [(R.ENG_STATUS_STATE 47, 2)]).on (fun d => { d with eng := [(47, { g := [(1, 0), (2, 0), (3, 0)] })] })).dev, (47 : Fin 49), 0, 8,
     by decide +kernel⟩,
   ⟨47, 2, 1, 0, false, 0, 0, eng47 0x10000000 0, by decide +kernel⟩,
   ⟨47, 2, 1, 0, false, 0, 0, eng47 0x10000000 0, by decide +kernel⟩,
   ⟨47, 2, 1, 0, false, 0, 0, eng47 0x10000000 0, by decide +kernel⟩,
   ⟨47, 2, 1, 0, false, 0x10000000, 0, eng47 0x10000000 0, by decide +kernel⟩,
   ⟨47, 2, 1, 0, false, 0x10000000, 0, eng47 0x10000000 0, by decide +kernel⟩,
   ⟨47, 2, 1, 0, false, 0x10000000, 0, eng47 0x10000000 0, by decide +kernel⟩,
   ⟨47, 2, 1, 0, false, 0x10000000, 0, eng47 0x10000000 0, by decide +kernel⟩,
   ⟨46, 46, 2, 1, 0, true, 0x10000000, 0, pair46 0x10000000 [], by decide +kernel⟩,
   ⟨46, 46, 2, 1, 0, true, 0x10000000, 0, pair46 0x10000000 [], by decide +kernel⟩,
   ⟨46, 46, 2, 1, 0, true, 0x10000000, 0, pair46 0x10000000 [], by decide +kernel⟩,
   ⟨46, 46, 2, 1, 0, true, 0x10000000, 0, pair46 0x10000000 [], by decide +kernel⟩,
   ⟨46, 46, 2, 1, 0, pair46 0x40010000 [], by decide +kernel⟩,
   ⟨23, 0, 2, { due := 3, pc := 0, addr := 0x10000000, bytes := [1] }, pair46 0 [{ due := 3, pc := 0, addr := 0x10000000, bytes := [1] }], by decide +kernel⟩,
   ⟨23, 0, 3, { due := 3, pc := 0, addr := 0x10000000, bytes := [1] }, pair46 0 [{ due := 3, pc := 0, addr := 0x10000000, bytes := [1] }], by decide +kernel⟩,
   ⟨23, 0, 3, { due := 3, pc := 0, addr := 0x10000000, bytes := [1], bad := true }, pair46 0
     [{ due := 3, pc := 0, addr := 0x10000000, bytes := [1], bad := true }], by decide +kernel⟩,
   ⟨(at0 []).dev, 23, 0, _, 47, by decide +kernel, rfl, by decide +kernel⟩⟩

theorem witness_ZhofaBitsAndStreams :
    (∃ (e : Fin 49) (p : Fin 8) (rd rs rt : Fin 32) (a b c : Nat) (q : Nat × Nat × Bool) (s : State), Issues s e ∧ a = s.dev.greg e rs ∧ b = s.dev.greg e rt ∧
      q = crcPoly p ∧ c = s.dev.greg e rd % 2 ^ q.1 ∧ b ≠ 0) ∧
    (∃ (e : Fin 49) (p : Fin 8) (rd rs rt : Fin 32) (a b c : Nat) (q : Nat × Nat × Bool) (s : State), Issues s e ∧ a = s.dev.greg e rs ∧ b = s.dev.greg e rt ∧
      q = crcPoly p ∧ c = s.dev.greg e rd % 2 ^ q.1 ∧ b = 0) ∧
    (∃ (e : Fin 49) (p : Fin 8) (rd rs rt : Fin 32) (a b c : Nat) (q : Nat × Nat × Bool) (s : State), Issues s e ∧ a = s.dev.greg e rs ∧ b = s.dev.greg e rt ∧
      q = crcPoly p ∧ c = s.dev.greg e rd % 2 ^ q.1 ∧ (s.dev.engine e).held = [] ∧ p.val < 5 ∧ b = 0) ∧
    (∃ (e : Fin 49) (p : Fin 8) (rd rs rt : Fin 32) (a b c : Nat) (q : Nat × Nat × Bool) (s : State), Issues s e ∧ a = s.dev.greg e rs ∧ b = s.dev.greg e rt ∧
      q = crcPoly p ∧ c = s.dev.greg e rd % 2 ^ q.1 ∧ (s.dev.engine e).held = [] ∧ p.val < 5 ∧ 0 < b ∧ 0x10000000 ≤ a % 2 ^ 32 ∧ a % 2 ^ 32 + b ≤ 0x10008000) ∧
    (∃ (e : Fin 49) (p : Fin 8) (rd rs rt : Fin 32) (a b c : Nat) (q : Nat × Nat × Bool) (s : State), Issues s e ∧ a = s.dev.greg e rs ∧ b = s.dev.greg e rt ∧
      q = crcPoly p ∧ c = s.dev.greg e rd % 2 ^ q.1 ∧ (s.dev.engine e).held = [] ∧ e.val < 48 ∧ p.val < 5 ∧ 65536 < b) ∧
    (∃ (e : Fin 49) (rd rs rt : Fin 32) (a b c pos len : Nat) (s : State), Issues s e ∧ a = s.dev.greg e rs ∧ b = s.dev.greg e rt ∧ c = s.dev.greg e rd ∧ pos
      = b % 64 ∧ len = b / 256 % 64 ∧ len ≠ 0 ∧ pos < 40) ∧
    (∃ (e : Fin 49) (rd rs rt : Fin 32) (a b c pos len : Nat) (s : State), Issues s e ∧ a = s.dev.greg e rs ∧ b = s.dev.greg e rt ∧ c = s.dev.greg e rd ∧ pos
      = b % 64 ∧ len = b / 256 % 64 ∧ (len = 0 ∨ 40 ≤ pos)) ∧
    (∃ (e : Fin 49) (rd rs : Fin 32) (a : Nat) (s : State), Issues s e ∧ a = s.dev.greg e rs) ∧
    (∃ (e : Fin 49) (rd rs rt : Fin 32) (s : State), Issues s e ∧ (s.dev.engine e).held = [] ∧ s.dev.greg e rt = 0) ∧
    (∃ (e : Fin 49) (rd rs rt : Fin 32) (a off n : Nat) (bs : List Byte) (s : State), Issues s e ∧ (s.dev.engine e).held = [] ∧ a = (s.dev.engine
      e).stream.addr ∧ off = (s.dev.engine e).stream.off ∧ off < 8 ∧ n = min (s.dev.greg e rt) 40 ∧ 0 < n ∧ 0x10000000 ≤ a ∧ a + (off + n + 7) / 8 ≤
      0x10008000 ∧ bs = Mem.bytes s.mem (engBase e + a - 0xFFF0000) ((off + n + 7) / 8) ∧ s.dev.partner e = none) ∧
    (∃ (e : Fin 49) (rd rs rt : Fin 32) (a off n : Nat) (bs : List Byte) (s : State), Issues s e ∧ (s.dev.engine e).held = [] ∧ a = (s.dev.engine
      e).stream.addr ∧ off = (s.dev.engine e).stream.off ∧ off < 8 ∧ n = min (s.dev.greg e rt) 40 ∧ 0 < n ∧ 0x10000000 ≤ a ∧ a + (off + n + 7) / 8 ≤
      0x10008000 ∧ bs = Mem.bytes s.mem (engBase e + a - 0xFFF0000) ((off + n + 7) / 8) ∧ s.dev.partner e ≠ none ∧ a % 8 + (off + n + 7) / 8 ≤ 8) ∧
    (∃ (bs : List Byte) (off order n v : Nat), order < 2 ∧ off + n ≤ 8 * bs.length ∧ v < 2 ^ n) :=
  ⟨⟨(47 : Fin 49), (4 : Fin 8), (3 : Fin 32), (1 : Fin 32), (2 : Fin 32), 268435456, 9, ((((at0 [(R.ENG_STATUS_STATE 47, 2)]).on (fun d =>
     { d with eng := [(47, { g := [(1, 268435456), (2, 9), (3, 0)] })] })).dev.greg 47 3) % 2 ^ (crcPoly 4).1), (crcPoly 4), ((at0 [(R.ENG_STATUS_STATE 47,
     2)]).on (fun d => { d with eng := [(47, { g := [(1, 268435456), (2, 9), (3, 0)] })] })), by decide +kernel⟩,
   ⟨(47 : Fin 49), (4 : Fin 8), (3 : Fin 32), (1 : Fin 32), (2 : Fin 32), 268435456, 0, ((((at0 [(R.ENG_STATUS_STATE 47, 2)]).on (fun d =>
     { d with eng := [(47, { g := [(1, 268435456), (2, 0), (3, 0)] })] })).dev.greg 47 3) % 2 ^ (crcPoly 4).1), (crcPoly 4), ((at0 [(R.ENG_STATUS_STATE 47,
     2)]).on (fun d => { d with eng := [(47, { g := [(1, 268435456), (2, 0), (3, 0)] })] })), by decide +kernel⟩,
   ⟨47, 4, 3, 1, 2, 0x10000000, 0, 0, crcPoly 4, eng47 0x10000000 0, by decide +kernel⟩,
   ⟨47, 4, 3, 1, 2, 0x10000000, 9, 0, crcPoly 4, eng47 0x10000000 9, by decide +kernel⟩,
   ⟨47, 4, 3, 1, 2, 0x10000000, 65537, 0, crcPoly 4, eng47 0x10000000 65537, by decide +kernel⟩,
   ⟨(47 : Fin 49), (3 : Fin 32), (1 : Fin 32), (2 : Fin 32), 7, 295, 0, 39, 1, ((at0 [(R.ENG_STATUS_STATE 47, 2)]).on (fun d =>
     { d with eng := [(47, { g := [(1, 7), (2, 295), (3, 0)] })] })), by decide +kernel⟩,
   ⟨(47 : Fin 49), (3 : Fin 32), (1 : Fin 32), (2 : Fin 32), 7, 40, 0, 40, 0, ((at0 [(R.ENG_STATUS_STATE 47, 2)]).on (fun d =>
     { d with eng := [(47, { g := [(1, 7), (2, 40), (3, 0)] })] })), by decide +kernel⟩,
   ⟨(47 : Fin 49), (3 : Fin 32), (1 : Fin 32), 255, ((at0 [(R.ENG_STATUS_STATE 47, 2)]).on (fun d =>
     { d with eng := [(47, { g := [(1, 255), (2, 0), (3, 0)] })] })), by decide +kernel⟩,
   ⟨47, 3, 1, 2, eng47 0 0, by decide +kernel⟩,
   ⟨47, 3, 1, 2, 0x10000000, 7, 40, Mem.bytes [] 0 6, ((eng47 0 40).on (fun d => d.setEngine 47
     { d.engine 47 with stream := { addr := 0x10000000, off := 7 } })), by decide +kernel⟩,
   ⟨46, 3, 2, 1, 0x10000000, 7, 8, Mem.bytes [] 0 2, ((pair46 8 []).on (fun d => d.setEngine 46
     { d.engine 46 with stream := { addr := 0x10000000, off := 7 } })), by decide +kernel⟩,
   ⟨([] : List Byte), 0, 0, 0, 0, by decide +kernel⟩⟩

theorem witness_ZhofaValuesTimeAndWaits :
    (∃ (v : Nat), v < 2 ^ 40) ∧
    (∃ (i : Int), -549755813888 ≤ i ∧ i ≤ 549755813887) ∧
    (∃ (e : Fin 49) (rd : Fin 32) (n : Fin 8) (s : State), Issues s e) ∧
    (∃ (e : Fin 49) (rd : Fin 32) (s : State), Issues s e) ∧
    (∃ (e : Fin 49) (rd : Fin 32) (s : State), Issues s e) ∧
    (∃ (e : Fin 49) (rs : Fin 32) (n : Fin 8) (s : State), Issues s e ∧ 0 ≤ S40 (wrap40 ((s.dev.tbNs n : Int) - s.dev.greg e rs))) ∧
    (∃ (e : Fin 49) (rs : Fin 32) (n : Fin 8) (s : State), Issues s e ∧ S40 (wrap40 ((s.dev.tbNs n : Int) - s.dev.greg e rs)) < 0) ∧
    (∃ (e : Fin 49) (n u : Nat) (s : State), (s.dev.engine e).wait = some (.time n u) ∧ (s.dev.engine e).haltReq = false) ∧
    (∃ (e : Fin 49) (s : State), ((∀ n u, (s.dev.engine e).wait ≠ some (.time n u)))) :=
  ⟨⟨0x8000000000, by decide +kernel⟩,
   ⟨(0 : Int), by decide +kernel⟩,
   ⟨(47 : Fin 49), (3 : Fin 32), (7 : Fin 8), (at0 [(R.ENG_STATUS_STATE 47, 2)]), by decide +kernel⟩,
   ⟨(47 : Fin 49), (3 : Fin 32), (at0 [(R.ENG_STATUS_STATE 47, 2)]), by decide +kernel⟩,
   ⟨(47 : Fin 49), (3 : Fin 32), (at0 [(R.ENG_STATUS_STATE 47, 2)]), by decide +kernel⟩,
   ⟨(47 : Fin 49), (1 : Fin 32), (7 : Fin 8), (at0 [(R.ENG_STATUS_STATE 47, 2)]), by decide +kernel⟩,
   ⟨(47 : Fin 49), (1 : Fin 32), (7 : Fin 8), ((at0 [(R.ENG_STATUS_STATE 47, 2)]).on (fun d => { d with eng := [(47, { g := [(1, 1), (2, 0), (3, 0)] })] })),
     by decide +kernel⟩,
   ⟨(47 : Fin 49), 7, 1, ((at0 [(R.ENG_STATUS_STATE 47, 2)]).on (fun d =>
     { d with eng := [(47, { g := [(1, 0), (2, 0), (3, 0)], wait := some (.time 7 1) })] })), by decide +kernel⟩,
   ⟨47, at0 [], fun n u h => nomatch (show ((at0 []).dev.engine 47).wait = none by decide +kernel).symm.trans h⟩⟩

theorem witness_ZhofaMover :
    (∃ (e : Fin 49) (rs rt : Fin 32) (s : State), Issues s e ∧ e.val < 48 ∧ (s.dev.engine e).sg.busy = false) ∧
    (∃ (e : Fin 49) (rs rt rd : Fin 32) (s : State), Issues s e ∧ e.val < 48 ∧ (s.dev.engine e).sg.busy = true) ∧
    (∃ (e : Fin 49) (rd : Fin 32) (v : Nat) (s : State), Issues s e ∧ e.val < 48 ∧ v = ((if (s.dev.engine e).sg.busy then 2 ^ 31 else 0) + 2 ^ 28 *
      ((s.dev.engine e).sg.err % 8) + 2 ^ 16 * ((s.dev.engine e).sg.done % 512) + (s.dev.engine e).sg.at' % 256) ∧ (s.dev.engine e).sg.busy = false) ∧
    (∃ (e : Fin 48) (x : SgDesc) (s1 s : State), s.moverNext e 0 = some (x, s1) ∧ 0x10000000 ≤ x.src ∧ x.src + x.len ≤ 0x10008000 ∧ 0x10000000 ≤ x.dst ∧ x.dst
      + x.len ≤ 0x10008000 ∧ ((x.src + x.len ≤ x.dst ∨ x.dst + x.len ≤ x.src))) ∧
    (∃ (e : Fin 48) (k : Nat) (x : SgDesc) (s1 s : State), s.moverNext e k = some (x, s1) ∧ (s.dev.engine e).held = []) ∧
    (∃ (e : Fin 48) (x : SgDesc) (s1 s : State), s.moverNext e 1 = some (x, s1)) ∧
    (∃ (e : Fin 48) (x : SgDesc) (s1 s : State), s.moverNext e 2 = some (x, s1)) ∧
    (∃ (e : Fin 48) (x : SgDesc) (s1 s : State), s.moverNext e 3 = some (x, s1)) ∧
    (∃ (e : Fin 48) (s : State), s.moverNext e 0 = none) ∧
    (∃ (e : Fin 48) (s : State), s.moverNext e 1 = none) ∧
    (∃ (e : Fin 48) (s : State), s.moverNext e 2 = none) ∧
    (∃ (e : Fin 48) (s : State), s.moverNext e 3 = none) ∧
    (∃ (e : Fin 48) (s : State) (k : Nat), (s.dev.engine e).sg.busy = false ∧ (s.dev.engine e).held = []) ∧
    (∃ (e : Fin 48) (s : State), (s.dev.engine e).sg.busy = true ∧ (s.dev.engine e).held = [] ∧ s.dev.moverSending e = false ∧ (s.dev.engine e).wait = none ∧
      (s.dev.engine e).sg.count ≤ (s.dev.engine e).sg.done) ∧
    (∃ (e : Fin 48) (s : State) (c : Nat) (a : Option Nat), (s.dev.engine e).sg.busy = true ∧ (s.dev.engine e).held = [] ∧ s.dev.moverSending e = false ∧
      (s.dev.engine e).wait = none ∧ (s.dev.engine e).sg.done < (s.dev.engine e).sg.count ∧ s.moverStop e = some (c, a)) ∧
    (∃ (e : Fin 49) (rs rd : Fin 32) (i : Fin 8) (s : State) (a : Nat), Issues s e ∧ e.val = 48 ∧ a = s.dev.greg e rs % 2 ^ 32 ∧ a % 8 = 0 ∧ 0x10000000 ≤ a ∧
      a + 64 ≤ 0x10008000) ∧
    (∃ (e : Fin 49) (rs rd : Fin 32) (i : Fin 8) (s : State) (x : Instr), Issues s e ∧ e.val < 48 ∧ x ∈ [Instr.shainit e, .shablk e rs, .shard e rd i]) ∧
    (∃ (e : Fin 49) (rs rt rd : Fin 32) (s : State) (x : Instr), Issues s e ∧ e.val = 48 ∧ x ∈ [Instr.sgrun e rs rt, .sgwait e rd, .sgstat e rd]) :=
  ⟨⟨(47 : Fin 49), (1 : Fin 32), (2 : Fin 32), (at0 [(R.ENG_STATUS_STATE 47, 2)]), by decide +kernel⟩,
   ⟨(47 : Fin 49), (1 : Fin 32), (2 : Fin 32), (3 : Fin 32), ((at0 [(R.ENG_STATUS_STATE 47, 2)]).on (fun d =>
     { d with eng := [(47, { g := [(1, 268435456), (2, 1), (3, 0)], sg := { busy := true, addr := 0x10000000, count := 1 } })] })), by decide +kernel⟩,
   ⟨(47 : Fin 49), (3 : Fin 32), 0, (at0 [(R.ENG_STATUS_STATE 47, 2)]), by decide +kernel⟩,
   ⟨(47 : Fin 48), ({ src := 268435712, dst := 268435968, len := 8, kind := 0, types := 0, age := 0, port := 0, count := 0, last := 0 } : SgDesc),
     (((({ (at0 [(R.ENG_STATUS_STATE 47, 2)]) with mem := [(39780353, 1), (39780355, 16), (39780357, 2), (39780359, 16), (39780360, 8)] }).on (fun d =>
     { d with eng := [(47, { g := [(1, 0), (2, 0), (3, 0)], sg := { busy := true, addr := 0x10000000, count := 1 } })] })).copRead 47 0x10000000 16 3).2),
     (({ (at0 [(R.ENG_STATUS_STATE 47, 2)]) with mem := [(39780353, 1), (39780355, 16), (39780357, 2), (39780359, 16), (39780360, 8)] }).on (fun d =>
     { d with eng := [(47, { g := [(1, 0), (2, 0), (3, 0)], sg := { busy := true, addr := 0x10000000, count := 1 } })] })), by rfl, by decide +kernel,
     by decide +kernel, by decide +kernel, by decide +kernel, by decide +kernel⟩,
   ⟨(47 : Fin 48), 3, ({ src := 0, dst := 0, len := 1, kind := 3, types := 0, age := 0, port := 0, count := 0, last := 0 } : SgDesc),
     (((({ (at0 [(R.ENG_STATUS_STATE 47, 2)]) with mem := [(39780360, 1), (39780362, 3)] }).on (fun d =>
     { d with eng := [(47, { g := [(1, 0), (2, 0), (3, 0)], sg := { busy := true, addr := 0x10000000, count := 1 } })] })).copRead 47 0x10000000 16 3).2),
     (({ (at0 [(R.ENG_STATUS_STATE 47, 2)]) with mem := [(39780360, 1), (39780362, 3)] }).on (fun d =>
     { d with eng := [(47, { g := [(1, 0), (2, 0), (3, 0)], sg := { busy := true, addr := 0x10000000, count := 1 } })] })), by rfl, by decide +kernel⟩,
   ⟨(47 : Fin 48), ({ src := 268435712, dst := 268435968, len := 1, kind := 1, types := 16, age := 0, port := 0, count := 0, last := 0 } : SgDesc),
     (((({ (at0 [(R.ENG_STATUS_STATE 47, 2)]) with mem := [(39780353, 1), (39780355, 16), (39780357, 2), (39780359, 16), (39780360, 1), (39780362, 1), (39780363, 16)] }).on
     (fun d => { d with eng := [(47, { g := [(1, 0), (2, 0), (3, 0)], sg := { busy := true, addr := 0x10000000, count := 1 } })] })).copRead 47 0x10000000 16
     3).2),
     (({ (at0 [(R.ENG_STATUS_STATE 47, 2)]) with mem := [(39780353, 1), (39780355, 16), (39780357, 2), (39780359, 16), (39780360, 1), (39780362, 1), (39780363, 16)] }).on
     (fun d => { d with eng := [(47, { g := [(1, 0), (2, 0), (3, 0)], sg := { busy := true, addr := 0x10000000, count := 1 } })] })), by rfl⟩,
   ⟨(47 : Fin 48), ({ src := 268435712, dst := 0, len := 8, kind := 2, types := 0, age := 0, port := 38, count := 0, last := 0 } : SgDesc),
     (((({ (at0 [(R.ENG_STATUS_STATE 47, 2)]) with mem := [(39780353, 1), (39780355, 16), (39780360, 8), (39780362, 2), (39780365, 38)] }).on (fun d =>
     { d with eng := [(47, { g := [(1, 0), (2, 0), (3, 0)], sg := { busy := true, addr := 0x10000000, count := 1 } })] })).copRead 47 0x10000000 16 3).2),
     (({ (at0 [(R.ENG_STATUS_STATE 47, 2)]) with mem := [(39780353, 1), (39780355, 16), (39780360, 8), (39780362, 2), (39780365, 38)] }).on (fun d =>
     { d with eng := [(47, { g := [(1, 0), (2, 0), (3, 0)], sg := { busy := true, addr := 0x10000000, count := 1 } })] })), by rfl⟩,
   ⟨(47 : Fin 48), ({ src := 0, dst := 0, len := 1, kind := 3, types := 0, age := 0, port := 0, count := 0, last := 0 } : SgDesc),
     (((({ (at0 [(R.ENG_STATUS_STATE 47, 2)]) with mem := [(39780360, 1), (39780362, 3)] }).on (fun d =>
     { d with eng := [(47, { g := [(1, 0), (2, 0), (3, 0)], sg := { busy := true, addr := 0x10000000, count := 1 } })] })).copRead 47 0x10000000 16 3).2),
     (({ (at0 [(R.ENG_STATUS_STATE 47, 2)]) with mem := [(39780360, 1), (39780362, 3)] }).on (fun d =>
     { d with eng := [(47, { g := [(1, 0), (2, 0), (3, 0)], sg := { busy := true, addr := 0x10000000, count := 1 } })] })), by rfl⟩,
   ⟨(47 : Fin 48), (at0 [(R.ENG_STATUS_STATE 47, 2)]), by decide +kernel⟩,
   ⟨(47 : Fin 48), (at0 [(R.ENG_STATUS_STATE 47, 2)]), by decide +kernel⟩,
   ⟨(47 : Fin 48), (at0 [(R.ENG_STATUS_STATE 47, 2)]), by decide +kernel⟩,
   ⟨(47 : Fin 48), (at0 [(R.ENG_STATUS_STATE 47, 2)]), by decide +kernel⟩,
   ⟨47, at0 [], 0, by decide +kernel⟩,
   ⟨47, ((at0 [(R.ENG_STATUS_STATE 47, 2)]).on (fun d => { d with eng := [(47, { sg := { busy := true, addr := 0x10000000, count := 0 } })] })),
     by decide +kernel⟩,
   ⟨47, ((at0 [(R.ENG_STATUS_STATE 47, 2)]).on (fun d => { d with eng := [(47, { sg := { busy := true, addr := 1, count := 1 } })] })), 1, none,
     by decide +kernel⟩,
   ⟨(48 : Fin 49), (1 : Fin 32), (3 : Fin 32), (7 : Fin 8), ((at0 [(R.BRIDLE_STATUS_STATE, 1)]).on (fun d =>
     { d with eng := [(48, { g := [(1, 0x10007FC0)] })] })), 0x10007FC0, by decide +kernel⟩,
   ⟨47, 1, 3, 7, eng47 0 0, .shainit 47, by decide +kernel⟩,
   ⟨48, 1, 2, 3, at0 [(R.BRIDLE_STATUS_STATE, 1)], .sgstat 48 3, by decide +kernel⟩⟩

end Sys2Proof.Tests
end

section
/-! PROOFS. Every command answers a next state, keeps the queue and keeps the canonical form of the memories; so does every step. -/

namespace Sys2Proof.Machine
open Sys2Proof Sys2Proof.Safety

/-- The dispatch, row by row: a row that changes the device alone, one behind the write permission of a register, a command packet, or an operation on
the whole state; each answers a next state and keeps the queue and the canonical form. -/
theorem exec_kept (c : Instr) (s : State) : ∃ t, exec c s = .next t ∧ Kept s t := by
  cases c with
  | outputLatch | incrApply | setLoad | captureEdge | triggerAssert | triggerDeassert | rtcLoadDone | vbatLoss | launchTimeReached | engCommit | scrub
  | bankRetentionEnter | bankRetentionExit | frameReceive | frameStartEgress | underrun | frameTransmit | linkUp | linkLoss | diagDone | mdioDone
  | gateListSwitch | gateEntryAdvance | lpiEntry | lpiExit | redEntryForget | streamReset | rideLen | dlyReqSend | dlyReq | dlyT2 | dlyT3 | slotEcho
  | tableHash | tableHashSend | slotLaunch | startupSend | relayClose | slotEchoSend | listenTimeout | startupArbitration | canModeChange
  | busOffRecovery | canError | serTxStart | serTxEnd | txUnderrun | serCharReceive | serFrameEnd | engDone | engWait | waitWake | waitLimitExpiry
  | engTxTail | bridleFault | bridleRestartDone | add | sub | adds | subs | and | or | xor | nor | neg | abs | min | max | minu | maxu | clt | cltu
  | ceq | cne | cle | cleu | sext8 | sext16 | sext32 | zext32 | sll | srl | sra | rol | ror | slli | srli | srai | roli | rori | mul | mulh | mulhu
  | muls | mac | macs | mac16 | macs16 | div | divu | rem | remu | jr | jalr | addi | addis | andi | ori | xori | clti | cltiu | ceqi | movh | topi
  | bez | bnz | jal | crcb | crch | crcw | crcn | extu | exts | ins | clz | ctz | popc | bswap16 | bswap32 | brev8 | sopen | spos | tsnow | tsedge
  | tshi | tsfrac | tswait | tswaitDone | sgrun | sgwait | sgstat | shainit | shard | idle | send | take | drive | enable | time | wait | copy | close
  | note | stirrupWaitDone | atAction | stallResume | resyncDone | referenceLoss | pcieReset | mbTimeout | keepAliveExpiry | dozeWake | sleepWatchExpiry
  | undefinedOpcode | unassignedStirrupOp | autoNegotiationFailed | verifyFail | keyGenerationDone =>
    exact ⟨_, rfl, .on _ _⟩
  | runStart | runStop | strideClrStats | latchPhaseWrite | lungeUpdate | lungeEnable | lungeDisable | loadIncr | step | set | tbEnable | tbDisable
  | snap | trgEnable | rtcLoad | syncFromTb | imgCommit | bankHandover | bankPower | orchClrCnt | swmHtxTail | swmRingStop | swClrCnt | portEnable
  | anRestart | portClrCnt | diagStart | mdioGo | gateEnable | gateArm | gclDataWrite | hnEnable | canModeWrite | canRecover | canClrCnt | txbReq
  | txbAbort | serEnable | flushTx | serClrCnt | serTxdata | halt | restart | engClrStats | machineStart | machineStop | stirTxdata | stirProg | pnWr
  | pnFlush | pnCfgWrite | evCfgWrite | evClrCnt | domainRequest =>
    exact ⟨_, rfl, State.gate_kept _ _ _ _ (fun _ => .on _ _)⟩
  | registerWrite => exact ⟨_, rfl, State.gate_kept _ _ _ _ (fun _ => State.regWrite_kept ..)⟩
  | mbPost | mbAck | mbWithdraw =>
    exact ⟨_, rfl, State.gate_kept _ _ _ _ (fun _ => State.mbWrite_kept ..)⟩
  | slpKickWake | kick =>
    exact ⟨_, rfl, State.gate_kept _ _ _ _ (fun _ => State.slpKickWrite_kept ..)⟩
  | getInfo | getStatus | readReg | writeReg | readMem | writeMem | reset | getEvents | clearEvents | claimOwner | releaseOwner | handoverOwner
  | keepAlive | setOwnerTimeout | getOwner | getBanks | setBankOwner | setBankPower | getFaultLogs | setScrub | getEngine | haltEngine | restartEngine
  | getTeam | getBridle | getSwitch | getSwitchPort | getSlices | clearSwitchCounters | setMirror | getTime | adjustTime | getStride | strideRun
  | setLunge | setLatchPhase | getLunge | getPort | getPortCounters | setPortEnable | cableTest | getInstances | holdInstance | updateBegin | updateData
  | updateVerify | updateActivate | updateAbort | updateStatus | getCert | attest | setLifecycle | setCustomerRoot | getPower | setDomain | sleepRequest
  | setSleepConsent | getHarness | getLane | selectUplink | ping | setForwardTimeout =>
    exact ⟨_, rfl, State.takeCmd_kept ..⟩
  | strideEdge => exact ⟨_, rfl, (State.lsStride_kept s).trans (State.edge_kept ..)⟩
  | strideFence => exact ⟨_, rfl, (State.lsStride_kept s).trans (State.fence_kept _)⟩
  | orchardAccess => exact ⟨_, rfl, (Kept.on s _).trans (State.access12_kept ..)⟩
  | finisher => exact ⟨_, rfl, State.finisherRow_kept ..⟩
  | lowWordRead | txtsPop | capMetaRead | serRxstatPop | stirRxdata | pnRd =>
    exact ⟨_, rfl, State.hostRead_kept ..⟩
  | stepApply => exact ⟨_, rfl, State.stepApply_kept ..⟩
  | mappingRuleRun => exact ⟨_, rfl, State.runRule_kept ..⟩
  | mappingCellDelivery => exact ⟨_, rfl, State.deliverCells_kept ..⟩
  | engineMemoryWrite => exact ⟨_, rfl, State.engineMemory_kept ..⟩
  | bankPowerDone => exact ⟨_, rfl, State.bankPowerDone_kept ..⟩
  | f38FrameDelivery => exact ⟨_, rfl, State.f38Deliver_kept ..⟩
  | hostTxDone => exact ⟨_, rfl, State.hostTxDone_kept ..⟩
  | rideFrame => exact ⟨_, rfl, State.rideFrame_kept ..⟩
  | harnessFrameReceive => exact ⟨_, rfl, State.hnReceive_kept ..⟩
  | cmdFragment => exact ⟨_, rfl, State.cmdFragment_kept ..⟩
  | forwardedReply => exact ⟨_, rfl, State.forwardedReply_kept ..⟩
  | forwardTimeout => exact ⟨_, rfl, State.forwardTimeout_kept ..⟩
  | canTxChoice => exact ⟨_, rfl, State.canTxChoice_kept ..⟩
  | canTxEnd => exact ⟨_, rfl, State.canTxEnd_kept ..⟩
  | canFrameReceive => exact ⟨_, rfl, State.canReceive_kept ..⟩
  | canRxStore => exact ⟨_, rfl, State.canStore_kept ..⟩
  | txEntryFinish => exact ⟨_, rfl, State.txFinish_kept ..⟩
  | rxEntryWrite => exact ⟨_, rfl, State.rxEntryWrite_kept ..⟩
  | sync => exact ⟨_, rfl, State.sync_kept ..⟩
  | lb | lbu | lh | lhu | lw | lwu | ld =>
    exact ⟨_, rfl, State.load_kept ..⟩
  | sb | sh | sw | sd =>
    exact ⟨_, rfl, State.store_kept ..⟩
  | crcm => exact ⟨_, rfl, State.crcm_kept ..⟩
  | sget | sgets =>
    exact ⟨_, rfl, State.sget_kept ..⟩
  | sput => exact ⟨_, rfl, State.sput_kept ..⟩
  | moverCopy => exact ⟨_, rfl, State.moverCopy_kept ..⟩
  | moverConvert => exact ⟨_, rfl, State.moverConvert_kept ..⟩
  | moverSend => exact ⟨_, rfl, State.moverSend_kept ..⟩
  | moverCommit => exact ⟨_, rfl, State.moverCommit_kept ..⟩
  | moverListStop => exact ⟨_, rfl, State.moverListStop_kept ..⟩
  | shablk => exact ⟨_, rfl, State.shaBlk_kept ..⟩
  | tempSample => exact ⟨_, rfl, State.tempSample_kept ..⟩
  | referenceReturn => exact ⟨_, rfl, State.refReturn_kept ..⟩
  | powerOnReset => exact ⟨_, rfl, State.powerOn_kept ..⟩
  | warmReset => exact ⟨_, rfl, State.warmPin_kept ..⟩
  | testEnHigh => exact ⟨_, rfl, State.testEnHigh_kept ..⟩
  | startup => exact ⟨_, rfl, State.startup_kept ..⟩
  | qspiRead => exact ⟨_, rfl, State.qspiReadRow_kept ..⟩
  | qspiWrite => exact ⟨_, rfl, State.qspiWriteRow_kept ..⟩
  | qspiStatus => exact ⟨_, rfl, State.qspiStatus_kept ..⟩
  | qspiReset => exact ⟨_, rfl, State.qspiReset_kept ..⟩
  | bridleRound => exact ⟨_, rfl, State.bridleRound_kept ..⟩
  | activationSwap => exact ⟨_, rfl, State.activationSwap_kept ..⟩
  | domainTransitionDone => exact ⟨_, rfl, State.domainDone_kept ..⟩
  | token => exact ⟨_, rfl, State.sleepToken_kept ..⟩
  | consent => exact ⟨_, rfl, State.sleepConsent_kept ..⟩
  | refuse => exact ⟨_, rfl, State.sleepRefuse_kept ..⟩
  | visitTimeout => exact ⟨_, rfl, State.visitTimeout_kept ..⟩
  | commit => exact ⟨_, rfl, State.sleepCommit_kept ..⟩
  | sleepEntry => exact ⟨_, rfl, State.sleepEntry_kept ..⟩
  | wakeRequest => exact ⟨_, rfl, State.wakeSource_kept ..⟩
  | wake => exact ⟨_, rfl, State.sleepWake_kept ..⟩
  | wakeTimerExpiry => exact ⟨_, rfl, State.wakeTimer_kept ..⟩
  | warmCmd => exact ⟨_, rfl, State.warmCmd_kept ..⟩

/-- A step with commands waiting runs the first of them on the state with the rest of the queue. -/
theorem step_of_pending (s : State) (c : Instr) (rest : List Instr) (h : s.pending = c :: rest) : step s = exec c { s with pending := rest } := by
  simp only [step, h]

/-- A step with no command waiting is a tick. -/
theorem step_of_empty (s : State) (h : s.pending = []) : step s = .next s.tick := by
  simp only [step, h]

/-- Every step answers a next state and keeps the canonical form of the memories. -/
theorem step_memOk (s : State) : ∃ t, step s = .next t ∧ (MemOk s → MemOk t) := by
  cases h : s.pending with
  | nil => exact ⟨s.tick, step_of_empty s h, (State.tick_kept s).wf⟩
  | cons c rest =>
    obtain ⟨t, ht, hk⟩ := exec_kept c { s with pending := rest }
    exact ⟨t, (step_of_pending s c rest h).trans ht, hk.wf⟩

/-- Settles O3: the step that runs answers one state, and that state's memories are canonical. -/
theorem memoryInvariant : Obligations.MemoryInvariant := by
  intro s t hs ht
  obtain ⟨u, hu, hk⟩ := step_memOk s
  have : t = u := Host.Outcome.next.inj (ht.symm.trans hu)
  exact this ▸ hk hs

/-- Settles O2, by the dispatch and the cases of a step. -/
theorem nothingStops : Obligations.NothingStops :=
  ⟨fun c s => (exec_kept c s).imp fun _ ht => ⟨ht.1, ht.2.pending⟩, fun s => (step_memOk s).imp fun _ ht => ht.1⟩

end Sys2Proof.Machine
end

section
/-! PROOFS. The state after power-on reset, and the writes that no permission lets through. -/

namespace Sys2Proof.Machine
open Sys2Proof Sys2Proof.Safety

/-- The register file after reset lists no field, so each reads its reset value. -/
theorem Dev.get_reset (f : Fld) : State.reset.dev.get f = f.reset % 2 ^ f.width := rfl

/-- Settles O4: every field by `Dev.get_reset`, the rest by the initial values of the units. -/
theorem resetState : Obligations.ResetState :=
  ⟨Dev.get_reset, rfl, rfl, rfl, rfl, rfl, rfl, rfl, rfl, rfl, rfl, fun _ _ => rfl, fun _ _ => rfl, fun _ _ => rfl⟩

/-- While CORE is on the Bridle writes every register but those of the switch mover, which only host software writes (R190). -/
theorem Dev.mayWrite_bridle (d : Dev) (off : Nat) (h : d.coreOn = true) : d.mayWrite .bridle off = !swMover off := by
  simp [Dev.mayWrite, h]

/-- Refutes O5: its last clause lets the Bridle write everywhere, and the registers of the switch mover at 0xC0800 take no write of it (R190), already
in the state after reset. (The clauses on PCIE fail too while the PCIe endpoint is held or without its reference, R702 and R708.) -/
theorem not_deniedWrites : ¬ Obligations.DeniedWrites := by
  rintro ⟨_, _, _, _, _, everywhere⟩
  have hmay : State.reset.dev.mayWrite .bridle 0xC0800 = true := (everywhere State.reset.dev 0xC0800 rfl).1
  rw [Dev.mayWrite_bridle _ _ rfl] at hmay
  exact absurd hmay (by decide)

end Sys2Proof.Machine
end

section
/-! PROOFS. Writes to Orchard (R128, R129): a closed region keeps its bytes and its state. -/

namespace Sys2Proof.Machine
open Sys2Proof Sys2Proof.Safety

/-- An event leaves the process images alone. -/
theorem EventFrame.img {d d' : Dev} (h : EventFrame d d') : d'.img = d.img := by rw [h.rest]

/-- An event leaves Orchard beside its registers alone. -/
theorem EventFrame.orch {d d' : Dev} (h : EventFrame d d') : d'.orch = d.orch := by rw [h.rest]

/-- The fault log is registers alone. -/
theorem Dev.faultLog_rest (d : Dev) (n cause : Nat) (r : Req) (write : Bool) (addr : Nat) :
    d.faultLog n cause r write addr = { d with regs := (d.faultLog n cause r write addr).regs } := by
  unfold Dev.faultLog
  dsimp only
  split <;> rfl

/-- The cause of a bank is its flag and an event. -/
theorem EventFrame.bankCause (d : Dev) (n i : Nat) (f : Fld) (hn : n < 64) : EventFrame (d.set f 1) (d.bankCause n f i) :=
  .cause _ _ _ _ (by omega)

theorem Dev.bankFault_img (d : Dev) (n cause : Nat) (r : Req) (write : Bool) (addr : Nat) (hn : n < 64) :
    (d.bankFault n cause r write addr).img = d.img := by
  rw [Dev.bankFault, (EventFrame.bankCause _ _ _ _ hn).img, Dev.set_img, Dev.faultLog_rest]

/-- No requester of an access row but the edge sampler is exempt from the rules of regions (R128). -/
theorem Dev.reqOf_exempt (d : Dev) (a : OrchAccess) (h : a.agent ≠ .sampler) : (d.reqOf a).exempt = false := by
  unfold Dev.reqOf Machine.reqOf
  cases ha : a.agent with
  | sampler => exact absurd ha h
  | engine | team | host | hostB | mover | bridle | can => rfl

theorem Dev.regionAllows_of_closed (d : Dev) (g off len : Nat) (q : Req) (hq : q.exempt = false) (hg : (d.region g).opened = false) :
    d.regionAllows g off len q = false := by
  simp [Dev.regionAllows, hq, hg]

/-- A write that meets a closed region first is refused by the bank or by the region, and changes no image. -/
theorem Dev.writeCheck_of_closed (d : Dev) (q : Req) (addr len g : Nat) (haddr : addr < 0x2000000) (hq : q.exempt = false)
    (hat : d.regionAt (addr / 0x80000) (addr % 0x80000) len = some g) (hg : (d.region g).opened = false) :
    (d.writeCheck q addr len).2 = false ∧ (d.writeCheck q addr len).1.img = d.img := by
  unfold Dev.writeCheck
  dsimp only
  split
  · exact ⟨rfl, Dev.bankFault_img _ _ _ _ _ _ (by omega)⟩
  · have hrefuses : (d.regionAt (addr / 0x80000) (addr % 0x80000) len).filter (fun g => !d.regionAllows g (addr % 0x80000) len q) = some g := by
      simp [hat, Option.filter, Dev.regionAllows_of_closed d g _ len q hq hg]
    rw [hrefuses]
    exact ⟨rfl, rfl⟩

/-- A write into a closed region by any agent but the edge sampler leaves memory and images as they were. -/
theorem exec_orchardAccess_closed (a : OrchAccess) (bs : List Byte) (s : State) (r : Nat) (hw : a.write = some bs) (ha : a.agent ≠ .sampler)
    (hat : s.dev.regionAt (a.addr % 0x2000000 / 0x80000) (a.addr % 0x80000) bs.length = some r) (hr : (s.dev.region r).opened = false) :
    ∃ t, exec (.orchardAccess a none none) s = .next t ∧ t.mem = s.mem ∧ t.dev.img = s.dev.img := by
  rw [← Nat.mod_mod_of_dvd a.addr (by decide : 0x80000 ∣ 0x2000000)] at hat
  obtain ⟨hno, himg⟩ :=
    Dev.writeCheck_of_closed s.dev (s.dev.reqOf a) (a.addr % 0x2000000) bs.length r (Nat.mod_lt _ (by decide)) (s.dev.reqOf_exempt a ha) hat hr
  have hexec : exec (.orchardAccess a none none) s = .next (s.access a) := rfl
  refine ⟨s.access a, hexec, ?_, ?_⟩ <;> simp [State.access, hw, State.orchWrite, hno, himg]

end Sys2Proof.Machine
end

section
/-! PROOFS. BAR2 writes to the memories of an engine (R17, R392): the pieces of a write, what each branch of a piece does, and what memory holds after. -/

namespace Sys2Proof.Machine
open Sys2Proof Sys2Proof.Safety

/-! ### Bytes stored one part after another -/

theorem Mem.setBytes_append (m : List Host.Cell) (a : Nat) (l r : List Byte) :
    Mem.setBytes m a (l ++ r) = Mem.setBytes (Mem.setBytes m a l) (a + l.length) r := by
  induction l generalizing m a with
  | nil => rfl
  | cons b l ih =>
    rw [List.cons_append, Mem.setBytes, ih, Mem.setBytes, List.length_cons, show a + (l.length + 1) = a + 1 + l.length by omega]

theorem Mem.setBytes_take_drop (m : List Host.Cell) (a n : Nat) (l : List Byte) :
    Mem.setBytes (Mem.setBytes m a (l.take n)) (a + n) (l.drop n) = Mem.setBytes m a l := by
  by_cases h : l.length ≤ n
  · rw [List.take_of_length_le h, List.drop_eq_nil_of_le h, Mem.setBytes]
  · have hlen : (l.take n).length = n := by rw [List.length_take, Nat.min_eq_left (by omega)]
    calc Mem.setBytes (Mem.setBytes m a (l.take n)) (a + n) (l.drop n)
      _ = Mem.setBytes m a (l.take n ++ l.drop n) := by rw [Mem.setBytes_append, hlen]
      _ = Mem.setBytes m a l := by rw [List.take_append_drop]

/-- Of a canonical memory the bytes stored read back. -/
theorem Mem.byte_setBytes_getElem? (m : List Host.Cell) (a i : Nat) (l : List Byte) (hm : Memory.wf m = true) (hi : i < l.length) :
    some (Mem.byte (Mem.setBytes m a l) (a + i)) = l[i]? := by
  rw [Mem.byte_setBytes_same m a i l hm hi, List.getElem?_eq_getElem hi]

/-! ### One piece -/

theorem State.engMemWrite_dark (s : State) (w : Writer) (e o : Nat) (l : List Byte) (h : s.dev.engDark e = true) : s.engMemWrite w e o l = s := by
  simp [State.engMemWrite, h]

theorem State.engMemWrite_iramClosed (s : State) (w : Writer) (e o : Nat) (l : List Byte) (h : s.dev.engDark e = false) (ho : o < 0x10000)
    (hc : s.dev.iramClosed e o = true) : s.engMemWrite w e o l = s.on (fun d => d.engCause e (R.ENG_STATUS_IRAM_WREJ e) 7) := by
  simp [State.engMemWrite, h, ho, hc, show ¬ 0x18000 ≤ o by omega]

theorem State.engMemWrite_iram (s : State) (w : Writer) (e o : Nat) (l : List Byte) (h : s.dev.engDark e = false) (ho : o < 0x10000)
    (hc : s.dev.iramClosed e o = false) : s.engMemWrite w e o l = { s with mem := Mem.setBytes s.mem (engBase e + o) l } := by
  simp [State.engMemWrite, h, ho, hc, show ¬ 0x18000 ≤ o by omega]

theorem State.engMemWrite_scratch (s : State) (w : Writer) (e o : Nat) (l : List Byte) (h : s.dev.engDark e = false) (ho : 0x10000 ≤ o)
    (ho' : o < 0x18000) :
    s.engMemWrite w e o l = { s with mem := Mem.setBytes s.mem (engBase e + o) (s.scrMerge e (o - 0x10000) l) } := by
  simp [State.engMemWrite, h, show ¬ o < 0x10000 by omega, show ¬ 0x18000 ≤ o by omega]

/-- Instruction RAM takes a write while no activation is under way, if the write is to the bank that is not active or the engine is IDLE or HALTED. -/
theorem Dev.iramClosed_eq_false (d : Dev) (e o : Nat) (hswap : d.upd.swap = none)
    (h : o / 0x8000 ≠ d.get (R.ENG_STATUS_ACT_BANK e) ∨ d.engState e = 1 ∨ d.engState e = 6) : d.iramClosed e o = false := by
  unfold Dev.iramClosed
  split
  · next hb =>
    rcases h with h | h | h
    · exact absurd (eq_of_beq hb) h
    · simp [h]
    · simp [h]
  · simp [hswap]

/-- The active bank of instruction RAM is closed unless the engine is IDLE or HALTED. -/
theorem Dev.iramClosed_of_active (d : Dev) (e o : Nat) (hb : o / 0x8000 = d.get (R.ENG_STATUS_ACT_BANK e)) (h1 : d.engState e ≠ 1)
    (h6 : d.engState e ≠ 6) : d.iramClosed e o = true := by
  simp [Dev.iramClosed, hb, h1, h6]

/-- Where the engine stores nothing in the same cycle, a write to its scratchpad is as it was sent. -/
theorem State.scrMerge_of_free (s : State) (e o : Nat) (l : List Byte) (h : (s.dev.engine e).scrAt ≠ s.dev.now ∨ (s.dev.engine e).scr = []) :
    s.scrMerge e o l = l := by
  simp only [State.scrMerge, if_pos h]

@[simp] theorem State.scrMerge_length (s : State) (e o : Nat) (l : List Byte) : (s.scrMerge e o l).length = l.length := by
  unfold State.scrMerge
  dsimp only
  split
  · rfl
  · simp

/-- A byte of a word that the engine stores to in the same cycle is what memory holds; every other is as it was sent. -/
theorem State.scrMerge_getElem? (s : State) (e o i : Nat) (l : List Byte) (hi : i < l.length) (hat : (s.dev.engine e).scrAt = s.dev.now) :
    (s.scrMerge e o l)[i]? =
      if (o + i) / 4 ∈ (s.dev.engine e).scr then some (Mem.byte s.mem (engBase e + 0x10000 + o + i)) else l[i]? := by
  by_cases hscr : (s.dev.engine e).scr = []
  · simp [State.scrMerge_of_free s e o l (.inr hscr), hscr]
  · simp only [State.scrMerge, if_neg (not_or.mpr ⟨not_not_intro hat, hscr⟩), List.getElem?_map, List.getElem?_range hi, Option.map_some,
      List.contains_iff_mem]
    split
    · rfl
    · simp [hi]

/-! ### The pieces of a write -/

/-- A piece that lies in the window of an engine is a write to its memories. -/
theorem State.bar2Piece_engine (s : State) (w : Writer) (e o : Nat) (l : List Byte) (he : e < 48) (ho : o < 0x20000) :
    s.bar2Piece w (engBase e + o) l = s.engMemWrite w e o l := by
  have hwindow : engBase e + o = 0x2000000 + e * 0x20000 + o := rfl
  rw [State.bar2Piece, if_neg (by omega), if_pos (by omega), show (engBase e + o - 0x2000000) / 0x20000 = e by omega,
    show (engBase e + o) % 0x20000 = o by omega]

@[simp] theorem State.bar2Write_nil (s : State) (w : Writer) (off fuel : Nat) : s.bar2Write w off [] fuel = s := by
  cases fuel <;> simp [State.bar2Write]

/-- A write within 8 aligned bytes is one piece. -/
theorem State.bar2Write_piece (s : State) (w : Writer) (off fuel : Nat) (l : List Byte) (hl : l ≠ []) (hn : l.length ≤ 8 - off % 8) :
    s.bar2Write w off l (fuel + 1) = s.bar2Piece w off l := by
  simp only [State.bar2Write, if_neg hl, List.take_of_length_le hn, List.drop_eq_nil_of_le hn, State.bar2Write_nil]

/-- A write to memories that BAR2 does not reach changes nothing. -/
theorem State.bar2Write_dark (s : State) (w : Writer) (e o fuel : Nat) (l : List Byte) (he : e < 48) (hlen : o + l.length ≤ 0x20000)
    (h : s.dev.engDark e = true) : s.bar2Write w (engBase e + o) l fuel = s := by
  induction fuel generalizing o l with
  | zero => rfl
  | succ k ih =>
    simp only [State.bar2Write]
    split
    · rfl
    · next hl =>
      have hpos := List.length_pos_iff.mpr hl
      have hbase : engBase e % 8 = 0 := by unfold engBase; omega
      rw [State.bar2Piece_engine s w e o _ he (by omega), State.engMemWrite_dark s w e o _ h, Nat.add_assoc]
      by_cases hrest : l.length ≤ 8 - (engBase e + o) % 8
      · rw [List.drop_eq_nil_of_le hrest, State.bar2Write_nil]
      · exact ih _ _ (by rw [List.length_drop]; omega)

/-- A write is stored as it was sent when each part of it is. The fuel covers every piece. -/
theorem State.bar2Write_stores (s : State) (w : Writer) (e o fuel : Nat) (l : List Byte) (he : e < 48) (hlen : o + l.length ≤ 0x20000)
    (hfuel : o % 8 + l.length ≤ 8 * fuel)
    (hput : ∀ (m : List Host.Cell) (o' : Nat) (l' : List Byte), o ≤ o' → o' < o + l.length →
      ({ s with mem := m } : State).engMemWrite w e o' l' = { s with mem := Mem.setBytes m (engBase e + o') l' }) :
    s.bar2Write w (engBase e + o) l fuel = { s with mem := Mem.setBytes s.mem (engBase e + o) l } := by
  induction fuel generalizing s o l with
  | zero =>
    obtain rfl : l = [] := List.length_eq_zero_iff.mp (by omega)
    rfl
  | succ k ih =>
    simp only [State.bar2Write]
    split
    · next hl => rw [hl]; rfl
    · next hl =>
      have hpos := List.length_pos_iff.mpr hl
      have halign : (engBase e + o) % 8 = o % 8 := by unfold engBase; omega
      rw [halign, State.bar2Piece_engine s w e o _ he (by omega), hput s.mem o _ (by omega) (by omega)]
      by_cases hrest : l.length ≤ 8 - o % 8
      · rw [List.drop_eq_nil_of_le hrest, List.take_of_length_le hrest, State.bar2Write_nil]
      · have hdrop : (l.drop (8 - o % 8)).length = l.length - (8 - o % 8) := List.length_drop
        have hrestStored := ih { s with mem := Mem.setBytes s.mem (engBase e + o) (l.take (8 - o % 8)) } (o + (8 - o % 8)) (l.drop (8 - o % 8))
          (by omega) (by omega) (fun m o' l' h1 h2 => hput m o' l' (by omega) (by omega))
        rw [Nat.add_assoc, hrestStored, ← Nat.add_assoc]
        exact congrArg (fun m => ({ s with mem := m } : State)) (Mem.setBytes_take_drop s.mem _ _ l)

/-! ### The row -/

/-- An engine does not reach these memories, and nothing is written beyond the window (R17, R388). -/
theorem State.engineMemory_out (s : State) (w : Writer) (e o : Nat) (bs : List Byte) (h : (∃ k, w = .engine k) ∨ 0x20000 < o + bs.length) :
    s.engineMemory w e o bs = s := by
  rcases h with ⟨k, rfl⟩ | hlen
  · rfl
  · cases w with
    | engine => rfl
    | pcie | qspi | bridle => exact if_neg (by omega)

/-- Every other writer goes through the permission of BAR2. -/
theorem State.engineMemory_in (s : State) (w : Writer) (e o : Nat) (bs : List Byte) (hw : ∀ k, w ≠ .engine k) (hlen : o + bs.length ≤ 0x20000) :
    s.engineMemory w e o bs = s.bar2Gate w (engBase e + o) bs := by
  cases w with
  | engine k => exact absurd rfl (hw k)
  | pcie | qspi | bridle => exact if_pos hlen

theorem exec_engineMemoryWrite (w : Writer) (e : Fin 48) (off : Nat) (bs : List Byte) (s : State) :
    exec (.engineMemoryWrite w e off bs) s = .next (s.engineMemory w e off bs) := rfl

theorem State.bar2Gate_may (s : State) (w : Writer) (off : Nat) (bs : List Byte) (h : s.dev.mayWrite w 0x10000 = true) :
    s.bar2Gate w off bs = s.bar2Write w off bs (bs.length / 8 + 2) := if_pos h

theorem State.bar2Gate_mayNot (s : State) (w : Writer) (off : Nat) (bs : List Byte) (h : s.dev.mayWrite w 0x10000 = false) :
    s.bar2Gate w off bs = s.on (fun d => d.denied w) := if_neg (by simp [h])

/-- The row where each part of the write is stored as it was sent. -/
theorem exec_engineMemoryWrite_stores (w : Writer) (e : Fin 48) (off : Nat) (bs : List Byte) (s : State) (hw : ∀ k, w ≠ .engine k)
    (hmay : s.dev.mayWrite w 0x10000 = true) (hlen : off + bs.length ≤ 0x20000)
    (hput : ∀ (m : List Host.Cell) (o : Nat) (l : List Byte), off ≤ o → o < off + bs.length →
      ({ s with mem := m } : State).engMemWrite w e o l = { s with mem := Mem.setBytes m (engBase e + o) l }) :
    exec (.engineMemoryWrite w e off bs) s = .next { s with mem := Mem.setBytes s.mem (engBase e + off) bs } := by
  rw [exec_engineMemoryWrite, s.engineMemory_in w e off bs hw hlen, State.bar2Gate_may s w _ bs hmay,
    State.bar2Write_stores s w e off _ bs e.isLt hlen (by omega) hput]

/-- The row within 8 aligned bytes. -/
theorem exec_engineMemoryWrite_piece (w : Writer) (e : Fin 48) (off : Nat) (bs : List Byte) (s : State) (hw : ∀ k, w ≠ .engine k)
    (hmay : s.dev.mayWrite w 0x10000 = true) (hbs : bs ≠ []) (hn : bs.length ≤ 8 - off % 8) (hoff : off < 0x18000) :
    exec (.engineMemoryWrite w e off bs) s = .next (s.engMemWrite w e off bs) := by
  have halign : (engBase e + off) % 8 = off % 8 := by unfold engBase; omega
  rw [exec_engineMemoryWrite, s.engineMemory_in w e off bs hw (by omega), State.bar2Gate_may s w _ bs hmay,
    State.bar2Write_piece s w _ _ bs hbs (by omega), State.bar2Piece_engine s w e off bs e.isLt (by omega)]

end Sys2Proof.Machine
end

section
/-! PROOFS. A BAR2 write to the memories of an engine, case by case (R392): what is stored, dropped or merged, in states whose memories are canonical. -/

namespace Sys2Proof.Machine
open Sys2Proof Sys2Proof.Safety

/-- From `s` to `t` the bytes of a list are stored in the window of engine `e` from an offset, and nothing else changes. -/
def StoredAt (e off : Nat) (bs : List Byte) (s t : State) : Prop :=
  t.dev = s.dev ∧ t.pending = s.pending ∧
  (∀ x, (x < engBase e + off ∨ engBase e + off + bs.length ≤ x) → Mem.byte t.mem x = Mem.byte s.mem x) ∧
  (∀ i < bs.length, some (Mem.byte t.mem (engBase e + off + i)) = bs[i]?)

theorem storedAt_setBytes (s : State) (e off : Nat) (bs : List Byte) (hm : MemOk s) :
    StoredAt e off bs s { s with mem := Mem.setBytes s.mem (engBase e + off) bs } :=
  ⟨rfl, rfl, fun x hx => Mem.byte_setBytes_ne s.mem _ x bs hx, fun i hi => Mem.byte_setBytes_getElem? s.mem _ i bs hm hi⟩

section
variable (w : Writer) (e : Fin 48) (off : Nat) (bs : List Byte) (s : State) (hw : ∀ k, w ≠ .engine k) (hmay : s.dev.mayWrite w 0x10000 = true)
  (hlit : s.dev.engDark e = false)
include hw hmay hlit

/-- A write to the scratchpad of an engine that stores nothing in the same cycle (R392). -/
theorem exec_engineMemoryWrite_scratch (hm : MemOk s) (hlo : 0x10000 ≤ off) (hhi : off + bs.length ≤ 0x18000)
    (hfree : (s.dev.engine e).scrAt ≠ s.dev.now ∨ (s.dev.engine e).scr = []) :
    ∃ t, exec (.engineMemoryWrite w e off bs) s = .next t ∧ StoredAt e off bs s t := by
  refine ⟨_, exec_engineMemoryWrite_stores w e off bs s hw hmay (by omega) (fun m o l h1 h2 => ?_), storedAt_setBytes s e off bs hm⟩
  rw [State.engMemWrite_scratch { s with mem := m } w e o l hlit (by omega) (by omega), State.scrMerge_of_free { s with mem := m } e _ l hfree]

/-- A write to instruction RAM that takes it: the bank that is not active, or the engine IDLE or HALTED (R392). -/
theorem exec_engineMemoryWrite_iram (hm : MemOk s) (hhi : off + bs.length ≤ 0x10000) (hswap : s.dev.upd.swap = none)
    (hopen : off / 0x8000 ≠ s.dev.get (R.ENG_STATUS_ACT_BANK e) ∧ (off + bs.length - 1) / 0x8000 = off / 0x8000 ∨
      s.dev.get (R.ENG_STATUS_STATE e) = 1 ∨ s.dev.get (R.ENG_STATUS_STATE e) = 6) :
    ∃ t, exec (.engineMemoryWrite w e off bs) s = .next t ∧ StoredAt e off bs s t := by
  refine ⟨_, exec_engineMemoryWrite_stores w e off bs s hw hmay (by omega) (fun m o l h1 h2 => ?_), storedAt_setBytes s e off bs hm⟩
  have hpiece : o / 0x8000 ≠ s.dev.get (R.ENG_STATUS_ACT_BANK e) ∨ s.dev.engState e = 1 ∨ s.dev.engState e = 6 :=
    hopen.imp_left (fun ⟨hother, hsame⟩ => by omega)
  exact State.engMemWrite_iram { s with mem := m } w e o l hlit (by omega) (s.dev.iramClosed_eq_false e o hswap hpiece)

/-- A write to the active bank of an engine that is neither IDLE nor HALTED is dropped with IRAM_WREJ (R392). -/
theorem exec_engineMemoryWrite_iramClosed (hbs : bs ≠ []) (hn : bs.length ≤ 8 - off % 8) (hhi : off < 0x10000)
    (hbank : off / 0x8000 = s.dev.get (R.ENG_STATUS_ACT_BANK e)) (h1 : s.dev.get (R.ENG_STATUS_STATE e) ≠ 1)
    (h6 : s.dev.get (R.ENG_STATUS_STATE e) ≠ 6) :
    ∃ t, exec (.engineMemoryWrite w e off bs) s = .next t ∧ t.mem = s.mem ∧ t.dev.get (R.ENG_STATUS_IRAM_WREJ e) = 1 ∧
      OnlyRegsEv [R.ENG_STATUS_IRAM_WREJ e] s t := by
  have he := e.isLt
  have hblock : block (R.ENG_STATUS_IRAM_WREJ e) ≠ 3 := by simp only [block, Fld.key, R.ENG_STATUS_IRAM_WREJ]; omega
  have hframe : EventFrame (s.dev.set (R.ENG_STATUS_IRAM_WREJ e) 1) (s.dev.engCause e (R.ENG_STATUS_IRAM_WREJ e) 7) := .cause _ _ _ _ (by omega)
  refine ⟨_, (exec_engineMemoryWrite_piece w e off bs s hw hmay hbs hn (by omega)).trans
    (congrArg _ (State.engMemWrite_iramClosed s w e off bs hlit hhi (s.dev.iramClosed_of_active e off hbank h1 h6))), rfl,
    Dev.cause_get_same _ _ _ _ (by omega) hblock, rfl, rfl, fun g hg hne => ?_, ?_⟩
  · exact Dev.cause_get_ne _ _ g _ _ (by omega) hg (hne _ List.mem_cons_self)
  · exact hframe.rest

/-- A write to the scratchpad in the cycle of stores of the engine: their words keep what the engine stored (R392). -/
theorem exec_engineMemoryWrite_sameCycle (hm : MemOk s) (hlo : 0x10000 ≤ off) (hhi : off + bs.length ≤ 0x18000) (hn : bs.length ≤ 8 - off % 8)
    (hbs : bs ≠ []) (hat : (s.dev.engine e).scrAt = s.dev.now) :
    ∃ t, exec (.engineMemoryWrite w e off bs) s = .next t ∧ t.dev = s.dev ∧
      (∀ i < bs.length, (off - 0x10000 + i) / 4 ∈ (s.dev.engine e).scr → Mem.byte t.mem (engBase e + off + i) = Mem.byte s.mem (engBase e + off + i)) ∧
      (∀ i < bs.length, (off - 0x10000 + i) / 4 ∉ (s.dev.engine e).scr → some (Mem.byte t.mem (engBase e + off + i)) = bs[i]?) := by
  have hpos := List.length_pos_iff.mpr hbs
  have hread (i : Nat) (hi : i < bs.length) :=
    (Mem.byte_setBytes_getElem? s.mem (engBase e + off) i (s.scrMerge e (off - 0x10000) bs) hm (by simpa)).trans (State.scrMerge_getElem? s e (off - 0x10000) i bs hi hat)
  refine ⟨_, (exec_engineMemoryWrite_piece w e off bs s hw hmay hbs hn (by omega)).trans
    (congrArg _ (State.engMemWrite_scratch s w e off bs hlit hlo (by omega))), rfl, fun i hi hmem => ?_, fun i hi hmem => ?_⟩
  · have h := hread i hi
    rw [if_pos hmem, show engBase e + 0x10000 + (off - 0x10000) + i = engBase e + off + i by omega] at h
    exact Option.some.inj h
  · exact (hread i hi).trans (if_neg hmem)

end

/-- What the row leaves undone: for an engine, beyond the window, for a port that may not write, and while the team is off or dozes. -/
theorem exec_engineMemoryWrite_refused (w : Writer) (e : Fin 48) (off : Nat) (bs : List Byte) (s : State) :
    ∃ t, exec (.engineMemoryWrite w e off bs) s = .next t ∧ ((∃ k, w = .engine k) ∨ 0x20000 < off + bs.length → t = s) ∧
      ((∀ k, w ≠ .engine k) → off + bs.length ≤ 0x20000 → s.dev.mayWrite w 0x10000 = false → t = s.on (fun d => d.denied w)) ∧
      (s.dev.mayWrite w 0x10000 = true → s.dev.engDark e = true → t = s) ∧ t.pending = s.pending := by
  refine ⟨_, exec_engineMemoryWrite w e off bs s, s.engineMemory_out w e off bs, fun hw hlen hmay => ?_, fun hmay hdark => ?_,
    (s.engineMemory_kept w e off bs).pending⟩
  · rw [s.engineMemory_in w e off bs hw hlen, s.bar2Gate_mayNot w _ bs hmay]
  · by_cases hout : (∃ k, w = .engine k) ∨ 0x20000 < off + bs.length
    · exact s.engineMemory_out w e off bs hout
    · obtain ⟨hw, hlen⟩ := not_or.mp hout
      rw [s.engineMemory_in w e off bs (fun k h => hw ⟨k, h⟩) (by omega), s.bar2Gate_may w _ bs hmay,
        s.bar2Write_dark w e off _ bs e.isLt (by omega) hdark]

end Sys2Proof.Machine
end

section
/-! PROOFS. Scrubbing (R469) and the counters of Orchard (R494). -/

namespace Sys2Proof.Machine
open Sys2Proof Sys2Proof.Safety

/-! ### Marks, walks and passes -/

theorem Dev.eccAt_congr {d d' : Dev} (h : d'.orch = d.orch) (a : Nat) : d'.eccAt a = d.eccAt a := by simp [Dev.eccAt, h]

theorem Dev.eccAt_setEcc_none (d : Dev) (a : Nat) : (d.setEcc a none).eccAt a = none := Tab.find?_del_same ..

/-- A scrub pass counts itself and forgets which banks have wrapped; it touches nothing else. -/
theorem Dev.scrubPass_eq (d : Dev) :
    d.scrubPass = d ∨ d.scrubPass = ({ d with orch := { d.orch with wrapped := [] } } : Dev).inc R.ORCH_SCRUB_PASSES := by
  unfold Dev.scrubPass
  dsimp only
  split
  · exact .inr rfl
  · exact .inl rfl

theorem Dev.scrubPass_ecc (d : Dev) : d.scrubPass.orch.ecc = d.orch.ecc := by
  obtain h | h := d.scrubPass_eq
  · rw [h]
  · rw [h]; rfl

theorem Dev.scrubPass_walk (d : Dev) : d.scrubPass.orch.walk = d.orch.walk := by
  obtain h | h := d.scrubPass_eq
  · rw [h]
  · rw [h]; rfl

theorem Dev.get_scrubPass (d : Dev) (g : Fld) (h : g.key ≠ R.ORCH_SCRUB_PASSES.key) : d.scrubPass.get g = d.get g := by
  obtain e | e := d.scrubPass_eq
  · rw [e]
  · rw [e, Dev.get_inc_ne _ _ _ h]; rfl

/-! ### An uncorrectable error that a read meets -/

theorem Dev.eccEvent_frame (d : Dev) (src : Nat) : EventFrame ((d.set R.SYS_DIAG_ECC_SRC src).set R.SYS_DIAG_ECC_UNCORR 1) (d.eccEvent src) :=
  .cause _ _ _ _ (by decide)

theorem Dev.bankUe_orch (d : Dev) (n : Nat) (r : Req) (addr : Nat) (hn : n < 64) : (d.bankUe n r false addr).orch = d.orch := by
  rw [Dev.bankUe, if_neg (by decide), (Dev.eccEvent_frame _ 2).orch, Dev.set_orch, Dev.set_orch, (EventFrame.bankCause _ n _ _ hn).orch,
    Dev.set_orch, Dev.faultLog_rest]

theorem Dev.bankUe_get_ue (d : Dev) (n : Nat) (r : Req) (addr : Nat) (hn : n < 64) : (d.bankUe n r false addr).get (R.BANK_STATUS_UE n) = 1 := by
  have hblock : block (R.BANK_STATUS_UE n) ≠ 3 := by simp only [block, Fld.key, R.BANK_STATUS_UE]; omega
  have huncorr : (R.BANK_STATUS_UE n).key ≠ R.SYS_DIAG_ECC_UNCORR.key := by simp only [Fld.key, R.BANK_STATUS_UE, R.SYS_DIAG_ECC_UNCORR]; omega
  have hsrc : (R.BANK_STATUS_UE n).key ≠ R.SYS_DIAG_ECC_SRC.key := by simp only [Fld.key, R.BANK_STATUS_UE, R.SYS_DIAG_ECC_SRC]; omega
  rw [Dev.bankUe, if_neg (by decide), (Dev.eccEvent_frame _ 2).get _ hblock, Dev.get_set_ne _ _ _ _ huncorr, Dev.get_set_ne _ _ _ _ hsrc]
  exact Dev.cause_get_same _ _ _ _ (by omega) hblock

theorem Dev.bankUe_get_uncorr (d : Dev) (n : Nat) (r : Req) (addr : Nat) : (d.bankUe n r false addr).get R.SYS_DIAG_ECC_UNCORR = 1 := by
  rw [Dev.bankUe, if_neg (by decide)]
  exact Dev.cause_get_same _ _ _ _ (by decide) (by decide)

/-! ### One scrub read -/

/-- What a scrub read of bank `n` finds in its word and does about it, before the walk moves on. -/
def Dev.scrubRead (d : Dev) (n : Nat) : Dev :=
  match d.eccAt (d.scrubAddr n) with
  | some .ce => ((d.addSat (R.BANK_STATUS_CE_CNT n) 1).bankCause n (R.BANK_STATUS_CE n) 4).setEcc (d.scrubAddr n) none
  | some .ue => d.bankUe n Req.finisher false (d.scrubAddr n % 0x80000)
  | none => d

theorem Dev.scrubOne_on (d : Dev) (n : Nat) (hon : d.get (R.BANK_POWER_STATE n) = 0) :
    (d.scrubOne n).regs = (d.scrubRead n).regs ∧ (d.scrubOne n).orch.ecc = (d.scrubRead n).orch.ecc ∧
      (d.scrubOne n).orch.walk.getD n 0 = (d.orch.walk.getD n 0 + 1) % 65536 := by
  rw [Dev.scrubOne, if_neg (not_not_intro hon)]
  exact ⟨rfl, rfl, Tab.getD_put_same ..⟩

theorem Dev.scrubRead_corrected (d : Dev) (n : Nat) (h : d.eccAt (d.scrubAddr n) = some .ce) :
    d.scrubRead n = ((d.addSat (R.BANK_STATUS_CE_CNT n) 1).bankCause n (R.BANK_STATUS_CE n) 4).setEcc (d.scrubAddr n) none := by
  simp only [Dev.scrubRead, h]

theorem Dev.scrubRead_uncorrectable (d : Dev) (n : Nat) (h : d.eccAt (d.scrubAddr n) = some .ue) :
    d.scrubRead n = d.bankUe n Req.finisher false (d.scrubAddr n % 0x80000) := by
  simp only [Dev.scrubRead, h]

theorem Dev.scrubRead_clean (d : Dev) (n : Nat) (h : d.eccAt (d.scrubAddr n) = none) : d.scrubRead n = d := by
  simp only [Dev.scrubRead, h]

/-- A scrub of a bank that is ON: what its read does, the walk one word on, and a pass counted where one is complete. -/
structure Scrubbed (n : Nat) (d d' : Dev) : Prop where
  ecc : d'.orch.ecc = (d.scrubRead n).orch.ecc
  get : ∀ g : Fld, g.key ≠ R.ORCH_SCRUB_PASSES.key → d'.get g = (d.scrubRead n).get g
  walk : d'.orch.walk.getD n 0 = (d.orch.walk.getD n 0 + 1) % 65536

theorem Scrubbed.eccAt {n : Nat} {d d' : Dev} (h : Scrubbed n d d') (a : Nat) : d'.eccAt a = (d.scrubRead n).eccAt a := by
  simp only [Dev.eccAt, h.ecc]

theorem exec_scrub (n : Fin 64) (s : State) : exec (.scrub n none) s = .next (s.on fun d => d.scrub n) := rfl

theorem Dev.scrub_enabled (d : Dev) (n : Nat) (h : d.on R.ORCH_CTRL_SCRUB_EN = true) : d.scrub n = (d.scrubOne n).scrubPass := if_pos h

theorem Dev.scrub_scrubbed (d : Dev) (n : Nat) (hen : d.on R.ORCH_CTRL_SCRUB_EN = true) (hon : d.get (R.BANK_POWER_STATE n) = 0) :
    Scrubbed n d (d.scrub n) := by
  obtain ⟨hregs, hecc, hwalk⟩ := d.scrubOne_on n hon
  rw [d.scrub_enabled n hen]
  refine ⟨?_, fun g hg => ?_, ?_⟩
  · rw [Dev.scrubPass_ecc, hecc]
  · rw [Dev.get_scrubPass _ g hg, Dev.get_congr hregs]
  · rw [Dev.scrubPass_walk, hwalk]

/-! ### Registers apart -/

/-- The registers of a bank's status lie outside block 0x3 and are none of the scrub pass's. -/
theorem bankStatus_apart (n lo : Nat) (hn : n < 64) (hlo : lo < 32) (f : Fld) (haddr : f.addr = 0x4000c + n * 0x10) (hf : f.lo = lo) :
    block f ≠ 3 ∧ f.key ≠ R.ORCH_SCRUB_PASSES.key := by
  simp only [block, Fld.key, haddr, hf, R.ORCH_SCRUB_PASSES]
  omega

/-! ### The row -/

section
variable (n : Fin 64) (s : State) (hen : s.dev.on R.ORCH_CTRL_SCRUB_EN = true)
include hen

/-- A corrected word is written back, counted and flagged. -/
theorem exec_scrub_corrected (hon : s.dev.get (R.BANK_POWER_STATE n) = 0) (hecc : s.dev.eccAt (s.dev.scrubAddr n) = some .ce) :
    ∃ t, exec (.scrub n none) s = .next t ∧ t.mem = s.mem ∧ t.dev.eccAt (s.dev.scrubAddr n) = none ∧ t.dev.get (R.BANK_STATUS_CE n) = 1 ∧
      t.dev.get (R.BANK_STATUS_CE_CNT n) = min (s.dev.get (R.BANK_STATUS_CE_CNT n) + 1) (2 ^ (R.BANK_STATUS_CE_CNT n).width - 1) ∧
      t.dev.orch.walk.getD n 0 = (s.dev.orch.walk.getD n 0 + 1) % 65536 := by
  have hscrub := s.dev.scrub_scrubbed n hen hon
  have hread := s.dev.scrubRead_corrected n hecc
  obtain ⟨hceBlock, hce⟩ := bankStatus_apart n 4 n.isLt (by decide) (R.BANK_STATUS_CE n) rfl rfl
  obtain ⟨hcntBlock, hcnt⟩ := bankStatus_apart n 16 n.isLt (by decide) (R.BANK_STATUS_CE_CNT n) rfl rfl
  refine ⟨_, exec_scrub n s, rfl, ?_, ?_, ?_, hscrub.walk⟩
  · rw [State.on_dev, hscrub.eccAt, hread, Dev.eccAt_setEcc_none]
  · rw [State.on_dev, hscrub.get _ hce, hread]
    exact Dev.cause_get_same _ _ _ _ (by omega) hceBlock
  · rw [State.on_dev, hscrub.get _ hcnt, hread, ← Dev.get_addSat_same]
    exact Dev.cause_get_ne _ _ _ _ _ (by omega) hcntBlock (by simp [Fld.key, R.BANK_STATUS_CE, R.BANK_STATUS_CE_CNT])

/-- A word without an error leaves everything but the walk and the count of passes. -/
theorem exec_scrub_clean (hon : s.dev.get (R.BANK_POWER_STATE n) = 0) (hecc : s.dev.eccAt (s.dev.scrubAddr n) = none)
    (hwalk : s.dev.orch.walk.getD n 0 < 65535) :
    ∃ t, exec (.scrub n none) s = .next t ∧ t.mem = s.mem ∧ t.dev.orch.ecc = s.dev.orch.ecc ∧ KeepsRegs [R.ORCH_SCRUB_PASSES] s t ∧
      t.dev.orch.walk.getD n 0 = s.dev.orch.walk.getD n 0 + 1 := by
  have hscrub := s.dev.scrub_scrubbed n hen hon
  have hread := s.dev.scrubRead_clean n hecc
  refine ⟨_, exec_scrub n s, rfl, ?_, ⟨rfl, rfl, fun g hg => ?_⟩, ?_⟩
  · rw [State.on_dev, hscrub.ecc, hread]
  · rw [State.on_dev, hscrub.get g (hg _ List.mem_cons_self), hread]
  · rw [State.on_dev, hscrub.walk, Nat.mod_eq_of_lt (by omega)]

/-- An uncorrectable error stays in its word, is flagged, and raises the system event (R467, R695). -/
theorem exec_scrub_uncorrectable (hon : s.dev.get (R.BANK_POWER_STATE n) = 0) (hecc : s.dev.eccAt (s.dev.scrubAddr n) = some .ue) :
    ∃ t, exec (.scrub n none) s = .next t ∧ t.mem = s.mem ∧ t.dev.eccAt (s.dev.scrubAddr n) = some .ue ∧ t.dev.get (R.BANK_STATUS_UE n) = 1 ∧
      t.dev.get R.SYS_DIAG_ECC_UNCORR = 1 ∧ t.dev.orch.walk.getD n 0 = (s.dev.orch.walk.getD n 0 + 1) % 65536 := by
  have hn := n.isLt
  have hscrub := s.dev.scrub_scrubbed n hen hon
  have hread := s.dev.scrubRead_uncorrectable n hecc
  obtain ⟨hueBlock, hue⟩ := bankStatus_apart n 5 n.isLt (by decide) (R.BANK_STATUS_UE n) rfl rfl
  refine ⟨_, exec_scrub n s, rfl, ?_, ?_, ?_, hscrub.walk⟩
  · rw [State.on_dev, hscrub.eccAt, hread, ← hecc]
    exact Dev.eccAt_congr (s.dev.bankUe_orch n _ _ hn) _
  · rw [State.on_dev, hscrub.get _ hue, hread, Dev.bankUe_get_ue _ _ _ _ hn]
  · rw [State.on_dev, hscrub.get _ (by decide), hread, Dev.bankUe_get_uncorr]

/-- A bank that is not ON is skipped. -/
theorem exec_scrub_skipped (hoff : s.dev.get (R.BANK_POWER_STATE n) ≠ 0) :
    ∃ t, exec (.scrub n none) s = .next t ∧ t.dev.orch.walk = s.dev.orch.walk ∧ t.dev.orch.ecc = s.dev.orch.ecc ∧
      KeepsRegs [R.ORCH_SCRUB_PASSES] s t := by
  have hscrub : s.dev.scrub n = s.dev.scrubPass := by rw [s.dev.scrub_enabled n hen, Dev.scrubOne, if_pos hoff]
  refine ⟨_, exec_scrub n s, ?_, ?_, rfl, rfl, fun g hg => ?_⟩
  · rw [State.on_dev, hscrub, Dev.scrubPass_walk]
  · rw [State.on_dev, hscrub, Dev.scrubPass_ecc]
  · rw [State.on_dev, hscrub, Dev.get_scrubPass _ g (hg _ List.mem_cons_self)]

end

/-- An upset that the row tells is an error asserted in the word that the scrub then reads. -/
theorem exec_scrub_upset (n : Fin 64) (x : Ecc) (s : State) :
    exec (.scrub n (some x)) s = exec (.scrub n none) (s.on (fun d => d.setEcc (d.scrubAddr n) (some x))) := by
  cases x <;> rfl

theorem exec_scrub_disabled (n : Fin 64) (s : State) (h : s.dev.on R.ORCH_CTRL_SCRUB_EN = false) : exec (.scrub n none) s = .next s := by
  have hscrub : s.dev.scrub n = s.dev := if_neg (by simp [h])
  rw [exec_scrub, State.on, hscrub]

/-! ### CLR_CNT -/

theorem Dev.clear_rest (d : Dev) (fs : List Fld) : d.clear fs = { d with regs := (d.clear fs).regs } := by
  induction fs generalizing d with
  | nil => rfl
  | cons f fs ih => exact ih (d.set f 0)

/-- Two lists cleared change no register outside them. -/
theorem onlyRegs_clear_clear (s : State) (as bs : List Fld) : OnlyRegs (as ++ bs) s (s.on fun d => (d.clear as).clear bs) := by
  refine ⟨⟨rfl, rfl, fun g hg => ?_⟩, ?_⟩
  · rw [State.on_dev, Dev.get_clear_ne _ bs g fun f hf => hg f (List.mem_append_right _ hf),
      Dev.get_clear_ne _ as g fun f hf => hg f (List.mem_append_left _ hf)]
  · rw [State.on_dev, Dev.clear_rest, Dev.clear_rest s.dev]

/-- CLR_CNT clears the counts of corrected errors and of faults (R494), and no other register. -/
theorem exec_orchClrCnt (w : Writer) (s : State) (hw : Grants s w R.ORCH_CTRL_SCRUB_EN) :
    ∃ t, exec (.orchClrCnt w) s = .next t ∧ (∀ n < 64, t.dev.get (R.BANK_STATUS_CE_CNT n) = 0) ∧ (∀ q < 16, t.dev.get (R.ORCH_FAULT_CNT q) = 0) ∧
      OnlyRegs ((List.range 64).map R.BANK_STATUS_CE_CNT ++ (List.range 16).map R.ORCH_FAULT_CNT) s t := by
  have hgate : s.gate w 0x42000 (fun y => y.on (fun d => d.orchClrCnt)) = s.on fun d => d.orchClrCnt := if_pos hw
  refine ⟨s.on fun d => d.orchClrCnt, congrArg Host.Outcome.next hgate, fun n hn => ?_, fun q hq => ?_, onlyRegs_clear_clear s _ _⟩
  · have hmem : R.BANK_STATUS_CE_CNT n ∈ (List.range 64).map R.BANK_STATUS_CE_CNT := List.mem_map_of_mem (List.mem_range.mpr hn)
    rw [State.on_dev, Dev.orchClrCnt, Dev.get_clear_zero]
    exact Dev.get_clear_mem _ _ _ hmem
  · have hmem : R.ORCH_FAULT_CNT q ∈ (List.range 16).map R.ORCH_FAULT_CNT := List.mem_map_of_mem (List.mem_range.mpr hq)
    rw [State.on_dev, Dev.orchClrCnt, Dev.get_clear_mem _ _ _ hmem]

end Sys2Proof.Machine
end

section
/-! PROOFS. The statement on closed regions, engine memories and the scrubber: it asks of every state what canonical memories alone give. -/

namespace Sys2Proof.Machine
open Sys2Proof Sys2Proof.Safety

/-- The state after reset, but for a byte of engine 0's scratchpad that its memory lists twice. -/
def twiceListed : State := { State.reset with mem := [(engBase 0 + 0x10000, 1), (engBase 0 + 0x10000, 2)] }

/-- A 0 that the Bridle writes to that byte takes out the first of its entries alone. -/
theorem exec_write_twiceListed :
    exec (.engineMemoryWrite .bridle 0 0x10000 [0]) twiceListed = .next { twiceListed with mem := [(engBase 0 + 0x10000, 2)] } :=
  (exec_engineMemoryWrite_piece .bridle 0 0x10000 [0] twiceListed (fun _ h => nomatch h) rfl (by decide) (by decide) (by decide)).trans
    (congrArg _ (State.engMemWrite_scratch twiceListed .bridle 0 0x10000 [0] rfl (by decide) (by decide)))

/-- Refutes O41: its clauses on stored bytes range over every state, and in `twiceListed`, whose memory is not in canonical form, a byte written 0 reads 2.
The statement lacks `MemOk` there, no more: for canonical memories, which every step keeps (`memoryInvariant`), its clauses are
`exec_orchardAccess_closed`, `exec_engineMemoryWrite_scratch`, `_iramClosed`, `_iram`, `_sameCycle` and `_refused`, `exec_scrub_corrected`, `_clean`,
`_uncorrectable`, `_skipped`, `_upset` and `_disabled`, and `exec_orchClrCnt`. -/
theorem not_regionsEngineMemoryAndScrub : ¬ Obligations.RegionsEngineMemoryAndScrub := by
  rintro ⟨_, stores, _⟩
  obtain ⟨t, ht, -, -, -, hbyte⟩ :=
    stores .bridle 0 0x10000 [0] twiceListed (fun _ h => nomatch h) rfl (by decide) (by decide) rfl (.inr rfl)
  obtain rfl := Host.Outcome.next.inj (exec_write_twiceListed.symm.trans ht)
  exact absurd (hbyte 0 (by decide)) (by decide)

end Sys2Proof.Machine
end

section
/-! PROOFS. Writes of RUN and of the enable of a trigger (R25, R37, R38, R40, R101, R102). -/

namespace Sys2Proof.Machine
open Sys2Proof Sys2Proof.Safety

/-! ### The conditions of R37 -/

theorem Dev.runError_geometry (d : Dev) (h : d.strideT < 2 * d.strideG) : d.runError = 3 := if_pos h

theorem Dev.runError_notAdmitted (d : Dev) (h : 2 * d.strideG ≤ d.strideT) (ha : d.on R.STRIDE_STATUS_ADMITTED = false) : d.runError = 1 := by
  rw [Dev.runError, if_neg (Nat.not_lt.mpr h), if_pos (by simp [ha])]

theorem Dev.runError_timeBase (d : Dev) (h : 2 * d.strideG ≤ d.strideT) (ha : d.on R.STRIDE_STATUS_ADMITTED = true)
    (ht : d.on (R.TB_CTRL_EN d.strideTb) = false) : d.runError = 4 := by
  rw [Dev.runError, if_neg (Nat.not_lt.mpr h), if_neg (by simp [ha]), if_pos (by simp [ht])]

/-- Only the phases are left to fail. -/
theorem Dev.runError_phases (d : Dev) (h : 2 * d.strideG ≤ d.strideT) (ha : d.on R.STRIDE_STATUS_ADMITTED = true)
    (ht : d.on (R.TB_CTRL_EN d.strideTb) = true) : d.runError = if d.phasesOk then 0 else 5 := by
  rw [Dev.runError, if_neg (Nat.not_lt.mpr h), if_neg (by simp [ha]), if_neg (by simp [ht])]
  cases d.phasesOk <;> rfl

/-- The code fits its field. -/
theorem Dev.runError_lt (d : Dev) : d.runError < 2 ^ 4 := by
  unfold Dev.runError
  repeat' split
  all_goals decide

theorem Dev.get_eq_zero_of_off {d : Dev} {f : Fld} (h : d.on f = false) : d.get f = 0 := by simpa [Dev.on] using h

/-! ### RUN -/

theorem Dev.runStart_running (d : Dev) (h : d.on R.STRIDE_CTRL_RUN = true) : d.runStart = d := if_pos h

theorem Dev.runStart_refused (d : Dev) (h : d.on R.STRIDE_CTRL_RUN = false) (he : d.runError ≠ 0) :
    d.runStart = d.set R.STRIDE_STATUS_CFG_ERR d.runError := by
  rw [Dev.runStart, if_neg (by simp [h]), if_pos he]

theorem exec_runStart {w : Writer} {s : State} (hw : Grants s w R.STRIDE_CTRL_RUN) : exec (.runStart w) s = .next (s.on fun d => d.runStart) :=
  State.gate_next hw rfl

/-- RUN refused for a condition of R37: CFG_ERR reads its code. -/
theorem exec_runStart_refused {w : Writer} {s : State} (hw : Grants s w R.STRIDE_CTRL_RUN) (h : s.dev.on R.STRIDE_CTRL_RUN = false)
    (he : s.dev.runError ≠ 0) :
    ∃ t, exec (.runStart w) s = .next t ∧ t.dev.get R.STRIDE_CTRL_RUN = 0 ∧ t.dev.get R.STRIDE_STATUS_CFG_ERR = s.dev.runError ∧
      OnlyRegs [R.STRIDE_STATUS_CFG_ERR] s t := by
  refine ⟨s.on fun d => d.set R.STRIDE_STATUS_CFG_ERR s.dev.runError, ?_, ?_, ?_, .set s _ _ (List.mem_singleton_self _)⟩
  · rw [exec_runStart hw, State.on, Dev.runStart_refused _ h he]; rfl
  · rw [State.on_dev, Dev.get_set_ne _ _ _ _ (by decide), Dev.get_eq_zero_of_off h]
  · exact (Dev.get_set_same ..).trans (Nat.mod_eq_of_lt s.dev.runError_lt)

/-! ### The enable of a trigger -/

theorem Dev.trgBad_iff (d : Dev) (t : Nat) :
    d.trgBad t = true ↔ d.get (R.TRG_WIDTH t) = 0 ∨ (d.on (R.TRG_CTRL_PERIODIC t) = true ∧ d.trgPeriod t ≤ d.get (R.TRG_WIDTH t) * 2 ^ 32) := by
  simp [Dev.trgBad]

theorem Dev.trgEnable_bad (d : Dev) (t : Nat) (h : d.trgBad t = true) :
    d.trgEnable t = (d.set (R.TRG_CTRL_EN t) 0).tbCfgRej (d.get (R.TRG_CTRL_TB t)) := if_pos h

/-- The time base of a trigger is one of the eight. -/
theorem Dev.get_trgTb_lt (d : Dev) (t : Nat) : d.get (R.TRG_CTRL_TB t) < 8 := d.get_lt _

/-- The enable of a trigger lies outside the block of events. -/
theorem block_trgEn (t : Fin 8) : block (R.TRG_CTRL_EN t) ≠ 3 := by
  simp only [block, Fld.key, R.TRG_CTRL_EN]; omega

/-- A write of 1 that R101 lets through leaves EN 1, also where the trigger is late (R102). -/
theorem Dev.get_trgEnable_en (d : Dev) (t : Fin 8) (h : d.trgBad t = false) (hoff : d.on (R.TRG_CTRL_EN t) = false) :
    (d.trgEnable t).get (R.TRG_CTRL_EN t) = 1 := by
  have htb := d.get_trgTb_lt t
  have hflag : ∀ n, (R.TRG_CTRL_EN t).key ≠ (R.TB_STATUS_TRG_LATE n).key := by simp only [Fld.key, R.TRG_CTRL_EN, R.TB_STATUS_TRG_LATE]; omega
  have harm : ∀ x, ((d.set (R.TRG_CTRL_EN t) 1).setTrg t x).get (R.TRG_CTRL_EN t) = 1 := fun _ => Dev.get_set_same ..
  have hlate : (R.TRG_CTRL_EN t).key ≠ (R.TRG_STATUS_LATE t).key := by simp only [Fld.key, R.TRG_CTRL_EN, R.TRG_STATUS_LATE]; omega
  rw [Dev.trgEnable, if_neg (by simp [h]), if_neg (by simp [hoff])]
  dsimp only
  split
  · exact harm _
  · split
    · rw [Dev.tbCause, Dev.cause_get_ne _ _ _ _ _ (by omega) (block_trgEn t) (hflag _),
        Dev.get_set_ne _ _ _ _ hlate]
      exact harm _
    · exact harm _

theorem exec_trgEnable {w : Writer} {n : Fin 8} {s : State} (hw : Grants s w (R.TRG_CTRL_EN n)) :
    exec (.trgEnable w n) s = .next (s.on fun d => d.trgEnable n) :=
  State.gate_next hw rfl

/-- A refused enable leaves EN at 0 and sets CFG_REJ of the trigger's time base (R101), with its event. -/
theorem trgEnable_bad_effect (s : State) (n : Fin 8) (tb : Nat) (htb : s.dev.get (R.TRG_CTRL_TB n) = tb) (h : s.dev.trgBad n = true) :
    (s.dev.trgEnable n).get (R.TRG_CTRL_EN n) = 0 ∧ (s.dev.trgEnable n).get (R.TB_STATUS_CFG_REJ tb) = 1 ∧
      OnlyRegsEv [R.TRG_CTRL_EN n, R.TB_STATUS_CFG_REJ tb] s (s.on fun d => d.trgEnable n) := by
  have hlt : tb < 8 := htb ▸ s.dev.get_trgTb_lt n
  have hblock : block (R.TB_STATUS_CFG_REJ tb) ≠ 3 := by simp only [block, Fld.key, R.TB_STATUS_CFG_REJ]; omega
  have hflag : (R.TRG_CTRL_EN n).key ≠ (R.TB_STATUS_CFG_REJ tb).key := by simp only [Fld.key, R.TRG_CTRL_EN, R.TB_STATUS_CFG_REJ]; omega
  rw [State.on, Dev.trgEnable_bad _ _ h, htb]
  refine ⟨?_, Dev.cause_get_same _ _ _ _ (by omega) hblock, ?_⟩
  · exact (Dev.cause_get_ne _ _ _ _ _ (by omega) (block_trgEn n) hflag).trans (Dev.get_set_same ..)
  · exact (OnlyRegs.set s _ 0 (by simp)).events.trans (.cause _ _ _ _ (by omega) (by simp))

/-- Settles O6: RUN by `exec_runStart_refused` with GEOMETRY, a trigger by the two branches of R101. -/
theorem refusedRunAndTriggers : Obligations.RefusedRunAndTriggers := by
  refine ⟨fun w s hw hoff => ?_, fun w n s hw hoff => ?_⟩
  · by_cases hgeo : s.dev.strideT < 2 * s.dev.strideG
    · have herr := s.dev.runError_geometry hgeo
      obtain ⟨t, ht, hrun, hcfg, -⟩ := exec_runStart_refused hw hoff (by simp [herr])
      exact ⟨t, ht, fun h => absurd (hrun.symm.trans h) (by decide), fun _ => ⟨hrun, hcfg.trans herr⟩⟩
    · exact ⟨_, exec_runStart hw, fun _ => Nat.le_of_not_lt hgeo, fun h => absurd h hgeo⟩
  · refine ⟨_, exec_trgEnable hw, fun hbad => trgEnable_bad_effect s n _ rfl ((s.dev.trgBad_iff n).mpr hbad), fun hwidth hper => ?_⟩
    have hgood : s.dev.trgBad n = false := by
      rw [← Bool.not_eq_true, Dev.trgBad_iff]
      rintro (h | ⟨hp, h⟩)
      · exact hwidth h
      · exact Nat.not_lt.mpr h (hper hp)
    exact s.dev.get_trgEnable_en n hgood hoff

end Sys2Proof.Machine
end

section
/-! PROOFS. The control of the stride: RUN, CLR_STATS, LATCH_PHASE (R37 to R40, R48, R49, R62). -/

namespace Sys2Proof.Machine
open Sys2Proof Sys2Proof.Safety

/-! ### Frames of effects that change more than registers -/

/-- An effect on the device keeps the registers outside a list when each of those reads as before. -/
theorem keepsRegs_on {fs : List Fld} {s : State} {k : Dev → Dev}
    (h : ∀ g : Fld, (∀ f ∈ fs, g.key ≠ f.key) → (k s.dev).get g = s.dev.get g) : KeepsRegs fs s (s.on k) :=
  ⟨rfl, rfl, h⟩

/-! ### The conditions of R37 on the phases -/

theorem phaseOk_iff (v g : Nat) : phaseOk v g = true ↔ 0 ≤ toSigned 16 v ∨ -(toSigned 16 v) + 320 ≤ (g : Int) * 4 := by
  simp [phaseOk]

theorem Dev.phasesOk_iff (d : Dev) :
    d.phasesOk = true ↔ ∀ b < 4, 0 ≤ toSigned 16 (d.get (R.LATCH_PHASE_PHASE b)) ∨
      -(toSigned 16 (d.get (R.LATCH_PHASE_PHASE b))) + 320 ≤ (d.strideG : Int) * 4 := by
  simp only [Dev.phasesOk, List.all_eq_true, List.mem_range, phaseOk_iff]

/-- With the other conditions of R37 met, PHASE (5) is the only code left, and it tells a phase against R48. -/
theorem Dev.runError_phases_iff (d : Dev) (h : 2 * d.strideG ≤ d.strideT) (ha : d.on R.STRIDE_STATUS_ADMITTED = true)
    (ht : d.on (R.TB_CTRL_EN d.strideTb) = true) : (d.runError = 0 ↔ d.phasesOk = true) ∧ (d.runError ≠ 0 → d.runError = 5) := by
  rw [d.runError_phases h ha ht]
  cases d.phasesOk <;> simp

/-! ### The first index (R38) -/

/-- The number of whole units from `org` until `need` is reached, rounded up, is the least that reaches it. -/
theorem unitsUntil_le_iff (need org unit k : Nat) (hunit : 0 < unit) :
    (if need ≤ org then 0 else (need - org + unit - 1) / unit) ≤ k ↔ need ≤ org + unit * k := by
  split
  · omega
  · rw [Nat.div_le_iff_le_mul_add_pred hunit]
    omega

/-- The first index is the least whose edge lies at least T after the value of the time base. -/
theorem Dev.firstIndex_le_iff (d : Dev) (hT : 0 < d.strideT) (k : Nat) :
    d.firstIndex ≤ k ↔ (d.tb d.strideTb).val % 2 ^ 96 + d.strideT * 2 ^ 32 ≤ d.edgeNs k * 2 ^ 32 := by
  have hedge : d.edgeNs k * 2 ^ 32 = d.get R.STRIDE_ORIGIN * 2 ^ 32 + d.strideT * 2 ^ 32 * k := by
    rw [Dev.edgeNs, Nat.add_mul, Nat.mul_assoc, Nat.mul_comm k]
  rw [hedge, Dev.firstIndex]
  exact unitsUntil_le_iff _ _ _ k (Nat.mul_pos hT (by decide))

/-- An edge reads the origin and the period alone. -/
theorem Dev.edgeNs_congr {d d' : Dev} (ho : d'.get R.STRIDE_ORIGIN = d.get R.STRIDE_ORIGIN)
    (hp : d'.get R.STRIDE_PERIOD_PERIOD = d.get R.STRIDE_PERIOD_PERIOD) (n : Nat) : d'.edgeNs n = d.edgeNs n := by
  simp only [Dev.edgeNs, Dev.strideT, ho, hp]

/-! ### RUN written 1 and accepted -/

/-- RUN is accepted: it reads 1, CFG_ERR 0. -/
def Dev.runAccepted (d : Dev) : Dev := (d.set R.STRIDE_CTRL_RUN 1).set R.STRIDE_STATUS_CFG_ERR 0

theorem Dev.get_runAccepted_run (d : Dev) : d.runAccepted.get R.STRIDE_CTRL_RUN = 1 :=
  (Dev.get_set_ne _ _ _ _ (by decide)).trans (Dev.get_set_same ..)

theorem Dev.get_runAccepted_cfgErr (d : Dev) : d.runAccepted.get R.STRIDE_STATUS_CFG_ERR = 0 := Dev.get_set_same ..

theorem Dev.get_runAccepted_ne (d : Dev) (g : Fld) (hrun : g.key ≠ R.STRIDE_CTRL_RUN.key) (herr : g.key ≠ R.STRIDE_STATUS_CFG_ERR.key) :
    d.runAccepted.get g = d.get g := by
  rw [Dev.runAccepted, Dev.get_set_ne _ _ _ _ herr, Dev.get_set_ne _ _ _ _ hrun]

/-- The stride before its first edge, which has index `n` (R38). -/
def StrideSt.startAt (x : StrideSt) (n : Nat) : StrideSt := { x with next := n, fenceAt := none, finished := [], skips := [] }

/-- A start with no stop pending: the first edge is pending and STRIDE_NEXT shows it. -/
def Dev.runFirst (d : Dev) : Dev :=
  ((d.runAccepted.set R.STRIDE_STATUS_PENDING 1).withStride (fun x => x.startAt d.firstIndex)).showNext

section
variable (d : Dev) (h : d.on R.STRIDE_CTRL_RUN = false) (he : d.runError = 0)
include h he

theorem Dev.runStart_first (hs : d.stride.stopPend = false) : d.runStart = d.runFirst := by
  rw [Dev.runStart, if_neg (by simp [h]), if_neg (by simp [he]), if_neg (by simp [hs])]
  rfl

theorem Dev.runStart_stopPending (hs : d.stride.stopPend = true) :
    d.runStart = d.runAccepted.withStride (fun x => { x with stopPend := false }) := by
  rw [Dev.runStart, if_neg (by simp [h]), if_neg (by simp [he]), if_pos hs]
  rfl

end

theorem Dev.get_runFirst (d : Dev) (g : Fld) (hnext : g.key ≠ R.STRIDE_NEXT.key) :
    d.runFirst.get g = (d.runAccepted.set R.STRIDE_STATUS_PENDING 1).get g := by
  rw [Dev.runFirst, Dev.showNext, Dev.get_set_ne _ _ _ _ hnext, Dev.get_withStride]

theorem Dev.get_runFirst_accepted (d : Dev) (g : Fld) (hnext : g.key ≠ R.STRIDE_NEXT.key) (hpend : g.key ≠ R.STRIDE_STATUS_PENDING.key) :
    d.runFirst.get g = d.runAccepted.get g := by
  rw [d.get_runFirst g hnext, Dev.get_set_ne _ _ _ _ hpend]

theorem Dev.get_runFirst_pending (d : Dev) : d.runFirst.get R.STRIDE_STATUS_PENDING = 1 :=
  (d.get_runFirst _ (by decide)).trans (Dev.get_set_same ..)

theorem Dev.get_runFirst_next (d : Dev) : d.runFirst.get R.STRIDE_NEXT = d.edgeNs d.firstIndex % 2 ^ 64 := by
  rw [Dev.runFirst, Dev.showNext, Dev.get_set_same]
  refine congrArg (· % 2 ^ 64) (Dev.edgeNs_congr ?_ ?_ _)
  all_goals rw [Dev.get_withStride, Dev.get_set_ne _ _ _ _ (by decide), Dev.get_runAccepted_ne _ _ (by decide) (by decide)]

section
variable {w : Writer} {s : State} (hw : Grants s w R.STRIDE_CTRL_RUN)
include hw

theorem exec_runStart_running (h : s.dev.on R.STRIDE_CTRL_RUN = true) : exec (.runStart w) s = .next s := by
  rw [exec_runStart hw, State.on, Dev.runStart_running _ h]

/-- RUN accepted with no stop pending. -/
theorem exec_runStart_first (h : s.dev.on R.STRIDE_CTRL_RUN = false) (he : s.dev.runError = 0) (hs : s.dev.stride.stopPend = false) :
    exec (.runStart w) s = .next (s.on Dev.runFirst) := by
  rw [exec_runStart hw, State.on, Dev.runStart_first _ h he hs]; rfl

/-- RUN accepted before the last edge of a stop: the stop is taken back (R40). -/
theorem exec_runStart_stopPending (h : s.dev.on R.STRIDE_CTRL_RUN = false) (he : s.dev.runError = 0) (hs : s.dev.stride.stopPend = true) :
    ∃ t, exec (.runStart w) s = .next t ∧ t.dev.get R.STRIDE_CTRL_RUN = 1 ∧ t.dev.stride = { s.dev.stride with stopPend := false } ∧
      KeepsRegs [R.STRIDE_CTRL_RUN, R.STRIDE_STATUS_CFG_ERR] s t := by
  refine ⟨s.on fun d => d.runAccepted.withStride (fun x => { x with stopPend := false }), ?_, s.dev.get_runAccepted_run, rfl,
    keepsRegs_on fun g hg => ?_⟩
  · rw [exec_runStart hw, State.on, Dev.runStart_stopPending _ h he hs]; rfl
  · exact s.dev.get_runAccepted_ne g (hg _ (by simp)) (hg _ (by simp))

/-! ### RUN written 0 -/

theorem exec_runStop : exec (.runStop w) s = .next (s.on fun d => d.runStop) := State.gate_next hw rfl

theorem exec_runStop_running (h : s.dev.on R.STRIDE_CTRL_RUN = true) :
    exec (.runStop w) s = .next (s.on fun d => (d.set R.STRIDE_CTRL_RUN 0).withStride (fun x => { x with stopPend := true })) := by
  rw [exec_runStop hw, State.on, Dev.runStop, if_pos h]; rfl

/-! ### CLR_STATS -/

theorem exec_strideClrStats : exec (.strideClrStats w) s = .next (s.on fun d => d.strideClrStats) := State.gate_next hw rfl

end

theorem Dev.get_strideClrStats_skipped (d : Dev) : d.strideClrStats.get R.STRIDE_SKIP_SKIPPED = 0 :=
  Dev.get_clear_zero _ _ _ ((Dev.get_set_ne _ _ _ _ (by decide)).trans (Dev.get_set_same ..))

theorem Dev.get_strideClrStats_slack (d : Dev) : d.strideClrStats.get R.STRIDE_MIN_SLACK_MIN_SLACK = 0xFFFFFF :=
  (Dev.get_clear_ne _ _ _ (by decide)).trans (Dev.get_set_same ..)

theorem Dev.get_strideClrStats_overruns (d : Dev) (g : Nat) (hg : g < 4) : d.strideClrStats.get (R.GAIT_OVR_CNT g) = 0 :=
  Dev.get_clear_mem _ _ _ (List.mem_map_of_mem (List.mem_range.mpr hg))

theorem onlyRegs_strideClrStats (s : State) :
    OnlyRegs [R.STRIDE_SKIP_SKIPPED, R.STRIDE_MIN_SLACK_MIN_SLACK, R.GAIT_OVR_CNT 0, R.GAIT_OVR_CNT 1, R.GAIT_OVR_CNT 2, R.GAIT_OVR_CNT 3] s
      (s.on fun d => d.strideClrStats) := by
  refine ((OnlyRegs.set s R.STRIDE_SKIP_SKIPPED 0 (by simp)).trans (.set _ R.STRIDE_MIN_SLACK_MIN_SLACK 0xFFFFFF (by simp))).trans ?_
  refine ⟨keepsRegs_on (k := fun d => d.clear ((List.range 4).map R.GAIT_OVR_CNT)) fun g hg => ?_, Dev.clear_rest ..⟩
  exact Dev.get_clear_ne _ _ g fun f hf => hg f (List.mem_cons_of_mem _ (List.mem_cons_of_mem _ hf))

/-! ### LATCH_PHASE -/

/-- A value that fits the field is judged by R48 alone. -/
theorem Dev.latchPhaseWrite_eq (d : Dev) (w : Writer) (b v : Nat) (hv : v < 2 ^ 16) :
    d.latchPhaseWrite w b v = if phaseOk v d.strideG then d.set (R.LATCH_PHASE_PHASE b) v else d.set R.STRIDE_STATUS_CFG_ERR 5 := by
  have hrsv : (v / 2 ^ 16 != 0) = false := by rw [Nat.div_eq_of_lt hv]; rfl
  rw [Dev.latchPhaseWrite, hrsv, Nat.mod_eq_of_lt hv]
  rfl

section
variable {w : Writer} {b : Fin 4} {v : W32} {s : State} (hw : Grants s w (R.LATCH_PHASE_PHASE b)) (hv : v.toNat < 2 ^ 16)
include hw hv

theorem exec_latchPhaseWrite : exec (.latchPhaseWrite w b v) s =
    .next { s with dev := if phaseOk v.toNat s.dev.strideG then s.dev.set (R.LATCH_PHASE_PHASE b) v.toNat else s.dev.set R.STRIDE_STATUS_CFG_ERR 5 } := by
  have hexec : exec (.latchPhaseWrite w b v) s = .next (s.on fun d => d.latchPhaseWrite w b v.toNat) := State.gate_next hw rfl
  rw [hexec, State.on, Dev.latchPhaseWrite_eq _ _ _ _ hv]

theorem exec_latchPhaseWrite_taken (hok : phaseOk v.toNat s.dev.strideG = true) :
    ∃ t, exec (.latchPhaseWrite w b v) s = .next t ∧ t.dev.get (R.LATCH_PHASE_PHASE b) = v.toNat ∧ OnlyRegs [R.LATCH_PHASE_PHASE b] s t := by
  refine ⟨s.on fun d => d.set (R.LATCH_PHASE_PHASE b) v.toNat, ?_, ?_, .set s _ _ (List.mem_singleton_self _)⟩
  · rw [exec_latchPhaseWrite hw hv, if_pos hok]; rfl
  · exact (Dev.get_set_same ..).trans (Nat.mod_eq_of_lt hv)

theorem exec_latchPhaseWrite_refused (hbad : phaseOk v.toNat s.dev.strideG = false) :
    ∃ t, exec (.latchPhaseWrite w b v) s = .next t ∧ t.dev.get R.STRIDE_STATUS_CFG_ERR = 5 ∧ OnlyRegs [R.STRIDE_STATUS_CFG_ERR] s t := by
  refine ⟨s.on fun d => d.set R.STRIDE_STATUS_CFG_ERR 5, ?_, Dev.get_set_same .., .set s _ _ (List.mem_singleton_self _)⟩
  rw [exec_latchPhaseWrite hw hv, if_neg (by simp [hbad])]; rfl

end

/-- Settles O7, row by row; the least index by `Dev.firstIndex_le_iff`. -/
theorem strideControl : Obligations.StrideControl := by
  refine ⟨fun w s hw => exec_runStart_refused hw, fun d => ⟨d.runError_geometry, d.runError_notAdmitted, d.runError_timeBase, fun h ha ht => ?_⟩,
    fun w s hw h he hs hT => ?_, fun w s hw => exec_runStart_running hw, fun w s hw => exec_runStart_stopPending hw, fun w s hw h => ?_,
    fun w s hw => ?_, fun w b v s hw hv => exec_latchPhaseWrite_taken hw hv, fun w b v s hw hv => exec_latchPhaseWrite_refused hw hv⟩
  · rw [← Dev.phasesOk_iff]
    exact d.runError_phases_iff h ha ht
  · have hfirst := s.dev.firstIndex_le_iff hT
    refine ⟨_, exec_runStart_first hw h he hs, ?_, s.dev.get_runFirst_pending, ?_, (hfirst _).mp (Nat.le_refl _), fun k hk => (hfirst k).mpr hk,
      s.dev.get_runFirst_next, rfl, keepsRegs_on fun g hg => ?_, rfl⟩
    · exact (s.dev.get_runFirst_accepted _ (by decide) (by decide)).trans s.dev.get_runAccepted_run
    · exact (s.dev.get_runFirst_accepted _ (by decide) (by decide)).trans s.dev.get_runAccepted_cfgErr
    · exact (s.dev.get_runFirst_accepted g (hg _ (by simp)) (hg _ (by simp))).trans (s.dev.get_runAccepted_ne g (hg _ (by simp)) (hg _ (by simp)))
  · exact ⟨_, exec_runStop_running hw h, Dev.get_set_same .., rfl,
      keepsRegs_on fun g hg => Dev.get_set_ne _ _ _ _ (hg _ List.mem_cons_self), rfl⟩
  · exact ⟨_, exec_strideClrStats hw, s.dev.get_strideClrStats_skipped, s.dev.get_strideClrStats_slack, s.dev.get_strideClrStats_overruns,
      onlyRegs_strideClrStats s⟩

end Sys2Proof.Machine
end

section
/-! PROOFS. The Lunge units: their commands (R55 to R58) and one edge (R53, R54, R56, R57). -/

namespace Sys2Proof.Machine
open Sys2Proof Sys2Proof.Safety

/-! ### Signed patterns are those of bit vectors -/

theorem toSigned_eq_toInt (w v : Nat) : toSigned w v = (BitVec.ofNat w v).toInt := by
  cases w with
  | zero => simp [toSigned, Nat.mod_one, BitVec.of_length_zero]
  | succ n =>
    simp only [toSigned, BitVec.toInt, BitVec.toNat_ofNat, Nat.add_sub_cancel, Nat.pow_succ]
    split <;> split <;> omega

theorem ofSigned_eq_toNat (w : Nat) (x : Int) : ofSigned w x = (BitVec.ofInt w x).toNat := (BitVec.toNat_ofInt x).symm

/-- A number within the range of the pattern is read back. -/
theorem toSigned_ofSigned (w : Nat) (x : Int) (hw : 0 < w) (hlo : -2 ^ (w - 1) ≤ x) (hhi : x < 2 ^ (w - 1)) : toSigned w (ofSigned w x) = x := by
  rw [toSigned_eq_toInt, ofSigned_eq_toNat, BitVec.ofNat_toNat, BitVec.setWidth_eq, BitVec.toInt_ofInt_eq_self hw hlo hhi]

theorem ofSigned_lt (w : Nat) (x : Int) : ofSigned w x < 2 ^ w := ofSigned_eq_toNat w x ▸ (BitVec.ofInt w x).isLt

/-- Equal readings are those of equal patterns. -/
theorem toSigned_eq_iff (w a b : Nat) : toSigned w a = toSigned w b ↔ a % 2 ^ w = b % 2 ^ w := by
  rw [toSigned_eq_toInt, toSigned_eq_toInt, BitVec.toInt_inj, ← BitVec.toNat_inj, BitVec.toNat_ofNat, BitVec.toNat_ofNat]

/-! ### The velocity of R53 -/

theorem lungeVel_atOnce (v t : Int) : lungeVel v t 0 = t := if_pos rfl

theorem lungeVel_rising (v t a : Int) (ha : 0 < a) (h : v ≤ t) : lungeVel v t a = min (v + a) t := by
  unfold lungeVel
  repeat' split
  all_goals omega

theorem lungeVel_falling (v t a : Int) (ha : 0 < a) (h : t ≤ v) : lungeVel v t a = max (v - a) t := by
  unfold lungeVel
  repeat' split
  all_goals omega

/-- The velocity stays between the old one and the target. -/
theorem lungeVel_between (v t a : Int) (ha : 0 ≤ a) : min v t ≤ lungeVel v t a ∧ lungeVel v t a ≤ max v t := by
  unfold lungeVel
  repeat' split
  all_goals omega

/-! ### Commands -/

theorem Dev.lunge_setLunge_ne (d : Dev) (n k : Nat) (x : LungeSt) (h : k ≠ n) : (d.setLunge n x).lunge k = d.lunge k :=
  Tab.getD_put_ne _ _ _ _ _ h

@[simp] theorem Dev.lunge_set (d : Dev) (f : Fld) (v n : Nat) : (d.set f v).lunge n = d.lunge n := rfl

theorem Dev.lungeUpdate_open (d : Dev) (n : Nat) (h : d.gaitClosed (d.get (R.LUNGE_CTRL_GAIT n)) = false) :
    d.lungeUpdate n = (d.setLunge n { d.lunge n with latched := some (d.get (R.LUNGE_TARGET n), d.get (R.LUNGE_ACCEL n), d.get (R.LUNGE_STEP n), 1) }).set
      (R.LUNGE_CTRL_UPDATE n) 1 := by
  rw [Dev.lungeUpdate, h]; rfl

theorem Dev.lungeUpdate_closed (d : Dev) (n : Nat) (h : d.gaitClosed (d.get (R.LUNGE_CTRL_GAIT n)) = true) :
    d.lungeUpdate n = ((d.setLunge n { d.lunge n with latched := some (d.get (R.LUNGE_TARGET n), d.get (R.LUNGE_ACCEL n), d.get (R.LUNGE_STEP n), 2) }).set
      (R.LUNGE_CTRL_UPDATE n) 1).set (R.LUNGE_STATUS_UPD_LATE n) 1 := by
  rw [Dev.lungeUpdate, h]; rfl

section
variable {w : Writer} {n : Fin 4} {s : State}

theorem exec_lungeUpdate (hw : Grants s w (R.LUNGE_CTRL_UPDATE n)) : exec (.lungeUpdate w n) s = .next (s.on fun d => d.lungeUpdate n) :=
  State.gate_next hw rfl

theorem exec_lungeEnable (hw : Grants s w (R.LUNGE_CTRL_EN n)) : exec (.lungeEnable w n) s = .next (s.on fun d => d.lungeEnable n) :=
  State.gate_next hw rfl

theorem exec_lungeDisable (hw : Grants s w (R.LUNGE_CTRL_EN n)) : exec (.lungeDisable w n) s = .next (s.on fun d => d.lungeDisable n) :=
  State.gate_next hw rfl

/-- UPDATE before the fence is taken at the next edge (R55). -/
theorem exec_lungeUpdate_open (hw : Grants s w (R.LUNGE_CTRL_UPDATE n)) (h : s.dev.gaitClosed (s.dev.get (R.LUNGE_CTRL_GAIT n)) = false) :
    ∃ t, exec (.lungeUpdate w n) s = .next t ∧ t.dev.get (R.LUNGE_CTRL_UPDATE n) = 1 ∧
      t.dev.lunge n = { s.dev.lunge n with latched := some (s.dev.get (R.LUNGE_TARGET n), s.dev.get (R.LUNGE_ACCEL n), s.dev.get (R.LUNGE_STEP n), 1) } ∧
      KeepsRegs [R.LUNGE_CTRL_UPDATE n] s t ∧ t.dev = { s.dev with regs := t.dev.regs, stride := t.dev.stride } := by
  refine ⟨_, exec_lungeUpdate hw, ?_⟩
  rw [State.on, Dev.lungeUpdate_open _ _ h]
  exact ⟨Dev.get_set_same .., Dev.lunge_setLunge_same .., ⟨rfl, rfl, fun _ hg => Dev.get_set_ne _ _ _ _ (hg _ List.mem_cons_self)⟩, rfl⟩

/-- UPDATE after the fence is taken one edge later, and UPD_LATE says so (R55). -/
theorem exec_lungeUpdate_closed (hw : Grants s w (R.LUNGE_CTRL_UPDATE n)) (h : s.dev.gaitClosed (s.dev.get (R.LUNGE_CTRL_GAIT n)) = true) :
    ∃ t, exec (.lungeUpdate w n) s = .next t ∧ t.dev.get (R.LUNGE_CTRL_UPDATE n) = 1 ∧ t.dev.get (R.LUNGE_STATUS_UPD_LATE n) = 1 ∧
      t.dev.lunge n = { s.dev.lunge n with latched := some (s.dev.get (R.LUNGE_TARGET n), s.dev.get (R.LUNGE_ACCEL n), s.dev.get (R.LUNGE_STEP n), 2) } ∧
      KeepsRegs [R.LUNGE_CTRL_UPDATE n, R.LUNGE_STATUS_UPD_LATE n] s t := by
  have hne : (R.LUNGE_CTRL_UPDATE n).key ≠ (R.LUNGE_STATUS_UPD_LATE n).key := by
    simp only [Fld.key, R.LUNGE_CTRL_UPDATE, R.LUNGE_STATUS_UPD_LATE]; omega
  refine ⟨_, exec_lungeUpdate hw, ?_⟩
  rw [State.on, Dev.lungeUpdate_closed _ _ h]
  refine ⟨(Dev.get_set_ne _ _ _ _ hne).trans (Dev.get_set_same ..), Dev.get_set_same .., Dev.lunge_setLunge_same .., rfl, rfl, fun _ hg => ?_⟩
  exact (Dev.get_set_ne _ _ _ _ (hg _ (by simp))).trans (Dev.get_set_ne _ _ _ _ (hg _ (by simp)))

/-- What a write that changes EN to `v` does: the change waits for the edge as `pend` (R56, R57). -/
def Dev.lungeEnChange (d : Dev) (n v : Nat) (pend : Bool) : Dev := (d.set (R.LUNGE_CTRL_EN n) v).setLunge n { d.lunge n with enPend := some pend }

theorem Dev.lungeEnable_change (d : Dev) (n : Nat) (h : d.on (R.LUNGE_CTRL_EN n) = false) : d.lungeEnable n = d.lungeEnChange n 1 true :=
  if_neg (by simp [h])

theorem Dev.lungeDisable_change (d : Dev) (n : Nat) (h : d.on (R.LUNGE_CTRL_EN n) = true) : d.lungeDisable n = d.lungeEnChange n 0 false := if_pos h

theorem Dev.lungeEnable_same (d : Dev) (n : Nat) (h : d.on (R.LUNGE_CTRL_EN n) = true) : d.lungeEnable n = d := if_pos h

theorem Dev.lungeDisable_same (d : Dev) (n : Nat) (h : d.on (R.LUNGE_CTRL_EN n) = false) : d.lungeDisable n = d := if_neg (by simp [h])

theorem lungeEnChange_effect (s : State) (n v : Nat) (pend : Bool) :
    (s.dev.lungeEnChange n v pend).get (R.LUNGE_CTRL_EN n) = v % 2 ∧
      (s.dev.lungeEnChange n v pend).lunge n = { s.dev.lunge n with enPend := some pend } ∧
      (∀ k, k ≠ n → (s.dev.lungeEnChange n v pend).lunge k = s.dev.lunge k) ∧
      KeepsRegs [R.LUNGE_CTRL_EN n] s (s.on fun d => d.lungeEnChange n v pend) :=
  ⟨Dev.get_set_same .., Dev.lunge_setLunge_same .., fun k hk => Dev.lunge_setLunge_ne _ n k _ hk,
    keepsRegs_on fun _ hg => Dev.get_set_ne _ _ _ _ (hg _ List.mem_cons_self)⟩

end

/-! ### Registers apart -/

theorem EventFrame.stride {d d' : Dev} (h : EventFrame d d') : d'.stride = d.stride := by rw [h.rest]

/-- The registers of the Lunge units lie outside the block of events and are no flag of a gait. -/
theorem lungeReg_apart (f : Fld) (hlo : 0x60400 * 32 ≤ f.key) (hhi : f.key < 0x60500 * 32) :
    block f ≠ 3 ∧ ∀ g < 4, f.key ≠ (R.GAIT_STATUS_LUNGE_DONE g).key := by
  refine ⟨by unfold block; omega, fun g hg => ?_⟩
  have hflag : (R.GAIT_STATUS_LUNGE_DONE g).key = (0x60110 + g * 0x20) * 32 + 3 := rfl
  omega

theorem Dev.get_lungeGait_lt (d : Dev) (n : Nat) : d.get (R.LUNGE_CTRL_GAIT n) < 4 := d.get_lt _

/-! ### One step of R53 -/

/-- The velocity after a step. -/
def Dev.lungeNewVel (d : Dev) (n : Nat) : Int :=
  lungeVel (toSigned 40 (d.get (R.LUNGE_VEL n))) (toSigned 40 (d.lunge n).takenTarget) (d.lunge n).takenAccel

/-- The unit moved by one step, before LUNGE_DONE. -/
def Dev.lungeMoved (d : Dev) (n : Nat) : Dev :=
  ((d.set (R.LUNGE_VEL n) (ofSigned 40 (d.lungeNewVel n))).set (R.LUNGE_POS n)
    (d.get (R.LUNGE_POS n) + ofSigned 40 (d.lungeNewVel n) + (d.lunge n).takenStep)).setLunge n { d.lunge n with takenStep := 0 }

/-- A step is the move, and LUNGE_DONE of the unit's gait where the target is reached (R59). -/
theorem Dev.lungeStepOnce_cases (d : Dev) (n : Nat) :
    d.lungeStepOnce n = d.lungeMoved n ∨
    d.lungeStepOnce n = (d.lungeMoved n).gaitCause (d.get (R.LUNGE_CTRL_GAIT n)) (R.GAIT_STATUS_LUNGE_DONE (d.get (R.LUNGE_CTRL_GAIT n))) 3 := by
  unfold Dev.lungeStepOnce
  extract_lets
  split
  · exact .inr rfl
  · exact .inl rfl

theorem Dev.lungeStepOnce_stride (d : Dev) (n : Nat) : (d.lungeStepOnce n).stride = (d.lungeMoved n).stride := by
  have hg := d.get_lungeGait_lt n
  obtain h | h := d.lungeStepOnce_cases n <;> rw [h]
  rw [Dev.gaitCause, (EventFrame.cause _ _ _ _ (by omega)).stride, Dev.set_stride]

theorem Dev.get_lungeStepOnce (d : Dev) (n : Nat) (f : Fld) (hlo : 0x60400 * 32 ≤ f.key) (hhi : f.key < 0x60500 * 32) :
    (d.lungeStepOnce n).get f = (d.lungeMoved n).get f := by
  have hg := d.get_lungeGait_lt n
  obtain ⟨hblock, hflag⟩ := lungeReg_apart f hlo hhi
  obtain h | h := d.lungeStepOnce_cases n <;> rw [h]
  rw [Dev.gaitCause, Dev.cause_get_ne _ _ _ _ _ (by omega) hblock (hflag _ hg)]

/-! ### An edge of a unit with no UPDATE waiting -/

theorem Dev.lungeTake_none (d : Dev) (n : Nat) (h : (d.lunge n).latched = none) : d.lungeTake n = d := by simp [Dev.lungeTake, h]

/-- AT_TARGET is the only register that the end of an edge shows. -/
theorem Dev.get_lungeShow_ne (d : Dev) (n : Nat) (g : Fld) (h : g.key ≠ (R.LUNGE_STATUS_AT_TARGET n).key) : (d.lungeShow n).get g = d.get g :=
  Dev.get_set_ne _ _ _ _ h

theorem Dev.get_lungeShow_atTarget (d : Dev) (n : Nat) :
    (d.lungeShow n).get (R.LUNGE_STATUS_AT_TARGET n) = if toSigned 40 (d.get (R.LUNGE_VEL n)) = toSigned 40 (d.lunge n).takenTarget then 1 else 0 := by
  have hvel : d.get (R.LUNGE_VEL n) < 2 ^ 40 := d.get_lt _
  simp only [Dev.lungeShow, Dev.get_set_same, toSigned_eq_iff, Nat.mod_eq_of_lt hvel]
  split <;> rfl

section
variable (d : Dev) (n : Nat) (hlatched : (d.lunge n).latched = none)
include hlatched

theorem Dev.lungeEdge_step (hen : (d.lunge n).enPend = none) (hon : d.on (R.LUNGE_STATUS_ACTIVE n) = true) :
    d.lungeEdge n = (d.lungeStepOnce n).lungeShow n := by
  simp only [Dev.lungeEdge, d.lungeTake_none n hlatched, hen, hon, if_pos]

/-- The first edge of a unit (R56). -/
theorem Dev.lungeEdge_begin (hen : (d.lunge n).enPend = some true) :
    d.lungeEdge n = ((((d.setLunge n { d.lunge n with enPend := none }).set (R.LUNGE_POS n) (d.get (R.LUNGE_POS_SET n))).set
      (R.LUNGE_VEL n) 0).set (R.LUNGE_STATUS_ACTIVE n) 1).lungeShow n := by
  simp only [Dev.lungeEdge, d.lungeTake_none n hlatched, hen]

/-- The last edge of a unit (R57). -/
theorem Dev.lungeEdge_end (hen : (d.lunge n).enPend = some false) :
    d.lungeEdge n = (((d.setLunge n { d.lunge n with enPend := none }).set (R.LUNGE_VEL n) 0).set (R.LUNGE_STATUS_ACTIVE n) 0).lungeShow n := by
  simp only [Dev.lungeEdge, d.lungeTake_none n hlatched, hen]

end

/-! ### What each kind of edge leaves -/

/-- The registers of one unit that an edge changes, in the order of their places. -/
theorem lungeKeys_rise (n : Nat) :
    (R.LUNGE_POS n).key < (R.LUNGE_VEL n).key ∧ (R.LUNGE_VEL n).key < (R.LUNGE_STATUS_ACTIVE n).key ∧
      (R.LUNGE_STATUS_ACTIVE n).key < (R.LUNGE_STATUS_AT_TARGET n).key := by
  simp only [Fld.key, R.LUNGE_POS, R.LUNGE_VEL, R.LUNGE_STATUS_ACTIVE, R.LUNGE_STATUS_AT_TARGET]
  omega

theorem Dev.get_lungeMoved_vel (d : Dev) (n : Nat) : (d.lungeMoved n).get (R.LUNGE_VEL n) = ofSigned 40 (d.lungeNewVel n) := by
  obtain ⟨hpv, -, -⟩ := lungeKeys_rise n
  rw [Dev.lungeMoved, Dev.get_setLunge, Dev.get_set_ne _ _ _ _ (Nat.ne_of_gt hpv), Dev.get_set_same]
  exact Nat.mod_eq_of_lt (ofSigned_lt 40 _)

theorem Dev.get_lungeMoved_pos (d : Dev) (n : Nat) : (d.lungeMoved n).get (R.LUNGE_POS n) =
    (d.get (R.LUNGE_POS n) + ofSigned 40 (d.lungeNewVel n) + (d.lunge n).takenStep) % 2 ^ 40 :=
  Dev.get_set_same ..

/-- The new velocity fits its register. -/
theorem Dev.toSigned_lungeNewVel (d : Dev) (n : Nat) : toSigned 40 (ofSigned 40 (d.lungeNewVel n)) = d.lungeNewVel n := by
  have hrange : ∀ v, -2 ^ 39 ≤ toSigned 40 v ∧ toSigned 40 v < 2 ^ 39 := fun v => toSigned_eq_toInt 40 v ▸ ⟨BitVec.le_toInt _, BitVec.toInt_lt⟩
  obtain ⟨hvlo, hvhi⟩ := hrange (d.get (R.LUNGE_VEL n))
  obtain ⟨htlo, hthi⟩ := hrange (d.lunge n).takenTarget
  obtain ⟨hlo, hhi⟩ := lungeVel_between (toSigned 40 (d.get (R.LUNGE_VEL n))) (toSigned 40 (d.lunge n).takenTarget) (d.lunge n).takenAccel (by omega)
  exact toSigned_ofSigned 40 _ (by decide) (Int.le_trans (Int.le_min.mpr ⟨hvlo, htlo⟩) hlo) (Int.lt_of_le_of_lt hhi (Int.max_lt.mpr ⟨hvhi, hthi⟩))

/-- An edge with a step: velocity and position move (R53), AT_TARGET follows (R71), the step is used up (R54). -/
theorem Dev.lungeEdge_step_effect (d : Dev) (n : Fin 4) (hlatched : (d.lunge n).latched = none) (hen : (d.lunge n).enPend = none)
    (hon : d.on (R.LUNGE_STATUS_ACTIVE n) = true) :
    (d.lungeEdge n).get (R.LUNGE_VEL n) = ofSigned 40 (d.lungeNewVel n) ∧
    (d.lungeEdge n).get (R.LUNGE_POS n) = (d.get (R.LUNGE_POS n) + ofSigned 40 (d.lungeNewVel n) + (d.lunge n).takenStep) % 2 ^ 40 ∧
    (d.lungeEdge n).get (R.LUNGE_STATUS_AT_TARGET n) = (if d.lungeNewVel n = toSigned 40 (d.lunge n).takenTarget then 1 else 0) ∧
    ((d.lungeEdge n).lunge n).takenStep = 0 := by
  obtain ⟨hpv, hva, hat⟩ := lungeKeys_rise n
  have hlo : 0x60400 * 32 ≤ (R.LUNGE_POS n).key := by simp only [Fld.key, R.LUNGE_POS]; omega
  have hhi : (R.LUNGE_VEL n).key < 0x60500 * 32 := by simp only [Fld.key, R.LUNGE_VEL]; omega
  have hvel : (d.lungeStepOnce n).get (R.LUNGE_VEL n) = ofSigned 40 (d.lungeNewVel n) :=
    (d.get_lungeStepOnce n _ (by omega) hhi).trans (d.get_lungeMoved_vel n)
  have hlunge : (d.lungeStepOnce n).lunge n = { d.lunge n with takenStep := 0 } := by
    rw [Dev.lunge, d.lungeStepOnce_stride n]
    exact Dev.lunge_setLunge_same ..
  rw [d.lungeEdge_step n hlatched hen hon]
  refine ⟨?_, ?_, ?_, ?_⟩
  · rw [Dev.get_lungeShow_ne _ _ _ (by omega), hvel]
  · rw [Dev.get_lungeShow_ne _ _ _ (by omega), d.get_lungeStepOnce n _ hlo (by omega), d.get_lungeMoved_pos n]
  · rw [Dev.get_lungeShow_atTarget, hvel, hlunge, d.toSigned_lungeNewVel n]
  · exact congrArg LungeSt.takenStep hlunge

theorem Dev.lungeEdge_begin_effect (d : Dev) (n : Nat) (hlatched : (d.lunge n).latched = none) (hen : (d.lunge n).enPend = some true) :
    (d.lungeEdge n).get (R.LUNGE_POS n) = d.get (R.LUNGE_POS_SET n) ∧ (d.lungeEdge n).get (R.LUNGE_VEL n) = 0 ∧
    (d.lungeEdge n).get (R.LUNGE_STATUS_ACTIVE n) = 1 := by
  obtain ⟨hpv, hva, hat⟩ := lungeKeys_rise n
  rw [d.lungeEdge_begin n hlatched hen]
  refine ⟨?_, ?_, ?_⟩ <;> rw [Dev.get_lungeShow_ne _ _ _ (by omega)]
  · rw [Dev.get_set_ne _ _ _ _ (by omega), Dev.get_set_ne _ _ _ _ (by omega), Dev.get_set_same]
    exact Nat.mod_eq_of_lt (d.get_lt (R.LUNGE_POS_SET n))
  · rw [Dev.get_set_ne _ _ _ _ (by omega), Dev.get_set_same]; rfl
  · exact Dev.get_set_same ..

theorem Dev.lungeEdge_end_effect (d : Dev) (n : Nat) (hlatched : (d.lunge n).latched = none) (hen : (d.lunge n).enPend = some false) :
    (d.lungeEdge n).get (R.LUNGE_POS n) = d.get (R.LUNGE_POS n) ∧ (d.lungeEdge n).get (R.LUNGE_VEL n) = 0 ∧
    (d.lungeEdge n).get (R.LUNGE_STATUS_ACTIVE n) = 0 := by
  obtain ⟨hpv, hva, hat⟩ := lungeKeys_rise n
  rw [d.lungeEdge_end n hlatched hen]
  refine ⟨?_, ?_, ?_⟩ <;> rw [Dev.get_lungeShow_ne _ _ _ (by omega)]
  · rw [Dev.get_set_ne _ _ _ _ (by omega), Dev.get_set_ne _ _ _ _ (by omega), Dev.get_setLunge]
  · rw [Dev.get_set_ne _ _ _ _ (by omega), Dev.get_set_same]; rfl
  · exact Dev.get_set_same ..

/-- Settles O9: the commands by their effects, an edge by `Dev.lungeEdge_step_effect`, `_begin_effect` and `_end_effect`. -/
theorem lungeUnits : Obligations.LungeUnits := by
  refine ⟨fun w n s hw => exec_lungeUpdate_open hw, fun w n s hw => exec_lungeUpdate_closed hw, fun w n s hw hoff => ?_, fun w n s hw hon => ?_,
    fun w n s hw => ⟨fun hon => ?_, fun hoff => ?_⟩, fun d n v t v' hlatched hen hon hv ht hv' => ?_, fun d n => d.lungeEdge_begin_effect n,
    fun d n => d.lungeEdge_end_effect n⟩
  · refine ⟨_, exec_lungeEnable hw, ?_⟩
    rw [State.on, Dev.lungeEnable_change _ _ hoff]
    exact lungeEnChange_effect s n 1 true
  · refine ⟨_, exec_lungeDisable hw, ?_⟩
    rw [State.on, Dev.lungeDisable_change _ _ hon]
    exact lungeEnChange_effect s n 0 false
  · rw [exec_lungeEnable hw, State.on, Dev.lungeEnable_same _ _ hon]
  · rw [exec_lungeDisable hw, State.on, Dev.lungeDisable_same _ _ hoff]
  · obtain ⟨hvel, hpos, hat, hstep⟩ := d.lungeEdge_step_effect n hlatched hen hon
    rw [hvel, d.toSigned_lungeNewVel n] at hv'
    rw [hpos, hat, hv', ← ht]
    have hnew : d.lungeNewVel n = lungeVel v t (d.lunge n).takenAccel := by rw [Dev.lungeNewVel, ← hv, ← ht]
    rw [hnew]
    refine ⟨fun ha => ?_, fun ha => lungeVel_rising _ _ _ (by omega), fun ha => lungeVel_falling _ _ _ (by omega), rfl, rfl, hstep⟩
    rw [ha]; exact lungeVel_atOnce v t

end Sys2Proof.Machine
end

section
/-! PROOFS. The fence, the finisher, the edge and the output latches of the stride (R27, R29, R38, R40, R41, R44, R48, R134, R403, R737). -/

namespace Sys2Proof.Machine
open Sys2Proof Sys2Proof.Safety

/-! ### The held stores of lockstep pairs (R403) -/

theorem State.lsStride_idle (s : State) (h : s.dev.strideLive = false) : s.lsStride = s := if_neg (by simp [h])

theorem State.lsDue_noneHeld (s : State) (e t fuel : Nat) (h : (s.dev.engine e).held = []) : s.lsDue e t fuel = s := by
  cases fuel with
  | zero => rfl
  | succ fuel => exact if_neg (by simp [h])

theorem State.lsUntil_noneHeld (s : State) (t : Nat) (h : ∀ e, (s.dev.engine e).held = []) : s.lsUntil t = s := by
  unfold State.lsUntil
  induction List.range 24 with
  | nil => rfl
  | cons i is ih => rw [List.foldl_cons, s.lsDue_noneHeld (2 * i) t 4 (h _), ih]

theorem State.lsStride_noneHeld (s : State) (h : ∀ e, (s.dev.engine e).held = []) : s.lsStride = s := by
  unfold State.lsStride
  extract_lets
  split
  · exact s.lsUntil_noneHeld _ h
  · rfl

/-! ### The fence -/

theorem State.fence_idle (s : State) (h : s.dev.strideLive = false) : s.fence = s := if_pos (by simp [h])

/-- The fence of an index acts once (R44). -/
theorem State.fence_passed (s : State) (h : s.dev.stride.fenceAt.isSome = true) : s.fence = s := if_pos (by simp [h])

theorem State.fence_acts (s : State) (h : s.dev.strideLive = true) (hf : s.dev.stride.fenceAt = none) :
    s.fence = (s.on fun d => d.passStride (d.fenceNs d.stride.next * 2 ^ 32)).fenceNow s.dev.stride.next (s.dev.fenceNs s.dev.stride.next) := by
  rw [State.fence, if_neg (by simp [h, hf]), State.on, State.on]

/-! ### The finisher -/

theorem State.finisher_finished (s : State) (g n : Nat) (halted : List Nat) : (s.finisher g n halted).dev.stride.finished.contains g = true :=
  by simp [State.finisher, Dev.withStride]

theorem State.finisherRow_acts (s : State) (g : Nat) (h : s.dev.strideLive = true) (hf : s.dev.stride.fenceAt.isSome = true)
    (hg : s.dev.gaitEdge g s.dev.stride.next = true) (hn : s.dev.stride.finished.contains g = false) :
    s.finisherRow g = s.finisher g s.dev.stride.next s.dev.haltedRegions := if_pos (by rw [h, hf, hg, hn]; rfl)

theorem State.finisherRow_idle (s : State) (g : Nat)
    (h : (s.dev.strideLive && s.dev.stride.fenceAt.isSome && s.dev.gaitEdge g s.dev.stride.next && !s.dev.stride.finished.contains g) = false) :
    s.finisherRow g = s := if_neg (by rw [h]; decide)

/-! ### The edge -/

theorem State.edge_idle (s : State) (pins : BitVec 96) (h : s.dev.strideLive = false) : s.edge pins = s := if_pos (by simp [h])

/-- The edge acts at E(n), after its fence. -/
theorem State.edge_live (s u v : State) (pins : BitVec 96) (h : s.dev.strideLive = true) (hu : u = s.fence)
    (hv : v = u.on (fun d => (d.passStride (d.edgeNs d.stride.next * 2 ^ 32)).withPins pins)) :
    s.edge pins = v.edgeNow u.dev.stride.next (u.dev.edgeNs u.dev.stride.next) (v.dev.strideBack (u.dev.edgeNs u.dev.stride.next * 2 ^ 32)) false := by
  subst hu hv
  rw [State.edge, if_neg (by simp [h])]
  simp only [State.on]

/-- With the stride stopped every region opens; registers and stride stay as they are. -/
theorem Dev.openAll_rest (d : Dev) : d.openAll = { d with img := d.openAll.img } := by
  unfold Dev.openAll
  generalize d.regionList = rs
  induction rs generalizing d with
  | nil => rfl
  | cons r rs ih => exact ih (d.setRegion r { d.region r with opened := true })

/-- What an edge leaves in the stride (R38, R40, R67). -/
theorem Dev.edgeDone_effect (d : Dev) (n back : Nat) :
    (d.edgeDone n back).get R.STRIDE_INDEX = n % 2 ^ 40 ∧ (d.edgeDone n back).get R.STRIDE_STATUS_PENDING = 0 ∧
    (d.edgeDone n back).get R.STRIDE_STATUS_RUNNING = (if d.stride.stopPend then 0 else 1) ∧ (d.edgeDone n back).stride.last = n ∧
    (d.edgeDone n back).stride.next = n + 1 ∧ (d.edgeDone n back).stride.fenceAt = none ∧ (d.edgeDone n back).stride.stopPend = false := by
  unfold Dev.edgeDone
  extract_lets d0 gs d1 d2 stop ovr d3 d4 d5
  have hstop : stop = d.stride.stopPend := by unfold stop d0; rw [(FabFrame.fabSync d).rest]
  have h5 : d5.regs = d4.regs ∧ d5.stride = d4.stride := by
    unfold d5
    split
    · rw [Dev.openAll_rest]; exact ⟨rfl, rfl⟩
    · exact ⟨rfl, rfl⟩
  obtain ⟨hregs, hstride⟩ := h5
  have hget : ∀ f : Fld, f.key ≠ R.STRIDE_NEXT.key →
      d5.get f = ((d3.set R.STRIDE_STATUS_RUNNING (if stop then 0 else 1)).set R.STRIDE_STATUS_PENDING 0).get f :=
    fun f hf => (Dev.get_congr hregs f).trans (Dev.get_set_ne _ _ _ _ hf)
  refine ⟨?_, ?_, ?_, ?_⟩
  · refine (hget _ (by decide)).trans ?_
    rw [Dev.get_set_ne _ _ _ _ (by decide), Dev.get_set_ne _ _ _ _ (by decide), Dev.get_withStride, Dev.get_set_same]
    rfl
  · exact (hget _ (by decide)).trans (Dev.get_set_same ..)
  · refine (hget _ (by decide)).trans ?_
    rw [Dev.get_set_ne _ _ _ _ (by decide), Dev.get_set_same, hstop]
    split <;> rfl
  · simp only [hstride]
    exact ⟨rfl, rfl, rfl, rfl⟩

/-! ### The output latches -/

theorem Dev.outputLatch_none (d : Dev) (b : Nat) (h : d.latchesOf b = []) : d.outputLatch b = d := by
  simp only [Dev.outputLatch, h]

/-- At the latch instant the values drive their pins in turn, and wait no more. -/
theorem Dev.outputLatch_some (d d1 : Dev) (b : Nat) (y : LatchRead) (r : List LatchRead) (h : d.latchesOf b = y :: r)
    (hd : d1 = d.passStride (((d.edgeNs y.index : Int) * 4 + toSigned 16 y.phase).toNat * 2 ^ 30)) :
    d.outputLatch b = (y :: r).foldl (fun (a : Dev) x => (a.driveLatch x.bind x.value).withStride (fun z => { z with latch := z.latch.erase x }))
      (d1.passNs ((y :: r).foldl (fun m x => max m x.ready) 0 - d1.now)) := by
  subst hd
  simp only [Dev.outputLatch, h]

/-- The values that wait for a block. -/
def Dev.latchesWaiting (d : Dev) (b : Nat) : List LatchRead := d.stride.latch.filter (fun x => d.get (R.STIR_LBIND_PIN x.bind) / 24 == b)

/-- Those of the earliest fence are the ones with the first one's index. -/
theorem Dev.latchesOf_of_waiting (d : Dev) (b : Nat) (y : LatchRead) (r : List LatchRead) (h : d.latchesWaiting b = y :: r) :
    d.latchesOf b = y :: r.filter (fun x => x.index == y.index) := by
  rw [Dev.latchesWaiting] at h
  rw [Dev.latchesOf, h]
  exact List.filter_cons_of_pos (by simp)

theorem Dev.latchesOf_mem (d : Dev) (b : Nat) (y x : LatchRead) (r : List LatchRead) (h : d.latchesOf b = y :: r) (hx : x ∈ y :: r) :
    x.index = y.index ∧ x ∈ d.stride.latch ∧ d.get (R.STIR_LBIND_PIN x.bind) / 24 = b := by
  cases hw : d.latchesWaiting b with
  | nil =>
    rw [Dev.latchesWaiting] at hw
    rw [Dev.latchesOf, hw] at h
    exact absurd h (List.cons_ne_nil y r).symm
  | cons z q =>
    rw [d.latchesOf_of_waiting b z q hw] at h
    obtain ⟨rfl, rfl⟩ := List.cons.inj h
    have hindex : x.index = z.index := by
      obtain rfl | hx := List.mem_cons.mp hx
      · rfl
      · simpa using (List.mem_filter.mp hx).2
    have hmem : x ∈ d.latchesWaiting b := hw ▸ (List.cons_sublist_cons.mpr List.filter_sublist).subset hx
    simpa [Dev.latchesWaiting] using And.intro hindex (List.mem_filter.mp hmem)

/-- One pin of a latch binding whose first pin is `p` takes bit `j` of the value `v`. -/
def Dev.drivePin (v p : Nat) (a : Dev) (j : Nat) : Dev :=
  let m := BitVec.ofNat 96 (2 ^ (p + j))
  let a1 := { a with io := { a.io with latched := a.io.latched ||| m, latchLv := if v.testBit j then a.io.latchLv ||| m else a.io.latchLv &&& ~~~ m } }
  if a1.pinLevel (p + j) != a.pinLevel (p + j) then a1.emit (.pin (p + j) (a1.pinLevel (p + j))) else a1

theorem Dev.driveLatch_eq (d : Dev) (i v : Nat) :
    d.driveLatch i v = (List.range (d.get (R.STIR_LBIND_COUNT_M1 i) + 1)).foldl (Dev.drivePin v (d.get (R.STIR_LBIND_PIN i))) d := rfl

theorem getLsbD_pinMask (p q : Nat) (hp : p < 96) : (BitVec.ofNat 96 (2 ^ q)).getLsbD p = decide (q = p) := by
  rw [BitVec.getLsbD_ofNat, Nat.testBit_two_pow, decide_eq_true hp, Bool.true_and]

theorem Dev.drivePin_io (v p : Nat) (a : Dev) (j : Nat) :
    (Dev.drivePin v p a j).io.latched = a.io.latched ||| BitVec.ofNat 96 (2 ^ (p + j)) ∧
    (Dev.drivePin v p a j).io.latchLv =
      if v.testBit j then a.io.latchLv ||| BitVec.ofNat 96 (2 ^ (p + j)) else a.io.latchLv &&& ~~~ BitVec.ofNat 96 (2 ^ (p + j)) := by
  unfold Dev.drivePin
  extract_lets
  split <;> exact ⟨rfl, rfl⟩

theorem Dev.drivePin_latched (v p : Nat) (a : Dev) (j q : Nat) (hq : q < 96) :
    (Dev.drivePin v p a j).io.latched.getLsbD q = (a.io.latched.getLsbD q || decide (p + j = q)) := by
  rw [(Dev.drivePin_io v p a j).1, BitVec.getLsbD_or, getLsbD_pinMask q (p + j) hq]

theorem Dev.drivePin_latchLv (v p : Nat) (a : Dev) (j q : Nat) (hq : q < 96) :
    (Dev.drivePin v p a j).io.latchLv.getLsbD q = if p + j = q then v.testBit j else a.io.latchLv.getLsbD q := by
  rw [(Dev.drivePin_io v p a j).2]
  cases v.testBit j
  · simp only [Bool.false_eq_true, if_false, BitVec.getLsbD_and, BitVec.getLsbD_not, getLsbD_pinMask q (p + j) hq]
    split <;> simp [*]
  · simp only [if_true, BitVec.getLsbD_or, getLsbD_pinMask q (p + j) hq]
    split <;> simp [*]

/-- After the pins of a binding up to the `k`-th, each of them holds its bit. -/
theorem Dev.foldl_drivePin (v p : Nat) (d : Dev) (k j : Nat) (hj : j < k) (hp : p + j < 96) :
    ((List.range k).foldl (Dev.drivePin v p) d).io.latched.getLsbD (p + j) = true ∧
      ((List.range k).foldl (Dev.drivePin v p) d).io.latchLv.getLsbD (p + j) = v.testBit j := by
  induction k with
  | zero => exact absurd hj (Nat.not_lt_zero j)
  | succ k ih =>
    rw [List.range_succ, List.foldl_append, List.foldl_cons, List.foldl_nil, Dev.drivePin_latched _ _ _ _ _ hp, Dev.drivePin_latchLv _ _ _ _ _ hp]
    by_cases hk : j = k
    · simp [hk]
    · obtain ⟨hlatched, hlevel⟩ := ih (by omega)
      rw [hlatched, if_neg (by omega), hlevel]
      exact ⟨rfl, rfl⟩

/-! ### The rows -/

theorem exec_strideEdge (pins : BitVec 96) (s : State) : exec (.strideEdge pins) s = .next (s.lsStride.edge pins) := rfl
theorem exec_strideFence (s : State) : exec .strideFence s = .next s.lsStride.fence := rfl
theorem exec_finisher (g : Fin 4) (s : State) : exec (.finisher g) s = .next (s.finisherRow g) := rfl
theorem exec_outputLatch (b : Fin 4) (s : State) : exec (.outputLatch b) s = .next (s.on fun d => d.outputLatch b) := rfl

/-- Settles O8, row by row; what an edge leaves by `Dev.edgeDone_effect`, the pins of a binding by `Dev.foldl_drivePin`. -/
theorem strideEdges : Obligations.StrideEdges := by
  refine ⟨fun pins s h => ?_, State.lsStride_noneHeld, fun pins s u v h hu hv => ?_, fun s n at' back skip h => ?_, Dev.edgeDone_effect,
    fun s h => ?_, fun s h => ?_, fun s u hu h hf => ?_, fun g s h hf hg hn => ⟨?_, s.finisher_finished ..⟩, fun g s h => ?_, fun b s h => ?_,
    fun b s y r d1 h hd => ?_, fun d b y r h x hx => d.latchesOf_mem b y x r h hx, fun d i v j hj hp => ?_⟩
  · rw [exec_strideEdge, s.lsStride_idle h, s.edge_idle pins h]
  · rw [exec_strideEdge, s.lsStride.edge_live u v pins h hu hv]
  · rw [State.edgeNow, if_pos h]
  · rw [exec_strideFence, s.lsStride_idle h, s.fence_idle h]
  · rw [exec_strideFence, State.fence_passed _ h]
  · rw [exec_strideFence, ← hu, u.fence_acts h hf]
  · rw [exec_finisher, s.finisherRow_acts g h hf hg hn]
  · rw [exec_finisher, s.finisherRow_idle g h]
  · rw [exec_outputLatch, State.on, Dev.outputLatch_none _ _ h]
  · rw [exec_outputLatch, State.on, Dev.outputLatch_some _ d1 _ y r h hd]; rfl
  · rw [Dev.driveLatch_eq]
    exact d.foldl_drivePin v _ _ j (by omega) hp

end Sys2Proof.Machine
end

section
/-! PROOFS. Process images: commits (R131, R132, R157, R606), the results and runs of mapping rules (R142 to R146), and their cells (R143, R144, R736). -/

namespace Sys2Proof

/-- A table with one value for every key of a list holds it there. -/
theorem Tab.find?_map_const {α : Type} (ks : List Nat) (x : α) {k : Nat} (h : k ∈ ks) : Tab.find? (ks.map (fun i => (i, x))) k = some x := by
  induction ks with
  | nil => cases h
  | cons j ks ih =>
    rw [List.map_cons, Tab.find?]
    split
    · rfl
    · next hne => exact ih ((List.mem_cons.mp h).resolve_left (Ne.symm hne))

end Sys2Proof

namespace Sys2Proof.Machine
open Sys2Proof Sys2Proof.Safety

/-! ### Fields of a word -/

theorem bits_eq (v lo w : Nat) : bits v lo w = v / 2 ^ lo % 2 ^ w := by rw [bits, Nat.shiftRight_eq_div_pow]

/-- A field that reaches to the end of a value holds all that lies above its low end. -/
theorem bits_eq_div_of_lt {v lo w : Nat} (h : v < 2 ^ (lo + w)) : bits v lo w = v / 2 ^ lo := by
  rw [bits_eq, Nat.mod_eq_of_lt (Nat.div_lt_of_lt_mul (Nat.pow_add 2 lo w ▸ h))]

/-- A field above the end of a value is 0. -/
theorem bits_eq_zero_of_lt {v lo w : Nat} (h : v < 2 ^ lo) : bits v lo w = 0 := by
  rw [bits_eq, Nat.div_eq_of_lt h, Nat.zero_mod]

/-- The highest bit of a word that is not below half its range. -/
theorem W32.testBit_top (v : W32) (h : 2 ^ 31 ≤ v.toNat) : v.toNat.testBit 31 = true := by
  have hv : v.toNat < 2 ^ 32 := v.isLt
  rw [Nat.testBit_eq_decide_div_mod_eq, decide_eq_true_eq]
  omega

/-! ### Commits -/

/-- Whether region `r` takes a commit of item `i` from an agent that may commit or not (R132). -/
def Dev.takesCommit (d : Dev) (r i : Nat) (may : Bool) : Bool :=
  may && (d.region r).opened && d.on (R.IMG_CFG_VALID r) && decide (i < d.get (R.IMG_CFG_ITEMS r))

theorem Dev.takesCommit_iff (d : Dev) (r i : Nat) (may : Bool) : d.takesCommit r i may = true ↔
    may = true ∧ (d.region r).opened = true ∧ d.on (R.IMG_CFG_VALID r) = true ∧ i < d.get (R.IMG_CFG_ITEMS r) := by
  simp [Dev.takesCommit, and_assoc]

/-- `Dev.commit` refuses under the contrary of `Dev.takesCommit`. -/
theorem Dev.refusesCommit_eq (d : Dev) (r i : Nat) (may : Bool) :
    (!(d.region r).opened || !may || !d.on (R.IMG_CFG_VALID r) || decide (d.get (R.IMG_CFG_ITEMS r) ≤ i)) = !d.takesCommit r i may := by
  simp only [Dev.takesCommit, Bool.not_and, ← Nat.not_lt, decide_not]
  rw [Bool.or_comm (!(d.region r).opened)]

theorem Dev.commit_refused {d : Dev} {r i : Nat} {may : Bool} (h : d.takesCommit r i may = false) (age : Nat) :
    d.commit r (some i) age may = d.set (R.IMG_FLAGS_COMMIT_REJ r) 1 :=
  if_pos ((d.refusesCommit_eq r i may).trans (by rw [h]; rfl))

theorem Dev.commit_item {d : Dev} {r i : Nat} {may : Bool} (h : d.takesCommit r i may = true) (age : Nat) :
    d.commit r (some i) age may = d.setRegion r { d.region r with committed := (d.region r).committed.put i (age % 256) } :=
  if_neg (by rw [Option.getD_some, d.refusesCommit_eq r i may, h]; decide)

/-- ALL is taken where item 0 is. -/
theorem Dev.commit_all {d : Dev} {r : Nat} {may : Bool} (h : d.takesCommit r 0 may = true) (age : Nat) :
    d.commit r none age may = d.setRegion r { d.region r with
      committed := (List.range (d.get (R.IMG_CFG_ITEMS r))).map (fun i => (i, age % 256)) } :=
  if_neg (by rw [Option.getD_none, d.refusesCommit_eq r 0 may, h]; decide)

/-- A commit that is taken gives the item its age, in place of any earlier one, and changes nothing else. -/
theorem commit_item_effect {s : State} {r i age : Nat} {may : Bool} (h : s.dev.takesCommit r i may = true) (hage : age < 256) :
    Tab.find? ((s.dev.commit r (some i) age may).region r).committed i = some age ∧
      (∀ j, j ≠ i → Tab.find? ((s.dev.commit r (some i) age may).region r).committed j = Tab.find? (s.dev.region r).committed j) ∧
      (∀ k, k ≠ r → (s.dev.commit r (some i) age may).region k = s.dev.region k) ∧
      OnlyRegs [] s { s with dev := { s.dev.commit r (some i) age may with img := s.dev.img } } := by
  rw [Dev.commit_item h, Nat.mod_eq_of_lt hage, Dev.region_setRegion_same]
  exact ⟨Tab.find?_put_same .., fun j hj => Tab.find?_put_ne _ _ _ _ hj, fun k hk => Dev.region_setRegion_ne _ _ _ _ hk, ⟨rfl, rfl, fun _ _ => rfl⟩, rfl⟩

/-- A commit that is refused sets COMMIT_REJ and no more. -/
theorem commit_refused_effect {s : State} {r i : Nat} {may : Bool} (h : s.dev.takesCommit r i may = false) (age : Nat) :
    (s.dev.commit r (some i) age may).get (R.IMG_FLAGS_COMMIT_REJ r) = 1 ∧
      OnlyRegs [R.IMG_FLAGS_COMMIT_REJ r] s { s with dev := s.dev.commit r (some i) age may } := by
  rw [Dev.commit_refused h]
  exact ⟨Dev.get_set_same .., .set s _ _ (List.mem_singleton_self _)⟩

theorem Dev.commit_all_committed {d : Dev} {r age i : Nat} {may : Bool} (h : d.takesCommit r 0 may = true) (hage : age < 256)
    (hi : i < d.get (R.IMG_CFG_ITEMS r)) : Tab.find? ((d.commit r none age may).region r).committed i = some age := by
  rw [Dev.commit_all h, Dev.region_setRegion_same, Nat.mod_eq_of_lt hage]
  exact Tab.find?_map_const _ _ (List.mem_range.mpr hi)

/-! ### The two ways to commit -/

/-- Whether a write of IMG_COMMIT may commit (R132). -/
def Dev.hostMayCommit (d : Dev) (w : Writer) (r : Nat) : Bool :=
  d.on (R.IMG_CFG_HOST_PROD r) && (d.region r).producer == .host && agentOf w == 12

theorem Dev.hostMayCommit_of_host (d : Dev) {w : Writer} {r : Nat} (hw : w = .pcie ∨ w = .qspi) (hprod : d.on (R.IMG_CFG_HOST_PROD r) = true)
    (hhost : (d.region r).producer = .host) : d.hostMayCommit w r = true := by
  rcases hw with rfl | rfl <;> simp [Dev.hostMayCommit, hprod, hhost, agentOf]

/-- A write that sets no reserved bit, nor ALL, commits one item. -/
theorem Dev.imgCommitWrite_eq (d : Dev) (w : Writer) (r : Nat) {v : Nat} (hv : v < 2 ^ 20) :
    d.imgCommitWrite w r v = d.commit r (some (v % 2 ^ 12)) (v / 2 ^ 12) (d.hostMayCommit w r) := by
  have hall : v.testBit 31 = false := Nat.testBit_lt_two_pow (by omega)
  have hrsv : bits v 20 11 = 0 := bits_eq_zero_of_lt hv
  have hage : bits v 12 8 = v / 2 ^ 12 := bits_eq_div_of_lt hv
  rw [Dev.imgCommitWrite, hall, hrsv, hage, bits_eq, Nat.pow_zero, Nat.div_one]
  rfl

theorem exec_imgCommit {w : Writer} {r : Fin 256} {v : W32} {s : State} (hw : Grants s w (R.IMG_COMMIT_ITEM r)) (hv : v.toNat < 2 ^ 20) :
    exec (.imgCommit w r v) s =
      .next (s.on fun d => d.commit r (some (v.toNat % 2 ^ 12)) (v.toNat / 2 ^ 12) (d.hostMayCommit w r)) := by
  have hexec : exec (.imgCommit w r v) s = .next (s.on fun d => d.imgCommitWrite w r v.toNat) := State.gate_next hw rfl
  simpa only [Dev.imgCommitWrite_eq _ _ _ hv] using hexec

/-- Whether an engine's team may commit (R132). -/
def Dev.engMayCommit (d : Dev) (e r : Nat) : Bool := (d.region r).producer == .team (e / 4)

theorem Dev.engMayCommit_of_team (d : Dev) {e r : Nat} (h : (d.region r).producer = .team (e / 4)) : d.engMayCommit e r = true := beq_iff_eq.mpr h

section
variable {e : Fin 48} {v : W32} {s : State}

theorem exec_engCommit : exec (.engCommit e v) s = .next (s.on fun d => d.engCommit e (v.toNat / 2 ^ 20 % 2 ^ 8)
    (if v.toNat.testBit 31 then none else some (v.toNat % 2 ^ 12)) (v.toNat / 2 ^ 12 % 2 ^ 8)) := by
  have hexec : exec (.engCommit e v) s = .next (s.on fun d => d.engCommitStore e v.toNat) := rfl
  simp only [hexec, Dev.engCommitStore, bits_eq, Nat.pow_zero, Nat.div_one]

/-- A held region takes no commit of an engine (R606). -/
theorem exec_engCommit_held (h : s.dev.heldRegion (v.toNat / 2 ^ 20 % 2 ^ 8) = true) : exec (.engCommit e v) s = .next s := by
  rw [exec_engCommit, State.on, Dev.engCommit, if_pos h]

theorem exec_engCommit_free (h : s.dev.heldRegion (v.toNat / 2 ^ 20 % 2 ^ 8) = false) :
    exec (.engCommit e v) s = .next (s.on fun d => d.commit (v.toNat / 2 ^ 20 % 2 ^ 8)
      (if v.toNat.testBit 31 then none else some (v.toNat % 2 ^ 12)) (v.toNat / 2 ^ 12 % 2 ^ 8) (d.engMayCommit e (v.toNat / 2 ^ 20 % 2 ^ 8))) := by
  rw [exec_engCommit, State.on, Dev.engCommit, if_neg (Bool.eq_false_iff.mp h)]
  rfl

theorem exec_engCommit_item (h : s.dev.heldRegion (v.toNat / 2 ^ 20 % 2 ^ 8) = false) (hv : v.toNat < 2 ^ 31) :
    exec (.engCommit e v) s = .next (s.on fun d => d.commit (v.toNat / 2 ^ 20 % 2 ^ 8) (some (v.toNat % 2 ^ 12))
      (v.toNat / 2 ^ 12 % 2 ^ 8) (d.engMayCommit e (v.toNat / 2 ^ 20 % 2 ^ 8))) := by
  rw [exec_engCommit_free h, Nat.testBit_lt_two_pow hv]
  rfl

theorem exec_engCommit_all (h : s.dev.heldRegion (v.toNat / 2 ^ 20 % 2 ^ 8) = false) (hv : 2 ^ 31 ≤ v.toNat) :
    exec (.engCommit e v) s = .next (s.on fun d => d.commit (v.toNat / 2 ^ 20 % 2 ^ 8) none
      (v.toNat / 2 ^ 12 % 2 ^ 8) (d.engMayCommit e (v.toNat / 2 ^ 20 % 2 ^ 8))) := by
  rw [exec_engCommit_free h, W32.testBit_top v hv]
  rfl

end

/-! ### Runs of a rule -/

/-- Rule `n` marked as run in a stride. -/
def Dev.startRule (d : Dev) (n stride : Nat) : Dev := d.setRuleRun n { started := true, delivered := false, stride := stride }

/-- The cells that carry the results of rule `n` (R143). -/
def Dev.ruleCells (d : Dev) (n : Nat) (x : MapRule) (r : List (List Byte × Nat)) : MapCells :=
  { rule := some n, src := d.executor x, region := x.dstRegion, item := x.dstItem, items := r, stride := d.workStride (d.get (R.IMG_CFG_GAIT x.dstRegion)) }

theorem State.runRule_unknown {s : State} {n : Nat} (h : s.dev.rule? n = none) : s.runRule n = s := by
  rw [State.runRule, h]

section
variable {s : State} {n : Nat} {x : MapRule} (hx : s.dev.rule? n = some x)
include hx

/-- A rule that has run in the stride, or whose gait's fence has acted, does not run. -/
theorem State.runRule_idle (h : (s.dev.ruleRun n).started = true ∨ s.dev.gaitClosed (s.dev.get (R.IMG_CFG_GAIT x.dstRegion)) = true) :
    s.runRule n = s := by
  simp only [State.runRule, hx]
  exact if_pos (by simpa using h)

variable {r : List (List Byte × Nat)} {d : Dev} (hfresh : (s.dev.ruleRun n).started = false)
  (hopen : s.dev.gaitClosed (s.dev.get (R.IMG_CFG_GAIT x.dstRegion)) = false) (hchain : x.chain = false) (hr : ruleResults s.mem s.dev x = (r, d))
include hfresh hopen hchain hr

/-- A rule whose executor does not own the destination sends its results as cells (R143). -/
theorem State.runRule_sent (howner : s.dev.executor x ≠ s.dev.regionOwner x.dstRegion) :
    s.runRule n = { s with dev := (d.startRule n (s.dev.workStride (s.dev.get (R.IMG_CFG_GAIT x.dstRegion)))).sendCells (s.dev.ruleCells n x r)
                             (s.dev.regionOwner x.dstRegion) (r.map (fun i => i.1.length)).sum } := by
  simp [State.runRule, Dev.startRule, Dev.ruleCells, hx, hfresh, hopen, hchain, hr, howner]

/-- A rule of a team that owns the destination writes and commits its results (R143). -/
theorem State.runRule_written (howner : s.dev.executor x = s.dev.regionOwner x.dstRegion) (hteam : s.dev.executor x < 12) :
    s.runRule n = (({ s with dev := d.startRule n (s.dev.workStride (s.dev.get (R.IMG_CFG_GAIT x.dstRegion))) } : State).deliverItems
      { Req.cells (s.dev.executor x) with port := 1 } x.dstRegion x.dstItem (s.dev.workStride (s.dev.get (R.IMG_CFG_GAIT x.dstRegion))) r).on
        (fun d => d.ruleDelivered n) := by
  simp [State.runRule, Dev.startRule, hx, hfresh, hopen, hchain, hr, ← howner, hteam]

end

/-! ### Lists of cells -/

theorem Dev.fin_setFin_same (d : Dev) (i : Nat) (x : FIn) : (d.setFin i x).fin i = x := Tab.getD_put_same ..

theorem Dev.fin_setFin_ne (d : Dev) (i j : Nat) (x : FIn) (h : j ≠ i) : (d.setFin i x).fin j = d.fin j := Tab.getD_put_ne _ _ _ _ _ h

/-- A list that leaves a port waits at its input behind the cells that wait there, and no other input changes (R736). -/
theorem Dev.sendCells_effect (d : Dev) (m : MapCells) (dst bytes : Nat) :
    (d.sendCells m dst bytes).img.cells = d.fabSync.img.cells ++ [{ m with id := d.fabSync.fab.nextId }] ∧
    ((d.sendCells m dst bytes).fin (cellPort m.src)).maps = (d.fabSync.fin (cellPort m.src)).maps ++
      (List.range (max 1 (cellCount bytes))).map (mapCell d.fabSync.fab.nextId (max 1 (cellCount bytes)) (cellPort m.src) (cellPort dst) bytes) ∧
    (∀ i, i ≠ cellPort m.src → (d.sendCells m dst bytes).fin i = d.fabSync.fin i) ∧ (d.sendCells m dst bytes).regs = d.fabSync.regs :=
  ⟨rfl, congrArg FIn.maps (d.fabSync.fin_setFin_same ..), fun i hi => d.fabSync.fin_setFin_ne _ i _ hi, rfl⟩

/-- A list of cells that is over is no longer among those on their way. -/
theorem Dev.dropList_gone (d : Dev) (c : MapCells) : ∀ x ∈ (d.dropList c).img.cells, x.id ≠ c.id := fun x hx => by
  simpa using (List.mem_filter.mp hx).2

theorem State.deliverCells_none {s : State} {dst : Nat} (h : ∀ c ∈ s.dev.img.cells, c.port.getD (s.dev.regionOwner c.region) ≠ dst) :
    s.deliverCells dst = s := by
  have hfind : s.dev.img.cells.find? (fun c => c.port.getD (s.dev.regionOwner c.region) == dst) = none :=
    List.find?_eq_none.mpr fun c hc => by simpa using h c hc
  simp only [State.deliverCells, hfind]

section
variable {s u : State} {dst : Nat} {c0 c : MapCells}
  (hfirst : s.dev.img.cells.find? (fun c => c.port.getD (s.dev.regionOwner c.region) == dst) = some c0)
  (hu : u = s.on (fun d => d.fabWait (fun x => (x.img.cells.find? (fun c => c.id == c0.id)).any (fun c => x.cellsThere c dst))))
  (hc : u.dev.img.cells.find? (fun c => c.id == c0.id) = some c)
include hfirst hu hc

theorem State.deliverCells_waiting (hthere : u.dev.cellsThere c dst = false) : s.deliverCells dst = u := by
  simp [State.deliverCells, hfirst, ← hu, hc, hthere]

/-- A list of which a cell was lost is taken away, and delivers nothing (R170). -/
theorem State.deliverCells_lost (hthere : u.dev.cellsThere c dst = true) (hmover : c.mover = none) (hlost : c.lost = true) :
    s.deliverCells dst = u.on (fun d => (d.dropCells c).dropList c) := by
  simp [State.deliverCells, hfirst, ← hu, hc, hthere, hmover, hlost]

/-- A list that is complete is taken away, written and committed. -/
theorem State.deliverCells_written (hthere : u.dev.cellsThere c dst = true) (hmover : c.mover = none) (hlost : c.lost = false)
    (hrule : c.rule = none) (hitems : c.items ≠ []) :
    s.deliverCells dst = (u.on (fun d => (d.dropCells c).dropList c)).deliverItems (Req.cells dst) c.region c.item c.stride c.items := by
  simp [State.deliverCells, hfirst, ← hu, hc, hthere, hmover, hlost, hrule, hitems]

end

/-! ### Results -/

/-- Results whose stride is over are dropped and refused (R144). -/
theorem State.deliverItems_late {s : State} {region stride : Nat} (hlive : s.dev.strideLive = true)
    (hstride : stride ≠ s.dev.workStride (s.dev.get (R.IMG_CFG_GAIT region))) (q : Req) (item : Nat) (l : List (List Byte × Nat)) :
    s.deliverItems q region item stride l =
      s.on (fun d => (d.set (R.IMG_FLAGS_WRITE_REJ region) 1).set (R.IMG_FLAGS_COMMIT_REJ region) 1) :=
  if_pos (by simp [hlive, hstride])

theorem Dev.get_writeRej_commitRej (d : Dev) (r : Nat) :
    ((d.set (R.IMG_FLAGS_WRITE_REJ r) 1).set (R.IMG_FLAGS_COMMIT_REJ r) 1).get (R.IMG_FLAGS_WRITE_REJ r) = 1 := by
  have hne : (R.IMG_FLAGS_WRITE_REJ r).key ≠ (R.IMG_FLAGS_COMMIT_REJ r).key := by
    simp only [Fld.key, R.IMG_FLAGS_WRITE_REJ, R.IMG_FLAGS_COMMIT_REJ]; omega
  exact (Dev.get_set_ne _ _ _ _ hne).trans (Dev.get_set_same ..)

theorem typeRange_le (ty : Nat) : (typeRange ty).1 ≤ (typeRange ty).2 := by
  unfold typeRange
  split <;> decide

/-- Saturation puts a value into the range of its type, and tells whether it lay outside (R146). -/
theorem saturate_spec (ty : Nat) (v : Int) :
    (typeRange ty).1 ≤ (saturate ty v).1 ∧ (saturate ty v).1 ≤ (typeRange ty).2 ∧
      ((saturate ty v).2 = false ↔ (typeRange ty).1 ≤ v ∧ v ≤ (typeRange ty).2) ∧ ((saturate ty v).2 = false → (saturate ty v).1 = v) := by
  have hrange := typeRange_le ty
  unfold saturate
  dsimp only
  split
  · next hlow => exact ⟨Int.le_refl _, hrange, iff_of_false nofun (by omega), nofun⟩
  · split
    · next hhigh => exact ⟨hrange, Int.le_refl _, iff_of_false nofun (by omega), nofun⟩
    · next hlow hhigh => exact ⟨by omega, by omega, iff_of_true rfl ⟨by omega, by omega⟩, fun _ => rfl⟩

theorem convertTo_bit (v : Int) : convertTo 0 v = (if v = 0 then 0 else 1, false) := if_pos rfl

theorem convertTo_of_ne {ty : Nat} (h : ty ≠ 0) (v : Int) : convertTo ty v = saturate ty v := if_neg h

/-- Settles O15: commits by `commit_item_effect` and `commit_refused_effect`, rules by the branches of `State.runRule`, lists of cells by those of
`State.deliverCells`, results by `State.deliverItems_late` and `saturate_spec`. -/
theorem imagesAndMapping : Obligations.ImagesAndMapping := by
  refine ⟨fun w r v s hw hport hv hprod hproducer hopened hvalid hitem => ?_, fun w r v s hw hv hrefused => ?_,
    fun e v r item age s hr hitem hage hv hheld hproducer hopened hvalid hlt => ?_,
    fun e v r age s hr hage hv hheld hproducer hopened hvalid hsome => ?_, fun e v r s hr hv hheld hrefused => ?_,
    fun e v s => exec_engCommit_held,
    fun n s hx => congrArg Host.Outcome.next (State.runRule_unknown hx), fun n x s hx h => congrArg Host.Outcome.next (State.runRule_idle hx h),
    fun n x s r d m hx hfresh hopen hchain hr howner hm => ?_, Dev.sendCells_effect,
    fun n x s r d hx hfresh hopen hchain hr howner hteam =>
      congrArg Host.Outcome.next (State.runRule_written hx hfresh hopen hchain hr howner hteam),
    fun dst s h => congrArg Host.Outcome.next (State.deliverCells_none h),
    fun dst s u c0 c hfirst hu hc =>
      ⟨fun hthere => congrArg Host.Outcome.next (State.deliverCells_waiting hfirst hu hc hthere),
        fun hthere hmover hlost => congrArg Host.Outcome.next (State.deliverCells_lost hfirst hu hc hthere hmover hlost),
        fun hthere hmover hlost hrule hitems => congrArg Host.Outcome.next (State.deliverCells_written hfirst hu hc hthere hmover hlost hrule hitems)⟩,
    fun d c => (d.dropCells c).dropList_gone c, fun q region item stride l s hlive hstride => ?_, fun ty v => ?_⟩
  · have hmay := s.dev.hostMayCommit_of_host hport hprod hproducer
    exact ⟨_, exec_imgCommit hw hv, commit_item_effect ((s.dev.takesCommit_iff ..).mpr ⟨hmay, hopened, hvalid, hitem⟩) (by omega)⟩
  · exact ⟨_, exec_imgCommit hw hv, commit_refused_effect hrefused _⟩
  · have hmay := s.dev.engMayCommit_of_team hproducer
    subst hr hitem hage
    exact ⟨_, exec_engCommit_item hheld hv, commit_item_effect ((s.dev.takesCommit_iff ..).mpr ⟨hmay, hopened, hvalid, hlt⟩) (Nat.mod_lt _ (by decide))⟩
  · have hmay := s.dev.engMayCommit_of_team hproducer
    subst hr hage
    exact ⟨_, exec_engCommit_all hheld hv, fun i hi =>
      Dev.commit_all_committed ((s.dev.takesCommit_iff ..).mpr ⟨hmay, hopened, hvalid, hsome⟩) (Nat.mod_lt _ (by decide)) hi⟩
  · subst hr
    exact ⟨_, exec_engCommit_item hheld hv, commit_refused_effect hrefused _⟩
  · subst hm
    exact congrArg Host.Outcome.next (State.runRule_sent hx hfresh hopen hchain hr howner)
  · rw [State.deliverItems_late hlive hstride]
    exact ⟨rfl, s.dev.get_writeRej_commitRej region, Dev.get_set_same ..⟩
  · obtain ⟨hlow, hhigh, hsat, hsame⟩ := saturate_spec ty v
    exact ⟨hlow, hhigh, hsat, hsame, convertTo_bit v, fun hty => convertTo_of_ne hty v⟩

end Sys2Proof.Machine
end

section
/-! PROOFS. Copies and causes of the cyclic switch (R174, R177, R193, R201, R210): what its events, the removal of a copy and the end of a frame change. -/

namespace Sys2Proof.Machine
open Sys2Proof Sys2Proof.Safety

/-- Fields of different blocks are different fields. -/
theorem key_ne_of_block_ne {f g : Fld} (h : block g ≠ block f) : g.key ≠ f.key := fun e => h (congrArg (· / 0x200000) e)

/-! ### Causes of the switch -/

/-- An event leaves the fabric alone. -/
theorem EventFrame.fab {d d' : Dev} (h : EventFrame d d') : d'.fab = d.fab := by rw [h.rest]

/-- The source of a cause of the switch is one of the 256. -/
theorem swSource_lt (b : Nat) : (if b < 10 then 190 + b else 199) < 256 := by split <;> omega

@[simp] theorem Dev.swCause_fab (d : Dev) (f : Fld) (b : Nat) : (d.swCause f b).fab = d.fab :=
  (EventFrame.cause d f _ _ (swSource_lt b)).fab

theorem Dev.get_swCause_same (d : Dev) (f : Fld) (b : Nat) (hf : block f ≠ 3) : (d.swCause f b).get f = 1 % 2 ^ f.width :=
  d.cause_get_same f _ _ (swSource_lt b) hf

theorem Dev.get_swCause_ne (d : Dev) (f g : Fld) (b : Nat) (hg : block g ≠ 3) (hne : g.key ≠ f.key) : (d.swCause f b).get g = d.get g :=
  d.cause_get_ne f g _ _ (swSource_lt b) hg hne

@[simp] theorem Dev.inc_fab (d : Dev) (f : Fld) : (d.inc f).fab = d.fab := rfl

/-- The counters of the ports lie below the words of the slices (R210), outside block 0x3, and are none of `SW_EVT`. -/
theorem portCnt_apart (f : Fld) (hlo : 0xc1000 * 32 ≤ f.key) (hhi : f.key < 0xc2000 * 32) :
    block f ≠ 3 ∧ f.key ≠ R.SW_EVT_AGE_DROP.key ∧ f.key ≠ R.SW_EVT_UNDERRUN.key := by
  simp only [block, R.SW_EVT_AGE_DROP, R.SW_EVT_UNDERRUN, Fld.key] at *
  omega

/-! ### A copy that leaves the fabric -/

@[simp] theorem Dev.showSlices_fab (d : Dev) : d.showSlices.fab = d.fab :=
  List.foldlRecOn (motive := fun a : Dev => a.fab = d.fab) _ _ rfl fun _ h _ _ => h

/-- The fill of a slice is shown in the words of `SW_SLICE`. -/
theorem Dev.get_showSlice_below (d : Dev) (k : Nat) (g : Fld) (hg : g.key < 0xc2000 * 32) : (d.showSlice k).get g = d.get g := by
  have hfill : g.key ≠ (R.SW_SLICE_FILL k).key := by simp only [Fld.key, R.SW_SLICE_FILL] at *; omega
  have hhwm : g.key ≠ (R.SW_SLICE_HWM k).key := by simp only [Fld.key, R.SW_SLICE_HWM] at *; omega
  exact (Dev.get_set_ne _ _ _ _ hhwm).trans (Dev.get_set_ne _ _ _ _ hfill)

theorem Dev.get_showSlices_below (d : Dev) (g : Fld) (hg : g.key < 0xc2000 * 32) : d.showSlices.get g = d.get g :=
  List.foldlRecOn (motive := fun a : Dev => a.get g = d.get g) _ _ rfl fun a h k _ => (a.get_showSlice_below k g hg).trans h

theorem Dev.get_takeCopy_below (d : Dev) (c : Copy) (g : Fld) (hg : g.key < 0xc2000 * 32) : (d.takeCopy c).get g = d.get g :=
  Dev.get_showSlices_below _ g hg

theorem Dev.takeCopy_copies (d : Dev) (c : Copy) : (d.takeCopy c).fab.copies = d.fab.copies.filter (fun x => x.id != c.id) := by
  rw [Dev.takeCopy, Dev.showSlices_fab]; rfl

theorem Dev.takeCopy_tx (d : Dev) (c : Copy) : (d.takeCopy c).fab.tx = d.fab.tx := by
  rw [Dev.takeCopy, Dev.showSlices_fab]; rfl

/-! ### The frame that an output sends -/

/-- What an output sends is written in the fabric. -/
theorem Dev.sending_congr {d d' : Dev} (h : d'.fab = d.fab) (j : Nat) : d'.sending j = d.sending j := by rw [Dev.sending, h]; rfl

/-- An output that has ended its frame sends nothing. -/
theorem Dev.endTx_sending (d : Dev) (j : Nat) : (d.endTx j).sending j = none := by
  unfold Dev.endTx
  split
  · next h => exact h
  · rw [Dev.sending, Dev.takeCopy_tx]
    exact Tab.find?_del_same ..

theorem Dev.get_endTx_below (d : Dev) (j : Nat) (g : Fld) (hg : g.key < 0xc2000 * 32) : (d.endTx j).get g = d.get g := by
  unfold Dev.endTx
  split
  · rfl
  · exact Dev.get_takeCopy_below _ _ g hg

@[simp] theorem Dev.fcsMark_fab (d : Dev) (j : Nat) : (d.fcsMark j).fab = d.fab := Dev.swCause_fab ..

@[simp] theorem Dev.lateMark_fab (d : Dev) (j : Nat) (c : Copy) : (d.lateMark j c).fab = d.fab := by
  unfold Dev.lateMark
  split
  · exact Dev.swCause_fab ..
  · rfl

/-- A frame that starts is sent, and counted (R209). -/
theorem Dev.startFrame_effect (d : Dev) (j : Nat) (t : TxFrame) :
    (d.startFrame j t).sending j = some t ∧ (d.startFrame j t).fab.copies = d.fab.copies ∧
      (d.startFrame j t).get (R.SW_PORT_CNT_FRAMES_OUT j) = (d.get (R.SW_PORT_CNT_FRAMES_OUT j) + 1) % 2 ^ 32 :=
  ⟨Tab.find?_put_same .., rfl, d.get_inc_same _⟩

/-- A frame that ageing discards leaves the fabric, and is counted with AGE_DROP (R192). -/
theorem Dev.ageDrop_effect (d : Dev) (j : Fin 40) (c : Copy) :
    (d.ageDrop j c).fab.copies = d.fab.copies.filter (fun x => x.id != c.id) ∧ (d.ageDrop j c).get R.SW_EVT_AGE_DROP = 1 ∧
      (d.ageDrop j c).get (R.SW_PORT_CNT_AGE_DROP j) = (d.get (R.SW_PORT_CNT_AGE_DROP j) + 1) % 2 ^ 32 := by
  have hlo : 0xc1000 * 32 ≤ (R.SW_PORT_CNT_AGE_DROP j).key := by simp only [Fld.key, R.SW_PORT_CNT_AGE_DROP]; omega
  have hhi : (R.SW_PORT_CNT_AGE_DROP j).key < 0xc2000 * 32 := by simp only [Fld.key, R.SW_PORT_CNT_AGE_DROP]; omega
  obtain ⟨hblock, hage, -⟩ := portCnt_apart _ hlo hhi
  refine ⟨?_, Dev.get_swCause_same _ _ _ (by decide), ?_⟩
  · rw [Dev.ageDrop, Dev.swCause_fab, Dev.inc_fab, Dev.takeCopy_copies]
  · rw [Dev.ageDrop, Dev.get_swCause_ne _ _ _ _ hblock hage, Dev.get_inc_same, Dev.get_takeCopy_below _ _ _ hhi]
    rfl

end Sys2Proof.Machine
end

section
/-! PROOFS. Selection, start and underrun at an output of the fabric (R163, R174, R176 to R178, R192), and CLR_CNT (R202, R203). -/

namespace Sys2Proof.Machine
open Sys2Proof Sys2Proof.Safety

/-! ### The selection of R174 -/

/-- Copy `a` yields to copy `b`: it is of no higher class, and in one class it is no older (R174). -/
def Dev.yieldsTo (d : Dev) (a b : Copy) : Prop := a.cls ≤ b.cls ∧ (a.cls = b.cls → d.age a ≤ d.age b)

theorem Dev.yieldsTo_refl (d : Dev) (a : Copy) : d.yieldsTo a a := ⟨Nat.le_refl _, fun _ => Nat.le_refl _⟩

theorem Dev.yieldsTo_trans {d : Dev} {a b c : Copy} (hab : d.yieldsTo a b) (hbc : d.yieldsTo b c) : d.yieldsTo a c := by
  obtain ⟨hab, hageAB⟩ := hab
  obtain ⟨hbc, hageBC⟩ := hbc
  exact ⟨Nat.le_trans hab hbc, fun h => Nat.le_trans (hageAB (by omega)) (hageBC (by omega))⟩

/-- The better of two copies is one of them, to which the other yields. -/
theorem Dev.better_cases (d : Dev) (a b : Copy) : d.better a b = a ∧ d.yieldsTo b a ∨ d.better a b = b ∧ d.yieldsTo a b := by
  unfold Dev.better Dev.yieldsTo
  split
  · exact .inr ⟨rfl, by omega, fun _ => by omega⟩
  · split
    · exact .inl ⟨rfl, by omega, fun _ => by omega⟩
    · split
      · exact .inr ⟨rfl, by omega, fun _ => by omega⟩
      · exact .inl ⟨rfl, by omega, fun _ => by omega⟩

/-- The best of a list is in it, and every copy of the list yields to it. -/
theorem Dev.foldl_better (d : Dev) (a : Copy) (l : List Copy) :
    l.foldl d.better a ∈ a :: l ∧ ∀ x ∈ a :: l, d.yieldsTo x (l.foldl d.better a) := by
  induction l generalizing a with
  | nil => simpa using d.yieldsTo_refl a
  | cons b l ih =>
    obtain ⟨hmem, hbest⟩ := ih (d.better a b)
    rw [List.foldl_cons]
    have hhead : d.better a b ∈ [a, b] ∧ d.yieldsTo a (d.better a b) ∧ d.yieldsTo b (d.better a b) := by
      obtain ⟨h, hy⟩ | ⟨h, hy⟩ := d.better_cases a b <;> rw [h]
      · exact ⟨by simp, d.yieldsTo_refl a, hy⟩
      · exact ⟨by simp, hy, d.yieldsTo_refl b⟩
    obtain ⟨hab, ha, hb⟩ := hhead
    have hfirst := hbest _ List.mem_cons_self
    refine ⟨?_, fun x hx => ?_⟩
    · rcases List.mem_cons.mp hmem with h | h
      · rw [h]; exact List.mem_append_left l hab
      · simp [h]
    · rcases List.mem_cons.mp hx with rfl | hx
      · exact Dev.yieldsTo_trans ha hfirst
      · rcases List.mem_cons.mp hx with rfl | hx
        · exact Dev.yieldsTo_trans hb hfirst
        · exact hbest x (List.mem_cons_of_mem _ hx)

/-- The copies that wait for output `j` with their first cell in the fabric. -/
def Dev.candidates (d : Dev) (j : Nat) : List Copy := (d.waiting j).filter (fun c => d.arrived c)

theorem Dev.mem_candidates (d : Dev) (j : Nat) (c : Copy) : c ∈ d.candidates j ↔ c ∈ d.waiting j ∧ d.arrived c = true := List.mem_filter

theorem Dev.bestCopy_of_nil (d : Dev) (j : Nat) (h : d.candidates j = []) : d.bestCopy j = none := by
  rw [Dev.candidates] at h
  rw [Dev.bestCopy, h]
  rfl

theorem Dev.bestCopy_of_cons (d : Dev) (j : Nat) (a : Copy) (l : List Copy) (h : d.candidates j = a :: l) :
    d.bestCopy j = some (l.foldl d.better a) := by
  rw [Dev.candidates] at h
  rw [Dev.bestCopy, h]
  exact List.foldl_hom some fun _ _ => rfl

/-- The copy selected is a candidate, and every candidate yields to it. -/
theorem Dev.bestCopy_some (d : Dev) (j : Nat) (c : Copy) (h : d.bestCopy j = some c) :
    c ∈ d.candidates j ∧ ∀ x ∈ d.candidates j, d.yieldsTo x c := by
  cases hl : d.candidates j with
  | nil => exact absurd ((d.bestCopy_of_nil j hl).symm.trans h) nofun
  | cons a l =>
    obtain rfl := Option.some.inj ((d.bestCopy_of_cons j a l hl).symm.trans h)
    exact d.foldl_better a l

/-- Nothing is selected only where there is no candidate. -/
theorem Dev.bestCopy_none (d : Dev) (j : Nat) (h : d.bestCopy j = none) : d.candidates j = [] := by
  cases hl : d.candidates j with
  | nil => rfl
  | cons a l => exact absurd ((d.bestCopy_of_cons j a l hl).symm.trans h) nofun

theorem Dev.mem_waiting {d : Dev} {j : Nat} {c : Copy} (h : c ∈ d.waiting j) : c ∈ d.fab.copies ∧ c.dst = j := by
  simp only [Dev.waiting, List.mem_filter, Bool.and_eq_true, beq_iff_eq] at h
  obtain ⟨hmem, ⟨hdst, -⟩, -⟩ := h
  exact ⟨hmem, hdst⟩

/-! ### The start of a frame at a team port or F38 -/

theorem exec_frameStartEgress (j : Fin 40) (u : Option (Nat × Ecc)) (s : State) :
    exec (.frameStartEgress j u) s = .next (s.on fun d => (d.fabEcc j u).startEgress j) := rfl

theorem exec_frameStartEgress_none {j : Fin 40} {s : State} {d : Dev} (h : s.dev.startEgress j = d) :
    exec (.frameStartEgress j none) s = .next { s with dev := d } := by rw [← h]; rfl

section
variable {d : Dev} {j : Nat} (hlo : 26 ≤ j) (hloop : j ≠ 39)
include hlo hloop

theorem Dev.startEgress_plain (h : d.sending j = none) : d.startEgress j = d.startPlain j d.startFuel := by
  rw [Dev.startEgress, if_neg (by omega), if_neg hloop, if_neg (by simp [h])]

theorem Dev.startEgress_busy (h : (d.sending j).isSome = true) : d.startEgress j = d.fabSync := by
  rw [Dev.startEgress, if_neg (by omega), if_neg hloop, if_pos h]

end

theorem Dev.startPlain_idle {d : Dev} {j : Nat} (h : (d.awaitAny j).bestCopy j = none) (n : Nat) : d.startPlain j (n + 1) = d.awaitAny j := by
  simp only [Dev.startPlain, h]

section
variable {d : Dev} {j : Nat} {c : Copy} (h : (d.awaitAny j).bestCopy j = some c) (n : Nat)
include h

theorem Dev.startPlain_bad (hbad : (d.awaitAny j).seenBad c = true) :
    d.startPlain j (n + 1) = ((d.awaitAny j).takeCopy c).startPlain j n := by
  simp only [Dev.startPlain, h, hbad, if_true]

variable (hgood : (d.awaitAny j).seenBad c = false)
include hgood

theorem Dev.startPlain_notReady (hready : (d.awaitAny j).ready c = false) :
    d.startPlain j (n + 1) = ((d.awaitAny j).awaitCopy j c).startPlain j n := by
  simp [Dev.startPlain, h, hgood, hready]

variable (hready : (d.awaitAny j).ready c = true)
include hready

theorem Dev.startPlain_tooOld (hold : (d.awaitAny j).tooOld c = true) :
    d.startPlain j (n + 1) = ((d.awaitAny j).ageDrop j c).startPlain j n := by
  simp [Dev.startPlain, h, hgood, hready, hold]

/-- A copy that is ready, good and young starts, with the tags and the FCS of its egress. -/
theorem Dev.startPlain_starts (hyoung : (d.awaitAny j).tooOld c = false) (hloop : j ≠ 39) :
    d.startPlain j (n + 1) = (d.awaitAny j).startFrame j
      { copy := c, wire := withFcs ((d.awaitAny j).tagBody j c (frameBody c.bytes)) c.bad, start := (d.awaitAny j).now } := by
  simp [Dev.startPlain, h, hgood, hready, hyoung, hloop]

end

/-! ### ECC errors (R163) -/

/-- The copy in a cell of which an output may meet an ECC error: the one that it sends, else the first that it may select. -/
def Dev.readCopy (d : Dev) (j : Nat) : Option Copy := ((d.sending j).map (fun t => t.copy)).or ((d.waiting j).find? (fun x => d.arrived x))

theorem Dev.fabEcc_noCopy {d : Dev} {j : Nat} (h : d.readCopy j = none) (u : Nat × Ecc) : d.fabEcc j (some u) = d := by
  rw [Dev.readCopy] at h
  simp only [Dev.fabEcc, h]

section
variable {d : Dev} {j n : Nat} {c : Copy} (h : d.readCopy j = some c)
include h

theorem Dev.fabEcc_noCell (hn : (d.cellsOf c).any (fun x => x.n == n) = false) (e : Ecc) : d.fabEcc j (some (n, e)) = d := by
  rw [Dev.readCopy] at h
  simp only [Dev.fabEcc, h, hn, Bool.not_false, if_true]

variable (hn : (d.cellsOf c).any (fun x => x.n == n) = true)
include hn

theorem Dev.fabEcc_corrected : d.fabEcc j (some (n, .ce)) = d.swCause R.SW_EVT_ECC_CORR 6 := by
  rw [Dev.readCopy] at h
  simp only [Dev.fabEcc, h, hn, Bool.not_true, Bool.false_eq_true, if_false]

theorem Dev.fabEcc_uncorrectable : d.fabEcc j (some (n, .ue)) =
    ((d.editCopy c.id (fun x => { x with bad := true, hit := true })).swCause R.SW_EVT_ECC_UNCORR 7).eccEvent 1 := by
  rw [Dev.readCopy] at h
  simp only [Dev.fabEcc, h, hn, Bool.not_true, Bool.false_eq_true, if_false]

end

/-! ### Underrun (R178) -/

/-- The frame `x` of output `j` has ended for want of a cell, and is counted. -/
def Dev.underrunEnd (d : Dev) (j : Nat) (x : TxFrame) : Dev :=
  (((if j = 39 then d.cutLoops x.copy.id else d).endTx j).inc (R.SW_PORT_CNT_UNDERRUN j)).swCause R.SW_EVT_UNDERRUN 3

theorem Dev.underrun_ends {d : Dev} {j : Nat} {x : TxFrame} (hx : d.fabSync.sending j = some x) (hlacks : d.fabSync.lacksCell j x = true) (sent : Nat) :
    d.underrun j sent = if j < 26 then (d.fabSync.underrunEnd j x).emit (.frame j (withFcs (x.wire.take (min sent (x.wire.length - 4))) true) true)
      else d.fabSync.underrunEnd j x := by
  simp only [Dev.underrun, hx, hlacks, Bool.not_true, Bool.false_eq_true, if_false]
  rfl

/-- A frame whose cells are all in time, or none, does not underrun. -/
theorem Dev.underrun_not {d : Dev} {j : Nat}
    (h : d.fabSync.sending j = none ∨ ∃ x, d.fabSync.sending j = some x ∧ d.fabSync.lacksCell j x = false) (sent : Nat) :
    d.underrun j sent = d.fabSync := by
  obtain h | ⟨x, hx, hlacks⟩ := h
  · simp only [Dev.underrun, h]
  · simp only [Dev.underrun, hx, hlacks, Bool.not_false, if_true]

theorem Dev.underrunEnd_sending (d : Dev) (j : Nat) (x : TxFrame) : (d.underrunEnd j x).sending j = none := by
  rw [Dev.underrunEnd, Dev.sending_congr (Dev.swCause_fab ..), Dev.sending_congr (Dev.inc_fab ..), Dev.endTx_sending]

theorem Dev.get_underrunEnd_event (d : Dev) (j : Nat) (x : TxFrame) : (d.underrunEnd j x).get R.SW_EVT_UNDERRUN = 1 :=
  Dev.get_swCause_same _ _ _ (by decide)

theorem Dev.get_underrunEnd_count (d : Dev) (j : Fin 40) (x : TxFrame) (hloop : j.val ≠ 39) :
    (d.underrunEnd j x).get (R.SW_PORT_CNT_UNDERRUN j) = (d.get (R.SW_PORT_CNT_UNDERRUN j) + 1) % 2 ^ 32 := by
  have hlo : 0xc1000 * 32 ≤ (R.SW_PORT_CNT_UNDERRUN j).key := by simp only [Fld.key, R.SW_PORT_CNT_UNDERRUN]; omega
  have hhi : (R.SW_PORT_CNT_UNDERRUN j).key < 0xc2000 * 32 := by simp only [Fld.key, R.SW_PORT_CNT_UNDERRUN]; omega
  obtain ⟨hblock, -, hevent⟩ := portCnt_apart _ hlo hhi
  rw [Dev.underrunEnd, if_neg hloop, Dev.get_swCause_ne _ _ _ _ hblock hevent, Dev.get_inc_same, Dev.get_endTx_below _ _ _ hhi]
  rfl

/-- The row where a frame ends: nothing is sent any more, the underrun is counted, and a network port sends out what the frame has of bytes. -/
theorem exec_underrun_ends (j : Fin 40) (sent : Nat) (x : TxFrame) (s : State) (hx : s.dev.fabSync.sending j = some x)
    (hlacks : s.dev.fabSync.lacksCell j x = true) :
    ∃ t, exec (.underrun j sent) s = .next t ∧ t.dev.sending j = none ∧ t.mem = s.mem ∧ t.dev.get R.SW_EVT_UNDERRUN = 1 ∧
      (j.val ≠ 39 → t.dev.get (R.SW_PORT_CNT_UNDERRUN j) = (s.dev.fabSync.get (R.SW_PORT_CNT_UNDERRUN j) + 1) % 2 ^ 32) ∧
      (j.val < 26 → t.dev.out.getLast? = some (.frame j (withFcs (x.wire.take (min sent (x.wire.length - 4))) true) true)) := by
  have hexec : exec (.underrun j sent) s = .next (s.on fun d => d.underrun j sent) := rfl
  have hsending := s.dev.fabSync.underrunEnd_sending j x
  have hevent := s.dev.fabSync.get_underrunEnd_event j x
  have hcount := s.dev.fabSync.get_underrunEnd_count j x
  rw [hexec, State.on, Dev.underrun_ends hx hlacks]
  split
  · exact ⟨_, rfl, hsending, rfl, hevent, hcount, fun _ => List.getLast?_concat⟩
  · next hteam => exact ⟨_, rfl, hsending, rfl, hevent, hcount, fun h => absurd h hteam⟩

/-! ### CLR_CNT (R202, R203) -/

/-- The counters of port `p`, with the high-water mark of its slice. -/
def portCounters (p : Nat) : List Fld :=
  [R.SW_PORT_CNT_FRAMES_IN p, R.SW_PORT_CNT_FRAMES_OUT p, R.SW_PORT_CNT_AGE_DROP p, R.SW_PORT_CNT_LATE p, R.SW_PORT_CNT_BUF_DROP p,
    R.SW_PORT_CNT_UNDERRUN p, R.SW_PORT_CNT_SCHED_COLLIDE p, R.SW_PORT_CNT_MC_LOOP p, R.SW_PORT_CNT_FCS_MARK p, R.SW_PORT_CNT_SLOT_OVER p,
    R.SW_PORT_CNT_SCHED_MAX p, R.SW_SLICE_HWM p]

/-- The counters that CLR_CNT zeroes. -/
def swCounters : List Fld := (List.range 40).flatMap portCounters ++ [R.SWM_CNT_HRX_DROP, R.SWM_CNT_CAP_DROP]

theorem Dev.swClrCnt_eq (d : Dev) : d.swClrCnt = d.clear swCounters := by
  rw [Dev.clear, swCounters, List.foldl_append, List.foldl_flatMap]
  rfl

theorem mem_swCounters_of_port {p : Nat} {f : Fld} (hp : p < 40) (h : f ∈ portCounters p) : f ∈ swCounters :=
  List.mem_append_left _ (List.mem_flatMap.mpr ⟨p, List.mem_range.mpr hp, h⟩)

/-- Each counter of a port reads 0 after CLR_CNT. -/
theorem Dev.get_swClrCnt_port (d : Dev) {p : Nat} {f : Fld} (hp : p < 40) (h : f ∈ portCounters p) : d.swClrCnt.get f = 0 := by
  rw [Dev.swClrCnt_eq]
  exact Dev.get_clear_mem _ _ _ (mem_swCounters_of_port hp h)

/-- So do the drop counters of the mover. -/
theorem Dev.get_swClrCnt_mover (d : Dev) {f : Fld} (h : f ∈ [R.SWM_CNT_HRX_DROP, R.SWM_CNT_CAP_DROP]) : d.swClrCnt.get f = 0 :=
  Dev.get_clear_mem _ _ _ h

theorem exec_swClrCnt {w : Writer} {s : State} (hw : s.dev.mayWrite w 0xC0000 = true) :
    exec (.swClrCnt w) s = .next (s.on fun d => d.swClrCnt) := congrArg Host.Outcome.next (if_pos hw)

/-- Settles O16: the selection by `Dev.bestCopy_some`, a start by the branches of `Dev.startPlain`, errors by those of `Dev.fabEcc`, an underrun by
`exec_underrun_ends`, CLR_CNT by the list `swCounters`. -/
theorem switchOutputs : Obligations.SwitchOutputs := by
  refine ⟨fun d j c h => ?_, fun d j h x hx => ?_, fun j c s d hlo hloop hidle hd h => ?_, fun j s d hlo hloop hidle hd h => ?_,
    fun d j t => d.startFrame_effect j t, fun d j c => ⟨d.takeCopy_copies c, d.ageDrop_effect j c⟩, fun j s hlo hloop hbusy => ?_,
    fun s => rfl, fun j s hj => ?_, fun j n c s h => ⟨fun hn => ⟨?_, ?_⟩, fun hn e => ?_⟩, fun j u s hidle hwait => ?_, exec_underrun_ends,
    fun j sent s h => ?_, fun w s hw => ?_⟩
  · obtain ⟨hc, hbest⟩ := d.bestCopy_some j c h
    obtain ⟨hwaits, harrived⟩ := (d.mem_candidates j c).mp hc
    obtain ⟨hmem, hdst⟩ := Dev.mem_waiting hwaits
    exact ⟨hwaits, harrived, hmem, hdst, fun x hx hxa => hbest x ((d.mem_candidates j x).mpr ⟨hx, hxa⟩)⟩
  · have hnil := d.bestCopy_none j h
    exact Bool.eq_false_iff.mpr fun hxa => List.not_mem_nil (hnil ▸ (d.mem_candidates j x).mpr ⟨hx, hxa⟩)
  · subst hd
    have hplain := Dev.startEgress_plain hlo hloop hidle
    exact ⟨fun hgood hready hyoung => exec_frameStartEgress_none (hplain.trans (Dev.startPlain_starts h _ hgood hready hyoung hloop)),
      fun hgood hready hold => exec_frameStartEgress_none (hplain.trans (Dev.startPlain_tooOld h _ hgood hready hold)),
      fun hgood hready => exec_frameStartEgress_none (hplain.trans (Dev.startPlain_notReady h _ hgood hready)),
      fun hbad => exec_frameStartEgress_none (hplain.trans (Dev.startPlain_bad h _ hbad))⟩
  · subst hd
    exact exec_frameStartEgress_none ((Dev.startEgress_plain hlo hloop hidle).trans (Dev.startPlain_idle h _))
  · exact exec_frameStartEgress_none (Dev.startEgress_busy hlo hloop hbusy)
  · exact exec_frameStartEgress_none (if_pos hj)
  · rw [exec_frameStartEgress, State.on, Dev.fabEcc_corrected h hn]; rfl
  · rw [exec_frameStartEgress, State.on, Dev.fabEcc_uncorrectable h hn]; rfl
  · rw [exec_frameStartEgress, State.on, Dev.fabEcc_noCell h hn]; rfl
  · have hnone : s.dev.readCopy j = none := by rw [Dev.readCopy, hidle, hwait]; rfl
    rw [exec_frameStartEgress, State.on, Dev.fabEcc_noCopy hnone]; rfl
  · exact congrArg (fun d => Host.Outcome.next { s with dev := d }) (Dev.underrun_not h sent)
  · refine ⟨_, exec_swClrCnt hw, s.on_mem _, ?_, s.dev.get_swClrCnt_mover (by simp), s.dev.get_swClrCnt_mover (by simp), fun p hp => ?_⟩
    · rw [State.on_dev, Dev.swClrCnt_eq]
      exact Dev.clear_rest ..
    · refine ⟨?_, ?_, ?_, ?_, ?_, ?_, ?_, ?_, ?_, ?_, ?_⟩ <;> exact s.dev.get_swClrCnt_port hp (by simp [portCounters])

end Sys2Proof.Machine
end

section
/-! PROOFS. The switch mover: the channels of port F38 (R186 to R189) and the rings of the HOST channel (R188, R190). -/

namespace Sys2Proof.Machine
open Sys2Proof Sys2Proof.Safety

/-! ### A frame taken from its output -/

/-- A wait for what holds at once only brings the fabric up to the present. -/
theorem Dev.fabWait_of_holds {d : Dev} {p : Dev → Bool} (h : p d.fabSync = true) : d.fabWait p = d.fabSync := if_pos h

/-- An output whose frame has been taken sends nothing. -/
theorem Dev.takeFrame_sending (d : Dev) (j : Nat) : (d.takeFrame j).2.sending j = none := by
  unfold Dev.takeFrame
  extract_lets d1
  split
  · next h => exact h
  · extract_lets d2 t d3
    have hd3 : d3.sending j = none := (Dev.sending_congr (Dev.lateMark_fab ..) j).trans (d2.endTx_sending j)
    split
    · exact (Dev.sending_congr (d3.fcsMark_fab j) j).trans hd3
    · exact hd3

/-- A frame in transmission whose last cell is in the store is taken at once, as the egress leaves it (R177). -/
theorem Dev.takeFrame_of_stored {d : Dev} {j : Nat} {x y : TxFrame} (hx : d.sending j = some x) (hy : d.fabSync.sending j = some y)
    (hstored : (d.fabSync.fab.stores.getD j []).any (fun e => !e.2.map && e.2.id == x.copy.id && e.2.last) = true) :
    d.takeFrame j = if y.copy.bad then (some { y.copy with bytes := withFcs (frameBody y.wire) true }, ((d.fabSync.endTx j).lateMark j y.copy).fcsMark j)
      else (some { y.copy with bytes := y.wire }, (d.fabSync.endTx j).lateMark j y.copy) := by
  have hwait : d.fabWait (fun z => (z.fab.stores.getD j []).any (fun e => !e.2.map && e.2.id == x.copy.id && e.2.last)) = d.fabSync :=
    Dev.fabWait_of_holds hstored
  simp only [Dev.takeFrame, hx, Option.isSome_some, if_true, hwait, hy, Option.getD_some]

/-! ### The channels of F38 (R187) -/

theorem exec_f38FrameDelivery (s : State) : exec .f38FrameDelivery s = .next s.f38Deliver := rfl

theorem State.f38Deliver_none {s : State} {d : Dev} (h : s.dev.takeFrame 38 = (none, d)) : s.f38Deliver = { s with dev := d } := by
  rw [State.f38Deliver, h]

section
variable {s : State} {d : Dev} {c : Copy} (h : s.dev.takeFrame 38 = (some c, d))
include h

theorem State.f38Deliver_capture (hmirror : c.mirror = true) (hen : d.on R.SWM_CAP_CFG_EN = true) :
    s.f38Deliver = ({ s with dev := d } : State).capture c := by
  simp [State.f38Deliver, h, hmirror, hen]

theorem State.f38Deliver_bridle (hmirror : c.mirror = false) (hmgmt : c.mgmt = true) :
    s.f38Deliver = { s with dev := d.withFab (fun f => { f with bridleRx := f.bridleRx ++ [(c.src, c.bytes)] }) } := by
  simp [State.f38Deliver, h, hmirror, hmgmt, State.on]

theorem State.f38Deliver_host (hhost : c.mirror = true ∧ d.on R.SWM_CAP_CFG_EN = false ∨ c.mirror = false ∧ c.mgmt = false) :
    s.f38Deliver = ({ s with dev := d } : State).hostRx c := by
  obtain ⟨hmirror, hoff⟩ | ⟨hmirror, hmgmt⟩ := hhost
  · simp [State.f38Deliver, h, hmirror, hoff]
  · simp [State.f38Deliver, h, hmirror, hmgmt]

end

theorem State.hostRx_noEntries (s : State) (c : Copy) (h : s.dev.get R.SWM_HRXR_CFG_COUNT = 0) :
    s.hostRx c = s.on (fun d => d.inc R.SWM_CNT_HRX_DROP) := if_pos h

/-- A capture that meets the end of its area without WRAP stops (R189). -/
def Dev.capStop (d : Dev) : Dev := ((d.set R.SWM_CAP_CFG_EN 0).inc R.SWM_CNT_CAP_DROP).swCause R.SW_EVT_CAP_FULL 12

theorem State.capture_noRoom (s : State) (c : Copy) (hfull : s.dev.get R.SWM_CAP_CFG_SIZE * 4096 < s.dev.get R.SWM_CAP_PTR_OFFSET + (captureBytes c).length)
    (hwrap : s.dev.on R.SWM_CAP_CFG_WRAP = false) : s.capture c = s.on Dev.capStop :=
  (if_neg (Nat.not_le.mpr hfull)).trans (if_neg (by simp [hwrap]))

theorem Dev.capStop_effect (d : Dev) :
    d.capStop.get R.SWM_CAP_CFG_EN = 0 ∧ d.capStop.get R.SWM_CNT_CAP_DROP = (d.get R.SWM_CNT_CAP_DROP + 1) % 2 ^ 16 ∧
      d.capStop.get R.SW_EVT_CAP_FULL = 1 := by
  refine ⟨?_, ?_, Dev.get_swCause_same _ _ _ (by decide)⟩
  · rw [Dev.capStop, Dev.get_swCause_ne _ _ _ _ (by decide) (by decide), Dev.get_inc_ne _ _ _ (by decide), Dev.get_set_same]
    rfl
  · rw [Dev.capStop, Dev.get_swCause_ne _ _ _ _ (by decide) (by decide), Dev.get_inc_same, Dev.get_set_ne _ _ _ _ (by decide)]
    rfl

/-! ### The HOST transmit ring (R188) -/

theorem Dev.htxTailWrite_eq (d : Dev) (w : Writer) (v : Nat) (hv : v < 2 ^ 11) : d.htxTailWrite w v = d.set R.SWM_HTX_TAIL v := by
  rw [Dev.htxTailWrite, Nat.div_eq_of_lt hv]
  rfl

theorem exec_swmHtxTail {w : Writer} {v : W32} {s : State} (hw : Grants s w R.SWM_HTX_TAIL) (hv : v.toNat < 2 ^ 11) :
    exec (.swmHtxTail w v) s = .next (s.on fun d => d.set R.SWM_HTX_TAIL v.toNat) := by
  have hexec : exec (.swmHtxTail w v) s = .next (s.on fun d => d.htxTailWrite w v.toNat) := State.gate_next hw rfl
  rw [hexec, State.on, Dev.htxTailWrite_eq _ _ _ hv]
  rfl

/-- The head of the ring moves to entry `i`, with HOST_TX. -/
def Dev.htxAdvance (d : Dev) (i : Nat) : Dev := (d.set R.SWM_HTX_HEAD i).swCause R.SW_EVT_HOST_TX 11

theorem Dev.htxAdvance_effect (d : Dev) (i : Nat) (hi : i < 2 ^ 11) :
    (d.htxAdvance i).get R.SWM_HTX_HEAD = i ∧ (d.htxAdvance i).get R.SW_EVT_HOST_TX = 1 := by
  refine ⟨?_, Dev.get_swCause_same _ _ _ (by decide)⟩
  rw [Dev.htxAdvance, Dev.get_swCause_ne _ _ _ _ (by decide) (by decide), Dev.get_set_same]
  exact Nat.mod_eq_of_lt hi

/-- Whatever becomes of an entry that is posted, the head moves on by one. -/
theorem State.hostTxDone_posted (s : State) (hcount : s.dev.get R.SWM_HTXR_CFG_COUNT ≠ 0) (hposted : s.dev.get R.SWM_HTX_HEAD ≠ s.dev.get R.SWM_HTX_TAIL) :
    ∃ u : State, s.hostTxDone = u.on (fun d => d.htxAdvance ((s.dev.get R.SWM_HTX_HEAD + 1) % s.dev.get R.SWM_HTXR_CFG_COUNT)) := by
  unfold State.hostTxDone
  extract_lets d n h a q fin x rd
  rw [if_neg (not_or.mpr ⟨hcount, hposted⟩)]
  split
  · exact ⟨s.on fun d => d.bankFault (a / 0x80000) (max 1 (d.bankRefuses (a / 0x80000) q)) q false (a % 0x80000), rfl⟩
  · split
    · exact ⟨s.txStatus q a 2, rfl⟩
    · split <;> exact ⟨_, rfl⟩

theorem State.hostTxDone_idle (s : State) (h : s.dev.get R.SWM_HTXR_CFG_COUNT = 0 ∨ s.dev.get R.SWM_HTX_HEAD = s.dev.get R.SWM_HTX_TAIL) :
    s.hostTxDone = s := if_pos h

theorem exec_hostTxDone (s : State) : exec .hostTxDone s = .next s.hostTxDone := rfl

/-! ### A ring that stops (R190) -/

/-- A record of a reserved write (R697) touches registers of block 0 and what an event touches. -/
theorem Dev.rsvIf_frame (d : Dev) (b : Bool) (w : Writer) (off : Nat) :
    (d.rsvIf b w off).fab = d.fab ∧ ∀ g : Fld, block g ≠ 0 → block g ≠ 3 → (d.rsvIf b w off).get g = d.get g := by
  unfold Dev.rsvIf Dev.rsvWrite Dev.rsvWriteMap
  split
  · extract_lets d1
    have hd1 : d1.fab = d.fab ∧ ∀ g : Fld, block g ≠ 0 → d1.get g = d.get g := by
      unfold d1
      split
      · exact ⟨rfl, fun _ _ => rfl⟩
      · refine ⟨rfl, fun g hg => ?_⟩
        rw [Dev.get_set_ne _ _ _ _ (key_ne_of_block_ne hg), Dev.get_set_ne _ _ _ _ (key_ne_of_block_ne hg),
          Dev.get_set_ne _ _ _ _ (key_ne_of_block_ne hg)]
    obtain ⟨hfab, hget⟩ := hd1
    refine ⟨(EventFrame.cause d1 _ _ _ (by decide)).fab.trans hfab, fun g h0 h3 => ?_⟩
    exact (Dev.cause_get_ne _ _ _ _ _ (by decide) h3 (key_ne_of_block_ne (f := R.SYS_DIAG_REG_RSV_WRITE) h0)).trans (hget g h0)
  · exact ⟨rfl, fun _ _ _ => rfl⟩

theorem Dev.fldWrite_fab (d : Dev) (f : Fld) (k v : Nat) : (d.fldWrite f k v).1.fab = d.fab := by
  unfold Dev.fldWrite
  extract_lets
  split
  · rfl
  · rfl
  · split <;> rfl
  · rfl
  · rfl

/-- A write leaves 0 in a field of a word that may be written, takes 0, and is given 0. -/
theorem Dev.get_fldWrite_zero (d : Dev) (f : Fld) (k v : Nat) (hacc : f.acc = .rw) (hlegal : legal f 0 = true) (hfit : f.lo + f.width ≤ 32)
    (hv : bits v f.lo f.width = 0) : (d.fldWrite f k v).1.get f = 0 := by
  simp [Dev.fldWrite, fldMerge, hacc, hlegal, hfit, hv]

/-- COUNT of the ring of one direction. -/
def ringCount (rx : Bool) : Fld := if rx then R.SWM_HRXR_CFG_COUNT else R.SWM_HTXR_CFG_COUNT

/-- A write of COUNT's word with 0 in its place makes COUNT 0, whatever is written beside it. -/
theorem Dev.wordWrite_ringCount (d : Dev) (rx : Bool) (v : Nat) (hv : v % 2 ^ 11 = 0) :
    (d.wordWrite (ringCount rx).addr v).1.get (ringCount rx) = 0 ∧ (d.wordWrite (ringCount rx).addr v).1.fab = d.fab := by
  have hbits : bits v 0 11 = 0 := by rw [bits_eq, Nat.pow_zero, Nat.div_one, hv]
  cases rx with
  | false =>
    have hfields : fieldsAt (ringCount false).addr = [(R.SWM_HTXR_CFG_COUNT, 0)] := by decide
    rw [Dev.wordWrite, hfields]
    exact ⟨Dev.get_fldWrite_zero _ R.SWM_HTXR_CFG_COUNT 0 v rfl rfl (by decide) hbits, Dev.fldWrite_fab ..⟩
  | true =>
    have hfields : fieldsAt (ringCount true).addr = [(R.SWM_HRXR_CFG_BUF_UNITS, 0), (R.SWM_HRXR_CFG_COUNT, 0)] := by decide
    rw [Dev.wordWrite, hfields]
    exact ⟨Dev.get_fldWrite_zero _ R.SWM_HRXR_CFG_COUNT 0 v rfl rfl (by decide) hbits, (Dev.fldWrite_fab ..).trans (Dev.fldWrite_fab ..)⟩

/-- The indices of a ring that stops. -/
def Dev.ringReset (d : Dev) (rx : Bool) : Dev := if rx then d.set R.SWM_HRX_NEXT 0 else (d.set R.SWM_HTX_TAIL 0).set R.SWM_HTX_HEAD 0

theorem Dev.ringCfgWrite_zero (d : Dev) (w : Writer) (rx : Bool) (v : Nat) (hv : v % 2 ^ 11 = 0) :
    d.ringCfgWrite w rx v = ((d.wordWrite (ringCount rx).addr v).1.ringReset rx).rsvIf (d.wordWrite (ringCount rx).addr v).2 w (ringCount rx).addr := by
  cases rx <;> exact congrArg (fun a : Dev => a.rsvIf _ w _) (if_neg (not_not_intro hv))

/-- A 0 in COUNT of the transmit ring returns both indices to 0. -/
theorem Dev.ringCfgWrite_tx (d : Dev) (w : Writer) (v : Nat) (hv : v % 2 ^ 11 = 0) :
    (d.ringCfgWrite w false v).get R.SWM_HTXR_CFG_COUNT = 0 ∧ (d.ringCfgWrite w false v).get R.SWM_HTX_TAIL = 0 ∧
      (d.ringCfgWrite w false v).get R.SWM_HTX_HEAD = 0 ∧ (d.ringCfgWrite w false v).fab = d.fab := by
  obtain ⟨hcount, hfab⟩ := d.wordWrite_ringCount false v hv
  obtain ⟨hrest, hget⟩ := Dev.rsvIf_frame ((d.wordWrite (ringCount false).addr v).1.ringReset false)
    (d.wordWrite (ringCount false).addr v).2 w (ringCount false).addr
  rw [d.ringCfgWrite_zero w false v hv, hget _ (by decide) (by decide), hget _ (by decide) (by decide), hget _ (by decide) (by decide)]
  refine ⟨?_, ?_, Dev.get_set_same .., hrest.trans hfab⟩
  · exact (Dev.get_set_ne _ _ _ _ (by decide)).trans ((Dev.get_set_ne _ _ _ _ (by decide)).trans hcount)
  · exact (Dev.get_set_ne _ _ _ _ (by decide)).trans (Dev.get_set_same ..)

/-- A 0 in COUNT of the receive ring returns its index to 0. -/
theorem Dev.ringCfgWrite_rx (d : Dev) (w : Writer) (v : Nat) (hv : v % 2 ^ 11 = 0) :
    (d.ringCfgWrite w true v).get R.SWM_HRXR_CFG_COUNT = 0 ∧ (d.ringCfgWrite w true v).get R.SWM_HRX_NEXT = 0 ∧
      (d.ringCfgWrite w true v).fab = d.fab := by
  obtain ⟨hcount, hfab⟩ := d.wordWrite_ringCount true v hv
  obtain ⟨hrest, hget⟩ := Dev.rsvIf_frame ((d.wordWrite (ringCount true).addr v).1.ringReset true)
    (d.wordWrite (ringCount true).addr v).2 w (ringCount true).addr
  rw [d.ringCfgWrite_zero w true v hv, hget _ (by decide) (by decide), hget _ (by decide) (by decide)]
  exact ⟨(Dev.get_set_ne _ _ _ _ (by decide)).trans hcount, Dev.get_set_same .., hrest.trans hfab⟩

/-- The row writes the word as it is, but for COUNT. -/
theorem exec_swmRingStop {w : Writer} {rx : Bool} {s : State} (hw : Grants s w (ringCount rx)) :
    exec (.swmRingStop w rx) s = .next (s.on fun d => d.ringCfgWrite w rx (d.word (ringCount rx).addr / 2048 * 2048)) := by
  cases rx <;> exact State.gate_next hw rfl

/-- Settles O17: the channels by the branches of `State.f38Deliver`, a frame taken by `Dev.takeFrame_of_stored`, a finished entry by
`State.hostTxDone_posted`, a stopped ring by `Dev.ringCfgWrite_tx` and `_rx`. -/
theorem switchMover : Obligations.SwitchMover := by
  refine ⟨fun c d s h => ⟨fun hmirror hen => ?_, fun hmirror hmgmt => ?_, fun hhost => ?_⟩, fun d s h => ?_, Dev.takeFrame_sending,
    fun d j x y hx hy => Dev.takeFrame_of_stored hx hy, fun c s h => ?_, fun c s hfull hwrap => ?_, fun w v s hw hv => ?_, fun s h => ?_,
    fun s hcount hposted => ?_, fun w s hw => ?_, fun w s hw => ?_⟩
  · rw [exec_f38FrameDelivery, State.f38Deliver_capture h hmirror hen]
  · rw [exec_f38FrameDelivery, State.f38Deliver_bridle h hmirror hmgmt]
  · rw [exec_f38FrameDelivery, State.f38Deliver_host h hhost]
  · rw [exec_f38FrameDelivery, State.f38Deliver_none h]
  · rw [s.hostRx_noEntries c h]
    exact ⟨rfl, Dev.get_inc_same ..⟩
  · rw [s.capture_noRoom c hfull hwrap]
    exact ⟨rfl, s.dev.capStop_effect⟩
  · exact ⟨_, exec_swmHtxTail hw hv, (Dev.get_set_same ..).trans (Nat.mod_eq_of_lt hv), .set s _ _ (List.mem_singleton_self _)⟩
  · rw [exec_hostTxDone, s.hostTxDone_idle h]
  · obtain ⟨u, hu⟩ := s.hostTxDone_posted hcount hposted
    have hlt : (s.dev.get R.SWM_HTX_HEAD + 1) % s.dev.get R.SWM_HTXR_CFG_COUNT < 2 ^ 11 :=
      Nat.lt_trans (Nat.mod_lt _ (Nat.pos_of_ne_zero hcount)) (s.dev.get_lt _)
    rw [exec_hostTxDone, hu]
    exact ⟨_, rfl, u.dev.htxAdvance_effect _ hlt⟩
  · obtain ⟨hcount, htail, hhead, hfab⟩ := s.dev.ringCfgWrite_tx w (s.dev.word (ringCount false).addr / 2048 * 2048) (Nat.mul_mod_left _ _)
    exact ⟨_, exec_swmRingStop hw, hcount, htail, hhead, rfl, hfab⟩
  · obtain ⟨hcount, hnext, hfab⟩ := s.dev.ringCfgWrite_rx w (s.dev.word (ringCount true).addr / 2048 * 2048) (Nat.mul_mod_left _ _)
    exact ⟨_, exec_swmRingStop hw, hcount, hnext, rfl, hfab⟩

end Sys2Proof.Machine
end

section
/-! PROOFS. Harness lanes and the states of a node (R274 to R310): what lane updates, causes, the states and time leave as they were. -/

namespace Sys2Proof.Machine
open Sys2Proof Sys2Proof.Safety

/-! ### Lanes -/

theorem Dev.hlane_setLane_ne (d : Dev) (p q : Nat) (x : HnLane) (h : q ≠ p) : (d.setLane p x).hlane q = d.hlane q := Tab.getD_put_ne _ _ _ _ _ h

theorem Dev.hlane_congr {d d' : Dev} (h : d'.hn.lanes = d.hn.lanes) (p : Nat) : d'.hlane p = d.hlane p := by rw [Dev.hlane, h]; rfl

/-- The followed lane is one of the 16 (R310). -/
theorem Dev.followed_lt {d : Dev} {p : Nat} (h : d.followed = some p) : p < 16 := by
  unfold Dev.followed at h
  split at h
  · exact Option.some.inj h ▸ d.get_lt R.HN_CTRL_STBY_LANE
  · split at h
    · exact Option.some.inj h ▸ d.get_lt R.HN_CTRL_UP_LANE
    · split at h
      · exact Option.some.inj h ▸ d.get_lt R.HN_CTRL_STBY_LANE
      · cases h

/-! ### Time -/

/-- No register that time changes is one of the Harness block. -/
theorem timeRegs_block : ∀ f ∈ timeRegs, block f ≠ 0xD := by decide

theorem TimeFrame.get_hn {d d' : Dev} (h : TimeFrame d d') {f : Fld} (hf : block f = 0xD) : d'.get f = d.get f :=
  h.get f fun g hg => key_ne_of_block_ne fun e => timeRegs_block g hg (e ▸ hf)

theorem TimeFrame.hn {d d' : Dev} (h : TimeFrame d d') : d'.hn = d.hn := by rw [h.rest]

theorem TimeFrame.out {d d' : Dev} (h : TimeFrame d d') : d'.out = d.out := by rw [h.rest]

@[simp] theorem Dev.incrApply_now (d : Dev) (n : Nat) : (d.incrApply n).now = d.now := by
  unfold Dev.incrApply
  split <;> rfl

@[simp] theorem Dev.rtcFollow_now (d : Dev) (n old : Nat) : (d.rtcFollow n old).now = d.now := by
  unfold Dev.rtcFollow
  dsimp only
  repeat' split
  all_goals rfl

@[simp] theorem Dev.setLoad_now (d : Dev) (n : Nat) : (d.setLoad n).now = d.now := by
  unfold Dev.setLoad
  split <;> simp

theorem Dev.snapNow_now (d : Dev) : d.snapNow.now = d.now :=
  List.foldlRecOn (motive := fun a : Dev => a.now = d.now) _ _ rfl fun _ h _ _ => h

theorem Dev.snapTick_now (d : Dev) : d.snapTick.now = d.now := by
  unfold Dev.snapTick
  split
  · simp only [Dev.snapNow_now]
  · rfl

theorem Dev.tickOnce_now (d : Dev) : d.tickOnce.now = d.now + 2 := by
  have happly : ((List.range 8).foldl (fun (a : Dev) n => a.incrApply n) d).now = d.now :=
    List.foldlRecOn (motive := fun a : Dev => a.now = d.now) _ _ rfl fun a h n _ => (a.incrApply_now n).trans h
  exact List.foldlRecOn (motive := fun a : Dev => a.now = d.now + 2) _ _ (congrArg (· + 2) happly) fun a h n _ => (a.setLoad_now n).trans h

/-- Each tick takes 2 ns. -/
theorem Dev.ticks_now (d : Dev) (k : Nat) : (d.ticks k).now = d.now + 2 * k := by
  unfold Dev.ticks
  split
  · next h => rw [h]; rfl
  · have hcount : ((d.tickOnce.snapTick).count (k - 1)).now = d.tickOnce.snapTick.now + 2 * (k - 1) := rfl
    rw [hcount, Dev.snapTick_now, Dev.tickOnce_now]
    omega

/-! ### The states -/

/-- The registers in which the states of a node show (R300, R301, R308, R310, R321). -/
def hnStateRegs : List Fld :=
  [R.HN_STATUS_UP_STATE, R.HN_STATUS_STAR_STATE, R.HN_STATUS_HOLDOVER, R.HN_STATUS_TIME_SRC] ++
    (List.range 16).flatMap (fun p => [R.HN_LANE_EVT_STATE_CHG p, R.HN_LANE_STATUS_FOLLOWED p])

/-- What the states of a node leave alone as they change: its lanes, whether it takes part, and every register but theirs and those of events. -/
structure HnFrame (d d' : Dev) : Prop where
  get : ∀ g : Fld, block g ≠ 3 → (∀ f ∈ hnStateRegs, g.key ≠ f.key) → d'.get g = d.get g
  lanes : d'.hn.lanes = d.hn.lanes
  active : d'.hn.active = d.hn.active

theorem HnFrame.refl (d : Dev) : HnFrame d d := ⟨fun _ _ _ => rfl, rfl, rfl⟩

theorem HnFrame.trans {a b c : Dev} (h1 : HnFrame a b) (h2 : HnFrame b c) : HnFrame a c :=
  ⟨fun g hb hg => (h2.get g hb hg).trans (h1.get g hb hg), h2.lanes.trans h1.lanes, h2.active.trans h1.active⟩

theorem HnFrame.set (d : Dev) (f : Fld) (v : Nat) (h : f ∈ hnStateRegs) : HnFrame d (d.set f v) :=
  ⟨fun _ _ hg => Dev.get_set_ne _ _ _ _ (hg f h), rfl, rfl⟩

theorem HnFrame.event {d d' : Dev} (h : EventFrame d d') : HnFrame d d' := by
  refine ⟨fun g hb _ => h.get g hb, ?_, ?_⟩ <;> rw [h.rest]

theorem HnFrame.withHn (d : Dev) (f : HnSt → HnSt) (hlanes : (f d.hn).lanes = d.hn.lanes) (hactive : (f d.hn).active = d.hn.active) :
    HnFrame d (d.withHn f) := ⟨fun _ _ _ => rfl, hlanes, hactive⟩

theorem mem_hnStateRegs_of_lane {f : Fld} (p : Nat) (hp : p < 16) (h : f ∈ [R.HN_LANE_EVT_STATE_CHG p, R.HN_LANE_STATUS_FOLLOWED p]) :
    f ∈ hnStateRegs := List.mem_append_right _ (List.mem_flatMap.mpr ⟨p, List.mem_range.mpr hp, h⟩)

theorem HnFrame.stateChg (d : Dev) : HnFrame d d.stateChg := by
  unfold Dev.stateChg
  split
  · next p hp =>
    have hlt := Dev.followed_lt hp
    exact (HnFrame.set _ _ _ (mem_hnStateRegs_of_lane p hlt (by simp))).trans (.event (.cause _ _ _ _ (by omega)))
  · exact .refl d

theorem HnFrame.setUp (d : Dev) (st : Nat) : HnFrame d (d.setUp st) := by
  unfold Dev.setUp
  extract_lets d1 d2
  have h1 : HnFrame d d1 := by
    unfold d1
    split
    · exact (HnFrame.withHn d _ rfl rfl).trans (.set _ _ _ (by simp [hnStateRegs]))
    · exact .refl d
  have h2 : HnFrame d d2 := by
    unfold d2
    split
    · exact h1.trans (.set _ _ _ (by simp [hnStateRegs]))
    · exact h1
  split
  · exact h2
  · exact (h2.trans (.set _ _ _ (by simp [hnStateRegs]))).trans (.stateChg _)

theorem HnFrame.setStar (d : Dev) (st : Nat) : HnFrame d (d.setStar st) := by
  unfold Dev.setStar
  split
  · exact .refl d
  · exact (HnFrame.set _ _ _ (by simp [hnStateRegs])).trans (.stateChg _)

theorem HnFrame.enterSync (d : Dev) : HnFrame d d.enterSync := by
  unfold Dev.enterSync
  extract_lets d1
  have h1 : HnFrame d d1 := (HnFrame.setUp d 4).trans (.withHn _ _ rfl rfl)
  split
  · exact h1.trans (.setStar _ _)
  · exact h1

theorem HnFrame.integrate (d : Dev) (p : Nat) : HnFrame d (d.integrate p) := by
  unfold Dev.integrate
  split
  · exact .refl d
  · extract_lets n d1
    have h1 : HnFrame d d1 := .withHn _ _ rfl rfl
    split
    · exact h1.trans (.enterSync _)
    · exact h1

end Sys2Proof.Machine
end

section
/-! PROOFS. The delay exchange of a Harness lane (R278 to R283). -/

namespace Sys2Proof.Machine
open Sys2Proof Sys2Proof.Safety

/-! ### The rows -/

theorem exec_dlyReqSend (p : Fin 16) (k : Fin 8) (s : State) : exec (.dlyReqSend p k) s = .next (s.on fun d => d.dlyReqSend p k) := rfl
theorem exec_dlyReq (p : Fin 16) (node sq : BitVec 16) (k k3 : Fin 8) (gap : Fin 65536) (s : State) :
    exec (.dlyReq p node sq k gap k3) s = .next (s.on fun d => d.dlyReq p node.toNat k gap k3) := rfl
theorem exec_dlyT2 (p : Fin 16) (v : BitVec 48) (s : State) : exec (.dlyT2 p v) s = .next (s.on fun d => d.dlyT2 p v.toNat) := rfl
theorem exec_dlyT3 (p : Fin 16) (v : BitVec 48) (k : Fin 8) (s : State) : exec (.dlyT3 p v k) s = .next (s.on fun d => d.dlyT3 p v.toNat k) := rfl
theorem exec_slotEcho (p : Fin 16) (v : BitVec 48) (s : State) : exec (.slotEcho p v) s = .next (s.on fun d => d.slotEcho p v.toNat) := rfl

/-! ### A lane that the device measures, and one that it does not -/

section
variable {d : Dev} {p : Nat}

theorem Dev.dlyReqSend_measured (h : d.measures p = true) (k : Nat) :
    d.dlyReqSend p k = (d.setLane p { d.hlane p with seq := ((d.hlane p).seq + 1) % 65536, t1 := some (d.hnTime k), t2 := none }).emit
      (.hnCtl p 1 (d.get R.HN_CTRL_NODE_ID * 2 ^ 32 + (d.hlane p).seq)) := by
  rw [Dev.dlyReqSend, h]; rfl

theorem Dev.dlyT2_measured (h : d.measures p = true) (v : Nat) : d.dlyT2 p v = d.setLane p { d.hlane p with t2 := some v } := by
  rw [Dev.dlyT2, h]; rfl

theorem Dev.dlyReqSend_unmeasured (h : d.measures p = false) (k : Nat) : d.dlyReqSend p k = d := by rw [Dev.dlyReqSend, h]; rfl
theorem Dev.dlyT2_unmeasured (h : d.measures p = false) (v : Nat) : d.dlyT2 p v = d := by rw [Dev.dlyT2, h]; rfl
theorem Dev.dlyT3_unmeasured (h : d.measures p = false) (v k : Nat) : d.dlyT3 p v k = d := by rw [Dev.dlyT3, h]; rfl
theorem Dev.slotEcho_unmeasured (h : d.measures p = false) (v : Nat) : d.slotEcho p v = d := by rw [Dev.slotEcho, h]; rfl

end

/-! ### The star's answer -/

theorem Dev.dlyReq_ignored {d : Dev} {p : Nat} (h : d.hn.active = false ∨ d.linkUp p = false ∨ d.role p ≠ 3) (node k gap k3 : Nat) :
    d.dlyReq p node k gap k3 = d := if_pos (by simpa using or_assoc.mpr h)

/-- A star in service learns the member's ID (R279). -/
def Dev.learnMember (d : Dev) (p node : Nat) : Dev :=
  ((d.set (R.HN_LANE_STATUS_MEMBER_ID p) node).setLane p { d.hlane p with known := true }).showDups

/-- It answers with DLY_T2, and after the gap with DLY_T3 (R282). -/
theorem Dev.dlyReq_taken {d : Dev} {p : Nat} (hactive : d.hn.active = true) (hlink : d.linkUp p = true) (hrole : d.role p = 3) (node k gap k3 : Nat) :
    d.dlyReq p node k gap k3 = (((d.learnMember p node).emit (.hnCtl p 2 (d.hnTime k))).ticks gap).emit
      (.hnCtl p 3 ((((d.learnMember p node).emit (.hnCtl p 2 (d.hnTime k))).ticks gap).hnTime k3)) := if_neg (by simp [hactive, hlink, hrole])

/-- One lane's DUP_ID follows the member IDs (R279). -/
def Dev.showDup (a : Dev) (p : Nat) : Dev :=
  if a.role p != 3 then a
  else if a.isDup p == a.on (R.HN_LANE_STATUS_DUP_ID p) then a
  else if a.isDup p then (a.set (R.HN_LANE_STATUS_DUP_ID p) 1).hnCause p (R.HN_LANE_EVT_DUP_ID p) 8
  else a.set (R.HN_LANE_STATUS_DUP_ID p) 0

/-- A lane's DUP_ID, its event and no more. -/
theorem Dev.showDup_frame (a : Dev) (p : Nat) (hp : p < 16) :
    a.showDup p = { a with regs := (a.showDup p).regs, out := (a.showDup p).out, eng := (a.showDup p).eng, pwr := (a.showDup p).pwr } ∧
      ∀ g : Fld, block g ≠ 3 → g.key ≠ (R.HN_LANE_STATUS_DUP_ID p).key → g.key ≠ (R.HN_LANE_EVT_DUP_ID p).key → (a.showDup p).get g = a.get g := by
  have hcause := EventFrame.cause (a.set (R.HN_LANE_STATUS_DUP_ID p) 1) (R.HN_LANE_EVT_DUP_ID p)
    (((a.set (R.HN_LANE_STATUS_DUP_ID p) 1).get (R.HN_LANE_EVT_EN p)).testBit 8) (200 + p) (by omega)
  unfold Dev.showDup
  split
  · exact ⟨rfl, fun _ _ _ _ => rfl⟩
  split
  · exact ⟨rfl, fun _ _ _ _ => rfl⟩
  split
  · refine ⟨hcause.rest, fun g hb hdup hevt => ?_⟩
    exact (hcause.get g hb).trans ((Dev.get_set_ne _ _ _ _ hevt).trans (Dev.get_set_ne _ _ _ _ hdup))
  · exact ⟨rfl, fun g _ hdup _ => Dev.get_set_ne _ _ _ _ hdup⟩

/-- The check for duplicates keeps the member IDs, the lanes and the instant. -/
theorem Dev.showDups_effect (d : Dev) (p : Nat) :
    d.showDups.get (R.HN_LANE_STATUS_MEMBER_ID p) = d.get (R.HN_LANE_STATUS_MEMBER_ID p) ∧ d.showDups.hn = d.hn ∧ d.showDups.now = d.now := by
  refine List.foldlRecOn (motive := fun a : Dev =>
    a.get (R.HN_LANE_STATUS_MEMBER_ID p) = d.get (R.HN_LANE_STATUS_MEMBER_ID p) ∧ a.hn = d.hn ∧ a.now = d.now) (List.range 16) _ ⟨rfl, rfl, rfl⟩ fun a h q hq => ?_
  obtain ⟨hid, hhn, hnow⟩ := h
  obtain ⟨hrest, hget⟩ := a.showDup_frame q (List.mem_range.mp hq)
  show (a.showDup q).get _ = _ ∧ (a.showDup q).hn = _ ∧ (a.showDup q).now = _
  refine ⟨(hget _ ?_ ?_ ?_).trans hid, by rw [hrest]; exact hhn, by rw [hrest]; exact hnow⟩
  all_goals simp only [block, Fld.key, R.HN_LANE_STATUS_MEMBER_ID, R.HN_LANE_STATUS_DUP_ID, R.HN_LANE_EVT_DUP_ID]; omega

/-- A star that takes DLY_REQ (R279, R282). -/
theorem Dev.dlyReq_effect {d : Dev} {p : Nat} (hp : p < 16) (hactive : d.hn.active = true) (hlink : d.linkUp p = true) (hrole : d.role p = 3)
    {node : Nat} (hnode : node < 2 ^ 16) (k gap k3 : Nat) :
    (d.dlyReq p node k gap k3).get (R.HN_LANE_STATUS_MEMBER_ID p) = node ∧ ((d.dlyReq p node k gap k3).hlane p).known = true ∧
      .hnCtl p 2 (d.hnTime k) ∈ (d.dlyReq p node k gap k3).out ∧ (∃ v, (d.dlyReq p node k gap k3).out.getLast? = some (.hnCtl p 3 v)) ∧
      (d.dlyReq p node k gap k3).now = d.now + 2 * gap := by
  obtain ⟨hid, hhn, hnow⟩ := Dev.showDups_effect ((d.set (R.HN_LANE_STATUS_MEMBER_ID p) node).setLane p { d.hlane p with known := true }) p
  have htime := TimeFrame.ticks ((d.learnMember p node).emit (.hnCtl p 2 (d.hnTime k))) gap
  have hblock : block (R.HN_LANE_STATUS_MEMBER_ID p) = 0xD := by simp only [block, Fld.key, R.HN_LANE_STATUS_MEMBER_ID]; omega
  rw [Dev.dlyReq_taken hactive hlink hrole]
  refine ⟨?_, ?_, ?_, ⟨_, List.getLast?_concat⟩, ?_⟩
  · rw [Dev.get_emit, htime.get_hn hblock, Dev.get_emit]
    exact hid.trans ((Dev.get_set_same ..).trans (Nat.mod_eq_of_lt hnode))
  · have hlanes : (d.learnMember p node).hn = (d.setLane p { d.hlane p with known := true }).hn := hhn
    rw [Dev.hlane, Dev.emit_hn, htime.hn, Dev.emit_hn, hlanes]
    exact congrArg HnLane.known (Dev.hlane_setLane_same ..)
  · refine List.mem_append_left _ ?_
    rw [htime.out]
    exact List.mem_append_right _ List.mem_cons_self
  · rw [Dev.emit_now, Dev.ticks_now, Dev.emit_now, Dev.learnMember, hnow]
    rfl

/-! ### The measurement -/

/-- Half of the round trip without the star's part of it, in 1/256 ns (R282). -/
def measuredDelay (t1 t2 t3 t4 : Nat) : Nat := ((((t4 : Int) - t1) - ((t3 : Int) - t2)) % (2 ^ 48 : Nat) / 512 % (2 ^ 32 : Nat)).toNat

/-- Half of the difference of the two ways, less the asymmetry, in 1/256 ns (R282). -/
def measuredOffset (t1 t2 t3 t4 : Nat) (asym : Int) : Int :=
  (toSigned 48 (ofSigned 48 (((t4 : Int) - t3) - ((t2 : Int) - t1))) - asym * 256) / 512

theorem measuredDelay_lt (t1 t2 t3 t4 : Nat) : measuredDelay t1 t2 t3 t4 < 2 ^ 32 := by
  unfold measuredDelay
  omega

theorem Dev.dlyT3_incomplete {d : Dev} {p : Nat} (h : (d.hlane p).t1 = none ∨ (d.hlane p).t2 = none) (v k : Nat) : d.dlyT3 p v k = d := by
  obtain h | h := h <;> simp [Dev.dlyT3, h]

/-- With t1 and t2 known DLY_T3 gives a measurement, which counts towards integration (R282, R307). -/
theorem Dev.dlyT3_complete {d : Dev} {p t1 t2 : Nat} (hm : d.measures p = true) (h1 : (d.hlane p).t1 = some t1) (h2 : (d.hlane p).t2 = some t2)
    (t3 k : Nat) : ∃ delayAvg offsetAvg delays offsets, d.dlyT3 p t3 k =
      ((((((d.set (R.HN_DELAY p) (measuredDelay t1 t2 t3 (d.hnTime k))).set (R.HN_OFFSET p)
        (ofSigned 32 (measuredOffset t1 t2 t3 (d.hnTime k) (toSigned 16 (d.get (R.HN_LANE_CFG_ASYM p)))))).set (R.HN_DELAY_AVG p) delayAvg).set
        (R.HN_OFFSET_AVG p) offsetAvg).set (R.HN_LANE_STATUS_DLY_VALID p) 1).setLane p
        { d.hlane p with t1 := none, t2 := none, gotT3 := true, delays := delays, offsets := offsets }).integrate p := by
  simp only [Dev.dlyT3, hm, h1, h2]
  exact ⟨_, _, _, _, rfl⟩

/-- The registers of a measurement, in the order of their places. -/
theorem delayKeys_rise (p : Nat) : (R.HN_LANE_STATUS_DLY_VALID p).key < (R.HN_DELAY p).key ∧ (R.HN_DELAY p).key < (R.HN_DELAY_AVG p).key ∧
    (R.HN_DELAY_AVG p).key < (R.HN_OFFSET p).key ∧ (R.HN_OFFSET p).key < (R.HN_OFFSET_AVG p).key := by
  simp only [Fld.key, R.HN_LANE_STATUS_DLY_VALID, R.HN_DELAY, R.HN_DELAY_AVG, R.HN_OFFSET, R.HN_OFFSET_AVG]
  omega

/-- They are none of those of the states and of events. -/
theorem delayKeys_apart : ∀ p : Fin 16, ∀ f ∈ [R.HN_LANE_STATUS_DLY_VALID p, R.HN_DELAY p, R.HN_OFFSET p],
    block f ≠ 3 ∧ ∀ g ∈ hnStateRegs, f.key ≠ g.key := by decide

/-- What a whole measurement leaves (R282, R283). -/
theorem Dev.dlyT3_effect {d : Dev} {p : Fin 16} {t1 t2 : Nat} (hm : d.measures p = true) (h1 : (d.hlane p).t1 = some t1)
    (h2 : (d.hlane p).t2 = some t2) (t3 k : Nat) :
    (d.dlyT3 p t3 k).get (R.HN_LANE_STATUS_DLY_VALID p) = 1 ∧ ((d.dlyT3 p t3 k).hlane p).t1 = none ∧ ((d.dlyT3 p t3 k).hlane p).gotT3 = true ∧
      (d.dlyT3 p t3 k).get (R.HN_DELAY p) = measuredDelay t1 t2 t3 (d.hnTime k) ∧
      (d.dlyT3 p t3 k).get (R.HN_OFFSET p) = ofSigned 32 (measuredOffset t1 t2 t3 (d.hnTime k) (toSigned 16 (d.get (R.HN_LANE_CFG_ASYM p)))) := by
  obtain ⟨delayAvg, offsetAvg, delays, offsets, h⟩ := Dev.dlyT3_complete hm h1 h2 t3 k
  obtain ⟨hvd, hda, hao, hoo⟩ := delayKeys_rise p
  have hkeep (m : Dev) (f : Fld) (hf : f ∈ [R.HN_LANE_STATUS_DLY_VALID p, R.HN_DELAY p, R.HN_OFFSET p]) : (m.integrate p).get f = m.get f :=
    let ⟨hblock, hne⟩ := delayKeys_apart p f hf
    (HnFrame.integrate m p).get f hblock hne
  rw [h]
  refine ⟨?_, ?_, ?_, ?_, ?_⟩
  · rw [hkeep _ _ (by simp), Dev.get_setLane, Dev.get_set_same]; rfl
  · rw [Dev.hlane_congr (HnFrame.integrate _ _).lanes, Dev.hlane_setLane_same]
  · rw [Dev.hlane_congr (HnFrame.integrate _ _).lanes, Dev.hlane_setLane_same]
  · rw [hkeep _ _ (by simp), Dev.get_setLane, Dev.get_set_ne _ _ _ _ (by omega), Dev.get_set_ne _ _ _ _ (by omega),
      Dev.get_set_ne _ _ _ _ (by omega), Dev.get_set_ne _ _ _ _ (by omega), Dev.get_set_same]
    exact Nat.mod_eq_of_lt (measuredDelay_lt ..)
  · rw [hkeep _ _ (by simp), Dev.get_setLane, Dev.get_set_ne _ _ _ _ (by omega), Dev.get_set_ne _ _ _ _ (by omega),
      Dev.get_set_ne _ _ _ _ (by omega), Dev.get_set_same]
    exact Nat.mod_eq_of_lt (ofSigned_lt 32 _)

/-- Settles O23, row by row; the star's answer by `Dev.dlyReq_effect`, a measurement by `Dev.dlyT3_effect`. -/
theorem harnessDelay : Obligations.HarnessDelay := by
  refine ⟨fun p k s hm => ⟨_, exec_dlyReqSend p k s, ?_⟩, fun p node sq k k3 gap s hactive hlink hrole => ?_, fun p node sq k k3 gap s h => ?_,
    fun p v s hm => ⟨_, exec_dlyT2 p v s, ?_⟩, fun p v k t1 t2 s hm h1 h2 => ⟨_, exec_dlyT3 p v k s, ?_⟩, fun p v k s h => ?_,
    fun p v k s hm => ⟨?_, ?_, ?_, ?_⟩⟩
  · rw [State.on, Dev.dlyReqSend_measured hm]
    exact ⟨rfl, Dev.hlane_setLane_same .., rfl, rfl, fun q hq => Dev.hlane_setLane_ne _ _ _ _ hq⟩
  · obtain ⟨hid, hknown, hT2, ⟨v, hT3⟩, hnow⟩ := Dev.dlyReq_effect p.isLt hactive hlink hrole node.isLt k gap k3
    exact ⟨_, v, exec_dlyReq p node sq k k3 gap s, hid, hknown, hT2, hT3, hnow, rfl⟩
  · rw [exec_dlyReq, State.on, Dev.dlyReq_ignored h]
  · rw [State.on, Dev.dlyT2_measured hm]
    exact ⟨Dev.hlane_setLane_same .., rfl, rfl⟩
  · obtain ⟨hvalid, ht1, hgot, hdelay, hoffset⟩ := Dev.dlyT3_effect hm h1 h2 v.toNat k
    refine ⟨hvalid, ht1, hgot, ?_, hoffset⟩
    rw [State.on_dev, hdelay, measuredDelay]
    omega
  · rw [exec_dlyT3, State.on, Dev.dlyT3_incomplete h]
  · rw [exec_dlyReqSend, State.on, Dev.dlyReqSend_unmeasured hm]
  · rw [exec_dlyT2, State.on, Dev.dlyT2_unmeasured hm]
  · rw [exec_dlyT3, State.on, Dev.dlyT3_unmeasured hm]
  · rw [exec_slotEcho, State.on, Dev.slotEcho_unmeasured hm]

end Sys2Proof.Machine
end

section
/-! PROOFS. Harness frames that are sent (R287, R291), and the states in which a node begins to take part (R300, R301, R322). -/

namespace Sys2Proof.Machine
open Sys2Proof Sys2Proof.Safety

/-! ### Frames sent on lanes -/

theorem Dev.hnSend_cons (d : Dev) (p : Nat) (lanes : List Nat) (l : List Byte) (cut : Bool) :
    d.hnSend (p :: lanes) l cut = ((d.inc (R.HN_CNT_TX_FRAMES p)).emit (.harness p l cut)).hnSend lanes l cut := rfl

theorem Dev.hnSend_out (d : Dev) (lanes : List Nat) (l : List Byte) (cut : Bool) :
    (d.hnSend lanes l cut).out = d.out ++ lanes.map (fun p => .harness p l cut) := by
  induction lanes generalizing d with
  | nil => exact (List.append_nil _).symm
  | cons p lanes ih =>
    rw [Dev.hnSend_cons, ih, List.map_cons]
    exact List.append_assoc d.out [_] _

theorem Dev.hnSend_hn (d : Dev) (lanes : List Nat) (l : List Byte) (cut : Bool) : (d.hnSend lanes l cut).hn = d.hn :=
  List.foldlRecOn (motive := fun a : Dev => a.hn = d.hn) _ _ rfl fun _ h _ _ => h

/-- The counts of frames sent are the only registers that sending changes. -/
theorem Dev.get_hnSend (d : Dev) (lanes : List Nat) (l : List Byte) (cut : Bool) {g : Fld} (hg : ∀ p, g.key ≠ (R.HN_CNT_TX_FRAMES p).key) :
    (d.hnSend lanes l cut).get g = d.get g :=
  List.foldlRecOn (motive := fun a : Dev => a.get g = d.get g) _ _ rfl fun a h p _ => (a.get_inc_ne _ g (hg p)).trans h

theorem Dev.role_eq (d : Dev) (p : Nat) : d.role p = if d.get (R.PORT_CTRL_MODE p) = 5 then d.get (R.HN_LANE_CFG_ROLE p) else 0 := rfl

theorem Dev.withHn_withHn (d : Dev) (f g : HnSt → HnSt) : (d.withHn f).withHn g = d.withHn (fun h => g (f h)) := rfl

theorem Dev.lanesOf_withHn (d : Dev) (f : HnSt → HnSt) (roles : List Nat) : (d.withHn f).lanesOf roles = d.lanesOf roles := rfl

/-! ### What the states show -/

/-- The registers of a node's own states are none of its lanes' (R321). -/
theorem hnState_apart {f : Fld} (h : f ∈ [R.HN_STATUS_UP_STATE, R.HN_STATUS_STAR_STATE, R.HN_STATUS_TIME_SRC]) (p : Nat) :
    block f ≠ 3 ∧ f.key ≠ (R.HN_LANE_EVT_STATE_CHG p).key ∧ f.key ≠ (R.HN_LANE_STATUS_FOLLOWED p).key ∧ f.key ≠ (R.HN_CNT_TX_FRAMES p).key := by
  simp only [List.mem_cons, List.not_mem_nil, or_false] at h
  obtain rfl | rfl | rfl := h <;>
    simp only [block, Fld.key, R.HN_STATUS_UP_STATE, R.HN_STATUS_STAR_STATE, R.HN_STATUS_TIME_SRC, R.HN_LANE_EVT_STATE_CHG,
      R.HN_LANE_STATUS_FOLLOWED, R.HN_CNT_TX_FRAMES] <;> omega

section
variable {f : Fld} (hf : f ∈ [R.HN_STATUS_UP_STATE, R.HN_STATUS_STAR_STATE, R.HN_STATUS_TIME_SRC])
include hf

theorem Dev.get_stateChg (d : Dev) : d.stateChg.get f = d.get f := by
  unfold Dev.stateChg
  split
  · next p hp =>
    obtain ⟨hblock, hchg, -⟩ := hnState_apart hf p
    have hlt := Dev.followed_lt hp
    exact Dev.cause_get_ne _ _ _ _ _ (by omega) hblock hchg
  · rfl

theorem Dev.get_showFollowed (d : Dev) : d.showFollowed.get f = d.get f :=
  List.foldlRecOn (motive := fun a : Dev => a.get f = d.get f) _ _ rfl fun a h p _ =>
    let ⟨_, _, hfollowed, _⟩ := hnState_apart hf p
    (Dev.get_set_ne a _ _ _ hfollowed).trans h

theorem Dev.get_hnSend_state (d : Dev) (lanes : List Nat) (l : List Byte) (cut : Bool) : (d.hnSend lanes l cut).get f = d.get f :=
  d.get_hnSend lanes l cut fun p =>
    let ⟨_, _, _, hsent⟩ := hnState_apart hf p
    hsent

end

/-- `UP_STATE` shows the state taken. -/
theorem Dev.get_setUp (d : Dev) (st : Nat) (hst : st < 16) : (d.setUp st).get R.HN_STATUS_UP_STATE = st := by
  unfold Dev.setUp
  extract_lets d1 d2
  have h1 : d1.get R.HN_STATUS_UP_STATE = d.get R.HN_STATUS_UP_STATE := by
    unfold d1
    split
    · exact Dev.get_set_ne _ _ _ _ (by decide)
    · rfl
  have h2 : d2.get R.HN_STATUS_UP_STATE = d1.get R.HN_STATUS_UP_STATE := by
    unfold d2
    split
    · exact Dev.get_set_ne _ _ _ _ (by decide)
    · rfl
  split
  · next h => exact (h2.trans h1).trans h
  · rw [Dev.get_stateChg (by simp), Dev.get_set_same]
    exact Nat.mod_eq_of_lt hst

/-- `STAR_STATE` shows the state taken, and `UP_STATE` stays. -/
theorem Dev.get_setStar (d : Dev) (st : Nat) (hst : st < 16) :
    (d.setStar st).get R.HN_STATUS_STAR_STATE = st ∧ (d.setStar st).get R.HN_STATUS_UP_STATE = d.get R.HN_STATUS_UP_STATE := by
  unfold Dev.setStar
  split
  · next h => exact ⟨h, rfl⟩
  · rw [Dev.get_stateChg (by simp), Dev.get_stateChg (by simp), Dev.get_set_same]
    exact ⟨Nat.mod_eq_of_lt hst, Dev.get_set_ne _ _ _ _ (by decide)⟩

/-! ### Taking part -/

/-- The first state of a node (R300). -/
def Dev.firstUp (d : Dev) : Nat := if d.followed.isSome then 1 else 0

/-- The first state of its star (R301). -/
def Dev.firstStar (d : Dev) : Nat := if !d.isStar then 0 else if d.followed.isSome then 1 else 2

theorem Dev.firstUp_lt (d : Dev) : d.firstUp < 16 := by unfold Dev.firstUp; split <;> omega

theorem Dev.firstStar_lt (d : Dev) : d.firstStar < 16 := by
  unfold Dev.firstStar
  split
  · omega
  · split <;> omega

theorem Dev.get_hnStates (d : Dev) :
    d.hnStates.get R.HN_STATUS_UP_STATE = d.firstUp ∧ d.hnStates.get R.HN_STATUS_STAR_STATE = d.firstStar := by
  obtain ⟨hstar, hup⟩ := Dev.get_setStar (d.setUp d.firstUp) d.firstStar d.firstStar_lt
  constructor
  · exact (Dev.get_set_ne _ _ _ _ (by decide)).trans ((Dev.get_set_ne _ _ _ _ (by decide)).trans (hup.trans (d.get_setUp _ d.firstUp_lt)))
  · exact (Dev.get_set_ne _ _ _ _ (by decide)).trans ((Dev.get_set_ne _ _ _ _ (by decide)).trans hstar)

theorem HnFrame.hnStates (d : Dev) : HnFrame d d.hnStates := by
  unfold Dev.hnStates
  extract_lets d1
  have h1 : HnFrame d d1 := (HnFrame.setUp d _).trans (.setStar _ _)
  exact ((h1.trans (.set _ _ _ (by simp [hnStateRegs]))).trans (.set _ _ _ (by simp [hnStateRegs]))).trans (.withHn _ _ rfl rfl)

theorem HnFrame.showFollowed (d : Dev) : HnFrame d d.showFollowed :=
  List.foldlRecOn (motive := fun a : Dev => HnFrame d a) _ _ (.refl d) fun _ h p hp =>
    h.trans (.set _ _ _ (mem_hnStateRegs_of_lane p (List.mem_range.mp hp) (by simp)))

/-- The device with EN set, about to take part (R322). -/
def Dev.hnEnabled (d : Dev) : Dev := (d.set R.HN_CTRL_EN 1).withHn (fun h => { h with stopPend := false, active := true })

/-- What the device follows and whether it is a star are the configuration's, not EN's. -/
theorem Dev.firsts_hnEnabled (d : Dev) : d.hnEnabled.firstUp = d.firstUp ∧ d.hnEnabled.firstStar = d.firstStar := by
  have hget : ∀ f : Fld, f.key ≠ R.HN_CTRL_EN.key → d.hnEnabled.get f = d.get f := fun f hf => Dev.get_set_ne d _ _ _ hf
  have hon : ∀ f : Fld, f.key ≠ R.HN_CTRL_EN.key → d.hnEnabled.on f = d.on f := fun f hf => Dev.on_set_ne d _ _ _ hf
  have hfollowed : d.hnEnabled.followed = d.followed := by
    simp only [Dev.followed, hon R.HN_STATUS_ON_STANDBY (by decide), hon R.HN_CTRL_UP_EN (by decide), hon R.HN_CTRL_STBY_EN (by decide),
      hget R.HN_CTRL_STBY_LANE (by decide), hget R.HN_CTRL_UP_LANE (by decide)]
  have hrole : ∀ p, d.hnEnabled.role p = d.role p := fun p => by
    rw [Dev.role_eq, Dev.role_eq, hget (R.PORT_CTRL_MODE p) (by simp only [Fld.key, R.PORT_CTRL_MODE, R.HN_CTRL_EN]; omega),
      hget (R.HN_LANE_CFG_ROLE p) (by simp only [Fld.key, R.HN_LANE_CFG_ROLE, R.HN_CTRL_EN]; omega)]
  have hstar : d.hnEnabled.isStar = d.isStar := by simp only [Dev.isStar, Dev.laneOf, hrole]
  exact ⟨by rw [Dev.firstUp, hfollowed]; rfl, by rw [Dev.firstStar, hfollowed, hstar]; rfl⟩

theorem Dev.hnEnable_start {d : Dev} (h : d.hn.active = false) (w : Writer) : d.hnEnable w 1 = d.hnEnabled.hnStates.showFollowed := by
  have hrun : (if d.hn.active then d.hnEnabled else d.hnEnabled.hnStates.showFollowed) = d.hnEnabled.hnStates.showFollowed := by rw [h]; rfl
  exact hrun

theorem Dev.hnEnable_stop {d : Dev} (h : d.on R.HN_CTRL_EN = true) (w : Writer) :
    d.hnEnable w 0 = (d.set R.HN_CTRL_EN 0).withHn (fun h => { h with stopPend := true }) := if_pos h

theorem Dev.hnEnable_stopped {d : Dev} (h : d.on R.HN_CTRL_EN = false) (w : Writer) : d.hnEnable w 0 = d := if_neg (by simp [h])

/-- A device that begins to take part (R300, R301, R322). -/
theorem Dev.hnEnable_start_effect {d : Dev} (h : d.hn.active = false) (w : Writer) :
    (d.hnEnable w 1).get R.HN_CTRL_EN = 1 ∧ (d.hnEnable w 1).hn.active = true ∧ (d.hnEnable w 1).get R.HN_STATUS_UP_STATE = d.firstUp ∧
      (d.hnEnable w 1).get R.HN_STATUS_STAR_STATE = d.firstStar := by
  obtain ⟨hfirstUp, hfirstStar⟩ := d.firsts_hnEnabled
  obtain ⟨hup, hstar⟩ := d.hnEnabled.get_hnStates
  have hframe := (HnFrame.hnStates d.hnEnabled).trans (.showFollowed _)
  rw [Dev.hnEnable_start h]
  refine ⟨?_, hframe.active, ?_, ?_⟩
  · rw [hframe.get _ (by decide) (by decide)]
    exact Dev.get_set_same ..
  · rw [Dev.get_showFollowed (by simp), hup, hfirstUp]
  · rw [Dev.get_showFollowed (by simp), hstar, hfirstStar]

end Sys2Proof.Machine
end

section
/-! PROOFS. Slots of the Harness: the clause of the statement on a hash that is the device's own (R280, R311). -/

namespace Sys2Proof.Machine
open Sys2Proof Sys2Proof.Safety

/-! ### A hash is a number of 48 bits (R280) -/

theorem shaRound_length (s : List W32) (kw : W32) : (shaRound s kw).length = s.length := by
  unfold shaRound
  split <;> rfl

theorem shaCompress_length (s block : List W32) : (shaCompress s block).length = s.length := by
  have hrounds (l : List (W32 × W32)) : (l.foldl (fun a kw => shaRound a (kw.1 + kw.2)) s).length = s.length :=
    List.foldlRecOn (motive := fun a : List W32 => a.length = s.length) _ _ rfl fun a h kw _ => (shaRound_length a _).trans h
  simp [shaCompress, hrounds]

theorem shaBlocks_length (n : Nat) (s l : List W32) : (shaBlocks n s l).length = s.length := by
  induction n generalizing s l with
  | zero => rfl
  | succ n ih =>
    unfold shaBlocks
    split
    · rfl
    · rw [ih, shaCompress_length]

theorem hashBytes_length (l : List W32) : (hashBytes l).length = 4 * l.length := by
  induction l with
  | nil => rfl
  | cons w ws ih =>
    rw [hashBytes] at ih ⊢
    rw [List.flatMap_cons, List.length_append, ih, List.length_map]
    change 4 + 4 * ws.length = 4 * (ws.length + 1)
    omega

theorem hashBytes_sha256_length (m : List Byte) : (hashBytes (sha256 m)).length = 32 := by
  have hwords : (sha256 m).length = 8 := shaBlocks_length ..
  rw [hashBytes_length, hwords]

theorem beNat_append_singleton (l : List Byte) (b : Byte) : beNat (l ++ [b]) = beNat l * 256 + b.toNat := by
  rw [beNat, List.foldl_append]
  rfl

theorem beNat_reverse_lt (l : List Byte) : beNat l.reverse < 256 ^ l.length := by
  induction l with
  | nil => decide
  | cons b l ih =>
    have hb := b.isLt
    rw [List.reverse_cons, beNat_append_singleton, List.length_cons, Nat.pow_succ]
    omega

theorem beNat_lt (l : List Byte) : beNat l < 256 ^ l.length := by
  have h := beNat_reverse_lt l.reverse
  rwa [List.reverse_reverse, List.length_reverse] at h

theorem tableHash_lt (l : List HnSlot) : tableHash l < 2 ^ 48 := by
  have h := beNat_lt ((hashBytes (sha256 (l.flatMap HnSlot_bytes))).drop 26)
  rwa [List.length_drop, hashBytes_sha256_length] at h

/-! ### The hash of the device's own table -/

theorem exec_tableHash (p : Fin 16) (v : BitVec 48) (s : State) : exec (.tableHash p v) s = .next (s.on fun d => d.tableHashRx p v.toNat) := rfl

/-- A standby that is neither in RUN nor in SYNC notes that the star has its own table, and does nothing else (R311). -/
theorem Dev.tableHashRx_sameHash {d : Dev} {p v : Nat} (hactive : d.hn.active = true) (hrole : d.role p = 4) (hlink : d.linkUp p = true)
    (hstar : d.get R.HN_STATUS_STAR_STATE ≠ 3) (hv : v = tableHash d.hn.down) (hup : d.get R.HN_STATUS_UP_STATE ≠ 4) :
    d.tableHashRx p v = d.withHn (fun h => { h with hashOk := true }) := by
  have hmonitor : (!d.hn.active || d.role p != 4 || !d.linkUp p || d.get R.HN_STATUS_STAR_STATE == 3) = false := by simp [hactive, hrole, hlink, hstar]
  rw [Dev.tableHashRx, hmonitor, if_neg Bool.false_ne_true, if_neg (not_not_intro hv)]
  exact if_neg hup

/-- A root standby in INTEGRATE with an empty slot table, whose MONITOR lane 15 is up and has shown no hash yet. -/
def standbyInIntegrate : State := State.reset.on fun d =>
  (((((d.set (R.PORT_CTRL_MODE 15) 5).set (R.HN_LANE_CFG_ROLE 15) 4).set (R.PORT_STATUS_LINK 15) 1).set R.HN_STATUS_UP_STATE 3).set
    R.HN_STATUS_STAR_STATE 1).withHn fun h => { h with active := true }

/-- The hash of the empty table. -/
def emptyTableHash : BitVec 48 := BitVec.ofNat 48 (tableHash [])

theorem emptyTableHash_toNat : emptyTableHash.toNat = tableHash [] := by
  rw [emptyTableHash, BitVec.toNat_ofNat, Nat.mod_eq_of_lt (tableHash_lt [])]

/-- The hash of its own table makes that standby note it. -/
theorem exec_tableHash_standbyInIntegrate : exec (.tableHash 15 emptyTableHash) standbyInIntegrate =
    .next (standbyInIntegrate.on fun d => d.withHn (fun h => { h with hashOk := true })) := by
  have hnoted := Dev.tableHashRx_sameHash (d := standbyInIntegrate.dev) (p := 15) rfl (by decide) (by decide) (by decide) emptyTableHash_toNat (by decide)
  exact congrArg (fun d => Host.Outcome.next { standbyInIntegrate with dev := d }) hnoted

/-- Refutes O24: its clause that a TABLE_HASH of the device's own table outside SYNC changes nothing leaves out that the standby notes it, by which it
enters HOT_STANDBY as soon as it is in SYNC (R311). -/
theorem not_harnessSlots : ¬ Obligations.HarnessSlots := by
  rintro ⟨-, -, -, -, -, -, -, -, -, unchanged, -⟩
  have hsame := unchanged 15 emptyTableHash standbyInIntegrate (.inr (.inr (.inr (.inr ⟨emptyTableHash_toNat, by decide⟩))))
  have hnoted := congrArg (fun t => t.dev.hn.hashOk) (Host.Outcome.next.inj (exec_tableHash_standbyInIntegrate.symm.trans hsame))
  exact absurd hnoted (by decide)

end Sys2Proof.Machine
end

section
/-! PROOFS. Cold start and command packets on the Harness (R300 to R305, R314, R317, R318, R322, R624). -/

namespace Sys2Proof.Machine
open Sys2Proof Sys2Proof.Safety

/-! ### The rows -/

theorem exec_hnEnable {w : Writer} {s : State} (hw : Grants s w R.HN_CTRL_EN) {v : W32} (n : Nat) (hv : v.toNat = n) :
    exec (.hnEnable w v) s = .next (s.on fun d => d.hnEnable w n) := hv ▸ State.gate_next hw rfl
theorem exec_listenTimeout (s : State) : exec .listenTimeout s = .next (s.on fun d => d.listenTimeout) := rfl
theorem exec_startupArbitration (s : State) : exec .startupArbitration s = .next (s.on fun d => d.arbitrate) := rfl
theorem exec_cmdFragment (p : Fin 16) (s : State) : exec (.cmdFragment p) s = .next (s.cmdFragment p) := rfl
theorem exec_forwardedReply (p : Fin 16) (s : State) : exec (.forwardedReply p) s = .next (s.forwardedReply p) := rfl
theorem exec_forwardTimeout (id : BitVec 16) (s : State) : exec (.forwardTimeout id) s = .next (s.forwardTimeout id.toNat) := rfl

/-! ### The listen time (R302, R304) -/

/-- The device at the end of its listen time. -/
def Dev.listened (d : Dev) : Dev := d.passNs (d.hn.listenAt + d.listenNs - d.now)

theorem TimeFrame.listened (d : Dev) : TimeFrame d d.listened := .passNs ..

theorem Dev.listenTimeout_inactive {d : Dev} (h : d.hn.active = false) : d.listenTimeout = d := by simp [Dev.listenTimeout, h]

section
variable {d : Dev} (hactive : d.hn.active = true)
include hactive

/-- What the end of a listen time does depends on the states as they were: time leaves them. -/
theorem Dev.listenTimeout_active : d.listenTimeout =
    if d.get R.HN_STATUS_UP_STATE = 1 then
      (if d.hn.heard then d.listened.withHn (fun h => { h with heard := false, listenAt := d.listened.now })
       else if d.on R.HN_CTRL_COLDSTART then d.listened.setUp 2 else d.listened)
    else if d.get R.HN_STATUS_STAR_STATE = 2 then d.listened.withHn (fun h => { h with listenOver := true })
    else d.listened := by
  have htime := TimeFrame.listened d
  have hcold : d.listened.on R.HN_CTRL_COLDSTART = d.on R.HN_CTRL_COLDSTART := by rw [Dev.on, htime.get_hn rfl]; rfl
  rw [← htime.get_hn (f := R.HN_STATUS_UP_STATE) rfl, ← htime.get_hn (f := R.HN_STATUS_STAR_STATE) rfl, ← hcold, ← htime.hn]
  simp only [Dev.listenTimeout, hactive, if_true]
  exact if_neg (by rw [← Dev.listened, htime.hn, hactive]; decide)

end

/-! ### The arbitration of the root star (R303 to R305) -/

theorem TimeFrame.passLaunch (d : Dev) : TimeFrame d d.passLaunch := by
  unfold Dev.passLaunch
  split
  · exact .passAhead ..
  · exact .refl d

theorem Dev.arbitrate_idle {d : Dev} (h : d.hn.active = false ∨ d.get R.HN_STATUS_STAR_STATE ≠ 2 ∨ d.hn.awaitStep = true ∨ d.hn.runIn ≠ 0) :
    d.arbitrate = d := if_pos (by simpa [or_assoc] using h)

/-- The node becomes the source of time: RUN comes at the edge after next (R305). -/
def Dev.timeSource (d : Dev) : Dev :=
  ((d.withHn fun h => { h with claims := [] }).set R.HN_STATUS_TIME_SRC 1).withHn fun h => { h with runIn := 1 }

section
variable {d : Dev} (hactive : d.hn.active = true) (hstar : d.get R.HN_STATUS_STAR_STATE = 2) (hstep : d.hn.awaitStep = false) (hrun : d.hn.runIn = 0)
include hactive hstar hstep hrun

/-- A lone claim of another node is sent to all, and its step awaited. -/
theorem Dev.arbitrate_otherClaim (hcold : d.on R.HN_CTRL_COLDSTART = false) {c : Nat} {l : List Byte} (hclaims : d.hn.claims = [(c, l)])
    (hc : c ≠ d.get R.HN_CTRL_NODE_ID) :
    d.arbitrate = (d.passLaunch.withHn (fun h => { h with claims := [], awaitStep := true, listenOver := false, listenAt := d.passLaunch.now })).hnSend
      (d.passLaunch.lanesOf [3, 4]) l false := by
  have htime := TimeFrame.passLaunch d
  have hcold' : d.passLaunch.on R.HN_CTRL_COLDSTART = false := by rw [Dev.on, htime.get_hn rfl]; exact hcold
  rw [← htime.hn] at hclaims
  rw [← htime.get_hn rfl] at hc
  simp [Dev.arbitrate, hactive, hstar, hstep, hrun, hcold', hclaims, hc, Dev.withHn_withHn, Dev.lanesOf_withHn]

/-- With no claim but its own the node is the source of time, and says so to all. -/
theorem Dev.arbitrate_ownClaim (hcold : d.on R.HN_CTRL_COLDSTART = true) (hover : d.hn.listenOver = true) (hclaims : d.hn.claims = []) :
    d.arbitrate = d.passLaunch.timeSource.hnSend (d.passLaunch.timeSource.lanesOf [3, 4])
      (d.passLaunch.timeSource.hnFrame 2 0 (d.passLaunch.tbNs (d.passLaunch.get R.HN_CTRL_TB)) []) false := by
  have htime := TimeFrame.passLaunch d
  have hcold' : d.passLaunch.on R.HN_CTRL_COLDSTART = true := by rw [Dev.on, htime.get_hn rfl]; exact hcold
  rw [← htime.hn] at hclaims hover
  simp [Dev.arbitrate, hactive, hstar, hstep, hrun, hcold', hclaims, hover, Dev.timeSource]

end

/-! ### Command sections (R314) -/

theorem State.cmdFragment_none {s : State} {p : Nat} (h : ∀ f ∈ s.dev.hn.frags, f.lane ≠ p) : s.cmdFragment p = s := by
  have hfind : s.dev.hn.frags.find? (fun f => f.lane == p) = none := by simpa [List.find?_eq_none] using h
  simp [State.cmdFragment, Dev.takeFrag, hfind]

section
variable {s : State} {p : Nat} {f : HnFrag} {rest : List HnFrag} (hfrags : s.dev.hn.frags = f :: rest) (hlane : f.lane = p) (hlast : f.last = true)
include hfrags hlane hlast

/-- A reply in one section waits to be passed on. -/
theorem State.cmdFragment_reply (hfirst : f.first = true) (hoff : f.off = 0) (hreply : f.reply = true) :
    s.cmdFragment p = s.on fun d => d.withHn fun h =>
      { h with frags := rest, assy := h.assy.del (fragKey f), replies := h.replies ++ [(p, f.bytes)] } := by
  simp [State.cmdFragment, Dev.takeFrag, hfrags, hlane, hfirst, hlast, hoff, hreply, joinFrags, Dev.withHn, State.on]

/-- The end of a packet that has no start is dropped and counted. -/
theorem State.cmdFragment_drop (hfirst : f.first = false) (hnew : Tab.find? s.dev.hn.assy (fragKey f) = none) :
    s.cmdFragment p = s.on fun d => (d.withHn fun h => { h with frags := rest }).inc (R.HN_CNT_CMD_DROP p) := by
  simp [State.cmdFragment, Dev.takeFrag, hfrags, hlane, hfirst, hlast, hnew, Dev.withHn, State.on]

end

/-! ### Replies and timeouts of forwarded commands (R317, R318, R624) -/

theorem State.forwardedReply_none {s : State} {p : Nat} (h : ∀ e ∈ s.dev.hn.replies, e.1 ≠ p) : s.forwardedReply p = s := by
  have hfind : s.dev.hn.replies.find? (fun e => e.1 == p) = none := by simpa [List.find?_eq_none] using h
  simp only [State.forwardedReply, hfind]

theorem State.forwardedReply_first {s : State} {p : Nat} {l : List Byte} {rest : List (Nat × List Byte)} (h : s.dev.hn.replies = (p, l) :: rest) :
    s.forwardedReply p = (s.on fun d => d.withHn fun h => { h with replies := rest }).passReply p l := by
  simp [State.forwardedReply, h, Dev.withHn, State.on]

theorem State.forwardTimeout_none {s : State} {id : Nat} (h : ∀ e ∈ s.dev.hn.fwd, e.id ≠ id) : s.forwardTimeout id = s := by
  have hfind : s.dev.hn.fwd.find? (fun e => e.id == id) = none := by simpa [List.find?_eq_none] using h
  simp only [State.forwardTimeout, hfind]

/-- A forwarded command whose time is up leaves the table, and is answered unless it was for all. -/
theorem State.forwardTimeout_first {s : State} {e : HnFwd} {rest : List HnFwd} (h : s.dev.hn.fwd = e :: rest) :
    s.forwardTimeout e.id =
      if e.all then s.on fun d => (d.passNs (e.until' - d.now)).withHn fun h => { h with fwd := rest }
      else (s.on fun d => (d.passNs (e.until' - d.now)).withHn fun h => { h with fwd := rest }).answer e.op e.req 8 e.req.target.toNat [] := by
  have hhn := (TimeFrame.passNs s.dev (e.until' - s.dev.now)).hn
  simp [State.forwardTimeout, h, Dev.withHn, State.on, hhn]

/-- Settles O26, row by row; the first states by `Dev.hnEnable_start_effect`, the listen time by `Dev.listenTimeout_active`, a claim by
`Dev.arbitrate_otherClaim` and `Dev.arbitrate_ownClaim`, sections, replies and timeouts by the branches of their rows. -/
theorem harnessStart : Obligations.HarnessStart := by
  refine ⟨fun w s hw h => ?_, fun w s hw hon => ⟨_, exec_hnEnable hw 0 rfl, ?_⟩, fun w s hw hoff => ?_,
    fun s hactive hup hheard hcold => ⟨_, exec_listenTimeout s, ?_, rfl⟩, fun s hactive hup hheard => ?_, fun s hactive hup hstar => ?_, fun s h => ?_,
    fun c l s d hactive hstar hstep hrun hcold hclaims hc hd => ⟨_, exec_startupArbitration s, ?_⟩,
    fun s hactive hstar hstep hrun hcold hover hclaims => ⟨_, exec_startupArbitration s, ?_⟩, fun s h => ?_, fun p s h => ?_,
    fun p f rest s hfrags hlane hfirst hlast hoff hreply => ⟨_, exec_cmdFragment p s, ?_⟩,
    fun p f rest s hfrags hlane hfirst hlast hnew => ⟨_, exec_cmdFragment p s, ?_⟩, fun p l rest s h => ?_, fun p s h => ?_,
    fun id e rest s h hid hall => ?_, fun id e rest s h hid hall => ?_, fun id s h => ?_⟩
  · obtain ⟨hen, hactive, hup, hstar⟩ := Dev.hnEnable_start_effect h w
    exact ⟨_, exec_hnEnable hw 1 rfl, hen, hactive, hup, hstar, rfl⟩
  · rw [State.on, Dev.hnEnable_stop hon]
    exact ⟨Dev.get_set_same .., rfl, rfl, rfl, fun g hg => Dev.get_set_ne _ _ _ _ (hg _ List.mem_cons_self)⟩
  · rw [exec_hnEnable hw 0 rfl, State.on, Dev.hnEnable_stopped hoff]
  · rw [State.on_dev, Dev.listenTimeout_active hactive, if_pos hup, if_neg (by simp [hheard]), if_pos hcold]
    exact Dev.get_setUp _ 2 (by decide)
  · rw [exec_listenTimeout, State.on, Dev.listenTimeout_active hactive, if_pos hup, if_pos hheard]
    rfl
  · rw [exec_listenTimeout, State.on, Dev.listenTimeout_active hactive, if_neg hup, if_pos hstar]
    rfl
  · rw [exec_listenTimeout, State.on, Dev.listenTimeout_inactive h]
  · subst hd
    rw [State.on, Dev.arbitrate_otherClaim hactive hstar hstep hrun hcold hclaims hc, Dev.hnSend_hn, Dev.hnSend_out]
    exact ⟨rfl, rfl, rfl, rfl⟩
  · rw [State.on, Dev.arbitrate_ownClaim hactive hstar hstep hrun hcold hover hclaims, Dev.hnSend_hn, Dev.get_hnSend_state (by simp)]
    exact ⟨Dev.get_set_same .., rfl, rfl⟩
  · rw [exec_startupArbitration, State.on, Dev.arbitrate_idle h]
  · rw [exec_cmdFragment, State.cmdFragment_none h]
  · rw [State.cmdFragment_reply hfrags hlane hlast hfirst hoff hreply]
    exact ⟨rfl, rfl, rfl, rfl⟩
  · rw [State.cmdFragment_drop hfrags hlane hlast hfirst hnew]
    exact ⟨rfl, Dev.get_inc_same .., rfl, rfl, fun g hg => Dev.get_inc_ne _ _ _ (hg _ List.mem_cons_self)⟩
  · rw [exec_forwardedReply, State.forwardedReply_first h]
    rfl
  · rw [exec_forwardedReply, State.forwardedReply_none h]
  · rw [exec_forwardTimeout, ← hid, State.forwardTimeout_first h, if_neg (by simp [hall])]
  · rw [exec_forwardTimeout, ← hid, State.forwardTimeout_first h, if_pos hall]
  · rw [exec_forwardTimeout, State.forwardTimeout_none h]

end Sys2Proof.Machine
end

section
/-! PROOFS. A reply that leaves on MB0 or MB1 (R577): the bytes it posts, in a memory in canonical form and in one that is not. -/

namespace Sys2Proof.Machine
open Sys2Proof Sys2Proof.Safety

/-- A post towards the host leaves the payloads alone (R569). -/
theorem State.mbGo_toHost_mem (s : State) (n : Nat) : (s.mbGo n 1).mem = s.mem := by
  unfold State.mbGo
  dsimp only
  split <;> rfl

/-- The pump stores the next fragment of the first reply that waits, once the mailbox is free. -/
theorem State.mbPump_mem {s : State} {n : Nat} {l : List Byte} {rest : List (List Byte)} (hout : s.dev.bridle.out.getD n [] = l :: rest)
    (hfree : s.dev.on (R.MB_STATUS_POSTED n 1) = false) :
    (s.mbPump n).mem = Mem.setBytes s.mem (bar0Mem (0x20100 + n * 0x1000)) (l.take 256) := by
  rw [State.mbPump, hout]
  dsimp only
  rw [if_neg (by simp [hfree]), State.mbGo_toHost_mem]
  rfl

/-- A reply stores its first fragment in the payload of the free mailbox of its port (R577). -/
theorem State.answer_mailbox_mem {s : State} {op : Nat} {r : CmdReq} {st det : Nat} {ps : List Byte} (hreply : r.flags.getLsbD 1 = false)
    (hport : r.port.val < 2) (hout : s.dev.bridle.out.getD r.port [] = []) (hfree : s.dev.on (R.MB_STATUS_POSTED r.port 1) = false) :
    (s.answer op r st det ps).mem =
      Mem.setBytes s.mem (bar0Mem (0x20100 + r.port.val * 0x1000)) ((replyBytes s.dev op r st det ps).take 256) := by
  rw [State.answer, hreply, if_neg Bool.false_ne_true, State.sendPacket, if_pos hport]
  refine State.mbPump_mem (rest := []) ?_ hfree
  exact (Tab.getD_put_same ..).trans (congrArg (· ++ [replyBytes s.dev op r st det ps]) hout)

/-- Bytes that a canonical memory has stored are read back. -/
theorem Mem.bytes_setBytes (m : List Host.Cell) (a : Nat) (l : List Byte) (hm : Memory.wf m = true) : Mem.bytes (Mem.setBytes m a l) a l.length = l := by
  induction l generalizing m a with
  | nil => rfl
  | cons b l ih =>
    rw [Mem.setBytes, List.length_cons, Mem.bytes, ih _ _ (Memory.wf_setByte m a b hm), Mem.byte_setBytes_ne _ _ _ _ (.inl (Nat.lt_succ_self a)),
      Mem.byte_setByte_same m a b hm]

/-- In a canonical memory the mailbox then holds that fragment. -/
theorem State.answer_mailbox_bytes {s : State} {op : Nat} {r : CmdReq} {st det : Nat} {ps : List Byte} (hreply : r.flags.getLsbD 1 = false)
    (hport : r.port.val < 2) (hout : s.dev.bridle.out.getD r.port [] = []) (hfree : s.dev.on (R.MB_STATUS_POSTED r.port 1) = false) (hm : MemOk s) :
    Mem.bytes (s.answer op r st det ps).mem (bar0Mem (0x20100 + r.port.val * 0x1000)) (min 256 (replyBytes s.dev op r st det ps).length) =
      (replyBytes s.dev op r st det ps).take 256 := by
  rw [State.answer_mailbox_mem hreply hport hout hfree, ← List.length_take]
  exact Mem.bytes_setBytes _ _ _ hm

/-- The state after reset, but for a byte of MB0's payload that its memory lists twice: the low byte of a reply's status. -/
def statusListedTwice : State := { State.reset with mem := [(bar0Mem 0x20108, 1), (bar0Mem 0x20108, 2)] }

/-- Refutes O55: its clause on the bytes of a reply in a mailbox ranges over every state, and in `statusListedTwice`, whose memory is not in canonical
form, the status 0 of a PING's reply reads 2. For canonical memories, which every step keeps (`memoryInvariant`), `State.answer_mailbox_bytes` gives them. -/
theorem not_commandRoutesAndReplies : ¬ Obligations.CommandRoutesAndReplies := by
  rintro ⟨-, -, -, -, -, -, -, -, -, reply, -⟩
  obtain ⟨-, -, -, -, -, -, -, -, -, -, mailbox⟩ := reply 0x0B04 { flags := 0 } 0 0 [] statusListedTwice rfl
  obtain ⟨t, ht, -, -, -, hbytes⟩ := mailbox (by decide) rfl (by decide)
  rw [← ht, State.answer_mailbox_mem rfl (by decide) rfl (by decide)] at hbytes
  exact absurd hbytes (by decide)

end Sys2Proof.Machine
end

section
/-! PROOFS. CAN controllers: their registers and causes (R359 to R364), and the change of mode, recovery and CLR_CNT (R333 to R335, R356, R357, R363). -/

namespace Sys2Proof.Machine
open Sys2Proof Sys2Proof.Safety

/-! ### Registers and causes -/

/-- Where the registers of a controller lie that its operations change (R360 to R363). -/
theorem canKeys (c : Nat) : (R.CAN_CTRL_MODE c).key = 0x1200000 + c * 0x40000 ∧
    (R.CAN_STATUS_CFG_ERR c).key = 0x120009C + c * 0x40000 ∧ (R.CAN_STATUS_MODE_NOW c).key = 0x1200099 + c * 0x40000 ∧
    (R.CAN_STATUS_STATE c).key = 0x1200097 + c * 0x40000 ∧
    (R.CAN_STATUS_TEC c).key = 0x1200088 + c * 0x40000 ∧ (R.CAN_STATUS_REC c).key = 0x1200080 + c * 0x40000 ∧
    (R.CAN_TDC_TDCV c).key = 0x1200298 + c * 0x40000 ∧
    (R.CAN_EVT_MODE_CHG c).key = 0x1200800 + c * 0x40000 ∧ (R.CAN_EVT_TX_DONE c).key = 0x1200801 + c * 0x40000 ∧
    (R.CAN_EVT_TX_FAIL c).key = 0x1200802 + c * 0x40000 ∧ (R.CAN_EVT_RX c).key = 0x1200806 + c * 0x40000 ∧
    (R.CAN_CNT_TX_OK c).key = 0x1201000 + c * 0x40000 ∧ (R.CAN_CNT_RX_OK c).key = 0x1201080 + c * 0x40000 ∧
    (R.CAN_CNT_ARB_LOST c).key = 0x1201100 + c * 0x40000 ∧ (R.CAN_CNT_RX_OVERWRITE c).key = 0x1201300 + c * 0x40000 ∧
    (R.CAN_EVT_RX_OVERWRITE c).key = 0x1200807 + c * 0x40000 := by
  simp only [Fld.key, R.CAN_CTRL_MODE, R.CAN_STATUS_CFG_ERR, R.CAN_STATUS_MODE_NOW, R.CAN_STATUS_STATE, R.CAN_STATUS_TEC,
    R.CAN_STATUS_REC, R.CAN_TDC_TDCV, R.CAN_EVT_MODE_CHG, R.CAN_EVT_TX_DONE, R.CAN_EVT_TX_FAIL, R.CAN_EVT_RX, R.CAN_CNT_TX_OK, R.CAN_CNT_RX_OK,
    R.CAN_CNT_ARB_LOST, R.CAN_CNT_RX_OVERWRITE, R.CAN_EVT_RX_OVERWRITE]
  omega

/-- Where the registers of a transmit buffer lie (R364). -/
theorem txbKeys (c n : Nat) : (R.TXB_STATUS_STATE c n).key = 0x1208380 + c * 0x40000 + n * 0x400 ∧
    (R.TXB_STATUS_ATTEMPTS c n).key = 0x1208388 + c * 0x40000 + n * 0x400 ∧ (R.TXB_TS c n).key = 0x1208200 + c * 0x40000 + n * 0x400 := by
  simp only [Fld.key, R.TXB_STATUS_STATE, R.TXB_STATUS_ATTEMPTS, R.TXB_TS]
  omega

/-- A field at or above BAR0 block 0x9 is none of the event block. -/
theorem block_ne_events {g : Fld} (hg : 0x1200000 ≤ g.key) : block g ≠ 3 := by
  rw [block]; omega

/-- A value that fits a field reads back. -/
theorem Dev.get_set_of_lt (d : Dev) (f : Fld) {v : Nat} (h : v < 2 ^ f.width) : (d.set f v).get f = v :=
  (Dev.get_set_same ..).trans (Nat.mod_eq_of_lt h)

theorem EventFrame.can {d d' : Dev} (h : EventFrame d d') : d'.can = d.can := by rw [h.rest]

section
variable (d : Dev) (c : Fin 8) (f : Fld) (b : Nat)

theorem EventFrame.canCause : EventFrame (d.set f 1) (d.canCause c f b) := .cause _ _ _ _ (by omega)

theorem Dev.get_canCause_same (hf : 0x1200000 ≤ f.key) : (d.canCause c f b).get f = 1 % 2 ^ f.width :=
  Dev.cause_get_same _ _ _ _ (by omega) (block_ne_events hf)

theorem Dev.get_canCause_ne (g : Fld) (hg : 0x1200000 ≤ g.key) (hne : g.key ≠ f.key) : (d.canCause c f b).get g = d.get g :=
  Dev.cause_get_ne _ _ _ _ _ (by omega) (block_ne_events hg) hne

@[simp] theorem Dev.canCause_can : (d.canCause c f b).can = d.can := (EventFrame.canCause d c f b).can

@[simp] theorem Dev.canSt_canCause (k : Nat) : (d.canCause c f b).canSt k = d.canSt k := by rw [Dev.canSt, Dev.canCause_can]; rfl

end

/-- A cause of a controller among the listed registers. -/
theorem onlyRegsEv_canCause {fs : List Fld} (s : State) (c : Fin 8) (f : Fld) (b : Nat) (h : f ∈ fs) :
    OnlyRegsEv fs s (s.on fun d => d.canCause c f b) := .cause _ _ _ _ (by omega) h

theorem Dev.canMode_eq (d : Dev) (c : Nat) : d.canMode c = d.get (R.CAN_STATUS_MODE_NOW c) := rfl

theorem Dev.txb_eq (d : Dev) (c n : Nat) : d.txb c n = d.get (R.TXB_STATUS_STATE c n) := rfl

/-- A device that is only a list of fields cleared. -/
theorem onlyRegs_clear (s : State) (fs : List Fld) : OnlyRegs fs s (s.on fun d => d.clear fs) :=
  ⟨⟨rfl, rfl, fun g hg => Dev.get_clear_ne _ _ g hg⟩, Dev.clear_rest ..⟩

/-! ### A write of MODE -/

/-- The requested mode is taken over: STATE shows 3, or stays 2 while the controller is bus-off. -/
def Dev.canRequest (d : Dev) (c m : Nat) : Dev :=
  ((d.set (R.CAN_STATUS_CFG_ERR c) 0).set (R.CAN_CTRL_MODE c) m).set (R.CAN_STATUS_STATE c) (if d.get (R.CAN_STATUS_STATE c) = 2 then 2 else 3)

theorem Dev.canCfgErr_consistent {d : Dev} {c : Nat} (ht : d.canTimingBad c = false) (hp : d.canProtocolBad c = false) (hm : d.canMemoryBad c = false) :
    d.canCfgErr c = 0 := by simp [Dev.canCfgErr, ht, hp, hm]

theorem Dev.canCfgErr_inconsistent {d : Dev} {c : Nat} (h : d.canTimingBad c = true ∨ d.canProtocolBad c = true ∨ d.canMemoryBad c = true) :
    d.canCfgErr c = if d.canTimingBad c then 1 else if d.canProtocolBad c then 3 else 4 := by
  rw [Dev.canCfgErr]
  split
  · rfl
  · split
    · rfl
    · simp_all

theorem Dev.canCfgErr_code {d : Dev} {c : Nat} (h : d.canTimingBad c = true ∨ d.canProtocolBad c = true ∨ d.canMemoryBad c = true) :
    d.canCfgErr c ≠ 0 ∧ d.canCfgErr c < 2 ^ 4 := by
  rw [Dev.canCfgErr_inconsistent h]
  split
  · decide
  · split <;> decide

section
variable {d : Dev} {c m : Nat} (w : Writer)

theorem Dev.canModeWrite_reserved (hm : 4 < m) : d.canModeWrite w c m = d.rsvWrite w (0x90000 + c * 0x2000) := if_pos hm

theorem Dev.canModeWrite_consistent (hlo : 1 ≤ m) (hhi : m ≤ 4) (hnow : d.get (R.CAN_STATUS_MODE_NOW c) = 0) (hmode : d.get (R.CAN_CTRL_MODE c) = 0)
    (herr : d.canCfgErr c = 0) : d.canModeWrite w c m = d.canRequest c m := by
  rw [Dev.canModeWrite, if_neg (by omega), if_neg (by omega), if_pos ⟨hnow, by omega⟩]
  exact if_neg (not_not_intro herr)

theorem Dev.canModeWrite_inconsistent (hlo : 1 ≤ m) (hhi : m ≤ 4) (hnow : d.get (R.CAN_STATUS_MODE_NOW c) = 0) (hmode : d.get (R.CAN_CTRL_MODE c) = 0)
    (herr : d.canCfgErr c ≠ 0) : d.canModeWrite w c m = (d.set (R.CAN_STATUS_CFG_ERR c) (d.canCfgErr c)).set (R.CAN_CTRL_MODE c) 0 := by
  rw [Dev.canModeWrite, if_neg (by omega), if_neg (by omega), if_pos ⟨hnow, by omega⟩]
  exact if_pos herr

/-- Any change but one from CONFIG to another mode is requested as it stands; one that withdraws a request from CONFIG ends STATE 3. -/
theorem Dev.canModeWrite_unchecked (hm : m = 0 ∨ m ≤ 4 ∧ d.get (R.CAN_STATUS_MODE_NOW c) ≠ 0) :
    d.canModeWrite w c m = (if m = d.get (R.CAN_CTRL_MODE c) then d
      else if d.get (R.CAN_STATUS_MODE_NOW c) = 0 ∧ d.get (R.CAN_STATUS_STATE c) = 3 then
        (d.set (R.CAN_CTRL_MODE c) m).set (R.CAN_STATUS_STATE c) (d.canActive c)
      else d.set (R.CAN_CTRL_MODE c) m) := by
  have hcheck : ¬ (d.canMode c = 0 ∧ m ≠ 0) := by rw [Dev.canMode_eq]; omega
  rw [Dev.canModeWrite, if_neg (by omega), if_neg hcheck]
  rfl

end

section
variable {w : Writer} {c m : Fin 8} {s : State} (hw : Grants s w (R.CAN_CTRL_MODE c))
include hw

theorem exec_canModeWrite : exec (.canModeWrite w c m) s = .next (s.on fun d => d.canModeWrite w c m) := State.gate_next hw rfl

theorem exec_canModeWrite_unchecked (hm : m.val = 0 ∨ m.val ≤ 4 ∧ s.dev.get (R.CAN_STATUS_MODE_NOW c) ≠ 0) :
    ∃ t, exec (.canModeWrite w c m) s = .next t ∧ t.dev.get (R.CAN_CTRL_MODE c) = m.val ∧ KeepsRegs [R.CAN_CTRL_MODE c, R.CAN_STATUS_STATE c] s t ∧
      (s.dev.get (R.CAN_STATUS_STATE c) ≠ 3 → t.dev.get (R.CAN_STATUS_STATE c) = s.dev.get (R.CAN_STATUS_STATE c)) := by
  have hk := canKeys c
  have hset (d : Dev) : (d.set (R.CAN_CTRL_MODE c) m).get (R.CAN_CTRL_MODE c) = m := Dev.get_set_of_lt _ _ m.isLt
  refine ⟨_, exec_canModeWrite hw, ?_⟩
  simp only [State.on, Dev.canModeWrite_unchecked w hm]
  split
  · next h => exact ⟨h.symm, (OnlyRegs.refl _ s).1, fun _ => rfl⟩
  · split
    · next h3 => exact ⟨(Dev.get_set_ne _ _ _ _ (by omega)).trans (hset _), (((OnlyRegs.set s _ _ (by simp)).trans (.set _ _ _ (by simp))).1),
        fun h => absurd h3.2 h⟩
    · exact ⟨hset _, (OnlyRegs.set s _ _ (by simp)).1, fun _ => Dev.get_set_ne _ _ _ _ (by omega)⟩

theorem exec_canModeWrite_consistent (hlo : 1 ≤ m.val) (hhi : m.val ≤ 4) (hnow : s.dev.get (R.CAN_STATUS_MODE_NOW c) = 0)
    (hmode : s.dev.get (R.CAN_CTRL_MODE c) = 0) (herr : s.dev.canCfgErr c = 0) :
    ∃ t, exec (.canModeWrite w c m) s = .next t ∧ t.dev.get (R.CAN_CTRL_MODE c) = m.val ∧
      t.dev.get (R.CAN_STATUS_STATE c) = (if s.dev.get (R.CAN_STATUS_STATE c) = 2 then 2 else 3) ∧
      t.dev.get (R.CAN_STATUS_CFG_ERR c) = 0 ∧ OnlyRegs [R.CAN_CTRL_MODE c, R.CAN_STATUS_STATE c, R.CAN_STATUS_CFG_ERR c] s t := by
  have hk := canKeys c
  refine ⟨s.on fun d => d.canRequest c m, ?_, ?_, ?_, ?_, ?_⟩
  · rw [exec_canModeWrite hw, State.on, Dev.canModeWrite_consistent w hlo hhi hnow hmode herr]; rfl
  · exact (Dev.get_set_ne _ _ _ _ (by omega)).trans (Dev.get_set_of_lt _ _ m.isLt)
  · refine Dev.get_set_of_lt _ _ (?_ : _ < 2 ^ 2)
    split <;> decide
  · exact (Dev.get_set_ne _ _ _ _ (by omega)).trans ((Dev.get_set_ne _ _ _ _ (by omega)).trans (Dev.get_set_same ..))
  · exact ((OnlyRegs.set s _ _ (by simp)).trans (.set _ _ _ (by simp))).trans (.set _ _ _ (by simp))

theorem exec_canModeWrite_inconsistent (hlo : 1 ≤ m.val) (hhi : m.val ≤ 4) (hnow : s.dev.get (R.CAN_STATUS_MODE_NOW c) = 0)
    (hmode : s.dev.get (R.CAN_CTRL_MODE c) = 0)
    (hbad : s.dev.canTimingBad c = true ∨ s.dev.canProtocolBad c = true ∨ s.dev.canMemoryBad c = true) :
    ∃ t, exec (.canModeWrite w c m) s = .next t ∧ t.dev.get (R.CAN_CTRL_MODE c) = 0 ∧
      t.dev.get (R.CAN_STATUS_CFG_ERR c) = (if s.dev.canTimingBad c then 1 else if s.dev.canProtocolBad c then 3 else 4) ∧
      OnlyRegs [R.CAN_CTRL_MODE c, R.CAN_STATUS_CFG_ERR c] s t := by
  have hk := canKeys c
  obtain ⟨herr, hlt⟩ := Dev.canCfgErr_code hbad
  refine ⟨_, exec_canModeWrite hw, ?_⟩
  simp only [State.on, Dev.canModeWrite_inconsistent w hlo hhi hnow hmode herr]
  refine ⟨Dev.get_set_same .., ?_, (OnlyRegs.set s _ _ (by simp)).trans (.set _ _ _ (by simp))⟩
  rw [Dev.get_set_ne _ _ _ _ (by omega), ← Dev.canCfgErr_inconsistent hbad]
  exact Dev.get_set_of_lt _ _ hlt

end

/-! ### The requested mode takes effect -/

/-- One transmit buffer becomes ABORTED if it is PENDING. -/
def Dev.abortOne (d : Dev) (c n : Nat) : Dev := if d.txb c n = 1 then d.txbFail c n 4 else d

/-- The transmit buffers that are PENDING become ABORTED (R335). -/
def Dev.abortPending (d : Dev) (c : Nat) : Dev := ((d.abortOne c 0).abortOne c 1).abortOne c 2

/-- MODE_NOW follows MODE, and STATE 3 ends by the error counters (R334, R361). -/
def Dev.canEnterMode (d : Dev) (c : Nat) : Dev :=
  let d1 := d.set (R.CAN_STATUS_MODE_NOW c) (d.get (R.CAN_CTRL_MODE c))
  if d.get (R.CAN_STATUS_MODE_NOW c) = 0 ∧ d.get (R.CAN_STATUS_STATE c) = 3 then d1.set (R.CAN_STATUS_STATE c) (d.canActive c) else d1

theorem Dev.canModeChange_of_eq {d : Dev} {c : Nat} (h : d.get (R.CAN_CTRL_MODE c) = d.get (R.CAN_STATUS_MODE_NOW c)) : d.canModeChange c = d := if_pos h

theorem Dev.canModeChange_of_ne {d : Dev} {c : Nat} (h : d.get (R.CAN_CTRL_MODE c) ≠ d.get (R.CAN_STATUS_MODE_NOW c)) :
    d.canModeChange c = (if d.get (R.CAN_CTRL_MODE c) = 0 then (d.canEnterMode c).abortPending c else d.canEnterMode c).canCause c
      (R.CAN_EVT_MODE_CHG c) 0 := if_neg h

theorem Dev.canActive_lt (d : Dev) (c : Nat) : d.canActive c < 2 ^ 2 := by
  rw [Dev.canActive]; split <;> decide

section
variable (d : Dev) (c : Fin 8)

theorem Dev.get_abortOne_state (k n : Nat) : (d.abortOne c k).get (R.TXB_STATUS_STATE c n) =
    if n = k ∧ d.get (R.TXB_STATUS_STATE c n) = 1 then 4 else d.get (R.TXB_STATUS_STATE c n) := by
  have hc := canKeys c
  have hk := txbKeys c k
  have hn := txbKeys c n
  rw [Dev.abortOne, Dev.txb_eq, Dev.txbFail, apply_ite (fun x => Dev.get x (R.TXB_STATUS_STATE c n)), Dev.get_canCause_ne _ _ _ _ _ (by omega) (by omega)]
  by_cases h : n = k
  · subst h
    by_cases hpend : d.get (R.TXB_STATUS_STATE c n) = 1
    · rw [if_pos hpend, if_pos ⟨rfl, hpend⟩]
      exact Dev.get_set_same ..
    · rw [if_neg hpend, if_neg fun hboth => hpend hboth.2]
  · rw [Dev.get_set_ne _ _ _ _ (by omega), ite_self, if_neg fun hboth => h hboth.1]

theorem Dev.get_abortOne_ne (k : Nat) (g : Fld) (hg : 0x1200000 ≤ g.key) (hfail : g.key ≠ (R.CAN_EVT_TX_FAIL c).key)
    (hne : g.key ≠ (R.TXB_STATUS_STATE c k).key) : (d.abortOne c k).get g = d.get g := by
  rw [Dev.abortOne]
  split
  · rw [Dev.txbFail, Dev.get_canCause_ne _ _ _ _ _ hg hfail, Dev.get_set_ne _ _ _ _ hne]
  · rfl

theorem Dev.get_abortPending_state {n : Nat} (hn : n < 3) : (d.abortPending c).get (R.TXB_STATUS_STATE c n) =
    if d.get (R.TXB_STATUS_STATE c n) = 1 then 4 else d.get (R.TXB_STATUS_STATE c n) := by
  simp only [Dev.abortPending, Dev.get_abortOne_state]
  by_cases hpend : d.get (R.TXB_STATUS_STATE c n) = 1
  · obtain rfl | rfl | rfl : n = 0 ∨ n = 1 ∨ n = 2 := by omega
    all_goals simp [hpend]
  · simp only [hpend, and_false, if_false]

theorem Dev.get_abortPending_ne (g : Fld) (hg : 0x1200000 ≤ g.key) (hfail : g.key ≠ (R.CAN_EVT_TX_FAIL c).key)
    (hne : ∀ k, g.key ≠ (R.TXB_STATUS_STATE c k).key) : (d.abortPending c).get g = d.get g := by
  rw [Dev.abortPending, Dev.get_abortOne_ne _ _ _ _ hg hfail (hne _), Dev.get_abortOne_ne _ _ _ _ hg hfail (hne _),
    Dev.get_abortOne_ne _ _ _ _ hg hfail (hne _)]

theorem Dev.get_canEnterMode_ne (g : Fld) (hnow : g.key ≠ (R.CAN_STATUS_MODE_NOW c).key) (hstate : g.key ≠ (R.CAN_STATUS_STATE c).key) :
    (d.canEnterMode c).get g = d.get g := by
  simp only [Dev.canEnterMode]
  split <;> simp only [Dev.get_set_ne _ _ _ _ hnow, Dev.get_set_ne _ _ _ _ hstate]

theorem Dev.get_canEnterMode_now : (d.canEnterMode c).get (R.CAN_STATUS_MODE_NOW c) = d.get (R.CAN_CTRL_MODE c) := by
  have hk := canKeys c
  have hset : (d.set (R.CAN_STATUS_MODE_NOW c) (d.get (R.CAN_CTRL_MODE c))).get (R.CAN_STATUS_MODE_NOW c) = d.get (R.CAN_CTRL_MODE c) :=
    Dev.get_set_of_lt _ _ (d.get_lt _)
  simp only [Dev.canEnterMode]
  split
  · rw [Dev.get_set_ne _ _ _ _ (by omega), hset]
  · exact hset

theorem Dev.get_canEnterMode_state : (d.canEnterMode c).get (R.CAN_STATUS_STATE c) =
    if d.get (R.CAN_STATUS_MODE_NOW c) = 0 ∧ d.get (R.CAN_STATUS_STATE c) = 3 then d.canActive c else d.get (R.CAN_STATUS_STATE c) := by
  have hk := canKeys c
  simp only [Dev.canEnterMode]
  split
  · exact Dev.get_set_of_lt _ _ (d.canActive_lt c)
  · exact Dev.get_set_ne _ _ _ _ (by omega)

end

section
variable {c : Fin 8} {s : State}

theorem exec_canModeChange : exec (.canModeChange c) s = .next (s.on fun d => d.canModeChange c) := rfl

theorem exec_canModeChange_idle (h : s.dev.get (R.CAN_CTRL_MODE c) = s.dev.get (R.CAN_STATUS_MODE_NOW c)) : exec (.canModeChange c) s = .next s := by
  rw [exec_canModeChange, State.on, Dev.canModeChange_of_eq h]

theorem exec_canModeChange_taken (h : s.dev.get (R.CAN_CTRL_MODE c) ≠ s.dev.get (R.CAN_STATUS_MODE_NOW c)) :
    ∃ t, exec (.canModeChange c) s = .next t ∧ t.dev.get (R.CAN_STATUS_MODE_NOW c) = s.dev.get (R.CAN_CTRL_MODE c) ∧
      t.dev.get (R.CAN_EVT_MODE_CHG c) = 1 ∧ t.dev.get (R.CAN_CTRL_MODE c) = s.dev.get (R.CAN_CTRL_MODE c) ∧ t.mem = s.mem ∧
      t.dev.get (R.CAN_STATUS_STATE c) = (if s.dev.get (R.CAN_STATUS_MODE_NOW c) = 0 ∧ s.dev.get (R.CAN_STATUS_STATE c) = 3 then s.dev.canActive c
        else s.dev.get (R.CAN_STATUS_STATE c)) ∧
      ∀ n < 3, t.dev.get (R.TXB_STATUS_STATE c n) = (if s.dev.get (R.CAN_CTRL_MODE c) = 0 ∧ s.dev.get (R.TXB_STATUS_STATE c n) = 1 then 4
        else s.dev.get (R.TXB_STATUS_STATE c n)) := by
  have hk := canKeys c
  have ht := txbKeys c
  /- A register of the controller itself reads after the change as it does when the mode is entered: only TX_FAIL and buffer states change besides. -/
  have hget (g : Fld) (hg : 0x1200000 ≤ g.key) (hlo : g.key < 0x1200801 + c * 0x40000) (hchg : g.key ≠ (R.CAN_EVT_MODE_CHG c).key) :
      (s.dev.canModeChange c).get g = (s.dev.canEnterMode c).get g := by
    rw [Dev.canModeChange_of_ne h, Dev.get_canCause_ne _ _ _ _ _ hg hchg]
    split
    · exact Dev.get_abortPending_ne _ _ _ hg (by omega) fun k => by have := ht k; omega
    · rfl
  refine ⟨_, exec_canModeChange, ?_, ?_, ?_, rfl, ?_, fun n hn => ?_⟩
  · exact (hget _ (by omega) (by omega) (by omega)).trans (Dev.get_canEnterMode_now ..)
  · rw [State.on_dev, Dev.canModeChange_of_ne h]
    exact Dev.get_canCause_same _ _ _ _ (by omega)
  · exact (hget _ (by omega) (by omega) (by omega)).trans (Dev.get_canEnterMode_ne _ _ _ (by omega) (by omega))
  · exact (hget _ (by omega) (by omega) (by omega)).trans (Dev.get_canEnterMode_state ..)
  · have := ht n
    rw [State.on_dev, Dev.canModeChange_of_ne h, Dev.get_canCause_ne _ _ _ _ _ (by omega) (by omega)]
    split
    · next hm => simp only [Dev.get_abortPending_state _ _ hn, Dev.get_canEnterMode_ne s.dev c (R.TXB_STATUS_STATE c n) (by omega) (by omega), hm, true_and]
    · next hm => rw [Dev.get_canEnterMode_ne _ _ _ (by omega) (by omega), if_neg fun hboth => hm hboth.1]

end

/-! ### Recovery and CLR_CNT -/

section
variable {w : Writer} {c : Fin 8} {s : State}

theorem exec_canRecover (hw : Grants s w (R.CAN_CTRL_MODE c)) : exec (.canRecover w c) s = .next (s.on fun d => d.canRecover c) := State.gate_next hw rfl

theorem exec_canRecover_busOff (hw : Grants s w (R.CAN_CTRL_MODE c)) (h : s.dev.get (R.CAN_STATUS_STATE c) = 2) :
    ∃ t, exec (.canRecover w c) s = .next t ∧ t.dev.canSt c = { s.dev.canSt c with recover := true } ∧ t.dev.regs = s.dev.regs ∧ t.mem = s.mem := by
  refine ⟨s.on fun d => d.setCan c { d.canSt c with recover := true }, ?_, Dev.canSt_setCan_same .., rfl, rfl⟩
  rw [exec_canRecover hw, State.on, Dev.canRecover, if_pos h]; rfl

theorem exec_canRecover_ignored (hw : Grants s w (R.CAN_CTRL_MODE c)) (h : s.dev.get (R.CAN_STATUS_STATE c) ≠ 2) :
    exec (.canRecover w c) s = .next s := by
  rw [exec_canRecover hw, State.on, Dev.canRecover, if_neg h]

theorem exec_busOffRecovery : exec (.busOffRecovery c) s = .next (s.on fun d => d.busOffRecovery c) := rfl

theorem exec_busOffRecovery_ends (h : s.dev.get (R.CAN_STATUS_STATE c) = 2)
    (hmay : s.dev.on (R.CAN_CTRL_AUTO_RECOVER c) = true ∨ (s.dev.canSt c).recover = true) :
    ∃ t, exec (.busOffRecovery c) s = .next t ∧ t.dev.get (R.CAN_STATUS_STATE c) = 0 ∧ t.dev.get (R.CAN_STATUS_TEC c) = 0 ∧
      t.dev.get (R.CAN_STATUS_REC c) = 0 ∧ (t.dev.canSt c).recover = false ∧
      KeepsRegs [R.CAN_STATUS_STATE c, R.CAN_STATUS_TEC c, R.CAN_STATUS_REC c] s t := by
  have hk := canKeys c
  refine ⟨s.on fun d => (((d.set (R.CAN_STATUS_STATE c) 0).set (R.CAN_STATUS_TEC c) 0).set (R.CAN_STATUS_REC c) 0).setCan c
    { d.canSt c with recover := false }, ?_, ?_, ?_, Dev.get_set_same .., ?_, ?_⟩
  · rw [exec_busOffRecovery, State.on, Dev.busOffRecovery, if_pos ⟨h, hmay⟩]; rfl
  · exact (Dev.get_set_ne _ _ _ _ (by omega)).trans ((Dev.get_set_ne _ _ _ _ (by omega)).trans (Dev.get_set_same ..))
  · exact (Dev.get_set_ne _ _ _ _ (by omega)).trans (Dev.get_set_same ..)
  · rw [State.on_dev, Dev.canSt_setCan_same]
  · exact (((OnlyRegs.set s _ _ (by simp)).trans (.set _ _ _ (by simp))).trans (.set _ _ _ (by simp))).1

theorem exec_busOffRecovery_waits (hauto : s.dev.on (R.CAN_CTRL_AUTO_RECOVER c) = false) (hrec : (s.dev.canSt c).recover = false) :
    exec (.busOffRecovery c) s = .next s := by
  rw [exec_busOffRecovery, State.on, Dev.busOffRecovery, if_neg (by simp [hauto, hrec])]

theorem exec_canClrCnt (hw : Grants s w (R.CAN_CTRL_MODE c)) : exec (.canClrCnt w c) s = .next (s.on fun d => d.canClrCnt c) := State.gate_next hw rfl

end

/-- Settles O28, row by row. -/
theorem canModes : Obligations.CanModes := by
  refine ⟨fun w c m s hw hm => ?_, fun w c m s hw hm => exec_canModeWrite_unchecked hw hm,
    fun w c m s hw hlo hhi hnow hmode ht hp hm => exec_canModeWrite_consistent hw hlo hhi hnow hmode (Dev.canCfgErr_consistent ht hp hm),
    fun w c m s hw hlo hhi hnow hmode hbad => exec_canModeWrite_inconsistent hw hlo hhi hnow hmode hbad,
    fun c s h => exec_canModeChange_taken h, fun c s h => exec_canModeChange_idle h, fun w c s hw h => exec_canRecover_busOff hw h,
    fun w c s hw h => exec_canRecover_ignored hw h, fun c s h hmay => exec_busOffRecovery_ends h hmay,
    fun c s hauto hrec => exec_busOffRecovery_waits hauto hrec, fun w c s hw => ?_⟩
  · rw [exec_canModeWrite hw, State.on, Dev.canModeWrite_reserved w hm]; rfl
  · have hclear {f : Fld} := Dev.get_clear_mem s.dev (g := f)
    refine ⟨_, exec_canClrCnt hw, ?_⟩
    refine ⟨hclear _ ?_, hclear _ ?_, hclear _ ?_, hclear _ ?_, hclear _ ?_, hclear _ ?_, hclear _ ?_, hclear _ ?_, hclear _ ?_, hclear _ ?_,
      onlyRegs_clear s _⟩ <;> simp

end Sys2Proof.Machine
end

section
/-! PROOFS. Transmit buffers of a CAN controller (R341 to R346): REQ, ABORT, the choice of the next frame and the end of one. -/

namespace Sys2Proof.Machine
open Sys2Proof Sys2Proof.Safety

/-! ### REQ and ABORT -/

theorem Dev.txbReq_busy {d : Dev} {c n : Nat} (h : d.get (R.TXB_STATUS_STATE c n) = 1 ∨ d.get (R.TXB_STATUS_STATE c n) = 2) : d.txbReq c n = d := if_pos h

theorem Dev.txbReq_free {d : Dev} {c n : Nat} (h1 : d.get (R.TXB_STATUS_STATE c n) ≠ 1) (h2 : d.get (R.TXB_STATUS_STATE c n) ≠ 2) :
    d.txbReq c n = if d.txbValid c n then (d.set (R.TXB_STATUS_ATTEMPTS c n) 0).set (R.TXB_STATUS_STATE c n) 1
      else (d.set (R.TXB_STATUS_ATTEMPTS c n) 0).txbFail c n 6 := if_neg (not_or.mpr ⟨h1, h2⟩)

/-- A buffer that fails takes the state given and sets TX_FAIL. -/
theorem Dev.get_txbFail (d : Dev) (c : Fin 8) (n st : Nat) (hst : st < 2 ^ 3) :
    (d.txbFail c n st).get (R.TXB_STATUS_STATE c n) = st ∧ (d.txbFail c n st).get (R.CAN_EVT_TX_FAIL c) = 1 := by
  have hc := canKeys c
  have hn := txbKeys c n
  exact ⟨(Dev.get_canCause_ne _ _ _ _ _ (by omega) (by omega)).trans (Dev.get_set_of_lt _ _ hst), Dev.get_canCause_same _ _ _ _ (by omega)⟩

theorem Dev.get_txbFail_ne (d : Dev) (c : Fin 8) (n st : Nat) (g : Fld) (hg : 0x1200000 ≤ g.key) (hfail : g.key ≠ (R.CAN_EVT_TX_FAIL c).key)
    (hne : g.key ≠ (R.TXB_STATUS_STATE c n).key) : (d.txbFail c n st).get g = d.get g :=
  (Dev.get_canCause_ne _ _ _ _ _ hg hfail).trans (Dev.get_set_ne _ _ _ _ hne)

theorem onlyRegsEv_txbFail {fs : List Fld} (s : State) (c : Fin 8) (n st : Nat) (hstate : R.TXB_STATUS_STATE c n ∈ fs) (hfail : R.CAN_EVT_TX_FAIL c ∈ fs) :
    OnlyRegsEv fs s (s.on fun d => d.txbFail c n st) :=
  (OnlyRegs.set s _ st hstate).events.trans (onlyRegsEv_canCause _ c _ 2 hfail)

section
variable {w : Writer} {c : Fin 8} {n : Fin 3} {s : State} (hw : Grants s w (R.TXB_CTRL_SINGLE_SHOT c n))
include hw

theorem exec_txbReq : exec (.txbReq w c n) s = .next (s.on fun d => d.txbReq c n) :=
  State.gate_next hw (by simp only [R.TXB_CTRL_SINGLE_SHOT]; omega)

theorem exec_txbReq_busy (h : s.dev.get (R.TXB_STATUS_STATE c n) = 1 ∨ s.dev.get (R.TXB_STATUS_STATE c n) = 2) : exec (.txbReq w c n) s = .next s := by
  rw [exec_txbReq hw, State.on, Dev.txbReq_busy h]

theorem exec_txbReq_valid (h1 : s.dev.get (R.TXB_STATUS_STATE c n) ≠ 1) (h2 : s.dev.get (R.TXB_STATUS_STATE c n) ≠ 2)
    (hvalid : s.dev.txbValid c n = true) :
    ∃ t, exec (.txbReq w c n) s = .next t ∧ t.dev.get (R.TXB_STATUS_STATE c n) = 1 ∧ t.dev.get (R.TXB_STATUS_ATTEMPTS c n) = 0 ∧
      OnlyRegs [R.TXB_STATUS_STATE c n, R.TXB_STATUS_ATTEMPTS c n] s t := by
  have hn := txbKeys c n
  refine ⟨s.on fun d => (d.set (R.TXB_STATUS_ATTEMPTS c n) 0).set (R.TXB_STATUS_STATE c n) 1, ?_, Dev.get_set_same .., ?_,
    (OnlyRegs.set s _ _ (by simp)).trans (.set _ _ _ (by simp))⟩
  · rw [exec_txbReq hw, State.on, Dev.txbReq_free h1 h2, if_pos hvalid]; rfl
  · exact (Dev.get_set_ne _ _ _ _ (by omega)).trans (Dev.get_set_same ..)

theorem exec_txbReq_invalid (h1 : s.dev.get (R.TXB_STATUS_STATE c n) ≠ 1) (h2 : s.dev.get (R.TXB_STATUS_STATE c n) ≠ 2)
    (hvalid : s.dev.txbValid c n = false) :
    ∃ t, exec (.txbReq w c n) s = .next t ∧ t.dev.get (R.TXB_STATUS_STATE c n) = 6 ∧ t.dev.get (R.CAN_EVT_TX_FAIL c) = 1 ∧
      OnlyRegsEv [R.TXB_STATUS_STATE c n, R.TXB_STATUS_ATTEMPTS c n, R.CAN_EVT_TX_FAIL c] s t := by
  obtain ⟨hstate, hfail⟩ := Dev.get_txbFail (s.dev.set (R.TXB_STATUS_ATTEMPTS c n) 0) c n 6 (by decide)
  refine ⟨s.on fun d => (d.set (R.TXB_STATUS_ATTEMPTS c n) 0).txbFail c n 6, ?_, hstate, hfail,
    (OnlyRegs.set s (R.TXB_STATUS_ATTEMPTS c n) 0 (by simp)).events.trans (onlyRegsEv_txbFail _ c n 6 (by simp) (by simp))⟩
  rw [exec_txbReq hw, State.on, Dev.txbReq_free h1 h2, if_neg (by simp [hvalid])]; rfl

theorem exec_txbAbort : exec (.txbAbort w c n) s = .next (s.on fun d => d.txbAbort c n) :=
  State.gate_next hw (by simp only [R.TXB_CTRL_SINGLE_SHOT]; omega)

theorem exec_txbAbort_pending (h : s.dev.get (R.TXB_STATUS_STATE c n) = 1) :
    ∃ t, exec (.txbAbort w c n) s = .next t ∧ t.dev.get (R.TXB_STATUS_STATE c n) = 4 ∧ t.dev.get (R.CAN_EVT_TX_FAIL c) = 1 ∧
      OnlyRegsEv [R.TXB_STATUS_STATE c n, R.CAN_EVT_TX_FAIL c] s t := by
  obtain ⟨hstate, hfail⟩ := Dev.get_txbFail s.dev c n 4 (by decide)
  refine ⟨s.on fun d => d.txbFail c n 4, ?_, hstate, hfail, onlyRegsEv_txbFail s c n 4 (by simp) (by simp)⟩
  rw [exec_txbAbort hw, State.on, Dev.txbAbort, Dev.txb_eq, h]; rfl

theorem exec_txbAbort_active (h : s.dev.get (R.TXB_STATUS_STATE c n) = 2) :
    exec (.txbAbort w c n) s = .next (s.on fun d => d.setCan c { d.canSt c with aborts := n :: (d.canSt c).aborts }) := by
  rw [exec_txbAbort hw, State.on, Dev.txbAbort, Dev.txb_eq, h]; rfl

theorem exec_txbAbort_ignored (h1 : s.dev.get (R.TXB_STATUS_STATE c n) ≠ 1) (h2 : s.dev.get (R.TXB_STATUS_STATE c n) ≠ 2) :
    exec (.txbAbort w c n) s = .next s := by
  rw [exec_txbAbort hw, State.on, Dev.txbAbort, Dev.txb_eq]
  split
  · next h => exact absurd h h1
  · next h => exact absurd h h2
  · rfl

end

/-! ### The choice of the next frame (R345) -/

/-- One step of the search by identifier priority: the buffer with the lower value, and the earlier one of two equal. -/
def lowerArb (v : Nat → Nat) (a : Option Nat) (n : Nat) : Option Nat :=
  match a with
  | none => some n
  | some b => if v n < v b then some n else some b

/-- From a buffer on, the search over a rising list ends with a buffer whose value is least, and which comes first among those with that value. -/
theorem foldl_lowerArb (v : Nat → Nat) (b : Nat) (l : List Nat) (hl : (b :: l).Pairwise (· < ·)) :
    ∃ n, l.foldl (lowerArb v) (some b) = some n ∧ n ∈ b :: l ∧ ∀ k ∈ b :: l, v n ≤ v k ∧ (v n = v k → n ≤ k) := by
  induction l generalizing b with
  | nil => exact ⟨b, rfl, by simp, by simp⟩
  | cons a l ih =>
    obtain ⟨hb, hal⟩ := List.pairwise_cons.mp hl
    have hba : b < a := hb a (by simp)
    have hbl : (b :: l).Pairwise (· < ·) := List.pairwise_cons.mpr ⟨fun x hx => hb x (by simp [hx]), (List.pairwise_cons.mp hal).2⟩
    by_cases h : v a < v b
    · obtain ⟨n, hn, hmem, hleast⟩ := ih a hal
      refine ⟨n, by rw [List.foldl_cons, lowerArb, if_pos h, hn], by simp_all, fun k hk => ?_⟩
      rcases List.mem_cons.mp hk with rfl | hk
      · have := (hleast a (by simp)).1
        exact ⟨by omega, by omega⟩
      · exact hleast k hk
    · obtain ⟨n, hn, hmem, hleast⟩ := ih b hbl
      refine ⟨n, by rw [List.foldl_cons, lowerArb, if_neg h, hn], ?_, fun k hk => ?_⟩
      · rcases List.mem_cons.mp hmem with rfl | hm <;> simp_all
      · have hnb := hleast b (by simp)
        rcases List.mem_cons.mp hk with rfl | hk
        · exact hnb
        · rcases List.mem_cons.mp hk with rfl | hk
          · exact ⟨by omega, by omega⟩
          · exact hleast k (by simp [hk])

/-- The transmit buffers that are PENDING, in rising order. -/
def Dev.pendingTxb (d : Dev) (c : Nat) : List Nat := [0, 1, 2].filter (fun n => d.txb c n == 1)

theorem Dev.mem_pendingTxb (d : Dev) (c n : Nat) : n ∈ d.pendingTxb c ↔ n < 3 ∧ d.get (R.TXB_STATUS_STATE c n) = 1 := by
  have : n ∈ [0, 1, 2] ↔ n < 3 := by simp; omega
  rw [Dev.pendingTxb, List.mem_filter, this, beq_iff_eq, Dev.txb_eq]

theorem Dev.pendingTxb_rising (d : Dev) (c : Nat) : (d.pendingTxb c).Pairwise (· < ·) := List.Pairwise.filter _ (by decide)

theorem canNext_priority {d : Dev} {c : Nat} (m : List Host.Cell) (h : d.on (R.CAN_CTRL_TX_ORDER c) = false) :
    canNext m d c = (d.pendingTxb c).foldl (lowerArb fun n => arbValue (txbFrame m d c n)) none := by
  rw [canNext, if_neg (by simp [h])]; rfl

/-- Identifier priority: the PENDING buffer with the lowest value, the lower number on a tie; none only if none is PENDING. -/
theorem canNext_priority_spec {d : Dev} {c : Nat} (m : List Host.Cell) (h : d.on (R.CAN_CTRL_TX_ORDER c) = false) :
    (∀ n, canNext m d c = some n → n < 3 ∧ d.get (R.TXB_STATUS_STATE c n) = 1 ∧
      ∀ k < 3, d.get (R.TXB_STATUS_STATE c k) = 1 → arbValue (txbFrame m d c n) ≤ arbValue (txbFrame m d c k) ∧
        (arbValue (txbFrame m d c n) = arbValue (txbFrame m d c k) → n ≤ k)) ∧
    (canNext m d c = none → ∀ k < 3, d.get (R.TXB_STATUS_STATE c k) ≠ 1) := by
  rw [canNext_priority m h]
  cases hp : d.pendingTxb c with
  | nil =>
    exact ⟨nofun, fun _ k hk h1 => by simpa [hp] using (d.mem_pendingTxb c k).mpr ⟨hk, h1⟩⟩
  | cons b l =>
    obtain ⟨x, hx, hmem, hleast⟩ := foldl_lowerArb (fun n => arbValue (txbFrame m d c n)) b l (hp ▸ d.pendingTxb_rising c)
    have hfold : (b :: l).foldl (lowerArb fun n => arbValue (txbFrame m d c n)) none = some x := hx
    rw [hfold]
    refine ⟨fun n hn => ?_, fun hn => by cases hn⟩
    cases hn
    obtain ⟨hlt, hpend⟩ := (d.mem_pendingTxb c x).mp (hp ▸ hmem)
    exact ⟨hlt, hpend, fun k hk h1 => hleast k (hp ▸ (d.mem_pendingTxb c k).mpr ⟨hk, h1⟩)⟩

/-- Buffer `n` becomes ACTIVE: one more attempt, no ABORT seen yet, and its frame goes out. -/
def Dev.canSend (d : Dev) (c n : Nat) (f : CanFrame) : Dev :=
  let d1 := (d.set (R.TXB_STATUS_STATE c n) 2).addSat (R.TXB_STATUS_ATTEMPTS c n) 1
  (d1.setCan c { d1.canSt c with aborts := (d1.canSt c).aborts.filter (fun x => x != n) }).emit (.can c f)

theorem exec_canTxChoice (c : Fin 8) (s : State) : exec (.canTxChoice c) s = .next (s.canTxChoice c) := rfl

theorem State.canTxChoice_chosen {s : State} {c n : Nat} (hmode : s.dev.get (R.CAN_STATUS_MODE_NOW c) = 1 ∨ s.dev.get (R.CAN_STATUS_MODE_NOW c) = 4)
    (hstate : s.dev.get (R.CAN_STATUS_STATE c) < 2) (hfree : ∀ k < 3, s.dev.get (R.TXB_STATUS_STATE c k) ≠ 2) (hnext : canNext s.mem s.dev c = some n) :
    s.canTxChoice c = s.on fun d => d.canSend c n (txbFrame s.mem s.dev c n) := by
  have hany : [0, 1, 2].any (fun k => s.dev.txb c k == 2) = false := by simp [Dev.txb_eq, hfree]
  rw [State.canTxChoice, if_neg (by rw [hany, Dev.canMode_eq]; simp; omega), hnext]
  rfl

theorem State.canTxChoice_none {s : State} {c : Nat} (h : 2 ≤ s.dev.get (R.CAN_STATUS_STATE c) ∨ s.dev.get (R.CAN_STATUS_MODE_NOW c) = 0 ∨
    s.dev.get (R.CAN_STATUS_MODE_NOW c) = 2 ∨ s.dev.get (R.CAN_STATUS_MODE_NOW c) = 3 ∨ canNext s.mem s.dev c = none) : s.canTxChoice c = s := by
  rw [State.canTxChoice]
  split
  · rfl
  · next hsend =>
    rw [Dev.canMode_eq] at hsend
    have hnone : canNext s.mem s.dev c = none := by
      rcases h with h | h | h | h | h
      · exact absurd (.inr (.inl h)) hsend
      · exact absurd (.inl (by omega)) hsend
      · exact absurd (.inl (by omega)) hsend
      · exact absurd (.inl (by omega)) hsend
      · exact h
    rw [hnone]

theorem Dev.get_canSend_ne (d : Dev) (c n : Nat) (f : CanFrame) (g : Fld) (hstate : g.key ≠ (R.TXB_STATUS_STATE c n).key)
    (hatt : g.key ≠ (R.TXB_STATUS_ATTEMPTS c n).key) : (d.canSend c n f).get g = d.get g :=
  (Dev.get_set_ne _ _ _ _ hatt).trans (Dev.get_set_ne _ _ _ _ hstate)

theorem canSend_effect (s : State) (c : Fin 8) (n : Nat) (f : CanFrame) :
    (s.dev.canSend c n f).get (R.TXB_STATUS_STATE c n) = 2 ∧
      (s.dev.canSend c n f).get (R.TXB_STATUS_ATTEMPTS c n) = min 255 (s.dev.get (R.TXB_STATUS_ATTEMPTS c n) + 1) ∧
      (s.dev.canSend c n f).out = s.dev.out ++ [.can c f] ∧
      KeepsRegs [R.TXB_STATUS_STATE c n, R.TXB_STATUS_ATTEMPTS c n] s (s.on fun d => d.canSend c n f) := by
  have hn := txbKeys c n
  refine ⟨?_, ?_, ?_, keepsRegs_on fun g hg => Dev.get_canSend_ne _ _ _ _ _ (hg _ (by simp)) (hg _ (by simp))⟩
  · exact (Dev.get_set_ne _ _ _ _ (by omega)).trans (Dev.get_set_same ..)
  · refine (Dev.get_addSat_same ..).trans ?_
    rw [Dev.get_set_ne _ _ _ _ (by omega), Nat.min_comm]
    rfl
  · exact rfl

/-! ### The end of a transmission (R343, R344) -/

/-- Buffer `n` is DONE with its timestamp `ts`; no ABORT and no lost arbitration is kept. -/
def Dev.txbStamped (d : Dev) (c n ts : Nat) : Dev :=
  ((d.set (R.TXB_STATUS_STATE c n) 3).set (R.TXB_TS c n) ts).setCan c { d.canSt c with lastDone := n, aborts := [], first := none }

/-- The transmitter delay shown, where it was measured (R338). -/
def Dev.showTdcv (d : Dev) (c tdcv : Nat) (measured : Bool) : Dev := if measured then d.set (R.CAN_TDC_TDCV c) (min 127 tdcv) else d

/-- TEC takes a value, and STATE follows when no counter stands at 128 (R356). -/
def Dev.lowerTec (d : Dev) (c v : Nat) : Dev :=
  let d1 := d.set (R.CAN_STATUS_TEC c) v
  if d1.get (R.CAN_STATUS_STATE c) = 1 ∧ d1.get (R.CAN_STATUS_TEC c) < 128 ∧ d1.get (R.CAN_STATUS_REC c) < 128 then d1.set (R.CAN_STATUS_STATE c) 0 else d1

/-- DONE of buffer `n` with the timestamp `ts` and the new TEC, counted and raised. -/
def Dev.txbClose (d : Dev) (c n ts tdcv tec : Nat) (measured : Bool) : Dev :=
  ((((d.txbStamped c n ts).showTdcv c tdcv measured).lowerTec c tec).inc (R.CAN_CNT_TX_OK c)).canCause c (R.CAN_EVT_TX_DONE c) 1

theorem Dev.txbDone_eq (d : Dev) (c n ago tdcv : Nat) : d.txbDone c n ago tdcv =
    d.txbClose c n ((d.canStamp c ago).1 + (d.canStamp c ago).2 * 2 ^ 48) tdcv (d.get (R.CAN_STATUS_TEC c) - 1)
      (d.on (R.CAN_TDC_TDC_EN c) && d.get (R.TXB_ID c n) / 2 ^ 30 != 0) := rfl

theorem Dev.get_showTdcv_ne (d : Dev) (c tdcv : Nat) (b : Bool) (g : Fld) (h : g.key ≠ (R.CAN_TDC_TDCV c).key) : (d.showTdcv c tdcv b).get g = d.get g := by
  rw [Dev.showTdcv]
  split
  · exact Dev.get_set_ne _ _ _ _ h
  · rfl

theorem Dev.get_lowerTec_ne (d : Dev) (c v : Nat) (g : Fld) (htec : g.key ≠ (R.CAN_STATUS_TEC c).key) (hstate : g.key ≠ (R.CAN_STATUS_STATE c).key) :
    (d.lowerTec c v).get g = d.get g := by
  simp only [Dev.lowerTec]
  split <;> simp only [Dev.get_set_ne _ _ _ _ hstate, Dev.get_set_ne _ _ _ _ htec]

@[simp] theorem Dev.canSt_showTdcv (d : Dev) (c tdcv k : Nat) (b : Bool) : (d.showTdcv c tdcv b).canSt k = d.canSt k := by
  rw [Dev.showTdcv]; split <;> rfl

@[simp] theorem Dev.canSt_lowerTec (d : Dev) (c v k : Nat) : (d.lowerTec c v).canSt k = d.canSt k := by
  simp only [Dev.lowerTec]; split <;> rfl

section
variable (d : Dev) (c : Fin 8) (n : Fin 3) (ts tdcv tec : Nat) (b : Bool)

/-- Above the status and timing registers, and but for TX_DONE, the end of a frame shows in the buffer and in TX_OK alone. -/
theorem Dev.get_txbClose (g : Fld) (hg : 0x1200802 + c * 0x40000 ≤ g.key) :
    (d.txbClose c n ts tdcv tec b).get g = ((d.txbStamped c n ts).inc (R.CAN_CNT_TX_OK c)).get g := by
  have hk := canKeys c
  have hold : (((d.txbStamped c n ts).showTdcv c tdcv b).lowerTec c tec).get g = (d.txbStamped c n ts).get g :=
    (Dev.get_lowerTec_ne _ _ _ _ (by omega) (by omega)).trans (Dev.get_showTdcv_ne _ _ _ _ _ (by omega))
  have hcnt : (((d.txbStamped c n ts).showTdcv c tdcv b).lowerTec c tec).get (R.CAN_CNT_TX_OK c) = (d.txbStamped c n ts).get (R.CAN_CNT_TX_OK c) :=
    (Dev.get_lowerTec_ne _ _ _ _ (by omega) (by omega)).trans (Dev.get_showTdcv_ne _ _ _ _ _ (by omega))
  rw [Dev.txbClose, Dev.get_canCause_ne _ _ _ _ _ (by omega) (by omega), Dev.inc, Dev.inc, Dev.get_set, Dev.get_set, hold, hcnt]

/-- What a frame sent leaves (R343). -/
theorem Dev.txbClose_effect :
    (d.txbClose c n ts tdcv tec b).get (R.TXB_STATUS_STATE c n) = 3 ∧ (d.txbClose c n ts tdcv tec b).get (R.CAN_EVT_TX_DONE c) = 1 ∧
      (d.txbClose c n ts tdcv tec b).get (R.CAN_CNT_TX_OK c) = (d.get (R.CAN_CNT_TX_OK c) + 1) % 2 ^ 32 ∧
      (d.txbClose c n ts tdcv tec b).get (R.TXB_TS c n) = ts % 2 ^ 64 ∧ ((d.txbClose c n ts tdcv tec b).canSt c).aborts = [] := by
  have hc := canKeys c
  have hn := txbKeys c n
  refine ⟨?_, Dev.get_canCause_same _ _ _ _ (by omega), ?_, ?_, ?_⟩
  · rw [Dev.get_txbClose _ _ _ _ _ _ _ _ (by omega), Dev.get_inc_ne _ _ _ (by omega)]
    exact (Dev.get_set_ne _ _ _ _ (by omega)).trans (Dev.get_set_same ..)
  · rw [Dev.get_txbClose _ _ _ _ _ _ _ _ (by omega), Dev.get_inc_same]
    exact congrArg (fun x => (x + 1) % 2 ^ 32) ((Dev.get_set_ne _ _ _ _ (by omega)).trans (Dev.get_set_ne _ _ _ _ (by omega)))
  · rw [Dev.get_txbClose _ _ _ _ _ _ _ _ (by omega), Dev.get_inc_ne _ _ _ (by omega)]
    exact Dev.get_set_same ..
  · rw [Dev.txbClose, Dev.canSt_canCause, Dev.inc, Dev.canSt_set, Dev.canSt_lowerTec, Dev.canSt_showTdcv, Dev.txbStamped, Dev.canSt_setCan_same]

end

/-- The lost arbitration counted, and what the controller keeps of it. -/
def Dev.missCounted (d : Dev) (c n : Nat) (lost : Bool) : Dev :=
  (if lost then d.inc (R.CAN_CNT_ARB_LOST c) else d).setCan c { d.canSt c with aborts := [], first := if lost then some n else none }

/-- The state of a buffer whose frame lost arbitration or met an error: ABORTED after an ABORT, FAILED in single shot, else PENDING. -/
def Dev.missState (d : Dev) (c n : Nat) : Nat :=
  if (d.canSt c).aborts.contains n then 4 else if d.on (R.TXB_CTRL_SINGLE_SHOT c n) then 5 else 1

theorem Dev.txbMissed_eq (d : Dev) (c n : Nat) (lost : Bool) : d.txbMissed c n lost =
    if d.missState c n = 1 then (d.missCounted c n lost).set (R.TXB_STATUS_STATE c n) 1 else (d.missCounted c n lost).txbFail c n (d.missState c n) := by
  rw [Dev.txbMissed, Dev.missState]
  split
  · rfl
  · split <;> rfl

theorem Dev.missState_lt (d : Dev) (c n : Nat) : d.missState c n < 2 ^ 3 := by
  rw [Dev.missState]
  split
  · decide
  · split <;> decide

theorem Dev.txbMissed_effect (d : Dev) (c : Fin 8) (n : Fin 3) (lost : Bool) :
    (d.txbMissed c n lost).get (R.TXB_STATUS_STATE c n) = d.missState c n ∧
      ∀ g : Fld, 0x1200000 ≤ g.key → g.key ≠ (R.CAN_EVT_TX_FAIL c).key → g.key ≠ (R.TXB_STATUS_STATE c n).key →
        (d.txbMissed c n lost).get g = (d.missCounted c n lost).get g := by
  rw [Dev.txbMissed_eq]
  split
  · next h => exact ⟨(Dev.get_set_same ..).trans h.symm, fun g _ _ hne => Dev.get_set_ne _ _ _ _ hne⟩
  · exact ⟨(Dev.get_txbFail _ _ _ _ (d.missState_lt c n)).1, fun g hg hfail hne => Dev.get_txbFail_ne _ _ _ _ _ hg hfail hne⟩

theorem Dev.get_missCounted (d : Dev) (c n : Nat) (lost : Bool) (g : Fld) :
    (d.missCounted c n lost).get g = (if lost then d.inc (R.CAN_CNT_ARB_LOST c) else d).get g := rfl

section
variable {c : Fin 8} {n : Fin 3} {s : State}

theorem exec_canTxEnd (r : CanEnd) (ago : Fin 0x1000000) (tdcv : Nat) : exec (.canTxEnd c r ago tdcv) s = .next (s.canTxEnd c r ago tdcv) := rfl

theorem State.canTxEnd_idle (h : ∀ k < 3, s.dev.get (R.TXB_STATUS_STATE c k) ≠ 2) (r : CanEnd) (ago tdcv : Nat) : s.canTxEnd c r ago tdcv = s := by
  have hnone : [0, 1, 2].find? (fun k => s.dev.txb c k == 2) = none := by simp [Dev.txb_eq, h]
  rw [State.canTxEnd, hnone]

section
variable (hactive : [0, 1, 2].find? (fun k => s.dev.get (R.TXB_STATUS_STATE c k) == 2) = some n.val)
include hactive

theorem State.canTxEnd_ok (hmode : s.dev.get (R.CAN_STATUS_MODE_NOW c) = 1) (ago tdcv : Nat) :
    s.canTxEnd c .ok ago tdcv = s.on fun d => d.txbDone c n ago tdcv := by
  simp only [State.canTxEnd, Dev.txb_eq, hactive, Dev.canMode_eq, hmode]; rfl

theorem State.canTxEnd_missed (lost : Bool) (ago tdcv : Nat) :
    s.canTxEnd c (if lost then .lost else .error) ago tdcv = s.on fun d => d.txbMissed c n lost := by
  cases lost <;> simp only [State.canTxEnd, Dev.txb_eq, hactive] <;> rfl

theorem exec_canTxEnd_missed (lost : Bool) (ago : Fin 0x1000000) (tdcv : Nat) :
    ∃ t, exec (.canTxEnd c (if lost then .lost else .error) ago tdcv) s = .next t ∧
      t.dev.get (R.TXB_STATUS_STATE c n) = (if (s.dev.canSt c).aborts.contains n.val then 4 else if s.dev.on (R.TXB_CTRL_SINGLE_SHOT c n) then 5 else 1) ∧
      t.dev.get (R.CAN_CNT_ARB_LOST c) = (if lost then (s.dev.get (R.CAN_CNT_ARB_LOST c) + 1) % 2 ^ 32 else s.dev.get (R.CAN_CNT_ARB_LOST c)) ∧
      t.mem = s.mem ∧ t.dev.get (R.CAN_CNT_TX_OK c) = s.dev.get (R.CAN_CNT_TX_OK c) := by
  have hc := canKeys c
  have hn := txbKeys c n
  obtain ⟨hstate, hget⟩ := Dev.txbMissed_effect s.dev c n lost
  refine ⟨_, congrArg Host.Outcome.next (State.canTxEnd_missed hactive lost ago tdcv), hstate, ?_, rfl, ?_⟩
  · rw [State.on_dev, hget _ (by omega) (by omega) (by omega), Dev.get_missCounted]
    cases lost
    · rfl
    · exact Dev.get_inc_same ..
  · rw [State.on_dev, hget _ (by omega) (by omega) (by omega), Dev.get_missCounted]
    cases lost
    · rfl
    · exact Dev.get_inc_ne _ _ _ (by omega)

end

end

/-- Settles O29, row by row; identifier priority by `canNext_priority_spec`. -/
theorem canTransmit : Obligations.CanTransmit := by
  refine ⟨fun w c n s hw h1 h2 hv => exec_txbReq_valid hw h1 h2 hv, fun w c n s hw h1 h2 hv => exec_txbReq_invalid hw h1 h2 hv,
    fun w c n s hw h => exec_txbReq_busy hw h, fun w c n s hw h => exec_txbAbort_pending hw h,
    fun w c n s hw h => ⟨_, exec_txbAbort_active hw h, ?_, rfl, rfl, rfl⟩, fun w c n s hw h1 h2 => exec_txbAbort_ignored hw h1 h2,
    fun c n s hmode hstate hfree hnext => ?_, fun c s h => ?_, fun m d c h => canNext_priority_spec m h,
    fun c n ago tdcv s hmode hactive => ?_, fun c n ago tdcv lost s hactive => exec_canTxEnd_missed hactive lost ago tdcv, fun c r ago tdcv s h => ?_⟩
  · rw [State.on_dev, Dev.canSt_setCan_same]
  · exact ⟨_, congrArg Host.Outcome.next (State.canTxChoice_chosen hmode hstate hfree hnext), canSend_effect s c n _⟩
  · rw [exec_canTxChoice, State.canTxChoice_none h]
  · obtain ⟨hstate, hdone, hcount, hts, haborts⟩ := s.dev.txbDone_eq c n ago tdcv ▸ Dev.txbClose_effect s.dev c n _ tdcv _ _
    exact ⟨_, congrArg Host.Outcome.next (State.canTxEnd_ok hactive hmode ago tdcv), hstate, hdone, hcount, hts, rfl, haborts⟩
  · rw [exec_canTxEnd, State.canTxEnd_idle h]

end Sys2Proof.Machine
end

section
/-! PROOFS. Serial transmission (R365, R367, R373 to R378): the FIFO, the driver enable, the end of a frame and an underrun, FLUSH_TX, EN and CLR_CNT. -/

namespace Sys2Proof.Machine
open Sys2Proof Sys2Proof.Safety

/-! ### Registers, causes, time -/

/-- Where the registers of a channel lie that transmission changes or reads (R377, R378). -/
theorem serKeys (n : Nat) : (R.SER_CTRL_EN n).key = 0x1400000 + n * 0x2000 ∧ (R.SER_DE_LAG n).key = 0x1400280 + n * 0x2000 ∧
    (R.SER_DE_LEAD n).key = 0x1400290 + n * 0x2000 ∧ (R.SER_STATUS_RX_BUSY n).key = 0x1400500 + n * 0x2000 ∧
    (R.SER_STATUS_TX_BUSY n).key = 0x1400501 + n * 0x2000 ∧ (R.SER_STATUS_DE n).key = 0x1400502 + n * 0x2000 ∧
    (R.SER_STATUS_RXSTAT_LEVEL n).key = 0x1400508 + n * 0x2000 ∧ (R.SER_STATUS_TX_LEVEL n).key = 0x1400510 + n * 0x2000 ∧
    (R.SER_EVT_TX_DONE n).key = 0x1400780 + n * 0x2000 ∧ (R.SER_EVT_TX_UNDERRUN n).key = 0x1400781 + n * 0x2000 ∧
    (R.SER_EVT_TX_OVF n).key = 0x1400786 + n * 0x2000 ∧ (R.SER_CNT_TX_FRAMES n).key = 0x1401080 + n * 0x2000 ∧
    (R.SER_CNT_TX_UNDERRUN n).key = 0x1401200 + n * 0x2000 := by
  simp only [Fld.key, R.SER_CTRL_EN, R.SER_DE_LAG, R.SER_DE_LEAD, R.SER_STATUS_RX_BUSY, R.SER_STATUS_TX_BUSY, R.SER_STATUS_DE,
    R.SER_STATUS_RXSTAT_LEVEL, R.SER_STATUS_TX_LEVEL, R.SER_EVT_TX_DONE, R.SER_EVT_TX_UNDERRUN, R.SER_EVT_TX_OVF, R.SER_CNT_TX_FRAMES,
    R.SER_CNT_TX_UNDERRUN]
  omega

theorem EventFrame.ser {d d' : Dev} (h : EventFrame d d') : d'.ser = d.ser := by rw [h.rest]

theorem TimeFrame.ser {d d' : Dev} (h : TimeFrame d d') : d'.ser = d.ser := by rw [h.rest]

theorem timeRegs_below : ∀ f ∈ timeRegs, f.key < 0x1200000 := by decide

theorem TimeFrame.get_above {d d' : Dev} (h : TimeFrame d d') (g : Fld) (hg : 0x1200000 ≤ g.key) : d'.get g = d.get g :=
  h.get g fun f hf => by have := timeRegs_below f hf; omega

theorem Dev.serSt_congr {d d' : Dev} (h : d'.ser = d.ser) (n : Nat) : d'.serSt n = d.serSt n := by rw [Dev.serSt, h]; rfl

section
variable (d : Dev) (n : Fin 12) (f : Fld) (b : Nat)

theorem EventFrame.serCause : EventFrame (d.set f 1) (d.serCause n f b) := .cause _ _ _ _ (by omega)

theorem Dev.get_serCause_same (hf : 0x1200000 ≤ f.key) : (d.serCause n f b).get f = 1 % 2 ^ f.width :=
  Dev.cause_get_same _ _ _ _ (by omega) (block_ne_events hf)

theorem Dev.get_serCause_ne (g : Fld) (hg : 0x1200000 ≤ g.key) (hne : g.key ≠ f.key) : (d.serCause n f b).get g = d.get g :=
  Dev.cause_get_ne _ _ _ _ _ (by omega) (block_ne_events hg) hne

theorem Dev.serSt_serCause (k : Nat) : (d.serCause n f b).serSt k = d.serSt k := Dev.serSt_congr (EventFrame.serCause d n f b).ser k

end

/-! ### A channel changed, with the levels that show it -/

theorem Dev.get_setSer_ne (d : Dev) (n : Nat) (x : SerSt) (g : Fld) (htx : g.key ≠ (R.SER_STATUS_TX_LEVEL n).key)
    (hrx : g.key ≠ (R.SER_STATUS_RXSTAT_LEVEL n).key) : (d.setSer n x).get g = d.get g :=
  (Dev.get_set_ne _ _ _ _ hrx).trans (Dev.get_set_ne _ _ _ _ htx)

theorem Dev.get_setSer_level (d : Dev) (n : Nat) (x : SerSt) (h : x.tx.length < 2 ^ 9) : (d.setSer n x).get (R.SER_STATUS_TX_LEVEL n) = x.tx.length := by
  have hk := serKeys n
  exact (Dev.get_set_ne _ _ _ _ (by omega)).trans (Dev.get_set_of_lt _ _ h)

/-! ### A write of EN -/

section
variable {w : Writer} {n : Fin 12} {s : State} (hw : Grants s w (R.SER_CTRL_EN n))
include hw

theorem exec_serEnable (on : Bool) : exec (.serEnable w n on) s = .next (s.on fun d => d.serEnable n on) := State.gate_next hw rfl

/-- Clearing EN ends a receive frame without a record (log entry 17). -/
theorem exec_serEnable_off :
    ∃ t, exec (.serEnable w n false) s = .next t ∧ t.dev.get (R.SER_CTRL_EN n) = 0 ∧ t.dev.get (R.SER_STATUS_RX_BUSY n) = 0 ∧
      (t.dev.serSt n).rx = [] ∧ (t.dev.serSt n).stats = (s.dev.serSt n).stats ∧ (t.dev.serSt n).tx = (s.dev.serSt n).tx ∧
      KeepsRegs [R.SER_CTRL_EN n, R.SER_STATUS_RX_BUSY n, R.SER_STATUS_TX_LEVEL n, R.SER_STATUS_RXSTAT_LEVEL n] s t := by
  have hk := serKeys n
  have hst : (s.dev.serEnable n false).serSt n = { s.dev.serSt n with rx := [], flags := 0 } := Dev.serSt_setSer_same ..
  refine ⟨_, exec_serEnable hw false, ?_, ?_, by rw [State.on_dev, hst], by rw [State.on_dev, hst], by rw [State.on_dev, hst], keepsRegs_on fun g hg => ?_⟩
  · exact (Dev.get_setSer_ne _ _ _ _ (by omega) (by omega)).trans ((Dev.get_set_ne _ _ _ _ (by omega)).trans (Dev.get_set_same ..))
  · exact (Dev.get_setSer_ne _ _ _ _ (by omega) (by omega)).trans (Dev.get_set_same ..)
  · exact (Dev.get_setSer_ne _ _ _ _ (hg _ (by simp)) (hg _ (by simp))).trans
      ((Dev.get_set_ne _ _ _ _ (hg _ (by simp))).trans (Dev.get_set_ne _ _ _ _ (hg _ (by simp))))

end

/-! ### The FIFO -/

/-- The byte that a word written to SER_TXDATA carries (R373). -/
def txdataByte (v : W32) : SerByte := { data := v.truncate 8, last := v.getLsbD 8, timed := v.getLsbD 8 && v.getLsbD 9 }

/-- With no frame on the line nothing leaves the FIFO. -/
theorem Dev.serDrain_idle {d : Dev} {n : Nat} (h : d.on (R.SER_STATUS_TX_BUSY n) = false) : d.serDrain n = d := if_pos (by simp [h])

theorem Dev.get_serDrain_ne (d : Dev) (n : Nat) (g : Fld) (htx : g.key ≠ (R.SER_STATUS_TX_LEVEL n).key)
    (hrx : g.key ≠ (R.SER_STATUS_RXSTAT_LEVEL n).key) : (d.serDrain n).get g = d.get g := by
  simp only [Dev.serDrain]
  split
  · rfl
  · exact Dev.get_setSer_ne _ _ _ _ htx hrx

/-- A byte written while no frame is on the line: discarded up to END after an underrun, dropped on a full FIFO, else entered. -/
theorem Dev.serTxData_idle {d : Dev} {n : Nat} (w : Writer) (v : W32) (hv : v.toNat < 2 ^ 10) (h : d.on (R.SER_STATUS_TX_BUSY n) = false) :
    d.serTxData w n v.toNat = if (d.serSt n).discard then d.setSer n { d.serSt n with discard := !v.getLsbD 8 }
      else if 256 ≤ (d.serSt n).tx.length then d.serCause n (R.SER_EVT_TX_OVF n) 6
      else d.setSer n { d.serSt n with tx := (d.serSt n).tx ++ [txdataByte v] } := by
  have hrsv : (v.toNat / 2 ^ 10 != 0) = false := by rw [Nat.div_eq_of_lt hv]; rfl
  simp only [Dev.serTxData, Dev.serDrain_idle h, hrsv, BitVec.ofNat_toNat]
  rfl

section
variable {w : Writer} {n : Fin 12} {v : W32} {s : State} (hw : Grants s w (R.SER_TXDATA_DATA n)) (hv : v.toNat < 2 ^ 10)
  (hidle : s.dev.on (R.SER_STATUS_TX_BUSY n) = false)
include hw

theorem exec_serTxdata : exec (.serTxdata w n v) s = .next (s.on fun d => d.serTxData w n v.toNat) :=
  State.gate_next hw (by simp only [R.SER_TXDATA_DATA]; omega)

include hv hidle

theorem exec_serTxdata_entered (hkeep : (s.dev.serSt n).discard = false) (hroom : (s.dev.serSt n).tx.length < 256) :
    ∃ t, exec (.serTxdata w n v) s = .next t ∧ t.dev.get (R.SER_STATUS_TX_LEVEL n) = (s.dev.serSt n).tx.length + 1 ∧ t.mem = s.mem ∧
      (t.dev.serSt n).tx = (s.dev.serSt n).tx ++ [txdataByte v] := by
  refine ⟨s.on fun d => d.setSer n { d.serSt n with tx := (d.serSt n).tx ++ [txdataByte v] }, ?_, ?_, rfl, ?_⟩
  · rw [exec_serTxdata hw, State.on, Dev.serTxData_idle w v hv hidle, if_neg (by simp [hkeep]), if_neg (by omega)]; rfl
  · rw [State.on_dev, Dev.get_setSer_level _ _ _ (by simp; omega), List.length_append]; rfl
  · rw [State.on_dev, Dev.serSt_setSer_same]

theorem exec_serTxdata_full (hkeep : (s.dev.serSt n).discard = false) (hfull : (s.dev.serSt n).tx.length = 256) :
    ∃ t, exec (.serTxdata w n v) s = .next t ∧ t.dev.get (R.SER_EVT_TX_OVF n) = 1 ∧ t.dev.ser = s.dev.ser ∧ OnlyRegsEv [R.SER_EVT_TX_OVF n] s t := by
  have hk := serKeys n
  refine ⟨s.on fun d => d.serCause n (R.SER_EVT_TX_OVF n) 6, ?_, Dev.get_serCause_same _ _ _ _ (by omega), (EventFrame.serCause ..).ser,
    .cause _ _ _ _ (by omega) (by simp)⟩
  rw [exec_serTxdata hw, State.on, Dev.serTxData_idle w v hv hidle, if_neg (by simp [hkeep]), if_pos (by omega)]; rfl

theorem exec_serTxdata_discarded (hdiscard : (s.dev.serSt n).discard = true) :
    ∃ t, exec (.serTxdata w n v) s = .next t ∧ (t.dev.serSt n).tx = (s.dev.serSt n).tx ∧ (t.dev.serSt n).discard = !v.getLsbD 8 ∧ t.mem = s.mem := by
  refine ⟨s.on fun d => d.setSer n { d.serSt n with discard := !v.getLsbD 8 }, ?_, ?_, ?_, rfl⟩
  · rw [exec_serTxdata hw, State.on, Dev.serTxData_idle w v hv hidle, if_pos hdiscard]; rfl
  · rw [State.on_dev, Dev.serSt_setSer_same]
  · rw [State.on_dev, Dev.serSt_setSer_same]

end

/-! ### The start of a frame -/

/-- DE rises and the frame is on the line: its first start bit comes LEAD later, and LAG is kept as it stands (R367, R374). -/
def Dev.serRaiseDe (d : Dev) (n : Nat) : Dev :=
  let d1 := (d.serDe n true).set (R.SER_STATUS_TX_BUSY n) 1
  d1.setSer n { d1.serSt n with start := d1.now + d1.get (R.SER_DE_LEAD n) * 10, lag := d1.get (R.SER_DE_LAG n), sent := [], flushed := false, echo := 0 }

/-- The wait of a frame with AT for SER_TX_AT (R374). -/
def Dev.serAwait (d : Dev) (n : Nat) : Dev :=
  if (uptoLast (d.serSt n).tx).any (fun b => b.timed) then
    d.passTo (d.get (R.SER_RX_CFG_TB n)) (d.get (R.SER_TX_AT n) * 2 ^ 32 - d.get (R.SER_DE_LEAD n) * 10 * 2 ^ 32) else d

theorem Dev.serTxStart_idle {d : Dev} {n : Nat}
    (h : d.on (R.SER_CTRL_EN n) = false ∨ d.on (R.SER_STATUS_TX_BUSY n) = true ∨ d.serEligible n = false) : d.serTxStart n = d := by
  refine if_pos ?_
  rcases h with h | h | h <;> simp [h]

theorem Dev.serTxStart_starts {d : Dev} {n : Nat} (hen : d.on (R.SER_CTRL_EN n) = true) (hidle : d.on (R.SER_STATUS_TX_BUSY n) = false)
    (hel : d.serEligible n = true) : d.serTxStart n = (d.serAwait n).serRaiseDe n := if_neg (by simp [hen, hidle, hel])

theorem Dev.get_serRaiseDe (d : Dev) (n : Nat) : (d.serRaiseDe n).get (R.SER_STATUS_DE n) = 1 ∧ (d.serRaiseDe n).get (R.SER_STATUS_TX_BUSY n) = 1 := by
  have hk := serKeys n
  refine ⟨?_, ?_⟩
  · exact (Dev.get_setSer_ne _ _ _ _ (by omega) (by omega)).trans ((Dev.get_set_ne _ _ _ _ (by omega)).trans (Dev.get_set_same ..))
  · exact (Dev.get_setSer_ne _ _ _ _ (by omega) (by omega)).trans (Dev.get_set_same ..)

theorem Dev.serRaiseDe_serSt (d : Dev) (n : Nat) : (d.serRaiseDe n).serSt n =
    { d.serSt n with start := d.now + d.get (R.SER_DE_LEAD n) * 10, lag := d.get (R.SER_DE_LAG n), sent := [], flushed := false, echo := 0 } := by
  have hk := serKeys n
  have hkeep (g : Fld) (hde : g.key ≠ (R.SER_STATUS_DE n).key) (hbusy : g.key ≠ (R.SER_STATUS_TX_BUSY n).key) :
      ((d.serDe n true).set (R.SER_STATUS_TX_BUSY n) 1).get g = d.get g := (Dev.get_set_ne _ _ _ _ hbusy).trans (Dev.get_set_ne _ _ _ _ hde)
  simp only [Dev.serRaiseDe, Dev.serSt_setSer_same, hkeep (R.SER_DE_LEAD n) (by omega) (by omega), hkeep (R.SER_DE_LAG n) (by omega) (by omega)]
  rfl

theorem exec_serTxStart (n : Fin 12) (s : State) : exec (.serTxStart n) s = .next (s.on fun d => d.serTxStart n) := rfl

section
variable {n : Fin 12} {s : State} (hen : s.dev.on (R.SER_CTRL_EN n) = true) (hidle : s.dev.on (R.SER_STATUS_TX_BUSY n) = false)
  (hel : s.dev.serEligible n = true)
include hen hidle hel

theorem exec_serTxStart_starts : exec (.serTxStart n) s = .next (s.on fun d => (d.serAwait n).serRaiseDe n) := by
  rw [exec_serTxStart, State.on, Dev.serTxStart_starts hen hidle hel]; rfl

theorem exec_serTxStart_untimed (hat : (uptoLast (s.dev.serSt n).tx).any (fun b => b.timed) = false) :
    exec (.serTxStart n) s = .next (s.on fun d => d.serRaiseDe n) := by
  rw [exec_serTxStart_starts hen hidle hel, State.on, Dev.serAwait, if_neg (by simp [hat])]; rfl

end

/-! ### The end of a frame -/

/-- A FIFO that holds the end of a frame holds it up to there. -/
theorem hasLast_uptoLast (l : List SerByte) : hasLast (uptoLast l) = hasLast l := by
  induction l with
  | nil => rfl
  | cons b r ih =>
    rw [uptoLast]
    split
    · next h => simp [hasLast, h]
    · next h => simpa [hasLast, h] using ih

theorem foldl_emit_frame {α : Type} (f : α → Output) (l : List α) (d : Dev) :
    (l.foldl (fun a b => a.emit (f b)) d).regs = d.regs ∧ (l.foldl (fun a b => a.emit (f b)) d).ser = d.ser := by
  induction l generalizing d with
  | nil => exact ⟨rfl, rfl⟩
  | cons b r ih => exact ih (d.emit (f b))

/-- The characters have gone out and LAG has passed. -/
def Dev.serPassed (d : Dev) (n : Nat) (l : List SerByte) : Dev :=
  let x := d.serSt n
  let done := x.start + (l.length * d.charTime n * 5 + 15) / 16 + x.lag * 10
  l.foldl (fun (a : Dev) b => a.emit (.serial n b.data)) (if d.now < done then d.passNs (done - d.now) else d)

theorem Dev.serSendAll_eq (d : Dev) (n : Nat) (l : List SerByte) : d.serSendAll n l =
    (((d.serPassed n l).serDe n false).set (R.SER_STATUS_TX_BUSY n) 0).setSer n { (d.serPassed n l).serSt n with sent := [], flushed := false } := rfl

/-- The registers of the channel and its state stay as they are while time passes and characters go out. -/
theorem Dev.serPassed_frame (d : Dev) (n : Nat) (l : List SerByte) :
    (∀ g : Fld, 0x1200000 ≤ g.key → (d.serPassed n l).get g = d.get g) ∧ (d.serPassed n l).serSt n = d.serSt n := by
  have htime (b : Prop) [Decidable b] (k : Nat) : TimeFrame d (if b then d.passNs k else d) := by
    split
    · exact .passNs ..
    · exact .refl d
  simp only [Dev.serPassed]
  obtain ⟨hregs, hser⟩ := foldl_emit_frame (fun b : SerByte => .serial n b.data) l
    (if d.now < (d.serSt n).start + (l.length * d.charTime n * 5 + 15) / 16 + (d.serSt n).lag * 10 then
      d.passNs ((d.serSt n).start + (l.length * d.charTime n * 5 + 15) / 16 + (d.serSt n).lag * 10 - d.now) else d)
  exact ⟨fun g hg => (Dev.get_congr hregs g).trans ((htime _ _).get_above g hg), Dev.serSt_congr (hser.trans (htime _ _).ser) n⟩

section
variable (d : Dev) (n : Nat) (l : List SerByte)

theorem Dev.serSt_serSendAll : (d.serSendAll n l).serSt n = { d.serSt n with sent := [], flushed := false } := by
  rw [Dev.serSendAll_eq, Dev.serSt_setSer_same, (d.serPassed_frame n l).2]

theorem Dev.get_serSendAll : (d.serSendAll n l).get (R.SER_STATUS_DE n) = 0 ∧ (d.serSendAll n l).get (R.SER_STATUS_TX_BUSY n) = 0 := by
  have hk := serKeys n
  refine ⟨?_, ?_⟩
  · exact (Dev.get_setSer_ne _ _ _ _ (by omega) (by omega)).trans ((Dev.get_set_ne _ _ _ _ (by omega)).trans (Dev.get_set_same ..))
  · exact (Dev.get_setSer_ne _ _ _ _ (by omega) (by omega)).trans (Dev.get_set_same ..)

/-- The counters of the channel are not among what the end of the characters changes. -/
theorem Dev.get_serSendAll_counter (g : Fld) (hg : 0x1401000 + n * 0x2000 ≤ g.key) : (d.serSendAll n l).get g = d.get g := by
  have hk := serKeys n
  rw [Dev.serSendAll_eq, Dev.get_setSer_ne _ _ _ _ (by omega) (by omega), Dev.get_set_ne _ _ _ _ (by omega)]
  exact (Dev.get_set_ne _ _ _ _ (by omega)).trans ((d.serPassed_frame n l).1 g (by omega))

end

/-- A count and a cause after the line has been given up: what the registers of the channel then read. -/
theorem Dev.counted_effect (d : Dev) (n : Fin 12) (cnt evt : Fld) (b : Nat) (hcnt : 0x1401000 + n * 0x2000 ≤ cnt.key)
    (hlo : 0x1400780 + n * 0x2000 ≤ evt.key) (hhi : evt.key < 0x1401000 + n * 0x2000) (hde : d.get (R.SER_STATUS_DE n) = 0)
    (hbusy : d.get (R.SER_STATUS_TX_BUSY n) = 0) :
    ((d.inc cnt).serCause n evt b).get (R.SER_STATUS_DE n) = 0 ∧ ((d.inc cnt).serCause n evt b).get (R.SER_STATUS_TX_BUSY n) = 0 ∧
      ((d.inc cnt).serCause n evt b).get evt = 1 % 2 ^ evt.width ∧ ((d.inc cnt).serCause n evt b).get cnt = (d.get cnt + 1) % 2 ^ cnt.width ∧
      ((d.inc cnt).serCause n evt b).serSt n = d.serSt n := by
  have hk := serKeys n
  have hkeep (g : Fld) (hg : 0x1200000 ≤ g.key) (h : g.key < 0x1400780 + n * 0x2000) : ((d.inc cnt).serCause n evt b).get g = d.get g :=
    (Dev.get_serCause_ne _ _ _ _ _ hg (by omega)).trans (Dev.get_inc_ne _ _ _ (by omega))
  exact ⟨(hkeep _ (by omega) (by omega)).trans hde, (hkeep _ (by omega) (by omega)).trans hbusy, Dev.get_serCause_same _ _ _ _ (by omega),
    (Dev.get_serCause_ne _ _ _ _ _ (by omega) (by omega)).trans (Dev.get_inc_same ..), Dev.serSt_serCause ..⟩

theorem exec_serTxEnd (n : Fin 12) (s : State) : exec (.serTxEnd n) s = .next (s.on fun d => d.serTxEnd n) := rfl

theorem exec_txUnderrun (n : Fin 12) (s : State) : exec (.txUnderrun n) s = .next (s.on fun d => d.serUnderrun n) := rfl

theorem Dev.serTxEnd_idle {d : Dev} {n : Nat} (h : d.on (R.SER_STATUS_TX_BUSY n) = false) : d.serTxEnd n = d := if_pos (by simp [h])

theorem Dev.serUnderrun_idle {d : Dev} {n : Nat} (h : d.on (R.SER_STATUS_TX_BUSY n) = false) : d.serUnderrun n = d := if_pos (by simp [h])

section
variable {d : Dev} {n : Nat} (hbusy : d.on (R.SER_STATUS_TX_BUSY n) = true) (hflushed : (d.serSt n).flushed = false)
  (hsent : hasLast (d.serSt n).sent = false)
include hbusy hflushed hsent

theorem Dev.serTxEnd_ends (htx : hasLast (d.serSt n).tx = true) : d.serTxEnd n =
    (((d.setSer n { d.serSt n with tx := (d.serSt n).tx.drop (uptoLast (d.serSt n).tx).length }).serSendAll n
      ((d.serSt n).sent ++ uptoLast (d.serSt n).tx)).inc (R.SER_CNT_TX_FRAMES n)).serCause n (R.SER_EVT_TX_DONE n) 0 := by
  have hall : hasLast ((d.serSt n).sent ++ uptoLast (d.serSt n).tx) = true := by
    have hfifo := hasLast_uptoLast (d.serSt n).tx
    simp_all [hasLast]
  simp [Dev.serTxEnd, hbusy, hflushed, hsent, hall]

theorem Dev.serUnderrun_ends (htx : hasLast (d.serSt n).tx = false) (x : Dev)
    (hx : x = (d.setSer n { d.serSt n with tx := [] }).serSendAll n ((d.serSt n).sent ++ (d.serSt n).tx)) :
    d.serUnderrun n = ((x.setSer n { x.serSt n with discard := true }).inc (R.SER_CNT_TX_UNDERRUN n)).serCause n (R.SER_EVT_TX_UNDERRUN n) 1 := by
  rw [Dev.serUnderrun, if_neg (by simp [hbusy, hflushed, hsent, htx]), hx]

end

section
variable {n : Fin 12} {s : State} (hbusy : s.dev.on (R.SER_STATUS_TX_BUSY n) = true) (hflushed : (s.dev.serSt n).flushed = false)
  (hsent : hasLast (s.dev.serSt n).sent = false)
include hbusy hflushed hsent

theorem exec_serTxEnd_ends (htx : hasLast (s.dev.serSt n).tx = true) :
    ∃ t, exec (.serTxEnd n) s = .next t ∧ t.dev.get (R.SER_STATUS_DE n) = 0 ∧ t.dev.get (R.SER_STATUS_TX_BUSY n) = 0 ∧
      t.dev.get (R.SER_EVT_TX_DONE n) = 1 ∧ t.dev.get (R.SER_CNT_TX_FRAMES n) = (s.dev.get (R.SER_CNT_TX_FRAMES n) + 1) % 2 ^ 32 ∧
      (t.dev.serSt n).tx = (s.dev.serSt n).tx.drop (uptoLast (s.dev.serSt n).tx).length ∧ t.mem = s.mem := by
  have hk := serKeys n
  refine ⟨_, exec_serTxEnd n s, ?_⟩
  simp only [State.on, Dev.serTxEnd_ends hbusy hflushed hsent htx]
  generalize hy : s.dev.setSer n { s.dev.serSt n with tx := (s.dev.serSt n).tx.drop (uptoLast (s.dev.serSt n).tx).length } = y
  generalize (s.dev.serSt n).sent ++ uptoLast (s.dev.serSt n).tx = l
  obtain ⟨hde0, hbusy0⟩ := y.get_serSendAll n l
  obtain ⟨hde, hidle, hevt, hcnt, hst⟩ := (y.serSendAll n l).counted_effect n (R.SER_CNT_TX_FRAMES n) (R.SER_EVT_TX_DONE n) 0 (by omega) (by omega)
    (by omega) hde0 hbusy0
  refine ⟨hde, hidle, hevt, hcnt.trans ?_, ?_, trivial⟩
  · rw [Dev.get_serSendAll_counter _ _ _ _ (by omega), ← hy, Dev.get_setSer_ne _ _ _ _ (by omega) (by omega)]; rfl
  · rw [hst, Dev.serSt_serSendAll, ← hy, Dev.serSt_setSer_same]

theorem exec_txUnderrun_ends (htx : hasLast (s.dev.serSt n).tx = false) :
    ∃ t, exec (.txUnderrun n) s = .next t ∧ t.dev.get (R.SER_STATUS_DE n) = 0 ∧ t.dev.get (R.SER_STATUS_TX_BUSY n) = 0 ∧
      t.dev.get (R.SER_EVT_TX_UNDERRUN n) = 1 ∧ t.dev.get (R.SER_CNT_TX_UNDERRUN n) = (s.dev.get (R.SER_CNT_TX_UNDERRUN n) + 1) % 2 ^ 32 ∧
      (t.dev.serSt n).tx = [] ∧ (t.dev.serSt n).discard = true ∧ t.mem = s.mem := by
  have hk := serKeys n
  refine ⟨_, exec_txUnderrun n s, ?_⟩
  simp only [State.on, Dev.serUnderrun_ends hbusy hflushed hsent htx _ rfl]
  generalize (s.dev.serSt n).sent ++ (s.dev.serSt n).tx = l
  generalize hy : s.dev.setSer n { s.dev.serSt n with tx := [] } = y
  obtain ⟨hde0, hbusy0⟩ := y.get_serSendAll n l
  have hkeep (x : SerSt) (g : Fld) (htxl : g.key ≠ (R.SER_STATUS_TX_LEVEL n).key) (hrxl : g.key ≠ (R.SER_STATUS_RXSTAT_LEVEL n).key) :=
    Dev.get_setSer_ne (y.serSendAll n l) n x g htxl hrxl
  obtain ⟨hde, hidle, hevt, hcnt, hst⟩ := Dev.counted_effect ((y.serSendAll n l).setSer n { (y.serSendAll n l).serSt n with discard := true }) n
    (R.SER_CNT_TX_UNDERRUN n) (R.SER_EVT_TX_UNDERRUN n) 1 (by omega) (by omega) (by omega) ((hkeep _ _ (by omega) (by omega)).trans hde0)
    ((hkeep _ _ (by omega) (by omega)).trans hbusy0)
  refine ⟨hde, hidle, hevt, hcnt.trans ?_, ?_, ?_, trivial⟩
  · rw [hkeep _ _ (by omega) (by omega), Dev.get_serSendAll_counter _ _ _ _ (by omega), ← hy, Dev.get_setSer_ne _ _ _ _ (by omega) (by omega)]; rfl
  · rw [hst, Dev.serSt_setSer_same, Dev.serSt_serSendAll, ← hy, Dev.serSt_setSer_same]
  · rw [hst, Dev.serSt_setSer_same]

end

/-! ### FLUSH_TX and CLR_CNT -/

section
variable {w : Writer} {n : Fin 12} {s : State} (hw : Grants s w (R.SER_CTRL_EN n))
include hw

theorem exec_flushTx :
    ∃ t, exec (.flushTx w n) s = .next t ∧ (t.dev.serSt n).tx = [] ∧ t.dev.get (R.SER_STATUS_TX_LEVEL n) = 0 ∧
      KeepsRegs [R.SER_STATUS_TX_LEVEL n, R.SER_STATUS_RXSTAT_LEVEL n] s t := by
  refine ⟨s.on fun d => d.serFlush n, State.gate_next hw rfl, ?_, Dev.get_setSer_level _ _ _ (by simp), keepsRegs_on fun g hg => ?_⟩
  · rw [State.on_dev, Dev.serFlush, Dev.serSt_setSer_same]
  · exact (Dev.get_setSer_ne _ _ _ _ (hg _ (by simp)) (hg _ (by simp))).trans (Dev.get_serDrain_ne _ _ _ (hg _ (by simp)) (hg _ (by simp)))

theorem exec_serClrCnt : exec (.serClrCnt w n) s = .next (s.on fun d => d.serClrCnt n) := State.gate_next hw rfl

end

/-- Settles O46, row by row. -/
theorem serialTransmit : Obligations.SerialTransmit := by
  refine ⟨fun w n s hw => ⟨_, exec_serEnable hw true, Dev.get_set_same .., .set s _ _ (by simp)⟩, fun w n s hw => exec_serEnable_off hw,
    fun w n v s hw hv hidle hkeep hroom => exec_serTxdata_entered hw hv hidle hkeep hroom,
    fun w n v s hw hv hidle hkeep hfull => exec_serTxdata_full hw hv hidle hkeep hfull,
    fun w n v s hw hv hidle hdiscard => exec_serTxdata_discarded hw hv hidle hdiscard, fun n s hen hidle hel hat => ?_, fun n s hen hidle hel _ => ?_,
    fun n s h => ?_, fun n s hbusy hflushed hsent htx => exec_serTxEnd_ends hbusy hflushed hsent htx, fun n s hidle => ⟨?_, ?_⟩,
    fun n s hbusy hflushed hsent htx => exec_txUnderrun_ends hbusy hflushed hsent htx, fun w n s hw => exec_flushTx hw, fun w n s hw => ?_⟩
  · have hst := s.dev.serRaiseDe_serSt n
    obtain ⟨hde, hbusy⟩ := s.dev.get_serRaiseDe n
    exact ⟨_, exec_serTxStart_untimed hen hidle hel hat, hde, hbusy, rfl, rfl, by rw [State.on_dev, hst], by rw [State.on_dev, hst],
      by rw [State.on_dev, hst], rfl⟩
  · exact ⟨_, exec_serTxStart_starts hen hidle hel, Dev.get_serRaiseDe ..⟩
  · rw [exec_serTxStart, State.on, Dev.serTxStart_idle h]
  · rw [exec_serTxEnd, State.on, Dev.serTxEnd_idle hidle]
  · rw [exec_txUnderrun, State.on, Dev.serUnderrun_idle hidle]
  · have hclear {f : Fld} := Dev.get_clear_mem s.dev (g := f)
    refine ⟨_, exec_serClrCnt hw, ?_⟩
    refine ⟨hclear _ ?_, hclear _ ?_, hclear _ ?_, hclear _ ?_, hclear _ ?_, hclear _ ?_, hclear _ ?_, onlyRegs_clear s _⟩ <;> simp

end Sys2Proof.Machine
end

section
/-! PROOFS. The store of a received CAN frame (R353, R354): what its accesses to Orchard leave of the controllers, for slots of Orchard and beyond. -/

namespace Sys2Proof.Machine
open Sys2Proof Sys2Proof.Safety

/-! ### What accesses to Orchard leave of the CAN controllers -/

/-- The registers of block 0x9 and the controllers stay as they are. -/
structure KeepsCan (d d' : Dev) : Prop where
  get : ∀ g : Fld, block g = 9 → d'.get g = d.get g
  can : d'.can = d.can

theorem KeepsCan.refl (d : Dev) : KeepsCan d d := ⟨fun _ _ => rfl, rfl⟩

theorem KeepsCan.trans {a b c : Dev} (h1 : KeepsCan a b) (h2 : KeepsCan b c) : KeepsCan a c :=
  ⟨fun g hg => (h2.get g hg).trans (h1.get g hg), h2.can.trans h1.can⟩

theorem KeepsCan.set (d : Dev) (f : Fld) (v : Nat) (h : block f ≠ 9) : KeepsCan d (d.set f v) :=
  ⟨fun _ hg => Dev.get_set_ne _ _ _ _ (key_ne_of_block_ne fun e => h (e.symm.trans hg)), rfl⟩

theorem KeepsCan.event {d d' : Dev} (h : EventFrame d d') : KeepsCan d d' := ⟨fun g hg => h.get g (by omega), h.can⟩

theorem KeepsCan.cause (d : Dev) (f : Fld) (en : Bool) (ev : Nat) (he : ev < 256) (h : block f ≠ 9) : KeepsCan d (d.cause f en ev) :=
  (KeepsCan.set d f 1 h).trans (.event (.cause d f en ev he))

theorem KeepsCan.foldl {α : Type} {f : Dev → α → Dev} (d : Dev) (l : List α) (h : ∀ a, ∀ x ∈ l, KeepsCan a (f a x)) :
    KeepsCan d (l.foldl f d) := by
  induction l generalizing d with
  | nil => exact .refl d
  | cons x r ih => exact (h d x (List.mem_cons_self ..)).trans (ih (f d x) fun a y hy => h a y (List.mem_cons_of_mem _ hy))

section
variable (d : Dev) {n : Nat} (hn : n < 160)
include hn

/-- The status bits of a bank, and the log of its quad, lie in block 0x4 for every bank that 26 address bits name. -/
theorem orchReg_block {f : Fld} (h : 0x40000 * 32 ≤ f.key ∧ f.key < (0x4000c + n * 0x10) * 32 + 32 ∨
    0x41000 * 32 ≤ f.key ∧ f.key < (0x4100c + n / 4 * 0x10) * 32) : block f ≠ 9 := by
  rw [block]; omega

theorem KeepsCan.bankCause (f : Fld) (i : Nat) (hlo : 0x40000 * 32 ≤ f.key) (hhi : f.key < (0x4000c + n * 0x10) * 32 + 32) :
    KeepsCan d (d.bankCause n f i) := .cause _ _ _ _ (by omega) (orchReg_block hn (.inl ⟨hlo, hhi⟩))

theorem KeepsCan.faultLog (cause : Nat) (r : Req) (write : Bool) (addr : Nat) : KeepsCan d (d.faultLog n cause r write addr) := by
  have hreg {f : Fld} (x : Dev) (v : Nat) (hlo : 0x41000 * 32 ≤ f.key) (hhi : f.key < (0x4100c + n / 4 * 0x10) * 32) : KeepsCan x (x.set f v) :=
    .set x f v (orchReg_block hn (.inr ⟨hlo, hhi⟩))
  have hcnt : KeepsCan d (d.inc (R.ORCH_FAULT_CNT (n / 4))) := hreg _ _ (by simp only [Fld.key, R.ORCH_FAULT_CNT]; omega)
    (by simp only [Fld.key, R.ORCH_FAULT_CNT]; omega)
  simp only [Dev.faultLog]
  split
  · exact hcnt
  · refine (((((((hcnt.trans (hreg _ _ ?_ ?_)).trans (hreg _ _ ?_ ?_)).trans (hreg _ _ ?_ ?_)).trans (hreg _ _ ?_ ?_)).trans (hreg _ _ ?_ ?_)).trans
      (hreg _ _ ?_ ?_)).trans (hreg _ _ ?_ ?_)).trans (hreg _ _ ?_ ?_) <;>
    simp only [Fld.key, R.ORCH_FAULT_INFO_VALID, R.ORCH_FAULT_INFO_CAUSE, R.ORCH_FAULT_INFO_PORT, R.ORCH_FAULT_INFO_BANK, R.ORCH_FAULT_INFO_WRITE,
      R.ORCH_FAULT_INFO_AGENT, R.ORCH_FAULT_INFO_ENGINE, R.ORCH_FAULT_ADDR] <;> omega

theorem KeepsCan.bankFault (cause : Nat) (r : Req) (write : Bool) (addr : Nat) : KeepsCan d (d.bankFault n cause r write addr) :=
  (KeepsCan.faultLog d hn cause r write addr).trans (.bankCause _ hn _ _ (by simp only [Fld.key, R.BANK_STATUS_FAULT]; omega)
    (by simp only [Fld.key, R.BANK_STATUS_FAULT]; omega))

theorem KeepsCan.bankUe (r : Req) (write : Bool) (addr : Nat) : KeepsCan d (d.bankUe n r write addr) := by
  have hue : KeepsCan d ((d.faultLog n 4 r write addr).bankCause n (R.BANK_STATUS_UE n) 5) :=
    (KeepsCan.faultLog d hn 4 r write addr).trans (.bankCause _ hn _ _ (by simp only [Fld.key, R.BANK_STATUS_UE]; omega)
      (by simp only [Fld.key, R.BANK_STATUS_UE]; omega))
  simp only [Dev.bankUe]
  split
  · exact hue
  · exact (hue.trans (.set _ _ _ (by decide))).trans (.cause _ _ _ _ (by decide) (by decide))

theorem KeepsCan.bankCe (addr : Nat) : KeepsCan d (d.bankCe n addr) := by
  simp only [Dev.bankCe]
  have hwait : KeepsCan d { d with orch := { d.orch with writeBack := d.orch.writeBack ++ [addr / 8 * 8] } } := ⟨fun _ _ => rfl, rfl⟩
  refine (hwait.trans (.set _ (R.BANK_STATUS_CE_CNT n) _ (orchReg_block hn (.inl ?_)))).trans (.bankCause _ hn _ _ ?_ ?_) <;>
    simp only [Fld.key, R.BANK_STATUS_CE_CNT, R.BANK_STATUS_CE] <;> omega

end

/-- The words of a byte range lie in the banks that the range touches. -/
theorem bank_of_mem_wordsOf {addr len w : Nat} (h : addr + len ≤ 2 ^ 26) (hw : w ∈ wordsOf addr len) : w / 0x80000 < 160 := by
  obtain ⟨i, hi, rfl⟩ := List.mem_map.mp hw
  have := List.mem_range.mp hi
  omega

theorem KeepsCan.orchRead (m : List Host.Cell) (d : Dev) (q : Req) {addr len : Nat} (h : addr + len ≤ 2 ^ 26) :
    KeepsCan d (orchRead m d q addr len).2 := by
  have hbank : addr / 0x80000 < 160 := by omega
  simp only [Machine.orchRead]
  split
  · exact .bankFault d hbank _ _ _ _
  · refine .foldl d _ fun a w hw => ?_
    have hbank := bank_of_mem_wordsOf h hw
    split
    · exact .bankCe a hbank _
    · exact .bankUe a hbank _ _ _
    · exact .refl a

theorem KeepsCan.writeCheck (d : Dev) (q : Req) {addr len : Nat} (h : addr + len ≤ 2 ^ 26) : KeepsCan d (d.writeCheck q addr len).1 := by
  have hbank : addr / 0x80000 < 160 := by omega
  simp only [Dev.writeCheck]
  split
  · exact .bankFault d hbank _ _ _ _
  · split
    · next g hg =>
      have hg : g < 256 := by
        have := List.mem_of_find?_eq_some (Option.filter_eq_some_iff.mp hg).1
        exact List.mem_range.mp (List.mem_filter.mp this).1
      exact .set _ _ _ (by simp only [block, Fld.key, R.IMG_FLAGS_WRITE_REJ]; omega)
    · split
      · exact KeepsCan.bankUe d hbank q true (addr % 0x80000)
      · refine .foldl d _ fun a w _ => ?_
        split
        · exact ⟨fun _ _ => rfl, rfl⟩
        · exact .refl a

theorem KeepsCan.orchWrite (s : State) (q : Req) {addr : Nat} {l : List Byte} (h : addr + l.length ≤ 2 ^ 26) :
    KeepsCan s.dev (s.orchWrite q addr l).dev := .writeCheck _ _ h

theorem KeepsCan.orchSpan (s : State) (q : Req) {addr : Nat} {l : List Byte} (h : addr + l.length ≤ 2 ^ 26) :
    KeepsCan s.dev (s.orchSpan q addr l).dev := by
  have hput (a : State) (o : Nat) (k : List Byte) (hk : o + k.length ≤ l.length) :
      KeepsCan a.dev (if k = [] then a else a.orchWrite q (addr + o) k).dev := by
    split
    · exact .refl _
    · exact .orchWrite _ _ (by omega)
  simp only [State.orchSpan]
  split
  · refine ((hput _ _ _ ?_).trans (hput _ _ _ ?_)).trans (hput _ _ _ ?_)
    all_goals simp only [List.length_take, List.length_drop]; omega
  · exact .orchWrite _ _ h

theorem KeepsCan.orchStore (s : State) (q : Req) {addr : Nat} {l : List Byte} (h : addr + l.length ≤ 2 ^ 26) :
    KeepsCan s.dev (s.orchStore q addr l).dev := by
  simp only [State.orchStore]
  split
  · exact .orchSpan _ _ h
  · refine (KeepsCan.orchSpan s q ?_).trans (.orchSpan _ _ ?_)
    all_goals simp only [List.length_take, List.length_drop]; omega

/-! ### The store -/

/-- The device with the oldest staged frame taken away. -/
def Dev.unstage (d : Dev) (c : Nat) (rest : List CanStaged) : Dev := d.setCan c { d.canSt c with staged := rest }

/-- The state after the three writes of a store, and whether the slot held an unread frame (R354). -/
def State.storeWrites (s : State) (c : Nat) (x : CanStaged) : State × Bool :=
  let q := Req.sys (s.dev.get (R.CAN_CFG_AGENT c))
  let a := s.dev.get (R.CAN_RXB_BASE c) * 8 + x.buf * slotBytes (s.dev.get (R.CAN_CFG_RXB_SLOT c))
  let r := orchRead s.mem s.dev q a 8
  let st := r.1.getD 0 0
  let sq := r.1.getD 1 0
  ((((({ s with dev := r.2 } : State).orchWrite q a [st &&& 3, sq + 1, 0, 0, 0, 0, 0, 0]).orchStore q (a + 8) (canRecord x ++ x.frame.data)).orchWrite q a
    [if st.getLsbD 0 then 3 else 1, sq + 2, 0, 0, 0, 0, 0, 0]), st.getLsbD 0)

/-- A store over an unread frame counted and raised (R354). -/
def Dev.overwriteCounted (d : Dev) (c : Nat) (wasNew : Bool) : Dev :=
  if wasNew then (d.inc (R.CAN_CNT_RX_OVERWRITE c)).canCause c (R.CAN_EVT_RX_OVERWRITE c) 7 else d

/-- The store counted and raised, and the receive error counter lowered (R354, R356). -/
def Dev.storeCounted (d : Dev) (c : Nat) : Dev := ((d.inc (R.CAN_CNT_RX_OK c)).canCause c (R.CAN_EVT_RX c) 6).canRxGood c

theorem exec_canRxStore (c : Fin 8) (s : State) : exec (.canRxStore c) s = .next (s.canStore c) := rfl

theorem State.canStore_staged {s : State} {c : Nat} {x : CanStaged} {rest : List CanStaged} (h : (s.dev.canSt c).staged = x :: rest) (r : State × Bool)
    (hr : r = (s.on fun d => d.unstage c rest).storeWrites c x) :
    s.canStore c = r.1.on fun d => (d.overwriteCounted c r.2).storeCounted c := by
  have hstore : s.canStore c = (if r.2 then r.1.on (fun d => (d.inc (R.CAN_CNT_RX_OVERWRITE c)).canCause c (R.CAN_EVT_RX_OVERWRITE c) 7) else r.1).on
      (fun d => d.storeCounted c) := by
    rw [State.canStore, h, hr]; rfl
  rw [hstore]
  cases r.2 <;> rfl

/-- A good reception touches REC, STATE and a free value alone. -/
theorem Dev.canRxGood_frame (d : Dev) (c : Nat) : (d.canRxGood c).can = d.can ∧
    ∀ g : Fld, g.key ≠ (R.CAN_STATUS_REC c).key → g.key ≠ (R.CAN_STATUS_STATE c).key → (d.canRxGood c).get g = d.get g := by
  have hrec : ∃ x : Dev, ∃ v, x.regs = d.regs ∧ x.can = d.can ∧
      (if 128 ≤ d.get (R.CAN_STATUS_REC c) then d.freeVal.2.set (R.CAN_STATUS_REC c) (119 + d.freeVal.1 % 9)
        else d.set (R.CAN_STATUS_REC c) (d.get (R.CAN_STATUS_REC c) - 1)) = x.set (R.CAN_STATUS_REC c) v := by
    split
    · exact ⟨d.freeVal.2, _, rfl, rfl, rfl⟩
    · exact ⟨d, _, rfl, rfl, rfl⟩
  obtain ⟨x, v, hregs, hcan, hx⟩ := hrec
  have hget (g : Fld) (h : g.key ≠ (R.CAN_STATUS_REC c).key) : (x.set (R.CAN_STATUS_REC c) v).get g = d.get g :=
    (Dev.get_set_ne _ _ _ _ h).trans (Dev.get_congr hregs g)
  simp only [Dev.canRxGood, hx]
  split
  · exact ⟨hcan, fun g hr hs => (Dev.get_set_ne _ _ _ _ hs).trans (hget g hr)⟩
  · exact ⟨hcan, fun g hr _ => hget g hr⟩

theorem Dev.overwriteCounted_frame (d : Dev) (c : Fin 8) (wasNew : Bool) : (d.overwriteCounted c wasNew).can = d.can ∧
    (d.overwriteCounted c wasNew).get (R.CAN_CNT_RX_OK c) = d.get (R.CAN_CNT_RX_OK c) := by
  have hk := canKeys c
  rw [Dev.overwriteCounted]
  split
  · exact ⟨Dev.canCause_can .., (Dev.get_canCause_ne _ _ _ _ _ (by omega) (by omega)).trans (Dev.get_inc_ne _ _ _ (by omega))⟩
  · exact ⟨rfl, rfl⟩

theorem Dev.storeCounted_effect (d : Dev) (c : Fin 8) : (d.storeCounted c).can = d.can ∧
    (d.storeCounted c).get (R.CAN_CNT_RX_OK c) = (d.get (R.CAN_CNT_RX_OK c) + 1) % 2 ^ 32 ∧ (d.storeCounted c).get (R.CAN_EVT_RX c) = 1 := by
  have hk := canKeys c
  obtain ⟨hcan, hget⟩ := ((d.inc (R.CAN_CNT_RX_OK c)).canCause c (R.CAN_EVT_RX c) 6).canRxGood_frame c
  refine ⟨hcan.trans (Dev.canCause_can ..), (hget _ (by omega) (by omega)).trans ?_, (hget _ (by omega) (by omega)).trans ?_⟩
  · exact (Dev.get_canCause_ne _ _ _ _ _ (by omega) (by omega)).trans (Dev.get_inc_same ..)
  · exact Dev.get_canCause_same _ _ _ _ (by omega)

theorem slotBytes_le (k : Nat) : slotBytes k ≤ 2080 := by
  rw [slotBytes.eq_def]; split <;> decide

theorem canRecord_length (x : CanStaged) : (canRecord x).length = 24 := by simp [canRecord, leBytes]

/-- The writes of a store for one of the 4,096 buffers that a filter entry can name (R348) stay within 26 address bits. -/
theorem State.storeWrites_kept (s : State) (c : Nat) (x : CanStaged) (hbuf : x.buf < 4096) (hlen : x.frame.data.length ≤ 2048) :
    KeepsCan s.dev (s.storeWrites c x).1.dev := by
  have hbase : s.dev.get (R.CAN_RXB_BASE c) < 2 ^ 22 := s.dev.get_lt _
  have hslot : slotBytes (s.dev.get (R.CAN_CFG_RXB_SLOT c)) ≤ 2080 := slotBytes_le _
  have haddr : s.dev.get (R.CAN_RXB_BASE c) * 8 + x.buf * slotBytes (s.dev.get (R.CAN_CFG_RXB_SLOT c)) + 2080 ≤ 2 ^ 26 := by
    have := Nat.mul_le_mul (Nat.le_of_lt_succ hbuf) hslot
    omega
  have hrecord : (canRecord x ++ x.frame.data).length = 24 + x.frame.data.length := by rw [List.length_append, canRecord_length]
  refine (((KeepsCan.orchRead _ _ _ ?_).trans (.orchWrite { s with dev := (orchRead s.mem s.dev _ _ 8).2 } _ ?_)).trans (.orchStore _ _ ?_)).trans
    (.orchWrite _ _ ?_)
  · omega
  · simp only [List.length_cons, List.length_nil]; omega
  · omega
  · simp only [List.length_cons, List.length_nil]; omega

/-- A store of a frame that a filter entry took (R348, R352, R354): the oldest staged frame goes, and the store is counted and raised. -/
theorem exec_canRxStore_counted {c : Fin 8} {x : CanStaged} {rest : List CanStaged} {s : State} (h : (s.dev.canSt c).staged = x :: rest)
    (hbuf : x.buf < 4096) (hlen : x.frame.data.length ≤ 2048) :
    ∃ t, exec (.canRxStore c) s = .next t ∧ (t.dev.canSt c).staged = rest ∧
      t.dev.get (R.CAN_CNT_RX_OK c) = (s.dev.get (R.CAN_CNT_RX_OK c) + 1) % 2 ^ 32 ∧ t.dev.get (R.CAN_EVT_RX c) = 1 := by
  have hkept := (s.on fun d => d.unstage c rest).storeWrites_kept c x hbuf hlen
  have hstore := State.canStore_staged h _ rfl
  generalize (s.on fun d => d.unstage c rest).storeWrites c x = r at hkept hstore
  obtain ⟨hcan0, hcount0⟩ := r.1.dev.overwriteCounted_frame c r.2
  obtain ⟨hcan, hcount, hevt⟩ := (r.1.dev.overwriteCounted c r.2).storeCounted_effect c
  have hblock : block (R.CAN_CNT_RX_OK c) = 9 := by
    have := canKeys c
    rw [block]; omega
  refine ⟨_, (exec_canRxStore c s).trans (congrArg _ hstore), ?_, ?_, hevt⟩
  · rw [State.on_dev, Dev.canSt, hcan, hcan0, hkept.can]
    exact congrArg CanSt.staged (Dev.canSt_setCan_same ..)
  · rw [State.on_dev, hcount, hcount0, hkept.get _ hblock]; rfl

/-! ### A slot that no filter entry can name -/

/-- The state after reset, but for a frame staged for a slot far above Orchard, 16 bytes into what would be bank 80,928. Where the fault address of that
bank's quad would lie, at 0x41004 + 20,232 × 0x10, the register map has RX_OK of CAN0. -/
def stagedAboveOrchard : State :=
  State.reset.on fun d => d.setCan 0 { staged := [{ frame := {}, buf := 1060739482, index := 0, ts := 0, tag := 0 }] }

theorem exec_canRxStore_stagedAboveOrchard :
    ∃ t, exec (.canRxStore 0) stagedAboveOrchard = .next t ∧ t.dev.get (R.CAN_CNT_RX_OK 0) = 17 :=
  ⟨_, exec_canRxStore 0 _, by decide⟩

/-- Refutes O30: its clause on a store ranges over every state, and in `stagedAboveOrchard` the fault that the store meets leaves its address in RX_OK,
which then reads 17 and not 1. No filter entry can name such a slot (R348: BUF has 12 bits); for those that it can, `exec_canRxStore_counted` gives the
clause. -/
theorem not_canReceive : ¬ Obligations.CanReceive := by
  rintro ⟨-, -, -, -, -, -, -, store, -⟩
  obtain ⟨t, ht, -, hcount, -⟩ := store 0 _ [] stagedAboveOrchard rfl
  obtain ⟨u, hu, hcount'⟩ := exec_canRxStore_stagedAboveOrchard
  cases Host.Outcome.next.inj (ht.symm.trans hu)
  exact absurd (hcount'.symm.trans hcount) (by decide)

end Sys2Proof.Machine
end

section
/-! PROOFS. The engines of the teams: where their registers lie (R413), lockstep pairs (R402), what an event leaves of an engine (R394, R630), and what
the halt of one engine, of a pair, and on a fault changes (R404, R406, R407). -/

namespace Sys2Proof.Machine
open Sys2Proof Sys2Proof.Safety

/-! ### Where the registers of an engine lie (R413) -/

/-- The 128 bytes of BAR0 that a field lies in; those of engine `e` are number 0x1600 + e. -/
def page (f : Fld) : Nat := f.key / 0x1000

theorem engKeys (e : Nat) : (R.ENG_STATUS_STATE e).key = 0x160009C + e * 0x1000 ∧ (R.ENG_STATUS_HALT_CAUSE e).key = 0x1600098 + e * 0x1000 ∧
    (R.ENG_STATUS_DZ e).key = 0x1600083 + e * 0x1000 ∧ (R.ENG_STATUS_OV e).key = 0x1600082 + e * 0x1000 ∧
    (R.ENG_STATUS_HALTED e).key = 0x1600080 + e * 0x1000 ∧ (R.ENG_PC e).key = 0x1600180 + e * 0x1000 ∧
    (R.ENG_FAULT_ADDR e).key = 0x1600200 + e * 0x1000 ∧ (R.ENG_CFG_MODE e).key = 0x160029E + e * 0x1000 ∧
    (R.ENG_ENTRY e).key = 0x1600300 + e * 0x1000 ∧ (R.ENG_CYC_LAST e).key = 0x1600400 + e * 0x1000 ∧
    (R.ENG_CYC_MAX e).key = 0x1600480 + e * 0x1000 ∧ (R.ENG_RXR_DROP e).key = 0x1600700 + e * 0x1000 := by
  simp only [Fld.key, R.ENG_STATUS_STATE, R.ENG_STATUS_HALT_CAUSE, R.ENG_STATUS_DZ, R.ENG_STATUS_OV, R.ENG_STATUS_HALTED, R.ENG_PC, R.ENG_FAULT_ADDR,
    R.ENG_CFG_MODE, R.ENG_ENTRY, R.ENG_CYC_LAST, R.ENG_CYC_MAX, R.ENG_RXR_DROP]
  omega

/-- A field of an engine or a team is none of the event block. -/
theorem block_ne_events_of_page {g : Fld} (hg : 0x1600 ≤ page g) : block g ≠ 3 := by
  rw [page] at hg
  rw [block]
  omega

/-! ### Lockstep pairs (R402) -/

/-- The bit of the team's configuration that pairs engine `e` with another. -/
def lockstepField (e : Nat) : Fld := (if e % 4 < 2 then R.TEAM_CFG2_LS01 else R.TEAM_CFG2_LS23) (e / 4)

theorem page_lockstepField (e : Nat) : 0x1640 ≤ page (lockstepField e) := by
  simp only [page, Fld.key, lockstepField]
  split <;> simp only [R.TEAM_CFG2_LS01, R.TEAM_CFG2_LS23] <;> omega

theorem Dev.partner_eq_some_iff (d : Dev) (e p : Nat) :
    d.partner e = some p ↔ e < 48 ∧ d.on (lockstepField e) = true ∧ p = (if e % 2 = 0 then e + 1 else e - 1) := by
  unfold Dev.partner
  rw [← lockstepField]
  by_cases he : 48 ≤ e
  · rw [if_pos he]
    simp only [Nat.not_lt.mpr he, reduceCtorEq, false_and]
  · rw [if_neg he]
    by_cases hon : d.on (lockstepField e) = true
    · rw [if_pos hon, Option.some.injEq]
      exact ⟨fun h => ⟨Nat.not_le.mp he, hon, h.symm⟩, fun h => h.2.2.symm⟩
    · rw [if_neg hon]
      simp only [reduceCtorEq, hon, false_and, and_false]

/-- Who is paired with whom is written in the teams' configuration. -/
theorem Dev.partner_congr {d d' : Dev} (h : ∀ g, 0x1640 ≤ page g → d'.get g = d.get g) (e : Nat) : d'.partner e = d.partner e := by
  refine Option.ext fun p => ?_
  rw [Dev.partner_eq_some_iff, Dev.partner_eq_some_iff, Dev.on, Dev.on, h _ (page_lockstepField e)]

theorem Dev.partner_set (d : Dev) (f : Fld) (v : Nat) (hf : page f < 0x1640) (e : Nat) : (d.set f v).partner e = d.partner e := by
  refine Dev.partner_congr (fun g hg => Dev.get_set_ne _ _ _ _ fun h => ?_) e
  rw [page, h, ← page] at hg
  omega

theorem Dev.partner_setEngine (d : Dev) (i : Nat) (x : EngSt) (e : Nat) : (d.setEngine i x).partner e = d.partner e := Dev.partner_congr (fun _ _ => rfl) e

/-- A partner is the other engine of the pair. -/
theorem Dev.partner_spec {d : Dev} {e p : Nat} (h : d.partner e = some p) : e < 48 ∧ p < 48 ∧ p ≠ e ∧ p / 2 = e / 2 := by
  obtain ⟨he, -, rfl⟩ := (d.partner_eq_some_iff e p).mp h
  split <;> omega

theorem Dev.partner_ne_self (d : Dev) (e : Nat) : d.partner e ≠ some e := fun h => (Dev.partner_spec h).2.2.1 rfl

/-- Pairing is mutual. -/
theorem Dev.partner_symm {d : Dev} {e p : Nat} (h : d.partner e = some p) : d.partner p = some e := by
  obtain ⟨-, hp, -, hpair⟩ := Dev.partner_spec h
  obtain ⟨-, hon, hother⟩ := (d.partner_eq_some_iff e p).mp h
  have hteam : p / 4 = e / 4 := by omega
  have hhalf : p % 4 < 2 ↔ e % 4 < 2 := by omega
  refine (d.partner_eq_some_iff p e).mpr ⟨hp, ?_, ?_⟩
  · rw [← hon, lockstepField, lockstepField, hteam]
    simp only [hhalf]
  · subst hother
    split <;> split <;> omega

/-! ### Events (R394, R630) -/

/-- From `d` to `d'` engine `i` keeps all but the lines that an event latches. -/
def KeepsEngine (i : Nat) (d d' : Dev) : Prop :=
  d'.engine i = { d.engine i with evPend := (d'.engine i).evPend, dozed := (d'.engine i).dozed }

section
variable {i : Nat} {d d' : Dev} (h : KeepsEngine i d d')
include h

theorem KeepsEngine.g : (d'.engine i).g = (d.engine i).g := (congrArg EngSt.g h :)
theorem KeepsEngine.slot : (d'.engine i).slot = (d.engine i).slot := (congrArg EngSt.slot h :)
theorem KeepsEngine.wait : (d'.engine i).wait = (d.engine i).wait := (congrArg EngSt.wait h :)
theorem KeepsEngine.haltReq : (d'.engine i).haltReq = (d.engine i).haltReq := (congrArg EngSt.haltReq h :)
theorem KeepsEngine.first : (d'.engine i).first = (d.engine i).first := (congrArg EngSt.first h :)
theorem KeepsEngine.edge : (d'.engine i).edge = (d.engine i).edge := (congrArg EngSt.edge h :)
theorem KeepsEngine.held : (d'.engine i).held = (d.engine i).held := (congrArg EngSt.held h :)

end

theorem KeepsEngine.of_eq {i : Nat} {d d' : Dev} (h : d'.engine i = d.engine i) : KeepsEngine i d d' := by rw [KeepsEngine, h]

theorem KeepsEngine.trans {i : Nat} {a b c : Dev} (h1 : KeepsEngine i a b) (h2 : KeepsEngine i b c) : KeepsEngine i a c := by
  unfold KeepsEngine at *
  rw [h2, h1]

/-- An event, with what it leaves of the engines. -/
structure LineFrame (d d' : Dev) : Prop extends EventFrame d d' where
  engine : ∀ i, KeepsEngine i d d'

theorem LineFrame.trans {a b c : Dev} (h1 : LineFrame a b) (h2 : LineFrame b c) : LineFrame a c :=
  ⟨h1.toEventFrame.trans h2.toEventFrame, fun i => (h1.engine i).trans (h2.engine i)⟩

/-- An event that touches no engine. -/
theorem LineFrame.of_eng {d d' : Dev} (h : EventFrame d d') (heng : d'.eng = d.eng) : LineFrame d d' :=
  ⟨h, fun i => .of_eq (by rw [Dev.engine, heng, Dev.engine])⟩

theorem LineFrame.refl (d : Dev) : LineFrame d d := .of_eng (.refl d) rfl

theorem LineFrame.setLines (d : Dev) (e : Nat) (pend dozed : BitVec 32) : LineFrame d (d.setEngine e { d.engine e with evPend := pend, dozed := dozed }) := by
  refine ⟨.setEngine .., fun i => ?_⟩
  by_cases h : i = e
  · subst h; rw [KeepsEngine, Dev.engine_setEngine_same]
  · exact .of_eq (Dev.engine_setEngine_ne _ _ _ _ h)

theorem LineFrame.dozeWakeFor (d : Dev) (t : Nat) : LineFrame d (d.dozeWakeFor t) :=
  .of_eng (.dozeWakeFor d t) (by unfold Dev.dozeWakeFor; split <;> rfl)

theorem LineFrame.latchLine (d : Dev) (e l : Nat) : LineFrame d (d.latchLine e l) := by
  unfold Dev.latchLine
  extract_lets x m d1
  have h1 : LineFrame d d1 := .setLines d e x.evPend (x.dozed ||| m)
  split
  · split
    · exact h1.trans (.dozeWakeFor _ _)
    · exact h1
  · exact .setLines d e (x.evPend ||| m) x.dozed

theorem LineFrame.deliver (d : Dev) (i : Nat) : LineFrame d (d.deliver i) := by
  unfold Dev.deliver
  split
  · exact .of_eng (.msix _ _) (by unfold Dev.msix; split <;> rfl)
  · exact .latchLine _ _ _
  · exact .refl d

theorem LineFrame.raise (d : Dev) (i : Nat) (hi : i < 256) : LineFrame d (d.raise i) := by
  refine ⟨.raise d i hi, fun j => ?_⟩
  simp only [Dev.raise]
  split
  · exact (LineFrame.deliver _ i).engine j
  · exact .of_eq rfl

/-- A cause: its flag, and an event when it is enabled. -/
theorem LineFrame.cause (d : Dev) (f : Fld) (en : Bool) (ev : Nat) (h : ev < 256) : LineFrame (d.set f 1) (d.cause f en ev) := by
  unfold Dev.cause
  split
  · exact .raise _ _ h
  · exact .refl _

theorem LineFrame.engCause (d : Dev) {e : Nat} (f : Fld) (b : Nat) (he : e < 48) : LineFrame (d.set f 1) (d.engCause e f b) := .cause _ _ _ _ (by omega)

/-! ### General registers -/

theorem Dev.greg_congr {d d' : Dev} {i j : Nat} (h : (d'.engine i).g = (d.engine j).g) (r : Nat) : d'.greg i r = d.greg j r := by
  simp only [Dev.greg, h]

theorem Dev.pc_lt (d : Dev) (e : Nat) : d.pc e < 2 ^ 32 := d.get_lt _

/-! ### The halt of an engine -/

/-- What the halt of engine `e` with a cause does, and what it leaves (R406, R407). -/
structure HaltEffect (e cause : Nat) (d d' : Dev) : Prop where
  state : d'.get (R.ENG_STATUS_STATE e) = 6
  cause : d'.get (R.ENG_STATUS_HALT_CAUSE e) = cause
  halted : d'.get (R.ENG_STATUS_HALTED e) = 1
  get : ∀ g, block g ≠ 3 → (∀ f ∈ [R.ENG_STATUS_STATE e, R.ENG_STATUS_HALT_CAUSE e, R.ENG_STATUS_HALTED e], g.key ≠ f.key) → d'.get g = d.get g
  gregs : ∀ i, (d'.engine i).g = (d.engine i).g

/-- Only registers of engine `e` and of the event block change. -/
theorem HaltEffect.get_page {e cause : Nat} {d d' : Dev} (h : HaltEffect e cause d d') (g : Fld) (hlo : 0x1600 ≤ page g) (hne : page g ≠ 0x1600 + e) :
    d'.get g = d.get g := by
  refine h.get g (block_ne_events_of_page hlo) ?_
  have := engKeys e
  rw [page] at hne
  simp only [List.forall_mem_cons]
  refine ⟨?_, ?_, ?_, by simp⟩ <;> omega

theorem HaltEffect.pc {e cause : Nat} {d d' : Dev} (h : HaltEffect e cause d d') (i : Nat) : d'.pc i = d.pc i := by
  have hi := engKeys i
  have he := engKeys e
  refine h.get _ (by rw [block]; omega) ?_
  simp only [List.forall_mem_cons]
  refine ⟨?_, ?_, ?_, by simp⟩ <;> omega

theorem Dev.haltOne_effect (d : Dev) {e cause : Nat} (he : e < 48) (hcause : cause < 16) : HaltEffect e cause d (d.haltOne e cause) := by
  have hk := engKeys e
  have hev := LineFrame.engCause (((d.set (R.ENG_STATUS_STATE e) 6).set (R.ENG_STATUS_HALT_CAUSE e) cause).setEngine e
    { d.engine e with wait := none, haltReq := false, slot := none }) (R.ENG_STATUS_HALTED e) 0 he
  refine ⟨?_, ?_, ?_, fun g hb hg => ?_, fun i => ?_⟩
  · rw [Dev.haltOne, hev.get _ (by rw [block]; omega), Dev.get_set_ne _ _ _ _ (by omega), Dev.get_setEngine, Dev.get_set_ne _ _ _ _ (by omega)]
    exact Dev.get_set_same ..
  · rw [Dev.haltOne, hev.get _ (by rw [block]; omega), Dev.get_set_ne _ _ _ _ (by omega), Dev.get_setEngine]
    exact Dev.get_set_of_lt _ _ hcause
  · rw [Dev.haltOne, hev.get _ (by rw [block]; omega)]
    exact Dev.get_set_same ..
  · simp only [List.forall_mem_cons] at hg
    obtain ⟨hstate, hcauseNe, hhalted, -⟩ := hg
    rw [Dev.haltOne, hev.get g hb, Dev.get_set_ne _ _ _ _ hhalted, Dev.get_setEngine, Dev.get_set_ne _ _ _ _ hcauseNe, Dev.get_set_ne _ _ _ _ hstate]
  · refine (hev.engine i).g.trans ?_
    by_cases h : i = e
    · subst h; rw [Dev.engine_set, Dev.engine_setEngine_same]
    · rw [Dev.engine_set, Dev.engine_setEngine_ne _ _ _ _ h]; rfl

/-! ### The halt of a pair -/

/-- What a halt of engine `e` does: it and its partner show their causes; the program counter and the general registers of `e` keep their values. -/
structure PairHalt (e cause pcause : Nat) (d d' : Dev) : Prop where
  state : d'.get (R.ENG_STATUS_STATE e) = 6
  cause : d'.get (R.ENG_STATUS_HALT_CAUSE e) = cause
  halted : d'.get (R.ENG_STATUS_HALTED e) = 1
  pc : d'.pc e = d.pc e
  gregs : ∀ r, d'.greg e r = d.greg e r
  partner : ∀ p, d.partner e = some p → d'.get (R.ENG_STATUS_STATE p) = 6 ∧ d'.get (R.ENG_STATUS_HALT_CAUSE p) = pcause

/-- Engine `e` has halted and has no partner. -/
theorem HaltEffect.pairHalt_alone {e cause pcause : Nat} {d d' : Dev} (h : HaltEffect e cause d d') (hp : d.partner e = none) :
    PairHalt e cause pcause d d' :=
  ⟨h.state, h.cause, h.halted, h.pc e, fun _ => Dev.greg_congr (h.gregs e) _, fun p hp' => absurd (hp.symm.trans hp') (by simp)⟩

/-- Engine `e` has halted, then its partner. -/
theorem HaltEffect.pairHalt {e p cause pcause : Nat} {d d1 d2 d3 : Dev} (h1 : HaltEffect e cause d d1) (hp : d.partner e = some p)
    (hpage : ∀ g, page g ≠ 0x1600 + p → d2.get g = d1.get g) (heng : d2.eng = d1.eng)
    (h2 : HaltEffect p pcause d2 d3) : PairHalt e cause pcause d d3 := by
  obtain ⟨-, -, hne, -⟩ := Dev.partner_spec hp
  have hk := engKeys e
  have hown (g : Fld) (hg : page g = 0x1600 + e) : d3.get g = d1.get g :=
    (h2.get_page g (by omega) (by omega)).trans (hpage g (by omega))
  refine ⟨?_, ?_, ?_, ?_, fun r => ?_, fun q hq => ?_⟩
  · rw [hown _ (by rw [page]; omega), h1.state]
  · rw [hown _ (by rw [page]; omega), h1.cause]
  · rw [hown _ (by rw [page]; omega), h1.halted]
  · exact (hown _ (by rw [page]; omega)).trans (h1.pc e)
  · refine Dev.greg_congr ?_ r
    rw [h2.gregs e, Dev.engine, heng]
    exact h1.gregs e
  · cases Option.some.inj (hp.symm.trans hq)
    exact ⟨h2.state, h2.cause⟩

/-- A HOST halt halts both engines of a pair with cause HOST (R406). -/
theorem Dev.hostHaltNow_effect (d : Dev) {e : Nat} (he : e < 48) : PairHalt e 1 1 d (d.hostHaltNow e) := by
  have h1 := d.haltOne_effect he (cause := 1) (by omega)
  unfold Dev.hostHaltNow
  cases hp : d.partner e with
  | none => exact h1.pairHalt_alone hp
  | some p => exact h1.pairHalt hp (fun _ _ => rfl) rfl (Dev.haltOne_effect _ (Dev.partner_spec hp).2.1 (by omega))

/-- The device with the fault address that a fault shows. -/
def Dev.faultAt (d : Dev) (e : Nat) : Option Nat → Dev
  | some a => d.set (R.ENG_FAULT_ADDR e) a
  | none => d

theorem Dev.get_faultAt_ne (d : Dev) (e : Nat) (a : Option Nat) (g : Fld) (h : g.key ≠ (R.ENG_FAULT_ADDR e).key) : (d.faultAt e a).get g = d.get g := by
  cases a with
  | none => rfl
  | some a => exact Dev.get_set_ne _ _ _ _ h

theorem Dev.faultAt_eng (d : Dev) (e : Nat) (a : Option Nat) : (d.faultAt e a).eng = d.eng := by cases a <;> rfl

theorem Dev.partner_faultAt (d : Dev) (e : Nat) (a : Option Nat) (he : e < 48) (k : Nat) : (d.faultAt e a).partner k = d.partner k := by
  cases a with
  | none => rfl
  | some a => exact d.partner_set _ _ (by have := engKeys e; rw [page]; omega) k

theorem Dev.zhalt_alone {d : Dev} {e cause : Nat} (a : Option Nat) (he : e < 48) (hcause : cause ≠ 6) (hp : d.partner e = none) :
    d.zhalt e cause a = (d.faultAt e a).haltOne e cause := by
  unfold Dev.zhalt
  rw [if_neg (by omega), if_neg hcause, hp]
  cases a <;> rfl

theorem Dev.zhalt_paired {d : Dev} {e p cause : Nat} (a : Option Nat) (he : e < 48) (hcause : cause ≠ 6) (hp : d.partner e = some p) :
    d.zhalt e cause a = (((d.faultAt e a).haltOne e cause).setPc p (d.pc e)).haltOne p 6 := by
  unfold Dev.zhalt
  rw [if_neg (by omega), if_neg hcause, hp]
  cases a <;> rfl

/-- A fault halts its engine with the cause, and the partner with LOCKSTEP (R404, R406). -/
theorem Dev.zhalt_effect (d : Dev) {e cause : Nat} (a : Option Nat) (he : e < 48) (hcause : cause < 16) (hne : cause ≠ 6) :
    PairHalt e cause 6 d (d.zhalt e cause a) := by
  have hk := engKeys e
  have h1 := (d.faultAt e a).haltOne_effect he hcause
  have hpartner := d.partner_faultAt e a he e
  suffices h : PairHalt e cause 6 (d.faultAt e a) (d.zhalt e cause a) by
    refine ⟨h.state, h.cause, h.halted, h.pc.trans (Dev.get_faultAt_ne _ _ _ _ (by omega)), fun r => (h.gregs r).trans ?_, fun p hp => ?_⟩
    · exact Dev.greg_congr (by rw [Dev.engine, Dev.faultAt_eng, Dev.engine]) r
    · exact h.partner p (hpartner.trans hp)
  cases hp : d.partner e with
  | none =>
    rw [Dev.zhalt_alone a he hne hp]
    exact h1.pairHalt_alone (hpartner.trans hp)
  | some p =>
    rw [Dev.zhalt_paired a he hne hp]
    refine h1.pairHalt (hpartner.trans hp) (fun g hg => Dev.get_set_ne _ _ _ _ ?_) rfl (Dev.haltOne_effect _ (Dev.partner_spec hp).2.1 (by omega))
    have := engKeys p
    rw [page] at hg
    omega

/-- A fault that has an address shows it. -/
theorem Dev.get_zhalt_faultAddr (d : Dev) {e cause a : Nat} (he : e < 48) (hcause : cause < 16) (hne : cause ≠ 6) (ha : a < 2 ^ 32) :
    (d.zhalt e cause (some a)).get (R.ENG_FAULT_ADDR e) = a := by
  have hk := engKeys e
  have h1 := (d.faultAt e (some a)).haltOne_effect he hcause
  have hshown : ((d.faultAt e (some a)).haltOne e cause).get (R.ENG_FAULT_ADDR e) = a := by
    rw [h1.get _ (by rw [block]; omega) (by simp only [List.forall_mem_cons]; refine ⟨?_, ?_, ?_, by simp⟩ <;> omega)]
    exact Dev.get_set_of_lt _ _ ha
  cases hp : d.partner e with
  | none => rw [Dev.zhalt_alone _ he hne hp, hshown]
  | some p =>
    obtain ⟨-, hp48, hpe, -⟩ := Dev.partner_spec hp
    have hkp := engKeys p
    rw [Dev.zhalt_paired _ he hne hp, (Dev.haltOne_effect _ hp48 (by omega)).get_page _ (by rw [page]; omega) (by rw [page]; omega),
      Dev.setPc, Dev.get_set_ne _ _ _ _ (by omega), hshown]

/-- A mismatch halts both engines of the pair with LOCKSTEP (R404). -/
theorem Dev.lsMismatch_halts (d : Dev) {e k : Nat} (pc : Nat) (hk : k < 48) (hpair : k / 2 = e / 2) :
    (d.lsMismatch e pc).get (R.ENG_STATUS_STATE k) = 6 ∧ (d.lsMismatch e pc).get (R.ENG_STATUS_HALT_CAUSE k) = 6 := by
  unfold Dev.lsMismatch
  extract_lets l t x d1
  generalize hd2 : (d1.setPc l pc).haltOne l 6 = d2
  have hl := Dev.haltOne_effect (d1.setPc l pc) (e := l) (cause := 6) (by omega) (by omega)
  have hr := Dev.haltOne_effect (d2.setPc (l + 1) pc) (e := l + 1) (cause := 6) (by omega) (by omega)
  rw [hd2] at hl
  obtain h | h : k = l + 1 ∨ k = l := by omega
  · rw [h]
    exact ⟨hr.state, hr.cause⟩
  · have hkl := engKeys l
    have hkr := engKeys (l + 1)
    rw [h]
    constructor
    · rw [hr.get_page _ (by rw [page]; omega) (by rw [page]; omega), Dev.setPc, Dev.get_set_ne _ _ _ _ (by omega), hl.state]
    · rw [hr.get_page _ (by rw [page]; omega) (by rw [page]; omega), Dev.setPc, Dev.get_set_ne _ _ _ _ (by omega), hl.cause]

end Sys2Proof.Machine
end

section
/-! PROOFS. The retirement of an instruction: the follower of a pair, the program counter with its delay slot, and a fetch that cannot be made (R402, R435,
R438, R441, R443). -/

namespace Sys2Proof.Machine
open Sys2Proof Sys2Proof.Safety

/-! ### The follower of a pair (R402) -/

/-- Only OV and DZ of engine `p` change, and what an event does. -/
structure FlagFrame (p : Nat) (d d' : Dev) : Prop where
  get : ∀ g, block g ≠ 3 → g.key ≠ (R.ENG_STATUS_OV p).key → g.key ≠ (R.ENG_STATUS_DZ p).key → d'.get g = d.get g
  engine : ∀ i, KeepsEngine i d d'
  rest : d' = { d with regs := d'.regs, eng := d'.eng, out := d'.out, pwr := d'.pwr }

theorem FlagFrame.refl (p : Nat) (d : Dev) : FlagFrame p d d := ⟨fun _ _ _ _ => rfl, fun _ => .of_eq rfl, rfl⟩

theorem FlagFrame.trans {p : Nat} {a b c : Dev} (h1 : FlagFrame p a b) (h2 : FlagFrame p b c) : FlagFrame p a c :=
  ⟨fun g hb ho hz => (h2.get g hb ho hz).trans (h1.get g hb ho hz), fun i => (h1.engine i).trans (h2.engine i), by rw [h2.rest, h1.rest]⟩

theorem FlagFrame.cause (d : Dev) {p : Nat} (f : Fld) (b : Nat) (hp : p < 48) (hf : f = R.ENG_STATUS_OV p ∨ f = R.ENG_STATUS_DZ p) :
    FlagFrame p d (d.engCause p f b) := by
  have h := LineFrame.engCause d f b hp
  refine ⟨fun g hb ho hz => (h.get g hb).trans (Dev.get_set_ne _ _ _ _ ?_), fun i => KeepsEngine.trans (.of_eq rfl) (h.engine i), by rw [h.rest]; rfl⟩
  rcases hf with rfl | rfl
  · exact ho
  · exact hz

theorem FlagFrame.setOv (d : Dev) {p : Nat} (hp : p < 48) : FlagFrame p d (d.setOv p) := by
  rw [Dev.setOv, if_pos hp]
  exact .cause _ _ _ hp (.inl rfl)

theorem FlagFrame.setDz (d : Dev) {p : Nat} (hp : p < 48) : FlagFrame p d (d.setDz p) := by
  rw [Dev.setDz, if_pos hp]
  exact .cause _ _ _ hp (.inr rfl)

/-- Engine `p` with the registers, the program counter and the state of its leader `e`. -/
def Dev.copyLeader (d : Dev) (e p : Nat) : Dev :=
  let x := d.engine e
  let y : EngSt := { d.engine p with
    g := x.g, slot := x.slot, wait := x.wait, stream := x.stream, latch := x.latch, edge := x.edge, evMask := x.evMask, limit := x.limit }
  ((d.setEngine p y).setPc p (d.pc e)).set (R.ENG_STATUS_STATE p) (d.engState e)

theorem Dev.pairFollow_alone {d : Dev} {e : Nat} (h : d.partner e = none) : d.pairFollow e = d := by
  rw [Dev.pairFollow, h]

theorem Dev.pairFollow_frame {d : Dev} {e p : Nat} (h : d.partner e = some p) : FlagFrame p (d.copyLeader e p) (d.pairFollow e) := by
  have hp := (Dev.partner_spec h).2.1
  rw [Dev.pairFollow, h]
  dsimp only
  have hov : FlagFrame p (d.copyLeader e p)
      (if d.on (R.ENG_STATUS_OV e) && !d.on (R.ENG_STATUS_OV p) then (d.copyLeader e p).setOv p else d.copyLeader e p) := by
    split
    · exact .setOv _ hp
    · exact .refl ..
  split
  · exact hov.trans (.setDz _ hp)
  · exact hov

/-- What an instruction of engine `e` does to its follower, once its own effect `d` is brought about. -/
structure PairFrame (e : Nat) (d d' : Dev) : Prop where
  get : ∀ g, block g ≠ 3 →
    (∀ k, d.partner e = some k → ∀ f ∈ [R.ENG_PC k, R.ENG_STATUS_OV k, R.ENG_STATUS_DZ k, R.ENG_STATUS_STATE k], g.key ≠ f.key) → d'.get g = d.get g
  engine : ∀ i, d.partner e ≠ some i → KeepsEngine i d d'
  partner : ∀ k, d.partner e = some k → d'.pc k = d.pc e ∧ d'.get (R.ENG_STATUS_STATE k) = d.engState e ∧ (d'.engine k).g = (d.engine e).g
  alone : d.partner e = none → d' = d
  rest : d' = { d with regs := d'.regs, eng := d'.eng, out := d'.out, pwr := d'.pwr }

theorem Dev.pairFollow_effect (d : Dev) (e : Nat) : PairFrame e d (d.pairFollow e) := by
  cases hp : d.partner e with
  | none =>
    rw [Dev.pairFollow_alone hp]
    exact ⟨fun _ _ _ => rfl, fun _ _ => .of_eq rfl, fun k hk => absurd (hp.symm.trans hk) (by simp), fun _ => rfl, rfl⟩
  | some p =>
    have h := Dev.pairFollow_frame hp
    have hkey := engKeys p
    have hblock : ∀ f ∈ [R.ENG_PC p, R.ENG_STATUS_STATE p], block f ≠ 3 := by
      simp only [List.forall_mem_cons, block]
      refine ⟨?_, ?_, by simp⟩ <;> omega
    refine ⟨fun g hb hg => ?_, fun i hi => ?_, fun k hk => ?_, fun ha => absurd (hp.symm.trans ha) (by simp), by rw [h.rest]; rfl⟩
    · have hg' := hg p hp
      simp only [List.forall_mem_cons] at hg'
      obtain ⟨hpc, hov, hdz, hstate, -⟩ := hg'
      rw [h.get g hb hov hdz, Dev.copyLeader, Dev.get_set_ne _ _ _ _ hstate, Dev.setPc, Dev.get_set_ne _ _ _ _ hpc, Dev.get_setEngine]
    · have hip : i ≠ p := fun e => hi (by rw [hp, e])
      exact KeepsEngine.trans (.of_eq (Dev.engine_setEngine_ne _ _ _ _ hip)) (h.engine i)
    · cases Option.some.inj (hp.symm.trans hk)
      refine ⟨?_, ?_, (h.engine p).g.trans ?_⟩
      · rw [Dev.pc, h.get _ (hblock _ (by simp)) (by omega) (by omega), Dev.copyLeader, Dev.get_set_ne _ _ _ _ (by omega)]
        exact Dev.get_set_of_lt _ _ (d.pc_lt e)
      · rw [h.get _ (hblock _ (by simp)) (by omega) (by omega)]
        exact Dev.get_set_of_lt _ _ (d.get_lt _)
      · rw [Dev.copyLeader, Dev.engine_set, Dev.setPc, Dev.engine_set, Dev.engine_setEngine_same]

theorem PairFrame.own {e : Nat} {d d' : Dev} (h : PairFrame e d d') : KeepsEngine e d d' := h.engine e (d.partner_ne_self e)

/-- The engine's own registers stay as its instruction left them. -/
theorem PairFrame.get_own {e : Nat} {d d' : Dev} (h : PairFrame e d d') (g : Fld) (hg : page g = 0x1600 + e) : d'.get g = d.get g := by
  refine h.get g (block_ne_events_of_page (by omega)) fun k hk => ?_
  obtain ⟨-, -, hne, -⟩ := Dev.partner_spec hk
  have := engKeys k
  rw [page] at hg
  simp only [List.forall_mem_cons]
  refine ⟨?_, ?_, ?_, ?_, by simp⟩ <;> omega

theorem PairFrame.pc {e : Nat} {d d' : Dev} (h : PairFrame e d d') : d'.pc e = d.pc e :=
  h.get_own _ (by rw [page]; have := engKeys e; omega)

theorem PairFrame.greg {e : Nat} {d d' : Dev} (h : PairFrame e d d') (r : Nat) : d'.greg e r = d.greg e r := Dev.greg_congr h.own.g r

/-! ### The program counter (R435) -/

theorem Dev.partner_setPc (d : Dev) (e v k : Nat) (he : e ≤ 48) : (d.setPc e v).partner k = d.partner k :=
  d.partner_set _ _ (by have := engKeys e; rw [page]; omega) k

/-- In a delay slot the target comes next and the slot is over; else the next word comes, and `dest` opens a slot. -/
theorem Dev.advance_eq (d : Dev) (e : Nat) (dest : Option Nat) : d.advance e dest =
    (d.setPc e ((d.engine e).slot.getD (d.pc e + 4))).setEngine e { d.engine e with slot := if (d.engine e).slot.isSome then none else dest } := by
  rw [Dev.advance]
  cases (d.engine e).slot <;> rfl

section
variable (d : Dev) (e : Nat) (dest : Option Nat)

theorem Dev.pc_advance : (d.advance e dest).pc e = (d.engine e).slot.getD (d.pc e + 4) % 2 ^ 32 := by
  rw [Dev.advance_eq]
  exact Dev.get_set_same ..

theorem Dev.engine_advance : (d.advance e dest).engine e = { d.engine e with slot := if (d.engine e).slot.isSome then none else dest } := by
  rw [Dev.advance_eq, Dev.engine_setEngine_same]

theorem Dev.engine_advance_ne (i : Nat) (h : i ≠ e) : (d.advance e dest).engine i = d.engine i := by
  rw [Dev.advance_eq, Dev.engine_setEngine_ne _ _ _ _ h]
  rfl

theorem Dev.get_advance (g : Fld) (h : g.key ≠ (R.ENG_PC e).key) : (d.advance e dest).get g = d.get g := by
  rw [Dev.advance_eq, Dev.get_setEngine, Dev.setPc, Dev.get_set_ne _ _ _ _ h]

theorem Dev.gregs_advance (i : Nat) : ((d.advance e dest).engine i).g = (d.engine i).g := by
  by_cases h : i = e
  · rw [h, Dev.engine_advance]
  · rw [Dev.engine_advance_ne _ _ _ _ h]

theorem Dev.partner_advance (k : Nat) (he : e ≤ 48) : (d.advance e dest).partner k = d.partner k := by
  rw [Dev.advance_eq, Dev.partner_setEngine, Dev.partner_setPc _ _ _ _ he]

theorem Dev.advance_rest : d.advance e dest = { d with regs := (d.advance e dest).regs, eng := (d.advance e dest).eng } := by
  rw [Dev.advance_eq]
  rfl

end

/-! ### Retirement (R435, R441) -/

section
variable {d : Dev} {e : Nat} (hhalt : (d.engine e).haltReq = false)
include hhalt

/-- With no HALT waiting, an instruction that completes moves the program counter on. -/
theorem Dev.retire_next : Dev.retire e (.next d) = (d.advance e none).pairFollow e := by
  rw [Dev.retire, Dev.lateHalt, if_neg]
  rw [(Dev.pairFollow_effect ..).own.haltReq, Dev.engine_advance, hhalt]
  simp

theorem Dev.retire_next_effect : PairFrame e (d.advance e none) (Dev.retire e (.next d)) := by
  rw [Dev.retire_next hhalt]
  exact Dev.pairFollow_effect ..

theorem Dev.retire_next_pc : (Dev.retire e (.next d)).pc e = (d.engine e).slot.getD (d.pc e + 4) % 2 ^ 32 :=
  (Dev.retire_next_effect hhalt).pc.trans (Dev.pc_advance ..)

theorem Dev.retire_next_engine : KeepsEngine e (d.advance e none) (Dev.retire e (.next d)) := (Dev.retire_next_effect hhalt).own

theorem Dev.retire_next_greg (r : Nat) : (Dev.retire e (.next d)).greg e r = d.greg e r :=
  ((Dev.retire_next_effect hhalt).greg r).trans (Dev.greg_congr (Dev.gregs_advance ..) r)

/-- The engine's own registers but the program counter stay as the instruction left them. -/
theorem Dev.retire_next_get (g : Fld) (hg : page g = 0x1600 + e) (hpc : g.key ≠ (R.ENG_PC e).key) : (Dev.retire e (.next d)).get g = d.get g :=
  ((Dev.retire_next_effect hhalt).get_own g hg).trans (Dev.get_advance _ _ _ _ hpc)

end

/-! ### Issue (R382, R435, R438, R443) -/

/-- Core `e` can fetch its next instruction. -/
abbrev Dev.Fetches (d : Dev) (e : Nat) : Prop := d.zReady e = true ∧ d.badFetch e = false

theorem fetches_of_issues {s : State} {e : Nat} (h : Issues s e) : s.dev.Fetches e := ⟨h.1, h.2.1⟩

/-- The next instruction lies in the 32 KiB of instruction RAM. -/
theorem Dev.Fetches.pc_lt {d : Dev} {e : Nat} (h : d.Fetches e) : d.pc e < 0x8000 := by
  have := h.2
  simp only [Dev.badFetch, Bool.or_eq_false_iff, decide_eq_false_iff_not] at this
  omega

theorem Dev.issue_idle {d : Dev} {e : Nat} (h : d.zReady e = false) (branch : Bool) (r : ZRes) : d.issue e branch r = d := if_pos (by rw [h]; rfl)

theorem Dev.issue_badFetch {d : Dev} {e : Nat} (h : d.zReady e = true) (hbad : d.badFetch e = true) (branch : Bool) (r : ZRes) :
    d.issue e branch r = d.zhalt e 4 (some (d.pc e)) := by
  rw [Dev.issue, if_neg (by rw [h]; decide), if_pos hbad]

theorem Dev.issue_branchInSlot {d : Dev} {e : Nat} (h : d.Fetches e) (hslot : (d.engine e).slot.isSome = true) (r : ZRes) :
    d.issue e true r = d.zhalt e 3 none := by
  rw [Dev.issue, if_neg (by rw [h.1]; decide), if_neg (by rw [h.2]; decide), if_pos (by rw [hslot]; rfl)]

theorem Dev.issue_retires {d : Dev} {e : Nat} (h : d.Fetches e) (branch : Bool) (hslot : branch = true → (d.engine e).slot = none) (r : ZRes) :
    d.issue e branch r = Dev.retire e r := by
  rw [Dev.issue, if_neg (by rw [h.1]; decide), if_neg (by rw [h.2]; decide), if_neg]
  cases branch with
  | false => exact Bool.false_ne_true
  | true => rw [hslot rfl]; decide

end Sys2Proof.Machine
end

section
/-! PROOFS. The end of stride work (R384, R386) and the reads of ENG_WAIT (R394, R395). -/

namespace Sys2Proof.Machine
open Sys2Proof Sys2Proof.Safety

/-! ### ENG_DONE (R384, R386) -/

theorem Dev.follower_alone {d : Dev} {e : Nat} (h : d.partner e = none) : d.follower e = false := by simp [Dev.follower, h]

/-- A store to ENG_DONE is nothing to an engine that is in no stride. -/
theorem Dev.engDone_free {d : Dev} {e : Nat} (h : d.get (R.ENG_CFG_MODE e) ≠ 1) : d.engDone e = d := if_pos (.inl h)

/-- What the end of stride work shows and what it leaves. -/
theorem Dev.engDone_stride {d : Dev} {e : Nat} (hmode : d.get (R.ENG_CFG_MODE e) = 1) (hrun : d.get (R.ENG_STATUS_STATE e) = 2) :
    (d.engDone e).get (R.ENG_STATUS_STATE e) = 4 ∧ (d.engDone e).get (R.ENG_CYC_LAST e) = min (d.engCycles e) 0xFFFFFE ∧
    (d.engDone e).get (R.ENG_CYC_MAX e) = max (min (d.engCycles e) 0xFFFFFE) (d.get (R.ENG_CYC_MAX e)) ∧
    (∀ g, g.key ≠ (R.ENG_STATUS_STATE e).key → g.key ≠ (R.ENG_CYC_LAST e).key → g.key ≠ (R.ENG_CYC_MAX e).key → (d.engDone e).get g = d.get g) ∧
    (d.engDone e).eng = d.eng := by
  have hk := engKeys e
  have hmax : d.get (R.ENG_CYC_MAX e) < 2 ^ 24 := d.get_lt _
  rw [Dev.engDone, if_neg (by rw [Dev.engState, hmode, hrun]; decide)]
  refine ⟨?_, ?_, ?_, fun g hs hl hm => ?_, rfl⟩ <;> simp only [Dev.workDone, Dev.get_withStride]
  · rw [Dev.get_set_ne _ _ _ _ (by omega), Dev.get_set_ne _ _ _ _ (by omega)]
    exact Dev.get_set_same ..
  · rw [Dev.get_set_ne _ _ _ _ (by omega)]
    exact Dev.get_set_of_lt _ _ (show _ < 2 ^ 24 by omega)
  · exact Dev.get_set_of_lt _ _ (show _ < 2 ^ 24 by omega)
  · rw [Dev.get_set_ne _ _ _ _ hm, Dev.get_set_ne _ _ _ _ hl, Dev.get_set_ne _ _ _ _ hs]

/-- The end of stride work pairs no engines. -/
theorem Dev.partner_engDone {d : Dev} {e : Nat} (he : e < 48) (hmode : d.get (R.ENG_CFG_MODE e) = 1) (hrun : d.get (R.ENG_STATUS_STATE e) = 2) (k : Nat) :
    (d.engDone e).partner k = d.partner k := by
  have hk := engKeys e
  obtain ⟨-, -, -, hget, -⟩ := Dev.engDone_stride hmode hrun
  refine Dev.partner_congr (fun g hg => ?_) k
  rw [page] at hg
  exact hget g (by omega) (by omega) (by omega)

section
variable {e : Fin 48} {s : State}

theorem exec_engDone : exec (.engDone e) s =
    .next (s.on fun d => if d.engState e = 2 ∧ d.follower e = false then (d.engDone e).pairFollow e else d) := rfl

theorem exec_engDone_runs (hrun : s.dev.get (R.ENG_STATUS_STATE e) = 2) (hlead : s.dev.follower e = false) :
    exec (.engDone e) s = .next (s.on fun d => (d.engDone e).pairFollow e) := by
  rw [exec_engDone, State.on, if_pos ⟨hrun, hlead⟩]
  rfl

theorem exec_engDone_idle (h : s.dev.get (R.ENG_STATUS_STATE e) ≠ 2 ∨ s.dev.follower e = true) : exec (.engDone e) s = .next s := by
  rw [exec_engDone, State.on, if_neg]
  rintro ⟨hrun, hlead⟩
  rcases h with h | h
  · exact h hrun
  · exact Bool.false_ne_true (hlead.symm.trans h)

theorem exec_engDone_alone (hrun : s.dev.get (R.ENG_STATUS_STATE e) = 2) (hp : s.dev.partner e = none) (hmode : s.dev.get (R.ENG_CFG_MODE e) = 1) :
    ∃ t, exec (.engDone e) s = .next t ∧ t.dev.get (R.ENG_STATUS_STATE e) = 4 ∧
      t.dev.get (R.ENG_CYC_LAST e) = min ((s.dev.now - (s.dev.engine e).entryAt) % 2 ^ 24) 0xFFFFFE ∧
      t.dev.get (R.ENG_CYC_MAX e) = max (min ((s.dev.now - (s.dev.engine e).entryAt) % 2 ^ 24) 0xFFFFFE) (s.dev.get (R.ENG_CYC_MAX e)) ∧
      KeepsRegs [R.ENG_STATUS_STATE e, R.ENG_CYC_LAST e, R.ENG_CYC_MAX e] s t ∧ t.dev.eng = s.dev.eng := by
  obtain ⟨hstate, hlast, hmax, hget, heng⟩ := Dev.engDone_stride hmode hrun
  have hsame : (s.dev.engDone e).pairFollow e = s.dev.engDone e := Dev.pairFollow_alone ((Dev.partner_engDone e.isLt hmode hrun e).trans hp)
  refine ⟨_, exec_engDone_runs hrun (Dev.follower_alone hp), ?_⟩
  rw [State.on_dev, hsame]
  refine ⟨hstate, hlast, hmax, ⟨rfl, rfl, fun g hg => ?_⟩, heng⟩
  simp only [List.forall_mem_cons] at hg
  obtain ⟨hs, hl, hm, -⟩ := hg
  rw [State.on_dev, hsame, hget g hs hl hm]

theorem exec_engDone_pair {p : Fin 48} (hrun : s.dev.get (R.ENG_STATUS_STATE e) = 2) (hlead : s.dev.follower e = false)
    (hp : s.dev.partner e = some p.val) (hmode : s.dev.get (R.ENG_CFG_MODE e) = 1) :
    ∃ t, exec (.engDone e) s = .next t ∧ t.dev.get (R.ENG_STATUS_STATE e) = 4 ∧ t.dev.get (R.ENG_STATUS_STATE p) = 4 ∧ t.mem = s.mem := by
  obtain ⟨hstate, -⟩ := Dev.engDone_stride hmode hrun
  have hk := engKeys e
  have hf := (s.dev.engDone e).pairFollow_effect e
  obtain ⟨-, hfollower, -⟩ := hf.partner _ ((Dev.partner_engDone e.isLt hmode hrun e).trans hp)
  exact ⟨_, exec_engDone_runs hrun hlead, (hf.get_own _ (by rw [page]; omega)).trans hstate, hfollower.trans hstate, rfl⟩

theorem exec_engDone_free (hp : s.dev.partner e = none) (hmode : s.dev.get (R.ENG_CFG_MODE e) ≠ 1) : exec (.engDone e) s = .next s := by
  by_cases hrun : s.dev.get (R.ENG_STATUS_STATE e) = 2
  · rw [exec_engDone_runs hrun (Dev.follower_alone hp), State.on, Dev.engDone_free hmode, Dev.pairFollow_alone hp]
  · exact exec_engDone_idle (.inl hrun)

end

/-! ### The lines that a read returns (R394, R395) -/

/-- A write of a general register changes nothing else of the engine. -/
theorem Dev.engine_setGreg (d : Dev) (e r v : Nat) : (d.setGreg e r v).engine e = { d.engine e with g := ((d.setGreg e r v).engine e).g } := by
  unfold Dev.setGreg
  split
  · rfl
  · rw [Dev.engine_setEngine_same]

theorem Dev.enabledLines_lt (d : Dev) (e : Nat) : d.enabledLines e < 2 ^ 32 := BitVec.isLt _

/-- A 32-bit value as a load of a register extends it (R423). -/
theorem word40_of_lt (sx : Bool) {l : Nat} (hl : l < 2 ^ 32) : word40 sx l = if sx then wrap40 (BitVec.ofNat 32 l).toInt else l := by
  rw [word40, sx40, toSigned_eq_toInt, Nat.mod_eq_of_lt hl]

theorem word40_lt (sx : Bool) (l : Nat) : word40 sx l < 2 ^ 40 := by
  rw [word40]
  split
  · exact ofSigned_lt 40 _
  · have := Nat.mod_lt l (Nat.two_pow_pos 32)
    omega

/-- The device in which engine `e` has read the lines `l` into a general register. -/
def Dev.takeLines (d : Dev) (e rd : Nat) (sx : Bool) (l : Nat) : Dev := (d.clearLines e l).setGreg e rd (word40 sx l)

section
variable (d : Dev) (e rd : Nat) (sx : Bool) (l : Nat)

theorem Dev.engine_takeLines : (d.takeLines e rd sx l).engine e =
    { d.engine e with evPend := (d.engine e).evPend &&& ~~~ (BitVec.ofNat 32 l), g := ((d.takeLines e rd sx l).engine e).g } := by
  rw [Dev.takeLines, Dev.engine_setGreg, Dev.clearLines, Dev.engine_setEngine_same]

theorem Dev.takeLines_regs : (d.takeLines e rd sx l).regs = d.regs := Dev.setGreg_regs ..

theorem Dev.greg_takeLines : (d.takeLines e rd sx l).greg e rd = if rd = 0 then 0 else word40 sx l := by
  split
  · next h => rw [h]; rfl
  · next h => rw [Dev.takeLines, Dev.greg_setGreg_same _ _ _ _ h, Nat.mod_eq_of_lt (word40_lt sx l)]

end

/-- Engine `e`'s read of ENG_WAIT has returned the lines `l` of the device `d`. -/
structure ReturnsLines (e rd : Nat) (sx : Bool) (l : Nat) (d d' : Dev) : Prop where
  pc : d'.pc e = (d.engine e).slot.getD (d.pc e + 4) % 2 ^ 32
  greg : d'.greg e rd = if rd = 0 then 0 else if sx then wrap40 (BitVec.ofNat 32 l).toInt else l
  state : d'.get (R.ENG_STATUS_STATE e) = d.get (R.ENG_STATUS_STATE e)
  wait : (d'.engine e).wait = (d.engine e).wait
  lines : d.partner e = none → (d'.engine e).evPend = (d.engine e).evPend &&& ~~~ (BitVec.ofNat 32 l)

theorem Dev.retire_takeLines (d : Dev) {e rd : Nat} (sx : Bool) {l : Nat} (he : e < 48) (hl : l < 2 ^ 32) (hhalt : (d.engine e).haltReq = false) :
    ReturnsLines e rd sx l d (Dev.retire e (.next (d.takeLines e rd sx l))) := by
  have hk := engKeys e
  have hx := d.engine_takeLines e rd sx l
  have hregs := d.takeLines_regs e rd sx l
  have hhalt' : ((d.takeLines e rd sx l).engine e).haltReq = false := by rw [hx]; exact hhalt
  refine ⟨?_, ?_, ?_, ?_, fun hp => ?_⟩
  · rw [Dev.retire_next_pc hhalt', hx, Dev.pc, Dev.get_congr hregs, Dev.pc]
  · rw [Dev.retire_next_greg hhalt', Dev.greg_takeLines, word40_of_lt sx hl]
  · rw [Dev.retire_next_get hhalt' _ (by rw [page]; omega) (by omega), Dev.get_congr hregs]
  · rw [(Dev.retire_next_engine hhalt').wait, Dev.engine_advance, hx]
  · have hp' : ((d.takeLines e rd sx l).advance e none).partner e = none := by
      rw [Dev.partner_advance _ _ _ _ (by omega), Dev.partner_congr (fun g _ => Dev.get_congr hregs g), hp]
    rw [(Dev.retire_next_effect hhalt').alone hp', Dev.engine_advance, hx]

/-! ### A read of ENG_WAIT by an engine that runs -/

theorem Dev.engWait_eq {d : Dev} {e rd : Nat} {sx : Bool} (h : d.Fetches e) : d.engWait e rd sx = Dev.retire e
    (if d.enabledLines e ≠ 0 then .next (d.takeLines e rd sx (d.enabledLines e))
     else if d.engState e = 5 then .wait (d.setEngine e { d.engine e with slot := none })
     else .wait ((d.set (R.ENG_STATUS_STATE e) 3).setEngine e { d.engine e with wait := some (.events rd sx), waitAt := d.now })) :=
  Dev.issue_retires h false nofun _

section
variable {e : Fin 48} {rd : Fin 32} {sx : Bool} {s : State}

theorem exec_engWait : exec (.engWait e rd sx) s = .next (s.on fun d => d.engWait e rd sx) := rfl

theorem exec_engWait_latched {l : Nat} (h : Issues s e) (hrun : s.dev.engState e = 2) (hl : l = s.dev.enabledLines e) (hne : l ≠ 0) :
    ∃ t, exec (.engWait e rd sx) s = .next t ∧ (s.dev.partner e = none → (t.dev.engine e).evPend = (s.dev.engine e).evPend &&& ~~~(BitVec.ofNat 32 l)) ∧
      t.dev.greg e rd = (if rd = 0 then 0 else if sx then wrap40 (BitVec.ofNat 32 l).toInt else l) ∧ t.mem = s.mem ∧
      t.dev.get (R.ENG_STATUS_STATE e) = 2 ∧ t.dev.pc e = (s.dev.engine e).slot.getD (s.dev.pc e + 4) % 2 ^ 32 := by
  have hr := s.dev.retire_takeLines (rd := rd) sx e.isLt (hl ▸ s.dev.enabledLines_lt e) h.2.2
  have heq : s.dev.engWait e rd sx = Dev.retire e (.next (s.dev.takeLines e rd sx l)) := by
    rw [Dev.engWait_eq (fetches_of_issues h), if_pos (hl ▸ hne), ← hl]
  refine ⟨_, exec_engWait, ?_⟩
  rw [State.on_dev, heq]
  exact ⟨hr.lines, by simpa only [Fin.ext_iff, Fin.val_zero] using hr.greg, rfl, hr.state.trans hrun, hr.pc⟩

theorem exec_engWait_waits (h : Issues s e) (hrun : s.dev.engState e = 2) (hnone : s.dev.enabledLines e = 0) :
    ∃ t, exec (.engWait e rd sx) s = .next t ∧ t.dev.get (R.ENG_STATUS_STATE e) = 3 ∧ t.dev.pc e = s.dev.pc e ∧ t.mem = s.mem ∧
      (t.dev.engine e).wait = some (.events rd sx) ∧ (s.dev.partner e = none → (t.dev.engine e).evPend = (s.dev.engine e).evPend) ∧
      ∀ r, t.dev.greg e r = s.dev.greg e r := by
  have hk := engKeys e
  generalize hd : (s.dev.set (R.ENG_STATUS_STATE e) 3).setEngine e { s.dev.engine e with wait := some (.events rd sx), waitAt := s.dev.now } = d
  have heng : d.engine e = { s.dev.engine e with wait := some (.events rd sx), waitAt := s.dev.now } := by rw [← hd, Dev.engine_setEngine_same]
  have hpartner : d.partner e = s.dev.partner e := by
    rw [← hd, Dev.partner_setEngine, Dev.partner_set _ _ _ (by rw [page]; omega)]
  have heq : s.dev.engWait e rd sx = d.pairFollow e := by
    rw [Dev.engWait_eq (fetches_of_issues h), if_neg (not_not_intro hnone), if_neg (by omega), ← hd]
    rfl
  have hf := d.pairFollow_effect e
  refine ⟨_, exec_engWait, ?_⟩
  rw [State.on_dev, heq]
  refine ⟨?_, ?_, rfl, ?_, fun hp => ?_, fun r => ?_⟩
  · rw [hf.get_own _ (by rw [page]; omega), ← hd]
    exact Dev.get_set_same ..
  · rw [hf.pc, ← hd]
    exact Dev.get_set_ne _ _ _ _ (by omega)
  · rw [hf.own.wait, heng]
  · rw [hf.alone (hpartner.trans hp), heng]
  · rw [hf.greg]
    exact Dev.greg_congr (by rw [heng]) r

/-- An engine that a fence has stopped gives the wait up (R385). -/
theorem exec_engWait_fenced (h : Issues s e) (hfenced : s.dev.engState e = 5) (hnone : s.dev.enabledLines e = 0) :
    ∃ t, exec (.engWait e rd sx) s = .next t ∧ t.dev.get (R.ENG_STATUS_STATE e) = 5 ∧ t.dev.zReady e = false ∧ t.mem = s.mem ∧
      ∀ r, t.dev.greg e r = s.dev.greg e r := by
  have hk := engKeys e
  generalize hd : s.dev.setEngine e { s.dev.engine e with slot := none } = d
  have heq : s.dev.engWait e rd sx = d.pairFollow e := by
    rw [Dev.engWait_eq (fetches_of_issues h), if_neg (not_not_intro hnone), if_pos hfenced, ← hd]
    rfl
  have hf := d.pairFollow_effect e
  have heng : d.engine e = { s.dev.engine e with slot := none } := by rw [← hd, Dev.engine_setEngine_same]
  have hstate : (d.pairFollow e).get (R.ENG_STATUS_STATE e) = 5 := by
    rw [hf.get_own _ (by rw [page]; omega), ← hd]
    exact hfenced
  refine ⟨_, exec_engWait, ?_⟩
  rw [State.on_dev, heq]
  refine ⟨hstate, ?_, rfl, fun r => ?_⟩
  · simp [Dev.zReady, Dev.engState, hstate, hf.own.slot, heng]
  · rw [hf.greg]
    exact Dev.greg_congr (by rw [heng]) r

end

/-! ### The end of a wait -/

/-- What a waiting engine's read returns, and that the engine runs on. -/
theorem Dev.waitReturn_effect (d : Dev) {e rd : Nat} (sx : Bool) {l : Nat} (he : e < 48) (hl : l < 2 ^ 32) (hhalt : (d.engine e).haltReq = false) :
    (d.waitReturn e rd sx l).get (R.ENG_STATUS_STATE e) = 2 ∧ ((d.waitReturn e rd sx l).engine e).wait = none ∧
    (d.waitReturn e rd sx l).greg e rd = (if rd = 0 then 0 else if sx then wrap40 (BitVec.ofNat 32 l).toInt else l) ∧
    (d.partner e = none → ((d.waitReturn e rd sx l).engine e).evPend = (d.engine e).evPend &&& ~~~ (BitVec.ofNat 32 l)) ∧
    (d.waitReturn e rd sx l).pc e = (d.engine e).slot.getD (d.pc e + 4) % 2 ^ 32 := by
  have hk := engKeys e
  generalize hb : (d.endWait e).set (R.ENG_STATUS_STATE e) 2 = b
  have heng : b.engine e = { d.engine e with wait := none } := by rw [← hb, Dev.engine_set, Dev.endWait, Dev.engine_setEngine_same]
  have hpartner : b.partner e = d.partner e := by
    rw [← hb, Dev.partner_set _ _ _ (by rw [page]; omega), Dev.endWait, Dev.partner_setEngine]
  have hr := b.retire_takeLines (rd := rd) sx he hl (by rw [heng]; exact hhalt)
  have heq : d.waitReturn e rd sx l = Dev.retire e (.next (b.takeLines e rd sx l)) := by rw [← hb]; rfl
  have hpc : b.pc e = d.pc e := by rw [← hb]; exact Dev.get_set_ne _ _ _ _ (by omega)
  rw [heq]
  refine ⟨hr.state.trans (by rw [← hb]; exact Dev.get_set_same ..), ?_, hr.greg, fun hp => ?_, ?_⟩
  · rw [hr.wait, heng]
  · rw [hr.lines (hpartner.trans hp), heng]
  · rw [hr.pc, heng, hpc]

section
variable {e : Fin 48} {rd : Nat} {sx : Bool} {s : State}

theorem exec_waitWake_latched {l : Nat} (hwait : (s.dev.engine e).wait = some (.events rd sx)) (hlead : s.dev.follower e = false)
    (hl : l = s.dev.enabledLines e) (hne : l ≠ 0) (hhalt : (s.dev.engine e).haltReq = false) :
    ∃ t, exec (.waitWake e) s = .next t ∧ t.dev.get (R.ENG_STATUS_STATE e) = 2 ∧ (t.dev.engine e).wait = none ∧ t.mem = s.mem ∧
      t.dev.greg e rd = (if rd = 0 then 0 else if sx then wrap40 (BitVec.ofNat 32 l).toInt else l) ∧
      (s.dev.partner e = none → (t.dev.engine e).evPend = (s.dev.engine e).evPend &&& ~~~(BitVec.ofNat 32 l)) ∧
      t.dev.pc e = (s.dev.engine e).slot.getD (s.dev.pc e + 4) % 2 ^ 32 := by
  have heq : s.dev.waitWake e = s.dev.waitReturn e rd sx l := by
    rw [Dev.waitWake, hwait]
    dsimp only
    rw [← hl, if_neg (by simp [hne, hlead])]
  obtain ⟨hstate, hdone, hgreg, hlines, hpc⟩ := s.dev.waitReturn_effect (rd := rd) sx e.isLt (hl ▸ s.dev.enabledLines_lt e) hhalt
  refine ⟨s.on fun d => d.waitWake e, rfl, ?_⟩
  rw [State.on_dev, heq]
  exact ⟨hstate, hdone, rfl, hgreg, hlines, hpc⟩

theorem exec_waitWake_waits (h : s.dev.enabledLines e = 0 ∨ ∀ rd sx, (s.dev.engine e).wait ≠ some (.events rd sx)) : exec (.waitWake e) s = .next s := by
  refine congrArg (fun d => Host.Outcome.next { s with dev := d }) (?_ : s.dev.waitWake e = s.dev)
  unfold Dev.waitWake
  split
  · next rd sx hwait =>
    rcases h with h | h
    · exact if_pos (.inl h)
    · exact absurd hwait (h rd sx)
  · rfl

theorem exec_waitLimitExpiry : exec (.waitLimitExpiry e) s = .next (s.on fun d => d.waitLimit e) := rfl

section
variable (hwait : (s.dev.engine e).wait = some (.events rd sx)) (hlead : s.dev.follower e = false) (hlimit : (s.dev.engine e).limit ≠ 0)
include hwait hlead hlimit

/-- The limit passes first, then the read returns. -/
theorem Dev.waitLimit_passes (x : Dev) (hx : s.dev.passNs ((s.dev.engine e).waitAt + (s.dev.engine e).limit - s.dev.now) = x) :
    s.dev.waitLimit e = x.waitReturn e rd sx (x.enabledLines e) := by
  rw [Dev.waitLimit, hwait]
  dsimp only
  rw [if_neg (by simp [hlimit, hlead]), hx]

theorem exec_waitLimitExpiry_passes (hhalt : (s.dev.engine e).haltReq = false) :
    ∃ t, exec (.waitLimitExpiry e) s = .next t ∧ t.dev.get (R.ENG_STATUS_STATE e) = 2 ∧ (t.dev.engine e).wait = none := by
  generalize hx : s.dev.passNs ((s.dev.engine e).waitAt + (s.dev.engine e).limit - s.dev.now) = x
  have htime : TimeFrame s.dev x := hx ▸ .passNs ..
  have hhalt' : (x.engine e).haltReq = false := by rw [htime.rest]; exact hhalt
  obtain ⟨hstate, hdone, -⟩ := x.waitReturn_effect (rd := rd) sx e.isLt (x.enabledLines_lt e) hhalt'
  refine ⟨_, exec_waitLimitExpiry, ?_⟩
  rw [State.on_dev, Dev.waitLimit_passes hwait hlead hlimit x hx]
  exact ⟨hstate, hdone⟩

/-- No line was latched by the instant of the limit: the read returns 0. -/
theorem exec_waitLimitExpiry_zero (hhalt : (s.dev.engine e).haltReq = false) (hnone : s.dev.enabledLines e = 0)
    (hnow : s.dev.now = (s.dev.engine e).waitAt + (s.dev.engine e).limit) :
    ∃ t, exec (.waitLimitExpiry e) s = .next t ∧ t.dev.get (R.ENG_STATUS_STATE e) = 2 ∧ (t.dev.engine e).wait = none ∧ t.dev.greg e rd = 0 ∧
      t.mem = s.mem ∧ t.dev.pc e = (s.dev.engine e).slot.getD (s.dev.pc e + 4) % 2 ^ 32 := by
  have hx : s.dev.passNs ((s.dev.engine e).waitAt + (s.dev.engine e).limit - s.dev.now) = s.dev := by rw [← hnow, Nat.sub_self]; rfl
  have heq := Dev.waitLimit_passes hwait hlead hlimit s.dev hx
  rw [hnone] at heq
  obtain ⟨hstate, hdone, hgreg, -, hpc⟩ := s.dev.waitReturn_effect (rd := rd) sx (l := 0) e.isLt (Nat.two_pow_pos 32) hhalt
  refine ⟨_, exec_waitLimitExpiry, ?_⟩
  rw [State.on_dev, heq]
  refine ⟨hstate, hdone, hgreg.trans ?_, rfl, hpc⟩
  cases sx <;> simp [wrap40, ofSigned]

end

theorem exec_waitLimitExpiry_idle (h : (s.dev.engine e).limit = 0 ∨ ∀ rd sx, (s.dev.engine e).wait ≠ some (.events rd sx)) :
    exec (.waitLimitExpiry e) s = .next s := by
  refine congrArg (fun d => Host.Outcome.next { s with dev := d }) (?_ : s.dev.waitLimit e = s.dev)
  unfold Dev.waitLimit
  split
  · next rd sx hwait =>
    rcases h with h | h
    · exact if_pos (.inl h)
    · exact absurd hwait (h rd sx)
  · rfl

end

/-- Settles O31: ENG_DONE and its follower, the three ways of a read of ENG_WAIT, and the two ends of a wait, each by its lemma. -/
theorem engineWork : Obligations.EngineWork :=
  ⟨fun _ _ => exec_engDone_alone, fun _ _ _ => exec_engDone_pair, fun _ _ => exec_engDone_idle, fun _ _ => exec_engDone_free,
   fun _ _ _ _ _ => exec_engWait_latched, fun _ _ _ _ => exec_engWait_waits, fun _ _ _ _ => exec_engWait_fenced,
   fun _ _ _ _ _ => exec_waitWake_latched, fun _ _ => exec_waitWake_waits,
   fun _ _ _ _ hwait hlead hlimit hhalt => exec_waitLimitExpiry_zero hwait hlead hlimit hhalt,
   fun _ _ _ _ hwait hlead hlimit => exec_waitLimitExpiry_passes hwait hlead hlimit, fun _ _ => exec_waitLimitExpiry_idle⟩

end Sys2Proof.Machine
end

section
/-! PROOFS. HALT, RESTART and CLR_STATS of an engine (R406, R408, R413, R574), and the fault and the restart of the Bridle (R417). -/

namespace Sys2Proof.Machine
open Sys2Proof Sys2Proof.Safety

/-! ### Writes of ENG_CTRL -/

/-- Outside the mailboxes a writer's permission is one of whole blocks, but for the registers of the switch mover (R391, R556). -/
theorem Dev.mayWrite_congr (d : Dev) (w : Writer) {off off' : Nat} (hblock : off / 0x10000 = off' / 0x10000) (hmb : off / 0x10000 ≠ 2)
    (hmover : swMover off = swMover off') : d.mayWrite w off = d.mayWrite w off' := by
  have hmb' : (off' / 0x10000 == 2) = false := by rw [beq_eq_false_iff_ne, ← hblock]; exact hmb
  simp only [Dev.mayWrite, hblock, hmb', hmover, Bool.false_and]

/-- Who may write the status word of an engine may write its control word. -/
theorem grants_engCtrl {s : State} {w : Writer} {e : Fin 48} (h : Grants s w (R.ENG_STATUS_STATE e)) : Grants s w (R.ENG_CTRL_HALT e) := by
  have he := e.isLt
  have hmover (off : Nat) (ho : off < 0xC0800) : swMover off = false := decide_eq_false (by omega)
  refine (s.dev.mayWrite_congr w ?_ ?_ ?_).trans h <;> simp only [R.ENG_CTRL_HALT, R.ENG_STATUS_STATE]
  · omega
  · omega
  · rw [hmover _ (by omega), hmover _ (by omega)]

section
variable {w : Writer} {e : Fin 48} {s : State} (hw : Grants s w (R.ENG_STATUS_STATE e))
include hw

theorem exec_halt : exec (.halt w e) s = .next (s.on fun d => d.hostHalt e) := State.gate_next (grants_engCtrl hw) rfl

theorem exec_restart : exec (.restart w e) s = .next (s.on fun d => d.restartEngine e) := State.gate_next (grants_engCtrl hw) rfl

theorem exec_engClrStats : exec (.engClrStats w e) s = .next (s.on fun d => d.clear [R.ENG_CYC_MAX e, R.ENG_RXR_DROP e]) :=
  State.gate_next (grants_engCtrl hw) rfl

end

/-! ### HALT (R406) -/

theorem Dev.hostHalt_ignored {d : Dev} {e : Nat} (h : d.engState e = 0 ∨ d.engState e = 1 ∨ d.engState e = 6 ∨ d.engState e = 7) : d.hostHalt e = d :=
  if_pos h

theorem Dev.hostHalt_waits {d : Dev} {e : Nat} (h : d.engState e = 2 ∨ d.engState e = 3 ∨ d.engState e = 5) (hslot : (d.engine e).slot.isSome = true) :
    d.hostHalt e = d.setEngine (d.leader e) { d.engine (d.leader e) with haltReq := true } := by
  rw [Dev.hostHalt]
  dsimp only
  rw [if_neg (by omega), if_pos]
  rw [hslot, Bool.true_and, bne_iff_ne]
  omega

theorem Dev.hostHalt_now {d : Dev} {e : Nat}
    (h : d.engState e = 4 ∨ (d.engState e = 2 ∨ d.engState e = 3 ∨ d.engState e = 5) ∧ (d.engine e).slot = none) : d.hostHalt e = d.hostHaltNow e := by
  rw [Dev.hostHalt]
  dsimp only
  rw [if_neg (by omega), if_neg]
  rcases h with h | ⟨-, h⟩ <;> simp [h]

/-- A HALT that waits takes effect as the instruction that it waits for retires (R406). -/
theorem Dev.retire_haltReq {d : Dev} {e : Nat} (he : e < 48) (hreq : (d.engine e).haltReq = true) (hp : d.partner e = none) :
    (Dev.retire e (.next d)).get (R.ENG_STATUS_STATE e) = 6 ∧ (Dev.retire e (.next d)).get (R.ENG_STATUS_HALT_CAUSE e) = 1 := by
  have hp' : (d.advance e none).partner e = none := (d.partner_advance e none e (by omega)).trans hp
  have heq : Dev.retire e (.next d) = (d.advance e none).hostHaltNow e := by
    rw [Dev.retire, Dev.pairFollow_alone hp', Dev.lateHalt, Dev.engine_advance, if_pos (by simp [hreq])]
  rw [heq]
  exact ⟨((d.advance e none).hostHaltNow_effect he).state, ((d.advance e none).hostHaltNow_effect he).cause⟩

/-! ### RESTART of one engine (R408, R454) -/

/-- What the restart of the halted engine `e` does, and what it leaves. -/
structure RestartEffect (e : Nat) (d d' : Dev) : Prop where
  cause : d'.get (R.ENG_STATUS_HALT_CAUSE e) = 0
  gregs : (d'.engine e).g = []
  stride : d.engMode e = 1 → d'.get (R.ENG_STATUS_STATE e) = 4 ∧ (d'.engine e).first = true
  free : d.engMode e = 2 → d'.get (R.ENG_STATUS_STATE e) = 2 ∧ d'.pc e = d.get (R.ENG_ENTRY (d.leader e)) ∧ (d'.engine e).edge = 512
  get : ∀ g, g.key ≠ (R.ENG_STATUS_HALT_CAUSE e).key → g.key ≠ (R.ENG_STATUS_STATE e).key → g.key ≠ (R.ENG_PC e).key → d'.get g = d.get g
  engine : ∀ i, i ≠ e → d'.engine i = d.engine i

theorem Dev.leader_congr {d d' : Dev} (h : ∀ k, d'.partner k = d.partner k) (e : Nat) : d'.leader e = d.leader e := by
  rw [Dev.leader, Dev.follower, h, ← Dev.follower, ← Dev.leader]

/-- Engine `e` without its halt: registers clear, FIRST to be shown at its entry. -/
def Dev.cleared (d : Dev) (e : Nat) : Dev :=
  (d.set (R.ENG_STATUS_HALT_CAUSE e) 0).setEngine e
    { d.engine e with g := [], slot := none, wait := none, haltReq := false, first := true, stream := {} }

section
variable (d : Dev) (e : Nat)

theorem Dev.engine_cleared :
    (d.cleared e).engine e = { d.engine e with g := [], slot := none, wait := none, haltReq := false, first := true, stream := {} } :=
  Dev.engine_setEngine_same ..

theorem Dev.get_cleared (g : Fld) (h : g.key ≠ (R.ENG_STATUS_HALT_CAUSE e).key) : (d.cleared e).get g = d.get g := Dev.get_set_ne _ _ _ _ h

theorem Dev.get_cleared_cause : (d.cleared e).get (R.ENG_STATUS_HALT_CAUSE e) = 0 := Dev.get_set_same ..

theorem Dev.engine_cleared_ne (i : Nat) (h : i ≠ e) : (d.cleared e).engine i = d.engine i := Dev.engine_setEngine_ne _ _ _ _ h

theorem Dev.partner_cleared (he : e < 48) (k : Nat) : (d.cleared e).partner k = d.partner k := by
  rw [Dev.cleared, Dev.partner_setEngine, Dev.partner_set _ _ _ (by have := engKeys e; rw [page]; omega)]

end

/-- A state set after the clearing. -/
theorem RestartEffect.setState {d : Dev} {e v : Nat} (hstride : d.engMode e = 1 → v = 4) (hfree : d.engMode e ≠ 2) :
    RestartEffect e d ((d.cleared e).set (R.ENG_STATUS_STATE e) v) := by
  have hk := engKeys e
  refine ⟨?_, ?_, fun h => ⟨?_, ?_⟩, fun h => absurd h hfree, fun g hc hs _ => ?_, fun i hi => ?_⟩
  · rw [Dev.get_set_ne _ _ _ _ (by omega), Dev.get_cleared_cause]
  · rw [Dev.engine_set, Dev.engine_cleared]
  · rw [hstride h]
    exact Dev.get_set_same ..
  · rw [Dev.engine_set, Dev.engine_cleared]
  · rw [Dev.get_set_ne _ _ _ _ hs, Dev.get_cleared _ _ _ hc]
  · rw [Dev.engine_set, Dev.engine_cleared_ne _ _ _ hi]

/-- An engine of its own pace enters at once. -/
theorem RestartEffect.enter {d : Dev} {e : Nat} (he : e < 48) (hfree : d.engMode e = 2) : RestartEffect e d ((d.cleared e).enterEngine e 0) := by
  have hk := engKeys e
  have hkl := engKeys (d.leader e)
  have hentry : (d.cleared e).get (R.ENG_ENTRY ((d.cleared e).leader e)) = d.get (R.ENG_ENTRY (d.leader e)) := by
    rw [Dev.leader_congr (d.partner_cleared e he), Dev.get_cleared _ _ _ (by omega)]
  have heq : (d.cleared e).enterEngine e 0 = (((d.cleared e).set (R.ENG_STATUS_STATE e) 2).setPc e (d.get (R.ENG_ENTRY (d.leader e)))).setEngine e
      { (d.cleared e).engine e with slot := none, wait := none, entryAt := d.now, edge := 512, first := false } := by
    rw [Dev.enterEngine]
    dsimp only
    rw [hentry, Dev.engine_cleared]
    rfl
  rw [heq]
  refine ⟨?_, ?_, fun h => absurd (hfree.symm.trans h) (by decide), fun _ => ⟨?_, ?_, ?_⟩, fun g hc hs hpc => ?_, fun i hi => ?_⟩
  · rw [Dev.get_setEngine, Dev.setPc, Dev.get_set_ne _ _ _ _ (by omega), Dev.get_set_ne _ _ _ _ (by omega), Dev.get_cleared_cause]
  · rw [Dev.engine_setEngine_same, Dev.engine_cleared]
  · rw [Dev.get_setEngine, Dev.setPc, Dev.get_set_ne _ _ _ _ (by omega)]
    exact Dev.get_set_same ..
  · have hlt : d.get (R.ENG_ENTRY (d.leader e)) < 2 ^ 15 := d.get_lt _
    exact Dev.get_set_of_lt _ _ (show _ < 2 ^ 32 by omega)
  · rw [Dev.engine_setEngine_same]
  · rw [Dev.get_setEngine, Dev.setPc, Dev.get_set_ne _ _ _ _ hpc, Dev.get_set_ne _ _ _ _ hs, Dev.get_cleared _ _ _ hc]
  · rw [Dev.engine_setEngine_ne _ _ _ _ hi]
    exact d.engine_cleared_ne e i hi

theorem Dev.restartOne_effect {d : Dev} {e : Nat} (he : e < 48) (hhalted : d.engState e = 6) : RestartEffect e d (d.restartOne e) := by
  have hmode : (d.cleared e).engMode e = d.engMode e := by
    have := engKeys e
    have := engKeys (d.leader e)
    rw [Dev.engMode, Dev.leader_congr (d.partner_cleared e he), Dev.get_cleared _ _ _ (by omega), Dev.engMode]
  rw [Dev.restartOne, if_neg (not_not_intro hhalted), ← Dev.cleared]
  dsimp only
  split
  · next h => exact .setState (fun _ => rfl) (by omega)
  · next h => exact .enter he h
  · next hstride hfree => exact .setState (fun h => absurd h hstride) hfree

/-! ### The mailboxes of an engine (R574, R575) -/

/-- The reset of mailbox sides leaves the registers of engines and, but for lines, the engines. -/
structure SidesFrame (d d' : Dev) : Prop where
  get : ∀ g, 0x1600 ≤ page g → d'.get g = d.get g
  engine : ∀ i, KeepsEngine i d d'

theorem SidesFrame.refl (d : Dev) : SidesFrame d d := ⟨fun _ _ => rfl, fun _ => .of_eq rfl⟩

theorem SidesFrame.trans {a b c : Dev} (h1 : SidesFrame a b) (h2 : SidesFrame b c) : SidesFrame a c :=
  ⟨fun g hg => (h2.get g hg).trans (h1.get g hg), fun i => (h1.engine i).trans (h2.engine i)⟩

theorem SidesFrame.event {d d' : Dev} (h : LineFrame d d') : SidesFrame d d' := ⟨fun g hg => h.get g (block_ne_events_of_page hg), h.engine⟩

theorem SidesFrame.set (d : Dev) (f : Fld) (v : Nat) (hf : page f < 0x1600) : SidesFrame d (d.set f v) := by
  refine ⟨fun g hg => Dev.get_set_ne _ _ _ _ fun h => ?_, fun _ => .of_eq rfl⟩
  rw [page, h, ← page] at hg
  omega

theorem SidesFrame.setMb (d : Dev) (n k : Nat) (x : MbDir) : SidesFrame d (d.setMb n k x) := ⟨fun _ _ => rfl, fun _ => .of_eq rfl⟩

theorem page_mailbox {n k : Nat} (hn : n < 16) (hk : k < 2) : page (R.MB_STATUS_POSTED n k) < 0x1600 ∧ page (R.MB_POST_GO n k) < 0x1600 ∧
    page (R.MB_STATUS_ACKED n k) < 0x1600 ∧ page (R.MB_ACK_CODE n k) < 0x1600 ∧ page (R.MB_STATUS_WAKING n k) < 0x1600 ∧
    page (R.MB_STATUS_TIMEOUT n k) < 0x1600 := by
  simp only [page, Fld.key, R.MB_STATUS_POSTED, R.MB_POST_GO, R.MB_STATUS_ACKED, R.MB_ACK_CODE, R.MB_STATUS_WAKING, R.MB_STATUS_TIMEOUT]
  omega

theorem SidesFrame.mbHost (d : Dev) {n : Nat} (en : Fld) (hn : n < 16) : SidesFrame d (d.mbHost n en) := by
  unfold Dev.mbHost
  split
  · exact .event (.raise d _ (by omega))
  · exact .refl d

theorem SidesFrame.mbRxReset (d : Dev) {n : Nat} (hn : n < 16) : SidesFrame d (d.mbRxReset n 0) := by
  obtain ⟨hposted, hgo, hacked, hack, hwaking, -⟩ := page_mailbox hn (k := 0) (by omega)
  unfold Dev.mbRxReset
  split
  · exact .refl d
  · have hregs := ((((SidesFrame.set d _ 0 hposted).trans (.set _ _ 0 hgo)).trans (.set _ _ 1 hacked)).trans (.set _ _ 14 hack)).trans (.set _ _ 0 hwaking)
    exact (hregs.trans (.setMb ..)).trans (.mbHost _ _ hn)

theorem SidesFrame.mbTxReset (d : Dev) {n : Nat} (hn : n < 16) : SidesFrame d (d.mbTxReset n 1) := by
  obtain ⟨-, -, -, -, -, htimeout⟩ := page_mailbox hn (k := 1) (by omega)
  unfold Dev.mbTxReset
  split
  · exact .refl d
  · exact (SidesFrame.set d _ 0 htimeout).trans (.setMb ..)

theorem SidesFrame.engineSides (d : Dev) (e : Nat) : SidesFrame d (d.engineSides e) := by
  refine List.foldlRecOn (motive := SidesFrame d) _ _ (.refl d) fun a ha n hn => ?_
  have hn' := List.mem_range.mp hn
  split
  · exact ha.trans ((SidesFrame.mbRxReset a hn').trans (.mbTxReset _ hn'))
  · exact ha

/-! ### RESTART of an engine and its partner -/

theorem Dev.leader_alone {d : Dev} {e : Nat} (h : d.partner e = none) : d.leader e = e := by
  rw [Dev.leader, Dev.follower_alone h]
  rfl

/-- The lower engine of a pair leads. -/
theorem Dev.leader_paired {d : Dev} {e p : Nat} (h : d.partner e = some p) : d.leader e = min e p := by
  obtain ⟨-, -, hother⟩ := (d.partner_eq_some_iff e p).mp h
  rw [Dev.leader, Dev.follower, h, hother]
  split <;> split <;> simp_all

section
variable {w : Writer} {e : Fin 48} {s : State} (hw : Grants s w (R.ENG_STATUS_STATE e))
include hw

theorem exec_halt_now
    (h : s.dev.engState e = 4 ∨ (s.dev.engState e = 2 ∨ s.dev.engState e = 3 ∨ s.dev.engState e = 5) ∧ (s.dev.engine e).slot = none) :
    ∃ t, exec (.halt w e) s = .next t ∧ t.dev.get (R.ENG_STATUS_STATE e) = 6 ∧ t.dev.get (R.ENG_STATUS_HALT_CAUSE e) = 1 ∧
      t.dev.get (R.ENG_STATUS_HALTED e) = 1 ∧ t.mem = s.mem ∧ t.dev.pc e = s.dev.pc e ∧ (∀ r, t.dev.greg e r = s.dev.greg e r) ∧
      (∀ p, s.dev.partner e = some p → t.dev.get (R.ENG_STATUS_STATE p) = 6 ∧ t.dev.get (R.ENG_STATUS_HALT_CAUSE p) = 1) := by
  have hh := s.dev.hostHaltNow_effect e.isLt
  refine ⟨_, exec_halt hw, ?_⟩
  rw [State.on_dev, Dev.hostHalt_now h]
  exact ⟨hh.state, hh.cause, hh.halted, rfl, hh.pc, hh.gregs, hh.partner⟩

theorem exec_halt_waits {k : Nat} (h : s.dev.engState e = 2 ∨ s.dev.engState e = 3 ∨ s.dev.engState e = 5) (hslot : (s.dev.engine e).slot.isSome = true)
    (hk : k = if s.dev.follower e then e.val - 1 else e.val) :
    ∃ t, exec (.halt w e) s = .next t ∧ t.dev.engine k = { s.dev.engine k with haltReq := true } ∧ t.dev.regs = s.dev.regs ∧ t.mem = s.mem := by
  refine ⟨_, exec_halt hw, ?_⟩
  rw [State.on_dev, Dev.hostHalt_waits h hslot, Dev.leader, ← hk]
  exact ⟨Dev.engine_setEngine_same .., rfl, rfl⟩

theorem exec_halt_ignored (h : s.dev.engState e = 0 ∨ s.dev.engState e = 1 ∨ s.dev.engState e = 6 ∨ s.dev.engState e = 7) :
    exec (.halt w e) s = .next s := by
  rw [exec_halt hw, State.on, Dev.hostHalt_ignored h]

theorem exec_restart_ignored (h : s.dev.engState e ≠ 6) : exec (.restart w e) s = .next s := by
  rw [exec_restart hw, State.on, Dev.restartEngine, if_pos h]

theorem exec_restart_alone (hhalted : s.dev.engState e = 6) (hp : s.dev.partner e = none) :
    ∃ t, exec (.restart w e) s = .next t ∧ t.dev.get (R.ENG_STATUS_HALT_CAUSE e) = 0 ∧ t.mem = s.mem ∧ (∀ r, t.dev.greg e r = 0) ∧
      (s.dev.get (R.ENG_CFG_MODE e) = 1 → t.dev.get (R.ENG_STATUS_STATE e) = 4 ∧ (t.dev.engine e).first = true) ∧
      (s.dev.get (R.ENG_CFG_MODE e) = 2 → t.dev.get (R.ENG_STATUS_STATE e) = 2 ∧ t.dev.pc e = s.dev.get (R.ENG_ENTRY e) ∧
        (t.dev.engine e).edge = 512) := by
  have hk := engKeys e
  have hr := Dev.restartOne_effect e.isLt hhalted
  have hs := SidesFrame.engineSides (s.dev.restartOne e) e
  have hmode : s.dev.engMode e = s.dev.get (R.ENG_CFG_MODE e) := by rw [Dev.engMode, Dev.leader_alone hp]
  have heq : s.dev.restartEngine e = (s.dev.restartOne e).engineSides e := by
    rw [Dev.restartEngine, if_neg (not_not_intro hhalted), Dev.engRestart, if_neg (not_not_intro hhalted), hp]
  have hstate := hs.get (R.ENG_STATUS_STATE e) (by rw [page]; omega)
  refine ⟨_, exec_restart hw, ?_⟩
  rw [State.on_dev, heq]
  refine ⟨?_, rfl, fun r => ?_, fun h => ?_, fun h => ?_⟩
  · rw [hs.get _ (by rw [page]; omega), hr.cause]
  · simp [Dev.greg, (hs.engine e).g, hr.gregs, Tab.getD, Tab.find?]
  · obtain ⟨hdone, hfirst⟩ := hr.stride (hmode.trans h)
    exact ⟨hstate.trans hdone, (hs.engine e).first.trans hfirst⟩
  · obtain ⟨hrun, hpc, hedge⟩ := hr.free (hmode.trans h)
    rw [Dev.leader_alone hp] at hpc
    exact ⟨hstate.trans hrun, (hs.get _ (by rw [page]; omega)).trans hpc, (hs.engine e).edge.trans hedge⟩

theorem exec_restart_pair {p : Nat} (hhalted : s.dev.engState e = 6) (hp : s.dev.partner e = some p) (hhaltedP : s.dev.engState p = 6)
    (hmode : s.dev.get (R.ENG_CFG_MODE (min e p)) = 1) :
    ∃ t, exec (.restart w e) s = .next t ∧ t.dev.get (R.ENG_STATUS_STATE e) = 4 ∧ t.dev.get (R.ENG_STATUS_STATE p) = 4 ∧
      ∀ r, t.dev.greg e r = 0 ∧ t.dev.greg p r = 0 := by
  obtain ⟨-, hp48, hne, -⟩ := Dev.partner_spec hp
  have hke := engKeys e
  have hkp := engKeys p
  have hkl := engKeys (min e p)
  have h1 := Dev.restartOne_effect e.isLt hhalted
  have hpartner : (s.dev.restartOne e).partner p = some e.val := by
    refine (Dev.partner_congr (fun g hg => ?_) p).trans (Dev.partner_symm hp)
    rw [page] at hg
    exact h1.get g (by omega) (by omega) (by omega)
  have h2 := Dev.restartOne_effect (d := s.dev.restartOne e) hp48 ((h1.get _ (by omega) (by omega) (by omega)).trans hhaltedP)
  have hs := SidesFrame.engineSides ((s.dev.restartOne e).restartOne p) e
  have heq : s.dev.restartEngine e = ((s.dev.restartOne e).restartOne p).engineSides e := by
    rw [Dev.restartEngine, if_neg (not_not_intro hhalted), Dev.engRestart, if_neg (not_not_intro hhalted), hp]
  obtain ⟨hstate, -⟩ := h1.stride (by rw [Dev.engMode, Dev.leader_paired hp, hmode])
  obtain ⟨hstateP, -⟩ := h2.stride (by
    rw [Dev.engMode, Dev.leader_paired hpartner, Nat.min_comm, h1.get _ (by omega) (by omega) (by omega), hmode])
  refine ⟨_, exec_restart hw, ?_⟩
  rw [State.on_dev, heq]
  refine ⟨?_, ?_, fun r => ⟨?_, ?_⟩⟩
  · rw [hs.get _ (by rw [page]; omega), h2.get _ (by omega) (by omega) (by omega), hstate]
  · rw [hs.get _ (by rw [page]; omega), hstateP]
  · simp [Dev.greg, (hs.engine e).g, h2.engine _ (Ne.symm hne), h1.gregs, Tab.getD, Tab.find?]
  · simp [Dev.greg, (hs.engine p).g, h2.gregs, Tab.getD, Tab.find?]

theorem exec_engClrStats_clears :
    ∃ t, exec (.engClrStats w e) s = .next t ∧ t.dev.get (R.ENG_CYC_MAX e) = 0 ∧ t.dev.get (R.ENG_RXR_DROP e) = 0 ∧
      OnlyRegs [R.ENG_CYC_MAX e, R.ENG_RXR_DROP e] s t :=
  ⟨_, exec_engClrStats hw, Dev.get_clear_mem _ _ _ (by simp), Dev.get_clear_mem _ _ _ (by simp), onlyRegs_clear _ _⟩

end

/-! ### The Bridle (R417) -/

theorem exec_bridleFault (s : State) :
    ∃ t, exec .bridleFault s = .next t ∧ t.dev.get R.BRIDLE_STATUS_STATE = 2 ∧ t.dev.get R.SYS_DIAG_BRIDLE_FAULT = 1 ∧ t.dev.bridle.tasks = [] ∧ t.dev.hn.fwd = [] ∧ t.mem = s.mem ∧
    (∀ g : Fld, block g ≠ 3 → g.key ≠ R.BRIDLE_STATUS_STATE.key → g.key ≠ R.SYS_DIAG_BRIDLE_FAULT.key → t.dev.get g = s.dev.get g) := by
  have hev := EventFrame.cause (({ s.dev with bridle := { nextId := s.dev.bridle.nextId }, hn := { s.dev.hn with fwd := [] } }.set
    R.BRIDLE_STATUS_STATE 2).setEngine bridleCore {}) R.SYS_DIAG_BRIDLE_FAULT true 252 (by omega)
  rw [← Dev.bridleFault] at hev
  refine ⟨s.on fun d => d.bridleFault, rfl, ?_⟩
  simp only [State.on_dev]
  refine ⟨?_, ?_, ?_, ?_, rfl, fun g hb hstate hfault => ?_⟩
  · rw [hev.get _ (by decide), Dev.get_set_ne _ _ _ _ (by decide), Dev.get_setEngine]
    exact Dev.get_set_same ..
  · rw [hev.get _ (by decide)]
    exact Dev.get_set_same ..
  · rw [hev.rest]
    rfl
  · rw [hev.rest]
    rfl
  · rw [hev.get g hb, Dev.get_set_ne _ _ _ _ hfault, Dev.get_setEngine, Dev.get_set_ne _ _ _ _ hstate]
    rfl

section
variable {s : State}

theorem exec_bridleRestartDone : exec .bridleRestartDone s = .next (s.on fun d => d.bridleRestartDone) := rfl

theorem exec_bridleRestartDone_idle (h : s.dev.get R.BRIDLE_STATUS_STATE = 1 ∨ s.dev.sys.starting = true) : exec .bridleRestartDone s = .next s := by
  rw [exec_bridleRestartDone, State.on, Dev.bridleRestartDone, if_pos h]

/-- The Bridle runs again, and the restart is counted. -/
def Dev.bridleRuns (d : Dev) : Dev := ((d.setEngine 48 {}).set R.BRIDLE_STATUS_STATE 1).inc R.BRIDLE_STATUS_RESTARTS

theorem Dev.get_bridleRuns (d : Dev) : d.bridleRuns.get R.BRIDLE_STATUS_STATE = 1 ∧
    d.bridleRuns.get R.BRIDLE_STATUS_RESTARTS = (d.get R.BRIDLE_STATUS_RESTARTS + 1) % 2 ^ 16 := by
  constructor
  · rw [Dev.bridleRuns, Dev.get_inc_ne _ _ _ (by decide)]
    exact Dev.get_set_same ..
  · rw [Dev.bridleRuns, Dev.get_inc_same, Dev.get_set_ne _ _ _ _ (by decide), Dev.get_setEngine]
    rfl

section
variable (hdown : s.dev.get R.BRIDLE_STATUS_STATE ≠ 1) (hstarted : s.dev.sys.starting = false)
include hdown hstarted

theorem exec_bridleRestartDone_stored (h : s.dev.on R.SEC_STATUS_STORED_VALID = true) :
    ∃ t, exec .bridleRestartDone s = .next t ∧ t.dev.get R.BRIDLE_STATUS_STATE = 1 ∧
      t.dev.get R.BRIDLE_STATUS_RESTARTS = (s.dev.get R.BRIDLE_STATUS_RESTARTS + 1) % 2 ^ 16 ∧
      KeepsRegs [R.BRIDLE_STATUS_STATE, R.BRIDLE_STATUS_RESTARTS] s t := by
  have heq : s.dev.bridleRestartDone = s.dev.bridleRuns := by
    rw [Dev.bridleRestartDone, if_neg (by simp [hdown, hstarted])]
    exact if_pos h
  obtain ⟨hstate, hcount⟩ := s.dev.get_bridleRuns
  refine ⟨_, exec_bridleRestartDone, ?_⟩
  rw [State.on_dev, heq]
  refine ⟨hstate, hcount, rfl, rfl, fun g hg => ?_⟩
  simp only [List.forall_mem_cons] at hg
  obtain ⟨hs, hc, -⟩ := hg
  rw [State.on_dev, heq, Dev.bridleRuns, Dev.get_inc_ne _ _ _ hc, Dev.get_set_ne _ _ _ _ hs, Dev.get_setEngine]

theorem exec_bridleRestartDone_recovery (h : s.dev.on R.SEC_STATUS_STORED_VALID = false) :
    ∃ t, exec .bridleRestartDone s = .next t ∧ t.dev.get R.BRIDLE_STATUS_STATE = 1 ∧ t.dev.get R.SEC_STATUS_RECOVERY = 1 ∧ t.mem = s.mem := by
  have heq : s.dev.bridleRestartDone = s.dev.bridleRuns.set R.SEC_STATUS_RECOVERY 1 := by
    rw [Dev.bridleRestartDone, if_neg (by simp [hdown, hstarted])]
    exact if_neg (by simp [h])
  refine ⟨_, exec_bridleRestartDone, ?_⟩
  rw [State.on_dev, heq]
  refine ⟨?_, Dev.get_set_same .., rfl⟩
  rw [Dev.get_set_ne _ _ _ _ (by decide), s.dev.get_bridleRuns.1]

end

end

/-- Settles O33: HALT in its three cases and after a delay slot, RESTART of an engine alone and of a pair, CLR_STATS, and the Bridle's fault and restart,
each by its lemma. -/
theorem engineHaltAndRestart : Obligations.EngineHaltAndRestart :=
  ⟨fun _ _ _ => exec_halt_now, fun _ _ _ _ hw => exec_halt_waits hw, fun _ _ _ => exec_halt_ignored,
   fun _ _ he hreq _ _ => Dev.retire_haltReq he hreq, fun _ _ _ => exec_restart_alone, fun _ _ _ _ hw => exec_restart_pair hw,
   fun _ _ _ => exec_restart_ignored, fun _ _ _ => exec_engClrStats_clears, exec_bridleFault, fun _ => exec_bridleRestartDone_stored,
   fun _ => exec_bridleRestartDone_recovery, fun _ => exec_bridleRestartDone_idle⟩

end Sys2Proof.Machine
end

section
/-! PROOFS. Branches and jumps of the Zhofa cores with their delay slots (R434 to R436), the faults of the fetch (R438, R442, R443), and SYNC (R403, R425). -/

namespace Sys2Proof.Machine
open Sys2Proof Sys2Proof.Safety

/-! ### A branch outside a delay slot -/

theorem Dev.relTarget_eq (d : Dev) (e : Nat) (off : BitVec 21) : d.relTarget e off.toNat = (((d.pc e : Int) + off.toInt * 4) % 2 ^ 32).toNat := by
  rw [Dev.relTarget, toSigned_eq_toInt, BitVec.ofNat_toNat, BitVec.setWidth_eq]
  rfl

theorem Dev.relTarget_lt (d : Dev) (e off : Nat) : d.relTarget e off < 2 ^ 32 := ofSigned_lt 32 _

/-- An instruction of `d` that transfers control opens a delay slot at the next word. -/
structure OpensSlot (e dest : Nat) (d d' : Dev) : Prop where
  pc : d'.pc e = d.pc e + 4
  slot : (d'.engine e).slot = some dest
  greg : ∀ r, d'.greg e r = d.greg e r
  get : ∀ g : Fld,
    (∀ k, k = e ∨ d.partner e = some k → ∀ f ∈ [R.ENG_PC k, R.ENG_STATUS_STATE k, R.ENG_STATUS_OV k, R.ENG_STATUS_DZ k], g.key ≠ f.key) → block g ≠ 3 → d'.get g = d.get g

theorem Dev.retire_jump {d : Dev} {e dest : Nat} (he : e ≤ 48) (hslot : (d.engine e).slot = none) (hpc : d.pc e < 0x8000) (hdest : dest < 2 ^ 32) :
    OpensSlot e dest d (Dev.retire e (.jump d dest)) := by
  have hf := (d.advance e (some dest)).pairFollow_effect e
  have hpartner := d.partner_advance e (some dest) e he
  rw [Dev.retire, Nat.mod_eq_of_lt hdest]
  refine ⟨?_, ?_, fun r => ?_, fun g hg hb => ?_⟩
  · rw [hf.pc, Dev.pc_advance, hslot, Option.getD_none, Nat.mod_eq_of_lt (by omega)]
  · rw [hf.own.slot, Dev.engine_advance, hslot]
    rfl
  · exact (hf.greg r).trans (Dev.greg_congr (Dev.gregs_advance ..) r)
  · rw [hf.get g hb fun k hk f hfk => ?_, Dev.get_advance _ _ _ _ (hg e (.inl rfl) _ (by simp))]
    refine hg k (.inr (hpartner ▸ hk)) f ?_
    simp only [List.mem_cons, List.not_mem_nil, or_false] at hfk ⊢
    rcases hfk with hpc' | hov | hdz | hstate
    · exact .inl hpc'
    · exact .inr (.inr (.inl hov))
    · exact .inr (.inr (.inr hdz))
    · exact .inr (.inl hstate)

section
variable {e : Fin 49} {s : State} (h : Issues s e) (hslot : (s.dev.engine e).slot = none)
include h hslot

/-- A branch or jump without a link (R434, R435). -/
theorem Dev.branch_effect (taken : Bool) {dest : Nat} (hdest : dest < 2 ^ 32) :
    OpensSlot e (if taken then dest else s.dev.pc e + 8) s.dev (s.dev.branch e taken dest) := by
  have hpc := (fetches_of_issues h).pc_lt
  rw [Dev.branch, Dev.issue_retires (fetches_of_issues h) true fun _ => hslot]
  refine Dev.retire_jump (by omega) hslot hpc ?_
  split <;> omega

/-- A jump that links writes the address after its delay slot (R434, R435). -/
theorem Dev.jumpLink_effect (rd : Fin 32) {dest : Nat} (hdest : dest < 2 ^ 32) :
    (s.dev.jumpLink e rd dest).pc e = s.dev.pc e + 4 ∧ ((s.dev.jumpLink e rd dest).engine e).slot = some dest ∧
    (s.dev.jumpLink e rd dest).greg e rd = (if rd = 0 then 0 else s.dev.pc e + 8) ∧
    ∀ r, r ≠ rd.val → (s.dev.jumpLink e rd dest).greg e r = s.dev.greg e r := by
  have hpc := (fetches_of_issues h).pc_lt
  have hpc' : (s.dev.setGreg e rd (s.dev.pc e + 8)).pc e = s.dev.pc e := Dev.get_setGreg ..
  rw [Dev.jumpLink, Dev.issue_retires (fetches_of_issues h) true fun _ => hslot]
  have ho := Dev.retire_jump (d := s.dev.setGreg e rd (s.dev.pc e + 8)) (e := e) (by omega) (by rw [Dev.engine_setGreg, hslot]) (by omega) hdest
  refine ⟨ho.pc.trans (by rw [hpc']), ho.slot, (ho.greg rd).trans ?_, fun r hr => (ho.greg r).trans (Dev.greg_setGreg_ne _ _ _ _ _ _ (.inr hr))⟩
  split
  · next h0 => subst h0; rfl
  · next h0 =>
    rw [Dev.greg_setGreg_same _ _ _ _ (fun hv => h0 (Fin.ext hv)), Nat.mod_eq_of_lt (by omega)]

end

/-! ### Faults of the fetch and of the word fetched -/

section
variable {d : Dev} {e : Fin 48} (h : d.Fetches e)
include h

/-- A branch, whether it links or not, halts in a delay slot before it has any effect (R436). -/
theorem Dev.issue_branchInSlot_effect (hslot : (d.engine e).slot.isSome = true) (r : ZRes) : PairHalt e 3 6 d (d.issue e true r) := by
  rw [Dev.issue_branchInSlot h hslot]
  exact d.zhalt_effect none e.isLt (by omega) (by omega)

theorem Dev.undefinedWord_ecc (w : Nat) : d.undefinedWord e w true = (d.zhalt e 5 (some (d.pc e))).eccEvent 3 := by
  rw [Dev.undefinedWord, if_neg (by rw [h.1]; decide), if_neg (by rw [h.2]; decide)]
  rfl

theorem Dev.undefinedWord_branchInSlot {w : Nat} (hw : ((d.engine e).slot.isSome && zIsBranch w) = true) : d.undefinedWord e w false = d.zhalt e 3 none := by
  rw [Dev.undefinedWord, if_neg (by rw [h.1]; decide), if_neg (by rw [h.2]; decide), if_neg Bool.false_ne_true, if_pos hw]

theorem Dev.undefinedWord_illegal {w : Nat} (hw : ((d.engine e).slot.isSome && zIsBranch w) = false) (hassigned : zAssigned e w = false) :
    d.undefinedWord e w false = d.zhalt e 2 none := by
  rw [Dev.undefinedWord, if_neg (by rw [h.1]; decide), if_neg (by rw [h.2]; decide), if_neg Bool.false_ne_true, if_neg (by rw [hw]; decide),
    if_neg (by rw [hassigned]; decide)]

end

section
variable (e : Fin 49) (rd rs : Fin 32) (off : BitVec 21) (s : State)

theorem exec_bez : exec (.bez e rs off) s = .next (s.on fun d => d.branch e (d.greg e rs == 0) (d.relTarget e off.toNat)) := rfl

theorem exec_bnz : exec (.bnz e rs off) s = .next (s.on fun d => d.branch e (d.greg e rs != 0) (d.relTarget e off.toNat)) := rfl

theorem exec_jr : exec (.jr e rs) s = .next (s.on fun d => d.branch e true (d.greg e rs % 2 ^ 32)) := rfl

theorem exec_jal : exec (.jal e rd off) s = .next (s.on fun d => d.jumpLink e rd (d.relTarget e off.toNat)) := rfl

theorem exec_jalr : exec (.jalr e rd rs) s = .next (s.on fun d => d.jumpLink e rd (d.greg e rs % 2 ^ 32)) := rfl

/-- Each of them issues as a branch, whatever it then does. -/
theorem exec_branches : ∀ x ∈ [Instr.bez e rs off, .bnz e rs off, .jr e rs, .jal e rd off, .jalr e rd rs],
    ∃ r : Dev → ZRes, exec x s = .next (s.on fun d => d.issue e true (r d)) := by
  simp only [List.forall_mem_cons]
  exact ⟨⟨_, exec_bez ..⟩, ⟨_, exec_bnz ..⟩, ⟨_, exec_jr ..⟩, ⟨_, exec_jal ..⟩, ⟨_, exec_jalr ..⟩, by simp⟩

end

theorem exec_undefinedOpcode (e : Fin 49) (w : W32) (ecc : Bool) (s : State) :
    exec (.undefinedOpcode e w ecc) s = .next (s.on fun d => d.undefinedWord e w.toNat ecc) := rfl

section
variable {e : Fin 48} {s : State} (h : s.dev.Fetches e)
include h

theorem exec_branches_inSlot (rd rs : Fin 32) (off : BitVec 21) (hslot : (s.dev.engine e).slot.isSome = true) :
    ∀ x ∈ [Instr.bez ⟨e, by omega⟩ rs off, .bnz ⟨e, by omega⟩ rs off, .jr ⟨e, by omega⟩ rs, .jal ⟨e, by omega⟩ rd off,
        .jalr ⟨e, by omega⟩ rd rs],
      ∃ t, exec x s = .next t ∧ t.dev.get (R.ENG_STATUS_STATE e) = 6 ∧ t.dev.get (R.ENG_STATUS_HALT_CAUSE e) = 3 ∧ t.mem = s.mem ∧
        t.dev.pc e = s.dev.pc e ∧ t.dev.get (R.ENG_STATUS_HALTED e) = 1 ∧ ∀ r, t.dev.greg e r = s.dev.greg e r := by
  intro x hx
  obtain ⟨r, hr⟩ := exec_branches ⟨e, by omega⟩ rd rs off s x hx
  have hh := Dev.issue_branchInSlot_effect h hslot (r s.dev)
  exact ⟨_, hr, hh.state, hh.cause, rfl, hh.pc, hh.halted, hh.gregs⟩

theorem exec_undefinedOpcode_branchInSlot (w : W32) (hslot : (s.dev.engine e).slot.isSome = true) (hw : zIsBranch w.toNat = true) :
    ∃ t, exec (.undefinedOpcode ⟨e, by omega⟩ w false) s = .next t ∧ t.dev.get (R.ENG_STATUS_HALT_CAUSE e) = 3 := by
  refine ⟨_, exec_undefinedOpcode .., ?_⟩
  rw [State.on_dev, Dev.undefinedWord_branchInSlot h (by rw [hslot, hw]; rfl)]
  exact (s.dev.zhalt_effect none e.isLt (by omega) (by omega)).cause

theorem exec_undefinedOpcode_illegal (w : W32) (hw : ((s.dev.engine e).slot.isSome && zIsBranch w.toNat) = false) (hassigned : zAssigned e w.toNat = false) :
    ∃ t, exec (.undefinedOpcode ⟨e, by omega⟩ w false) s = .next t ∧ t.dev.get (R.ENG_STATUS_STATE e) = 6 ∧
      t.dev.get (R.ENG_STATUS_HALT_CAUSE e) = 2 ∧ t.mem = s.mem ∧ t.dev.pc e = s.dev.pc e ∧ ∀ r, t.dev.greg e r = s.dev.greg e r := by
  have hh := s.dev.zhalt_effect (e := e) (cause := 2) none e.isLt (by omega) (by omega)
  refine ⟨_, exec_undefinedOpcode .., ?_⟩
  rw [State.on_dev, Dev.undefinedWord_illegal h hw hassigned]
  exact ⟨hh.state, hh.cause, rfl, hh.pc, hh.gregs⟩

theorem exec_undefinedOpcode_ecc (w : W32) :
    ∃ t, exec (.undefinedOpcode ⟨e, by omega⟩ w true) s = .next t ∧ t.dev.get (R.ENG_STATUS_STATE e) = 6 ∧
      t.dev.get (R.ENG_STATUS_HALT_CAUSE e) = 5 ∧ t.dev.get (R.ENG_FAULT_ADDR e) = s.dev.pc e := by
  have hk := engKeys e
  have hh := s.dev.zhalt_effect (e := e) (cause := 5) (some (s.dev.pc e)) e.isLt (by omega) (by omega)
  have haddr := s.dev.get_zhalt_faultAddr (e := e) (cause := 5) e.isLt (by omega) (by omega) (s.dev.pc_lt e)
  have hecc (g : Fld) (hg : page g = 0x1600 + e) :
      ((s.dev.zhalt e 5 (some (s.dev.pc e))).eccEvent 3).get g = (s.dev.zhalt e 5 (some (s.dev.pc e))).get g := by
    have hsrc : page R.SYS_DIAG_ECC_SRC < 0x1600 := by decide
    have hflag : page R.SYS_DIAG_ECC_UNCORR < 0x1600 := by decide
    rw [page] at hsrc hflag hg
    rw [(Dev.eccEvent_frame ..).get g (block_ne_events_of_page (by rw [page]; omega)), Dev.get_set_ne _ _ _ _ (fun hkey => by rw [hkey] at hg; omega),
      Dev.get_set_ne _ _ _ _ (fun hkey => by rw [hkey] at hg; omega)]
  refine ⟨_, exec_undefinedOpcode .., ?_⟩
  rw [State.on_dev, Dev.undefinedWord_ecc h]
  refine ⟨?_, ?_, ?_⟩
  · rw [hecc _ (by rw [page]; omega), hh.state]
  · rw [hecc _ (by rw [page]; omega), hh.cause]
  · rw [hecc _ (by rw [page]; omega), haddr]

end

/-- A fetch from a bad address halts with ACCESS and the address (R438, R443). -/
theorem Dev.issue_badFetch_effect {d : Dev} {e : Fin 48} (h : d.zReady e = true) (hbad : d.badFetch e = true) (branch : Bool) (r : ZRes) :
    (d.issue e branch r).get (R.ENG_STATUS_STATE e) = 6 ∧ (d.issue e branch r).get (R.ENG_STATUS_HALT_CAUSE e) = 4 ∧
    (d.issue e branch r).get (R.ENG_FAULT_ADDR e) = d.pc e ∧ (d.issue e branch r).pc e = d.pc e := by
  have hh := d.zhalt_effect (e := e) (cause := 4) (some (d.pc e)) e.isLt (by omega) (by omega)
  rw [Dev.issue_badFetch h hbad]
  exact ⟨hh.state, hh.cause, d.get_zhalt_faultAddr e.isLt (by omega) (by omega) (d.pc_lt e), hh.pc⟩

/-- A fault of one engine of a pair halts the other with LOCKSTEP, a mismatch both (R404). -/
theorem Dev.zhalt_pair {d : Dev} {e p cause : Nat} (a : Option Nat) (he : e < 48) (hp : d.partner e = some p) (hcause : cause < 16) :
    (d.zhalt e cause a).get (R.ENG_STATUS_STATE p) = 6 ∧ (d.zhalt e cause a).get (R.ENG_STATUS_HALT_CAUSE p) = 6 ∧
    (d.zhalt e cause a).get (R.ENG_STATUS_HALT_CAUSE e) = cause := by
  obtain ⟨-, hp48, -, hpair⟩ := Dev.partner_spec hp
  by_cases hne : cause = 6
  · have heq : d.zhalt e cause a = d.lsMismatch e (d.pc e) := by unfold Dev.zhalt; rw [if_neg (by omega), if_pos hne]
    rw [heq, hne]
    exact ⟨(d.lsMismatch_halts _ hp48 hpair).1, (d.lsMismatch_halts _ hp48 hpair).2, (d.lsMismatch_halts _ he rfl).2⟩
  · have hh := d.zhalt_effect a he hcause hne
    exact ⟨(hh.partner p hp).1, (hh.partner p hp).2, hh.cause⟩

/-! ### Branches and jumps as commands -/

section
variable {e : Fin 49} {s : State} (h : Issues s e) (hslot : (s.dev.engine e).slot = none)
include h hslot

/-- A command that is a branch without a link. -/
theorem exec_branch {x : Instr} {f : Dev → Dev} {taken : Bool} {dest target : Nat} (hx : exec x s = .next (s.on f))
    (hf : f s.dev = s.dev.branch e taken dest) (hdest : dest < 2 ^ 32) (htarget : (if taken then dest else s.dev.pc e + 8) = target) :
    ∃ t, exec x s = .next t ∧ t.dev.pc e = s.dev.pc e + 4 ∧ (t.dev.engine e).slot = some target ∧ t.mem = s.mem ∧
      (∀ r, t.dev.greg e r = s.dev.greg e r) ∧
      ∀ g : Fld, (∀ k, k = e.val ∨ s.dev.partner e = some k → ∀ f ∈ [R.ENG_PC k, R.ENG_STATUS_STATE k, R.ENG_STATUS_OV k, R.ENG_STATUS_DZ k],
        g.key ≠ f.key) → block g ≠ 3 → t.dev.get g = s.dev.get g := by
  have ho := Dev.branch_effect h hslot taken hdest
  rw [htarget, ← hf] at ho
  exact ⟨_, hx, ho.pc, ho.slot, rfl, ho.greg, ho.get⟩

/-- A command that is a jump with a link. -/
theorem exec_jumpLink {x : Instr} {f : Dev → Dev} {rd : Fin 32} {dest : Nat} (hx : exec x s = .next (s.on f)) (hf : f s.dev = s.dev.jumpLink e rd dest)
    (hdest : dest < 2 ^ 32) :
    ∃ t, exec x s = .next t ∧ t.dev.pc e = s.dev.pc e + 4 ∧ (t.dev.engine e).slot = some dest ∧ t.mem = s.mem ∧
      t.dev.greg e rd = (if rd = 0 then 0 else s.dev.pc e + 8) ∧ ∀ r, r ≠ rd.val → t.dev.greg e r = s.dev.greg e r := by
  obtain ⟨hpc, hopen, hlink, hrest⟩ := hf ▸ Dev.jumpLink_effect h hslot rd hdest
  exact ⟨_, hx, hpc, hopen, rfl, hlink, hrest⟩

end

/-! ### SYNC (R403, R425) -/

/-- Whether a core takes an instruction depends on the registers and on its wait and its delay slot. -/
theorem Dev.zReady_congr {d d' : Dev} {e : Nat} (hregs : d'.regs = d.regs) (hwait : (d'.engine e).wait = (d.engine e).wait)
    (hslot : (d'.engine e).slot = (d.engine e).slot) : d'.zReady e = d.zReady e := by
  have hget := Dev.get_congr hregs
  have hpartner : d'.partner e = d.partner e := Dev.partner_congr (fun g _ => hget g) e
  simp only [Dev.zReady, Dev.engState, Dev.follower, hget, hwait, hslot, hpartner]

theorem Dev.badFetch_congr {d d' : Dev} (h : d'.regs = d.regs) (e : Nat) : d'.badFetch e = d.badFetch e := by
  rw [Dev.badFetch, Dev.pc, Dev.get_congr h, Dev.badFetch, Dev.pc]

theorem State.performed_noneHeld {s : State} {e : Nat} (h : (s.dev.engine e).held = []) : s.performed e = s := by
  rw [State.performed, h]
  rfl

/-- The one store that a pair holds is performed; where it goes to the scratchpad, the bytes are put there. -/
theorem State.performed_scratch {s : State} {e o : Nat} {x : HeldStore} (hheld : (s.dev.engine e).held = [x]) (hbad : x.bad = false)
    (harea : zArea x.addr = .scratch o) :
    s.performed e = { s with mem := Mem.setBytes s.mem (scratchAddr e o) x.bytes,
                             dev := (s.dev.setEngine e { s.dev.engine e with held := [] }).scrStored e o x.bytes.length } := by
  have hrelease : s.performed e = (s.on fun d => d.setEngine e { d.engine e with held := [] }).zStore e x.addr x.bytes := by
    rw [State.performed, hheld]
    simp only [List.length_cons, List.length_nil, State.lsDrain, State.lsRelease, hheld, hbad, Bool.false_eq_true, if_false]
  rw [hrelease, State.zStore, harea]
  rfl

theorem exec_sync (e : Fin 49) (s : State) : exec (.sync e) s = .next ((s.performed e).on (fun d => d.issue e false (.next d))) := rfl

/-- An instruction with no effect of its own retires. -/
theorem zResult_retire {s : State} {e : Nat} (he : e ≤ 48) (hhalt : (s.dev.engine e).haltReq = false) :
    ZResult e 0 0 false false s (s.on fun d => Dev.retire e (.next d)) := by
  have hk := engKeys e
  have hf := Dev.retire_next_effect hhalt
  have hpartner := s.dev.partner_advance e none e he
  have hgreg := Dev.retire_next_greg hhalt
  refine ⟨rfl, rfl, hgreg 0, fun r _ => hgreg r, fun k hp => ?_, fun k hne hp r => ?_, Dev.retire_next_pc hhalt, ?_, fun _ => ⟨?_, ?_⟩,
    fun g hb hg => ?_, ?_⟩
  · obtain ⟨hpc, -, hg⟩ := hf.partner k (hpartner.trans hp)
    exact ⟨hpc.trans hf.pc.symm, fun r => (Dev.greg_congr hg r).trans (hf.greg r).symm⟩
  · exact Dev.greg_congr (((hf.engine k (hpartner ▸ hp)).g).trans (Dev.gregs_advance ..)) r
  · rw [State.on_dev, (Dev.retire_next_engine hhalt).slot, Dev.engine_advance]
    exact ite_self none
  · exact Dev.retire_next_get hhalt _ (by rw [page]; omega) (by omega)
  · exact Dev.retire_next_get hhalt _ (by rw [page]; omega) (by omega)
  · rw [State.on_dev, hf.get g hb fun k hk' => hg k (.inr (hpartner ▸ hk')), Dev.get_advance _ _ _ _ (hg e (.inl rfl) _ (by simp))]
  · rw [State.on_dev, hf.rest, Dev.advance_rest]

section
variable {e : Fin 49} {s : State} (h : Issues s e)
include h

theorem exec_sync_noneHeld (hheld : (s.dev.engine e).held = []) : ∃ t, exec (.sync e) s = .next t ∧ ZResult e 0 0 false false s t := by
  refine ⟨_, exec_sync e s, ?_⟩
  rw [State.performed_noneHeld hheld, State.on, Dev.issue_retires (fetches_of_issues h) false nofun]
  exact zResult_retire (by omega) h.2.2

theorem exec_sync_scratch {x : HeldStore} (hheld : (s.dev.engine e).held = [x]) (hbad : x.bad = false)
    (harea : zArea x.addr = .scratch (x.addr - 0x10000000)) :
    ∃ t, exec (.sync e) s = .next t ∧ t.mem = Mem.setBytes s.mem (engBase e + 0x10000 + (x.addr - 0x10000000)) x.bytes ∧
      (t.dev.engine e).held = [] ∧ t.dev.pc e = (s.dev.engine e).slot.getD (s.dev.pc e + 4) % 2 ^ 32 := by
  generalize hd : (s.dev.setEngine e { s.dev.engine e with held := [] }).scrStored e (x.addr - 0x10000000) x.bytes.length = d
  have hregs : d.regs = s.dev.regs := by rw [← hd]; rfl
  have heng : d.engine e = { s.dev.engine e with held := [], scrAt := (d.engine e).scrAt, scr := (d.engine e).scr } := by
    rw [← hd, Dev.scrStored, Dev.engine_setEngine_same, Dev.engine_setEngine_same]
  have hfetch : d.Fetches e :=
    ⟨(Dev.zReady_congr hregs (by rw [heng]) (by rw [heng])).trans h.1, (Dev.badFetch_congr hregs e).trans h.2.1⟩
  have hhalt : (d.engine e).haltReq = false := by rw [heng]; exact h.2.2
  refine ⟨_, exec_sync e s, ?_⟩
  rw [State.performed_scratch hheld hbad harea, hd, State.on, Dev.issue_retires hfetch false nofun]
  refine ⟨rfl, ?_, ?_⟩
  · rw [(Dev.retire_next_engine hhalt).held, Dev.engine_advance, heng]
  · rw [Dev.retire_next_pc hhalt, heng, Dev.pc, Dev.get_congr hregs, Dev.pc]

end

/-- Settles O35: branches and jumps by where they open their delay slot, the faults by the halt of the engine and its partner, SYNC by the stores that are
held; each clause by its lemma. -/
theorem zhofaBranches : Obligations.ZhofaBranches := by
  refine ⟨fun e rs off dest s h hslot hdest => ?_, fun e rd rs off dest s h hslot hdest => ?_,
    fun e rd rs off w s hready hfetch hslot =>
      ⟨exec_branches_inSlot ⟨hready, hfetch⟩ rd rs off hslot, exec_undefinedOpcode_branchInSlot ⟨hready, hfetch⟩ w hslot⟩,
    fun e w s hready hfetch => exec_undefinedOpcode_illegal ⟨hready, hfetch⟩ w,
    fun e w s hready hfetch => exec_undefinedOpcode_ecc ⟨hready, hfetch⟩ w,
    fun d e branch r h hbad => Dev.issue_badFetch_effect h hbad branch r,
    fun d e branch r h => Dev.issue_idle h branch r,
    fun d e p a cause he hp hcause => Dev.zhalt_pair a he hp hcause,
    exec_sync, fun e s h => exec_sync_noneHeld h, fun e s x h => exec_sync_scratch h⟩
  · rw [← Dev.relTarget_eq] at hdest
    subst hdest
    have hreg : s.dev.greg e rs % 2 ^ 32 < 2 ^ 32 := Nat.mod_lt _ (Nat.two_pow_pos 32)
    refine ⟨exec_branch h hslot (exec_bez ..) rfl (Dev.relTarget_lt ..) ?_, exec_branch h hslot (exec_bnz ..) rfl (Dev.relTarget_lt ..) ?_,
      exec_branch h hslot (exec_jr ..) rfl hreg (if_pos rfl)⟩
    · simp only [beq_iff_eq]
    · by_cases h0 : s.dev.greg e rs = 0 <;> simp [h0]
  · rw [← Dev.relTarget_eq] at hdest
    subst hdest
    exact ⟨exec_jumpLink h hslot (exec_jal ..) rfl (Dev.relTarget_lt ..), exec_jumpLink h hslot (exec_jalr ..) rfl (Nat.mod_lt _ (Nat.two_pow_pos 32))⟩

end Sys2Proof.Machine
end

section
/-! PROOFS. The instructions of the Zhofa cores that write one general register (R402, R420, R435), and the arithmetic, shift, product, division and
immediate groups (R430 to R433). -/

namespace Sys2Proof.Machine
open Sys2Proof Sys2Proof.Safety

/-! ### An instruction that writes one general register -/

/-- What an instruction of core `e` does before it retires: g`rd` holds `v`, OV and DZ are set as said, and nothing else changes but what an event does. -/
structure WritesReg (e rd v : Nat) (ov dz : Bool) (d d' : Dev) : Prop where
  greg : d'.greg e rd = if rd = 0 then 0 else v
  gregs : ∀ k r, k ≠ e ∨ r ≠ rd → d'.greg k r = d.greg k r
  slot : (d'.engine e).slot = (d.engine e).slot
  haltReq : (d'.engine e).haltReq = (d.engine e).haltReq
  flags : e < 48 → d'.get (R.ENG_STATUS_OV e) = (if ov then 1 else d.get (R.ENG_STATUS_OV e)) ∧
    d'.get (R.ENG_STATUS_DZ e) = (if dz then 1 else d.get (R.ENG_STATUS_DZ e))
  get : ∀ g, block g ≠ 3 → g.key ≠ (R.ENG_STATUS_OV e).key → g.key ≠ (R.ENG_STATUS_DZ e).key → d'.get g = d.get g
  rest : d' = { d with regs := d'.regs, eng := d'.eng, out := d'.out, pwr := d'.pwr }

/-- Such an instruction retires with its result. -/
theorem WritesReg.zResult {s : State} {e rd v : Nat} {ov dz : Bool} {d : Dev} (h : WritesReg e rd v ov dz s.dev d) (he : e ≤ 48)
    (hhalt : (s.dev.engine e).haltReq = false) : ZResult e rd v ov dz s { s with dev := Dev.retire e (.next d) } := by
  have hk := engKeys e
  have hhalt' := h.haltReq.trans hhalt
  obtain ⟨-, -, -, -, hpairs, hothers, hpc, hslot, hflags, hget, hrest⟩ := zResult_retire (s := { s with dev := d }) he hhalt'
  have hgreg := Dev.retire_next_greg hhalt'
  have hpartner : d.partner e = s.dev.partner e :=
    Dev.partner_congr (fun g hg => h.get g (block_ne_events_of_page (by omega)) (by rw [page] at hg; omega) (by rw [page] at hg; omega)) e
  have hpcEq : d.pc e = s.dev.pc e := h.get _ (by rw [block]; omega) (by omega) (by omega)
  dsimp only [State.on_dev] at hpairs hothers hpc hslot hflags hget hrest
  rw [hpartner] at hpairs hothers hget
  refine ⟨rfl, rfl, (hgreg rd).trans h.greg, fun r hr => (hgreg r).trans (h.gregs e r (.inr hr)), hpairs,
    fun k hne hp r => (hothers k hne hp r).trans (h.gregs k r (.inl hne)), ?_, hslot, fun hlt => ?_, fun g hb hg => ?_, ?_⟩
  · rw [hpc, h.slot, hpcEq]
  · exact ⟨(hflags hlt).1.trans (h.flags hlt).1, (hflags hlt).2.trans (h.flags hlt).2⟩
  · exact (hget g hb hg).trans (h.get g hb (hg e (.inl rfl) _ (by simp)) (hg e (.inl rfl) _ (by simp)))
  · dsimp only
    rw [hrest, h.rest]

theorem Dev.setGreg_rest (d : Dev) (e r v : Nat) : d.setGreg e r v = { d with eng := (d.setGreg e r v).eng } := by
  unfold Dev.setGreg
  split <;> rfl

/-- A value of 40 bits written to g`rd`, and no flag. -/
theorem WritesReg.setGreg (d : Dev) {e rd v : Nat} (hv : v < 2 ^ 40) : WritesReg e rd v false false d (d.setGreg e rd v) := by
  refine ⟨?_, fun k r h => Dev.greg_setGreg_ne _ _ _ _ _ _ h, ?_, ?_, fun _ => ⟨Dev.get_setGreg .., Dev.get_setGreg ..⟩,
    fun g _ _ _ => Dev.get_setGreg .., ?_⟩
  · split
    · next h => rw [h]; rfl
    · next h => rw [Dev.greg_setGreg_same _ _ _ _ h, Nat.mod_eq_of_lt hv]
  · rw [Dev.engine_setGreg]
  · rw [Dev.engine_setGreg]
  · rw [Dev.setGreg_rest]

/-! ### The sticky flags (R420) -/

/-- The device with OV and DZ of a core raised as said. -/
def Dev.raised (d : Dev) (e : Nat) (ov dz : Bool) : Dev :=
  let d1 := if ov then d.setOv e else d
  if dz then d1.setDz e else d1

theorem Dev.get_setOv (d : Dev) {e : Nat} (he : e < 48) :
    (d.setOv e).get (R.ENG_STATUS_OV e) = 1 ∧ (d.setOv e).get (R.ENG_STATUS_DZ e) = d.get (R.ENG_STATUS_DZ e) := by
  have hk := engKeys e
  rw [Dev.setOv, if_pos he]
  exact ⟨Dev.cause_get_same _ _ _ _ (by omega) (by rw [block]; omega), Dev.cause_get_ne _ _ _ _ _ (by omega) (by rw [block]; omega) (by omega)⟩

theorem Dev.get_setDz (d : Dev) {e : Nat} (he : e < 48) :
    (d.setDz e).get (R.ENG_STATUS_DZ e) = 1 ∧ (d.setDz e).get (R.ENG_STATUS_OV e) = d.get (R.ENG_STATUS_OV e) := by
  have hk := engKeys e
  rw [Dev.setDz, if_pos he]
  exact ⟨Dev.cause_get_same _ _ _ _ (by omega) (by rw [block]; omega), Dev.cause_get_ne _ _ _ _ _ (by omega) (by rw [block]; omega) (by omega)⟩

theorem Dev.get_raised (d : Dev) {e : Nat} (he : e < 48) (ov dz : Bool) :
    (d.raised e ov dz).get (R.ENG_STATUS_OV e) = (if ov then 1 else d.get (R.ENG_STATUS_OV e)) ∧
    (d.raised e ov dz).get (R.ENG_STATUS_DZ e) = (if dz then 1 else d.get (R.ENG_STATUS_DZ e)) := by
  cases ov <;> cases dz <;> simp [Dev.raised, Dev.get_setOv, Dev.get_setDz, he]

theorem FlagFrame.raised (d : Dev) (e : Nat) (ov dz : Bool) : FlagFrame e d (d.raised e ov dz) := by
  have hov (d : Dev) : FlagFrame e d (d.setOv e) := by
    by_cases he : e < 48
    · exact .setOv d he
    · rw [Dev.setOv, if_neg he]; exact .refl e d
  have hdz (d : Dev) : FlagFrame e d (d.setDz e) := by
    by_cases he : e < 48
    · exact .setDz d he
    · rw [Dev.setDz, if_neg he]; exact .refl e d
  cases ov <;> cases dz
  · exact .refl e d
  · exact hdz d
  · exact hov d
  · exact (hov d).trans (hdz _)

/-- Flags raised before a register is written. -/
theorem WritesReg.of_flags {e rd v : Nat} {ov dz : Bool} {d d1 d2 : Dev} (hf : FlagFrame e d d1)
    (hflags : e < 48 → d1.get (R.ENG_STATUS_OV e) = (if ov then 1 else d.get (R.ENG_STATUS_OV e)) ∧
      d1.get (R.ENG_STATUS_DZ e) = (if dz then 1 else d.get (R.ENG_STATUS_DZ e)))
    (hw : WritesReg e rd v false false d1 d2) : WritesReg e rd v ov dz d d2 :=
  ⟨hw.greg, fun k r h => (hw.gregs k r h).trans (Dev.greg_congr (hf.engine k).g r), hw.slot.trans (hf.engine e).slot,
    hw.haltReq.trans (hf.engine e).haltReq, fun he => ⟨(hw.flags he).1.trans (hflags he).1, (hw.flags he).2.trans (hflags he).2⟩,
    fun g hb ho hz => (hw.get g hb ho hz).trans (hf.get g hb ho hz), by rw [hw.rest, hf.rest]⟩

/-- An arithmetic result: its flags, then its register. -/
theorem WritesReg.aluDone (d : Dev) {e rd v : Nat} {ov dz : Bool} (hv : v < 2 ^ 40) : WritesReg e rd v ov dz d (d.aluDone e rd ⟨v, ov, dz⟩) :=
  .of_flags (.raised d e ov dz) (fun he => d.get_raised he ov dz) (.setGreg (d.raised e ov dz) hv)

/-- An arithmetic instruction writes its value and sets its flags. -/
theorem exec_alu {e : Fin 49} {rd : Fin 32} {s : State} (h : Issues s e) {x : Instr} {y : Dev → AluOut} {v : Nat} {ov dz : Bool}
    (hx : exec x s = .next (s.on fun d => d.alu e rd (y d))) (hy : y s.dev = ⟨v, ov, dz⟩) (hv : v < 2 ^ 40) :
    ∃ t, exec x s = .next t ∧ ZResult e rd v ov dz s t := by
  refine ⟨_, hx, ?_⟩
  rw [State.on, hy, Dev.alu, Dev.issue_retires (fetches_of_issues h) false nofun]
  exact (WritesReg.aluDone s.dev hv).zResult (by omega) h.2.2

end Sys2Proof.Machine
end

section
/-! PROOFS. The values of the arithmetic, shift, product, division and immediate groups (R430 to R433). -/

namespace Sys2Proof.Machine
open Sys2Proof Sys2Proof.Safety

/-! ### Registers as signed and unsigned numbers (R419) -/

theorem Dev.greg_lt (d : Dev) (e r : Nat) : d.greg e r < 2 ^ 40 := by
  rw [Dev.greg]
  split
  · exact Nat.two_pow_pos 40
  · exact Nat.mod_lt _ (Nat.two_pow_pos 40)

theorem wrap40_lt (i : Int) : wrap40 i < 2 ^ 40 := ofSigned_lt 40 i

theorem wrap40_natCast {v : Nat} (h : v < 2 ^ 40) : wrap40 v = v := by
  rw [wrap40, ofSigned]
  omega

theorem S40_range (a : Nat) : min40 ≤ S40 a ∧ S40 a ≤ max40 := by
  rw [S40, toSigned, min40, max40]
  split <;> omega

/-- The patterns of the least and of the greatest number. -/
theorem wrap40_min : wrap40 min40 = 2 ^ 39 := by decide
theorem wrap40_max : wrap40 max40 = 2 ^ 39 - 1 := by decide

/-! ### Saturation (R419, R420) -/

section
variable {i : Int}

theorem sat40_inRange (hlo : -549755813888 ≤ i) (hhi : i ≤ 549755813887) : sat40 i = ⟨wrap40 i, false, false⟩ := by
  rw [sat40, if_neg (by rw [min40]; omega), if_neg (by rw [max40]; omega)]

theorem sat40_below (h : i < -549755813888) : sat40 i = ⟨2 ^ 39, true, false⟩ := by
  rw [sat40, if_pos (by rw [min40]; omega), wrap40_min]

theorem sat40_above (h : 549755813887 < i) : sat40 i = ⟨2 ^ 39 - 1, true, false⟩ := by
  rw [sat40, if_neg (by rw [min40]; omega), if_pos (by rw [max40]; omega), wrap40_max]

end

theorem zNeg_inRange {a : Nat} (h : -(S40 a) ≤ 549755813887) : zNeg a = ⟨wrap40 (-(S40 a)), false, false⟩ :=
  if_neg (by rw [min40]; omega)

theorem zNeg_least {a : Nat} (h : S40 a = -549755813888) : zNeg a = ⟨2 ^ 39, true, false⟩ := (if_pos h).trans (by rw [wrap40_min])

theorem zAbs_inRange {a : Nat} (h : ((S40 a).natAbs : Int) ≤ 549755813887) : zAbs a = ⟨wrap40 ((S40 a).natAbs : Int), false, false⟩ := by
  rw [wrap40_natCast (by omega)]
  exact if_neg (by rw [min40]; omega)

theorem zAbs_least {a : Nat} (h : S40 a = -549755813888) : zAbs a = ⟨2 ^ 39, true, false⟩ := (if_pos h).trans (by rw [wrap40_min])

/-! ### The ALU group (R430) -/

theorem flag40_decide (p : Prop) [Decidable p] : flag40 (decide p) = ⟨if p then 1 else 0, false, false⟩ := by
  simp only [flag40, decide_eq_true_eq]

theorem ite_lt_two_pow {a b : Nat} (p : Prop) [Decidable p] (ha : a < 2 ^ 40) (hb : b < 2 ^ 40) : (if p then a else b) < 2 ^ 40 := by
  split
  · exact ha
  · exact hb

theorem zNor_eq {a b : Nat} (ha : a < 2 ^ 40) (hb : b < 2 ^ 40) : zNor a b = ⟨2 ^ 40 - 1 - (a ||| b), false, false⟩ := by
  rw [zNor, Nat.mod_eq_of_lt (Nat.or_lt_two_pow ha hb)]

theorem zMinu_eq (a b : Nat) : zMinu a b = ⟨min a b, false, false⟩ := by
  rw [zMinu, AluOut.mk.injEq]
  exact ⟨by split <;> omega, rfl, rfl⟩

theorem zMaxu_eq (a b : Nat) : zMaxu a b = ⟨max a b, false, false⟩ := by
  rw [zMaxu, AluOut.mk.injEq]
  exact ⟨by split <;> omega, rfl, rfl⟩

theorem zCeq_eq (a b : Nat) : zCeq a b = ⟨if a = b then 1 else 0, false, false⟩ := flag40_decide (a = b)

theorem zCne_eq (a b : Nat) : zCne a b = ⟨if a = b then 0 else 1, false, false⟩ := by
  by_cases h : a = b <;> simp [zCne, flag40, h]

/-- A pattern of `w` bits extended by its sign. -/
theorem sx40_eq (w a : Nat) : sx40 w a = wrap40 (BitVec.ofNat w a).toInt := by rw [sx40, toSigned_eq_toInt]

theorem zSext8_eq (a : Nat) : zSext8 a = ⟨wrap40 (BitVec.ofNat 8 a).toInt, false, false⟩ := by rw [zSext8, sx40_eq]
theorem zSext16_eq (a : Nat) : zSext16 a = ⟨wrap40 (BitVec.ofNat 16 a).toInt, false, false⟩ := by rw [zSext16, sx40_eq]
theorem zSext32_eq (a : Nat) : zSext32 a = ⟨wrap40 (BitVec.ofNat 32 a).toInt, false, false⟩ := by rw [zSext32, sx40_eq]

/-! ### Shifts (R431) -/

theorem div_two_pow_of_le {a b : Nat} (ha : a < 2 ^ 40) (hb : 40 ≤ b) : a / 2 ^ b = 0 :=
  Nat.div_eq_of_lt (Nat.lt_of_lt_of_le ha (Nat.pow_le_pow_right (by omega) hb))

theorem zSrl_eq {a : Nat} (ha : a < 2 ^ 40) (b : Nat) : zSrl a b = ⟨a / 2 ^ b, false, false⟩ := by
  rw [zSrl]
  split
  · next hb => rw [div_two_pow_of_le ha hb]
  · rfl

/-- A shift of all 40 bits and more leaves copies of the sign. -/
theorem zSra_eq (a b : Nat) : zSra a b = ⟨wrap40 (S40 a / (2 ^ b : Nat)), false, false⟩ := by
  rw [zSra]
  split
  · next hb =>
    have hpow : 2 ^ 40 ≤ 2 ^ b := Nat.pow_le_pow_right (by omega) hb
    obtain ⟨hlo, hhi⟩ := S40_range a
    rw [min40] at hlo
    rw [max40] at hhi
    split
    · next hneg =>
      have hquot : S40 a / (2 ^ b : Nat) = -1 := by
        rw [Int.ediv_eq_iff_of_pos (by omega)]
        omega
      rw [hquot]
      rfl
    · rw [Int.ediv_eq_zero_of_lt (by omega) (by omega)]
      rfl
  · rfl

/-- The two parts of a rotated pattern do not overlap. -/
theorem rotl40_eq {a k : Nat} (ha : a < 2 ^ 40) (hk : k ≤ 40) : rotl40 a k = a <<< k % 2 ^ 40 ||| a >>> (40 - k) := by
  have hlow : a / 2 ^ (40 - k) < 2 ^ k := Nat.div_lt_of_lt_mul (by rwa [← Nat.pow_add, Nat.sub_add_cancel hk])
  have hhigh : a * 2 ^ k % 2 ^ 40 = 2 ^ k * (a % 2 ^ (40 - k)) := by
    rw [Nat.mul_comm, ← Nat.mul_mod_mul_left, ← Nat.pow_add, Nat.add_sub_cancel' hk]
  rw [rotl40, Nat.shiftLeft_eq, Nat.shiftRight_eq_div_pow, hhigh, Nat.two_pow_add_eq_or_of_lt hlow]

theorem zRol_eq {a : Nat} (ha : a < 2 ^ 40) (b : Nat) : zRol a b = ⟨((BitVec.ofNat 40 a).rotateLeft (b % 40)).toNat, false, false⟩ := by
  have hb : b % 40 < 40 := Nat.mod_lt _ (by omega)
  rw [zRol, rotl40_eq ha (by omega), BitVec.toNat_rotateLeft, BitVec.toNat_ofNat, Nat.mod_eq_of_lt ha, Nat.mod_mod]

/-- A rotation right is one left by the other places. -/
theorem zRor_eq {a : Nat} (ha : a < 2 ^ 40) (b : Nat) : zRor a b = ⟨((BitVec.ofNat 40 a).rotateRight (b % 40)).toNat, false, false⟩ := by
  have hb : b % 40 < 40 := Nat.mod_lt _ (by omega)
  rw [zRor, BitVec.toNat_rotateRight, BitVec.toNat_ofNat, Nat.mod_eq_of_lt ha, Nat.mod_mod]
  split
  · next h0 =>
    rw [h0, Nat.sub_zero, Nat.shiftLeft_eq, Nat.mul_mod_left, Nat.or_zero]
    rfl
  · rw [rotl40_eq ha (by omega), show 40 - (40 - b % 40) = b % 40 by omega, Nat.or_comm]

/-! ### Products and divisions (R432) -/

theorem zMac16_eq (c a b : Nat) : zMac16 c a b = ⟨wrap40 (S40 c + (BitVec.ofNat 16 a).toInt * (BitVec.ofNat 16 b).toInt), false, false⟩ := by
  rw [zMac16, toSigned_eq_toInt, toSigned_eq_toInt]

theorem zMacs16_eq (c a b : Nat) : zMacs16 c a b = sat40 (S40 c + (BitVec.ofNat 16 a).toInt * (BitVec.ofNat 16 b).toInt) := by
  rw [zMacs16, toSigned_eq_toInt, toSigned_eq_toInt]

theorem mulhu_lt {a b : Nat} (ha : a < 2 ^ 40) (hb : b < 2 ^ 40) : a * b / 2 ^ 40 < 2 ^ 40 := Nat.div_lt_of_lt_mul (Nat.mul_lt_mul'' ha hb)

section
variable {a b : Nat}

theorem zDiv_zero (h : b = 0) : zDiv a b = ⟨2 ^ 40 - 1, false, true⟩ := if_pos h
theorem zDivu_zero (h : b = 0) : zDivu a b = ⟨2 ^ 40 - 1, false, true⟩ := if_pos h
theorem zRem_zero (h : b = 0) : zRem a b = ⟨a, false, true⟩ := if_pos h
theorem zRemu_zero (h : b = 0) : zRemu a b = ⟨a, false, true⟩ := if_pos h

theorem zDivu_eq (h : b ≠ 0) : zDivu a b = ⟨a / b, false, false⟩ := if_neg h
theorem zRemu_eq (h : b ≠ 0) : zRemu a b = ⟨a % b, false, false⟩ := if_neg h

/-- A divisor of value −1 is not 0. -/
theorem ne_zero_of_S40_eq (h : S40 b = -1) : b ≠ 0 := by
  rintro rfl
  exact absurd h (by decide)

theorem zDiv_overflow (ha : S40 a = -549755813888) (hb : S40 b = -1) : zDiv a b = ⟨2 ^ 39, true, false⟩ := by
  rw [zDiv, if_neg (ne_zero_of_S40_eq hb), if_pos ⟨ha, hb⟩, wrap40_min]

theorem zRem_overflow (ha : S40 a = -549755813888) (hb : S40 b = -1) : zRem a b = ⟨0, true, false⟩ := by
  rw [zRem, if_neg (ne_zero_of_S40_eq hb), if_pos ⟨ha, hb⟩]

theorem zDiv_eq (hb : b ≠ 0) (h : S40 a ≠ -549755813888 ∨ S40 b ≠ -1) : zDiv a b = ⟨wrap40 ((S40 a).tdiv (S40 b)), false, false⟩ :=
  (if_neg hb).trans (if_neg fun hover => h.elim (· hover.1) (· hover.2))

theorem zRem_eq (hb : b ≠ 0) (h : S40 a ≠ -549755813888 ∨ S40 b ≠ -1) :
    zRem a b = ⟨wrap40 (S40 a - (S40 a).tdiv (S40 b) * S40 b), false, false⟩ := by
  rw [Int.mul_comm, ← Int.tmod_def]
  exact (if_neg hb).trans (if_neg fun hover => h.elim (· hover.1) (· hover.2))

end

/-! ### Immediates (R433) -/

section
variable (a : Nat) (i : BitVec 16)

theorem toSigned_toNat {w : Nat} (x : BitVec w) : toSigned w x.toNat = x.toInt := by
  rw [toSigned_eq_toInt, BitVec.ofNat_toNat, BitVec.setWidth_eq]

theorem zAddi_eq : zAddi a i.toNat = ⟨wrap40 (S40 a + i.toInt), false, false⟩ := by rw [zAddi, toSigned_toNat]

theorem zAddis_eq : zAddis a i.toNat = sat40 (S40 a + i.toInt) := by rw [zAddis, toSigned_toNat]

theorem zClti_eq : zClti a i.toNat = ⟨if S40 a < i.toInt then 1 else 0, false, false⟩ := by rw [zClti, toSigned_toNat, flag40_decide]

theorem zCltiu_eq : zCltiu a i.toNat = ⟨if a < wrap40 i.toInt then 1 else 0, false, false⟩ := by rw [zCltiu, sx40, toSigned_toNat, flag40_decide]

theorem zCeqi_eq : zCeqi a i.toNat = ⟨if a = wrap40 i.toInt then 1 else 0, false, false⟩ := by
  rw [zCeqi, sx40, toSigned_toNat]
  exact flag40_decide _

theorem zMovh_eq (j : BitVec 21) : zMovh j.toNat = ⟨wrap40 (j.toInt * 2 ^ 16), false, false⟩ := by
  rw [zMovh, toSigned_toNat]
  rfl

theorem zTopi_eq (k : Byte) : zTopi a k.toNat = ⟨k.toNat * 2 ^ 32 + a % 2 ^ 32, false, false⟩ := by
  rw [zTopi, Nat.mod_eq_of_lt k.isLt]

theorem topi_lt (k : Byte) : k.toNat * 2 ^ 32 + a % 2 ^ 32 < 2 ^ 40 := by
  have hk := k.isLt
  have ha := Nat.mod_lt a (Nat.two_pow_pos 32)
  omega

end

/-- Settles O34: each instruction is an arithmetic one (`exec_alu`), its value by the lemma about it (or by definition), and that value has 40 bits. -/
theorem zhofaArithmetic : Obligations.ZhofaArithmetic := by
  have h1 : 1 < 2 ^ 40 := by decide
  have h0 : 0 < 2 ^ 40 := by decide
  have hleast : 2 ^ 39 < 2 ^ 40 := by decide
  have hgreatest : 2 ^ 39 - 1 < 2 ^ 40 := by decide
  have hones : 2 ^ 40 - 1 < 2 ^ 40 := by decide
  refine ⟨?_, ?_, ?_⟩
  · rintro e rd rs rt s a b c h rfl rfl rfl
    have ha := s.dev.greg_lt e rs
    have hb := s.dev.greg_lt e rt
    exact ⟨-- ADD, SUB and the bitwise instructions
      exec_alu h rfl rfl (wrap40_lt _),
      exec_alu h rfl rfl (wrap40_lt _),
      exec_alu h rfl rfl (Nat.and_lt_two_pow _ hb),
      exec_alu h rfl rfl (Nat.or_lt_two_pow ha hb),
      exec_alu h rfl rfl (Nat.xor_lt_two_pow ha hb),
      exec_alu h rfl (zNor_eq ha hb) (by omega),
      -- the smaller and the larger, and the comparisons
      exec_alu h rfl rfl (ite_lt_two_pow _ ha hb),
      exec_alu h rfl rfl (ite_lt_two_pow _ ha hb),
      exec_alu h rfl (zMinu_eq ..) (by omega),
      exec_alu h rfl (zMaxu_eq ..) (by omega),
      exec_alu h rfl (flag40_decide _) (ite_lt_two_pow _ h1 h0),
      exec_alu h rfl (flag40_decide _) (ite_lt_two_pow _ h1 h0),
      exec_alu h rfl (flag40_decide _) (ite_lt_two_pow _ h1 h0),
      exec_alu h rfl (flag40_decide _) (ite_lt_two_pow _ h1 h0),
      exec_alu h rfl (zCeq_eq ..) (ite_lt_two_pow _ h1 h0),
      exec_alu h rfl (zCne_eq ..) (ite_lt_two_pow _ h0 h1),
      -- extensions
      exec_alu h rfl rfl (Nat.lt_trans (Nat.mod_lt _ (Nat.two_pow_pos 32)) (by decide)),
      exec_alu h rfl (zSext8_eq _) (wrap40_lt _),
      exec_alu h rfl (zSext16_eq _) (wrap40_lt _),
      exec_alu h rfl (zSext32_eq _) (wrap40_lt _),
      -- shifts and rotations
      exec_alu h rfl rfl (ite_lt_two_pow _ h0 (Nat.mod_lt _ (Nat.two_pow_pos 40))),
      exec_alu h rfl (zSrl_eq ha _) (Nat.lt_of_le_of_lt (Nat.div_le_self ..) ha),
      exec_alu h rfl (zSra_eq ..) (wrap40_lt _),
      exec_alu h rfl (zRol_eq ha _) (BitVec.isLt _),
      exec_alu h rfl (zRor_eq ha _) (BitVec.isLt _),
      -- products
      exec_alu h rfl rfl (wrap40_lt _),
      exec_alu h rfl rfl (wrap40_lt _),
      exec_alu h rfl rfl (mulhu_lt ha hb),
      exec_alu h rfl rfl (wrap40_lt _),
      exec_alu h rfl (zMac16_eq ..) (wrap40_lt _),
      -- saturating instructions whose result is in range
      fun hlo hhi => exec_alu h rfl (sat40_inRange hlo hhi) (wrap40_lt _),
      fun hlo hhi => exec_alu h rfl (sat40_inRange hlo hhi) (wrap40_lt _),
      fun hlo hhi => exec_alu h rfl (sat40_inRange hlo hhi) (wrap40_lt _),
      fun hlo hhi => exec_alu h rfl (sat40_inRange hlo hhi) (wrap40_lt _),
      fun _ hhi => exec_alu h rfl (zNeg_inRange hhi) (wrap40_lt _),
      fun _ hhi => exec_alu h rfl (zAbs_inRange hhi) (wrap40_lt _),
      fun hlo hhi => exec_alu h rfl ((zMacs16_eq ..).trans (sat40_inRange hlo hhi)) (wrap40_lt _),
      -- those that saturate
      fun hlo => exec_alu h rfl (sat40_below hlo) hleast,
      fun hhi => exec_alu h rfl (sat40_above hhi) hgreatest,
      fun hlo => exec_alu h rfl (sat40_below hlo) hleast,
      fun hhi => exec_alu h rfl (sat40_above hhi) hgreatest,
      fun hlo => exec_alu h rfl (sat40_below hlo) hleast,
      fun hhi => exec_alu h rfl (sat40_above hhi) hgreatest,
      fun hlo => exec_alu h rfl (sat40_below hlo) hleast,
      fun hhi => exec_alu h rfl (sat40_above hhi) hgreatest,
      fun hlo => exec_alu h rfl ((zMacs16_eq ..).trans (sat40_below hlo)) hleast,
      fun hhi => exec_alu h rfl ((zMacs16_eq ..).trans (sat40_above hhi)) hgreatest,
      fun hmin => exec_alu h rfl (zNeg_least hmin) hleast,
      fun hmin => exec_alu h rfl (zAbs_least hmin) hleast,
      -- divisions by 0, then the others
      fun hz => exec_alu h rfl (zDiv_zero hz) hones,
      fun hz => exec_alu h rfl (zDivu_zero hz) hones,
      fun hz => exec_alu h rfl (zRem_zero hz) ha,
      fun hz => exec_alu h rfl (zRemu_zero hz) ha,
      fun hnz => exec_alu h rfl (zDivu_eq hnz) (Nat.lt_of_le_of_lt (Nat.div_le_self ..) ha),
      fun hnz => exec_alu h rfl (zRemu_eq hnz) (Nat.lt_of_le_of_lt (Nat.mod_le ..) ha),
      fun hmin hneg => exec_alu h rfl (zDiv_overflow hmin hneg) hleast,
      fun hmin hneg => exec_alu h rfl (zRem_overflow hmin hneg) h0,
      fun hnz hfit => exec_alu h rfl (zDiv_eq hnz hfit) (wrap40_lt _),
      fun hnz hfit => exec_alu h rfl (zRem_eq hnz hfit) (wrap40_lt _)⟩
  · rintro e rd rs n s a h rfl
    have ha := s.dev.greg_lt e rs
    exact ⟨exec_alu h rfl rfl (ite_lt_two_pow _ h0 (Nat.mod_lt _ (Nat.two_pow_pos 40))),
      exec_alu h rfl (zSrl_eq ha _) (Nat.lt_of_le_of_lt (Nat.div_le_self ..) ha),
      exec_alu h rfl (zSra_eq ..) (wrap40_lt _),
      exec_alu h rfl (zRol_eq ha _) (BitVec.isLt _),
      exec_alu h rfl (zRor_eq ha _) (BitVec.isLt _)⟩
  · rintro e rd rs i j k s a h rfl
    have ha := s.dev.greg_lt e rs
    have hi : i.toNat < 2 ^ 40 := Nat.lt_trans i.isLt (by decide)
    exact ⟨exec_alu h rfl (zAddi_eq ..) (wrap40_lt _),
      exec_alu h rfl rfl (Nat.and_lt_two_pow _ hi),
      exec_alu h rfl rfl (Nat.or_lt_two_pow ha hi),
      exec_alu h rfl rfl (Nat.xor_lt_two_pow ha hi),
      exec_alu h rfl (zMovh_eq ..) (wrap40_lt _),
      exec_alu h rfl (zTopi_eq ..) (topi_lt ..),
      exec_alu h rfl (zClti_eq ..) (ite_lt_two_pow _ h1 h0),
      exec_alu h rfl (zCltiu_eq ..) (ite_lt_two_pow _ h1 h0),
      exec_alu h rfl (zCeqi_eq ..) (ite_lt_two_pow _ h1 h0),
      fun hlo hhi => exec_alu h rfl ((zAddis_eq ..).trans (sat40_inRange hlo hhi)) (wrap40_lt _),
      fun hlo => exec_alu h rfl ((zAddis_eq ..).trans (sat40_below hlo)) hleast,
      fun hhi => exec_alu h rfl ((zAddis_eq ..).trans (sat40_above hhi)) hgreatest⟩

end Sys2Proof.Machine
end

section
/-! PROOFS. The loads of the Zhofa cores: their addresses, what they read from the scratchpad and from Orchard, and how those that are forbidden or meet an
uncorrectable error halt (R388 to R390, R422, R423, R442, R467). -/

namespace Sys2Proof.Machine
open Sys2Proof Sys2Proof.Safety

/-! ### Addresses (R388, R422) -/

theorem Dev.ea_eq (d : Dev) (e rs : Nat) (imm : BitVec 16) : (d.ea e rs imm : Int) = ((d.greg e rs : Int) + imm.toInt) % 2 ^ 32 := by
  have hg := d.greg_lt e rs
  rw [Dev.ea, wrap40, ofSigned, S40, toSigned, Nat.mod_eq_of_lt hg]
  split <;> omega

theorem Dev.ea_lt (d : Dev) (e rs : Nat) (imm : BitVec 16) : d.ea e rs imm < 2 ^ 32 := Nat.mod_lt _ (Nat.two_pow_pos 32)

theorem zArea_scratch {o : Nat} (ho : o < 0x8000) : zArea (0x10000000 + o) = .scratch o := by
  rw [zArea, if_pos (by omega), Nat.add_sub_cancel_left]

theorem zArea_orch {o : Nat} (ho : o < 0x2000000) : zArea (0x20000000 + o) = .orch o := by
  rw [zArea, if_neg (by omega), if_pos (by omega), Nat.add_sub_cancel_left]

/-- The bytes of an access: 1, 2, 4 or 8 (R423). -/
abbrev AccessSize (n : Nat) : Prop := n = 1 ∨ n = 2 ∨ n = 4 ∨ n = 8

/-- Neither a misaligned access nor one below the scratchpad or above the ride window is admitted. -/
theorem Dev.zForbids_outside (d : Dev) (e a n : Nat) (h : a % n ≠ 0 ∨ a < 0x10000000 ∨ 0x60000100 ≤ a) : d.zForbids e a n = true := by
  rw [Dev.zForbids, Bool.or_eq_true, bne_iff_ne]
  by_cases halign : a % n = 0
  · have hhole : zArea a = .hole := by
      rw [zArea, if_neg (by omega), if_neg (by omega), if_neg (by omega), if_neg (by omega), if_neg (by omega), if_neg (by omega), if_neg (by omega)]
    rw [hhole]
    exact .inr rfl
  · exact .inl halign

theorem Dev.zFault_forbidden {d : Dev} {e a n : Nat} (load : Bool) (h : d.zForbids e a n = true) : d.zFault e a n load = some (4, some a) := by
  rw [Dev.zFault, if_pos h]

section
variable (d : Dev) (e : Nat) {o n : Nat} (load : Bool) (hn : AccessSize n) (halign : o % n = 0)
include hn halign

/-- The scratchpad admits every aligned access. -/
theorem Dev.zFault_scratch (ho : o < 0x8000) : d.zFault e (0x10000000 + o) n load = none := by
  have hal : (0x10000000 + o) % n = 0 := by obtain rfl | rfl | rfl | rfl := hn <;> omega
  rw [Dev.zFault, Dev.zForbids, zArea_scratch ho, hal]
  rfl

/-- So does Orchard, but for a load that meets an uncorrectable error. -/
theorem Dev.zFault_orch (ho : o < 0x2000000) :
    d.zFault e (0x20000000 + o) n load = if load && d.zUe e o n then some (5, some (0x20000000 + o)) else none := by
  have hal : (0x20000000 + o) % n = 0 := by obtain rfl | rfl | rfl | rfl := hn <;> omega
  rw [Dev.zFault, Dev.zForbids, zArea_orch ho, hal]
  rfl

/-- An aligned access lies in one word. -/
theorem wordsOf_aligned : wordsOf o n = [o / 8 * 8] := by
  have hone : (o % 8 + n + 7) / 8 = 1 := by obtain rfl | rfl | rfl | rfl := hn <;> omega
  rw [wordsOf, hone]
  rfl

end

/-! ### The memory that an engine's own loads see (R403, R424) -/

theorem State.heldMem_noneHeld {s : State} {e : Nat} (h : (s.dev.engine e).held = []) : s.heldMem e = s.mem := by
  rw [State.heldMem, h]
  rfl

theorem State.heldMem_scratch {s : State} {e o : Nat} {x : HeldStore} (h : (s.dev.engine e).held = [x]) (haddr : x.addr = 0x10000000 + o)
    (ho : o < 0x8000) : s.heldMem e = Mem.setBytes s.mem (engBase e + 0x10000 + o) x.bytes := by
  rw [State.heldMem, h, List.foldl_cons, List.foldl_nil, haddr, zArea_scratch ho]
  rfl

/-! ### Issue over the whole state (R435, R441, R443) -/

theorem State.zdo_completes {s : State} {e : Nat} (h : s.dev.Fetches e) (f : State → State) :
    s.zdo e none f = (f s).on fun d => Dev.retire e (.next d) := by
  rw [State.zdo, if_neg (by rw [h.1]; decide), if_neg (by rw [h.2]; decide)]

theorem State.zdo_faults {s : State} {e : Nat} (h : s.dev.Fetches e) (c : Nat × Option Nat) (f : State → State) :
    s.zdo e (some c) f = s.on fun d => d.zhalt e c.1 c.2 := by
  rw [State.zdo, if_neg (by rw [h.1]; decide), if_neg (by rw [h.2]; decide)]

/-! ### A load -/

theorem State.loadReady_noneHeld {s : State} {e : Nat} (h : (s.dev.engine e).held = []) (a n : Nat) : s.loadReady e a n = s := by
  rw [State.loadReady, h]
  split <;> rfl

section
variable {s : State} {e rd rs n : Nat} {imm : BitVec 16} (h : s.dev.Fetches e) (hready : s.loadReady e (s.dev.ea e rs imm) n = s)
include h hready

theorem State.load_completes (ext : Nat → Nat) (sx : Bool) (ha : s.dev.ea e rs imm ≠ 0x4001000C)
    (hfault : s.dev.zFault e (s.dev.ea e rs imm) n true = none) :
    s.load e rd rs imm n ext sx = (s.zLoad e (s.dev.ea e rs imm) n).2.on
      fun d => Dev.retire e (.next (d.setGreg e rd (ext (s.zLoad e (s.dev.ea e rs imm) n).1))) := by
  have hquiet (r : State) : s.readFaulted e none r = s := if_neg (by simp)
  simp only [State.load, hready, hfault]
  rw [if_neg (fun hc => ha hc.1), hquiet, State.zdo_completes h]
  rfl

/-- A fault other than an uncorrectable error comes before the read. -/
theorem State.load_faults (ext : Nat → Nat) (sx : Bool) {c : Nat × Option Nat} (hc : c.1 ≠ 5)
    (hfault : s.dev.zFault e (s.dev.ea e rs imm) n true = some c) : s.load e rd rs imm n ext sx = s.on fun d => d.zhalt e c.1 c.2 := by
  have hquiet (r : State) : s.readFaulted e (some c) r = s := if_neg (by simp [hc])
  simp only [State.load, hready, hfault]
  rw [if_neg (by simp), hquiet, State.zdo_faults h]

/-- An uncorrectable error is found by the read. -/
theorem State.load_ecc (ext : Nat → Nat) (sx : Bool) {a : Option Nat} {r : State} (hfault : s.dev.zFault e (s.dev.ea e rs imm) n true = some (5, a))
    (hr : (s.zLoad e (s.dev.ea e rs imm) n).2 = r) (hr' : r.dev.Fetches e) : s.load e rd rs imm n ext sx = r.on fun d => d.zhalt e 5 a := by
  have hread (r : State) : s.readFaulted e (some (5, a)) r = r := if_pos (by rw [h.1, h.2]; rfl)
  simp only [State.load, hready, hfault]
  rw [if_neg (by simp), hread, hr, State.zdo_faults hr']

end

/-! ### The load instructions -/

/-- The seven loads with the bytes that each reads. -/
abbrev loads (e : Fin 49) (rd rs : Fin 32) (imm : BitVec 16) : List (Instr × Nat) :=
  [(.lb e rd rs imm, 1), (.lbu e rd rs imm, 1), (.lh e rd rs imm, 2), (.lhu e rd rs imm, 2), (.lw e rd rs imm, 4), (.lwu e rd rs imm, 4), (.ld e rd rs imm, 8)]

theorem exec_loads (e : Fin 49) (rd rs : Fin 32) (imm : BitVec 16) (s : State) :
    ∀ x ∈ loads e rd rs imm, AccessSize x.2 ∧ ∃ ext sx, exec x.1 s = .next (s.load e rd rs imm x.2 ext sx) := by
  simp only [List.forall_mem_cons]
  exact ⟨⟨.inl rfl, _, _, rfl⟩, ⟨.inl rfl, _, _, rfl⟩, ⟨.inr (.inl rfl), _, _, rfl⟩, ⟨.inr (.inl rfl), _, _, rfl⟩,
    ⟨.inr (.inr (.inl rfl)), _, _, rfl⟩, ⟨.inr (.inr (.inl rfl)), _, _, rfl⟩, ⟨.inr (.inr (.inr rfl)), _, _, rfl⟩, by simp⟩

/-- A load of `n` bytes at `a` by core `e` reads the value `w`, with no fault and nothing else done. -/
structure State.Reads (s : State) (e a n w : Nat) : Prop where
  ready : s.loadReady e a n = s
  fault : s.dev.zFault e a n true = none
  load : s.zLoad e a n = (w, s)

theorem State.reads_scratch (s : State) (e : Nat) {o n : Nat} (hn : AccessSize n) (halign : o % n = 0) (ho : o < 0x8000) :
    s.Reads e (0x10000000 + o) n (leNat (Mem.bytes (s.heldMem e) (engBase e + 0x10000 + o) n)) := by
  refine ⟨?_, s.dev.zFault_scratch e true hn halign ho, ?_⟩
  · rw [State.loadReady, zArea_scratch ho]
  · rw [State.zLoad, zArea_scratch ho]
    rfl

section
variable {s : State} {e o n : Nat} (hn : AccessSize n) (halign : o % n = 0) (ho : o < 0x2000000) (hgrant : s.dev.bankRefuses (o / 0x80000) (zReq e) = 0)
include hn halign ho hgrant

theorem State.reads_orch (hecc : s.dev.eccAt (o / 8 * 8) = none) : s.Reads e (0x20000000 + o) n (leNat (Mem.bytes (s.heldMem e) o n)) := by
  refine ⟨?_, ?_, ?_⟩
  · rw [State.loadReady, zArea_orch ho]
  · rw [Dev.zFault_orch _ _ _ hn halign ho, Dev.zUe, hgrant, wordsOf_aligned hn halign]
    simp [hecc]
  · rw [State.zLoad, zArea_orch ho]
    simp only [orchRead, hgrant, ne_eq, not_true_eq_false, if_false, Dev.readEcc, wordsOf_aligned hn halign, List.foldl_cons, List.foldl_nil, hecc]

/-- A read of a word with an uncorrectable error finds it. -/
theorem State.finds_ue (hecc : s.dev.eccAt (o / 8 * 8) = some .ue) :
    s.dev.zFault e (0x20000000 + o) n true = some (5, some (0x20000000 + o)) ∧
    (s.zLoad e (0x20000000 + o) n).2 = s.on fun d => d.bankUe (o / 0x80000) (zReq e) false (o / 8 * 8 % 0x80000) := by
  refine ⟨?_, ?_⟩
  · rw [Dev.zFault_orch _ _ _ hn halign ho, Dev.zUe, hgrant, wordsOf_aligned hn halign]
    simp [hecc]
  · have hbank : o / 8 * 8 / 0x80000 = o / 0x80000 := by omega
    rw [State.zLoad, zArea_orch ho]
    simp only [orchRead, hgrant, ne_eq, not_true_eq_false, if_false, Dev.readEcc, wordsOf_aligned hn halign, List.foldl_cons, List.foldl_nil, hecc, hbank]
    rfl

end

/-! ### What the loads write (R423) -/

theorem leNat_lt (l : List Byte) : leNat l < 256 ^ l.length := by
  induction l with
  | nil => exact Nat.one_pos
  | cons b r ih =>
    have hb := b.isLt
    rw [leNat, List.length_cons, Nat.pow_succ]
    omega

theorem Mem.length_bytes (m : List Host.Cell) (a n : Nat) : (Mem.bytes m a n).length = n := by
  induction n generalizing a with
  | zero => rfl
  | succ n ih => rw [Mem.bytes, List.length_cons, ih]

theorem leNat_bytes_lt (m : List Host.Cell) (a : Nat) {n : Nat} (hn : n ≤ 4) : leNat (Mem.bytes m a n) < 2 ^ 40 :=
  calc leNat (Mem.bytes m a n)
    _ < 256 ^ (Mem.bytes m a n).length := leNat_lt _
    _ = 256 ^ n := congrArg (256 ^ ·) (Mem.length_bytes m a n)
    _ ≤ 256 ^ 4 := Nat.pow_le_pow_right (by decide) hn
    _ ≤ 2 ^ 40 := by decide

/-- A load that reads a value writes what its form makes of it. -/
theorem exec_load_reads {e : Fin 49} {rd rs : Fin 32} {imm : BitVec 16} {s : State} (h : Issues s e) (ha : s.dev.ea e rs imm ≠ 0x4001000C)
    {x : Instr} {n : Nat} {ext : Nat → Nat} {sx : Bool} (hx : exec x s = .next (s.load e rd rs imm n ext sx)) {w v : Nat}
    (hr : s.Reads e (s.dev.ea e rs imm) n w) (hext : ext w = v) (hv : v < 2 ^ 40) : ∃ t, exec x s = .next t ∧ ZResult e rd v false false s t := by
  refine ⟨_, hx, ?_⟩
  rw [State.load_completes (fetches_of_issues h) hr.ready ext sx ha hr.fault, hr.load, hext]
  exact (WritesReg.setGreg s.dev hv).zResult (by omega) h.2.2

/-- The seven loads of an address where `n` bytes read `w n`. -/
theorem exec_loads_read {e : Fin 49} (rd : Fin 32) {rs : Fin 32} {imm : BitVec 16} {s : State} (h : Issues s e) (ha : s.dev.ea e rs imm ≠ 0x4001000C)
    {o : Nat} {w : Nat → Nat} (v : Nat) (hw : ∀ n ≤ 4, w n < 2 ^ 40) (hr : ∀ n, AccessSize n → o % n = 0 → s.Reads e (s.dev.ea e rs imm) n (w n)) :
    (v = w 1 → ∃ t, exec (.lb e rd rs imm) s = .next t ∧ ZResult e rd (wrap40 (BitVec.ofNat 8 v).toInt) false false s t) ∧
    (v = w 1 → ∃ t, exec (.lbu e rd rs imm) s = .next t ∧ ZResult e rd v false false s t) ∧
    (o % 2 = 0 → v = w 2 → ∃ t, exec (.lh e rd rs imm) s = .next t ∧ ZResult e rd (wrap40 (BitVec.ofNat 16 v).toInt) false false s t) ∧
    (o % 2 = 0 → v = w 2 → ∃ t, exec (.lhu e rd rs imm) s = .next t ∧ ZResult e rd v false false s t) ∧
    (o % 4 = 0 → v = w 4 → ∃ t, exec (.lw e rd rs imm) s = .next t ∧ ZResult e rd (wrap40 (BitVec.ofNat 32 v).toInt) false false s t) ∧
    (o % 4 = 0 → v = w 4 → ∃ t, exec (.lwu e rd rs imm) s = .next t ∧ ZResult e rd v false false s t) ∧
    (o % 8 = 0 → v = w 8 → ∃ t, exec (.ld e rd rs imm) s = .next t ∧ ZResult e rd (v % 2 ^ 40) false false s t) := by
  have hr1 := hr 1 (.inl rfl) (Nat.mod_one o)
  have hr2 := hr 2 (.inr (.inl rfl))
  have hr4 := hr 4 (.inr (.inr (.inl rfl)))
  have hr8 := hr 8 (.inr (.inr (.inr rfl)))
  refine ⟨?_, ?_, ?_, ?_, ?_, ?_, ?_⟩
  · rintro rfl
    exact exec_load_reads h ha rfl hr1 (sx40_eq ..) (wrap40_lt _)
  · rintro rfl
    exact exec_load_reads h ha rfl hr1 rfl (hw _ (by decide))
  · rintro halign rfl
    exact exec_load_reads h ha rfl (hr2 halign) (sx40_eq ..) (wrap40_lt _)
  · rintro halign rfl
    exact exec_load_reads h ha rfl (hr2 halign) rfl (hw _ (by decide))
  · rintro halign rfl
    exact exec_load_reads h ha rfl (hr4 halign) (sx40_eq ..) (wrap40_lt _)
  · rintro halign rfl
    exact exec_load_reads h ha rfl (hr4 halign) rfl (hw _ (by decide))
  · rintro halign rfl
    have hx : exec (.ld e rd rs imm) s = .next (s.load e rd rs imm 8 (fun v => v % 2 ^ 40) false) := rfl
    exact exec_load_reads h ha hx (hr8 halign) rfl (Nat.mod_lt _ (Nat.two_pow_pos 40))

end Sys2Proof.Machine
end

section
/-! PROOFS. The loads of the Zhofa cores outside memory, and the accesses that fault (R388 to R390, R404, R406, R441, R442, R447, R467). -/

namespace Sys2Proof.Machine
open Sys2Proof Sys2Proof.Safety

/-! ### The loads of a place (R388, R423) -/

/-- A halt touches, of an engine, its wait, its delay slot, the HALT that waits and the lines of an event alone. -/
theorem Dev.haltOne_engine (d : Dev) {e : Nat} (cause : Nat) (he : e < 256) (i : Nat) :
    ((d.haltOne e cause).engine i).g = (d.engine i).g ∧ ((d.haltOne e cause).engine i).held = (d.engine i).held := by
  have hev : LineFrame _ (d.haltOne e cause) := .cause _ (R.ENG_STATUS_HALTED e) _ e he
  rw [(hev.engine i).g, (hev.engine i).held, Dev.engine_set]
  by_cases h : i = e
  · rw [h, Dev.engine_setEngine_same]
    exact ⟨rfl, rfl⟩
  · rw [Dev.engine_setEngine_ne _ _ _ _ h]
    exact ⟨rfl, rfl⟩

/-- A HALT that waits for a delay slot leaves the general registers. -/
theorem Dev.lateHalt_greg (d : Dev) {e : Nat} (he : e ≤ 48) (i r : Nat) : (d.lateHalt e).greg i r = d.greg i r := by
  refine Dev.greg_congr ?_ r
  rw [Dev.lateHalt]
  split
  · rw [Dev.hostHaltNow]
    cases hp : d.partner e with
    | none => exact (d.haltOne_engine 1 (by omega) i).1
    | some p =>
      obtain ⟨-, hp48, -, -⟩ := Dev.partner_spec hp
      exact ((Dev.haltOne_engine _ 1 (by omega) i).1).trans (d.haltOne_engine 1 (by omega) i).1
  · rfl

/-- Whether or not a HALT waits, an instruction that retires keeps what it has written. -/
theorem Dev.retire_greg (d : Dev) {e : Nat} (he : e ≤ 48) (r : Nat) : (Dev.retire e (.next d)).greg e r = d.greg e r := by
  rw [Dev.retire, Dev.lateHalt_greg _ he, (Dev.pairFollow_effect _ e).greg]
  exact Dev.greg_congr (Dev.gregs_advance ..) r

section
variable {e : Fin 49} {rd rs : Fin 32} {imm : BitVec 16} {s : State} (h : Issues s e) (hheld : (s.dev.engine e).held = [])
include h hheld

/-- LWU writes what the place gives. -/
theorem exec_lwu_place (ha : s.dev.ea e rs imm ≠ 0x4001000C) (hfault : s.dev.zFault e (s.dev.ea e rs imm) 4 true = none) :
    ∃ t, exec (.lwu e rd rs imm) s = .next t ∧ t.dev.greg e rd = (if rd = 0 then 0 else (s.zLoad e (s.dev.ea e rs imm) 4).1 % 2 ^ 40) ∧
      t.mem = (s.zLoad e (s.dev.ea e rs imm) 4).2.mem := by
  have hx : exec (.lwu e rd rs imm) s = .next (s.load e rd rs imm 4 id false) := rfl
  refine ⟨_, hx, ?_⟩
  rw [State.load_completes (fetches_of_issues h) (State.loadReady_noneHeld hheld _ 4) id false ha hfault]
  refine ⟨?_, rfl⟩
  rw [State.on_dev, Dev.retire_greg _ (by omega)]
  split
  · next h0 => rw [h0]; rfl
  · next h0 => exact Dev.greg_setGreg_same _ _ _ _ fun hv => h0 (Fin.ext hv)

/-- The first engine register names the engine, its team and its place in it (R393). -/
theorem exec_lw_engineId (hadmits : s.dev.zForbids e (s.dev.ea e rs imm) 4 = false) (harea : zArea (s.dev.ea e rs imm) = .engReg 0) :
    ∃ t, exec (.lw e rd rs imm) s = .next t ∧ ZResult e rd (e.val / 4 * 4096 + e.val % 4 * 256 + e.val) false false s t := by
  have he := e.isLt
  have ha : s.dev.ea e rs imm ≠ 0x4001000C := by
    intro ha
    rw [ha] at harea
    exact absurd harea (by decide)
  have hr : s.Reads e (s.dev.ea e rs imm) 4 (e.val / 4 * 4096 + e.val % 4 * 256 + e.val) := by
    refine ⟨State.loadReady_noneHeld hheld _ _, ?_, ?_⟩
    · rw [Dev.zFault, hadmits, harea]
      rfl
    · rw [State.zLoad, harea]
      rfl
  have hx : exec (.lw e rd rs imm) s = .next (s.load e rd rs imm 4 (sx40 32) true) := rfl
  refine exec_load_reads h ha hx hr ?_ (by omega)
  rw [sx40, toSigned, Nat.mod_eq_of_lt (by omega), if_pos (by omega), wrap40_natCast (by omega)]

end

/-! ### An access that is forbidden (R388, R442) -/

/-- An access of engine `e` has halted it with a cause at an address and had no effect of its own. -/
structure AccessHalts (e cause addr : Nat) (s t : State) : Prop where
  state : t.dev.get (R.ENG_STATUS_STATE e) = 6
  cause : t.dev.get (R.ENG_STATUS_HALT_CAUSE e) = cause
  addr : t.dev.get (R.ENG_FAULT_ADDR e) = addr
  pc : t.dev.pc e = s.dev.pc e
  mem : t.mem = s.mem
  gregs : ∀ r, t.dev.greg e r = s.dev.greg e r

theorem State.accessHalts (s : State) {e cause a : Nat} (he : e < 48) (hcause : cause < 16) (hne : cause ≠ 6) (ha : a < 2 ^ 32) :
    AccessHalts e cause a s (s.on fun d => d.zhalt e cause (some a)) := by
  have hh := s.dev.zhalt_effect (some a) he hcause hne
  exact ⟨hh.state, hh.cause, s.dev.get_zhalt_faultAddr he hcause hne ha, hh.pc, rfl, hh.gregs⟩

theorem State.room_noneHeld {s : State} {e : Nat} (h : (s.dev.engine e).held = []) : s.room e = s := by
  rw [State.room, h]
  rfl

/-- A store that the map forbids faults whatever the follower of a pair does. -/
theorem State.store_forbidden {s : State} {e rs n : Nat} {imm : BitVec 16} (h : s.dev.Fetches e) (hheld : (s.dev.engine e).held = []) (v : Nat) (bad : Bool)
    (hforbids : s.dev.zForbids e (s.dev.ea e rs imm) n = true) :
    s.store e rs imm n v bad = s.on fun d => d.zhalt e 4 (some (s.dev.ea e rs imm)) := by
  simp only [State.store, State.room_noneHeld hheld, Dev.zFault_forbidden false hforbids, Option.some_or]
  rw [State.zdo_faults h]

/-- The four stores with the bytes that each writes. -/
abbrev stores (e : Fin 49) (rt rs : Fin 32) (imm : BitVec 16) (bad : Bool) : List (Instr × Nat) :=
  [(.sb e rt rs imm bad, 1), (.sh e rt rs imm bad, 2), (.sw e rt rs imm bad, 4), (.sd e rt rs imm bad, 8)]

theorem exec_stores (e : Fin 49) (rt rs : Fin 32) (imm : BitVec 16) (bad : Bool) (s : State) :
    ∀ x ∈ stores e rt rs imm bad, ∃ v, exec x.1 s = .next (s.store e rs imm x.2 v bad) := by
  simp only [List.forall_mem_cons]
  exact ⟨⟨_, rfl⟩, ⟨_, rfl⟩, ⟨_, rfl⟩, ⟨_, rfl⟩, by simp⟩

/-- Each of the eleven accesses that the map forbids halts the engine with ACCESS. -/
theorem exec_access_forbidden {e : Fin 49} (he : e.val < 48) {rd rs : Fin 32} {imm : BitVec 16} {bad : Bool} {s : State} (h : Issues s e)
    (hheld : (s.dev.engine e).held = []) {x : Instr × Nat} (hx : x ∈ loads e rd rs imm ++ stores e rd rs imm bad)
    (hforbids : s.dev.zForbids e (s.dev.ea e rs imm) x.2 = true) : ∃ t, exec x.1 s = .next t ∧ AccessHalts e 4 (s.dev.ea e rs imm) s t := by
  have hhalt := s.accessHalts (cause := 4) he (by omega) (by omega) (s.dev.ea_lt e rs imm)
  obtain hx | hx := List.mem_append.mp hx
  · obtain ⟨-, ext, sx, heq⟩ := exec_loads e rd rs imm s x hx
    have hfault := Dev.zFault_forbidden true hforbids
    refine ⟨_, heq, ?_⟩
    rwa [State.load_faults (fetches_of_issues h) (State.loadReady_noneHeld hheld _ _) ext sx (show 4 ≠ 5 by decide) hfault]
  · obtain ⟨v, heq⟩ := exec_stores e rd rs imm bad s x hx
    refine ⟨_, heq, ?_⟩
    rwa [State.store_forbidden (fetches_of_issues h) hheld v bad hforbids]

/-! ### A load that meets an uncorrectable error (R390, R442, R467) -/

/-- An uncorrectable error that a read meets shows in registers of Orchard and of the device alone. -/
theorem SidesFrame.bankUe (d : Dev) {n : Nat} (r : Req) (addr : Nat) (hn : n < 64) : SidesFrame d (d.bankUe n r false addr) := by
  have hlog : SidesFrame d (d.faultLog n 4 r false addr) := by
    have hreg (x : Dev) (f : Fld) (v : Nat) (hf : f.key < (0x4100c + n / 4 * 0x10) * 32) : SidesFrame x (x.set f v) :=
      .set x f v (by rw [page]; omega)
    have hcnt : SidesFrame d (d.inc (R.ORCH_FAULT_CNT (n / 4))) := hreg _ _ _ (by simp only [Fld.key, R.ORCH_FAULT_CNT]; omega)
    simp only [Dev.faultLog]
    split
    · exact hcnt
    · refine (((((((hcnt.trans (hreg _ _ _ ?_)).trans (hreg _ _ _ ?_)).trans (hreg _ _ _ ?_)).trans (hreg _ _ _ ?_)).trans (hreg _ _ _ ?_)).trans
        (hreg _ _ _ ?_)).trans (hreg _ _ _ ?_)).trans (hreg _ _ _ ?_) <;>
      simp only [Fld.key, R.ORCH_FAULT_INFO_VALID, R.ORCH_FAULT_INFO_CAUSE, R.ORCH_FAULT_INFO_PORT, R.ORCH_FAULT_INFO_BANK, R.ORCH_FAULT_INFO_WRITE,
        R.ORCH_FAULT_INFO_AGENT, R.ORCH_FAULT_INFO_ENGINE, R.ORCH_FAULT_ADDR] <;> omega
  have hue : page (R.BANK_STATUS_UE n) < 0x1600 := by simp only [page, Fld.key, R.BANK_STATUS_UE]; omega
  rw [Dev.bankUe, if_neg Bool.false_ne_true]
  exact (((hlog.trans (.set _ _ _ hue)).trans (.event (.cause _ _ _ _ (by omega)))).trans (.set _ _ _ (by decide))).trans
    ((SidesFrame.set _ _ _ (by decide)).trans (.event (.cause _ _ _ _ (by decide))))

theorem SidesFrame.fetches {d d' : Dev} (h : SidesFrame d d') {e : Nat} (he : e < 48) (hf : d.Fetches e) : d'.Fetches e := by
  have hk := engKeys e
  have hpartner : d'.partner e = d.partner e := Dev.partner_congr (fun g hg => h.get g (by omega)) e
  have hstate : d'.engState e = d.engState e := h.get _ (by rw [page]; omega)
  have hpc : d'.pc e = d.pc e := h.get _ (by rw [page]; omega)
  refine ⟨Eq.trans ?_ hf.1, Eq.trans ?_ hf.2⟩
  · rw [Dev.zReady, Dev.zReady, if_pos he, if_pos he, (h.engine e).wait, (h.engine e).slot, hstate, Dev.follower, hpartner, Dev.follower]
  · rw [Dev.badFetch, hpc, Dev.badFetch]

/-- A halt on a fault changes, outside the event block, registers of engines alone. -/
theorem Dev.get_zhalt_below (d : Dev) {e cause : Nat} (a : Option Nat) (he : e < 48) (hcause : cause < 16) (hne : cause ≠ 6) (g : Fld) (hb : block g ≠ 3)
    (hg : page g < 0x1600) : (d.zhalt e cause a).get g = d.get g := by
  have hengine (k : Nat) : g.key ≠ (R.ENG_FAULT_ADDR k).key ∧ g.key ≠ (R.ENG_PC k).key ∧
      ∀ f ∈ [R.ENG_STATUS_STATE k, R.ENG_STATUS_HALT_CAUSE k, R.ENG_STATUS_HALTED k], g.key ≠ f.key := by
    have hk := engKeys k
    rw [page] at hg
    simp only [List.forall_mem_cons]
    refine ⟨?_, ?_, ?_, ?_, ?_, by simp⟩ <;> omega
  have hown : ((d.faultAt e a).haltOne e cause).get g = d.get g :=
    ((Dev.haltOne_effect _ he hcause).get g hb (hengine e).2.2).trans (d.get_faultAt_ne e a g (hengine e).1)
  cases hp : d.partner e with
  | none => rw [Dev.zhalt_alone a he hne hp, hown]
  | some p =>
    rw [Dev.zhalt_paired a he hne hp, (Dev.haltOne_effect _ (Dev.partner_spec hp).2.1 (by omega)).get g hb (hengine p).2.2, Dev.setPc,
      Dev.get_set_ne _ _ _ _ (hengine p).2.1, hown]

/-- A load of an Orchard word with an uncorrectable error: the bank records it, and the engine halts with ECC. -/
theorem exec_load_ue {e : Fin 49} (he : e.val < 48) {rd rs : Fin 32} {imm : BitVec 16} {o : Nat} {s : State} (h : Issues s e)
    (ha : s.dev.ea e rs imm = 0x20000000 + o) (ho : o < 0x2000000) (hgrant : s.dev.bankRefuses (o / 0x80000) (zReq e) = 0)
    (hecc : s.dev.eccAt (o / 8 * 8) = some .ue) {x : Instr × Nat} (hx : x ∈ loads e rd rs imm) (halign : o % x.2 = 0) :
    ∃ t, exec x.1 s = .next t ∧ AccessHalts e 5 (s.dev.ea e rs imm) s t ∧ t.dev.get (R.BANK_STATUS_UE (o / 0x80000)) = 1 ∧
      t.dev.get R.SYS_DIAG_ECC_UNCORR = 1 := by
  obtain ⟨hn, ext, sx, heq⟩ := exec_loads e rd rs imm s x hx
  have hbank : o / 0x80000 < 64 := by omega
  obtain ⟨hfault, hread⟩ := State.finds_ue hn halign ho hgrant hecc
  have hframe := SidesFrame.bankUe s.dev (zReq e) (o / 8 * 8 % 0x80000) hbank
  have hready : s.loadReady e (s.dev.ea e rs imm) x.2 = s := by rw [ha, State.loadReady, zArea_orch ho]
  rw [← ha] at hfault hread
  generalize hr : (s.on fun d => d.bankUe (o / 0x80000) (zReq e) false (o / 8 * 8 % 0x80000)) = r at hread
  have hdev : r.dev = s.dev.bankUe (o / 0x80000) (zReq e) false (o / 8 * 8 % 0x80000) := by rw [← hr]; rfl
  have hmem : r.mem = s.mem := by rw [← hr]; rfl
  rw [← hdev] at hframe
  have hh := r.accessHalts (cause := 5) he (by omega) (by omega) (s.dev.ea_lt e rs imm)
  have hk := engKeys e
  refine ⟨_, heq, ?_⟩
  rw [State.load_ecc (fetches_of_issues h) hready ext sx hfault hread (hframe.fetches he (fetches_of_issues h))]
  refine ⟨⟨hh.state, hh.cause, hh.addr, hh.pc.trans (hframe.get _ (by rw [page]; omega)), hmem,
    fun i => (hh.gregs i).trans (Dev.greg_congr (hframe.engine e).g i)⟩, ?_, ?_⟩
  · have hue : (R.BANK_STATUS_UE (o / 0x80000)).key < 0x80000 * 32 ∧ 0x40000 * 32 ≤ (R.BANK_STATUS_UE (o / 0x80000)).key := by
      simp only [Fld.key, R.BANK_STATUS_UE]; omega
    rw [State.on_dev, Dev.get_zhalt_below _ _ he (by omega) (by omega) _ (by rw [block]; omega) (by rw [page]; omega), hdev]
    exact Dev.bankUe_get_ue _ _ _ _ hbank
  · rw [State.on_dev, Dev.get_zhalt_below _ _ he (by omega) (by omega) _ (by decide) (by decide), hdev]
    exact Dev.bankUe_get_uncorr ..

end Sys2Proof.Machine
end

section
/-! PROOFS. The stores of the Zhofa cores: performed at once outside a lockstep pair, held and compared in one (R390, R403, R404, R423, R424). -/

namespace Sys2Proof.Machine
open Sys2Proof Sys2Proof.Safety

/-! ### The bytes of a number -/

theorem leBytes_length (n v : Nat) : (leBytes n v).length = n := by
  induction n generalizing v with
  | zero => rfl
  | succ n ih => rw [leBytes, List.length_cons, ih]

theorem leBytes_getElem? {n v i : Nat} (h : i < n) : (leBytes n v)[i]? = some (BitVec.ofNat 8 (v / 256 ^ i)) := by
  induction n generalizing v i with
  | zero => omega
  | succ n ih =>
    rw [leBytes]
    cases i with
    | zero => rw [List.getElem?_cons_zero, Nat.pow_zero, Nat.div_one]
    | succ i => rw [List.getElem?_cons_succ, ih (by omega), Nat.div_div_eq_div_mul, Nat.pow_succ']

/-- The bytes of a number stored in a canonical memory, and nothing else. -/
theorem Mem.setBytes_leBytes (m : List Host.Cell) (a n v : Nat) (hm : Memory.wf m = true) :
    (∀ i < n, (Mem.byte (Mem.setBytes m a (leBytes n v)) (a + i)).toNat = v / 256 ^ i % 256) ∧
    ∀ y, (y < a ∨ a + n ≤ y) → Mem.byte (Mem.setBytes m a (leBytes n v)) y = Mem.byte m y := by
  refine ⟨fun i hi => ?_, fun y hy => Mem.byte_setBytes_ne _ _ _ _ (by rwa [leBytes_length])⟩
  have hread := Mem.byte_setBytes_getElem? m a i (leBytes n v) hm (by rwa [leBytes_length])
  rw [leBytes_getElem? hi] at hread
  rw [Option.some.inj hread, BitVec.toNat_ofNat]

/-- The 40-bit form with copies of its sign above it (R423). -/
theorem ofSigned64_S40 {v : Nat} (hv : v < 2 ^ 40) : ofSigned 64 (S40 v) = if v < 2 ^ 39 then v else v + (2 ^ 64 - 2 ^ 40) := by
  rw [S40, toSigned, Nat.mod_eq_of_lt hv, ofSigned]
  split <;> omega

/-! ### A store -/

/-- A change of what an engine has beside its general registers, its delay slot and the HALT that waits writes no register. -/
theorem WritesReg.setEngine (d : Dev) (e : Nat) (x : EngSt) (hg : x.g = (d.engine e).g) (hslot : x.slot = (d.engine e).slot)
    (hhalt : x.haltReq = (d.engine e).haltReq) : WritesReg e 0 0 false false d (d.setEngine e x) := by
  have hgregs (k : Nat) : ((d.setEngine e x).engine k).g = (d.engine k).g := by
    by_cases h : k = e
    · rw [h, Dev.engine_setEngine_same, hg]
    · rw [Dev.engine_setEngine_ne _ _ _ _ h]
  exact ⟨rfl, fun k r _ => Dev.greg_congr (hgregs k) r, by rw [Dev.engine_setEngine_same, hslot], by rw [Dev.engine_setEngine_same, hhalt],
    fun _ => ⟨rfl, rfl⟩, fun _ _ _ _ => rfl, rfl⟩

section
variable {s : State} {e rs n : Nat} {imm : BitVec 16} (h : s.dev.Fetches e) (hroom : (s.dev.engine e).held.length < 4)
  (hfault : s.dev.zFault e (s.dev.ea e rs imm) n false = none) (v : Nat) (bad : Bool)
include h hroom hfault

/-- A store that is admitted is posted, where no difference of the follower is met at once. -/
theorem State.store_posts (hmeets : (bad && (s.dev.partner e).isSome && !lsHolds (s.dev.ea e rs imm)) = false) :
    s.store e rs imm n v bad = (s.post e (s.dev.ea e rs imm) (leBytes n v) bad).on fun d => Dev.retire e (.next d) := by
  have hfree : s.room e = s := if_pos hroom
  simp only [State.store, hfree, hfault, hmeets, Bool.false_eq_true, if_false, Option.or_none]
  rw [State.zdo_completes h]

/-- A difference at a store that is not held is met at once. -/
theorem State.store_mismatch (hp : s.dev.partner e ≠ none) (hholds : lsHolds (s.dev.ea e rs imm) = false) :
    s.store e rs imm n v true = s.on fun d => d.zhalt e 6 none := by
  have hfree : s.room e = s := if_pos hroom
  have hmeets : (true && (s.dev.partner e).isSome && !lsHolds (s.dev.ea e rs imm)) = true := by
    rw [Option.isSome_iff_ne_none.mpr hp, hholds]
    rfl
  simp only [State.store, hfree, hfault, hmeets, if_true, Option.none_or]
  rw [State.zdo_faults h]

end

/-- Outside a pair, or where a pair does not hold it, a store is performed at once. -/
theorem State.post_performs {s : State} {e a : Nat} (bs : List Byte) (bad : Bool) (h : s.dev.partner e = none ∨ lsHolds a = false) :
    s.post e a bs bad = s.zStore e a bs := by
  refine if_pos ?_
  obtain h | h := h <;> simp [h]

/-- A pair holds a store to memory or to a register of the device (R403). -/
theorem State.post_holds {s : State} {e a : Nat} (bs : List Byte) (bad : Bool) (hp : s.dev.partner e ≠ none) (hholds : lsHolds a = true) :
    s.post e a bs bad = s.on fun d => d.setEngine e
      { d.engine e with held := (d.engine e).held ++ [{ due := d.now + 3, pc := d.pc e, addr := a, bytes := bs, bad := bad }] } :=
  if_neg (by simp [hp, hholds])

theorem State.zStore_scratch (s : State) (e : Nat) {o : Nat} (ho : o < 0x8000) (bs : List Byte) : s.zStore e (0x10000000 + o) bs =
    { s with mem := Mem.setBytes s.mem (engBase e + 0x10000 + o) bs, dev := s.dev.scrStored e o bs.length } := by
  rw [State.zStore, zArea_scratch ho]
  rfl

/-! ### The store instructions -/

/-- SD stores the 40-bit form. -/
theorem exec_sd (e : Fin 49) (rt rs : Fin 32) (imm : BitVec 16) (bad : Bool) {v : Nat} {s : State} (hv : v = s.dev.greg e rt) :
    exec (.sd e rt rs imm bad) s = .next (s.store e rs imm 8 (if v < 2 ^ 39 then v else v + (2 ^ 64 - 2 ^ 40)) bad) := by
  have hx : exec (.sd e rt rs imm bad) s = .next (s.store e rs imm 8 (ofSigned 64 (S40 (s.dev.greg e rt))) bad) := rfl
  rw [hx, hv, ofSigned64_S40 (s.dev.greg_lt e rt)]

section
variable {e : Fin 49} {rt rs : Fin 32} {imm : BitVec 16} {bad : Bool} {s : State} (h : Issues s e)
include h

/-- A store of an engine outside a pair to its scratchpad: the bytes there, and nowhere else, of a canonical memory. -/
theorem exec_store_scratch (hm : MemOk s) (hp : s.dev.partner e = none) (hheld : (s.dev.engine e).held = []) {o n v : Nat}
    (ha : s.dev.ea e rs imm = 0x10000000 + o) (ho : o < 0x8000) (hn : AccessSize n) (halign : o % n = 0) {x : Instr}
    (hx : exec x s = .next (s.store e rs imm n v bad)) :
    ∃ t, exec x s = .next t ∧ ZResult e 0 0 false false s { t with mem := s.mem } ∧
      (∀ i < n, (Mem.byte t.mem (engBase e + 0x10000 + o + i)).toNat = v / 256 ^ i % 256) ∧
      ∀ y, (y < engBase e + 0x10000 + o ∨ engBase e + 0x10000 + o + n ≤ y) → Mem.byte t.mem y = Mem.byte s.mem y := by
  have hfault : s.dev.zFault e (s.dev.ea e rs imm) n false = none := ha ▸ s.dev.zFault_scratch e false hn halign ho
  have hw : WritesReg e 0 0 false false s.dev (s.dev.scrStored e o (leBytes n v).length) := .setEngine _ _ _ rfl rfl rfl
  refine ⟨_, hx, ?_⟩
  rw [State.store_posts (fetches_of_issues h) (by simp [hheld]) hfault v bad (by simp [hp]), ha, State.post_performs _ _ (.inl hp),
    State.zStore_scratch _ _ ho]
  exact ⟨hw.zResult (by omega) h.2.2, Mem.setBytes_leBytes s.mem _ n v hm⟩

/-- A store that is performed at once leaves the memory of its place. -/
theorem exec_store_performs (hheld : (s.dev.engine e).held = [])
    (hp : s.dev.partner e = none ∨ lsHolds (s.dev.ea e rs imm) = false ∧ bad = false) {n v : Nat}
    (hfault : s.dev.zFault e (s.dev.ea e rs imm) n false = none) {x : Instr} (hx : exec x s = .next (s.store e rs imm n v bad)) :
    ∃ t, exec x s = .next t ∧ t.mem = (s.zStore e (s.dev.ea e rs imm) (leBytes n v)).mem ∧ t.pending = s.pending := by
  have hmeets : (bad && (s.dev.partner e).isSome && !lsHolds (s.dev.ea e rs imm)) = false := by
    obtain hp | ⟨-, hbad⟩ := hp
    · simp [hp]
    · simp [hbad]
  refine ⟨_, hx, ?_⟩
  rw [State.store_posts (fetches_of_issues h) (by simp [hheld]) hfault v bad hmeets, State.post_performs _ _ (hp.imp_right And.left)]
  exact ⟨rfl, (State.zStore_kept ..).pending⟩

/-- A store that a pair holds. -/
theorem exec_store_holds (hp : s.dev.partner e ≠ none) (hholds : lsHolds (s.dev.ea e rs imm) = true) (hroom : (s.dev.engine e).held.length < 4) {n v : Nat}
    (hfault : s.dev.zFault e (s.dev.ea e rs imm) n false = none) {x : Instr} (hx : exec x s = .next (s.store e rs imm n v bad)) :
    ∃ t, exec x s = .next t ∧ ZResult e 0 0 false false s t ∧ (t.dev.engine e).held = (s.dev.engine e).held ++
      [{ due := s.dev.now + 3, pc := s.dev.pc e, addr := s.dev.ea e rs imm, bytes := leBytes n v, bad := bad }] := by
  generalize hy : ({ s.dev.engine e with held := (s.dev.engine e).held ++
    [{ due := s.dev.now + 3, pc := s.dev.pc e, addr := s.dev.ea e rs imm, bytes := leBytes n v, bad := bad }] } : EngSt) = y
  have hw : WritesReg e 0 0 false false s.dev (s.dev.setEngine e y) := .setEngine _ _ _ (by rw [← hy]) (by rw [← hy]) (by rw [← hy])
  refine ⟨_, hx, ?_⟩
  rw [State.store_posts (fetches_of_issues h) hroom hfault v bad (by simp [hholds]), State.post_holds _ _ hp hholds, State.on_on, State.on]
  simp only [hy]
  refine ⟨hw.zResult (by omega) h.2.2, ?_⟩
  rw [(Dev.retire_next_engine (hw.haltReq.trans h.2.2)).held, Dev.engine_advance, Dev.engine_setEngine_same, ← hy]

end

end Sys2Proof.Machine
end

section
/-! PROOFS. The held stores of a lockstep pair when their instant comes, and the statement on loads and stores (R403, R404). -/

namespace Sys2Proof.Machine
open Sys2Proof Sys2Proof.Safety

/-! ### A mismatch (R404) -/

/-- The bit of the team's status that records a mismatch of the pair of engine `e` (R416). -/
def mismatchField (e : Nat) : Fld := if e % 4 < 2 then R.TEAM_LS_STATUS_MIS01 (e / 4) else R.TEAM_LS_STATUS_MIS23 (e / 4)

theorem page_mismatchField (e : Nat) : 0x1640 ≤ page (mismatchField e) ∧ (mismatchField e).width = 1 := by
  rw [mismatchField, page]
  split <;> simp only [Fld.key, R.TEAM_LS_STATUS_MIS01, R.TEAM_LS_STATUS_MIS23, and_true] <;> omega

/-- The device with a mismatch of the pair of engine `e` recorded and the stores that it holds discarded, before the engines halt. -/
def Dev.mismatchNoted (d : Dev) (e : Nat) : Dev :=
  ((d.inc (R.TEAM_LS_STATUS_COUNT (e / 4))).set (mismatchField e) 1).setEngine (e / 2 * 2) { d.engine (e / 2 * 2) with held := [] }

section
variable (d : Dev) {e : Nat} (he : e < 48) (pc : Nat)

theorem Dev.lsMismatch_eq : d.lsMismatch e pc =
    ((((d.mismatchNoted e).setPc (e / 2 * 2) pc).haltOne (e / 2 * 2) 6).setPc (e / 2 * 2 + 1) pc).haltOne (e / 2 * 2 + 1) 6 := rfl

include he

/-- Both engines of the pair stop at the instruction that differs. -/
theorem Dev.pc_lsMismatch {k : Nat} (hpair : k / 2 = e / 2) : (d.lsMismatch e pc).pc k = pc % 2 ^ 32 := by
  have hk := engKeys k
  have hkr := engKeys (e / 2 * 2 + 1)
  rw [Dev.lsMismatch_eq, (Dev.haltOne_effect _ (by omega) (by omega)).pc]
  obtain h | h : k = e / 2 * 2 + 1 ∨ k = e / 2 * 2 := by omega
  · rw [h]
    exact Dev.get_set_same ..
  · rw [Dev.pc, Dev.setPc, Dev.get_set_ne _ _ _ _ (by omega), ← Dev.pc, (Dev.haltOne_effect _ (by omega) (by omega)).pc, h]
    exact Dev.get_set_same ..

/-- The leader's stores are discarded, those of the other pairs stay. -/
theorem Dev.held_lsMismatch (i : Nat) : ((d.lsMismatch e pc).engine i).held = if i = e / 2 * 2 then [] else (d.engine i).held := by
  rw [Dev.lsMismatch_eq, (Dev.haltOne_engine _ 6 (by omega) i).2, Dev.setPc, Dev.engine_set, (Dev.haltOne_engine _ 6 (by omega) i).2, Dev.setPc,
    Dev.engine_set, Dev.mismatchNoted]
  split
  · next h => rw [h, Dev.engine_setEngine_same]
  · next h => rw [Dev.engine_setEngine_ne _ _ _ _ h]; rfl

/-- The team's status records the pair. -/
theorem Dev.get_lsMismatch_team : (d.lsMismatch e pc).get (mismatchField e) = 1 := by
  obtain ⟨hpage, hwidth⟩ := page_mismatchField e
  have hkl := engKeys (e / 2 * 2)
  have hkr := engKeys (e / 2 * 2 + 1)
  have hkeep (x : Dev) (k : Nat) (hk : k < 48) : ((x.setPc k pc).haltOne k 6).get (mismatchField e) = x.get (mismatchField e) := by
    have := engKeys k
    rw [(Dev.haltOne_effect _ hk (by omega)).get_page _ (by omega) (by omega), Dev.setPc, Dev.get_set_ne]
    rw [page] at hpage
    omega
  rw [Dev.lsMismatch_eq, hkeep _ _ (by omega), hkeep _ _ (by omega), Dev.mismatchNoted, Dev.get_setEngine, Dev.get_set_same]
  exact congrArg (1 % 2 ^ ·) hwidth

end

/-- A difference at a store that is not held halts the pair with LOCKSTEP before the store. -/
theorem exec_sw_mismatch {e : Fin 49} (he : e.val < 48) {rt rs : Fin 32} {imm : BitVec 16} {s : State} (h : Issues s e) (hp : s.dev.partner e ≠ none)
    (hheld : (s.dev.engine e).held = []) (hholds : lsHolds (s.dev.ea e rs imm) = false) (hfault : s.dev.zFault e (s.dev.ea e rs imm) 4 false = none) :
    ∃ t, exec (.sw e rt rs imm true) s = .next t ∧ t.dev.get (R.ENG_STATUS_STATE e) = 6 ∧ t.dev.get (R.ENG_STATUS_HALT_CAUSE e) = 6 ∧
      t.dev.pc e = s.dev.pc e ∧ t.mem = s.mem := by
  have hx : exec (.sw e rt rs imm true) s = .next (s.store e rs imm 4 (s.dev.greg e rt) true) := rfl
  have hmismatch : s.dev.zhalt e 6 none = s.dev.lsMismatch e (s.dev.pc e) := by
    unfold Dev.zhalt
    rw [if_neg (by omega), if_pos rfl]
  refine ⟨_, hx, ?_⟩
  rw [State.store_mismatch (fetches_of_issues h) (by simp [hheld]) hfault _ hp hholds, State.on, hmismatch]
  obtain ⟨hstate, hcause⟩ := s.dev.lsMismatch_halts (s.dev.pc e) he rfl
  exact ⟨hstate, hcause, (s.dev.pc_lsMismatch he _ rfl).trans (Nat.mod_eq_of_lt (s.dev.pc_lt e)), rfl⟩

/-! ### The instant of a held store (R403) -/

theorem State.foldl_lsDue_noneHeld (t : Nat) (l : List Nat) {s : State} (h : ∀ k ∈ l, (s.dev.engine (2 * k)).held = []) :
    l.foldl (fun (a : State) i => a.lsDue (2 * i) t 4) s = s := by
  induction l with
  | nil => rfl
  | cons k l ih =>
    rw [List.foldl_cons, s.lsDue_noneHeld _ _ _ (h k (List.mem_cons_self ..)), ih fun j hj => h j (List.mem_cons_of_mem _ hj)]

/-- Where only pair `i` holds stores, and its turn leaves the others with none, its turn is all that happens. -/
theorem State.lsUntil_onePair {s u : State} {i t : Nat} (hi : i < 24) (hs : ∀ k < 24, k ≠ i → (s.dev.engine (2 * k)).held = [])
    (hu : s.lsDue (2 * i) t 4 = u) (hrest : ∀ k < 24, k ≠ i → (u.dev.engine (2 * k)).held = []) : s.lsUntil t = u := by
  obtain ⟨before, after, hl⟩ := List.append_of_mem (List.mem_range.mpr hi)
  have hnodup : (before ++ i :: after).Nodup := hl ▸ List.nodup_range
  have hlt (k : Nat) (hk : k ∈ before ++ i :: after) : k < 24 := List.mem_range.mp (hl ▸ hk)
  obtain ⟨-, hafter, hdisjoint⟩ := List.nodup_append.mp hnodup
  rw [State.lsUntil, hl, List.foldl_append, List.foldl_cons, State.foldl_lsDue_noneHeld t before, hu, State.foldl_lsDue_noneHeld t after]
  · intro k hk
    exact hrest k (hlt k (by simp [hk])) fun h => (List.nodup_cons.mp hafter).1 (h ▸ hk)
  · intro k hk
    exact hs k (hlt k (by simp [hk])) (hdisjoint k hk i (List.mem_cons_self ..))

section
variable {s : State} {x : HeldStore}

/-- A turn performs or discards the one held store that is due. -/
theorem State.lsDue_one {e t : Nat} (hheld : (s.dev.engine e).held = [x]) (hdue : x.due ≤ t) (hrest : ((s.lsRelease e).dev.engine e).held = []) :
    s.lsDue e t 4 = s.lsRelease e := by
  rw [State.lsDue, hheld, if_pos (by simp [hdue]), State.lsDue_noneHeld _ _ _ _ hrest]

theorem State.lsRelease_scratch {e o : Nat} (hheld : (s.dev.engine e).held = [x]) (hbad : x.bad = false) (haddr : x.addr = 0x10000000 + o) (ho : o < 0x8000) :
    s.lsRelease e = { s with mem := Mem.setBytes s.mem (engBase e + 0x10000 + o) x.bytes,
                             dev := (s.dev.setEngine e { s.dev.engine e with held := [] }).scrStored e o x.bytes.length } := by
  have harea : zArea x.addr = .scratch o := haddr ▸ zArea_scratch ho
  have hperformed := State.performed_scratch hheld hbad harea
  rw [State.performed, hheld] at hperformed
  exact hperformed

variable {i t : Nat} (hi : i < 24) (hheld : (s.dev.engine (2 * i)).held = [x]) (hs : ∀ k < 24, k ≠ i → (s.dev.engine (2 * k)).held = [])
include hi hheld hs

theorem State.lsUntil_early (h : t < x.due) : s.lsUntil t = s :=
  State.lsUntil_onePair hi hs (by rw [State.lsDue, hheld, if_neg (by simp [h])]) hs

/-- A store to the scratchpad whose retirement compares equal is performed. -/
theorem State.lsUntil_performs {o : Nat} (h : x.due ≤ t) (hbad : x.bad = false) (haddr : x.addr = 0x10000000 + o) (ho : o < 0x8000) :
    (s.lsUntil t).mem = Mem.setBytes s.mem (engBase (2 * i) + 0x10000 + o) x.bytes ∧ ((s.lsUntil t).dev.engine (2 * i)).held = [] := by
  have hrelease := State.lsRelease_scratch hheld hbad haddr ho
  have hown : ((s.lsRelease (2 * i)).dev.engine (2 * i)).held = [] := by
    rw [hrelease, Dev.scrStored, Dev.engine_setEngine_same, Dev.engine_setEngine_same]
  have hothers (k : Nat) (hk : k < 24) (hne : k ≠ i) : ((s.lsRelease (2 * i)).dev.engine (2 * k)).held = [] := by
    rw [hrelease, Dev.scrStored, Dev.engine_setEngine_ne _ _ _ _ (by omega), Dev.engine_setEngine_ne _ _ _ _ (by omega), hs k hk hne]
  rw [State.lsUntil_onePair hi hs (State.lsDue_one hheld h hown) hothers]
  exact ⟨by rw [hrelease], hown⟩

/-- One whose retirement differs is discarded with those after it, and the pair halts. -/
theorem State.lsUntil_discards (h : x.due ≤ t) (hbad : x.bad = true) : s.lsUntil t = s.on fun d => d.lsMismatch (2 * i) x.pc := by
  have hrelease : s.lsRelease (2 * i) = s.on fun d => d.lsMismatch (2 * i) x.pc := by
    rw [State.lsRelease, hheld]
    exact if_pos hbad
  have hheld' := s.dev.held_lsMismatch (e := 2 * i) (by omega) x.pc
  have hown : ((s.lsRelease (2 * i)).dev.engine (2 * i)).held = [] := by
    rw [hrelease, State.on_dev, hheld', if_pos (by omega)]
  refine State.lsUntil_onePair hi hs ((State.lsDue_one hheld h hown).trans hrelease) fun k hk hne => ?_
  rw [State.on_dev, hheld', if_neg (by omega), hs k hk hne]

end

end Sys2Proof.Machine
end

section
/-! PROOFS. The statement on loads and stores: it asks of every state what canonical memories alone give. -/

namespace Sys2Proof.Machine
open Sys2Proof Sys2Proof.Safety

/-- Engine 0 runs, outside a pair, with the start of its scratchpad in g1, and its memory lists that byte twice. -/
def twiceListedEngine : State :=
  { (State.reset.on fun d => (d.set (R.ENG_STATUS_STATE 0) 2).setEngine 0 { g := [(1, 0x10000000)] }) with
    mem := [(engBase 0 + 0x10000, 1), (engBase 0 + 0x10000, 2)] }

theorem issues_twiceListedEngine : Issues twiceListedEngine 0 := by decide

/-- A 0 stored to that byte takes out the first of its entries alone. -/
theorem exec_sb_twiceListedEngine :
    ∃ t, exec (.sb 0 0 1 0 false) twiceListedEngine = .next t ∧ t.mem = [(engBase 0 + 0x10000, 2)] := by
  have hea : twiceListedEngine.dev.ea (0 : Fin 49) (1 : Fin 32) 0 = 0x10000000 + 0 := by decide
  have hx : exec (.sb 0 0 1 0 false) twiceListedEngine = .next (twiceListedEngine.store (0 : Fin 49) (1 : Fin 32) 0 1 0 false) := rfl
  have hfault : twiceListedEngine.dev.zFault (0 : Fin 49) (twiceListedEngine.dev.ea (0 : Fin 49) (1 : Fin 32) 0) 1 false = none := by
    rw [hea]
    exact Dev.zFault_scratch _ _ _ (.inl rfl) rfl (by decide)
  obtain ⟨t, ht, hmem, -⟩ := exec_store_performs issues_twiceListedEngine rfl (.inl (by decide)) hfault hx
  refine ⟨t, ht, hmem.trans ?_⟩
  rw [hea, State.zStore_scratch _ _ (by decide)]
  decide

/-- Refutes O36: its clause on the bytes of a store ranges over every state, and in `twiceListedEngine`, whose memory is not in canonical form, a byte stored
as 0 reads 2. The statement lacks `MemOk` there, no more: for canonical memories, which every step keeps (`memoryInvariant`), that clause is
`exec_store_scratch`, with `exec_sd` for SD, and the others hold as they stand. They are `Dev.ea_eq`; `exec_loads_read` of `State.reads_scratch` and of
`State.reads_orch`; `State.heldMem_noneHeld` and `_scratch`; `exec_lwu_place` and `exec_lw_engineId`; `exec_access_forbidden`; `exec_load_ue`;
`Dev.zForbids_outside`; `exec_store_performs` and `_holds`; `exec_sw_mismatch`; `State.lsUntil_early`, `_performs` and `_discards`; and
`Dev.lsMismatch_halts`, `Dev.pc_lsMismatch`, `Dev.held_lsMismatch` and `Dev.get_lsMismatch_team`. -/
theorem not_zhofaLoadsAndStores : ¬ Obligations.ZhofaLoadsAndStores := by
  rintro ⟨-, -, -, -, -, -, -, -, -, stores, -⟩
  obtain ⟨⟨t, ht, -, hbyte, -⟩, -⟩ :=
    stores 0 0 1 0 false 0 0 twiceListedEngine issues_twiceListedEngine (by decide) rfl (by decide) (by decide) rfl
  obtain ⟨u, hu, hmem⟩ := exec_sb_twiceListedEngine
  obtain rfl := Host.Outcome.next.inj (hu.symm.trans ht)
  have hread := hbyte 0 (by decide)
  rw [hmem] at hread
  exact absurd hread (by decide)

end Sys2Proof.Machine
end

section
/-! PROOFS. The faults of a bank (R471, R474, R493): FAULT, the log of its quad, and what they leave alone. -/

namespace Sys2Proof.Machine
open Sys2Proof Sys2Proof.Safety

/-! ### The registers of banks -/

/-- The registers of a bank lie in block 0x4, below the fault logs of the quads (R488, R493). -/
def BankReg (f : Fld) : Prop := 0x40000 * 32 ≤ f.key ∧ f.key < 0x41000 * 32

theorem BankReg.block {f : Fld} (h : BankReg f) : block f = 4 := by
  obtain ⟨hlo, hhi⟩ := h
  rw [Safety.block]
  omega

/-- A field of the 16 bytes that bank `n` has is a register of banks. -/
theorem bankReg_of_place {n : Nat} (hn : n < 64) (f : Fld) (hlo : 0x40000 + n * 0x10 ≤ f.addr) (hhi : f.addr ≤ 0x4000C + n * 0x10) (hbit : f.lo < 32) :
    BankReg f := by
  simp only [BankReg, Fld.key]
  omega

theorem bankReg_status {n lo : Nat} (hn : n < 64) (f : Fld) (haddr : f.addr = 0x4000C + n * 0x10) (hf : f.lo = lo) (hlo : lo < 32) : BankReg f :=
  bankReg_of_place hn f (by omega) (by omega) (by omega)

/-! ### The fault log -/

/-- The fields of the fault log of a quad beside VALID (R493). -/
def faultLogRest (q : Nat) : List Fld :=
  [R.ORCH_FAULT_CNT q, R.ORCH_FAULT_INFO_CAUSE q, R.ORCH_FAULT_INFO_PORT q, R.ORCH_FAULT_INFO_BANK q, R.ORCH_FAULT_INFO_WRITE q,
    R.ORCH_FAULT_INFO_AGENT q, R.ORCH_FAULT_INFO_ENGINE q, R.ORCH_FAULT_ADDR q]

theorem key_faultLogRest (q : Nat) : ∀ f ∈ faultLogRest q, 0x41000 * 32 ≤ f.key ∧ (R.ORCH_FAULT_INFO_VALID q).key ≠ f.key := by
  simp only [faultLogRest, List.forall_mem_cons, Fld.key, R.ORCH_FAULT_CNT, R.ORCH_FAULT_INFO_VALID, R.ORCH_FAULT_INFO_CAUSE, R.ORCH_FAULT_INFO_PORT,
    R.ORCH_FAULT_INFO_BANK, R.ORCH_FAULT_INFO_WRITE, R.ORCH_FAULT_INFO_AGENT, R.ORCH_FAULT_INFO_ENGINE, R.ORCH_FAULT_ADDR]
  refine ⟨?_, ?_, ?_, ?_, ?_, ?_, ?_, ?_, by simp⟩ <;> omega

section
variable (d : Dev) (n cause : Nat) (r : Req) (write : Bool) (addr : Nat)

/-- The fault log leaves the registers of banks alone. -/
theorem Dev.get_faultLog {g : Fld} (hg : BankReg g) : (d.faultLog n cause r write addr).get g = d.get g := by
  have hbelow := hg.2
  have hvalid (x : Dev) (v : Nat) : (x.set (R.ORCH_FAULT_INFO_VALID (n / 4)) v).get g = x.get g :=
    Dev.get_set_ne _ _ _ _ (by simp only [Fld.key, R.ORCH_FAULT_INFO_VALID] at hbelow ⊢; omega)
  have hrest : ∀ f ∈ faultLogRest (n / 4), ∀ (x : Dev) (v : Nat), (x.set f v).get g = x.get g := fun f hf x v =>
    Dev.get_set_ne _ _ _ _ (Nat.lt_of_lt_of_le hbelow (key_faultLogRest _ f hf).1).ne
  simp only [faultLogRest, List.forall_mem_cons] at hrest
  simp only [Dev.faultLog, Dev.inc]
  split <;> simp only [hvalid, hrest]

/-- After a fault the log of the quad is valid: it was before, or it is this fault's (R493). -/
theorem Dev.get_faultLog_valid : (d.faultLog n cause r write addr).get (R.ORCH_FAULT_INFO_VALID (n / 4)) = 1 := by
  have hrest : ∀ f ∈ faultLogRest (n / 4), ∀ (x : Dev) (v : Nat),
      (x.set f v).get (R.ORCH_FAULT_INFO_VALID (n / 4)) = x.get (R.ORCH_FAULT_INFO_VALID (n / 4)) := fun f hf x v =>
    Dev.get_set_ne _ _ _ _ (key_faultLogRest _ f hf).2
  simp only [faultLogRest, List.forall_mem_cons] at hrest
  simp only [Dev.faultLog, Dev.inc]
  split
  · next h =>
    have hbit : d.get (R.ORCH_FAULT_INFO_VALID (n / 4)) < 2 := d.get_lt (R.ORCH_FAULT_INFO_VALID (n / 4))
    have hset : d.get (R.ORCH_FAULT_INFO_VALID (n / 4)) ≠ 0 := by simpa [Dev.on] using h
    rw [hrest.1]
    omega
  · simp only [hrest, Dev.get_set_same]
    rfl

/-! ### A fault -/

variable {n} (hn : n < 64)
include hn

/-- The cause of a status bit of a bank leaves the bit at 1. -/
theorem Dev.get_bankCause_same {f : Fld} (i : Nat) (hf : BankReg f) (hw : f.width = 1) : (d.bankCause n f i).get f = 1 := by
  have hblock := hf.block
  exact (Dev.cause_get_same d f _ _ (by omega) (by omega)).trans (by rw [hw]; rfl)

/-- It leaves every other register outside block 0x3 alone. -/
theorem Dev.get_bankCause_ne {f g : Fld} (i : Nat) (hg : block g ≠ 3) (hne : g.key ≠ f.key) : (d.bankCause n f i).get g = d.get g :=
  Dev.cause_get_ne d f g _ _ (by omega) hg hne

theorem bankReg_fault : BankReg (R.BANK_STATUS_FAULT n) := bankReg_status hn (lo := 0) _ rfl rfl (by decide)

theorem Dev.get_bankFault_fault : (d.bankFault n cause r write addr).get (R.BANK_STATUS_FAULT n) = 1 :=
  Dev.get_bankCause_same _ hn _ (bankReg_fault hn) rfl

theorem Dev.get_bankFault_valid : (d.bankFault n cause r write addr).get (R.ORCH_FAULT_INFO_VALID (n / 4)) = 1 := by
  have hplace : block (R.ORCH_FAULT_INFO_VALID (n / 4)) ≠ 3 ∧ (R.ORCH_FAULT_INFO_VALID (n / 4)).key ≠ (R.BANK_STATUS_FAULT n).key := by
    simp only [block, Fld.key, R.ORCH_FAULT_INFO_VALID, R.BANK_STATUS_FAULT]; omega
  rw [Dev.bankFault, Dev.get_bankCause_ne _ hn _ hplace.1 hplace.2, Dev.get_faultLog_valid]

/-- A fault leaves the registers of banks alone, but for its own FAULT. -/
theorem Dev.get_bankFault_ne {g : Fld} (hg : BankReg g) (hne : g.key ≠ (R.BANK_STATUS_FAULT n).key) : (d.bankFault n cause r write addr).get g = d.get g := by
  have hblock := hg.block
  rw [Dev.bankFault, Dev.get_bankCause_ne _ hn _ (by omega) hne, Dev.get_faultLog _ _ _ _ _ _ hg]

end

end Sys2Proof.Machine
end

section
/-! PROOFS. One access of Orchard (R465 to R468, R471, R473, R474, R128, R129): refused by the bank, rejected by a region, or performed. -/

namespace Sys2Proof.Machine
open Sys2Proof Sys2Proof.Safety

/-! ### What a bank refuses -/

theorem Dev.bankRefuses_power {d : Dev} {n : Nat} (q : Req) (h : d.get (R.BANK_POWER_STATE n) ≠ 0) : d.bankRefuses n q = 2 := if_pos h

theorem Dev.bankRefuses_notOwner {d : Dev} {n : Nat} {q : Req} (hon : d.get (R.BANK_POWER_STATE n) = 0) (hc : q.checked = true)
    (h : d.get (R.BANK_OWNER_AGENT n) ≠ q.agent) : d.bankRefuses n q = 1 := by
  simp [Dev.bankRefuses, hon, hc, h]

theorem Dev.bankRefuses_owner {d : Dev} {n : Nat} {q : Req} (hon : d.get (R.BANK_POWER_STATE n) = 0)
    (h : d.get (R.BANK_OWNER_AGENT n) = q.agent) : d.bankRefuses n q = 0 := by
  simp [Dev.bankRefuses, hon, h]

/-! ### The checks of a write -/

section
variable {d : Dev} {q : Req} {addr len : Nat}

theorem Dev.writeCheck_refused (h : d.bankRefuses (addr / 0x80000) q ≠ 0) :
    d.writeCheck q addr len = (d.bankFault (addr / 0x80000) (d.bankRefuses (addr / 0x80000) q) q true (addr % 0x80000), false) := if_pos h

theorem Dev.writeCheck_rejected {g : Nat} (h : d.bankRefuses (addr / 0x80000) q = 0)
    (hat : d.regionAt (addr / 0x80000) (addr % 0x80000) len = some g) (hno : d.regionAllows g (addr % 0x80000) len q = false) :
    d.writeCheck q addr len = (d.set (R.IMG_FLAGS_WRITE_REJ g) 1, false) := by
  simp [Dev.writeCheck, h, hat, Option.filter, hno]

/-- A write that its bank and its region let through, and that covers no part of a word with an uncorrectable error, is performed. It removes the marks
of the words that it covers whole, and changes no register (R467, R468). -/
theorem Dev.writeCheck_allowed (h : d.bankRefuses (addr / 0x80000) q = 0)
    (hregion : ∀ g, d.regionAt (addr / 0x80000) (addr % 0x80000) len = some g → d.regionAllows g (addr % 0x80000) len q = true)
    (hecc : ∀ w ∈ wordsOf addr len, d.eccAt w ≠ some .ue) : (d.writeCheck q addr len).2 = true ∧ (d.writeCheck q addr len).1.regs = d.regs := by
  have hpass : (d.regionAt (addr / 0x80000) (addr % 0x80000) len).filter (fun g => !d.regionAllows g (addr % 0x80000) len q) = none :=
    Option.filter_eq_none_iff.mpr fun g hg => by simp [hregion g hg]
  have hclean : (wordsOf addr len).any (fun w => !wordFull addr len w && d.eccAt w == some .ue) = false :=
    List.any_eq_false.mpr fun w hw => by simp [hecc w hw]
  have hmarks : ((wordsOf addr len).foldl (fun (a : Dev) w => if wordFull addr len w then a.setEcc w none else a) d).regs = d.regs := by
    refine List.foldlRecOn (motive := fun a : Dev => a.regs = d.regs) _ _ rfl fun a ha w _ => ?_
    split
    · exact ha
    · exact ha
  simp only [Dev.writeCheck, h, ne_eq, not_true_eq_false, if_false, hpass, hclean, Bool.false_eq_true]
  exact ⟨trivial, hmarks⟩

/-- A read of words without an error leaves the device as it was. -/
theorem Dev.readEcc_clean (h : ∀ w ∈ wordsOf addr len, d.eccAt w = none) : d.readEcc addr len q = d := by
  refine List.foldlRecOn (motive := fun a : Dev => a = d) _ _ rfl fun a ha w hw => ?_
  subst ha
  rw [h w hw]

end

/-! ### The requester and the offset of a row -/

theorem orchBank_lt (a : OrchAccess) : a.addr % 0x2000000 / 0x80000 < 64 := by omega

theorem orchBankOffset (a : OrchAccess) : a.addr % 0x2000000 % 0x80000 = a.addr % 0x80000 := Nat.mod_mod_of_dvd _ (by decide)

/-- The ports are A to D (R464). -/
theorem Dev.reqOf_port_lt (d : Dev) (a : OrchAccess) : (d.reqOf a).port < 4 := by
  unfold Dev.reqOf Machine.reqOf
  cases a.agent with
  | engine | team | host | hostB | mover | bridle | can | sampler => simp [Req.ofEngine, Req.sys, Req.hostC, Req.portD]

/-! ### The row, alone -/

section
variable (s : State) (a : OrchAccess)

theorem exec_orchardAccess : exec (.orchardAccess a none none) s = .next (s.access a) := rfl

theorem exec_orchardAccess_other (b : OrchAccess) (h : a.addr % 0x2000000 / 0x80000 = b.addr % 0x2000000 / 0x80000) :
    exec (.orchardAccess a (some b) none) s = .next (s.access2 a b) := congrArg Host.Outcome.next (if_pos h)

variable {s a}

theorem State.access_write {bs : List Byte} (h : a.write = some bs) : s.access a = s.orchWrite (s.dev.reqOf a) (a.addr % 0x2000000) bs := by
  simp only [State.access, h]

/-- A read leaves the bytes it returned in `rdata`, and the device as the read leaves it. -/
theorem State.access_read (h : a.write = none) : s.access a =
    { s with dev := { (orchRead s.mem s.dev (s.dev.reqOf a) (a.addr % 0x2000000) a.len).2 with
      rdata := [BitVec.ofNat 32 (leNat (orchRead s.mem s.dev (s.dev.reqOf a) (a.addr % 0x2000000) a.len).1),
        BitVec.ofNat 32 (leNat ((orchRead s.mem s.dev (s.dev.reqOf a) (a.addr % 0x2000000) a.len).1.drop 4))] } } := by
  simp only [State.access, h]

theorem leNat_zeros (k : Nat) : leNat (List.replicate k 0) = 0 := by
  induction k with
  | zero => rfl
  | succ k ih => rw [List.replicate_succ, leNat, ih]; rfl

/-- An access that the bank refuses stores nothing, leaves a fault in the registers, and reads zeros. -/
theorem State.access_refused (h : s.dev.bankRefuses (a.addr % 0x2000000 / 0x80000) (s.dev.reqOf a) ≠ 0) :
    (s.access a).mem = s.mem ∧ (s.access a).dev.regs = (s.dev.bankFault (a.addr % 0x2000000 / 0x80000)
      (s.dev.bankRefuses (a.addr % 0x2000000 / 0x80000) (s.dev.reqOf a)) (s.dev.reqOf a) a.write.isSome (a.addr % 0x80000)).regs ∧
      (a.write = none → (s.access a).dev.rdata = [0, 0]) := by
  cases hw : a.write with
  | none =>
    rw [State.access_read hw, orchRead, if_pos h, orchBankOffset a, List.drop_replicate, leNat_zeros, leNat_zeros]
    exact ⟨rfl, rfl, fun _ => rfl⟩
  | some bs =>
    rw [State.access_write hw, State.orchWrite, Dev.writeCheck_refused h, orchBankOffset a]
    exact ⟨rfl, rfl, fun h => nomatch h⟩

theorem exec_orchardAccess_refused (h : s.dev.bankRefuses (a.addr % 0x2000000 / 0x80000) (s.dev.reqOf a) ≠ 0) :
    ∃ t, exec (.orchardAccess a none none) s = .next t ∧ t.mem = s.mem ∧ t.dev.get (R.BANK_STATUS_FAULT (a.addr % 0x2000000 / 0x80000)) = 1 ∧
      t.dev.get (R.ORCH_FAULT_INFO_VALID (a.addr % 0x2000000 / 0x80000 / 4)) = 1 ∧ (a.write = none → t.dev.rdata = [0, 0]) := by
  obtain ⟨hmem, hregs, hread⟩ := State.access_refused h
  refine ⟨_, exec_orchardAccess s a, hmem, ?_, ?_, hread⟩
  · rw [Dev.get_congr hregs, Dev.get_bankFault_fault _ _ _ _ _ (orchBank_lt a)]
  · rw [Dev.get_congr hregs, Dev.get_bankFault_valid _ _ _ _ _ (orchBank_lt a)]

section
variable {bs : List Byte} (hw : a.write = some bs) (hgrant : s.dev.bankRefuses (a.addr % 0x2000000 / 0x80000) (s.dev.reqOf a) = 0)
include hw hgrant

/-- A write that its region does not allow sets WRITE_REJ of the region and nothing else. -/
theorem exec_orchardAccess_rejected {r : Nat} (hat : s.dev.regionAt (a.addr % 0x2000000 / 0x80000) (a.addr % 0x80000) bs.length = some r)
    (hno : s.dev.regionAllows r (a.addr % 0x80000) bs.length (s.dev.reqOf a) = false) :
    ∃ t, exec (.orchardAccess a none none) s = .next t ∧ t.dev.get (R.IMG_FLAGS_WRITE_REJ r) = 1 ∧ OnlyRegs [R.IMG_FLAGS_WRITE_REJ r] s t := by
  rw [← orchBankOffset a] at hat hno
  have haccess : s.access a = s.on fun d => d.set (R.IMG_FLAGS_WRITE_REJ r) 1 := by
    rw [State.access_write hw, State.orchWrite, Dev.writeCheck_rejected hgrant hat hno]
    rfl
  refine ⟨_, exec_orchardAccess s a, ?_⟩
  rw [haccess]
  exact ⟨Dev.get_set_same .., .set s _ _ (by simp)⟩

/-- A write that is performed stores its bytes there and nowhere else, where memory is canonical. -/
theorem exec_orchardAccess_stores (hm : MemOk s)
    (hregion : ∀ r, s.dev.regionAt (a.addr % 0x2000000 / 0x80000) (a.addr % 0x80000) bs.length = some r →
      s.dev.regionAllows r (a.addr % 0x80000) bs.length (s.dev.reqOf a) = true)
    (hecc : ∀ w ∈ wordsOf (a.addr % 0x2000000) bs.length, s.dev.eccAt w ≠ some .ue) :
    ∃ t, exec (.orchardAccess a none none) s = .next t ∧ t.dev.regs = s.dev.regs ∧ t.pending = s.pending ∧
      (∀ x, (x < a.addr % 0x2000000 ∨ a.addr % 0x2000000 + bs.length ≤ x) → Mem.byte t.mem x = Mem.byte s.mem x) ∧
      (∀ i < bs.length, some (Mem.byte t.mem (a.addr % 0x2000000 + i)) = bs[i]?) := by
  rw [← orchBankOffset a] at hregion
  obtain ⟨hstores, hregs⟩ := Dev.writeCheck_allowed hgrant hregion hecc
  have hmem : (s.access a).mem = Mem.setBytes s.mem (a.addr % 0x2000000) bs := by
    rw [State.access_write hw]
    exact if_pos hstores
  refine ⟨_, exec_orchardAccess s a, by rw [State.access_write hw]; exact hregs, by rw [State.access_write hw]; rfl, ?_⟩
  rw [hmem]
  exact ⟨fun x hx => Mem.byte_setBytes_ne _ _ x bs hx, fun i hi => Mem.byte_setBytes_getElem? _ _ i bs hm hi⟩

end

/-- A read that the bank lets through returns the bytes and stores nothing; of words without an error it changes no register. -/
theorem exec_orchardAccess_reads (hw : a.write = none) (hgrant : s.dev.bankRefuses (a.addr % 0x2000000 / 0x80000) (s.dev.reqOf a) = 0) :
    ∃ t, exec (.orchardAccess a none none) s = .next t ∧ t.mem = s.mem ∧
      t.dev.rdata = [BitVec.ofNat 32 (leNat (Mem.bytes s.mem (a.addr % 0x2000000) a.len)),
        BitVec.ofNat 32 (leNat ((Mem.bytes s.mem (a.addr % 0x2000000) a.len).drop 4))] ∧
      ((∀ w ∈ wordsOf (a.addr % 0x2000000) a.len, s.dev.eccAt w = none) → t.dev.regs = s.dev.regs) := by
  have hread : orchRead s.mem s.dev (s.dev.reqOf a) (a.addr % 0x2000000) a.len =
      (Mem.bytes s.mem (a.addr % 0x2000000) a.len, s.dev.readEcc (a.addr % 0x2000000) a.len (s.dev.reqOf a)) := if_neg (not_not_intro hgrant)
  refine ⟨_, exec_orchardAccess s a, ?_⟩
  rw [State.access_read hw, hread]
  refine ⟨rfl, rfl, fun hclean => ?_⟩
  rw [Dev.readEcc_clean hclean]

end

end Sys2Proof.Machine
end

section
/-! PROOFS. Two accesses of Orchard in one cycle (R478 to R480): which write is stored, and what a read beside a write sees. -/

namespace Sys2Proof.Machine
open Sys2Proof Sys2Proof.Safety

section
variable {s : State} {a b : OrchAccess}

/-- Two of one path are performed one after the other. -/
theorem State.access2_apart (h : portsMeet (s.dev.reqOf a).port (s.dev.reqOf b).port = false) : s.access2 a b = (s.access a).access b := by
  simp [State.access2, h]

/-- Of two writes of one word the one of the lower rank is lost and flagged. -/
theorem State.access2_collision {x y : List Byte} (ha : a.write = some x) (hb : b.write = some y) (hword : a.addr % 0x2000000 / 8 = b.addr % 0x2000000 / 8)
    (hga : s.dev.bankRefuses (a.addr % 0x2000000 / 0x80000) (s.dev.reqOf a) = 0) (hgb : s.dev.bankRefuses (a.addr % 0x2000000 / 0x80000) (s.dev.reqOf b) = 0)
    (hrank : portRank (s.dev.reqOf a).port < portRank (s.dev.reqOf b).port) (hmeet : portsMeet (s.dev.reqOf a).port (s.dev.reqOf b).port = true) :
    s.access2 a b = (s.access a).on fun d => d.writeLost (a.addr % 0x2000000 / 0x80000) (s.dev.reqOf b) (b.addr % 0x80000) := by
  simp [State.access2, hmeet, ha, hb, hword, hga, hgb, hrank.le]

/-- A read through B or D sees the word that is written in its cycle, one through A or C the old word. -/
theorem State.access2_writeRead {x : List Byte} (ha : a.write = some x) (hb : b.write = none)
    (hmeet : portsMeet (s.dev.reqOf a).port (s.dev.reqOf b).port = true) :
    s.access2 a b = if (s.dev.reqOf b).port % 2 = 1 then (s.access a).access b else (s.access b).access a := by
  have hport : ((s.dev.reqOf b).port = 1 ∨ (s.dev.reqOf b).port = 3) ↔ (s.dev.reqOf b).port % 2 = 1 := by
    have := s.dev.reqOf_port_lt b
    omega
  simp [State.access2, hmeet, ha, hb, hport]

theorem exec_orchardAccess_inOrder (hbank : a.addr % 0x2000000 / 0x80000 = b.addr % 0x2000000 / 0x80000)
    (h : portsMeet (s.dev.reqOf a).port (s.dev.reqOf b).port = false ∨ a.write.isSome = true ∧ b.write = none ∧ (s.dev.reqOf b).port % 2 = 1) :
    ∃ t u, exec (.orchardAccess a none none) s = .next u ∧ exec (.orchardAccess b none none) u = .next t ∧
      exec (.orchardAccess a (some b) none) s = .next t := by
  have hboth : s.access2 a b = (s.access a).access b := by
    by_cases hmeet : portsMeet (s.dev.reqOf a).port (s.dev.reqOf b).port = false
    · exact State.access2_apart hmeet
    · obtain ⟨hwrite, hb, hport⟩ := h.resolve_left hmeet
      obtain ⟨x, ha⟩ := Option.isSome_iff_exists.mp hwrite
      rw [State.access2_writeRead ha hb (by simpa using hmeet), if_pos hport]
  exact ⟨_, _, rfl, rfl, (exec_orchardAccess_other s a b hbank).trans (congrArg _ hboth)⟩

theorem exec_orchardAccess_readFirst (hbank : a.addr % 0x2000000 / 0x80000 = b.addr % 0x2000000 / 0x80000) (hwrite : a.write.isSome = true)
    (hb : b.write = none) (hmeet : portsMeet (s.dev.reqOf a).port (s.dev.reqOf b).port = true) (hport : (s.dev.reqOf b).port % 2 = 0) :
    ∃ t u, exec (.orchardAccess b none none) s = .next u ∧ exec (.orchardAccess a none none) u = .next t ∧
      exec (.orchardAccess a (some b) none) s = .next t := by
  obtain ⟨x, ha⟩ := Option.isSome_iff_exists.mp hwrite
  have hboth : s.access2 a b = (s.access b).access a := by
    rw [State.access2_writeRead ha hb hmeet, if_neg (by omega)]
  exact ⟨_, _, rfl, rfl, (exec_orchardAccess_other s a b hbank).trans (congrArg _ hboth)⟩

end

/-! ### The lost write -/

/-- The flag of a lost write names the port that lost. -/
theorem Dev.get_writeLost (d : Dev) {n : Nat} (r : Req) (addr : Nat) (hn : n < 64) :
    (r.port = 0 → (d.writeLost n r addr).get (R.BANK_STATUS_WL_A n) = 1) ∧ (r.port = 1 → (d.writeLost n r addr).get (R.BANK_STATUS_WL_B n) = 1) ∧
      (r.port = 2 → (d.writeLost n r addr).get (R.BANK_STATUS_WL_C n) = 1) := by
  refine ⟨fun h => ?_, fun h => ?_, fun h => ?_⟩ <;> simp only [Dev.writeLost, h]
  · exact Dev.get_bankCause_same _ hn _ (bankReg_status hn (lo := 2) _ rfl rfl (by decide)) rfl
  · exact Dev.get_bankCause_same _ hn _ (bankReg_status hn (lo := 1) _ rfl rfl (by decide)) rfl
  · exact Dev.get_bankCause_same _ hn _ (bankReg_status hn (lo := 3) _ rfl rfl (by decide)) rfl

theorem exec_orchardAccess_collision {s : State} {a b : OrchAccess} {x y : List Byte} (ha : a.write = some x) (hb : b.write = some y)
    (hword : a.addr % 0x2000000 / 8 = b.addr % 0x2000000 / 8)
    (hga : s.dev.bankRefuses (a.addr % 0x2000000 / 0x80000) (s.dev.reqOf a) = 0) (hgb : s.dev.bankRefuses (a.addr % 0x2000000 / 0x80000) (s.dev.reqOf b) = 0)
    (hrank : portRank (s.dev.reqOf a).port < portRank (s.dev.reqOf b).port) (hmeet : portsMeet (s.dev.reqOf a).port (s.dev.reqOf b).port = true) :
    ∃ t u, exec (.orchardAccess a (some b) none) s = .next t ∧ exec (.orchardAccess a none none) s = .next u ∧ t.mem = u.mem ∧
      ((s.dev.reqOf b).port = 0 → t.dev.get (R.BANK_STATUS_WL_A (a.addr % 0x2000000 / 0x80000)) = 1) ∧
      ((s.dev.reqOf b).port = 1 → t.dev.get (R.BANK_STATUS_WL_B (a.addr % 0x2000000 / 0x80000)) = 1) ∧
      ((s.dev.reqOf b).port = 2 → t.dev.get (R.BANK_STATUS_WL_C (a.addr % 0x2000000 / 0x80000)) = 1) := by
  refine ⟨_, _, (exec_orchardAccess_other s a b (by omega)).trans (congrArg _ (State.access2_collision ha hb hword hga hgb hrank hmeet)),
    exec_orchardAccess s a, rfl, ?_⟩
  exact Dev.get_writeLost _ _ _ (orchBank_lt a)

end Sys2Proof.Machine
end

section
/-! PROOFS. The statement on the accesses of Orchard: it asks of every state what canonical memories alone give. -/

namespace Sys2Proof.Machine
open Sys2Proof Sys2Proof.Safety

/-- The state after reset, but for the first byte of Orchard, which its memory lists twice. -/
def orchardListedTwice : State := { State.reset with mem := [(0, 1), (0, 2)] }

/-- A write of 0 to that byte by the edge sampler, whose port is exempt from the checks of owners and regions (R128, R473). -/
def samplerWritesZero : OrchAccess := { agent := .sampler, addr := 0, len := 1, write := some [0] }

/-- The write takes out the first of the two entries alone. -/
theorem exec_write_orchardListedTwice :
    ∃ t, exec (.orchardAccess samplerWritesZero none none) orchardListedTwice = .next t ∧ t.mem = [(0, 2)] := by
  obtain ⟨hstores, -⟩ := Dev.writeCheck_allowed (d := orchardListedTwice.dev) (q := Req.portD) (addr := 0) (len := 1) rfl (fun _ _ => rfl)
    (by decide)
  exact ⟨_, exec_orchardAccess _ _, if_pos (e := [(0, 1), (0, 2)]) hstores⟩

/-- Refutes O40: its clause on the bytes of a write ranges over every state, and in `orchardListedTwice`, whose memory is not in canonical form, a byte
written 0 reads 2. The statement lacks `MemOk` there, no more: for canonical memories, which every step keeps (`memoryInvariant`), that clause is
`exec_orchardAccess_stores`, and the others hold as they stand. They are `exec_orchardAccess_refused`, `Dev.bankRefuses_power`, `_notOwner` and `_owner`,
`exec_orchardAccess_rejected`, `_reads`, `_collision`, `_inOrder` and `_readFirst`. -/
theorem not_orchardAccesses : ¬ Obligations.OrchardAccesses := by
  rintro ⟨-, -, -, stores, -⟩
  obtain ⟨t, ht, -, -, -, hbyte⟩ := stores samplerWritesZero [0] orchardListedTwice rfl rfl (fun _ _ => rfl) (by decide)
  obtain ⟨u, hu, hmem⟩ := exec_write_orchardListedTwice
  obtain rfl := Host.Outcome.next.inj (hu.symm.trans ht)
  have hread : some (Mem.byte u.mem 0) = some 0 := hbyte 0 (by decide)
  rw [hmem] at hread
  exact absurd hread (by decide)

end Sys2Proof.Machine
end

section
/-! PROOFS. Handovers of banks (R475, R476, R490): who may ask for one, and when it takes effect. -/

namespace Sys2Proof.Machine
open Sys2Proof Sys2Proof.Safety

/-! ### The registers of one bank -/

/-- Where the fields of bank `n` lie, and the count of scrub passes. -/
theorem bankKeys (n : Nat) : (R.BANK_OWNER_AGENT n).key = 0x800000 + n * 0x200 ∧ (R.BANK_OWNER_PEND_AGENT n).key = 0x800008 + n * 0x200 ∧
    (R.BANK_OWNER_PEND n).key = 0x80000C + n * 0x200 ∧ (R.BANK_POWER_REQ n).key = 0x800100 + n * 0x200 ∧
    (R.BANK_POWER_STATE n).key = 0x800108 + n * 0x200 ∧ (R.BANK_STATUS_FAULT n).key = 0x800180 + n * 0x200 ∧ R.ORCH_SCRUB_PASSES.key = 0x840080 := by
  simp only [Fld.key, R.BANK_OWNER_AGENT, R.BANK_OWNER_PEND_AGENT, R.BANK_OWNER_PEND, R.BANK_POWER_REQ, R.BANK_POWER_STATE, R.BANK_STATUS_FAULT]
  refine ⟨?_, ?_, ?_, ?_, ?_, ?_, rfl⟩ <;> omega

theorem bankReg_owner {n : Nat} (hn : n < 64) : BankReg (R.BANK_OWNER_AGENT n) ∧ BankReg (R.BANK_OWNER_PEND n) ∧ BankReg (R.BANK_OWNER_PEND_AGENT n) := by
  have hk := bankKeys n
  simp only [BankReg]
  omega

theorem bankReg_power {n : Nat} (hn : n < 64) : BankReg (R.BANK_POWER_REQ n) ∧ BankReg (R.BANK_POWER_STATE n) := by
  have hk := bankKeys n
  simp only [BankReg]
  omega

/-! ### A reserved value beside an effect (R8, R697) -/

/-- From `d` to `d'` a reserved write is noted where `c` says so: Orchard stays as it is. -/
structure RsvNoted (c : Bool) (d d' : Dev) : Prop where
  get : ∀ g, BankReg g → d'.get g = d.get g
  orch : d'.orch = d.orch
  unchanged : c = false → d' = d
  flag : c = true → d'.get R.SYS_DIAG_REG_RSV_WRITE = 1

theorem Dev.rsvIf_noted (d : Dev) (c : Bool) (w : Writer) (off : Nat) : RsvNoted c d (d.rsvIf c w off) := by
  refine ⟨fun g hg => (d.rsvIf_frame c w off).2 g (by rw [hg.block]; decide) (by rw [hg.block]; decide), ?_, fun h => ?_, fun h => ?_⟩
  · unfold Dev.rsvIf Dev.rsvWrite Dev.rsvWriteMap
    split
    · refine (EventFrame.cause _ R.SYS_DIAG_REG_RSV_WRITE true 253 (by decide)).orch.trans ?_
      rw [Dev.set_orch]
      split <;> rfl
    · rfl
  · rw [h]; rfl
  · rw [h]; exact Dev.cause_get_same _ R.SYS_DIAG_REG_RSV_WRITE true 253 (by decide) (by decide)

theorem Dev.rsvWrite_noted (d : Dev) (w : Writer) (off : Nat) : RsvNoted true d (d.rsvWrite w off) := d.rsvIf_noted true w off

/-! ### A request that is refused (R475, R493) -/

theorem Dev.get_handoverRej_fault (d : Dev) (w : Writer) {n : Nat} (hn : n < 64) : (d.handoverRej w n).get (R.BANK_STATUS_FAULT n) = 1 :=
  Dev.get_bankFault_fault _ _ _ _ _ hn

theorem Dev.get_handoverRej_ne (d : Dev) (w : Writer) {n : Nat} (hn : n < 64) {g : Fld} (hg : BankReg g) (hne : g.key ≠ (R.BANK_STATUS_FAULT n).key) :
    (d.handoverRej w n).get g = d.get g := Dev.get_bankFault_ne _ _ _ _ _ hn hg hne

/-! ### What a handover changes -/

theorem Dev.get_setOwner (d : Dev) (n agent : Nat) :
    (d.setOwner n agent).get (R.BANK_OWNER_AGENT n) = agent % 16 ∧ (d.setOwner n agent).get (R.BANK_OWNER_PEND n) = 0 := by
  have hk := bankKeys n
  refine ⟨Dev.get_set_same .., ?_⟩
  rw [Dev.setOwner, Dev.get_set_ne _ _ _ _ (by omega), Dev.cancelHandover, Dev.get_set_ne _ _ _ _ (by omega), Dev.get_set_same, Nat.zero_mod]

theorem Dev.get_cancelHandover (d : Dev) (n : Nat) :
    (d.cancelHandover n).get (R.BANK_OWNER_AGENT n) = d.get (R.BANK_OWNER_AGENT n) ∧ (d.cancelHandover n).get (R.BANK_OWNER_PEND n) = 0 := by
  have hk := bankKeys n
  rw [Dev.cancelHandover, Dev.get_set_ne _ _ _ _ (by omega), Dev.get_set_ne _ _ _ _ (by omega), Dev.get_set_ne _ _ _ _ (by omega), Dev.get_set_same]
  exact ⟨rfl, Nat.zero_mod _⟩

section
variable {d : Dev} {n dest : Nat} {now : Bool}

theorem Dev.handover_toOwner (h : dest = d.get (R.BANK_OWNER_AGENT n)) : d.handover n dest now = d.cancelHandover n := if_pos h

theorem Dev.handover_immediate (h : dest ≠ d.get (R.BANK_OWNER_AGENT n)) (hnow : now = true ∨ d.strideLive = false) :
    d.handover n dest now = d.setOwner n dest := by
  rw [Dev.handover, if_neg h, if_pos (by simpa using hnow)]

theorem Dev.handover_pending (h : dest ≠ d.get (R.BANK_OWNER_AGENT n)) (hnow : now = false) (hlive : d.strideLive = true) :
    d.handover n dest now = (d.set (R.BANK_OWNER_PEND n) 1).set (R.BANK_OWNER_PEND_AGENT n) dest := by
  rw [Dev.handover, if_neg h, if_neg (by simp [hnow, hlive])]

end

/-! ### A write of BANK_HANDOVER -/

theorem bits_target (v : Nat) : bits v 0 4 = v % 16 := rfl

section
variable {d : Dev} {w : Writer} {n v : Nat}

theorem Dev.bankHandoverWrite_foreign (h : agentOf w ≠ d.get (R.BANK_OWNER_AGENT n)) (hb : w ≠ .bridle) :
    d.bankHandoverWrite w n v = d.handoverRej w n := if_pos ⟨h, hb⟩

variable (hw : agentOf w = d.get (R.BANK_OWNER_AGENT n) ∨ w = .bridle)
include hw

/-- The owner of a bank and the Bridle pass the check of a request's writer. -/
theorem bankWriter_not_foreign : ¬ (agentOf w ≠ d.get (R.BANK_OWNER_AGENT n) ∧ w ≠ .bridle) := fun ⟨h, hb⟩ => hw.elim h hb

theorem Dev.bankHandoverWrite_reserved (hv : v % 16 = 15) : d.bankHandoverWrite w n v = d.rsvWrite w (0x40004 + n * 0x10) := by
  rw [Dev.bankHandoverWrite, if_neg (bankWriter_not_foreign hw), bits_target, if_pos hv]

theorem Dev.bankHandoverWrite_locked (hv : v % 16 ≠ 15) (hlock : d.on (R.BANK_OWNER_CFG_LOCK n) = true) :
    d.bankHandoverWrite w n v = d.handoverRej w n := by
  rw [Dev.bankHandoverWrite, if_neg (bankWriter_not_foreign hw), bits_target, if_neg hv, if_pos hlock]

theorem Dev.bankHandoverWrite_accepted (hv : v % 16 ≠ 15) (hlock : d.on (R.BANK_OWNER_CFG_LOCK n) = false) :
    d.bankHandoverWrite w n v = (d.handover n (v % 16) (v.testBit 4)).rsvIf (v / 32 != 0) w (0x40004 + n * 0x10) := by
  rw [Dev.bankHandoverWrite, if_neg (bankWriter_not_foreign hw), bits_target, if_neg hv, if_neg (by simp [hlock])]

end

section
variable {w : Writer} {n : Fin 64} {v : W32} {s : State} (hgrant : Grants s w (R.BANK_HANDOVER_TO n))
include hgrant

theorem exec_bankHandover : exec (.bankHandover w n v) s = .next (s.on fun d => d.bankHandoverWrite w n v.toNat) :=
  State.gate_next (f := R.BANK_HANDOVER_TO n) hgrant rfl

theorem exec_bankHandover_foreign (h : agentOf w ≠ s.dev.get (R.BANK_OWNER_AGENT n)) (hb : w ≠ .bridle) :
    ∃ t, exec (.bankHandover w n v) s = .next t ∧ t.dev.get (R.BANK_OWNER_AGENT n) = s.dev.get (R.BANK_OWNER_AGENT n) ∧
      t.dev.get (R.BANK_OWNER_PEND n) = s.dev.get (R.BANK_OWNER_PEND n) ∧ t.dev.get (R.BANK_STATUS_FAULT n) = 1 ∧ t.mem = s.mem := by
  have hk := bankKeys n
  obtain ⟨howner, hpend, -⟩ := bankReg_owner n.isLt
  refine ⟨_, exec_bankHandover hgrant, ?_⟩
  rw [State.on_dev, Dev.bankHandoverWrite_foreign h hb, Dev.get_handoverRej_ne _ _ n.isLt howner (by omega),
    Dev.get_handoverRej_ne _ _ n.isLt hpend (by omega), Dev.get_handoverRej_fault _ _ n.isLt]
  exact ⟨rfl, rfl, rfl, rfl⟩

variable (hw : agentOf w = s.dev.get (R.BANK_OWNER_AGENT n) ∨ w = .bridle)
include hw

/-- A reserved target and a locked bank change no owner: the one is noted as a reserved value, the other is a fault. -/
theorem exec_bankHandover_refused (h : v.toNat % 16 = 15 ∨ s.dev.on (R.BANK_OWNER_CFG_LOCK n) = true) :
    ∃ t, exec (.bankHandover w n v) s = .next t ∧ t.dev.get (R.BANK_OWNER_AGENT n) = s.dev.get (R.BANK_OWNER_AGENT n) ∧
      t.dev.get (R.BANK_OWNER_PEND n) = s.dev.get (R.BANK_OWNER_PEND n) ∧ t.mem = s.mem ∧
      (v.toNat % 16 = 15 → t.dev.get R.SYS_DIAG_REG_RSV_WRITE = 1) ∧ (v.toNat % 16 ≠ 15 → t.dev.get (R.BANK_STATUS_FAULT n) = 1) := by
  have hk := bankKeys n
  obtain ⟨howner, hpend, -⟩ := bankReg_owner n.isLt
  refine ⟨_, exec_bankHandover hgrant, ?_⟩
  rw [State.on_dev]
  by_cases hv : v.toNat % 16 = 15
  · have hnoted := s.dev.rsvWrite_noted w (0x40004 + n.val * 0x10)
    rw [Dev.bankHandoverWrite_reserved hw hv]
    exact ⟨hnoted.get _ howner, hnoted.get _ hpend, rfl, fun _ => hnoted.flag rfl, fun h => absurd hv h⟩
  · rw [Dev.bankHandoverWrite_locked hw hv (h.resolve_left hv)]
    exact ⟨Dev.get_handoverRej_ne _ _ n.isLt howner (by omega), Dev.get_handoverRej_ne _ _ n.isLt hpend (by omega), rfl, fun h => absurd h hv,
      fun _ => Dev.get_handoverRej_fault _ _ n.isLt⟩

variable (hlock : s.dev.on (R.BANK_OWNER_CFG_LOCK n) = false) (hv : v.toNat % 16 ≠ 15)
include hlock hv

/-- A handover that is accepted: what it does to the bank, and a reserved value noted beside it. -/
theorem exec_bankHandover_accepted :
    ∃ t, exec (.bankHandover w n v) s = .next t ∧ t.mem = s.mem ∧
      (∀ g, BankReg g → t.dev.get g = (s.dev.handover n (v.toNat % 16) (v.toNat.testBit 4)).get g) ∧
      (v.toNat < 32 → t = s.on fun d => d.handover n (v.toNat % 16) (v.toNat.testBit 4)) ∧
      (32 ≤ v.toNat → t.dev.get R.SYS_DIAG_REG_RSV_WRITE = 1) := by
  have hnoted := (s.dev.handover n (v.toNat % 16) (v.toNat.testBit 4)).rsvIf_noted (v.toNat / 32 != 0) w (0x40004 + n.val * 0x10)
  rw [← Dev.bankHandoverWrite_accepted hw hv hlock] at hnoted
  have hhigh (h : 32 ≤ v.toNat) : v.toNat / 32 ≠ 0 := by omega
  refine ⟨_, exec_bankHandover hgrant, rfl, hnoted.get, fun h => ?_, fun h => hnoted.flag (by simpa using hhigh h)⟩
  exact congrArg (fun d => { s with dev := d }) (hnoted.unchanged (by simp [Nat.div_eq_of_lt h]))

/-- At once: the named agent is the owner. -/
theorem exec_bankHandover_immediate (hother : v.toNat % 16 ≠ s.dev.get (R.BANK_OWNER_AGENT n))
    (hnow : v.toNat.testBit 4 = true ∨ s.dev.strideLive = false) :
    ∃ t, exec (.bankHandover w n v) s = .next t ∧ t.dev.get (R.BANK_OWNER_AGENT n) = v.toNat % 16 ∧ t.dev.get (R.BANK_OWNER_PEND n) = 0 ∧ t.mem = s.mem ∧
      (v.toNat < 32 → OnlyRegs [R.BANK_OWNER_AGENT n, R.BANK_OWNER_PEND n, R.BANK_OWNER_PEND_AGENT n] s t) ∧
      (32 ≤ v.toNat → t.dev.get R.SYS_DIAG_REG_RSV_WRITE = 1) := by
  obtain ⟨t, ht, hmem, hget, hlow, hhigh⟩ := exec_bankHandover_accepted hgrant hw hlock hv
  obtain ⟨howner, hpend, -⟩ := bankReg_owner n.isLt
  have heffect := Dev.handover_immediate hother hnow
  obtain ⟨hagent, hnone⟩ := s.dev.get_setOwner n (v.toNat % 16)
  refine ⟨t, ht, ?_, ?_, hmem, fun h => ?_, hhigh⟩
  · rw [hget _ howner, heffect, hagent, Nat.mod_mod]
  · rw [hget _ hpend, heffect, hnone]
  · have hstate : t = s.on fun d => d.setOwner n (v.toNat % 16) := (hlow h).trans (congrArg (fun d => { s with dev := d }) heffect)
    rw [hstate]
    exact .on_set _ (fun _ => v.toNat % 16) (by simp) (.on_set _ (fun _ => 0) (by simp) (.set s _ 0 (by simp)))

/-- With a live stride: the owner stays until the next image flip. -/
theorem exec_bankHandover_pending (hother : v.toNat % 16 ≠ s.dev.get (R.BANK_OWNER_AGENT n)) (hnow : v.toNat.testBit 4 = false)
    (hlive : s.dev.strideLive = true) :
    ∃ t, exec (.bankHandover w n v) s = .next t ∧ t.dev.get (R.BANK_OWNER_AGENT n) = s.dev.get (R.BANK_OWNER_AGENT n) ∧
      t.dev.get (R.BANK_OWNER_PEND n) = 1 ∧ t.dev.get (R.BANK_OWNER_PEND_AGENT n) = v.toNat % 16 ∧ t.mem = s.mem ∧
      (v.toNat < 32 → OnlyRegs [R.BANK_OWNER_PEND n, R.BANK_OWNER_PEND_AGENT n] s t) := by
  obtain ⟨t, ht, hmem, hget, hlow, -⟩ := exec_bankHandover_accepted hgrant hw hlock hv
  have hk := bankKeys n
  obtain ⟨howner, hpend, hagent⟩ := bankReg_owner n.isLt
  have heffect := Dev.handover_pending hother hnow hlive
  refine ⟨t, ht, ?_, ?_, ?_, hmem, fun h => ?_⟩
  · rw [hget _ howner, heffect, Dev.get_set_ne _ _ _ _ (by omega), Dev.get_set_ne _ _ _ _ (by omega)]
  · rw [hget _ hpend, heffect, Dev.get_set_ne _ _ _ _ (by omega), Dev.get_set_same]
    rfl
  · rw [hget _ hagent, heffect, Dev.get_set_same]
    exact Nat.mod_mod ..
  · have hstate : t = s.on fun d => (d.set (R.BANK_OWNER_PEND n) 1).set (R.BANK_OWNER_PEND_AGENT n) (v.toNat % 16) :=
      (hlow h).trans (congrArg (fun d => { s with dev := d }) heffect)
    rw [hstate]
    exact .on_set _ (fun _ => v.toNat % 16) (by simp) (.set s _ 1 (by simp))

/-- To the present owner: a pending handover is cancelled. -/
theorem exec_bankHandover_toOwner (hsame : v.toNat % 16 = s.dev.get (R.BANK_OWNER_AGENT n)) :
    ∃ t, exec (.bankHandover w n v) s = .next t ∧ t.dev.get (R.BANK_OWNER_AGENT n) = s.dev.get (R.BANK_OWNER_AGENT n) ∧
      t.dev.get (R.BANK_OWNER_PEND n) = 0 ∧ t.mem = s.mem := by
  obtain ⟨t, ht, hmem, hget, -, -⟩ := exec_bankHandover_accepted hgrant hw hlock hv
  obtain ⟨howner, hpend, -⟩ := bankReg_owner n.isLt
  obtain ⟨hagent, hnone⟩ := s.dev.get_cancelHandover n
  refine ⟨t, ht, ?_, ?_, hmem⟩
  · rw [hget _ howner, Dev.handover_toOwner hsame, hagent]
  · rw [hget _ hpend, Dev.handover_toOwner hsame, hnone]

end

end Sys2Proof.Machine
end

section
/-! PROOFS. The power states of banks (R470 to R472, R632, R651): requests, transitions, and the retention windows. -/

namespace Sys2Proof.Machine
open Sys2Proof Sys2Proof.Safety

/-! ### The state that a bank is to reach -/

section
variable {d : Dev} {n : Nat}

theorem Dev.bankWants_congr {d' : Dev} (hreq : d'.get (R.BANK_POWER_REQ n) = d.get (R.BANK_POWER_REQ n)) (hwin : d'.orch.window = d.orch.window) :
    d'.bankWants n = d.bankWants n := by
  rw [Dev.bankWants, hreq, hwin, Dev.bankWants]

theorem Dev.bankWants_outside (h : d.orch.window.contains n = false) : d.bankWants n = d.get (R.BANK_POWER_REQ n) :=
  if_neg fun ⟨_, hin⟩ => Bool.false_ne_true (h.symm.trans hin)

theorem Dev.bankWants_inside (hreq : d.get (R.BANK_POWER_REQ n) = 0) (h : d.orch.window.contains n = true) : d.bankWants n = 1 := if_pos ⟨hreq, h⟩

/-! ### A transition -/

/-- From `d` to `d'` bank `n` starts a transition to `st`, and a scrub pass may be complete without it (R469, R470). -/
structure BankMoves (n st : Nat) (d d' : Dev) : Prop where
  state : d'.get (R.BANK_POWER_STATE n) = 3
  orch : d'.orch = { d.orch with target := d.orch.target.put n st, wrapped := d'.orch.wrapped }
  get : ∀ g : Fld, g.key ≠ (R.BANK_POWER_STATE n).key → g.key ≠ R.ORCH_SCRUB_PASSES.key → d'.get g = d.get g

theorem Dev.scrubPass_orch (d : Dev) : d.scrubPass.orch = { d.orch with wrapped := d.scrubPass.orch.wrapped } := by
  obtain h | h := d.scrubPass_eq
  · rw [h]
  · rw [h]; rfl

theorem Dev.bankStart_stays (h : d.get (R.BANK_POWER_STATE n) = 3 ∨ d.get (R.BANK_POWER_STATE n) = d.bankWants n) : d.bankStart n = d := if_pos h

theorem Dev.bankStart_moves (h3 : d.get (R.BANK_POWER_STATE n) ≠ 3) (h : d.get (R.BANK_POWER_STATE n) ≠ d.bankWants n) :
    BankMoves n (d.bankWants n) d (d.bankStart n) := by
  have hk := bankKeys n
  rw [Dev.bankStart, if_neg (not_or.mpr ⟨h3, h⟩)]
  refine ⟨?_, ?_, fun g hstate hpasses => ?_⟩
  · rw [Dev.get_scrubPass _ _ (by omega), Dev.get_set_same]
    rfl
  · rw [Dev.scrubPass_orch, Dev.set_orch]
  · rw [Dev.get_scrubPass _ _ hpasses, Dev.get_set_ne _ _ _ _ hstate]
    rfl

end

/-! ### A write of BANK_POWER -/

section
variable {d : Dev} {w : Writer} {n v : Nat}

theorem bits_request (v : Nat) : bits v 0 2 = v % 4 := rfl

theorem Dev.bankPowerWrite_refused (h : agentOf w ≠ d.get (R.BANK_OWNER_AGENT n) ∧ w ≠ .bridle ∨
    d.on (R.BANK_OWNER_CFG_LOCK n) = true ∧ (v % 4 = 1 ∨ v % 4 = 2)) : d.bankPowerWrite w n v = d.handoverRej w n := by
  by_cases hforeign : agentOf w ≠ d.get (R.BANK_OWNER_AGENT n) ∧ w ≠ .bridle
  · exact if_pos hforeign
  · obtain ⟨hlock, hv⟩ := h.resolve_left hforeign
    simp only [Dev.bankPowerWrite]
    rw [if_neg hforeign, bits_request, if_neg (by omega), if_pos ⟨by omega, hlock⟩]

theorem Dev.bankPowerWrite_accepted (hw : agentOf w = d.get (R.BANK_OWNER_AGENT n) ∨ w = .bridle)
    (hlock : d.on (R.BANK_OWNER_CFG_LOCK n) = false ∨ v % 4 = 0) (hv : v % 4 < 3) : d.bankPowerWrite w n v =
      (d.bankRequest n (v % 4)).rsvIf (v / 2 ^ 10 != 0 || bits v 2 6 != 0) w (0x40008 + n * 0x10) := by
  have hfree : ¬ (v % 4 ≠ 0 ∧ d.on (R.BANK_OWNER_CFG_LOCK n) = true) :=
    fun ⟨hne, hon⟩ => hlock.elim (fun h => Bool.false_ne_true (h.symm.trans hon)) hne
  simp only [Dev.bankPowerWrite]
  rw [if_neg (bankWriter_not_foreign hw), bits_request, if_neg (by omega), if_neg hfree]

/-- The newest request is what a bank outside its window wants. -/
theorem Dev.bankWants_set (hout : d.orch.window.contains n = false) : (d.set (R.BANK_POWER_REQ n) (v % 4)).bankWants n = v % 4 := by
  rw [Dev.bankWants_outside (d := d.set _ _) hout, Dev.get_set_same]
  exact Nat.mod_mod ..

end

section
variable {w : Writer} {n : Fin 64} {v : W32} {s : State} (hgrant : Grants s w (R.BANK_POWER_REQ n))
include hgrant

theorem exec_bankPower : exec (.bankPower w n v) s = .next (s.on fun d => d.bankPowerWrite w n v.toNat) :=
  State.gate_next (f := R.BANK_POWER_REQ n) hgrant rfl

theorem exec_bankPower_refused (h : agentOf w ≠ s.dev.get (R.BANK_OWNER_AGENT n) ∧ w ≠ .bridle ∨
      s.dev.on (R.BANK_OWNER_CFG_LOCK n) = true ∧ (v.toNat % 4 = 1 ∨ v.toNat % 4 = 2)) :
    ∃ t, exec (.bankPower w n v) s = .next t ∧ t.dev.get (R.BANK_POWER_REQ n) = s.dev.get (R.BANK_POWER_REQ n) ∧
      t.dev.get (R.BANK_POWER_STATE n) = s.dev.get (R.BANK_POWER_STATE n) ∧ t.dev.get (R.BANK_STATUS_FAULT n) = 1 ∧ t.mem = s.mem := by
  have hk := bankKeys n
  obtain ⟨hreq, hstate⟩ := bankReg_power n.isLt
  refine ⟨_, exec_bankPower hgrant, ?_⟩
  rw [State.on_dev, Dev.bankPowerWrite_refused h, Dev.get_handoverRej_ne _ _ n.isLt hreq (by omega), Dev.get_handoverRej_ne _ _ n.isLt hstate (by omega),
    Dev.get_handoverRej_fault _ _ n.isLt]
  exact ⟨rfl, rfl, rfl, rfl⟩

variable (hw : agentOf w = s.dev.get (R.BANK_OWNER_AGENT n) ∨ w = .bridle)
  (hlock : s.dev.on (R.BANK_OWNER_CFG_LOCK n) = false ∨ v.toNat % 4 = 0) (hv : v.toNat % 4 < 3)
include hw hlock hv

/-- A request that is accepted: what it does to the bank, and a reserved value noted beside it. -/
theorem exec_bankPower_accepted :
    ∃ t, exec (.bankPower w n v) s = .next t ∧ t.mem = s.mem ∧ (∀ g, BankReg g → t.dev.get g = (s.dev.bankRequest n (v.toNat % 4)).get g) ∧
      t.dev.orch = (s.dev.bankRequest n (v.toNat % 4)).orch ∧ (v.toNat < 4 → t = s.on fun d => d.bankRequest n (v.toNat % 4)) := by
  have hnoted := (s.dev.bankRequest n (v.toNat % 4)).rsvIf_noted (v.toNat / 2 ^ 10 != 0 || bits v.toNat 2 6 != 0) w (0x40008 + n.val * 0x10)
  rw [← Dev.bankPowerWrite_accepted hw hlock hv] at hnoted
  refine ⟨_, exec_bankPower hgrant, rfl, hnoted.get, hnoted.orch, fun h => ?_⟩
  have hnone : (v.toNat / 2 ^ 10 != 0 || bits v.toNat 2 6 != 0) = false := by
    rw [bits_eq_zero_of_lt h, Nat.div_eq_of_lt (by omega)]
    rfl
  exact congrArg (fun d => { s with dev := d }) (hnoted.unchanged hnone)

variable (hout : s.dev.orch.window.contains n.val = false)
include hout

/-- A request for another state of a bank at rest starts a transition. -/
theorem exec_bankPower_starts (h3 : s.dev.get (R.BANK_POWER_STATE n) ≠ 3) (hother : s.dev.get (R.BANK_POWER_STATE n) ≠ v.toNat % 4) :
    ∃ t, exec (.bankPower w n v) s = .next t ∧ t.dev.get (R.BANK_POWER_REQ n) = v.toNat % 4 ∧ t.dev.get (R.BANK_POWER_STATE n) = 3 ∧
      t.dev.orch.target = s.dev.orch.target.put n (v.toNat % 4) ∧ t.mem = s.mem ∧
      (v.toNat < 4 → KeepsRegs [R.BANK_POWER_REQ n, R.BANK_POWER_STATE n, R.ORCH_SCRUB_PASSES] s t) := by
  obtain ⟨t, ht, hmem, hget, horch, hlow⟩ := exec_bankPower_accepted hgrant hw hlock hv
  have hk := bankKeys n
  obtain ⟨hreq, hstate⟩ := bankReg_power n.isLt
  have hwants := Dev.bankWants_set (v := v.toNat) hout
  have hkept : (s.dev.set (R.BANK_POWER_REQ n) (v.toNat % 4)).get (R.BANK_POWER_STATE n) = s.dev.get (R.BANK_POWER_STATE n) :=
    Dev.get_set_ne _ _ _ _ (by omega)
  have hmoves : BankMoves n (v.toNat % 4) (s.dev.set (R.BANK_POWER_REQ n) (v.toNat % 4)) (s.dev.bankRequest n (v.toNat % 4)) := by
    have h := Dev.bankStart_moves (hkept ▸ h3) (by rwa [hkept, hwants])
    rwa [hwants] at h
  refine ⟨t, ht, ?_, ?_, ?_, hmem, fun h => ?_⟩
  · rw [hget _ hreq, hmoves.get _ (by omega) (by omega), Dev.get_set_same]
    exact Nat.mod_mod ..
  · rw [hget _ hstate, hmoves.state]
  · rw [horch, hmoves.orch, Dev.set_orch]
  · rw [hlow h]
    refine ⟨rfl, rfl, fun g hg => ?_⟩
    rw [State.on_dev, hmoves.get g (hg _ (by simp)) (hg _ (by simp)), Dev.get_set_ne _ _ _ _ (hg _ (by simp))]

/-- During a transition a request is kept as the newest one, and one for the present state has nothing to start. -/
theorem exec_bankPower_kept
    (h : s.dev.get (R.BANK_POWER_STATE n) = 3 ∨ s.dev.get (R.BANK_POWER_STATE n) = v.toNat % 4) :
    ∃ t, exec (.bankPower w n v) s = .next t ∧ t.dev.get (R.BANK_POWER_REQ n) = v.toNat % 4 ∧
      t.dev.get (R.BANK_POWER_STATE n) = s.dev.get (R.BANK_POWER_STATE n) ∧ t.dev.orch.target = s.dev.orch.target ∧ t.mem = s.mem := by
  obtain ⟨t, ht, hmem, hget, horch, -⟩ := exec_bankPower_accepted hgrant hw hlock hv
  have hk := bankKeys n
  obtain ⟨hreq, hstate⟩ := bankReg_power n.isLt
  have hkept : (s.dev.set (R.BANK_POWER_REQ n) (v.toNat % 4)).get (R.BANK_POWER_STATE n) = s.dev.get (R.BANK_POWER_STATE n) :=
    Dev.get_set_ne _ _ _ _ (by omega)
  have hstays : s.dev.bankRequest n (v.toNat % 4) = s.dev.set (R.BANK_POWER_REQ n) (v.toNat % 4) :=
    Dev.bankStart_stays (by rwa [hkept, Dev.bankWants_set hout])
  rw [hstays] at hget horch
  refine ⟨t, ht, ?_, ?_, ?_, hmem⟩
  · rw [hget _ hreq, Dev.get_set_same]
    exact Nat.mod_mod ..
  · rw [hget _ hstate, hkept]
  · rw [horch, Dev.set_orch]

end

/-! ### A transition that is done -/

/-- A range cleared reads 0, and the bytes outside it keep their values. -/
theorem Mem.byte_clearRange (m : List Host.Cell) (lo n a : Nat) :
    Mem.byte (Mem.clearRange m lo n) a = if lo ≤ a ∧ a < lo + n then 0 else Mem.byte m a := by
  unfold Mem.clearRange
  induction m with
  | nil => exact (ite_self _).symm
  | cons c r ih =>
    obtain ⟨x, b⟩ := c
    rw [List.filter_cons]
    by_cases hx : x < lo ∨ lo + n ≤ x
    · rw [if_pos (by simpa using hx), Mem.byte, Mem.byte, ih]
      by_cases hxa : x = a
      · rw [if_pos hxa, if_pos hxa, if_neg (by omega)]
      · rw [if_neg hxa, if_neg hxa]
    · rw [if_neg (by simpa using hx), ih]
      split
      · rfl
      · next ha => rw [Mem.byte, if_neg (by omega)]

/-- A bank whose target is still the newest request stays there. -/
theorem Dev.bankPowerDone_reached {d : Dev} {n st : Nat} (ht : Tab.find? d.orch.target n = some st) (hst : st < 4) (hwants : d.bankWants n = st) :
    d.bankPowerDone n = ({ d with orch := { d.orch with target := d.orch.target.del n } } : Dev).set (R.BANK_POWER_STATE n) st := by
  have hk := bankKeys n
  generalize hdone : ({ d with orch := { d.orch with target := d.orch.target.del n } } : Dev).set (R.BANK_POWER_STATE n) st = d1
  have hstate : d1.get (R.BANK_POWER_STATE n) = st := by
    rw [← hdone, Dev.get_set_same]
    exact Nat.mod_eq_of_lt hst
  have hreq : d1.get (R.BANK_POWER_REQ n) = d.get (R.BANK_POWER_REQ n) := by
    rw [← hdone, Dev.get_set_ne _ _ _ _ (by omega)]
    rfl
  have hwin : d1.orch.window = d.orch.window := by rw [← hdone]; rfl
  have hstart : d.bankPowerDone n = d1.bankStart n := by rw [Dev.bankPowerDone, ht, ← hdone]
  rw [hstart, Dev.bankStart_stays (.inr (hstate.trans ((Dev.bankWants_congr hreq hwin).trans hwants).symm))]

theorem exec_bankPowerDone (n : Fin 64) (s : State) : exec (.bankPowerDone n) s = .next (s.bankPowerDone n) := rfl

section
variable {n : Fin 64} {s : State}

/-- A bank turned off has lost its contents. -/
theorem exec_bankPowerDone_off (ht : Tab.find? s.dev.orch.target n = some 2) (hwants : s.dev.bankWants n = 2) :
    ∃ t, exec (.bankPowerDone n) s = .next t ∧ t.dev.get (R.BANK_POWER_STATE n) = 2 ∧ (∀ i < 0x80000, Mem.byte t.mem (bankBase n + i) = 0) ∧
      (∀ x, (x < bankBase n ∨ bankBase n + 0x80000 ≤ x) → Mem.byte t.mem x = Mem.byte s.mem x) ∧
      (∀ g : Fld, g.key ≠ (R.BANK_POWER_STATE n).key → t.dev.get g = s.dev.get g) := by
  have hdone : s.bankPowerDone n =
      { s with dev := (s.dev.bankPowerDone n).clearBankEcc n, mem := Mem.clearRange s.mem (bankBase n) 0x80000 } := by
    simp only [State.bankPowerDone, ht]
  have hget (g : Fld) : ((s.dev.bankPowerDone n).clearBankEcc n).get g = (s.dev.set (R.BANK_POWER_STATE n) 2).get g := by
    rw [Dev.bankPowerDone_reached ht (by decide) hwants]
    rfl
  refine ⟨_, exec_bankPowerDone n s, ?_⟩
  rw [hdone]
  refine ⟨?_, fun i hi => ?_, fun x hx => ?_, fun g hg => ?_⟩
  · rw [hget, Dev.get_set_same]
    rfl
  · rw [Mem.byte_clearRange, if_pos (by omega)]
  · rw [Mem.byte_clearRange, if_neg (by omega)]
  · rw [hget, Dev.get_set_ne _ _ _ _ hg]

theorem exec_bankPowerDone_keeps {st : Nat} (ht : Tab.find? s.dev.orch.target n = some st) (hst : st < 2) (hwants : s.dev.bankWants n = st) :
    ∃ t, exec (.bankPowerDone n) s = .next t ∧ t.dev.get (R.BANK_POWER_STATE n) = st ∧ KeepsRegs [R.BANK_POWER_STATE n] s t := by
  have hdone : s.bankPowerDone n = s.on fun d => d.bankPowerDone n := by
    rw [State.bankPowerDone, ht]
    split
    · next h => cases h; omega
    · rfl
  have hget (g : Fld) : (s.dev.bankPowerDone n).get g = (s.dev.set (R.BANK_POWER_STATE n) st).get g := by
    rw [Dev.bankPowerDone_reached ht (by omega) hwants]
    rfl
  refine ⟨_, exec_bankPowerDone n s, ?_⟩
  rw [hdone]
  refine ⟨?_, rfl, rfl, fun g hg => ?_⟩
  · rw [State.on_dev, hget, Dev.get_set_same]
    exact Nat.mod_eq_of_lt (by omega : st < 4)
  · rw [State.on_dev, hget, Dev.get_set_ne _ _ _ _ (hg _ (by simp))]

end

/-! ### Retention windows -/

theorem timeRegs_block_time : ∀ f ∈ timeRegs, block f = 5 := by decide

/-- Time leaves the registers of banks alone. -/
theorem TimeFrame.get_bankReg {d d' : Dev} (h : TimeFrame d d') {g : Fld} (hg : BankReg g) : d'.get g = d.get g :=
  h.get g fun f hf => key_ne_of_block_ne (by rw [hg.block, timeRegs_block_time f hf]; decide)

theorem Dev.hasWindow_eq (d : Dev) (n : Nat) : d.hasWindow n = (d.get (R.BANK_RET_START n) != 0 || d.get (R.BANK_RET_END n) != 0) := by
  have hzero (k : Nat) : (8 * k != 0) = (k != 0) := by simp [bne]
  rw [Dev.hasWindow, Dev.retStart, Dev.retEnd, hzero, hzero]

/-- Time passes to `d1`, the banks inside their windows become those of `l`, and bank `n` then wants another state: it starts its transition, and nothing
else changes but what time changes. -/
theorem windowChange (s : State) {d1 : Dev} {n st st' : Nat} {l : List Nat} (hn : n < 64) (htime : TimeFrame s.dev d1)
    (hstate : s.dev.get (R.BANK_POWER_STATE n) = st) (hwants : (d1.setWindow l).bankWants n = st') (h3 : st ≠ 3) (hne : st ≠ st') :
    ((d1.setWindow l).bankStart n).orch.window = l ∧ ((d1.setWindow l).bankStart n).get (R.BANK_POWER_STATE n) = 3 ∧
      Tab.find? ((d1.setWindow l).bankStart n).orch.target n = some st' ∧
      KeepsRegs ([R.BANK_POWER_STATE n, R.ORCH_SCRUB_PASSES] ++ timeRegs) s { s with dev := (d1.setWindow l).bankStart n } := by
  have hkept : (d1.setWindow l).get (R.BANK_POWER_STATE n) = st := (htime.get_bankReg (bankReg_power hn).2).trans hstate
  have hmoves : BankMoves n st' (d1.setWindow l) ((d1.setWindow l).bankStart n) := by
    have h := Dev.bankStart_moves (hkept ▸ h3) (by rwa [hkept, hwants])
    rwa [hwants] at h
  refine ⟨?_, hmoves.state, ?_, rfl, rfl, fun g hg => ?_⟩
  · rw [hmoves.orch]
    rfl
  · rw [hmoves.orch]
    exact Tab.find?_put_same ..
  · exact (hmoves.get g (hg _ (by simp)) (hg _ (by simp))).trans (htime.get g fun f hf => hg f (List.mem_append_right _ hf))

section
variable {n : Fin 64} {s : State} (hreq : s.dev.get (R.BANK_POWER_REQ n) = 0)
include hreq

/-- The start of a window moves a bank that is to be ON to RETENTION. -/
theorem exec_bankRetentionEnter (hwindow : s.dev.hasWindow n = true) (hrun : s.dev.on R.STRIDE_STATUS_RUNNING = true)
    (hout : s.dev.orch.window.contains n.val = false) (hon : s.dev.get (R.BANK_POWER_STATE n) = 0) :
    ∃ t, exec (.bankRetentionEnter n) s = .next t ∧ t.dev.orch.window.contains n.val = true ∧ t.dev.get (R.BANK_POWER_STATE n) = 3 ∧
      Tab.find? t.dev.orch.target n = some 1 ∧ KeepsRegs ([R.BANK_POWER_STATE n, R.ORCH_SCRUB_PASSES] ++ timeRegs) s t := by
  generalize hd1 : s.dev.passStride ((s.dev.edgeNs s.dev.stride.last + s.dev.retStart n) * 2 ^ 32) = d1
  have htime : TimeFrame s.dev d1 := hd1 ▸ .passAhead ..
  have henter : s.dev.retentionEnter n = (d1.setWindow (n.val :: d1.orch.window)).bankStart n := by
    have hmem : n.val ∉ s.dev.orch.window := by simpa using hout
    rw [← hd1]
    exact if_neg (by simp [hwindow, hrun, hmem])
  have hwants : (d1.setWindow (n.val :: d1.orch.window)).bankWants n = 1 :=
    Dev.bankWants_inside ((htime.get_bankReg (bankReg_power n.isLt).1).trans hreq) (by simp [Dev.setWindow])
  obtain ⟨hwin, hstate, htarget, hkeeps⟩ := windowChange s n.isLt htime hon hwants (by decide) (by decide)
  rw [← henter] at hwin hstate htarget hkeeps
  exact ⟨s.on fun d => d.retentionEnter n, rfl, by rw [State.on_dev, hwin]; simp, hstate, htarget, hkeeps⟩

/-- The end of a window moves it back. -/
theorem exec_bankRetentionExit (hwindow : s.dev.orch.window = [n.val]) (hret : s.dev.get (R.BANK_POWER_STATE n) = 1) :
    ∃ t, exec (.bankRetentionExit n) s = .next t ∧ t.dev.orch.window = [] ∧ t.dev.get (R.BANK_POWER_STATE n) = 3 ∧
      Tab.find? t.dev.orch.target n = some 0 ∧ KeepsRegs ([R.BANK_POWER_STATE n, R.ORCH_SCRUB_PASSES] ++ timeRegs) s t := by
  generalize hd1 : s.dev.passStride ((s.dev.edgeNs s.dev.stride.last + (s.dev.retEnd n - 200)) * 2 ^ 32) = d1
  have htime : TimeFrame s.dev d1 := hd1 ▸ .passAhead ..
  have horch : d1.orch = s.dev.orch := by rw [htime.rest]
  have hexit : s.dev.retentionExit n = (d1.setWindow []).bankStart n := by
    have herase : d1.orch.window.erase n.val = [] := by rw [horch, hwindow, List.erase_cons_head]
    rw [← herase, ← hd1]
    exact if_neg (by simp [hwindow])
  have hwants : (d1.setWindow []).bankWants n = 0 :=
    (Dev.bankWants_outside rfl).trans ((htime.get_bankReg (bankReg_power n.isLt).1).trans hreq)
  obtain ⟨hwin, hstate, htarget, hkeeps⟩ := windowChange s n.isLt htime hret hwants (by decide) (by decide)
  rw [← hexit] at hwin hstate htarget hkeeps
  exact ⟨s.on fun d => d.retentionExit n, rfl, hwin, hstate, htarget, hkeeps⟩

end

/-- Settles O42, row by row: a handover by its cases, a power request by `exec_bankPower_starts`, `_kept` and `_refused`, a transition's end by
`exec_bankPowerDone_off` and `_keeps`, a window by `windowChange`. -/
theorem bankOwnershipAndPower : Obligations.BankOwnershipAndPower :=
  ⟨fun _ _ _ _ => rfl,
   fun _ _ _ _ => exec_bankHandover_immediate,
   fun _ _ _ _ => exec_bankHandover_pending,
   fun _ _ _ _ => exec_bankHandover_toOwner,
   fun _ _ _ _ => exec_bankHandover_foreign,
   fun _ _ _ _ => exec_bankHandover_refused,
   fun _ _ _ _ => rfl,
   fun _ _ _ _ hgrant hw hlock hv h3 hother hout => exec_bankPower_starts hgrant hw hlock hv hout h3 hother,
   fun _ _ _ _ => exec_bankPower_kept,
   fun _ _ _ _ => exec_bankPower_refused,
   fun _ _ => exec_bankPowerDone_off,
   fun _ _ _ => exec_bankPowerDone_keeps,
   fun d n => ⟨d.hasWindow_eq n, rfl, rfl⟩,
   fun _ _ hwindow hrun hout hreq hon => exec_bankRetentionEnter hreq hwindow hrun hout hon,
   fun _ _ hwindow hreq hret => exec_bankRetentionExit hreq hwindow hret⟩

end Sys2Proof.Machine
end

section
/-! PROOFS. The statement on what a step carries out (R706, R72). -/

namespace Sys2Proof.Machine
open Sys2Proof Sys2Proof.Safety

/-- Settles O1: the two cases of a step; no word is decoded, whatever its width. -/
theorem stepRunsFront : Obligations.StepRunsFront :=
  ⟨fun c rest s h => step_of_pending s c rest h, step_of_empty, fun _ _ _ => ⟨rfl, rfl⟩⟩

end Sys2Proof.Machine
end

section
/-! PROOFS. Numbers built bit by bit: levels put into a word at their offsets (R504, R509), and levels collected into a word (R505). -/

namespace Sys2Proof.Machine
open Sys2Proof

/-- A number with one bit given a value. -/
def bitPut (a o : Nat) (b : Bool) : Nat := if b then a ||| 2 ^ o else if a.testBit o then a - 2 ^ o else a

/-- A bit that is 1 taken away: what lies above it and what lies below keep their values. -/
theorem testBit_sub_two_pow {a o : Nat} (h : a.testBit o = true) (p : Nat) : (a - 2 ^ o).testBit p = (a.testBit p && decide (p ≠ o)) := by
  obtain ⟨high, low, hlow, rfl⟩ : ∃ high low, low < 2 ^ o ∧ a = 2 ^ (o + 1) * high + (2 ^ o + low) := by
    have hhalf : a / 2 ^ o % 2 = 1 := by simpa [Nat.testBit_eq_decide_div_mod_eq] using h
    have hmod := Nat.mod_lt a (Nat.two_pow_pos o)
    refine ⟨a / 2 ^ o / 2, a % 2 ^ o, hmod, ?_⟩
    calc a = 2 ^ o * (2 * (a / 2 ^ o / 2) + 1) + a % 2 ^ o := by
            rw [show 2 * (a / 2 ^ o / 2) + 1 = a / 2 ^ o by omega, Nat.div_add_mod]
      _ = _ := by ring
  have hpow : 2 ^ (o + 1) = 2 ^ o + 2 ^ o := by ring
  rw [show 2 ^ (o + 1) * high + (2 ^ o + low) - 2 ^ o = 2 ^ (o + 1) * high + low by omega, Nat.testBit_two_pow_mul_add _ (by omega),
    Nat.testBit_two_pow_mul_add _ (by omega)]
  obtain hp | hp | hp := Nat.lt_trichotomy p o
  · simp [hp.ne, Nat.lt_succ_of_lt hp, Nat.testBit_two_pow_add_gt hp]
  · simp [hp, Nat.testBit_lt_two_pow hlow]
  · simp [show ¬ p < o + 1 by omega, hp.ne']

theorem testBit_bitPut (a o p : Nat) (b : Bool) : (bitPut a o b).testBit p = if p = o then b else a.testBit p := by
  unfold bitPut
  by_cases hp : p = o
  · subst hp
    cases b with
    | true => simp
    | false =>
      cases h : a.testBit p with
      | true => simp [testBit_sub_two_pow h]
      | false => simp [h]
  · cases b with
    | true => simp [hp, Ne.symm hp]
    | false =>
      cases h : a.testBit o with
      | true => simp [testBit_sub_two_pow h, hp]
      | false => simp [hp]

/-- A run of bits put from an offset on. -/
theorem testBit_foldl_bitPut (a base k : Nat) (f : Nat → Bool) (p : Nat) :
    ((List.range k).foldl (fun a i => bitPut a (base + i) (f i)) a).testBit p = if base ≤ p ∧ p < base + k then f (p - base) else a.testBit p := by
  induction k with
  | zero => rw [if_neg (by omega)]; rfl
  | succ k ih =>
    rw [List.range_succ, List.foldl_append, List.foldl_cons, List.foldl_nil, testBit_bitPut, ih]
    by_cases hp : p = base + k
    · rw [if_pos hp, if_pos (by omega), hp, Nat.add_sub_cancel_left]
    · rw [if_neg hp]
      by_cases hin : base ≤ p ∧ p < base + k
      · rw [if_pos hin, if_pos (by omega)]
      · rw [if_neg hin, if_neg (by omega)]

/-- The number whose bits below `k` are given. -/
def bitWord (f : Nat → Bool) (k : Nat) : Nat := (List.range k).foldl (fun a o => if f o then a + 2 ^ o else a) 0

theorem bitWord_succ (f : Nat → Bool) (k : Nat) : bitWord f (k + 1) = bitWord f k + if f k then 2 ^ k else 0 := by
  rw [bitWord, List.range_succ, List.foldl_append, List.foldl_cons, List.foldl_nil, ← bitWord]
  split <;> rfl

theorem bitWord_lt (f : Nat → Bool) (k : Nat) : bitWord f k < 2 ^ k := by
  induction k with
  | zero => exact Nat.one_pos
  | succ k ih =>
    rw [bitWord_succ, Nat.pow_succ]
    split <;> omega

theorem testBit_bitWord (f : Nat → Bool) (k p : Nat) : (bitWord f k).testBit p = (decide (p < k) && f p) := by
  induction k with
  | zero => simp [bitWord]
  | succ k ih =>
    have hlt := bitWord_lt f k
    rw [bitWord_succ]
    by_cases hp : p = k
    · subst hp
      cases h : f p with
      | true => simp [Nat.add_comm, Nat.testBit_two_pow_add_eq, Nat.testBit_lt_two_pow hlt]
      | false => simp [Nat.testBit_lt_two_pow hlt]
    · have hshort : decide (p < k + 1) = decide (p < k) := by simp; omega
      rw [hshort, ← ih]
      split
      · obtain hlo | hhi := Nat.lt_or_gt_of_ne hp
        · rw [Nat.add_comm, Nat.testBit_two_pow_add_gt hlo]
        · have hpow := Nat.pow_le_pow_right Nat.two_pos hhi
          rw [Nat.testBit_lt_two_pow (by rw [Nat.pow_succ] at hpow; omega), Nat.testBit_lt_two_pow (by rw [Nat.pow_succ] at hpow; omega)]
      · rfl

end Sys2Proof.Machine
end

section
/-! PROOFS. The instructions of a Stirrup machine that runs (R503 to R511, R514). -/

namespace Sys2Proof.Machine
open Sys2Proof Sys2Proof.Safety

/-! ### Registers, causes, time -/

/-- Where the registers of a machine lie, and the causes of its block (R527). -/
theorem stirKeys (b m : Nat) : (R.STIR_MCTRL_EN b m).key = 0x1004000 + b * 0x20000 + m * 0x800 ∧
    (R.STIR_MLANES01_BASE0 b m).key = 0x1004080 + b * 0x20000 + m * 0x800 ∧ (R.STIR_MLANES01_W0 b m).key = 0x1004085 + b * 0x20000 + m * 0x800 ∧
    (R.STIR_MLANES01_BASE1 b m).key = 0x1004090 + b * 0x20000 + m * 0x800 ∧ (R.STIR_MLANES01_W1 b m).key = 0x1004095 + b * 0x20000 + m * 0x800 ∧
    (R.STIR_MSHIFT_PN_EN b m).key = 0x1004104 + b * 0x20000 + m * 0x800 ∧ (R.STIR_MSHIFT_PN b m).key = 0x1004105 + b * 0x20000 + m * 0x800 ∧
    (R.STIR_MSHIFT_UNIT_M1 b m).key = 0x100410B + b * 0x20000 + m * 0x800 ∧
    (R.STIR_WRAP_BOTTOM b m).key = 0x1004180 + b * 0x20000 + m * 0x800 ∧ (R.STIR_WRAP_TOP b m).key = 0x1004188 + b * 0x20000 + m * 0x800 ∧
    (R.STIR_MSTATUS_CFG_REJ b m).key = 0x1004200 + b * 0x20000 + m * 0x800 ∧ (R.STIR_MSTATUS_UNDERFLOW b m).key = 0x1004201 + b * 0x20000 + m * 0x800 ∧
    (R.STIR_MSTATUS_OVERFLOW b m).key = 0x1004202 + b * 0x20000 + m * 0x800 ∧ (R.STIR_MSTATUS_WR_DROP b m).key = 0x1004203 + b * 0x20000 + m * 0x800 ∧
    (R.STIR_MSTATUS_LATE b m).key = 0x1004204 + b * 0x20000 + m * 0x800 ∧ (R.STIR_MSTATUS_ILLEGAL b m).key = 0x1004205 + b * 0x20000 + m * 0x800 ∧
    (R.STIR_MSTATUS_SIGNAL b m).key = 0x1004206 + b * 0x20000 + m * 0x800 ∧
    (R.STIR_MLANES23_BASE2 b m).key = 0x1004400 + b * 0x20000 + m * 0x800 ∧ (R.STIR_MLANES23_W2 b m).key = 0x1004405 + b * 0x20000 + m * 0x800 ∧
    (R.STIR_MLANES23_BASE3 b m).key = 0x1004410 + b * 0x20000 + m * 0x800 ∧ (R.STIR_MLANES23_W3 b m).key = 0x1004415 + b * 0x20000 + m * 0x800 := by
  simp only [Fld.key, R.STIR_MCTRL_EN, R.STIR_MLANES01_BASE0, R.STIR_MLANES01_W0, R.STIR_MLANES01_BASE1, R.STIR_MLANES01_W1, R.STIR_MSHIFT_PN_EN,
    R.STIR_MSHIFT_PN, R.STIR_MSHIFT_UNIT_M1, R.STIR_WRAP_BOTTOM, R.STIR_WRAP_TOP, R.STIR_MSTATUS_CFG_REJ, R.STIR_MSTATUS_UNDERFLOW,
    R.STIR_MSTATUS_OVERFLOW, R.STIR_MSTATUS_WR_DROP, R.STIR_MSTATUS_LATE, R.STIR_MSTATUS_ILLEGAL, R.STIR_MSTATUS_SIGNAL, R.STIR_MLANES23_BASE2,
    R.STIR_MLANES23_W2, R.STIR_MLANES23_BASE3, R.STIR_MLANES23_W3]
  omega

/-- Where the registers lie that show a machine (R527). -/
theorem machRegs_keys (b m : Nat) : (R.STIR_MSTATUS_RX_LEVEL b m).key = 0x1004208 + b * 0x20000 + m * 0x800 ∧
    (R.STIR_MSTATUS_PC b m).key = 0x100420C + b * 0x20000 + m * 0x800 ∧ (R.STIR_MSTATUS_STATE b m).key = 0x1004218 + b * 0x20000 + m * 0x800 ∧
    (R.STIR_TX_LEVEL b m).key = 0x1004380 + b * 0x20000 + m * 0x800 ∧ (R.STIR_MOE b m).key = 0x1004480 + b * 0x20000 + m * 0x800 ∧
    (R.STIR_MFILL_XFILL b m).key = 0x1004500 + b * 0x20000 + m * 0x800 ∧ (R.STIR_MFILL_RFILL b m).key = 0x1004508 + b * 0x20000 + m * 0x800 := by
  simp only [Fld.key, R.STIR_MSTATUS_RX_LEVEL, R.STIR_MSTATUS_PC, R.STIR_MSTATUS_STATE, R.STIR_TX_LEVEL, R.STIR_MOE, R.STIR_MFILL_XFILL,
    R.STIR_MFILL_RFILL]
  omega

/-- A field whose place in the page of its machine is none of those that show the machine is not one of these. -/
theorem machRegs_apart {i : Nat} {g : Fld} (h : g.key % 0x800 < 0x207 ∨ g.key % 0x800 = 0x400 ∨ g.key % 0x800 = 0x405 ∨ g.key % 0x800 = 0x410 ∨
    g.key % 0x800 = 0x415) : ∀ f ∈ machRegs i, g.key ≠ f.key := by
  obtain ⟨h1, h2, h3, h4, h5, h6, h7⟩ := machRegs_keys (i / 8) (i % 8)
  simp only [machRegs, List.mem_cons, List.not_mem_nil, or_false, forall_eq_or_imp, forall_eq]
  omega

theorem EventFrame.io {d d' : Dev} (h : EventFrame d d') : d'.io = d.io := by rw [h.rest]

theorem TimeFrame.io {d d' : Dev} (h : TimeFrame d d') : d'.io = d.io := by rw [h.rest]

theorem Dev.mach_congr {d d' : Dev} (h : d'.io = d.io) (i : Nat) : d'.mach i = d.mach i := by rw [Dev.mach, h]; rfl

section
variable (d : Dev) (i : Fin 32) (f : Nat → Nat → Fld) (k : Nat)

theorem EventFrame.machCause : EventFrame (d.set (f (i / 8) (i % 8)) 1) (d.machCause i f k) := .cause _ _ _ _ (by omega)

theorem Dev.machCause_io : (d.machCause i f k).io = d.io := (EventFrame.machCause d i f k).io

@[simp] theorem Dev.mach_machCause (j : Nat) : (d.machCause i f k).mach j = d.mach j := Dev.mach_congr (d.machCause_io i f k) j

variable {f} (hf : 0x800000 ≤ (f (i / 8) (i % 8)).key)
include hf

theorem Dev.get_machCause_same : (d.machCause i f k).get (f (i / 8) (i % 8)) = 1 % 2 ^ (f (i / 8) (i % 8)).width :=
  Dev.cause_get_same _ _ _ _ (by omega) (by unfold block; omega)

omit hf in
theorem Dev.get_machCause_ne (g : Fld) (hg : 0x800000 ≤ g.key) (hne : g.key ≠ (f (i / 8) (i % 8)).key) : (d.machCause i f k).get g = d.get g :=
  Dev.cause_get_ne _ _ _ _ _ (by omega) (by unfold block; omega) hne

end

/-! ### A machine changed, with the registers that show it -/

@[simp] theorem Dev.mach_setMach_same (d : Dev) (i : Nat) (x : StirM) : (d.setMach i x).mach i = x := Tab.getD_put_same ..

@[simp] theorem Dev.mach_emit (d : Dev) (o : Output) (i : Nat) : (d.emit o).mach i = d.mach i := rfl

@[simp] theorem Dev.mach_set (d : Dev) (f : Fld) (v i : Nat) : (d.set f v).mach i = d.mach i := rfl

@[simp] theorem Dev.mach_withPins (d : Dev) (lv : BitVec 96) (i : Nat) : (d.withPins lv).mach i = d.mach i := rfl

theorem Dev.get_setMach_ne (d : Dev) (i : Nat) (x : StirM) (g : Fld) (hg : ∀ f ∈ machRegs i, g.key ≠ f.key) : (d.setMach i x).get g = d.get g := by
  simp only [machRegs, List.mem_cons, List.not_mem_nil, or_false, forall_eq_or_imp, forall_eq] at hg
  obtain ⟨hpc, hstate, hoe, hx, hr, hrx, htx⟩ := hg
  simp only [Dev.setMach, Dev.get_set_ne _ _ g _ hpc, Dev.get_set_ne _ _ g _ hstate, Dev.get_set_ne _ _ g _ hoe, Dev.get_set_ne _ _ g _ hx,
    Dev.get_set_ne _ _ g _ hr, Dev.get_set_ne _ _ g _ hrx, Dev.get_set_ne _ _ g _ htx]
  rfl

theorem Dev.get_setMach_pc (d : Dev) (i : Nat) (x : StirM) : (d.setMach i x).get (R.STIR_MSTATUS_PC (i / 8) (i % 8)) = x.pc % 64 := by
  obtain ⟨h1, h2, h3, h4, h5, h6, h7⟩ := machRegs_keys (i / 8) (i % 8)
  simp only [Dev.setMach]
  rw [Dev.get_set_ne _ _ _ _ (by omega), Dev.get_set_ne _ _ _ _ (by omega), Dev.get_set_ne _ _ _ _ (by omega), Dev.get_set_ne _ _ _ _ (by omega),
    Dev.get_set_ne _ _ _ _ (by omega), Dev.get_set_ne _ _ _ _ (by omega), Dev.get_set_same]
  rfl

theorem Dev.get_setMach_txLevel (d : Dev) (i : Nat) (x : StirM) : (d.setMach i x).get (R.STIR_TX_LEVEL (i / 8) (i % 8)) = x.tx.length % 16 :=
  Dev.get_set_same ..

/-- What the instructions of machine `i` that stay within it change: the machine and the registers that show it. -/
structure MachFrame (i : Nat) (d d' : Dev) : Prop where
  get : ∀ g : Fld, (∀ f ∈ machRegs i, g.key ≠ f.key) → d'.get g = d.get g

theorem MachFrame.trans {i : Nat} {a b c : Dev} (h1 : MachFrame i a b) (h2 : MachFrame i b c) : MachFrame i a c :=
  ⟨fun g hg => (h2.get g hg).trans (h1.get g hg)⟩

theorem MachFrame.setMach (i : Nat) (d : Dev) (x : StirM) : MachFrame i d (d.setMach i x) := ⟨fun g hg => d.get_setMach_ne i x g hg⟩

theorem MachFrame.of_regs {i : Nat} {d d' : Dev} (h : d'.regs = d.regs) : MachFrame i d d' := ⟨fun g _ => Dev.get_congr h g⟩

/-- The lanes of a machine are read from registers that do not show it. -/
theorem MachFrame.lane {i : Nat} {d d' : Dev} (h : MachFrame i d d') (l : Nat) : d'.lane i l = d.lane i l := by
  have hk := stirKeys (i / 8) (i % 8)
  unfold Dev.lane
  split <;> exact Prod.ext (h.get _ (machRegs_apart (by omega))) (h.get _ (machRegs_apart (by omega)))

/-! ### The next instruction (R511) -/

/-- What the next address depends on stays as it was: the program counter and where it wraps. -/
structure KeepsPc (i : Nat) (d d' : Dev) : Prop where
  pc : (d'.mach i).pc = (d.mach i).pc
  top : d'.get (R.STIR_WRAP_TOP (i / 8) (i % 8)) = d.get (R.STIR_WRAP_TOP (i / 8) (i % 8))
  bottom : d'.get (R.STIR_WRAP_BOTTOM (i / 8) (i % 8)) = d.get (R.STIR_WRAP_BOTTOM (i / 8) (i % 8))

theorem KeepsPc.trans {i : Nat} {a b c : Dev} (h1 : KeepsPc i a b) (h2 : KeepsPc i b c) : KeepsPc i a c :=
  ⟨h2.pc.trans h1.pc, h2.top.trans h1.top, h2.bottom.trans h1.bottom⟩

theorem KeepsPc.refl (i : Nat) (d : Dev) : KeepsPc i d d := ⟨rfl, rfl, rfl⟩

theorem MachFrame.keepsPc {i : Nat} {d d' : Dev} (h : MachFrame i d d') (hpc : (d'.mach i).pc = (d.mach i).pc) : KeepsPc i d d' := by
  have hk := stirKeys (i / 8) (i % 8)
  exact ⟨hpc, h.get _ (machRegs_apart (by omega)), h.get _ (machRegs_apart (by omega))⟩

theorem KeepsPc.setMach {i : Nat} {d : Dev} {x : StirM} (h : x.pc = (d.mach i).pc) : KeepsPc i d (d.setMach i x) :=
  (MachFrame.setMach i d x).keepsPc (by rw [Dev.mach_setMach_same, h])

theorem KeepsPc.machCause (d : Dev) (i : Fin 32) (f : Nat → Nat → Fld) (k : Nat)
    (hf : (f (i / 8) (i % 8)).key = 0x1004200 + (i / 8) * 0x20000 + (i % 8) * 0x800 + (f (i / 8) (i % 8)).key % 8) : KeepsPc i d (d.machCause i f k) := by
  have hk := stirKeys (i / 8) (i % 8)
  exact ⟨by rw [Dev.mach_machCause], d.get_machCause_ne i k _ (by omega) (by omega), d.get_machCause_ne i k _ (by omega) (by omega)⟩

/-- The machine as the next instruction finds it. -/
def StirM.goOn (x : StirM) (pc : Nat) : StirM := { x with pc := pc, state := 1, held := none, steps := 0 }

theorem Dev.machNext_eq (s : State) (i : Nat) : s.dev.machNext i = s.dev.setMach i ((s.dev.mach i).goOn (machPc s i)) := rfl

theorem MachFrame.machNext (i : Nat) (d : Dev) : MachFrame i d (d.machNext i) := MachFrame.setMach i d _

theorem KeepsPc.machPc {i : Nat} {d' : Dev} {s : State} (h : KeepsPc i s.dev d') : Safety.machPc (s.on fun _ => d') i = Safety.machPc s i := by
  rw [Safety.machPc, State.on_dev, h.pc, h.top, h.bottom, Safety.machPc]

/-- After an instruction whose own effect keeps the program counter, the machine goes on at the next address. -/
theorem KeepsPc.machNext_eq {i : Nat} {d' : Dev} {s : State} (h : KeepsPc i s.dev d') :
    d'.machNext i = d'.setMach i ((d'.mach i).goOn (Safety.machPc s i)) := h.machPc ▸ Dev.machNext_eq (s.on fun _ => d') i

theorem KeepsPc.mach_machNext {i : Nat} {d' : Dev} {s : State} (h : KeepsPc i s.dev d') :
    (d'.machNext i).mach i = (d'.mach i).goOn (Safety.machPc s i) := by rw [h.machNext_eq, Dev.mach_setMach_same]

theorem KeepsPc.pc_machNext {i : Nat} {d' : Dev} {s : State} (h : KeepsPc i s.dev d') : ((d'.machNext i).mach i).pc = Safety.machPc s i := by
  rw [h.mach_machNext]; rfl

end Sys2Proof.Machine
end

section
/-! PROOFS. What each Stirrup instruction does (R505 to R511). -/

namespace Sys2Proof.Machine
open Sys2Proof Sys2Proof.Safety

/-- A command that is an effect on the device, when that effect is known on this device. -/
theorem exec_on_eq {c : Instr} {s : State} {f : Dev → Dev} {d' : Dev} (hexec : exec c s = .next (s.on f)) (h : f s.dev = d') :
    exec c s = .next (s.on fun _ => d') := by rw [hexec, State.on, h]; rfl

/-- What an instruction without reserved values does on a machine that runs (R509). -/
def Dev.stirDo (d : Dev) (i : Nat) (ins : StirInstr) (lv : List (BitVec 96)) : Dev :=
  match ins, lv with
  | .idle, _ => d.machNext i
  | .send a _ _, _ | .drive a _ _, _ => d.stirTimed i a ins []
  | .take a _ _, lv => d.stirTimed i a ins lv
  | .enable lane all mask, _ => (d.setMach i { d.mach i with oe := oeAfter (d.mach i).oe (d.lane i lane) all mask.toNat }).machNext i
  | .time mode imm, _ => d.stirTime i ins mode imm
  | .wait mode arg, [] => if d.waitNow i mode arg then d.machNext i else d.machWait i ins
  | .wait mode arg, v :: _ => if (d.withPins v).waitNow i mode arg then (d.withPins v).machNext i else (d.withPins v).machWait i ins
  | .copy dst src, [] => d.stirCopy i ins dst src
  | .copy dst src, v :: _ => (d.withPins v).stirCopy i ins dst src
  | .close mark, _ => d.stirClose i mark
  | .note, _ => (d.machCause i R.STIR_MSTATUS_SIGNAL 6).machNext i

section
variable {d : Dev} {i : Nat} {ins : StirInstr} (lv : List (BitVec 96))

theorem Dev.stirExec_stopped (h : (d.mach i).state ≠ 1) : d.stirExec i ins lv = d := if_pos h

theorem Dev.stirExec_malformed (h : (d.mach i).state = 1) (hbad : stirMalformed ins = true) : d.stirExec i ins lv = d.machIllegal i :=
  (if_neg (not_not_intro h)).trans (if_pos hbad)

theorem Dev.stirExec_runs (h : (d.mach i).state = 1) (hok : stirMalformed ins = false) : d.stirExec i ins lv = d.stirDo i ins lv := by
  refine (if_neg (not_not_intro h)).trans ((if_neg (by simp [hok])).trans ?_)
  cases ins <;> cases lv <;> rfl

end

theorem copy_wellFormed {dst src : Fin 8} (h : dst.val ≤ 4) : stirMalformed (.copy dst src) = false := decide_eq_false (by omega)

/-! ### The rows of a machine that runs -/

section
variable {m : Fin 32} {s : State} (h : (s.dev.mach m).state = 1)
include h

theorem exec_idle : exec (.idle m) s = .next (s.on fun _ => s.dev.machNext m) :=
  exec_on_eq (f := fun d => d.stirExec m .idle []) rfl (Dev.stirExec_runs [] h rfl)

theorem exec_note : exec (.note m) s = .next (s.on fun _ => (s.dev.machCause m R.STIR_MSTATUS_SIGNAL 6).machNext m) :=
  exec_on_eq (f := fun d => d.stirExec m .note []) rfl (Dev.stirExec_runs [] h rfl)

theorem exec_time (mode : Fin 4) (imm : Fin 512) : exec (.time m mode imm) s = .next (s.on fun _ => s.dev.stirTime m (.time mode imm) mode imm) :=
  exec_on_eq (f := fun d => d.stirExec m (.time mode imm) []) rfl (Dev.stirExec_runs [] h rfl)

theorem exec_copy {dst : Fin 8} (src : Fin 8) (hdst : dst.val ≤ 4) :
    exec (.copy m dst src []) s = .next (s.on fun _ => s.dev.stirCopy m (.copy dst src) dst src) :=
  exec_on_eq (f := fun d => d.stirExec m (.copy dst src) []) rfl (Dev.stirExec_runs [] h (copy_wellFormed hdst))

theorem exec_copy_pins {dst : Fin 8} (src : Fin 8) (lv : BitVec 96) (hdst : dst.val ≤ 4) :
    exec (.copy m dst src [lv]) s = .next (s.on fun _ => (s.dev.withPins lv).stirCopy m (.copy dst src) dst src) :=
  exec_on_eq (f := fun d => d.stirExec m (.copy dst src) [lv]) rfl (Dev.stirExec_runs [lv] h (copy_wellFormed hdst))

theorem exec_enable (lane : Fin 4) {all : Bool} {mask : Byte} (hok : stirMalformed (.enable lane all mask) = false) :
    exec (.enable m lane all mask) s = .next (s.on fun _ =>
      (s.dev.setMach m { s.dev.mach m with oe := oeAfter (s.dev.mach m).oe (s.dev.lane m lane) all mask.toNat }).machNext m) :=
  exec_on_eq (f := fun d => d.stirExec m (.enable lane all mask) []) rfl (Dev.stirExec_runs [] h hok)

theorem exec_send (a : Bool) (lane : Fin 4) (n : Fin 32) :
    exec (.send m a lane n) s = .next (s.on fun _ => s.dev.stirTimed m a (.send a lane n) []) :=
  exec_on_eq (f := fun d => d.stirExec m (.send a lane n) []) rfl (Dev.stirExec_runs [] h rfl)

theorem exec_drive (a : Bool) (lane : Fin 4) (v : Byte) :
    exec (.drive m a lane v) s = .next (s.on fun _ => s.dev.stirTimed m a (.drive a lane v) []) :=
  exec_on_eq (f := fun d => d.stirExec m (.drive a lane v) []) rfl (Dev.stirExec_runs [] h rfl)

theorem exec_take (a : Bool) (lane : Fin 4) (n : Fin 32) (lv : List (BitVec 96)) :
    exec (.take m a lane n lv) s = .next (s.on fun _ => s.dev.stirTimed m a (.take a lane n) lv) :=
  exec_on_eq (f := fun d => d.stirExec m (.take a lane n) lv) rfl (Dev.stirExec_runs lv h rfl)

theorem exec_close (mark : Bool) : exec (.close m mark) s = .next (s.on fun _ => s.dev.stirClose m mark) :=
  exec_on_eq (f := fun d => d.stirExec m (.close mark) []) rfl (Dev.stirExec_runs [] h rfl)

theorem exec_wait {mode : Fin 4} {arg : Fin 32} (hok : stirMalformed (.wait mode arg) = false) :
    exec (.wait m mode arg []) s = .next (s.on fun _ =>
      if s.dev.waitNow m mode arg then s.dev.machNext m else s.dev.machWait m (.wait mode arg)) :=
  exec_on_eq (f := fun d => d.stirExec m (.wait mode arg) []) rfl (Dev.stirExec_runs [] h hok)

theorem exec_wait_pins {mode : Fin 4} {arg : Fin 32} (lv : BitVec 96) (hok : stirMalformed (.wait mode arg) = false) :
    exec (.wait m mode arg [lv]) s = .next (s.on fun _ => if (s.dev.withPins lv).waitNow m mode arg then (s.dev.withPins lv).machNext m
      else (s.dev.withPins lv).machWait m (.wait mode arg)) :=
  exec_on_eq (f := fun d => d.stirExec m (.wait mode arg) [lv]) rfl (Dev.stirExec_runs [lv] h hok)

end

/-! ### Frames of the statement -/

/-- An effect within a machine keeps the other registers. -/
theorem MachFrame.keepsRegs {i : Nat} {s : State} {k : Dev → Dev} (h : MachFrame i s.dev (k s.dev)) : KeepsRegs (machRegs i) s (s.on k) := keepsRegs_on h.get

/-- The machine changed in one go, and the next instruction. -/
theorem setMach_next_effect (s : State) (i : Nat) (x : StirM) (hpc : x.pc = (s.dev.mach i).pc) :
    (((s.dev.setMach i x).machNext i).mach i = x.goOn (machPc s i)) ∧ MachFrame i s.dev ((s.dev.setMach i x).machNext i) := by
  refine ⟨?_, (MachFrame.setMach i s.dev x).trans (.machNext ..)⟩
  rw [(KeepsPc.setMach hpc).mach_machNext, Dev.mach_setMach_same]

/-! ### IDLE, NOTE, TIME -/

section
variable {m : Fin 32} {s : State} (h : (s.dev.mach m).state = 1)
include h

theorem exec_idle_effect : ∃ t, exec (.idle m) s = .next t ∧ t.dev.mach m = (s.dev.mach m).goOn (machPc s m) ∧
    t.dev.get (R.STIR_MSTATUS_PC (m / 8) (m % 8)) = machPc s m % 64 ∧ KeepsRegs (machRegs m) s t := by
  refine ⟨_, exec_idle h, ?_, ?_, (MachFrame.machNext m s.dev).keepsRegs⟩
  · rw [State.on_dev, Dev.machNext_eq, Dev.mach_setMach_same]
  · rw [State.on_dev, Dev.machNext_eq, Dev.get_setMach_pc]; rfl

theorem exec_note_effect : ∃ t, exec (.note m) s = .next t ∧ t.dev.get (R.STIR_MSTATUS_SIGNAL (m / 8) (m % 8)) = 1 ∧
    t.dev.mach m = (s.dev.mach m).goOn (machPc s m) ∧ t.mem = s.mem := by
  have hk := stirKeys (m / 8) (m % 8)
  refine ⟨_, exec_note h, ?_, ?_, rfl⟩
  · exact ((MachFrame.machNext m _).get _ (machRegs_apart (by omega))).trans (Dev.get_machCause_same s.dev m 6 (by omega))
  · exact (KeepsPc.machCause s.dev m R.STIR_MSTATUS_SIGNAL 6 (by omega)).mach_machNext.trans (by rw [Dev.mach_machCause])

/-- TIME with a value that is at hand (R509). -/
theorem exec_time_effect (mode : Fin 4) (imm : Fin 512) (x : StirM) (hpc : x.pc = (s.dev.mach m).pc)
    (hx : s.dev.stirTime m (.time mode imm) mode imm = (s.dev.setMach m x).machNext m) :
    ∃ t, exec (.time m mode imm) s = .next t ∧ KeepsRegs (machRegs m) s t ∧ t.dev.mach m = x.goOn (machPc s m) := by
  obtain ⟨hmach, hframe⟩ := setMach_next_effect s m x hpc
  exact ⟨_, exec_on_eq (exec_time h mode imm) hx, hframe.keepsRegs, hmach⟩

end

/-! ### A machine that stalls or halts -/

theorem Dev.mach_machStall (d : Dev) (m : Fin 32) (ins : StirInstr) (k : Nat) :
    (d.machStall m ins k).mach m = { d.mach m with state := 2, held := some ins, steps := k } := by
  rw [Dev.machStall, Dev.mach_machCause, Dev.mach_setMach_same]

theorem Dev.get_machStall (d : Dev) (m : Fin 32) (ins : StirInstr) (k : Nat) :
    (d.machStall m ins k).get (R.STIR_MSTATUS_UNDERFLOW (m / 8) (m % 8)) = 1 := by
  have hk := stirKeys (m / 8) (m % 8)
  exact Dev.get_machCause_same (f := R.STIR_MSTATUS_UNDERFLOW) _ m 1 (by omega)

theorem Dev.mach_machIllegal (d : Dev) (m : Fin 32) : (d.machIllegal m).mach m = { d.mach m with state := 4, held := none, steps := 0 } := by
  rw [Dev.machIllegal, Dev.mach_machCause, Dev.mach_setMach_same]

theorem Dev.get_machIllegal (d : Dev) (m : Fin 32) : (d.machIllegal m).get (R.STIR_MSTATUS_ILLEGAL (m / 8) (m % 8)) = 1 := by
  have hk := stirKeys (m / 8) (m % 8)
  exact Dev.get_machCause_same (f := R.STIR_MSTATUS_ILLEGAL) _ m 5 (by omega)

/-- An instruction that stalls on an empty TXDATA (R506). -/
theorem stall_effect {c : Instr} {m : Fin 32} {s : State} {ins : StirInstr} {k : Nat} (h : exec c s = .next (s.on fun _ => s.dev.machStall m ins k)) :
    ∃ t, exec c s = .next t ∧ (t.dev.mach m).state = 2 ∧ (t.dev.mach m).pc = (s.dev.mach m).pc ∧ (t.dev.mach m).held = some ins ∧
      (t.dev.mach m).drv = (s.dev.mach m).drv ∧ t.dev.get (R.STIR_MSTATUS_UNDERFLOW (m / 8) (m % 8)) = 1 ∧ t.mem = s.mem :=
  ⟨_, h, by rw [State.on_dev, Dev.mach_machStall], by rw [State.on_dev, Dev.mach_machStall], by rw [State.on_dev, Dev.mach_machStall],
    by rw [State.on_dev, Dev.mach_machStall], Dev.get_machStall .., rfl⟩

/-- An instruction that halts the machine with ILLEGAL (R510). -/
theorem illegal_effect {c : Instr} {m : Fin 32} {s : State} (h : exec c s = .next (s.on fun _ => s.dev.machIllegal m)) :
    ∃ t, exec c s = .next t ∧ (t.dev.mach m).state = 4 ∧ (t.dev.mach m).pc = (s.dev.mach m).pc ∧
      t.dev.get (R.STIR_MSTATUS_ILLEGAL (m / 8) (m % 8)) = 1 ∧ t.mem = s.mem :=
  ⟨_, h, by rw [State.on_dev, Dev.mach_machIllegal], by rw [State.on_dev, Dev.mach_machIllegal], Dev.get_machIllegal .., rfl⟩

/-! ### COPY -/

/-- What a source of COPY other than TXDATA reads (R509). -/
def Dev.copyValue (d : Dev) (i src : Nat) : Nat :=
  match src with
  | 0 => (d.mach i).xw % 2 ^ 32
  | 1 => (d.mach i).k
  | 2 => (d.mach i).p
  | 3 => (d.mach i).t
  | 4 => (d.mach i).rw % 2 ^ 32
  | 6 => bitWord (fun o => d.blockPin i ((d.lane i 0).1 + o)) (d.lane i 0).2
  | _ => 0

theorem Dev.stirCopy_value (d : Dev) (i : Nat) (ins : StirInstr) (dst : Nat) {src : Nat} (hsrc : src ≠ 5) :
    d.stirCopy i ins dst src = (d.setMach i (copyTo (d.mach i) dst (d.copyValue i src))).machNext i := by
  unfold Dev.stirCopy
  split
  · exact absurd rfl hsrc
  · rfl

theorem Dev.stirCopy_stall {d : Dev} {i : Nat} (h : (d.mach i).tx = []) (ins : StirInstr) (dst : Nat) : d.stirCopy i ins dst 5 = d.machStall i ins 0 := by
  simp only [Dev.stirCopy, h]

theorem copyTo_pc (x : StirM) (dst v : Nat) : (copyTo x dst v).pc = x.pc := by unfold copyTo; split <;> rfl

theorem exec_copy_effect {m : Fin 32} {s : State} (h : (s.dev.mach m).state = 1) {dst : Fin 8} (src : Fin 8) (hdst : dst.val ≤ 4) (hsrc : src.val ≠ 5) :
    ∃ t, exec (.copy m dst src []) s = .next t ∧ t.dev.mach m = (copyTo (s.dev.mach m) dst (s.dev.copyValue m src)).goOn (machPc s m) ∧
      KeepsRegs (machRegs m) s t := by
  obtain ⟨hmach, hframe⟩ := setMach_next_effect s m (copyTo (s.dev.mach m) dst (s.dev.copyValue m src)) (copyTo_pc ..)
  exact ⟨_, exec_on_eq (exec_copy h src hdst) (s.dev.stirCopy_value m _ _ hsrc), hmach, hframe.keepsRegs⟩

/-- K after COPY of the pins of lane 0 (R509). -/
theorem exec_copy_pins_effect {m : Fin 32} {s : State} (h : (s.dev.mach m).state = 1) {dst : Fin 8} (lv : BitVec 96) (hdst : dst.val = 1) :
    ∃ t, exec (.copy m dst 6 [lv]) s = .next t ∧ ∀ o, (t.dev.mach m).k.testBit o =
      (decide (o < (s.dev.lane m 0).2) && (s.dev.withPins lv).blockPin m ((s.dev.lane m 0).1 + o)) := by
  have hcopy := (s.dev.withPins lv).stirCopy_value m (.copy dst 6) dst (src := 6) (by decide)
  have hmach := (setMach_next_effect (s.on fun d => d.withPins lv) m (copyTo (s.dev.mach m) dst ((s.dev.withPins lv).copyValue m 6)) (copyTo_pc ..)).1
  refine ⟨_, exec_on_eq (exec_copy_pins h 6 lv (by omega)) hcopy, fun o => ?_⟩
  have hk : (copyTo (s.dev.mach m) dst ((s.dev.withPins lv).copyValue m 6)).k = (s.dev.withPins lv).copyValue m 6 := by rw [hdst]; rfl
  exact (congrArg (fun x : StirM => x.k.testBit o) hmach).trans ((congrArg (fun v => v.testBit o) hk).trans (testBit_bitWord ..))

/-! ### ENABLE and DRIVE -/

/-- OE after ENABLE with a bit for each pin (R509). -/
theorem testBit_oeAfter_each (oe : Nat) (l : Nat × Nat) (mask : Byte) (o : Nat) : (oeAfter oe l false mask.toNat).testBit o =
    if l.1 ≤ o ∧ o < l.1 + min l.2 8 then mask.getLsbD (o - l.1) else oe.testBit o :=
  testBit_foldl_bitPut oe l.1 (min l.2 8) (fun i => mask.toNat.testBit i) o

/-- OE after ENABLE with one bit for all pins (R509). -/
theorem testBit_oeAfter_all (oe : Nat) (l : Nat × Nat) (mask : Byte) (o : Nat) : (oeAfter oe l true mask.toNat).testBit o =
    if l.1 ≤ o ∧ o < l.1 + l.2 then mask.getLsbD 0 else oe.testBit o :=
  testBit_foldl_bitPut oe l.1 l.2 (fun _ => mask.toNat.testBit 0) o

theorem exec_enable_effect {m : Fin 32} {s : State} (h : (s.dev.mach m).state = 1) (lane : Fin 4) {all : Bool} {mask : Byte}
    (hok : stirMalformed (.enable lane all mask) = false) :
    ∃ t, exec (.enable m lane all mask) s = .next t ∧ (t.dev.mach m).pc = machPc s m ∧ KeepsRegs (machRegs m) s t ∧
      (t.dev.mach m).oe = oeAfter (s.dev.mach m).oe (s.dev.lane m lane) all mask.toNat := by
  obtain ⟨hmach, hframe⟩ := setMach_next_effect s m
    { s.dev.mach m with oe := oeAfter (s.dev.mach m).oe (s.dev.lane m lane) all mask.toNat } rfl
  exact ⟨_, exec_enable h lane hok, congrArg StirM.pc hmach, hframe.keepsRegs, congrArg StirM.oe hmach⟩

/-- The levels that a machine gives to its pins leave it as it was but for those levels (R496, R497, R504). -/
theorem Dev.machDrive_effect (d : Dev) (i : Nat) (l : List (Nat × Bool)) :
    (d.machDrive i l).mach i = { d.mach i with drv := l.foldl (fun a e => bitPut a e.1 e.2) (d.mach i).drv } ∧
      MachFrame i d (d.machDrive i l) := by
  refine List.foldlRecOn (motive := fun a : Dev => a.mach i = { d.mach i with drv := l.foldl (fun a e => bitPut a e.1 e.2) (d.mach i).drv } ∧
    MachFrame i d a) l _ ⟨Dev.mach_setMach_same .., .setMach ..⟩ fun a ha e _ => ?_
  dsimp only
  split
  · exact ⟨(Dev.mach_emit ..).trans ha.1, ha.2.trans (.of_regs rfl)⟩
  · exact ha

theorem Dev.machDrive_run (d : Dev) (i base k : Nat) (f : Nat → Bool) (o : Nat) :
    ((d.machDrive i ((List.range k).map fun j => (base + j, f j))).mach i).drv.testBit o =
      if base ≤ o ∧ o < base + k then f (o - base) else (d.mach i).drv.testBit o := by
  rw [(d.machDrive_effect i _).1]
  simp only [List.foldl_map]
  exact testBit_foldl_bitPut ..

/-- DRIVE at its instant (R504, R509). -/
theorem stirAct_drive_effect (s : State) (d : Dev) (i : Nat) (hkeeps : KeepsPc i s.dev d) (a : Bool) (lane : Fin 4) (v : Byte) :
    ((d.stirAct i (.drive a lane v) []).mach i).pc = machPc s i ∧ ((d.stirAct i (.drive a lane v) []).mach i).state = 1 ∧
      MachFrame i d (d.stirAct i (.drive a lane v) []) ∧
      ∀ o, ((d.stirAct i (.drive a lane v) []).mach i).drv.testBit o =
        if (d.lane i lane).1 ≤ o ∧ o < (d.lane i lane).1 + min (d.lane i lane).2 8 then v.getLsbD (o - (d.lane i lane).1)
        else (d.mach i).drv.testBit o := by
  have hdrive := d.machDrive_effect i ((List.range (min (d.lane i lane).2 8)).map fun j => ((d.lane i lane).1 + j, v.toNat.testBit j))
  have hnext := (hkeeps.trans (hdrive.2.keepsPc (by rw [hdrive.1]))).mach_machNext
  refine ⟨congrArg StirM.pc hnext, congrArg StirM.state hnext, hdrive.2.trans (.machNext ..), fun o => ?_⟩
  exact (congrArg (fun x : StirM => x.drv.testBit o) hnext).trans (d.machDrive_run i _ _ _ o)

end Sys2Proof.Machine
end

section
/-! PROOFS. What the operations of a Punnet leave as they were (R516 to R524). -/

namespace Sys2Proof.Machine
open Sys2Proof Sys2Proof.Safety

/-- Where the registers of a Punnet lie (R529). -/
theorem pnKeys (n : Nat) : (R.PN_CFG_RD_AGENT n).key = 0xE00000 + n * 0x400 ∧ (R.PN_CFG_SRC_INDEX n).key = 0xE00007 + n * 0x400 ∧
    (R.PN_CFG_SRC_KIND n).key = 0xE0000C + n * 0x400 ∧ (R.PN_CFG_W16 n).key = 0xE0000E + n * 0x400 ∧ (R.PN_CTRL_FLUSH n).key = 0xE00080 + n * 0x400 ∧
    (R.PN_LEVEL n).key = 0xE00100 + n * 0x400 ∧ (R.PN_STATUS_LEVEL n).key = 0xE00180 + n * 0x400 ∧ (R.PN_STATUS_GAP n).key = 0xE00181 + n * 0x400 ∧
    (R.PN_STATUS_UNDERRUN n).key = 0xE00182 + n * 0x400 ∧ (R.PN_STATUS_PKT n).key = 0xE00184 + n * 0x400 ∧
    (R.PN_STATUS_WR_REJ n).key = 0xE00185 + n * 0x400 ∧ (R.PN_STATUS_RD_REJ n).key = 0xE00186 + n * 0x400 ∧
    (R.PN_STATUS_RESYNCED n).key = 0xE00187 + n * 0x400 ∧ (R.PN_STATUS_FILL n).key = 0xE00190 + n * 0x400 := by
  simp only [Fld.key, R.PN_CFG_RD_AGENT, R.PN_CFG_SRC_INDEX, R.PN_CFG_SRC_KIND, R.PN_CFG_W16, R.PN_CTRL_FLUSH, R.PN_LEVEL, R.PN_STATUS_LEVEL,
    R.PN_STATUS_GAP, R.PN_STATUS_UNDERRUN, R.PN_STATUS_PKT, R.PN_STATUS_WR_REJ, R.PN_STATUS_RD_REJ, R.PN_STATUS_RESYNCED, R.PN_STATUS_FILL]
  omega

/-- What Punnet `n` leaves alone: the registers outside its page and outside block 0x3, and every unit but the Punnets and what an event changes. -/
structure PnFrame (n : Nat) (d d' : Dev) : Prop where
  get : ∀ g : Fld, block g ≠ 3 → g.key / 0x400 ≠ 0x3800 + n → d'.get g = d.get g
  rest : d' = { d with regs := d'.regs, out := d'.out, eng := d'.eng, pwr := d'.pwr, io := { d.io with pns := d'.io.pns } }

theorem PnFrame.refl (n : Nat) (d : Dev) : PnFrame n d d := ⟨fun _ _ _ => rfl, rfl⟩

theorem PnFrame.trans {n : Nat} {a b c : Dev} (h1 : PnFrame n a b) (h2 : PnFrame n b c) : PnFrame n a c := by
  refine ⟨fun g hb hg => (h2.get g hb hg).trans (h1.get g hb hg), ?_⟩
  rw [h2.rest, h1.rest]

theorem PnFrame.event {n : Nat} {d d' : Dev} (h : EventFrame d d') : PnFrame n d d' := by
  refine ⟨fun g hb _ => h.get g hb, ?_⟩
  rw [h.rest]

theorem PnFrame.set {n : Nat} (d : Dev) (f : Fld) (v : Nat) (hf : f.key / 0x400 = 0x3800 + n) : PnFrame n d (d.set f v) :=
  ⟨fun _ _ hg => Dev.get_set_ne _ _ _ _ (fun h => hg (h ▸ hf)), rfl⟩

theorem PnFrame.machs {n : Nat} {d d' : Dev} (h : PnFrame n d d') (i : Nat) : d'.mach i = d.mach i := by
  rw [Dev.mach, h.rest]; rfl

theorem PnFrame.setPn (n : Nat) (d : Dev) (x : Punnet) : PnFrame n d (d.setPn n x) := by
  have hk := pnKeys n
  refine ⟨fun g _ hg => Dev.get_set_ne _ _ _ _ (fun h => hg (by omega)), rfl⟩

theorem PnFrame.pnCause {n : Nat} (hn : n < 64) (d : Dev) (f : Fld) (b : Nat) (hf : f.key / 0x400 = 0x3800 + n) : PnFrame n d (d.pnCause n f b) :=
  (PnFrame.set d f 1 hf).trans (.event (.cause _ _ _ _ (by omega)))

section
variable {n : Nat} (hn : n < 64) (d : Dev)

theorem PnFrame.pnNewest (f : PnEntry → PnEntry) : PnFrame n d (d.pnNewest n f) := by
  simp only [Dev.pnNewest]
  split
  · exact .setPn ..
  · exact .refl n d

theorem PnFrame.pnEmpty : PnFrame n d (d.pnEmpty n) := by
  have hk := pnKeys n
  exact (PnFrame.setPn n d _).trans (.set _ _ 0 (by omega))

include hn

theorem PnFrame.pnPush (e : PnEntry) : PnFrame n d (d.pnPush n e) := by
  have hk := pnKeys n
  simp only [Dev.pnPush]
  split
  · exact (PnFrame.setPn n d _).trans (.pnCause hn _ _ 0 (by omega))
  · exact .setPn ..

theorem PnFrame.pnByte (b : Nat) : PnFrame n d (d.pnByte n b) := by
  simp only [Dev.pnByte]
  split
  · exact (PnFrame.setPn n d _).trans (.pnPush hn _ _)
  · exact .setPn ..

theorem PnFrame.pnPushAsm (last : Bool) : PnFrame n d (d.pnPushAsm n last) := by
  simp only [Dev.pnPushAsm]
  split
  · exact .refl n d
  · exact (PnFrame.setPn n d _).trans (.pnPush hn _ _)

theorem PnFrame.pnItem (v : Nat) : PnFrame n d (d.pnItem n v) := by
  have hk := pnKeys n
  simp only [Dev.pnItem]
  split
  · split
    · exact ((PnFrame.setPn n d _).trans (.pnByte hn _ _)).trans (.pnByte hn _ _)
    · exact (PnFrame.setPn n d _).trans (.pnByte hn _ _)
  · split
    · exact .pnNewest ..
    · exact (((PnFrame.pnPushAsm hn d false).trans (.pnPush hn _ _)).trans (.setPn ..)).trans (.pnCause hn _ _ 1 (by omega))

theorem PnFrame.pnItemFrom (kind index v : Nat) : PnFrame n d (d.pnItemFrom n kind index v) := by
  have hk := pnKeys n
  unfold Dev.pnItemFrom
  split
  · exact .pnItem hn d v
  · exact .pnCause hn _ _ 5 (by omega)

theorem PnFrame.pnBoundary : PnFrame n d (d.pnBoundary n) := by
  have hk := pnKeys n
  have hpkt (a : Dev) : PnFrame n a (a.pnCause n (R.PN_STATUS_PKT n) 4) := .pnCause hn a _ 4 (by omega)
  simp only [Dev.pnBoundary]
  split
  · exact .pnEmpty d
  have hstart : PnFrame n d (d.setPn n { d.pn n with items := false }) := .setPn ..
  split
  · exact hstart.trans (.setPn ..)
  split
  · exact (hstart.trans (.pnNewest ..)).trans (hpkt _)
  split
  · exact (hstart.trans (.pnPushAsm hn _ true)).trans (hpkt _)
  split
  · exact hstart
  · exact (hstart.trans (.pnNewest ..)).trans (hpkt _)

theorem PnFrame.pnBoundaryFrom (kind index : Nat) : PnFrame n d (d.pnBoundaryFrom n kind index) := by
  have hk := pnKeys n
  unfold Dev.pnBoundaryFrom
  split
  · exact .pnBoundary hn d
  · exact .pnCause hn _ _ 5 (by omega)

end

end Sys2Proof.Machine
end

section
/-! PROOFS. Stirrup machines: SEND, TAKE, CLOSE, waits, and words that encode no instruction (R503, R505, R507, R509, R510). -/

namespace Sys2Proof.Machine
open Sys2Proof Sys2Proof.Safety

/-! ### SEND -/

/-- The steps of a SEND that fits in one (R505). -/
theorem oneStep {n w : Nat} (h : n + 1 ≤ w) : (n + 1 + w - 1) / w = 1 := by
  rw [show n + 1 + w - 1 = n + w by omega, Nat.add_div_right _ (by omega), Nat.div_eq_of_lt (by omega)]

theorem Dev.stirTimed_now (d : Dev) (i : Nat) (ins : StirInstr) (lv : List (BitVec 96)) : d.stirTimed i false ins lv = d.stirAct i ins lv := rfl

/-- SEND with no word and not enough bits stalls before its first step (R506). -/
theorem Dev.stirAct_send_stall {d : Dev} {i : Nat} {lane : Fin 4} {n : Fin 32} (hw : 0 < (d.lane i lane).2)
    (hfill : (d.mach i).xfill < min (d.lane i lane).2 (n + 1)) (htx : (d.mach i).tx = []) (hsteps : (d.mach i).steps = 0) :
    d.stirAct i (.send false lane n) [] = d.machStall i (.send false lane n) 0 := by
  obtain ⟨k, hk⟩ : ∃ k, (n.val + 1 + (d.lane i lane).2 - 1) / (d.lane i lane).2 = k + 1 :=
    Nat.exists_eq_add_one.mpr (Nat.div_pos (by omega) hw)
  simp only [Dev.stirAct, hsteps, hk, Nat.sub_zero, Dev.sendSteps, Nat.sub_self, Nat.zero_mul]
  rw [if_pos ⟨hfill, htx⟩]

/-- The levels of the pins of a lane in one step of SEND (R505). -/
def sendLevels (l : Nat × Nat) (take xw : Nat) : List (Nat × Bool) := (List.range l.2).map fun j => (l.1 + j, decide (j < take) && xw.testBit j)

theorem sendLevels_eq (l : Nat × Nat) (take xw : Nat) :
    (lanePins l).map (fun o => (o, decide (o - l.1 < take) && xw.testBit (o - l.1))) = sendLevels l take xw := by
  simp [lanePins, sendLevels]

/-- The machine when bits have left XW (R505). -/
def StirM.sent (x : StirM) (n : Nat) : StirM := { x with xw := x.xw / 2 ^ n, xfill := x.xfill - n }

/-- SEND of bits that XW holds and that fit in one step (R505). -/
theorem Dev.stirAct_send_once {d : Dev} {i : Nat} {lane : Fin 4} {n : Fin 32} (hw : n.val + 1 ≤ (d.lane i lane).2)
    (hfill : n.val + 1 ≤ (d.mach i).xfill) (hsteps : (d.mach i).steps = 0) :
    d.stirAct i (.send false lane n) [] =
      ((d.setMach i ((d.mach i).sent (n + 1))).machDrive i (sendLevels (d.lane i lane) (n + 1) (d.mach i).xw)).machNext i := by
  rw [Dev.stirAct, hsteps, oneStep hw]
  simp only [Nat.sub_zero, Dev.sendSteps, Nat.sub_self, Nat.zero_mul, Nat.min_eq_right hw,
    Nat.not_lt.mpr hfill, false_and, if_false, sendLevels_eq]
  rfl

theorem exec_send_effect {m : Fin 32} {s : State} (h : (s.dev.mach m).state = 1) {lane : Fin 4} {n : Fin 32} (hw : n.val + 1 ≤ (s.dev.lane m lane).2)
    (hfill : n.val + 1 ≤ (s.dev.mach m).xfill) (hsteps : (s.dev.mach m).steps = 0) :
    ∃ t, exec (.send m false lane n) s = .next t ∧ (t.dev.mach m).pc = machPc s m ∧ (t.dev.mach m).xw = (s.dev.mach m).xw / 2 ^ (n.val + 1) ∧
      (t.dev.mach m).xfill = (s.dev.mach m).xfill - (n.val + 1) ∧ (t.dev.mach m).tx = (s.dev.mach m).tx ∧ t.mem = s.mem ∧
      ∀ o < (s.dev.lane m lane).2, (t.dev.mach m).drv.testBit ((s.dev.lane m lane).1 + o) = (decide (o ≤ n.val) && (s.dev.mach m).xw.testBit o) := by
  have hdrive := (s.dev.setMach m ((s.dev.mach m).sent (n + 1))).machDrive_effect m (sendLevels (s.dev.lane m lane) (n + 1) (s.dev.mach m).xw)
  have hset : KeepsPc m s.dev (s.dev.setMach m ((s.dev.mach m).sent (n + 1))) := .setMach rfl
  have hnext := (hset.trans (hdrive.2.keepsPc (by rw [hdrive.1]))).mach_machNext
  rw [hdrive.1, Dev.mach_setMach_same] at hnext
  refine ⟨_, exec_on_eq (exec_send h false lane n) (Dev.stirAct_send_once hw hfill hsteps), ?_, ?_, ?_, ?_, rfl, fun o ho => ?_⟩ <;>
    rw [State.on_dev, hnext]
  · rfl
  · rfl
  · rfl
  · rfl
  · simp only [StirM.goOn, sendLevels, List.foldl_map]
    refine (testBit_foldl_bitPut _ _ _ (fun j => decide (j < n.val + 1) && (s.dev.mach m).xw.testBit j) _).trans ?_
    rw [if_pos (by omega), Nat.add_sub_cancel_left]
    simp only [Nat.lt_succ_iff]

/-! ### Delivery -/

theorem PnFrame.keepsPc {n i : Nat} {d d' : Dev} (h : PnFrame n d d') (hn : n < 64) : KeepsPc i d d' := by
  have hk := stirKeys (i / 8) (i % 8)
  exact ⟨by rw [h.machs], h.get _ (by unfold block; omega) (by omega), h.get _ (by unfold block; omega) (by omega)⟩

/-- A word delivered, to RXDATA or to a Punnet, leaves the machine where it is (R507). -/
theorem KeepsPc.stirDeliver (d : Dev) (i : Fin 32) (v b : Nat) : KeepsPc i d (d.stirDeliver i v b) := by
  have hk := stirKeys (i / 8) (i % 8)
  simp only [Dev.stirDeliver]
  split
  · have hn : d.get (R.STIR_MSHIFT_PN (i / 8) (i % 8)) < 64 := d.get_lt _
    exact List.foldlRecOn (motive := KeepsPc i d) _ _ (.refl _ d) fun a ha k _ =>
      ha.trans ((PnFrame.pnItemFrom hn a 1 i _).keepsPc hn)
  · split
    · exact .setMach rfl
    · exact .machCause d i _ 2 (by omega)

theorem KeepsPc.stirUnits (d : Dev) (i : Fin 32) (fuel : Nat) : KeepsPc i d (d.stirUnits i fuel) := by
  induction fuel generalizing d with
  | zero => exact .refl _ d
  | succ k ih =>
    simp only [Dev.stirUnits]
    split
    · refine KeepsPc.trans (KeepsPc.trans (.setMach ?_) (.stirDeliver _ i _ _)) (ih _)
      rfl
    · exact .refl _ d

/-- A word delivered to RXDATA while there is room (R507). -/
theorem Dev.stirDeliver_rx {d : Dev} {i : Nat} (hpn : d.on (R.STIR_MSHIFT_PN_EN (i / 8) (i % 8)) = false) (hrx : (d.mach i).rx.length < 8) (v b : Nat) :
    d.stirDeliver i v b = d.setMach i { d.mach i with rx := (d.mach i).rx ++ [v] } := by
  simp only [Dev.stirDeliver, hpn, Bool.false_eq_true, if_false, hrx, if_true]

theorem Dev.on_setMach_pnEn (d : Dev) (i : Nat) (x : StirM) :
    (d.setMach i x).on (R.STIR_MSHIFT_PN_EN (i / 8) (i % 8)) = d.on (R.STIR_MSHIFT_PN_EN (i / 8) (i % 8)) := by
  have hk := stirKeys (i / 8) (i % 8)
  rw [Dev.on, Dev.get_setMach_ne _ _ _ _ (machRegs_apart (by omega)), Dev.on]

/-! ### TAKE -/

/-- The bits that one step of TAKE samples (R505). -/
def Dev.takeBits (d : Dev) (m : Nat) (l : Nat × Nat) (n : Nat) : Nat := bitWord (fun o => d.blockPin m (l.1 + o)) n

/-- TAKE of bits that fit in one step (R505, R507). -/
theorem Dev.stirAct_take_once {d : Dev} {i : Nat} {lane : Fin 4} {n : Fin 32} (lv : BitVec 96) (hw : n.val + 1 ≤ (d.lane i lane).2) :
    d.stirAct i (.take false lane n) [lv] = ((((d.withPins lv).setMach i { d.mach i with
        rw := ((d.mach i).rw + (d.withPins lv).takeBits i (d.lane i lane) (n + 1) * 2 ^ (d.mach i).rfill) % 2 ^ 64,
        rfill := (d.mach i).rfill + (n + 1) })).stirUnits i 64).machNext i := by
  simp only [Dev.stirAct, oneStep hw, Dev.takeSteps, Nat.min_eq_right hw, Dev.mach_withPins]
  rfl

section
variable {d : Dev} {i : Nat} {x : StirM}

/-- Fewer bits in RW than a unit: none is delivered (R507). -/
theorem Dev.stirUnits_none (fuel : Nat) (h : (d.mach i).rfill ≤ d.get (R.STIR_MSHIFT_UNIT_M1 (i / 8) (i % 8))) : d.stirUnits i fuel = d := by
  cases fuel with
  | zero => rfl
  | succ k => exact if_neg (by omega)

/-- RW holds one unit, and RXDATA has room for it (R507). -/
theorem Dev.stirUnits_one (fuel : Nat) (h : (d.mach i).rfill = d.get (R.STIR_MSHIFT_UNIT_M1 (i / 8) (i % 8)) + 1)
    (hpn : d.on (R.STIR_MSHIFT_PN_EN (i / 8) (i % 8)) = false) (hrx : (d.mach i).rx.length < 8) (hrw : (d.mach i).rw < 2 ^ (d.mach i).rfill) :
    ((d.stirUnits i (fuel + 1)).mach i).rfill = 0 ∧ ((d.stirUnits i (fuel + 1)).mach i).rx = (d.mach i).rx ++ [(d.mach i).rw] := by
  have hk := stirKeys (i / 8) (i % 8)
  simp only [Dev.stirUnits, ← h, Nat.le_refl, if_true, Nat.sub_self, Nat.mod_eq_of_lt hrw]
  rw [Dev.stirDeliver_rx (by rw [Dev.on_setMach_pnEn, hpn]) (by simpa using hrx), Dev.stirUnits_none]
  · simp
  · simp

end

theorem exec_take_effect {m : Fin 32} {s : State} (h : (s.dev.mach m).state = 1) {lane : Fin 4} {n : Fin 32} (lv : BitVec 96)
    (hw : n.val + 1 ≤ (s.dev.lane m lane).2) (hunit : (s.dev.mach m).rfill + n.val ≤ s.dev.get (R.STIR_MSHIFT_UNIT_M1 (m / 8) (m % 8)))
    (hrw : (s.dev.mach m).rw < 2 ^ (s.dev.mach m).rfill) :
    ∃ t v, exec (.take m false lane n [lv]) s = .next t ∧ (t.dev.mach m).pc = machPc s m ∧
      (s.dev.mach m).rfill + n.val + 1 ≤ 64 ∧ (∀ o ≤ n.val, v.testBit o = (s.dev.withPins lv).blockPin m ((s.dev.lane m lane).1 + o)) ∧
      v < 2 ^ (n.val + 1) ∧
      ((s.dev.mach m).rfill + n.val < s.dev.get (R.STIR_MSHIFT_UNIT_M1 (m / 8) (m % 8)) →
        (t.dev.mach m).rfill = (s.dev.mach m).rfill + n.val + 1 ∧ (t.dev.mach m).rw = (s.dev.mach m).rw + 2 ^ (s.dev.mach m).rfill * v) ∧
      ((s.dev.mach m).rfill + n.val = s.dev.get (R.STIR_MSHIFT_UNIT_M1 (m / 8) (m % 8)) →
        s.dev.on (R.STIR_MSHIFT_PN_EN (m / 8) (m % 8)) = false → (s.dev.mach m).rx.length < 8 →
        (t.dev.mach m).rfill = 0 ∧ (t.dev.mach m).rx = (s.dev.mach m).rx ++ [(s.dev.mach m).rw + 2 ^ (s.dev.mach m).rfill * v]) := by
  have hk := stirKeys (m / 8) (m % 8)
  have hunit32 : s.dev.get (R.STIR_MSHIFT_UNIT_M1 (m / 8) (m % 8)) < 32 := s.dev.get_lt _
  let v := (s.dev.withPins lv).takeBits m (s.dev.lane m lane) (n + 1)
  have hv : v < 2 ^ (n.val + 1) := bitWord_lt ..
  have hsum : (s.dev.mach m).rw + v * 2 ^ (s.dev.mach m).rfill < 2 ^ ((s.dev.mach m).rfill + (n + 1)) := by
    rw [Nat.pow_add, Nat.mul_comm (2 ^ (s.dev.mach m).rfill)]
    calc _ < 2 ^ (s.dev.mach m).rfill + v * 2 ^ (s.dev.mach m).rfill := by omega
      _ = (v + 1) * 2 ^ (s.dev.mach m).rfill := by ring
      _ ≤ _ := Nat.mul_le_mul_right _ hv
  have hmod : ((s.dev.mach m).rw + v * 2 ^ (s.dev.mach m).rfill) % 2 ^ 64 = (s.dev.mach m).rw + 2 ^ (s.dev.mach m).rfill * v := by
    rw [Nat.mod_eq_of_lt (hsum.trans_le (Nat.pow_le_pow_right (by omega) (by omega))), Nat.mul_comm v]
  let x : StirM := { s.dev.mach m with rw := (s.dev.mach m).rw + 2 ^ (s.dev.mach m).rfill * v, rfill := (s.dev.mach m).rfill + (n + 1) }
  let d1 := (s.dev.withPins lv).setMach m x
  have hact : s.dev.stirAct m (.take false lane n) [lv] = (d1.stirUnits m 64).machNext m := by
    rw [Dev.stirAct_take_once lv hw]
    exact congrArg (fun r => (((s.dev.withPins lv).setMach m { s.dev.mach m with rw := r, rfill := (s.dev.mach m).rfill + (n + 1) }).stirUnits m 64).machNext m)
      hmod
  have hx : d1.mach m = x := Dev.mach_setMach_same ..
  have hset : KeepsPc m s.dev d1 := KeepsPc.trans (b := s.dev.withPins lv) ⟨rfl, rfl, rfl⟩ (.setMach rfl)
  have hnext := (hset.trans (.stirUnits d1 m 64)).mach_machNext
  have hget : d1.get (R.STIR_MSHIFT_UNIT_M1 (m / 8) (m % 8)) = s.dev.get (R.STIR_MSHIFT_UNIT_M1 (m / 8) (m % 8)) :=
    Dev.get_setMach_ne _ _ _ _ (machRegs_apart (by omega))
  refine ⟨_, v, exec_on_eq (exec_take h false lane n [lv]) hact, by rw [State.on_dev, hnext]; rfl, by omega,
    fun o ho => ?_, hv, fun hlt => ?_, fun heq hpn hrx => ?_⟩
  · exact (testBit_bitWord ..).trans (by simp [Nat.lt_succ_of_le ho])
  · have hnone : d1.stirUnits m 64 = d1 := Dev.stirUnits_none 64 (by rw [hx, hget]; exact hlt)
    rw [hnone, hx] at hnext
    rw [State.on_dev, hnone, hnext]
    exact ⟨rfl, rfl⟩
  · obtain ⟨hfill, hword⟩ := Dev.stirUnits_one (d := d1) (i := m) 63 (by rw [hx, hget]; exact congrArg (· + 1) heq)
      (by rw [Dev.on_setMach_pnEn]; exact hpn) (by rw [hx]; exact hrx) (by rw [hx]; simpa [x, Nat.mul_comm] using hsum)
    rw [hx] at hword
    rw [State.on_dev, hnext]
    exact ⟨hfill, hword⟩

/-! ### CLOSE -/

/-- The machine when what was left in RW has gone to RXDATA (R507). -/
def StirM.closed (x : StirM) : StirM := { x with rw := 0, rfill := 0, rx := x.rx ++ [x.rw % 2 ^ x.rfill] }

section
variable {d : Dev} {i : Nat} (mark : Bool) (hpn : d.on (R.STIR_MSHIFT_PN_EN (i / 8) (i % 8)) = false)
include hpn

theorem Dev.stirClose_empty (hfill : (d.mach i).rfill = 0) : d.stirClose i mark = d.machNext i := by
  simp only [Dev.stirClose, hfill, if_true, hpn, Bool.and_false, Bool.false_eq_true, if_false]

theorem Dev.stirClose_bits (hfill : (d.mach i).rfill ≠ 0) (hrx : (d.mach i).rx.length < 8) :
    d.stirClose i mark = ((d.setMach i { d.mach i with rw := 0, rfill := 0 }).setMach i (d.mach i).closed).machNext i := by
  have hdeliver := Dev.stirDeliver_rx (d := d.setMach i { d.mach i with rw := 0, rfill := 0 }) (i := i) (by rw [Dev.on_setMach_pnEn, hpn])
    (by rw [Dev.mach_setMach_same]; exact hrx) ((d.mach i).rw % 2 ^ (d.mach i).rfill) (d.mach i).rfill
  simp only [Dev.stirClose, hfill, if_false, hpn, Bool.and_false, Bool.false_eq_true, hdeliver, Dev.mach_setMach_same]
  rfl

end

theorem exec_close_effect {m : Fin 32} {s : State} (h : (s.dev.mach m).state = 1) (mark : Bool)
    (hpn : s.dev.on (R.STIR_MSHIFT_PN_EN (m / 8) (m % 8)) = false) (hrx : (s.dev.mach m).rx.length < 8) :
    ∃ t, exec (.close m mark) s = .next t ∧ (t.dev.mach m).pc = machPc s m ∧ (t.dev.mach m).rfill = 0 ∧ t.mem = s.mem ∧
      (t.dev.mach m).rx = (if (s.dev.mach m).rfill = 0 then (s.dev.mach m).rx
        else (s.dev.mach m).rx ++ [(s.dev.mach m).rw % 2 ^ (s.dev.mach m).rfill]) := by
  by_cases hfill : (s.dev.mach m).rfill = 0
  · have hnext := (KeepsPc.refl m s.dev).mach_machNext
    refine ⟨_, exec_on_eq (exec_close h mark) (Dev.stirClose_empty mark hpn hfill), ?_, ?_, rfl, ?_⟩ <;> rw [State.on_dev, hnext]
    · rfl
    · exact hfill
    · exact (if_pos hfill).symm
  · let d1 := s.dev.setMach m { s.dev.mach m with rw := 0, rfill := 0 }
    have hx : d1.mach m = { s.dev.mach m with rw := 0, rfill := 0 } := Dev.mach_setMach_same ..
    have hset : KeepsPc m s.dev d1 := .setMach rfl
    have hclosed : KeepsPc m d1 (d1.setMach m (s.dev.mach m).closed) := .setMach (by rw [hx]; rfl)
    have hnext := (hset.trans hclosed).mach_machNext
    rw [Dev.mach_setMach_same] at hnext
    have hexec := exec_on_eq (exec_close h mark) (Dev.stirClose_bits mark hpn hfill hrx)
    refine ⟨_, hexec, ?_, ?_, State.on_mem .., ?_⟩ <;> rw [State.on_dev, hnext]
    · rfl
    · rfl
    · exact (if_neg hfill).symm

/-! ### Waits -/

theorem Dev.mach_machWait (d : Dev) (i : Nat) (ins : StirInstr) : ∃ k, (d.machWait i ins).mach i =
    { d.mach i with state := 3, held := some ins, steps := 0, waitFrom := k } := ⟨_, Dev.mach_setMach_same ..⟩

theorem wait_effect {c : Instr} {m : Fin 32} {s : State} {ins : StirInstr} (h : exec c s = .next (s.on fun _ => s.dev.machWait m ins)) :
    ∃ t, exec c s = .next t ∧
      t.dev.mach m = { s.dev.mach m with state := 3, held := some ins, steps := 0, waitFrom := (t.dev.mach m).waitFrom } ∧
      KeepsRegs (machRegs m) s t := by
  obtain ⟨k, hk⟩ := s.dev.mach_machWait m ins
  refine ⟨_, h, ?_, MachFrame.keepsRegs (k := fun _ => s.dev.machWait m ins) (.setMach ..)⟩
  rw [State.on_dev, hk]

/-- A timed instruction before its instant waits (R503). -/
theorem Dev.stirTimed_before {d : Dev} {i : Nat} (h : d.atDue i = false) (ins : StirInstr) (lv : List (BitVec 96)) :
    d.stirTimed i true ins lv = d.machWait i ins := by simp only [Dev.stirTimed, h]; rfl

/-! ### Words that encode no instruction -/

/-- OP 0xA to 0xF encode none (R510). -/
theorem stirDecode_unassigned {w : Nat} (hlo : 0xA000 ≤ w) (hhi : w < 0x10000) : stirDecode w = none := by
  have hop : 10 ≤ bits w 12 4 := by rw [bits, Nat.shiftRight_eq_div_pow]; omega
  unfold stirDecode
  split
  case h_11 => rfl
  all_goals omega

end Sys2Proof.Machine
end

section
/-! PROOFS. The statement on the instructions of a machine that runs. -/

namespace Sys2Proof.Machine
open Sys2Proof Sys2Proof.Safety

theorem Dev.waitNow_due (d : Dev) (i arg : Nat) {mode : Nat} (h : mode = 0) : d.waitNow i mode arg = d.atDue i := by
  unfold Dev.waitNow
  split
  · rfl
  all_goals contradiction

theorem Dev.waitNow_gait (d : Dev) (i arg : Nat) : d.waitNow i 3 arg = false := rfl

theorem Dev.waitNow_level (d : Dev) (i arg : Nat) {mode : Nat} (h : mode = 1 ∨ mode = 2) :
    d.waitNow i mode arg = decide (d.blockPin i arg = decide (mode = 1)) := by
  rcases h with rfl | rfl
  · exact (Bool.decide_eq_true (b := d.blockPin i arg)).symm
  · exact (Bool.decide_eq_false (b := d.blockPin i arg)).symm

section
variable {m : Fin 32} {s : State} (h : (s.dev.mach m).state = 1)
include h

/-- A WAIT for T (R509). -/
theorem exec_wait_at (arg : Fin 32) :
    exec (.wait m 0 arg []) s = .next (s.on fun _ => if s.dev.atDue m then s.dev.machNext m else s.dev.machWait m (.wait 0 arg)) := by
  rw [exec_wait h rfl, Dev.waitNow_due _ _ _ (Fin.val_zero 4)]

/-- TIME in the modes whose value is always at hand (R509). -/
theorem exec_time_modes (imm : Fin 512) : ∀ x ∈ [((0 : Fin 4), (s.dev.mach m).t + (s.dev.mach m).p), (2, s.dev.io.edge + 8 * imm),
      (3, (s.dev.mach m).t + 8 * imm)],
    ∃ t, exec (.time m x.1 imm) s = .next t ∧ KeepsRegs (machRegs m) s t ∧
      t.dev.mach m = ({ s.dev.mach m with t := x.2 % 2 ^ 32 } : StirM).goOn (machPc s m) := by
  simp only [List.forall_mem_cons, List.not_mem_nil, false_imp_iff, implies_true, and_true]
  refine ⟨?_, ?_, ?_⟩
  · exact exec_time_effect h 0 imm _ rfl rfl
  · rw [Nat.mul_comm]
    exact exec_time_effect h 2 imm _ rfl rfl
  · rw [Nat.mul_comm]
    exact exec_time_effect h 3 imm _ rfl rfl

theorem exec_time_word (imm : Fin 512) {v : Nat} {r : List Nat} (htx : (s.dev.mach m).tx = v :: r) :
    ∃ t, exec (.time m 1 imm) s = .next t ∧ KeepsRegs (machRegs m) s t ∧
      t.dev.mach m = ({ s.dev.mach m with t := v, tx := r } : StirM).goOn (machPc s m) :=
  exec_time_effect h 1 imm { s.dev.mach m with t := v, tx := r } rfl (by simp only [Dev.stirTime, htx]; rfl)

theorem exec_time_stall (imm : Fin 512) (htx : (s.dev.mach m).tx = []) :
    exec (.time m 1 imm) s = .next (s.on fun _ => s.dev.machStall m (.time 1 imm) 0) :=
  exec_on_eq (exec_time h 1 imm) (by simp only [Dev.stirTime, htx]; rfl)

/-- The actions that wait for their instant, and a WAIT for it (R503, R509). -/
theorem exec_at_waits (lane : Fin 4) (n : Fin 32) (v : Byte) (hbefore : s.dev.atDue m = false) :
    ∀ x ∈ [(Instr.send m true lane n, StirInstr.send true lane n), (.take m true lane n [], .take true lane n), (.drive m true lane v, .drive true lane v),
        (.wait m 0 0 [], .wait 0 0)], exec x.1 s = .next (s.on fun _ => s.dev.machWait m x.2) := by
  simp only [List.forall_mem_cons, List.not_mem_nil, false_imp_iff, implies_true, and_true]
  refine ⟨exec_on_eq (exec_send h true lane n) (Dev.stirTimed_before hbefore _ _), exec_on_eq (exec_take h true lane n []) (Dev.stirTimed_before hbefore _ _),
    exec_on_eq (exec_drive h true lane v) (Dev.stirTimed_before hbefore _ _), ?_⟩
  rw [exec_wait_at h, if_neg (by simp [hbefore])]

/-- A WAIT for the next edge of a gait is never satisfied at once (R509). -/
theorem exec_wait_gait (g : Fin 32) (hg : g.val < 4) :
    ∃ t, exec (.wait m 3 g []) s = .next t ∧ KeepsRegs (machRegs m) s t ∧
      t.dev.mach m = { s.dev.mach m with state := 3, held := some (.wait 3 g), steps := 0, waitFrom := s.dev.gaitEdges g } := by
  have hok : stirMalformed (.wait 3 g) = false := by simp [stirMalformed]; omega
  have hexec := exec_wait h hok
  rw [show ((3 : Fin 4) : Nat) = 3 from rfl, Dev.waitNow_gait, if_neg Bool.false_ne_true] at hexec
  refine ⟨_, hexec, MachFrame.keepsRegs (k := fun _ => s.dev.machWait m (.wait 3 g)) (.setMach ..), (Dev.mach_setMach_same ..).trans ?_⟩
  dsimp only
  rw [Nat.mod_eq_of_lt hg]

/-- A WAIT for the level of a pin (R509). -/
theorem exec_wait_level {mode : Fin 4} {o : Fin 32} (lv : BitVec 96) (ho : o.val < 24) (hmode : mode = 1 ∨ mode = 2) :
    ∃ t, exec (.wait m mode o [lv]) s = .next t ∧
      ((s.dev.withPins lv).blockPin m o = decide (mode = 1) → (t.dev.mach m).pc = machPc s m ∧ (t.dev.mach m).state = 1) ∧
      ((s.dev.withPins lv).blockPin m o ≠ decide (mode = 1) → (t.dev.mach m).pc = (s.dev.mach m).pc ∧ (t.dev.mach m).state = 3) := by
  have hok : stirMalformed (.wait mode o) = false := by rcases hmode with rfl | rfl <;> simp [stirMalformed] <;> omega
  have hnow : (s.dev.withPins lv).waitNow m mode o = decide ((s.dev.withPins lv).blockPin m o = decide (mode = 1)) := by
    have hval : mode.val = 1 ∨ mode.val = 2 := hmode.imp (congrArg Fin.val) (congrArg Fin.val)
    rw [Dev.waitNow_level _ _ _ hval, decide_eq_decide.mpr (Fin.ext_iff (a := mode) (b := 1))]
    rfl
  obtain ⟨k, hk⟩ := (s.dev.withPins lv).mach_machWait m (.wait mode o)
  have hnext := KeepsPc.mach_machNext (s := s) (d' := s.dev.withPins lv) (i := m) ⟨rfl, rfl, rfl⟩
  refine ⟨_, exec_wait_pins h lv hok, fun hpin => ?_, fun hpin => ?_⟩
  · rw [State.on_dev, hnow, decide_eq_true hpin, if_pos rfl, hnext]
    exact ⟨rfl, rfl⟩
  · rw [State.on_dev, hnow, decide_eq_false hpin, if_neg Bool.false_ne_true, hk]
    exact ⟨rfl, rfl⟩

/-- Every instruction with a reserved value halts the machine (R510). -/
theorem exec_reserved (lane : Fin 4) {mask : Byte} {arg : Fin 32} {dst : Fin 8} (src : Fin 8) (hmask : 2 ≤ mask.toNat) (harg : 24 ≤ arg.val)
    (hdst : 4 < dst.val) : ∀ x ∈ [Instr.enable m lane true mask, .wait m 1 arg [], .wait m 2 arg [], .wait m 3 arg [], .copy m dst src []],
      exec x s = .next (s.on fun _ => s.dev.machIllegal m) := by
  have hbad (ins : StirInstr) (hins : stirMalformed ins = true) : s.dev.stirExec m ins [] = s.dev.machIllegal m := Dev.stirExec_malformed [] h hins
  simp only [List.forall_mem_cons, List.not_mem_nil, false_imp_iff, implies_true, and_true]
  refine ⟨exec_on_eq (f := fun d => d.stirExec m (.enable lane true mask) []) rfl (hbad _ ?_),
    exec_on_eq (f := fun d => d.stirExec m (.wait 1 arg) []) rfl (hbad _ ?_), exec_on_eq (f := fun d => d.stirExec m (.wait 2 arg) []) rfl (hbad _ ?_),
    exec_on_eq (f := fun d => d.stirExec m (.wait 3 arg) []) rfl (hbad _ ?_), exec_on_eq (f := fun d => d.stirExec m (.copy dst src) []) rfl (hbad _ ?_)⟩
  · simp only [stirMalformed, Bool.true_and, bne_iff_ne]; omega
  · simp [stirMalformed]; omega
  · simp [stirMalformed]; omega
  · simp [stirMalformed]; omega
  · exact decide_eq_true hdst

theorem exec_unassigned {w : BitVec 16} (hw : stirDecode w.toNat = none) :
    exec (.unassignedStirrupOp m w) s = .next (s.on fun _ => s.dev.machIllegal m) :=
  exec_on_eq (f := fun d => d.stirUnassigned m w.toNat) rfl (if_pos ⟨h, by rw [hw]; rfl⟩)

end

/-- A machine that does not run does nothing (R514). -/
theorem exec_stopped {m : Fin 32} {s : State} (h : (s.dev.mach m).state ≠ 1) (a : Bool) (lane : Fin 4) (n imm' : Fin 32) (v w : Byte) (mode : Fin 4)
    (imm : Fin 512) (dst src : Fin 8) (lv : List (BitVec 96)) (word : BitVec 16) :
    ∀ x ∈ [Instr.idle m, .send m a lane n, .take m a lane n lv, .drive m a lane v, .enable m lane a w, .time m mode imm, .wait m mode imm' lv,
      .copy m dst src lv, .close m a, .note m, .unassignedStirrupOp m word], exec x s = .next s := by
  have hrun (c : Instr) (ins : StirInstr) (l : List (BitVec 96)) (hc : exec c s = .next (s.on fun d => d.stirExec m ins l)) : exec c s = .next s :=
    exec_on_eq hc (Dev.stirExec_stopped l h)
  simp only [List.forall_mem_cons, List.not_mem_nil, false_imp_iff, implies_true, and_true]
  exact ⟨hrun _ .idle [] rfl, hrun _ (.send a lane n) [] rfl, hrun _ (.take a lane n) lv rfl, hrun _ (.drive a lane v) [] rfl,
    hrun _ (.enable lane a w) [] rfl, hrun _ (.time mode imm) [] rfl, hrun _ (.wait mode imm') lv rfl, hrun _ (.copy dst src) lv rfl,
    hrun _ (.close a) [] rfl, hrun _ .note [] rfl,
    exec_on_eq (f := fun d => d.stirUnassigned m word.toNat) rfl (if_neg (fun hw => h hw.1))⟩

/-- The fields that COPY writes (R509). -/
theorem copyTo_fields (x : StirM) (dst v pc : Nat) : (dst = 0 → ((copyTo x dst v).goOn pc).xw = v ∧ ((copyTo x dst v).goOn pc).xfill = 32) ∧
    (dst = 1 → ((copyTo x dst v).goOn pc).k = v) ∧ (dst = 2 → ((copyTo x dst v).goOn pc).p = v) ∧ (dst = 3 → ((copyTo x dst v).goOn pc).t = v) ∧
    (dst = 4 → ((copyTo x dst v).goOn pc).rw = v ∧ ((copyTo x dst v).goOn pc).rfill = 0) := by
  refine ⟨?_, ?_, ?_, ?_, ?_⟩ <;> rintro rfl
  exacts [⟨rfl, rfl⟩, rfl, rfl, rfl, ⟨rfl, rfl⟩]

/-- COPY of the sources other than TXDATA and the pins (R509). -/
theorem exec_copy_sources {m : Fin 32} {s : State} (h : (s.dev.mach m).state = 1) {dst : Fin 8} (hdst : dst.val ≤ 4) :
    ∀ x ∈ [((0 : Fin 8), (s.dev.mach m).xw % 2 ^ 32), (1, (s.dev.mach m).k), (2, (s.dev.mach m).p), (3, (s.dev.mach m).t), (4, (s.dev.mach m).rw % 2 ^ 32),
        (7, 0)],
      ∃ t, exec (.copy m dst x.1 []) s = .next t ∧ (t.dev.mach m).pc = machPc s m ∧ KeepsRegs (machRegs m) s t ∧
        (dst.val = 0 → (t.dev.mach m).xw = x.2 ∧ (t.dev.mach m).xfill = 32) ∧ (dst.val = 1 → (t.dev.mach m).k = x.2) ∧
        (dst.val = 2 → (t.dev.mach m).p = x.2) ∧ (dst.val = 3 → (t.dev.mach m).t = x.2) ∧
        (dst.val = 4 → (t.dev.mach m).rw = x.2 ∧ (t.dev.mach m).rfill = 0) := by
  have hcopy (src : Fin 8) (v : Nat) (hsrc : src.val ≠ 5) (hv : s.dev.copyValue m src = v) :
      ∃ t, exec (.copy m dst src []) s = .next t ∧ (t.dev.mach m).pc = machPc s m ∧ KeepsRegs (machRegs m) s t ∧
        (dst.val = 0 → (t.dev.mach m).xw = v ∧ (t.dev.mach m).xfill = 32) ∧ (dst.val = 1 → (t.dev.mach m).k = v) ∧
        (dst.val = 2 → (t.dev.mach m).p = v) ∧ (dst.val = 3 → (t.dev.mach m).t = v) ∧
        (dst.val = 4 → (t.dev.mach m).rw = v ∧ (t.dev.mach m).rfill = 0) := by
    obtain ⟨t, hexec, hmach, hkeeps⟩ := exec_copy_effect h src hdst hsrc
    refine ⟨t, hexec, by rw [hmach]; rfl, hkeeps, ?_⟩
    rw [hmach, hv]
    exact copyTo_fields ..
  simp only [List.forall_mem_cons, List.not_mem_nil, false_imp_iff, implies_true, and_true]
  exact ⟨hcopy 0 _ (by decide) rfl, hcopy 1 _ (by decide) rfl, hcopy 2 _ (by decide) rfl, hcopy 3 _ (by decide) rfl, hcopy 4 _ (by decide) rfl,
    hcopy 7 _ (by decide) rfl⟩

/-- Settles O43, instruction by instruction; levels and OE bits by `testBit_foldl_bitPut`, samples by `testBit_bitWord`, the next address by
`KeepsPc.mach_machNext`. -/
theorem stirrupInstructions : Obligations.StirrupInstructions := by
  unfold Obligations.StirrupInstructions
  refine ⟨fun m s h => ⟨exec_idle_effect h, exec_note_effect h⟩, fun m imm s h => exec_time_modes h imm, fun m imm v r s h htx => exec_time_word h imm htx,
    fun m imm s h htx => ?_, fun m dst s h hdst => exec_copy_sources h hdst, fun m dst lv s h hdst => ?_, fun m dst s h hdst htx => ?_,
    fun m lane mask s h => ?_, fun m lane mask s h hmask => ?_, fun m lane v s h => ?_, fun m lane n v s h hbefore x hx => ?_,
    fun m g s h hg => exec_wait_gait h g hg, fun m s h hdue => ?_, fun m mode o lv s h ho hmode => exec_wait_level h lv ho hmode,
    fun m lane n s h hw hfill htx hsteps => ?_, fun m lane n s h hw hfill hsteps => exec_send_effect h hw hfill hsteps,
    fun m lane n lv s h hw hunit hrw => exec_take_effect h lv hw hunit hrw, fun m mark s h hpn hrx => exec_close_effect h mark hpn hrx,
    fun m lane mask arg dst src s h hmask harg hdst x hx => illegal_effect (exec_reserved h lane src hmask harg hdst x hx),
    fun m w s h hw => illegal_effect (exec_unassigned h hw),
    fun m a lane n imm' v w mode imm dst src lv word s h => exec_stopped h a lane n imm' v w mode imm dst src lv word, fun w hw => stirDecode_unassigned hw w.isLt⟩
  · obtain ⟨t, hexec, hstate, hpc, hheld, -, hunder, hmem⟩ := stall_effect (exec_time_stall h imm htx)
    exact ⟨t, hexec, hstate, hpc, hheld, hunder, hmem⟩
  · obtain ⟨t, hexec, hk⟩ := exec_copy_pins_effect h lv hdst
    exact ⟨t, hexec, fun o _ => hk o⟩
  · obtain ⟨t, hexec, hstate, -, -, -, hunder, -⟩ := stall_effect (exec_on_eq (exec_copy h 5 hdst) (Dev.stirCopy_stall htx _ _))
    exact ⟨t, hexec, hstate, hunder⟩
  · obtain ⟨t, hexec, hpc, hkeeps, hoe⟩ := exec_enable_effect h lane (all := false) (mask := mask) rfl
    exact ⟨t, hexec, hpc, hkeeps, fun o => by rw [hoe, testBit_oeAfter_each]⟩
  · have hok : stirMalformed (.enable lane true mask) = false := by simp [stirMalformed]; omega
    obtain ⟨t, hexec, hpc, hkeeps, hoe⟩ := exec_enable_effect h lane hok
    exact ⟨t, hexec, hpc, hkeeps, fun o => by rw [hoe, testBit_oeAfter_all]⟩
  · obtain ⟨hpc, -, hframe, hdrv⟩ := stirAct_drive_effect s s.dev m (.refl _ _) false lane v
    exact ⟨_, exec_on_eq (exec_drive h false lane v) (Dev.stirTimed_now ..), hpc, hframe.keepsRegs, hdrv⟩
  · exact wait_effect (exec_at_waits h lane n v hbefore x hx)
  · have hnext := (KeepsPc.refl m s.dev).mach_machNext
    have hexec := exec_wait_at h 0
    rw [if_pos hdue] at hexec
    refine ⟨_, hexec, ?_, ?_⟩ <;> rw [State.on_dev, hnext] <;> rfl
  · obtain ⟨t, hexec, hstate, hpc, -, hdrv, hunder, -⟩ := stall_effect (exec_on_eq (exec_send h false lane n) (Dev.stirAct_send_stall hw hfill htx hsteps))
    exact ⟨t, hexec, hstate, hpc, hdrv, hunder⟩

end Sys2Proof.Machine
end

section
/-! PROOFS. Starting and stopping a Stirrup machine, its FIFOs and its program memory (R508, R512, R513). -/

namespace Sys2Proof.Machine
open Sys2Proof Sys2Proof.Safety

theorem State.on_here (s : State) (f : Dev → Dev) : s.on f = s.on fun _ => f s.dev := rfl

theorem Dev.rsvIf_false (d : Dev) (w : Writer) (off : Nat) : d.rsvIf false w off = d := rfl

/-- Where the registers of a block of machines lie (R526). -/
theorem stirBlockKeys (b k : Nat) : (R.STIR_PROG b k).key = 0x1000000 + b * 0x20000 + k * 0x80 ∧
    (R.STIR_BLK_STATUS_ENABLED b).key = 0x1002080 + b * 0x20000 ∧ (R.STIR_BLK_STATUS_PROG_WHILE_RUN b).key = 0x1002088 + b * 0x20000 := by
  simp only [Fld.key, R.STIR_PROG, R.STIR_BLK_STATUS_ENABLED, R.STIR_BLK_STATUS_PROG_WHILE_RUN]
  omega

/-! ### Start and stop -/

/-- ENABLED has the bit of each machine whose EN is 1 (R526). -/
theorem Dev.testBit_showEnabled (d : Dev) (b : Nat) {j : Nat} (hj : j < 8) :
    ((d.showEnabled b).get (R.STIR_BLK_STATUS_ENABLED b)).testBit j = d.on (R.STIR_MCTRL_EN b j) := by
  have hshow : d.showEnabled b = d.set (R.STIR_BLK_STATUS_ENABLED b) (bitWord (fun m => d.on (R.STIR_MCTRL_EN b m)) 8) := rfl
  have hlt : bitWord (fun m => d.on (R.STIR_MCTRL_EN b m)) 8 < 2 ^ 8 := bitWord_lt ..
  rw [hshow, Dev.get_set_of_lt _ _ hlt, testBit_bitWord, decide_eq_true hj, Bool.true_and]

/-- EN of machine `i` given a value, and the machine with it, as a start and a stop do (R512). -/
def Dev.machEnable (d : Dev) (i v : Nat) (x : StirM) : Dev := ((d.set (R.STIR_MCTRL_EN (i / 8) (i % 8)) v).setMach i x).showEnabled (i / 8)

section
variable (d : Dev) (i v : Nat) (x : StirM)

theorem Dev.mach_machEnable : (d.machEnable i v x).mach i = x := by
  rw [Dev.machEnable, Dev.showEnabled, Dev.mach_set, Dev.mach_setMach_same]

theorem Dev.get_machEnable_ne (g : Fld) (hen : g.key ≠ (R.STIR_MCTRL_EN (i / 8) (i % 8)).key) (hshow : g.key ≠ (R.STIR_BLK_STATUS_ENABLED (i / 8)).key)
    (hmach : ∀ f ∈ machRegs i, g.key ≠ f.key) : (d.machEnable i v x).get g = d.get g :=
  (Dev.get_set_ne _ _ _ _ hshow).trans ((Dev.get_setMach_ne _ _ _ _ hmach).trans (Dev.get_set_ne _ _ _ _ hen))

theorem Dev.get_machEnable_en : (d.machEnable i v x).get (R.STIR_MCTRL_EN (i / 8) (i % 8)) = v % 2 := by
  have hk := stirKeys (i / 8) (i % 8)
  have hb := stirBlockKeys (i / 8) 0
  exact (Dev.get_set_ne _ _ _ _ (by omega)).trans ((Dev.get_setMach_ne _ _ _ _ (machRegs_apart (by omega))).trans (Dev.get_set_same ..))

theorem Dev.testBit_machEnable : ((d.machEnable i v x).get (R.STIR_BLK_STATUS_ENABLED (i / 8))).testBit (i % 8) = (v % 2 != 0) := by
  have hk := stirKeys (i / 8) (i % 8)
  rw [Dev.machEnable, Dev.testBit_showEnabled _ _ (Nat.mod_lt _ (by omega)), Dev.on, Dev.get_setMach_ne _ _ _ _ (machRegs_apart (by omega)),
    Dev.get_set_same]
  rfl

end

/-- The frame of a start and of a stop. -/
theorem machEnable_keepsRegs (s : State) (i v : Nat) (x : StirM) :
    KeepsRegs (R.STIR_MCTRL_EN (i / 8) (i % 8) :: R.STIR_BLK_STATUS_ENABLED (i / 8) :: machRegs i) s (s.on fun _ => s.dev.machEnable i v x) :=
  keepsRegs_on fun g hg => s.dev.get_machEnable_ne i v x g (hg _ (by simp)) (hg _ (by simp)) fun f hf => hg f (by simp [hf])

/-- The machine after a start (R512). -/
def StirM.started (x : StirM) (bottom : Nat) : StirM :=
  { x with pc := bottom, xw := 0, xfill := 0, rw := 0, rfill := 0, oe := 0, state := 1, held := none, steps := 0 }

/-- The machine after a stop (R512). -/
def StirM.stopped (x : StirM) : StirM := { x with state := 0, held := none, steps := 0 }

theorem Dev.machStart_good {d : Dev} {i : Nat} (h : d.startBad i = false) :
    d.machStart i = d.machEnable i 1 ((d.mach i).started (d.get (R.STIR_WRAP_BOTTOM (i / 8) (i % 8)))) := if_neg (by simp [h])

theorem Dev.machStart_bad {d : Dev} {i : Nat} (h : d.startBad i = true) : d.machStart i = d.set (R.STIR_MSTATUS_CFG_REJ (i / 8) (i % 8)) 1 := if_pos h

theorem Dev.machStop_eq (d : Dev) (i : Nat) : d.machStop i = d.machEnable i 0 (d.mach i).stopped := rfl

section
variable {w : Writer} {m : Fin 32} {s : State} (hw : Grants s w (R.STIR_MCTRL_EN (m / 8) (m % 8)))
include hw

theorem exec_machineStart : exec (.machineStart w m) s = .next (s.on fun d => d.machStart m) :=
  State.gate_next hw (by simp only [R.STIR_MCTRL_EN]; omega)

theorem exec_machineStop : exec (.machineStop w m) s = .next (s.on fun d => d.machStop m) :=
  State.gate_next hw (by simp only [R.STIR_MCTRL_EN]; omega)

theorem exec_machineStart_good (h : s.dev.startBad m = false) :
    ∃ t, exec (.machineStart w m) s = .next t ∧ t.dev.get (R.STIR_MCTRL_EN (m / 8) (m % 8)) = 1 ∧
      t.dev.mach m = (s.dev.mach m).started (s.dev.get (R.STIR_WRAP_BOTTOM (m / 8) (m % 8))) ∧
      KeepsRegs (R.STIR_MCTRL_EN (m / 8) (m % 8) :: R.STIR_BLK_STATUS_ENABLED (m / 8) :: machRegs m) s t := by
  have hexec := exec_on_eq (exec_machineStart hw) (Dev.machStart_good h)
  refine ⟨_, hexec, ?_, ?_, ?_⟩
  · rw [State.on_dev, Dev.get_machEnable_en]
  · rw [State.on_dev, Dev.mach_machEnable]
  · exact machEnable_keepsRegs ..

theorem exec_machineStart_bad (h : s.dev.startBad m = true) :
    ∃ t, exec (.machineStart w m) s = .next t ∧ t.dev.get (R.STIR_MSTATUS_CFG_REJ (m / 8) (m % 8)) = 1 ∧
      OnlyRegs [R.STIR_MSTATUS_CFG_REJ (m / 8) (m % 8)] s t := by
  have hexec := exec_on_eq (exec_machineStart hw) (Dev.machStart_bad h)
  refine ⟨_, hexec, ?_, ?_⟩
  · rw [State.on_dev, Dev.get_set_same]
    rfl
  · exact .set _ _ _ (by simp)

theorem exec_machineStop_effect :
    ∃ t, exec (.machineStop w m) s = .next t ∧ t.dev.get (R.STIR_MCTRL_EN (m / 8) (m % 8)) = 0 ∧ t.dev.mach m = (s.dev.mach m).stopped ∧
      (t.dev.get (R.STIR_BLK_STATUS_ENABLED (m / 8))).testBit (m % 8) = false ∧
      KeepsRegs (R.STIR_MCTRL_EN (m / 8) (m % 8) :: R.STIR_BLK_STATUS_ENABLED (m / 8) :: machRegs m) s t := by
  have hexec := exec_on_eq (exec_machineStop hw) (Dev.machStop_eq ..)
  refine ⟨_, hexec, ?_, ?_, ?_, ?_⟩
  · rw [State.on_dev, Dev.get_machEnable_en]
  · rw [State.on_dev, Dev.mach_machEnable]
  · rw [State.on_dev, Dev.testBit_machEnable]
    rfl
  · exact machEnable_keepsRegs ..

end

/-- What a start requires of the wrap, of the sampling point and of each lane (R504, R512). -/
theorem Dev.startBad_false {d : Dev} {i : Nat} (h : d.startBad i = false) :
    d.get (R.STIR_WRAP_BOTTOM (i / 8) (i % 8)) ≤ d.get (R.STIR_WRAP_TOP (i / 8) (i % 8)) ∧
    d.get (R.STIR_MSHIFT_SAMPLE (i / 8) (i % 8)) ≤ d.get (R.STIR_MSHIFT_DIV_M1 (i / 8) (i % 8)) ∧
    ∀ l < 4, 1 ≤ (d.lane i l).2 ∧ (d.lane i l).1 + (d.lane i l).2 ≤ 24 := by
  simp only [Dev.startBad, Bool.or_eq_false_iff, decide_eq_false_iff_not, List.any_eq_false, List.mem_range, Bool.or_eq_true, beq_iff_eq,
    decide_eq_true_eq] at h
  obtain ⟨⟨⟨hwrap, hsample⟩, hlanes⟩, -⟩ := h
  refine ⟨by omega, by omega, fun l hl => ?_⟩
  have := hlanes l hl
  omega

/-! ### TXDATA and RXDATA -/

section
variable {w : Writer} {m : Fin 32} {v : W32} {s : State} (hw : Grants s w (R.STIR_TXDATA (m / 8) (m % 8)))
include hw

theorem exec_stirTxdata : exec (.stirTxdata w m v) s = .next (s.on fun d => d.stirTx m v.toNat) :=
  State.gate_next hw (by simp only [R.STIR_TXDATA]; omega)

theorem exec_stirTxdata_entered (h : (s.dev.mach m).tx.length < 8) :
    ∃ t, exec (.stirTxdata w m v) s = .next t ∧ t.dev.mach m = { s.dev.mach m with tx := (s.dev.mach m).tx ++ [v.toNat] } ∧
      t.dev.get (R.STIR_TX_LEVEL (m / 8) (m % 8)) = (s.dev.mach m).tx.length + 1 ∧ KeepsRegs (machRegs m) s t := by
  have htx : s.dev.stirTx m v.toNat = s.dev.setMach m { s.dev.mach m with tx := (s.dev.mach m).tx ++ [v.toNat] } := by
    simp only [Dev.stirTx, h, if_true, Nat.mod_eq_of_lt v.isLt]
  refine ⟨_, exec_on_eq (exec_stirTxdata hw) htx, Dev.mach_setMach_same .., ?_, MachFrame.keepsRegs (k := fun _ => _) (.setMach ..)⟩
  rw [State.on_dev, Dev.get_setMach_txLevel, List.length_append, List.length_singleton, Nat.mod_eq_of_lt (by omega)]

theorem exec_stirTxdata_dropped (h : 8 ≤ (s.dev.mach m).tx.length) :
    ∃ t, exec (.stirTxdata w m v) s = .next t ∧ t.dev.mach m = s.dev.mach m ∧ t.dev.get (R.STIR_MSTATUS_WR_DROP (m / 8) (m % 8)) = 1 ∧
      OnlyRegsEv [R.STIR_MSTATUS_WR_DROP (m / 8) (m % 8)] s t := by
  have hk := stirKeys (m / 8) (m % 8)
  have htx : s.dev.stirTx m v.toNat = s.dev.machCause m R.STIR_MSTATUS_WR_DROP 3 := if_neg (by omega)
  have hexec := exec_on_eq (exec_stirTxdata hw) htx
  refine ⟨_, hexec, ?_, ?_, ?_⟩
  · rw [State.on_dev, Dev.mach_machCause]
  · rw [State.on_dev]
    exact (Dev.get_machCause_same (f := R.STIR_MSTATUS_WR_DROP) s.dev m 3 (by omega)).trans rfl
  · rw [← State.on_here s fun d => d.machCause m R.STIR_MSTATUS_WR_DROP 3]
    exact .cause _ _ _ _ (by omega) (by simp)

end

/-- The place of RXDATA of a machine: no word that a read of a lower one latches. -/
def rxdataAt (m : Fin 32) : Nat := 0x80000 + 0x1000 * (m.val / 8) + 0x200 + 0x40 * (m.val % 8) + 0x18

theorem hiWord_rxdata : ∀ m : Fin 32, hiWord (rxdataAt m) = false ∧ sizeOk (rxdataAt m) 4 = true := by decide +kernel

theorem liveWord_rxdata (m : Fin 32) (s : State) (w : Writer) : liveWord s w (rxdataAt m) = (s.dev.stirRx m).1 := by
  have hblock : rxdataAt m / 0x10000 = 8 := by unfold rxdataAt; omega
  have hrest : rxdataAt m % 0x10000 = 0x1000 * (m.val / 8) + 0x40 * (m.val % 8) + 0x218 := by unfold rxdataAt; omega
  simp only [liveWord, hblock, hrest]
  rw [if_neg (by omega), if_neg (by omega), if_pos (by omega)]
  exact congrArg (fun i => (s.dev.stirRx i).1) (by omega)

theorem readEffect_rxdata (m : Fin 32) (d : Dev) (w : Writer) : d.readEffect w (rxdataAt m) = (d.stirRx m).2 := by
  have hblock : rxdataAt m / 0x10000 = 8 := by unfold rxdataAt; omega
  have hrest : rxdataAt m % 0x10000 = 0x1000 * (m.val / 8) + 0x40 * (m.val % 8) + 0x218 := by unfold rxdataAt; omega
  simp only [Dev.readEffect, hblock, hrest]
  rw [if_pos (by omega)]
  exact congrArg (fun i => (d.stirRx i).2) (by omega)

/-- A 32-bit read of a word without a shadow: its live value, and what the read does. -/
theorem State.hostRead_word {s : State} {w : Writer} {off : Nat} (hr : s.dev.mayRead w = true) (hsize : sizeOk off 4 = true) (hhi : hiWord off = false) :
    s.hostRead w off 4 = ((latchShadows s w (readerCode w) (shadowed off)).on fun d => d.readEffect w off).returned [liveWord s w off] := by
  have hword : s.readWord w (readerCode w) off =
      (liveWord s w off, (latchShadows s w (readerCode w) (shadowed off)).on fun d => d.readEffect w off) := by
    simp only [State.readWord, hhi, Bool.false_eq_true, if_false]
  have hread : s.regRead w (readerCode w) off 4 = ([(s.readWord w (readerCode w) off).1], (s.readWord w (readerCode w) off).2) := by
    simp only [State.regRead, hsize, Bool.not_true, Bool.false_eq_true, if_false, if_true]
  rw [State.hostRead, if_pos hr, hread, hword]

/-- The machine after a read of RXDATA (R508). -/
def StirM.popped (x : StirM) (v : Nat) (r : List Nat) : StirM := { x with rx := r, lastRx := v }

theorem Dev.stirRx_word {d : Dev} {i v : Nat} {r : List Nat} (h : (d.mach i).rx = v :: r) : d.stirRx i = (v, d.setMach i ((d.mach i).popped v r)) := by
  unfold Dev.stirRx
  dsimp only
  rw [h]
  rfl

theorem Dev.stirRx_empty {d : Dev} {i : Nat} (h : (d.mach i).rx = []) : d.stirRx i = ((d.mach i).lastRx, d) := by
  unfold Dev.stirRx
  dsimp only
  rw [h]

theorem State.returned_mach (s : State) (ws : List Nat) (i : Nat) : (s.returned ws).dev.mach i = s.dev.mach i := rfl

theorem State.returned_rdata (s : State) (ws : List Nat) : (s.returned ws).dev.rdata = ws.map (BitVec.ofNat 32) := rfl

/-- A 32-bit read of RXDATA: the word, and the machine after it. -/
theorem exec_stirRxdata_read {w : Writer} {m : Fin 32} {s : State} (hr : s.dev.mayRead w = true) :
    ∃ t, ∃ a : Dev, exec (.stirRxdata w m) s = .next t ∧ a.mach m = s.dev.mach m ∧ t = ((s.on fun _ => (a.stirRx m).2).returned [(s.dev.stirRx m).1]) := by
  obtain ⟨hhi, hsize⟩ := hiWord_rxdata m
  have hread : s.hostRead w (rxdataAt m) 4 =
      (s.on fun _ => ((latchShadows s w (readerCode w) (shadowed (rxdataAt m))).dev.stirRx m).2).returned [(s.dev.stirRx m).1] := by
    rw [State.hostRead_word hr hsize hhi, liveWord_rxdata, State.on_here, readEffect_rxdata]
    rfl
  exact ⟨_, (latchShadows s w (readerCode w) (shadowed (rxdataAt m))).dev, rfl, rfl, hread⟩

theorem exec_stirRxdata {w : Writer} {m : Fin 32} {s : State} (hr : s.dev.mayRead w = true) :
    ∃ t, exec (.stirRxdata w m) s = .next t ∧
      (∀ v r, (s.dev.mach m).rx = v :: r → t.dev.rdata.head? = some (BitVec.ofNat 32 v) ∧ (t.dev.mach m).rx = r ∧ (t.dev.mach m).lastRx = v) ∧
      ((s.dev.mach m).rx = [] → t.dev.rdata.head? = some (BitVec.ofNat 32 (s.dev.mach m).lastRx) ∧ t.dev.mach m = s.dev.mach m) := by
  obtain ⟨t, a, hexec, hmach, rfl⟩ := exec_stirRxdata_read (m := m) hr
  refine ⟨_, hexec, fun v r hrx => ?_, fun hrx => ?_⟩ <;> rw [State.returned_mach, State.returned_rdata, State.on_dev]
  · have ha : a.stirRx m = (v, a.setMach m ((s.dev.mach m).popped v r)) := by rw [← hmach]; exact Dev.stirRx_word (hmach ▸ hrx)
    rw [ha, Dev.stirRx_word hrx, Dev.mach_setMach_same]
    exact ⟨rfl, rfl, rfl⟩
  · rw [Dev.stirRx_empty (d := a) (by rw [hmach]; exact hrx), Dev.stirRx_empty hrx]
    exact ⟨rfl, hmach⟩

/-! ### Program memory -/

section
variable {w : Writer} {b : Fin 4} {k : Fin 64} {v : W32} {s : State} (hw : Grants s w (R.STIR_PROG b k)) (hv : v.toNat < 2 ^ 16)
include hw hv

theorem exec_stirProg_effect :
    ∃ t, exec (.stirProg w b k v) s = .next t ∧ t.dev.get (R.STIR_PROG b k) = v.toNat ∧
      (s.dev.get (R.STIR_BLK_STATUS_ENABLED b) ≠ 0 → t.dev.get (R.STIR_BLK_STATUS_PROG_WHILE_RUN b) = 1) ∧
      (s.dev.get (R.STIR_BLK_STATUS_ENABLED b) = 0 → OnlyRegs [R.STIR_PROG b k] s t) := by
  have hb := stirBlockKeys b k
  have hrsv : (v.toNat / 2 ^ 16 != 0) = false := by rw [Nat.div_eq_of_lt hv]; rfl
  have hexec : exec (.stirProg w b k v) s = .next (s.on fun d => d.stirProgWrite w b k v.toNat) :=
    State.gate_next hw (by simp only [R.STIR_PROG])
  have hstored : (s.dev.set (R.STIR_PROG b k) v.toNat).get (R.STIR_PROG b k) = v.toNat := Dev.get_set_of_lt _ _ hv
  by_cases hen : s.dev.get (R.STIR_BLK_STATUS_ENABLED b) = 0
  · have hprog : s.dev.stirProgWrite w b k v.toNat = s.dev.set (R.STIR_PROG b k) v.toNat := by
      simp only [Dev.stirProgWrite, hen, hrsv, ne_eq, not_true, if_false, Dev.rsvIf_false]
    exact ⟨_, exec_on_eq hexec hprog, hstored, fun h => absurd hen h, fun _ => .set _ _ _ (by simp)⟩
  · have hprog : s.dev.stirProgWrite w b k v.toNat = (s.dev.set (R.STIR_PROG b k) v.toNat).cause (R.STIR_BLK_STATUS_PROG_WHILE_RUN b)
        (s.dev.on (R.STIR_EVT_EN_PROG b)) (174 + b) := by
      simp only [Dev.stirProgWrite, hen, hrsv, ne_eq, not_false_eq_true, if_true, Dev.rsvIf_false]
    refine ⟨_, exec_on_eq hexec hprog, ?_, fun _ => ?_, fun h => absurd h hen⟩
    · exact (Dev.cause_get_ne _ _ _ _ _ (by omega) (by unfold block; omega) (by omega)).trans hstored
    · exact Dev.cause_get_same _ _ _ _ (by omega) (by unfold block; omega)

end

/-! ### The ends of waits and stalls -/

theorem Dev.passToT_frame (d : Dev) (i : Nat) : TimeFrame d (d.passToT i) := by
  unfold Dev.passToT
  split
  · exact .refl _
  · exact .passTo ..

theorem TimeFrame.get_above_time {d d' : Dev} (h : TimeFrame d d') (g : Fld) (hg : 0xC00000 ≤ g.key) : d'.get g = d.get g :=
  h.get g fun f hf => key_ne_of_block_ne (by rw [timeRegs_block_time f hf]; unfold block; omega)

theorem TimeFrame.keepsPc {d d' : Dev} (h : TimeFrame d d') (i : Nat) : KeepsPc i d d' := by
  have hk := stirKeys (i / 8) (i % 8)
  exact ⟨by rw [Dev.mach_congr h.io], h.get_above_time _ (by omega), h.get_above_time _ (by omega)⟩

theorem TimeFrame.lane {d d' : Dev} (h : TimeFrame d d') (i l : Nat) : d'.lane i l = d.lane i l := by
  have hk := stirKeys (i / 8) (i % 8)
  unfold Dev.lane
  split <;> exact Prod.ext (h.get_above_time _ (by omega)) (h.get_above_time _ (by omega))

theorem Dev.stirWaitDone_at {d : Dev} {i : Nat} {arg : Fin 32} (h : (d.mach i).state = 3) (hheld : (d.mach i).held = some (.wait 0 arg)) :
    d.stirWaitDone i [] = (d.passToT i).machNext i := by
  unfold Dev.stirWaitDone
  rw [if_neg (not_not_intro h), hheld]
  rfl

theorem Dev.stirWaitDone_gait {d : Dev} {i : Nat} {arg : Fin 32} (h : (d.mach i).state = 3) (hheld : (d.mach i).held = some (.wait 3 arg)) :
    d.stirWaitDone i [] = if d.gaitEdges (arg % 4) = (d.mach i).waitFrom then d else d.machNext i := by
  unfold Dev.stirWaitDone
  rw [if_neg (not_not_intro h), hheld]
  rfl

theorem Dev.stirWaitDone_level {d : Dev} {i : Nat} {mode : Fin 4} {arg : Fin 32} (lv : BitVec 96) (h : (d.mach i).state = 3)
    (hheld : (d.mach i).held = some (.wait mode arg)) (hmode : mode = 1 ∨ mode = 2) :
    d.stirWaitDone i [lv] = if (d.withPins lv).waitNow i mode arg then (d.withPins lv).machNext i else d.withPins lv := by
  unfold Dev.stirWaitDone
  rw [if_neg (not_not_intro h), hheld]
  rcases hmode with rfl | rfl <;> rfl

/-- The instant of a DRIVE that waits: the time to which SC passes, or LATE when T has passed already (R503). -/
def Dev.driveInstant (d : Dev) (i : Nat) : Dev :=
  if d.atDue i && d.stirSc % 2 ^ 32 != (d.mach i).t then d.machCause i R.STIR_MSTATUS_LATE 4 else d.passToT i

theorem Dev.stirAtAction_drive {d : Dev} {i : Nat} {lane : Fin 4} {v : Byte} (h : (d.mach i).state = 3)
    (hheld : (d.mach i).held = some (.drive true lane v)) : d.stirAtAction i [] = (d.driveInstant i).stirAct i (.drive true lane v) [] := by
  unfold Dev.stirAtAction
  rw [if_neg (not_not_intro h), hheld]
  rfl

theorem Dev.driveInstant_keepsPc (d : Dev) (i : Fin 32) : KeepsPc i d (d.driveInstant i) := by
  have hk := stirKeys (i / 8) (i % 8)
  unfold Dev.driveInstant
  split
  · exact .machCause d i _ _ (by omega)
  · exact (d.passToT_frame i).keepsPc i

theorem Dev.lane_driveInstant (d : Dev) (i : Fin 32) (l : Nat) : (d.driveInstant i).lane i l = d.lane i l := by
  have hk := stirKeys (i / 8) (i % 8)
  unfold Dev.driveInstant
  split
  · unfold Dev.lane
    split <;> exact Prod.ext (d.get_machCause_ne i 4 _ (by omega) (by omega)) (d.get_machCause_ne i 4 _ (by omega) (by omega))
  · exact (d.passToT_frame i).lane i l

/-- The machine as it resumes (R506). -/
def StirM.resumed (x : StirM) : StirM := { x with state := 1 }

/-- The machine after TIME took a word (R509). -/
def StirM.timed (x : StirM) (v : Nat) (r : List Nat) : StirM := { x with t := v, tx := r }

theorem Dev.stirResume_time {d : Dev} {i : Nat} {imm : Fin 512} {v : Nat} {r : List Nat} (h : (d.mach i).state = 2)
    (hheld : (d.mach i).held = some (.time 1 imm)) (htx : (d.mach i).tx = v :: r) :
    d.stirResume i = ((d.setMach i (d.mach i).resumed).setMach i ((d.mach i).resumed.timed v r)).machNext i := by
  have htx' : (((d.setMach i (d.mach i).resumed).mach i)).tx = v :: r := by
    rw [Dev.mach_setMach_same]
    exact htx
  have htime : (d.setMach i (d.mach i).resumed).stirTime i (.time 1 imm) 1 imm =
      ((d.setMach i (d.mach i).resumed).setMach i (((d.setMach i (d.mach i).resumed).mach i).timed v r)).machNext i := by
    simp only [Dev.stirTime, htx']
    rfl
  rw [Dev.mach_setMach_same] at htime
  unfold Dev.stirResume
  rw [if_neg (by simp [h, htx])]
  split
  · next ins hins =>
    cases hheld.symm.trans hins
    exact htime
  · next hins => simp [hheld] at hins

section
variable {m : Fin 32} {s : State}

theorem exec_stirrupWaitDone_at {arg : Fin 32} (h : (s.dev.mach m).state = 3) (hheld : (s.dev.mach m).held = some (.wait 0 arg)) :
    ∃ t, exec (.stirrupWaitDone m []) s = .next t ∧ (t.dev.mach m).state = 1 ∧ (t.dev.mach m).pc = machPc s m ∧ t.mem = s.mem := by
  have hnext := ((s.dev.passToT_frame m).keepsPc m).mach_machNext (s := s)
  have hexec := exec_on_eq (c := .stirrupWaitDone m []) (f := fun d => d.stirWaitDone m []) rfl (Dev.stirWaitDone_at h hheld)
  exact ⟨_, hexec, (congrArg StirM.state hnext).trans rfl, (congrArg StirM.pc hnext).trans rfl, State.on_mem ..⟩

theorem exec_stirrupWaitDone_gait {arg : Fin 32} (h : (s.dev.mach m).state = 3) (hheld : (s.dev.mach m).held = some (.wait 3 arg)) :
    (s.dev.gaitEdges (arg % 4) ≠ (s.dev.mach m).waitFrom → ∃ t, exec (.stirrupWaitDone m []) s = .next t ∧ (t.dev.mach m).state = 1 ∧
      (t.dev.mach m).pc = machPc s m ∧ KeepsRegs (machRegs m) s t) ∧
    (s.dev.gaitEdges (arg % 4) = (s.dev.mach m).waitFrom → exec (.stirrupWaitDone m []) s = .next s) := by
  have hexec := exec_on_eq (c := .stirrupWaitDone m []) (f := fun d => d.stirWaitDone m []) rfl (Dev.stirWaitDone_gait h hheld)
  refine ⟨fun hedge => ?_, fun hedge => ?_⟩
  · rw [if_neg hedge] at hexec
    have hnext := (KeepsPc.refl m s.dev).mach_machNext
    refine ⟨_, hexec, ?_, ?_, MachFrame.keepsRegs (k := fun _ => s.dev.machNext m) (.machNext ..)⟩ <;> rw [State.on_dev, hnext] <;> rfl
  · rw [if_pos hedge] at hexec
    exact hexec

theorem exec_stirrupWaitDone_level {mode : Fin 4} {arg : Fin 32} (lv : BitVec 96) (h : (s.dev.mach m).state = 3) (hmode : mode = 1 ∨ mode = 2)
    (hheld : (s.dev.mach m).held = some (.wait mode arg)) :
    ∃ t, exec (.stirrupWaitDone m [lv]) s = .next t ∧
      ((s.dev.withPins lv).blockPin m arg = decide (mode = 1) → (t.dev.mach m).state = 1 ∧ (t.dev.mach m).pc = machPc s m) ∧
      ((s.dev.withPins lv).blockPin m arg ≠ decide (mode = 1) → t.dev.mach m = s.dev.mach m) := by
  have hexec := exec_on_eq (c := .stirrupWaitDone m [lv]) (f := fun d => d.stirWaitDone m [lv]) rfl (Dev.stirWaitDone_level lv h hheld hmode)
  have hval : mode.val = 1 ∨ mode.val = 2 := hmode.imp (congrArg Fin.val) (congrArg Fin.val)
  have hone : decide (mode.val = 1) = decide (mode = 1) := decide_eq_decide.mpr (Fin.ext_iff (a := mode) (b := 1)).symm
  rw [Dev.waitNow_level _ _ _ hval, hone] at hexec
  have hnext := KeepsPc.mach_machNext (s := s) (d' := s.dev.withPins lv) (i := m) ⟨rfl, rfl, rfl⟩
  refine ⟨_, hexec, fun hpin => ?_, fun hpin => ?_⟩
  · rw [State.on_dev, decide_eq_true hpin, if_pos rfl, hnext]
    exact ⟨rfl, rfl⟩
  · rw [State.on_dev, decide_eq_false hpin, if_neg Bool.false_ne_true]
    rfl

theorem exec_atAction_drive {lane : Fin 4} {v : Byte} (h : (s.dev.mach m).state = 3) (hheld : (s.dev.mach m).held = some (.drive true lane v)) :
    ∃ t, exec (.atAction m []) s = .next t ∧ (t.dev.mach m).state = 1 ∧ (t.dev.mach m).pc = machPc s m ∧
      ∀ o < min (s.dev.lane m lane).2 8, (t.dev.mach m).drv.testBit ((s.dev.lane m lane).1 + o) = v.getLsbD o := by
  have hexec := exec_on_eq (c := .atAction m []) (f := fun d => d.stirAtAction m []) rfl (Dev.stirAtAction_drive h hheld)
  obtain ⟨hpc, hstate, -, hdrv⟩ := stirAct_drive_effect s _ m (s.dev.driveInstant_keepsPc m) true lane v
  refine ⟨_, hexec, hstate, hpc, fun o ho => ?_⟩
  rw [State.on_dev, hdrv, Dev.lane_driveInstant, if_pos (by omega), Nat.add_sub_cancel_left]

/-- A machine that does not wait is left alone by the ends of waits. -/
theorem exec_not_waiting (lv : List (BitVec 96)) (h : (s.dev.mach m).state ≠ 3) :
    exec (.stirrupWaitDone m lv) s = .next s ∧ exec (.atAction m lv) s = .next s :=
  ⟨exec_on_eq (f := fun d => d.stirWaitDone m lv) rfl (if_pos h), exec_on_eq (f := fun d => d.stirAtAction m lv) rfl (if_pos h)⟩

theorem exec_stallResume_idle (h : (s.dev.mach m).state ≠ 2 ∨ (s.dev.mach m).tx = []) : exec (.stallResume m) s = .next s :=
  exec_on_eq (f := fun d => d.stirResume m) rfl (if_pos h)

/-- A TIME from TXDATA that stalled goes on with the word that came (R506, R509). -/
theorem exec_stallResume_time {imm : Fin 512} {v : Nat} {r : List Nat} (h : (s.dev.mach m).state = 2)
    (hheld : (s.dev.mach m).held = some (.time 1 imm)) (htx : (s.dev.mach m).tx = v :: r) :
    ∃ t, exec (.stallResume m) s = .next t ∧ (t.dev.mach m).state = 1 ∧ (t.dev.mach m).t = v ∧ (t.dev.mach m).tx = r ∧
      (t.dev.mach m).pc = machPc s m ∧ KeepsRegs (machRegs m) s t := by
  have hexec := exec_on_eq (c := .stallResume m) (f := fun d => d.stirResume m) rfl (Dev.stirResume_time h hheld htx)
  have hset : MachFrame m s.dev ((s.dev.setMach m (s.dev.mach m).resumed).setMach m ((s.dev.mach m).resumed.timed v r)) := (MachFrame.setMach ..).trans (.setMach ..)
  have hkeeps := hset.keepsPc (by rw [Dev.mach_setMach_same]; rfl)
  have hmach := hkeeps.mach_machNext
  rw [Dev.mach_setMach_same] at hmach
  exact ⟨_, hexec, congrArg StirM.state hmach, congrArg StirM.t hmach, congrArg StirM.tx hmach, congrArg StirM.pc hmach,
    MachFrame.keepsRegs (k := fun _ => _) (hset.trans (.machNext ..))⟩

end

/-- Settles O44: a start and a stop by `machEnable`, the waits by the instruction that each holds. -/
theorem stirrupControl : Obligations.StirrupControl := by
  unfold Obligations.StirrupControl
  refine ⟨fun w m s hw h => exec_machineStart_good hw h, fun w m s hw h => exec_machineStart_bad hw h, fun w m s hw => exec_machineStop_effect hw,
    fun d m h => Dev.startBad_false h, fun w m v s hw h => exec_stirTxdata_entered hw h, fun w m v s hw h => exec_stirTxdata_dropped hw h,
    fun w m s hr => exec_stirRxdata hr, fun w b k v s hw hv => exec_stirProg_effect hw hv,
    fun m arg s h => ⟨exec_stirrupWaitDone_at h, fun hheld => (exec_stirrupWaitDone_gait h hheld).1, fun hheld => (exec_stirrupWaitDone_gait h hheld).2⟩,
    fun m arg mode lv s h hmode hheld => exec_stirrupWaitDone_level lv h hmode hheld, fun m lane v s h hheld => exec_atAction_drive h hheld,
    fun m lv s h => exec_not_waiting lv h, fun m imm v r s h hheld htx => exec_stallResume_time h hheld htx, fun m s h => exec_stallResume_idle h⟩

end Sys2Proof.Machine
end

section
/-! PROOFS. The operations of a Punnet (R516 to R524). -/

namespace Sys2Proof.Machine
open Sys2Proof Sys2Proof.Safety

/-! ### A Punnet changed, with FILL, and its causes -/

section
variable (d : Dev) (n : Nat)

@[simp] theorem Dev.pn_setPn_same (x : Punnet) : (d.setPn n x).pn n = x := Tab.getD_put_same ..

@[simp] theorem Dev.pn_set (f : Fld) (v k : Nat) : (d.set f v).pn k = d.pn k := rfl

theorem Dev.get_setPn_ne (x : Punnet) (g : Fld) (hg : g.key ≠ (R.PN_STATUS_FILL n).key) : (d.setPn n x).get g = d.get g := Dev.get_set_ne _ _ _ _ hg

theorem Dev.get_setPn_fill (x : Punnet) : (d.setPn n x).get (R.PN_STATUS_FILL n) = x.q.length % 2 ^ 8 := Dev.get_set_same ..

theorem Dev.pn_congr {d d' : Dev} (h : d'.io = d.io) (k : Nat) : d'.pn k = d.pn k := by rw [Dev.pn, h]; rfl

variable {n} (hn : n < 64) (f : Fld) (b : Nat)
include hn

@[simp] theorem Dev.pn_pnCause (k : Nat) : (d.pnCause n f b).pn k = d.pn k := Dev.pn_congr (EventFrame.cause d f _ _ (by omega)).io k

variable (hf : f.key / 0x400 = 0x3800 + n)
include hf

theorem Dev.get_pnCause_same : (d.pnCause n f b).get f = 1 % 2 ^ f.width := Dev.cause_get_same _ _ _ _ (by omega) (by unfold block; omega)

omit hf in
theorem Dev.get_pnCause_ne (g : Fld) (hg : g.key / 0x400 = 0x3800 + n) (hne : g.key ≠ f.key) : (d.pnCause n f b).get g = d.get g :=
  Dev.cause_get_ne _ _ _ _ _ (by omega) (by unfold block; omega) hne

end

/-! ### Entries, bytes and items -/

/-- A Punnet with one entry more. -/
def Punnet.pushed (x : Punnet) (e : PnEntry) : Punnet := { x with q := x.q ++ [e] }

/-- A Punnet with one byte more in its assembly word (R516). -/
def Punnet.packed (x : Punnet) (b : Nat) : Punnet := { x with asm := x.asm + b % 256 * 2 ^ (8 * x.fill), fill := x.fill + 1 }

/-- A Punnet with an empty assembly word. -/
def Punnet.unpacked (x : Punnet) : Punnet := { x with asm := 0, fill := 0 }

/-- A Punnet that takes an item: no gap run, a packet begun (R516). -/
def Punnet.taking (x : Punnet) : Punnet := { x with run := false, items := true }

section
variable {n : Nat} (hn : n < 64) (d : Dev)
include hn

theorem Dev.pn_pnPush (e : PnEntry) : (d.pnPush n e).pn n = (d.pn n).pushed e := by
  simp only [Dev.pnPush]
  split
  · exact (Dev.pn_pnCause _ hn _ _ _).trans (Dev.pn_setPn_same ..)
  · exact Dev.pn_setPn_same ..

theorem Dev.get_pnPush_fill (e : PnEntry) : (d.pnPush n e).get (R.PN_STATUS_FILL n) = ((d.pn n).q.length + 1) % 2 ^ 8 := by
  have hk := pnKeys n
  have hset : (d.setPn n ((d.pn n).pushed e)).get (R.PN_STATUS_FILL n) = ((d.pn n).q.length + 1) % 2 ^ 8 := by
    rw [Dev.get_setPn_fill, Punnet.pushed, List.length_append, List.length_singleton]
  simp only [Dev.pnPush]
  split
  · exact (Dev.get_pnCause_ne _ hn _ _ _ (by omega) (by omega)).trans hset
  · exact hset

/-- The fifth byte pushes the assembly word (R516). -/
theorem Dev.pnByte_fifth {d : Dev} (h : (d.pn n).fill = 4) (b : Nat) :
    (d.pnByte n b).pn n = ((d.pn n).unpacked).pushed { data := (d.pn n).asm + b % 256 * 256 ^ 4, valid := 5 } ∧
      (d.pnByte n b).get (R.PN_STATUS_FILL n) = ((d.pn n).q.length + 1) % 2 ^ 8 := by
  simp only [Dev.pnByte, h, if_true]
  refine ⟨?_, ?_⟩
  · rw [Dev.pn_pnPush hn, Dev.pn_setPn_same]
    rfl
  · rw [Dev.get_pnPush_fill hn, Dev.pn_setPn_same]

omit hn in
theorem Dev.pnByte_packed {d : Dev} (h : (d.pn n).fill ≠ 4) (b : Nat) : d.pnByte n b = d.setPn n ((d.pn n).packed b) := if_neg h

omit hn in
/-- An 8-bit item of a Punnet with room (R516, R519). -/
theorem Dev.pnItem_byte {d : Dev} (hroom : (d.pn n).q.length ≤ 125) (hw : d.on (R.PN_CFG_W16 n) = false) (v : Nat) :
    d.pnItem n v = (d.setPn n (d.pn n).taking).pnByte n v := by
  simp only [Dev.pnItem, hroom, if_true, hw, Bool.false_eq_true, if_false]
  rfl

/-- An item of a full Punnet opens a gap run: a marker, and GAP (R519). -/
theorem Dev.pnItem_gap {d : Dev} (hfull : 125 < (d.pn n).q.length) (hrun : (d.pn n).run = false) (hfill : (d.pn n).fill = 0) (v : Nat) :
    ((d.pnItem n v).pn n).run = true ∧ ((d.pnItem n v).pn n).q = (d.pn n).q ++ [{ data := 1, gap := true }] ∧
      (d.pnItem n v).get (R.PN_STATUS_GAP n) = 1 := by
  have hk := pnKeys n
  have hasm : d.pnPushAsm n false = d := if_pos hfill
  simp only [Dev.pnItem, Nat.not_le.mpr hfull, if_false, hrun, Bool.false_eq_true, hasm]
  rw [Dev.pn_pnCause _ hn, Dev.pn_setPn_same, Dev.pn_pnPush hn]
  refine ⟨rfl, rfl, ?_⟩
  exact Dev.get_pnCause_same _ hn _ 1 (by omega)

omit hn in
theorem Dev.pnNewest_length (f : PnEntry → PnEntry) :
    ((d.pnNewest n f).pn n).q.length = (d.pn n).q.length ∧ ((d.pnNewest n f).pn n).fill = (d.pn n).fill := by
  simp only [Dev.pnNewest]
  split
  · next e he =>
    have hpos : 0 < (d.pn n).q.length := List.length_pos_iff.mpr (by rintro h; simp [h] at he)
    rw [Dev.pn_setPn_same]
    refine ⟨?_, rfl⟩
    simp only [List.length_append, List.length_dropLast, List.length_singleton]
    omega
  · exact ⟨rfl, rfl⟩

omit hn in
/-- An item within a gap run is only counted by the marker (R519). -/
theorem Dev.pnItem_run {d : Dev} (hrun : (d.pn n).run = true) (hfull : 125 < (d.pn n).q.length) (v : Nat) :
    ((d.pnItem n v).pn n).q.length = (d.pn n).q.length ∧ ((d.pnItem n v).pn n).fill = (d.pn n).fill := by
  simp only [Dev.pnItem, Nat.not_le.mpr hfull, if_false, hrun, if_true]
  exact d.pnNewest_length _

/-- A boundary pushes the bytes held, with END (R517). -/
theorem Dev.pnBoundary_bytes {d : Dev} (hflush : d.on (R.PN_CTRL_FLUSH n) = false) (hrun : (d.pn n).run = false) (hfill : (d.pn n).fill ≠ 0) :
    (d.pnBoundary n).get (R.PN_STATUS_PKT n) = 1 ∧ ((d.pnBoundary n).pn n).fill = 0 ∧
      ((d.pnBoundary n).pn n).q = (d.pn n).q ++ [{ data := (d.pn n).asm, valid := (d.pn n).fill, last := true }] := by
  have hk := pnKeys n
  simp only [Dev.pnBoundary, hflush, Bool.false_eq_true, if_false, hrun, false_and, hfill, ne_eq, not_false_eq_true, if_true]
  rw [Dev.pn_pnCause _ hn]
  simp only [Dev.pnPushAsm, Dev.pn_setPn_same, hfill, if_false, Dev.pn_pnPush hn]
  exact ⟨Dev.get_pnCause_same _ hn _ 4 (by omega), rfl, rfl⟩

omit hn in
theorem Dev.pn_pnEmpty : (d.pnEmpty n).pn n = { d.pn n with q := [], asm := 0, fill := 0, run := false, items := false } := by
  rw [Dev.pnEmpty, Dev.pn_set, Dev.pn_setPn_same]

omit hn in
theorem Dev.get_pnEmpty : (d.pnEmpty n).get (R.PN_CTRL_FLUSH n) = 0 ∧ (d.pnEmpty n).get (R.PN_STATUS_FILL n) = 0 ∧
    ∀ g : Fld, g.key ≠ (R.PN_CTRL_FLUSH n).key → g.key ≠ (R.PN_STATUS_FILL n).key → (d.pnEmpty n).get g = d.get g := by
  have hk := pnKeys n
  refine ⟨(Dev.get_set_same ..).trans (Nat.zero_mod _), (Dev.get_set_ne _ _ _ _ (by omega)).trans ((Dev.get_set_same ..).trans (Nat.zero_mod _)), fun g hflush hfill => ?_⟩
  exact (Dev.get_set_ne _ _ _ _ hflush).trans (Dev.get_setPn_ne _ _ _ _ hfill)

end

/-! ### Writes -/

section
variable {w : Writer} {n : Fin 64} {s : State}

/-- A writer of one register of the Punnets may write PN_WR too: the gates look at the block alone (R391, R556). -/
theorem Dev.mayWrite_pnWr {d : Dev} (hw : d.mayWrite w (R.PN_STATUS_WR_REJ n).addr = true) : d.mayWrite w (0x70000 + n * 0x20 + 0x10) = true := by
  have haddr : (R.PN_STATUS_WR_REJ n).addr = 0x7000C + n * 0x20 := rfl
  rw [← hw]
  exact d.mayWrite_congr w (by omega) (by omega) ((decide_eq_false (by omega)).trans (decide_eq_false (by omega)).symm)

section
variable (hw : Grants s w (R.PN_STATUS_WR_REJ n)) {v : W32}
include hw

theorem exec_pnWr : exec (.pnWr w n v) s = .next (s.on fun d => d.pnWrWrite w n v.toNat) :=
  congrArg Host.Outcome.next (if_pos (Dev.mayWrite_pnWr hw))

omit hw in
theorem Dev.pnWriter_wr (d : Dev) (n : Nat) : d.pnWriter n 0 0 = (d.get (R.PN_CFG_SRC_KIND n) == 0) := by simp [Dev.pnWriter]

theorem exec_pnWr_refused (hv : v.toNat < 2 ^ 18) (hkind : s.dev.get (R.PN_CFG_SRC_KIND n) ≠ 0) :
    exec (.pnWr w n v) s = .next (s.on fun d => d.pnCause n (R.PN_STATUS_WR_REJ n) 5) := by
  refine (exec_on_eq (exec_pnWr hw) ?_).trans (congrArg Host.Outcome.next (s.on_here _).symm)
  have hrsv : (v.toNat / 2 ^ 18 != 0) = false := by rw [Nat.div_eq_of_lt hv]; rfl
  simp only [Dev.pnWrWrite, Dev.pnWriter_wr, hrsv, Dev.rsvIf_false, beq_false_of_ne hkind, Bool.not_false, if_true]

theorem exec_pnWr_item (hv : v.toNat < 2 ^ 16) (hkind : s.dev.get (R.PN_CFG_SRC_KIND n) = 0) :
    exec (.pnWr w n v) s = .next (s.on fun _ => s.dev.pnItem n v.toNat) := by
  refine exec_on_eq (exec_pnWr hw) ?_
  have hrsv : (v.toNat / 2 ^ 18 != 0) = false := by rw [Nat.div_eq_of_lt (hv.trans (by decide))]; rfl
  have h16 : v.toNat.testBit 16 = false := Nat.testBit_lt_two_pow hv
  have h17 : v.toNat.testBit 17 = false := Nat.testBit_lt_two_pow (hv.trans (by decide))
  simp only [Dev.pnWrWrite, Dev.pnWriter_wr, hrsv, Dev.rsvIf_false, hkind, beq_self_eq_true, Bool.not_true, Bool.false_eq_true, if_false, h16, h17,
    Nat.mod_eq_of_lt (show v.toNat < 65536 from hv)]

theorem exec_pnWr_boundary (hv : v.toNat / 2 ^ 16 = 3) (hkind : s.dev.get (R.PN_CFG_SRC_KIND n) = 0) :
    exec (.pnWr w n v) s = .next (s.on fun _ => s.dev.pnBoundary n) := by
  refine exec_on_eq (exec_pnWr hw) ?_
  have hrsv : (v.toNat / 2 ^ 18 != 0) = false := by rw [show v.toNat / 2 ^ 18 = 0 by omega]; rfl
  have h16 : v.toNat.testBit 16 = true := by rw [Nat.testBit_eq_decide_div_mod_eq, hv]; rfl
  have h17 : v.toNat.testBit 17 = true := by rw [Nat.testBit_eq_decide_div_mod_eq, show v.toNat / 2 ^ 17 = 1 by omega]; rfl
  simp only [Dev.pnWrWrite, Dev.pnWriter_wr, hrsv, Dev.rsvIf_false, hkind, beq_self_eq_true, Bool.not_true, Bool.false_eq_true, if_false, h16, h17,
    if_true]

theorem exec_pnWr_refused_effect (hv : v.toNat < 2 ^ 18) (hkind : s.dev.get (R.PN_CFG_SRC_KIND n) ≠ 0) :
    ∃ t, exec (.pnWr w n v) s = .next t ∧ t.dev.get (R.PN_STATUS_WR_REJ n) = 1 ∧ OnlyRegsEv [R.PN_STATUS_WR_REJ n] s t := by
  have hk := pnKeys n
  refine ⟨_, exec_pnWr_refused hw hv hkind, ?_, .cause _ _ _ _ (by omega) (by simp)⟩
  exact (Dev.get_pnCause_same s.dev n.isLt (R.PN_STATUS_WR_REJ n) 5 (by omega)).trans rfl

section
variable (hv : v.toNat < 2 ^ 16) (hkind : s.dev.get (R.PN_CFG_SRC_KIND n) = 0)
include hv hkind

theorem exec_pnWr_packed (hroom : (s.dev.pn n).q.length ≤ 125) (hw16 : s.dev.on (R.PN_CFG_W16 n) = false) (hfill : (s.dev.pn n).fill < 4) :
    ∃ t, exec (.pnWr w n v) s = .next t ∧ (t.dev.pn n).q = (s.dev.pn n).q ∧ (t.dev.pn n).fill = (s.dev.pn n).fill + 1 ∧
      (t.dev.pn n).asm = (s.dev.pn n).asm + v.toNat % 256 * 256 ^ (s.dev.pn n).fill ∧ KeepsRegs [R.PN_STATUS_FILL n] s t := by
  have htake : ((s.dev.setPn n (s.dev.pn n).taking).pn n) = (s.dev.pn n).taking := Dev.pn_setPn_same ..
  have hbyte := Dev.pnByte_packed (n := n) (d := s.dev.setPn n (s.dev.pn n).taking) (by rw [htake]; exact hfill.ne) v.toNat
  have hexec := exec_pnWr_item hw hv hkind
  rw [Dev.pnItem_byte hroom hw16, hbyte, htake] at hexec
  refine ⟨_, hexec, ?_, ?_, ?_, keepsRegs_on fun g hg => ?_⟩
  · rw [State.on_dev, Dev.pn_setPn_same]; rfl
  · rw [State.on_dev, Dev.pn_setPn_same]; rfl
  · rw [State.on_dev, Dev.pn_setPn_same, Punnet.packed, Nat.pow_mul]; rfl
  · rw [Dev.get_setPn_ne _ _ _ _ (hg _ (by simp)), Dev.get_setPn_ne _ _ _ _ (hg _ (by simp))]

theorem exec_pnWr_fifth (hroom : (s.dev.pn n).q.length ≤ 125) (hw16 : s.dev.on (R.PN_CFG_W16 n) = false) (hfill : (s.dev.pn n).fill = 4) :
    ∃ t, exec (.pnWr w n v) s = .next t ∧ (t.dev.pn n).fill = 0 ∧ (t.dev.pn n).asm = 0 ∧
      (t.dev.pn n).q = (s.dev.pn n).q ++ [{ data := (s.dev.pn n).asm + v.toNat % 256 * 256 ^ 4, valid := 5 }] ∧
      t.dev.get (R.PN_STATUS_FILL n) = (s.dev.pn n).q.length + 1 ∧ t.mem = s.mem := by
  have htake : ((s.dev.setPn n (s.dev.pn n).taking).pn n) = (s.dev.pn n).taking := Dev.pn_setPn_same ..
  obtain ⟨hpn, hget⟩ := Dev.pnByte_fifth n.isLt (d := s.dev.setPn n (s.dev.pn n).taking) (by rw [htake]; exact hfill) v.toNat
  rw [htake] at hpn hget
  have hexec := exec_pnWr_item hw hv hkind
  rw [Dev.pnItem_byte hroom hw16] at hexec
  refine ⟨_, hexec, ?_, ?_, ?_, ?_, State.on_mem ..⟩
  · rw [State.on_dev, hpn]; rfl
  · rw [State.on_dev, hpn]; rfl
  · rw [State.on_dev, hpn]; rfl
  · rw [State.on_dev, hget]
    exact Nat.mod_eq_of_lt (by simp only [Punnet.taking]; omega)

end

end

section
variable (hw : Grants s w (R.PN_CTRL_FLUSH n))
include hw

theorem exec_pnFlush_now (hfill : (s.dev.pn n).fill = 0) (hitems : (s.dev.pn n).items = false) :
    ∃ t, exec (.pnFlush w n) s = .next t ∧ (t.dev.pn n).q = [] ∧ (t.dev.pn n).run = false ∧
      t.dev.get (R.PN_CTRL_FLUSH n) = 0 ∧ t.dev.get (R.PN_STATUS_FILL n) = 0 ∧ KeepsRegs [R.PN_CTRL_FLUSH n, R.PN_STATUS_FILL n] s t := by
  have hexec : exec (.pnFlush w n) s = .next (s.on fun _ => s.dev.pnEmpty n) :=
    exec_on_eq (f := fun d => d.pnFlush n) (State.gate_next hw (by simp only [R.PN_CTRL_FLUSH]; omega)) (if_pos ⟨hfill, hitems⟩)
  obtain ⟨hflush, hlevel, hne⟩ := s.dev.get_pnEmpty (n := n)
  refine ⟨_, hexec, ?_, ?_, hflush, hlevel, keepsRegs_on fun g hg => hne g (hg _ (by simp)) (hg _ (by simp))⟩ <;>
    rw [State.on_dev, Dev.pn_pnEmpty]

theorem exec_pnFlush_wait (h : (s.dev.pn n).fill ≠ 0 ∨ (s.dev.pn n).items = true) :
    ∃ t, exec (.pnFlush w n) s = .next t ∧ t.dev.get (R.PN_CTRL_FLUSH n) = 1 ∧ OnlyRegs [R.PN_CTRL_FLUSH n] s t := by
  have hnot : ¬((s.dev.pn n).fill = 0 ∧ (s.dev.pn n).items = false) := by
    rintro ⟨hfill, hitems⟩
    simp [hfill, hitems] at h
  have hexec : exec (.pnFlush w n) s = .next (s.on fun _ => s.dev.set (R.PN_CTRL_FLUSH n) 1) :=
    exec_on_eq (f := fun d => d.pnFlush n) (State.gate_next hw (by simp only [R.PN_CTRL_FLUSH]; omega)) (if_neg hnot)
  refine ⟨_, hexec, ?_, .set _ _ _ (by simp)⟩
  rw [State.on_dev, Dev.get_set_same]
  rfl

end

theorem Dev.rsvIf_io (d : Dev) (c : Bool) (w : Writer) (off : Nat) : (d.rsvIf c w off).io = d.io := by
  unfold Dev.rsvIf Dev.rsvWrite Dev.rsvWriteMap
  split
  · refine (EventFrame.cause _ R.SYS_DIAG_REG_RSV_WRITE true 253 (by decide)).io.trans ?_
    rw [Dev.set_io]
    split <;> rfl
  · rfl

theorem exec_pnCfgWrite_effect (hw : Grants s w (R.PN_CFG_SRC_KIND n)) (v : W32) :
    ∃ t, exec (.pnCfgWrite w n v) s = .next t ∧ (t.dev.pn n).q = [] ∧ (t.dev.pn n).fill = 0 ∧ (t.dev.pn n).run = false ∧ t.mem = s.mem := by
  have hexec : exec (.pnCfgWrite w n v) s = .next (s.on fun d => d.pnCfgWrite w n v.toNat) := State.gate_next hw rfl
  refine ⟨_, hexec, ?_, ?_, ?_, State.on_mem ..⟩ <;>
    rw [State.on_dev, Dev.pnCfgWrite, Dev.pn_congr (Dev.rsvIf_io ..), Dev.pn_pnEmpty]

end

/-! ### Reads -/

/-- The place of the low word of PN_RD (R529). -/
def pnRdAt (n : Fin 64) : Nat := 0x70000 + n.val * 0x20 + 0x18

theorem pnRd_wide (n : Fin 64) : sizeOk (pnRdAt n) 8 = true ∧ tripleLo (pnRdAt n) = false ∧ wideLo (pnRdAt n) = true := by
  have hblock : pnRdAt n / 0x10000 = 7 := by unfold pnRdAt; omega
  refine ⟨?_, ?_, ?_⟩
  · have haligned : pnRdAt n % 8 = 0 := by unfold pnRdAt; omega
    simp [sizeOk, haligned]
  · simp only [tripleLo, hblock]
  · simp only [wideLo, Bool.or_eq_true, Bool.and_eq_true, decide_eq_true_eq, beq_iff_eq]
    unfold pnRdAt
    exact .inr ⟨by omega, by omega⟩

section
variable (s : State) (w : Writer) (n : Fin 64)

theorem liveWord_pnRd_lo : liveWord s w (pnRdAt n) = bits (s.dev.pnRead w n).1 0 32 := by
  have hblock : pnRdAt n / 0x10000 = 7 := by unfold pnRdAt; omega
  have hrest : pnRdAt n % 0x10000 = n * 0x20 + 0x18 := by unfold pnRdAt; omega
  have hindex : (n * 0x20 + 0x18) / 32 = n.val := by omega
  simp only [liveWord, hblock, hrest, hindex]
  rw [if_pos (by omega), if_pos (by omega)]

theorem liveWord_pnRd_hi : liveWord s w (pnRdAt n + 4) = bits (s.dev.pnRead w n).1 32 32 := by
  have hblock : (pnRdAt n + 4) / 0x10000 = 7 := by unfold pnRdAt; omega
  have hrest : (pnRdAt n + 4) % 0x10000 = n * 0x20 + 0x1C := by unfold pnRdAt; omega
  have hindex : (n * 0x20 + 0x1C) / 32 = n.val := by omega
  simp only [liveWord, hblock, hrest, hindex]
  rw [if_pos (by omega), if_neg (by omega)]

theorem readEffect_pnRd (d : Dev) : d.readEffect w (pnRdAt n) = (d.pnRead w n).2 := by
  have hblock : pnRdAt n / 0x10000 = 7 := by unfold pnRdAt; omega
  have hrest : pnRdAt n % 0x10000 = n * 0x20 + 0x18 := by unfold pnRdAt; omega
  have hindex : (n * 0x20 + 0x18) / 32 = n.val := by omega
  simp only [Dev.readEffect, hblock, hrest, hindex]
  rw [if_pos (by omega)]

theorem latchShadows_none (k : Nat) : latchShadows s w k [] = s := rfl

/-- A 64-bit read of PN_RD pops once, and returns both words of what it popped (R521). -/
theorem exec_pnRd_wide (hr : s.dev.mayRead w = true) :
    exec (.pnRd w n 8) s = .next ((s.on fun _ => (s.dev.pnRead w n).2.dropShadow (readerCode w) (pnRdAt n + 4)).returned
      [bits (s.dev.pnRead w n).1 0 32, bits (s.dev.pnRead w n).1 32 32]) := by
  obtain ⟨hsize, htriple, hwide⟩ := pnRd_wide n
  have hread : s.regRead w (readerCode w) (pnRdAt n) 8 = ([bits (s.dev.pnRead w n).1 0 32, bits (s.dev.pnRead w n).1 32 32],
      s.on fun _ => (s.dev.pnRead w n).2.dropShadow (readerCode w) (pnRdAt n + 4)) := by
    simp only [State.regRead, hsize, htriple, hwide, Bool.not_true, Bool.false_eq_true, if_false, Bool.or_true, if_true, liveWord_pnRd_lo,
      liveWord_pnRd_hi, readEffect_pnRd, latchShadows_none]
    rw [if_neg (by decide), State.on_here]
  have hhost : s.hostRead w (pnRdAt n) 8 = (s.on fun _ => (s.dev.pnRead w n).2.dropShadow (readerCode w) (pnRdAt n + 4)).returned
      [bits (s.dev.pnRead w n).1 0 32, bits (s.dev.pnRead w n).1 32 32] := by rw [State.hostRead, if_pos hr, hread]
  exact congrArg Host.Outcome.next hhost

/-- Both words of a value of 64 bits, as they are returned. -/
theorem ofNat_bits_words (v : Nat) : [bits v 0 32, bits v 32 32].map (BitVec.ofNat 32) = [BitVec.ofNat 32 v, BitVec.ofNat 32 (v / 2 ^ 32)] := by
  simp only [List.map_cons, List.map_nil, bits_eq, Nat.pow_zero, Nat.div_one]
  congr 1
  · exact BitVec.eq_of_toNat_eq (by simp)
  · congr 1
    exact BitVec.eq_of_toNat_eq (by simp)

variable {s w n}

theorem Dev.pnRead_head {d : Dev} {e : PnEntry} {q : List PnEntry} (hagent : agentOf w = d.get (R.PN_CFG_RD_AGENT n)) (hresync : (d.pn n).resync = [])
    (hq : (d.pn n).q = e :: q) : d.pnRead w n = (pnValue e false, d.setPn n { d.pn n with q := q, lastRead := some e }) := by
  simp only [Dev.pnRead, hagent, hresync, hq, ne_eq, not_true, if_false, if_true]

theorem Dev.pnRead_empty {d : Dev} (hagent : agentOf w = d.get (R.PN_CFG_RD_AGENT n)) (hq : (d.pn n).q = []) :
    d.pnRead w n = (pnValue ((d.pn n).lastRead.getD {}) true, d.pnCause n (R.PN_STATUS_UNDERRUN n) 2) := by
  simp only [Dev.pnRead, hagent, hq, ne_eq, not_true, if_false, ite_self]

theorem Dev.pnRead_refused {d : Dev} (hagent : agentOf w ≠ d.get (R.PN_CFG_RD_AGENT n)) :
    d.pnRead w n = (0, d.pnCause n (R.PN_STATUS_RD_REJ n) 6) := if_pos hagent

variable (hr : s.dev.mayRead w = true)
include hr

theorem exec_pnRd_head {e : PnEntry} {q : List PnEntry} (hagent : agentOf w = s.dev.get (R.PN_CFG_RD_AGENT n)) (hresync : (s.dev.pn n).resync = [])
    (hq : (s.dev.pn n).q = e :: q) :
    ∃ t, exec (.pnRd w n 8) s = .next t ∧ (t.dev.pn n).q = q ∧ t.dev.get (R.PN_STATUS_FILL n) = q.length % 2 ^ 8 ∧ t.mem = s.mem ∧
      t.dev.rdata = [BitVec.ofNat 32 (pnValue e false), BitVec.ofNat 32 (pnValue e false / 2 ^ 32)] := by
  have hexec := exec_pnRd_wide s w n hr
  rw [Dev.pnRead_head hagent hresync hq] at hexec
  refine ⟨_, hexec, ?_, ?_, rfl, ofNat_bits_words _⟩
  · exact congrArg Punnet.q (Dev.pn_setPn_same s.dev n _)
  · exact Dev.get_setPn_fill s.dev n _

theorem exec_pnRd_empty (hagent : agentOf w = s.dev.get (R.PN_CFG_RD_AGENT n)) (hq : (s.dev.pn n).q = []) :
    ∃ t, exec (.pnRd w n 8) s = .next t ∧ t.dev.get (R.PN_STATUS_UNDERRUN n) = 1 ∧ t.dev.pn n = s.dev.pn n ∧
      t.dev.rdata = [BitVec.ofNat 32 (pnValue ((s.dev.pn n).lastRead.getD {}) true),
        BitVec.ofNat 32 (pnValue ((s.dev.pn n).lastRead.getD {}) true / 2 ^ 32)] := by
  have hk := pnKeys n
  have hexec := exec_pnRd_wide s w n hr
  rw [Dev.pnRead_empty hagent hq] at hexec
  refine ⟨_, hexec, ?_, ?_, ofNat_bits_words _⟩
  · exact (Dev.get_pnCause_same s.dev n.isLt (R.PN_STATUS_UNDERRUN n) 2 (by omega)).trans rfl
  · exact Dev.pn_pnCause s.dev n.isLt _ _ n

theorem exec_pnRd_refused (hagent : agentOf w ≠ s.dev.get (R.PN_CFG_RD_AGENT n)) :
    ∃ t, exec (.pnRd w n 8) s = .next t ∧ t.dev.get (R.PN_STATUS_RD_REJ n) = 1 ∧ t.dev.pn n = s.dev.pn n ∧ t.dev.rdata = [0, 0] := by
  have hk := pnKeys n
  have hexec := exec_pnRd_wide s w n hr
  rw [Dev.pnRead_refused hagent] at hexec
  refine ⟨_, hexec, ?_, ?_, ofNat_bits_words 0⟩
  · exact (Dev.get_pnCause_same s.dev n.isLt (R.PN_STATUS_RD_REJ n) 6 (by omega)).trans rfl
  · exact Dev.pn_pnCause s.dev n.isLt _ _ n

end

/-! ### Resynchronisation (R524) -/

/-- The read side's half of a resync: the read pointer moves past the newest END. -/
theorem exec_resyncDone_read {n : Fin 64} {s : State} (h : (s.dev.pn n).resync = [0]) :
    ∃ t, exec (.resyncDone n) s = .next t ∧ t.dev.get (R.PN_STATUS_RESYNCED n) = 1 ∧ (t.dev.pn n).resync = [] ∧
      (t.dev.pn n).q = afterLastEnd (s.dev.pn n).q ∧ t.mem = s.mem := by
  have hk := pnKeys n
  have hexec : exec (.resyncDone n) s = .next (s.on fun _ => s.dev.pnResyncDone n) := exec_on_eq (f := fun d => d.pnResyncDone n) rfl rfl
  have hdone : ∃ sh, s.dev.pnResyncDone n = ({ s.dev.setPn n { s.dev.pn n with q := afterLastEnd (s.dev.pn n).q, resync := [] } with
      shadows := sh } : Dev).pnCause n (R.PN_STATUS_RESYNCED n) 7 := by
    refine ⟨s.dev.shadows.filter fun e => e.1 % 2 ^ 20 != 0x7001C + n * 0x20, ?_⟩
    unfold Dev.pnResyncDone
    simp only [h]
    rfl
  obtain ⟨sh, hsh⟩ := hdone
  rw [hsh] at hexec
  have hpn := Dev.pn_pnCause ({ s.dev.setPn n { s.dev.pn n with q := afterLastEnd (s.dev.pn n).q, resync := [] } with shadows := sh }) n.isLt
    (R.PN_STATUS_RESYNCED n) 7 n
  have hset := Dev.pn_setPn_same s.dev n { s.dev.pn n with q := afterLastEnd (s.dev.pn n).q, resync := [] }
  refine ⟨_, hexec, ?_, congrArg Punnet.resync (hpn.trans hset), congrArg Punnet.q (hpn.trans hset), State.on_mem ..⟩
  exact (Dev.get_pnCause_same _ n.isLt (R.PN_STATUS_RESYNCED n) 7 (by omega)).trans rfl

/-- The write side's half of a resync: the bytes begun are given up, with a marker where there were some. -/
theorem exec_resyncDone_write {n : Fin 64} {s : State} (h : (s.dev.pn n).resync = [1]) (hroom : (s.dev.pn n).q.length < 128) :
    ∃ t, exec (.resyncDone n) s = .next t ∧ t.dev.get (R.PN_STATUS_RESYNCED n) = 1 ∧ (t.dev.pn n).fill = 0 ∧ (t.dev.pn n).asm = 0 ∧
      (t.dev.pn n).q = (if (s.dev.pn n).fill = 0 then (s.dev.pn n).q else (s.dev.pn n).q ++ [{ gap := true }]) := by
  have hk := pnKeys n
  let d1 := s.dev.setPn n { s.dev.pn n with resync := [] }
  let d2 := d1.setPn n (d1.pn n).unpacked
  have hd1 : d1.pn n = { s.dev.pn n with resync := [] } := Dev.pn_setPn_same ..
  have hd2 : d2.pn n = (d1.pn n).unpacked := Dev.pn_setPn_same ..
  have hdone : s.dev.pnResyncDone n =
      (if (d1.pn n).fill ≠ 0 ∧ (d1.pn n).q.length < 128 then d2.pnPush n { gap := true } else d2).pnCause n (R.PN_STATUS_RESYNCED n) 7 := by
    unfold Dev.pnResyncDone
    simp only [h]
    rfl
  have hexec : exec (.resyncDone n) s = .next (s.on fun _ => s.dev.pnResyncDone n) := exec_on_eq (f := fun d => d.pnResyncDone n) rfl rfl
  rw [hdone] at hexec
  have hflag : ((if (d1.pn n).fill ≠ 0 ∧ (d1.pn n).q.length < 128 then d2.pnPush n { gap := true } else d2).pnCause n (R.PN_STATUS_RESYNCED n) 7).get
      (R.PN_STATUS_RESYNCED n) = 1 := (Dev.get_pnCause_same _ n.isLt (R.PN_STATUS_RESYNCED n) 7 (by omega)).trans rfl
  by_cases hfill : (s.dev.pn n).fill = 0
  · have hcond : ¬((d1.pn n).fill ≠ 0 ∧ (d1.pn n).q.length < 128) := by simp [hd1, hfill]
    rw [if_neg hcond] at hexec hflag
    refine ⟨_, hexec, hflag, ?_, ?_, ?_⟩ <;> rw [State.on_dev, Dev.pn_pnCause _ n.isLt, hd2]
    · rfl
    · rfl
    · rw [hd1, if_pos hfill]
      rfl
  · have hcond : (d1.pn n).fill ≠ 0 ∧ (d1.pn n).q.length < 128 := by rw [hd1]; exact ⟨hfill, hroom⟩
    rw [if_pos hcond] at hexec hflag
    refine ⟨_, hexec, hflag, ?_, ?_, ?_⟩ <;> rw [State.on_dev, Dev.pn_pnCause _ n.isLt, Dev.pn_pnPush n.isLt, hd2]
    · rfl
    · rfl
    · rw [hd1, if_neg hfill]
      rfl

theorem exec_resyncDone_none {n : Fin 64} {s : State} (h : (s.dev.pn n).resync = []) : exec (.resyncDone n) s = .next s :=
  exec_on_eq (f := fun d => d.pnResyncDone n) rfl (if_pos h)

/-- After the newest END no entry has END (R524). -/
theorem afterLastEnd_noEnd (q : List PnEntry) : (∀ e ∈ afterLastEnd q, e.last = false) ∧ ∃ r, q = r ++ afterLastEnd q := by
  unfold afterLastEnd
  split
  · refine ⟨fun e he => by simpa using List.mem_takeWhile_imp (List.mem_reverse.mp he), (q.reverse.dropWhile fun e => !e.last).reverse, ?_⟩
    rw [← List.reverse_append, List.takeWhile_append_dropWhile, List.reverse_reverse]
  · exact ⟨by simp, q, by simp⟩

/-- Settles O45: each operation by the rule of the entries, bytes and items it moves. -/
theorem punnets : Obligations.Punnets := by
  unfold Obligations.Punnets
  refine ⟨fun w n v s hw hv hkind => exec_pnWr_refused_effect hw hv hkind,
    fun w n v s hw hv hkind hroom hw16 => ⟨exec_pnWr_packed hw hv hkind hroom hw16, exec_pnWr_fifth hw hv hkind hroom hw16⟩,
    fun w n v s hw hv hkind hfull hrun hfill => ⟨_, exec_pnWr_item hw hv hkind, Dev.pnItem_gap n.isLt hfull hrun hfill v.toNat⟩,
    fun w n v s hw hv hkind hflush hrun hfill => ⟨_, exec_pnWr_boundary hw hv hkind, Dev.pnBoundary_bytes n.isLt hflush hrun hfill⟩,
    fun d n v hrun hfull => Dev.pnItem_run hrun hfull v, fun w n e q s hr hagent hresync hq => exec_pnRd_head hr hagent hresync hq,
    fun w n s hr hagent hq => exec_pnRd_empty hr hagent hq, fun w n s hr hagent => exec_pnRd_refused hr hagent,
    fun w n s hw => ⟨exec_pnFlush_now hw, exec_pnFlush_wait hw⟩, fun d n hflush => ?_, fun w n v s hw => exec_pnCfgWrite_effect hw v,
    fun n s h => exec_resyncDone_read h, fun n s h hroom => exec_resyncDone_write h hroom, fun n s h => exec_resyncDone_none h, afterLastEnd_noEnd⟩
  have hempty : d.pnBoundary n = d.pnEmpty n := if_pos hflush
  rw [hempty, Dev.pn_pnEmpty]
  exact ⟨rfl, rfl, d.get_pnEmpty.1⟩

end Sys2Proof.Machine
end

section
/-! PROOFS. Mailboxes (R568 to R578, R586). -/

namespace Sys2Proof.Machine
open Sys2Proof Sys2Proof.Safety

/-- Where the registers of a direction of a mailbox lie (R586). -/
theorem mbKeys (n k : Nat) : (R.MB_POST_LEN n k).key = 0x404000 + n * 0x20000 + k * 0x800 ∧ (R.MB_POST_MORE n k).key = 0x404010 + n * 0x20000 + k * 0x800 ∧
    (R.MB_POST_GO n k).key = 0x40401F + n * 0x20000 + k * 0x800 ∧ (R.MB_STATUS_POSTED n k).key = 0x404080 + n * 0x20000 + k * 0x800 ∧
    (R.MB_STATUS_ACKED n k).key = 0x404081 + n * 0x20000 + k * 0x800 ∧ (R.MB_STATUS_TIMEOUT n k).key = 0x404082 + n * 0x20000 + k * 0x800 ∧
    (R.MB_STATUS_CROSSED n k).key = 0x404083 + n * 0x20000 + k * 0x800 ∧ (R.MB_STATUS_WAKING n k).key = 0x404084 + n * 0x20000 + k * 0x800 ∧
    (R.MB_STATUS_WR_REJ n k).key = 0x404085 + n * 0x20000 + k * 0x800 ∧ (R.MB_STATUS_LATE_ACK n k).key = 0x404086 + n * 0x20000 + k * 0x800 ∧
    (R.MB_STATUS_ORPHAN_ACK n k).key = 0x404090 + n * 0x20000 + k * 0x800 ∧ (R.MB_ACK_CODE n k).key = 0x404100 + n * 0x20000 + k * 0x800 ∧
    (R.MB_TIMEOUT n k).key = 0x404180 + n * 0x20000 + k * 0x800 ∧ (R.MB_CFG_BRIDLE n).key = 0x40601D + n * 0x20000 ∧
    (R.MB_CFG_ENGINE n).key = 0x406008 + n * 0x20000 := by
  simp only [Fld.key, R.MB_POST_LEN, R.MB_POST_MORE, R.MB_POST_GO, R.MB_STATUS_POSTED, R.MB_STATUS_ACKED, R.MB_STATUS_TIMEOUT, R.MB_STATUS_CROSSED,
    R.MB_STATUS_WAKING, R.MB_STATUS_WR_REJ, R.MB_STATUS_LATE_ACK, R.MB_STATUS_ORPHAN_ACK, R.MB_ACK_CODE, R.MB_TIMEOUT, R.MB_CFG_BRIDLE, R.MB_CFG_ENGINE]
  omega

/-! ### Directions, notifications, the doorbell -/

@[simp] theorem Dev.mb_set (d : Dev) (f : Fld) (v n k : Nat) : (d.set f v).mb n k = d.mb n k := rfl

theorem EventFrame.mb {d d' : Dev} (h : EventFrame d d') (n k : Nat) : d'.mb n k = d.mb n k := by rw [Dev.mb, h.rest]; rfl

section
variable (d : Dev) {n : Nat} (hn : n < 16)
include hn

theorem EventFrame.mbHost (en : Fld) : EventFrame d (d.mbHost n en) := by
  unfold Dev.mbHost
  split
  · exact .raise d _ (by omega)
  · exact .refl d

omit hn in
theorem EventFrame.mbDevice : EventFrame d (d.mbDevice n) := by
  unfold Dev.mbDevice
  split
  · exact .refl d
  · exact .latchLine ..

theorem EventFrame.mbNotify (k : Nat) (en : Fld) : EventFrame d (d.mbNotify n k en) := by
  unfold Dev.mbNotify
  split
  · exact .mbHost d hn en
  · exact .mbDevice d

end

/-- A doorbell that wakes nothing is an event (R576). -/
theorem State.mbBell_event {s : State} {n k : Nat} (hn : n < 16)
    (hawake : k ≠ 1 → s.dev.on (R.MB_CFG_BRIDLE n) = true ∨ s.dev.domain (3 + s.dev.get (R.MB_CFG_ENGINE n) / 12) ≠ 3) :
    ∃ d', s.mbBell n k = s.on (fun _ => d') ∧ EventFrame s.dev d' := by
  by_cases hk : k = 1
  · exact ⟨_, if_pos hk, .mbHost s.dev hn _⟩
  · refine ⟨_, (if_neg hk).trans (if_neg ?_), .mbDevice s.dev⟩
    rintro ⟨hbridle, hdoze⟩
    rcases hawake hk with h | h
    · simp [hbridle] at h
    · exact h hdoze

/-! ### Words of a mailbox -/

/-- What a write to word `q` of direction `k` does, at offset `r` of the mailbox (R569, R571, R586). -/
def State.mbWordAct (s : State) (w : Writer) (n k q r v : Nat) : State :=
  match q with
  | 0 => s.mbPostWrite w n k v
  | 4 => s.on (fun x => (x.wordWrite (0x20000 + n * 0x1000 + r) v).1.rsvIf (x.wordWrite (0x20000 + n * 0x1000 + r) v).2 w (0x20000 + n * 0x1000 + r))
  | 8 => s.on (fun x => x.mbAckWrite w n k v)
  | 0xC => s.on (fun x => if x.on (R.MB_STATUS_POSTED n k) then x.mbRej n k else x.set (R.MB_TIMEOUT n k) v)
  | _ => s.on (fun x => x.mbWithdrawWrite w n k v)

section
variable {w : Writer} {n : Fin 16} {d : Fin 2} {s : State}

theorem exec_mbPost (hw : Grants s w (R.MB_POST_GO n d)) (v : W32) :
    exec (.mbPost w n d v) s = .next (s.mbWrite w n (0x200 + d * 0x40) v.toNat) := State.gate_next hw (by simp only [R.MB_POST_GO])

theorem exec_mbAck (hw : Grants s w (R.MB_ACK_CODE n d)) (v : W32) :
    exec (.mbAck w n d v) s = .next (s.mbWrite w n (0x208 + d * 0x40) v.toNat) := State.gate_next hw (by simp only [R.MB_ACK_CODE]; omega)

theorem exec_mbWithdraw (hw : Grants s w (R.MB_WITHDRAW n d)) (v : W32) :
    exec (.mbWithdraw w n d v) s = .next (s.mbWrite w n (0x210 + d * 0x40) v.toNat) := State.gate_next hw (by simp only [R.MB_WITHDRAW]; omega)

/-- The sender may write MB_POST and MB_WITHDRAW, the receiver MB_ACK, and the other side none of them (R573). -/
theorem mbMay_side : ∀ (d : Fin 2) (host : Bool), mbMay host (0x200 + d * 0x40) = (host == decide (d = 0)) ∧
    mbMay host (0x208 + d * 0x40) = (host == decide (d = 1)) ∧ mbMay host (0x210 + d * 0x40) = (host == decide (d = 0)) := by decide

/-- A write to one of the words of a direction (R586): dropped with WR_REJ when the side may not write it. -/
theorem State.mbWrite_word {q r : Nat} (hr : r = 0x200 + q + d * 0x40) (hq : q ≤ 0x10) (v : Nat) :
    s.mbWrite w n r v = if !((s.dev.mbSide w n).any fun h => mbMay h r) then s.on (fun x => x.mbRej n d) else s.mbWordAct w n d q r v := by
  have hindex : (r - 0x200) / 0x40 % 2 = d := by omega
  have hrest : r % 0x40 = q := by omega
  have hlisted : (decide (r < 0x200) || (decide (r < 0x280) && decide (q ≤ 0x14)) || r == 0x300 || r == 0x304) = true := by
    rw [decide_eq_true (p := r < 0x280) (by omega), decide_eq_true (p := q ≤ 0x14) (by omega)]
    simp
  simp only [State.mbWrite, hrest, hlisted, if_neg (show ¬r < 0x200 by omega), hindex, if_neg (show ¬0x300 ≤ r by omega), Bool.not_true,
    Bool.false_eq_true, if_false, if_neg (show r ≠ 0x304 by omega)]
  rfl

theorem mbSide_any {host : Bool} {r : Nat} (hmay : ∀ h, mbMay h r = (h == host)) :
    (s.dev.mbSide w n).any (fun h => mbMay h r) = decide (s.dev.mbSide w n = some host) := by
  cases s.dev.mbSide w n with
  | none => rfl
  | some h => rw [Option.any_some, hmay, Bool.beq_eq_decide_eq]; simp

section
variable (v : Nat)

theorem State.mbWrite_refused (hside : s.dev.mbSide w n ≠ some (decide (d = 0))) : s.mbWrite w n (0x200 + d * 0x40) v = s.on (fun x => x.mbRej n d) := by
  rw [State.mbWrite_word (q := 0) rfl (by omega), mbSide_any fun h => (mbMay_side d h).1, decide_eq_false hside]
  rfl

theorem State.mbWrite_post (hside : s.dev.mbSide w n = some (decide (d = 0))) : s.mbWrite w n (0x200 + d * 0x40) v = s.mbPostWrite w n d v := by
  rw [State.mbWrite_word (q := 0) rfl (by omega), mbSide_any fun h => (mbMay_side d h).1, decide_eq_true hside]
  rfl

theorem State.mbWrite_ack (hside : s.dev.mbSide w n = some (decide (d = 1))) : s.mbWrite w n (0x208 + d * 0x40) v = s.on (fun x => x.mbAckWrite w n d v) := by
  rw [State.mbWrite_word (d := d) (q := 8) (by omega) (by omega), mbSide_any fun h => (mbMay_side d h).2.1, decide_eq_true hside]
  rfl

theorem State.mbWrite_withdraw (hside : s.dev.mbSide w n = some (decide (d = 0))) :
    s.mbWrite w n (0x210 + d * 0x40) v = s.on (fun x => x.mbWithdrawWrite w n d v) := by
  rw [State.mbWrite_word (d := d) (q := 0x10) (by omega) (by omega), mbSide_any fun h => (mbMay_side d h).2.2, decide_eq_true hside]
  rfl

end

/-! ### Posting -/

/-- The device with LEN and MORE written (R586). -/
def Dev.mbLengthSet (d : Dev) (n k v : Nat) : Dev := (d.set (R.MB_POST_LEN n k) (v % 512)).set (R.MB_POST_MORE n k) (bits v 16 1)

theorem State.mbPostWrite_posted (h : s.dev.on (R.MB_STATUS_POSTED n d) = true) (v : Nat) : s.mbPostWrite w n d v = s.on (fun x => x.mbRej n d) := if_pos h

/-- A write with a length that is allowed and no reserved bit (R569). -/
theorem State.mbPostWrite_good {v : Nat} (h : s.dev.on (R.MB_STATUS_POSTED n d) = false) (hlen : v % 2 ^ 16 ≤ 256) (hpos : v % 2 ^ 16 ≠ 0)
    (hrsv : v / 2 ^ 17 % 2 ^ 14 = 0) :
    s.mbPostWrite w n d v = if v.testBit 31 then (s.on fun _ => s.dev.mbLengthSet n d v).mbGo n d else s.on fun _ => s.dev.mbLengthSet n d v := by
  have hbad : (v % 512 == 0 || decide (256 < v % 512)) = false := by
    rw [Bool.or_eq_false_iff, beq_eq_false_iff_ne, decide_eq_false_iff_not]
    omega
  have hmid : (bits v 9 7 != 0) = false := by simp [bits_eq]; omega
  have htop : (bits v 17 14 != 0) = false := by simp [bits_eq]; omega
  simp only [State.mbPostWrite, h, Bool.false_eq_true, if_false, hbad, hmid, htop, Bool.or_false, Dev.rsvIf_false]
  rfl

theorem Dev.get_mbLengthSet (x : Dev) {v : Nat} (hlen : v % 2 ^ 16 ≤ 256) :
    (x.mbLengthSet n d v).get (R.MB_POST_LEN n d) = v % 2 ^ 16 ∧ (x.mbLengthSet n d v).get (R.MB_POST_MORE n d) = v / 2 ^ 16 % 2 ∧
      ∀ g : Fld, g.key ≠ (R.MB_POST_LEN n d).key → g.key ≠ (R.MB_POST_MORE n d).key → (x.mbLengthSet n d v).get g = x.get g := by
  have hk := mbKeys n d
  refine ⟨?_, ?_, fun g h1 h2 => (Dev.get_set_ne _ _ _ _ h2).trans (Dev.get_set_ne _ _ _ _ h1)⟩
  · rw [Dev.mbLengthSet, Dev.get_set_ne _ _ _ _ (by omega), Dev.get_set_same, show (R.MB_POST_LEN n d).width = 9 from rfl]
    omega
  · rw [Dev.mbLengthSet, Dev.get_set_same, bits_eq, show (R.MB_POST_MORE n d).width = 1 from rfl]
    omega

theorem exec_mbPost_length {v : W32} (hw : Grants s w (R.MB_POST_GO n d)) (hside : s.dev.mbSide w n = some (decide (d = 0)))
    (h : s.dev.on (R.MB_STATUS_POSTED n d) = false) (hlen : v.toNat % 2 ^ 16 ≤ 256) (hpos : v.toNat % 2 ^ 16 ≠ 0) (hrsv : v.toNat / 2 ^ 17 = 0) :
    ∃ t, exec (.mbPost w n d v) s = .next t ∧ t.dev.get (R.MB_POST_LEN n d) = v.toNat % 2 ^ 16 ∧
      t.dev.get (R.MB_POST_MORE n d) = v.toNat / 2 ^ 16 ∧ OnlyRegs [R.MB_POST_LEN n d, R.MB_POST_MORE n d] s t := by
  have hgo : v.toNat.testBit 31 = false := Nat.testBit_lt_two_pow (by omega)
  have hexec := exec_mbPost hw v
  rw [State.mbWrite_post _ hside, State.mbPostWrite_good h hlen hpos (by omega), hgo, if_neg Bool.false_ne_true] at hexec
  obtain ⟨hl, hm, -⟩ := Dev.get_mbLengthSet (n := n) (d := d) s.dev hlen
  refine ⟨_, hexec, hl, hm.trans (by omega), ?_⟩
  rw [← s.on_here fun x => x.mbLengthSet n d v.toNat]
  exact (OnlyRegs.set s (R.MB_POST_LEN n d) (v.toNat % 512) (by simp)).on_set (R.MB_POST_MORE n d) (fun _ => bits v.toNat 16 1) (by simp)

theorem exec_mbPost_refused {v : W32} (hw : Grants s w (R.MB_POST_GO n d))
    (h : s.dev.mbSide w n = some (decide (d = 0)) → s.dev.on (R.MB_STATUS_POSTED n d) = true) :
    ∃ t, exec (.mbPost w n d v) s = .next t ∧ t.dev.get (R.MB_STATUS_WR_REJ n d) = 1 ∧ OnlyRegs [R.MB_STATUS_WR_REJ n d] s t := by
  have hrej : s.mbWrite w n (0x200 + d * 0x40) v.toNat = s.on (fun x => x.mbRej n d) := by
    by_cases hside : s.dev.mbSide w n = some (decide (d = 0))
    · rw [State.mbWrite_post _ hside, State.mbPostWrite_posted (h hside)]
    · exact State.mbWrite_refused _ hside
  refine ⟨_, (exec_mbPost hw v).trans (congrArg Host.Outcome.next hrej), ?_, .set _ _ _ (by simp)⟩
  rw [State.on_dev, Dev.mbRej, Dev.get_set_same]
  rfl

/-- The device with a message posted, before its doorbell (R569, R570). -/
def Dev.mbPosted (d : Dev) (n k : Nat) : Dev :=
  ((d.setPosted n k 1).set (R.MB_STATUS_ACKED n k) 0).setMb n k
    { goAt := d.now, timing := d.get (R.MB_TIMEOUT n k) != 0, crossed := d.on (R.MB_STATUS_POSTED n (1 - k)) }

theorem Dev.get_setPosted (x : Dev) (n d v : Nat) : (x.setPosted n d v).get (R.MB_STATUS_POSTED n d) = v % 2 ∧ (x.setPosted n d v).get (R.MB_POST_GO n d) = v % 2 ∧
    ∀ g : Fld, g.key ≠ (R.MB_STATUS_POSTED n d).key → g.key ≠ (R.MB_POST_GO n d).key → (x.setPosted n d v).get g = x.get g := by
  have hk := mbKeys n d
  exact ⟨(Dev.get_set_ne _ _ _ _ (by omega)).trans (Dev.get_set_same ..), Dev.get_set_same .., fun g hposted hgo =>
    (Dev.get_set_ne _ _ _ _ hgo).trans (Dev.get_set_ne _ _ _ _ hposted)⟩

theorem Dev.get_mbPosted_ne (x : Dev) (g : Fld) (hg : 0x6000 ≤ g.key % 0x8000 ∨ 0x600000 ≤ g.key) :
    (x.mbPosted n d).get g = x.get g := by
  have hk := mbKeys n d
  obtain ⟨-, -, hne⟩ := Dev.get_setPosted x n d 1
  exact (Dev.get_set_ne _ _ _ _ (by omega)).trans (hne g (by omega) (by omega))

/-- A message posted in direction `k`: the registers, the direction, and what only events change. -/
structure MbPosted (n k : Nat) (d d' : Dev) : Prop where
  posted : d'.get (R.MB_STATUS_POSTED n k) = 1
  go : d'.get (R.MB_POST_GO n k) = 1
  acked : d'.get (R.MB_STATUS_ACKED n k) = 0
  len : d'.get (R.MB_POST_LEN n k) = d.get (R.MB_POST_LEN n k)
  mb : d'.mb n k = (d.mbPosted n k).mb n k

theorem Dev.mbPosted_effect (x : Dev) : MbPosted n d x (x.mbPosted n d) := by
  have hk := mbKeys n d
  obtain ⟨hposted, hgo, hne⟩ := Dev.get_setPosted x n d 1
  refine ⟨?_, ?_, ?_, ?_, rfl⟩ <;> rw [Dev.mbPosted, Dev.get_setMb]
  · rw [Dev.get_set_ne _ _ _ _ (by omega), hposted]
  · rw [Dev.get_set_ne _ _ _ _ (by omega), hgo]
  · rw [Dev.get_set_same]
    rfl
  · rw [Dev.get_set_ne _ _ _ _ (by omega), hne _ (by omega) (by omega)]

theorem MbPosted.event {x a b : Dev} (h : MbPosted n d x a) (he : EventFrame a b) : MbPosted n d x b := by
  have hk := mbKeys n d
  exact ⟨(he.get _ (by unfold block; omega)).trans h.posted, (he.get _ (by unfold block; omega)).trans h.go, (he.get _ (by unfold block; omega)).trans h.acked,
    (he.get _ (by unfold block; omega)).trans h.len, (he.mb n d).trans h.mb⟩

theorem MbPosted.set {x a : Dev} (h : MbPosted n d x a) (f : Fld) (v : Nat) (hf : f.key % 0x800 = 0x83) : MbPosted n d x (a.set f v) := by
  have hk := mbKeys n d
  exact ⟨(Dev.get_set_ne _ _ _ _ (by omega)).trans h.posted, (Dev.get_set_ne _ _ _ _ (by omega)).trans h.go, (Dev.get_set_ne _ _ _ _ (by omega)).trans h.acked,
    (Dev.get_set_ne _ _ _ _ (by omega)).trans h.len, h.mb⟩

/-- Two messages posted at once have crossed (R578). -/
def Dev.mbCross (d : Dev) (n : Nat) : Dev :=
  (((d.set (R.MB_STATUS_CROSSED n 0) 1).set (R.MB_STATUS_CROSSED n 1) 1).mbHost n (R.MB_EVT_EN_CROSSED n)).mbDevice n

theorem State.mbGo_eq (s : State) (n k : Nat) : s.mbGo n k = if s.dev.on (R.MB_STATUS_POSTED n (1 - k))
    then ((s.on fun _ => s.dev.mbPosted n k).mbBell n k).on (fun x => x.mbCross n) else (s.on fun _ => s.dev.mbPosted n k).mbBell n k := rfl

/-- GO: the message is posted, the doorbell rings, and both directions posted at once have crossed (R569, R578). -/
theorem State.mbGo_effect (hawake : d = 0 → s.dev.on (R.MB_CFG_BRIDLE n) = true ∨ s.dev.domain (3 + s.dev.get (R.MB_CFG_ENGINE n) / 12) ≠ 3) :
    ∃ d', s.mbGo n d = s.on (fun _ => d') ∧ MbPosted n d s.dev d' ∧
      (s.dev.on (R.MB_STATUS_POSTED n (1 - d.val)) = true → d'.get (R.MB_STATUS_CROSSED n 0) = 1 ∧ d'.get (R.MB_STATUS_CROSSED n 1) = 1) := by
  have hk := mbKeys n d
  have hk0 := mbKeys n 0
  have hk1 := mbKeys n 1
  have hdomain (x : Nat) : (R.PWR_DOMAIN_STATE x).key = 0x1C00008 + x * 0x80 := by simp only [Fld.key, R.PWR_DOMAIN_STATE]; omega
  have hposted := Dev.mbPosted_effect (n := n) (d := d) s.dev
  obtain ⟨a, hbell, hevent⟩ := (s.on fun _ => s.dev.mbPosted n d).mbBell_event (k := d) n.isLt fun hd => by
    have hbridle : (s.dev.mbPosted n d).get (R.MB_CFG_BRIDLE n) = s.dev.get (R.MB_CFG_BRIDLE n) := Dev.get_mbPosted_ne _ _ (by omega)
    have hengine : (s.dev.mbPosted n d).get (R.MB_CFG_ENGINE n) = s.dev.get (R.MB_CFG_ENGINE n) := Dev.get_mbPosted_ne _ _ (by omega)
    have hstate (x : Nat) : (s.dev.mbPosted n d).domain x = s.dev.domain x := Dev.get_mbPosted_ne _ _ (by have := hdomain x; omega)
    rw [State.on_dev, Dev.on, hbridle, hengine, hstate]
    exact hawake (by omega)
  rw [State.mbGo_eq, hbell]
  split
  · next hcross =>
    have h1 := (hposted.event hevent).set (R.MB_STATUS_CROSSED n 0) 1 (by omega)
    have h2 := h1.set (R.MB_STATUS_CROSSED n 1) 1 (by omega)
    have hbells := (EventFrame.mbHost ((a.set (R.MB_STATUS_CROSSED n 0) 1).set (R.MB_STATUS_CROSSED n 1) 1) n.isLt (R.MB_EVT_EN_CROSSED n)).trans
      (.mbDevice (n := n.val) _)
    refine ⟨_, rfl, h2.event hbells, fun _ => ⟨?_, ?_⟩⟩
    · refine (hbells.get _ (by unfold block; omega)).trans ?_
      rw [Dev.get_set_ne _ _ _ _ (by omega), Dev.get_set_same]
      rfl
    · refine (hbells.get _ (by unfold block; omega)).trans ?_
      rw [Dev.get_set_same]
      rfl
  · next hcross => exact ⟨a, rfl, hposted.event hevent, fun h => absurd h hcross⟩

theorem exec_mbPost_go {v : W32} (hw : Grants s w (R.MB_POST_GO n d)) (hside : s.dev.mbSide w n = some (decide (d = 0)))
    (h : s.dev.on (R.MB_STATUS_POSTED n d) = false) (hlen : v.toNat % 2 ^ 16 ≤ 256) (hpos : v.toNat % 2 ^ 16 ≠ 0) (hgo : v.toNat / 2 ^ 17 = 2 ^ 14)
    (hawake : d = 0 → s.dev.on (R.MB_CFG_BRIDLE n) = true ∨ s.dev.domain (3 + s.dev.get (R.MB_CFG_ENGINE n) / 12) ≠ 3) :
    ∃ t, exec (.mbPost w n d v) s = .next t ∧ t.dev.get (R.MB_POST_LEN n d) = v.toNat % 2 ^ 16 ∧ t.dev.get (R.MB_STATUS_POSTED n d) = 1 ∧
      t.dev.get (R.MB_STATUS_ACKED n d) = 0 ∧ t.dev.get (R.MB_POST_GO n d) = 1 ∧ t.mem = s.mem ∧ (t.dev.mb n d).goAt = s.dev.now ∧
      (t.dev.mb n d).timing = decide (s.dev.get (R.MB_TIMEOUT n d) ≠ 0) ∧ (t.dev.mb n d).orphan = false ∧
      (s.dev.on (R.MB_STATUS_POSTED n (1 - d.val)) = true → t.dev.get (R.MB_STATUS_CROSSED n 0) = 1 ∧ t.dev.get (R.MB_STATUS_CROSSED n 1) = 1) := by
  have hk := mbKeys n d
  have hother := mbKeys n (1 - d.val)
  have hdomain (x : Nat) : (R.PWR_DOMAIN_STATE x).key = 0x1C00008 + x * 0x80 := by simp only [Fld.key, R.PWR_DOMAIN_STATE]; omega
  obtain ⟨hl, -, hne⟩ := Dev.get_mbLengthSet (n := n) (d := d) s.dev hlen
  have htop : v.toNat.testBit 31 = true := by rw [Nat.testBit_eq_decide_div_mod_eq]; exact decide_eq_true (by omega)
  have hexec := exec_mbPost hw v
  rw [State.mbWrite_post _ hside, State.mbPostWrite_good h hlen hpos (by omega), htop, if_pos rfl] at hexec
  obtain ⟨a, hgo', hposted, hcross⟩ := State.mbGo_effect (n := n) (d := d) (s := s.on fun _ => s.dev.mbLengthSet n d v.toNat) fun hd => by
    have hstate (x : Nat) : (s.dev.mbLengthSet n d v.toNat).domain x = s.dev.domain x := hne _ (by have := hdomain x; omega) (by have := hdomain x; omega)
    rw [State.on_dev, Dev.on, hne (R.MB_CFG_BRIDLE n) (by omega) (by omega), hne (R.MB_CFG_ENGINE n) (by omega) (by omega), hstate]
    exact hawake hd
  rw [hgo'] at hexec
  have htimeout := hne (R.MB_TIMEOUT n d) (by omega) (by omega)
  have hmb : a.mb n d = _ := hposted.mb.trans (Dev.mb_setMb_same ..)
  refine ⟨_, hexec, hposted.len.trans hl, hposted.posted, hposted.acked, hposted.go, State.on_mem .., (congrArg MbDir.goAt hmb).trans rfl, ?_,
    (congrArg MbDir.orphan hmb).trans rfl, fun hboth => hcross ?_⟩
  · refine (congrArg MbDir.timing hmb).trans ?_
    simp only [State.on_dev, htimeout]
    exact Bool.eq_iff_iff.mpr (by simp)
  · rw [State.on_dev, Dev.on, hne _ (by omega) (by omega)]
    exact hboth

/-! ### Acknowledging -/

/-- The device when a message has been acknowledged, before the sender hears of it (R569, R575). -/
def Dev.mbAcked (d : Dev) (n k code : Nat) : Dev :=
  let x := d.mb n k
  let d1 := (((d.setPosted n k 0).set (R.MB_STATUS_ACKED n k) 1).setMb n k { x with timing := false, orphan := false, waits := false }).set (R.MB_STATUS_WAKING n k) 0
  if x.orphan then d1.inc (R.MB_STATUS_ORPHAN_ACK n k) else d1.set (R.MB_ACK_CODE n k) code

theorem Dev.mbAckCode_eq (x : Dev) (n k code : Nat) : x.mbAckCode n k code = (x.mbAcked n k code).mbNotify n k (R.MB_EVT_EN_H2D_ACKED n) := rfl

theorem Dev.mbAckWrite_good {x : Dev} {v : Nat} (h : x.on (R.MB_STATUS_POSTED n d) = true) (hv : v < 16) : x.mbAckWrite w n d v = x.mbAckCode n d v := by
  have hmod : v % 65536 = v := Nat.mod_eq_of_lt (by omega)
  have hrsv : (v / 65536 != 0) = false := by rw [Nat.div_eq_of_lt (by omega)]; rfl
  simp only [Dev.mbAckWrite, h, Bool.not_true, Bool.false_eq_true, if_false, hmod, if_neg (show ¬15 < v by omega), hrsv, Dev.rsvIf_false]

theorem exec_mbAck_late {v : W32} (hw : Grants s w (R.MB_ACK_CODE n d)) (hside : s.dev.mbSide w n = some (decide (d = 1)))
    (h : s.dev.on (R.MB_STATUS_POSTED n d) = false) :
    ∃ t, exec (.mbAck w n d v) s = .next t ∧ t.dev.get (R.MB_STATUS_LATE_ACK n d) = 1 ∧ OnlyRegs [R.MB_STATUS_LATE_ACK n d] s t := by
  have hexec := exec_mbAck hw v
  rw [State.mbWrite_ack _ hside] at hexec
  have hexec := exec_on_eq (d' := s.dev.set (R.MB_STATUS_LATE_ACK n d) 1) hexec (if_pos (by simp [h]))
  refine ⟨_, hexec, ?_, .set _ _ _ (by simp)⟩
  rw [State.on_dev, Dev.get_set_same]
  rfl

theorem exec_mbAck_posted {v : W32} (hw : Grants s w (R.MB_ACK_CODE n d)) (hside : s.dev.mbSide w n = some (decide (d = 1)))
    (h : s.dev.on (R.MB_STATUS_POSTED n d) = true) (hv : v.toNat < 16) :
    ∃ t, exec (.mbAck w n d v) s = .next t ∧ t.dev.get (R.MB_STATUS_POSTED n d) = 0 ∧ t.dev.get (R.MB_STATUS_ACKED n d) = 1 ∧ t.mem = s.mem ∧
      (t.dev.mb n d).timing = false ∧ (t.dev.mb n d).orphan = false ∧
      ((s.dev.mb n d).orphan = false → t.dev.get (R.MB_ACK_CODE n d) = v.toNat) ∧
      ((s.dev.mb n d).orphan = true → t.dev.get (R.MB_ACK_CODE n d) = s.dev.get (R.MB_ACK_CODE n d) ∧
        t.dev.get (R.MB_STATUS_ORPHAN_ACK n d) = (s.dev.get (R.MB_STATUS_ORPHAN_ACK n d) + 1) % 2 ^ (R.MB_STATUS_ORPHAN_ACK n d).width) := by
  have hk := mbKeys n d
  have hexec := exec_mbAck hw v
  rw [State.mbWrite_ack _ hside] at hexec
  have hexec := exec_on_eq hexec ((Dev.mbAckWrite_good h hv).trans (Dev.mbAckCode_eq ..))
  have hnotify := EventFrame.mbNotify (s.dev.mbAcked n d v.toNat) n.isLt d (R.MB_EVT_EN_H2D_ACKED n)
  obtain ⟨hposted, -, hne⟩ := Dev.get_setPosted s.dev n d 0
  cases horphan : (s.dev.mb n d).orphan with
  | false =>
    have hacked : s.dev.mbAcked n d v.toNat = _ := if_neg (by rw [horphan]; exact Bool.false_ne_true)
    have hmb : (s.dev.mbAcked n d v.toNat).mb n d = { s.dev.mb n d with timing := false, orphan := false, waits := false } := by
      rw [hacked]
      exact Dev.mb_setMb_same ..
    refine ⟨_, hexec, ?_, ?_, State.on_mem .., congrArg MbDir.timing ((hnotify.mb n d).trans hmb), congrArg MbDir.orphan ((hnotify.mb n d).trans hmb), fun _ => ?_,
      fun h => absurd h Bool.false_ne_true⟩ <;> refine (hnotify.get _ (by unfold block; omega)).trans ?_ <;> rw [hacked]
    · rw [Dev.get_set_ne _ _ _ _ (by omega), Dev.get_set_ne _ _ _ _ (by omega), Dev.get_setMb, Dev.get_set_ne _ _ _ _ (by omega), hposted]
    · rw [Dev.get_set_ne _ _ _ _ (by omega), Dev.get_set_ne _ _ _ _ (by omega), Dev.get_setMb, Dev.get_set_same]
      rfl
    · rw [Dev.get_set_same]
      exact Nat.mod_eq_of_lt (show v.toNat < 2 ^ 16 by omega)
  | true =>
    have hacked : s.dev.mbAcked n d v.toNat = _ := if_pos horphan
    have hmb : (s.dev.mbAcked n d v.toNat).mb n d = { s.dev.mb n d with timing := false, orphan := false, waits := false } := by
      rw [hacked]
      exact Dev.mb_setMb_same ..
    refine ⟨_, hexec, ?_, ?_, State.on_mem .., congrArg MbDir.timing ((hnotify.mb n d).trans hmb), congrArg MbDir.orphan ((hnotify.mb n d).trans hmb),
      fun h => absurd h.symm Bool.false_ne_true, fun _ => ⟨?_, ?_⟩⟩ <;> refine (hnotify.get _ (by unfold block; omega)).trans ?_ <;> rw [hacked]
    · rw [Dev.get_inc_ne _ _ _ (by omega), Dev.get_set_ne _ _ _ _ (by omega), Dev.get_setMb, Dev.get_set_ne _ _ _ _ (by omega), hposted]
    · rw [Dev.get_inc_ne _ _ _ (by omega), Dev.get_set_ne _ _ _ _ (by omega), Dev.get_setMb, Dev.get_set_same]
      rfl
    · rw [Dev.get_inc_ne _ _ _ (by omega), Dev.get_set_ne _ _ _ _ (by omega), Dev.get_setMb, Dev.get_set_ne _ _ _ _ (by omega), hne _ (by omega) (by omega)]
    · rw [Dev.get_inc_same, Dev.get_set_ne _ _ _ _ (by omega), Dev.get_setMb, Dev.get_set_ne _ _ _ _ (by omega), hne _ (by omega) (by omega)]

/-! ### Withdrawing -/

theorem exec_mbWithdraw_one (hw : Grants s w (R.MB_WITHDRAW n d)) (hside : s.dev.mbSide w n = some (decide (d = 0))) :
    exec (.mbWithdraw w n d 1) s = .next (s.on fun x => x.mbWithdraw n d) :=
  (exec_mbWithdraw hw 1).trans (congrArg Host.Outcome.next (State.mbWrite_withdraw _ hside))

theorem exec_mbWithdraw_posted (hw : Grants s w (R.MB_WITHDRAW n d)) (hside : s.dev.mbSide w n = some (decide (d = 0)))
    (h : s.dev.on (R.MB_STATUS_POSTED n d) = true) :
    ∃ t, exec (.mbWithdraw w n d 1) s = .next t ∧ t.dev.get (R.MB_STATUS_POSTED n d) = 0 ∧ t.dev.get (R.MB_POST_GO n d) = 0 ∧
      (t.dev.mb n d).timing = false ∧ KeepsRegs [R.MB_STATUS_POSTED n d, R.MB_POST_GO n d, R.MB_STATUS_WAKING n d] s t := by
  have hk := mbKeys n d
  obtain ⟨hposted, hgo, hne⟩ := Dev.get_setPosted s.dev n d 0
  have hexec := exec_on_eq (d' := ((s.dev.setPosted n d 0).set (R.MB_STATUS_WAKING n d) 0).setMb n d { s.dev.mb n d with timing := false, waits := false })
    (exec_mbWithdraw_one hw hside) (if_neg (by simp [h]))
  refine ⟨_, hexec, ?_, ?_, ?_, keepsRegs_on fun g hg => ?_⟩
  · rw [State.on_dev, Dev.get_setMb, Dev.get_set_ne _ _ _ _ (by omega), hposted]
  · rw [State.on_dev, Dev.get_setMb, Dev.get_set_ne _ _ _ _ (by omega), hgo]
  · rw [State.on_dev, Dev.mb_setMb_same]
  · rw [Dev.get_setMb, Dev.get_set_ne _ _ _ _ (hg _ (by simp)), hne _ (hg _ (by simp)) (hg _ (by simp))]

theorem exec_mbWithdraw_none (hw : Grants s w (R.MB_WITHDRAW n d)) (hside : s.dev.mbSide w n = some (decide (d = 0)))
    (h : s.dev.on (R.MB_STATUS_POSTED n d) = false) : exec (.mbWithdraw w n d 1) s = .next s :=
  exec_on_eq (exec_mbWithdraw_one hw hside) (if_pos (by simp [h]))

/-! ### Timing out, and the reset of a side -/

theorem Dev.on_eq_one {d : Dev} {f : Fld} (hf : f.width = 1) (h : d.on f = true) : d.get f = 1 := by
  have hlt : d.get f < 2 ^ f.width := d.get_lt f
  rw [Dev.on, bne_iff_ne] at h
  rw [hf] at hlt
  omega

theorem exec_mbTimeout_late (h : (s.dev.mb n d).timing = true) (hposted : s.dev.on (R.MB_STATUS_POSTED n d) = true) :
    ∃ t, exec (.mbTimeout n d) s = .next t ∧ t.dev.get (R.MB_STATUS_TIMEOUT n d) = 1 ∧ t.dev.get (R.MB_STATUS_POSTED n d) = 1 ∧
      (t.dev.mb n d).timing = false ∧ t.mem = s.mem ∧ s.dev.now ≤ t.dev.now := by
  have hk := mbKeys n d
  have hone : s.dev.get (R.MB_STATUS_POSTED n d) = 1 := Dev.on_eq_one rfl hposted
  let d1 := s.dev.passNs ((s.dev.mb n d).goAt + s.dev.get (R.MB_TIMEOUT n d) * 1000 - s.dev.now)
  let d2 := (d1.set (R.MB_STATUS_TIMEOUT n d) 1).setMb n d { s.dev.mb n d with timing := false }
  have htime : TimeFrame s.dev d1 := .passNs ..
  have hnow : s.dev.now ≤ d1.now := by
    rw [show d1.now = _ from Dev.ticks_now ..]
    omega
  have hlate : s.dev.mbTimeout n d = d2.mbNotify n d (R.MB_EVT_EN_H2D_TIMEOUT n) := if_neg (by simp [h, hposted])
  have hnotify := EventFrame.mbNotify d2 n.isLt d (R.MB_EVT_EN_H2D_TIMEOUT n)
  have hexec := exec_on_eq (c := .mbTimeout n d) (f := fun x => x.mbTimeout n d) rfl hlate
  refine ⟨_, hexec, ?_, ?_, ?_, State.on_mem .., ?_⟩
  · refine (hnotify.get _ (by unfold block; omega)).trans ?_
    rw [Dev.get_setMb, Dev.get_set_same]
    rfl
  · refine (hnotify.get _ (by unfold block; omega)).trans ?_
    rw [Dev.get_setMb, Dev.get_set_ne _ _ _ _ (by omega), ← hone]
    exact htime.get _ fun f hf => key_ne_of_block_ne (by rw [timeRegs_block_time f hf]; unfold block; omega)
  · exact congrArg MbDir.timing ((hnotify.mb n d).trans (Dev.mb_setMb_same ..))
  · exact hnow.trans_eq (by rw [State.on_dev, hnotify.rest]; rfl)

theorem exec_mbTimeout_none (h : (s.dev.mb n d).timing = false ∨ s.dev.on (R.MB_STATUS_POSTED n d) = false) : exec (.mbTimeout n d) s = .next s :=
  exec_on_eq (f := fun x => x.mbTimeout n d) rfl (if_pos (by rcases h with h | h <;> simp [h]))

end

/-- The host side reset: its receiver's direction is empty, with RECEIVER_RESET as the code (R575). -/
theorem Dev.mbSideReset_host (d : Dev) {n : Nat} (hn : n < 16) (h : d.on (R.MB_STATUS_POSTED n 1) = true) :
    (d.mbSideReset n true).get (R.MB_STATUS_POSTED n 1) = 0 ∧ (d.mbSideReset n true).get (R.MB_ACK_CODE n 1) = 14 ∧
      (d.mbSideReset n true).get (R.MB_STATUS_ACKED n 1) = 1 := by
  have hk := mbKeys n 1
  let d1 := d.mbTxReset n 0
  have hd1 (g : Fld) (hg : g.key ≠ (R.MB_STATUS_TIMEOUT n 0).key) : d1.get g = d.get g := by
    unfold d1 Dev.mbTxReset
    split
    · rfl
    · rw [Dev.get_setMb, Dev.get_set_ne _ _ _ _ hg]
  have hk0 := mbKeys n 0
  let d2 := (((((d1.setPosted n 1 0).set (R.MB_STATUS_ACKED n 1) 1).set (R.MB_ACK_CODE n 1) 14).set (R.MB_STATUS_WAKING n 1) 0).setMb n 1
    { d1.mb n 1 with timing := false, waits := false, orphan := false })
  have hreset : d1.mbRxReset n 1 = d2.mbDevice n := by
    have hposted : d1.on (R.MB_STATUS_POSTED n 1) = true := by rw [Dev.on, hd1 _ (by omega)]; exact h
    exact if_neg (by simp [hposted])
  have hget (g : Fld) (hg : block g ≠ 3) : (d.mbSideReset n true).get g = d2.get g := by
    have hregs : (d.mbSideReset n true).regs = (d2.mbDevice n).regs := by
      rw [← hreset]
      simp only [Dev.mbSideReset]
      split <;> rfl
    exact (Dev.get_congr hregs g).trans ((EventFrame.mbDevice d2).get g hg)
  obtain ⟨hposted, -, hne⟩ := Dev.get_setPosted d1 n 1 0
  refine ⟨(hget _ (by unfold block; omega)).trans ?_, (hget _ (by unfold block; omega)).trans ?_, (hget _ (by unfold block; omega)).trans ?_⟩ <;> rw [Dev.get_setMb]
  · rw [Dev.get_set_ne _ _ _ _ (by omega), Dev.get_set_ne _ _ _ _ (by omega), Dev.get_set_ne _ _ _ _ (by omega), hposted]
  · rw [Dev.get_set_ne _ _ _ _ (by omega), Dev.get_set_same]
    rfl
  · rw [Dev.get_set_ne _ _ _ _ (by omega), Dev.get_set_ne _ _ _ _ (by omega), Dev.get_set_same]
    rfl

/-- Settles O49: a posting by `State.mbGo_effect`, the other words and ends of a message by the rule of each. -/
theorem mailboxes : Obligations.Mailboxes := by
  unfold Obligations.Mailboxes
  refine ⟨fun w n d v s hw hside h hlen hpos hrsv => exec_mbPost_length hw hside h hlen hpos hrsv,
    fun w n d v s hw hside h hlen hpos hgo hawake => exec_mbPost_go hw hside h hlen hpos hgo hawake,
    fun w n d v s hw h => exec_mbPost_refused hw h, fun w n d v s hw hside h hv => exec_mbAck_posted hw hside h hv,
    fun w n d v s hw hside h => exec_mbAck_late hw hside h, fun w n d s hw hside h => exec_mbWithdraw_posted hw hside h,
    fun w n d s hw hside h => exec_mbWithdraw_none hw hside h, fun n d s h hposted => exec_mbTimeout_late h hposted,
    fun n d s h => exec_mbTimeout_none h, fun d n hn h => d.mbSideReset_host hn h⟩


end Sys2Proof.Machine
end

section
/-! PROOFS. Host ports: resets, the quad-SPI target, the keep-alive, the Bridle's rounds (R548 to R565, R579). -/

namespace Sys2Proof.Machine
open Sys2Proof Sys2Proof.Safety

/-! ### What the reset of a host side leaves (R561, R565, R574, R575) -/

/-- The reset of a host side leaves the registers outside the mailboxes and Punnets, the shadows and the flags of the quad-SPI port. -/
structure SideFrame (d d' : Dev) : Prop where
  get : ∀ g : Fld, block g ≠ 2 → block g ≠ 7 → d'.get g = d.get g
  shadows : d'.shadows = d.shadows
  flags : d'.host.qRetry = d.host.qRetry ∧ d'.host.qError = d.host.qError

theorem SideFrame.refl (d : Dev) : SideFrame d d := ⟨fun _ _ _ => rfl, rfl, rfl, rfl⟩

theorem SideFrame.trans {a b c : Dev} (h1 : SideFrame a b) (h2 : SideFrame b c) : SideFrame a c :=
  ⟨fun g hmb hpn => (h2.get g hmb hpn).trans (h1.get g hmb hpn), h2.shadows.trans h1.shadows, h2.flags.1.trans h1.flags.1, h2.flags.2.trans h1.flags.2⟩

theorem SideFrame.set (d : Dev) (f : Fld) (v : Nat) (hf : block f = 2 ∨ block f = 7) : SideFrame d (d.set f v) :=
  ⟨fun g hmb hpn => Dev.get_set_ne _ _ _ _ (key_ne_of_block_ne (by omega)), rfl, rfl, rfl⟩

theorem SideFrame.of_regs {d d' : Dev} (h : d'.regs = d.regs) (hs : d'.shadows = d.shadows) (hh : d'.host.qRetry = d.host.qRetry ∧ d'.host.qError = d.host.qError) :
    SideFrame d d' := ⟨fun g _ _ => Dev.get_congr h g, hs, hh⟩

/-- A line of an engine is no register. -/
theorem Dev.latchLine_regs (d : Dev) (e line : Nat) : (d.latchLine e line).regs = d.regs := by
  simp only [Dev.latchLine]
  split
  · split
    · unfold Dev.dozeWakeFor
      split <;> rfl
    · rfl
  · rfl

theorem SideFrame.mbDevice (d : Dev) (n : Nat) : SideFrame d (d.mbDevice n) := by
  unfold Dev.mbDevice
  split
  · exact .refl d
  · have hrest := (EventFrame.latchLine d (d.get (R.MB_CFG_ENGINE n)) (d.get (R.MB_CFG_LINE n))).rest
    refine .of_regs (d.latchLine_regs _ _) ?_ ⟨?_, ?_⟩ <;> rw [hrest]

section
variable (d : Dev) {n : Nat} (hn : n < 16)
include hn

theorem SideFrame.mbTxReset : SideFrame d (d.mbTxReset n 0) := by
  have hk := mbKeys n 0
  unfold Dev.mbTxReset
  split
  · exact .refl d
  · exact (SideFrame.set d _ 0 (.inl (by unfold block; omega))).trans (.of_regs rfl rfl ⟨rfl, rfl⟩)

theorem SideFrame.mbRxReset : SideFrame d (d.mbRxReset n 1) := by
  have hk := mbKeys n 1
  have hset (a : Dev) (f : Fld) (v : Nat) (hf : f.key / 0x800 = 0x809 + n * 0x40) : SideFrame a (a.set f v) := .set a f v (.inl (by unfold block; omega))
  let d1 := (((d.setPosted n 1 0).set (R.MB_STATUS_ACKED n 1) 1).set (R.MB_ACK_CODE n 1) 14).set (R.MB_STATUS_WAKING n 1) 0
  simp only [Dev.mbRxReset]
  split
  · exact .refl d
  · have hregs : SideFrame d d1 := ((((hset d (R.MB_STATUS_POSTED n 1) 0 (by omega)).trans (hset _ (R.MB_POST_GO n 1) 0 (by omega))).trans
      (hset _ (R.MB_STATUS_ACKED n 1) 1 (by omega))).trans (hset _ (R.MB_ACK_CODE n 1) 14 (by omega))).trans (hset _ (R.MB_STATUS_WAKING n 1) 0 (by omega))
    have hmb : SideFrame d1 (d1.setMb n 1 { d.mb n 1 with timing := false, waits := false, orphan := false }) := .of_regs rfl rfl ⟨rfl, rfl⟩
    exact (hregs.trans hmb).trans (.mbDevice _ n)

theorem SideFrame.mbSideReset : SideFrame d (d.mbSideReset n true) := by
  have hsides := (SideFrame.mbTxReset d hn).trans (.mbRxReset _ hn)
  simp only [Dev.mbSideReset]
  split
  · exact hsides.trans (.of_regs rfl rfl ⟨rfl, rfl⟩)
  · exact hsides

end

theorem SideFrame.hostSides (d : Dev) (host : Nat) : SideFrame d (d.hostSides host) := by
  refine List.foldlRecOn (motive := SideFrame d) _ _ (.refl d) fun a ha n hn => ?_
  split
  · exact ha.trans (.mbSideReset a (List.mem_range.mp hn))
  · exact ha

theorem SideFrame.setPn (d : Dev) {n : Nat} (hn : n < 64) (x : Punnet) : SideFrame d (d.setPn n x) := by
  have hk := pnKeys n
  exact SideFrame.trans (b := { d with io := { d.io with pns := d.io.pns.put n x } }) (.of_regs rfl rfl ⟨rfl, rfl⟩) (.set _ _ _ (.inr (by unfold block; omega)))

theorem SideFrame.pnHostReset (d : Dev) {n : Nat} (hn : n < 64) : SideFrame d (d.pnHostReset n) := by
  have hk := pnKeys n
  simp only [Dev.pnHostReset]
  split
  · exact .refl d
  split
  · exact .setPn d hn _
  · exact (SideFrame.setPn d hn _).trans (.set _ _ _ (.inr (by unfold block; omega)))

/-! ### The PCIe reset -/

/-- Where the masks of the vectors and the registers of ownership lie (R580, R583, R711). -/
theorem portKeys (v : Nat) : (R.MSIX_CTRL_MASK v).key = 0x700180 + v * 0x200 ∧ R.OWN_STATUS_OWNED.key = 0x20001F ∧ R.OWN_STATUS_PORT.key = 0x20001C ∧
    R.OWN_STATUS_CHANGES.key = 0x200000 ∧ R.OWN_EVT_LAPSED.key = 0x200401 ∧ R.OWN_EVT_CHANGED.key = 0x200400 := by
  simp only [Fld.key, R.MSIX_CTRL_MASK, R.OWN_STATUS_OWNED, R.OWN_STATUS_PORT, R.OWN_STATUS_CHANGES, R.OWN_EVT_LAPSED, R.OWN_EVT_CHANGED, and_true]
  omega

/-- Every vector masked (R693). -/
def Dev.maskVectors (d : Dev) (k : Nat) : Dev := (List.range k).foldl (fun (a : Dev) v => a.set (R.MSIX_CTRL_MASK v) 1) d

theorem Dev.maskVectors_effect (d : Dev) (k : Nat) : (d.maskVectors k).shadows = d.shadows ∧ (∀ v < k, (d.maskVectors k).get (R.MSIX_CTRL_MASK v) = 1) ∧
    ∀ g : Fld, block g ≠ 3 → g.key < 0x600000 → (d.maskVectors k).get g = d.get g := by
  induction k with
  | zero => exact ⟨rfl, fun _ hv => absurd hv (Nat.not_lt_zero _), fun _ _ _ => rfl⟩
  | succ k ih =>
    obtain ⟨hsh, hmask, hne⟩ := ih
    have hsucc : d.maskVectors (k + 1) = (d.maskVectors k).set (R.MSIX_CTRL_MASK k) 1 := by
      rw [Dev.maskVectors, List.range_succ, List.foldl_append]
      rfl
    rw [hsucc]
    refine ⟨hsh, fun v hv => ?_, fun g hg hlow => ?_⟩
    · by_cases hvk : v = k
      · rw [hvk, Dev.get_set_same]
        rfl
      · have := portKeys v
        have := portKeys k
        rw [Dev.get_set_ne _ _ _ _ (by omega), hmask v (by omega)]
    · have := portKeys k
      rw [Dev.get_set_ne _ _ _ _ (by omega), hne g hg hlow]

theorem SideFrame.punnets (d : Dev) : SideFrame d ((List.range 64).foldl (fun (a : Dev) n => a.pnHostReset n) d) :=
  List.foldlRecOn (motive := SideFrame d) _ _ (.refl d) fun a ha _ hn => ha.trans (.pnHostReset a (List.mem_range.mp hn))

theorem exec_pcieReset_effect (s : State) : ∃ t, exec .pcieReset s = .next t ∧ t.mem = s.mem ∧ (∀ v < 16, t.dev.get (R.MSIX_CTRL_MASK v) = 1) ∧
    t.dev.get R.OWN_STATUS_OWNED = s.dev.get R.OWN_STATUS_OWNED ∧ t.dev.get R.OWN_STATUS_PORT = s.dev.get R.OWN_STATUS_PORT ∧
    ∀ e ∈ t.dev.shadows, e ∈ s.dev.shadows ∧ e.1 / 2 ^ 20 ≠ 0 := by
  have hk := portKeys 0
  let d0 : Dev := { s.dev with shadows := s.dev.shadows.filter fun e => e.1 / 2 ^ 20 != 0 }
  obtain ⟨hsh, hmask, hne⟩ := d0.maskVectors_effect 16
  have hsides : SideFrame (d0.maskVectors 16) s.dev.pcieReset := (SideFrame.punnets _).trans (.hostSides _ 0)
  have hexec : exec .pcieReset s = .next (s.on fun _ => s.dev.pcieReset) := exec_on_eq (f := fun d => d.pcieReset) rfl rfl
  have hget (g : Fld) (hg : block g = 1) : s.dev.pcieReset.get g = s.dev.get g :=
    (hsides.get g (by omega) (by omega)).trans ((hne g (by omega) (by unfold block at hg; omega)).trans (Dev.get_congr rfl g))
  refine ⟨_, hexec, State.on_mem .., fun v hv => ?_, ?_, ?_, fun e he => ?_⟩
  · have hv' := portKeys v
    rw [State.on_dev, hsides.get (R.MSIX_CTRL_MASK v) (by unfold block; omega) (by unfold block; omega), hmask v hv]
  · rw [State.on_dev, hget R.OWN_STATUS_OWNED (by unfold block; omega)]
  · rw [State.on_dev, hget R.OWN_STATUS_PORT (by unfold block; omega)]
  · rw [State.on_dev, hsides.shadows, hsh] at he
    exact ⟨(List.mem_filter.mp he).1, by simpa using (List.mem_filter.mp he).2⟩

/-! ### The quad-SPI target -/

section
variable {s : State}

theorem State.qspiWake_awake (h : s.dev.pwr.asleep = false) : s.qspiWake = s := if_neg (by simp [h])

theorem exec_qspi_off (h : s.dev.qspiOn = false) (addr : W32) (n ready : Nat) (words : List W32) :
    exec (.qspiRead addr n ready) s = .next s ∧ exec (.qspiWrite addr words) s = .next s ∧ exec .qspiStatus s = .next s :=
  ⟨congrArg Host.Outcome.next (if_pos (by simp [h])), congrArg Host.Outcome.next (if_pos (by simp [h])), congrArg Host.Outcome.next (if_pos (by simp [h]))⟩

variable (hon : s.dev.qspiOn = true) (hawake : s.dev.pwr.asleep = false)
include hon hawake

theorem exec_qspiRead (addr : W32) (n ready : Nat) :
    exec (.qspiRead addr n ready) s = .next ((s.qspiRead addr.toNat ready n).2.qspiSend (s.qspiRead addr.toNat ready n).1) := by
  have hrow : s.qspiReadRow addr.toNat n ready = (s.qspiRead addr.toNat ready n).2.qspiSend (s.qspiRead addr.toNat ready n).1 := by
    rw [State.qspiReadRow, if_neg (by simp [hon]), State.qspiWake_awake hawake]
  exact congrArg Host.Outcome.next hrow

theorem exec_qspiWrite (addr : W32) (ws : List W32) : exec (.qspiWrite addr ws) s = .next (s.qspiWrite addr.toNat (ws.map BitVec.toNat)) := by
  have hrow : s.qspiWriteRow addr.toNat (ws.map BitVec.toNat) = s.qspiWrite addr.toNat (ws.map BitVec.toNat) := by
    rw [State.qspiWriteRow, if_neg (by simp [hon]), State.qspiWake_awake hawake]
  exact congrArg Host.Outcome.next hrow

/-- A READ of which no word is ready (R564). -/
theorem exec_qspiRead_late (addr : W32) (n : Nat) :
    ∃ t, exec (.qspiRead addr n 0) s = .next t ∧ t.dev.rdata = List.replicate n 0xFFFFFFFF ∧ t.dev.host.qRetry = (s.dev.host.qRetry || n != 0) ∧
      t.mem = s.mem ∧ t.dev.regs = s.dev.regs := by
  refine ⟨_, exec_qspiRead hon hawake addr n 0, ?_⟩
  cases n with
  | zero => exact ⟨rfl, (Bool.or_false _).symm, rfl, rfl⟩
  | succ n =>
    have hread : s.qspiRead addr.toNat 0 (n + 1) = (List.replicate (n + 1) 0xFFFFFFFF, s.on fun d => { d with host := { d.host with qRetry := true } }) :=
      if_pos (.inl rfl)
    rw [hread]
    exact ⟨List.map_replicate, (Bool.or_true _).symm, rfl, rfl⟩

omit hon hawake in
/-- A READ gives one word for each word asked. -/
theorem State.qspiRead_length (s : State) (addr ready n : Nat) : (s.qspiRead addr ready n).1.length = n := by
  induction n generalizing s addr ready with
  | zero => rfl
  | succ n ih =>
    simp only [State.qspiRead]
    split
    · exact List.length_replicate
    · exact congrArg (· + 1) (ih ..)

theorem exec_qspiRead_words (addr : W32) (n ready : Nat) :
    ∃ t, exec (.qspiRead addr n ready) s = .next t ∧ t.dev.rdata.length = n ∧ t.dev.out.getLast? = some (.qspi t.dev.rdata) := by
  refine ⟨_, exec_qspiRead hon hawake addr n ready, ?_, ?_⟩
  · exact (List.length_map _).trans (s.qspiRead_length ..)
  · exact List.getLast?_concat ..

theorem exec_qspiWrite_register {addr : W32} {v : W32} (hcore : s.dev.coreOn = true) (hrun : s.dev.get R.BRIDLE_STATUS_STATE = 1)
    (haddr : addr.toNat < 2 ^ 20) (haligned : addr.toNat % 4 = 0) (hmay : s.dev.mayWrite .qspi addr.toNat = true) :
    exec (.qspiWrite addr [v]) s = .next (s.regWrite .qspi addr.toNat 4 v.toNat) := by
  have hreach : s.dev.qspiReaches addr.toNat = true := by simp [Dev.qspiReaches, hcore, hrun]
  have hregion : addr.toNat / 2 ^ 28 = 0 := by omega
  have hsize : sizeOk addr.toNat 4 = true := by simp [sizeOk, haligned]
  have hput : s.qspiPut addr.toNat v.toNat = s.regWrite .qspi addr.toNat 4 v.toNat := by
    simp only [State.qspiPut, hreach, Bool.not_true, Bool.false_eq_true, if_false, hregion, Nat.mod_eq_of_lt haddr, hsize, if_true, State.gate, hmay]
  rw [exec_qspiWrite hon hawake]
  exact congrArg Host.Outcome.next hput

theorem exec_qspiStatus_effect : ∃ t, exec .qspiStatus s = .next t ∧ t.dev.host.qRetry = false ∧ t.dev.host.qError = false ∧ t.dev.regs = s.dev.regs ∧
    t.mem = s.mem ∧ t.dev.rdata = [BitVec.ofNat 32 (2 * s.dev.host.qRetry.toNat + 4 * s.dev.host.qError.toNat)] := by
  have hflags (a b : Bool) : (if a then 2 else 0) + (if b then 4 else 0) = 2 * a.toNat + 4 * b.toNat := by cases a <;> cases b <;> rfl
  have hrow : s.qspiStatus = (s.qspiSend [2 * s.dev.host.qRetry.toNat + 4 * s.dev.host.qError.toNat]).on
      fun d => { d with host := { d.host with qRetry := false, qError := false } } := by
    simp only [State.qspiStatus, hon, Bool.not_true, Bool.false_eq_true, if_false, State.qspiWake_awake hawake, hflags]
  exact ⟨_, congrArg Host.Outcome.next hrow, rfl, rfl, rfl, rfl, rfl⟩

end

theorem exec_qspiReset_effect {s : State} (hheld : s.dev.isHeld = false) (hawake : s.dev.pwr.asleep = false) :
    ∃ t, exec .qspiReset s = .next t ∧ t.dev.host.qRetry = false ∧ t.dev.host.qError = false ∧ t.mem = s.mem ∧
      t.dev.get R.OWN_STATUS_OWNED = s.dev.get R.OWN_STATUS_OWNED ∧ ∀ e ∈ t.dev.shadows, e ∈ s.dev.shadows ∧ e.1 / 2 ^ 20 ≠ 1 := by
  have hk := portKeys 0
  let d0 : Dev := { s.dev with host := { s.dev.host with qRetry := false, qError := false }, shadows := s.dev.shadows.filter fun e => e.1 / 2 ^ 20 != 1 }
  have hrow : s.qspiReset = s.on fun _ => d0.hostSides 1 := by
    rw [State.qspiReset, if_neg (by simp [hheld]), State.qspiWake_awake hawake]
    exact s.on_here fun d => ({ d with host := { d.host with qRetry := false, qError := false },
                                       shadows := d.shadows.filter fun e => e.1 / 2 ^ 20 != 1 } : Dev).hostSides 1
  have hsides := SideFrame.hostSides d0 1
  refine ⟨_, congrArg Host.Outcome.next hrow, ?_, ?_, State.on_mem .., ?_, fun e he => ?_⟩
  · rw [State.on_dev, hsides.flags.1]
  · rw [State.on_dev, hsides.flags.2]
  · rw [State.on_dev, hsides.get R.OWN_STATUS_OWNED (by unfold block; omega) (by unfold block; omega)]
    exact Dev.get_congr rfl _
  · rw [State.on_dev, hsides.shadows] at he
    exact ⟨(List.mem_filter.mp he).1, by simpa using (List.mem_filter.mp he).2⟩

/-! ### The keep-alive -/

theorem Dev.owner_none (d : Dev) (h : d.get R.OWN_STATUS_OWNED = 0) : d.owner = none := if_neg (by simp [Dev.on, h])

theorem Dev.ownCause_ne (d : Dev) (f g : Fld) (b : Nat) (hg : block g ≠ 3) (hne : g.key ≠ f.key) : (d.ownCause f b).get g = d.get g :=
  Dev.cause_get_ne _ _ _ _ _ (by omega) hg hne

theorem Dev.ownCause_same (d : Dev) (f : Fld) (b : Nat) (hf : block f ≠ 3) : (d.ownCause f b).get f = 1 % 2 ^ f.width :=
  Dev.cause_get_same _ _ _ _ (by omega) hf

theorem Dev.keepAlive_regs (d : Dev) : d.keepAlive.regs = d.regs := by
  unfold Dev.keepAlive
  generalize d.now + _ = instant
  rfl

/-- A change of owner (R551, R580). -/
theorem Dev.takeOwner_none {d : Dev} (h : d.owner ≠ none) : (d.takeOwner none).get R.OWN_STATUS_OWNED = 0 ∧ (d.takeOwner none).get R.OWN_EVT_CHANGED = 1 ∧
    (d.takeOwner none).get R.OWN_STATUS_CHANGES = (d.get R.OWN_STATUS_CHANGES + 1) % 2 ^ R.OWN_STATUS_CHANGES.width := by
  have hk := portKeys 0
  let d1 := (d.set R.OWN_STATUS_OWNED 0).set R.OWN_STATUS_PORT 0
  have htake : d.takeOwner none = ((d1.inc R.OWN_STATUS_CHANGES).keepAlive).ownCause R.OWN_EVT_CHANGED 0 := by
    simp only [Dev.takeOwner, h, if_false, Option.isSome_none, Option.getD_none, Bool.false_eq_true, d1]
  have hkeep (g : Fld) : (d1.inc R.OWN_STATUS_CHANGES).keepAlive.get g = (d1.inc R.OWN_STATUS_CHANGES).get g :=
    Dev.get_congr (Dev.keepAlive_regs _) g
  rw [htake]
  refine ⟨?_, ?_, ?_⟩
  · rw [Dev.ownCause_ne _ _ _ _ (by unfold block; omega) (by omega), hkeep, Dev.get_inc_ne _ _ _ (by omega), Dev.get_set_ne _ _ _ _ (by omega), Dev.get_set_same]
    rfl
  · rw [Dev.ownCause_same _ _ _ (by unfold block; omega)]
    rfl
  · rw [Dev.ownCause_ne _ _ _ _ (by unfold block; omega) (by omega), hkeep, Dev.get_inc_same, Dev.get_set_ne _ _ _ _ (by omega),
      Dev.get_set_ne _ _ _ _ (by omega)]

theorem exec_keepAliveExpiry_owned {s : State} (h : s.dev.owner ≠ none) :
    ∃ t, exec .keepAliveExpiry s = .next t ∧ t.dev.owner = none ∧ t.dev.get R.OWN_EVT_LAPSED = 1 ∧ t.dev.get R.OWN_EVT_CHANGED = 1 ∧ t.mem = s.mem ∧
      t.dev.get R.OWN_STATUS_CHANGES = (s.dev.get R.OWN_STATUS_CHANGES + 1) % 2 ^ R.OWN_STATUS_CHANGES.width := by
  have hk := portKeys 0
  let d1 := s.dev.passNs (s.dev.host.lapse - s.dev.now)
  have htime : TimeFrame s.dev d1 := .passNs ..
  have hget (g : Fld) (hg : block g = 1) : d1.get g = s.dev.get g :=
    htime.get g fun f hf => key_ne_of_block_ne (by rw [timeRegs_block_time f hf, hg]; decide)
  have howner : d1.owner = s.dev.owner := by
    rw [Dev.owner, Dev.on, hget _ (by unfold block; omega), hget _ (by unfold block; omega)]
    rfl
  obtain ⟨howned, hchanged, hcount⟩ := Dev.takeOwner_none (d := d1) (by rw [howner]; exact h)
  refine ⟨_, exec_on_eq (d' := (d1.takeOwner none).ownCause R.OWN_EVT_LAPSED 1) (f := fun d => d.lapse) rfl (if_neg h), ?_, ?_, ?_, State.on_mem .., ?_⟩
  · refine Dev.owner_none _ ?_
    rw [State.on_dev, Dev.ownCause_ne _ _ _ _ (by unfold block; omega) (by omega), howned]
  · rw [State.on_dev, Dev.ownCause_same _ _ _ (by unfold block; omega)]
    rfl
  · rw [State.on_dev, Dev.ownCause_ne _ _ _ _ (by unfold block; omega) (by omega), hchanged]
  · rw [State.on_dev, Dev.ownCause_ne _ _ _ _ (by unfold block; omega) (by omega), hcount, hget _ (by unfold block; omega)]

/-- Settles O48: the resets by `SideFrame`, transactions by their rows, the keep-alive by `Dev.takeOwner_none`. -/
theorem hostPorts : Obligations.HostPorts := by
  unfold Obligations.HostPorts
  refine ⟨exec_pcieReset_effect, fun addr n ready words s h => exec_qspi_off h addr n ready words, fun addr n ready s hon hawake _ hready => ?_,
    fun addr n ready s hon hawake _ => exec_qspiRead_words hon hawake addr n ready,
    fun addr v s hon hawake hcore hrun haddr haligned hmay => exec_qspiWrite_register hon hawake hcore hrun haddr haligned hmay,
    fun addr v l s hon hawake _ => exec_qspiWrite hon hawake addr (v :: l), fun s hon hawake => exec_qspiStatus_effect hon hawake,
    fun s hheld hawake => exec_qspiReset_effect hheld hawake, fun s hheld => congrArg Host.Outcome.next (if_pos hheld), fun s h => exec_keepAliveExpiry_owned h,
    fun s h => exec_on_eq (f := fun d => d.lapse) rfl (if_pos h), fun s h => congrArg Host.Outcome.next (if_pos (by simp [h])), fun s hcore hrun => ?_⟩
  · subst hready
    exact exec_qspiRead_late hon hawake addr n
  · have hround : s.bridleRound = _ := (if_neg (by simp [hcore])).trans (if_neg (not_not_intro hrun))
    exact congrArg Host.Outcome.next hround

end Sys2Proof.Machine
end

section
/-! PROOFS. The switch and its links leave the states of the power domains and the Bridle's commands alone (R218, R559, R627). -/

namespace Sys2Proof.Machine
open Sys2Proof Sys2Proof.Safety

/-- Every domain keeps its state. -/
structure KeepsDomains (d d' : Dev) : Prop where
  domain : ∀ k, d'.domain k = d.domain k

/-- What the switch and its links leave alone: the domains' states, and the Bridle's commands. -/
structure LinkFrame (d d' : Dev) : Prop where
  domain : ∀ k, d'.domain k = d.domain k
  bridle : d'.bridle = d.bridle

/-- Where the state of a domain lies (R651): the eighth bit of its word. -/
theorem domainKey (k : Nat) : (R.PWR_DOMAIN_STATE k).key = 0x1C00008 + k * 0x80 := by
  simp only [Fld.key, R.PWR_DOMAIN_STATE]
  omega

theorem LinkFrame.domains {d d' : Dev} (h : LinkFrame d d') : KeepsDomains d d' := ⟨h.domain⟩

theorem LinkFrame.refl (d : Dev) : LinkFrame d d := ⟨fun _ => rfl, rfl⟩

theorem LinkFrame.trans {a b c : Dev} (h1 : LinkFrame a b) (h2 : LinkFrame b c) : LinkFrame a c :=
  ⟨fun k => (h2.domain k).trans (h1.domain k), h2.bridle.trans h1.bridle⟩

theorem LinkFrame.of_regs {d d' : Dev} (h : d'.regs = d.regs) (hb : d'.bridle = d.bridle := by rfl) : LinkFrame d d' :=
  ⟨fun _ => Dev.get_congr h _, hb⟩

theorem LinkFrame.foldl {α : Type} {f : Dev → α → Dev} (h : ∀ a x, LinkFrame a (f a x)) (d : Dev) (l : List α) : LinkFrame d (l.foldl f d) :=
  List.foldlRecOn (motive := LinkFrame d) _ _ (.refl d) fun a ha x _ => ha.trans (h a x)

theorem LinkFrame.event {d d' : Dev} (h : EventFrame d d') : LinkFrame d d' :=
  ⟨fun k => h.get _ (by have := domainKey k; unfold block; omega), by rw [h.rest]⟩

/-- A field that shows the state of no domain: it begins at another bit of its word, or lies below the power registers. -/
def OffDomain (f : Fld) : Prop := f.lo = 0 ∨ f.lo = 16 ∨ (f.lo < 32 ∧ f.addr < 0xE0000)

section
variable {f : Fld} (hf : OffDomain f)
include hf

theorem LinkFrame.set (d : Dev) (v : Nat) : LinkFrame d (d.set f v) := by
  refine ⟨fun k => Dev.get_set_ne _ _ _ _ ?_, rfl⟩
  have := domainKey k
  unfold OffDomain at hf
  unfold Fld.key at *
  omega

theorem LinkFrame.inc (d : Dev) : LinkFrame d (d.inc f) := .set hf d _

theorem LinkFrame.cause (d : Dev) (en : Bool) (ev : Nat) (hev : ev < 256) : LinkFrame d (d.cause f en ev) :=
  (LinkFrame.set hf d 1).trans (.event (.cause d f en ev hev))

theorem LinkFrame.swCause (d : Dev) (b : Nat) : LinkFrame d (d.swCause f b) := .cause hf d _ _ (by split <;> omega)

theorem LinkFrame.portCause (d : Dev) {p : Nat} (hp : p < 26) (b : Nat) : LinkFrame d (d.portCause p f b) := .cause hf d _ _ (by omega)

end

/-! ### The fabric (R164 to R175, R195, R196) -/

theorem LinkFrame.withFab (d : Dev) (f : FabSt → FabSt) : LinkFrame d (d.withFab f) := .of_regs rfl

theorem LinkFrame.withNet (d : Dev) (f : NetSt → NetSt) : LinkFrame d (d.withNet f) := .of_regs rfl

theorem LinkFrame.setFin (d : Dev) (i : Nat) (x : FIn) : LinkFrame d (d.setFin i x) := .withFab ..

theorem LinkFrame.editCopy (d : Dev) (id : Nat) (f : Copy → Copy) : LinkFrame d (d.editCopy id f) := .withFab ..

theorem LinkFrame.stopWriting (d : Dev) (id : Nat) : LinkFrame d (d.stopWriting id) := .withFab ..

theorem LinkFrame.showSlice (d : Dev) (k : Nat) : LinkFrame d (d.showSlice k) := (LinkFrame.set (.inl rfl) d _).trans (.set (.inr (.inl rfl)) _ _)

theorem LinkFrame.showSlices (d : Dev) : LinkFrame d d.showSlices := .foldl (fun a k => .showSlice a k) d _

theorem LinkFrame.takeCopy (d : Dev) (c : Copy) : LinkFrame d (d.takeCopy c) :=
  ((LinkFrame.withFab d _).trans (.stopWriting _ _)).trans (.showSlices _)

theorem LinkFrame.putCell (d : Dev) (k : Nat) (c : FCell) : LinkFrame d (d.putCell k c) := (LinkFrame.withFab d _).trans (.showSlice _ _)

theorem LinkFrame.countSched (d : Dev) (p budget : Nat) : LinkFrame d (d.countSched p budget).1 := by
  have hmax := (LinkFrame.withFab d fun f => { f with schedCells := f.schedCells.put p (d.fab.schedCells.getD p 0 + 1) }).trans
    (.set (f := R.SW_PORT_CNT_SCHED_MAX p) (.inl rfl) _ (max (d.fab.schedCells.getD p 0 + 1) (d.get (R.SW_PORT_CNT_SCHED_MAX p))))
  simp only [Dev.countSched]
  split
  · exact hmax
  · exact (hmax.trans (.inc (.inl rfl) _)).trans (.swCause (.inr (.inr (by decide))) _ 9)

theorem LinkFrame.cellSched (d : Dev) (c : FCell) : LinkFrame d (d.cellSched c).1 := by
  unfold Dev.cellSched
  extract_lets k want budget a b
  have hcounted : LinkFrame d b.1 := (LinkFrame.countSched d _ _).trans (.countSched _ _ _)
  clear_value b
  split
  · exact .refl d
  split
  · exact .refl d
  · exact hcounted

theorem LinkFrame.pullFrame (d : Dev) (i : Nat) : LinkFrame d (d.pullFrame i) := by
  refine .of_regs ?_ (by rw [(FabFrame.pullFrame d i).rest])
  simp only [Dev.pullFrame]
  split
  · rfl
  split
  · split
    · rfl
    · split <;> rfl
  · split <;> rfl

theorem LinkFrame.bufDrop (d : Dev) (j : Nat) (loops : Bool) : LinkFrame d (d.bufDrop j loops) := by
  have hdrop := (LinkFrame.inc (f := R.SW_PORT_CNT_BUF_DROP j) (.inl rfl) d).trans (.swCause (f := R.SW_EVT_BUF_DROP) (.inr (.inr (by decide))) _ 2)
  simp only [Dev.bufDrop]
  split
  · exact hdrop.trans (.swCause (.inr (.inr (by decide))) _ 5)
  · exact hdrop

theorem LinkFrame.dropCell (d : Dev) (k : Nat) (c : FCell) : LinkFrame d (d.dropCell k c) := by
  simp only [Dev.dropCell]
  split
  · exact (LinkFrame.bufDrop d _ _).trans (.of_regs rfl)
  split
  · exact .refl d
  split
  · exact (LinkFrame.bufDrop d _ _).trans (.takeCopy _ _)
  · exact (((LinkFrame.bufDrop d _ _).trans (.stopWriting _ _)).trans (.putCell _ _ _)).trans (.editCopy _ _ _)

theorem LinkFrame.writeCell (d : Dev) (k s : Nat) (c : FCell) : LinkFrame d (d.writeCell k s c) := by
  have hseq : LinkFrame d ((d.cellSched c).1.nextSeq c).2 := (LinkFrame.cellSched d c).trans (.of_regs rfl)
  have hcollide (a : Dev) (j : Nat) : LinkFrame a ((a.inc (R.SW_PORT_CNT_SCHED_COLLIDE j)).swCause R.SW_EVT_SCHED_COLLIDE 4) :=
    (LinkFrame.inc (.inl rfl) a).trans (.swCause (.inr (.inr (by decide))) _ 4)
  simp only [Dev.writeCell]
  split
  · exact (LinkFrame.cellSched d c).trans (.dropCell _ _ _)
  · refine LinkFrame.trans ?_ (.putCell _ _ _)
    split
    · refine LinkFrame.trans ?_ (.editCopy _ _ _)
      split
      · exact hseq.trans (hcollide _ _)
      · exact hseq
    · split
      · exact hseq.trans (hcollide _ _)
      · exact hseq

theorem LinkFrame.inputSlot (d : Dev) (s i : Nat) : LinkFrame d (d.inputSlot s i) := by
  have hpull := LinkFrame.pullFrame d i
  simp only [Dev.inputSlot]
  split
  · exact hpull
  split
  · exact (hpull.trans (.setFin _ _ _)).trans (.writeCell _ _ _ _)
  · split
    · split
      · exact hpull.trans (.setFin _ _ _)
      · split
        · exact hpull.trans (.setFin _ _ _)
        · exact (hpull.trans (.setFin _ _ _)).trans (.writeCell _ _ _ _)
    · exact hpull
  · exact hpull

theorem LinkFrame.outputSlot (d : Dev) (s j : Nat) : LinkFrame d (d.outputSlot s j) := by
  unfold Dev.outputSlot
  split
  · exact .refl d
  split
  · exact .refl d
  · exact (LinkFrame.withFab d _).trans (.showSlice _ _)

theorem LinkFrame.fabSlot (d : Dev) (s : Nat) : LinkFrame d (d.fabSlot s) := by
  unfold Dev.fabSlot
  extract_lets js d1 d2
  have h1 : LinkFrame d d1 := .foldl (fun a j => .outputSlot a s j) d _
  have h2 : LinkFrame d1 d2 := .foldl (fun a i => .inputSlot a s i) d1 _
  exact (h1.trans h2).trans (.withFab _ _)

theorem LinkFrame.fabRun (d : Dev) (n k : Nat) : LinkFrame d (d.fabRun n k) := by
  induction k generalizing d with
  | zero => exact .refl d
  | succ k ih =>
    unfold Dev.fabRun
    split
    · split
      · exact (LinkFrame.fabSlot d _).trans (ih _)
      · exact .withFab ..
    · exact .withFab ..

theorem LinkFrame.fabSync (d : Dev) : LinkFrame d d.fabSync := by
  unfold Dev.fabSync
  split
  · exact .fabRun ..
  · exact .refl d

/-! ### Frames that enter (R162, R168, R180 to R184, R225 to R249) -/

theorem LinkFrame.pairCopies (d : Dev) (c : Copy) (dests : List Nat) : LinkFrame d (d.pairCopies c dests).1 := by
  refine List.foldlRecOn (motive := fun a : Dev × List Copy => LinkFrame d a.1) _ _ (.refl d) fun a ha p _ => ?_
  split
  · exact ha
  split
  · exact ha
  · exact ha.trans (.inc (.inl rfl) _)

theorem LinkFrame.queueCopies (d : Dev) (l : List Copy) (feed : Option Nat) : LinkFrame d (d.queueCopies l feed) := by
  simp only [Dev.queueCopies]
  split
  · exact .fabSync d
  · exact ((LinkFrame.fabSync d).trans (.setFin _ _ _)).trans (.withFab _ _)

theorem LinkFrame.copiesOf (d : Dev) (c : Copy) (dests : List Nat) : LinkFrame d (d.copiesOf c dests).1 := by
  unfold Dev.copiesOf
  extract_lets pc own
  have hpairs : LinkFrame d pc.1 := .pairCopies ..
  clear_value pc
  exact hpairs

theorem LinkFrame.enterFrame (d : Dev) (c : Copy) (dests : List Nat) (feed : Option Nat) : LinkFrame d (d.enterFrame c dests feed) := by
  unfold Dev.enterFrame
  extract_lets r n rest looped
  have hcopies : LinkFrame d r.1 := (LinkFrame.inc (f := R.SW_PORT_CNT_FRAMES_IN c.src) (.inl rfl) d).trans (.copiesOf _ _ _)
  clear_value r
  split
  · exact .refl d
  split
  · exact (hcopies.trans (.inc (.inl rfl) _)).trans (.queueCopies _ _ _)
  · exact hcopies.trans (.queueCopies _ _ _)

theorem LinkFrame.supersede {d d' : Dev} {key : Nat} {num : Nat × Nat} {p : Nat} (h : d.supersede key num p = some d') : LinkFrame d d' := by
  unfold Dev.supersede at h
  split at h
  · exact absurd h (by simp)
  · cases h
    exact .foldl (fun a c => .takeCopy a c) d _

theorem LinkFrame.redErr (d : Dev) (p : Nat) : LinkFrame d (d.redErr p) := by
  unfold Dev.redErr
  split
  · next hp => exact .portCause (.inr (.inr ⟨by simp [R.PORT_EVT_RED_ERR], by simp only [R.PORT_EVT_RED_ERR]; omega⟩)) d hp 10
  · exact .refl d

theorem LinkFrame.streamPass (d : Dev) (s n p : Nat) (x : Recov) : LinkFrame d (d.streamPass s n p x) :=
  ((LinkFrame.withNet d _).trans (.inc (.inl rfl) _)).trans (.set (.inl rfl) _ _)

theorem LinkFrame.streamAgain (d : Dev) (s n p : Nat) : LinkFrame d (d.streamAgain s n p).1 := by
  unfold Dev.streamAgain
  split
  · next h => exact (LinkFrame.supersede h).trans (.inc (.inl rfl) _)
  · exact .inc (.inl rfl) d

theorem LinkFrame.vectorRecover (d : Dev) (s n p : Nat) : LinkFrame d (d.vectorRecover s n p).1 := by
  simp only [Dev.vectorRecover]
  split
  · exact .streamPass ..
  split
  · exact (LinkFrame.inc (.inl rfl) d).trans (.redErr _ _)
  split
  · exact .streamAgain ..
  split
  · exact .streamPass ..
  · exact (LinkFrame.streamPass d s n p _).trans (.inc (.inl rfl) _)

theorem LinkFrame.matchRecover (d : Dev) (s n p : Nat) : LinkFrame d (d.matchRecover s n p).1 := by
  unfold Dev.matchRecover
  split
  · exact .streamAgain ..
  · exact .streamPass ..

theorem LinkFrame.streamApply (d : Dev) (s : Nat) (tags : TagOps) (l : List Byte) (p : Nat) : LinkFrame d (d.streamApply s tags l p).1 := by
  simp only [Dev.streamApply]
  split
  · exact .refl d
  · exact .set (.inl rfl) d _
  split
  · exact .inc (.inl rfl) d
  split
  · exact .vectorRecover ..
  · exact .matchRecover ..

theorem LinkFrame.noteFresh (d : Dev) (key : Nat) (num : Nat × Nat) (p lo : Nat) : LinkFrame d (d.noteFresh key num p lo) := .withNet ..

theorem LinkFrame.letIn (d : Dev) (c : Copy) (x : Decision) (l : List Byte) : LinkFrame d (d.letIn c x l) := by
  unfold Dev.letIn
  extract_lets d0 r
  have hstream : LinkFrame d r.1 := by
    unfold r
    split
    · exact (LinkFrame.fabSync d).trans (.streamApply _ _ _ _ _)
    · exact .fabSync d
  clear_value r
  split
  · exact hstream
  · extract_lets d1
    have henter : LinkFrame d d1 := hstream.trans (.enterFrame _ _ _ _)
    clear_value d1
    split
    · split
      · exact henter.trans (.noteFresh _ _ _ _ _)
      · exact henter
    · exact henter

section
variable {p : Nat} (hp : p < 26) (d : Dev)
include hp

/-- A receive error of a port (R224, R267). -/
theorem LinkFrame.rxErr : LinkFrame d (d.portCause p (R.PORT_EVT_RX_ERR p) 1) :=
  .portCause (.inr (.inr ⟨by simp [R.PORT_EVT_RX_ERR], by simp only [R.PORT_EVT_RX_ERR]; omega⟩)) d hp 1

theorem LinkFrame.clip (c : Copy) (m : Nat) : LinkFrame d (d.clip p c m).1 := by
  unfold Dev.clip
  split
  · exact (LinkFrame.inc (.inl rfl) d).trans (.rxErr hp _)
  · exact .refl d

theorem LinkFrame.rxAdmit (c : Copy) : LinkFrame d (d.rxAdmit p c) := by
  simp only [Dev.rxAdmit]
  split
  · split
    · exact .inc (.inl rfl) d
    · exact .refl d
  · exact (LinkFrame.clip hp d _ _).trans (.letIn _ _ _ _)

theorem LinkFrame.rxCount (l : List Byte) (err : Bool) : LinkFrame d (d.rxCount p l err).1 := by
  unfold Dev.rxCount
  extract_lets runt bad d1 d2 d3 d4
  have h1 : LinkFrame d d1 := (LinkFrame.inc (.inl rfl) d).trans (.set (.inl rfl) _ _)
  have hinc (a b : Dev) (c : Bool) (f : Fld) (hf : f.lo = 0) (h : LinkFrame d a) (hb : b = if c then a.inc f else a) : LinkFrame d b := by
    subst hb
    split
    · exact h.trans (.inc (.inl hf) a)
    · exact h
  have h4 := hinc d3 d4 err (R.PORT_CNT_RX_SYMBOL_ERR p) rfl (hinc d2 d3 runt (R.PORT_CNT_RX_RUNT p) rfl (hinc d1 d2 bad (R.PORT_CNT_RX_FCS_ERR p) rfl h1 rfl) rfl) rfl
  dsimp only
  split
  · exact h4.trans (.rxErr hp _)
  · exact h4

omit hp in
theorem LinkFrame.dupPut (k p : Nat) (e : Nat × Nat) : LinkFrame d (d.dupPut k p e) := by
  simp only [Dev.dupPut]
  split
  · exact .withNet ..
  · exact ((LinkFrame.withNet d _).trans (.inc (.inl rfl) _)).trans (.redErr _ _)

omit hp in
theorem LinkFrame.firstOfPair (k p side : Nat) (e : Nat × Nat) {inside : Dev → Dev} (h : ∀ a, LinkFrame a (inside a)) :
    LinkFrame d (d.firstOfPair k p side e inside) := by
  have hsync := LinkFrame.fabSync d
  simp only [Dev.firstOfPair]
  split
  · split
    · next hs => exact ((hsync.trans (.supersede hs)).trans (.inc (.inl rfl) _)).trans (h _)
    · exact hsync.trans (.inc (.inl rfl) _)
  · exact ((hsync.trans (.dupPut _ k p e)).trans (h _)).trans (.noteFresh _ _ _ _ _)

theorem LinkFrame.prpReceive (k side : Nat) (c : Copy) (seq : Nat) : LinkFrame d (d.prpReceive k p side c seq) := by
  simp only [Dev.prpReceive]
  split
  · exact .rxAdmit hp d _
  · exact .firstOfPair d k p side _ fun a => .rxAdmit hp a _

theorem LinkFrame.hsrReceive (k side : Nat) (c : Copy) (seq : Nat) : LinkFrame d (d.hsrReceive k p side c seq) := by
  unfold Dev.hsrReceive
  extract_lets e other way x r c' cls d1
  split
  · exact .inc (.inl rfl) d
  · have hclip : LinkFrame d r.1 := .clip hp d c _
    have hforward : LinkFrame d d1 := by
      unfold d1
      split
      · exact hclip
      · exact (hclip.trans (.withNet _ _)).trans (.enterFrame _ _ _ _)
    clear_value d1
    exact hforward.trans (.firstOfPair d1 k p side _ fun a => .rxAdmit hp a _)

theorem LinkFrame.pairReceive (k : Nat) (c : Copy) : LinkFrame d (d.pairReceive k p c) := by
  have hcount (a b : Fld) (ha : a.lo = 0) (hb : b.lo = 0) (side : Nat) : LinkFrame d (if side = 0 then d.inc a else d.inc b) := by
    split
    · exact .inc (.inl ha) d
    · exact .inc (.inl hb) d
  simp only [Dev.pairReceive]
  split
  · split
    · exact (hcount _ _ rfl rfl _).trans (.prpReceive hp _ _ _ _ _)
    · exact (hcount _ _ rfl rfl _).trans (.rxAdmit hp _ _)
  · split
    · exact (hcount _ _ rfl rfl _).trans (.hsrReceive hp _ _ _ _ _)
    · exact (hcount _ _ rfl rfl _).trans (.inc (.inl rfl) _)

theorem LinkFrame.rxFrame (l : List Byte) (err : Bool) (x : Assy) : LinkFrame d (d.rxFrame p l err x) := by
  unfold Dev.rxFrame
  extract_lets r c
  have hcount : LinkFrame d r.1 := .rxCount hp d l err
  clear_value r
  split
  · exact hcount.trans (.pairReceive hp _ _ _)
  · exact hcount.trans (.rxAdmit hp _ _)

/-! ### A link that goes down (R218, R258) -/

theorem LinkFrame.rideLate : LinkFrame d (d.rideLate p) := by
  have hlate : LinkFrame d ((d.inc (R.RIDE_CNT_LATE p)).portCause p (R.PORT_EVT_RIDE_LATE p) 7) :=
    (LinkFrame.inc (.inr (.inl rfl)) d).trans
      (.portCause (.inr (.inr ⟨by simp [R.PORT_EVT_RIDE_LATE], by simp only [R.PORT_EVT_RIDE_LATE]; omega⟩)) _ hp 7)
  simp only [Dev.rideLate]
  split
  · split
    · exact hlate.trans (.withNet _ _)
    · exact hlate
  · exact hlate

theorem LinkFrame.rideFinish (cut : Bool) : LinkFrame d (d.rideFinish p cut) := by
  unfold Dev.rideFinish
  extract_lets out late d1
  have h1 : LinkFrame d d1 := .foldl (fun a _ => .rideLate hp a) d _
  clear_value d1
  split
  · exact h1
  · extract_lets d2 d3 d4 d5 d6 bytes
    have h2 : LinkFrame d d2 := (h1.trans (.withNet _ _)).trans (.rxCount hp _ _ _)
    have hinc (a b : Dev) (c : Bool) (f : Fld) (hf : f.lo = 0 ∨ f.lo = 16) (h : LinkFrame d a) (hb : b = if c then a.inc f else a) : LinkFrame d b := by
      subst hb
      split
      · exact h.trans (.inc (hf.imp id .inl) a)
      · exact h
    have h4 := hinc d3 d4 _ (R.RIDE_CNT_LEN_ERR p) (.inl rfl) (hinc d2 d3 _ (R.RIDE_NOLEN p) (.inr rfl) h2 rfl) rfl
    have h5 := hinc d4 d5 cut (R.PORT_CNT_TX_LINK_DROP out) (.inl rfl) h4 rfl
    have h6 : LinkFrame d d6 := by
      unfold d6
      split
      · exact h5.trans (.portCause (.inr (.inr ⟨by simp [R.PORT_EVT_LEN_ERR], by simp only [R.PORT_EVT_LEN_ERR]; omega⟩)) _ hp 8)
      · exact h5
    clear_value d6
    exact ((h6.trans (.inc (.inl rfl) _)).trans (.set (.inl rfl) _ _)).trans (.of_regs rfl)

theorem LinkFrame.rxCut : LinkFrame d (d.rxCut p) := by
  unfold Dev.rxCut
  extract_lets d0 ids d1 d2
  have h0 : LinkFrame d d0 := (LinkFrame.rideFinish hp d true).trans (.fabSync _)
  have h1 : LinkFrame d d1 := h0.trans (.foldl (fun a k => .editCopy a k _) _ _)
  have h2 : LinkFrame d d2 := by
    unfold d2
    split
    · exact h1
    · exact h1.trans (.rxErr hp _)
  clear_value d2
  split
  · exact (h2.trans (.withNet _ _)).trans (.rxFrame hp _ _ _ _)
  · exact h2

omit hp in
theorem LinkFrame.endTx (j : Nat) : LinkFrame d (d.endTx j) := by
  unfold Dev.endTx
  split
  · exact .refl d
  · exact (LinkFrame.withFab d _).trans (.takeCopy _ _)

theorem LinkFrame.setLink (up : Bool) : LinkFrame d (d.setLink p up) := by
  unfold Dev.setLink
  split
  · exact .refl d
  · exact (LinkFrame.set (.inl rfl) d _).trans
      (.portCause (.inl rfl) _ hp 0)

omit hp in
theorem LinkFrame.verifyStart : LinkFrame d (d.verifyStart p) := by
  unfold Dev.verifyStart
  split
  · exact .set (.inl rfl) d 0
  split
  · exact (LinkFrame.set (.inl rfl) d 2).trans (.of_regs rfl)
  · exact .set (.inl rfl) d 1

theorem LinkFrame.linkDown (fail : Nat) : LinkFrame d (d.linkDown p fail) := by
  have hstatus (a : Dev) (f : Fld) (v : Nat) (hf : f.addr = 0xD0004 + p * 0x800 ∧ f.lo < 32) : LinkFrame a (a.set f v) :=
    .set (.inr (.inr ⟨hf.2, by omega⟩)) a v
  unfold Dev.linkDown
  extract_lets d1 d2
  have h1 : LinkFrame d d1 := ((((LinkFrame.rxCut hp d).trans (hstatus _ (R.PORT_STATUS_FAIL p) fail ⟨rfl, by simp [R.PORT_STATUS_FAIL]⟩)).trans
    (hstatus _ (R.PORT_STATUS_AN_DONE p) 0 ⟨rfl, by simp [R.PORT_STATUS_AN_DONE]⟩)).trans
    (hstatus _ (R.PORT_STATUS_LPI_TX p) 0 ⟨rfl, by simp [R.PORT_STATUS_LPI_TX]⟩)).trans
    (hstatus _ (R.PORT_STATUS_LPI_RX p) 0 ⟨rfl, by simp [R.PORT_STATUS_LPI_RX]⟩)
  have h2 : LinkFrame d d2 := by
    unfold d2
    split
    · exact (h1.trans (.withFab _ _)).trans (.takeCopy _ _)
    · exact h1
  clear_value d2
  exact ((h2.trans (.setLink hp _ false)).trans (.endTx _ p)).trans (.verifyStart _)

end

theorem LinkFrame.domainLinks (d : Dev) (x : Nat) : LinkFrame d (d.domainLinks x) := by
  refine List.foldlRecOn (motive := LinkFrame d) _ _ (.refl d) fun a ha p hp => ?_
  have hp' := List.mem_range.mp hp
  split
  · split
    · exact ha.trans (.linkDown hp' a 0)
    · exact ha
  · exact ha

end Sys2Proof.Machine
end

section
/-! PROOFS. The power domains (R626 to R630, R651). -/

namespace Sys2Proof.Machine
open Sys2Proof Sys2Proof.Safety

/-! ### Events and the power unit (R394, R630, R649) -/

/-- The lines of engine `i` that are latched, or will be as its domain leaves DOZE. -/
def Dev.lines (d : Dev) (i : Nat) : BitVec 32 := (d.engine i).evPend ||| (d.engine i).dozed

/-- From `d` to `d'` an event came and fields of a list changed: no transition of a domain begins or ends, and no latched line is lost. -/
structure DozeFrame (fs : List Fld) (d d' : Dev) : Prop where
  get : ∀ g : Fld, block g ≠ 3 → (∀ f ∈ fs, g.key ≠ f.key) → d'.get g = d.get g
  rest : d' = { d with regs := d'.regs, out := d'.out, eng := d'.eng, pwr := d'.pwr }
  moves : d'.pwr.moves = d.pwr.moves
  engine : ∀ i, KeepsEngine i d d'
  lines : ∀ i, d'.lines i &&& d.lines i = d.lines i

section
variable {fs : List Fld}

theorem DozeFrame.trans {a b c : Dev} (h1 : DozeFrame fs a b) (h2 : DozeFrame fs b c) : DozeFrame fs a c where
  get g hb hg := (h2.get g hb hg).trans (h1.get g hb hg)
  rest := by rw [h2.rest, h1.rest]
  moves := h2.moves.trans h1.moves
  engine i := (h1.engine i).trans (h2.engine i)
  lines i := by rw [← h1.lines i, ← BitVec.and_assoc, h2.lines i]

theorem DozeFrame.of_eng {d d' : Dev} (h : EventFrame d d') (heng : d'.eng = d.eng) (hmoves : d'.pwr.moves = d.pwr.moves) : DozeFrame fs d d' where
  get g hb _ := h.get g hb
  rest := h.rest
  moves := hmoves
  engine i := .of_eq (by rw [Dev.engine, heng, Dev.engine])
  lines i := by rw [Dev.lines, Dev.engine, heng]; exact BitVec.and_self

theorem DozeFrame.refl (d : Dev) : DozeFrame fs d d := .of_eng (.refl d) rfl rfl

theorem DozeFrame.set (d : Dev) (f : Fld) (v : Nat) (h : f ∈ fs ∨ block f = 3) : DozeFrame fs d (d.set f v) where
  get g hb hg := Dev.get_set_ne _ _ _ _ fun hkey => h.elim (fun hf => hg f hf hkey) (fun hf => hb (by rw [← hf, block, hkey, block]))
  rest := rfl
  moves := rfl
  engine i := .of_eq rfl
  lines i := BitVec.and_self

theorem DozeFrame.setLines (d : Dev) (e : Nat) (pend dozed : BitVec 32) (h : (pend ||| dozed) &&& d.lines e = d.lines e) :
    DozeFrame fs d (d.setEngine e { d.engine e with evPend := pend, dozed := dozed }) where
  get _ _ _ := rfl
  rest := rfl
  moves := rfl
  engine := (LineFrame.setLines d e pend dozed).engine
  lines i := by
    by_cases hi : i = e
    · subst hi
      rw [Dev.lines, Dev.engine_setEngine_same]
      exact h
    · rw [Dev.lines, Dev.engine_setEngine_ne _ _ _ _ hi]
      exact BitVec.and_self

theorem DozeFrame.dozeWakeFor (d : Dev) (t : Nat) : DozeFrame fs d (d.dozeWakeFor t) :=
  .of_eng (.dozeWakeFor d t) (by unfold Dev.dozeWakeFor; split <;> rfl) (by unfold Dev.dozeWakeFor; split <;> rfl)

theorem DozeFrame.latchLine (d : Dev) (e l : Nat) : DozeFrame fs d (d.latchLine e l) := by
  unfold Dev.latchLine
  extract_lets x m d1
  have h1 : DozeFrame fs d d1 := .setLines d e x.evPend (x.dozed ||| m) (by ext j; simp [Dev.lines, x]; grind)
  split
  · split
    · exact h1.trans (.dozeWakeFor _ _)
    · exact h1
  · exact .setLines d e (x.evPend ||| m) x.dozed (by ext j; simp [Dev.lines, x]; grind)

theorem DozeFrame.deliver (d : Dev) (i : Nat) : DozeFrame fs d (d.deliver i) := by
  unfold Dev.deliver
  split
  · exact .of_eng (.msix _ _) (by unfold Dev.msix; split <;> rfl) (by unfold Dev.msix; split <;> rfl)
  · exact .latchLine _ _ _
  · exact .refl d

theorem DozeFrame.raise (d : Dev) {i : Nat} (hi : i < 256) : DozeFrame fs d (d.raise i) := by
  have h1 : block (R.EV_STATUS (i / 32)) = 3 := by simp only [block, Fld.key, R.EV_STATUS]; omega
  have h2 : block (R.EV_CFG_CNT i) = 3 := by simp only [block, Fld.key, R.EV_CFG_CNT]; omega
  simp only [Dev.raise]
  split
  · exact ((DozeFrame.set d _ _ (.inr h1)).trans (.set _ _ _ (.inr h2))).trans (.deliver _ _)
  · exact (DozeFrame.set d _ _ (.inr h1)).trans (.set _ _ _ (.inr h2))

theorem DozeFrame.cause (d : Dev) {f : Fld} (hf : f ∈ fs) (en : Bool) {ev : Nat} (hev : ev < 256) : DozeFrame fs d (d.cause f en ev) := by
  simp only [Dev.cause]
  split
  · exact (DozeFrame.set d f 1 (.inl hf)).trans (.raise _ hev)
  · exact .set d f 1 (.inl hf)

/-- A cause of `SLP_EVT` (R649). -/
theorem DozeFrame.slpEvent (d : Dev) (hf : R.SLP_EVT ∈ fs) {b : Nat} (hb : b < 8) : DozeFrame fs d (d.slpEvent b) := by
  simp only [Dev.slpEvent]
  split
  · exact (DozeFrame.set d _ _ (.inl hf)).trans (.raise _ (by omega))
  · exact .set d _ _ (.inl hf)

/-- A reserved write that is recorded (R8, R697). -/
theorem DozeFrame.rsvWrite (d : Dev) (w : Writer) (off : Nat)
    (hf : ∀ f ∈ [R.SYS_RSV_INFO_MAP, R.SYS_RSV_INFO_AGENT, R.SYS_RSV_INFO_OFFSET, R.SYS_DIAG_REG_RSV_WRITE], f ∈ fs) :
    DozeFrame fs d (d.rsvWrite w off) := by
  simp only [Dev.rsvWrite, Dev.rsvWriteMap]
  refine DozeFrame.trans ?_ (.cause _ (hf _ (by simp)) _ (by decide))
  split
  · exact .refl d
  · exact ((DozeFrame.set d _ _ (.inl (hf _ (by simp)))).trans (.set _ _ _ (.inl (hf _ (by simp))))).trans (.set _ _ _ (.inl (hf _ (by simp))))

theorem DozeFrame.onlyRegsEv {s : State} {d' : Dev} (h : DozeFrame fs s.dev d') : OnlyRegsEv fs s (s.on fun _ => d') := ⟨rfl, rfl, h.get, h.rest⟩

end

/-- The bit of a cause is set in `SLP_EVT`. -/
theorem Dev.slpEvent_bit (d : Dev) {b : Nat} (hb : b < 8) : ((d.slpEvent b).get R.SLP_EVT).testBit b = true := by
  have hset : (d.set R.SLP_EVT (d.get R.SLP_EVT ||| 2 ^ b)).get R.SLP_EVT = (d.get R.SLP_EVT ||| 2 ^ b) % 2 ^ 8 := Dev.get_set_same ..
  have hget : (d.slpEvent b).get R.SLP_EVT = (d.set R.SLP_EVT (d.get R.SLP_EVT ||| 2 ^ b)).get R.SLP_EVT := by
    simp only [Dev.slpEvent]
    split
    · exact (EventFrame.raise _ _ (by omega)).get _ (by decide)
    · rfl
  rw [hget, hset, Nat.testBit_mod_two_pow, Nat.testBit_or, Nat.testBit_two_pow_self]
  simp [hb]

/-! ### The state of a domain (R627) -/

/-- Where the registers of the domains lie (R651, R652). -/
theorem powerKeys (k : Nat) : (R.PWR_DOMAIN_STATE k).key = 0x1C00008 + k * 0x80 ∧ (R.PWR_DOMAIN_REQ k).key = 0x1C00000 + k * 0x80 ∧
    R.SLP_EVT.key = 0x1C02300 := by
  simp only [Fld.key, R.PWR_DOMAIN_STATE, R.PWR_DOMAIN_REQ, R.SLP_EVT, and_true]
  omega

section
variable (d : Dev) {x st : Nat}

theorem Dev.domain_set_same (hst : st < 4) : (d.set (R.PWR_DOMAIN_STATE x) st).domain x = st := Dev.get_set_of_lt _ _ hst

theorem Dev.domain_set_ne {k : Nat} (h : k ≠ x) : (d.set (R.PWR_DOMAIN_STATE x) st).domain k = d.domain k :=
  Dev.get_set_ne _ _ _ _ (by have := powerKeys k; have := powerKeys x; omega)

theorem Dev.domain_setReq (k v : Nat) : (d.set (R.PWR_DOMAIN_REQ x) v).domain k = d.domain k :=
  Dev.get_set_ne _ _ _ _ (by have := powerKeys k; have := powerKeys x; omega)

theorem KeepsDomains.slpEvent {b : Nat} (hb : b < 8) : KeepsDomains d (d.slpEvent b) :=
  ⟨fun k => (DozeFrame.slpEvent (fs := [R.SLP_EVT]) d (by simp) hb).get _ (by have := powerKeys k; unfold block; omega)
    (by have := powerKeys k; simp only [List.mem_singleton, forall_eq]; omega)⟩

theorem Dev.setDomain_same (hst : st < 4) : (d.setDomain x st).domain x = st := by
  unfold Dev.setDomain
  split
  · assumption
  · exact ((KeepsDomains.slpEvent _ (by decide)).domain x).trans (d.domain_set_same hst)

theorem Dev.setDomain_ne {k : Nat} (h : k ≠ x) : (d.setDomain x st).domain k = d.domain k := by
  unfold Dev.setDomain
  split
  · rfl
  · exact ((KeepsDomains.slpEvent _ (by decide)).domain k).trans (d.domain_set_ne h)

theorem DozeFrame.setDomain {fs : List Fld} (hstate : R.PWR_DOMAIN_STATE x ∈ fs) (hevt : R.SLP_EVT ∈ fs) : DozeFrame fs d (d.setDomain x st) := by
  unfold Dev.setDomain
  split
  · exact .refl d
  · exact (DozeFrame.set d _ _ (.inl hstate)).trans (.slpEvent _ hevt (by decide))

theorem Dev.setDomain_frame : DozeFrame [R.PWR_DOMAIN_STATE x, R.SLP_EVT] d (d.setDomain x st) := .setDomain d (by simp) (by simp)

theorem Dev.setDomain_req {k : Nat} (hk : k < 9) : (d.setDomain x st).get (R.PWR_DOMAIN_REQ k) = d.get (R.PWR_DOMAIN_REQ k) :=
  d.setDomain_frame.get _ (by have := powerKeys k; unfold block; omega)
    (by have := powerKeys k; have := powerKeys x; simp only [List.mem_cons, List.not_mem_nil, or_false, forall_eq_or_imp, forall_eq]; omega)

/-! ### A transition that begins (R627) -/

theorem Dev.moveDomain_same : (d.moveDomain x st).domain x = 2 := d.setDomain_same (by decide)

theorem Dev.moveDomain_ne {k : Nat} (h : k ≠ x) : (d.moveDomain x st).domain k = d.domain k := d.setDomain_ne h

theorem Dev.moveDomain_req {k : Nat} (hk : k < 9) : (d.moveDomain x st).get (R.PWR_DOMAIN_REQ k) = d.get (R.PWR_DOMAIN_REQ k) := d.setDomain_req hk

theorem Dev.moveDomain_moves : (d.moveDomain x st).pwr.moves = d.pwr.moves.put x st :=
  congrArg (fun l => Tab.put l x st) (d.setDomain_frame (x := x) (st := 2)).moves

theorem OnlyRegsEv.moveDomain (s : State) : OnlyRegsEv [R.PWR_DOMAIN_STATE x, R.SLP_EVT] s (s.on fun d => d.moveDomain x st) := by
  have hset := (s.dev.setDomain_frame (x := x) (st := 2))
  refine ⟨rfl, rfl, hset.get, ?_⟩
  have hrest := hset.rest
  simp only [State.on, Dev.moveDomain, Dev.withPwr]
  rw [hrest]

end

/-! ### A write of PWR_DOMAIN (R627 to R630, R651) -/

section
variable {d : Dev} {w : Writer} {x v : Nat} (hv : v &&& 0xFFFFFCFC = 0)
include hv

/-- AON and CORE ignore REQ. -/
theorem Dev.domainWrite_fixed (hx : x < 2) : d.domainWrite w x v = d := by
  simp [Dev.domainWrite, hv, hx, Dev.rsvIf_false]

theorem Dev.domainWrite_reserved (hx : 2 ≤ x) (hr : v % 4 = 3 ∨ (v % 4 = 2 ∧ (x < 3 ∨ 6 < x))) :
    d.domainWrite w x v = d.rsvWrite w (0xE0000 + x * 4) := by
  simp only [Dev.domainWrite, hv, if_neg (Nat.not_lt.mpr hx), if_pos hr]
  rfl

theorem Dev.domainWrite_request (hx : 2 ≤ x) (hr : ¬ (v % 4 = 3 ∨ (v % 4 = 2 ∧ (x < 3 ∨ 6 < x))))
    (hnew : ¬ (v % 4 = d.get (R.PWR_DOMAIN_REQ x) ∧ (d.domain x ≠ 3 ∨ v % 4 ≠ 1))) : d.domainWrite w x v = (d.domainRequest x (v % 4)).1 := by
  simp only [Dev.domainWrite, hv, if_neg (Nat.not_lt.mpr hx), if_neg hr, if_neg hnew]
  rfl

end

theorem exec_domainRequest {w : Writer} {d : Fin 9} {v : W32} {s : State} (hw : Grants s w (R.PWR_DOMAIN_REQ d)) :
    exec (.domainRequest w d v) s = .next (s.on fun _ => s.dev.domainWrite w d v.toNat) :=
  State.gate_next hw (by simp only [R.PWR_DOMAIN_REQ])

/-- Whether a domain may be switched off (R628): it is not used, and FABRIC is not needed by a domain that is not OFF. -/
def Dev.mayOff (d : Dev) (x : Nat) : Prop := d.domainUsed x = false ∧ (x = 2 → ∀ i < 6, d.domain (3 + i) = 0)

section
variable {d : Dev} {x : Nat}

theorem Dev.domainRequest_off (hoff : d.mayOff x) (hst : d.domain x ≠ 0) :
    (d.domainRequest x 0).1 = (d.set (R.PWR_DOMAIN_REQ x) 0).moveDomain x 0 := by
  obtain ⟨hused, hneed⟩ := hoff
  have hfree : ((x == 2 && (List.range 6).any (fun i => d.domain (3 + i) != 0)) || d.domainUsed x) = false := by
    simpa [hused] using hneed
  simp only [Dev.domainRequest, hfree, if_neg hst]
  rfl

theorem Dev.domainRequest_off_refused (h : d.domainUsed x = true ∨ (x = 2 ∧ ∃ i < 6, d.domain (3 + i) ≠ 0)) :
    (d.domainRequest x 0).1 = d.slpEvent 7 := by
  have hfree : ((x == 2 && (List.range 6).any (fun i => d.domain (3 + i) != 0)) || d.domainUsed x) = true := by
    simpa [or_comm] using h
  simp only [Dev.domainRequest, hfree]
  rfl

/-- The device in which a domain that is OFF is requested on: FABRIC is powered up before it when it is OFF (R627). -/
def Dev.fabricUp (d : Dev) (x : Nat) : Dev :=
  if x ≠ 2 ∧ d.domain 2 = 0 then ((d.set (R.PWR_DOMAIN_REQ x) 1).set (R.PWR_DOMAIN_REQ 2) 1).moveDomain 2 1 else d.set (R.PWR_DOMAIN_REQ x) 1

theorem Dev.domainRequest_on (h : d.domain x = 0) : (d.domainRequest x 1).1 = (d.fabricUp x).moveDomain x 1 := by
  simp only [Dev.domainRequest, h]
  rfl

theorem Dev.domainRequest_wake (h : d.domain x = 3) : (d.domainRequest x 1).1 = (d.set (R.PWR_DOMAIN_REQ x) 1).dozeWakeFor (x - 3) := by
  simp only [Dev.domainRequest, h]
  rfl

theorem Dev.domainRequest_doze (h : d.domain x = 1) (hdoze : d.mayDoze x = true) :
    (d.domainRequest x 2).1 = (d.set (R.PWR_DOMAIN_REQ x) 2).moveDomain x 3 := by
  simp only [Dev.domainRequest, h, hdoze]
  rfl

theorem Dev.domainRequest_doze_refused (h3 : d.domain x ≠ 3) (h : d.domain x ≠ 1 ∨ d.mayDoze x = false) : (d.domainRequest x 2).1 = d.slpEvent 7 := by
  simp only [Dev.domainRequest, if_neg h3, if_pos h]

end

/-- A refused request sets CFG_REJ and nothing else (R628, R629). -/
theorem exec_domainRequest_refused {c : Instr} {s : State} {d' : Dev} (hexec : exec c s = .next (s.on fun _ => d')) (h : d' = s.dev.slpEvent 7) :
    ∃ t, exec c s = .next t ∧ (t.dev.get R.SLP_EVT).testBit 7 = true ∧ OnlyRegsEv [R.SLP_EVT] s t := by
  subst h
  exact ⟨_, hexec, s.dev.slpEvent_bit (by decide), (DozeFrame.slpEvent _ (by simp) (by decide)).onlyRegsEv⟩

/-- A domain that is requested on reads REQ 1 and begins its transition to ON, and so does FABRIC when it is OFF (R627). -/
theorem Dev.requestOn_effect (d : Dev) {x : Nat} (hx9 : x < 9) :
    ((d.fabricUp x).moveDomain x 1).domain x = 2 ∧ ((d.fabricUp x).moveDomain x 1).get (R.PWR_DOMAIN_REQ x) = 1 ∧
    Tab.find? ((d.fabricUp x).moveDomain x 1).pwr.moves x = some 1 ∧
    (x ≠ 2 → d.domain 2 = 0 → ((d.fabricUp x).moveDomain x 1).domain 2 = 2 ∧ ((d.fabricUp x).moveDomain x 1).get (R.PWR_DOMAIN_REQ 2) = 1 ∧
      Tab.find? ((d.fabricUp x).moveDomain x 1).pwr.moves 2 = some 1) ∧
    (d.domain 2 ≠ 0 → x ≠ 2 → ((d.fabricUp x).moveDomain x 1).domain 2 = d.domain 2) := by
  have hreq (d : Dev) (k : Nat) : (d.set (R.PWR_DOMAIN_REQ k) 1).get (R.PWR_DOMAIN_REQ k) = 1 := Dev.get_set_same ..
  refine ⟨Dev.moveDomain_same _, ?_, ?_, fun hx h2 => ?_, fun h2 hx => ?_⟩
  · rw [Dev.moveDomain_req _ hx9, Dev.fabricUp]
    split
    · next h =>
      rw [Dev.moveDomain_req _ hx9, Dev.get_set_ne _ _ _ _ (by have := powerKeys x; have := powerKeys 2; omega), hreq]
    · exact hreq ..
  · rw [Dev.moveDomain_moves, Tab.find?_put_same]
  · rw [Dev.moveDomain_ne _ (Ne.symm hx), Dev.moveDomain_req _ (by decide), Dev.moveDomain_moves, Tab.find?_put_ne _ _ _ _ (Ne.symm hx), Dev.fabricUp,
      if_pos ⟨hx, h2⟩, Dev.moveDomain_same, Dev.moveDomain_req _ (by decide), Dev.moveDomain_moves, Tab.find?_put_same, hreq]
    exact ⟨rfl, rfl, rfl⟩
  · rw [Dev.moveDomain_ne _ (Ne.symm hx), Dev.fabricUp, if_neg fun h => h2 h.2, Dev.domain_setReq]

/-! ### The engines of a TEAM domain (R629, R630) -/

/-- What an engine holds, with its state. -/
def Dev.engineState (d : Dev) (e : Nat) : EngSt × Nat := (d.engine e, d.engState e)

theorem Dev.engState_set_ne (d : Dev) {e i : Nat} (v : Nat) (h : i ≠ e) : (d.set (R.ENG_STATUS_STATE e) v).engState i = d.engState i :=
  Dev.get_set_ne _ _ _ _ (by simp only [Fld.key, R.ENG_STATUS_STATE]; omega)

theorem Dev.engineState_update_same (d : Dev) (e : Nat) (x : EngSt) {v : Nat} (hv : v < 16) :
    ((d.setEngine e x).set (R.ENG_STATUS_STATE e) v).engineState e = (x, v) :=
  Prod.ext (Dev.engine_setEngine_same ..) (Dev.get_set_of_lt _ _ hv)

theorem Dev.engineState_update_ne (d : Dev) {e i : Nat} (x : EngSt) (v : Nat) (h : i ≠ e) :
    ((d.setEngine e x).set (R.ENG_STATUS_STATE e) v).engineState i = d.engineState i :=
  Prod.ext (Dev.engine_setEngine_ne _ _ _ _ h) (Dev.engState_set_ne _ _ h)

/-- An update of one engine after the other: each is what its own update makes of it. -/
theorem Dev.engineState_foldl {f : Dev → Nat → Dev} {i : Nat} (hne : ∀ a e, i ≠ e → (f a e).engineState i = a.engineState i)
    {l : List Nat} (hl : l.Nodup) (hi : i ∈ l) {g : EngSt × Nat → EngSt × Nat} (hsame : ∀ a, (f a i).engineState i = g (a.engineState i)) (d : Dev) :
    (l.foldl f d).engineState i = g (d.engineState i) := by
  have hkeep (l : List Nat) (h : i ∉ l) (d : Dev) : (l.foldl f d).engineState i = d.engineState i :=
    List.foldlRecOn (motive := fun a => a.engineState i = d.engineState i) _ _ rfl
      fun a ha e he => (hne a e fun h' => h (h' ▸ he)).trans ha
  induction l generalizing d with
  | nil => exact absurd hi (by simp)
  | cons e l ih =>
    obtain ⟨hel, hl⟩ := List.nodup_cons.mp hl
    rw [List.foldl_cons]
    rcases List.mem_cons.mp hi with rfl | hi
    · rw [hkeep l hel, hsame]
    · rw [ih hl hi, hne d e fun h => hel (h ▸ hi)]

/-- The engines of team `t`. -/
def teamEngines (t : Nat) : List Nat := (List.range 12).map (fun i => t * 12 + i)

theorem teamEngines_nodup (t : Nat) : (teamEngines t).Nodup := (List.nodup_range).map fun a b h => by simpa using h

theorem mem_teamEngines {t e : Nat} : e ∈ teamEngines t ↔ t * 12 ≤ e ∧ e < t * 12 + 12 := by
  simp only [teamEngines, List.mem_map, List.mem_range]
  constructor
  · rintro ⟨i, hi, rfl⟩; omega
  · intro h; exact ⟨e - t * 12, by omega, by omega⟩

/-- From `d` to `d'` every register from the power domains on keeps its value (R15). -/
structure PowerFrame (d d' : Dev) : Prop where
  get : ∀ g : Fld, 0x1C00000 ≤ g.key → d'.get g = d.get g

theorem PowerFrame.trans {a b c : Dev} (h1 : PowerFrame a b) (h2 : PowerFrame b c) : PowerFrame a c :=
  ⟨fun g hg => (h2.get g hg).trans (h1.get g hg)⟩

theorem PowerFrame.of_regs {d d' : Dev} (h : d'.regs = d.regs) : PowerFrame d d' := ⟨fun _ _ => Dev.get_congr h _⟩

theorem PowerFrame.set (d : Dev) {f : Fld} (hf : f.key < 0x1C00000) (v : Nat) : PowerFrame d (d.set f v) :=
  ⟨fun _ hg => Dev.get_set_ne _ _ _ _ (by omega)⟩

theorem PowerFrame.event {d d' : Dev} (h : EventFrame d d') : PowerFrame d d' := ⟨fun g hg => h.get g (by unfold block; omega)⟩

theorem PowerFrame.domains {d d' : Dev} (h : PowerFrame d d') : KeepsDomains d d' := ⟨fun k => h.get _ (by have := powerKeys k; omega)⟩

theorem PowerFrame.setEngState (d : Dev) {e : Nat} (he : e < 48) (v : Nat) : PowerFrame d (d.set (R.ENG_STATUS_STATE e) v) :=
  .set d (by simp only [Fld.key, R.ENG_STATUS_STATE]; omega) v

/-- An engine is changed and takes a state. -/
theorem PowerFrame.updateEngine (d : Dev) {e : Nat} (he : e < 48) (x : EngSt) (v : Nat) : PowerFrame d ((d.setEngine e x).set (R.ENG_STATUS_STATE e) v) :=
  (PowerFrame.of_regs (d := d) (d' := d.setEngine e x) rfl).trans (.setEngState _ he v)

theorem PowerFrame.team {f : Dev → Nat → Dev} {t : Nat} (ht : t < 4) (h : ∀ a e, e < 48 → PowerFrame a (f a e)) (d : Dev) :
    PowerFrame d ((teamEngines t).foldl f d) :=
  List.foldlRecOn (motive := PowerFrame d) _ _ (.of_regs rfl) fun a ha e he => ha.trans (h a e (by have := mem_teamEngines.mp he; omega))

/-- An engine loses its power (R382). -/
def Dev.offEngine (a : Dev) (e : Nat) : Dev := (a.setEngine e {}).set (R.ENG_STATUS_STATE e) 0

/-- An engine is made IDLE (R627). -/
def Dev.idleEngine (a : Dev) (e : Nat) : Dev := a.set (R.ENG_STATUS_STATE e) 1

/-- What an engine that enters DOZE holds, with its state (R629). -/
def dozing (x : EngSt × Nat) : EngSt × Nat := ({ x.1 with saved := x.2, dozed := 0 }, 7)

/-- An engine enters DOZE: its state is held (R629). -/
def Dev.dozeEngine (a : Dev) (e : Nat) : Dev := (a.setEngine e { a.engine e with saved := a.engState e, dozed := 0 }).set (R.ENG_STATUS_STATE e) 7

section
variable (a d : Dev) {t e i : Nat}

theorem Dev.offEngine_same : (a.offEngine e).engineState e = ({}, 0) := Dev.engineState_update_same a e {} (by decide)

theorem Dev.offEngine_ne (h : i ≠ e) : (a.offEngine e).engineState i = a.engineState i := Dev.engineState_update_ne a _ _ h

theorem Dev.idleEngine_same : (a.idleEngine e).engineState e = (a.engine e, 1) :=
  Prod.ext rfl (Dev.get_set_of_lt a (R.ENG_STATUS_STATE e) (v := 1) (by simp [R.ENG_STATUS_STATE]))

theorem Dev.idleEngine_ne (h : i ≠ e) : (a.idleEngine e).engineState i = a.engineState i := Prod.ext rfl (Dev.engState_set_ne a 1 h)

theorem Dev.dozeEngine_same : (a.dozeEngine e).engineState e = dozing (a.engineState e) := by
  unfold Dev.dozeEngine
  exact Dev.engineState_update_same a e _ (by decide)

theorem Dev.dozeEngine_ne (h : i ≠ e) : (a.dozeEngine e).engineState i = a.engineState i := by
  unfold Dev.dozeEngine
  exact Dev.engineState_update_ne a _ _ h

theorem Dev.teamOff_engine (he : e ∈ teamEngines t) : ((teamEngines t).foldl Dev.offEngine d).engineState e = ({}, 0) :=
  Dev.engineState_foldl (f := Dev.offEngine) (fun a _ h => a.offEngine_ne h) (teamEngines_nodup t) he (g := fun _ => ({}, 0)) (fun a => a.offEngine_same) d

theorem Dev.teamIdle_engine (he : e ∈ teamEngines t) : ((teamEngines t).foldl Dev.idleEngine d).engineState e = (d.engine e, 1) :=
  Dev.engineState_foldl (f := Dev.idleEngine) (fun a _ h => a.idleEngine_ne h) (teamEngines_nodup t) he (g := fun x => (x.1, 1))
    (fun a => a.idleEngine_same) d

theorem Dev.teamDoze_engine (he : e ∈ teamEngines t) :
    ((teamEngines t).foldl Dev.dozeEngine d).engineState e = dozing (d.engineState e) :=
  Dev.engineState_foldl (f := Dev.dozeEngine) (fun a _ h => a.dozeEngine_ne h) (teamEngines_nodup t) he (fun a => a.dozeEngine_same) d

theorem Dev.teamDoze_saved (he : e ∈ teamEngines t) : ((teamEngines t).foldl Dev.dozeEngine d).engState e = 7 ∧
    (((teamEngines t).foldl Dev.dozeEngine d).engine e).saved = d.engState e := by
  have h := d.teamDoze_engine he
  generalize (teamEngines t).foldl Dev.dozeEngine d = a at h
  exact ⟨congrArg Prod.snd h, congrArg (fun y : EngSt × Nat => y.1.saved) h⟩

theorem PowerFrame.teamOff (ht : t < 4) : PowerFrame d ((teamEngines t).foldl Dev.offEngine d) :=
  .team (f := Dev.offEngine) ht (fun a _ he => .updateEngine a he {} 0) d

theorem PowerFrame.teamIdle (ht : t < 4) : PowerFrame d ((teamEngines t).foldl Dev.idleEngine d) :=
  .team (f := Dev.idleEngine) ht (fun a _ he => .setEngState a he 1) d

theorem PowerFrame.teamDoze (ht : t < 4) : PowerFrame d ((teamEngines t).foldl Dev.dozeEngine d) :=
  .team (f := Dev.dozeEngine) ht (fun a _ he => .updateEngine a he _ 7) d

end

theorem Dev.teamDoze_eq (d : Dev) (x : Nat) : d.teamDoze x = (teamEngines (x - 3)).foldl Dev.dozeEngine d := rfl

theorem State.teamOff_dev (s : State) (x : Nat) : (s.teamOff x).dev = (teamEngines (x - 3)).foldl Dev.offEngine s.dev := rfl

theorem State.teamOff_mem (s : State) (x : Nat) : (s.teamOff x).mem = Mem.clearRange s.mem (engBase ((x - 3) * 12)) (12 * 0x20000) := rfl

theorem State.teamOff_byte (s : State) {x e a : Nat} (he : e ∈ teamEngines (x - 3)) (ha : a < 0x20000) :
    Mem.byte (s.teamOff x).mem (engBase e + a) = 0 := by
  have hrange := mem_teamEngines.mp he
  rw [State.teamOff_mem, Mem.byte_clearRange, if_pos]
  unfold engBase
  omega

end Sys2Proof.Machine
end

section
/-! PROOFS. The ends of the transitions of the power domains, and the wake from DOZE (R572, R627 to R630). -/

namespace Sys2Proof.Machine
open Sys2Proof Sys2Proof.Safety

/-! ### A transition that ends (R627 to R629) -/

theorem Tab.find?_filter {α : Type} (t : Tab α) {p : Nat × α → Bool} {k : Nat} (h : ∀ v, p (k, v) = true) :
    Tab.find? (t.filter p) k = Tab.find? t k := by
  induction t with
  | nil => rfl
  | cons e r ih =>
    obtain ⟨k', v⟩ := e
    by_cases hk : k' = k
    · subst hk; simp [h, Tab.find?]
    · by_cases hp : p (k', v) = true
      · simp [hp, Tab.find?, hk, ih]
      · simp [hp, Tab.find?, hk, ih]

/-- A register outside the range keeps its value. -/
theorem Dev.resetRange_get (d : Dev) {lo hi : Nat} {g : Fld} (h : hi ≤ g.key / 32) : (d.resetRange lo hi).get g = d.get g := by
  have hfind := Tab.find?_filter d.regs (p := fun e => !(decide (lo ≤ e.1 / 32) && decide (e.1 / 32 < hi))) (k := g.key)
    (fun _ => by simp only [Nat.not_lt.mpr h, decide_false, Bool.and_false, Bool.not_false])
  simp only [Dev.get, Dev.resetRange, hfind]

/-- The device in which domain `x` has reached its target `st`. -/
def Dev.reached (d : Dev) (x st : Nat) : Dev := (d.withPwr (fun p => { p with moves := p.moves.del x })).setDomain x st

theorem Dev.reached_same (d : Dev) (x : Nat) {st : Nat} (hst : st < 4) : (d.reached x st).domain x = st := Dev.setDomain_same _ hst

theorem Dev.reached_ne (d : Dev) {x k : Nat} (st : Nat) (h : k ≠ x) : (d.reached x st).domain k = d.domain k := Dev.setDomain_ne _ h

theorem Dev.reached_engState (d : Dev) (x st : Nat) {e : Nat} (he : e < 48) : (d.reached x st).engState e = d.engState e :=
  (Dev.setDomain_frame (d.withPwr fun p => { p with moves := p.moves.del x })).get (R.ENG_STATUS_STATE e)
    (by simp only [block, Fld.key, R.ENG_STATUS_STATE]; omega)
    (by
      have := powerKeys x
      simp only [List.mem_cons, List.not_mem_nil, or_false, forall_eq_or_imp, forall_eq]
      simp only [Fld.key, R.ENG_STATUS_STATE] at *
      omega)

/-- The fabric and the ports at reset, at time `n`. -/
def Dev.freshFabric (a : Dev) (n : Nat) : Dev := { a with fab := { resetAt := n }, net := {} }

theorem LinkFrame.freshFabric (a : Dev) (n : Nat) : LinkFrame a (a.freshFabric n) := .of_regs rfl

/-- The link or the power of FABRIC changes (R165, R218, R627). -/
def Dev.fabricDone (d : Dev) (x st : Nat) : Dev :=
  if st ≠ 0 then (if x = 2 then { d.set R.SW_STATUS_READY 1 with fab := { resetAt := d.now } } else d)
  else if x = 2 then ((d.domainLinks 2).resetRange 0xC0000 0xDE800).freshFabric d.now
  else d.domainLinks x

theorem Dev.resetRange_bridle (d : Dev) (lo hi : Nat) : (d.resetRange lo hi).bridle = d.bridle := rfl

theorem LinkFrame.fabricDone (d : Dev) (x st : Nat) : LinkFrame d (d.fabricDone x st) := by
  have hoff : LinkFrame d ((d.domainLinks 2).resetRange 0xC0000 0xDE800) :=
    (LinkFrame.domainLinks d 2).trans ⟨fun k => Dev.resetRange_get _ (by have := domainKey k; omega), Dev.resetRange_bridle ..⟩
  unfold Dev.fabricDone
  split
  · split
    · exact (LinkFrame.set (f := R.SW_STATUS_READY) (.inl rfl) d 1).trans (.of_regs rfl)
    · exact .refl d
  · split
    · exact hoff.trans (.freshFabric _ _)
    · exact .domainLinks d x

section
variable {s : State} {x st : Nat} (hmove : Tab.find? s.dev.pwr.moves x = some st)
include hmove

/-- A domain that needs FABRIC waits until FABRIC is on (R627). -/
theorem State.domainDone_waits (h : st = 1 ∧ x ≠ 2 ∧ s.dev.domain 2 ≠ 1) : s.domainDone x = s := by
  unfold State.domainDone
  rw [hmove]
  exact if_pos h

variable (hready : ¬ (st = 1 ∧ x ≠ 2 ∧ s.dev.domain 2 ≠ 1))
include hready

/-- A domain that is no TEAM domain reaches its target. -/
theorem State.domainDone_fabric (hx : ¬ (3 ≤ x ∧ x < 7)) : s.domainDone x = s.on fun d => (d.reached x st).fabricDone x st := by
  unfold State.domainDone
  rw [hmove]
  refine (if_neg hready).trans ((if_neg hx).trans ?_)
  unfold Dev.fabricDone Dev.reached
  simp only [State.on]
  split
  · split <;> rfl
  · split <;> rfl

/-- A TEAM domain reaches OFF: its engines are lost (R382). -/
theorem State.domainDone_off (hx : 3 ≤ x ∧ x < 7) (hst : st = 0) : s.domainDone x = (s.on fun d => d.reached x st).teamOff x := by
  unfold State.domainDone
  rw [hmove]
  exact (if_neg hready).trans ((if_pos hx).trans (if_pos hst))

/-- A TEAM domain reaches ON: its engines are IDLE. -/
theorem State.domainDone_on (hx : 3 ≤ x ∧ x < 7) (hst : st = 1) :
    s.domainDone x = ((s.on fun d => d.reached x st).teamOff x).on fun d => (teamEngines (x - 3)).foldl Dev.idleEngine d := by
  unfold State.domainDone
  rw [hmove]
  exact (if_neg hready).trans ((if_pos hx).trans ((if_neg (by omega)).trans (if_pos hst)))

/-- A TEAM domain enters DOZE: the state of each engine is held (R629). -/
theorem State.domainDone_doze (hx : 3 ≤ x ∧ x < 7) (hst : 2 ≤ st) :
    (s.domainDone x).dev = (teamEngines (x - 3)).foldl Dev.dozeEngine (s.dev.reached x st) ∧ (s.domainDone x).mem = s.mem := by
  have hdone : s.domainDone x = (s.on fun d => d.reached x st).on fun d => d.teamDoze x := by
    unfold State.domainDone
    rw [hmove]
    exact (if_neg hready).trans ((if_pos hx).trans ((if_neg (by omega)).trans (if_neg (by omega))))
  rw [hdone, State.on_dev, State.on_mem, State.on_dev, State.on_mem, Dev.teamDoze_eq]
  exact ⟨rfl, rfl⟩

end

/-- What the end of a transition leaves: the domain in its target, every other one in its state. -/
structure DomainReached (s : State) (x st : Nat) (t : State) : Prop where
  target : t.dev.domain x = st
  others : ∀ k, k ≠ x → t.dev.domain k = s.dev.domain k

theorem DomainReached.of_reached {s t : State} {x st : Nat} (hst : st < 4) (h : KeepsDomains (s.dev.reached x st) t.dev) : DomainReached s x st t where
  target := (h.domain x).trans (Dev.reached_same _ _ hst)
  others k hk := (h.domain k).trans (Dev.reached_ne _ _ hk)

section
variable {s : State} {x st e : Nat} (hmove : Tab.find? s.dev.pwr.moves x = some st) (hready : ¬ (st = 1 ∧ x ≠ 2 ∧ s.dev.domain 2 ≠ 1))
include hmove hready

theorem State.domainDone_fabric_effect (hst : st < 4) (hx : ¬ (3 ≤ x ∧ x < 7)) : DomainReached s x st (s.domainDone x) ∧
    (x = 2 → st = 1 → (s.domainDone x).dev.get R.SW_STATUS_READY = 1) ∧ (s.domainDone x).mem = s.mem := by
  rw [s.domainDone_fabric hmove hready hx]
  refine ⟨.of_reached hst (LinkFrame.fabricDone _ x st).domains, fun h2 h1 => ?_, rfl⟩
  subst h2 h1
  exact Dev.get_set_same ..

variable (hx : 3 ≤ x ∧ x < 7)
include hx

theorem State.domainDone_off_effect (hst : st = 0) : DomainReached s x st (s.domainDone x) ∧
    (e ∈ teamEngines (x - 3) → (s.domainDone x).dev.engineState e = ({}, 0) ∧ ∀ a < 0x20000, Mem.byte (s.domainDone x).mem (engBase e + a) = 0) := by
  rw [s.domainDone_off hmove hready hx hst]
  refine ⟨.of_reached (by omega) ?_, fun he => ⟨?_, fun a ha => State.teamOff_byte _ he ha⟩⟩
  · rw [State.teamOff_dev]
    exact (PowerFrame.teamOff _ (by omega)).domains
  · rw [State.teamOff_dev]
    exact Dev.teamOff_engine _ he

theorem State.domainDone_on_effect (hst : st = 1) : DomainReached s x st (s.domainDone x) ∧
    (e ∈ teamEngines (x - 3) → (s.domainDone x).dev.engineState e = ({}, 1) ∧ ∀ a < 0x20000, Mem.byte (s.domainDone x).mem (engBase e + a) = 0) := by
  rw [s.domainDone_on hmove hready hx hst]
  refine ⟨.of_reached (by omega) ?_, fun he => ⟨?_, fun a ha => by rw [State.on_mem]; exact State.teamOff_byte _ he ha⟩⟩
  · rw [State.on_dev, State.teamOff_dev]
    exact ((PowerFrame.teamOff _ (by omega)).trans (.teamIdle _ (by omega))).domains
  · have hoff := congrArg Prod.fst (Dev.teamOff_engine (s.dev.reached x st) he)
    rw [State.on_dev, State.teamOff_dev, Dev.teamIdle_engine _ he, State.on_dev]
    exact Prod.ext hoff rfl

theorem State.domainDone_doze_effect (hst : 2 ≤ st) (hst4 : st < 4) : DomainReached s x st (s.domainDone x) ∧ (s.domainDone x).mem = s.mem ∧
    (e ∈ teamEngines (x - 3) → (s.domainDone x).dev.engState e = 7 ∧ ((s.domainDone x).dev.engine e).saved = s.dev.engState e) := by
  obtain ⟨hdev, hmem⟩ := s.domainDone_doze hmove hready hx hst
  have hpower := PowerFrame.teamDoze (s.dev.reached x st) (t := x - 3) (by omega)
  refine ⟨.of_reached hst4 (by rw [hdev]; exact hpower.domains), hmem, fun he => ?_⟩
  obtain ⟨hstate, hsaved⟩ := Dev.teamDoze_saved (s.dev.reached x st) he
  have he48 : e < 48 := by have := mem_teamEngines.mp he; omega
  rw [hdev]
  exact ⟨hstate, hsaved.trans (s.dev.reached_engState x st he48)⟩

end

/-! ### The wake from DOZE (R572, R630) -/

/-- Each engine resumes in the state it held, with the lines asserted meanwhile. -/
def Dev.resumeEngine (a : Dev) (e : Nat) : Dev :=
  (a.setEngine e { a.engine e with evPend := (a.engine e).evPend ||| (a.engine e).dozed, dozed := 0 }).set (R.ENG_STATUS_STATE e) (a.engine e).saved

/-- What an engine that resumes holds, with its state. -/
def resumed (x : EngSt × Nat) : EngSt × Nat := ({ x.1 with evPend := x.1.evPend ||| x.1.dozed, dozed := 0 }, x.1.saved % 16)

theorem Dev.resumeEngine_same (a : Dev) (e : Nat) : (a.resumeEngine e).engineState e = resumed (a.engineState e) :=
  Prod.ext (Dev.engine_setEngine_same ..) (Dev.get_set_same ..)

theorem Dev.teamResume_engine (d : Dev) {t e : Nat} (he : e ∈ teamEngines t) :
    ((teamEngines t).foldl Dev.resumeEngine d).engineState e = resumed (d.engineState e) :=
  Dev.engineState_foldl (f := Dev.resumeEngine) (fun a _ h => Dev.engineState_update_ne a _ _ h) (teamEngines_nodup t) he (fun a => a.resumeEngine_same e) d

theorem PowerFrame.teamResume (d : Dev) {t : Nat} (ht : t < 4) : PowerFrame d ((teamEngines t).foldl Dev.resumeEngine d) :=
  .team (f := Dev.resumeEngine) ht (fun a _ he => .updateEngine a he _ _) d

theorem Dev.teamResume_pwr (d : Dev) (t : Nat) : ((teamEngines t).foldl Dev.resumeEngine d).pwr = d.pwr :=
  List.foldlRecOn (motive := fun a : Dev => a.pwr = d.pwr) _ _ rfl fun _ ha _ _ => ha

/-- The doorbells that waited ring at the engines of a team that has resumed: from `d` to `a` no engine changes its state, an engine that does not doze
gets no line but in EVPEND, and the team dozes no more. -/
structure Rung (t : Nat) (d a : Dev) : Prop where
  power : PowerFrame d a
  state : ∀ e, a.engState e = d.engState e
  dozed : ∀ e, d.engState e ≠ 7 → (a.engine e).dozed = (d.engine e).dozed
  pend : ∀ e, d.engState e ≠ 7 → (a.engine e).evPend &&& (d.engine e).evPend = (d.engine e).evPend
  wakes : (∀ e, e / 12 = t → d.engState e ≠ 7) → a.pwr.dozeWake = d.pwr.dozeWake

section
variable {t : Nat} {d a : Dev}

theorem Rung.refl (t : Nat) (d : Dev) : Rung t d d := ⟨.of_regs rfl, fun _ => rfl, fun _ _ => rfl, fun _ _ => BitVec.and_self, fun _ => rfl⟩

/-- A change of a register below the power domains that is no state of an engine. -/
theorem Rung.regs {b : Dev} (h : Rung t d a) (hpower : PowerFrame a b) (hstate : ∀ e, b.engState e = a.engState e) (heng : b.eng = a.eng)
    (hpwr : b.pwr = a.pwr) : Rung t d b where
  power := h.power.trans hpower
  state e := (hstate e).trans (h.state e)
  dozed e he := by rw [Dev.engine, heng]; exact h.dozed e he
  pend e he := by rw [Dev.engine, heng]; exact h.pend e he
  wakes ht := by rw [hpwr]; exact h.wakes ht

theorem Rung.latchLine (h : Rung t d a) {e l : Nat} (he : e / 12 = t) : Rung t d (a.latchLine e l) where
  power := h.power.trans (.event (.latchLine a e l))
  state i := by
    refine Eq.trans ?_ (h.state i)
    have hregs : (a.latchLine e l).regs = a.regs := Dev.latchLine_regs ..
    exact Dev.get_congr hregs _
  dozed i hi := by
    refine Eq.trans ?_ (h.dozed i hi)
    unfold Dev.latchLine
    extract_lets x m d1
    split
    · next h7 =>
      have hie : i ≠ e := fun hie => hi (by rw [← h.state i, hie]; exact h7)
      have h1 : d1.engine i = a.engine i := Dev.engine_setEngine_ne _ _ _ _ hie
      split
      · have hw : (d1.dozeWakeFor (e / 12)).engine i = d1.engine i := by unfold Dev.dozeWakeFor; split <;> rfl
        rw [hw, h1]
      · rw [h1]
    · by_cases hie : i = e
      · subst hie; rw [Dev.engine_setEngine_same]
      · rw [Dev.engine_setEngine_ne _ _ _ _ hie]
  pend i hi := by
    have hlines : (a.latchLine e l).engine i = a.engine i ∨
        (a.latchLine e l).engine i = { a.engine i with evPend := (a.engine i).evPend ||| BitVec.ofNat 32 (2 ^ l) } := by
      unfold Dev.latchLine
      extract_lets x m d1
      split
      · next h7 =>
        have hie : i ≠ e := fun hie => hi (by rw [← h.state i, hie]; exact h7)
        have h1 : d1.engine i = a.engine i := Dev.engine_setEngine_ne _ _ _ _ hie
        split
        · have hw : (d1.dozeWakeFor (e / 12)).engine i = d1.engine i := by unfold Dev.dozeWakeFor; split <;> rfl
          exact .inl (hw.trans h1)
        · exact .inl h1
      · by_cases hie : i = e
        · subst hie; exact .inr (Dev.engine_setEngine_same ..)
        · exact .inl (Dev.engine_setEngine_ne _ _ _ _ hie)
    rcases hlines with heq | heq
    · rw [heq]; exact h.pend i hi
    · rw [heq, BitVec.and_comm, BitVec.and_or_distrib_left, BitVec.and_comm, h.pend i hi]
      ext j
      simp
      grind
  wakes ht := by
    refine Eq.trans ?_ (h.wakes ht)
    have h7 : a.get (R.ENG_STATUS_STATE e) ≠ 7 := fun h7 => ht e he ((h.state e).symm.trans h7)
    simp only [Dev.latchLine, if_neg h7]
    rfl

end

section
variable {d : Dev} {t : Nat}

theorem Dev.dozeWake_none (h : d.pwr.dozeWake.contains t = false) : d.dozeWake t = d := by
  unfold Dev.dozeWake
  rw [h]
  rfl

/-- The wake taken, with the domain ON and REQ 1. -/
def Dev.dozeEnd (d : Dev) (t : Nat) : Dev :=
  (((d.withPwr (fun p => { p with dozeWake := p.dozeWake.filter (fun x => x != t) })).setDomain (3 + t) 1).set (R.PWR_DOMAIN_REQ (3 + t)) 1).withPwr
    (fun p => { p with dozeWake := p.dozeWake.filter (fun x => x != t) })

/-- Mailbox `n` wakes its engine no more (R572). -/
def Dev.wakeDone (a : Dev) (n : Nat) : Dev :=
  { (a.set (R.MB_STATUS_WAKING n 0) 0) with
    host := { a.host with mbs := a.host.mbs.put (2 * n) { a.host.mbs.getD (2 * n) {} with waits := false } } }

/-- A doorbell that waited rings (R572). -/
def Dev.ringWaiting (t : Nat) (a : Dev) (n : Nat) : Dev :=
  if a.on (R.MB_STATUS_WAKING n 0) && a.get (R.MB_CFG_ENGINE n) / 12 == t then
    if (a.host.mbs.getD (2 * n) {}).waits then (a.wakeDone n).latchLine (a.get (R.MB_CFG_ENGINE n)) (a.get (R.MB_CFG_LINE n)) else a.wakeDone n
  else a

theorem Dev.dozeWake_due (h : d.pwr.dozeWake.contains t = true) (hdoze : d.domain (3 + t) = 3) :
    d.dozeWake t = ((List.range 14).map (fun i => i + 2)).foldl (Dev.ringWaiting t) ((teamEngines t).foldl Dev.resumeEngine (d.dozeEnd t)) := by
  unfold Dev.dozeWake
  extract_lets d0 d1 d2
  rw [if_neg (by simp only [h]; decide), if_neg (fun hne => hne hdoze)]
  rfl

theorem Rung.ringWaiting {a : Dev} (h : Rung t d a) {n : Nat} (hn : n < 16) : Rung t d (a.ringWaiting t n) := by
  unfold Dev.ringWaiting
  split
  · next hring =>
    have heng : a.get (R.MB_CFG_ENGINE n) / 12 = t := by simpa using (Bool.and_eq_true_iff.mp hring).2
    have hb : Rung t d (a.wakeDone n) := h.regs
      ((PowerFrame.set a (f := R.MB_STATUS_WAKING n 0) (by simp only [Fld.key, R.MB_STATUS_WAKING]; omega) 0).trans (.of_regs (d' := a.wakeDone n) rfl))
      (fun e => (Dev.get_congr rfl _).trans (Dev.get_set_ne _ _ _ 0 (by simp only [Fld.key, R.MB_STATUS_WAKING, R.ENG_STATUS_STATE]; omega))) rfl rfl
    split
    · exact hb.latchLine heng
    · exact hb
  · exact h

theorem Rung.ringAll : Rung t d (((List.range 14).map (fun i => i + 2)).foldl (Dev.ringWaiting t) d) := by
  refine List.foldlRecOn (motive := Rung t d) _ _ (.refl t d) fun a ha n hn => ha.ringWaiting ?_
  simp only [List.mem_map, List.mem_range] at hn
  omega

end

theorem KeepsEngine.saved {i : Nat} {d d' : Dev} (h : KeepsEngine i d d') : (d'.engine i).saved = (d.engine i).saved := (congrArg EngSt.saved h :)

theorem Dev.dozeEnd_effect (d : Dev) (t : Nat) :
    (d.dozeEnd t).domain (3 + t) = 1 ∧ (d.dozeEnd t).get (R.PWR_DOMAIN_REQ (3 + t)) = 1 ∧ (d.dozeEnd t).pwr.dozeWake.contains t = false ∧
    ∀ e, ((d.dozeEnd t).engine e).saved = (d.engine e).saved ∧ (d.dozeEnd t).lines e &&& d.lines e = d.lines e := by
  have hset := Dev.setDomain_frame (d.withPwr fun p => { p with dozeWake := p.dozeWake.filter (fun x => x != t) }) (x := 3 + t) (st := 1)
  have hdomain := Dev.setDomain_same (d.withPwr fun p => { p with dozeWake := p.dozeWake.filter (fun x => x != t) }) (x := 3 + t) (st := 1) (by decide)
  unfold Dev.dozeEnd
  generalize (d.withPwr fun p => { p with dozeWake := p.dozeWake.filter (fun x => x != t) }).setDomain (3 + t) 1 = a at hset hdomain
  refine ⟨?_, Dev.get_set_same .., ?_, fun e => ⟨(hset.engine e).saved, hset.lines e⟩⟩
  · exact (a.domain_setReq (3 + t) 1).trans hdomain
  · have hfilter : (a.pwr.dozeWake.filter (fun x => x != t)).contains t = false := by simp
    exact hfilter

/-- What the wake of team `t` from DOZE leaves in every engine that held a state before DOZE (R630). -/
theorem Dev.dozeWake_effect {d : Dev} {t : Nat} (ht : t < 4) (h : d.pwr.dozeWake.contains t = true) (hdoze : d.domain (3 + t) = 3) :
    (d.dozeWake t).domain (3 + t) = 1 ∧ (d.dozeWake t).get (R.PWR_DOMAIN_REQ (3 + t)) = 1 ∧
    ((∀ e ∈ teamEngines t, (d.engine e).saved < 7) → (d.dozeWake t).pwr.dozeWake.contains t = false) ∧
    ∀ e ∈ teamEngines t, (d.engine e).saved < 7 → (d.dozeWake t).engState e = (d.engine e).saved ∧ ((d.dozeWake t).engine e).dozed = 0 ∧
      ((d.dozeWake t).engine e).evPend &&& d.lines e = d.lines e := by
  rw [Dev.dozeWake_due h hdoze]
  have hrung := Rung.ringAll (d := (teamEngines t).foldl Dev.resumeEngine (d.dozeEnd t)) (t := t)
  have hpower := (PowerFrame.teamResume (d.dozeEnd t) ht).trans hrung.power
  obtain ⟨hdomain, hreq, hwake, hengine⟩ := d.dozeEnd_effect t
  have hresumed (e : Nat) (he : e ∈ teamEngines t) := Dev.teamResume_engine (d.dozeEnd t) he
  have hstate (e : Nat) (he : e ∈ teamEngines t) (hs : (d.engine e).saved < 7) :
      ((teamEngines t).foldl Dev.resumeEngine (d.dozeEnd t)).engState e = (d.engine e).saved :=
    (congrArg Prod.snd (hresumed e he)).trans (by
      rw [resumed, Dev.engineState, (hengine e).1]
      exact Nat.mod_eq_of_lt (by omega))
  refine ⟨(hpower.get _ (by have := powerKeys (3 + t); omega)).trans hdomain, (hpower.get _ (by have := powerKeys (3 + t); omega)).trans hreq,
    fun hall => ?_, fun e he hs => ?_⟩
  · rw [hrung.wakes fun e he h7 => ?_, Dev.teamResume_pwr]
    · exact hwake
    · have hmem : e ∈ teamEngines t := mem_teamEngines.mpr (by omega)
      have := hall e hmem
      rw [hstate e hmem this] at h7
      omega
  · have hne : ((teamEngines t).foldl Dev.resumeEngine (d.dozeEnd t)).engState e ≠ 7 := by rw [hstate e he hs]; omega
    have hx := congrArg Prod.fst (hresumed e he)
    refine ⟨(hrung.state e).trans (hstate e he hs), (hrung.dozed e hne).trans (congrArg EngSt.dozed hx), ?_⟩
    have hpend : (((teamEngines t).foldl Dev.resumeEngine (d.dozeEnd t)).engine e).evPend = (d.dozeEnd t).lines e := congrArg EngSt.evPend hx
    have hrings := hrung.pend e hne
    rw [hpend] at hrings
    rw [← (hengine e).2, ← BitVec.and_assoc, hrings]

end Sys2Proof.Machine
end

section
/-! PROOFS. The statement about the power domains: the writes of PWR_DOMAIN, the ends of the transitions, the wake from DOZE. -/

namespace Sys2Proof.Machine
open Sys2Proof Sys2Proof.Safety

section
variable {s : State} {w : Writer} {d : Fin 9} {v : W32} (hw : Grants s w (R.PWR_DOMAIN_REQ d)) (hv : v.toNat &&& 0xFFFFFCFC = 0)
include hw hv

/-- A write of AON or CORE does nothing. -/
theorem exec_domainRequest_fixed (hd : d.val < 2) : exec (.domainRequest w d v) s = .next s := by
  rw [exec_domainRequest hw, Dev.domainWrite_fixed hv hd]
  rfl

/-- A reserved value is recorded and changes no domain. -/
theorem exec_domainRequest_reserved (hd : 2 ≤ d.val) (hr : v.toNat % 4 = 3 ∨ (v.toNat % 4 = 2 ∧ (d.val < 3 ∨ 6 < d.val))) :
    ∃ t, exec (.domainRequest w d v) s = .next t ∧ t.dev.get R.SYS_DIAG_REG_RSV_WRITE = 1 ∧ t.dev.pwr.moves = s.dev.pwr.moves ∧ t.mem = s.mem ∧
      ∀ k, t.dev.domain k = s.dev.domain k ∧ t.dev.get (R.PWR_DOMAIN_REQ k) = s.dev.get (R.PWR_DOMAIN_REQ k) := by
  have hexec := exec_domainRequest (v := v) hw
  rw [Dev.domainWrite_reserved hv hd hr] at hexec
  have hframe := DozeFrame.rsvWrite s.dev w (0xE0000 + d.val * 4) (fun _ h => h)
  have hkeep (g : Fld) (hg : 0x1C00000 ≤ g.key) : (s.dev.rsvWrite w (0xE0000 + d.val * 4)).get g = s.dev.get g :=
    (s.dev.rsvIf_frame true w _).2 g (by unfold block; omega) (by unfold block; omega)
  refine ⟨_, hexec, ?_, hframe.moves, rfl, fun k => ⟨hkeep _ ?_, hkeep _ ?_⟩⟩
  · exact Dev.cause_get_same _ R.SYS_DIAG_REG_RSV_WRITE true 253 (by decide) (by decide)
  · have := powerKeys k; omega
  · have := powerKeys k; omega

/-- A request that is no repeat has its effect. -/
theorem exec_domainRequest_new {r : Nat} (hr : v.toNat % 4 = r) (hd : 2 ≤ d.val) (hr3 : r = 0 ∨ r = 1 ∨ (r = 2 ∧ 3 ≤ d.val ∧ d.val ≤ 6))
    (hnew : s.dev.get (R.PWR_DOMAIN_REQ d) ≠ r ∨ (r = 1 ∧ s.dev.domain d = 3)) :
    exec (.domainRequest w d v) s = .next (s.on fun _ => (s.dev.domainRequest d r).1) := by
  have hwrite := Dev.domainWrite_request (d := s.dev) (w := w) hv hd (by omega) (by omega)
  rw [exec_domainRequest hw, hwrite, hr]

theorem exec_domainRequest_off (hd : 2 ≤ d.val) (hr : v.toNat % 4 = 0) (hreq : s.dev.get (R.PWR_DOMAIN_REQ d) ≠ 0) (hoff : s.dev.mayOff d)
    (hst : s.dev.domain d ≠ 0) :
    ∃ t, exec (.domainRequest w d v) s = .next t ∧ t.dev.domain d = 2 ∧ t.dev.get (R.PWR_DOMAIN_REQ d) = 0 ∧
      t.dev.pwr.moves = s.dev.pwr.moves.put d 0 ∧ t.mem = s.mem ∧ ∀ k, k ≠ d.val → t.dev.domain k = s.dev.domain k := by
  have hexec := exec_domainRequest_new hw hv hr hd (by omega) (.inl hreq)
  rw [Dev.domainRequest_off hoff hst] at hexec
  refine ⟨_, hexec, Dev.moveDomain_same _, ?_, Dev.moveDomain_moves _, rfl, fun k hk => ?_⟩
  · exact (Dev.moveDomain_req _ d.isLt).trans (Dev.get_set_same ..)
  · exact (Dev.moveDomain_ne _ hk).trans (Dev.domain_setReq ..)

theorem exec_domainRequest_on (hd : 2 ≤ d.val) (hr : v.toNat % 4 = 1) (hreq : s.dev.get (R.PWR_DOMAIN_REQ d) ≠ 1 ∨ s.dev.domain d = 3)
    (hst : s.dev.domain d = 0) :
    ∃ t, exec (.domainRequest w d v) s = .next t ∧ t.dev.domain d = 2 ∧ t.dev.get (R.PWR_DOMAIN_REQ d) = 1 ∧ t.mem = s.mem ∧
      Tab.find? t.dev.pwr.moves d = some 1 ∧ (d.val ≠ 2 → s.dev.domain 2 = 0 → t.dev.domain 2 = 2 ∧ t.dev.get (R.PWR_DOMAIN_REQ 2) = 1 ∧
        Tab.find? t.dev.pwr.moves 2 = some 1) ∧ (s.dev.domain 2 ≠ 0 → d.val ≠ 2 → t.dev.domain 2 = s.dev.domain 2) := by
  have hexec := exec_domainRequest_new hw hv hr hd (by omega) (hreq.imp_right fun h => ⟨rfl, h⟩)
  rw [Dev.domainRequest_on hst] at hexec
  obtain ⟨hdomain, hone, hmoves, hfabric, hkept⟩ := s.dev.requestOn_effect d.isLt
  exact ⟨_, hexec, hdomain, hone, rfl, hmoves, hfabric, hkept⟩

theorem exec_domainRequest_wake (hd : 2 ≤ d.val) (hr : v.toNat % 4 = 1) (hst : s.dev.domain d = 3) :
    ∃ t, exec (.domainRequest w d v) s = .next t ∧ t.dev.pwr.dozeWake.contains (d.val - 3) = true ∧
      OnlyRegsEv [R.PWR_DOMAIN_REQ d] s t ∧ t.dev.get (R.PWR_DOMAIN_REQ d) = 1 := by
  have hexec := exec_domainRequest_new hw hv hr hd (by omega) (.inr ⟨rfl, hst⟩)
  rw [Dev.domainRequest_wake hst] at hexec
  have hframe := (DozeFrame.set (fs := [R.PWR_DOMAIN_REQ d]) s.dev (R.PWR_DOMAIN_REQ d) 1 (.inl (by simp))).trans (.dozeWakeFor _ (d.val - 3))
  have hregs : ((s.dev.set (R.PWR_DOMAIN_REQ d) 1).dozeWakeFor (d.val - 3)).regs = (s.dev.set (R.PWR_DOMAIN_REQ d) 1).regs := by
    unfold Dev.dozeWakeFor; split <;> rfl
  refine ⟨_, hexec, ?_, hframe.onlyRegsEv, (Dev.get_congr hregs _).trans (Dev.get_set_same ..)⟩
  rw [State.on_dev]
  unfold Dev.dozeWakeFor
  split
  · assumption
  · simp

theorem exec_domainRequest_doze (hd : 3 ≤ d.val) (hd6 : d.val ≤ 6) (hr : v.toNat % 4 = 2) (hreq : s.dev.get (R.PWR_DOMAIN_REQ d) ≠ 2)
    (hst : s.dev.domain d = 1) (hdoze : s.dev.mayDoze d = true) :
    ∃ t, exec (.domainRequest w d v) s = .next t ∧ t.dev.domain d = 2 ∧ t.dev.get (R.PWR_DOMAIN_REQ d) = 2 ∧
      t.dev.pwr.moves = s.dev.pwr.moves.put d 3 ∧ OnlyRegsEv [R.PWR_DOMAIN_REQ d, R.PWR_DOMAIN_STATE d, R.SLP_EVT] s t := by
  have hexec := exec_domainRequest_new hw hv hr (by omega) (by omega) (.inl hreq)
  rw [Dev.domainRequest_doze hst hdoze] at hexec
  have hmove := OnlyRegsEv.moveDomain (s.on fun d' => d'.set (R.PWR_DOMAIN_REQ d) 2) (x := d) (st := 3)
  refine ⟨_, hexec, Dev.moveDomain_same _, (Dev.moveDomain_req _ d.isLt).trans (Dev.get_set_same ..), Dev.moveDomain_moves _, ?_⟩
  obtain ⟨hmem, hpending, hget, hrest⟩ := hmove
  refine OnlyRegsEv.trans (OnlyRegs.set s (R.PWR_DOMAIN_REQ d) 2 (by simp)).events ⟨hmem, hpending, fun g hb hg => hget g hb fun f hf => hg f ?_, hrest⟩
  exact List.mem_cons_of_mem _ hf

end

theorem State.domainDone_idle {s : State} {x : Nat} (h : Tab.find? s.dev.pwr.moves x = none) : s.domainDone x = s := by
  unfold State.domainDone
  rw [h]

/-- What the end of a transition leaves of the domains, the engines, the fabric and the memories. -/
theorem State.domainDone_effect {s : State} {x st : Nat} (hmove : Tab.find? s.dev.pwr.moves x = some st)
    (hready : ¬ (st = 1 ∧ x ≠ 2 ∧ s.dev.domain 2 ≠ 1)) (hst : st < 4) :
    (s.domainDone x).dev.domain x = st ∧ (∀ k, k ≠ x → k < 9 → (s.domainDone x).dev.domain k = s.dev.domain k) ∧
    (3 ≤ x → x < 7 → ∀ e, (x - 3) * 12 ≤ e → e < (x - 3) * 12 + 12 →
      (st = 0 → (s.domainDone x).dev.engState e = 0 ∧ (s.domainDone x).dev.engine e = {}) ∧
      (st = 1 → (s.domainDone x).dev.engState e = 1 ∧ (s.domainDone x).dev.engine e = {}) ∧
      (st < 2 → ∀ a < 0x20000, Mem.byte (s.domainDone x).mem (engBase e + a) = 0) ∧
      (st = 3 → (s.domainDone x).dev.engState e = 7 ∧ ((s.domainDone x).dev.engine e).saved = s.dev.engState e ∧ (s.domainDone x).mem = s.mem)) ∧
    (x = 2 → st = 1 → (s.domainDone x).dev.get R.SW_STATUS_READY = 1) ∧ ((x < 3 ∨ 7 ≤ x) → (s.domainDone x).mem = s.mem) := by
  by_cases hx : 3 ≤ x ∧ x < 7
  · have hcases : st = 0 ∨ st = 1 ∨ 2 ≤ st := by omega
    have hgiven {e : Nat} {y : EngSt × Nat} (h : (s.domainDone x).dev.engineState e = y) :
        (s.domainDone x).dev.engState e = y.2 ∧ (s.domainDone x).dev.engine e = y.1 := ⟨congrArg Prod.snd h, congrArg Prod.fst h⟩
    rcases hcases with h | h | h
    · have hoff (e : Nat) := State.domainDone_off_effect (e := e) hmove hready hx h
      refine ⟨(hoff 0).1.target, fun k hk _ => (hoff 0).1.others k hk, fun _ _ e he he' => ?_, by omega, by omega⟩
      obtain ⟨heng, hmem⟩ := (hoff e).2 (mem_teamEngines.mpr ⟨he, he'⟩)
      exact ⟨fun _ => hgiven heng, by omega, fun _ => hmem, by omega⟩
    · have hon (e : Nat) := State.domainDone_on_effect (e := e) hmove hready hx h
      refine ⟨(hon 0).1.target, fun k hk _ => (hon 0).1.others k hk, fun _ _ e he he' => ?_, by omega, by omega⟩
      obtain ⟨heng, hmem⟩ := (hon e).2 (mem_teamEngines.mpr ⟨he, he'⟩)
      exact ⟨by omega, fun _ => hgiven heng, fun _ => hmem, by omega⟩
    · have hdoze (e : Nat) := State.domainDone_doze_effect (e := e) hmove hready hx h hst
      refine ⟨(hdoze 0).1.target, fun k hk _ => (hdoze 0).1.others k hk, fun _ _ e he he' => ?_, by omega, by omega⟩
      obtain ⟨-, hmem, heng⟩ := hdoze e
      obtain ⟨hstate, hsaved⟩ := heng (mem_teamEngines.mpr ⟨he, he'⟩)
      exact ⟨by omega, by omega, by omega, fun _ => ⟨hstate, hsaved, hmem⟩⟩
  · obtain ⟨hreached, hfabric, hmem⟩ := State.domainDone_fabric_effect hmove hready hst hx
    exact ⟨hreached.target, fun k hk _ => hreached.others k hk, by omega, hfabric, fun _ => hmem⟩

theorem exec_dozeWake (i : Fin 4) (s : State) : exec (.dozeWake i) s = .next (s.on fun _ => s.dev.dozeWake i) := rfl

/-- Settles O56: a write of PWR_DOMAIN by its value and the state of the domain, the end of each transition, and the wake from DOZE, whose events
lose no line that is latched. -/
theorem powerDomains : Obligations.PowerDomains := by
  unfold Obligations.PowerDomains
  refine ⟨fun w d v s hw hv => ⟨exec_domainRequest_fixed hw hv, exec_domainRequest_reserved hw hv⟩, fun w d v s hw hv hd hr hreq => ⟨?_, ?_⟩,
    fun w d v s hw hv hd hr hreq => ⟨exec_domainRequest_on hw hv hd hr hreq, exec_domainRequest_wake hw hv hd hr⟩,
    fun w d v s hw hv hd hd6 hr hreq h3 => ⟨fun h1 hdoze => exec_domainRequest_doze hw hv hd hd6 hr hreq h1 hdoze, fun h => ?_⟩,
    fun d s h => ?_, fun d s hmove hd h2 => ?_, fun d st s hmove hst hready _ => ?_, fun i s h => ?_, fun i s h hdoze => ?_⟩
  · exact fun hused hneed hst => exec_domainRequest_off hw hv hd hr hreq ⟨hused, hneed⟩ hst
  · exact fun h => exec_domainRequest_refused (exec_domainRequest_new hw hv hr hd (by omega) (.inl hreq)) (Dev.domainRequest_off_refused h)
  · exact exec_domainRequest_refused (exec_domainRequest_new hw hv hr (by omega) (by omega) (.inl hreq)) (Dev.domainRequest_doze_refused h3 h)
  · exact congrArg _ (State.domainDone_idle h)
  · exact congrArg _ (State.domainDone_waits hmove ⟨rfl, hd, h2⟩)
  · exact ⟨_, rfl, State.domainDone_effect hmove (by omega) hst⟩
  · rw [exec_dozeWake, Dev.dozeWake_none h]
    rfl
  · obtain ⟨hdomain, hreq, hwakes, hengines⟩ := Dev.dozeWake_effect i.isLt h hdoze
    have hmem {e : Nat} : e ∈ teamEngines i ↔ 12 * i.val ≤ e ∧ e < 12 * i.val + 12 := by rw [mem_teamEngines, Nat.mul_comm]
    refine ⟨_, exec_dozeWake i s, hdomain, hreq, fun hall => hwakes fun e he => ?_, rfl, fun e he he' => hengines e (hmem.mpr ⟨he, he'⟩)⟩
    obtain ⟨hlo, hhi⟩ := hmem.mp he
    exact hall e hlo hhi

end Sys2Proof.Machine
end

section
/-! PROOFS. The resets (R702 to R705, R718): what the register file keeps, and the rest of the device. -/

namespace Sys2Proof.Machine
open Sys2Proof Sys2Proof.Safety

/-! ### The register file after a reset -/

theorem Tab.find?_filter_none {α : Type} (t : Tab α) {p : Nat × α → Bool} {k : Nat} (h : ∀ v, p (k, v) = false) :
    Tab.find? (t.filter p) k = none := by
  induction t with
  | nil => rfl
  | cons e r ih =>
    obtain ⟨k', v⟩ := e
    by_cases hp : p (k', v) = true
    · have hk : k' ≠ k := fun hk => by rw [hk, h] at hp; exact absurd hp (by decide)
      simp [hp, Tab.find?, hk, ih]
    · simp [hp, ih]

section
variable {d d' : Dev} {keep : Nat → Bool} (hregs : d'.regs = d.regs.filter (fun e => keep e.1)) {g : Fld}
include hregs

/-- A register that a reset keeps. -/
theorem Dev.get_ofFilter_kept (h : keep g.key = true) : d'.get g = d.get g := by
  have hfind := Tab.find?_filter d.regs (p := fun e => keep e.1) (k := g.key) (fun _ => h)
  simp only [Dev.get, hregs, hfind]

/-- A register that a reset does not keep. -/
theorem Dev.get_ofFilter_dropped (h : keep g.key = false) : d'.get g = g.reset % 2 ^ g.width := by
  have hfind := Tab.find?_filter_none d.regs (p := fun e => keep e.1) (k := g.key) (fun _ => h)
  simp only [Dev.get, hregs, hfind]
  rfl

end

/-! ### The reset with the scope of power-on (R646, R703) -/

/-- The registers that a power-on reset keeps: those of the battery domain, and what MRAM or a fuse holds. -/
def powerKeeps (k : Nat) : Bool := rtcKey k || mramKey k

/-- The device after a power-on reset; `time` is what it keeps of the calendar clock. -/
def Dev.freshStart (d : Dev) : Dev :=
  { regs := d.regs.filter (fun e => powerKeeps e.1), now := d.now, free := d.free, out := d.out,
    time := TimeSt_rtc d.time, io := { ext := d.io.ext }, fab := { resetAt := d.now }, upd := UpdSt_kept d.upd,
    pwr := { nets := (List.range 9).map (fun k => (k, { since := d.now })) }, sys := { lost := d.sys.lost, porAt := d.now, test := d.sys.test },
    tap := { tck := d.tap.tck, tms := d.tap.tms, tdi := d.tap.tdi, trstN := d.tap.trstN, seen := d.tap.tck } }

theorem State.powerReset_por (s : State) : s.powerReset false none = { s with dev := s.dev.freshStart.emit (.reset false), mem := Mem.mramOnly s.mem } := by
  simp only [State.powerReset, Dev.freshStart, powerKeeps, Bool.false_and, Option.isSome_none, Bool.or_false]
  rfl

/-- The warm reset: the registers it keeps, at the state from which the engines and banks follow their domains (R704). -/
def Dev.warmStart (d : Dev) : Dev :=
  { regs := d.regs.filter (fun e => keepKey e.1 || rtcKey e.1), now := d.now, free := d.free, out := d.out,
    time := { TimeSt_rtc d.time with tbs := d.time.tbs.map (fun e => (e.1, { e.2 with setPend := none })) },
    orch := { ecc := d.orch.ecc, walk := d.orch.walk }, io := { ext := d.io.ext }, fab := { resetAt := d.now },
    host := { record := d.host.record }, upd := UpdSt_kept d.upd, pwr := d.pwr,
    sys := { lost := d.sys.lost, porAt := d.sys.porAt, cold := false, test := d.sys.test, stopped := d.sys.stopped, hot := d.sys.hot },
    tap := d.tap }

theorem State.warmReset_eq (s : State) (bit : Nat) : s.warmReset bit =
    { s with dev := ((((s.dev.warmStart.warmBanks s.dev).warmEngines).set R.OWN_TIMEOUT s.dev.host.record.ownTimeout).addCause bit).emit (.reset false),
             mem := Mem.clearRange s.mem (bar0Mem 0x20000) 0x10000 } := rfl

section
variable (d : Dev)

theorem Dev.freshStart_reset {g : Fld} (h : powerKeeps g.key = false) : d.freshStart.get g = g.reset % 2 ^ g.width :=
  Dev.get_ofFilter_dropped (d := d) (keep := powerKeeps) rfl h

theorem Dev.freshStart_kept {g : Fld} (h : powerKeeps g.key = true) : d.freshStart.get g = d.get g := Dev.get_ofFilter_kept (d := d) (keep := powerKeeps) rfl h

theorem Dev.warmStart_reset {g : Fld} (h : (keepKey g.key || rtcKey g.key) = false) : d.warmStart.get g = g.reset % 2 ^ g.width :=
  Dev.get_ofFilter_dropped (d := d) (keep := fun k => keepKey k || rtcKey k) rfl h

theorem Dev.warmStart_kept {g : Fld} (h : (keepKey g.key || rtcKey g.key) = true) : d.warmStart.get g = d.get g :=
  Dev.get_ofFilter_kept (d := d) (keep := fun k => keepKey k || rtcKey k) rfl h

end

/-! ### POR_N and TEST_EN -/

theorem State.powerOn_eq (s : State) : s.powerOn =
    { s with dev := (s.dev.freshStart.emit (.reset false)).withSys (fun y => { y with test := false }), mem := Mem.mramOnly s.mem } := by
  rw [State.powerOn, State.powerReset_por]
  rfl

theorem exec_powerOnReset (s : State) : ∃ t, exec .powerOnReset s = .next t ∧ t.mem = Mem.mramOnly s.mem ∧ t.pending = s.pending ∧
    t.dev.get R.SYS_RESET_CAUSE = 1 ∧ t.dev.sys.starting = true ∧ t.dev.sys.cold = true ∧ t.dev.sys.test = false ∧ t.dev.sys.hot = false ∧
    t.dev.sys.stopped = false ∧ t.dev.sys.lost = s.dev.sys.lost ∧ t.dev.owner = none ∧ t.dev.get R.STRIDE_CTRL_RUN = 0 ∧
    t.dev.get R.BRIDLE_STATUS_STATE = 0 ∧ t.dev.upd.active = false ∧ t.dev.upd.session = none ∧ t.dev.upd.journal = s.dev.upd.journal ∧
    t.dev.upd.root = s.dev.upd.root ∧ t.dev.get R.RTC_SEC = s.dev.get R.RTC_SEC ∧
    t.dev.get R.SEC_STATUS_LIFECYCLE = s.dev.get R.SEC_STATUS_LIFECYCLE ∧ t.dev.get R.SEC_SIG_LEFT = s.dev.get R.SEC_SIG_LEFT ∧ t.dev.bridle = {} ∧
    t.dev.fab = { resetAt := s.dev.now } ∧ t.dev.hn = {} ∧ t.dev.eng = [] := by
  have hexec : exec .powerOnReset s = .next s.powerOn := rfl
  rw [State.powerOn_eq] at hexec
  refine ⟨_, hexec, rfl, rfl, ?_, rfl, rfl, rfl, rfl, rfl, rfl, Dev.owner_none _ ?_, ?_, ?_, rfl, rfl, rfl, rfl, ?_, ?_, ?_, rfl, rfl, rfl, rfl⟩
  · exact s.dev.freshStart_reset (g := R.SYS_RESET_CAUSE) (by decide)
  · exact s.dev.freshStart_reset (g := R.OWN_STATUS_OWNED) (by decide)
  · exact s.dev.freshStart_reset (g := R.STRIDE_CTRL_RUN) (by decide)
  · exact s.dev.freshStart_reset (g := R.BRIDLE_STATUS_STATE) (by decide)
  · exact s.dev.freshStart_kept (g := R.RTC_SEC) (by decide)
  · exact s.dev.freshStart_kept (g := R.SEC_STATUS_LIFECYCLE) (by decide)
  · exact s.dev.freshStart_kept (g := R.SEC_SIG_LEFT) (by decide)

theorem exec_testEnHigh (s : State) : ∃ t, exec .testEnHigh s = .next t ∧ t.dev.sys.test = true ∧ t.dev.isHeld = true ∧ t.dev.coreOn = false ∧
    t.mem = Mem.mramOnly s.mem := by
  have hexec : exec .testEnHigh s = .next s.testEnHigh := rfl
  have hheld : s.testEnHigh.dev.isHeld = true := by
    simp [Dev.isHeld, State.testEnHigh, State.powerReset_por, State.on, Dev.withSys, Dev.emit]
  refine ⟨_, hexec, rfl, hheld, ?_, rfl⟩
  rw [Dev.coreOn, hheld]
  rfl

/-! ### The warm reset (R704) -/

/-- From `d` to `d'` no register below the banks changes but in the block of events. -/
theorem Dev.warmBanks_get (d old : Dev) {g : Fld} (hg : ∀ n < 64, g.key ≠ (R.BANK_POWER_STATE n).key) : (d.warmBanks old).get g = d.get g := by
  refine List.foldlRecOn (motive := fun a : Dev => a.get g = d.get g) _ _ rfl fun a ha n hn => ?_
  split
  · exact (Dev.get_set_ne _ _ _ _ (hg n (List.mem_range.mp hn))).trans ha
  · exact ha

theorem Dev.warmEngines_get (d : Dev) {g : Fld} (hg : ∀ e < 48, g.key ≠ (R.ENG_STATUS_STATE e).key) : d.warmEngines.get g = d.get g := by
  refine List.foldlRecOn (motive := fun a : Dev => a.get g = d.get g) _ _ rfl fun a ha e he => ?_
  split
  · exact (Dev.get_set_ne _ _ _ _ (hg e (List.mem_range.mp he))).trans ha
  · exact ha

/-- An engine of a domain that is not OFF keeps its state. -/
theorem Dev.warmEngines_engState (d : Dev) {i : Nat} (h : d.domain (3 + i / 12) ≠ 0) : d.warmEngines.engState i = d.engState i := by
  have hloop : ∀ k, (d.warmEngines).domain k = d.domain k ∧ d.warmEngines.engState i = d.engState i := by
    refine List.foldlRecOn (motive := fun a : Dev => ∀ k, a.domain k = d.domain k ∧ a.engState i = d.engState i) _ _ (fun _ => ⟨rfl, rfl⟩)
      fun a ha e he k => ?_
    have he' := List.mem_range.mp he
    split
    · next h0 =>
      have hie : i ≠ e := fun hie => h (by rw [← (ha _).1, hie]; exact h0)
      exact ⟨((PowerFrame.setEngState a he' 0).domains.domain k).trans (ha k).1, (Dev.engState_set_ne a 0 hie).trans (ha k).2⟩
    · exact ha k
  exact (hloop 0).2

/-- From `d` to `d'` registers alone change. -/
structure RegsFrame (d d' : Dev) : Prop where
  rest : d' = { d with regs := d'.regs }

theorem RegsFrame.refl (d : Dev) : RegsFrame d d := ⟨rfl⟩

theorem RegsFrame.set {d a : Dev} (h : RegsFrame d a) (f : Fld) (v : Nat) : RegsFrame d (a.set f v) := ⟨by
  have hrest := h.rest
  unfold Dev.set
  generalize a.regs.put f.key (v % 2 ^ f.width) = r
  rw [hrest]⟩

theorem RegsFrame.warmEngines {d a : Dev} (h : RegsFrame d a) : RegsFrame d a.warmEngines :=
  List.foldlRecOn (motive := RegsFrame d) _ _ h fun _ ha _ _ => by
    split
    · exact ha.set _ _
    · exact ha

theorem RegsFrame.warmBanks {d a : Dev} (h : RegsFrame d a) (old : Dev) : RegsFrame d (a.warmBanks old) :=
  List.foldlRecOn (motive := RegsFrame d) _ _ h fun _ ha _ _ => by
    split
    · exact ha.set _ _
    · exact ha

/-- The device after a warm reset, before the output that shows it. -/
def Dev.warmed (d : Dev) (bit : Nat) : Dev := ((((d.warmStart.warmBanks d).warmEngines).set R.OWN_TIMEOUT d.host.record.ownTimeout).addCause bit)

theorem Dev.warmed_get (d : Dev) (bit : Nat) {g : Fld} (hbank : ∀ n < 64, g.key ≠ (R.BANK_POWER_STATE n).key)
    (heng : ∀ e < 48, g.key ≠ (R.ENG_STATUS_STATE e).key) (htime : g.key ≠ R.OWN_TIMEOUT.key) (hcause : g.key ≠ R.SYS_RESET_CAUSE.key) :
    (d.warmed bit).get g = d.warmStart.get g :=
  (Dev.get_set_ne _ _ _ _ hcause).trans ((Dev.get_set_ne _ _ _ _ htime).trans ((Dev.warmEngines_get _ heng).trans (Dev.warmBanks_get _ _ hbank)))

/-- A field below the banks is none that a warm reset gives a value of its own. -/
theorem Dev.warmed_low (d : Dev) (bit : Nat) {g : Fld} (h : g.key < 0x800000) (htime : g.key ≠ R.OWN_TIMEOUT.key) (hcause : g.key ≠ R.SYS_RESET_CAUSE.key) :
    (d.warmed bit).get g = d.warmStart.get g :=
  d.warmed_get bit (fun n _ => by simp only [Fld.key, R.BANK_POWER_STATE] at *; omega) (fun e _ => by simp only [Fld.key, R.ENG_STATUS_STATE] at *; omega)
    htime hcause

theorem Dev.warmed_frame (d : Dev) (bit : Nat) : RegsFrame d.warmStart (d.warmed bit) :=
  (((RegsFrame.refl d.warmStart).warmBanks d).warmEngines.set _ _).set _ _

theorem Dev.warmed_cause (d : Dev) {bit : Nat} (h : bit < 6) : (d.warmed bit).get R.SYS_RESET_CAUSE = d.get R.SYS_RESET_CAUSE ||| 2 ^ bit := by
  have hold : (((d.warmStart.warmBanks d).warmEngines).set R.OWN_TIMEOUT d.host.record.ownTimeout).get R.SYS_RESET_CAUSE = d.get R.SYS_RESET_CAUSE := by
    rw [Dev.get_set_ne _ _ _ _ (by decide), Dev.warmEngines_get _ (fun e _ => by simp only [Fld.key, R.ENG_STATUS_STATE, R.SYS_RESET_CAUSE]; omega),
      Dev.warmBanks_get _ _ (fun n _ => by simp only [Fld.key, R.BANK_POWER_STATE, R.SYS_RESET_CAUSE]; omega), Dev.warmStart_kept _ (by decide)]
  rw [Dev.warmed, Dev.addCause, Dev.get_set_same, hold]
  refine Nat.mod_eq_of_lt (Nat.or_lt_two_pow (d.get_lt R.SYS_RESET_CAUSE) ?_)
  exact Nat.pow_lt_pow_right (by decide) h

theorem Dev.warmed_engState (d : Dev) (bit : Nat) {e : Nat} (he : e < 48) (h : d.domain (3 + e / 12) = 1) : (d.warmed bit).engState e = 1 := by
  have hkept : ∀ k : Fin 4, (keepKey (R.PWR_DOMAIN_STATE (3 + k)).key || rtcKey (R.PWR_DOMAIN_STATE (3 + k)).key) = true := by decide
  have hdropped : ∀ e : Fin 48, (keepKey (R.ENG_STATUS_STATE e).key || rtcKey (R.ENG_STATUS_STATE e).key) = false := by decide
  have hdomain : (d.warmStart.warmBanks d).domain (3 + e / 12) = 1 :=
    (Dev.warmBanks_get _ _ fun n _ => by have := domainKey (3 + e / 12); simp only [Fld.key, R.BANK_POWER_STATE, R.PWR_DOMAIN_STATE] at *; omega).trans
      ((d.warmStart_kept (hkept ⟨e / 12, by omega⟩)).trans h)
  have hidle : (d.warmStart.warmBanks d).engState e = 1 :=
    (Dev.warmBanks_get _ _ fun n _ => by simp only [Fld.key, R.BANK_POWER_STATE, R.ENG_STATUS_STATE]; omega).trans (d.warmStart_reset (hdropped ⟨e, he⟩))
  refine Eq.trans ?_ ((Dev.warmEngines_engState _ (by omega)).trans hidle)
  exact (Dev.get_set_ne _ _ _ _ (by simp only [Fld.key, R.ENG_STATUS_STATE, R.SYS_RESET_CAUSE]; omega)).trans
    (Dev.get_set_ne _ _ _ _ (by simp only [Fld.key, R.ENG_STATUS_STATE, R.OWN_TIMEOUT]; omega))

theorem State.warmReset_dev (s : State) (bit : Nat) : (s.warmReset bit).dev = (s.dev.warmed bit).emit (.reset false) := by
  rw [State.warmReset_eq, Dev.warmed]

theorem State.warmReset_mem (s : State) (bit : Nat) : (s.warmReset bit).mem = Mem.clearRange s.mem (bar0Mem 0x20000) 0x10000 := by
  rw [State.warmReset_eq]

theorem State.warmReset_pending (s : State) (bit : Nat) : (s.warmReset bit).pending = s.pending := by
  rw [State.warmReset_eq]

/-- The time bases of a warm reset: a load that waited is dropped, their values stay (R107). -/
theorem Dev.warmStart_tb (d : Dev) (n : Nat) : (d.warmStart.tb n).val = (d.tb n).val := by
  have hfind : ∀ t : Tab TimeBase, Tab.find? (t.map fun e => (e.1, { e.2 with setPend := none })) n =
      (Tab.find? t n).map fun x => { x with setPend := none } := by
    intro t
    induction t with
    | nil => rfl
    | cons e r ih =>
      obtain ⟨k, x⟩ := e
      by_cases hk : k = n
      · simp [Tab.find?, hk]
      · simp [Tab.find?, hk, ih]
  have hmap : d.warmStart.tb n = ((Tab.find? d.time.tbs n).map fun x => { x with setPend := none }).getD {} := by
    rw [← hfind]
    rfl
  rw [hmap, Dev.tb, Tab.getD]
  cases Tab.find? d.time.tbs n <;> rfl

theorem Dev.owner_emit (d : Dev) (o : Output) : (d.emit o).owner = d.owner := rfl

theorem Dev.engState_emit (d : Dev) (o : Output) (e : Nat) : (d.emit o).engState e = d.engState e := rfl

/-- What the device is after a warm reset. -/
theorem Dev.warmed_effect (d : Dev) {bit mask : Nat} (h : bit < 6) (hmask : 2 ^ bit = mask) :
    (d.warmed bit).get R.SYS_RESET_CAUSE = d.get R.SYS_RESET_CAUSE ||| mask ∧ (d.warmed bit).sys.starting = true ∧ (d.warmed bit).sys.cold = false ∧
    (d.warmed bit).sys.warmAt = none ∧ (d.warmed bit).owner = none ∧ (d.warmed bit).upd.active = false ∧ (d.warmed bit).get R.STRIDE_CTRL_RUN = 0 ∧
    (d.warmed bit).get R.OWN_TIMEOUT = d.host.record.ownTimeout % 2 ^ 16 ∧ (d.warmed bit).get R.SYS_STRAP_BOOT_SEL = d.get R.SYS_STRAP_BOOT_SEL ∧
    (d.warmed bit).now = d.now ∧ (∀ n, ((d.warmed bit).tb n).val = (d.tb n).val) ∧
    ∀ e < 48, d.domain (3 + e / 12) = 1 → (d.warmed bit).engState e = 1 := by
  have hrest := (d.warmed_frame bit).rest
  have hrun : (d.warmed bit).get R.STRIDE_CTRL_RUN = 0 :=
    (d.warmed_get bit (fun n _ => by simp only [Fld.key, R.BANK_POWER_STATE, R.STRIDE_CTRL_RUN]; omega)
      (fun e _ => by simp only [Fld.key, R.ENG_STATUS_STATE, R.STRIDE_CTRL_RUN]; omega) (by decide) (by decide)).trans (d.warmStart_reset (by decide))
  have howner : (d.warmed bit).owner = none :=
    Dev.owner_none _ ((d.warmed_low bit (by decide) (by decide) (by decide)).trans (d.warmStart_reset (by decide)))
  have hsel : (d.warmed bit).get R.SYS_STRAP_BOOT_SEL = d.get R.SYS_STRAP_BOOT_SEL :=
    (d.warmed_low bit (by decide) (by decide) (by decide)).trans (d.warmStart_kept (by decide))
  refine ⟨hmask ▸ d.warmed_cause h, by rw [hrest]; rfl, by rw [hrest]; rfl, by rw [hrest]; rfl, howner, by rw [hrest]; rfl, hrun, ?_, hsel, by rw [hrest]; rfl,
    fun n => ?_, fun e he => d.warmed_engState bit he⟩
  · exact (Dev.get_set_ne _ _ _ _ (by decide)).trans (Dev.get_set_same ..)
  · have htime : (d.warmed bit).time = d.warmStart.time := by rw [hrest]
    rw [← d.warmStart_tb n, Dev.tb, htime, Dev.tb]

end Sys2Proof.Machine
end

section
/-! PROOFS. Start-up (R106, R657, R678, R696, R706, R708). -/

namespace Sys2Proof.Machine
open Sys2Proof Sys2Proof.Safety

/-- From `d` to `d'` fields of a list change and events come; what MRAM, the record and the system part hold stays. -/
structure StartFrame (fs : List Fld) (d d' : Dev) : Prop where
  get : ∀ g : Fld, block g ≠ 3 → (∀ f ∈ fs, g.key ≠ f.key) → d'.get g = d.get g
  upd : d'.upd = d.upd
  sys : d'.sys = d.sys
  host : d'.host = d.host

section
variable {fs : List Fld} {a b c d : Dev}

theorem StartFrame.refl (d : Dev) : StartFrame fs d d := ⟨fun _ _ _ => rfl, rfl, rfl, rfl⟩

theorem StartFrame.trans (h1 : StartFrame fs a b) (h2 : StartFrame fs b c) : StartFrame fs a c :=
  ⟨fun g hb hg => (h2.get g hb hg).trans (h1.get g hb hg), h2.upd.trans h1.upd, h2.sys.trans h1.sys, h2.host.trans h1.host⟩

theorem StartFrame.set (h : StartFrame fs d a) {f : Fld} (hf : f ∈ fs) (v : Nat) : StartFrame fs d (a.set f v) :=
  h.trans ⟨fun _ _ hg => Dev.get_set_ne _ _ _ _ (hg f hf), rfl, rfl, rfl⟩

theorem StartFrame.event (h : EventFrame a b) : StartFrame fs a b := ⟨fun g hb _ => h.get g hb, by rw [h.rest], by rw [h.rest], by rw [h.rest]⟩

theorem StartFrame.cause (h : StartFrame fs d a) {f : Fld} (hf : f ∈ fs) (en : Bool) {ev : Nat} (hev : ev < 256) : StartFrame fs d (a.cause f en ev) :=
  (h.set hf 1).trans (.event (.cause a f en ev hev))

theorem StartFrame.foldl {α : Type} {l : List α} {f : Dev → α → Dev} (h : StartFrame fs d a)
    (hf : ∀ b x, x ∈ l → StartFrame fs d b → StartFrame fs d (f b x)) : StartFrame fs d (l.foldl f a) :=
  List.foldlRecOn (motive := StartFrame fs d) _ _ h fun b hb x hx => hf b x hx hb

end

theorem StartFrame.mono {fs gs : List Fld} {d d' : Dev} (h : StartFrame fs d d') (hsub : fs ⊆ gs) : StartFrame gs d d' :=
  ⟨fun g hb hg => h.get g hb fun f hf => hg f (hsub hf), h.upd, h.sys, h.host⟩

/-! ### Before the check of Pip (R106, R695, R702, R706, R708) -/

/-- The fields that the time domain and the clocks set as it leaves reset. -/
def clockFields : List Fld := [R.SYS_DIAG_STRAP_ERR, R.SYS_CLK_REF156_OK, R.SYS_CLK_RTC_OK] ++ (List.range 8).map R.TB_STATUS_SEED_INVALID

theorem StartFrame.seedTimeBases {d a : Dev} (h : StartFrame clockFields d a) : StartFrame clockFields d a.seedTimeBases := by
  have htb (b : Dev) (hb : StartFrame clockFields d b) (n : Nat) (x : TimeBase) : StartFrame clockFields d (b.setTb n x) :=
    hb.trans ⟨fun _ _ _ => rfl, rfl, rfl, rfl⟩
  unfold Dev.seedTimeBases
  refine StartFrame.foldl (htb a h 0 {}) fun b n hn hb => ?_
  have hn8 : n < 8 := by simp only [List.mem_cons, List.not_mem_nil, or_false] at hn; omega
  split
  · exact htb b hb n _
  · exact (htb b hb n {}).cause (List.mem_append_right _ (List.mem_map.mpr ⟨n, List.mem_range.mpr hn8, rfl⟩)) _ (by omega)

theorem StartFrame.coldStart (d : Dev) (strap : Nat) : StartFrame clockFields (d.set R.SYS_STRAP_BOOT_SEL strap) (d.coldStart strap) := by
  have hseed := (StartFrame.refl (d.set R.SYS_STRAP_BOOT_SEL strap)).seedTimeBases
  unfold Dev.coldStart
  split
  · exact hseed.cause (by decide) _ (by decide)
  · exact hseed

theorem StartFrame.clockBits {d a : Dev} {fs : List Fld} (h : StartFrame fs d a) (hfs : [R.SYS_CLK_REF156_OK, R.SYS_CLK_RTC_OK] ⊆ fs) :
    StartFrame fs d a.clockBits := (h.set (hfs (by simp)) _).set (hfs (by simp)) _

theorem Dev.coldStart_strapErr (d : Dev) {strap : Nat} (h : 4 ≤ strap) : (d.coldStart strap).get R.SYS_DIAG_STRAP_ERR = 1 := by
  simp only [Dev.coldStart, if_pos h]
  exact Dev.cause_get_same _ _ _ _ (by decide) (by decide)

/-- The device as start-up begins: it starts no more, and the outputs are released (R706). -/
def Dev.entered (d : Dev) : Dev := (d.withSys (fun y => { y with starting := false })).withPwr (fun p => { p with failsafe := false })

/-- The device after the steps before the check of Pip (R706). -/
def Dev.begun (d : Dev) (strap : Nat) (upset : Bool) : Dev :=
  let dm := if upset then d.entered.eccEvent 4 else d.entered
  (if d.sys.cold then dm.coldStart strap else dm).clockBits

/-- The fields that these steps set. -/
def earlyFields : List Fld := [R.SYS_DIAG_ECC_SRC, R.SYS_DIAG_ECC_UNCORR, R.SYS_STRAP_BOOT_SEL] ++ clockFields

section
variable (d : Dev) {strap : Nat} {upset : Bool}

theorem StartFrame.started (a : Dev) (cold : Bool) :
    StartFrame (R.SYS_STRAP_BOOT_SEL :: clockFields) a (if cold then a.coldStart strap else a).clockBits := by
  have hclocks : [R.SYS_CLK_REF156_OK, R.SYS_CLK_RTC_OK] ⊆ R.SYS_STRAP_BOOT_SEL :: clockFields := by decide
  split
  · refine StartFrame.clockBits (.trans (.set (.refl a) (List.mem_cons_self ..) strap) ?_) hclocks
    exact (StartFrame.coldStart a strap).mono (List.subset_cons_self ..)
  · exact StartFrame.clockBits (.refl a) hclocks

/-- What the steps leave of the fields that the error in MRAM sets, or that nothing sets before them. -/
theorem StartFrame.begun_upset :
    StartFrame (R.SYS_STRAP_BOOT_SEL :: clockFields) (if upset then d.entered.eccEvent 4 else d.entered) (d.begun strap upset) := by
  unfold Dev.begun
  exact .started _ _

theorem StartFrame.begun : StartFrame earlyFields d.entered (d.begun strap upset) := by
  refine StartFrame.trans ?_ ((StartFrame.begun_upset d).mono (by decide))
  split
  · exact .cause (.set (.refl _) (by decide) 4) (by decide) _ (by decide)
  · exact .refl _

theorem Dev.begun_ecc (h : upset = true) : (d.begun strap upset).get R.SYS_DIAG_ECC_UNCORR = 1 := by
  rw [(StartFrame.begun_upset d).get R.SYS_DIAG_ECC_UNCORR (by decide) (by decide), if_pos h]
  exact Dev.cause_get_same _ _ _ _ (by decide) (by decide)

theorem Dev.begun_cold (h : d.sys.cold = true) : ∃ a : Dev, d.begun strap upset = (a.coldStart strap).clockBits := by
  unfold Dev.begun
  extract_lets dm
  exact ⟨dm, by rw [if_pos h]⟩

theorem Dev.begun_strap (hstrap : strap < 8) (h : d.sys.cold = true) : (d.begun strap upset).get R.SYS_STRAP_BOOT_SEL = strap ∧
    (4 ≤ strap → (d.begun strap upset).get R.SYS_DIAG_STRAP_ERR = 1) := by
  obtain ⟨a, ha⟩ := d.begun_cold (strap := strap) (upset := upset) h
  rw [ha]
  constructor
  · rw [((StartFrame.coldStart a strap).clockBits (by decide)).get R.SYS_STRAP_BOOT_SEL (by decide) (by decide)]
    exact Dev.get_set_of_lt _ _ hstrap
  · intro h4
    have hclocks : StartFrame [R.SYS_CLK_REF156_OK, R.SYS_CLK_RTC_OK] (a.coldStart strap) (a.coldStart strap).clockBits := .clockBits (.refl _) (by simp)
    exact (hclocks.get R.SYS_DIAG_STRAP_ERR (by decide) (by decide)).trans (a.coldStart_strapErr h4)

theorem Dev.begun_warm (h : d.sys.cold = false) : (d.begun strap upset).get R.SYS_STRAP_BOOT_SEL = d.get R.SYS_STRAP_BOOT_SEL := by
  have hframe : StartFrame [R.SYS_DIAG_ECC_SRC, R.SYS_DIAG_ECC_UNCORR, R.SYS_CLK_REF156_OK, R.SYS_CLK_RTC_OK] d.entered (d.begun strap upset) := by
    unfold Dev.begun
    extract_lets dm
    rw [if_neg (by simp [h])]
    refine StartFrame.clockBits ?_ (by simp)
    unfold dm
    split
    · exact .cause (.set (.refl _) (by simp) 4) (by simp) _ (by decide)
    · exact .refl _
  exact hframe.get _ (by decide) (by decide)

end

/-! ### The record and the management ports (R567, R657, R658) -/

/-- The record by which the device starts: that of MRAM, or the values of R658. -/
def Dev.startRecord (d : Dev) : DevRecord := if recordOk d.upd.record then recordOf d.upd.record else {}

/-- The record taken, and whether it is malformed. -/
def Dev.recordTaken (d : Dev) : Dev :=
  { d with host := { d.host with record := d.startRecord } }.set R.SEC_STATUS_RECORD_BAD (if recordOk d.upd.record then 0 else 1)

/-- The fields that the record sets. -/
def recordFields : List Fld :=
  [R.HN_CTRL_NODE_ID, R.OWN_TIMEOUT, R.MGMT_VID, R.MGMT_PORTS, R.MGMT_MAC] ++ (List.range 4).map R.OWN_PORT_CLASS ++
  (List.range 26).map R.PORT_CTRL_MODE ++ (List.range 26).map R.PORT_CTRL_EN

theorem StartFrame.loadRecord (d : Dev) : StartFrame recordFields d.recordTaken d.loadRecord := by
  have hclasses (a : Dev) (r : DevRecord) (h : StartFrame recordFields d.recordTaken a) :
      StartFrame recordFields d.recordTaken ((List.range 4).foldl (fun (a : Dev) i => a.set (R.OWN_PORT_CLASS i) (r.classes.getD i 0)) a) := by
    refine h.foldl fun b i hi hb => hb.set ?_ _
    refine List.mem_append_left _ (List.mem_append_left _ (List.mem_append_right _ (List.mem_map.mpr ⟨i, hi, rfl⟩)))
  unfold Dev.loadRecord
  extract_lets ok r src d1 d2
  have h1 : StartFrame recordFields d.recordTaken d1 := .set (.refl _) (by decide) r.nodeId
  have h2 : StartFrame recordFields d.recordTaken d2 := hclasses d1 r h1
  exact (((h2.set (by decide) _).set (by decide) _).set (by decide) _).set (by decide) _

theorem StartFrame.mgmtPortsUp {d a : Dev} (h : StartFrame recordFields d a) : StartFrame recordFields d a.mgmtPortsUp := by
  refine h.foldl fun b p hp hb => ?_
  split
  · have hmode : R.PORT_CTRL_MODE p ∈ recordFields := List.mem_append_left _ (List.mem_append_right _ (List.mem_map.mpr ⟨p, hp, rfl⟩))
    have hen : R.PORT_CTRL_EN p ∈ recordFields := List.mem_append_right _ (List.mem_map.mpr ⟨p, hp, rfl⟩)
    exact (hb.set hmode _).set hen 1
  · exact hb

/-! ### The stored image (R677, R678) -/

/-- The fields that the outcome of the checks of the image sets. -/
def imageFields : List Fld :=
  [R.SEC_BOOT_RESULT, R.SEC_BOOT_BLOCK, R.SEC_STATUS_STORED_VALID, R.SEC_STATUS_COMPAT_EPOCH, R.SEC_STATUS_HN_EPOCH, R.SEC_VERSION, R.SEC_STATUS_RECOVERY]

/-- The checks of the image look at MRAM, the update state and FLOOR alone. -/
theorem bootCheck_congr (m : List Host.Cell) {d d' : Dev} (hupd : d'.upd = d.upd) (hfloor : d'.get R.SEC_STATUS_FLOOR = d.get R.SEC_STATUS_FLOOR) :
    bootCheck m d' = bootCheck m d := by
  simp only [bootCheck, hupd, hfloor]

theorem bootCheck_lt (m : List Host.Cell) (d : Dev) : (bootCheck m d).1 < 7 := by
  unfold bootCheck
  extract_lets size
  split
  · decide
  split
  · decide
  split
  · exact (by decide : 3 < 7)
  split
  · decide
  split
  · decide
  split <;> decide

/-- What the outcome of the checks leaves. -/
structure ImageBooted (m : List Host.Cell) (d d' : Dev) : Prop where
  get : ∀ g : Fld, (∀ f ∈ imageFields, g.key ≠ f.key) → d'.get g = d.get g
  result : d'.get R.SEC_BOOT_RESULT = (bootCheck m d).1
  bad : (bootCheck m d).1 ≠ 0 → d'.get R.SEC_STATUS_RECOVERY = 1
  good : (bootCheck m d).1 = 0 → d'.get R.SEC_VERSION = (imageInfo m).version % 2 ^ 32 ∧ d'.get R.SEC_STATUS_STORED_VALID = 1
  active : d'.upd.active = d.upd.active
  sys : d'.sys = d.sys
  host : d'.host = d.host

theorem Dev.bootOutcome_booted (d : Dev) (m : List Host.Cell) : ImageBooted m d (d.bootOutcome m) := by
  have hlt := bootCheck_lt m d
  unfold Dev.bootOutcome
  extract_lets b d1
  have h1 : d1.get R.SEC_BOOT_RESULT = b.1 := (Dev.get_set_ne _ _ _ _ (by decide)).trans (Dev.get_set_of_lt _ _ (show (bootCheck m d).1 < 16 by omega))
  have hget1 (g : Fld) (hg : ∀ f ∈ imageFields, g.key ≠ f.key) : d1.get g = d.get g :=
    (Dev.get_set_ne _ _ _ _ (hg _ (by decide))).trans (Dev.get_set_ne _ _ _ _ (hg _ (by decide)))
  split
  · next h0 =>
    refine ⟨fun g hg => ?_, ?_, fun h => absurd h0 h, fun _ => ⟨Dev.get_set_same .., ?_⟩, rfl, rfl, rfl⟩
    · exact (Dev.get_set_ne _ _ _ _ (hg _ (by decide))).trans ((Dev.get_set_ne _ _ _ _ (hg _ (by decide))).trans
        ((Dev.get_set_ne _ _ _ _ (hg _ (by decide))).trans ((Dev.get_set_ne _ _ _ _ (hg _ (by decide))).trans (hget1 g hg))))
    · refine Eq.trans ?_ h1
      exact (Dev.get_set_ne _ _ _ _ (by decide)).trans ((Dev.get_set_ne _ _ _ _ (by decide)).trans
        ((Dev.get_set_ne _ _ _ _ (by decide)).trans (Dev.get_set_ne _ _ _ _ (by decide))))
    · exact (Dev.get_set_ne _ _ _ _ (by decide)).trans ((Dev.get_set_ne _ _ _ _ (by decide)).trans
        ((Dev.get_set_ne _ _ _ _ (by decide)).trans (Dev.get_set_same ..)))
  · next h0 =>
    exact ⟨fun g hg => (Dev.get_set_ne _ _ _ _ (hg _ (by decide))).trans (hget1 g hg), (Dev.get_set_ne _ _ _ _ (by decide)).trans h1,
      fun _ => Dev.get_set_same .., fun h => absurd h h0, rfl, rfl, rfl⟩

/-! ### The end of start-up (R664, R695, R696, R706) -/

/-- The fields that start-up writes at its end. -/
def lateFields : List Fld := [R.SEC_STATUS_KEY_VALID, R.SW_STATUS_READY, R.BRIDLE_STATUS_STATE, R.TB_STATUS_RTC_FAULT 0]

theorem StartFrame.showTrx {fs : List Fld} {d a : Dev} (h : StartFrame fs d a) : StartFrame fs d a.showTrx := by
  unfold Dev.showTrx
  extract_lets m d1
  have h1 : StartFrame fs d d1 := h.foldl fun b n _ hb => by
    split
    · exact hb.trans (.event (.emit _ _))
    · exact hb
  exact h1.trans ⟨fun _ _ _ => rfl, rfl, rfl, rfl⟩

theorem StartFrame.raiseSurvivors {fs : List Fld} {d a : Dev} (h : StartFrame fs d a) (hfs : R.TB_STATUS_RTC_FAULT 0 ∈ fs) :
    StartFrame fs d a.raiseSurvivors := by
  unfold Dev.raiseSurvivors
  extract_lets d1 d2
  have h1 : StartFrame fs d d1 := h.foldl fun b n hn hb => by
    have hn' := List.mem_range.mp hn
    split
    · exact hb.trans (.event (.raise _ _ (by omega)))
    · exact hb
  have h2 : StartFrame fs d d2 := h1.foldl fun b f _ hb => by
    split
    · exact hb.cause hfs _ (by decide)
    · exact hb
  split
  · exact h2
  · exact h2.trans (.event (.raise _ _ (by decide)))

/-- The device with the record, the management ports and the stored image, before its last steps. -/
def Dev.loaded (d : Dev) (m : List Host.Cell) : Dev := (d.loadRecord.mgmtPortsUp).bootOutcome m

/-- The device as the Bridle runs (R706); `key` is the value of KEY_VALID. -/
def Dev.running (d : Dev) (key : Nat) : Dev := (((d.set R.SEC_STATUS_KEY_VALID key).set R.SW_STATUS_READY 1).set R.BRIDLE_STATUS_STATE 1).showTrx

/-- The end of start-up. -/
def Dev.survived (d : Dev) : Dev := (d.withSys (fun y => { y with armed := true })).raiseSurvivors

theorem Dev.survived_frame (d : Dev) : StartFrame [R.TB_STATUS_RTC_FAULT 0] (d.withSys (fun y => { y with armed := true })) d.survived :=
  (StartFrame.refl _).raiseSurvivors (by simp)

/-- What the last steps leave, and the states they set. -/
theorem Dev.running_effect (d : Dev) (key : Nat) :
    (∀ g : Fld, block g ≠ 3 → (∀ f ∈ lateFields, g.key ≠ f.key) → ((d.running key).survived).get g = d.get g) ∧
    ((d.running key).survived).get R.BRIDLE_STATUS_STATE = 1 ∧ ((d.running key).survived).get R.SW_STATUS_READY = 1 ∧
    ((d.running key).survived).sys = { d.sys with armed := true } ∧ ((d.running key).survived).upd = d.upd ∧ ((d.running key).survived).host = d.host := by
  have hset : StartFrame lateFields d (((d.set R.SEC_STATUS_KEY_VALID key).set R.SW_STATUS_READY 1).set R.BRIDLE_STATUS_STATE 1) :=
    ((StartFrame.set (.refl d) (by decide) key).set (by decide) 1).set (by decide) 1
  have hready : (((d.set R.SEC_STATUS_KEY_VALID key).set R.SW_STATUS_READY 1).set R.BRIDLE_STATUS_STATE 1).get R.SW_STATUS_READY = 1 :=
    (Dev.get_set_ne _ _ _ _ (by decide)).trans (Dev.get_set_same ..)
  have hstate : (((d.set R.SEC_STATUS_KEY_VALID key).set R.SW_STATUS_READY 1).set R.BRIDLE_STATUS_STATE 1).get R.BRIDLE_STATUS_STATE = 1 :=
    Dev.get_set_same ..
  unfold Dev.running
  generalize ((d.set R.SEC_STATUS_KEY_VALID key).set R.SW_STATUS_READY 1).set R.BRIDLE_STATUS_STATE 1 = a at hset hready hstate
  have hshow : StartFrame [R.TB_STATUS_RTC_FAULT 0] a a.showTrx := (StartFrame.refl a).showTrx
  have hend := a.showTrx.survived_frame
  have hget (g : Fld) (hb : block g ≠ 3) (hg : g.key ≠ (R.TB_STATUS_RTC_FAULT 0).key) : a.showTrx.survived.get g = a.get g :=
    (hend.get g hb (by simpa using hg)).trans (hshow.get g hb (by simpa using hg))
  refine ⟨fun g hb hg => (hget g hb (hg _ (by decide))).trans (hset.get g hb hg), (hget _ (by decide) (by decide)).trans hstate,
    (hget _ (by decide) (by decide)).trans hready, hend.sys.trans ?_, hend.upd.trans (hshow.upd.trans hset.upd), hend.host.trans (hshow.host.trans hset.host)⟩
  exact congrArg (fun y : SysSt => { y with armed := true }) (hshow.sys.trans hset.sys)

/-- What the record, the management ports and the stored image leave. -/
theorem Dev.loaded_effect (d : Dev) (m : List Host.Cell) :
    (∀ g : Fld, block g ≠ 3 → (∀ f ∈ R.SEC_STATUS_RECORD_BAD :: recordFields ++ imageFields, g.key ≠ f.key) → (d.loaded m).get g = d.get g) ∧
    (d.loaded m).host.record = d.startRecord ∧ (d.loaded m).get R.SEC_STATUS_RECORD_BAD = (if recordOk d.upd.record then 0 else 1) ∧
    (d.loaded m).get R.SEC_BOOT_RESULT = (bootCheck m d).1 ∧ ((bootCheck m d).1 ≠ 0 → (d.loaded m).get R.SEC_STATUS_RECOVERY = 1) ∧
    ((bootCheck m d).1 = 0 → (d.loaded m).get R.SEC_VERSION = (imageInfo m).version % 2 ^ 32 ∧ (d.loaded m).get R.SEC_STATUS_STORED_VALID = 1) ∧
    (d.loaded m).upd.active = d.upd.active ∧ (d.loaded m).sys = d.sys := by
  have hrecord := (StartFrame.loadRecord d).mgmtPortsUp
  have hbooted := d.loadRecord.mgmtPortsUp.bootOutcome_booted m
  have hcheck : bootCheck m d.loadRecord.mgmtPortsUp = bootCheck m d :=
    bootCheck_congr m hrecord.upd ((hrecord.get _ (by decide) (by decide)).trans (Dev.get_set_ne _ _ _ _ (by decide)))
  obtain ⟨hget, hresult, hbad, hgood, hactive, hsys, hhost⟩ := hbooted
  rw [hcheck] at hresult hbad hgood
  refine ⟨fun g hb hg => ?_, (congrArg HostSt.record hhost).trans (congrArg HostSt.record hrecord.host), ?_, hresult, hbad, hgood, ?_, hsys.trans hrecord.sys⟩
  · refine (hget g fun f hf => hg f (List.mem_append_right _ hf)).trans ((hrecord.get g hb fun f hf => ?_).trans ?_)
    · exact hg f (List.mem_append_left _ (List.mem_cons_of_mem _ hf))
    · exact Dev.get_set_ne _ _ _ _ (hg _ (List.mem_append_left _ (List.mem_cons_self ..)))
  · refine (hget _ (by decide)).trans ((hrecord.get _ (by decide) (by decide)).trans ?_)
    refine Dev.get_set_of_lt _ _ ?_
    split <;> decide
  · exact hactive.trans (congrArg UpdSt.active hrecord.upd)

/-- The device in which a RUN strap acts. -/
def Dev.startedWith (d : Dev) (strap : Nat) (upset : Bool) (m : List Host.Cell) : Dev :=
  ((d.begun strap upset).loaded m).running (if (d.begun strap upset).upd.hasKey then 1 else 0)

/-! ### Start-up as a whole -/

section
variable {s : State} {strap : Nat} {upset : Bool}

theorem State.startup_idle (h : s.dev.sys.starting = false ∨ s.dev.isHeld = true ∨ s.dev.pwr.asleep = true) : s.startup strap upset = s := by
  unfold State.startup
  rw [if_pos]
  rcases h with h | h | h <;> simp [h]

variable (hstart : s.dev.sys.starting = true) (hheld : s.dev.isHeld = false) (hasleep : s.dev.pwr.asleep = false)
include hstart hheld hasleep

/-- A failed check of Pip stops the device (R678). -/
theorem State.startup_stops (hpip : Config.pipValid (Mem.bytes s.mem mramBase 0x10000) = false) :
    s.startup strap upset = s.on fun d => ((d.begun strap upset).withSys (fun y => { y with stopped := true })).emit (.reset true) := by
  unfold State.startup
  refine (if_neg (by simp [hstart, hheld, hasleep])).trans ((if_pos (by simp [hpip])).trans ?_)
  rfl

/-- The state in which a RUN strap acts. -/
def State.started (s : State) (strap : Nat) (upset : Bool) : State := s.on fun d => d.startedWith strap upset s.mem

theorem State.startup_runs (hpip : Config.pipValid (Mem.bytes s.mem mramBase 0x10000) = true) :
    s.startup strap upset =
      (if s.dev.sys.cold && (strap == 0 || strap == 2) then (s.started strap upset).strapRun else s.started strap upset).on fun d => d.survived := by
  unfold State.startup
  refine (if_neg (by simp [hstart, hheld, hasleep])).trans ((if_neg (by simp [hpip])).trans ?_)
  rfl

end

end Sys2Proof.Machine
end

section
/-! PROOFS. The statement about resets and start-up: POR_N, WARM_N, RESET's warm reset, TEST_EN, and the start-up by its conditions. -/

namespace Sys2Proof.Machine
open Sys2Proof Sys2Proof.Safety

/-! ### Warm resets (R594, R704) -/

theorem exec_warmReset (s : State) : exec .warmReset s = .next s.warmPin := rfl

theorem exec_warmCmd (s : State) : exec .warmCmd s = .next s.warmCmd := rfl

theorem State.warmPin_held {s : State} (h : s.dev.isHeld = true) : s.warmPin = s := if_pos h

theorem State.warmPin_free {s : State} (h : s.dev.isHeld = false) : s.warmPin = s.warmReset 1 := by
  unfold State.warmPin
  rw [if_neg (by simp [h])]

theorem State.warmCmd_none {s : State} (h : s.dev.sys.warmAt = none) : s.warmCmd = s := by
  unfold State.warmCmd
  rw [h]

theorem State.warmCmd_held {s : State} (h : s.dev.isHeld = true) : s.warmCmd = s := by
  unfold State.warmCmd
  split
  · rw [if_pos h]
  · rfl

theorem State.warmCmd_due {s : State} {at' : Nat} (hat : s.dev.sys.warmAt = some at') (h : s.dev.isHeld = false) :
    s.warmCmd = (s.on fun d => d.passNs (at' - d.now)).warmReset 2 := by
  unfold State.warmCmd
  rw [hat]
  dsimp only
  rw [if_neg (by simp [h])]

/-- The reset cause is none of the fields that time itself changes. -/
theorem Dev.passNs_cause (d : Dev) (ns : Nat) : (d.passNs ns).get R.SYS_RESET_CAUSE = d.get R.SYS_RESET_CAUSE := (TimeFrame.passNs d ns).get _ (by decide)

theorem Dev.passNs_now (d : Dev) (ns : Nat) : d.now ≤ (d.passNs ns).now := by
  rw [Dev.passNs, Dev.ticks_now]
  exact Nat.le_add_right ..

/-! ### Start-up (R706) -/

theorem exec_startup (strap : Fin 8) (upset : Bool) (s : State) : exec (.startup strap upset) s = .next (s.startup strap upset) := rfl

/-- The device as its stored image is checked. -/
theorem Dev.begun_rest (d : Dev) (strap : Nat) (upset : Bool) : (d.begun strap upset).upd = d.upd ∧ (d.begun strap upset).host = d.host ∧
    (d.begun strap upset).sys = { d.sys with starting := false } :=
  have h := StartFrame.begun d (strap := strap) (upset := upset)
  ⟨h.upd, h.host, h.sys⟩

/-- The device as a RUN strap acts, or start-up ends: what was loaded is in force. -/
theorem Dev.started_effect (d : Dev) (strap : Nat) (upset : Bool) (m : List Host.Cell) (key : Nat) {a : Dev}
    (ha : a = ((d.begun strap upset).loaded m).running key) :
    a.survived.sys.starting = false ∧ a.survived.sys.armed = true ∧
    a.survived.get R.BRIDLE_STATUS_STATE = 1 ∧ a.survived.get R.SW_STATUS_READY = 1 ∧
    a.survived.host.record = (if recordOk d.upd.record then recordOf d.upd.record else {}) ∧
    a.survived.get R.SEC_STATUS_RECORD_BAD = (if recordOk d.upd.record then 0 else 1) ∧
    (bootCheck m d).1 = a.survived.get R.SEC_BOOT_RESULT ∧
    ((bootCheck m d).1 ≠ 0 → a.survived.get R.SEC_STATUS_RECOVERY = 1) ∧
    ((bootCheck m d).1 = 0 → a.survived.get R.SEC_VERSION = (imageInfo m).version % 2 ^ 32 ∧
      a.survived.get R.SEC_STATUS_STORED_VALID = 1) ∧
    (∀ g ∈ [R.SYS_DIAG_ECC_UNCORR, R.SYS_STRAP_BOOT_SEL, R.SYS_DIAG_STRAP_ERR], a.survived.get g = (d.begun strap upset).get g) ∧
    a.survived.upd.active = d.upd.active ∧
    a.survived.get R.STRIDE_CTRL_RUN = d.get R.STRIDE_CTRL_RUN := by
  obtain ⟨hupd, -, hsys⟩ := d.begun_rest strap upset
  have hfloor : (d.begun strap upset).get R.SEC_STATUS_FLOOR = d.get R.SEC_STATUS_FLOOR := (StartFrame.begun d).get _ (by decide) (by decide)
  obtain ⟨hget, hrecord, hbad, hresult, hrecovery, hgood, hactive, hsys'⟩ := (d.begun strap upset).loaded_effect m
  rw [bootCheck_congr m hupd hfloor] at hresult hrecovery hgood
  rw [hupd] at hbad hactive
  obtain ⟨hlate, hstate, hready, hsys'', hupd'', hhost''⟩ := ((d.begun strap upset).loaded m).running_effect key
  rw [← ha] at hlate hstate hready hsys'' hupd'' hhost''
  rw [hsys'', hsys', hsys, hupd'', hhost'', hrecord, Dev.startRecord, hupd, hactive]
  refine ⟨rfl, rfl, hstate, hready, rfl, (hlate _ (by decide) (by decide)).trans hbad, ((hlate _ (by decide) (by decide)).trans hresult).symm,
    fun h => (hlate _ (by decide) (by decide)).trans (hrecovery h), fun h => ⟨(hlate _ (by decide) (by decide)).trans (hgood h).1,
      (hlate _ (by decide) (by decide)).trans (hgood h).2⟩, fun g hg => ?_, rfl, ?_⟩
  rotate_left
  · exact ((hlate _ (by decide) (by decide)).trans (hget _ (by decide) (by decide))).trans ((StartFrame.begun d).get _ (by decide) (by decide))
  have hapart : ∀ g ∈ [R.SYS_DIAG_ECC_UNCORR, R.SYS_STRAP_BOOT_SEL, R.SYS_DIAG_STRAP_ERR],
      block g ≠ 3 ∧ (∀ f ∈ lateFields, g.key ≠ f.key) ∧ ∀ f ∈ R.SEC_STATUS_RECORD_BAD :: recordFields ++ imageFields, g.key ≠ f.key := by decide
  obtain ⟨hb, h1, h2⟩ := hapart g hg
  exact (hlate g hb h1).trans (hget g hb h2)

theorem Dev.survived_recovery (d : Dev) : d.survived.get R.SEC_STATUS_RECOVERY = d.get R.SEC_STATUS_RECOVERY :=
  d.survived_frame.get R.SEC_STATUS_RECOVERY (by decide) (by decide)

section
variable {s : State} {strap : Fin 8} {upset : Bool} (hstart : s.dev.sys.starting = true) (hheld : s.dev.isHeld = false) (hasleep : s.dev.pwr.asleep = false)
include hstart hheld hasleep

theorem exec_startup_stops (hpip : Config.pipValid (Mem.bytes s.mem mramBase 0x10000) = false) :
    ∃ t, exec (.startup strap upset) s = .next t ∧ t.dev.sys.stopped = true ∧ t.dev.coreOn = false ∧ t.mem = s.mem ∧
      t.dev.get R.BRIDLE_STATUS_STATE = s.dev.get R.BRIDLE_STATUS_STATE := by
  have hexec := exec_startup strap upset s
  rw [State.startup_stops hstart hheld hasleep hpip] at hexec
  refine ⟨_, hexec, rfl, ?_, rfl, (StartFrame.begun s.dev).get _ (by decide) (by decide)⟩
  simp [State.on, Dev.coreOn, Dev.isHeld, Dev.emit, Dev.withSys]

variable (hpip : Config.pipValid (Mem.bytes s.mem mramBase 0x10000) = true)
include hpip

theorem exec_startup_runs (hno : s.dev.sys.cold = false ∨ strap.val = 1 ∨ 2 < strap.val) :
    exec (.startup strap upset) s = .next ((s.started strap upset).on fun d => d.survived) := by
  rw [exec_startup, State.startup_runs hstart hheld hasleep hpip, if_neg]
  rcases hno with h | h | h
  · simp [h]
  · simp [h]
  · simp only [Bool.and_eq_true, Bool.or_eq_true, beq_iff_eq, not_and]
    omega

/-- With a RUN strap nothing is activated in RECOVERY. -/
theorem exec_startup_recovery (hrecovery : (s.dev.startedWith strap upset s.mem).survived.get R.SEC_STATUS_RECOVERY = 1) :
    exec (.startup strap upset) s = .next ((s.started strap upset).on fun d => d.survived) := by
  have hrec : (s.started strap upset).dev.get R.SEC_STATUS_RECOVERY = 1 := (Dev.survived_recovery _).symm.trans hrecovery
  have hstrap : (s.started strap upset).strapRun = s.started strap upset := if_pos (by simp [Dev.on, hrec])
  rw [exec_startup, State.startup_runs hstart hheld hasleep hpip, hstrap, ite_self]

end

/-- Settles O60: what a reset keeps of the register file, and the stages of start-up in their order. -/
theorem resetsAndStartup : Obligations.ResetsAndStartup := by
  unfold Obligations.ResetsAndStartup
  refine ⟨exec_powerOnReset, fun s h => ?_, fun s h => ?_, fun s h => ?_, fun s h => ?_, fun at' s hat h => ?_, exec_testEnHigh, fun strap upset s h => ?_,
    fun strap upset s hstart hheld hasleep hpip => ?_, fun strap upset s hstart hheld hasleep hno hpip => ?_,
    fun strap upset s hstart hheld hasleep _ _ hpip hbad => ?_⟩
  · rw [exec_warmReset, State.warmPin_held h]
  · obtain ⟨hcause, hstarting, hcold, -, howner, hactive, hrun, htimeout, hsel, hnow, htb, heng⟩ := s.dev.warmed_effect (bit := 1) (by decide) rfl
    have hexec := exec_warmReset s
    rw [State.warmPin_free h] at hexec
    refine ⟨_, hexec, s.warmReset_mem 1, s.warmReset_pending 1, ?_⟩
    rw [State.warmReset_dev]
    simp only [Dev.get_emit, Dev.emit_sys, Dev.emit_upd, Dev.emit_now, Dev.tb_emit, Dev.owner_emit, Dev.engState_emit]
    exact ⟨hcause, hstarting, hcold, howner, hactive, hrun, htimeout, hsel, hnow, htb, heng⟩
  · rw [exec_warmCmd, State.warmCmd_none h]
  · rw [exec_warmCmd, State.warmCmd_held h]
  · obtain ⟨hcause, hstarting, hcold, hat', -, -, -, -, -, hnow, -, -⟩ := (s.dev.passNs (at' - s.dev.now)).warmed_effect (bit := 2) (by decide) rfl
    have hexec := exec_warmCmd s
    rw [State.warmCmd_due hat h] at hexec
    refine ⟨_, hexec, ?_⟩
    rw [State.warmReset_dev, State.warmReset_mem, State.on_dev, State.on_mem, Dev.get_emit, Dev.emit_sys, Dev.emit_now]
    exact ⟨hat', hstarting, hcold, hcause.trans (congrArg (· ||| 4) (s.dev.passNs_cause _)), rfl, (s.dev.passNs_now _).trans_eq hnow.symm⟩
  · rw [exec_startup, State.startup_idle h]
  · exact exec_startup_stops hstart hheld hasleep hpip
  · have hsystem := Dev.started_effect s.dev strap upset s.mem _ (a := s.dev.startedWith strap upset s.mem) rfl
    obtain ⟨hstarted, harmed, hstate, hready, hrecord, hrecordBad, hresult, hbad, hgood, hearly, hactive, -⟩ := hsystem
    refine ⟨_, exec_startup_runs hstart hheld hasleep hpip hno, rfl, hstarted, harmed, hstate, hready, hrecord, hrecordBad, hresult, hbad, hgood,
      fun h => (hearly _ (by simp)).trans (Dev.begun_ecc _ h), fun h => (hearly _ (by simp)).trans (Dev.begun_strap _ strap.isLt h).1,
      fun h h4 => (hearly _ (by simp)).trans ((Dev.begun_strap _ strap.isLt h).2 h4), fun h => (hearly _ (by simp)).trans (Dev.begun_warm _ h), hactive⟩
  · have hsystem := Dev.started_effect s.dev strap upset s.mem _ (a := s.dev.startedWith strap upset s.mem) rfl
    obtain ⟨hstarted, -, hstate, -, -, -, -, hrecovery, -, -, hactive, hrun⟩ := hsystem
    refine ⟨_, exec_startup_recovery hstart hheld hasleep hpip (hrecovery hbad), rfl, hstarted, hstate, hrecovery hbad, hactive, hrun⟩

end Sys2Proof.Machine
end

section
/-! PROOFS. The statement about event routes, references, temperature and the swap edge: it fails for a device with cells in a slice past the last,
whose fill would show in a port's LINK. -/

namespace Sys2Proof.Machine
open Sys2Proof Sys2Proof.Safety

/-- A cell of a mapping rule on the way from port 0. -/
def strayCell : FCell := { id := 0, n := 0, src := 0, dst := 17, map := true }

/-- A device with link 1 up whose fabric is two slots behind and holds two cells in slice 0x3801. The switch has 40 slices, and the fill of this one
would lie at the address of PORT_STATUS of port 0. -/
def strayCells : State :=
  State.reset.on fun d => { (d.set (R.PORT_STATUS_LINK 1) 1) with now := 2, fab := { slices := [(0x3801, strayCell), (0x3801, strayCell)] } }

/-- Link 1 goes down, the fabric catches up, one cell leaves the slice, and the fill that is left shows as LINK of port 0. -/
theorem strayCells_refLoss_linkUp : (strayCells.dev.refLoss 0).linkUp 0 = true := by decide +kernel

theorem exec_referenceLoss (r : Fin 3) (s : State) : exec (.referenceLoss r) s = .next (s.on fun d => d.refLoss r.val) := rfl

/-- Refutes O59: the clause on the 156.25 MHz reference says that every link is down after its loss, of every state. The fabric's slots that link 1's
going down brings up to date write the fill of each slice that holds cells, and in `strayCells` that is the LINK of port 0, which the loss had
cleared. No run from reset reaches such a state; the statement has no hypothesis that excludes it. -/
theorem not_eventRoutesAndSensors : ¬ Obligations.EventRoutesAndSensors := by
  unfold Obligations.EventRoutesAndSensors
  rintro ⟨-, -, -, -, -, -, -, -, hloss, -⟩
  obtain ⟨t, ht, -, -, hlinks, -⟩ := hloss strayCells rfl
  have hst := Host.Outcome.next.inj ((exec_referenceLoss 0 strayCells).symm.trans ht)
  have hup : t.dev.linkUp 0 = true := by rw [← hst, State.on_dev]; exact strayCells_refLoss_linkUp
  rw [hlinks 0 (by omega)] at hup
  exact Bool.false_ne_true hup

end Sys2Proof.Machine
end

section
/-! PROOFS. What a reply leaves of the commands in progress (R558). -/

namespace Sys2Proof.Machine
open Sys2Proof Sys2Proof.Safety

/-! ### What a reply leaves of the commands in progress -/

/-- The commands in progress stay, and a restart that was due stays due. -/
structure SameTasks (d d' : Dev) : Prop where
  tasks : d'.bridle.tasks = d.bridle.tasks
  restart : d'.bridle.restart = d.bridle.restart

theorem SameTasks.of_bridle {d d' : Dev} (h : d'.bridle = d.bridle) : SameTasks d d' := ⟨by rw [h], by rw [h]⟩

theorem SameTasks.refl (d : Dev) : SameTasks d d := ⟨rfl, rfl⟩

theorem SameTasks.trans {a b c : Dev} (h1 : SameTasks a b) (h2 : SameTasks b c) : SameTasks a c :=
  ⟨h2.tasks.trans h1.tasks, h2.restart.trans h1.restart⟩

theorem SameTasks.set (d : Dev) (f : Fld) (v : Nat) : SameTasks d (d.set f v) := .of_bridle rfl

theorem SameTasks.event {d d' : Dev} (h : EventFrame d d') : SameTasks d d' := .of_bridle (by rw [h.rest])

theorem SameTasks.fab {d d' : Dev} (h : FabFrame d d') : SameTasks d d' := .of_bridle (by rw [h.rest])

/-- A fragment that is posted for the host rings no engine awake (R576). -/
theorem SameTasks.mbGo (s : State) {n : Nat} (hn : n < 16) : SameTasks s.dev (s.mbGo n 1).dev := by
  obtain ⟨d', hbell, hevent⟩ := (s.on fun _ => s.dev.mbPosted n 1).mbBell_event (k := 1) hn (absurd rfl)
  have hfirst : SameTasks s.dev (s.dev.mbPosted n 1) := .of_bridle rfl
  rw [State.on_dev] at hevent
  have hpost : SameTasks s.dev d' := hfirst.trans (.event hevent)
  rw [State.mbGo_eq, hbell]
  split
  · rw [State.on_dev, State.on_dev]
    unfold Dev.mbCross
    exact ((hpost.trans (.set ..)).trans (.set ..)).trans (.event ((EventFrame.mbHost _ hn _).trans (.mbDevice _)))
  · rw [State.on_dev]
    exact hpost

theorem SameTasks.mbPump (s : State) {n : Nat} (hn : n < 16) : SameTasks s.dev (s.mbPump n).dev := by
  unfold State.mbPump
  split
  · exact .refl _
  · split
    · exact .refl _
    · extract_lets more left s1 s2
      have h2 : SameTasks s.dev s2.dev := ⟨rfl, rfl⟩
      clear_value s2
      exact h2.trans (.mbGo s2 hn)

theorem SameTasks.sendPacket (s : State) (r : CmdReq) (packet : List Byte) : SameTasks s.dev (s.sendPacket r packet).dev := by
  unfold State.sendPacket
  extract_lets s1
  have h1 : SameTasks s.dev s1.dev := .of_bridle rfl
  clear_value s1
  split
  · refine SameTasks.trans (h1.trans ?_) (.mbPump _ (n := r.port.val) (by omega))
    exact ⟨rfl, rfl⟩
  · split
    · rw [State.on_dev]
      exact h1.trans (.of_bridle (LinkFrame.enterFrame ..).bridle)
    · exact h1.trans (.of_bridle rfl)

/-- A reply leaves the commands in progress as they are (R558). -/
theorem SameTasks.answer (s : State) (op : Nat) (r : CmdReq) (st det : Nat) (ps : List Byte) : SameTasks s.dev (s.answer op r st det ps).dev := by
  unfold State.answer
  split
  · exact .refl _
  · exact .sendPacket ..

end Sys2Proof.Machine
end

section
/-! PROOFS. The transmitter of a port leaves the Bridle's commands alone (R174 to R177, R191 to R196): a port that SET_PORT_ENABLE disables once its reply
has left (R605). -/

namespace Sys2Proof.Machine
open Sys2Proof Sys2Proof.Safety

theorem SameTasks.time {d d' : Dev} (h : TimeFrame d d') : SameTasks d d' := .of_bridle (by rw [h.rest])

theorem SameTasks.foldl {α : Type} {f : Dev → α → Dev} (h : ∀ a x, SameTasks a (f a x)) (d : Dev) (l : List α) : SameTasks d (l.foldl f d) :=
  List.foldlRecOn (motive := SameTasks d) _ _ (.refl d) fun a ha x _ => ha.trans (h a x)

variable (d : Dev)

theorem SameTasks.inc (f : Fld) : SameTasks d (d.inc f) := .set ..

theorem SameTasks.withFab (f : FabSt → FabSt) : SameTasks d (d.withFab f) := .of_bridle rfl

theorem SameTasks.emit (o : Output) : SameTasks d (d.emit o) := .of_bridle rfl

theorem SameTasks.cause (f : Fld) (en : Bool) {ev : Nat} (h : ev < 256) : SameTasks d (d.cause f en ev) :=
  (SameTasks.set d f 1).trans (.event (.cause d f en ev h))

theorem SameTasks.swCause (f : Fld) (b : Nat) : SameTasks d (d.swCause f b) := .fab (.swCause ..)

theorem SameTasks.takeCopy (c : Copy) : SameTasks d (d.takeCopy c) := .fab (.takeCopy ..)

theorem SameTasks.fabSync : SameTasks d d.fabSync := .fab (.fabSync d)

theorem SameTasks.passNs (ns : Nat) : SameTasks d (d.passNs ns) := .time (.passNs ..)

theorem SameTasks.endTx (j : Nat) : SameTasks d (d.endTx j) := .of_bridle (LinkFrame.endTx d j).bridle

/-! ### What an output waits for (R174, R176) -/

theorem SameTasks.fabUntil (p : Dev → Bool) (n : Nat) : SameTasks d (d.fabUntil p n) := by
  induction n generalizing d with
  | zero => exact .refl d
  | succ n ih =>
    unfold Dev.fabUntil
    split
    · exact .refl d
    · split
      · exact (SameTasks.fab (.fabSlot d _)).trans (ih _)
      · exact .refl d

theorem SameTasks.fabWait (p : Dev → Bool) : SameTasks d (d.fabWait p) := by
  unfold Dev.fabWait
  extract_lets d0 d1
  have h0 : SameTasks d d0 := .fabSync d
  have h1 : SameTasks d d1 := h0.trans (.fabUntil ..)
  clear_value d0 d1
  split
  · exact h0
  · exact (h1.trans (.passNs ..)).trans (.fabSync _)

theorem SameTasks.awaitAny (j : Nat) : SameTasks d (d.awaitAny j) := .fabWait ..

theorem SameTasks.awaitCopy (j : Nat) (c : Copy) : SameTasks d (d.awaitCopy j c) := (SameTasks.withFab d _).trans (.fabWait ..)

theorem SameTasks.awaitWake (p : Nat) : SameTasks d (d.awaitWake p) := by
  unfold Dev.awaitWake
  split
  · next t _ =>
    exact (SameTasks.passNs d (t - d.now)).trans (.of_bridle rfl)
  · exact .refl d

/-! ### Frames that are dropped, started, cut off and ended -/

theorem SameTasks.ageDrop (j : Nat) (c : Copy) : SameTasks d (d.ageDrop j c) := ((SameTasks.takeCopy d c).trans (.inc ..)).trans (.swCause ..)

section
variable {p : Nat} (hp : p < 26)
include hp

theorem SameTasks.tsEvent : SameTasks d (d.tsEvent p) := .cause d _ _ (by omega)

theorem SameTasks.launchDrop (c : Copy) : SameTasks d (d.launchDrop p c) := ((SameTasks.takeCopy d c).trans (.inc ..)).trans (.tsEvent _ hp)

theorem SameTasks.purgeHeads (n : Nat) : SameTasks d (d.purgeHeads p n) := by
  induction n generalizing d with
  | zero => exact .refl d
  | succ n ih =>
    unfold Dev.purgeHeads
    split
    · exact .refl d
    · refine SameTasks.trans ?_ (ih _)
      split
      · exact .takeCopy ..
      · split
        · exact (SameTasks.takeCopy d _).trans (.inc ..)
        · exact .launchDrop d hp _

omit hp in
theorem SameTasks.makeTx (off : Int) (c : Copy) : SameTasks d (d.makeTx p off c).2 := by
  unfold Dev.makeTx
  extract_lets a n r
  dsimp only
  split
  · exact .inc ..
  · exact .refl d

omit hp in
theorem SameTasks.startFrame (t : TxFrame) : SameTasks d (d.startFrame p t) := (SameTasks.inc d _).trans (.withFab ..)

/-- The selection at an output that sends nothing (R191 to R193). -/
theorem SameTasks.portStart (off : Int) (n : Nat) : SameTasks d (d.portStart p off n) := by
  induction n generalizing d off with
  | zero => exact .refl d
  | succ n ih =>
    unfold Dev.portStart
    extract_lets d0 off'
    have h0 : SameTasks d d0 := (SameTasks.awaitAny d p).trans (.purgeHeads _ hp _)
    clear_value d0
    split
    · exact h0
    next c _ =>
    split
    · exact ((h0.trans (.takeCopy ..)).trans (.inc ..)).trans (ih ..)
    split
    · exact (h0.trans (.awaitCopy ..)).trans (ih ..)
    split
    · exact (h0.trans (.awaitWake ..)).trans (ih ..)
    split
    · exact (h0.trans (.ageDrop ..)).trans (ih ..)
    split
    · exact (h0.trans (.launchDrop _ hp _)).trans (ih ..)
    · extract_lets d2 t
      have h2 : SameTasks d d2 := by
        unfold d2
        split
        · exact (h0.trans (.inc ..)).trans (.tsEvent _ hp)
        · exact h0
      clear_value d2
      exact (h2.trans (.makeTx ..)).trans (.startFrame ..)

omit hp in
theorem SameTasks.preempt : SameTasks d (d.preempt p) := by
  unfold Dev.preempt
  split
  · exact .refl d
  · split
    · exact .refl d
    · extract_lets sent
      split
      · exact .refl d
      · exact ((SameTasks.withFab d _).trans (.inc ..)).trans (.emit ..)

theorem SameTasks.startPort (off : Int) : SameTasks d (d.startPort p off) := by
  unfold Dev.startPort
  extract_lets d0 d1
  have h0 : SameTasks d d0 := .fabSync d
  clear_value d0
  split
  · exact h0
  split
  · exact h0.trans (.portStart _ hp _ _)
  split
  · have h1 : SameTasks d d1 := h0.trans (.preempt ..)
    clear_value d1
    split
    · exact h1.trans (.portStart _ hp _ _)
    · exact h0
  · exact h0

theorem SameTasks.txtsPush (r : TsRec) : SameTasks d (d.txtsPush p r) := by
  unfold Dev.txtsPush
  extract_lets x
  split
  · exact .of_bridle rfl
  · exact (SameTasks.inc d _).trans (.tsEvent _ hp)

end

theorem SameTasks.cutLoops (id : Nat) : SameTasks d (d.cutLoops id) := by
  unfold Dev.cutLoops
  extract_lets x
  split
  · exact .refl d
  · refine .foldl (fun a k => ?_) d _
    split
    · exact .refl a
    · split
      · exact .fab (((FabFrame.stopWriting a _).trans (.putCell ..)).trans (.editCopy ..))
      · exact .takeCopy ..

theorem SameTasks.underrun (j sent : Nat) : SameTasks d (d.underrun j sent) := by
  unfold Dev.underrun
  extract_lets d0
  have h0 : SameTasks d d0 := .fabSync d
  clear_value d0
  split
  · exact h0
  split
  · exact h0
  · extract_lets d1
    have h1 : SameTasks d0 d1 := by
      refine SameTasks.trans ?_ (((SameTasks.endTx _ j).trans (.inc ..)).trans (.swCause ..))
      split
      · exact .cutLoops ..
      · exact .refl _
    clear_value d1
    split
    · exact (h0.trans h1).trans (.emit ..)
    · exact h0.trans h1

theorem SameTasks.lateMark (j : Nat) (c : Copy) : SameTasks d (d.lateMark j c) := by
  unfold Dev.lateMark
  split
  · exact (SameTasks.inc d _).trans (.swCause ..)
  · exact .refl d

theorem SameTasks.fcsMark (j : Nat) : SameTasks d (d.fcsMark j) := (SameTasks.inc d _).trans (.swCause ..)

theorem SameTasks.resume (p : Nat) : SameTasks d (d.resume p) := by
  unfold Dev.resume
  split
  · split
    · exact .withFab ..
    · exact .refl d
  · exact .refl d

variable {p : Nat} (hp : p < 26)
include hp

theorem SameTasks.finishTx (t0 : TxFrame) : SameTasks d (d.finishTx p t0) := by
  unfold Dev.finishTx
  extract_lets d0 t wire d2 d3 d4 d5
  have h0 : SameTasks d d0 := (SameTasks.passNs d _).trans (.fabSync _)
  clear_value d0
  split
  · exact h0.trans (.underrun ..)
  · have h2 : SameTasks d d2 := (h0.trans (.endTx ..)).trans (.lateMark ..)
    have h3 : SameTasks d d3 := by
      unfold d3
      split
      · exact h2.trans (.fcsMark ..)
      · exact h2
    have h4 : SameTasks d d4 := (h3.trans (.inc ..)).trans (.set ..)
    have h5 : SameTasks d d5 := by
      unfold d5
      split
      · exact h4.trans (.txtsPush _ hp _)
      · exact h4
    clear_value d5
    split
    · exact h5.trans (.emit ..)
    · exact (h5.trans (.inc ..)).trans (.emit ..)

/-- A port sends what its queues hold (R177). -/
theorem SameTasks.transmit (off : Nat) : SameTasks d (d.transmit p off) := by
  unfold Dev.transmit
  extract_lets d1 d2
  have h1 : SameTasks d d1 := by
    unfold d1
    split
    · exact .refl d
    · exact .startPort d hp _
  have h2 : SameTasks d d2 := by
    unfold d2
    split
    · exact h1
    · exact h1.trans (.resume ..)
  clear_value d2
  split
  · exact h2.trans (.finishTx _ hp _)
  · exact h2

theorem SameTasks.portEnable (on : Bool) : SameTasks d (d.portEnable p on) := by
  have hset := SameTasks.set d (R.PORT_CTRL_EN p) (if on then 1 else 0)
  unfold Dev.portEnable
  dsimp only
  split
  · exact hset
  · exact hset.trans (.of_bridle (LinkFrame.linkDown hp _ 0).bridle)

omit hp in
/-- The disabling that a reply waits for leaves the commands alone (R605). -/
theorem SameTasks.afterReply (s : State) (t : CmdTask) : SameTasks s.dev (s.afterReply t).dev := by
  unfold State.afterReply
  split
  · rw [State.on_dev]
    refine SameTasks.trans (.foldl (fun a _ => ?_) s.dev _) (.portEnable _ t.req.via.isLt false)
    split
    · exact .transmit a t.req.via.isLt 0
    · exact .refl a
  · exact .refl _

end Sys2Proof.Machine
end

section
/-! PROOFS. How a command packet that the Bridle takes at once goes through its checks to its reply (R549, R557 to R559): the rules that the statements
about chapter 14 share. -/

namespace Sys2Proof.Machine
open Sys2Proof Sys2Proof.Safety

/-! ### The commands in progress (R559) -/

/-- A command that has been taken is the only one in progress, and no restart is due. -/
structure Alone (d : Dev) (t : CmdTask) : Prop where
  tasks : d.bridle.tasks = [t]
  restart : d.bridle.restart = false

/-- No command is in progress, and no restart is due. -/
structure Idle (d : Dev) : Prop where
  tasks : d.bridle.tasks = []
  restart : d.bridle.restart = false

theorem Alone.congr {d d' : Dev} {t : CmdTask} (h : Alone d t) (hs : SameTasks d d') : Alone d' t := ⟨hs.tasks.trans h.tasks, hs.restart.trans h.restart⟩

theorem Idle.congr {d d' : Dev} (h : Idle d) (hs : SameTasks d d') : Idle d' := ⟨hs.tasks.trans h.tasks, hs.restart.trans h.restart⟩

theorem Alone.dropTask {d : Dev} {t : CmdTask} (h : Alone d t) : Idle (d.dropTask t) := by
  refine ⟨?_, h.restart⟩
  rw [Dev.dropTask, h.tasks, List.erase_cons_head]

theorem Idle.restartDue {d : Dev} (h : Idle d) : d.restartDue = false := by simp [Dev.restartDue, h.restart]

theorem Alone.restartDue {d : Dev} {t : CmdTask} (h : Alone d t) : d.restartDue = false := by simp [Dev.restartDue, h.restart]

/-- With no command in progress the Bridle does nothing. -/
theorem State.serve_idle {s : State} (h : Idle s.dev) (n : Nat) : s.serve n = s := by
  cases n with
  | zero => rfl
  | succ n => simp [State.serve, h.restartDue, h.tasks, firstReady]

theorem State.serve_runTask {s : State} {t : CmdTask} (hstate : s.dev.get R.BRIDLE_STATUS_STATE = 1) (h : Alone s.dev t) (hwait : t.wait = none) (n : Nat) :
    s.serve (n + 1) = (s.runTask t).serve n := by
  simp [State.serve, hstate, h.restartDue, h.tasks, firstReady, hwait]

theorem State.serve_waits {s : State} {t : CmdTask} {w : CmdWait} (h : Alone s.dev t) (hwait : t.wait = some w) (hover : waitOver s w = none) (n : Nat) :
    s.serve n = s := by
  cases n with
  | zero => rfl
  | succ n => simp [State.serve, h.restartDue, h.tasks, firstReady, hwait, hover]

theorem State.serve_over {s : State} {t : CmdTask} {w : CmdWait} {st det : Nat} {ps : List Byte} (hstate : s.dev.get R.BRIDLE_STATUS_STATE = 1)
    (h : Alone s.dev t) (hwait : t.wait = some w) (hover : waitOver s w = some (.reply st det ps)) (n : Nat) :
    s.serve (n + 1) = (s.endTask t st det ps).serve n := by
  simp [State.serve, hstate, h.restartDue, h.tasks, firstReady, hwait, hover]

/-- A refusal leaves no command in progress (R557). -/
theorem State.refuseTask_idle {s : State} {t : CmdTask} (h : Alone s.dev t) (e : Nat × Nat) : Idle (s.refuseTask t e).dev := by
  refine Idle.congr ?_ (.answer ..)
  rw [State.on_dev]
  exact Idle.congr (Alone.dropTask (d := s.dev.countRefused t.req) (h.congr (.set ..))) (.of_bridle rfl)

/-- The end of a command leaves none in progress (R558, R605). -/
theorem State.endTask_idle {s : State} {t : CmdTask} (h : Alone s.dev t) (st det : Nat) (ps : List Byte) : Idle (s.endTask t st det ps).dev := by
  have hdrop (b : Bool) : Idle ((if b then s.dev.countRefused t.req else s.dev).dropTask t) := by
    refine Alone.dropTask ?_
    split
    · exact h.congr (.set ..)
    · exact h
  have hanswer (d : Dev) (hd : Idle d) : Idle ((s.on fun _ => d).answer t.op t.req st det ps).dev := hd.congr (.answer (s.on fun _ => d) ..)
  unfold State.endTask
  split
  · exact Idle.congr (hanswer _ (hdrop _)) (.afterReply ..)
  · exact hanswer _ (hdrop _)

/-! ### The packet is taken (R552, R554, R557) -/

/-- The device with another state of the host side and of the Bridle's commands: no check reads them. -/
def Dev.beside (d : Dev) (h : HostSt) (b : BridleSt) : Dev := { d with host := h, bridle := b }

theorem taken_dev (s : State) (op : Nat) (r : CmdReq) : ∃ h, (taken s op r).dev =
    s.dev.beside h { s.dev.bridle with tasks := s.dev.bridle.tasks ++ [{ op := op, req := r }] } := by
  unfold taken
  rw [State.on_dev]
  unfold Dev.takeTask
  dsimp only
  split
  · unfold Dev.keepAlive
    generalize s.dev.now + _ = instant
    exact ⟨_, rfl⟩
  · exact ⟨_, rfl⟩

theorem taken_mem (s : State) (op : Nat) (r : CmdReq) : (taken s op r).mem = s.mem := rfl

theorem taken_pending (s : State) (op : Nat) (r : CmdReq) : (taken s op r).pending = s.pending := rfl

@[simp] theorem taken_get (s : State) (op : Nat) (r : CmdReq) (f : Fld) : (taken s op r).dev.get f = s.dev.get f := by
  obtain ⟨h, hdev⟩ := taken_dev s op r
  rw [hdev]
  rfl

theorem Dev.runCheck_beside (d : Dev) (h : HostSt) (b : BridleSt) (op : Nat) (r : CmdReq) : runCheck (d.beside h b) op r = runCheck d op r := rfl

theorem runCheck_taken (s : State) (op : Nat) (r : CmdReq) (op' : Nat) (r' : CmdReq) : runCheck (taken s op r).dev op' r' = runCheck s.dev op' r' := by
  obtain ⟨h, hdev⟩ := taken_dev s op r
  rw [hdev, Dev.runCheck_beside]

theorem State.takeCmd_heard {s : State} {op : Nat} {r : CmdReq} (h : Heard s r) : s.takeCmd op r = (taken s op r).serve serveFuel := by
  obtain ⟨hcore, hdeaf, hstate, htasks, -⟩ := h
  simp [State.takeCmd, taken, hcore, hdeaf, hstate, htasks]

theorem taken_alone {s : State} {r : CmdReq} (h : Heard s r) (op : Nat) : Alone (taken s op r).dev { op := op, req := r } := by
  obtain ⟨-, -, -, htasks, hrestart⟩ := h
  obtain ⟨x, hdev⟩ := taken_dev s op r
  rw [hdev]
  exact ⟨by rw [Dev.beside, htasks]; rfl, hrestart⟩

/-- A packet that is heard runs, and what it leaves goes on. -/
theorem State.takeCmd_runTask {s : State} {op : Nat} {r : CmdReq} (h : Heard s r) :
    s.takeCmd op r = ((taken s op r).runTask { op := op, req := r }).serve 39 := by
  rw [State.takeCmd_heard h]
  exact State.serve_runTask ((taken_get ..).trans h.2.2.1) (taken_alone h op) rfl 39

/-- A packet whose header fails is refused (R557, orders 1 and 2). -/
theorem State.takeCmd_header {s : State} {op : Nat} {r : CmdReq} {e : Nat × Nat} (h : Heard s r) (he : headerCheck (taken s op r).dev r = some e) :
    s.takeCmd op r = refused (taken s op r) op r e.1 e.2 := by
  have hrun : (taken s op r).runTask { op := op, req := r } = refused (taken s op r) op r e.1 e.2 := by
    rw [State.runTask, he]
    rfl
  rw [State.takeCmd_runTask h, hrun]
  exact State.serve_idle (State.refuseTask_idle (taken_alone h op) _) 39

/-- A packet for this device alone is run here (R315). -/
theorem State.takeCmd_execTask {s : State} {op : Nat} {r : CmdReq} (h : Reaches s op r) :
    s.takeCmd op r = ((taken s op r).execTask { op := op, req := r }).serve 39 := by
  obtain ⟨hheard, hheader, hroute, hall⟩ := h
  have hrun : (taken s op r).runTask { op := op, req := r } = (taken s op r).execTask { op := op, req := r } := by
    rw [State.runTask, hheader]
    dsimp only
    rw [hroute]
    exact if_neg (hall ▸ Bool.false_ne_true)
  rw [State.takeCmd_runTask hheard, hrun]

/-- A packet that a check refuses (R557, orders 3 to 7). -/
theorem State.takeCmd_refused {s : State} {op : Nat} {r : CmdReq} {e : Nat × Nat} (h : Reaches s op r) (he : runCheck s.dev op r = some e) :
    s.takeCmd op r = refused (taken s op r) op r e.1 e.2 := by
  have hrun : (taken s op r).execTask { op := op, req := r } = refused (taken s op r) op r e.1 e.2 := by
    rw [State.execTask, runCheck_taken, he]
    rfl
  rw [State.takeCmd_execTask h, hrun]
  exact State.serve_idle (State.refuseTask_idle (taken_alone h.1 op) _) 39

/-- An accepted command takes its effect (R590). -/
theorem State.execTask_accepts {s : State} {op : Nat} {r : CmdReq} (h : Accepts s op r) {u : State} {res : CmdRes} (hrun : (taken s op r).runCmd op r = (u, res)) :
    (taken s op r).execTask { op := op, req := r } = match res with
      | .reply st det ps => answered u op r st det ps
      | .wait w => u.on (fun d => { d with bridle := { d.bridle with tasks := d.bridle.tasks.map (fun x =>
          if x = { op := op, req := r } then { op := op, req := r, wait := some w } else x) } }) := by
  unfold State.execTask
  simp only [h.2, hrun]
  cases res <;> rfl

/-- An accepted command that replies at once ends (R558). -/
theorem State.takeCmd_reply {s : State} {op : Nat} {r : CmdReq} (h : Accepts s op r) {u : State} {st det : Nat} {ps : List Byte}
    (hrun : (taken s op r).runCmd op r = (u, .reply st det ps)) (halone : Alone u.dev { op := op, req := r }) :
    s.takeCmd op r = answered u op r st det ps := by
  rw [State.takeCmd_execTask h.1, State.execTask_accepts h hrun]
  exact State.serve_idle (State.endTask_idle halone ..) 39

end Sys2Proof.Machine
end

section
/-! PROOFS. The statement about the checks of a command packet (R549, R557, R588). -/

namespace Sys2Proof.Machine
open Sys2Proof Sys2Proof.Safety

/-! ### The packets of chapter 14 -/

section
variable {r : CmdReq} {x : Instr × Nat × Category}

/-- Every packet is taken with its opcode (R591 to R618). -/
theorem exec_packet (h : Packet r x) (s : State) : exec x.1 s = .next (s.takeCmd x.2.1 r) := by
  revert h s x
  simp only [Packet, List.mem_cons, List.not_mem_nil, or_false, forall_eq_or_imp, forall_eq]
  and_intros
  all_goals exact fun _ => rfl

theorem category_packet (h : Packet r x) : category x.2.1 = some x.2.2 := by
  revert h x
  simp only [Packet, List.mem_cons, List.not_mem_nil, or_false, forall_eq_or_imp, forall_eq]
  and_intros
  all_goals rfl

end

/-! ### The checks in their order (R549, R557, R588) -/

theorem headerCheck_reserved {d : Dev} {r : CmdReq} (h : r.rsv ≠ 0 ∨ 8 ≤ r.flags.toNat ∨ r.flags.toNat % 8 = 5 ∨ r.flags.toNat % 8 = 7) :
    headerCheck d r = some (7, 0xFFFF) := by
  refine if_pos ?_
  simp only [BitVec.getLsbD, Nat.testBit_eq_decide_div_mod_eq, decide_eq_true_eq]
  rcases h with h | h
  · exact .inl h
  · exact .inr (by omega)

section
variable {d : Dev} {r : CmdReq} (hrsv : r.rsv = 0) (hflags : r.flags.toNat < 5 ∨ r.flags.toNat = 6)
include hrsv hflags

theorem not_headerReserved : ¬ (r.rsv ≠ 0 ∨ r.flags.toNat / 8 ≠ 0 ∨ (r.flags.getLsbD 0 = true ∧ r.flags.getLsbD 2 = true)) := by
  simp only [BitVec.getLsbD, Nat.testBit_eq_decide_div_mod_eq, decide_eq_true_eq]
  rintro (h | h)
  · exact h hrsv
  · omega

theorem headerCheck_tooLong (hlen : 1024 < r.plen.toNat) : headerCheck d r = some (2, 1024) := by
  rw [headerCheck, if_neg (not_headerReserved hrsv hflags), if_pos hlen]

theorem headerCheck_otherLength (hlen : r.plen.toNat ≤ 1024) (hother : r.plen.toNat ≠ r.params.length) : ∃ det, headerCheck d r = some (2, det) := by
  rw [headerCheck, if_neg (not_headerReserved hrsv hflags), if_neg (by omega), if_pos hother]
  exact ⟨_, rfl⟩

end

section
variable {d : Dev} {op : Nat} {r : CmdReq} {cat : Category} (hcat : category op = some cat)
include hcat

theorem runCheck_permission {e : Nat × Nat} (h : permission d r.port cat (op == 0x0201) = some e) : runCheck d op r = some e := by
  simp [runCheck, hcat, h]

theorem runCheck_recovery (h : permission d r.port cat (op == 0x0201) = none) (hrecovery : d.on R.SEC_STATUS_RECOVERY = true) (hupdate : cat ≠ .update) :
    runCheck d op r = some (13, 1) := by
  simp [runCheck, hcat, h, hrecovery, hupdate]

variable (hmay : permission d r.port cat (op == 0x0201) = none) (hrecovery : d.on R.SEC_STATUS_RECOVERY = false)
include hmay hrecovery

/-- Past permission and RECOVERY, the states come first, then the length, then the states that need the parameters, then the values. -/
theorem runCheck_permitted : runCheck d op r = (stateCheck d op r).or ((lengthCheck d op r.params.length).or
    ((stateCheckWith d op r.params).or (paramCheck d op r r.params))) := by
  simp [runCheck, hcat, hmay, hrecovery]

end

theorem lengthCheck_short {d : Dev} {op n : Nat} (h : n < (cmdLength op).1) : lengthCheck d op n = some (2, (cmdLength op).1) := if_pos h

theorem lengthCheck_long {d : Dev} {op n : Nat} (hshort : (cmdLength op).1 ≤ n) (h : (cmdLength op).2.1 < n) :
    lengthCheck d op n = some (2, (cmdLength op).2.1) := by
  rw [lengthCheck, if_neg (by omega), if_pos h]

/-! ### Permission by the class of the port (R549, R551, R552) -/

section
variable {d : Dev} {port : Nat} {cat : Category} {claim : Bool}

theorem permission_class1 (h : d.get (R.OWN_PORT_CLASS port) = 1) (hcat : cat ≠ .read) : permission d port cat claim = some (10, 1) := by
  cases cat <;> simp_all [permission]

theorem permission_class2 (h : d.get (R.OWN_PORT_CLASS port) = 2) (hcat : cat = .state ∨ cat = .ownership) :
    permission d port cat claim = some (10, 2) := by
  rcases hcat with rfl | rfl <;> simp [permission, h]

theorem permission_update2 (h : d.get (R.OWN_PORT_CLASS port) = 2) (howner : d.owner ≠ none) (hrecovery : d.on R.SEC_STATUS_RECOVERY = false) :
    permission d port .update claim = some (3, d.owner.getD 0xFF) := by
  simp [permission, h, hrecovery, Option.isNone_iff_eq_none, howner]

variable (h : d.get (R.OWN_PORT_CLASS port) = 3) (howner : d.owner ≠ some port)
include h howner

theorem permission_notOwner (hcat : cat = .diag ∨ cat = .state) : permission d port cat claim = some (3, d.owner.getD 0xFF) := by
  rcases hcat with rfl | rfl <;> simp [permission, h, howner]

theorem permission_updateNotOwner (hrecovery : d.on R.SEC_STATUS_RECOVERY = false) : permission d port .update claim = some (3, d.owner.getD 0xFF) := by
  simp [permission, h, howner, hrecovery]

theorem permission_ownershipNotOwner (hclaim : claim = true → d.owner ≠ none) : permission d port .ownership claim = some (3, d.owner.getD 0xFF) := by
  have hnone : ¬ (claim = true ∧ d.owner = none) := fun hc => hclaim hc.1 hc.2
  simp [permission, h, howner, Option.isNone_iff_eq_none, hnone]

end

/-! ### Indices and values past the layout -/

/-- An index past the last one is RESERVED_VALUE at offset 0 (R588, R595 to R619). -/
theorem paramCheck_index (d : Dev) (r : CmdReq) (l : List Byte) : ∀ x ∈ [(0x0401, 48), (0x0402, 48), (0x0403, 48), (0x0404, 12), (0x0502, 40),
      (0x0601, 8), (0x0607, 4), (0x0701, 26), (0x0702, 26), (0x0B02, 16), (0x0203, 4), (0x0302, 64), (0x0303, 64), (0x0602, 8), (0x0604, 2), (0x0605, 4),
      (0x0606, 4), (0x0703, 26), (0x0804, 2), (0x0A02, 9), (0x0A03, 9), (0x0A04, 9), (0x0B03, 2), (0x0706, 64), (0x0505, 2)],
    x.2 ≤ par l 0 1 → paramCheck d x.1 r l = some (7, 0) := by
  have hfirst (b n : Nat) (rest : List (Bool × Nat × Nat)) (h : n + 1 ≤ b) : firstFail ((decide (n < b), 7, 0) :: rest) = some (7, 0) :=
    if_pos (decide_eq_true h)
  simp only [List.mem_cons, List.not_mem_nil, or_false, forall_eq_or_imp, forall_eq]
  and_intros
  all_goals exact hfirst _ _ _

theorem paramCheck_ownerTimeout (d : Dev) (r : CmdReq) (l : List Byte) (h : par l 0 4 < 10 ∨ 60000 < par l 0 4) :
    paramCheck d 0x0205 r l = some (6, 0) := by
  refine if_pos ?_
  simpa using h

theorem paramCheck_unaligned (d : Dev) (r : CmdReq) (l : List Byte) (h : par l 0 4 % 4 ≠ 0) :
    ∀ op ∈ [0x0103, 0x0104, 0x0105, 0x0106], paramCheck d op r l = some (7, 0) := by
  have hfirst (rest : List (Bool × Nat × Nat)) : firstFail ((par l 0 4 % 4 != 0, 7, 0) :: rest) = some (7, 0) := if_pos (bne_iff_ne.mpr h)
  simp only [List.mem_cons, List.not_mem_nil, or_false, forall_eq_or_imp, forall_eq]
  exact ⟨hfirst _, hfirst _, hfirst _, hfirst _⟩

theorem paramCheck_readReg (d : Dev) (r : CmdReq) (l : List Byte) (halign : par l 0 4 % 4 = 0) (hone : 1 ≤ par l 4 2) (hmax : par l 4 2 ≤ 256)
    (hend : par l 0 4 + 4 * par l 4 2 ≤ 2 ^ 20) : paramCheck d 0x0103 r l = none := by
  have hzero : par l 4 2 ≠ 0 := by omega
  simp only [paramCheck, firstFail, halign, bne_self_eq_false, Bool.false_eq_true, if_false, decide_eq_true_eq, Bool.or_eq_true, beq_iff_eq]
  rw [if_neg (by omega), if_neg (by omega), if_neg (by omega)]

/-! ### The statement -/

section
variable {r : CmdReq} {s : State} {x : Instr × Nat × Category} {st det : Nat} (hpacket : Packet r x)
include hpacket

theorem exec_header (h : Heard s r) (he : headerCheck (taken s x.2.1 r).dev r = some (st, det)) :
    exec x.1 s = .next (refused (taken s x.2.1 r) x.2.1 r st det) := by
  rw [exec_packet hpacket, State.takeCmd_header h he]

theorem exec_refused (h : Reaches s x.2.1 r) (he : runCheck s.dev x.2.1 r = some (st, det)) :
    exec x.1 s = .next (refused (taken s x.2.1 r) x.2.1 r st det) := by
  rw [exec_packet hpacket, State.takeCmd_refused h he]

end

/-- The header's checks (R557, orders 1 and 2). -/
theorem headerChecks (r : CmdReq) (s : State) (x : Instr × Nat × Category) (hx : Packet r x) (h : Heard s r) :
    ((r.rsv ≠ 0 ∨ 8 ≤ r.flags.toNat ∨ r.flags.toNat % 8 = 5 ∨ r.flags.toNat % 8 = 7) → exec x.1 s = .next (refused (taken s x.2.1 r) x.2.1 r 7 0xFFFF)) ∧
    (r.rsv = 0 → r.flags.toNat < 5 ∨ r.flags.toNat = 6 → 1024 < r.plen.toNat → exec x.1 s = .next (refused (taken s x.2.1 r) x.2.1 r 2 1024)) ∧
    (r.rsv = 0 → r.flags.toNat < 5 ∨ r.flags.toNat = 6 → r.plen.toNat ≤ 1024 → r.plen.toNat ≠ r.params.length →
      ∃ det, exec x.1 s = .next (refused (taken s x.2.1 r) x.2.1 r 2 det)) := by
  refine ⟨fun hres => ?_, fun hrsv hflags hlen => ?_, fun hrsv hflags hlen hother => ?_⟩
  · exact exec_header hx h (headerCheck_reserved hres)
  · exact exec_header hx h (headerCheck_tooLong hrsv hflags hlen)
  · obtain ⟨det, hdet⟩ := headerCheck_otherLength (d := (taken s x.2.1 r).dev) hrsv hflags hlen hother
    exact ⟨det, exec_header hx h hdet⟩

/-- Settles O54: a packet that is heard ends with the first check that fails, and each check is given by its own rule. -/
theorem commandChecks : Obligations.CommandChecks := by
  unfold Obligations.CommandChecks
  refine ⟨headerChecks, fun r s x hx h => ?_, ?_, ?_, paramCheck_index, ?_, ?_, ?_⟩
  · have hcat := category_packet hx
    refine ⟨fun h1 hread => ?_, fun h2 hc => ?_, fun h2 hc howner hrecovery => ?_, fun h3 howner hc => ?_, fun h3 howner hc hrecovery => ?_,
      fun h3 howner hc hclaim => ?_⟩ <;> refine exec_refused hx h (runCheck_permission hcat ?_)
    · exact permission_class1 h1 hread
    · exact permission_class2 h2 hc
    · exact hc ▸ permission_update2 h2 howner hrecovery
    · exact permission_notOwner h3 howner hc
    · exact hc ▸ permission_updateNotOwner h3 howner hrecovery
    · exact hc ▸ permission_ownershipNotOwner h3 howner fun hop => hclaim (eq_of_beq hop)
  · exact fun r s x hx h hmay hrecovery hupdate => exec_refused hx h (runCheck_recovery (category_packet hx) hmay hrecovery hupdate)
  · intro r s x hx h hmay hrecovery
    have hrun := runCheck_permitted (category_packet hx) hmay hrecovery
    refine ⟨fun e he => ?_, fun hstate hlen => ?_, fun hstate hmin hlen => ?_, fun hstate hlen e he => ?_, fun hstate hlen hwith e he => ?_⟩ <;>
      refine exec_refused hx h (hrun.trans ?_)
    · simp [he]
    · simp [hstate, lengthCheck_short hlen]
    · simp [hstate, lengthCheck_long hmin hlen]
    · simp [hstate, hlen, he]
    · simp [hstate, hlen, hwith, he]
  · exact paramCheck_ownerTimeout
  · exact fun d l r => paramCheck_unaligned d r l
  · exact paramCheck_readReg

end Sys2Proof.Machine
end

section
/-! PROOFS. Commands whose reply follows what they start (R559, R590): the rule of a wait, and what the started actions leave of the Bridle. -/

namespace Sys2Proof.Machine
open Sys2Proof Sys2Proof.Safety

/-! ### A wait (R559, R590) -/

/-- The result of a cable test is the register's word (R221). -/
theorem liveWord_diagResult (s : State) (w : Writer) {p : Nat} (hp : p < 26) : liveWord s w (0xD00D4 + 0x800 * p) = s.dev.word (0xD00D4 + 0x800 * p) := by
  have hblock : (0xD00D4 + 0x800 * p) / 0x10000 = 13 := by omega
  unfold liveWord
  simp only [hblock]
  rw [if_neg (by omega), if_neg (by omega)]

/-- No wait asks the Bridle's commands. -/
theorem waitOver_bridle (s : State) (b : BridleSt) (w : CmdWait) (hcable : ∀ p, w = .cable p → p < 26) :
    waitOver (s.on fun d => { d with bridle := b }) w = waitOver s w := by
  cases w with
  | cable p =>
    have hp := hcable p rfl
    have hword (x : State) : x.words [0xD00D4 + 0x800 * p] = leBytes 4 (x.dev.word (0xD00D4 + 0x800 * p)) := by
      simp [State.words, liveWord_diagResult x _ hp]
    simp only [waitOver, hword]
    rfl
  | _ => rfl

/-- A wait that is over has a reply. -/
theorem waitOver_cases (s : State) (w : CmdWait) : waitOver s w = none ∨ ∃ st det ps, waitOver s w = some (.reply st det ps) := by
  cases w <;> simp only [waitOver, roundReply] <;> split <;> try split
  all_goals simp [okReply]

/-- The command in progress with the wait that it has come to. -/
theorem waiting_alone {u : State} {op : Nat} {r : CmdReq} (h : Alone u.dev { op := op, req := r }) (w : CmdWait) :
    Alone (waiting u op r w).dev { op := op, req := r, wait := some w } := ⟨rfl, h.restart⟩

/-- A wait does not change how its command ends. -/
theorem endTask_waiting {u : State} {op : Nat} {r : CmdReq} (h : Alone u.dev { op := op, req := r }) (w : CmdWait) (st det : Nat) (ps : List Byte) :
    (waiting u op r w).endTask { op := op, req := r, wait := some w } st det ps = answered u op r st det ps := by
  have hdrop (c : Bool) :
      (waiting u op r w).on (fun d => (if c then d.countRefused r else d).dropTask { op := op, req := r, wait := some w }) =
      u.on (fun d => (if c then d.countRefused r else d).dropTask { op := op, req := r }) := by
    have htasks := h.tasks
    cases c with
    | false => simp [State.on, waiting, Dev.dropTask, htasks]
    | true =>
      simp only [State.on, waiting, Dev.dropTask, Dev.countRefused, Dev.inc, Dev.set, htasks, List.erase_cons_head, if_true]
      rfl
  unfold answered State.endTask
  dsimp only
  rw [hdrop]
  rfl

section
variable {s u : State} {op : Nat} {r : CmdReq} {w : CmdWait} (h : Accepts s op r) (hrun : (taken s op r).runCmd op r = (u, .wait w))
  (halone : Alone u.dev { op := op, req := r }) (hcable : ∀ p, w = .cable p → p < 26)
include h hrun halone

theorem State.takeCmd_wait : s.takeCmd op r = (waiting u op r w).serve 39 := by
  have hwait : (taken s op r).execTask { op := op, req := r } = waiting u op r w := by
    rw [State.execTask_accepts h hrun]
    have htasks := halone.tasks
    simp [State.on, waiting, htasks]
  rw [State.takeCmd_execTask h.1, hwait]

include hcable

/-- A command whose wait is over at once replies at once. -/
theorem State.takeCmd_over (hstate : u.dev.get R.BRIDLE_STATUS_STATE = 1) {st det : Nat} {ps : List Byte}
    (hover : waitOver u w = some (.reply st det ps)) : s.takeCmd op r = answered u op r st det ps := by
  have halone' := waiting_alone halone w
  rw [State.takeCmd_wait h hrun halone]
  refine (State.serve_over (s := waiting u op r w) hstate halone' rfl ((waitOver_bridle u _ w hcable).trans hover) 38).trans ?_
  rw [← endTask_waiting halone w]
  exact State.serve_idle (State.endTask_idle halone' ..) 38

theorem State.takeCmd_waits (hover : waitOver u w = none) : s.takeCmd op r = waiting u op r w := by
  rw [State.takeCmd_wait h hrun halone]
  exact State.serve_waits (waiting_alone halone w) rfl ((waitOver_bridle u _ w hcable).trans hover) 39

end

/-! ### What an action leaves of the Bridle -/

/-- The Bridle's commands stay, and it runs or not as before. -/
structure AtWork (d d' : Dev) : Prop where
  bridle : d'.bridle = d.bridle
  state : d'.get R.BRIDLE_STATUS_STATE = d.get R.BRIDLE_STATUS_STATE

theorem AtWork.refl (d : Dev) : AtWork d d := ⟨rfl, rfl⟩

theorem AtWork.trans {a b c : Dev} (h1 : AtWork a b) (h2 : AtWork b c) : AtWork a c := ⟨h2.bridle.trans h1.bridle, h2.state.trans h1.state⟩

theorem AtWork.of_regs {d d' : Dev} (h : d'.regs = d.regs) (hb : d'.bridle = d.bridle := by rfl) : AtWork d d' := ⟨hb, Dev.get_congr h _⟩

theorem AtWork.foldl {α : Type} {f : Dev → α → Dev} (h : ∀ a x, AtWork a (f a x)) (d : Dev) (l : List α) : AtWork d (l.foldl f d) :=
  List.foldlRecOn (motive := AtWork d) _ _ (.refl d) fun a ha x _ => ha.trans (h a x)

theorem AtWork.alone {d d' : Dev} {t : CmdTask} (h : AtWork d d') (ht : Alone d t) : Alone d' t := ht.congr (.of_bridle h.bridle)

/-- A field apart from BRIDLE_STATUS.STATE: it begins at another bit of its word, or lies above the Bridle's register. -/
def OffBridle (f : Fld) : Prop := f.lo < 28 ∨ (f.lo < 32 ∧ f.addr < 0xB3000) ∨ 0xB3000 < f.addr

section
variable {f : Fld} (hf : OffBridle f)
include hf

theorem AtWork.set (d : Dev) (v : Nat) : AtWork d (d.set f v) := by
  refine ⟨rfl, Dev.get_set_ne _ _ _ _ ?_⟩
  have hkey : R.BRIDLE_STATUS_STATE.key = 0xB3000 * 32 + 28 := rfl
  unfold OffBridle at hf
  unfold Fld.key at *
  omega

theorem AtWork.inc (d : Dev) : AtWork d (d.inc f) := .set hf d _

end

theorem AtWork.setEngine (d : Dev) (e : Nat) (x : EngSt) : AtWork d (d.setEngine e x) := .of_regs rfl

theorem AtWork.emit (d : Dev) (o : Output) : AtWork d (d.emit o) := .of_regs rfl

theorem AtWork.withPwr (d : Dev) (f : PwrSt → PwrSt) : AtWork d (d.withPwr f) := .of_regs rfl

theorem AtWork.latchLine (d : Dev) (e line : Nat) : AtWork d (d.latchLine e line) :=
  ⟨by rw [(EventFrame.latchLine d e line).rest], (EventFrame.latchLine d e line).get _ (by decide)⟩

theorem AtWork.dozeWakeFor (d : Dev) (t : Nat) : AtWork d (d.dozeWakeFor t) :=
  ⟨by rw [(EventFrame.dozeWakeFor d t).rest], (EventFrame.dozeWakeFor d t).get _ (by decide)⟩

/-- An event of any number: its bits and its counter are low in their words. -/
theorem AtWork.raise (d : Dev) (i : Nat) : AtWork d (d.raise i) := by
  have hdeliver (a : Dev) : AtWork a (a.deliver i) := ⟨by rw [(EventFrame.deliver a i).rest], (EventFrame.deliver a i).get _ (by decide)⟩
  have hcount := (AtWork.set (f := R.EV_STATUS (i / 32)) (.inl (by decide : (0 : Nat) < 28)) d (d.get (R.EV_STATUS (i / 32)) ||| 2 ^ (i % 32))).trans
    (.inc (f := R.EV_CFG_CNT i) (.inl (by decide : (16 : Nat) < 28)) _)
  unfold Dev.raise
  dsimp only
  split
  · exact hcount.trans (hdeliver _)
  · exact hcount

theorem AtWork.cause {f : Fld} (hf : OffBridle f) (d : Dev) (en : Bool) (ev : Nat) : AtWork d (d.cause f en ev) := by
  unfold Dev.cause
  dsimp only
  split
  · exact (AtWork.set hf d 1).trans (.raise _ ev)
  · exact .set hf d 1

theorem AtWork.slpEvent (d : Dev) (b : Nat) : AtWork d (d.slpEvent b) := by
  have hbit := AtWork.set (f := R.SLP_EVT) (.inl (by decide)) d (d.get R.SLP_EVT ||| 2 ^ b)
  unfold Dev.slpEvent
  dsimp only
  split
  · exact hbit.trans (.raise _ _)
  · exact hbit

end Sys2Proof.Machine
end

section
/-! PROOFS. What the actions of the waiting commands leave of the Bridle (R597, R598, R601, R602, R605, R617). -/

namespace Sys2Proof.Machine
open Sys2Proof Sys2Proof.Safety

variable (d : Dev)

theorem AtWork.engCause {e : Nat} (f : Fld) (hf : OffBridle f) (b : Nat) : AtWork d (d.engCause e f b) := .cause hf d _ _

theorem AtWork.haltOne {e : Nat} (he : e < 48) (cause : Nat) : AtWork d (d.haltOne e cause) := by
  have haddr : (R.ENG_STATUS_STATE e).addr < 0xB3000 := by simp only [R.ENG_STATUS_STATE]; omega
  exact (((AtWork.set (f := R.ENG_STATUS_STATE e) (.inr (.inl ⟨by simp [R.ENG_STATUS_STATE], haddr⟩)) d 6).trans
    (.set (f := R.ENG_STATUS_HALT_CAUSE e) (.inl (by simp [R.ENG_STATUS_HALT_CAUSE])) _ cause)).trans (.setEngine _ _ _)).trans
    (.engCause _ _ (.inl (by simp [R.ENG_STATUS_HALTED])) 0)

theorem Dev.partner_lt {e p : Nat} (h : d.partner e = some p) : p < 48 := by
  rw [Dev.partner] at h
  by_cases he : 48 ≤ e
  · rw [if_pos he] at h
    exact absurd h (by simp)
  · rw [if_neg he] at h
    have hp := Option.some.inj (Option.ite_none_right_eq_some.mp h).2
    split at hp <;> omega

/-- HALT by the host (R410). -/
theorem AtWork.hostHalt {e : Nat} (he : e < 48) : AtWork d (d.hostHalt e) := by
  have hnow : AtWork d (d.hostHaltNow e) := by
    unfold Dev.hostHaltNow
    dsimp only
    split
    · next p hp => exact (AtWork.haltOne d he 1).trans (.haltOne _ (d.partner_lt hp) 1)
    · exact .haltOne d he 1
  unfold Dev.hostHalt
  dsimp only
  split
  · exact .refl d
  · split
    · exact .setEngine ..
    · exact hnow

theorem AtWork.scrubPass : AtWork d d.scrubPass := by
  unfold Dev.scrubPass
  dsimp only
  split
  · exact (AtWork.of_regs (d := d) (d' := { d with orch := { d.orch with wrapped := [] } }) rfl).trans (.inc (.inl (by decide)) _)
  · exact .refl d

theorem AtWork.bankRequest (n rq : Nat) : AtWork d (d.bankRequest n rq) := by
  have hset := AtWork.set (f := R.BANK_POWER_REQ n) (.inl (by simp [R.BANK_POWER_REQ])) d rq
  have hstart (a : Dev) : AtWork a (a.bankStart n) := by
    unfold Dev.bankStart
    dsimp only
    split
    · exact .refl a
    · exact ((AtWork.of_regs (d := a) (d' := { a with orch := { a.orch with target := a.orch.target.put n (a.bankWants n) } }) rfl).trans
        (.set (f := R.BANK_POWER_STATE n) (.inl (by simp [R.BANK_POWER_STATE])) _ 3)).trans (.scrubPass _)
  exact hset.trans (hstart _)

theorem AtWork.diagStart (p : Nat) : AtWork d (d.diagStart p) := by
  have hset (a : Dev) (f : Fld) (v : Nat) (hf : f.addr = 0xD00D4 + p * 0x800 ∨ f.addr = 0xD00D0 + p * 0x800) : AtWork a (a.set f v) :=
    .set (.inr (.inr (by omega))) a v
  have hresult (a : Dev) (x y z w : Nat) : AtWork a (a.diagResult p x y z w) := by
    unfold Dev.diagResult Dev.portCause
    exact (((((((hset a _ x (.inl rfl)).trans (hset _ _ y (.inl rfl))).trans (hset _ _ z (.inl rfl))).trans (hset _ _ w (.inl rfl))).trans
      (hset _ _ 1 (.inl rfl))).trans (hset _ _ 0 (.inr rfl))).trans (hset _ _ 0 (.inr rfl))).trans (.cause (.inl (by simp [R.PORT_EVT_DIAG_DONE])) _ _ _)
  unfold Dev.diagStart
  split
  · exact .refl d
  · split
    · dsimp only [Dev.freeVal]
      exact (AtWork.of_regs (d := d) (d' := { d with free := d.free + 1 + 1 }) rfl).trans (hresult _ _ _ _ _)
    · exact ((hset d _ 1 (.inr rfl)).trans (hset _ _ 1 (.inr rfl))).trans (hset _ _ 0 (.inl rfl))

theorem AtWork.runStop : AtWork d d.runStop := by
  unfold Dev.runStop
  split
  · exact (AtWork.set (f := R.STRIDE_CTRL_RUN) (.inl (by decide)) d 0).trans (.of_regs rfl)
  · exact .refl d

theorem AtWork.adjustTime (l : List Byte) : AtWork d (d.adjustTime l) := by
  have hset (a : Dev) (f : Fld) (v : Nat) (hf : f.lo < 28) : AtWork a (a.set f v) := .set (.inl hf) a v
  unfold Dev.adjustTime Dev.tbLoadIncr Dev.tbStep
  extract_lets n d1
  have h1 : AtWork d d1 := by
    unfold d1
    split
    · exact ((hset d _ _ (by simp [R.TB_INCR])).trans (hset _ _ 1 (by simp [R.TB_CTRL_LOAD_INCR]))).trans (hset _ _ 1 (by simp [R.TB_STATUS_INCR_PEND]))
    · exact .refl d
  clear_value d1
  split
  · exact (((h1.trans (hset _ _ _ (by simp [R.TB_STEP]))).trans (hset _ _ _ (by simp [R.TB_STEP_FRAC]))).trans
      (hset _ _ 1 (by simp [R.TB_CTRL_STEP]))).trans (hset _ _ 1 (by simp [R.TB_STATUS_STEP_PEND]))
  · exact h1

/-! ### Domains (R617, R628) -/

theorem AtWork.moveDomain (x st : Nat) : AtWork d (d.moveDomain x st) := by
  refine AtWork.trans (b := d.setDomain x 2) ?_ (.withPwr _ _)
  unfold Dev.setDomain
  split
  · exact .refl d
  · exact (AtWork.set (f := R.PWR_DOMAIN_STATE x) (.inl (by simp [R.PWR_DOMAIN_STATE])) d 2).trans (.slpEvent _ _)

theorem AtWork.domainRequest (x r : Nat) : AtWork d (d.domainRequest x r).1 := by
  have hreq (a : Dev) (k v : Nat) : AtWork a (a.set (R.PWR_DOMAIN_REQ k) v) := .set (.inl (by simp [R.PWR_DOMAIN_REQ])) a v
  unfold Dev.domainRequest
  dsimp only
  split
  · split
    · exact .slpEvent ..
    · split
      · exact hreq ..
      · exact (hreq d x 0).trans (.moveDomain _ _ _)
  · split
    · exact (hreq d x 1).trans (.dozeWakeFor _ _)
    · split
      · exact hreq ..
      · split
        · exact (((hreq d x 1).trans (hreq _ 2 1)).trans (.moveDomain _ _ _)).trans (.moveDomain _ _ _)
        · exact (hreq d x 1).trans (.moveDomain _ _ _)
  · split
    · exact hreq ..
    · split
      · exact .slpEvent ..
      · exact (hreq d x _).trans (.moveDomain _ _ _)

/-! ### Rounds of network sleep (R617, R637 to R645) -/

theorem AtWork.setNet (k : Nat) (x : SleepNet) : AtWork d (d.setNet k x) := .withPwr ..

/-- A register of a network's status (R651). -/
theorem AtWork.setNetStatus {f : Fld} (k v : Nat) (hf : f.addr = 0xE0214 + k * 0x20) : AtWork d (d.set f v) := .set (.inr (.inr (by omega))) d v

theorem AtWork.showTrx : AtWork d d.showTrx := by
  unfold Dev.showTrx
  extract_lets m d1
  have h1 : AtWork d d1 := by
    refine .foldl (fun a n => ?_) d _
    split
    · exact .emit ..
    · exact .refl a
  clear_value d1
  exact h1.trans (.withPwr _ _)

theorem AtWork.setNetState (k st : Nat) : AtWork d (d.setNetState k st) := by
  unfold Dev.setNetState
  split
  · exact .refl d
  · extract_lets d1 y d2
    have h1 : AtWork d d1 := .setNetStatus d k st rfl
    have h2 : AtWork d d2 := by
      unfold d2
      split
      · exact (h1.trans (.setNet _ _ _)).trans (.slpEvent _ _)
      · exact h1
    clear_value d2
    exact h2.trans (.showTrx _)

theorem AtWork.roundEnd (k result node : Nat) : AtWork d (d.roundEnd k result node) :=
  ((((AtWork.setNetStatus d k result rfl).trans (.setNetStatus _ k node rfl)).trans (.setNetState _ k 0)).trans (.slpEvent _ 1)).trans (.setNet _ _ _)

theorem AtWork.committed (k entry : Nat) : AtWork d (d.committed k entry) := by
  have hwatch (a : Dev) : AtWork a a.watchCommit := by
    unfold Dev.watchCommit
    split
    · exact .withPwr ..
    · exact .refl a
  unfold Dev.committed
  extract_lets x d1 d2
  have h2 : AtWork d d2 := (((AtWork.setNetStatus d k 1 rfl).trans (.setNetState _ k 2)).trans (.slpEvent _ 2)).trans (.setNet _ _ _)
  clear_value d2
  split
  · exact (h2.trans (.setNetStatus _ k 1 rfl)).trans (hwatch _)
  · exact h2.trans (hwatch _)

theorem AtWork.sendCommit (entry : Nat) : AtWork d (d.sendCommit entry) := .foldl (fun _ _ => .emit ..) d _

theorem AtWork.txbReq (c n : Nat) : AtWork d (d.txbReq c n) := by
  have hattempts := AtWork.set (f := R.TXB_STATUS_ATTEMPTS c n) (.inl (by simp [R.TXB_STATUS_ATTEMPTS])) d 0
  have hstate (a : Dev) (v : Nat) : AtWork a (a.set (R.TXB_STATUS_STATE c n) v) := .set (.inl (by simp [R.TXB_STATUS_STATE])) a v
  unfold Dev.txbReq
  dsimp only
  split
  · exact .refl d
  · split
    · exact hattempts.trans (hstate _ _)
    · exact (hattempts.trans (hstate _ 6)).trans (.cause (.inl (by simp [R.CAN_EVT_TX_FAIL])) _ _ _)

variable (s : State)

theorem AtWork.sendSleepFrame (k : Nat) (m : SleepMsg) : AtWork s.dev (s.sendSleepFrame k m).dev := by
  have hset (a : Dev) (f : Fld) (v : Nat) (hf : f.lo < 28) : AtWork a (a.set f v) := .set (.inl hf) a v
  exact (((((hset s.dev _ _ (by simp [R.TXB_ID])).trans (hset _ _ _ (by simp [R.TXB_LEN]))).trans (hset _ _ _ (by simp [R.TXB_AF]))).trans
    (hset _ _ _ (by simp [R.TXB_META]))).trans (.txbReq _ _ _)).trans (.emit _ _)

theorem AtWork.flushSleep : AtWork s.dev s.flushSleep.dev := by
  refine List.foldlRecOn (motive := fun a : State => AtWork s.dev a.dev) _ _ (AtWork.of_regs rfl) fun a ha e _ => ?_
  split
  · exact ha.trans (.of_regs rfl)
  · exact ha.trans (.sendSleepFrame a _ _)

theorem AtWork.sleepSend (k lane : Nat) (m : SleepMsg) : AtWork s.dev (s.sleepSend k lane m).dev := by
  unfold State.sleepSend
  split
  · exact .emit ..
  · refine AtWork.trans ?_ (.flushSleep _)
    exact .of_regs rfl

theorem AtWork.answerUp (type round cause flags : Nat) : AtWork s.dev (s.answerUp type round cause flags).dev := by
  unfold State.answerUp
  split
  · exact .sleepSend ..
  · exact .refl _

theorem AtWork.leaderCommit (k : Nat) : AtWork s.dev (s.leaderCommit k).dev := by
  unfold State.leaderCommit
  extract_lets x d1 entry fv delay
  have h1 : AtWork s.dev d1 := by
    unfold d1
    split
    · exact ((AtWork.setNetStatus s.dev k _ rfl).trans (.setNetStatus _ k 1 rfl)).trans (.slpEvent _ 4)
    · exact .refl _
  clear_value d1
  split
  · exact ((AtWork.setNet s.dev k _).trans (.slpEvent _ 6)).trans (.roundEnd _ _ _ _)
  · split
    · exact ((h1.trans (.committed _ _ _)).trans (.sendCommit _ _)).trans (.slpEvent _ 1)
    · have hfree : AtWork d1 fv.2 := .of_regs rfl
      clear_value fv
      refine AtWork.trans ?_ (.sleepSend _ _ _ _)
      exact (h1.trans (hfree.trans (.committed _ _ _))).trans (.slpEvent _ 1)

theorem AtWork.visitNext : AtWork s.dev s.visitNext.dev := by
  unfold State.visitNext
  extract_lets x
  split
  · refine AtWork.trans ?_ (.sleepSend _ _ _ _)
    exact .setNet ..
  · split
    · refine AtWork.trans ?_ (.answerUp _ _ _ _ _)
      exact (AtWork.setNetState s.dev 0 0).trans (.setNet _ _ _)
    · exact .leaderCommit ..

/-- SLEEP_REQUEST starts a round (R617, R640). -/
theorem AtWork.roundStart (k : Nat) : AtWork s.dev (s.roundStart k).dev := by
  unfold State.roundStart
  extract_lets round x s1 next
  have h1 : AtWork s.dev s1.dev := ((((AtWork.setNetStatus s.dev k round rfl).trans (.setNetStatus _ k 0 rfl)).trans (.setNetStatus _ k 0 rfl)).trans
    (.setNetState _ k 1)).trans (.setNet _ _ _)
  clear_value s1
  split
  · exact h1.trans (.visitNext _)
  · split
    · exact h1.trans (.leaderCommit _ _)
    · refine AtWork.trans ?_ (.sleepSend _ _ _ _)
      exact h1.trans (.setNet _ _ _)

end Sys2Proof.Machine
end

section
/-! PROOFS. The statement about commands whose reply follows what they start (R590, R597 to R605, R617). -/

namespace Sys2Proof.Machine
open Sys2Proof Sys2Proof.Safety

/-- An accepted command's parameters pass their checks (R557, order 7). -/
theorem paramCheck_accepts {s : State} {op : Nat} {r : CmdReq} (h : Accepts s op r) : paramCheck s.dev op r r.params = none := by
  have hrun := runCheck_taken s op r op r ▸ h.2
  unfold runCheck at hrun
  split at hrun
  · exact absurd hrun (by simp)
  · simp only [Option.or_eq_none_iff] at hrun
    exact hrun.2.2.2.2.2

/-- An index parameter is within its layout. -/
theorem par_lt_of_accepts {s : State} {op n : Nat} {r : CmdReq} (h : Accepts s op r) (hindex : (op, n) ∈ [(0x0401, 48), (0x0402, 48), (0x0403, 48),
      (0x0404, 12), (0x0502, 40), (0x0601, 8), (0x0607, 4), (0x0701, 26), (0x0702, 26), (0x0B02, 16), (0x0203, 4), (0x0302, 64), (0x0303, 64), (0x0602, 8),
      (0x0604, 2), (0x0605, 4), (0x0606, 4), (0x0703, 26), (0x0804, 2), (0x0A02, 9), (0x0A03, 9), (0x0A04, 9), (0x0B03, 2), (0x0706, 64), (0x0505, 2)]) :
    par r.params 0 1 < n := by
  by_contra hge
  have hsome := paramCheck_index s.dev r r.params (op, n) hindex (Nat.le_of_not_lt hge)
  rw [paramCheck_accepts h] at hsome
  exact absurd hsome (by simp)

theorem par_lt (l : List Byte) (i n : Nat) : par l i n < 256 ^ n := by
  have h := leNat_lt (slice l i n)
  rwa [show (slice l i n).length = n by simp [slice]] at h

/-- A list of checks passes when none of its conditions holds. -/
theorem firstFail_eq_none (l : List (Bool × Nat × Nat)) : firstFail l = none ↔ ∀ c ∈ l, c.1 = false := by
  induction l with
  | nil => simp [firstFail]
  | cons c l ih =>
    obtain ⟨b, e⟩ := c
    cases b <;> simp [firstFail, ih]

/-! ### A command that waits -/

section
variable {s u : State} {op : Nat} {r : CmdReq} {w : CmdWait} (h : Accepts s op r) (hrun : (taken s op r).runCmd op r = (u, .wait w))
  (hwork : AtWork (taken s op r).dev u.dev) (hcable : ∀ p, w = .cable p → p < 26)
include h hrun hwork hcable

/-- A command that waits replies at once when what it waits for is there already, else it waits (R590). -/
theorem State.takeCmd_waitCommand : s.takeCmd op r = match waitOver u w with
    | some (.reply st det ps) => answered u op r st det ps
    | _ => waiting u op r w := by
  have halone := hwork.alone (taken_alone h.1.1 op)
  have hstate : u.dev.get R.BRIDLE_STATUS_STATE = 1 := hwork.state.trans ((taken_get ..).trans h.1.1.2.2.1)
  rcases waitOver_cases u w with hover | ⟨st, det, ps, hover⟩
  · rw [State.takeCmd_waits h hrun halone hcable hover, hover]
  · rw [State.takeCmd_over h hrun halone hcable hstate hover, hover]

end

/-- The checks of CABLE_TEST: a port that has a PHY (R605). -/
theorem paramCheck_cable {d : Dev} {r : CmdReq} {l : List Byte} (h : paramCheck d 0x0704 r l = none) : par l 0 1 < 24 := by
  have hall := (firstFail_eq_none _).mp h
  simp only [List.forall_mem_cons, Bool.or_eq_false_iff, decide_eq_false_iff_not] at hall
  omega

/-! ### ADJUST_TIME (R601) -/

/-- Where the fields of an adjustment lie (R109). -/
theorem adjustKeys (n : Nat) : (R.TB_CTRL_STEP n).key = 0xA00003 + n * 0x2000 ∧ (R.TB_CTRL_LOAD_INCR n).key = 0xA00002 + n * 0x2000 ∧
    (R.TB_STATUS_STEP_PEND n).key = 0xA00081 + n * 0x2000 ∧ (R.TB_STATUS_INCR_PEND n).key = 0xA00082 + n * 0x2000 ∧
    (R.TB_INCR n).key = 0xA00100 + n * 0x2000 ∧ (R.TB_STEP n).key = 0xA00600 + n * 0x2000 ∧ (R.TB_STEP_FRAC n).key = 0xA00700 + n * 0x2000 := by
  simp only [Fld.key, R.TB_CTRL_STEP, R.TB_CTRL_LOAD_INCR, R.TB_STATUS_STEP_PEND, R.TB_STATUS_INCR_PEND, R.TB_INCR, R.TB_STEP, R.TB_STEP_FRAC]
  omega

/-- The rate of an adjustment written and loaded. -/
def Dev.adjustRate (d : Dev) (l : List Byte) : Dev := (d.set (R.TB_INCR (par l 0 1)) (par l 8 8)).tbLoadIncr (par l 0 1)

/-- The step of an adjustment written and asked for. -/
def Dev.adjustStep (d : Dev) (l : List Byte) : Dev :=
  ((d.set (R.TB_STEP (par l 0 1)) (par l 16 8)).set (R.TB_STEP_FRAC (par l 0 1)) (par l 2 2)).tbStep (par l 0 1)

theorem Dev.adjustTime_eq (d : Dev) (l : List Byte) : d.adjustTime l = if (par l 1 1).testBit 1
    then (if (par l 1 1).testBit 0 then d.adjustRate l else d).adjustStep l else if (par l 1 1).testBit 0 then d.adjustRate l else d := rfl

section
variable (d : Dev) (l : List Byte)

theorem Dev.adjustRate_effect : (d.adjustRate l).get (R.TB_INCR (par l 0 1)) = par l 8 8 % 2 ^ 40 ∧
    (d.adjustRate l).get (R.TB_STATUS_INCR_PEND (par l 0 1)) = 1 ∧
    ∀ g : Fld, g.key ≠ (R.TB_INCR (par l 0 1)).key → g.key ≠ (R.TB_CTRL_LOAD_INCR (par l 0 1)).key → g.key ≠ (R.TB_STATUS_INCR_PEND (par l 0 1)).key →
      (d.adjustRate l).get g = d.get g := by
  have hk := adjustKeys (par l 0 1)
  unfold Dev.adjustRate Dev.tbLoadIncr
  refine ⟨?_, ?_, fun g h1 h2 h3 => ?_⟩
  · rw [Dev.get_set_ne _ _ _ _ (by omega), Dev.get_set_ne _ _ _ _ (by omega), Dev.get_set_same]
    rfl
  · exact Dev.get_set_same ..
  · rw [Dev.get_set_ne _ _ _ _ h3, Dev.get_set_ne _ _ _ _ h2, Dev.get_set_ne _ _ _ _ h1]

theorem Dev.adjustStep_effect : (d.adjustStep l).get (R.TB_STEP (par l 0 1)) = par l 16 8 % 2 ^ 64 ∧
    (d.adjustStep l).get (R.TB_STEP_FRAC (par l 0 1)) = par l 2 2 % 2 ^ 16 ∧ (d.adjustStep l).get (R.TB_STATUS_STEP_PEND (par l 0 1)) = 1 ∧
    ∀ g : Fld, g.key ≠ (R.TB_STEP (par l 0 1)).key → g.key ≠ (R.TB_STEP_FRAC (par l 0 1)).key → g.key ≠ (R.TB_CTRL_STEP (par l 0 1)).key →
      g.key ≠ (R.TB_STATUS_STEP_PEND (par l 0 1)).key → (d.adjustStep l).get g = d.get g := by
  have hk := adjustKeys (par l 0 1)
  unfold Dev.adjustStep Dev.tbStep
  refine ⟨?_, ?_, ?_, fun g h1 h2 h3 h4 => ?_⟩
  · rw [Dev.get_set_ne _ _ _ _ (by omega), Dev.get_set_ne _ _ _ _ (by omega), Dev.get_set_ne _ _ _ _ (by omega), Dev.get_set_same]
    rfl
  · rw [Dev.get_set_ne _ _ _ _ (by omega), Dev.get_set_ne _ _ _ _ (by omega), Dev.get_set_same]
    rfl
  · exact Dev.get_set_same ..
  · rw [Dev.get_set_ne _ _ _ _ h4, Dev.get_set_ne _ _ _ _ h3, Dev.get_set_ne _ _ _ _ h2, Dev.get_set_ne _ _ _ _ h1]

/-- The checks of ADJUST_TIME: something is adjusted, and a rate is in its range (R601). -/
theorem paramCheck_adjust {r : CmdReq} (h : paramCheck d 0x0602 r l = none) : ((par l 1 1).testBit 0 = true ∨ (par l 1 1).testBit 1 = true) ∧
    ((par l 1 1).testBit 0 = true → par l 8 8 ≤ 10737418239) := by
  have hall := (firstFail_eq_none _).mp h
  simp only [List.forall_mem_cons, beq_eq_false_iff_ne, Bool.and_eq_false_imp, Bool.not_eq_false', Bool.and_eq_true, decide_eq_true_eq,
    decide_eq_false_iff_not] at hall
  obtain ⟨-, hmax, hzero, -, hrate, -⟩ := hall
  refine ⟨?_, fun hset => (hrate hset).2⟩
  generalize par l 1 1 = f at *
  interval_cases f
  · exact absurd rfl hzero
  all_goals decide

end

/-- An adjustment has asked for the rate or for the step. -/
theorem Dev.adjustTime_pending (d : Dev) {l : List Byte} (h : (par l 1 1).testBit 0 = true ∨ (par l 1 1).testBit 1 = true) :
    (d.adjustTime l).on (R.TB_STATUS_INCR_PEND (par l 0 1)) = true ∨ (d.adjustTime l).on (R.TB_STATUS_STEP_PEND (par l 0 1)) = true := by
  rw [Dev.adjustTime_eq]
  split
  · exact .inr (by rw [Dev.on, (Dev.adjustStep_effect _ l).2.2.1]; rfl)
  · next hstep =>
    rw [if_pos (h.resolve_right hstep)]
    exact .inl (by rw [Dev.on, (Dev.adjustRate_effect d l).2.1]; rfl)

/-- ADJUST_TIME writes what its flags name, and waits for it (R601). -/
theorem exec_adjustTime {r : CmdReq} {s : State} (h : Accepts s 0x0602 r) :
    exec (.adjustTime r) s = .next (waiting ((taken s 0x0602 r).on fun d => d.adjustTime r.params) 0x0602 r
      (.step (par r.params 0 1) (if (par r.params 1 1).testBit 1 then s.dev.get (R.TB_STATUS_STEP_GEN (par r.params 0 1)) else 16))) := by
  have hpending := Dev.adjustTime_pending (taken s 0x0602 r).dev (paramCheck_adjust s.dev r.params (paramCheck_accepts h)).1
  have hwork : AtWork (taken s 0x0602 r).dev ((taken s 0x0602 r).on fun d => d.adjustTime r.params).dev := .adjustTime ..
  rw [show exec (.adjustTime r) s = .next (s.takeCmd 0x0602 r) from rfl, ← taken_get s 0x0602 r (R.TB_STATUS_STEP_GEN (par r.params 0 1)),
    State.takeCmd_waits h (u := (taken s 0x0602 r).on fun d => d.adjustTime r.params) rfl (hwork.alone (taken_alone h.1.1 _)) (by simp) (if_pos hpending)]

/-- What an adjustment leaves, and what it writes (R601). -/
theorem Dev.adjustTime_effect (d d' : Dev) (l : List Byte) (hd' : d' = d.adjustTime l) (n : Nat) (hn : n = par l 0 1) :
    (∀ g : Fld, (∀ f ∈ [R.TB_INCR n, R.TB_STEP n, R.TB_STEP_FRAC n, R.TB_CTRL_STEP n, R.TB_CTRL_LOAD_INCR n, R.TB_STATUS_STEP_PEND n,
        R.TB_STATUS_INCR_PEND n], g.key ≠ f.key) → d'.get g = d.get g) ∧
      ((par l 1 1).testBit 0 = true → d'.get (R.TB_INCR n) = par l 8 8 % 2 ^ 40 ∧ d'.get (R.TB_STATUS_INCR_PEND n) = 1) ∧
      ((par l 1 1).testBit 0 = false → d'.get (R.TB_INCR n) = d.get (R.TB_INCR n)) ∧
      ((par l 1 1).testBit 1 = true → d'.get (R.TB_STEP n) = par l 16 8 % 2 ^ 64 ∧ d'.get (R.TB_STEP_FRAC n) = par l 2 2 % 2 ^ 16 ∧
        d'.get (R.TB_STATUS_STEP_PEND n) = 1) := by
  subst hn
  have hk := adjustKeys (par l 0 1)
  obtain ⟨hincr, hincrPend, hrateElse⟩ := Dev.adjustRate_effect d l
  have hrate : ∀ a, a = (if (par l 1 1).testBit 0 then d.adjustRate l else d) →
      (∀ g : Fld, g.key ≠ (R.TB_INCR (par l 0 1)).key → g.key ≠ (R.TB_CTRL_LOAD_INCR (par l 0 1)).key → g.key ≠ (R.TB_STATUS_INCR_PEND (par l 0 1)).key → a.get g = d.get g) ∧
      ((par l 1 1).testBit 0 = true → a.get (R.TB_INCR (par l 0 1)) = par l 8 8 % 2 ^ 40 ∧ a.get (R.TB_STATUS_INCR_PEND (par l 0 1)) = 1) ∧
      ((par l 1 1).testBit 0 = false → a.get (R.TB_INCR (par l 0 1)) = d.get (R.TB_INCR (par l 0 1))) := by
    rintro a rfl
    split
    · next h0 => exact ⟨hrateElse, fun _ => ⟨hincr, hincrPend⟩, fun h => absurd h0 (by simp [h])⟩
    · next h0 => exact ⟨fun _ _ _ _ => rfl, fun h => absurd h h0, fun _ => rfl⟩
  obtain ⟨helse, hset, hkept⟩ := hrate _ rfl
  rw [hd', Dev.adjustTime_eq]
  generalize (if (par l 1 1).testBit 0 then d.adjustRate l else d) = a at *
  obtain ⟨hstep, hfrac, hstepPend, hstepElse⟩ := Dev.adjustStep_effect a l
  simp only [List.forall_mem_cons]
  split
  · next h1 =>
    refine ⟨fun g ⟨g1, g2, g3, g4, g5, g6, g7, _⟩ => (hstepElse g g2 g3 g4 g6).trans (helse g g1 g5 g7), fun h0 => ?_, fun h0 => ?_,
      fun _ => ⟨hstep, hfrac, hstepPend⟩⟩
    · obtain ⟨hrate, hpend⟩ := hset h0
      exact ⟨(hstepElse _ (by omega) (by omega) (by omega) (by omega)).trans hrate, (hstepElse _ (by omega) (by omega) (by omega) (by omega)).trans hpend⟩
    · exact (hstepElse _ (by omega) (by omega) (by omega) (by omega)).trans (hkept h0)
  · next h1 => exact ⟨fun g ⟨g1, _, _, _, g5, _, g7, _⟩ => helse g g1 g5 g7, hset, hkept, fun h => absurd h h1⟩

/-! ### SET_DOMAIN and STRIDE_RUN 0 (R602, R617) -/

theorem runCmd_setDomain (s : State) (r : CmdReq) : s.runCmd 0x0A02 r =
    ({ s with dev := (s.dev.domainCmd (par r.params 0 1) (par r.params 1 1)).1 }, (s.dev.domainCmd (par r.params 0 1) (par r.params 1 1)).2) := rfl

theorem exec_setDomain_refused {r : CmdReq} {s : State} (h : Accepts s 0x0A02 r)
    (hrefused : ((taken s 0x0A02 r).dev.domainRequest (par r.params 0 1) (par r.params 1 1)).2 = false) :
    exec (.setDomain r) s = .next (answered (taken s 0x0A02 r) 0x0A02 r 13 (if par r.params 1 1 = 2 then 0x15 else 0xC) []) := by
  have hrun : (taken s 0x0A02 r).runCmd 0x0A02 r = (taken s 0x0A02 r, .reply 13 (if par r.params 1 1 = 2 then 0x15 else 0xC) []) := by
    rw [runCmd_setDomain, Dev.domainCmd, if_neg (by simp [hrefused])]
  rw [show exec (.setDomain r) s = .next (s.takeCmd 0x0A02 r) from rfl, State.takeCmd_reply h hrun (taken_alone h.1.1 _)]

theorem exec_setDomain_accepted {r : CmdReq} {s u : State} {w : Nat} (h : Accepts s 0x0A02 r)
    (hok : ((taken s 0x0A02 r).dev.domainRequest (par r.params 0 1) (par r.params 1 1)).2 = true)
    (hu : u = { taken s 0x0A02 r with dev := ((taken s 0x0A02 r).dev.domainRequest (par r.params 0 1) (par r.params 1 1)).1 })
    (hw : w = if par r.params 1 1 = 2 then 3 else par r.params 1 1) :
    exec (.setDomain r) s = .next (if u.dev.domain (par r.params 0 1) = w then answered u 0x0A02 r 0 0 []
      else waiting u 0x0A02 r (.domain (par r.params 0 1) w)) := by
  have hrun : (taken s 0x0A02 r).runCmd 0x0A02 r = (u, .wait (.domain (par r.params 0 1) w)) := by
    rw [runCmd_setDomain, Dev.domainCmd, if_pos hok, hu, hw]
  have hwork : AtWork (taken s 0x0A02 r).dev u.dev := by rw [hu]; exact .domainRequest ..
  rw [show exec (.setDomain r) s = .next (s.takeCmd 0x0A02 r) from rfl, State.takeCmd_waitCommand h hrun hwork (by simp), waitOver]
  by_cases hthere : u.dev.domain (par r.params 0 1) = w
  · simp only [if_pos hthere]
    rfl
  · simp only [if_neg hthere]

theorem exec_strideStop {r : CmdReq} {s u : State} (h : Accepts s 0x0604 r) (hzero : par r.params 0 1 = 0)
    (hu : u = (taken s 0x0604 r).on fun d => d.runStop) :
    exec (.strideRun r) s = .next (if u.dev.strideLive then waiting u 0x0604 r .lastEdge else answered u 0x0604 r 0 0 []) := by
  have hrun : (taken s 0x0604 r).runCmd 0x0604 r = (u, .wait .lastEdge) := by
    have hstop : (taken s 0x0604 r).dev.runState 0x0604 r r.params = ((taken s 0x0604 r).dev.runStop, .wait .lastEdge) := if_neg (by omega)
    rw [hu, ← show ({ taken s 0x0604 r with dev := ((taken s 0x0604 r).dev.runState 0x0604 r r.params).1 },
      ((taken s 0x0604 r).dev.runState 0x0604 r r.params).2) = (taken s 0x0604 r).runCmd 0x0604 r from rfl, hstop]
    rfl
  have hwork : AtWork (taken s 0x0604 r).dev u.dev := by rw [hu]; exact .runStop _
  rw [show exec (.strideRun r) s = .next (s.takeCmd 0x0604 r) from rfl, State.takeCmd_waitCommand h hrun hwork (by simp), waitOver]
  by_cases hlive : u.dev.strideLive = true
  · simp only [if_pos hlive]
  · simp only [if_neg hlive]
    rfl

theorem Dev.runStop_run (d : Dev) : d.runStop.get R.STRIDE_CTRL_RUN = 0 := by
  unfold Dev.runStop
  split
  · exact Dev.get_set_same ..
  · next h => simpa [Dev.on] using h

/-! ### The end of a wait (R559, R577, R590) -/

/-- A mailbox with nothing posted is passed over. -/
theorem State.mbServe_idle {s : State} {n : Nat} (h : s.dev.on (R.MB_STATUS_POSTED n 0) = false) : s.mbServe n = s := if_pos (by simp [h])

theorem State.mgmtServe_idle {s : State} (h : s.dev.fab.bridleRx = []) : s.mgmtServe = s := by
  have hsame : s.dev.withFab (fun f => { f with bridleRx := [] }) = s.dev := by
    rw [Dev.withFab, ← h]
  unfold State.mgmtServe
  rw [h]
  exact congrArg (fun d => { s with dev := d }) hsame

theorem State.heldServe_idle {s : State} (h : s.dev.bridle.hnRx = []) : s.heldServe = s := by
  unfold State.heldServe
  split
  · rfl
  · rw [h]
    refine congrArg (fun d => { s with dev := d }) ?_
    rw [← h]

section
variable {s : State} (hcore : s.dev.coreOn = true) (hstate : s.dev.get R.BRIDLE_STATUS_STATE = 1) (hswap : s.dev.upd.swap = none)
  (hrx : s.dev.fab.bridleRx = []) (hheld : s.dev.bridle.hnRx = []) (hmb : ∀ n < 2, s.dev.on (R.MB_STATUS_POSTED n 0) = false)
include hcore hstate hswap hrx hheld hmb

/-- A round without packets serves the commands in progress. -/
theorem State.bridleRound_serve : s.bridleRound = ((s.serve serveFuel).mbPump 0).mbPump 1 := by
  have hfree : s.swapIfFree = s := by rw [State.swapIfFree, hswap]
  simp only [State.bridleRound, hcore, hstate, hfree, State.mbServe_idle (hmb 0 (by decide)), State.mbServe_idle (hmb 1 (by decide)),
    State.mgmtServe_idle hrx, State.heldServe_idle hheld]
  rfl

variable {t : CmdTask} {w : CmdWait} (halone : Alone s.dev t) (hwait : t.wait = some w)
include halone hwait

theorem exec_bridleRound_over {st det : Nat} {ps : List Byte} (hover : waitOver s w = some (.reply st det ps)) :
    exec .bridleRound s = .next (((s.endTask t st det ps).mbPump 0).mbPump 1) := by
  have hserve : s.serve serveFuel = s.endTask t st det ps :=
    (State.serve_over hstate halone hwait hover 39).trans (State.serve_idle (State.endTask_idle halone ..) 39)
  rw [show exec .bridleRound s = .next s.bridleRound from rfl, State.bridleRound_serve hcore hstate hswap hrx hheld hmb, hserve]

theorem exec_bridleRound_waits (hover : waitOver s w = none) : exec .bridleRound s = .next ((s.mbPump 0).mbPump 1) := by
  rw [show exec .bridleRound s = .next s.bridleRound from rfl, State.bridleRound_serve hcore hstate hswap hrx hheld hmb,
    State.serve_waits halone hwait hover]

end

/-- What each wait is for (R597, R598, R601, R602, R605, R617). -/
theorem waitOver_facts (s : State) :
    (∀ n g, s.dev.on (R.TB_STATUS_INCR_PEND n) = false → s.dev.on (R.TB_STATUS_STEP_PEND n) = false →
      waitOver s (.step n g) = some (if s.dev.get (R.TB_STATUS_STEP_GEN n) = g then .reply 13 5 [] else .reply 0 0 [])) ∧
    (∀ p, s.dev.on (R.DIAG_CTRL_BUSY p) = false → waitOver s (.cable p) = some (.reply 0 0 (leBytes 4 (liveWord s .bridle (0xD00D4 + 0x800 * p))))) ∧
    (∀ k, s.dev.netState k ≠ 1 → waitOver s (.round k) = some (.reply 0 0 (if s.dev.get (R.SLP_NET_STATUS_RESULT k) = 1 then [0, 0, 0, 0]
      else [1, 0] ++ leBytes 2 (s.dev.get (R.SLP_NET_STATUS_NODE k))))) := by
  refine ⟨fun n g hincr hstep => ?_, fun p hbusy => ?_, fun k hround => ?_⟩
  · rw [waitOver, if_neg (by simp [hincr, hstep])]
    split <;> rfl
  · rw [waitOver, if_neg (by simp [hbusy])]
    simp [State.words]
  · rw [waitOver, if_neg hround, roundReply]
    split <;> rfl

/-- Settles O53: a command that waits by `State.takeCmd_waitCommand`, its end in a round by `State.serve_over`. -/
theorem commandWaits : Obligations.CommandWaits := by
  unfold Obligations.CommandWaits
  refine ⟨fun r s h => ?_, fun r s h => ?_, fun r s h => ?_, fun r s h => ?_, fun r s h hzero => ?_, fun r s => ?_, fun r s => ?_, fun s => ?_, ?_⟩
  · intro n u
    rw [show exec (.haltEngine r) s = .next (s.takeCmd 0x0402 r) from rfl,
      State.takeCmd_waitCommand h (u := u) rfl (.hostHalt _ (par_lt_of_accepts h (by simp))) (by simp)] <;> rfl
  · intro n v u
    rw [show exec (.setBankPower r) s = .next (s.takeCmd 0x0303 r) from rfl, State.takeCmd_waitCommand h (u := u) rfl (.bankRequest ..) (by simp)] <;> rfl
  · intro n u
    have hphy : n < 24 := paramCheck_cable (paramCheck_accepts h)
    rw [show exec (.cableTest r) s = .next (s.takeCmd 0x0704 r) from rfl,
      State.takeCmd_waitCommand h (u := u) (w := .cable n) rfl (.diagStart ..) (fun p hp => by cases hp; omega)] <;> rfl
  · intro n u
    rw [show exec (.sleepRequest r) s = .next (s.takeCmd 0x0A03 r) from rfl, State.takeCmd_waitCommand h (u := u) rfl (.roundStart ..) (by simp)] <;> rfl
  · exact ⟨_, rfl, exec_strideStop h hzero rfl, Dev.runStop_run _⟩
  · intro n f h
    obtain ⟨hkeeps, hrate, hnoRate, hstep⟩ := Dev.adjustTime_effect (taken s 0x0602 r).dev _ r.params rfl n rfl
    have hmax := (paramCheck_adjust s.dev r.params (paramCheck_accepts h)).2
    have hstepLt := par_lt r.params 16 8
    have hfracLt := par_lt r.params 2 2
    refine ⟨_, exec_adjustTime h, ⟨rfl, rfl, hkeeps⟩, fun h0 => ?_, fun h0 => ?_, fun h1 => ?_⟩
    · have hlt := hmax h0
      exact ⟨(hrate h0).1.trans (Nat.mod_eq_of_lt (by omega)), (hrate h0).2⟩
    · exact (hnoRate h0).trans (taken_get ..)
    · obtain ⟨hs, hf, hp⟩ := hstep h1
      exact ⟨hs.trans (Nat.mod_eq_of_lt (by omega)), hf.trans (Nat.mod_eq_of_lt (by omega)), hp⟩
  · exact fun h => ⟨exec_setDomain_refused h, fun hok => exec_setDomain_accepted h hok rfl rfl⟩
  · obtain ⟨hstep, hcable, hround⟩ := waitOver_facts s
    exact ⟨fun _ => rfl, rfl, fun _ _ => rfl, hstep, hcable, fun k hk => if_pos hk, hround⟩
  · exact fun op r w s hcore hstate hrestart hswap hrx hheld htasks hmb =>
      ⟨fun st det ps => exec_bridleRound_over hcore hstate hswap hrx hheld hmb ⟨htasks, hrestart⟩ rfl,
        exec_bridleRound_waits hcore hstate hswap hrx hheld hmb ⟨htasks, hrestart⟩ rfl⟩

end Sys2Proof.Machine
end

section
/-! PROOFS. The read commands: what reading leaves of the Bridle's commands, and the bytes of a reply (R588 to R592). -/

namespace Sys2Proof.Machine
open Sys2Proof Sys2Proof.Safety

/-! ### Bytes of a reply -/

theorem slice_append_right {a b : List Byte} {i n : Nat} (h : a.length ≤ i) : slice (a ++ b) i n = slice b (i - a.length) n := by
  refine List.map_congr_left fun j _ => ?_
  rw [List.getD_append_right _ _ _ _ (by omega)]
  congr 1
  omega

theorem slice_append_left {a b : List Byte} {i n : Nat} (h : i + n ≤ a.length) : slice (a ++ b) i n = slice a i n := by
  refine List.map_congr_left fun j hj => List.getD_append _ _ _ _ ?_
  have := List.mem_range.mp hj
  omega

theorem slice_all {a : List Byte} {n : Nat} (h : a.length = n) : slice a 0 n = a := by
  subst h
  refine List.ext_getElem (by simp [slice]) fun i hi hi' => ?_
  simp [slice, hi']

theorem slice_length (l : List Byte) (i n : Nat) : (slice l i n).length = n := by simp [slice]

theorem leNat_leBytes (n v : Nat) : leNat (leBytes n v) = v % 256 ^ n := by
  induction n generalizing v with
  | zero => simp [leBytes, leNat, Nat.mod_one]
  | succ n ih =>
    rw [leBytes, leNat, ih, pow_succ', Nat.mod_mul, BitVec.toNat_ofNat]

/-- A field at the front of a reply. -/
theorem par_front (n v : Nat) (b : List Byte) : par (leBytes n v ++ b) 0 n = v % 256 ^ n := by
  rw [par, slice_append_left (by simp [leBytes_length]), slice_all (leBytes_length n v), leNat_leBytes]

theorem par_skip {a b : List Byte} {i n : Nat} (h : a.length ≤ i) : par (a ++ b) i n = par b (i - a.length) n := by
  rw [par, slice_append_right h, par]

/-! ### What reading leaves of the commands (R9, R467, R592) -/

section
variable (d : Dev)

theorem Dev.cause_bridle (f : Fld) (en : Bool) (ev : Nat) : (d.cause f en ev).bridle = d.bridle := by
  unfold Dev.cause
  dsimp only
  split
  · exact (AtWork.raise _ ev).bridle
  · rfl

/-- A cause of any event. -/
theorem SameTasks.anyCause (f : Fld) (en : Bool) (ev : Nat) : SameTasks d (d.cause f en ev) := .of_bridle (d.cause_bridle f en ev)

theorem SameTasks.rsvWrite (w : Writer) (off : Nat) : SameTasks d (d.rsvWrite w off) := by
  unfold Dev.rsvWrite Dev.rsvWriteMap
  dsimp only
  split
  · exact .anyCause ..
  · exact (((SameTasks.set d _ _).trans (.set ..)).trans (.set ..)).trans (.anyCause ..)

theorem SameTasks.gclRead (p : Nat) : SameTasks d (d.gclRead p).2 := .inc ..

theorem SameTasks.pnRead (w : Writer) (n : Nat) : SameTasks d (d.pnRead w n).2 := by
  unfold Dev.pnRead
  dsimp only
  split
  · exact .anyCause ..
  · split
    · exact .of_bridle rfl
    · exact .anyCause ..

theorem SameTasks.serPop (n : Nat) : SameTasks d (d.serPop n).2 := by
  unfold Dev.serPop
  split
  · exact .of_bridle rfl
  · exact .refl d

theorem SameTasks.stirRx (i : Nat) : SameTasks d (d.stirRx i).2 := by
  unfold Dev.stirRx
  dsimp only
  split
  · exact .of_bridle rfl
  · exact .refl d

theorem SameTasks.readEffect (w : Writer) (off : Nat) : SameTasks d (d.readEffect w off) := by
  unfold Dev.readEffect
  dsimp only
  split
  · split
    · exact .of_bridle rfl
    · split
      · exact .of_bridle rfl
      · exact .refl d
  · split
    · exact .pnRead ..
    · exact .refl d
  · split
    · exact .stirRx ..
    · exact .refl d
  · split
    · exact .serPop ..
    · exact .refl d
  · split
    · exact .gclRead ..
    · exact .refl d
  · exact .refl d

theorem SameTasks.faultLog (n cause : Nat) (r : Req) (write : Bool) (addr : Nat) : SameTasks d (d.faultLog n cause r write addr) := by
  unfold Dev.faultLog
  dsimp only
  split
  · exact .inc ..
  · exact .of_bridle rfl

theorem SameTasks.bankFault (n cause : Nat) (r : Req) (write : Bool) (addr : Nat) : SameTasks d (d.bankFault n cause r write addr) :=
  (SameTasks.faultLog d _ _ _ _ _).trans (.anyCause ..)

theorem SameTasks.bankUe (n : Nat) (r : Req) (write : Bool) (addr : Nat) : SameTasks d (d.bankUe n r write addr) := by
  have hlog (f : Fld) (en : Bool) (ev : Nat) := (SameTasks.faultLog d n 4 r write addr).trans (.anyCause _ f en ev)
  unfold Dev.bankUe
  dsimp only
  split
  · exact hlog ..
  · exact (hlog ..).trans ((SameTasks.set _ R.SYS_DIAG_ECC_SRC 2).trans (.anyCause ..))

theorem SameTasks.bankCe (n addr : Nat) : SameTasks d (d.bankCe n addr) := by
  refine SameTasks.trans ?_ (.anyCause ..)
  exact .of_bridle rfl

theorem SameTasks.readEcc (addr len : Nat) (r : Req) : SameTasks d (d.readEcc addr len r) := by
  refine .foldl (fun a w => ?_) d _
  split
  · exact .bankCe ..
  · exact .bankUe ..
  · exact .refl a

theorem SameTasks.orchRead (m : List Host.Cell) (r : Req) (addr len : Nat) : SameTasks d (orchRead m d r addr len).2 := by
  unfold Machine.orchRead
  dsimp only
  split
  · exact .bankFault ..
  · exact .readEcc ..

end

section
variable (s : State)

theorem SameTasks.readWord (w : Writer) (k off : Nat) : SameTasks s.dev (s.readWord w k off).2.dev := by
  unfold State.readWord
  split
  · exact .of_bridle rfl
  · refine SameTasks.trans (b := (latchShadows s w k (shadowed off)).dev) ?_ (.readEffect ..)
    exact .of_bridle rfl

theorem SameTasks.regRead_word (w : Writer) (k off : Nat) : SameTasks s.dev (s.regRead w k off 4).2.dev := by
  unfold State.regRead
  split
  · exact .rsvWrite ..
  · rw [if_pos rfl]
    exact .readWord ..

theorem SameTasks.readRegs (k off n : Nat) : SameTasks s.dev (s.readRegs k off n).2.dev := by
  induction n generalizing s off with
  | zero => exact .refl _
  | succ n ih => exact (SameTasks.regRead_word s .pcie k off).trans (ih ..)

theorem State.readRegs_length (k off n : Nat) : (s.readRegs k off n).1.length = 4 * n := by
  induction n generalizing s off with
  | zero => rfl
  | succ n ih =>
    simp only [State.readRegs, List.length_append, leBytes_length, ih]
    omega

theorem SameTasks.bar2ReadPiece (off n : Nat) : SameTasks s.dev (s.bar2ReadPiece off n).2.dev := by
  unfold State.bar2ReadPiece
  split
  · exact .orchRead ..
  · split
    · split <;> exact .refl _
    · split <;> exact .refl _

theorem State.bar2ReadPiece_length (off n : Nat) : (s.bar2ReadPiece off n).1.length = n := by
  have horch (m : List Host.Cell) (d : Dev) (r : Req) (addr : Nat) : (Machine.orchRead m d r addr n).1.length = n := by
    unfold Machine.orchRead
    dsimp only
    split
    · exact List.length_replicate
    · exact Mem.length_bytes ..
  unfold State.bar2ReadPiece
  split
  · exact horch ..
  · split
    · split
      · exact Mem.length_bytes ..
      · exact List.length_replicate
    · split
      · simp
      · exact List.length_replicate

theorem SameTasks.bar2Read (off n fuel : Nat) : SameTasks s.dev (s.bar2Read off n fuel).2.dev := by
  induction fuel generalizing s off n with
  | zero => exact .refl _
  | succ fuel ih =>
    unfold State.bar2Read
    dsimp only
    split
    · exact .refl _
    · exact (SameTasks.bar2ReadPiece s off _).trans (ih ..)

/-- Pieces that end at multiples of 8 cover the range: with a step for the first piece and one for each word. -/
theorem State.bar2Read_length (off n fuel : Nat) (hfuel : n + 8 + off % 8 ≤ 8 * fuel) : (s.bar2Read off n fuel).1.length = n := by
  induction fuel generalizing s off n with
  | zero => omega
  | succ fuel ih =>
    unfold State.bar2Read
    dsimp only
    split
    · next hzero => simp [hzero]
    · next hn =>
      rw [List.length_append, State.bar2ReadPiece_length]
      by_cases hlast : n ≤ 8 - off % 8
      · have hnil (x : State) (o : Nat) : (x.bar2Read o 0 fuel).1 = [] := by cases fuel <;> simp [State.bar2Read]
        rw [Nat.min_eq_left hlast, Nat.sub_self, hnil]
        rfl
      · rw [Nat.min_eq_right (by omega), ih _ _ _ (by omega)]
        omega

end

end Sys2Proof.Machine
end

section
/-! PROOFS. The statement about read commands (R588 to R618). -/

namespace Sys2Proof.Machine
open Sys2Proof Sys2Proof.Safety

@[simp] theorem taken_upd (s : State) (op : Nat) (r : CmdReq) : (taken s op r).dev.upd = s.dev.upd := by
  obtain ⟨h, hdev⟩ := taken_dev s op r
  rw [hdev]
  rfl

@[simp] theorem taken_owner (s : State) (op : Nat) (r : CmdReq) : (taken s op r).dev.owner = s.dev.owner := by
  simp [Dev.owner, Dev.on]

theorem taken_kept (s : State) (op : Nat) (r : CmdReq) : (taken s op r).dev.bridle.kept = s.dev.bridle.kept := by
  obtain ⟨h, hdev⟩ := taken_dev s op r
  rw [hdev]
  rfl

section
variable {s u : State} {op st det : Nat} {r : CmdReq} {ps : List Byte} (h : Accepts s op r)
include h

/-- An accepted command whose effect leaves the commands in progress alone replies at once (R558, R590). -/
theorem State.takeCmd_done (hrun : (taken s op r).runCmd op r = (u, .reply st det ps)) (hsame : SameTasks (taken s op r).dev u.dev) :
    s.takeCmd op r = answered u op r st det ps :=
  State.takeCmd_reply h hrun ((taken_alone h.1.1 op).congr hsame)

/-- An accepted command that changes nothing replies at once. -/
theorem State.takeCmd_read (hrun : (taken s op r).runCmd op r = (taken s op r, .reply st det ps)) :
    s.takeCmd op r = answered (taken s op r) op r st det ps :=
  State.takeCmd_done h hrun (.refl _)

end

/-! ### Words in a reply (R588) -/

theorem words_offsFrom (s : State) (o n : Nat) : s.words (offsFrom o n) = (List.range n).flatMap (fun i => leBytes 4 (liveWord s .bridle (o + 4 * i))) := by
  simp [State.words, offsFrom, List.flatMap_map]

theorem offsFrom_three (o : Nat) : offsFrom o 3 = [o, o + 4, o + 8] := rfl

/-! ### GET_INFO (R591) -/

theorem infoBytes_length (s : State) : (infoBytes s).length = 32 := by
  simp [infoBytes, leBytes_length, slice_length]

section
variable (s : State)

/-- The fields of GET_INFO at their offsets. -/
theorem infoBytes_fields : par (infoBytes s) 0 1 = s.dev.get R.SYS_ID_ORDERING % 256 ∧ par (infoBytes s) 1 1 = 0xA1 ∧
    par (infoBytes s) 2 2 = s.dev.get R.HN_CTRL_NODE_ID % 65536 ∧ par (infoBytes s) 4 1 = s.dev.get R.SEC_STATUS_LIFECYCLE % 256 ∧
    par (infoBytes s) 5 1 = (if s.dev.upd.active then 1 else 0) + (if s.dev.owner.isSome then 2 else 0) ∧
    par (infoBytes s) 6 1 = s.dev.get R.SEC_STATUS_HN_EPOCH % 256 ∧ par (infoBytes s) 7 1 = s.dev.get R.SEC_STATUS_COMPAT_EPOCH % 256 ∧
    slice (infoBytes s) 8 16 = slice s.dev.upd.serial 0 16 ∧ par (infoBytes s) 24 4 = s.dev.get R.SEC_VERSION % 2 ^ 32 := by
  simp only [infoBytes, List.append_assoc]
  simp only [par_skip, par_front, slice_append_right, leBytes_length, slice_length, Nat.reduceLeDiff, Nat.reduceSub, Nat.sub_self, le_refl]
  refine ⟨rfl, rfl, rfl, rfl, ?_, rfl, rfl, ?_, rfl⟩
  · split <;> split <;> rfl
  · rw [slice_append_left (by simp [slice_length]), slice_all (slice_length ..)]
end

/-! ### ATTEST (R614, R670) -/

section
variable (s : State) (nonce : List Byte)

theorem attest_bridle : ∃ l, l ≠ [] ∧ (s.attest nonce).dev.bridle = { s.dev.bridle with kept := some (nonce, l) } := by
  unfold State.attest
  extract_lets left q msg sig
  have hsig : msg ++ sig ≠ [] := by
    have : sig.length = 1772 := by simp [sig]
    intro hnil
    simp [(List.append_eq_nil_iff.mp hnil).2] at this
  clear_value msg sig
  refine ⟨msg ++ sig, hsig, ?_⟩
  rw [State.on_dev]
  dsimp only
  split
  · exact Dev.cause_bridle ..
  · rfl

/-- ATTEST with offset 0 replies the start of the result that it keeps. -/
theorem attestCmd_first (hkey : s.dev.on R.SEC_STATUS_KEY_VALID = true) (hleft : s.dev.get R.SEC_SIG_LEFT ≠ 0) (nonce : List Byte) :
    ∃ l, s.attestCmd nonce 0 = (s.attest nonce, .reply 0 0 (leBytes 2 l.length ++ [0, 0] ++ l.take 1020)) ∧
      (s.attest nonce).dev.bridle.kept = some (nonce, l) := by
  obtain ⟨l, hl, hbridle⟩ := attest_bridle s nonce
  have hkept : (s.attest nonce).dev.bridle.kept = some (nonce, l) := by rw [hbridle]
  refine ⟨l, ?_, hkept⟩
  have hlen : ¬ l.length ≤ 0 := by simpa using hl
  simp [State.attestCmd, hkey, hleft, hkept, partOf, hlen]

variable {s} {off : Nat} {l : List Byte}

/-- ATTEST past offset 0 replies a part of the result that was kept. -/
theorem attestCmd_part {nonce : List Byte} (hkey : s.dev.on R.SEC_STATUS_KEY_VALID = true) (hoff : off ≠ 0)
    (hkept : s.dev.bridle.kept = some (nonce, l)) : s.attestCmd nonce off = (s, partOf l off) := by
  simp [State.attestCmd, hkey, hoff, hkept]

theorem attestCmd_otherNonce {nonce : List Byte} (hkey : s.dev.on R.SEC_STATUS_KEY_VALID = true) (hoff : off ≠ 0)
    (hkept : ∀ l, s.dev.bridle.kept ≠ some (nonce, l)) : s.attestCmd nonce off = (s, .reply 13 0xE []) := by
  have hnot : ¬ (off = 0 ∧ s.dev.get R.SEC_SIG_LEFT = 0) := fun h => hoff h.1
  simp only [State.attestCmd, hkey, hoff, if_false, Bool.not_true, Bool.false_eq_true, false_and, or_self]
  split
  · next n l hl =>
    have hne : n ≠ nonce := fun heq => hkept l (heq ▸ hl)
    rw [if_neg hne]
  · rfl

theorem attestCmd_refused {nonce : List Byte} (h : s.dev.on R.SEC_STATUS_KEY_VALID = false ∨ (off = 0 ∧ s.dev.get R.SEC_SIG_LEFT = 0)) :
    s.attestCmd nonce off = (s, .reply 5 0xF000 []) := by
  refine if_pos ?_
  simpa using h

end

/-- A part of a result (R613). -/
theorem answered_partOf {u : State} {op : Nat} {r : CmdReq} {l : List Byte} {off : Nat} {i : Instr} {s : State} (h : Accepts s op r)
    (hexec : exec i s = .next (s.takeCmd op r)) (hu : u = taken s op r) (hrun : u.runCmd op r = (u, partOf l off)) :
    exec i s = .next (if l.length ≤ off then answered u op r 6 0 [] else answered u op r 0 0 (leBytes 2 l.length ++ [0, 0] ++ (l.drop off).take 1020)) := by
  subst hu
  rw [hexec]
  by_cases hend : l.length ≤ off
  · rw [State.takeCmd_read h (hrun.trans (by rw [partOf, if_pos hend])), if_pos hend]
  · rw [State.takeCmd_read h (hrun.trans (by rw [partOf, if_neg hend])), if_neg hend]

/-! ### The statement -/

theorem exec_read {i : Instr} {s : State} {op st det : Nat} {r : CmdReq} {ps : List Byte} (hexec : exec i s = .next (s.takeCmd op r)) (h : Accepts s op r)
    (hrun : (taken s op r).runCmd op r = (taken s op r, .reply st det ps)) : exec i s = .next (answered (taken s op r) op r st det ps) := by
  rw [hexec, State.takeCmd_read h hrun]

/-- A read command that replies other bytes than its layout's, spelt in another way. -/
theorem exec_readBytes {i : Instr} {s : State} {op : Nat} {r : CmdReq} {ps ps' : List Byte} (hexec : exec i s = .next (s.takeCmd op r)) (h : Accepts s op r)
    (hrun : (taken s op r).runCmd op r = (taken s op r, .reply 0 0 ps')) (hbytes : ps' = ps) : exec i s = .next (answered (taken s op r) op r 0 0 ps) :=
  exec_read hexec h (hbytes ▸ hrun)

theorem exec_words {i : Instr} {s : State} {op : Nat} {r : CmdReq} {l l' : List Nat} (hexec : exec i s = .next (s.takeCmd op r)) (h : Accepts s op r)
    (hrun : (taken s op r).runCmd op r = (taken s op r, .reply 0 0 ((taken s op r).words l'))) (hl : l' = l) :
    exec i s = .next (answered (taken s op r) op r 0 0 ((taken s op r).words l)) := exec_readBytes hexec h hrun (hl ▸ rfl)

theorem runCmd_attest (s : State) (r : CmdReq) : s.runCmd 0x0902 r = s.attestCmd (r.params.take 16) (par r.params 16 2) := rfl

/-- READ_MEM reads 1,024 bytes at most (R593). -/
theorem paramCheck_readMem {d : Dev} {r : CmdReq} {l : List Byte} (h : paramCheck d 0x0105 r l = none) : par l 4 2 ≤ 1024 := by
  have hall := (firstFail_eq_none _).mp h
  simp only [List.forall_mem_cons, Bool.or_eq_false_iff, decide_eq_false_iff_not] at hall
  omega

/-- Settles O50: a read replies the bytes of its layout by `exec_read`; what its reads change leaves the commands in progress alone. -/
theorem commandReads : Obligations.CommandReads := by
  unfold Obligations.CommandReads
  refine ⟨fun r s h => ?_, fun r s h => ?_, fun r s h => ?_, fun r s h => ?_, fun r s h => ?_, fun r s h => ?_, fun r s h => ?_, fun r s h => ?_,
    fun r s h => ?_, fun r s h => ?_, fun r s h => ?_, fun r s h => ?_, fun r s h => ?_, fun r s h => ?_, fun r s h => ?_, fun r s h => ?_, fun r s h => ?_,
    fun r s h => ?_, fun r s h => ?_, fun r s h => ?_, fun r s h => ?_, fun r s h => ?_, fun r s h => ?_, fun r s h => ?_, fun r s h => ?_,
    fun r s h hkey => ?_, fun r s h hleft hoff => ?_, fun r s h hkey hleft hoff => ?_, fun r l s h hkey hoff hkept => ?_, fun r s h hkey hoff hkept => ?_⟩
  · exact exec_read rfl h rfl
  · exact exec_readBytes rfl h rfl (words_offsFrom ..)
  · exact exec_read rfl h rfl
  · exact exec_read rfl h rfl
  · exact exec_read rfl h rfl
  · exact exec_words rfl h rfl (by simp only [List.map_cons, List.map_nil, List.cons.injEq, and_true]; omega)
  · exact exec_words rfl h rfl (by simp only [offsFrom_three, List.cons.injEq, and_true, true_and]; omega)
  · exact exec_read rfl h rfl
  · exact exec_read rfl h rfl
  · exact exec_readBytes rfl h rfl (words_offsFrom ..)
  · exact exec_readBytes rfl h rfl (words_offsFrom ..)
  · exact exec_words rfl h rfl (by simp only [offsFrom_three, List.cons_append, List.nil_append, List.cons.injEq, and_true, true_and]; omega)
  · exact exec_read rfl h rfl
  · exact exec_words rfl h rfl (by simp only [List.map_cons, List.map_nil, List.cons.injEq, and_true]; omega)
  · exact exec_words rfl h rfl (by simp only [List.map_cons, List.map_nil, List.cons.injEq, and_true]; omega)
  · exact exec_readBytes rfl h rfl (words_offsFrom ..)
  · exact exec_read rfl h rfl
  · exact exec_read rfl h rfl
  · exact exec_read rfl h rfl
  · exact exec_readBytes rfl h rfl (words_offsFrom ..)
  · exact exec_read rfl h rfl
  · have hfields := infoBytes_fields (taken s 0x0101 r)
    simp only [taken_get, taken_upd, taken_owner] at hfields
    exact ⟨_, exec_read rfl h rfl, infoBytes_length _, hfields⟩
  · refine ⟨_, _, Prod.mk.eta.symm, State.readRegs_length .., ?_⟩
    rw [show exec (.readReg r) s = .next (s.takeCmd 0x0103 r) from rfl, State.takeCmd_done h rfl (.readRegs ..)]
  · have hlen := paramCheck_readMem (paramCheck_accepts h)
    refine ⟨_, _, Prod.mk.eta.symm, State.bar2Read_length _ _ _ _ (by omega), ?_⟩
    rw [show exec (.readMem r) s = .next (s.takeCmd 0x0105 r) from rfl, State.takeCmd_done h rfl (.bar2Read ..)]
  · exact answered_partOf h rfl rfl (by rw [← taken_upd s 0x0901 r]; rfl)
  · exact exec_read rfl h ((runCmd_attest ..).trans (attestCmd_refused (.inl (by simpa [Dev.on] using hkey))))
  · exact exec_read rfl h ((runCmd_attest ..).trans (attestCmd_refused (.inr ⟨hoff, (taken_get ..).trans hleft⟩)))
  · obtain ⟨l, hrun, hkept⟩ := attestCmd_first (taken s 0x0902 r) (by simpa [Dev.on] using hkey) (by simpa using hleft) (r.params.take 16)
    obtain ⟨_, _, hbridle⟩ := attest_bridle (taken s 0x0902 r) (r.params.take 16)
    refine ⟨l, ?_, hkept⟩
    rw [show exec (.attest r) s = .next (s.takeCmd 0x0902 r) from rfl,
      State.takeCmd_done h ((runCmd_attest ..).trans (by rw [hoff, hrun])) ⟨by rw [hbridle], by rw [hbridle]⟩]
  · exact answered_partOf h rfl rfl ((runCmd_attest ..).trans (attestCmd_part (by simpa [Dev.on] using hkey) hoff ((taken_kept ..).trans hkept)))
  · exact exec_read rfl h ((runCmd_attest ..).trans (attestCmd_otherNonce (by simpa [Dev.on] using hkey) hoff fun l => by rw [taken_kept]; exact hkept l))

end Sys2Proof.Machine
end

section
/-! PROOFS. The statement about state and diagnosis commands whose reply comes at once: it fails for a device with cells in a slice past the last, whose
fill would show in a port's EN. -/

namespace Sys2Proof.Machine
open Sys2Proof Sys2Proof.Safety

/-- SET_PORT_ENABLE 0 of lane 0, from the owner on that lane, with NO_REPLY (R605). -/
def lastPort : CmdReq := { port := 3, via := 0, flags := 2, plen := 2, params := [0, 0] }

/-- A cell of a mapping rule on the way to fabric port 16. -/
def strayPortCell : FCell := { id := 0, n := 0, src := 0, dst := 16, map := true }

/-- A device with port 0 enabled, owned by HARNESS, whose fabric is two slots behind and holds two cells in slice 0x3800. The switch has 40 slices, and the
fill of this one would lie at the address of PORT_CTRL of port 0. -/
def strayPort : State :=
  State.reset.on fun d => { (((((d.set (R.OWN_PORT_CLASS 3) 3).set R.OWN_STATUS_OWNED 1).set R.OWN_STATUS_PORT 3).set R.BRIDLE_STATUS_STATE 1).set
    (R.PORT_CTRL_EN 0) 1).set (R.PORT_CTRL_MODE 0) 1 with now := 2, fab := { slices := [(0x3800, strayPortCell), (0x3800, strayPortCell)] } }

theorem strayPort_accepts : Accepts strayPort 0x0703 lastPort := by
  refine ⟨⟨⟨?_, ?_, ?_, ?_, ?_⟩, ?_, ?_, ?_⟩, ?_⟩
  all_goals decide +kernel

/-- The port is disabled, its link goes down, the fabric catches up, one cell leaves the slice, and the fill that is left shows as EN. -/
theorem strayPort_enabled : (strayPort.takeCmd 0x0703 lastPort).dev.get (R.PORT_CTRL_EN 0) = 1 := by decide +kernel

/-- Refutes O52: the last clause on SET_PORT_ENABLE says that EN is 0 once the reply has left, of every state. The fabric's slots that the link's going down
brings up to date write the fill of each slice that holds cells, and in `strayPort` that is the EN of port 0, which the command had cleared. No run from
reset reaches such a state; the statement has no hypothesis that excludes it. -/
theorem not_commandChanges : ¬ Obligations.CommandChanges := by
  unfold Obligations.CommandChanges
  rintro ⟨-, -, -, -, -, -, -, -, -, -, -, -, -, -, -, -, -, -, hport, -⟩
  obtain ⟨t, ht, -, hen⟩ := hport lastPort strayPort strayPort_accepts rfl (by decide) rfl
  have hst : strayPort.takeCmd 0x0703 lastPort = t := Host.Outcome.next.inj ht
  have hon := strayPort_enabled
  rw [hst, show R.PORT_CTRL_EN 0 = R.PORT_CTRL_EN (par lastPort.params 0 1) from rfl, hen] at hon
  exact absurd hon (by decide)

end Sys2Proof.Machine
end

section
/-! PROOFS. The ownership commands (R551 to R554). -/

namespace Sys2Proof.Machine
open Sys2Proof Sys2Proof.Safety

@[simp] theorem taken_now (s : State) (op : Nat) (r : CmdReq) : (taken s op r).dev.now = s.dev.now := by
  obtain ⟨h, hdev⟩ := taken_dev s op r
  rw [hdev]
  rfl

/-- A command of the owner restarts the keep-alive timer (R554). -/
theorem taken_lapse {s : State} {op : Nat} {r : CmdReq} (h : s.dev.owner = some r.port.val) :
    (taken s op r).dev.host.lapse = s.dev.now + s.dev.get R.OWN_TIMEOUT * 1000000 := by
  unfold taken
  rw [State.on_dev]
  unfold Dev.takeTask
  rw [if_pos h]
  rfl

theorem SameTasks.keepAlive (d : Dev) : SameTasks d d.keepAlive := .of_bridle (by unfold Dev.keepAlive; rfl)

theorem SameTasks.takeOwner (d : Dev) (o : Option Nat) : SameTasks d (d.takeOwner o) := by
  unfold Dev.takeOwner
  dsimp only
  split
  · exact .refl d
  · exact ((((SameTasks.set d _ _).trans (.set ..)).trans (.inc ..)).trans (.keepAlive _)).trans (.anyCause ..)

/-- The fields that a change of owner writes, before the event. -/
def Dev.newOwner (d : Dev) (o : Option Nat) : Dev :=
  ((d.set R.OWN_STATUS_OWNED (if o.isSome then 1 else 0)).set R.OWN_STATUS_PORT (o.getD 0)).inc R.OWN_STATUS_CHANGES

theorem Dev.takeOwner_change {d : Dev} {o : Option Nat} (h : d.owner ≠ o) :
    d.takeOwner o = (d.newOwner o).keepAlive.ownCause R.OWN_EVT_CHANGED 0 := if_neg h

/-- Where OWN_TIMEOUT lies (R554). -/
theorem timeoutKey : R.OWN_TIMEOUT.key = 0x200080 := rfl

section
variable (d : Dev) (o : Option Nat)

theorem Dev.newOwner_get :
    (d.newOwner o).get R.OWN_STATUS_OWNED = (if o.isSome then 1 else 0) ∧ (d.newOwner o).get R.OWN_STATUS_PORT = o.getD 0 % 8 ∧
    (d.newOwner o).get R.OWN_STATUS_CHANGES = (d.get R.OWN_STATUS_CHANGES + 1) % 2 ^ R.OWN_STATUS_CHANGES.width := by
  have hk := portKeys 0
  unfold Dev.newOwner
  refine ⟨?_, ?_, ?_⟩
  · rw [Dev.get_inc_ne _ _ _ (by omega), Dev.get_set_ne _ _ _ _ (by omega), Dev.get_set_same]
    cases o <;> rfl
  · rw [Dev.get_inc_ne _ _ _ (by omega), Dev.get_set_same]
    rfl
  · rw [Dev.get_inc_same, Dev.get_set_ne _ _ _ _ (by omega), Dev.get_set_ne _ _ _ _ (by omega)]

theorem Dev.newOwner_get_ne {g : Fld} (hg : ∀ f ∈ [R.OWN_STATUS_OWNED, R.OWN_STATUS_PORT, R.OWN_STATUS_CHANGES], g.key ≠ f.key) :
    (d.newOwner o).get g = d.get g := by
  simp only [List.forall_mem_cons] at hg
  obtain ⟨howned, hport, hchanges, -⟩ := hg
  unfold Dev.newOwner
  rw [Dev.get_inc_ne _ _ _ hchanges, Dev.get_set_ne _ _ _ _ hport, Dev.get_set_ne _ _ _ _ howned]

end

/-- The owner becomes the one that a command names (R551 to R553, R580). -/
theorem ownerBecomes_takeOwner (s : State) (op : Nat) (r : CmdReq) {o : Option Nat} (ho : ∀ p ∈ o, p < 8) :
    OwnerBecomes o s (taken s op r) ((taken s op r).on fun d => d.takeOwner o) := by
  have hk := portKeys 0
  by_cases hsame : s.dev.owner = o
  · have hstay : ((taken s op r).on fun d => d.takeOwner o) = taken s op r := by
      rw [State.on, show (taken s op r).dev.takeOwner o = (taken s op r).dev from if_pos (by rw [taken_owner, hsame])]
    rw [hstay]
    exact ⟨by rw [taken_owner, hsame], rfl, fun _ => rfl, fun h => absurd hsame h, fun g _ _ => taken_get ..⟩
  · have hchange : (taken s op r).dev.owner ≠ o := by rwa [taken_owner]
    let u := taken s op r
    have hget (g : Fld) (hg : block g ≠ 3) (hne : g.key ≠ R.OWN_EVT_CHANGED.key) : (u.dev.takeOwner o).get g = (u.dev.newOwner o).get g := by
      rw [Dev.takeOwner_change hchange, Dev.ownCause_ne _ _ _ _ hg hne, Dev.get_congr (Dev.keepAlive_regs _)]
    obtain ⟨howned, hport, hcount⟩ := Dev.newOwner_get u.dev o
    refine ⟨?_, rfl, fun h => absurd h hsame, fun _ => ⟨?_, ?_, ?_⟩, fun g hg hne => ?_⟩
    · rw [State.on_dev, Dev.owner, Dev.on, hget _ (by unfold block; omega) (by omega), hget _ (by unfold block; omega) (by omega), howned, hport]
      cases o with
      | none => rfl
      | some p => simp [Nat.mod_eq_of_lt (ho p rfl)]
    · rw [State.on_dev, Dev.takeOwner_change hchange, Dev.ownCause_same _ _ _ (by unfold block; omega)]
      rfl
    · have hhost : (u.dev.takeOwner o).host = (u.dev.newOwner o).keepAlive.host := by
        rw [Dev.takeOwner_change hchange, Dev.ownCause, (EventFrame.cause _ _ _ _ (by omega)).rest]
        rfl
      have htimeout : (u.dev.newOwner o).get R.OWN_TIMEOUT = s.dev.get R.OWN_TIMEOUT := by
        rw [Dev.newOwner_get_ne, taken_get]
        have := timeoutKey
        simp only [List.forall_mem_cons]
        exact ⟨by omega, by omega, by omega, nofun⟩
      rw [State.on_dev, hhost]
      change (u.dev.newOwner o).now + (u.dev.newOwner o).get R.OWN_TIMEOUT * 1000000 = _
      rw [htimeout, show (u.dev.newOwner o).now = s.dev.now from taken_now s op r]
    · rw [State.on_dev, hget _ (by unfold block; omega) (by omega), hcount, taken_get]
    · simp only [List.forall_mem_cons] at hne
      obtain ⟨h1, h2, h3, h4, -⟩ := hne
      rw [State.on_dev, hget g hg h4, Dev.newOwner_get_ne, taken_get]
      simp only [List.forall_mem_cons]
      exact ⟨h1, h2, h3, nofun⟩

/-- A command that names the owner (R551 to R553). -/
theorem exec_takeOwner {s : State} {op : Nat} {r : CmdReq} {o : Option Nat} {i : Instr} (h : Accepts s op r) (ho : ∀ p ∈ o, p < 8)
    (hexec : exec i s = .next (s.takeCmd op r)) (hrun : (taken s op r).runCmd op r = ((taken s op r).on fun d => d.takeOwner o, okReply)) :
    ∃ t, exec i s = .next (answered t op r 0 0 []) ∧ OwnerBecomes o s (taken s op r) t :=
  ⟨_, hexec.trans (congrArg Host.Outcome.next (State.takeCmd_done h hrun (.takeOwner ..))), ownerBecomes_takeOwner s op r ho⟩

/-- The ownership commands (R551 to R554). -/
theorem ownership_commands :
    (∀ (r : CmdReq) (s : State), Accepts s 0x0201 r → ∃ t, exec (.claimOwner r) s = .next (answered t 0x0201 r 0 0 []) ∧
      OwnerBecomes (some r.port.val) s (taken s 0x0201 r) t) ∧
    (∀ (r : CmdReq) (s : State), Accepts s 0x0202 r → ∃ t, exec (.releaseOwner r) s = .next (answered t 0x0202 r 0 0 []) ∧
      OwnerBecomes none s (taken s 0x0202 r) t) ∧
    ∀ (r : CmdReq) (s : State), Accepts s 0x0203 r → ∃ t, exec (.handoverOwner r) s = .next (answered t 0x0203 r 0 0 []) ∧
      OwnerBecomes (some (par r.params 0 1)) s (taken s 0x0203 r) t := by
  refine ⟨fun r s h => exec_takeOwner h (fun p hp => ?_) rfl rfl, fun r s h => exec_takeOwner h nofun rfl rfl,
    fun r s h => exec_takeOwner h (fun p hp => ?_) rfl rfl⟩
  · cases hp
    omega
  · cases hp
    have := par_lt_of_accepts h (n := 4) (by decide)
    omega

theorem exec_keepAlive {r : CmdReq} {s : State} (h : Accepts s 0x0204 r) :
    exec (.keepAlive r) s = .next (answered (taken s 0x0204 r) 0x0204 r 0 0 []) :=
  congrArg Host.Outcome.next (State.takeCmd_read h rfl)

theorem exec_setOwnerTimeout {r : CmdReq} {s : State} (h : Accepts s 0x0205 r) :
    ∃ t, exec (.setOwnerTimeout r) s = .next (answered t 0x0205 r 0 0 []) ∧
      OnlyRegs [R.OWN_TIMEOUT] (taken s 0x0205 r) t ∧ t.dev.get R.OWN_TIMEOUT = par r.params 0 4 := by
  have hrange : ¬ (par r.params 0 4 < 10 ∨ 60000 < par r.params 0 4) := fun hout =>
    absurd (paramCheck_accepts h) (by rw [paramCheck_ownerTimeout _ _ _ hout]; nofun)
  have hwidth : R.OWN_TIMEOUT.width = 16 := rfl
  refine ⟨_, congrArg Host.Outcome.next (State.takeCmd_done h (u := (taken s 0x0205 r).on fun d => d.set R.OWN_TIMEOUT (par r.params 0 4)) rfl (.set ..)),
    .set _ _ _ (by simp), Dev.get_set_of_lt _ _ ?_⟩
  rw [hwidth]
  omega

end Sys2Proof.Machine
end

section
/-! PROOFS. The update session (R607 to R610, R612, R677). -/

namespace Sys2Proof.Machine
open Sys2Proof Sys2Proof.Safety

/-! ### The fields of chapter 16 -/

/-- Where the fields of an update session lie (R685 to R687). -/
theorem secKeys : R.SEC_STATUS_STORED_VALID.key = 0x801A ∧ R.SEC_STATUS_SESSION.key = 0x8019 ∧ R.SEC_UPD_BYTES.key = 0x8180 ∧
    R.SEC_EVT_SESSION.key = 0x8400 ∧ R.SEC_EVT_BLOCK_FAIL.key = 0x8402 ∧ R.SEC_EVT_AUTH.key = 0x8403 ∧ R.SEC_EVT_EPOCH_REFUSE.key = 0x8405 :=
  ⟨rfl, rfl, rfl, rfl, rfl, rfl, rfl⟩

section
variable (d : Dev)

theorem Dev.secCause_same (f : Fld) {b : Nat} (hb : b < 16) (hf : block f ≠ 3) : (d.secCause f b).get f = 1 % 2 ^ f.width :=
  Dev.cause_get_same _ _ _ _ (by omega) hf

theorem Dev.secCause_ne (f : Fld) {b : Nat} (hb : b < 16) {g : Fld} (hg : block g ≠ 3) (hne : g.key ≠ f.key) : (d.secCause f b).get g = d.get g :=
  Dev.cause_get_ne _ _ _ _ _ (by omega) hg hne

theorem Dev.secCause_upd (f : Fld) {b : Nat} (hb : b < 16) : (d.secCause f b).upd = d.upd := by
  rw [Dev.secCause, (EventFrame.cause _ _ _ _ (by omega)).rest]
  rfl

theorem SameTasks.secCause (f : Fld) (b : Nat) : SameTasks d (d.secCause f b) := .anyCause ..

theorem SameTasks.withUpd (f : UpdSt → UpdSt) : SameTasks d (d.withUpd f) := .of_bridle rfl

theorem SameTasks.setJournal (j : Nat) : SameTasks d (d.setJournal j) := (SameTasks.withUpd d _).trans (.set ..)

theorem SameTasks.setGot (x : UpdSession) (n : Nat) : SameTasks d (d.setGot x n) := (SameTasks.withUpd d _).trans (.set ..)

theorem SameTasks.setSession (x : Option UpdSession) : SameTasks d (d.setSession x) :=
  (((SameTasks.withUpd d _).trans (.set ..)).trans (.set ..)).trans (.secCause ..)

theorem Dev.setJournal_upd (j : Nat) : (d.setJournal j).upd = { d.upd with journal := j } := rfl

theorem Dev.setJournal_valid (j : Nat) : (d.setJournal j).get R.SEC_STATUS_STORED_VALID = if j = 2 then 1 else 0 := by
  rw [Dev.setJournal, Dev.get_set_same]
  split <;> rfl

theorem Dev.setJournal_ne (j : Nat) {g : Fld} (hg : g.key ≠ R.SEC_STATUS_STORED_VALID.key) : (d.setJournal j).get g = d.get g := by
  rw [Dev.setJournal, Dev.get_set_ne _ _ _ _ hg]
  rfl

theorem Dev.setSession_upd (x : Option UpdSession) : (d.setSession x).upd = { d.upd with session := x } := by
  rw [Dev.setSession, Dev.secCause_upd _ _ (by decide)]
  rfl

/-- What the opening or closing of a session shows (R607, R686, R687). -/
theorem Dev.setSession_get (x : Option UpdSession) : (d.setSession x).get R.SEC_STATUS_SESSION = (if x.isSome then 1 else 0) ∧
    (d.setSession x).get R.SEC_UPD_BYTES = 0 ∧ (d.setSession x).get R.SEC_EVT_SESSION = 1 := by
  have hk := secKeys
  unfold Dev.setSession
  refine ⟨?_, ?_, ?_⟩
  · rw [Dev.secCause_ne _ _ (by decide) (by unfold block; omega) (by omega), Dev.get_set_ne _ _ _ _ (by omega), Dev.get_set_same]
    split <;> rfl
  · rw [Dev.secCause_ne _ _ (by decide) (by unfold block; omega) (by omega), Dev.get_set_same]
    rfl
  · rw [Dev.secCause_same _ _ (by decide) (by unfold block; omega)]
    rfl

theorem Dev.setSession_ne (x : Option UpdSession) {g : Fld} (hg : block g ≠ 3)
    (hne : ∀ f ∈ [R.SEC_UPD_BYTES, R.SEC_STATUS_SESSION, R.SEC_EVT_SESSION], g.key ≠ f.key) : (d.setSession x).get g = d.get g := by
  simp only [List.forall_mem_cons] at hne
  obtain ⟨hbytes, hstatus, hevent, -⟩ := hne
  rw [Dev.setSession, Dev.secCause_ne _ _ (by decide) hg hevent, Dev.get_set_ne _ _ _ _ hbytes, Dev.get_set_ne _ _ _ _ hstatus]
  rfl

theorem Dev.setGot_upd (x : UpdSession) (n : Nat) : (d.setGot x n).upd = { d.upd with session := some { x with got := n } } := rfl

end

/-! ### UPDATE_BEGIN, UPDATE_ABORT, UPDATE_STATUS (R607, R608, R612) -/

theorem exec_updateBegin {r : CmdReq} {s : State} (h : Accepts s 0x0801 r) :
    ∃ t, exec (.updateBegin r) s = .next (answered t 0x0801 r 0 0 []) ∧ t.mem = s.mem ∧
      t.dev.upd = { s.dev.upd with session := some { port := r.port, size := par r.params 0 4 }, journal := 1 } ∧ t.dev.get R.SEC_UPD_BYTES = 0 ∧
      t.dev.get R.SEC_STATUS_SESSION = 1 ∧ t.dev.get R.SEC_STATUS_STORED_VALID = 0 ∧ t.dev.get R.SEC_EVT_SESSION = 1 ∧
      ∀ g : Fld, block g ≠ 3 → (∀ f ∈ [R.SEC_UPD_BYTES, R.SEC_STATUS_SESSION, R.SEC_STATUS_STORED_VALID, R.SEC_EVT_SESSION], g.key ≠ f.key) →
        t.dev.get g = s.dev.get g := by
  have hk := secKeys
  obtain ⟨hstatus, hbytes, hevent⟩ :=
    Dev.setSession_get ((taken s 0x0801 r).dev.setJournal 1) (some { port := r.port, size := par r.params 0 4 })
  refine ⟨(taken s 0x0801 r).on fun d => d.updBegin r.port (par r.params 0 4),
    congrArg Host.Outcome.next (State.takeCmd_done h rfl ((SameTasks.setJournal _ _).trans (.setSession ..))), rfl, ?_, hbytes, hstatus, ?_, hevent,
    fun g hg hne => ?_⟩
  · rw [State.on_dev, Dev.updBegin, Dev.setSession_upd, Dev.setJournal_upd, taken_upd]
  · rw [State.on_dev, Dev.updBegin, Dev.setSession_ne _ _ (by unfold block; omega), Dev.setJournal_valid]
    · rfl
    · simp only [List.forall_mem_cons]
      exact ⟨by omega, by omega, by omega, nofun⟩
  · simp only [List.forall_mem_cons] at hne
    obtain ⟨h1, h2, h3, h4, -⟩ := hne
    rw [State.on_dev, Dev.updBegin, Dev.setSession_ne _ _ hg, Dev.setJournal_ne _ _ h3, taken_get]
    simp only [List.forall_mem_cons]
    exact ⟨h1, h2, h4, nofun⟩

theorem exec_updateAbort {r : CmdReq} {s : State} (h : Accepts s 0x0805 r) :
    ∃ t, exec (.updateAbort r) s = .next (answered t 0x0805 r 0 0 []) ∧ t.mem = s.mem ∧
      t.dev.upd = { s.dev.upd with session := none, journal := 1 } ∧ t.dev.get R.SEC_STATUS_SESSION = 0 ∧ t.dev.get R.SEC_UPD_BYTES = 0 ∧
      t.dev.get R.SEC_EVT_SESSION = 1 := by
  have hk := secKeys
  obtain ⟨hstatus, hbytes, hevent⟩ := Dev.setSession_get (taken s 0x0805 r).dev none
  refine ⟨(taken s 0x0805 r).on fun d => (d.setSession none).setJournal 1,
    congrArg Host.Outcome.next (State.takeCmd_done h rfl ((SameTasks.setSession _ _).trans (.setJournal ..))), rfl, ?_, ?_, ?_, ?_⟩
  · rw [State.on_dev, Dev.setJournal_upd, Dev.setSession_upd, taken_upd]
  · exact (Dev.setJournal_ne _ _ (by omega)).trans hstatus
  · exact (Dev.setJournal_ne _ _ (by omega)).trans hbytes
  · exact (Dev.setJournal_ne _ _ (by omega)).trans hevent

theorem exec_updateStatus {r : CmdReq} {s : State} (h : Accepts s 0x0806 r) :
    exec (.updateStatus r) s = .next (answered (taken s 0x0806 r) 0x0806 r 0 0 (updStatus s.dev)) := by
  have hstatus : updStatus (taken s 0x0806 r).dev = updStatus s.dev := by simp only [updStatus, taken_upd, taken_get]
  rw [← hstatus]
  exact congrArg Host.Outcome.next (State.takeCmd_read h rfl)

/-! ### UPDATE_DATA (R609) -/

/-- The state with the data of a block written and counted. -/
def State.received (s : State) (x : UpdSession) (data : List Byte) : State :=
  { s with mem := Mem.setBytes s.mem (imageBase + x.got) data, dev := s.dev.setGot x (x.got + data.length) }

section
variable {s : State} {x : UpdSession} {data : List Byte}

theorem State.updData_eq : s.updData x data =
    if (x.got + data.length) / 4096 = x.got / 4096 then (s.received x data, 0, 0)
    else if !blockOk (s.received x data).mem (x.got / 4096) then
      ((s.received x data).on fun d => (d.setGot x (x.got / 4096 * 4096)).secCause R.SEC_EVT_BLOCK_FAIL 2, 11, x.got / 4096)
    else if x.got / 4096 + 1 = manBlocks (s.received x data).mem ∧ !manifestOk (s.received x data).mem (s.received x data).dev.upd x.size then
      ((s.received x data).on fun d => (d.setSession none).secCause R.SEC_EVT_AUTH 3, 10, authDetail (s.received x data).mem)
    else (s.received x data, 0, 0) := rfl

theorem SameTasks.updData (s : State) (x : UpdSession) (data : List Byte) : SameTasks s.dev (s.updData x data).1.dev := by
  have hgot := SameTasks.setGot s.dev x (x.got + data.length)
  unfold State.updData
  dsimp only
  split
  · exact hgot
  split
  · exact (hgot.trans (.setGot ..)).trans (.secCause ..)
  split
  · exact (hgot.trans (.setSession ..)).trans (.secCause ..)
  · exact hgot

theorem State.updData_mem (s : State) (x : UpdSession) (data : List Byte) :
    (s.updData x data).1.mem = Mem.setBytes s.mem (imageBase + x.got) data ∧ (s.updData x data).1.pending = s.pending := by
  unfold State.updData
  dsimp only
  repeat' split
  all_goals exact ⟨rfl, rfl⟩

end

theorem runCmd_updateData {s : State} {x : UpdSession} (h : s.dev.upd.session = some x) (r : CmdReq) :
    s.runCmd 0x0802 r = ((s.updData x (r.params.drop 4)).1, refusal (s.updData x (r.params.drop 4)).2) := by
  change s.runUpdate 0x0802 r.port r.params = _
  unfold State.runUpdate
  rw [h]
  rfl

theorem exec_updateData {r : CmdReq} {x : UpdSession} {s : State} (h : Accepts s 0x0802 r) (hx : s.dev.upd.session = some x) :
    exec (.updateData r) s = .next (answered ((taken s 0x0802 r).updData x (r.params.drop 4)).1 0x0802 r
      ((taken s 0x0802 r).updData x (r.params.drop 4)).2.1 ((taken s 0x0802 r).updData x (r.params.drop 4)).2.2 []) :=
  congrArg Host.Outcome.next (State.takeCmd_done h (runCmd_updateData (by rw [taken_upd, hx]) r) (.updData ..))

/-- What UPDATE_DATA does with its bytes (R609). -/
theorem State.updData_effect (s : State) (x : UpdSession) (data : List Byte) :
    let m := Mem.setBytes s.mem (imageBase + x.got) data; let g := x.got + data.length; let b := x.got / 4096
    let t := (s.updData x data).1; let st := (s.updData x data).2.1; let det := (s.updData x data).2.2
    (g / 4096 = b → st = 0 ∧ det = 0 ∧ t.dev.upd.session = some { x with got := g } ∧ t.dev.get R.SEC_UPD_BYTES = g % 2 ^ R.SEC_UPD_BYTES.width) ∧
    (g / 4096 ≠ b → blockOk m b = false → st = 11 ∧ det = b ∧ t.dev.upd.session = some { x with got := b * 4096 } ∧ t.dev.get R.SEC_EVT_BLOCK_FAIL = 1) ∧
    (g / 4096 ≠ b → blockOk m b = true → b + 1 = manBlocks m → manifestOk m s.dev.upd x.size = false →
      st = 10 ∧ det = authDetail m ∧ t.dev.upd.session = none ∧ t.dev.get R.SEC_EVT_AUTH = 1) ∧
    (g / 4096 ≠ b → blockOk m b = true → (b + 1 = manBlocks m → manifestOk m s.dev.upd x.size = true) →
      st = 0 ∧ det = 0 ∧ t.dev.upd.session = some { x with got := g }) := by
  have hk := secKeys
  dsimp only
  refine ⟨fun hblock => ?_, fun hblock hbad => ?_, fun hblock hgood hlast hbad => ?_, fun hblock hgood hok => ?_⟩
  · rw [State.updData_eq, if_pos hblock]
    exact ⟨rfl, rfl, rfl, Dev.get_set_same ..⟩
  · have hbad' : blockOk (s.received x data).mem (x.got / 4096) = false := hbad
    rw [State.updData_eq, if_neg hblock, if_pos (by simp [hbad'])]
    refine ⟨rfl, rfl, ?_, ?_⟩
    · rw [State.on_dev, Dev.secCause_upd _ _ (by decide), Dev.setGot_upd]
    · rw [State.on_dev, Dev.secCause_same _ _ (by decide) (by unfold block; omega)]
      rfl
  · have hgood' : blockOk (s.received x data).mem (x.got / 4096) = true := hgood
    have hbad' : manifestOk (s.received x data).mem (s.received x data).dev.upd x.size = false := hbad
    rw [State.updData_eq, if_neg hblock, if_neg (by simp [hgood']), if_pos ⟨hlast, by simp [hbad']⟩]
    refine ⟨rfl, rfl, ?_, ?_⟩
    · rw [State.on_dev, Dev.secCause_upd _ _ (by decide), Dev.setSession_upd]
    · rw [State.on_dev, Dev.secCause_same _ _ (by decide) (by unfold block; omega)]
      rfl
  · have hgood' : blockOk (s.received x data).mem (x.got / 4096) = true := hgood
    have hok' : ¬ (x.got / 4096 + 1 = manBlocks (s.received x data).mem ∧
        (!manifestOk (s.received x data).mem (s.received x data).dev.upd x.size) = true) := fun ⟨hlast, hbad⟩ =>
      Bool.noConfusion ((hok hlast).symm.trans ((Bool.not_eq_true' _).mp hbad))
    rw [State.updData_eq, if_neg hblock, if_neg (by simp [hgood']), if_neg hok']
    exact ⟨rfl, rfl, rfl⟩

/-! ### UPDATE_VERIFY (R610, R675) -/

theorem SameTasks.updVerify (s : State) (x : UpdSession) : SameTasks s.dev (s.updVerify x).1.dev := by
  unfold State.updVerify
  split
  · exact .refl _
  split
  · exact .refl _
  split
  · exact .secCause ..
  split
  · exact .refl _
  split
  · exact .refl _
  · exact (SameTasks.withUpd _ _).trans (.setJournal ..)

theorem State.updVerify_mem (s : State) (x : UpdSession) : (s.updVerify x).1.mem = s.mem := by
  unfold State.updVerify
  repeat' split
  all_goals rfl

theorem runCmd_updateVerify {s : State} {x : UpdSession} (h : s.dev.upd.session = some x) (r : CmdReq) :
    s.runCmd 0x0803 r = ((s.updVerify x).1, refusal (s.updVerify x).2) := by
  change s.runUpdate 0x0803 r.port r.params = _
  unfold State.runUpdate
  rw [h]
  rfl

theorem exec_updateVerify {r : CmdReq} {x : UpdSession} {s : State} (h : Accepts s 0x0803 r) (hx : s.dev.upd.session = some x) :
    exec (.updateVerify r) s = .next (answered ((taken s 0x0803 r).updVerify x).1 0x0803 r
      ((taken s 0x0803 r).updVerify x).2.1 ((taken s 0x0803 r).updVerify x).2.2 []) :=
  congrArg Host.Outcome.next (State.takeCmd_done h (runCmd_updateVerify (by rw [taken_upd, hx]) r) (.updVerify ..))

/-- The checks of UPDATE_VERIFY in their order, and what success marks (R610, R675, R677). -/
theorem State.updVerify_effect (s : State) (x : UpdSession) :
    let t := (s.updVerify x).1; let st := (s.updVerify x).2.1; let det := (s.updVerify x).2.2
    (x.got < x.size → st = 13 ∧ det = 0x13) ∧
    (x.size ≤ x.got → payloadOk s.mem x.size = false → st = 11 ∧ det = 0xFFFF) ∧
    (x.size ≤ x.got → payloadOk s.mem x.size = true → manifestOk s.mem s.dev.upd x.size = false →
      st = 10 ∧ det = authDetail s.mem ∧ t.dev.get R.SEC_EVT_AUTH = 1) ∧
    (x.size ≤ x.got → payloadOk s.mem x.size = true → manifestOk s.mem s.dev.upd x.size = true → sectionsOk s.mem x.size = false →
      st = 11 ∧ det = 0xFFFF) ∧
    (x.size ≤ x.got → payloadOk s.mem x.size = true → manifestOk s.mem s.dev.upd x.size = true → sectionsOk s.mem x.size = true →
      manField s.mem 16 1 < s.dev.get R.SEC_STATUS_FLOOR → st = 12 ∧ det = 0x100 + manField s.mem 16 1) ∧
    (x.size ≤ x.got → payloadOk s.mem x.size = true → manifestOk s.mem s.dev.upd x.size = true → sectionsOk s.mem x.size = true →
      s.dev.get R.SEC_STATUS_FLOOR ≤ manField s.mem 16 1 → st = 0 ∧ det = 0 ∧ t.dev.upd.session = some { x with verified := true } ∧
        t.dev.upd.journal = 2 ∧ t.dev.get R.SEC_STATUS_STORED_VALID = 1) := by
  have hk := secKeys
  dsimp only
  unfold State.updVerify
  refine ⟨fun hshort => ?_, fun hall hpay => ?_, fun hall hpay hman => ?_, fun hall hpay hman hsec => ?_, fun hall hpay hman hsec hfloor => ?_,
    fun hall hpay hman hsec hfloor => ?_⟩
  · rw [if_pos hshort]
    exact ⟨rfl, rfl⟩
  · rw [if_neg (Nat.not_lt.mpr hall), if_pos (by simp [hpay])]
    exact ⟨rfl, rfl⟩
  · rw [if_neg (Nat.not_lt.mpr hall), if_neg (by simp [hpay]), if_pos (by simp [hman])]
    refine ⟨rfl, rfl, ?_⟩
    rw [State.on_dev, Dev.secCause_same _ _ (by decide) (by unfold block; omega)]
    rfl
  · rw [if_neg (Nat.not_lt.mpr hall), if_neg (by simp [hpay]), if_neg (by simp [hman]), if_pos (by simp [hsec])]
    exact ⟨rfl, rfl⟩
  · rw [if_neg (Nat.not_lt.mpr hall), if_neg (by simp [hpay]), if_neg (by simp [hman]), if_neg (by simp [hsec]), if_pos hfloor]
    exact ⟨rfl, rfl⟩
  · rw [if_neg (Nat.not_lt.mpr hall), if_neg (by simp [hpay]), if_neg (by simp [hman]), if_neg (by simp [hsec]), if_neg (Nat.not_lt.mpr hfloor)]
    exact ⟨rfl, rfl, rfl, rfl, Dev.setJournal_valid ..⟩

end Sys2Proof.Machine
end

section
/-! PROOFS. UPDATE_ACTIVATE up to the swap (R611, R628, R680, R681). -/

namespace Sys2Proof.Machine
open Sys2Proof Sys2Proof.Safety

/-! ### What an activation does before its swap -/

/-- Before its swap an activation leaves alone the Bridle's commands, chapter 16's state and whether the stride is live. -/
structure BeforeSwap (d d' : Dev) : Prop where
  work : AtWork d d'
  upd : d'.upd = d.upd
  live : d'.strideLive = d.strideLive

/-- Where RUNNING and PENDING lie (R70). -/
theorem liveKeys : R.STRIDE_STATUS_RUNNING.key = 0xC00300 ∧ R.STRIDE_STATUS_PENDING.key = 0xC00301 := ⟨rfl, rfl⟩

theorem Dev.strideLive_congr {d d' : Dev} (h : ∀ g : Fld, g.key = 0xC00300 ∨ g.key = 0xC00301 → d'.get g = d.get g) : d'.strideLive = d.strideLive := by
  simp only [Dev.strideLive, Dev.on, h R.STRIDE_STATUS_RUNNING (.inl rfl), h R.STRIDE_STATUS_PENDING (.inr rfl)]

theorem BeforeSwap.refl (d : Dev) : BeforeSwap d d := ⟨.refl d, rfl, rfl⟩

theorem BeforeSwap.trans {a b c : Dev} (h1 : BeforeSwap a b) (h2 : BeforeSwap b c) : BeforeSwap a c :=
  ⟨h1.work.trans h2.work, h2.upd.trans h1.upd, h2.live.trans h1.live⟩

theorem BeforeSwap.foldl {α : Type} {f : Dev → α → Dev} (h : ∀ a x, BeforeSwap a (f a x)) (d : Dev) (l : List α) : BeforeSwap d (l.foldl f d) :=
  List.foldlRecOn (motive := BeforeSwap d) _ _ (.refl d) fun a ha x _ => ha.trans (h a x)

theorem BeforeSwap.event {d d' : Dev} (h : EventFrame d d') : BeforeSwap d d' :=
  ⟨⟨by rw [h.rest], h.get _ (by decide)⟩, by rw [h.rest], Dev.strideLive_congr fun g hg => h.get g (by unfold block; omega)⟩

section
variable (d : Dev)

theorem BeforeSwap.set {f : Fld} (hf : OffBridle f) (hlive : f.key ≠ 0xC00300 ∧ f.key ≠ 0xC00301) (v : Nat) : BeforeSwap d (d.set f v) :=
  ⟨.set hf d v, rfl, Dev.strideLive_congr fun g hg => Dev.get_set_ne _ _ _ _ (by omega)⟩

theorem BeforeSwap.secCause {f : Fld} (hf : OffBridle f) (hlive : f.key ≠ 0xC00300 ∧ f.key ≠ 0xC00301) {b : Nat} (hb : b < 16) :
    BeforeSwap d (d.secCause f b) := (BeforeSwap.set d hf hlive 1).trans (.event (.cause _ _ _ _ (by omega)))

theorem BeforeSwap.setAdmit (r : Option (Nat × Nat × Nat)) : BeforeSwap d (d.setAdmit r) := by
  unfold Dev.setAdmit
  extract_lets x
  exact ((BeforeSwap.set d (f := R.ADMIT_RESULT_KIND) (.inr (.inl (by decide))) (by decide) _).trans
    (.set _ (f := R.ADMIT_RESULT_INDEX) (.inl (by decide)) (by decide) _)).trans (.set _ (f := R.ADMIT_RESULT_SHORT) (.inl (by decide)) (by decide) _)

theorem BeforeSwap.slpEvent {b : Nat} (hb : b < 8) : BeforeSwap d (d.slpEvent b) := by
  have hset := BeforeSwap.set d (f := R.SLP_EVT) (.inl (by decide)) (by decide) (d.get R.SLP_EVT ||| 2 ^ b)
  unfold Dev.slpEvent
  dsimp only
  split
  · exact hset.trans (.event (.raise _ _ (by omega)))
  · exact hset

theorem BeforeSwap.moveDomain (x st : Nat) : BeforeSwap d (d.moveDomain x st) := by
  have hset : BeforeSwap d (d.set (R.PWR_DOMAIN_STATE x) 2) :=
    .set d (.inl (by simp [R.PWR_DOMAIN_STATE])) (by have := domainKey x; omega) 2
  have hmove (a : Dev) (f : PwrSt → PwrSt) : BeforeSwap a (a.withPwr f) := ⟨.withPwr a f, rfl, rfl⟩
  unfold Dev.moveDomain Dev.setDomain
  split
  · exact hmove ..
  · exact (hset.trans (.slpEvent _ (by decide))).trans (hmove ..)

theorem BeforeSwap.reqDomain (x v : Nat) : BeforeSwap d (d.set (R.PWR_DOMAIN_REQ x) v) :=
  .set d (.inl (by simp [R.PWR_DOMAIN_REQ])) (by simp only [Fld.key, R.PWR_DOMAIN_REQ]; omega) v

/-- A domain requested on. -/
theorem BeforeSwap.domainOn (x : Nat) : BeforeSwap d (d.domainRequest x 1).1 := by
  have hreq := BeforeSwap.reqDomain d x 1
  simp only [Dev.domainRequest]
  split
  · exact hreq.trans (.event (.dozeWakeFor ..))
  split
  · exact hreq
  split
  · exact ((hreq.trans (.reqDomain ..)).trans (.moveDomain ..)).trans (.moveDomain ..)
  · exact hreq.trans (.moveDomain ..)

end

/-- The checks of an activation set at most ADMIT_RESULT and a cause (R35, R611, R683). -/
theorem State.checkAll_frame (s : State) (c : Configuration) (x : ImageInfo) (revBad : Bool) :
    (s.checkAll c x revBad).1.mem = s.mem ∧ BeforeSwap s.dev (s.checkAll c x revBad).1.dev := by
  unfold State.checkAll
  split
  · exact ⟨rfl, .secCause _ (.inl (by decide)) (by decide) (by decide)⟩
  dsimp only
  split
  · exact ⟨rfl, .refl _⟩
  · exact ⟨rfl, .setAdmit ..⟩

/-! ### The power that a configuration needs (R472, R628) -/

/-- Requests of ON for the domains of a list. -/
def Dev.powerDomains (d : Dev) (need : List Nat) : Dev :=
  need.foldl (fun (a : Dev) x => if a.domain x = 1 ∨ a.get (R.PWR_DOMAIN_REQ x) = 1 then a else (a.domainRequest x 1).1) d

/-- Requests of ON for the banks of a list. -/
def Dev.powerBanks (d : Dev) (banks : List (Nat × Nat)) : Dev :=
  banks.foldl (fun (a : Dev) e => if a.get (R.BANK_POWER_STATE e.1) = 0 then a else a.bankRequest e.1 0) d

theorem State.powerFor_eq (s : State) (c : Configuration) :
    s.powerFor c = s.on fun d => (d.powerDomains (s.candidate c).dev.domainsNeeded).powerBanks c.banks := rfl

theorem BeforeSwap.powerDomains (d : Dev) (need : List Nat) : BeforeSwap d (d.powerDomains need) :=
  .foldl (fun a x => by split; exacts [.refl a, .domainOn a x]) d need

theorem AtWork.powerBanks (d : Dev) (banks : List (Nat × Nat)) : AtWork d (d.powerBanks banks) :=
  .foldl (fun a e => by split; exacts [.refl a, .bankRequest _ e.1 0]) d banks

/-- A bank on whose power something is to be done. -/
theorem Dev.bankRequest_pending (d : Dev) (n rq m : Nat) (h : d.get (R.BANK_POWER_STATE m) ≠ 0) : (d.bankRequest n rq).get (R.BANK_POWER_STATE m) ≠ 0 := by
  have hstate (k : Nat) : (R.BANK_POWER_STATE k).key = 0x800108 + k * 0x200 := by simp only [Fld.key, R.BANK_POWER_STATE]; omega
  have hreq : (R.BANK_POWER_REQ n).key = 0x800100 + n * 0x200 := by simp only [Fld.key, R.BANK_POWER_REQ]; omega
  have hpasses : R.ORCH_SCRUB_PASSES.key = 0x840080 := rfl
  have hset : (d.set (R.BANK_POWER_REQ n) rq).get (R.BANK_POWER_STATE m) = d.get (R.BANK_POWER_STATE m) :=
    Dev.get_set_ne _ _ _ _ (by rw [hstate, hreq]; omega)
  have hscrub (a : Dev) : a.scrubPass.get (R.BANK_POWER_STATE m) = a.get (R.BANK_POWER_STATE m) := by
    unfold Dev.scrubPass
    dsimp only
    split
    · rw [Dev.get_inc_ne _ _ _ (by rw [hstate, hpasses]; omega)]
      rfl
    · rfl
  unfold Dev.bankRequest Dev.bankStart
  dsimp only
  split
  · rwa [hset]
  rw [hscrub]
  by_cases hm : m = n
  · subst hm
    rw [Dev.get_set_same]
    exact Nat.succ_ne_zero 2
  · rw [Dev.get_set_ne _ _ _ _ (by rw [hstate, hstate]; omega)]
    exact hset.trans_ne h

/-- Either every bank is ON already and nothing is requested, or one of them is not ON afterwards either (R470). -/
theorem Dev.powerBanks_cases (d : Dev) (banks : List (Nat × Nat)) :
    d.powerBanks banks = d ∨ ∃ e ∈ banks, (d.powerBanks banks).get (R.BANK_POWER_STATE e.1) ≠ 0 := by
  have hkeep (a : Dev) (l : List (Nat × Nat)) (m : Nat) (h : a.get (R.BANK_POWER_STATE m) ≠ 0) : (a.powerBanks l).get (R.BANK_POWER_STATE m) ≠ 0 :=
    List.foldlRecOn (motive := fun b : Dev => b.get (R.BANK_POWER_STATE m) ≠ 0) _ _ h fun b hb e _ => by
      split
      · exact hb
      · exact b.bankRequest_pending _ _ _ hb
  induction banks with
  | nil => exact .inl rfl
  | cons e l ih =>
    by_cases hon : d.get (R.BANK_POWER_STATE e.1) = 0
    · have hskip : d.powerBanks (e :: l) = d.powerBanks l := by
        unfold Dev.powerBanks
        rw [List.foldl_cons, if_pos hon]
      rw [hskip]
      exact ih.imp_right fun ⟨x, hx, hne⟩ => ⟨x, List.mem_cons_of_mem _ hx, hne⟩
    · exact .inr ⟨e, List.mem_cons_self, hkeep d (e :: l) e.1 hon⟩

/-! ### The command (R611, R680) -/

/-- Whether UPDATE_ACTIVATE has a verified image of its source (R611). -/
def Dev.mayActivate (d : Dev) (stored : Bool) : Bool :=
  if stored then d.upd.journal == 2 && !d.on R.SEC_STATUS_RECOVERY else d.upd.session.any (fun x => x.verified)

/-- The state after the checks of the stored image, and its refusal. -/
def State.activationChecks (s : State) : State × Refusal' := s.checkAll (configOf (imageInfo s.mem)) (imageInfo s.mem) (revisionBad s.mem)

/-- An activation noted, with the power it needs requested. -/
def State.noteSwap (s : State) (c : Configuration) (x : ImageInfo) : State :=
  (s.powerFor c).on fun d => d.withUpd fun u => { u with swap := some (c, x) }

/-- The activation of the stored image, noted. -/
def State.activationNoted (s : State) : State := s.activationChecks.1.noteSwap (configOf (imageInfo s.mem)) (imageInfo s.mem)

theorem State.updActivate_eq (s : State) (stored : Bool) : s.updActivate stored =
    if !s.dev.mayActivate stored then (s, some (13, 9))
    else if s.dev.upd.swap.isSome then (s, some (4, 3))
    else match s.activationChecks.2 with
      | some e => (s.activationChecks.1, some e)
      | none => (s.activationNoted.swapIfFree, none) := rfl

theorem State.activationChecks_frame (s : State) : s.activationChecks.1.mem = s.mem ∧ BeforeSwap s.dev s.activationChecks.1.dev := s.checkAll_frame ..

/-- A refused activation changes neither the memory nor chapter 16's state. -/
theorem State.updActivate_refused {s u : State} {stored : Bool} {e : Nat × Nat} (h : s.updActivate stored = (u, some e)) :
    u.mem = s.mem ∧ BeforeSwap s.dev u.dev := by
  rw [State.updActivate_eq] at h
  split at h
  · cases h
    exact ⟨rfl, .refl _⟩
  split at h
  · cases h
    exact ⟨rfl, .refl _⟩
  split at h
  · cases h
    exact s.activationChecks_frame
  · cases h

/-- An activation that is not refused is noted, and made at once when nothing is waited for. -/
theorem State.updActivate_accepted {s u : State} {stored : Bool} (h : s.updActivate stored = (u, none)) : u = s.activationNoted.swapIfFree := by
  rw [State.updActivate_eq] at h
  split at h
  · cases h
  split at h
  · cases h
  split at h
  · cases h
  · cases h
    rfl

/-! ### The activation noted -/

section
variable (s : State) (c : Configuration) (x : ImageInfo)

/-- The device with the power of a configuration requested. -/
def State.poweredDev : Dev := (s.dev.powerDomains (s.candidate c).dev.domainsNeeded).powerBanks c.banks

theorem State.noteSwap_dev : (s.noteSwap c x).dev = (s.poweredDev c).withUpd fun u => { u with swap := some (c, x) } := rfl

theorem State.noteSwap_mem : (s.noteSwap c x).mem = s.mem := rfl

theorem State.noteSwap_work : AtWork s.dev (s.noteSwap c x).dev := by
  rw [State.noteSwap_dev]
  exact ((BeforeSwap.powerDomains ..).work.trans (.powerBanks ..)).trans (.of_regs rfl)

theorem State.noteSwap_swap : (s.noteSwap c x).dev.upd.swap = some (c, x) := by
  rw [State.noteSwap_dev]
  rfl

end

theorem State.swapIfFree_eq {s : State} {c : Configuration} {x : ImageInfo} (hswap : s.dev.upd.swap = some (c, x)) :
    s.swapIfFree = if !s.dev.swapWaits && s.poweredFor c then s.swapIn c x else s := by
  unfold State.swapIfFree
  rw [hswap]

theorem State.swapIfFree_stays {s : State} {c : Configuration} {x : ImageInfo} (hswap : s.dev.upd.swap = some (c, x))
    (h : s.dev.swapWaits = true ∨ s.poweredFor c = false) : s.swapIfFree = s :=
  (State.swapIfFree_eq hswap).trans (if_neg (by rcases h with h | h <;> simp [h]))

/-- A bank of the configuration that is not ON holds the swap back (R472). -/
theorem State.poweredFor_bankOff {s : State} {c : Configuration} {e : Nat × Nat} (he : e ∈ c.banks) (hoff : s.dev.get (R.BANK_POWER_STATE e.1) ≠ 0) :
    s.poweredFor c = false := by
  unfold State.poweredFor
  rw [Bool.and_eq_false_iff]
  exact .inr (List.all_eq_false.mpr ⟨e, he, by simpa using hoff⟩)

/-- While an edge is waited for the swap does not come at once: the requests for power leave the stride live, or leave a bank that is not ON. -/
theorem State.noteSwap_waits {s : State} (c : Configuration) (x : ImageInfo) (hwaits : s.dev.swapWaits = true) :
    (s.noteSwap c x).swapIfFree = s.noteSwap c x := by
  refine State.swapIfFree_stays (s.noteSwap_swap c x) ?_
  have hframe := BeforeSwap.powerDomains s.dev (s.candidate c).dev.domainsNeeded
  rcases Dev.powerBanks_cases (s.dev.powerDomains (s.candidate c).dev.domainsNeeded) c.banks with hon | ⟨e, he, hoff⟩
  · left
    have hpowered : s.poweredDev c = s.dev.powerDomains (s.candidate c).dev.domainsNeeded := hon
    rw [State.noteSwap_dev, hpowered]
    change ((s.dev.powerDomains (s.candidate c).dev.domainsNeeded).upd.active && (s.dev.powerDomains (s.candidate c).dev.domainsNeeded).strideLive) = true
    rw [hframe.upd, hframe.live]
    exact hwaits
  · right
    refine State.poweredFor_bankOff he ?_
    rw [State.noteSwap_dev]
    exact hoff

end Sys2Proof.Machine
end

section
/-! PROOFS. UPDATE_ACTIVATE as a command: refused, or waiting for its edge (R611). -/

namespace Sys2Proof.Machine
open Sys2Proof Sys2Proof.Safety

theorem BeforeSwap.swapWaits {d d' : Dev} (h : BeforeSwap d d') : d'.swapWaits = d.swapWaits := by rw [Dev.swapWaits, h.upd, h.live, Dev.swapWaits]

theorem taken_swapWaits (s : State) (op : Nat) (r : CmdReq) : (taken s op r).dev.swapWaits = s.dev.swapWaits := by
  simp only [Dev.swapWaits, Dev.strideLive, Dev.on, taken_upd, taken_get]

theorem taken_mayActivate (s : State) (op : Nat) (r : CmdReq) (stored : Bool) : (taken s op r).dev.mayActivate stored = s.dev.mayActivate stored := by
  simp only [Dev.mayActivate, Dev.on, taken_upd, taken_get]

section
variable {s u : State} {r : CmdReq}

theorem runCmd_activateRefused {st det : Nat} (h : s.updActivate (par r.params 0 1 == 1) = (u, some (st, det))) :
    s.runCmd 0x0804 r = (u, .reply st det []) := by
  change s.runUpdate 0x0804 r.port r.params = _
  unfold State.runUpdate
  dsimp only
  rw [h]
  rfl

theorem runCmd_activateAccepted (h : s.updActivate (par r.params 0 1 == 1) = (u, none)) :
    s.runCmd 0x0804 r = (u, if u.dev.upd.swap.isNone && u.dev.get R.BRIDLE_STATUS_STATE == 1 then okReply else .wait .swap) := by
  change s.runUpdate 0x0804 r.port r.params = _
  unfold State.runUpdate
  dsimp only
  rw [h] <;> rfl

end

section
variable {s u : State} {r : CmdReq} (h : Accepts s 0x0804 r)
include h

/-- An activation refused replies its refusal, with everything in force as it was (R611). -/
theorem exec_activateRefused {st det : Nat} (hrefused : (taken s 0x0804 r).updActivate (par r.params 0 1 == 1) = (u, some (st, det))) :
    exec (.updateActivate r) s = .next (answered u 0x0804 r st det []) ∧ u.dev.upd = s.dev.upd ∧ u.mem = s.mem := by
  obtain ⟨hmem, hframe⟩ := State.updActivate_refused hrefused
  exact ⟨congrArg Host.Outcome.next (State.takeCmd_done h (runCmd_activateRefused hrefused) (.of_bridle hframe.work.bridle)),
    hframe.upd.trans (taken_upd ..), hmem⟩

/-- Without a verified image of its source (R611). -/
theorem exec_activateNothing (hnone : s.dev.mayActivate (par r.params 0 1 == 1) = false) :
    exec (.updateActivate r) s = .next (answered (taken s 0x0804 r) 0x0804 r 13 9 []) :=
  (exec_activateRefused h (by rw [State.updActivate_eq, taken_mayActivate, hnone]; exact if_pos rfl)).1

/-- An activation that waits for its edge (R611). -/
theorem exec_activateWaits (hwaits : s.dev.swapWaits = true) (haccepted : (taken s 0x0804 r).updActivate (par r.params 0 1 == 1) = (u, none)) :
    exec (.updateActivate r) s = .next (waiting u 0x0804 r .swap) ∧ u.dev.upd.swap.isSome = true ∧ u.mem = s.mem := by
  let v := taken s 0x0804 r
  obtain ⟨hmem, hframe⟩ := v.activationChecks_frame
  have hnoted : u = v.activationNoted := by
    rw [State.updActivate_accepted haccepted, State.activationNoted]
    exact State.noteSwap_waits _ _ (by rw [hframe.swapWaits, taken_swapWaits, hwaits])
  have hswap : u.dev.upd.swap = some (configOf (imageInfo v.mem), imageInfo v.mem) := by
    rw [hnoted, State.activationNoted, State.noteSwap_swap]
  have hwork : AtWork v.dev u.dev := by
    rw [hnoted, State.activationNoted]
    exact hframe.work.trans (State.noteSwap_work ..)
  have hrun : v.runCmd 0x0804 r = (u, .wait .swap) := by
    rw [runCmd_activateAccepted haccepted, hswap]
    rfl
  refine ⟨congrArg Host.Outcome.next (State.takeCmd_waits h hrun (hwork.alone (taken_alone h.1.1 _)) nofun ?_), by rw [hswap]; rfl, ?_⟩
  · change (if u.dev.upd.swap.isNone = true then some okReply else none) = none
    rw [hswap]
    rfl
  · rw [hnoted, State.activationNoted, State.noteSwap_mem, hmem]
    rfl

end

end Sys2Proof.Machine
end

section
/-! PROOFS. What the swap of an activation leaves of the Bridle's commands (R200, R409, R487, R543, R680, R681). -/

namespace Sys2Proof.Machine
open Sys2Proof Sys2Proof.Safety

section
variable (d : Dev)

theorem SameTasks.setEngine (e : Nat) (x : EngSt) : SameTasks d (d.setEngine e x) := .of_bridle rfl

theorem SameTasks.withHn (f : HnSt → HnSt) : SameTasks d (d.withHn f) := .of_bridle rfl

theorem SameTasks.withNet (f : NetSt → NetSt) : SameTasks d (d.withNet f) := .of_bridle rfl

theorem SameTasks.withStride (f : StrideSt → StrideSt) : SameTasks d (d.withStride f) := .of_bridle rfl

theorem SameTasks.withSys (f : SysSt → SysSt) : SameTasks d (d.withSys f) := .of_bridle rfl

theorem SameTasks.rsvIf (c : Bool) (w : Writer) (off : Nat) : SameTasks d (d.rsvIf c w off) := by
  unfold Dev.rsvIf
  split
  · exact .rsvWrite ..
  · exact .refl d

/-! ### Owners of banks (R487) -/

theorem SameTasks.cancelHandover (n : Nat) : SameTasks d (d.cancelHandover n) := (SameTasks.set d _ _).trans (.set ..)

theorem SameTasks.setOwner (n agent : Nat) : SameTasks d (d.setOwner n agent) := (SameTasks.cancelHandover d n).trans (.set ..)

theorem SameTasks.placeOwners (c : Configuration) : SameTasks d (d.placeOwners c) := by
  have hnow (a : Dev) : SameTasks a a.handoversNow := by
    unfold Dev.handoversNow
    refine .foldl (fun a n => ?_) a _
    split
    · exact .setOwner ..
    · exact .refl a
  unfold Dev.placeOwners
  extract_lets d1
  have h1 : SameTasks d d1 := by
    refine .foldl (fun a e => ?_) d c.banks
    exact .cancelHandover a e.1
  refine (h1.trans (hnow d1)).trans (.foldl (fun a n => ?_) _ _)
  split
  · exact (SameTasks.setOwner ..).trans (.set ..)
  · exact .set ..

theorem SameTasks.setEcc (addr : Nat) (m : Option Ecc) : SameTasks d (d.setEcc addr m) := .of_bridle (by unfold Dev.setEcc; rfl)

theorem SameTasks.clearEcc (l : List (Nat × List Byte)) :
    SameTasks d (l.foldl (fun (a : Dev) e => (wordsOf e.1 e.2.length).foldl (fun (a : Dev) w => a.setEcc w none) a) d) := by
  have hwords (a : Dev) (ws : List Nat) : SameTasks a (ws.foldl (fun (a : Dev) w => a.setEcc w none) a) := by
    refine .foldl (fun b w => ?_) a ws
    exact .setEcc b w none
  refine .foldl (fun a e => ?_) d l
  exact hwords ..

/-! ### Engines (R409, R410) -/

theorem SameTasks.haltOne (e cause : Nat) : SameTasks d (d.haltOne e cause) :=
  (((SameTasks.set d _ _).trans (.set ..)).trans (.setEngine ..)).trans (.anyCause ..)

theorem SameTasks.hostHaltNow (e : Nat) : SameTasks d (d.hostHaltNow e) := by
  unfold Dev.hostHaltNow
  dsimp only
  split
  · exact (SameTasks.haltOne d e 1).trans (.haltOne ..)
  · exact .haltOne ..

theorem SameTasks.enterEngine (e edge : Nat) : SameTasks d (d.enterEngine e edge) := by
  unfold Dev.enterEngine
  extract_lets x
  split
  · exact .hostHaltNow ..
  · exact ((SameTasks.set d _ _).trans (.set ..)).trans (.setEngine ..)

theorem SameTasks.entryEngine (e n : Nat) (skip : Bool) : SameTasks d (d.entryEngine e n skip) := by
  unfold Dev.entryEngine
  extract_lets gs x d1 st
  have h1 : SameTasks d d1 := .setEngine ..
  clear_value d1
  split
  · exact h1.trans (.enterEngine ..)
  · exact h1

theorem SameTasks.placeEngine (old : Dev) (c : Configuration) (e : Nat) : SameTasks d (d.placeEngine old c e) := by
  unfold Dev.placeEngine
  extract_lets ring d1 d2 engine d3 d4
  have h1 : SameTasks d d1 := by
    unfold d1
    split
    · exact .setEngine ..
    · exact .refl d
  have h2 : SameTasks d d2 := by
    unfold d2
    split
    · exact (h1.trans (.set ..)).trans (.set ..)
    · exact h1
  have h3 : SameTasks d d3 := h2.trans (.setEngine ..)
  have h4 : SameTasks d d4 := h3.trans (.set ..)
  clear_value d2 d3 d4
  split
  · exact h2
  split
  · exact h3
  split
  · split
    · exact h4.trans (.entryEngine ..)
    · exact h4
  · exact h3.trans (.enterEngine ..)
  · exact h3.trans (.set ..)

/-! ### Pins, mailboxes, ports, Harness (R322, R586) -/

theorem SameTasks.setMb (n k : Nat) (x : MbDir) : SameTasks d (d.setMb n k x) := .of_bridle rfl

theorem SameTasks.setPosted (n k v : Nat) : SameTasks d (d.setPosted n k v) := (SameTasks.set d _ _).trans (.set ..)

theorem SameTasks.mbBothReset (n : Nat) : SameTasks d (d.mbBothReset n) := by
  unfold Dev.mbBothReset
  refine .foldl (fun a k => ?_) d _
  exact (((SameTasks.setPosted a n k 0).trans (.set ..)).trans (.set ..)).trans (.setMb ..)

theorem SameTasks.placeUnits (old : Dev) : SameTasks d (d.placeUnits old) := by
  unfold Dev.placeUnits
  extract_lets fresh io d1 d2 d3 rideKept streamKept pairKept
  have h1 : SameTasks d d1 := .of_bridle rfl
  have h2 : SameTasks d1 d2 := .foldl (fun a n => by
    split
    · exact .mbBothReset ..
    · exact .refl a) _ _
  have h3 : SameTasks d2 d3 := List.foldlRecOn (motive := SameTasks d2) _ _ (.refl d2) fun a ha p hp => by
    split
    · exact ha.trans (.of_bridle (LinkFrame.linkDown (List.mem_range.mp hp) a 0).bridle)
    · exact ha
  exact ((h1.trans h2).trans h3).trans (.withNet ..)

theorem SameTasks.stateChg : SameTasks d d.stateChg := by
  unfold Dev.stateChg
  split
  · exact .anyCause ..
  · exact .refl d

theorem SameTasks.setUp (st : Nat) : SameTasks d (d.setUp st) := by
  unfold Dev.setUp
  extract_lets d1 d2
  have h1 : SameTasks d d1 := by
    unfold d1
    split
    · exact (SameTasks.withHn d _).trans (.set ..)
    · exact .refl d
  have h2 : SameTasks d d2 := by
    unfold d2
    split
    · exact h1.trans (.set ..)
    · exact h1
  split
  · exact h2
  · exact (h2.trans (.set ..)).trans (.stateChg _)

theorem SameTasks.setStar (st : Nat) : SameTasks d (d.setStar st) := by
  unfold Dev.setStar
  split
  · exact .refl d
  · exact (SameTasks.set d _ _).trans (.stateChg _)

theorem SameTasks.hnStates : SameTasks d d.hnStates := by
  unfold Dev.hnStates
  extract_lets d1
  have h1 : SameTasks d d1 := (SameTasks.setUp d _).trans (.setStar ..)
  exact ((h1.trans (.set ..)).trans (.set ..)).trans (.withHn ..)

theorem SameTasks.showFollowed : SameTasks d d.showFollowed := .foldl (fun a _ => .set a ..) d _

theorem SameTasks.hnEnable (w : Writer) (v : Nat) : SameTasks d (d.hnEnable w v) := by
  unfold Dev.hnEnable
  extract_lets d1 d2
  have h1 : SameTasks d d1 := (SameTasks.set d _ _).trans (.withHn ..)
  have h2 : SameTasks d d2 := by
    unfold d2
    split
    · split
      · exact h1
      · exact (h1.trans (.hnStates _)).trans (.showFollowed _)
    · split
      · exact (SameTasks.set d _ _).trans (.withHn ..)
      · exact .refl d
  exact h2.trans (.rsvIf ..)

theorem SameTasks.placeHarness (c : Configuration) : SameTasks d (d.placeHarness c) := by
  unfold Dev.placeHarness
  extract_lets d1
  have h1 : SameTasks d d1 := .withHn ..
  split
  · exact h1
  · exact h1.trans (.hnEnable ..)

/-! ### The image and the start of the stride (R611, R681, R706) -/

theorem SameTasks.runImage (x : ImageInfo) : SameTasks d (d.runImage x) := (((SameTasks.withUpd d _).trans (.set ..)).trans (.set ..)).trans (.set ..)

theorem SameTasks.placeImage (c : Configuration) (x : ImageInfo) : SameTasks d (d.placeImage c x) := by
  unfold Dev.placeImage
  extract_lets d1 d2 d3
  have h1 : SameTasks d d1 := (SameTasks.withUpd d _).trans (.runImage ..)
  have h2 : SameTasks d1 d2 := ((SameTasks.set d1 _ _).trans (.set ..)).trans (.set ..)
  have h3 : SameTasks d d3 := (h1.trans h2).trans (.secCause ..)
  split
  · exact h3.trans (.setSession ..)
  · exact h3

theorem SameTasks.runStart : SameTasks d d.runStart := by
  unfold Dev.runStart
  split
  · exact .refl d
  split
  · exact .set ..
  have hrun := (SameTasks.set d R.STRIDE_CTRL_RUN 1).trans (.set _ R.STRIDE_STATUS_CFG_ERR 0)
  dsimp only
  split
  · exact hrun.trans (.withStride ..)
  · exact ((hrun.trans (.set ..)).trans (.withStride ..)).trans (.set ..)

theorem SameTasks.strapDone : SameTasks d d.strapDone := by
  unfold Dev.strapDone
  split
  · exact .refl d
  · have hports := List.foldlRecOn (motive := SameTasks (d.withSys fun y => { y with runDue := false })) (List.range 26)
      (fun (a : Dev) p => if a.portMode p = 0 then a else a.portEnable p true) (.refl _) fun a ha p hp => by
        split
        · exact ha
        · exact ha.trans (.portEnable _ (List.mem_range.mp hp) _)
    exact ((SameTasks.withSys d _).trans hports).trans (.runStart _)

end

/-! ### Regions and programs (R149, R150, R409) -/

section
variable (s : State)

theorem SameTasks.placeRegions (old : State) (c : Configuration) : SameTasks s.dev (s.placeRegions old c).dev := by
  unfold State.placeRegions
  refine List.foldlRecOn (motive := fun a : State => SameTasks s.dev a.dev) _ _ (.of_bridle rfl) fun a ha r _ => ?_
  split
  · exact ha
  split
  · exact ha.trans (.of_bridle rfl)
  · exact ha.trans (.of_bridle rfl)

theorem SameTasks.loadProgram (e : Nat) (l : List Byte) : SameTasks s.dev (s.loadProgram e l).dev := .set ..

theorem SameTasks.loadPrograms (c : Configuration) : SameTasks s.dev (s.loadPrograms c).dev := by
  unfold State.loadPrograms
  refine List.foldlRecOn (motive := fun a : State => SameTasks s.dev a.dev) _ _ (.refl _) fun a ha p _ => ?_
  have h1 : SameTasks s.dev (a.loadProgram p.1 p.2).dev := ha.trans (.loadProgram ..)
  dsimp only
  split
  · split
    · exact h1.trans (.loadProgram ..)
    · exact h1
  · exact h1

end

end Sys2Proof.Machine
end

section
/-! PROOFS. The statement about ownership and update commands: an activation that is made at once, and the parts together (R611, R680). -/

namespace Sys2Proof.Machine
open Sys2Proof Sys2Proof.Safety

/-! ### The swap in three parts -/

/-- The registers, memories and owners of banks of a configuration, in force (R200, R487). -/
def State.swapRegs (s : State) (c : Configuration) : State :=
  let s0 := s.on (fun d => d.fabSync)
  let s1 : State := { s0 with mem := writeAll s0.mem c.memory, dev := { s0.dev with regs := activatedRegs s0.dev.regs c.fields } }
  s1.on (fun d => c.memory.foldl (fun (a : Dev) e => (wordsOf e.1 e.2.length).foldl (fun (a : Dev) w => a.setEcc w none) a) (d.placeOwners c))

/-- The rules of a configuration. -/
def Dev.swapRules (d : Dev) (c : Configuration) : Dev :=
  ({ d with img := { d.img with rules := c.rules, runs := newRuns d c } }.set R.MAP_SUMMARY_RULES c.rules.length).withNet (fun n => { n with rules := c.classes })

/-- The scheduled budgets of the ports shown (R195). -/
def Dev.showBudgets (d : Dev) (l : List Nat) : Dev := (numbered l).foldl (fun (a : Dev) e => a.set (R.SW_PORT_CNT_SCHED_BUDGET e.1) e.2) d

/-- What a configuration stores: its registers, memories, regions, rules and programs (R149, R200, R409, R487). -/
def State.swapStore (s : State) (c : Configuration) : State :=
  let budget := (List.range 40).map (schedNeed c (s.candidate c))
  ((((s.swapRegs c).placeRegions s c).on fun d => d.swapRules c).loadPrograms c).on fun d => d.showBudgets budget

/-- The engines and units of a configuration, started anew where it changes them (R322, R409, R611, R706). -/
def Dev.swapUnits (d old : Dev) (c : Configuration) (x : ImageInfo) : Dev :=
  let d1 := (List.range 48).foldl (fun (a : Dev) e => a.placeEngine old c e) d
  (((d1.placeUnits old).placeHarness c).placeImage c x).strapDone

/-- What a swap makes of the Bridle: it leaves RECOVERY at once, or runs the new image after its commands (R680). -/
def Dev.swapBridle (d : Dev) (rcv newBridle : Bool) : Dev :=
  if rcv then (d.set R.SEC_STATUS_RECOVERY 0).bridleRestart (fun t => t.op == 0x0804)
  else if newBridle then { d with bridle := { d.bridle with restart := true } } else d

section
variable (s : State) (c : Configuration) (x : ImageInfo)

theorem State.swapIn_eq : s.swapIn c x = (s.swapStore c).on fun d =>
    (d.swapUnits s.dev c x).swapBridle (s.dev.on R.SEC_STATUS_RECOVERY) (x.bridle != s.dev.upd.run.bridle) := by
  unfold State.swapIn State.swapStore State.swapRegs Dev.swapRules Dev.showBudgets Dev.swapUnits Dev.swapBridle
  rfl

theorem SameTasks.swapRegs : SameTasks s.dev (s.swapRegs c).dev := by
  have hregs (d : Dev) (regs : Tab Nat) : SameTasks d { d with regs := regs } := .of_bridle rfl
  unfold State.swapRegs
  dsimp only [State.on_dev]
  refine SameTasks.trans ?_ (.clearEcc _ c.memory)
  refine SameTasks.trans ?_ (.placeOwners _ c)
  exact (SameTasks.fabSync s.dev).trans (hregs ..)

theorem SameTasks.swapRules (d : Dev) : SameTasks d (d.swapRules c) := .of_bridle (by unfold Dev.swapRules; rfl)

theorem SameTasks.showBudgets (d : Dev) (l : List Nat) : SameTasks d (d.showBudgets l) := by
  unfold Dev.showBudgets
  refine .foldl (fun a e => ?_) d _
  exact .set ..

theorem SameTasks.swapStore : SameTasks s.dev (s.swapStore c).dev := by
  unfold State.swapStore
  extract_lets budget
  have hregions := (SameTasks.swapRegs s c).trans (.placeRegions (s.swapRegs c) s c)
  have hrules := hregions.trans (.swapRules c _)
  refine SameTasks.trans ?_ (.showBudgets _ budget)
  exact hrules.trans (.loadPrograms (((s.swapRegs c).placeRegions s c).on fun d => d.swapRules c) c)

theorem SameTasks.swapUnits (d old : Dev) : SameTasks d (d.swapUnits old c x) := by
  unfold Dev.swapUnits
  extract_lets d1
  have h1 : SameTasks d d1 := by
    refine .foldl (fun a e => ?_) d (List.range 48)
    exact .placeEngine a old c e
  exact (((h1.trans (.placeUnits ..)).trans (.placeHarness ..)).trans (.placeImage ..)).trans (.strapDone _)

/-- A Bridle that runs on keeps its commands. -/
theorem Dev.swapBridle_runs {d : Dev} {rcv newBridle : Bool} (hstate : (d.swapBridle rcv newBridle).get R.BRIDLE_STATUS_STATE = 1)
    (hrestart : (d.swapBridle rcv newBridle).bridle.restart = false) : d.swapBridle rcv newBridle = d := by
  unfold Dev.swapBridle at *
  split at hstate
  · rw [Dev.bridleRestart, Dev.get_set_same] at hstate
    exact absurd hstate (by decide)
  · split at hstate
    · next hrcv hnew =>
      rw [if_neg hrcv, if_pos hnew] at hrestart
      cases hrestart
    · next hrcv hnew => rw [if_neg hrcv, if_neg hnew]

/-- A swap after which the Bridle runs on leaves its commands alone (R680). -/
theorem SameTasks.swapIn (hstate : (s.swapIn c x).dev.get R.BRIDLE_STATUS_STATE = 1) (hrestart : (s.swapIn c x).dev.bridle.restart = false) :
    SameTasks s.dev (s.swapIn c x).dev := by
  rw [State.swapIn_eq, State.on_dev] at hstate hrestart ⊢
  rw [Dev.swapBridle_runs hstate hrestart]
  exact (SameTasks.swapStore s c).trans (.swapUnits ..)

/-- An activation noted and no longer pending has been made. -/
theorem State.noteSwap_made (hmade : (s.noteSwap c x).swapIfFree.dev.upd.swap = none) : (s.noteSwap c x).swapIfFree = (s.noteSwap c x).swapIn c x := by
  rw [State.swapIfFree_eq (s.noteSwap_swap c x)] at hmade ⊢
  split at hmade
  · next hfree => exact if_pos hfree
  · rw [State.noteSwap_swap] at hmade
    cases hmade

end

/-- An activation made at once, after which the Bridle runs on, replies OK (R611, R680). -/
theorem exec_activateMade {s u : State} {r : CmdReq} (h : Accepts s 0x0804 r) (haccepted : (taken s 0x0804 r).updActivate (par r.params 0 1 == 1) = (u, none))
    (hswap : u.dev.upd.swap = none) (hstate : u.dev.get R.BRIDLE_STATUS_STATE = 1) (hrestart : u.dev.bridle.restart = false) :
    exec (.updateActivate r) s = .next (answered u 0x0804 r 0 0 []) := by
  have hsame : SameTasks (taken s 0x0804 r).dev u.dev := by
    rw [State.updActivate_accepted haccepted, State.activationNoted] at hswap hstate hrestart ⊢
    rw [State.noteSwap_made _ _ _ hswap] at hstate hrestart ⊢
    exact (SameTasks.of_bridle ((State.activationChecks_frame _).2.work.trans (State.noteSwap_work ..)).bridle).trans (.swapIn _ _ _ hstate hrestart)
  have hrun : (taken s 0x0804 r).runCmd 0x0804 r = (u, okReply) := by
    rw [runCmd_activateAccepted haccepted, hswap, hstate]
    rfl
  exact congrArg Host.Outcome.next (State.takeCmd_done h hrun hsame)

/-- Settles O51: ownership by `ownerBecomes_takeOwner`, the session by the equations of its rows, an activation by whether its swap is made
(`State.noteSwap_waits`, `SameTasks.swapIn`). -/
theorem commandOwnershipAndUpdate : Obligations.CommandOwnershipAndUpdate := by
  unfold Obligations.CommandOwnershipAndUpdate
  obtain ⟨hclaim, hrelease, hhandover⟩ := ownership_commands
  refine ⟨hclaim, hrelease, hhandover, fun r s h => ⟨exec_keepAlive h, taken_lapse⟩, fun r s h => exec_setOwnerTimeout h, fun r s h => exec_updateBegin h,
    fun r x s h hx => ?_, fun r x s h hx => ?_, fun r s h hnone => exec_activateNothing h ?_, fun r u st det s h hrefused => exec_activateRefused h hrefused,
    fun r u s h hwaits haccepted => exec_activateWaits h hwaits haccepted,
    fun r u s h haccepted hswap hstate hrestart => exec_activateMade h haccepted hswap hstate hrestart, fun r s h => exec_updateAbort h,
    fun r s h => exec_updateStatus h⟩
  · have heffect := State.updData_effect (taken s 0x0802 r) x (r.params.drop 4)
    rw [taken_upd] at heffect
    obtain ⟨hmem, hpending⟩ := State.updData_mem (taken s 0x0802 r) x (r.params.drop 4)
    exact ⟨_, _, _, exec_updateData h hx, hmem, hpending, heffect⟩
  · obtain ⟨hshort, hpay, hman, hsec, hfloor, hdone⟩ := State.updVerify_effect (taken s 0x0803 r) x
    rw [taken_upd] at hman hsec hfloor hdone
    rw [taken_get] at hfloor hdone
    exact ⟨_, _, _, exec_updateVerify h hx, State.updVerify_mem .., hshort, hpay, hman, hsec, hfloor,
      fun h1 h2 h3 h4 _ h5 => hdone h1 h2 h3 h4 h5⟩
  · unfold Dev.mayActivate
    by_cases hstored : par r.params 0 1 = 1
    · rw [if_pos hstored] at hnone
      rw [if_pos (beq_iff_eq.mpr hstored)]
      rcases hnone with hjournal | hrecovery
      · simp [hjournal]
      · simp [hrecovery]
    · rw [if_neg hstored] at hnone
      rw [if_neg (by simpa using hstored), Option.any_eq_false]
      exact hnone

end Sys2Proof.Machine
end
